-- ==== Sys2Proof/Word.lean ====
section
/-! DEFINITION. The word types of the Igolone D16 and the numbered resources of R11: every identifier that a command
can carry is a `Fin` of the count the manual gives. -/

namespace Sys2Proof

/-- A byte of DRAM, SRAM or a register window. -/
abbrev Byte := BitVec 8

/-- A register, a clasp word or a shading-hart word. -/
abbrev Word := BitVec 32
/-- A guest, which is also its PCIe function and its BAR2 port (R21). -/
abbrev Func := Fin 64
/-- A client, numbered device-wide (R11). -/
abbrev Client := Fin 4096
/-- A scan-out head H0–H15. -/
abbrev Head := Fin 16
/-- A facet F0–F7 of a head. -/
abbrev Facet := Fin 8
/-- An output port: 0–7 DP, 8–11 DSI, 12–15 LVDS (R225). -/
abbrev Port := Fin 16
/-- A camera receiver CSI0–CSI7. -/
abbrev Receiver := Fin 8
/-- A touch panel, which is also its engine T0–T3. -/
abbrev Panel := Fin 4
/-- A haptic channel HP0–HP15. -/
abbrev Hap := Fin 16
/-- A raster core RC0–RC15. -/
abbrev RCore := Fin 16
/-- A shading hart of a raster core. -/
abbrev Hart := Fin 4
/-- A memory channel CH0–CH7. -/
abbrev Chan := Fin 8
/-- A power domain PD0–PD15. -/
abbrev Domain := Fin 16
/-- A clock island, numbered in the order of R14. -/
abbrev Island := Fin 22
/-- A clock-domain crossing, by its ID of the crossing table. -/
abbrev Xing := Fin 38
/-- A monitored rail: 0 VDD_CORE, 1 VDD_SRAM, 2 VDDQ, 3 VDD_IO. -/
abbrev Rail := Fin 4
/-- A temperature sensor TS0–TS11. -/
abbrev Sensor := Fin 12
/-- An audio rate domain: 0 A, 1 B, 2 V. -/
abbrev ADomain := Fin 3
/-- A TDM port TDM0–TDM5. -/
abbrev Tdm := Fin 6
/-- An ASRC channel. -/
abbrev Asrc := Fin 16
/-- An output bus B0–B31. -/
abbrev Bus := Fin 32
/-- A host stream channel. -/
abbrev Stream := Fin 32
/-- A CAN FD controller CANFD0 or CANFD1. -/
abbrev Can := Fin 2
/-- A control core CC0–CC3. -/
abbrev CCore := Fin 4
/-- A check-value unit CV0–CV31. -/
abbrev CvUnit := Fin 32

end Sys2Proof
end

