-- ==== Sys2Proof/Syntax.lean ====
section
/-! DEFINITION. The commands of the block, one constructor for each row of spec/opcode_table.json, in the table's order.
The table gives its rows no bits and no operands: an operand here is what the row's rules make the command depend on
(who sends it, which resource it names, the value it carries, what the outside world answers). -/

namespace Sys2Proof

/-- Who makes a dictionary access (R76). `bar2 f none` uses the function's own class, `bar2 f (some c)` the charm of
client `c` (USE_CLIENT = 1); `image` is the image loader, which stages with the rights of the I class (R89). -/
inductive Requester where
  | field
  | bar2 (f : Func) (asClient : Option Client)
  | trusted
  | image
  deriving DecidableEq, Repr

/-- The field-network path of an SDO or USDO (R76). -/
inductive SdoPath where
  | coe
  | can (n : Can)
  deriving DecidableEq, Repr

/-- The internal clasps (R63). -/
inductive Icl where
  | as0 | as1
  | touch (p : Panel)
  | hap
  deriving DecidableEq, Repr

/-- A level-1 to level-3 arbiter of R46. -/
inductive Arbiter where
  | clients (ch : Chan) (g : Func)
  | guests (ch : Chan) (cls : Fin 4)
  | classes (ch : Chan)
  deriving DecidableEq, Repr

/-- A requester of DRAM bandwidth (R44), or the locket, whose accesses R368 restricts, or the patrol scrub (R359). -/
inductive Leaf where
  | client (c : Client)
  | host (g : Func)
  | head (h : Head)
  | camera (r : Receiver)
  | audio (n : Fin 2)
  | touch
  | firmware
  | locket
  | scrub
  deriving DecidableEq, Repr

/-- How an EtherCAT datagram addresses the SubDevice (R96): by position, by its station address, as a broadcast, or through the
logical address space. -/
inductive EscAddr where
  | position (pos off : Nat)
  | station (addr off : Nat)
  | broadcast (off : Nat)
  | logical (addr : Nat)
  deriving DecidableEq, Repr

/-- A datagram of the EtherCAT master: what it reads, if it reads, and what it writes, if it writes; one that does both is LRW. -/
structure Datagram where
  addr : EscAddr
  read : Option Nat
  write : Option (List Byte)
  deriving DecidableEq, Repr

/-- The target of a plain register write (R7): a BAR2 register, a clasp configuration register, a dictionary entry, or an entry of a
guest's page table, which open-world firmware writes (R32). -/
inductive RegTarget where
  | bar2 (f : Func) (off : Nat) (bytes : List (Option Byte))
  | clasp (f : Func) (c : Client) (off : Nat) (bytes : List (Option Byte))
  | dict (who : Requester) (idx sub : Nat) (bytes : List Byte)
  | pte (g : Func) (page : Fin 262144) (v : BitVec 64)
  | esc (d : Datagram)
  deriving DecidableEq, Repr

/-- An EtherCAT state request of the AL control register (R98); other codes are requests R99 refuses. -/
inductive AlState where
  | init | preop | safeop | op | boot
  | other (code : Nat)
  deriving DecidableEq, Repr

/-- How a hart reaches memory (R116): it loads 1, 2 or 4 bytes, or stores those of a value. -/
inductive HartAccess where
  | load (size : Fin 3)
  | store (size : Fin 3) (v : Word)
  deriving DecidableEq, Repr

/-- What a hart meets that R141 may make a fault of: an access to an address, an instruction word at its pc, or an error response of
memory, on a hart's access or on a resolve, flush or reload. -/
inductive FaultCause where
  | access (core : RCore) (h : Hart) (pc addr : Word) (a : HartAccess)
  | word (core : RCore) (h : Hart) (pc w : Word)
  | hartError (core : RCore) (h : Hart) (pc addr : Word)
  | tileError (core : RCore) (slot : Fin 4)
  deriving DecidableEq, Repr

/-- A code of the JTAG instruction register is 5 bits; a data register is shifted as a number. -/
abbrev JtagShift := Nat

/-- An engine kind of a client context: render or compute. -/
inductive CtxKind where
  | render | compute
  deriving DecidableEq, Repr

/-- What a DRAM request is made for, beyond its leaf: a client's render or compute context (R37, R360), a facet or the cameo layer
that a head fetches (R245, R360), a table walk of the tenant MMU for an access of its leaf, of which `n` bytes wait (R343, R360), or a
core, CC0 to CC3 or TC (4), whose gate code or whose own world reads or writes data or fetches instructions (R370, R372). -/
inductive DramWhy where
  | plain
  | ctx (kind : CtxKind)
  | facet (f : Facet)
  | cameo
  | walk (kind : Option CtxKind) (n : Nat)
  | core (k : Fin 5) (gate fetch : Bool)
  deriving DecidableEq, Repr

/-- A level-1 queue's DRAM request: its data is what a write stores. -/
structure DramReq where
  leaf : Leaf
  addr : Nat
  len : Nat
  why : DramWhy := .plain
  deriving DecidableEq, Repr

/-- What the checks of R359 find at a column command: nothing, a single- or double-bit error of inline or link ECC, or a
parity error of the controller's internal path. -/
inductive DramErr where
  | none | single | double | linkSingle | linkDouble | parity
  deriving DecidableEq, Repr

/-- A wake source, a row of R422 (rows 1 to 6). -/
abbrev WakeRow := Fin 7

/-- A side of a crossing: false is the side named first. -/
abbrev XSide := Bool

/-- What happens at a flag crossing: its source has an event, after which its level is `v`, or sees the acknowledge of the event sent
last (R400, R401). -/
inductive FlagStep where
  | event (v : Nat)
  | acknowledged
  deriving DecidableEq, Repr

/-- What a transaction names behind a crossing: an address of its own, or a resource that R368 or R378 keeps for the trusted world: the
ownership table, the hand-over sequencer, the first-boot measurement, the presentation, cell and region registers of a head's check-value
unit or of its cameo fetch, the write port of ALARM_ACK, or an assignable block. -/
inductive BeatDest where
  | address
  | ownership | sequencer | measurement
  | content (h : Head)
  | cameo (h : Head)
  | alarmAck
  | block (b : Fin 51)
  deriving DecidableEq, Repr

/-- A configuration register of a function: a base address register, one of the VF set in the physical function's SR-IOV capability,
NumVFs, or any other by its byte offset. -/
inductive CfgReg where
  | bar (n : Fin 6)
  | vfBar (n : Fin 6)
  | numVfs
  | other (offset : Nat)
  deriving DecidableEq, Repr

/-- A PCIe configuration request: a read of a register or a write of a value. -/
structure CfgReq where
  write : Bool
  reg : CfgReg
  value : Word
  deriving DecidableEq, Repr

/-- A power or clock request of open-world firmware (R381, R424). -/
inductive PowerReq where
  | switchOff (d : Domain)
  | switchOn (d : Domain)
  | gateClock (block : Nat) (stop : Bool)
  | gateIsland (i : Island) (stop : Bool)
  | ceiling (i : Island) (mhz : Nat)
  deriving DecidableEq, Repr

/-- The target of a debug halt request (R391). -/
inductive HaltTarget where
  | control (c : CCore)
  | trustedCore
  | shading (core : RCore) (h : Hart)
  deriving DecidableEq, Repr

/-- An end of deep sleep (R426). -/
inductive SleepExit where
  | wakeN | perstN | fieldAccess | touchdown
  deriving DecidableEq, Repr

/-- What a margin epoch measures (R437): the margin M, in 0.1 %, of each island at its ceiling for the targets factory, factory
+ 10 mV … factory + 50 mV; the margins of an island for its ceiling lowered by 25 MHz, 50 MHz, … at the target then reached; the DRAM
offsets and the touch references; and TS11. -/
structure EpochMeas where
  margin : List (List Nat)
  lowered : List (List Nat)
  dram : List Nat
  touch : List Nat
  deriving DecidableEq, Repr

/-- What ends the braking of a haptic channel (R301): STOP_THRESHOLD, BRAKE_LIMIT, or two drive cycles while ACC_LOST is set. -/
inductive BrakeEnd where
  | belowThreshold | limit | cycles
  deriving DecidableEq, Repr

/-- What a line found missing in its line buffers (R211): the first pixel without data, the facets whose data was missing,
and whether cameo data was missing. -/
structure Missing where
  col : Nat
  facets : List Facet
  cameo : Bool
  deriving DecidableEq, Repr

/-- A presentation of the trusted world (R247). For each layer `none` is unchanged, `some none` transparent and
`some (some a)` the buffer at locket-memory offset `a`. `fence` is a trusted context with a fence value. `regions` are the
eight region records; `payloads` the cell payload table entries by cell and image number. -/
structure Presentation where
  c0 : Option (Option Nat)
  c1 : Option (Option Nat)
  fence : Option (Nat × Nat)
  regions : Option (List (BitVec 128))
  payloads : List (Nat × Nat × Word)
  fromFrame : Word
  deriving DecidableEq, Repr

/-- The commands of the block (spec/opcode_table.json), in the table's order. -/
inductive Instr where
  -- Guests, clients and charms (R21–R47, R477)
  | pcieConfigRequest (f : Func) (req : CfgReq)
  | numvfsWrite (n : Nat)
  | functionLevelReset (f : Func)
  | carveOutZeroed (f : Func)
  | bar4Read (f : Func) (off len : Nat)
  | bar4Write (f : Func) (off : Nat) (bytes : List (Option Byte))
  | violationLogged
  | violationRingClear (who : Requester) (v : Byte)
  | charmsWrite (who : Requester) (g : Func) (off : Nat) (bytes : List Byte)
  | resetClient (who : Requester) (g : Func) (v : BitVec 16)
  | clientResetDone (g : Func)
  | arbiterDecision (a : Arbiter)
  | budgetWindowEnd (ch : Chan)
  -- Clasp channels and doorbells (R48–R70)
  | claspGo (f : Func) (c : Client)
  | claspWrite (f : Func) (c : Client) (off : Nat) (bytes : List (Option Byte))
  | stage1Refusal (c : Client)
  | claspTake
  | claspComplete (c : Client)
  | msixUnmask (f : Func) (v : Fin 64)
  | resultHeaderRead (f : Func) (c : Client) (off : Nat) (enabled : List Bool)
  | discardsRead (f : Func) (c : Client)
  | eventClear (f : Func) (c : Client) (bits : BitVec 16)
  | claspModeWrite (f : Func) (c : Client) (w : Word)
  | dqPush (f : Func) (c : Client) (w : Word)
  | dqPop (f : Func) (c : Client)
  | delbelResponse (c : Client)
  | nop (c : Client)
  | identify (c : Client)
  | echo (c : Client)
  | internalClaspGo (k : Icl) (words : List Word)
  | internalClaspTake (k : Icl)
  | dictPortRead (f : Func)
  | dictPortWrite (f : Func)
  | dictPortDone (f : Func)
  | portDiscardsRead (f : Func) (off : Nat) (enabled : List Bool)
  -- The object dictionary (R71–R93, R476, R478)
  | registerWrite (t : RegTarget)
  | sdoDownload (p : SdoPath) (idx sub : Nat) (bytes : List Byte)
  | sdoUpload (p : SdoPath) (idx sub : Nat)
  | commit (who : Requester)
  | checkOnly (who : Requester)
  | discard (who : Requester)
  | commitStart
  | commitChecksEnd
  | entryTakesEffect (idx sub : Nat)
  | commitDone
  | storeAll (who : Requester)
  | storeComm (who : Requester)
  | storeApp (who : Requester)
  | restoreAll (who : Requester)
  | restoreComm (who : Requester)
  | restoreApp (who : Requester)
  | storeDone
  | imageWrite (who : Requester) (off : Nat) (bytes : List Byte)
  | imageCheck (who : Requester)
  | imageCommit (who : Requester)
  | imageCommitStore (who : Requester)
  | imageActionEnd
  | errorHistoryClear (who : Requester)
  -- Fieldbus attachment (R94–R114, R479)
  | alStateRequest (st : AlState)
  | alStateConfirm
  | sm2WatchdogExpiry
  | escResetSequence (b0 b1 b2 : Byte)
  | miiLinkChange (port : Fin 2) (up : Bool)
  | sync0 (t : Nat)
  | sm2BufferComplete (bytes : List Byte)
  | freeRunOutputTake
  | alarmTimeout
  | sync0Stamp (t : Nat)
  | nmtStart (n : Can)
  | nmtStop (n : Can)
  | nmtEnterPreop (n : Can)
  | nmtResetNode (n : Can)
  | nmtResetComm (n : Can)
  | heartbeat (n : Can)
  | canSync (n : Can)
  | rpdoReceive (n : Can) (r : Fin 2) (bytes : List Byte)
  | tpdoTransmit (n : Can) (t : Fin 8) (timer : Bool)
  | canBusOffRecovered (n : Can)
  | canErrorPassive (n : Can)
  | canOverrun (n : Can)
  | emcySend
  | foeWriteDict (known : Bool) (pw : Nat) (bytes : List Byte)
  | foeReadStored (known : Bool) (pw : Nat)
  | foeReadHallmark (pw : Nat)
  | foeWriteOpenImage (pw : Nat) (bytes : List Byte)
  | foeWriteTrustedImage (pw : Nat) (bytes : List Byte)
  | foeBusy
  | firmwareVerified
  -- Raster cores and render contexts (R115–R165)
  | ctxCreate (c : Client)
  | ctxDestroy (c : Client)
  | submit (c : Client)
  | query (c : Client)
  | cctxCreate (c : Client)
  | cctxDestroy (c : Client)
  | dispatch (c : Client)
  | cquery (c : Client)
  | contextRemoved (k : Nat) (kind : CtxKind)
  | corePickUnit (core : RCore)
  | binningEnd (k : Nat)
  | partialStart (k : Nat)
  | partialDone (k : Nat)
  | tileDispatch (k : Nat) (core : RCore)
  | tileReload (core : RCore) (tile : Nat)
  | tilePassEnd (core : RCore) (tile : Nat)
  | flushAcknowledged (k : Nat) (tile : Nat)
  | renderDone (k : Nat)
  | fenceSignal (k : Nat) (kind : CtxKind)
  | pxLd (core : RCore) (h : Hart) (w : Word)
  | pxSt (core : RCore) (h : Hart) (w : Word)
  | pxRel (core : RCore) (h : Hart) (w : Word)
  | pxKill (core : RCore) (h : Hart) (w : Word)
  | pixelInterlockGrant (core : RCore) (h : Hart) (cycles : Word)
  | hartEcall (core : RCore) (h : Hart)
  | ebreak (core : RCore) (h : Hart) (pc : Word)
  | ctxFault (why : FaultCause)
  | tileEccError (core : RCore) (slot : Fin 4) (double : Bool)
  | quadDrained (q : Fin 4)
  | workgroupEnd (core : RCore)
  | workgroupYield (core : RCore)
  | wgSaved (core : RCore)
  | workgroupRestored (core : RCore)
  | tileOverrun (core : RCore)
  | governorEvaluate (h : Head) (latch : Nat)
  -- Facets and composition (R166–R198, R475)
  | flip (c : Client)
  | flipGroup (c : Client)
  | motion (c : Client)
  | release (c : Client)
  | flipStatus (c : Client)
  | directAddrWrite (who : Requester) (h : Head) (f : Facet) (sub : Fin 3) (bytes : List Byte)
  | wbStart (c : Client)
  | wbStop (c : Client)
  | wbFrame (h : Head)
  -- Scan-out heads (R199–R224)
  | headLineStart (h : Head) (late : Option Missing) (wbFull : Bool)
  | lineFetchComplete (h : Head)
  | headLatch (h : Head)
  | headFrame (h : Head)
  | headVblank (h : Head)
  | teEdge (pin : Fin 4) (falling : Bool)
  | teTimeout (h : Head)
  | timingChangeImmediate (h : Head)
  | timingChangeClean (h : Head)
  | headEnable (h : Head)
  | headDisable (h : Head)
  | routeChange (h : Head)
  | lockStampTimeout (h : Head)
  -- Display outputs and camera inputs (R225–R242)
  | portBringupStart (p : Port)
  | hpdStable (p : Port)
  | portReady (p : Port)
  | portLinkFail (p : Port)
  | portRetry (p : Port)
  | hpdLow (p : Port)
  | irqHpd (p : Port) (lost : Bool)
  | linkStatusPoll (p : Port) (lost : Bool)
  | csiFrameStart (r : Receiver) (vc num : Nat) (hdr : Fin 3)
  | csiLinePacket (r : Receiver) (vc dt : Nat) (bytes : List Byte) (crcOk : Bool) (hdr : Fin 3)
  | csiFrameEnd (r : Receiver) (vc num : Nat) (hdr : Fin 3)
  | csiPacketGap (r : Receiver)
  | camOpen (c : Client)
  | camClose (c : Client)
  | camAttach (c : Client)
  | camDetach (c : Client)
  | camQuery (c : Client)
  | camLossTimeout (r : Receiver)
  -- Cameo layers and content checking (R243–R267)
  | presentation (h : Head) (p : Presentation)
  | ackHoldReached (p : Panel) (contact : Nat)
  | regionCompare (h : Head) (region : Nat)
  | cvAcquire (c : Client)
  | cvRun (c : Client)
  | cvRelease (c : Client)
  | cvComputationEnd (u : CvUnit)
  -- Capacitive touch engines (R268–R293)
  | touchScanStart (p : Panel)
  | touchStepEnd (p : Panel) (samples : List Int)
  | touchReport (p : Panel)
  | panelStart (p : Panel)
  | referenceTestDone (p : Panel) (results : List Nat)
  | startVerifyTimeout (p : Panel)
  | selftest (who : Requester) (p : Panel)
  | capture (who : Requester) (p : Panel)
  | captureDone (p : Panel)
  | touchBacklogDelivery (p : Panel)
  | touchSubscribe (c : Client)
  | touchUnsubscribe (c : Client)
  | touchQuery (c : Client)
  | touchIclApply (p : Panel)
  | touchIclSelftest (p : Panel)
  | touchIclCapture (p : Panel)
  | touchIclSubscribe (p : Panel)
  | touchIclUnsubscribe (p : Panel)
  | tafeSupplyLow
  -- Haptic channels (R294–R312)
  | hapticTrigger (c : Client)
  | hapticStop (c : Client)
  | hapticQuery (c : Client)
  | hapIclTrigger
  | hapIclCalibrate
  | hapIclStop
  | hapIclApply
  | calibrate (who : Requester) (n : Hap)
  | calibrationEnd (n : Hap) (results : List Nat)
  | attackEnd (n : Hap)
  | sustainEnd (n : Hap) (rNow : Nat)
  | brakingEnd (n : Hap) (why : BrakeEnd)
  | gapEnd (n : Hap)
  | hapOvercurrent (n : Hap)
  | accRead (n : Hap) (sample : Option Int)
  -- Audio routing, mixing and effects (R313–R340)
  | audioSampleTick (d : ADomain) (pdm : List Int)
  | busSilenceHoldExpiry (b : Bus)
  | audioApply (n : Fin 2)
  | audioIclStream (n : Fin 2)
  | tdmFrameSync (n : Tdm) (samples pdm : List Int)
  | tdmFrameMissing (n : Tdm)
  | refPhaseMatch (d : ADomain) (slip : Bool)
  | asrcLocked (k : Asrc) (ratio : Nat)
  | streamOpen (c : Client)
  | streamClose (c : Client)
  | streamQuery (c : Client)
  | streamPeriodBoundary (n : Stream)
  -- LPDDR5X memory controller (R341–R366)
  | dramReadRequest (r : DramReq)
  | dramWriteRequest (r : DramReq) (bytes : List Byte)
  | dramCommandSlot (ch : Chan) (err : DramErr) (syndrome : Nat)
  | refreshAccrual (ch : Chan) (rank : Fin 2)
  | mr4Read (ch : Chan) (rank : Fin 2) (asks : Nat) (drifted : Bool)
  | powerDownEntry (ch : Chan) (rank : Fin 2)
  | memSrEnter (ch : Chan)
  | memSrExit (ch : Chan)
  | trainDone (failed : BitVec 8)
  | scrubPass
  | memLogClear (who : Requester) (v : Byte)
  -- The locket (R367–R397)
  | trustedVersionCall (cc : CCore)
  | result (cc : CCore) (ticket : Nat)
  | ownAssign (cc : CCore) (block owner : Nat)
  | ownQuery (cc : CCore) (block : Nat)
  | camNotice (cc : CCore) (receiver mask : Nat)
  | flashWrite (cc : CCore) (region off phys len : Nat)
  | flashRead (cc : CCore) (region off phys len : Nat)
  | imageVerify (cc : CCore) (kind slot : Nat)
  | signet (cc : CCore) (nonce out : Nat)
  | cert (cc : CCore) (out len : Nat)
  | debugUnlock (cc : CCore) (addr : Nat)
  | debugLock (cc : CCore) (mask : Nat)
  | debugKey (cc : CCore) (addr : Nat)
  | lktDone
  | trustedDictRead (idx sub : Nat)
  | trustedDictWrite (idx sub : Nat) (bytes : List Byte)
  | trustedDictCommit
  | tctx (n : Nat) (create : Bool) (desc : Nat)
  | tsubmit (n : Nat) (record : Nat)
  | handoverRelease (block : Nat)
  | handoverGrant (block : Nat)
  | clockPowerRequest (req : PowerReq)
  | watchdogService
  | lktRestart
  | lktResumed
  | failedSeriesReset
  | unlockMaskWrite (who : Requester) (v : Byte)
  | unlockResponseWrite (who : Requester) (bytes : List Byte)
  | unlockVerified
  | nonceWrite (who : Requester) (bytes : List Byte)
  | signetReady
  | debugHaltRequest (t : HaltTarget)
  | jtagExtest (pins : Nat)
  | jtagIdcode
  | jtagSamplePreload (pins : Nat)
  | jtagExtestPulse (pins : Nat)
  | jtagExtestTrain (pins : Nat)
  | jtagDtmcs (shift : JtagShift)
  | jtagDmi (shift : JtagShift)
  | jtagLoupeMbox (shift : JtagShift)
  | jtagBypass (ir : BitVec 5)
  -- Clock islands and domain crossings (R398–R417)
  | linkBeat (x : Xing) (side : XSide) (v : Nat) (dest : BeatDest) (trusted accepted : Bool)
  | flagEvent (x : Xing) (side : XSide) (f : FlagStep)
  | valueWrite (x : Xing) (side : XSide) (v : Nat)
  | valueCapture (x : Xing) (side : XSide)
  | valueAcknowledge (x : Xing) (side : XSide) (write : Option Nat)
  | xingTimeout (x : Xing) (side : XSide)
  | xingClockResumed (x : Xing)
  | islandResetRequest (k : Island) (xing : Option Xing)
  | xingNotice (x : Xing) (side : XSide)
  | xingRejoin (x : Xing)
  | perstN
  | xingLogClear (who : Requester) (v : Byte)
  -- Power domains, supply supervision and hallmark ageing (R418–R443, R480)
  | domainIdleExpiry (d : Domain)
  | domainOff (d : Domain)
  | wakeEvent (d : Domain) (src : WakeRow)
  | domainOn (d : Domain)
  | deepSleep (who : Requester)
  | deepSleepExit (src : SleepExit)
  | supplyWarn (r : Rail) (samples : List Nat)
  | supplyWarningEnd (r : Rail) (mv : Nat)
  | supplyReset (r : Rail) (samples : List Nat)
  | thermalSample (temps : List Int)
  | throttleStep
  | throttleRaise
  | thermalTrip (n : Sensor) (temp : Int)
  | tedHit (k : Island)
  | hoursTick
  | hoursPersist
  | epochNow (who : Requester)
  | maintWindow (who : Requester) (n : Nat)
  | maintWindowClose
  | epochStart
  | epochDone (meas : EpochMeas)
  | avsWrite (acked : Bool)
  | supplyLogClear (who : Requester) (v : Byte)
  -- Reset, boot and the pins (R444–R474)
  | powerOnReset
  | resetN
  | bootStart
  | trialImageFail
  | canBusOff (n : Can)
  | canErrorPassiveEnd (n : Can)
  | audMclkbClockChange (on : Bool)
  | islandResetRelease (k : Island)
  | islandClockStable (k : Island)
  | deepSleepEntered
  | siiAliasWrite (addr : Nat) (v : BitVec 16)
  | jtagTapReset
  deriving DecidableEq, Repr

end Sys2Proof
end

