-- ==== Sys2Proof/Decode.lean ====
section
/-! DEFINITION. The command a word spells by the table's bits. spec/opcode_table.json gives no row any bits (every "fields"
list is empty), so no word spells a command. -/

namespace Sys2Proof

/-- The command that `w` spells in `nbits` bits: none, as the table gives no encodings. DESIGN CHOICE: log 9. DEDUCED: log 10. -/
def decodeTableWord (nbits w : Nat) : Option Instr :=
  let _ := (nbits, w)
  none

end Sys2Proof
end

