-- ==== Sys2Proof/Config.lean ====
section
/-! DEFINITION. What the manual leaves to the single device or leaves open altogether. Every constant here is opaque: it
has no body, so that nothing can be proved of its value, and a claim about it holds for every value. -/

namespace Sys2Proof.Config

/-- A free value: one word per number drawn from the counter `State.free`. The manual states no value there. -/
opaque freeNat : Nat → Nat
/-- A free byte, per number drawn from the counter `State.free`. -/
opaque freeByte : Nat → Byte
/-- SERIAL of 0x2000:04, 8 bytes from OTP, unique per device (R92). DESIGN CHOICE: log 11. -/
opaque serial : Nat → Byte
/-- ROM_VERSION of 0x2000:05, from the ROM (R92). -/
opaque romVersion : Word
/-- The version a firmware image's bytes carry; the image header's layout is not in the manual (R114, R448). -/
opaque imageVersion : List Byte → Nat
/-- LOCKET_SIZE as a trusted image's bytes set it: 128 MB and so many times 64 MB (R343); the image's layout is not in the manual.
DESIGN CHOICE: log 176. -/
opaque locketUnits : List Byte → Fin 15
/-- The bytes of the engraving with a CRC-32, which the locket measures (R388). -/
opaque engravingBytes : Nat → List Byte
/-- Whether the ECDSA P-384 signature of a firmware image's bytes verifies (R114, R448). -/
opaque imageVerifies : List Byte → Bool
/-- SHA-384 of a string of bytes: 48 bytes (R388). -/
opaque sha384 : List Byte → List Byte
/-- Whether an ECDSA P-384 signature over a message verifies under a key hash (R393). -/
opaque ecdsaVerify : (key msg sig : List Byte) → Bool
/-- The device's ECDSA P-384 signature over a message (R389). -/
opaque ecdsaSign : List Byte → List Byte
/-- The attestation certificate from the key store (R396). -/
opaque certificate : List Byte
/-- A word of the SII EEPROM that the SubDevice emulates from the boot flash, beside the station alias (R96). DESIGN CHOICE: log 203. -/
opaque siiImage : Nat → BitVec 16

/-- The tap of a phase of scaler set 0 that takes what rounding leaves, so that the phase sums to 256: the manual gives the window and the
sum (R176). DESIGN CHOICE: log 212. -/
opaque scalerResidueTap : (horizontal : Bool) → (phase : Nat) → Nat
/-- What the ignored byte of an XRGB8888 pixel is written with at a resolve (R138 gives it no value). -/
opaque xrgbPad : Nat → Byte
/-- The 8-bit code that write-back stores for a 12-bit channel code: the manual states no reduction (R197). -/
opaque wbReduce : Nat → Byte
/-- The entry that ordered dithering adds for `d` dropped bits at a column and line modulo 4: the manual names a Bayer
matrix and gives neither its entries' places nor the scaling's rounding (R230). -/
opaque bayer : (d col line : Nat) → Nat
/-- What a DSC 1.2a encoder sends for a line, given what its slice holds before (`seed`): the manual names the encoder and takes its algorithm from elsewhere (R225, R230).
DESIGN CHOICE: log 216. -/
opaque dscEncode : (seed bpp slices sliceHeight line : Nat) → (pixels : List Nat) → List Nat
/-- Whether pixel rows count with the clip position's Y, or against it: the manual gives the viewport transform no direction (R118).
DESIGN CHOICE: log 204. -/
opaque viewportDown : Bool
/-- Whether a triangle whose vertices turn clockwise on the screen faces the front (R121, R125). DESIGN CHOICE: log 204. -/
opaque frontClockwise : Bool
/-- What clipping leaves of a primitive that is not wholly before the eye and within the guard band: its type and the clip positions of
its vertices give pieces, each vertex with its place on the screen in 1/256 pixel, its depth, and the vertex whose attribute block it
keeps (R118). DESIGN CHOICE: log 204. -/
opaque clipped : (type : Nat) → (pos : List (List Nat)) → (width height : Nat) →
  List (List (BitVec 24 × BitVec 24 × Word × Fin 3))
/-- Whether the widened outline of a line or point overlaps a rectangle, all in 1/256 pixel (R118). DESIGN CHOICE: log 205. -/
opaque outlineHits : (type : Nat) → (pos : List (Int × Int)) → (x0 y0 x1 y1 : Int) → Bool
/-- Whether a sample of a pixel is within the widened outline of a line or point. DESIGN CHOICE: log 205. -/
opaque outlineCovers : (type : Nat) → (pos : List (Int × Int)) → (x y : Int) → Bool
/-- The barycentric weight of vertex 1 of a line at a pixel's centre, as binary32. DESIGN CHOICE: log 205. -/
opaque lineWeight : (pos : List (Int × Int)) → (x y : Int) → Word
/-- The interpolated depth of a line at a pixel's centre, as binary32. DESIGN CHOICE: log 205. -/
opaque lineDepth : (pos : List (Int × Int)) → (z : List Nat) → (x y : Int) → Word
/-- The place of one of four samples within a pixel, in 1/256 pixel (R126). DESIGN CHOICE: log 205. -/
opaque samplePos : Fin 4 → BitVec 8 × BitVec 8
/-- Whether a sample exactly on a triangle's edge of this direction is covered (R117). DESIGN CHOICE: log 205. -/
opaque edgeOwns : (dx dy : Int) → Bool
/-- The 16 KB of a hart in a save area: the manual lists what they hold and gives no layout (R161). DESIGN CHOICE: log 206. -/
opaque saveImage : (x f v : List (Nat × Nat)) → (csrs : List Nat) → (scratch : List (Nat × Byte)) → Nat → Byte
/-- What a restore reads from 16 KB that are not what a save wrote (R161). DESIGN CHOICE: log 206. -/
opaque loadImage : List Byte → List (Nat × Nat) × List (Nat × Nat) × List (Nat × Nat) × List Nat × List (Nat × Byte)
/-- LEN of a solid FTC tile as raster cores write it, less one: R168 wants 1–256 and gives no value. -/
opaque solidLen : Nat → Fin 256
/-- A field of an entry of the effect ROM that the manual's table does not list: 0 ATTACK_CYCLES, 1 SUSTAIN_CYCLES,
2 SUSTAIN_LEVEL, 3 FREQ_REL, 4 TRACK, 5 GAP_MS (R296). DESIGN CHOICE: log 97. -/
opaque effectRom : (effect field : Nat) → Nat
/-- The linear gain of a level in 0.1 dB, units of 2⁻³⁰, other than of 0 dB (R321). -/
opaque dbGain : Int → Nat
/-- sin(πn / 512) for 0 < n < 256 in units of 2⁻³⁰: the rounding of the fade curves of R327 is open. -/
opaque fadeSin : Nat → Nat
/-- sin²(πn / 512), likewise. -/
opaque fadeSinSq : Nat → Nat
/-- The gain after `n` of the 32 samples of a fade whose shape the manual does not give, units of 2⁻³⁰ (R318, R320, R333). -/
opaque fade32 : Nat → Nat
/-- What becomes of an audio value outside its number format, where the manual does not say that it saturates (R313). -/
opaque audioOverflow : Int → Nat
/-- The compressor's detector after a sample: threshold, ratio, attack, release and makeup, the detector before, and the
sample (R322 gives no formula). -/
opaque compDetector : List Int → (before : Nat) → (sample : Int) → Nat
/-- The compressor's output sample. -/
opaque compOutput : List Int → (detector : Nat) → (sample : Int) → Nat
/-- TOUCH_REF of the factory hallmark record in OTP, by device channel (R439, R440). -/
opaque factoryTouchRef : Nat → Nat
/-- The lowest margin M of the factory hallmark record, in 0.1 % (R439). -/
opaque factoryMargin : (island : Nat) → Fin 256
/-- DRAM offsets of the factory hallmark record, by channel × 8 + lane (R439). -/
opaque factoryDram : Nat → Byte
/-- TEMP of the factory hallmark record (R439). -/
opaque factoryTemp : BitVec 16
/-- The hash of Knaush's debug key in OTP (R387). -/
opaque knaushKey : List Byte
/-- Where system SRAM, locket SRAM and the boot ROM lie on the bus: the manual gives them no addresses (R13, R368).
DESIGN CHOICE: log 222. -/
opaque sramBase : Nat
opaque locketSramBase : Nat
opaque romBase : Nat
/-- A byte of system SRAM, or of locket SRAM, that nothing in the model has written: firmware's own. DESIGN CHOICE: log 222. -/
opaque sramByte : Nat → Byte
opaque locketSramByte : Nat → Byte
/-- The bytes of the boot ROM, which the locket measures (R388). -/
opaque romBytes : List Byte
/-- Knaush's JEP106 manufacturer code in IDCODE (R390). -/
opaque jep106 : BitVec 11
/-- The window of four activates and the least time between two activates of a rank, in ns: JESD209-5C's tFAW and tRRD, whose
values the manual does not give (R350). PRESUMED: log 140. -/
opaque tFaw : Nat
opaque tRrd : Nat
/-- Where the manual gives a quotient no rounding, whether this quotient is rounded up; never asked of an exact one. -/
opaque roundsUp : (num den : Int) → Bool

end Sys2Proof.Config
end

