-- ==== Sys2Proof/Machine/Bits.lean ====
section
/-! DEFINITION. Bit fields, byte order and number formats. Multi-byte values are little-endian everywhere (R6); a
bit field is written [high:low] (R5's notation), read here by its low bit and its width. -/

namespace Sys2Proof.Machine

/-- `x` put before the first element that `le` does not place before it. -/
def insertBy (le : α → α → Bool) (x : α) : List α → List α
  | [] => [x]
  | y :: l => if le x y then x :: y :: l else y :: insertBy le x l

/-- A list in rising order; elements `le` holds equal keep their order. -/
def sortBy (le : α → α → Bool) (l : List α) : List α := l.foldr (insertBy le) []

/-- The field of `n` bits of `v` that starts at bit `lo`. -/
def fld (v lo n : Nat) : Nat := v / 2 ^ lo % 2 ^ n

/-- Bit `i` of `v`. -/
def bitOf (v i : Nat) : Bool := v / 2 ^ i % 2 == 1

/-- `v` with its field of `n` bits at bit `lo` set to `x`. -/
def setFld (v lo n x : Nat) : Nat := v - fld v lo n * 2 ^ lo + x % 2 ^ n * 2 ^ lo

/-- `v` with bit `i` set to `b`. -/
def setBit (v i : Nat) (b : Bool) : Nat := setFld v i 1 (if b then 1 else 0)

/-- 1 for true, 0 for false. -/
def b2n (b : Bool) : Nat := if b then 1 else 0

/-- The number that bytes spell, the lowest address first (R6). -/
def leVal : List Byte → Nat
  | [] => 0
  | b :: bs => b.toNat + 256 * leVal bs

/-- The low `n` bytes of `v`, the lowest address first (R6). -/
def leBytes : Nat → Nat → List Byte
  | 0, _ => []
  | n + 1, v => BitVec.ofNat 8 v :: leBytes n (v / 256)

/-- The value of `n` two's-complement bits. -/
def toInt (n v : Nat) : Int :=
  let w := v % 2 ^ n
  if w < 2 ^ (n - 1) then (w : Int) else (w : Int) - (2 ^ n : Nat)

/-- The `n` two's-complement bits of an integer. -/
def ofInt (n : Nat) (i : Int) : Nat := (i % ((2 ^ n : Nat) : Int)).toNat

/-- `x` held within `lo` and `hi`. -/
def clampI (lo hi x : Int) : Int := if x < lo then lo else if hi < x then hi else x

/-- Quotient rounded up; `0` when the divisor is 0. -/
def ceilDiv (a b : Nat) : Nat := (a + b - 1) / b

/-- An UNSIGNED32 counter one higher, saturating (R74). -/
def satInc (v n : Nat) : Nat := min (v + n) 0xFFFFFFFF

/-- Elements `lo`, `lo + 1`, … below `lo + n`. -/
def rangeFrom (lo n : Nat) : List Nat := (List.range n).map (· + lo)

/-- The bit numbers below `n` that are set in `v`. -/
def bitsOf (n v : Nat) : List Nat := (List.range n).filter (bitOf v)

/-- How many of the low `n` bits of `v` are set. -/
def popCount (n v : Nat) : Nat := (bitsOf n v).length

/-- The mask with exactly the listed bits set. -/
def maskOf (l : List Nat) : Nat := l.foldl (fun a i => if bitOf a i then a else a + 2 ^ i) 0

/-- Bytes `off` to `off + n - 1` of a list of bytes. -/
def slice {α : Type} (l : List α) (off n : Nat) : List α := (l.drop off).take n

/-- `l` with the bytes from `off` overwritten by `bs`; it grows when they reach past its end. -/
def overwrite {α : Type} (l : List α) (off : Nat) (bs : List α) : List α :=
  l.take off ++ bs ++ l.drop (off + bs.length)

/-- The element at `i`, or `d` past the end. -/
def at0 {α : Type} (d : α) (l : List α) (i : Nat) : α := (l[i]?).getD d

/-- `l` with element `i` replaced; unchanged past the end. -/
def setAt {α : Type} (l : List α) (i : Nat) (x : α) : List α := l.set i x

/-- The 32-bit words of a list of bytes. -/
def wordsOf (bs : List Byte) : Nat → List Nat
  | 0 => []
  | n + 1 => leVal (bs.take 4) :: wordsOf (bs.drop 4) n

/-- One byte of a CRC register step, most significant bit first, of width `w` and polynomial `poly`. -/
def crcBitsMsb (w poly : Nat) : Nat → Nat → Nat
  | 0, r => r
  | n + 1, r =>
    let r2 := r * 2 % 2 ^ w
    crcBitsMsb w poly n (if bitOf r (w - 1) then Nat.xor r2 poly else r2)

/-- CRC-16-CCITT: polynomial 0x1021, initial value 0xFFFF, no reflection, no final XOR (R108). -/
def crc16 (bs : List Byte) : Nat :=
  bs.foldl (fun r b => crcBitsMsb 16 0x1021 8 (Nat.xor r (b.toNat * 256))) 0xFFFF

/-- One byte of a reflected CRC register step. -/
def crcBitsLsb (poly : Nat) : Nat → Nat → Nat
  | 0, r => r
  | n + 1, r => crcBitsLsb poly n (if bitOf r 0 then Nat.xor (r / 2) poly else r / 2)

/-- The register of a reflected 32-bit CRC after `bs`, from the register `r`. -/
def crc32Fold (poly r : Nat) (bs : List Byte) : Nat :=
  bs.foldl (fun r b => crcBitsLsb poly 8 (Nat.xor r b.toNat)) r

/-- CRC-32 of IEEE 802.3 (R12). -/
def crc32 (bs : List Byte) : Nat := Nat.xor (crc32Fold 0xEDB88320 0xFFFFFFFF bs) 0xFFFFFFFF

/-- CRC-32C (R12). -/
def crc32c (bs : List Byte) : Nat := Nat.xor (crc32Fold 0x82F63B78 0xFFFFFFFF bs) 0xFFFFFFFF

end Sys2Proof.Machine
end

