-- ==== Sys2Proof/Machine/Tbl.lean ====
section
/-! DEFINITION. A sparse table in one canonical form: keys strictly rising, and no entry equal to what an unlisted key
reads as. The state holds memory, the dictionary and the sparse record stores as such tables, so that equal contents are
equal data. -/

namespace Sys2Proof.Machine

/-- A sparse table: what an unlisted key reads as is a function beside it, never a part of the data. -/
abbrev Tbl (α : Type) := List (Nat × α)

/-- What key `k` reads as. -/
def tget {α : Type} (d : Nat → α) : Tbl α → Nat → α
  | [], k => d k
  | (a, v) :: r, k => if a = k then v else tget d r k

/-- The table without key `k`. -/
def tdel {α : Type} (t : Tbl α) (k : Nat) : Tbl α := t.filter (fun p => p.1 != k)

/-- The table with an entry put in at its place in the rising order. -/
def tins {α : Type} (k : Nat) (v : α) : Tbl α → Tbl α
  | [] => [(k, v)]
  | (a, w) :: r => if k < a then (k, v) :: (a, w) :: r else (a, w) :: tins k v r

/-- The table after writing `v` at `k`: writing what an unlisted key reads as removes the entry. -/
def tset {α : Type} [DecidableEq α] (d : Nat → α) (t : Tbl α) (k : Nat) (v : α) : Tbl α :=
  if v = d k then tdel t k else tins k v (tdel t k)

/-- Keys strictly rising. -/
def tsorted {α : Type} : Tbl α → Bool
  | [] => true
  | (_, _) :: [] => true
  | (a, _) :: (b, w) :: r => decide (a < b) && tsorted ((b, w) :: r)

/-- The canonical form: keys strictly rising and no entry at its default. -/
def twf {α : Type} [DecidableEq α] (d : Nat → α) (t : Tbl α) : Bool :=
  tsorted t && t.all (fun p => decide (p.2 ≠ d p.1))

/-- The table without the keys that `p` holds of: they read as their defaults again. -/
def tclear {α : Type} (p : Nat → Bool) (t : Tbl α) : Tbl α := t.filter (fun e => !p e.1)

end Sys2Proof.Machine
end

