-- ==== Sys2Proof/Machine/Lanczos.lean ====
section
/-! DEFINITION. The Lanczos windows of scaler set 0 (R176): per phase p the taps of sinc(x) · sinc(x / a) at x = k − p / 64, divided by
their sum and times 256, each rounded to the nearest integer. The horizontal window has a = 4 and k = −3 to 4, the vertical one a = 2 and
k = −1 to 2. -/

namespace Sys2Proof.Machine

/-- The horizontal taps of phases 0 to 15, before the rounding's remainder. -/
def lanczosH0 : List (List Int) :=
  [[0, 0, 0, 256, 0, 0, 0, 0], [0, 1, -4, 256, 4, -1, 0, 0],
   [-1, 2, -7, 256, 7, -3, 1, 0], [-1, 4, -10, 255, 11, -4, 1, 0],
   [-1, 5, -13, 254, 15, -5, 2, 0], [-2, 6, -16, 253, 20, -7, 2, 0],
   [-2, 7, -19, 252, 24, -8, 3, 0], [-2, 8, -22, 251, 28, -10, 3, 0],
   [-3, 9, -24, 249, 33, -11, 4, 0], [-3, 10, -27, 247, 38, -13, 4, 0],
   [-3, 10, -29, 245, 42, -14, 5, 0], [-3, 11, -31, 243, 47, -16, 5, 0],
   [-3, 12, -33, 240, 52, -17, 6, -1], [-4, 13, -35, 238, 57, -19, 6, -1],
   [-4, 13, -36, 235, 62, -20, 7, -1], [-4, 14, -38, 232, 67, -22, 8, -1]]

/-- The horizontal taps of phases 16 to 31, before the rounding's remainder. -/
def lanczosH1 : List (List Int) :=
  [[-4, 14, -39, 229, 72, -23, 8, -1], [-4, 15, -40, 225, 78, -25, 9, -1],
   [-4, 15, -41, 222, 83, -26, 9, -1], [-4, 15, -42, 218, 88, -28, 10, -1],
   [-4, 16, -43, 214, 94, -29, 10, -2], [-4, 16, -44, 210, 99, -31, 11, -2],
   [-4, 16, -44, 206, 105, -32, 11, -2], [-4, 16, -44, 202, 110, -33, 12, -2],
   [-4, 16, -45, 197, 115, -35, 12, -2], [-4, 16, -45, 193, 121, -36, 13, -2],
   [-4, 16, -45, 188, 126, -37, 13, -2], [-4, 16, -45, 184, 132, -38, 14, -3],
   [-4, 16, -44, 179, 137, -39, 14, -3], [-4, 16, -44, 174, 143, -40, 14, -3],
   [-3, 16, -44, 169, 148, -41, 15, -3], [-3, 16, -43, 164, 153, -42, 15, -3]]

/-- The horizontal taps of phases 32 to 47, before the rounding's remainder. -/
def lanczosH2 : List (List Int) :=
  [[-3, 15, -42, 158, 158, -42, 15, -3], [-3, 15, -42, 153, 164, -43, 16, -3],
   [-3, 15, -41, 148, 169, -44, 16, -3], [-3, 14, -40, 143, 174, -44, 16, -4],
   [-3, 14, -39, 137, 179, -44, 16, -4], [-3, 14, -38, 132, 184, -45, 16, -4],
   [-2, 13, -37, 126, 188, -45, 16, -4], [-2, 13, -36, 121, 193, -45, 16, -4],
   [-2, 12, -35, 115, 197, -45, 16, -4], [-2, 12, -33, 110, 202, -44, 16, -4],
   [-2, 11, -32, 105, 206, -44, 16, -4], [-2, 11, -31, 99, 210, -44, 16, -4],
   [-2, 10, -29, 94, 214, -43, 16, -4], [-1, 10, -28, 88, 218, -42, 15, -4],
   [-1, 9, -26, 83, 222, -41, 15, -4], [-1, 9, -25, 78, 225, -40, 15, -4]]

/-- The horizontal taps of phases 48 to 63, before the rounding's remainder. -/
def lanczosH3 : List (List Int) :=
  [[-1, 8, -23, 72, 229, -39, 14, -4], [-1, 8, -22, 67, 232, -38, 14, -4],
   [-1, 7, -20, 62, 235, -36, 13, -4], [-1, 6, -19, 57, 238, -35, 13, -4],
   [-1, 6, -17, 52, 240, -33, 12, -3], [0, 5, -16, 47, 243, -31, 11, -3],
   [0, 5, -14, 42, 245, -29, 10, -3], [0, 4, -13, 38, 247, -27, 10, -3],
   [0, 4, -11, 33, 249, -24, 9, -3], [0, 3, -10, 28, 251, -22, 8, -2],
   [0, 3, -8, 24, 252, -19, 7, -2], [0, 2, -7, 20, 253, -16, 6, -2],
   [0, 2, -5, 15, 254, -13, 5, -1], [0, 1, -4, 11, 255, -10, 4, -1],
   [0, 1, -3, 7, 256, -7, 2, -1], [0, 0, -1, 4, 256, -4, 1, 0]]

/-- The vertical taps of phases 0 to 15, before the rounding's remainder. -/
def lanczosV0 : List (List Int) :=
  [[0, 256, 0, 0], [-2, 256, 3, 0],
   [-5, 255, 5, 0], [-7, 255, 8, 0],
   [-9, 254, 11, 0], [-11, 252, 15, 0],
   [-12, 251, 18, -1], [-14, 249, 22, -1],
   [-15, 247, 25, -1], [-17, 245, 29, -1],
   [-18, 242, 33, -2], [-19, 239, 37, -2],
   [-19, 236, 42, -3], [-20, 233, 46, -3],
   [-21, 230, 50, -3], [-21, 226, 55, -4]]

/-- The vertical taps of phases 16 to 31, before the rounding's remainder. -/
def lanczosV1 : List (List Int) :=
  [[-21, 222, 60, -5], [-22, 218, 64, -5],
   [-22, 214, 69, -6], [-22, 210, 74, -6],
   [-22, 205, 79, -7], [-22, 201, 85, -8],
   [-21, 196, 90, -8], [-21, 191, 95, -9],
   [-21, 186, 100, -10], [-20, 181, 106, -11],
   [-20, 176, 111, -11], [-19, 171, 117, -12],
   [-19, 166, 122, -13], [-18, 160, 128, -14],
   [-17, 155, 133, -15], [-17, 149, 139, -15]]

/-- The vertical taps of phases 32 to 47, before the rounding's remainder. -/
def lanczosV2 : List (List Int) :=
  [[-16, 144, 144, -16], [-15, 139, 149, -17],
   [-15, 133, 155, -17], [-14, 128, 160, -18],
   [-13, 122, 166, -19], [-12, 117, 171, -19],
   [-11, 111, 176, -20], [-11, 106, 181, -20],
   [-10, 100, 186, -21], [-9, 95, 191, -21],
   [-8, 90, 196, -21], [-8, 85, 201, -22],
   [-7, 79, 205, -22], [-6, 74, 210, -22],
   [-6, 69, 214, -22], [-5, 64, 218, -22]]

/-- The vertical taps of phases 48 to 63, before the rounding's remainder. -/
def lanczosV3 : List (List Int) :=
  [[-5, 60, 222, -21], [-4, 55, 226, -21],
   [-3, 50, 230, -21], [-3, 46, 233, -20],
   [-3, 42, 236, -19], [-2, 37, 239, -19],
   [-2, 33, 242, -18], [-1, 29, 245, -17],
   [-1, 25, 247, -15], [-1, 22, 249, -14],
   [-1, 18, 251, -12], [0, 15, 252, -11],
   [0, 11, 254, -9], [0, 8, 255, -7],
   [0, 5, 255, -5], [0, 3, 256, -2]]

/-- The taps of a phase as the window gives them, each rounded to the nearest. DEDUCED: log 212. -/
def lanczosRow (horizontal : Bool) (p : Nat) : List Int :=
  let rows := fun (a b c d : List (List Int)) => at0 [] (if p < 16 then a else if p < 32 then b else if p < 48 then c else d) (p % 16)
  if horizontal then rows lanczosH0 lanczosH1 lanczosH2 lanczosH3 else rows lanczosV0 lanczosV1 lanczosV2 lanczosV3

end Sys2Proof.Machine
end

