-- ==== Sys2Proof/Machine/DictRows.lean ====
section
/-! DEFINITION. The object dictionary's entry tables (R10, R72–R74): the rows of every chapter's "Index:Sub | Name | Type
| K/I/G access | Default | Range" tables, with the lookups over them. A row covers its instances by their strides and a
run of subindexes. Ranges that depend on other entries are not decided at a write (R77) and are absent here. -/

namespace Sys2Proof.Machine

/-- The data types of R73 the tables use: an unsigned or signed number of `n` bytes, a visible string or octet string of
`n` bytes, a DOMAIN of at most (or, with `fixed`, exactly) `n` bytes. -/
inductive ETy where
  | uns (n : Nat) | int (n : Nat) | vis (n : Nat) | oct (n : Nat) | dom (max : Nat) (fixed : Bool)
  deriving DecidableEq, Repr

/-- The rights of R10. -/
inductive Right where
  | ro | wo | rw | const | none
  deriving DecidableEq, Repr

/-- A row of an entry table. `base`, `s1`, `n1`, `s2`, `n2`: the indexes `base + s1 * i + s2 * j` for `i < n1`, `j < n2`;
`sub`, `subN`: its run of subindexes. `ranges` is empty where the type is the only bound; several ranges leave gaps, which
an enumerated Range column has. -/
structure Row where
  base : Nat
  s1 : Nat
  n1 : Nat
  s2 : Nat
  n2 : Nat
  sub : Nat
  subN : Nat
  ty : ETy
  keeper : Right
  integrator : Right
  guest : Right
  dflt : Nat → Nat → Nat → Nat
  ranges : List (Int × Int)
  even : Bool
  committed : Bool

/-- "IGL-D16A-FB2601-X" (R92), the first character lowest. -/
def partNumber : Nat :=
  leVal (("IGL-D16A-FB2601-X".toList).map (fun c => BitVec.ofNat 8 c.toNat))

/-- CHANNEL_MAP's default: channels 0–23 drive lines 0–23, 24–63 sense lines 0–39, the others unused (R290). -/
def channelMapDefault : Nat :=
  leVal ((List.range 128).map (fun c =>
    BitVec.ofNat 8 (if c < 24 then c else if c < 64 then 128 + (c - 24) else 0xFF)))

/-- FREQS' default in kHz (R290). -/
def freqsDefault : Nat :=
  leVal ([110, 150, 190, 230, 270, 330, 400, 470].flatMap (leBytes 2))

/-- EQ's default: in each of the 10 bands b0 is 2³⁰ and the other coefficients 0 (R321). -/
def eqDefault : Nat :=
  leVal ((List.range 10).flatMap (fun _ => leBytes 4 (2 ^ 30) ++ leBytes 16 0))

/-- A mapping object of CiA 301: index, subindex and length in bits. -/
def mapObj (idx sub bits : Nat) : Nat := idx * 65536 + sub * 256 + bits

/-- Entries of the default RxPDO mappings (R107). -/
def mapCountDefault (i : Nat) : Nat := if i = 0 then 10 else 16

/-- The default RxPDO mappings: 0x1600 the alarm states, ALARM_SEQ and ALARM_CRC; 0x1601 the haptic triggers (R107). -/
def mapRxDefault (i k : Nat) : Nat :=
  if i = 0 then
    if k < 8 then mapObj 0x1E00 (k + 1) 32 else if k < 10 then mapObj 0x1E02 (k - 7) 16 else 0
  else if k < 16 then mapObj 0x1E03 (k + 1) 32 else 0

/-- Entries of the default TxPDO mappings (R107). -/
def mapTxCountDefault (i : Nat) : Nat :=
  if i = 0 then 3 else if i = 1 then 1 else if i < 6 then 9 else 6

/-- The default TxPDO mappings (R107). -/
def mapTxDefault (i k : Nat) : Nat :=
  if mapTxCountDefault i ≤ k then 0
  else if i = 0 then
    if k = 0 then mapObj 0x2001 1 8 else if k = 1 then mapObj 0x1E20 1 8 else mapObj 0x1E20 2 16
  else if i = 1 then mapObj 0x1E01 1 64
  else if i < 6 then
    if k < 2 then mapObj (0x1E10 + (i - 2)) (k + 1) 8 else mapObj (0x1E10 + (i - 2)) (k + 1) 64
  else mapObj (0x1E10 + 2 * (i - 6) + k / 3) (10 + k % 3) 64

/-- SERIAL as the dictionary holds it (R92). -/
def serialDefault : Nat := leVal ((List.range 8).map Sys2Proof.Config.serial)

/-- Dictionary rows of the comm range, part 0: R88, R103, R104, R107, R479. -/
def rows_comm_0 : List Row := [
  ⟨0x1001, 0x1, 1, 1, 1, 0x00, 1, .uns 1, .ro, .ro, .none, fun _ _ _ => 0, [], false, false⟩,
  ⟨0x1003, 0x1, 1, 1, 1, 0x00, 1, .uns 1, .rw, .rw, .none, fun _ _ _ => 0, [], false, false⟩,
  ⟨0x1003, 0x1, 1, 1, 1, 0x01, 16, .uns 4, .ro, .ro, .none, fun _ _ _ => 0, [], false, false⟩,
  ⟨0x1010, 0x1, 1, 1, 1, 0x00, 1, .uns 1, .const, .const, .none, fun _ _ _ => 3, [], false, false⟩,
  ⟨0x1010, 0x1, 1, 1, 1, 0x01, 1, .uns 4, .rw, .rw, .none, fun _ _ _ => 1, [], false, false⟩,
  ⟨0x1010, 0x1, 1, 1, 1, 0x02, 1, .uns 4, .rw, .rw, .none, fun _ _ _ => 1, [], false, false⟩,
  ⟨0x1010, 0x1, 1, 1, 1, 0x03, 1, .uns 4, .rw, .rw, .none, fun _ _ _ => 1, [], false, false⟩,
  ⟨0x1011, 0x1, 1, 1, 1, 0x00, 1, .uns 1, .const, .const, .none, fun _ _ _ => 3, [], false, false⟩,
  ⟨0x1011, 0x1, 1, 1, 1, 0x01, 1, .uns 4, .rw, .rw, .none, fun _ _ _ => 1, [], false, false⟩,
  ⟨0x1011, 0x1, 1, 1, 1, 0x02, 1, .uns 4, .rw, .rw, .none, fun _ _ _ => 1, [], false, false⟩,
  ⟨0x1011, 0x1, 1, 1, 1, 0x03, 1, .uns 4, .rw, .rw, .none, fun _ _ _ => 1, [], false, false⟩,
  ⟨0x1017, 0x1, 1, 1, 1, 0x00, 1, .uns 2, .ro, .rw, .none, fun _ _ _ => 100, [], false, false⟩,
  ⟨0x1400, 0x1, 2, 1, 1, 0x00, 1, .uns 1, .const, .const, .none, fun _ _ _ => 5, [], false, false⟩,
  ⟨0x1400, 0x1, 2, 1, 1, 0x01, 1, .uns 4, .ro, .rw, .none, fun i _ _ => 0x200 + 0x100 * i, [], false, false⟩,
  ⟨0x1400, 0x1, 2, 1, 1, 0x02, 1, .uns 1, .ro, .rw, .none, fun _ _ _ => 0xFE, [], false, false⟩,
  ⟨0x1400, 0x1, 2, 1, 1, 0x03, 1, .uns 2, .ro, .rw, .none, fun _ _ _ => 0, [], false, false⟩,
  ⟨0x1400, 0x1, 2, 1, 1, 0x05, 1, .uns 2, .ro, .rw, .none, fun _ _ _ => 0, [], false, false⟩,
  ⟨0x1600, 0x1, 2, 1, 1, 0x00, 1, .uns 1, .ro, .rw, .none, fun i _ _ => mapCountDefault i, [(0, 64)], false, false⟩,
  ⟨0x1600, 0x1, 2, 1, 1, 0x01, 64, .uns 4, .ro, .rw, .none, fun i _ k => mapRxDefault i k, [], false, false⟩,
  ⟨0x1800, 0x1, 8, 1, 1, 0x00, 1, .uns 1, .const, .const, .none, fun _ _ _ => 5, [], false, false⟩,
  ⟨0x1800, 0x1, 8, 1, 1, 0x01, 1, .uns 4, .ro, .rw, .none, fun i _ _ => if i < 4 then 0x180 + 0x100 * i else 0x80000000, [], false, false⟩,
  ⟨0x1800, 0x1, 8, 1, 1, 0x02, 1, .uns 1, .ro, .rw, .none, fun _ _ _ => 0xFE, [], false, false⟩,
  ⟨0x1800, 0x1, 8, 1, 1, 0x03, 1, .uns 2, .ro, .rw, .none, fun _ _ _ => 20, [], false, false⟩,
  ⟨0x1800, 0x1, 8, 1, 1, 0x05, 1, .uns 2, .ro, .rw, .none, fun _ _ _ => 100, [], false, false⟩]

/-- Dictionary rows of the comm range, part 1: R72, R100, R105, R107. -/
def rows_comm_1 : List Row := [
  ⟨0x1A00, 0x1, 8, 1, 1, 0x00, 1, .uns 1, .ro, .rw, .none, fun i _ _ => mapTxCountDefault i, [(0, 64)], false, false⟩,
  ⟨0x1A00, 0x1, 8, 1, 1, 0x01, 64, .uns 4, .ro, .rw, .none, fun i _ k => mapTxDefault i k, [], false, false⟩,
  ⟨0x1C12, 0x1, 1, 1, 1, 0x00, 1, .uns 1, .ro, .rw, .none, fun _ _ _ => 2, [(0, 2)], false, false⟩,
  ⟨0x1C12, 0x1, 1, 1, 1, 0x01, 2, .uns 2, .ro, .rw, .none, fun _ _ k => 0x1600 + k, [], false, false⟩,
  ⟨0x1C13, 0x1, 1, 1, 1, 0x00, 1, .uns 1, .ro, .rw, .none, fun _ _ _ => 8, [(0, 8)], false, false⟩,
  ⟨0x1C13, 0x1, 1, 1, 1, 0x01, 8, .uns 2, .ro, .rw, .none, fun _ _ k => 0x1A00 + k, [], false, false⟩,
  ⟨0x1C32, 0x1, 1, 1, 1, 0x01, 1, .uns 2, .ro, .rw, .none, fun _ _ _ => 0, [(0, 2)], false, false⟩,
  ⟨0x1C32, 0x1, 1, 1, 1, 0x02, 1, .uns 4, .ro, .rw, .none, fun _ _ _ => 1000000, [(62500, 100000000)], false, false⟩,
  ⟨0x1C32, 0x1, 1, 1, 1, 0x03, 1, .uns 4, .ro, .ro, .none, fun _ _ _ => 2000, [], false, false⟩,
  ⟨0x1C32, 0x1, 1, 1, 1, 0x05, 1, .uns 4, .const, .const, .none, fun _ _ _ => 62500, [], false, false⟩,
  ⟨0x1C32, 0x1, 1, 1, 1, 0x00, 1, .uns 1, .const, .const, .none, fun _ _ _ => 5, [], false, false⟩,
  ⟨0x1C33, 0x1, 1, 1, 1, 0x01, 1, .uns 2, .ro, .rw, .none, fun _ _ _ => 0, [(0, 2)], false, false⟩,
  ⟨0x1C33, 0x1, 1, 1, 1, 0x06, 1, .uns 4, .const, .const, .none, fun _ _ _ => 5000, [], false, false⟩,
  ⟨0x1C33, 0x1, 1, 1, 1, 0x00, 1, .uns 1, .const, .const, .none, fun _ _ _ => 6, [], false, false⟩,
  ⟨0x1E00, 0x1, 1, 1, 1, 0x00, 1, .uns 1, .const, .const, .none, fun _ _ _ => 8, [], false, false⟩,
  ⟨0x1E00, 0x1, 1, 1, 1, 0x01, 8, .uns 4, .ro, .rw, .none, fun _ _ _ => 4294967295, [], false, false⟩,
  ⟨0x1E01, 0x1, 1, 1, 1, 0x00, 1, .uns 1, .const, .const, .none, fun _ _ _ => 1, [], false, false⟩,
  ⟨0x1E01, 0x1, 1, 1, 1, 0x01, 1, .uns 8, .ro, .ro, .none, fun _ _ _ => 0, [], false, false⟩,
  ⟨0x1E02, 0x1, 1, 1, 1, 0x00, 1, .uns 1, .const, .const, .none, fun _ _ _ => 2, [], false, false⟩,
  ⟨0x1E02, 0x1, 1, 1, 1, 0x01, 1, .uns 2, .ro, .rw, .none, fun _ _ _ => 0, [(0, 65535)], false, false⟩,
  ⟨0x1E02, 0x1, 1, 1, 1, 0x02, 1, .uns 2, .ro, .rw, .none, fun _ _ _ => 0, [], false, false⟩,
  ⟨0x1E03, 0x1, 1, 1, 1, 0x00, 1, .uns 1, .const, .const, .none, fun _ _ _ => 16, [], false, false⟩,
  ⟨0x1E03, 0x1, 1, 1, 1, 0x01, 16, .uns 4, .ro, .rw, .none, fun _ _ _ => 0, [], false, false⟩,
  ⟨0x1E10, 0x1, 4, 1, 1, 0x00, 1, .uns 1, .const, .const, .none, fun _ _ _ => 12, [], false, false⟩]

/-- Dictionary rows of the comm range, part 2: R94, R105. -/
def rows_comm_2 : List Row := [
  ⟨0x1E10, 0x1, 4, 1, 1, 0x01, 1, .uns 1, .ro, .ro, .none, fun _ _ _ => 0, [(0, 10)], false, false⟩,
  ⟨0x1E10, 0x1, 4, 1, 1, 0x02, 1, .uns 1, .ro, .ro, .none, fun _ _ _ => 0, [], false, false⟩,
  ⟨0x1E10, 0x1, 4, 1, 1, 0x03, 10, .uns 8, .ro, .ro, .none, fun _ _ _ => 255, [], false, false⟩,
  ⟨0x1E20, 0x1, 1, 1, 1, 0x00, 1, .uns 1, .const, .const, .none, fun _ _ _ => 2, [], false, false⟩,
  ⟨0x1E20, 0x1, 1, 1, 1, 0x01, 1, .uns 1, .ro, .ro, .none, fun _ _ _ => 0, [], false, false⟩,
  ⟨0x1E20, 0x1, 1, 1, 1, 0x02, 1, .uns 2, .ro, .ro, .none, fun _ _ _ => 0, [], false, false⟩,
  ⟨0x1FE0, 0x1, 1, 1, 1, 0x00, 1, .uns 1, .const, .const, .none, fun _ _ _ => 13, [], false, false⟩,
  ⟨0x1FE0, 0x1, 1, 1, 1, 0x01, 1, .uns 1, .ro, .rw, .none, fun _ _ _ => 0, [(0, 2)], false, true⟩,
  ⟨0x1FE0, 0x1, 1, 1, 1, 0x02, 1, .uns 1, .ro, .rw, .none, fun _ _ _ => 0, [(0, 3)], false, true⟩,
  ⟨0x1FE0, 0x1, 1, 1, 1, 0x03, 1, .uns 1, .ro, .rw, .none, fun _ _ _ => 32, [(1, 127)], false, true⟩,
  ⟨0x1FE0, 0x1, 1, 1, 1, 0x04, 1, .uns 1, .ro, .rw, .none, fun _ _ _ => 33, [(1, 127)], false, true⟩,
  ⟨0x1FE0, 0x1, 1, 1, 1, 0x05, 1, .uns 1, .ro, .rw, .none, fun _ _ _ => 3, [(0, 3)], false, true⟩,
  ⟨0x1FE0, 0x1, 1, 1, 1, 0x06, 1, .uns 1, .ro, .rw, .none, fun _ _ _ => 2, [(0, 2)], false, true⟩,
  ⟨0x1FE0, 0x1, 1, 1, 1, 0x07, 1, .uns 1, .ro, .rw, .none, fun _ _ _ => 1, [(0, 1)], false, false⟩,
  ⟨0x1FE0, 0x1, 1, 1, 1, 0x08, 1, .uns 2, .ro, .rw, .none, fun _ _ _ => 100, [(10, 10000)], false, false⟩,
  ⟨0x1FE0, 0x1, 1, 1, 1, 0x09, 1, .uns 1, .ro, .rw, .none, fun _ _ _ => 0, [(0, 1)], false, false⟩,
  ⟨0x1FE0, 0x1, 1, 1, 1, 0x0A, 1, .uns 4, .ro, .ro, .none, fun _ _ _ => 0, [], false, false⟩,
  ⟨0x1FE0, 0x1, 1, 1, 1, 0x0B, 1, .uns 4, .ro, .ro, .none, fun _ _ _ => 0, [], false, false⟩,
  ⟨0x1FE0, 0x1, 1, 1, 1, 0x0C, 1, .uns 4, .ro, .ro, .none, fun _ _ _ => 0, [], false, false⟩,
  ⟨0x1FE0, 0x1, 1, 1, 1, 0x0D, 1, .uns 4, .ro, .ro, .none, fun _ _ _ => 0, [], false, false⟩]

/-- The rows of the comm range (R71). -/
def rows_comm : List Row := rows_comm_0 ++ rows_comm_1 ++ rows_comm_2

/-- Dictionary rows of the device range, part 0: R91, R92, R93. -/
def rows_device_0 : List Row := [
  ⟨0x2000, 0x1, 1, 1, 1, 0x00, 1, .uns 1, .const, .const, .const, fun _ _ _ => 8, [], false, false⟩,
  ⟨0x2000, 0x1, 1, 1, 1, 0x01, 1, .vis 17, .const, .const, .const, fun _ _ _ => partNumber, [], false, false⟩,
  ⟨0x2000, 0x1, 1, 1, 1, 0x02, 1, .uns 1, .const, .const, .const, fun _ _ _ => 65, [], false, false⟩,
  ⟨0x2000, 0x1, 1, 1, 1, 0x03, 1, .uns 1, .const, .const, .const, fun _ _ _ => 16, [], false, false⟩,
  ⟨0x2000, 0x1, 1, 1, 1, 0x04, 1, .oct 8, .const, .const, .const, fun _ _ _ => serialDefault, [], false, false⟩,
  ⟨0x2000, 0x1, 1, 1, 1, 0x05, 1, .uns 4, .ro, .ro, .none, fun _ _ _ => Sys2Proof.Config.romVersion.toNat, [], false, false⟩,
  ⟨0x2000, 0x1, 1, 1, 1, 0x06, 1, .uns 4, .ro, .ro, .ro, fun _ _ _ => 0, [], false, false⟩,
  ⟨0x2000, 0x1, 1, 1, 1, 0x07, 1, .uns 4, .ro, .ro, .ro, fun _ _ _ => 0, [], false, false⟩,
  ⟨0x2000, 0x1, 1, 1, 1, 0x08, 1, .uns 2, .ro, .ro, .ro, fun _ _ _ => 0x0100, [], false, false⟩,
  ⟨0x2001, 0x1, 1, 1, 1, 0x00, 1, .uns 1, .const, .const, .const, fun _ _ _ => 7, [], false, false⟩,
  ⟨0x2001, 0x1, 1, 1, 1, 0x01, 1, .uns 1, .ro, .ro, .ro, fun _ _ _ => 0, [(0, 6)], false, false⟩,
  ⟨0x2001, 0x1, 1, 1, 1, 0x02, 1, .uns 2, .ro, .ro, .none, fun _ _ _ => 0, [], false, false⟩,
  ⟨0x2001, 0x1, 1, 1, 1, 0x03, 1, .uns 8, .ro, .ro, .ro, fun _ _ _ => 0, [], false, false⟩,
  ⟨0x2001, 0x1, 1, 1, 1, 0x04, 1, .uns 2, .ro, .ro, .none, fun _ _ _ => 1, [], false, false⟩,
  ⟨0x2001, 0x1, 1, 1, 1, 0x05, 1, .uns 1, .ro, .ro, .none, fun _ _ _ => 0, [], false, false⟩,
  ⟨0x2001, 0x1, 1, 1, 1, 0x06, 1, .uns 4, .ro, .ro, .none, fun _ _ _ => 0, [], false, false⟩,
  ⟨0x2001, 0x1, 1, 1, 1, 0x07, 1, .uns 4, .ro, .ro, .none, fun _ _ _ => 0, [], false, false⟩,
  ⟨0x2010, 0x1, 1, 1, 1, 0x00, 1, .uns 1, .const, .const, .const, fun _ _ _ => 12, [], false, false⟩,
  ⟨0x2010, 0x1, 1, 1, 1, 0x01, 1, .uns 1, .wo, .wo, .wo, fun _ _ _ => 0, [(1, 3)], false, false⟩,
  ⟨0x2010, 0x1, 1, 1, 1, 0x02, 1, .uns 1, .ro, .ro, .ro, fun _ _ _ => 0, [(0, 5)], false, false⟩,
  ⟨0x2010, 0x1, 1, 1, 1, 0x03, 1, .uns 2, .ro, .ro, .ro, fun _ _ _ => 0, [(0, 512)], false, false⟩,
  ⟨0x2010, 0x1, 1, 1, 1, 0x04, 1, .uns 4, .ro, .ro, .ro, fun _ _ _ => 0, [], false, false⟩,
  ⟨0x2010, 0x1, 1, 1, 1, 0x05, 1, .uns 2, .ro, .ro, .ro, fun _ _ _ => 0, [], false, false⟩,
  ⟨0x2010, 0x1, 1, 1, 1, 0x06, 1, .uns 4, .ro, .ro, .ro, fun _ _ _ => 0, [], false, false⟩]

/-- Dictionary rows of the device range, part 1: R90, R91, R394, R395. -/
def rows_device_1 : List Row := [
  ⟨0x2010, 0x1, 1, 1, 1, 0x07, 1, .uns 4, .ro, .ro, .ro, fun _ _ _ => 0, [], false, false⟩,
  ⟨0x2010, 0x1, 1, 1, 1, 0x08, 1, .uns 1, .ro, .ro, .none, fun _ _ _ => 0, [], false, false⟩,
  ⟨0x2010, 0x1, 1, 1, 1, 0x09, 1, .uns 2, .ro, .ro, .none, fun _ _ _ => 0, [(0, 16384)], false, false⟩,
  ⟨0x2010, 0x1, 1, 1, 1, 0x0A, 1, .uns 4, .ro, .ro, .none, fun _ _ _ => 0, [], false, false⟩,
  ⟨0x2010, 0x1, 1, 1, 1, 0x0B, 1, .uns 2, .ro, .ro, .none, fun _ _ _ => 0, [], false, false⟩,
  ⟨0x2010, 0x1, 1, 1, 1, 0x0C, 1, .uns 4, .ro, .ro, .none, fun _ _ _ => 0, [], false, false⟩,
  ⟨0x2020, 0x1, 1, 1, 1, 0x00, 1, .uns 1, .const, .const, .none, fun _ _ _ => 5, [], false, false⟩,
  ⟨0x2020, 0x1, 1, 1, 1, 0x01, 1, .dom 524288 false, .none, .wo, .none, fun _ _ _ => 0, [], false, false⟩,
  ⟨0x2020, 0x1, 1, 1, 1, 0x02, 1, .uns 1, .none, .wo, .none, fun _ _ _ => 0, [(1, 3)], false, false⟩,
  ⟨0x2020, 0x1, 1, 1, 1, 0x03, 1, .uns 1, .ro, .ro, .none, fun _ _ _ => 0, [(0, 6)], false, false⟩,
  ⟨0x2020, 0x1, 1, 1, 1, 0x04, 1, .uns 4, .ro, .ro, .none, fun _ _ _ => 0, [], false, false⟩,
  ⟨0x2020, 0x1, 1, 1, 1, 0x05, 1, .uns 4, .ro, .ro, .none, fun _ _ _ => 0, [], false, false⟩,
  ⟨0x2030, 0x1, 1, 1, 1, 0x00, 1, .uns 1, .const, .const, .const, fun _ _ _ => 7, [], false, false⟩,
  ⟨0x2030, 0x1, 1, 1, 1, 0x01, 1, .uns 1, .ro, .ro, .ro, fun _ _ _ => 0, [(0, 3)], false, false⟩,
  ⟨0x2030, 0x1, 1, 1, 1, 0x02, 1, .uns 4, .ro, .ro, .none, fun _ _ _ => 0, [], false, false⟩,
  ⟨0x2030, 0x1, 1, 1, 1, 0x03, 1, .uns 1, .ro, .ro, .none, fun _ _ _ => 0, [(0, 3)], false, false⟩,
  ⟨0x2030, 0x1, 1, 1, 1, 0x04, 1, .uns 8, .ro, .ro, .none, fun _ _ _ => 0, [], false, false⟩,
  ⟨0x2030, 0x1, 1, 1, 1, 0x05, 1, .uns 4, .ro, .ro, .none, fun _ _ _ => 0, [], false, false⟩,
  ⟨0x2030, 0x1, 1, 1, 1, 0x06, 1, .uns 4, .ro, .ro, .none, fun _ _ _ => 0, [], false, false⟩,
  ⟨0x2030, 0x1, 1, 1, 1, 0x07, 1, .oct 48, .ro, .ro, .none, fun _ _ _ => 0, [], false, false⟩,
  ⟨0x2031, 0x1, 1, 1, 1, 0x00, 1, .uns 1, .const, .const, .none, fun _ _ _ => 7, [], false, false⟩,
  ⟨0x2031, 0x1, 1, 1, 1, 0x01, 1, .uns 1, .ro, .ro, .none, fun _ _ _ => 0, [], false, false⟩,
  ⟨0x2031, 0x1, 1, 1, 1, 0x02, 1, .uns 1, .ro, .ro, .none, fun _ _ _ => 0b10100101, [], false, false⟩,
  ⟨0x2031, 0x1, 1, 1, 1, 0x03, 1, .uns 1, .none, .wo, .none, fun _ _ _ => 0, [(1, 15)], false, false⟩]

/-- Dictionary rows of the device range, part 2: R42, R395, R396, R413, R415. -/
def rows_device_2 : List Row := [
  ⟨0x2031, 0x1, 1, 1, 1, 0x04, 1, .oct 48, .ro, .ro, .none, fun _ _ _ => 0, [], false, false⟩,
  ⟨0x2031, 0x1, 1, 1, 1, 0x05, 1, .oct 96, .none, .wo, .none, fun _ _ _ => 0, [], false, false⟩,
  ⟨0x2031, 0x1, 1, 1, 1, 0x06, 1, .uns 1, .ro, .ro, .none, fun _ _ _ => 0, [(0, 5)], false, false⟩,
  ⟨0x2031, 0x1, 1, 1, 1, 0x07, 1, .uns 4, .ro, .ro, .none, fun _ _ _ => 0, [], false, false⟩,
  ⟨0x2032, 0x1, 1, 1, 1, 0x00, 1, .uns 1, .const, .const, .none, fun _ _ _ => 4, [], false, false⟩,
  ⟨0x2032, 0x1, 1, 1, 1, 0x01, 1, .oct 32, .none, .wo, .none, fun _ _ _ => 0, [], false, false⟩,
  ⟨0x2032, 0x1, 1, 1, 1, 0x02, 1, .uns 1, .ro, .ro, .none, fun _ _ _ => 0, [(0, 2)], false, false⟩,
  ⟨0x2032, 0x1, 1, 1, 1, 0x03, 1, .dom 480 false, .ro, .ro, .none, fun _ _ _ => 0, [], false, false⟩,
  ⟨0x2032, 0x1, 1, 1, 1, 0x04, 1, .dom 1024 false, .ro, .ro, .none, fun _ _ _ => 0, [], false, false⟩,
  ⟨0x2033, 0x1, 1, 1, 1, 0x00, 1, .dom 408 false, .ro, .ro, .none, fun _ _ _ => 0, [], false, false⟩,
  ⟨0x2040, 0x1, 1, 1, 1, 0x00, 1, .uns 1, .const, .const, .none, fun _ _ _ => 5, [], false, false⟩,
  ⟨0x2040, 0x1, 1, 1, 1, 0x01, 1, .uns 2, .ro, .rw, .none, fun _ _ _ => 64, [(8, 1000)], false, false⟩,
  ⟨0x2040, 0x1, 1, 1, 1, 0x02, 1, .uns 4, .ro, .ro, .none, fun _ _ _ => 0, [], false, false⟩,
  ⟨0x2040, 0x1, 1, 1, 1, 0x03, 1, .uns 4, .ro, .ro, .none, fun _ _ _ => 0, [], false, false⟩,
  ⟨0x2040, 0x1, 1, 1, 1, 0x04, 1, .uns 4, .ro, .ro, .none, fun _ _ _ => 0, [], false, false⟩,
  ⟨0x2040, 0x1, 1, 1, 1, 0x05, 1, .oct 22, .ro, .ro, .none, fun _ _ _ => 0, [], false, false⟩,
  ⟨0x2041, 0x1, 1, 1, 1, 0x00, 1, .dom 608 false, .ro, .ro, .none, fun _ _ _ => 0, [], false, false⟩,
  ⟨0x2042, 0x1, 1, 1, 1, 0x00, 1, .uns 1, .const, .const, .none, fun _ _ _ => 3, [], false, false⟩,
  ⟨0x2042, 0x1, 1, 1, 1, 0x01, 1, .uns 1, .ro, .ro, .none, fun _ _ _ => 1, [(1, 16)], false, false⟩,
  ⟨0x2042, 0x1, 1, 1, 1, 0x02, 1, .uns 4, .ro, .ro, .none, fun _ _ _ => 0, [], false, false⟩,
  ⟨0x2042, 0x1, 1, 1, 1, 0x03, 1, .uns 1, .rw, .wo, .none, fun _ _ _ => 0, [(0, 1)], false, false⟩,
  ⟨0x2043, 0x1, 1, 1, 1, 0x00, 1, .uns 1, .const, .const, .none, fun _ _ _ => 16, [], false, false⟩,
  ⟨0x2043, 0x1, 1, 1, 1, 0x01, 16, .oct 16, .ro, .ro, .none, fun _ _ _ => 0, [], false, false⟩,
  ⟨0x2080, 0x1, 1, 1, 1, 0x00, 1, .uns 1, .const, .const, .none, fun _ _ _ => 4, [], false, false⟩]

/-- Dictionary rows of the device range, part 3: R42, R427, R431, R433. -/
def rows_device_3 : List Row := [
  ⟨0x2080, 0x1, 1, 1, 1, 0x01, 1, .uns 1, .ro, .ro, .none, fun _ _ _ => 1, [(1, 64)], false, false⟩,
  ⟨0x2080, 0x1, 1, 1, 1, 0x02, 1, .uns 4, .ro, .ro, .none, fun _ _ _ => 0, [], false, false⟩,
  ⟨0x2080, 0x1, 1, 1, 1, 0x03, 1, .uns 1, .rw, .wo, .none, fun _ _ _ => 0, [(0, 1)], false, false⟩,
  ⟨0x2080, 0x1, 1, 1, 1, 0x04, 1, .uns 4, .ro, .ro, .none, fun _ _ _ => 0, [], false, false⟩,
  ⟨0x2081, 0x1, 1, 1, 1, 0x00, 1, .uns 1, .const, .const, .none, fun _ _ _ => 64, [], false, false⟩,
  ⟨0x2081, 0x1, 1, 1, 1, 0x01, 64, .oct 24, .ro, .ro, .none, fun _ _ _ => 0, [], false, false⟩,
  ⟨0x2100, 0x1, 1, 1, 1, 0x00, 1, .uns 1, .const, .const, .none, fun _ _ _ => 4, [], false, false⟩,
  ⟨0x2100, 0x1, 1, 1, 1, 0x01, 1, .uns 1, .ro, .rw, .none, fun _ _ _ => 0, [(0, 1)], false, false⟩,
  ⟨0x2100, 0x1, 1, 1, 1, 0x02, 1, .uns 1, .ro, .rw, .none, fun _ _ _ => 0, [(0, 1)], false, false⟩,
  ⟨0x2100, 0x1, 1, 1, 1, 0x03, 1, .uns 4, .ro, .ro, .none, fun _ _ _ => 0, [], false, false⟩,
  ⟨0x2100, 0x1, 1, 1, 1, 0x04, 1, .uns 4, .ro, .ro, .none, fun _ _ _ => 0, [], false, false⟩,
  ⟨0x2110, 0x1, 16, 1, 1, 0x00, 1, .uns 1, .const, .const, .none, fun _ _ _ => 5, [], false, false⟩,
  ⟨0x2110, 0x1, 16, 1, 1, 0x01, 1, .uns 1, .ro, .rw, .none, fun _ _ _ => 0, [(0, 2)], false, true⟩,
  ⟨0x2110, 0x1, 16, 1, 1, 0x02, 1, .uns 2, .ro, .rw, .none, fun _ _ _ => 100, [(1, 60000)], false, true⟩,
  ⟨0x2110, 0x1, 16, 1, 1, 0x03, 1, .uns 1, .ro, .ro, .none, fun _ _ _ => 2, [(0, 3)], false, false⟩,
  ⟨0x2110, 0x1, 16, 1, 1, 0x04, 1, .uns 4, .ro, .ro, .none, fun _ _ _ => 0, [], false, false⟩,
  ⟨0x2110, 0x1, 16, 1, 1, 0x05, 1, .uns 1, .ro, .ro, .none, fun _ _ _ => 0, [], false, false⟩,
  ⟨0x2120, 0x1, 1, 1, 1, 0x00, 1, .uns 1, .const, .const, .none, fun _ _ _ => 12, [], false, false⟩,
  ⟨0x2120, 0x1, 1, 1, 1, 0x01, 4, .uns 1, .ro, .rw, .none, fun _ _ _ => 70, [(20, 100)], false, true⟩,
  ⟨0x2120, 0x1, 1, 1, 1, 0x05, 4, .uns 1, .ro, .rw, .none, fun _ _ _ => 120, [(50, 150)], false, true⟩,
  ⟨0x2120, 0x1, 1, 1, 1, 0x09, 4, .uns 2, .ro, .ro, .none, fun _ _ _ => 0, [], false, false⟩,
  ⟨0x2121, 0x1, 1, 1, 1, 0x00, 1, .uns 1, .const, .const, .none, fun _ _ _ => 15, [], false, false⟩,
  ⟨0x2121, 0x1, 1, 1, 1, 0x01, 1, .uns 1, .ro, .rw, .none, fun _ _ _ => 105, [(85, 111)], false, true⟩,
  ⟨0x2121, 0x1, 1, 1, 1, 0x02, 1, .uns 1, .ro, .ro, .none, fun _ _ _ => 0, [], false, false⟩]

/-- Dictionary rows of the device range, part 4: R433, R434, R441. -/
def rows_device_4 : List Row := [
  ⟨0x2121, 0x1, 1, 1, 1, 0x03, 1, .uns 2, .ro, .ro, .none, fun _ _ _ => 1400, [], false, false⟩,
  ⟨0x2121, 0x1, 1, 1, 1, 0x04, 12, .int 2, .ro, .ro, .ro, fun _ _ _ => 0, [], false, false⟩,
  ⟨0x2130, 0x1, 1, 1, 1, 0x00, 1, .uns 1, .const, .const, .none, fun _ _ _ => 3, [], false, false⟩,
  ⟨0x2130, 0x1, 1, 1, 1, 0x01, 1, .uns 1, .ro, .ro, .none, fun _ _ _ => 1, [], false, false⟩,
  ⟨0x2130, 0x1, 1, 1, 1, 0x02, 1, .uns 4, .ro, .ro, .none, fun _ _ _ => 0, [], false, false⟩,
  ⟨0x2130, 0x1, 1, 1, 1, 0x03, 1, .uns 1, .rw, .wo, .none, fun _ _ _ => 0, [(0, 1)], false, false⟩,
  ⟨0x2131, 0x1, 1, 1, 1, 0x00, 1, .uns 1, .const, .const, .none, fun _ _ _ => 16, [], false, false⟩,
  ⟨0x2131, 0x1, 1, 1, 1, 0x01, 16, .oct 16, .ro, .ro, .none, fun _ _ _ => 0, [], false, false⟩,
  ⟨0x2200, 0x1, 1, 1, 1, 0x00, 1, .uns 1, .const, .const, .none, fun _ _ _ => 10, [], false, false⟩,
  ⟨0x2200, 0x1, 1, 1, 1, 0x01, 1, .uns 4, .ro, .ro, .none, fun _ _ _ => 0, [], false, false⟩,
  ⟨0x2200, 0x1, 1, 1, 1, 0x02, 1, .uns 2, .ro, .rw, .none, fun _ _ _ => 1000, [(100, 10000)], false, true⟩,
  ⟨0x2200, 0x1, 1, 1, 1, 0x03, 1, .uns 1, .none, .wo, .none, fun _ _ _ => 0, [(1, 1)], false, false⟩,
  ⟨0x2200, 0x1, 1, 1, 1, 0x04, 1, .uns 1, .ro, .ro, .none, fun _ _ _ => 0, [(0, 2)], false, false⟩,
  ⟨0x2200, 0x1, 1, 1, 1, 0x05, 1, .uns 2, .ro, .rw, .none, fun _ _ _ => 0, [(0, 60)], false, false⟩,
  ⟨0x2200, 0x1, 1, 1, 1, 0x06, 1, .uns 4, .ro, .ro, .none, fun _ _ _ => 0, [], false, false⟩,
  ⟨0x2200, 0x1, 1, 1, 1, 0x07, 1, .uns 2, .ro, .ro, .none, fun _ _ _ => 0, [], false, false⟩,
  ⟨0x2200, 0x1, 1, 1, 1, 0x08, 1, .uns 1, .ro, .ro, .none, fun _ _ _ => 0, [], false, false⟩,
  ⟨0x2200, 0x1, 1, 1, 1, 0x09, 1, .uns 4, .ro, .ro, .none, fun _ _ _ => 0, [], false, false⟩,
  ⟨0x2200, 0x1, 1, 1, 1, 0x0A, 1, .uns 1, .ro, .ro, .none, fun _ _ _ => 50, [], false, false⟩,
  ⟨0x2201, 0x1, 1, 1, 1, 0x00, 1, .oct 44, .ro, .ro, .ro, fun _ _ _ => 0, [], false, false⟩]

/-- The rows of the device range (R71). -/
def rows_device : List Row := rows_device_0 ++ rows_device_1 ++ rows_device_2 ++ rows_device_3 ++ rows_device_4

/-- Dictionary rows of the heads range, part 0: R200, R204, R217. -/
def rows_heads_0 : List Row := [
  ⟨0x3000, 0x40, 16, 1, 1, 0x00, 1, .uns 1, .const, .const, .const, fun _ _ _ => 13, [], false, false⟩,
  ⟨0x3000, 0x40, 16, 1, 1, 0x01, 1, .uns 2, .ro, .rw, .ro, fun _ _ _ => 1920, [(64, 8192)], true, true⟩,
  ⟨0x3000, 0x40, 16, 1, 1, 0x02, 1, .uns 2, .ro, .rw, .ro, fun _ _ _ => 48, [(1, 2048)], false, true⟩,
  ⟨0x3000, 0x40, 16, 1, 1, 0x03, 1, .uns 2, .ro, .rw, .ro, fun _ _ _ => 32, [(1, 2048)], false, true⟩,
  ⟨0x3000, 0x40, 16, 1, 1, 0x04, 1, .uns 2, .ro, .rw, .ro, fun _ _ _ => 80, [(1, 2048)], false, true⟩,
  ⟨0x3000, 0x40, 16, 1, 1, 0x05, 1, .uns 2, .ro, .rw, .ro, fun _ _ _ => 1080, [(16, 8192)], false, true⟩,
  ⟨0x3000, 0x40, 16, 1, 1, 0x06, 1, .uns 2, .ro, .rw, .ro, fun _ _ _ => 3, [(1, 4095)], false, true⟩,
  ⟨0x3000, 0x40, 16, 1, 1, 0x07, 1, .uns 2, .ro, .rw, .ro, fun _ _ _ => 5, [(1, 255)], false, true⟩,
  ⟨0x3000, 0x40, 16, 1, 1, 0x08, 1, .uns 2, .ro, .rw, .ro, fun _ _ _ => 23, [(1, 1023)], false, true⟩,
  ⟨0x3000, 0x40, 16, 1, 1, 0x09, 1, .uns 4, .ro, .rw, .ro, fun _ _ _ => 138500, [(1000, 600000)], false, true⟩,
  ⟨0x3000, 0x40, 16, 1, 1, 0x0A, 1, .uns 1, .ro, .rw, .ro, fun _ _ _ => 0, [(0, 1)], false, true⟩,
  ⟨0x3000, 0x40, 16, 1, 1, 0x0B, 1, .uns 1, .ro, .rw, .ro, fun _ _ _ => 1, [], false, true⟩,
  ⟨0x3000, 0x40, 16, 1, 1, 0x0C, 1, .uns 1, .ro, .rw, .ro, fun _ _ _ => 0, [(0, 1)], false, true⟩,
  ⟨0x3000, 0x40, 16, 1, 1, 0x0D, 1, .uns 1, .ro, .rw, .ro, fun _ _ _ => 0, [(0, 1)], false, true⟩,
  ⟨0x3001, 0x40, 16, 1, 1, 0x00, 1, .uns 1, .const, .const, .const, fun _ _ _ => 5, [], false, false⟩,
  ⟨0x3001, 0x40, 16, 1, 1, 0x01, 1, .uns 2, .ro, .rw, .ro, fun _ _ _ => 1500, [(200, 8000)], false, true⟩,
  ⟨0x3001, 0x40, 16, 1, 1, 0x02, 1, .uns 1, .ro, .rw, .ro, fun _ _ _ => 255, [(0, 3), (255, 255)], false, true⟩,
  ⟨0x3001, 0x40, 16, 1, 1, 0x03, 1, .uns 1, .ro, .rw, .ro, fun _ _ _ => 0, [(0, 1)], false, true⟩,
  ⟨0x3001, 0x40, 16, 1, 1, 0x04, 1, .uns 1, .ro, .rw, .ro, fun _ _ _ => 2, [(1, 15)], false, true⟩,
  ⟨0x3001, 0x40, 16, 1, 1, 0x05, 1, .uns 2, .ro, .rw, .ro, fun _ _ _ => 0, [(0, 1000)], false, true⟩,
  ⟨0x3002, 0x40, 16, 1, 1, 0x00, 1, .uns 1, .const, .const, .const, fun _ _ _ => 4, [], false, false⟩,
  ⟨0x3002, 0x40, 16, 1, 1, 0x01, 1, .uns 1, .ro, .rw, .ro, fun _ _ _ => 0, [(0, 1)], false, true⟩,
  ⟨0x3002, 0x40, 16, 1, 1, 0x02, 1, .uns 4, .ro, .rw, .ro, fun _ _ _ => 16666667, [(1000000, 1000000000)], false, true⟩,
  ⟨0x3002, 0x40, 16, 1, 1, 0x03, 1, .uns 4, .ro, .rw, .ro, fun _ _ _ => 0, [], false, true⟩]

/-- Dictionary rows of the heads range, part 1: R180, R183, R217, R222, R223. -/
def rows_heads_1 : List Row := [
  ⟨0x3002, 0x40, 16, 1, 1, 0x04, 1, .uns 1, .ro, .rw, .ro, fun _ _ _ => 1, [(0, 1)], false, true⟩,
  ⟨0x3003, 0x40, 16, 1, 1, 0x00, 1, .uns 1, .const, .const, .const, fun _ _ _ => 9, [], false, false⟩,
  ⟨0x3003, 0x40, 16, 1, 1, 0x01, 1, .uns 1, .ro, .ro, .ro, fun _ _ _ => 0, [(0, 4)], false, false⟩,
  ⟨0x3003, 0x40, 16, 1, 1, 0x02, 1, .uns 4, .ro, .ro, .ro, fun _ _ _ => 0, [], false, false⟩,
  ⟨0x3003, 0x40, 16, 1, 1, 0x03, 1, .uns 2, .ro, .ro, .ro, fun _ _ _ => 0, [], false, false⟩,
  ⟨0x3003, 0x40, 16, 1, 1, 0x04, 1, .uns 1, .ro, .ro, .ro, fun _ _ _ => 0, [(0, 2)], false, false⟩,
  ⟨0x3003, 0x40, 16, 1, 1, 0x05, 1, .uns 1, .ro, .ro, .ro, fun _ _ _ => 0, [], false, false⟩,
  ⟨0x3003, 0x40, 16, 1, 1, 0x06, 1, .int 4, .ro, .ro, .ro, fun _ _ _ => 0, [], false, false⟩,
  ⟨0x3003, 0x40, 16, 1, 1, 0x07, 1, .uns 2, .ro, .ro, .ro, fun _ _ _ => 65535, [], false, false⟩,
  ⟨0x3003, 0x40, 16, 1, 1, 0x08, 1, .uns 4, .ro, .ro, .ro, fun _ _ _ => 0, [], false, false⟩,
  ⟨0x3003, 0x40, 16, 1, 1, 0x09, 1, .uns 1, .ro, .ro, .ro, fun _ _ _ => 0, [(0, 2)], false, false⟩,
  ⟨0x3004, 0x40, 16, 1, 1, 0x00, 1, .uns 1, .const, .const, .const, fun _ _ _ => 7, [], false, false⟩,
  ⟨0x3004, 0x40, 16, 1, 1, 0x01, 1, .uns 4, .ro, .ro, .ro, fun _ _ _ => 0, [], false, false⟩,
  ⟨0x3004, 0x40, 16, 1, 1, 0x02, 1, .uns 4, .ro, .ro, .ro, fun _ _ _ => 0, [], false, false⟩,
  ⟨0x3004, 0x40, 16, 1, 1, 0x03, 1, .uns 4, .ro, .ro, .ro, fun _ _ _ => 0, [], false, false⟩,
  ⟨0x3004, 0x40, 16, 1, 1, 0x04, 1, .uns 4, .ro, .ro, .ro, fun _ _ _ => 0, [], false, false⟩,
  ⟨0x3004, 0x40, 16, 1, 1, 0x05, 1, .uns 4, .ro, .ro, .ro, fun _ _ _ => 0, [], false, false⟩,
  ⟨0x3004, 0x40, 16, 1, 1, 0x06, 1, .uns 4, .ro, .ro, .ro, fun _ _ _ => 0, [], false, false⟩,
  ⟨0x3004, 0x40, 16, 1, 1, 0x07, 1, .uns 4, .ro, .ro, .ro, fun _ _ _ => 0, [], false, false⟩,
  ⟨0x3008, 0x40, 16, 1, 1, 0x00, 1, .uns 1, .const, .const, .const, fun _ _ _ => 13, [], false, false⟩,
  ⟨0x3008, 0x40, 16, 1, 1, 0x01, 9, .int 2, .ro, .rw, .ro, fun _ _ k => if k % 4 = 0 then 4096 else 0, [], false, true⟩,
  ⟨0x3008, 0x40, 16, 1, 1, 0x0A, 3, .int 2, .ro, .rw, .ro, fun _ _ _ => 0, [], false, true⟩,
  ⟨0x3008, 0x40, 16, 1, 1, 0x0D, 1, .uns 1, .ro, .rw, .ro, fun _ _ _ => 0, [(0, 1)], false, true⟩,
  ⟨0x3009, 0x40, 16, 1, 1, 0x00, 1, .uns 1, .const, .const, .const, fun _ _ _ => 2, [], false, false⟩]

/-- Dictionary rows of the heads range, part 2: R179, R183. -/
def rows_heads_2 : List Row := [
  ⟨0x3009, 0x40, 16, 1, 1, 0x01, 1, .uns 1, .ro, .rw, .ro, fun _ _ _ => 0, [(0, 2)], false, true⟩,
  ⟨0x3009, 0x40, 16, 1, 1, 0x02, 1, .uns 4, .ro, .rw, .ro, fun _ _ _ => 0, [], false, true⟩,
  ⟨0x300A, 0x40, 16, 1, 1, 0x00, 1, .dom 6144 true, .ro, .rw, .none, fun _ _ _ => 0, [], false, true⟩,
  ⟨0x300B, 0x40, 16, 1, 1, 0x00, 1, .dom 6144 true, .ro, .rw, .none, fun _ _ _ => 0, [], false, true⟩,
  ⟨0x300C, 0x40, 16, 1, 1, 0x00, 1, .dom 1536 true, .ro, .rw, .none, fun _ _ _ => 0, [], false, true⟩,
  ⟨0x300D, 0x40, 16, 1, 1, 0x00, 1, .dom 1536 true, .ro, .rw, .none, fun _ _ _ => 0, [], false, true⟩,
  ⟨0x300E, 0x40, 16, 1, 1, 0x00, 1, .uns 1, .const, .const, .const, fun _ _ _ => 11, [], false, false⟩,
  ⟨0x300E, 0x40, 16, 1, 1, 0x01, 1, .uns 1, .ro, .ro, .ro, fun _ _ _ => 255, [(0, 7)], false, false⟩,
  ⟨0x300E, 0x40, 16, 1, 1, 0x02, 1, .uns 1, .ro, .ro, .ro, fun _ _ _ => 0, [], false, false⟩,
  ⟨0x300E, 0x40, 16, 1, 1, 0x03, 1, .uns 1, .ro, .ro, .ro, fun _ _ _ => 192, [], false, false⟩,
  ⟨0x300E, 0x40, 16, 1, 1, 0x04, 1, .uns 4, .ro, .ro, .ro, fun _ _ _ => 0, [], false, false⟩,
  ⟨0x300E, 0x40, 16, 1, 1, 0x05, 1, .uns 4, .ro, .ro, .ro, fun _ _ _ => 0, [], false, false⟩,
  ⟨0x300E, 0x40, 16, 1, 1, 0x06, 1, .uns 1, .ro, .ro, .ro, fun _ _ _ => 0, [], false, false⟩,
  ⟨0x300E, 0x40, 16, 1, 1, 0x07, 1, .uns 4, .ro, .ro, .ro, fun _ _ _ => 0, [], false, false⟩,
  ⟨0x300E, 0x40, 16, 1, 1, 0x08, 1, .uns 4, .ro, .ro, .ro, fun _ _ _ => 0, [], false, false⟩,
  ⟨0x300E, 0x40, 16, 1, 1, 0x09, 1, .uns 4, .ro, .ro, .ro, fun _ _ _ => 0, [], false, false⟩,
  ⟨0x300E, 0x40, 16, 1, 1, 0x0A, 1, .uns 4, .ro, .ro, .ro, fun _ _ _ => 0, [], false, false⟩,
  ⟨0x300E, 0x40, 16, 1, 1, 0x0B, 1, .uns 4, .ro, .ro, .ro, fun _ _ _ => 0, [], false, false⟩,
  ⟨0x300F, 0x40, 16, 1, 1, 0x00, 1, .dom 4096 false, .ro, .ro, .none, fun _ _ _ => 0, [], false, false⟩,
  ⟨0x3010, 0x40, 16, 4, 8, 0x00, 1, .uns 1, .const, .const, .const, fun _ _ _ => 20, [], false, false⟩,
  ⟨0x3010, 0x40, 16, 4, 8, 0x01, 1, .uns 1, .ro, .rw, .ro, fun _ _ _ => 0, [(0, 1)], false, true⟩,
  ⟨0x3010, 0x40, 16, 4, 8, 0x02, 1, .uns 1, .ro, .rw, .ro, fun _ _ _ => 0, [(0, 1)], false, true⟩,
  ⟨0x3010, 0x40, 16, 4, 8, 0x03, 1, .uns 1, .ro, .rw, .ro, fun _ _ _ => 0, [(0, 8)], false, true⟩,
  ⟨0x3010, 0x40, 16, 4, 8, 0x04, 1, .uns 2, .ro, .rw, .ro, fun _ _ _ => 0, [], false, true⟩]

/-- Dictionary rows of the heads range, part 3: R179, R180, R181. -/
def rows_heads_3 : List Row := [
  ⟨0x3010, 0x40, 16, 4, 8, 0x05, 1, .uns 2, .ro, .rw, .ro, fun _ _ _ => 0, [], false, true⟩,
  ⟨0x3010, 0x40, 16, 4, 8, 0x06, 1, .uns 2, .ro, .rw, .ro, fun _ _ _ => 64, [(1, 16384)], false, true⟩,
  ⟨0x3010, 0x40, 16, 4, 8, 0x07, 1, .uns 2, .ro, .rw, .ro, fun _ _ _ => 64, [(1, 16384)], false, true⟩,
  ⟨0x3010, 0x40, 16, 4, 8, 0x08, 1, .uns 2, .ro, .rw, .ro, fun _ _ _ => 0, [(0, 16383)], false, true⟩,
  ⟨0x3010, 0x40, 16, 4, 8, 0x09, 1, .uns 2, .ro, .rw, .ro, fun _ _ _ => 0, [(0, 16383)], false, true⟩,
  ⟨0x3010, 0x40, 16, 4, 8, 0x0A, 1, .uns 2, .ro, .rw, .ro, fun _ _ _ => 64, [(1, 8192)], false, true⟩,
  ⟨0x3010, 0x40, 16, 4, 8, 0x0B, 1, .uns 2, .ro, .rw, .ro, fun _ _ _ => 64, [(1, 16384)], false, true⟩,
  ⟨0x3010, 0x40, 16, 4, 8, 0x0C, 1, .uns 1, .ro, .rw, .ro, fun _ _ _ => 255, [(0, 255)], false, true⟩,
  ⟨0x3010, 0x40, 16, 4, 8, 0x0D, 1, .uns 1, .ro, .rw, .ro, fun _ _ _ => 0, [(0, 2)], false, true⟩,
  ⟨0x3010, 0x40, 16, 4, 8, 0x0E, 1, .uns 1, .ro, .rw, .ro, fun _ j _ => j, [(0, 7)], false, true⟩,
  ⟨0x3010, 0x40, 16, 4, 8, 0x0F, 1, .uns 1, .ro, .rw, .ro, fun _ _ _ => 4, [(4, 4), (8, 8), (16, 16)], false, true⟩,
  ⟨0x3010, 0x40, 16, 4, 8, 0x10, 1, .uns 1, .ro, .rw, .ro, fun _ _ _ => 0, [(0, 2)], false, true⟩,
  ⟨0x3010, 0x40, 16, 4, 8, 0x11, 1, .uns 1, .ro, .rw, .ro, fun _ _ _ => 0, [(0, 1)], false, true⟩,
  ⟨0x3010, 0x40, 16, 4, 8, 0x12, 1, .uns 1, .ro, .rw, .ro, fun _ _ _ => 3, [(1, 15)], false, true⟩,
  ⟨0x3010, 0x40, 16, 4, 8, 0x13, 1, .uns 4, .ro, .rw, .ro, fun _ _ _ => 4282400832, [], false, true⟩,
  ⟨0x3010, 0x40, 16, 4, 8, 0x14, 1, .uns 1, .ro, .rw, .ro, fun _ _ _ => 1, [(0, 1)], false, true⟩,
  ⟨0x3011, 0x40, 16, 4, 8, 0x00, 1, .uns 1, .const, .const, .const, fun _ _ _ => 13, [], false, false⟩,
  ⟨0x3011, 0x40, 16, 4, 8, 0x01, 9, .int 2, .ro, .rw, .ro, fun _ _ k => if k % 4 = 0 then 4096 else 0, [], false, true⟩,
  ⟨0x3011, 0x40, 16, 4, 8, 0x0A, 3, .int 2, .ro, .rw, .ro, fun _ _ _ => 0, [], false, true⟩,
  ⟨0x3011, 0x40, 16, 4, 8, 0x0D, 1, .uns 1, .ro, .rw, .ro, fun _ _ _ => 0, [(0, 1)], false, true⟩,
  ⟨0x3012, 0x40, 16, 4, 8, 0x00, 1, .uns 1, .const, .const, .const, fun _ _ _ => 5, [], false, false⟩,
  ⟨0x3012, 0x40, 16, 4, 8, 0x01, 1, .uns 1, .ro, .rw, .ro, fun _ _ _ => 0, [(0, 1)], false, true⟩,
  ⟨0x3012, 0x40, 16, 4, 8, 0x02, 1, .uns 2, .ro, .rw, .ro, fun _ _ _ => 65535, [], false, true⟩,
  ⟨0x3012, 0x40, 16, 4, 8, 0x03, 1, .uns 4, .ro, .rw, .rw, fun _ _ _ => 0, [], false, false⟩]

/-- Dictionary rows of the heads range, part 4: R181, R182. -/
def rows_heads_4 : List Row := [
  ⟨0x3012, 0x40, 16, 4, 8, 0x04, 1, .uns 2, .ro, .rw, .rw, fun _ _ _ => 0, [], false, false⟩,
  ⟨0x3012, 0x40, 16, 4, 8, 0x05, 1, .uns 4, .ro, .rw, .rw, fun _ _ _ => 0, [], false, false⟩,
  ⟨0x3013, 0x40, 16, 4, 8, 0x00, 1, .uns 1, .const, .const, .const, fun _ _ _ => 9, [], false, false⟩,
  ⟨0x3013, 0x40, 16, 4, 8, 0x01, 1, .uns 2, .ro, .ro, .ro, fun _ _ _ => 65535, [], false, false⟩,
  ⟨0x3013, 0x40, 16, 4, 8, 0x02, 1, .uns 4, .ro, .ro, .ro, fun _ _ _ => 0, [], false, false⟩,
  ⟨0x3013, 0x40, 16, 4, 8, 0x03, 1, .uns 4, .ro, .ro, .ro, fun _ _ _ => 0, [], false, false⟩,
  ⟨0x3013, 0x40, 16, 4, 8, 0x04, 1, .uns 4, .ro, .ro, .ro, fun _ _ _ => 0, [], false, false⟩,
  ⟨0x3013, 0x40, 16, 4, 8, 0x05, 1, .uns 4, .ro, .ro, .ro, fun _ _ _ => 0, [], false, false⟩,
  ⟨0x3013, 0x40, 16, 4, 8, 0x06, 1, .uns 4, .ro, .ro, .ro, fun _ _ _ => 0, [], false, false⟩,
  ⟨0x3013, 0x40, 16, 4, 8, 0x07, 1, .uns 4, .ro, .ro, .ro, fun _ _ _ => 0, [], false, false⟩,
  ⟨0x3013, 0x40, 16, 4, 8, 0x08, 1, .uns 4, .ro, .ro, .ro, fun _ _ _ => 0, [], false, false⟩,
  ⟨0x3013, 0x40, 16, 4, 8, 0x09, 1, .uns 1, .ro, .ro, .ro, fun _ _ _ => 0, [], false, false⟩]

/-- The rows of the heads range (R71). -/
def rows_heads : List Row := rows_heads_0 ++ rows_heads_1 ++ rows_heads_2 ++ rows_heads_3 ++ rows_heads_4

/-- Dictionary rows of the ports range, part 0: R219, R226, R227. -/
def rows_ports_0 : List Row := [
  ⟨0x3400, 0x1, 1, 1, 1, 0x00, 1, .uns 1, .const, .const, .const, fun _ _ _ => 16, [], false, false⟩,
  ⟨0x3400, 0x1, 1, 1, 1, 0x01, 16, .uns 1, .ro, .rw, .ro, fun _ _ _ => 255, [(0, 7), (16, 23), (32, 35), (48, 51), (255, 255)], false, true⟩,
  ⟨0x3401, 0x1, 16, 1, 1, 0x00, 1, .uns 1, .const, .const, .const, fun _ _ _ => 13, [], false, false⟩,
  ⟨0x3401, 0x1, 16, 1, 1, 0x01, 1, .uns 1, .ro, .rw, .ro, fun _ _ _ => 0, [(0, 1)], false, true⟩,
  ⟨0x3401, 0x1, 8, 1, 1, 0x02, 1, .uns 1, .ro, .rw, .ro, fun _ _ _ => 4, [(1, 2), (4, 4)], false, true⟩,
  ⟨0x3401, 0x1, 8, 1, 1, 0x03, 1, .uns 2, .ro, .rw, .ro, fun _ _ _ => 3, [(0, 3)], false, true⟩,
  ⟨0x3401, 0x1, 12, 1, 1, 0x04, 1, .uns 1, .ro, .rw, .ro, fun _ _ _ => 8, [(6, 6), (8, 8), (10, 10)], false, true⟩,
  ⟨0x3401, 0x1, 16, 1, 1, 0x05, 1, .uns 1, .ro, .rw, .ro, fun _ _ _ => 0, [(0, 1)], false, true⟩,
  ⟨0x3401, 0x1, 16, 1, 1, 0x06, 1, .uns 1, .ro, .rw, .ro, fun _ _ _ => 0, [(0, 1)], false, true⟩,
  ⟨0x3401, 0x1, 16, 1, 1, 0x07, 1, .uns 1, .ro, .rw, .ro, fun _ _ _ => 0, [(0, 1)], false, true⟩,
  ⟨0x3401, 0x1, 16, 1, 1, 0x08, 1, .uns 1, .ro, .rw, .ro, fun _ _ _ => 0, [(0, 1)], false, true⟩,
  ⟨0x3401, 0x1, 16, 1, 1, 0x09, 1, .uns 2, .ro, .rw, .ro, fun _ _ _ => 192, [(128, 65535)], false, true⟩,
  ⟨0x3401, 0x1, 16, 1, 1, 0x0A, 1, .uns 1, .ro, .rw, .ro, fun _ _ _ => 2, [(1, 2), (4, 4), (8, 8)], false, true⟩,
  ⟨0x3401, 0x1, 16, 1, 1, 0x0B, 1, .uns 2, .ro, .rw, .ro, fun _ _ _ => 108, [(8, 4096)], false, true⟩,
  ⟨0x3401, 0x1, 16, 1, 1, 0x0C, 1, .uns 1, .ro, .rw, .ro, fun _ _ _ => 0, [(0, 1)], false, true⟩,
  ⟨0x3401, 0x1, 16, 1, 1, 0x0D, 1, .dom 1024 false, .ro, .rw, .none, fun _ _ _ => 0, [], false, true⟩,
  ⟨0x3409, 0x1, 4, 1, 1, 0x02, 1, .uns 1, .ro, .rw, .ro, fun _ _ _ => 4, [(1, 4)], false, true⟩,
  ⟨0x3409, 0x1, 4, 1, 1, 0x03, 1, .uns 2, .ro, .rw, .ro, fun _ _ _ => 2500, [(80, 2500)], false, true⟩,
  ⟨0x340D, 0x1, 4, 1, 1, 0x02, 1, .uns 1, .ro, .rw, .ro, fun _ _ _ => 4, [], false, true⟩,
  ⟨0x340D, 0x1, 4, 1, 1, 0x03, 1, .uns 2, .ro, .rw, .ro, fun _ _ _ => 2500, [], false, true⟩,
  ⟨0x340D, 0x1, 4, 1, 1, 0x04, 1, .uns 1, .ro, .rw, .ro, fun _ _ _ => 8, [(6, 6), (8, 8)], false, true⟩,
  ⟨0x3411, 0x1, 16, 1, 1, 0x00, 1, .uns 1, .const, .const, .const, fun _ _ _ => 7, [], false, false⟩,
  ⟨0x3411, 0x1, 16, 1, 1, 0x01, 1, .uns 1, .ro, .ro, .ro, fun _ _ _ => 0, [(0, 4)], false, false⟩,
  ⟨0x3411, 0x1, 16, 1, 1, 0x02, 1, .uns 1, .ro, .ro, .ro, fun _ _ _ => 0, [], false, false⟩]

/-- Dictionary rows of the ports range, part 1: R227. -/
def rows_ports_1 : List Row := [
  ⟨0x3411, 0x1, 16, 1, 1, 0x03, 1, .uns 4, .ro, .ro, .ro, fun _ _ _ => 0, [], false, false⟩,
  ⟨0x3411, 0x1, 16, 1, 1, 0x04, 1, .uns 4, .ro, .ro, .ro, fun _ _ _ => 0, [], false, false⟩,
  ⟨0x3411, 0x1, 16, 1, 1, 0x05, 1, .uns 4, .ro, .ro, .ro, fun _ _ _ => 0, [], false, false⟩,
  ⟨0x3411, 0x1, 16, 1, 1, 0x06, 1, .uns 4, .ro, .ro, .ro, fun _ _ _ => 0, [], false, false⟩,
  ⟨0x3411, 0x1, 16, 1, 1, 0x07, 1, .uns 1, .ro, .ro, .ro, fun _ _ _ => 0, [], false, false⟩]

/-- The rows of the ports range (R71). -/
def rows_ports : List Row := rows_ports_0 ++ rows_ports_1

/-- Dictionary rows of the cameo range, part 0: R262, R263, R264. -/
def rows_cameo_0 : List Row := [
  ⟨0x3800, 0x4, 16, 1, 1, 0x00, 1, .uns 1, .const, .const, .const, fun _ _ _ => 10, [], false, false⟩,
  ⟨0x3800, 0x4, 16, 1, 1, 0x01, 1, .uns 2, .ro, .ro, .ro, fun _ _ _ => 0, [], false, false⟩,
  ⟨0x3800, 0x4, 16, 1, 1, 0x06, 1, .uns 2, .ro, .ro, .ro, fun _ _ _ => 0, [], false, false⟩,
  ⟨0x3800, 0x4, 16, 1, 1, 0x02, 1, .uns 2, .ro, .ro, .ro, fun _ _ _ => 0, [], false, false⟩,
  ⟨0x3800, 0x4, 16, 1, 1, 0x07, 1, .uns 2, .ro, .ro, .ro, fun _ _ _ => 0, [], false, false⟩,
  ⟨0x3800, 0x4, 16, 1, 1, 0x03, 1, .uns 2, .ro, .ro, .ro, fun _ _ _ => 0, [(0, 8192)], false, false⟩,
  ⟨0x3800, 0x4, 16, 1, 1, 0x08, 1, .uns 2, .ro, .ro, .ro, fun _ _ _ => 0, [(0, 8192)], false, false⟩,
  ⟨0x3800, 0x4, 16, 1, 1, 0x04, 1, .uns 2, .ro, .ro, .ro, fun _ _ _ => 0, [(0, 8192)], false, false⟩,
  ⟨0x3800, 0x4, 16, 1, 1, 0x09, 1, .uns 2, .ro, .ro, .ro, fun _ _ _ => 0, [(0, 8192)], false, false⟩,
  ⟨0x3800, 0x4, 16, 1, 1, 0x05, 1, .uns 1, .ro, .ro, .ro, fun _ _ _ => 0, [(0, 3)], false, false⟩,
  ⟨0x3800, 0x4, 16, 1, 1, 0x0A, 1, .uns 1, .ro, .ro, .ro, fun _ _ _ => 0, [(0, 3)], false, false⟩,
  ⟨0x3801, 0x4, 16, 1, 1, 0x00, 1, .uns 1, .const, .const, .const, fun _ _ _ => 8, [], false, false⟩,
  ⟨0x3801, 0x4, 16, 1, 1, 0x01, 8, .oct 16, .ro, .ro, .ro, fun _ _ _ => 0, [], false, false⟩,
  ⟨0x3802, 0x4, 16, 1, 1, 0x00, 1, .uns 1, .const, .const, .const, fun _ _ _ => 16, [], false, false⟩,
  ⟨0x3802, 0x4, 16, 1, 1, 0x01, 8, .uns 4, .ro, .ro, .ro, fun _ _ _ => 0, [], false, false⟩,
  ⟨0x3802, 0x4, 16, 1, 1, 0x09, 8, .uns 4, .ro, .ro, .ro, fun _ _ _ => 0, [], false, false⟩,
  ⟨0x3803, 0x4, 16, 1, 1, 0x00, 1, .uns 1, .const, .const, .const, fun _ _ _ => 8, [], false, false⟩,
  ⟨0x3803, 0x4, 16, 1, 1, 0x01, 1, .uns 1, .ro, .ro, .ro, fun _ _ _ => 0, [(0, 2)], false, false⟩,
  ⟨0x3803, 0x4, 16, 1, 1, 0x02, 1, .uns 4, .ro, .ro, .ro, fun _ _ _ => 0, [], false, false⟩,
  ⟨0x3803, 0x4, 16, 1, 1, 0x03, 1, .uns 4, .ro, .ro, .ro, fun _ _ _ => 0, [], false, false⟩,
  ⟨0x3803, 0x4, 16, 1, 1, 0x04, 1, .uns 4, .ro, .ro, .ro, fun _ _ _ => 0, [], false, false⟩,
  ⟨0x3803, 0x4, 16, 1, 1, 0x05, 1, .uns 4, .ro, .ro, .ro, fun _ _ _ => 0, [], false, false⟩,
  ⟨0x3803, 0x4, 16, 1, 1, 0x06, 1, .uns 4, .ro, .ro, .ro, fun _ _ _ => 0, [], false, false⟩,
  ⟨0x3803, 0x4, 16, 1, 1, 0x07, 1, .uns 1, .ro, .ro, .ro, fun _ _ _ => 255, [], false, false⟩]

/-- Dictionary rows of the cameo range, part 1: R264, R265. -/
def rows_cameo_1 : List Row := [
  ⟨0x3803, 0x4, 16, 1, 1, 0x08, 1, .uns 4, .ro, .ro, .ro, fun _ _ _ => 0, [], false, false⟩,
  ⟨0x3840, 0x1, 1, 1, 1, 0x00, 1, .uns 1, .const, .const, .none, fun _ _ _ => 16, [], false, false⟩,
  ⟨0x3840, 0x1, 1, 1, 1, 0x01, 16, .uns 2, .ro, .ro, .none, fun _ _ k => if k < 8 then 0xFFFF else 0xFFFE, [], false, false⟩,
  ⟨0x3841, 0x1, 1, 1, 1, 0x00, 1, .uns 1, .const, .const, .none, fun _ _ _ => 4, [], false, false⟩,
  ⟨0x3841, 0x1, 1, 1, 1, 0x01, 1, .uns 1, .ro, .ro, .none, fun _ _ _ => 0, [(0, 1)], false, false⟩,
  ⟨0x3841, 0x1, 1, 1, 1, 0x02, 1, .uns 2, .ro, .ro, .none, fun _ _ _ => 0, [(100, 2000)], false, false⟩,
  ⟨0x3841, 0x1, 1, 1, 1, 0x03, 1, .uns 2, .ro, .ro, .none, fun _ _ _ => 0, [(0, 256)], false, false⟩,
  ⟨0x3841, 0x1, 1, 1, 1, 0x04, 1, .uns 4, .ro, .ro, .none, fun _ _ _ => 0, [], false, false⟩]

/-- The rows of the cameo range (R71). -/
def rows_cameo : List Row := rows_cameo_0 ++ rows_cameo_1

/-- Dictionary rows of the audio range, part 0: R314, R316. -/
def rows_audio_0 : List Row := [
  ⟨0x4400, 0x1, 1, 1, 1, 0x00, 1, .uns 1, .const, .const, .none, fun _ _ _ => 3, [], false, false⟩,
  ⟨0x4400, 0x1, 1, 1, 1, 0x01, 1, .uns 1, .ro, .rw, .none, fun _ _ _ => 0, [(0, 6)], false, true⟩,
  ⟨0x4400, 0x1, 1, 1, 1, 0x02, 1, .uns 1, .ro, .rw, .none, fun _ _ _ => 0, [(0, 7)], false, true⟩,
  ⟨0x4400, 0x1, 1, 1, 1, 0x03, 1, .uns 1, .ro, .rw, .none, fun _ _ _ => 0, [(0, 6)], false, true⟩,
  ⟨0x4401, 0x1, 1, 1, 1, 0x00, 1, .uns 1, .const, .const, .none, fun _ _ _ => 6, [], false, false⟩,
  ⟨0x4401, 0x1, 1, 1, 1, 0x01, 3, .uns 1, .ro, .ro, .none, fun _ _ _ => 0, [(0, 2)], false, false⟩,
  ⟨0x4401, 0x1, 1, 1, 1, 0x04, 1, .uns 4, .ro, .ro, .none, fun _ _ _ => 0, [], false, false⟩,
  ⟨0x4401, 0x1, 1, 1, 1, 0x05, 1, .uns 4, .ro, .ro, .none, fun _ _ _ => 0, [], false, false⟩,
  ⟨0x4401, 0x1, 1, 1, 1, 0x06, 1, .uns 4, .ro, .ro, .none, fun _ _ _ => 0, [], false, false⟩,
  ⟨0x4410, 0x1, 6, 1, 1, 0x00, 1, .uns 1, .const, .const, .none, fun _ _ _ => 11, [], false, false⟩,
  ⟨0x4410, 0x1, 6, 1, 1, 0x01, 1, .uns 1, .ro, .rw, .none, fun _ _ _ => 0, [(0, 1)], false, true⟩,
  ⟨0x4410, 0x1, 6, 1, 1, 0x02, 1, .uns 1, .ro, .rw, .none, fun _ _ _ => 0, [(0, 2)], false, true⟩,
  ⟨0x4410, 0x1, 6, 1, 1, 0x03, 1, .uns 1, .ro, .rw, .none, fun _ _ _ => 0, [(0, 1)], false, true⟩,
  ⟨0x4410, 0x1, 6, 1, 1, 0x04, 1, .uns 1, .ro, .rw, .none, fun _ _ _ => 8, [(1, 16)], false, true⟩,
  ⟨0x4410, 0x1, 6, 1, 1, 0x05, 1, .uns 1, .ro, .rw, .none, fun _ _ _ => 32, [(16, 16), (24, 24), (32, 32)], false, true⟩,
  ⟨0x4410, 0x1, 6, 1, 1, 0x06, 1, .uns 1, .ro, .rw, .none, fun _ _ _ => 24, [(16, 16), (24, 24), (32, 32)], false, true⟩,
  ⟨0x4410, 0x1, 6, 1, 1, 0x07, 1, .uns 1, .ro, .rw, .none, fun _ _ _ => 0, [], false, true⟩,
  ⟨0x4410, 0x1, 6, 1, 1, 0x08, 1, .uns 1, .ro, .rw, .none, fun _ _ _ => 255, [(0, 15), (255, 255)], false, true⟩,
  ⟨0x4410, 0x1, 6, 1, 1, 0x09, 1, .uns 1, .ro, .rw, .none, fun _ _ _ => 255, [(0, 15), (255, 255)], false, true⟩,
  ⟨0x4410, 0x1, 6, 1, 1, 0x0A, 1, .oct 16, .ro, .rw, .none, fun _ _ _ => 2 ^ 128 - 1, [], false, true⟩,
  ⟨0x4410, 0x1, 6, 1, 1, 0x0B, 1, .uns 1, .ro, .rw, .none, fun _ _ _ => 0, [(0, 1)], false, true⟩,
  ⟨0x4418, 0x1, 6, 1, 1, 0x00, 1, .uns 1, .const, .const, .none, fun _ _ _ => 3, [], false, false⟩,
  ⟨0x4418, 0x1, 6, 1, 1, 0x01, 1, .uns 1, .ro, .ro, .none, fun _ _ _ => 0, [(0, 4)], false, false⟩,
  ⟨0x4418, 0x1, 6, 1, 1, 0x02, 1, .uns 4, .ro, .ro, .none, fun _ _ _ => 0, [], false, false⟩]

/-- Dictionary rows of the audio range, part 1: R316, R319, R320, R321, R328. -/
def rows_audio_1 : List Row := [
  ⟨0x4418, 0x1, 6, 1, 1, 0x03, 1, .uns 4, .ro, .ro, .none, fun _ _ _ => 0, [], false, false⟩,
  ⟨0x4420, 0x1, 8, 1, 1, 0x00, 1, .uns 1, .const, .const, .none, fun _ _ _ => 3, [], false, false⟩,
  ⟨0x4420, 0x1, 8, 1, 1, 0x01, 1, .uns 1, .ro, .rw, .none, fun _ _ _ => 0, [(0, 1)], false, true⟩,
  ⟨0x4420, 0x1, 8, 1, 1, 0x02, 1, .uns 1, .ro, .rw, .none, fun _ _ _ => 0, [(0, 1)], false, true⟩,
  ⟨0x4420, 0x1, 8, 1, 1, 0x03, 1, .uns 1, .ro, .rw, .none, fun _ _ _ => 0, [(0, 0), (2, 2)], false, true⟩,
  ⟨0x4430, 0x1, 8, 1, 1, 0x00, 1, .uns 1, .const, .const, .none, fun _ _ _ => 5, [], false, false⟩,
  ⟨0x4430, 0x1, 8, 1, 1, 0x01, 1, .uns 1, .ro, .rw, .none, fun _ _ _ => 0, [(0, 2)], false, true⟩,
  ⟨0x4430, 0x1, 8, 1, 1, 0x02, 1, .uns 1, .ro, .rw, .none, fun _ _ _ => 0, [], false, true⟩,
  ⟨0x4430, 0x1, 8, 1, 1, 0x03, 1, .uns 1, .ro, .rw, .none, fun _ _ _ => 0, [], false, true⟩,
  ⟨0x4430, 0x1, 8, 1, 1, 0x04, 1, .int 2, .ro, .rw, .none, fun _ _ _ => 65336, [(-600, 120)], false, true⟩,
  ⟨0x4430, 0x1, 8, 1, 1, 0x05, 1, .uns 1, .ro, .rw, .none, fun _ _ _ => 0, [(0, 1)], false, false⟩,
  ⟨0x4440, 0x1, 16, 1, 1, 0x00, 1, .uns 1, .const, .const, .none, fun _ _ _ => 8, [], false, false⟩,
  ⟨0x4440, 0x1, 16, 1, 1, 0x01, 1, .uns 1, .ro, .rw, .none, fun _ _ _ => 0, [(0, 3)], false, true⟩,
  ⟨0x4440, 0x1, 16, 1, 1, 0x02, 1, .uns 1, .ro, .rw, .none, fun _ _ _ => 0, [(0, 2)], false, true⟩,
  ⟨0x4440, 0x1, 16, 1, 1, 0x03, 1, .uns 1, .ro, .rw, .none, fun _ _ _ => 0, [(0, 2)], false, true⟩,
  ⟨0x4440, 0x1, 16, 1, 1, 0x04, 1, .uns 1, .ro, .rw, .none, fun _ _ _ => 2, [(1, 16)], false, true⟩,
  ⟨0x4440, 0x1, 16, 1, 1, 0x05, 1, .uns 1, .ro, .rw, .none, fun _ _ _ => 0, [], false, true⟩,
  ⟨0x4440, 0x1, 16, 1, 1, 0x06, 1, .uns 1, .ro, .ro, .none, fun _ _ _ => 0, [(0, 2)], false, false⟩,
  ⟨0x4440, 0x1, 16, 1, 1, 0x07, 1, .uns 4, .ro, .ro, .none, fun _ _ _ => 0, [], false, false⟩,
  ⟨0x4440, 0x1, 16, 1, 1, 0x08, 1, .uns 4, .ro, .ro, .none, fun _ _ _ => 0, [], false, false⟩,
  ⟨0x4460, 0x1, 64, 1, 1, 0x00, 1, .uns 1, .const, .const, .none, fun _ _ _ => 12, [], false, false⟩,
  ⟨0x4460, 0x1, 64, 1, 1, 0x01, 1, .uns 1, .ro, .rw, .none, fun _ _ _ => 0, [(0, 5)], false, true⟩,
  ⟨0x4460, 0x1, 64, 1, 1, 0x02, 1, .uns 1, .ro, .rw, .none, fun _ _ _ => 0, [], false, true⟩,
  ⟨0x4460, 0x1, 64, 1, 1, 0x03, 1, .uns 1, .ro, .rw, .none, fun _ _ _ => 0, [(0, 2)], false, true⟩]

/-- Dictionary rows of the audio range, part 2: R321, R323, R325, R330. -/
def rows_audio_2 : List Row := [
  ⟨0x4460, 0x1, 64, 1, 1, 0x04, 1, .int 2, .ro, .rw, .none, fun _ _ _ => 0, [(-32768, -32768), (-1000, 240)], false, true⟩,
  ⟨0x4460, 0x1, 64, 1, 1, 0x05, 1, .oct 200, .ro, .rw, .none, fun _ _ _ => eqDefault, [], false, true⟩,
  ⟨0x4460, 0x1, 64, 1, 1, 0x06, 1, .uns 1, .ro, .rw, .none, fun _ _ _ => 0, [(0, 1)], false, true⟩,
  ⟨0x4460, 0x1, 64, 1, 1, 0x07, 1, .int 2, .ro, .rw, .none, fun _ _ _ => 65336, [(-600, 0)], false, true⟩,
  ⟨0x4460, 0x1, 64, 1, 1, 0x08, 1, .uns 1, .ro, .rw, .none, fun _ _ _ => 40, [(10, 200), (255, 255)], false, true⟩,
  ⟨0x4460, 0x1, 64, 1, 1, 0x09, 1, .uns 2, .ro, .rw, .none, fun _ _ _ => 50, [(1, 1000)], false, true⟩,
  ⟨0x4460, 0x1, 64, 1, 1, 0x0A, 1, .uns 2, .ro, .rw, .none, fun _ _ _ => 200, [(1, 2000)], false, true⟩,
  ⟨0x4460, 0x1, 64, 1, 1, 0x0B, 1, .uns 2, .ro, .rw, .none, fun _ _ _ => 0, [(0, 240)], false, true⟩,
  ⟨0x4460, 0x1, 64, 1, 1, 0x0C, 1, .uns 2, .ro, .rw, .none, fun _ _ _ => 0, [(0, 1000)], false, true⟩,
  ⟨0x44A0, 0x1, 32, 1, 1, 0x00, 1, .uns 1, .const, .const, .none, fun _ _ _ => 6, [], false, false⟩,
  ⟨0x44A0, 0x1, 32, 1, 1, 0x01, 1, .uns 1, .ro, .rw, .none, fun _ _ _ => 0, [(0, 2)], false, true⟩,
  ⟨0x44A0, 0x1, 32, 1, 1, 0x02, 1, .int 2, .ro, .rw, .none, fun _ _ _ => 0, [(-32768, -32768), (-1000, 240)], false, true⟩,
  ⟨0x44A0, 0x1, 32, 1, 1, 0x03, 1, .int 2, .ro, .rw, .none, fun _ _ _ => 64636, [(-1200, -200)], false, true⟩,
  ⟨0x44A0, 0x1, 32, 1, 1, 0x04, 1, .uns 2, .ro, .rw, .none, fun _ _ _ => 2000, [(10, 60000)], false, true⟩,
  ⟨0x44A0, 0x1, 32, 1, 1, 0x05, 1, .uns 1, .ro, .ro, .none, fun _ _ _ => 0, [(0, 1)], false, false⟩,
  ⟨0x44A0, 0x1, 32, 1, 1, 0x06, 1, .uns 4, .ro, .ro, .none, fun _ _ _ => 0, [], false, false⟩,
  ⟨0x44E0, 0x1, 3, 1, 1, 0x00, 1, .dom 4096 false, .ro, .rw, .none, fun _ _ _ => 0, [], false, true⟩,
  ⟨0x44F0, 0x1, 32, 1, 1, 0x00, 1, .uns 1, .const, .const, .none, fun _ _ _ => 7, [], false, false⟩,
  ⟨0x44F0, 0x1, 32, 1, 1, 0x01, 1, .uns 1, .ro, .rw, .none, fun _ _ _ => 0, [(0, 1)], false, true⟩,
  ⟨0x44F0, 0x1, 32, 1, 1, 0x02, 1, .uns 1, .ro, .rw, .none, fun _ _ _ => 2, [(1, 8)], false, true⟩,
  ⟨0x44F0, 0x1, 32, 1, 1, 0x03, 1, .uns 1, .ro, .rw, .none, fun _ _ _ => 0, [], false, true⟩,
  ⟨0x44F0, 0x1, 32, 1, 1, 0x04, 1, .uns 8, .ro, .rw, .none, fun _ _ _ => 1, [], false, true⟩,
  ⟨0x44F0, 0x1, 32, 1, 1, 0x05, 1, .uns 2, .ro, .ro, .none, fun _ _ _ => 65535, [], false, false⟩,
  ⟨0x44F0, 0x1, 32, 1, 1, 0x06, 1, .uns 1, .ro, .ro, .none, fun _ _ _ => 0, [], false, false⟩]

/-- Dictionary rows of the audio range, part 3: R330, R335. -/
def rows_audio_3 : List Row := [
  ⟨0x44F0, 0x1, 32, 1, 1, 0x07, 1, .uns 4, .ro, .ro, .none, fun _ _ _ => 0, [], false, false⟩,
  ⟨0x4510, 0x1, 1, 1, 1, 0x00, 1, .uns 1, .const, .const, .none, fun _ _ _ => 9, [], false, false⟩,
  ⟨0x4510, 0x1, 1, 1, 1, 0x01, 8, .uns 4, .ro, .rw, .none, fun _ _ _ => 0, [], false, true⟩,
  ⟨0x4510, 0x1, 1, 1, 1, 0x09, 1, .uns 1, .ro, .ro, .none, fun _ _ _ => 0, [], false, false⟩]

/-- The rows of the audio range (R71). -/
def rows_audio : List Row := rows_audio_0 ++ rows_audio_1 ++ rows_audio_2 ++ rows_audio_3

/-- Dictionary rows of the touch range, part 0: R290, R291. -/
def rows_touch_0 : List Row := [
  ⟨0x4800, 0x10, 4, 1, 1, 0x00, 1, .uns 1, .const, .const, .const, fun _ _ _ => 11, [], false, false⟩,
  ⟨0x4800, 0x10, 4, 1, 1, 0x01, 1, .uns 1, .ro, .rw, .ro, fun _ _ _ => 0, [(0, 1)], false, true⟩,
  ⟨0x4800, 0x10, 4, 1, 1, 0x02, 1, .uns 1, .ro, .rw, .ro, fun _ _ _ => 0, [(0, 1)], false, true⟩,
  ⟨0x4800, 0x10, 4, 1, 1, 0x03, 1, .uns 1, .ro, .rw, .ro, fun _ _ _ => 255, [(0, 15), (255, 255)], false, true⟩,
  ⟨0x4800, 0x10, 4, 1, 1, 0x04, 1, .uns 1, .ro, .rw, .ro, fun _ _ _ => 4, [(1, 8)], false, true⟩,
  ⟨0x4800, 0x10, 4, 1, 1, 0x05, 1, .uns 2, .ro, .rw, .ro, fun _ _ _ => 240, [(60, 480)], false, true⟩,
  ⟨0x4800, 0x10, 4, 1, 1, 0x06, 1, .uns 1, .ro, .rw, .ro, fun _ _ _ => 24, [(1, 127)], false, true⟩,
  ⟨0x4800, 0x10, 4, 1, 1, 0x07, 1, .uns 1, .ro, .rw, .ro, fun _ _ _ => 40, [(1, 127)], false, true⟩,
  ⟨0x4800, 0x10, 4, 1, 1, 0x08, 1, .uns 2, .ro, .rw, .ro, fun _ _ _ => 700, [(100, 2000)], false, true⟩,
  ⟨0x4800, 0x10, 4, 1, 1, 0x09, 1, .uns 2, .ro, .rw, .ro, fun _ _ _ => 700, [(100, 2000)], false, true⟩,
  ⟨0x4800, 0x10, 4, 1, 1, 0x0A, 1, .oct 128, .ro, .rw, .ro, fun _ _ _ => channelMapDefault, [], false, true⟩,
  ⟨0x4800, 0x10, 4, 1, 1, 0x0B, 1, .uns 1, .ro, .rw, .ro, fun _ _ _ => 0, [], false, true⟩,
  ⟨0x4801, 0x10, 4, 1, 1, 0x00, 1, .uns 1, .const, .const, .const, fun _ _ _ => 9, [], false, false⟩,
  ⟨0x4801, 0x10, 4, 1, 1, 0x01, 1, .oct 16, .ro, .rw, .ro, fun _ _ _ => freqsDefault, [], false, true⟩,
  ⟨0x4801, 0x10, 4, 1, 1, 0x02, 1, .uns 1, .ro, .rw, .ro, fun _ _ _ => 33, [(10, 50)], false, true⟩,
  ⟨0x4801, 0x10, 4, 1, 1, 0x03, 1, .uns 1, .ro, .rw, .ro, fun _ _ _ => 2, [(1, 8)], false, true⟩,
  ⟨0x4801, 0x10, 4, 1, 1, 0x04, 1, .uns 1, .ro, .rw, .ro, fun _ _ _ => 8, [(1, 8)], false, true⟩,
  ⟨0x4801, 0x10, 4, 1, 1, 0x05, 1, .uns 2, .ro, .rw, .ro, fun _ _ _ => 20, [(5, 100)], false, true⟩,
  ⟨0x4801, 0x10, 4, 1, 1, 0x06, 1, .uns 2, .ro, .rw, .ro, fun _ _ _ => 40, [(5, 100)], false, true⟩,
  ⟨0x4801, 0x10, 4, 1, 1, 0x07, 1, .uns 1, .ro, .rw, .ro, fun _ _ _ => 1, [(0, 1)], false, true⟩,
  ⟨0x4801, 0x10, 4, 1, 1, 0x08, 1, .uns 2, .ro, .rw, .ro, fun _ _ _ => 12, [(1, 1000)], false, true⟩,
  ⟨0x4801, 0x10, 4, 1, 1, 0x09, 1, .uns 2, .ro, .rw, .ro, fun _ _ _ => 4, [(0, 1000)], false, true⟩,
  ⟨0x4802, 0x10, 4, 1, 1, 0x00, 1, .uns 1, .const, .const, .const, fun _ _ _ => 11, [], false, false⟩,
  ⟨0x4802, 0x10, 4, 1, 1, 0x01, 1, .uns 1, .ro, .rw, .ro, fun _ _ _ => 0, [(0, 1)], false, true⟩]

/-- Dictionary rows of the touch range, part 1: R291, R292. -/
def rows_touch_1 : List Row := [
  ⟨0x4802, 0x10, 4, 1, 1, 0x02, 1, .uns 1, .ro, .rw, .ro, fun _ _ _ => 1, [(0, 1)], false, true⟩,
  ⟨0x4802, 0x10, 4, 1, 1, 0x03, 1, .uns 2, .ro, .rw, .ro, fun _ _ _ => 60, [(5, 4000)], false, true⟩,
  ⟨0x4802, 0x10, 4, 1, 1, 0x04, 1, .uns 2, .ro, .rw, .ro, fun _ _ _ => 20, [(5, 4000)], false, true⟩,
  ⟨0x4802, 0x10, 4, 1, 1, 0x05, 1, .uns 1, .ro, .rw, .ro, fun _ _ _ => 75, [(50, 95)], false, true⟩,
  ⟨0x4802, 0x10, 4, 1, 1, 0x06, 1, .uns 2, .ro, .rw, .ro, fun _ _ _ => 600, [(100, 10000)], false, true⟩,
  ⟨0x4802, 0x10, 4, 1, 1, 0x07, 1, .uns 2, .ro, .rw, .ro, fun _ _ _ => 250, [(50, 2000)], false, true⟩,
  ⟨0x4802, 0x10, 4, 1, 1, 0x08, 1, .uns 1, .ro, .rw, .ro, fun _ _ _ => 60, [(10, 250)], false, true⟩,
  ⟨0x4802, 0x10, 4, 1, 1, 0x09, 1, .uns 2, .ro, .rw, .ro, fun _ _ _ => 300, [(10, 2000)], false, true⟩,
  ⟨0x4802, 0x10, 4, 1, 1, 0x0A, 1, .uns 1, .ro, .rw, .ro, fun _ _ _ => 1, [(1, 4)], false, true⟩,
  ⟨0x4802, 0x10, 4, 1, 1, 0x0B, 1, .uns 1, .ro, .rw, .ro, fun _ _ _ => 2, [(1, 8)], false, true⟩,
  ⟨0x4803, 0x10, 4, 1, 1, 0x00, 1, .uns 1, .const, .const, .const, fun _ _ _ => 5, [], false, false⟩,
  ⟨0x4803, 0x10, 4, 1, 1, 0x01, 1, .uns 2, .ro, .rw, .ro, fun _ _ _ => 40, [(5, 600)], false, true⟩,
  ⟨0x4803, 0x10, 4, 1, 1, 0x02, 1, .uns 2, .ro, .rw, .ro, fun _ _ _ => 40, [(5, 4000)], false, true⟩,
  ⟨0x4803, 0x10, 4, 1, 1, 0x03, 1, .uns 2, .ro, .rw, .ro, fun _ _ _ => 40, [(5, 4000)], false, true⟩,
  ⟨0x4803, 0x10, 4, 1, 1, 0x04, 1, .uns 1, .ro, .rw, .ro, fun _ _ _ => 0, [(0, 1)], false, true⟩,
  ⟨0x4803, 0x10, 4, 1, 1, 0x05, 1, .uns 2, .ro, .rw, .ro, fun _ _ _ => 60, [(1, 3600)], false, true⟩,
  ⟨0x4804, 0x10, 4, 1, 1, 0x00, 1, .dom 8464 false, .ro, .rw, .none, fun _ _ _ => 0, [], false, true⟩,
  ⟨0x4805, 0x10, 4, 1, 1, 0x00, 1, .uns 1, .const, .const, .const, fun _ _ _ => 3, [], false, false⟩,
  ⟨0x4805, 0x10, 4, 1, 1, 0x01, 1, .uns 1, .wo, .wo, .none, fun _ _ _ => 0, [(1, 1)], false, false⟩,
  ⟨0x4805, 0x10, 4, 1, 1, 0x02, 1, .uns 1, .none, .wo, .none, fun _ _ _ => 0, [(1, 1)], false, false⟩,
  ⟨0x4805, 0x10, 4, 1, 1, 0x03, 1, .uns 1, .ro, .ro, .ro, fun _ _ _ => 0, [(0, 3)], false, false⟩,
  ⟨0x4806, 0x10, 4, 1, 1, 0x00, 1, .uns 1, .const, .const, .const, fun _ _ _ => 7, [], false, false⟩,
  ⟨0x4806, 0x10, 4, 1, 1, 0x01, 1, .uns 1, .ro, .ro, .ro, fun _ _ _ => 0, [(0, 5)], false, false⟩,
  ⟨0x4806, 0x10, 4, 1, 1, 0x02, 1, .uns 1, .ro, .ro, .ro, fun _ _ _ => 0, [(0, 3)], false, false⟩]

/-- Dictionary rows of the touch range, part 2: R292. -/
def rows_touch_2 : List Row := [
  ⟨0x4806, 0x10, 4, 1, 1, 0x03, 1, .uns 2, .ro, .ro, .ro, fun _ _ _ => 0, [], false, false⟩,
  ⟨0x4806, 0x10, 4, 1, 1, 0x04, 1, .uns 2, .ro, .ro, .ro, fun _ _ _ => 0, [], false, false⟩,
  ⟨0x4806, 0x10, 4, 1, 1, 0x05, 1, .uns 1, .ro, .ro, .ro, fun _ _ _ => 0, [(0, 10)], false, false⟩,
  ⟨0x4806, 0x10, 4, 1, 1, 0x06, 1, .oct 16, .ro, .ro, .ro, fun _ _ _ => 0, [], false, false⟩,
  ⟨0x4806, 0x10, 4, 1, 1, 0x07, 1, .uns 4, .ro, .ro, .ro, fun _ _ _ => 0, [], false, false⟩,
  ⟨0x4807, 0x10, 4, 1, 1, 0x00, 1, .uns 1, .const, .const, .const, fun _ _ _ => 9, [], false, false⟩,
  ⟨0x4807, 0x10, 4, 1, 1, 0x01, 1, .uns 4, .ro, .ro, .ro, fun _ _ _ => 0, [], false, false⟩,
  ⟨0x4807, 0x10, 4, 1, 1, 0x02, 1, .uns 4, .ro, .ro, .ro, fun _ _ _ => 0, [], false, false⟩,
  ⟨0x4807, 0x10, 4, 1, 1, 0x03, 1, .uns 4, .ro, .ro, .ro, fun _ _ _ => 0, [], false, false⟩,
  ⟨0x4807, 0x10, 4, 1, 1, 0x04, 1, .uns 4, .ro, .ro, .ro, fun _ _ _ => 0, [], false, false⟩,
  ⟨0x4807, 0x10, 4, 1, 1, 0x05, 1, .uns 4, .ro, .ro, .ro, fun _ _ _ => 0, [], false, false⟩,
  ⟨0x4807, 0x10, 4, 1, 1, 0x06, 1, .uns 4, .ro, .ro, .ro, fun _ _ _ => 0, [], false, false⟩,
  ⟨0x4807, 0x10, 4, 1, 1, 0x07, 1, .uns 4, .ro, .ro, .ro, fun _ _ _ => 0, [], false, false⟩,
  ⟨0x4807, 0x10, 4, 1, 1, 0x08, 1, .uns 4, .ro, .ro, .ro, fun _ _ _ => 0, [], false, false⟩,
  ⟨0x4807, 0x10, 4, 1, 1, 0x09, 1, .uns 4, .ro, .ro, .ro, fun _ _ _ => 0, [], false, false⟩,
  ⟨0x4808, 0x10, 4, 1, 1, 0x00, 1, .dom 16944 false, .ro, .ro, .none, fun _ _ _ => 0, [], false, false⟩]

/-- The rows of the touch range (R71). -/
def rows_touch : List Row := rows_touch_0 ++ rows_touch_1 ++ rows_touch_2

/-- Dictionary rows of the haptics range, part 0: R310, R311. -/
def rows_haptics_0 : List Row := [
  ⟨0x4C00, 0x4, 16, 1, 1, 0x00, 1, .uns 1, .const, .const, .const, fun _ _ _ => 18, [], false, false⟩,
  ⟨0x4C00, 0x4, 16, 1, 1, 0x01, 1, .uns 1, .ro, .rw, .ro, fun _ _ _ => 0, [(0, 1)], false, true⟩,
  ⟨0x4C00, 0x4, 16, 1, 1, 0x02, 1, .uns 1, .ro, .rw, .ro, fun _ _ _ => 255, [(0, 15), (255, 255)], false, true⟩,
  ⟨0x4C00, 0x4, 16, 1, 1, 0x03, 1, .uns 1, .ro, .rw, .ro, fun _ _ _ => 64, [(48, 96)], false, true⟩,
  ⟨0x4C00, 0x4, 16, 1, 1, 0x04, 1, .uns 2, .ro, .rw, .ro, fun _ _ _ => 100, [(20, 500)], false, true⟩,
  ⟨0x4C00, 0x4, 16, 1, 1, 0x05, 1, .uns 1, .ro, .rw, .ro, fun _ _ _ => 80, [(10, 100)], false, true⟩,
  ⟨0x4C00, 0x4, 16, 1, 1, 0x06, 1, .uns 2, .ro, .rw, .ro, fun _ _ _ => 1500, [(50, 4000)], false, true⟩,
  ⟨0x4C00, 0x4, 16, 1, 1, 0x07, 1, .uns 2, .ro, .rw, .ro, fun _ _ _ => 100, [(10, 1000)], false, true⟩,
  ⟨0x4C00, 0x4, 16, 1, 1, 0x08, 1, .uns 1, .ro, .rw, .ro, fun i _ _ => i / 4, [(0, 3)], false, true⟩,
  ⟨0x4C00, 0x4, 16, 1, 1, 0x09, 1, .uns 1, .ro, .rw, .ro, fun i _ _ => 0x18 + i % 4, [(8, 119)], false, true⟩,
  ⟨0x4C00, 0x4, 16, 1, 1, 0x0A, 1, .uns 1, .ro, .rw, .ro, fun _ _ _ => 44, [], false, true⟩,
  ⟨0x4C00, 0x4, 16, 1, 1, 0x0B, 1, .uns 1, .ro, .rw, .ro, fun _ _ _ => 0, [], false, true⟩,
  ⟨0x4C00, 0x4, 16, 1, 1, 0x0C, 1, .uns 2, .ro, .rw, .ro, fun _ _ _ => 244, [(1, 10000)], false, true⟩,
  ⟨0x4C00, 0x4, 16, 1, 1, 0x0D, 1, .uns 2, .ro, .rw, .ro, fun _ _ _ => 3200, [(1600, 6400)], false, true⟩,
  ⟨0x4C00, 0x4, 16, 1, 1, 0x0E, 1, .uns 2, .ro, .rw, .ro, fun _ _ _ => 1500, [(100, 8000)], false, true⟩,
  ⟨0x4C00, 0x4, 16, 1, 1, 0x0F, 1, .uns 2, .ro, .rw, .ro, fun _ _ _ => 50, [(5, 1000)], false, true⟩,
  ⟨0x4C00, 0x4, 16, 1, 1, 0x10, 1, .uns 1, .ro, .rw, .ro, fun _ _ _ => 10, [(1, 10)], false, true⟩,
  ⟨0x4C00, 0x4, 16, 1, 1, 0x11, 1, .uns 1, .ro, .rw, .ro, fun _ _ _ => 192, [(1, 255)], false, false⟩,
  ⟨0x4C00, 0x4, 16, 1, 1, 0x12, 1, .uns 1, .wo, .wo, .none, fun _ _ _ => 0, [(1, 1)], false, false⟩,
  ⟨0x4C01, 0x4, 16, 1, 1, 0x00, 1, .uns 1, .const, .const, .const, fun _ _ _ => 9, [], false, false⟩,
  ⟨0x4C01, 0x4, 16, 1, 1, 0x01, 1, .uns 1, .ro, .ro, .ro, fun _ _ _ => 0, [(0, 6)], false, false⟩,
  ⟨0x4C01, 0x4, 16, 1, 1, 0x02, 1, .uns 1, .ro, .ro, .ro, fun _ _ _ => 0, [(0, 3)], false, false⟩,
  ⟨0x4C01, 0x4, 16, 1, 1, 0x03, 1, .uns 2, .ro, .ro, .ro, fun _ _ _ => 0, [], false, false⟩,
  ⟨0x4C01, 0x4, 16, 1, 1, 0x04, 1, .uns 2, .ro, .ro, .ro, fun _ _ _ => 0, [], false, false⟩]

/-- Dictionary rows of the haptics range, part 1: R311. -/
def rows_haptics_1 : List Row := [
  ⟨0x4C01, 0x4, 16, 1, 1, 0x05, 1, .uns 2, .ro, .ro, .ro, fun _ _ _ => 0, [], false, false⟩,
  ⟨0x4C01, 0x4, 16, 1, 1, 0x06, 1, .uns 2, .ro, .ro, .ro, fun _ _ _ => 0, [], false, false⟩,
  ⟨0x4C01, 0x4, 16, 1, 1, 0x07, 1, .uns 1, .ro, .ro, .ro, fun _ _ _ => 0, [], false, false⟩,
  ⟨0x4C01, 0x4, 16, 1, 1, 0x08, 1, .uns 1, .ro, .rw, .ro, fun _ _ _ => 128, [(16, 255)], false, true⟩,
  ⟨0x4C01, 0x4, 16, 1, 1, 0x09, 1, .uns 2, .ro, .rw, .ro, fun _ _ _ => 59, [(10, 200)], false, true⟩,
  ⟨0x4C02, 0x4, 16, 1, 1, 0x00, 1, .uns 1, .const, .const, .const, fun _ _ _ => 8, [], false, false⟩,
  ⟨0x4C02, 0x4, 16, 1, 1, 0x01, 1, .uns 4, .ro, .ro, .ro, fun _ _ _ => 0, [], false, false⟩,
  ⟨0x4C02, 0x4, 16, 1, 1, 0x02, 1, .uns 4, .ro, .ro, .ro, fun _ _ _ => 0, [], false, false⟩,
  ⟨0x4C02, 0x4, 16, 1, 1, 0x03, 1, .uns 4, .ro, .ro, .ro, fun _ _ _ => 0, [], false, false⟩,
  ⟨0x4C02, 0x4, 16, 1, 1, 0x04, 1, .uns 4, .ro, .ro, .ro, fun _ _ _ => 0, [], false, false⟩,
  ⟨0x4C02, 0x4, 16, 1, 1, 0x05, 1, .uns 4, .ro, .ro, .ro, fun _ _ _ => 0, [], false, false⟩,
  ⟨0x4C02, 0x4, 16, 1, 1, 0x06, 1, .uns 4, .ro, .ro, .ro, fun _ _ _ => 0, [], false, false⟩,
  ⟨0x4C02, 0x4, 16, 1, 1, 0x07, 1, .uns 4, .ro, .ro, .ro, fun _ _ _ => 0, [], false, false⟩,
  ⟨0x4C02, 0x4, 16, 1, 1, 0x08, 1, .uns 4, .ro, .ro, .ro, fun _ _ _ => 0, [], false, false⟩,
  ⟨0x4C80, 0x1, 4, 1, 1, 0x00, 1, .dom 512 false, .ro, .rw, .none, fun _ _ _ => 0, [], false, true⟩,
  ⟨0x4CF0, 0x1, 1, 1, 1, 0x00, 1, .dom 2048 false, .ro, .ro, .ro, fun _ _ _ => 0, [], false, false⟩]

/-- The rows of the haptics range (R71). -/
def rows_haptics : List Row := rows_haptics_0 ++ rows_haptics_1

/-- Dictionary rows of the memory range, part 0: R342, R364. -/
def rows_memory_0 : List Row := [
  ⟨0x5000, 0x1, 1, 1, 1, 0x00, 1, .uns 1, .const, .const, .none, fun _ _ _ => 10, [], false, false⟩,
  ⟨0x5000, 0x1, 1, 1, 1, 0x01, 1, .uns 1, .ro, .rw, .none, fun _ _ _ => 255, [(1, 1), (3, 3), (15, 15), (255, 255)], false, true⟩,
  ⟨0x5000, 0x1, 1, 1, 1, 0x02, 1, .uns 1, .ro, .rw, .none, fun _ _ _ => 2, [(1, 2)], false, true⟩,
  ⟨0x5000, 0x1, 1, 1, 1, 0x03, 1, .uns 1, .ro, .rw, .none, fun _ _ _ => 1, [(0, 2)], false, true⟩,
  ⟨0x5000, 0x1, 1, 1, 1, 0x04, 1, .uns 2, .ro, .rw, .none, fun _ _ _ => 8533, [(6400, 6400), (7500, 7500), (8533, 8533)], false, true⟩,
  ⟨0x5000, 0x1, 1, 1, 1, 0x05, 1, .uns 1, .ro, .rw, .none, fun _ _ _ => 12, [(8, 16)], false, true⟩,
  ⟨0x5000, 0x1, 1, 1, 1, 0x06, 1, .uns 1, .ro, .rw, .none, fun _ _ _ => 0, [(0, 2)], false, true⟩,
  ⟨0x5000, 0x1, 1, 1, 1, 0x07, 1, .uns 1, .ro, .rw, .none, fun _ _ _ => 1, [(0, 1)], false, true⟩,
  ⟨0x5000, 0x1, 1, 1, 1, 0x08, 1, .uns 1, .ro, .rw, .none, fun _ _ _ => 1, [(0, 1)], false, true⟩,
  ⟨0x5000, 0x1, 1, 1, 1, 0x09, 1, .uns 2, .ro, .rw, .none, fun _ _ _ => 10, [(1, 1000)], false, true⟩,
  ⟨0x5000, 0x1, 1, 1, 1, 0x0A, 1, .uns 2, .ro, .rw, .none, fun _ _ _ => 24, [(0, 168)], false, true⟩,
  ⟨0x5001, 0x1, 1, 1, 1, 0x00, 1, .uns 1, .const, .const, .none, fun _ _ _ => 9, [], false, false⟩,
  ⟨0x5001, 0x1, 1, 1, 1, 0x01, 1, .uns 4, .ro, .ro, .none, fun _ _ _ => 0, [], false, false⟩,
  ⟨0x5001, 0x1, 1, 1, 1, 0x02, 1, .uns 4, .ro, .ro, .none, fun _ _ _ => 0, [], false, false⟩,
  ⟨0x5001, 0x1, 1, 1, 1, 0x03, 1, .uns 4, .const, .const, .none, fun _ _ _ => 1024, [], false, false⟩,
  ⟨0x5001, 0x1, 1, 1, 1, 0x04, 1, .uns 4, .ro, .ro, .none, fun _ _ _ => 0, [(128, 1024)], false, false⟩,
  ⟨0x5001, 0x1, 1, 1, 1, 0x05, 1, .uns 4, .ro, .ro, .none, fun _ _ _ => 0, [], false, false⟩,
  ⟨0x5001, 0x1, 1, 1, 1, 0x06, 1, .uns 4, .ro, .ro, .none, fun _ _ _ => 0, [], false, false⟩,
  ⟨0x5001, 0x1, 1, 1, 1, 0x07, 1, .uns 1, .ro, .ro, .none, fun _ _ _ => 0, [(0, 3)], false, false⟩,
  ⟨0x5001, 0x1, 1, 1, 1, 0x08, 1, .uns 1, .ro, .ro, .none, fun _ _ _ => 0, [], false, false⟩,
  ⟨0x5001, 0x1, 1, 1, 1, 0x09, 1, .uns 1, .ro, .ro, .none, fun _ _ _ => 255, [], false, false⟩,
  ⟨0x5002, 0x1, 1, 1, 1, 0x00, 1, .uns 1, .const, .const, .none, fun _ _ _ => 3, [], false, false⟩,
  ⟨0x5002, 0x1, 1, 1, 1, 0x01, 1, .uns 1, .ro, .ro, .none, fun _ _ _ => 1, [(1, 32)], false, false⟩,
  ⟨0x5002, 0x1, 1, 1, 1, 0x02, 1, .uns 4, .ro, .ro, .none, fun _ _ _ => 0, [], false, false⟩]

/-- Dictionary rows of the memory range, part 1: R364, R365. -/
def rows_memory_1 : List Row := [
  ⟨0x5002, 0x1, 1, 1, 1, 0x03, 1, .uns 1, .rw, .wo, .none, fun _ _ _ => 0, [(0, 1)], false, false⟩,
  ⟨0x5003, 0x1, 1, 1, 1, 0x00, 1, .uns 1, .const, .const, .none, fun _ _ _ => 32, [], false, false⟩,
  ⟨0x5003, 0x1, 1, 1, 1, 0x01, 32, .oct 24, .ro, .ro, .none, fun _ _ _ => 0, [], false, false⟩,
  ⟨0x5010, 0x1, 8, 1, 1, 0x00, 1, .uns 1, .const, .const, .none, fun _ _ _ => 11, [], false, false⟩,
  ⟨0x5010, 0x1, 8, 1, 1, 0x01, 1, .uns 1, .ro, .ro, .none, fun _ _ _ => 0, [(0, 6)], false, false⟩,
  ⟨0x5010, 0x1, 8, 1, 1, 0x02, 1, .uns 1, .ro, .ro, .none, fun _ _ _ => 2, [], false, false⟩,
  ⟨0x5010, 0x1, 8, 1, 1, 0x03, 1, .uns 2, .ro, .ro, .none, fun _ _ _ => 0, [], false, false⟩,
  ⟨0x5010, 0x1, 8, 1, 1, 0x04, 1, .uns 4, .ro, .ro, .none, fun _ _ _ => 0, [], false, false⟩,
  ⟨0x5010, 0x1, 8, 1, 1, 0x05, 1, .uns 4, .ro, .ro, .none, fun _ _ _ => 0, [], false, false⟩,
  ⟨0x5010, 0x1, 8, 1, 1, 0x06, 1, .uns 4, .ro, .ro, .none, fun _ _ _ => 0, [], false, false⟩,
  ⟨0x5010, 0x1, 8, 1, 1, 0x07, 1, .uns 4, .ro, .ro, .none, fun _ _ _ => 0, [], false, false⟩,
  ⟨0x5010, 0x1, 8, 1, 1, 0x08, 1, .uns 4, .ro, .ro, .none, fun _ _ _ => 0, [], false, false⟩,
  ⟨0x5010, 0x1, 8, 1, 1, 0x09, 1, .uns 4, .ro, .ro, .none, fun _ _ _ => 0, [], false, false⟩,
  ⟨0x5010, 0x1, 8, 1, 1, 0x0A, 1, .uns 4, .ro, .ro, .none, fun _ _ _ => 0, [], false, false⟩,
  ⟨0x5010, 0x1, 8, 1, 1, 0x0B, 1, .uns 4, .ro, .ro, .none, fun _ _ _ => 0, [], false, false⟩]

/-- The rows of the memory range (R71). -/
def rows_memory : List Row := rows_memory_0 ++ rows_memory_1

/-- Dictionary rows of the guests range, part 0: R43. -/
def rows_guests_0 : List Row := [
  ⟨0x5800, 0x1, 64, 1, 1, 0x00, 1, .uns 1, .const, .const, .const, fun _ _ _ => 32, [], false, false⟩,
  ⟨0x5800, 0x1, 64, 1, 1, 0x01, 1, .uns 2, .ro, .rw, .ro, fun i _ _ => 64 * i, [(0, 4095)], false, true⟩,
  ⟨0x5800, 0x1, 64, 1, 1, 0x02, 1, .uns 2, .ro, .rw, .ro, fun _ _ _ => 64, [(0, 4096)], false, true⟩,
  ⟨0x5800, 0x1, 64, 1, 1, 0x03, 1, .uns 2, .ro, .rw, .ro, fun i _ _ => if i = 0 then 0xFFFF else 0, [], false, true⟩,
  ⟨0x5800, 0x1, 64, 1, 1, 0x04, 1, .oct 16, .ro, .rw, .ro, fun i _ _ => if i = 0 then 2 ^ 128 - 1 else 0, [], false, true⟩,
  ⟨0x5800, 0x1, 64, 1, 1, 0x05, 1, .uns 4, .ro, .rw, .ro, fun i _ _ => if i = 0 then 0x1FF else 0, [], false, true⟩,
  ⟨0x5800, 0x1, 1, 1, 1, 0x06, 1, .uns 4, .ro, .rw, .ro, fun _ _ _ => 16384, [(0, 262144)], false, true⟩,
  ⟨0x5800, 0x1, 64, 1, 1, 0x07, 1, .uns 2, .ro, .rw, .ro, fun _ _ _ => 256, [(1, 256)], false, true⟩,
  ⟨0x5800, 0x1, 64, 1, 1, 0x08, 1, .uns 1, .ro, .rw, .ro, fun _ _ _ => 0, [(0, 1)], false, true⟩,
  ⟨0x5800, 0x1, 64, 1, 1, 0x09, 1, .uns 1, .ro, .rw, .ro, fun i _ _ => if i = 0 then 0 else 1, [(0, 1)], false, true⟩,
  ⟨0x5800, 0x1, 64, 1, 1, 0x0A, 1, .uns 1, .ro, .ro, .ro, fun _ _ _ => 0, [(0, 2)], false, false⟩,
  ⟨0x5800, 0x1, 64, 1, 1, 0x0B, 1, .uns 4, .ro, .ro, .ro, fun _ _ _ => 0, [], false, false⟩,
  ⟨0x5800, 0x1, 64, 1, 1, 0x0C, 1, .uns 2, .ro, .ro, .ro, fun _ _ _ => 0, [], false, false⟩,
  ⟨0x5800, 0x1, 64, 1, 1, 0x0D, 1, .uns 2, .ro, .rw, .rw, fun _ _ _ => 65535, [], false, false⟩,
  ⟨0x5800, 0x1, 64, 1, 1, 0x0E, 1, .uns 4, .ro, .rw, .ro, fun _ _ _ => 1000, [], false, true⟩,
  ⟨0x5800, 0x1, 64, 1, 1, 0x20, 1, .dom 131072 false, .ro, .rw, .rw, fun _ _ _ => 0, [], false, false⟩,
  ⟨0x5801, 0x1, 63, 1, 1, 0x06, 1, .uns 4, .ro, .rw, .ro, fun _ _ _ => 0, [(0, 65536)], false, true⟩]

/-- The rows of the guests range (R71). -/
def rows_guests : List Row := rows_guests_0

/-- Dictionary rows of the cameras range, part 0: R234, R235. -/
def rows_cameras_0 : List Row := [
  ⟨0x6000, 0x10, 8, 1, 1, 0x00, 1, .uns 1, .const, .const, .const, fun _ _ _ => 11, [], false, false⟩,
  ⟨0x6000, 0x10, 8, 1, 1, 0x01, 1, .uns 1, .ro, .rw, .ro, fun _ _ _ => 0, [(0, 1)], false, true⟩,
  ⟨0x6000, 0x10, 8, 1, 1, 0x02, 1, .uns 1, .ro, .rw, .ro, fun _ _ _ => 4, [(1, 4)], false, true⟩,
  ⟨0x6000, 0x10, 8, 1, 1, 0x03, 1, .uns 2, .ro, .rw, .ro, fun _ _ _ => 1500, [(80, 2500)], false, true⟩,
  ⟨0x6000, 0x10, 8, 1, 1, 0x04, 1, .uns 1, .ro, .rw, .ro, fun _ _ _ => 0, [(0, 15)], false, true⟩,
  ⟨0x6000, 0x10, 8, 1, 1, 0x05, 1, .uns 1, .ro, .rw, .ro, fun _ _ _ => 30, [(30, 30), (36, 36), (42, 44)], false, true⟩,
  ⟨0x6000, 0x10, 8, 1, 1, 0x06, 1, .uns 2, .ro, .rw, .ro, fun _ _ _ => 1920, [(16, 8192)], false, true⟩,
  ⟨0x6000, 0x10, 8, 1, 1, 0x07, 1, .uns 2, .ro, .rw, .ro, fun _ _ _ => 1080, [(16, 8192)], false, true⟩,
  ⟨0x6000, 0x10, 8, 1, 1, 0x08, 1, .uns 2, .ro, .rw, .ro, fun _ _ _ => 100, [(10, 10000)], false, false⟩,
  ⟨0x6000, 0x10, 8, 1, 1, 0x09, 1, .uns 1, .ro, .rw, .ro, fun _ _ _ => 0, [(0, 1)], false, false⟩,
  ⟨0x6000, 0x10, 8, 1, 1, 0x0A, 1, .uns 4, .ro, .rw, .ro, fun _ _ _ => 2105376, [], false, false⟩,
  ⟨0x6000, 0x10, 8, 1, 1, 0x0B, 1, .uns 8, .ro, .rw, .ro, fun _ _ _ => 1, [], false, true⟩,
  ⟨0x6001, 0x10, 8, 1, 1, 0x00, 1, .uns 1, .const, .const, .const, fun _ _ _ => 11, [], false, false⟩,
  ⟨0x6001, 0x10, 8, 1, 1, 0x01, 1, .uns 1, .ro, .ro, .ro, fun _ _ _ => 0, [(0, 3)], false, false⟩,
  ⟨0x6001, 0x10, 8, 1, 1, 0x02, 1, .uns 2, .ro, .ro, .ro, fun _ _ _ => 65535, [], false, false⟩,
  ⟨0x6001, 0x10, 8, 1, 1, 0x03, 1, .uns 4, .ro, .ro, .ro, fun _ _ _ => 0, [], false, false⟩,
  ⟨0x6001, 0x10, 8, 1, 1, 0x04, 1, .uns 4, .ro, .ro, .ro, fun _ _ _ => 0, [], false, false⟩,
  ⟨0x6001, 0x10, 8, 1, 1, 0x05, 1, .uns 4, .ro, .ro, .ro, fun _ _ _ => 0, [], false, false⟩,
  ⟨0x6001, 0x10, 8, 1, 1, 0x06, 1, .uns 4, .ro, .ro, .ro, fun _ _ _ => 0, [], false, false⟩,
  ⟨0x6001, 0x10, 8, 1, 1, 0x07, 1, .uns 4, .ro, .ro, .ro, fun _ _ _ => 0, [], false, false⟩,
  ⟨0x6001, 0x10, 8, 1, 1, 0x08, 1, .uns 4, .ro, .ro, .ro, fun _ _ _ => 0, [], false, false⟩,
  ⟨0x6001, 0x10, 8, 1, 1, 0x09, 1, .uns 1, .ro, .ro, .ro, fun _ _ _ => 0, [(0, 2)], false, false⟩,
  ⟨0x6001, 0x10, 8, 1, 1, 0x0A, 1, .uns 4, .ro, .ro, .ro, fun _ _ _ => 0, [], false, false⟩,
  ⟨0x6001, 0x10, 8, 1, 1, 0x0B, 1, .uns 4, .ro, .ro, .ro, fun _ _ _ => 0, [], false, false⟩]

/-- The rows of the cameras range (R71). -/
def rows_cameras : List Row := rows_cameras_0

/-- Every row of the dictionary but the CHARMS rows' contents, which the charm table holds. -/
def allRows : List Row :=
  rows_comm ++ rows_device ++ rows_heads ++ rows_ports ++ rows_cameo ++ rows_audio ++ rows_touch ++ rows_haptics ++
    rows_memory ++ rows_guests ++ rows_cameras

/-- The rows that can hold an index, by the ranges of R71. -/
def rowsFor (idx : Nat) : List Row :=
  if idx < 0x2000 then rows_comm
  else if idx < 0x3000 then rows_device
  else if idx < 0x3400 then rows_heads
  else if idx < 0x3800 then rows_ports
  else if idx < 0x4400 then rows_cameo
  else if idx < 0x4800 then rows_audio
  else if idx < 0x4C00 then rows_touch
  else if idx < 0x5000 then rows_haptics
  else if idx < 0x5800 then rows_memory
  else if idx < 0x6000 then rows_guests
  else if idx < 0x7000 then rows_cameras
  else []

/-- The instance numbers by which a row covers an index, if it does. -/
def Row.inst (r : Row) (idx : Nat) : Option (Nat × Nat) :=
  if idx < r.base then none
  else
    let d := idx - r.base
    let i := d / r.s1
    let e := d % r.s1
    if r.n2 ≤ 1 then if e = 0 ∧ i < r.n1 then some (i, 0) else none
    else if e % r.s2 = 0 ∧ e / r.s2 < r.n2 ∧ i < r.n1 then some (i, e / r.s2) else none

/-- A row found for an index and a subindex, with its instance numbers. -/
structure Found where
  row : Row
  i : Nat
  j : Nat
  k : Nat

/-- The row of an entry, if the entry exists (R71, R72). -/
def findIn : List Row → Nat → Nat → Option Found
  | [], _, _ => none
  | r :: rs, idx, sub =>
    match r.inst idx with
    | some (i, j) => if r.sub ≤ sub ∧ sub < r.sub + r.subN then some ⟨r, i, j, sub - r.sub⟩ else findIn rs idx sub
    | none => findIn rs idx sub

/-- The entry at index and subindex. -/
def findEntry (idx sub : Nat) : Option Found := findIn (rowsFor idx) idx sub

/-- Whether an index exists (R71). -/
def indexExists (idx : Nat) : Bool := (rowsFor idx).any (fun r => (r.inst idx).isSome)

/-- Whether the G class has no right on any subindex of an index (R77's first row). -/
def indexHiddenFromG (idx : Nat) : Bool :=
  (rowsFor idx).all (fun r => (r.inst idx).isNone || r.guest == .none)

/-- The dictionary key of an entry. -/
def dkey (idx sub : Nat) : Nat := idx * 256 + sub

/-- The Default column of a number or string, by key; 0 where there is no entry. -/
def odDefault (k : Nat) : Nat :=
  match findEntry (k / 256) (k % 256) with
  | some f => f.row.dflt f.i f.j f.k
  | none => 0

/-- The bytes of the identity-like curve LUT_SUN and LUT_NIGHT hold by default: entry i is ⌊i × 4,095 / 1,023⌋ for each
channel (R172, R183). -/
def lutDefault : List Byte :=
  (List.range 3072).flatMap (fun n => leBytes 2 (n % 1024 * 4095 / 1023))

/-- Tap `t` of phase `p` of scaler set 0: the Lanczos window, with what its rounding leaves of 256 on one tap (R176). -/
def set0Tap (horizontal : Bool) (p t : Nat) : Int :=
  let l := lanczosRow horizontal p
  at0 0 l t + (if t = Sys2Proof.Config.scalerResidueTap horizontal p % l.length then 256 - l.foldl (· + ·) 0 else 0)

/-- The bytes of scaler set 0 in the layout of a loadable set (R176). -/
def set0Bytes : List Byte :=
  (List.range 512).flatMap (fun n => leBytes 2 (ofInt 16 (set0Tap true (n / 8) (n % 8)))) ++
  (List.range 256).flatMap (fun n => leBytes 2 (ofInt 16 (set0Tap false (n / 4) (n % 4))))

/-- The fields of effect `e` (R296): ATTACK_CYCLES, SUSTAIN_CYCLES, SUSTAIN_LEVEL, FREQ_REL, TRACK, GAP_MS. The manual lists
five effects, without their TRACK; the rest of the ROM is its own. -/
def effectFields (e : Nat) : List Nat :=
  let o := Sys2Proof.Config.effectRom e
  let track := o 4 % 2
  if e = 2 then [1, 1, 120, 4096, track, 0]
  else if e = 5 then [1, 1, 160, 5120, track, 0]
  else if e = 12 then [1, 2, 200, 4096, track, 0]
  else if e = 64 then [2, 60, 140, 4096, track, 0]
  else if e = 120 then [2, 18, 255, 4096, track, 150]
  else [o 0 % 256, o 1 % 65536, o 2 % 256, 2048 + o 3 % 6145, track, o 5 % 256]

/-- CLASS of an effect by its number (R296). -/
def effectClass (e : Nat) : Nat := if e < 32 then 0 else if e < 64 then 1 else if e < 112 then 2 else 3

/-- The 2,048 bytes of EFFECT_ROM. -/
def effectRomBytes : List Byte :=
  (List.range 128).flatMap (fun e =>
    let f := fun i => at0 0 (effectFields e) i
    leBytes 4 (f 0 + 65536 * f 1) ++ leBytes 4 (f 2 + 65536 * f 3) ++
      leBytes 4 (effectClass e + 4 * f 4 + 256 * f 5) ++ leBytes 4 0)

/-- The Default column of a DOMAIN, by key. -/
def domDefault (k : Nat) : List Byte :=
  let idx := k / 256
  let off := (idx - 0x3000) % 0x40
  if 0x3000 ≤ idx ∧ idx < 0x3400 then
    if off = 0x0A ∨ off = 0x0B then lutDefault
    else if off = 0x0C ∨ off = 0x0D then set0Bytes
    else []
  else if k = 0x203204 then Sys2Proof.Config.certificate
  else if k = 0x4CF000 then effectRomBytes
  else []

end Sys2Proof.Machine
end

