-- ==== Sys2Proof/Machine/Entries.lean ====
section
/-! DEFINITION. The dictionary keys (index × 256 + subindex) of the entries the meanings read and write, under the names
of the manual's tables. `i` and `j` number the instance (head and facet, guest, channel …), `k` the subindex from the
first of a run. -/

namespace Sys2Proof.Machine.E

/-- ERROR_REGISTER (R479). -/
def err_ERROR_REGISTER : Nat := 0x100100
/-- ERROR_COUNT (R479). -/
def err_ERROR_COUNT : Nat := 0x100300
/-- ERROR_HISTORY (R479). -/
def err_ERROR_HISTORY (k : Nat) : Nat := 0x100301 + k
/-- STORE_ALL (R88). -/
def store_STORE_ALL : Nat := 0x101001
/-- STORE_COMM (R88). -/
def store_STORE_COMM : Nat := 0x101002
/-- STORE_APP (R88). -/
def store_STORE_APP : Nat := 0x101003
/-- RESTORE_ALL (R88). -/
def store_RESTORE_ALL : Nat := 0x101101
/-- RESTORE_COMM (R88). -/
def store_RESTORE_COMM : Nat := 0x101102
/-- RESTORE_APP (R88). -/
def store_RESTORE_APP : Nat := 0x101103
/-- heartbeat (R103). -/
def pdoc_HEARTBEAT : Nat := 0x101700
/-- COB-ID (R104). -/
def rpdo_COB_ID (i : Nat) : Nat := 0x140001 + 0x100 * i
/-- transmission type (R104). -/
def rpdo_TYPE (i : Nat) : Nat := 0x140002 + 0x100 * i
/-- inhibit time, 100 us (R104). -/
def rpdo_INHIBIT (i : Nat) : Nat := 0x140003 + 0x100 * i
/-- event timer, ms (R104). -/
def rpdo_TIMER (i : Nat) : Nat := 0x140005 + 0x100 * i
/-- mapping count (R107). -/
def map_RX_COUNT (i : Nat) : Nat := 0x160000 + 0x100 * i
/-- mapping (R107). -/
def map_RX (i k : Nat) : Nat := 0x160001 + 0x100 * i + k
/-- COB-ID (R104). -/
def tpdo_COB_ID (i : Nat) : Nat := 0x180001 + 0x100 * i
/-- transmission type (R104). -/
def tpdo_TYPE (i : Nat) : Nat := 0x180002 + 0x100 * i
/-- inhibit time, 100 us (R104). -/
def tpdo_INHIBIT (i : Nat) : Nat := 0x180003 + 0x100 * i
/-- event timer, ms (R104). -/
def tpdo_TIMER (i : Nat) : Nat := 0x180005 + 0x100 * i
/-- mapping count (R107). -/
def map_TX_COUNT (i : Nat) : Nat := 0x1A0000 + 0x100 * i
/-- mapping (R107). -/
def map_TX (i k : Nat) : Nat := 0x1A0001 + 0x100 * i + k
/-- RxPDOs assigned (R107). -/
def asg_RX_COUNT : Nat := 0x1C1200
/-- RxPDO (R107). -/
def asg_RX (k : Nat) : Nat := 0x1C1201 + k
/-- TxPDOs assigned (R107). -/
def asg_TX_COUNT : Nat := 0x1C1300
/-- TxPDO (R107). -/
def asg_TX (k : Nat) : Nat := 0x1C1301 + k
/-- SYNC_MODE (outputs) (R100). -/
def sync2_SYNC_MODE : Nat := 0x1C3201
/-- CYCLE_TIME (R100). -/
def sync2_CYCLE_TIME : Nat := 0x1C3202
/-- SHIFT_TIME (R100). -/
def sync2_SHIFT_TIME : Nat := 0x1C3203
/-- MIN_CYCLE (R100). -/
def sync2_MIN_CYCLE : Nat := 0x1C3205
/-- SYNC_MODE (inputs) (R100). -/
def sync3_SYNC_MODE : Nat := 0x1C3301
/-- CALC_COPY (R100). -/
def sync3_CALC_COPY : Nat := 0x1C3306
/-- ALARM_STATE (R105). -/
def pdo_ALARM_STATE (k : Nat) : Nat := 0x1E0001 + k
/-- ALARM_ACK (R105). -/
def pdo_ALARM_ACK : Nat := 0x1E0101
/-- ALARM_SEQ (R105). -/
def pdo_ALARM_SEQ : Nat := 0x1E0201
/-- ALARM_CRC (R105). -/
def pdo_ALARM_CRC : Nat := 0x1E0202
/-- HAPTIC_TRIG (R105). -/
def pdo_HAPTIC_TRIG (k : Nat) : Nat := 0x1E0301 + k
/-- COUNT (R105). -/
def ppanel_COUNT (i : Nat) : Nat := 0x1E1001 + 0x100 * i
/-- EVENTS (R105). -/
def ppanel_EVENTS (i : Nat) : Nat := 0x1E1002 + 0x100 * i
/-- CONTACT (R105). -/
def ppanel_CONTACT (i k : Nat) : Nat := 0x1E1003 + 0x100 * i + k
/-- PD_STATUS (R105). -/
def pdo_PD_STATUS : Nat := 0x1E2001
/-- TOUCH_SEQ (R105). -/
def pdo_TOUCH_SEQ : Nat := 0x1E2002
/-- PD_SOURCE (R94). -/
def comm_PD_SOURCE : Nat := 0x1FE001
/-- CAN_ENABLE (R94). -/
def comm_CAN_ENABLE : Nat := 0x1FE002
/-- CAN0_NODE_ID (R94). -/
def comm_CAN0_NODE_ID : Nat := 0x1FE003
/-- CAN1_NODE_ID (R94). -/
def comm_CAN1_NODE_ID : Nat := 0x1FE004
/-- CAN_ARB_RATE (R94). -/
def comm_CAN_ARB_RATE : Nat := 0x1FE005
/-- CAN_DATA_RATE (R94). -/
def comm_CAN_DATA_RATE : Nat := 0x1FE006
/-- ALARM_SAFE (R94). -/
def comm_ALARM_SAFE : Nat := 0x1FE007
/-- ALARM_TIMEOUT (R94). -/
def comm_ALARM_TIMEOUT : Nat := 0x1FE008
/-- ALARM_CHECK (R94). -/
def comm_ALARM_CHECK : Nat := 0x1FE009
/-- PD_CYCLES (R94). -/
def comm_PD_CYCLES : Nat := 0x1FE00A
/-- ALARM_REJECTS (R94). -/
def comm_ALARM_REJECTS : Nat := 0x1FE00B
/-- FOREIGN_PD (R94). -/
def comm_FOREIGN_PD : Nat := 0x1FE00C
/-- EMCY_DROPPED (R94). -/
def comm_EMCY_DROPPED : Nat := 0x1FE00D
/-- PART_NUMBER (R92). -/
def id_PART_NUMBER : Nat := 0x200001
/-- STEPPING (R92). -/
def id_STEPPING : Nat := 0x200002
/-- MEMBER (R92). -/
def id_MEMBER : Nat := 0x200003
/-- SERIAL (R92). -/
def id_SERIAL : Nat := 0x200004
/-- ROM_VERSION (R92). -/
def id_ROM_VERSION : Nat := 0x200005
/-- TRUSTED_VERSION (R92). -/
def id_TRUSTED_VERSION : Nat := 0x200006
/-- OPEN_VERSION (R92). -/
def id_OPEN_VERSION : Nat := 0x200007
/-- LAYOUT (R92). -/
def id_LAYOUT : Nat := 0x200008
/-- DEVICE_STATE (R93). -/
def glob_DEVICE_STATE : Nat := 0x200101
/-- LAST_EMCY (R93). -/
def glob_LAST_EMCY : Nat := 0x200102
/-- UPTIME (R93). -/
def glob_UPTIME : Nat := 0x200103
/-- RESET_REASON (R93). -/
def glob_RESET_REASON : Nat := 0x200104
/-- STORED_SOURCE (R93). -/
def glob_STORED_SOURCE : Nat := 0x200105
/-- WRITES_REFUSED (R93). -/
def glob_WRITES_REFUSED : Nat := 0x200106
/-- READS_REFUSED (R93). -/
def glob_READS_REFUSED : Nat := 0x200107
/-- COMMIT (R91). -/
def cc_COMMIT : Nat := 0x201001
/-- COMMIT_STATE (R91). -/
def cc_COMMIT_STATE : Nat := 0x201002
/-- STAGED (R91). -/
def cc_STAGED : Nat := 0x201003
/-- REFUSED_AT (R91). -/
def cc_REFUSED_AT : Nat := 0x201004
/-- REFUSE_REASON (R91). -/
def cc_REFUSE_REASON : Nat := 0x201005
/-- GENERATION (R91). -/
def cc_GENERATION : Nat := 0x201006
/-- LAST_ABORT (R91). -/
def cc_LAST_ABORT : Nat := 0x201007
/-- IMG_STATE (R91). -/
def cc_IMG_STATE : Nat := 0x201008
/-- IMG_STAGED (R91). -/
def cc_IMG_STAGED : Nat := 0x201009
/-- IMG_REFUSED_AT (R91). -/
def cc_IMG_REFUSED_AT : Nat := 0x20100A
/-- IMG_REASON (R91). -/
def cc_IMG_REASON : Nat := 0x20100B
/-- IMG_ABORT (R91). -/
def cc_IMG_ABORT : Nat := 0x20100C
/-- IMAGE (R90). -/
def img_IMAGE : Nat := 0x202001
/-- ACTION (R90). -/
def img_ACTION : Nat := 0x202002
/-- IMAGE_STATE (R90). -/
def img_IMAGE_STATE : Nat := 0x202003
/-- IMAGE_ERROR (R90). -/
def img_IMAGE_ERROR : Nat := 0x202004
/-- IMAGE_FAIL_AT (R90). -/
def img_IMAGE_FAIL_AT : Nat := 0x202005
/-- LKT_STATE (R394). -/
def lkt_LKT_STATE : Nat := 0x203001
/-- RESTARTS (R394). -/
def lkt_RESTARTS : Nat := 0x203002
/-- FAILED_SERIES (R394). -/
def lkt_FAILED_SERIES : Nat := 0x203003
/-- LAST_RESTART (R394). -/
def lkt_LAST_RESTART : Nat := 0x203004
/-- POWER_REFUSALS (R394). -/
def lkt_POWER_REFUSALS : Nat := 0x203005
/-- HANDOVERS (R394). -/
def lkt_HANDOVERS : Nat := 0x203006
/-- FIRST_MEASURE (R394). -/
def lkt_FIRST_MEASURE : Nat := 0x203007
/-- DEBUG_STATE (R395). -/
def dbg_DEBUG_STATE : Nat := 0x203101
/-- DEBUG_OTP (R395). -/
def dbg_DEBUG_OTP : Nat := 0x203102
/-- UNLOCK_MASK (R395). -/
def dbg_UNLOCK_MASK : Nat := 0x203103
/-- CHALLENGE (R395). -/
def dbg_CHALLENGE : Nat := 0x203104
/-- RESPONSE (R395). -/
def dbg_RESPONSE : Nat := 0x203105
/-- UNLOCK_STATE (R395). -/
def dbg_UNLOCK_STATE : Nat := 0x203106
/-- UNLOCK_FAILS (R395). -/
def dbg_UNLOCK_FAILS : Nat := 0x203107
/-- NONCE (R396). -/
def sig_NONCE : Nat := 0x203201
/-- SIGNET_STATE (R396). -/
def sig_SIGNET_STATE : Nat := 0x203202
/-- REPORT (R396). -/
def sig_REPORT : Nat := 0x203203
/-- CERT (R396). -/
def sig_CERT : Nat := 0x203204
/-- OWNERSHIP (R396). -/
def own_OWNERSHIP : Nat := 0x203300
/-- XING_TIMEOUT (R413). -/
def xing_XING_TIMEOUT : Nat := 0x204001
/-- TIMEOUTS (R413). -/
def xing_TIMEOUTS : Nat := 0x204002
/-- NOTICES (R413). -/
def xing_NOTICES : Nat := 0x204003
/-- RESET_REFUSED (R413). -/
def xing_RESET_REFUSED : Nat := 0x204004
/-- ISLANDS (R413). -/
def xing_ISLANDS : Nat := 0x204005
/-- XING_TABLE (R413). -/
def xing_XING_TABLE : Nat := 0x204100
/-- NEXT_SLOT (R415). -/
def xlog_NEXT_SLOT : Nat := 0x204201
/-- OVERWRITTEN (R415). -/
def xlog_OVERWRITTEN : Nat := 0x204202
/-- CLEAR (R415). -/
def xlog_CLEAR : Nat := 0x204203
/-- slot 1 to 16 (R415). -/
def xlog_SLOT (k : Nat) : Nat := 0x204301 + k
/-- NEXT_SLOT (R42). -/
def viol_NEXT_SLOT : Nat := 0x208001
/-- OVERWRITTEN (R42). -/
def viol_OVERWRITTEN : Nat := 0x208002
/-- CLEAR (R42). -/
def viol_CLEAR : Nat := 0x208003
/-- LOST (R42). -/
def viol_LOST : Nat := 0x208004
/-- slot 1 to 64 (R42). -/
def viol_SLOT (k : Nat) : Nat := 0x208101 + k
/-- DEEP_SLEEP (R427). -/
def pwr_DEEP_SLEEP : Nat := 0x210001
/-- DS_TOUCH (R427). -/
def pwr_DS_TOUCH : Nat := 0x210002
/-- ORDER_REFUSALS (R427). -/
def pwr_ORDER_REFUSALS : Nat := 0x210003
/-- EVENTS_DROPPED (R427). -/
def pwr_EVENTS_DROPPED : Nat := 0x210004
/-- MODE (R427). -/
def pd_MODE (i : Nat) : Nat := 0x211001 + 0x100 * i
/-- IDLE_OFF (R427). -/
def pd_IDLE_OFF (i : Nat) : Nat := 0x211002 + 0x100 * i
/-- STATE (R427). -/
def pd_STATE (i : Nat) : Nat := 0x211003 + 0x100 * i
/-- WAKES (R427). -/
def pd_WAKES (i : Nat) : Nat := 0x211004 + 0x100 * i
/-- LAST_WAKE (R427). -/
def pd_LAST_WAKE (i : Nat) : Nat := 0x211005 + 0x100 * i
/-- WARN of VDD_CORE, VDD_SRAM, VDDQ, VDD_IO (R431). -/
def sup_WARN (k : Nat) : Nat := 0x212001 + k
/-- RESET of the same rails (R431). -/
def sup_RESET (k : Nat) : Nat := 0x212005 + k
/-- LEVEL of the same rails (R431). -/
def sup_LEVEL (k : Nat) : Nat := 0x212009 + k
/-- THROTTLE_T (R433). -/
def thm_THROTTLE_T : Nat := 0x212101
/-- THROTTLED (R433). -/
def thm_THROTTLED : Nat := 0x212102
/-- RQ_CLOCK (R433). -/
def thm_RQ_CLOCK : Nat := 0x212103
/-- TEMP of TS0–TS11 (R433). -/
def thm_TEMP (k : Nat) : Nat := 0x212104 + k
/-- NEXT_SLOT (R434). -/
def slog_NEXT_SLOT : Nat := 0x213001
/-- OVERWRITTEN (R434). -/
def slog_OVERWRITTEN : Nat := 0x213002
/-- CLEAR (R434). -/
def slog_CLEAR : Nat := 0x213003
/-- SLOT (R434). -/
def slog_SLOT (k : Nat) : Nat := 0x213101 + k
/-- HOURS (R441). -/
def hm_HOURS : Nat := 0x220001
/-- EPOCH_HOURS (R441). -/
def hm_EPOCH_HOURS : Nat := 0x220002
/-- EPOCH_NOW (R441). -/
def hm_EPOCH_NOW : Nat := 0x220003
/-- EPOCH_STATE (R441). -/
def hm_EPOCH_STATE : Nat := 0x220004
/-- MAINT_WINDOW (R441). -/
def hm_MAINT_WINDOW : Nat := 0x220005
/-- SEQ (R441). -/
def hm_SEQ : Nat := 0x220006
/-- TARGET_MV (R441). -/
def hm_TARGET_MV : Nat := 0x220007
/-- MIN_MARGIN (R441). -/
def hm_MIN_MARGIN : Nat := 0x220008
/-- TED_HITS (R441). -/
def hm_TED_HITS : Nat := 0x220009
/-- RAISE_LEFT (R441). -/
def hm_RAISE_LEFT : Nat := 0x22000A
/-- CEILINGS (R441). -/
def hm_CEILINGS : Nat := 0x220100
/-- H_ACTIVE (R200). -/
def head_H_ACTIVE (i : Nat) : Nat := 0x300001 + 0x4000 * i
/-- H_FRONT (R200). -/
def head_H_FRONT (i : Nat) : Nat := 0x300002 + 0x4000 * i
/-- H_SYNC (R200). -/
def head_H_SYNC (i : Nat) : Nat := 0x300003 + 0x4000 * i
/-- H_BACK (R200). -/
def head_H_BACK (i : Nat) : Nat := 0x300004 + 0x4000 * i
/-- V_ACTIVE (R200). -/
def head_V_ACTIVE (i : Nat) : Nat := 0x300005 + 0x4000 * i
/-- V_FRONT (R200). -/
def head_V_FRONT (i : Nat) : Nat := 0x300006 + 0x4000 * i
/-- V_SYNC (R200). -/
def head_V_SYNC (i : Nat) : Nat := 0x300007 + 0x4000 * i
/-- V_BACK (R200). -/
def head_V_BACK (i : Nat) : Nat := 0x300008 + 0x4000 * i
/-- PIXEL_CLOCK (R200). -/
def head_PIXEL_CLOCK (i : Nat) : Nat := 0x300009 + 0x4000 * i
/-- ENABLE (R200). -/
def head_ENABLE (i : Nat) : Nat := 0x30000A + 0x4000 * i
/-- SYNC_POL (R200). -/
def head_SYNC_POL (i : Nat) : Nat := 0x30000B + 0x4000 * i
/-- SCAN_MODE (R200). -/
def head_SCAN_MODE (i : Nat) : Nat := 0x30000C + 0x4000 * i
/-- CHANGE (R200). -/
def head_CHANGE (i : Nat) : Nat := 0x30000D + 0x4000 * i
/-- LATCH_LEAD (R204). -/
def head_LATCH_LEAD (i : Nat) : Nat := 0x300101 + 0x4000 * i
/-- TE_INPUT (R204). -/
def head_TE_INPUT (i : Nat) : Nat := 0x300102 + 0x4000 * i
/-- TE_EDGE (R204). -/
def head_TE_EDGE (i : Nat) : Nat := 0x300103 + 0x4000 * i
/-- TE_TIMEOUT (R204). -/
def head_TE_TIMEOUT (i : Nat) : Nat := 0x300104 + 0x4000 * i
/-- TE_DELAY (R204). -/
def head_TE_DELAY (i : Nat) : Nat := 0x300105 + 0x4000 * i
/-- LOCK_EN (R217). -/
def head_LOCK_EN (i : Nat) : Nat := 0x300201 + 0x4000 * i
/-- LOCK_PERIOD (R217). -/
def head_LOCK_PERIOD (i : Nat) : Nat := 0x300202 + 0x4000 * i
/-- LOCK_OFFSET (R217). -/
def head_LOCK_OFFSET (i : Nat) : Nat := 0x300203 + 0x4000 * i
/-- LOCK_ACQUIRE (R217). -/
def head_LOCK_ACQUIRE (i : Nat) : Nat := 0x300204 + 0x4000 * i
/-- STATE (R222). -/
def head_STATE (i : Nat) : Nat := 0x300301 + 0x4000 * i
/-- FRAME (R222). -/
def head_FRAME (i : Nat) : Nat := 0x300302 + 0x4000 * i
/-- LINE (R222). -/
def head_LINE (i : Nat) : Nat := 0x300303 + 0x4000 * i
/-- TE_STATE (R222). -/
def head_TE_STATE (i : Nat) : Nat := 0x300304 + 0x4000 * i
/-- LOCK_STATE (R222). -/
def head_LOCK_STATE (i : Nat) : Nat := 0x300305 + 0x4000 * i
/-- LOCK_ERROR (R222). -/
def head_LOCK_ERROR (i : Nat) : Nat := 0x300306 + 0x4000 * i
/-- TOLERANCE (R222). -/
def head_TOLERANCE (i : Nat) : Nat := 0x300307 + 0x4000 * i
/-- LAST_IRREGULAR (R222). -/
def head_LAST_IRREGULAR (i : Nat) : Nat := 0x300308 + 0x4000 * i
/-- IRREG_CAUSE (R222). -/
def head_IRREG_CAUSE (i : Nat) : Nat := 0x300309 + 0x4000 * i
/-- UNDERRUN_LINES (R223). -/
def head_UNDERRUN_LINES (i : Nat) : Nat := 0x300401 + 0x4000 * i
/-- CAMEO_UNDERRUNS (R223). -/
def head_CAMEO_UNDERRUNS (i : Nat) : Nat := 0x300402 + 0x4000 * i
/-- IRREGULAR_FRAMES (R223). -/
def head_IRREGULAR_FRAMES (i : Nat) : Nat := 0x300403 + 0x4000 * i
/-- TE_MISSED (R223). -/
def head_TE_MISSED (i : Nat) : Nat := 0x300404 + 0x4000 * i
/-- TE_EARLY (R223). -/
def head_TE_EARLY (i : Nat) : Nat := 0x300405 + 0x4000 * i
/-- WARP_LIMITS (R223). -/
def head_WARP_LIMITS (i : Nat) : Nat := 0x300406 + 0x4000 * i
/-- LOCK_LOSSES (R223). -/
def head_LOCK_LOSSES (i : Nat) : Nat := 0x300407 + 0x4000 * i
/-- M00, M01, M02, M10 … M22 (R180). -/
def head_M (i k : Nat) : Nat := 0x300801 + 0x4000 * i + k
/-- O0, O1, O2 (R180). -/
def head_O (i k : Nat) : Nat := 0x30080A + 0x4000 * i + k
/-- OUT_MATRIX_EN (R180). -/
def head_OUT_MATRIX_EN (i : Nat) : Nat := 0x30080D + 0x4000 * i
/-- LUT_SEL (R183). -/
def head_LUT_SEL (i : Nat) : Nat := 0x300901 + 0x4000 * i
/-- BACKGROUND (R183). -/
def head_BACKGROUND (i : Nat) : Nat := 0x300902 + 0x4000 * i
/-- LUT_SUN (R183). -/
def head_LUT_SUN (i : Nat) : Nat := 0x300A00 + 0x4000 * i
/-- LUT_NIGHT (R183). -/
def head_LUT_NIGHT (i : Nat) : Nat := 0x300B00 + 0x4000 * i
/-- SCALE_SET1 (R183). -/
def head_SCALE_SET1 (i : Nat) : Nat := 0x300C00 + 0x4000 * i
/-- SCALE_SET2 (R183). -/
def head_SCALE_SET2 (i : Nat) : Nat := 0x300D00 + 0x4000 * i
/-- SLICE (R183). -/
def head_SLICE (i : Nat) : Nat := 0x300E01 + 0x4000 * i
/-- POOL_USED (R183). -/
def head_POOL_USED (i : Nat) : Nat := 0x300E02 + 0x4000 * i
/-- POOL_FREE (R183). -/
def head_POOL_FREE (i : Nat) : Nat := 0x300E03 + 0x4000 * i
/-- FETCH_BYTES (R183). -/
def head_FETCH_BYTES (i : Nat) : Nat := 0x300E04 + 0x4000 * i
/-- FETCH_LIMIT (R183). -/
def head_FETCH_LIMIT (i : Nat) : Nat := 0x300E05 + 0x4000 * i
/-- LUT_ACTIVE (R183). -/
def head_LUT_ACTIVE (i : Nat) : Nat := 0x300E06 + 0x4000 * i
/-- FILIGREE_FAULTS (R183). -/
def head_FILIGREE_FAULTS (i : Nat) : Nat := 0x300E07 + 0x4000 * i
/-- GROUPS_TAKEN (R183). -/
def head_GROUPS_TAKEN (i : Nat) : Nat := 0x300E08 + 0x4000 * i
/-- WB_FRAMES (R183). -/
def head_WB_FRAMES (i : Nat) : Nat := 0x300E09 + 0x4000 * i
/-- WB_DROPS (R183). -/
def head_WB_DROPS (i : Nat) : Nat := 0x300E0A + 0x4000 * i
/-- FILIGREE_GEN (R183). -/
def head_FILIGREE_GEN (i : Nat) : Nat := 0x300E0B + 0x4000 * i
/-- FILIGREE (R183). -/
def head_FILIGREE (i : Nat) : Nat := 0x300F00 + 0x4000 * i
/-- ENABLE (R179). -/
def facet_ENABLE (i j : Nat) : Nat := 0x301001 + 0x4000 * i + 0x400 * j
/-- SOURCE (R179). -/
def facet_SOURCE (i j : Nat) : Nat := 0x301002 + 0x4000 * i + 0x400 * j
/-- FORMAT (R179). -/
def facet_FORMAT (i j : Nat) : Nat := 0x301003 + 0x4000 * i + 0x400 * j
/-- DST_X (R179). -/
def facet_DST_X (i j : Nat) : Nat := 0x301004 + 0x4000 * i + 0x400 * j
/-- DST_Y (R179). -/
def facet_DST_Y (i j : Nat) : Nat := 0x301005 + 0x4000 * i + 0x400 * j
/-- DST_W (R179). -/
def facet_DST_W (i j : Nat) : Nat := 0x301006 + 0x4000 * i + 0x400 * j
/-- DST_H (R179). -/
def facet_DST_H (i j : Nat) : Nat := 0x301007 + 0x4000 * i + 0x400 * j
/-- SRC_X (R179). -/
def facet_SRC_X (i j : Nat) : Nat := 0x301008 + 0x4000 * i + 0x400 * j
/-- SRC_Y (R179). -/
def facet_SRC_Y (i j : Nat) : Nat := 0x301009 + 0x4000 * i + 0x400 * j
/-- SRC_W (R179). -/
def facet_SRC_W (i j : Nat) : Nat := 0x30100A + 0x4000 * i + 0x400 * j
/-- SRC_H (R179). -/
def facet_SRC_H (i j : Nat) : Nat := 0x30100B + 0x4000 * i + 0x400 * j
/-- GLOBAL_ALPHA (R179). -/
def facet_GLOBAL_ALPHA (i j : Nat) : Nat := 0x30100C + 0x4000 * i + 0x400 * j
/-- ALPHA_MODE (R179). -/
def facet_ALPHA_MODE (i j : Nat) : Nat := 0x30100D + 0x4000 * i + 0x400 * j
/-- Z (R179). -/
def facet_Z (i j : Nat) : Nat := 0x30100E + 0x4000 * i + 0x400 * j
/-- LINES (R179). -/
def facet_LINES (i j : Nat) : Nat := 0x30100F + 0x4000 * i + 0x400 * j
/-- SCALER_SET (R179). -/
def facet_SCALER_SET (i j : Nat) : Nat := 0x301010 + 0x4000 * i + 0x400 * j
/-- FRESH_REQUIRED (R179). -/
def facet_FRESH_REQUIRED (i j : Nat) : Nat := 0x301011 + 0x4000 * i + 0x400 * j
/-- FRESH_LIMIT (R179). -/
def facet_FRESH_LIMIT (i j : Nat) : Nat := 0x301012 + 0x4000 * i + 0x400 * j
/-- STALE_FILL (R179). -/
def facet_STALE_FILL (i j : Nat) : Nat := 0x301013 + 0x4000 * i + 0x400 * j
/-- REPROJECT (R179). -/
def facet_REPROJECT (i j : Nat) : Nat := 0x301014 + 0x4000 * i + 0x400 * j
/-- M00, M01, M02, M10 … M22 (R180). -/
def facet_M (i j k : Nat) : Nat := 0x301101 + 0x4000 * i + 0x400 * j + k
/-- O0, O1, O2 (R180). -/
def facet_O (i j k : Nat) : Nat := 0x30110A + 0x4000 * i + 0x400 * j + k
/-- MATRIX_MODE (R180). -/
def facet_MATRIX_MODE (i j : Nat) : Nat := 0x30110D + 0x4000 * i + 0x400 * j
/-- DIRECT_EN (R181). -/
def facet_DIRECT_EN (i j : Nat) : Nat := 0x301201 + 0x4000 * i + 0x400 * j
/-- DIRECT_CLIENT (R181). -/
def facet_DIRECT_CLIENT (i j : Nat) : Nat := 0x301202 + 0x4000 * i + 0x400 * j
/-- DIRECT_ADDR (R181). -/
def facet_DIRECT_ADDR (i j : Nat) : Nat := 0x301203 + 0x4000 * i + 0x400 * j
/-- DIRECT_PITCH (R181). -/
def facet_DIRECT_PITCH (i j : Nat) : Nat := 0x301204 + 0x4000 * i + 0x400 * j
/-- DIRECT_ADDR2 (R181). -/
def facet_DIRECT_ADDR2 (i j : Nat) : Nat := 0x301205 + 0x4000 * i + 0x400 * j
/-- HOLDER (R182). -/
def facet_HOLDER (i j : Nat) : Nat := 0x301301 + 0x4000 * i + 0x400 * j
/-- GENERATION (R182). -/
def facet_GENERATION (i j : Nat) : Nat := 0x301302 + 0x4000 * i + 0x400 * j
/-- SHOWN_ADDR (R182). -/
def facet_SHOWN_ADDR (i j : Nat) : Nat := 0x301303 + 0x4000 * i + 0x400 * j
/-- FLIPS (R182). -/
def facet_FLIPS (i j : Nat) : Nat := 0x301304 + 0x4000 * i + 0x400 * j
/-- LATE (R182). -/
def facet_LATE (i j : Nat) : Nat := 0x301305 + 0x4000 * i + 0x400 * j
/-- REPROJECTED (R182). -/
def facet_REPROJECTED (i j : Nat) : Nat := 0x301306 + 0x4000 * i + 0x400 * j
/-- STALE (R182). -/
def facet_STALE (i j : Nat) : Nat := 0x301307 + 0x4000 * i + 0x400 * j
/-- UNDERRUNS (R182). -/
def facet_UNDERRUNS (i j : Nat) : Nat := 0x301308 + 0x4000 * i + 0x400 * j
/-- POOL_LINES (R182). -/
def facet_POOL_LINES (i j : Nat) : Nat := 0x301309 + 0x4000 * i + 0x400 * j
/-- ROUTE of H0–H15 (R219). -/
def xbar_ROUTE (k : Nat) : Nat := 0x340001 + k
/-- KIND (R226). -/
def port_KIND (i : Nat) : Nat := 0x340101 + 0x100 * i
/-- LANES (R226). -/
def port_LANES (i : Nat) : Nat := 0x340102 + 0x100 * i
/-- LINK_RATE (R226). -/
def port_LINK_RATE (i : Nat) : Nat := 0x340103 + 0x100 * i
/-- BPC (R226). -/
def port_BPC (i : Nat) : Nat := 0x340104 + 0x100 * i
/-- LVDS_MAP (R226). -/
def port_LVDS_MAP (i : Nat) : Nat := 0x340105 + 0x100 * i
/-- DITHER (R226). -/
def port_DITHER (i : Nat) : Nat := 0x340106 + 0x100 * i
/-- MST (R226). -/
def port_MST (i : Nat) : Nat := 0x340107 + 0x100 * i
/-- DSC_EN (R226). -/
def port_DSC_EN (i : Nat) : Nat := 0x340108 + 0x100 * i
/-- DSC_BPP (R226). -/
def port_DSC_BPP (i : Nat) : Nat := 0x340109 + 0x100 * i
/-- DSC_SLICES (R226). -/
def port_DSC_SLICES (i : Nat) : Nat := 0x34010A + 0x100 * i
/-- DSC_SLICE_H (R226). -/
def port_DSC_SLICE_H (i : Nat) : Nat := 0x34010B + 0x100 * i
/-- HPD (R226). -/
def port_HPD (i : Nat) : Nat := 0x34010C + 0x100 * i
/-- DSI_INIT (R226). -/
def port_DSI_INIT (i : Nat) : Nat := 0x34010D + 0x100 * i
/-- STATE (R227). -/
def port_STATE (i : Nat) : Nat := 0x341101 + 0x100 * i
/-- STREAMS (R227). -/
def port_STREAMS (i : Nat) : Nat := 0x341102 + 0x100 * i
/-- BRINGUPS (R227). -/
def port_BRINGUPS (i : Nat) : Nat := 0x341103 + 0x100 * i
/-- LINK_FAILS (R227). -/
def port_LINK_FAILS (i : Nat) : Nat := 0x341104 + 0x100 * i
/-- HPD_IRQS (R227). -/
def port_HPD_IRQS (i : Nat) : Nat := 0x341105 + 0x100 * i
/-- LINK_LOSSES (R227). -/
def port_LINK_LOSSES (i : Nat) : Nat := 0x341106 + 0x100 * i
/-- MST_SLOTS (R227). -/
def port_MST_SLOTS (i : Nat) : Nat := 0x341107 + 0x100 * i
/-- X (R262). -/
def cameo_C0_X (i : Nat) : Nat := 0x380001 + 0x400 * i
/-- Y (R262). -/
def cameo_C0_Y (i : Nat) : Nat := 0x380002 + 0x400 * i
/-- W (R262). -/
def cameo_C0_W (i : Nat) : Nat := 0x380003 + 0x400 * i
/-- H (R262). -/
def cameo_C0_H (i : Nat) : Nat := 0x380004 + 0x400 * i
/-- FORMAT (R262). -/
def cameo_C0_FORMAT (i : Nat) : Nat := 0x380005 + 0x400 * i
/-- X (R262). -/
def cameo_C1_X (i : Nat) : Nat := 0x380006 + 0x400 * i
/-- Y (R262). -/
def cameo_C1_Y (i : Nat) : Nat := 0x380007 + 0x400 * i
/-- W (R262). -/
def cameo_C1_W (i : Nat) : Nat := 0x380008 + 0x400 * i
/-- H (R262). -/
def cameo_C1_H (i : Nat) : Nat := 0x380009 + 0x400 * i
/-- FORMAT (R262). -/
def cameo_C1_FORMAT (i : Nat) : Nat := 0x38000A + 0x400 * i
/-- REGION 0–7 (R263). -/
def cameo_REGION (i k : Nat) : Nat := 0x380101 + 0x400 * i + k
/-- LAST_VALUE 0–7 (R263). -/
def cameo_LAST_VALUE (i k : Nat) : Nat := 0x380201 + 0x400 * i + k
/-- EXPECTED 0–7 (R263). -/
def cameo_EXPECTED (i k : Nat) : Nat := 0x380209 + 0x400 * i + k
/-- CHECK_STATE (R264). -/
def cameo_CHECK_STATE (i : Nat) : Nat := 0x380301 + 0x400 * i
/-- CHECKED (R264). -/
def cameo_CHECKED (i : Nat) : Nat := 0x380302 + 0x400 * i
/-- MISMATCHES (R264). -/
def cameo_MISMATCHES (i : Nat) : Nat := 0x380303 + 0x400 * i
/-- SKIPPED (R264). -/
def cameo_SKIPPED (i : Nat) : Nat := 0x380304 + 0x400 * i
/-- CAMEO_LATE (R264). -/
def cameo_CAMEO_LATE (i : Nat) : Nat := 0x380305 + 0x400 * i
/-- PRESENTATIONS (R264). -/
def cameo_PRESENTATIONS (i : Nat) : Nat := 0x380306 + 0x400 * i
/-- FAULT_REGION (R264). -/
def cameo_FAULT_REGION (i : Nat) : Nat := 0x380307 + 0x400 * i
/-- FAULT_FRAME (R264). -/
def cameo_FAULT_FRAME (i : Nat) : Nat := 0x380308 + 0x400 * i
/-- OWNER of CV16–CV31 (R265). -/
def cvu_OWNER (k : Nat) : Nat := 0x384001 + k
/-- FAULT_LATCHED (R265). -/
def cchk_FAULT_LATCHED : Nat := 0x384101
/-- ACK_HOLD (R265). -/
def cchk_ACK_HOLD : Nat := 0x384102
/-- CELLS (R265). -/
def cchk_CELLS : Nat := 0x384103
/-- ENGRAVING_ID (R265). -/
def cchk_ENGRAVING_ID : Nat := 0x384104
/-- A_REF (R314). -/
def aud_A_REF : Nat := 0x440001
/-- B_REF (R314). -/
def aud_B_REF : Nat := 0x440002
/-- V_REF (R314). -/
def aud_V_REF : Nat := 0x440003
/-- STATE_A, STATE_B, STATE_V (R314). -/
def aud_STATE_A (k : Nat) : Nat := 0x440101 + k
/-- SWAPS (R314). -/
def aud_SWAPS : Nat := 0x440104
/-- SLIPS (R314). -/
def aud_SLIPS : Nat := 0x440105
/-- CROSSFADES (R314). -/
def aud_CROSSFADES : Nat := 0x440106
/-- ENABLE (R316). -/
def tdm_ENABLE (i : Nat) : Nat := 0x441001 + 0x100 * i
/-- DOMAIN (R316). -/
def tdm_DOMAIN (i : Nat) : Nat := 0x441002 + 0x100 * i
/-- ROLE (R316). -/
def tdm_ROLE (i : Nat) : Nat := 0x441003 + 0x100 * i
/-- SLOTS (R316). -/
def tdm_SLOTS (i : Nat) : Nat := 0x441004 + 0x100 * i
/-- SLOT_BITS (R316). -/
def tdm_SLOT_BITS (i : Nat) : Nat := 0x441005 + 0x100 * i
/-- DATA_BITS (R316). -/
def tdm_DATA_BITS (i : Nat) : Nat := 0x441006 + 0x100 * i
/-- FS_FORMAT (R316). -/
def tdm_FS_FORMAT (i : Nat) : Nat := 0x441007 + 0x100 * i
/-- RX_ASRC (R316). -/
def tdm_RX_ASRC (i : Nat) : Nat := 0x441008 + 0x100 * i
/-- TX_ASRC (R316). -/
def tdm_TX_ASRC (i : Nat) : Nat := 0x441009 + 0x100 * i
/-- TX_MAP (R316). -/
def tdm_TX_MAP (i : Nat) : Nat := 0x44100A + 0x100 * i
/-- GATE_IDLE (R316). -/
def tdm_GATE_IDLE (i : Nat) : Nat := 0x44100B + 0x100 * i
/-- STATE (R316). -/
def tdm_STATE (i : Nat) : Nat := 0x441801 + 0x100 * i
/-- SYNC_LOSSES (R316). -/
def tdm_SYNC_LOSSES (i : Nat) : Nat := 0x441802 + 0x100 * i
/-- MISSING_FRAMES (R316). -/
def tdm_MISSING_FRAMES (i : Nat) : Nat := 0x441803 + 0x100 * i
/-- ENABLE (R319). -/
def pdm_ENABLE (i : Nat) : Nat := 0x442001 + 0x100 * i
/-- EDGE (R319). -/
def pdm_EDGE (i : Nat) : Nat := 0x442002 + 0x100 * i
/-- DOMAIN (R319). -/
def pdm_DOMAIN (i : Nat) : Nat := 0x442003 + 0x100 * i
/-- SRC_KIND (R328). -/
def st_SRC_KIND (i : Nat) : Nat := 0x443001 + 0x100 * i
/-- SRC (R328). -/
def st_SRC (i : Nat) : Nat := 0x443002 + 0x100 * i
/-- DST (R328). -/
def st_DST (i : Nat) : Nat := 0x443003 + 0x100 * i
/-- GAIN (R328). -/
def st_GAIN (i : Nat) : Nat := 0x443004 + 0x100 * i
/-- MUTE (R328). -/
def st_MUTE (i : Nat) : Nat := 0x443005 + 0x100 * i
/-- MODE (R320). -/
def asrc_MODE (i : Nat) : Nat := 0x444001 + 0x100 * i
/-- FROM (R320). -/
def asrc_FROM (i : Nat) : Nat := 0x444002 + 0x100 * i
/-- TO (R320). -/
def asrc_TO (i : Nat) : Nat := 0x444003 + 0x100 * i
/-- LANES (R320). -/
def asrc_LANES (i : Nat) : Nat := 0x444004 + 0x100 * i
/-- FIRST_BUS (R320). -/
def asrc_FIRST_BUS (i : Nat) : Nat := 0x444005 + 0x100 * i
/-- STATE (R320). -/
def asrc_STATE (i : Nat) : Nat := 0x444006 + 0x100 * i
/-- RATIO (R320). -/
def asrc_RATIO (i : Nat) : Nat := 0x444007 + 0x100 * i
/-- RELOCKS (R320). -/
def asrc_RELOCKS (i : Nat) : Nat := 0x444008 + 0x100 * i
/-- SRC_KIND (R321). -/
def mix_SRC_KIND (i : Nat) : Nat := 0x446001 + 0x100 * i
/-- SRC_INDEX (R321). -/
def mix_SRC_INDEX (i : Nat) : Nat := 0x446002 + 0x100 * i
/-- DOMAIN (R321). -/
def mix_DOMAIN (i : Nat) : Nat := 0x446003 + 0x100 * i
/-- GAIN (R321). -/
def mix_GAIN (i : Nat) : Nat := 0x446004 + 0x100 * i
/-- EQ (R321). -/
def mix_EQ (i : Nat) : Nat := 0x446005 + 0x100 * i
/-- COMP_EN (R321). -/
def mix_COMP_EN (i : Nat) : Nat := 0x446006 + 0x100 * i
/-- COMP_THRESHOLD (R321). -/
def mix_COMP_THRESHOLD (i : Nat) : Nat := 0x446007 + 0x100 * i
/-- COMP_RATIO (R321). -/
def mix_COMP_RATIO (i : Nat) : Nat := 0x446008 + 0x100 * i
/-- COMP_ATTACK (R321). -/
def mix_COMP_ATTACK (i : Nat) : Nat := 0x446009 + 0x100 * i
/-- COMP_RELEASE (R321). -/
def mix_COMP_RELEASE (i : Nat) : Nat := 0x44600A + 0x100 * i
/-- COMP_MAKEUP (R321). -/
def mix_COMP_MAKEUP (i : Nat) : Nat := 0x44600B + 0x100 * i
/-- DELAY (R321). -/
def mix_DELAY (i : Nat) : Nat := 0x44600C + 0x100 * i
/-- DOMAIN (R325). -/
def bus_DOMAIN (i : Nat) : Nat := 0x44A001 + 0x100 * i
/-- GAIN (R325). -/
def bus_GAIN (i : Nat) : Nat := 0x44A002 + 0x100 * i
/-- SILENCE_THRESHOLD (R325). -/
def bus_SILENCE_THRESHOLD (i : Nat) : Nat := 0x44A003 + 0x100 * i
/-- SILENCE_HOLD (R325). -/
def bus_SILENCE_HOLD (i : Nat) : Nat := 0x44A004 + 0x100 * i
/-- SILENT (R325). -/
def bus_SILENT (i : Nat) : Nat := 0x44A005 + 0x100 * i
/-- SILENCES (R325). -/
def bus_SILENCES (i : Nat) : Nat := 0x44A006 + 0x100 * i
/-- STRAND_A, STRAND_B, STRAND_V (R323). -/
def aud_STRAND (i : Nat) : Nat := 0x44E000 + 0x100 * i
/-- DIR (R330). -/
def hs_DIR (i : Nat) : Nat := 0x44F001 + 0x100 * i
/-- LANES (R330). -/
def hs_LANES (i : Nat) : Nat := 0x44F002 + 0x100 * i
/-- FIRST (R330). -/
def hs_FIRST (i : Nat) : Nat := 0x44F003 + 0x100 * i
/-- GUESTS (R330). -/
def hs_GUESTS (i : Nat) : Nat := 0x44F004 + 0x100 * i
/-- HOLDER (R330). -/
def hs_HOLDER (i : Nat) : Nat := 0x44F005 + 0x100 * i
/-- STATE (R330). -/
def hs_STATE (i : Nat) : Nat := 0x44F006 + 0x100 * i
/-- STARVATIONS (R330). -/
def hs_STARVATIONS (i : Nat) : Nat := 0x44F007 + 0x100 * i
/-- AMP_MASK (R335). -/
def aud_AMP_MASK (k : Nat) : Nat := 0x451001 + k
/-- AMP_STATE (R335). -/
def aud_AMP_STATE : Nat := 0x451009
/-- ENABLE (R290). -/
def panel_ENABLE (i : Nat) : Nat := 0x480001 + 0x1000 * i
/-- GANG (R290). -/
def panel_GANG (i : Nat) : Nat := 0x480002 + 0x1000 * i
/-- HEAD (R290). -/
def panel_HEAD (i : Nat) : Nat := 0x480003 + 0x1000 * i
/-- SCANS_PER_FRAME (R290). -/
def panel_SCANS_PER_FRAME (i : Nat) : Nat := 0x480004 + 0x1000 * i
/-- FREE_RATE (R290). -/
def panel_FREE_RATE (i : Nat) : Nat := 0x480005 + 0x1000 * i
/-- DRIVE_COUNT (R290). -/
def panel_DRIVE_COUNT (i : Nat) : Nat := 0x480006 + 0x1000 * i
/-- SENSE_COUNT (R290). -/
def panel_SENSE_COUNT (i : Nat) : Nat := 0x480007 + 0x1000 * i
/-- DRIVE_PITCH (R290). -/
def panel_DRIVE_PITCH (i : Nat) : Nat := 0x480008 + 0x1000 * i
/-- SENSE_PITCH (R290). -/
def panel_SENSE_PITCH (i : Nat) : Nat := 0x480009 + 0x1000 * i
/-- CHANNEL_MAP (R290). -/
def panel_CHANNEL_MAP (i : Nat) : Nat := 0x48000A + 0x1000 * i
/-- ORIENT (R290). -/
def panel_ORIENT (i : Nat) : Nat := 0x48000B + 0x1000 * i
/-- FREQS (R290). -/
def panel_FREQS (i : Nat) : Nat := 0x480101 + 0x1000 * i
/-- AMPLITUDE (R290). -/
def panel_AMPLITUDE (i : Nat) : Nat := 0x480102 + 0x1000 * i
/-- GAIN (R290). -/
def panel_GAIN (i : Nat) : Nat := 0x480103 + 0x1000 * i
/-- GLOVE_GAIN (R290). -/
def panel_GLOVE_GAIN (i : Nat) : Nat := 0x480104 + 0x1000 * i
/-- INTEG (R290). -/
def panel_INTEG (i : Nat) : Nat := 0x480105 + 0x1000 * i
/-- GLOVE_INTEG (R290). -/
def panel_GLOVE_INTEG (i : Nat) : Nat := 0x480106 + 0x1000 * i
/-- SELF_EN (R290). -/
def panel_SELF_EN (i : Nat) : Nat := 0x480107 + 0x1000 * i
/-- HOP_THRESHOLD (R290). -/
def panel_HOP_THRESHOLD (i : Nat) : Nat := 0x480108 + 0x1000 * i
/-- HOP_MARGIN (R290). -/
def panel_HOP_MARGIN (i : Nat) : Nat := 0x480109 + 0x1000 * i
/-- MODE (R291). -/
def panel_MODE (i : Nat) : Nat := 0x480201 + 0x1000 * i
/-- WATER (R291). -/
def panel_WATER (i : Nat) : Nat := 0x480202 + 0x1000 * i
/-- TOUCH_THRESHOLD (R291). -/
def panel_TOUCH_THRESHOLD (i : Nat) : Nat := 0x480203 + 0x1000 * i
/-- GLOVE_THRESHOLD (R291). -/
def panel_GLOVE_THRESHOLD (i : Nat) : Nat := 0x480204 + 0x1000 * i
/-- LIFT_RATIO (R291). -/
def panel_LIFT_RATIO (i : Nat) : Nat := 0x480205 + 0x1000 * i
/-- LARGE_AREA (R291). -/
def panel_LARGE_AREA (i : Nat) : Nat := 0x480206 + 0x1000 * i
/-- FINGER_AREA_MAX (R291). -/
def panel_FINGER_AREA_MAX (i : Nat) : Nat := 0x480207 + 0x1000 * i
/-- WATER_RATIO (R291). -/
def panel_WATER_RATIO (i : Nat) : Nat := 0x480208 + 0x1000 * i
/-- TRACK_DIST (R291). -/
def panel_TRACK_DIST (i : Nat) : Nat := 0x480209 + 0x1000 * i
/-- DOWN_SCANS (R291). -/
def panel_DOWN_SCANS (i : Nat) : Nat := 0x48020A + 0x1000 * i
/-- LIFT_SCANS (R291). -/
def panel_LIFT_SCANS (i : Nat) : Nat := 0x48020B + 0x1000 * i
/-- TAU (R291). -/
def panel_TAU (i : Nat) : Nat := 0x480301 + 0x1000 * i
/-- NEG_THRESHOLD (R291). -/
def panel_NEG_THRESHOLD (i : Nat) : Nat := 0x480302 + 0x1000 * i
/-- SIG_THRESHOLD (R291). -/
def panel_SIG_THRESHOLD (i : Nat) : Nat := 0x480303 + 0x1000 * i
/-- STUCK_RELEASE (R291). -/
def panel_STUCK_RELEASE (i : Nat) : Nat := 0x480304 + 0x1000 * i
/-- STUCK_TIME (R291). -/
def panel_STUCK_TIME (i : Nat) : Nat := 0x480305 + 0x1000 * i
/-- SIGNATURE (R291). -/
def panel_SIGNATURE (i : Nat) : Nat := 0x480400 + 0x1000 * i
/-- SELFTEST (R292). -/
def panel_SELFTEST (i : Nat) : Nat := 0x480501 + 0x1000 * i
/-- CAPTURE (R292). -/
def panel_CAPTURE (i : Nat) : Nat := 0x480502 + 0x1000 * i
/-- CMD_STATE (R292). -/
def panel_CMD_STATE (i : Nat) : Nat := 0x480503 + 0x1000 * i
/-- STATE (R292). -/
def panel_STATE (i : Nat) : Nat := 0x480601 + 0x1000 * i
/-- START_STATE (R292). -/
def panel_START_STATE (i : Nat) : Nat := 0x480602 + 0x1000 * i
/-- FREQ (R292). -/
def panel_FREQ (i : Nat) : Nat := 0x480603 + 0x1000 * i
/-- NOISE (R292). -/
def panel_NOISE (i : Nat) : Nat := 0x480604 + 0x1000 * i
/-- CONTACTS (R292). -/
def panel_CONTACTS (i : Nat) : Nat := 0x480605 + 0x1000 * i
/-- FAILED_CHANNELS (R292). -/
def panel_FAILED_CHANNELS (i : Nat) : Nat := 0x480606 + 0x1000 * i
/-- SCAN_RATE (R292). -/
def panel_SCAN_RATE (i : Nat) : Nat := 0x480607 + 0x1000 * i
/-- SCANS (R292). -/
def panel_SCANS (i : Nat) : Nat := 0x480701 + 0x1000 * i
/-- DISCARDED_SCANS (R292). -/
def panel_DISCARDED_SCANS (i : Nat) : Nat := 0x480702 + 0x1000 * i
/-- HOPS (R292). -/
def panel_HOPS (i : Nat) : Nat := 0x480703 + 0x1000 * i
/-- RECALS (R292). -/
def panel_RECALS (i : Nat) : Nat := 0x480704 + 0x1000 * i
/-- LARGE_OBJECTS (R292). -/
def panel_LARGE_OBJECTS (i : Nat) : Nat := 0x480705 + 0x1000 * i
/-- OVERFLOWS (R292). -/
def panel_OVERFLOWS (i : Nat) : Nat := 0x480706 + 0x1000 * i
/-- STUCK_RELEASES (R292). -/
def panel_STUCK_RELEASES (i : Nat) : Nat := 0x480707 + 0x1000 * i
/-- SELFTEST_FAILS (R292). -/
def panel_SELFTEST_FAILS (i : Nat) : Nat := 0x480708 + 0x1000 * i
/-- RING_DROPS (R292). -/
def panel_RING_DROPS (i : Nat) : Nat := 0x480709 + 0x1000 * i
/-- DIAG (R292). -/
def panel_DIAG (i : Nat) : Nat := 0x480800 + 0x1000 * i
/-- ENABLE (R310). -/
def hap_ENABLE (i : Nat) : Nat := 0x4C0001 + 0x400 * i
/-- HEAD (R310). -/
def hap_HEAD (i : Nat) : Nat := 0x4C0002 + 0x400 * i
/-- PWM_FREQ (R310). -/
def hap_PWM_FREQ (i : Nat) : Nat := 0x4C0003 + 0x400 * i
/-- DEAD_TIME (R310). -/
def hap_DEAD_TIME (i : Nat) : Nat := 0x4C0004 + 0x400 * i
/-- DRIVE_MAX (R310). -/
def hap_DRIVE_MAX (i : Nat) : Nat := 0x4C0005 + 0x400 * i
/-- I_LIMIT (R310). -/
def hap_I_LIMIT (i : Nat) : Nat := 0x4C0006 + 0x400 * i
/-- SENSE_MR (R310). -/
def hap_SENSE_MR (i : Nat) : Nat := 0x4C0007 + 0x400 * i
/-- ACC_BUS (R310). -/
def hap_ACC_BUS (i : Nat) : Nat := 0x4C0008 + 0x400 * i
/-- ACC_ADDR (R310). -/
def hap_ACC_ADDR (i : Nat) : Nat := 0x4C0009 + 0x400 * i
/-- ACC_REG (R310). -/
def hap_ACC_REG (i : Nat) : Nat := 0x4C000A + 0x400 * i
/-- ACC_FORMAT (R310). -/
def hap_ACC_FORMAT (i : Nat) : Nat := 0x4C000B + 0x400 * i
/-- ACC_SCALE (R310). -/
def hap_ACC_SCALE (i : Nat) : Nat := 0x4C000C + 0x400 * i
/-- ACC_RATE (R310). -/
def hap_ACC_RATE (i : Nat) : Nat := 0x4C000D + 0x400 * i
/-- ACC_FULL (R310). -/
def hap_ACC_FULL (i : Nat) : Nat := 0x4C000E + 0x400 * i
/-- STOP_THRESHOLD (R310). -/
def hap_STOP_THRESHOLD (i : Nat) : Nat := 0x4C000F + 0x400 * i
/-- BRAKE_LIMIT (R310). -/
def hap_BRAKE_LIMIT (i : Nat) : Nat := 0x4C0010 + 0x400 * i
/-- DEFAULT_AMPLITUDE (R310). -/
def hap_DEFAULT_AMPLITUDE (i : Nat) : Nat := 0x4C0011 + 0x400 * i
/-- CALIBRATE (R310). -/
def hap_CALIBRATE (i : Nat) : Nat := 0x4C0012 + 0x400 * i
/-- STATE (R311). -/
def hap_STATE (i : Nat) : Nat := 0x4C0101 + 0x400 * i
/-- CAL_STATE (R311). -/
def hap_CAL_STATE (i : Nat) : Nat := 0x4C0102 + 0x400 * i
/-- F0 (R311). -/
def hap_F0 (i : Nat) : Nat := 0x4C0103 + 0x400 * i
/-- Q (R311). -/
def hap_Q (i : Nat) : Nat := 0x4C0104 + 0x400 * i
/-- R_CAL (R311). -/
def hap_R_CAL (i : Nat) : Nat := 0x4C0105 + 0x400 * i
/-- R_NOW (R311). -/
def hap_R_NOW (i : Nat) : Nat := 0x4C0106 + 0x400 * i
/-- FLAGS (R311). -/
def hap_FLAGS (i : Nat) : Nat := 0x4C0107 + 0x400 * i
/-- CAL_AMPLITUDE (R311). -/
def hap_CAL_AMPLITUDE (i : Nat) : Nat := 0x4C0108 + 0x400 * i
/-- STALE_DRIFT (R311). -/
def hap_STALE_DRIFT (i : Nat) : Nat := 0x4C0109 + 0x400 * i
/-- EFFECTS (R311). -/
def hap_EFFECTS (i : Nat) : Nat := 0x4C0201 + 0x400 * i
/-- CUTS (R311). -/
def hap_CUTS (i : Nat) : Nat := 0x4C0202 + 0x400 * i
/-- REPLACED (R311). -/
def hap_REPLACED (i : Nat) : Nat := 0x4C0203 + 0x400 * i
/-- ABORTS (R311). -/
def hap_ABORTS (i : Nat) : Nat := 0x4C0204 + 0x400 * i
/-- BRAKE_TIMEOUTS (R311). -/
def hap_BRAKE_TIMEOUTS (i : Nat) : Nat := 0x4C0205 + 0x400 * i
/-- OVERCURRENTS (R311). -/
def hap_OVERCURRENTS (i : Nat) : Nat := 0x4C0206 + 0x400 * i
/-- ACC_ERRORS (R311). -/
def hap_ACC_ERRORS (i : Nat) : Nat := 0x4C0207 + 0x400 * i
/-- DROPPED (R311). -/
def hap_DROPPED (i : Nat) : Nat := 0x4C0208 + 0x400 * i
/-- BIND (R311). -/
def haplib_BIND (i : Nat) : Nat := 0x4C8000 + 0x100 * i
/-- EFFECT_ROM (R311). -/
def haplib_EFFECT_ROM : Nat := 0x4CF000
/-- CHANNEL_MASK (R342). -/
def mem_CHANNEL_MASK : Nat := 0x500001
/-- RANKS (R342). -/
def mem_RANKS : Nat := 0x500002
/-- DENSITY (R342). -/
def mem_DENSITY : Nat := 0x500003
/-- DATA_RATE (R342). -/
def mem_DATA_RATE : Nat := 0x500004
/-- GRAIN (R342). -/
def mem_GRAIN : Nat := 0x500005
/-- MAP_ORDER (R342). -/
def mem_MAP_ORDER : Nat := 0x500006
/-- INLINE_ECC (R342). -/
def mem_INLINE_ECC : Nat := 0x500007
/-- LINK_ECC (R342). -/
def mem_LINK_ECC : Nat := 0x500008
/-- SR_IDLE (R342). -/
def mem_SR_IDLE : Nat := 0x500009
/-- SCRUB_HOURS (R342). -/
def mem_SCRUB_HOURS : Nat := 0x50000A
/-- CAPACITY (R364). -/
def mem_CAPACITY : Nat := 0x500101
/-- USABLE (R364). -/
def mem_USABLE : Nat := 0x500102
/-- OPEN_SIZE (R364). -/
def mem_OPEN_SIZE : Nat := 0x500103
/-- LOCKET_SIZE (R364). -/
def mem_LOCKET_SIZE : Nat := 0x500104
/-- GUEST_POOL (R364). -/
def mem_GUEST_POOL : Nat := 0x500105
/-- GUEST_ALLOCATED (R364). -/
def mem_GUEST_ALLOCATED : Nat := 0x500106
/-- MEM_STATE (R364). -/
def mem_MEM_STATE : Nat := 0x500107
/-- TRAINING (R364). -/
def mem_TRAINING : Nat := 0x500108
/-- RETAINED (R364). -/
def mem_RETAINED : Nat := 0x500109
/-- NEXT_SLOT (R364). -/
def memlog_NEXT_SLOT : Nat := 0x500201
/-- OVERWRITTEN (R364). -/
def memlog_OVERWRITTEN : Nat := 0x500202
/-- CLEAR (R364). -/
def memlog_CLEAR : Nat := 0x500203
/-- slot 1 to 32 (R364). -/
def memlog_SLOT (k : Nat) : Nat := 0x500301 + k
/-- STATE (R365). -/
def chan_STATE (i : Nat) : Nat := 0x501001 + 0x100 * i
/-- RATE (R365). -/
def chan_RATE (i : Nat) : Nat := 0x501002 + 0x100 * i
/-- OWED_MAX (R365). -/
def chan_OWED_MAX (i : Nat) : Nat := 0x501003 + 0x100 * i
/-- BURSTS (R365). -/
def chan_BURSTS (i : Nat) : Nat := 0x501004 + 0x100 * i
/-- CORRECTED (R365). -/
def chan_CORRECTED (i : Nat) : Nat := 0x501005 + 0x100 * i
/-- UNCORRECTED (R365). -/
def chan_UNCORRECTED (i : Nat) : Nat := 0x501006 + 0x100 * i
/-- LINK_CORRECTED (R365). -/
def chan_LINK_CORRECTED (i : Nat) : Nat := 0x501007 + 0x100 * i
/-- PARITY (R365). -/
def chan_PARITY (i : Nat) : Nat := 0x501008 + 0x100 * i
/-- RAW_WAITS (R365). -/
def chan_RAW_WAITS (i : Nat) : Nat := 0x501009 + 0x100 * i
/-- SR_ENTRIES (R365). -/
def chan_SR_ENTRIES (i : Nat) : Nat := 0x50100A + 0x100 * i
/-- RETRAINS (R365). -/
def chan_RETRAINS (i : Nat) : Nat := 0x50100B + 0x100 * i
/-- FIRST_CLIENT (R43). -/
def guest_FIRST_CLIENT (i : Nat) : Nat := 0x580001 + 0x100 * i
/-- CLIENT_COUNT (R43). -/
def guest_CLIENT_COUNT (i : Nat) : Nat := 0x580002 + 0x100 * i
/-- HEAD_MASK (R43). -/
def guest_HEAD_MASK (i : Nat) : Nat := 0x580003 + 0x100 * i
/-- FACET_MASK (R43). -/
def guest_FACET_MASK (i : Nat) : Nat := 0x580004 + 0x100 * i
/-- ENGINE_MASK (R43). -/
def guest_ENGINE_MASK (i : Nat) : Nat := 0x580005 + 0x100 * i
/-- CARVE_PAGES (R43). -/
def guest_CARVE_PAGES (i : Nat) : Nat := 0x580006 + 0x100 * i
/-- BUDGET (R43). -/
def guest_BUDGET (i : Nat) : Nat := 0x580007 + 0x100 * i
/-- BUDGET_HARD (R43). -/
def guest_BUDGET_HARD (i : Nat) : Nat := 0x580008 + 0x100 * i
/-- FLR_ZERO (R43). -/
def guest_FLR_ZERO (i : Nat) : Nat := 0x580009 + 0x100 * i
/-- STATE (R43). -/
def guest_STATE (i : Nat) : Nat := 0x58000A + 0x100 * i
/-- VIOLATIONS (R43). -/
def guest_VIOLATIONS (i : Nat) : Nat := 0x58000B + 0x100 * i
/-- ACTIVE_LEAVES (R43). -/
def guest_ACTIVE_LEAVES (i : Nat) : Nat := 0x58000C + 0x100 * i
/-- RESET_CLIENT (R43). -/
def guest_RESET_CLIENT (i : Nat) : Nat := 0x58000D + 0x100 * i
/-- VIOL_LIMIT (R43). -/
def guest_VIOL_LIMIT (i : Nat) : Nat := 0x58000E + 0x100 * i
/-- CHARMS (R43). -/
def guest_CHARMS (i : Nat) : Nat := 0x580020 + 0x100 * i
/-- ENABLE (R234). -/
def cam_ENABLE (i : Nat) : Nat := 0x600001 + 0x1000 * i
/-- LANES (R234). -/
def cam_LANES (i : Nat) : Nat := 0x600002 + 0x1000 * i
/-- LANE_RATE (R234). -/
def cam_LANE_RATE (i : Nat) : Nat := 0x600003 + 0x1000 * i
/-- VC (R234). -/
def cam_VC (i : Nat) : Nat := 0x600004 + 0x1000 * i
/-- DATA_TYPE (R234). -/
def cam_DATA_TYPE (i : Nat) : Nat := 0x600005 + 0x1000 * i
/-- WIDTH (R234). -/
def cam_WIDTH (i : Nat) : Nat := 0x600006 + 0x1000 * i
/-- HEIGHT (R234). -/
def cam_HEIGHT (i : Nat) : Nat := 0x600007 + 0x1000 * i
/-- LOSS_TIMEOUT (R234). -/
def cam_LOSS_TIMEOUT (i : Nat) : Nat := 0x600008 + 0x1000 * i
/-- SUBST_MODE (R234). -/
def cam_SUBST_MODE (i : Nat) : Nat := 0x600009 + 0x1000 * i
/-- SUBST_COLOUR (R234). -/
def cam_SUBST_COLOUR (i : Nat) : Nat := 0x60000A + 0x1000 * i
/-- GUESTS (R234). -/
def cam_GUESTS (i : Nat) : Nat := 0x60000B + 0x1000 * i
/-- STATE (R235). -/
def cam_STATE (i : Nat) : Nat := 0x600101 + 0x1000 * i
/-- HOLDER (R235). -/
def cam_HOLDER (i : Nat) : Nat := 0x600102 + 0x1000 * i
/-- FRAMES (R235). -/
def cam_FRAMES (i : Nat) : Nat := 0x600103 + 0x1000 * i
/-- INCOMPLETE (R235). -/
def cam_INCOMPLETE (i : Nat) : Nat := 0x600104 + 0x1000 * i
/-- CRC_ERRORS (R235). -/
def cam_CRC_ERRORS (i : Nat) : Nat := 0x600105 + 0x1000 * i
/-- HDR_CORRECTED (R235). -/
def cam_HDR_CORRECTED (i : Nat) : Nat := 0x600106 + 0x1000 * i
/-- DISCARDED (R235). -/
def cam_DISCARDED (i : Nat) : Nat := 0x600107 + 0x1000 * i
/-- LOSSES (R235). -/
def cam_LOSSES (i : Nat) : Nat := 0x600108 + 0x1000 * i
/-- SLICE_STATE (R235). -/
def cam_SLICE_STATE (i : Nat) : Nat := 0x600109 + 0x1000 * i
/-- SLICE_MISSES (R235). -/
def cam_SLICE_MISSES (i : Nat) : Nat := 0x60010A + 0x1000 * i
/-- RATE (R235). -/
def cam_RATE (i : Nat) : Nat := 0x60010B + 0x1000 * i

end Sys2Proof.Machine.E
end

