-- ==== Sys2Proof/Machine/State.lean ====
section
/-! DEFINITION. The state of the block, as plain data. Every dictionary entry lives in `State.od` (numbers and strings, as
little-endian numbers) or `State.dom` (DOMAINs), under its key index × 256 + subindex, at the value of its Default column
while the table does not list it; what the manual gives beside the dictionary is a field of a chapter's structure below.
A field's default here is its value at reset. -/

namespace Sys2Proof.Machine

/-- Why the block stops. -/
inductive Fault where
  /-- Raised by `execDramReadRequest` and `execDramWriteRequest` for a physical address that the installed DRAM does not
  have (R343): the manual gives such an access no effect. Safe: the model stops where the hardware may go on. -/
  | noSuchPhysicalAddress
  deriving DecidableEq, Repr

/-- Why a command has no meaning. -/
inductive Refusal where
  /-- Raised by an arm of `exec` whose command has no meaning yet; no meaning answers with it. Safe. -/
  | notModelled (mnemonic : String)
  deriving DecidableEq, Repr

/-- The events of R143, R165, R198, R224, R242, R267, R293, R312, R340, R366, R397, R417 and R443. -/
inductive Ev where
  | partialStart | partialDone | renderDone | ctxFault | eccCorrected | eccUncorrected | quadDrained
  | govRaise | govRelease | govLate | tileOverrun | wgSaved
  | flipTaken | groupDone | groupDiscarded | facetLate | facetStale | filigreeFault | lutSwitched | wbFrame | wbDrop
  | headLatch | headFrame | headVblank | headUnderrun | headIrregular | headResync | teLost | teRelock | lockAcquired
  | lockLost | warpLimit
  | portReady | portLinkFail | portHpd | portLinkLost | camFrame | camIncomplete | camLost | camResumed | sliceArmed
  | sliceDropped
  | cameoLate | presentationTaken | lutNotice | contentMismatch | contentFault | checkSkipped | alarmAck
  | touchDown | touchUp | largeObject | freqHop | recal | startVerified | selftestFail | touchResync | ringOverflow
  | hapStart | hapDone | hapCut | hapReplaced | hapAbort | hapOvercurrent | calDone | calFail | calStale | accLost
  | audioSwap | refLost | tdmSyncLost | tdmLocked | asrcLocked | streamStarved | streamResumed | busSilent | busActive
  | memCorrected | memUncorrectable | memParity | refreshRate | refreshBurst | memSrEnter | memSrExit | trainDone
  | trainFail | scrubPass
  | lktDone | lktRestart | lktResumed | lktFailed | ownChanged | debugUnlocked | powerRefusal | camNotice
  | xingTimeout | xingNotice | xingRejoin | xingResetRefused
  | domainOn | domainOff | supplyWarn | throttle | tedHit | epochStart | epochDone | hallmarkReplan | deepSleepExit
  deriving DecidableEq, Repr

/-- Where a message leaves the block. -/
inductive Dest where
  | config (f : Nat) | bar (f bar : Nat) | msix (f v : Nat)
  | sdo (path : Nat) | al | esc | pdo (ifc : Nat) | can (n : Nat) | emcy (ifc : Nat) | foe
  | gate (core : Nat) | mailbox | fabric
  | scanout (h : Nat) | port (p : Nat) | touchRing (p : Nat) | tdm (n : Nat) | avs | jtag | debug
  deriving DecidableEq, Repr

/-- An outward message: an event to the open or the trusted world, or a message with its numbers and bytes. -/
inductive Out where
  | event (trusted : Bool) (e : Ev) (args : List Int)
  | msg (d : Dest) (vals : List Int) (bytes : List Byte)
  deriving DecidableEq, Repr

/-! ### Guests, clients and charms -/

/-- A run of a guest's carve-out pages in physical memory: the page table of R32 as open-world firmware fills it. -/
structure Extent where
  page : Nat
  phys : Nat
  count : Nat
  deriving DecidableEq, Repr

/-- A violation as R39 records it. -/
structure Viol where
  time : Nat := 0
  addr : Nat := 0
  client : Option Nat := none
  guest : Option Nat := none
  kind : Nat := 0
  path : Nat := 0
  deriving DecidableEq, Repr

/-- A guest beside its entry of R43: its Function Level Reset in progress (its clients still to be reset, its carve-out
still being zeroed), its virtual function being disabled, its page frames, the page-table entries that firmware has written otherwise
than V, RD and WR 1 over those frames (R32), and the times of its violations within the last second (R38). -/
structure GuestRec where
  flr : Bool := false
  clientsPending : Bool := false
  zeroing : Bool := false
  disabling : Bool := false
  table : List Extent := []
  ptes : Tbl (Option Nat) := []
  violTimes : List Nat := []
  deriving DecidableEq, Repr

/-- One arbiter of R46: the credits of its branches and its pointer. -/
structure ArbRec where
  credit : Tbl Int := []
  pointer : Nat := 0
  deriving DecidableEq, Repr

/-- The tenancy state: NumVFs, the base address registers of the physical function (0–5) and of its VF set (6–11), the physical
function's presence (from boot step 6), the guests, the charm table (256-bit
records without their GUEST field), the violation log queue of R41, the slots read, the next SEQ, and the BULK grants of
the budget windows of R47 by channel × 64 + guest with the count of each channel's window. -/
structure TenancySt where
  numVfs : Nat := 0
  bars : Tbl Nat := []
  endpoint : Bool := false
  guests : Tbl GuestRec := []
  charms : Tbl Nat := []
  violQueue : List Viol := []
  violRead : List Nat := []
  violSeq : Nat := 1
  arb : Tbl ArbRec := []
  grants : Tbl Nat := []
  window : Tbl Nat := []
  budget : Tbl Nat := []
  deriving DecidableEq, Repr

/-! ### Clasps -/

/-- The answer to a taken request: completion code, violation kind and result data. -/
structure Ans where
  code : Nat := 0
  kind : Nat := 0
  data : List Nat := []
  deriving DecidableEq, Repr

/-- A request the device has taken and not completed: its words, the form it came in, whether a reserved bit of its header word was
written 1, and its answer once formed. -/
structure Taken where
  op : Nat := 0
  noIrq : Bool := false
  flags : Nat := 0
  len : Nat := 0
  tag : Nat := 0
  args : List Nat := []
  delbel : Bool := false
  stray : Bool := false
  answer : Option Ans := none
  deriving DecidableEq, Repr

/-- A clasp window (R50), by its fields; `vector` is empty while VECTOR is at its Reset value. `verdict` is the outcome of
stage 1 latched at GO: 0 passed, 1 DENIED (with its kind), 2 BAD_OPCODE. `dqVerdict` holds the same for each complete
message of the Delbel request queue. -/
structure Clasp where
  req : Tbl Nat := []
  go : Bool := false
  verdict : Nat := 0
  vkind : Nat := 0
  seq : Nat := 0
  nextSeq : Nat := 1
  state : Nat := 0
  rlen : Nat := 0
  rtag : Nat := 0
  code : Nat := 0
  kind : Nat := 0
  data : List Nat := []
  full : Bool := false
  vector : Option Nat := none
  irqEn : Bool := true
  mode : Bool := false
  discards : Nat := 0
  event : Nat := 0
  eventEn : Nat := 0xFFFF
  dqReq : List Nat := []
  dqRsp : List Nat := []
  dqVerdict : List (Nat × Nat) := []
  ovf : Bool := false
  unf : Bool := false
  taken : Option Taken := none
  deriving DecidableEq, Repr

/-- The BAR2 port of a function (R68), its MSI-X table by word and its pending bits, the answer a command in progress will set,
and whether that answer still waits for PD2 to wake or for a store to end. -/
structure PortRec where
  index : Nat := 0
  subindex : Nat := 0
  offset : Nat := 0
  length : Nat := 0
  asClient : Nat := 0
  useClient : Bool := false
  busy : Bool := false
  done : Bool := false
  abort : Nat := 0
  actual : Nat := 0
  vector : Nat := 0
  irqEn : Bool := false
  discards : Nat := 0
  data : Tbl Byte := []
  msix : Tbl Nat := []
  pba : Nat := 0
  nextAbort : Nat := 0
  nextActual : Nat := 0
  waitsStore : Bool := false
  deriving DecidableEq, Repr

/-- The clasps of the clients, the internal clasps (0 AS0, 1 AS1, 2–5 T0–T3, 6 HAP), the BAR2 ports, and the pointers of
the round robin of R57 (the guest after the one last served, and per guest the client after the one last served). -/
structure ClaspSt where
  clasps : Tbl Clasp := []
  icl : Tbl Clasp := []
  ports : Tbl PortRec := []
  guestPtr : Nat := 0
  clientPtr : Tbl Nat := []
  deriving DecidableEq, Repr

/-! ### The object dictionary -/

/-- A staging set (R81, R91) by key: its staged values in index:subindex order and the commit control entries its path
reads. `order` keeps the keys in the order they were first staged, which is the record order of an image (R90). -/
structure StageSet where
  entries : Tbl (Option (List Byte)) := []
  order : List Nat := []
  state : Nat := 0
  refusedAt : Nat := 0
  reason : Nat := 0
  lastAbort : Nat := 0
  deriving DecidableEq, Repr

/-- A commit that runs or waits (R82): its set, and whether it checks only (COMMIT = 2). `emcyKind` is byte 0 of its
commit-refused EMCY, if it sends one (R85). -/
structure CommitRun where
  set : Nat := 0
  checkOnly : Bool := false
  emcyKind : Option Nat := none
  deriving DecidableEq, Repr

/-- A stored slot of the configuration region (R86–R88): its store count, the layout it was built for and its records. -/
structure StoredSlot where
  count : Nat := 0
  layout : Nat := 0x0100
  records : List (Nat × List Byte) := []
  deriving DecidableEq, Repr

/-- A store or restore being written: which, the slot written (`none`: both are being invalidated) and its contents, who asked (0 field
path, 1–64 BAR2 port + 1, 65 trusted world, 66 image action), and the path an SDO answer goes to. -/
structure StoreRun where
  what : Nat := 0
  slot : Option Nat := none
  content : StoredSlot := {}
  who : Nat := 0
  path : Nat := 0
  deriving DecidableEq, Repr

/-- A store or restore that a running commit holds back (R84): which (0–2 store all, communication, application; 3–5
restore), who, and the path of its answer. -/
structure StoreWait where
  what : Nat := 0
  who : Nat := 0
  path : Nat := 0
  deriving DecidableEq, Repr

/-- An image action in progress (R90): which, from which set's path, and whether from FoE. Once it has ended, IMAGE_STATE,
IMAGE_ERROR and IMAGE_FAIL_AT as it leaves them (R478). -/
structure ImageRun where
  action : Nat := 0
  who : Nat := 0
  foe : Bool := false
  ended : Bool := false
  state : Nat := 0
  err : Nat := 0
  failAt : Nat := 0
  deriving DecidableEq, Repr

/-- A dictionary access (R76, R476): who makes it, the path its answer goes to (0 CoE, 1 and 2 the CAN FD controllers), the
entry, OFFSET and LENGTH of a BAR2 command (`none` for a whole value), and the bytes of a write. `foe` is the ACTION of a
dict.igdi file, whose bytes it then carries (R113). -/
structure Access where
  who : Requester := .field
  path : Nat := 0
  write : Bool := false
  idx : Nat := 0
  sub : Nat := 0
  part : Option (Nat × Nat) := none
  bytes : List Byte := []
  foe : Option Nat := none
  deriving DecidableEq, Repr

/-- The dictionary server: staging sets by requester (0 field network, 1–64 BAR2 ports, 65 trusted world, 66 image
loader), the running commit and those queued behind it, its values not yet in effect, the image buffer and its action,
the store in progress and those waiting, and the in-force copies of entries that wait for a later instant (a reset), the instant the last check
phase ended, and the accesses that wait for PD2 to wake (R79). -/
structure DictSt where
  sets : Tbl StageSet := []
  running : Option CommitRun := none
  queued : List CommitRun := []
  applying : List (Nat × List Byte) := []
  image : List Byte := []
  imageRun : Option ImageRun := none
  storing : Option StoreRun := none
  storeWait : List StoreWait := []
  held : Tbl (Option Nat) := []
  checkedAt : Nat := 0
  waiting : List Access := []
  deriving DecidableEq, Repr

/-! ### Fieldbus attachment -/

/-- An emergency message as it was formed (R111): code, error register, five manufacturer bytes. -/
structure Emcy where
  code : Nat := 0
  reg : Nat := 0
  data : Nat := 0
  deriving DecidableEq, Repr

/-- A CANopen FD node (R103): its NMT state (0 initialisation, 4 stopped, 5 operational, 127 pre-operational), its
controller's bus-off and error-passive states, the values of 0x1FE0:02–06 in force, what each TPDO last sent, the synchronous RPDOs
that wait for the next SYNC, and the SYNCs counted. -/
structure CanNode where
  nmt : Nat := 0
  busOff : Bool := false
  errPassive : Bool := false
  enabled : Bool := false
  nodeId : Nat := 0
  arbRate : Nat := 3
  dataRate : Nat := 2
  sent : Tbl (Option (List Byte)) := []
  held : Tbl (Option (List Byte)) := []
  syncs : Nat := 0
  deriving DecidableEq, Repr

/-- An FoE write of a firmware image awaiting its verification (R114): 1 open world, 2 trusted; and its slot. -/
structure FoeImage where
  kind : Nat := 1
  slot : Nat := 0
  deriving DecidableEq, Repr

/-- The field network. `al` is the EtherCAT state by its code (1 INIT, 2 PREOP, 3 BOOT, 4 SAFEOP, 8 OP), `alStatus` the AL
status code, `alHeld` a request held during boot (R449). `smStart` and `smLen` are the sync managers where the master has
moved them (R97); `esc` the bytes of the other registers and of the process RAM of the SubDevice by address, and `sysTime` its copy of
the system time as the last event carried it (R96, R102). `buffers` are the completed SM2 buffers not yet taken, newest first, with
their completion times. `sm3` is the input snapshot. `seqRef` is the alarm sequence reference (R108), `timedOut` whether ALARM_TIMEOUT
has passed since the last accepted output (R109), `trigRef` whether the TOGGLE references are valid, `toggles` their values and
`lastTrig` the TOGGLE bits of the last output taken (R110). `lasting` are the lasting conditions of R111 by code and byte 0, `emcyLast`
the last sendings. `cobSet` are the COB-ID entries that have been written since the last reset of the communication objects
(R103, R104). -/
structure FieldSt where
  al : Nat := 1
  alStatus : Nat := 0
  alHeld : Option Nat := none
  smStart : Tbl (Option Nat) := []
  smLen : Tbl (Option Nat) := []
  esc : Tbl Nat := []
  sysTime : Nat := 0
  dcSync0 : Bool := false
  link : List Bool := [false, false]
  syncMode : Nat := 0
  buffers : List (Nat × List Byte) := []
  sm3 : List Byte := []
  stamp : Option Nat := none
  stampAt : Nat := 0
  seqRef : Option Nat := none
  timedOut : Bool := false
  trigRef : Bool := false
  toggles : Nat := 0
  lastTrig : Nat := 0
  emcyQueue : List Emcy := []
  emcyLast : List (Nat × Nat) := []
  lasting : List (Nat × Nat) := []
  can : Tbl CanNode := []
  cobSet : List Nat := []
  foeImage : Option FoeImage := none
  deriving DecidableEq, Repr

/-! ### Raster cores and render contexts -/

/-- An attachment entry of a render record (R150). -/
structure Attach where
  target : Nat := 0
  pitch : Nat := 0
  rfmt : Nat := 0
  load : Nat := 0
  store : Bool := false
  clear0 : Nat := 0
  clear1 : Nat := 0
  deriving DecidableEq, Repr

/-- Who a block of bin memory is allocated to (R120): the render context, the fence value of the render, and what it holds (0 a part
of the tile-state table, 1 a primitive record, 2 a list block of a tile). -/
structure BlockUse where
  ctx : Nat := 0
  fence : Nat := 0
  kind : Nat := 0
  tile : Nat := 0
  deriving DecidableEq, Repr

/-- A submission of a render context: its fence value, its copied record (R150), its phase (0 binning, 1 partial render,
2 final render, 3 every tile resolved, 4 RENDER_DONE); the blocks of its tile-state table (R123) and where each tile stands (0 not
dispatched in this pass, 1 on a core, 2 done in this pass); its vertex invocations, those started, and the draws of those running;
where the front end stands (draws binned, pieces of the next draw done, sequence numbers before it) and whether a reservation has failed
there (1) or PARTIAL_START was raised and waits for the render before (2); its counts and times; and the governor's adoption, whether
RAISED counted it, its latch point, that latch point's head, and whether a cameo render is past the moment of adoption. -/
structure Sub where
  fence : Nat := 0
  cmd : Nat := 0
  draws : Nat := 0
  vout : Nat := 0
  stride : Nat := 0
  slots : Nat := 0
  att : List Attach := []
  phase : Nat := 0
  table : List Nat := []
  place : Tbl Nat := []
  invs : Nat := 0
  nextInv : Nat := 0
  vertexRunning : List Nat := []
  vertexStart : Option Nat := none
  drawsBinned : Nat := 0
  pieceAt : Nat := 0
  seqBase : Nat := 0
  full : Nat := 0
  primsIn : Nat := 0
  primsBinned : Nat := 0
  passes : Nat := 0
  stall : Nat := 0
  peak : Nat := 0
  passTime : Nat := 0
  binTook : Option Nat := none
  adopted : Bool := false
  counted : Bool := false
  latch : Nat := 0
  latchHead : Nat := 0
  watched : Bool := false
  ended : Option (Nat × Nat) := none
  deriving DecidableEq, Repr

/-- A render context (R149), its fence as the device holds it (R154), its counters RAISED and LATE, its statistics (R142),
the measured times the governor uses (R163), the 64 KB units of bin memory of its share (R120), and its submissions in order.
`leaving` is set while it is being destroyed: 1 by its client's request, 2 by a client reset. -/
structure RCtx where
  width : Nat := 0
  height : Nat := 0
  cfmt : List Nat := []
  dsfmt : Nat := 0
  msaa : Bool := false
  level : Nat := 0
  binShare : Nat := 0
  units : List Nat := []
  allot : Nat := 0
  tileBudget : Nat := 0
  dsBase : Nat := 0
  dsCount : Nat := 0
  statsAddr : Nat := 0
  fenceAddr : Nat := 0
  spill : Nat := 0
  spillSize : Nat := 0
  value : Nat := 0
  status : Nat := 0
  faultKind : Nat := 0
  fenceTime : Nat := 0
  nextFence : Nat := 1
  raised : Nat := 0
  late : Nat := 0
  faulted : Bool := false
  leaving : Nat := 0
  subs : List Sub := []
  renders : Nat := 0
  partials : Nat := 0
  spillBytes : Nat := 0
  faultCore : Nat := 0
  faultHart : Nat := 0
  faultAddr : Nat := 0
  faultPc : Nat := 0
  faultSeq : Nat := 0
  eccCorrected : Nat := 0
  tau : Option Nat := none
  binTime : Option Nat := none
  deriving DecidableEq, Repr

/-- A pixel group on a hart (R117, R129–R131): its tile slot, sequence number, quads, the lanes in the group and those
killed, whether it has released its quads and made its first pixel access, and the pixel-access instruction that waits. -/
structure GroupRun where
  slot : Nat := 0
  seq : Nat := 0
  state : Nat := 0
  quads : List Nat := []
  lanes : Nat := 0
  killed : Nat := 0
  released : Bool := false
  accessed : Bool := false
  waiting : Option Nat := none
  deriving DecidableEq, Repr

/-- A vertex invocation on a hart (R152): its context, submission and draw, and when it started. -/
structure VertexRun where
  ctx : Nat := 0
  fence : Nat := 0
  draw : Nat := 0
  start : Nat := 0
  deriving DecidableEq, Repr

/-- A shading hart (R116): integer registers, vector lanes at 16 × register + lane (32-bit words), FP registers, pc, vtype, vl, the
other CSRs of F and V, scratch bytes, the bytes its last load returned, the context whose work it last ran, its current pixel group or
vertex invocation, whether its part of a workgroup has ended, and whether debug holds it. -/
structure HartRec where
  x : Tbl Nat := []
  v : Tbl Nat := []
  f : Tbl Nat := []
  pc : Nat := 0
  vtype : Nat := 0
  vl : Nat := 0
  vstart : Nat := 0
  vcsr : Nat := 0
  fcsr : Nat := 0
  scratch : Tbl Byte := []
  loaded : List Byte := []
  lastCtx : Option (Nat × Nat) := none
  group : Option GroupRun := none
  vertex : Option VertexRun := none
  ended : Bool := false
  halted : Bool := false
  deriving DecidableEq, Repr

/-- A workgroup saved mid-flight (R161): its number, the core whose part of the save area holds it, and its harts. -/
structure SavedWg where
  num : Nat := 0
  core : Nat := 0
  harts : Tbl HartRec := []
  deriving DecidableEq, Repr

/-- A dispatch of a compute context (R157): workgroup counts, the next workgroup to issue, those running, and the outcome
once it has one. -/
structure Disp where
  fence : Nat := 0
  entry : Nat := 0
  arg : Nat := 0
  nx : Nat := 0
  ny : Nat := 0
  nz : Nat := 0
  maxTime : Nat := 0
  next : Nat := 0
  running : Nat := 0
  saved : List SavedWg := []
  ended : Option (Nat × Nat) := none
  deriving DecidableEq, Repr

/-- A compute context (R149). `savedCount` is CQUERY's DATA5. -/
structure CCtx where
  level : Nat := 0
  allot : Nat := 0
  fenceAddr : Nat := 0
  saveAddr : Nat := 0
  value : Nat := 0
  status : Nat := 0
  faultKind : Nat := 0
  fenceTime : Nat := 0
  nextFence : Nat := 1
  faulted : Bool := false
  leaving : Nat := 0
  savedCount : Nat := 0
  disps : List Disp := []
  deriving DecidableEq, Repr

/-- A pixel group that the raster unit has formed and not yet issued: the block of its primitive's record, its sequence number and its
quads (R117, R128). -/
structure PixGroup where
  block : Nat := 0
  seq : Nat := 0
  quads : List Nat := []
  deriving DecidableEq, Repr

/-- A tile slot of a core (R126): the context, submission and tile it holds, whether it waits for its reload, the pixel groups the
raster unit has still to issue, and when its pass began. -/
structure SlotRec where
  ctx : Nat := 0
  fence : Nat := 0
  tile : Nat := 0
  waitReload : Bool := false
  groups : List PixGroup := []
  start : Nat := 0
  deriving DecidableEq, Repr

/-- A workgroup on a core: its context, its dispatch (by fence value) and number, when it started, whether a preemption has been requested and when, and
whether a save or a restore of it is in progress (0 runs, 1 saving, 2 restoring). -/
structure WgRun where
  ctx : Nat := 0
  fence : Nat := 0
  num : Nat := 0
  start : Nat := 0
  preempt : Option Nat := none
  phase : Nat := 0
  restore : Option SavedWg := none
  deriving DecidableEq, Repr

/-- A raster core (tile memory holds the raw value of a sample at ((slot × 5 + attachment) × 4 + sample) × 4096 + pixel): its slots by
number, tile memory, harts, workgroup, the level and context it was picked for a tile of, the candidate it last served per level
(R158), the time of its last ECC_CORRECTED event, and the bytes its L1 cache holds by hart address, with the render or dispatch they were
read for (R116). -/
structure CoreRec where
  slots : Tbl (Option SlotRec) := []
  tileMem : Tbl Nat := []
  harts : Tbl HartRec := []
  wg : Option WgRun := none
  picked : Option (Nat × Nat) := none
  served : Tbl (Option Nat) := []
  eccAt : Option Nat := none
  l1 : Tbl (Option Byte) := []
  l1For : Option (Nat × Nat × Nat) := none
  deriving DecidableEq, Repr

/-- The raster units: render contexts by key (client number; 4097 to 4100 the trusted contexts), compute contexts by client,
the cores, bin memory as one 512-bit number per 64-byte block and who each block is allocated to (R120), the quadrants that are draining
(R145), and whether the compositor context is raised (R164). -/
structure RasterSt where
  rctx : Tbl (Option RCtx) := []
  cctx : Tbl (Option CCtx) := []
  cores : Tbl CoreRec := []
  bin : Tbl Nat := []
  binUse : Tbl (Option BlockUse) := []
  draining : List Nat := []
  raised : Bool := false
  deriving DecidableEq, Repr

/-! ### Facets and composition -/

/-- An entry of a flip group (R188); `xform` is A to F with 16 fractional bits. -/
structure FlipEntry where
  head : Nat := 0
  facet : Nat := 0
  compute : Bool := false
  fence : Nat := 0
  addr : Nat := 0
  addr2 : Nat := 0
  pitch : Nat := 0
  xform : List Int := []
  deriving DecidableEq, Repr

/-- A pending flip group (R187–R190): its client, generation, entries, the heads that have taken it, and the window address
of its group record, if it has one. -/
structure FlipGroup where
  client : Nat := 0
  gen : Nat := 0
  entries : List FlipEntry := []
  taken : List Nat := []
  record : Option Nat := none
  deriving DecidableEq, Repr

/-- A frame a facet shows: a client's buffer with its XFORM, or (receiver, buffer) of a camera ring. -/
structure Shown where
  client : Nat := 0
  gen : Nat := 0
  addr : Nat := 0
  addr2 : Nat := 0
  pitch : Nat := 0
  xform : List Int := []
  cam : Option (Nat × Nat) := none
  deriving DecidableEq, Repr

/-- A warp D = X · M⁻¹ (R207): its six coefficients over one denominator. -/
structure Warp where
  num : List Int := []
  den : Int := 1
  deriving DecidableEq, Repr

/-- Slice mode of a facet (R239, R240): the count of camera lines that line 0 of the frame now scanned has, that frame's
number and ring buffer, whether every needed line was present so far, the verdict on the last scanned frame, the
consecutive frames in phase, and whether the current head frame is served in slice mode. -/
structure SliceRec where
  base : Nat := 0
  seq : Nat := 0
  buf : Nat := 0
  ok : Bool := false
  verdict : Option (Nat × Bool) := none
  count : Nat := 0
  serving : Bool := false
  deriving DecidableEq, Repr

/-- A source row that a facet's line buffers hold: its number within the source rectangle, and its expanded pixels, each four 12-bit codes
with the first lowest (R166, R203). -/
structure HeldRow where
  row : Nat
  px : List Nat
  deriving DecidableEq, Repr

/-- A facet beside its entries: the frame shown (none: BACKGROUND), the frame latched for the coming head frame, the warp of
this and of the coming frame, the consecutive latch points its fresh-required group has missed, whether this and the
coming frame show STALE_FILL or SUBST_COLOUR, whether firmware disables it at the next latch point (R29) and the coming
frame is the one it is off from, the receiver attached and its slice mode, whether it has been detached and the coming frame is the one it is
detached from (R236), whether it contributes nothing for the rest of the frame, the source rows its line buffers hold, and whether the
first lines of this frame were never prefetched (R203, R214). -/
structure FacetRec where
  shown : Option Shown := none
  latched : Option (Option Shown) := none
  warp : Option Warp := none
  nextWarp : Option Warp := none
  lateRun : Nat := 0
  stale : Bool := false
  nextStale : Bool := false
  subst : Bool := false
  nextSubst : Bool := false
  leaving : Bool := false
  offNext : Bool := false
  cam : Option Nat := none
  slice : Option SliceRec := none
  detach : Bool := false
  detachNext : Bool := false
  dropped : Bool := false
  lines : List HeldRow := []
  cold : Bool := false
  deriving DecidableEq, Repr

/-- A write-back (R196, R197): its arguments, frames completed, the buffer being written, whether a frame is in
progress, whether it is INCOMPLETE, whether a frame waits for its last write's acknowledgement with its buffer and INCOMPLETE, whether
a stop was asked, whether WB_DROP was raised for the frame, and the composed lines kept for the tiles of an FTC buffer. -/
structure WbRec where
  client : Nat := 0
  buf0 : Nat := 0
  buf1 : Nat := 0
  pitch : Nat := 0
  fmt : Nat := 0
  status : Nat := 0
  frames : Nat := 0
  count : Nat := 0
  cur : Nat := 0
  started : Bool := false
  incomplete : Bool := false
  full : Bool := false
  doneBuf : Nat := 0
  doneInc : Bool := false
  stopping : Bool := false
  dropped : Bool := false
  lines : Tbl (List Nat) := []
  deriving DecidableEq, Repr

/-- The composition units: pending flip groups in the order of acceptance, the next generation and the motion register of
each client, and the facets by 8 × head + facet. -/
structure ComposeSt where
  groups : List FlipGroup := []
  gens : Tbl Nat := []
  motion : Tbl (Option (List Int)) := []
  facets : Tbl FacetRec := []
  deriving DecidableEq, Repr

/-! ### Scan-out heads -/

/-- A scan-out head beside its entries. `tim` is its timing in force: H:01 to H:0C in order. `lead` is LATCH_LEAD in force,
`k` the increment of R201. `begun` is whether line LINE has begun; `lostFacets` and `lostCameo` are the fetches of a coming line that
met an uncorrectable error (R360); `taken` whether this frame's latch point is taken.
`clean` is a clean timing change under way, `stopping` a stop at the frame's end, `blankNext` a blank frame to come, `route`
the route in force, `armed` a commit of composition entries that the latch point has let through, `routeArmed` the same for
a route. `lutIn` counts frame starts to a change of R173. `bank` and `oldBank` are the active filigree bank and the one
before it (entries as numbers), `faulty` the line from which a structural fault leaves BACKGROUND only, `faulted` whether
the event of a fault without a fallback was raised. `under` and `warpHit` remember the once-per-frame events. `teGo` is a
transfer let off by an edge or a timeout, `lockRun` the good frame starts of R218, `jump` a LOCK_ACQUIRE jump to come, `extra` the lines it adds to
this frame, `irr` whether this frame has been counted as irregular, `prefetched` whether the first lines of the coming frame have been
asked for (R203), `trim` the last trim. -/
structure HeadRec where
  tim : List Nat := []
  lead : Nat := 1500
  k : Nat := 0
  trim : Int := 0
  begun : Bool := false
  lostFacets : List Nat := []
  lostCameo : Bool := false
  taken : Bool := false
  clean : Bool := false
  stopping : Bool := false
  blankNext : Bool := false
  route : Nat := 0xFF
  armed : Bool := false
  routeArmed : Bool := false
  lutIn : Nat := 0
  bank : List Nat := []
  oldBank : List Nat := []
  faulty : Bool := false
  faulted : Bool := false
  under : Bool := false
  warpHit : Bool := false
  teGo : Bool := false
  lockRun : Nat := 0
  jump : Bool := false
  extra : Nat := 0
  irr : Bool := false
  prefetched : Bool := false
  startAt : Nat := 0
  wb : Option WbRec := none
  deriving DecidableEq, Repr

/-- The heads by number. -/
structure HeadsSt where
  heads : Tbl HeadRec := []
  deriving DecidableEq, Repr

/-! ### Camera receivers and ports -/

/-- A receiver opened by a client (R236), with its frames and incomplete frames since CAM_OPEN. -/
structure CamOpen where
  client : Nat := 0
  base : Nat := 0
  buffers : Nat := 3
  stride : Nat := 0
  pitch : Nat := 0
  status : Nat := 0
  frames : Nat := 0
  incomplete : Nat := 0
  deriving DecidableEq, Repr

/-- A frame being received (R233, R237): its frame number, ring buffer, lines stored, and whether it can still be
complete. -/
structure CamFrame where
  num : Nat := 0
  seq : Nat := 0
  buf : Option Nat := none
  lines : Nat := 0
  ok : Bool := true
  deriving DecidableEq, Repr

/-- A camera receiver beside its entries: who opened it, the open frame, the newest complete buffer, the buffer of the last
Frame Start, the instant of the newest Frame End, the instants of complete frames within the
last second, the attached facets (8 × head + facet), the count of lines arrived and its value at the last Frame Start, and
the numbers of the last two complete frames. -/
structure RxRec where
  opened : Option CamOpen := none
  frame : Option CamFrame := none
  newest : Option Nat := none
  lastBuf : Nat := 0
  endTime : Nat := 0
  ends : List Nat := []
  attached : List Nat := []
  arrived : Nat := 0
  base : Nat := 0
  seq : Nat := 0
  done : List Nat := []
  deriving DecidableEq, Repr

/-- An output port beside its entries: whether a bring-up waits for HPD to be stable (R231), and whether it is a new one after a loss of
the sink or the link, after which each head sends one blank frame (R232). -/
structure OutPort where
  waitHpd : Bool := false
  again : Bool := false
  deriving DecidableEq, Repr

/-- The camera receivers and the output ports. -/
structure PortsSt where
  rx : Tbl RxRec := []
  ports : Tbl OutPort := []
  deriving DecidableEq, Repr

/-! ### Cameo layers and content checking -/

/-- An alarm cell of the engraving (R248). -/
structure Cell where
  alarm : Nat := 0
  head : Nat := 0
  layer : Nat := 0
  x : Nat := 0
  y : Nat := 0
  w : Nat := 0
  h : Nat := 0
  blink : Nat := 0
  images : Nat := 0
  deriving DecidableEq, Repr

/-- A splash head of the engraving (R448): its timing record (H:01 to H:0D), route, port number and port record values
(P:01 to P:0C), and the bytes of its image. -/
structure Splash where
  head : Nat := 0
  timing : List Nat := []
  route : Nat := 0xFF
  port : Nat := 0
  portVals : List Nat := []
  image : List Byte := []
  deriving DecidableEq, Repr

/-- The engraving (R243): whether its signature verifies, its CRC-32, the cameo layers by 2 × head + layer as [x, y, w, h,
format], the cells, ACK_HOLD, and the splash heads. -/
structure Engraving where
  valid : Bool := true
  id : Nat := 0
  layers : Tbl (List Nat) := []
  cells : List Cell := []
  ackHold : Nat := 100
  splash : List Splash := []
  deriving DecidableEq, Repr

/-- The cameo state of a head: the pending presentation, the buffers shown (`none` transparent), whether the layer still
shows the splash image, whether a presentation was ever taken, the one taken for the coming frame, the payload table by
8 × cell + image, the latched alarm states and those of the frame in progress, and per region the mismatch run, the fold in
progress and the result that waits for its comparison
(value, expected value, frame, 1 where one is expected); and the regions folded whole in this frame. -/
structure CameoRec where
  pending : Option Presentation := none
  next : Option Presentation := none
  c0 : Option Nat := none
  c1 : Option Nat := none
  splash : Bool := false
  presented : Bool := false
  payloads : Tbl Nat := []
  latched : List Nat := []
  alarms : List Nat := []
  runs : Tbl Nat := []
  folds : Tbl (Option Nat) := []
  results : Tbl (List Nat) := []
  finished : List Nat := []
  deriving DecidableEq, Repr

/-- An assignable check-value unit: its polynomial, the client whose CV_RUN computes on it, and whether that request's
client has been reset. -/
structure CvRec where
  poly : Nat := 0
  running : Option Nat := none
  abandoned : Bool := false
  deriving DecidableEq, Repr

/-- The cameo layers and the assignable check-value units. -/
structure CameoSt where
  engraving : Engraving := {}
  heads : Tbl CameoRec := []
  cv : Tbl CvRec := []
  deriving DecidableEq, Repr

/-! ### Capacitive touch -/

/-- A contact (R275–R277): its identifier, position in 0.1 mm, area in mm², peak signal, flags, touchdown instant, the
instant since which it has carried NON_FINGER at every scan, consecutive scans it was not matched in, the nodes of its
blob, the alarm cell it has stayed in since its touchdown, and whether it has acknowledged (R249). -/
structure Contact where
  id : Nat := 0
  x : Nat := 0
  y : Nat := 0
  area : Nat := 0
  peak : Nat := 0
  flags : Nat := 0
  down : Nat := 0
  nonFinger : Option Nat := none
  missed : Nat := 0
  nodes : List Nat := []
  cell : Option Nat := none
  acked : Bool := false
  deriving DecidableEq, Repr

/-- A blob that is not yet a contact: its position, the consecutive scans it was seen in, the scan of its first sighting,
and whether it has been counted in OVERFLOWS. -/
structure Waiting where
  x : Nat := 0
  y : Nat := 0
  count : Nat := 0
  first : Nat := 0
  counted : Bool := false
  deriving DecidableEq, Repr

/-- A record of R287 without its reserved word. -/
structure TouchMsg where
  kind : Nat := 0
  id : Nat := 0xFF
  flags : Nat := 0
  reason : Nat := 0
  x : Nat := 0
  y : Nat := 0
  area : Nat := 0
  peak : Nat := 0
  scan : Nat := 0
  time : Nat := 0
  held : Nat := 0
  deriving DecidableEq, Repr

/-- A subscription (R286): its ring, its rectangle, the contacts whose records it gets, and whether a record has been
dropped since the last one written. -/
structure TouchSub where
  client : Nat := 0
  ring : Nat := 0
  entries : Nat := 16
  x0 : Nat := 0
  y0 : Nat := 0
  x1 : Nat := 0
  y1 : Nat := 0
  write : Nat := 0
  dropped : Nat := 0
  following : List Nat := []
  resync : Bool := false
  deriving DecidableEq, Repr

/-- A panel and its engine. `phase`: 0 off, 1 reference test of a start, 2 averaging, 3 running, 4 stopped by VDD_TAFE, 5 not scanning. `steps`
holds the samples of the ended steps of a scan in progress, `lock` the head it is locked to, `freq` the index in FREQS in
use, `next` that of the next scan, `cand` the candidate's. `gains` are the d2 deltas of the last reference test by
channel × 8 + frequency. `sums` and `count` average the start scans. Baselines, in 1/256 counts, and negative-run counts
stand for mutual nodes, then used channels. `startNodes` are those of step 4 of R280 that have stayed active since.
`verify` counts the scans left after a lift (R281). `testing` and `testAgain` are a self-test outside a start and a second
one asked for; `capture` is 0 none, 1 waiting, 2 running, 3 ended; `apply` an internal APPLY that waits; `ends` the ends of
scans within the last second; `trusted` the records that wait for the trusted world to resume (R386). -/
structure TouchRec where
  phase : Nat := 0
  steps : Option (List (List Int)) := none
  lock : Option Nat := none
  freq : Nat := 0
  next : Nat := 0
  cand : Nat := 1
  gains : List Nat := []
  sums : List Int := []
  count : Nat := 0
  base : List Int := []
  neg : List Nat := []
  startNodes : List Nat := []
  contacts : List Contact := []
  waiting : List Waiting := []
  lastId : Nat := 254
  large : Bool := false
  verify : Option Nat := none
  testing : Bool := false
  testAgain : Bool := false
  capture : Nat := 0
  capSums : List Int := []
  capCount : Nat := 0
  apply : Bool := false
  ends : List Nat := []
  scanEnd : Nat := 0
  subs : List TouchSub := []
  backlog : List TouchMsg := []
  trusted : List TouchMsg := []
  deriving DecidableEq, Repr

/-- The touch engines by panel. -/
structure TouchSt where
  panels : Tbl TouchRec := []
  deriving DecidableEq, Repr

/-! ### Haptic channels -/

/-- A trigger (R297): its effect, amplitude and repeat count, the client that made it and whether that client wants EVENT
bit 7, and whether it came from process data. -/
structure Trig where
  effect : Nat := 0
  amp : Nat := 0
  rep : Nat := 0
  client : Option Nat := none
  notify : Bool := false
  pd : Bool := false
  deriving DecidableEq, Repr

/-- What a bridge drives (R294, R299–R301): nothing, in phase with the motion, regulated, in reverse phase, or the sweep of a calibration;
the frequency in 1/40,960 Hz, the duty in 1/65,025 %, the target acceleration in 1/65,025 mg, and whether the first cycle begins at the
phase of the residual motion. -/
structure HapDrive where
  mode : Nat := 0
  freq : Nat := 0
  duty : Nat := 0
  target : Nat := 0
  aligned : Bool := false
  deriving DecidableEq, Repr

/-- A channel beside its entries: the trigger that plays and the plays left after the present one, the latched trigger,
whether the bridge is stopped for the rest of the play, whether a calibration waits, CAL_STATE as it was before the running
one, consecutive accelerometer errors, the last sample, and the drive. -/
structure HapRec where
  cur : Option Trig := none
  left : Nat := 0
  latch : Option Trig := none
  cut : Bool := false
  calWait : Bool := false
  prevCal : Nat := 0
  errs : Nat := 0
  acc : Int := 0
  drive : HapDrive := {}
  deriving DecidableEq, Repr

/-- The haptic channels, the bound touch triggers that wait for PD2 to wake, as channel mask and trigger word, and the triggers from
process data that wait for PD13, as channel and trigger word. -/
structure HapSt where
  chans : Tbl HapRec := []
  bound : List (Nat × Nat) := []
  pdWait : List (Nat × Nat) := []
  deriving DecidableEq, Repr

/-! ### Audio -/

/-- A crosspoint's fade (R327): its key (SRC, TAP, DST), gains in 2⁻³⁰, curve (0 removed, 1 added, 2 changed) and position of
256. -/
structure XFade where
  key : Nat := 0
  g0 : Int := 0
  g1 : Int := 0
  kind : Nat := 0
  pos : Nat := 0
  deriving DecidableEq, Repr

/-- A mixer input: filter state (x1, x2, y1, y2 of each band), the compressor's detector, the delay line with the newest
sample first, the four taps, and the fades of a GAIN and a DELAY change (old value and position). -/
structure MixIn where
  eq : List Int := []
  det : Nat := 0
  line : List Int := []
  taps : List Int := []
  gFrom : Int := 0
  gPos : Nat := 256
  dFrom : Nat := 0
  dPos : Nat := 256
  deriving DecidableEq, Repr

/-- A bus: its last delivered sample, the fade of a GAIN change, and the instant since which every sample has been below the
threshold. -/
structure BusRec where
  out : Int := 0
  gFrom : Int := 0
  gPos : Nat := 256
  quiet : Option Nat := some 0
  deriving DecidableEq, Repr

/-- A TDM port: consecutive good and missing frames, whether its sync was lost, the last valid samples by slot, and the fade
level of 32. -/
structure TdmRec where
  good : Nat := 0
  miss : Nat := 0
  lost : Bool := false
  rx : List Int := []
  level : Nat := 0
  deriving DecidableEq, Repr

/-- An open stream (R331): client, ring, PERIOD_FRAMES, PERIODS, sample width, LATENCY_PERIODS, LANES and DIR as opened. -/
structure StreamOpen where
  client : Nat := 0
  ring : Nat := 0
  frames : Nat := 16
  periods : Nat := 2
  wide : Bool := false
  latency : Nat := 1
  deriving DecidableEq, Repr

/-- A host stream: whether it is open, READ or WRITE as the device holds it, COUNT, the frame of the period, the fade level of
32 with the last valid samples, and the samples captured in this period. -/
structure StreamRec where
  opened : Option StreamOpen := none
  index : Nat := 0
  count : Nat := 0
  pos : Nat := 0
  level : Nat := 0
  last : List Int := []
  cap : List Int := []
  deriving DecidableEq, Repr

/-- The audio blocks: crosspoint fades by domain, inputs, buses, ports, fade levels of the ASRC channels, streams, the
AUD_MCLKB clock, and by sequencer the domains whose swap an APPLY awaits. -/
structure AudioSt where
  fades : Tbl (List XFade) := []
  ins : Tbl MixIn := []
  buses : Tbl BusRec := []
  tdms : Tbl TdmRec := []
  asrc : Tbl Nat := []
  streams : Tbl StreamRec := []
  mclkb : Bool := false
  apply : Tbl (List Nat) := []
  deriving DecidableEq, Repr

/-! ### LPDDR5X memory controller -/

/-- A DRAM transaction of one 64-byte block or a part of it, from its entry into the level-1 queue of its channel until it
has been issued (R44, R348, R352). `stage`: 0 waits at level 1, 1 picked there, 2 picked at level 2, 3 in the queues between level 3
and the DRAM. `data` are a write's bytes; a byte that a later access has already replaced is `none`. `waits` are the
writes a read waits for. -/
structure DramTx where
  id : Nat
  chan : Nat
  leaf : Leaf
  why : DramWhy := .plain
  addr : Nat
  len : Nat
  write : Bool
  data : List (Option Byte) := []
  at_ : Nat := 0
  stage : Nat := 0
  promoted : Bool := false
  waits : List Nat := []
  deriving DecidableEq, Repr

/-- A rank: OWED in 1/16 rounds, its multiplier, whether the next MR4 read sets it at once, consecutive reads that asked for
less, the instant of the last accrual, a burst in progress with its start, the bank rotation, power-down, and the instants
(ns) of readiness after a refresh, of the last REFpb and of the last activates. -/
structure RankRec where
  owed : Nat := 0
  mult : Nat := 2
  first : Bool := true
  lower : Nat := 0
  accrual : Nat := 0
  burst : Option Nat := none
  rot : Nat := 0
  down : Bool := false
  ready : Nat := 0
  refpb : Option Nat := none
  acts : List Nat := []
  deriving DecidableEq, Repr

/-- A channel: ranks, read or write mode, open rows and consecutive hits by 16 × rank + bank, the instants banks become ready
after REFpb, the activate pointer, the DISP credit with the instant it was counted at, and the instant of the last
MEM_CORRECTED event. -/
structure ChanRec where
  ranks : Tbl RankRec := []
  writing : Bool := false
  rows : Tbl (Option Nat) := []
  hits : Tbl Nat := []
  ready : Tbl Nat := []
  ptr : Nat := 0
  credit : Nat := 0
  creditAt : Nat := 0
  corrAt : Option Nat := none
  deriving DecidableEq, Repr

/-- The memory controller: transactions in order of arrival, the next number, the channels, the error-log slots read, and the delay
offsets of the newest hallmark record as the last training added them (R362). -/
structure MemSt where
  offsets : List Nat := []
  txs : List DramTx := []
  nextId : Nat := 0
  chans : Tbl ChanRec := []
  read : List Nat := []
  deriving DecidableEq, Repr

/-! ### The control cores, their memories and the loupe -/

/-- A 64-byte line of a cache: its physical address divided by 64, whether a trusted transaction allocated it, whether it is newer than
memory, and its bytes. -/
structure CacheLine where
  line : Nat := 0
  trusted : Bool := false
  dirty : Bool := false
  bytes : List Byte := []
  deriving DecidableEq, Repr

/-- CC0 to CC3 or TC: integer and FP registers, fcsr, pc, the other CSRs by number (0x1000 + 4 × trigger + n is tdatan of a trigger), and
the L1 data and instruction caches, the newest line first. -/
structure CpuRec where
  x : Tbl Nat := []
  f : Tbl Nat := []
  fcsr : Nat := 0
  pc : Nat := 0
  csr : Tbl Nat := []
  l1d : List CacheLine := []
  l1i : List CacheLine := []
  deriving DecidableEq, Repr

/-- The RISC-V debug module of the loupe (R390): dmactive, the hart selected, the data and program-buffer words, the last command's
error, abstractauto, the harts that have resumed and those whose reset has been acknowledged, system-bus access, and what the next scan of
DMI shifts out. -/
structure DebugMod where
  active : Bool := false
  sel : Nat := 0
  data : Tbl Nat := []
  progbuf : Tbl Nat := []
  command : Nat := 0
  cmderr : Nat := 0
  auto : Nat := 0
  resumed : List Nat := []
  acked : List Nat := []
  sbAddr : Nat := 0
  sbData : Nat := 0
  sbAccess : Nat := 2
  sbReadOnAddr : Bool := false
  sbAutoInc : Bool := false
  sbReadOnData : Bool := false
  sbError : Nat := 0
  result : Nat := 0
  deriving DecidableEq, Repr

/-- The control cores: CC0 to CC3 and TC by number (4), whether the trusted image has set and locked what R369 names, the lines of the L2
by 16 × set + way, the bytes of system SRAM and locket SRAM that have been written, and the debug module. -/
structure ControlSt where
  cpus : Tbl CpuRec := []
  locked : Bool := false
  l2 : Tbl (Option CacheLine) := []
  sram : Tbl (Option Byte) := []
  locketSram : Tbl (Option Byte) := []
  dm : DebugMod := {}
  deriving DecidableEq, Repr

/-! ### The locket itself -/

/-- A queued trusted call (R375, R376): its number, ticket, calling core and arguments. -/
structure LktCall where
  num : Nat := 0
  ticket : Nat := 0
  core : Nat := 0
  args : List Nat := []
  bytes : List Byte := []
  deriving DecidableEq, Repr

/-- A hand-over in the sequencer (R380): releasing or resetting, the owner to be granted, the ticket of the OWN_ASSIGN call
that asked for it, the client whose EVENT bit 8 its release sets, the owner it comes from, and whether a CV_ACQUIRE awaits it, with
the POLY that request chose. -/
structure Hand where
  resetting : Bool := false
  target : Nat := 0xFFFF
  ticket : Option Nat := none
  notify : Option Nat := none
  giver : Nat := 0xFFFF
  acquire : Bool := false
  poly : Nat := 0
  deriving DecidableEq, Repr

/-- A measurement of R388: slot, version and digest. -/
structure Measure where
  slot : Nat := 0
  version : Nat := 0
  digest : List Byte := []
  deriving DecidableEq, Repr

/-- The JTAG TAP (R390): whether it is held in reset, the instruction in force, the boundary cells, the DTM's last DMI
operation, and the bytes of RESPONSE that LOUPE_MBOX has shifted in with its place in CHALLENGE. -/
structure Tap where
  reset : Bool := true
  ir : Nat := 1
  boundary : Nat := 0
  dmiAddr : Nat := 0
  dmiData : Nat := 0
  dmiOp : Nat := 0
  mbox : List Byte := []
  mboxPos : Nat := 0
  deriving DecidableEq, Repr

/-- The locket: calls that wait, the next ticket, the results kept (ticket, status, value), hand-overs and GRANTS by block,
the watchdog's last service, the instant the trusted world last resumed within its series, the measurements by kind, the camera
notices (receiver, facet mask), the nonce of the report being signed, the mask of the last challenge with its instant and whether it may
still be answered, the response being verified, the integrator's debug key hash once written, the halted control cores (4 is TC), and the
TAP. -/
structure LocketSt where
  queue : List LktCall := []
  nextTicket : Nat := 1
  results : List (Nat × Nat × Nat) := []
  hand : Tbl (Option Hand) := []
  grants : Tbl Nat := []
  served : Nat := 0
  resumed : Option Nat := none
  measures : Tbl Measure := []
  camNotices : List (Nat × Nat) := []
  nonce : List Byte := []
  mask : Nat := 0
  challengeAt : Option Nat := none
  open_ : Bool := false
  response : List Byte := []
  debugKey : List Byte := []
  halted : List Nat := []
  tap : Tap := {}
  signetLog : List Nat := []
  deriving DecidableEq, Repr

/-- An image slot of the boot flash (R446, R450): its bytes, whether it is valid, its store count, and its trial and rejected
marks. -/
structure ImgSlot where
  bytes : List Byte := []
  valid : Bool := false
  count : Nat := 0
  trial : Bool := false
  rejected : Bool := false
  deriving DecidableEq, Repr

/-- The boot flash and OTP: image slots (0, 1 trusted, 2, 3 open world), stored slots 1 and 2, the training record as the
configuration it was made for, the SII station alias word, HOURS as it was last written, bytes written raw by FLASH_WRITE to the
configuration and hallmark regions, and the image slots booted. -/
structure FlashSt where
  imgs : List ImgSlot := [{ valid := true, count := 1 }, {}, { valid := true, count := 1 }, {}]
  stored : List (Option StoredSlot) := [none, none]
  training : Option (List Nat) := none
  station : Nat := 0
  hours : Nat := 0
  raw : Tbl (Option Byte) := []
  trusted : Nat := 0
  open_ : Nat := 2
  deriving DecidableEq, Repr

/-! ### Clock islands and crossings -/

/-- One half of a crossing, as a sender (R400–R405): beats not yet accepted, since when the oldest of them waits, the flag level, the
events not yet sent, since when one sent waits for its acknowledge, since when a value waits for its own, the hold register of a value
outstanding, whether it has been captured, the pending slot, and the value last captured from it. -/
structure Half where
  beats : List Nat := []
  since : Option Nat := none
  level : Nat := 0
  events : Nat := 0
  flagSince : Option Nat := none
  holdSince : Option Nat := none
  hold : Option Nat := none
  acked : Bool := false
  slot : Option Nat := none
  seen : Nat := 0
  deriving DecidableEq, Repr

/-- A crossing: STATE by the codes of R414 for stalled (3), waiting for a rejoin (4), fenced (5), else 0; the side that
stopped or reset; the log slot of its stall; its counters; its halves; and whether an island of it has been powered off or gated since
the device reset, from which STATE shows it fenced while the island is off (R407, R414). -/
structure XingRec where
  state : Nat := 0
  side : Bool := false
  slot : Nat := 0
  timeouts : Nat := 0
  coalesced : Nat := 0
  resets : Nat := 0
  a : Half := {}
  b : Half := {}
  fenced : Bool := false
  deriving DecidableEq, Repr

/-- The islands' states (R398), the crossings, the log slots read, and the log's next FAILED slot. -/
structure IslandSt where
  islands : Tbl Nat := []
  xings : Tbl XingRec := []
  read : List Nat := []
  deriving DecidableEq, Repr

/-! ### Power domains, supply supervision and hallmark ageing -/

/-- A switch request of a power domain that waits for the one change at a time (R421): on or off, and the row of R422 of
the wake event that asked for it, 0 for none. -/
structure Switch where
  domain : Nat := 0
  on : Bool := false
  row : Nat := 0
  deriving DecidableEq, Repr

/-- A hallmark record (R439): `islands` holds CEILING, MARGIN, ACTIVE, LOWERED and TED_HITS of each island in the order of
R14, `dram` the 64 offset bytes, `touch` the 256 expected deltas. -/
structure HallmarkRec where
  seq : Nat := 0
  hours : Nat := 0
  targetMv : Nat := 750
  kind : Nat := 0
  result : Nat := 0
  temp : Int := 0
  islands : List (List Nat) := []
  dram : List Nat := []
  touch : List Nat := []
  deriving DecidableEq, Repr

/-- The power controller: queued switch requests; deep sleep (0 awake, 1 entering, 2 asleep) and a wake that arrived
during entry; the rails in warning; the sensor whose reading started the throttle episode; the VDD_CORE target last
acknowledged over AVSBus and whether a write waits; the maintenance window's end; why an epoch is due (1 periodic,
2 command, 3 guard step); detector hits since the last record by island; the hallmark records; the log slots read; gated clocks by
island; the throttle limit of RQ0–RQ3 and whether CCX is throttled; the clock ceilings that open-world firmware has asked for; the
assignable blocks whose clock it has gated; the clocks in force since the plan was first applied; and the islands whose change of clock
waits for a crossing. -/
structure PowerSt where
  queue : List Switch := []
  sleep : Nat := 0
  wakePending : Bool := false
  warning : List Nat := []
  throttle : Option Nat := none
  acked : Nat := 750
  avsPending : Bool := false
  windowEnd : Option Nat := none
  due : Nat := 0
  hits : Tbl Nat := []
  records : List HallmarkRec := []
  read : List Nat := []
  gated : List Nat := []
  rqLimit : Nat := 1400
  ccxLow : Bool := false
  asked : Tbl Nat := []
  stopped : List Nat := []
  clocks : Tbl Nat := []
  clockWaits : List Nat := []
  deriving DecidableEq, Repr

/-! ### Reset, boot and the pins -/

/-- Boot: the last step of R447 that has completed (0 none, 7 all), whether the device is held in reset and the instant the reset
began, the failure of R451 that stopped it (0 none, 1 no valid trusted image, 3 training, 4 no valid open-world image), whether a
fault has latched FAULT_N, whether the trusted world has reported ready since the reset, when CC0–CC3 were started, whether AON
holds the first-boot measurement (R388), the rail of a supply reset whose EMCY is still to be sent, and whether RESET_N is held
low. -/
structure BootSt where
  step : Nat := 0
  held : Bool := true
  heldAt : Option Nat := none
  failure : Nat := 0
  fault : Bool := false
  ready : Bool := false
  startedAt : Nat := 0
  measured : Bool := false
  supplyRail : Option Nat := none
  resetN : Bool := false
  deriving DecidableEq, Repr


/-- The state of the block. `time` counts the always-on timer (40 ns per count) since power-on reset; `free` is the model's
own counter from which free values are drawn; `out` keeps the outward messages, newest first; `fwQueue` the events held
while PD2 is off (R422); `mem` the DRAM bytes. -/
structure State where
  time : Nat := 0
  free : Nat := 0
  pending : List Instr := []
  out : List Out := []
  fwQueue : List Out := []
  od : Tbl Nat := []
  dom : Tbl (List Byte) := []
  mem : List Host.Cell := []
  ten : TenancySt := {}
  clasp : ClaspSt := {}
  dict : DictSt := {}
  field : FieldSt := {}
  raster : RasterSt := {}
  compose : ComposeSt := {}
  heads : HeadsSt := {}
  ports : PortsSt := {}
  cameo : CameoSt := {}
  touch : TouchSt := {}
  hap : HapSt := {}
  audio : AudioSt := {}
  memc : MemSt := {}
  control : ControlSt := {}
  locket : LocketSt := {}
  flash : FlashSt := {}
  isl : IslandSt := {}
  power : PowerSt := {}
  boot : BootSt := {}
  deriving DecidableEq, Repr

/-- The block right after a power-on reset (R444, R445). -/
def State.reset : State := {}

end Sys2Proof.Machine
end

