-- ==== Sys2Proof/Machine/Ops.lean ====
section
/-! DEFINITION. The named operations over the state that every chapter shares: dictionary entries, counters, free values,
DRAM bytes, outward messages and events, emergency messages (R111, R112), violations (R37–R41), charms and rights (R25,
R26), the tenant MMU (R32–R34), MSI-X messages and doorbells (R61, R62). -/

namespace Sys2Proof.Machine

/-! ### Dictionary entries -/

/-- The live value of a number or string entry, by key. -/
def rd (s : State) (k : Nat) : Nat := tget odDefault s.od k

/-- The state with the live value of an entry replaced. -/
def wr (s : State) (k v : Nat) : State := { s with od := tset odDefault s.od k v }

/-- The live value of a DOMAIN entry, by key. -/
def dget (s : State) (k : Nat) : List Byte := tget domDefault s.dom k

/-- The state with the value of a DOMAIN entry replaced. -/
def dput (s : State) (k : Nat) (v : List Byte) : State := { s with dom := tset domDefault s.dom k v }

/-- A counter of R74 `n` higher: UNSIGNED32, saturating. -/
def bumpBy (s : State) (k n : Nat) : State := wr s k (satInc (rd s k) n)

/-- A counter of R74 one higher. -/
def bump (s : State) (k : Nat) : State := bumpBy s k 1

/-- A wrapping UNSIGNED32 counter one higher. -/
def bumpWrap (s : State) (k : Nat) : State := wr s k ((rd s k + 1) % 2 ^ 32)

/-- The state with bit `i` of an entry set to `b`. -/
def wrBit (s : State) (k i : Nat) (b : Bool) : State := wr s k (setBit (rd s k) i b)

/-- Whether an entry reads as a value other than 0. -/
def isOn (s : State) (k : Nat) : Bool := rd s k != 0

/-! ### Free values -/

/-- The state after a free value has been drawn. -/
def drawn (s : State) : State := { s with free := s.free + 1 }

/-- The free value that the next draw gives: nothing is known of it. DESIGN CHOICE: log 5. -/
def freeVal (s : State) (bound : Nat) : Nat := Sys2Proof.Config.freeNat s.free % bound

/-- A quotient to which the manual gives no rounding: exact where the division is, else rounded down or up as the opaque
constant decides. DESIGN CHOICE: log 6. DESIGN CHOICE: log 93. -/
def roundFree (num : Int) (den : Nat) : Int :=
  let q := num / (den : Int)
  if num % (den : Int) = 0 then q
  else if Sys2Proof.Config.roundsUp num den then q + 1 else q

/-- A quotient rounded to nearest, ties to even (R166). -/
def roundNearest (num : Int) (den : Nat) : Int :=
  let q := num / (den : Int)
  let r := (num % (den : Int)).toNat
  if 2 * r < den then q else if den < 2 * r then q + 1 else if q % 2 = 0 then q else q + 1

/-! ### DRAM bytes -/

/-- What a byte of DRAM that nothing has written reads as. DESIGN CHOICE (the manual gives no contents after power-on).
DESIGN CHOICE: log 7. -/
def memDefault : Nat → Byte := fun _ => 0

/-- The byte that a waiting write has for an address, if it has one. -/
def txByte (t : DramTx) (a : Nat) : Option Byte :=
  if t.write ∧ t.addr ≤ a then at0 none t.data (a - t.addr) else none

/-- The byte of the newest waiting write of an address: every read waits for that write (R352). -/
def waitByte : List DramTx → Nat → Option Byte
  | [], _ => none
  | t :: r, a =>
    match waitByte r a with
    | some b => some b
    | none => txByte t a

/-- A waiting write without its byte of an address, which a later access has replaced. -/
def dropByte (a : Nat) (t : DramTx) : DramTx :=
  if t.write ∧ t.addr ≤ a then { t with data := t.data.set (a - t.addr) none } else t

/-- The byte that the DRAM holds at a physical address. -/
def dramByte (s : State) (a : Nat) : Byte := tget memDefault s.mem a

/-- The byte that a read of a physical address returns: the DRAM's, or that of a write acknowledged earlier, for which the
read waits (R352). -/
def memRd (s : State) (a : Nat) : Byte := (waitByte s.memc.txs a).getD (dramByte s a)

/-- The state with one byte written at a physical address. -/
def memWr (s : State) (a : Nat) (v : Byte) : State :=
  { s with mem := tset memDefault s.mem a v, memc := { s.memc with txs := s.memc.txs.map (dropByte a) } }

/-- The bytes at a list of physical addresses. -/
def memRdAll (s : State) (as : List Nat) : List Byte := as.map (memRd s)

/-- The state with bytes written at a list of physical addresses; `none` leaves a byte alone. -/
def memWrAll : State → List (Nat × Option Byte) → State
  | s, [] => s
  | s, (a, some v) :: r => memWrAll (memWr s a v) r
  | s, (_, none) :: r => memWrAll s r

/-- A waiting write without its bytes of a range. -/
def dropRange (lo n : Nat) (t : DramTx) : DramTx :=
  if t.write then
    { t with data := (List.range t.data.length).map (fun i =>
        if lo ≤ t.addr + i ∧ t.addr + i < lo + n then none else at0 none t.data i) }
  else t

/-- The state with physical bytes `lo` to `lo + n - 1` zeroed. -/
def memZero (s : State) (lo n : Nat) : State :=
  { s with mem := tclear (fun a => decide (lo ≤ a) && decide (a < lo + n)) s.mem,
           memc := { s.memc with txs := s.memc.txs.map (dropRange lo n) } }

/-! ### Messages and events -/

/-- The state with an outward message sent. DESIGN CHOICE: log 3. -/
def emit (s : State) (o : Out) : State := { s with out := o :: s.out }

/-- The state with a message sent to a destination. -/
def send (s : State) (d : Dest) (vals : List Int) (bytes : List Byte) : State := emit s (.msg d vals bytes)

/-- Whether a power domain is on (R418, R427: STATE 2). -/
def pdOn (s : State) (d : Nat) : Bool := rd s (E.pd_STATE d) == 2

/-- An event to open-world firmware. While PD2 is off it is held in the AON queue of 1,024 events, of which the oldest is
dropped and counted (R422). -/
def raise (s : State) (e : Ev) (args : List Int) : State :=
  if pdOn s 2 then emit s (.event false e args)
  else if s.fwQueue.length < 1024 then { s with fwQueue := s.fwQueue ++ [.event false e args] }
  else bump { s with fwQueue := s.fwQueue.drop 1 ++ [.event false e args] } E.pwr_EVENTS_DROPPED

/-- An event to the trusted world (R267, R397). -/
def raiseTrusted (s : State) (e : Ev) (args : List Int) : State := emit s (.event true e args)

/-! ### Emergency messages -/

/-- Counts of the always-on timer in a millisecond. -/
def msCounts : Nat := 25000

/-- The further error-register bit of an error code (R112). -/
def emcyBit (code : Nat) : Nat :=
  if code = 0x3201 ∨ code = 0x3202 then 2
  else if code = 0x4201 then 3
  else if code = 0x6310 then 5
  else if 0x8000 ≤ code ∧ code < 0x9000 then 4
  else 7

/-- 0x1001 as the lasting conditions make it: bit 0 and each condition's bit (R111). -/
def lastingRegister (l : List (Nat × Nat)) : Nat :=
  if l = [] then 0 else maskOf (0 :: l.map (fun p => emcyBit p.1))

/-- A CANopen FD node. -/
def canOf (s : State) (n : Nat) : CanNode := tget (fun _ => {}) s.field.can n
/-- The state with a node replaced. -/
def setCan (s : State) (n : Nat) (x : CanNode) : State :=
  { s with field := { s.field with can := tset (fun _ => {}) s.field.can n x } }

/-- A node takes part on its bus: enabled, not bus-off. -/
def canAlive (x : CanNode) : Bool := x.enabled && !x.busOff && x.nmt != 0

/-- The interfaces that can carry an EMCY now: EtherCAT with a link from PREOP up, a node that is pre-operational or operational.
DEDUCED: log 77. -/
def emcyPaths (s : State) : List Nat :=
  (if s.field.link.any id ∧ (s.field.al = 2 ∨ s.field.al = 4 ∨ s.field.al = 8) then [0] else []) ++
    [0, 1].filterMap (fun n => let x := canOf s n; if canAlive x ∧ (x.nmt = 127 ∨ x.nmt = 5) then some (n + 1) else none)

/-- The state with an emergency message in the queue of 16, the oldest dropped and counted on overflow (R111). -/
def queueEmcy (s : State) (m : Emcy) : State :=
  if s.field.emcyQueue.length < 16 then
    { s with field := { s.field with emcyQueue := s.field.emcyQueue ++ [m] } }
  else
    bump { s with field := { s.field with emcyQueue := s.field.emcyQueue.drop 1 ++ [m] } } E.comm_EMCY_DROPPED

/-- The least time between two sendings of one code and byte 0: 100 ms, and a second for the codes whose chapters say so
(R38, R111, R429). -/
def emcyGap (code : Nat) : Nat := if code = 0xFF01 ∨ code = 0x3201 then 1000 * msCounts else 100 * msCounts

/-- The number by which the rate limit remembers a code and byte 0. -/
def emcyKey (code b0 : Nat) : Nat := code * 256 + b0

/-- Whether the rate limit holds an emergency message back (R111). -/
def emcyHeld (s : State) (code b0 : Nat) : Bool :=
  s.field.emcyLast.any (fun p => p.1 == emcyKey code b0 && decide (s.time < p.2 + emcyGap code))

/-- A message of this code and byte 0 has been sent now, which the rate limit remembers. -/
def emcySent (s : State) (code b0 : Nat) : State :=
  { s with field := { s.field with emcyLast := (emcyKey code b0, s.time) :: s.field.emcyLast.filter (fun p => p.1 != emcyKey code b0) } }

/-- An emergency message is formed: its register byte is 0x1001 with bit 0 and the code's bit set in addition; one that could be
sent and that the rate limit holds back is not sent later (R111). `rest` is bytes 1 to 4. -/
def emcy (s : State) (code b0 rest : Nat) : State :=
  if emcyHeld s code b0 ∧ emcyPaths s ≠ [] then s
  else
    let reg := maskOf ([0, emcyBit code] ++ bitsOf 8 (rd s E.err_ERROR_REGISTER))
    queueEmcy s { code := code, reg := reg, data := b0 % 256 + 256 * (rest % 2 ^ 32) }

/-- A lasting condition begins (R111): 0x1001 holds its bit while it lasts. -/
def beginLasting (s : State) (code b0 : Nat) : State :=
  let l := if s.field.lasting.contains (code, b0) then s.field.lasting else s.field.lasting ++ [(code, b0)]
  wr { s with field := { s.field with lasting := l } } E.err_ERROR_REGISTER (lastingRegister l)

/-- A lasting condition ends; when it was the last one, code 0x0000 is sent without a rate limit (R111). -/
def endLasting (s : State) (code b0 : Nat) : State :=
  if s.field.lasting.contains (code, b0) then
    let l := s.field.lasting.filter (fun p => p != (code, b0))
    let s1 := wr { s with field := { s.field with lasting := l } } E.err_ERROR_REGISTER (lastingRegister l)
    if l = [] then queueEmcy s1 {} else s1
  else s

/-- The emergency message of a lasting condition that begins. -/
def lastingEmcy (s : State) (code b0 rest : Nat) : State := emcy (beginLasting s code b0) code b0 rest

/-! ### Guests, clients and charms -/

/-- The guest record of guest `g`. -/
def guestRec (s : State) (g : Nat) : GuestRec := tget (fun _ => {}) s.ten.guests g

/-- The state with a guest record replaced. -/
def setGuest (s : State) (g : Nat) (r : GuestRec) : State :=
  { s with ten := { s.ten with guests := tset (fun _ => {}) s.ten.guests g r } }

/-- A guest exists while its function is enabled (R21, R23). DEDUCED: log 14. -/
def guestExists (s : State) (g : Nat) : Bool :=
  s.ten.endpoint && (g == 0 || decide (g ≤ s.ten.numVfs))

/-- A client lies in a guest's range (R23). -/
def inRange (s : State) (g c : Nat) : Bool :=
  let first := rd s (E.guest_FIRST_CLIENT g)
  decide (first ≤ c) && decide (c < first + rd s (E.guest_CLIENT_COUNT g))

/-- The guest that owns a client (R23), if one does. -/
def guestOf (s : State) (c : Nat) : Option Nat := (List.range 64).find? (fun g => inRange s g c)

/-- The clients of a guest's range. -/
def clientsOf (s : State) (g : Nat) : List Nat :=
  rangeFrom (rd s (E.guest_FIRST_CLIENT g)) (rd s (E.guest_CLIENT_COUNT g))

/-- A client's charm without its GUEST field, 256 bits. -/
def charm (s : State) (c : Nat) : Nat := tget (fun _ => 0) s.ten.charms c

/-- The state with a client's charm replaced. -/
def setCharm (s : State) (c v : Nat) : State :=
  { s with ten := { s.ten with charms := tset (fun _ => 0) s.ten.charms c v } }

/-- CLASS of a charm (R25): 0 G, 1 I. -/
def charmClass (s : State) (c : Nat) : Nat := fld (charm s c) 6 2
/-- EN of a charm (R25). -/
def charmEn (s : State) (c : Nat) : Bool := bitOf (charm s c) 8
/-- WBASE of a charm, in pages of the guest's carve-out (R25). -/
def charmBase (s : State) (c : Nat) : Nat := fld (charm s c) 192 20
/-- WPAGES of a charm (R25). -/
def charmPages (s : State) (c : Nat) : Nat := fld (charm s c) 224 20
/-- TXMAX of a charm (R25). -/
def charmTxMax (s : State) (c : Nat) : Nat := fld (charm s c) 244 8

/-- A right of a client to a head: the AND of its charm and its guest entry (R26). -/
def headRight (s : State) (c h : Nat) : Bool :=
  bitOf (charm s c) (16 + h) && (match guestOf s c with | some g => bitOf (rd s (E.guest_HEAD_MASK g)) h | none => false)

/-- A right of a client to a facet (R26). -/
def facetRight (s : State) (c h f : Nat) : Bool :=
  bitOf (charm s c) (32 + 8 * h + f) &&
    (match guestOf s c with | some g => bitOf (rd s (E.guest_FACET_MASK g)) (8 * h + f) | none => false)

/-- A right of a client to an engine, by its bit of charm offset 0x14 (R26): 0 RENDER, 1 COMPUTE, 2 FLIP, 3 CAMERA,
4 AUDIO, 5 TOUCH, 6 HAPTIC, 7 CVU, 8 WRITEBACK. -/
def engineRight (s : State) (c e : Nat) : Bool :=
  bitOf (charm s c) (160 + e) &&
    (match guestOf s c with | some g => bitOf (rd s (E.guest_ENGINE_MASK g)) e | none => false)

/-! ### The tenant MMU -/

/-- Bytes of a page (R35). -/
def pageSize : Nat := 65536

/-- The page frame that firmware has allocated to a carve-out page, if it has one. -/
def findExtent : List Extent → Nat → Option Nat
  | [], _ => none
  | e :: r, p => if e.page ≤ p ∧ p < e.page + e.count then some (e.phys + (p - e.page)) else findExtent r p

/-- The page-table entry of a carve-out page, 64 bits (R32): what firmware wrote last, else V, RD and WR 1 over the page's frame, and
0 where the carve-out has no such page. -/
def pteWord (s : State) (g p : Nat) : Nat :=
  match tget (fun _ => none) (guestRec s g).ptes p with
  | some w => w
  | none => match findExtent (guestRec s g).table p with
    | some pf => 7 + 65536 * pf
    | none => 0

/-- The rights bits of a carve-out page: bit 0 RD, bit 1 WR (R32). -/
def pageRights (s : State) (g p : Nat) : Nat := fld (pteWord s g p) 1 2

/-- The physical address of a carve-out byte, if its page is mapped (R32, R33). -/
def translate (s : State) (g x : Nat) : Option Nat :=
  let w := pteWord s g (x / pageSize)
  if bitOf w 0 then some (fld w 16 20 * pageSize + x % pageSize) else none

/-- Whether `n` bytes at window address `a` lie in a client's window (R34). -/
def inWindow (s : State) (c a n : Nat) : Bool :=
  decide (0 < charmPages s c) && decide (a + n ≤ charmPages s c * pageSize)

/-- The physical address of a byte of a client's window. -/
def winAddr (s : State) (c a : Nat) : Option Nat :=
  match guestOf s c with
  | none => none
  | some g => if inWindow s c a 1 then translate s g (charmBase s c * pageSize + a) else none

/-- Whether the rights bits of a window byte's page permit a read or a write (R32). -/
def winAllowed (s : State) (c a : Nat) (write : Bool) : Bool :=
  match guestOf s c with
  | none => false
  | some g => bitOf (pageRights s g (charmBase s c + a / pageSize)) (b2n write)

/-- One byte of a client's window; a byte no access may reach reads 0 (R37). -/
def winByte (s : State) (c a : Nat) : Byte :=
  match winAddr s c a with
  | some p => if winAllowed s c a false then memRd s p else 0
  | none => 0

/-- `n` bytes of a client's window. -/
def winRd (s : State) (c a n : Nat) : List Byte := (rangeFrom a n).map (winByte s c)

/-- A little-endian 32-bit word of a client's window. -/
def winWord (s : State) (c a : Nat) : Nat := leVal (winRd s c a 4)

/-- The state with bytes written into a client's window; a byte no access may reach is discarded (R37). -/
def winWr : State → Nat → Nat → List Byte → State
  | s, _, _, [] => s
  | s, c, a, b :: bs =>
    winWr (match winAddr s c a with | some p => if winAllowed s c a true then memWr s p b else s | none => s) c (a + 1) bs

/-! ### Violations -/

/-- Counts of the always-on timer in a second. -/
def secCounts : Nat := 25000000

/-- A violation enters the log queue of 16, or is lost (R41). -/
def logViolation (s : State) (v : Viol) : State :=
  if s.ten.violQueue.length < 16 then { s with ten := { s.ten with violQueue := s.ten.violQueue ++ [v] } }
  else bump s E.viol_LOST

/-- A violation is counted against its guest; one that takes the guest past VIOL_LIMIT within a second sends the
guest-violation EMCY (R38). -/
def countViolation (s : State) (g : Nat) : State :=
  let r := guestRec s g
  let times := s.time :: r.violTimes.filter (fun t => decide (s.time < t + secCounts))
  let s1 := setGuest (bump s (E.guest_VIOLATIONS g)) g { r with violTimes := times }
  let limit := rd s (E.guest_VIOL_LIMIT g)
  if limit ≠ 0 ∧ limit < times.length then emcy s1 0xFF01 g times.length else s1

/-- A refused access is counted and logged (R37, R38, R41). DEDUCED: log 21. -/
def violate (s : State) (kind path addr : Nat) (client guest : Option Nat) : State :=
  let s1 := match guest with | some g => countViolation s g | none => s
  logViolation s1 { time := s.time, addr := addr, client := client, guest := guest, kind := kind, path := path }

/-- A window violation of an engine acting for a client (kind 0x04, path 3), logged with the carve-out offset it names (R39). -/
def windowViolation (s : State) (c a : Nat) : State :=
  violate s 0x04 3 (charmBase s c * pageSize + a) (some c) (guestOf s c)

/-! ### MSI-X and doorbells -/

/-- The BAR2 port of function `f`. -/
def portRec (s : State) (f : Nat) : PortRec := tget (fun _ => {}) s.clasp.ports f

/-- The state with a BAR2 port replaced. -/
def setPort (s : State) (f : Nat) (p : PortRec) : State :=
  { s with clasp := { s.clasp with ports := tset (fun _ => {}) s.clasp.ports f p } }

/-- Word `i` of a function's MSI-X table: the vector control words start masked, as PCI Express specifies. -/
def msixWord (p : PortRec) (i : Nat) : Nat := tget (fun k => if k % 4 = 3 then 1 else 0) p.msix i

/-- Vector `v` of function `f` is sent, or its PBA bit is set while it is masked (R62). -/
def msixSend (s : State) (f v : Nat) : State :=
  let p := portRec s f
  if bitOf (msixWord p (4 * v + 3)) 0 then setPort s f { p with pba := setBit p.pba v true }
  else send s (.msix f v) [msixWord p (4 * v), msixWord p (4 * v + 1), msixWord p (4 * v + 2)] []

/-- The clasp of a client. -/
def claspOf (s : State) (c : Nat) : Clasp := tget (fun _ => {}) s.clasp.clasps c

/-- The state with a client's clasp replaced. -/
def setClasp (s : State) (c : Nat) (k : Clasp) : State :=
  { s with clasp := { s.clasp with clasps := tset (fun _ => {}) s.clasp.clasps c k } }

/-- VECTOR of a clasp: (c − FIRST_CLIENT) mod 64 until it is written (R50). -/
def claspVector (s : State) (g c : Nat) : Nat :=
  match (claspOf s c).vector with
  | some v => v
  | none => (c - rd s (E.guest_FIRST_CLIENT g)) % 64

/-- A clasp sends its vector when IRQ_EN is 1 (R62). -/
def claspIrq (s : State) (c : Nat) : State :=
  match guestOf s c with
  | none => s
  | some g => if (claspOf s c).irqEn then msixSend s g (claspVector s g c) else s

/-- A client's reset runs, alone or with its guest's, or no guest owns the client (R24, R31, R65). -/
def resettingClient (s : State) (c : Nat) : Bool :=
  match guestOf s c with
  | some g => rd s (E.guest_RESET_CLIENT g) == c || (guestRec s g).clientsPending
  | none => true

/-- A doorbell: bit `bit` of EVENT is set, and the vector is sent when EVENT AND EVENT_EN goes from zero to non-zero
(R61, R62). While the client's reset runs, every field of its window stays at its Reset value (R65), and a client without a guest has
no window. -/
def setEvent (s : State) (c bit : Nat) : State :=
  if resettingClient s c then s
  else
    let k := claspOf s c
    let ev := setBit k.event bit true
    let s1 := setClasp s c { k with event := ev }
    if Nat.land k.event k.eventEn = 0 ∧ Nat.land ev k.eventEn ≠ 0 then claspIrq s1 c else s1

/-! ### Ring logs -/

/-- The key of slot `n` (1 upward) of the ring log whose control record is at `idx`. -/
def slotKey (idx n : Nat) : Nat := dkey (idx + 1) n

/-- The next entry of a ring log of `size` slots is written: it takes the slot NEXT_SLOT names, OVERWRITTEN counts an
entry that `read` does not list as read and that is not empty, and NEXT_SLOT moves on in slot order (R40). -/
def ringEnter (s : State) (idx size : Nat) (read : List Nat) (v : Nat) : State :=
  let n := rd s (dkey idx 1)
  let s1 := if rd s (slotKey idx n) ≠ 0 ∧ ¬ read.contains n then bump s (dkey idx 2) else s
  wr (wr s1 (slotKey idx n) v) (dkey idx 1) (if n = size then 1 else n + 1)

/-- Every slot of a ring log is emptied and its NEXT_SLOT and OVERWRITTEN take their defaults (R42, R364, R415). -/
def ringClear (s : State) (idx : Nat) : State :=
  { s with od := tclear (fun k => k / 256 == idx + 1 || k == dkey idx 1 || k == dkey idx 2) s.od }

end Sys2Proof.Machine
end

