-- ==== Sys2Proof/Machine/Land.lean ====
section
/-! DEFINITION. Values of a commit on their way to their blocks (R82, R83): what is still to take effect, and how a value
becomes the live one. -/

namespace Sys2Proof.Machine

/-- Whether an entry is a DOMAIN. -/
def isDomainKey (k : Nat) : Bool :=
  match findEntry (k / 256) (k % 256) with
  | some f => (match f.row.ty with | .dom _ _ => true | _ => false)
  | none => false

/-- The live value of an entry is replaced by bytes. -/
def setLive (s : State) (k : Nat) (bs : List Byte) : State :=
  if isDomainKey k then dput s k bs else wr s k (leVal bs)

/-- The live bytes of an entry; a number has `n` bytes. -/
def liveBytes (s : State) (k n : Nat) : List Byte := if isDomainKey k then dget s k else leBytes n (rd s k)

/-- The value a commit is applying to an entry, if it is. -/
def applyingVal (s : State) (k : Nat) : Option (List Byte) := (s.dict.applying.find? (fun p => p.1 == k)).map (·.2)

/-- Whether a commit is applying an entry. -/
def isApplying (s : State) (k : Nat) : Bool := s.dict.applying.any (fun p => p.1 == k)

/-- A number entry as the running commit's candidate has it. -/
def candVal (s : State) (k : Nat) : Nat :=
  match applyingVal s k with
  | some bs => leVal bs
  | none => rd s k

/-- One applied value takes effect: it becomes the live value (R83). -/
def landKey (s : State) (k : Nat) : State :=
  match applyingVal s k with
  | none => s
  | some bs =>
    setLive { s with dict := { s.dict with applying := s.dict.applying.filter (fun p => p.1 != k) } } k bs

/-- Every applied value whose key `p` holds of takes effect. -/
def landWhere (s : State) (p : Nat → Bool) : State := ((s.dict.applying.map (·.1)).filter p).foldl landKey s

end Sys2Proof.Machine
end

