-- ==== Sys2Proof/Machine/Float.lean ====
section
/-! DEFINITION. IEEE 754 binary16 and binary32 as exact dyadic numbers, and rounding to nearest even (R131, R138, R166). -/

namespace Sys2Proof.Machine

/-- A decoded floating-point code: not a number, an infinity, or `n / 2 ^ 149`. -/
inductive FP where
  | nan
  | inf (neg : Bool)
  | fin (n : Int)
  deriving DecidableEq, Repr

/-- The value of a code of `eb` exponent bits and `mb` fraction bits. -/
def fpDecode (eb mb bits : Nat) : FP :=
  let m := bits % 2 ^ mb
  let e := bits / 2 ^ mb % 2 ^ eb
  let neg := bitOf bits (eb + mb)
  if e = 2 ^ eb - 1 then (if m = 0 then .inf neg else .nan)
  else
    let bias := 2 ^ (eb - 1) - 1
    -- the unit of the fraction is 2 ^ (e - bias - mb), with e taken as 1 for subnormals
    let a := if e = 0 then m * 2 ^ (1 + 149 - bias - mb) else (2 ^ mb + m) * 2 ^ (e + 149 - bias - mb)
    .fin (if neg then -(a : Int) else (a : Int))

/-- ⌊log₂ (n / d)⌋ for positive n and d, as a pair (plus, minus) whose difference it is. -/
def log2Floor (n d : Nat) : Int :=
  let l : Int := (Nat.log2 n : Int) - (Nat.log2 d : Int)
  let ge := if 0 ≤ l then decide (d * 2 ^ l.toNat ≤ n) else decide (d ≤ n * 2 ^ (-l).toNat)
  if ge then l else l - 1

/-- A quotient of naturals rounded to nearest, ties to even. -/
def divNearest (n d : Nat) : Nat :=
  let q := n / d
  let r := n % d
  if 2 * r < d then q else if d < 2 * r then q + 1 else if q % 2 = 0 then q else q + 1

/-- The code of `eb` exponent bits and `mb` fraction bits nearest to `num / den`, ties to even; past the largest number it
is an infinity. -/
def fpEncode (eb mb : Nat) (num : Int) (den : Nat) : Nat :=
  let neg := if num < 0 then 2 ^ (eb + mb) else 0
  let a := num.natAbs
  if a = 0 then 0
  else
    let emin : Int := 2 - (2 ^ (eb - 1) : Nat)
    let e := log2Floor a den
    let e1 := if e < emin then emin else e
    let u := e1 - (mb : Int)
    let q := if 0 ≤ u then divNearest a (den * 2 ^ u.toNat) else divNearest (a * 2 ^ (-u).toNat) den
    let bits := (e1 - emin).toNat * 2 ^ mb + q
    neg + min bits ((2 ^ eb - 1) * 2 ^ mb)

/-- The code of a decoded value in another format. -/
def fpConvert (eb mb : Nat) : FP → Nat
  | .nan => (2 ^ eb - 1) * 2 ^ mb + 2 ^ (mb - 1)
  | .inf neg => (if neg then 2 ^ (eb + mb) else 0) + (2 ^ eb - 1) * 2 ^ mb
  | .fin n => fpEncode eb mb n (2 ^ 149)

/-- A binary32 code as a value. -/
def fp32 (bits : Nat) : FP := fpDecode 8 23 bits
/-- A binary16 code as a value. -/
def fp16 (bits : Nat) : FP := fpDecode 5 10 bits

/-- A value as an `n`-bit unsigned normalised code: clamped to 0.0–1.0, rounded to nearest even (R131). A NaN has no
place on the scale; it takes code 0, as R166 has it for the datapath. DEDUCED: log 84. -/
def toUnorm (n : Nat) : FP → Nat
  | .nan => 0
  | .inf neg => if neg then 0 else 2 ^ n - 1
  | .fin v =>
    if v ≤ 0 then 0
    else if (2 ^ 149 : Nat) ≤ v.toNat then 2 ^ n - 1
    else divNearest (v.toNat * (2 ^ n - 1)) (2 ^ 149)

/-- An `n`-bit unsigned normalised code as a binary32 code: 0 gives 0.0 and the maximum code 1.0 (R131). -/
def unormToFp32 (n code : Nat) : Nat := fpEncode 8 23 (code : Int) (2 ^ n - 1)

/-- The sum of values, and whether it is a number. -/
def fpSum : List FP → FP
  | [] => .fin 0
  | x :: r =>
    match x, fpSum r with
    | .nan, _ => .nan
    | _, .nan => .nan
    | .inf a, .inf b => if a = b then .inf a else .nan
    | .inf a, .fin _ => .inf a
    | .fin _, .inf b => .inf b
    | .fin a, .fin b => .fin (a + b)

/-- The sum of two binary32 codes, rounded to nearest even. -/
def fpAdd32 (a b : Nat) : Nat := if a = 2 ^ 31 ∧ b = 2 ^ 31 then a else fpConvert 8 23 (fpSum [fp32 a, fp32 b])

/-- The mean of four binary32 codes in FP32: three additions in sample order, each rounded to nearest even, and a quarter (R138).
DEDUCED: log 207. -/
def fpMean4 (l : List Nat) : Nat :=
  let t := fpAdd32 (fpAdd32 (fpAdd32 (at0 0 l 0) (at0 0 l 1)) (at0 0 l 2)) (at0 0 l 3)
  match fp32 t with
  | .fin n => if n = 0 then t else fpEncode 8 23 n (4 * 2 ^ 149)
  | _ => t

end Sys2Proof.Machine
end

