-- ==== Sys2Proof/Machine/Formats.lean ====
section
/-! DEFINITION. Pixel formats: tile-memory formats and their channels (R126, R131), resolve conversions (R138), and FTC
surfaces (R168, R169). -/

namespace Sys2Proof.Machine

/-- Tile formats by code: 1 RGBA8, 2 RGB10A2, 3 RGBA16F, 4 RG16F, 5 R32F (R149); 11 D32F and 12 D24S8 stand for the
depth-stencil formats 1 and 2. Bytes per sample (R126). -/
def tileBytes (fmt : Nat) : Nat := if fmt = 3 then 8 else if fmt = 0 then 0 else 4

/-- How a channel's code is read. -/
inductive ChKind where
  | unorm | f16 | f32 | uint
  deriving DecidableEq, Repr

/-- A channel of a tile format: its low bit in the raw words, its width and its kind. Channel 0 lies lowest, as D24S8 and
RGBA16F show it. -/
def tileChannel (fmt ch : Nat) : Option (Nat × Nat × ChKind) :=
  if fmt = 1 then (if ch < 4 then some (8 * ch, 8, .unorm) else none)
  else if fmt = 2 then (if ch < 3 then some (10 * ch, 10, .unorm) else if ch = 3 then some (30, 2, .unorm) else none)
  else if fmt = 3 then (if ch < 4 then some (16 * ch, 16, .f16) else none)
  else if fmt = 4 then (if ch < 2 then some (16 * ch, 16, .f16) else none)
  else if fmt = 5 ∨ fmt = 11 then (if ch = 0 then some (0, 32, .f32) else none)
  else if fmt = 12 then
    if ch = 0 then some (0, 24, .unorm) else if ch = 1 then some (24, 8, .uint) else none
  else none

/-- A channel code as binary32 (CONV 1). -/
def chToFp32 (k : ChKind) (n code : Nat) : Nat :=
  match k with
  | .unorm => unormToFp32 n code
  | .f16 => fpConvert 8 23 (fp16 code)
  | .f32 => code
  | .uint => unormToFp32 n code

/-- A binary32 code as a channel code (CONV 1): round to nearest even, clamping for normalised formats. -/
def chFromFp32 (k : ChKind) (n bits : Nat) : Nat :=
  match k with
  | .unorm => toUnorm n (fp32 bits)
  | .f16 => fpConvert 5 10 (fp32 bits)
  | .f32 => bits
  | .uint => toUnorm n (fp32 bits)

/-! ### Resolve (R126, R138) -/

/-- Resolve formats of R150 that a tile format may resolve to (R126). -/
def resolvePair (fmt rfmt : Nat) : Bool :=
  (fmt == 1 && decide (rfmt ≤ 3)) || (fmt == 2 && rfmt == 4) || (fmt == 3 && rfmt == 5) || (fmt == 4 && rfmt == 6) ||
  (fmt == 5 && rfmt == 7) || (fmt == 11 && rfmt == 8) || (fmt == 12 && rfmt == 9)

/-- Bytes per pixel of a resolve format. -/
def resolveBytes (rfmt : Nat) : Nat := if rfmt = 2 then 2 else if rfmt = 5 then 8 else 4

/-- A channel of a pixel at its resolve, as a code of `m` bits of the target's channel: colour of four samples is averaged in FP32, and the
value rounded to nearest even once (R138). -/
def resolveChannel (fmt ch m : Nat) (samples : List Nat) : Nat :=
  match tileChannel fmt ch with
  | none => 0
  | some (lo, n, k) =>
    match samples with
    | [] => 0
    | [v] => if m = n then fld v lo n else chFromFp32 k m (chToFp32 k n (fld v lo n))
    | l => chFromFp32 k m (fpMean4 (l.map (fun v => chToFp32 k n (fld v lo n))))

/-- Channels of a pixel packed from the lowest bit up, as (channel, bits). -/
def packChannels (fmt : Nat) (samples : List Nat) (l : List (Nat × Nat)) : Nat :=
  l.foldr (fun c v => resolveChannel fmt c.1 c.2 samples + 2 ^ c.2 * v) 0

/-- RGBA with R lowest as ARGB8888. -/
def rgbaToArgb (v : Nat) : Nat := fld v 16 8 + 256 * fld v 8 8 + 65536 * fld v 0 8 + 2 ^ 24 * fld v 24 8

/-- ARGB8888 as RGBA with R lowest. -/
def argbToRgba (v : Nat) : Nat := rgbaToArgb v

/-- A pixel in its target format, as a number of the format's width, from its samples' raw values; depth-stencil stores sample 0 (R138).
The ignored byte of XRGB8888 is a free value. -/
def toTarget (fmt rfmt : Nat) (samples : List Nat) : Nat :=
  let p := packChannels fmt samples
  if 10 < fmt then at0 0 samples 0
  else if rfmt = 0 ∨ rfmt = 3 then p [(2, 8), (1, 8), (0, 8), (3, 8)]
  else if rfmt = 1 then
    let v := p [(2, 8), (1, 8), (0, 8)]
    v + 2 ^ 24 * (Sys2Proof.Config.xrgbPad v).toNat
  else if rfmt = 2 then p [(2, 5), (1, 6), (0, 5)]
  else if rfmt = 4 then p [(2, 10), (1, 10), (0, 10), (3, 2)]
  else if rfmt = 5 then p [(0, 16), (1, 16), (2, 16), (3, 16)]
  else if rfmt = 6 then p [(0, 16), (1, 16)]
  else p [(0, 32)]

/-- A code of `n` bits widened to `m` by repeating its bits from the top (R166). -/
def widen (n m v : Nat) : Nat :=
  if n = 0 then 0
  else (List.range m).foldl (fun a i => a * 2 + v / 2 ^ (n - 1 - i % n) % 2) 0

/-- A target pixel as a raw tile value (load operation LOAD, R137). -/
def fromTarget (rfmt p : Nat) : Nat :=
  if rfmt = 0 ∨ rfmt = 3 then argbToRgba p
  else if rfmt = 1 then argbToRgba (setFld p 24 8 0xFF)
  else if rfmt = 2 then
    widen 5 8 (fld p 11 5) + 256 * widen 6 8 (fld p 5 6) + 65536 * widen 5 8 (fld p 0 5) + 2 ^ 24 * 0xFF
  else if rfmt = 4 then fld p 20 10 + 1024 * fld p 10 10 + 2 ^ 20 * fld p 0 10 + 2 ^ 30 * fld p 30 2
  else p

/-! ### FTC (R168, R169) -/

/-- Tile columns of a surface of width `w`. -/
def ftcCols (w : Nat) : Nat := ceilDiv w 64

/-- The size of the header region of an FTC surface, a multiple of 4 KB. -/
def ftcHeaderSize (cols rows : Nat) : Nat := ceilDiv (16 * (cols * rows)) 4096 * 4096

/-- The channels of a sub-block pixel in the order blue, green, red, alpha. -/
def bgra (p : Nat) : List Nat := [fld p 0 8, fld p 8 8, fld p 16 8, fld p 24 8]

/-- The bits a residual needs. -/
def bitsFor (n : Nat) : Nat := if n = 0 then 0 else Nat.log2 n + 1

/-- The 64 pixels of sub-block `b` of a tile's 4,096 pixels in row-major order. -/
def subBlock (px : List Nat) (b : Nat) : List Nat :=
  (List.range 64).map (fun i => at0 0 px ((b / 8 * 8 + i / 8) * 64 + b % 8 * 8 + i % 8))

/-- A packed sub-block: BASE, WIDTH and the residuals (R169). -/
def packSubBlock (px : List Nat) : List Byte :=
  let chan := fun c => px.map (fun p => at0 0 (bgra p) c)
  let base := (List.range 4).map (fun c => ((chan c).foldl min 255))
  let width := (List.range 4).map (fun c => bitsFor ((chan c).foldl max 0 - at0 0 base c))
  let acc := px.foldl (fun a p =>
    (List.range 4).foldl (fun (b : Nat × Nat) c =>
      (b.1 + (at0 0 (bgra p) c - at0 0 base c) * 2 ^ b.2, b.2 + at0 0 width c)) a) (0, 0)
  leBytes 4 (leVal (base.map (BitVec.ofNat 8))) ++
    leBytes 2 (at0 0 width 0 + 16 * at0 0 width 1 + 256 * at0 0 width 2 + 4096 * at0 0 width 3) ++
    leBytes (ceilDiv acc.2 8) acc.1

/-- A tile as FTC writes it (R169): its header words 0 and 1, and the bytes of its data slot. -/
def ftcEncode (px : List Nat) : Nat × Nat × List Byte :=
  let p0 := at0 0 px 0
  if px.all (· == p0) then ((Sys2Proof.Config.solidLen p0).val + 1 + 512 * 2, p0, [])
  else
    let packed := (List.range 64).flatMap (fun b => packSubBlock (subBlock px b))
    let len := ceilDiv packed.length 64
    if len * 64 < 16384 then (len + 512, 0, packed ++ List.replicate (len * 64 - packed.length) 0)
    else (256, 0, px.flatMap (leBytes 4))

/-- The pixels of a packed tile's sub-blocks, from the sub-block at the head of `bs`. -/
def unpackBlocks : Nat → List Byte → List (List Nat)
  | 0, _ => []
  | n + 1, bs =>
    let base := (bs.take 4).map BitVec.toNat
    let w := leVal (slice bs 4 2)
    let width := (List.range 4).map (fun c => min 8 (fld w (4 * c) 4))
    let total := width.sum
    let len := ceilDiv (64 * total) 8
    let body := leVal (slice bs 6 len)
    let pix := (List.range 64).map (fun i =>
      let off := i * total
      let r := (List.range 4).foldl (fun (a : List Nat × Nat) c =>
        (a.1 ++ [(at0 0 base c + fld body a.2 (at0 0 width c)) % 256], a.2 + at0 0 width c)) ([], off)
      at0 0 r.1 0 + 256 * at0 0 r.1 1 + 65536 * at0 0 r.1 2 + 2 ^ 24 * at0 0 r.1 3)
    pix :: unpackBlocks n (bs.drop (6 + len))

/-- A tile's 4,096 pixels from its header words and its data slot, unless the header is one that shows transparent black
(R168). -/
def ftcDecode (w0 w1 : Nat) (data : List Byte) : Option (List Nat) :=
  let len := fld w0 0 9
  let mode := fld w0 9 2
  if mode = 3 ∨ len = 0 ∨ 256 < len then none
  else if mode = 2 then some (List.replicate 4096 w1)
  else
    let bs := data.take (64 * len)
    if mode = 0 then some (wordsOf bs 4096)
    else
      let blocks := unpackBlocks 64 bs
      some ((List.range 4096).map (fun i =>
        let y := i / 64
        let x := i % 64
        at0 0 (at0 [] blocks (y / 8 * 8 + x / 8)) (y % 8 * 8 + x % 8)))

end Sys2Proof.Machine
end

