-- ==== Sys2Proof/Machine/Pixel.lean ====
section
/-! DEFINITION. The path of a pixel through a composition slice and a head (R166–R176, R195, R209, R230, R475): a pixel is a
list of 12-bit codes, three colour channels (or Y, Cb, Cr) and alpha. -/

namespace Sys2Proof.Machine

/-- The greatest channel code, which is 1.0 (R475). -/
def codeMax : Nat := 4095

/-- The product of two fractions (R475). -/
def mulFrac (a b : Nat) : Nat := divNearest (a * b) codeMax

/-- A value clamped to a channel code. -/
def toCode (x : Int) : Nat := (clampI 0 (codeMax : Int) x).toNat

/-- Transparent black. -/
def clearPixel : List Nat := [0, 0, 0, 0]

/-- The colour of an XRGB8888 word as 12-bit red, green, blue. -/
def rgbOf (w : Nat) : List Nat := [widen 8 12 (fld w 16 8), widen 8 12 (fld w 8 8), widen 8 12 (fld w 0 8)]

/-- The pixel of an ARGB8888 word. -/
def argbOf (w : Nat) : List Nat := rgbOf w ++ [widen 8 12 (fld w 24 8)]

/-- The pixel of an ARGB2101010 word. -/
def argb10Of (w : Nat) : List Nat :=
  [widen 10 12 (fld w 20 10), widen 10 12 (fld w 10 10), widen 10 12 (fld w 0 10), widen 2 12 (fld w 30 2)]

/-! ### Fetch and expand -/

/-- Where a facet's pixels come from: a byte reader and the layout of R167, with the source rectangle. -/
structure Source where
  byte : Nat → Byte
  fmt : Nat
  addr : Nat
  addr2 : Nat
  pitch : Nat
  x : Nat
  y : Nat
  w : Nat
  h : Nat

/-- A little-endian number of `n` bytes at `a`. -/
def Source.num (r : Source) (a n : Nat) : Nat := leVal ((rangeFrom a n).map r.byte)

/-- Fetch bytes per pixel times 2 (R167). -/
def fetchBytes2 (fmt : Nat) : Nat :=
  if fmt = 2 ∨ fmt = 7 then 4 else if fmt = 4 then 16 else if fmt = 5 then 3 else if fmt = 6 then 6 else 8

/-- The width factor of a format (R167). -/
def widthFactor (fmt : Nat) : Nat := if fmt = 4 then 2 else 1

/-- Whether a format is YUV. -/
def isYuv (fmt : Nat) : Bool := fmt == 5 || fmt == 6 || fmt == 7

/-- A luma code of NV12, P010 or YUYV at buffer pixel (x, y). -/
def Source.luma (r : Source) (x y : Nat) : Nat :=
  let row := r.addr + y * r.pitch * 64
  if r.fmt = 5 then widen 8 12 (r.num (row + x) 1)
  else if r.fmt = 6 then widen 10 12 (r.num (row + 2 * x) 2 / 64)
  else widen 8 12 (r.num (row + 2 * x) 1)

/-- A chroma code (`v` 0 Cb, 1 Cr) at chroma position (cx, cy), held within the source rectangle. -/
def Source.chroma (r : Source) (v : Nat) (cx cy : Int) : Nat :=
  let x := (clampI (r.x / 2 : Nat) ((r.x + r.w) / 2 - 1 : Nat) cx).toNat
  if r.fmt = 7 then
    let y := (clampI (r.y : Int) ((r.y + r.h - 1 : Nat) : Int) cy).toNat
    widen 8 12 (r.num (r.addr + y * r.pitch * 64 + 4 * x + 1 + 2 * v) 1)
  else
    let y := (clampI (r.y / 2 : Nat) ((r.y + r.h) / 2 - 1 : Nat) cy).toNat
    let row := r.addr2 + y * r.pitch * 64
    if r.fmt = 5 then widen 8 12 (r.num (row + 2 * x + v) 1) else widen 10 12 (r.num (row + 4 * x + 2 * v) 2 / 64)

/-- Chroma upsampled to a luma position by linear interpolation, rounded once (R167). -/
def Source.chromaAt (r : Source) (v x y : Nat) : Nat :=
  let cx : Int := (x / 2 : Nat)
  let row := fun (cy : Int) =>
    if x % 2 = 0 then 2 * r.chroma v cx cy else r.chroma v cx cy + r.chroma v (cx + 1) cy
  if r.fmt = 7 then divNearest (row (y : Nat)) 2
  else
    let cy : Int := (y / 2 : Nat)
    divNearest (3 * row cy + row (if y % 2 = 0 then cy - 1 else cy + 1)) 8

/-- A binary16 channel clamped to 0.0–1.0, NaN as 0.0 (R166). -/
def halfCode (bits : Nat) : Nat := toUnorm 12 (fp16 bits)

/-- The pixels of the FTC tile that holds buffer pixel (x, y); `none` for one shown as transparent black (R168). TYN is taken
from the bottom edge of the source rectangle. DEDUCED: log 92. -/
def Source.ftcTile (r : Source) (x y : Nat) : Option (List Nat) :=
  let rows := ceilDiv (r.y + r.h) 64
  let t := y / 64 * r.pitch + x / 64
  let w0 := r.num (r.addr + 16 * t) 4
  let slot := r.addr + ftcHeaderSize r.pitch rows + 16384 * t
  ftcDecode w0 (r.num (r.addr + 16 * t + 4) 4) ((rangeFrom slot (64 * min 256 (fld w0 0 9))).map r.byte)

/-- The expanded pixel at buffer position (x, y) (R166, R167). -/
def Source.expand (r : Source) (x y : Nat) : List Nat :=
  let row := r.addr + y * r.pitch * 64
  if r.fmt = 0 then argbOf (r.num (row + 4 * x) 4)
  else if r.fmt = 1 then rgbOf (r.num (row + 4 * x) 4) ++ [codeMax]
  else if r.fmt = 2 then
    let w := r.num (row + 2 * x) 2
    [widen 5 12 (fld w 11 5), widen 6 12 (fld w 5 6), widen 5 12 (fld w 0 5), codeMax]
  else if r.fmt = 3 then argb10Of (r.num (row + 4 * x) 4)
  else if r.fmt = 4 then (List.range 4).map (fun c => halfCode (r.num (row + 8 * x + 2 * c) 2))
  else if r.fmt = 8 then
    match r.ftcTile x y with
    | some px => argbOf (at0 0 px (y % 64 * 64 + x % 64))
    | none => clearPixel
  else [r.luma x y, r.chromaAt 0 x y, r.chromaAt 1 x y, codeMax]

/-- The expanded pixel after the premultiply stage: ALPHA_MODE 0 multiplies, 1 passes, 2 takes alpha as 1.0 (R166, R170). -/
def premultiply (mode : Nat) (p : List Nat) : List Nat :=
  let a := at0 0 p 3
  if mode = 0 then (p.take 3).map (mulFrac · a) ++ [a] else if mode = 1 then p else p.take 3 ++ [codeMax]

/-- A source row as the slice fetches it: its pixels over the width of the source rectangle, expanded. -/
def Source.row (r : Source) (y : Nat) : List (List Nat) :=
  if r.fmt = 8 then
    let tiles := (rangeFrom (r.x / 64) (ceilDiv (r.x + r.w) 64 - r.x / 64)).map (fun c => r.ftcTile (64 * c) (r.y + y))
    (List.range r.w).map (fun i =>
      let x := r.x + i
      match at0 none tiles (x / 64 - r.x / 64) with
      | some px => argbOf (at0 0 px ((r.y + y) % 64 * 64 + x % 64))
      | none => clearPixel)
  else (List.range r.w).map (fun i => r.expand (r.x + i) (r.y + y))

/-- A pixel of a rectangle of `w` × `h`, edges repeated (R174). -/
def edgeAt (w h : Nat) (px : Nat → Nat → List Nat) (x y : Int) : List Nat :=
  px (clampI 0 ((w - 1 : Nat) : Int) x).toNat (clampI 0 ((h - 1 : Nat) : Int) y).toNat

/-! ### The scaler (R174–R176) -/

/-- A coefficient of a scaler set of 1,536 bytes, in units of 1/256. -/
def scalerTap (set : List Byte) (horizontal : Bool) (phase tap : Nat) : Int :=
  let off := if horizontal then 2 * (8 * phase + tap) else 1024 + 2 * (4 * phase + tap)
  toInt 16 (leVal (slice set off 2))

/-- The source samples averaged into one when the ratio `src / dst` exceeds 1. -/
def groupSize (src dst : Nat) : Nat := if src ≤ dst then 1 else ceilDiv src dst

/-- The source position of output sample `x`, in 1/65,536 of an averaged sample. -/
def scalePos (src dst x : Nat) : Int :=
  let k := groupSize src dst
  let num : Int := (((2 * x + 1) * src : Nat) : Int) - ((dst * k : Nat) : Int)
  roundFree (num * 65536) (2 * dst * k)

/-- The parts of a channel code that the scaler accumulates in: 24-bit fractions (R166). -/
def scalerUnit : Nat := 4096

/-- The mean of a group of samples at the scaler's precision, channel by channel. -/
def meanSample (ps : List (List Int)) : List Int :=
  (List.range 4).map (fun c => roundNearest ((ps.map (fun p => at0 0 p c)).foldl (· + ·) 0) ps.length)

/-- A weighted sum of samples with weights in units of 1/256, at the scaler's precision. -/
def weighted (ws : List Int) (ps : List (List Int)) : List Int :=
  (List.range 4).map (fun c => roundNearest ((ws.zip ps).foldl (fun a q => a + q.1 * at0 0 q.2 c) 0) 256)

/-- One direction of the scaler: `f i` is source sample `i`, `taps` 4 or 8, the first tap at ⌊s⌋ − (taps / 2 − 1). Samples are in
1/4,096 of a code and are neither rounded to a code nor clamped between the stages. DEDUCED: log 211. -/
def scaleOne (set : List Byte) (horizontal : Bool) (src dst x : Nat) (f : Int → List Int) : List Int :=
  if src = dst then f (x : Int)
  else
    let taps := if horizontal then 8 else 4
    let k := groupSize src dst
    let s := scalePos src dst x
    let base := s / 65536
    let phase := (s % 65536).toNat / 1024
    let group := fun (g : Int) =>
      if k = 1 then f g else meanSample ((List.range k).map (fun (i : Nat) => f (g * (k : Int) + (i : Int))))
    weighted ((List.range taps).map (scalerTap set horizontal phase))
      ((List.range taps).map (fun (t : Nat) => group (base - ((taps / 2 - 1 : Nat) : Int) + (t : Int))))

/-- The scaled pixel at a position within the destination rectangle: vertical first, then horizontal, then rounded to codes and
clamped. `px` is a pixel of the source rectangle of `w` × `h`. -/
def scaledPixel (px : Nat → Nat → List Nat) (w h : Nat) (set : List Byte) (dw dh x y : Nat) : List Nat :=
  (scaleOne set true w dw x (fun sx => scaleOne set false h dh y (fun sy =>
    (edgeAt w h px sx sy).map (fun c => ((scalerUnit * c : Nat) : Int))))).map (fun c => toCode (roundNearest c scalerUnit))

/-! ### Warping (R207–R209) -/

/-- A coefficient of a warp. -/
def Warp.c (d : Warp) (i : Nat) : Int := at0 0 d.num i

/-- D = X · M⁻¹ of two transforms with 16 fractional bits: the 2 × 2 part in 1 / den, the translation in 1 / (65,536 · den).
`none` when M has determinant 0. -/
def warpOf (x m : List Int) : Option Warp :=
  let e := fun (l : List Int) i => at0 0 l i
  let det := e m 0 * e m 4 - e m 1 * e m 3
  if det = 0 then none
  else
    let mul := fun (a b : Int) => [a * e m 4 - b * e m 3, b * e m 0 - a * e m 1,
      a * (e m 1 * e m 5 - e m 2 * e m 4) + b * (e m 2 * e m 3 - e m 0 * e m 5)]
    let r0 := mul (e x 0) (e x 1)
    let r1 := mul (e x 3) (e x 4)
    some { num := [at0 0 r0 0, at0 0 r0 1, at0 0 r0 2 + e x 2 * det, at0 0 r1 0, at0 0 r1 1, at0 0 r1 2 + e x 5 * det],
           den := det }

/-- The warp with a positive denominator. -/
def Warp.pos (d : Warp) : Warp := if d.den < 0 then { num := d.num.map (- ·), den := -d.den } else d

/-- Whether a warp is within 1/65,536 of the identity in every coefficient (R208). -/
def Warp.nearIdentity (w : Warp) : Bool :=
  let d := w.pos
  let small := fun (x : Int) => decide (x.natAbs * 65536 ≤ d.den.natAbs)
  small (d.c 0 - d.den) && small (d.c 1) && small (d.c 3) && small (d.c 4 - d.den) &&
    decide ((d.c 2).natAbs ≤ d.den.natAbs) && decide ((d.c 5).natAbs ≤ d.den.natAbs)

/-- Whether both singular values of the 2 × 2 part lie in 0.5–2.0 (R208): their squares are the roots of λ² − Tλ + Δ, and
both lie in 1/4–4 when the polynomial is not negative there and T lies between the bounds' sums. -/
def Warp.inLimits (w : Warp) : Bool :=
  let q := w.den * w.den
  let t := w.c 0 * w.c 0 + w.c 1 * w.c 1 + w.c 3 * w.c 3 + w.c 4 * w.c 4
  let det := w.c 0 * w.c 4 - w.c 1 * w.c 3
  let d := det * det
  decide (0 ≤ q * q - 4 * (t * q) + 16 * d) && decide (0 ≤ 16 * (q * q) - 4 * (t * q) + d) &&
    decide (q ≤ 2 * t) && decide (t ≤ 8 * q)

/-- The source position of destination pixel (x, y) as an unscaled ratio gives it, in 1/65,536 buffer pixels, pixel i
centred at i + 0.5. -/
def ratioPos (off src dst x : Nat) : Int := (off * 65536 : Nat) + roundFree (((2 * x + 1) * src * 65536 : Nat) : Int) (2 * dst)

/-- The sample position of a destination pixel under a warp in one direction, in 1/256 source pixels: `i` is 0 for columns and 3 for
rows, `px` and `py` the position the ratios give (R209). -/
def Warp.sample (w : Warp) (i : Nat) (px py : Int) : Int :=
  let d := w.pos
  roundFree ((d.c i * px + d.c (i + 1) * py + d.c (i + 2)) * 256 - 32768 * 256 * d.den) (65536 * d.den.toNat)

/-- The warped pixel at a position within the destination rectangle: bilinear with weights of 8 fractional bits, transparent black
outside the source rectangle of `w` × `h` at (`ox`, `oy`) of the buffer (R209). -/
def warpedPixel (px : Nat → Nat → List Nat) (ox oy w h : Nat) (d : Warp) (dw dh x y : Nat) : List Nat :=
  let qx := d.sample 0 (ratioPos ox w dw x) (ratioPos oy h dh y)
  let qy := d.sample 3 (ratioPos ox w dw x) (ratioPos oy h dh y)
  let fx := (qx % 256).toNat
  let fy := (qy % 256).toNat
  let p := fun (i j : Int) =>
    let sx := qx / 256 + i - (ox : Int)
    let sy := qy / 256 + j - (oy : Int)
    if 0 ≤ sx ∧ sx < (w : Int) ∧ 0 ≤ sy ∧ sy < (h : Int) then px sx.toNat sy.toNat else clearPixel
  (List.range 4).map (fun c =>
    divNearest ((256 - fy) * ((256 - fx) * at0 0 (p 0 0) c + fx * at0 0 (p 1 0) c) +
      fy * ((256 - fx) * at0 0 (p 0 1) c + fx * at0 0 (p 1 1) c)) 65536)

/-! ### Matrices, blending, the LUT -/

/-- A 3 × 4 matrix in units of 1/4,096: nine coefficients, then three offsets (R171). -/
def applyMatrix (m : List Int) (p : List Nat) (a : Nat) : List Nat :=
  (List.range 3).map (fun i =>
    let sum := (List.range 3).foldl (fun t j => t + at0 0 m (3 * i + j) * ((at0 0 p j : Nat) : Int)) 0
    toCode (roundNearest (sum + at0 0 m (9 + i) * ((a : Nat) : Int)) 4096))

/-- The identity matrix. -/
def identityMatrix : List Int := [4096, 0, 0, 0, 4096, 0, 0, 0, 4096, 0, 0, 0]

/-- BT.709 limited range to RGB (R171). -/
def bt709 : List Int := [4769, 0, 7343, 4769, -873, -2183, 4769, 8652, 0, -3985, 1235, -4642]

/-- Cd' = g × Cs + (1 − g × as) × Cd, with g = `ga` / 255 (R170). -/
def blend (ga : Nat) (p cd : List Nat) : List Nat :=
  let keep := codeMax - divNearest (ga * at0 0 p 3) 255
  (List.range 3).map (fun i => min codeMax (divNearest (ga * at0 0 p i) 255 + mulFrac keep (at0 0 cd i)))

/-- A channel through a loaded LUT of 1,024 entries at byte offset `off` (R172). -/
def lutValue (t : List Byte) (off x : Nat) : Nat :=
  let e := fun i => leVal (slice t (off + 2 * min i 1023) 2)
  let i := x / 4
  toCode (roundNearest (4 * (e i : Int) + ((e (i + 1) : Int) - (e i : Int)) * ((x % 4 : Nat) : Int)) 4)

/-- A colour through the LUT slot in use: slot 0 is the identity (R172). -/
def lutPixel (slot : Option (List Byte)) (p : List Nat) : List Nat :=
  match slot with
  | none => p
  | some t => (List.range 3).map (fun c => lutValue t (2048 * c) (at0 0 p c))

/-- The word a check-value tap folds for a pixel (R254). -/
def tapWord (p : List Nat) : Nat := at0 0 p 0 / 4 * 2 ^ 20 + at0 0 p 1 / 4 * 1024 + at0 0 p 2 / 4

/-- A channel reduced to `bpc` bits at the port (R230): rounded to nearest with ties upward, or with the dither entry added
before truncation; both saturate. -/
def reduceDepth (dither bpc col line x : Nat) : Nat :=
  let d := 12 - bpc
  let add := if dither = 0 then 2 ^ (d - 1) else Sys2Proof.Config.bayer d (col % 4) (line % 4) % 2 ^ d
  min (2 ^ bpc - 1) ((x + add) / 2 ^ d)

/-! ### The filigree table (R193, R195) -/

/-- A band: its lines, its steps as (facet, X0, X1), LAST, and whether its own structure is faulty. -/
structure Band where
  lines : Nat := 0
  steps : List (Nat × Nat × Nat) := []
  last : Bool := false
  bad : Bool := false
  deriving DecidableEq, Repr

/-- The bands of a bank's entries; at most `fuel` are read. -/
def bandsOf : Nat → List Nat → List Band
  | 0, _ => []
  | _, [] => []
  | fuel + 1, b :: r =>
    let n := fld b 16 4
    let steps := (r.take n).map (fun e => (fld e 0 3, fld e 16 14, fld e 32 14))
    let bad := decide (8 < n) || decide (r.length < n) || !bitOf b 63 || (r.take n).any (fun e => bitOf e 63)
    { lines := fld b 0 16, steps := steps, last := bitOf b 20, bad := bad } :: bandsOf fuel (r.drop n)

/-- The entry of a band. -/
def bandEntry (lines steps : Nat) (last : Bool) : Nat := lines + 65536 * steps + 2 ^ 20 * b2n last + 2 ^ 63

/-- The entry of a step. -/
def stepEntry (f alpha x0 x1 : Nat) : Nat := f + 8 * alpha + 65536 * x0 + 2 ^ 32 * x1

/-- The steps that contribute to a line, `none` when the sequencer meets a structural fault at or before it. `ok f` tells an
enabled facet. -/
def stepsAt (ok : Nat → Bool) (width height line : Nat) : List Band → Nat → Option (List (Nat × Nat × Nat))
  | [], _ => none
  | b :: r, y =>
    let bad := b.bad || b.steps.any (fun t => decide (t.2.2 < t.2.1) || decide (width ≤ t.2.2) || !ok t.1) ||
      decide (height < y + b.lines) || (b.last && decide (y + b.lines < height) && decide (y + b.lines ≤ line)) ||
      (!b.last && r.isEmpty)
    if bad then none
    else if line < y + b.lines then some b.steps
    else if b.last then none
    else stepsAt ok width height line r (y + b.lines)

end Sys2Proof.Machine
end

