-- ==== Sys2Proof/Machine/Wake.lean ====
section
/-! DEFINITION. Power switching as every chapter asks for it (R15, R418, R421, R422): one domain changes at a time, requests
wait in the order PD2, PD13, PD12, then ascending, and a domain's prerequisites come first. -/

namespace Sys2Proof.Machine

/-- The domain a domain depends on, nearest first (R15). -/
def prereqs (d : Nat) : List Nat :=
  if 3 ≤ d ∧ d ≤ 6 then [2, 0] else if d = 8 then [7, 0] else if d = 0 then [] else [0]

/-- The domains that depend on a domain (R15). -/
def dependents (d : Nat) : List Nat :=
  if d = 0 then rangeFrom 1 15 else if d = 2 then [3, 4, 5, 6] else if d = 7 then [8] else []

/-- The place of a domain in the order of R421. -/
def switchRank (d : Nat) : Nat := if d = 2 then 0 else if d = 13 then 1 else if d = 12 then 2 else 3 + d

/-- STATE of a domain (R427). -/
def pdState (s : State) (d : Nat) : Nat := rd s (E.pd_STATE d)

/-- Whether some domain is changing (R421). -/
def pdChanging (s : State) : Bool := (List.range 16).any (fun d => pdState s d == 1 || pdState s d == 3)

/-- The request that is served next: lowest in the order of R421 among those whose order R15 allows; a domain
stays on while one that depends on it waits to power up. -/
def pickSwitch (s : State) : List Switch → Option Switch
  | [] => none
  | q :: r =>
    let ok := if q.on then (prereqs q.domain).all (pdOn s) else (dependents q.domain).all (fun d => pdState s d == 0 &&
      !s.power.queue.any (fun r => r.on && r.domain == d))
    match pickSwitch s r with
    | some p => if ok && decide (switchRank q.domain ≤ switchRank p.domain) then some q else some p
    | none => if ok then some q else none

/-- The next queued change starts when none is in progress (R421): a domain powers up (STATE 1) or drains (STATE 3). A
power-up that a wake event caused counts in WAKES (R427). -/
def startSwitch (s : State) : State :=
  if pdChanging s then s
  else
    match pickSwitch s s.power.queue with
    | none => s
    | some q =>
      let s1 := { s with power := { s.power with queue := s.power.queue.filter (fun x => x.domain != q.domain) } }
      if q.on then
        if pdState s q.domain = 0 then
          let s2 := wr s1 (E.pd_STATE q.domain) 1
          if q.row = 0 then s2 else wr (bump s2 (E.pd_WAKES q.domain)) (E.pd_LAST_WAKE q.domain) q.row
        else s1
      else if pdState s q.domain = 2 then wr s1 (E.pd_STATE q.domain) 3 else s1

/-- A switch request enters the queue, replacing one of the same domain. -/
def queueSwitch (s : State) (q : Switch) : State :=
  { s with power := { s.power with queue := s.power.queue.filter (fun x => x.domain != q.domain) ++ [q] } }

/-- Whether a domain that is on waits to switch off: its request is queued, or its quadrant drains (R145, R421). -/
def offPending (s : State) (d : Nat) : Bool :=
  pdState s d == 2 && (s.power.queue.any (fun q => q.domain == d && !q.on) ||
    (decide (3 ≤ d) && decide (d ≤ 6) && s.raster.draining.contains (d - 3)))

/-- A switch-off that has not begun is given up. -/
def cancelOff (s : State) (d : Nat) : State :=
  if offPending s d then
    { s with power := { s.power with queue := s.power.queue.filter (fun q => q.domain != d || q.on) },
             raster := { s.raster with draining := s.raster.draining.filter (fun q => q + 3 != d) } }
  else s

/-- A domain and the domains it depends on are asked to power up, those that are not on already; one of them that waits to switch off
stays on (R15, R421, R422). -/
def requestOn (s : State) (d row : Nat) : State :=
  let s1 := (d :: prereqs d).foldl cancelOff s
  let need := (d :: prereqs d).filter (fun x => pdState s x != 2 && pdState s x != 1)
  startSwitch (need.foldl (fun t x => queueSwitch t { domain := x, on := true, row := row }) s1)

/-- A wake event of row `row` of R422 for a domain: it powers up an AUTO domain that is off or draining, or waits to switch off
(R418). -/
def wake (s : State) (d row : Nat) : State :=
  if rd s (E.pd_MODE d) = 1 ∧ (pdState s d = 0 ∨ pdState s d = 3 ∨ offPending s d) then requestOn s d row else s

end Sys2Proof.Machine
end

