-- ==== Sys2Proof/Machine/Clasps.lean ====
section
/-! DEFINITION. Clasp windows, internal clasps and the Delbel queue mode (R48–R67): writes and reads of a window, the stage-1
check, takes, answers, and the group-0 opcodes. -/

namespace Sys2Proof.Machine

/-! ### PCIe functions -/

/-- A function answers with Request Retry Status during boot until step 6, during its Function Level Reset, and while its
virtual function is being disabled (R477). -/
def retrying (s : State) (f : Nat) : Bool :=
  !s.ten.endpoint || (guestRec s f).flr || (guestRec s f).disabling

/-- A function that serves memory requests: its guest exists and it is not retrying (R21, R477). -/
def serving (s : State) (f : Nat) : Bool := guestExists s f && !retrying s f && pdOn s 15

/-! ### Clasp fields -/

/-- Request word `i` of a clasp. -/
def reqWord (k : Clasp) (i : Nat) : Nat := tget (fun _ => 0) k.req i

/-- The clasp with request word `i` replaced. -/
def setReqWord (k : Clasp) (i v : Nat) : Clasp := { k with req := tset (fun _ => 0) k.req i v }

/-- The clasp with one more discarded write counted, saturating at 0xFFFF (R53). -/
def discardOne (k : Clasp) : Clasp := { k with discards := min (k.discards + 1) 0xFFFF }

/-- The group of an opcode (R54). -/
def opGroup (op : Nat) : Nat := op / 4096 % 16

/-- A complete message of a Delbel request queue: its header and its COUNT words (R67). -/
def dqMessageLen (q : List Nat) : Option Nat :=
  match q with
  | [] => none
  | h :: _ => if fld h 16 3 + 1 ≤ q.length then some (fld h 16 3 + 1) else none

/-- The number of complete messages in a Delbel request queue of at most 8 words. -/
def dqMessages : Nat → List Nat → Nat
  | 0, _ => 0
  | n + 1, q =>
    match dqMessageLen q with
    | some m => 1 + dqMessages n (q.drop m)
    | none => 0

/-! ### Stage 1 (R28) -/

/-- Stage 1 of a request: enabled client, group not reserved, engine bit. It gives the verdict (0 passed, 1 DENIED,
2 BAD_OPCODE) and the violation kind. The range check has passed before it is asked. In Delbel mode only groups 0, 3, 5
and 6 count as allocated (R67). -/
def stage1 (s : State) (c op : Nat) (delbel : Bool) : Nat × Nat :=
  let g := opGroup op
  if ¬ charmEn s c then (1, 0x07)
  else if 10 ≤ g ∨ (delbel ∧ g ≠ 0 ∧ g ≠ 3 ∧ g ≠ 5 ∧ g ≠ 6) then (2, 0)
  else if g ≠ 0 ∧ ¬ engineRight s c (g - 1) then (1, 0x06)
  else (0, 0)

/-- The stage-1 check with its violation, entered with PATH 0 at the window offset of the word that handed the request
over (R28, R37, R39). -/
def stage1Check (s : State) (c op off : Nat) (delbel : Bool) : State × Nat × Nat :=
  let v := stage1 s c op delbel
  if v.1 = 1 then (violate s v.2 0 (c * 4096 + off) (some c) (guestOf s c), v) else (s, v)

/-! ### Writes of a window (R50–R53, R66, R67) -/

/-- The bytes of a write that fall on word `i` of the window, over the word's old value; `none` where none is enabled. -/
def wordOver (off : Nat) (bytes : List (Option Byte)) (i old : Nat) : Option Nat :=
  let bs := (List.range 4).map (fun b => if 4 * i + b < off then none else at0 none bytes (4 * i + b - off))
  if bs.all Option.isNone then none
  else some ((List.range 4).foldl (fun v b =>
    match at0 none bs b with
    | some x => setFld v (8 * b) 8 x.toNat
    | none => v) old)

/-- Whether a part of a write enables a byte of words `lo` to `hi`. -/
def touchesWords (off : Nat) (bytes : List (Option Byte)) (lo hi : Nat) : Bool :=
  (rangeFrom lo (hi + 1 - lo)).any (fun i => (wordOver off bytes i 0).isSome)

/-- GO is set: the request block is the device's, and stage 1 is checked against the charm as it stands (R28, R52). GO is
a wake event for PD2 (R64). -/
def setGo (s : State) (c : Nat) : State :=
  let k := claspOf s c
  let r := stage1Check s c (fld (reqWord k 0) 0 16) 0x3C false
  wake (setClasp r.1 c { k with go := true, verdict := r.2.1, vkind := r.2.2 }) 2 1

/-- A write part on the request block in native form: discarded and counted while GO is 1, else every enabled byte of words
0 to 14 is applied before a GO written in word 15 (R51–R53). -/
def writeRequest (s : State) (c off : Nat) (bytes : List (Option Byte)) : State :=
  let k := claspOf s c
  if k.go then setClasp s c (discardOne k)
  else
    let k1 := (List.range 15).foldl (fun a i =>
      match wordOver off bytes i (reqWord a i) with
      | some v => setReqWord a i v
      | none => a) k
    let s1 := setClasp s c k1
    match wordOver off bytes 15 0 with
    | some v => if bitOf v 31 then setGo s1 c else s1
    | none => s1

/-- Whether MODE may change (R66); a taken Delbel message counts as a PENDING request. DEDUCED: log 25. -/
def modeFree (k : Clasp) : Bool := !k.go && k.state != 1 && k.dqReq.isEmpty && k.dqRsp.isEmpty && k.taken.isNone

/-- A write of the configuration word 0x084: VECTOR, IRQ_EN and MODE. A change of MODE empties both blocks and clears OVF and UNF,
which stay 0 in native form; one that R66 does not allow keeps the old value and counts in DISCARDS. -/
def writeConfig (s : State) (c : Nat) (v : Nat) : State :=
  let k := claspOf s c
  let k1 := { k with irqEn := bitOf v 8, vector := some (fld v 0 6) }
  let m := bitOf v 12
  setClasp s c
    (if m = k.mode then k1
    else if modeFree k then
      { k1 with mode := m, req := [], seq := 0, state := 0, rlen := 0, rtag := 0, code := 0, kind := 0, data := [],
                full := false, ovf := false, unf := false }
    else discardOne k1)

/-- The configuration word 0x084 as it reads. -/
def configWord (s : State) (g c : Nat) : Nat :=
  let k := claspOf s c
  claspVector s g c + 256 * b2n k.irqEn + 4096 * b2n k.mode

/-- A word is pushed to the Delbel request queue (R67): to a full one it is discarded, sets OVF and counts; the last word of
a message brings the message's stage-1 check. -/
def pushWord (s : State) (c w : Nat) : State :=
  let k := claspOf s c
  if 8 ≤ k.dqReq.length then setClasp s c (discardOne { k with ovf := true })
  else
    let q := k.dqReq ++ [w]
    let n0 := dqMessages 8 k.dqReq
    if n0 < dqMessages 8 q then
      let before := (List.range n0).foldl (fun r _ => r.drop ((dqMessageLen r).getD 1)) q
      let r := stage1Check s c (fld (at0 0 before 0) 0 16) 0xC0 true
      wake (setClasp r.1 c { k with dqReq := q, dqVerdict := k.dqVerdict ++ [r.2] }) 2 1
    else setClasp s c { k with dqReq := q }

/-- One part of a write TLP on a live window: the bytes at window offset `off`, all within one 64-byte line. -/
def writePart (s : State) (g c off : Nat) (bytes : List (Option Byte)) : State :=
  let k := claspOf s c
  let p := off / 64
  if bytes.all Option.isNone then s
  else if p = 0 then
    if k.mode then setClasp s c (discardOne k) else writeRequest s c off bytes
  else if p = 1 then
    if k.mode then setClasp s c (discardOne k) else s
  else if p = 2 then
    let s1 := match wordOver off bytes 0x21 (configWord s g c) with
      | some v => writeConfig s c v
      | none => s
    let k1 := claspOf s1 c
    let s2 := match wordOver off bytes 0x23 0 with
      | some v => setClasp s1 c { k1 with event := Nat.land k1.event (0xFFFF - v % 65536) }
      | none => s1
    let k2 := claspOf s2 c
    match wordOver off bytes 0x24 k2.eventEn with
    | some v =>
      let s3 := setClasp s2 c { k2 with eventEn := v % 65536 }
      if Nat.land k2.event k2.eventEn = 0 ∧ Nat.land k2.event (v % 65536) ≠ 0 then claspIrq s3 c else s3
    | none => s2
  else if p = 3 then
    let s1 := match wordOver off bytes 0x30 0 with
      | some w => if k.mode then pushWord s c w else s
      | none => s
    match wordOver off bytes 0x32 0 with
    | some v =>
      let k1 := claspOf s1 c
      setClasp s1 c { k1 with ovf := k1.ovf && !bitOf v 16, unf := k1.unf && !bitOf v 17 }
    | none => s1
  else s

/-- Whether a write part sets GO in word 15. -/
def writesGo (off : Nat) (bytes : List (Option Byte)) : Bool :=
  decide (off / 64 = 0) && (match wordOver off bytes 15 0 with | some v => bitOf v 31 | none => false)

/-- A write part on a window of function `g` (R49): a window outside the guest's range ignores it, and one that sets GO
there enters a violation of kind 0x07; while RESET_CLIENT names the client, writes are ignored (R65). -/
def windowPart (s : State) (g c off : Nat) (bytes : List (Option Byte)) : State :=
  if ¬ inRange s g c then
    if writesGo off bytes then violate s 0x07 0 (c * 4096 + 0x3C) (some c) (some g) else s
  else if rd s (E.guest_RESET_CLIENT g) = c then s
  else writePart s g c off bytes

/-- The parts of a TLP: it is split at every 64-byte boundary of the window, in address order (R51). -/
def splitParts {α : Type} (off : Nat) (bytes : List α) : List (Nat × List α) :=
  (List.range (bytes.length / 64 + 2)).map (fun i =>
    let lo := if i = 0 then off else (off / 64 + i) * 64
    let hi := (off / 64 + i + 1) * 64
    (lo, slice bytes (lo - off) (hi - lo)))

/-- A BAR0 write of `bytes` (with their byte enables) at offset `off` of a client's window through function `f`. A function
that does not serve discards it (R477). -/
def bar0Write (s : State) (f c off : Nat) (bytes : List (Option Byte)) : State :=
  if serving s f then (splitParts off bytes).foldl (fun t p => windowPart t f c p.1 p.2) s else s

/-- A word as enabled bytes. -/
def enabled (n v : Nat) : List (Option Byte) := (leBytes n v).map some

/-! ### Reads of a window (R50, R60) -/

/-- The result header, word 0 of the result block (R60). -/
def headerWord (k : Clasp) : Nat := k.seq + 65536 * k.state + 2 ^ 24 * k.rlen

/-- CLASP_STATUS in native form and in Delbel mode (R50, R66). -/
def statusWord (k : Clasp) : Nat :=
  if k.mode then b2n (0 < dqMessages 8 k.dqReq) + 2 * b2n (!k.dqRsp.isEmpty)
  else b2n k.go + 2 * b2n k.full + 16 * k.state + 65536 * k.seq

/-- Word `i` of a window as it reads, without the effects of reads. Reserved fields read 0 (R8). -/
def windowWord (s : State) (g c i : Nat) : Nat :=
  let k := claspOf s c
  if i < 16 then
    if k.mode then 0
    else if i = 15 then 2 ^ 31 * b2n k.go
    else if i = 0 then fld (reqWord k 0) 0 28
    else reqWord k i
  else if i < 32 then
    if k.mode then 0
    else if i = 16 then headerWord k
    else if i = 17 then k.rtag
    else if i = 18 then k.code + 65536 * k.kind
    else at0 0 k.data (i - 19)
  else if i = 0x20 then statusWord k
  else if i = 0x21 then configWord s g c
  else if i = 0x22 then k.discards
  else if i = 0x23 then k.event
  else if i = 0x24 then k.eventEn
  else if i = 0x31 then (if k.mode then at0 0 k.dqRsp 0 else 0)
  else if i = 0x32 then
    if k.mode then k.dqReq.length + 256 * k.dqRsp.length + 65536 * b2n k.ovf + 2 ^ 17 * b2n k.unf else 0
  else 0

/-- The effects of a read of word `i`: a header read of READY clears FULL and makes the result STALE (R60); a read of
DISCARDS clears it; a read of DQ_POP removes a word, or sets UNF on an empty queue (R67). -/
def readEffect (s : State) (c i : Nat) : State :=
  let k := claspOf s c
  if i = 16 ∧ ¬ k.mode ∧ k.state = 2 then setClasp s c { k with state := 3, full := false }
  else if i = 0x22 then setClasp s c { k with discards := 0 }
  else if i = 0x31 ∧ k.mode then
    setClasp s c (if k.dqRsp.isEmpty then { k with unf := true } else { k with dqRsp := k.dqRsp.drop 1 })
  else s

/-- The word of a window that a byte offset lies in. -/
def wordAt (off i : Nat) : Nat := (off + i) / 4

/-- The enabled bytes of a read, by their place in it. -/
def enabledAt (be : List Bool) : List Nat := (List.range be.length).filter (at0 false be)

/-- The words of a read part in which an enabled byte has an effect (R7): any byte of the result header and of DQ_POP, and those of
DISCARDS [15:0]. -/
def effectWords (off : Nat) (be : List Bool) : List Nat :=
  [16, 0x22, 0x31].filter (fun w => (enabledAt be).any (fun i =>
    wordAt off i == w && (w != 0x22 || decide ((off + i) % 4 < 2))))

/-- One part of a read TLP on a window: the enabled bytes, all from the same instant, and then the effects of the read (R51, R60). A
window outside the guest's range reads 0 (R24). -/
def readPart (s : State) (g c off : Nat) (be : List Bool) : State × List Byte :=
  if inRange s g c then
    ((effectWords off be).foldl (fun t w => readEffect t c w) s,
      (enabledAt be).map (fun i => BitVec.ofNat 8 (windowWord s g c (wordAt off i) / 256 ^ ((off + i) % 4))))
  else (s, (enabledAt be).map (fun _ => 0))

/-- A BAR0 read TLP at byte offset `off` of a client's window with these byte enables: its parts are separate accesses, in address
order (R51). A function that does not serve answers Unsupported Request (R477). -/
def bar0Read (s : State) (f c off : Nat) (be : List Bool) : State :=
  if serving s f then
    let r := (splitParts off be).foldl (fun (a : State × List Byte) p =>
      let b := readPart a.1 f c p.1 p.2
      (b.1, a.2 ++ b.2)) (s, [])
    send r.1 (.bar f 0) [0] r.2
  else send s (.bar f 0) [1] []

/-- Every byte of `n` bytes enabled. -/
def allBytes (n : Nat) : List Bool := List.replicate n true

/-! ### Takes and answers (R56–R58) -/

/-- Whether a clasp's next native request may be taken (R56). -/
def nativeWaits (k : Clasp) : Bool := !k.mode && k.go && (k.state == 0 || k.state == 3) && k.taken.isNone

/-- Whether a clasp's next Delbel message may be taken: none is being served, and no response waits for room (R67). -/
def delbelWaits (k : Clasp) : Bool := k.mode && k.taken.isNone && !k.dqVerdict.isEmpty

/-- The stage-1 verdict of a clasp's next request, if one waits. -/
def nextVerdict (k : Clasp) : Option (Nat × Nat) :=
  if nativeWaits k then some (k.verdict, k.vkind)
  else if delbelWaits k then k.dqVerdict.head?
  else none

/-- A clasp sequence number's successor: 0xFFFF is followed by 1 (R56). -/
def seqAfter (n : Nat) : Nat := if n = 0xFFFF then 1 else n + 1

/-- The clasp after its waiting request has been taken, words 0 to 14 copied in the same cycle in which GO clears
(R52, R56). `ans` is the answer the hardware forms for a request that failed stage 1. -/
def takeClasp (k : Clasp) (ans : Option Ans) : Clasp :=
  if k.mode then
    let m := (dqMessageLen k.dqReq).getD 1
    let h := at0 0 k.dqReq 0
    { k with dqReq := k.dqReq.drop m, dqVerdict := k.dqVerdict.drop 1,
             taken := some { op := fld h 0 16, len := fld h 16 3, args := slice k.dqReq 1 (m - 1), delbel := true,
                             stray := h / 2 ^ 19 != 0, answer := ans } }
  else
    let w := reqWord k 0
    { k with go := false, state := 1, seq := k.nextSeq, nextSeq := seqAfter k.nextSeq, rlen := 0,
             taken := some { op := fld w 0 16, noIrq := bitOf w 16, flags := fld w 17 7, len := fld w 24 4,
                             tag := reqWord k 1, args := (rangeFrom 2 13).map (reqWord k), stray := w / 2 ^ 28 != 0,
                             answer := ans } }

/-- The opcodes the groups 0 to 9 define (R54). DEDUCED: log 26. -/
def definedOps : List Nat :=
  [0x0001, 0x0002, 0x0003, 0x1001, 0x1002, 0x1003, 0x1004, 0x2001, 0x2002, 0x2003, 0x2004,
   0x3001, 0x3002, 0x3003, 0x3004, 0x3005, 0x4001, 0x4002, 0x4003, 0x4004, 0x4005, 0x5001, 0x5002, 0x5003,
   0x6001, 0x6002, 0x6003, 0x7001, 0x7002, 0x7003, 0x8001, 0x8002, 0x8003, 0x9001, 0x9002]

/-- What firmware answers at the take without carrying the request out: an undefined opcode (R54), a LENGTH above 13, a reserved field
of the header word that is not 0 (R55), or in Delbel mode an opcode whose result can exceed 7 words, which among the Delbel groups is
none but an ECHO of more words than a message holds. DEDUCED: log 185. -/
def takeAnswer (t : Taken) : Option Ans :=
  if ¬ definedOps.contains t.op then some { code := 2 }
  else if 13 < t.len then some { code := 3 }
  else if t.stray then some { code := 4 }
  else none

/-- A waiting request that passed stage 1 is taken by open-world firmware. -/
def takeByFirmware (s : State) (c : Nat) : State :=
  let k := takeClasp (claspOf s c) none
  match k.taken with
  | none => s
  | some t => setClasp s c { k with taken := some { t with answer := takeAnswer t } }

/-- A waiting request that failed stage 1 is taken by hardware, which writes its result directly (R57). -/
def takeByHardware (s : State) (c : Nat) (v : Nat × Nat) : State :=
  setClasp s c (takeClasp (claspOf s c) (some { code := v.1, kind := v.2 }))

/-- A response message of a Delbel response queue (R67). -/
def delbelWords (a : Ans) : List Nat := (a.code + 65536 * a.data.length + 2 ^ 24 * a.kind) :: a.data

/-- Whether the response queue has room for all of a message. -/
def delbelRoom (k : Clasp) (a : Ans) : Bool := decide (k.dqRsp.length + a.data.length + 1 ≤ 8)

/-- The device writes the answer of a taken request: in native form the result words, then READY and FULL, then the MSI-X
vector unless NO_IRQ; in Delbel mode the response message, once it fits, and the vector when RSP_FILL leaves 0 (R58, R62,
R67). -/
def finishTaken (s : State) (c : Nat) : State :=
  let k := claspOf s c
  match k.taken with
  | none => s
  | some t =>
    match t.answer with
    | none => s
    | some a =>
      if t.delbel then
        if delbelRoom k a then
          let s1 := setClasp s c { k with taken := none, dqRsp := k.dqRsp ++ delbelWords a }
          if k.dqRsp.isEmpty then claspIrq s1 c else s1
        else s
      else
        let s1 := setClasp s c { k with taken := none, rtag := t.tag, code := a.code, kind := a.kind,
                                        data := a.data, rlen := a.data.length, state := 2, full := true }
        if t.noIrq then s1 else claspIrq s1 c

/-- The state with the answer of client `c`'s taken request formed. -/
def answer (s : State) (c : Nat) (a : Ans) : State :=
  let k := claspOf s c
  match k.taken with
  | none => s
  | some t => setClasp s c { k with taken := some { t with answer := some a } }

/-- OK with data words. -/
def ok (s : State) (c : Nat) (data : List Nat) : State := answer s c { data := data }

/-- A completion code without data. -/
def fail (s : State) (c code : Nat) : State := answer s c { code := code }

/-- The BAR0 offset of the word that handed a client's request over: GO, or DQ_PUSH in Delbel mode (R39). -/
def handOff (s : State) (c : Nat) : Nat :=
  c * 4096 + (match (claspOf s c).taken with | some t => if t.delbel then 0xC0 else 0x3C | none => 0x3C)

/-- DENIED with its violation kind, entered in the ring with PATH 0 and the BAR offset of the request (R28, R39). -/
def denied (s : State) (c kind : Nat) : State :=
  answer (violate s kind 0 (handOff s c) (some c) (guestOf s c)) c { code := 1, kind := kind }

/-- DENIED for a memory range outside the client's window: kind 0x04 (R28, R36). -/
def deniedAddr (s : State) (c : Nat) : State := denied s c 0x04

/-- Carry out the taken request of client `c` when its opcode is `op` and no answer is formed yet: BAD_LENGTH unless its
LENGTH is what the opcode requires, BAD_ARGUMENT when a bit of FLAGS that the opcode does not define is set, else `k` with the request's arguments, ARG2 first. Otherwise nothing changes.
DEDUCED: log 28. -/
def serveF (s : State) (c op flags : Nat) (lenOk : Nat → Bool) (k : Taken → State) : State :=
  match (claspOf s c).taken with
  | none => s
  | some t =>
    if t.op = op ∧ t.answer = none then
      if ¬ lenOk t.len then fail s c 3
      else if Nat.land t.flags flags ≠ t.flags then fail s c 4
      else k t
    else s

/-- `serveF` for an opcode that defines no flags. -/
def serve (s : State) (c op : Nat) (lenOk : Nat → Bool) (k : Taken → State) : State := serveF s c op 0 lenOk k

/-- A request that firmware passes to an engine over an internal clasp: carried out while the engine's domain is on, answered
POWERED_OFF while it is held off, else it waits for the domain that it wakes (R64). DEDUCED: log 30. -/
def withDomain (s : State) (c d : Nat) (k : State) : State :=
  if pdOn s d then k else if rd s (E.pd_MODE d) = 2 then fail s c 8 else wake s d 2

/-- Argument ARGn of a request, `n` from 2. -/
def argOf (t : Taken) (n : Nat) : Nat := at0 0 t.args (n - 2)

/-! ### Round robin of takes (R57) -/

/-- Whether a client's clasp holds a request that firmware may take. -/
def firmwareWaits (s : State) (c : Nat) : Bool :=
  match nextVerdict (claspOf s c) with
  | some v => v.1 == 0
  | none => false

/-- The clients of a guest whose requests wait for firmware. A clasp at its reset values holds none, so only the clasps
that the table lists are asked. -/
def waitingClients (s : State) (g : Nat) : List Nat :=
  (s.clasp.clasps.map (·.1)).filter (fun c => inRange s g c && firmwareWaits s c)

/-- The first element at or after a pointer, else the first of all. -/
def fromPtr (p : Nat) (l : List Nat) : Option Nat :=
  match l.find? (fun x => decide (p ≤ x)) with
  | some x => some x
  | none => l.head?

/-- The next request in round robin over guests with waiting requests, and within a guest over its clients (R57). DEDUCED: log 29. -/
def nextTake (s : State) : Option (Nat × Nat) :=
  let gs := (List.range 64).filter (fun g => guestExists s g && !(waitingClients s g).isEmpty)
  match fromPtr s.clasp.guestPtr gs with
  | none => none
  | some g =>
    match fromPtr (tget (fun _ => 0) s.clasp.clientPtr g) (waitingClients s g) with
    | none => none
    | some c => some (g, c)

/-- The pointers after client `c` of guest `g` has been served. -/
def advanceTake (s : State) (g c : Nat) : State :=
  { s with clasp := { s.clasp with guestPtr := (g + 1) % 64,
                                   clientPtr := tset (fun _ => 0) s.clasp.clientPtr g (c + 1) } }

/-! ### Internal clasps (R63, R64) -/

/-- The number under which the state keeps an internal clasp. -/
def iclNum : Icl → Nat
  | .as0 => 0
  | .as1 => 1
  | .touch p => 2 + p.val
  | .hap => 6

/-- The power domain of an internal clasp's receiver. -/
def iclDomain (n : Nat) : Nat := if n < 2 then 12 else 13

/-- An internal clasp. -/
def iclOf (s : State) (n : Nat) : Clasp := tget (fun _ => {}) s.clasp.icl n

/-- The state with an internal clasp replaced. -/
def setIcl (s : State) (n : Nat) (k : Clasp) : State :=
  { s with clasp := { s.clasp with icl := tset (fun _ => {}) s.clasp.icl n k } }

/-- The answer of an internal clasp is written at once: its result becomes READY (R58). Firmware reads the result as it
appears, so the result is STALE for the next take. -/
def iclComplete (s : State) (n : Nat) (a : Ans) : State :=
  let k := iclOf s n
  match k.taken with
  | none => s
  | some t =>
    setIcl s n { k with taken := none, rtag := t.tag, code := a.code, kind := a.kind, data := a.data,
                        rlen := a.data.length, state := 2, full := true }

/-- Firmware reads a READY result before its next request is taken (R56, R60). DEDUCED: log 27. -/
def iclRead (k : Clasp) : Clasp := if k.state = 2 then { k with state := 3, full := false } else k

/-- The opcodes that the receiver of an internal clasp defines, with the test of LENGTH (R289, R308, R338). -/
def iclOps (n : Nat) : List Nat :=
  if n < 2 then [0xF001, 0xF002] else if n < 6 then [0xF001, 0xF002, 0xF003, 0xF004, 0xF005] else [0xF001, 0xF002, 0xF003, 0xF004]

/-- What the receiver of an internal clasp answers at the take without carrying the request out (R54, R55, R63). -/
def iclAnswer (n : Nat) (t : Taken) : Option Ans :=
  if ¬ (iclOps n).contains t.op then some { code := 2 }
  else if 13 < t.len then some { code := 3 }
  else if t.stray ∨ t.flags ≠ 0 then some { code := 4 }
  else none

/-- Firmware sets GO on an internal clasp: a wake event of the receiver's domain. A write while GO is 1 is discarded and counted (R53,
R63). Where the domain is held off, the hardware takes the block at once and completes it with POWERED_OFF (R64). -/
def iclGo (s : State) (n : Nat) (words : List Nat) : State :=
  let k0 := iclOf s n
  if k0.go then setIcl s n (discardOne k0)
  else
    let s1 := setIcl s n ((List.range 15).foldl (fun a i => setReqWord a i (at0 0 words i)) { k0 with go := true })
    let d := iclDomain n
    if rd s (E.pd_MODE d) = 2 ∧ k0.taken = none then iclComplete (setIcl s1 n (takeClasp (iclRead (iclOf s1 n)) none)) n { code := 8 }
    else wake s1 d 2

/-- The receiver takes a waiting internal block once its domain is on (R64); a request that it refuses as it stands completes at
once. -/
def iclTake (s : State) (n : Nat) : State :=
  let k := iclRead (iclOf s n)
  if nativeWaits k ∧ pdOn s (iclDomain n) then
    let s1 := setIcl s n (takeClasp k none)
    match (iclOf s1 n).taken.bind (iclAnswer n) with
    | some a => iclComplete s1 n a
    | none => s1
  else s

/-- Carry out the taken internal request of opcode `op`: BAD_LENGTH unless its LENGTH is what the opcode requires (R55, R63), else `k`
gives the new state, and the block then completes. -/
def iclServe (s : State) (n op : Nat) (lenOk : Nat → Bool) (k : Taken → State × Ans) : State :=
  match (iclOf s n).taken with
  | none => s
  | some t =>
    if t.op = op then
      if lenOk t.len then
        let r := k t
        iclComplete r.1 n r.2
      else iclComplete s n { code := 3 }
    else s

/-! ### Meanings -/

/-- CLASP_GO: a host write of 1 to GO. -/
def execClaspGo (f : Func) (c : Client) (s : State) : Host.Outcome State Fault Refusal :=
  .next (bar0Write s f.val c.val 0x3C (enabled 4 (2 ^ 31)))

/-- CLASP_WRITE: a BAR0 write of any length and byte enables. -/
def execClaspWrite (f : Func) (c : Client) (off : Nat) (bytes : List (Option Byte)) (s : State) :
    Host.Outcome State Fault Refusal :=
  .next (bar0Write s f.val c.val off bytes)

/-- STAGE1_REFUSAL: hardware takes a request that failed stage 1 and writes its result (R57). -/
def execStage1Refusal (c : Client) (s : State) : Host.Outcome State Fault Refusal :=
  .next (match nextVerdict (claspOf s c.val) with
    | some v => if v.1 = 0 then s else finishTaken (takeByHardware s c.val v) c.val
    | none => s)

/-- CLASP_TAKE: firmware takes the next waiting request while PD2 is on (R57). -/
def execClaspTake (s : State) : Host.Outcome State Fault Refusal :=
  .next (if pdOn s 2 then
      match nextTake s with
      | some (g, c) => advanceTake (takeByFirmware s c) g c
      | none => s
    else s)

/-- CLASP_COMPLETE: the device writes the result of a request whose answer is formed (R58). -/
def execClaspComplete (c : Client) (s : State) : Host.Outcome State Fault Refusal :=
  .next (match (claspOf s c.val).taken with
    | some t => if t.delbel then s else finishTaken s c.val
    | none => s)

/-- MSI_X_UNMASK: the vector is unmasked, and a message pending in the PBA is sent once (R62). -/
def execMsixUnmask (f : Func) (v : Fin 64) (s : State) : Host.Outcome State Fault Refusal :=
  let p := portRec s f.val
  let w := msixWord p (4 * v.val + 3)
  let p1 := { p with msix := tset (fun k => if k % 4 = 3 then 1 else 0) p.msix (4 * v.val + 3) (setBit w 0 false),
                     pba := setBit p.pba v.val false }
  if serving s f.val then
    .next (if bitOf p.pba v.val then msixSend (setPort s f.val p1) f.val v.val else setPort s f.val p1)
  else .next s

/-- RESULT_HEADER_READ: a BAR0 read TLP of any length and byte enables; it is a header read where it takes in a byte of result word 0
(R51, R60). DESIGN CHOICE: log 184. -/
def execResultHeaderRead (f : Func) (c : Client) (off : Nat) (enabled : List Bool) (s : State) : Host.Outcome State Fault Refusal :=
  .next (bar0Read s f.val c.val off enabled)

/-- DISCARDS_READ: the count is returned and cleared (R50). -/
def execDiscardsRead (f : Func) (c : Client) (s : State) : Host.Outcome State Fault Refusal :=
  .next (bar0Read s f.val c.val 0x88 (allBytes 4))

/-- EVENT_CLEAR: a host write of 1 to EVENT bits (R61). -/
def execEventClear (f : Func) (c : Client) (bits : BitVec 16) (s : State) : Host.Outcome State Fault Refusal :=
  .next (bar0Write s f.val c.val 0x8C (enabled 2 bits.toNat))

/-- CLASP_MODE_WRITE: a write of the word that holds MODE (R66). -/
def execClaspModeWrite (f : Func) (c : Client) (w : Word) (s : State) : Host.Outcome State Fault Refusal :=
  .next (bar0Write s f.val c.val 0x84 (enabled 4 w.toNat))

/-- DQ_PUSH: a write of a word to the Delbel request queue (R67). -/
def execDqPush (f : Func) (c : Client) (w : Word) (s : State) : Host.Outcome State Fault Refusal :=
  .next (bar0Write s f.val c.val 0xC0 (enabled 4 w.toNat))

/-- DQ_POP: a read that removes a word from the Delbel response queue (R67). -/
def execDqPop (f : Func) (c : Client) (s : State) : Host.Outcome State Fault Refusal :=
  .next (bar0Read s f.val c.val 0xC4 (allBytes 4))

/-- DELBEL_RESPONSE: a response is written once the queue has room for all of it (R67). -/
def execDelbelResponse (c : Client) (s : State) : Host.Outcome State Fault Refusal :=
  .next (match (claspOf s c.val).taken with
    | some t => if t.delbel then finishTaken s c.val else s
    | none => s)

/-- NOP completes with no data (R54). -/
def execNop (c : Client) (s : State) : Host.Outcome State Fault Refusal :=
  .next (serve s c.val 0x0001 (· == 0) (fun _ => ok s c.val []))

/-- IDENTIFY returns the client, its guest and class, the open-world firmware version, and the stepping and member
(R54). -/
def execIdentify (c : Client) (s : State) : Host.Outcome State Fault Refusal :=
  .next (serve s c.val 0x0002 (· == 0) (fun _ =>
    ok s c.val [c.val + 4096 * (guestOf s c.val).getD 0 + 2 ^ 18 * charmClass s c.val, rd s E.id_OPEN_VERSION,
                rd s E.id_STEPPING + 256 * rd s E.id_MEMBER]))

/-- ECHO returns its arguments (R54). In Delbel mode, whose messages hold at most 7 arguments, an ECHO's result can exceed
7 words in general, so it is completed with BAD_OPCODE (R67). -/
def execEcho (c : Client) (s : State) : Host.Outcome State Fault Refusal :=
  .next (serve s c.val 0x0003 (fun n => decide (n ≤ 13)) (fun t =>
    if t.delbel then fail s c.val 2 else ok s c.val (t.args.take t.len)))

/-- INTERNAL_CLASP_GO (R64). -/
def execInternalClaspGo (i : Icl) (words : List Word) (s : State) : Host.Outcome State Fault Refusal :=
  .next (if pdOn s 2 then iclGo s (iclNum i) (words.map BitVec.toNat) else s)

/-- INTERNAL_CLASP_TAKE (R64). -/
def execInternalClaspTake (i : Icl) (s : State) : Host.Outcome State Fault Refusal :=
  .next (iclTake s (iclNum i))

end Sys2Proof.Machine
end

