-- ==== Sys2Proof/Machine/Contexts.lean ====
section
/-! DEFINITION. Render and compute contexts: the memory they reach, their fences and statistics, what runs of them on which core, the
level of their work, their faults, creation, submission and removal (R115, R120, R140–R160). -/

namespace Sys2Proof.Machine

/-! ### The memory a context reaches -/

/-- The key under which trusted context `n` is kept (R146, R377). -/
def trustedKey (n : Nat) : Nat := 4097 + n

/-- The physical address of byte `a` of a context's window; a trusted context names physical addresses. -/
def ctxAddr (s : State) (key a : Nat) : Option Nat := if key < 4096 then winAddr s key a else some a

/-- Whether `n` bytes at `a` are a context's to reach. -/
def ctxIn (s : State) (key a n : Nat) : Bool := if key < 4096 then inWindow s key a n else true

/-- One byte of a context's window. -/
def ctxByte (s : State) (key a : Nat) : Byte :=
  match ctxAddr s key a with
  | some p => memRd s p
  | none => 0

/-- `n` bytes of a context's window. -/
def ctxRd (s : State) (key a n : Nat) : List Byte := (rangeFrom a n).map (ctxByte s key)

/-- A 32-bit word of a context's window. -/
def ctxWord (s : State) (key a : Nat) : Nat := leVal (ctxRd s key a 4)

/-- The state with bytes written into a context's window. -/
def ctxWr (s : State) (key a : Nat) (bs : List Byte) : State :=
  memWrAll s ((List.range bs.length).filterMap (fun i => (ctxAddr s key (a + i)).map (fun p => (p, bs[i]?))))

/-! ### Records -/

/-- The render context with a key. -/
def rctxOf (s : State) (key : Nat) : Option RCtx := tget (fun _ => none) s.raster.rctx key
/-- The state with a render context replaced. -/
def setRctx (s : State) (key : Nat) (x : Option RCtx) : State :=
  { s with raster := { s.raster with rctx := tset (fun _ => none) s.raster.rctx key x } }
/-- The compute context of a client. -/
def cctxOf (s : State) (c : Nat) : Option CCtx := tget (fun _ => none) s.raster.cctx c
/-- The state with a compute context replaced. -/
def setCctx (s : State) (c : Nat) (x : Option CCtx) : State :=
  { s with raster := { s.raster with cctx := tset (fun _ => none) s.raster.cctx c x } }
/-- A raster core. -/
def coreOf (s : State) (n : Nat) : CoreRec := tget (fun _ => {}) s.raster.cores n
/-- The state with a raster core replaced. -/
def setCore (s : State) (n : Nat) (x : CoreRec) : State :=
  { s with raster := { s.raster with cores := tset (fun _ => {}) s.raster.cores n x } }
/-- A hart of a core. -/
def hartOf (k : CoreRec) (h : Nat) : HartRec := tget (fun _ => {}) k.harts h
/-- The core with a hart replaced. -/
def setHart (k : CoreRec) (h : Nat) (x : HartRec) : CoreRec := { k with harts := tset (fun _ => {}) k.harts h x }
/-- A tile slot of a core. -/
def slotOf (k : CoreRec) (i : Nat) : Option SlotRec := tget (fun _ => none) k.slots i
/-- The core with a tile slot replaced. -/
def setSlot (k : CoreRec) (i : Nat) (x : Option SlotRec) : CoreRec :=
  { k with slots := tset (fun _ => none) k.slots i x }
/-- A list with the first element that `p` holds of replaced. -/
def replaceFirst {α : Type} (p : α → Bool) (f : α → α) : List α → List α
  | [] => []
  | x :: r => if p x then f x :: r else x :: replaceFirst p f r

/-! ### Geometry of a context -/

/-- Samples per pixel (R126). -/
def samplesOf (x : RCtx) : Nat := if x.msaa then 4 else 1
/-- The tile formats of a context's five attachments, depth-stencil last (R126). -/
def attFmts (x : RCtx) : List Nat := (List.range 4).map (fun i => at0 0 x.cfmt i) ++ [if x.dsfmt = 0 then 0 else 10 + x.dsfmt]
/-- The footprint F of a context (R126). -/
def footprint (x : RCtx) : Nat := samplesOf x * ((attFmts x).map tileBytes).sum
/-- Tile columns. -/
def tileCols (x : RCtx) : Nat := ceilDiv x.width 64
/-- Tiles of the render target. -/
def tileCount (x : RCtx) : Nat := tileCols x * ceilDiv x.height 64
/-- Tile slots a core has for a context (R126). -/
def slotCount (x : RCtx) : Nat := if footprint x ≤ 64 then 4 else if footprint x ≤ 128 then 2 else 1
/-- The least bin share of a context, in units of 64 KB (R124). -/
def minShare (x : RCtx) : Nat := ceilDiv (80 * tileCount x + 131072) 65536

/-! ### Bin memory (R120) -/

/-- A block of bin memory, as a number of 512 bits. -/
def binGet (s : State) (n : Nat) : Nat := tget (fun _ => 0) s.raster.bin n
/-- The state with a block of bin memory replaced. -/
def binSet (s : State) (n v : Nat) : State := { s with raster := { s.raster with bin := tset (fun _ => 0) s.raster.bin n v } }
/-- Who a block is allocated to. -/
def useOf (s : State) (n : Nat) : Option BlockUse := tget (fun _ => none) s.raster.binUse n
/-- The blocks that `p` holds of are free again. -/
def freeBlocks (s : State) (p : BlockUse → Bool) : State :=
  { s with raster := { s.raster with binUse := s.raster.binUse.filter (fun e => match e.2 with | some u => !p u | none => false) } }
/-- Blocks of the share of a context in use. -/
def blocksUsed (s : State) (key : Nat) : Nat :=
  (s.raster.binUse.filter (fun e => match e.2 with | some u => u.ctx == key | none => false)).length
/-- The first of `n` blocks from `lo` that is free; block 0 never is. -/
def firstFree (s : State) (lo : Nat) : Nat → Option Nat
  | 0 => none
  | n + 1 => if lo ≠ 0 ∧ useOf s lo = none then some lo else firstFree s (lo + 1) n
/-- A block of the units of a share is allocated and written; `none` when they hold no free one. -/
def allocBlock (s : State) (units : List Nat) (u : BlockUse) (v : Nat) : Option (Nat × State) :=
  (units.findSome? (fun n => firstFree s (1024 * n) 1024)).map (fun b =>
    (b, binSet { s with raster := { s.raster with binUse := tset (fun _ => none) s.raster.binUse b (some u) } } b v))
/-- Free blocks of the units of a share. -/
def blocksFree (s : State) (units : List Nat) : Nat :=
  units.foldl (fun a n => a + ((rangeFrom (1024 * n) 1024).filter (fun b => b != 0 && (useOf s b).isNone)).length) 0
/-- The units 8 and above that no context's share holds: the first 512 KB are not open to clients (R120). -/
def freeUnits (s : State) : List Nat :=
  (rangeFrom 8 120).filter (fun n => s.raster.rctx.all (fun p => match p.2 with | some x => !x.units.contains n | none => true))
/-- The units of the trusted contexts, which share them; units 0 to 3 are the compositor context's (R147). DEDUCED: log 155. -/
def trustedUnits : List Nat := [4, 5, 6, 7]
/-! ### Fences (R154) -/

/-- Whether the device-held fence value `w` has reached value `v`, on the ring of 1 to 0xFFFF_FFFF (R154). -/
def fenceReached (w v : Nat) : Bool :=
  w != 0 && decide ((w + 4294967295 - v % 4294967295) % 4294967295 < 2147483648)

/-- The fence value after `v`. -/
def fenceAfter (v : Nat) : Nat := if v = 0xFFFFFFFF then 1 else v + 1

/-- A fence record (R154). -/
def fenceBytes (value status fault time : Nat) : List Byte :=
  leBytes 4 value ++ leBytes 1 status ++ leBytes 1 fault ++ leBytes 2 0 ++ leBytes 8 time

/-! ### Statistics (R142) -/

/-- The statistics block of a context after a submission. -/
def statsBytes (x : RCtx) (b : Sub) : List Byte :=
  leBytes 4 x.renders ++ leBytes 4 x.partials ++ leBytes 8 x.spillBytes ++ leBytes 4 b.primsIn ++
  leBytes 4 b.primsBinned ++ leBytes 4 b.passes ++ leBytes 4 b.stall ++ leBytes 4 b.peak ++
  leBytes 4 (x.faultKind + 256 * x.faultCore + 4096 * x.faultHart) ++ leBytes 4 x.faultAddr ++ leBytes 4 x.faultPc ++
  leBytes 4 x.faultSeq ++ leBytes 4 x.eccCorrected ++ leBytes 8 0

/-- The statistics block is written, if it lies in the window (R142). -/
def writeStats (s : State) (key : Nat) (x : RCtx) (b : Sub) : State :=
  if ctxIn s key x.statsAddr 64 then ctxWr s key x.statsAddr (statsBytes x b) else s

/-! ### Cores -/

/-- Whether a core is powered and takes work (R145). -/
def corePowered (s : State) (n : Nat) : Bool := pdOn s (3 + n / 4) && !s.raster.draining.contains (n / 4)

/-- Whether an allotment includes a core; 0 means all (R149). -/
def allotted (allot n : Nat) : Bool := allot == 0 || bitOf allot n

/-- Whether a core runs a vertex invocation of a context. -/
def runsVertex (k : CoreRec) (key : Nat) : Bool :=
  k.harts.any (fun p => match p.2.vertex with | some v => v.ctx == key | none => false)

/-- Whether a core holds a tile of a context. -/
def holdsTile (k : CoreRec) (key : Nat) : Bool :=
  k.slots.any (fun p => match p.2 with | some x => x.ctx == key | none => false)

/-- Whether a core holds anything at all. -/
def coreIdle (k : CoreRec) : Bool :=
  k.wg.isNone && k.slots.all (fun p => p.2.isNone) && k.harts.all (fun p => p.2.vertex.isNone && p.2.group.isNone)

/-- Whether a hart has nothing to do and may be given work. -/
def hartFree (k : CoreRec) (h : Nat) : Bool :=
  let r := hartOf k h
  r.group.isNone && r.vertex.isNone && !r.halted

/-- Whether any core has started a tile pass or vertex invocation of a render context. -/
def renderStarted (s : State) (key : Nat) : Bool :=
  s.raster.cores.any (fun p => holdsTile p.2 key || runsVertex p.2 key)

/-- Whether any core has started a tile pass or vertex invocation of a submission. -/
def subStarted (s : State) (key fence : Nat) : Bool :=
  s.raster.cores.any (fun p =>
    p.2.slots.any (fun q => match q.2 with | some r => r.ctx == key && r.fence == fence | none => false) ||
      p.2.harts.any (fun q => match q.2.vertex with | some v => v.ctx == key && v.fence == fence | none => false))

/-- Whether any core runs, saves or restores a workgroup of a client. -/
def computeStarted (s : State) (c : Nat) : Bool :=
  s.raster.cores.any (fun p => match p.2.wg with | some w => w.ctx == c | none => false)

/-- A core with the work of those submissions of a render context taken off it whose fence values `p` holds of. -/
def dropRender (key : Nat) (p : Nat → Bool) (k : CoreRec) : CoreRec :=
  let gone := (List.range 4).filter (fun i => match slotOf k i with | some x => x.ctx == key && p x.fence | none => false)
  let harts := (List.range 4).foldl (fun a h =>
    let r := hartOf a h
    let inGone : Bool := match r.group with | some g => gone.contains g.slot | none => false
    let vtx : Bool := match r.vertex with | some v => v.ctx == key && p v.fence | none => false
    if vtx || inGone then setHart a h { r with group := none, vertex := none } else a) k
  gone.foldl (fun a i => setSlot a i none) harts

/-- The cores with that work taken off them. -/
def dropRenderAll (s : State) (key : Nat) (p : Nat → Bool) : State :=
  (List.range 16).foldl (fun t n => setCore t n (dropRender key p (coreOf t n))) s

/-- The cores with every workgroup of a client taken off them. -/
def dropComputeAll (s : State) (c : Nat) : State :=
  (List.range 16).foldl (fun t n =>
    let k := coreOf t n
    match k.wg with
    | some w => if w.ctx = c then setCore t n { k with wg := none } else t
    | none => t) s

/-- Units that become runnable wake the AUTO quadrants of their allotment that are off (R422, row 5). -/
def wakeQuads (s : State) (allot : Nat) : State :=
  (List.range 4).foldl (fun t q =>
    if (rangeFrom (4 * q) 4).any (allotted allot) then wake t (3 + q) 5 else t) s

/-! ### Submissions in progress -/

/-- A context with one of its submissions replaced. -/
def putSub (x : RCtx) (b : Sub) : RCtx := { x with subs := replaceFirst (fun y => y.fence == b.fence) (fun _ => b) x.subs }

/-- The submission with a fence value that has not ended. -/
def openSub (x : RCtx) (fence : Nat) : Option Sub := x.subs.find? (fun b => b.fence == fence && b.ended.isNone)

/-- The submission with a fence value, ended or not. -/
def fenceSub (x : RCtx) (fence : Nat) : Option Sub := x.subs.find? (fun b => b.fence == fence)

/-- Where a tile of a submission stands in the pass. -/
def placeOf (b : Sub) (t : Nat) : Nat := tget (fun _ => 0) b.place t
/-- The submission with a tile's place replaced. -/
def setPlace (b : Sub) (t p : Nat) : Sub := { b with place := tset (fun _ => 0) b.place t p }

/-- The submission the front end is at: the first that has not ended whose binning has not (R118). -/
def frontSub (x : RCtx) : Option Sub := x.subs.find? (fun b => b.ended.isNone && decide (b.phase ≤ 1))

/-- The submission whose tiles may be dispatched: the first not rendered, in a partial or final pass. -/
def rendering (x : RCtx) : Option Sub :=
  match x.subs.find? (fun b => b.ended.isNone && decide (b.phase < 3)) with
  | some b => if b.phase = 1 ∨ b.phase = 2 then some b else none
  | none => none

/-- The next tile of a pass to hand out (R127). -/
def nextTile (x : RCtx) (b : Sub) : Option Nat := (List.range (tileCount x)).find? (fun t => placeOf b t == 0)

/-- Whether every tile of a pass is done. -/
def passDone (x : RCtx) (b : Sub) : Bool := (List.range (tileCount x)).all (fun t => placeOf b t == 2)

/-- The level at which the compositor context runs (R146). -/
def compositorLevel (s : State) : Nat := if s.raster.raised then 5 else 4

/-- The level of a render context: 6 for a trusted one (R146). -/
def renderLevel (key : Nat) (x : RCtx) : Nat := if key < 4096 then x.level else 6

/-- The level of a render: the compositor context's while it is adopted (R146, R147). -/
def subLevel (s : State) (key : Nat) (x : RCtx) (b : Sub) : Nat := if b.adopted then compositorLevel s else renderLevel key x

/-- The compositor context is raised while some render is adopted (R164). -/
def settleRaised (s : State) : State :=
  { s with raster := { s.raster with raised := s.raster.rctx.any (fun p =>
      match p.2 with | some x => x.subs.any (·.adopted) | none => false) } }

/-- The adopted renders of a context that `p` holds of are released (R164, R165). -/
def releaseRenders (s : State) (key : Nat) (p : Sub → Bool) : State :=
  match rctxOf s key with
  | none => s
  | some x =>
    let gone := x.subs.filter (fun b => b.adopted && p b)
    let x1 := { x with subs := x.subs.map (fun b => if p b then { b with adopted := false } else b) }
    gone.foldl (fun t b => raise t .govRelease [key, b.fence]) (settleRaised (setRctx s key (some x1)))

/-- A submission that ends with a status and fault kind before its RENDER_DONE: nothing of it is started any more. -/
def endSub (out : Nat × Nat) (b : Sub) : Sub :=
  if b.phase = 4 ∨ b.ended ≠ none then b
  else { b with table := [], place := [], nextInv := b.invs, vertexRunning := [], full := 0, ended := some out }

/-! ### Faults (R140, R141) -/

/-- A fault of a render context: its started work stops, its bins are freed, the statistics block records the first fault,
every submission not rendered ends with STATUS 1, and its adopted renders are released. DEDUCED: log 88. -/
def faultRender (s : State) (key kind core hart addr pc seq : Nat) : State :=
  match rctxOf s key with
  | none => s
  | some x =>
    if x.faulted then s
    else
      let b0 := (x.subs.find? (fun b => b.ended.isNone && decide (b.phase < 4))).getD {}
      let x1 := { x with faulted := true, faultKind := kind, faultCore := core, faultHart := hart, faultAddr := addr,
                         faultPc := pc, faultSeq := seq, subs := x.subs.map (endSub (1, kind)) }
      let s1 := freeBlocks (setRctx (dropRenderAll s key (fun _ => true)) key (some x1)) (fun u => u.ctx == key)
      releaseRenders (raise (writeStats s1 key x1 b0) .ctxFault [key, kind]) key (fun b => b.ended.isSome)

/-- A fault of a compute context (R157). -/
def faultCompute (s : State) (c kind : Nat) : State :=
  match cctxOf s c with
  | none => s
  | some x =>
    if x.faulted then s
    else
      let ds := x.disps.map (fun d =>
        { d with running := 0, saved := [], ended := if d.ended = none then some (1, kind) else d.ended })
      raise (setCctx (dropComputeAll s c) c (some { x with faulted := true, disps := ds })) .ctxFault [c, kind]

/-- An access of the units that act for a render context misses its window: kind 0x04 is logged and the context faults with kind 0x01;
no hart made the access, so FAULT_ADDR is 0 (R37, R141, R142). -/
def missRender (s : State) (key core a : Nat) : State := faultRender (windowViolation s key a) key 1 core 0 0 0 0

/-- A render that overruns ends as a fault ends it, but the context is not faulted and its later submissions proceed
(R160). -/
def overrunRender (s : State) (key fence : Nat) : State :=
  match rctxOf s key with
  | none => s
  | some x =>
    match openSub x fence with
    | none => s
    | some b =>
      let x1 := putSub x (endSub (2, 0) b)
      let s1 := freeBlocks (setRctx (dropRenderAll s key (· == fence)) key (some x1)) (fun u => u.ctx == key && u.fence == fence)
      releaseRenders (raise (writeStats s1 key x1 b) .tileOverrun [key]) key (fun y => y.fence == fence)

/-! ### What is runnable (R157, R158) -/

/-- Workgroups of a dispatch. -/
def wgTotal (d : Disp) : Nat := d.nx * d.ny * d.nz

/-- The dispatch of a compute context that has a unit to start: a saved workgroup or a new one. -/
def runnableDisp (x : CCtx) : Option Disp :=
  x.disps.find? (fun d => d.ended.isNone && (!d.saved.isEmpty || decide (d.next < wgTotal d)))

/-- The level of a tile that a render context has to hand out. -/
def tileLevel (s : State) (key : Nat) (x : RCtx) : Option Nat :=
  match rendering x with
  | some b => if (nextTile x b).isSome then some (subLevel s key x b) else none
  | none => none

/-- The level of a vertex invocation that a render context has to start. -/
def vertexLevel (s : State) (key : Nat) (x : RCtx) : Option Nat :=
  match frontSub x with
  | some b => if b.nextInv < b.invs then some (subLevel s key x b) else none
  | none => none

/-- A candidate of the pick: 2 × key for a render context, 2 × client + 1 for a compute context, in client order. -/
def candKey (key : Nat) (compute : Bool) : Nat := 2 * key + b2n compute

/-- The candidates of a level on a core: contexts with a runnable unit there whose allotment includes it (R158). -/
def candidates (s : State) (core level : Nat) : List Nat :=
  let rs := s.raster.rctx.filterMap (fun p =>
    match p.2 with
    | none => none
    | some x =>
      if x.leaving = 0 ∧ ¬ x.faulted ∧ allotted x.allot core ∧
          (tileLevel s p.1 x = some level ∨ vertexLevel s p.1 x = some level) then some (candKey p.1 false) else none)
  let cs := s.raster.cctx.filterMap (fun p =>
    match p.2 with
    | none => none
    | some x =>
      if x.level = level ∧ x.leaving = 0 ∧ ¬ x.faulted ∧ allotted x.allot core ∧ (runnableDisp x).isSome then
        some (candKey p.1 true) else none)
  sortBy (fun a b => decide (a ≤ b)) (rs ++ cs)

/-- The latch point of the render of a context that runs at level 5 on a core that picks it. -/
def adoptedLatch (s : State) (key : Nat) : Nat :=
  match rctxOf s key with
  | none => 0
  | some x => ((x.subs.filter (fun b => b.adopted && b.ended.isNone && decide (b.phase < 3))).map (·.latch)).foldl
      (fun (a : Option Nat) l => match a with | some m => some (min m l) | none => some l) none |>.getD 0

/-- The candidate taken at a level: the adopted render with the earliest latch point at level 5, else the first after the
one the core last served there (R158). -/
def pickAt (s : State) (core level : Nat) : Option Nat :=
  let cs := candidates s core level
  if level = 5 then
    cs.foldl (fun (a : Option Nat) k =>
      match a with
      | none => some k
      | some j => if adoptedLatch s (k / 2) < adoptedLatch s (j / 2) then some k else a) none
  else
    match tget (fun _ => none) (coreOf s core).served level with
    | some last => (match cs.find? (fun k => decide (last < k)) with | some k => some k | none => cs.head?)
    | none => cs.head?

/-- The first pick from a level down: its level and candidate. -/
def pickFrom (s : State) (core : Nat) : Nat → Option (Nat × Nat)
  | 0 => (pickAt s core 0).map (fun k => (0, k))
  | n + 1 =>
    match pickAt s core (n + 1) with
    | some k => some (n + 1, k)
    | none => pickFrom s core n

/-- A core's workgroup is asked to preempt, unless it was before (R159, R162). -/
def askPreempt (s : State) (core : Nat) : State :=
  let k := coreOf s core
  match k.wg with
  | some w => if w.preempt = none then setCore s core { k with wg := some { w with preempt := some s.time } } else s
  | none => s

/-- Every core that runs a workgroup below the highest level with runnable work allotted to it is asked to preempt (R159, R164). -/
def settlePreempt (s : State) : State :=
  (List.range 16).foldl (fun t n =>
    match (coreOf t n).wg with
    | none => t
    | some w =>
      match cctxOf t w.ctx, pickFrom t n 6 with
      | some x, some (lvl, _) => if x.level < lvl then askPreempt t n else t
      | _, _ => t) s

/-! ### Creating and destroying contexts (R146–R149, R156) -/

/-- The render context a descriptor of 64 bytes describes (R149). -/
def renderDesc (d : Nat) : RCtx :=
  { width := fld d 0 16, height := fld d 16 16, cfmt := (List.range 4).map (fun a => fld d (32 + 3 * a) 3),
    dsfmt := fld d 44 2, msaa := bitOf d 46, level := fld d 48 2, binShare := fld d 64 8, allot := fld d 80 16,
    tileBudget := fld d 96 16, dsBase := fld d 128 32, dsCount := fld d 160 16, statsAddr := fld d 192 32,
    fenceAddr := fld d 224 32, spill := fld d 256 32, spillSize := fld d 288 32 }

/-- Whether a descriptor's fields are in range and its reserved fields 0 (R149), and whether its footprint, share and spill
area are large enough (R124, R126, R134). -/
def renderDescOk (d : Nat) (x : RCtx) (minUnits : Nat) : Bool :=
  decide (1 ≤ x.width) && decide (x.width ≤ 16384) && decide (1 ≤ x.height) && decide (x.height ≤ 16384) &&
  x.cfmt.all (fun f => decide (f ≤ 5)) && decide (x.dsfmt ≤ 2) && !bitOf d 47 && fld d 50 14 == 0 &&
  decide (minUnits ≤ x.binShare) && decide (x.binShare ≤ 120) && fld d 72 8 == 0 &&
  decide (20 ≤ x.tileBudget) && decide (x.tileBudget ≤ 2000) && fld d 112 16 == 0 && fld d 176 16 == 0 &&
  fld d 320 192 == 0 && x.fenceAddr % 16 == 0 && x.spill % 4096 == 0 &&
  decide (footprint x ≤ 256) && decide (minShare x ≤ x.binShare) &&
  decide (4096 * footprint x * tileCount x ≤ x.spillSize)

/-- The addresses a render context names, with their lengths, that must lie in the window (R149). The statistics block is
not among them: R142 faults the first render instead. DEDUCED: log 82. -/
def renderDescAddrs (x : RCtx) : List (Nat × Nat) :=
  [(x.dsBase, 32 * x.dsCount), (x.fenceAddr, 16), (x.spill, x.spillSize)]

/-- The first of the address ranges that lies outside the window, if one does. -/
def firstOutside (s : State) (key : Nat) (l : List (Nat × Nat)) : Option Nat :=
  (l.find? (fun p => p.2 != 0 && !ctxIn s key p.1 p.2)).map (·.1)

/-- A new render context; its statistics fields are zeroed at creation (R142). -/
def addRender (s : State) (key : Nat) (x : RCtx) : State := writeStats (setRctx s key (some x)) key x {}

/-- CTX_CREATE (R149). The checks are made in this order: context exists, descriptor address, fields and sizes, level,
addresses, bin memory. DEDUCED: log 81. -/
def ctxCreate (s : State) (c : Nat) (a : Nat) : State :=
  if (rctxOf s c).isSome then fail s c 0x0103
  else if ¬ inWindow s c a 64 then deniedAddr s c
  else
    let d := leVal (winRd s c a 64)
    let x := renderDesc d
    if ¬ renderDescOk d x 3 then fail s c 4
    else if charmClass s c = 0 ∧ x.level = 3 then fail s c 0x0102
    else
      match firstOutside s c (renderDescAddrs x) with
      | some _ => deniedAddr s c
      | none =>
        let free := freeUnits s
        if free.length < x.binShare then fail s c 5 else ok (addRender s c { x with units := free.take x.binShare }) c []

/-- CCTX_CREATE (R149). -/
def cctxCreate (s : State) (c : Nat) (a : Nat) : State :=
  if (cctxOf s c).isSome then fail s c 0x0103
  else if ¬ inWindow s c a 16 then deniedAddr s c
  else
    let d := leVal (winRd s c a 16)
    let x : CCtx := { level := fld d 0 2, allot := fld d 16 16, fenceAddr := fld d 32 32, saveAddr := fld d 64 32 }
    if fld d 2 14 ≠ 0 ∨ fld d 96 32 ≠ 0 ∨ x.fenceAddr % 16 ≠ 0 ∨ x.saveAddr % 65536 ≠ 0 then fail s c 4
    else if charmClass s c = 0 ∧ x.level = 3 then fail s c 0x0102
    else
      match firstOutside s c [(x.fenceAddr, 16), (x.saveAddr, 2 ^ 20)] with
      | some _ => deniedAddr s c
      | none => ok (setCctx s c (some x)) c []

/-- A render context begins to leave: nothing more of it is started (R156). -/
def leaveRender (s : State) (key how : Nat) : State :=
  match rctxOf s key with
  | none => s
  | some x => setRctx s key (some { x with leaving := max how x.leaving })

/-- A compute context begins to leave: its running workgroups are preempted under R161. -/
def leaveCompute (s : State) (c how : Nat) : State :=
  match cctxOf s c with
  | none => s
  | some x =>
    let s1 := setCctx s c (some { x with leaving := max how x.leaving })
    (List.range 16).foldl (fun t n =>
      match (coreOf t n).wg with
      | some w => if w.ctx = c then askPreempt t n else t
      | none => t) s1

/-! ### Submissions (R150–R153) -/

/-- The attachment entry `a` of a render record of 112 bytes. -/
def attachOf (r a : Nat) : Attach :=
  let o := 256 + 128 * a
  { target := fld r o 32, pitch := fld r (o + 32) 16, rfmt := fld r (o + 48) 4, load := fld r (o + 52) 2,
    store := bitOf r (o + 54), clear0 := fld r (o + 64) 32, clear1 := fld r (o + 96) 32 }

/-- Whether an attachment entry is one its context may use: permitted pair, load operation, reserved bits, and FTC targets
4 KB aligned (R126, R138, R150). -/
def attachOk (fmt r a : Nat) : Bool :=
  let t := attachOf r a
  fmt == 0 || (resolvePair fmt t.rfmt && t.load != 3 && fld r (256 + 128 * a + 55) 9 == 0 &&
    (t.rfmt != 3 || t.target % 4096 == 0))

/-- The bytes of a resolve target (R138, R168): a pitched surface, or an FTC surface with its headers. -/
def targetBytes (x : RCtx) (t : Attach) : Nat :=
  if t.rfmt = 3 then
    let rows := ceilDiv x.height 64
    ftcHeaderSize t.pitch rows + 16384 * (t.pitch * rows)
  else (x.height - 1) * t.pitch * 64 + x.width * resolveBytes t.rfmt

/-- A draw record of 32 bytes is one R151 allows. -/
def drawOk (d : Nat) : Bool :=
  fld d 18 14 == 0 && decide (1 ≤ fld d 128 16) && fld d 144 16 == 0 && fld d 160 32 % 4 == 0 && fld d 224 32 == 0

/-- COUNT of a draw record. -/
def drawCountOf (d : Nat) : Nat := fld d 32 32
/-- INSTANCES of a draw record. -/
def drawInst (d : Nat) : Nat := fld d 128 16

/-- Draw record `i` of a submission, as a number. -/
def drawRec (s : State) (key cmd i : Nat) : Nat := leVal (ctxRd s key (cmd + 32 * i) 32)

/-- The ranges a submission names (R153): draw records, vertex outputs, targets that are loaded or stored. -/
def submitAddrs (x : RCtx) (b : Sub) : List (Nat × Nat) :=
  [(b.cmd, 32 * b.draws), (b.vout, b.stride * b.slots)] ++
  (List.range 5).filterMap (fun a =>
    let t := at0 {} b.att a
    if at0 0 (attFmts x) a ≠ 0 ∧ (t.store ∨ t.load = 1) then some (t.target, targetBytes x t) else none)

/-- The outcome of the checks of a submission: a completion code (0 for none), an address outside the window, or the
submission to queue. -/
inductive SubmitCheck where
  | code (n : Nat)
  | outside (a : Nat)
  | accept (b : Sub)
  deriving DecidableEq, Repr

/-- The stage-2 checks of SUBMIT and TSUBMIT (R148, R150–R153). -/
def checkSubmit (s : State) (key : Nat) (x : RCtx) (a : Nat) : SubmitCheck :=
  if x.faulted then .code 7
  else if 8 ≤ x.subs.length then .code 5
  else if ¬ ctxIn s key a 112 then .outside a
  else
    let r := leVal (ctxRd s key a 112)
    let b : Sub := { fence := x.nextFence, cmd := fld r 0 32, draws := fld r 32 32, vout := fld r 64 32,
                     stride := fld r 96 16, slots := fld r 128 32, att := (List.range 5).map (attachOf r) }
    if b.draws = 0 ∨ 1048576 < b.draws ∨ b.vout % 16 ≠ 0 ∨ b.stride < 16 ∨ 4096 < b.stride ∨ b.stride % 16 ≠ 0 ∨
        fld r 112 16 ≠ 0 ∨ fld r 160 96 ≠ 0 then .code 4
    else if ¬ (List.range 5).all (fun i => attachOk (at0 0 (attFmts x) i) r i) then .code 4
    else
      match firstOutside s key (submitAddrs x b) with
      | some bad => .outside bad
      | none =>
        let ds := (List.range b.draws).map (drawRec s key b.cmd)
        if ¬ ds.all drawOk then .code 4
        else
          match firstOutside s key (ds.map (fun d => (fld d 96 32, if fld d 96 32 = 0 then 0 else 4 * drawCountOf d))) with
          | some bad => .outside bad
          | none =>
            if b.slots < (ds.map (fun d => drawCountOf d * drawInst d)).sum then .code 0x0101
            else .accept { b with invs := (ds.map (fun d => ceilDiv (drawCountOf d) 16 * drawInst d)).sum }

/-- A checked submission is queued (R154), its allotted quadrants woken; a context whose statistics block lies outside its
window faults with kind 0x01 at its first render (R142). -/
def enqueueSub (s : State) (key : Nat) (x : RCtx) (b : Sub) : State :=
  let x1 := { x with subs := x.subs ++ [b], nextFence := fenceAfter x.nextFence }
  let s1 := settlePreempt (wakeQuads (setRctx s key (some x1)) x.allot)
  if ctxIn s key x.statsAddr 64 then s1 else missRender s1 key 0 x.statsAddr

/-- SUBMIT (R148, R153). -/
def submit (s : State) (c : Nat) (a : Nat) : State :=
  match rctxOf s c with
  | none => fail s c 0x0100
  | some x =>
    match checkSubmit s c x a with
    | .code n => fail s c n
    | .outside _ => deniedAddr s c
    | .accept b => ok (enqueueSub s c x b) c [b.fence]

/-- DISPATCH (R148, R157): entry, argument, workgroups in X, Y and Z, MAX_WG_TIME. -/
def dispatch (s : State) (c : Nat) (t : Taken) : State :=
  match cctxOf s c with
  | none => fail s c 0x0100
  | some x =>
    let d : Disp := { fence := x.nextFence, entry := argOf t 2, arg := argOf t 3, nx := argOf t 4, ny := argOf t 5,
                      nz := argOf t 6, maxTime := argOf t 7 }
    let dims := [d.nx, d.ny, d.nz].all (fun n => decide (1 ≤ n) && decide (n ≤ 65535))
    if x.faulted then fail s c 7
    else if 8 ≤ x.disps.length then fail s c 5
    else if ¬ dims ∨ d.maxTime = 0 ∨ 50 < d.maxTime ∨ d.entry % 4 ≠ 0 then fail s c 4
    else
      match firstOutside s c [(d.entry, 4), (d.arg, 1)] with
      | some _ => deniedAddr s c
      | none =>
        let x1 := { x with disps := x.disps ++ [d], nextFence := fenceAfter x.nextFence }
        ok (settlePreempt (wakeQuads (setCctx s c (some x1)) x.allot)) c [d.fence]

/-! ### Meanings -/

/-- CTX_CREATE (0x1001). -/
def execCtxCreate (c : Client) (s : State) : Host.Outcome State Fault Refusal :=
  .next (serve s c.val 0x1001 (· == 1) (fun t => ctxCreate s c.val (argOf t 2)))

/-- CTX_DESTROY (0x1002): completes once the context is removed (R156). -/
def execCtxDestroy (c : Client) (s : State) : Host.Outcome State Fault Refusal :=
  .next (serve s c.val 0x1002 (· == 0) (fun _ =>
    if (rctxOf s c.val).isSome then leaveRender s c.val 1 else fail s c.val 0x0100))

/-- SUBMIT (0x1003). -/
def execSubmit (c : Client) (s : State) : Host.Outcome State Fault Refusal :=
  .next (serve s c.val 0x1003 (· == 1) (fun t => submit s c.val (argOf t 2)))

/-- QUERY (0x1004). -/
def execQuery (c : Client) (s : State) : Host.Outcome State Fault Refusal :=
  .next (serve s c.val 0x1004 (· == 0) (fun _ =>
    match rctxOf s c.val with
    | none => fail s c.val 0x0100
    | some x => ok s c.val [x.value, x.subs.length, x.raised, x.late]))

/-- CCTX_CREATE (0x2001). -/
def execCctxCreate (c : Client) (s : State) : Host.Outcome State Fault Refusal :=
  .next (serve s c.val 0x2001 (· == 1) (fun t => cctxCreate s c.val (argOf t 2)))

/-- CCTX_DESTROY (0x2002): completes once the context is removed (R156). -/
def execCctxDestroy (c : Client) (s : State) : Host.Outcome State Fault Refusal :=
  .next (serve s c.val 0x2002 (· == 0) (fun _ =>
    if (cctxOf s c.val).isSome then leaveCompute s c.val 1 else fail s c.val 0x0100))

/-- DISPATCH (0x2003). -/
def execDispatch (c : Client) (s : State) : Host.Outcome State Fault Refusal :=
  .next (serve s c.val 0x2003 (· == 6) (fun t => dispatch s c.val t))

/-- CQUERY (0x2004). -/
def execCquery (c : Client) (s : State) : Host.Outcome State Fault Refusal :=
  .next (serve s c.val 0x2004 (· == 0) (fun _ =>
    match cctxOf s c.val with
    | none => fail s c.val 0x0100
    | some x => ok s c.val [x.value, x.disps.length, x.savedCount]))

end Sys2Proof.Machine
end

