-- ==== Sys2Proof/Machine/Geo.lean ====
section
/-! DEFINITION. The geometry front end: vertex invocations, assembly, clipping, culling and binning into bin memory, and the start and
end of partial renders (R117–R125, R132, R133, R135, R151, R152). -/

namespace Sys2Proof.Machine

/-! ### Tile state, primitive records and bin lists in bin memory (R121–R123) -/

/-- The entry of a tile in the tile-state table of a submission, 128 bits at byte 16 × tile (R123). -/
def tileState (s : State) (b : Sub) (t : Nat) : Nat := fld (binGet s (at0 0 b.table (t / 4))) (128 * (t % 4)) 128

/-- The state with that entry replaced. -/
def setTileState (s : State) (b : Sub) (t v : Nat) : State :=
  let n := at0 0 b.table (t / 4)
  binSet s n (setFld (binGet s n) (128 * (t % 4)) 128 v)

/-- HEAD of a tile-state entry. -/
def tsHead (v : Nat) : Nat := fld v 0 17
/-- TAIL of a tile-state entry. -/
def tsTail (v : Nat) : Nat := fld v 32 17
/-- ISSUED of a tile-state entry. -/
def tsIssued (v : Nat) : Nat := fld v 64 16
/-- DONE of a tile-state entry. -/
def tsDone (v : Nat) : Nat := fld v 80 16
/-- SAVED of a tile-state entry. -/
def tsSaved (v : Nat) : Bool := bitOf v 96
/-- LAST_CORE of a tile-state entry. -/
def tsCore (v : Nat) : Nat := fld v 104 4

/-- A primitive record of one block (R121). -/
def recordBlock (seq state type : Nat) (back : Bool) (v : List (Int × Int × Nat × Nat)) (tx0 ty0 tx1 ty1 : Nat) : Nat :=
  let vert := fun i => match v[i]? with
    | some (x, y, z, a) => ofInt 24 x + 2 ^ 32 * ofInt 24 y + 2 ^ 64 * (z % 2 ^ 32) + 2 ^ 96 * (a % 2 ^ 32)
    | none => 0
  seq % 2 ^ 32 + 2 ^ 32 * (state % 65536) + 2 ^ 48 * (type % 4) + 2 ^ 50 * b2n back + 2 ^ 64 * vert 0 + 2 ^ 192 * vert 1 +
    2 ^ 320 * vert 2 + 2 ^ 448 * (tx0 % 256 + 256 * (ty0 % 256) + 65536 * (tx1 % 256) + 2 ^ 24 * (ty1 % 256))

/-- SEQ of a primitive record. -/
def recSeq (r : Nat) : Nat := fld r 0 32
/-- STATE of a primitive record. -/
def recState (r : Nat) : Nat := fld r 32 16
/-- TYPE of a primitive record. -/
def recType (r : Nat) : Nat := fld r 48 2
/-- Vertex `i` of a primitive record on the screen, in 1/256 pixel. -/
def recPos (r i : Nat) : Int × Int := (toInt 24 (fld r (64 + 128 * i) 24), toInt 24 (fld r (96 + 128 * i) 24))
/-- Depth of vertex `i`, binary32. -/
def recZ (r i : Nat) : Nat := fld r (128 + 128 * i) 32
/-- ATTR of vertex `i`. -/
def recAttr (r i : Nat) : Nat := fld r (160 + 128 * i) 32

/-- Entries in use of a list block. -/
def listUsed (v : Nat) : Nat := fld v 17 4

/-- The entries of the list that begins at a block, each a 32-bit word; at most `fuel` blocks are followed (R122). -/
def listEntries (s : State) : Nat → Nat → List Nat
  | 0, _ => []
  | fuel + 1, n =>
    if n = 0 then []
    else
      let v := binGet s n
      (rangeFrom 1 (listUsed v)).map (fun i => fld v (32 * i) 32) ++ listEntries s fuel (fld v 0 17)

/-- The entries of a tile's list, in order. -/
def tileEntries (s : State) (b : Sub) (t : Nat) : List Nat := listEntries s 131072 (tsHead (tileState s b t))

/-- An entry of KIND 0 for a primitive record. -/
def primEntry (block : Nat) : Nat := block
/-- A reload marker with its TOKEN (R133). -/
def markerEntry (token : Nat) : Nat := token % 65536 + 2 ^ 30

/-- The TOKEN of a tile's reload marker, if its list starts with one. -/
def tileToken (s : State) (b : Sub) (t : Nat) : Option Nat :=
  match tileEntries s b t with
  | e :: _ => if fld e 30 2 = 1 then some (fld e 0 16) else none
  | [] => none

/-- Whether a tile's list is empty or its tail block is full, so that an entry needs a block (R132). -/
def needsBlock (s : State) (b : Sub) (t : Nat) : Bool :=
  let v := tileState s b t
  tsHead v == 0 || listUsed (binGet s (tsTail v)) == 15

/-- An entry appended to a tile's list. -/
def appendEntry (s : State) (units : List Nat) (key : Nat) (b : Sub) (t e : Nat) : State :=
  let v := tileState s b t
  let tail := tsTail v
  let u := listUsed (binGet s tail)
  if tsHead v ≠ 0 ∧ u < 15 then
    binSet s tail (setFld (setFld (binGet s tail) (32 * (u + 1)) 32 e) 17 4 (u + 1))
  else
    match allocBlock s units { ctx := key, fence := b.fence, kind := 2, tile := t } (2 ^ 17 + 2 ^ 32 * e) with
    | none => s
    | some (n, s1) =>
      if tsHead v = 0 then setTileState s1 b t (setFld (setFld v 0 17 n) 32 17 n)
      else setTileState (binSet s1 tail (setFld (binGet s1 tail) 0 17 n)) b t (setFld v 32 17 n)

/-- A primitive's entry appended to a tile: the list of a tile whose image is saved starts with a reload marker (R133). -/
def binEntry (s : State) (units : List Nat) (key : Nat) (b : Sub) (block t : Nat) : State :=
  let v := tileState s b t
  let s1 := if tsSaved v ∧ tsHead v = 0 then appendEntry s units key b t (markerEntry (tsIssued v)) else s
  appendEntry s1 units key b t (primEntry block)

/-! ### Vertices (R117, R151, R152) -/

/-- Whether the draw records of a submission lie in the window still. -/
def drawsIn (s : State) (key : Nat) (b : Sub) : Bool := ctxIn s key b.cmd (32 * b.draws)

/-- Vertex invocations of a draw. -/
def drawInvs (d : Nat) : Nat := ceilDiv (drawCountOf d) 16 * drawInst d

/-- Vertex output slots of a draw. -/
def drawSlots (d : Nat) : Nat := drawCountOf d * drawInst d

/-- The draw of invocation `n` of a submission: its number, the invocation within it, and its first output slot. -/
def invAt (s : State) (key : Nat) (b : Sub) (n : Nat) : Option (Nat × Nat × Nat) :=
  ((List.range b.draws).foldl (fun (a : Option (Nat × Nat × Nat) × Nat × Nat) i =>
    let d := drawRec s key b.cmd i
    match a.1 with
    | some _ => a
    | none =>
      if n < a.2.1 + drawInvs d then (some (i, n - a.2.1, a.2.2), a.2)
      else (none, a.2.1 + drawInvs d, a.2.2 + drawSlots d)) (none, 0, 0)).1

/-- The first output slot of a draw. -/
def drawSlot (s : State) (key : Nat) (b : Sub) (i : Nat) : Nat :=
  ((List.range i).map (fun j => drawSlots (drawRec s key b.cmd j))).sum

/-- Invocations of a submission up to and with draw `i`. -/
def invsThrough (s : State) (key : Nat) (b : Sub) (i : Nat) : Nat :=
  ((List.range (i + 1)).map (fun j => drawInvs (drawRec s key b.cmd j))).sum

/-- Whether every vertex of draw `i` is shaded. -/
def drawShaded (s : State) (key : Nat) (b : Sub) (i : Nat) : Bool :=
  decide (min b.invs (invsThrough s key b i) ≤ b.nextInv) && !b.vertexRunning.contains i

/-! ### Assembly, clipping and culling (R118, R119, R151) -/

/-- Primitives that `n` vertices of a topology make (R151). -/
def primCount (topo n : Nat) : Nat := if topo = 0 then n / 3 else if topo = 1 then n - 2 else if topo = 2 then n / 2 else n

/-- TYPE of the primitives of a topology (R121). -/
def primType (topo : Nat) : Nat := topo - 1

/-- The vertex references of primitive `i` of a topology; an odd triangle of a strip has its first two exchanged, so that all face one
way. PRESUMED: log 204. -/
def primRefs (topo i : Nat) : List Nat :=
  if topo = 0 then [3 * i, 3 * i + 1, 3 * i + 2]
  else if topo = 1 then (if i % 2 = 0 then [i, i + 1, i + 2] else [i + 1, i, i + 2])
  else if topo = 2 then [2 * i, 2 * i + 1] else [i]

/-- A primitive or piece of one on the screen: its type, and of each vertex X and Y in 1/256 pixel, depth and attribute address. -/
structure Piece where
  type : Nat := 0
  verts : List (Int × Int × Nat × Nat) := []
  deriving DecidableEq, Repr

/-- A clip position after perspective divide and viewport transform, if it lies before the eye and within the guard band of
±32,768 pixels: X and Y in 1/256 pixel and the depth, held within 0.0 to 1.0 (R118, R121). PRESUMED: log 204. -/
def toScreen (width height : Nat) (p : List Nat) : Option (Int × Int × Nat) :=
  match fp32 (at0 0 p 0), fp32 (at0 0 p 1), fp32 (at0 0 p 2), fp32 (at0 0 p 3) with
  | .fin x, .fin y, .fin z, .fin w =>
    if w ≤ 0 then none
    else
      let sx := roundFree ((x + w) * ((256 * width : Nat) : Int)) (2 * w.toNat)
      let y1 := if Sys2Proof.Config.viewportDown then y else -y
      let sy := roundFree ((y1 + w) * ((256 * height : Nat) : Int)) (2 * w.toNat)
      let band := fun (v : Int) => decide (-(2 ^ 23 : Nat) ≤ v) && decide (v < (2 ^ 23 : Nat))
      if band sx && band sy then some (sx, sy, fpEncode 8 23 (clampI 0 w z) w.toNat) else none
  | _, _, _, _ => none

/-- Whether a clip position is certainly not before the eye. -/
def behind (p : List Nat) : Bool := match fp32 (at0 0 p 3) with | .fin w => decide (w ≤ 0) | _ => false

/-- Twice the signed area of a triangle, in 1/65,536 square pixel. -/
def area2 (a b c : Int × Int) : Int := (b.1 - a.1) * (c.2 - a.2) - (c.1 - a.1) * (b.2 - a.2)

/-- The position of vertex `i` of a piece. -/
def Piece.pos (p : Piece) (i : Nat) : Int × Int := match p.verts[i]? with | some (x, y, _, _) => (x, y) | none => (0, 0)

/-- The signed area of a piece that is a triangle. -/
def Piece.area (p : Piece) : Int := area2 (p.pos 0) (p.pos 1) (p.pos 2)

/-- Whether a triangle is back-facing (R121, R125). -/
def Piece.back (p : Piece) : Bool :=
  p.type == 0 && (if Sys2Proof.Config.frontClockwise then decide (p.area < 0) else decide (0 < p.area))

/-- What clipping leaves of a primitive (R118): nothing when it is wholly behind the eye; the primitive itself when it lies wholly before
it and within the guard band; else pieces whose making the manual leaves open. `attr` gives the vertices' attribute addresses. -/
def clipPieces (width height type : Nat) (pos : List (List Nat)) (attr : List Nat) : List Piece :=
  if pos.all behind then []
  else
    let scr := pos.map (toScreen width height)
    if scr.all Option.isSome then
      [{ type := type, verts := (scr.filterMap id).zip attr |>.map (fun q => (q.1.1, q.1.2.1, q.1.2.2, q.2)) }]
    else (Sys2Proof.Config.clipped type pos width height).map (fun vs =>
      { type := type, verts := vs.map (fun q => (toInt 24 q.1.toNat, toInt 24 q.2.1.toNat, q.2.2.1.toNat, at0 0 attr q.2.2.2.val)) })

/-- Whether a piece's area overlaps a rectangle, given in 1/256 pixel: a triangle whose bounds and whose edges' inner sides reach into
it; a line or point with its widened outline. PRESUMED: log 205. -/
def Piece.hits (p : Piece) (x0 y0 x1 y1 : Int) : Bool :=
  if p.type ≠ 0 then
    Sys2Proof.Config.outlineHits p.type (p.verts.map (fun v => (v.1, v.2.1))) x0 y0 x1 y1
  else
    let l := [p.pos 0, p.pos 1, p.pos 2]
    let sg : Int := if p.area < 0 then -1 else 1
    let corners := [(x0, y0), (x1, y0), (x0, y1), (x1, y1)]
    l.any (fun q => decide (q.1 < x1)) && l.any (fun q => decide (x0 < q.1)) &&
      l.any (fun q => decide (q.2 < y1)) && l.any (fun q => decide (y0 < q.2)) &&
      [(0, 1), (1, 2), (2, 0)].all (fun e => corners.any (fun c => decide (0 < sg * area2 (p.pos e.1) (p.pos e.2) c)))

/-- The tiles of the target that a piece overlaps. -/
def Piece.tiles (p : Piece) (x : RCtx) : List Nat :=
  (List.range (tileCount x)).filter (fun t =>
    let tx : Int := ((t % tileCols x * 16384 : Nat) : Int)
    let ty : Int := ((t / tileCols x * 16384 : Nat) : Int)
    p.hits tx ty (tx + 16384) (ty + 16384))

/-- The draw state of an index, 256 bits (R125). -/
def drawState (s : State) (key : Nat) (x : RCtx) (st : Nat) : Nat := leVal (ctxRd s key (x.dsBase + 32 * st) 32)

/-- Whether a draw state has its reserved bits 0 (R125). -/
def drawStateOk (d : Nat) : Bool := fld d 92 4 == 0 && fld d 112 16 == 0 && fld d 192 64 == 0

/-- Whether a piece is discarded (R118): a triangle without area, one that CULL names, or a piece outside the scissor. -/
def Piece.dropped (p : Piece) (d : Nat) : Bool :=
  let cull := fld d 69 2
  (p.type == 0 && (p.area == 0 || (if p.back then bitOf cull 0 else bitOf cull 1))) ||
    !p.hits (256 * (fld d 128 16 : Nat)) (256 * (fld d 144 16 : Nat)) (256 * ((fld d 160 16 + 1 : Nat)))
      (256 * ((fld d 176 16 + 1 : Nat)))

/-- The pieces of a draw in stream order, each with its primitive's number within the draw; a primitive of which nothing is left is
there as `none`, so that it keeps its sequence number (R119, R151). -/
def drawPieces (s : State) (key : Nat) (x : RCtx) (b : Sub) (i : Nat) : List (Nat × Option Piece) :=
  let d := drawRec s key b.cmd i
  let topo := fld d 16 2
  let n := drawCountOf d
  let per := primCount topo n
  let slot0 := drawSlot s key b i
  (List.range (per * drawInst d)).flatMap (fun k =>
    let slots := (primRefs topo (k % per)).map (fun r => b.vout + (slot0 + k / per * n + r) * b.stride)
    let pos := slots.map (fun a => (List.range 4).map (fun j => ctxWord s key (a + 4 * j)))
    match clipPieces x.width x.height (primType topo) pos (slots.map (fun a => (a + 16) % 2 ^ 32)) with
    | [] => [(k, none)]
    | l => l.map (fun p => (k, some p)))

/-! ### Binning (R118, R119, R124, R125, R132, R133) -/

/-- The tile-state table of a render is allocated and set to its Reset values at the start of the render (R123, R124); `none` when the
share does not hold it. -/
def allocTable (units : List Nat) (key fence : Nat) : Nat → State → Option (List Nat × State)
  | 0, s => some ([], s)
  | n + 1, s =>
    match allocBlock s units { ctx := key, fence := fence, kind := 0 } 0 with
    | none => none
    | some (k, s1) => (allocTable units key fence n s1).map (fun r => (k :: r.1, r.2))

/-- One piece binned: its record is written, and an entry appended to each tile it overlaps; `none` when the share does not hold the
reservation (R132). -/
def binPiece (s : State) (key : Nat) (x : RCtx) (b : Sub) (seq st : Nat) (p : Piece) (tiles : List Nat) : Option State :=
  let need := 1 + (tiles.filter (needsBlock s b)).length
  if blocksFree s x.units < need then none
  else
    let cols := tiles.map (· % tileCols x)
    let rows := tiles.map (· / tileCols x)
    let r := recordBlock seq st p.type p.back p.verts (cols.foldl min 255) (rows.foldl min 255) (cols.foldl max 0) (rows.foldl max 0)
    match allocBlock s x.units { ctx := key, fence := b.fence, kind := 1 } r with
    | none => none
    | some (n, s1) => some (tiles.foldl (fun t tl => binEntry t x.units key b n tl) s1)

/-- The submission at the front end after one more piece: the sequence numbers given, and one more primitive binned if it was. -/
def stepFront (s : State) (key seq : Nat) (binned : Bool) : State :=
  match rctxOf s key with
  | none => s
  | some x =>
    match frontSub x with
    | none => s
    | some b =>
      let b1 := { b with pieceAt := b.pieceAt + 1, primsIn := seq, primsBinned := b.primsBinned + b2n binned,
                         peak := max b.peak (blocksUsed s key) }
      setRctx s key (some (putSub x b1))

/-- The pieces of a draw binned in order until one does not fit or faults the context (kinds 0x01, 0x08, 0x09 of R141); whether all
were. -/
def binPieces (key : Nat) (x : RCtx) (b : Sub) (st : Nat) : List (Nat × Option Piece) → State → State × Bool
  | [], s => (s, true)
  | (k, p) :: r, s =>
    let seq := b.seqBase + k + 1
    if 4294967295 < seq then (faultRender s key 9 0 0 0 0 0, false)
    else
      match p with
      | none => binPieces key x b st r (stepFront s key seq false)
      | some q =>
        let a := x.dsBase + 32 * st
        if x.dsCount ≤ st then (faultRender s key 8 0 0 0 0 0, false)
        else if ¬ ctxIn s key a 32 then (missRender s key 0 a, false)
        else
          let d := drawState s key x st
          if ¬ drawStateOk d then (faultRender s key 8 0 0 0 0 0, false)
          else if q.dropped d then binPieces key x b st r (stepFront s key seq false)
          else
            match q.tiles x with
            | [] => binPieces key x b st r (stepFront s key seq false)
            | ts =>
              match binPiece s key x b seq st q ts with
              | some s1 => binPieces key x b st r (stepFront s1 key seq true)
              | none =>
                match (rctxOf s key).bind frontSub, rctxOf s key with
                | some b1, some x1 => (setRctx s key (some (putSub x1 { b1 with full := 1 })), false)
                | _, _ => (s, false)

/-- The front end bins the draws of a render whose vertices are shaded, in order, at most `fuel` of them. -/
def binDraws (key : Nat) : Nat → State → State
  | 0, s => s
  | fuel + 1, s =>
    match rctxOf s key with
    | none => s
    | some x =>
      match frontSub x with
      | none => s
      | some b =>
        let i := b.drawsBinned
        if b.draws ≤ i ∨ ¬ drawShaded s key b i then s
        else
          let d := drawRec s key b.cmd i
          let out := b.vout + drawSlot s key b i * b.stride
          if 0 < drawSlots d ∧ ¬ ctxIn s key out (drawSlots d * b.stride) then missRender s key 0 out
          else
            let r := binPieces key x b (fld d 0 16) ((drawPieces s key x b i).drop b.pieceAt) s
            if ¬ r.2 then r.1
            else
              match (rctxOf r.1 key).bind frontSub, rctxOf r.1 key with
              | some b1, some x1 =>
                let b2 := { b1 with drawsBinned := i + 1, pieceAt := 0, seqBase := b1.primsIn }
                binDraws key fuel (setRctx r.1 key (some (putSub x1 b2)))
              | _, _ => r.1

/-- The front end of a context goes on: the table of the render is allocated, then its shaded draws are binned, until a reservation
fails. Binning stands still during a partial render and while one waits (R133, R135). -/
def advance (s : State) (key : Nat) : State :=
  match rctxOf s key with
  | none => s
  | some x =>
    match frontSub x with
    | none => s
    | some b =>
      if b.phase ≠ 0 ∨ b.full = 2 ∨ x.faulted ∨ ¬ pdOn s 2 then s
      else if ¬ drawsIn s key b then missRender s key 0 b.cmd
      else if b.table ≠ [] then binDraws key (b.draws + 1) (setRctx s key (some (putSub x { b with full := 0 })))
      else
        match allocTable x.units key b.fence (ceilDiv (tileCount x) 4) s with
        | none => s
        | some (l, s1) =>
          binDraws key (b.draws + 1) (setRctx s1 key (some (putSub x { b with table := l, full := 0, peak := blocksUsed s1 key })))

/-- The submission with every tile to be dispatched in the pass that begins: all tiles in a final render, those with bins
in a partial one. -/
def openPass (s : State) (x : RCtx) (b : Sub) (phase : Nat) : Sub :=
  let b1 := (List.range (tileCount x)).foldl (fun a t =>
    setPlace a t (if phase = 2 ∨ tsHead (tileState s b t) ≠ 0 then 0 else 2)) b
  { b1 with phase := phase, full := 0 }

/-- BINNING_END: the last primitives of the render are binned, and its tiles become dispatchable (R118). -/
def binningEnd (s : State) (key : Nat) : State :=
  let s1 := advance s key
  match rctxOf s1 key with
  | none => s1
  | some x =>
    match frontSub x with
    | none => s1
    | some b =>
      if b.phase ≠ 0 ∨ b.drawsBinned < b.draws ∨ b.table = [] ∨ x.leaving ≠ 0 ∨ x.faulted then s1
      else
        let took := b.vertexStart.map (s1.time - ·)
        settlePreempt (setRctx s1 key (some (putSub x { openPass s1 x b 2 with binTook := took })))

/-- A partial render that waits begins once every earlier render has resolved its last tile (R135). -/
def openPartial (s : State) (key : Nat) : State :=
  match rctxOf s key with
  | none => s
  | some x =>
    match frontSub x with
    | none => s
    | some b =>
      let earlier := x.subs.takeWhile (fun y => y.fence != b.fence)
      if b.full = 2 ∧ b.phase = 0 ∧ earlier.all (fun y => y.ended.isSome || decide (3 ≤ y.phase)) then
        settlePreempt (setRctx s key (some (putSub x (openPass s x b 1))))
      else s

/-- PARTIAL_START: the reservation of the primitive that the front end is at fails; the event is raised, and the partial render begins
unless an earlier render has tiles to resolve (R132, R133, R135, R143). -/
def partialStart (s : State) (key : Nat) : State :=
  let s1 := advance s key
  match rctxOf s1 key with
  | none => s1
  | some x =>
    match frontSub x with
    | none => s1
    | some b =>
      if b.full = 1 ∧ b.phase = 0 ∧ x.leaving = 0 then
        let x1 := { putSub x { b with full := 2 } with partials := satInc x.partials 1 }
        openPartial (raise (setRctx s1 key (some x1)) .partialStart [key]) key
      else s1

/-- PARTIAL_DONE: the last flush has been issued, every primitive record is freed and binning resumes (R133). -/
def partialDone (s : State) (key : Nat) : State :=
  match rctxOf s key with
  | none => s
  | some x =>
    match frontSub x with
    | some b =>
      if b.phase = 1 ∧ passDone x b then
        let s1 := freeBlocks (setRctx s key (some (putSub x { b with phase := 0 })))
          (fun u => u.ctx == key && u.fence == b.fence && u.kind == 1)
        advance (raise s1 .partialDone [key]) key
      else s
    | none => s

/-- BINNING_END. -/
def execBinningEnd (k : Nat) (s : State) : Host.Outcome State Fault Refusal := .next (binningEnd s k)

/-- PARTIAL_START. -/
def execPartialStart (k : Nat) (s : State) : Host.Outcome State Fault Refusal := .next (partialStart s k)

/-- PARTIAL_DONE. -/
def execPartialDone (k : Nat) (s : State) : Host.Outcome State Fault Refusal := .next (partialDone s k)

end Sys2Proof.Machine
end

