-- ==== Sys2Proof/Machine/Raster.lean ====
section
/-! DEFINITION. Tiles on raster cores: tile memory, dispatch, rasterisation and pixel groups, the pixel interlock, pixel access, resolve
and flush (R115–R117, R125–R131, R133–R139, R144). -/

namespace Sys2Proof.Machine

/-! ### Tile memory (R126) -/

/-- The key of a sample's raw value in tile memory. -/
def tmKey (slot att sample pixel : Nat) : Nat := ((slot * 5 + att) * 4 + sample) * 4096 + pixel

/-- The raw value of a sample. -/
def tmGet (k : CoreRec) (slot att sample pixel : Nat) : Nat := tget (fun _ => 0) k.tileMem (tmKey slot att sample pixel)

/-- The core with the raw value of a sample replaced. -/
def tmSet (k : CoreRec) (slot att sample pixel v : Nat) : CoreRec :=
  { k with tileMem := tset (fun _ => 0) k.tileMem (tmKey slot att sample pixel) v }

/-- The image of a tile in a slot is replaced: `f` gives the raw value of each attachment, sample and pixel. -/
def tmFill (k : CoreRec) (x : RCtx) (slot : Nat) (f : Nat → Nat → Nat → Nat) : CoreRec :=
  (List.range 5).foldl (fun a at_ =>
    if at0 0 (attFmts x) at_ = 0 then a
    else (List.range (samplesOf x)).foldl (fun b sm =>
      (List.range 4096).foldl (fun c px => tmSet c slot at_ sm px (f at_ sm px)) b) a) k

/-- The target pixel that a tile's pixel is, if it lies within the target. -/
def targetPixel (x : RCtx) (tile px : Nat) : Option (Nat × Nat) :=
  let px_x := tile % tileCols x * 64 + px % 64
  let px_y := tile / tileCols x * 64 + px / 64
  if px_x < x.width ∧ px_y < x.height then some (px_x, px_y) else none

/-- The pixels of a tile of an FTC surface in a context's window. -/
def ftcTile (s : State) (key addr cols rows tile : Nat) : Option (List Nat) :=
  let w0 := ctxWord s key (addr + 16 * tile)
  let slot := addr + ftcHeaderSize cols rows + 16384 * tile
  ftcDecode w0 (ctxWord s key (addr + 16 * tile + 4)) (ctxRd s key slot (64 * min 256 (fld w0 0 9)))

/-- The raw values a tile loads by its attachments' load operations (R137). Pixels beyond the target's edge have no target
to load from, so they are free values. DESIGN CHOICE: log 85. -/
def loadValue (s : State) (key : Nat) (x : RCtx) (b : Sub) (tile att px : Nat) : Nat :=
  let t := at0 {} b.att att
  if t.load = 0 then t.clear0 + (if at0 0 (attFmts x) att = 3 then 2 ^ 32 * t.clear1 else 0)
  else if t.load = 2 then 0
  else
    match targetPixel x tile px with
    | none => Sys2Proof.Config.freeNat (s.free + px) % 2 ^ (8 * tileBytes (at0 0 (attFmts x) att))
    | some (px_x, px_y) =>
      if t.rfmt = 3 then
        let cols := t.pitch
        let ft := px_y / 64 * cols + px_x / 64
        match ftcTile s key t.target cols (ceilDiv x.height 64) ft with
        | some p => fromTarget 3 (at0 0 p (px_y % 64 * 64 + px_x % 64))
        | none => 0
      else
        let n := resolveBytes t.rfmt
        fromTarget t.rfmt (leVal (ctxRd s key (t.target + px_y * t.pitch * 64 + px_x * n) n))

/-- The byte image of a tile in a slot, as the spill area holds it (R126, R134). -/
def tileImage (k : CoreRec) (x : RCtx) (slot : Nat) : List Byte :=
  (List.range 5).flatMap (fun a =>
    let n := tileBytes (at0 0 (attFmts x) a)
    if n = 0 then []
    else (List.range (samplesOf x)).flatMap (fun sm =>
      (List.range 4096).flatMap (fun px => leBytes n (tmGet k slot a sm px))))

/-- The offset of an attachment's sample in a tile image. -/
def imageOff (x : RCtx) (att sample px : Nat) : Nat :=
  4096 * samplesOf x * (((attFmts x).take att).map tileBytes).sum +
    (sample * 4096 + px) * tileBytes (at0 0 (attFmts x) att)

/-! ### Rasterisation (R115, R117, R125)

What a record covers follows from its screen positions, in exact arithmetic; where the manual fixes no rule (sample places, samples on an
edge, lines and points) the answer is free. PRESUMED: log 205. -/

/-- The positions of a record's vertices. -/
def recPoints (r : Nat) : List (Int × Int) := (List.range (3 - recType r)).map (recPos r)

/-- Whether a point, in 1/256 pixel, is covered by a triangle's record. -/
def triCovers (r : Nat) (c : Int × Int) : Bool :=
  let sg : Int := if area2 (recPos r 0) (recPos r 1) (recPos r 2) < 0 then -1 else 1
  [(0, 1), (1, 2), (2, 0)].all (fun e =>
    let p := recPos r e.1
    let q := recPos r e.2
    let v := sg * area2 p q c
    decide (0 < v) || (v == 0 && Sys2Proof.Config.edgeOwns (sg * (q.1 - p.1)) (sg * (q.2 - p.2))))

/-- The place of sample `k` of a pixel of the target, in 1/256 pixel; a single sample is at the centre. -/
def sampleAt (x : RCtx) (px : Nat × Nat) (k : Nat) : Int × Int :=
  let o : Nat × Nat := if x.msaa then
      (let p := Sys2Proof.Config.samplePos ⟨k % 4, Nat.mod_lt _ (by decide)⟩; (p.1.toNat, p.2.toNat)) else (128, 128)
  (((256 * px.1 + o.1 : Nat) : Int), ((256 * px.2 + o.2 : Nat) : Int))

/-- The pixel of the target that a pixel of a tile is, edges of the target apart. -/
def tilePixel (x : RCtx) (tile px : Nat) : Nat × Nat :=
  (tile % tileCols x * 64 + px % 64, tile / tileCols x * 64 + px / 64)

/-- The samples of a pixel of a tile that a record covers within the scissor of its draw state. -/
def coverOf (x : RCtx) (d r tile px : Nat) : Nat :=
  let p := tilePixel x tile px
  if p.1 < fld d 128 16 ∨ fld d 160 16 < p.1 ∨ p.2 < fld d 144 16 ∨ fld d 176 16 < p.2 then 0
  else maskOf ((List.range (samplesOf x)).filter (fun k =>
    let c := sampleAt x p k
    if recType r = 0 then triCovers r c else Sys2Proof.Config.outlineCovers (recType r) (recPoints r) c.1 c.2))

/-- The signed areas that weigh vertices 1 and 2 of a triangle at a pixel's centre, and the whole area, which is positive. -/
def triWeights (r : Nat) (c : Int × Int) : Int × Int × Nat :=
  let a := area2 (recPos r 0) (recPos r 1) (recPos r 2)
  let sg : Int := if a < 0 then -1 else 1
  (sg * area2 (recPos r 0) c (recPos r 2), sg * area2 (recPos r 0) (recPos r 1) c, a.natAbs)

/-- v3, v4 and v5 of a pixel: the weights of vertices 1 and 2 and the interpolated depth, binary32 (R117). -/
def interpolate (r : Nat) (px : Nat × Nat) : Nat × Nat × Nat :=
  let c : Int × Int := (((256 * px.1 + 128 : Nat) : Int), ((256 * px.2 + 128 : Nat) : Int))
  if recType r = 0 then
    let w := triWeights r c
    let z := fun i => match fp32 (recZ r i) with | .fin n => n | _ => 0
    let depth := z 0 * ((w.2.2 : Int) - w.1 - w.2.1) + z 1 * w.1 + z 2 * w.2.1
    (fpEncode 8 23 w.1 w.2.2, fpEncode 8 23 w.2.1 w.2.2, fpEncode 8 23 depth (w.2.2 * 2 ^ 149))
  else if recType r = 1 then
    ((Sys2Proof.Config.lineWeight (recPoints r) c.1 c.2).toNat, 0,
      (Sys2Proof.Config.lineDepth (recPoints r) [recZ r 0, recZ r 1] c.1 c.2).toNat)
  else (0, 0, recZ r 0)

/-- The pixel of lane `i` of a group: its quad numbers run over the tile's 32 × 32 quads in row-major order. -/
def lanePixel (quads : List Nat) (i : Nat) : Nat :=
  let q := at0 0 quads (i / 4)
  (q / 32 * 2 + i % 4 / 2) * 64 + q % 32 * 2 + i % 2

/-- A list cut into pieces of four; at most `fuel` of them. -/
def fours : Nat → List Nat → List (List Nat)
  | 0, _ => []
  | _, [] => []
  | fuel + 1, l => l.take 4 :: fours fuel (l.drop 4)

/-- The pixel groups of a primitive in a tile: its covered quads in raster order, four to a group (R117, R128). DESIGN CHOICE:
log 205. -/
def recordGroups (s : State) (key : Nat) (x : RCtx) (tile block : Nat) : List PixGroup :=
  let r := binGet s block
  let d := drawState s key x (recState r)
  let quads := (List.range 1024).filter (fun q => (List.range 4).any (fun i => coverOf x d r tile (lanePixel [q] i) != 0))
  (fours 256 quads).map (fun l => { block := block, seq := recSeq r, quads := l })

/-- The pixel groups of a tile, in the order of its list. -/
def tileGroups (s : State) (key : Nat) (x : RCtx) (b : Sub) (tile : Nat) : List PixGroup :=
  (tileEntries s b tile).flatMap (fun e => if fld e 30 2 = 0 then recordGroups s key x tile (fld e 0 17) else [])

/-! ### Pixel groups (R117, R128, R129) -/

/-- Whether a group of a smaller sequence number on the core still holds one of the quads (R129). -/
def quadsHeld (k : CoreRec) (slot seq : Nat) (quads : List Nat) : Bool :=
  (List.range 4).any (fun h =>
    match (hartOf k h).group with
    | some g => g.slot == slot && decide (g.seq < seq) && !g.released && g.quads.any quads.contains
    | none => false)

/-- A comparison of DEPTH_FUNC or STENCIL_FUNC (R125). -/
def compareFunc (f a b : Nat) : Bool :=
  if f = 0 then false else if f = 1 then decide (a < b) else if f = 2 then a == b else if f = 3 then decide (a ≤ b)
  else if f = 4 then decide (b < a) else if f = 5 then a != b else if f = 6 then decide (b ≤ a) else true

/-- A stencil operation (R125). -/
def stencilOp (op ref v : Nat) : Nat :=
  if op = 1 then 0 else if op = 2 then ref else if op = 3 then min 255 (v + 1) else if op = 4 then v - 1
  else if op = 5 then 255 - v else if op = 6 then (v + 1) % 256 else if op = 7 then (v + 255) % 256 else v

/-- A stencil value written under the write mask. -/
def stencilWrite (wmask old v : Nat) : Nat := Nat.lor (Nat.land old (255 - wmask)) (Nat.land v wmask)

/-- The early depth and stencil test of one sample (R125, R131): whether it passes, and the depth-stencil raw value after
it. `d` is the draw state, `z` the pixel's depth as binary32. -/
def sampleTest (d ds z raw : Nat) : Bool × Nat :=
  let zc := if ds = 2 then toUnorm 24 (fp32 z) else z
  let old := if ds = 2 then fld raw 0 24 else raw
  let st := if ds = 2 then fld raw 24 8 else 0
  let rmask := fld d 96 8
  let wmask := fld d 104 8
  let ref := fld d 84 8
  let sten := bitOf d 71 && ds == 2
  let sOk := !sten || compareFunc (fld d 72 3) (Nat.land ref rmask) (Nat.land st rmask)
  let zOk := compareFunc (fld d 64 3) zc old
  let op := if ¬ sOk then fld d 75 3 else if ¬ zOk then fld d 78 3 else fld d 81 3
  let st1 := if sten then stencilWrite wmask st (stencilOp op ref st) else st
  let z1 := if sOk ∧ zOk ∧ bitOf d 67 then zc else old
  (sOk && zOk, if ds = 2 then z1 + 2 ^ 24 * st1 else z1)

/-- What the raster unit holds of each lane of a group: its pixel in the tile and its covered samples; lanes past the group's quads have
none. -/
def groupLanes (s : State) (key : Nat) (x : RCtx) (tile : Nat) (g : PixGroup) : List (Nat × Nat) :=
  let r := binGet s g.block
  let d := drawState s key x (recState r)
  (List.range 16).map (fun i =>
    let px := lanePixel g.quads i
    (px, if i < 4 * g.quads.length then coverOf x d r tile px else 0))

/-- The early test of a group's covered samples (R131): the coverage that is left, and the core after the depth-stencil writes. -/
def earlyTest (k : CoreRec) (x : RCtx) (slot tile d r : Nat) (lanes : List (Nat × Nat)) : List Nat × CoreRec :=
  lanes.foldl (fun (a : List Nat × CoreRec) p =>
    let z := (interpolate r (tilePixel x tile p.1)).2.2
    let t := (List.range (samplesOf x)).foldl (fun (b : Nat × CoreRec) sm =>
      if bitOf p.2 sm then
        let u := sampleTest d x.dsfmt z (tmGet b.2 slot 4 sm p.1)
        (if u.1 then b.1 + 2 ^ sm else b.1, tmSet b.2 slot 4 sm p.1 u.2)
      else b) (0, a.2)
    (a.1 ++ [t.1], t.2)) ([], k)

/-- A hart that starts work of a context: registers are those of its entry, all others 0; scratch is zeroed when its last work was
another context's (R116, R117, R152, R157). -/
def enterHart (r : HartRec) (ctx : Nat × Nat) (pc : Nat) (xs : List (Nat × Nat)) (v : Tbl Nat) : HartRec :=
  { x := xs.foldl (fun t p => tset (fun _ => 0) t p.1 (p.2 % 2 ^ 32)) [], v := v, pc := pc, vtype := 0x10, vl := 16,
    scratch := if r.lastCtx = some ctx then r.scratch else [], lastCtx := some ctx }

/-- A vector register set lane by lane. -/
def setVreg (t : Tbl Nat) (r n : Nat) (f : Nat → Nat) : Tbl Nat :=
  (List.range n).foldl (fun a i => tset (fun _ => 0) a (16 * r + i) (f i)) t

/-- A hart starting a pixel group with the coverage that its early test left (R117). -/
def startGroup (r : HartRec) (key slot : Nat) (x : RCtx) (tile d rc : Nat) (g : PixGroup) (cover : List Nat) : HartRec :=
  let n := 4 * g.quads.length
  let at_ := fun i => tilePixel x tile (lanePixel g.quads i)
  let z := fun i => interpolate rc (at_ i)
  let v0 := tset (fun _ => 0) [] 0 (maskOf ((List.range 16).filter (fun i => at0 0 cover i != 0)))
  let v := setVreg (setVreg (setVreg (setVreg (setVreg (setVreg v0 1 n (fun i => (at_ i).1)) 2 n (fun i => (at_ i).2)) 3 n
    (fun i => (z i).1)) 4 n (fun i => (z i).2.1)) 5 n (fun i => (z i).2.2)) 6 n (at0 0 cover)
  let xs := [(10, recAttr rc 0), (11, recAttr rc 1), (12, recAttr rc 2), (13, fld d 32 32), (14, g.seq)]
  { enterHart r (0, key) (fld d 0 32) xs v with
    group := some { slot := slot, seq := g.seq, state := recState rc, quads := g.quads, lanes := 2 ^ n - 1 } }

/-- The next group of a slot is issued to an idle hart (R128). With LATE_Z = 0 the raster unit tests depth and stencil first, and waits
while an earlier group holds one of the quads (R129); a group left without a covered sample is not issued. `none` when nothing can be
issued. DESIGN CHOICE: log 83. -/
def issueNext (s : State) (core slot : Nat) : Option State :=
  let k := coreOf s core
  match slotOf k slot, (List.range 4).find? (hartFree k) with
  | some r, some h =>
    match r.groups, rctxOf s r.ctx with
    | g :: rest, some x =>
      let rc := binGet s g.block
      let a := x.dsBase + 32 * recState rc
      let d := drawState s r.ctx x (recState rc)
      let k1 := setSlot k slot (some { r with groups := rest })
      let lanes := groupLanes s r.ctx x r.tile g
      let go := fun (k2 : CoreRec) (cover : List Nat) =>
        if cover.all (· == 0) then setCore s core k2
        else setCore s core (setHart k2 h (startGroup (hartOf k2 h) r.ctx slot x r.tile d rc g cover))
      if r.waitReload then none
      else if ¬ ctxIn s r.ctx a 32 then some (missRender s r.ctx core a)
      else if bitOf d 68 ∨ x.dsfmt = 0 then some (go k1 (lanes.map (·.2)))
      else if quadsHeld k slot g.seq g.quads then none
      else
        let e := earlyTest k1 x slot r.tile d rc lanes
        some (go e.2 e.1)
    | _, _ => none
  | _, _ => none

/-- The raster unit of a core issues the groups that can be issued, slot by slot; at most `fuel`. -/
def issueGroups (core : Nat) : Nat → State → State
  | 0, s => s
  | fuel + 1, s =>
    match (List.range 4).findSome? (issueNext s core) with
    | some t => issueGroups core fuel t
    | none => s

/-- Every group a core can issue is issued. -/
def issueCore (s : State) (core : Nat) : State :=
  issueGroups core ((((coreOf s core).slots.map (fun p => match p.2 with | some r => r.groups.length | none => 0)).sum) + 1) s

/-! ### Dispatching tiles (R127, R133, R137) -/

/-- A free slot of a core for a context: slots in use must be of contexts with as many slots. -/
def freeSlot (s : State) (k : CoreRec) (x : RCtx) : Option Nat :=
  let same := k.slots.all (fun p =>
    match p.2 with
    | some r => (match rctxOf s r.ctx with | some y => slotCount y == slotCount x | none => true)
    | none => true)
  if same && k.wg.isNone then (List.range (slotCount x)).find? (fun i => (slotOf k i).isNone) else none

/-- A core starts a unit of a render or dispatch: L1 is invalidated when it is another than the one before (R116). -/
def enterUnit (k : CoreRec) (u : Nat × Nat × Nat) : CoreRec :=
  { k with l1 := if k.l1For = some u then k.l1 else [], l1For := some u }

/-- Whether the targets that the load operations of a render read lie in the window. -/
def loadsIn (s : State) (key : Nat) (x : RCtx) (b : Sub) : Bool :=
  (List.range 5).all (fun a =>
    let t := at0 {} b.att a
    at0 0 (attFmts x) a == 0 || t.load != 1 || ctxIn s key t.target (targetBytes x t))

/-- TILE_DISPATCH: the next tile in ascending number goes to an allotted core with a free slot, which loads it unless its
image waits in the spill area (R127, R133, R137). -/
def tileDispatch (s : State) (key core : Nat) : State :=
  match rctxOf s key with
  | none => s
  | some x =>
    match rendering x with
    | none => s
    | some b =>
      let k := coreOf s core
      match nextTile x b, freeSlot s k x, k.picked with
      | some t, some i, some (lvl, c) =>
        if x.leaving ≠ 0 ∨ x.faulted ∨ c ≠ key ∨ ¬ corePowered s core then s
        else
          let v := tileState s b t
          let s1 := setTileState s b t (setFld v 104 4 core)
          let b1 := setPlace b t 1
          let x1 := putSub x { b1 with passes := b1.passes + 1 }
          let slot : SlotRec := { ctx := key, fence := b.fence, tile := t, waitReload := tsSaved v,
                                  groups := tileGroups s key x b t, start := s.time }
          let k1 := enterUnit { k with picked := none, served := tset (fun _ => none) k.served lvl (some (candKey key false)) }
            (0, key, b.fence)
          let k2 := setSlot k1 i (some slot)
          if tsSaved v then setRctx (setCore s1 core k2) key (some x1)
          else if ¬ loadsIn s key x b then missRender (setRctx s1 key (some x1)) key core (at0 {} b.att 0).target
          else
            let k3 := tmFill k2 x i (fun a _ px => loadValue s key x b t a px)
            issueCore (setRctx (setCore { s1 with free := s.free + 4096 } core k3) key (some x1)) core
      | _, _, _ => s

/-- TILE_RELOAD: the tile's image is read from the spill area once DONE equals TOKEN; a tile without new entries, whose list holds no
marker, waits for its last flush the same way (R133, R137). -/
def tileReload (s : State) (core tile : Nat) : State :=
  let k := coreOf s core
  match (List.range 4).findSome? (fun i =>
      match slotOf k i with
      | some r => if r.tile = tile ∧ r.waitReload then some (i, r) else none
      | none => none) with
  | none => s
  | some (i, r) =>
    match rctxOf s r.ctx with
    | none => s
    | some x =>
      match fenceSub x r.fence with
      | none => s
      | some b =>
        let v := tileState s b tile
        if tsDone v = (tileToken s b tile).getD (tsIssued v) then
          let base := x.spill + 4096 * footprint x * tile
          let val := fun a sm px =>
            let n := tileBytes (at0 0 (attFmts x) a)
            leVal (ctxRd s r.ctx (base + imageOff x a sm px) n)
          if ¬ ctxIn s r.ctx base (4096 * footprint x) then missRender s r.ctx core base
          else
            let k1 := tmFill (setSlot k i (some { r with waitReload := false })) x i val
            let x1 := { x with spillBytes := x.spillBytes + 4096 * footprint x }
            issueCore (setRctx (setCore s core k1) r.ctx (some x1)) core
        else s

/-- Whether a slot's tile has no work left on its core. -/
def slotDone (k : CoreRec) (i : Nat) (r : SlotRec) : Bool :=
  !r.waitReload && r.groups.isEmpty &&
  (List.range 4).all (fun h => match (hartOf k h).group with | some g => g.slot != i | none => true)

/-- An attachment of a tile is resolved to its target (R138). -/
def resolveAtt (s : State) (key : Nat) (x : RCtx) (t : Attach) (k : CoreRec) (slot tile att : Nat) : State :=
  let fmt := at0 0 (attFmts x) att
  let px := fun p => toTarget fmt t.rfmt ((List.range (samplesOf x)).map (fun sm => tmGet k slot att sm p))
  if t.rfmt = 3 then
    let pixels := (List.range 4096).map (fun p => if (targetPixel x tile p).isSome then px p else 0)
    let e := ftcEncode pixels
    let ft := tile / tileCols x * t.pitch + tile % tileCols x
    let s1 := ctxWr s key (t.target + 16 * ft) (leBytes 4 e.1 ++ leBytes 4 e.2.1 ++ leBytes 8 0)
    ctxWr s1 key (t.target + ftcHeaderSize t.pitch (ceilDiv x.height 64) + 16384 * ft) e.2.2
  else
    let n := resolveBytes t.rfmt
    (List.range 4096).foldl (fun u p =>
      match targetPixel x tile p with
      | some (px_x, px_y) => ctxWr u key (t.target + px_y * t.pitch * 64 + px_x * n) (leBytes n (px p))
      | none => u) s

/-- The stored attachments of a tile are resolved; the address of a target no longer in the window, if one is. -/
def resolveTile (s : State) (key : Nat) (x : RCtx) (b : Sub) (k : CoreRec) (slot tile : Nat) : State × Option Nat :=
  (List.range 5).foldl (fun (a : State × Option Nat) i =>
    let t := at0 {} b.att i
    if at0 0 (attFmts x) i = 0 ∨ ¬ t.store ∨ a.2.isSome then a
    else if ctxIn a.1 key t.target (targetBytes x t) then (resolveAtt a.1 key x t k slot tile i, none)
    else (a.1, some t.target)) (s, none)

/-- A tile pass that ends with the tile's flush: the image goes to the spill area, ISSUED counts, SAVED is set, and the tile's list blocks
are freed (R133). -/
def flushTile (s : State) (core slot : Nat) (k : CoreRec) (r : SlotRec) (x : RCtx) (b : Sub) : State :=
  let base := x.spill + 4096 * footprint x * r.tile
  if ¬ ctxIn s r.ctx base (4096 * footprint x) then missRender s r.ctx core base
  else
    let v := tileState s b r.tile
    let s1 := setTileState (ctxWr s r.ctx base (tileImage k x slot)) b r.tile
      (setBit (setFld (setFld (setFld v 0 17 0) 32 17 0) 64 16 (tsIssued v + 1)) 96 true)
    let s2 := freeBlocks s1 (fun u => u.ctx == r.ctx && u.fence == b.fence && u.kind == 2 && u.tile == r.tile)
    let b1 := setPlace b r.tile 2
    let x1 := putSub x { b1 with passTime := b1.passTime + (s.time - r.start) }
    setRctx s2 r.ctx (some { x1 with spillBytes := x1.spillBytes + 4096 * footprint x })

/-- A tile pass that ends with the tile's resolve; with the last one every block of the render is freed, and a partial render that waited
for it begins (R135, R138). -/
def finishTile (s : State) (core slot : Nat) (k : CoreRec) (r : SlotRec) (x : RCtx) (b : Sub) : State :=
  let res := resolveTile s r.ctx x b k slot r.tile
  match res.2 with
  | some bad => missRender res.1 r.ctx core bad
  | none =>
    let b1 := setPlace b r.tile 2
    let b2 := { b1 with passTime := b1.passTime + (s.time - r.start) }
    if passDone x b2 then
      let s1 := setRctx res.1 r.ctx (some (putSub x { b2 with phase := 3, table := [], place := [] }))
      openPartial (advance (freeBlocks s1 (fun u => u.ctx == r.ctx && u.fence == b.fence)) r.ctx) r.ctx
    else setRctx res.1 r.ctx (some (putSub x b2))

/-- TILE_PASS_END: the tile pass ends with its resolve or flush issued, and the core no longer owns the tile (R127, R133,
R138). -/
def tilePassEnd (s : State) (core tile : Nat) : State :=
  let k := coreOf s core
  match (List.range 4).findSome? (fun i =>
      match slotOf k i with
      | some r => if r.tile = tile ∧ slotDone k i r then some (i, r) else none
      | none => none) with
  | none => s
  | some (i, r) =>
    match rctxOf s r.ctx with
    | none => s
    | some x =>
      match fenceSub x r.fence with
      | none => s
      | some b =>
        let s1 := setCore s core (setSlot k i none)
        if b.phase = 1 then flushTile s1 core i k r x b else finishTile s1 core i k r x b

/-- FLUSH_ACKNOWLEDGED: the memory controller has acknowledged a flush's last write, and DONE becomes ISSUED (R133). -/
def flushAcknowledged (s : State) (key tile : Nat) : State :=
  match rctxOf s key with
  | none => s
  | some x =>
    match x.subs.find? (fun b => b.table != [] && tsDone (tileState s b tile) != tsIssued (tileState s b tile)) with
    | some b =>
      let v := tileState s b tile
      setTileState s b tile (setFld v 80 16 (tsIssued v))
    | none => s

/-- RENDER_DONE: every resolve write is acknowledged and the statistics block written (R139, R142). The measures the governor uses are
those of this render (R163). -/
def renderDone (s : State) (key : Nat) : State :=
  match rctxOf s key with
  | none => s
  | some x =>
    match x.subs.find? (fun b => b.phase == 3 && b.ended.isNone) with
    | some b =>
      let tau := if b.passes = 0 then none else some (b.passTime / b.passes)
      let b1 := { b with phase := 4 }
      let x1 := { putSub x b1 with renders := (x.renders + 1) % 2 ^ 32, tau := tau, binTime := b.binTook }
      raise (writeStats (setRctx s key (some x1)) key x1 b1) .renderDone [key]
    | none => s

/-! ### Pixel access (R129–R131) -/

/-- A decoded pixel-access instruction (R130). -/
structure PxOp where
  funct : Nat
  vd : Nat
  ch : Nat
  smp : Nat
  vm : Bool
  att : Nat
  conv : Nat
  deriving DecidableEq, Repr

/-- The fields of a pixel-access word, when R130 allows it on a context with these attachments. -/
def pxDecode (x : RCtx) (w : Nat) : Option PxOp :=
  let o : PxOp := { funct := fld w 12 3, vd := fld w 7 5, ch := fld w 20 2, smp := fld w 22 2, vm := bitOf w 25,
                    att := fld w 26 3, conv := fld w 29 3 }
  let fmt := at0 0 (attFmts x) o.att
  if fld w 0 7 ≠ 0x2B ∨ 3 < o.funct ∨ fld w 15 5 ≠ 0 ∨ bitOf w 24 ∨ 4 < o.att ∨ 2 < o.conv ∨ fmt = 0 ∨ samplesOf x ≤ o.smp ∨
      (2 ≤ o.funct ∧ o.vd ≠ 0) then none
  else if o.conv = 0 then (if o.ch = 0 ∨ (fmt = 3 ∧ o.ch = 1) then some o else none)
  else
    match tileChannel fmt o.ch with
    | none => none
    | some (_, _, k) => if o.funct < 2 ∧ o.conv = 2 ∧ (k = .f16 ∨ k = .f32) ∧ fmt < 10 then none else some o

/-- The lanes a pixel-access instruction acts on (R131). -/
def activeLanes (r : HartRec) (g : GroupRun) (o : PxOp) : List Nat :=
  (List.range 16).filter (fun i =>
    bitOf g.lanes i && !bitOf g.killed i && (o.vm || bitOf (tget (fun _ => 0) r.v 0) i))

/-- The value PX.LD gives from a sample's raw value. -/
def pxRead (fmt : Nat) (o : PxOp) (raw : Nat) : Nat :=
  if o.conv = 0 then fld raw (32 * o.ch) 32
  else
    match tileChannel fmt o.ch with
    | some (lo, n, k) => if o.conv = 1 then chToFp32 k n (fld raw lo n) else fld raw lo n
    | none => 0

/-- A sample's raw value after PX.ST of a value: CONV 1 and 2 change only the selected channel. An unsigned integer above the
channel's codes keeps its low bits. -/
def pxWrite (fmt : Nat) (o : PxOp) (raw v : Nat) : Nat :=
  if o.conv = 0 then setFld raw (32 * o.ch) 32 v
  else
    match tileChannel fmt o.ch with
    | some (lo, n, k) => setFld raw lo n (if o.conv = 1 then chFromFp32 k n v else v)
    | none => raw

/-- A pixel-access instruction carried out on a hart whose group may proceed. -/
def pxPerform (k : CoreRec) (h : Nat) (x : RCtx) (g : GroupRun) (o : PxOp) : CoreRec :=
  let r := hartOf k h
  let fmt := at0 0 (attFmts x) o.att
  let lanes := activeLanes r g o
  let done := { g with accessed := true, waiting := none }
  if o.funct = 0 then
    let v := lanes.foldl (fun t i =>
      tset (fun _ => 0) t (16 * o.vd + i) (pxRead fmt o (tmGet k g.slot o.att o.smp (lanePixel g.quads i)))) r.v
    setHart k h { r with v := v, group := some done, pc := (r.pc + 4) % 2 ^ 32 }
  else
    let k1 := lanes.foldl (fun a i =>
      let px := lanePixel g.quads i
      tmSet a g.slot o.att o.smp px
        (pxWrite fmt o (tmGet a g.slot o.att o.smp px) (tget (fun _ => 0) r.v (16 * o.vd + i)))) k
    setHart k1 h { r with group := some done, pc := (r.pc + 4) % 2 ^ 32 }

/-- What a hart works on: a pixel group of a render context, a vertex invocation of one, or a workgroup of a client. -/
inductive HartWork where
  | idle
  | group (key : Nat) (x : RCtx) (fence : Nat) (g : GroupRun)
  | vertex (key : Nat) (x : RCtx) (v : VertexRun)
  | compute (c : Nat)
  deriving DecidableEq, Repr

/-- The work of a hart. -/
def hartWork (s : State) (core h : Nat) : HartWork :=
  let k := coreOf s core
  let r := hartOf k h
  match r.group, r.vertex, k.wg with
  | some g, _, _ =>
    (match slotOf k g.slot with
     | some t => (match rctxOf s t.ctx with | some x => .group t.ctx x t.fence g | none => .idle)
     | none => .idle)
  | none, some v, _ => (match rctxOf s v.ctx with | some x => .vertex v.ctx x v | none => .idle)
  | none, none, some w => if w.phase = 0 ∧ ¬ r.ended then .compute w.ctx else .idle
  | _, _, _ => .idle

/-- A fault found on a hart faults the context it works for, with the sequence number of the primitive being shaded (R140–R142). -/
def faultHart (s : State) (core h kind addr pc : Nat) : State :=
  match hartWork s core h with
  | .idle => s
  | .group key _ _ g => faultRender s key kind core h addr pc g.seq
  | .vertex key _ _ => faultRender s key kind core h addr pc 0
  | .compute c => faultCompute s c kind

/-- A hart past an instruction of four bytes. -/
def nextPc (r : HartRec) : HartRec := { r with pc := (r.pc + 4) % 2 ^ 32 }

/-- A pixel-access word of a hart that shades a group: an access after PX.REL is fault 0x04; a first access waits while an earlier group
holds a quad; PX.REL releases the group's quads, so that groups behind it are issued (R129–R131, R141). -/
def pxGroup (s : State) (core h w : Nat) (x : RCtx) (g : GroupRun) (o : PxOp) : State :=
  let k := coreOf s core
  let r := hartOf k h
  if o.funct < 2 then
    if g.released then faultHart s core h 4 0 r.pc
    else if ¬ g.accessed ∧ quadsHeld k g.slot g.seq g.quads then
      setCore s core (setHart k h { r with group := some { g with waiting := some w } })
    else setCore s core (pxPerform k h x g o)
  else if o.funct = 2 then
    issueCore (setCore s core (setHart k h (nextPc { r with group := some { g with released := true } }))) core
  else
    let g1 := { g with killed := maskOf (bitsOf 16 g.killed ++ activeLanes r g o) }
    setCore s core (setHart k h (nextPc { r with group := some g1 }))

/-- A pixel-access word executed by a hart, the command naming the function `f3`: an illegal one, and any on a context without
attachments, faults with kind 0x02 (R130). A vertex invocation has no pixel group, so a legal word there only advances the pc.
DEDUCED: log 208. -/
def pxExec (s : State) (core h f3 w : Nat) : State :=
  let k := coreOf s core
  let r := hartOf k h
  if r.halted ∨ fld w 0 7 ≠ 0x2B ∨ (fld w 12 3 ≤ 3 ∧ fld w 12 3 ≠ f3) then s
  else
    match hartWork s core h with
    | .idle => s
    | .compute _ => faultHart s core h 2 0 r.pc
    | .vertex _ x _ =>
      if (pxDecode x w).isSome then setCore s core (setHart k h (nextPc r)) else faultHart s core h 2 0 r.pc
    | .group _ x _ g =>
      if g.waiting ≠ none then s
      else
        match pxDecode x w with
        | none => faultHart s core h 2 0 r.pc
        | some o => pxGroup s core h w x g o

/-- PIXEL_INTERLOCK_GRANT: a waiting pixel access proceeds once no earlier group holds its quads; the cycles it waited are added to STALL
(R129, R142). -/
def interlockGrant (s : State) (core h cycles : Nat) : State :=
  let k := coreOf s core
  match hartWork s core h with
  | .group key x fence g =>
    (match g.waiting, openSub x fence with
     | some w, some b =>
       if quadsHeld k g.slot g.seq g.quads then s
       else
         match pxDecode x w with
         | none => s
         | some o =>
           setRctx (setCore s core (pxPerform k h x g o)) key (some (putSub x { b with stall := satInc b.stall cycles }))
     | _, _ => s)
  | _ => s

/-- HART_ECALL: the hart's current invocation ends. A pixel group releases its quads and the next groups are issued; a
vertex invocation ends, and the front end goes on with what it shaded; a hart of a workgroup waits for the other three (R116, R118, R129,
R157). -/
def hartEcall (s : State) (core h : Nat) : State :=
  let k := coreOf s core
  let r := hartOf k h
  if r.halted then s
  else
    match hartWork s core h with
    | .idle => s
    | .group _ _ _ g => if g.waiting ≠ none then s else issueCore (setCore s core (setHart k h { r with group := none })) core
    | .vertex key x v =>
      let s1 := setCore s core (setHart k h { r with vertex := none })
      let s2 := (match openSub x v.fence with
        | some b => advance (setRctx s1 key (some (putSub x { b with vertexRunning := b.vertexRunning.erase v.draw }))) key
        | none => s1)
      issueCore s2 core
    | .compute _ => setCore s core (setHart k h { r with ended := true })

/-- EBREAK: the hart halts while invasive debug of the open world is in force, else its context faults with kind 0x07
(R116, R141, R391). -/
def hartEbreak (s : State) (core h pc : Nat) : State :=
  let k := coreOf s core
  let r := hartOf k h
  if r.halted then s
  else if bitOf (rd s E.dbg_DEBUG_STATE) 0 then setCore s core (setHart k h { r with halted := true, pc := pc })
  else faultHart s core h 7 0 pc

/-- The tile memory of a slot is scrubbed to zero (R144). -/
def scrubSlot (k : CoreRec) (slot : Nat) : CoreRec := { k with tileMem := tclear (fun a => a / 81920 == slot) k.tileMem }

/-- TILE_ECC_ERROR: a single-bit error is corrected and counted, its event raised at most once per millisecond per core; a
double-bit error faults the context whose tile holds the word, and the slot is scrubbed (R143, R144). -/
def tileEcc (s : State) (core slot : Nat) (double : Bool) : State :=
  let k := coreOf s core
  match slotOf k slot with
  | none => s
  | some r =>
    match rctxOf s r.ctx with
    | none => s
    | some x =>
      if double then
        let s1 := faultRender (raise s .eccUncorrected [core]) r.ctx 5 core 0 0 0 0
        setCore s1 core (scrubSlot (coreOf s1 core) slot)
      else
        let s1 := setRctx s r.ctx (some { x with eccCorrected := (x.eccCorrected + 1) % 2 ^ 32 })
        let due := match k.eccAt with | some t => decide (t + msCounts ≤ s.time) | none => true
        if due then raise (setCore s1 core { k with eccAt := some s.time }) .eccCorrected [core] else s1

/-! ### Meanings -/

/-- TILE_DISPATCH. -/
def execTileDispatch (k : Nat) (core : RCore) (s : State) : Host.Outcome State Fault Refusal :=
  .next (tileDispatch s k core.val)

/-- TILE_RELOAD. -/
def execTileReload (core : RCore) (tile : Nat) (s : State) : Host.Outcome State Fault Refusal :=
  .next (tileReload s core.val tile)

/-- TILE_PASS_END. -/
def execTilePassEnd (core : RCore) (tile : Nat) (s : State) : Host.Outcome State Fault Refusal :=
  .next (tilePassEnd s core.val tile)

/-- FLUSH_ACKNOWLEDGED. -/
def execFlushAcknowledged (k : Nat) (tile : Nat) (s : State) : Host.Outcome State Fault Refusal :=
  .next (flushAcknowledged s k tile)

/-- RENDER_DONE. -/
def execRenderDone (k : Nat) (s : State) : Host.Outcome State Fault Refusal := .next (renderDone s k)

/-- PX.LD (R131). -/
def execPxLd (core : RCore) (h : Hart) (w : Word) (s : State) : Host.Outcome State Fault Refusal :=
  .next (pxExec s core.val h.val 0 w.toNat)

/-- PX.ST (R131). -/
def execPxSt (core : RCore) (h : Hart) (w : Word) (s : State) : Host.Outcome State Fault Refusal :=
  .next (pxExec s core.val h.val 1 w.toNat)

/-- PX.REL (R131). -/
def execPxRel (core : RCore) (h : Hart) (w : Word) (s : State) : Host.Outcome State Fault Refusal :=
  .next (pxExec s core.val h.val 2 w.toNat)

/-- PX.KILL (R131). -/
def execPxKill (core : RCore) (h : Hart) (w : Word) (s : State) : Host.Outcome State Fault Refusal :=
  .next (pxExec s core.val h.val 3 w.toNat)

/-- PIXEL_INTERLOCK_GRANT. -/
def execPixelInterlockGrant (core : RCore) (h : Hart) (cycles : Word) (s : State) : Host.Outcome State Fault Refusal :=
  .next (interlockGrant s core.val h.val cycles.toNat)

/-- HART_ECALL. -/
def execHartEcall (core : RCore) (h : Hart) (s : State) : Host.Outcome State Fault Refusal :=
  .next (hartEcall s core.val h.val)

/-- EBREAK. -/
def execEbreak (core : RCore) (h : Hart) (pc : Word) (s : State) : Host.Outcome State Fault Refusal :=
  .next (hartEbreak s core.val h.val pc.toNat)

/-- TILE_ECC_ERROR. -/
def execTileEccError (core : RCore) (slot : Fin 4) (double : Bool) (s : State) : Host.Outcome State Fault Refusal :=
  .next (tileEcc s core.val slot.val double)

end Sys2Proof.Machine
end

