-- ==== Sys2Proof/Machine/Compose.lean ====
section
/-! DEFINITION. Flips, flip groups and holds (R187–R192), the filigree compiler (R193), fetch and pool sums (R177, R178),
write-back requests (R196), and the fences that flips wait for (R154–R156). -/

namespace Sys2Proof.Machine

/-! ### Records -/

/-- A facet beside its entries. -/
def facetOf (s : State) (h f : Nat) : FacetRec := tget (fun _ => {}) s.compose.facets (8 * h + f)
/-- The state with a facet replaced. -/
def setFacet (s : State) (h f : Nat) (x : FacetRec) : State :=
  { s with compose := { s.compose with facets := tset (fun _ => {}) s.compose.facets (8 * h + f) x } }
/-- A head beside its entries. -/
def headOf (s : State) (h : Nat) : HeadRec := tget (fun _ => {}) s.heads.heads h
/-- The state with a head replaced. -/
def setHead (s : State) (h : Nat) (x : HeadRec) : State :=
  { s with heads := { s.heads with heads := tset (fun _ => {}) s.heads.heads h x } }
/-- A receiver beside its entries. -/
def rxOf (s : State) (r : Nat) : RxRec := tget (fun _ => {}) s.ports.rx r
/-- The state with a receiver replaced. -/
def setRx (s : State) (r : Nat) (x : RxRec) : State :=
  { s with ports := { s.ports with rx := tset (fun _ => {}) s.ports.rx r x } }

/-- A value of a head's timing in force, by its subindex 1 to 12. -/
def timOf (s : State) (h sub : Nat) : Nat := at0 0 (headOf s h).tim (sub - 1)
/-- Active width in force. -/
def hActive (s : State) (h : Nat) : Nat := timOf s h 1
/-- Active height in force. -/
def vActive (s : State) (h : Nat) : Nat := timOf s h 5
/-- Lines of a frame in force (R199). -/
def vTotal (s : State) (h : Nat) : Nat := timOf s h 5 + timOf s h 6 + timOf s h 7 + timOf s h 8
/-- Pixel clocks of a line in force (R199). -/
def hTotal (s : State) (h : Nat) : Nat := timOf s h 1 + timOf s h 2 + timOf s h 3 + timOf s h 4
/-- Whether a head is in command mode. -/
def commandMode (s : State) (h : Nat) : Bool := timOf s h 12 == 1

/-- The power domain of a head (R13). -/
def headDomain (h : Nat) : Nat := if h < 8 then 7 else 8

/-- A head has latch points while it scans and is not blanked for a mode change (R190, R215). -/
def hasLatch (s : State) (h : Nat) : Bool :=
  (rd s (E.head_STATE h) == 2 || rd s (E.head_STATE h) == 4) && pdOn s (headDomain h)

/-- Whether a facet is enabled. -/
def facetOn (s : State) (h f : Nat) : Bool := rd s (E.facet_ENABLE h f) == 1

/-! ### Fetch and pool sums over a reading `v` of the entries (R177, R178, R246) -/

/-- The effective width of a facet. -/
def effWidth (v : Nat → Nat) (h f : Nat) : Nat := v (E.facet_SRC_W h f) * widthFactor (v (E.facet_FORMAT h f))

/-- The pool lines of a facet. -/
def facetPool (v : Nat → Nat) (h f : Nat) : Nat :=
  if v (E.facet_ENABLE h f) = 1 then v (E.facet_LINES h f) * ceilDiv (effWidth v h f) 2048 / 4 else 0

/-- The bytes a facet fetches per frame, when it is enabled and fed from DRAM. -/
def facetFetch (v : Nat → Nat) (slice : Bool) (h f : Nat) : Nat :=
  if v (E.facet_ENABLE h f) = 1 ∧ ¬ slice then
    v (E.facet_SRC_W h f) * v (E.facet_SRC_H h f) * fetchBytes2 (v (E.facet_FORMAT h f)) / 2 else 0

/-- A cameo layer of a head as the engraving declares it: x, y, width, height, format. -/
def cameoLayer (s : State) (h layer : Nat) : List Nat :=
  if s.cameo.engraving.valid then tget (fun _ => []) s.cameo.engraving.layers (2 * h + layer) else []

/-- The pool lines of a head's cameo layers. -/
def cameoPool (s : State) (h : Nat) : Nat :=
  ((List.range 2).map (fun l => ceilDiv (at0 0 (cameoLayer s h l) 2) 2048)).sum

/-- The bytes a head's cameo layers fetch per frame. -/
def cameoFetch (s : State) (h : Nat) : Nat :=
  ((List.range 2).map (fun l => at0 0 (cameoLayer s h l) 2 * at0 0 (cameoLayer s h l) 3 * 4)).sum

/-- Whether a facet is served in slice mode, and from its camera, under a reading of the entries. -/
def inSlice (s : State) (v : Nat → Nat) (h f : Nat) : Bool :=
  (facetOf s h f).slice.isSome && v (E.facet_SOURCE h f) == 1 && v (E.facet_DIRECT_EN h f) != 1

/-- The pool lines of an enabled head. -/
def headPool (s : State) (v : Nat → Nat) (h : Nat) : Nat :=
  ((List.range 8).map (facetPool v h)).sum + (if v (E.head_ENABLE h) = 1 then cameoPool s h else 0)

/-- The left side of R178 without write-back. -/
def headFetch (s : State) (v : Nat → Nat) (h : Nat) : Nat :=
  ((List.range 8).map (fun f => facetFetch v (inSlice s v h f) h f)).sum + cameoFetch s h

/-- Active pixels of a head under a reading. -/
def activePixels (v : Nat → Nat) (h : Nat) : Nat := v (E.head_H_ACTIVE h) * v (E.head_V_ACTIVE h)

/-- The left side of R178. -/
def fetchBytes (s : State) (v : Nat → Nat) (h : Nat) : Nat :=
  headFetch s v h + (if (headOf s h).wb.isSome then 4 * activePixels v h else 0)

/-- The status entries that follow from the geometry: POOL_LINES, POOL_USED, POOL_FREE, FETCH_BYTES and FETCH_LIMIT. -/
def updateSums (s : State) : State :=
  let v := rd s
  let used := ((List.range 16).map (headPool s v)).sum
  (List.range 16).foldl (fun t h =>
    let on := v (E.head_ENABLE h) = 1
    let t1 := (List.range 8).foldl (fun u f => wr u (E.facet_POOL_LINES h f) (facetPool v h f)) t
    let t2 := wr (wr t1 (E.head_POOL_USED h) (headPool s v h)) (E.head_POOL_FREE h) (192 - used)
    wr (wr t2 (E.head_FETCH_BYTES h) (if on then fetchBytes s v h else 0)) (E.head_FETCH_LIMIT h)
      (if on then 16 * activePixels v h else 0)) s

/-- Heads placed on the eight slices, each on the lowest slice that leaves room for those after it (R19): the slice of each
head, none where they do not fit. A slice with the load of a lower one is not tried again. -/
def placeFrom (clock : Nat → Nat) : List Nat → List Nat → Option (List (Nat × Nat))
  | [], _ => some []
  | h :: r, load =>
    (List.range 8).findSome? (fun i =>
      let l := at0 0 load i
      if l + clock h ≤ 600000 ∧ ¬ (load.take i).contains l then
        (placeFrom clock r (setAt load i (l + clock h))).map ((h, i) :: ·)
      else none)

/-- The placement of the enabled heads under a reading of the entries. DESIGN CHOICE: log 67. -/
def placeSlices (v : Nat → Nat) : Option (List (Nat × Nat)) :=
  placeFrom (fun h => v (E.head_PIXEL_CLOCK h)) ((List.range 16).filter (fun h => v (E.head_ENABLE h) == 1))
    (List.replicate 8 0)

/-- SLICE of every head follows from the placement (R183). -/
def updateSlices (s : State) : State :=
  let put := (placeSlices (rd s)).getD []
  (List.range 16).foldl (fun t h =>
    wr t (E.head_SLICE h) (match put.find? (fun p => p.1 == h) with | some p => p.2 | none => 0xFF)) s

/-! ### The filigree compiler (R193) -/

/-- The bank firmware compiles from a head's geometry: bands cut at every edge, steps from the lowest Z. -/
def compileBank (s : State) (h : Nat) : List Nat :=
  let v := rd s
  let height := v (E.head_V_ACTIVE h)
  let fs := sortBy (fun a b => decide (v (E.facet_Z h a) ≤ v (E.facet_Z h b))) ((List.range 8).filter (facetOn s h))
  let top := fun f => v (E.facet_DST_Y h f)
  let bottom := fun f => v (E.facet_DST_Y h f) + v (E.facet_DST_H h f)
  let cuts := sortBy (fun a b => decide (a ≤ b)) ((0 :: height :: fs.map top ++ fs.map bottom).filter (fun y => decide (y ≤ height)))
  let edges := cuts.foldl (fun (l : List Nat) y => if l.getLast? = some y then l else l ++ [y]) []
  (edges.zip (edges.drop 1)).flatMap (fun p =>
    let here := fs.filter (fun f => decide (top f ≤ p.1) && decide (p.2 ≤ bottom f))
    bandEntry (p.2 - p.1) here.length (p.2 == height) ::
      here.map (fun f => stepEntry f (v (E.facet_ALPHA_MODE h f)) (v (E.facet_DST_X h f))
        (v (E.facet_DST_X h f) + v (E.facet_DST_W h f) - 1)))

/-- A bank's bytes as FILIGREE shows them. -/
def bankBytes (bank : List Nat) : List Byte := bank.flatMap (leBytes 8)

/-- A newly compiled bank becomes the active one (R194). -/
def installBank (s : State) (h : Nat) : State :=
  let x := headOf s h
  let bank := compileBank s h
  let s1 := setHead s h { x with oldBank := x.bank, bank := bank, faulty := false, faulted := false }
  dput (bumpWrap s1 (E.head_FILIGREE_GEN h)) (E.head_FILIGREE h) (bankBytes bank)

/-! ### Fences (R154–R156) -/

/-- The device-held fence of a client's context: its value and the status of the newest signalled submission. -/
def fenceHeld (s : State) (c : Nat) (compute : Bool) : Nat × Nat :=
  if compute then (match cctxOf s c with | some x => (x.value, x.status) | none => (0, 0))
  else (match rctxOf s c with | some x => (x.value, x.status) | none => (0, 0))

/-- Whether the fence an entry awaits has signalled. -/
def entrySignalled (s : State) (c : Nat) (e : FlipEntry) : Bool := fenceReached (fenceHeld s c e.compute).1 e.fence

/-- Whether the fence an entry awaits is the newest signalled one and ended with a status other than OK. -/
def entryFailed (s : State) (c : Nat) (e : FlipEntry) : Bool :=
  let w := fenceHeld s c e.compute
  w.1 != 0 && w.1 == e.fence && w.2 != 0

/-- The heads a group names. -/
def groupHeads (g : FlipGroup) : List Nat := (List.range 16).filter (fun h => g.entries.any (fun e => e.head == h))

/-- Whether a group names a facet. -/
def namesFacet (g : FlipGroup) (h f : Nat) : Bool := g.entries.any (fun e => e.head == h && e.facet == f)

/-- Whether two groups share a facet. -/
def sharesFacet (a b : FlipGroup) : Bool := a.entries.any (fun e => namesFacet b e.head e.facet)

/-- Whether a group is ready: taken on no head, every fence signalled. -/
def groupReady (s : State) (g : FlipGroup) : Bool := g.taken.isEmpty && g.entries.all (entrySignalled s g.client)

/-- The state with the pending groups replaced. -/
def setGroups (s : State) (l : List FlipGroup) : State := { s with compose := { s.compose with groups := l } }

/-- Whether two records are of one group. -/
def sameGroup (a b : FlipGroup) : Bool := a.client == b.client && a.gen == b.gen

/-- The state without a group. -/
def dropGroup (s : State) (g : FlipGroup) : State := setGroups s (s.compose.groups.filter (fun x => !sameGroup g x))

/-- The state with a group's record replaced. -/
def putGroup (s : State) (g : FlipGroup) : State :=
  setGroups s (s.compose.groups.map (fun x => if sameGroup g x then g else x))

/-- STATUS, REASON, FIRST_HEAD and TIME of a group record are written (R188). -/
def writeGroup (s : State) (g : FlipGroup) (status reason first : Nat) : State :=
  match g.record with
  | none => s
  | some a => winWr s g.client (a + 4) (leBytes 4 (status + 256 * reason + 65536 * first) ++ leBytes 8 s.time)

/-- STATUS alone is written, the other fields as they stand. -/
def writeGroupStatus (s : State) (g : FlipGroup) (status first : Nat) : State :=
  match g.record with
  | none => s
  | some a => winWr s g.client (a + 4) (leBytes 4 (status + 65536 * first))

/-- A group is discarded with a reason (R190, R191). -/
def discardGroup (s : State) (g : FlipGroup) (reason : Nat) : State :=
  raise (setEvent (writeGroup (dropGroup s g) g 2 reason 0) g.client 3) .groupDiscarded [g.client, g.gen, reason]

/-- Whether an entry of a taken group has its effect: the facet is enabled, fed from memory and not direct, the client's
right stands, and no other client holds the facet (R186, R191). -/
def entryLive (s : State) (g : FlipGroup) (e : FlipEntry) : Bool :=
  facetOn s e.head e.facet && rd s (E.facet_SOURCE e.head e.facet) == 0 && rd s (E.facet_DIRECT_EN e.head e.facet) == 0 &&
    headRight s g.client e.head && facetRight s g.client e.head e.facet &&
    (rd s (E.facet_HOLDER e.head e.facet) == g.client || rd s (E.facet_HOLDER e.head e.facet) == 0xFFFF)

/-- The frame an entry shows. -/
def shownOf (g : FlipGroup) (e : FlipEntry) : Shown :=
  { client := g.client, gen := g.gen, addr := e.addr, addr2 := e.addr2, pitch := e.pitch, xform := e.xform }

/-- A group's buffers on head `h` are latched (R190). -/
def latchEntries (s : State) (g : FlipGroup) (h : Nat) : State :=
  g.entries.foldl (fun t e =>
    if e.head = h ∧ entryLive s g e then
      setFacet (bump t (E.facet_FLIPS h e.facet)) h e.facet
        { facetOf t h e.facet with latched := some (some (shownOf g e)), lateRun := 0, nextStale := false }
    else t) s

/-- Head `h` takes a group (R190): its buffers are latched; the first take writes FIRST_HEAD and TIME, the last STATUS 1. -/
def takeOne (s : State) (g : FlipGroup) (h : Nat) : State × FlipGroup :=
  let s1 := raise (bump (latchEntries s g h) (E.head_GROUPS_TAKEN h)) .flipTaken [h, g.client, g.gen]
  let g1 := { g with taken := g.taken ++ [h] }
  let s2 := if g.taken.isEmpty then writeGroup s1 g1 0 0 h else s1
  if (groupHeads g1).all g1.taken.contains then
    (raise (setEvent (writeGroupStatus (dropGroup s2 g1) g1 1 (g1.taken.headD 0)) g1.client 3) .groupDone
      [g1.client, g1.gen], g1)
  else (putGroup s2 g1, g1)

/-- Head `h` takes a group; at the first take the group's heads without latch points take it too (R190). -/
def takeGroup (s : State) (g : FlipGroup) (h : Nat) : State :=
  let first := g.taken.isEmpty
  let r := takeOne s g h
  if first then
    ((groupHeads g).filter (fun k => k != h && !hasLatch s k)).foldl (fun a k => takeOne a.1 a.2 k) r |>.1
  else r.1

/-- The older groups of a client, taken on no head, that share a facet with a taken group are discarded (R190). -/
def discardOlder (s : State) (g : FlipGroup) : State :=
  let older := (s.compose.groups.takeWhile (fun x => !sameGroup g x)).filter (fun x =>
    x.client == g.client && x.taken.isEmpty && sharesFacet x g)
  older.foldl (fun t x => discardGroup t x 2) s

/-- Groups none of whose heads has latch points and whose fences have all signalled are taken on every head at once, the
newest first and older ones discarded (R190). At most `fuel` are taken. -/
def settleGroups : Nat → State → State
  | 0, s => s
  | fuel + 1, s =>
    match (s.compose.groups.filter (fun g =>
        groupReady s g && (groupHeads g).all (fun h => !hasLatch s h))).reverse with
    | [] => s
    | g :: _ =>
      match groupHeads g with
      | [] => s
      | h :: _ => settleGroups fuel (takeGroup (discardOlder s g) g h)

/-- What a fence's signal does to flip groups: one that failed discards its untaken groups, and groups without latch points
are taken (R190, R191). -/
def fenceToGroups (s : State) : State :=
  let bad := s.compose.groups.filter (fun g => g.taken.isEmpty && g.entries.any (entryFailed s g.client))
  let s1 := bad.foldl (fun t g => discardGroup t g 1) s
  settleGroups s1.compose.groups.length s1

/-- A fence record is written, then the doorbell of its kind is set (R154, R155). A record no longer in the window is a
window violation, which faults the context (R37). -/
def writeFence (s : State) (key addr value status kind : Nat) (compute : Bool) : State :=
  let inside := ctxIn s key addr 16
  let s1 := if inside then ctxWr s key addr (fenceBytes value status kind s.time) else windowViolation s key addr
  let s2 := if key < 4096 then setEvent s1 key (if compute then 2 else 1) else s1
  if inside then s2 else if compute then faultCompute s2 key 1 else faultRender s2 key 1 0 0 0 0 0

/-- The first submission of a render context signals with a status and fault kind. -/
def signalRender (s : State) (key : Nat) (x : RCtx) (b : Sub) (rest : List Sub) (status kind : Nat) : State :=
  let x1 := { x with value := b.fence, status := status, faultKind := if status = 1 then kind else x.faultKind,
                     fenceTime := s.time, subs := rest }
  let s1 := freeBlocks (setRctx s key (some x1)) (fun u => u.ctx == key && u.fence == b.fence)
  let s2 := if b.adopted then raise s1 .govRelease [key, b.fence] else s1
  fenceToGroups (writeFence s2 key x.fenceAddr b.fence status kind false)

/-- The first dispatch of a compute context signals. -/
def signalCompute (s : State) (c : Nat) (x : CCtx) (b : Disp) (rest : List Disp) (status kind : Nat) : State :=
  let x1 := { x with value := b.fence, status := status, faultKind := kind, fenceTime := s.time, disps := rest }
  fenceToGroups (writeFence (setCctx s c (some x1)) c x.fenceAddr b.fence status kind true)

/-- FENCE_SIGNAL of a render context: its oldest submission has ended or is past RENDER_DONE. -/
def fenceRender (s : State) (key : Nat) : State :=
  match rctxOf s key with
  | none => s
  | some x =>
    match x.subs with
    | [] => s
    | b :: rest =>
      match b.ended with
      | some (st, kind) => if subStarted s key b.fence then s else settleRaised (signalRender s key x b rest st kind)
      | none => if b.phase = 4 then settleRaised (signalRender s key x b rest 0 0) else s

/-- FENCE_SIGNAL of a compute context: its oldest dispatch has ended. -/
def fenceCompute (s : State) (c : Nat) : State :=
  match cctxOf s c with
  | none => s
  | some x =>
    match x.disps with
    | [] => s
    | b :: rest =>
      match b.ended with
      | some (st, kind) => signalCompute s c x b rest st kind
      | none => s

/-- Every submission left in a render context signals with STATUS 3 in value order (R156). -/
def abandonRender (key : Nat) : Nat → State → State
  | 0, s => s
  | n + 1, s =>
    match rctxOf s key with
    | some x =>
      (match x.subs with
       | [] => s
       | b :: rest => abandonRender key n (signalRender s key x b rest 3 0))
    | none => s

/-- Every dispatch left in a compute context signals with STATUS 3 in value order (R156). -/
def abandonCompute (c : Nat) : Nat → State → State
  | 0, s => s
  | n + 1, s =>
    match cctxOf s c with
    | some x =>
      (match x.disps with
       | [] => s
       | b :: rest => abandonCompute c n (signalCompute s c x b rest 3 0))
    | none => s

/-- CONTEXT_REMOVED of a render context: its started work has ended, its submissions are abandoned, its bin blocks are freed
with it, and a CTX_DESTROY that waits completes (R156). -/
def removeRender (s : State) (key : Nat) : State :=
  match rctxOf s key with
  | none => s
  | some x =>
    if x.leaving = 0 ∨ renderStarted s key then s
    else
      let s1 := settleRaised (freeBlocks (setRctx (dropRenderAll (abandonRender key x.subs.length s) key (fun _ => true)) key none) (fun u => u.ctx == key))
      if x.leaving = 1 ∧ key < 4096 then serve s1 key 0x1002 (· == 0) (fun _ => ok s1 key []) else s1

/-- CONTEXT_REMOVED of a compute context. -/
def removeCompute (s : State) (c : Nat) : State :=
  match cctxOf s c with
  | none => s
  | some x =>
    if x.leaving = 0 ∨ computeStarted s c then s
    else
      let s1 := setCctx (abandonCompute c x.disps.length s) c none
      if x.leaving = 1 then serve s1 c 0x2002 (· == 0) (fun _ => ok s1 c []) else s1

/-! ### Flip requests (R187–R189) -/

/-- A transform of six words from a number, the first lowest. -/
def xformOf (v : Nat) : List Int := (List.range 6).map (fun i => toInt 32 (fld v (32 * i) 32))

/-- The determinant of a transform's 2 × 2 part. -/
def xformDet (x : List Int) : Int := at0 0 x 0 * at0 0 x 4 - at0 0 x 1 * at0 0 x 3

/-- An entry of 48 bytes as a number (R188), and whether its reserved fields are 0. -/
def flipEntryOf (v : Nat) : FlipEntry × Bool :=
  ({ head := fld v 0 4, facet := fld v 4 3, compute := bitOf v 7, fence := fld v 32 32, addr := fld v 64 32,
     addr2 := fld v 96 32, pitch := fld v 128 16, xform := xformOf (fld v 192 192) },
   fld v 8 24 == 0 && fld v 144 16 == 0 && fld v 160 32 == 0)

/-- The first and the past-the-end byte of a source rectangle in each plane of a buffer (R167, R168). -/
def planeSpans (fmt addr addr2 pitch x y w h : Nat) : List (Nat × Nat) :=
  let span := fun a bytes x0 y0 wd ht => (a + y0 * pitch * 64 + x0 * bytes, a + (y0 + ht - 1) * pitch * 64 + (x0 + wd) * bytes)
  if fmt = 8 then
    let rows := ceilDiv (y + h) 64
    [(addr, addr + ftcHeaderSize pitch rows + 16384 * (pitch * rows))]
  else if fmt = 5 then [span addr 1 x y w h, span addr2 1 x (y / 2) w (h / 2)]
  else if fmt = 6 then [span addr 2 x y w h, span addr2 2 x (y / 2) w (h / 2)]
  else [span addr (fetchBytes2 fmt / 2) x y w h]

/-- Whether a buffer's addresses and pitch are as R167 and R168 want them for a facet's source rectangle. -/
def bufferOk (v : Nat → Nat) (h f addr addr2 pitch : Nat) : Bool :=
  let fmt := v (E.facet_FORMAT h f)
  let right := v (E.facet_SRC_X h f) + v (E.facet_SRC_W h f)
  let row := if fmt = 5 then right else if fmt = 6 then 2 * right else right * fetchBytes2 fmt / 2
  if fmt = 8 then addr % 4096 == 0 && decide (ceilDiv right 64 ≤ pitch)
  else addr % 64 == 0 && ((fmt != 5 && fmt != 6) || addr2 % 64 == 0) && decide (row ≤ pitch * 64)

/-- The first byte of a buffer outside a client's window over the source rectangle, if one lies there. -/
def bufferOutside (s : State) (c h f addr addr2 pitch : Nat) : Option Nat :=
  let v := rd s
  let spans := planeSpans (v (E.facet_FORMAT h f)) addr addr2 pitch (v (E.facet_SRC_X h f)) (v (E.facet_SRC_Y h f))
    (v (E.facet_SRC_W h f)) (v (E.facet_SRC_H h f))
  (spans.find? (fun p => !inWindow s c p.1 (p.2 - p.1))).map (·.1)

/-- The outcome of the checks of a flip. -/
inductive FlipCheck where
  | code (n : Nat)
  | noRight
  | outside (a : Nat)
  | good
  deriving DecidableEq, Repr

/-- Pending groups of a client. -/
def pendingGroups (s : State) (c : Nat) : List FlipGroup := s.compose.groups.filter (fun g => g.client == c)

/-- Whether the entries name a facet twice. -/
def namedTwice : List FlipEntry → Bool
  | [] => false
  | e :: r => r.any (fun x => x.head == e.head && x.facet == e.facet) || namedTwice r

/-- The stage-2 checks of a group: form, reserved fields, rights, then the codes of R187 in ascending order, the window, and
the limit of 4 pending groups. DEDUCED: log 89. -/
def checkFlip (s : State) (c : Nat) (es : List (FlipEntry × Bool)) : FlipCheck :=
  let l := es.map (·.1)
  let v := rd s
  let any := fun (p : FlipEntry → Bool) => l.any p
  let yuv := fun (e : FlipEntry) => v (E.facet_FORMAT e.head e.facet) == 5 || v (E.facet_FORMAT e.head e.facet) == 6
  if l.length = 0 ∨ 16 < l.length ∨ namedTwice l ∨ any (fun e => xformDet e.xform == 0) then .code 0x0104
  else if es.any (fun e => !e.2) ∨ any (fun e => !yuv e && e.addr2 != 0) then .code 4
  else if any (fun e => !headRight s c e.head || !facetRight s c e.head e.facet) then .noRight
  else if any (fun e => v (E.facet_DIRECT_EN e.head e.facet) == 1) then .code 0x0100
  else if any (fun e => v (E.facet_HOLDER e.head e.facet) != 0xFFFF && v (E.facet_HOLDER e.head e.facet) != c) then
    .code 0x0101
  else if any (fun e => !facetOn s e.head e.facet || v (E.facet_SOURCE e.head e.facet) == 1) then .code 0x0102
  else if any (fun e => !bufferOk v e.head e.facet e.addr e.addr2 e.pitch) then .code 0x0103
  else
    match l.findSome? (fun e => bufferOutside s c e.head e.facet e.addr e.addr2 e.pitch) with
    | some a => .outside a
    | none => if 4 ≤ (pendingGroups s c).length then .code 5 else .good

/-- The next generation of a client: 1 after its reset (R187). -/
def nextGen (s : State) (c : Nat) : Nat := tget (fun _ => 1) s.compose.gens c

/-- A checked group is accepted: it gets its generation, its free facets become held, and it may be settled at once (R187,
R189, R190). DEDUCED: log 90. -/
def acceptGroup (s : State) (c : Nat) (l : List FlipEntry) (record : Option Nat) : State :=
  let gen := nextGen s c
  let s1 := { s with compose := { s.compose with
    groups := s.compose.groups ++ [{ client := c, gen := gen, entries := l, record := record }],
    gens := tset (fun _ => 1) s.compose.gens c ((gen + 1) % 2 ^ 32) } }
  let s2 := l.foldl (fun t e => wr t (E.facet_HOLDER e.head e.facet) c) s1
  fenceToGroups (ok s2 c [gen])

/-- A flip request of entries, with the address of its record if it has one. -/
def flipRequest (s : State) (c : Nat) (es : List (FlipEntry × Bool)) (record : Option Nat) : State :=
  match checkFlip s c es with
  | .code n => fail s c n
  | .noRight => denied s c 0x05
  | .outside _ => deniedAddr s c
  | .good => acceptGroup s c (es.map (·.1)) record

/-- The entry of R188 that arguments ARG2 to ARG12 of FLIP spell, as a number. -/
def flipWord (t : Taken) : Nat :=
  let a := argOf t
  a 2 + 2 ^ 32 * a 3 + 2 ^ 64 * a 4 + 2 ^ 96 * a 5 + 2 ^ 128 * a 6 + ((List.range 6).map (fun i => 2 ^ (192 + 32 * i) * a (7 + i))).sum

/-- FLIP. -/
def flipSent (s : State) (c : Nat) (t : Taken) : State := flipRequest s c [flipEntryOf (flipWord t)] none

/-- FLIP_GROUP: a group record at a window address (R188). -/
def flipGroupReq (s : State) (c a : Nat) : State :=
  if a % 16 ≠ 0 then fail s c 4
  else if ¬ inWindow s c a 16 then deniedAddr s c
  else
    let n := winWord s c a
    let count := n % 32
    if n / 32 ≠ 0 then fail s c 4
    else if count = 0 ∨ 16 < count then fail s c 0x0104
    else if ¬ inWindow s c a (16 + 48 * count) then deniedAddr s c
    else
      let es := (List.range count).map (fun i => flipEntryOf (leVal (winRd s c (a + 16 + 48 * i) 48)))
      flipRequest s c es (some a)

/-- The head and facet of an argument of RELEASE, if its other bits are 0. -/
def headFacetArg (a : Nat) : Option (Nat × Nat) := if a < 128 then some (a % 16, a / 16) else none

/-- RELEASE (R189). -/
def releaseReq (s : State) (c a : Nat) : State :=
  match headFacetArg a with
  | none => fail s c 4
  | some (h, f) =>
    if ¬ headRight s c h ∨ ¬ facetRight s c h f then denied s c 0x05
    else
      let holder := rd s (E.facet_HOLDER h f)
      if holder = c then ok (wr s (E.facet_HOLDER h f) 0xFFFF) c []
      else if holder = 0xFFFF then ok s c []
      else fail s c 0x0101

/-- FLIP_STATUS (R187). -/
def flipStatusReq (s : State) (c a : Nat) : State :=
  match headFacetArg a with
  | none => fail s c 4
  | some (h, f) =>
    if ¬ headRight s c h ∨ ¬ facetRight s c h f then denied s c 0x05
    else ok s c [rd s (E.facet_GENERATION h f), rd s (E.facet_LATE h f), rd s (E.facet_HOLDER h f)]

/-! ### Write-back (R196, R197) -/

/-- Bytes of one write-back buffer. -/
def wbBytes (fmt pitch w h : Nat) : Nat :=
  if fmt = 8 then ftcHeaderSize pitch (ceilDiv h 64) + 16384 * (pitch * ceilDiv h 64) else (h - 1) * pitch * 64 + 4 * w

/-- WB_START. -/
def wbStartReq (s : State) (c : Nat) (t : Taken) : State :=
  let h := argOf t 2
  let fmt := argOf t 6
  let pitch := argOf t 5
  let w := rd s (E.head_H_ACTIVE h)
  let ht := rd s (E.head_V_ACTIVE h)
  let al := if fmt = 8 then 4096 else 64
  if 16 ≤ h ∨ (fmt ≠ 1 ∧ fmt ≠ 8) ∨ 65536 ≤ pitch ∨ argOf t 3 % al ≠ 0 ∨ argOf t 4 % al ≠ 0 ∨ argOf t 7 % 16 ≠ 0 ∨
      (if fmt = 8 then pitch < ceilDiv w 64 else pitch * 64 < 4 * w) then fail s c 4
  else if ¬ headRight s c h then denied s c 0x05
  else
    match firstOutside s c [(argOf t 3, wbBytes fmt pitch w ht), (argOf t 4, wbBytes fmt pitch w ht), (argOf t 7, 16)] with
    | some _ => deniedAddr s c
    | none =>
      let x := headOf s h
      if x.wb.isSome then fail s c 5
      else if 16 * activePixels (rd s) h < headFetch s (rd s) h + 4 * activePixels (rd s) h then fail s c 6
      else
        let wb : WbRec := { client := c, buf0 := argOf t 3, buf1 := argOf t 4, pitch := pitch, fmt := fmt,
                            status := argOf t 7, frames := argOf t 8 }
        ok (updateSums (setHead s h { x with wb := some wb })) c []

/-- A write-back ends; a WB_STOP that waits completes. -/
def endWb (s : State) (h : Nat) : State :=
  match (headOf s h).wb with
  | none => s
  | some w =>
    let s1 := updateSums (setHead s h { headOf s h with wb := none })
    if w.stopping then serve s1 w.client 0x9002 (· == 1) (fun _ => ok s1 w.client []) else s1

/-- WB_STOP: completes after the frame in progress, at once when none is. -/
def wbStopReq (s : State) (c : Nat) (t : Taken) : State :=
  let h := argOf t 2
  if 16 ≤ h then fail s c 4
  else if ¬ headRight s c h then denied s c 0x05
  else
    let x := headOf s h
    match x.wb with
    | none => fail s c 4
    | some w =>
      if w.client ≠ c ∨ w.stopping then fail s c 4
      else
        let s1 := setHead s h { x with wb := some { w with stopping := true } }
        if w.started ∨ w.full then s1 else endWb s1 h

/-- WB_FRAME: the last write of a frame is acknowledged; the status record is written, then EVENT bit 9 is set (R197). -/
def wbFrame (s : State) (h : Nat) : State :=
  let x := headOf s h
  match x.wb with
  | none => s
  | some w =>
    if ¬ w.full then s
    else
      let n := w.count + 1
      let rec_ := leBytes 4 n ++ leBytes 4 (w.doneBuf + 2 * b2n w.doneInc) ++ leBytes 8 s.time
      let s1 := setHead s h { x with wb := some { w with full := false, count := n } }
      let s2 := setEvent (winWr (bump s1 (E.head_WB_FRAMES h)) w.client w.status rec_) w.client 9
      let s3 := raise s2 .wbFrame [h, n]
      if (w.stopping ∧ ¬ w.started) ∨ (w.frames ≠ 0 ∧ w.frames ≤ n) then endWb s3 h else s3

/-! ### Meanings -/

/-- CONTEXT_REMOVED (R156). -/
def execContextRemoved (k : Nat) (kind : CtxKind) (s : State) : Host.Outcome State Fault Refusal :=
  .next (match kind with | .render => removeRender s k | .compute => removeCompute s k)

/-- FENCE_SIGNAL (R154). -/
def execFenceSignal (k : Nat) (kind : CtxKind) (s : State) : Host.Outcome State Fault Refusal :=
  .next (match kind with | .render => fenceRender s k | .compute => fenceCompute s k)

/-- FLIP (0x3001). -/
def execFlip (c : Client) (s : State) : Host.Outcome State Fault Refusal :=
  .next (serve s c.val 0x3001 (· == 11) (fun t => flipSent s c.val t))

/-- FLIP_GROUP (0x3002). -/
def execFlipGroup (c : Client) (s : State) : Host.Outcome State Fault Refusal :=
  .next (serve s c.val 0x3002 (· == 1) (fun t => flipGroupReq s c.val (argOf t 2)))

/-- MOTION (0x3003): a singular transform is refused (R206). -/
def execMotion (c : Client) (s : State) : Host.Outcome State Fault Refusal :=
  .next (serve s c.val 0x3003 (· == 6) (fun t =>
    let m := (List.range 6).map (fun i => toInt 32 (argOf t (2 + i)))
    if xformDet m = 0 then fail s c.val 0x0104
    else ok { s with compose := { s.compose with
        motion := tset (fun _ => none) s.compose.motion c.val (some m) } } c.val []))

/-- RELEASE (0x3004). -/
def execRelease (c : Client) (s : State) : Host.Outcome State Fault Refusal :=
  .next (serve s c.val 0x3004 (· == 1) (fun t => releaseReq s c.val (argOf t 2)))

/-- FLIP_STATUS (0x3005). -/
def execFlipStatus (c : Client) (s : State) : Host.Outcome State Fault Refusal :=
  .next (serve s c.val 0x3005 (· == 1) (fun t => flipStatusReq s c.val (argOf t 2)))

/-- WB_START (0x9001). -/
def execWbStart (c : Client) (s : State) : Host.Outcome State Fault Refusal :=
  .next (serve s c.val 0x9001 (· == 7) (fun t => wbStartReq s c.val t))

/-- WB_STOP (0x9002). -/
def execWbStop (c : Client) (s : State) : Host.Outcome State Fault Refusal :=
  .next (serve s c.val 0x9002 (· == 1) (fun t => wbStopReq s c.val t))

/-- WB_FRAME (R197). -/
def execWbFrame (h : Head) (s : State) : Host.Outcome State Fault Refusal := .next (wbFrame s h.val)

end Sys2Proof.Machine
end

