-- ==== Sys2Proof/Machine/Lines.lean ====
section
/-! DEFINITION. What a head composes for one line: facets, cameo layers, output matrix and LUT, the check-value taps and the
port's depth reduction (R166–R172, R192, R209, R230, R238–R241, R244, R248, R254). -/

namespace Sys2Proof.Machine

/-- The cameo state of a head. -/
def cameoOf (s : State) (h : Nat) : CameoRec := tget (fun _ => {}) s.cameo.heads h
/-- The state with the cameo state of a head replaced. -/
def setCameo (s : State) (h : Nat) (x : CameoRec) : State :=
  { s with cameo := { s.cameo with heads := tset (fun _ => {}) s.cameo.heads h x } }

/-- The first byte of the locket region (R343). DEDUCED: log 96. -/
def locketBase (s : State) : Nat := (rd s E.mem_USABLE - rd s E.mem_LOCKET_SIZE) * 2 ^ 20

/-! ### Facets -/

/-- Bytes per pixel a receiver stores, times 4 (R237). -/
def storedBytes4 (dt : Nat) : Nat := if dt = 0x1E then 8 else if dt = 0x24 then 16 else if dt = 0x2B then 5 else if dt = 0x2C then 6 else 4

/-- The depth D of a receiver's slice buffer in lines (R239). -/
def sliceDepth (s : State) (r : Nat) : Nat :=
  65536 / (rd s (E.cam_WIDTH r) * storedBytes4 (rd s (E.cam_DATA_TYPE r)) / 4)

/-- Whether camera line `n` of the frame a slice facet scans is present (R240). -/
def linePresent (s : State) (r lines : Nat) (x : SliceRec) (n : Nat) : Bool :=
  let a := (rxOf s r).arrived
  decide (x.base + n < a) && decide (a < x.base + n + 1 + (sliceDepth s r - lines))

/-- The source of a facet over a buffer of a client's window, under a reading of the entries. -/
def sourceOf (s : State) (v : Nat → Nat) (h f : Nat) (sh : Shown) : Source :=
  { byte := winByte s sh.client, fmt := v (E.facet_FORMAT h f), addr := sh.addr, addr2 := sh.addr2, pitch := sh.pitch,
    x := v (E.facet_SRC_X h f), y := v (E.facet_SRC_Y h f), w := v (E.facet_SRC_W h f), h := v (E.facet_SRC_H h f) }

/-- The buffer of a ring that a camera facet shows. -/
def ringShown (s : State) (r buf : Nat) : Shown :=
  match (rxOf s r).opened with
  | none => { cam := some (r, buf) }
  | some o => { client := o.client, gen := o.frames, addr := o.base + o.stride * buf, pitch := o.pitch, cam := some (r, buf) }

/-- What a facet contributes: nothing, an opaque colour, a translucent colour, pixels of a source in DRAM, warped or not, that pass its
line buffers, or pixels of a camera frame that its receiver's slice buffer hands over. -/
inductive Fill where
  | nothing
  | solid (rgb : List Nat)
  | tint (px : List Nat)
  | pixels (sh : Shown) (warp : Option Warp)
  | camera (sh : Shown)
  deriving DecidableEq, Repr

/-- What a facet contributes with a record `x` under a reading `v` of the entries (R186, R191, R192, R236, R240, R241). -/
def fillWith (s : State) (v : Nat → Nat) (h f : Nat) (x : FacetRec) : Fill :=
  let bg := rgbOf (v (E.head_BACKGROUND h))
  if v (E.facet_ENABLE h f) ≠ 1 ∨ x.dropped then .nothing
  else if v (E.facet_DIRECT_EN h f) = 1 then
    .pixels { client := v (E.facet_DIRECT_CLIENT h f), addr := v (E.facet_DIRECT_ADDR h f),
              addr2 := v (E.facet_DIRECT_ADDR2 h f), pitch := v (E.facet_DIRECT_PITCH h f) } none
  else if v (E.facet_SOURCE h f) = 1 then
    match x.cam with
    | none => .solid bg
    | some r =>
      if x.subst then .solid (rgbOf (rd s (E.cam_SUBST_COLOUR r)))
      else
        let ring := match x.shown with | some sh => Fill.pixels sh none | none => .solid bg
        match x.slice with
        | some sl => if sl.serving then .camera (ringShown s r sl.buf) else ring
        | none => ring
  else if x.stale then .tint (premultiply 0 (argbOf (v (E.facet_STALE_FILL h f))))
  else
    match x.shown with
    | none => .solid bg
    | some sh => .pixels sh x.warp

/-- What a facet contributes in the frame in progress. -/
def fillOf (s : State) (h f : Nat) : Fill := fillWith s (rd s) h f (facetOf s h f)

/-! ### Line buffers (R166, R186, R203, R210) -/

/-- A pixel of four 12-bit codes as one number. -/
def packPixel (p : List Nat) : Nat := at0 0 p 0 + 2 ^ 12 * at0 0 p 1 + 2 ^ 24 * at0 0 p 2 + 2 ^ 36 * at0 0 p 3

/-- The pixel of such a number. -/
def unpackPixel (n : Nat) : List Nat := [fld n 0 12, fld n 12 12, fld n 24 12, fld n 36 12]

/-- The rows of the source rectangle that a destination line reads, as the first and how many: its four taps of averaged rows, its own row
at ratio 1, or the rows its samples of a warp fall in (R174, R209). -/
def rowsOf (v : Nat → Nat) (h f : Nat) (warp : Option Warp) (y : Nat) : Nat × Nat :=
  let sh := v (E.facet_SRC_H h f)
  let dh := v (E.facet_DST_H h f)
  let dy := y - v (E.facet_DST_Y h f)
  let top : Int := ((sh - 1 : Nat) : Int)
  match warp with
  | none =>
    if sh = dh then (dy, 1)
    else
      let k : Int := ((groupSize sh dh : Nat) : Int)
      let a := (scalePos sh dh dy / 65536 - 1) * k
      let lo := (clampI 0 top a).toNat
      (lo, (clampI 0 top (a + 4 * k - 1)).toNat + 1 - lo)
  | some w =>
    let row := fun dx => w.sample 3 (ratioPos (v (E.facet_SRC_X h f)) (v (E.facet_SRC_W h f)) (v (E.facet_DST_W h f)) dx)
      (ratioPos (v (E.facet_SRC_Y h f)) sh dh dy) / 256 - ((v (E.facet_SRC_Y h f) : Nat) : Int)
    let p := row 0
    let q := row (v (E.facet_DST_W h f) - 1)
    if max p q + 1 < 0 ∨ top < min p q then (0, 0)
    else
      let lo := (max 0 (min p q)).toNat
      (lo, (min top (max p q + 1)).toNat + 1 - lo)

/-- The rows the line buffers hold for destination line `y`: LINES rows from the first the line reads, or under a warp the rows of the
line. A row held already is not fetched again; any other is read as its source stands now. DESIGN CHOICE: log 213. -/
def fillRows (s : State) (v : Nat → Nat) (h f : Nat) (x : FacetRec) (y : Nat) : FacetRec :=
  match fillWith s v h f x with
  | .pixels sh warp =>
    let r := rowsOf v h f warp y
    let lines := v (E.facet_LINES h f)
    let n := if warp.isSome then r.2 else min lines (v (E.facet_SRC_H h f) - r.1)
    let src := sourceOf s v h f sh
    { x with lines := (rangeFrom r.1 n).map (fun k =>
        ((x.lines.take lines).find? (fun l => l.row == k)).getD { row := k, px := (src.row k).map packPixel }) }
  | _ => { x with lines := [] }

/-- The slice fetches for a facet as a content line of the head begins. -/
def fetchLine (s : State) (h y f : Nat) : State :=
  let x := facetOf s h f
  let top := rd s (E.facet_DST_Y h f)
  if ¬ facetOn s h f ∨ top + rd s (E.facet_DST_H h f) ≤ y then
    (if x.lines = [] ∧ ¬ x.cold then s else setFacet s h f { x with lines := [], cold := false })
  else setFacet s h f { fillRows s (rd s) h f x (max y top) with cold := false }

/-- A pixel of the rows a facet's line buffers hold, premultiplied. -/
def heldPixel (x : FacetRec) (mode i j : Nat) : List Nat :=
  match x.lines.find? (fun l => l.row == j) with
  | some l => premultiply mode (unpackPixel (at0 0 l.px i))
  | none => clearPixel

/-- The scaler set of a facet (R176). -/
def setOf (s : State) (h f : Nat) : List Byte :=
  let n := rd s (E.facet_SCALER_SET h f)
  if n = 1 then dget s (E.head_SCALE_SET1 h) else if n = 2 then dget s (E.head_SCALE_SET2 h) else set0Bytes

/-- The matrix of a facet (R171). -/
def facetMatrix (s : State) (h f : Nat) : List Int :=
  if rd s (E.facet_MATRIX_MODE h f) = 1 then
    (List.range 9).map (fun k => toInt 16 (rd s (E.facet_M h f k))) ++
      (List.range 3).map (fun k => toInt 16 (rd s (E.facet_O h f k)))
  else if isYuv (rd s (E.facet_FORMAT h f)) then bt709 else identityMatrix

/-- The pixel a facet puts at (x, y) of the head over the colour `cd`. -/
def facetStep (s : State) (h f x y : Nat) (cd : List Nat) : List Nat :=
  let dx := x - rd s (E.facet_DST_X h f)
  let dy := y - rd s (E.facet_DST_Y h f)
  let dw := rd s (E.facet_DST_W h f)
  let dh := rd s (E.facet_DST_H h f)
  let w := rd s (E.facet_SRC_W h f)
  let ht := rd s (E.facet_SRC_H h f)
  let mode := rd s (E.facet_ALPHA_MODE h f)
  let ga := rd s (E.facet_GLOBAL_ALPHA h f)
  let onto := fun (p : List Nat) => blend ga (applyMatrix (facetMatrix s h f) p (at0 0 p 3) ++ [at0 0 p 3]) cd
  match fillOf s h f with
  | .nothing => cd
  | .solid rgb => rgb
  | .tint px => blend ga px cd
  | .pixels _ warp =>
    let held := heldPixel (facetOf s h f) mode
    onto (match warp with
      | some d => warpedPixel held (rd s (E.facet_SRC_X h f)) (rd s (E.facet_SRC_Y h f)) w ht d dw dh dx dy
      | none => scaledPixel held w ht (setOf s h f) dw dh dx dy)
  | .camera sh =>
    let src := sourceOf s (rd s) h f sh
    onto (scaledPixel (fun i j => premultiply mode (src.expand (src.x + i) (src.y + j))) w ht (setOf s h f) dw dh dx dy)

/-- The source lines a destination line of a facet needs: four taps of averaged lines (R174), within the source rectangle. -/
def neededRows (s : State) (h f y : Nat) : List Nat :=
  let sh := rd s (E.facet_SRC_H h f)
  let dh := rd s (E.facet_DST_H h f)
  let k := groupSize sh dh
  let dy := y - rd s (E.facet_DST_Y h f)
  let base : Int := if sh = dh then (dy : Int) else scalePos sh dh dy / 65536
  ((List.range (4 * k)).map (fun (i : Nat) =>
    (clampI 0 ((sh - 1 : Nat) : Int) ((base - 1) * (k : Int) + (i : Int))).toNat + rd s (E.facet_SRC_Y h f))).eraseDups

/-- Whether a line of the head crosses a facet's destination. -/
def crosses (s : State) (h f y : Nat) : Bool :=
  decide (rd s (E.facet_DST_Y h f) ≤ y) && decide (y < rd s (E.facet_DST_Y h f) + rd s (E.facet_DST_H h f))

/-- Whether a destination line of a facet meets an FTC tile whose header is refused (R168). -/
def badTileOn (s : State) (h f y : Nat) : Bool :=
  match fillOf s h f with
  | .pixels sh warp =>
    let r := sourceOf s (rd s) h f sh
    let rows := rowsOf (rd s) h f warp y
    r.fmt == 8 && (rangeFrom (r.y + rows.1) rows.2).any (fun row =>
      (List.range (ceilDiv (r.x + r.w) 64)).any (fun c => decide (r.x / 64 ≤ c) && (r.ftcTile (64 * c) row).isNone))
  | _ => false

/-- The client and address of a facet's buffer that lies outside its window, if it does. -/
def strayBuffer (s : State) (h f : Nat) : Option (Nat × Nat) :=
  let stray := fun (sh : Shown) => (bufferOutside s sh.client h f sh.addr sh.addr2 sh.pitch).map (fun a => (sh.client, a))
  match fillOf s h f with
  | .pixels sh _ => stray sh
  | .camera sh => stray sh
  | _ => none

/-! ### Cameo layers -/

/-- The image of a cell that a state shows: states 0 to 3, 15, and blink-off (R248). -/
def cellImage (c : Cell) (st frame : Nat) : Nat :=
  if (st = 1 ∨ st = 3) ∧ c.blink ≠ 0 ∧ frame / c.blink % 2 = 1 then 5 else if st = 15 then 4 else min st 3

/-- The state of a cell's alarm as the head shows it. -/
def cellState (s : State) (h : Nat) (c : Cell) : Nat := at0 15 (cameoOf s h).alarms c.alarm

/-- The premultiplied pixel of a cameo word in a layer's format. -/
def cameoWord (fmt w : Nat) : List Nat := if fmt = 3 then argb10Of w else argbOf w

/-- Whether a splash head's image fits the 512 KB of locket SRAM: the images are copied in ascending head order (R448). -/
def splashFits (s : State) (h : Nat) : Bool :=
  decide (((s.cameo.engraving.splash.filter (fun p => decide (p.head ≤ h))).map (fun p => p.image.length)).sum ≤ 524288)

/-- The pixel of a cameo layer at (x, y) of the head, if the layer shows one there. -/
def cameoPixel (s : State) (h layer x y : Nat) : Option (List Nat) :=
  let l := cameoLayer s h layer
  let cx := at0 0 l 0
  let cy := at0 0 l 1
  let w := at0 0 l 2
  if l = [] ∨ x < cx ∨ y < cy ∨ cx + w ≤ x ∨ cy + at0 0 l 3 ≤ y then none
  else
    let r := cameoOf s h
    let lx := x - cx
    let ly := y - cy
    let fmt := at0 0 l 4
    if r.splash then
      if layer = 0 then
        match s.cameo.engraving.splash.find? (fun p => p.head == h && splashFits s h) with
        | some p => some (cameoWord fmt (leVal (slice p.image (4 * (ly * w + lx)) 4)))
        | none => none
      else none
    else
      let frame := rd s (E.head_FRAME h)
      match s.cameo.engraving.cells.find? (fun c => c.head == h && c.layer == layer &&
          decide (c.x ≤ lx) && decide (c.y ≤ ly) && decide (lx < c.x + c.w) && decide (ly < c.y + c.h)) with
      | some c =>
        let img := cellImage c (cellState s h c) frame
        let a := locketBase s + c.images + 4 * (img * (c.w * c.h) + (ly - c.y) * c.w + (lx - c.x))
        some (cameoWord fmt (leVal (memRdAll s (rangeFrom a 4))))
      | none =>
        match (if layer = 0 then r.c0 else r.c1) with
        | none => none
        | some b => some (cameoWord fmt (leVal (memRdAll s (rangeFrom (locketBase s + b + 4 * (ly * w + lx)) 4))))

/-- Both cameo layers over a composed colour, C0 then C1, with g = 1 (R244). -/
def cameoStep (s : State) (h x y : Nat) (cd : List Nat) : List Nat :=
  (List.range 2).foldl (fun c l => match cameoPixel s h l x y with | some p => blend 255 p c | none => c) cd

/-! ### Lines -/

/-- The steps that contribute to a line of a head. -/
def lineSteps (s : State) (h y : Nat) : Option (List (Nat × Nat × Nat)) :=
  if (headOf s h).faulty then none
  else stepsAt (facetOn s h) (hActive s h) (vActive s h) y (bandsOf 512 (headOf s h).bank) 0

/-- The composed colours of a line after the last facet step, with only the facets `ok` allows. -/
def composed (s : State) (h y : Nat) (steps : List (Nat × Nat × Nat)) (ok : Nat → Bool) : List (List Nat) :=
  (List.range (hActive s h)).map (fun x =>
    steps.foldl (fun cd t =>
      if t.2.1 ≤ x ∧ x ≤ t.2.2 ∧ ok t.1 then facetStep s h t.1 x y cd else cd) (rgbOf (rd s (E.head_BACKGROUND h))))

/-- The output matrix and LUT of a head (R171, R172). -/
def outputStage (s : State) (h : Nat) (p : List Nat) : List Nat :=
  let m := (List.range 9).map (fun k => toInt 16 (rd s (E.head_M h k))) ++
    (List.range 3).map (fun k => toInt 16 (rd s (E.head_O h k)))
  let q := if rd s (E.head_OUT_MATRIX_EN h) = 1 then applyMatrix m p codeMax else p
  let sel := rd s (E.head_LUT_ACTIVE h)
  lutPixel (if sel = 1 then some (dget s (E.head_LUT_SUN h)) else if sel = 2 then some (dget s (E.head_LUT_NIGHT h)) else none) q

/-- An underrun: from column `col` the head repeats the last pixel it handed over, 0 when it has handed none (R211). -/
def underrunLine (col : Nat) (l : List (List Nat)) : List (List Nat) :=
  l.take col ++ List.replicate (l.length - col) (if col = 0 then [0, 0, 0] else at0 [0, 0, 0] l (col - 1))

/-- The pixels a content line hands to the port, at 12 bits. -/
def outputLine (s : State) (h y : Nat) (colours : List (List Nat)) (missing : Option Missing) : List (List Nat) :=
  let l := (colours.zip (List.range colours.length)).map (fun p => outputStage s h (cameoStep s h p.2 y p.1))
  match missing with
  | some m => underrunLine m.col l
  | none => l

/-- The port and stream of a route, if it names one (R219). -/
def portOfRoute (r : Nat) : Option (Nat × Nat) :=
  if r < 8 then some (r, 0)
  else if 0x10 ≤ r ∧ r < 0x18 then some (r - 0x10, 1)
  else if 0x20 ≤ r ∧ r < 0x24 then some (8 + (r - 0x20), 0)
  else if 0x30 ≤ r ∧ r < 0x34 then some (12 + (r - 0x30), 0)
  else none

/-- The bits of a colour at the lanes of a 7:1 LVDS link, lane 0 in bits 6:0, in an active pixel: DE set, the syncs at their inactive
level, which is 0 for an active-high one. VESA mapping puts the two lowest bits of each channel on lane 3, JEIDA the two highest on
lanes 0 to 2 and the lowest two on lane 3 (R225). PRESUMED: log 216. -/
def lvdsWord (jeida : Bool) (bpc pol r g b : Nat) : Nat :=
  -- the six bits of a channel that lanes 0 to 2 carry, and the two of lane 3
  let six := fun c => if bpc = 6 then c else if jeida then c / 4 else c % 64
  let two := fun c => if bpc = 6 then 0 else if jeida then c % 4 else c / 64
  let h := 1 - pol % 2
  let v := 1 - pol / 2 % 2
  let l0 := six r + 64 * (six g % 2)
  let l1 := six g / 2 + 32 * (six b % 4)
  let l2 := six b / 4 + 16 * h + 32 * v + 64
  let l3 := two r + 4 * two g + 16 * two b
  l0 + 2 ^ 7 * l1 + 2 ^ 14 * l2 + 2 ^ 21 * l3

/-- Every second element of a list, from the first. -/
def everySecond {α : Type} : List α → List α
  | [] => []
  | [a] => [a]
  | a :: _ :: r => a :: everySecond r

/-- A line goes to the port of the head's route while that port is ready, reduced to its depth (R219, R225, R230, R232). A message holds
FRAME, line, port, stream and link, then the pixel clock that a DP port states (K of R201, else 0), then the line's words: reduced pixels,
what the DSC encoder makes of them, or LVDS words; a dual link sends the odd pixels, counted from 1, on link 0 and the even ones on link 1.
DESIGN CHOICE: log 216. -/
def sendLine (s : State) (h y : Nat) (l : List (List Nat)) : State :=
  match portOfRoute (headOf s h).route with
  | none => s
  | some (p, stream) =>
    if rd s (E.port_STATE p) = 2 then
      let bpc := rd s (E.port_BPC p)
      let px := (l.zip (List.range l.length)).map (fun q =>
        (List.range 3).map (fun i => reduceDepth (rd s (E.port_DITHER p)) bpc q.2 y (at0 0 q.1 i)))
      let packed := px.map (fun c => at0 0 c 0 * 2 ^ (2 * bpc) + at0 0 c 1 * 2 ^ bpc + at0 0 c 2)
      let put := fun (t : State) (link : Nat) (ws : List Nat) =>
        send t (.scanout h) ((([rd s (E.head_FRAME h), y, p, stream, link, if p < 8 then (headOf s h).k else 0] ++ ws).map
          (fun (n : Nat) => (n : Int)))) []
      if 12 ≤ p then
        let ws := px.map (fun c => lvdsWord (rd s (E.port_LVDS_MAP p) == 1) bpc (timOf s h 11) (at0 0 c 0) (at0 0 c 1) (at0 0 c 2))
        if rd s (E.port_KIND p) = 1 then put (put s 0 (everySecond ws)) 1 (everySecond (ws.drop 1)) else put s 0 ws
      else if rd s (E.port_DSC_EN p) = 1 then
        put (drawn s) 0 (Sys2Proof.Config.dscEncode s.free (rd s (E.port_DSC_BPP p)) (rd s (E.port_DSC_SLICES p)) (rd s (E.port_DSC_SLICE_H p)) y packed)
      else put s 0 packed
    else s

/-! ### Region taps (R253–R256) -/

/-- The record of a region as a number. -/
def regionRec (s : State) (h r : Nat) : Nat := rd s (E.cameo_REGION h r)
/-- Whether a region is checked. -/
def regionOn (s : State) (h r : Nat) : Bool := bitOf (regionRec s h r) 64

/-- The guard word of a region's computation (R254). -/
def guardWord (h r frame : Nat) : Nat := (8 * h + r) * 2 ^ 24 + frame % 2 ^ 24

/-- CRC-32 of two strings joined, from their CRCs and the second's length (R256). -/
def crcJoin (a b len : Nat) : Nat := Nat.xor (crc32Fold 0xEDB88320 a (List.replicate len 0)) b

/-- The expected value of a region in a frame: none in MODE 2 (R256). -/
def expectedValue (s : State) (h r : Nat) : Option Nat :=
  let g := regionRec s h r
  let mode := fld g 65 2
  let frame := rd s (E.head_FRAME h)
  let len := 4 * ((fld g 32 13 - fld g 0 13 + 1) * (fld g 48 13 - fld g 16 13 + 1))
  let guard := crc32 (leBytes 4 (guardWord h r frame))
  if mode = 2 then none
  else if mode = 1 then
    match s.cameo.engraving.cells[fld g 72 8]? with
    | some c =>
      some (crcJoin guard (tget (fun _ => 0) (cameoOf s h).payloads (8 * fld g 72 8 + cellImage c (cellState s h c) frame)) len)
    | none => some (crcJoin guard 0 len)
  else some (crcJoin guard (fld g 96 32) len)

/-- A content line passes the tap of one region. -/
def foldRegion (s : State) (h y : Nat) (l : List (List Nat)) (r : Nat) : State :=
  let g := regionRec s h r
  let y0 := fld g 16 13
  let y1 := fld g 48 13
  if ¬ regionOn s h r ∨ y < y0 ∨ y1 < y then s
  else
    let x := cameoOf s h
    let frame := rd s (E.head_FRAME h)
    let start := if y = y0 then some (crc32Fold 0xEDB88320 0xFFFFFFFF (leBytes 4 (guardWord h r frame)))
      else tget (fun _ => none) x.folds r
    match start with
    | none => s
    | some reg =>
      let words := (slice l (fld g 0 13) (fld g 32 13 - fld g 0 13 + 1)).flatMap (fun p => leBytes 4 (tapWord p))
      let reg1 := crc32Fold 0xEDB88320 reg words
      if y = y1 then
        let v := Nat.xor reg1 0xFFFFFFFF
        let e := expectedValue s h r
        setCameo s h { x with folds := tset (fun _ => none) x.folds r none, finished := x.finished ++ [r],
                              results := tset (fun _ => []) x.results r [v, e.getD 0, frame, b2n e.isSome] }
      else setCameo s h { x with folds := tset (fun _ => none) x.folds r (some reg1) }

/-- A content line passes every tap of the head. -/
def foldLine (s : State) (h y : Nat) (l : List (List Nat)) : State := (List.range 8).foldl (fun t r => foldRegion t h y l r) s

/-! ### Write-back lines (R197) -/

/-- A composed colour as a write-back pixel; the byte no format gives a meaning is free. -/
def wbPixel (p : List Nat) : Nat :=
  let c := fun i => (Sys2Proof.Config.wbReduce (at0 0 p i)).toNat
  let v := c 2 + 256 * c 1 + 65536 * c 0
  v + 2 ^ 24 * (Sys2Proof.Config.xrgbPad v).toNat

/-- The kept lines of a tile row are encoded and stored (R168, R169); a dropped line's pixels are free values. -/
def wbTiles (s : State) (w : WbRec) (width height buf row : Nat) : State :=
  (List.range (ceilDiv width 64)).foldl (fun t col =>
    let px := (List.range 4096).map (fun i =>
      let x := 64 * col + i % 64
      let y := 64 * row + i / 64
      if width ≤ x ∨ height ≤ y then 0
      else (tget (fun _ => []) w.lines y)[x]?.getD (Sys2Proof.Config.freeNat (s.free + x) % 2 ^ 32))
    let e := ftcEncode px
    let n := row * w.pitch + col
    winWr (winWr t w.client (buf + 16 * n) (leBytes 4 e.1 ++ leBytes 4 e.2.1 ++ leBytes 8 0)) w.client
      (buf + ftcHeaderSize w.pitch (ceilDiv height 64) + 16384 * n) e.2.2) s

/-- A head's write-back replaced. -/
def setWb (s : State) (h : Nat) (w : WbRec) : State := setHead s h { headOf s h with wb := some w }

/-- A line of write-back `w` is dropped, counted, and marks the frame, or its pixels are kept: in the tile buffer, or written at once. -/
def wbKeep (s : State) (h y : Nat) (w : WbRec) (line : List Nat) (full : Bool) : State :=
  let buf := if w.cur = 0 then w.buf0 else w.buf1
  if full then
    let t := bump (setWb s h { w with incomplete := true, dropped := true }) (E.head_WB_DROPS h)
    if w.dropped then t else raise t .wbDrop [h]
  else if w.fmt = 8 then setWb s h { w with lines := tset (fun _ => []) w.lines y line }
  else setWb (winWr s w.client (buf + y * w.pitch * 64) (line.flatMap (leBytes 4))) h w

/-- After a line of write-back: a row of tiles is written once it is whole, and the last line ends the frame's buffer. -/
def wbFlush (s : State) (h y : Nat) (v : WbRec) : State :=
  let height := vActive s h
  let last := y + 1 = height
  let s1 := if v.fmt = 8 ∧ (y % 64 = 63 ∨ last) then
      { wbTiles s v (hActive s h) height (if v.cur = 0 then v.buf0 else v.buf1) (y / 64) with free := s.free + 16384 }
    else s
  if last then
    setWb s1 h { v with lines := [], full := true, doneBuf := v.cur, doneInc := v.incomplete, cur := 1 - v.cur,
                        incomplete := false, started := false }
  else s1

/-- A composed line reaches write-back; a line that finds the buffer full is dropped, counted, and marks the frame. -/
def wbLine (s : State) (h y : Nat) (steps : List (Nat × Nat × Nat)) (full : Bool) : State :=
  match (headOf s h).wb with
  | none => s
  | some w0 =>
    let more := !w0.stopping && (w0.frames == 0 || decide (w0.count + b2n w0.full < w0.frames))
    let w := if y = 0 then { w0 with started := more, incomplete := false, dropped := false } else w0
    if ¬ w.started then s
    else
      let line := (composed s h y steps (fun f => headRight s w.client h && facetRight s w.client h f)).map wbPixel
      let s1 := wbKeep s h y w line full
      match (headOf s1 h).wb with
      | none => s1
      | some v => wbFlush s1 h y v

end Sys2Proof.Machine
end

