-- ==== Sys2Proof/Machine/Device.lean ====
section
/-! DEFINITION. The global state of the device: DEVICE_STATE (R93) and the latched fault. -/

namespace Sys2Proof.Machine

/-- Whether a touch panel has a failed channel: the one fault that its chapter classes as degrading (R284). -/
def degraded (s : State) : Bool := (List.range 4).any (fun p => rd s (E.panel_FAILED_CHANNELS p) != 0)

/-- DEVICE_STATE as R93 states it. DEDUCED: log 79. -/
def deviceState (s : State) : Nat :=
  if s.boot.fault then 5
  else if s.power.sleep = 2 then 6
  else if s.boot.step < 3 then 0
  else if s.boot.step < 6 then 1
  else if s.boot.step < 7 then 2
  else if degraded s then 4 else 3

/-- DEVICE_STATE follows. -/
def settleDevice (s : State) : State := wr s E.glob_DEVICE_STATE (deviceState s)

/-- A fault latches FAULT_N low until the next device reset. -/
def latchFault (s : State) : State := settleDevice { s with boot := { s.boot with fault := true } }

/-- FAULT_N is driven low while the device is held in reset and until the trusted world first reports ready, and from the
instant a fault latches it (R93, R445). -/
def faultN (s : State) : Bool := s.boot.fault || s.boot.held || !s.boot.ready

end Sys2Proof.Machine
end

