-- ==== Sys2Proof/Machine/Scan.lean ====
section
/-! DEFINITION. The record of a touch panel and what a head's frame start does to a scan locked to it (R273). -/

namespace Sys2Proof.Machine

/-- A panel and its engine. -/
def touchOf (s : State) (p : Nat) : TouchRec := tget (fun _ => {}) s.touch.panels p
/-- The state with a panel replaced. -/
def setTouch (s : State) (p : Nat) (x : TouchRec) : State :=
  { s with touch := { s.touch with panels := tset (fun _ => {}) s.touch.panels p x } }

/-- The steps of a scan (R270). -/
def scanSteps (s : State) (p : Nat) : Nat := rd s (E.panel_DRIVE_COUNT p) + b2n (rd s (E.panel_SELF_EN p) == 1) + 2

/-- A scan whose head reaches a frame start before the last step has ended is abandoned: its data is discarded (R273). -/
def abandonScan (s : State) (h p : Nat) : State :=
  let x := touchOf s p
  match x.steps with
  | none => s
  | some l =>
    if x.lock = some h ∧ l.length < scanSteps s p then
      raise (bump (setTouch s p { x with steps := none }) (E.panel_DISCARDED_SCANS p)) .touchResync [p]
    else s

/-- Every scan locked to a head that starts a frame. -/
def abandonScans (s : State) (h : Nat) : State := (List.range 4).foldl (fun t p => abandonScan t h p) s

/-- The hallmark record in force: the one with the highest SEQ, none where the factory record is (R440). -/
def planRecord (s : State) : Option HallmarkRec :=
  s.power.records.foldl (fun a r => match a with
    | some b => if b.seq < r.seq then some r else a
    | none => some r) none

/-- The expected d2 of a device channel, 64 × engine + channel (R283, R438). -/
def touchRef (s : State) (n : Nat) : Nat :=
  match planRecord s with
  | some r => at0 0 r.touch n
  | none => Sys2Proof.Config.factoryTouchRef n

end Sys2Proof.Machine
end

