-- ==== Sys2Proof/Machine/Heads.lean ====
section
/-! DEFINITION. Scan-out heads (R199–R224): lines, latch points, frames, command mode, timing and route changes, frame lock;
with the presentations and alarm states a latch point takes (R247, R248, R257) and the deadline governor (R163, R164). -/

namespace Sys2Proof.Machine

/-! ### Scanning -/

/-- STATE of a head (R222). -/
def hState (s : State) (h : Nat) : Nat := rd s (E.head_STATE h)

/-- Whether a head scans: running, blanked for a mode change, or in a blank frame. -/
def scanning (s : State) (h : Nat) : Bool := decide (2 ≤ hState s h) && pdOn s (headDomain h)

/-- STATE of a head changes; TOLERANCE reads 65,535 while it is disabled or blanked (R212, R222). -/
def setHeadState (s : State) (h st : Nat) : State :=
  let s1 := wr s (E.head_STATE h) st
  if st = 2 then s1 else wr s1 (E.head_TOLERANCE h) 65535

/-- Lines of the frame in progress. -/
def frameLines (s : State) (h : Nat) : Nat := vTotal s h + (headOf s h).extra

/-- K without trim (R201). -/
def kOf (khz : Nat) : Nat := (khz * 2 ^ 33 + 600000) / (2 * 600000)

/-- Lines of lead of a latch point (R203). -/
def latchLines (lead khz ht : Nat) : Nat := ceilDiv (lead * khz) (1000 * ht)

/-- The latch line of the frame in progress (R203). -/
def latchLine (s : State) (h : Nat) : Nat := frameLines s h - latchLines (headOf s h).lead (timOf s h 9) (hTotal s h)

/-- The timing record as the dictionary holds it: H:01 to H:0C. -/
def liveTiming (s : State) (h : Nat) : List Nat := (rangeFrom 1 12).map (fun i => rd s (dkey (0x3000 + 0x40 * h) i))

/-- Whether a key is one of the timing record that a timing change applies: every subindex but ENABLE. -/
def isTimingKey (h k : Nat) : Bool :=
  decide (k / 256 = 0x3000 + 0x40 * h) && k != E.head_ENABLE h

/-- Whether a key is a composition entry of the head that lands under R185: facets, matrices of facets, direct records,
BACKGROUND, scaler sets. -/
def isComposeKey (h k : Nat) : Bool :=
  let off := k / 256 - (0x3000 + 0x40 * h)
  decide (0x3000 + 0x40 * h ≤ k / 256) &&
    (k == E.head_BACKGROUND h || off == 0x0C || off == 0x0D || (decide (0x10 ≤ off) && decide (off < 0x30)))

/-- Whether a key is of the output stage, which R173 times. -/
def isOutputKey (h k : Nat) : Bool :=
  let off := k / 256 - (0x3000 + 0x40 * h)
  decide (0x3000 + 0x40 * h ≤ k / 256) && (k == E.head_LUT_SEL h || off == 0x08 || off == 0x0A || off == 0x0B)

/-- Whether an output-stage value waits for the second frame start: a LUT domain of a slot that is not selected does not
(R173). -/
def isTimedOutput (s : State) (h k : Nat) : Bool :=
  isOutputKey h k && !(k == E.head_LUT_SUN h && rd s (E.head_LUT_SEL h) != 1) &&
    !(k == E.head_LUT_NIGHT h && rd s (E.head_LUT_SEL h) != 2)

/-! ### Line buffers and latency tolerance (R186, R203, R212) -/

/-- An entry of a head as its coming frame has it: a composition value that the latch point has let through counts (R185). -/
def comingVal (s : State) (h k : Nat) : Nat := if (headOf s h).armed ∧ isComposeKey h k then candVal s k else rd s k

/-- A facet as the coming frame has it: after the latch point with what it took, before it as in force (R203). -/
def comingFacet (s : State) (h f : Nat) : FacetRec :=
  let x := facetOf s h f
  if (headOf s h).taken then
    { x with shown := x.latched.getD x.shown, warp := x.nextWarp, stale := x.nextStale, subst := x.nextSubst, dropped := false,
             cam := if x.detachNext then none else x.cam,
             slice := if x.detachNext then none else x.slice.map (fun y =>
               match x.cam with | some r => { y with serving := rd s (E.cam_SLICE_STATE r) == 2 } | none => y) }
  else { x with dropped := false }

/-- The slice prefetches the first rows of a facet for the coming frame; with `anew` it discards those it had (R203). -/
def prefetchFacet (s : State) (h f : Nat) (anew : Bool) : State :=
  let y := comingFacet s h f
  let v := comingVal s h
  let z := fillRows s v h f (if anew then { y with lines := [] } else y) (v (E.facet_DST_Y h f))
  setFacet s h f { facetOf s h f with lines := z.lines }

/-- The first lines of the coming frame are prefetched, from line V_ACTIVE on; not for a frame that will be blank (R203, R215). -/
def prefetchHead (s : State) (h : Nat) : State :=
  if hState s h = 3 then s
  else
    let s1 := (List.range 8).foldl (fun t f => prefetchFacet t h f false) s
    setHead s1 h { headOf s1 h with prefetched := true }

/-- Whether the latch point has changed what a facet shows: its buffer, its warp or its geometry (R203). -/
def facetChanges (s : State) (h f : Nat) : Bool :=
  let x := facetOf s h f
  x.latched.isSome || x.nextWarp != x.warp || x.nextStale != x.stale || x.nextSubst != x.subst ||
    ((headOf s h).armed && (rangeFrom 0 3).any (fun n =>
      s.dict.applying.any (fun p => p.1 / 256 == 0x3010 + 0x40 * h + 4 * f + n)))

/-- At the latch point the facets that change discard what they prefetched and fetch it again; nothing is discarded where the latch point
lies before line V_ACTIVE (R203). -/
def refetchHead (s : State) (h : Nat) : State :=
  if (headOf s h).prefetched then
    (List.range 8).foldl (fun t f => if facetChanges t h f then prefetchFacet t h f true else t) s
  else s

/-- Whole lines after line `y` that need nothing beyond what a layer's buffers hold: the layer covers lines `top` to `bottom` − 1, of
`active` lines in a frame of `total`, and `holds` tells whether the rows of a line are there. -/
def linesAhead (total active y top bottom : Nat) (holds : Nat → Bool) : Nat :=
  let run := fun a => ((rangeFrom a (bottom - a)).takeWhile holds).length
  if y < bottom ∧ y < active then
    let a := max (y + 1) top
    let n := run a
    (if a + n < bottom then a + n else total + top) - (y + 1)
  else total + top + run top - (y + 1)

/-- The lines a facet's buffers cover beyond line `y`; none for a facet that fetches nothing. -/
def facetAhead (s : State) (h y f : Nat) : Option Nat :=
  let x := comingFacet s h f
  match fillWith s (rd s) h f x with
  | .pixels _ warp =>
    let top := rd s (E.facet_DST_Y h f)
    some (linesAhead (frameLines s h) (vActive s h) y top (top + rd s (E.facet_DST_H h f)) (fun l =>
      let r := rowsOf (rd s) h f warp l
      (rangeFrom r.1 r.2).all (fun k => x.lines.any (fun q => q.row == k))))
  | _ => none

/-- The lines a cameo layer's four line buffers cover beyond line `y` (R177); none without the layer. -/
def cameoAhead (s : State) (h y n : Nat) : Option Nat :=
  match cameoLayer s h n with
  | [] => none
  | l =>
    let top := at0 0 l 1
    let bottom := top + at0 0 l 3
    let first := if y < bottom ∧ y < vActive s h then max y top else top
    some (linesAhead (frameLines s h) (vActive s h) y top bottom (fun k => decide (k < first + 4)))

/-- The latency tolerance of a head at its line, in whole microseconds, saturating (R212). DESIGN CHOICE: log 214. -/
def toleranceOf (s : State) (h : Nat) : Nat :=
  let y := rd s (E.head_LINE h)
  let l := (List.range 8).filterMap (facetAhead s h y) ++ (List.range 2).filterMap (cameoAhead s h y)
  match l with
  | [] => 65535
  | a :: r => min 65535 (r.foldl min a * hTotal s h * 1000 / timOf s h 9)

/-- TOLERANCE is reported; a line with data missing has nothing ahead; 65,535 while disabled or blanked (R212). -/
def reportTolerance (s : State) (h : Nat) (short : Bool) : State :=
  wr s (E.head_TOLERANCE h) (if hState s h ≠ 2 then 65535 else if short then 0 else toleranceOf s h)

/-! ### Facets at landings -/

/-- What a facet's landed values do at once: ENABLE = 0 ends the hold (R189). -/
def settleFacet (s : State) (h f : Nat) : State :=
  if facetOn s h f then s else wr s (E.facet_HOLDER h f) 0xFFFF

/-- The applied composition values of a head land. -/
def landGeometry (s : State) (h : Nat) : State :=
  let s1 := landWhere s (fun k => isComposeKey h k || (isOutputKey h k && !isTimedOutput s h k))
  updateSums ((List.range 8).foldl (fun t f => settleFacet t h f) s1)

/-- They land at the instant of R185: the sequencer switches to the bank compiled from them (R194). -/
def landCompose (s : State) (h : Nat) : State := installBank (landGeometry s h) h

/-- The applied output-stage values of a head land at a frame start; LUT_ACTIVE follows LUT_SEL there (R173, R198). -/
def landOutput (s : State) (h : Nat) : State :=
  let s1 := landWhere s (isOutputKey h)
  if rd s1 (E.head_LUT_ACTIVE h) = rd s1 (E.head_LUT_SEL h) then s1
  else raise (wr s1 (E.head_LUT_ACTIVE h) (rd s1 (E.head_LUT_SEL h))) .lutSwitched [h, rd s1 (E.head_LUT_SEL h)]

/-- The FRAME at which an output change handed over now takes effect: the frame after the first whose latch point comes at
least 200 µs later, as the timing in force predicts (R173, R258); 1 for a head that does not scan, whose FRAME restarts. -/
def outputFrame (s : State) (h : Nat) : Nat :=
  if scanning s h then
    let left := latchLine s h - rd s (E.head_LINE h)
    -- µs to the latch line: lines × H_TOTAL / PIXEL_CLOCK
    let late := decide (200 * timOf s h 9 ≤ left * hTotal s h * 1000) && !(headOf s h).taken
    (rd s (E.head_FRAME h) + (if late then 2 else 3)) % 2 ^ 32
  else 1

/-- The trusted world is told of an output change at its hand-over (R258). -/
def lutNotice (s : State) (h : Nat) : State := raiseTrusted s .lutNotice [h, outputFrame s h]

/-! ### Ports as heads leave and take them (R219, R220, R227) -/

/-- A port is DP or eDP (R226). -/
def isDp (p : Nat) : Bool := decide (p < 8)

/-- Payload of one DP lane, kbit/s (R228). -/
def laneKbit (rate : Nat) : Nat := at0 0 [1296000, 2160000, 4320000, 6480000] rate

/-- Sixteenths of a bit per pixel on a port's link: DSC_BPP, or 3 × BPC (R228). -/
def linkBits16 (v : Nat → Nat) (p : Nat) : Nat :=
  if v (E.port_DSC_EN p) = 1 then v (E.port_DSC_BPP p) else 48 * v (E.port_BPC p)

/-- The MST time slots that a stream of a pixel clock in kHz needs (R228). -/
def mstSlots (v : Nat → Nat) (p khz : Nat) : Nat :=
  ceilDiv (khz * linkBits16 v p * 64) (16 * v (E.port_LANES p) * laneKbit (v (E.port_LINK_RATE p)))

/-- The heads whose route in force names a port and that are not disabled, with their streams. -/
def portHeads (s : State) (p : Nat) : List (Nat × Nat) :=
  (List.range 16).filterMap (fun h =>
    match portOfRoute (headOf s h).route with
    | some (q, st) => if q = p ∧ hState s h ≠ 0 then some (h, st) else none
    | none => none)

/-- STREAMS and MST_SLOTS follow from the heads a port carries; it holds time slots while it is ready (R227, R231). -/
def settleStreams (s : State) (p : Nat) : State :=
  let l := if rd s (E.port_STATE p) = 4 then [] else portHeads s p
  let n := if isDp p ∧ rd s (E.port_MST p) = 1 ∧ rd s (E.port_STATE p) = 2 then
    (l.map (fun e => mstSlots (rd s) p (timOf s e.1 9))).sum else 0
  wr (wr s (E.port_STREAMS p) (maskOf (l.map (·.2)))) (E.port_MST_SLOTS p) n

/-- A port after a head has joined or left it: without a head it is idle; one without a sink keeps that state (R220, R231, R232). -/
def settlePort (s : State) (p : Nat) : State :=
  let s1 := settleStreams s p
  if portHeads s p = [] ∧ rd s (E.port_STATE p) ≠ 4 then wr s1 (E.port_STATE p) 0 else s1

/-- The port of a route, if it names one, follows its heads. -/
def settleRoute (s : State) (route : Nat) : State :=
  match portOfRoute route with
  | none => s
  | some (p, _) => settlePort s p

/-- A route takes effect: the old port loses the stream, the new one gets it. -/
def landRoute (s : State) (h : Nat) : State :=
  let s1 := landKey s (E.xbar_ROUTE h)
  let old := (headOf s1 h).route
  let new := rd s1 (E.xbar_ROUTE h)
  settleRoute (settleRoute (setHead s1 h { headOf s1 h with route := new }) old) new

/-- Whether the port of a head's route is ready, so that content can be shown (R220, R231). A head without a route needs
none. -/
def portShows (s : State) (h : Nat) : Bool :=
  match portOfRoute (headOf s h).route with
  | none => true
  | some (p, _) => rd s (E.port_STATE p) == 2

/-- Whether the port of a head's route is being brought up, or fails to come up (R231). -/
def portComes (s : State) (h : Nat) : Bool :=
  match portOfRoute (headOf s h).route with
  | none => false
  | some (p, _) => rd s (E.port_STATE p) == 1 || rd s (E.port_STATE p) == 3

/-! ### Region checks at a frame's end (R257) -/

/-- The regions a frame did not compare are counted. -/
def skipRegions (s : State) (h : Nat) : State :=
  let x := cameoOf s h
  let n := ((List.range 8).filter (fun r => regionOn s h r && !x.finished.contains r)).length
  let s1 := setCameo s h { x with folds := [], finished := [] }
  if n = 0 then s1
  else
    let s2 := bumpBy s1 (E.cameo_SKIPPED h) n
    raise (raiseTrusted s2 .checkSkipped [h, rd s (E.head_FRAME h)]) .checkSkipped [h, rd s (E.head_FRAME h)]

/-- CHECK_STATE follows the regions in force (R264). -/
def settleCheck (s : State) (h : Nat) : State :=
  if rd s (E.cameo_CHECK_STATE h) = 2 then s
  else wr s (E.cameo_CHECK_STATE h) (b2n ((List.range 8).any (regionOn s h)))

/-- A presentation applies from the frame that starts (R247): buffers, region records, payloads; a changed record resets its
region's mismatch run (R259). -/
def applyPresentation (s : State) (h : Nat) : State :=
  let x := cameoOf s h
  match x.next with
  | none => s
  | some p =>
    let x1 := { x with next := none, presented := true, splash := false,
                       c0 := p.c0.getD x.c0, c1 := p.c1.getD x.c1,
                       payloads := p.payloads.foldl (fun t e => tset (fun _ => 0) t (8 * e.1 + e.2.1) e.2.2.toNat) x.payloads }
    let s1 := setCameo s h x1
    match p.regions with
    | none => s1
    | some l =>
      let s2 := (List.range 8).foldl (fun t r =>
        let v := (at0 0#128 l r).toNat
        if rd t (E.cameo_REGION h r) = v then t
        else
          let y := cameoOf t h
          wr (setCameo t h { y with runs := tset (fun _ => 0) y.runs r 0 }) (E.cameo_REGION h r) v) s1
      settleCheck s2 h

/-! ### Frames -/

/-- A frame lock's error at this instant, ns: system time minus the nearest target (R218). System time is the last SYNC0
stamp carried on by the always-on timer. -/
def lockError (s : State) (h : Nat) : Option Int :=
  match s.field.stamp with
  | none => none
  | some t =>
    let now : Int := ((t + 40 * (s.time - s.field.stampAt) : Nat) : Int)
    let period : Int := ((rd s (E.head_LOCK_PERIOD h) : Nat) : Int)
    let ph := (now - ((rd s (E.head_LOCK_OFFSET h) : Nat) : Int)) % period
    some (if 2 * ph ≤ period then ph else ph - period)

/-- An irregular frame with its cause: it is counted and reported once (R213, R218, R221). -/
def irregular (s : State) (h cause : Nat) : State :=
  let x := headOf s h
  let s1 := wr (wr s (E.head_LAST_IRREGULAR h) (rd s (E.head_FRAME h))) (E.head_IRREG_CAUSE h) cause
  if x.irr then s1
  else raise (bump (setHead s1 h { x with irr := true }) (E.head_IRREGULAR_FRAMES h)) .headIrregular [h, cause]

/-- Frame lock enters the acquiring state; with LOCK_ACQUIRE = 1 a jump is to come. -/
def lockAcquire (s : State) (h : Nat) : State :=
  setHead (wr s (E.head_LOCK_STATE h) 1) h { headOf s h with lockRun := 0, jump := rd s (E.head_LOCK_ACQUIRE h) == 1 }

/-- Nanoseconds of a regular frame. -/
def frameNs (s : State) (h : Nat) : Nat := hTotal s h * vTotal s h * 1000000 / timOf s h 9

/-- Frame lock at a frame start (R218): LOCK_ERROR, the jump of the first frame, the states, and the next trim, a free value
within ±0.2 % of K. The jump lengthens the frame by as many whole lines as bring the next frame start within a line of its target.
DESIGN CHOICE: log 94. DESIGN CHOICE: log 95. -/
def lockFrame (s : State) (h : Nat) : State :=
  if rd s (E.head_LOCK_EN h) = 0 ∨ timOf s h 12 = 1 then wr s (E.head_LOCK_STATE h) 0
  else
    match lockError s h with
    | none => s
    | some e =>
      let s0 := wr s (E.head_LOCK_ERROR h) (ofInt 32 e)
      if rd s0 (E.head_LOCK_STATE h) = 3 then s0
      else
        let s1 := if rd s0 (E.head_LOCK_STATE h) = 0 then lockAcquire s0 h else s0
        let st := rd s1 (E.head_LOCK_STATE h)
        let x := headOf s1 h
        let lineNs := hTotal s h * 1000000 / timOf s h 9
        let period : Int := ((rd s (E.head_LOCK_PERIOD h) : Nat) : Int)
        let x1 := if x.jump then { x with jump := false, extra := if lineNs = 0 then 0
            else ((-(e + ((frameNs s h : Nat) : Int))) % period).toNat / lineNs } else x
        let s2 := setHead s1 h x1
        let s3 := if x.jump then irregular s2 h 2 else s2
        let near := decide (e.natAbs ≤ 400)
        let run := if near then x1.lockRun + 1 else 0
        let bound := kOf (timOf s h 9) * 2 / 1000
        let trim : Int := ((freeVal s3 (2 * bound + 1) : Nat) : Int) - (bound : Int)
        let s4 := setHead (drawn s3) h { headOf s3 h with lockRun := run, trim := trim }
        if st = 1 ∧ 8 ≤ run then raise (wr s4 (E.head_LOCK_STATE h) 2) .lockAcquired [h]
        else if st = 2 ∧ 5000 < e.natAbs then
          raise (bump (wr s4 (E.head_LOCK_STATE h) 3) (E.head_LOCK_LOSSES h)) .lockLost [h]
        else s4

/-- A facet at a frame start: what was latched is shown (R190, R192, R206, R241), a withdrawn facet is off (R29). -/
def frameFacet (s : State) (h f : Nat) : State :=
  let x := facetOf s h f
  let shown := x.latched.getD x.shown
  let off := x.offNext
  let sl := match x.slice, x.cam with
    | some y, some r =>
      let rx := rxOf s r
      some { y with base := rx.base, seq := rx.seq, buf := rx.lastBuf, ok := true,
                    serving := rd s (E.cam_SLICE_STATE r) == 2 }
    | y, _ => y
  let s1 := setFacet s h f { x with shown := shown, latched := none, warp := x.nextWarp, nextWarp := none,
                                    stale := x.nextStale, subst := x.nextSubst, leaving := x.leaving && !off,
                                    offNext := false, slice := if x.detachNext then none else sl, dropped := false,
                                    cam := if x.detachNext then none else x.cam, detach := x.detach && !x.detachNext,
                                    detachNext := false, cold := !(headOf s h).prefetched,
                                    lines := if (headOf s h).prefetched then x.lines else [] }
  let s2 := match x.latched with
    | some (some sh) => wr (wr s1 (E.facet_GENERATION h f) sh.gen) (E.facet_SHOWN_ADDR h f) sh.addr
    | _ => s1
  let s3 := if (match fillOf s1 h f with | .tint _ => hState s h == 2 | _ => false) then bump s2 (E.facet_STALE h f) else s2
  if off then wr (wr s3 (E.facet_ENABLE h f) 0) (E.facet_HOLDER h f) 0xFFFF else s3

/-- Facets of a head at a frame start; a facet that goes off takes a new bank with it. -/
def frameFacets (s : State) (h : Nat) : State :=
  let off := (List.range 8).any (fun f => (facetOf s h f).offNext)
  let s1 := (List.range 8).foldl (fun t f => frameFacet t h f) s
  let s2 := setHead s1 h { headOf s1 h with prefetched := false }
  if off then updateSums (installBank s2 h) else s2

/-- A head stops at the end of its frame (R216): its slice is released, its port goes idle, its facets keep their holders,
waiting values land, and groups already taken elsewhere are taken on it (R190). -/
def stopHead (s : State) (h : Nat) : State :=
  let x := headOf s h
  let s2 := wr (setHeadState (skipRegions s h) h 0) (E.head_LINE h) 0
  let s3 := wr (wr s2 (E.head_TE_STATE h) 0) (E.head_LOCK_STATE h) 0
  let s4 := setHead s3 h { x with begun := false, taken := false, clean := false, stopping := false, blankNext := false,
                                  armed := false, routeArmed := false, lutIn := 0, extra := 0, bank := [], oldBank := [],
                                  prefetched := false }
  let s5 := landWhere (landGeometry (landWhere s4 (isTimingKey h)) h) (isOutputKey h)
  let s6 := (s5.compose.groups.filter (fun g => !g.taken.isEmpty && (groupHeads g).contains h && !g.taken.contains h)).foldl
    (fun t g => (takeOne t g h).1) s5
  let s7 := updateSums (updateSlices (landRoute s6 h))
  let s8 := match (headOf s7 h).wb with | some w => if w.stopping then endWb s7 h else s7 | none => s7
  settleGroups s8.compose.groups.length s8

/-- Composition serves no head while DISP0's side of the head's crossing waits for its rejoin (R411). -/
def dispWaits (s : State) (h : Nat) : Bool :=
  let x := tget (fun _ => ({} : XingRec)) s.isl.xings (0x12 + h / 8)
  x.state == 4 && x.side

/-- STATE of the frame that starts: blank after an enable, a clean change, a route change or a new bring-up, while the port is brought up,
and for as long as a blanked head's port is not ready; otherwise running (R215, R216, R220, R231, R232). -/
def nextFrameState (s : State) (h : Nat) : Nat :=
  let x := headOf s h
  if hState s h = 1 ∨ x.clean ∨ x.blankNext ∨ dispWaits s h then 4
  else if portComes s h ∨ (hState s h = 4 ∧ ¬ portShows s h) then 4
  else 2

/-- TE_STATE follows the scan mode in force: 0 in video mode; a head that enters command mode waits for its panel (R222). -/
def settleTe (s : State) (h : Nat) : State :=
  if ¬ commandMode s h then wr s (E.head_TE_STATE h) 0
  else if rd s (E.head_TE_STATE h) = 0 then wr s (E.head_TE_STATE h) 1
  else s

/-- A frame starts (R199, R215, R216, R194, R173). DEDUCED: log 91. -/
def startFrame (s0 : State) (h : Nat) : State :=
  let s := abandonScans s0 h
  let x := headOf s h
  let fresh := hState s h = 1
  let was := hState s h
  let st := nextFrameState s h
  -- an enabling commit, a clean change: the timing record, and a route with it, come into force
  let s1 := if fresh ∨ x.clean then landRoute (landWhere s (fun k => isTimingKey h k || k == E.head_ENABLE h)) h else s
  let s2 := if fresh ∨ x.clean then
      settleTe (updateSums (updateSlices (settleRoute (setHead s1 h { headOf s1 h with tim := liveTiming s1 h }) (headOf s1 h).route))) h
    else s1
  let s3 := if fresh then setHead s2 h { headOf s2 h with oldBank := [], bank := [], faulted := false }
    else if hActive s2 h ≠ hActive s h ∨ vActive s2 h ≠ vActive s h then installBank s2 h
    else s2
  -- the filigree bank of a frame with a fault gives way to the one before it
  let s4 := if x.faulty ∧ x.oldBank ≠ [] then
      dput (setHead s3 h { headOf s3 h with bank := x.oldBank, oldBank := [] }) (E.head_FILIGREE h) (bankBytes x.oldBank)
    else s3
  let s5 := setHead s4 h { headOf s4 h with begun := false, taken := false, clean := false, blankNext := false, extra := 0,
                                            under := false, warpHit := false, faulty := false, teGo := false, irr := false,
                                            lead := rd s4 (E.head_LATCH_LEAD h), startAt := s.time }
  -- output changes that waited for this frame start, then composition changes that the latch point let through
  let s6 := if fresh ∨ x.lutIn = 1 then setHead (landOutput s5 h) h { headOf s5 h with lutIn := 0 } else s5
  let waits := s6.dict.applying.any (fun p => isTimedOutput s6 h p.1)
  let geometry := s6.dict.applying.any (fun p => isComposeKey h p.1 || (isOutputKey h p.1 && !isTimedOutput s6 h p.1))
  let s7 := if fresh ∨ x.armed then
      let t := setHead s6 h { headOf s6 h with armed := false, lutIn := if waits then 1 else 0 }
      if fresh ∨ geometry then landCompose t h else t
    else s6
  let s8 := wr (wr s7 (E.head_FRAME h) ((rd s7 (E.head_FRAME h) + 1) % 2 ^ 32)) (E.head_LINE h) 0
  let s9 := setHeadState s8 h st
  let s10 := frameFacets (applyPresentation s9 h) h
  let y := cameoOf s10 h
  let s11 := setCameo s10 h { y with alarms := y.latched }
  let s12 := lockFrame s11 h
  let s13 := raise s12 .headFrame [h, rd s12 (E.head_FRAME h)]
  if st = 2 ∧ was = 4 then raise s13 .headResync [h] else s13

/-- HEAD_FRAME: the frame in progress has run to its last line, or a transfer is let off after the one before has been sent, or the head
starts. A stopping head stops instead. The blank frame of a clean change waits for no edge (R205, R215, R221). DEDUCED: log 215. -/
def headFrame (s : State) (h : Nat) : State :=
  let x := headOf s h
  let y := rd s (E.head_LINE h) + 1
  if ¬ pdOn s (headDomain h) then s
  else if hState s h = 1 then startFrame s h
  else if ¬ scanning s h ∨ ¬ x.begun ∨ y < (if x.teGo ∧ ¬ x.stopping then vActive s h else frameLines s h) then s
  else if x.stopping then stopHead s h
  else
    let free := rd s (E.head_TE_STATE h) == 2 || hState s h == 3
    if commandMode s h ∧ ¬ x.teGo ∧ ¬ free then s
    else
      let s1 := if commandMode s h ∧ ¬ x.teGo then bump s (E.head_TE_MISSED h) else s
      startFrame (skipRegions s1 h) h

/-! ### Latch points -/

/-- A latch point of a head for one client with groups that name it (R190). -/
def latchClient (s : State) (h c : Nat) : State :=
  let mine := s.compose.groups.filter (fun g => g.client == c && (groupHeads g).contains h)
  match mine.find? (fun g => !g.taken.isEmpty && !g.taken.contains h) with
  | some g => takeGroup s g h
  | none =>
    match (mine.filter (groupReady s)).reverse with
    | [] => s
    | g :: _ => takeGroup (discardOlder s g) g h

/-- The clients with a pending group that names a head (R190, R191). -/
def groupClients (s : State) (h : Nat) : List Nat :=
  ((s.compose.groups.filter (fun g => (groupHeads g).contains h)).map (·.client)).eraseDups

/-- A flip facet after the takes of a latch point: late, stale, or re-projected (R182, R191, R192, R206, R208). A disabled, direct or
camera facet is none of these (R186, R238). -/
def latchFacet (s : State) (h f : Nat) : State :=
  let x := facetOf s h f
  if ¬ facetOn s h f ∨ rd s (E.facet_SOURCE h f) ≠ 0 ∨ rd s (E.facet_DIRECT_EN h f) = 1 then
    (if x.lateRun = 0 ∧ ¬ x.nextStale then s else setFacet s h f { x with lateRun := 0, nextStale := false })
  else
    let late := s.compose.groups.any (fun g => namesFacet g h f && !g.taken.contains h)
    let kept := x.latched.isNone
    let s1 := if late then raise (bump s (E.facet_LATE h f)) .facetLate [h, f] else s
    if rd s (E.facet_FRESH_REQUIRED h f) = 1 then
      let run := if late ∧ kept then x.lateRun + 1 else 0
      let stale := kept && (x.stale || decide (rd s (E.facet_FRESH_LIMIT h f) ≤ run))
      let s2 := setFacet s1 h f { x with lateRun := run, nextStale := stale }
      if stale ∧ ¬ x.stale then raise s2 .facetStale [h, f] else s2
    else
      match x.shown, (if late ∧ kept ∧ rd s (E.facet_REPROJECT h f) = 1 then
          tget (fun _ => none) s.compose.motion (rd s (E.facet_HOLDER h f)) else none) with
      | some sh, some m =>
        (match warpOf sh.xform m with
         | none => s1
         | some w =>
           if w.nearIdentity then s1
           else if w.inLimits then bump (setFacet s1 h f { x with nextWarp := some w }) (E.facet_REPROJECTED h f)
           else
             let y := headOf s1 h
             let s2 := bump (setHead s1 h { y with warpHit := true }) (E.head_WARP_LIMITS h)
             if y.warpHit then s2 else raise s2 .warpLimit [h])
      | _, _ => s1

/-- A camera facet at a latch point: its slice state (R240), its newest complete frame (R238), or the substitute (R241). A
detached one shows BACKGROUND from the coming frame (R236). -/
def latchCamera (s : State) (h f r : Nat) : State :=
  let x := facetOf s h f
  if x.detach then setFacet s h f { x with detachNext := true, latched := some none, nextSubst := false } else
  let rx := rxOf s r
  let sl := x.slice.map (fun y =>
    match y.verdict with
    | some (seq, ok) => { y with verdict := none, count := if ok && rx.done.contains seq then y.count + 1 else 0 }
    | none => y)
  let armed : Bool := match sl with | some y => decide (2 ≤ y.count) | none => false
  let st := rd s (E.cam_SLICE_STATE r)
  let s1 := setFacet s h f { x with slice := sl, nextSubst := rd s (E.cam_STATE r) == 3 }
  let s2 := if armed = true ∧ st = 1 then raise (wr s1 (E.cam_SLICE_STATE r) 2) .sliceArmed [r] else s1
  match rx.newest with
  | none => s2
  | some b =>
    let sh := ringShown s r b
    if rd s (E.cam_STATE r) = 3 ∨ x.shown = some sh ∨ (x.slice.isSome ∧ rd s2 (E.cam_SLICE_STATE r) = 2) then s2
    else bump (setFacet s2 h f { facetOf s2 h f with latched := some (some sh) }) (E.facet_FLIPS h f)

/-- A withdrawn facet goes off from the coming frame (R29). -/
def latchLeaving (s : State) (h f : Nat) : State :=
  let x := facetOf s h f
  if x.leaving then setFacet s h f { x with offNext := true } else s

/-- The pending presentation at a latch point: taken when its fence has signalled and FROM_FRAME is reached, else late
(R247). -/
def latchPresentation (s : State) (h : Nat) : State :=
  let x := cameoOf s h
  match x.pending with
  | none => s
  | some p =>
    let coming := (rd s (E.head_FRAME h) + 1) % 2 ^ 32
    let due := decide ((coming + 2 ^ 32 - p.fromFrame.toNat) % 2 ^ 32 < 2 ^ 31)
    let signalled := match p.fence with
      | some (n, v) => fenceReached (fenceHeld s (trustedKey n) false).1 v
      | none => true
    if due && signalled then
      let s1 := setCameo s h { x with pending := none, next := some p }
      raiseTrusted (bumpWrap s1 (E.cameo_PRESENTATIONS h)) .presentationTaken [h, coming]
    else raiseTrusted (bump s (E.cameo_CAMEO_LATE h)) .cameoLate [h]

/-- The alarm states accepted so far are latched (R248). -/
def latchAlarms (s : State) (h : Nat) : State :=
  let l := (List.range 64).map (fun a => fld (rd s (E.pdo_ALARM_STATE (a / 8))) (4 * (a % 8)) 4)
  setCameo s h { cameoOf s h with latched := l }

/-- Counts of the always-on timer in a frame of a head. -/
def framePeriod (s : State) (h : Nat) : Nat := hTotal s h * vTotal s h * 25000 / timOf s h 9

/-- A latch point of a render that the governor watches passes without its fence: GOV_LATE, LATE counts an adopted one, and the next
latch point of the head is its (R164, R165). -/
def lateRender (s : State) (key h : Nat) (b : Sub) : State :=
  match rctxOf s key with
  | none => s
  | some x =>
    let x1 := putSub x { b with latch := b.latch + framePeriod s h }
    raise (setRctx s key (some { x1 with late := if b.adopted then (x.late + 1) % 2 ^ 32 else x.late })) .govLate [key, b.fence]

/-- The watched renders of every context whose latch point on a head passes (R164). -/
def latchGovernor (s : State) (h : Nat) : State :=
  s.raster.rctx.foldl (fun t p =>
    match p.2 with
    | none => t
    | some x =>
      (x.subs.filter (fun b => (b.adopted || b.watched) && b.ended.isNone && b.latchHead == h && decide (b.latch ≤ s.time))).foldl
        (fun u b => lateRender u p.1 h b) t) s

/-- Whether a commit's check phase ended at least 200 µs ago (R185, R220). -/
def lateEnough (s : State) : Bool := decide (s.dict.checkedAt + 5000 ≤ s.time)

/-- HEAD_LATCH: the latch point of the coming frame (R203, R214). In command mode it comes once per transfer. DEDUCED: log 56. -/
def headLatch (s : State) (h : Nat) : State :=
  let x := headOf s h
  if ¬ hasLatch s h ∨ x.taken ∨ ¬ x.begun ∨ (rd s (E.head_LINE h) ≠ latchLine s h ∧ ¬ commandMode s h) then s
  else
    let armed := lateEnough s && s.dict.applying.any (fun p => isComposeKey h p.1 || isOutputKey h p.1)
    let s1 := setHead s h { x with taken := true, armed := armed,
                                   routeArmed := lateEnough s && candVal s (E.xbar_ROUTE h) != rd s (E.xbar_ROUTE h) }
    let s2 := raise s1 .headLatch [h, rd s (E.head_FRAME h)]
    let s3 := (groupClients s2 h).foldl (fun t c => latchClient t h c) s2
    let s4 := (List.range 8).foldl (fun t f => latchFacet t h f) s3
    let s5 := (List.range 8).foldl (fun t f =>
      match (facetOf t h f).cam with
      | some r => if facetOn t h f ∧ rd t (E.facet_SOURCE h f) = 1 then latchCamera t h f r else t
      | none => t) s4
    let s6 := (List.range 8).foldl (fun t f => latchLeaving t h f) s5
    latchGovernor (latchAlarms (latchPresentation (refetchHead s6 h) h) h) h

/-! ### Lines -/

/-- A needed line of a slice facet is missing (R240): a serving facet drops out for the rest of the frame, an arming one is
out of phase. -/
def sliceLine (s : State) (h y f : Nat) : State :=
  let x := facetOf s h f
  match x.slice, x.cam with
  | some sl, some r =>
    if ¬ facetOn s h f ∨ ¬ inSlice s (rd s) h f ∨ ¬ crosses s h f y ∨ x.dropped then s
    else if (neededRows s h f y).all (linePresent s r (rd s (E.facet_LINES h f)) sl) then s
    else if sl.serving then
      let s1 := setFacet s h f { x with dropped := true, slice := some { sl with serving := false, ok := false, count := 0 } }
      raise (bump (wr s1 (E.cam_SLICE_STATE r) 1) (E.cam_SLICE_MISSES r)) .sliceDropped [r]
    else setFacet s h f { x with slice := some { sl with ok := false } }
  | _, _ => s

/-- A line with data missing is counted (R211). -/
def countUnderrun (s : State) (h : Nat) (m : Missing) : State :=
  let s1 := bump s (E.head_UNDERRUN_LINES h)
  let s2 := (m.facets.map (·.val)).eraseDups.foldl (fun t f => bump t (E.facet_UNDERRUNS h f)) s1
  let s3 := if m.cameo then bump s2 (E.head_CAMEO_UNDERRUNS h) else s2
  let x := headOf s3 h
  if x.under then s3 else raise (setHead s3 h { x with under := true }) .headUnderrun [h]

/-- The sequencer meets a structural fault on a line (R195): it is counted once per frame; the event of a fault without a
bank to fall back on is raised once. -/
def filigreeFault (s : State) (h : Nat) : State :=
  let x := headOf s h
  let s1 := bump (setHead s h { x with faulty := true, faulted := x.oldBank == [] }) (E.head_FILIGREE_FAULTS h)
  if x.oldBank = [] ∧ x.faulted then s1 else raise s1 .filigreeFault [h]

/-- A content line: slice checks, fetches, composition, write-back, underrun, taps, and the line to the port. -/
def contentLine (s : State) (h y : Nat) (missing : Option Missing) (wbFull : Bool) : State :=
  let s1 := if (lineSteps s h y).isNone ∧ ¬ (headOf s h).faulty then filigreeFault s h else s
  let s2 := (List.range 8).foldl (fun t f => sliceLine t h y f) s1
  let steps := (lineSteps s2 h y).getD []
  let facets := (steps.map (·.1)).eraseDups
  let s3 := facets.foldl (fun t f => if badTileOn t h f y then bump t (E.facet_UNDERRUNS h f) else t) s2
  let s4 := facets.foldl (fun t f =>
    match strayBuffer t h f with | some (c, a) => windowViolation t c a | none => t) s3
  let s4 := (List.range 8).foldl (fun t f => fetchLine t h y f) s4
  let l := outputLine s4 h y (composed s4 h y steps (fun _ => true)) missing
  let s5 := wbLine s4 h y steps wbFull
  let s6 := match missing with | some m => countUnderrun s5 h m | none => s5
  sendLine (foldLine s6 h y l) h y l

/-- A blanked or blank line: every active pixel 0, nothing fetched; a write-back in progress loses the line. -/
def blankLine (s : State) (h y : Nat) : State :=
  let x := headOf s h
  let s1 := match x.wb with
    | some w => if w.started then setHead s h { x with wb := some { w with incomplete := true } } else s
    | none => s
  sendLine s1 h y (List.replicate (hActive s h) [0, 0, 0])

/-- The facets of a line whose first rows were never prefetched (R214). -/
def coldFacets (s : State) (h y : Nat) : List Facet :=
  (List.finRange 8).filter (fun f => (facetOf s h f).cold && facetOn s h f && crosses s h f y &&
    (match fillOf s h f with | .pixels _ _ => true | _ => false))

/-- What a line misses: what comes late (`m`), all of a facet whose fetch failed (R211, R360), and all of one whose rows were never
prefetched (R214). -/
def missingOf (s : State) (h y : Nat) (m : Option Missing) : Option Missing :=
  let x := headOf s h
  let lost := (List.finRange 8).filter (fun f => x.lostFacets.contains f.val) ++ coldFacets s h y
  if lost = [] ∧ ¬ x.lostCameo then m
  else
    match m with
    | some a => some { col := 0, facets := a.facets ++ lost, cameo := a.cameo || x.lostCameo }
    | none => some { col := 0, facets := lost, cameo := x.lostCameo }

/-- HEAD_LINE_START: the next line of the frame begins, with the K in force from here (R201); the slice prefetches from line V_ACTIVE
(R203), and the head reports its tolerance (R212). -/
def headLineStart (s : State) (h : Nat) (late : Option Missing) (wbFull : Bool) : State :=
  let x := headOf s h
  let y := if x.begun then rd s (E.head_LINE h) + 1 else 0
  if ¬ scanning s h ∨ frameLines s h ≤ y then s
  else
    let k := ((kOf (timOf s h 9) : Nat) : Int) + (if rd s (E.head_LOCK_EN h) = 1 then x.trim else 0)
    let missing := missingOf s h y late
    let s1 := wr (setHead s h { x with begun := true, k := k.toNat, lostFacets := [], lostCameo := false }) (E.head_LINE h) y
    let s2 :=
      if y = vActive s h then prefetchHead s1 h
      else if vActive s h ≤ y then s1
      else if hState s h = 2 then contentLine s1 h y missing wbFull
      else blankLine s1 h y
    reportTolerance s2 h (decide (y < vActive s h) && missing.isSome)

/-- HEAD_VBLANK: the head is at line V_ACTIVE; slice facets have needed their last line (R224, R240). -/
def headVblank (s : State) (h : Nat) : State :=
  if ¬ scanning s h ∨ ¬ (headOf s h).begun ∨ rd s (E.head_LINE h) ≠ vActive s h then s
  else
    let s1 := (List.range 8).foldl (fun t f =>
      let x := facetOf t h f
      match x.slice with
      | some sl => setFacet t h f { x with slice := some { sl with verdict := some (sl.seq, sl.ok) } }
      | none => t) s
    raise s1 .headVblank [h]

/-! ### Command mode (R205) -/

/-- A tearing-effect edge of its direction reaches a head: accepted from the latch point on, else ignored as early (R205). -/
def teEdgeHead (s : State) (h : Nat) : State :=
  let x := headOf s h
  if ¬ scanning s h ∨ ¬ commandMode s h then s
  else if ¬ x.taken ∨ x.teGo ∨ hState s h = 3 then bump s (E.head_TE_EARLY h)
  else
    let s1 := setHead s h { x with teGo := true }
    if rd s (E.head_TE_STATE h) = 2 then raise (wr s1 (E.head_TE_STATE h) 1) .teRelock [h] else s1

/-- TE_EDGE on input `pin`: the heads that name the input and the edge see it. -/
def teEdge (s : State) (pin : Nat) (falling : Bool) : State :=
  (List.range 16).foldl (fun t h =>
    if rd t (E.head_TE_INPUT h) = pin ∧ rd t (E.head_TE_EDGE h) = b2n falling then teEdgeHead t h else t) s

/-- TE_TIMEOUT: the transfer starts without an edge and the head free-runs. -/
def teTimeout (s : State) (h : Nat) : State :=
  let x := headOf s h
  if ¬ scanning s h ∨ ¬ commandMode s h ∨ x.teGo ∨ rd s (E.head_TE_STATE h) = 2 ∨ hState s h = 3 then s
  else
    raise (wr (bump (setHead s h { x with teGo := true }) (E.head_TE_MISSED h)) (E.head_TE_STATE h) 2) .teLost [h]

/-! ### Timing and route changes (R213–R216, R220, R221) -/

/-- Whether a commit is applying timing values of a head. -/
def timingWaits (s : State) (h : Nat) : Bool := s.dict.applying.any (fun p => isTimingKey h p.1)

/-- The timing record of a head as the running commit's candidate has it. -/
def candTiming (s : State) (h : Nat) : List Nat := (rangeFrom 1 12).map (fun i => candVal s (dkey (0x3000 + 0x40 * h) i))

/-- Whether the candidate changes the timing of a head (ENABLE apart). -/
def timingChanges (s : State) (h : Nat) : Bool :=
  (candTiming s h).set 9 0 != ((headOf s h).tim).set 9 0

/-- TIMING_CHANGE_IMMEDIATE: the new record is in force from the next line (R213). A latch point in the same line is taken first, under
the old timing; a frame lock goes back to acquiring (R221). DEDUCED: log 59. -/
def timingImmediate (s0 : State) (h : Nat) : State :=
  if ¬ scanning s0 h ∨ ¬ timingWaits s0 h ∨ candVal s0 (E.head_CHANGE h) ≠ 0 ∨ candVal s0 (E.head_ENABLE h) = 0 ∨
      (cameoOf s0 h).splash then s0
  else
    let changes := timingChanges s0 h
    let s := if changes ∧ ¬ commandMode s0 h then headLatch s0 h else s0
    let s1 := landWhere s (isTimingKey h)
    if ¬ changes then s1
    else
      let s2 := setHead s1 h { headOf s1 h with tim := liveTiming s1 h, extra := 0 }
      let s3 := if rd s (E.head_LOCK_STATE h) = 1 ∨ rd s (E.head_LOCK_STATE h) = 2 then lockAcquire s2 h else s2
      let s4 := if hActive s3 h ≠ hActive s h ∨ vActive s3 h ≠ vActive s h then installBank s3 h else s3
      updateSums (updateSlices (irregular (settleTe (settleRoute s4 (headOf s4 h).route) h) h 1))

/-- TIMING_CHANGE_CLEAN: the head is blanked until the blank frame that brings the new timing (R215). The splash heads take
this path whatever CHANGE holds (R448). -/
def timingClean (s : State) (h : Nat) : State :=
  if ¬ scanning s h ∨ ¬ timingWaits s h ∨ (candVal s (E.head_CHANGE h) ≠ 1 ∧ ¬ (cameoOf s h).splash) ∨
      candVal s (E.head_ENABLE h) = 0 then s
  else if timingChanges s h then setHeadState (setHead s h { headOf s h with clean := true }) h 3
  else landWhere s (isTimingKey h)

/-- HEAD_ENABLE: the head starts; its first frame comes one frame period later (R216). FRAME restarts at 0, and pending
presentations take FROM_FRAME 0 (R247). -/
def headEnable (s : State) (h : Nat) : State :=
  if hState s h ≠ 0 ∨ candVal s (E.head_ENABLE h) ≠ 1 ∨ ¬ pdOn s (headDomain h) then s
  else
    let x := cameoOf s h
    let s1 := setCameo s h { x with pending := x.pending.map (fun p => { p with fromFrame := 0 }) }
    let s2 := wr (wr (wr s1 (E.head_STATE h) 1) (E.head_FRAME h) 0) (E.head_LINE h) 0
    wr (setHead s2 h { headOf s2 h with stopping := false, teGo := false, lockRun := 0, trim := 0 }) (E.head_TE_STATE h)
      (if candVal s (dkey (0x3000 + 0x40 * h) 12) = 1 then 1 else 0)

/-- HEAD_DISABLE: ENABLE 0 is in force; the frame in progress runs to its last line, also during a clean change (R216,
R221). -/
def headDisable (s : State) (h : Nat) : State :=
  if hState s h = 0 ∨ candVal s (E.head_ENABLE h) ≠ 0 then s
  else
    let s1 := landWhere s (fun k => isTimingKey h k || k == E.head_ENABLE h)
    if hState s h = 1 then stopHead s1 h else setHead s1 h { headOf s1 h with stopping := true, clean := false }

/-- ROUTE_CHANGE: at a frame start after a latch point that let it through, the old port goes idle and the frame is blank
(R220). -/
def routeChange (s : State) (h : Nat) : State :=
  let x := headOf s h
  if ¬ scanning s h ∨ x.begun ∨ ¬ x.routeArmed then s
  else setHeadState (landRoute (setHead s h { x with routeArmed := false }) h) h 4

/-- LOCK_STAMP_TIMEOUT: no stamp for 100 ms (R218). -/
def lockTimeout (s : State) (h : Nat) : State :=
  let st := rd s (E.head_LOCK_STATE h)
  if st = 1 ∨ st = 2 then raise (bump (wr s (E.head_LOCK_STATE h) 3) (E.head_LOCK_LOSSES h)) .lockLost [h] else s

/-! ### The deadline governor (R163, R164) -/

/-- Counts of the always-on timer in a microsecond. -/
def usCounts : Nat := 25

/-- The render context and fence value whose signal a fresh-required facet of a head awaits. -/
def awaited (s : State) (h : Nat) : List (Nat × Nat) :=
  (s.compose.groups.flatMap (fun g =>
    if g.taken.contains h then []
    else g.entries.filterMap (fun e =>
      if e.head = h ∧ ¬ e.compute ∧ facetOn s h e.facet ∧ rd s (E.facet_FRESH_REQUIRED h e.facet) = 1 ∧
          ¬ entrySignalled s g.client e then some (g.client, e.fence) else none))).eraseDups

/-- The counts left of TILE_BUDGET to work of a render context that began at a time, when it is of lower level than `lvl` (R160). -/
def budgetLeft (s : State) (lvl key fence start : Nat) : Nat :=
  match rctxOf s key with
  | none => 0
  | some x =>
    let low := match openSub x fence with | some b => decide (subLevel s key x b < lvl) | none => false
    if low then x.tileBudget * usCounts - (s.time - start) else 0

/-- The bound of a core's workgroup, when it is of lower level than `lvl` (R160). -/
def wgBound (s : State) (lvl : Nat) (w : WgRun) : Nat :=
  match cctxOf s w.ctx with
  | none => 0
  | some x =>
    if lvl ≤ x.level then 0
    else
      let mx := match x.disps.find? (fun d => d.fence == w.fence) with | some d => d.maxTime * usCounts | none => 0
      let asked := match w.preempt with | some t => 50 * usCounts - (s.time - t) | none => 50 * usCounts
      let rest := min asked (mx - (s.time - w.start)) + 12 * usCounts
      if w.phase = 2 then 12 * usCounts + rest else if w.phase = 1 then 12 * usCounts else rest

/-- P: the largest remaining bound among units of lower level on a render's cores (R160, R163). -/
def lowerBound (s : State) (lvl allot : Nat) : Nat :=
  (List.range 16).foldl (fun m n =>
    if ¬ corePowered s n ∨ ¬ allotted allot n then m
    else
      let k := coreOf s n
      let wg := match k.wg with | some w => wgBound s lvl w | none => 0
      let tile := k.slots.foldl (fun a p =>
        match p.2 with | some r => max a (budgetLeft s lvl r.ctx r.fence r.start) | none => a) 0
      let vert := k.harts.foldl (fun a p =>
        match p.2.vertex with | some v => max a (budgetLeft s lvl v.ctx v.fence v.start) | none => a) 0
      max m (max wg (max tile vert))) 0

/-- E of a render, in counts (R163). Without a powered core in its allotment the quotient ⌈N / C⌉ has no value: it is
free. -/
def estimate (s : State) (x : RCtx) (b : Sub) : Int :=
  let n := if b.phase = 0 ∨ b.phase = 1 then tileCount x
    else ((List.range (tileCount x)).filter (fun t => placeOf b t != 2)).length
  let c := ((List.range 16).filter (fun i => allotted x.allot i && corePowered s i)).length
  let rounds := if c = 0 then Sys2Proof.Config.freeNat s.free else ceilDiv n c
  let tau := x.tau.getD (x.tileBudget * usCounts)
  let f : Int := if 2 ≤ b.phase then 0
    else roundFree (((x.binTime.getD (1000 * usCounts)) * (b.draws - b.drawsBinned) : Nat) : Int) b.draws
  ((lowerBound s 5 x.allot + rounds * tau + 20 * usCounts : Nat) : Int) + f

/-- The governor evaluates one awaited render for a latch point (R163, R164). DESIGN CHOICE: log 87. -/
def govern (s : State) (h latch : Nat) (a : Nat × Nat) : State :=
  match rctxOf s a.1 with
  | none => s
  | some x =>
    match x.subs.find? (fun b => b.fence == a.2 && b.ended.isNone && decide (b.phase < 4)) with
    | none => s
    | some b =>
      let slack := ((latch : Nat) : Int) - ((s.time : Nat) : Int) - estimate s x b
      if b.adopted then
        if latch < b.latch then setRctx s a.1 (some (putSub x { b with latch := latch, latchHead := h })) else s
      else if slack ≤ ((200 * usCounts : Nat) : Int) then
        let b1 := { b with adopted := true, counted := true, latch := latch, latchHead := h }
        let s1 := setRctx s a.1 (some { putSub x b1 with raised := if b.counted then x.raised else (x.raised + 1) % 2 ^ 32 })
        let s2 := settlePreempt (raise (settleRaised s1) .govRaise [a.1, b.fence])
        if slack < 0 then raise s2 .govLate [a.1, b.fence] else s2
      else s

/-- A cameo source's render is not adopted: from the moment it would be, the governor raises only GOV_LATE (R164). DEDUCED: log 210. -/
def governCameo (s : State) (h latch : Nat) : State :=
  match (cameoOf s h).pending with
  | none => s
  | some p =>
    match p.fence with
    | none => s
    | some (n, v) =>
      let key := trustedKey n
      match rctxOf s key with
      | none => s
      | some x =>
        match x.subs.find? (fun b => b.fence == v && b.ended.isNone && decide (b.phase < 4)) with
        | none => s
        | some b =>
          let slack := ((latch : Nat) : Int) - ((s.time : Nat) : Int) - estimate s x b
          if b.watched then
            (if latch < b.latch then setRctx s key (some (putSub x { b with latch := latch, latchHead := h })) else s)
          else if slack ≤ ((200 * usCounts : Nat) : Int) then
            let s1 := setRctx s key (some (putSub x { b with watched := true, latch := latch, latchHead := h }))
            if slack < 0 then raise s1 .govLate [key, v] else s1
          else s

/-- Adopted renders of a head that no fresh-required source awaits any more are released (R164). -/
def governRelease (s : State) (h : Nat) : State :=
  let want := (List.range 16).flatMap (awaited s)
  s.raster.rctx.foldl (fun t p => releaseRenders t p.1 (fun b => b.adopted && b.latchHead == h && !want.contains (p.1, b.fence))) s

/-- GOVERNOR_EVALUATE for a head whose next latch point is at count `latch`. -/
def governorEvaluate (s : State) (h latch : Nat) : State :=
  if ¬ pdOn s 2 then s
  else
    let s1 := (awaited s h).foldl (fun t a => govern t h latch a) (governRelease s h)
    drawn (governCameo s1 h latch)

/-! ### Meanings -/

/-- GOVERNOR_EVALUATE. -/
def execGovernorEvaluate (h : Head) (latch : Nat) (s : State) : Host.Outcome State Fault Refusal :=
  .next (governorEvaluate s h.val latch)
/-- HEAD_LINE_START. -/
def execHeadLineStart (h : Head) (late : Option Missing) (wbFull : Bool) (s : State) :
    Host.Outcome State Fault Refusal := .next (headLineStart s h.val late wbFull)
/-- LINE_FETCH_COMPLETE: the head reports its tolerance (R212). -/
def execLineFetchComplete (h : Head) (s : State) : Host.Outcome State Fault Refusal :=
  .next (reportTolerance s h.val false)
/-- HEAD_LATCH. -/
def execHeadLatch (h : Head) (s : State) : Host.Outcome State Fault Refusal := .next (headLatch s h.val)
/-- HEAD_FRAME. -/
def execHeadFrame (h : Head) (s : State) : Host.Outcome State Fault Refusal := .next (headFrame s h.val)
/-- HEAD_VBLANK. -/
def execHeadVblank (h : Head) (s : State) : Host.Outcome State Fault Refusal := .next (headVblank s h.val)
/-- TE_EDGE. -/
def execTeEdge (pin : Fin 4) (falling : Bool) (s : State) : Host.Outcome State Fault Refusal := .next (teEdge s pin.val falling)
/-- TE_TIMEOUT. -/
def execTeTimeout (h : Head) (s : State) : Host.Outcome State Fault Refusal := .next (teTimeout s h.val)
/-- TIMING_CHANGE_IMMEDIATE. -/
def execTimingChangeImmediate (h : Head) (s : State) : Host.Outcome State Fault Refusal := .next (timingImmediate s h.val)
/-- TIMING_CHANGE_CLEAN. -/
def execTimingChangeClean (h : Head) (s : State) : Host.Outcome State Fault Refusal := .next (timingClean s h.val)
/-- HEAD_ENABLE. -/
def execHeadEnable (h : Head) (s : State) : Host.Outcome State Fault Refusal := .next (headEnable s h.val)
/-- HEAD_DISABLE. -/
def execHeadDisable (h : Head) (s : State) : Host.Outcome State Fault Refusal := .next (headDisable s h.val)
/-- ROUTE_CHANGE. -/
def execRouteChange (h : Head) (s : State) : Host.Outcome State Fault Refusal := .next (routeChange s h.val)
/-- LOCK_STAMP_TIMEOUT. -/
def execLockStampTimeout (h : Head) (s : State) : Host.Outcome State Fault Refusal := .next (lockTimeout s h.val)

end Sys2Proof.Machine
end

