-- ==== Sys2Proof/Machine/Ports.lean ====
section
/-! DEFINITION. Display outputs: bring-up, hot plug and link loss of the ports (R225–R232). -/

namespace Sys2Proof.Machine

/-- An output port beside its entries. -/
def outPort (s : State) (p : Nat) : OutPort := tget (fun _ => {}) s.ports.ports p
/-- The state with an output port replaced. -/
def setOutPort (s : State) (p : Nat) (x : OutPort) : State :=
  { s with ports := { s.ports with ports := tset (fun _ => {}) s.ports.ports p x } }

/-- STATE of a port (R227). -/
def portState (s : State) (p : Nat) : Nat := rd s (E.port_STATE p)

/-- A bring-up starts (R231): STATE 1, BRINGUPS counted; a DP port waits for HPD unless it is ignored or known stable; a DSI
port sends its write sequence. `again` tells a new bring-up after a loss of sink or link (R232). -/
def startBringup (s : State) (p : Nat) (stable again : Bool) : State :=
  let s1 := bump (wr s (E.port_STATE p) 1) (E.port_BRINGUPS p)
  let s2 := setOutPort s1 p { waitHpd := isDp p && rd s (E.port_HPD p) == 0 && !stable, again := again }
  if 8 ≤ p ∧ p < 12 then send s2 (.port p) [] (dget s (E.port_DSI_INIT p)) else s2

/-- PORT_BRINGUP_START: an idle port that an enabled head is routed to (R231). -/
def portBringupStart (s : State) (p : Nat) : State :=
  if portState s p = 0 ∧ portHeads s p ≠ [] ∧ pdOn s 9 then startBringup s p false false else s

/-- HPD_STABLE: HPD has been high and stable for 100 ms; a port without a sink starts a new bring-up (R231, R232). -/
def hpdStable (s : State) (p : Nat) : State :=
  if ¬ isDp p ∨ rd s (E.port_HPD p) ≠ 0 then s
  else if portState s p = 4 then startBringup s p true true
  else setOutPort s p { outPort s p with waitHpd := false }

/-- PORT_READY: the bring-up has ended well and time slots are allocated; after a new bring-up each routed head sends one blank frame,
then content, after a first one content follows the blank frames that waited for it (R220, R231, R232). -/
def portReady (s : State) (p : Nat) : State :=
  if portState s p = 1 ∧ ¬ (outPort s p).waitHpd then
    let s1 := settleStreams (wr s (E.port_STATE p) 2) p
    let s2 := (portHeads s1 p).foldl (fun t e =>
      if hState t e.1 = 2 ∨ (hState t e.1 = 4 ∧ (outPort s p).again) then setHead t e.1 { headOf t e.1 with blankNext := true }
      else t) s1
    raise s2 .portReady [p]
  else s

/-- PORT_LINK_FAIL: training fails (R231). -/
def portLinkFail (s : State) (p : Nat) : State :=
  if portState s p = 1 ∧ ¬ (outPort s p).waitHpd then
    raise (bump (wr s (E.port_STATE p) 3) (E.port_LINK_FAILS p)) .portLinkFail [p]
  else s

/-- PORT_RETRY: a failed port tries again with the same settings (R231). -/
def portRetry (s : State) (p : Nat) : State := if portState s p = 3 then startBringup s p true (outPort s p).again else s

/-- HPD_LOW: HPD has been low for 2 ms; both streams stop (R232). -/
def hpdLow (s : State) (p : Nat) : State :=
  if ¬ isDp p ∨ rd s (E.port_HPD p) ≠ 0 ∨ portState s p = 4 then s
  else raise (setOutPort (settleStreams (wr s (E.port_STATE p) 4) p) p {}) .portHpd [p]

/-- The link of a ready port is found lost: it is counted and brought up again (R232). -/
def linkLost (s : State) (p : Nat) : State :=
  if portState s p = 2 then
    let s1 := raise (bump s (E.port_LINK_LOSSES p)) .portLinkLost [p]
    startBringup s1 p true true
  else s

/-- IRQ_HPD: a pulse is counted and the link status read (R232). -/
def irqHpd (s : State) (p : Nat) (lost : Bool) : State :=
  if ¬ isDp p ∨ rd s (E.port_HPD p) ≠ 0 then s
  else
    let s1 := raise (bump s (E.port_HPD_IRQS p)) .portHpd [p]
    if lost then linkLost s1 p else s1

/-- LINK_STATUS_POLL: with HPD ignored, link status is read once per second (R232). -/
def linkStatusPoll (s : State) (p : Nat) (lost : Bool) : State :=
  if ¬ isDp p ∨ rd s (E.port_HPD p) ≠ 1 then s else if lost then linkLost s p else s

/-! ### Meanings -/

/-- PORT_BRINGUP_START. -/
def execPortBringupStart (p : Port) (s : State) : Host.Outcome State Fault Refusal := .next (portBringupStart s p.val)
/-- HPD_STABLE. -/
def execHpdStable (p : Port) (s : State) : Host.Outcome State Fault Refusal := .next (hpdStable s p.val)
/-- PORT_READY. -/
def execPortReady (p : Port) (s : State) : Host.Outcome State Fault Refusal := .next (portReady s p.val)
/-- PORT_LINK_FAIL. -/
def execPortLinkFail (p : Port) (s : State) : Host.Outcome State Fault Refusal := .next (portLinkFail s p.val)
/-- PORT_RETRY. -/
def execPortRetry (p : Port) (s : State) : Host.Outcome State Fault Refusal := .next (portRetry s p.val)
/-- HPD_LOW. -/
def execHpdLow (p : Port) (s : State) : Host.Outcome State Fault Refusal := .next (hpdLow s p.val)
/-- IRQ_HPD. -/
def execIrqHpd (p : Port) (lost : Bool) (s : State) : Host.Outcome State Fault Refusal := .next (irqHpd s p.val lost)
/-- LINK_STATUS_POLL. -/
def execLinkStatusPoll (p : Port) (lost : Bool) (s : State) : Host.Outcome State Fault Refusal :=
  .next (linkStatusPoll s p.val lost)

end Sys2Proof.Machine
end

