-- ==== Sys2Proof/Machine/Camera.lean ====
section
/-! DEFINITION. Camera receivers: frames, rings, facets and slice mode (R233–R242). -/

namespace Sys2Proof.Machine

/-- Whether a receiver takes packets: enabled, its domain on. -/
def rxOn (s : State) (r : Nat) : Bool := rd s (E.cam_ENABLE r) == 1 && pdOn s 14

/-- The facets a receiver feeds, as (head, facet). -/
def rxFacets (s : State) (r : Nat) : List (Nat × Nat) := (rxOf s r).attached.map (fun n => (n / 8, n % 8))

/-- Complete frames per second over the last second, mHz: RATE as it reads (R235). -/
def camRate (s : State) (r : Nat) : Nat :=
  1000 * ((rxOf s r).ends.filter (fun t => decide (s.time < t + secCounts))).length

/-- The status record of R237 is written into the ring owner's window. -/
def writeCamStatus (s : State) (r : Nat) : State :=
  let x := rxOf s r
  match x.opened with
  | none => s
  | some o =>
    let w := x.newest.getD 0 + 16 * b2n (rd s (E.cam_STATE r) == 3)
    winWr s o.client o.status (leBytes 4 o.frames ++ leBytes 4 w ++ leBytes 8 x.endTime ++ leBytes 4 o.incomplete ++
      leBytes 12 0)

/-- A facet in slice mode whose frame is found incomplete: a serving one drops out before its last needed line, an arming
one is out of phase (R240). -/
def sliceIncomplete (s : State) (r seq : Nat) (hf : Nat × Nat) : State :=
  let x := facetOf s hf.1 hf.2
  match x.slice with
  | none => s
  | some sl =>
    if sl.seq ≠ seq then s
    else if sl.serving ∧ sl.verdict.isNone ∧ ¬ x.dropped then
      let s1 := setFacet s hf.1 hf.2
        { x with dropped := true, slice := some { sl with serving := false, ok := false, count := 0 } }
      raise (bump (wr s1 (E.cam_SLICE_STATE r) 1) (E.cam_SLICE_MISSES r)) .sliceDropped [r]
    else setFacet s hf.1 hf.2 { x with slice := some { sl with ok := false } }

/-- The open frame of a receiver closes as incomplete (R233). -/
def closeIncomplete (s : State) (r : Nat) : State :=
  let x := rxOf s r
  match x.frame with
  | none => s
  | some fr =>
    let s1 := setRx s r { x with frame := none,
                                 opened := x.opened.map (fun o => { o with incomplete := (o.incomplete + 1) % 2 ^ 32 }) }
    let s2 := raise (bump s1 (E.cam_INCOMPLETE r)) .camIncomplete [r]
    (rxFacets s2 r).foldl (fun t p => sliceIncomplete t r fr.seq p) s2

/-- Whether an attached facet shows a ring buffer or has latched it for showing. -/
def bufferShown (s : State) (r b : Nat) : Bool :=
  (rxFacets s r).any (fun p =>
    let x := facetOf s p.1 p.2
    let shows : Bool := match x.shown with | some sh => sh.cam == some (r, b) | none => false
    let latched : Bool := match x.latched with | some (some sh) => sh.cam == some (r, b) | _ => false
    let slice : Bool := match x.slice with | some sl => sl.serving && sl.buf == b | none => false
    shows || latched || slice)

/-- The next buffer in ring order that is neither the newest complete one nor shown nor latched (R237). -/
def nextBuffer (s : State) (r : Nat) : Option Nat :=
  let x := rxOf s r
  match x.opened with
  | none => none
  | some o =>
    ((List.range o.buffers).map (fun i => (x.lastBuf + 1 + i) % o.buffers)).find? (fun b =>
      x.newest != some b && !bufferShown s r b)

/-- The open frame of a receiver can no longer be complete. -/
def spoilFrame (s : State) (r : Nat) : State :=
  let x := rxOf s r
  setRx s r { x with frame := x.frame.map (fun fr => { fr with ok := false }) }

/-- A short packet or a header of the receiver's: an uncorrectable header spoils the open frame and is discarded, a corrected one is
counted, a packet of another virtual channel is discarded (R233, R235). The flag tells whether the packet is taken further. -/
def csiHeader (s : State) (r vc hdr : Nat) : State × Bool :=
  if hdr = 2 then (bump (spoilFrame s r) (E.cam_DISCARDED r), false)
  else
    let s1 := if hdr = 1 then bump s (E.cam_HDR_CORRECTED r) else s
    if vc ≠ rd s (E.cam_VC r) then (bump s1 (E.cam_DISCARDED r), false) else (s1, true)

/-- CSI_FRAME_START (R233): an open frame closes as incomplete, and a new one opens in its ring buffer. -/
def csiFrameStart (s : State) (r vc num hdr : Nat) : State :=
  if ¬ rxOn s r then s
  else
    let p := csiHeader s r vc hdr
    if ¬ p.2 then p.1
    else
      let s1 := closeIncomplete p.1 r
      let x := rxOf s1 r
      let b := nextBuffer s1 r
      setRx s1 r { x with frame := some { num := num, seq := x.seq + 1, buf := b }, seq := x.seq + 1, base := x.arrived,
                          lastBuf := b.getD x.lastBuf }

/-- Groups of `n` bytes of a line. -/
def chunksOf (n : Nat) : Nat → List Byte → List (List Byte)
  | 0, _ => []
  | k + 1, l => if l = [] then [] else l.take n :: chunksOf n k (l.drop n)

/-- A line as the receiver stores it (R237). A CSI-2 line carries YUV422 as UYVY and RGB888 as B, G, R. PRESUMED: log 100. -/
def storedLine (dt : Nat) (l : List Byte) : List Byte :=
  if dt = 0x1E then
    (chunksOf 4 l.length l).flatMap (fun q => [at0 0 q 1, at0 0 q 0, at0 0 q 3, at0 0 q 2])
  else if dt = 0x24 then (chunksOf 3 l.length l).flatMap (fun q => q ++ [0xFF#8])
  else l

/-- Bytes of a line packet of WIDTH pixels. -/
def linePayload (s : State) (r : Nat) : Nat :=
  let dt := rd s (E.cam_DATA_TYPE r)
  rd s (E.cam_WIDTH r) * (if dt = 0x1E then 8 else if dt = 0x24 then 12 else if dt = 0x2B then 5 else if dt = 0x2C then 6 else 4) / 4

/-- A stored line of the open frame: it goes to the ring buffer while that lies in the owner's window. -/
def storeLine (s : State) (r : Nat) (fr : CamFrame) (bytes : List Byte) : State :=
  match (rxOf s r).opened, fr.buf with
  | some o, some b =>
    let a := o.base + o.stride * b + o.pitch * 64 * fr.lines
    let l := storedLine (rd s (E.cam_DATA_TYPE r)) bytes
    if inWindow s o.client a l.length then winWr s o.client a l else windowViolation s o.client a
  | _, _ => s

/-- CSI_LINE_PACKET with its header's outcome `hdr` (0 good, 1 corrected, 2 uncorrectable) and its CRC's. -/
def csiLinePacket (s : State) (r vc dt : Nat) (bytes : List Byte) (crcOk : Bool) (hdr : Nat) : State :=
  if ¬ rxOn s r then s
  else
    let p := csiHeader s r vc hdr
    if ¬ p.2 then p.1
    else if dt ≠ rd s (E.cam_DATA_TYPE r) then bump p.1 (E.cam_DISCARDED r)
    else
      match (rxOf p.1 r).frame with
      | none => bump p.1 (E.cam_DISCARDED r)
      | some fr =>
        let s1 := if crcOk then p.1 else bump p.1 (E.cam_CRC_ERRORS r)
        let fits := decide (bytes.length = linePayload s r) && decide (fr.lines < rd s (E.cam_HEIGHT r))
        let s2 := if fits then storeLine s1 r fr bytes else s1
        let x := rxOf s2 r
        setRx s2 r { x with arrived := x.arrived + 1,
                            frame := some { fr with lines := fr.lines + 1, ok := fr.ok && crcOk && fits } }

/-- The open frame of a receiver ends complete (R237, R241): it becomes the newest buffer, ends a loss, and the status
record and EVENT bit 4 tell the client. -/
def frameComplete (s : State) (r : Nat) (fr : CamFrame) : State :=
  let x := rxOf s r
  let st := rd s (E.cam_STATE r)
  let ends := s.time :: x.ends.filter (fun t => decide (s.time < t + secCounts))
  let s1 := setRx s r { x with frame := none, newest := if fr.buf.isSome then fr.buf else x.newest, endTime := s.time,
                               ends := ends, done := (fr.seq :: x.done).take 2,
                               opened := x.opened.map (fun o => { o with frames := (o.frames + 1) % 2 ^ 32 }) }
  let s2 := wr (bumpWrap s1 (E.cam_FRAMES r)) (E.cam_STATE r) 2
  let s3 := if st = 3 then endLasting (raise s2 .camResumed [r]) 0xFF02 r else s2
  let s4 := writeCamStatus s3 r
  let s5 := match x.opened with | some o => setEvent s4 o.client 4 | none => s4
  raise s5 .camFrame [r]

/-- CSI_FRAME_END. -/
def csiFrameEnd (s : State) (r vc num hdr : Nat) : State :=
  if ¬ rxOn s r then s
  else
    let p := csiHeader s r vc hdr
    if ¬ p.2 then p.1
    else
      match (rxOf p.1 r).frame with
      | none => p.1
      | some fr =>
        if fr.ok ∧ fr.lines = rd s (E.cam_HEIGHT r) ∧ fr.num = num then frameComplete p.1 r fr else closeIncomplete p.1 r

/-- CSI_PACKET_GAP: more than 1 ms between two packets of a frame (R233). -/
def csiPacketGap (s : State) (r : Nat) : State := if rxOn s r then closeIncomplete s r else s

/-- CAM_LOSS_TIMEOUT (R241): the loss timer runs from the last complete frame, or from CAM_OPEN. -/
def camLossTimeout (s : State) (r : Nat) : State :=
  let x := rxOf s r
  let st := rd s (E.cam_STATE r)
  if st = 2 ∨ (st = 1 ∧ x.opened.isSome) then
    let s1 := raise (bump (wr s (E.cam_STATE r) 3) (E.cam_LOSSES r)) .camLost [r]
    let s2 := lastingEmcy s1 0xFF02 r 0
    let s3 := if rd s2 (E.cam_SLICE_STATE r) = 0 then s2 else wr s2 (E.cam_SLICE_STATE r) 1
    let s4 := (rxFacets s3 r).foldl (fun t p =>
      let y := facetOf t p.1 p.2
      setFacet t p.1 p.2 { y with slice := y.slice.map (fun sl => { sl with count := 0 }) }) s3
    let s5 := writeCamStatus s4 r
    if rd s5 (E.cam_SUBST_MODE r) = 1 then
      raiseTrusted s5 .camNotice ((r : Int) :: (rxOf s5 r).attached.map (fun (n : Nat) => (n : Int)))
    else s5
  else s

/-! ### Requests of group 4 (R236) -/

/-- Stage 2 of group 4: GUESTS includes the client's guest. -/
def camRight (s : State) (c r : Nat) : Bool :=
  match guestOf s c with | some g => bitOf (rd s (E.cam_GUESTS r)) g | none => false

/-- Whether a client has a receiver open. -/
def camHeldBy (s : State) (c r : Nat) : Bool :=
  match (rxOf s r).opened with | some o => o.client == c | none => false

/-- CAM_OPEN. DEDUCED: log 101. DEDUCED: log 102. -/
def camOpenReq (s : State) (c : Nat) (t : Taken) : State :=
  let r := argOf t 2
  let base := argOf t 3
  let n := argOf t 4
  let stride := argOf t 5
  let pitch := argOf t 6
  let rec_ := argOf t 7
  if 8 ≤ r ∨ base % 4096 ≠ 0 ∨ n < 3 ∨ 10 < n ∨ stride % 4096 ≠ 0 ∨ rec_ % 16 ≠ 0 then fail s c 4
  else if ¬ camRight s c r then denied s c 0x05
  else if (rxOf s r).opened.isSome ∧ ¬ camHeldBy s c r then fail s c 0x0100
  else if (rxOf s r).opened.isSome then fail s c 5
  else if rd s (E.cam_ENABLE r) = 0 then fail s c 0x0101
  else
    let row := rd s (E.cam_WIDTH r) * storedBytes4 (rd s (E.cam_DATA_TYPE r))
    if pitch * 256 < row ∨ stride < pitch * 64 * rd s (E.cam_HEIGHT r) then fail s c 0x0103
    else
      match firstOutside s c [(base, n * stride), (rec_, 32)] with
      | some _ => deniedAddr s c
      | none =>
        let x := rxOf s r
        let o : CamOpen := { client := c, base := base, buffers := n, stride := stride, pitch := pitch, status := rec_ }
        ok (wr (setRx s r { x with opened := some o, newest := none, lastBuf := n - 1,
                                   frame := x.frame.map (fun fr => { fr with buf := none }) }) (E.cam_HOLDER r) c) c []

/-- A facet leaves its receiver (R236): BACKGROUND from the frame after its head's next latch point, at once on a head
without latch points; slice mode ends. -/
def detachFacet (s : State) (r h f : Nat) : State :=
  let x := rxOf s r
  let y := facetOf s h f
  let s1 := setRx s r { x with attached := x.attached.filter (fun n => n != 8 * h + f) }
  let s2 := if y.slice.isSome then wr s1 (E.cam_SLICE_STATE r) 0 else s1
  if hasLatch s h ∧ facetOn s h f ∧ rd s (E.facet_SOURCE h f) = 1 then
    setFacet s2 h f { y with detach := true, slice := none, shown := match y.slice with
      | some sl => if sl.serving then some (ringShown s r sl.buf) else y.shown
      | none => y.shown }
  else setFacet s2 h f { y with cam := none, slice := none, shown := none, latched := none, subst := false,
                                nextSubst := false, detach := false, detachNext := false }

/-- A receiver is closed: every facet is detached and the ring given up. -/
def closeReceiver (s : State) (r : Nat) : State :=
  let s1 := (rxFacets s r).foldl (fun t p => detachFacet t r p.1 p.2) s
  let x := rxOf s1 r
  updateSums (wr (setRx s1 r { x with opened := none, newest := none,
                                      frame := x.frame.map (fun fr => { fr with buf := none }) }) (E.cam_HOLDER r) 0xFFFF)

/-- CAM_CLOSE. -/
def camCloseReq (s : State) (c : Nat) (t : Taken) : State :=
  let r := argOf t 2
  if 8 ≤ r then fail s c 4
  else if ¬ camRight s c r then denied s c 0x05
  else if camHeldBy s c r then ok (closeReceiver s r) c []
  else if (rxOf s r).opened.isSome then fail s c 0x0100
  else fail s c 4

/-- CAM_FORMAT of an attach: a RAW type, a FORMAT that is not the type's, a source rectangle beyond the picture. -/
def camFormatBad (s : State) (r h f : Nat) : Bool :=
  let dt := rd s (E.cam_DATA_TYPE r)
  let fmt := rd s (E.facet_FORMAT h f)
  !((dt == 0x1E && fmt == 7) || (dt == 0x24 && fmt == 1)) ||
    decide (rd s (E.cam_WIDTH r) < rd s (E.facet_SRC_X h f) + rd s (E.facet_SRC_W h f)) ||
    decide (rd s (E.cam_HEIGHT r) < rd s (E.facet_SRC_Y h f) + rd s (E.facet_SRC_H h f))

/-- SLICE of an attach: the conditions of R239. -/
def sliceBad (s : State) (r h f : Nat) : Bool :=
  (rxFacets s r).any (fun p => (facetOf s p.1 p.2).slice.isSome) ||
    decide (rd s (E.facet_DST_H h f) < rd s (E.facet_SRC_H h f)) ||
    decide (sliceDepth s r < rd s (E.facet_LINES h f) + 4)

/-- CAM_ATTACH. -/
def camAttachReq (s : State) (c : Nat) (t : Taken) : State :=
  let r := argOf t 2
  let a := argOf t 3
  let h := fld a 0 4
  let f := fld a 4 3
  let slice := bitOf a 8
  let x := rxOf s r
  if 8 ≤ r ∨ fld a 7 1 ≠ 0 ∨ 512 ≤ a then fail s c 4
  else if ¬ camRight s c r ∨ ¬ headRight s c h ∨ ¬ facetRight s c h f then denied s c 0x05
  else if x.opened.isSome ∧ ¬ camHeldBy s c r then fail s c 0x0100
  else if rd s (E.cam_ENABLE r) = 0 then fail s c 0x0101
  else
    match x.opened with
    | none => fail s c 4
    | some o =>
      let holder := rd s (E.facet_HOLDER h f)
      let taken := (List.range 8).any (fun q => (rxOf s q).attached.contains (8 * h + f))
      if camFormatBad s r h f then fail s c 0x0102
      else if o.buffers < 2 * (x.attached.length + 1) + 2 then fail s c 0x0103
      else if slice ∧ sliceBad s r h f then fail s c 0x0104
      else if rd s (E.facet_SOURCE h f) ≠ 1 ∨ (holder ≠ 0xFFFF ∧ holder ≠ c) ∨ taken then fail s c 0x0105
      else
        let y := facetOf s h f
        let sl : Option SliceRec := if slice then some { base := x.base, seq := x.seq, buf := x.lastBuf } else none
        let s1 := setRx s r { x with attached := x.attached ++ [8 * h + f] }
        let s2 := setFacet s1 h f { y with cam := some r, slice := sl, detach := false, detachNext := false,
                                           latched := if y.detach then some none else y.latched }
        let s3 := if slice then wr s2 (E.cam_SLICE_STATE r) 1 else s2
        ok (updateSums (wr s3 (E.facet_HOLDER h f) c)) c []

/-- CAM_DETACH. -/
def camDetachReq (s : State) (c : Nat) (t : Taken) : State :=
  let r := argOf t 2
  let a := argOf t 3
  let h := fld a 0 4
  let f := fld a 4 3
  if 8 ≤ r ∨ fld a 7 1 ≠ 0 ∨ 512 ≤ a then fail s c 4
  else if ¬ camRight s c r ∨ ¬ headRight s c h ∨ ¬ facetRight s c h f then denied s c 0x05
  else if (rxOf s r).opened.isSome ∧ ¬ camHeldBy s c r then fail s c 0x0100
  else if ¬ (rxOf s r).attached.contains (8 * h + f) then fail s c 0x0105
  else ok (updateSums (detachFacet s r h f)) c []

/-- CAM_QUERY. -/
def camQueryReq (s : State) (c : Nat) (t : Taken) : State :=
  let r := argOf t 2
  if 8 ≤ r then fail s c 4
  else if ¬ camRight s c r then denied s c 0x05
  else ok s c [rd s (E.cam_STATE r), rd s (E.cam_FRAMES r), (rxOf s r).newest.getD 0, rd s (E.cam_SLICE_STATE r)]

/-! ### Meanings -/

/-- CSI_FRAME_START. -/
def execCsiFrameStart (r : Receiver) (vc num : Nat) (hdr : Fin 3) (s : State) : Host.Outcome State Fault Refusal :=
  .next (csiFrameStart s r.val vc num hdr.val)
/-- CSI_LINE_PACKET. -/
def execCsiLinePacket (r : Receiver) (vc dt : Nat) (bytes : List Byte) (crcOk : Bool) (hdr : Fin 3) (s : State) :
    Host.Outcome State Fault Refusal := .next (csiLinePacket s r.val vc dt bytes crcOk hdr.val)
/-- CSI_FRAME_END. -/
def execCsiFrameEnd (r : Receiver) (vc num : Nat) (hdr : Fin 3) (s : State) : Host.Outcome State Fault Refusal :=
  .next (csiFrameEnd s r.val vc num hdr.val)
/-- CSI_PACKET_GAP. -/
def execCsiPacketGap (r : Receiver) (s : State) : Host.Outcome State Fault Refusal := .next (csiPacketGap s r.val)
/-- CAM_OPEN (0x4001). -/
def execCamOpen (c : Client) (s : State) : Host.Outcome State Fault Refusal :=
  .next (serve s c.val 0x4001 (· == 6) (fun t => camOpenReq s c.val t))
/-- CAM_CLOSE (0x4002). -/
def execCamClose (c : Client) (s : State) : Host.Outcome State Fault Refusal :=
  .next (serve s c.val 0x4002 (· == 1) (fun t => camCloseReq s c.val t))
/-- CAM_ATTACH (0x4003). -/
def execCamAttach (c : Client) (s : State) : Host.Outcome State Fault Refusal :=
  .next (serve s c.val 0x4003 (· == 2) (fun t => camAttachReq s c.val t))
/-- CAM_DETACH (0x4004). -/
def execCamDetach (c : Client) (s : State) : Host.Outcome State Fault Refusal :=
  .next (serve s c.val 0x4004 (· == 2) (fun t => camDetachReq s c.val t))
/-- CAM_QUERY (0x4005). -/
def execCamQuery (c : Client) (s : State) : Host.Outcome State Fault Refusal :=
  .next (serve s c.val 0x4005 (· == 1) (fun t => camQueryReq s c.val t))
/-- CAM_LOSS_TIMEOUT. -/
def execCamLossTimeout (r : Receiver) (s : State) : Host.Outcome State Fault Refusal := .next (camLossTimeout s r.val)

end Sys2Proof.Machine
end

