-- ==== Sys2Proof/Machine/Cameo.lean ====
section
/-! DEFINITION. Presentations, region comparisons and assignable check-value units (R247, R250–R261). Lines and latch points
of the cameo layers stand in Lines.lean and Heads.lean. -/

namespace Sys2Proof.Machine

/-! ### Presentations -/

/-- The bits of a region record that are not reserved (R253). DEDUCED: log 104. -/
def regionMask : Nat := 2 ^ 128 - 1 - (2 ^ 13 + 2 ^ 29 + 2 ^ 45 + 2 ^ 61) * 7 - 65535 * 2 ^ 80

/-- Whether a head's timing lets a region be this wide (R255). -/
def widthFits (v : Nat → Nat) (h w : Nat) : Bool :=
  let ht := v (E.head_H_ACTIVE h) + v (E.head_H_FRONT h) + v (E.head_H_SYNC h) + v (E.head_H_BACK h)
  decide (w ≤ 150000 * ht / v (E.head_PIXEL_CLOCK h))

/-- Whether the trusted world accepts a checked region record (R253). -/
def regionOk (s : State) (h g : Nat) : Bool :=
  let x0 := fld g 0 13
  let y0 := fld g 16 13
  let x1 := fld g 32 13
  let y1 := fld g 48 13
  let mode := fld g 65 2
  !bitOf g 64 ||
    (decide (x0 ≤ x1) && decide (y0 ≤ y1) && decide (x1 < rd s (E.head_H_ACTIVE h)) &&
      decide (y1 < rd s (E.head_V_ACTIVE h)) && widthFits (rd s) h (x1 - x0 + 1) && mode != 3 &&
      (mode != 1 ||
        (match s.cameo.engraving.cells[fld g 72 8]? with
         | none => false
         | some c =>
           let l := cameoLayer s h c.layer
           c.head == h && x0 == at0 0 l 0 + c.x && y0 == at0 0 l 1 + c.y && x1 + 1 == x0 + c.w && y1 + 1 == y0 + c.h)))

/-- PRESENTATION: the trusted world hands over a new presentation, which replaces a pending one (R247); one with a region
that R253 refuses changes nothing. While the locket restarts none is made (R266). -/
def presentation (s : State) (h : Nat) (p : Presentation) : State :=
  let l := p.regions.map (fun rs => rs.map (fun g => g &&& BitVec.ofNat 128 regionMask))
  let good := (l.getD []).all (fun g => regionOk s h g.toNat)
  if rd s E.lkt_LKT_STATE ≠ 1 ∨ ¬ good then s
  else setCameo s h { cameoOf s h with pending := some { p with regions := l } }

/-! ### Comparisons -/

/-- What reaching LIMIT with ACTION 1 does in AON (R259). -/
def contentFault (s : State) (h r frame : Nat) : State :=
  let s1 := wr (wrBit (wr s E.cchk_FAULT_LATCHED 1) E.pdo_PD_STATUS 3 true) (E.cameo_CHECK_STATE h) 2
  let s2 := if rd s1 (E.cameo_FAULT_REGION h) = 0xFF then
      wr (wr s1 (E.cameo_FAULT_REGION h) r) (E.cameo_FAULT_FRAME h) frame else s1
  latchFault s2

/-- A region's result differs from its expected value (R259). -/
def regionDiffers (s : State) (h r frame : Nat) : State :=
  let g := regionRec s h r
  let x := cameoOf s h
  let run := tget (fun _ => 0) x.runs r + 1
  let s1 := setCameo s h { x with runs := tset (fun _ => 0) x.runs r run }
  let s2 := raiseTrusted (bump (bump s1 (E.cameo_CHECKED h)) (E.cameo_MISMATCHES h)) .contentMismatch [h, r, frame]
  if run ≠ fld g 68 4 then s2
  else
    let s3 := raise (raiseTrusted s2 .contentFault [h, r, frame]) .contentFault [h, r, frame]
    let rest := r + 65536 * (frame % 65536)
    if bitOf g 67 then lastingEmcy (contentFault s3 h r frame) 0x5010 h rest else emcy s3 0x5010 h rest

/-- REGION_COMPARE: the lane's result of a region is recorded and compared (R256, R259). DEDUCED: log 103. -/
def regionCompare (s : State) (h r : Nat) : State :=
  let x := cameoOf s h
  match tget (fun _ => []) x.results r with
  | [v, e, frame, has] =>
    let s1 := setCameo s h { x with results := tset (fun _ => []) x.results r [] }
    let s2 := wr (wr s1 (E.cameo_LAST_VALUE h r) v) (E.cameo_EXPECTED h r) e
    if has = 0 then s2
    else if v = e then
      let y := cameoOf s2 h
      setCameo (bump s2 (E.cameo_CHECKED h)) h { y with runs := tset (fun _ => 0) y.runs r 0 }
    else regionDiffers s2 h r frame
  | _ => s

/-! ### Assignable units (R260, R261) -/

/-- An assignable unit beside its OWNER, numbered from CV16. -/
def cvOf (s : State) (k : Nat) : CvRec := tget (fun _ => {}) s.cameo.cv k
/-- The state with an assignable unit replaced. -/
def setCv (s : State) (k : Nat) (x : CvRec) : State :=
  { s with cameo := { s.cameo with cv := tset (fun _ => {}) s.cameo.cv k x } }

/-- OWNER of an assignable unit (R261, R265). -/
def cvOwner (s : State) (k : Nat) : Nat := rd s (E.cvu_OWNER k)

/-- The hand-over of a block in progress (R380). -/
def handOf (s : State) (block : Nat) : Option Hand := tget (fun _ => none) s.locket.hand block
/-- The state with a block's hand-over replaced. -/
def setHand (s : State) (block : Nat) (h : Option Hand) : State :=
  { s with locket := { s.locket with hand := tset (fun _ => none) s.locket.hand block h } }

/-- The computation of a unit that still runs holds its release back (R252, R380). -/
def cvBusy (s : State) (k : Nat) : Bool := (cvOf s k).running.isSome

/-- The release of a unit takes effect: OWNER reads 0xFFFD while it is reset, and a client that lost its right gets EVENT
bit 8 (R261, R380). -/
def releaseEffect (s : State) (k : Nat) (h : Hand) : State :=
  let o := cvOwner s k
  let s1 := setHand (setCv (wr s (E.cvu_OWNER k) 0xFFFD) k {}) (16 + k) (some { h with resetting := true })
  let s2 := if o = 0xFFFD then s1 else raise s1 .ownChanged [16 + k, 0xFFFD]
  match h.notify with
  | some c => setEvent s2 c 8
  | none => s2

/-- The units a client holds. -/
def cvHeld (s : State) (c : Nat) : List Nat := (List.range 8).filter (fun k => rd s (E.cvu_OWNER k) == c)

/-- A unit enters the hand-over sequencer: its reset begins at once where no computation runs and the locket, which alone
changes the table, runs (R380, R382). -/
def cvRelease (s : State) (k : Nat) (h : Hand) : State :=
  let h1 := { h with giver := cvOwner s k }
  if cvBusy s k ∨ rd s E.lkt_LKT_STATE ≠ 1 then setHand s (16 + k) (some h1) else releaseEffect s k h1

/-- The units being granted to a client, beside those it holds. -/
def cvComing (s : State) (c : Nat) : List Nat :=
  (List.range 8).filter (fun k => match handOf s (16 + k) with | some h => h.target == c | none => false)

/-- CV_ACQUIRE: the lowest free unit enters the hand-over, which resets it before the loan; the request completes at the
grant (R16, R380). DEDUCED: log 105. -/
def cvAcquireReq (s : State) (c : Nat) (t : Taken) : State :=
  let poly := argOf t 2
  if 3 ≤ poly then fail s c 4
  else if ¬ (cvComing s c).isEmpty ∧ (cvComing s c).any (fun k => (handOf s (16 + k)).any (fun h => h.acquire)) then s
  else if 2 ≤ (cvHeld s c).length + (cvComing s c).length then fail s c 0x0100
  else
    match (List.range 8).find? (fun k => cvOwner s k == 0xFFFF && (handOf s (16 + k)).isNone) with
    | none => fail s c 5
    | some k =>
      if rd s E.lkt_LKT_STATE ≠ 1 then fail s c 5
      else cvRelease s k { target := c, acquire := true, poly := poly }

/-- The unit number of an argument, if the client holds it. -/
def cvArg (s : State) (c a : Nat) : Option Nat := if 16 ≤ a ∧ (cvHeld s c).contains (a - 16) then some (a - 16) else none

/-- CV_RUN: the computation starts; its request completes when it ends. -/
def cvRunReq (s : State) (c : Nat) (t : Taken) : State :=
  match cvArg s c (argOf t 2) with
  | none => denied s c 0x05
  | some k =>
    if argOf t 5 = 0 ∨ 4194304 < argOf t 5 then fail s c 4
    else if ¬ inWindow s c (argOf t 4) (argOf t 5) then deniedAddr s c
    else if cvBusy s k then s
    else if (handOf s (16 + k)).isSome then fail s c 5
    else setCv s k { cvOf s k with running := some c }

/-- CV_RELEASE. -/
def cvReleaseReq (s : State) (c : Nat) (t : Taken) : State :=
  match cvArg s c (argOf t 2) with
  | none => denied s c 0x05
  | some k =>
    if cvBusy s k then s
    else if rd s E.lkt_LKT_STATE ≠ 1 ∨ (handOf s (16 + k)).isSome then fail s c 5
    else ok (cvRelease s k {}) c []

/-- The check value of a string under a POLY (R251). -/
def cvValue (poly : Nat) (bs : List Byte) : Nat :=
  if poly = 0 then crc32 bs else if poly = 1 then crc32c bs else crc16 bs

/-- CV_COMPUTATION_END: the value is returned, unless a reset of the client has abandoned the request (R260). A release that
waits for it takes effect at HANDOVER_RELEASE (R261, R380). -/
def cvEnd (s : State) (k : Nat) : State :=
  let x := cvOf s k
  match x.running with
  | none => s
  | some c =>
    let s1 := setCv s k { x with running := none }
    if x.abandoned then s1
    else serveF s1 c 0x8002 3 (· == 5) (fun t =>
      let guard := if bitOf t.flags 0 then argOf t 3 else argOf t 4
      let v := cvValue x.poly (leBytes 4 guard ++ winRd s1 c (argOf t 4) (argOf t 5))
      ok s1 c [v, b2n (bitOf t.flags 1 && v == argOf t 6)])

/-- A client loses its CVU right: its units are released, a running one when its computation has ended (R261). -/
def cvWithdraw (s : State) (c : Nat) : State :=
  (cvHeld s c).foldl (fun t k => if (handOf t (16 + k)).isSome then t else cvRelease t k { notify := some c }) s

/-- A client is reset: a running computation runs to its end and gives no result; the units are released (R261). -/
def cvClientReset (s : State) (c : Nat) : State :=
  (cvHeld s c).foldl (fun t k =>
    let t1 := if cvBusy t k then setCv t k { cvOf t k with abandoned := true } else t
    if (handOf t (16 + k)).isSome then t1 else cvRelease t1 k {}) s

/-! ### Meanings -/

/-- PRESENTATION. -/
def execPresentation (h : Head) (p : Presentation) (s : State) : Host.Outcome State Fault Refusal :=
  .next (presentation s h.val p)
/-- REGION_COMPARE. -/
def execRegionCompare (h : Head) (region : Nat) (s : State) : Host.Outcome State Fault Refusal :=
  .next (regionCompare s h.val region)
/-- CV_ACQUIRE (0x8001). -/
def execCvAcquire (c : Client) (s : State) : Host.Outcome State Fault Refusal :=
  .next (serve s c.val 0x8001 (· == 1) (fun t => cvAcquireReq s c.val t))
/-- CV_RUN (0x8002). -/
def execCvRun (c : Client) (s : State) : Host.Outcome State Fault Refusal :=
  .next (serveF s c.val 0x8002 3 (· == 5) (fun t => cvRunReq s c.val t))
/-- CV_RELEASE (0x8003). -/
def execCvRelease (c : Client) (s : State) : Host.Outcome State Fault Refusal :=
  .next (serve s c.val 0x8003 (· == 1) (fun t => cvReleaseReq s c.val t))
/-- CV_COMPUTATION_END: only an assignable unit carries a computation that a command waits for. -/
def execCvComputationEnd (u : CvUnit) (s : State) : Host.Outcome State Fault Refusal :=
  .next (if 16 ≤ u.val ∧ u.val < 24 then cvEnd s (u.val - 16) else s)

end Sys2Proof.Machine
end

