-- ==== Sys2Proof/Machine/Haptics.lean ====
section
/-! DEFINITION. Haptic channels (R294–R312): triggers and how they meet a running channel, the phases of a play, calibration,
accelerometer reads, requests and touch bindings. -/

namespace Sys2Proof.Machine

/-- A channel beside its entries. -/
def hapOf (s : State) (n : Nat) : HapRec := tget (fun _ => {}) s.hap.chans n
/-- The state with a channel replaced. -/
def setHap (s : State) (n : Nat) (x : HapRec) : State :=
  { s with hap := { s.hap with chans := tset (fun _ => {}) s.hap.chans n x } }
/-- STATE of a channel (R311). -/
def hapState (s : State) (n : Nat) : Nat := rd s (E.hap_STATE n)
/-- ACC_LOST of a channel: it runs open-loop (R295, R301). -/
def accLost (s : State) (n : Nat) : Bool := bitOf (rd s (E.hap_FLAGS n)) 1
/-- The amplitude of a trigger: that of the channel where it names none (R297). -/
def trigAmp (s : State) (n : Nat) (t : Trig) : Nat := if t.amp = 0 then rd s (E.hap_DEFAULT_AMPLITUDE n) else t.amp
/-- Full drive (R294). -/
def fullDuty (s : State) (n : Nat) : Nat := 65025 * rd s (E.hap_DRIVE_MAX n)
/-- SUSTAIN_LEVEL × A of a trigger, of which 65,025 is full scale (R297). -/
def sustainLevel (s : State) (n : Nat) (t : Trig) : Nat := at0 0 (effectFields t.effect) 2 * trigAmp s n t
/-- The frequency of an effect: FREQ_REL / 4,096 × f0 (R300). -/
def effectFreq (s : State) (n : Nat) (t : Trig) : Nat := at0 0 (effectFields t.effect) 3 * rd s (E.hap_F0 n)

/-- The drive of a phase of a play (R299–R301). A sustain is regulated to hold the target with a duty that nothing else is said of, and with
TRACK corrected within 10 % of its frequency; open-loop it has the duty of R301. DESIGN CHOICE: log 224. -/
def playDrive (s : State) (n st : Nat) (t : Trig) (d : HapDrive) : HapDrive :=
  let f := effectFreq s n t
  let base : HapDrive := { freq := f, target := sustainLevel s n t * rd s (E.hap_ACC_FULL n), aligned := st == 3 && d.aligned }
  if st = 3 then { base with mode := 1, duty := fullDuty s n }
  else if st = 4 then
    let g := if at0 0 (effectFields t.effect) 4 = 1 ∧ ¬ accLost s n then f - f / 10 + freeVal s (f / 10 * 2 + 1) else f
    { base with mode := 2, freq := g,
                duty := if accLost s n then sustainLevel s n t * rd s (E.hap_DRIVE_MAX n) else freeVal (drawn s) (fullDuty s n + 1) }
  else if st = 5 then { base with mode := 3, duty := fullDuty s n }
  else {}

/-- The drive of a channel in a phase: silent while the bridge is stopped, off, idle and in a gap; a calibration sweeps (R302, R305). -/
def driveOf (s : State) (n st : Nat) : HapDrive :=
  let x := hapOf s n
  if x.cut then {}
  else if st = 1 then { mode := 4, duty := 255 * rd s (E.hap_CAL_AMPLITUDE n) * rd s (E.hap_DRIVE_MAX n) }
  else match x.cur with
    | some t => playDrive s n st t x.drive
    | none => {}

/-- The state with STATE of a channel set, and its drive with it. -/
def setHapState (s : State) (n st : Nat) : State :=
  let s1 := wr (setHap s n { hapOf s n with drive := driveOf s n st }) (E.hap_STATE n) st
  if st = 4 then { s1 with free := s1.free + 2 } else s1

/-- GAP_MS of an effect. -/
def effectGap (e : Nat) : Nat := at0 0 (effectFields e) 5
/-- An alarm-class effect. -/
def alarmClass (e : Nat) : Bool := effectClass e == 3

/-- A trigger word (R110). -/
def trigOf (w : Nat) : Trig := { effect := fld w 0 7, amp := fld w 8 8, rep := fld w 16 4 }

/-- FLAGS[2] follows the latch. -/
def setLatch (s : State) (n : Nat) (t : Option Trig) : State :=
  wrBit (setHap s n { hapOf s n with latch := t }) (E.hap_FLAGS n) 2 t.isSome

/-- A client is told that its triggered effect has ended or was dropped (R307). -/
def notifyTrig (s : State) (t : Option Trig) : State :=
  match t with
  | none => s
  | some x => match x.client with | some c => if x.notify then setEvent s c 7 else s | none => s

/-! ### Calibration (R305) -/

/-- A calibration that ends before its time: CAL_STATE is what it was, and so is the lasting condition of state 3 (R111, R305). -/
def restoreCal (s : State) (n : Nat) : State :=
  let p := (hapOf s n).prevCal
  wr (if p = 3 then beginLasting s 0x5040 n else s) (E.hap_CAL_STATE n) p

/-- The next calibration starts: the waiting channel is idle, and no other channel of its head calibrates or comes before
it. -/
def startCal (s : State) (n : Nat) : State :=
  let x := hapOf s n
  let head := rd s (E.hap_HEAD n)
  let first := (List.range 16).all (fun k => k == n || head == 0xFF || rd s (E.hap_HEAD k) != head ||
    (hapState s k != 1 && !((hapOf s k).calWait && hapState s k == 2 && decide (k < n))))
  if x.calWait ∧ hapState s n = 2 ∧ first then
    let s1 := setHap s n { x with calWait := false, prevCal := rd s (E.hap_CAL_STATE n), cut := false }
    endLasting (wr (setHapState s1 n 1) (E.hap_CAL_STATE n) 1) 0x5040 n
  else s

/-- Every calibration that can start does. -/
def scheduleCals (s : State) : State := (List.range 16).foldl startCal s

/-! ### Playing -/

/-- An effect starts: attack of its first play (R299), phase-aligned where the channel still moves and its accelerometer answers (R303). -/
def startEffect (s : State) (n : Nat) (t : Trig) (moving : Bool) : State :=
  let x := hapOf s n
  let s1 := setHap s n { x with cur := some t, left := t.rep, cut := false, drive := { x.drive with aligned := moving && !accLost s n } }
  raise (setHapState (bump s1 (E.hap_EFFECTS n)) n 3) .hapStart [n, t.effect]

/-- Whether a channel plays (R304). -/
def hapPlays (s : State) (n : Nat) : Bool :=
  rd s (E.hap_ENABLE n) == 1 && rd s (E.hap_CAL_STATE n) != 3 && pdOn s 13

/-- A trigger finds the channel busy: it is latched, replacing a latched one (R303). -/
def latchTrig (s : State) (n : Nat) (t : Trig) : State × Nat :=
  match (hapOf s n).latch with
  | none => (setLatch s n (some t), 1)
  | some old =>
    let s1 := notifyTrig (raise (bump s (E.hap_REPLACED n)) .hapReplaced [n, old.effect]) (some old)
    (setLatch s1 n (some t), 2)

/-- The running effect enters braking, its remaining plays dropped. -/
def toBraking (s : State) (n : Nat) : State := setHapState (setHap s n { hapOf s n with left := 0 }) n 5

/-- A trigger reaches a channel (R303, R304): 0 started, 1 latched, 2 latched replacing another, 3 dropped. Before the
channel's first calibration it counts as calibrating. DEDUCED: log 116. -/
def trigger (s : State) (n : Nat) (t : Trig) : State × Nat :=
  let x := hapOf s n
  let st := hapState s n
  let alarm := alarmClass t.effect
  let runsAlarm : Bool := match x.cur with | some c => alarmClass c.effect | none => false
  let firstCal := st == 2 && x.calWait && rd s (E.hap_CAL_STATE n) == 0
  if ¬ hapPlays s n then
    (notifyTrig (if t.pd then bump s (E.hap_DROPPED n) else s) (some t), 3)
  else if st = 1 then
    if alarm then (startEffect (restoreCal s n) n t false, 0) else latchTrig s n t
  else if firstCal then
    if alarm then (startEffect (setHap s n { x with calWait := false }) n t false, 0) else latchTrig s n t
  else if st = 2 then (startEffect s n t false, 0)
  else if runsAlarm then
    if alarm then (startEffect (notifyTrig s x.cur) n t true, 0) else latchTrig s n t
  else if st = 5 then
    if alarm then (startEffect (notifyTrig (raise (bump s (E.hap_ABORTS n)) .hapAbort [n]) x.cur) n t true, 0)
    else latchTrig s n t
  else
    if alarm then (startEffect (notifyTrig s x.cur) n t true, 0)
    else latchTrig (raise (bump (toBraking s n) (E.hap_CUTS n)) .hapCut [n]) n t

/-- A trigger to every channel of a mask, in ascending number. -/
def triggerMask (s : State) (mask : Nat) (t : Trig) : State := (bitsOf 16 mask).foldl (fun a n => (trigger a n t).1) s

/-- The channel has nothing to play: the latched trigger starts, else it is idle and a waiting calibration may start. -/
def nextOnChannel (s : State) (n : Nat) : State :=
  let x := hapOf s n
  let s1 := setHapState (setHap s n { x with cur := none, left := 0, cut := false }) n 2
  match x.latch with
  | none => scheduleCals s1
  | some t => if hapPlays s1 n then startEffect (setLatch s1 n none) n t false
    else
      let s2 := notifyTrig (setLatch s1 n none) (some t)
      scheduleCals (if t.pd then bump s2 (E.hap_DROPPED n) else s2)

/-- ATTACK_END: the target is reached or ATTACK_CYCLES have passed (R299). -/
def attackEnd (s : State) (n : Nat) : State := if hapState s n = 3 then setHapState s n 4 else s

/-- SUSTAIN_END: R_NOW as measured; a drift beyond STALE_DRIFT sets STALE (R306). DEDUCED: log 119. -/
def sustainEnd (s : State) (n rNow : Nat) : State :=
  if hapState s n ≠ 4 then s
  else
    let s1 := setHapState (wr s (E.hap_R_NOW n) rNow) n 5
    let cal := rd s (E.hap_R_CAL n)
    if rd s (E.hap_STALE_DRIFT n) * cal < 1000 * (rNow - cal + (cal - rNow)) then
      raise (wrBit s1 (E.hap_FLAGS n) 0 true) .calStale [n]
    else s1

/-- BRAKING_END: the next play after its gap, or the end of the effect (R297, R301). -/
def brakingEnd (s : State) (n : Nat) (why : BrakeEnd) : State :=
  if hapState s n ≠ 5 ∨ (why = .cycles ∧ ¬ accLost s n) ∨ (why = .belowThreshold ∧ accLost s n) then s
  else
    let s1 := match why with | .limit => bump s (E.hap_BRAKE_TIMEOUTS n) | _ => s
    let x := hapOf s1 n
    if 0 < x.left then
      match x.cur with
      | some c => if effectGap c.effect = 0 then setHapState (setHap s1 n { x with left := x.left - 1, cut := false }) n 3
        else setHapState s1 n 6
      | none => nextOnChannel s1 n
    else
      let done := match x.cur with | some c => raise s1 .hapDone [n, c.effect] | none => s1
      nextOnChannel (notifyTrig done x.cur) n

/-- GAP_END: the next play begins. -/
def gapEnd (s : State) (n : Nat) : State :=
  let x := hapOf s n
  if hapState s n = 6 then setHapState (setHap s n { x with left := x.left - 1, cut := false }) n 3 else s

/-- HAP_OVERCURRENT: the bridge stops for the rest of the play (R302). DEDUCED: log 121. -/
def overcurrent (s : State) (n : Nat) : State :=
  let st := hapState s n
  if st = 1 ∨ st = 3 ∨ st = 4 ∨ st = 5 then
    raise (bump (setHap s n { hapOf s n with cut := true, drive := {} }) (E.hap_OVERCURRENTS n)) .hapOvercurrent [n]
  else s

/-- ACC_READ: a sample, or an error; eight in a row set ACC_LOST until a read succeeds (R295). A sustain is regulated, and with TRACK its
frequency corrected, by what is read (R299–R301). -/
def accRead (s : State) (n : Nat) (sample : Option Int) : State :=
  let st := hapState s n
  if st = 0 then s
  else
    let x := hapOf s n
    let s2 := match sample with
      | some v => wrBit (setHap s n { x with errs := 0, acc := v }) (E.hap_FLAGS n) 1 false
      | none =>
        let s1 := bump (setHap s n { x with errs := x.errs + 1 }) (E.hap_ACC_ERRORS n)
        if x.errs = 7 then raise (wrBit s1 (E.hap_FLAGS n) 1 true) .accLost [n] else s1
    if st = 4 then setHapState s2 n 4 else s2

/-- CALIBRATION_END: peak acceleration in mg, f0 in 0.1 Hz (0 for no peak), Q in 0.01 and R_CAL in mΩ (R305). DEDUCED: log 118. -/
def calibrationEnd (s : State) (n : Nat) (results : List Nat) : State :=
  if hapState s n ≠ 1 then s
  else
    let f0 := at0 0 results 1
    let q := at0 0 results 2
    let s1 := wr (wr (wr s (E.hap_F0 n) f0) (E.hap_Q n) q) (E.hap_R_CAL n) (at0 0 results 3)
    let pass := decide (100 ≤ at0 0 results 0) && decide (850 ≤ f0) && decide (f0 ≤ 3150) && decide (100 ≤ q) &&
      decide (q ≤ 10000) && !bitOf (rd s (E.hap_FLAGS n)) 1
    let s2 :=
      if pass then raise (wrBit (wr s1 (E.hap_CAL_STATE n) 2) (E.hap_FLAGS n) 0 false) .calDone [n]
      else lastingEmcy (raise (wr s1 (E.hap_CAL_STATE n) 3) .calFail [n]) 0x5040 n (f0 % 65536)
    scheduleCals (nextOnChannel s2 n)

/-! ### Configuration -/

/-- A channel is switched off: what plays and what is latched is dropped. -/
def hapOff (s : State) (n : Nat) : State :=
  let x := hapOf s n
  let s1 := notifyTrig (notifyTrig s x.cur) x.latch
  setHapState (setLatch (setHap s1 n { x with cur := none, left := 0, latch := none, cut := false }) n none) n 0

/-- STATE of a channel follows ENABLE and PD13; `fresh` for a commit that enables it, after which it calibrates. A
calibration cut short by a power-down runs again. -/
def settleHap (s : State) (n : Nat) (fresh : Bool) : State :=
  if rd s (E.hap_ENABLE n) = 1 ∧ pdOn s 13 then
    if hapState s n = 0 then
      let x := hapOf s n
      setHapState (setHap s n { x with calWait := x.calWait || fresh }) n 2
    else s
  else if hapState s n = 0 then
    if fresh ∧ rd s (E.hap_ENABLE n) = 1 then setHap s n { hapOf s n with calWait := true } else s
  else
    let cut := hapState s n == 1
    let s1 := if cut then restoreCal s n else s
    hapOff (setHap s1 n { hapOf s1 n with calWait := ((hapOf s1 n).calWait || cut) && rd s (E.hap_ENABLE n) == 1 }) n

/-- Whether a key is a committed entry of the haptic channels. -/
def isHapKey (k : Nat) : Bool := decide (0x4C00 ≤ k / 256) && decide (k / 256 < 0x4C84)

/-- Applied haptic values take effect; a channel that a commit enables calibrates (R305). -/
def landHap (s : State) (p : Nat → Bool) : State :=
  let was := (List.range 16).map (fun n => rd s (E.hap_ENABLE n))
  let s1 := landWhere s (fun k => isHapKey k && p k)
  scheduleCals ((List.range 16).foldl (fun t n => settleHap t n (at0 0 was n == 0 && rd s1 (E.hap_ENABLE n) == 1)) s1)

/-- CALIBRATE = 1: a calibration waits until the channel is idle. -/
def askCalibration (s : State) (n : Nat) : State :=
  if rd s (E.hap_ENABLE n) = 1 then scheduleCals (setHap s n { hapOf s n with calWait := true }) else s

/-! ### Requests (R307, R308) -/

/-- Stage 2 of group 7. -/
def hapRight (s : State) (c n : Nat) : Bool :=
  let h := rd s (E.hap_HEAD n)
  if h < 16 then headRight s c h else charmClass s c == 1

/-- HAPTIC_TRIGGER. -/
def hapTriggerReq (s : State) (c : Nat) (t : Taken) : State :=
  let n := argOf t 2
  let w := argOf t 3
  if 16 ≤ n ∨ 2 ^ 20 ≤ w ∨ bitOf w 7 then fail s c 4
  else if ¬ hapRight s c n then denied s c 0x05
  else if rd s (E.hap_ENABLE n) = 0 then fail s c 0x0100
  else if rd s (E.hap_CAL_STATE n) = 3 then fail s c 0x0101
  else if charmClass s c = 0 ∧ alarmClass (trigOf w).effect then fail s c 0x0102
  else
    let r := trigger s n { trigOf w with client := some c, notify := bitOf t.flags 0 }
    withDomain s c 13 (ok r.1 c [r.2])

/-- A channel's effect is stopped and its latch cleared (R304, R307). DEDUCED: log 117. -/
def hapStop (s : State) (n : Nat) : State :=
  let x := hapOf s n
  let s1 := notifyTrig (setLatch s n none) x.latch
  let st := hapState s1 n
  if st = 3 ∨ st = 4 ∨ st = 5 ∨ st = 6 then toBraking s1 n else s1

/-- HAPTIC_STOP. -/
def hapStopReq (s : State) (c : Nat) (t : Taken) : State :=
  let n := argOf t 2
  let runsAlarm : Bool := match (hapOf s n).cur with | some x => alarmClass x.effect | none => false
  if 16 ≤ n then fail s c 4
  else if ¬ hapRight s c n then denied s c 0x05
  else if rd s (E.hap_ENABLE n) = 0 then fail s c 0x0100
  else if charmClass s c = 0 ∧ runsAlarm then fail s c 0x0102
  else withDomain s c 13 (ok (hapStop s n) c [])

/-- HAPTIC_QUERY. -/
def hapQueryReq (s : State) (c : Nat) (t : Taken) : State :=
  let n := argOf t 2
  if 16 ≤ n then fail s c 4
  else if ¬ hapRight s c n then denied s c 0x05
  else ok s c [hapState s n, rd s (E.hap_F0 n), rd s (E.hap_FLAGS n) % 4]

/-- The latched triggers of a client that is reset are dropped silently (R304). -/
def dropTrigs (s : State) (c : Nat) : State :=
  (List.range 16).foldl (fun t n =>
    let x := hapOf t n
    let mine : Bool := match x.latch with | some l => l.client == some c | none => false
    let t1 := if mine then setLatch t n none else t
    let y := hapOf t1 n
    match y.cur with
    | some l => if l.client = some c then setHap t1 n { y with cur := some { l with notify := false } } else t1
    | none => t1) s

/-! ### Touch bindings (R309) -/

/-- The first binding of a panel whose rectangle holds a point, as channel mask and trigger word. -/
def bindingAt (s : State) (p x y : Nat) : Option (Nat × Nat) :=
  let d := dget s (E.haplib_BIND p)
  ((List.range (d.length / 16)).map (fun i => leVal (slice d (16 * i) 16))).find? (fun v =>
    decide (fld v 0 16 ≤ x) && decide (x ≤ fld v 32 16) && decide (fld v 16 16 ≤ y) && decide (y ≤ fld v 48 16))
  |>.map (fun v => (fld v 64 16, fld v 80 7 + 256 * fld v 96 8 + 65536 * fld v 104 4))

/-- A touchdown triggers its binding, once PD2 is on. -/
def boundTouch (s : State) (p x y flags : Nat) : State :=
  if flags % 4 ≠ 0 ∨ bitOf flags 3 then s
  else
    match bindingAt s p x y with
    | none => s
    | some (m, w) =>
      if pdOn s 2 then triggerMask s m (trigOf w) else { s with hap := { s.hap with bound := s.hap.bound ++ [(m, w)] } }

/-- The bound triggers that waited for PD2 are issued. -/
def flushBound (s : State) : State :=
  s.hap.bound.foldl (fun t b => triggerMask t b.1 (trigOf b.2)) { s with hap := { s.hap with bound := [] } }

/-! ### Triggers from process data (R110, R422) -/

/-- A trigger from process data: it goes through ICL.HAP, whose GO wakes an AUTO PD13 that is off, and waits for it.
DEDUCED: log 120. -/
def pdTrigger (s : State) (n w : Nat) : State :=
  if pdOn s 13 ∨ rd s (E.pd_MODE 13) ≠ 1 then (trigger s n { trigOf w with pd := true }).1
  else wake { s with hap := { s.hap with pdWait := s.hap.pdWait ++ [(n, w)] } } 13 2

/-- The process-data triggers that waited for PD13 are issued. -/
def flushPd (s : State) : State :=
  s.hap.pdWait.foldl (fun t b => (trigger t b.1 { trigOf b.2 with pd := true }).1) { s with hap := { s.hap with pdWait := [] } }

/-! ### Meanings -/

/-- HAPTIC_TRIGGER (0x7001). -/
def execHapticTrigger (c : Client) (s : State) : Host.Outcome State Fault Refusal :=
  .next (serveF s c.val 0x7001 1 (· == 2) (fun t => hapTriggerReq s c.val t))
/-- HAPTIC_STOP (0x7002). -/
def execHapticStop (c : Client) (s : State) : Host.Outcome State Fault Refusal :=
  .next (serve s c.val 0x7002 (· == 1) (fun t => hapStopReq s c.val t))
/-- HAPTIC_QUERY (0x7003). -/
def execHapticQuery (c : Client) (s : State) : Host.Outcome State Fault Refusal :=
  .next (serve s c.val 0x7003 (· == 1) (fun t => hapQueryReq s c.val t))
/-- TRIGGER (0xF001). -/
def execHapIclTrigger (s : State) : Host.Outcome State Fault Refusal :=
  .next (iclServe s 6 0xF001 (· == 2) (fun t => (triggerMask s (argOf t 2) (trigOf (argOf t 3)), {})))
/-- CALIBRATE (0xF002). -/
def execHapIclCalibrate (s : State) : Host.Outcome State Fault Refusal :=
  .next (iclServe s 6 0xF002 (· == 1) (fun t => ((bitsOf 16 (argOf t 2)).foldl askCalibration s, {})))
/-- STOP (0xF003). -/
def execHapIclStop (s : State) : Host.Outcome State Fault Refusal :=
  .next (iclServe s 6 0xF003 (· == 1) (fun t => ((bitsOf 16 (argOf t 2)).foldl hapStop s, {})))
/-- APPLY (0xF004): the committed configuration is in force when it is answered. -/
def execHapIclApply (s : State) : Host.Outcome State Fault Refusal :=
  .next (iclServe s 6 0xF004 (· == 0) (fun _ => (landHap s (fun _ => true), {})))
/-- CALIBRATION_END. -/
def execCalibrationEnd (n : Hap) (results : List Nat) (s : State) : Host.Outcome State Fault Refusal :=
  .next (calibrationEnd s n.val results)
/-- ATTACK_END. -/
def execAttackEnd (n : Hap) (s : State) : Host.Outcome State Fault Refusal := .next (attackEnd s n.val)
/-- SUSTAIN_END. -/
def execSustainEnd (n : Hap) (rNow : Nat) (s : State) : Host.Outcome State Fault Refusal := .next (sustainEnd s n.val rNow)
/-- BRAKING_END. -/
def execBrakingEnd (n : Hap) (why : BrakeEnd) (s : State) : Host.Outcome State Fault Refusal :=
  .next (brakingEnd s n.val why)
/-- GAP_END. -/
def execGapEnd (n : Hap) (s : State) : Host.Outcome State Fault Refusal := .next (gapEnd s n.val)
/-- HAP_OVERCURRENT. -/
def execHapOvercurrent (n : Hap) (s : State) : Host.Outcome State Fault Refusal := .next (overcurrent s n.val)
/-- ACC_READ. -/
def execAccRead (n : Hap) (sample : Option Int) (s : State) : Host.Outcome State Fault Refusal :=
  .next (accRead s n.val sample)

end Sys2Proof.Machine
end

