-- ==== Sys2Proof/Machine/Touch.lean ====
section
/-! DEFINITION. Capacitive touch engines (R268–R293): scans, hops, contacts, baselines, starts, tests, delivery and
subscriptions; with the acknowledgement of alarms on the touch panel (R249). Signals and baselines are held in 1/256
counts. -/

namespace Sys2Proof.Machine

/-! ### Panels and channels -/

/-- Panel `p` is ganged (R268). -/
def ganged (s : State) (p : Nat) : Bool := rd s (E.panel_GANG p) == 1
/-- Panel `p` exists: its engine is not ganged to the one before it (R268). -/
def panelExists (s : State) (p : Nat) : Bool := decide (p < 4) && !(p % 2 == 1 && ganged s (p - 1))
/-- Panel `p` exists and is enabled. -/
def panelEnabled (s : State) (p : Nat) : Bool := panelExists s p && rd s (E.panel_ENABLE p) == 1
/-- STATE of a panel (R292). -/
def panelState (s : State) (p : Nat) : Nat := rd s (E.panel_STATE p)
/-- Drive lines. -/
def drives (s : State) (p : Nat) : Nat := rd s (E.panel_DRIVE_COUNT p)
/-- Sense lines. -/
def senses (s : State) (p : Nat) : Nat := rd s (E.panel_SENSE_COUNT p)
/-- Mutual nodes. -/
def nodes (s : State) (p : Nat) : Nat := drives s p * senses s p

/-- The CHANNEL_MAP byte of a panel channel (R290). -/
def mapByte (s : State) (p ch : Nat) : Nat := fld (rd s (E.panel_CHANNEL_MAP p)) (8 * ch) 8
/-- The channels a panel uses, in order. -/
def usedChannels (s : State) (p : Nat) : List Nat :=
  (List.range (if ganged s p then 128 else 64)).filter (fun ch => mapByte s p ch != 0xFF)
/-- The channel of a drive line. -/
def driveChannel (s : State) (p i : Nat) : Nat := ((usedChannels s p).find? (fun ch => mapByte s p ch == i)).getD 0
/-- The channel of a sense line. -/
def senseChannel (s : State) (p j : Nat) : Nat := ((usedChannels s p).find? (fun ch => mapByte s p ch == 128 + j)).getD 0
/-- Whether a channel has failed its reference test (R284). -/
def channelFailed (s : State) (p ch : Nat) : Bool := bitOf (rd s (E.panel_FAILED_CHANNELS p)) ch
/-- Whether a node lies on no failed channel. -/
def nodeUsable (s : State) (p n : Nat) : Bool :=
  !channelFailed s p (driveChannel s p (n / senses s p)) && !channelFailed s p (senseChannel s p (n % senses s p))

/-- Glove mode. -/
def glove (s : State) (p : Nat) : Bool := rd s (E.panel_MODE p) == 1

/-! ### Raw values -/

/-- A demodulated value at a frequency, normalised to gain 1 and the reference frequency, in 1/256 counts (R270, R283). -/
def normalisedAt (s : State) (p ch freq : Nat) (raw : Int) : Int :=
  let x := touchOf s p
  let gain := rd s (if glove s p then E.panel_GLOVE_GAIN p else E.panel_GAIN p)
  let d0 := at0 0 x.gains (8 * ch)
  let d := at0 0 x.gains (8 * ch + freq)
  if d0 = 0 ∨ d = 0 then roundFree (raw * 256) (max gain 1)
  else roundFree (raw * 256 * (d0 : Int)) (max gain 1 * d)

/-- A value of the scan in progress, normalised. -/
def normalised (s : State) (p ch : Nat) (raw : Int) : Int := normalisedAt s p ch (touchOf s p).freq raw

/-- The normalised values of a scan's steps: mutual nodes, then used channels; without the self step a channel reads 0. -/
def scanValues (s : State) (p : Nat) (steps : List (List Int)) : List Int :=
  let sn := senses s p
  let cross := (List.range (nodes s p)).map (fun n =>
    normalised s p (senseChannel s p (n % sn)) (at0 0 (at0 [] steps (n / sn)) (n % sn)))
  let ch := usedChannels s p
  let self := if rd s (E.panel_SELF_EN p) = 1 then at0 [] steps (drives s p) else []
  cross ++ (ch.zip (List.range ch.length)).map (fun c => normalised s p c.1 (at0 0 self c.2))

/-- The sum of the squares of a listen step's normalised results at a frequency, over the sense channels that are scanned, in 1/65,536
counts (R270, R274, R284), and how many these are. -/
def noiseOf (s : State) (p freq : Nat) (step : List Int) : Nat × Nat :=
  let js := (List.range (senses s p)).filter (fun j => !channelFailed s p (senseChannel s p j))
  ((js.map (fun j => let v := (normalisedAt s p (senseChannel s p j) freq (at0 0 step j)).natAbs; v * v)).sum, js.length)

/-- Whole square root by halving the interval, from `fuel` bits. -/
def isqrt : Nat → Nat → Nat
  | 0, _ => 0
  | fuel + 1, n =>
    let r := 2 * isqrt fuel (n / 4)
    if (r + 1) * (r + 1) ≤ n then r + 1 else r

/-- The root mean square of a sum of squares, in 1/65,536 counts, over `n` channels as NOISE shows it; its rounding is open. -/
def rmsShown (sum n : Nat) : Nat :=
  let m := 65536 * max n 1
  let r := isqrt 64 (sum / m)
  if r * r * m = sum then r else if Sys2Proof.Config.roundsUp sum m then r + 1 else r

/-- Whether the current noise is above HOP_THRESHOLD and the candidate's lower by more than HOP_MARGIN (R274), on sums of
squares `cur` and `cand` over `n` channels. -/
def hops (cur cand n threshold margin : Nat) : Bool :=
  let k := margin * margin * n
  decide (threshold * threshold * n < cur) && decide (cand + k < cur) &&
    decide (4 * margin * margin * n * cand < (cur - cand - k) * (cur - cand - k))

/-- FREQS by index, kHz. -/
def freqAt (s : State) (p i : Nat) : Nat := fld (rd s (E.panel_FREQS p)) (16 * i) 16

/-! ### Blobs and contacts (R275–R277) -/

/-- A blob with what R275 computes of it. -/
structure Blob where
  nodes : List Nat
  peak : Nat
  top : Int
  sum : Int
  large : Bool
  water : Bool
  x : Nat
  y : Nat
  area : Nat
  deriving DecidableEq, Repr

/-- Whether two nodes are 8-neighbours or the same. -/
def nodesNear (sn d a b : Nat) : Bool :=
  decide (a / sn ≤ b / sn + d) && decide (b / sn ≤ a / sn + d) && decide (a % sn ≤ b % sn + d) && decide (b % sn ≤ a % sn + d)

/-- A blob grown from `cur` over the active nodes `act`. -/
def growBlob (sn : Nat) : Nat → List Nat → List Nat → List Nat
  | 0, _, cur => cur
  | fuel + 1, act, cur =>
    let new := act.filter (fun n => !cur.contains n && cur.any (nodesNear sn 1 n))
    if new = [] then cur else growBlob sn fuel act (cur ++ new)

/-- The blobs of the active nodes (R275). -/
def blobNodes (sn : Nat) : Nat → List Nat → List (List Nat)
  | 0, _ => []
  | _ + 1, [] => []
  | fuel + 1, n :: r =>
    let b := growBlob sn r.length r [n]
    b :: blobNodes sn fuel (r.filter (fun m => !b.contains m))

/-- A coordinate from a signal-weighted sum over doubled line positions, mirrored if asked, in 0.1 mm (R269, R275). -/
def coordinate (weighted sum : Int) (pitch lines : Nat) (mirror : Bool) : Nat :=
  let num := if mirror then (lines : Int) * 2 * sum - weighted else weighted
  (clampI 0 65535 (roundFree (num * (pitch : Int)) (20 * sum.toNat))).toNat

/-- A blob from its nodes over the signals `sig` (mutual) and `self` (by drive and sense line). -/
def makeBlob (s : State) (p : Nat) (sig : Nat → Int) (selfD selfS : Nat → Int) (l : List Nat) : Blob :=
  let sn := senses s p
  let peak := l.foldl (fun a n => if sig a < sig n then n else a) (l.headD 0)
  let sum := (l.map sig).sum
  let dp := rd s (E.panel_DRIVE_PITCH p)
  let sp := rd s (E.panel_SENSE_PITCH p)
  let num := sum * ((dp * sp : Nat) : Int)
  let den := 10000 * (sig peak).toNat
  let self := ((l.map (· / sn)).eraseDups.map selfD).sum + ((l.map (· % sn)).eraseDups.map selfS).sum
  let near := (List.range (nodes s p)).filter (fun n => nodesNear sn 1 n peak && decide (0 < sig n) && nodeUsable s p n)
  let w := (near.map sig).sum
  let orient := rd s (E.panel_ORIENT p)
  { nodes := l, peak := peak, top := sig peak, sum := sum,
    large := decide (((rd s (E.panel_LARGE_AREA p) * den : Nat) : Int) < num),
    water := rd s (E.panel_WATER p) == 1 && decide (((rd s (E.panel_WATER_RATIO p) : Nat) : Int) * sum < 10 * self),
    x := coordinate ((near.map (fun n => sig n * (2 * (n % sn) + 1 : Nat))).sum) w sp sn (bitOf orient 0),
    y := coordinate ((near.map (fun n => sig n * (2 * (n / sn) + 1 : Nat))).sum) w dp (drives s p) (bitOf orient 1),
    area := (clampI 0 65535 (roundFree num den)).toNat }

/-- The squared distance of two points. -/
def dist2 (ax ay bx by_ : Nat) : Nat := (ax - bx + (bx - ax)) ^ 2 + (ay - by_ + (by_ - ay)) ^ 2

/-- Pairs within `limit`, closest first, each index used once (R275). DEDUCED: log 109. -/
def matchPoints (limit : Nat) (a b : List (Nat × Nat)) : List (Nat × Nat) :=
  let pairs := (List.range a.length).flatMap (fun i => (List.range b.length).filterMap (fun j =>
    let d := dist2 (at0 (0, 0) a i).1 (at0 (0, 0) a i).2 (at0 (0, 0) b j).1 (at0 (0, 0) b j).2
    if d ≤ limit * limit then some (d, i, j) else none))
  let sorted := sortBy (fun u v => decide (u.1 ≤ v.1)) pairs
  sorted.foldl (fun l t => if l.any (fun q => q.1 == t.2.1 || q.2 == t.2.2) then l else l ++ [(t.2.1, t.2.2)]) []

/-- FLAGS of a contact at a scan: [0] and [1] as fixed at its touchdown, the rest evaluated (R277). -/
def contactFlags (s : State) (p fixed : Nat) (b : Blob) (wet : List Blob) : Nat :=
  let sn := senses s p
  let sp := rd s (E.panel_SENSE_PITCH p)
  let dp := rd s (E.panel_DRIVE_PITCH p)
  let edge := decide (10 * b.x ≤ sp) || decide (sn * sp ≤ 10 * b.x + sp) || decide (10 * b.y ≤ dp) ||
    decide (drives s p * dp ≤ 10 * b.y + dp)
  let non := decide (rd s (E.panel_FINGER_AREA_MAX p) < b.area) || decide (2 * b.top * (b.nodes.length : Int) < 3 * b.sum)
  let wetNear := wet.any (fun w => w.nodes.any (fun n => b.nodes.any (nodesNear sn 2 n)))
  fixed % 4 + 4 * b2n (glove s p) + 8 * b2n non + 16 * b2n wetNear + 32 * b2n edge

/-- The head a panel is mapped to. -/
def panelHead (s : State) (p : Nat) : Option Nat := let h := rd s (E.panel_HEAD p); if h < 16 then some h else none

/-- The alarm cell under a point of a panel: the panel's width and height stand for its head's active area. DESIGN CHOICE: log 107. -/
def cellAt (s : State) (p x y : Nat) : Option Nat :=
  match panelHead s p with
  | none => none
  | some h =>
    let px := x * 10 * hActive s h / (senses s p * rd s (E.panel_SENSE_PITCH p))
    let py := y * 10 * vActive s h / (drives s p * rd s (E.panel_DRIVE_PITCH p))
    (List.range s.cameo.engraving.cells.length).find? (fun i =>
      match s.cameo.engraving.cells[i]? with
      | none => false
      | some c =>
        let l := cameoLayer s h c.layer
        let cx := at0 0 l 0 + c.x
        let cy := at0 0 l 1 + c.y
        c.head == h && decide (cx ≤ px) && decide (px < cx + c.w) && decide (cy ≤ py) && decide (py < cy + c.h))

/-- A contact that its blob carries on. -/
def moveContact (s : State) (p : Nat) (wet : List Blob) (c : Contact) (b : Blob) : Contact :=
  let fl := contactFlags s p c.flags b wet
  { c with x := b.x, y := b.y, area := b.area, peak := (clampI 0 65535 (roundFree b.top 256)).toNat, flags := fl,
           nonFinger := if bitOf fl 3 then some (c.nonFinger.getD (touchOf s p).scanEnd) else none, missed := 0,
           nodes := b.nodes, cell := if c.cell.isSome ∧ cellAt s p b.x b.y = c.cell then c.cell else none }

/-- The next free identifier after the last one assigned (R275). -/
def nextId (last : Nat) (used : List Nat) : Nat :=
  ((List.range 255).map (fun i => (last + 1 + i) % 255)).find? (fun i => !used.contains i) |>.getD 0

/-! ### Messages, rings and the process image (R285, R287) -/

/-- A record's 32 bytes. -/
def msgBytes (m : TouchMsg) : List Byte :=
  leBytes 4 (m.kind + 256 * m.id + 65536 * m.flags + 2 ^ 24 * m.reason) ++ leBytes 4 (m.x + 65536 * m.y) ++
    leBytes 4 (m.area + 65536 * m.peak) ++ leBytes 4 m.scan ++ leBytes 8 m.time ++ leBytes 4 m.held ++ leBytes 4 0

/-- ms since a contact's touchdown. -/
def heldMs (x : TouchRec) (c : Contact) : Nat := (x.scanEnd - c.down) / msCounts

/-- A record of a contact. -/
def contactMsg (s : State) (p kind reason : Nat) (c : Contact) : TouchMsg :=
  let x := touchOf s p
  { kind := kind, id := c.id, flags := c.flags, reason := reason, x := c.x, y := c.y, area := c.area, peak := c.peak,
    scan := rd s (E.panel_SCANS p), time := x.scanEnd, held := heldMs x c }

/-- A record without a contact. -/
def plainMsg (s : State) (p kind reason : Nat) : TouchMsg :=
  { kind := kind, reason := reason, scan := rd s (E.panel_SCANS p), time := (touchOf s p).scanEnd }

/-- The subscription of a client to a panel. -/
def subOf (s : State) (p c : Nat) : Option TouchSub := (touchOf s p).subs.find? (fun u => u.client == c)

/-- The state with a subscription replaced. -/
def putSub' (s : State) (p : Nat) (u : TouchSub) : State :=
  let x := touchOf s p
  setTouch s p { x with subs := x.subs.map (fun v => if v.client = u.client then u else v) }

/-- One record into a ring, if it has room: whether it was written. READ is read before each write (R287). -/
def ringPut (s : State) (p : Nat) (u : TouchSub) (m : TouchMsg) : State × TouchSub × Bool :=
  let read := winWord s u.client (u.ring + 4)
  if (u.write + 2 ^ 32 - read) % 2 ^ 32 = u.entries then
    let u1 := { u with dropped := (u.dropped + 1) % 2 ^ 32, resync := true }
    (bump (winWr s u.client (u.ring + 8) (leBytes 4 u1.dropped)) (E.panel_RING_DROPS p), u1, false)
  else
    let a := u.ring + 32 + 32 * (u.write % u.entries)
    let w := (u.write + 1) % 2 ^ 32
    let s0 := if inWindow s u.client a 32 then s else windowViolation s u.client a
    (winWr (winWr s0 u.client a (msgBytes m)) u.client u.ring (leBytes 4 w), { u with write := w }, true)

/-- A further record of a group: written when the one before it was. -/
def putNext (p : Nat) (r : State × TouchSub × Bool) (m : TouchMsg) : State × TouchSub × Bool :=
  if r.2.2 then ringPut r.1 p r.2.1 m else r

/-- The RESYNC record's flag is spent once that record is in the ring. -/
def resynced (r : State × TouchSub × Bool) : State × TouchSub × Bool :=
  if r.2.2 then (r.1, { r.2.1 with resync := false }, true) else r

/-- A record for one subscriber: after a drop it is preceded by RESYNC and a DOWN record for each of its current contacts. -/
def ringWrite (s : State) (p : Nat) (u : TouchSub) (m : TouchMsg) : State × TouchSub × Bool :=
  if u.resync then
    let mine := (touchOf s p).contacts.filter (fun c => u.following.contains c.id && c.id != m.id)
    putNext p ((mine.map (contactMsg s p 1 0)).foldl (putNext p) (resynced (ringPut s p u (plainMsg s p 7 0)))) m
  else ringPut s p u m

/-- Whether a subscriber gets a record, and its followed contacts after it (R286). -/
def wants (u : TouchSub) (m : TouchMsg) : Bool × List Nat :=
  if 4 ≤ m.kind then (true, u.following)
  else if m.kind = 1 then
    let inside := decide (u.x0 ≤ m.x) && decide (m.x ≤ u.x1) && decide (u.y0 ≤ m.y) && decide (m.y ≤ u.y1)
    (inside, if inside then u.following ++ [m.id] else u.following)
  else (u.following.contains m.id, if m.kind = 3 then u.following.filter (· != m.id) else u.following)

/-- Records are written to the ring of one subscriber, then EVENT bit 6 of its clasp is set. -/
def deliverTo (s : State) (p : Nat) (l : List TouchMsg) (c : Nat) : State × Bool :=
  match subOf s p c with
  | none => (s, false)
  | some u =>
    let r := l.foldl (fun (r : State × TouchSub × Bool × Bool) m =>
      let w := wants r.2.1 m
      if w.1 then
        let q := ringWrite r.1 p { r.2.1 with following := w.2 } m
        (q.1, q.2.1, true, r.2.2.2 || !q.2.2)
      else (r.1, { r.2.1 with following := w.2 }, r.2.2)) (s, u, false, false)
    let s1 := putSub' r.1 p r.2.1
    (if r.2.2.1 then setEvent s1 c 6 else s1, r.2.2.2)

/-- Records to every subscriber; a drop raises RING_OVERFLOW once. -/
def deliverAll (s : State) (p : Nat) (l : List TouchMsg) : State :=
  let r := ((touchOf s p).subs.map (·.client)).foldl (fun (r : State × Bool) c =>
    let q := deliverTo r.1 p l c
    (q.1, r.2 || q.2)) (s, false)
  if r.2 then raise r.1 .ringOverflow [p] else r.1

/-- Whether PD2 and the memory domains are ready for ring records (R285). -/
def ringsReady (s : State) : Bool := pdOn s 2 && pdOn s 10 && pdOn s 11

/-- Records for the trusted world's ring; while the locket restarts they wait in touch SRAM, up to 256 (R386). DEDUCED: log 114. -/
def toTrusted (s : State) (p : Nat) (l : List TouchMsg) : State :=
  if (panelHead s p).isNone then s
  else if rd s E.lkt_LKT_STATE = 2 then
    setTouch s p { touchOf s p with trusted := ((touchOf s p).trusted ++ l).take 256 }
  else l.foldl (fun t m => send t (.touchRing p) [] (msgBytes m)) s

/-- The records that waited for the trusted world are delivered at its resumption (R386). -/
def trustedResume (s : State) (p : Nat) : State :=
  (touchOf s p).trusted.foldl (fun t m => send t (.touchRing p) [] (msgBytes m))
    (setTouch s p { touchOf s p with trusted := [] })

/-- The records of one report: to the trusted ring of a panel with a head, and to the subscribers' rings, or to the backlog
of 256 while the domains are off and when PD13 goes off (R285, R288). -/
def deliver (s : State) (p : Nat) (l : List TouchMsg) : State :=
  let s1 := toTrusted s p l
  let x := touchOf s1 p
  if ringsReady s1 ∧ pdOn s1 13 ∧ x.backlog = [] then deliverAll s1 p l
  else
    let all := x.backlog ++ l
    let s2 := setTouch s1 p { x with backlog := all.take 256 }
    if all.length ≤ 256 then s2 else raise (bumpBy s2 (E.panel_RING_DROPS p) (all.length - 256)) .ringOverflow [p]

/-- TOUCH_BACKLOG_DELIVERY: the waiting records are written once the domains are ready. -/
def touchBacklog (s : State) (p : Nat) : State :=
  let x := touchOf s p
  if ringsReady s ∧ x.backlog ≠ [] then deliverAll (setTouch s p { x with backlog := [] }) p x.backlog else s

/-- A CONTACT of the process image (R106). -/
def contactWord (x : TouchRec) (c : Contact) : Nat :=
  c.id + 256 * c.flags + 2 ^ 16 * c.x + 2 ^ 32 * c.y + 2 ^ 48 * min (c.area / 8) 255 +
    2 ^ 56 * min (heldMs x c / 1000) 255

/-- 0x1E1p of a panel (R105, R285); TOUCH_SEQ moves on when it changes. -/
def writeImage (s : State) (p : Nat) : State :=
  let x := touchOf s p
  let off := !panelExists s p || panelState s p == 0 || panelState s p == 5
  let l := if off then [] else sortBy (fun a b => decide (a.id ≤ b.id)) x.contacts
  let start := rd s (E.panel_START_STATE p)
  let ev := b2n x.large + 2 * b2n (start == 1 || start == 2) + 4 * b2n off
  let s1 := wr (wr s (E.ppanel_COUNT p) l.length) (E.ppanel_EVENTS p) ev
  let s2 := (List.range 10).foldl (fun t k =>
    wr t (E.ppanel_CONTACT p k) (match l[k]? with | some c => contactWord x c | none => 0xFF)) s1
  let s3 := wr s2 (E.panel_CONTACTS p) x.contacts.length
  if s3.od = (wr s (E.panel_CONTACTS p) x.contacts.length).od then s3
  else wr s3 E.pdo_TOUCH_SEQ ((rd s3 E.pdo_TOUCH_SEQ + 1) % 65536)

/-! ### Panel state -/

/-- STATE of a panel changes; subscribers get a PANEL_STATE record. -/
def setPanelState (s : State) (p st : Nat) : State :=
  if panelState s p = st then s
  else
    let s1 := wr s (E.panel_STATE p) st
    deliver s1 p [plainMsg s1 p 8 st]

/-- START_STATE of a panel changes: a record, and START_VERIFIED for 3 (R281). -/
def setStartState (s : State) (p st : Nat) : State :=
  if rd s (E.panel_START_STATE p) = st then s
  else
    let s1 := wr s (E.panel_START_STATE p) st
    let s2 := deliver s1 p [plainMsg s1 p 6 st]
    if st = 3 then raise s2 .startVerified [p] else s2

/-- STATE of a panel that runs: degraded, locked or free-running. -/
def runState (s : State) (p : Nat) : Nat :=
  if rd s (E.panel_FAILED_CHANNELS p) ≠ 0 then 4 else if (touchOf s p).lock.isSome then 2 else 3

/-- Every contact of a panel lifts with a reason. -/
def liftAll (s : State) (p reason : Nat) : State :=
  let x := touchOf s p
  let msgs := x.contacts.map (contactMsg s p 3 reason)
  let s1 := setTouch s p { x with contacts := [], waiting := [] }
  let s2 := x.contacts.foldl (fun t c => raise t .touchUp [p, c.id]) s1
  if msgs = [] then s2 else deliver s2 p msgs

/-- A panel stops: its contacts lift with REASON 3, a capture is refused, and its image shows it not scanning. -/
def stopPanel (s : State) (p st : Nat) : State :=
  let s1 := liftAll s p 3
  let x := touchOf s1 p
  let s2 := if x.capture = 0 then s1 else wr s1 (E.panel_CMD_STATE p) 3
  let s3 := setTouch s2 p { touchOf s2 p with phase := if st = 5 then 5 else 0, steps := none, large := false, verify := none,
                                              testing := false, testAgain := false, capture := 0, capSums := [],
                                              capCount := 0, startNodes := [] }
  writeImage (setPanelState s3 p st) p

/-! ### Committed entries -/

/-- Whether a key lies in the committed records P to P + 4 of a panel. -/
def isPanelKey (p k : Nat) : Bool := decide (0x4800 + 0x10 * p ≤ k / 256) && decide (k / 256 ≤ 0x4804 + 0x10 * p)

/-- Whether a commit of a key restarts its panel (R280). -/
def isRestartKey (p k : Nat) : Bool :=
  k / 256 == 0x4800 + 0x10 * p ||
    (k / 256 == 0x4801 + 0x10 * p && decide (3 ≤ k % 256) && decide (k % 256 ≤ 7))

/-- An APPLY that waits is answered (R289). -/
def answerApply (s : State) (p : Nat) : State :=
  let x := touchOf s p
  if x.apply then iclComplete (setTouch s p { x with apply := false }) (2 + p) {} else s

/-- Whether a commit is applying entries that restart a panel. -/
def restartWaits (s : State) (p : Nat) : Bool := s.dict.applying.any (fun e => isRestartKey p e.1)

/-- PANEL_START: a panel starts when it is enabled, at a device reset, at power-up of PD13, or at a commit that restarts it;
one that such a commit disables stops (R280). -/
def panelStart (s : State) (p : Nat) : State :=
  let due := restartWaits s p || (panelEnabled s p && panelState s p == 0) || (!panelExists s p && panelState s p != 0) || (touchOf s p).phase == 4
  if ¬ due ∨ ¬ pdOn s 13 then s
  else
    let s1 := landWhere s (isPanelKey p)
    let s2 := stopPanel s1 p 0
    let s3 :=
      if panelEnabled s2 p then
        let t := setTouch s2 p { touchOf s2 p with phase := 1, freq := 0, next := 0, cand := 1, sums := [], count := 0,
                                                   base := [], neg := [], lastId := 254 }
        setPanelState (wr t (E.panel_FREQ p) (freqAt t p 0)) p 1
      else s2
    answerApply s3 p

/-! ### Reference test (R283, R284) -/

/-- A channel passes: at every frequency d2 within ±20 % of the expected count and d2 / d05 between 3.6 and 4.4. `results` are
d05 and d2 by (channel × 8 + frequency) × 2. -/
def channelPasses (s : State) (p ch : Nat) (results : List Nat) : Bool :=
  let e := touchRef s (64 * p + ch)
  (List.range 8).all (fun f =>
    let d05 := at0 0 results (2 * (8 * ch + f))
    let d2 := at0 0 results (2 * (8 * ch + f) + 1)
    decide (4 * e ≤ 5 * d2) && decide (5 * d2 ≤ 6 * e) && decide (36 * d05 ≤ 10 * d2) && decide (10 * d2 ≤ 44 * d05))

/-- The engine of a panel channel. -/
def engineOf (p ch : Nat) : Nat := p + ch / 64

/-- FAILED_CHANNELS takes a test's outcome: counters, events and EMCYs of new failures, the lasting condition per engine,
PD_STATUS[2] and DEVICE_STATE. -/
def recordFailures (s : State) (p : Nat) (failed : List Nat) : State :=
  let old := rd s (E.panel_FAILED_CHANNELS p)
  let s1 := wr s (E.panel_FAILED_CHANNELS p) (maskOf failed)
  let s2 := failed.foldl (fun t (ch : Nat) =>
    let u := raise (bump t (E.panel_SELFTEST_FAILS p)) .selftestFail [(p : Int), (ch : Int)]
    lastingEmcy u 0x5030 (engineOf p ch) (ch % 65536)) s1
  let s3 := ((bitsOf 128 old).map (engineOf p)).eraseDups.foldl (fun t e =>
    if failed.any (fun ch => engineOf p ch == e) then t else endLasting t 0x5030 e) s2
  let any := (List.range 4).any (fun q => rd s3 (E.panel_FAILED_CHANNELS q) != 0)
  settleDevice (wrBit s3 E.pdo_PD_STATUS 2 any)

/-- A capture that waits begins once no start and no test runs. -/
def beginCapture (s : State) (p : Nat) : State :=
  let x := touchOf s p
  if x.capture = 1 ∧ x.phase = 3 ∧ ¬ x.testing then
    wr (setTouch s p { x with capture := 2, capSums := [], capCount := 0 }) (E.panel_CMD_STATE p) 2
  else s

/-- REFERENCE_TEST_DONE: the gain factors are taken, failures recorded; a start goes on to averaging, a self-test ends. -/
def referenceTestDone (s : State) (p : Nat) (results : List Nat) : State :=
  let x := touchOf s p
  if (x.phase ≠ 1 ∧ ¬ x.testing) ∨ ¬ pdOn s 13 then s
  else
    let failed := (usedChannels s p).filter (fun ch => !channelPasses s p ch results)
    let gains := (List.range (results.length / 2)).map (fun i => at0 0 results (2 * i + 1))
    let s1 := recordFailures (setTouch s p { x with gains := gains }) p failed
    if x.testAgain then setTouch s1 p { touchOf s1 p with testing := true, testAgain := false }
    else
      let s2 := wr (setTouch s1 p { touchOf s1 p with testing := false }) (E.panel_CMD_STATE p)
        (if x.testing ∧ rd s (E.panel_CMD_STATE p) = 1 then 0 else rd s (E.panel_CMD_STATE p))
      if x.phase = 0 then s2
      else if 4 < failed.length then stopPanel s2 p 5
      else if x.phase = 1 ∨ x.phase = 5 then
        setPanelState (setTouch s2 p { touchOf s2 p with phase := 2, sums := [], count := 0 }) p 1
      else if x.phase = 3 then beginCapture (setPanelState s2 p (runState s2 p)) p
      else s2

/-- SELFTEST = 1: the test runs, after one that runs already; scanning is suspended (R284, R288). -/
def startSelftest (s : State) (p : Nat) : State :=
  let x := touchOf s p
  if ¬ panelExists s p ∨ ¬ pdOn s 13 then s
  else
    let s1 := if x.testing ∨ x.phase = 1 then setTouch s p { x with testAgain := true }
      else setTouch s p { x with testing := true, steps := none }
    wr s1 (E.panel_CMD_STATE p) 1

/-- CAPTURE = 1: it runs after a start and a self-test (R282, R288). -/
def startCapture (s : State) (p : Nat) : State :=
  let x := touchOf s p
  if x.phase = 0 ∨ 4 ≤ x.phase then wr s (E.panel_CMD_STATE p) 3
  else beginCapture (setTouch s p { x with capture := 1 }) p

/-! ### Scans -/

/-- Whether a scan may start: free-running at any time, locked at the line of one of the frame's scans (R271). -/
def scanLine (s : State) (p : Nat) (lock : Option Nat) : Bool :=
  match lock with
  | none => true
  | some h =>
    let n := rd s (E.panel_SCANS_PER_FRAME p)
    (List.range n).any (fun k => rd s (E.head_LINE h) == k * vTotal s h / n)

/-- TOUCH_SCAN_START: committed entries that do not restart the panel take effect, and the panel locks to its head if that
scans (R271). -/
def touchScanStart (s : State) (p : Nat) : State :=
  let x := touchOf s p
  if (x.phase ≠ 2 ∧ x.phase ≠ 3) ∨ x.steps.isSome ∨ x.testing ∨ ¬ pdOn s 13 ∨ restartWaits s p then s
  else
    let s1 := answerApply (landWhere s (isPanelKey p)) p
    let lock := match panelHead s1 p with | some h => if scanning s1 h then some h else none | none => none
    if ¬ scanLine s1 p lock then s
    else
      let s2 := setTouch s1 p { touchOf s1 p with steps := some [], lock := lock, freq := x.next }
      let s3 := wr s2 (E.panel_FREQ p) (freqAt s2 p x.next)
      if x.phase = 3 then setPanelState s3 p (runState s3 p) else s3

/-- TOUCH_STEP_END: the samples of the step that ends. -/
def touchStepEnd (s : State) (p : Nat) (samples : List Int) : State :=
  let x := touchOf s p
  match x.steps with
  | none => s
  | some l =>
    if scanSteps s p ≤ l.length ∨ ¬ pdOn s 13 then s
    else setTouch s p { x with steps := some (l ++ [samples]), scanEnd := s.time }

/-- The hop decision after a scan (R274): NOISE, the next scan's frequency and candidate. -/
def hopDecision (s : State) (p : Nat) (steps : List (List Int)) : State :=
  let x := touchOf s p
  let k := scanSteps s p
  let (cur, n) := noiseOf s p x.freq (at0 [] steps (k - 2))
  let cand := (noiseOf s p x.cand (at0 [] steps (k - 1))).1
  let hop := hops cur cand n (256 * rd s (E.panel_HOP_THRESHOLD p)) (256 * rd s (E.panel_HOP_MARGIN p))
  let next := if hop then x.cand else x.freq
  let c := (x.cand + 1) % 8
  let s1 := wr (setTouch s p { x with next := next, cand := if c = next then (c + 1) % 8 else c }) (E.panel_NOISE p)
    (min (rmsShown cur n) 65535)
  if hop then raise (bump s1 (E.panel_HOPS p)) .freqHop [p, freqAt s p next] else s1

/-- The middle of a list of values; of an even number the mean of the middle two. -/
def median (l : List Int) : Int :=
  let m := sortBy (fun a b => decide (a ≤ b)) l
  let n := m.length
  if n % 2 = 1 then at0 0 m (n / 2) else roundFree (at0 0 m (n / 2 - 1) + at0 0 m (n / 2)) 2

/-- Whether the stored signature matches the panel (R282): 0 matched, 1 none, 2 not matching. -/
def signatureCheck (s : State) (p : Nat) : Nat :=
  let d := dget s (E.panel_SIGNATURE p)
  let n := nodes s p + (usedChannels s p).length
  if d = [] then 1
  else if leVal (slice d 0 2) = drives s p ∧ leVal (slice d 2 2) = senses s p ∧
      leVal (slice d 4 4) = crc32 (leBytes 128 (rd s (E.panel_CHANNEL_MAP p))) ∧
      leVal (slice d 12 4) = crc32 (d.drop 16) ∧ 16 + 2 * n ≤ d.length then 0
  else 2

/-- Value `i` of the signature, in 1/256 counts. -/
def signatureAt (s : State) (p i : Nat) : Int := ((256 * leVal (slice (dget s (E.panel_SIGNATURE p)) (16 + 2 * i) 2) : Nat) : Int)

/-- The start baselines from the averages `a0` (R280): the values and the mutual nodes set from the signature. -/
def startBase (s : State) (p : Nat) (a0 : List Int) : List Int × List Nat :=
  let m := nodes s p
  let sn := senses s p
  let limit : Int := ((256 * rd s (E.panel_SIG_THRESHOLD p) : Nat) : Int)
  let dev := fun i => at0 0 a0 i - signatureAt s p i
  let cmOf := (List.range sn).map (fun j => median ((List.range (drives s p)).map (fun i => dev (i * sn + j))))
  let cmSelf := median ((rangeFrom m (a0.length - m)).map dev)
  let moved := (List.range a0.length).filter (fun i =>
    if i < m then decide (limit < at0 0 cmOf (i % sn) - dev i) else decide (limit < dev i - cmSelf))
  ((List.range a0.length).map (fun i =>
    if moved.contains i then signatureAt s p i + (if i < m then at0 0 cmOf (i % sn) else cmSelf) else at0 0 a0 i),
   moved.filter (fun i => decide (i < m)))

/-- A start scan: four are averaged; the fourth sets the baselines and START_STATE (R280). -/
def startScan (s : State) (p : Nat) (vals : List Int) : State :=
  let x := touchOf s p
  let sums := if x.count = 0 then vals else (x.sums.zip vals).map (fun q => q.1 + q.2)
  if x.count < 3 then setTouch s p { x with sums := sums, count := x.count + 1 }
  else
    let a0 := sums.map (fun v => roundFree v 4)
    let chk := signatureCheck s p
    let b := if chk = 0 then startBase s p a0 else (a0, [])
    setStartState (setTouch s p { x with phase := 3, sums := [], count := 0, base := b.1, neg := a0.map (fun _ => 0),
                                         startNodes := b.2 }) p chk

/-! ### Reports -/

/-- The signals of a scan: mutual b − r, self r − b (R270). DESIGN CHOICE: log 108. -/
def signals (s : State) (p : Nat) (vals : List Int) : List Int :=
  let m := nodes s p
  let b := (touchOf s p).base
  (List.range vals.length).map (fun i => if i < m then at0 0 b i - at0 0 vals i else at0 0 vals i - at0 0 b i)

/-- The blobs of a scan (R275). DEDUCED: log 111. -/
def scanBlobs (s : State) (p : Nat) (sig : List Int) : List Blob :=
  let m := nodes s p
  let sn := senses s p
  let x := touchOf s p
  let thr : Int := ((256 * rd s (if glove s p then E.panel_GLOVE_THRESHOLD p else E.panel_TOUCH_THRESHOLD p) : Nat) : Int)
  let ratio : Int := ((rd s (E.panel_LIFT_RATIO p) : Nat) : Int)
  let under := x.contacts.flatMap (·.nodes)
  let val := fun n => at0 0 sig n
  let act := (List.range m).filter (fun n =>
    nodeUsable s p n && (decide (thr ≤ val n) || (under.contains n && decide (thr * ratio ≤ val n * 100))))
  let ch := usedChannels s p
  let selfOf := fun c => match ch.findIdx? (· == c) with | some i => val (m + i) | none => 0
  (blobNodes sn act.length act).map (makeBlob s p val (fun i => selfOf (driveChannel s p i)) (fun j => selfOf (senseChannel s p j)))

/-- What a scan does to the contacts: those that go on, those that lift with their reason, those that touch down, the blobs
that wait, and how many were refused for want of a slot. -/
structure Formed where
  kept : List Contact := []
  lifted : List (Contact × Nat) := []
  downs : List Contact := []
  waiting : List Waiting := []
  refused : Nat := 0
  lastId : Nat := 0
  deriving DecidableEq, Repr

/-- Contacts from the blobs of a scan (R275, R276). DEDUCED: log 110. -/
def formContacts (s : State) (p : Nat) (blobs : List Blob) : Formed :=
  let x := touchOf s p
  let limit := rd s (E.panel_TRACK_DIST p)
  let wet := blobs.filter (fun b => !b.large && b.water)
  let good := blobs.filter (fun b => !b.large && !b.water)
  let pts := good.map (fun b => (b.x, b.y))
  let pairs := matchPoints limit (x.contacts.map (fun c => (c.x, c.y))) pts
  let blobAt := fun j => good[j]?
  let judged := (x.contacts.zip (List.range x.contacts.length)).map (fun q =>
    match (pairs.find? (fun t => t.1 == q.2)).bind (fun t => blobAt t.2) with
    | some b => (moveContact s p wet q.1 b, (none : Option Nat))
    | none =>
      let c := { q.1 with missed := q.1.missed + 1 }
      if blobs.any (fun b => b.large && b.nodes.any q.1.nodes.contains) then (c, some 2)
      else if rd s (E.panel_LIFT_SCANS p) ≤ c.missed then (c, some 0)
      else (c, none))
  let free := (List.range good.length).filter (fun j => !pairs.any (fun t => t.2 == j))
  let freePts := free.map (fun j => at0 (0, 0) pts j)
  let seen := matchPoints limit (x.waiting.map (fun w => (w.x, w.y))) freePts
  let scan := rd s (E.panel_SCANS p)
  let now := (List.range free.length).map (fun i =>
    let w : Waiting := match (seen.find? (fun t => t.2 == i)).bind (fun t => x.waiting[t.1]?) with
      | some w => w
      | none => { first := scan }
    (at0 0 free i, { w with x := (at0 (0, 0) freePts i).1, y := (at0 (0, 0) freePts i).2, count := w.count + 1 }))
  let ripe := sortBy (fun a b => decide (a.2.first ≤ b.2.first)) (now.filter (fun q => decide (rd s (E.panel_DOWN_SCANS p) ≤ q.2.count)))
  let room := 10 - x.contacts.length
  let start := rd s (E.panel_START_STATE p)
  let used := x.contacts.map (·.id)
  let made := (ripe.take room).foldl (fun (r : List Contact × Nat) q =>
    match blobAt q.1 with
    | none => r
    | some b =>
      let id := nextId r.2 (used ++ r.1.map (·.id))
      let fixed := b2n (b.nodes.any x.startNodes.contains) + 2 * b2n (start == 1 || start == 2)
      let c : Contact := { id := id, flags := fixed, down := x.scanEnd }
      (r.1 ++ [{ moveContact s p wet c b with cell := cellAt s p b.x b.y }], id)) ([], x.lastId)
  let late := ripe.drop room
  { kept := (judged.filter (fun q => q.2.isNone)).map (·.1),
    lifted := judged.filterMap (fun q => q.2.map (fun r => (q.1, r))),
    downs := made.1, lastId := made.2,
    waiting := (now.filter (fun q => !ripe.contains q)).map (·.2) ++ late.map (fun q => { q.2 with counted := true }),
    refused := (late.filter (fun q => !q.2.counted)).length }

/-- Stuck contacts among those kept are released (R279): the rest, and the released ones. -/
def stuckContacts (s : State) (p : Nat) (l : List Contact) : List Contact × List Contact :=
  let x := touchOf s p
  let stuck := fun (c : Contact) => rd s (E.panel_STUCK_RELEASE p) == 1 &&
    (match c.nonFinger with
     | some t => decide (rd s (E.panel_STUCK_TIME p) * secCounts ≤ x.scanEnd - t)
     | none => false)
  (l.filter (fun c => !stuck c), l.filter stuck)

/-- N of slow tracking: round(TAU × scan rate), at least 1 (R278). -/
def slowN (s : State) (p : Nat) : Nat :=
  let tau := rd s (E.panel_TAU p)
  let q := match (touchOf s p).lock with
    | some h => (tau * rd s (E.panel_SCANS_PER_FRAME p) * timOf s h 9 * 1000, 10 * hTotal s h * vTotal s h)
    | none => (tau * rd s (E.panel_FREE_RATE p), 10)
  max 1 ((2 * q.1 + q.2) / max (2 * q.2) 1)

/-- The baselines after a scan (R278): slow tracking of what is not covered, drift carry of what is, fast re-calibration.
It gives the baselines, the negative runs and how many were re-calibrated. -/
def stepBase (s : State) (p : Nat) (vals sig : List Int) (coveredBlobs : List (List Nat)) : List Int × List Nat × Nat :=
  let x := touchOf s p
  let m := nodes s p
  let sn := senses s p
  let body := coveredBlobs.flatMap id
  let cov := (List.range m).map (fun n => body.any (nodesNear sn 1 n) && nodeUsable s p n)
  let ch := usedChannels s p
  let selfCov := ch.map (fun c => (List.range m).any (fun n => at0 false cov n &&
    (driveChannel s p (n / sn) == c || senseChannel s p (n % sn) == c)))
  let covered := cov ++ selfCov
  let n := slowN s p
  let slow := (List.range vals.length).map (fun i => roundFree (at0 0 vals i - at0 0 x.base i) n)
  let mean := fun (l : List Nat) => if l = [] then (0 : Int) else roundFree ((l.map (at0 0 slow)).sum) l.length
  let openNodes := (List.range m).filter (fun i => !at0 false covered i && nodeUsable s p i)
  let openSelf := (rangeFrom m (vals.length - m)).filter (fun i => !at0 false covered i)
  let carry := fun i =>
    if m ≤ i then mean openSelf
    else
      let line := openNodes.filter (fun k => k % sn == i % sn)
      if line = [] then mean openNodes else mean line
  let limit : Int := -((256 * rd s (E.panel_NEG_THRESHOLD p) : Nat) : Int)
  let neg := (List.range vals.length).map (fun i => if at0 0 sig i < limit then at0 0 x.neg i + 1 else 0)
  let fast := (List.range vals.length).filter (fun i => decide (3 ≤ at0 0 neg i))
  ((List.range vals.length).map (fun i =>
      if fast.contains i then at0 0 vals i
      else if at0 false covered i then at0 0 x.base i + carry i
      else at0 0 x.base i + at0 0 slow i),
   (List.range vals.length).map (fun i => if fast.contains i then 0 else at0 0 neg i), fast.length)

/-- START_STATE 1 or 2 after a scan (R281): three scans without a negative node after a lift end it. DEDUCED: log 112. -/
def settleStart (s : State) (p : Nat) (lifted negative : Bool) : State :=
  let x := touchOf s p
  let st := rd s (E.panel_START_STATE p)
  if st ≠ 1 ∧ st ≠ 2 then s
  else
    match x.verify with
    | some n =>
      if negative then setTouch s p { x with verify := if lifted then some 3 else none }
      else if n ≤ 1 then setStartState (setTouch s p { x with verify := none }) p 3
      else setTouch s p { x with verify := some (n - 1) }
    | none => if lifted then setTouch s p { x with verify := some 3 } else s

/-- A capture takes a scan: 64 are averaged; one with a contact or large object refuses it (R282). -/
def captureScan (s : State) (p : Nat) (vals : List Int) (present : Bool) : State :=
  let x := touchOf s p
  if x.capture ≠ 2 then s
  else if present then
    wr (setTouch s p { x with capture := 0, capSums := [], capCount := 0 }) (E.panel_CMD_STATE p) 3
  else
    let sums := if x.capCount = 0 then vals else (x.capSums.zip vals).map (fun q => q.1 + q.2)
    setTouch s p { x with capSums := sums, capCount := x.capCount + 1, capture := if x.capCount = 63 then 3 else 2 }

/-- CAPTURE_DONE: the average is written as the live SIGNATURE (R282). -/
def captureDone (s : State) (p : Nat) : State :=
  let x := touchOf s p
  if x.capture ≠ 3 then s
  else
    let body := x.capSums.flatMap (fun v => leBytes 2 (clampI 0 65535 (roundFree v (64 * 256))).toNat)
    let d := leBytes 2 (drives s p) ++ leBytes 2 (senses s p) ++
      leBytes 4 (crc32 (leBytes 128 (rd s (E.panel_CHANNEL_MAP p)))) ++ leBytes 4 (s.time % 2 ^ 32) ++ leBytes 4 (crc32 body) ++ body
    wr (dput (setTouch s p { x with capture := 0, capSums := [], capCount := 0 }) (E.panel_SIGNATURE p) d)
      (E.panel_CMD_STATE p) 0

/-- A running panel's report (R275–R281, R285). -/
def runScan (s : State) (p : Nat) (vals : List Int) : State :=
  let x := touchOf s p
  let m := nodes s p
  let sig := signals s p vals
  let blobs := scanBlobs s p sig
  let fm := formContacts s p blobs
  let st := stuckContacts s p fm.kept
  let lifted := fm.lifted ++ st.2.map (fun c => (c, 1))
  let contacts := st.1 ++ fm.downs
  let large := blobs.any (·.large)
  let active := blobs.flatMap (·.nodes)
  let base := stepBase s p vals sig ((contacts.map (·.nodes)) ++ (blobs.filter (·.large)).map (·.nodes))
  let freed := st.2.flatMap (·.nodes)
  let b1 := (List.range base.1.length).map (fun i => if freed.contains i then at0 0 vals i else at0 0 base.1 i)
  let moved := st.1.filter (fun c => match x.contacts.find? (fun d => d.id == c.id) with
    | some d => d.x != c.x || d.y != c.y || d.area != c.area
    | none => false)
  let s1 := setTouch s p { x with contacts := contacts, waiting := fm.waiting, lastId := fm.lastId, large := large,
                                  base := b1, neg := base.2.1, startNodes := x.startNodes.filter active.contains }
  let s2 := bumpBy (bumpBy (bumpBy s1 (E.panel_OVERFLOWS p) fm.refused) (E.panel_STUCK_RELEASES p) st.2.length)
    (E.panel_RECALS p) base.2.2
  let s3 := if 0 < base.2.2 then raise s2 .recal [p] else s2
  let s4 := lifted.foldl (fun t c => raise t .touchUp [p, c.1.id]) s3
  let s5 := fm.downs.foldl (fun t c => raise t .touchDown [p, c.id, c.x, c.y]) s4
  let s6 := if large = x.large then s5
    else raise (if large then bump s5 (E.panel_LARGE_OBJECTS p) else s5) .largeObject [p, b2n large]
  let s7 := if x.contacts = [] ∧ fm.downs ≠ [] then wake s6 2 4 else s6
  let msgs := lifted.map (fun c => contactMsg s7 p 3 c.2 c.1) ++ moved.map (contactMsg s7 p 2 0) ++
    fm.downs.map (contactMsg s7 p 1 0) ++ (if large = x.large then [] else [plainMsg s7 p (if large then 4 else 5) 0])
  let s8 := if msgs = [] then s7 else deliver s7 p msgs
  let limit : Int := -((256 * rd s (E.panel_NEG_THRESHOLD p) : Nat) : Int)
  let s9 := settleStart s8 p (!lifted.isEmpty) ((List.range m).any (fun n => decide (at0 0 sig n < limit)))
  let s9b := fm.downs.foldl (fun t c => boundTouch t p c.x c.y c.flags) s9
  let s10 := captureScan s9b p vals (contacts != [] || large)
  let diag := leBytes 4 (rd s (E.panel_SCANS p)) ++ leBytes 12 0 ++
    sig.flatMap (fun v => leBytes 2 (ofInt 16 (clampI (-32768) 32767 (roundFree v 256))))
  setPanelState (dput s10 (E.panel_DIAG p) diag) p (runState s10 p)

/-- TOUCH_REPORT: the scan whose last step has ended is completed (R274, R275, R285). -/
def touchReport (s : State) (p : Nat) : State :=
  let x := touchOf s p
  match x.steps with
  | none => s
  | some l =>
    if l.length < scanSteps s p ∨ ¬ pdOn s 13 then s
    else
      let vals := scanValues s p l
      let ends := s.time :: x.ends.filter (fun t => decide (s.time < t + secCounts))
      let s1 := bumpWrap (setTouch s p { x with steps := none, ends := ends }) (E.panel_SCANS p)
      let s2 := hopDecision s1 p l
      let s3 := if x.phase = 2 then startScan s2 p vals else if x.phase = 3 then runScan s2 p vals else s2
      writeImage (beginCapture s3 p) p

/-- SCAN_RATE as it reads: scans over the last second, mHz (R292). -/
def scanRate (s : State) (p : Nat) : Nat :=
  1000 * ((touchOf s p).ends.filter (fun t => decide (s.time < t + secCounts))).length

/-- START_VERIFY_TIMEOUT: 30 s without a contact or a fast re-calibration (R281). -/
def startVerifyTimeout (s : State) (p : Nat) : State :=
  let st := rd s (E.panel_START_STATE p)
  if (st = 1 ∨ st = 2) ∧ (touchOf s p).contacts = [] then
    writeImage (setStartState (setTouch s p { touchOf s p with verify := none }) p 3) p
  else s

/-! ### Acknowledgement (R249) -/

/-- ACK_HOLD_REACHED: a contact that touched down in a cell and never left it has been held for ACK_HOLD; the trusted world
toggles the alarm's bit once, while it runs and the alarm's latched state is 1 or 3. -/
def ackHoldReached (s : State) (p contact : Nat) : State :=
  let x := touchOf s p
  match x.contacts.find? (fun c => c.id == contact) with
  | none => s
  | some c =>
    match c.cell.bind (fun i => s.cameo.engraving.cells[i]?) with
    | none => s
    | some cell =>
      let st := at0 15 (cameoOf s cell.head).latched cell.alarm
      if c.acked ∨ c.flags % 4 ≠ 0 ∨ (st ≠ 1 ∧ st ≠ 3) ∨ rd s E.lkt_LKT_STATE ≠ 1 then s
      else
        let s1 := setTouch s p { x with contacts := x.contacts.map (fun d => if d.id = contact then { d with acked := true } else d) }
        let v := rd s1 E.pdo_ALARM_ACK
        raiseTrusted (wr s1 E.pdo_ALARM_ACK (setBit v cell.alarm (!bitOf v cell.alarm))) .alarmAck [cell.alarm]

/-! ### Subscriptions (R286) -/

/-- Stage 2 of group 6: the right to the panel's head; a panel without a head accepts class I. -/
def touchRight (s : State) (c p : Nat) : Bool :=
  match panelHead s p with
  | some h => headRight s c h
  | none => charmClass s c == 1

/-- A subscription is entered; it begins with one DOWN record for each current contact within its rectangle. -/
def enterSub (s : State) (p : Nat) (u : TouchSub) : State :=
  let x := touchOf s p
  let s1 := setTouch s p { x with subs := x.subs ++ [u] }
  let s2 := winWr s1 u.client u.ring (leBytes 4 0 ++ leBytes 4 0 ++ leBytes 4 0)
  let l := x.contacts.filter (fun c => (wants u (contactMsg s p 1 0 c)).1)
  if l = [] then s2 else (deliverTo s2 p (l.map (contactMsg s p 1 0)) u.client).1

/-- A subscription ends. -/
def leaveSub (s : State) (p c : Nat) : State :=
  let x := touchOf s p
  setTouch s p { x with subs := x.subs.filter (fun u => u.client != c) }

/-- A subscription from ring, ENTRIES and corners. -/
def subFrom (c ring n a b : Nat) : TouchSub :=
  { client := c, ring := ring, entries := n, x0 := fld a 0 16, y0 := fld a 16 16, x1 := fld b 0 16, y1 := fld b 16 16 }

/-- ENTRIES is a power of two from 16 to 4,096. -/
def entriesOk (n : Nat) : Bool := [16, 32, 64, 128, 256, 512, 1024, 2048, 4096].contains n

/-- TOUCH_SUBSCRIBE. DEDUCED: log 115. -/
def subscribeReq (s : State) (c : Nat) (t : Taken) : State :=
  let p := argOf t 2
  let ring := argOf t 3
  let n := argOf t 4
  if 4 ≤ p then fail s c 0x0100
  else if ¬ touchRight s c p then denied s c 0x05
  else if ¬ panelEnabled s p then fail s c 0x0100
  else if ¬ entriesOk n ∨ ring % 64 ≠ 0 then fail s c 0x0101
  else if (subOf s p c).isSome then fail s c 0x0102
  else if 16 ≤ (touchOf s p).subs.length then fail s c 0x0103
  else if ¬ inWindow s c ring (32 + 32 * n) then deniedAddr s c
  else withDomain s c 13 (enterSub (ok s c []) p (subFrom c ring n (argOf t 5) (argOf t 6)))

/-- TOUCH_UNSUBSCRIBE: a client that does not subscribe has nothing to end. -/
def unsubscribeReq (s : State) (c : Nat) (t : Taken) : State :=
  let p := argOf t 2
  if 4 ≤ p then fail s c 0x0100
  else if ¬ touchRight s c p then denied s c 0x05
  else if ¬ panelEnabled s p then fail s c 0x0100
  else if (subOf s p c).isNone then fail s c 4
  else withDomain s c 13 (leaveSub (ok s c []) p c)

/-- TOUCH_QUERY. -/
def touchQueryReq (s : State) (c : Nat) (t : Taken) : State :=
  let p := argOf t 2
  if 4 ≤ p then fail s c 0x0100
  else if ¬ touchRight s c p then denied s c 0x05
  else if ¬ panelEnabled s p then fail s c 0x0100
  else ok s c [panelState s p, rd s (E.panel_CONTACTS p), rd s (E.panel_START_STATE p)]

/-- Every subscription of a client ends (R29, R31). -/
def dropSubs (s : State) (c : Nat) : State := (List.range 4).foldl (fun t p => leaveSub t p c) s

/-- TOUCH.APPLY: answered at once while the panel does not scan, else at the scan start at which the configuration takes
effect (R289). DESIGN CHOICE: log 113. -/
def iclApply (s : State) (p : Nat) : State :=
  match (iclOf s (2 + p)).taken with
  | none => s
  | some t =>
    if t.op ≠ 0xF001 ∨ ¬ pdOn s 13 then s
    else if t.len ≠ 0 then iclComplete s (2 + p) { code := 3 }
    else
      let s1 := setTouch s p { touchOf s p with apply := true }
      if s1.dict.applying.any (fun e => isPanelKey p e.1) ∧ ((touchOf s p).phase = 2 ∨ (touchOf s p).phase = 3) then s1
      else answerApply s1 p

/-! ### Meanings -/

/-- ACK_HOLD_REACHED. -/
def execAckHoldReached (p : Panel) (contact : Nat) (s : State) : Host.Outcome State Fault Refusal :=
  .next (ackHoldReached s p.val contact)
/-- TOUCH_SCAN_START. -/
def execTouchScanStart (p : Panel) (s : State) : Host.Outcome State Fault Refusal := .next (touchScanStart s p.val)
/-- TOUCH_STEP_END. -/
def execTouchStepEnd (p : Panel) (samples : List Int) (s : State) : Host.Outcome State Fault Refusal :=
  .next (touchStepEnd s p.val samples)
/-- TOUCH_REPORT. -/
def execTouchReport (p : Panel) (s : State) : Host.Outcome State Fault Refusal := .next (touchReport s p.val)
/-- PANEL_START. -/
def execPanelStart (p : Panel) (s : State) : Host.Outcome State Fault Refusal := .next (panelStart s p.val)
/-- REFERENCE_TEST_DONE. -/
def execReferenceTestDone (p : Panel) (results : List Nat) (s : State) : Host.Outcome State Fault Refusal :=
  .next (referenceTestDone s p.val results)
/-- START_VERIFY_TIMEOUT. -/
def execStartVerifyTimeout (p : Panel) (s : State) : Host.Outcome State Fault Refusal := .next (startVerifyTimeout s p.val)
/-- CAPTURE_DONE. -/
def execCaptureDone (p : Panel) (s : State) : Host.Outcome State Fault Refusal := .next (captureDone s p.val)
/-- TOUCH_BACKLOG_DELIVERY. -/
def execTouchBacklogDelivery (p : Panel) (s : State) : Host.Outcome State Fault Refusal := .next (touchBacklog s p.val)
/-- TOUCH_SUBSCRIBE (0x6001). -/
def execTouchSubscribe (c : Client) (s : State) : Host.Outcome State Fault Refusal :=
  .next (serve s c.val 0x6001 (· == 5) (fun t => subscribeReq s c.val t))
/-- TOUCH_UNSUBSCRIBE (0x6002). -/
def execTouchUnsubscribe (c : Client) (s : State) : Host.Outcome State Fault Refusal :=
  .next (serve s c.val 0x6002 (· == 1) (fun t => unsubscribeReq s c.val t))
/-- TOUCH_QUERY (0x6003). -/
def execTouchQuery (c : Client) (s : State) : Host.Outcome State Fault Refusal :=
  .next (serve s c.val 0x6003 (· == 1) (fun t => touchQueryReq s c.val t))
/-- APPLY (0xF001). -/
def execTouchIclApply (p : Panel) (s : State) : Host.Outcome State Fault Refusal := .next (iclApply s p.val)
/-- SELFTEST (0xF002): as SELFTEST = 1. -/
def execTouchIclSelftest (p : Panel) (s : State) : Host.Outcome State Fault Refusal :=
  .next (iclServe s (2 + p.val) 0xF002 (· == 0) (fun _ => (startSelftest s p.val, {})))
/-- CAPTURE (0xF003): as CAPTURE = 1. -/
def execTouchIclCapture (p : Panel) (s : State) : Host.Outcome State Fault Refusal :=
  .next (iclServe s (2 + p.val) 0xF003 (· == 0) (fun _ => (startCapture s p.val, {})))
/-- SUBSCRIBE (0xF004): a subscription that firmware has checked. ARG2 is the client, ARG3 to ARG6 as TOUCH_SUBSCRIBE has
them. -/
def execTouchIclSubscribe (p : Panel) (s : State) : Host.Outcome State Fault Refusal :=
  .next (iclServe s (2 + p.val) 0xF004 (fun _ => true) (fun t =>
    if (subOf s p.val (argOf t 2)).isSome ∨ 16 ≤ (touchOf s p.val).subs.length then (s, {})
    else (enterSub s p.val (subFrom (argOf t 2) (argOf t 3) (argOf t 4) (argOf t 5) (argOf t 6)), {})))
/-- UNSUBSCRIBE (0xF005): ARG2 is the client. -/
def execTouchIclUnsubscribe (p : Panel) (s : State) : Host.Outcome State Fault Refusal :=
  .next (iclServe s (2 + p.val) 0xF005 (fun _ => true) (fun t => (leaveSub s p.val (argOf t 2), {})))

end Sys2Proof.Machine
end

