-- ==== Sys2Proof/Machine/Audio.lean ====
section
/-! DEFINITION. Audio (R313–R340): rate domains, TDM ports, ASRC channels, mixer inputs and their effects, strands and bank
swaps, side-tone, host streams, silence detection and amplifiers. Samples are 32-bit signed fractions, gains units of
2⁻³⁰. -/

namespace Sys2Proof.Machine

/-! ### Records -/

/-- A mixer input. -/
def mixOf (s : State) (i : Nat) : MixIn := tget (fun _ => {}) s.audio.ins i
/-- The state with a mixer input replaced. -/
def setMix (s : State) (i : Nat) (x : MixIn) : State :=
  { s with audio := { s.audio with ins := tset (fun _ => {}) s.audio.ins i x } }
/-- A bus. -/
def busOf (s : State) (b : Nat) : BusRec := tget (fun _ => {}) s.audio.buses b
/-- The state with a bus replaced. -/
def setBus (s : State) (b : Nat) (x : BusRec) : State :=
  { s with audio := { s.audio with buses := tset (fun _ => {}) s.audio.buses b x } }
/-- A TDM port. -/
def tdmOf (s : State) (n : Nat) : TdmRec := tget (fun _ => {}) s.audio.tdms n
/-- The state with a TDM port replaced. -/
def setTdm (s : State) (n : Nat) (x : TdmRec) : State :=
  { s with audio := { s.audio with tdms := tset (fun _ => {}) s.audio.tdms n x } }
/-- A host stream. -/
def streamOf (s : State) (n : Nat) : StreamRec := tget (fun _ => {}) s.audio.streams n
/-- The state with a host stream replaced. -/
def setStream (s : State) (n : Nat) (x : StreamRec) : State :=
  { s with audio := { s.audio with streams := tset (fun _ => {}) s.audio.streams n x } }
/-- The fade level of an ASRC channel, of 32. -/
def asrcLevel (s : State) (k : Nat) : Nat := tget (fun _ => 0) s.audio.asrc k
/-- The state with the fade level of an ASRC channel set. -/
def setAsrcLevel (s : State) (k v : Nat) : State :=
  { s with audio := { s.audio with asrc := tset (fun _ => 0) s.audio.asrc k v } }
/-- The crosspoint fades of a domain. -/
def fadesOf (s : State) (d : Nat) : List XFade := tget (fun _ => []) s.audio.fades d
/-- The state with the crosspoint fades of a domain replaced. -/
def setFades (s : State) (d : Nat) (l : List XFade) : State :=
  { s with audio := { s.audio with fades := tset (fun _ => []) s.audio.fades d l } }

/-! ### Arithmetic -/

/-- One, as a gain. -/
def unity : Int := 2 ^ 30

/-- A value as a 32-bit fraction; the manual does not say what becomes of one outside the format. DESIGN CHOICE: log 123. -/
def fit32 (v : Int) : Int :=
  if -(2 ^ 31) ≤ v ∧ v < 2 ^ 31 then v else toInt 32 (Sys2Proof.Config.audioOverflow v)

/-- A value saturated to full scale (R313). -/
def sat32 (v : Int) : Int := clampI (-(2 ^ 31)) (2 ^ 31 - 1) v

/-- An accumulator: a 32-bit fraction with 8 guard bits (R313). -/
def fit40 (v : Int) : Int :=
  if -(2 ^ 39) ≤ v ∧ v < 2 ^ 39 then v else toInt 40 (Sys2Proof.Config.audioOverflow v)

/-- A sample times a gain. -/
def scaled (x g : Int) : Int := roundFree (x * g) (2 ^ 30)

/-- The linear gain of a GAIN entry: −32,768 is mute (R321). -/
def gainOf (v : Int) : Int := if v = 0 then unity else if v = -32768 then 0 else (Sys2Proof.Config.dbGain v : Int)

/-- The sine curve of a fade at position `n` of 256 (R327). -/
def curveSin (n : Nat) : Int := if n = 0 then 0 else if 256 ≤ n then unity else (Sys2Proof.Config.fadeSin n : Int)
/-- The sin² curve of a fade. -/
def curveSq (n : Nat) : Int :=
  if n = 0 then 0 else if 256 ≤ n then unity else if n = 128 then unity / 2 else (Sys2Proof.Config.fadeSinSq n : Int)
/-- A gain that moves from `a` to `b` on the sin² curve. -/
def sweep (a b : Int) (n : Nat) : Int := a + scaled (b - a) (curveSq n)
/-- The gain of a 32-sample fade at a level. -/
def fadeGain (n : Nat) : Int := if n = 0 then 0 else if 32 ≤ n then unity else (Sys2Proof.Config.fade32 n : Int)

/-! ### Domains (R313–R315) -/

/-- STATE of a domain. -/
def domState (s : State) (d : Nat) : Nat := rd s (E.aud_STATE_A d)
/-- The reference entry of a domain. -/
def domRef (s : State) (d : Nat) : Nat := rd s (if d = 0 then E.aud_A_REF else if d = 1 then E.aud_B_REF else E.aud_V_REF)
/-- The TDM port that a domain's reference entry names. -/
def refPort (s : State) (d : Nat) : Option Nat := let r := domRef s d; if 1 ≤ r ∧ r ≤ 6 then some (r - 1) else none
/-- STATE of a TDM port. -/
def tdmState (s : State) (n : Nat) : Nat := rd s (E.tdm_STATE n)
/-- Whether a port is its domain's reference. -/
def isRef (s : State) (n : Nat) : Bool := refPort s (rd s (E.tdm_DOMAIN n)) == some n

/-- An ASRC channel enters STATE 1: its outputs are muted until it locks (R320). -/
def relockAsrc (s : State) (k : Nat) : State :=
  if rd s (E.asrc_MODE k) = 0 then wr (setAsrcLevel s k 0) (E.asrc_STATE k) 0
  else if pdOn s 12 then bump (wr (setAsrcLevel s k 0) (E.asrc_STATE k) 1) (E.asrc_RELOCKS k)
  else wr (setAsrcLevel s k 0) (E.asrc_STATE k) 0

/-- A domain's clock starts: its bridges and the channels of its ports lock anew (R320). -/
def startDomain (s : State) (d : Nat) : State :=
  (List.range 16).foldl (fun t k =>
    let bridge := rd t (E.asrc_MODE k) = 1 ∧ (rd t (E.asrc_FROM k) = d ∨ rd t (E.asrc_TO k) = d)
    let port := 2 ≤ rd t (E.asrc_MODE k) ∧ (List.range 6).any (fun n =>
      rd t (E.tdm_DOMAIN n) == d && (rd t (E.tdm_RX_ASRC n) == k || rd t (E.tdm_TX_ASRC n) == k))
    if bridge ∨ port then relockAsrc t k else t) s

/-- STATE of a domain follows its reference. A domain that has never had its reference port locked has measured no period
and does not run; one that loses it goes on as a flywheel until its phase matches again. DESIGN CHOICE: log 124. -/
def settleDomain (s : State) (d : Nat) : State :=
  let old := domState s d
  let new :=
    if ¬ pdOn s 12 then 0
    else
      match refPort s d with
      | some p => if old = 0 then (if tdmState s p = 2 then 1 else 0) else if tdmState s p = 2 then old else 2
      | none =>
        if d = 0 then 1
        else if d = 1 then (if domRef s 1 = 7 ∧ s.audio.mclkb then 1 else 0)
        else domState s 0
  let s1 := wr s (E.aud_STATE_A d) new
  let s2 := if old = 1 ∧ new = 2 then raise s1 .refLost [d] else s1
  if old = 0 ∧ new ≠ 0 then startDomain s2 d else s2

/-- The three domains; V after A. -/
def settleDomains (s : State) : State := [0, 1, 2].foldl settleDomain s

/-! ### Amplifiers and idle ports (R334–R336) -/

/-- AMP_STATE and the AMP_EN outputs follow the buses. -/
def settleAmps (s : State) : State :=
  let on := (List.range 8).filter (fun n =>
    pdOn s 12 && (bitsOf 32 (rd s (E.aud_AMP_MASK n))).any (fun b => rd s (E.bus_SILENT b) == 0))
  wr s E.aud_AMP_STATE (maskOf on)

/-- The bus that a port sends in a slot, if TX_MAP names one. -/
def txBus (s : State) (n slot : Nat) : Option Nat :=
  let b := fld (rd s (E.tdm_TX_MAP n)) (8 * slot) 8
  if b = 0xFF then none else some b

/-- Whether a port has nothing to send and nothing that listens (R336). -/
def portIdle (s : State) (n : Nat) : Bool :=
  let slots := rd s (E.tdm_SLOTS n)
  rd s (E.tdm_GATE_IDLE n) == 1 && rd s (E.tdm_ROLE n) == 0 &&
    (List.range slots).all (fun k => match txBus s n k with | some b => rd s (E.bus_SILENT b) == 1 | none => true) &&
    (List.range 64).all (fun i => !(rd s (E.mix_SRC_KIND i) == 1 && rd s (E.mix_SRC_INDEX i) / 16 == n)) &&
    (List.range 8).all (fun k => rd s (E.st_SRC_KIND k) == 0 ||
      (!(rd s (E.st_SRC_KIND k) == 1 && rd s (E.st_SRC k) / 16 == n) && rd s (E.st_DST k) / 16 != n))

/-- Ports gate and restart as their buses fall silent and wake. -/
def settleGates (s : State) : State :=
  (List.range 6).foldl (fun t n =>
    let st := tdmState t n
    if st = 2 ∧ portIdle t n then wr t (E.tdm_STATE n) 4
    else if st = 4 ∧ ¬ portIdle t n then wr t (E.tdm_STATE n) 1
    else t) s

/-! ### Ports (R316–R318) -/

/-- The ASRC channels a port names. -/
def portAsrcs (s : State) (n : Nat) : List Nat :=
  [rd s (E.tdm_RX_ASRC n), rd s (E.tdm_TX_ASRC n)].filter (fun k => decide (k < 16))

/-- A port restarts, or is off (R318). -/
def restartPort (s : State) (n : Nat) : State :=
  let on := rd s (E.tdm_ENABLE n) == 1 && pdOn s 12
  settleDomains (wr (setTdm s n {}) (E.tdm_STATE n) (b2n on))

/-- A slave port locks: its received slots fade in and its ASRC channels lock; TDM_LOCKED after a loss. -/
def lockPort (s : State) (n : Nat) : State :=
  let x := tdmOf s n
  let s1 := wr (setTdm s n { x with lost := false, level := 0 }) (E.tdm_STATE n) 2
  let s2 := (portAsrcs s1 n).foldl relockAsrc s1
  settleDomains (if x.lost then raise s2 .tdmLocked [n] else s2)

/-- A received slot as its domain's sequencer sees it: faded, and through the port's ASRC channel where the port is a slave
that is not the domain's reference. What a locked channel gives is free. DESIGN CHOICE: log 122. -/
def slotSample (s : State) (n slot : Nat) : Int :=
  let st := tdmState s n
  let x := tdmOf s n
  if st ≠ 2 ∧ st ≠ 3 then 0
  else if rd s (E.tdm_ROLE n) = 1 ∧ ¬ isRef s n then
    let k := rd s (E.tdm_RX_ASRC n)
    if k < 16 ∧ rd s (E.asrc_STATE k) = 2 then
      scaled (scaled (toInt 32 (Sys2Proof.Config.freeNat (s.free + slot))) (fadeGain (asrcLevel s k))) (fadeGain x.level)
    else 0
  else scaled (at0 0 x.rx slot) (fadeGain x.level)

/-- A bus as it is delivered: silent while its domain does not run. -/
def busOut (s : State) (b : Nat) : Int := if domState s (rd s (E.bus_DOMAIN b)) = 0 then 0 else (busOf s b).out

/-- The sum of the side-tone paths that end in a slot over a bus sample (R328, R329). -/
def withSideTone (s : State) (n slot : Nat) (pdm : List Int) (v : Int) : Int :=
  (List.range 8).foldl (fun a k =>
    let kind := rd s (E.st_SRC_KIND k)
    let src := rd s (E.st_SRC k)
    if kind = 0 ∨ rd s (E.st_DST k) ≠ 16 * n + slot ∨ rd s (E.st_MUTE k) = 1 then a
    else
      let x := if kind = 1 then (if tdmState s (src / 16) = 2 then at0 0 (tdmOf s (src / 16)).rx (src % 16) else 0)
        else if rd s (E.pdm_ENABLE src) = 1 then at0 0 pdm src else 0
      sat32 (a + scaled x (gainOf (toInt 16 (rd s (E.st_GAIN k)))))) v

/-- A sample as a slot carries it: DATA_BITS, left-justified. -/
def slotBits (bits : Nat) (v : Int) : Int :=
  clampI (-(2 ^ (bits - 1) : Nat)) ((2 ^ (bits - 1) : Nat) - 1) (roundFree v (2 ^ (32 - bits)))

/-- A frame of a port is sent. -/
def sendFrame (s : State) (n : Nat) (pdm : List Int) : State :=
  let direct := rd s (E.tdm_ROLE n) == 0 || isRef s n
  let k := rd s (E.tdm_TX_ASRC n)
  let through := decide (k < 16) && rd s (E.asrc_STATE k) == 2
  let l := (List.range (rd s (E.tdm_SLOTS n))).map (fun slot =>
    match txBus s n slot with
    | none => if direct then slotBits (rd s (E.tdm_DATA_BITS n)) (withSideTone s n slot pdm 0) else 0
    | some b =>
      let v := if direct then withSideTone s n slot pdm (busOut s b)
        else if through then
          scaled (toInt 32 (Sys2Proof.Config.freeNat (s.free + 16 + slot))) (fadeGain (asrcLevel s k))
        else 0
      slotBits (rd s (E.tdm_DATA_BITS n)) v)
  { send s (.tdm n) l [] with free := s.free + 32 }

/-- TDM_FRAME_SYNC: a frame sync in its place brings the slots of the frame that ended and sends the next frame. DEDUCED: log 125. -/
def tdmFrameSync (s : State) (n : Nat) (samples pdm : List Int) : State :=
  let st := tdmState s n
  let x := tdmOf s n
  if st = 0 ∨ st = 4 ∨ ¬ pdOn s 12 then s
  else
    let bits := rd s (E.tdm_DATA_BITS n)
    let rx := (List.range (rd s (E.tdm_SLOTS n))).map (fun k => toInt bits (ofInt bits (at0 0 samples k)) * (2 ^ (32 - bits) : Nat))
    let s1 :=
      if rd s (E.tdm_ROLE n) = 0 then
        settleDomains (wr (setTdm s n { x with rx := rx, miss := 0, level := 32 }) (E.tdm_STATE n) 2)
      else if st = 2 then setTdm s n { x with rx := rx, miss := 0 }
      else
        let good := if st = 3 then 1 else x.good + 1
        let t := wr (setTdm s n { x with good := good, miss := 0, rx := rx, level := 0 }) (E.tdm_STATE n) 1
        if 8 ≤ good then lockPort t n else t
    if tdmState s1 n = 2 then settleGates (sendFrame s1 n pdm) else s1

/-- TDM_FRAME_MISSING on a slave port (R317, R318). -/
def tdmFrameMissing (s : State) (n : Nat) : State :=
  let st := tdmState s n
  let x := tdmOf s n
  if rd s (E.tdm_ROLE n) = 0 ∨ st = 0 ∨ st = 4 ∨ ¬ pdOn s 12 then s
  else
    let s1 := bump (setTdm s n { x with good := 0, miss := x.miss + 1 }) (E.tdm_MISSING_FRAMES n)
    if st = 2 ∧ 1 ≤ x.miss then
      let s2 := bump (wr (setTdm s1 n { tdmOf s1 n with lost := true }) (E.tdm_STATE n) 3) (E.tdm_SYNC_LOSSES n)
      settleDomains (raise s2 .tdmSyncLost [n])
    else s1

/-- REF_PHASE_MATCH: a flywheel domain whose port has locked again runs on it; a sample may have slipped (R315). -/
def refPhaseMatch (s : State) (d : Nat) (slip : Bool) : State :=
  match refPort s d with
  | none => s
  | some p =>
    if domState s d = 2 ∧ tdmState s p = 2 then
      settleDomains (wr (if slip then bump s E.aud_SLIPS else s) (E.aud_STATE_A d) 1)
    else s

/-- A ratio that differs from the one before by more than 1,000 ppm (R320). -/
def ratioMoved (old new : Nat) : Bool := decide (old < 1000 * (new - old + (old - new)))

/-- ASRC_LOCKED: a muted channel locks at a ratio. A locked one whose ratio has moved has been through STATE 1 (R320).
DEDUCED: log 126. -/
def asrcLocked (s : State) (k ratio : Nat) : State :=
  let st := rd s (E.asrc_STATE k)
  let r := ratio % 2 ^ 32
  if st = 1 ∨ (st = 2 ∧ ratioMoved (rd s (E.asrc_RATIO k)) r) then
    let s1 := if st = 2 then bump s (E.asrc_RELOCKS k) else s
    raise (wr (wr (setAsrcLevel s1 k 0) (E.asrc_STATE k) 2) (E.asrc_RATIO k) r) .asrcLocked [k]
  else s

/-! ### Host streams (R330–R333) -/

/-- A playback stream. -/
def isPlayback (s : State) (n : Nat) : Bool := rd s (E.hs_DIR n) == 0
/-- Bytes of a sample in a ring. -/
def sampleBytes (o : StreamOpen) : Nat := if o.wide then 4 else 2
/-- The domain of a stream: that of its first input or bus. -/
def streamDomain (s : State) (n : Nat) : Nat :=
  if isPlayback s n then rd s (E.mix_DOMAIN (rd s (E.hs_FIRST n))) else rd s (E.bus_DOMAIN (rd s (E.hs_FIRST n)))

/-- Whether a stream's lanes are consistent (R331): playback inputs of SRC_KIND 3, or buses, of one domain. -/
def lanesOk (v : Nat → Nat) (n : Nat) : Bool :=
  let first := v (E.hs_FIRST n)
  let lanes := rangeFrom first (v (E.hs_LANES n))
  if v (E.hs_DIR n) = 0 then
    lanes.all (fun i => decide (i < 64) && v (E.mix_SRC_KIND i) == 3 && v (E.mix_DOMAIN i) == v (E.mix_DOMAIN first))
  else lanes.all (fun b => decide (b < 32) && v (E.bus_DOMAIN b) == v (E.bus_DOMAIN first))

/-- The window address of frame `f` of period `n` of a ring. -/
def frameAddr (s : State) (n : Nat) (o : StreamOpen) (period f : Nat) : Nat :=
  o.ring + 64 + ((period % o.periods) * o.frames + f) * rd s (E.hs_LANES n) * sampleBytes o

/-- A lane's samples of the frame a playback stream is at. -/
def playFrame (s : State) (n : Nat) (o : StreamOpen) (x : StreamRec) : List Int :=
  let a := frameAddr s n o x.index x.pos
  let k := sampleBytes o
  (List.range (rd s (E.hs_LANES n))).map (fun l =>
    let v := leVal (winRd s o.client (a + l * k) k)
    if o.wide then toInt 32 v else toInt 16 v * 65536)

/-- STATE of a stream is set, in its entry. -/
def setStreamState (s : State) (n st : Nat) : State := wr s (E.hs_STATE n) st

/-- The header as the device writes it (R332): its index, STATE, COUNT and TIME; then EVENT bit 5. -/
def writeStreamHeader (s : State) (n : Nat) : State :=
  let x := streamOf s n
  match x.opened with
  | none => s
  | some o =>
    let s1 := winWr s o.client (o.ring + (if isPlayback s n then 4 else 0)) (leBytes 4 x.index)
    let s2 := winWr s1 o.client (o.ring + 8) (leBytes 4 (rd s (E.hs_STATE n)) ++ leBytes 4 x.count ++ leBytes 8 s.time)
    setEvent s2 o.client 5

/-- A difference of two wrapping 32-bit counts. -/
def countDiff (a b : Nat) : Int := toInt 32 ((a + 2 ^ 32 - b) % 2 ^ 32)

/-- A playback stream at a period boundary (R333). -/
def playBoundary (s : State) (n : Nat) (o : StreamOpen) : State :=
  let x0 := streamOf s n
  let st := rd s (E.hs_STATE n)
  let run := domState s (streamDomain s n) != 0
  let w := winWord s o.client o.ring
  let i1 := if st = 1 then (x0.index + 1) % 2 ^ 32 else x0.index
  let past := decide ((o.periods : Int) < countDiff w i1)
  let i2 := if past then (w + 2 ^ 32 - o.latency) % 2 ^ 32 else i1
  let x1 := { x0 with index := i2, count := (x0.count + b2n past) % 2 ^ 32, pos := 0 }
  let more := decide (0 < countDiff w i2) && run
  if st = 1 ∧ more then setStream s n x1
  else if st = 1 then
    let s1 := setStreamState (setStream s n { x1 with count := (x1.count + 1) % 2 ^ 32 }) n 2
    raise (bump s1 (E.hs_STARVATIONS n)) .streamStarved [n]
  else if more then
    let target := (w + 2 ^ 32 - o.latency) % 2 ^ 32
    let i3 := if 0 < countDiff target i2 then target else i2
    raise (setStreamState (setStream s n { x1 with index := i3, level := 0 }) n 1) .streamResumed [n]
  else setStream s n x1

/-- A capture stream at a period boundary: a whole period is written, or dropped when the ring is full (R332). -/
def captureBoundary (s : State) (n : Nat) (o : StreamOpen) : State :=
  let x := streamOf s n
  let lanes := rd s (E.hs_LANES n)
  let s0 := setStreamState s n 1
  if x.cap.length < o.frames * lanes then setStream s0 n { x with cap := [] }
  else
    let read := winWord s o.client (o.ring + 4)
    if countDiff x.index read = (o.periods : Int) then setStream s0 n { x with cap := [], count := (x.count + 1) % 2 ^ 32 }
    else
      let bytes := (x.cap.take (o.frames * lanes)).flatMap (fun v =>
        if o.wide then leBytes 4 (ofInt 32 v) else leBytes 2 (ofInt 16 (slotBits 16 v)))
      setStream (winWr s0 o.client (frameAddr s n o x.index 0) bytes) n
        { x with cap := [], index := (x.index + 1) % 2 ^ 32 }

/-- STREAM_PERIOD_BOUNDARY. -/
def streamBoundary (s : State) (n : Nat) : State :=
  match (streamOf s n).opened with
  | none => s
  | some o => writeStreamHeader (if isPlayback s n then playBoundary s n o else captureBoundary s n o) n

/-- A tick for the streams of a domain: playback streams move to their next frame and fade, capture streams take a frame. -/
def tickStream (s : State) (d n : Nat) : State :=
  let x := streamOf s n
  if streamDomain s n ≠ d then s
  else
    match x.opened with
    | none => if x.level = 0 then s else setStream s n { x with level := x.level - 1 }
    | some o =>
      if isPlayback s n then
        if rd s (E.hs_STATE n) = 1 then
          let l := if x.pos < o.frames then playFrame s n o x else x.last
          setStream s n { x with last := l, pos := x.pos + 1, level := min 32 (x.level + 1) }
        else setStream s n { x with level := x.level - 1 }
      else
        let lanes := rd s (E.hs_LANES n)
        if x.cap.length < o.frames * lanes then
          setStream s n { x with cap := x.cap ++ (List.range lanes).map (fun l => busOut s (rd s (E.hs_FIRST n) + l)) }
        else s

/-- What a host stream gives a mixer input. -/
def streamSample (s : State) (i : Nat) : Int :=
  match (List.range 32).find? (fun n => isPlayback s n && decide (rd s (E.hs_FIRST n) ≤ i) &&
      decide (i < rd s (E.hs_FIRST n) + rd s (E.hs_LANES n)) &&
      ((streamOf s n).opened.isSome || decide (0 < (streamOf s n).level))) with
  | some n => scaled (at0 0 (streamOf s n).last (i - rd s (E.hs_FIRST n))) (fadeGain (streamOf s n).level)
  | none => 0

/-! ### Inputs (R321, R322) -/

/-- The source sample of an input; what a locked ASRC lane gives is free. -/
def sourceSample (s : State) (i : Nat) (pdm : List Int) : Int :=
  let kind := rd s (E.mix_SRC_KIND i)
  let n := rd s (E.mix_SRC_INDEX i)
  if kind = 1 then slotSample s (n / 16) (n % 16)
  else if kind = 2 then (if rd s (E.pdm_ENABLE n) = 1 then sat32 (at0 0 pdm n) else 0)
  else if kind = 3 then streamSample s i
  else if kind = 4 then
    let k := n / 16
    if rd s (E.asrc_STATE k) = 2 ∧ domState s (rd s (E.asrc_FROM k)) ≠ 0 then
      scaled (toInt 32 (Sys2Proof.Config.freeNat (s.free + 32 + i))) (fadeGain (asrcLevel s k))
    else 0
  else if kind = 5 then busOut s n
  else 0

/-- One biquad over its state x1, x2, y1, y2. -/
def biquad (c : Nat → Int) (st : List Int) (x : Int) : Int × List Int :=
  let v := c 0 * x + c 1 * at0 0 st 0 + c 2 * at0 0 st 1 - c 3 * at0 0 st 2 - c 4 * at0 0 st 3
  let y := fit32 (roundFree v (2 ^ 30))
  (y, [x, at0 0 st 0, y, at0 0 st 2])

/-- The ten biquads in band order. -/
def equalise (eq : Nat) (st : List Int) (x : Int) : Int × List Int :=
  (List.range 10).foldl (fun (r : Int × List Int) band =>
    let q := biquad (fun k => toInt 32 (fld eq (32 * (5 * band + k)) 32)) (slice st (4 * band) 4) r.1
    (q.1, r.2 ++ q.2)) (x, [])

/-- Samples per second of a domain. -/
def domRate (d : Nat) : Nat := if d = 0 then 48000 else if d = 1 then 44100 else 16000

/-- A DELAY in samples (R322); the rounding of a tie is open. -/
def delaySamples (d v : Nat) : Nat :=
  let n := v * domRate d
  let q := n / 10000
  let r := n % 10000
  if 2 * r < 10000 then q else if 10000 < 2 * r then q + 1
  else if Sys2Proof.Config.roundsUp n 10000 then q + 1 else q

/-- An input processes a sample: the chain of R322 with its taps. -/
def runInput (s : State) (d : Nat) (pdm : List Int) (i : Nat) : State :=
  let x := mixOf s i
  let src := sourceSample s i pdm
  let g := sweep x.gFrom (gainOf (toInt 16 (rd s (E.mix_GAIN i)))) x.gPos
  let t0 := fit32 (scaled src g)
  let e := equalise (rd s (E.mix_EQ i)) x.eq t0
  let par : List Int := [toInt 16 (rd s (E.mix_COMP_THRESHOLD i)), (rd s (E.mix_COMP_RATIO i) : Int), (rd s (E.mix_COMP_ATTACK i) : Int),
    (rd s (E.mix_COMP_RELEASE i) : Int), (rd s (E.mix_COMP_MAKEUP i) : Int)]
  let on := rd s (E.mix_COMP_EN i) = 1
  let det := if on then Sys2Proof.Config.compDetector par x.det e.1 else x.det
  let t2 := if on then toInt 32 (Sys2Proof.Config.compOutput par det e.1) else e.1
  let line := (t2 :: x.line).take 4801
  let tap := fun n => at0 0 line (delaySamples d n)
  let new := tap (rd s (E.mix_DELAY i))
  let t3 := if x.dPos < 256 then
      fit32 (scaled (tap x.dFrom) (curveSin (256 - x.dPos)) + scaled new (curveSin x.dPos)) else new
  setMix s i { x with eq := e.2, det := det, line := line, taps := [t0, e.1, t2, t3], gPos := min 256 (x.gPos + 1),
                      dPos := min 256 (x.dPos + 1) }

/-! ### Strands and swaps (R323–R327) -/

/-- The entries of a domain's strand, as words. -/
def strandOf (s : State) (d : Nat) : List Nat :=
  let b := dget s (E.aud_STRAND d)
  wordsOf b (b.length / 4)

/-- The key of a strand entry: SRC, TAP, DST. -/
def strandKey (w : Nat) : Nat := w % 2 ^ 13
/-- The gain of a strand entry. -/
def strandGain (w : Nat) : Int := toInt 16 (fld w 16 16) * 65536

/-- The gain of a fading crosspoint. -/
def fadeNow (f : XFade) : Int :=
  if f.kind = 0 then scaled f.g0 (curveSin (256 - f.pos))
  else if f.kind = 1 then scaled f.g1 (curveSin f.pos)
  else sweep f.g0 f.g1 f.pos

/-- The fades of a domain after a swap from one strand to another (R327), and how many were started. -/
def swapFades (fades : List XFade) (old new : List Nat) : List XFade × Nat :=
  let fading := fun k => fades.find? (fun f => f.key == k)
  let kept := new.filterMap (fun w =>
    let k := strandKey w
    let g := strandGain w
    let hard := bitOf w 13
    match fading k, old.find? (fun o => strandKey o == k) with
    | some f, _ => if hard then none else some { key := k, g0 := fadeNow f, g1 := g, kind := 2 : XFade }
    | none, some o =>
      if strandGain o = g ∨ hard then none else some { key := k, g0 := strandGain o, g1 := g, kind := 2 }
    | none, none => if hard then none else some { key := k, g0 := 0, g1 := g, kind := 1 })
  let isNew := fun k => new.any (fun w => strandKey w == k)
  let gone := (old.filter (fun o => !isNew (strandKey o))).map (fun o =>
    match fading (strandKey o) with
    | some f => { key := strandKey o, g0 := fadeNow f, g1 := 0, kind := 2 : XFade }
    | none => { key := strandKey o, g0 := strandGain o, g1 := 0, kind := 0 })
  let still := (fades.filter (fun f => !isNew f.key && !old.any (fun o => strandKey o == f.key))).map (fun f =>
    { key := f.key, g0 := fadeNow f, g1 := 0, kind := 2 : XFade })
  (kept ++ gone ++ still, (kept ++ gone ++ still).length)

/-- The crosspoints of a domain with their gains at this sample: the strand in table order, then removed ones still fading. -/
def crosspoints (s : State) (d : Nat) : List (Nat × Int) :=
  let fs := fadesOf s d
  let st := strandOf s d
  st.map (fun w => (strandKey w, match fs.find? (fun f => f.key == strandKey w) with
    | some f => fadeNow f | none => strandGain w)) ++
  (fs.filter (fun f => !st.any (fun w => strandKey w == f.key))).map (fun f => (f.key, fadeNow f))

/-- Whether a committed audio key takes effect by a bank swap (R326): strands, inputs, buses, bridges and side-tone paths. -/
def isSwapKey (k : Nat) : Bool :=
  let i := k / 256
  (decide (0x4430 ≤ i) && decide (i < 0x4450)) || (decide (0x4460 ≤ i) && decide (i < 0x44C0)) ||
    (decide (0x44E0 ≤ i) && decide (i < 0x44E3))

/-- The domain whose swap brings a key: its own as the candidate has it. -/
def keyDomain (s : State) (k : Nat) : Nat :=
  let i := k / 256
  if i < 0x4440 then candVal s (E.tdm_DOMAIN (candVal s (E.st_DST (i - 0x4430)) / 16))
  else if i < 0x4450 then candVal s (E.asrc_TO (i - 0x4440))
  else if i < 0x44A0 then candVal s (E.mix_DOMAIN (i - 0x4460))
  else if i < 0x44C0 then candVal s (E.bus_DOMAIN (i - 0x44A0))
  else i - 0x44E0

/-- A bus is configured: not silent, its hold time starting (R334). -/
def wakeBus (s : State) (b : Nat) : State := wr (setBus s b { busOf s b with quiet := some s.time }) (E.bus_SILENT b) 0

/-- The applied audio values that `p` holds of take effect, with their fades and restarts (R326, R327). -/
def landAudio (s : State) (p : Nat → Bool) : State :=
  let keys := (s.dict.applying.map (·.1)).filter (fun k => isSwapKey k && p k)
  let olds := [0, 1, 2].map (strandOf s)
  let s1 := landWhere s (fun k => isSwapKey k && p k)
  let s2 := [0, 1, 2].foldl (fun t d =>
    if keys.contains (E.aud_STRAND d) then
      let r := swapFades (fadesOf t d) (at0 [] olds d) (strandOf t d)
      wr (setFades t d r.1) E.aud_CROSSFADES ((rd t E.aud_CROSSFADES + r.2) % 2 ^ 32)
    else t) s1
  let s3 := keys.foldl (fun t k =>
    let i := k / 256
    if 0x4460 ≤ i ∧ i < 0x44A0 then
      let n := i - 0x4460
      let x := mixOf t n
      if k = E.mix_GAIN n then
        setMix t n { x with gFrom := sweep x.gFrom (gainOf (toInt 16 (rd s k))) x.gPos, gPos := 0 }
      else if k = E.mix_DELAY n then setMix t n { x with dFrom := rd s k, dPos := 0 }
      else t
    else if 0x44A0 ≤ i ∧ i < 0x44C0 then
      let b := i - 0x44A0
      if k = E.bus_GAIN b then
        let x := busOf t b
        setBus t b { x with gFrom := sweep x.gFrom (gainOf (toInt 16 (rd s k))) x.gPos, gPos := 0 }
      else if k = E.bus_DOMAIN b then wakeBus t b
      else t
    else if 0x4440 ≤ i ∧ i < 0x4450 then relockAsrc t (i - 0x4440)
    else t) s2
  settleGates (settleAmps s3)

/-- The domains of a sequencer (R313). -/
def sequencerOf (d : Nat) : Nat := if d = 1 then 1 else 0

/-- The domains whose swap an APPLY of a sequencer awaits. -/
def applyWaits (s : State) (n : Nat) : List Nat := tget (fun _ => []) s.audio.apply n
/-- The state with those domains replaced. -/
def setApplyWaits (s : State) (n : Nat) (l : List Nat) : State :=
  { s with audio := { s.audio with apply := tset (fun _ => []) s.audio.apply n l } }

/-- A domain swaps banks at its tick when an APPLY awaits it; the last swap answers the APPLY (R326, R338). -/
def swapAtTick (s : State) (d : Nat) : State :=
  let n := sequencerOf d
  if (applyWaits s n).contains d then
    let left := (applyWaits s n).filter (· != d)
    let s1 := landAudio s (fun k => keyDomain s k == d)
    let s2 := raise (bumpWrap (setApplyWaits s1 n left) E.aud_SWAPS) .audioSwap [d]
    if left = [] then iclComplete s2 n {} else s2
  else s

/-- AUDIO_APPLY: the named domains of the sequencer that run swap at their next ticks; values of one that does not run take
effect at once. -/
def audioApply (s : State) (n : Nat) : State :=
  match (iclOf s n).taken with
  | none => s
  | some t =>
    if t.op ≠ 0xF001 ∨ ¬ pdOn s 12 ∨ applyWaits s n ≠ [] then s
    else if t.len ≠ 1 then iclComplete s n { code := 3 }
    else
      let ds := [0, 1, 2].filter (fun d => sequencerOf d == n && bitOf (argOf t 2) d)
      let live := ds.filter (fun d => domState s d != 0)
      let s1 := landAudio s (fun k => ds.contains (keyDomain s k) && domState s (keyDomain s k) == 0)
      if live = [] then iclComplete s1 n {} else setApplyWaits s1 n live

/-! ### Ticks (R324) -/

/-- The silence detector after a delivered sample (R334). -/
def detectSilence (s : State) (b : Nat) (v : Int) : State :=
  let loud := decide (gainOf (toInt 16 (rd s (E.bus_SILENCE_THRESHOLD b))) * 2 ^ 31 ≤ (v.natAbs : Int) * unity)
  let x := busOf s b
  if loud then
    let s1 := setBus s b { x with quiet := none }
    if rd s (E.bus_SILENT b) = 1 then raise (wr s1 (E.bus_SILENT b) 0) .busActive [b] else s1
  else if x.quiet.isNone then setBus s b { x with quiet := some s.time }
  else s

/-- A bus is delivered: its accumulator times its GAIN, saturated. -/
def runBus (xs : List (Nat × Int)) (s : State) (b : Nat) : State :=
  let acc := xs.foldl (fun (a : Int) q =>
    if fld q.1 8 5 = b then fit40 (a + scaled (at0 0 (mixOf s (fld q.1 0 6)).taps (fld q.1 6 2)) q.2) else a) 0
  let x := busOf s b
  let g := sweep x.gFrom (gainOf (toInt 16 (rd s (E.bus_GAIN b)))) x.gPos
  let v := sat32 (scaled acc g)
  detectSilence (setBus s b { x with out := v, gPos := min 256 (x.gPos + 1) }) b v

/-- Fade levels of the ports and ASRC channels of a domain move on by a sample. -/
def tickFades (s : State) (d : Nat) : State :=
  let s1 := (List.range 6).foldl (fun t n =>
    let x := tdmOf t n
    if rd t (E.tdm_DOMAIN n) ≠ d then t
    else if tdmState t n = 2 then setTdm t n { x with level := min 32 (x.level + 1) }
    else if tdmState t n = 3 then setTdm t n { x with level := x.level - 1 }
    else t) s
  let s2 := (List.range 16).foldl (fun t k =>
    if rd t (E.asrc_STATE k) = 2 then setAsrcLevel t k (min 32 (asrcLevel t k + 1)) else t) s1
  setFades s2 d (((fadesOf s2 d).map (fun f => { f with pos := f.pos + 1 })).filter (fun f => decide (f.pos ≤ 256)))

/-- AUDIO_SAMPLE_TICK of a domain that runs, with the decimated samples of the PDM inputs. DEDUCED: log 127. -/
def sampleTick (s : State) (d : Nat) (pdm : List Int) : State :=
  if domState s d = 0 ∨ ¬ pdOn s 12 then s
  else
    let s1 := swapAtTick s d
    let s2 := (List.range 32).foldl (fun t n => tickStream t d n) s1
    let ins := (List.range 64).filter (fun i => rd s2 (E.mix_DOMAIN i) == d)
    let s3 := ins.foldl (fun t i => runInput t d pdm i) s2
    let xs := (crosspoints s3 d).filter (fun q => ins.contains (fld q.1 0 6))
    let s4 := ((List.range 32).filter (fun b => rd s3 (E.bus_DOMAIN b) == d)).foldl (runBus xs) s3
    let s5 := settleGates (settleAmps (tickFades s4 d))
    { s5 with free := s5.free + 128 }

/-- BUS_SILENCE_HOLD_EXPIRY: every sample has stayed below the threshold for SILENCE_HOLD. -/
def silenceExpiry (s : State) (b : Nat) : State :=
  if (busOf s b).quiet.isSome ∧ rd s (E.bus_SILENT b) = 0 ∧ pdOn s 12 then
    settleGates (settleAmps (raise (bump (wr s (E.bus_SILENT b) 1) (E.bus_SILENCES b)) .busSilent [b]))
  else s

/-- AUD_MCLKB starts or stops. -/
def mclkbChange (s : State) (on : Bool) : State := settleDomains { s with audio := { s.audio with mclkb := on } }

/-! ### Power and entries -/

/-- PD12 powers up (R318, R320, R334, R339). -/
def audioUp (s : State) : State :=
  let s1 := (List.range 6).foldl restartPort s
  let s2 := (List.range 16).foldl relockAsrc (settleDomains s1)
  settleAmps ((List.range 32).foldl wakeBus s2)

/-- PD12 goes off: ports stop, AMP_EN is low, open streams stay open and starve. What audio SRAM held is lost. -/
def audioDown (s : State) : State :=
  let s1 := (List.range 6).foldl (fun t n => wr (setTdm t n {}) (E.tdm_STATE n) 0) s
  let s2 := (List.range 16).foldl relockAsrc s1
  let s3 := (List.range 32).foldl (fun t b => setBus t b { busOf t b with out := 0 }) s2
  let s4 := (List.range 64).foldl (fun t i => setMix t i {}) s3
  let s5 := [0, 1, 2].foldl (fun t d => setFades t d []) s4
  let s6 := (List.range 32).foldl (fun t n =>
    let x := streamOf t n
    if rd t (E.hs_STATE n) = 1 ∧ isPlayback t n then
      let u := setStreamState (setStream t n { x with count := (x.count + 1) % 2 ^ 32, level := 0 }) n 2
      raise (writeStreamHeader (bump u (E.hs_STARVATIONS n)) n) .streamStarved [n]
    else t) s5
  settleAmps (settleDomains s6)

/-! ### Requests (R331) -/

/-- Stage 2 of group 5. -/
def streamRight (s : State) (c n : Nat) : Bool :=
  match guestOf s c with | some g => bitOf (rd s (E.hs_GUESTS n)) g | none => false

/-- Whether a client has a stream open. -/
def streamHeldBy (s : State) (c n : Nat) : Bool :=
  match (streamOf s n).opened with | some o => o.client == c | none => false

/-- A stream is entered: it starts at STATE 0. -/
def enterStream (s : State) (n : Nat) (o : StreamOpen) : State :=
  let s1 := wr (setStreamState (setStream s n { opened := some o }) n 0) (E.hs_HOLDER n) o.client
  let s2 := winWr s1 o.client (o.ring + (if isPlayback s n then 4 else 0)) (leBytes 4 0)
  winWr s2 o.client (o.ring + 8) (leBytes 4 0 ++ leBytes 4 0 ++ leBytes 8 0)

/-- A stream is removed; a playback stream fades out over 32 samples. -/
def leaveStream (s : State) (n : Nat) : State :=
  let x := streamOf s n
  wr (setStreamState (setStream s n { level := x.level, last := x.last }) n 0) (E.hs_HOLDER n) 0xFFFF

/-- A stream is closed for its client: the change of STATE is written to its header, with EVENT bit 5 (R332). -/
def closeStream (s : State) (n : Nat) : State :=
  let s1 := if rd s (E.hs_STATE n) = 0 then s else writeStreamHeader (setStreamState s n 0) n
  leaveStream s1 n

/-- STREAM_OPEN. -/
def streamOpenReq (s : State) (c : Nat) (t : Taken) : State :=
  let n := argOf t 2
  let a := argOf t 6
  let o : StreamOpen := { client := c, ring := argOf t 3, frames := argOf t 4, periods := argOf t 5, wide := bitOf a 0,
                          latency := fld a 8 8 }
  if 32 ≤ n ∨ fld a 1 7 ≠ 0 ∨ 65536 ≤ a then fail s c 4
  else if ¬ streamRight s c n then denied s c 0x05
  else if (streamOf s n).opened.isSome ∧ ¬ streamHeldBy s c n then fail s c 0x0100
  else if (streamOf s n).opened.isSome then fail s c 5
  else withDomain s c 12 (
    if ¬ lanesOk (rd s) n ∨ domState s (streamDomain s n) = 0 then fail s c 0x0101
    else if o.ring % 64 ≠ 0 ∨ o.frames < 16 ∨ 4800 < o.frames ∨ o.periods < 2 ∨ 64 < o.periods ∨ o.latency = 0 ∨
        o.periods ≤ o.latency then fail s c 0x0102
    else if ¬ inWindow s c o.ring (64 + o.periods * o.frames * rd s (E.hs_LANES n) * sampleBytes o) then deniedAddr s c
    else enterStream (ok s c []) n o)

/-- STREAM_CLOSE. -/
def streamCloseReq (s : State) (c : Nat) (t : Taken) : State :=
  let n := argOf t 2
  if 32 ≤ n then fail s c 4
  else if ¬ streamRight s c n then denied s c 0x05
  else if streamHeldBy s c n then ok (closeStream s n) c []
  else if (streamOf s n).opened.isSome then fail s c 0x0100
  else fail s c 4

/-- STREAM_QUERY: READ is the consumer's index, which the host writes for capture. -/
def streamQueryReq (s : State) (c : Nat) (t : Taken) : State :=
  let n := argOf t 2
  if 32 ≤ n then fail s c 4
  else if ¬ streamRight s c n then denied s c 0x05
  else
    let x := streamOf s n
    let read := if isPlayback s n then x.index else match x.opened with | some o => winWord s o.client (o.ring + 4) | none => 0
    ok s c [rd s (E.hs_STATE n), read, rd s (E.hs_STARVATIONS n)]

/-- A client's streams are closed (R31). -/
def dropStreams (s : State) (c : Nat) : State :=
  (List.range 32).foldl (fun t n => if streamHeldBy t c n then leaveStream t n else t) s

/-! ### Meanings -/

/-- AUDIO_SAMPLE_TICK. -/
def execAudioSampleTick (d : ADomain) (pdm : List Int) (s : State) : Host.Outcome State Fault Refusal :=
  .next (sampleTick s d.val pdm)
/-- BUS_SILENCE_HOLD_EXPIRY. -/
def execBusSilenceHoldExpiry (b : Bus) (s : State) : Host.Outcome State Fault Refusal := .next (silenceExpiry s b.val)
/-- APPLY (0xF001). -/
def execAudioApply (n : Fin 2) (s : State) : Host.Outcome State Fault Refusal := .next (audioApply s n.val)
/-- STREAM (0xF002): a stream that firmware has checked. ARG2 is the stream, ARG3 the client or 0xFFFF to remove it, ARG4 to
ARG7 as STREAM_OPEN's ARG3 to ARG6. -/
def execAudioIclStream (n : Fin 2) (s : State) : Host.Outcome State Fault Refusal :=
  .next (iclServe s n.val 0xF002 (fun _ => true) (fun t =>
    let k := argOf t 2
    if 32 ≤ k then (s, { code := 4 })
    else if argOf t 3 = 0xFFFF then (closeStream s k, {})
    else (enterStream s k { client := argOf t 3 % 4096, ring := argOf t 4, frames := argOf t 5, periods := argOf t 6,
                            wide := bitOf (argOf t 7) 0, latency := fld (argOf t 7) 8 8 }, {})))
/-- TDM_FRAME_SYNC. -/
def execTdmFrameSync (n : Tdm) (samples pdm : List Int) (s : State) : Host.Outcome State Fault Refusal :=
  .next (tdmFrameSync s n.val samples pdm)
/-- TDM_FRAME_MISSING. -/
def execTdmFrameMissing (n : Tdm) (s : State) : Host.Outcome State Fault Refusal := .next (tdmFrameMissing s n.val)
/-- REF_PHASE_MATCH. -/
def execRefPhaseMatch (d : ADomain) (slip : Bool) (s : State) : Host.Outcome State Fault Refusal :=
  .next (refPhaseMatch s d.val slip)
/-- ASRC_LOCKED. -/
def execAsrcLocked (k : Asrc) (ratio : Nat) (s : State) : Host.Outcome State Fault Refusal :=
  .next (asrcLocked s k.val ratio)
/-- STREAM_OPEN (0x5001). -/
def execStreamOpen (c : Client) (s : State) : Host.Outcome State Fault Refusal :=
  .next (serve s c.val 0x5001 (· == 5) (fun t => streamOpenReq s c.val t))
/-- STREAM_CLOSE (0x5002). -/
def execStreamClose (c : Client) (s : State) : Host.Outcome State Fault Refusal :=
  .next (serve s c.val 0x5002 (· == 1) (fun t => streamCloseReq s c.val t))
/-- STREAM_QUERY (0x5003). -/
def execStreamQuery (c : Client) (s : State) : Host.Outcome State Fault Refusal :=
  .next (serve s c.val 0x5003 (· == 1) (fun t => streamQueryReq s c.val t))
/-- STREAM_PERIOD_BOUNDARY. -/
def execStreamPeriodBoundary (n : Stream) (s : State) : Host.Outcome State Fault Refusal := .next (streamBoundary s n.val)
/-- AUD_MCLKB_CLOCK_CHANGE. -/
def execAudMclkbClockChange (on : Bool) (s : State) : Host.Outcome State Fault Refusal := .next (mclkbChange s on)

end Sys2Proof.Machine
end

