-- ==== Sys2Proof/Machine/Alarm.lean ====
section
/-! DEFINITION. Alarm states and the process-data source (R94, R95, R105, R108, R109): the ALARM_SAFE action and the acceptance
of outputs; EtherCAT and NMT states as the other chapters change them. -/

namespace Sys2Proof.Machine

/-- PD_SOURCE. -/
def pdSource (s : State) : Nat := rd s E.comm_PD_SOURCE

/-- The process-data source is in OP or NMT operational. -/
def pdOperational (s : State) : Bool :=
  if pdSource s = 0 then s.field.al == 8 else (canOf s (pdSource s - 1)).nmt == 5

/-- The ALARM_SAFE action (R109): the states become unknown or are held, PD_STATUS[0] clears, EMCY 0x8780 is sent, and the
alarm sequence loses its reference. `why`: 0 left operation, 1 timeout, 2 source change. -/
def alarmSafe (s : State) (why : Nat) : State :=
  let s1 := if rd s E.comm_ALARM_SAFE = 1 then (List.range 8).foldl (fun t k => wr t (E.pdo_ALARM_STATE k) 0xFFFFFFFF) s else s
  let s2 := wrBit { s1 with field := { s1.field with seqRef := none, timedOut := s1.field.timedOut || why == 1 } } E.pdo_PD_STATUS 0 false
  lastingEmcy s2 0x8780 why (rd s2 E.comm_ALARM_REJECTS % 65536)

/-- The EtherCAT state changes: leaving OP as the source takes ALARM_SAFE; entering it makes the first output a reference for
the haptic toggles (R109, R110). -/
def setAl (s : State) (st status : Nat) : State :=
  let was := s.field.al
  let s1 := { s with field := { s.field with al := st, alStatus := status,
                                             trigRef := if st = 8 ∧ was ≠ 8 ∧ pdSource s = 0 then false else s.field.trigRef } }
  if was = 8 ∧ st ≠ 8 ∧ pdSource s = 0 then alarmSafe s1 0 else s1

/-- The NMT state of a node changes, likewise. -/
def setNmt (s : State) (n st : Nat) : State :=
  let x := canOf s n
  let mine := pdSource s = n + 1
  let s1 := setCan s n { x with nmt := st }
  let s2 := if st = 5 ∧ x.nmt ≠ 5 ∧ mine then { s1 with field := { s1.field with trigRef := false } } else s1
  if x.nmt = 5 ∧ st ≠ 5 ∧ mine then alarmSafe s2 0 else s2

/-- The communication objects that only the CAN FD nodes use: 0x1017 and the communication records of the PDOs (R103, R104).
DESIGN CHOICE: log 201. -/
def commKeys : List Nat :=
  E.pdoc_HEARTBEAT :: ([0x1400, 0x1401] ++ rangeFrom 0x1800 8).flatMap (fun i => [1, 2, 3, 5].map (dkey i))

/-- The values of 0x1FE0:02–06 for a controller come into force, its communication objects and state start anew, and an enabled node
sends its boot-up message on entering pre-operational (R95, R103). -/
def canStart (s : State) (n : Nat) : State :=
  let s0 := setNmt s n 0
  let s1 := commKeys.foldl (fun t k => wr t k (odDefault k)) { s0 with field := { s0.field with cobSet := [] } }
  let x := canOf s1 n
  let on := bitOf (rd s1 E.comm_CAN_ENABLE) n
  let y : CanNode := { x with enabled := on, nodeId := rd s1 (if n = 0 then E.comm_CAN0_NODE_ID else E.comm_CAN1_NODE_ID),
                              arbRate := rd s1 E.comm_CAN_ARB_RATE, dataRate := rd s1 E.comm_CAN_DATA_RATE, sent := [], held := [], syncs := 0,
                              nmt := if on then 127 else 0 }
  let s2 := setCan s1 n y
  if on then send s2 (.can n) [0x700 + y.nodeId] [0] else s2

/-- A nibble of an alarm word: 4 to 14 are stored as 15 (R108). -/
def alarmNibble (v : Nat) : Nat := if 4 ≤ v then 15 else v

/-- An alarm word as it is stored. -/
def alarmWord (v : Nat) : Nat := (List.range 8).foldl (fun a i => a + alarmNibble (fld v (4 * i) 4) * 16 ^ i) 0

/-- The alarm check of an output (R108): its words, ALARM_SEQ and ALARM_CRC. -/
def alarmChecks (s : State) (ws : List Nat) (seq crc : Nat) : Bool :=
  let ok := crc16 (leBytes 4 seq ++ ws.flatMap (leBytes 4)) == crc
  ok && (match s.field.seqRef with
    | none => true
    | some (r : Nat) =>
      (seq == r && crc == rd s E.pdo_ALARM_CRC) || (decide (0 < (seq + 65536 - r) % 65536) && decide ((seq + 65536 - r) % 65536 ≤ 32767)))

/-- An output's alarm states are accepted: they come into force, the sequence has its reference, and the stale condition
ends. DEDUCED: log 74. -/
def acceptAlarms (s : State) (ws : List Nat) (seq crc : Nat) : State :=
  let s1 := (List.range 8).foldl (fun t k => wr t (E.pdo_ALARM_STATE k) (alarmWord (at0 0 ws k))) s
  let s2 := wr (wr s1 E.pdo_ALARM_SEQ seq) E.pdo_ALARM_CRC crc
  let s3 := { s2 with field := { s2.field with seqRef := some seq, timedOut := false } }
  let s4 := wrBit (wrBit s3 E.pdo_PD_STATUS 0 true) E.pdo_PD_STATUS 1 false
  [0, 1, 2].foldl (fun t b => endLasting t 0x8780 b) s4

/-- The alarm states of an output taken (R108). -/
def takeAlarms (s : State) (ws : List Nat) (seq crc : Nat) : State :=
  if rd s E.comm_ALARM_CHECK = 1 ∧ ¬ alarmChecks s ws seq crc then
    wrBit (bump s E.comm_ALARM_REJECTS) E.pdo_PD_STATUS 1 true
  else acceptAlarms s ws seq crc

/-- PD_SOURCE changes (R95, R109). -/
def changeSource (s : State) : State :=
  alarmSafe { s with field := { s.field with trigRef := false } } 2

end Sys2Proof.Machine
end

