-- ==== Sys2Proof/Machine/Caches.lean ====
section
/-! DEFINITION. The control cores and TC (R13, R369–R372): their registers, their L1 caches, the L2 that CC0 to CC3 share and the world
that allocates in its ways, the gate's flush and scrub, and the memories on the chip. -/

namespace Sys2Proof.Machine

/-! ### Records -/

/-- A core: 0 to 3 are CC0 to CC3, 4 is TC. -/
def cpuOf (s : State) (k : Nat) : CpuRec := tget (fun _ => {}) s.control.cpus k
/-- The state with a core replaced. -/
def setCpu (s : State) (k : Nat) (c : CpuRec) : State :=
  { s with control := { s.control with cpus := tset (fun _ => {}) s.control.cpus k c } }
/-- A line of the L2 by 16 × set + way. -/
def l2Of (s : State) (key : Nat) : Option CacheLine := tget (fun _ => none) s.control.l2 key
/-- The state with a line of the L2 replaced. -/
def setL2 (s : State) (key : Nat) (c : Option CacheLine) : State :=
  { s with control := { s.control with l2 := tset (fun _ => none) s.control.l2 key c } }

/-- The 64 bytes with some replaced from an offset on. -/
def patch (old : List Byte) (off : Nat) (bs : List Byte) : List Byte := old.take off ++ bs ++ old.drop (off + bs.length)

/-! ### The L2 (R372) -/

/-- Sets of the L2: 4 MB in 16 ways of 64-byte lines. PRESUMED: log 219. -/
def l2Sets : Nat := 4096

/-- The ways in which a transaction of a world allocates: 14 and 15 for the trusted world, 0 to 13 for the open world. -/
def waysOf (trusted : Bool) : List Nat := if trusted then [14, 15] else List.range 14

/-- The ways in which a transaction of a world may hit: an open one never hits what a trusted one allocated. -/
def hitWays (trusted : Bool) : List Nat := if trusted then waysOf true ++ waysOf false else waysOf false

/-- Where a transaction of a world hits the L2. -/
def l2Hit (s : State) (trusted : Bool) (line : Nat) : Option Nat :=
  ((hitWays trusted).map (fun w => line % l2Sets * 16 + w)).find? (fun k =>
    match l2Of s k with | some c => c.line == line | none => false)

/-- A line newer than memory is written back. -/
def writeBack (s : State) (c : CacheLine) : State :=
  if c.dirty then memWrAll s ((List.range 64).map (fun i => (64 * c.line + i, c.bytes[i]?))) else s

/-- A transaction of a world allocates a line in one of its ways: a free one, or one that the manual does not name, whose line is written
back. -/
def l2Allocate (s : State) (trusted : Bool) (c : CacheLine) : State :=
  let keys := (waysOf trusted).map (fun w => c.line % l2Sets * 16 + w)
  match keys.find? (fun k => (l2Of s k).isNone) with
  | some k => setL2 s k (some { c with trusted := trusted })
  | none =>
    let k := at0 0 keys (freeVal s keys.length)
    let s1 := match l2Of s k with | some o => writeBack s o | none => s
    drawn (setL2 s1 k (some { c with trusted := trusted }))

/-! ### The L1 caches -/

/-- Lines of an L1 data or instruction cache: 64 KB. -/
def l1Lines : Nat := 1024

/-- A line that a core hits in an L1 cache; a line serves only the world that brought it in. -/
def l1Hit (l : List CacheLine) (trusted : Bool) (line : Nat) : Option CacheLine :=
  l.find? (fun c => c.line == line && c.trusted == trusted)

/-- A line that leaves an L1 data cache newer than the L2 goes to the L2 where its world hits there, else to memory. -/
def l1Evict (s : State) (k : Nat) (c : CacheLine) : State :=
  if ¬ c.dirty then s
  else match (if k < 4 then l2Hit s c.trusted c.line else none) with
    | some key => setL2 s key ((l2Of s key).map (fun o => { o with dirty := true, bytes := c.bytes }))
    | none => writeBack s c

/-- A core's L1 cache takes a line; which line a full cache gives up is not in the manual. -/
def l1Fill (s : State) (k : Nat) (fetch : Bool) (c : CacheLine) : State :=
  let r := cpuOf s k
  let old := (if fetch then r.l1i else r.l1d).filter (fun o => !(o.line == c.line && o.trusted == c.trusted))
  let n := freeVal s l1Lines
  let kept := if old.length < l1Lines then old else old.eraseIdx n
  let s1 := setCpu s k (if fetch then { r with l1i := c :: kept } else { r with l1d := c :: kept })
  if old.length < l1Lines then s1
  else drawn (match old[n]? with | some o => if fetch then s1 else l1Evict s1 k o | none => s1)

/-- L1 written back and invalidated, the data cache's lines oldest last (R370). -/
def flushL1 (s : State) (k : Nat) : State :=
  let r := cpuOf s k
  r.l1d.reverse.foldl (fun t c => l1Evict t k c) (setCpu s k { r with l1d := [], l1i := [] })

/-- The L2 is written back and emptied (R420). -/
def flushL2 (s : State) : State :=
  s.control.l2.foldl (fun t p => match p.2 with | some c => writeBack t c | none => t) { s with control := { s.control with l2 := [] } }

/-! ### A core's transactions -/

/-- Whether a core's transaction is trusted: TC's, and a control core's while its gate code runs (R367). -/
def coreTrusted (k : Nat) (gate : Bool) : Bool := gate || k == 4

/-- The bytes of a line that a core's read finds in its L1 or in the L2, with the state after it; `none` where it goes to memory. -/
def coreRead (s : State) (k : Nat) (gate fetch : Bool) (line : Nat) : Option (State × List Byte) :=
  let t := coreTrusted k gate
  let r := cpuOf s k
  match l1Hit (if fetch then r.l1i else r.l1d) t line with
  | some c => some (s, c.bytes)
  | none =>
    match (if k < 4 then (l2Hit s t line).bind (l2Of s) else none) with
    | some c => some (l1Fill s k fetch { line := line, trusted := t, bytes := c.bytes }, c.bytes)
    | none => none

/-- The state after a core's write within a line that it finds in its L1 data cache or in the L2; `none` where it goes to memory. -/
def coreWrite (s : State) (k : Nat) (gate : Bool) (line off : Nat) (bs : List Byte) : Option State :=
  let t := coreTrusted k gate
  let r := cpuOf s k
  let new := fun (c : CacheLine) => { c with dirty := true, bytes := patch c.bytes off bs }
  match l1Hit r.l1d t line with
  | some _ =>
    some (setCpu s k { r with l1d := r.l1d.map (fun c => if c.line == line && c.trusted == t then new c else c) })
  | none =>
    match (if k < 4 then l2Hit s t line else none) with
    | some key => some (setL2 s key ((l2Of s key).map new))
    | none => none

/-- A line that a core's read has brought from memory goes into the L2 and the core's L1. -/
def coreFill (s : State) (k : Nat) (gate fetch : Bool) (line : Nat) (bs : List Byte) : State :=
  let t := coreTrusted k gate
  let c : CacheLine := { line := line, trusted := t, bytes := bs }
  l1Fill (if k < 4 ∧ (l2Hit s t line).isNone then l2Allocate s t c else s) k fetch c

/-! ### The gate's registers (R369–R371) -/

/-- The CSRs that the trusted image locks on CC0 to CC3: the M-mode trap vector, the delegation registers and the PMP. -/
def lockedCsr (n : Nat) : Bool := n == 0x302 || n == 0x303 || n == 0x305 || (decide (0x3A0 ≤ n) && decide (n < 0x3F0))

/-- The trusted image sets and locks the M-mode registers of CC0 to CC3 (R369): the trap vector in locket SRAM, every trap but ECALL from
HS-mode delegated, and a PMP that the manual does not give. DEDUCED: log 220. -/
def lockControl (s : State) : State :=
  let vec := Sys2Proof.Config.locketSramBase + 4 * freeVal s (2 ^ 19)
  let pmp := [(0x3A0, 1), (0x3A2, 2)] ++ (List.range 16).map (fun i => (0x3B0 + i, 3 + i))
  let csrs := [(0x305, vec), (0x302, 2 ^ 64 - 1 - 2 ^ 9), (0x303, 2 ^ 64 - 1)] ++
    pmp.map (fun p => (p.1, Sys2Proof.Config.freeNat (s.free + p.2) % 2 ^ 64))
  let set := fun (t : Tbl Nat) => csrs.foldl (fun u p => tset (fun _ => 0) u p.1 p.2) t
  let s1 := (List.range 4).foldl (fun t k => setCpu t k { cpuOf t k with csr := set (cpuOf t k).csr }) s
  { s1 with free := s.free + 19, control := { s1.control with locked := true } }

/-- The return of the hardware alone while LKT does not run (R373): the status in a0, nothing flushed and nothing scrubbed. -/
def gateRefused (s : State) (k a0 : Nat) : State :=
  let r := cpuOf s k
  setCpu s k { r with x := tset (fun _ => 0) r.x 10 a0, pc := (r.pc + 4) % 2 ^ 64 }

/-- The return from a gate call that was served (R370): L1 written back and invalidated, every integer register but a0 and a1, every FP
register and fcsr zero. The CSRs stay (R371). DEDUCED: log 221. -/
def gateScrub (s : State) (k a0 a1 : Nat) : State :=
  let s1 := flushL1 s k
  let r := cpuOf s1 k
  let x := tset (fun _ => 0) (tset (fun _ => 0) [] 10 (a0 % 2 ^ 64)) 11 (a1 % 2 ^ 64)
  setCpu s1 k { r with x := x, f := [], fcsr := 0, pc := (r.pc + 4) % 2 ^ 64 }

/-- What the control cores lose with PD2 (R420): the L1 caches and then the L2 are written back, registers and caches are gone; what the
trusted image locked is set again when PD2 is up. DEDUCED: log 220. -/
def controlDown (s : State) : State :=
  let s1 := flushL2 ((List.range 4).foldl flushL1 s)
  (List.range 4).foldl (fun t k => setCpu t k { csr := (cpuOf t k).csr.filter (fun p => lockedCsr p.1) }) s1

/-- TC and its caches are reset (R383). -/
def resetTc (s : State) : State := setCpu s 4 {}

/-! ### The bus -/

/-- Where an address of the bus lies. -/
inductive BusPlace where
  | dram
  | sram (off : Nat)
  | locketSram (off : Nat)
  | rom (off : Nat)
  | nowhere
  deriving DecidableEq, Repr

/-- Where an access of `n` bytes lies: DRAM by physical address, the memories on the chip at places that the manual does not give.
DESIGN CHOICE: log 222. -/
def busPlace (s : State) (a n : Nat) : BusPlace :=
  let within := fun (base size : Nat) => decide (base ≤ a) && decide (a + n ≤ base + size)
  if a + n ≤ rd s E.mem_USABLE * 2 ^ 20 then .dram
  else if within Sys2Proof.Config.sramBase (2 ^ 23) then .sram (a - Sys2Proof.Config.sramBase)
  else if within Sys2Proof.Config.locketSramBase (2 ^ 21) then .locketSram (a - Sys2Proof.Config.locketSramBase)
  else if within Sys2Proof.Config.romBase Sys2Proof.Config.romBytes.length then .rom (a - Sys2Proof.Config.romBase)
  else .nowhere

/-- Whether an address is one that only trusted transactions reach (R368). -/
def busTrusted (s : State) (a n : Nat) : Bool :=
  match busPlace s a n with
  | .locketSram _ => true
  | .rom _ => true
  | .dram => decide (locketBase s < a + n)
  | _ => false

/-- A byte of a memory on the chip. DESIGN CHOICE: log 222. -/
def sramByte (t : Tbl (Option Byte)) (unwritten : Nat → Byte) (off : Nat) : Byte := (tget (fun _ => none) t off).getD (unwritten off)

/-- The bytes of an access, where it may be made; DRAM only while it is served. -/
def busBytes (s : State) (a n : Nat) : Option (List Byte) :=
  match busPlace s a n with
  | .dram => if rd s E.mem_MEM_STATE = 2 then some ((rangeFrom a n).map (memRd s)) else none
  | .sram o => some ((rangeFrom o n).map (sramByte s.control.sram Sys2Proof.Config.sramByte))
  | .locketSram o => some ((rangeFrom o n).map (sramByte s.control.locketSram Sys2Proof.Config.locketSramByte))
  | .rom o => some (slice Sys2Proof.Config.romBytes o n)
  | .nowhere => none

/-- The state after the bytes of an access have been written, where they may be. -/
def busStore (s : State) (a : Nat) (bs : List Byte) : Option State :=
  let put := fun (t : Tbl (Option Byte)) (o : Nat) =>
    (List.range bs.length).foldl (fun u i => tset (fun _ => none) u (o + i) (bs[i]?)) t
  match busPlace s a bs.length with
  | .dram =>
    if rd s E.mem_MEM_STATE = 2 then some (memWrAll s ((List.range bs.length).map (fun i => (a + i, bs[i]?)))) else none
  | .sram o => some { s with control := { s.control with sram := put s.control.sram o } }
  | .locketSram o => some { s with control := { s.control with locketSram := put s.control.locketSram o } }
  | _ => none

/-- A read of a world on the bus: an open one that reaches what is the trusted world's alone gets an error and a violation (R368). -/
def busRead (s : State) (trusted : Bool) (a n : Nat) : State × Option (List Byte) :=
  if busTrusted s a n ∧ ¬ trusted then (violate s 0x09 5 a none none, none) else (s, busBytes s a n)

/-- A write of a world on the bus, with whether it was made. -/
def busWrite (s : State) (trusted : Bool) (a : Nat) (bs : List Byte) : State × Bool :=
  if busTrusted s a bs.length ∧ ¬ trusted then (violate s 0x09 5 a none none, false)
  else match busStore s a bs with
    | some t => (t, true)
    | none => (s, false)

end Sys2Proof.Machine
end

