-- ==== Sys2Proof/Machine/Memory.lean ====
section
/-! DEFINITION. The LPDDR5X memory controller (R341–R366) and the arbiters before it (R44–R47): the physical address space and
where an address lies, queues and ordering, refresh, low-power states, errors and their log, training. -/

namespace Sys2Proof.Machine

/-! ### Entries that wait for a reset -/

/-- The value of an entry in force, where a committed change waits for a later instant. -/
def inForce (s : State) (k : Nat) : Nat := (tget (fun _ => none) s.dict.held k).getD (rd s k)

/-! ### The address space (R342, R343) -/

/-- The channels fitted (R342). -/
def fitted (s : State) : List Nat := bitsOf 8 (inForce s E.mem_CHANNEL_MASK)
/-- Ranks of a channel. -/
def rankCount (s : State) : Nat := inForce s E.mem_RANKS
/-- Bytes of one die of a density code: 8, 16 or 32 Gb. -/
def dieBytes (density : Nat) : Nat := 2 ^ 30 * 2 ^ density
/-- Installed bytes for a mask, ranks and a density: two x16 dies per rank (R341). -/
def installed (mask ranks density : Nat) : Nat := popCount 8 mask * ranks * 2 * dieBytes density
/-- Usable megabytes: seven eighths with inline ECC (R343). -/
def usableMb (mask ranks density ecc : Nat) : Nat :=
  let mb := installed mask ranks density / 2 ^ 20
  if ecc = 1 then mb * 7 / 8 else mb
/-- GUEST_POOL in pages of 64 KB (R344). -/
def poolPages (usable locketMb : Nat) : Nat := (usable - 1024 - locketMb) * 16
/-- The physical space is served (R362). -/
def memReady (s : State) : Bool := rd s E.mem_MEM_STATE == 2
/-- An address range lies in the installed space. -/
def physical (s : State) (a n : Nat) : Bool := decide (a + n ≤ rd s E.mem_USABLE * 2 ^ 20)
/-- An address range touches the locket region. -/
def inLocket (s : State) (a n : Nat) : Bool := decide (locketBase s < a + n)

/-- The channel of an address and its channel address (R345). -/
def channelOf (s : State) (a : Nat) : Nat × Nat :=
  let f := fitted s
  let n := f.length
  let g := 2 ^ inForce s E.mem_GRAIN
  (at0 0 f (a / g % n), a / (g * n) * g + a % g)

/-- Where a channel address lies: rank, bank field, row and 64-byte block of the row (R346, R347). -/
def place (s : State) (ca : Nat) : Nat × Nat × Nat × Nat :=
  let ecc := inForce s E.mem_INLINE_ECC
  let b := ca / 64
  let (hi, col) := if ecc = 1 then (b / 56, b % 56) else (ca / 4096, b % 64)
  let two := rankCount s = 2
  let rows := dieBytes (inForce s E.mem_DENSITY) * 2 / 4096 / 16
  let order := inForce s E.mem_MAP_ORDER
  if order = 2 then (hi / (rows * 16), hi / rows % 16, hi % rows, col)
  else
    let rank := if two then hi / 16 % 2 else 0
    let row := if two then hi / 32 else hi / 16
    let bank := if order = 0 then Nat.xor (hi % 16) (row % 16) else hi % 16
    (rank, bank, row, col)

/-! ### Leaves (R44, R45) -/

/-- The class of a leaf: 0 DISP, 1 RT, 2 BULK, 3 SYS (R44). -/
def leafClass : Leaf → Nat
  | .client _ => 2
  | .host _ => 2
  | .head _ => 0
  | .camera _ => 1
  | .audio _ => 1
  | .touch => 1
  | .firmware => 3
  | .locket => 3
  | .scrub => 3

/-- The guest whose leaf a leaf is. -/
def leafGuest (s : State) : Leaf → Option Nat
  | .client c => guestOf s c.val
  | .host g => some g.val
  | _ => none

/-- The number of a leaf among its guest's, and of a non-client leaf among the branches of its class above the guests. -/
def leafNum : Leaf → Nat
  | .client c => c.val
  | .host _ => 4096
  | .head h => 64 + h.val
  | .camera r => 80 + r.val
  | .audio n => 88 + n.val
  | .touch => 90
  | .firmware => 91
  | .locket => 92
  | .scrub => 93

/-- The code of a leaf's unit in the error log (R361). DEDUCED: log 136. -/
def leafUnit : Leaf → Nat
  | .client _ => 1
  | .host _ => 0
  | .head _ => 2
  | .camera _ => 3
  | .audio _ => 4
  | .touch => 5
  | .firmware => 6
  | .locket => 7
  | .scrub => 9

/-- The client of a leaf. -/
def leafClient : Leaf → Option Nat
  | .client c => some c.val
  | _ => none

/-- The branch of level 2 that a leaf belongs to. -/
def branchOf (s : State) (l : Leaf) : Nat := (leafGuest s l).getD (leafNum l)

/-- The transactions of a channel that wait in its level-1 queue: their leaves are active until level 3 grants them (R45).
DESIGN CHOICE: log 190. -/
def levelOne (s : State) (ch : Nat) : List DramTx := s.memc.txs.filter (fun t => t.chan == ch && decide (t.stage < 3))

/-- The transactions of a channel between its level-3 arbiter and the DRAM. -/
def queued (s : State) (ch : Nat) : List DramTx := s.memc.txs.filter (fun t => t.chan == ch && t.stage == 3)

/-- The distinct active leaves of a list of transactions. -/
def leavesOf (l : List DramTx) : List Leaf :=
  l.foldl (fun a t => if a.contains t.leaf then a else a ++ [t.leaf]) []

/-- ACTIVE_LEAVES of every guest follows (R43). -/
def settleLeaves (s : State) : State :=
  let ls := leavesOf (s.memc.txs.filter (fun t => decide (t.stage < 3)))
  (List.range 64).foldl (fun t g =>
    wr t (E.guest_ACTIVE_LEAVES g) (ls.filter (fun l => leafGuest s l == some g)).length) s

/-! ### Channels -/

/-- A channel of the controller. -/
def chanOf (s : State) (ch : Nat) : ChanRec := tget (fun _ => {}) s.memc.chans ch
/-- The state with a channel replaced. -/
def setChan (s : State) (ch : Nat) (c : ChanRec) : State :=
  { s with memc := { s.memc with chans := tset (fun _ => {}) s.memc.chans ch c } }
/-- A rank of a channel. -/
def rankOf (c : ChanRec) (r : Nat) : RankRec := tget (fun _ => {}) c.ranks r
/-- The channel with a rank replaced. -/
def setRank (c : ChanRec) (r : Nat) (k : RankRec) : ChanRec := { c with ranks := tset (fun _ => {}) c.ranks r k }
/-- STATE of a channel (R365). -/
def chanState (s : State) (ch : Nat) : Nat := rd s (E.chan_STATE ch)
/-- A channel serves requests: active or in power-down. -/
def chanActive (s : State) (ch : Nat) : Bool := chanState s ch == 2 || chanState s ch == 3
/-- The always-on time in ns. -/
def nowNs (s : State) : Nat := s.time * 40

/-- The lowest TOLERANCE of the enabled heads, in µs (R212). -/
def lowestTolerance (s : State) : Nat :=
  (List.range 16).foldl (fun m h => if hState s h = 0 then m else min m (rd s (E.head_TOLERANCE h))) 65535

/-- STATE follows the ranks: 3 while every rank is in power-down (R357). DESIGN CHOICE: log 132. -/
def settleDown (s : State) (ch : Nat) : State :=
  if chanActive s ch then
    wr s (E.chan_STATE ch) (if (List.range (rankCount s)).all (fun r => (rankOf (chanOf s ch) r).down) then 3 else 2)
  else s

/-- A request for a rank ends its power-down. -/
def rouse (s : State) (ch r : Nat) : State :=
  let c := chanOf s ch
  if (rankOf c r).down then settleDown (setChan s ch (setRank c r { rankOf c r with down := false })) ch else s

/-! ### Requests (R34, R343, R348, R352) -/

/-- The physical address that a request names, or the violation that refuses it (kind, path). A client's address is one of
its window, a guest's own that of its BAR4 (R33, R34); a table walk names the open-world region. The locket region answers the locket
and the cameo fetch alone, and the controller's own scrub reads it too (R343, R359). DEDUCED: log 139. DEDUCED: log 141. DEDUCED: log 180. -/
def resolveReq (s : State) (r : DramReq) (write : Bool) : Option Nat × Nat × Nat :=
  let physical := if inLocket s r.addr r.len then (none, 0x09, 5) else (some r.addr, 0, 0)
  match r.leaf, r.why with
  | _, .walk _ _ => physical
  | _, .core k gate _ => if coreTrusted k.val gate then (some r.addr, 0, 0) else physical
  | .client c, _ =>
    if inWindow s c.val r.addr r.len then
      (match winAddr s c.val r.addr with | some p => (some p, 0, 0) | none => (none, 0x04, 3))
    else (none, 0x04, 3)
  | .host g, _ =>
    if rd s (E.guest_CARVE_PAGES g.val) * pageSize < r.addr + r.len then (none, 0x03, 2)
    else match translate s g.val r.addr with
      | none => (none, 0x01, 2)
      | some p => if bitOf (pageRights s g.val (r.addr / pageSize)) (b2n write) then (some p, 0, 0) else (none, 0x02, 2)
  | .head _, .cameo => (some r.addr, 0, 0)
  | .locket, _ => (some r.addr, 0, 0)
  | .scrub, _ => (some r.addr, 0, 0)
  | _, _ => physical

/-- The context that a client's request is made for is faulted (R37, R360). -/
def faultWhy (s : State) (leaf : Leaf) (why : DramWhy) (kind : Nat) : State :=
  match leafClient leaf, why with
  | some c, .ctx .render => faultRender s c kind 0 0 0 0 0
  | some c, .ctx .compute => faultCompute s c kind
  | some c, .walk (some .render) _ => faultRender s c kind 0 0 0 0 0
  | some c, .walk (some .compute) _ => faultCompute s c kind
  | _, _ => s

/-- The address of a refused request as the ring logs it: for a client the carve-out offset (R39). -/
def reqAddr (s : State) (r : DramReq) : Nat :=
  match leafClient r.leaf with
  | some c => charmBase s c * pageSize + r.addr
  | none => r.addr

/-- The answer to a refused request (R37): a read of a client returns zeros and its context is faulted, a read of BAR4 returns 0xFF,
a write of either is discarded; firmware and every other requester gets an error response. -/
def refuseReq (s : State) (r : DramReq) (write : Bool) (kind path : Nat) : State :=
  let s1 := faultWhy (violate s kind path (reqAddr s r) (leafClient r.leaf) (leafGuest s r.leaf)) r.leaf r.why 1
  match r.leaf with
  | .client _ => if write then s1 else send s1 .fabric [0] (List.replicate r.len 0)
  | .host _ => if write then s1 else send s1 .fabric [0] (List.replicate r.len 0xFF)
  | _ => send s1 .fabric [1] []

/-- The pieces of an access by 64-byte block: address, offset in the access, length. -/
def blocks64 (a n : Nat) : List (Nat × Nat × Nat) :=
  (List.range (n / 64 + 2)).filterMap (fun i =>
    let lo := max a ((a / 64 + i) * 64)
    let hi := min (a + n) ((a / 64 + i + 1) * 64)
    if lo < hi then some (lo, lo - a, hi - lo) else none)

/-- Transactions a client has in flight at a channel. -/
def inFlight (s : State) (c ch : Nat) : Nat :=
  (s.memc.txs.filter (fun t => leafClient t.leaf == some c && t.chan == ch)).length

/-- Whether TXMAX lets a leaf's next request into level 1 of a channel (R25, R348). -/
def txRoom (s : State) (l : Leaf) (ch : Nat) : Bool :=
  match leafClient l with
  | none => true
  | some c => charmTxMax s c == 0 || decide (inFlight s c ch < charmTxMax s c)

/-- The waiting writes of the block of an address. -/
def blockWrites (s : State) (a : Nat) : List Nat :=
  (s.memc.txs.filter (fun t => t.write && t.addr / 64 == a / 64)).map (·.id)

/-- One block of a request enters its channel's level-1 queue. A read of a block with a waiting write waits for it and
promotes it (R352). DEDUCED: log 128. -/
def enterTx (s : State) (l : Leaf) (why : DramWhy) (a n : Nat) (data : Option (List Byte)) : State :=
  let (ch, ca) := channelOf s a
  let w := if data.isSome then [] else blockWrites s a
  let t : DramTx := { id := s.memc.nextId, chan := ch, leaf := l, why := why, addr := a, len := n, write := data.isSome,
                      data := (data.getD []).map some, at_ := s.time, waits := w }
  let txs := s.memc.txs.map (fun x => if w.contains x.id then { x with promoted := true } else x)
  let s1 := { s with memc := { s.memc with txs := txs ++ [t], nextId := s.memc.nextId + 1 } }
  let s2 := rouse s1 ch (place s ca).1
  if w = [] then s2 else bump s2 (E.chan_RAW_WAITS ch)

/-- A request's blocks with the physical address or the refusal of each. -/
def resolveBlocks (s : State) (r : DramReq) (write : Bool) : List ((Nat × Nat × Nat) × (Option Nat × Nat × Nat)) :=
  (blocks64 r.addr r.len).map (fun b => (b, resolveReq s { r with addr := b.1, len := b.2.2 } write))

/-- The blocks of a request enter the queues or are refused. -/
def dramEnter (s : State) (r : DramReq) (data : Option (List Byte)) : State :=
  let bs := resolveBlocks s r data.isSome
  let s1 := bs.foldl (fun t b =>
    match b.2.1 with
    | some p => enterTx t r.leaf r.why p b.1.2.2 (data.map (fun d => slice d b.1.2.1 b.1.2.2))
    | none => refuseReq t { r with addr := b.1.1, len := b.1.2.2 } data.isSome b.2.2.1 b.2.2.2) s
  settleLeaves (if data.isSome ∧ bs.any (fun b => b.2.1.isSome) then send s1 .fabric [2] [] else s1)

/-- A request of a leaf: not served while the space is not, or while TXMAX does not let it in; refused, entered, or at an
address that is not there. -/
def dramRequest (s : State) (r : DramReq) (data : Option (List Byte)) : Host.Outcome State Fault Refusal :=
  let ps := (resolveBlocks s r data.isSome).filterMap (fun b => b.2.1.map (fun p => (p, b.1.2.2)))
  if ¬ memReady s then .next s
  else if ps.any (fun p => !physical s p.1 p.2) then .fault .noSuchPhysicalAddress
  else if ps.any (fun p => !txRoom s r.leaf (channelOf s p.1).1) then .next s
  else .next (dramEnter s r data)

/-- A block of a core's read that its caches hold is answered; the state after it, or `none` where the block goes to memory. -/
def cacheBlock (s : State) (k : Nat) (gate fetch : Bool) (data : Option (List Byte)) (b : Nat × Nat × Nat) : Option State :=
  match data with
  | some d => (coreWrite s k gate (b.1 / 64) (b.1 % 64) (slice d b.2.1 b.2.2)).map (fun t => send t .fabric [2] [])
  | none => (coreRead s k gate fetch (b.1 / 64)).map (fun r => send r.1 .fabric [0] (slice r.2 (b.1 % 64) b.2.2))

/-- A request of a core: the blocks that its caches hold are served there; a read of another brings its whole line from memory. It is not
made while the core has no power or debug holds it. DESIGN CHOICE: log 219. -/
def coreRequest (s : State) (k : Nat) (gate fetch : Bool) (r : DramReq) (data : Option (List Byte)) :
    Host.Outcome State Fault Refusal :=
  let leaf : Leaf := if k = 4 then .locket else .firmware
  if (k < 4 ∧ ¬ pdOn s 2) ∨ s.locket.halted.contains k ∨ (fetch ∧ data.isSome) then .next s
  else
    (blocks64 r.addr r.len).foldl (fun o b => match o with
      | .next t =>
        (match cacheBlock t k gate fetch data b with
          | some u => .next u
          | none =>
            if data.isSome then dramRequest t { r with leaf := leaf, addr := b.1, len := b.2.2 } (data.map (fun d => slice d b.2.1 b.2.2))
            else dramRequest t { r with leaf := leaf, addr := b.1 / 64 * 64, len := 64 } none)
      | e => e) (.next s)

/-- A DRAM request, through the caches where a core makes it. -/
def memRequest (s : State) (r : DramReq) (data : Option (List Byte)) : Host.Outcome State Fault Refusal :=
  match r.why with
  | .core k gate fetch => coreRequest s k.val gate fetch r data
  | _ => dramRequest s r data

/-! ### Arbiters (R46, R47, R349) -/

/-- An arbiter's record. -/
def arbOf (s : State) (k : Nat) : ArbRec := tget (fun _ => {}) s.ten.arb k
/-- The state with an arbiter's record replaced. -/
def setArb (s : State) (k : Nat) (a : ArbRec) : State :=
  { s with ten := { s.ten with arb := tset (fun _ => {}) s.ten.arb k a } }

/-- The key of an arbiter. -/
def arbKey : Arbiter → Nat
  | .clients ch g => ch.val * 64 + g.val
  | .guests ch cls => 0x10000 + ch.val * 4 + cls.val
  | .classes ch => 0x20000 + ch.val

/-- The branch with the largest credit, ties to the first at or after the pointer in cyclic order. -/
def largest (credit : Nat → Int) (ptr : Nat) (bs : List Nat) : Option Nat :=
  let turn := fun b => if ptr ≤ b then b - ptr else b + 100000 - ptr
  bs.foldl (fun best b => match best with
    | none => some b
    | some x =>
      if credit x < credit b ∨ (credit x = credit b ∧ turn b < turn x) then some b else some x) none

/-- One decision of R46 among branches (number, weight), of which some are eligible: the branch picked and the record after
it. A branch without weight loses its credit. -/
def decide46 (a : ArbRec) (branches : List (Nat × Nat)) (eligible : List Nat) : Option Nat × ArbRec :=
  let el := branches.filter (fun b => eligible.contains b.1)
  let kept := tclear (fun k => !branches.any (fun b => b.1 == k)) a.credit
  let credit := el.foldl (fun t b => tset (fun _ => 0) t b.1 (tget (fun _ => 0) t b.1 + (b.2 : Int))) kept
  match largest (tget (fun _ => 0) credit) a.pointer (el.map (·.1)) with
  | none => (none, { a with credit := kept })
  | some p =>
    let sum := el.foldl (fun n b => n + (b.2 : Int)) 0
    (some p, { credit := tset (fun _ => 0) credit p (tget (fun _ => 0) credit p - sum), pointer := p + 1 })

/-- The numbers of a list without repeats, in rising order. -/
def distinct (l : List Nat) : List Nat := l.foldr (fun x a => if a.contains x then a else x :: a) []

/-- Whether a branch of an arbiter of a channel has weight: an active leaf beneath it. -/
def hasWeight (s : State) (key b : Nat) : Bool :=
  if key < 0x10000 then (levelOne s (key / 64)).any (fun t => leafGuest s t.leaf == some (key % 64) && leafNum t.leaf == b)
  else if key < 0x20000 then
    (levelOne s ((key - 0x10000) / 4)).any (fun t => leafClass t.leaf == key % 4 && branchOf s t.leaf == b)
  else (levelOne s (key - 0x20000)).any (fun t => leafClass t.leaf == b)

/-- A branch whose weight falls to 0 has its credit set to 0 (R46). -/
def settleCredits (s : State) : State :=
  { s with ten := { s.ten with arb := s.ten.arb.map (fun p => (p.1, { p.2 with credit := tclear (fun b => !hasWeight s p.1 b) p.2.credit })) } }

/-- Transactions with the one numbered `id` moved to a stage. -/
def setStage (s : State) (id st : Nat) : State :=
  { s with memc := { s.memc with txs := s.memc.txs.map (fun t => if t.id = id then { t with stage := st } else t) } }

/-- Level 1: plain round robin among the guest's leaves; a promoted write goes ahead (R46, R352). -/
def decideClients (s : State) (ch g : Nat) : State :=
  let q := (levelOne s ch).filter (fun t => leafGuest s t.leaf == some g && t.stage != 2)
  match q.find? (fun t => t.promoted && t.stage == 0) with
  | some t => setStage (q.foldl (fun u x => setStage u x.id 0) s) t.id 1
  | none =>
    if q.any (fun t => t.stage == 1) then s
    else
      let active := distinct (((levelOne s ch).filter (fun t => leafGuest s t.leaf == some g)).map (fun t => leafNum t.leaf))
      let r := decide46 (arbOf s (ch * 64 + g)) (active.map (fun b => (b, 1))) (distinct (q.map (fun t => leafNum t.leaf)))
      let s1 := setArb s (ch * 64 + g) r.2
      match r.1.bind (fun b => q.find? (fun t => leafNum t.leaf == b)) with
      | some t => setStage s1 t.id 1
      | none => s1

/-- A transaction can be picked at level 2: its guest's level-1 arbiter has picked it, or it has none. -/
def atLevelTwo (s : State) (t : DramTx) : Bool := t.stage == 1 || (t.stage == 0 && (leafGuest s t.leaf).isNone)

/-- BULK grants a guest may have in a window of a channel (R47). DEDUCED: log 137. -/
def budgetOf (s : State) (ch g : Nat) : Nat := tget (fun _ => 256) s.ten.budget (ch * 64 + g) * 16

/-- A guest has reached its cap in the window. -/
def capped (s : State) (ch g : Nat) : Bool :=
  decide (budgetOf s ch g ≤ tget (fun _ => 0) s.ten.grants (ch * 64 + g))

/-- Level 2: branches weighted by their active leaves, budgets in BULK (R46, R47). A channel's window of 4,096 BULK grants
must have been ended before the next BULK grant. A promoted write passes the request that waits for level 3 (R352). -/
def decideGuests (s : State) (ch cls : Nat) : State :=
  let l1 := (levelOne s ch).filter (fun t => leafClass t.leaf == cls)
  let promoted := l1.find? (fun t => t.promoted && atLevelTwo s t)
  if l1.any (fun t => t.stage == 2 && (promoted.isNone || t.promoted)) ∨
      (cls = 2 ∧ 4096 ≤ tget (fun _ => 0) s.ten.window ch) then s
  else
    let key := 0x10000 + ch * 4 + cls
    let bs := distinct (l1.map (fun t => branchOf s t.leaf))
    let weighted := bs.map (fun b => (b, (leavesOf (l1.filter (fun t => branchOf s t.leaf == b))).length))
    let waiting := distinct ((l1.filter (atLevelTwo s)).map (fun t => branchOf s t.leaf))
    let free := waiting.filter (fun b => cls != 2 || decide (64 ≤ b) || !capped s ch b)
    let el := if free = [] then waiting.filter (fun b => rd s (E.guest_BUDGET_HARD b) == 0) else free
    let r := match promoted with
      | some t => (some (branchOf s t.leaf), arbOf s key)
      | none => decide46 (arbOf s key) weighted el
    match r.1 with
    | none => setArb s key r.2
    | some b =>
      let pick := match promoted with
        | some t => some t
        | none => l1.find? (fun t => atLevelTwo s t && branchOf s t.leaf == b)
      match pick with
      | none => s
      | some t =>
        let s1 := setStage (setArb s key r.2) t.id 2
        if cls = 2 then
          let ten := s1.ten
          { s1 with ten := { ten with
              grants := if b < 64 then tset (fun _ => 0) ten.grants (ch * 64 + b)
                                        (tget (fun _ => 0) ten.grants (ch * 64 + b) + 1) else ten.grants,
              window := tset (fun _ => 0) ten.window ch (tget (fun _ => 0) ten.window ch + 1) } }
        else s1

/-- The DISP credit of a channel: one more every 8 ns up to 64 (R349). DEDUCED: log 129. -/
def dispCredit (s : State) (c : ChanRec) : Nat := min 64 (c.credit + 5 * (s.time - c.creditAt))

/-- Whether the queues below level 3 have room for a transaction of a class (R348). -/
def slotFree (q : List DramTx) (write : Bool) (cls : Nat) : Bool :=
  let n := fun k => (q.filter (fun t => t.write == write && (if k = 1 then leafClass t.leaf == 1 || leafClass t.leaf == 3
                                                             else leafClass t.leaf == k))).length
  let d := n 0 + b2n (cls == 0)
  let r := n 1 + b2n (cls == 1 || cls == 3)
  let b := n 2 + b2n (cls == 2)
  if write then decide (b + d + (r - 8) ≤ 24) else decide (b + (d - 16) + (r - 8) ≤ 72)

/-- Level 3: DISP from its credit or while a head's data runs out, then a promoted write, then R46 among the classes
(R349, R352, R363). DEDUCED: log 129. -/
def decideClasses (s : State) (ch : Nat) : State :=
  let l1 := levelOne s ch
  let picks := l1.filter (fun t => t.stage == 2 && slotFree (queued s ch) t.write (leafClass t.leaf))
  let c := chanOf s ch
  let credit := dispCredit s c
  let disp := picks.find? (fun t => leafClass t.leaf == 0)
  let first := if 0 < credit ∨ lowestTolerance s < 20 then disp else none
  let key := 0x20000 + ch
  let r := match first, picks.find? (·.promoted) with
    | some t, _ => (some t, arbOf s key)
    | none, some t => (some t, arbOf s key)
    | none, none =>
      let weighted : List (Nat × Nat) := ([0, 1, 2, 3].map (fun (k : Nat) =>
        (k, (leavesOf (l1.filter (fun (t : DramTx) => leafClass t.leaf == k))).length))).filter (fun b => b.2 != 0)
      let v := decide46 (arbOf s key) weighted (distinct (picks.map (fun (t : DramTx) => leafClass t.leaf)))
      (v.1.bind (fun (k : Nat) => picks.find? (fun (t : DramTx) => leafClass t.leaf == k)), v.2)
  let s1 := setArb s key r.2
  match r.1 with
  | none => s1
  | some t =>
    let c1 := if leafClass t.leaf = 0 then { c with credit := credit - 1, creditAt := s.time } else c
    settleLeaves (settleCredits (setStage (setChan s1 ch c1) t.id 3))

/-- BUDGET_WINDOW_END: the grant counts of a channel restart, under the BUDGET values now live (R47). -/
def windowEnd (s : State) (ch : Nat) : State :=
  if tget (fun _ => 0) s.ten.window ch < 4096 then s
  else
    let ten := s.ten
    { s with ten := { ten with
        window := tset (fun _ => 0) ten.window ch 0,
        grants := tclear (fun k => k / 64 == ch) ten.grants,
        budget := (List.range 64).foldl (fun t g => tset (fun _ => 256) t (ch * 64 + g) (rd s (E.guest_BUDGET g))) ten.budget } }

/-! ### Errors (R359–R361) -/

/-- An entry of the memory error log (R361). -/
def memLogEntry (s : State) (t : DramTx) (kind syndrome : Nat) : Nat :=
  let (ch, ca) := channelOf s t.addr
  let (rank, bank, row, col) := place s ca
  s.time % 2 ^ 64 +
  2 ^ 64 * (ch % 8 + 8 * (rank % 2) + 16 * (bank % 16) + 256 * (row % 2 ^ 18) + 2 ^ 26 * (col % 64)) +
  2 ^ 96 * (syndrome % 65536 + 2 ^ 16 * kind + 2 ^ 24 * leafClass t.leaf + 2 ^ 26 * b2n t.write) +
  2 ^ 128 * ((leafClient t.leaf).getD 0 + 2 ^ 12 * b2n (leafClient t.leaf).isSome +
    2 ^ 13 * b2n (leafGuest s t.leaf).isSome + 2 ^ 14 * (leafGuest s t.leaf).getD 0 + 2 ^ 24 * leafUnit t.leaf) +
  2 ^ 160 * (t.addr / 64 % 2 ^ 30)

/-- An error enters the memory error log. -/
def memLog (s : State) (t : DramTx) (kind syndrome : Nat) : State :=
  let n := rd s E.memlog_NEXT_SLOT
  let s1 := ringEnter s 0x5002 32 s.memc.read (memLogEntry s t kind syndrome)
  { s1 with memc := { s1.memc with read := s1.memc.read.filter (· != n) } }

/-- A corrected error is counted, and raised at most once per second per channel (R359, R366). -/
def memCorrected (s : State) (t : DramTx) (key : Nat) : State :=
  let s1 := bump s key
  let c := chanOf s1 t.chan
  let due := match c.corrAt with | none => true | some a => decide (a + secCounts ≤ s.time)
  if due then raise (setChan s1 t.chan { c with corrAt := some s.time }) .memCorrected [t.chan] else s1

/-- An uncorrectable error: log, counter, EMCY 0x5020 and event (R359). -/
def memUncorrected (s : State) (t : DramTx) (kind syndrome : Nat) : State :=
  let row := (place s (channelOf s t.addr).2).2.2.1
  raise (emcy (bump (memLog s t kind syndrome) (E.chan_UNCORRECTED t.chan)) 0x5020 t.chan row)
    .memUncorrectable [t.chan, row]

/-- A transaction leaves the controller; reads no longer wait for it. -/
def retireTx (s : State) (id : Nat) : State :=
  { s with memc := { s.memc with
      txs := (s.memc.txs.filter (fun t => t.id != id)).map (fun t => { t with waits := t.waits.filter (· != id) }) } }

/-- A camera's write that was discarded makes its frame incomplete (R360). -/
def loseCameraLine (s : State) (l : Leaf) : State :=
  match l with
  | .camera r =>
    let x := rxOf s r.val
    (match x.frame with
      | some f => setRx s r.val { x with frame := some { f with ok := false } }
      | none => s)
  | _ => s

/-- A head's fetch that failed: the data is missing from the line it was fetched for, which underruns (R211, R360). -/
def loseFetch (s : State) (l : Leaf) (why : DramWhy) : State :=
  match l, why with
  | .head h, .facet f => setHead s h.val { headOf s h.val with lostFacets := f.val :: (headOf s h.val).lostFacets }
  | .head h, .cameo => setHead s h.val { headOf s h.val with lostCameo := true }
  | _, _ => s

/-- The error response to a read (R360): a BAR4 read completes with 0xFF; a table walk's error answers its access as one to an
unmapped page, with no violation; a context is faulted with kind 0x06; a head's line misses its data; every requester but BAR4 gets the
error response. DESIGN CHOICE: log 134. -/
def readError (s : State) (t : DramTx) : State :=
  match t.why, t.leaf with
  | .walk _ n, .host f => send s (.bar f.val 4) [0] (List.replicate n 0xFF)
  | .walk _ n, _ => faultWhy (send s .fabric [0, t.id] (List.replicate n 0)) t.leaf t.why 1
  | _, .scrub => s
  | _, .host _ => send s .fabric [0, t.id] (List.replicate t.len 0xFF)
  | _, _ => loseFetch (faultWhy (send s .fabric [1, t.id] []) t.leaf t.why 6) t.leaf t.why

/-- The error response to a write (R360): a BAR4 write is discarded without one, a camera's frame is incomplete, a context is faulted
with kind 0x06. -/
def writeError (s : State) (t : DramTx) : State :=
  match t.leaf with
  | .host _ => s
  | _ => loseCameraLine (faultWhy (send s .fabric [1, t.id] []) t.leaf t.why 6) t.leaf

/-- The bytes of a read are returned, but those of the controller's own scrub; a core's go into its caches too. -/
def returnBytes (s : State) (t : DramTx) (bs : List Byte) : State :=
  if t.leaf = .scrub then s
  else
    let s1 := send s .fabric [0, t.id] bs
    match t.why with
    | .core k gate fetch => coreFill s1 k.val gate fetch (t.addr / 64) bs
    | _ => s1

/-- The data of a read is returned. -/
def readData (s : State) (t : DramTx) : State := returnBytes s t ((rangeFrom t.addr t.len).map (dramByte s))

/-- The data of a read whose error no check sees: nothing is known of it (R359, with INLINE_ECC or LINK_ECC 0). -/
def readFree (s : State) (t : DramTx) : State :=
  returnBytes (drawn s) t ((List.range t.len).map (fun i => Sys2Proof.Config.freeByte (s.free * 64 + i)))

/-- A write's bytes reach the DRAM. -/
def storeTx (s : State) (t : DramTx) : State :=
  { s with mem := (List.range t.data.length).foldl (fun m i => match at0 none t.data i with
      | some v => tset memDefault m (t.addr + i) v
      | none => m) s.mem }

/-- A column command of a transaction, with what the checks find (R359, R360). The array's errors are found where a block is
read: by a read, or by a write that does not cover its block (R353); a write of a block replaces it and its code (R363).
DEDUCED: log 135. DEDUCED: log 181. -/
def issueTx (s : State) (t : DramTx) (err : DramErr) (syndrome : Nat) : State :=
  let ecc := inForce s E.mem_INLINE_ECC = 1
  let link := inForce s E.mem_LINK_ECC = 1
  let s1 := retireTx s t.id
  if err = .parity then
    let s2 := raise (bump (memLog s1 t 3 syndrome) (E.chan_PARITY t.chan)) .memParity [t.chan]
    if t.write then writeError s2 t else readError s2 t
  else if t.write then
    let s2 := storeTx s1 t
    if ¬ ecc ∨ 64 ≤ t.len then s2
    else match err with
      | .single => memCorrected s2 t (E.chan_CORRECTED t.chan)
      | .double => memUncorrected s2 t 1 syndrome
      | .linkSingle => if link then memCorrected s2 t (E.chan_LINK_CORRECTED t.chan) else s2
      | .linkDouble => if link then memUncorrected s2 t 2 syndrome else s2
      | _ => s2
  else match err with
    | .none => readData s1 t
    | .single => if ecc then memCorrected (readData s1 t) t (E.chan_CORRECTED t.chan) else readFree s1 t
    | .double => if ecc then readError (memUncorrected s1 t 1 syndrome) t else readFree s1 t
    | .linkSingle => if link then memCorrected (readData s1 t) t (E.chan_LINK_CORRECTED t.chan) else readFree s1 t
    | .linkDouble => if link then readError (memUncorrected s1 t 2 syndrome) t else readFree s1 t
    | .parity => s1

/-! ### Refresh (R354–R356) -/

/-- tRFCab and tRFCpb of a density, in ns (R354). -/
def tRfc (density : Nat) : Nat × Nat := if density = 0 then (210, 120) else if density = 1 then (280, 140) else (380, 190)
/-- tREFIm in ns (R354). -/
def tRefi (mult : Nat) : Nat := 3906 / mult
/-- The limit L in 1/16 rounds (R354). -/
def refreshLimit (mult : Nat) : Nat := 8 / mult * 16

/-- The queue number of a rank and bank. -/
def bankKey (r b : Nat) : Nat := r * 16 + b

/-- Whether a transaction waits at a bank. -/
def bankWaits (s : State) (ch r b : Nat) : Bool :=
  (queued s ch).any (fun t => let p := place s (channelOf s t.addr).2; p.1 == r && p.2.1 == b)

/-- All banks of a rank precharged. -/
def closeRank (c : ChanRec) (r : Nat) : ChanRec := { c with rows := tclear (fun k => k / 16 == r) c.rows }
/-- A rank with an open row. -/
def rankOpen (c : ChanRec) (r : Nat) : Bool := c.rows.any (fun p => p.1 / 16 == r)

/-- A rank refreshes all its banks: at a burst, or in the band above L − 1 with the next accrual within 500 ns. -/
def allBankDue (s : State) (k : RankRec) : Bool :=
  k.burst.isSome ||
    (decide (refreshLimit k.mult < k.owed + 16) && decide (k.accrual + tRefi k.mult ≤ nowNs s + 500))

/-- No refresh of a bank of the rank is in progress. -/
def banksReady (s : State) (c : ChanRec) (r : Nat) : Bool :=
  (List.range 16).all (fun b => decide (tget (fun _ => 0) c.ready (bankKey r b) ≤ nowNs s))

/-- A command of a rank's REFab sequence can be issued now: not within the first 50 ns of a burst while rows are open, not during a
refresh of the rank or of a bank of it, nor within tRPab of the PREab (R354, R356). -/
def allBankNow (s : State) (c : ChanRec) (r : Nat) : Bool :=
  let k := rankOf c r
  allBankDue s k && banksReady s c r && decide (k.ready ≤ nowNs s) &&
    (match k.burst with | some t => decide (t + 50 ≤ nowNs s) || !rankOpen c r | none => true)

/-- A command of a rank's REFab sequence: PREab while a row is open, else REFab; a burst ends when OWED is back at L (R354, R356). -/
def refreshAll (s : State) (ch r : Nat) : State :=
  let c := chanOf s ch
  let k := rankOf c r
  if rankOpen c r then setChan s ch (setRank (closeRank c r) r { k with ready := nowNs s + 21 })
  else
    let owed := k.owed - 16
    let past := decide (owed ≤ refreshLimit k.mult)
    setChan s ch (setRank c r { k with owed := owed, ready := nowNs s + (tRfc (inForce s E.mem_DENSITY)).1,
                                       burst := if past then none else k.burst })

/-- A REFpb of a rank is due: in rotation every 90 ns from L / 2 upward, and to an idle bank below; none where a REFab is (R354). -/
def perBankDue (s : State) (ch r : Nat) : Bool :=
  let k := rankOf (chanOf s ch) r
  let spaced := match k.refpb with | none => true | some t => decide (t + 90 ≤ nowNs s)
  !allBankDue s k && spaced && decide (k.ready ≤ nowNs s) && decide (0 < k.owed) &&
    (decide (refreshLimit k.mult ≤ 2 * k.owed) || !bankWaits s ch r k.rot)

/-- A REFpb of the bank in rotation. DEDUCED: log 131. -/
def refreshBank (s : State) (ch r : Nat) : State :=
  let c := chanOf s ch
  let k := rankOf c r
  let key := bankKey r k.rot
  let c1 := { c with rows := tset (fun _ => none) c.rows key none,
                     ready := tset (fun _ => 0) c.ready key (nowNs s + (tRfc (inForce s E.mem_DENSITY)).2) }
  setChan s ch (setRank c1 r { k with owed := k.owed - 1, rot := (k.rot + 1) % 16, refpb := some (nowNs s) })

/-- REFRESH_ACCRUAL: one round more is owed (R354). -/
def refreshAccrual (s : State) (ch r : Nat) : State :=
  if chanActive s ch ∧ r < rankCount s then
    let c := chanOf s ch
    let k := rankOf c r
    let s1 := setChan s ch (setRank c r { k with owed := k.owed + 16, accrual := nowNs s })
    wr s1 (E.chan_OWED_MAX ch) (max (rd s1 (E.chan_OWED_MAX ch)) (min (k.owed + 16) 65535))
  else s

/-- RATE of a channel shows the highest multiplier of its ranks (R355). -/
def settleRate (s : State) (ch : Nat) : State :=
  wr s (E.chan_RATE ch) ((List.range (rankCount s)).foldl (fun m r => max m (rankOf (chanOf s ch) r).mult) 1)

/-- A rank's multiplier changes: the accrual timer restarts, and what OWED exceeds the new limit by is repaid as a burst
(R355, R356). -/
def setMult (s : State) (ch r m : Nat) : State :=
  let c := chanOf s ch
  let k := rankOf c r
  if m = k.mult then s
  else
    let past := k.mult < m ∧ refreshLimit m < k.owed
    let k1 := { k with mult := m, lower := 0, accrual := nowNs s, burst := if past then some (nowNs s) else k.burst }
    let s1 := raise (settleRate (setChan s ch (setRank c r k1)) ch) .refreshRate [ch, r, m]
    if past then raise (bump s1 (E.chan_BURSTS ch)) .refreshBurst [ch, r] else s1

/-- MR4_READ: the highest multiplier that a die of the rank asks for (R355), and a drifted lane's delays (R362). -/
def mr4Read (s : State) (ch r asks : Nat) (drifted : Bool) : State :=
  if chanActive s ch ∧ r < rankCount s then
    let c := chanOf s ch
    let k := rankOf c r
    let want := if asks ≤ 1 then 1 else if asks ≤ 2 then 2 else 4
    let put := fun (n : Nat) => setChan s ch (setRank c r { k with first := false, lower := n })
    let s1 :=
      if k.first then setMult (put 0) ch r want
      else if k.mult < want then setMult (put 0) ch r (k.mult * 2)
      else if want < k.mult then
        if k.lower = 0 then put 1 else setMult (put 0) ch r (k.mult / 2)
      else put 0
    if drifted then bump s1 (E.chan_RETRAINS ch) else s1
  else s

/-! ### Command slots (R350, R351) -/

/-- Read or write mode of a channel for this slot (R351). -/
def modeNow (c : ChanRec) (q : List DramTx) : Bool :=
  let w := (q.filter (·.write)).length
  let pr := q.any (fun t => t.write && t.promoted)
  let stay := c.writing && !(decide (w ≤ 8) && !pr)
  stay || decide (24 ≤ w) || pr || (decide (0 < w) && q.all (·.write))

/-- The rank and bank of a transaction. -/
def bankOf (s : State) (t : DramTx) : Nat := let p := place s (channelOf s t.addr).2; bankKey p.1 p.2.1
/-- The row of a transaction. -/
def rowOf (s : State) (t : DramTx) : Nat := (place s (channelOf s t.addr).2).2.2.1

/-- The first waiting transaction of each bank. DESIGN CHOICE: log 130. -/
def oldestPerBank (s : State) : List DramTx → List DramTx
  | q => q.foldl (fun a t => if a.any (fun x => bankOf s x == bankOf s t) then a else a ++ [t]) []

/-- A column command may be issued to a bank: no refresh holds it; during a burst, for the first 50 ns only (R356). -/
def columnOk (s : State) (c : ChanRec) (b : Nat) : Bool :=
  let k := rankOf c (b / 16)
  decide (k.ready ≤ nowNs s) && decide (tget (fun _ => 0) c.ready b ≤ nowNs s) &&
    (match k.burst with | none => true | some t => decide (nowNs s < t + 50))

/-- An activate may be issued to a bank: no refresh holds it, no REFab is due to its rank, and tRRD and tFAW allow it (R350, R354, R356). -/
def activateOk (s : State) (c : ChanRec) (b : Nat) : Bool :=
  let k := rankOf c (b / 16)
  columnOk s c b && !allBankDue s k &&
    decide ((k.acts.filter (fun t => decide (nowNs s < t + Sys2Proof.Config.tFaw))).length < 4) &&
    k.acts.all (fun t => decide (t + Sys2Proof.Config.tRrd ≤ nowNs s))

/-- The transaction whose column command takes the slot, among candidates in order of arrival (R350, R351). -/
def pickColumn (s : State) (c : ChanRec) (l : List DramTx) : Option DramTx :=
  match l.find? (·.promoted) with
  | some t => some t
  | none =>
    match l.find? (fun t => decide (t.at_ + 50 ≤ s.time)) with
    | some t => some t
    | none =>
      match l.find? (fun t => leafClass t.leaf == 0) with
      | some t => some t
      | none => l.find? (fun t => decide (tget (fun _ => 0) c.hits (bankOf s t) < 16))

/-- An activate for the first bank at or after the pointer whose oldest request waits, one of a promoted write first (R350, R351). -/
def activate (s : State) (ch : Nat) (l : List DramTx) : State :=
  let c := chanOf s ch
  let order := (List.range 32).map (fun i => (c.ptr + i) % 32)
  let first := fun (m : List DramTx) => order.findSome? (fun b => if activateOk s c b then m.find? (fun t => bankOf s t == b) else none)
  match (first (l.filter (·.promoted))).or (first l) with
  | none => s
  | some t =>
    let b := bankOf s t
    let k := rankOf c (b / 16)
    let c1 := { c with rows := tset (fun _ => none) c.rows b (some (rowOf s t)), hits := tset (fun _ => 0) c.hits b 0,
                       ptr := (b + 1) % 32 }
    setChan s ch (setRank c1 (b / 16) { k with acts := (nowNs s :: k.acts).take 4 })

/-- DRAM_COMMAND_SLOT: a refresh command, a column command or an activate (R350); promoted writes go before the others of their bank
(R351). -/
def commandSlot (s : State) (ch : Nat) (err : DramErr) (syndrome : Nat) : State :=
  if ¬ chanActive s ch then s
  else
    let ranks := List.range (rankCount s)
    let c := chanOf s ch
    match ranks.find? (allBankNow s c) with
    | some r => refreshAll s ch r
    | none =>
      match ranks.find? (perBankDue s ch) with
      | some r => refreshBank s ch r
      | none =>
        let q := queued s ch
        let w := modeNow c q
        let s1 := setChan s ch { c with writing := w }
        let ready := q.filter (fun t => t.write == w && t.waits.isEmpty)
        let old := oldestPerBank s (ready.filter (·.promoted) ++ ready.filter (fun t => !t.promoted))
        let hit := old.filter (fun t =>
          tget (fun _ => none) c.rows (bankOf s t) == some (rowOf s t) && columnOk s c (bankOf s t))
        match pickColumn s c hit with
        | some t =>
          let c1 := chanOf s1 ch
          let b := bankOf s t
          issueTx (setChan s1 ch { c1 with hits := tset (fun _ => 0) c1.hits b (tget (fun _ => 0) c1.hits b + 1) }) t err
            syndrome
        | none => activate s1 ch old

/-! ### Power-down and self-refresh (R357) -/

/-- Whether a request waits at a channel. -/
def chanWaits (s : State) (ch : Nat) : Bool := s.memc.txs.any (fun t => t.chan == ch)

/-- POWER_DOWN_ENTRY: a rank for which no request waits. -/
def powerDown (s : State) (ch r : Nat) : State :=
  if chanActive s ch ∧ r < rankCount s ∧
      ¬ s.memc.txs.any (fun t => t.chan == ch && (place s (channelOf s t.addr).2).1 == r) then
    let c := chanOf s ch
    settleDown (setChan s ch (setRank c r { rankOf c r with down := true })) ch
  else s

/-- The channels of a half of the controller that are fitted. -/
def halfOf (s : State) (ch : Nat) : List Nat := (fitted s).filter (fun c => c / 4 == ch / 4)

/-- The conditions under which a half's PHY sleeps, but for the tolerance. -/
def phyMaySleep (s : State) (ch : Nat) : Bool :=
  (halfOf s ch).all (fun c => chanState s c == 4 || chanState s c == 5) &&
    (List.range 8).all (fun r => rd s (E.cam_ENABLE r) == 0) &&
    (List.range 32).all (fun n => (streamOf s n).opened.isNone)

/-- A channel enters a self-refresh state. -/
def enterSr (s : State) (ch st : Nat) : State :=
  raise (bump (wr s (E.chan_STATE ch) st) (E.chan_SR_ENTRIES ch)) .memSrEnter [ch]

/-- Every rank of a channel owes nothing, its rows are closed, and its next MR4 read sets its multiplier at once. -/
def repay (s : State) (ch : Nat) : State :=
  let c := chanOf s ch
  setChan s ch ((List.range (rankCount s)).foldl (fun a r =>
    setRank (closeRank a r) r { rankOf a r with owed := 0, burst := none, first := true, down := false, lower := 0 }) c)

/-- MEM_SR_ENTER. -/
def srEnter (s : State) (ch : Nat) : State :=
  let s1 :=
    if chanActive s ch ∧ ¬ chanWaits s ch ∧ 10 ≤ lowestTolerance s then enterSr (repay s ch) ch 4 else s
  if chanState s1 ch = 4 ∧ phyMaySleep s1 ch ∧ 60 ≤ lowestTolerance s1 then
    (halfOf s1 ch).foldl (fun t c => if chanState t c = 4 then enterSr t c 5 else t) s1
  else s1

/-- A channel leaves self-refresh: the accrual timer starts anew and nothing is owed. -/
def leaveSr (s : State) (ch : Nat) : State :=
  let c := chanOf s ch
  let c1 := (List.range (rankCount s)).foldl (fun a r => setRank a r { rankOf a r with owed := 0, accrual := nowNs s }) c
  raise (wr (setChan s ch c1) (E.chan_STATE ch) 2) .memSrExit [ch]

/-- A half's PHY wakes: its channels are in plain self-refresh. -/
def wakePhy (s : State) (ch : Nat) : State :=
  (halfOf s ch).foldl (fun t c => if chanState t c = 5 then raise (wr t (E.chan_STATE c) 4) .memSrExit [c] else t) s

/-- MEM_SR_EXIT: a request, or the lowest TOLERANCE at the exit bound plus 2 µs, ends self-refresh; the PHY wakes too when another
condition of its sleep stops to hold (R357). DEDUCED: log 133. -/
def srExit (s : State) (ch : Nat) : State :=
  let st := chanState s ch
  let need := chanWaits s ch
  if st = 5 then
    if need ∨ lowestTolerance s ≤ 27 ∨ ¬ phyMaySleep s ch then
      let s1 := wakePhy s ch
      if need then leaveSr s1 ch else s1
    else s
  else if st = 4 ∧ (need ∨ lowestTolerance s ≤ 2) then leaveSr s ch
  else s

/-! ### Retention (R358) -/

/-- The segment of a die that holds a physical byte: the top three bits of its row. -/
def segmentOf (s : State) (a : Nat) : Nat :=
  let row := (place s (channelOf s a).2).2.2.1
  let rows := dieBytes (inForce s E.mem_DENSITY) * 2 / 4096 / 16
  row * 8 / rows

/-- The physical pages that guests' page tables map, as [page frame, count]. -/
def allocated (s : State) : List (Nat × Nat) :=
  (List.range 64).flatMap (fun g => ((guestRec s g).table).map (fun e => (e.phys, e.count)))

/-- Whether a segment holds a byte of the range `lo` to `hi`. In orders 0 and 1 it holds an eighth of the space; in order 2
an eighth of each bank's rows, which a range is looked up in at every page. -/
def segmentHolds (s : State) (g lo hi : Nat) : Bool :=
  if hi ≤ lo then false
  else if inForce s E.mem_MAP_ORDER = 2 then
    (List.range ((hi - lo) / pageSize + 1)).any (fun i => segmentOf s (min (lo + i * pageSize) (hi - 1)) == g)
  else decide (segmentOf s lo ≤ g) && decide (g ≤ segmentOf s (hi - 1))

/-- RETAINED as the space stands. -/
def retainedMask (s : State) : Nat :=
  let ranges := (0, 1024 * 2 ^ 20) :: (locketBase s, rd s E.mem_USABLE * 2 ^ 20) ::
    (allocated s).map (fun e => (e.1 * pageSize, (e.1 + e.2) * pageSize))
  maskOf ((List.range 8).filter (fun g => ranges.any (fun r => segmentHolds s g r.1 r.2)))

/-- The content of the segments that are not retained is lost: their bytes are as if nothing had written them.
DESIGN CHOICE: log 138. -/
def loseSegments (s : State) (mask : Nat) : State :=
  { s with mem := tclear (fun a => !bitOf mask (segmentOf s a)) s.mem }

/-! ### Training (R342, R362) -/

/-- The configuration that a training record matches. DEDUCED: log 230. -/
def trainKey (s : State) : List Nat := (rangeFrom E.mem_CHANNEL_MASK 8).map (inForce s)

/-- Training begins (MEM_STATE 1). -/
def trainStart (s : State) : State :=
  (fitted s).foldl (fun t c => wr t (E.chan_STATE c) 1) (wr s E.mem_MEM_STATE 1)

/-- The kind of training that runs: incremental with a matching record, else full. -/
def trainKind (s : State) : Nat := if s.flash.training = some (trainKey s) then 2 else 1

/-- Training ends, having failed on the channels of `failed`: the space is served where none failed, else the controller has failed. A
full training writes its record. -/
def trainEnd (s : State) (failed : Nat) : State :=
  if rd s E.mem_MEM_STATE = 1 then
    let kind := trainKind s
    let s1 := (fitted s).foldl (fun t c => wr t (E.chan_STATE c) (if bitOf failed c then 6 else 2)) (wr s E.mem_TRAINING kind)
    if (fitted s).any (bitOf failed) then raise (wr s1 E.mem_MEM_STATE 3) .trainFail [kind]
    else
      let v := inForce s1
      let mb := installed (v E.mem_CHANNEL_MASK) (v E.mem_RANKS) (v E.mem_DENSITY) / 2 ^ 20
      let us := usableMb (v E.mem_CHANNEL_MASK) (v E.mem_RANKS) (v E.mem_DENSITY) (v E.mem_INLINE_ECC)
      let s2 := wr (wr (wr s1 E.mem_MEM_STATE 2) E.mem_CAPACITY mb) E.mem_USABLE us
      let s3 := wr s2 E.mem_GUEST_POOL (poolPages us (rd s2 E.mem_LOCKET_SIZE))
      raise (if kind = 1 then { s3 with flash := { s3.flash with training := some (trainKey s3) } } else s3) .trainDone [kind]
  else s

/-! ### Meanings -/

/-- DRAM_READ_REQUEST. -/
def execDramReadRequest (r : DramReq) (s : State) : Host.Outcome State Fault Refusal := memRequest s r none
/-- DRAM_WRITE_REQUEST: `bytes` is the data, of the request's length. -/
def execDramWriteRequest (r : DramReq) (bytes : List Byte) (s : State) : Host.Outcome State Fault Refusal :=
  memRequest s { r with len := bytes.length } (some bytes)
/-- DRAM_COMMAND_SLOT. -/
def execDramCommandSlot (ch : Chan) (err : DramErr) (syndrome : Nat) (s : State) : Host.Outcome State Fault Refusal :=
  .next (commandSlot s ch.val err syndrome)
/-- REFRESH_ACCRUAL. -/
def execRefreshAccrual (ch : Chan) (rank : Fin 2) (s : State) : Host.Outcome State Fault Refusal :=
  .next (refreshAccrual s ch.val rank.val)
/-- MR4_READ. -/
def execMr4Read (ch : Chan) (rank : Fin 2) (asks : Nat) (drifted : Bool) (s : State) : Host.Outcome State Fault Refusal :=
  .next (mr4Read s ch.val rank.val asks drifted)
/-- POWER_DOWN_ENTRY. -/
def execPowerDownEntry (ch : Chan) (rank : Fin 2) (s : State) : Host.Outcome State Fault Refusal :=
  .next (powerDown s ch.val rank.val)
/-- MEM_SR_ENTER. -/
def execMemSrEnter (ch : Chan) (s : State) : Host.Outcome State Fault Refusal := .next (srEnter s ch.val)
/-- MEM_SR_EXIT. -/
def execMemSrExit (ch : Chan) (s : State) : Host.Outcome State Fault Refusal := .next (srExit s ch.val)
/-- SCRUB_PASS: a period of the patrol scrub completes while SCRUB_HOURS is above 0. -/
def execScrubPass (s : State) : Host.Outcome State Fault Refusal :=
  .next (if rd s E.mem_SCRUB_HOURS = 0 ∨ ¬ memReady s then s else raise s .scrubPass [])
/-- ARBITER_DECISION. -/
def execArbiterDecision (a : Arbiter) (s : State) : Host.Outcome State Fault Refusal :=
  .next (match a with
    | .clients ch g => decideClients s ch.val g.val
    | .guests ch cls => decideGuests s ch.val cls.val
    | .classes ch => decideClasses s ch.val)
/-- BUDGET_WINDOW_END. -/
def execBudgetWindowEnd (ch : Chan) (s : State) : Host.Outcome State Fault Refusal := .next (windowEnd s ch.val)

end Sys2Proof.Machine
end

