-- ==== Sys2Proof/Machine/Guests.lean ====
section
/-! DEFINITION. Guests as PCIe functions (R21, R22, R477), rights that end (R29), resets of clients and guests (R31, R65),
carve-outs (R32–R35), BAR4 (R70) and the violation ring (R39–R42). -/

namespace Sys2Proof.Machine

/-! ### Rights that end (R29) -/

/-- A facet is taken from its holder: it is disabled at its head's next latch point, at once on a head without latch
points (R29, R189). DEDUCED: log 19. -/
def withdrawFacet (s : State) (h f : Nat) : State :=
  let s1 := wr s (E.facet_HOLDER h f) 0xFFFF
  if facetOn s h f then
    if hasLatch s h then setFacet s1 h f { facetOf s1 h f with leaving := true }
    else updateSums (wr (setFacet s1 h f { facetOf s1 h f with shown := none, latched := none }) (E.facet_ENABLE h f) 0)
  else s1

/-- The facets a client holds. -/
def facetsHeld (s : State) (c : Nat) : List (Nat × Nat) :=
  (List.range 128).filterMap (fun n => if rd s (E.facet_HOLDER (n / 8) (n % 8)) = c then some (n / 8, n % 8) else none)

/-- Standing grants of a client end with the right that supports them (R29). -/
def settleRights (s : State) (c : Nat) : State :=
  let s1 := (facetsHeld s c).foldl (fun t p => if facetRight s c p.1 p.2 then t else withdrawFacet t p.1 p.2) s
  let s2 := (List.range 4).foldl (fun t p => if engineRight t c 5 ∧ touchRight t c p then t else leaveSub t p c) s1
  if engineRight s2 c 7 then s2 else cvWithdraw s2 c

/-! ### Resetting a client (R31) -/

/-- A client's write-back ends at once, in the middle of a frame too. -/
def dropWb (s : State) (c : Nat) : State :=
  (List.range 16).foldl (fun t h =>
    match (headOf t h).wb with
    | some w => if w.client = c then endWb t h else t
    | none => t) s

/-- The receivers a client has opened are closed. -/
def dropReceivers (s : State) (c : Nat) : State :=
  (List.range 8).foldl (fun t r => if camHeldBy t c r then closeReceiver t r else t) s

/-- A client is reset: its clasp and queues return to their Reset values, its contexts leave, its pending groups are dropped, its
generations start again at 1 (R187), its motion register is invalid (R206), its facets are withdrawn, its subscriptions, streams, receivers, triggers and units are given up (R31, R65, R156, R191).
DEDUCED: log 20. -/
def clientReset (s : State) (c : Nat) : State :=
  let s1 := setClasp s c {}
  let s2 := { s1 with compose := { s1.compose with
    groups := s1.compose.groups.filter (fun g => g.client != c), gens := tdel s1.compose.gens c, motion := tdel s1.compose.motion c } }
  let s3 := leaveCompute (leaveRender s2 c 2) c 2
  let s4 := (facetsHeld s3 c).foldl (fun t p => withdrawFacet t p.1 p.2) s3
  dropWb (cvClientReset (dropTrigs (dropReceivers (dropStreams (dropSubs s4 c) c) c) c) c) c

/-- Nothing of a client's reset is left to end: its contexts are removed and its units handed over. -/
def clientQuiet (s : State) (c : Nat) : Bool :=
  (rctxOf s c).isNone && (cctxOf s c).isNone && (cvHeld s c).isEmpty &&
    (List.range 8).all (fun k => match handOf s (16 + k) with | some h => h.giver != c && h.target != c | none => true)

/-! ### Carve-outs (R32, R35, R344) -/

/-- Page frames of the guest pool: the first, and the one past the last. -/
def poolBounds (s : State) : Nat × Nat := (1024 * 16, locketBase s / pageSize)

/-- Extents sorted by page frame. -/
def insertExt (e : Nat × Nat) : List (Nat × Nat) → List (Nat × Nat)
  | [] => [e]
  | x :: r => if e.1 ≤ x.1 then e :: x :: r else x :: insertExt e r

/-- The lowest `n` free page frames from `lo` upward, as runs, given the sorted allocated runs and the end of the pool.
DESIGN CHOICE: log 17. -/
def takeFree (n lo hi : Nat) : List (Nat × Nat) → List (Nat × Nat)
  | [] => if n = 0 ∨ hi ≤ lo then [] else [(lo, min n (hi - lo))]
  | e :: r =>
    if n = 0 then []
    else if lo < e.1 then
      let k := min n (e.1 - lo)
      (lo, k) :: takeFree (n - k) (e.1 + e.2) hi r
    else takeFree n (max lo (e.1 + e.2)) hi r

/-- Carve-out pages of a guest that its table maps. -/
def tablePages (l : List Extent) : Nat := l.foldl (fun n e => n + e.count) 0

/-- GUEST_ALLOCATED follows the page tables. -/
def settleAllocated (s : State) : State := wr s E.mem_GUEST_ALLOCATED ((allocated s).foldl (fun n e => n + e.2) 0)

/-- Runs of frames as extents that follow carve-out page `p`. -/
def extentsFrom (p : Nat) : List (Nat × Nat) → List Extent
  | [] => []
  | e :: r => { page := p, phys := e.1, count := e.2 } :: extentsFrom (p + e.2) r

/-- A guest's carve-out grows to `n` pages: the lowest free frames of the pool, zeroed, are appended (R35, R344). -/
def growCarve (s : State) (g n : Nat) : State :=
  let r := guestRec s g
  let have_ := tablePages r.table
  if n ≤ have_ then s
  else
    let b := poolBounds s
    let runs := takeFree (n - have_) b.1 b.2 ((allocated s).foldr insertExt [])
    let s1 := runs.foldl (fun t e => memZero t (e.1 * pageSize) (e.2 * pageSize)) s
    settleAllocated (setGuest s1 g { guestRec s1 g with
      table := r.table ++ extentsFrom have_ runs, ptes := tclear (fun p => decide (have_ ≤ p)) r.ptes })

/-- The extents cut to their first `n` carve-out pages, and the runs cut off. -/
def cutExtents (n : Nat) : List Extent → List Extent × List (Nat × Nat)
  | [] => ([], [])
  | e :: r =>
    let (a, b) := cutExtents n r
    if e.page + e.count ≤ n then (e :: a, b)
    else if n ≤ e.page then (a, (e.phys, e.count) :: b)
    else ({ e with count := n - e.page } :: a, (e.phys + (n - e.page), e.page + e.count - n) :: b)

/-- A guest's carve-out shrinks to `n` pages: the freed pages are zeroed before they return to the pool (R35). -/
def shrinkCarve (s : State) (g n : Nat) : State :=
  let r := guestRec s g
  let c := cutExtents n r.table
  let s1 := c.2.foldl (fun t e => memZero t (e.1 * pageSize) (e.2 * pageSize)) s
  settleAllocated (setGuest s1 g { guestRec s1 g with table := c.1, ptes := tclear (fun p => decide (n ≤ p)) r.ptes })

/-- A guest's carve-out follows its CARVE_PAGES. -/
def settleCarve (s : State) (g : Nat) : State :=
  let n := rd s (E.guest_CARVE_PAGES g)
  if n < tablePages (guestRec s g).table then shrinkCarve s g n else growCarve s g n

/-- An access that was issued earlier to a page which a smaller CARVE_PAGES frees has not completed (R35). -/
def carveBusy (s : State) (g n : Nat) : Bool :=
  (cutExtents n (guestRec s g).table).2.any (fun e =>
    s.memc.txs.any (fun t => decide (e.1 * pageSize ≤ t.addr) && decide (t.addr < (e.1 + e.2) * pageSize)))

/-- The writable bits of a page-table entry: V, RD, WR and PFN (R8, R32). -/
def pteMask : Nat := 7 + (2 ^ 20 - 1) * 2 ^ 16

/-- Open-world firmware writes an entry of a guest's page table (R32). DESIGN CHOICE: log 188. -/
def writePte (s : State) (g n v : Nat) : State :=
  if pdOn s 2 ∧ memReady s ∧ n < (if g = 0 then 262144 else 65536) then
    setGuest s g { guestRec s g with ptes := tset (fun _ => none) (guestRec s g).ptes n (some (Nat.land v pteMask)) }
  else s

/-- A guest's carve-out is zeroed (R22). -/
def zeroCarve (s : State) (g : Nat) : State :=
  (guestRec s g).table.foldl (fun t e => memZero t (e.phys * pageSize) (e.count * pageSize)) s

/-! ### Guest resets (R22) -/

/-- STATE of a guest (R43). -/
def settleGuest (s : State) (g : Nat) : State :=
  let r := guestRec s g
  wr s (E.guest_STATE g) (if r.flr ∨ r.disabling then 1 else if guestExists s g then 2 else 0)

/-- Every client of a guest is reset and every charm takes its Reset values (R31); VIOLATIONS starts anew (R43). -/
def resetClients (s : State) (g : Nat) : State :=
  let s1 := (clientsOf s g).foldl (fun t c => setCharm (clientReset t c) c 0) s
  wr (setGuest s1 g { guestRec s1 g with violTimes := [] }) (E.guest_VIOLATIONS g) 0

/-- A guest's reset begins: its clients and its function's registers are reset, and its
carve-out starts to be zeroed with FLR_ZERO 1 (R22). `off` is set
where its virtual function is being disabled. DEDUCED: log 15. DEDUCED: log 18. -/
def guestReset (s : State) (g : Nat) (off : Bool) : State :=
  let s1 := resetClients (setGuest s g { guestRec s g with clientsPending := true }) g
  let s2 := wr (setPort s1 g {}) (E.guest_RESET_CLIENT g) 0xFFFF
  let r := guestRec s2 g
  settleGuest (setGuest s2 g { r with flr := true, disabling := r.disabling || off, clientsPending := true,
                                      zeroing := rd s (E.guest_FLR_ZERO g) == 1 }) g

/-- A guest's reset has finished when its clients are reset and its carve-out is cleared (R22). -/
def finishReset (s : State) (g : Nat) : State :=
  let r := guestRec s g
  if r.flr ∧ ¬ r.clientsPending ∧ ¬ r.zeroing then settleGuest (setGuest s g { r with flr := false, disabling := false }) g
  else s

/-- CLIENT_RESET_DONE: what a client reset, or the resets of a guest's clients, waited for has ended (R31). -/
def clientResetDone (s : State) (g : Nat) : State :=
  let c := rd s (E.guest_RESET_CLIENT g)
  let s1 := if c ≠ 0xFFFF ∧ clientQuiet s c then wr s (E.guest_RESET_CLIENT g) 0xFFFF else s
  let r := guestRec s1 g
  if r.clientsPending ∧ (clientsOf s1 g).all (clientQuiet s1) then
    finishReset (setGuest s1 g { r with clientsPending := false }) g
  else s1

/-- CARVE_OUT_ZEROED. DESIGN CHOICE: log 16. -/
def carveZeroed (s : State) (g : Nat) : State :=
  let r := guestRec s g
  if r.zeroing then
    let s1 := zeroCarve s g
    finishReset (setGuest s1 g { guestRec s1 g with zeroing := false }) g
  else s

/-- The physical function's NumVFs becomes `n`: guests beyond it are reset and disabled, new ones exist (R21, R22). -/
def setNumVfs (s : State) (n : Nat) : State :=
  let old := s.ten.numVfs
  let s1 := (rangeFrom (n + 1) (old - n)).foldl (fun t g => guestReset t g true) s
  let s2 := { s1 with ten := { s1.ten with numVfs := n } }
  (rangeFrom 1 63).foldl settleGuest s2

/-! ### BAR4 (R33, R37, R70) -/

/-! ### Configuration space (R21, R48, R477) -/

/-- A function takes configuration requests: it exists, has power, and does not answer with Request Retry Status. -/
def configOpen (s : State) (f : Nat) : Bool := guestExists s f && !retrying s f && pdOn s 15

/-- The bytes that a base address register pair covers (R48): of the physical function, or of its VF set. -/
def barSize (vf : Bool) (n : Nat) : Nat :=
  if n / 2 = 0 then 2 ^ 24 else if n / 2 = 1 then 2 ^ 16 else if vf then 2 ^ 32 else 2 ^ 34

/-- The address bits of a base address register that a write can set, the others reading 0 as the size demands. -/
def barMask (vf : Bool) (n : Nat) : Nat :=
  if n % 2 = 0 then 2 ^ 32 - min (barSize vf n) (2 ^ 32) else 2 ^ 32 - max 1 (barSize vf n / 2 ^ 32)

/-- The type bits of a base address register: 64-bit, and prefetchable for BAR4 (R48). PRESUMED: log 189. -/
def barType (n : Nat) : Nat := if n = 4 then 12 else if n % 2 = 0 then 4 else 0

/-- A base address register as it reads. -/
def barWord (s : State) (vf : Bool) (n : Nat) : Nat := tget (fun _ => 0) s.ten.bars (6 * b2n vf + n) + barType n

/-- A base address register written. -/
def setBar (s : State) (vf : Bool) (n v : Nat) : State :=
  { s with ten := { s.ten with bars := tset (fun _ => 0) s.ten.bars (6 * b2n vf + n) (Nat.land v (barMask vf n)) } }

/-- A host write of NumVFs; one above 63 changes nothing. DEDUCED: log 13. -/
def numVfsWrite (s : State) (n : Nat) : State := if 63 < n then s else send (setNumVfs s n) (.config 0) [0] []

/-- A configuration register as it reads, and the state after a free value has been drawn for one that the manual does not give. A
virtual function's own base address registers read 0. PRESUMED: log 189. -/
def configRead (s : State) (f : Nat) : CfgReg → State × Nat
  | .bar n => (s, if f = 0 then barWord s false n.val else 0)
  | .vfBar n => (s, if f = 0 then barWord s true n.val else 0)
  | .numVfs => (s, if f = 0 then s.ten.numVfs else 0)
  | .other _ => (drawn s, freeVal s (2 ^ 32))

/-- A configuration request that is served. -/
def configServe (s : State) (f : Nat) (req : CfgReq) : State :=
  if req.write then
    match req.reg with
    | .bar n => send (if f = 0 then setBar s false n.val req.value.toNat else s) (.config f) [0] []
    | .vfBar n => send (if f = 0 then setBar s true n.val req.value.toNat else s) (.config f) [0] []
    | .numVfs => if f = 0 then numVfsWrite s req.value.toNat else send s (.config f) [0] []
    | .other _ => send s (.config f) [0] []
  else
    let r := configRead s f req.reg
    send r.1 (.config f) [0, (r.2 : Int)] []

/-- The parts of an access of `n` bytes at offset `off`, page by page. -/
def pageParts (off n : Nat) : List (Nat × Nat) :=
  (List.range (n / pageSize + 2)).filterMap (fun i =>
    let lo := max off ((off / pageSize + i) * pageSize)
    let hi := min (off + n) ((off / pageSize + i + 1) * pageSize)
    if lo < hi then some (lo, hi - lo) else none)

/-- The violation kind of a BAR4 part, or its physical address (R36). -/
def bar4Part (s : State) (g a : Nat) (write : Bool) : Nat × Option Nat :=
  if rd s (E.guest_CARVE_PAGES g) * pageSize ≤ a then (0x03, none)
  else match translate s g a with
    | none => (0x01, none)
    | some p => if bitOf (pageRights s g (a / pageSize)) (if write then 1 else 0) then (0, some p) else (0x02, none)

/-- BAR4_READ: each part on one page is translated and answered on its own; a violation reads 0xFF (R37). -/
def bar4Read (s : State) (f off n : Nat) : State :=
  if serving s f then
    let parts := (pageParts off n).map (fun p => (p, bar4Part s f p.1 false))
    let bytes := parts.flatMap (fun p => match p.2.2 with
      | some a => memRdAll s (rangeFrom a p.1.2)
      | none => List.replicate p.1.2 0xFF)
    parts.foldl (fun t p => if p.2.1 = 0 then t else violate t p.2.1 2 p.1.1 none (some f)) (send s (.bar f 4) [0] bytes)
  else send s (.bar f 4) [1] []

/-- BAR4_WRITE: each part is applied or discarded. -/
def bar4Write (s : State) (f off : Nat) (bytes : List (Option Byte)) : State :=
  if serving s f then
    (pageParts off bytes.length).foldl (fun t p =>
      let v := bar4Part s f p.1 true
      match v.2 with
      | some a => memWrAll t ((List.range p.2).map (fun i => (a + i, at0 none bytes (p.1 - off + i))))
      | none => violate t v.1 2 p.1 none (some f)) s
  else s

/-! ### The violation ring (R39–R42) -/

/-- A ring entry of a violation (R39). -/
def violEntry (v : Viol) (seq : Nat) : Nat :=
  v.time % 2 ^ 64 + 2 ^ 64 * (v.addr % 2 ^ 64) +
    2 ^ 128 * ((v.client.getD 0) % 4096 + 2 ^ 12 * b2n v.client.isSome + 2 ^ 13 * b2n v.guest.isSome +
      2 ^ 14 * (v.guest.getD 0) + 2 ^ 24 * v.kind + 2 ^ 32 * v.path + 2 ^ 48 * seq)

/-- The slot of the newest entry. -/
def newestSlot (next size : Nat) : Nat := if next = 1 then size else next - 1

/-- Whether a violation folds into an entry: CLIENT, GUEST, KIND, PATH and the page of ADDR agree (R40). -/
def folds (e : Nat) (v : Viol) : Bool :=
  let x := violEntry v 0
  fld e 128 32 == fld x 128 32 && fld e 160 8 == fld x 160 8 && fld e 80 48 == fld x 80 48 && fld e 152 8 != 0

/-- VIOLATION_LOGGED: the oldest queued violation is folded into the newest entry or takes the next slot (R40, R41). -/
def violationLogged (s : State) : State :=
  match s.ten.violQueue with
  | [] => s
  | v :: rest =>
    let s1 := { s with ten := { s.ten with violQueue := rest } }
    let next := rd s E.viol_NEXT_SLOT
    let k := slotKey 0x2080 (newestSlot next 64)
    let e := rd s k
    if folds e v then wr s1 k (setFld e 168 8 (min (fld e 168 8 + 1) 255))
    else
      let s2 := ringEnter s1 0x2080 64 s1.ten.violRead (violEntry v s1.ten.violSeq)
      { s2 with ten := { s2.ten with violSeq := seqAfter s1.ten.violSeq,
                                     violRead := s1.ten.violRead.filter (· != next) } }

/-! ### Charms (R25–R27) -/

/-- The writable bits of a charm record (R25). -/
def charmMask : Nat :=
  2 ^ 6 + 2 ^ 7 + 2 ^ 8 + 0xFFFF * 2 ^ 16 + (2 ^ 128 - 1) * 2 ^ 32 + 0x1FF * 2 ^ 160 + 0xFFFFF * 2 ^ 192 + (2 ^ 28 - 1) * 2 ^ 224

/-- The bytes of a guest's CHARMS, GUEST filled in. -/
def charmBytes (s : State) (g : Nat) : List Byte := (clientsOf s g).flatMap (fun c => leBytes 32 (charm s c + g))

/-- Whether a record is refused (R27). -/
def charmBad (s : State) (g v : Nat) : Bool :=
  decide (2 ≤ fld v 6 2) || (fld v 6 2 == 1 && g != 0) || decide (rd s (E.guest_CARVE_PAGES g) < fld v 192 20 + fld v 224 20)

/-- The records that a write of CHARMS covers, as they would become. DEDUCED: log 24. -/
def charmsWritten (s : State) (g off : Nat) (bytes : List Byte) : List (Nat × Nat) :=
  let new := overwrite (charmBytes s g) off bytes
  let first := rd s (E.guest_FIRST_CLIENT g)
  ((List.range (rd s (E.guest_CLIENT_COUNT g))).filter (fun i =>
    decide (32 * i < off + bytes.length) && decide (off < 32 * i + 32))).map (fun i =>
      (first + i, Nat.land (leVal (slice new (32 * i) 32)) charmMask))

/-- A write of CHARMS applied as a whole, or refused as a whole with abort 0x0800_0020. -/
def applyCharms (s : State) (g off : Nat) (bytes : List Byte) : Option State :=
  let rs := charmsWritten s g off bytes
  if rs.any (fun r => charmBad s g r.2) then none
  else
    let s1 := rs.foldl (fun t r => setCharm t r.1 r.2) s
    some (rs.foldl (fun t r => settleRights t r.1) s1)

/-! ### Meanings -/

/-- PCIE_CONFIG_REQUEST: served, or answered with Request Retry Status and not carried out (R477); a function that does not exist and
one without power are answered so too. DESIGN CHOICE: log 187. -/
def execPcieConfigRequest (f : Func) (req : CfgReq) (s : State) : Host.Outcome State Fault Refusal :=
  .next (if configOpen s f.val then configServe s f.val req else send s (.config f.val) [1] [])
/-- NUMVFS_WRITE. -/
def execNumvfsWrite (n : Nat) (s : State) : Host.Outcome State Fault Refusal :=
  .next (if configOpen s 0 then numVfsWrite s n else send s (.config 0) [1] [])
/-- FUNCTION_LEVEL_RESET. One of the physical function leaves NumVFs, the virtual functions and the base address registers as they
are. DESIGN CHOICE: log 186. -/
def execFunctionLevelReset (f : Func) (s : State) : Host.Outcome State Fault Refusal :=
  .next (if configOpen s f.val then guestReset s f.val false else s)
/-- CARVE_OUT_ZEROED. -/
def execCarveOutZeroed (f : Func) (s : State) : Host.Outcome State Fault Refusal := .next (carveZeroed s f.val)
/-- BAR4_READ. -/
def execBar4Read (f : Func) (off len : Nat) (s : State) : Host.Outcome State Fault Refusal := .next (bar4Read s f.val off len)
/-- BAR4_WRITE. -/
def execBar4Write (f : Func) (off : Nat) (bytes : List (Option Byte)) (s : State) : Host.Outcome State Fault Refusal :=
  .next (bar4Write s f.val off bytes)
/-- VIOLATION_LOGGED. -/
def execViolationLogged (s : State) : Host.Outcome State Fault Refusal := .next (violationLogged s)
/-- CLIENT_RESET_DONE. -/
def execClientResetDone (g : Func) (s : State) : Host.Outcome State Fault Refusal := .next (clientResetDone s g.val)

end Sys2Proof.Machine
end

