-- ==== Sys2Proof/Machine/Islands.lean ====
section
/-! DEFINITION. Clock islands and domain crossings (R398–R417): island states, links, flags and values, stopped clocks, fences,
island resets, the reset notice and the rejoin, and what the blocks of an island lose and regain. -/

namespace Sys2Proof.Machine

/-! ### Islands (R14, R398) -/

/-- The power domain of an island, in the order of R14. -/
def islandDomain (i : Nat) : Nat :=
  at0 0 [0, 0, 0, 1, 2, 2, 3, 4, 5, 6, 7, 7, 8, 9, 14, 10, 11, 12, 12, 13, 13, 15] i

/-- The islands of a power domain. -/
def islandsOf (d : Nat) : List Nat := (List.range 22).filter (fun i => islandDomain i == d)

/-- EXTEST with RESET_N low puts the islands in TEST (R390, R398). -/
def inTest (s : State) : Bool :=
  s.boot.resetN && !s.locket.tap.reset && (s.locket.tap.ir == 0 || s.locket.tap.ir == 3 || s.locket.tap.ir == 4)

/-- The state of an island: 0 OFF, 1 RESET, 2 START, 3 RUN, 4 TEST, 5 RECOVER. A gated clock counts as OFF. -/
def islandState (s : State) (i : Nat) : Nat :=
  if inTest s then 4 else if s.power.gated.contains i then 0 else tget (fun _ => 0) s.isl.islands i

/-- The state with an island's state replaced. -/
def setIsland (s : State) (i st : Nat) : State :=
  { s with isl := { s.isl with islands := tset (fun _ => 0) s.isl.islands i st } }

/-- The islands of a domain take a state. -/
def setIslands (s : State) (d st : Nat) : State := (islandsOf d).foldl (fun t i => setIsland t i st) s

/-- An island in RUN passes through RECOVER for a change of its clock (R399). -/
def recoverIsland (s : State) (i : Nat) : State := if islandState s i = 3 then setIsland s i 5 else s

/-! ### Crossings (R404) -/

/-- A crossing: side 0, side 1, whether it has a link, flags, values, and its reset class (0 joint, 1 notice, 2 free). -/
def xingTable : List (Nat × Nat × Bool × Bool × Bool × Nat) :=
  [(0, 2, true, true, true, 0), (0, 3, true, true, true, 0), (0, 1, false, true, false, 2), (1, 2, true, true, false, 1),
   (1, 11, false, false, false, 2), (1, 12, false, false, false, 2), (3, 2, true, true, false, 0), (4, 2, true, true, false, 0),
   (5, 2, true, true, true, 0), (6, 5, true, true, false, 0), (7, 5, true, true, false, 0), (8, 5, true, true, false, 0),
   (9, 5, true, true, false, 0), (6, 2, true, false, false, 0), (7, 2, true, false, false, 0), (8, 2, true, false, false, 0),
   (9, 2, true, false, false, 0), (10, 2, true, true, true, 0), (11, 10, false, true, true, 1), (12, 10, false, true, true, 1),
   (11, 2, true, true, true, 0), (12, 2, true, true, true, 0), (11, 13, false, true, false, 2), (12, 13, false, true, false, 2),
   (11, 19, false, true, false, 2), (12, 19, false, true, false, 2), (11, 0, false, true, false, 2),
   (12, 0, false, true, false, 2), (13, 2, true, true, false, 0), (14, 2, true, true, false, 0), (14, 10, false, true, false, 2),
   (15, 2, true, true, true, 0), (16, 2, true, true, true, 0), (17, 2, true, true, false, 0), (18, 17, false, true, true, 1),
   (19, 2, true, true, false, 0), (20, 19, false, true, true, 1), (21, 2, true, true, false, 1)]

/-- A crossing's row. -/
def xingRow (x : Nat) : Nat × Nat × Bool × Bool × Bool × Nat := at0 (0, 0, false, false, false, 2) xingTable x
/-- The island of a side. -/
def sideIsland (x : Nat) (side : Bool) : Nat := if side then (xingRow x).2.1 else (xingRow x).1
/-- Whether a crossing has a link. -/
def hasLink (x : Nat) : Bool := (xingRow x).2.2.1
/-- Whether a crossing has flags. -/
def hasFlags (x : Nat) : Bool := (xingRow x).2.2.2.1
/-- Whether a crossing has values. -/
def hasValues (x : Nat) : Bool := (xingRow x).2.2.2.2.1
/-- The reset class of a crossing. -/
def resetClass (x : Nat) : Nat := (xingRow x).2.2.2.2.2

/-- A crossing's record. -/
def xingOf (s : State) (x : Nat) : XingRec := tget (fun _ => {}) s.isl.xings x
/-- The state with a crossing replaced. -/
def setXing (s : State) (x : Nat) (r : XingRec) : State :=
  { s with isl := { s.isl with xings := tset (fun _ => {}) s.isl.xings x r } }
/-- The half of a side. -/
def halfAt (r : XingRec) (side : Bool) : Half := if side then r.b else r.a
/-- The crossing with a half replaced. -/
def setHalf (r : XingRec) (side : Bool) (h : Half) : XingRec := if side then { r with b := h } else { r with a := h }

/-- A half whose flags have no event outstanding (R399). -/
def flagsIdle (h : Half) : Bool := h.flagSince.isNone && h.events == 0

/-- STATE of a crossing (R414): stalled or waiting for a rejoin as recorded; fenced while an island is off; draining while a
domain drains; two-flop while both islands run and no event is outstanding (R399). DESIGN CHOICE: log 157. -/
def xingState (s : State) (x : Nat) : Nat :=
  let r := xingOf s x
  let a := sideIsland x false
  let b := sideIsland x true
  if r.state ≠ 0 then r.state
  else if islandState s a = 0 ∨ islandState s b = 0 then 5
  else if pdState s (islandDomain a) = 3 ∨ pdState s (islandDomain b) = 3 then 2
  else if islandState s a = 3 ∧ islandState s b = 3 ∧ flagsIdle r.a ∧ flagsIdle r.b then 0 else 1

/-- STATE as XING_TABLE shows it: 0 from the device reset until an island of the crossing has been powered off (R9, R407, R414).
DESIGN CHOICE: log 157. -/
def xingShown (s : State) (x : Nat) : Nat :=
  if xingState s x = 5 ∧ (xingOf s x).state = 0 ∧ ¬ (xingOf s x).fenced then 0 else xingState s x

/-- The bytes of XING_TABLE (R414). -/
def xingTableBytes (s : State) : List Byte :=
  (List.range 38).flatMap (fun x =>
    let r := xingOf s x
    leBytes 4 (x + 256 * xingShown s x) ++ leBytes 4 r.timeouts ++ leBytes 4 r.coalesced ++ leBytes 4 r.resets)

/-- The crossings of an island with its side in each. -/
def xingsOf (i : Nat) : List (Nat × Bool) :=
  (List.range 38).filterMap (fun x => if sideIsland x false = i then some (x, false)
    else if sideIsland x true = i then some (x, true) else none)

/-- The crossings of an island that goes off are fenced (R407). -/
def fenceXings (s : State) (i : Nat) : State :=
  (xingsOf i).foldl (fun t p => setXing t p.1 { xingOf t p.1 with fenced := true }) s

/-- An entry of the crossing log (R415, R416): the state with it and the slot it took. -/
def xingLog (s : State) (id cause : Nat) (side : Bool) (failed island : Nat) : State × Nat :=
  let n := rd s E.xlog_NEXT_SLOT
  let v := s.time % 2 ^ 64 + 2 ^ 64 * (id + 2 ^ 8 * cause + 2 ^ 12 * b2n side + 2 ^ 16 * min failed 0xFFFF) + 2 ^ 96 * island
  let s1 := ringEnter s 0x2042 16 s.isl.read v
  ({ s1 with isl := { s1.isl with read := s1.isl.read.filter (· != n) } }, n)

/-! ### Clocks in force (R399, R412, R432, R438) -/

/-- CEILING of an island in CEILINGS. -/
def ceilingNow (s : State) (i : Nat) : Nat := fld (rd s E.hm_CEILINGS) (16 * i) 16

/-- The clock that an island is to have: the lowest of its ceiling, what open-world firmware has asked for, and its throttle limit. -/
def clockTarget (s : State) (i : Nat) : Nat :=
  let a := tget (fun _ => 0) s.power.asked i
  let c := if a = 0 then ceilingNow s i else min (ceilingNow s i) a
  if 6 ≤ i ∧ i ≤ 9 then min c s.power.rqLimit else if i = 4 ∧ s.power.ccxLow then min c 1200 else c

/-- The clock of an island in force, 0 before a plan has been applied. -/
def clockOf (s : State) (i : Nat) : Nat := tget (fun _ => 0) s.power.clocks i

/-- A crossing of an island is draining or waits for a rejoin. -/
def xingsBusy (s : State) (i : Nat) : Bool := (xingsOf i).any (fun p => xingState s p.1 == 2 || xingState s p.1 == 4)

/-- RQ_CLOCK: the lowest clock in force of RQ0–RQ3. DEDUCED: log 162. -/
def settleRq (s : State) : State :=
  wr s E.thm_RQ_CLOCK ((rangeFrom 6 4).foldl (fun m i => if clockOf s i = 0 then m else min m (clockOf s i)) 1400)

/-- An island's clock changes to what it is to be, through RECOVER; while a crossing of it drains or rejoins the change waits
(R399, R412). -/
def changeClock (s : State) (i : Nat) : State :=
  let c := clockTarget s i
  if c = clockOf s i then s
  else if xingsBusy s i then { s with power := { s.power with clockWaits := s.power.clockWaits.filter (· != i) ++ [i] } }
  else
    let s1 := if clockOf s i = 0 then s else recoverIsland s i
    settleRq { s1 with power := { s1.power with clocks := tset (fun _ => 0) s1.power.clocks i c,
                                                 clockWaits := s1.power.clockWaits.filter (· != i) } }

/-- The changes of clock that waited are made where the crossings let them. -/
def settleClocks (s : State) : State := s.power.clockWaits.foldl changeClock s

/-- A request that a stalled crossing refuses counts in FAILED of its log entry, while the log still holds it (R405). -/
def countFailed (s : State) (x slot : Nat) : State :=
  let k := slotKey 0x2042 slot
  let v := rd s k
  if fld v 64 8 = x ∧ fld v 72 4 = 1 then wr s k (setFld v 80 16 (min (fld v 80 16 + 1) 0xFFFF)) else s

/-! ### Links, flags and values (R400–R403) -/

/-- What a transaction may name behind a crossing lies in the island it comes to. -/
def destIsland : BeatDest → Nat → Bool
  | .address, _ => false
  | .ownership, d => d == 0
  | .sequencer, d => d == 0
  | .measurement, d => d == 0
  | .content h, d => d == 11 + h.val / 8
  | .cameo _, d => d == 10
  | .alarmAck, d => d == 1
  | .block b, d => if b.val < 0x10 then d == 11 + b.val / 8 else if b.val < 0x20 then d == 2 else if b.val < 0x30 then d == 10 else d == 3

/-- Whether a resource accepts trusted transactions only: those of R368 always, an assignable block while its OWNER reads 0xFFFD, and a
check-value unit or cameo fetch of the trusted world while its head runs (R378). -/
def destTrusted (s : State) : BeatDest → Bool
  | .address => false
  | .block b =>
    if b.val < 0x10 then hState s b.val != 0
    else if b.val < 0x20 then (match handOf s b.val with | some h => h.resetting | none => false)
    else if b.val < 0x30 then hState s (b.val - 0x20) != 0
    else true
  | _ => true

/-- An open transaction that reaches what accepts trusted transactions only (R36, R368): LKT, the locket region behind MEM0 and MEM1, or
a resource that it names in the island it comes to. -/
def trustedOnly (s : State) (x : Nat) (side : Bool) (v : Nat) (dest : BeatDest) : Bool :=
  let d := sideIsland x (!side)
  d == 3 || ((d == 15 || d == 16) && inLocket s v 1) || (destIsland dest d && destTrusted s dest)

/-- The beats of a half answered with an error response. -/
def failBeats (s : State) (x : Nat) (h : Half) : State := h.beats.foldl (fun (t : State) (v : Nat) => send t .fabric [1, (x : Int), (v : Int)] []) s

/-- LINK_BEAT: side `side` launches a beat. Beats are delivered in the order accepted; those the far side does not accept wait,
at most 8, and start the half's timer. -/
def linkBeat (s : State) (x : Nat) (side : Bool) (v : Nat) (dest : BeatDest) (trusted accepted : Bool) : State :=
  let st := xingState s x
  let r := xingOf s x
  let h := halfAt r side
  if ¬ hasLink x then s
  else if st = 3 then countFailed (send s .fabric [1, x, v] []) x r.slot
  else if st = 4 ∨ st = 5 then send s .fabric [1, x, v] []
  else if st = 2 then s
  else if ¬ trusted ∧ trustedOnly s x side v dest then send (violate s 0x09 5 v none none) .fabric [1, x, v] []
  else if accepted then
    let q := h.beats ++ [v]
    let rest := q.drop 1
    send (setXing s x (setHalf r side { h with beats := rest, since := if rest = [] then none else some s.time }))
      .fabric [0, (x : Int), (b2n side : Int), ((at0 0 q 0 : Nat) : Int)] []
  else if 8 ≤ h.beats.length then s
  else setXing s x (setHalf r side { h with beats := h.beats ++ [v], since := some (h.since.getD s.time) })

/-- FLAG_EVENT. In two-flop mode an event is delivered at once. In request/acknowledge mode it is sent where none is outstanding and
counted otherwise, and each acknowledge sends the next (R401). Events are counted too while the far side is stopped, waits or is
drained (R405). -/
def flagEvent (s : State) (x : Nat) (side : Bool) (f : FlagStep) : State :=
  let st := xingState s x
  let r := xingOf s x
  let h := halfAt r side
  if ¬ hasFlags x then s
  else match f with
    | .event v =>
      if st = 0 then send (setXing s x (setHalf r side { h with level := v })) .fabric [2, x, b2n side, v] []
      else if st = 1 ∧ flagsIdle h then
        send (setXing s x (setHalf r side { h with level := v, flagSince := some s.time })) .fabric [2, x, b2n side, v] []
      else setXing s x (setHalf r side { h with level := v, events := min (h.events + 1) 0xFFFF })
    | .acknowledged =>
      if h.flagSince.isNone ∨ (st ≠ 1 ∧ st ≠ 2) then s
      else if h.events = 0 ∨ st = 2 then setXing s x (setHalf r side { h with flagSince := none })
      else
        send (setXing s x (setHalf r side { h with events := h.events - 1, flagSince := some s.time })) .fabric
          [2, x, b2n side, h.level] []

/-- The crossing's COALESCED one higher. -/
def coalesce (r : XingRec) (b : Bool) : XingRec := { r with coalesced := satInc r.coalesced (b2n b) }

/-- VALUE_WRITE: launched, or put in the pending slot (R403). -/
def valueWrite (s : State) (x : Nat) (side : Bool) (v : Nat) : State :=
  let st := xingState s x
  let r := xingOf s x
  let h := halfAt r side
  if ¬ hasValues x then s
  else if (st = 0 ∨ st = 1) ∧ h.hold.isNone then
    setXing s x (setHalf r side { h with hold := some v, acked := false, holdSince := some s.time })
  else setXing s x (setHalf (coalesce r h.slot.isSome) side { h with slot := some v })

/-- VALUE_CAPTURE: the destination captures the value side `side` holds and acknowledges it (R402). -/
def valueCapture (s : State) (x : Nat) (side : Bool) : State :=
  let st := xingState s x
  let r := xingOf s x
  let h := halfAt r side
  match h.hold with
  | some v =>
    if (st = 0 ∨ st = 1) ∧ ¬ h.acked then setXing s x (setHalf r side { h with seen := v, acked := true }) else s
  | none => s

/-- VALUE_ACKNOWLEDGE: the source sees the acknowledge; the newest value is launched, a write at the same edge before the
slot's (R403). -/
def valueAcknowledge (s : State) (x : Nat) (side : Bool) (write : Option Nat) : State :=
  let r := xingOf s x
  let h := halfAt r side
  if h.acked then
    let next := match write with | some v => some v | none => h.slot
    let r1 := coalesce r (write.isSome && h.slot.isSome)
    setXing s x (setHalf r1 side { h with hold := next, slot := none, acked := false,
                                          holdSince := if next.isSome then some s.time else none })
  else match write with
    | some v => valueWrite s x side v
    | none => s

/-! ### Stopped clocks (R405, R406) -/

/-- Both halves empty but for their newest values, levels and the events not known to have arrived, which the rejoin sends. -/
def flushHalf (h : Half) : Half :=
  { h with beats := [], since := none, acked := false, holdSince := none, flagSince := none,
           events := min (h.events + b2n h.flagSince.isSome) 0xFFFF }

/-- XING_TIMEOUT: a handshake of side `side` has gone unanswered; the far side is deemed stopped, and the half holds its values and
events. -/
def xingTimeout (s : State) (x : Nat) (side : Bool) : State :=
  let st := xingState s x
  let r := xingOf s x
  let h := halfAt r side
  if (h.since.isNone ∧ h.flagSince.isNone ∧ h.holdSince.isNone) ∨ (st ≠ 0 ∧ st ≠ 1 ∧ st ≠ 2) then s
  else
    let far := sideIsland x (!side)
    let (s1, n) := xingLog (failBeats s x h) x 1 (!side) h.beats.length far
    let r1 := setHalf { r with state := 3, side := !side, slot := n, timeouts := satInc r.timeouts 1 } side (flushHalf h)
    raise (bump (setXing s1 x r1) E.xing_TIMEOUTS) .xingTimeout [x]

/-- XING_CLOCK_RESUMED: the far clock has run for 100 counts; its island passes through RECOVER and a rejoin begins. -/
def clockResumed (s : State) (x : Nat) : State :=
  let r := xingOf s x
  if r.state = 3 then
    recoverIsland (setXing s x { r with state := 4, a := flushHalf r.a, b := flushHalf r.b }) (sideIsland x r.side)
  else s

/-! ### What an island's reset does to its blocks (R411) -/

/-- The heads of SCAN0 or SCAN1. -/
def headsOf (n : Nat) : List Nat := rangeFrom (8 * n) 8

/-- A head stands still while its SCAN island is reset. -/
def holdHead (s : State) (h : Nat) : State :=
  if hState s h = 0 then s
  else
    let x := headOf s h
    wr (setHeadState (setHead s h { x with begun := false, taken := false, clean := false, blankNext := false, prefetched := false }) h 0)
      (E.head_LINE h) 0

/-- A port goes back to idle; it is brought up again for the heads routed to it. DEDUCED: log 99. -/
def resetPort (s : State) (p : Nat) : State :=
  setOutPort (wr (wr (wr s (E.port_STATE p) 0) (E.port_STREAMS p) 0) (E.port_MST_SLOTS p) 0) p {}

/-- A scan in progress is abandoned (R273). -/
def dropScan (s : State) (p : Nat) : State :=
  let x := touchOf s p
  if x.steps.isSome then
    raise (bump (setTouch s p { x with steps := none }) (E.panel_DISCARDED_SCANS p)) .touchResync [p]
  else s

/-- What the audio islands hold outside the dictionary is lost: mixer state, fades, bus samples. -/
def clearMixer (s : State) : State :=
  let s1 := (List.range 32).foldl (fun t b => setBus t b { busOf t b with out := 0 }) s
  let s2 := (List.range 64).foldl (fun t i => setMix t i {}) s1
  [0, 1, 2].foldl (fun t d => setFades t d []) s2

/-- The cores of a quadrant lose their contents (R420). -/
def clearQuad (s : State) (q : Nat) : State := (rangeFrom (4 * q) 4).foldl (fun t n => setCore t n {}) s

/-- Whether an entry is a counter, or a record of what was counted, of a block on an island: the heads and their taps, the composition,
the ports, the receivers, the audio and touch engines (R13, R74). DESIGN CHOICE: log 218. -/
def islandCounter (i k : Nat) : Bool :=
  let idx := k / 256
  let n := k % 256
  let h := (idx - 0x3000) / 0x40
  let off := (idx - 0x3000) % 0x40
  let within := fun a b => decide (a ≤ idx) && decide (idx < b)
  let span := fun a b => decide (a ≤ n) && decide (n ≤ b)
  if i = 11 ∨ i = 12 then
    let mine := fun (x : Nat) => decide (x / 8 + 11 = i)
    (within 0x3000 0x3400 && mine h && ((off == 4 && span 1 7) || (off == 3 && (n == 2 || n == 6 || n == 8 || n == 9)))) ||
      (within 0x3800 0x3840 && mine ((idx - 0x3800) / 4) && (idx - 0x3800) % 4 == 3 && span 2 6)
  else if i = 10 then
    within 0x3000 0x3400 && ((decide (0x10 ≤ off) && decide (off < 0x30) && off % 4 == 3 && span 4 8) || (off == 0x0E && span 7 0x0B))
  else if i = 13 then within 0x3411 0x3421 && span 3 6
  else if i = 14 then within 0x6000 0x6080 && (idx - 0x6000) % 0x10 == 1 && (span 3 8 || n == 0x0A)
  else if i = 17 then (idx == 0x4401 && span 4 6) || (within 0x4440 0x4450 && n == 8) || (within 0x44A0 0x44C0 && n == 6) ||
    (within 0x44F0 0x4510 && n == 7)
  else if i = 18 then within 0x4418 0x441E && span 2 3
  else if i = 19 then (within 0x4800 0x4840 && (idx - 0x4800) % 0x10 == 7 && span 1 9) ||
    (within 0x4C00 0x4C40 && (idx - 0x4C00) % 4 == 2 && span 1 8)
  else false

/-- The counters of an island's blocks return to 0 (R74). -/
def clearCounters (s : State) (i : Nat) : State := { s with od := tclear (islandCounter i) s.od }

/-- The line buffers of every facet lose their rows. -/
def clearLines (s : State) : State :=
  (s.compose.facets.map (·.1)).foldl (fun t n => setFacet t (n / 8) (n % 8) { facetOf t (n / 8) (n % 8) with lines := [] }) s

/-- What the reset of an island does to its blocks and to the survivors of its notice crossings, at its assertion. -/
def islandLost (s0 : State) (i : Nat) : State :=
  let s := clearCounters s0 i
  if i = 11 then (headsOf 0).foldl holdHead s
  else if i = 12 then (headsOf 1).foldl holdHead s
  else if i = 10 then
    (List.range 16).foldl (fun t h => if scanning t h then setHeadState (setHead t h { headOf t h with prefetched := false }) h 4 else t)
      (clearLines s)
  else if i = 18 then (List.range 6).foldl restartPort s
  else if i = 17 then clearMixer s
  else if i = 20 then (List.range 4).foldl dropScan s
  else if i = 19 then (List.range 16).foldl hapOff ((List.range 4).foldl (fun t p => stopPanel t p 0) s)
  else if i = 1 then setAl s 1 0
  else if i = 13 then (List.range 16).foldl resetPort s
  else if i = 14 then (List.range 8).foldl closeIncomplete s
  else if 6 ≤ i ∧ i ≤ 9 then clearQuad s (i - 6)
  else s

/-- A head composes again from its first frame whose latch point is still to come. -/
def composeAgain (s : State) (h : Nat) : State :=
  if scanning s h ∧ (headOf s h).taken then setHead s h { headOf s h with blankNext := true } else s

/-- What the blocks do once an island is back. -/
def islandBack (s : State) (i : Nat) : State :=
  let restart := fun t h => if rd t (E.head_ENABLE h) = 1 ∧ hState t h = 0 then wr t (E.head_STATE h) 1 else t
  if i = 11 then (headsOf 0).foldl restart s
  else if i = 12 then (headsOf 1).foldl restart s
  else if i = 10 then (List.range 16).foldl composeAgain s
  else if i = 18 then (List.range 6).foldl restartPort s
  else if i = 17 then settleAmps ((List.range 32).foldl wakeBus s)
  else if i = 20 then
    (List.range 4).foldl (fun t p =>
      if (touchOf t p).phase = 2 ∨ (touchOf t p).phase = 3 then setTouch t p { touchOf t p with testing := true } else t) s
  else if i = 19 then (List.range 16).foldl (fun t n => settleHap t n false) s
  else if i = 21 then guestReset (setNumVfs { s with ten := { s.ten with bars := [] } } 0) 0 false
  else s

/-! ### Resets (R408–R411) -/

/-- A half that is reset: what the far side captured from it stays there. -/
def resetHalf (h : Half) : Half := { seen := h.seen }

/-- The notice of a reset on side `side`: its half is reset, and the survivor flushes and waits (R410). -/
def notice (s : State) (x : Nat) (side : Bool) : State :=
  let r := xingOf s x
  if resetClass x ≠ 1 ∨ r.state = 4 then s
  else
    let h := halfAt r (!side)
    let (s1, n) := xingLog (failBeats s x h) x 2 side h.beats.length (sideIsland x side)
    let r1 := setHalf (setHalf { r with state := 4, side := side, slot := n, resets := satInc r.resets 1 } side
      (resetHalf (halfAt r side))) (!side) { flushHalf h with seen := 0 }
    raise (bump (setXing s1 x r1) E.xing_NOTICES) .xingNotice [x]

/-- An island's reset is asserted: joint crossings are drained and reset with it, notice crossings wait for its rejoin, and of a free
crossing its own half resets (R408). -/
def assertReset (s : State) (i : Nat) : State :=
  if islandState s i = 1 then s
  else
    let s1 := islandLost (setIsland s i 1) i
    (xingsOf i).foldl (fun t p =>
      if resetClass p.1 = 0 then
        let r := xingOf t p.1
        setXing (failBeats (failBeats t p.1 r.a) p.1 r.b) p.1
          { timeouts := r.timeouts, coalesced := r.coalesced, resets := satInc r.resets 1, fenced := r.fenced }
      else if resetClass p.1 = 2 then
        setXing t p.1 (setHalf (xingOf t p.1) p.2 (resetHalf (halfAt (xingOf t p.1) p.2)))
      else notice t p.1 p.2) s1

/-- Whether an island holds a trusted-held block (R378), and the block named in the refusal. -/
def heldBlock (s : State) (i : Nat) : Option Nat :=
  let on := fun (l : List Nat) => l.find? (fun h => hState s h != 0)
  if i = 3 then some 0x32
  else if i = 11 then on (headsOf 0)
  else if i = 12 then on (headsOf 1)
  else if i = 10 then (on (List.range 16)).map (· + 0x20)
  else if i = 2 then ((List.range 8).find? (fun k => cvOwner s k == 0xFFFD)).map (· + 0x10)
  else none

/-- A request of open-world firmware is refused under R381: error response, violation 0x0A, POWER_REFUSALS, and a doorbell to
the trusted world. -/
def refuseHeld (s : State) (block domain : Nat) : State :=
  let s1 := violate (send s .fabric [1] []) 0x0A 5 (block + 256 * domain) none none
  raiseTrusted (bump s1 E.lkt_POWER_REFUSALS) .powerRefusal [block, domain]

/-- The cores of a quadrant hold no tile and no workgroup (R145). -/
def quadIdle (s : State) (q : Nat) : Bool := (rangeFrom (4 * q) 4).all (fun n => coreIdle (coreOf s n))

/-- Whether R409 refuses a reset request for an island, trusted-held blocks apart; a quadrant counts as drained when its cores hold no
tile and no workgroup, as QUAD_DRAINED states it (R143). DEDUCED: log 159. -/
def resetRefused (s : State) (i : Nat) : Bool :=
  [0, 2, 3, 4, 5, 15, 16].contains i || (decide (6 ≤ i) && decide (i ≤ 9) && !quadIdle s (i - 6)) ||
    islandState s i == 1 || islandState s i == 5

/-- ISLAND_RESET_REQUEST: refused with CAUSE 3, or the reset is asserted. -/
def resetRequest (s : State) (i : Nat) (xing : Option Nat) : State :=
  let held := heldBlock s i
  if xing.isSome ∨ resetRefused s i ∨ held.isSome then
    let s1 := match xing, held with
      | none, some b => refuseHeld s b (islandDomain i)
      | _, _ => send s .fabric [1] []
    let (s2, _) := xingLog s1 (xing.getD 0xFF) 3 false 0 i
    raise (bump s2 E.xing_RESET_REFUSED) .xingResetRefused [i]
  else if islandState s i = 0 then s
  else assertReset s i

/-- ISLAND_RESET_RELEASE: the island enters START with its joint crossing halves; blocks whose crossings need no rejoin go
on. -/
def resetRelease (s : State) (i : Nat) : State :=
  if islandState s i ≠ 1 ∨ ¬ pdOn s (islandDomain i) then s
  else
    let s1 := setIsland s i 2
    if (xingsOf i).any (fun p => resetClass p.1 == 1 && (xingOf s1 p.1).state == 4) then s1 else islandBack s1 i

/-- ISLAND_CLOCK_STABLE: an island in RECOVER returns to RUN, and one in START whose first configuration is applied enters
it. DEDUCED: log 158. -/
def clockStable (s : State) (i : Nat) : State :=
  let st := islandState s i
  if st = 5 ∨ (st = 2 ∧ ¬ (xingsOf i).any (fun p => (xingOf s p.1).state == 4)) then setIsland s i 3 else s

/-- A half after the rejoin: its newest value is launched anew, and the level exchanged opens the round trips of its events. -/
def relaunch (s : State) (h : Half) : Half :=
  let v := match h.slot with | some x => some x | none => h.hold
  { h with hold := v, slot := none, acked := false, holdSince := if v.isSome then some s.time else none,
           flagSince := if h.events = 0 then none else some s.time }

/-- XING_REJOIN: the island that was reset has left RESET; both halves begin empty, levels and newest values are sent, and the
blocks act (R411). -/
def xingRejoin (s : State) (x : Nat) : State :=
  let r := xingOf s x
  let i := sideIsland x r.side
  if r.state ≠ 4 ∨ islandState s i = 1 ∨ islandState s i = 0 then s
  else
    let s1 := setXing s x { r with state := 0, a := relaunch s r.a, b := relaunch s r.b }
    let s2 := send (send s1 .fabric [2, x, 0, r.a.level] []) .fabric [2, x, 1, r.b.level] []
    let s3 := raise (if islandState s2 i = 5 then setIsland s2 i 3 else s2) .xingRejoin [x]
    settleClocks (if resetClass x = 1 ∧ ¬ (xingsOf i).any (fun p => (xingOf s3 p.1).state == 4) then islandBack s3 i else s3)

/-- XING_NOTICE: an island's reset on one side of a notice crossing, also one that comes without a request. DEDUCED: log 159. -/
def xingNotice (s : State) (x : Nat) (side : Bool) : State :=
  let i := sideIsland x side
  if resetClass x ≠ 1 ∨ i = 2 ∨ islandState s i = 0 ∨ islandState s (sideIsland x (!side)) = 0 then s
  else notice (assertReset s i) x side

/-- PERST_N: the endpoint restarts its link training; after step 6 of boot it is a reset of PCIE, and of every function at the
rejoin (R411, R449, R452). PRESUMED: log 12. -/
def perstN (s : State) : State :=
  if s.boot.step < 6 ∨ islandState s 21 = 0 then s else xingNotice s 0x25 false

/-! ### Meanings -/

/-- LINK_BEAT. -/
def execLinkBeat (x : Xing) (side : XSide) (v : Nat) (dest : BeatDest) (trusted accepted : Bool) (s : State) :
    Host.Outcome State Fault Refusal := .next (linkBeat s x.val side v dest trusted accepted)
/-- FLAG_EVENT. -/
def execFlagEvent (x : Xing) (side : XSide) (f : FlagStep) (s : State) : Host.Outcome State Fault Refusal :=
  .next (flagEvent s x.val side f)
/-- VALUE_WRITE. -/
def execValueWrite (x : Xing) (side : XSide) (v : Nat) (s : State) : Host.Outcome State Fault Refusal :=
  .next (valueWrite s x.val side v)
/-- VALUE_CAPTURE. -/
def execValueCapture (x : Xing) (side : XSide) (s : State) : Host.Outcome State Fault Refusal :=
  .next (valueCapture s x.val side)
/-- VALUE_ACKNOWLEDGE. -/
def execValueAcknowledge (x : Xing) (side : XSide) (write : Option Nat) (s : State) : Host.Outcome State Fault Refusal :=
  .next (valueAcknowledge s x.val side write)
/-- XING_TIMEOUT. -/
def execXingTimeout (x : Xing) (side : XSide) (s : State) : Host.Outcome State Fault Refusal :=
  .next (xingTimeout s x.val side)
/-- XING_CLOCK_RESUMED. -/
def execXingClockResumed (x : Xing) (s : State) : Host.Outcome State Fault Refusal := .next (clockResumed s x.val)
/-- ISLAND_RESET_REQUEST. -/
def execIslandResetRequest (i : Island) (xing : Option Xing) (s : State) : Host.Outcome State Fault Refusal :=
  .next (resetRequest s i.val (xing.map (·.val)))
/-- XING_NOTICE. -/
def execXingNotice (x : Xing) (side : XSide) (s : State) : Host.Outcome State Fault Refusal :=
  .next (xingNotice s x.val side)
/-- XING_REJOIN. -/
def execXingRejoin (x : Xing) (s : State) : Host.Outcome State Fault Refusal := .next (xingRejoin s x.val)
/-- PERST_N. -/
def execPerstN (s : State) : Host.Outcome State Fault Refusal := .next (perstN s)
/-- ISLAND_RESET_RELEASE. -/
def execIslandResetRelease (i : Island) (s : State) : Host.Outcome State Fault Refusal := .next (resetRelease s i.val)
/-- ISLAND_CLOCK_STABLE. -/
def execIslandClockStable (i : Island) (s : State) : Host.Outcome State Fault Refusal := .next (clockStable s i.val)

end Sys2Proof.Machine
end

