-- ==== Sys2Proof/Machine/Flash.lean ====
section
/-! DEFINITION. The boot flash and the hallmark records (R86–R88, R114, R388, R439, R440, R446, R450): image slots, the bytes
of regions, the record in force. -/

namespace Sys2Proof.Machine

/-! ### Hallmark records -/

/-- The clock ceiling of an island at stepping A, MHz (R14); those that are no whole number are rounded in a way the manual
leaves open. -/
def steppingCeiling (i : Nat) : Nat :=
  if i = 17 then (roundFree 24576 100).toNat
  else if i = 18 then (roundFree 24576 1000).toNat
  else at0 0 [25, 100, 1000, 1200, 1600, 1400, 1400, 1400, 1400, 1400, 600, 600, 600, 250, 500, 1067, 1067, 0, 0, 400, 50, 500] i

/-- The factory VDD_CORE target, mV (R428). -/
def factoryMv : Nat := 750

/-- The factory record in OTP (R440). -/
def factoryRecord : HallmarkRec :=
  { targetMv := factoryMv, temp := Sys2Proof.Config.factoryTemp.toInt,
    islands := (List.range 22).map (fun i => [steppingCeiling i, (Sys2Proof.Config.factoryMargin i).val, 0, 0, 0]),
    dram := (List.range 64).map (fun i => (Sys2Proof.Config.factoryDram i).toNat),
    touch := (List.range 256).map (fun n => Sys2Proof.Config.factoryTouchRef n % 65536) }

/-- The plan in force (R440). -/
def plan (s : State) : HallmarkRec := (planRecord s).getD factoryRecord

/-- CEILING of an island under a record. DESIGN CHOICE: log 166. -/
def ceilingOf (r : HallmarkRec) (i : Nat) : Nat := at0 0 (at0 [] r.islands i) 0
/-- MARGIN of an island under a record. -/
def marginOf (r : HallmarkRec) (i : Nat) : Nat := at0 0 (at0 [] r.islands i) 1

/-- The 788 bytes of a hallmark record (R439). -/
def recordBytes (r : HallmarkRec) : List Byte :=
  let isl := fun (l : List Nat) => leBytes 2 (at0 0 l 0) ++ leBytes 2 (at0 0 l 1 + 256 * at0 0 l 2 + 512 * at0 0 l 3) ++
    leBytes 4 (at0 0 l 4 % 65536)
  let body := leBytes 4 0x4D484749 ++ leBytes 2 0x0100 ++ leBytes 2 22 ++ leBytes 4 r.hours ++ leBytes 4 r.seq ++
    leBytes 2 r.targetMv ++ leBytes 2 factoryMv ++ leBytes 2 (r.kind + 256 * r.result) ++ leBytes 2 (ofInt 16 r.temp) ++
    leBytes 8 0 ++ (List.range 22).flatMap (fun i => isl (at0 [] r.islands i)) ++
    (List.range 64).flatMap (fun i => leBytes 1 (at0 0 r.dram i)) ++
    (List.range 256).flatMap (fun n => leBytes 2 (at0 0 r.touch n))
  body ++ leBytes 4 (crc32 body)

/-- The valid records in SEQ order. -/
def recordsInOrder (s : State) : List HallmarkRec := sortBy (fun a b => decide (a.seq ≤ b.seq)) s.power.records

/-- The slot of the hallmark region that a record takes, 0–63 in ring order (R440). DEDUCED: log 165. -/
def recordSlot (r : HallmarkRec) : Nat := (r.seq + 63) % 64

/-- A record is written to its slot of the ring, in the place of the record 64 before it. -/
def putRecord (s : State) (r : HallmarkRec) : State :=
  { s with power := { s.power with records := s.power.records.filter (fun x => recordSlot x != recordSlot r) ++ [r] } }

/-! ### Image slots (R446, R450) -/

/-- An image slot: 0, 1 trusted, 2, 3 open world. DESIGN CHOICE: log 98. -/
def imgOf (s : State) (i : Nat) : ImgSlot := at0 {} s.flash.imgs i
/-- The state with an image slot replaced. -/
def setImg (s : State) (i : Nat) (x : ImgSlot) : State := { s with flash := { s.flash with imgs := setAt s.flash.imgs i x } }

/-- The first slot of a kind: 1 open world, 2 trusted, as IMAGE_VERIFY numbers them. -/
def kindBase (kind : Nat) : Nat := if kind = 1 then 2 else 0

/-- The slot of a kind that the running image was not booted from. -/
def inactiveSlot (s : State) (kind : Nat) : Nat :=
  let b := kindBase kind
  2 * b + 1 - (if kind = 1 then s.flash.open_ else s.flash.trusted)

/-- The slot that boots: of the valid ones of a kind that are not rejected, the one with the higher store count (R450). -/
def bootSlot (s : State) (kind : Nat) : Option Nat :=
  let good := [kindBase kind, kindBase kind + 1].filter (fun i => (imgOf s i).valid && !(imgOf s i).rejected)
  good.foldl (fun a i => match a with
    | some j => if (imgOf s j).count < (imgOf s i).count then some i else a
    | none => some i) none

/-- An image slot written anew: invalid until it is verified (R375). -/
def writeImg (s : State) (i : Nat) (bytes : List Byte) : State := setImg s i { bytes := bytes }

/-- IMAGE_VERIFY of a slot: one that verifies becomes valid with the newest store count and boots as a trial; one that does not is
invalid (R114, R375, R450). The second value is whether it verified. -/
def verifyImg (s : State) (i : Nat) : State × Bool :=
  let x := imgOf s i
  let other := imgOf s (if i % 2 = 0 then i + 1 else i - 1)
  if Sys2Proof.Config.imageVerifies x.bytes then
    (if x.valid then s else setImg s i { x with valid := true, trial := true, rejected := false, count := other.count + 1 }, true)
  else (setImg s i { x with valid := false }, false)

/-! ### Regions as FLASH_WRITE and FLASH_READ number them (R375) -/

/-- Offset in the flash and size of a region: 0 configuration, 1 hallmark, 2 open image slots, 3 trusted image slots.
DESIGN CHOICE: log 145. -/
def flashRegion (region : Nat) : Nat × Nat :=
  at0 (0, 0) [(0x01210000, 0x120000), (0x01330000, 0x10000), (0x00210000, 0xC00000), (0x00010000, 0x200000)] region

/-- The bytes of an image slot. -/
def imgSize (region : Nat) : Nat := if region = 2 then 0x600000 else 0x100000

/-- Bytes written to an image region: each slot they touch is invalid until it verifies. Bytes between the old end of a slot's
contents and the write are 0. -/
def flashImages (s : State) (region off : Nat) (bs : List Byte) : State :=
  let n := imgSize region
  [0, 1].foldl (fun t k =>
    let lo := max off (k * n)
    let hi := min (off + bs.length) ((k + 1) * n)
    if lo < hi then
      let i := kindBase (if region = 2 then 1 else 2) + k
      let old := (imgOf t i).bytes
      let rel := lo - k * n
      let padded := old ++ List.replicate (rel - old.length) 0
      writeImg t i (overwrite padded rel (slice bs (lo - off) (hi - lo)))
    else t) s

/-- Bytes written raw to the configuration or hallmark region: what the model holds of the slots they touch is no longer there. -/
def flashRaw (s : State) (region off : Nat) (bs : List Byte) : State :=
  let base := (flashRegion region).1 + off
  let raw := (List.range bs.length).foldl (fun t i => tset (fun _ => none) t (base + i) bs[i]?) s.flash.raw
  let touches := fun (lo n : Nat) => decide (off < lo + n) && decide (lo < off + bs.length)
  let s1 := { s with flash := { s.flash with raw := raw } }
  if region = 1 then
    { s1 with power := { s1.power with records := s1.power.records.filter (fun r => !touches (1024 * recordSlot r) 1024) } }
  else
    let st := (List.range 2).map (fun k => if touches (0x80000 * k) 0x80000 then none else at0 none s.flash.stored k)
    let tr := if touches 0x100000 0x10000 then none else s.flash.training
    { s1 with flash := { s1.flash with stored := st, training := tr } }

/-- FLASH_WRITE. -/
def flashWrite (s : State) (region off : Nat) (bs : List Byte) : State :=
  if 2 ≤ region then flashImages s region off bs else flashRaw s region off bs

/-- A byte of a region, where the model holds it. -/
def flashByte (s : State) (region off : Nat) : Option Byte :=
  if 2 ≤ region then (imgOf s (kindBase (if region = 2 then 1 else 2) + off / imgSize region)).bytes[off % imgSize region]?
  else if region = 1 then
    match s.power.records.find? (fun r => recordSlot r == off / 1024) with
    | some r =>
      match (recordBytes r)[off % 1024]? with
      | some b => some b
      | none => tget (fun _ => none) s.flash.raw ((flashRegion 1).1 + off)
    | none => tget (fun _ => none) s.flash.raw ((flashRegion 1).1 + off)
  else tget (fun _ => none) s.flash.raw ((flashRegion 0).1 + off)

/-- FLASH_READ: a byte the model does not hold is free, since the manual gives the region's encoding no bytes there.
DESIGN CHOICE: log 146. -/
def flashBytes (s : State) (region off n : Nat) : List Byte :=
  (List.range n).map (fun i => (flashByte s region (off + i)).getD (Sys2Proof.Config.freeByte (s.free + i)))

end Sys2Proof.Machine
end

