-- ==== Sys2Proof/Machine/Loupe.lean ====
section
/-! DEFINITION. The loupe's RISC-V debug module (R390, R391): halts, abstract register access, the program buffer and system bus
access, with the register layouts of External Debug Support 0.13.2. -/

namespace Sys2Proof.Machine

/-! ### Harts and halts -/

/-- Whether an enable of debug is in force: 0 OW_INV, 1 OW_NONINV, 2 TW_INV, 3 TW_NONINV (R391). -/
def enableOn (s : State) (i : Nat) : Bool := bitOf (rd s E.dbg_DEBUG_STATE) i

/-- A halt request: control cores under OW_INV, TC under TW_INV, shading harts under OW_INV. -/
def haltRequest (s : State) : HaltTarget → State
  | .control c =>
    if enableOn s 0 ∧ ¬ s.locket.halted.contains c.val then
      { s with locket := { s.locket with halted := s.locket.halted ++ [c.val] } } else s
  | .trustedCore =>
    if enableOn s 2 ∧ ¬ s.locket.halted.contains 4 then
      { s with locket := { s.locket with halted := s.locket.halted ++ [4] } } else s
  | .shading core h =>
    if enableOn s 0 then
      let k := coreOf s core.val
      setCore s core.val (setHart k h.val { hartOf k h.val with halted := true })
    else s

/-- The hart that HARTSEL names (R390). -/
def hartTarget (sel : Nat) : Option HaltTarget :=
  if h : sel < 4 then some (.control ⟨sel, h⟩)
  else if sel = 4 then some .trustedCore
  else if h : sel < 69 then some (.shading ⟨(sel - 5) / 4, by omega⟩ ⟨(sel - 5) % 4, by omega⟩)
  else none

/-- The shading hart of a HARTSEL from 5 on. -/
def shadingOf (s : State) (sel : Nat) : HartRec := hartOf (coreOf s ((sel - 5) / 4)) ((sel - 5) % 4)
/-- The state with that shading hart replaced. -/
def setShading (s : State) (sel : Nat) (h : HartRec) : State :=
  setCore s ((sel - 5) / 4) (setHart (coreOf s ((sel - 5) / 4)) ((sel - 5) % 4) h)

/-- A hart is held by debug. -/
def hartHalted (s : State) (sel : Nat) : Bool :=
  if sel < 5 then s.locket.halted.contains sel else decide (sel < 69) && (shadingOf s sel).halted

/-- A hart has power and runs. -/
def hartPresent (s : State) (sel : Nat) : Bool :=
  if sel < 4 then pdOn s 2 && decide (5 ≤ s.boot.step)
  else if sel = 4 then decide (2 ≤ s.boot.step) && rd s E.lkt_LKT_STATE != 3
  else decide (sel < 69) && corePowered s ((sel - 5) / 4)

/-! ### Registers of a hart -/

/-- A CSR of a core; the triggers are reached through tselect (R390). -/
def csrRead (c : CpuRec) (n : Nat) : Nat :=
  if n = 1 then c.fcsr % 32
  else if n = 2 then c.fcsr / 32 % 8
  else if n = 3 then c.fcsr % 256
  else if n = 0x7B1 then c.pc
  else if 0x7A1 ≤ n ∧ n ≤ 0x7A3 then tget (fun _ => 0) c.csr (0x1000 + 4 * tget (fun _ => 0) c.csr 0x7A0 + (n - 0x7A0))
  else tget (fun _ => 0) c.csr n

/-- A core after a write of a CSR: four triggers, and nothing that the trusted image has locked (R369, R390). -/
def csrWrite (locked : Bool) (c : CpuRec) (n v : Nat) : CpuRec :=
  let put := fun (k x : Nat) => { c with csr := tset (fun _ => 0) c.csr k (x % 2 ^ 64) }
  if n = 1 then { c with fcsr := setFld c.fcsr 0 5 v }
  else if n = 2 then { c with fcsr := setFld c.fcsr 5 3 v }
  else if n = 3 then { c with fcsr := v % 256 }
  else if n = 0x7B1 then { c with pc := v % 2 ^ 64 }
  else if n = 0x7A0 then put n (v % 4)
  else if 0x7A1 ≤ n ∧ n ≤ 0x7A3 then put (0x1000 + 4 * tget (fun _ => 0) c.csr 0x7A0 + (n - 0x7A0)) v
  else if locked ∧ lockedCsr n then c
  else put n v

/-- A CSR of a shading hart, where it has one. -/
def shadingCsr (h : HartRec) (n : Nat) : Option Nat :=
  match n with
  | 1 => some (h.fcsr % 32)
  | 2 => some (h.fcsr / 32 % 8)
  | 3 => some (h.fcsr % 256)
  | 8 => some h.vstart
  | 0xF => some h.vcsr
  | 0x7B1 => some h.pc
  | 0xC20 => some h.vl
  | 0xC21 => some h.vtype
  | 0xC22 => some 64
  | _ => none

/-- A shading hart after a write of a CSR, where it may be written. -/
def shadingCsrWrite (h : HartRec) (n v : Nat) : Option HartRec :=
  match n with
  | 1 => some { h with fcsr := setFld h.fcsr 0 5 v }
  | 2 => some { h with fcsr := setFld h.fcsr 5 3 v }
  | 3 => some { h with fcsr := v % 256 }
  | 8 => some { h with vstart := v % 512 }
  | 0xF => some { h with vcsr := v % 8 }
  | 0x7B1 => some { h with pc := v % 2 ^ 32 }
  | _ => none

/-- A register of a hart by its number in an abstract command: CSRs from 0, integer registers from 0x1000, FP registers from 0x1020.
PRESUMED: log 153. -/
def hartReg (s : State) (sel n : Nat) : Option Nat :=
  let x := fun (t : Tbl Nat) (i : Nat) => if i = 0 then 0 else tget (fun _ => 0) t i
  if 0x1040 ≤ n then none
  else if sel < 5 then
    let c := cpuOf s sel
    if n < 0x1000 then some (csrRead c n)
    else if n < 0x1020 then some (x c.x (n - 0x1000))
    else some (tget (fun _ => 0) c.f (n - 0x1020))
  else
    let h := shadingOf s sel
    if n < 0x1000 then shadingCsr h n
    else if n < 0x1020 then some (x h.x (n - 0x1000))
    else some (tget (fun _ => 0) h.f (n - 0x1020))

/-- The state after a register of a hart has been written. -/
def setHartReg (s : State) (sel n v : Nat) : Option State :=
  let x := fun (t : Tbl Nat) (i w : Nat) => if i = 0 then t else tset (fun _ => 0) t i w
  if 0x1040 ≤ n then none
  else if sel < 5 then
    let c := cpuOf s sel
    let w := v % 2 ^ 64
    if n < 0x1000 then some (setCpu s sel (csrWrite (s.control.locked && decide (sel < 4)) c n v))
    else if n < 0x1020 then some (setCpu s sel { c with x := x c.x (n - 0x1000) w })
    else some (setCpu s sel { c with f := tset (fun _ => 0) c.f (n - 0x1020) w })
  else
    let h := shadingOf s sel
    let w := v % 2 ^ 32
    if n < 0x1000 then (shadingCsrWrite h n v).map (setShading s sel)
    else if n < 0x1020 then some (setShading s sel { h with x := x h.x (n - 0x1000) w })
    else some (setShading s sel { h with f := tset (fun _ => 0) h.f (n - 0x1020) w })

/-- A halted hart resumes; with dcsr.step it runs one instruction, which the model does not have, and halts again. DEDUCED: log 223. -/
def resumeHart (s : State) (sel : Nat) : State :=
  let s1 := { s with control := { s.control with dm := { s.control.dm with resumed := sel :: s.control.dm.resumed.filter (· != sel) } } }
  if sel < 5 then
    if bitOf (tget (fun _ => 0) (cpuOf s sel).csr 0x7B0) 2 then
      drawn (setCpu s1 sel { cpuOf s1 sel with pc := freeVal s1 (2 ^ 64) })
    else { s1 with locket := { s1.locket with halted := s1.locket.halted.filter (· != sel) } }
  else if sel < 69 then setShading s1 sel { shadingOf s1 sel with halted := false }
  else s1

/-! ### The program buffer -/

/-- The signed 12-bit immediate of an instruction word. -/
def imm12 (v : Nat) : Int := if 2048 ≤ v then (v : Int) - 4096 else (v : Int)

/-- What an instruction of the program buffer did: the state after it, the end at EBREAK, or an exception. -/
inductive ProgEnd where
  | on (s : State)
  | done (s : State)
  | trap (s : State)
  deriving DecidableEq, Repr

/-- A load of the program buffer, from the bus in the core's world. -/
def progLoad (s : State) (sel w : Nat) : ProgEnd :=
  let f3 := fld w 12 3
  let n := 2 ^ (f3 % 4)
  let a := ((((hartReg s sel (0x1000 + fld w 15 5)).getD 0 : Nat) : Int) + imm12 (fld w 20 12)).toNat % 2 ^ 64
  match busRead s (sel == 4) a n with
  | (t, some bs) =>
    let v := leVal bs
    let x := if f3 < 3 ∧ bitOf v (8 * n - 1) then v + 2 ^ 64 - 2 ^ (8 * n) else v
    .on ((setHartReg t sel (0x1000 + fld w 7 5) x).getD t)
  | (t, none) => .trap t

/-- A store of the program buffer. -/
def progStore (s : State) (sel w : Nat) : ProgEnd :=
  let n := 2 ^ (fld w 12 3 % 4)
  let imm := imm12 (fld w 25 7 * 32 + fld w 7 5)
  let a := ((((hartReg s sel (0x1000 + fld w 15 5)).getD 0 : Nat) : Int) + imm).toNat % 2 ^ 64
  let r := busWrite s (sel == 4) a (leBytes n ((hartReg s sel (0x1000 + fld w 20 5)).getD 0))
  if r.2 then .on r.1 else .trap r.1

/-- A CSR instruction of the program buffer. -/
def progCsr (s : State) (sel w : Nat) : ProgEnd :=
  let f3 := fld w 12 3
  match hartReg s sel (fld w 20 12) with
  | none => .trap s
  | some old =>
    let arg := if 4 ≤ f3 then fld w 15 5 else (hartReg s sel (0x1000 + fld w 15 5)).getD 0
    let new := if f3 % 4 = 1 then arg else if f3 % 4 = 2 then Nat.lor old arg else old - Nat.land old arg
    let s1 := if f3 % 4 ≠ 1 ∧ fld w 15 5 = 0 then some s else setHartReg s sel (fld w 20 12) new
    match s1 with
    | none => .trap s
    | some t => .on ((setHartReg t sel (0x1000 + fld w 7 5) old).getD t)

/-- An instruction of the program buffer: EBREAK, loads and stores of a core, LUI, ADDI, CSR instructions and fences have their effect;
another writes a free value to the register that its rd names. DEDUCED: log 223. -/
def progStep (s : State) (sel w : Nat) : ProgEnd :=
  let op := fld w 0 7
  let rd1 := 0x1000 + fld w 7 5
  let put := fun (v : Nat) => ProgEnd.on ((setHartReg s sel rd1 v).getD s)
  if w = 0x00100073 ∨ fld w 0 16 = 0x9002 then .done s
  else if op = 0x03 ∧ sel < 5 ∧ fld w 12 3 < 7 then progLoad s sel w
  else if op = 0x23 ∧ sel < 5 ∧ fld w 12 3 < 4 then progStore s sel w
  else if op = 0x37 then put (if bitOf w 31 then w / 4096 * 4096 + 2 ^ 64 - 2 ^ 32 else w / 4096 * 4096)
  else if op = 0x13 ∧ fld w 12 3 = 0 then
    put (((((hartReg s sel (0x1000 + fld w 15 5)).getD 0 : Nat) : Int) + imm12 (fld w 20 12) + 2 ^ 64).toNat)
  else if op = 0x73 ∧ fld w 12 3 % 4 ≠ 0 then progCsr s sel w
  else if op = 0x0F then .on s
  else .on (drawn ((setHartReg s sel rd1 (freeVal s (2 ^ 64))).getD s))

/-- The program buffer runs on a hart from its first word to EBREAK or its end, with whether it met no exception. -/
def progRun (s : State) (sel : Nat) : List Nat → State × Bool
  | [] => (s, true)
  | w :: r => match progStep s sel w with
    | .on t => progRun t sel r
    | .done t => (t, true)
    | .trap t => (t, false)

/-! ### The module's registers -/

/-- The debug module's record replaced. -/
def setDm (s : State) (d : DebugMod) : State := { s with control := { s.control with dm := d } }

/-- The first error of abstract commands stays until it is cleared. -/
def cmdErr (s : State) (e : Nat) : State :=
  let d := s.control.dm
  if d.cmderr = 0 then setDm s { d with cmderr := e } else s

/-- A data register of the module. -/
def dmData (s : State) (i : Nat) : Nat := tget (fun _ => 0) s.control.dm.data i
/-- The module with a data register replaced. -/
def setDmData (s : State) (i v : Nat) : State :=
  let d := s.control.dm
  setDm s { d with data := tset (fun _ => 0) d.data i (v % 2 ^ 32) }

/-- The register transfer of an abstract command. -/
def transfer (s : State) (sel cmd : Nat) : Option State :=
  let n := fld cmd 0 16
  let wide := fld cmd 20 3 == 3
  match hartReg s sel n with
  | none => none
  | some old =>
    if bitOf cmd 16 then
      let v := if wide then dmData s 0 + 2 ^ 32 * dmData s 1 else old / 2 ^ 32 * 2 ^ 32 + dmData s 0
      setHartReg s sel n v
    else
      let s1 := setDmData s 0 old
      some (if wide then setDmData s1 1 (old / 2 ^ 32) else s1)

/-- An abstract command: access to a register of a halted hart, then the program buffer (R390). PRESUMED: log 153. -/
def command (s0 : State) (cmd : Nat) : State :=
  let d := s0.control.dm
  let s := setDm s0 { d with command := cmd }
  let size := fld cmd 20 3
  if d.cmderr ≠ 0 then s
  else if fld cmd 24 8 ≠ 0 ∨ (bitOf cmd 17 ∧ size ≠ 2 ∧ ¬ (size = 3 ∧ d.sel < 5)) then cmdErr s 2
  else if ¬ hartHalted s d.sel then cmdErr s 4
  else
    match (if bitOf cmd 17 then transfer s d.sel cmd else some s) with
    | none => cmdErr s 3
    | some s1 =>
      let s2 := if bitOf cmd 19 then setDm s1 { s1.control.dm with command := setFld cmd 0 16 (fld cmd 0 16 + 1) } else s1
      if bitOf cmd 18 then
        let r := progRun s2 d.sel ((List.range 8).map (tget (fun _ => 0) d.progbuf))
        if r.2 then r.1 else cmdErr r.1 3
      else s2

/-- A data or program-buffer word has been accessed; abstractauto may run the last command again. -/
def autoExec (s : State) (bit : Nat) : State := if bitOf s.control.dm.auto bit then command s s.control.dm.command else s

/-- A system bus access of 32 or 64 bits, a write of `v` or a read, trusted under TW_INV and open under OW_INV (R367, R391). The first
error stays until it is cleared. DEDUCED: log 223. -/
def systemBus (s : State) (v : Option Nat) : State :=
  let d := s.control.dm
  let n := 2 ^ d.sbAccess
  let fail := fun (t : State) (e : Nat) => setDm t { t.control.dm with sbError := e }
  let next := fun (t : State) =>
    setDm t { t.control.dm with sbAddr := if d.sbAutoInc then (d.sbAddr + n) % 2 ^ 64 else d.sbAddr }
  if d.sbError ≠ 0 then s
  else if d.sbAccess ≠ 2 ∧ d.sbAccess ≠ 3 then fail s 4
  else if d.sbAddr % n ≠ 0 then fail s 3
  else if ¬ enableOn s 0 ∧ ¬ enableOn s 2 then fail s 7
  else if busPlace s d.sbAddr n = .nowhere then fail s 2
  else match v with
    | some w =>
      let r := busWrite s (enableOn s 2) d.sbAddr (leBytes n w)
      if r.2 then next r.1 else fail r.1 7
    | none =>
      match busRead s (enableOn s 2) d.sbAddr n with
      | (t, some bs) => next (setDm t { t.control.dm with sbData := leVal bs })
      | (t, none) => fail t 7

/-- A write of dmcontrol: HARTSEL, then HALTREQ, RESUMEREQ and the acknowledgement of a reset; dmactive 0 resets the module. -/
def dmControl (s : State) (v : Nat) : State :=
  if ¬ bitOf v 0 then setDm s { result := s.control.dm.result }
  else
    let sel := fld v 16 10 + 1024 * fld v 6 10
    let d := s.control.dm
    let s1 := setDm s { d with active := true, sel := sel, acked := if bitOf v 28 then sel :: d.acked.filter (· != sel) else d.acked }
    if bitOf v 31 then (match hartTarget sel with | some t => haltRequest s1 t | none => s1)
    else if bitOf v 30 ∧ hartHalted s1 sel then resumeHart s1 sel
    else s1

/-- dmstatus of the hart selected. -/
def dmStatus (s : State) : Nat :=
  let d := s.control.dm
  let two := fun (i : Nat) (b : Bool) => b2n b * 3 * 2 ^ i
  let there := decide (d.sel < 69)
  let present := hartPresent s d.sel
  let halted := hartHalted s d.sel
  2 + 2 ^ 7 + two 8 (there && present && halted) + two 10 (there && present && !halted) + two 12 (there && !present) +
    two 14 (!there) + two 16 (d.resumed.contains d.sel) + two 18 (there && !d.acked.contains d.sel) + 2 ^ 22

/-- What a read of a register of the module returns, and the state after it: the last read of sbdata0 may start another. -/
def dmRead (s : State) (a : Nat) : State × Nat :=
  let d := s.control.dm
  if a = 0x04 ∨ a = 0x05 then (autoExec s (a - 4), dmData s (a - 4))
  else if a = 0x10 then (s, fld d.sel 0 10 * 2 ^ 16 + fld d.sel 10 10 * 2 ^ 6 + b2n d.active)
  else if a = 0x11 then (s, dmStatus s)
  else if a = 0x16 then (s, 8 * 2 ^ 24 + d.cmderr * 2 ^ 8 + 2)
  else if a = 0x18 then (s, d.auto)
  else if 0x20 ≤ a ∧ a < 0x28 then (autoExec s (a - 16), tget (fun _ => 0) d.progbuf (a - 0x20))
  else if a = 0x38 then
    (s, 2 ^ 29 + b2n d.sbReadOnAddr * 2 ^ 20 + d.sbAccess * 2 ^ 17 + b2n d.sbAutoInc * 2 ^ 16 + b2n d.sbReadOnData * 2 ^ 15 +
      d.sbError * 2 ^ 12 + 64 * 2 ^ 5 + 12)
  else if a = 0x39 then (s, d.sbAddr % 2 ^ 32)
  else if a = 0x3A then (s, d.sbAddr / 2 ^ 32)
  else if a = 0x3C then (if d.sbReadOnData then systemBus s none else s, d.sbData % 2 ^ 32)
  else if a = 0x3D then (s, d.sbData / 2 ^ 32 % 2 ^ 32)
  else (s, 0)

/-- A write of a register of the module, which but dmcontrol needs dmactive. -/
def dmWrite (s : State) (a v : Nat) : State :=
  let d := s.control.dm
  if a = 0x10 then dmControl s v
  else if ¬ d.active then s
  else if a = 0x04 ∨ a = 0x05 then autoExec (setDmData s (a - 4) v) (a - 4)
  else if a = 0x16 then setDm s { d with cmderr := d.cmderr - Nat.land d.cmderr (fld v 8 3) }
  else if a = 0x17 then command s v
  else if a = 0x18 then setDm s { d with auto := Nat.land v 0xFF0003 }
  else if 0x20 ≤ a ∧ a < 0x28 then autoExec (setDm s { d with progbuf := tset (fun _ => 0) d.progbuf (a - 0x20) v }) (a - 16)
  else if a = 0x38 then
    setDm s { d with sbError := d.sbError - Nat.land d.sbError (fld v 12 3), sbReadOnAddr := bitOf v 20, sbAccess := fld v 17 3,
                     sbAutoInc := bitOf v 16, sbReadOnData := bitOf v 15 }
  else if a = 0x39 then
    let s1 := setDm s { d with sbAddr := d.sbAddr / 2 ^ 32 * 2 ^ 32 + v }
    if d.sbReadOnAddr then systemBus s1 none else s1
  else if a = 0x3A then setDm s { d with sbAddr := d.sbAddr % 2 ^ 32 + 2 ^ 32 * v }
  else if a = 0x3C then
    let w := d.sbData / 2 ^ 32 * 2 ^ 32 + v
    systemBus (setDm s { d with sbData := w }) (some w)
  else if a = 0x3D then setDm s { d with sbData := d.sbData % 2 ^ 32 + 2 ^ 32 * v }
  else s

/-- DMI: a scan shifts out the result of the operation before and starts another, a read or a write of a register of the debug module.
PRESUMED: log 153. -/
def dmiScan (s : State) (shift : Nat) : State :=
  let op := fld shift 0 2
  let data := fld shift 2 32
  let addr := shift / 2 ^ 34
  let t := s.locket.tap
  let s1 := { s with locket := { s.locket with tap := { t with reset := false, ir := 0x11, dmiAddr := addr, dmiData := data, dmiOp := op } } }
  let s2 := send s1 .jtag [0x11, (s1.control.dm.result * 4 + t.dmiAddr * 2 ^ 34 : Nat)] []
  if op = 1 then
    let r := dmRead s2 addr
    setDm r.1 { r.1.control.dm with result := r.2 }
  else if op = 2 then
    let r := dmWrite s2 addr data
    setDm r { r.control.dm with result := 0 }
  else s2

end Sys2Proof.Machine
end

