-- ==== Sys2Proof/Machine/Locket.lean ====
section
/-! DEFINITION. The locket (R367–R397): the gate and trusted calls, ownership and hand-over, watchdog and restart, signets, debug
unlock, halts and the JTAG port. Dictionary writes that start something here stand in Server.lean. -/

namespace Sys2Proof.Machine

/-- LKT_STATE. -/
def lktState (s : State) : Nat := rd s E.lkt_LKT_STATE

/-! ### Ownership (R378, R379) -/

/-- OWNER of a block. -/
def blockOwner (s : State) (b : Nat) : Nat := if 0x10 ≤ b ∧ b < 0x20 then cvOwner s (b - 16) else 0xFFFC

/-- STATE of a block: 3 releasing, 2 resetting, 1 where its unit works for its owner. DESIGN CHOICE: log 144. -/
def blockState (s : State) (b : Nat) : Nat :=
  match handOf s b with
  | some h => if h.resetting then 2 else 3
  | none =>
    if b < 0x10 then b2n (hState s b != 0)
    else if 0x20 ≤ b ∧ b < 0x30 then b2n (hState s (b - 0x20) != 0)
    else if 0x10 ≤ b ∧ b < 0x18 then b2n (decide (blockOwner s b < 4096))
    else 0

/-- Word 0 of an ownership entry (R379). -/
def ownWord (s : State) (b : Nat) : Nat := b + 256 * blockState s b + 65536 * blockOwner s b

/-- The 408 bytes of OWNERSHIP. -/
def ownershipBytes (s : State) : List Byte :=
  (List.range 51).flatMap (fun b => leBytes 4 (ownWord s b) ++ leBytes 4 (tget (fun _ => 0) s.locket.grants b))

/-- Whether R378 permits an owner for a block: a client or free for CV16–CV23, open-world firmware for CV24–CV31. -/
def ownerPermitted (b o : Nat) : Bool :=
  if 0x10 ≤ b ∧ b < 0x18 then decide (o < 4096) || o == 0xFFFF else decide (0x18 ≤ b) && decide (b < 0x20) && o == 0xFFFE

/-! ### The gate (R369–R374) -/

/-- A gate call that was served returns its status in a0 and its value in a1 to the calling core, scrubbed (R370). -/
def gateReply (s : State) (cc a0 a1 : Nat) : State := send (gateScrub s cc a0 a1) (.gate cc) [a0, a1] []

/-- The hardware's own answer to a gate entry: a0 alone (R373). -/
def gateAnswer (s : State) (cc a0 : Nat) : State :=
  send (gateRefused s cc a0) (.gate cc) [a0, (tget (fun _ => 0) (cpuOf s cc).x 11 : Nat)] []

/-- A gate entry of a control core that runs: L1 is written back and invalidated and the call `k` is served, or the hardware answers
while LKT is in reset or has failed (R370, R373). DEDUCED: log 142. -/
def gate (s : State) (cc : Nat) (k : State → State) : State :=
  if ¬ pdOn s 2 ∨ s.locket.halted.contains cc then s
  else if lktState s = 1 then k (flushL1 s cc)
  else if lktState s = 2 then gateAnswer s cc 0x201
  else if lktState s = 3 then gateAnswer s cc 0x205
  else s

/-- A call that TC serves: it joins the queue of 16 and returns its ticket, or BUSY (R376). -/
def queueCall (s : State) (cc num : Nat) (args : List Nat) : State :=
  if 16 ≤ s.locket.queue.length then gateReply s cc 5 0
  else
    let t := s.locket.nextTicket
    gateReply { s with locket := { s.locket with
      queue := s.locket.queue ++ [{ num := num, ticket := t, core := cc, args := args }],
      nextTicket := if t = 65535 then 1 else t + 1 } } cc 0x200 t

/-- Physical memory that a call may name: DRAM below the locket region. DEDUCED: log 147. -/
def openRange (s : State) (a n : Nat) : Bool := decide (a + n ≤ locketBase s)

/-- The open-world region (R343). -/
def openRegion (s : State) (a n : Nat) : Bool := decide (a + n ≤ rd s E.mem_OPEN_SIZE * 2 ^ 20)

/-- Bytes of physical memory. -/
def physRd (s : State) (a n : Nat) : List Byte := (rangeFrom a n).map (memRd s)

/-- Bytes written to physical memory. -/
def physWr (s : State) (a : Nat) (bs : List Byte) : State :=
  memWrAll s ((List.range bs.length).map (fun i => (a + i, bs[i]?)))

/-- RESULT: the final status and value of a call that has ended; one still queued reads QUEUED. DEDUCED: log 143. -/
def resultCall (s : State) (cc ticket : Nat) : State :=
  match s.locket.results.find? (fun r => r.1 == ticket) with
  | some r => gateReply s cc r.2.1 r.2.2
  | none =>
    if s.locket.queue.any (fun q => q.ticket == ticket) then gateReply s cc 0x200 ticket else gateReply s cc 4 0

/-- OWN_ASSIGN: an owner that R378 does not permit is refused at once; else the call is queued, and its hand-over starts unless
the block is taken (R380, R382). The third argument of the queued call says whether it started. -/
def ownAssign (s : State) (cc b o : Nat) : State :=
  if 0x33 ≤ b ∨ (4096 ≤ o ∧ o ≠ 0xFFFE ∧ o ≠ 0xFFFF) then gateReply s cc 4 0
  else if ¬ ownerPermitted b o then gateReply s cc 0x202 0
  else if 16 ≤ s.locket.queue.length then gateReply s cc 5 0
  else if (handOf s b).isSome then queueCall s cc 0x010 [b, o, 0]
  else cvRelease (queueCall s cc 0x010 [b, o, 1]) (b - 16) { target := o, ticket := some s.locket.nextTicket }

/-- A FLASH call, its arguments checked: region, offset, physical address in the open-world region, length. -/
def flashCall (s : State) (cc num region off phys len : Nat) : State :=
  if 4 ≤ region ∨ (flashRegion region).2 < off + len ∨ ¬ openRegion s phys len then gateReply s cc 4 0
  else queueCall s cc num [region, off, phys, len]

/-! ### Signets (R388, R389) -/

/-- A measurement entry of a report. DEDUCED: log 175. -/
def measureBytes (kind : Nat) (m : Measure) : List Byte :=
  leBytes 4 (kind + 256 * m.slot) ++ leBytes 4 m.version ++ leBytes 8 0 ++
    (if m.digest = [] then leBytes 48 0 else m.digest.take 48)

/-- The 384 bytes of a report before its signature. -/
def reportBody (s : State) (nonce : List Byte) : List Byte :=
  leBytes 4 0x47534749 ++ leBytes 2 0x0100 ++ leBytes 2 5 ++ leBytes 8 (rd s E.id_SERIAL) ++ nonce ++ leBytes 8 s.time ++
    leBytes 8 (rd s E.dbg_DEBUG_STATE % 16 + 256 * min (rd s E.lkt_RESTARTS) 255) ++
    (List.range 5).flatMap (fun k => measureBytes (k + 1) (tget (fun _ => {}) s.locket.measures (k + 1)))

/-- A signed report. -/
def report (s : State) (nonce : List Byte) : List Byte :=
  let body := reportBody s nonce
  body ++ Sys2Proof.Config.ecdsaSign (Sys2Proof.Config.sha384 body)

/-! ### Debug unlock (R391–R393) -/

/-- The OTP field of an enable. -/
def otpField (s : State) (i : Nat) : Nat := fld (rd s E.dbg_DEBUG_OTP) (2 * i) 2

/-- Whether an enable's field admits a key: Knaush's for 1 and 2 and where it is always on, the integrator's for 1, once written, and
where it is always on. DEDUCED: log 148. -/
def admits (s : State) (knaush : Bool) (i : Nat) : Bool :=
  let f := otpField s i
  if knaush then f != 0 else (f == 1 || f == 3) && s.locket.debugKey != []

/-- Whether a response unlocks the masked enables: it verifies under a key that every one of their fields admits. -/
def unlocks (s : State) (mask : Nat) (challenge sig : List Byte) : Bool :=
  let all := fun (k : Bool) => (bitsOf 4 mask).all (admits s k)
  (all true && Sys2Proof.Config.ecdsaVerify Sys2Proof.Config.knaushKey challenge sig) ||
    (all false && Sys2Proof.Config.ecdsaVerify s.locket.debugKey challenge sig)

/-- CHALLENGE as bytes. -/
def challengeBytes (s : State) : List Byte := leBytes 48 (rd s E.dbg_CHALLENGE)

/-- A challenge is formed for a mask (R393): 32 random bytes, which are free values. -/
def issueChallenge (s : State) (mask : Nat) : State :=
  let rnd := (List.range 32).map (fun i => Sys2Proof.Config.freeByte (s.free + i))
  let bytes := leBytes 8 (rd s E.id_SERIAL) ++ rnd ++ leBytes 1 mask ++ leBytes 7 0
  let s1 := { s with free := s.free + 32, locket := { s.locket with mask := mask, challengeAt := some s.time, open_ := true } }
  wr (wr s1 E.dbg_CHALLENGE (leVal bytes)) E.dbg_UNLOCK_STATE 1

/-- Verification of a response ends: the masked enables are in force, or the refusal counts; the eighth locks out. -/
def unlockEnd (s : State) (good : Bool) : State :=
  if good then
    let v := (bitsOf 4 s.locket.mask).foldl (fun v i => setBit v i true) (rd s E.dbg_DEBUG_STATE)
    raise (wr (wr s E.dbg_DEBUG_STATE v) E.dbg_UNLOCK_STATE 3) .debugUnlocked [v]
  else
    let s1 := bump s E.dbg_UNLOCK_FAILS
    wr s1 E.dbg_UNLOCK_STATE (if 8 ≤ rd s1 E.dbg_UNLOCK_FAILS then 5 else 4)

/-- UNLOCK_VERIFIED: the response written to RESPONSE has been checked. -/
def unlockVerified (s : State) : State :=
  if rd s E.dbg_UNLOCK_STATE ≠ 2 ∨ lktState s ≠ 1 then s
  else
    unlockEnd { s with locket := { s.locket with response := [] } } (unlocks s s.locket.mask (challengeBytes s) s.locket.response)

/-- A RESPONSE is taken for the challenge that is still open; none is otherwise. -/
def takeResponse (s : State) (bytes : List Byte) : Option State :=
  if rd s E.dbg_UNLOCK_STATE = 1 ∧ s.locket.open_ then
    some (wr { s with locket := { s.locket with open_ := false, response := bytes } } E.dbg_UNLOCK_STATE 2)
  else none

/-! ### Calls that TC serves -/

/-- What a queued call does when it ends: the state, its final status and its value. -/
def serveCall (s : State) (q : LktCall) : State × Nat × Nat :=
  let a := fun i => at0 0 q.args i
  if q.num = 0x010 then (s, if a 2 = 0 then 5 else 0, 0)
  else if q.num = 0x030 then (flashWrite s (a 0) (a 1) (physRd s (a 2) (a 3)), 0, 0)
  else if q.num = 0x031 then
    (physWr { s with free := s.free + a 3 } (a 2) (flashBytes s (a 0) (a 1) (a 3)), 0, 0)
  else if q.num = 0x032 then
    let r := verifyImg s (kindBase (a 0) + (a 1 - 1))
    (r.1, if r.2 then 0 else 0x203, 0)
  else if q.num = 0x040 then (physWr s (a 1) (report s (physRd s (a 0) 32)), 0, 0)
  else if q.num = 0x041 then
    let c := (dget s E.sig_CERT).take (a 1)
    (physWr s (a 0) c, 0, c.length)
  else if q.num = 0x050 then
    let bs := physRd s (a 0) 144
    if rd s E.dbg_UNLOCK_STATE = 1 ∧ s.locket.open_ then
      let s1 := { s with locket := { s.locket with open_ := false } }
      let good := bs.take 48 == challengeBytes s && unlocks s s.locket.mask (challengeBytes s) (bs.drop 48)
      (unlockEnd s1 good, if good then 0 else 0x203, 0)
    else (s, 5, 0)
  else if q.num = 0x051 then
    (wr s E.dbg_DEBUG_OTP ((bitsOf 4 (a 0)).foldl (fun v i => setFld v (2 * i) 2 0) (rd s E.dbg_DEBUG_OTP)), 0, 0)
  else if s.locket.debugKey = [] then
    ({ s with locket := { s.locket with debugKey := physRd s (a 0) 48 } }, 0, 0)
  else (s, 0x202, 0)

/-- A call's result is kept until 16 later calls have ended, and LKT_DONE is raised (R376). -/
def endCall (s : State) (ticket status value : Nat) : State :=
  raise { s with locket := { s.locket with results := (ticket, status, value) :: s.locket.results.take 15 } } .lktDone [ticket]

/-- LKT_DONE: the call at the front ends, an OWN_ASSIGN once its hand-over is complete. -/
def lktDone (s : State) : State :=
  match s.locket.queue with
  | [] => s
  | q :: rest =>
    let waits := q.num == 0x010 && at0 0 q.args 2 == 1 &&
      (match handOf s (at0 0 q.args 0) with | some h => h.ticket == some q.ticket | none => false)
    if lktState s ≠ 1 ∨ waits then s
    else
      let r := serveCall { s with locket := { s.locket with queue := rest } } q
      endCall r.1 q.ticket r.2.1 r.2.2

/-- Every queued call ends with a status (R386). -/
def endAll (s : State) (status : Nat) : State :=
  s.locket.queue.foldl (fun t q => endCall t q.ticket status 0) { s with locket := { s.locket with queue := [] } }

/-! ### Hand-over (R380) -/

/-- HANDOVER_RELEASE: no started computation remains; the block's reset begins. -/
def handoverRelease (s : State) (b : Nat) : State :=
  match handOf s b with
  | some h => if h.resetting ∨ cvBusy s (b - 16) then s else releaseEffect s (b - 16) h
  | none => s

/-- The CV_ACQUIRE that a grant answers still waits. -/
def acquireWaits (s : State) (c : Nat) : Bool :=
  match (claspOf s c).taken with
  | some t => t.op == 0x8001 && t.answer.isNone
  | none => false

/-- HANDOVER_GRANT: the reset ends and the new owner is granted. A client that has lost the right, or whose CV_ACQUIRE is gone,
does not keep the unit (R29, R261). -/
def handoverGrant (s : State) (b : Nat) : State :=
  match handOf s b with
  | none => s
  | some h =>
    if ¬ h.resetting then s
    else
      let k := b - 16
      let g := (tget (fun _ => 0) s.locket.grants b + 1) % 2 ^ 32
      let s1 := setHand (wr s (E.cvu_OWNER k) h.target) b none
      let s2 := { s1 with locket := { s1.locket with grants := tset (fun _ => 0) s1.locket.grants b g } }
      let s3 := raise (bump (setCv s2 k { poly := h.poly }) E.lkt_HANDOVERS) .ownChanged [b, h.target]
      if 4096 ≤ h.target then s3
      else
        let s4 := if h.acquire ∧ acquireWaits s3 h.target then ok s3 h.target [b] else s3
        if ¬ engineRight s3 h.target 7 then cvRelease s4 k { notify := some h.target }
        else if h.acquire ∧ ¬ acquireWaits s3 h.target then cvRelease s4 k {}
        else s4

/-! ### Mailbox (R377) -/

/-- A mailbox call is answered to the trusted world. -/
def mailboxReply (s : State) (code value : Nat) : State := send s .mailbox [code, value] []

/-- Mailbox calls are served while the trusted world runs and PD2 is on. -/
def mailbox (s : State) (k : State) : State := if lktState s = 1 ∧ pdOn s 2 then k else s

/-- TCTX: trusted context `n` is created from a descriptor in physical memory, sharing the 256 KB of bin memory that the trusted
contexts have (R147), or destroyed. -/
def tctx (s : State) (n : Nat) (create : Bool) (desc : Nat) : State :=
  let key := trustedKey n
  if 4 ≤ n then mailboxReply s 4 0
  else if ¬ create then
    if (rctxOf s key).isSome then mailboxReply (leaveRender s key 1) 0 0 else mailboxReply s 0x0100 0
  else if (rctxOf s key).isSome then mailboxReply s 0x0103 0
  else
    let d := leVal (physRd s desc 64)
    let x := renderDesc d
    if ¬ renderDescOk d x 1 then mailboxReply s 4 0
    else if 4 < x.binShare then mailboxReply s 5 0
    else mailboxReply (addRender s key { x with units := trustedUnits }) 0 0

/-- TSUBMIT: returns the fence value. -/
def tsubmit (s : State) (n record : Nat) : State :=
  let key := trustedKey n
  if 4 ≤ n then mailboxReply s 4 0
  else
    match rctxOf s key with
    | none => mailboxReply s 0x0100 0
    | some x =>
      match checkSubmit s key x record with
      | .code c => mailboxReply s c 0
      | .outside _ => mailboxReply s 1 0
      | .accept b => mailboxReply (enqueueSub s key x b) 0 b.fence

/-! ### Watchdog and restart (R383–R386) -/

/-- The submissions of a trusted context that have not been rendered end, to signal with STATUS 3 once their started units have run to
their end (R386). -/
def abandonContext (s : State) (key : Nat) : State :=
  match rctxOf s key with
  | none => s
  | some x =>
    let stop := fun (b : Sub) => if b.phase = 4 ∨ b.ended ≠ none then b else { b with nextInv := b.invs, ended := some (3, 0) }
    setRctx s key (some { x with subs := x.subs.map stop })

/-- Submissions of the trusted contexts that have not signalled will signal with STATUS 3. -/
def abandonTrusted (s : State) : State := (List.range 4).foldl (fun t n => abandonContext t (trustedKey n)) s

/-- The third failure: LKT is held in reset until a device reset (R385). DEDUCED: log 150. -/
def lktFail (s : State) : State :=
  let s1 := wr (wr s E.lkt_LKT_STATE 3) E.lkt_FAILED_SERIES 3
  latchFault (raise (lastingEmcy (endAll s1 0x205) 0x5051 3 0) .lktFailed [])

/-- Whether the last restart has failed: no image matched, or the watchdog expired again within 10 s of resumption. -/
def restartFailed (s : State) : Bool :=
  lktState s == 2 || (match s.locket.resumed with | some r => decide (s.time < r + 10 * secCounts) | none => false)

/-- LKT_RESTART: the watchdog expires, or a restart that failed is followed at once by the next; LKT alone is reset.
DEDUCED: log 149. -/
def lktRestart (s : State) : State :=
  if lktState s = 3 ∨ (lktState s = 0 ∧ s.boot.step < 2) then s
  else
    let n := rd s E.lkt_FAILED_SERIES + b2n (restartFailed s)
    let s1 := wr { s with locket := { s.locket with resumed := none, halted := s.locket.halted.filter (· != 4) } } E.lkt_FAILED_SERIES n
    if 3 ≤ n then abandonTrusted (lktFail (resetTc s1))
    else
      let s2 := wr (wr (bump (resetTc s1) E.lkt_RESTARTS) E.lkt_LAST_RESTART s.time) E.lkt_LKT_STATE 2
      let s3 := lastingEmcy s2 0x5050 (n + 1) 0
      let s4 := ([1, 2, 3].filter (· != n + 1)).foldl (fun t b => endLasting t 0x5050 b) s3
      abandonTrusted (raise s4 .lktRestart [n + 1])

/-- LKT_RESUMED: the restarted world has rebuilt its state and reports ready; the signet log takes the restart's number (R384). -/
def lktResumed (s : State) : State :=
  if lktState s ≠ 2 then s
  else
    let s1 := wr { s with locket := { s.locket with resumed := some s.time, served := s.time,
                                                    signetLog := s.locket.signetLog ++ [rd s E.lkt_RESTARTS] } } E.lkt_LKT_STATE 1
    let s2 := [1, 2, 3].foldl (fun t b => endLasting t 0x5050 b) (raise (endAll s1 0x204) .lktResumed [])
    (List.range 4).foldl trustedResume s2

/-! ### The loupe and the JTAG port (R390, R391) -/

/-- The TAP, driven by a debugger, takes an instruction. -/
def setIr (s : State) (ir : Nat) : State :=
  { s with locket := { s.locket with tap := { s.locket.tap with reset := false, ir := ir } } }

/-- EXTEST and its kin drive the boundary cells while RESET_N is low; at any other time the bypass register is selected.
DEDUCED: log 151. -/
def extest (s : State) (ir pins : Nat) : State :=
  if s.boot.resetN then
    let s1 := setIr s ir
    send { s1 with locket := { s1.locket with tap := { s1.locket.tap with boundary := pins } } } .jtag [ir, pins] []
  else send (setIr s 0x1F) .jtag [0x1F] []

/-- IDCODE (R390). -/
def idcode : Nat := 0xD016 * 2 ^ 12 + Sys2Proof.Config.jep106.toNat * 2 + 1

/-- LOUPE_MBOX: each access shifts the next word of CHALLENGE out and the next word of RESPONSE in; the 24th word completes it.
DESIGN CHOICE: log 152. -/
def loupeMbox (s : State) (shift : Nat) : State :=
  let s1 := setIr s 0x18
  let t := s1.locket.tap
  let bytes := t.mbox ++ leBytes 4 shift
  let full := decide (96 ≤ bytes.length)
  let t1 := { t with mbox := if full then [] else bytes, mboxPos := (t.mboxPos + 1) % 12 }
  let s2 := send { s1 with locket := { s1.locket with tap := t1 } } .jtag
    [0x18, (leVal (slice (challengeBytes s) (4 * t.mboxPos) 4) : Nat)] []
  if full then (takeResponse s2 bytes).getD s2 else s2

/-! ### Meanings -/

/-- TRUSTED_VERSION_CALL (0x001). -/
def execTrustedVersionCall (cc : CCore) (s : State) : Host.Outcome State Fault Refusal :=
  .next (gate s cc.val (fun s => gateReply s cc.val 0 (rd s E.id_TRUSTED_VERSION)))
/-- RESULT (0x00F). -/
def execResult (cc : CCore) (ticket : Nat) (s : State) : Host.Outcome State Fault Refusal :=
  .next (gate s cc.val (fun s => resultCall s cc.val ticket))
/-- OWN_ASSIGN (0x010). -/
def execOwnAssign (cc : CCore) (block owner : Nat) (s : State) : Host.Outcome State Fault Refusal :=
  .next (gate s cc.val (fun s => ownAssign s cc.val block owner))
/-- OWN_QUERY (0x011). -/
def execOwnQuery (cc : CCore) (block : Nat) (s : State) : Host.Outcome State Fault Refusal :=
  .next (gate s cc.val (fun s => if block < 0x33 then gateReply s cc.val 0 (ownWord s block) else gateReply s cc.val 4 0))
/-- CAM_NOTICE (0x020): the trusted world takes the notice, which shows from the next presentation. -/
def execCamNotice (cc : CCore) (receiver mask : Nat) (s : State) : Host.Outcome State Fault Refusal :=
  .next (gate s cc.val (fun s => if receiver < 8 ∧ mask < 2 ^ 128 then
      gateReply (raiseTrusted { s with locket := { s.locket with camNotices := s.locket.camNotices ++ [(receiver, mask)] } }
        .camNotice [receiver, mask]) cc.val 0 0
    else gateReply s cc.val 4 0))
/-- FLASH_WRITE (0x030). -/
def execFlashWrite (cc : CCore) (region off phys len : Nat) (s : State) : Host.Outcome State Fault Refusal :=
  .next (gate s cc.val (fun s => flashCall s cc.val 0x030 region off phys len))
/-- FLASH_READ (0x031). -/
def execFlashRead (cc : CCore) (region off phys len : Nat) (s : State) : Host.Outcome State Fault Refusal :=
  .next (gate s cc.val (fun s => flashCall s cc.val 0x031 region off phys len))
/-- IMAGE_VERIFY (0x032). -/
def execImageVerify (cc : CCore) (kind slot : Nat) (s : State) : Host.Outcome State Fault Refusal :=
  .next (gate s cc.val (fun s => if (kind = 1 ∨ kind = 2) ∧ (slot = 1 ∨ slot = 2) then queueCall s cc.val 0x032 [kind, slot]
    else gateReply s cc.val 4 0))
/-- SIGNET (0x040). -/
def execSignet (cc : CCore) (nonce out : Nat) (s : State) : Host.Outcome State Fault Refusal :=
  .next (gate s cc.val (fun s => if openRange s nonce 32 ∧ openRange s out 480 then queueCall s cc.val 0x040 [nonce, out]
    else gateReply s cc.val 4 0))
/-- CERT (0x041). -/
def execCert (cc : CCore) (out len : Nat) (s : State) : Host.Outcome State Fault Refusal :=
  .next (gate s cc.val (fun s => if openRange s out len then queueCall s cc.val 0x041 [out, len] else gateReply s cc.val 4 0))
/-- DEBUG_UNLOCK (0x050). -/
def execDebugUnlock (cc : CCore) (addr : Nat) (s : State) : Host.Outcome State Fault Refusal :=
  .next (gate s cc.val (fun s => if openRange s addr 144 then queueCall s cc.val 0x050 [addr] else gateReply s cc.val 4 0))
/-- DEBUG_LOCK (0x051). -/
def execDebugLock (cc : CCore) (mask : Nat) (s : State) : Host.Outcome State Fault Refusal :=
  .next (gate s cc.val (fun s => if mask < 16 then queueCall s cc.val 0x051 [mask] else gateReply s cc.val 4 0))
/-- DEBUG_KEY (0x052): queued; where the hash is already written it ends with 0x202 (R375). -/
def execDebugKey (cc : CCore) (addr : Nat) (s : State) : Host.Outcome State Fault Refusal :=
  .next (gate s cc.val (fun s => if openRange s addr 48 then queueCall s cc.val 0x052 [addr] else gateReply s cc.val 4 0))
/-- LKT_DONE. -/
def execLktDone (s : State) : Host.Outcome State Fault Refusal := .next (lktDone s)
/-- TCTX (mailbox 0x110). -/
def execTctx (n : Nat) (create : Bool) (desc : Nat) (s : State) : Host.Outcome State Fault Refusal :=
  .next (mailbox s (tctx s n create desc))
/-- TSUBMIT (mailbox 0x111). -/
def execTsubmit (n : Nat) (record : Nat) (s : State) : Host.Outcome State Fault Refusal :=
  .next (mailbox s (tsubmit s n record))
/-- HANDOVER_RELEASE. -/
def execHandoverRelease (block : Nat) (s : State) : Host.Outcome State Fault Refusal := .next (handoverRelease s block)
/-- HANDOVER_GRANT. -/
def execHandoverGrant (block : Nat) (s : State) : Host.Outcome State Fault Refusal := .next (handoverGrant s block)
/-- WATCHDOG_SERVICE: TC starts the count anew. -/
def execWatchdogService (s : State) : Host.Outcome State Fault Refusal :=
  .next (if lktState s ≤ 1 then { s with locket := { s.locket with served := s.time } } else s)
/-- LKT_RESTART. -/
def execLktRestart (s : State) : Host.Outcome State Fault Refusal := .next (lktRestart s)
/-- FAILED_SERIES_RESET: the trusted world has run for 10 s. -/
def execFailedSeriesReset (s : State) : Host.Outcome State Fault Refusal :=
  .next (if lktState s = 1 then wr { s with locket := { s.locket with resumed := none } } E.lkt_FAILED_SERIES 0 else s)
/-- UNLOCK_VERIFIED. -/
def execUnlockVerified (s : State) : Host.Outcome State Fault Refusal := .next (unlockVerified s)
/-- SIGNET_READY: the report for the NONCE written is signed. -/
def execSignetReady (s : State) : Host.Outcome State Fault Refusal :=
  .next (if rd s E.sig_SIGNET_STATE = 1 ∧ lktState s = 1 then
      wr (dput s E.sig_REPORT (report s s.locket.nonce)) E.sig_SIGNET_STATE 2
    else s)
/-- DEBUG_HALT_REQUEST. -/
def execDebugHaltRequest (t : HaltTarget) (s : State) : Host.Outcome State Fault Refusal := .next (haltRequest s t)
/-- JTAG_EXTEST (IR 0x00). -/
def execJtagExtest (pins : Nat) (s : State) : Host.Outcome State Fault Refusal := .next (extest s 0x00 pins)
/-- JTAG_IDCODE (IR 0x01). -/
def execJtagIdcode (s : State) : Host.Outcome State Fault Refusal := .next (send (setIr s 0x01) .jtag [0x01, idcode] [])
/-- JTAG_SAMPLE_PRELOAD (IR 0x02): the boundary cells are loaded; what they sample are the levels on the balls, which are free. -/
def execJtagSamplePreload (pins : Nat) (s : State) : Host.Outcome State Fault Refusal :=
  let s1 := setIr s 0x02
  let s2 := { s1 with locket := { s1.locket with tap := { s1.locket.tap with boundary := pins } } }
  .next (send (drawn s2) .jtag [0x02, (Sys2Proof.Config.freeNat s2.free : Nat)] [])
/-- JTAG_EXTEST_PULSE (IR 0x03). -/
def execJtagExtestPulse (pins : Nat) (s : State) : Host.Outcome State Fault Refusal := .next (extest s 0x03 pins)
/-- JTAG_EXTEST_TRAIN (IR 0x04). -/
def execJtagExtestTrain (pins : Nat) (s : State) : Host.Outcome State Fault Refusal := .next (extest s 0x04 pins)
/-- JTAG_DTMCS (IR 0x10): version 0.13 in its low bits, the rest free; DMIRESET and DMIHARDRESET drop the last operation. -/
def execJtagDtmcs (shift : JtagShift) (s : State) : Host.Outcome State Fault Refusal :=
  let s1 := setIr s 0x10
  let t := s1.locket.tap
  let t1 := if bitOf shift 16 ∨ bitOf shift 17 then { t with dmiAddr := 0, dmiData := 0, dmiOp := 0 } else t
  let s2 := { s1 with locket := { s1.locket with tap := t1 } }
  .next (send (drawn s2) .jtag [0x10, (1 + 16 * freeVal s2 (2 ^ 28) : Nat)] [])
/-- JTAG_DMI (IR 0x11). -/
def execJtagDmi (shift : JtagShift) (s : State) : Host.Outcome State Fault Refusal := .next (dmiScan s shift)
/-- JTAG_LOUPE_MBOX (IR 0x18). -/
def execJtagLoupeMbox (shift : JtagShift) (s : State) : Host.Outcome State Fault Refusal := .next (loupeMbox s shift)
/-- JTAG_BYPASS (IR 0x1F and every code with no other meaning). -/
def execJtagBypass (ir : BitVec 5) (s : State) : Host.Outcome State Fault Refusal :=
  .next (if [0, 1, 2, 3, 4, 0x10, 0x11, 0x18].contains ir.toNat then s else send (setIr s 0x1F) .jtag [0x1F] [])

end Sys2Proof.Machine
end

