-- ==== Sys2Proof/Machine/Hart.lean ====
section
/-! DEFINITION. Which instruction words a shading hart has: RV32IMFC with the V extension 1.0 for elements up to 32 bits (R115, R116).
The manual names the instruction set and does not contain it: the encodings here are the RISC-V manual's. PRESUMED: log 209. -/

namespace Sys2Proof.Machine

/-- A compressed instruction of RV32FC: the double-precision and RV64 encodings are not among them. -/
def legalCompressed (c : Nat) : Bool :=
  let f3 := fld c 13 3
  let rd := fld c 7 5
  let rs2 := fld c 2 5
  let imm := fld c 2 5 + fld c 12 1
  if fld c 0 2 = 0 then (if f3 = 0 then fld c 5 8 != 0 else [2, 3, 6, 7].contains f3)
  else if fld c 0 2 = 1 then
    if f3 = 3 then imm != 0
    else if f3 = 4 then
      (if fld c 10 2 = 3 then !bitOf c 12 else fld c 10 2 == 2 || !bitOf c 12)
    else true
  else if f3 = 0 then !bitOf c 12
  else if f3 = 2 then rd != 0
  else if f3 = 4 then bitOf c 12 || rs2 != 0 || rd != 0
  else [3, 6, 7].contains f3

/-- The CSRs of F and V. -/
def legalCsr (n : Nat) : Bool := [1, 2, 3, 8, 9, 10, 15, 0xC20, 0xC21, 0xC22].contains n

/-- A SYSTEM word: ECALL, EBREAK, or an access to a CSR that the hart has, one of the read-only ones without a write. -/
def legalSystem (w : Nat) : Bool :=
  let f3 := fld w 12 3
  let csr := fld w 20 12
  if f3 = 0 then w == 0x73 || w == 0x100073
  else f3 != 4 && legalCsr csr && (decide (csr < 0xC00) || (decide (f3 % 4 ≠ 1) && fld w 15 5 == 0))

/-- Functions of OP-V by category, one bit per funct6. -/
def vectorFuncts (f3 : Nat) : Nat :=
  if f3 = 0 then 0x3ffaf3f8f5ef5 else if f3 = 1 then 0xff111b0d07ff else if f3 = 2 then 0xbdffaaffff950fff
  else if f3 = 3 then 0xffa3f383de09 else if f3 = 4 then 0xffafff8fdefd else if f3 = 5 then 0xff93bb81c755
  else 0xfdffaaff0001cf00

/-- A vector configuration or arithmetic word; `rs2` is the value of the register that VSETVL takes the type from. A type with elements
of 64 bits is illegal (R116). -/
def legalVector (w rs2 : Nat) : Bool :=
  if fld w 12 3 = 7 then
    if ¬ bitOf w 31 then fld w 23 3 != 3
    else if bitOf w 30 then fld w 23 3 != 3
    else fld w 25 7 == 64 && fld rs2 3 3 != 3
  else bitOf (vectorFuncts (fld w 12 3)) (fld w 26 6)

/-- A vector load or store: elements of 8, 16 or 32 bits. -/
def legalVectorMem (w : Nat) (load : Bool) : Bool :=
  let op := fld w 20 5
  [0, 5, 6].contains (fld w 12 3) && !bitOf w 28 &&
    (fld w 26 2 != 0 || op == 0 || op == 11 || (op == 16 && load) ||
      (op == 8 && [0, 1, 3, 7].contains (fld w 29 3)))

/-- A single-precision arithmetic word. -/
def legalFloat (w : Nat) : Bool :=
  let f7 := fld w 25 7
  let f3 := fld w 12 3
  let rs2 := fld w 20 5
  let rm := decide (f3 ≠ 5) && decide (f3 ≠ 6)
  if [0x00, 0x04, 0x08, 0x0C].contains f7 then rm
  else if f7 = 0x2C then rm && rs2 == 0
  else if f7 = 0x10 ∨ f7 = 0x50 then decide (f3 ≤ 2)
  else if f7 = 0x14 then decide (f3 ≤ 1)
  else if f7 = 0x60 ∨ f7 = 0x68 then rm && decide (rs2 ≤ 1)
  else if f7 = 0x70 then rs2 == 0 && decide (f3 ≤ 1)
  else f7 == 0x78 && rs2 == 0 && f3 == 0

/-- An instruction word that a shading hart has, pixel access apart; a word whose low two bits are not 3 is a compressed one. -/
def legalWord (w rs2 : Nat) : Bool :=
  let op := fld w 0 7
  let f3 := fld w 12 3
  let f7 := fld w 25 7
  if fld w 0 2 ≠ 3 then legalCompressed (fld w 0 16)
  else if op = 0x37 ∨ op = 0x17 ∨ op = 0x6F then true
  else if op = 0x67 ∨ op = 0x0F then f3 == 0
  else if op = 0x63 then f3 != 2 && f3 != 3
  else if op = 0x03 then [0, 1, 2, 4, 5].contains f3
  else if op = 0x23 then decide (f3 ≤ 2)
  else if op = 0x13 then (if f3 = 1 then f7 == 0 else f3 != 5 || f7 == 0 || f7 == 0x20)
  else if op = 0x33 then f7 == 0 || f7 == 1 || (f7 == 0x20 && (f3 == 0 || f3 == 5))
  else if op = 0x73 then legalSystem w
  else if op = 0x07 ∨ op = 0x27 then f3 == 2 || legalVectorMem w (op == 0x07)
  else if op = 0x43 ∨ op = 0x47 ∨ op = 0x4B ∨ op = 0x4F then fld w 25 2 == 0 && f3 != 5 && f3 != 6
  else if op = 0x53 then legalFloat w
  else op == 0x57 && legalVector w rs2

end Sys2Proof.Machine
end

