-- ==== Sys2Proof/Machine/Sched.lean ====
section
/-! DEFINITION. The render scheduler: which unit a core starts next, workgroups, mid-flight saves and restores, overruns, draining
quadrants, and the faults a hart meets (R116, R140, R141, R143–R145, R152, R157–R162). -/

namespace Sys2Proof.Machine

/-! ### Vertex invocations (R152) -/

/-- The window address of index `n` of an indexed draw. -/
def indexAddr (d n : Nat) : Nat := fld d 96 32 + 4 * n

/-- The vertex that reference `n` of a draw names: FIRST_VERTEX + vertex number or index (R151). -/
def vertexIndex (s : State) (key d n : Nat) : Nat :=
  (fld d 64 32 + (if fld d 96 32 = 0 then n else ctxWord s key (indexAddr d n))) % 2 ^ 32

/-- A hart at the start of a vertex invocation: draw `di`, invocation `inv` within it, the draw's first output slot. -/
def vertexHart (s : State) (r : HartRec) (key : Nat) (b : Sub) (di inv slot0 : Nat) : HartRec :=
  let d := drawRec s key b.cmd di
  let per := ceilDiv (drawCountOf d) 16
  let inst := inv / per
  let first := inv % per * 16
  let lanes := min 16 (drawCountOf d - first)
  let v0 := tset (fun _ => 0) [] 0 (2 ^ lanes - 1)
  let v := setVreg (setVreg v0 1 lanes (fun i => vertexIndex s key d (first + i))) 2 16 (fun _ => inst)
  let slot := slot0 + inst * drawCountOf d + first
  { enterHart r (0, key) (fld d 160 32) [(10, fld d 192 32), (11, b.vout + slot * b.stride), (12, b.cmd + 32 * di)] v with
    vertex := some { ctx := key, fence := b.fence, draw := di, start := s.time } }

/-- The first index that an invocation reads outside the window, if one is. -/
def indexOutside (s : State) (key d inv : Nat) : Option Nat :=
  let per := ceilDiv (drawCountOf d) 16
  if fld d 96 32 = 0 then none
  else ((rangeFrom (inv % per * 16) (min 16 (drawCountOf d - inv % per * 16))).map (indexAddr d)).find? (fun a => !ctxIn s key a 4)

/-- A vertex invocation starts on an idle hart of a core: the next of the submission at the front end (R118, R152). -/
def startVertex (s : State) (core lvl key : Nat) : State :=
  match rctxOf s key with
  | none => s
  | some x =>
    match frontSub x, (List.range 4).find? (hartFree (coreOf s core)) with
    | some b, some h =>
      let k := { coreOf s core with served := tset (fun _ => none) (coreOf s core).served lvl (some (candKey key false)) }
      let b1 := { b with nextInv := b.nextInv + 1, vertexStart := if b.vertexStart = none then some s.time else b.vertexStart }
      if k.wg ≠ none then s
      else if ¬ drawsIn s key b then missRender s key core b.cmd
      else
        match invAt s key b b.nextInv with
        | none => advance (setRctx s key (some (putSub x b1))) key
        | some (di, inv, slot0) =>
          match indexOutside s key (drawRec s key b.cmd di) inv with
          | some a => missRender s key core a
          | none =>
            let b2 := { b1 with vertexRunning := b.vertexRunning ++ [di] }
            setRctx (setCore s core (setHart k h (vertexHart s (hartOf k h) key b di inv slot0))) key (some (putSub x b2))
    | _, _ => s

/-! ### Workgroups (R157, R158, R161) -/

/-- A hart at the start of its part of a workgroup (R157). -/
def wgHart (r : HartRec) (c : Nat) (d : Disp) (num h : Nat) : HartRec :=
  enterHart r (1, c) d.entry [(10, num % d.nx), (11, num / d.nx % d.ny), (12, num / (d.nx * d.ny)), (13, d.arg), (14, h)] []

/-- A picked workgroup starts on a core that holds nothing: a saved one first, which is restored, else the next in linear order
(R157, R158). -/
def startWorkgroup (s : State) (core lvl c : Nat) : State :=
  match cctxOf s c with
  | none => s
  | some x =>
    match runnableDisp x with
    | none => s
    | some d =>
      let k0 := coreOf s core
      let k := enterUnit { k0 with picked := none, served := tset (fun _ => none) k0.served lvl (some (candKey c true)) } (1, c, d.fence)
      let put : Disp → State := fun d1 =>
        let ds := replaceFirst (fun y => y.fence == d.fence) (fun _ => d1) x.disps
        setCctx s c (some { x with disps := ds })
      if ¬ (List.range 4).all (hartFree k0) ∨ ¬ coreIdle k0 then s
      else
        match d.saved with
        | w :: rest =>
          let wg : WgRun := { ctx := c, fence := d.fence, num := w.num, start := s.time, phase := 2, restore := some w }
          setCore (put { d with saved := rest, running := d.running + 1 }) core { k with wg := some wg }
        | [] =>
          let wg : WgRun := { ctx := c, fence := d.fence, num := d.next, start := s.time }
          let k1 := (List.range 4).foldl (fun a h => setHart a h (wgHart (hartOf a h) c d d.next h)) k
          setCore (put { d with next := d.next + 1, running := d.running + 1 }) core { k1 with wg := some wg }

/-- CORE_PICK_UNIT: a core that is free picks its next unit by level, and starts it if it has the place for it; else the core waits for
that place. A tile pass is picked for its context, and the dispatcher then hands the tile over (R117, R127, R158). -/
def corePickUnit (s : State) (core : Nat) : State :=
  let k := coreOf s core
  if ¬ corePowered s core ∨ k.wg ≠ none then s
  else
    match pickFrom s core 6 with
    | none => setCore s core { k with picked := none }
    | some (lvl, cand) =>
      let key := cand / 2
      if cand % 2 = 1 then startWorkgroup s core lvl key
      else
        match rctxOf s key with
        | none => s
        | some x =>
          if tileLevel s key x = some lvl then setCore s core { k with picked := some (lvl, key) } else startVertex s core lvl key

/-- WORKGROUP_END: all four harts have executed ECALL (R157). DEDUCED: log 86. -/
def workgroupEnd (s : State) (core : Nat) : State :=
  let k := coreOf s core
  match k.wg with
  | none => s
  | some w =>
    if w.phase = 0 ∧ (List.range 4).all (fun h => (hartOf k h).ended) then
      match cctxOf s w.ctx with
      | none => s
      | some x =>
        let fin := fun (d : Disp) =>
          let d1 := { d with running := d.running - 1 }
          if d1.running = 0 ∧ d1.next = wgTotal d1 ∧ d1.saved = [] ∧ d1.ended = none then { d1 with ended := some (0, 0) }
          else d1
        let ds := replaceFirst (fun (d : Disp) => d.fence == w.fence) fin x.disps
        setCctx (setCore s core { k with wg := none }) w.ctx (some { x with disps := ds })
    else s

/-- WORKGROUP_YIELD: a preempted workgroup reaches MAX_WG_TIME or 50 µs and its mid-flight save starts (R160). -/
def workgroupYield (s : State) (core : Nat) : State :=
  let k := coreOf s core
  match k.wg with
  | none => s
  | some w =>
    if w.phase = 0 ∧ w.preempt ≠ none then setCore s core { k with wg := some { w with phase := 1 } } else s

/-- The 16 KB of a hart in a save area; their layout is open (R161). -/
def hartImage (r : HartRec) : List Byte :=
  (List.range 16384).map (Sys2Proof.Config.saveImage r.x r.f r.v [r.pc, r.vtype, r.vl, r.vstart, r.vcsr, r.fcsr] r.scratch)

/-- The hart that a restore makes of the 16 KB in the save area: the one that was saved when they are as the save wrote them, else one of
open contents (R161). -/
def restoreHart (saved : HartRec) (bytes : List Byte) : HartRec :=
  if bytes = hartImage saved then saved
  else
    let q := Sys2Proof.Config.loadImage bytes
    { saved with x := q.1, f := q.2.1, v := q.2.2.1, pc := at0 0 q.2.2.2.1 0, vtype := at0 0 q.2.2.2.1 1, vl := at0 0 q.2.2.2.1 2,
                 vstart := at0 0 q.2.2.2.1 3, vcsr := at0 0 q.2.2.2.1 4, fcsr := at0 0 q.2.2.2.1 5, scratch := q.2.2.2.2 }

/-- WG_SAVED: the mid-flight save of a core's workgroup completes (R161). -/
def wgSaved (s : State) (core : Nat) : State :=
  let k := coreOf s core
  match k.wg with
  | none => s
  | some w =>
    if w.phase ≠ 1 then s
    else
      match cctxOf s w.ctx with
      | none => s
      | some x =>
        let saved : SavedWg := { num := w.num, core := core, harts := k.harts }
        let ds := replaceFirst (fun (d : Disp) => d.fence == w.fence)
          (fun d => { d with running := d.running - 1, saved := d.saved ++ [saved] }) x.disps
        let x1 := { x with disps := ds, savedCount := (x.savedCount + 1) % 2 ^ 32 }
        let s1 := setCctx (setCore s core { k with wg := none }) w.ctx (some x1)
        let a := x.saveAddr + 65536 * core
        let s2 := if inWindow s w.ctx a 65536 then winWr s1 w.ctx a ((List.range 4).flatMap (fun h => hartImage (hartOf k h)))
          else faultCompute (windowViolation s1 w.ctx a) w.ctx 1
        raise s2 .wgSaved [core, w.ctx]

/-- WORKGROUP_RESTORED: a saved workgroup's restore from the save area completes on a core (R161). -/
def workgroupRestored (s : State) (core : Nat) : State :=
  let k := coreOf s core
  match k.wg with
  | none => s
  | some w =>
    match w.restore, cctxOf s w.ctx with
    | some v, some x =>
      let a := x.saveAddr + 65536 * v.core
      if w.phase ≠ 2 then s
      else if ¬ inWindow s w.ctx a 65536 then faultCompute (windowViolation s w.ctx a) w.ctx 1
      else
        let old := { k with harts := v.harts }
        let k1 := (List.range 4).foldl (fun t h => setHart t h (restoreHart (hartOf old h) (winRd s w.ctx (a + 16384 * h) 16384))) old
        setCore s core { k1 with wg := some { w with phase := 0, restore := none } }
    | _, _ => s

/-! ### Overruns and draining (R145, R160) -/

/-- The work on a core that began first, of its tile passes and vertex invocations: its context and submission. -/
def oldestWork (k : CoreRec) : Option (Nat × Nat) :=
  let l := (List.range 4).filterMap (fun i => (slotOf k i).map (fun r => (r.start, r.ctx, r.fence))) ++
    (List.range 4).filterMap (fun h => (hartOf k h).vertex.map (fun v => (v.start, v.ctx, v.fence)))
  (l.foldl (fun (a : Option (Nat × Nat × Nat)) q =>
    match a with | some p => if q.1 < p.1 then some q else a | none => some q) none).map (·.2)

/-- TILE_OVERRUN: a tile pass or vertex invocation on the core runs past TILE_BUDGET, the one that began first; its render ends and the
renders behind it go on (R160). -/
def tileOverrun (s : State) (core : Nat) : State :=
  match oldestWork (coreOf s core) with
  | none => s
  | some (key, fence) => openPartial (advance (overrunRender s key fence) key) key

/-- QUAD_DRAINED: the cores of a draining quadrant hold no tile or workgroup; the event is raised and the domain may switch
off (R145). -/
def quadDrained (s : State) (q : Nat) : State :=
  if s.raster.draining.contains q ∧ (rangeFrom (4 * q) 4).all (fun n => coreIdle (coreOf s n)) ∧
      ¬ s.power.queue.any (fun w => w.domain == 3 + q) then
    startSwitch (queueSwitch (raise s .quadDrained [q]) { domain := 3 + q, on := false })
  else s

/-- A quadrant is asked to switch off: its cores are given no more work, and their workgroups are asked to preempt; one whose cores hold
nothing is drained at once (R145, R162). -/
def drainQuad (s : State) (q : Nat) : State :=
  let s1 := { s with raster := { s.raster with draining := (s.raster.draining.filter (· != q)) ++ [q] } }
  quadDrained ((rangeFrom (4 * q) 4).foldl askPreempt s1) q

/-! ### What a hart meets (R116, R141) -/

/-- Bytes of an access. -/
def accessSize : HartAccess → Nat
  | .load n => 2 ^ n.val
  | .store n _ => 2 ^ n.val

/-- Whether a hart's context reaches `n` bytes at an address of its window. -/
def hartReaches (s : State) : HartWork → Nat → Nat → Bool
  | .group key _ _ _, a, n => ctxIn s key a n
  | .vertex key _ _, a, n => ctxIn s key a n
  | .compute c, a, n => ctxIn s c a n
  | .idle, _, _ => false

/-- The key of the context that a hart works for. -/
def workKey : HartWork → Nat
  | .group key _ _ _ => key
  | .vertex key _ _ => key
  | .compute c => c
  | .idle => 0

/-- A load or store of a hart that R116 lets through: scratch is the hart's own; of the window a load takes what L1 holds, else memory,
which L1 then holds; a store reaches DRAM, and L1 where it holds the bytes. -/
def hartAccess (s : State) (core h key addr : Nat) (a : HartAccess) : State :=
  let k := coreOf s core
  let r := hartOf k h
  let n := accessSize a
  if 0xF0000000 ≤ addr then
    let o := addr - 0xF0000000
    match a with
    | .load _ => setCore s core (setHart k h { r with loaded := (rangeFrom o n).map (tget (fun _ => 0) r.scratch) })
    | .store _ v =>
      let sc := (List.range n).foldl (fun t i => tset (fun _ => 0) t (o + i) (at0 0 (leBytes n v.toNat) i)) r.scratch
      setCore s core (setHart k h { r with scratch := sc })
  else
    let held := fun i => tget (fun _ => none) k.l1 (addr + i)
    match a with
    | .load _ =>
      let bs := (List.range n).map (fun i => (held i).getD (ctxByte s key (addr + i)))
      let l1 := (List.range n).foldl (fun t i => tset (fun _ => none) t (addr + i) (some (at0 0 bs i))) k.l1
      setCore s core (setHart { k with l1 := l1 } h { r with loaded := bs })
    | .store _ v =>
      let bs := leBytes n v.toNat
      let l1 := (List.range n).foldl (fun t i =>
        if (held i).isSome then tset (fun _ => none) t (addr + i) (some (at0 0 bs i)) else t) k.l1
      ctxWr (setCore s core { k with l1 := l1 }) key addr bs

/-- An access of a hart (R116, R141): to 0xF000_3000 and above or misaligned it faults with kind 0x03, outside the window with kind 0x01
after a violation of kind 0x04; else it is carried out. -/
def hartMeets (s : State) (core h pc addr : Nat) (a : HartAccess) : State :=
  let w := hartWork s core h
  if w = .idle ∨ (hartOf (coreOf s core) h).halted then s
  else if 0xF0003000 ≤ addr ∨ addr % accessSize a ≠ 0 then faultHart s core h 3 addr pc
  else if 0xF0000000 ≤ addr ∨ hartReaches s w addr (accessSize a) then hartAccess s core h (workKey w) addr a
  else faultHart (windowViolation s (workKey w) addr) core h 1 addr pc

/-- An instruction word of a hart: one it does not have faults with kind 0x02 (R116, R141). What the others do is the instruction set's
matter and not in the manual. -/
def hartWord (s : State) (core h pc w : Nat) : State :=
  let r := hartOf (coreOf s core) h
  if r.halted ∨ fld w 0 7 = 0x2B ∨ legalWord w (tget (fun _ => 0) r.x (fld w 20 5)) then s else faultHart s core h 2 0 pc

/-- CTX_FAULT: what a hart, or the load and store of a tile, meets that may fault its context (R116, R140, R141). -/
def ctxFault (s : State) : FaultCause → State
  | .access core h pc addr a => hartMeets s core.val h.val pc.toNat addr.toNat a
  | .word core h pc w => hartWord s core.val h.val pc.toNat w.toNat
  | .hartError core h pc addr => faultHart s core.val h.val 6 addr.toNat pc.toNat
  | .tileError core slot =>
    match slotOf (coreOf s core.val) slot.val with
    | some r => faultRender s r.ctx 6 core.val 0 0 0 0
    | none =>
      match (coreOf s core.val).wg with
      | some w => if w.phase = 0 then s else faultCompute s w.ctx 6
      | none => s

/-! ### Meanings -/

/-- CORE_PICK_UNIT. -/
def execCorePickUnit (core : RCore) (s : State) : Host.Outcome State Fault Refusal := .next (corePickUnit s core.val)

/-- CTX_FAULT. -/
def execCtxFault (why : FaultCause) (s : State) : Host.Outcome State Fault Refusal := .next (ctxFault s why)

/-- QUAD_DRAINED. -/
def execQuadDrained (q : Fin 4) (s : State) : Host.Outcome State Fault Refusal := .next (quadDrained s q.val)

/-- WORKGROUP_END. -/
def execWorkgroupEnd (core : RCore) (s : State) : Host.Outcome State Fault Refusal := .next (workgroupEnd s core.val)

/-- WORKGROUP_YIELD. -/
def execWorkgroupYield (core : RCore) (s : State) : Host.Outcome State Fault Refusal :=
  .next (workgroupYield s core.val)

/-- WG_SAVED. -/
def execWgSaved (core : RCore) (s : State) : Host.Outcome State Fault Refusal := .next (wgSaved s core.val)

/-- WORKGROUP_RESTORED. -/
def execWorkgroupRestored (core : RCore) (s : State) : Host.Outcome State Fault Refusal :=
  .next (workgroupRestored s core.val)

/-- TILE_OVERRUN. -/
def execTileOverrun (core : RCore) (s : State) : Host.Outcome State Fault Refusal := .next (tileOverrun s core.val)

end Sys2Proof.Machine
end

