-- ==== Sys2Proof/Machine/Power.lean ====
section
/-! DEFINITION. Power domains, deep sleep, supply supervision, temperature and hallmark ageing (R418–R443, R463, R480). Commands that
reach the dictionary server stand in Server.lean. -/

namespace Sys2Proof.Machine

/-! ### Modes and work (R418, R419) -/

/-- Whether a domain accepts a MODE. -/
def modeAccepted (d m : Nat) : Bool :=
  m == 0 || (m == 1 && [2, 3, 4, 5, 6, 12, 13, 14].contains d) || (m == 2 && [3, 4, 5, 6, 7, 8, 9, 12, 13, 14].contains d)

/-- MODE of a domain. -/
def pdMode (s : State) (d : Nat) : Nat := rd s (E.pd_MODE d)

/-- PD2 has no work: no clasp request waits or is served, no dictionary access or commit is open, no rendering or computing is
queued. -/
def controlIdle (s : State) : Bool :=
  s.clasp.clasps.all (fun p => p.2.taken.isNone && !nativeWaits p.2 && !delbelWaits p.2) &&
    s.clasp.icl.all (fun p => p.2.taken.isNone && !nativeWaits p.2) &&
    s.clasp.ports.all (fun p => !p.2.busy) && s.dict.running.isNone && s.dict.queued.isEmpty &&
    s.raster.rctx.all (fun p => match p.2 with | some x => x.subs.isEmpty | none => true) &&
    s.raster.cctx.all (fun p => match p.2 with | some x => x.disps.isEmpty | none => true)

/-- No unit is allotted to a quadrant: no context with work queued may run there (R147). -/
def quadUnallotted (s : State) (q : Nat) : Bool :=
  let free := fun (allot : Nat) => (rangeFrom (4 * q) 4).all (fun n => !allotted allot n)
  s.raster.rctx.all (fun p => match p.2 with | some x => x.subs.isEmpty || free x.allot | none => true) &&
    s.raster.cctx.all (fun p => match p.2 with | some x => x.disps.isEmpty || free x.allot | none => true)

/-- A domain counts as without work (R419). -/
def withoutWork (s : State) (d : Nat) : Bool :=
  if d = 2 then controlIdle s
  else if 3 ≤ d ∧ d ≤ 6 then quadIdle s (d - 3) && quadUnallotted s (d - 3)
  else if d = 12 then
    (List.range 6).all (fun n => rd s (E.tdm_ENABLE n) == 0) && (List.range 8).all (fun n => rd s (E.pdm_ENABLE n) == 0) &&
      (List.range 32).all (fun n => (streamOf s n).opened.isNone)
  else if d = 13 then
    (List.range 4).all (fun p => rd s (E.panel_ENABLE p) == 0) && (List.range 16).all (fun n => rd s (E.hap_ENABLE n) == 0)
  else if d = 14 then (List.range 8).all (fun r => rd s (E.cam_ENABLE r) == 0)
  else false

/-! ### Switching (R420, R421) -/

/-- The crossings of an island that goes off or comes up: both halves are at their reset values, and what was in flight has been answered
(R407). -/
def isolate (s : State) (i : Nat) : State :=
  (xingsOf i).foldl (fun u p =>
    let r := xingOf u p.1
    setXing (failBeats (failBeats u p.1 r.a) p.1 r.b) p.1 { r with state := 0, a := {}, b := {} }) s

/-- What the blocks of a domain lose when its switches open (R420). -/
def domainDown (s : State) (d : Nat) : State :=
  let s1 := (islandsOf d).foldl (fun t i => clearCounters (fenceXings t i) i) (setIslands s d 0)
  let s2 := (islandsOf d).foldl isolate s1
  if 3 ≤ d ∧ d ≤ 6 then
    clearQuad { s2 with raster := { s2.raster with draining := s2.raster.draining.filter (· != d - 3) } } (d - 3)
  else if d = 2 then controlDown s2
  else if d = 7 then clearLines s2
  else if d = 9 then (List.range 16).foldl resetPort s2
  else if d = 12 then audioDown s2
  else if d = 13 then
    (List.range 16).foldl (fun t n => settleHap t n false)
      ((List.range 4).foldl (fun t p => if panelState t p = 0 then t else stopPanel t p 0) s2)
  else if d = 14 then (List.range 8).foldl closeIncomplete s2
  else s2

/-- The events and bound triggers held while PD2 was off are delivered (R422). -/
def deliverHeld (s : State) : State := flushBound { s with out := s.fwQueue.reverse ++ s.out, fwQueue := [] }

/-- What the blocks of a domain do when it reports ready: events that waited are delivered, blocks whose configuration starts without
a further command start. DEDUCED: log 182. -/
def domainUp (s : State) (d : Nat) : State :=
  let s1 := setIslands ((islandsOf d).foldl isolate s) d 3
  if d = 2 then deliverHeld s1
  else if d = 12 then audioUp s1
  else if d = 13 then flushPd ((List.range 16).foldl (fun t n => settleHap t n false) s1)
  else if d = 14 then
    (List.range 8).foldl (fun t r => if rd t (E.cam_ENABLE r) = 1 ∧ rd t (E.cam_STATE r) = 0 then wr t (E.cam_STATE r) 1 else t) s1
  else s1

/-- A domain's power switches open: STATE 0 and DOMAIN_OFF. -/
def openSwitches (s : State) (d : Nat) : State :=
  raise (domainDown (wr s (E.pd_STATE d) 0) d) .domainOff [d]

/-- DOMAIN_OFF: the drain completes; a wake that arrived meanwhile returns the domain to on (R442, R443). -/
def domainOff (s : State) (d : Nat) : State :=
  if pdState s d ≠ 3 then s
  else if s.power.queue.any (fun q => q.domain == d && q.on) then
    let s1 := wr { s with power := { s.power with queue := s.power.queue.filter (fun q => q.domain != d) } } (E.pd_STATE d) 2
    let s2 := if d = 13 then flushPd s1 else if d = 2 then deliverHeld s1 else s1
    startSwitch (settleClocks (raise s2 .domainOn [d]))
  else startSwitch (settleClocks (openSwitches s d))

/-- A domain begins to switch off; a quadrant first drains (R145). DEDUCED: log 160. -/
def requestOff (s : State) (d : Nat) : State :=
  if pdState s d ≠ 2 then s
  else if 3 ≤ d ∧ d ≤ 6 then drainQuad s (d - 3)
  else startSwitch (queueSwitch s { domain := d, on := false })

/-- DOMAIN_IDLE_EXPIRY: an AUTO domain without work, on which nothing depends that is on, switches off (R418). -/
def idleExpiry (s : State) (d : Nat) : State :=
  if pdMode s d = 1 ∧ pdState s d = 2 ∧ withoutWork s d ∧ (dependents d).all (fun x => pdState s x == 0) then requestOff s d else s

/-- The domains that a row of R422 powers up. -/
def wakeRow (row d : Nat) : Bool :=
  if row = 2 then d == 12 || d == 13
  else if row = 5 then decide (3 ≤ d) && decide (d ≤ 6)
  else (row == 1 || row == 3 || row == 4) && d == 2

/-- WAKE_EVENT. -/
def wakeEvent (s : State) (d row : Nat) : State := if wakeRow row d ∧ s.power.sleep ≠ 2 then wake s d row else s

/-- A change of MODE takes effect: ON powers the domain up, HELD_OFF switches it off (R418). -/
def settleMode (s : State) (d : Nat) : State :=
  if pdMode s d = 0 then requestOn s d 0 else if pdMode s d = 2 then requestOff s d else s

/-! ### Requests of open-world firmware (R381, R424) -/

/-- The trusted-held block in a domain, if there is one. -/
def domainHeld (s : State) (d : Nat) : Option Nat :=
  (islandsOf d).foldl (fun a i => match a with | some b => some b | none => heldBlock s i) none

/-- Whether a block is trusted-held (R378). -/
def blockHeld (s : State) (b : Nat) : Bool :=
  decide (0x30 ≤ b) || blockOwner s b == 0xFFFD || (decide (b < 0x10) && hState s b != 0) ||
    (decide (0x20 ≤ b) && decide (b < 0x30) && hState s (b - 0x20) != 0)

/-- The power domain of a block. -/
def blockDomain (b : Nat) : Nat :=
  if b < 8 then 7 else if b < 0x10 then 8 else if b < 0x20 then 0 else if b < 0x30 then 7 else 1

/-- A request that breaks the order or a mode is refused (R424). -/
def refuseOrder (s : State) : State := bump (send s .fabric [1] []) E.pwr_ORDER_REFUSALS

/-- A request that is accepted. -/
def acceptReq (s : State) : State := send s .fabric [0] []

/-- CLOCK_POWER_REQUEST. -/
def powerRequest (s : State) : PowerReq → State
  | .switchOff d =>
    match domainHeld s d.val with
    | some b => refuseHeld s b d.val
    | none =>
      if pdMode s d.val = 0 ∨ (dependents d.val).any (fun x => pdState s x != 0) then refuseOrder s
      else requestOff (acceptReq s) d.val
  | .switchOn d =>
    if pdMode s d.val = 2 ∨ (prereqs d.val).any (fun x => pdState s x != 2) then refuseOrder s
    else requestOn (acceptReq s) d.val 0
  | .gateClock b stop =>
    if stop ∧ blockHeld s b then refuseHeld s b (blockDomain b)
    else
      let l := s.power.stopped.filter (· != b)
      acceptReq { s with power := { s.power with stopped := if stop then l ++ [b] else l } }
  | .gateIsland i stop =>
    match (if stop then heldBlock s i.val else none) with
    | some b => refuseHeld s b (islandDomain i.val)
    | none =>
      let l := s.power.gated.filter (· != i.val)
      let s1 := acceptReq { s with power := { s.power with gated := if stop then l ++ [i.val] else l } }
      if stop then fenceXings s1 i.val else s1
  | .ceiling i mhz =>
    match (if i.val = 3 ∨ mhz < clockTarget s i.val then heldBlock s i.val else none) with
    | some b => refuseHeld s b (islandDomain i.val)
    | none => acceptReq (changeClock { s with power := { s.power with asked := tset (fun _ => 0) s.power.asked i.val mhz } } i.val)

/-! ### Throttle limits (R432) -/

/-- RQ0–RQ3 take a throttle limit, through RECOVER. -/
def setRqLimit (s : State) (mhz : Nat) : State :=
  let s1 := { s with power := { s.power with rqLimit := mhz } }
  wrBit ((rangeFrom 6 4).foldl changeClock s1) E.thm_THROTTLED 0 (mhz != 1400)

/-- CCX is throttled to 1.2 GHz or released. -/
def setCcx (s : State) (low : Bool) : State :=
  if s.power.ccxLow = low then s
  else wrBit (changeClock { s with power := { s.power with ccxLow := low } } 4) E.thm_THROTTLED 1 low

/-! ### Supply and thermal log (R434, R480) -/

/-- An entry of the supply and thermal log. -/
def supplyLog (s : State) (kind source : Nat) (value : Int) : State :=
  let n := rd s E.slog_NEXT_SLOT
  let v := s.time % 2 ^ 64 + 2 ^ 64 * (kind + 256 * source) + 2 ^ 96 * ofInt 32 value
  let s1 := ringEnter s 0x2130 16 s.power.read v
  { s1 with power := { s1.power with read := s1.power.read.filter (· != n) } }

/-! ### Epochs abandoned (R442) -/

/-- A record's plan comes into force: the summary's entries, the target, which is written to the regulator where it changes, and the
ceilings, with the clocks that they change (R438, R440, R441). -/
def applyPlan (s : State) (r : HallmarkRec) : State :=
  let low := (List.range 22).foldl (fun m i => min m (marginOf r i)) 255
  let s1 := wr (wr (wr s E.hm_SEQ r.seq) E.hm_TARGET_MV r.targetMv) E.hm_MIN_MARGIN low
  let s2 := wr s1 E.hm_RAISE_LEFT (50 - (r.targetMv - factoryMv))
  let s3 := wr s2 E.hm_CEILINGS (leVal ((List.range 22).flatMap (fun i => leBytes 2 (ceilingOf r i))))
  (List.range 22).foldl changeClock
    (if rd s E.hm_TARGET_MV = r.targetMv then s3 else { s3 with power := { s3.power with avsPending := true } })

/-- A hallmark record is written and with it HOURS; the plan in force is the newest (R440). -/
def writeRecord (s : State) (r : HallmarkRec) : State :=
  let s1 := putRecord s r
  applyPlan { s1 with power := { s1.power with hits := [] }, flash := { s1.flash with hours := rd s E.hm_HOURS } } r

/-- The next record, with the plan in force and the detector hits since the last. -/
def nextRecord (s : State) (kind result : Nat) : HallmarkRec :=
  let p := plan s
  { p with seq := rd s E.hm_SEQ + 1, hours := rd s E.hm_HOURS, kind := kind, result := result,
           temp := toInt 16 (rd s (E.thm_TEMP 11)),
           islands := (List.range 22).map (fun i =>
             [ceilingOf p i, marginOf p i, 0, 0, min (tget (fun _ => 0) s.power.hits i) 65535]) }

/-- A running epoch is abandoned: a record keeps the old plan, and the epoch stays due. -/
def abandonEpoch (s : State) : State :=
  if rd s E.hm_EPOCH_STATE = 2 then
    raise (wr (writeRecord s (nextRecord s s.power.due 1)) E.hm_EPOCH_STATE 1) .epochDone [1]
  else s

/-- The process-data source has reached OP: a running epoch is abandoned (R442). -/
def opReached (s : State) : State := if pdOperational s then abandonEpoch s else s

/-- An epoch becomes due for a reason (R436). -/
def epochDue (s : State) (why : Nat) : State :=
  if rd s E.hm_EPOCH_STATE = 0 then wr { s with power := { s.power with due := why } } E.hm_EPOCH_STATE 1 else s

/-! ### Supply supervision (R428–R430) -/

/-- The nominal value of a rail, mV; VDD_CORE's is the last acknowledged target (R463). -/
def nominal (s : State) (r : Nat) : Nat := if r = 0 then s.power.acked else at0 0 [0, 800, 500, 1800] r

/-- A threshold of a rail in µV: `x` tenths of a percent below nominal. -/
def threshold (s : State) (r x : Nat) : Nat := nominal s r * (1000 - x)

/-- A rail's samples are kept as its LEVEL. -/
def setLevel (s : State) (r : Nat) (l : List Nat) : State :=
  match l.getLast? with
  | some v => wr s (E.sup_LEVEL r) v
  | none => s

/-- The lowest of a list of samples. -/
def lowest (l : List Nat) : Nat := l.foldl min (at0 0 l 0)

/-- SUPPLY_WARN: four consecutive samples below the warning threshold. -/
def supplyWarn (s : State) (r : Nat) (l : List Nat) : State :=
  let th := threshold s r (rd s (E.sup_WARN r))
  let s1 := setLevel s r l
  if l.length ≠ 4 ∨ ¬ l.all (fun v => decide (v * 1000 < th)) ∨ s.power.warning.contains r then s1
  else
    let m := lowest l
    let s2 := { s1 with power := { s1.power with warning := s1.power.warning ++ [r] } }
    let s3 := lastingEmcy (raise s2 .supplyWarn [r, m]) 0x3201 r (m + 65536 * (th / 1000))
    abandonEpoch (supplyLog s3 1 r m)

/-- SUPPLY_WARNING_END: the rail has stayed above its end threshold for 10 ms; `mv` is the sample that completed them. -/
def supplyWarningEnd (s : State) (r mv : Nat) : State :=
  let s1 := setLevel s r [mv]
  if s.power.warning.contains r ∧ nominal s r * (1010 - rd s (E.sup_WARN r)) < mv * 1000 then
    supplyLog (endLasting { s1 with power := { s1.power with warning := s1.power.warning.filter (· != r) } } 0x3201 r) 2 r mv
  else s1

/-! ### Temperature (R432) -/

/-- THROTTLE_T in 0.1 °C. -/
def throttleT (s : State) : Int := 10 * (rd s E.thm_THROTTLE_T : Int)

/-- The last reading of a sensor. -/
def tempOf (s : State) (n : Nat) : Int := toInt 16 (rd s (E.thm_TEMP n))

/-- The lowest-numbered of TS1–TS4 at or above THROTTLE_T. -/
def hotQuad (s : State) : Option Nat := [1, 2, 3, 4].find? (fun n => decide (throttleT s ≤ tempOf s n))

/-- Every sensor is below THROTTLE_T − 3 °C. -/
def allCool (s : State) : Bool := (List.range 12).all (fun n => decide (tempOf s n < throttleT s - 30))

/-- An episode begins with its KIND 4 entry unless one runs (R480). -/
def beginEpisode (s : State) (n : Nat) : State :=
  match s.power.throttle with
  | some _ => s
  | none => abandonEpoch (supplyLog { s with power := { s.power with throttle := some n } } 4 n (tempOf s n))

/-- An episode ends when both are back at their ceilings. -/
def endEpisode (s : State) : State :=
  match s.power.throttle with
  | some n =>
    if s.power.rqLimit = 1400 ∧ ¬ s.power.ccxLow then
      let s1 := supplyLog { s with power := { s.power with throttle := none } } 5 n (tempOf s n)
      [1, 2, 3, 4].foldl (fun t k => endLasting t 0x4201 k) s1
    else s
  | none => s

/-- RQ0–RQ3 are lowered by 100 MHz, down to 700 MHz, for a sensor. -/
def lowerRq (s : State) (n : Nat) : State :=
  if s.power.rqLimit ≤ 700 then s
  else
    let mhz := s.power.rqLimit - 100
    let s1 := raise (setRqLimit (beginEpisode s n) mhz) .throttle [6, mhz]
    lastingEmcy s1 0x4201 n (ofInt 16 (tempOf s n))

/-- THERMAL_SAMPLE: the readings are kept; the first lowering comes with the reading that asks for it, and CCX is lowered or raised.
DEDUCED: log 161. -/
def thermalSample (s : State) (temps : List Int) : State :=
  let s1 := (List.range 12).foldl (fun t n => match temps[n]? with
    | some v => wr t (E.thm_TEMP n) (ofInt 16 v)
    | none => t) s
  let s2 := match (List.range 12).find? (fun n => decide (throttleT s1 + 50 ≤ tempOf s1 n)) with
    | some n => if s1.power.ccxLow then s1 else raise (setCcx (beginEpisode s1 n) true) .throttle [4, 1200]
    | none => if allCool s1 ∧ s1.power.ccxLow then raise (setCcx s1 false) .throttle [4, 1600] else s1
  let s3 := match hotQuad s2 with
    | some n => if s2.power.rqLimit = 1400 then lowerRq s2 n else s2
    | none => s2
  endEpisode s3

/-- THROTTLE_STEP: another 10 ms of overheating. -/
def throttleStep (s : State) : State :=
  match hotQuad s with
  | some n => if s.power.rqLimit < 1400 then lowerRq s n else s
  | none => s

/-- THROTTLE_RAISE: 100 ms with every sensor cool. -/
def throttleRaise (s : State) : State :=
  if allCool s ∧ s.power.rqLimit < 1400 then
    let mhz := min 1400 (s.power.rqLimit + 100)
    endEpisode (raise (setRqLimit s mhz) .throttle [6, mhz])
  else s

/-! ### Hallmark (R435–R440) -/

/-- TED_HIT: the hit counts; outside an epoch VDD_CORE's target rises by 10 mV within the raise limit, as a guard step with its
record, and an epoch becomes due. DEDUCED: log 163. -/
def tedHit (s : State) (i : Nat) : State :=
  let h := satInc (tget (fun _ => 0) s.power.hits i) 1
  let s1 := { s with power := { s.power with hits := tset (fun _ => 0) s.power.hits i h } }
  let s2 := raise (bump s1 E.hm_TED_HITS) .tedHit [i]
  if rd s2 E.hm_EPOCH_STATE = 2 then s2
  else
    let mv := rd s2 E.hm_TARGET_MV + 10
    let s3 := if mv ≤ factoryMv + 50 then writeRecord s2 { nextRecord s2 3 0 with targetMv := mv } else s2
    epochDue s3 3

/-- EPOCH_START. DEDUCED: log 164. -/
def epochStart (s : State) : State :=
  if rd s E.hm_EPOCH_STATE = 1 ∧ s.power.windowEnd.isSome ∧ ¬ pdOperational s then
    raise (wr s E.hm_EPOCH_STATE 2) .epochStart []
  else s

/-- M of an island for a target of factory + 10 × `t` mV. -/
def marginAt (m : EpochMeas) (i t : Nat) : Nat := at0 0 (at0 [] m.margin i) t

/-- Every island's margin for a target satisfies a bound. -/
def marginsOk (m : EpochMeas) (t : Nat) (p : Nat → Bool) : Bool := (List.range 22).all (fun i => p (marginAt m i t))

/-- The target is raised in 10 mV steps until every island has M ≥ 8 % or the limit is reached. -/
def raiseTarget (m : EpochMeas) : Nat → Nat → Nat
  | 0, t => t
  | n + 1, t => if marginsOk m t (fun v => decide (80 ≤ v)) then t else raiseTarget m n (t + 1)

/-- The target is lowered in 10 mV steps while every island stays above 14 %, not below factory. -/
def lowerTarget (m : EpochMeas) : Nat → Nat
  | 0 => 0
  | t + 1 => if marginsOk m t (fun v => decide (140 < v)) then lowerTarget m t else t + 1

/-- An island's new ceiling and margin: lowered in 25 MHz steps until M ≥ 8 %, down to half the stepping-A ceiling (R438). -/
def newCeiling (s : State) (m : EpochMeas) (t i : Nat) : Nat × Nat :=
  let c := ceilingOf (plan s) i
  if 80 ≤ marginAt m i t then (c, marginAt m i t)
  else
    let steps := (c - steppingCeiling i / 2) / 25
    let l := at0 [] m.lowered i
    match (List.range steps).find? (fun n => decide (80 ≤ at0 0 l n)) with
    | some n => (c - 25 * (n + 1), at0 0 l n)
    | none => (c - 25 * steps, at0 0 l (steps - 1))

/-- The record of an epoch that ends (R437, R439). -/
def epochRecord (s : State) (m : EpochMeas) : HallmarkRec :=
  let t0 := (rd s E.hm_TARGET_MV - factoryMv) / 10
  let t1 := raiseTarget m (5 - t0) t0
  let t2 := if marginsOk m t1 (fun v => decide (140 < v)) then lowerTarget m t1 else t1
  let r := nextRecord s s.power.due 0
  { r with targetMv := factoryMv + 10 * t2,
           islands := (List.range 22).map (fun i =>
             let c := newCeiling s m t2 i
             [c.1, min c.2 255, b2n (decide (4 ≤ i) && decide (i ≤ 9)), b2n (decide (c.1 < ceilingOf r i)),
               at0 0 (at0 [] r.islands i) 4]),
           dram := (List.range 64).map (fun k => ofInt 8 (clampI (-16) 16 (toInt 8 (at0 0 m.dram k)))),
           touch := (List.range 256).map (fun n => at0 0 m.touch n % 65536) }

/-- EPOCH_DONE: the record is written and the plan applied; a lowered ceiling sends EMCY 0xFF03 and raises HALLMARK_REPLAN. -/
def epochDone (s : State) (m : EpochMeas) : State :=
  if rd s E.hm_EPOCH_STATE ≠ 2 then s
  else
    let old := plan s
    let r := epochRecord s m
    let s1 := writeRecord s r
    let s2 := (List.range 22).foldl (fun t i =>
      if ceilingOf r i < ceilingOf old i then raise (emcy t 0xFF03 i (ceilingOf r i)) .hallmarkReplan [i, ceilingOf r i]
      else t) s1
    raise (wr { s2 with power := { s2.power with due := 0 } } E.hm_EPOCH_STATE 0) .epochDone [0]

/-- Minutes left of a maintenance window, as MAINT_WINDOW reads. -/
def windowLeft (s : State) : Nat :=
  match s.power.windowEnd with
  | some e => ceilDiv (e - s.time) (60 * secCounts)
  | none => 0

/-- The maintenance window closes; a running epoch is abandoned. -/
def closeWindow (s : State) : State := abandonEpoch { s with power := { s.power with windowEnd := none } }

/-- MAINT_WINDOW = n. -/
def openWindow (s : State) (n : Nat) : State :=
  if n = 0 then closeWindow s else { s with power := { s.power with windowEnd := some (s.time + n * 60 * secCounts) } }

/-! ### Deep sleep (R425, R426) -/

/-- Whether DEEP_SLEEP = 1 is refused: a head is enabled, a guest other than G0 is present, a client of G0 is enabled, or an epoch
runs. -/
def sleepRefused (s : State) : Bool :=
  (List.range 16).any (fun h => rd s (E.head_ENABLE h) == 1 || hState s h != 0) ||
    (rangeFrom 1 63).any (fun g => rd s (E.guest_STATE g) == 2) || (clientsOf s 0).any (charmEn s) ||
    rd s E.hm_EPOCH_STATE == 2

/-- The domains that deep sleep switches off, dependents first, PD2 last, then the memory's. -/
def sleepOrder (s : State) : List Nat :=
  [15, 14] ++ (if rd s E.pwr_DS_TOUCH = 1 then [] else [13]) ++ [12, 9, 8, 7, 6, 5, 4, 3, 2, 10, 11]

/-- Every waiting write reaches the DRAM and every channel is put into self-refresh with its PHY asleep; only the retained segments
keep their content (R358). DEDUCED: log 167. -/
def memorySleep (s : State) : State :=
  let s1 := s.memc.txs.foldl (fun t x => if x.write then storeTx t x else t) s
  let s2 := { s1 with memc := { s1.memc with txs := [], chans := [] } }
  let s3 := (fitted s2).foldl (fun t c => wr t (E.chan_STATE c) 5) s2
  let mask := retainedMask s3
  loseSegments (wr s3 E.mem_RETAINED mask) mask

/-- The domains whose MODE is ON or AUTO are asked to power up (R426). -/
def sleepEnd (s : State) : State :=
  let s1 := wr (raise s .deepSleepExit []) E.pwr_DEEP_SLEEP 0
  let s2 := settleDevice { s1 with power := { s1.power with sleep := 0, wakePending := false } }
  let up := (List.range 16).filter (fun d => pdMode s2 d != 2 && pdState s2 d == 0)
  startSwitch (up.foldl (fun t d => queueSwitch t { domain := d, on := true, row := 6 }) s2)

/-- DEEP_SLEEP_ENTERED: entry completes once no domain is changing; a wake that arrived during entry ends the sleep at once. -/
def sleepEntered (s : State) : State :=
  if s.power.sleep ≠ 1 ∨ pdChanging s then s
  else
    let s1 := { s with power := { s.power with queue := [] } }
    let order := (sleepOrder s1).filter (fun d => pdState s1 d == 2)
    let s2 := (order.filter (fun d => d != 10 && d != 11)).foldl openSwitches s1
    let s3 := (order.filter (fun d => d == 10 || d == 11)).foldl openSwitches (memorySleep s2)
    let s4 := settleDevice { s3 with power := { s3.power with sleep := 2 } }
    if s4.power.wakePending then sleepEnd s4 else s4

/-- DEEP_SLEEP_EXIT: an event of R426 ends deep sleep, after its entry where it arrived during that. DEDUCED: log 168. -/
def sleepExit (s : State) (src : SleepExit) : State :=
  if src = .touchdown ∧ rd s E.pwr_DS_TOUCH = 0 then s
  else if s.power.sleep = 1 then { s with power := { s.power with wakePending := true } }
  else if s.power.sleep = 2 then sleepEnd s
  else s

/-- The memory domains are on again after deep sleep: memory trains incrementally (R362, R426). -/
def memoryWake (s : State) : State :=
  if pdOn s 10 ∧ pdOn s 11 ∧ (fitted s).any (fun c => chanState s c == 5 && (chanOf s c).ranks.isEmpty) then trainStart s else s

/-- DOMAIN_ON without what the dictionary server then does: STATE 2, the event, the next change. -/
def domainOn (s : State) (d : Nat) : State :=
  if pdState s d ≠ 1 then s
  else
    let s1 := raise (domainUp (wr s (E.pd_STATE d) 2) d) .domainOn [d]
    let s2 := if d = 10 ∨ d = 11 then memoryWake s1 else s1
    let s3 := if d = 15 ∧ 6 ≤ s2.boot.step then islandBack s2 21 else s2
    startSwitch s3

/-! ### Meanings -/

/-- CLOCK_POWER_REQUEST. -/
def execClockPowerRequest (req : PowerReq) (s : State) : Host.Outcome State Fault Refusal := .next (powerRequest s req)
/-- DOMAIN_IDLE_EXPIRY. -/
def execDomainIdleExpiry (d : Domain) (s : State) : Host.Outcome State Fault Refusal := .next (idleExpiry s d.val)
/-- WAKE_EVENT. -/
def execWakeEvent (d : Domain) (src : WakeRow) (s : State) : Host.Outcome State Fault Refusal := .next (wakeEvent s d.val src.val)
/-- DEEP_SLEEP_EXIT. -/
def execDeepSleepExit (src : SleepExit) (s : State) : Host.Outcome State Fault Refusal := .next (sleepExit s src)
/-- DEEP_SLEEP_ENTERED. -/
def execDeepSleepEntered (s : State) : Host.Outcome State Fault Refusal := .next (sleepEntered s)
/-- SUPPLY_WARN. -/
def execSupplyWarn (r : Rail) (samples : List Nat) (s : State) : Host.Outcome State Fault Refusal := .next (supplyWarn s r.val samples)
/-- SUPPLY_WARNING_END. -/
def execSupplyWarningEnd (r : Rail) (mv : Nat) (s : State) : Host.Outcome State Fault Refusal := .next (supplyWarningEnd s r.val mv)
/-- THERMAL_SAMPLE. -/
def execThermalSample (temps : List Int) (s : State) : Host.Outcome State Fault Refusal := .next (thermalSample s temps)
/-- THROTTLE_STEP. -/
def execThrottleStep (s : State) : Host.Outcome State Fault Refusal := .next (throttleStep s)
/-- THROTTLE_RAISE. -/
def execThrottleRaise (s : State) : Host.Outcome State Fault Refusal := .next (throttleRaise s)
/-- TED_HIT. -/
def execTedHit (i : Island) (s : State) : Host.Outcome State Fault Refusal := .next (tedHit s i.val)
/-- HOURS_TICK: an operating hour has passed while DEVICE_STATE is 2 to 5; a multiple of EPOCH_HOURS makes an epoch due (R436). -/
def execHoursTick (s : State) : Host.Outcome State Fault Refusal :=
  .next (if 2 ≤ deviceState s ∧ deviceState s ≤ 5 then
      let s1 := bump s E.hm_HOURS
      if rd s1 E.hm_HOURS % rd s1 E.hm_EPOCH_HOURS = 0 then epochDue s1 1 else s1
    else s)
/-- HOURS_PERSIST. -/
def execHoursPersist (s : State) : Host.Outcome State Fault Refusal :=
  .next { s with flash := { s.flash with hours := rd s E.hm_HOURS } }
/-- MAINT_WINDOW_CLOSE: the window's minutes have run out. -/
def execMaintWindowClose (s : State) : Host.Outcome State Fault Refusal := .next (closeWindow s)
/-- EPOCH_START. -/
def execEpochStart (s : State) : Host.Outcome State Fault Refusal := .next (epochStart s)
/-- EPOCH_DONE. -/
def execEpochDone (meas : EpochMeas) (s : State) : Host.Outcome State Fault Refusal := .next (epochDone s meas)
/-- AVS_WRITE: the target is written; the regulator's acknowledgement makes it the nominal of R428 (R463). -/
def execAvsWrite (acked : Bool) (s : State) : Host.Outcome State Fault Refusal :=
  let mv := rd s E.hm_TARGET_MV
  let s1 := send s .avs [mv] []
  .next (if acked then { s1 with power := { s1.power with acked := mv, avsPending := false } } else s1)

end Sys2Proof.Machine
end

