-- ==== Sys2Proof/Machine/Checks.lean ====
section
/-! DEFINITION. The commit checks (R82, R85 and the chapters' REFUSE_REASON codes): each sees the whole candidate, and names
the entries it reads where it fails: a check that goes over several heads, ports, panels or guests reads those of them all. -/

namespace Sys2Proof.Machine

/-- The staged values of a set, by key. -/
abbrev Staged := List (Nat × List Byte)

/-- A number or string entry of the candidate. -/
def candN (s : State) (l : Staged) (k : Nat) : Nat :=
  match l.find? (fun p => p.1 == k) with
  | some p => leVal p.2
  | none => rd s k

/-- A DOMAIN entry of the candidate. -/
def candD (s : State) (l : Staged) (k : Nat) : List Byte :=
  match l.find? (fun p => p.1 == k) with
  | some p => p.2
  | none => dget s k

/-- A check over several instances fails where one of them does, and reads the entries of them all (R82). DEDUCED: log 60. -/
def checkOver (l : List (Bool × List Nat)) : Option (List Nat) := if l.any (·.1) then some (l.flatMap (·.2)) else none

/-- Whether a set stages an index of a range. -/
def touches (l : Staged) (lo hi : Nat) : Bool := l.any (fun p => decide (lo ≤ p.1 / 256) && decide (p.1 / 256 ≤ hi))

/-- H:01 to H:09 of a head. -/
def timingKeys (h : Nat) : List Nat := (rangeFrom 1 9).map (dkey (0x3000 + 0x40 * h))

/-! ### Device-wide codes (R85) -/

/-- H_TOTAL of a candidate. -/
def candHt (v : Nat → Nat) (h : Nat) : Nat := v (E.head_H_ACTIVE h) + v (E.head_H_FRONT h) + v (E.head_H_SYNC h) + v (E.head_H_BACK h)
/-- V_TOTAL of a candidate. -/
def candVt (v : Nat → Nat) (h : Nat) : Nat := v (E.head_V_ACTIVE h) + v (E.head_V_FRONT h) + v (E.head_V_SYNC h) + v (E.head_V_BACK h)
/-- The enabled heads of a candidate. -/
def candHeads (v : Nat → Nat) : List Nat := (List.range 16).filter (fun h => v (E.head_ENABLE h) == 1)

/-- Whether an entry is a DOMAIN of fixed length, with that length (R476). -/
def fixedLength (k : Nat) : Option Nat :=
  match findEntry (k / 256) (k % 256) with
  | some f => (match f.row.ty with | .dom n true => some n | _ => none)
  | none => none

/-- The charm of a client as a candidate's range finds it: one that enters the range counts with its Reset charm (R35). -/
def rangeCharm (s : State) (g c : Nat) : Nat := if inRange s g c then charm s c else 0

/-- A decrease of CARVE_PAGES that cuts a window (R35). -/
def shrinks (s : State) (v : Nat → Nat) (g : Nat) : Bool :=
  let n := v (E.guest_CARVE_PAGES g)
  decide (n < rd s (E.guest_CARVE_PAGES g)) &&
    (rangeFrom (v (E.guest_FIRST_CLIENT g)) (v (E.guest_CLIENT_COUNT g))).any (fun c =>
      decide (n < fld (rangeCharm s g c) 192 20 + fld (rangeCharm s g c) 224 20))

/-- 0x0001: values that contradict each other or live values (R35, R95, R217, R309, R323, R476). DEDUCED: log 64. -/
def check0001 (s : State) (l : Staged) : Option (List Nat) :=
  let v := candN s l
  let src := v E.comm_PD_SOURCE
  checkOver (
    [(l.any (fun p => p.1 == E.comm_PD_SOURCE) && src != 0 && !bitOf (v E.comm_CAN_ENABLE) (src - 1),
      [E.comm_PD_SOURCE, E.comm_CAN_ENABLE])] ++
    l.map (fun p => ((match fixedLength p.1 with | some n => p.2.length != n | none => false), [p.1])) ++
    (List.range 16).map (fun h => (decide (v (E.head_LOCK_PERIOD h) ≤ v (E.head_LOCK_OFFSET h)),
      [E.head_LOCK_PERIOD h, E.head_LOCK_OFFSET h])) ++
    (List.range 3).map (fun d => ((candD s l (E.aud_STRAND d)).length % 4 != 0, [E.aud_STRAND d])) ++
    (List.range 4).map (fun p => ((candD s l (E.haplib_BIND p)).length % 16 != 0, [E.haplib_BIND p])) ++
    (List.range 64).map (fun g => (shrinks s v g,
      [E.guest_FIRST_CLIENT g, E.guest_CLIENT_COUNT g, E.guest_CARVE_PAGES g])))

/-- 0x0002: the enabled heads do not fit the slices (R19). -/
def check0002 (s : State) (l : Staged) : Option (List Nat) :=
  if (placeSlices (candN s l)).isNone then some ((List.range 16).flatMap (fun h => [E.head_PIXEL_CLOCK h, E.head_ENABLE h])) else none

/-- The sum of the fetch ceilings of the enabled heads, bytes per second, as a fraction (R20). DEDUCED: log 66. -/
def ceilings (v : Nat → Nat) : Nat × Nat :=
  (candHeads v).foldl (fun a h =>
    let d := candHt v h * candVt v h
    (a.1 * d + 16 * activePixels v h * v (E.head_PIXEL_CLOCK h) * 1000 * a.2, a.2 * d)) (0, 1)

/-- 0x0003: the ceilings exceed the display class (R20). -/
def check0003 (s : State) (l : Staged) : Option (List Nat) :=
  let v := candN s l
  let c := ceilings v
  if 8000000000 * popCount 8 (v E.mem_CHANNEL_MASK) * c.2 < c.1 then
    some (E.mem_CHANNEL_MASK :: (List.range 16).flatMap (fun h => E.head_ENABLE h :: timingKeys h)) else none

/-- 0x0004: the line-buffer pool is exceeded (R177). -/
def check0004 (s : State) (l : Staged) : Option (List Nat) :=
  if 192 < ((List.range 16).map (headPool s (candN s l))).sum then
    some ((List.range 16).flatMap (fun h => E.head_ENABLE h :: (List.range 8).flatMap (fun f =>
      [E.facet_ENABLE h f, E.facet_FORMAT h f, E.facet_SRC_W h f, E.facet_LINES h f]))) else none

/-- 0x0006: a domain held off under one that is ON (R15, R424). -/
def check0006 (s : State) (l : Staged) : Option (List Nat) :=
  let v := candN s l
  checkOver ((List.range 16).flatMap (fun d => (dependents d).map (fun e =>
    (v (E.pd_MODE d) == 2 && v (E.pd_MODE e) == 0, [E.pd_MODE d, E.pd_MODE e]))))

/-- Whether a client holds something that R23 names. -/
def clientHolds (s : State) (c : Nat) : Bool :=
  (rctxOf s c).isSome || (cctxOf s c).isSome || !(facetsHeld s c).isEmpty || !(cvHeld s c).isEmpty ||
    (List.range 8).any (fun r => match (rxOf s r).opened with | some o => o.client == c | none => false) ||
    (List.range 32).any (fun n => rd s (E.hs_HOLDER n) == c) ||
    (List.range 4).any (fun p => (subOf s p c).isSome)

/-- Whether two guests' candidate ranges overlap. -/
def rangesMeet (v : Nat → Nat) (a b : Nat) : Bool :=
  let fa := v (E.guest_FIRST_CLIENT a)
  let fb := v (E.guest_FIRST_CLIENT b)
  decide (fa < fb + v (E.guest_CLIENT_COUNT b)) && decide (fb < fa + v (E.guest_CLIENT_COUNT a)) &&
    v (E.guest_CLIENT_COUNT a) != 0 && v (E.guest_CLIENT_COUNT b) != 0

/-- The two range entries of a guest. -/
def rangeKeys (g : Nat) : List Nat := [E.guest_FIRST_CLIENT g, E.guest_CLIENT_COUNT g]

/-- 0x0007: client ranges (R23). -/
def check0007 (s : State) (l : Staged) : Option (List Nat) :=
  let v := candN s l
  checkOver (
    (List.range 64).map (fun g => (decide (4096 < v (E.guest_FIRST_CLIENT g) + v (E.guest_CLIENT_COUNT g)), rangeKeys g)) ++
    (List.range 64).map (fun g =>
      ((v (E.guest_FIRST_CLIENT g) != rd s (E.guest_FIRST_CLIENT g) || v (E.guest_CLIENT_COUNT g) != rd s (E.guest_CLIENT_COUNT g)) &&
        guestExists s g && (clientsOf s g).any (fun c => charmEn s c || clientHolds s c), rangeKeys g)) ++
    (List.range 64).flatMap (fun a => (List.range a).map (fun b => (rangesMeet v b a, rangeKeys b ++ rangeKeys a))))

/-- USABLE in MB under a reading of the configuration record (R343). -/
def candUsable (v : Nat → Nat) : Nat :=
  let total := popCount 8 (v E.mem_CHANNEL_MASK) * (v E.mem_RANKS * 2 * dieBytes (v E.mem_DENSITY)) / 2 ^ 20
  if v E.mem_INLINE_ECC = 1 then total * 7 / 8 else total

/-- The guest pool in pages that a configuration leaves (R344). -/
def candPool (s : State) (v : Nat → Nat) : Nat := (candUsable v - 1024 - rd s E.mem_LOCKET_SIZE) * 16

/-- 0x0008: the carve-outs exceed the pool, in force or as the candidate would make it (R342, R344). DEDUCED: log 65. -/
def check0008 (s : State) (l : Staged) : Option (List Nat) :=
  let v := candN s l
  let sum := ((List.range 64).map (fun g => v (E.guest_CARVE_PAGES g))).sum
  if candPool s (inForce s) < sum ∨ candPool s v < sum then
    some ([E.mem_CHANNEL_MASK, E.mem_RANKS, E.mem_DENSITY, E.mem_INLINE_ECC] ++ (List.range 64).map E.guest_CARVE_PAGES) else none

/-- 0x0009: a switch-off of a domain with a trusted-held block (R378, R381, R424). -/
def check0009 (s : State) (l : Staged) : Option (List Nat) :=
  let v := candN s l
  let on := candHeads v
  checkOver [
    (v (E.pd_MODE 7) == 2 && !on.isEmpty, E.pd_MODE 7 :: on.map E.head_ENABLE),
    (v (E.pd_MODE 8) == 2 && on.any (fun h => decide (8 ≤ h)),
      E.pd_MODE 8 :: (on.filter (fun h => decide (8 ≤ h))).map E.head_ENABLE)]

/-- The entries that accept writes only in PREOP or NMT pre-operational: mappings, assignments, sync modes (R100, R107). -/
def isPreopKey (k : Nat) : Bool :=
  let i := k / 256
  i == 0x1600 || i == 0x1601 || (decide (0x1A00 ≤ i) && decide (i < 0x1A08)) || i == 0x1C12 || i == 0x1C13 || i == 0x1C32 || i == 0x1C33

/-- Whether the field network is in the state those entries require: sync entries are EtherCAT's alone. -/
def preopNow (s : State) (k : Nat) : Bool :=
  let i := k / 256
  s.field.al == 2 || ((i != 0x1C32 && i != 0x1C33) && ((canOf s 0).nmt == 127 || (canOf s 1).nmt == 127))

/-- 0x000A: an image's record of such an entry, whose state has passed since it was staged (R85, R90). -/
def check000A (s : State) (l : Staged) : Option (List Nat) :=
  let bad := (l.map (·.1)).filter (fun k => isPreopKey k && !preopNow s k)
  if bad.isEmpty then none else some bad

/-! ### Facets and composition (R184) -/

/-- The enabled facets of a head in a candidate. -/
def candFacets (v : Nat → Nat) (h : Nat) : List Nat := (List.range 8).filter (fun f => v (E.facet_ENABLE h f) == 1)

/-- Every pair of head and facet. -/
def allFacets : List (Nat × Nat) := (List.range 16).flatMap (fun h => (List.range 8).map (fun f => (h, f)))

/-- Whether a commit touches head, facet or composition entries. DEDUCED: log 61. -/
def touchesHeads (l : Staged) : Bool := touches l 0x3000 0x33FF || touches l 0x3400 0x3400

/-- 0x0100: two enabled facets of a head with the same Z. -/
def check0100 (s : State) (l : Staged) : Option (List Nat) :=
  let v := candN s l
  checkOver ((List.range 16).flatMap (fun h => (candFacets v h).flatMap (fun a => (candFacets v h).map (fun b =>
    (decide (a < b) && v (E.facet_Z h a) == v (E.facet_Z h b),
      [E.facet_ENABLE h a, E.facet_Z h a, E.facet_ENABLE h b, E.facet_Z h b])))))

/-- Checks of each enabled facet. -/
def eachFacet (v : Nat → Nat) (bad : Nat → Nat → Bool) (keys : Nat → Nat → List Nat) : Option (List Nat) :=
  checkOver (allFacets.map (fun p => (v (E.facet_ENABLE p.1 p.2) == 1 && bad p.1 p.2, E.facet_ENABLE p.1 p.2 :: keys p.1 p.2)))

/-- 0x0101: a destination rectangle outside the active area. -/
def check0101 (s : State) (l : Staged) : Option (List Nat) :=
  let v := candN s l
  eachFacet v (fun h f => decide (v (E.head_H_ACTIVE h) < v (E.facet_DST_X h f) + v (E.facet_DST_W h f)) ||
      decide (v (E.head_V_ACTIVE h) < v (E.facet_DST_Y h f) + v (E.facet_DST_H h f)))
    (fun h f => [E.head_H_ACTIVE h, E.head_V_ACTIVE h, E.facet_DST_X h f, E.facet_DST_Y h f, E.facet_DST_W h f, E.facet_DST_H h f])

/-- 0x0102: a ratio outside R175. -/
def check0102 (s : State) (l : Staged) : Option (List Nat) :=
  let v := candN s l
  eachFacet v (fun h f =>
      let sw := v (E.facet_SRC_W h f)
      let dw := v (E.facet_DST_W h f)
      let sh := v (E.facet_SRC_H h f)
      let dh := v (E.facet_DST_H h f)
      decide (8 * sw < dw) || decide (4 * dw < sw) || decide (8 * sh < dh) || decide (v (E.facet_LINES h f) * dh < 4 * sh))
    (fun h f => [E.facet_DST_W h f, E.facet_DST_H h f, E.facet_SRC_W h f, E.facet_SRC_H h f, E.facet_LINES h f])

/-- Whether each phase of a scaler set sums to 256 (R176). -/
def setSums (bs : List Byte) : Bool :=
  let c := fun (i : Nat) => toInt 16 (leVal (slice bs (2 * i) 2))
  let sum := fun (first n : Nat) => ((rangeFrom first n).map c).foldl (· + ·) 0
  (List.range 64).all (fun p => sum (8 * p) 8 == 256 && sum (512 + 4 * p) 4 == 256)

/-- 0x0103: a scaler phase that does not sum to 256. -/
def check0103 (_ : State) (l : Staged) : Option (List Nat) :=
  checkOver (((List.range 16).flatMap (fun h => [E.head_SCALE_SET1 h, E.head_SCALE_SET2 h])).map (fun k =>
    ((match l.find? (fun p => p.1 == k) with | some p => !setSums p.2 | none => false), [k])))

/-- 0x0104: a head's fetch budget (R178). -/
def check0104 (s : State) (l : Staged) : Option (List Nat) :=
  let v := candN s l
  checkOver ((List.range 16).map (fun h =>
    (decide (16 * activePixels v h < fetchBytes s v h),
      [E.head_H_ACTIVE h, E.head_V_ACTIVE h] ++ (List.range 8).flatMap (fun f =>
        [E.facet_ENABLE h f, E.facet_SOURCE h f, E.facet_FORMAT h f, E.facet_SRC_W h f, E.facet_SRC_H h f, E.facet_DIRECT_EN h f]))))

/-- 0x0105: FORMAT, parity or effective width (R167, R177, R179). -/
def check0105 (s : State) (l : Staged) : Option (List Nat) :=
  let v := candN s l
  eachFacet v (fun h f =>
      let fmt := v (E.facet_FORMAT h f)
      let odd := fun k => v k % 2 == 1
      (v (E.facet_SOURCE h f) == 1 && fmt != 1 && fmt != 7) ||
        ((fmt == 5 || fmt == 6 || fmt == 7) && (odd (E.facet_SRC_X h f) || odd (E.facet_SRC_W h f))) ||
        ((fmt == 5 || fmt == 6) && (odd (E.facet_SRC_Y h f) || odd (E.facet_SRC_H h f))) || decide (8192 < effWidth v h f))
    (fun h f => [E.facet_SOURCE h f, E.facet_FORMAT h f, E.facet_SRC_X h f, E.facet_SRC_Y h f, E.facet_SRC_W h f, E.facet_SRC_H h f])

/-- A client's effective right to a facet under a candidate's FACET_MASK and ranges (R26). -/
def candFacetRight (s : State) (v : Nat → Nat) (c h f : Nat) : Bool :=
  bitOf (charm s c) (32 + 8 * h + f) &&
    (match (List.range 64).find? (fun g => decide (v (E.guest_FIRST_CLIENT g) ≤ c) &&
        decide (c < v (E.guest_FIRST_CLIENT g) + v (E.guest_CLIENT_COUNT g))) with
      | some g => bitOf (v (E.guest_FACET_MASK g)) (8 * h + f)
      | none => false)

/-- 0x0106: a direct facet without a client that has its right. -/
def check0106 (s : State) (l : Staged) : Option (List Nat) :=
  let v := candN s l
  checkOver (allFacets.map (fun p =>
    let c := v (E.facet_DIRECT_CLIENT p.1 p.2)
    (v (E.facet_DIRECT_EN p.1 p.2) == 1 && (decide (4096 ≤ c) || !candFacetRight s v c p.1 p.2),
      [E.facet_DIRECT_EN p.1 p.2, E.facet_DIRECT_CLIENT p.1 p.2])))

/-! ### Heads (R202) -/

/-- 0x0110: totals or a frame period above the limits. DEDUCED: log 62. -/
def check0110 (s : State) (l : Staged) : Option (List Nat) :=
  let v := candN s l
  checkOver ((List.range 16).map (fun h =>
    (decide (16384 < candHt v h) || decide (16384 < candVt v h) || decide (v (E.head_PIXEL_CLOCK h) * 1000 < candHt v h * candVt v h),
      timingKeys h)))

/-- 0x0111: the latch lines fill the frame. -/
def check0111 (s : State) (l : Staged) : Option (List Nat) :=
  let v := candN s l
  checkOver ((List.range 16).map (fun h =>
    (decide (candVt v h ≤ latchLines (v (E.head_LATCH_LEAD h)) (v (E.head_PIXEL_CLOCK h)) (candHt v h)),
      timingKeys h ++ [E.head_LATCH_LEAD h])))

/-- An enabled head in command mode. -/
def candCommand (v : Nat → Nat) (h : Nat) : Bool := v (E.head_ENABLE h) == 1 && v (E.head_SCAN_MODE h) == 1

/-- 0x0112: command mode without a DSI port or a tearing-effect input of its own. -/
def check0112 (s : State) (l : Staged) : Option (List Nat) :=
  let v := candN s l
  checkOver ((List.range 16).map (fun h =>
    let r := v (E.xbar_ROUTE h)
    let te := v (E.head_TE_INPUT h)
    let other := (List.range 16).filter (fun o => o != h && candCommand v o && v (E.head_TE_INPUT o) == te)
    (candCommand v h && (!(decide (0x20 ≤ r) && decide (r ≤ 0x23)) || te == 0xFF || !other.isEmpty),
      [E.head_ENABLE h, E.head_SCAN_MODE h, E.head_TE_INPUT h, E.xbar_ROUTE h] ++
        other.flatMap (fun o => [E.head_ENABLE o, E.head_SCAN_MODE o, E.head_TE_INPUT o]))))

/-- 0x0113: two enabled heads on one port and stream. -/
def check0113 (s : State) (l : Staged) : Option (List Nat) :=
  let v := candN s l
  checkOver ((candHeads v).flatMap (fun b => (candHeads v).map (fun a =>
    (decide (a < b) && v (E.xbar_ROUTE a) == v (E.xbar_ROUTE b) && v (E.xbar_ROUTE a) != 0xFF,
      [E.head_ENABLE a, E.head_ENABLE b, E.xbar_ROUTE a, E.xbar_ROUTE b]))))

/-- 0x0114: a lock period that does not fit the frame period, or a lock in command mode. -/
def check0114 (s : State) (l : Staged) : Option (List Nat) :=
  let v := candN s l
  checkOver ((List.range 16).map (fun h =>
    -- both periods in ns, times PIXEL_CLOCK in kHz
    let frame : Int := ((candHt v h * candVt v h * 1000000 : Nat) : Int)
    let lock : Int := ((v (E.head_LOCK_PERIOD h) * v (E.head_PIXEL_CLOCK h) : Nat) : Int)
    (v (E.head_LOCK_EN h) == 1 && (decide (frame < 200 * ((lock - frame).natAbs : Int)) || v (E.head_SCAN_MODE h) == 1),
      timingKeys h ++ [E.head_SCAN_MODE h, E.head_LOCK_EN h, E.head_LOCK_PERIOD h])))

/-! ### Ports and receivers (R228, R229, R234) -/

/-- The heads that a candidate routes to a port, with their streams (R228). -/
def candPortHeads (v : Nat → Nat) (p : Nat) : List (Nat × Nat) :=
  (List.range 16).filterMap (fun h => match portOfRoute (v (E.xbar_ROUTE h)) with
    | some (q, st) => if q = p then some (h, st) else none
    | none => none)

/-- The entries of a port that R228 reads. -/
def portKeys (p : Nat) : List Nat := (rangeFrom 1 0x0B).map (dkey (0x3401 + p))
/-- The entries of a routed head that R228 reads. -/
def routedKeys (h : Nat) : List Nat := [E.head_SCAN_MODE h, E.xbar_ROUTE h] ++ timingKeys h

/-- Whether a head's stream alone fits its port (R228). -/
def streamFits (v : Nat → Nat) (p h : Nat) : Bool :=
  let clk := v (E.head_PIXEL_CLOCK h)
  let b := linkBits16 v p
  let lanes := v (E.port_LANES p)
  if p < 8 then decide (clk * b ≤ 16 * lanes * laneKbit (v (E.port_LINK_RATE p)))
  else if p < 12 then
    if v (E.port_KIND p) = 0 ∧ v (E.head_SCAN_MODE h) = 0 then
      decide (clk * b * v (E.head_H_ACTIVE h) * 105 ≤ 16 * lanes * v (E.port_LINK_RATE p) * 1000 * candHt v h * 100)
    else decide (clk * b ≤ 16 * lanes * v (E.port_LINK_RATE p) * 1000)
  else if v (E.port_KIND p) = 0 then decide (25000 ≤ clk) && decide (clk ≤ 112000)
  else decide (50000 ≤ clk) && decide (clk ≤ 224000)

/-- 0x0120: a stream does not fit. -/
def check0120 (s : State) (l : Staged) : Option (List Nat) :=
  let v := candN s l
  checkOver ((List.range 16).map (fun p =>
    let hs := candPortHeads v p
    let mst := decide (p < 8) && v (E.port_MST p) == 1 && v (E.port_KIND p) == 0
    ((if mst then decide (63 < (hs.map (fun e => mstSlots v p (v (E.head_PIXEL_CLOCK e.1)))).sum)
      else hs.any (fun e => !streamFits v p e.1)), portKeys p ++ hs.flatMap (fun e => routedKeys e.1))))

/-- 0x0121: MST where there is none. -/
def check0121 (s : State) (l : Staged) : Option (List Nat) :=
  let v := candN s l
  checkOver ((List.range 16).map (fun p =>
    let hs := (candPortHeads v p).filter (fun e => e.2 == 1)
    ((v (E.port_MST p) == 1 && (decide (8 ≤ p) || v (E.port_KIND p) == 1)) || (v (E.port_MST p) == 0 && !hs.isEmpty),
      [E.port_KIND p, E.port_MST p] ++ hs.map (fun e => E.xbar_ROUTE e.1))))

/-- 0x0122: DSC that the port or the geometry does not allow. -/
def check0122 (s : State) (l : Staged) : Option (List Nat) :=
  let v := candN s l
  checkOver ((List.range 16).map (fun p =>
    let hs := candPortHeads v p
    let n := v (E.port_DSC_SLICES p)
    let bad := fun (h : Nat) => v (E.head_H_ACTIVE h) % n != 0 || decide (2560 < v (E.head_H_ACTIVE h) / n) ||
      v (E.head_V_ACTIVE h) % v (E.port_DSC_SLICE_H p) != 0
    ((v (E.port_DSC_EN p) == 1 && (decide (12 ≤ p) || hs.any (fun e => bad e.1))) ||
        (decide (p < 12) && decide (48 * v (E.port_BPC p) ≤ v (E.port_DSC_BPP p))),
      [E.port_BPC p, E.port_DSC_EN p, E.port_DSC_BPP p, E.port_DSC_SLICES p, E.port_DSC_SLICE_H p] ++
        hs.flatMap (fun e => [E.head_H_ACTIVE e.1, E.head_V_ACTIVE e.1, E.xbar_ROUTE e.1]))))

/-- 0x0123: dual-link LVDS with an odd field. -/
def check0123 (s : State) (l : Staged) : Option (List Nat) :=
  let v := candN s l
  checkOver ((rangeFrom 12 4).flatMap (fun p => (candPortHeads v p).map (fun e =>
    (v (E.port_KIND p) == 1 &&
      (v (E.head_H_FRONT e.1) % 2 == 1 || v (E.head_H_SYNC e.1) % 2 == 1 || v (E.head_H_BACK e.1) % 2 == 1),
      [E.port_KIND p, E.xbar_ROUTE e.1, E.head_H_FRONT e.1, E.head_H_SYNC e.1, E.head_H_BACK e.1]))))

/-- Whether a write sequence is a whole list of records (R231). -/
def dsiInitOk : Nat → List Byte → Bool
  | 0, bs => bs.isEmpty
  | n + 1, bs =>
    match bs with
    | [] => true
    | _ :: ty :: len :: rest =>
      let t := ty.toNat
      let k := len.toNat
      (if t = 0x05 then k == 1 else if t = 0x15 then k == 2 else (t == 0x29 || t == 0x39) && decide (k ≤ 250)) &&
        decide (k ≤ rest.length) && dsiInitOk n (rest.drop k)
    | _ => false

/-- 0x0124: DSI_INIT malformed. -/
def check0124 (s : State) (l : Staged) : Option (List Nat) :=
  checkOver ((rangeFrom 8 4).map (fun p => (!dsiInitOk 1024 (candD s l (E.port_DSI_INIT p)), [E.port_DSI_INIT p])))

/-- 0x0130: WIDTH breaks its data type's rule (R234). -/
def check0130 (s : State) (l : Staged) : Option (List Nat) :=
  let v := candN s l
  checkOver ((List.range 8).map (fun r =>
    let t := v (E.cam_DATA_TYPE r)
    let w := v (E.cam_WIDTH r)
    (((t == 0x1E || t == 0x2C) && w % 2 == 1) || (t == 0x2B && w % 4 != 0), [E.cam_DATA_TYPE r, E.cam_WIDTH r])))

/-! ### Cameo layers (R246) -/

/-- 0x0140: the active area does not hold a cameo rectangle. -/
def check0140 (s : State) (l : Staged) : Option (List Nat) :=
  let v := candN s l
  checkOver ((List.range 16).map (fun h =>
    (v (E.head_ENABLE h) == 1 && (List.range 2).any (fun n =>
      let c := cameoLayer s h n
      decide (v (E.head_H_ACTIVE h) < at0 0 c 0 + at0 0 c 2) || decide (v (E.head_V_ACTIVE h) < at0 0 c 1 + at0 0 c 3)),
      [E.head_H_ACTIVE h, E.head_V_ACTIVE h, E.head_ENABLE h])))

/-- 0x0141: the timing makes a region too wide (R255). -/
def check0141 (s : State) (l : Staged) : Option (List Nat) :=
  let v := candN s l
  checkOver ((List.range 16).map (fun h =>
    (v (E.head_ENABLE h) == 1 && (List.range 8).any (fun r =>
      let g := regionRec s h r
      regionOn s h r && !widthFits v h (fld g 32 13 - fld g 0 13 + 1)), E.head_ENABLE h :: timingKeys h)))

/-! ### Touch (R272, R289) -/

/-- 0x0150: a scan that does not fit its window (R272). -/
def check0150 (s : State) (l : Staged) : Option (List Nat) :=
  let v := candN s l
  checkOver ((List.range 4).map (fun p =>
    let h := v (E.panel_HEAD p)
    let i := if v (E.panel_MODE p) = 1 then v (E.panel_GLOVE_INTEG p) else v (E.panel_INTEG p)
    let blank := candHt v h - v (E.head_H_ACTIVE h)
    -- lines per step: I in 0.1 µs against the horizontal blanking
    let lines := ceilDiv (i * v (E.head_PIXEL_CLOCK h)) (10000 * blank)
    let steps := v (E.panel_DRIVE_COUNT p) + b2n (v (E.panel_SELF_EN p) == 1) + 2
    (v (E.panel_ENABLE p) == 1 && decide (h < 16) && decide (candVt v h / v (E.panel_SCANS_PER_FRAME p) < steps * lines + 2),
      [E.panel_ENABLE p, E.panel_HEAD p, E.panel_SCANS_PER_FRAME p, E.panel_DRIVE_COUNT p, E.panel_INTEG p, E.panel_GLOVE_INTEG p,
        E.panel_SELF_EN p, E.panel_MODE p] ++ timingKeys h)))

/-- 0x0151: ganging (R268). -/
def check0151 (s : State) (l : Staged) : Option (List Nat) :=
  let v := candN s l
  checkOver ((List.range 4).map (fun p =>
    (v (E.panel_GANG p) == 1 && (p % 2 == 1 || v (E.panel_ENABLE (p + 1)) == 1),
      E.panel_GANG p :: (if p % 2 = 1 then [] else [E.panel_ENABLE (p + 1)]))))

/-- 0x0152: CHANNEL_MAP. -/
def check0152 (s : State) (l : Staged) : Option (List Nat) :=
  let v := candN s l
  checkOver ((List.range 4).map (fun p =>
    let m := leBytes 128 (v (E.panel_CHANNEL_MAP p))
    let once := fun (n : Nat) => m.countP (fun b => b.toNat == n) == 1
    let d := v (E.panel_DRIVE_COUNT p)
    let n := v (E.panel_SENSE_COUNT p)
    let used := m.countP (fun b => b.toNat != 0xFF)
    (!((List.range d).all once && (rangeFrom 128 n).all once && used == d + n) ||
      (v (E.panel_GANG p) == 0 && (m.drop 64).any (fun b => b.toNat != 0xFF)),
      [E.panel_GANG p, E.panel_DRIVE_COUNT p, E.panel_SENSE_COUNT p, E.panel_CHANNEL_MAP p])))

/-- 0x0153: FREQS. -/
def check0153 (s : State) (l : Staged) : Option (List Nat) :=
  let v := candN s l
  checkOver ((List.range 4).map (fun p =>
    let f := (List.range 8).map (fun i => fld (v (E.panel_FREQS p)) (16 * i) 16)
    (f.any (fun x => decide (x < 100) || decide (500 < x)) || (f.zip (f.drop 1)).any (fun x => decide (x.2 ≤ x.1)),
      [E.panel_FREQS p])))

/-- 0x0154: WATER needs self scans. -/
def check0154 (s : State) (l : Staged) : Option (List Nat) :=
  let v := candN s l
  checkOver ((List.range 4).map (fun p => (v (E.panel_WATER p) == 1 && v (E.panel_SELF_EN p) == 0, [E.panel_SELF_EN p, E.panel_WATER p])))

/-! ### Haptics (R310, R469) -/

/-- The enabled channels of a candidate. -/
def candHaps (v : Nat → Nat) : List Nat := (List.range 16).filter (fun n => v (E.hap_ENABLE n) == 1)

/-- 0x0160: too many samples on a bus. -/
def check0160 (s : State) (l : Staged) : Option (List Nat) :=
  let v := candN s l
  checkOver ((List.range 4).map (fun b =>
    let ns := (candHaps v).filter (fun n => v (E.hap_ACC_BUS n) == b)
    (decide (25600 < (ns.map (fun n => v (E.hap_ACC_RATE n))).sum),
      ns.flatMap (fun n => [E.hap_ENABLE n, E.hap_ACC_BUS n, E.hap_ACC_RATE n]))))

/-- 0x0161: two channels with one accelerometer. -/
def check0161 (s : State) (l : Staged) : Option (List Nat) :=
  let v := candN s l
  checkOver ((candHaps v).flatMap (fun b => (candHaps v).map (fun a =>
    (decide (a < b) && v (E.hap_ACC_BUS a) == v (E.hap_ACC_BUS b) && v (E.hap_ACC_ADDR a) == v (E.hap_ACC_ADDR b),
      [a, b].flatMap (fun n => [E.hap_ENABLE n, E.hap_ACC_BUS n, E.hap_ACC_ADDR n])))))

/-- 0x0162: a binding that names what it may not (R309). -/
def check0162 (s : State) (l : Staged) : Option (List Nat) :=
  let v := candN s l
  checkOver ((List.range 4).map (fun p =>
    let d := candD s l (E.haplib_BIND p)
    let bad := fun (i : Nat) =>
      let e := leVal (slice d (16 * i) 16)
      (bitsOf 16 (fld e 64 16)).any (fun n => v (E.hap_ENABLE n) != 1) || alarmClass (fld e 80 7) ||
        decide (fld e 32 16 < fld e 0 16) || decide (fld e 48 16 < fld e 16 16)
    ((List.range (d.length / 16)).any bad, E.haplib_BIND p :: (List.range 16).map E.hap_ENABLE)))

/-- 0x0163: I_LIMIT × SENSE_MR above 800 mV (R469). -/
def check0163 (s : State) (l : Staged) : Option (List Nat) :=
  let v := candN s l
  checkOver ((List.range 16).map (fun n =>
    (decide (800000 < v (E.hap_I_LIMIT n) * v (E.hap_SENSE_MR n)), [E.hap_I_LIMIT n, E.hap_SENSE_MR n])))

/-! ### Audio (R337) -/

/-- The key of a domain's reference. -/
def refKey (d : Nat) : Nat := if d = 0 then E.aud_A_REF else if d = 1 then E.aud_B_REF else E.aud_V_REF

/-- Whether a port is its domain's reference in a candidate. -/
def candIsRef (v : Nat → Nat) (n : Nat) : Bool := v (refKey (v (E.tdm_DOMAIN n))) == n + 1

/-- The domain entries of every port, input and bus, and of the bridges: what a block names its domain by. -/
def domainKeys (v : Nat → Nat) : List Nat :=
  (List.range 6).map E.tdm_DOMAIN ++ (List.range 64).map E.mix_DOMAIN ++ (List.range 32).map E.bus_DOMAIN ++
    ((List.range 16).filter (fun k => v (E.asrc_MODE k) == 1)).flatMap (fun k => [E.asrc_FROM k, E.asrc_TO k])

/-- 0x0170: domain B without a reference, or a reference that is no slave port of its domain. -/
def check0170 (s : State) (l : Staged) : Option (List Nat) :=
  let v := candN s l
  checkOver ((domainKeys v).map (fun k => (v k == 1 && v E.aud_B_REF == 0, [k, E.aud_B_REF])) ++
    (List.range 3).map (fun d =>
      let r := v (refKey d)
      (decide (1 ≤ r) && decide (r ≤ 6) && !(v (E.tdm_ROLE (r - 1)) == 1 && v (E.tdm_DOMAIN (r - 1)) == d),
        refKey d :: (if 1 ≤ r ∧ r ≤ 6 then [E.tdm_DOMAIN (r - 1), E.tdm_ROLE (r - 1)] else []))))

/-- The entry that gives the domain of an input's source, if the source exists. -/
def sourceDomainKey (v : Nat → Nat) (i : Nat) : Option Nat :=
  let k := v (E.mix_SRC_KIND i)
  let x := v (E.mix_SRC_INDEX i)
  if k = 1 then (if x / 16 < 6 then some (E.tdm_DOMAIN (x / 16)) else none)
  else if k = 2 then (if x < 8 then some (E.pdm_DOMAIN x) else none)
  else if k = 4 then some (E.asrc_TO (x / 16))
  else if k = 5 then (if x < 32 then some (E.bus_DOMAIN x) else none)
  else none

/-- 0x0171: an input and its source, or a stream's lanes (R321, R331). A stream is checked when the commit stages its entries or
it is open. DEDUCED: log 63. -/
def check0171 (s : State) (l : Staged) : Option (List Nat) :=
  let v := candN s l
  checkOver ((List.range 64).map (fun i =>
      let k := v (E.mix_SRC_KIND i)
      let src := sourceDomainKey v i
      (k != 0 && k != 3 && (match src with | some q => v q != v (E.mix_DOMAIN i) | none => true),
        [E.mix_SRC_KIND i, E.mix_SRC_INDEX i, E.mix_DOMAIN i] ++ (match src with | some q => [q] | none => []))) ++
    (List.range 32).map (fun n =>
      let lanes := rangeFrom (v (E.hs_FIRST n)) (v (E.hs_LANES n))
      ((touches l (0x44F0 + n) (0x44F0 + n) || (streamOf s n).opened.isSome) && !lanesOk v n,
        [E.hs_DIR n, E.hs_LANES n, E.hs_FIRST n] ++
          (if v (E.hs_DIR n) = 0 then lanes.flatMap (fun i => [E.mix_SRC_KIND i, E.mix_DOMAIN i]) else lanes.map E.bus_DOMAIN))))

/-- Whether a non-reference slave port lacks the ASRC channels it needs (R316, R320). -/
def lacksAsrc (v : Nat → Nat) (n : Nat) : Bool :=
  let rx := v (E.tdm_RX_ASRC n)
  let tx := v (E.tdm_TX_ASRC n)
  let sends := (leBytes 16 (v (E.tdm_TX_MAP n))).any (fun b => b.toNat != 0xFF)
  v (E.tdm_ENABLE n) == 1 && v (E.tdm_ROLE n) == 1 && !candIsRef v n &&
    (!(decide (rx < 16) && v (E.asrc_MODE rx) == 2 && v (E.asrc_LANES rx) == v (E.tdm_SLOTS n)) ||
      (sends && !(decide (tx < 16) && v (E.asrc_MODE tx) == 3 && v (E.asrc_LANES tx) == v (E.tdm_SLOTS n))))

/-- 0x0172: port clocks, widths and ASRC channels. -/
def check0172 (s : State) (l : Staged) : Option (List Nat) :=
  let v := candN s l
  checkOver ((List.range 6).map (fun n =>
    ((v (E.tdm_ROLE n) == 0 && decide (24576000 < v (E.tdm_SLOTS n) * v (E.tdm_SLOT_BITS n) * domRate (v (E.tdm_DOMAIN n)))) ||
      decide (v (E.tdm_SLOT_BITS n) < v (E.tdm_DATA_BITS n)) || lacksAsrc v n,
      (rangeFrom 1 0x0A).map (dkey (0x4410 + n)) ++ [refKey (v (E.tdm_DOMAIN n))] ++
        ([v (E.tdm_RX_ASRC n), v (E.tdm_TX_ASRC n)].filter (fun k => decide (k < 16))).flatMap (fun k => [E.asrc_MODE k, E.asrc_LANES k]))))

/-- 0x0173: ASRC lanes, bridges and channels. -/
def check0173 (s : State) (l : Staged) : Option (List Nat) :=
  let v := candN s l
  let ks := (List.range 16).filter (fun k => v (E.asrc_MODE k) != 0)
  let names := fun (n : Nat) => [v (E.tdm_RX_ASRC n), v (E.tdm_TX_ASRC n)].filter (fun k => decide (k < 16))
  checkOver ([(decide (128 < (ks.map (fun k => v (E.asrc_LANES k))).sum), (List.range 16).flatMap (fun k => [E.asrc_MODE k, E.asrc_LANES k]))] ++
    (List.range 16).map (fun k => (v (E.asrc_MODE k) == 1 && v (E.asrc_FROM k) == v (E.asrc_TO k),
      [E.asrc_MODE k, E.asrc_FROM k, E.asrc_TO k])) ++
    (List.range 6).flatMap (fun b => (List.range b).map (fun a => ((names a).any (fun k => (names b).contains k),
      [E.tdm_RX_ASRC a, E.tdm_TX_ASRC a, E.tdm_RX_ASRC b, E.tdm_TX_ASRC b]))))

/-- 0x0174: the delay pool. -/
def check0174 (s : State) (l : Staged) : Option (List Nat) :=
  let v := candN s l
  if 196608 < ((List.range 64).map (fun i => delaySamples (v (E.mix_DOMAIN i)) (v (E.mix_DELAY i)))).sum then
    some ((List.range 64).flatMap (fun i => [E.mix_DOMAIN i, E.mix_DELAY i])) else none

/-- Whether a port is clocked with its domain: a master or its reference (R329). -/
def clocked (v : Nat → Nat) (n : Nat) : Bool := decide (n < 6) && (v (E.tdm_ROLE n) == 0 || candIsRef v n)

/-- 0x0175: a side-tone path whose ends are not clocked together. -/
def check0175 (s : State) (l : Staged) : Option (List Nat) :=
  let v := candN s l
  checkOver ((List.range 8).map (fun n =>
    let k := v (E.st_SRC_KIND n)
    let src := v (E.st_SRC n) / 16
    let dst := v (E.st_DST n) / 16
    let d := v (E.tdm_DOMAIN dst)
    let ok := clocked v dst && decide (d < 2) &&
      (if k = 1 then clocked v src && v (E.tdm_DOMAIN src) == d else decide (v (E.st_SRC n) < 8) && d == 0)
    (k != 0 && !ok, [E.st_SRC_KIND n, E.st_SRC n, E.st_DST n] ++ ([src, dst].filter (fun p => decide (p < 6))).flatMap (fun p =>
      [E.tdm_DOMAIN p, E.tdm_ROLE p]) ++ [E.aud_A_REF, E.aud_B_REF])))

/-- 0x0176: strand entries. -/
def check0176 (s : State) (l : Staged) : Option (List Nat) :=
  let v := candN s l
  checkOver ((List.range 3).map (fun d =>
    let bs := candD s l (E.aud_STRAND d)
    let ws := wordsOf bs (bs.length / 4)
    let keys := ws.map strandKey
    (ws.any (fun w => v (E.mix_DOMAIN (fld w 0 6)) != d || v (E.bus_DOMAIN (fld w 8 5)) != d) || !decide keys.Nodup,
      E.aud_STRAND d :: ws.flatMap (fun w => [E.mix_DOMAIN (fld w 0 6), E.bus_DOMAIN (fld w 8 5)]))))

/-! ### Memory and power (R342, R424) -/

/-- 0x0180: CHANNEL_MASK. -/
def check0180 (s : State) (l : Staged) : Option (List Nat) :=
  if [0x01, 0x03, 0x0F, 0xFF].contains (candN s l E.mem_CHANNEL_MASK) then none else some [E.mem_CHANNEL_MASK]

/-- 0x0181: more than 8 GB on a channel. -/
def check0181 (s : State) (l : Staged) : Option (List Nat) :=
  let v := candN s l
  if 2 ^ 33 < v E.mem_RANKS * 2 * dieBytes (v E.mem_DENSITY) then some [E.mem_RANKS, E.mem_DENSITY] else none

/-- 0x0182: MAP_ORDER with four or eight channels. -/
def check0182 (s : State) (l : Staged) : Option (List Nat) :=
  let v := candN s l
  if v E.mem_MAP_ORDER ≠ 0 ∧ 4 ≤ popCount 8 (v E.mem_CHANNEL_MASK) then some [E.mem_CHANNEL_MASK, E.mem_MAP_ORDER] else none

/-- 0x0190: a MODE the domain does not accept, PD9 under a routed head, PD14 under a receiver. -/
def check0190 (s : State) (l : Staged) : Option (List Nat) :=
  let v := candN s l
  checkOver ((List.range 16).map (fun d => (!modeAccepted d (v (E.pd_MODE d)), [E.pd_MODE d])) ++
    (candHeads v).map (fun h => (v (E.pd_MODE 9) == 2 && v (E.xbar_ROUTE h) != 0xFF, [E.pd_MODE 9, E.head_ENABLE h, E.xbar_ROUTE h])) ++
    (List.range 8).map (fun r => (v (E.pd_MODE 14) == 2 && v (E.cam_ENABLE r) == 1, [E.pd_MODE 14, E.cam_ENABLE r])))

/-- 0x0191: supply thresholds that are not ordered. -/
def check0191 (s : State) (l : Staged) : Option (List Nat) :=
  let v := candN s l
  checkOver ((List.range 4).map (fun r => (decide (v (E.sup_RESET r) ≤ v (E.sup_WARN r)), [E.sup_WARN r, E.sup_RESET r])))

/-- 0x0192: THROTTLE_T. -/
def check0192 (s : State) (l : Staged) : Option (List Nat) :=
  let t := candN s l E.thm_THROTTLE_T
  if t < 85 ∨ 112 ≤ t then some [E.thm_THROTTLE_T] else none

/-- 0x0193: EPOCH_HOURS. -/
def check0193 (s : State) (l : Staged) : Option (List Nat) :=
  let n := candN s l E.hm_EPOCH_HOURS
  if n < 100 ∨ 10000 < n then some [E.hm_EPOCH_HOURS] else none

/-! ### The check phase -/

/-- A check of entries that R184, R202 or R246 asks of commits that touch them. -/
def ifHeads (l : Staged) (c : Option (List Nat)) : Option (List Nat) := if touchesHeads l then c else none

/-- Every check with its code, in the order R82 gives them. 0x0005 has none: no entry can name a feature of R3 or R12 that its
range lets pass. -/
def commitChecks (s : State) (l : Staged) : List (Nat × Option (List Nat)) := [
  (0x0001, check0001 s l), (0x0002, check0002 s l), (0x0003, check0003 s l), (0x0004, check0004 s l), (0x0006, check0006 s l),
  (0x0007, check0007 s l), (0x0008, check0008 s l), (0x0009, check0009 s l), (0x000A, check000A s l),
  (0x0100, ifHeads l (check0100 s l)), (0x0101, ifHeads l (check0101 s l)), (0x0102, ifHeads l (check0102 s l)),
  (0x0103, ifHeads l (check0103 s l)), (0x0104, ifHeads l (check0104 s l)), (0x0105, ifHeads l (check0105 s l)),
  (0x0106, ifHeads l (check0106 s l)), (0x0110, ifHeads l (check0110 s l)), (0x0111, ifHeads l (check0111 s l)),
  (0x0112, ifHeads l (check0112 s l)), (0x0113, ifHeads l (check0113 s l)), (0x0114, ifHeads l (check0114 s l)),
  (0x0120, check0120 s l), (0x0121, check0121 s l), (0x0122, check0122 s l), (0x0123, check0123 s l), (0x0124, check0124 s l),
  (0x0130, check0130 s l), (0x0140, ifHeads l (check0140 s l)), (0x0141, ifHeads l (check0141 s l)),
  (0x0150, check0150 s l), (0x0151, check0151 s l), (0x0152, check0152 s l), (0x0153, check0153 s l), (0x0154, check0154 s l),
  (0x0160, check0160 s l), (0x0161, check0161 s l), (0x0162, check0162 s l), (0x0163, check0163 s l),
  (0x0170, check0170 s l), (0x0171, check0171 s l), (0x0172, check0172 s l), (0x0173, check0173 s l), (0x0174, check0174 s l),
  (0x0175, check0175 s l), (0x0176, check0176 s l), (0x0180, check0180 s l), (0x0181, check0181 s l), (0x0182, check0182 s l),
  (0x0190, check0190 s l), (0x0191, check0191 s l), (0x0192, check0192 s l), (0x0193, check0193 s l)]

/-- The lowest staged entry among those a check read; 0 where it read none (R82). -/
def refusedAt (l : Staged) (read : List Nat) : Nat :=
  256 * ((l.map (·.1)).filter (fun k => read.contains k)).foldl (fun a k => if a = 0 ∨ k < a then k else a) 0

/-- The first check that fails: its code and REFUSED_AT. -/
def commitVerdict (s : State) (l : Staged) : Option (Nat × Nat) :=
  match (commitChecks s l).find? (fun c => c.2.isSome) with
  | some (code, some read) => some (code, refusedAt l read)
  | _ => none

end Sys2Proof.Machine
end

