-- ==== Sys2Proof/Machine/Process.lean ====
section
/-! DEFINITION. Process data (R101, R105–R110): mappings and assignments, the input snapshot, and what the device does with an
output it takes. -/

namespace Sys2Proof.Machine

/-! ### Mappings (R105, R107) -/

/-- The size in bits of an entry that can be mapped, by key; 0 for any other entry (R105). -/
def mapBits (k : Nat) : Nat :=
  let i := k / 256
  let n := k % 256
  if i = 0x1E00 then if 1 ≤ n ∧ n ≤ 8 then 32 else 0
  else if i = 0x1E01 then if n = 1 then 64 else 0
  else if i = 0x1E02 then if n = 1 ∨ n = 2 then 16 else 0
  else if i = 0x1E03 then if 1 ≤ n ∧ n ≤ 16 then 32 else 0
  else if 0x1E10 ≤ i ∧ i < 0x1E14 then if n = 1 ∨ n = 2 then 8 else if 3 ≤ n ∧ n ≤ 12 then 64 else 0
  else if i = 0x1E20 then if n = 1 then 8 else if n = 2 then 16 else 0
  else if i = 0x2001 ∧ n = 1 then 8
  else 0

/-- An entry that an output can carry. -/
def isOutEntry (k : Nat) : Bool := mapBits k != 0 && (k / 256 == 0x1E00 || k / 256 == 0x1E02 || k / 256 == 0x1E03)

/-- A mapping object that a mapping accepts: 0, or a mappable entry with its own size; a RxPDO maps outputs alone. DEDUCED: log 33. -/
def mapAccepted (rx : Bool) (v : Nat) : Bool :=
  v == 0 || (mapBits (v / 256) != 0 && v % 256 == mapBits (v / 256) && (!rx || isOutEntry (v / 256)))

/-- The mapping objects of a PDO, by the index of its mapping record. -/
def pdoMap (s : State) (idx : Nat) : List Nat := (List.range (rd s (dkey idx 0))).map (fun k => rd s (dkey idx (k + 1)))

/-- The bytes of a list of mapping objects. -/
def mapLen (l : List Nat) : Nat := (l.map (fun v => v % 256)).sum / 8

/-- The PDOs that an assignment names. -/
def assigned (s : State) (idx : Nat) : List Nat := (List.range (rd s (dkey idx 0))).map (fun k => rd s (dkey idx (k + 1)))

/-- Whether an index is a mapping record of the direction. -/
def isPdo (rx : Bool) (i : Nat) : Bool :=
  if rx then i == 0x1600 || i == 0x1601 else decide (0x1A00 ≤ i) && decide (i < 0x1A08)

/-- Whether an assignment and the mappings it names are ones R105 lets through. -/
def assignmentOk (s : State) (rx : Bool) : Bool :=
  (assigned s (if rx then 0x1C12 else 0x1C13)).all (fun i => isPdo rx i && (pdoMap s i).all (mapAccepted rx))

/-- The mapping objects of the EtherCAT outputs or inputs. -/
def ecatMap (s : State) (rx : Bool) : List Nat :=
  ((assigned s (if rx then 0x1C12 else 0x1C13)).filter (isPdo rx)).flatMap (pdoMap s)

/-- The entries mapped into a RxPDO of the current process-data source (R105). -/
def mappedOut (s : State) : List Nat :=
  (if pdSource s = 0 then ecatMap s true else pdoMap s 0x1600 ++ pdoMap s 0x1601).map (· / 256)

/-! ### Inputs (R101) -/

/-- The value of a mapped entry. -/
def inputVal (s : State) (k : Nat) : Nat := if k = E.glob_DEVICE_STATE then deviceState s else rd s k

/-- The bytes of mapped inputs. -/
def inputBytes (s : State) (l : List Nat) : List Byte := l.flatMap (fun v => leBytes (v % 256 / 8) (inputVal s (v / 256)))

/-- The input snapshot is taken and stands in SM3. -/
def snapshot (s : State) : State :=
  let bs := inputBytes s (ecatMap s false)
  send { s with field := { s.field with sm3 := bs } } (.pdo 0) [] bs

/-! ### Outputs (R105, R108, R110) -/

/-- The entries and values that an output's bytes carry. -/
def outputVals : List Nat → List Byte → List (Nat × Nat)
  | [], _ => []
  | v :: r, bs => (v / 256, leVal (bs.take (v % 256 / 8))) :: outputVals r (bs.drop (v % 256 / 8))

/-- The value an output carries for an entry, or the live one. -/
def outVal (s : State) (l : List (Nat × Nat)) (k : Nat) : Nat :=
  match l.find? (fun p => p.1 == k) with
  | some p => p.2
  | none => rd s k

/-- A HAPTIC_TRIG word is taken: a TOGGLE that differs from the one of the previous accepted output, and did not already trigger
with the output before, is one trigger, once there is a reference (R110). DEDUCED: log 75. -/
def takeTrig (s : State) (n w : Nat) : State :=
  let s1 := wr s (E.pdo_HAPTIC_TRIG n) w
  let b := bitOf w 31
  let go := s.field.trigRef && bitOf s.field.toggles n != b && bitOf s.field.lastTrig n != b
  let s2 := { s1 with field := { s1.field with lastTrig := setBit s.field.lastTrig n b } }
  if go then pdTrigger s2 n w else s2

/-- An output's haptic words; the first output that carries any only sets the reference, and later each accepted output does. -/
def takeTrigs (s : State) (l : List (Nat × Nat)) (accepted : Bool) : State :=
  let ws := l.filter (fun p => p.1 / 256 == 0x1E03)
  let s1 := ws.foldl (fun t p => takeTrig t (p.1 % 256 - 1) p.2) s
  if ws.isEmpty ∨ (s.field.trigRef ∧ ¬ accepted) then s1
  else { s1 with field := { s1.field with trigRef := true, toggles := s1.field.lastTrig } }

/-- An output is taken. Its alarm words, ALARM_SEQ and ALARM_CRC are accepted or refused together, those it does not carry
standing as they are (R108); an output that carries none of them is accepted while ALARM_CHECK is 0 and neither accepted nor
refused otherwise. -/
def takeOutput (s : State) (l : List (Nat × Nat)) : State :=
  let alarms := l.any (fun p => p.1 / 256 == 0x1E00 || p.1 / 256 == 0x1E02)
  let ws := (List.range 8).map (fun k => outVal s l (E.pdo_ALARM_STATE k))
  let seq := outVal s l E.pdo_ALARM_SEQ
  let crc := outVal s l E.pdo_ALARM_CRC
  if alarms ∨ rd s E.comm_ALARM_CHECK = 0 then
    takeTrigs (takeAlarms s ws seq crc) l (rd s E.comm_ALARM_CHECK == 0 || alarmChecks s ws seq crc)
  else takeTrigs s l false

/-- An output of the process-data source is taken: PD_CYCLES counts it. -/
def takeSourced (s : State) (l : List (Nat × Nat)) : State := takeOutput (bumpWrap s E.comm_PD_CYCLES) l

/-- The newest SM2 buffer that `ok` lets through is taken, each buffer at most once (R101): older ones are gone with it. -/
def takeBuffer (s : State) (ok : Nat → Bool) : State :=
  match s.field.buffers.find? (fun b => ok b.1) with
  | none => s
  | some b =>
    let s1 := { s with field := { s.field with buffers := s.field.buffers.takeWhile (fun x => !ok x.1) } }
    if pdSource s = 0 then takeSourced s1 (outputVals (ecatMap s true) b.2) else bump s1 E.comm_FOREIGN_PD

end Sys2Proof.Machine
end

