-- ==== Sys2Proof/Machine/Dictionary.lean ====
section
/-! DEFINITION. The dictionary server (R71–R93, R476, R478): who may access what, reads, writes and their refusals, staging,
stores, image actions, and the BAR2 port (R68, R69). -/

namespace Sys2Proof.Machine

/-! ### Staging sets (R81) -/

/-- A staging set. -/
def stagingOf (s : State) (n : Nat) : StageSet := tget (fun _ => {}) s.dict.sets n
/-- The state with a staging set replaced. -/
def putStaging (s : State) (n : Nat) (x : StageSet) : State :=
  { s with dict := { s.dict with sets := tset (fun _ => {}) s.dict.sets n x } }
/-- The staged values of a set, in index:subindex order. -/
def stagedList (x : StageSet) : Staged := x.entries.filterMap (fun p => p.2.map (fun b => (p.1, b)))
/-- The staged value of an entry, if a set holds one. -/
def stagedVal (s : State) (n k : Nat) : Option (List Byte) := tget (fun _ => none) (stagingOf s n).entries k
/-- A set without staged values. -/
def emptied (x : StageSet) : StageSet := { x with entries := [], order := [] }
/-- A value is staged; a second one of the same entry replaces the first. -/
def stage (s : State) (n k : Nat) (v : List Byte) : State :=
  let x := stagingOf s n
  putStaging s n { x with entries := tset (fun _ => none) x.entries k (some v),
                          order := if x.order.contains k then x.order else x.order ++ [k] }
/-- A commit of the set runs or is queued (R84). -/
def committing (s : State) (n : Nat) : Bool :=
  (match s.dict.running with | some r => r.set == n | none => false) || s.dict.queued.any (fun r => r.set == n)

/-! ### Requesters (R76) -/

/-- The staging set of a requester. -/
def setNo : Requester → Nat
  | .field => 0
  | .bar2 f _ => f.val + 1
  | .trusted => 65
  | .image => 66

/-- The class of a requester: 0 G, 1 I, 2 K. -/
def classOf (s : State) : Requester → Nat
  | .field => 1
  | .bar2 f none => if f.val = 0 then 1 else 0
  | .bar2 _ (some c) => charmClass s c.val
  | .trusted => 2
  | .image => 1

/-- The right that a row gives a class (R10). -/
def rightOf (r : Row) (cl : Nat) : Right := if cl = 0 then r.guest else if cl = 1 then r.integrator else r.keeper

/-- A head of the guest, and of the charm where the access is made for a client. -/
def headSeen (s : State) (g : Nat) (c : Option Client) (h : Nat) : Bool :=
  decide (h < 16) && bitOf (rd s (E.guest_HEAD_MASK g)) h &&
    (match c with | some x => bitOf (charm s x.val) (16 + h) | none => true)

/-- A facet of the guest, likewise. -/
def facetSeen (s : State) (g : Nat) (c : Option Client) (h f : Nat) : Bool :=
  headSeen s g c h && bitOf (rd s (E.guest_FACET_MASK g)) (8 * h + f) &&
    (match c with | some x => bitOf (charm s x.val) (32 + 8 * h + f) | none => true)

/-- Whether the owning chapter gives a G-class requester of guest `g` its rights on an index (R43, R76): its own guest index, its
heads and facets, the panels and haptic channels of its heads, the receivers that name it. -/
def indexSeen (s : State) (g : Nat) (c : Option Client) (i : Nat) : Bool :=
  if 0x3000 ≤ i ∧ i < 0x3400 then
    let h := (i - 0x3000) / 0x40
    let off := (i - 0x3000) % 0x40
    if 0x10 ≤ off ∧ off < 0x30 then facetSeen s g c h ((off - 0x10) / 4) else headSeen s g c h
  else if 0x3800 ≤ i ∧ i < 0x3840 then headSeen s g c ((i - 0x3800) / 4)
  else if 0x4800 ≤ i ∧ i < 0x4840 then headSeen s g c (rd s (E.panel_HEAD ((i - 0x4800) / 0x10)))
  else if 0x4C00 ≤ i ∧ i < 0x4C40 then headSeen s g c (rd s (E.hap_HEAD ((i - 0x4C00) / 4)))
  else if 0x5800 ≤ i ∧ i < 0x5840 then i == 0x5800 + g
  else if 0x6000 ≤ i ∧ i < 0x6080 then bitOf (rd s (E.cam_GUESTS ((i - 0x6000) / 0x10))) g
  else true

/-- Whether an index is hidden from a requester: only the G class has indexes hidden from it (R77). -/
def indexHidden (s : State) (who : Requester) (i : Nat) : Bool :=
  match who with
  | .bar2 f c => classOf s who == 0 && (indexHiddenFromG i || !indexSeen s f.val c i)
  | _ => false

/-! ### Refusals (R77) -/

/-- A denied access enters a violation as its path gives it (R76, R90); trusted calls and stored records enter none. -/
def accessViolation (s : State) (who : Requester) (k : Nat) : State :=
  match who with
  | .field => violate s 0x08 4 k none none
  | .bar2 f c => violate s 0x08 1 k (c.map Fin.val) (some f.val)
  | .trusted => s
  | .image =>
    match s.dict.imageRun with
    | some r => if r.who = 0 then violate s 0x08 4 k none none else violate s 0x08 1 k none (some (r.who - 1))
    | none => s

/-- A refusal: counted, kept in LAST_ABORT of the requester's path (R77, R91, R93). -/
def refuse (s : State) (who : Requester) (write : Bool) (k code : Nat) (viol : Bool) : State :=
  let s1 := bump s (if write then E.glob_WRITES_REFUSED else E.glob_READS_REFUSED)
  let s2 := putStaging s1 (setNo who) { stagingOf s1 (setNo who) with lastAbort := code }
  if viol then accessViolation s2 who k else s2

/-- The rows of R77 that look at the entry and the right: abort code, and whether a violation is entered. -/
def denial (s : State) (who : Requester) (write : Bool) (i n : Nat) : Option (Nat × Bool) :=
  let cl := classOf s who
  let f := findEntry i n
  if indexHidden s who i then some (0x06020000, indexExists i)
  else if cl = 0 ∧ ¬ indexExists i then some (0x06020000, false)
  else
    match f with
    | none => some (if cl ≠ 0 ∧ ¬ indexExists i then (0x06020000, false) else (0x06090011, false))
    | some e =>
      let r := rightOf e.row cl
      if r = .none then some (if cl = 0 then 0x06090011 else 0x06010000, true)
      else if write ∧ (r = .ro ∨ r = .const) then some (0x06010002, false)
      else if ¬ write ∧ r = .wo then some (0x06010001, false)
      else none

/-! ### Values -/

/-- A COB-ID that has not been written and whose default follows the node's number: those of the RPDOs and of TPDO1 to TPDO4 (R104). -/
def cobDefault (s : State) (k : Nat) : Bool :=
  k % 256 == 1 && ([0x1400, 0x1401] ++ rangeFrom 0x1800 4).contains (k / 256) && !s.field.cobSet.contains k

/-- The value of an entry as an access by path `path` reads it: a COB-ID at its default has the number of the path's controller, CANFD0
where the path is none (R104). DESIGN CHOICE: log 202. -/
def cobRead (s : State) (path k : Nat) (v : List Byte) : List Byte :=
  if cobDefault s k then leBytes 4 (odDefault k + (canOf s (path - 1)).nodeId) else v

/-- The value of an entry, as a number, for the path of set `n`: entries that follow other state are read from it. -/
def valueNum (s : State) (n k : Nat) : Nat :=
  let x := stagingOf s n
  let y := stagingOf s 66
  if k = E.glob_UPTIME then s.time % 2 ^ 64
  else if k = E.glob_DEVICE_STATE then deviceState s
  else if k = E.cc_COMMIT_STATE then x.state
  else if k = E.cc_STAGED then x.entries.length
  else if k = E.cc_REFUSED_AT then x.refusedAt
  else if k = E.cc_REFUSE_REASON then x.reason
  else if k = E.cc_LAST_ABORT then x.lastAbort
  else if k = E.cc_IMG_STATE then y.state
  else if k = E.cc_IMG_STAGED then y.entries.length
  else if k = E.cc_IMG_REFUSED_AT then y.refusedAt
  else if k = E.cc_IMG_REASON then y.reason
  else if k = E.cc_IMG_ABORT then y.lastAbort
  else if k = E.xing_ISLANDS then leVal ((List.range 22).map (fun i => BitVec.ofNat 8 (islandState s i)))
  else if k = E.hm_MAINT_WINDOW then windowLeft s
  else
    match (List.range 8).find? (fun r => k == E.cam_RATE r) with
    | some r => camRate s r
    | none =>
      match (List.range 4).find? (fun p => k == E.panel_SCAN_RATE p) with
      | some p => scanRate s p
      | none => rd s k

/-- The live value of an entry as bytes. -/
def valueBytes (s : State) (n k : Nat) : List Byte :=
  match findEntry (k / 256) (k % 256) with
  | none => []
  | some f =>
    match f.row.ty with
    | .uns m | .int m | .vis m | .oct m => leBytes m (valueNum s n k)
    | .dom _ _ =>
      if 0x5800 ≤ k / 256 ∧ k / 256 < 0x5840 then charmBytes s (k / 256 - 0x5800)
      else if k = E.own_OWNERSHIP then ownershipBytes s
      else if k = E.xing_XING_TABLE then xingTableBytes s
      else if k = E.img_IMAGE then s.dict.image
      else dget s k

/-! ### Reads -/

/-- A slot of a ring log counts as read (R40). -/
def markRead (s : State) (k : Nat) : State :=
  let i := k / 256
  let n := k % 256
  if n = 0 then s
  else if i = 0x2081 then { s with ten := { s.ten with violRead := s.ten.violRead ++ (if s.ten.violRead.contains n then [] else [n]) } }
  else if i = 0x2043 then { s with isl := { s.isl with read := s.isl.read ++ (if s.isl.read.contains n then [] else [n]) } }
  else if i = 0x2131 then { s with power := { s.power with read := s.power.read ++ (if s.power.read.contains n then [] else [n]) } }
  else if i = 0x5003 then { s with memc := { s.memc with read := s.memc.read ++ (if s.memc.read.contains n then [] else [n]) } }
  else s

/-- Whether R476 refuses a read of part of a value. -/
def readPartBad (ty : ETy) (size : Nat) (part : Option (Nat × Nat)) : Bool :=
  match part with
  | none => false
  | some (off, n) =>
    match ty with
    | .uns m | .int m => off != 0 || n != m
    | .vis m | .oct m => decide (m < off + n)
    | .dom _ _ => decide (size < off)

/-- A read: the state, the abort code (0 none) and the bytes. -/
def doRead (s : State) (a : Access) : State × Nat × List Byte :=
  let k := dkey a.idx a.sub
  match denial s a.who false a.idx a.sub with
  | some (code, viol) => (refuse s a.who false k code viol, code, [])
  | none =>
    match findEntry a.idx a.sub with
    | none => (s, 0, [])
    | some f =>
      let v := cobRead s a.path k (valueBytes s (setNo a.who) k)
      if readPartBad f.row.ty v.length a.part then (refuse s a.who false k 0x06070010 false, 0x06070010, [])
      else
        (markRead s k, 0, match a.part with | some (off, n) => slice v off n | none => v)

/-! ### Writes: the value (R73, R476, R77) -/

/-- The whole value that a write makes, from the value before it; `none` where R476 refuses its length or its part. -/
def newValue (ty : ETy) (old : List Byte) (part : Option (Nat × Nat)) (bytes : List Byte) : Option (List Byte) :=
  let off := match part with | some p => p.1 | none => 0
  match ty with
  | .uns m | .int m => if off = 0 ∧ bytes.length = m then some bytes else none
  | .vis m | .oct m =>
    match part with
    | none => if bytes.length = m then some bytes else none
    | some _ => if off + bytes.length ≤ m then some (overwrite (old ++ List.replicate (m - old.length) 0) off bytes) else none
  | .dom m _ =>
    if m < off + bytes.length ∨ old.length < off then none
    else if off = 0 then some bytes
    else some (overwrite old off bytes)

/-- A VISIBLE_STRING is characters 0x20 to 0x7E, then bytes 0x00 (R73). -/
def visibleOk (v : List Byte) : Bool :=
  let chars := v.takeWhile (fun b => b != 0)
  chars.all (fun b => decide (0x20 ≤ b.toNat) && decide (b.toNat ≤ 0x7E)) && (v.drop chars.length).all (fun b => b == 0)

/-- The abort code of a number outside its Range column; 0 where it is inside (R77). DEDUCED: log 31. -/
def rangeAbort (l : List (Int × Int)) (even : Bool) (v : Int) : Nat :=
  if ¬ l.isEmpty ∧ l.all (fun r => decide (r.2 < v)) then 0x06090031
  else if ¬ l.isEmpty ∧ l.all (fun r => decide (v < r.1)) then 0x06090032
  else if (¬ l.isEmpty ∧ ¬ l.any (fun r => decide (r.1 ≤ v) && decide (v ≤ r.2))) ∨ (even ∧ v % 2 ≠ 0) then 0x06090030
  else 0

/-- RESET_CLIENT takes the clients of the guest's range (R31). -/
def resetRange (s : State) (g v : Nat) : Nat :=
  if v < rd s (E.guest_FIRST_CLIENT g) then 0x06090032
  else if rd s (E.guest_FIRST_CLIENT g) + rd s (E.guest_CLIENT_COUNT g) ≤ v then 0x06090031
  else 0

/-- The abort code that a value's range or type gives it. DEDUCED: log 43. -/
def valueAbort (s : State) (row : Row) (k : Nat) (v : List Byte) : Nat :=
  let i := k / 256
  match row.ty with
  | .uns _ =>
    if k % 256 = 0x0D ∧ 0x5800 ≤ i ∧ i < 0x5840 then resetRange s (i - 0x5800) (leVal v)
    else if k = E.err_ERROR_COUNT ∧ leVal v ≠ 0 then 0x06090030
    else if 0x3000 ≤ i ∧ i < 0x3400 ∧ 0x10 ≤ (i - 0x3000) % 0x40 ∧ (i - 0x3000) % 4 = 2 ∧ (k % 256 = 3 ∨ k % 256 = 5) ∧
        leVal v % 64 ≠ 0 then 0x06090030
    else rangeAbort row.ranges row.even (leVal v)
  | .int m => rangeAbort row.ranges row.even (toInt (8 * m) (leVal v))
  | .vis _ => if visibleOk v then 0 else 0x06090030
  | .oct _ =>
    if 0x4410 ≤ i ∧ i < 0x4416 ∧ k % 256 = 0x0A ∧ v.any (fun b => decide (32 ≤ b.toNat) && b.toNat != 0xFF) then 0x06090030 else 0
  | .dom _ _ => 0

/-! ### Writes: the owning chapters' rules (R77) -/

/-- Whether a write of DIRECT_ADDR, DIRECT_PITCH or DIRECT_ADDR2 breaks its chapter's rule: who writes it, and where it would place
the source rectangle (R181). DEDUCED: log 42. -/
def directBad (s : State) (who : Requester) (h f sub v : Nat) : Bool :=
  let c := rd s (E.facet_DIRECT_CLIENT h f)
  let mine := match who with | .bar2 _ (some x) => x.val == c | _ => false
  let at_ := fun (n k : Nat) => if sub = n then v else rd s k
  (classOf s who == 0 && !mine) || decide (4096 ≤ c) ||
    (bufferOutside s c h f (at_ 3 (E.facet_DIRECT_ADDR h f)) (at_ 5 (E.facet_DIRECT_ADDR2 h f))
      (at_ 4 (E.facet_DIRECT_PITCH h f))).isSome

/-- A record of an image never names the store, commit and image entries (R90). -/
def imageBars (i : Nat) : Bool := i == 0x1010 || i == 0x1011 || i == 0x2010 || i == 0x2020

/-- The abort code of the owning chapter's own rule; 0 where it lets the write pass. `v` is the whole value, `off` and `bytes` what
is written of it. DEDUCED: log 32. DEDUCED: log 34. DEDUCED: log 39. DEDUCED: log 41. -/
def ruleAbort (s : State) (who : Requester) (k : Nat) (v : List Byte) (off : Nat) (bytes : List Byte) : Nat :=
  let i := k / 256
  let n := leVal v
  if who = .image ∧ imageBars i then 0x08000020
  else if isPreopKey k ∧ ¬ preopNow s k then 0x08000020
  else if (i = 0x1600 ∨ i = 0x1601) ∧ k % 256 ≠ 0 ∧ ¬ mapAccepted true n then 0x06040041
  else if 0x1A00 ≤ i ∧ i < 0x1A08 ∧ k % 256 ≠ 0 ∧ ¬ mapAccepted false n then 0x06040041
  else if i = 0x1010 ∧ n ≠ 0x65766173 then 0x08000020
  else if i = 0x1011 ∧ n ≠ 0x64616F6C then 0x08000020
  else if isOutEntry k ∧ who = .field ∧ (mappedOut s).contains k then 0x08000020
  else if k = E.cc_COMMIT ∧ committing s (setNo who) then 0x08000022
  else if i = 0x2020 ∧ s.dict.imageRun.isSome then 0x08000022
  else if k = E.img_ACTION ∧ committing s 66 then 0x08000022
  else if k = E.dbg_UNLOCK_MASK then
    if lktState s ≠ 1 ∨ rd s E.dbg_UNLOCK_STATE = 5 then 0x08000020
    else match s.locket.challengeAt with
      | some t => if s.time < t + secCounts then 0x08000020 else 0
      | none => 0
  else if k = E.dbg_RESPONSE then if rd s E.dbg_UNLOCK_STATE = 1 ∧ s.locket.open_ then 0 else 0x08000020
  else if k = E.sig_NONCE ∧ rd s E.sig_SIGNET_STATE = 1 then 0x08000022
  else if k = E.pwr_DEEP_SLEEP ∧ n = 1 ∧ sleepRefused s then 0x08000020
  else if k = E.hm_MAINT_WINDOW ∧ pdOperational s then 0x08000020
  else if 0x3000 ≤ i ∧ i < 0x3400 then
    let h := (i - 0x3000) / 0x40
    let o := (i - 0x3000) % 0x40
    if (o = 0x0A ∨ o = 0x0B) ∧ (List.range (v.length / 2)).any (fun j => decide (16 ≤ (at0 0 v (2 * j + 1)).toNat)) then 0x08000020
    else if 0x10 ≤ o ∧ o < 0x30 ∧ o % 4 = 2 ∧ 3 ≤ k % 256 ∧ directBad s who h ((o - 0x10) / 4) (k % 256) n then 0x08000020
    else 0
  else if 0x5800 ≤ i ∧ i < 0x5840 then
    let g := i - 0x5800
    if k % 256 = 0x0D then if rd s (E.guest_RESET_CLIENT g) ≠ 0xFFFF then 0x08000020 else 0
    else if k % 256 = 0x20 then
      if 32 * rd s (E.guest_CLIENT_COUNT g) < off + bytes.length then 0x06070010
      else if (charmsWritten s g off bytes).any (fun r => charmBad s g r.2) then 0x08000020
      else 0
    else 0
  else 0

/-- The last rows of R77, for writes of committed entries: the set is being committed, another set's commit holds the entry, the set
is full (R81, R84). -/
def stageAbort (s : State) (n k : Nat) : Nat :=
  let held : Bool := match s.dict.running with | some r => r.set != n && isApplying s k | none => false
  if committing s n ∨ held then 0x08000022
  else if (stagedVal s n k).isNone ∧ (if n = 66 then 16384 else 512) ≤ (stagingOf s n).entries.length then 0x05040005
  else 0

/-- The value that a write acts on: the staged one of a committed entry, else the live one (R476). -/
def baseValue (s : State) (who : Requester) (f : Found) (k : Nat) : List Byte :=
  if f.row.committed ∨ who = .image then (stagedVal s (setNo who) k).getD (valueBytes s (setNo who) k)
  else valueBytes s (setNo who) k

/-- What R77 decides of a write whose entry and right it lets pass: the whole value, or the abort code. -/
def judge (s : State) (who : Requester) (f : Found) (k : Nat) (part : Option (Nat × Nat)) (bytes : List Byte) : Except Nat (List Byte) :=
  match newValue f.row.ty (baseValue s who f k) part bytes with
  | none => .error 0x06070010
  | some v =>
    let off := match part with | some p => p.1 | none => 0
    let a := valueAbort s f.row k v
    let b := ruleAbort s who k v off bytes
    let c := if f.row.committed ∨ who = .image then stageAbort s (setNo who) k else 0
    if a ≠ 0 then .error a else if b ≠ 0 then .error b else if c ≠ 0 then .error c else .ok v

/-! ### The stored configuration (R86–R88) -/

/-- The entries that a splash head's engraving gives values, with those values: its timing record with ENABLE 1, its route and its
port record (R448). DEDUCED: log 47. -/
def splashEntries (x : Splash) : List (Nat × Nat) :=
  ((List.range 13).map (fun j => (dkey (0x3000 + 0x40 * x.head) (j + 1), if j = 9 then 1 else at0 0 x.timing j))) ++
    [(E.xbar_ROUTE x.head, x.route)] ++ ((List.range 12).map (fun j => (dkey (0x3401 + x.port) (j + 1), at0 0 x.portVals j)))

/-- The splash heads of a valid engraving. -/
def splashHeads (s : State) : List Splash := if s.cameo.engraving.valid then s.cameo.engraving.splash else []

/-- The value a splash head's engraving gives an entry in place of its Default (R448). -/
def splashVal (s : State) (k : Nat) : Option Nat :=
  ((splashHeads s).flatMap splashEntries).findSome? (fun p => if p.1 = k then some p.2 else none)

/-- The entries a splash head's engraving gives values. -/
def splashKeys (s : State) : List Nat := ((splashHeads s).flatMap splashEntries).map (·.1)

/-- Whether the stored configuration covers an entry: committed, and the I class may write it (R87). -/
def covered (k : Nat) : Bool :=
  match findEntry (k / 256) (k % 256) with
  | some f => f.row.committed && (f.row.integrator == .rw || f.row.integrator == .wo)
  | none => false

/-- Whether the live value of an entry differs from its Default. -/
def differs (s : State) (k : Nat) : Bool :=
  if isDomainKey k then dget s k != domDefault k else rd s k != (splashVal s k).getD (odDefault k)

/-- A key of the communication range. -/
def inComm (k : Nat) : Bool := decide (0x1000 ≤ k / 256) && decide (k / 256 < 0x2000)

/-- The records a store captures, in index:subindex order: the covered entries of a range whose live values differ from their
Defaults. -/
def captured (s : State) (p : Nat → Bool) : List (Nat × List Byte) :=
  let ks := (s.od.map (·.1) ++ s.dom.map (·.1) ++ splashKeys s).filter (fun k => covered k && p k && differs s k)
  (sortBy (fun a b => decide (a ≤ b)) ks.eraseDups).map (fun k => (k, valueBytes s 0 k))

/-- The valid slot with the higher store count, and its number. -/
def newestStored (s : State) : Option (Nat × StoredSlot) :=
  match at0 none s.flash.stored 0, at0 none s.flash.stored 1 with
  | none, none => none
  | some x, none => some (0, x)
  | none, some y => some (1, y)
  | some x, some y => if x.count < y.count then some (1, y) else some (0, x)

/-- Bytes of a record of an image (R89). -/
def recordSize (v : List Byte) : Nat := 8 + (v.length + 3) / 4 * 4

/-- Bytes of a list of records in image form. -/
def imageSize (l : List (Nat × List Byte)) : Nat := 16 + (l.map (fun r => recordSize r.2)).sum

/-- The image form of a slot (R89). -/
def imageForm (x : StoredSlot) : List Byte :=
  let body := x.records.flatMap (fun r =>
    leBytes 2 (r.1 / 256) ++ leBytes 1 (r.1 % 256) ++ [0] ++ leBytes 4 r.2.length ++ r.2 ++
      List.replicate (recordSize r.2 - 8 - r.2.length) 0)
  leBytes 4 0x49444749 ++ leBytes 2 x.layout ++ leBytes 2 x.records.length ++ leBytes 4 (16 + body.length) ++ leBytes 4 (crc32 body) ++
    body

/-- The answer of a write of 0x1010 or 0x1011, or of an image action's store (R88). -/
def answerStore (s : State) (what who path abort : Nat) : State :=
  let idx := if what < 3 then 0x1010 else 0x1011
  let sub := what % 3 + 1
  if who = 0 then send s (.sdo path) [idx, sub, 1, abort] []
  else if who ≤ 64 then
    let p := portRec s (who - 1)
    setPort s (who - 1) { p with nextAbort := abort, nextActual := if abort = 0 then 4 else 0, waitsStore := false }
  else if who = 65 then mailboxReply s abort 0
  else
    match s.dict.imageRun with
    | some r => { s with dict := { s.dict with imageRun := some { r with ended := true, state := if abort = 0 then 6 else 5, err := abort } } }
    | none => s

/-- The records that a store or restore writes: the covered entries of its range as they stand, and the newest slot's records of
the other range (R88). DEDUCED: log 45. -/
def storeRecords (s : State) (what : Nat) : List (Nat × List Byte) :=
  let kept := fun (p : Nat → Bool) => match newestStored s with | some (_, x) => x.records.filter (fun r => p r.1) | none => []
  let other := fun k => !inComm k
  if what = 0 then captured s (fun _ => true)
  else if what = 1 then captured s inComm ++ kept other
  else if what = 2 then kept inComm ++ captured s other
  else if what = 4 then kept other
  else kept inComm

/-- A store or restore begins (R88): what it writes is captured now, and the slot it writes is invalid until it is done. -/
def startStore (s : State) (what who path : Nat) : State :=
  let newest := newestStored s
  let recs := storeRecords s what
  if what = 3 then { s with dict := { s.dict with storing := some { what := 3, who := who, path := path } } }
  else if (what = 4 ∨ what = 5) ∧ newest.isNone then answerStore s what who path 0
  else if 524288 < imageSize recs ∨ 16384 < recs.length then
    let s1 := if who = 66 then s else bump s E.glob_WRITES_REFUSED
    let s2 := if who = 66 then s1 else putStaging s1 who { stagingOf s1 who with lastAbort := 0x08000020 }
    answerStore s2 what who path 0x08000020
  else
    let slot := match newest with | some (n, _) => 1 - n | none => 0
    let count := match newest with | some (_, x) => x.count + 1 | none => 1
    { s with flash := { s.flash with stored := setAt s.flash.stored slot none },
             dict := { s.dict with storing := some { what := what, slot := some slot, who := who, path := path,
                                                     content := { count := count, layout := rd s E.id_LAYOUT, records := recs } } } }

/-- A commit runs or is queued (R84). -/
def commitRuns (s : State) : Bool := s.dict.running.isSome || !s.dict.queued.isEmpty

/-- A store or restore is asked for: it waits while a commit runs, and behind another store. DEDUCED: log 46. -/
def askStore (s : State) (what who path : Nat) : State :=
  if commitRuns s ∨ s.dict.storing.isSome ∨ s.dict.storeWait ≠ [] then
    { s with dict := { s.dict with storeWait := s.dict.storeWait ++ [{ what := what, who := who, path := path }] } }
  else startStore s what who path

/-- The stores that waited begin, one at a time. -/
def nextStore : Nat → State → State
  | 0, s => s
  | n + 1, s =>
    if commitRuns s ∨ s.dict.storing.isSome then s
    else
      match s.dict.storeWait with
      | [] => s
      | w :: r => nextStore n (startStore { s with dict := { s.dict with storeWait := r } } w.what w.who w.path)

/-- The waiting stores go on. -/
def resumeStores (s : State) : State := nextStore s.dict.storeWait.length s

/-- STORE_DONE: the slot has been written and read back, or both have been invalidated. DEDUCED: log 48. -/
def storeDone (s : State) : State :=
  match s.dict.storing with
  | none => s
  | some r =>
    let st := match r.slot with | some n => setAt s.flash.stored n (some r.content) | none => [none, none]
    let s1 := { s with flash := { s.flash with stored := st }, dict := { s.dict with storing := none } }
    resumeStores (answerStore s1 r.what r.who r.path 0)

/-! ### Commit requests (R82, R84) -/

/-- COMMIT = 1, 2 or 3 for a set; `emcyKind` is byte 0 of the EMCY of its refusal, if it has one. A set with nothing staged reaches
done at once. DEDUCED: log 38. -/
def requestCommit (s : State) (n v : Nat) (emcyKind : Option Nat) : State :=
  let x := stagingOf s n
  if v = 3 then putStaging s n { emptied x with state := 0, refusedAt := 0, reason := 0 }
  else if x.entries = [] then putStaging s n { x with state := 4, refusedAt := 0, reason := 0 }
  else
    let r : CommitRun := { set := n, checkOnly := v == 2, emcyKind := emcyKind }
    let wait := commitRuns s
    let s1 := putStaging s n { x with state := if wait then 1 else 2, refusedAt := 0, reason := 0 }
    if wait then { s1 with dict := { s1.dict with queued := s1.dict.queued ++ [r] } }
    else { s1 with dict := { s1.dict with running := some r } }

/-- COMMIT_START: the next queued commit begins its checks. DEDUCED: log 58. -/
def commitStart (s : State) : State :=
  match s.dict.running, s.dict.queued with
  | none, r :: rest =>
    putStaging { s with dict := { s.dict with running := some r, queued := rest } } r.set { stagingOf s r.set with state := 2 }
  | _, _ => s

/-! ### Image actions (R89, R90, R478) -/

/-- The records of an image from byte `off`: offset, index, subindex and value of each, and the offset where they end; `none` where
one reaches beyond the bytes. -/
def imageRecords (bs : List Byte) : Nat → Nat → Option (List (Nat × Nat × Nat × List Byte) × Nat)
  | 0, off => some ([], off)
  | n + 1, off =>
    let hd := slice bs off 8
    let len := leVal (hd.drop 4)
    let next := off + 8 + (len + 3) / 4 * 4
    if hd.length < 8 ∨ bs.length < next then none
    else
      match imageRecords bs n next with
      | none => none
      | some (l, e) => some ((off, leVal (hd.take 2), (at0 0 hd 2).toNat, slice bs (off + 8) len) :: l, e)

/-- The header checks of an action. -/
def imageHeaderOk (s : State) (bs : List Byte) : Bool :=
  let count := leVal (slice bs 6 2)
  decide (16 ≤ bs.length) && leVal (bs.take 4) == 0x49444749 && leVal (slice bs 4 2) == rd s E.id_LAYOUT &&
    leVal (slice bs 8 4) == bs.length && leVal (slice bs 12 4) == crc32 (bs.drop 16) && decide (1 ≤ count) && decide (count ≤ 16384) &&
    (match imageRecords bs count 16 with | some (_, e) => e == bs.length | none => false)

/-- One record is staged under R77: an abort code, or 0. -/
def stageRecord (s : State) (i n : Nat) (v : List Byte) : State × Nat :=
  let k := dkey i n
  match denial s .image true i n with
  | some (code, viol) => (refuse s .image true k code viol, code)
  | none =>
    match findEntry i n with
    | none => (s, 0)
    | some f =>
      match judge s .image f k none v with
      | .error code => (refuse s .image true k code false, code)
      | .ok w => (stage s 66 k w, 0)

/-- Records are staged in order until one is refused: its abort code and its offset. -/
def stageRecords (s : State) : List (Nat × Nat × Nat × List Byte) → State × Option (Nat × Nat)
  | [] => (s, none)
  | (off, i, n, v) :: r =>
    let p := stageRecord s i n v
    if p.2 = 0 then stageRecords p.1 r else (p.1, some (p.2, off))

/-- The action in progress has come to its end: what IMAGE_ACTION_END will show. DEDUCED: log 40. -/
def endAction (s : State) (st err failAt : Nat) : State :=
  match s.dict.imageRun with
  | some r => { s with dict := { s.dict with imageRun := some { r with ended := true, state := st, err := err, failAt := failAt } } }
  | none => s

/-- An action has begun: the image loader's set is emptied and IMAGE_STATE shows the action. -/
def actionBegun (s : State) (action who : Nat) (foe : Bool) : State :=
  let x := stagingOf s 66
  let s1 := putStaging s 66 { emptied x with state := 0, refusedAt := 0, reason := 0 }
  let s2 := wr (wr (wr s1 E.img_IMAGE_STATE 2) E.img_IMAGE_ERROR 0) E.img_IMAGE_FAIL_AT 0
  { s2 with dict := { s2.dict with imageRun := some { action := action, who := who, foe := foe } } }

/-- An action starts: the header is checked, the records are staged; actions 2 and 3 go on to the commit. -/
def startAction (s : State) (action who : Nat) (foe : Bool) : State :=
  let s3 := actionBegun s action who foe
  let bs := s3.dict.image
  if ¬ imageHeaderOk s3 bs then endAction s3 4 0x08000020 0
  else
    match imageRecords bs (leVal (slice bs 6 2)) 16 with
    | none => endAction s3 4 0x08000020 0
    | some (l, _) =>
      match stageRecords s3 l with
      | (s4, some (code, off)) => endAction (putStaging s4 66 (emptied (stagingOf s4 66))) 4 code off
      | (s4, none) =>
        if action = 1 then endAction (putStaging s4 66 (emptied (stagingOf s4 66))) 3 0 0
        else requestCommit s4 66 1 (some 1)

/-- IMAGE_ACTION_END: the image entries show the outcome, and a file's final acknowledge is sent (R113, R478). -/
def imageActionEnd (s : State) : State :=
  match s.dict.imageRun with
  | none => s
  | some r =>
    if ¬ r.ended then s
    else
      let s1 := wr (wr (wr s E.img_IMAGE_STATE r.state) E.img_IMAGE_ERROR r.err) E.img_IMAGE_FAIL_AT r.failAt
      let s2 := { s1 with dict := { s1.dict with imageRun := none } }
      if r.foe then send s2 .foe [if r.err = 0 ∧ r.state ≠ 4 then 0 else 0x800B] [] else s2

/-- IMAGE is written: IMAGE_STATE follows its length. -/
def loadImage (s : State) (v : List Byte) : State :=
  wr { s with dict := { s.dict with image := v } } E.img_IMAGE_STATE (if v.isEmpty then 0 else 1)

/-! ### Immediate writes (R80) -/

/-- Writing 1 to CLEAR of a ring log. -/
def clearLog (s : State) (i : Nat) : State :=
  let s1 := ringClear s i
  if i = 0x2080 then { wr s1 E.viol_LOST 0 with ten := { s1.ten with violRead := [], violSeq := 1 } }
  else if i = 0x2042 then { s1 with isl := { s1.isl with read := [] } }
  else if i = 0x2130 then { s1 with power := { s1.power with read := [] } }
  else { s1 with memc := { s1.memc with read := [] } }

/-- An immediate write takes effect. `k` is the key, `v` the whole value, `off` and `bytes` what is written of it. DEDUCED: log 44. -/
def writeNow (s : State) (who : Requester) (path k : Nat) (v : List Byte) (off : Nat) (bytes : List Byte) : State :=
  let i := k / 256
  let sub := k % 256
  let n := leVal v
  if k = E.err_ERROR_COUNT then (rangeFrom 0 17).foldl (fun t j => wr t (E.err_ERROR_COUNT + j) 0) s
  else if i = 0x1010 then askStore s (sub - 1) (setNo who) path
  else if i = 0x1011 then askStore s (sub + 2) (setNo who) path
  else if isOutEntry k then takeOutput s [(k, n)]
  else if k = E.comm_ALARM_CHECK then
    let s1 := wr s k n
    if n = 1 ∧ rd s k = 0 then { s1 with field := { s1.field with seqRef := none } }
    else if n = 0 then wrBit s1 E.pdo_PD_STATUS 1 false
    else s1
  else if k = E.cc_COMMIT then
    requestCommit s (setNo who) n (if setNo who = 0 then some 0 else none)
  else if k = E.img_IMAGE then loadImage s v
  else if k = E.img_ACTION then startAction s n (setNo who) false
  else if k = E.dbg_UNLOCK_MASK then issueChallenge s n
  else if k = E.dbg_RESPONSE then (takeResponse (wr s k n) v).getD s
  else if k = E.sig_NONCE then wr { wr s k n with locket := { s.locket with nonce := v } } E.sig_SIGNET_STATE 1
  else if k = E.viol_CLEAR ∨ k = E.xlog_CLEAR ∨ k = E.slog_CLEAR ∨ k = E.memlog_CLEAR then if n = 1 then clearLog s i else s
  else if k = E.pwr_DEEP_SLEEP then
    if n = 1 ∧ s.power.sleep = 0 then wr { s with power := { s.power with sleep := 1 } } k 1 else s
  else if k = E.hm_EPOCH_NOW then epochDue s 2
  else if k = E.hm_MAINT_WINDOW then openWindow s n
  else if 0x4805 ≤ i ∧ i ≤ 0x4835 ∧ i % 0x10 = 5 then
    if sub = 1 then startSelftest s ((i - 0x4805) / 0x10) else startCapture s ((i - 0x4805) / 0x10)
  else if 0x4C00 ≤ i ∧ i < 0x4C40 ∧ sub = 0x12 then askCalibration s ((i - 0x4C00) / 4)
  else if 0x5800 ≤ i ∧ i < 0x5840 ∧ sub = 0x0D then clientReset (wr s k n) n
  else if 0x5800 ≤ i ∧ i < 0x5840 ∧ sub = 0x20 then (applyCharms s (i - 0x5800) off bytes).getD s
  else if k % 256 = 1 ∧ ((0x1400 ≤ i ∧ i < 0x1402) ∨ (0x1800 ≤ i ∧ i < 0x1808)) then
    setLive { s with field := { s.field with cobSet := k :: s.field.cobSet.filter (fun j => j != k) } } k v
  else setLive s k v

/-- A write: the state, and the abort code (0 none) unless the answer waits for a store (R88). -/
def doWrite (s : State) (a : Access) : State × Option Nat :=
  let k := dkey a.idx a.sub
  match denial s a.who true a.idx a.sub with
  | some (code, viol) => (refuse s a.who true k code viol, some code)
  | none =>
    match findEntry a.idx a.sub with
    | none => (s, some 0)
    | some f =>
      match judge s a.who f k a.part a.bytes with
      | .error code => (refuse s a.who true k code false, some code)
      | .ok v =>
        if f.row.committed then (stage s (setNo a.who) k v, some 0)
        else
          let off := match a.part with | some p => p.1 | none => 0
          (writeNow s a.who a.path k v off a.bytes, if a.idx = 0x1010 ∨ a.idx = 0x1011 then none else some 0)

end Sys2Proof.Machine
end

