-- ==== Sys2Proof/Machine/Commit.lean ====
section
/-! DEFINITION. Commits (R82–R85): the end of the check phase, the instants at which committed values take effect at their blocks,
and the end of a commit. -/

namespace Sys2Proof.Machine

/-! ### Instants of effect (R83 and the owning chapters) -/

/-- Whether an entry is immediate: only an image's set holds such (R90). -/
def isImmediate (k : Nat) : Bool :=
  match findEntry (k / 256) (k % 256) with
  | some f => !f.row.committed
  | none => false

/-- A value is no longer on its way. -/
def dropApplying (s : State) (k : Nat) : State :=
  { s with dict := { s.dict with applying := s.dict.applying.filter (fun p => p.1 != k) } }

/-- The value on its way equals the live one. DEDUCED: log 52. -/
def unchanged (s : State) (k : Nat) : Bool :=
  match applyingVal s k with
  | some v => v == valueBytes s 66 k
  | none => false

/-- A head that neither scans nor is being enabled, or whose domain is off: its values take effect at once. -/
def headIdle (s : State) (h : Nat) : Bool :=
  (hState s h == 0 && candVal s (E.head_ENABLE h) != 1) || !pdOn s (headDomain h)

/-- A value of a head or its facets: at once where the head is idle; otherwise with the timing, enable, disable, latch and frame commands
of the head (R173, R185, R213–R216). The head mode and frame lock records take effect at once: a new LATCH_LEAD counts for the latch
point of the coming frame, a lock that is enabled acquires from the next frame start (R204, R217, R218). -/
def landHeadKey (s : State) (h k : Nat) : State :=
  let off := (k / 256 - 0x3000) % 0x40
  if k = E.head_ENABLE h then
    if headIdle s h ∨ unchanged s k then updateSums (updateSlices (landKey s k)) else s
  else if off = 0 then if headIdle s h then updateSums (updateSlices (landKey s k)) else s
  else if k = E.head_LOCK_EN h then
    let s1 := landKey s k
    if rd s1 k = 0 then wr s1 (E.head_LOCK_STATE h) 0
    else if rd s k = 0 ∧ scanning s h ∧ ¬ commandMode s h ∧ s.field.stamp.isSome then lockAcquire s1 h
    else s1
  else if k = E.head_LATCH_LEAD h then
    let s1 := landKey s k
    setHead s1 h { headOf s1 h with lead := rd s1 k }
  else if isTimedOutput s h k then if headIdle s h then landWhere s (isOutputKey h) else s
  else if isComposeKey h k ∨ isOutputKey h k then if headIdle s h then landGeometry s h else s
  else landKey s k

/-- The route of a head: at once where the head is idle or the route stays, else at ROUTE_CHANGE (R220). -/
def landRouteKey (s : State) (h : Nat) : State :=
  if headIdle s h ∨ unchanged s (E.xbar_ROUTE h) then landRoute s h else s

/-- A value of a touch panel: at PANEL_START or TOUCH_SCAN_START, at once where the panel does not scan (R280, R290). -/
def landPanelKey (s : State) (p : Nat) : State :=
  let ph := (touchOf s p).phase
  if ¬ pdOn s 13 ∨ (¬ restartWaits s p ∧ ph ≠ 2 ∧ ph ≠ 3) then answerApply (landWhere s (isPanelKey p)) p else s

/-- An audio value: bank swaps at the tick of a running domain (R326); a TDM port's record restarts it (R316). DEDUCED: log 55. -/
def landAudioKey (s : State) (k : Nat) : State :=
  let i := k / 256
  if isSwapKey k then
    if pdOn s 12 ∧ domState s (keyDomain s k) ≠ 0 then s else landAudio s (fun x => x == k)
  else if 0x4410 ≤ i ∧ i < 0x4416 then settleGates (restartPort (landWhere s (fun x => x / 256 == i)) (i - 0x4410))
  else settleGates (settleAmps (settleDomains (landKey s k)))

/-- A value of a camera receiver: ENABLE starts and stops it. DEDUCED: log 53. -/
def landCamKey (s : State) (r k : Nat) : State :=
  let was := rd s (E.cam_ENABLE r)
  let s1 := landKey s k
  let now := rd s1 (E.cam_ENABLE r)
  if was = 0 ∧ now = 1 then wr s1 (E.cam_STATE r) (if pdOn s1 14 then 1 else 0)
  else if was = 1 ∧ now = 0 then endLasting (wr (closeIncomplete s1 r) (E.cam_STATE r) 0) 0xFF02 r
  else s1

/-- A key of a guest's client range. -/
def isRangeKey (k : Nat) : Bool :=
  decide (0x5800 ≤ k / 256) && decide (k / 256 < 0x5840) && (k % 256 == 1 || k % 256 == 2)

/-- VECTOR of a client that keeps its place in a guest's range stays as it is when FIRST_CLIENT changes (R50). -/
def holdVectors (s : State) (g : Nat) : State :=
  (clientsOf s g).foldl (fun t c => setClasp t c { claspOf t c with vector := some (claspVector s g c) }) s

/-- The client ranges of a commit take effect together: a client that leaves its range is reset and its charm takes its Reset
values (R23). DEDUCED: log 23. -/
def landRanges (s : State) : State :=
  let before := (List.range 64).map (fun g => (g, clientsOf s g))
  let moved := (List.range 64).filter (fun g => match s.dict.applying.find? (fun p => p.1 == E.guest_FIRST_CLIENT g) with
    | some p => leVal p.2 != rd s (E.guest_FIRST_CLIENT g)
    | none => false)
  let s1 := landWhere (moved.foldl holdVectors s) isRangeKey
  before.foldl (fun t p => (p.2.filter (fun c => !inRange t p.1 c)).foldl (fun u c => setCharm (clientReset u c) c 0) t) s1

/-- A value of a guest (R29, R35, R43). -/
def landGuestKey (s : State) (g k : Nat) : State :=
  if isRangeKey k then landRanges s
  else
    let s1 := landKey s k
    if k = E.guest_CARVE_PAGES g then settleCarve s1 g
    else if k = E.guest_HEAD_MASK g ∨ k = E.guest_FACET_MASK g ∨ k = E.guest_ENGINE_MASK g then (clientsOf s1 g).foldl settleRights s1
    else s1

/-- A value of the memory record: subindexes 01 to 08 stay in force as they were until the next device reset (R342).
DEDUCED: log 54. -/
def landMemKey (s : State) (k : Nat) : State :=
  if k / 256 = 0x5000 ∧ k % 256 ≤ 8 then
    let old := inForce s k
    landKey { s with dict := { s.dict with held := tset (fun _ => none) s.dict.held k (some old) } } k
  else landKey s k

/-- A value takes effect at its block, if its instant has come. DEDUCED: log 51. -/
def landEntry (s : State) (k : Nat) : State :=
  let i := k / 256
  if isImmediate k then
    match s.dict.applying.find? (fun p => isImmediate p.1) with
    | some (j, v) => if j = k then writeNow (dropApplying s k) .image 0 k v 0 v else s
    | none => s
  else if k = E.comm_PD_SOURCE then
    let s1 := landKey s k
    if rd s1 k = rd s k then s1 else opReached (changeSource s1)
  else if 0x2110 ≤ i ∧ i < 0x2120 ∧ k = E.pd_MODE (i - 0x2110) then settleMode (landKey s k) (i - 0x2110)
  else if 0x3000 ≤ i ∧ i < 0x3400 then landHeadKey s ((i - 0x3000) / 0x40) k
  else if i = 0x3400 then landRouteKey s (k - E.xbar_ROUTE 0)
  else if 0x4400 ≤ i ∧ i < 0x4600 then landAudioKey s k
  else if 0x4800 ≤ i ∧ i < 0x4840 then landPanelKey s ((i - 0x4800) / 0x10)
  else if isHapKey k then landHap s (fun x => x == k)
  else if 0x5000 ≤ i ∧ i < 0x5100 then landMemKey s k
  else if 0x5800 ≤ i ∧ i < 0x5840 then landGuestKey s (i - 0x5800) k
  else if 0x6000 ≤ i ∧ i < 0x6080 then landCamKey s ((i - 0x6000) / 0x10) k
  else landKey s k

/-- A value whose hand-over waits: a smaller CARVE_PAGES, for the accesses that were issued earlier to the pages it frees (R35). -/
def heldBack (s : State) (k : Nat) : Bool :=
  let g := k / 256 - 0x5800
  decide (0x5800 ≤ k / 256) && decide (k / 256 < 0x5840) && k == E.guest_CARVE_PAGES g &&
    (match s.dict.applying.find? (fun p => p.1 == k) with
      | some p => carveBusy s g (leVal p.2)
      | none => false)

/-- ENTRY_TAKES_EFFECT. DEDUCED: log 57. -/
def entryTakesEffect (s : State) (i n : Nat) : State :=
  if isApplying s (dkey i n) ∧ ¬ heldBack s (dkey i n) then landEntry s (dkey i n) else s

/-! ### The ends of a commit (R82, R85, R86) -/

/-- The stored-configuration overlay has ended: configuring is over, and the CAN FD controllers start with the values of 0x1FE0:02–06
that this reset takes (R86, R95, R447 step 7, R449). -/
def overlayEnd (s : State) (ok : Bool) : State :=
  let s1 := if ok then s else wr s E.glob_STORED_SOURCE 3
  let s2 := settleDevice { s1 with boot := { s1.boot with step := 7 } }
  canStart (canStart s2 0) 1

/-- A commit is refused: its set stays staged, and the EMCY goes out where the refusal ends a commit of the field network, an image or
the overlay (R85). -/
def commitRefused (s : State) (r : CommitRun) (code at_ : Nat) : State :=
  let s1 := putStaging s r.set { stagingOf s r.set with state := 5, reason := code, refusedAt := at_ }
  let s2 := { s1 with dict := { s1.dict with running := none } }
  let s3 := if r.checkOnly then s2
    else match r.emcyKind with
      | some b => emcy s2 0x6310 b (code + 65536 * (at_ / 65536))
      | none => s2
  let s4 := if r.emcyKind = some 2 then overlayEnd s3 false
    else if r.set = 66 then endAction s3 4 0 0
    else s3
  resumeStores s4

/-- The values of a set on their way: committed entries in index:subindex order, then an image's immediate ones in record order. -/
def handOver (x : StageSet) : List (Nat × List Byte) :=
  let l := stagedList x
  l.filter (fun p => !isImmediate p.1) ++
    (x.order.filter isImmediate).filterMap (fun k => l.find? (fun p => p.1 == k))

/-- The heads whose output stage a commit changes (R258). -/
def noticeHeads (s : State) (l : Staged) : List Nat :=
  (List.range 16).filter (fun h => l.any (fun p => isTimedOutput s h p.1 && p.2 != valueBytes s 66 p.1))

/-- COMMIT_CHECKS_END. -/
def commitChecksEnd (s : State) : State :=
  match s.dict.running with
  | none => s
  | some r =>
    let x := stagingOf s r.set
    if x.state ≠ 2 then s
    else
      match commitVerdict s (stagedList x) with
      | some (code, at_) => commitRefused s r code at_
      | none =>
        if r.checkOnly then
          let s1 := putStaging s r.set { x with state := 4 }
          resumeStores { s1 with dict := { s1.dict with running := none } }
        else
          let l := handOver x
          let s1 := putStaging s r.set { x with state := 3 }
          let s2 := { s1 with dict := { s1.dict with applying := l, checkedAt := s.time } }
          (noticeHeads s l).foldl lutNotice s2

/-- COMMIT_DONE: the last value has taken effect. -/
def commitDone (s : State) : State :=
  match s.dict.running with
  | none => s
  | some r =>
    let x := stagingOf s r.set
    if x.state ≠ 3 ∨ s.dict.applying ≠ [] then s
    else
      let s1 := putStaging s r.set { emptied x with state := 4 }
      let s2 := bumpWrap { s1 with dict := { s1.dict with running := none } } E.cc_GENERATION
      let s3 := if r.emcyKind = some 2 then overlayEnd s2 true
        else if r.set = 66 then
          match s2.dict.imageRun with
          | some a => if a.action = 3 then askStore s2 0 66 0 else endAction s2 5 0 0
          | none => s2
        else s2
      resumeStores s3

/-! ### Meanings -/

/-- COMMIT_START. -/
def execCommitStart (s : State) : Host.Outcome State Fault Refusal := .next (commitStart s)
/-- COMMIT_CHECKS_END. -/
def execCommitChecksEnd (s : State) : Host.Outcome State Fault Refusal := .next (commitChecksEnd s)
/-- ENTRY_TAKES_EFFECT. -/
def execEntryTakesEffect (idx sub : Nat) (s : State) : Host.Outcome State Fault Refusal := .next (entryTakesEffect s idx sub)
/-- COMMIT_DONE. -/
def execCommitDone (s : State) : Host.Outcome State Fault Refusal := .next (commitDone s)
/-- STORE_DONE. -/
def execStoreDone (s : State) : Host.Outcome State Fault Refusal := .next (storeDone s)
/-- IMAGE_ACTION_END. -/
def execImageActionEnd (s : State) : Host.Outcome State Fault Refusal := .next (imageActionEnd s)

end Sys2Proof.Machine
end

