-- ==== Sys2Proof/Machine/Esc.lean ====
section
/-! DEFINITION. The EtherCAT SubDevice as the master addresses it (R96, R97): sync managers, FMMUs, process RAM, the emulated SII and
datagrams. The numbers of the registers are those of the family of EtherCAT controllers. PRESUMED: log 203. -/

namespace Sys2Proof.Machine

/-! ### Sync managers (R97) -/

/-- Start of a sync manager: its default, or where the master moved it (R97). DEDUCED: log 69. -/
def smStart (s : State) (n : Nat) : Nat := (tget (fun _ => none) s.field.smStart n).getD (at0 0 [0x1000, 0x1200, 0x1400, 0x1A00] n)

/-- Length of a sync manager: the default follows the assignments. -/
def smLen (s : State) (n : Nat) : Nat :=
  (tget (fun _ => none) s.field.smLen n).getD
    (if n < 2 then 512 else if n = 2 then mapLen (ecatMap s true) else if n = 3 then mapLen (ecatMap s false) else 0)

/-- Mode of a sync manager (R97), as its control register gives it: mailbox out and in, 3-buffer outputs and inputs, disabled.
PRESUMED: log 203. -/
def smControl (n : Nat) : Nat := at0 0 [0x26, 0x22, 0x64, 0x20] n

/-- A mailbox sync manager lies in process RAM with its length. -/
def mailboxOk (s : State) (n : Nat) : Bool :=
  decide (0x1000 ≤ smStart s n) && decide (smStart s n + smLen s n ≤ 0x5000) && smLen s n == 512

/-! ### Inputs in SM3 (R101) -/

/-- Inputs are exchanged in SAFEOP and OP. -/
def inputsLive (s : State) : Bool := s.field.al == 4 || s.field.al == 8

/-- The inputs that stand in SM3: in free run a snapshot is taken whenever their content changes, so they are the present content; in
the other modes they are those of the last instant of R101. DEDUCED: log 71. -/
def sm3Now (s : State) : List Byte := if s.field.syncMode = 0 ∧ inputsLive s then inputBytes s (ecatMap s false) else s.field.sm3

/-! ### Registers and process RAM (R96) -/

/-- A byte of the registers and of the process RAM as the model holds it. -/
def escRam (s : State) (a : Nat) : Nat := tget (fun _ => 0) s.field.esc a

/-- Bytes stored there from an address on. -/
def escStore (s : State) (a : Nat) (bs : List Byte) : State :=
  { s with field := { s.field with
    esc := (List.range bs.length).foldl (fun t i => tset (fun _ => 0) t (a + i) (at0 0 bs i).toNat) s.field.esc } }

/-- A word of the emulated SII EEPROM of 4 KB: its configured station alias is the one a master may write (R96). -/
def siiWord (s : State) (a : Nat) : Nat :=
  if a = 4 then s.flash.station else if a < 2048 then (Sys2Proof.Config.siiImage a).toNat else 0

/-- The 8 bytes of the SII data register: the four words from the address that was last read. -/
def siiData (s : State) : List Byte :=
  let a := escRam s 0x504 + 256 * escRam s 0x505
  (List.range 4).flatMap (fun i => leBytes 2 (siiWord s (a + i)))

/-- The eight bytes of a sync manager's registers: start, length, control, status, activate. -/
def smRegs (s : State) (n : Nat) : List Byte :=
  leBytes 2 (smStart s n) ++ leBytes 2 (smLen s n) ++ leBytes 1 (smControl n) ++ [0] ++ leBytes 1 (b2n (smLen s n != 0)) ++ [0]

/-- A byte of the SubDevice's address space as a datagram reads it. -/
def escByte (s : State) (a : Nat) : Byte :=
  if 0x130 ≤ a ∧ a < 0x132 then at0 0 (leBytes 2 s.field.al) (a - 0x130)
  else if 0x134 ≤ a ∧ a < 0x136 then at0 0 (leBytes 2 s.field.alStatus) (a - 0x134)
  else if 0x508 ≤ a ∧ a < 0x510 then at0 0 (siiData s) (a - 0x508)
  else if 0x800 ≤ a ∧ a < 0x840 then at0 0 (smRegs s ((a - 0x800) / 8)) (a % 8)
  else if 0x910 ≤ a ∧ a < 0x918 then at0 0 (leBytes 8 s.field.sysTime) (a - 0x910)
  else if smStart s 3 ≤ a ∧ a < smStart s 3 + smLen s 3 then at0 0 (sm3Now s) (a - smStart s 3)
  else BitVec.ofNat 8 (escRam s a)

/-- The registers a master writes that keep the byte written: station address and alias, FMMUs, the SII address; and process RAM. -/
def escKeeps (a : Nat) : Bool :=
  (decide (0x10 ≤ a) && decide (a < 0x14)) || (decide (0x504 ≤ a) && decide (a < 0x508)) || (decide (0x600 ≤ a) && decide (a < 0x680)) ||
    (decide (0x1000 ≤ a) && decide (a < 0x5000))

/-- A byte of a 16-bit number replaced. -/
def setByte (v i b : Nat) : Nat := if i = 0 then v / 256 * 256 + b else v % 256 + 256 * b

/-- A datagram's byte is written. A sync manager moves with the bytes of its start and length (R97). -/
def escWrite (s : State) (a : Nat) (b : Byte) : State :=
  if 0x800 ≤ a ∧ a < 0x840 then
    let n := (a - 0x800) / 8
    let i := a % 8
    if i < 2 then
      { s with field := { s.field with smStart := tset (fun _ => none) s.field.smStart n (some (setByte (smStart s n) i b.toNat)) } }
    else if i < 4 then
      { s with field := { s.field with smLen := tset (fun _ => none) s.field.smLen n (some (setByte (smLen s n) (i - 2) b.toNat)) } }
    else s
  else if escKeeps a then escStore s a [b]
  else s

/-! ### Datagrams (R96) -/

/-- A number of a register, little-endian. -/
def escNum (s : State) (a n : Nat) : Nat := leVal ((List.range n).map (fun i => BitVec.ofNat 8 (escRam s (a + i))))

/-- Where an active FMMU of a direction maps a logical address: type bit 0 reads, bit 1 writes. -/
def fmmuMap (s : State) (write : Bool) (la : Nat) : Option Nat :=
  (List.range 8).findSome? (fun k =>
    let base := 0x600 + 16 * k
    let first := escNum s base 4
    if bitOf (escRam s (base + 12)) 0 ∧ bitOf (escRam s (base + 11)) (b2n write) ∧ first ≤ la ∧ la < first + escNum s (base + 4) 2 then
      some (escNum s (base + 8) 2 + (la - first))
    else none)

/-- The physical address of byte `i` of a datagram, where the SubDevice is addressed. -/
def escTarget (s : State) (write : Bool) (i : Nat) : EscAddr → Option Nat
  | .position pos off => if pos = 0 then some (off + i) else none
  | .station addr off => if addr = escNum s 0x10 2 then some (off + i) else none
  | .broadcast off => some (off + i)
  | .logical a => fmmuMap s write (a + i)

/-- What a datagram of `n` bytes reads, over the bytes it arrived with. -/
def escRead (s : State) (d : Datagram) (n : Nat) : List Byte :=
  (List.range n).map (fun i => match escTarget s false i d.addr with
    | some a => escByte s a
    | none => at0 0 (d.write.getD []) i)

/-- A datagram passes the SubDevice: what it reads goes back to the master before what it writes is stored. -/
def datagram (s : State) (d : Datagram) : State :=
  let s1 := match d.read with
    | some n => send s .esc [n] (escRead s d n)
    | none => s
  match d.write with
  | some bs => (List.range bs.length).foldl (fun t i => match escTarget s true i d.addr with
      | some a => escWrite t a (at0 0 bs i)
      | none => t) s1
  | none => s1

end Sys2Proof.Machine
end

