-- ==== Sys2Proof/Machine/Server.lean ====
section
/-! DEFINITION. Dictionary accesses as they arrive (R68, R69, R76–R79): the wake of PD2, the answers of each path, and the registers of the
BAR2 ports. -/

namespace Sys2Proof.Machine

/-! ### Answers -/

/-- ACTUAL of a transfer: the bytes, and after a read the size of a value over 4,096 bytes in units of that (R68). -/
def actualOf (n size : Nat) : Nat := if 4096 < size then n + 65536 * ((size + 4095) / 4096) else n

/-- The answer of an access goes back on its path: an SDO answer, the BAR2 port's coming ABORT, ACTUAL and DATA, a mailbox return code. -/
def answerAccess (s : State) (a : Access) (abort : Nat) (data : List Byte) : State :=
  match a.who with
  | .field => send s (.sdo a.path) [a.idx, a.sub, b2n a.write, abort] data
  | .bar2 f _ =>
    let p := portRec s f.val
    let buf := (List.range data.length).foldl (fun t i => tset (fun _ => 0) t i (at0 0 data i)) p.data
    let n := if a.write then a.bytes.length else data.length
    let size := if a.write then 0 else (valueBytes s (setNo a.who) (dkey a.idx a.sub)).length
    setPort s f.val { p with nextAbort := abort, nextActual := if abort = 0 then actualOf n size else 0, data := buf, waitsStore := false }
  | .trusted => send s .mailbox [abort] data
  | .image => s

/-- A command made for a client outside the guest's range (R69). -/
def clientStranger (s : State) (who : Requester) : Bool :=
  match who with
  | .bar2 f (some c) => !inRange s f.val c.val
  | _ => false

/-- An access is served: decided, carried out and answered. -/
def performAccess (s : State) (a : Access) : State :=
  let k := dkey a.idx a.sub
  if clientStranger s a.who then
    let g : Option Nat := match a.who with | .bar2 f _ => some f.val | _ => none
    let s1 := bump s (if a.write then E.glob_WRITES_REFUSED else E.glob_READS_REFUSED)
    let n := setNo a.who
    let s2 := putStaging s1 n { stagingOf s1 n with lastAbort := 0x06010000 }
    answerAccess (violate s2 0x08 1 k none g) a 0x06010000 []
  else if a.write then
    let r := doWrite s a
    match r.2 with
    | some code => answerAccess r.1 a code []
    | none => r.1
  else
    let r := doRead s a
    answerAccess r.1 a r.2.1 r.2.2

/-- A file dict.igdi loads IMAGE and runs its action; action 0 loads only. While an action runs it is refused as its IMAGE write, and
while the overlay is committed its action is refused as a write of ACTION (R84, R113). -/
def performFile (s : State) (action : Nat) (bytes : List Byte) : State :=
  if s.dict.imageRun.isSome then send s .foe [0x800B] []
  else
    let s1 := loadImage s bytes
    if action = 0 then send s1 .foe [0] []
    else if committing s1 66 then send s1 .foe [0x800B] []
    else startAction s1 action 0 true

/-- An access or a file that the server takes. -/
def performEither (s : State) (a : Access) : State :=
  match a.foe with
  | some n => performFile s n a.bytes
  | none => performAccess s a

/-- An access arrives. The dictionary is reachable from boot step 6; an access is a wake event for PD2, and one of the field network ends
deep sleep; it waits for PD2 (R79, R426, R447). DEDUCED: log 36. DEDUCED: log 37. -/
def arrive (s : State) (a : Access) : State :=
  if s.boot.step < 6 then s
  else
    let s1 := if a.who = .field then sleepExit s .fieldAccess else s
    if pdOn s1 2 then performEither s1 a
    else
      let s2 := { s1 with dict := { s1.dict with waiting := s1.dict.waiting ++ [a] } }
      if s2.power.sleep = 0 then wake s2 2 3 else s2

/-- PD2 is on: the accesses that waited are served in order. -/
def serveWaiting (s : State) : State :=
  if pdOn s 2 then s.dict.waiting.foldl performEither { s with dict := { s.dict with waiting := [] } } else s

/-! ### Paths -/

/-- Whether a field-network path carries SDOs: the CoE mailbox from PREOP up, a CAN node in NMT pre-operational or operational (R98,
R103). -/
def sdoOpen (s : State) (path : Nat) : Bool :=
  if path = 0 then s.field.al == 2 || s.field.al == 4 || s.field.al == 8
  else
    let x := canOf s (path - 1)
    (x.nmt == 127 || x.nmt == 5) && !x.busOff

/-- The path of an SDO. -/
def pathNo : SdoPath → Nat
  | .coe => 0
  | .can n => n.val + 1

/-- A command of a BAR2 port begins: BUSY, until DICT_PORT_DONE. -/
def portBusy (s : State) (f : Nat) : State := setPort s f { portRec s f with busy := true, waitsStore := true }

/-- A write TLP to a busy port is discarded and counted (R68). -/
def portDiscard (s : State) (f : Nat) : State :=
  let p := portRec s f
  setPort s f { p with discards := min (p.discards + 1) 0xFFFF }

/-- A BAR2 command whose LENGTH is 0 or above 4,096 transfers nothing (R69). -/
def lengthBad (a : Access) : Bool := match a.part with | some (_, n) => n == 0 || decide (4096 < n) | none => false

/-- It is answered with its abort code. -/
def refuseLength (s : State) (a : Access) : State :=
  answerAccess (refuse s a.who a.write (dkey a.idx a.sub) 0x06070010 false) { a with bytes := [] } 0x06070010 []

/-- An access by a requester outside the block: its path must be open, its BAR2 port free. -/
def access (s : State) (a : Access) : State :=
  match a.who with
  | .field =>
    match [0, 1, 2].find? (sdoOpen s) with
    | some p => arrive s { a with path := p }
    | none => s
  | .bar2 f _ =>
    if ¬ serving s f.val then s
    else if (portRec s f.val).busy then portDiscard s f.val
    else if lengthBad a then refuseLength (portBusy s f.val) a
    else arrive (portBusy s f.val) a
  | .trusted => if lktState s = 1 then arrive s a else s
  | .image => s

/-- A whole-value write of a number of `n` bytes. -/
def writeNum (s : State) (who : Requester) (k n v : Nat) : State :=
  access s { who := who, write := true, idx := k / 256, sub := k % 256, bytes := leBytes n v,
             part := match who with | .bar2 _ _ => some (0, n) | _ => none }

/-- A write of bytes to an entry from an offset, which only BAR2 can give. -/
def writeBytes (s : State) (who : Requester) (k off : Nat) (bytes : List Byte) : State :=
  access s { who := who, write := true, idx := k / 256, sub := k % 256, bytes := bytes,
             part := match who with | .bar2 _ _ => some (off, bytes.length) | _ => none }

/-! ### The BAR2 port (R68, R69) -/

/-- The client a port's command is made for. -/
def portClient (p : PortRec) : Option Client :=
  if p.useClient then if h : p.asClient < 4096 then some ⟨p.asClient, h⟩ else none else none

/-- CMD = 1 or 2 with the registers as they stand: LENGTH 0 or above 4,096 is refused, nothing is transferred. -/
def portCommand (s : State) (f : Func) (write : Bool) : State :=
  let p := portRec s f.val
  if ¬ serving s f.val then s
  else if p.busy then portDiscard s f.val
  else
    let who := Requester.bar2 f (portClient p)
    let data := if write then (List.range p.length).map (tget (fun _ => 0) p.data) else []
    let a : Access := { who := who, write := write, idx := p.index, sub := p.subindex, part := some (p.offset, p.length), bytes := data }
    if lengthBad a then refuseLength (portBusy s f.val) a
    else arrive (portBusy s f.val) a

/-- DICT_PORT_DONE: DONE, ABORT and ACTUAL are set, and the vector is sent where IRQ_EN is 1. -/
def portDone (s : State) (f : Nat) : State :=
  let p := portRec s f
  if ¬ p.busy ∨ p.waitsStore then s
  else
    let s1 := setPort s f { p with busy := false, done := true, abort := p.nextAbort, actual := p.nextActual }
    if p.irqEn then msixSend s1 f p.vector else s1

/-- The register words of a port that a write TLP carries. -/
def portWord (p : PortRec) (i v : Nat) : PortRec :=
  if i = 0 then { p with index := fld v 0 16, subindex := fld v 16 8 }
  else if i = 1 then { p with offset := v }
  else if i = 2 then { p with length := fld v 0 13 }
  else if i = 4 then { p with asClient := fld v 0 12, useClient := bitOf v 31 }
  else if i = 5 then if bitOf v 1 then { p with done := false } else p
  else if i = 8 then { p with vector := fld v 0 6, irqEn := bitOf v 8 }
  else p

/-- The register words of a port before a write, which bytes that are not enabled keep; W1C bits count as 0. -/
def portOld (p : PortRec) (i : Nat) : Nat :=
  if i = 0 then p.index + 65536 * p.subindex
  else if i = 1 then p.offset
  else if i = 2 then p.length
  else if i = 4 then p.asClient + 2 ^ 31 * b2n p.useClient
  else if i = 8 then p.vector + 256 * b2n p.irqEn
  else 0

/-- A word of the MSI-X table is written: a vector that it unmasks is sent where it is pending (R62). -/
def msixWrite (s : State) (f i v : Nat) : State :=
  let p := portRec s f
  let p1 := { p with msix := tset (fun k => if k % 4 = 3 then 1 else 0) p.msix i v }
  if i % 4 = 3 ∧ bitOf v 0 = false ∧ bitOf p.pba (i / 4) = true then
    msixSend (setPort s f { p1 with pba := setBit p.pba (i / 4) false }) f (i / 4)
  else setPort s f p1

/-- A write TLP to BAR2: every register and DATA byte it carries is written, then a CMD it carries starts. One that reaches the command
registers or DATA while BUSY is discarded whole. -/
def bar2Write (s : State) (f : Func) (off : Nat) (bytes : List (Option Byte)) : State :=
  let p := portRec s f.val
  let on := (List.range bytes.length).filter (fun i => (at0 none bytes i).isSome)
  let hits := on.any (fun i => decide (off + i < 0x24) || (decide (0x1000 ≤ off + i) && decide (off + i < 0x2000)))
  if ¬ serving s f.val then s
  else if p.busy ∧ hits then portDiscard s f.val
  else
    let p1 := (List.range 9).foldl (fun q i =>
      match wordOver off bytes i (portOld q i) with
      | some v => portWord q i v
      | none => q) p
    let data := (on.filter (fun i => decide (0x1000 ≤ off + i) && decide (off + i < 0x2000))).foldl
      (fun t i => tset (fun _ => 0) t (off + i - 0x1000) ((at0 none bytes i).getD 0)) p1.data
    let s1 := setPort s f.val { p1 with data := data }
    let s2 := (List.range 256).foldl (fun t i =>
      match wordOver off bytes (0x2000 + i) (msixWord (portRec t f.val) i) with
      | some v => msixWrite t f.val i v
      | none => t) s1
    match wordOver off bytes 3 0 with
    | some v => if v % 4 = 1 then portCommand s2 f false else if v % 4 = 2 then portCommand s2 f true else s2
    | none => s2

/-- Word `i` of BAR2 as it reads (R68). FULLMAP and EVENTMAP show the clients of the function's range alone. -/
def bar2Word (s : State) (f i : Nat) : Nat :=
  let p := portRec s f
  let map := fun (first : Nat) (bit : Clasp → Bool) =>
    maskOf ((List.range 32).filter (fun b =>
      inRange s f (32 * (i - first) + b) && bit (claspOf s (32 * (i - first) + b))))
  if i < 5 ∨ i = 8 then portOld p i
  else if i = 5 then b2n p.busy + 2 * b2n p.done
  else if i = 6 then p.abort
  else if i = 7 then p.actual
  else if i = 9 then p.discards
  else if 0x400 ≤ i ∧ i < 0x800 then leVal ((rangeFrom (4 * (i - 0x400)) 4).map (tget (fun _ => 0) p.data))
  else if 0x2000 ≤ i ∧ i < 0x2100 then msixWord p (i - 0x2000)
  else if i = 0x2400 ∨ i = 0x2401 then fld p.pba (32 * (i - 0x2400)) 32
  else if 0x2800 ≤ i ∧ i < 0x2880 then map 0x2800 (fun k => bitOf (statusWord k) 1)
  else if 0x2880 ≤ i ∧ i < 0x2900 then map 0x2880 (fun k => Nat.land k.event k.eventEn != 0)
  else 0

/-- A BAR2 read TLP: the enabled bytes, then PORT_DISCARDS is cleared where one of them is its (R7). A function that does not serve
answers Unsupported Request (R477). -/
def bar2Read (s : State) (f off : Nat) (be : List Bool) : State :=
  if serving s f then
    let bytes := (enabledAt be).map (fun i => BitVec.ofNat 8 (bar2Word s f (wordAt off i) / 256 ^ ((off + i) % 4)))
    let s1 := send s (.bar f 2) [0] bytes
    if (enabledAt be).any (fun i => off + i == 0x24 || off + i == 0x25) then setPort s1 f { portRec s1 f with discards := 0 } else s1
  else send s (.bar f 2) [1] []

/-- A plain register write (R7). -/
def registerWrite (s : State) : RegTarget → State
  | .bar2 f off bytes => bar2Write s f off bytes
  | .clasp f c off bytes => bar0Write s f.val c.val off bytes
  | .dict who i n bytes => writeBytes s who (dkey i n) 0 bytes
  | .pte g n v => writePte s g.val n.val v.toNat
  | .esc d => datagram s d

/-! ### Meanings -/

/-- DICT_PORT_READ: CMD = 1. -/
def execDictPortRead (f : Func) (s : State) : Host.Outcome State Fault Refusal := .next (portCommand s f false)
/-- DICT_PORT_WRITE: CMD = 2. -/
def execDictPortWrite (f : Func) (s : State) : Host.Outcome State Fault Refusal := .next (portCommand s f true)
/-- DICT_PORT_DONE. -/
def execDictPortDone (f : Func) (s : State) : Host.Outcome State Fault Refusal := .next (portDone s f.val)
/-- PORT_DISCARDS_READ: a BAR2 read TLP of any length and byte enables; the count is cleared where it takes in a byte of it.
DESIGN CHOICE: log 184. -/
def execPortDiscardsRead (f : Func) (off : Nat) (enabled : List Bool) (s : State) : Host.Outcome State Fault Refusal :=
  .next (bar2Read s f.val off enabled)
/-- REGISTER_WRITE. -/
def execRegisterWrite (t : RegTarget) (s : State) : Host.Outcome State Fault Refusal := .next (registerWrite s t)
/-- SDO_DOWNLOAD. -/
def execSdoDownload (p : SdoPath) (idx sub : Nat) (bytes : List Byte) (s : State) : Host.Outcome State Fault Refusal :=
  .next (if sdoOpen s (pathNo p) then
    arrive s { path := pathNo p, write := true, idx := idx, sub := sub, bytes := bytes } else s)
/-- SDO_UPLOAD. -/
def execSdoUpload (p : SdoPath) (idx sub : Nat) (s : State) : Host.Outcome State Fault Refusal :=
  .next (if sdoOpen s (pathNo p) then arrive s { path := pathNo p, idx := idx, sub := sub } else s)
/-- COMMIT = 1. -/
def execCommit (who : Requester) (s : State) : Host.Outcome State Fault Refusal := .next (writeNum s who E.cc_COMMIT 1 1)
/-- COMMIT = 2. -/
def execCheckOnly (who : Requester) (s : State) : Host.Outcome State Fault Refusal := .next (writeNum s who E.cc_COMMIT 1 2)
/-- COMMIT = 3. -/
def execDiscard (who : Requester) (s : State) : Host.Outcome State Fault Refusal := .next (writeNum s who E.cc_COMMIT 1 3)
/-- STORE_ALL. -/
def execStoreAll (who : Requester) (s : State) : Host.Outcome State Fault Refusal := .next (writeNum s who E.store_STORE_ALL 4 0x65766173)
/-- STORE_COMM. -/
def execStoreComm (who : Requester) (s : State) : Host.Outcome State Fault Refusal := .next (writeNum s who E.store_STORE_COMM 4 0x65766173)
/-- STORE_APP. -/
def execStoreApp (who : Requester) (s : State) : Host.Outcome State Fault Refusal := .next (writeNum s who E.store_STORE_APP 4 0x65766173)
/-- RESTORE_ALL. -/
def execRestoreAll (who : Requester) (s : State) : Host.Outcome State Fault Refusal := .next (writeNum s who E.store_RESTORE_ALL 4 0x64616F6C)
/-- RESTORE_COMM. -/
def execRestoreComm (who : Requester) (s : State) : Host.Outcome State Fault Refusal := .next (writeNum s who E.store_RESTORE_COMM 4 0x64616F6C)
/-- RESTORE_APP. -/
def execRestoreApp (who : Requester) (s : State) : Host.Outcome State Fault Refusal := .next (writeNum s who E.store_RESTORE_APP 4 0x64616F6C)
/-- IMAGE_WRITE. -/
def execImageWrite (who : Requester) (off : Nat) (bytes : List Byte) (s : State) : Host.Outcome State Fault Refusal :=
  .next (writeBytes s who E.img_IMAGE off bytes)
/-- IMAGE_CHECK: ACTION = 1. -/
def execImageCheck (who : Requester) (s : State) : Host.Outcome State Fault Refusal := .next (writeNum s who E.img_ACTION 1 1)
/-- IMAGE_COMMIT: ACTION = 2. -/
def execImageCommit (who : Requester) (s : State) : Host.Outcome State Fault Refusal := .next (writeNum s who E.img_ACTION 1 2)
/-- IMAGE_COMMIT_STORE: ACTION = 3. -/
def execImageCommitStore (who : Requester) (s : State) : Host.Outcome State Fault Refusal := .next (writeNum s who E.img_ACTION 1 3)
/-- ERROR_HISTORY_CLEAR: ERROR_COUNT = 0. -/
def execErrorHistoryClear (who : Requester) (s : State) : Host.Outcome State Fault Refusal := .next (writeNum s who E.err_ERROR_COUNT 1 0)
/-- VIOLATION_RING_CLEAR: a write of CLEAR. -/
def execViolationRingClear (who : Requester) (v : Byte) (s : State) : Host.Outcome State Fault Refusal :=
  .next (writeBytes s who E.viol_CLEAR 0 [v])
/-- XING_LOG_CLEAR: a write of CLEAR. -/
def execXingLogClear (who : Requester) (v : Byte) (s : State) : Host.Outcome State Fault Refusal :=
  .next (writeBytes s who E.xlog_CLEAR 0 [v])
/-- SUPPLY_LOG_CLEAR: a write of CLEAR. -/
def execSupplyLogClear (who : Requester) (v : Byte) (s : State) : Host.Outcome State Fault Refusal :=
  .next (writeBytes s who E.slog_CLEAR 0 [v])
/-- MEM_LOG_CLEAR: a write of CLEAR. -/
def execMemLogClear (who : Requester) (v : Byte) (s : State) : Host.Outcome State Fault Refusal :=
  .next (writeBytes s who E.memlog_CLEAR 0 [v])
/-- CHARMS_WRITE. -/
def execCharmsWrite (who : Requester) (g : Func) (off : Nat) (bytes : List Byte) (s : State) : Host.Outcome State Fault Refusal :=
  .next (writeBytes s who (E.guest_CHARMS g.val) off bytes)
/-- RESET_CLIENT. -/
def execResetClient (who : Requester) (g : Func) (v : BitVec 16) (s : State) : Host.Outcome State Fault Refusal :=
  .next (writeNum s who (E.guest_RESET_CLIENT g.val) 2 v.toNat)
/-- DIRECT_ADDR_WRITE: DIRECT_ADDR (0), DIRECT_PITCH (1) or DIRECT_ADDR2 (2) of a facet. -/
def execDirectAddrWrite (who : Requester) (h : Head) (f : Facet) (sub : Fin 3) (bytes : List Byte) (s : State) :
    Host.Outcome State Fault Refusal :=
  .next (writeBytes s who (E.facet_DIRECT_ADDR h.val f.val + sub.val) 0 bytes)
/-- SELFTEST = 1. -/
def execSelftest (who : Requester) (p : Panel) (s : State) : Host.Outcome State Fault Refusal := .next (writeNum s who (E.panel_SELFTEST p.val) 1 1)
/-- CAPTURE = 1. -/
def execCapture (who : Requester) (p : Panel) (s : State) : Host.Outcome State Fault Refusal := .next (writeNum s who (E.panel_CAPTURE p.val) 1 1)
/-- CALIBRATE = 1. -/
def execCalibrate (who : Requester) (n : Hap) (s : State) : Host.Outcome State Fault Refusal := .next (writeNum s who (E.hap_CALIBRATE n.val) 1 1)
/-- UNLOCK_MASK is written. -/
def execUnlockMaskWrite (who : Requester) (v : Byte) (s : State) : Host.Outcome State Fault Refusal :=
  .next (writeBytes s who E.dbg_UNLOCK_MASK 0 [v])
/-- RESPONSE is written. -/
def execUnlockResponseWrite (who : Requester) (bytes : List Byte) (s : State) : Host.Outcome State Fault Refusal :=
  .next (writeBytes s who E.dbg_RESPONSE 0 bytes)
/-- NONCE is written. -/
def execNonceWrite (who : Requester) (bytes : List Byte) (s : State) : Host.Outcome State Fault Refusal :=
  .next (writeBytes s who E.sig_NONCE 0 bytes)
/-- DEEP_SLEEP = 1. -/
def execDeepSleep (who : Requester) (s : State) : Host.Outcome State Fault Refusal := .next (writeNum s who E.pwr_DEEP_SLEEP 1 1)
/-- EPOCH_NOW = 1. -/
def execEpochNow (who : Requester) (s : State) : Host.Outcome State Fault Refusal := .next (writeNum s who E.hm_EPOCH_NOW 1 1)
/-- MAINT_WINDOW = n. -/
def execMaintWindow (who : Requester) (n : Nat) (s : State) : Host.Outcome State Fault Refusal := .next (writeNum s who E.hm_MAINT_WINDOW 2 n)
/-- DICT_READ of the locket mailbox (0x101). -/
def execTrustedDictRead (idx sub : Nat) (s : State) : Host.Outcome State Fault Refusal :=
  .next (access s { who := .trusted, idx := idx, sub := sub })
/-- DICT_WRITE (0x102). -/
def execTrustedDictWrite (idx sub : Nat) (bytes : List Byte) (s : State) : Host.Outcome State Fault Refusal :=
  .next (writeBytes s .trusted (dkey idx sub) 0 bytes)
/-- DICT_COMMIT (0x103). -/
def execTrustedDictCommit (s : State) : Host.Outcome State Fault Refusal := .next (writeNum s .trusted E.cc_COMMIT 1 1)
/-- DOMAIN_OFF: the drain ends; where a wake arrived meanwhile, PD2 serves the accesses that waited. -/
def execDomainOff (d : Domain) (s : State) : Host.Outcome State Fault Refusal :=
  .next (if d.val = 2 then serveWaiting (domainOff s 2) else domainOff s d.val)
/-- DOMAIN_ON: the domain reports ready; with PD2 the waiting accesses are served. -/
def execDomainOn (d : Domain) (s : State) : Host.Outcome State Fault Refusal :=
  .next (if d.val = 2 then serveWaiting (domainOn s 2) else domainOn s d.val)

end Sys2Proof.Machine
end

