-- ==== Sys2Proof/Machine/Fieldbus.lean ====
section
/-! DEFINITION. The field network (R94–R114, R479): EtherCAT states and process data, the CANopen FD nodes, emergency messages as they are
sent, files over FoE. -/

namespace Sys2Proof.Machine

/-! ### EtherCAT states (R97–R100, R449) -/

/-- AL status in INIT where boot could not proceed (R451). -/
def initStatus (s : State) : Nat :=
  if s.boot.failure = 1 then 0x8003 else if s.boot.failure = 3 then 0x8001 else if s.boot.failure = 4 then 0x8002 else 0

/-- Whether a transition is one that IEC 61158 type 12 has; BOOT is entered from INIT only. -/
def alStep (a b : Nat) : Bool :=
  b == 1 || a == b || (a == 1 && (b == 2 || b == 3)) || (a == 2 && b == 4) || (a == 4 && (b == 2 || b == 8)) || (a == 8 && (b == 4 || b == 2))

/-- The AL status code that refuses a request; 0 where it is permitted (R99). -/
def alRefusal (s : State) (b : Nat) : Nat :=
  let a := s.field.al
  let mode := rd s E.sync2_SYNC_MODE
  let cycle := rd s E.sync2_CYCLE_TIME
  if ¬ alStep a b then 0x0011
  else if (b = 2 ∨ b = 3) ∧ a = 1 ∧ ¬ (mailboxOk s 0 && mailboxOk s 1) then 0x0016
  else if a = 2 ∧ b = 4 then
    if ¬ assignmentOk s true ∨ smLen s 2 ≠ mapLen (ecatMap s true) then 0x001D
    else if ¬ assignmentOk s false ∨ smLen s 3 ≠ mapLen (ecatMap s false) then 0x001E
    else if 2 < mode ∨ (mode = 2 ∧ ¬ s.field.dcSync0) ∨ mode ≠ rd s E.sync3_SYNC_MODE then 0x0030
    else if cycle < 62500 ∨ 100000000 < cycle then 0x0035
    else 0
  else 0

/-- A request waits for a boot step: PREOP for step 6, BOOT for step 2 (R449). -/
def alWaits (s : State) (b : Nat) : Bool := (b == 2 && decide (s.boot.step < 6)) || (b == 3 && decide (s.boot.step < 2) && s.boot.failure != 1)

/-- The AL status register as the master reads it. -/
def sendAl (s : State) : State := send s .al [s.field.al, s.field.alStatus] []

/-- The code of a requested state. -/
def alCode : AlState → Nat
  | .init => 1
  | .preop => 2
  | .boot => 3
  | .safeop => 4
  | .op => 8
  | .other n => n

/-- AL_STATE_REQUEST: refused at once with its code, or held until it is confirmed. DEDUCED: log 70. -/
def alRequest (s : State) (b : Nat) : State :=
  let c := alRefusal s b
  if s.boot.held then s
  else if c ≠ 0 then sendAl { s with field := { s.field with alStatus := c, alHeld := none } }
  else { s with field := { s.field with alHeld := some b } }

/-- AL_STATE_CONFIRM: the held request takes effect once the boot step it waits for has completed. SAFEOP takes the sync mode
(R98, R100). PRESUMED: log 78. -/
def alConfirm (s : State) : State :=
  match s.field.alHeld with
  | none => s
  | some b =>
    if alWaits s b then s
    else
      let s1 := { s with field := { s.field with alHeld := none } }
      let c := alRefusal s1 b
      if c ≠ 0 then sendAl { s1 with field := { s1.field with alStatus := c } }
      else
        let from_ := s1.field.al
        let s2 := setAl s1 b (if b = 1 then initStatus s1 else 0)
        let s3 := if b = 8 then s2 else { s2 with field := { s2.field with buffers := [] } }
        let s4 := if from_ = 2 ∧ b = 4 then { s3 with field := { s3.field with syncMode := rd s3 E.sync2_SYNC_MODE } } else s3
        opReached (sendAl s4)

/-- SM2_WATCHDOG_EXPIRY. -/
def sm2Watchdog (s : State) : State :=
  if s.field.al = 8 then
    let s1 := setAl s 4 0x001B
    sendAl { s1 with field := { s1.field with buffers := [] } }
  else s

/-! ### Process data over EtherCAT (R101, R102) -/

/-- SYNC0: in DC SYNC0 mode the inputs are snapshot and the newest buffer complete 2 µs before is taken. DEDUCED: log 68. -/
def sync0 (s : State) : State :=
  let s1 := { s with field := { s.field with dcSync0 := true } }
  if s1.field.syncMode = 2 ∧ inputsLive s1 then
    let s2 := snapshot s1
    if s2.field.al = 8 then takeBuffer s2 (fun t => decide (t + 50 ≤ s.time)) else s2
  else s1

/-- SM2_BUFFER_COMPLETE: in OP the buffer waits to be taken, or is counted where another interface is the source; in SM-synchronous mode
the inputs are snapshot and it is taken at once. DEDUCED: log 76. -/
def bufferComplete (s : State) (bytes : List Byte) : State :=
  if bytes.length ≠ smLen s 2 then s
  else
    let s0 := escStore s (smStart s 2) bytes
    let s1 := if s.field.al ≠ 8 then s0
      else if pdSource s ≠ 0 then bump s0 E.comm_FOREIGN_PD
      else { s0 with field := { s0.field with buffers := (s.time, bytes) :: s0.field.buffers } }
    if s1.field.syncMode = 1 ∧ inputsLive s1 then
      let s2 := snapshot s1
      if s2.field.al = 8 then takeBuffer s2 (fun _ => true) else s2
    else s1

/-- FREE_RUN_OUTPUT_TAKE: in free run the newest buffer is taken; an input snapshot follows the content (R101). -/
def freeRun (s : State) : State :=
  if s.field.syncMode = 0 ∧ inputsLive s then
    let s1 := if s.field.al = 8 then takeBuffer s (fun _ => true) else s
    if sm3Now s1 = s1.field.sm3 then s1 else snapshot s1
  else s

/-- ALARM_TIMEOUT: no output has been accepted for ALARM_TIMEOUT, which takes its action once until the next one is (R109). -/
def alarmTimeout (s : State) : State := if s.field.timedOut then s else alarmSafe s 1

/-- SYNC0_STAMP: the stamp reaches SCAN0 and SCAN1; a lock that lost its stamps acquires again (R102, R218). -/
def sync0Stamp (s : State) (t : Nat) : State :=
  let s1 := { s with field := { s.field with stamp := some t, stampAt := s.time } }
  (List.range 16).foldl (fun u h => if rd u (E.head_LOCK_EN h) = 1 ∧ rd u (E.head_LOCK_STATE h) = 3 ∧ scanning u h then lockAcquire u h else u) s1

/-! ### CANopen FD (R103, R104) -/

/-- NMT start, stop and enter pre-operational (R103). -/
def nmtTo (s : State) (n st : Nat) : State := if canAlive (canOf s n) then opReached (setNmt s n st) else s

/-- NMT reset node and reset communication (R103). DEDUCED: log 72. -/
def nmtReset (s : State) (n : Nat) : State := if canAlive (canOf s n) then canStart s n else s

/-- HEARTBEAT: the producer's message with its NMT state. -/
def heartbeat (s : State) (n : Nat) : State :=
  let x := canOf s n
  if canAlive x ∧ isOn s E.pdoc_HEARTBEAT then send s (.can n) [0x700 + x.nodeId] [BitVec.ofNat 8 x.nmt] else s

/-- The COB-ID of a PDO on a controller: until it is written, its default with the node's number (R104). -/
def cobId (s : State) (key node : Nat) : Nat := if cobDefault s key then odDefault key + node else rd s key

/-- TPDO `t` is sent with its present content. -/
def sendTpdo (s : State) (n t : Nat) (bs : List Byte) : State :=
  let x := canOf s n
  send (setCan s n { x with sent := tset (fun _ => none) x.sent t (some bs) }) (.pdo (n + 1))
    [cobId s (E.tpdo_COB_ID t) x.nodeId] bs

/-- The content of a TPDO. -/
def tpdoBytes (s : State) (t : Nat) : List Byte := inputBytes s (pdoMap s (0x1A00 + t))

/-- Whether a TPDO may go out: its node operational, its COB-ID valid, its content no longer than a CAN FD frame. -/
def tpdoOpen (s : State) (n t : Nat) : Bool :=
  let x := canOf s n
  canAlive x && x.nmt == 5 && !bitOf (rd s (E.tpdo_COB_ID t)) 31 && decide ((tpdoBytes s t).length ≤ 64)

/-- TPDO_TRANSMIT: an event-driven TPDO whose content has changed, or whose event timer has expired. -/
def tpdoTransmit (s : State) (n t : Nat) (timer : Bool) : State :=
  let bs := tpdoBytes s t
  let changed := tget (fun _ => none) (canOf s n).sent t != some bs
  if tpdoOpen s n t ∧ 0xFE ≤ rd s (E.tpdo_TYPE t) ∧ (changed ∨ (timer ∧ isOn s (E.tpdo_TIMER t))) then sendTpdo s n t bs else s

/-- An RPDO of the source is taken as an output. -/
def takeRpdo (s : State) (r : Nat) (bytes : List Byte) : State := takeSourced s (outputVals (pdoMap s (0x1600 + r)) bytes)

/-- RPDO_RECEIVE: taken from the source's controller only; one shorter than its mapping is discarded (R104). A synchronous one waits for
the next SYNC. -/
def rpdoReceive (s : State) (n r : Nat) (bytes : List Byte) : State :=
  let x := canOf s n
  if ¬ canAlive x ∨ x.nmt ≠ 5 ∨ bitOf (rd s (E.rpdo_COB_ID r)) 31 then s
  else if pdSource s ≠ n + 1 then bump s E.comm_FOREIGN_PD
  else if bytes.length < mapLen (pdoMap s (0x1600 + r)) then emcy s 0x8210 (r + 1) (bytes.length % 256)
  else if rd s (E.rpdo_TYPE r) ≤ 240 then setCan s n { x with held := tset (fun _ => none) x.held r (some bytes) }
  else takeRpdo s r bytes

/-- CAN_SYNC: waiting RPDOs are taken and synchronous TPDOs sent: type 0 when its content has changed, type k at every k-th SYNC. -/
def canSync (s : State) (n : Nat) : State :=
  let x := canOf s n
  if ¬ canAlive x ∨ x.nmt ≠ 5 then s
  else
    let s1 := setCan s n { x with held := [], syncs := x.syncs + 1 }
    let s2 := [0, 1].foldl (fun t r =>
      match tget (fun _ => none) x.held r with
      | some bs => if pdSource t = n + 1 then takeRpdo t r bs else t
      | none => t) s1
    (List.range 8).foldl (fun u t =>
      let ty := rd u (E.tpdo_TYPE t)
      let bs := tpdoBytes u t
      let due := (ty == 0 && tget (fun _ => none) (canOf u n).sent t != some bs) || (ty != 0 && (x.syncs + 1) % ty == 0)
      if ty ≤ 240 ∧ tpdoOpen u n t ∧ due then sendTpdo u n t bs else u) s2

/-- CAN_BUS_OFF. -/
def busOff (s : State) (n : Nat) : State :=
  let x := canOf s n
  if x.enabled then setCan s n { x with busOff := true } else s

/-- CAN_BUS_OFF_RECOVERED: the controller takes part again and sends EMCY 0x8140. -/
def busOffRecovered (s : State) (n : Nat) : State :=
  let x := canOf s n
  if x.busOff then emcy (setCan s n { x with busOff := false }) 0x8140 n 0 else s

/-- CAN_ERROR_PASSIVE. -/
def errorPassive (s : State) (n : Nat) : State :=
  let x := canOf s n
  if x.enabled ∧ ¬ x.errPassive then lastingEmcy (setCan s n { x with errPassive := true }) 0x8120 n 0 else s

/-- CAN_ERROR_PASSIVE_END. -/
def errorPassiveEnd (s : State) (n : Nat) : State :=
  let x := canOf s n
  if x.errPassive then endLasting (setCan s n { x with errPassive := false }) 0x8120 n else s

/-! ### Emergency messages (R111, R479) -/

/-- A code enters the history, newest first. -/
def history (s : State) (code b0 : Nat) : State :=
  let s1 := (List.range 15).foldl (fun t i => wr t (E.err_ERROR_HISTORY (15 - i)) (rd s (E.err_ERROR_HISTORY (14 - i)))) s
  wr (wr s1 (E.err_ERROR_HISTORY 0) (code + 65536 * b0)) E.err_ERROR_COUNT (min (rd s E.err_ERROR_COUNT + 1) 16)

/-- The COB-ID of an interface's emergency messages: on a CAN FD controller 0x80 + node-ID, on EtherCAT none (R111). -/
def emcyCob (s : State) (i : Nat) : Nat := if i = 0 then 0 else 0x80 + (canOf s (i - 1)).nodeId

/-- A message goes out on the interfaces that can carry it, and enters the history. -/
def sendEmcy (s : State) (m : Emcy) : State :=
  let s1 := (emcyPaths s).foldl (fun t i => send t (.emcy i) [m.code, m.reg, emcyCob t i] (leBytes 5 m.data)) s
  let s2 := wr s1 E.glob_LAST_EMCY m.code
  if m.code = 0 then s2 else history (emcySent s2 m.code (m.data % 256)) m.code (m.data % 256)

/-- The messages from the first on that the rate limit lets through: those before it are not sent later (R111). -/
def emcyDue (s : State) (q : List Emcy) : List Emcy := q.dropWhile (fun m => m.code != 0 && emcyHeld s m.code (m.data % 256))

/-- EMCY_SEND: the oldest queued message that the rate limit lets through goes out on every interface that can carry it. -/
def emcySend (s : State) : State :=
  if emcyPaths s = [] then s
  else
    match emcyDue s s.field.emcyQueue with
    | m :: rest => sendEmcy { s with field := { s.field with emcyQueue := rest } } m
    | [] => { s with field := { s.field with emcyQueue := [] } }

/-! ### Files (R113, R114) -/

/-- An answer of the FoE server: 0, an error code, or 6 for busy, with the bytes of a file read. DEDUCED: log 49. -/
def foe (s : State) (code : Nat) (bytes : List Byte) : State := send s .foe [code] bytes

/-- FoE while the mailbox is on: `boot` names the states of the file's row, `pwOk` its Password column. -/
def foeFile (s : State) (boot pwOk : Bool) (k : State) : State :=
  if s.field.al = 1 then s
  else if boot ∧ s.field.al ≠ 3 then foe s 0x8008 []
  else if ¬ boot ∧ s.field.al = 3 then foe s 0x8009 []
  else if ¬ pwOk then foe s 0x8002 []
  else k

/-- A request that names no file of R113. -/
def foeUnknown (s : State) : State := if s.field.al = 1 then s else foe s 0x8001 []

/-- FOE_WRITE_DICT. -/
def foeDict (s : State) (pw : Nat) (bytes : List Byte) : State :=
  foeFile s false (decide (pw ≤ 3))
    (if 524288 < bytes.length then foe s 0x8003 [] else arrive s { write := true, idx := 0x2020, sub := 1, bytes := bytes, foe := some pw })

/-- FOE_READ_STORED. -/
def foeStored (s : State) (pw : Nat) : State :=
  foeFile s false (pw == 0)
    (match newestStored s with
      | some (_, x) => foe s 0 (imageForm x)
      | none => foe s 0x8001 [])

/-- FOE_READ_HALLMARK: the factory record, then the valid records in SEQ order (R440). -/
def foeHallmark (s : State) (pw : Nat) : State :=
  foeFile s false (pw == 0) (foe s 0 ((factoryRecord :: recordsInOrder s).flatMap recordBytes))

/-- A firmware file: it is written into the inactive slot of its kind, which is not valid until it verifies. While no trusted image is
valid the ROM serves trusted.igfw alone (R451). DEDUCED: log 50. -/
def foeFirmware (s : State) (kind limit pw : Nat) (bytes : List Byte) : State :=
  foeFile s true (pw == 0)
    (if s.boot.failure = 1 ∧ kind = 1 then foe s 0x8001 []
      else if limit < bytes.length then foe s 0x8003 []
      else if s.field.foeImage.isSome then s
      else
        let slot := inactiveSlot s kind
        let s1 := writeImg s slot bytes
        { s1 with field := { s1.field with foeImage := some { kind := kind, slot := slot } } })

/-- FOE_BUSY: sent while a file is written to flash and verified. -/
def foeBusy (s : State) : State :=
  let storing : Bool := match s.dict.imageRun with | some r => r.foe && s.dict.storing.isSome | none => false
  if s.field.foeImage.isSome ∨ storing then foe s 6 [] else s

/-- FIRMWARE_VERIFIED: the slot becomes valid, or the write ends with 0x800B. The ROM boots again when a trusted image verifies (R451).
DEDUCED: log 172. -/
def firmwareVerified (s : State) : State :=
  match s.field.foeImage with
  | none => s
  | some f =>
    let r := verifyImg { s with field := { s.field with foeImage := none } } f.slot
    if r.2 then
      let s1 := foe r.1 0 []
      if s1.boot.failure = 1 then { s1 with boot := { s1.boot with failure := 0, step := 0 } } else s1
    else foe r.1 0x800B []

/-! ### Meanings -/

/-- AL_STATE_REQUEST. -/
def execAlStateRequest (st : AlState) (s : State) : Host.Outcome State Fault Refusal := .next (alRequest s (alCode st))
/-- AL_STATE_CONFIRM. -/
def execAlStateConfirm (s : State) : Host.Outcome State Fault Refusal := .next (alConfirm s)
/-- SM2_WATCHDOG_EXPIRY. -/
def execSm2WatchdogExpiry (s : State) : Host.Outcome State Fault Refusal := .next (sm2Watchdog s)
/-- MII_LINK_CHANGE: a port without link is closed, one with link opened (R96). -/
def execMiiLinkChange (port : Fin 2) (up : Bool) (s : State) : Host.Outcome State Fault Refusal :=
  .next { s with field := { s.field with link := setAt s.field.link port.val up } }
/-- SYNC0 at a system time. -/
def execSync0 (t : Nat) (s : State) : Host.Outcome State Fault Refusal :=
  .next (sync0 { s with field := { s.field with sysTime := t % 2 ^ 64 } })
/-- SM2_BUFFER_COMPLETE. -/
def execSm2BufferComplete (bytes : List Byte) (s : State) : Host.Outcome State Fault Refusal := .next (bufferComplete s bytes)
/-- FREE_RUN_OUTPUT_TAKE. -/
def execFreeRunOutputTake (s : State) : Host.Outcome State Fault Refusal := .next (freeRun s)
/-- ALARM_TIMEOUT. -/
def execAlarmTimeout (s : State) : Host.Outcome State Fault Refusal := .next (alarmTimeout s)
/-- SYNC0_STAMP. -/
def execSync0Stamp (t : Nat) (s : State) : Host.Outcome State Fault Refusal := .next (sync0Stamp s t)
/-- NMT_START. -/
def execNmtStart (n : Can) (s : State) : Host.Outcome State Fault Refusal := .next (nmtTo s n.val 5)
/-- NMT_STOP. -/
def execNmtStop (n : Can) (s : State) : Host.Outcome State Fault Refusal := .next (nmtTo s n.val 4)
/-- NMT_ENTER_PREOP. -/
def execNmtEnterPreop (n : Can) (s : State) : Host.Outcome State Fault Refusal := .next (nmtTo s n.val 127)
/-- NMT_RESET_NODE. -/
def execNmtResetNode (n : Can) (s : State) : Host.Outcome State Fault Refusal := .next (nmtReset s n.val)
/-- NMT_RESET_COMM. -/
def execNmtResetComm (n : Can) (s : State) : Host.Outcome State Fault Refusal := .next (nmtReset s n.val)
/-- HEARTBEAT. -/
def execHeartbeat (n : Can) (s : State) : Host.Outcome State Fault Refusal := .next (heartbeat s n.val)
/-- CAN_SYNC. -/
def execCanSync (n : Can) (s : State) : Host.Outcome State Fault Refusal := .next (canSync s n.val)
/-- RPDO_RECEIVE. -/
def execRpdoReceive (n : Can) (r : Fin 2) (bytes : List Byte) (s : State) : Host.Outcome State Fault Refusal :=
  .next (rpdoReceive s n.val r.val bytes)
/-- TPDO_TRANSMIT. -/
def execTpdoTransmit (n : Can) (t : Fin 8) (timer : Bool) (s : State) : Host.Outcome State Fault Refusal :=
  .next (tpdoTransmit s n.val t.val timer)
/-- CAN_BUS_OFF_RECOVERED. -/
def execCanBusOffRecovered (n : Can) (s : State) : Host.Outcome State Fault Refusal := .next (busOffRecovered s n.val)
/-- CAN_ERROR_PASSIVE. -/
def execCanErrorPassive (n : Can) (s : State) : Host.Outcome State Fault Refusal := .next (errorPassive s n.val)
/-- CAN_OVERRUN. -/
def execCanOverrun (n : Can) (s : State) : Host.Outcome State Fault Refusal :=
  .next (if (canOf s n.val).enabled then emcy s 0x8110 n.val 0 else s)
/-- EMCY_SEND. -/
def execEmcySend (s : State) : Host.Outcome State Fault Refusal := .next (emcySend s)
/-- FOE_WRITE_DICT; `known` is whether the file's name is one of R113, dict.igdi. -/
def execFoeWriteDict (known : Bool) (pw : Nat) (bytes : List Byte) (s : State) : Host.Outcome State Fault Refusal :=
  .next (if known then foeDict s pw bytes else foeUnknown s)
/-- FOE_READ_STORED; `known` is whether the file's name is one of R113, stored.igdi. -/
def execFoeReadStored (known : Bool) (pw : Nat) (s : State) : Host.Outcome State Fault Refusal :=
  .next (if known then foeStored s pw else foeUnknown s)
/-- FOE_READ_HALLMARK. -/
def execFoeReadHallmark (pw : Nat) (s : State) : Host.Outcome State Fault Refusal := .next (foeHallmark s pw)
/-- FOE_WRITE_OPEN_IMAGE: open.igfw, at most 6 MB. -/
def execFoeWriteOpenImage (pw : Nat) (bytes : List Byte) (s : State) : Host.Outcome State Fault Refusal :=
  .next (foeFirmware s 1 0x600000 pw bytes)
/-- FOE_WRITE_TRUSTED_IMAGE: trusted.igfw, at most 1 MB. -/
def execFoeWriteTrustedImage (pw : Nat) (bytes : List Byte) (s : State) : Host.Outcome State Fault Refusal :=
  .next (foeFirmware s 2 0x100000 pw bytes)
/-- FOE_BUSY. -/
def execFoeBusy (s : State) : Host.Outcome State Fault Refusal := .next (foeBusy s)
/-- FIRMWARE_VERIFIED. -/
def execFirmwareVerified (s : State) : Host.Outcome State Fault Refusal := .next (firmwareVerified s)
/-- CAN_BUS_OFF. -/
def execCanBusOff (n : Can) (s : State) : Host.Outcome State Fault Refusal := .next (busOff s n.val)
/-- CAN_ERROR_PASSIVE_END. -/
def execCanErrorPassiveEnd (n : Can) (s : State) : Host.Outcome State Fault Refusal := .next (errorPassiveEnd s n.val)
/-- SII_ALIAS_WRITE: only the word of the configured station number accepts a master's write, which is stored (R96). -/
def execSiiAliasWrite (addr : Nat) (v : BitVec 16) (s : State) : Host.Outcome State Fault Refusal :=
  .next (if addr = 4 then send { s with flash := { s.flash with station := v.toNat } } .al [0] [] else send s .al [1] [])

end Sys2Proof.Machine
end

