-- ==== Sys2Proof/Machine/Boot.lean ====
section
/-! DEFINITION. Device reset and boot (R444–R453), the supply and thermal resets (R430, R432), the touch supply (R474) and the TAP's
reset (R458). -/

namespace Sys2Proof.Machine

/-! ### Device reset (R444, R445) -/

/-- The slots of the supply and thermal log from the oldest, those of KIND 3 and 6, which a reset keeps. DEDUCED: log 22. -/
def keptLog (s : State) : List Nat :=
  let n := rd s E.slog_NEXT_SLOT
  ((List.range 16).map (fun i => rd s (E.slog_SLOT ((n - 1 + i) % 16)))).filter (fun v => fld v 64 8 == 3 || fld v 64 8 == 6)

/-- The entries that a device reset other than a power-on reset leaves as they are: HOURS, f0, Q and R_CAL of each haptic channel, and
the first-boot measurement in AON (R388, R445). -/
def keptKeys : List Nat :=
  E.hm_HOURS :: E.lkt_FIRST_MEASURE :: (List.range 16).flatMap (fun n => [E.hap_F0 n, E.hap_Q n, E.hap_R_CAL n])

/-- The device as a reset leaves it, held in reset: every register and entry at its reset value but what R445 names. OTP, the boot
flash, the network's links, the commands that wait and the messages already sent are not the reset's to change.
DEDUCED: log 154. DESIGN CHOICE: log 169. DEDUCED: log 170. -/
def resetState (s : State) (por : Bool) : State :=
  let o := rd s E.dbg_DEBUG_OTP
  let b : State := {
    time := if por then 0 else s.time
    free := s.free
    pending := s.pending
    out := s.out
    flash := s.flash
    cameo := { engraving := s.cameo.engraving }
    field := { link := s.field.link }
    power := { records := s.power.records }
    locket := { debugKey := s.locket.debugKey, tap := if por then {} else s.locket.tap }
    boot := { heldAt := some (if por then 0 else s.time), measured := !por && s.boot.measured,
              supplyRail := if por then none else s.boot.supplyRail, resetN := s.boot.resetN } }
  wr b E.dbg_DEBUG_OTP o

/-- A device reset with its code. -/
def deviceReset (s : State) (code : Nat) : State :=
  let por := code == 1
  let b := resetState s por
  if por then wr (wr b E.glob_RESET_REASON 1) E.hm_HOURS s.flash.hours
  else
    let s1 := keptKeys.foldl (fun t k => wr t k (rd s k)) (wr b E.glob_RESET_REASON code)
    (keptLog s).foldl (fun t v => ringEnter t 0x2130 16 [] v) s1

/-- A cause of R444: ignored while the device is already held in reset, but that the lowest code of one AON cycle is kept; `log` is
what PD0 keeps of the cause. -/
def resetBy (s : State) (code : Nat) (log : State → State) : State :=
  if ¬ s.boot.held then deviceReset (log s) code
  else if s.boot.heldAt = some s.time then
    let s1 := log s
    wr s1 E.glob_RESET_REASON (min code (rd s1 E.glob_RESET_REASON))
  else s

/-- SUPPLY_RESET: a rail below its reset threshold in two consecutive samples (R430). -/
def supplyReset (s : State) (r : Nat) (l : List Nat) : State :=
  if l.length = 2 ∧ l.all (fun v => decide (v * 1000 < threshold s r (rd s (E.sup_RESET r)))) then
    resetBy s (0x10 + r) (fun t => supplyLog { t with boot := { t.boot with supplyRail := some r } } 3 r (lowest l))
  else s

/-- THERMAL_TRIP: a sensor at 125 °C or above for 100 µs; `temp` is its reading at their start (R432, R480). -/
def thermalTrip (s : State) (n : Nat) (temp : Int) : State :=
  if 1250 ≤ temp then resetBy s (0x20 + n) (fun t => supplyLog t 6 n temp) else s

/-! ### Boot steps 1 to 4 (R447, R448) -/

/-- Domains' islands run. -/
def runIslands (s : State) (ds : List Nat) : State := ds.foldl (fun t d => setIslands t d 3) s

/-- A boot failure of R451: FAULT_N latches, and AL status in INIT carries the code. DEDUCED: log 106. -/
def bootFail (s : State) (n : Nat) : State :=
  let s1 := latchFault { s with boot := { s.boot with failure := n } }
  if s1.field.al = 1 then sendAl { s1 with field := { s1.field with alStatus := initStatus s1 } } else s1

/-- A measurement of the locket (R388, R389). DEDUCED: log 156. -/
def takeMeasure (s : State) (kind slot version : Nat) (bytes : List Byte) : State :=
  let m : Measure := { slot := slot, version := version, digest := Sys2Proof.Config.sha384 bytes }
  { s with locket := { s.locket with measures := tset (fun _ => {}) s.locket.measures kind m } }

/-- The memory configuration that training runs with: that of the stored configuration that this reset takes, where it has one (R342,
R362). DEDUCED: log 171. -/
def memConfig (s : State) : State :=
  match newestStored s with
  | some (_, x) =>
    if x.layout = rd s E.id_LAYOUT then
      (x.records.filter (fun r => r.1 / 256 == 0x5000 && decide (1 ≤ r.1 % 256) && decide (r.1 % 256 ≤ 8))).foldl (fun t r =>
        { t with dict := { t.dict with held := tset (fun _ => none) t.dict.held r.1 (some (leVal r.2)) } }) s
    else s
  | none => s

/-- Step 2 with trusted slot `i`: the image is loaded, verified and measured; the trusted world runs, the debug enables that OTP has always
on are in force (R392), and the hallmark plan is applied. -/
def startTrusted (s : State) (i : Nat) : State :=
  let x := imgOf s i
  let ver := Sys2Proof.Config.imageVersion x.bytes
  let s1 := takeMeasure (takeMeasure s 1 0 (rd s E.id_ROM_VERSION) Sys2Proof.Config.romBytes) 2 (i + 1) ver x.bytes
  let s2 := { s1 with flash := { s1.flash with trusted := i },
                      locket := { s1.locket with served := s1.time },
                      boot := { s1.boot with step := 2, ready := true, measured := true } }
  let s3 := if s.boot.measured then s2 else wr s2 E.lkt_FIRST_MEASURE (leVal (Sys2Proof.Config.sha384 x.bytes))
  let s4 := wr (wr s3 E.lkt_LKT_STATE 1) E.id_TRUSTED_VERSION ver
  let s5 := wr s4 E.mem_LOCKET_SIZE (128 + 64 * (Sys2Proof.Config.locketUnits x.bytes).val)
  let on := (List.range 4).filter (fun i => fld (rd s5 E.dbg_DEBUG_OTP) (2 * i) 2 == 3)
  let s6 := applyPlan (wr s5 E.dbg_DEBUG_STATE (Nat.lor (rd s5 E.dbg_DEBUG_STATE) (maskOf on))) (plan s5)
  { s6 with power := { s6.power with avsPending := true } }

/-- The cameo record of a head takes the engraving's values (R262). -/
def cameoRecord (s : State) (h : Nat) : State :=
  let a := cameoLayer s h 0
  let b := cameoLayer s h 1
  let put := fun (t : State) (k0 : Nat) (l : List Nat) =>
    (List.range 5).foldl (fun u j => wr u (k0 + j) (at0 (if j = 4 then 0xFF else 0) l j)) t
  put (put s (E.cameo_C0_X h) a) (E.cameo_C1_X h) b

/-- A splash head takes its values and starts (R448). DEDUCED: log 174. -/
def splashHead (s : State) (x : Splash) : State :=
  let s1 := (splashEntries x).foldl (fun t p => wr t p.1 p.2) s
  let s2 := setCameo s1 x.head { cameoOf s1 x.head with splash := true }
  headEnable (landRoute s2 x.head) x.head

/-- Step 3: the engraving is verified and measured; with a valid one the splash heads are enabled, with another FAULT_N latches and
boot continues (R451). -/
def engravingStep (s : State) : State :=
  let e := s.cameo.engraving
  let s1 := takeMeasure s 4 0 0 (Sys2Proof.Config.engravingBytes e.id)
  if ¬ e.valid then latchFault s1
  else
    let s2 := wr (wr (wr s1 E.cchk_ACK_HOLD e.ackHold) E.cchk_CELLS e.cells.length) E.cchk_ENGRAVING_ID e.id
    let s3 := (List.range 16).foldl cameoRecord s2
    updateSums (updateSlices (e.splash.foldl splashHead s3))

/-- Steps 1 to 3, and step 4 begins. PD8 comes on in step 3 for a splash head of H8 to H15, else with the domains of step 5. -/
def bootSteps (s : State) : State :=
  let s1 := { s with boot := { s.boot with held := false, resetN := false, step := 1 } }
  let s2 := runIslands s1 [0, 15, 1]
  match bootSlot s2 2 with
  | none => bootFail s2 1
  | some i =>
    let s3 := runIslands (engravingStep (startTrusted s2 i)) ([7, 9, 10, 11] ++ if (splashHeads s2).any (fun x => decide (8 ≤ x.head)) then [8] else [])
    settleDevice (trainStart (memConfig { s3 with boot := { s3.boot with step := 3 } }))

/-! ### Boot steps 5 to 7 (R86, R447, R449) -/

/-- The overlay is refused before any commit check (R86): the code, the entry's key and the abort code. -/
def refuseOverlay (s : State) (k abort : Nat) : State :=
  let x := stagingOf s 66
  let s1 := putStaging s 66 { x with state := 5, reason := 0x000B, refusedAt := k * 256, lastAbort := abort }
  overlayEnd (emcy s1 0x6310 2 (0x000B + 65536 * (k / 256))) false

/-- The stored configuration is overlaid: staged in slot order in the image loader's set and committed as one set (R86). -/
def overlay (s : State) : State :=
  match newestStored s with
  | none => overlayEnd (requestCommit s 66 1 (some 2)) true
  | some (n, x) =>
    let s1 := wr (takeMeasure s 5 (n + 1) 0 (imageForm x)) E.glob_STORED_SOURCE (n + 1)
    if x.layout ≠ rd s1 E.id_LAYOUT then refuseOverlay s1 0 (stagingOf s1 66).lastAbort
    else
      match stageRecords s1 (x.records.map (fun r => (r.1, r.1 / 256, r.1 % 256, r.2))) with
      | (s2, some (code, k)) => refuseOverlay (putStaging s2 66 (emptied (stagingOf s2 66))) k code
      | (s2, none) =>
        let s3 := requestCommit s2 66 1 (some 2)
        if (stagingOf s2 66).entries = [] then overlayEnd s3 true else s3

/-- A slot that has reached step 6 is no trial any more (R450). -/
def endTrial (s : State) (i : Nat) : State := setImg s i { imgOf s i with trial := false }

/-- Step 6: the dictionary is up with its defaults and the splash values; the endpoint's functions, the CAN nodes and the guests become
reachable; then the overlay. DEDUCED: log 179. -/
def dictionaryUp (s : State) : State :=
  let s1 := endTrial (endTrial s s.flash.trusted) s.flash.open_
  let s2 := { s1 with ten := { s1.ten with endpoint := true }, boot := { s1.boot with step := 6 } }
  let s3 := (List.range 64).foldl (fun t g => settleGuest (settleCarve t g) g) s2
  let s4 := match s3.boot.supplyRail with
    | some r => emcy { s3 with boot := { s3.boot with supplyRail := none } } 0x3202 r 0
    | none => s3
  overlay (settleDevice s4)

/-- Step 5: the open-world image is loaded, verified and measured, and CC0–CC3 start. An image that is no trial goes on to step 6. -/
def openWorld (s : State) : State :=
  match bootSlot s 1 with
  | none => bootFail s 4
  | some i =>
    let x := imgOf s i
    let ver := Sys2Proof.Config.imageVersion x.bytes
    let rest := if islandState s 12 = 0 then [8, 12, 13, 14] else [12, 13, 14]
    let s1 := takeMeasure (runIslands s ([2, 3, 4, 5, 6] ++ rest)) 3 (i - 1) ver x.bytes
    let s2 := wr { s1 with flash := { s1.flash with open_ := i }, boot := { s1.boot with step := 5, startedAt := s1.time } }
      E.id_OPEN_VERSION ver
    if x.trial then lockControl s2 else dictionaryUp (lockControl s2)

/-- Boot goes on after training once the trusted world runs (R452). -/
def bootOn (s : State) : State :=
  if s.boot.step ≠ 3 ∨ s.boot.failure ≠ 0 ∨ lktState s ≠ 1 then s
  else if rd s E.mem_MEM_STATE = 3 then bootFail s 3
  else if rd s E.mem_MEM_STATE = 2 then openWorld { s with boot := { s.boot with step := 4 } }
  else s

/-- A training of the DRAM adds the delay offsets of the newest hallmark record (R362). -/
def loadOffsets (s : State) : State := if rd s E.mem_MEM_STATE = 2 then { s with memc := { s.memc with offsets := (plan s).dram } } else s

/-- BOOT_START: boot begins from a reset, or again after a trusted image has been verified (R451); a trial open-world image that waits
completes step 6. DEDUCED: log 173. -/
def bootStart (s : State) : State :=
  if s.boot.held ∨ (s.boot.step = 0 ∧ s.boot.failure = 0) then bootSteps s
  else if s.boot.step = 5 ∧ lktState s = 1 then dictionaryUp s
  else s

/-- TRIAL_IMAGE_FAIL: the trial slot is rejected and the device resets (R450). -/
def trialFail (s : State) : State :=
  let reject := fun (i : Nat) => setImg s i { imgOf s i with trial := false, rejected := true }
  if s.boot.held ∨ s.boot.step < 2 ∨ 6 ≤ s.boot.step then s
  else if lktState s = 3 ∧ (imgOf s s.flash.trusted).trial then deviceReset (reject s.flash.trusted) 0x31
  else if s.boot.step = 5 ∧ (imgOf s s.flash.open_).trial then deviceReset (reject s.flash.open_) 0x30
  else s

/-! ### Pins (R458, R474) -/

/-- TAFE_SUPPLY_LOW: every enabled panel stops; it starts again under R280 once VDD_TAFE is back. DEDUCED: log 178. -/
def tafeLow (s : State) : State :=
  ((List.range 4).filter (fun p => panelEnabled s p && panelState s p != 0)).foldl (fun t p =>
    let u := stopPanel t p 5
    emcy (setTouch u p { touchOf u p with phase := 4 }) 0x5030 (engineOf p 0) 0xFFFF) s

/-! ### Meanings -/

/-- POWER_ON_RESET: it replaces any other cause. -/
def execPowerOnReset (s : State) : Host.Outcome State Fault Refusal := .next (deviceReset s 1)
/-- RESET_N: held low for 1 µs; the pin is low until boot starts. DEDUCED: log 177. -/
def execResetN (s : State) : Host.Outcome State Fault Refusal :=
  .next (resetBy { s with boot := { s.boot with resetN := true } } 2 id)
/-- ESC_RESET_SEQUENCE: the bytes 0x52, 0x45, 0x53 in a row reset the device; others do not (R96). DEDUCED: log 80. -/
def execEscResetSequence (b0 b1 b2 : Byte) (s : State) : Host.Outcome State Fault Refusal :=
  .next (if b0 = 0x52 ∧ b1 = 0x45 ∧ b2 = 0x53 then resetBy s 3 id else s)
/-- SUPPLY_RESET. -/
def execSupplyReset (r : Rail) (samples : List Nat) (s : State) : Host.Outcome State Fault Refusal := .next (supplyReset s r.val samples)
/-- THERMAL_TRIP. -/
def execThermalTrip (n : Sensor) (temp : Int) (s : State) : Host.Outcome State Fault Refusal := .next (thermalTrip s n.val temp)
/-- BOOT_START. -/
def execBootStart (s : State) : Host.Outcome State Fault Refusal := .next (bootStart s)
/-- TRAIN_DONE: training ends, having failed on the channels of `failed`; it adds the delay offsets of the newest hallmark record
(R362). At boot the next steps follow. -/
def execTrainDone (failed : BitVec 8) (s : State) : Host.Outcome State Fault Refusal :=
  .next (if rd s E.mem_MEM_STATE = 1 then bootOn (loadOffsets (trainEnd s failed.toNat)) else s)
/-- LKT_RESUMED: boot steps that waited go on (R452). -/
def execLktResumed (s : State) : Host.Outcome State Fault Refusal := .next (bootOn (lktResumed s))
/-- TRIAL_IMAGE_FAIL. -/
def execTrialImageFail (s : State) : Host.Outcome State Fault Refusal := .next (trialFail s)
/-- TAFE_SUPPLY_LOW. -/
def execTafeSupplyLow (s : State) : Host.Outcome State Fault Refusal := .next (tafeLow s)
/-- JTAG_TAP_RESET: TRST_N low. -/
def execJtagTapReset (s : State) : Host.Outcome State Fault Refusal :=
  .next { s with locket := { s.locket with tap := {} } }

end Sys2Proof.Machine
end

