-- ==== Sys2Proof/Machine/Dispatch.lean ====
section
/-! DEFINITION. One arm for each command: a direct call of its meaning. -/

namespace Sys2Proof.Machine

/-- The effect of a command on everything but the queue of waiting commands. -/
def exec (i : Instr) (s : State) : Host.Outcome State Fault Refusal :=
  match i with
  | .pcieConfigRequest f req => Sys2Proof.Machine.execPcieConfigRequest f req s
  | .numvfsWrite n => Sys2Proof.Machine.execNumvfsWrite n s
  | .functionLevelReset f => Sys2Proof.Machine.execFunctionLevelReset f s
  | .carveOutZeroed f => Sys2Proof.Machine.execCarveOutZeroed f s
  | .bar4Read f off len => Sys2Proof.Machine.execBar4Read f off len s
  | .bar4Write f off bytes => Sys2Proof.Machine.execBar4Write f off bytes s
  | .violationLogged => Sys2Proof.Machine.execViolationLogged s
  | .violationRingClear who v => Sys2Proof.Machine.execViolationRingClear who v s
  | .charmsWrite who g off bytes => Sys2Proof.Machine.execCharmsWrite who g off bytes s
  | .resetClient who g v => Sys2Proof.Machine.execResetClient who g v s
  | .clientResetDone g => Sys2Proof.Machine.execClientResetDone g s
  | .arbiterDecision a => Sys2Proof.Machine.execArbiterDecision a s
  | .budgetWindowEnd ch => Sys2Proof.Machine.execBudgetWindowEnd ch s
  | .claspGo f c => Sys2Proof.Machine.execClaspGo f c s
  | .claspWrite f c off bytes => Sys2Proof.Machine.execClaspWrite f c off bytes s
  | .stage1Refusal c => Sys2Proof.Machine.execStage1Refusal c s
  | .claspTake => Sys2Proof.Machine.execClaspTake s
  | .claspComplete c => Sys2Proof.Machine.execClaspComplete c s
  | .msixUnmask f v => Sys2Proof.Machine.execMsixUnmask f v s
  | .resultHeaderRead f c off enabled => Sys2Proof.Machine.execResultHeaderRead f c off enabled s
  | .discardsRead f c => Sys2Proof.Machine.execDiscardsRead f c s
  | .eventClear f c bits => Sys2Proof.Machine.execEventClear f c bits s
  | .claspModeWrite f c w => Sys2Proof.Machine.execClaspModeWrite f c w s
  | .dqPush f c w => Sys2Proof.Machine.execDqPush f c w s
  | .dqPop f c => Sys2Proof.Machine.execDqPop f c s
  | .delbelResponse c => Sys2Proof.Machine.execDelbelResponse c s
  | .nop c => Sys2Proof.Machine.execNop c s
  | .identify c => Sys2Proof.Machine.execIdentify c s
  | .echo c => Sys2Proof.Machine.execEcho c s
  | .internalClaspGo k words => Sys2Proof.Machine.execInternalClaspGo k words s
  | .internalClaspTake k => Sys2Proof.Machine.execInternalClaspTake k s
  | .dictPortRead f => Sys2Proof.Machine.execDictPortRead f s
  | .dictPortWrite f => Sys2Proof.Machine.execDictPortWrite f s
  | .dictPortDone f => Sys2Proof.Machine.execDictPortDone f s
  | .portDiscardsRead f off enabled => Sys2Proof.Machine.execPortDiscardsRead f off enabled s
  | .registerWrite t => Sys2Proof.Machine.execRegisterWrite t s
  | .sdoDownload p idx sub bytes => Sys2Proof.Machine.execSdoDownload p idx sub bytes s
  | .sdoUpload p idx sub => Sys2Proof.Machine.execSdoUpload p idx sub s
  | .commit who => Sys2Proof.Machine.execCommit who s
  | .checkOnly who => Sys2Proof.Machine.execCheckOnly who s
  | .discard who => Sys2Proof.Machine.execDiscard who s
  | .commitStart => Sys2Proof.Machine.execCommitStart s
  | .commitChecksEnd => Sys2Proof.Machine.execCommitChecksEnd s
  | .entryTakesEffect idx sub => Sys2Proof.Machine.execEntryTakesEffect idx sub s
  | .commitDone => Sys2Proof.Machine.execCommitDone s
  | .storeAll who => Sys2Proof.Machine.execStoreAll who s
  | .storeComm who => Sys2Proof.Machine.execStoreComm who s
  | .storeApp who => Sys2Proof.Machine.execStoreApp who s
  | .restoreAll who => Sys2Proof.Machine.execRestoreAll who s
  | .restoreComm who => Sys2Proof.Machine.execRestoreComm who s
  | .restoreApp who => Sys2Proof.Machine.execRestoreApp who s
  | .storeDone => Sys2Proof.Machine.execStoreDone s
  | .imageWrite who off bytes => Sys2Proof.Machine.execImageWrite who off bytes s
  | .imageCheck who => Sys2Proof.Machine.execImageCheck who s
  | .imageCommit who => Sys2Proof.Machine.execImageCommit who s
  | .imageCommitStore who => Sys2Proof.Machine.execImageCommitStore who s
  | .imageActionEnd => Sys2Proof.Machine.execImageActionEnd s
  | .errorHistoryClear who => Sys2Proof.Machine.execErrorHistoryClear who s
  | .alStateRequest st => Sys2Proof.Machine.execAlStateRequest st s
  | .alStateConfirm => Sys2Proof.Machine.execAlStateConfirm s
  | .sm2WatchdogExpiry => Sys2Proof.Machine.execSm2WatchdogExpiry s
  | .escResetSequence b0 b1 b2 => Sys2Proof.Machine.execEscResetSequence b0 b1 b2 s
  | .miiLinkChange port up => Sys2Proof.Machine.execMiiLinkChange port up s
  | .sync0 t => Sys2Proof.Machine.execSync0 t s
  | .sm2BufferComplete bytes => Sys2Proof.Machine.execSm2BufferComplete bytes s
  | .freeRunOutputTake => Sys2Proof.Machine.execFreeRunOutputTake s
  | .alarmTimeout => Sys2Proof.Machine.execAlarmTimeout s
  | .sync0Stamp t => Sys2Proof.Machine.execSync0Stamp t s
  | .nmtStart n => Sys2Proof.Machine.execNmtStart n s
  | .nmtStop n => Sys2Proof.Machine.execNmtStop n s
  | .nmtEnterPreop n => Sys2Proof.Machine.execNmtEnterPreop n s
  | .nmtResetNode n => Sys2Proof.Machine.execNmtResetNode n s
  | .nmtResetComm n => Sys2Proof.Machine.execNmtResetComm n s
  | .heartbeat n => Sys2Proof.Machine.execHeartbeat n s
  | .canSync n => Sys2Proof.Machine.execCanSync n s
  | .rpdoReceive n r bytes => Sys2Proof.Machine.execRpdoReceive n r bytes s
  | .tpdoTransmit n t timer => Sys2Proof.Machine.execTpdoTransmit n t timer s
  | .canBusOffRecovered n => Sys2Proof.Machine.execCanBusOffRecovered n s
  | .canErrorPassive n => Sys2Proof.Machine.execCanErrorPassive n s
  | .canOverrun n => Sys2Proof.Machine.execCanOverrun n s
  | .emcySend => Sys2Proof.Machine.execEmcySend s
  | .foeWriteDict known pw bytes => Sys2Proof.Machine.execFoeWriteDict known pw bytes s
  | .foeReadStored known pw => Sys2Proof.Machine.execFoeReadStored known pw s
  | .foeReadHallmark pw => Sys2Proof.Machine.execFoeReadHallmark pw s
  | .foeWriteOpenImage pw bytes => Sys2Proof.Machine.execFoeWriteOpenImage pw bytes s
  | .foeWriteTrustedImage pw bytes => Sys2Proof.Machine.execFoeWriteTrustedImage pw bytes s
  | .foeBusy => Sys2Proof.Machine.execFoeBusy s
  | .firmwareVerified => Sys2Proof.Machine.execFirmwareVerified s
  | .ctxCreate c => Sys2Proof.Machine.execCtxCreate c s
  | .ctxDestroy c => Sys2Proof.Machine.execCtxDestroy c s
  | .submit c => Sys2Proof.Machine.execSubmit c s
  | .query c => Sys2Proof.Machine.execQuery c s
  | .cctxCreate c => Sys2Proof.Machine.execCctxCreate c s
  | .cctxDestroy c => Sys2Proof.Machine.execCctxDestroy c s
  | .dispatch c => Sys2Proof.Machine.execDispatch c s
  | .cquery c => Sys2Proof.Machine.execCquery c s
  | .contextRemoved k kind => Sys2Proof.Machine.execContextRemoved k kind s
  | .corePickUnit core => Sys2Proof.Machine.execCorePickUnit core s
  | .binningEnd k => Sys2Proof.Machine.execBinningEnd k s
  | .partialStart k => Sys2Proof.Machine.execPartialStart k s
  | .partialDone k => Sys2Proof.Machine.execPartialDone k s
  | .tileDispatch k core => Sys2Proof.Machine.execTileDispatch k core s
  | .tileReload core tile => Sys2Proof.Machine.execTileReload core tile s
  | .tilePassEnd core tile => Sys2Proof.Machine.execTilePassEnd core tile s
  | .flushAcknowledged k tile => Sys2Proof.Machine.execFlushAcknowledged k tile s
  | .renderDone k => Sys2Proof.Machine.execRenderDone k s
  | .fenceSignal k kind => Sys2Proof.Machine.execFenceSignal k kind s
  | .pxLd core h w => Sys2Proof.Machine.execPxLd core h w s
  | .pxSt core h w => Sys2Proof.Machine.execPxSt core h w s
  | .pxRel core h w => Sys2Proof.Machine.execPxRel core h w s
  | .pxKill core h w => Sys2Proof.Machine.execPxKill core h w s
  | .pixelInterlockGrant core h cycles => Sys2Proof.Machine.execPixelInterlockGrant core h cycles s
  | .hartEcall core h => Sys2Proof.Machine.execHartEcall core h s
  | .ebreak core h pc => Sys2Proof.Machine.execEbreak core h pc s
  | .ctxFault why => Sys2Proof.Machine.execCtxFault why s
  | .tileEccError core slot double => Sys2Proof.Machine.execTileEccError core slot double s
  | .quadDrained q => Sys2Proof.Machine.execQuadDrained q s
  | .workgroupEnd core => Sys2Proof.Machine.execWorkgroupEnd core s
  | .workgroupYield core => Sys2Proof.Machine.execWorkgroupYield core s
  | .wgSaved core => Sys2Proof.Machine.execWgSaved core s
  | .workgroupRestored core => Sys2Proof.Machine.execWorkgroupRestored core s
  | .tileOverrun core => Sys2Proof.Machine.execTileOverrun core s
  | .governorEvaluate h latch => Sys2Proof.Machine.execGovernorEvaluate h latch s
  | .flip c => Sys2Proof.Machine.execFlip c s
  | .flipGroup c => Sys2Proof.Machine.execFlipGroup c s
  | .motion c => Sys2Proof.Machine.execMotion c s
  | .release c => Sys2Proof.Machine.execRelease c s
  | .flipStatus c => Sys2Proof.Machine.execFlipStatus c s
  | .directAddrWrite who h f sub bytes => Sys2Proof.Machine.execDirectAddrWrite who h f sub bytes s
  | .wbStart c => Sys2Proof.Machine.execWbStart c s
  | .wbStop c => Sys2Proof.Machine.execWbStop c s
  | .wbFrame h => Sys2Proof.Machine.execWbFrame h s
  | .headLineStart h late wbFull => Sys2Proof.Machine.execHeadLineStart h late wbFull s
  | .lineFetchComplete h => Sys2Proof.Machine.execLineFetchComplete h s
  | .headLatch h => Sys2Proof.Machine.execHeadLatch h s
  | .headFrame h => Sys2Proof.Machine.execHeadFrame h s
  | .headVblank h => Sys2Proof.Machine.execHeadVblank h s
  | .teEdge pin falling => Sys2Proof.Machine.execTeEdge pin falling s
  | .teTimeout h => Sys2Proof.Machine.execTeTimeout h s
  | .timingChangeImmediate h => Sys2Proof.Machine.execTimingChangeImmediate h s
  | .timingChangeClean h => Sys2Proof.Machine.execTimingChangeClean h s
  | .headEnable h => Sys2Proof.Machine.execHeadEnable h s
  | .headDisable h => Sys2Proof.Machine.execHeadDisable h s
  | .routeChange h => Sys2Proof.Machine.execRouteChange h s
  | .lockStampTimeout h => Sys2Proof.Machine.execLockStampTimeout h s
  | .portBringupStart p => Sys2Proof.Machine.execPortBringupStart p s
  | .hpdStable p => Sys2Proof.Machine.execHpdStable p s
  | .portReady p => Sys2Proof.Machine.execPortReady p s
  | .portLinkFail p => Sys2Proof.Machine.execPortLinkFail p s
  | .portRetry p => Sys2Proof.Machine.execPortRetry p s
  | .hpdLow p => Sys2Proof.Machine.execHpdLow p s
  | .irqHpd p lost => Sys2Proof.Machine.execIrqHpd p lost s
  | .linkStatusPoll p lost => Sys2Proof.Machine.execLinkStatusPoll p lost s
  | .csiFrameStart r vc num hdr => Sys2Proof.Machine.execCsiFrameStart r vc num hdr s
  | .csiLinePacket r vc dt bytes crcOk hdr => Sys2Proof.Machine.execCsiLinePacket r vc dt bytes crcOk hdr s
  | .csiFrameEnd r vc num hdr => Sys2Proof.Machine.execCsiFrameEnd r vc num hdr s
  | .csiPacketGap r => Sys2Proof.Machine.execCsiPacketGap r s
  | .camOpen c => Sys2Proof.Machine.execCamOpen c s
  | .camClose c => Sys2Proof.Machine.execCamClose c s
  | .camAttach c => Sys2Proof.Machine.execCamAttach c s
  | .camDetach c => Sys2Proof.Machine.execCamDetach c s
  | .camQuery c => Sys2Proof.Machine.execCamQuery c s
  | .camLossTimeout r => Sys2Proof.Machine.execCamLossTimeout r s
  | .presentation h p => Sys2Proof.Machine.execPresentation h p s
  | .ackHoldReached p contact => Sys2Proof.Machine.execAckHoldReached p contact s
  | .regionCompare h region => Sys2Proof.Machine.execRegionCompare h region s
  | .cvAcquire c => Sys2Proof.Machine.execCvAcquire c s
  | .cvRun c => Sys2Proof.Machine.execCvRun c s
  | .cvRelease c => Sys2Proof.Machine.execCvRelease c s
  | .cvComputationEnd u => Sys2Proof.Machine.execCvComputationEnd u s
  | .touchScanStart p => Sys2Proof.Machine.execTouchScanStart p s
  | .touchStepEnd p samples => Sys2Proof.Machine.execTouchStepEnd p samples s
  | .touchReport p => Sys2Proof.Machine.execTouchReport p s
  | .panelStart p => Sys2Proof.Machine.execPanelStart p s
  | .referenceTestDone p results => Sys2Proof.Machine.execReferenceTestDone p results s
  | .startVerifyTimeout p => Sys2Proof.Machine.execStartVerifyTimeout p s
  | .selftest who p => Sys2Proof.Machine.execSelftest who p s
  | .capture who p => Sys2Proof.Machine.execCapture who p s
  | .captureDone p => Sys2Proof.Machine.execCaptureDone p s
  | .touchBacklogDelivery p => Sys2Proof.Machine.execTouchBacklogDelivery p s
  | .touchSubscribe c => Sys2Proof.Machine.execTouchSubscribe c s
  | .touchUnsubscribe c => Sys2Proof.Machine.execTouchUnsubscribe c s
  | .touchQuery c => Sys2Proof.Machine.execTouchQuery c s
  | .touchIclApply p => Sys2Proof.Machine.execTouchIclApply p s
  | .touchIclSelftest p => Sys2Proof.Machine.execTouchIclSelftest p s
  | .touchIclCapture p => Sys2Proof.Machine.execTouchIclCapture p s
  | .touchIclSubscribe p => Sys2Proof.Machine.execTouchIclSubscribe p s
  | .touchIclUnsubscribe p => Sys2Proof.Machine.execTouchIclUnsubscribe p s
  | .tafeSupplyLow => Sys2Proof.Machine.execTafeSupplyLow s
  | .hapticTrigger c => Sys2Proof.Machine.execHapticTrigger c s
  | .hapticStop c => Sys2Proof.Machine.execHapticStop c s
  | .hapticQuery c => Sys2Proof.Machine.execHapticQuery c s
  | .hapIclTrigger => Sys2Proof.Machine.execHapIclTrigger s
  | .hapIclCalibrate => Sys2Proof.Machine.execHapIclCalibrate s
  | .hapIclStop => Sys2Proof.Machine.execHapIclStop s
  | .hapIclApply => Sys2Proof.Machine.execHapIclApply s
  | .calibrate who n => Sys2Proof.Machine.execCalibrate who n s
  | .calibrationEnd n results => Sys2Proof.Machine.execCalibrationEnd n results s
  | .attackEnd n => Sys2Proof.Machine.execAttackEnd n s
  | .sustainEnd n rNow => Sys2Proof.Machine.execSustainEnd n rNow s
  | .brakingEnd n why => Sys2Proof.Machine.execBrakingEnd n why s
  | .gapEnd n => Sys2Proof.Machine.execGapEnd n s
  | .hapOvercurrent n => Sys2Proof.Machine.execHapOvercurrent n s
  | .accRead n sample => Sys2Proof.Machine.execAccRead n sample s
  | .audioSampleTick d pdm => Sys2Proof.Machine.execAudioSampleTick d pdm s
  | .busSilenceHoldExpiry b => Sys2Proof.Machine.execBusSilenceHoldExpiry b s
  | .audioApply n => Sys2Proof.Machine.execAudioApply n s
  | .audioIclStream n => Sys2Proof.Machine.execAudioIclStream n s
  | .tdmFrameSync n samples pdm => Sys2Proof.Machine.execTdmFrameSync n samples pdm s
  | .tdmFrameMissing n => Sys2Proof.Machine.execTdmFrameMissing n s
  | .refPhaseMatch d slip => Sys2Proof.Machine.execRefPhaseMatch d slip s
  | .asrcLocked k ratio => Sys2Proof.Machine.execAsrcLocked k ratio s
  | .streamOpen c => Sys2Proof.Machine.execStreamOpen c s
  | .streamClose c => Sys2Proof.Machine.execStreamClose c s
  | .streamQuery c => Sys2Proof.Machine.execStreamQuery c s
  | .streamPeriodBoundary n => Sys2Proof.Machine.execStreamPeriodBoundary n s
  | .dramReadRequest r => Sys2Proof.Machine.execDramReadRequest r s
  | .dramWriteRequest r bytes => Sys2Proof.Machine.execDramWriteRequest r bytes s
  | .dramCommandSlot ch err syndrome => Sys2Proof.Machine.execDramCommandSlot ch err syndrome s
  | .refreshAccrual ch rank => Sys2Proof.Machine.execRefreshAccrual ch rank s
  | .mr4Read ch rank asks drifted => Sys2Proof.Machine.execMr4Read ch rank asks drifted s
  | .powerDownEntry ch rank => Sys2Proof.Machine.execPowerDownEntry ch rank s
  | .memSrEnter ch => Sys2Proof.Machine.execMemSrEnter ch s
  | .memSrExit ch => Sys2Proof.Machine.execMemSrExit ch s
  | .trainDone failed => Sys2Proof.Machine.execTrainDone failed s
  | .scrubPass => Sys2Proof.Machine.execScrubPass s
  | .memLogClear who v => Sys2Proof.Machine.execMemLogClear who v s
  | .trustedVersionCall cc => Sys2Proof.Machine.execTrustedVersionCall cc s
  | .result cc ticket => Sys2Proof.Machine.execResult cc ticket s
  | .ownAssign cc block owner => Sys2Proof.Machine.execOwnAssign cc block owner s
  | .ownQuery cc block => Sys2Proof.Machine.execOwnQuery cc block s
  | .camNotice cc receiver mask => Sys2Proof.Machine.execCamNotice cc receiver mask s
  | .flashWrite cc region off phys len => Sys2Proof.Machine.execFlashWrite cc region off phys len s
  | .flashRead cc region off phys len => Sys2Proof.Machine.execFlashRead cc region off phys len s
  | .imageVerify cc kind slot => Sys2Proof.Machine.execImageVerify cc kind slot s
  | .signet cc nonce out => Sys2Proof.Machine.execSignet cc nonce out s
  | .cert cc out len => Sys2Proof.Machine.execCert cc out len s
  | .debugUnlock cc addr => Sys2Proof.Machine.execDebugUnlock cc addr s
  | .debugLock cc mask => Sys2Proof.Machine.execDebugLock cc mask s
  | .debugKey cc addr => Sys2Proof.Machine.execDebugKey cc addr s
  | .lktDone => Sys2Proof.Machine.execLktDone s
  | .trustedDictRead idx sub => Sys2Proof.Machine.execTrustedDictRead idx sub s
  | .trustedDictWrite idx sub bytes => Sys2Proof.Machine.execTrustedDictWrite idx sub bytes s
  | .trustedDictCommit => Sys2Proof.Machine.execTrustedDictCommit s
  | .tctx n create desc => Sys2Proof.Machine.execTctx n create desc s
  | .tsubmit n record => Sys2Proof.Machine.execTsubmit n record s
  | .handoverRelease block => Sys2Proof.Machine.execHandoverRelease block s
  | .handoverGrant block => Sys2Proof.Machine.execHandoverGrant block s
  | .clockPowerRequest req => Sys2Proof.Machine.execClockPowerRequest req s
  | .watchdogService => Sys2Proof.Machine.execWatchdogService s
  | .lktRestart => Sys2Proof.Machine.execLktRestart s
  | .lktResumed => Sys2Proof.Machine.execLktResumed s
  | .failedSeriesReset => Sys2Proof.Machine.execFailedSeriesReset s
  | .unlockMaskWrite who v => Sys2Proof.Machine.execUnlockMaskWrite who v s
  | .unlockResponseWrite who bytes => Sys2Proof.Machine.execUnlockResponseWrite who bytes s
  | .unlockVerified => Sys2Proof.Machine.execUnlockVerified s
  | .nonceWrite who bytes => Sys2Proof.Machine.execNonceWrite who bytes s
  | .signetReady => Sys2Proof.Machine.execSignetReady s
  | .debugHaltRequest t => Sys2Proof.Machine.execDebugHaltRequest t s
  | .jtagExtest pins => Sys2Proof.Machine.execJtagExtest pins s
  | .jtagIdcode => Sys2Proof.Machine.execJtagIdcode s
  | .jtagSamplePreload pins => Sys2Proof.Machine.execJtagSamplePreload pins s
  | .jtagExtestPulse pins => Sys2Proof.Machine.execJtagExtestPulse pins s
  | .jtagExtestTrain pins => Sys2Proof.Machine.execJtagExtestTrain pins s
  | .jtagDtmcs shift => Sys2Proof.Machine.execJtagDtmcs shift s
  | .jtagDmi shift => Sys2Proof.Machine.execJtagDmi shift s
  | .jtagLoupeMbox shift => Sys2Proof.Machine.execJtagLoupeMbox shift s
  | .jtagBypass ir => Sys2Proof.Machine.execJtagBypass ir s
  | .linkBeat x side v dest trusted accepted => Sys2Proof.Machine.execLinkBeat x side v dest trusted accepted s
  | .flagEvent x side f => Sys2Proof.Machine.execFlagEvent x side f s
  | .valueWrite x side v => Sys2Proof.Machine.execValueWrite x side v s
  | .valueCapture x side => Sys2Proof.Machine.execValueCapture x side s
  | .valueAcknowledge x side write => Sys2Proof.Machine.execValueAcknowledge x side write s
  | .xingTimeout x side => Sys2Proof.Machine.execXingTimeout x side s
  | .xingClockResumed x => Sys2Proof.Machine.execXingClockResumed x s
  | .islandResetRequest k xing => Sys2Proof.Machine.execIslandResetRequest k xing s
  | .xingNotice x side => Sys2Proof.Machine.execXingNotice x side s
  | .xingRejoin x => Sys2Proof.Machine.execXingRejoin x s
  | .perstN => Sys2Proof.Machine.execPerstN s
  | .xingLogClear who v => Sys2Proof.Machine.execXingLogClear who v s
  | .domainIdleExpiry d => Sys2Proof.Machine.execDomainIdleExpiry d s
  | .domainOff d => Sys2Proof.Machine.execDomainOff d s
  | .wakeEvent d src => Sys2Proof.Machine.execWakeEvent d src s
  | .domainOn d => Sys2Proof.Machine.execDomainOn d s
  | .deepSleep who => Sys2Proof.Machine.execDeepSleep who s
  | .deepSleepExit src => Sys2Proof.Machine.execDeepSleepExit src s
  | .supplyWarn r samples => Sys2Proof.Machine.execSupplyWarn r samples s
  | .supplyWarningEnd r mv => Sys2Proof.Machine.execSupplyWarningEnd r mv s
  | .supplyReset r samples => Sys2Proof.Machine.execSupplyReset r samples s
  | .thermalSample temps => Sys2Proof.Machine.execThermalSample temps s
  | .throttleStep => Sys2Proof.Machine.execThrottleStep s
  | .throttleRaise => Sys2Proof.Machine.execThrottleRaise s
  | .thermalTrip n temp => Sys2Proof.Machine.execThermalTrip n temp s
  | .tedHit k => Sys2Proof.Machine.execTedHit k s
  | .hoursTick => Sys2Proof.Machine.execHoursTick s
  | .hoursPersist => Sys2Proof.Machine.execHoursPersist s
  | .epochNow who => Sys2Proof.Machine.execEpochNow who s
  | .maintWindow who n => Sys2Proof.Machine.execMaintWindow who n s
  | .maintWindowClose => Sys2Proof.Machine.execMaintWindowClose s
  | .epochStart => Sys2Proof.Machine.execEpochStart s
  | .epochDone meas => Sys2Proof.Machine.execEpochDone meas s
  | .avsWrite acked => Sys2Proof.Machine.execAvsWrite acked s
  | .supplyLogClear who v => Sys2Proof.Machine.execSupplyLogClear who v s
  | .powerOnReset => Sys2Proof.Machine.execPowerOnReset s
  | .resetN => Sys2Proof.Machine.execResetN s
  | .bootStart => Sys2Proof.Machine.execBootStart s
  | .trialImageFail => Sys2Proof.Machine.execTrialImageFail s
  | .canBusOff n => Sys2Proof.Machine.execCanBusOff n s
  | .canErrorPassiveEnd n => Sys2Proof.Machine.execCanErrorPassiveEnd n s
  | .audMclkbClockChange on => Sys2Proof.Machine.execAudMclkbClockChange on s
  | .islandResetRelease k => Sys2Proof.Machine.execIslandResetRelease k s
  | .islandClockStable k => Sys2Proof.Machine.execIslandClockStable k s
  | .deepSleepEntered => Sys2Proof.Machine.execDeepSleepEntered s
  | .siiAliasWrite addr v => Sys2Proof.Machine.execSiiAliasWrite addr v s
  | .jtagTapReset => Sys2Proof.Machine.execJtagTapReset s

end Sys2Proof.Machine
end

