-- ==== Sys2Proof/Safety.lean ====
section
/-! DEFINITION. What holds of every state that the block can be in, and which parts of the state a command can change, in the
terms the claims use. -/

namespace Sys2Proof.Machine

/-- The dictionary, its DOMAINs and the DRAM are in canonical form: keys strictly rising, and no entry equal to what an unlisted key
reads as. Equal contents are then equal data. -/
def Memory.wf (s : State) : Bool := twf odDefault s.od && twf domDefault s.dom && twf memDefault s.mem

/-- The EtherCAT state is one of INIT, PREOP, BOOT, SAFEOP and OP (R98). -/
def legalAl (s : State) : Bool := s.field.al == 1 || s.field.al == 2 || s.field.al == 3 || s.field.al == 4 || s.field.al == 8

/-- The invariant of the block. -/
def Inv (s : State) : Prop := Memory.wf s = true ∧ legalAl s = true

/-- The parts of the state, one for each field but the queue of waiting commands. -/
inductive Part where
  | time | free | out | fwQueue | od | dom | mem | ten | clasp | dict | field | raster | compose | heads | ports | cameo
  | touch | hap | audio | memc | control | locket | flash | isl | power | boot
  deriving DecidableEq, Repr

/-- A part is in `t` as it was in `s`. -/
def samePart (p : Part) (s t : State) : Prop :=
  match p with
  | .time => t.time = s.time
  | .free => t.free = s.free
  | .out => t.out = s.out
  | .fwQueue => t.fwQueue = s.fwQueue
  | .od => t.od = s.od
  | .dom => t.dom = s.dom
  | .mem => t.mem = s.mem
  | .ten => t.ten = s.ten
  | .clasp => t.clasp = s.clasp
  | .dict => t.dict = s.dict
  | .field => t.field = s.field
  | .raster => t.raster = s.raster
  | .compose => t.compose = s.compose
  | .heads => t.heads = s.heads
  | .ports => t.ports = s.ports
  | .cameo => t.cameo = s.cameo
  | .touch => t.touch = s.touch
  | .hap => t.hap = s.hap
  | .audio => t.audio = s.audio
  | .memc => t.memc = s.memc
  | .control => t.control = s.control
  | .locket => t.locket = s.locket
  | .flash => t.flash = s.flash
  | .isl => t.isl = s.isl
  | .power => t.power = s.power
  | .boot => t.boot = s.boot

/-- Nothing outside the listed parts differs between `s` and `t`. -/
def changesOnly (ps : List Part) (s t : State) : Prop := ∀ p, p ∉ ps → samePart p s t

/-- Client `c`'s request `q` is taken and not yet answered, and is of opcode `op` with `len` argument words and no flags. -/
def asks (s : State) (c op len : Nat) (q : Taken) : Bool :=
  (claspOf s c).taken == some q && q.op == op && q.len == len && q.flags == 0 && q.answer == none

/-- The state with a requester's dictionary command begun: a BAR2 port is busy with it (R68). -/
def begun (s : State) (who : Requester) : State :=
  match who with
  | .bar2 f _ => portBusy s f.val
  | _ => s

/-- A requester's dictionary access is served at once: the dictionary is up, PD2 is on, and the requester's path is open (the field
network's over CoE). The image loader makes no access from outside. -/
def reaches (s : State) (who : Requester) : Bool :=
  decide (6 ≤ s.boot.step) && pdOn s 2 &&
    (match who with
     | .field => s.power.sleep == 0 && sdoOpen s 0
     | .bar2 f c => serving s f.val && !(portRec s f.val).busy && !clientStranger s (.bar2 f c)
     | .trusted => lktState s == 1
     | .image => false)

/-- The part of a value that a requester names: only a BAR2 port names one (R68). -/
def partOf (who : Requester) (off n : Nat) : Option (Nat × Nat) :=
  match who with
  | .bar2 _ _ => some (off, n)
  | _ => none

/-- A requester's write of `bytes` at `off` of an entry is served at once and accepted (R77); the entry's whole value becomes `v`. -/
def accepts (s : State) (who : Requester) (k off : Nat) (bytes v : List Byte) : Bool :=
  reaches s who && decide (0 < bytes.length ∧ bytes.length ≤ 4096) && ((partOf who off 1).isSome || off == 0) &&
    (denial (begun s who) who true (k / 256) (k % 256)).isNone &&
    (match findEntry (k / 256) (k % 256) with
     | some f => (match judge (begun s who) who f k (partOf who off bytes.length) bytes with | .ok w => w == v | .error _ => false)
     | none => false)

/-- `t` with the answer of an accepted write on its requester's path. -/
def acknowledged (t : State) (who : Requester) (k off : Nat) (bytes : List Byte) : State :=
  answerAccess t { who := who, write := true, idx := k / 256, sub := k % 256, part := partOf who off bytes.length, bytes := bytes } 0 []

/-- The entries not in the list read in `t` as in `s`. -/
def entriesKept (ks : List Nat) (s t : State) : Prop := ∀ k, k ∉ ks → rd t k = rd s k

/-- A control core runs and the trusted world answers its gate calls (R373). -/
def calls (s : State) (cc : Nat) : Bool := pdOn s 2 && !s.locket.halted.contains cc && lktState s == 1

/-- The call `num` has joined the queue with the next ticket, which its caller is given as it leaves the gate; nothing else has changed
(R370, R376). -/
def ticketed (s : State) (cc num : Nat) (args : List Nat) : State :=
  gateReply { flushL1 s cc with locket := { (flushL1 s cc).locket with
      queue := s.locket.queue ++ [{ num := num, ticket := s.locket.nextTicket, core := cc, args := args }],
      nextTicket := if s.locket.nextTicket = 65535 then 1 else s.locket.nextTicket + 1 } } cc 0x200 s.locket.nextTicket

/-- What a device reset leaves (R444, R445): number entries at their reset values but OTP, the reset code, the Hallmark log and the
entries that a reset keeps; nothing written in DRAM; the boot at its start, held; the queue, the time and the flash as they were. -/
def afterReset (s t : State) (code : Nat) : Prop :=
  rd t E.glob_RESET_REASON = code ∧ rd t E.dbg_DEBUG_OTP = rd s E.dbg_DEBUG_OTP ∧ (∀ k ∈ keptKeys, rd t k = rd s k) ∧
    (∀ k, k ∉ keptKeys → k ≠ E.glob_RESET_REASON → k ≠ E.dbg_DEBUG_OTP → k / 256 ≠ 0x2130 → k / 256 ≠ 0x2131 →
      rd t k = odDefault k) ∧
    t.mem = [] ∧ t.dom = [] ∧ t.boot.held = true ∧ t.boot.heldAt = some s.time ∧ t.boot.step = 0 ∧ t.pending = s.pending ∧
    t.time = s.time ∧ t.flash = s.flash

/-- A DRAM request is made by a core, through its caches. -/
def byCore : DramWhy → Bool
  | .core .. => true
  | _ => false

/-- No refresh takes the slot of a channel. -/
def noRefresh (s : State) (ch : Nat) : Bool :=
  (List.range (rankCount s)).all (fun r => !allBankNow s (chanOf s ch) r && !perBankDue s ch r)

/-- A transaction is the channel's only one, its row is open and its column command may be issued. -/
def columnReady (s : State) (ch : Nat) (x : DramTx) : Bool :=
  decide (queued s ch = [x]) && x.waits.isEmpty && tget (fun _ => none) (chanOf s ch).rows (bankOf s x) == some (rowOf s x) &&
    columnOk s (chanOf s ch) (bankOf s x) && decide (tget (fun _ => 0) (chanOf s ch).hits (bankOf s x) < 16)

/-- A node whose communication has started anew (R95, R103). -/
def restarted (s t : State) (n : Nat) : Prop :=
  (canOf t n).enabled = bitOf (rd s E.comm_CAN_ENABLE) n ∧
    (canOf t n).nodeId = rd s (if n = 0 then E.comm_CAN0_NODE_ID else E.comm_CAN1_NODE_ID) ∧
    (canOf t n).nmt = (if bitOf (rd s E.comm_CAN_ENABLE) n then 127 else 0) ∧
    (canOf t n).sent = [] ∧ (canOf t n).held = [] ∧ (canOf t n).syncs = 0 ∧
    (bitOf (rd s E.comm_CAN_ENABLE) n = true → t.out = .msg (.can n) [0x700 + ((canOf t n).nodeId : Int)] [0] :: s.out)

/-- No entry of a list is signalled, and none names a failed fence. -/
def unsignalled (s : State) (c : Nat) (l : List FlipEntry) : Bool :=
  l.all (fun e => !entrySignalled s c e && !entryFailed s c e)

/-- A render context is faulted, and its fault is of this kind (R140, R141). -/
def renderFaulted (s : State) (k kind : Nat) : Bool :=
  match rctxOf s k with
  | some x => x.faulted && x.faultKind == kind
  | none => false

/-- The 64 bytes at a window address of a client, as one number: a render descriptor. -/
def descAt (s : State) (c a : Nat) : Nat := leVal (winRd s c a 64)

/-- The compute context that the 16 bytes at a window address describe (R149). -/
def computeDesc (s : State) (c a : Nat) : CCtx :=
  { level := fld (leVal (winRd s c a 16)) 0 2, allot := fld (leVal (winRd s c a 16)) 16 16,
    fenceAddr := fld (leVal (winRd s c a 16)) 32 32, saveAddr := fld (leVal (winRd s c a 16)) 64 32 }

/-- Its fields are in range: reserved bits 0, the fence 16-byte and the save area 64 KB aligned (R149). -/
def computeDescOk (s : State) (c a : Nat) : Bool :=
  fld (leVal (winRd s c a 16)) 2 14 == 0 && fld (leVal (winRd s c a 16)) 96 32 == 0 &&
    (computeDesc s c a).fenceAddr % 16 == 0 && (computeDesc s c a).saveAddr % 65536 == 0

/-- The hart shades group `g` of a context with attachments of `x`, is not halted, and the word is one its context may execute there
(R130). -/
def mayAccess (s : State) (n h w f3 : Nat) (key : Nat) (x : RCtx) (fence : Nat) (g : GroupRun) (o : PxOp) : Prop :=
  hartWork s n h = .group key x fence g ∧ g.waiting = none ∧ (hartOf (coreOf s n) h).halted = false ∧ fld w 12 3 = f3 ∧
    pxDecode x w = some o

/-- A head in command mode that scans. -/
def commanded (s : State) (h : Nat) : Bool := scanning s h && commandMode s h

/-- A camera line fits its frame: its length and its place are right. -/
def lineFits (s : State) (r : Nat) (fr : CamFrame) (bs : List Byte) : Bool :=
  decide (bs.length = linePayload s r) && decide (fr.lines < rd s (E.cam_HEIGHT r))

/-- The result of region `r` of a head's frame waits to be compared: value, expected value, frame, and whether one is expected. -/
def resultOf (s : State) (h r : Nat) : List Nat := tget (fun _ => []) (cameoOf s h).results r

/-- The mismatch run of a region. -/
def runOf (s : State) (h r : Nat) : Nat := tget (fun _ => 0) (cameoOf s h).runs r

/-- Client `c`'s request `q` is taken and not yet answered; the flags it sets are ones its opcode defines. -/
def asksF (s : State) (c op len mask : Nat) (q : Taken) : Bool :=
  (claspOf s c).taken == some q && q.op == op && q.len == len && Nat.land q.flags mask == q.flags && q.answer == none

/-- The internal clasp `n` holds a taken request of this opcode. -/
def iclAsks (s : State) (n op : Nat) (q : Taken) : Bool := (iclOf s n).taken == some q && q.op == op

/-- The request of internal clasp `n` has completed with this answer (R58, R64). -/
def iclDone (s t : State) (n : Nat) (a : Ans) : Prop :=
  (iclOf t n).taken = none ∧ (iclOf t n).state = 2 ∧ (iclOf t n).full = true ∧ (iclOf t n).code = a.code ∧
    (iclOf t n).kind = a.kind ∧ (iclOf t n).data = a.data ∧ (∀ m, m ≠ n → iclOf t m = iclOf s m)

/-- A client's haptic request names channel `n` with the word `w`, and stage 2 lets it pass (R307). -/
def mayTrigger (s : State) (c n w : Nat) : Bool :=
  decide (n < 16) && decide (w < 2 ^ 20) && !bitOf w 7 && hapRight s c n && rd s (E.hap_ENABLE n) != 0 &&
    rd s (E.hap_CAL_STATE n) != 3 && !(charmClass s c == 0 && alarmClass (trigOf w).effect)

/-- The measured values pass the tests of R305. -/
def calPasses (s : State) (n : Nat) (r : List Nat) : Bool :=
  decide (100 ≤ at0 0 r 0 ∧ 850 ≤ at0 0 r 1 ∧ at0 0 r 1 ≤ 3150 ∧ 100 ≤ at0 0 r 2 ∧ at0 0 r 2 ≤ 10000) &&
    !bitOf (rd s (E.hap_FLAGS n)) 1

/-- A STREAM_OPEN's geometry is one R331 allows. -/
def geometryFits (q : Taken) : Bool :=
  decide (argOf q 3 % 64 = 0 ∧ 16 ≤ argOf q 4 ∧ argOf q 4 ≤ 4800 ∧ 2 ≤ argOf q 5 ∧ argOf q 5 ≤ 64 ∧
    1 ≤ fld (argOf q 6) 8 8 ∧ fld (argOf q 6) 8 8 < argOf q 5)

/-- How many periods a stream's client has written beyond the index `i` of the device. -/
def ahead (s : State) (o : StreamOpen) (i : Nat) : Int := countDiff (winWord s o.client o.ring) i

/-- The slot of a core, with its record, in which a tile waits to be reloaded. -/
def waitingSlot (s : State) (n tl : Nat) : Option (Nat × SlotRec) :=
  (List.range 4).findSome? (fun i =>
    match slotOf (coreOf s n) i with
    | some r => if r.tile = tl ∧ r.waitReload then some (i, r) else none
    | none => none)

/-- The slot of a core, with its record, whose tile has no work left there. -/
def doneSlot (s : State) (n tl : Nat) : Option (Nat × SlotRec) :=
  (List.range 4).findSome? (fun i =>
    match slotOf (coreOf s n) i with
    | some r => if r.tile = tl ∧ slotDone (coreOf s n) i r then some (i, r) else none
    | none => none)

/-- The core `k` after a gate call with this status and value: nothing of the call is in its registers but a0 and a1, its L1 caches are
empty, its CSRs as they were, and the registers of the other cores too (R370, R371). -/
def scrubbed (s t : State) (k a0 a1 : Nat) : Prop :=
  tget (fun _ => 0) (cpuOf t k).x 10 = a0 % 2 ^ 64 ∧ tget (fun _ => 0) (cpuOf t k).x 11 = a1 % 2 ^ 64 ∧
    (∀ r, r ≠ 10 → r ≠ 11 → tget (fun _ => 0) (cpuOf t k).x r = 0) ∧ (cpuOf t k).f = [] ∧ (cpuOf t k).fcsr = 0 ∧
    (cpuOf t k).l1d = [] ∧ (cpuOf t k).l1i = [] ∧ (cpuOf t k).csr = (cpuOf s k).csr ∧
    (∀ j, j ≠ k → cpuOf t j = cpuOf s j)

/-- The parts of the state that a command may change; every other part it leaves as it was. -/
def mayChange (i : Instr) : List Part :=
  match i with
  | .pcieConfigRequest .. =>
    [.free, .out, .fwQueue, .od, .ten, .clasp, .raster, .compose, .heads, .ports, .cameo, .touch, .hap, .audio, .locket]
  | .numvfsWrite .. | .functionLevelReset .. =>
    [.out, .fwQueue, .od, .ten, .clasp, .raster, .compose, .heads, .ports, .cameo, .touch, .hap, .audio, .locket]
  | .carveOutZeroed .. =>
    [.od, .mem, .ten, .memc]
  | .bar4Read .. =>
    [.out, .od, .ten, .field]
  | .bar4Write .. =>
    [.od, .mem, .ten, .field, .memc]
  | .violationLogged .. | .clientResetDone .. =>
    [.od, .ten]
  | .violationRingClear .. | .charmsWrite .. | .resetClient .. | .dictPortRead .. | .dictPortWrite .. | .registerWrite ..
  | .sdoDownload .. | .sdoUpload .. | .commit .. | .checkOnly .. | .discard .. | .storeAll .. | .storeComm .. | .storeApp ..
  | .restoreAll .. | .restoreComm .. | .restoreApp .. | .imageWrite .. | .imageCheck .. | .imageCommit .. | .imageCommitStore ..
  | .errorHistoryClear .. | .foeWriteDict .. | .directAddrWrite .. | .selftest .. | .capture .. | .calibrate .. | .memLogClear ..
  | .trustedDictRead .. | .trustedDictWrite .. | .trustedDictCommit .. | .unlockMaskWrite .. | .unlockResponseWrite ..
  | .nonceWrite .. | .xingLogClear .. | .domainOn .. | .deepSleep .. | .epochNow .. | .maintWindow .. | .supplyLogClear .. =>
    [.free, .out, .fwQueue, .od, .dom, .ten, .clasp, .dict, .field, .raster, .compose, .heads, .ports, .cameo, .touch, .hap, .audio,
     .memc, .locket, .flash, .isl, .power]
  | .arbiterDecision .. =>
    [.od, .ten, .dict, .memc]
  | .budgetWindowEnd .. =>
    [.ten]
  | .claspGo .. | .claspWrite .. | .eventClear .. | .claspModeWrite .. | .dqPush .. =>
    [.out, .od, .ten, .clasp, .field, .raster, .ports, .power]
  | .stage1Refusal .. | .claspComplete .. | .msixUnmask .. | .delbelResponse .. | .dictPortDone .. | .portDiscardsRead .. =>
    [.out, .clasp, .ports]
  | .claspTake .. | .nop .. | .identify .. | .echo .. | .internalClaspTake .. | .query .. | .cquery .. =>
    [.clasp]
  | .resultHeaderRead .. | .discardsRead .. | .dqPop .. =>
    [.out, .clasp]
  | .internalClaspGo .. =>
    [.od, .clasp, .raster, .power]
  | .commitStart .. =>
    [.dict]
  | .commitChecksEnd .. | .commitDone .. =>
    [.out, .od, .clasp, .dict, .field, .ports, .flash, .boot]
  | .entryTakesEffect .. | .submit .. | .contextRemoved .. | .corePickUnit .. | .binningEnd .. | .partialStart .. | .partialDone ..
  | .tileDispatch .. | .tileReload .. | .tilePassEnd .. | .fenceSignal .. | .pxLd .. | .pxSt .. | .pxRel .. | .pxKill ..
  | .hartEcall .. | .ebreak .. | .ctxFault .. | .tileEccError .. | .wgSaved .. | .workgroupRestored .. | .tileOverrun ..
  | .tsubmit .. =>
    [.free, .out, .fwQueue, .od, .dom, .mem, .ten, .clasp, .dict, .field, .raster, .compose, .heads, .ports, .cameo, .touch, .hap,
     .audio, .memc, .locket, .flash, .isl, .power]
  | .storeDone .. =>
    [.out, .od, .clasp, .dict, .ports, .flash]
  | .imageActionEnd .. =>
    [.out, .od, .dict]
  | .alStateRequest .. | .tpdoTransmit .. =>
    [.out, .field]
  | .alStateConfirm .. | .nmtStart .. | .nmtStop .. | .nmtEnterPreop .. | .supplyWarn .. | .thermalSample .. | .throttleStep ..
  | .epochDone .. =>
    [.out, .fwQueue, .od, .field, .flash, .isl, .power]
  | .sm2WatchdogExpiry .. | .nmtResetNode .. | .nmtResetComm .. | .emcySend .. =>
    [.out, .od, .field]
  | .escResetSequence .. | .supplyReset .. | .thermalTrip .. | .powerOnReset .. | .resetN .. =>
    [.time, .fwQueue, .od, .dom, .mem, .ten, .clasp, .dict, .field, .raster, .compose, .heads, .ports, .cameo, .touch, .hap, .audio,
     .memc, .control, .locket, .isl, .power, .boot]
  | .miiLinkChange .. | .canBusOff .. =>
    [.field]
  | .sync0 .. | .sm2BufferComplete .. | .freeRunOutputTake .. | .canSync .. | .rpdoReceive .. =>
    [.free, .out, .fwQueue, .od, .clasp, .field, .raster, .ports, .hap, .power]
  | .alarmTimeout .. | .canBusOffRecovered .. | .canErrorPassive .. | .canOverrun .. | .canErrorPassiveEnd .. =>
    [.od, .field]
  | .sync0Stamp .. =>
    [.od, .field, .heads]
  | .heartbeat .. | .foeReadStored .. | .foeReadHallmark .. | .foeBusy .. =>
    [.out]
  | .foeWriteOpenImage .. | .foeWriteTrustedImage .. =>
    [.out, .field, .flash]
  | .firmwareVerified .. =>
    [.out, .field, .flash, .boot]
  | .ctxCreate .. =>
    [.od, .mem, .ten, .clasp, .field, .raster, .memc]
  | .ctxDestroy .. | .cctxDestroy .. =>
    [.clasp, .raster]
  | .cctxCreate .. =>
    [.od, .ten, .clasp, .field, .raster]
  | .dispatch .. =>
    [.od, .ten, .clasp, .field, .raster, .power]
  | .flushAcknowledged .. | .pixelInterlockGrant .. | .workgroupEnd .. | .workgroupYield .. =>
    [.raster]
  | .renderDone .. =>
    [.out, .fwQueue, .od, .mem, .raster, .memc]
  | .quadDrained .. | .deepSleepExit .. =>
    [.out, .fwQueue, .od, .power]
  | .governorEvaluate .. =>
    [.free, .out, .fwQueue, .od, .raster]
  | .flip .. | .flipGroup .. =>
    [.out, .fwQueue, .od, .mem, .ten, .clasp, .field, .compose, .ports, .memc]
  | .motion .. =>
    [.clasp, .compose]
  | .release .. | .flipStatus .. | .camQuery .. | .touchQuery .. | .hapticQuery .. | .streamQuery .. =>
    [.od, .ten, .clasp, .field]
  | .wbStart .. | .wbStop .. =>
    [.od, .ten, .clasp, .field, .heads]
  | .wbFrame .. =>
    [.out, .fwQueue, .od, .mem, .clasp, .heads, .ports, .memc]
  | .headLineStart .. =>
    [.free, .out, .fwQueue, .od, .mem, .ten, .clasp, .field, .compose, .heads, .cameo, .memc]
  | .lineFetchComplete .. =>
    [.od]
  | .headLatch .. =>
    [.out, .fwQueue, .od, .mem, .clasp, .raster, .compose, .heads, .ports, .cameo, .memc]
  | .headFrame .. =>
    [.free, .out, .fwQueue, .od, .dom, .mem, .clasp, .dict, .compose, .heads, .ports, .cameo, .touch, .memc]
  | .headVblank .. =>
    [.out, .fwQueue, .od, .compose]
  | .teEdge .. | .teTimeout .. | .portReady .. =>
    [.out, .fwQueue, .od, .heads]
  | .timingChangeImmediate .. =>
    [.out, .fwQueue, .od, .dom, .mem, .clasp, .dict, .raster, .compose, .heads, .ports, .cameo, .memc]
  | .timingChangeClean .. | .routeChange .. =>
    [.od, .dom, .dict, .heads]
  | .headEnable .. =>
    [.od, .heads, .cameo]
  | .headDisable .. =>
    [.out, .fwQueue, .od, .dom, .mem, .clasp, .dict, .compose, .heads, .ports, .cameo, .memc]
  | .lockStampTimeout .. | .portLinkFail .. | .busSilenceHoldExpiry .. | .scrubPass .. | .epochStart .. =>
    [.out, .fwQueue, .od]
  | .portBringupStart .. | .hpdStable .. | .portRetry .. =>
    [.out, .od, .ports]
  | .hpdLow .. | .irqHpd .. | .linkStatusPoll .. =>
    [.out, .fwQueue, .od, .ports]
  | .csiFrameStart .. | .csiPacketGap .. =>
    [.out, .fwQueue, .od, .clasp, .compose, .ports]
  | .csiLinePacket .. =>
    [.od, .mem, .ten, .clasp, .field, .ports, .memc]
  | .csiFrameEnd .. =>
    [.out, .fwQueue, .od, .mem, .clasp, .field, .compose, .ports, .memc]
  | .camOpen .. =>
    [.od, .ten, .clasp, .field, .ports]
  | .camClose .. | .camAttach .. | .camDetach .. =>
    [.od, .ten, .clasp, .field, .compose, .ports]
  | .camLossTimeout .. =>
    [.out, .fwQueue, .od, .mem, .field, .compose, .memc]
  | .presentation .. =>
    [.heads, .cameo]
  | .ackHoldReached .. =>
    [.out, .od, .touch]
  | .regionCompare .. =>
    [.out, .fwQueue, .od, .field, .heads, .cameo, .boot]
  | .cvAcquire .. | .handoverRelease .. | .handoverGrant .. =>
    [.out, .fwQueue, .od, .clasp, .ports, .cameo, .locket]
  | .cvRun .. =>
    [.od, .ten, .clasp, .field, .cameo]
  | .cvRelease .. =>
    [.out, .fwQueue, .od, .ten, .clasp, .field, .ports, .cameo, .locket]
  | .cvComputationEnd .. =>
    [.clasp, .cameo]
  | .touchScanStart .. | .panelStart .. =>
    [.out, .fwQueue, .od, .dom, .mem, .ten, .clasp, .dict, .field, .ports, .touch, .memc]
  | .touchStepEnd .. =>
    [.touch]
  | .touchReport .. =>
    [.free, .out, .fwQueue, .od, .dom, .mem, .ten, .clasp, .field, .raster, .ports, .touch, .hap, .memc, .power]
  | .referenceTestDone .. | .startVerifyTimeout .. | .touchBacklogDelivery .. | .tafeSupplyLow .. =>
    [.out, .fwQueue, .od, .mem, .ten, .clasp, .field, .ports, .touch, .memc]
  | .captureDone .. =>
    [.od, .dom, .touch]
  | .touchSubscribe .. =>
    [.out, .od, .mem, .ten, .clasp, .field, .raster, .ports, .touch, .memc, .power]
  | .touchUnsubscribe .. =>
    [.od, .ten, .clasp, .field, .raster, .touch, .power]
  | .touchIclApply .. | .touchIclUnsubscribe .. =>
    [.clasp, .touch]
  | .touchIclSelftest .. | .touchIclCapture .. =>
    [.od, .clasp, .touch]
  | .touchIclSubscribe .. =>
    [.out, .od, .mem, .ten, .clasp, .field, .ports, .touch, .memc]
  | .hapticTrigger .. =>
    [.free, .out, .fwQueue, .od, .ten, .clasp, .field, .raster, .ports, .hap, .power]
  | .hapticStop .. =>
    [.free, .out, .od, .ten, .clasp, .field, .raster, .ports, .hap, .power]
  | .hapIclTrigger .. | .calibrationEnd .. | .brakingEnd .. =>
    [.free, .out, .fwQueue, .od, .clasp, .field, .ports, .hap]
  | .hapIclCalibrate .. =>
    [.free, .od, .clasp, .field, .hap]
  | .hapIclStop .. =>
    [.free, .out, .od, .clasp, .ports, .hap]
  | .hapIclApply .. =>
    [.free, .out, .od, .dom, .clasp, .dict, .field, .ports, .hap]
  | .attackEnd .. | .gapEnd .. =>
    [.free, .od, .hap]
  | .sustainEnd .. | .accRead .. =>
    [.free, .out, .fwQueue, .od, .hap]
  | .hapOvercurrent .. =>
    [.out, .fwQueue, .od, .hap]
  | .audioSampleTick .. =>
    [.free, .out, .fwQueue, .od, .dom, .clasp, .dict, .audio]
  | .audioApply .. =>
    [.od, .dom, .clasp, .dict, .audio]
  | .audioIclStream .. =>
    [.out, .od, .mem, .clasp, .ports, .audio, .memc]
  | .tdmFrameSync .. =>
    [.free, .out, .fwQueue, .od, .audio]
  | .tdmFrameMissing .. | .refPhaseMatch .. | .asrcLocked .. | .audMclkbClockChange .. =>
    [.out, .fwQueue, .od, .audio]
  | .streamOpen .. =>
    [.od, .mem, .ten, .clasp, .field, .raster, .audio, .memc, .power]
  | .streamClose .. =>
    [.out, .od, .mem, .ten, .clasp, .field, .ports, .audio, .memc]
  | .streamPeriodBoundary .. =>
    [.out, .fwQueue, .od, .mem, .clasp, .ports, .audio, .memc]
  | .dramReadRequest .. | .dramWriteRequest .. | .dramCommandSlot .. | .domainOff .. =>
    [.free, .out, .fwQueue, .od, .dom, .mem, .ten, .clasp, .dict, .field, .raster, .compose, .heads, .ports, .cameo, .touch, .hap,
     .audio, .memc, .control, .locket, .flash, .isl, .power]
  | .refreshAccrual .. | .powerDownEntry .. =>
    [.od, .memc]
  | .mr4Read .. | .memSrEnter .. | .memSrExit .. =>
    [.out, .fwQueue, .od, .memc]
  | .trainDone .. =>
    [.free, .out, .fwQueue, .od, .mem, .ten, .clasp, .dict, .field, .memc, .control, .locket, .flash, .isl, .boot]
  | .trustedVersionCall .. | .result .. | .ownQuery .. =>
    [.out, .mem, .memc, .control]
  | .ownAssign .. =>
    [.out, .fwQueue, .od, .mem, .clasp, .ports, .cameo, .memc, .control, .locket]
  | .camNotice .. | .flashWrite .. | .flashRead .. | .imageVerify .. | .signet .. | .cert .. | .debugUnlock .. | .debugLock ..
  | .debugKey .. =>
    [.out, .mem, .memc, .control, .locket]
  | .lktDone .. =>
    [.free, .out, .fwQueue, .od, .mem, .memc, .locket, .flash, .power]
  | .tctx .. =>
    [.out, .mem, .raster, .memc]
  | .clockPowerRequest .. =>
    [.out, .fwQueue, .od, .ten, .field, .raster, .isl, .power]
  | .watchdogService .. | .jtagTapReset .. =>
    [.locket]
  | .lktRestart .. =>
    [.free, .out, .fwQueue, .od, .mem, .field, .raster, .memc, .control, .locket, .flash, .power, .boot]
  | .lktResumed .. =>
    [.free, .out, .fwQueue, .od, .mem, .ten, .clasp, .dict, .field, .touch, .memc, .control, .locket, .flash, .isl, .power, .boot]
  | .failedSeriesReset .. =>
    [.od, .locket]
  | .unlockVerified .. =>
    [.out, .fwQueue, .od, .locket]
  | .signetReady .. =>
    [.od, .dom]
  | .debugHaltRequest .. =>
    [.raster, .locket]
  | .jtagExtest .. | .jtagIdcode .. | .jtagExtestPulse .. | .jtagExtestTrain .. | .jtagBypass .. =>
    [.out, .locket]
  | .jtagSamplePreload .. | .jtagDtmcs .. =>
    [.free, .out, .locket]
  | .jtagDmi .. =>
    [.free, .out, .od, .mem, .ten, .clasp, .field, .raster, .memc, .control, .locket]
  | .jtagLoupeMbox .. =>
    [.out, .od, .locket]
  | .linkBeat .. =>
    [.out, .od, .ten, .field, .isl]
  | .flagEvent .. =>
    [.out, .isl]
  | .valueWrite .. | .valueCapture .. | .valueAcknowledge .. | .xingClockResumed .. | .islandClockStable .. =>
    [.isl]
  | .xingTimeout .. =>
    [.out, .fwQueue, .od, .isl]
  | .islandResetRequest .. | .xingNotice .. | .perstN .. =>
    [.free, .out, .fwQueue, .od, .mem, .ten, .clasp, .field, .raster, .compose, .heads, .ports, .touch, .hap, .audio, .memc, .isl]
  | .xingRejoin .. =>
    [.free, .out, .fwQueue, .od, .ten, .clasp, .field, .raster, .compose, .heads, .ports, .cameo, .touch, .hap, .audio, .locket, .isl,
     .power]
  | .domainIdleExpiry .. =>
    [.out, .fwQueue, .od, .raster, .power]
  | .wakeEvent .. =>
    [.od, .raster, .power]
  | .supplyWarningEnd .. =>
    [.od, .field, .power]
  | .throttleRaise .. =>
    [.out, .fwQueue, .od, .field, .isl, .power]
  | .tedHit .. =>
    [.out, .fwQueue, .od, .flash, .isl, .power]
  | .hoursTick .. =>
    [.od, .power]
  | .hoursPersist .. =>
    [.flash]
  | .maintWindowClose .. =>
    [.out, .fwQueue, .od, .ten, .field, .flash, .isl, .power]
  | .avsWrite .. =>
    [.out, .power]
  | .bootStart .. =>
    [.out, .od, .dom, .mem, .ten, .clasp, .dict, .field, .heads, .cameo, .memc, .locket, .flash, .isl, .power, .boot]
  | .trialImageFail .. =>
    [.time, .fwQueue, .od, .dom, .mem, .ten, .clasp, .dict, .field, .raster, .compose, .heads, .ports, .cameo, .touch, .hap, .audio,
     .memc, .control, .locket, .flash, .isl, .power, .boot]
  | .islandResetRelease .. =>
    [.free, .out, .fwQueue, .od, .ten, .clasp, .field, .raster, .compose, .heads, .ports, .cameo, .touch, .hap, .audio, .locket, .isl]
  | .deepSleepEntered .. =>
    [.free, .out, .fwQueue, .od, .mem, .ten, .clasp, .field, .raster, .compose, .heads, .ports, .cameo, .touch, .hap, .audio, .memc,
     .control, .locket, .isl, .power]
  | .siiAliasWrite .. =>
    [.out, .flash]

end Sys2Proof.Machine
end

