-- ==== Sys2Proof/Certificates/Slice0/Obligations.lean ====
section
/-! DEFINITION. The statements for the provers. A clause says of one command, for every state and operands that meet its
conditions, which next state `exec` answers, or where it is refused or changes nothing; the comment before a command's clauses
names the command and its rule. -/

open Sys2Proof Sys2Proof.Machine

/-- A step at a queue with the command `c` in front is `exec` of `c` with the rest of the queue. The queue is the model's (log 1). -/
def Obligations.StepRunsTheFrontCommand : Prop :=
  ∀ (s : State) (c : Instr) (rest : List Instr), s.pending = c :: rest → step s = exec c { s with pending := rest }

/-- With no command waiting one count of the always-on timer passes (log 1); no word spells a command (log 10). -/
def Obligations.EmptyQueueIdlesOneCount : Prop :=
  (∀ (s : State), s.pending = [] → step s = .next { s with time := s.time + 1 }) ∧
  (∀ (n w : Nat), decodeTableWord n w = none) ∧
  (∀ (s : State) (n w : Nat), s.withFetchWord n w = s)

/-- Whatever a command does, it leaves the queue of waiting commands alone; only `step` takes from it (log 1). -/
def Obligations.CommandsNeverTouchTheQueue : Prop :=
  ∀ (i : Instr) (s t : State), exec i s = .next t → t.pending = s.pending

/-- The invariant of the block holds after every step that starts where it holds: equal contents of the dictionary and the DRAM
are equal data, and the EtherCAT state is one of R98. -/
def Obligations.StepKeepsTheInvariant : Prop :=
  ∀ (s t : State), Inv s → step s = .next t → Inv t

/-- The state after reset meets the invariant. -/
def Obligations.ResetMeetsTheInvariant : Prop :=
  Inv State.reset

/-- The frame of every command: what lies outside `mayChange` of it is as it was. -/
def Obligations.CommandsChangeOnlyTheirParts : Prop :=
  ∀ (i : Instr) (s t : State), exec i s = .next t → changesOnly (mayChange i) s t

/-- R243: the engraving (layers, cells and state images, ACK_HOLD, notices) is fixed; no step changes it. -/
def Obligations.EngravingNeverChanges : Prop :=
  ∀ (s t : State), step s = .next t → t.cameo.engraving = s.cameo.engraving

/-- The Default values that the manual's tables give, after reset (R9, R445); DRAM as log 7 has it and the power-on reset as log 9
has it. -/
def Obligations.ResetLeavesTheDefaults : Prop :=
  (∀ k, rd State.reset k = odDefault k) ∧
  (∀ g, g < 64 → rd State.reset (E.guest_CLIENT_COUNT g) = 64 ∧ rd State.reset (E.guest_STATE g) = 0 ∧
    rd State.reset (E.guest_RESET_CLIENT g) = 0xFFFF ∧ rd State.reset (E.guest_VIOL_LIMIT g) = 1000) ∧
  (∀ h, h < 16 → rd State.reset (E.head_LATCH_LEAD h) = 1500 ∧ rd State.reset (E.head_STATE h) = 0 ∧
    ∀ f, f < 8 → rd State.reset (E.facet_HOLDER h f) = 0xFFFF) ∧
  (∀ r, r < 4 → rd State.reset (E.cam_HOLDER r) = 0xFFFF) ∧ (∀ n, n < 32 → rd State.reset (E.hs_HOLDER n) = 0xFFFF) ∧
  rd State.reset E.viol_NEXT_SLOT = 1 ∧ rd State.reset E.xlog_NEXT_SLOT = 1 ∧ rd State.reset E.mem_GRAIN = 12 ∧
  rd State.reset E.lkt_LKT_STATE = 0 ∧ rd State.reset E.glob_DEVICE_STATE = 0 ∧ rd State.reset E.comm_ALARM_TIMEOUT = 100 ∧
  rd State.reset E.xing_XING_TIMEOUT = 64 ∧ rd State.reset E.thm_THROTTLE_T = 105 ∧ rd State.reset E.hm_EPOCH_HOURS = 1000 ∧
  rd State.reset E.glob_RESET_REASON = 1 ∧
  (∀ c, (claspOf State.reset c).state = 0 ∧ (claspOf State.reset c).go = false ∧ (claspOf State.reset c).seq = 0) ∧
  (∀ a, dramByte State.reset a = 0)

/-- Configuration requests, function resets and BAR4 accesses act on their own guest: PCIE_CONFIG_REQUEST (R477), NUMVFS_WRITE (R21),
FUNCTION_LEVEL_RESET (R22), CARVE_OUT_ZEROED (R22), BAR4_READ (R70), BAR4_WRITE (R70), CLIENT_RESET_DONE (R31), VIOLATION_LOGGED (R41).
Model choices it rests on: log 7, 12, 13, 14, 15, 16, 17, 18, 21. -/
def Obligations.GuestCommandsReachTheirGuest : Prop :=
  -- PCIE_CONFIG_REQUEST (R477)
  ((∀ (s : State) (f : Func) (req : CfgReq), configOpen s f.val = true → req.write = false →
        exec (.pcieConfigRequest f req) s = .next (emit (configRead s f.val req.reg).1 (.msg (.config f.val) [0, ((configRead s f.val req.reg).2 : Int)] []))) ∧
    (∀ (s : State) (n : Fin 6) (v : Word), configOpen s 0 = true → ∃ t,
        exec (.pcieConfigRequest 0 { write := true, reg := .bar n, value := v }) s = .next t ∧
        barWord t false n.val = Nat.land v.toNat (barMask false n.val) + barType n.val ∧ (∀ m, m ≠ n.val → m < 6 →
        barWord t false m = barWord s false m) ∧ t.ten.numVfs = s.ten.numVfs ∧ t.od = s.od ∧ t.mem = s.mem ∧
        t.out = .msg (.config 0) [0] [] :: s.out) ∧
    (∀ (s : State) (n : Fin 6) (v : Word), configOpen s 0 = true → ∃ t,
        exec (.pcieConfigRequest 0 { write := true, reg := .vfBar n, value := v }) s = .next t ∧
        barWord t true n.val = Nat.land v.toNat (barMask true n.val) + barType n.val ∧ (∀ m, m < 6 →
        barWord t false m = barWord s false m) ∧ t.out = .msg (.config 0) [0] [] :: s.out) ∧
    (∀ (s : State) (f : Func) (n : Fin 6) (v : Word), configOpen s f.val = true → f ≠ 0 →
        exec (.pcieConfigRequest f { write := true, reg := .bar n, value := v }) s = .next (emit s (.msg (.config f.val) [0] []))) ∧
    (∀ (s : State) (v : Word), configOpen s 0 = true →
        exec (.pcieConfigRequest 0 { write := true, reg := .numVfs, value := v }) s = exec (.numvfsWrite v.toNat) s) ∧
    (∀ (s : State) (f : Func) (req : CfgReq), retrying s f.val = true →
        exec (.pcieConfigRequest f req) s = .next (emit s (.msg (.config f.val) [1] [])))) ∧
  -- NUMVFS_WRITE (R21)
  ((∀ (s : State) (n : Nat), configOpen s 0 = true → n ≤ 63 → ∃ t, exec (.numvfsWrite n) s = .next t ∧ t.ten.numVfs = n ∧
        t.out.head? = some (.msg (.config 0) [0] [])) ∧
    (∀ (s : State) (n : Nat), retrying s 0 = true → exec (.numvfsWrite n) s = .next (emit s (.msg (.config 0) [1] [])))) ∧
  -- FUNCTION_LEVEL_RESET (R22)
  (∀ (s : State) (f : Func), configOpen s f.val = true → ∃ t, exec (.functionLevelReset f) s = .next t ∧
        (guestRec t f.val).flr = true ∧ (guestRec t f.val).clientsPending = true ∧
        (guestRec t f.val).zeroing = (rd s (E.guest_FLR_ZERO f.val) == 1) ∧ rd t (E.guest_STATE f.val) = 1 ∧ portRec t f.val = {}) ∧
  -- CARVE_OUT_ZEROED (R22)
  (∀ (s : State) (f : Func), (guestRec s f.val).zeroing = true → (guestRec s f.val).flr = true →
        (guestRec s f.val).clientsPending = false → ∃ t, exec (.carveOutZeroed f) s = .next t ∧ (∀ e ∈ (guestRec s f.val).table,
        ∀ a, e.phys * pageSize ≤ a → a < e.phys * pageSize + e.count * pageSize → dramByte t a = 0) ∧
        (guestRec t f.val).flr = false ∧ (guestRec t f.val).zeroing = false ∧
        rd t (E.guest_STATE f.val) = (if guestExists s f.val then 2 else 0)) ∧
  -- BAR4_READ (R70)
  ((∀ (s : State) (f : Func) (off n p : Nat), serving s f.val = true → 0 < n → off % pageSize + n ≤ pageSize →
        bar4Part s f.val off false = (0, some p) →
        exec (.bar4Read f off n) s = .next (emit s (.msg (.bar f.val 4) [0] ((rangeFrom p n).map (memRd s))))) ∧
    (∀ (s : State) (f : Func) (off n k : Nat), serving s f.val = true → 0 < n → off % pageSize + n ≤ pageSize →
        bar4Part s f.val off false = (k, none) → k ≠ 0 →
        exec (.bar4Read f off n) s = .next (violate (emit s (.msg (.bar f.val 4) [0] (List.replicate n 0xFF))) k 2 off none (some f.val)))) ∧
  -- BAR4_WRITE (R70)
  ((∀ (s : State) (f : Func) (off p : Nat) (bytes : List (Option Byte)), serving s f.val = true → bytes ≠ [] →
        off % pageSize + bytes.length ≤ pageSize → bar4Part s f.val off true = (0, some p) →
        exec (.bar4Write f off bytes) s = .next (memWrAll s ((List.range bytes.length).map (fun i => (p + i, at0 none bytes i))))) ∧
    (∀ (s : State) (f : Func) (off k : Nat) (bytes : List (Option Byte)), serving s f.val = true → bytes ≠ [] →
        off % pageSize + bytes.length ≤ pageSize → bar4Part s f.val off true = (k, none) →
        exec (.bar4Write f off bytes) s = .next (violate s k 2 off none (some f.val)))) ∧
  -- CLIENT_RESET_DONE (R31)
  (∀ (s : State) (g : Func), rd s (E.guest_RESET_CLIENT g.val) ≠ 0xFFFF →
        clientQuiet s (rd s (E.guest_RESET_CLIENT g.val)) = true → (guestRec s g.val).clientsPending = false →
        exec (.clientResetDone g) s = .next (wr s (E.guest_RESET_CLIENT g.val) 0xFFFF)) ∧
  -- VIOLATION_LOGGED (R41)
  ((∀ (s : State) (v : Viol) (rest : List Viol), s.ten.violQueue = v :: rest →
        folds (rd s (slotKey 0x2080 (newestSlot (rd s E.viol_NEXT_SLOT) 64))) v = false → ∃ t, exec .violationLogged s = .next t ∧
        rd t (slotKey 0x2080 (rd s E.viol_NEXT_SLOT)) = violEntry v s.ten.violSeq ∧ t.ten.violQueue = rest ∧
        rd t E.viol_NEXT_SLOT = (if rd s E.viol_NEXT_SLOT = 64 then 1 else rd s E.viol_NEXT_SLOT + 1)) ∧
    (∀ (s : State) (v : Viol) (rest : List Viol), s.ten.violQueue = v :: rest →
        folds (rd s (slotKey 0x2080 (newestSlot (rd s E.viol_NEXT_SLOT) 64))) v = true → ∃ t, exec .violationLogged s = .next t ∧
        t.ten.violQueue = rest ∧ rd t E.viol_NEXT_SLOT = rd s E.viol_NEXT_SLOT))

/-- What a host's writes and reads of a clasp window do: CLASP_GO (R52), CLASP_WRITE (R53), RESULT_HEADER_READ (R60), DISCARDS_READ (R50),
EVENT_CLEAR (R61), CLASP_MODE_WRITE (R66), DQ_PUSH (R67), DQ_POP (R67), MSI_X_UNMASK (R62). Model choices it rests on: log 20, 25. -/
def Obligations.ClaspWindowReadsAndWrites : Prop :=
  -- CLASP_GO (R52)
  (∀ (s : State) (f : Func) (c : Client), serving s f.val = true → inRange s f.val c.val = true →
        rd s (E.guest_RESET_CLIENT f.val) ≠ c.val → (claspOf s c.val).mode = false → (claspOf s c.val).go = false →
        stage1 s c.val (fld (reqWord (claspOf s c.val) 0) 0 16) false = (0, 0) → ∃ t, exec (.claspGo f c) s = .next t ∧
        claspOf t c.val = { claspOf s c.val with go := true, verdict := 0, vkind := 0 } ∧ t.out = s.out ∧ t.mem = s.mem) ∧
  -- CLASP_WRITE (R53)
  ((∀ (s : State) (f : Func) (c : Client) (i : Fin 15) (w : Word), serving s f.val = true → inRange s f.val c.val = true →
        rd s (E.guest_RESET_CLIENT f.val) ≠ c.val → (claspOf s c.val).mode = false → (claspOf s c.val).go = false → ∃ t,
        exec (.claspWrite f c (4 * i.val) (enabled 4 w.toNat)) s = .next t ∧
        claspOf t c.val = setReqWord (claspOf s c.val) i.val w.toNat ∧ t.out = s.out ∧ t.od = s.od ∧ t.mem = s.mem) ∧
    (∀ (s : State) (f : Func) (c : Client) (i : Fin 15) (w : Word), serving s f.val = true → inRange s f.val c.val = true →
        rd s (E.guest_RESET_CLIENT f.val) ≠ c.val → (claspOf s c.val).mode = false → (claspOf s c.val).go = true →
        exec (.claspWrite f c (4 * i.val) (enabled 4 w.toNat)) s = .next (setClasp s c.val (discardOne (claspOf s c.val))))) ∧
  -- RESULT_HEADER_READ (R60)
  ((∀ (s : State) (f : Func) (c : Client), serving s f.val = true → inRange s f.val c.val = true → (claspOf s c.val).mode = false →
        (claspOf s c.val).state = 2 →
        exec (.resultHeaderRead f c 0x40 (allBytes 4)) s = .next (setClasp (emit s (.msg (.bar f.val 0) [0] (leBytes 4 (headerWord (claspOf s c.val))))) c.val { claspOf s c.val with state := 3, full := false })) ∧
    (∀ (s : State) (f : Func) (c : Client) (off : Nat) (be : List Bool), serving s f.val = true → inRange s f.val c.val = true →
        off % 64 + be.length ≤ 64 → effectWords off be = [] →
        exec (.resultHeaderRead f c off be) s = .next (emit s (.msg (.bar f.val 0) [0] ((enabledAt be).map (fun i => BitVec.ofNat 8 (windowWord s f.val c.val (wordAt off i) / 256 ^ ((off + i) % 4))))))) ∧
    (∀ (s : State) (f : Func) (c : Client) (off : Nat) (be : List Bool), serving s f.val = false →
        exec (.resultHeaderRead f c off be) s = .next (emit s (.msg (.bar f.val 0) [1] [])))) ∧
  -- DISCARDS_READ (R50)
  (∀ (s : State) (f : Func) (c : Client), serving s f.val = true → inRange s f.val c.val = true →
        exec (.discardsRead f c) s = .next (setClasp (emit s (.msg (.bar f.val 0) [0] (leBytes 4 (claspOf s c.val).discards))) c.val { claspOf s c.val with discards := 0 })) ∧
  -- EVENT_CLEAR (R61)
  (∀ (s : State) (f : Func) (c : Client) (bits : BitVec 16), serving s f.val = true → inRange s f.val c.val = true →
        rd s (E.guest_RESET_CLIENT f.val) ≠ c.val → ∃ t, exec (.eventClear f c bits) s = .next t ∧
        claspOf t c.val = { claspOf s c.val with event := Nat.land (claspOf s c.val).event (0xFFFF - bits.toNat) } ∧ t.out = s.out ∧
        t.od = s.od ∧ t.mem = s.mem) ∧
  -- CLASP_MODE_WRITE (R66)
  ((∀ (s : State) (f : Func) (c : Client) (w : Word), serving s f.val = true → inRange s f.val c.val = true →
        rd s (E.guest_RESET_CLIENT f.val) ≠ c.val → modeFree (claspOf s c.val) = true → bitOf w.toNat 12 = !(claspOf s c.val).mode →
        ∃ t, exec (.claspModeWrite f c w) s = .next t ∧ (claspOf t c.val).mode = (!(claspOf s c.val).mode) ∧
        (claspOf t c.val).state = 0 ∧ (claspOf t c.val).req = [] ∧ (claspOf t c.val).data = [] ∧ (claspOf t c.val).seq = 0 ∧
        (claspOf t c.val).irqEn = bitOf w.toNat 8 ∧ t.out = s.out ∧ t.od = s.od ∧ t.mem = s.mem) ∧
    (∀ (s : State) (f : Func) (c : Client) (w : Word), serving s f.val = true → inRange s f.val c.val = true →
        rd s (E.guest_RESET_CLIENT f.val) ≠ c.val → modeFree (claspOf s c.val) = false →
        bitOf w.toNat 12 = !(claspOf s c.val).mode → ∃ t, exec (.claspModeWrite f c w) s = .next t ∧
        (claspOf t c.val).mode = (claspOf s c.val).mode ∧ (claspOf t c.val).discards = min ((claspOf s c.val).discards + 1) 0xFFFF)) ∧
  -- DQ_PUSH (R67)
  ((∀ (s : State) (f : Func) (c : Client) (w : Word), serving s f.val = true → inRange s f.val c.val = true →
        rd s (E.guest_RESET_CLIENT f.val) ≠ c.val → (claspOf s c.val).mode = true → (claspOf s c.val).dqReq.length < 8 → ∃ t,
        exec (.dqPush f c w) s = .next t ∧ (claspOf t c.val).dqReq = (claspOf s c.val).dqReq ++ [w.toNat] ∧
        (claspOf t c.val).discards = (claspOf s c.val).discards) ∧
    (∀ (s : State) (f : Func) (c : Client) (w : Word), serving s f.val = true → inRange s f.val c.val = true →
        rd s (E.guest_RESET_CLIENT f.val) ≠ c.val → (claspOf s c.val).mode = true → 8 ≤ (claspOf s c.val).dqReq.length →
        exec (.dqPush f c w) s = .next (setClasp s c.val (discardOne { claspOf s c.val with ovf := true })))) ∧
  -- DQ_POP (R67)
  ((∀ (s : State) (f : Func) (c : Client) (w : Nat) (r : List Nat), serving s f.val = true → inRange s f.val c.val = true →
        (claspOf s c.val).mode = true → (claspOf s c.val).dqRsp = w :: r →
        exec (.dqPop f c) s = .next (setClasp (emit s (.msg (.bar f.val 0) [0] (leBytes 4 w))) c.val { claspOf s c.val with dqRsp := r })) ∧
    (∀ (s : State) (f : Func) (c : Client), serving s f.val = true → inRange s f.val c.val = true → (claspOf s c.val).mode = true →
        (claspOf s c.val).dqRsp = [] →
        exec (.dqPop f c) s = .next (setClasp (emit s (.msg (.bar f.val 0) [0] [0, 0, 0, 0])) c.val { claspOf s c.val with unf := true }))) ∧
  -- MSI_X_UNMASK (R62)
  ((∀ (s : State) (f : Func) (v : Fin 64), serving s f.val = true → bitOf (portRec s f.val).pba v.val = false → ∃ t,
        exec (.msixUnmask f v) s = .next t ∧ bitOf (msixWord (portRec t f.val) (4 * v.val + 3)) 0 = false ∧ t.out = s.out) ∧
    (∀ (s : State) (f : Func) (v : Fin 64), serving s f.val = true → bitOf (portRec s f.val).pba v.val = true → ∃ t,
        exec (.msixUnmask f v) s = .next t ∧ bitOf (portRec t f.val).pba v.val = false ∧
        t.out = .msg (.msix f.val v.val) [msixWord (portRec s f.val) (4 * v.val), msixWord (portRec s f.val) (4 * v.val + 1), msixWord (portRec s f.val) (4 * v.val + 2)] [] :: s.out))

/-- How a clasp request is taken, answered and completed: STAGE1_REFUSAL (R57), CLASP_TAKE (R57), CLASP_COMPLETE (R58), DELBEL_RESPONSE
(R67), NOP (R54), IDENTIFY (R54), ECHO (R54), INTERNAL_CLASP_GO (R64), INTERNAL_CLASP_TAKE (R64). Model choices it rests on: log 26, 27,
29. -/
def Obligations.ClaspRequestsAreTakenAndAnswered : Prop :=
  -- STAGE1_REFUSAL (R57)
  (∀ (s : State) (c : Client), nativeWaits (claspOf s c.val) = true → (claspOf s c.val).verdict ≠ 0 → ∃ t,
        exec (.stage1Refusal c) s = .next t ∧ (claspOf t c.val).go = false ∧ (claspOf t c.val).state = 2 ∧
        (claspOf t c.val).code = (claspOf s c.val).verdict ∧ (claspOf t c.val).kind = (claspOf s c.val).vkind ∧
        (claspOf t c.val).seq = (claspOf s c.val).nextSeq ∧ (claspOf t c.val).rlen = 0 ∧ (claspOf t c.val).full = true ∧
        t.od = s.od ∧ t.mem = s.mem) ∧
  -- CLASP_TAKE (R57)
  (∀ (s : State) (g c : Nat), pdOn s 2 = true → nextTake s = some (g, c) → (claspOf s c).mode = false → ∃ t q,
        exec .claspTake s = .next t ∧ (claspOf t c).go = false ∧ (claspOf t c).state = 1 ∧
        (claspOf t c).seq = (claspOf s c).nextSeq ∧ (claspOf t c).taken = some q ∧ q.op = fld (reqWord (claspOf s c) 0) 0 16 ∧
        q.tag = reqWord (claspOf s c) 1 ∧ t.out = s.out ∧ t.od = s.od ∧ t.mem = s.mem) ∧
  -- CLASP_COMPLETE (R58)
  (∀ (s : State) (c : Client) (q : Taken) (a : Ans), (claspOf s c.val).taken = some q → q.delbel = false → q.answer = some a →
        ∃ t, exec (.claspComplete c) s = .next t ∧
        claspOf t c.val = { claspOf s c.val with taken := none, rtag := q.tag, code := a.code, kind := a.kind, data := a.data, rlen := a.data.length, state := 2, full := true } ∧
        t.od = s.od ∧ t.mem = s.mem) ∧
  -- DELBEL_RESPONSE (R67)
  ((∀ (s : State) (c : Client) (q : Taken) (a : Ans), (claspOf s c.val).taken = some q → q.delbel = true → q.answer = some a →
        delbelRoom (claspOf s c.val) a = true → ∃ t, exec (.delbelResponse c) s = .next t ∧
        claspOf t c.val = { claspOf s c.val with taken := none, dqRsp := (claspOf s c.val).dqRsp ++ delbelWords a } ∧ t.od = s.od ∧
        t.mem = s.mem) ∧
    (∀ (s : State) (c : Client) (q : Taken) (a : Ans), (claspOf s c.val).taken = some q → q.delbel = true → q.answer = some a →
        delbelRoom (claspOf s c.val) a = false → exec (.delbelResponse c) s = .next s)) ∧
  -- NOP (R54)
  (∀ (s : State) (c : Client) (q : Taken), asks s c.val 0x0001 0 q = true → exec (.nop c) s = .next (ok s c.val [])) ∧
  -- IDENTIFY (R54)
  (∀ (s : State) (c : Client) (q : Taken), asks s c.val 0x0002 0 q = true →
        exec (.identify c) s = .next (ok s c.val [c.val + 4096 * (guestOf s c.val).getD 0 + 2 ^ 18 * charmClass s c.val, rd s E.id_OPEN_VERSION, rd s E.id_STEPPING + 256 * rd s E.id_MEMBER])) ∧
  -- ECHO (R54)
  (∀ (s : State) (c : Client) (n : Nat) (q : Taken), asks s c.val 0x0003 n q = true → n ≤ 13 → q.delbel = false →
        exec (.echo c) s = .next (ok s c.val (q.args.take n))) ∧
  -- INTERNAL_CLASP_GO (R64)
  (∀ (s : State) (i : Icl) (words : List Word), pdOn s 2 = true → (iclOf s (iclNum i)).go = false →
        ¬ (rd s (E.pd_MODE (iclDomain (iclNum i))) = 2 ∧ (iclOf s (iclNum i)).taken = none) → ∃ t,
        exec (.internalClaspGo i words) s = .next t ∧ (iclOf t (iclNum i)).go = true ∧ (∀ j, j < 15 →
        reqWord (iclOf t (iclNum i)) j = at0 0 (words.map BitVec.toNat) j) ∧ t.out = s.out ∧ t.mem = s.mem) ∧
  -- INTERNAL_CLASP_TAKE (R64)
  ((∀ (s : State) (i : Icl), nativeWaits (iclRead (iclOf s (iclNum i))) = true → pdOn s (iclDomain (iclNum i)) = true →
        (takeClasp (iclRead (iclOf s (iclNum i))) none).taken.bind (iclAnswer (iclNum i)) = none →
        exec (.internalClaspTake i) s = .next (setIcl s (iclNum i) (takeClasp (iclRead (iclOf s (iclNum i))) none)) ∧
        (takeClasp (iclRead (iclOf s (iclNum i))) none).state = 1 ∧ (takeClasp (iclRead (iclOf s (iclNum i))) none).go = false) ∧
    (∀ (s : State) (i : Icl) (a : Ans), nativeWaits (iclRead (iclOf s (iclNum i))) = true → pdOn s (iclDomain (iclNum i)) = true →
        (takeClasp (iclRead (iclOf s (iclNum i))) none).taken.bind (iclAnswer (iclNum i)) = some a → ∃ t,
        exec (.internalClaspTake i) s = .next t ∧ (iclOf t (iclNum i)).state = 2 ∧ (iclOf t (iclNum i)).taken = none ∧
        (iclOf t (iclNum i)).go = false ∧ (iclOf t (iclNum i)).code = a.code))

/-- Reads, writes and port commands of the object dictionary: REGISTER_WRITE (R7), TRUSTED_DICT_WRITE (R377), TRUSTED_DICT_READ (R377),
SDO_DOWNLOAD (R79), SDO_UPLOAD (R79), DICT_PORT_READ (R69), DICT_PORT_WRITE (R69), DICT_PORT_DONE (R69), PORT_DISCARDS_READ (R68). Model
choices it rests on: log 31, 35, 36. -/
def Obligations.DictionaryAccessesAreServed : Prop :=
  -- REGISTER_WRITE (R7)
  ((∀ (s : State) (who : Requester) (i n : Nat) (bytes v : List Byte) (f : Found), n < 256 →
        accepts s who (dkey i n) 0 bytes v = true → findEntry i n = some f → f.row.committed = true → i ≠ 0x1010 → i ≠ 0x1011 →
        exec (.registerWrite (.dict who i n bytes)) s = .next (acknowledged (stage (begun s who) (setNo who) (dkey i n) v) who (dkey i n) 0 bytes)) ∧
    (∀ (s : State) (who : Requester) (i n : Nat) (bytes v : List Byte) (f : Found), n < 256 →
        accepts s who (dkey i n) 0 bytes v = true → findEntry i n = some f → f.row.committed = false → i ≠ 0x1010 → i ≠ 0x1011 →
        exec (.registerWrite (.dict who i n bytes)) s = .next (acknowledged (writeNow (begun s who) who 0 (dkey i n) v 0 bytes) who (dkey i n) 0 bytes)) ∧
    (∀ (s : State) (g : Func) (n : Fin 262144) (v : BitVec 64), pdOn s 2 = true → memReady s = true →
        n.val < (if g.val = 0 then 262144 else 65536) → ∃ t, exec (.registerWrite (.pte g n v)) s = .next t ∧
        pteWord t g.val n.val = Nat.land v.toNat pteMask ∧ (∀ m, m ≠ n.val → pteWord t g.val m = pteWord s g.val m) ∧
        (v.getLsbD 0 = false → ∀ x, x / pageSize = n.val → translate t g.val x = none) ∧ t.od = s.od ∧ t.mem = s.mem ∧
        t.out = s.out) ∧
    (∀ (s : State) (off : Nat) (bs : List Byte), 0x1000 ≤ off → off + bs.length ≤ 0x5000 → ∃ t,
        exec (.registerWrite (.esc { addr := .broadcast off, write := some bs, read := none })) s = .next t ∧ (∀ i, i < bs.length →
        escRam t (off + i) = (at0 0 bs i).toNat) ∧ (∀ a, (a < off ∨ off + bs.length ≤ a) → escRam t a = escRam s a) ∧ t.od = s.od ∧
        t.out = s.out) ∧
    (∀ (s : State) (pos : Nat) (off n : Nat) (w : Option (List Byte)), pos ≠ 0 → ∃ t,
        exec (.registerWrite (.esc { addr := .position pos off, write := w, read := some n })) s = .next t ∧ t.field = s.field ∧
        t.od = s.od) ∧
    (∀ (s : State) (off n : Nat),
        exec (.registerWrite (.esc { addr := .broadcast off, write := none, read := some n })) s = .next (emit s (.msg .esc [(n : Int)] ((List.range n).map (fun i => escByte s (off + i))))))) ∧
  -- TRUSTED_DICT_WRITE (R377)
  (∀ (s : State) (i n : Nat) (bytes v : List Byte) (f : Found), n < 256 → accepts s .trusted (dkey i n) 0 bytes v = true →
        findEntry i n = some f → f.row.committed = false → i ≠ 0x1010 → i ≠ 0x1011 →
        exec (.trustedDictWrite i n bytes) s = .next (emit (writeNow s .trusted 0 (dkey i n) v 0 bytes) (.msg .mailbox [0] []))) ∧
  -- TRUSTED_DICT_READ (R377)
  (∀ (s : State) (i n : Nat) (f : Found), n < 256 → reaches s .trusted = true → denial s .trusted false i n = none →
        findEntry i n = some f → ∃ t, exec (.trustedDictRead i n) s = .next t ∧
        t.out = .msg .mailbox [0] (valueBytes s 65 (dkey i n)) :: s.out ∧ t.od = s.od ∧ t.mem = s.mem) ∧
  -- SDO_DOWNLOAD (R79)
  (∀ (s : State) (i n : Nat) (bytes v : List Byte) (f : Found), n < 256 → accepts s .field (dkey i n) 0 bytes v = true →
        findEntry i n = some f → f.row.committed = true → i ≠ 0x1010 → i ≠ 0x1011 →
        exec (.sdoDownload .coe i n bytes) s = .next (emit (stage s 0 (dkey i n) v) (.msg (.sdo 0) [i, n, 1, 0] []))) ∧
  -- SDO_UPLOAD (R79)
  (∀ (s : State) (i n : Nat) (f : Found), n < 256 → reaches s .field = true → denial s .field false i n = none →
        findEntry i n = some f → ∃ t, exec (.sdoUpload .coe i n) s = .next t ∧
        t.out = .msg (.sdo 0) [i, n, 0, 0] (valueBytes s 0 (dkey i n)) :: s.out ∧ t.od = s.od ∧ t.mem = s.mem) ∧
  -- DICT_PORT_READ (R69)
  (∀ (s : State) (f : Func) (x : Found), reaches s (.bar2 f (portClient (portRec s f.val))) = true →
        denial s (.bar2 f (portClient (portRec s f.val))) false (portRec s f.val).index (portRec s f.val).subindex = none →
        findEntry (portRec s f.val).index (portRec s f.val).subindex = some x → (portRec s f.val).offset = 0 →
        (portRec s f.val).length ≤ 4096 → 0 < (portRec s f.val).length → (portRec s f.val).subindex < 256 →
        (valueBytes s (f.val + 1) (dkey (portRec s f.val).index (portRec s f.val).subindex)).length = (portRec s f.val).length →
        (match x.row.ty with | .uns m => m = (portRec s f.val).length | .int m => m = (portRec s f.val).length | .vis m => m = (portRec s f.val).length | .oct m => m = (portRec s f.val).length | .dom _ _ => True) →
        ∃ t, exec (.dictPortRead f) s = .next t ∧ (portRec t f.val).busy = true ∧ (portRec t f.val).waitsStore = false ∧
        (portRec t f.val).nextAbort = 0 ∧ (portRec t f.val).nextActual % 65536 = (portRec s f.val).length ∧ (∀ j,
        j < (portRec s f.val).length →
        tget (fun _ => 0) (portRec t f.val).data j = at0 0 (valueBytes s (f.val + 1) (dkey (portRec s f.val).index (portRec s f.val).subindex)) j) ∧
        t.out = s.out ∧ t.od = s.od ∧ t.mem = s.mem) ∧
  -- DICT_PORT_WRITE (R69)
  (∀ (s : State) (f : Func) (v : List Byte) (x : Found), (portRec s f.val).subindex < 256 →
        accepts s (.bar2 f (portClient (portRec s f.val))) (dkey (portRec s f.val).index (portRec s f.val).subindex) (portRec s f.val).offset ((List.range (portRec s f.val).length).map (tget (fun _ => 0) (portRec s f.val).data)) v = true →
        findEntry (portRec s f.val).index (portRec s f.val).subindex = some x → x.row.committed = true →
        (portRec s f.val).index ≠ 0x1010 → (portRec s f.val).index ≠ 0x1011 → ∃ t, exec (.dictPortWrite f) s = .next t ∧
        stagedVal t (f.val + 1) (dkey (portRec s f.val).index (portRec s f.val).subindex) = some v ∧ (portRec t f.val).busy = true ∧
        (portRec t f.val).nextAbort = 0 ∧ t.out = s.out ∧ t.od = s.od ∧ t.mem = s.mem) ∧
  -- DICT_PORT_DONE (R69)
  ((∀ (s : State) (f : Func), (portRec s f.val).busy = true → (portRec s f.val).waitsStore = false →
        (portRec s f.val).irqEn = false →
        exec (.dictPortDone f) s = .next (setPort s f.val { portRec s f.val with busy := false, done := true, abort := (portRec s f.val).nextAbort, actual := (portRec s f.val).nextActual })) ∧
    (∀ (s : State) (f : Func), (portRec s f.val).busy = true → (portRec s f.val).waitsStore = false →
        (portRec s f.val).irqEn = true →
        exec (.dictPortDone f) s = .next (msixSend (setPort s f.val { portRec s f.val with busy := false, done := true, abort := (portRec s f.val).nextAbort, actual := (portRec s f.val).nextActual }) f.val (portRec s f.val).vector))) ∧
  -- PORT_DISCARDS_READ (R68)
  ((∀ (s : State) (f : Func), serving s f.val = true →
        exec (.portDiscardsRead f 0x24 (allBytes 4)) s = .next (emit (setPort s f.val { portRec s f.val with discards := 0 }) (.msg (.bar f.val 2) [0] (leBytes 4 (portRec s f.val).discards)))) ∧
    (∀ (s : State) (f : Func) (off : Nat) (be : List Bool), serving s f.val = true → (∀ i ∈ enabledAt be, off + i ≠ 0x24 ∧
        off + i ≠ 0x25) →
        exec (.portDiscardsRead f off be) s = .next (emit s (.msg (.bar f.val 2) [0] ((enabledAt be).map (fun i => BitVec.ofNat 8 (bar2Word s f.val (wordAt off i) / 256 ^ ((off + i) % 4))))))) ∧
    (∀ (s : State) (f : Func) (off : Nat) (be : List Bool), serving s f.val = false →
        exec (.portDiscardsRead f off be) s = .next (emit s (.msg (.bar f.val 2) [1] []))))

/-- A set is committed, checked or discarded, and a running commit is carried to its end: COMMIT (R82), CHECK_ONLY (R82), DISCARD (R82),
TRUSTED_DICT_COMMIT (R377), COMMIT_START (R82), COMMIT_CHECKS_END (R83), ENTRY_TAKES_EFFECT (R83), COMMIT_DONE (R82). Model choices it
rests on: log 38, 52, 57, 58, 60. -/
def Obligations.CommitsRunFromRequestToDone : Prop :=
  -- COMMIT (R82)
  ((∀ (s : State) (who : Requester), accepts s who E.cc_COMMIT 0 [1] [1] = true → (stagingOf s (setNo who)).entries ≠ [] →
        commitRuns s = false → ∃ t, exec (.commit who) s = .next t ∧
        stagingOf t (setNo who) = { stagingOf s (setNo who) with state := 2, refusedAt := 0, reason := 0 } ∧
        t.dict.running = some { set := setNo who, emcyKind := if setNo who = 0 then some 0 else none } ∧ t.od = s.od ∧
        t.mem = s.mem) ∧
    (∀ (s : State) (who : Requester), accepts s who E.cc_COMMIT 0 [1] [1] = true → (stagingOf s (setNo who)).entries ≠ [] →
        commitRuns s = true → ∃ t, exec (.commit who) s = .next t ∧ (stagingOf t (setNo who)).state = 1 ∧
        t.dict.running = s.dict.running ∧
        t.dict.queued = s.dict.queued ++ [{ set := setNo who, emcyKind := if setNo who = 0 then some 0 else none }])) ∧
  -- CHECK_ONLY (R82)
  (∀ (s : State) (who : Requester), accepts s who E.cc_COMMIT 0 [2] [2] = true → (stagingOf s (setNo who)).entries ≠ [] →
        commitRuns s = false → ∃ t, exec (.checkOnly who) s = .next t ∧
        stagingOf t (setNo who) = { stagingOf s (setNo who) with state := 2, refusedAt := 0, reason := 0 } ∧
        t.dict.running = some { set := setNo who, checkOnly := true, emcyKind := if setNo who = 0 then some 0 else none } ∧
        t.od = s.od ∧ t.mem = s.mem) ∧
  -- DISCARD (R82)
  (∀ (s : State) (who : Requester), accepts s who E.cc_COMMIT 0 [3] [3] = true → ∃ t, exec (.discard who) s = .next t ∧
        stagingOf t (setNo who) = { stagingOf s (setNo who) with entries := [], order := [], state := 0, refusedAt := 0, reason := 0 } ∧
        t.od = s.od ∧ t.mem = s.mem) ∧
  -- TRUSTED_DICT_COMMIT (R377)
  (∀ (s : State), accepts s .trusted E.cc_COMMIT 0 [1] [1] = true → (stagingOf s 65).entries ≠ [] → commitRuns s = false → ∃ t,
        exec .trustedDictCommit s = .next t ∧ (stagingOf t 65).state = 2 ∧ t.dict.running = some { set := 65 } ∧
        t.out = .msg .mailbox [0] [] :: s.out ∧ t.od = s.od ∧ t.mem = s.mem) ∧
  -- COMMIT_START (R82)
  (∀ (s : State) (r : CommitRun) (rest : List CommitRun), s.dict.running = none → s.dict.queued = r :: rest →
        exec .commitStart s = .next (putStaging { s with dict := { s.dict with running := some r, queued := rest } } r.set { stagingOf s r.set with state := 2 })) ∧
  -- COMMIT_CHECKS_END (R83)
  ((∀ (s : State) (r : CommitRun), s.dict.running = some r → (stagingOf s r.set).state = 2 → r.checkOnly = false →
        commitVerdict s (stagedList (stagingOf s r.set)) = none → noticeHeads s (handOver (stagingOf s r.set)) = [] → ∃ t,
        exec .commitChecksEnd s = .next t ∧ (stagingOf t r.set).state = 3 ∧ t.dict.applying = handOver (stagingOf s r.set) ∧
        t.od = s.od ∧ t.mem = s.mem) ∧
    (∀ (s : State) (r : CommitRun) (code k : Nat), s.dict.running = some r → (stagingOf s r.set).state = 2 → r.set < 66 →
        r.emcyKind ≠ some 2 → s.dict.storeWait = [] → commitVerdict s (stagedList (stagingOf s r.set)) = some (code, k) → ∃ t,
        exec .commitChecksEnd s = .next t ∧ t.dict.running = none ∧
        stagingOf t r.set = { stagingOf s r.set with state := 5, reason := code, refusedAt := k } ∧ t.mem = s.mem)) ∧
  -- ENTRY_TAKES_EFFECT (R83)
  ((∀ (s : State) (i n : Nat) (v : List Byte), n < 256 → 2 ≤ n → 0x2000 ≤ i → i < 0x3000 → applyingVal s (dkey i n) = some v →
        isImmediate (dkey i n) = false → isDomainKey (dkey i n) = false → ∃ t, exec (.entryTakesEffect i n) s = .next t ∧
        rd t (dkey i n) = leVal v ∧ applyingVal t (dkey i n) = none ∧ entriesKept [dkey i n] s t ∧ t.mem = s.mem) ∧
    (∀ (s : State) (n : Nat) (v : List Byte), 1 ≤ n → n ≤ 8 → applyingVal s (dkey 0x5000 n) = some v → ∃ t,
        exec (.entryTakesEffect 0x5000 n) s = .next t ∧ rd t (dkey 0x5000 n) = leVal v ∧
        inForce t (dkey 0x5000 n) = inForce s (dkey 0x5000 n) ∧ entriesKept [dkey 0x5000 n] s t ∧ t.mem = s.mem)) ∧
  -- COMMIT_DONE (R82)
  (∀ (s : State) (r : CommitRun), s.dict.running = some r → (stagingOf s r.set).state = 3 → s.dict.applying = [] → r.set < 66 →
        r.emcyKind ≠ some 2 → s.dict.storeWait = [] → ∃ t, exec .commitDone s = .next t ∧ t.dict.running = none ∧
        stagingOf t r.set = { stagingOf s r.set with entries := [], order := [], state := 4 } ∧
        rd t E.cc_GENERATION = (rd s E.cc_GENERATION + 1) % 2 ^ 32 ∧ entriesKept [E.cc_GENERATION] s t ∧ t.mem = s.mem ∧
        t.out = s.out)

/-- What storing and restoring write, and what the end of the write does: STORE_ALL (R88), STORE_COMM (R88), STORE_APP (R88), RESTORE_ALL
(R88), RESTORE_COMM (R88), RESTORE_APP (R88), STORE_DONE (R88). Model choices it rests on: log 45, 46, 48. -/
def Obligations.StoresKeepTheLiveValues : Prop :=
  -- STORE_ALL (R88)
  (∀ (s : State) (who : Requester), accepts s who E.store_STORE_ALL 0 (leBytes 4 0x65766173) (leBytes 4 0x65766173) = true →
        commitRuns s = false → s.dict.storing = none → s.dict.storeWait = [] → imageSize (storeRecords (begun s who) 0) ≤ 524288 →
        (storeRecords (begun s who) 0).length ≤ 16384 → ∃ t n c, exec (.storeAll who) s = .next t ∧
        t.dict.storing = some { what := 0, slot := some n, who := setNo who, content := { count := c, layout := rd s E.id_LAYOUT, records := storeRecords (begun s who) 0 } } ∧
        at0 none t.flash.stored n = none ∧ t.od = s.od ∧ t.mem = s.mem) ∧
  -- STORE_COMM (R88)
  (∀ (s : State) (who : Requester), accepts s who E.store_STORE_COMM 0 (leBytes 4 0x65766173) (leBytes 4 0x65766173) = true →
        commitRuns s = false → s.dict.storing = none → s.dict.storeWait = [] → imageSize (storeRecords (begun s who) 1) ≤ 524288 →
        (storeRecords (begun s who) 1).length ≤ 16384 → ∃ t n c, exec (.storeComm who) s = .next t ∧
        t.dict.storing = some { what := 1, slot := some n, who := setNo who, content := { count := c, layout := rd s E.id_LAYOUT, records := storeRecords (begun s who) 1 } } ∧
        at0 none t.flash.stored n = none ∧ t.od = s.od ∧ t.mem = s.mem) ∧
  -- STORE_APP (R88)
  (∀ (s : State) (who : Requester), accepts s who E.store_STORE_APP 0 (leBytes 4 0x65766173) (leBytes 4 0x65766173) = true →
        commitRuns s = false → s.dict.storing = none → s.dict.storeWait = [] → imageSize (storeRecords (begun s who) 2) ≤ 524288 →
        (storeRecords (begun s who) 2).length ≤ 16384 → ∃ t n c, exec (.storeApp who) s = .next t ∧
        t.dict.storing = some { what := 2, slot := some n, who := setNo who, content := { count := c, layout := rd s E.id_LAYOUT, records := storeRecords (begun s who) 2 } } ∧
        at0 none t.flash.stored n = none ∧ t.od = s.od ∧ t.mem = s.mem) ∧
  -- RESTORE_ALL (R88)
  (∀ (s : State) (who : Requester), accepts s who E.store_RESTORE_ALL 0 (leBytes 4 0x64616F6C) (leBytes 4 0x64616F6C) = true →
        commitRuns s = false → s.dict.storing = none → s.dict.storeWait = [] → ∃ t, exec (.restoreAll who) s = .next t ∧
        t.dict.storing = some { what := 3, who := setNo who } ∧ t.flash = s.flash ∧ t.od = s.od ∧ t.mem = s.mem) ∧
  -- RESTORE_COMM (R88)
  (∀ (s : State) (who : Requester) (n : Nat) (x : StoredSlot),
        accepts s who E.store_RESTORE_COMM 0 (leBytes 4 0x64616F6C) (leBytes 4 0x64616F6C) = true → commitRuns s = false →
        s.dict.storing = none → s.dict.storeWait = [] → newestStored s = some (n, x) →
        imageSize (x.records.filter (fun r => !inComm r.1)) ≤ 524288 → x.records.length ≤ 16384 → ∃ t,
        exec (.restoreComm who) s = .next t ∧
        t.dict.storing = some { what := 4, slot := some (1 - n), who := setNo who, content := { count := x.count + 1, layout := rd s E.id_LAYOUT, records := x.records.filter (fun r => !inComm r.1) } } ∧
        t.od = s.od ∧ t.mem = s.mem) ∧
  -- RESTORE_APP (R88)
  (∀ (s : State) (who : Requester) (n : Nat) (x : StoredSlot),
        accepts s who E.store_RESTORE_APP 0 (leBytes 4 0x64616F6C) (leBytes 4 0x64616F6C) = true → commitRuns s = false →
        s.dict.storing = none → s.dict.storeWait = [] → newestStored s = some (n, x) →
        imageSize (x.records.filter (fun r => inComm r.1)) ≤ 524288 → x.records.length ≤ 16384 → ∃ t,
        exec (.restoreApp who) s = .next t ∧
        t.dict.storing = some { what := 5, slot := some (1 - n), who := setNo who, content := { count := x.count + 1, layout := rd s E.id_LAYOUT, records := x.records.filter (fun r => inComm r.1) } } ∧
        t.od = s.od ∧ t.mem = s.mem) ∧
  -- STORE_DONE (R88)
  ((∀ (s : State) (r : StoreRun) (n : Nat), s.dict.storing = some r → r.slot = some n → n < s.flash.stored.length →
        s.dict.storeWait = [] → ∃ t, exec .storeDone s = .next t ∧ t.dict.storing = none ∧
        at0 none t.flash.stored n = some r.content ∧ t.od = s.od ∧ t.mem = s.mem) ∧
    (∀ (s : State) (r : StoreRun), s.dict.storing = some r → r.slot = none → s.dict.storeWait = [] → ∃ t,
        exec .storeDone s = .next t ∧ t.dict.storing = none ∧ newestStored t = none ∧ t.od = s.od ∧ t.mem = s.mem))

/-- The configuration image and its actions: IMAGE_WRITE (R90), IMAGE_CHECK (R90), IMAGE_COMMIT (R90), IMAGE_COMMIT_STORE (R90),
IMAGE_ACTION_END (R478). Model choices it rests on: log 39, 40. -/
def Obligations.ImageActionsCheckAndCommit : Prop :=
  -- IMAGE_WRITE (R90)
  (∀ (s : State) (who : Requester) (off : Nat) (bytes v : List Byte), accepts s who E.img_IMAGE off bytes v = true → ∃ t,
        exec (.imageWrite who off bytes) s = .next t ∧ t.dict.image = v ∧ rd t E.img_IMAGE_STATE = (if v.isEmpty then 0 else 1) ∧
        entriesKept [E.img_IMAGE_STATE] s t ∧ t.mem = s.mem) ∧
  -- IMAGE_CHECK (R90)
  ((∀ (s : State) (who : Requester) (l : List (Nat × Nat × Nat × List Byte)) (e : Nat),
        accepts s who E.img_ACTION 0 [1] [1] = true → imageHeaderOk s s.dict.image = true →
        imageRecords s.dict.image (leVal (slice s.dict.image 6 2)) 16 = some (l, e) →
        (stageRecords (actionBegun (begun s who) 1 (setNo who) false) l).2 = none → ∃ t, exec (.imageCheck who) s = .next t ∧
        t.dict.imageRun = some { action := 1, who := setNo who, ended := true, state := 3 } ∧ (stagingOf t 66).entries = [] ∧
        t.mem = s.mem) ∧
    (∀ (s : State) (who : Requester), accepts s who E.img_ACTION 0 [1] [1] = true → imageHeaderOk s s.dict.image = false → ∃ t,
        exec (.imageCheck who) s = .next t ∧
        t.dict.imageRun = some { action := 1, who := setNo who, ended := true, state := 4, err := 0x08000020 } ∧ t.mem = s.mem)) ∧
  -- IMAGE_COMMIT (R90)
  (∀ (s : State) (who : Requester) (l : List (Nat × Nat × Nat × List Byte)) (e : Nat),
        accepts s who E.img_ACTION 0 [2] [2] = true → imageHeaderOk s s.dict.image = true →
        imageRecords s.dict.image (leVal (slice s.dict.image 6 2)) 16 = some (l, e) →
        (stageRecords (actionBegun (begun s who) 2 (setNo who) false) l).2 = none → ∃ t, exec (.imageCommit who) s = .next t ∧
        t.dict.imageRun = some { action := 2, who := setNo who } ∧ (stagingOf t 66).state ≠ 0 ∧ t.mem = s.mem) ∧
  -- IMAGE_COMMIT_STORE (R90)
  (∀ (s : State) (who : Requester) (l : List (Nat × Nat × Nat × List Byte)) (e : Nat),
        accepts s who E.img_ACTION 0 [3] [3] = true → imageHeaderOk s s.dict.image = true →
        imageRecords s.dict.image (leVal (slice s.dict.image 6 2)) 16 = some (l, e) →
        (stageRecords (actionBegun (begun s who) 3 (setNo who) false) l).2 = none → ∃ t, exec (.imageCommitStore who) s = .next t ∧
        t.dict.imageRun = some { action := 3, who := setNo who } ∧ (stagingOf t 66).state ≠ 0 ∧ t.mem = s.mem) ∧
  -- IMAGE_ACTION_END (R478)
  (∀ (s : State) (r : ImageRun), s.dict.imageRun = some r → r.ended = true → r.foe = false →
        exec .imageActionEnd s = .next { (wr (wr (wr s E.img_IMAGE_STATE r.state) E.img_IMAGE_ERROR r.err) E.img_IMAGE_FAIL_AT r.failAt) with dict := { s.dict with imageRun := none } })

/-- Writes of entries that act at once: ERROR_HISTORY_CLEAR (R479), VIOLATION_RING_CLEAR (R42), XING_LOG_CLEAR (R415), SUPPLY_LOG_CLEAR
(R434), MEM_LOG_CLEAR (R364), CHARMS_WRITE (R27), RESET_CLIENT (R31), DIRECT_ADDR_WRITE (R186), SELFTEST (R284), CAPTURE (R282),
CALIBRATE (R305), UNLOCK_MASK_WRITE (R393), UNLOCK_RESPONSE_WRITE (R393), NONCE_WRITE (R396). Model choices it rests on: log 23, 24, 41,
42, 44. -/
def Obligations.ImmediateEntriesActAtOnce : Prop :=
  -- ERROR_HISTORY_CLEAR (R479)
  (∀ (s : State) (who : Requester), accepts s who E.err_ERROR_COUNT 0 [0] [0] = true → ∃ t,
        exec (.errorHistoryClear who) s = .next t ∧ (∀ j, j ≤ 16 → rd t (E.err_ERROR_COUNT + j) = 0) ∧ (∀ k, k < E.err_ERROR_COUNT ∨
        E.err_ERROR_COUNT + 16 < k → rd t k = rd s k) ∧ t.mem = s.mem) ∧
  -- VIOLATION_RING_CLEAR (R42)
  (∀ (s : State) (who : Requester), accepts s who E.viol_CLEAR 0 [1] [1] = true → ∃ t,
        exec (.violationRingClear who 1) s = .next t ∧ (∀ n, 1 ≤ n → n ≤ 64 → rd t (slotKey 0x2080 n) = 0) ∧
        rd t E.viol_NEXT_SLOT = 1 ∧ rd t E.viol_OVERWRITTEN = 0 ∧ rd t E.viol_LOST = 0 ∧ t.ten.violSeq = 1 ∧ t.mem = s.mem) ∧
  -- XING_LOG_CLEAR (R415)
  (∀ (s : State) (who : Requester), accepts s who E.xlog_CLEAR 0 [1] [1] = true → ∃ t, exec (.xingLogClear who 1) s = .next t ∧
        (∀ n, 1 ≤ n → n ≤ 64 → rd t (slotKey 0x2042 n) = 0) ∧ rd t E.xlog_NEXT_SLOT = 1 ∧ rd t E.xlog_OVERWRITTEN = 0 ∧
        t.isl.read = [] ∧ t.mem = s.mem) ∧
  -- SUPPLY_LOG_CLEAR (R434)
  (∀ (s : State) (who : Requester), accepts s who E.slog_CLEAR 0 [1] [1] = true → ∃ t, exec (.supplyLogClear who 1) s = .next t ∧
        (∀ n, 1 ≤ n → n ≤ 32 → rd t (slotKey 0x2130 n) = 0) ∧ rd t E.slog_NEXT_SLOT = 1 ∧ rd t E.slog_OVERWRITTEN = 0 ∧
        t.power.read = [] ∧ t.mem = s.mem) ∧
  -- MEM_LOG_CLEAR (R364)
  (∀ (s : State) (who : Requester), accepts s who E.memlog_CLEAR 0 [1] [1] = true → ∃ t, exec (.memLogClear who 1) s = .next t ∧
        (∀ n, 1 ≤ n → n ≤ 64 → rd t (slotKey 0x5002 n) = 0) ∧ rd t E.memlog_NEXT_SLOT = 1 ∧ rd t E.memlog_OVERWRITTEN = 0 ∧
        t.memc.read = [] ∧ t.mem = s.mem) ∧
  -- CHARMS_WRITE (R27)
  (∀ (s : State) (who : Requester) (g : Func) (off : Nat) (bytes v : List Byte),
        accepts s who (E.guest_CHARMS g.val) off bytes v = true → ∃ t, exec (.charmsWrite who g off bytes) s = .next t ∧
        (∀ r ∈ charmsWritten s g.val off bytes, charm t r.1 = r.2)) ∧
  -- RESET_CLIENT (R31)
  (∀ (s : State) (who : Requester) (g : Func) (v : BitVec 16),
        accepts s who (E.guest_RESET_CLIENT g.val) 0 (leBytes 2 v.toNat) (leBytes 2 v.toNat) = true → ∃ t,
        exec (.resetClient who g v) s = .next t ∧ rd t (E.guest_RESET_CLIENT g.val) = v.toNat) ∧
  -- DIRECT_ADDR_WRITE (R186)
  (∀ (s : State) (who : Requester) (h : Head) (f : Facet) (n : Fin 3) (bytes v : List Byte),
        accepts s who (E.facet_DIRECT_ADDR h.val f.val + n.val) 0 bytes v = true → ∃ t,
        exec (.directAddrWrite who h f n bytes) s = .next t ∧ rd t (E.facet_DIRECT_ADDR h.val f.val + n.val) = leVal v ∧
        entriesKept [E.facet_DIRECT_ADDR h.val f.val + n.val] s t ∧ t.mem = s.mem) ∧
  -- SELFTEST (R284)
  (∀ (s : State) (who : Requester) (p : Panel), accepts s who (E.panel_SELFTEST p.val) 0 [1] [1] = true →
        panelExists s p.val = true → pdOn s 13 = true → (touchOf s p.val).testing = false → (touchOf s p.val).phase ≠ 1 → ∃ t,
        exec (.selftest who p) s = .next t ∧ touchOf t p.val = { touchOf s p.val with testing := true, steps := none } ∧
        rd t (E.panel_CMD_STATE p.val) = 1 ∧ entriesKept [E.panel_CMD_STATE p.val] s t ∧ t.mem = s.mem) ∧
  -- CAPTURE (R282)
  (∀ (s : State) (who : Requester) (p : Panel), accepts s who (E.panel_CAPTURE p.val) 0 [1] [1] = true →
        (touchOf s p.val).phase ≠ 0 → (touchOf s p.val).phase < 4 → ∃ t, exec (.capture who p) s = .next t ∧
        t = acknowledged (beginCapture (setTouch (begun s who) p.val { touchOf s p.val with capture := 1 }) p.val) who (E.panel_CAPTURE p.val) 0 [1]) ∧
  -- CALIBRATE (R305)
  (∀ (s : State) (who : Requester) (n : Hap), accepts s who (E.hap_CALIBRATE n.val) 0 [1] [1] = true →
        rd s (E.hap_ENABLE n.val) = 1 →
        exec (.calibrate who n) s = .next (acknowledged (scheduleCals (setHap (begun s who) n.val { hapOf s n.val with calWait := true })) who (E.hap_CALIBRATE n.val) 0 [1])) ∧
  -- UNLOCK_MASK_WRITE (R393)
  (∀ (s : State) (who : Requester) (m : Byte), accepts s who E.dbg_UNLOCK_MASK 0 [m] [m] = true → ∃ t,
        exec (.unlockMaskWrite who m) s = .next t ∧ rd t E.dbg_UNLOCK_STATE = 1 ∧ t.locket.mask = m.toNat ∧
        t.locket.challengeAt = some s.time ∧ t.locket.open_ = true ∧
        rd t E.dbg_CHALLENGE = leVal (leBytes 8 (rd s E.id_SERIAL) ++ (List.range 32).map (fun i => Sys2Proof.Config.freeByte (s.free + i)) ++ [m] ++ leBytes 7 0) ∧
        entriesKept [E.dbg_UNLOCK_STATE, E.dbg_CHALLENGE] s t ∧ t.mem = s.mem) ∧
  -- UNLOCK_RESPONSE_WRITE (R393)
  (∀ (s : State) (who : Requester) (bytes : List Byte), accepts s who E.dbg_RESPONSE 0 bytes bytes = true →
        rd s E.dbg_UNLOCK_STATE = 1 → s.locket.open_ = true → ∃ t, exec (.unlockResponseWrite who bytes) s = .next t ∧
        rd t E.dbg_UNLOCK_STATE = 2 ∧ t.locket.response = bytes ∧ t.locket.open_ = false ∧
        entriesKept [E.dbg_UNLOCK_STATE, E.dbg_RESPONSE] s t ∧ t.mem = s.mem) ∧
  -- NONCE_WRITE (R396)
  (∀ (s : State) (who : Requester) (bytes : List Byte), accepts s who E.sig_NONCE 0 bytes bytes = true → ∃ t,
        exec (.nonceWrite who bytes) s = .next t ∧ rd t E.sig_SIGNET_STATE = 1 ∧ t.locket.nonce = bytes ∧
        rd t E.sig_NONCE = leVal bytes ∧ entriesKept [E.sig_NONCE, E.sig_SIGNET_STATE] s t ∧ t.mem = s.mem)

/-- Power domains switch, wake and sleep: DEEP_SLEEP (R425), CLOCK_POWER_REQUEST (R381), DOMAIN_IDLE_EXPIRY (R418), WAKE_EVENT (R422),
DOMAIN_OFF (R421), DOMAIN_ON (R423), DEEP_SLEEP_ENTERED (R425), DEEP_SLEEP_EXIT (R426). Model choices it rests on: log 30, 37, 160, 167,
182. -/
def Obligations.PowerDomainsSwitchAndSleep : Prop :=
  -- DEEP_SLEEP (R425)
  (∀ (s : State) (who : Requester), accepts s who E.pwr_DEEP_SLEEP 0 [1] [1] = true → s.power.sleep = 0 → ∃ t,
        exec (.deepSleep who) s = .next t ∧ t.power.sleep = 1 ∧ rd t E.pwr_DEEP_SLEEP = 1 ∧ entriesKept [E.pwr_DEEP_SLEEP] s t ∧
        t.mem = s.mem) ∧
  -- CLOCK_POWER_REQUEST (R381)
  ((∀ (s : State) (d : Domain) (b : Nat), domainHeld s d.val = some b →
        exec (.clockPowerRequest (.switchOff d)) s = .next (refuseHeld s b d.val)) ∧
    (∀ (s : State) (d : Domain), domainHeld s d.val = none → (pdMode s d.val = 0 ∨ ∃ x ∈ dependents d.val, pdState s x ≠ 0) →
        exec (.clockPowerRequest (.switchOff d)) s = .next (bump (emit s (.msg .fabric [1] [])) E.pwr_ORDER_REFUSALS)) ∧
    (∀ (s : State) (d : Domain), domainHeld s d.val = none → pdMode s d.val ≠ 0 → (∀ x ∈ dependents d.val, pdState s x = 0) →
        pdState s d.val = 2 → (d.val < 3 ∨ 6 < d.val) → pdChanging s = false → s.power.queue = [] →
        exec (.clockPowerRequest (.switchOff d)) s = .next (wr (emit s (.msg .fabric [0] [])) (E.pd_STATE d.val) 3)) ∧
    (∀ (s : State) (d : Domain), (pdMode s d.val = 2 ∨ ∃ x ∈ prereqs d.val, pdState s x ≠ 2) →
        exec (.clockPowerRequest (.switchOn d)) s = .next (bump (emit s (.msg .fabric [1] [])) E.pwr_ORDER_REFUSALS)) ∧
    (∀ (s : State) (d : Domain), pdMode s d.val ≠ 2 → (∀ x ∈ prereqs d.val, pdState s x = 2) → pdState s d.val = 0 →
        pdChanging s = false → s.power.queue = [] →
        exec (.clockPowerRequest (.switchOn d)) s = .next (wr (emit s (.msg .fabric [0] [])) (E.pd_STATE d.val) 1)) ∧
    (∀ (s : State) (b : Nat), blockHeld s b = true →
        exec (.clockPowerRequest (.gateClock b true)) s = .next (refuseHeld s b (blockDomain b))) ∧
    (∀ (s : State) (b : Nat) (stop : Bool), (stop = false ∨ blockHeld s b = false) → ∃ t,
        exec (.clockPowerRequest (.gateClock b stop)) s = .next t ∧ t.out = .msg .fabric [0] [] :: s.out ∧
        t.power.stopped.contains b = stop ∧ (∀ x, x ≠ b → t.power.stopped.contains x = s.power.stopped.contains x)) ∧
    (∀ (s : State) (i : Island) (mhz b : Nat), heldBlock s i.val = some b → (i.val = 3 ∨ mhz < clockTarget s i.val) →
        exec (.clockPowerRequest (.ceiling i mhz)) s = .next (refuseHeld s b (islandDomain i.val))) ∧
    (∀ (s : State) (i : Island) (mhz : Nat), (heldBlock s i.val = none ∨ (i.val ≠ 3 ∧ clockTarget s i.val ≤ mhz)) → ∃ t,
        exec (.clockPowerRequest (.ceiling i mhz)) s = .next t ∧ t.out.head? = some (.msg .fabric [0] []) ∧
        tget (fun _ => 0) t.power.asked i.val = mhz)) ∧
  -- DOMAIN_IDLE_EXPIRY (R418)
  ((∀ (s : State) (d : Domain), pdMode s d.val = 1 → pdState s d.val = 2 → withoutWork s d.val = true → (∀ x ∈ dependents d.val,
        pdState s x = 0) → (d.val < 3 ∨ 6 < d.val) → pdChanging s = false → s.power.queue = [] →
        exec (.domainIdleExpiry d) s = .next (wr s (E.pd_STATE d.val) 3)) ∧
    (∀ (s : State) (d : Domain), (pdMode s d.val ≠ 1 ∨ withoutWork s d.val = false ∨ ∃ x ∈ dependents d.val, pdState s x ≠ 0) →
        exec (.domainIdleExpiry d) s = .next s)) ∧
  -- WAKE_EVENT (R422)
  ((∀ (s : State) (d : Domain) (r : WakeRow), wakeRow r.val d.val = true → s.power.sleep ≠ 2 → pdMode s d.val = 1 →
        pdState s d.val = 0 → r.val ≠ 0 → (∀ x ∈ prereqs d.val, pdState s x = 2) → pdChanging s = false → s.power.queue = [] →
        exec (.wakeEvent d r) s = .next (wr (bump (wr s (E.pd_STATE d.val) 1) (E.pd_WAKES d.val)) (E.pd_LAST_WAKE d.val) r.val)) ∧
    (∀ (s : State) (d : Domain) (r : WakeRow), (pdMode s d.val ≠ 1 ∨ pdState s d.val = 2 ∨ wakeRow r.val d.val = false) →
        exec (.wakeEvent d r) s = .next s)) ∧
  -- DOMAIN_OFF (R421)
  ((∀ (s : State) (d : Domain), pdState s d.val = 3 → s.power.queue = [] → d.val ≠ 2 → d.val = 0 ∨ d.val = 1 ∨ d.val = 7 ∨
        d.val = 8 ∨ d.val = 10 ∨ d.val = 11 ∨ d.val = 15 → exec (.domainOff d) s = .next (settleClocks (openSwitches s d.val)) ∧
        pdState (settleClocks (openSwitches s d.val)) d.val = 0) ∧
    (∀ (s : State) (d : Domain), pdState s d.val ≠ 3 → d.val ≠ 2 → exec (.domainOff d) s = .next s)) ∧
  -- DOMAIN_ON (R423)
  ((∀ (s : State) (d : Domain), d.val = 3 ∨ d.val = 4 ∨ d.val = 5 ∨ d.val = 6 ∨ d.val = 7 ∨ d.val = 8 → pdState s d.val = 1 →
        s.power.queue = [] → pdOn s 2 = true → ∃ t, exec (.domainOn d) s = .next t ∧ pdState t d.val = 2 ∧
        t.out.head? = some (.event false .domainOn [(d.val : Int)]) ∧ t.mem = s.mem) ∧
    (∀ (s : State) (d : Domain), pdState s d.val ≠ 1 → d.val ≠ 2 → exec (.domainOn d) s = .next s)) ∧
  -- DEEP_SLEEP_ENTERED (R425)
  ((∀ (s : State), s.power.sleep = 1 → pdChanging s = false → s.power.wakePending = false → ∃ t,
        exec .deepSleepEntered s = .next t ∧ t.power.sleep = 2 ∧ t.power.queue = [] ∧ (∀ d ∈ sleepOrder s, pdState s d = 2 →
        pdState t d = 0) ∧ t.memc.txs = []) ∧
    (∀ (s : State), (s.power.sleep ≠ 1 ∨ pdChanging s = true) → exec .deepSleepEntered s = .next s)) ∧
  -- DEEP_SLEEP_EXIT (R426)
  ((∀ (s : State) (x : SleepExit), s.power.sleep = 2 → (x ≠ .touchdown ∨ rd s E.pwr_DS_TOUCH ≠ 0) → ∃ t,
        exec (.deepSleepExit x) s = .next t ∧ t.power.sleep = 0 ∧ t.power.wakePending = false ∧ rd t E.pwr_DEEP_SLEEP = 0 ∧
        t.mem = s.mem) ∧
    (∀ (s : State) (x : SleepExit), s.power.sleep = 1 → (x ≠ .touchdown ∨ rd s E.pwr_DS_TOUCH ≠ 0) →
        exec (.deepSleepExit x) s = .next { s with power := { s.power with wakePending := true } }) ∧
    (∀ (s : State), rd s E.pwr_DS_TOUCH = 0 → exec (.deepSleepExit .touchdown) s = .next s))

/-- Supply warnings and temperature throttling: SUPPLY_WARN (R429), SUPPLY_WARNING_END (R429), THERMAL_SAMPLE (R432), THROTTLE_STEP (R432),
THROTTLE_RAISE (R432). Model choices it rests on: log 161, 162. -/
def Obligations.SupplyAndHeatAreAnswered : Prop :=
  -- SUPPLY_WARN (R429)
  ((∀ (s : State) (r : Rail) (l : List Nat), l.length = 4 → (∀ v ∈ l,
        v * 1000 < nominal s r.val * (1000 - rd s (E.sup_WARN r.val))) → s.power.warning.contains r.val = false →
        rd s E.hm_EPOCH_STATE ≠ 2 → rd s E.err_ERROR_REGISTER = lastingRegister s.field.lasting → emcyHeld s 0x3201 r.val = false →
        s.field.emcyQueue.length < 16 → pdOn s 2 = true → ∃ t, exec (.supplyWarn r l) s = .next t ∧
        t.power.warning = s.power.warning ++ [r.val] ∧ rd t (E.sup_LEVEL r.val) = l.getLast?.getD 0 ∧
        t.out = .event false .supplyWarn [(r.val : Int), (lowest l : Int)] :: s.out ∧ bitOf (rd t E.err_ERROR_REGISTER) 2 = true ∧
        t.field.lasting.contains (0x3201, r.val) = true ∧ (t.field.emcyQueue.getLast?.map (fun m => (m.code,
        m.data % 256))) = some (0x3201, r.val) ∧
        rd t (slotKey 0x2130 (rd s E.slog_NEXT_SLOT)) = s.time % 2 ^ 64 + 2 ^ 64 * (1 + 256 * r.val) + 2 ^ 96 * ofInt 32 (lowest l)) ∧
    (∀ (s : State) (r : Rail) (l : List Nat), (l.length ≠ 4 ∨ s.power.warning.contains r.val = true) →
        exec (.supplyWarn r l) s = .next (setLevel s r.val l))) ∧
  -- SUPPLY_WARNING_END (R429)
  ((∀ (s : State) (r : Rail) (mv : Nat), s.power.warning.contains r.val = true →
        nominal s r.val * (1010 - rd s (E.sup_WARN r.val)) < mv * 1000 → ∃ t, exec (.supplyWarningEnd r mv) s = .next t ∧
        t.power.warning = s.power.warning.filter (· != r.val) ∧ rd t (E.sup_LEVEL r.val) = mv ∧ t.field.lasting.contains (0x3201,
        r.val) = false ∧
        rd t (slotKey 0x2130 (rd s E.slog_NEXT_SLOT)) = s.time % 2 ^ 64 + 2 ^ 64 * (2 + 256 * r.val) + 2 ^ 96 * ofInt 32 mv) ∧
    (∀ (s : State) (r : Rail) (mv : Nat), s.power.warning.contains r.val = false →
        exec (.supplyWarningEnd r mv) s = .next (wr s (E.sup_LEVEL r.val) mv))) ∧
  -- THERMAL_SAMPLE (R432)
  ((∀ (s : State) (l : List Int), l.length = 12 → s.power.ccxLow = false → (∀ v ∈ l, v < throttleT s) → s.power.throttle = none →
        (∀ v ∈ l, -32768 ≤ v ∧ v < 32768) → ∃ t, exec (.thermalSample l) s = .next t ∧ (∀ n, n < 12 → tempOf t n = at0 0 l n) ∧
        t.power = s.power ∧ t.out = s.out) ∧
    (∀ (s : State) (l : List Int) (n : Nat), l.length = 12 → 1 ≤ n → n ≤ 4 → (∀ m, m < n → at0 0 l m < throttleT s) →
        throttleT s ≤ at0 0 l n → (∀ v ∈ l, v < throttleT s + 50) → (∀ v ∈ l, -32768 ≤ v ∧ v < 32768) → s.power.rqLimit = 1400 →
        s.power.throttle = none → s.power.ccxLow = false → rd s E.hm_EPOCH_STATE ≠ 2 → ∃ t, exec (.thermalSample l) s = .next t ∧
        t.power.rqLimit = 1300 ∧ t.power.throttle = some n ∧ t.field.lasting.contains (0x4201, n) = true ∧
        bitOf (rd t E.thm_THROTTLED) 0 = true)) ∧
  -- THROTTLE_STEP (R432)
  ((∀ (s : State) (n : Nat), hotQuad s = some n → 700 < s.power.rqLimit → s.power.rqLimit < 1400 → ∃ t,
        exec .throttleStep s = .next t ∧ t.power.rqLimit = s.power.rqLimit - 100 ∧ t.field.lasting.contains (0x4201, n) = true) ∧
    (∀ (s : State), (hotQuad s = none ∨ s.power.rqLimit ≤ 700) → exec .throttleStep s = .next s)) ∧
  -- THROTTLE_RAISE (R432)
  ((∀ (s : State), allCool s = true → s.power.rqLimit < 1400 → ∃ t, exec .throttleRaise s = .next t ∧
        t.power.rqLimit = min 1400 (s.power.rqLimit + 100)) ∧
    (∀ (s : State), (allCool s = false ∨ 1400 ≤ s.power.rqLimit) → exec .throttleRaise s = .next s))

/-- Ageing: detector hits, operating hours, epochs and maintenance windows: TED_HIT (R435), HOURS_TICK (R440), HOURS_PERSIST (R440),
EPOCH_NOW (R436), EPOCH_START (R437), EPOCH_DONE (R437), MAINT_WINDOW (R436), MAINT_WINDOW_CLOSE (R436), AVS_WRITE (R463). Model choices
it rests on: log 44, 163, 164, 165, 166. -/
def Obligations.HallmarkEpochsFollowAgeing : Prop :=
  -- TED_HIT (R435)
  ((∀ (s : State) (i : Island), rd s E.hm_EPOCH_STATE = 0 → rd s E.hm_TARGET_MV + 10 ≤ factoryMv + 50 → pdOn s 2 = true → ∃ t,
        exec (.tedHit i) s = .next t ∧ rd t E.hm_TARGET_MV = rd s E.hm_TARGET_MV + 10 ∧
        rd t E.hm_TED_HITS = satInc (rd s E.hm_TED_HITS) 1 ∧ rd t E.hm_EPOCH_STATE = 1 ∧ t.power.due = 3 ∧
        rd t E.hm_SEQ = rd s E.hm_SEQ + 1 ∧ t.flash.hours = rd s E.hm_HOURS) ∧
    (∀ (s : State) (i : Island), rd s E.hm_EPOCH_STATE = 2 → ∃ t, exec (.tedHit i) s = .next t ∧
        rd t E.hm_TED_HITS = satInc (rd s E.hm_TED_HITS) 1 ∧ entriesKept [E.hm_TED_HITS, E.pwr_EVENTS_DROPPED] s t ∧
        t.flash = s.flash)) ∧
  -- HOURS_TICK (R440)
  ((∀ (s : State), 2 ≤ deviceState s → deviceState s ≤ 5 → ∃ t, exec .hoursTick s = .next t ∧
        rd t E.hm_HOURS = satInc (rd s E.hm_HOURS) 1 ∧ (rd t E.hm_HOURS % rd s E.hm_EPOCH_HOURS = 0 → rd s E.hm_EPOCH_STATE = 0 →
        rd t E.hm_EPOCH_STATE = 1 ∧ t.power.due = 1) ∧ (rd t E.hm_HOURS % rd s E.hm_EPOCH_HOURS ≠ 0 →
        t = wr s E.hm_HOURS (satInc (rd s E.hm_HOURS) 1))) ∧
    (∀ (s : State), (deviceState s < 2 ∨ 5 < deviceState s) → exec .hoursTick s = .next s)) ∧
  -- HOURS_PERSIST (R440)
  (∀ (s : State), exec .hoursPersist s = .next { s with flash := { s.flash with hours := rd s E.hm_HOURS } }) ∧
  -- EPOCH_NOW (R436)
  ((∀ (s : State) (who : Requester), accepts s who E.hm_EPOCH_NOW 0 [1] [1] = true → rd s E.hm_EPOCH_STATE = 0 → ∃ t,
        exec (.epochNow who) s = .next t ∧ rd t E.hm_EPOCH_STATE = 1 ∧ t.power.due = 2 ∧ entriesKept [E.hm_EPOCH_STATE] s t ∧
        t.mem = s.mem) ∧
    (∀ (s : State) (who : Requester), accepts s who E.hm_EPOCH_NOW 0 [1] [1] = true → rd s E.hm_EPOCH_STATE ≠ 0 → ∃ t,
        exec (.epochNow who) s = .next t ∧ entriesKept [] s t ∧ t.power = s.power ∧ t.mem = s.mem)) ∧
  -- EPOCH_START (R437)
  ((∀ (s : State), rd s E.hm_EPOCH_STATE = 1 → s.power.windowEnd.isSome = true → pdOperational s = false →
        exec .epochStart s = .next (raise (wr s E.hm_EPOCH_STATE 2) .epochStart [])) ∧
    (∀ (s : State), (rd s E.hm_EPOCH_STATE ≠ 1 ∨ s.power.windowEnd = none) → exec .epochStart s = .next s)) ∧
  -- EPOCH_DONE (R437)
  ((∀ (s : State) (m : EpochMeas), rd s E.hm_EPOCH_STATE = 2 → ∃ t, exec (.epochDone m) s = .next t ∧ rd t E.hm_EPOCH_STATE = 0 ∧
        t.power.due = 0 ∧ t.power.hits = [] ∧ rd t E.hm_SEQ = rd s E.hm_SEQ + 1 ∧ rd t E.hm_TARGET_MV = (epochRecord s m).targetMv ∧
        t.flash.hours = rd s E.hm_HOURS) ∧
    (∀ (s : State) (m : EpochMeas), rd s E.hm_EPOCH_STATE ≠ 2 → exec (.epochDone m) s = .next s)) ∧
  -- MAINT_WINDOW (R436)
  ((∀ (s : State) (who : Requester) (n : Nat), 1 ≤ n → n < 65536 →
        accepts s who E.hm_MAINT_WINDOW 0 (leBytes 2 n) (leBytes 2 n) = true → ∃ t, exec (.maintWindow who n) s = .next t ∧
        t.power.windowEnd = some (s.time + n * 60 * secCounts) ∧ entriesKept [] s t ∧ t.mem = s.mem) ∧
    (∀ (s : State) (who : Requester), accepts s who E.hm_MAINT_WINDOW 0 [0, 0] [0, 0] = true → rd s E.hm_EPOCH_STATE ≠ 2 → ∃ t,
        exec (.maintWindow who 0) s = .next t ∧ t.power.windowEnd = none ∧ entriesKept [] s t ∧ t.mem = s.mem)) ∧
  -- MAINT_WINDOW_CLOSE (R436)
  ((∀ (s : State), rd s E.hm_EPOCH_STATE ≠ 2 →
        exec .maintWindowClose s = .next { s with power := { s.power with windowEnd := none } }) ∧
    (∀ (s : State), rd s E.hm_EPOCH_STATE = 2 → ∃ t, exec .maintWindowClose s = .next t ∧ t.power.windowEnd = none ∧
        rd t E.hm_EPOCH_STATE = 1 ∧ rd t E.hm_SEQ = rd s E.hm_SEQ + 1)) ∧
  -- AVS_WRITE (R463)
  ((∀ (s : State),
        exec (.avsWrite true) s = .next { emit s (.msg .avs [(rd s E.hm_TARGET_MV : Int)] []) with power := { s.power with acked := rd s E.hm_TARGET_MV, avsPending := false } }) ∧
    (∀ (s : State), exec (.avsWrite false) s = .next (emit s (.msg .avs [(rd s E.hm_TARGET_MV : Int)] []))))

/-- Gate calls: what is answered at once, what is queued and how a queued call ends: TRUSTED_VERSION_CALL (R375), RESULT (R376), OWN_ASSIGN
(R380), OWN_QUERY (R375), CAM_NOTICE (R375), FLASH_WRITE (R375), FLASH_READ (R375), IMAGE_VERIFY (R375), SIGNET (R389), CERT (R375),
DEBUG_UNLOCK (R393), DEBUG_LOCK (R392), DEBUG_KEY (R387), LKT_DONE (R376). Model choices it rests on: log 142, 143, 145, 147, 183. -/
def Obligations.TrustedCallsAnswerOrQueue : Prop :=
  -- TRUSTED_VERSION_CALL (R375)
  ((∀ (s : State) (cc : CCore), calls s cc.val = true →
        exec (.trustedVersionCall cc) s = .next (gateReply (flushL1 s cc.val) cc.val 0 (rd s E.id_TRUSTED_VERSION))) ∧
    (∀ (s : State) (cc : CCore), calls s cc.val = true → ∃ t, exec (.trustedVersionCall cc) s = .next t ∧
        t.out = .msg (.gate cc.val) [0, (rd s E.id_TRUSTED_VERSION : Int)] [] :: s.out ∧ t.od = s.od) ∧
    (∀ (s : State) (cc : CCore), pdOn s 2 = true → s.locket.halted.contains cc.val = false → lktState s = 2 →
        exec (.trustedVersionCall cc) s = .next (gateAnswer s cc.val 0x201)) ∧
    (∀ (s : State) (cc : CCore), pdOn s 2 = true → s.locket.halted.contains cc.val = false → lktState s = 3 →
        exec (.trustedVersionCall cc) s = .next (gateAnswer s cc.val 0x205))) ∧
  -- RESULT (R376)
  ((∀ (s : State) (cc : CCore) (n st v : Nat), calls s cc.val = true → s.locket.results.find? (fun r => r.1 == n) = some (n, st,
        v) → exec (.result cc n) s = .next (gateReply (flushL1 s cc.val) cc.val st v)) ∧
    (∀ (s : State) (cc : CCore) (n : Nat), calls s cc.val = true → s.locket.results.find? (fun r => r.1 == n) = none →
        exec (.result cc n) s = .next (if s.locket.queue.any (fun q => q.ticket == n) then gateReply (flushL1 s cc.val) cc.val 0x200 n else gateReply (flushL1 s cc.val) cc.val 4 0))) ∧
  -- OWN_ASSIGN (R380)
  ((∀ (s : State) (cc : CCore) (b o : Nat), calls s cc.val = true → b < 0x33 → (o < 4096 ∨ o = 0xFFFE ∨ o = 0xFFFF) →
        ownerPermitted b o = false → exec (.ownAssign cc b o) s = .next (gateReply (flushL1 s cc.val) cc.val 0x202 0)) ∧
    (∀ (s : State) (cc : CCore) (b o : Nat), calls s cc.val = true → (0x33 ≤ b ∨ (4096 ≤ o ∧ o ≠ 0xFFFE ∧ o ≠ 0xFFFF)) →
        exec (.ownAssign cc b o) s = .next (gateReply (flushL1 s cc.val) cc.val 4 0)) ∧
    (∀ (s : State) (cc : CCore) (b o : Nat), calls s cc.val = true → b < 0x33 → ownerPermitted b o = true →
        s.locket.queue.length < 16 → (handOf s b).isSome = true →
        exec (.ownAssign cc b o) s = .next (ticketed s cc.val 0x010 [b, o, 0])) ∧
    (∀ (s : State) (cc : CCore) (b o : Nat), calls s cc.val = true → b < 0x33 → ownerPermitted b o = true →
        s.locket.queue.length < 16 → handOf s b = none → ∃ t, exec (.ownAssign cc b o) s = .next t ∧
        t.locket.queue = s.locket.queue ++ [{ num := 0x010, ticket := s.locket.nextTicket, core := cc.val, args := [b, o, 1] }] ∧
        (∃ h, handOf t b = some h ∧ h.target = o ∧ h.ticket = some s.locket.nextTicket))) ∧
  -- OWN_QUERY (R375)
  ((∀ (s : State) (cc : CCore) (b : Nat), calls s cc.val = true → b < 0x33 →
        exec (.ownQuery cc b) s = .next (gateReply (flushL1 s cc.val) cc.val 0 (b + 256 * blockState s b + 65536 * blockOwner s b))) ∧
    (∀ (s : State) (cc : CCore) (b : Nat), calls s cc.val = true → 0x33 ≤ b →
        exec (.ownQuery cc b) s = .next (gateReply (flushL1 s cc.val) cc.val 4 0))) ∧
  -- CAM_NOTICE (R375)
  ((∀ (s : State) (cc : CCore) (r m : Nat), calls s cc.val = true → r < 8 → m < 2 ^ 128 → ∃ t,
        exec (.camNotice cc r m) s = .next t ∧ t.locket.camNotices = s.locket.camNotices ++ [(r, m)] ∧
        t.out = .msg (.gate cc.val) [0, 0] [] :: .event true .camNotice [(r : Int), (m : Int)] :: s.out ∧ t.od = s.od) ∧
    (∀ (s : State) (cc : CCore) (r m : Nat), calls s cc.val = true → (8 ≤ r ∨ 2 ^ 128 ≤ m) →
        exec (.camNotice cc r m) s = .next (gateReply (flushL1 s cc.val) cc.val 4 0))) ∧
  -- FLASH_WRITE (R375)
  ((∀ (s : State) (cc : CCore) (r off p n : Nat), calls s cc.val = true → r < 4 → off + n ≤ (flashRegion r).2 →
        openRegion s p n = true → s.locket.queue.length < 16 →
        exec (.flashWrite cc r off p n) s = .next (ticketed s cc.val 0x030 [r, off, p, n])) ∧
    (∀ (s : State) (cc : CCore) (r off p n : Nat), calls s cc.val = true → (4 ≤ r ∨ (flashRegion r).2 < off + n ∨
        openRegion s p n = false) → exec (.flashWrite cc r off p n) s = .next (gateReply (flushL1 s cc.val) cc.val 4 0)) ∧
    (∀ (s : State) (cc : CCore) (r off p n : Nat), calls s cc.val = true → r < 4 → off + n ≤ (flashRegion r).2 →
        openRegion s p n = true → 16 ≤ s.locket.queue.length →
        exec (.flashWrite cc r off p n) s = .next (gateReply (flushL1 s cc.val) cc.val 5 0))) ∧
  -- FLASH_READ (R375)
  ((∀ (s : State) (cc : CCore) (r off p n : Nat), calls s cc.val = true → r < 4 → off + n ≤ (flashRegion r).2 →
        openRegion s p n = true → s.locket.queue.length < 16 →
        exec (.flashRead cc r off p n) s = .next (ticketed s cc.val 0x031 [r, off, p, n])) ∧
    (∀ (s : State) (cc : CCore) (r off p n : Nat), calls s cc.val = true → (4 ≤ r ∨ (flashRegion r).2 < off + n ∨
        openRegion s p n = false) → exec (.flashRead cc r off p n) s = .next (gateReply (flushL1 s cc.val) cc.val 4 0))) ∧
  -- IMAGE_VERIFY (R375)
  ((∀ (s : State) (cc : CCore) (k n : Nat), calls s cc.val = true → (k = 1 ∨ k = 2) → (n = 1 ∨ n = 2) →
        s.locket.queue.length < 16 → exec (.imageVerify cc k n) s = .next (ticketed s cc.val 0x032 [k, n])) ∧
    (∀ (s : State) (cc : CCore) (k n : Nat), calls s cc.val = true → ¬ ((k = 1 ∨ k = 2) ∧ (n = 1 ∨ n = 2)) →
        exec (.imageVerify cc k n) s = .next (gateReply (flushL1 s cc.val) cc.val 4 0))) ∧
  -- SIGNET (R389)
  ((∀ (s : State) (cc : CCore) (a b : Nat), calls s cc.val = true → openRange s a 32 = true → openRange s b 480 = true →
        s.locket.queue.length < 16 → exec (.signet cc a b) s = .next (ticketed s cc.val 0x040 [a, b])) ∧
    (∀ (s : State) (cc : CCore) (a b : Nat), calls s cc.val = true → (openRange s a 32 = false ∨ openRange s b 480 = false) →
        exec (.signet cc a b) s = .next (gateReply (flushL1 s cc.val) cc.val 4 0))) ∧
  -- CERT (R375)
  ((∀ (s : State) (cc : CCore) (a n : Nat), calls s cc.val = true → openRange s a n = true → s.locket.queue.length < 16 →
        exec (.cert cc a n) s = .next (ticketed s cc.val 0x041 [a, n])) ∧
    (∀ (s : State) (cc : CCore) (a n : Nat), calls s cc.val = true → openRange s a n = false →
        exec (.cert cc a n) s = .next (gateReply (flushL1 s cc.val) cc.val 4 0))) ∧
  -- DEBUG_UNLOCK (R393)
  ((∀ (s : State) (cc : CCore) (a : Nat), calls s cc.val = true → openRange s a 144 = true → s.locket.queue.length < 16 →
        exec (.debugUnlock cc a) s = .next (ticketed s cc.val 0x050 [a])) ∧
    (∀ (s : State) (cc : CCore) (a : Nat), calls s cc.val = true → openRange s a 144 = false →
        exec (.debugUnlock cc a) s = .next (gateReply (flushL1 s cc.val) cc.val 4 0))) ∧
  -- DEBUG_LOCK (R392)
  ((∀ (s : State) (cc : CCore) (m : Nat), calls s cc.val = true → m < 16 → s.locket.queue.length < 16 →
        exec (.debugLock cc m) s = .next (ticketed s cc.val 0x051 [m])) ∧
    (∀ (s : State) (cc : CCore) (m : Nat), calls s cc.val = true → 16 ≤ m →
        exec (.debugLock cc m) s = .next (gateReply (flushL1 s cc.val) cc.val 4 0))) ∧
  -- DEBUG_KEY (R387)
  ((∀ (s : State) (cc : CCore) (a : Nat), calls s cc.val = true → openRange s a 48 = true → s.locket.queue.length < 16 →
        exec (.debugKey cc a) s = .next (ticketed s cc.val 0x052 [a])) ∧
    (∀ (s : State) (cc : CCore) (a : Nat), calls s cc.val = true → openRange s a 48 = false →
        exec (.debugKey cc a) s = .next (gateReply (flushL1 s cc.val) cc.val 4 0))) ∧
  -- LKT_DONE (R376)
  ((∀ (s : State) (q : LktCall) (l : List LktCall), s.locket.queue = q :: l → lktState s = 1 → q.num = 0x051 → pdOn s 2 = true →
        ∃ t, exec .lktDone s = .next t ∧ t.locket.queue = l ∧ t.locket.results = (q.ticket, 0, 0) :: s.locket.results.take 15 ∧
        rd t E.dbg_DEBUG_OTP = (bitsOf 4 (at0 0 q.args 0)).foldl (fun v i => setFld v (2 * i) 2 0) (rd s E.dbg_DEBUG_OTP) ∧
        t.out = .event false .lktDone [(q.ticket : Int)] :: s.out ∧ entriesKept [E.dbg_DEBUG_OTP] s t ∧ t.mem = s.mem) ∧
    (∀ (s : State) (q : LktCall) (l : List LktCall), s.locket.queue = q :: l → lktState s = 1 → q.num = 0x052 → pdOn s 2 = true →
        ∃ t, exec .lktDone s = .next t ∧ t.locket.queue = l ∧ t.locket.results = (q.ticket,
        (if s.locket.debugKey = [] then 0 else 0x202), 0) :: s.locket.results.take 15 ∧
        t.locket.debugKey = (if s.locket.debugKey = [] then physRd s (at0 0 q.args 0) 48 else s.locket.debugKey) ∧
        t.out = .event false .lktDone [(q.ticket : Int)] :: s.out ∧ t.od = s.od ∧ t.mem = s.mem) ∧
    (∀ (s : State) (q : LktCall) (l : List LktCall), s.locket.queue = q :: l → lktState s = 1 → q.num = 0x041 → pdOn s 2 = true →
        ∃ t, exec .lktDone s = .next t ∧ t.locket.queue = l ∧ t.locket.results = (q.ticket, 0,
        ((dget s E.sig_CERT).take (at0 0 q.args 1)).length) :: s.locket.results.take 15 ∧
        physRd t (at0 0 q.args 0) ((dget s E.sig_CERT).take (at0 0 q.args 1)).length = (dget s E.sig_CERT).take (at0 0 q.args 1)) ∧
    (∀ (s : State), (lktState s ≠ 1 ∨ s.locket.queue = []) → exec .lktDone s = .next s))

/-- Hand-over of blocks, trusted contexts, the watchdog, debug unlock and halts: HANDOVER_RELEASE (R380), HANDOVER_GRANT (R380), TCTX
(R377), TSUBMIT (R377), WATCHDOG_SERVICE (R383), LKT_RESTART (R383), LKT_RESUMED (R384), FAILED_SERIES_RESET (R385), UNLOCK_VERIFIED
(R393), SIGNET_READY (R389), DEBUG_HALT_REQUEST (R391). Model choices it rests on: log 105, 144, 148, 149, 155. -/
def Obligations.TrustedWorldLendsAndWatches : Prop :=
  -- HANDOVER_RELEASE (R380)
  ((∀ (s : State) (b : Nat) (h : Hand), 0x10 ≤ b → b < 0x20 → handOf s b = some h → h.resetting = false →
        cvBusy s (b - 16) = false → ∃ t, exec (.handoverRelease b) s = .next t ∧ (∃ h', handOf t b = some h' ∧ h'.resetting = true ∧
        h'.target = h.target)) ∧
    (∀ (s : State) (b : Nat), handOf s b = none → exec (.handoverRelease b) s = .next s) ∧
    (∀ (s : State) (b : Nat), cvBusy s (b - 16) = true → exec (.handoverRelease b) s = .next s)) ∧
  -- HANDOVER_GRANT (R380)
  ((∀ (s : State) (b : Nat) (h : Hand), 0x10 ≤ b → b < 0x20 → handOf s b = some h → h.resetting = true → 4096 ≤ h.target →
        pdOn s 2 = true → ∃ t, exec (.handoverGrant b) s = .next t ∧ handOf t b = none ∧ rd t (E.cvu_OWNER (b - 16)) = h.target ∧
        tget (fun _ => 0) t.locket.grants b = (tget (fun _ => 0) s.locket.grants b + 1) % 2 ^ 32 ∧
        rd t E.lkt_HANDOVERS = satInc (rd s E.lkt_HANDOVERS) 1 ∧
        t.out = .event false .ownChanged [(b : Int), (h.target : Int)] :: s.out ∧ cvOf t (b - 16) = { poly := h.poly }) ∧
    (∀ (s : State) (b : Nat) (h : Hand), handOf s b = some h → h.resetting = false → exec (.handoverGrant b) s = .next s) ∧
    (∀ (s : State) (b : Nat), handOf s b = none → exec (.handoverGrant b) s = .next s)) ∧
  -- TCTX (R377)
  ((∀ (s : State) (n d : Nat), lktState s = 1 → pdOn s 2 = true → n < 4 → rctxOf s (trustedKey n) = none →
        renderDescOk (leVal (physRd s d 64)) (renderDesc (leVal (physRd s d 64))) 1 = true →
        (renderDesc (leVal (physRd s d 64))).binShare ≤ 4 →
        exec (.tctx n true d) s = .next (emit (addRender s (trustedKey n) { renderDesc (leVal (physRd s d 64)) with units := trustedUnits }) (.msg .mailbox [0, 0] []))) ∧
    (∀ (s : State) (n d : Nat), lktState s = 1 → pdOn s 2 = true → n < 4 → (rctxOf s (trustedKey n)).isSome = true →
        exec (.tctx n true d) s = .next (emit s (.msg .mailbox [0x0103, 0] []))) ∧
    (∀ (s : State) (n d : Nat) (x : RCtx), lktState s = 1 → pdOn s 2 = true → n < 4 → rctxOf s (trustedKey n) = some x →
        exec (.tctx n false d) s = .next (emit (setRctx s (trustedKey n) (some { x with leaving := max 1 x.leaving })) (.msg .mailbox [0, 0] []))) ∧
    (∀ (s : State) (n d : Nat), lktState s = 1 → pdOn s 2 = true → n < 4 → rctxOf s (trustedKey n) = none →
        exec (.tctx n false d) s = .next (emit s (.msg .mailbox [0x0100, 0] []))) ∧
    (∀ (s : State) (n d : Nat) (b : Bool), lktState s = 1 → pdOn s 2 = true → 4 ≤ n →
        exec (.tctx n b d) s = .next (emit s (.msg .mailbox [4, 0] [])))) ∧
  -- TSUBMIT (R377)
  ((∀ (s : State) (n r : Nat) (x : RCtx) (b : Sub), lktState s = 1 → pdOn s 2 = true → n < 4 → rctxOf s (trustedKey n) = some x →
        checkSubmit s (trustedKey n) x r = .accept b →
        exec (.tsubmit n r) s = .next (emit (enqueueSub s (trustedKey n) x b) (.msg .mailbox [0, (b.fence : Int)] []))) ∧
    (∀ (s : State) (n r k : Nat) (x : RCtx), lktState s = 1 → pdOn s 2 = true → n < 4 → rctxOf s (trustedKey n) = some x →
        checkSubmit s (trustedKey n) x r = .code k → exec (.tsubmit n r) s = .next (emit s (.msg .mailbox [(k : Int), 0] []))) ∧
    (∀ (s : State) (n r : Nat), lktState s = 1 → pdOn s 2 = true → n < 4 → rctxOf s (trustedKey n) = none →
        exec (.tsubmit n r) s = .next (emit s (.msg .mailbox [0x0100, 0] [])))) ∧
  -- WATCHDOG_SERVICE (R383)
  ((∀ (s : State), lktState s ≤ 1 → exec .watchdogService s = .next { s with locket := { s.locket with served := s.time } }) ∧
    (∀ (s : State), 2 ≤ lktState s → exec .watchdogService s = .next s)) ∧
  -- LKT_RESTART (R383)
  ((∀ (s : State), (lktState s = 1 ∨ lktState s = 2 ∨ (lktState s = 0 ∧ 2 ≤ s.boot.step)) →
        rd s E.lkt_FAILED_SERIES + b2n (restartFailed s) < 3 → pdOn s 2 = true → ∃ t, exec .lktRestart s = .next t ∧
        lktState t = 2 ∧ rd t E.lkt_RESTARTS = satInc (rd s E.lkt_RESTARTS) 1 ∧ rd t E.lkt_LAST_RESTART = s.time ∧
        rd t E.lkt_FAILED_SERIES = rd s E.lkt_FAILED_SERIES + b2n (restartFailed s) ∧ t.locket.resumed = none ∧
        t.field.lasting.contains (0x5050, rd t E.lkt_FAILED_SERIES + 1) = true ∧
        t.out.head? = some (.event false .lktRestart [(rd t E.lkt_FAILED_SERIES : Int) + 1]) ∧ t.locket.queue = s.locket.queue) ∧
    (∀ (s : State), (lktState s = 1 ∨ lktState s = 2) → 3 ≤ rd s E.lkt_FAILED_SERIES + b2n (restartFailed s) → ∃ t,
        exec .lktRestart s = .next t ∧ lktState t = 3 ∧ rd t E.lkt_FAILED_SERIES = 3 ∧ t.locket.queue = [] ∧ t.boot.fault = true ∧
        faultN t = true ∧ t.field.lasting.contains (0x5051, 3) = true) ∧
    (∀ (s : State), lktState s = 3 → exec .lktRestart s = .next s)) ∧
  -- LKT_RESUMED (R384)
  ((∀ (s : State), lktState s = 2 → s.boot.step ≠ 3 → ∃ t, exec .lktResumed s = .next t ∧ lktState t = 1 ∧
        t.locket.resumed = some s.time ∧ t.locket.served = s.time ∧ t.locket.queue = []) ∧
    (∀ (s : State), lktState s ≠ 2 → s.boot.step ≠ 3 → exec .lktResumed s = .next s)) ∧
  -- FAILED_SERIES_RESET (R385)
  ((∀ (s : State), lktState s = 1 →
        exec .failedSeriesReset s = .next (wr { s with locket := { s.locket with resumed := none } } E.lkt_FAILED_SERIES 0)) ∧
    (∀ (s : State), lktState s ≠ 1 → exec .failedSeriesReset s = .next s)) ∧
  -- UNLOCK_VERIFIED (R393)
  ((∀ (s : State), rd s E.dbg_UNLOCK_STATE = 2 → lktState s = 1 → pdOn s 2 = true → ∃ t, exec .unlockVerified s = .next t ∧
        t.locket.response = [] ∧ (unlocks s s.locket.mask (challengeBytes s) s.locket.response = true →
        rd t E.dbg_UNLOCK_STATE = 3 ∧
        rd t E.dbg_DEBUG_STATE = (bitsOf 4 s.locket.mask).foldl (fun v i => setBit v i true) (rd s E.dbg_DEBUG_STATE) ∧
        t.out = .event false .debugUnlocked [(rd t E.dbg_DEBUG_STATE : Int)] :: s.out ∧
        rd t E.dbg_UNLOCK_FAILS = rd s E.dbg_UNLOCK_FAILS) ∧ (unlocks s s.locket.mask (challengeBytes s) s.locket.response = false →
        rd t E.dbg_UNLOCK_FAILS = satInc (rd s E.dbg_UNLOCK_FAILS) 1 ∧
        rd t E.dbg_UNLOCK_STATE = (if 8 ≤ satInc (rd s E.dbg_UNLOCK_FAILS) 1 then 5 else 4) ∧
        rd t E.dbg_DEBUG_STATE = rd s E.dbg_DEBUG_STATE)) ∧
    (∀ (s : State), (rd s E.dbg_UNLOCK_STATE ≠ 2 ∨ lktState s ≠ 1) → exec .unlockVerified s = .next s)) ∧
  -- SIGNET_READY (R389)
  ((∀ (s : State), rd s E.sig_SIGNET_STATE = 1 → lktState s = 1 →
        exec .signetReady s = .next (wr (dput s E.sig_REPORT (report s s.locket.nonce)) E.sig_SIGNET_STATE 2)) ∧
    (∀ (s : State), (rd s E.sig_SIGNET_STATE ≠ 1 ∨ lktState s ≠ 1) → exec .signetReady s = .next s)) ∧
  -- DEBUG_HALT_REQUEST (R391)
  ((∀ (s : State) (c : CCore), bitOf (rd s E.dbg_DEBUG_STATE) 0 = true → s.locket.halted.contains c.val = false →
        exec (.debugHaltRequest (.control c)) s = .next { s with locket := { s.locket with halted := s.locket.halted ++ [c.val] } }) ∧
    (∀ (s : State), bitOf (rd s E.dbg_DEBUG_STATE) 2 = true → s.locket.halted.contains 4 = false →
        exec (.debugHaltRequest .trustedCore) s = .next { s with locket := { s.locket with halted := s.locket.halted ++ [4] } }) ∧
    (∀ (s : State) (n : RCore) (h : Hart), bitOf (rd s E.dbg_DEBUG_STATE) 0 = true → ∃ t,
        exec (.debugHaltRequest (.shading n h)) s = .next t ∧
        hartOf (coreOf t n.val) h.val = { hartOf (coreOf s n.val) h.val with halted := true } ∧ t.od = s.od ∧ t.mem = s.mem) ∧
    (∀ (s : State) (c : CCore), bitOf (rd s E.dbg_DEBUG_STATE) 0 = false → exec (.debugHaltRequest (.control c)) s = .next s) ∧
    (∀ (s : State) (n : RCore) (h : Hart), bitOf (rd s E.dbg_DEBUG_STATE) 0 = false →
        exec (.debugHaltRequest (.shading n h)) s = .next s) ∧
    (∀ (s : State), bitOf (rd s E.dbg_DEBUG_STATE) 2 = false → exec (.debugHaltRequest .trustedCore) s = .next s))

/-- The JTAG instructions of the loupe: JTAG_EXTEST (R390), JTAG_IDCODE (R390), JTAG_SAMPLE_PRELOAD (R390), JTAG_EXTEST_PULSE (R390),
JTAG_EXTEST_TRAIN (R390), JTAG_DTMCS (R390), JTAG_DMI (R390), JTAG_LOUPE_MBOX (R390), JTAG_BYPASS (R390). Model choices it rests on: log
151, 152, 153, 154. -/
def Obligations.JtagInstructionsOfTheLoupe : Prop :=
  -- JTAG_EXTEST (R390)
  ((∀ (s : State) (p : Nat), s.boot.resetN = true → ∃ t, exec (.jtagExtest p) s = .next t ∧
        t.locket.tap = { s.locket.tap with reset := false, ir := 0, boundary := p } ∧
        t.out = .msg .jtag [0, (p : Int)] [] :: s.out ∧ t.od = s.od) ∧
    (∀ (s : State) (p : Nat), s.boot.resetN = false → ∃ t, exec (.jtagExtest p) s = .next t ∧
        t.locket.tap = { s.locket.tap with reset := false, ir := 0x1F } ∧ t.out = .msg .jtag [0x1F] [] :: s.out ∧ t.od = s.od)) ∧
  -- JTAG_IDCODE (R390)
  (∀ (s : State), ∃ t, exec .jtagIdcode s = .next t ∧ t.locket.tap = { s.locket.tap with reset := false, ir := 1 } ∧
        t.out = .msg .jtag [1, ((0xD016 * 2 ^ 12 + Sys2Proof.Config.jep106.toNat * 2 + 1 : Nat) : Int)] [] :: s.out ∧ t.od = s.od) ∧
  -- JTAG_SAMPLE_PRELOAD (R390)
  (∀ (s : State) (p : Nat), ∃ t, exec (.jtagSamplePreload p) s = .next t ∧
        t.locket.tap = { s.locket.tap with reset := false, ir := 2, boundary := p } ∧
        t.out = .msg .jtag [2, (Sys2Proof.Config.freeNat s.free : Int)] [] :: s.out ∧ t.od = s.od) ∧
  -- JTAG_EXTEST_PULSE (R390)
  (∀ (s : State) (p : Nat), s.boot.resetN = true → ∃ t, exec (.jtagExtestPulse p) s = .next t ∧
        t.locket.tap = { s.locket.tap with reset := false, ir := 3, boundary := p } ∧
        t.out = .msg .jtag [3, (p : Int)] [] :: s.out ∧ t.od = s.od) ∧
  -- JTAG_EXTEST_TRAIN (R390)
  (∀ (s : State) (p : Nat), s.boot.resetN = true → ∃ t, exec (.jtagExtestTrain p) s = .next t ∧
        t.locket.tap = { s.locket.tap with reset := false, ir := 4, boundary := p } ∧
        t.out = .msg .jtag [4, (p : Int)] [] :: s.out ∧ t.od = s.od) ∧
  -- JTAG_DTMCS (R390)
  (∀ (s : State) (v : JtagShift), ∃ t w, exec (.jtagDtmcs v) s = .next t ∧ t.locket.tap.ir = 0x10 ∧
        t.out = .msg .jtag [0x10, w] [] :: s.out ∧ w % 16 = 1 ∧ ((bitOf v 16 = true ∨ bitOf v 17 = true) → t.locket.tap.dmiOp = 0 ∧
        t.locket.tap.dmiAddr = 0 ∧ t.locket.tap.dmiData = 0) ∧ t.od = s.od) ∧
  -- JTAG_DMI (R390)
  ((∀ (s : State) (v : JtagShift), fld v 0 2 ≠ 1 → fld v 0 2 ≠ 2 →
        exec (.jtagDmi v) s = .next (emit { s with locket := { s.locket with tap := { s.locket.tap with reset := false, ir := 0x11, dmiAddr := v / 2 ^ 34, dmiData := fld v 2 32, dmiOp := fld v 0 2 } } } (.msg .jtag [0x11, ((s.control.dm.result * 4 + s.locket.tap.dmiAddr * 2 ^ 34 : Nat) : Int)] []))) ∧
    (∀ (s : State) (c : CCore), bitOf (rd s E.dbg_DEBUG_STATE) 0 = true → s.locket.halted.contains c.val = false → ∃ t,
        exec (.jtagDmi (2 + 4 * (2 ^ 31 + 2 ^ 16 * c.val + 1) + 0x10 * 2 ^ 34)) s = .next t ∧
        t.locket.halted = s.locket.halted ++ [c.val] ∧ t.control.dm.active = true ∧ t.control.dm.sel = c.val ∧
        t.control.cpus = s.control.cpus ∧ t.od = s.od) ∧
    (∀ (s : State) (c : CCore), bitOf (rd s E.dbg_DEBUG_STATE) 0 = false → ∃ t,
        exec (.jtagDmi (2 + 4 * (2 ^ 31 + 2 ^ 16 * c.val + 1) + 0x10 * 2 ^ 34)) s = .next t ∧ t.locket.halted = s.locket.halted ∧
        t.od = s.od) ∧
    (∀ (s : State) (n : Nat), 1 ≤ n → n < 32 → s.control.dm.active = true → s.control.dm.cmderr = 0 → s.control.dm.sel < 5 →
        s.locket.halted.contains s.control.dm.sel = true → ∃ t,
        exec (.jtagDmi (2 + 4 * (3 * 2 ^ 20 + 2 ^ 17 + 2 ^ 16 + 0x1000 + n) + 0x17 * 2 ^ 34)) s = .next t ∧
        tget (fun _ => 0) (cpuOf t s.control.dm.sel).x n = (tget (fun _ => 0) s.control.dm.data 0 + 2 ^ 32 * tget (fun _ => 0) s.control.dm.data 1) % 2 ^ 64 ∧
        (∀ m, m ≠ n → tget (fun _ => 0) (cpuOf t s.control.dm.sel).x m = tget (fun _ => 0) (cpuOf s s.control.dm.sel).x m) ∧ (∀ k,
        k ≠ s.control.dm.sel → cpuOf t k = cpuOf s k) ∧ t.control.dm.cmderr = 0) ∧
    (∀ (s : State), s.control.dm.active = true → s.control.dm.cmderr = 0 → s.control.dm.sel < 5 →
        s.locket.halted.contains s.control.dm.sel = false → ∃ t,
        exec (.jtagDmi (2 + 4 * (3 * 2 ^ 20 + 2 ^ 17 + 2 ^ 16 + 0x1001) + 0x17 * 2 ^ 34)) s = .next t ∧
        t.control.cpus = s.control.cpus ∧ t.control.dm.cmderr = 4)) ∧
  -- JTAG_LOUPE_MBOX (R390)
  ((∀ (s : State) (v : JtagShift), s.locket.tap.mbox.length < 92 → ∃ t, exec (.jtagLoupeMbox v) s = .next t ∧
        t.locket.tap = { s.locket.tap with reset := false, ir := 0x18, mbox := s.locket.tap.mbox ++ leBytes 4 v, mboxPos := (s.locket.tap.mboxPos + 1) % 12 } ∧
        t.out = .msg .jtag [0x18, (leVal (slice (challengeBytes s) (4 * s.locket.tap.mboxPos) 4) : Int)] [] :: s.out ∧ t.od = s.od) ∧
    (∀ (s : State) (v : JtagShift), s.locket.tap.mbox.length = 92 → rd s E.dbg_UNLOCK_STATE = 1 → s.locket.open_ = true → ∃ t,
        exec (.jtagLoupeMbox v) s = .next t ∧ t.locket.response = s.locket.tap.mbox ++ leBytes 4 v ∧ rd t E.dbg_UNLOCK_STATE = 2 ∧
        t.locket.open_ = false ∧ t.locket.tap.mbox = [])) ∧
  -- JTAG_BYPASS (R390)
  (∀ (s : State) (ir : BitVec 5), [0, 1, 2, 3, 4, 0x10, 0x11, 0x18].contains ir.toNat = false → ∃ t,
        exec (.jtagBypass ir) s = .next t ∧ t.locket.tap = { s.locket.tap with reset := false, ir := 0x1F } ∧
        t.out = .msg .jtag [0x1F] [] :: s.out ∧ t.od = s.od)

/-- The causes of a device reset and what it leaves: POWER_ON_RESET (R444), RESET_N (R444), ESC_RESET_SEQUENCE (R96), SUPPLY_RESET (R430),
THERMAL_TRIP (R432), TRIAL_IMAGE_FAIL (R450), JTAG_TAP_RESET (R458). Model choices it rests on: log 7, 22, 80, 156, 169, 170. -/
def Obligations.DeviceResetsLeaveDefaults : Prop :=
  -- POWER_ON_RESET (R444)
  (∀ (s : State), ∃ t, exec .powerOnReset s = .next t ∧ (∀ k,
        rd t k = if k = E.hm_HOURS then s.flash.hours else if k = E.glob_RESET_REASON then 1 else if k = E.dbg_DEBUG_OTP then rd s E.dbg_DEBUG_OTP else odDefault k) ∧
        t.mem = [] ∧ t.dom = [] ∧ t.boot = { heldAt := some 0, resetN := s.boot.resetN } ∧ t.time = 0 ∧ t.pending = s.pending ∧
        t.out = s.out ∧ t.flash = s.flash ∧ t.cameo = { engraving := s.cameo.engraving } ∧
        t.locket = { debugKey := s.locket.debugKey }) ∧
  -- RESET_N (R444)
  ((∀ (s : State), s.boot.held = false → ∃ t, exec .resetN s = .next t ∧ afterReset s t 2 ∧ t.boot.resetN = true) ∧
    (∀ (s : State), s.boot.held = true → s.boot.heldAt = some s.time →
        exec .resetN s = .next (wr { s with boot := { s.boot with resetN := true } } E.glob_RESET_REASON (min 2 (rd s E.glob_RESET_REASON))))) ∧
  -- ESC_RESET_SEQUENCE (R96)
  ((∀ (s : State), s.boot.held = false → ∃ t, exec (.escResetSequence 0x52 0x45 0x53) s = .next t ∧ afterReset s t 3) ∧
    (∀ (s : State) (a b c : Byte), ¬ (a = 0x52 ∧ b = 0x45 ∧ c = 0x53) → exec (.escResetSequence a b c) s = .next s)) ∧
  -- SUPPLY_RESET (R430)
  ((∀ (s : State) (r : Rail) (a b : Nat), s.boot.held = false → a * 1000 < threshold s r.val (rd s (E.sup_RESET r.val)) →
        b * 1000 < threshold s r.val (rd s (E.sup_RESET r.val)) → ∃ t, exec (.supplyReset r [a, b]) s = .next t ∧
        afterReset s t (0x10 + r.val) ∧ t.boot.supplyRail = some r.val ∧ (∀ n, n = rd s E.slog_NEXT_SLOT → 1 ≤ n → n ≤ 16 →
        rd t (slotKey 0x2130 n) = s.time % 2 ^ 64 + 2 ^ 64 * (3 + 256 * r.val) + 2 ^ 96 * ofInt 32 (lowest [a, b]))) ∧
    (∀ (s : State) (r : Rail) (l : List Nat), (l.length ≠ 2 ∨ ∃ v ∈ l, threshold s r.val (rd s (E.sup_RESET r.val)) ≤ v * 1000) →
        exec (.supplyReset r l) s = .next s)) ∧
  -- THERMAL_TRIP (R432)
  ((∀ (s : State) (n : Sensor) (v : Int), s.boot.held = false → 1250 ≤ v → ∃ t, exec (.thermalTrip n v) s = .next t ∧
        afterReset s t (0x20 + n.val) ∧ (∀ m, m = rd s E.slog_NEXT_SLOT → 1 ≤ m → m ≤ 16 →
        rd t (slotKey 0x2130 m) = s.time % 2 ^ 64 + 2 ^ 64 * (6 + 256 * n.val) + 2 ^ 96 * ofInt 32 v)) ∧
    (∀ (s : State) (n : Sensor) (v : Int), v < 1250 → exec (.thermalTrip n v) s = .next s)) ∧
  -- TRIAL_IMAGE_FAIL (R450)
  ((∀ (s : State), s.boot.held = false → s.boot.step = 5 → lktState s ≠ 3 → (imgOf s s.flash.open_).trial = true →
        s.flash.open_ < s.flash.imgs.length → ∃ t, exec .trialImageFail s = .next t ∧ rd t E.glob_RESET_REASON = 0x30 ∧
        t.boot.held = true ∧ (imgOf t s.flash.open_).rejected = true ∧ (imgOf t s.flash.open_).trial = false) ∧
    (∀ (s : State), s.boot.held = false → 2 ≤ s.boot.step → s.boot.step < 6 → lktState s = 3 →
        (imgOf s s.flash.trusted).trial = true → s.flash.trusted < s.flash.imgs.length → ∃ t, exec .trialImageFail s = .next t ∧
        rd t E.glob_RESET_REASON = 0x31 ∧ t.boot.held = true ∧ (imgOf t s.flash.trusted).rejected = true ∧
        (imgOf t s.flash.trusted).trial = false) ∧
    (∀ (s : State), (s.boot.held = true ∨ s.boot.step < 2 ∨ 6 ≤ s.boot.step) → exec .trialImageFail s = .next s)) ∧
  -- JTAG_TAP_RESET (R458)
  (∀ (s : State), exec .jtagTapReset s = .next { s with locket := { s.locket with tap := {} } })

/-- The boot steps, memory training and the touch supply: BOOT_START (R447). Model choices it rests on: log 106, 171, 172, 173, 174, 178. -/
def Obligations.BootStepsReachTheDictionary : Prop :=
  -- BOOT_START (R447)
  ((∀ (s : State) (i : Nat), (s.boot.held = true ∨ (s.boot.step = 0 ∧ s.boot.failure = 0)) → bootSlot s 2 = some i → ∃ t,
        exec .bootStart s = .next t ∧ t.boot.held = false ∧ t.boot.resetN = false ∧ t.boot.step = 3 ∧ t.boot.ready = true ∧
        lktState t = 1 ∧ t.flash.trusted = i ∧ rd t E.id_TRUSTED_VERSION = Sys2Proof.Config.imageVersion (imgOf s i).bytes ∧
        rd t E.mem_LOCKET_SIZE = 128 + 64 * (Sys2Proof.Config.locketUnits (imgOf s i).bytes).val) ∧
    (∀ (s : State), (s.boot.held = true ∨ (s.boot.step = 0 ∧ s.boot.failure = 0)) → bootSlot s 2 = none → ∃ t,
        exec .bootStart s = .next t ∧ t.boot.failure = 1 ∧ t.boot.fault = true ∧ faultN t = true ∧ t.boot.step = 1 ∧
        lktState t = lktState s) ∧
    (∀ (s : State), s.boot.held = false → s.boot.step ≠ 0 → s.boot.step ≠ 5 → exec .bootStart s = .next s))

/-- Requests to the DRAM and the decisions that take them to the command queue: DRAM_READ_REQUEST (R352), DRAM_WRITE_REQUEST (R352),
ARBITER_DECISION (R46), BUDGET_WINDOW_END (R47). Model choices it rests on: log 128, 129, 137, 139, 141, 180, 181. -/
def Obligations.DramRequestsReachTheQueue : Prop :=
  -- DRAM_READ_REQUEST (R352)
  ((∀ (s : State) (l : Leaf) (w : DramWhy) (a n p : Nat), memReady s = true → byCore w = false → 0 < n → a % 64 + n ≤ 64 →
        (resolveReq s { leaf := l, why := w, addr := a, len := n } false).1 = some p → physical s p n = true →
        txRoom s l (channelOf s p).1 = true →
        exec (.dramReadRequest { leaf := l, why := w, addr := a, len := n }) s = .next (settleLeaves (enterTx s l w p n none))) ∧
    (∀ (s : State) (l : Leaf) (w : DramWhy) (a n k path : Nat), memReady s = true → byCore w = false → 0 < n → a % 64 + n ≤ 64 →
        resolveReq s { leaf := l, why := w, addr := a, len := n } false = (none, k, path) →
        exec (.dramReadRequest { leaf := l, why := w, addr := a, len := n }) s = .next (settleLeaves (refuseReq s { leaf := l, why := w, addr := a, len := n } false k path))) ∧
    (∀ (s : State) (l : Leaf) (w : DramWhy) (a n p : Nat), memReady s = true → byCore w = false → 0 < n → a % 64 + n ≤ 64 →
        (resolveReq s { leaf := l, why := w, addr := a, len := n } false).1 = some p → physical s p n = false →
        exec (.dramReadRequest { leaf := l, why := w, addr := a, len := n }) s = .fault .noSuchPhysicalAddress) ∧
    (∀ (s : State) (r : DramReq), memReady s = false → byCore r.why = false → exec (.dramReadRequest r) s = .next s) ∧
    (∀ (s : State) (k : Fin 5) (gate fetch : Bool) (a n : Nat) (t : State) (bs : List Byte), (k.val = 4 ∨ pdOn s 2 = true) →
        s.locket.halted.contains k.val = false → 0 < n → a % 64 + n ≤ 64 → coreRead s k.val gate fetch (a / 64) = some (t, bs) →
        exec (.dramReadRequest { leaf := .firmware, why := .core k gate fetch, addr := a, len := n }) s = .next (send t .fabric [0] (slice bs (a % 64) n)))) ∧
  -- DRAM_WRITE_REQUEST (R352)
  ((∀ (s : State) (l : Leaf) (w : DramWhy) (a n p : Nat) (d : List Byte), memReady s = true → byCore w = false → 0 < d.length →
        a % 64 + d.length ≤ 64 → (resolveReq s { leaf := l, why := w, addr := a, len := d.length } true).1 = some p →
        physical s p d.length = true → txRoom s l (channelOf s p).1 = true → ∃ t,
        exec (.dramWriteRequest { leaf := l, why := w, addr := a, len := n } d) s = .next t ∧ t.out = .msg .fabric [2] [] :: s.out ∧
        (∀ i, i < d.length → memRd t (p + i) = at0 0 d i) ∧ (∀ x, x < p ∨ p + d.length ≤ x → memRd t x = memRd s x) ∧ t.mem = s.mem) ∧
    (∀ (s : State) (l : Leaf) (w : DramWhy) (a n k path : Nat) (d : List Byte), memReady s = true → byCore w = false →
        0 < d.length → a % 64 + d.length ≤ 64 → resolveReq s { leaf := l, why := w, addr := a, len := d.length } true = (none, k,
        path) →
        exec (.dramWriteRequest { leaf := l, why := w, addr := a, len := n } d) s = .next (settleLeaves (refuseReq s { leaf := l, why := w, addr := a, len := d.length } true k path))) ∧
    (∀ (s : State) (l : Leaf) (w : DramWhy) (a n p : Nat) (d : List Byte), memReady s = true → byCore w = false → 0 < d.length →
        a % 64 + d.length ≤ 64 → (resolveReq s { leaf := l, why := w, addr := a, len := d.length } true).1 = some p →
        physical s p d.length = false →
        exec (.dramWriteRequest { leaf := l, why := w, addr := a, len := n } d) s = .fault .noSuchPhysicalAddress) ∧
    (∀ (s : State) (k : Fin 5) (gate : Bool) (a n : Nat) (t : State) (d : List Byte), (k.val = 4 ∨ pdOn s 2 = true) →
        s.locket.halted.contains k.val = false → 0 < d.length → a % 64 + d.length ≤ 64 →
        coreWrite s k.val gate (a / 64) (a % 64) d = some t →
        exec (.dramWriteRequest { leaf := .firmware, why := .core k gate false, addr := a, len := n } d) s = .next (send t .fabric [2] []))) ∧
  -- ARBITER_DECISION (R46)
  ((∀ (s : State) (ch : Chan) (g : Func) (x : DramTx), levelOne s ch.val = [x] → leafGuest s x.leaf = some g.val → x.stage = 0 →
        ∃ t, exec (.arbiterDecision (.clients ch g)) s = .next t ∧
        t.memc.txs = s.memc.txs.map (fun y => if y.id = x.id then { y with stage := 1 } else y) ∧ t.od = s.od) ∧
    (∀ (s : State) (ch : Chan) (x : DramTx), levelOne s ch.val = [x] → atLevelTwo s x = true → leafClass x.leaf = 2 →
        capped s ch.val (branchOf s x.leaf) = false → branchOf s x.leaf < 64 → tget (fun _ => 0) s.ten.window ch.val < 4096 → ∃ t,
        exec (.arbiterDecision (.guests ch 2)) s = .next t ∧
        t.memc.txs = s.memc.txs.map (fun y => if y.id = x.id then { y with stage := 2 } else y) ∧
        tget (fun _ => 0) t.ten.window ch.val = tget (fun _ => 0) s.ten.window ch.val + 1 ∧
        tget (fun _ => 0) t.ten.grants (ch.val * 64 + branchOf s x.leaf) = tget (fun _ => 0) s.ten.grants (ch.val * 64 + branchOf s x.leaf) + 1 ∧
        t.od = s.od) ∧
    (∀ (s : State) (ch : Chan) (cls : Fin 4) (x : DramTx), levelOne s ch.val = [x] → atLevelTwo s x = true →
        leafClass x.leaf = cls.val → cls.val ≠ 2 → branchOf s x.leaf ≥ 64 → ∃ t,
        exec (.arbiterDecision (.guests ch cls)) s = .next t ∧
        t.memc.txs = s.memc.txs.map (fun y => if y.id = x.id then { y with stage := 2 } else y) ∧ t.ten.window = s.ten.window ∧
        t.ten.grants = s.ten.grants ∧ t.od = s.od) ∧
    (∀ (s : State) (ch : Chan) (x : DramTx), levelOne s ch.val = [x] → x.stage = 2 →
        slotFree (queued s ch.val) x.write (leafClass x.leaf) = true → ∃ t, exec (.arbiterDecision (.classes ch)) s = .next t ∧
        t.memc.txs = s.memc.txs.map (fun y => if y.id = x.id then { y with stage := 3 } else y))) ∧
  -- BUDGET_WINDOW_END (R47)
  ((∀ (s : State) (ch : Chan), 4096 ≤ tget (fun _ => 0) s.ten.window ch.val → ∃ t, exec (.budgetWindowEnd ch) s = .next t ∧
        tget (fun _ => 0) t.ten.window ch.val = 0 ∧ (∀ g, g < 64 → tget (fun _ => 0) t.ten.grants (ch.val * 64 + g) = 0 ∧
        budgetOf t ch.val g = 16 * rd s (E.guest_BUDGET g)) ∧ t.od = s.od) ∧
    (∀ (s : State) (ch : Chan), tget (fun _ => 0) s.ten.window ch.val < 4096 → exec (.budgetWindowEnd ch) s = .next s))

/-- Columns, refresh, temperature, power-down, scrubbing and training of the memory controller: DRAM_COMMAND_SLOT (R350), REFRESH_ACCRUAL
(R354), MR4_READ (R355), POWER_DOWN_ENTRY (R357), MEM_SR_ENTER (R357), MEM_SR_EXIT (R357), SCRUB_PASS (R359), TRAIN_DONE (R362). Model
choices it rests on: log 130, 131, 132, 133, 134, 135, 138, 140. -/
def Obligations.DramCommandsKeepTheirTurn : Prop :=
  -- DRAM_COMMAND_SLOT (R350)
  ((∀ (s : State) (ch : Chan) (x : DramTx) (n : Nat), chanActive s ch.val = true → noRefresh s ch.val = true →
        columnReady s ch.val x = true → x.write = false → ∃ t, exec (.dramCommandSlot ch .none n) s = .next t ∧
        t.out = .msg .fabric [0, (x.id : Int)] ((rangeFrom x.addr x.len).map (dramByte s)) :: s.out ∧
        t.memc.txs.all (fun y => y.id != x.id) = true ∧ t.mem = s.mem ∧ t.od = s.od) ∧
    (∀ (s : State) (ch : Chan) (x : DramTx) (n : Nat), chanActive s ch.val = true → noRefresh s ch.val = true →
        columnReady s ch.val x = true → x.write = true → x.data.length = x.len → ∃ t,
        exec (.dramCommandSlot ch .none n) s = .next t ∧ t.out = s.out ∧ t.memc.txs.all (fun y => y.id != x.id) = true ∧ (∀ i,
        i < x.len → dramByte t (x.addr + i) = (at0 none x.data i).getD (dramByte s (x.addr + i))) ∧ (∀ a, a < x.addr ∨
        x.addr + x.len ≤ a → dramByte t a = dramByte s a) ∧ t.od = s.od) ∧
    (∀ (s : State) (ch : Chan) (x : DramTx) (n : Nat), chanActive s ch.val = true → noRefresh s ch.val = true →
        columnReady s ch.val x = true → x.write = false → inForce s E.mem_INLINE_ECC = 1 → (∀ r, x.leaf ≠ .host r) →
        pdOn s 2 = true → ∃ t, exec (.dramCommandSlot ch .double n) s = .next t ∧
        t.out.head? = some (.msg .fabric [1, (x.id : Int)] []) ∧
        rd t (E.chan_UNCORRECTED x.chan) = satInc (rd s (E.chan_UNCORRECTED x.chan)) 1 ∧
        t.memc.txs.all (fun y => y.id != x.id) = true ∧ t.mem = s.mem) ∧
    (∀ (s : State) (ch : Chan) (e : DramErr) (n : Nat), chanActive s ch.val = false → exec (.dramCommandSlot ch e n) s = .next s)) ∧
  -- REFRESH_ACCRUAL (R354)
  ((∀ (s : State) (ch : Chan) (r : Fin 2), chanActive s ch.val = true → r.val < rankCount s → ∃ t,
        exec (.refreshAccrual ch r) s = .next t ∧
        rankOf (chanOf t ch.val) r.val = { rankOf (chanOf s ch.val) r.val with owed := (rankOf (chanOf s ch.val) r.val).owed + 16, accrual := nowNs s } ∧
        rd t (E.chan_OWED_MAX ch.val) = max (rd s (E.chan_OWED_MAX ch.val)) (min ((rankOf (chanOf s ch.val) r.val).owed + 16) 65535) ∧
        entriesKept [E.chan_OWED_MAX ch.val] s t) ∧
    (∀ (s : State) (ch : Chan) (r : Fin 2), (chanActive s ch.val = false ∨ rankCount s ≤ r.val) →
        exec (.refreshAccrual ch r) s = .next s)) ∧
  -- MR4_READ (R355)
  ((∀ (s : State) (ch : Chan) (r : Fin 2) (a : Nat), chanActive s ch.val = true → r.val < rankCount s →
        (rankOf (chanOf s ch.val) r.val).first = true → 2 < a → (rankOf (chanOf s ch.val) r.val).mult ≠ 4 → pdOn s 2 = true → ∃ t,
        exec (.mr4Read ch r a false) s = .next t ∧ (rankOf (chanOf t ch.val) r.val).mult = 4 ∧
        (rankOf (chanOf t ch.val) r.val).first = false ∧
        t.out.contains (.event false .refreshRate [(ch.val : Int), (r.val : Int), 4]) = true ∧ t.mem = s.mem) ∧
    (∀ (s : State) (ch : Chan) (r : Fin 2) (a : Nat), chanActive s ch.val = true → r.val < rankCount s →
        (rankOf (chanOf s ch.val) r.val).first = false → a ≤ 1 → (rankOf (chanOf s ch.val) r.val).mult = 2 →
        (rankOf (chanOf s ch.val) r.val).lower = 0 → ∃ t, exec (.mr4Read ch r a true) s = .next t ∧
        rankOf (chanOf t ch.val) r.val = { rankOf (chanOf s ch.val) r.val with lower := 1 } ∧
        rd t (E.chan_RETRAINS ch.val) = satInc (rd s (E.chan_RETRAINS ch.val)) 1 ∧ t.mem = s.mem) ∧
    (∀ (s : State) (ch : Chan) (r : Fin 2) (a : Nat) (b : Bool), (chanActive s ch.val = false ∨ rankCount s ≤ r.val) →
        exec (.mr4Read ch r a b) s = .next s)) ∧
  -- POWER_DOWN_ENTRY (R357)
  ((∀ (s : State) (ch : Chan) (r : Fin 2), chanActive s ch.val = true → r.val < rankCount s →
        s.memc.txs.any (fun t => t.chan == ch.val) = false → ∃ t, exec (.powerDownEntry ch r) s = .next t ∧
        (rankOf (chanOf t ch.val) r.val).down = true ∧ (rankCount s = 1 → chanState t ch.val = 3) ∧
        entriesKept [E.chan_STATE ch.val] s t ∧ t.mem = s.mem) ∧
    (∀ (s : State) (ch : Chan) (r : Fin 2), (chanActive s ch.val = false ∨ rankCount s ≤ r.val) →
        exec (.powerDownEntry ch r) s = .next s)) ∧
  -- MEM_SR_ENTER (R357)
  ((∀ (s : State) (ch : Chan), chanActive s ch.val = true → chanWaits s ch.val = false → 10 ≤ lowestTolerance s →
        lowestTolerance s < 60 → pdOn s 2 = true → ∃ t, exec (.memSrEnter ch) s = .next t ∧ chanState t ch.val = 4 ∧
        rd t (E.chan_SR_ENTRIES ch.val) = satInc (rd s (E.chan_SR_ENTRIES ch.val)) 1 ∧
        t.out = .event false .memSrEnter [(ch.val : Int)] :: s.out ∧ (∀ r, r < rankCount s →
        (rankOf (chanOf t ch.val) r).owed = 0) ∧ t.mem = s.mem) ∧
    (∀ (s : State) (ch : Chan), chanState s ch.val ≠ 4 → (chanActive s ch.val = false ∨ chanWaits s ch.val = true ∨
        lowestTolerance s < 10) → exec (.memSrEnter ch) s = .next s)) ∧
  -- MEM_SR_EXIT (R357)
  ((∀ (s : State) (ch : Chan), chanState s ch.val = 4 → (chanWaits s ch.val = true ∨ lowestTolerance s ≤ 2) → pdOn s 2 = true →
        ∃ t, exec (.memSrExit ch) s = .next t ∧ chanState t ch.val = 2 ∧ t.out = .event false .memSrExit [(ch.val : Int)] :: s.out ∧
        (∀ r, r < rankCount s → (rankOf (chanOf t ch.val) r).owed = 0 ∧ (rankOf (chanOf t ch.val) r).accrual = nowNs s) ∧
        t.mem = s.mem) ∧
    (∀ (s : State) (ch : Chan), chanState s ch.val = 4 → chanWaits s ch.val = false → 2 < lowestTolerance s →
        exec (.memSrExit ch) s = .next s) ∧
    (∀ (s : State) (ch : Chan), chanState s ch.val ≠ 4 → chanState s ch.val ≠ 5 → exec (.memSrExit ch) s = .next s)) ∧
  -- SCRUB_PASS (R359)
  ((∀ (s : State), rd s E.mem_SCRUB_HOURS ≠ 0 → memReady s = true → exec .scrubPass s = .next (raise s .scrubPass [])) ∧
    (∀ (s : State), (rd s E.mem_SCRUB_HOURS = 0 ∨ memReady s = false) → exec .scrubPass s = .next s)) ∧
  -- TRAIN_DONE (R362)
  ((∀ (s : State) (f : BitVec 8), rd s E.mem_MEM_STATE = 1 → s.boot.step ≠ 3 → pdOn s 2 = true → (∀ c ∈ fitted s,
        bitOf f.toNat c = false) → ∃ t, exec (.trainDone f) s = .next t ∧ rd t E.mem_MEM_STATE = 2 ∧
        rd t E.mem_CAPACITY = installed (inForce s E.mem_CHANNEL_MASK) (inForce s E.mem_RANKS) (inForce s E.mem_DENSITY) / 2 ^ 20 ∧
        rd t E.mem_USABLE = usableMb (inForce s E.mem_CHANNEL_MASK) (inForce s E.mem_RANKS) (inForce s E.mem_DENSITY) (inForce s E.mem_INLINE_ECC) ∧
        (∀ c ∈ fitted s, chanState t c = 2) ∧ t.out = .event false .trainDone [(trainKind s : Int)] :: s.out ∧
        t.flash.training = some (trainKey s) ∧ t.mem = s.mem) ∧
    (∀ (s : State) (f : BitVec 8), rd s E.mem_MEM_STATE = 1 → s.boot.step ≠ 3 → pdOn s 2 = true → (∃ c ∈ fitted s,
        bitOf f.toNat c = true) → ∃ t, exec (.trainDone f) s = .next t ∧ rd t E.mem_MEM_STATE = 3 ∧ (∀ c ∈ fitted s,
        chanState t c = if bitOf f.toNat c then 6 else 2) ∧ t.out = .event false .trainFail [(trainKind s : Int)] :: s.out ∧
        t.flash = s.flash ∧ t.mem = s.mem) ∧
    (∀ (s : State) (f : BitVec 8), rd s E.mem_MEM_STATE ≠ 1 → exec (.trainDone f) s = .next s))

/-- Beats, flags and values across a domain crossing: LINK_BEAT (R400), FLAG_EVENT (R401), VALUE_WRITE (R403), VALUE_CAPTURE (R402),
VALUE_ACKNOWLEDGE (R403), XING_TIMEOUT (R405), XING_CLOCK_RESUMED (R406). Model choices it rests on: log 157. -/
def Obligations.CrossingsCarryBeatsAndValues : Prop :=
  -- LINK_BEAT (R400)
  ((∀ (s : State) (x : Xing) (side : XSide) (v : Nat) (d : BeatDest), hasLink x.val = true → (xingState s x.val = 0 ∨
        xingState s x.val = 1) → trustedOnly s x.val side v d = false → (halfAt (xingOf s x.val) side).beats = [] → ∃ t,
        exec (.linkBeat x side v d false true) s = .next t ∧
        t.out = .msg .fabric [0, (x.val : Int), (b2n side : Int), (v : Int)] [] :: s.out ∧
        (halfAt (xingOf t x.val) side).beats = [] ∧ t.od = s.od) ∧
    (∀ (s : State) (x : Xing) (side : XSide) (v w : Nat) (r : List Nat) (d : BeatDest), hasLink x.val = true →
        (xingState s x.val = 0 ∨ xingState s x.val = 1) → (halfAt (xingOf s x.val) side).beats = w :: r → ∃ t,
        exec (.linkBeat x side v d true true) s = .next t ∧
        t.out = .msg .fabric [0, (x.val : Int), (b2n side : Int), (w : Int)] [] :: s.out ∧
        (halfAt (xingOf t x.val) side).beats = r ++ [v] ∧ t.od = s.od) ∧
    (∀ (s : State) (x : Xing) (side : XSide) (v : Nat) (d : BeatDest), hasLink x.val = true → (xingState s x.val = 0 ∨
        xingState s x.val = 1) → (halfAt (xingOf s x.val) side).beats.length < 8 → ∃ t,
        exec (.linkBeat x side v d true false) s = .next t ∧ t.out = s.out ∧
        (halfAt (xingOf t x.val) side).beats = (halfAt (xingOf s x.val) side).beats ++ [v] ∧
        (halfAt (xingOf t x.val) side).since.isSome = true ∧ t.od = s.od) ∧
    (∀ (s : State) (x : Xing) (side : XSide) (v : Nat) (d : BeatDest) (a b : Bool), hasLink x.val = true → (xingState s x.val = 4 ∨
        xingState s x.val = 5) → exec (.linkBeat x side v d a b) s = .next (emit s (.msg .fabric [1, (x.val : Int), (v : Int)] []))) ∧
    (∀ (s : State) (x : Xing) (side : XSide) (v : Nat) (d : BeatDest) (b : Bool), hasLink x.val = true → (xingState s x.val = 0 ∨
        xingState s x.val = 1) → trustedOnly s x.val side v d = true →
        exec (.linkBeat x side v d false b) s = .next (emit (violate s 0x09 5 v none none) (.msg .fabric [1, (x.val : Int), (v : Int)] []))) ∧
    (∀ (s : State) (x : Xing) (side : XSide) (v : Nat) (d : BeatDest) (a b : Bool), hasLink x.val = false →
        exec (.linkBeat x side v d a b) s = .next s)) ∧
  -- FLAG_EVENT (R401)
  ((∀ (s : State) (x : Xing) (side : XSide) (v : Nat), hasFlags x.val = true → xingState s x.val = 0 → ∃ t,
        exec (.flagEvent x side (.event v)) s = .next t ∧
        halfAt (xingOf t x.val) side = { halfAt (xingOf s x.val) side with level := v } ∧
        t.out = .msg .fabric [2, (x.val : Int), (b2n side : Int), (v : Int)] [] :: s.out ∧ t.od = s.od) ∧
    (∀ (s : State) (x : Xing) (side : XSide) (v : Nat), hasFlags x.val = true → xingState s x.val = 1 →
        flagsIdle (halfAt (xingOf s x.val) side) = true → ∃ t, exec (.flagEvent x side (.event v)) s = .next t ∧
        halfAt (xingOf t x.val) side = { halfAt (xingOf s x.val) side with level := v, flagSince := some s.time } ∧
        t.out = .msg .fabric [2, (x.val : Int), (b2n side : Int), (v : Int)] [] :: s.out ∧ t.od = s.od) ∧
    (∀ (s : State) (x : Xing) (side : XSide) (v : Nat), hasFlags x.val = true → (2 ≤ xingState s x.val ∨ (xingState s x.val = 1 ∧
        flagsIdle (halfAt (xingOf s x.val) side) = false)) → ∃ t, exec (.flagEvent x side (.event v)) s = .next t ∧ t.out = s.out ∧
        halfAt (xingOf t x.val) side = { halfAt (xingOf s x.val) side with level := v, events := min ((halfAt (xingOf s x.val) side).events + 1) 0xFFFF } ∧
        t.od = s.od) ∧
    (∀ (s : State) (x : Xing) (side : XSide), hasFlags x.val = true → xingState s x.val = 1 →
        (halfAt (xingOf s x.val) side).flagSince.isSome = true → 0 < (halfAt (xingOf s x.val) side).events → ∃ t,
        exec (.flagEvent x side .acknowledged) s = .next t ∧
        halfAt (xingOf t x.val) side = { halfAt (xingOf s x.val) side with events := (halfAt (xingOf s x.val) side).events - 1, flagSince := some s.time } ∧
        t.out = .msg .fabric [2, (x.val : Int), (b2n side : Int), ((halfAt (xingOf s x.val) side).level : Int)] [] :: s.out ∧
        t.od = s.od) ∧
    (∀ (s : State) (x : Xing) (side : XSide), hasFlags x.val = true → xingState s x.val = 1 →
        (halfAt (xingOf s x.val) side).flagSince.isSome = true → (halfAt (xingOf s x.val) side).events = 0 → ∃ t,
        exec (.flagEvent x side .acknowledged) s = .next t ∧
        halfAt (xingOf t x.val) side = { halfAt (xingOf s x.val) side with flagSince := none } ∧ t.out = s.out ∧ t.od = s.od) ∧
    (∀ (s : State) (x : Xing) (side : XSide) (f : FlagStep), hasFlags x.val = false → exec (.flagEvent x side f) s = .next s)) ∧
  -- VALUE_WRITE (R403)
  ((∀ (s : State) (x : Xing) (side : XSide) (v : Nat), hasValues x.val = true → (xingState s x.val = 0 ∨ xingState s x.val = 1) →
        (halfAt (xingOf s x.val) side).hold = none → ∃ t, exec (.valueWrite x side v) s = .next t ∧
        halfAt (xingOf t x.val) side = { halfAt (xingOf s x.val) side with hold := some v, acked := false, holdSince := some s.time } ∧
        (xingOf t x.val).coalesced = (xingOf s x.val).coalesced ∧ t.od = s.od ∧ t.out = s.out) ∧
    (∀ (s : State) (x : Xing) (side : XSide) (v : Nat), hasValues x.val = true → (halfAt (xingOf s x.val) side).hold.isSome = true →
        ∃ t, exec (.valueWrite x side v) s = .next t ∧
        halfAt (xingOf t x.val) side = { halfAt (xingOf s x.val) side with slot := some v } ∧
        (xingOf t x.val).coalesced = satInc (xingOf s x.val).coalesced (b2n (halfAt (xingOf s x.val) side).slot.isSome) ∧
        t.od = s.od ∧ t.out = s.out) ∧
    (∀ (s : State) (x : Xing) (side : XSide) (v : Nat), hasValues x.val = false → exec (.valueWrite x side v) s = .next s)) ∧
  -- VALUE_CAPTURE (R402)
  ((∀ (s : State) (x : Xing) (side : XSide) (v : Nat), (xingState s x.val = 0 ∨ xingState s x.val = 1) →
        (halfAt (xingOf s x.val) side).hold = some v → (halfAt (xingOf s x.val) side).acked = false → ∃ t,
        exec (.valueCapture x side) s = .next t ∧
        halfAt (xingOf t x.val) side = { halfAt (xingOf s x.val) side with seen := v, acked := true } ∧ t.od = s.od ∧ t.out = s.out) ∧
    (∀ (s : State) (x : Xing) (side : XSide), ((halfAt (xingOf s x.val) side).hold = none ∨
        (halfAt (xingOf s x.val) side).acked = true ∨ 2 ≤ xingState s x.val) → exec (.valueCapture x side) s = .next s)) ∧
  -- VALUE_ACKNOWLEDGE (R403)
  ((∀ (s : State) (x : Xing) (side : XSide) (w : Option Nat), (halfAt (xingOf s x.val) side).acked = true → ∃ t,
        exec (.valueAcknowledge x side w) s = .next t ∧
        (halfAt (xingOf t x.val) side).hold = (match w with | some v => some v | none => (halfAt (xingOf s x.val) side).slot) ∧
        (halfAt (xingOf t x.val) side).slot = none ∧ (halfAt (xingOf t x.val) side).acked = false ∧
        (xingOf t x.val).coalesced = satInc (xingOf s x.val).coalesced (b2n (w.isSome && (halfAt (xingOf s x.val) side).slot.isSome)) ∧
        t.od = s.od ∧ t.out = s.out) ∧
    (∀ (s : State) (x : Xing) (side : XSide), (halfAt (xingOf s x.val) side).acked = false →
        exec (.valueAcknowledge x side none) s = .next s)) ∧
  -- XING_TIMEOUT (R405)
  ((∀ (s : State) (x : Xing) (side : XSide), ((halfAt (xingOf s x.val) side).since.isSome = true ∨
        (halfAt (xingOf s x.val) side).flagSince.isSome = true ∨ (halfAt (xingOf s x.val) side).holdSince.isSome = true) →
        xingState s x.val ≤ 2 → pdOn s 2 = true → rd s E.xlog_NEXT_SLOT ≤ 16 → ∃ t, exec (.xingTimeout x side) s = .next t ∧
        (xingOf t x.val).state = 3 ∧ (xingOf t x.val).side = (!side) ∧ (halfAt (xingOf t x.val) side).beats = [] ∧
        (xingOf t x.val).timeouts = satInc (xingOf s x.val).timeouts 1 ∧ rd t E.xing_TIMEOUTS = satInc (rd s E.xing_TIMEOUTS) 1 ∧
        t.out.head? = some (.event false .xingTimeout [(x.val : Int)]) ∧ (xingOf t x.val).slot = rd s E.xlog_NEXT_SLOT ∧
        fld (rd t (slotKey 0x2042 (rd s E.xlog_NEXT_SLOT))) 64 12 = x.val + 2 ^ 8 * 1) ∧
    (∀ (s : State) (x : Xing) (side : XSide), (((halfAt (xingOf s x.val) side).since = none ∧
        (halfAt (xingOf s x.val) side).flagSince = none ∧ (halfAt (xingOf s x.val) side).holdSince = none) ∨
        3 ≤ xingState s x.val) → exec (.xingTimeout x side) s = .next s)) ∧
  -- XING_CLOCK_RESUMED (R406)
  ((∀ (s : State) (x : Xing), (xingOf s x.val).state = 3 → ∃ t, exec (.xingClockResumed x) s = .next t ∧
        (xingOf t x.val).state = 4 ∧ (xingOf t x.val).a.beats = [] ∧ (xingOf t x.val).b.beats = [] ∧
        (islandState s (sideIsland x.val (xingOf s x.val).side) = 3 → islandState t (sideIsland x.val (xingOf s x.val).side) = 5) ∧
        t.od = s.od ∧ t.out = s.out) ∧
    (∀ (s : State) (x : Xing), (xingOf s x.val).state ≠ 3 → exec (.xingClockResumed x) s = .next s))

/-- Island resets, reset notices and the rejoin: ISLAND_RESET_REQUEST (R409), XING_NOTICE (R410), XING_REJOIN (R411), PERST_N (R411),
ISLAND_RESET_RELEASE (R408), ISLAND_CLOCK_STABLE (R399). Model choices it rests on: log 157, 158, 159. -/
def Obligations.IslandResetsEndInRejoin : Prop :=
  -- ISLAND_RESET_REQUEST (R409)
  ((∀ (s : State) (i : Island), resetRefused s i.val = true → heldBlock s i.val = none → pdOn s 2 = true → ∃ t,
        exec (.islandResetRequest i none) s = .next t ∧ rd t E.xing_RESET_REFUSED = satInc (rd s E.xing_RESET_REFUSED) 1 ∧
        t.out = .event false .xingResetRefused [(i.val : Int)] :: .msg .fabric [1] [] :: s.out ∧ t.isl.islands = s.isl.islands ∧
        t.isl.xings = s.isl.xings) ∧
    (∀ (s : State) (i : Island) (x : Xing), pdOn s 2 = true → ∃ t, exec (.islandResetRequest i (some x)) s = .next t ∧
        rd t E.xing_RESET_REFUSED = satInc (rd s E.xing_RESET_REFUSED) 1 ∧ t.isl.islands = s.isl.islands ∧
        t.isl.xings = s.isl.xings) ∧
    (∀ (s : State) (i : Island), i.val = 13 ∨ i.val = 14 ∨ i.val = 17 ∨ i.val = 18 ∨ i.val = 20 ∨ i.val = 21 →
        resetRefused s i.val = false → heldBlock s i.val = none → islandState s i.val ≠ 0 → inTest s = false →
        s.power.gated.contains i.val = false → ∃ t, exec (.islandResetRequest i none) s = .next t ∧ islandState t i.val = 1)) ∧
  -- XING_NOTICE (R410)
  ((∀ (s : State) (side : XSide), (∀ i, i < 22 → islandState s i ≠ 0) → sideIsland 37 side ≠ 2 →
        islandState s (sideIsland 37 side) ≠ 1 → (xingOf s 37).state ≠ 4 → inTest s = false → s.power.gated = [] → pdOn s 2 = true →
        ∃ t, exec (.xingNotice 37 side) s = .next t ∧ (xingOf t 37).state = 4 ∧ (xingOf t 37).side = side ∧
        (xingOf t 37).resets = satInc (xingOf s 37).resets 1 ∧ islandState t 21 = 1 ∧
        rd t E.xing_NOTICES = satInc (rd s E.xing_NOTICES) 1 ∧ t.out.head? = some (.event false .xingNotice [37])) ∧
    (∀ (s : State) (x : Xing) (side : XSide), (resetClass x.val ≠ 1 ∨ sideIsland x.val side = 2 ∨
        islandState s (sideIsland x.val side) = 0) → exec (.xingNotice x side) s = .next s)) ∧
  -- XING_REJOIN (R411)
  ((∀ (s : State), (xingOf s 37).state = 4 → (xingOf s 37).side = true → (islandState s 2 = 2 ∨ islandState s 2 = 3) →
        (∃ x ∈ xingsOf 2, x.1 ≠ 37 ∧ (xingOf s x.1).state = 4) → pdOn s 2 = true → ∃ t, exec (.xingRejoin 37) s = .next t ∧
        xingOf t 37 = { xingOf s 37 with state := 0, a := relaunch s (xingOf s 37).a, b := relaunch s (xingOf s 37).b } ∧
        t.od = s.od ∧
        t.out = .event false .xingRejoin [37] :: .msg .fabric [2, 37, 1, ((xingOf s 37).b.level : Int)] [] :: .msg .fabric [2, 37, 0, ((xingOf s 37).a.level : Int)] [] :: s.out) ∧
    (∀ (s : State) (x : Xing), resetClass x.val ≠ 1 → (xingOf s x.val).state = 4 →
        islandState s (sideIsland x.val (xingOf s x.val).side) = 5 → inTest s = false → s.power.gated = [] → ∃ t,
        exec (.xingRejoin x) s = .next t ∧ (xingOf t x.val).state = 0 ∧ islandState t (sideIsland x.val (xingOf s x.val).side) = 3) ∧
    (∀ (s : State) (x : Xing), ((xingOf s x.val).state ≠ 4 ∨ islandState s (sideIsland x.val (xingOf s x.val).side) = 1) →
        exec (.xingRejoin x) s = .next s)) ∧
  -- PERST_N (R411)
  ((∀ (s : State), (s.boot.step < 6 ∨ islandState s 21 = 0) → exec .perstN s = .next s) ∧
    (∀ (s : State), 6 ≤ s.boot.step → (∀ i, i < 22 → islandState s i ≠ 0) → islandState s 21 ≠ 1 → (xingOf s 37).state ≠ 4 →
        inTest s = false → s.power.gated = [] → pdOn s 2 = true → ∃ t, exec .perstN s = .next t ∧ (xingOf t 37).state = 4 ∧
        islandState t 21 = 1 ∧ t.out.head? = some (.event false .xingNotice [37]))) ∧
  -- ISLAND_RESET_RELEASE (R408)
  ((∀ (s : State) (i : Island), islandState s i.val = 1 → pdOn s (islandDomain i.val) = true → inTest s = false →
        s.power.gated = [] → (i.val = 13 ∨ i.val = 14) → ∃ t, exec (.islandResetRelease i) s = .next t ∧ islandState t i.val = 2) ∧
    (∀ (s : State) (i : Island), (islandState s i.val ≠ 1 ∨ pdOn s (islandDomain i.val) = false) →
        exec (.islandResetRelease i) s = .next s)) ∧
  -- ISLAND_CLOCK_STABLE (R399)
  ((∀ (s : State) (i : Island), islandState s i.val = 5 → inTest s = false → s.power.gated = [] →
        exec (.islandClockStable i) s = .next (setIsland s i.val 3) ∧ islandState (setIsland s i.val 3) i.val = 3) ∧
    (∀ (s : State) (i : Island), islandState s i.val = 2 → (∃ p ∈ xingsOf i.val, (xingOf s p.1).state = 4) →
        exec (.islandClockStable i) s = .next s) ∧
    (∀ (s : State) (i : Island), islandState s i.val ≠ 5 → islandState s i.val ≠ 2 → exec (.islandClockStable i) s = .next s))

/-- EtherCAT states, process data, the alarm timeout and the stamp: AL_STATE_REQUEST (R99), AL_STATE_CONFIRM (R99), SM2_WATCHDOG_EXPIRY
(R99), MII_LINK_CHANGE (R96), SYNC0 (R101), SM2_BUFFER_COMPLETE (R101), FREE_RUN_OUTPUT_TAKE (R101), ALARM_TIMEOUT (R109), SYNC0_STAMP
(R102), SII_ALIAS_WRITE (R96). Model choices it rests on: log 68, 69, 70, 71, 74, 75, 76. -/
def Obligations.EtherCatStatesAndProcessData : Prop :=
  -- AL_STATE_REQUEST (R99)
  ((∀ (s : State) (st : AlState), s.boot.held = false → alRefusal s (alCode st) = 0 →
        exec (.alStateRequest st) s = .next { s with field := { s.field with alHeld := some (alCode st) } }) ∧
    (∀ (s : State) (st : AlState), s.boot.held = false → alRefusal s (alCode st) ≠ 0 → ∃ t, exec (.alStateRequest st) s = .next t ∧
        t.field = { s.field with alStatus := alRefusal s (alCode st), alHeld := none } ∧
        t.out = .msg .al [(s.field.al : Int), (alRefusal s (alCode st) : Int)] [] :: s.out ∧ t.od = s.od) ∧
    (∀ (s : State) (st : AlState), s.boot.held = true → exec (.alStateRequest st) s = .next s)) ∧
  -- AL_STATE_CONFIRM (R99)
  ((∀ (s : State), s.field.alHeld = some 4 → s.field.al = 2 → alRefusal s 4 = 0 → rd s E.hm_EPOCH_STATE ≠ 2 → ∃ t,
        exec .alStateConfirm s = .next t ∧ t.field.al = 4 ∧ t.field.alStatus = 0 ∧ t.field.alHeld = none ∧
        t.field.syncMode = rd s E.sync2_SYNC_MODE ∧ t.field.sm3 = s.field.sm3 ∧ t.field.buffers = [] ∧
        t.out.head? = some (.msg .al [4, 0] []) ∧ t.od = s.od) ∧
    (∀ (s : State), s.field.alHeld = some 8 → s.field.al = 4 → rd s E.hm_EPOCH_STATE ≠ 2 → ∃ t, exec .alStateConfirm s = .next t ∧
        t.field.al = 8 ∧ t.field.alHeld = none ∧ t.out.head? = some (.msg .al [8, 0] []) ∧ t.od = s.od ∧ (pdSource s = 0 →
        t.field.trigRef = false)) ∧
    (∀ (s : State), s.field.alHeld = some 8 → s.field.al = 4 → pdSource s = 0 → rd s E.hm_EPOCH_STATE = 2 → pdOn s 2 = true → ∃ t,
        exec .alStateConfirm s = .next t ∧ t.field.al = 8 ∧ rd t E.hm_EPOCH_STATE = 1 ∧
        t.out.head? = some (.event false .epochDone [1])) ∧
    (∀ (s : State), s.field.alHeld = some 1 → s.field.al = 8 → pdSource s = 0 → ∃ t, exec .alStateConfirm s = .next t ∧
        t.field.al = 1 ∧ t.field.alStatus = initStatus s ∧ bitOf (rd t E.pdo_PD_STATUS) 0 = false ∧ t.field.seqRef = none ∧
        t.field.lasting.contains (0x8780, 0) = true) ∧
    (∀ (s : State), s.field.alHeld = none → exec .alStateConfirm s = .next s) ∧
    (∀ (s : State), s.field.alHeld = some 2 → s.boot.step < 6 → exec .alStateConfirm s = .next s)) ∧
  -- SM2_WATCHDOG_EXPIRY (R99)
  ((∀ (s : State), s.field.al = 8 → ∃ t, exec .sm2WatchdogExpiry s = .next t ∧ t.field.al = 4 ∧ t.field.alStatus = 0x001B ∧
        t.field.buffers = [] ∧ t.out.head? = some (.msg .al [4, 0x001B] []) ∧ (pdSource s = 0 → t.field.lasting.contains (0x8780,
        0) = true ∧ bitOf (rd t E.pdo_PD_STATUS) 0 = false)) ∧
    (∀ (s : State), s.field.al ≠ 8 → exec .sm2WatchdogExpiry s = .next s)) ∧
  -- MII_LINK_CHANGE (R96)
  (∀ (s : State) (p : Fin 2) (b : Bool),
        exec (.miiLinkChange p b) s = .next { s with field := { s.field with link := setAt s.field.link p.val b } }) ∧
  -- SYNC0 (R101)
  ((∀ (s : State) (n : Nat), s.field.syncMode = 2 → s.field.al = 4 → ∃ t, exec (.sync0 n) s = .next t ∧
        t.field = { s.field with dcSync0 := true, sysTime := n % 2 ^ 64, sm3 := inputBytes t (ecatMap s false) } ∧
        t.out = .msg (.pdo 0) [] (inputBytes t (ecatMap s false)) :: s.out ∧ t.od = s.od) ∧
    (∀ (s : State) (n : Nat), (s.field.syncMode ≠ 2 ∨ (s.field.al ≠ 4 ∧ s.field.al ≠ 8)) →
        exec (.sync0 n) s = .next { s with field := { s.field with dcSync0 := true, sysTime := n % 2 ^ 64 } })) ∧
  -- SM2_BUFFER_COMPLETE (R101)
  ((∀ (s : State) (bs : List Byte), bs.length = smLen s 2 → s.field.al = 8 → s.field.syncMode ≠ 1 → pdSource s = 0 → ∃ t,
        exec (.sm2BufferComplete bs) s = .next t ∧
        t.field = { s.field with buffers := (s.time, bs) :: s.field.buffers, esc := t.field.esc } ∧ (∀ j, j < bs.length →
        tget (fun _ => 0) t.field.esc (smStart s 2 + j) = (at0 0 bs j).toNat) ∧ t.od = s.od ∧ t.out = s.out) ∧
    (∀ (s : State) (bs : List Byte), bs.length = smLen s 2 → s.field.al = 8 → s.field.syncMode ≠ 1 → pdSource s ≠ 0 →
        exec (.sm2BufferComplete bs) s = .next (bump (escStore s (smStart s 2) bs) E.comm_FOREIGN_PD)) ∧
    (∀ (s : State) (bs : List Byte), bs.length ≠ smLen s 2 → exec (.sm2BufferComplete bs) s = .next s)) ∧
  -- FREE_RUN_OUTPUT_TAKE (R101)
  ((∀ (s : State) (at_ : Nat) (bs : List Byte) (l : List (Nat × List Byte)), s.field.syncMode = 0 → s.field.al = 8 →
        s.field.buffers = (at_, bs) :: l → pdSource s = 0 → ∃ t, exec .freeRunOutputTake s = .next t ∧ t.field.buffers = [] ∧
        rd t E.comm_PD_CYCLES = (rd s E.comm_PD_CYCLES + 1) % 2 ^ 32 ∧ t.field.sm3 = inputBytes t (ecatMap t false)) ∧
    (∀ (s : State), s.field.syncMode = 0 → s.field.al = 4 →
        exec .freeRunOutputTake s = .next (if inputBytes s (ecatMap s false) = s.field.sm3 then s else snapshot s)) ∧
    (∀ (s : State), (s.field.syncMode ≠ 0 ∨ (s.field.al ≠ 4 ∧ s.field.al ≠ 8)) → exec .freeRunOutputTake s = .next s)) ∧
  -- ALARM_TIMEOUT (R109)
  ((∀ (s : State), s.field.timedOut = false → ∃ t, exec .alarmTimeout s = .next t ∧ t.field.timedOut = true ∧
        bitOf (rd t E.pdo_PD_STATUS) 0 = false ∧ t.field.seqRef = none ∧ t.field.lasting.contains (0x8780, 1) = true ∧ (∀ k, k < 8 →
        rd t (E.pdo_ALARM_STATE k) = if rd s E.comm_ALARM_SAFE = 1 then 0xFFFFFFFF else rd s (E.pdo_ALARM_STATE k))) ∧
    (∀ (s : State), s.field.timedOut = true → exec .alarmTimeout s = .next s)) ∧
  -- SYNC0_STAMP (R102)
  ((∀ (s : State) (v : Nat), (∀ h, h < 16 → rd s (E.head_LOCK_EN h) ≠ 1 ∨ rd s (E.head_LOCK_STATE h) ≠ 3) →
        exec (.sync0Stamp v) s = .next { s with field := { s.field with stamp := some v, stampAt := s.time } }) ∧
    (∀ (s : State) (v : Nat), ∃ t, exec (.sync0Stamp v) s = .next t ∧ t.field.stamp = some v ∧ t.field.stampAt = s.time)) ∧
  -- SII_ALIAS_WRITE (R96)
  ((∀ (s : State) (v : BitVec 16),
        exec (.siiAliasWrite 4 v) s = .next (emit { s with flash := { s.flash with station := v.toNat } } (.msg .al [0] []))) ∧
    (∀ (s : State) (a : Nat) (v : BitVec 16), a ≠ 4 → exec (.siiAliasWrite a v) s = .next (emit s (.msg .al [1] []))))

/-- The CANopen FD nodes and emergency messages: NMT_START (R103), NMT_STOP (R103), NMT_ENTER_PREOP (R103), NMT_RESET_NODE (R103),
NMT_RESET_COMM (R103), HEARTBEAT (R103), CAN_SYNC (R103), RPDO_RECEIVE (R104), TPDO_TRANSMIT (R104), CAN_BUS_OFF (R103),
CAN_BUS_OFF_RECOVERED (R103), CAN_ERROR_PASSIVE (R112), CAN_ERROR_PASSIVE_END (R111), CAN_OVERRUN (R112), EMCY_SEND (R111). Model
choices it rests on: log 72, 73, 77. -/
def Obligations.CanNodesAndEmergencies : Prop :=
  -- NMT_START (R103)
  ((∀ (s : State) (n : Can), canAlive (canOf s n.val) = true → ∃ t, exec (.nmtStart n) s = .next t ∧
        canOf t n.val = { canOf s n.val with nmt := 5 } ∧ (rd s E.hm_EPOCH_STATE ≠ 2 → t.od = s.od ∧ t.out = s.out) ∧
        (rd s E.hm_EPOCH_STATE = 2 → pdSource s = n.val + 1 → rd t E.hm_EPOCH_STATE = 1)) ∧
    (∀ (s : State) (n : Can), canAlive (canOf s n.val) = false → exec (.nmtStart n) s = .next s)) ∧
  -- NMT_STOP (R103)
  ((∀ (s : State) (n : Can), canAlive (canOf s n.val) = true → ∃ t, exec (.nmtStop n) s = .next t ∧
        canOf t n.val = { canOf s n.val with nmt := 4 } ∧ (rd s E.hm_EPOCH_STATE ≠ 2 → t.out = s.out) ∧ ((canOf s n.val).nmt = 5 →
        pdSource s = n.val + 1 → bitOf (rd t E.pdo_PD_STATUS) 0 = false ∧ t.field.lasting.contains (0x8780, 0) = true)) ∧
    (∀ (s : State) (n : Can), canAlive (canOf s n.val) = false → exec (.nmtStop n) s = .next s)) ∧
  -- NMT_ENTER_PREOP (R103)
  ((∀ (s : State) (n : Can), canAlive (canOf s n.val) = true → ∃ t, exec (.nmtEnterPreop n) s = .next t ∧
        canOf t n.val = { canOf s n.val with nmt := 127 } ∧ (rd s E.hm_EPOCH_STATE ≠ 2 → t.out = s.out)) ∧
    (∀ (s : State) (n : Can), canAlive (canOf s n.val) = false → exec (.nmtEnterPreop n) s = .next s)) ∧
  -- NMT_RESET_NODE (R103)
  ((∀ (s : State) (n : Can), canAlive (canOf s n.val) = true → ∃ t, exec (.nmtResetNode n) s = .next t ∧ restarted s t n.val) ∧
    (∀ (s : State) (n : Can), canAlive (canOf s n.val) = false → exec (.nmtResetNode n) s = .next s)) ∧
  -- NMT_RESET_COMM (R103)
  ((∀ (s : State) (n : Can), canAlive (canOf s n.val) = true → ∃ t, exec (.nmtResetComm n) s = .next t ∧ restarted s t n.val) ∧
    (∀ (s : State) (n : Can), canAlive (canOf s n.val) = false → exec (.nmtResetComm n) s = .next s)) ∧
  -- HEARTBEAT (R103)
  ((∀ (s : State) (n : Can), canAlive (canOf s n.val) = true → rd s E.pdoc_HEARTBEAT ≠ 0 →
        exec (.heartbeat n) s = .next (emit s (.msg (.can n.val) [0x700 + ((canOf s n.val).nodeId : Int)] [BitVec.ofNat 8 (canOf s n.val).nmt]))) ∧
    (∀ (s : State) (n : Can), (canAlive (canOf s n.val) = false ∨ rd s E.pdoc_HEARTBEAT = 0) → exec (.heartbeat n) s = .next s)) ∧
  -- CAN_SYNC (R103)
  ((∀ (s : State) (n : Can), (canAlive (canOf s n.val) = false ∨ (canOf s n.val).nmt ≠ 5) → exec (.canSync n) s = .next s) ∧
    (∀ (s : State) (n : Can), canAlive (canOf s n.val) = true → (canOf s n.val).nmt = 5 → (canOf s n.val).held = [] → (∀ t, t < 8 →
        240 < rd s (E.tpdo_TYPE t)) →
        exec (.canSync n) s = .next (setCan s n.val { canOf s n.val with held := [], syncs := (canOf s n.val).syncs + 1 }))) ∧
  -- RPDO_RECEIVE (R104)
  ((∀ (s : State) (n : Can) (r : Fin 2) (bs : List Byte), canAlive (canOf s n.val) = true → (canOf s n.val).nmt = 5 →
        bitOf (rd s (E.rpdo_COB_ID r.val)) 31 = false → pdSource s ≠ n.val + 1 →
        exec (.rpdoReceive n r bs) s = .next (bump s E.comm_FOREIGN_PD)) ∧
    (∀ (s : State) (n : Can) (r : Fin 2) (bs : List Byte), canAlive (canOf s n.val) = true → (canOf s n.val).nmt = 5 →
        bitOf (rd s (E.rpdo_COB_ID r.val)) 31 = false → pdSource s = n.val + 1 → bs.length < mapLen (pdoMap s (0x1600 + r.val)) →
        exec (.rpdoReceive n r bs) s = .next (emcy s 0x8210 (r.val + 1) (bs.length % 256))) ∧
    (∀ (s : State) (n : Can) (r : Fin 2) (bs : List Byte), canAlive (canOf s n.val) = true → (canOf s n.val).nmt = 5 →
        bitOf (rd s (E.rpdo_COB_ID r.val)) 31 = false → pdSource s = n.val + 1 → mapLen (pdoMap s (0x1600 + r.val)) ≤ bs.length →
        rd s (E.rpdo_TYPE r.val) ≤ 240 →
        exec (.rpdoReceive n r bs) s = .next (setCan s n.val { canOf s n.val with held := tset (fun _ => none) (canOf s n.val).held r.val (some bs) })) ∧
    (∀ (s : State) (n : Can) (r : Fin 2) (bs : List Byte), canAlive (canOf s n.val) = true → (canOf s n.val).nmt = 5 →
        bitOf (rd s (E.rpdo_COB_ID r.val)) 31 = false → pdSource s = n.val + 1 → mapLen (pdoMap s (0x1600 + r.val)) ≤ bs.length →
        240 < rd s (E.rpdo_TYPE r.val) → ∃ t, exec (.rpdoReceive n r bs) s = .next t ∧
        rd t E.comm_PD_CYCLES = (rd s E.comm_PD_CYCLES + 1) % 2 ^ 32) ∧
    (∀ (s : State) (n : Can) (r : Fin 2) (bs : List Byte), (canAlive (canOf s n.val) = false ∨ (canOf s n.val).nmt ≠ 5) →
        exec (.rpdoReceive n r bs) s = .next s)) ∧
  -- TPDO_TRANSMIT (R104)
  ((∀ (s : State) (n : Can) (i : Fin 8) (b : Bool), tpdoOpen s n.val i.val = true → 0xFE ≤ rd s (E.tpdo_TYPE i.val) →
        (tget (fun _ => none) (canOf s n.val).sent i.val ≠ some (tpdoBytes s i.val) ∨ (b = true ∧ rd s (E.tpdo_TIMER i.val) ≠ 0)) →
        ∃ t, exec (.tpdoTransmit n i b) s = .next t ∧ tget (fun _ => none) (canOf t n.val).sent i.val = some (tpdoBytes s i.val) ∧
        t.od = s.od ∧
        t.out = .msg (.pdo (n.val + 1)) [(cobId s (E.tpdo_COB_ID i.val) (canOf s n.val).nodeId : Int)] (tpdoBytes s i.val) :: s.out) ∧
    (∀ (s : State) (n : Can) (i : Fin 8) (b : Bool), (tpdoOpen s n.val i.val = false ∨ rd s (E.tpdo_TYPE i.val) < 0xFE) →
        exec (.tpdoTransmit n i b) s = .next s)) ∧
  -- CAN_BUS_OFF (R103)
  ((∀ (s : State) (n : Can), (canOf s n.val).enabled = true →
        exec (.canBusOff n) s = .next (setCan s n.val { canOf s n.val with busOff := true })) ∧
    (∀ (s : State) (n : Can), (canOf s n.val).enabled = false → exec (.canBusOff n) s = .next s)) ∧
  -- CAN_BUS_OFF_RECOVERED (R103)
  ((∀ (s : State) (n : Can), (canOf s n.val).busOff = true →
        exec (.canBusOffRecovered n) s = .next (emcy (setCan s n.val { canOf s n.val with busOff := false }) 0x8140 n.val 0)) ∧
    (∀ (s : State) (n : Can), (canOf s n.val).busOff = false → exec (.canBusOffRecovered n) s = .next s)) ∧
  -- CAN_ERROR_PASSIVE (R112)
  ((∀ (s : State) (n : Can), (canOf s n.val).enabled = true → (canOf s n.val).errPassive = false →
        exec (.canErrorPassive n) s = .next (lastingEmcy (setCan s n.val { canOf s n.val with errPassive := true }) 0x8120 n.val 0)) ∧
    (∀ (s : State) (n : Can), ((canOf s n.val).enabled = false ∨ (canOf s n.val).errPassive = true) →
        exec (.canErrorPassive n) s = .next s)) ∧
  -- CAN_ERROR_PASSIVE_END (R111)
  ((∀ (s : State) (n : Can), (canOf s n.val).errPassive = true →
        exec (.canErrorPassiveEnd n) s = .next (endLasting (setCan s n.val { canOf s n.val with errPassive := false }) 0x8120 n.val)) ∧
    (∀ (s : State) (n : Can), (canOf s n.val).errPassive = false → exec (.canErrorPassiveEnd n) s = .next s)) ∧
  -- CAN_OVERRUN (R112)
  ((∀ (s : State) (n : Can), (canOf s n.val).enabled = true → exec (.canOverrun n) s = .next (emcy s 0x8110 n.val 0)) ∧
    (∀ (s : State) (n : Can), (canOf s n.val).enabled = false → exec (.canOverrun n) s = .next s)) ∧
  -- EMCY_SEND (R111)
  ((∀ (s : State) (m : Emcy) (l : List Emcy), emcyDue s s.field.emcyQueue = m :: l → emcyPaths s ≠ [] → m.code ≠ 0 → ∃ t,
        exec .emcySend s = .next t ∧ t.field.emcyQueue = l ∧
        t.out = ((emcyPaths s).map (fun i => Out.msg (.emcy i) [(m.code : Int), (m.reg : Int), (emcyCob s i : Int)] (leBytes 5 m.data))).reverse ++ s.out ∧
        rd t E.glob_LAST_EMCY = m.code ∧ rd t (E.err_ERROR_HISTORY 0) = m.code + 65536 * (m.data % 256) ∧ (∀ j, j < 15 →
        rd t (E.err_ERROR_HISTORY (j + 1)) = rd s (E.err_ERROR_HISTORY j)) ∧
        rd t E.err_ERROR_COUNT = min (rd s E.err_ERROR_COUNT + 1) 16) ∧
    (∀ (s : State) (m : Emcy) (l : List Emcy), emcyDue s s.field.emcyQueue = m :: l → emcyPaths s ≠ [] → m.code = 0 → ∃ t,
        exec .emcySend s = .next t ∧ t.field.emcyQueue = l ∧ rd t E.glob_LAST_EMCY = 0 ∧ (∀ j, j < 16 →
        rd t (E.err_ERROR_HISTORY j) = rd s (E.err_ERROR_HISTORY j)) ∧ rd t E.err_ERROR_COUNT = rd s E.err_ERROR_COUNT) ∧
    (∀ (s : State), emcyPaths s = [] → exec .emcySend s = .next s) ∧
    (∀ (s : State), emcyPaths s ≠ [] → emcyDue s s.field.emcyQueue = [] →
        exec .emcySend s = .next { s with field := { s.field with emcyQueue := [] } }))

/-- Files over FoE: FOE_WRITE_DICT (R113), FOE_READ_STORED (R113), FOE_READ_HALLMARK (R113), FOE_WRITE_OPEN_IMAGE (R114),
FOE_WRITE_TRUSTED_IMAGE (R114), FOE_BUSY (R113), FIRMWARE_VERIFIED (R114). Model choices it rests on: log 49, 50. -/
def Obligations.FilesOverFoE : Prop :=
  -- FOE_WRITE_DICT (R113)
  ((∀ (s : State) (pw : Nat) (bs : List Byte), s.field.al ≠ 1 → s.field.al ≠ 3 → pw ≤ 3 → 524288 < bs.length →
        exec (.foeWriteDict true pw bs) s = .next (emit s (.msg .foe [0x8003] []))) ∧
    (∀ (s : State) (pw : Nat) (bs : List Byte), s.field.al ≠ 1 → s.field.al ≠ 3 → 3 < pw →
        exec (.foeWriteDict true pw bs) s = .next (emit s (.msg .foe [0x8002] []))) ∧
    (∀ (s : State) (pw : Nat) (bs : List Byte), s.field.al = 3 →
        exec (.foeWriteDict true pw bs) s = .next (emit s (.msg .foe [0x8009] []))) ∧
    (∀ (s : State) (pw : Nat) (bs : List Byte), s.field.al = 1 → exec (.foeWriteDict true pw bs) s = .next s) ∧
    (∀ (s : State) (bs : List Byte), s.field.al = 2 → 6 ≤ s.boot.step → pdOn s 2 = true → s.power.sleep = 0 → bs.length ≤ 524288 →
        s.dict.imageRun = none → ∃ t, exec (.foeWriteDict true 0 bs) s = .next t ∧ t.dict.image = bs ∧
        t.out = .msg .foe [0] [] :: s.out) ∧
    (∀ (s : State) (pw : Nat) (bs : List Byte), s.field.al ≠ 1 →
        exec (.foeWriteDict false pw bs) s = .next (emit s (.msg .foe [0x8001] [])))) ∧
  -- FOE_READ_STORED (R113)
  ((∀ (s : State) (n : Nat) (x : StoredSlot), s.field.al ≠ 1 → s.field.al ≠ 3 → newestStored s = some (n, x) →
        exec (.foeReadStored true 0) s = .next (emit s (.msg .foe [0] (imageForm x)))) ∧
    (∀ (s : State), s.field.al ≠ 1 → s.field.al ≠ 3 → newestStored s = none →
        exec (.foeReadStored true 0) s = .next (emit s (.msg .foe [0x8001] []))) ∧
    (∀ (s : State) (pw : Nat), s.field.al ≠ 1 → s.field.al ≠ 3 → pw ≠ 0 →
        exec (.foeReadStored true pw) s = .next (emit s (.msg .foe [0x8002] []))) ∧
    (∀ (s : State) (pw : Nat), s.field.al ≠ 1 → exec (.foeReadStored false pw) s = .next (emit s (.msg .foe [0x8001] [])))) ∧
  -- FOE_READ_HALLMARK (R113)
  ((∀ (s : State), s.field.al ≠ 1 → s.field.al ≠ 3 →
        exec (.foeReadHallmark 0) s = .next (emit s (.msg .foe [0] ((factoryRecord :: recordsInOrder s).flatMap recordBytes)))) ∧
    (∀ (s : State) (pw : Nat), s.field.al ≠ 1 → s.field.al ≠ 3 → pw ≠ 0 →
        exec (.foeReadHallmark pw) s = .next (emit s (.msg .foe [0x8002] [])))) ∧
  -- FOE_WRITE_OPEN_IMAGE (R114)
  ((∀ (s : State) (bs : List Byte), s.field.al = 3 → s.boot.failure ≠ 1 → bs.length ≤ 0x600000 → s.field.foeImage = none →
        inactiveSlot s 1 < s.flash.imgs.length → ∃ t, exec (.foeWriteOpenImage 0 bs) s = .next t ∧
        imgOf t (inactiveSlot s 1) = { bytes := bs } ∧ t.field.foeImage = some { kind := 1, slot := inactiveSlot s 1 } ∧
        t.out = s.out ∧ t.od = s.od) ∧
    (∀ (s : State) (bs : List Byte), s.field.al = 3 → s.boot.failure ≠ 1 → 0x600000 < bs.length →
        exec (.foeWriteOpenImage 0 bs) s = .next (emit s (.msg .foe [0x8003] []))) ∧
    (∀ (s : State) (bs : List Byte), s.field.al = 3 → s.boot.failure = 1 →
        exec (.foeWriteOpenImage 0 bs) s = .next (emit s (.msg .foe [0x8001] []))) ∧
    (∀ (s : State) (pw : Nat) (bs : List Byte), s.field.al ≠ 1 → s.field.al ≠ 3 →
        exec (.foeWriteOpenImage pw bs) s = .next (emit s (.msg .foe [0x8008] [])))) ∧
  -- FOE_WRITE_TRUSTED_IMAGE (R114)
  ((∀ (s : State) (bs : List Byte), s.field.al = 3 → bs.length ≤ 0x100000 → s.field.foeImage = none →
        inactiveSlot s 2 < s.flash.imgs.length → ∃ t, exec (.foeWriteTrustedImage 0 bs) s = .next t ∧
        imgOf t (inactiveSlot s 2) = { bytes := bs } ∧ t.field.foeImage = some { kind := 2, slot := inactiveSlot s 2 } ∧
        t.out = s.out ∧ t.od = s.od) ∧
    (∀ (s : State) (bs : List Byte), s.field.al = 3 → 0x100000 < bs.length →
        exec (.foeWriteTrustedImage 0 bs) s = .next (emit s (.msg .foe [0x8003] []))) ∧
    (∀ (s : State) (pw : Nat) (bs : List Byte), s.field.al ≠ 1 → s.field.al ≠ 3 →
        exec (.foeWriteTrustedImage pw bs) s = .next (emit s (.msg .foe [0x8008] [])))) ∧
  -- FOE_BUSY (R113)
  ((∀ (s : State), s.field.foeImage.isSome = true → exec .foeBusy s = .next (emit s (.msg .foe [6] []))) ∧
    (∀ (s : State), s.field.foeImage = none → s.dict.storing = none → exec .foeBusy s = .next s)) ∧
  -- FIRMWARE_VERIFIED (R114)
  ((∀ (s : State) (f : FoeImage), s.field.foeImage = some f → f.slot < s.flash.imgs.length → (imgOf s f.slot).valid = false → ∃ t,
        exec .firmwareVerified s = .next t ∧ t.field.foeImage = none ∧ (imgOf t f.slot).bytes = (imgOf s f.slot).bytes ∧
        (imgOf t f.slot).valid = Sys2Proof.Config.imageVerifies (imgOf s f.slot).bytes ∧
        (Sys2Proof.Config.imageVerifies (imgOf s f.slot).bytes = true → (imgOf t f.slot).trial = true ∧
        t.out = .msg .foe [0] [] :: s.out ∧ t.boot.failure ≠ 1) ∧ (Sys2Proof.Config.imageVerifies (imgOf s f.slot).bytes = false →
        t.out = .msg .foe [0x800B] [] :: s.out ∧ t.boot = s.boot)) ∧
    (∀ (s : State), s.field.foeImage = none → exec .firmwareVerified s = .next s))

/-- Fences signal and contexts are removed: FENCE_SIGNAL (R154), CONTEXT_REMOVED (R156). Model choices it rests on: log 88. -/
def Obligations.FencesSignalAndContextsLeave : Prop :=
  -- FENCE_SIGNAL (R154)
  ((∀ (s : State) (k : Nat) (x : RCtx) (b : Machine.Sub) (l : List Machine.Sub) (st kind : Nat), k < 4096 → rctxOf s k = some x →
        x.subs = b :: l → b.ended = some (st, kind) → s.compose.groups = [] → ctxIn s k x.fenceAddr 16 = true → pdOn s 2 = true →
        ∃ t, exec (.fenceSignal k .render) s = .next t ∧
        rctxOf t k = some { x with value := b.fence, status := st, faultKind := if st = 1 then kind else x.faultKind, fenceTime := s.time, subs := l } ∧
        (resettingClient s k = false → bitOf (claspOf t k).event 1 = true) ∧ t.od = s.od) ∧
    (∀ (s : State) (k : Nat) (x : CCtx) (b : Disp) (l : List Disp) (st kind : Nat), k < 4096 → cctxOf s k = some x →
        x.disps = b :: l → b.ended = some (st, kind) → s.compose.groups = [] → ctxIn s k x.fenceAddr 16 = true → ∃ t,
        exec (.fenceSignal k .compute) s = .next t ∧
        cctxOf t k = some { x with value := b.fence, status := st, faultKind := kind, fenceTime := s.time, disps := l } ∧
        (resettingClient s k = false → bitOf (claspOf t k).event 2 = true) ∧ t.od = s.od) ∧
    (∀ (s : State) (k : Nat), rctxOf s k = none → exec (.fenceSignal k .render) s = .next s) ∧
    (∀ (s : State) (k : Nat), cctxOf s k = none → exec (.fenceSignal k .compute) s = .next s)) ∧
  -- CONTEXT_REMOVED (R156)
  ((∀ (s : State) (k : Nat) (x : RCtx), rctxOf s k = some x → x.leaving ≠ 0 → renderStarted s k = false → ∃ t,
        exec (.contextRemoved k .render) s = .next t ∧ rctxOf t k = none) ∧
    (∀ (s : State) (k : Nat) (x : CCtx), cctxOf s k = some x → x.leaving ≠ 0 → computeStarted s k = false → ∃ t,
        exec (.contextRemoved k .compute) s = .next t ∧ cctxOf t k = none) ∧
    (∀ (s : State) (k : Nat) (x : RCtx), rctxOf s k = some x → (x.leaving = 0 ∨ renderStarted s k = true) →
        exec (.contextRemoved k .render) s = .next s))

/-- Flip requests, releases and motion: FLIP (R187), FLIP_GROUP (R188), MOTION (R206), RELEASE (R189), FLIP_STATUS (R187). Model choices it
rests on: log 28, 89, 90. -/
def Obligations.FlipsAreTakenOrRefused : Prop :=
  -- FLIP (R187)
  ((∀ (s : State) (c : Client) (q : Taken) (e : FlipEntry) (b : Bool), asks s c.val 0x3001 11 q = true →
        flipEntryOf (flipWord q) = (e, b) → checkFlip s c.val [(e, b)] = .good → s.compose.groups = [] →
        unsignalled s c.val [e] = true → ∃ t, exec (.flip c) s = .next t ∧
        t.compose.groups = [{ client := c.val, gen := nextGen s c.val, entries := [e] }] ∧
        nextGen t c.val = (nextGen s c.val + 1) % 2 ^ 32 ∧ rd t (E.facet_HOLDER e.head e.facet) = c.val ∧
        entriesKept [E.facet_HOLDER e.head e.facet] s t ∧
        (claspOf t c.val).taken = some { q with answer := some { data := [nextGen s c.val] } }) ∧
    (∀ (s : State) (c : Client) (q : Taken) (n : Nat), asks s c.val 0x3001 11 q = true →
        checkFlip s c.val [flipEntryOf (flipWord q)] = .code n → exec (.flip c) s = .next (fail s c.val n)) ∧
    (∀ (s : State) (c : Client) (q : Taken), asks s c.val 0x3001 11 q = true →
        checkFlip s c.val [flipEntryOf (flipWord q)] = .noRight → exec (.flip c) s = .next (denied s c.val 0x05)) ∧
    (∀ (s : State) (c : Client) (q : Taken) (a : Nat), asks s c.val 0x3001 11 q = true →
        checkFlip s c.val [flipEntryOf (flipWord q)] = .outside a → exec (.flip c) s = .next (deniedAddr s c.val))) ∧
  -- FLIP_GROUP (R188)
  ((∀ (s : State) (c : Client) (q : Taken) (n : Nat), asks s c.val 0x3002 1 q = true → argOf q 2 % 16 = 0 →
        inWindow s c.val (argOf q 2) 16 = true → winWord s c.val (argOf q 2) = n → 1 ≤ n → n ≤ 16 →
        inWindow s c.val (argOf q 2) (16 + 48 * n) = true → ∃ es : List (FlipEntry × Bool), es.length = n ∧ (∀ i, i < n →
        es[i]? = some (flipEntryOf (leVal (winRd s c.val (argOf q 2 + 16 + 48 * i) 48)))) ∧
        exec (.flipGroup c) s = .next (match checkFlip s c.val es with | .code k => fail s c.val k | .noRight => denied s c.val 0x05 | .outside _ => deniedAddr s c.val | .good => acceptGroup s c.val (es.map (·.1)) (some (argOf q 2)))) ∧
    (∀ (s : State) (c : Client) (q : Taken), asks s c.val 0x3002 1 q = true → argOf q 2 % 16 ≠ 0 →
        exec (.flipGroup c) s = .next (fail s c.val 4)) ∧
    (∀ (s : State) (c : Client) (q : Taken), asks s c.val 0x3002 1 q = true → argOf q 2 % 16 = 0 →
        inWindow s c.val (argOf q 2) 16 = false → exec (.flipGroup c) s = .next (deniedAddr s c.val)) ∧
    (∀ (s : State) (c : Client) (q : Taken), asks s c.val 0x3002 1 q = true → argOf q 2 % 16 = 0 →
        inWindow s c.val (argOf q 2) 16 = true → (winWord s c.val (argOf q 2) = 0 ∨ (16 < winWord s c.val (argOf q 2) ∧
        winWord s c.val (argOf q 2) < 32)) → exec (.flipGroup c) s = .next (fail s c.val 0x0104))) ∧
  -- MOTION (R206)
  ((∀ (s : State) (c : Client) (q : Taken), asks s c.val 0x3003 6 q = true →
        xformDet ((List.range 6).map (fun i => toInt 32 (argOf q (2 + i)))) ≠ 0 → ∃ t, exec (.motion c) s = .next t ∧
        tget (fun _ => none) t.compose.motion c.val = some ((List.range 6).map (fun i => toInt 32 (argOf q (2 + i)))) ∧
        (claspOf t c.val).taken = some { q with answer := some {} } ∧ t.od = s.od ∧ t.mem = s.mem) ∧
    (∀ (s : State) (c : Client) (q : Taken), asks s c.val 0x3003 6 q = true →
        xformDet ((List.range 6).map (fun i => toInt 32 (argOf q (2 + i)))) = 0 → exec (.motion c) s = .next (fail s c.val 0x0104))) ∧
  -- RELEASE (R189)
  ((∀ (s : State) (c : Client) (q : Taken), asks s c.val 0x3004 1 q = true → argOf q 2 < 128 →
        headRight s c.val (argOf q 2 % 16) = true → facetRight s c.val (argOf q 2 % 16) (argOf q 2 / 16) = true →
        rd s (E.facet_HOLDER (argOf q 2 % 16) (argOf q 2 / 16)) = c.val →
        exec (.release c) s = .next (ok (wr s (E.facet_HOLDER (argOf q 2 % 16) (argOf q 2 / 16)) 0xFFFF) c.val [])) ∧
    (∀ (s : State) (c : Client) (q : Taken), asks s c.val 0x3004 1 q = true → argOf q 2 < 128 →
        headRight s c.val (argOf q 2 % 16) = true → facetRight s c.val (argOf q 2 % 16) (argOf q 2 / 16) = true →
        rd s (E.facet_HOLDER (argOf q 2 % 16) (argOf q 2 / 16)) ≠ c.val →
        exec (.release c) s = .next (if rd s (E.facet_HOLDER (argOf q 2 % 16) (argOf q 2 / 16)) = 0xFFFF then ok s c.val [] else fail s c.val 0x0101)) ∧
    (∀ (s : State) (c : Client) (q : Taken), asks s c.val 0x3004 1 q = true → argOf q 2 < 128 →
        headRight s c.val (argOf q 2 % 16) = false → exec (.release c) s = .next (denied s c.val 0x05)) ∧
    (∀ (s : State) (c : Client) (q : Taken), asks s c.val 0x3004 1 q = true → 128 ≤ argOf q 2 →
        exec (.release c) s = .next (fail s c.val 4))) ∧
  -- FLIP_STATUS (R187)
  ((∀ (s : State) (c : Client) (q : Taken), asks s c.val 0x3005 1 q = true → argOf q 2 < 128 →
        headRight s c.val (argOf q 2 % 16) = true → facetRight s c.val (argOf q 2 % 16) (argOf q 2 / 16) = true →
        exec (.flipStatus c) s = .next (ok s c.val [rd s (E.facet_GENERATION (argOf q 2 % 16) (argOf q 2 / 16)), rd s (E.facet_LATE (argOf q 2 % 16) (argOf q 2 / 16)), rd s (E.facet_HOLDER (argOf q 2 % 16) (argOf q 2 / 16))])) ∧
    (∀ (s : State) (c : Client) (q : Taken), asks s c.val 0x3005 1 q = true → 128 ≤ argOf q 2 →
        exec (.flipStatus c) s = .next (fail s c.val 4)))

/-- Write-back starts, stops and completes frames: WB_START (R196), WB_STOP (R196), WB_FRAME (R197). Model choices it rests on: log 28, 93. -/
def Obligations.WriteBackFramesStartAndEnd : Prop :=
  -- WB_START (R196)
  ((∀ (s : State) (c : Client) (q : Taken), asks s c.val 0x9001 7 q = true → argOf q 2 < 16 → argOf q 6 = 1 → argOf q 5 < 65536 →
        argOf q 3 % 64 = 0 → argOf q 4 % 64 = 0 → argOf q 7 % 16 = 0 → 4 * rd s (E.head_H_ACTIVE (argOf q 2)) ≤ argOf q 5 * 64 →
        headRight s c.val (argOf q 2) = true →
        firstOutside s c.val [(argOf q 3, wbBytes 1 (argOf q 5) (rd s (E.head_H_ACTIVE (argOf q 2))) (rd s (E.head_V_ACTIVE (argOf q 2)))), (argOf q 4, wbBytes 1 (argOf q 5) (rd s (E.head_H_ACTIVE (argOf q 2))) (rd s (E.head_V_ACTIVE (argOf q 2)))), (argOf q 7, 16)] = none →
        (headOf s (argOf q 2)).wb = none →
        headFetch s (rd s) (argOf q 2) + 4 * activePixels (rd s) (argOf q 2) ≤ 16 * activePixels (rd s) (argOf q 2) → ∃ t,
        exec (.wbStart c) s = .next t ∧
        (headOf t (argOf q 2)).wb = some { client := c.val, buf0 := argOf q 3, buf1 := argOf q 4, pitch := argOf q 5, fmt := 1, status := argOf q 7, frames := argOf q 8 } ∧
        (claspOf t c.val).taken = some { q with answer := some {} }) ∧
    (∀ (s : State) (c : Client) (q : Taken), asks s c.val 0x9001 7 q = true → 16 ≤ argOf q 2 →
        exec (.wbStart c) s = .next (fail s c.val 4))) ∧
  -- WB_STOP (R196)
  ((∀ (s : State) (c : Client) (q : Taken) (w : WbRec), asks s c.val 0x9002 1 q = true → argOf q 2 < 16 →
        headRight s c.val (argOf q 2) = true → (headOf s (argOf q 2)).wb = some w → w.client = c.val → w.stopping = false →
        (w.started = true ∨ w.full = true) →
        exec (.wbStop c) s = .next (setHead s (argOf q 2) { headOf s (argOf q 2) with wb := some { w with stopping := true } })) ∧
    (∀ (s : State) (c : Client) (q : Taken) (w : WbRec), asks s c.val 0x9002 1 q = true → argOf q 2 < 16 →
        headRight s c.val (argOf q 2) = true → (headOf s (argOf q 2)).wb = some w → w.client = c.val → w.stopping = false →
        w.started = false → w.full = false → ∃ t, exec (.wbStop c) s = .next t ∧ (headOf t (argOf q 2)).wb = none ∧
        (claspOf t c.val).taken = some { q with answer := some {} }) ∧
    (∀ (s : State) (c : Client) (q : Taken), asks s c.val 0x9002 1 q = true → argOf q 2 < 16 →
        headRight s c.val (argOf q 2) = true → (headOf s (argOf q 2)).wb = none → exec (.wbStop c) s = .next (fail s c.val 4))) ∧
  -- WB_FRAME (R197)
  ((∀ (s : State) (h : Head) (w : WbRec), (headOf s h.val).wb = some w → w.full = true → w.stopping = false → (w.frames = 0 ∨
        w.count + 1 < w.frames) → pdOn s 2 = true → ∃ t, exec (.wbFrame h) s = .next t ∧
        (headOf t h.val).wb = some { w with full := false, count := w.count + 1 } ∧
        rd t (E.head_WB_FRAMES h.val) = satInc (rd s (E.head_WB_FRAMES h.val)) 1 ∧ (resettingClient s w.client = false →
        bitOf (claspOf t w.client).event 9 = true) ∧
        t.out.head? = some (.event false .wbFrame [(h.val : Int), ((w.count + 1 : Nat) : Int)])) ∧
    (∀ (s : State) (h : Head) (w : WbRec), (headOf s h.val).wb = some w → w.full = true → w.frames ≠ 0 → w.frames ≤ w.count + 1 →
        ∃ t, exec (.wbFrame h) s = .next t ∧ (headOf t h.val).wb = none) ∧
    (∀ (s : State) (h : Head), (headOf s h.val).wb = none → exec (.wbFrame h) s = .next s))

/-- Render contexts are created, destroyed, submitted to and queried: CTX_CREATE (R149), CTX_DESTROY (R156), SUBMIT (R153), QUERY (R148).
Model choices it rests on: log 81, 82. -/
def Obligations.RenderContextsAndSubmissions : Prop :=
  -- CTX_CREATE (R149)
  ((∀ (s : State) (c : Client) (q : Taken), asks s c.val 0x1001 1 q = true → rctxOf s c.val = none →
        inWindow s c.val (argOf q 2) 64 = true →
        renderDescOk (descAt s c.val (argOf q 2)) (renderDesc (descAt s c.val (argOf q 2))) 3 = true → ¬ (charmClass s c.val = 0 ∧
        (renderDesc (descAt s c.val (argOf q 2))).level = 3) →
        firstOutside s c.val (renderDescAddrs (renderDesc (descAt s c.val (argOf q 2)))) = none →
        (renderDesc (descAt s c.val (argOf q 2))).binShare ≤ (freeUnits s).length → ∃ t, exec (.ctxCreate c) s = .next t ∧
        rctxOf t c.val = some { renderDesc (descAt s c.val (argOf q 2)) with units := (freeUnits s).take (renderDesc (descAt s c.val (argOf q 2))).binShare } ∧
        (claspOf t c.val).taken = some { q with answer := some {} } ∧ t.od = s.od) ∧
    (∀ (s : State) (c : Client) (q : Taken), asks s c.val 0x1001 1 q = true → (rctxOf s c.val).isSome = true →
        exec (.ctxCreate c) s = .next (fail s c.val 0x0103)) ∧
    (∀ (s : State) (c : Client) (q : Taken), asks s c.val 0x1001 1 q = true → rctxOf s c.val = none →
        inWindow s c.val (argOf q 2) 64 = false → exec (.ctxCreate c) s = .next (deniedAddr s c.val)) ∧
    (∀ (s : State) (c : Client) (q : Taken), asks s c.val 0x1001 1 q = true → rctxOf s c.val = none →
        inWindow s c.val (argOf q 2) 64 = true →
        renderDescOk (descAt s c.val (argOf q 2)) (renderDesc (descAt s c.val (argOf q 2))) 3 = false →
        exec (.ctxCreate c) s = .next (fail s c.val 4)) ∧
    (∀ (s : State) (c : Client) (q : Taken), asks s c.val 0x1001 1 q = true → rctxOf s c.val = none →
        inWindow s c.val (argOf q 2) 64 = true →
        renderDescOk (descAt s c.val (argOf q 2)) (renderDesc (descAt s c.val (argOf q 2))) 3 = true → charmClass s c.val = 0 →
        (renderDesc (descAt s c.val (argOf q 2))).level = 3 → exec (.ctxCreate c) s = .next (fail s c.val 0x0102)) ∧
    (∀ (s : State) (c : Client) (q : Taken) (bad : Nat), asks s c.val 0x1001 1 q = true → rctxOf s c.val = none →
        inWindow s c.val (argOf q 2) 64 = true →
        renderDescOk (descAt s c.val (argOf q 2)) (renderDesc (descAt s c.val (argOf q 2))) 3 = true → charmClass s c.val ≠ 0 →
        firstOutside s c.val (renderDescAddrs (renderDesc (descAt s c.val (argOf q 2)))) = some bad →
        exec (.ctxCreate c) s = .next (deniedAddr s c.val)) ∧
    (∀ (s : State) (c : Client) (q : Taken), asks s c.val 0x1001 1 q = true → rctxOf s c.val = none →
        inWindow s c.val (argOf q 2) 64 = true →
        renderDescOk (descAt s c.val (argOf q 2)) (renderDesc (descAt s c.val (argOf q 2))) 3 = true → charmClass s c.val ≠ 0 →
        firstOutside s c.val (renderDescAddrs (renderDesc (descAt s c.val (argOf q 2)))) = none →
        (freeUnits s).length < (renderDesc (descAt s c.val (argOf q 2))).binShare → exec (.ctxCreate c) s = .next (fail s c.val 5))) ∧
  -- CTX_DESTROY (R156)
  ((∀ (s : State) (c : Client) (q : Taken) (x : RCtx), asks s c.val 0x1002 0 q = true → rctxOf s c.val = some x →
        exec (.ctxDestroy c) s = .next (setRctx s c.val (some { x with leaving := max 1 x.leaving }))) ∧
    (∀ (s : State) (c : Client) (q : Taken), asks s c.val 0x1002 0 q = true → rctxOf s c.val = none →
        exec (.ctxDestroy c) s = .next (fail s c.val 0x0100))) ∧
  -- SUBMIT (R153)
  ((∀ (s : State) (c : Client) (q : Taken) (x : RCtx) (b : Machine.Sub), asks s c.val 0x1003 1 q = true → rctxOf s c.val = some x →
        checkSubmit s c.val x (argOf q 2) = .accept b → ∃ t, exec (.submit c) s = .next t ∧
        (claspOf t c.val).taken = some { q with answer := some { data := [b.fence] } } ∧ b.fence = x.nextFence ∧
        (ctxIn s c.val x.statsAddr 64 = true →
        rctxOf t c.val = some { x with subs := x.subs ++ [b], nextFence := if x.nextFence = 0xFFFFFFFF then 1 else x.nextFence + 1 }) ∧
        (ctxIn s c.val x.statsAddr 64 = false → x.faulted = false → renderFaulted t c.val 1 = true)) ∧
    (∀ (s : State) (c : Client) (q : Taken) (x : RCtx) (n : Nat), asks s c.val 0x1003 1 q = true → rctxOf s c.val = some x →
        checkSubmit s c.val x (argOf q 2) = .code n → exec (.submit c) s = .next (fail s c.val n)) ∧
    (∀ (s : State) (c : Client) (q : Taken) (x : RCtx) (bad : Nat), asks s c.val 0x1003 1 q = true → rctxOf s c.val = some x →
        checkSubmit s c.val x (argOf q 2) = .outside bad → exec (.submit c) s = .next (deniedAddr s c.val)) ∧
    (∀ (s : State) (c : Client) (q : Taken) (x : RCtx), asks s c.val 0x1003 1 q = true → rctxOf s c.val = some x →
        x.faulted = true → exec (.submit c) s = .next (fail s c.val 7)) ∧
    (∀ (s : State) (c : Client) (q : Taken) (x : RCtx), asks s c.val 0x1003 1 q = true → rctxOf s c.val = some x →
        x.faulted = false → 8 ≤ x.subs.length → exec (.submit c) s = .next (fail s c.val 5)) ∧
    (∀ (s : State) (c : Client) (q : Taken), asks s c.val 0x1003 1 q = true → rctxOf s c.val = none →
        exec (.submit c) s = .next (fail s c.val 0x0100))) ∧
  -- QUERY (R148)
  ((∀ (s : State) (c : Client) (q : Taken) (x : RCtx), asks s c.val 0x1004 0 q = true → rctxOf s c.val = some x →
        exec (.query c) s = .next (ok s c.val [x.value, x.subs.length, x.raised, x.late])) ∧
    (∀ (s : State) (c : Client) (q : Taken), asks s c.val 0x1004 0 q = true → rctxOf s c.val = none →
        exec (.query c) s = .next (fail s c.val 0x0100)))

/-- Compute contexts are created, destroyed, dispatched to and queried: CCTX_CREATE (R149), CCTX_DESTROY (R156), DISPATCH (R157), CQUERY
(R148). Model choices it rests on: log 28, 82. -/
def Obligations.ComputeContextsAndDispatches : Prop :=
  -- CCTX_CREATE (R149)
  ((∀ (s : State) (c : Client) (q : Taken), asks s c.val 0x2001 1 q = true → cctxOf s c.val = none →
        inWindow s c.val (argOf q 2) 16 = true → computeDescOk s c.val (argOf q 2) = true → ¬ (charmClass s c.val = 0 ∧
        (computeDesc s c.val (argOf q 2)).level = 3) →
        firstOutside s c.val [((computeDesc s c.val (argOf q 2)).fenceAddr, 16), ((computeDesc s c.val (argOf q 2)).saveAddr, 2 ^ 20)] = none →
        exec (.cctxCreate c) s = .next (ok (setCctx s c.val (some (computeDesc s c.val (argOf q 2)))) c.val [])) ∧
    (∀ (s : State) (c : Client) (q : Taken), asks s c.val 0x2001 1 q = true → (cctxOf s c.val).isSome = true →
        exec (.cctxCreate c) s = .next (fail s c.val 0x0103)) ∧
    (∀ (s : State) (c : Client) (q : Taken), asks s c.val 0x2001 1 q = true → cctxOf s c.val = none →
        inWindow s c.val (argOf q 2) 16 = false → exec (.cctxCreate c) s = .next (deniedAddr s c.val)) ∧
    (∀ (s : State) (c : Client) (q : Taken), asks s c.val 0x2001 1 q = true → cctxOf s c.val = none →
        inWindow s c.val (argOf q 2) 16 = true → computeDescOk s c.val (argOf q 2) = false →
        exec (.cctxCreate c) s = .next (fail s c.val 4))) ∧
  -- CCTX_DESTROY (R156)
  ((∀ (s : State) (c : Client) (q : Taken) (x : CCtx), asks s c.val 0x2002 0 q = true → cctxOf s c.val = some x → ∃ t,
        exec (.cctxDestroy c) s = .next t ∧ cctxOf t c.val = some { x with leaving := max 1 x.leaving } ∧ t.od = s.od ∧
        t.out = s.out ∧ (∀ n w, n < 16 → (coreOf s n).wg = some w → w.ctx = c.val → w.preempt = none →
        (coreOf t n).wg = some { w with preempt := some s.time })) ∧
    (∀ (s : State) (c : Client) (q : Taken), asks s c.val 0x2002 0 q = true → cctxOf s c.val = none →
        exec (.cctxDestroy c) s = .next (fail s c.val 0x0100))) ∧
  -- DISPATCH (R157)
  ((∀ (s : State) (c : Client) (q : Taken) (x : CCtx), asks s c.val 0x2003 6 q = true → cctxOf s c.val = some x →
        x.faulted = false → x.disps.length < 8 → (1 ≤ argOf q 4 ∧ argOf q 4 ≤ 65535 ∧ 1 ≤ argOf q 5 ∧ argOf q 5 ≤ 65535 ∧
        1 ≤ argOf q 6 ∧ argOf q 6 ≤ 65535) → 1 ≤ argOf q 7 → argOf q 7 ≤ 50 → argOf q 2 % 4 = 0 →
        firstOutside s c.val [(argOf q 2, 4), (argOf q 3, 1)] = none → ∃ t, exec (.dispatch c) s = .next t ∧
        (claspOf t c.val).taken = some { q with answer := some { data := [x.nextFence] } } ∧
        cctxOf t c.val = some { x with disps := x.disps ++ [{ fence := x.nextFence, entry := argOf q 2, arg := argOf q 3, nx := argOf q 4, ny := argOf q 5, nz := argOf q 6, maxTime := argOf q 7 }], nextFence := fenceAfter x.nextFence }) ∧
    (∀ (s : State) (c : Client) (q : Taken), asks s c.val 0x2003 6 q = true → cctxOf s c.val = none →
        exec (.dispatch c) s = .next (fail s c.val 0x0100)) ∧
    (∀ (s : State) (c : Client) (q : Taken) (x : CCtx), asks s c.val 0x2003 6 q = true → cctxOf s c.val = some x →
        x.faulted = true → exec (.dispatch c) s = .next (fail s c.val 7)) ∧
    (∀ (s : State) (c : Client) (q : Taken) (x : CCtx), asks s c.val 0x2003 6 q = true → cctxOf s c.val = some x →
        x.faulted = false → 8 ≤ x.disps.length → exec (.dispatch c) s = .next (fail s c.val 5)) ∧
    (∀ (s : State) (c : Client) (q : Taken) (x : CCtx), asks s c.val 0x2003 6 q = true → cctxOf s c.val = some x →
        x.faulted = false → x.disps.length < 8 → (argOf q 4 = 0 ∨ 65535 < argOf q 6 ∨ argOf q 7 = 0 ∨ 50 < argOf q 7 ∨
        argOf q 2 % 4 ≠ 0) → exec (.dispatch c) s = .next (fail s c.val 4))) ∧
  -- CQUERY (R148)
  ((∀ (s : State) (c : Client) (q : Taken) (x : CCtx), asks s c.val 0x2004 0 q = true → cctxOf s c.val = some x →
        exec (.cquery c) s = .next (ok s c.val [x.value, x.disps.length, x.savedCount])) ∧
    (∀ (s : State) (c : Client) (q : Taken), asks s c.val 0x2004 0 q = true → cctxOf s c.val = none →
        exec (.cquery c) s = .next (fail s c.val 0x0100)))

/-- Binning, partial renders, tile passes and the end of a render: CORE_PICK_UNIT (R158), BINNING_END (R118), PARTIAL_START (R133),
PARTIAL_DONE (R133), TILE_DISPATCH (R127), TILE_RELOAD (R133), TILE_PASS_END (R138), FLUSH_ACKNOWLEDGED (R133), RENDER_DONE (R139).
Model choices it rests on: log 83, 85. -/
def Obligations.RenderPassesRunToDone : Prop :=
  -- CORE_PICK_UNIT (R158)
  ((∀ (s : State) (n : RCore) (lvl k : Nat) (x : RCtx), corePowered s n.val = true → (coreOf s n.val).wg = none →
        pickFrom s n.val 6 = some (lvl, 2 * k) → rctxOf s k = some x → tileLevel s k x = some lvl →
        exec (.corePickUnit n) s = .next (setCore s n.val { coreOf s n.val with picked := some (lvl, k) })) ∧
    (∀ (s : State) (n : RCore) (lvl k h di inv slot0 : Nat) (x : RCtx) (b : Machine.Sub), corePowered s n.val = true →
        (coreOf s n.val).wg = none → pickFrom s n.val 6 = some (lvl, 2 * k) → rctxOf s k = some x → tileLevel s k x ≠ some lvl →
        frontSub x = some b → (List.range 4).find? (hartFree (coreOf s n.val)) = some h → drawsIn s k b = true →
        invAt s k b b.nextInv = some (di, inv, slot0) → indexOutside s k (drawRec s k b.cmd di) inv = none → ∃ t,
        exec (.corePickUnit n) s = .next t ∧ (hartOf (coreOf t n.val) h).pc = fld (drawRec s k b.cmd di) 160 32 ∧
        tget (fun _ => 0) (hartOf (coreOf t n.val) h).x 10 = fld (drawRec s k b.cmd di) 192 32 ∧
        tget (fun _ => 0) (hartOf (coreOf t n.val) h).x 12 = (b.cmd + 32 * di) % 2 ^ 32 ∧
        (hartOf (coreOf t n.val) h).vertex = some { ctx := k, fence := b.fence, draw := di, start := s.time } ∧ t.od = s.od ∧
        t.mem = s.mem ∧
        rctxOf t k = some (putSub x { b with nextInv := b.nextInv + 1, vertexStart := (if b.vertexStart = none then some s.time else b.vertexStart), vertexRunning := b.vertexRunning ++ [di] })) ∧
    (∀ (s : State) (n : RCore) (lvl c : Nat) (x : CCtx) (d : Disp), corePowered s n.val = true → (coreOf s n.val).wg = none →
        pickFrom s n.val 6 = some (lvl, 2 * c + 1) → cctxOf s c = some x → runnableDisp x = some d → d.saved = [] →
        coreIdle (coreOf s n.val) = true → (∀ h, h < 4 → hartFree (coreOf s n.val) h = true) → ∃ t,
        exec (.corePickUnit n) s = .next t ∧
        (coreOf t n.val).wg = some { ctx := c, fence := d.fence, num := d.next, start := s.time } ∧ (∀ h, h < 4 →
        (hartOf (coreOf t n.val) h).pc = d.entry ∧ (hartOf (coreOf t n.val) h).ended = false ∧
        tget (fun _ => 0) (hartOf (coreOf t n.val) h).x 13 = d.arg % 2 ^ 32 ∧
        tget (fun _ => 0) (hartOf (coreOf t n.val) h).x 14 = h ∧
        tget (fun _ => 0) (hartOf (coreOf t n.val) h).x 10 = d.next % d.nx % 2 ^ 32) ∧ t.od = s.od ∧ t.mem = s.mem) ∧
    (∀ (s : State) (n : RCore) (lvl c : Nat) (x : CCtx) (d : Disp) (w : SavedWg) (l : List SavedWg), corePowered s n.val = true →
        (coreOf s n.val).wg = none → pickFrom s n.val 6 = some (lvl, 2 * c + 1) → cctxOf s c = some x → runnableDisp x = some d →
        d.saved = w :: l → coreIdle (coreOf s n.val) = true → (∀ h, h < 4 → hartFree (coreOf s n.val) h = true) → ∃ t,
        exec (.corePickUnit n) s = .next t ∧
        (coreOf t n.val).wg = some { ctx := c, fence := d.fence, num := w.num, start := s.time, phase := 2, restore := some w }) ∧
    (∀ (s : State) (n : RCore) (lvl c : Nat), corePowered s n.val = true → (coreOf s n.val).wg = none →
        pickFrom s n.val 6 = some (lvl, 2 * c + 1) → coreIdle (coreOf s n.val) = false → exec (.corePickUnit n) s = .next s) ∧
    (∀ (s : State) (n : RCore), corePowered s n.val = true → (coreOf s n.val).wg = none → pickFrom s n.val 6 = none →
        exec (.corePickUnit n) s = .next (setCore s n.val { coreOf s n.val with picked := none })) ∧
    (∀ (s : State) (n : RCore), (corePowered s n.val = false ∨ (coreOf s n.val).wg.isSome = true) →
        exec (.corePickUnit n) s = .next s)) ∧
  -- BINNING_END (R118)
  ((∀ (s : State) (k : Nat) (x : RCtx) (b : Machine.Sub), rctxOf (advance s k) k = some x → frontSub x = some b → b.phase = 0 →
        b.draws ≤ b.drawsBinned → b.table ≠ [] → x.leaving = 0 → x.faulted = false → ∃ t y, exec (.binningEnd k) s = .next t ∧
        rctxOf t k = some (putSub x y) ∧ y.fence = b.fence ∧ y.phase = 2 ∧ (∀ tl, tl < tileCount x → placeOf y tl = 0) ∧
        y.binTook = b.vertexStart.map (fun t0 => (advance s k).time - t0) ∧ y.table = b.table ∧ y.primsIn = b.primsIn ∧
        y.primsBinned = b.primsBinned ∧ t.od = (advance s k).od ∧ t.mem = (advance s k).mem ∧ t.out = (advance s k).out ∧
        t.raster.bin = (advance s k).raster.bin) ∧
    (∀ (s : State) (k : Nat) (x : RCtx) (b : Machine.Sub), rctxOf (advance s k) k = some x → frontSub x = some b → (b.phase = 1 ∨
        b.drawsBinned < b.draws ∨ b.table = [] ∨ x.leaving ≠ 0 ∨ x.faulted = true) → exec (.binningEnd k) s = .next (advance s k)) ∧
    (∀ (s : State) (k : Nat) (x : RCtx), rctxOf s k = some x → frontSub x = none → exec (.binningEnd k) s = .next s) ∧
    (∀ (s : State) (k : Nat), rctxOf s k = none → exec (.binningEnd k) s = .next s)) ∧
  -- PARTIAL_START (R133)
  ((∀ (s : State) (k : Nat) (x : RCtx) (b : Machine.Sub) (pre post : List Machine.Sub), rctxOf (advance s k) k = some x →
        x.subs = pre ++ b :: post → b.ended = none → b.phase = 0 → b.full = 1 → x.leaving = 0 → (∀ y, y ∈ pre → y.fence ≠ b.fence ∧
        (y.ended.isSome = true ∨ 3 ≤ y.phase)) → ∃ t y, exec (.partialStart k) s = .next t ∧
        rctxOf t k = some { x with partials := satInc x.partials 1, subs := pre ++ y :: post } ∧ y.phase = 1 ∧ y.full = 0 ∧
        y.fence = b.fence ∧ y.table = b.table ∧ (∀ tl, tl < tileCount x →
        placeOf y tl = (if tsHead (tileState (advance s k) b tl) = 0 then 2 else 0)) ∧
        t.out = (raise (advance s k) .partialStart [(k : Int)]).out ∧ t.mem = (advance s k).mem) ∧
    (∀ (s : State) (k : Nat) (x : RCtx) (b : Machine.Sub) (pre post : List Machine.Sub), rctxOf (advance s k) k = some x →
        x.subs = pre ++ b :: post → b.ended = none → b.phase = 0 → b.full = 1 → x.leaving = 0 → (∀ y, y ∈ pre → y.fence ≠ b.fence ∧
        (y.ended.isSome = true ∨ 2 ≤ y.phase)) → (∃ y, y ∈ pre ∧ y.ended = none ∧ y.phase = 2) → ∃ t,
        exec (.partialStart k) s = .next t ∧
        rctxOf t k = some { x with partials := satInc x.partials 1, subs := pre ++ { b with full := 2 } :: post } ∧
        t.out = (raise (advance s k) .partialStart [(k : Int)]).out) ∧
    (∀ (s : State) (k : Nat) (x : RCtx) (b : Machine.Sub), rctxOf (advance s k) k = some x → frontSub x = some b → (b.full ≠ 1 ∨
        b.phase ≠ 0 ∨ x.leaving ≠ 0) → exec (.partialStart k) s = .next (advance s k)) ∧
    (∀ (s : State) (k : Nat), rctxOf s k = none → exec (.partialStart k) s = .next s)) ∧
  -- PARTIAL_DONE (R133)
  ((∀ (s : State) (k : Nat) (x : RCtx) (b : Machine.Sub), rctxOf s k = some x → frontSub x = some b → b.phase = 1 →
        passDone x b = true → pdOn s 2 = true → ∃ t, exec (.partialDone k) s = .next (advance t k) ∧
        rctxOf t k = some (putSub x { b with phase := 0 }) ∧ t.out = .event false .partialDone [(k : Int)] :: s.out ∧ t.od = s.od ∧
        t.mem = s.mem ∧ t.raster.bin = s.raster.bin ∧ (∀ n u, useOf t n = some u → ¬ (u.ctx = k ∧ u.fence = b.fence ∧ u.kind = 1)) ∧
        (∀ n u, useOf s n = some u → ¬ (u.ctx = k ∧ u.fence = b.fence ∧ u.kind = 1) → useOf t n = some u)) ∧
    (∀ (s : State) (k : Nat) (x : RCtx) (b : Machine.Sub), rctxOf s k = some x → frontSub x = some b → (b.phase ≠ 1 ∨
        passDone x b = false) → exec (.partialDone k) s = .next s)) ∧
  -- TILE_DISPATCH (R127)
  ((∀ (s : State) (k : Nat) (n : RCore) (lvl : Nat) (x : RCtx) (b : Machine.Sub) (tl i : Nat), rctxOf s k = some x →
        rendering x = some b → nextTile x b = some tl → freeSlot s (coreOf s n.val) x = some i → x.leaving = 0 → x.faulted = false →
        (coreOf s n.val).picked = some (lvl, k) → corePowered s n.val = true → tsSaved (tileState s b tl) = true → ∃ t,
        exec (.tileDispatch k n) s = .next t ∧ rctxOf t k = some (putSub x { setPlace b tl 1 with passes := b.passes + 1 }) ∧
        slotOf (coreOf t n.val) i = some { ctx := k, fence := b.fence, tile := tl, waitReload := true, groups := tileGroups s k x b tl, start := s.time } ∧
        tsCore (tileState t b tl) = n.val ∧ tsIssued (tileState t b tl) = tsIssued (tileState s b tl) ∧
        (coreOf t n.val).picked = none ∧ t.mem = s.mem ∧ t.od = s.od) ∧
    (∀ (s : State) (k : Nat) (n : RCore) (lvl : Nat) (x : RCtx) (b : Machine.Sub) (tl i : Nat), rctxOf s k = some x →
        rendering x = some b → nextTile x b = some tl → freeSlot s (coreOf s n.val) x = some i → x.leaving = 0 → x.faulted = false →
        (coreOf s n.val).picked = some (lvl, k) → corePowered s n.val = true → tsSaved (tileState s b tl) = false →
        loadsIn s k x b = true → ∃ t, exec (.tileDispatch k n) s = .next (issueCore t n.val) ∧
        rctxOf t k = some (putSub x { setPlace b tl 1 with passes := b.passes + 1 }) ∧
        slotOf (coreOf t n.val) i = some { ctx := k, fence := b.fence, tile := tl, groups := tileGroups s k x b tl, start := s.time } ∧
        (coreOf t n.val).picked = none ∧ t.mem = s.mem ∧ t.od = s.od ∧ (∀ a sm px, a < 5 → at0 0 (attFmts x) a ≠ 0 →
        sm < samplesOf x → px < 4096 → tmGet (coreOf t n.val) i a sm px = loadValue s k x b tl a px)) ∧
    (∀ (s : State) (k : Nat) (n : RCore) (lvl : Nat) (x : RCtx) (b : Machine.Sub) (tl i : Nat), rctxOf s k = some x →
        rendering x = some b → nextTile x b = some tl → freeSlot s (coreOf s n.val) x = some i → x.leaving = 0 → x.faulted = false →
        (coreOf s n.val).picked = some (lvl, k) → corePowered s n.val = true → tsSaved (tileState s b tl) = false →
        loadsIn s k x b = false → ∃ t, exec (.tileDispatch k n) s = .next t ∧ renderFaulted t k 1 = true) ∧
    (∀ (s : State) (k : Nat) (n : RCore) (x : RCtx), rctxOf s k = some x → (rendering x = none ∨
        (coreOf s n.val).picked.map (·.2) ≠ some k ∨ corePowered s n.val = false ∨ x.faulted = true) →
        exec (.tileDispatch k n) s = .next s)) ∧
  -- TILE_RELOAD (R133)
  ((∀ (s : State) (n : RCore) (tl i : Nat) (r : SlotRec) (x : RCtx) (b : Machine.Sub), waitingSlot s n.val tl = some (i, r) →
        rctxOf s r.ctx = some x → fenceSub x r.fence = some b →
        tsDone (tileState s b tl) = (tileToken s b tl).getD (tsIssued (tileState s b tl)) →
        ctxIn s r.ctx (x.spill + 4096 * footprint x * tl) (4096 * footprint x) = true → ∃ t,
        exec (.tileReload n tl) s = .next (issueCore t n.val) ∧
        rctxOf t r.ctx = some { x with spillBytes := x.spillBytes + 4096 * footprint x } ∧
        slotOf (coreOf t n.val) i = some { r with waitReload := false } ∧ t.mem = s.mem ∧ t.od = s.od ∧ (∀ a sm px, a < 5 →
        at0 0 (attFmts x) a ≠ 0 → sm < samplesOf x → px < 4096 →
        tmGet (coreOf t n.val) i a sm px = leVal (ctxRd s r.ctx (x.spill + 4096 * footprint x * tl + imageOff x a sm px) (tileBytes (at0 0 (attFmts x) a))))) ∧
    (∀ (s : State) (n : RCore) (tl i : Nat) (r : SlotRec) (x : RCtx) (b : Machine.Sub), waitingSlot s n.val tl = some (i, r) →
        rctxOf s r.ctx = some x → fenceSub x r.fence = some b →
        tsDone (tileState s b tl) ≠ (tileToken s b tl).getD (tsIssued (tileState s b tl)) → exec (.tileReload n tl) s = .next s) ∧
    (∀ (s : State) (n : RCore) (tl i : Nat) (r : SlotRec) (x : RCtx) (b : Machine.Sub), waitingSlot s n.val tl = some (i, r) →
        rctxOf s r.ctx = some x → x.faulted = false → fenceSub x r.fence = some b →
        tsDone (tileState s b tl) = (tileToken s b tl).getD (tsIssued (tileState s b tl)) →
        ctxIn s r.ctx (x.spill + 4096 * footprint x * tl) (4096 * footprint x) = false → ∃ t, exec (.tileReload n tl) s = .next t ∧
        renderFaulted t r.ctx 1 = true) ∧
    (∀ (s : State) (n : RCore) (tl : Nat), waitingSlot s n.val tl = none → exec (.tileReload n tl) s = .next s)) ∧
  -- TILE_PASS_END (R138)
  ((∀ (s : State) (n : RCore) (tl i : Nat) (r : SlotRec) (x : RCtx) (b : Machine.Sub), doneSlot s n.val tl = some (i, r) →
        rctxOf s r.ctx = some x → fenceSub x r.fence = some b → b.phase = 1 →
        ctxIn s r.ctx (x.spill + 4096 * footprint x * tl) (4096 * footprint x) = true → ∃ t, exec (.tilePassEnd n tl) s = .next t ∧
        slotOf (coreOf t n.val) i = none ∧ t.od = s.od ∧
        t.mem = (ctxWr s r.ctx (x.spill + 4096 * footprint x * tl) (tileImage (coreOf s n.val) x i)).mem ∧
        tsHead (tileState t b tl) = 0 ∧ tsSaved (tileState t b tl) = true ∧
        tsIssued (tileState t b tl) = (tsIssued (tileState s b tl) + 1) % 2 ^ 16 ∧
        tsDone (tileState t b tl) = tsDone (tileState s b tl) ∧
        rctxOf t r.ctx = some { putSub x { setPlace b tl 2 with passTime := b.passTime + (s.time - r.start) } with spillBytes := x.spillBytes + 4096 * footprint x } ∧
        (∀ m u, useOf t m = some u → ¬ (u.ctx = r.ctx ∧ u.fence = b.fence ∧ u.kind = 2 ∧ u.tile = tl))) ∧
    (∀ (s : State) (n : RCore) (tl i : Nat) (r : SlotRec) (x : RCtx) (b : Machine.Sub), doneSlot s n.val tl = some (i, r) →
        rctxOf s r.ctx = some x → fenceSub x r.fence = some b → b.phase ≠ 1 →
        (resolveTile s r.ctx x b (coreOf s n.val) i tl).2 = none → passDone x (setPlace b tl 2) = true → ∃ t,
        exec (.tilePassEnd n tl) s = .next (openPartial (advance t r.ctx) r.ctx) ∧ slotOf (coreOf t n.val) i = none ∧ t.od = s.od ∧
        t.mem = (resolveTile s r.ctx x b (coreOf s n.val) i tl).1.mem ∧
        rctxOf t r.ctx = some (putSub x { b with passTime := b.passTime + (s.time - r.start), phase := 3, table := [], place := [] }) ∧
        (∀ m u, useOf t m = some u → ¬ (u.ctx = r.ctx ∧ u.fence = b.fence))) ∧
    (∀ (s : State) (n : RCore) (tl i : Nat) (r : SlotRec) (x : RCtx) (b : Machine.Sub), doneSlot s n.val tl = some (i, r) →
        rctxOf s r.ctx = some x → fenceSub x r.fence = some b → b.phase ≠ 1 →
        (resolveTile s r.ctx x b (coreOf s n.val) i tl).2 = none → passDone x (setPlace b tl 2) = false → ∃ t,
        exec (.tilePassEnd n tl) s = .next t ∧ slotOf (coreOf t n.val) i = none ∧ t.od = s.od ∧
        t.mem = (resolveTile s r.ctx x b (coreOf s n.val) i tl).1.mem ∧
        rctxOf t r.ctx = some (putSub x { setPlace b tl 2 with passTime := b.passTime + (s.time - r.start) })) ∧
    (∀ (s : State) (n : RCore) (tl : Nat), doneSlot s n.val tl = none → exec (.tilePassEnd n tl) s = .next s)) ∧
  -- FLUSH_ACKNOWLEDGED (R133)
  ((∀ (s : State) (k tl : Nat) (x : RCtx) (b : Machine.Sub), rctxOf s k = some x →
        x.subs.find? (fun b => b.table != [] && tsDone (tileState s b tl) != tsIssued (tileState s b tl)) = some b → ∃ t,
        exec (.flushAcknowledged k tl) s = .next t ∧ tsDone (tileState t b tl) = tsIssued (tileState s b tl) ∧
        tsIssued (tileState t b tl) = tsIssued (tileState s b tl) ∧ tsHead (tileState t b tl) = tsHead (tileState s b tl) ∧
        tsSaved (tileState t b tl) = tsSaved (tileState s b tl) ∧ t.raster.rctx = s.raster.rctx ∧ t.raster.cores = s.raster.cores ∧
        t.od = s.od ∧ t.mem = s.mem ∧ t.out = s.out) ∧
    (∀ (s : State) (k tl : Nat) (x : RCtx), rctxOf s k = some x →
        x.subs.find? (fun b => b.table != [] && tsDone (tileState s b tl) != tsIssued (tileState s b tl)) = none →
        exec (.flushAcknowledged k tl) s = .next s)) ∧
  -- RENDER_DONE (R139)
  ((∀ (s : State) (k : Nat) (x : RCtx) (b : Machine.Sub), rctxOf s k = some x →
        x.subs.find? (fun b => b.phase == 3 && b.ended.isNone) = some b → pdOn s 2 = true → ∃ t, exec (.renderDone k) s = .next t ∧
        rctxOf t k = some { putSub x { b with phase := 4 } with renders := (x.renders + 1) % 2 ^ 32, tau := (if b.passes = 0 then none else some (b.passTime / b.passes)), binTime := b.binTook } ∧
        t.out = .event false .renderDone [(k : Int)] :: s.out ∧ t.od = s.od ∧ (ctxIn s k x.statsAddr 64 = false → t.mem = s.mem)) ∧
    (∀ (s : State) (k : Nat) (x : RCtx), rctxOf s k = some x → x.subs.find? (fun b => b.phase == 3 && b.ended.isNone) = none →
        exec (.renderDone k) s = .next s))

/-- Pixel access of a hart's pixel group and the end of its work: PX_LD (R131), PX_ST (R131), PX_REL (R131), PX_KILL (R131),
PIXEL_INTERLOCK_GRANT (R129), HART_ECALL (R116). Model choices it rests on: log 84, 85. -/
def Obligations.PixelAccessOfAGroup : Prop :=
  -- PX_LD (R131)
  ((∀ (s : State) (n : RCore) (h : Hart) (w : Word) (key : Nat) (x : RCtx) (fe : Nat) (g : GroupRun) (o : PxOp),
        mayAccess s n.val h.val w.toNat 0 key x fe g o → g.released = false → (g.accessed = true ∨
        quadsHeld (coreOf s n.val) g.slot g.seq g.quads = false) → ∃ t, exec (.pxLd n h w) s = .next t ∧ (∀ i, i < 16 →
        tget (fun _ => 0) (hartOf (coreOf t n.val) h.val).v (16 * o.vd + i) = if (activeLanes (hartOf (coreOf s n.val) h.val) g o).contains i then pxRead (at0 0 (attFmts x) o.att) o (tmGet (coreOf s n.val) g.slot o.att o.smp (lanePixel g.quads i)) else tget (fun _ => 0) (hartOf (coreOf s n.val) h.val).v (16 * o.vd + i)) ∧
        (∀ j, (j < 16 * o.vd ∨ 16 * o.vd + 16 ≤ j) →
        tget (fun _ => 0) (hartOf (coreOf t n.val) h.val).v j = tget (fun _ => 0) (hartOf (coreOf s n.val) h.val).v j) ∧
        (hartOf (coreOf t n.val) h.val).pc = ((hartOf (coreOf s n.val) h.val).pc + 4) % 2 ^ 32 ∧
        (hartOf (coreOf t n.val) h.val).x = (hartOf (coreOf s n.val) h.val).x ∧
        (coreOf t n.val).tileMem = (coreOf s n.val).tileMem ∧ t.od = s.od ∧ t.mem = s.mem ∧ t.out = s.out) ∧
    (∀ (s : State) (n : RCore) (h : Hart) (w : Word) (key : Nat) (x : RCtx) (fe : Nat) (g : GroupRun) (o : PxOp),
        mayAccess s n.val h.val w.toNat 0 key x fe g o → g.released = false → g.accessed = false →
        quadsHeld (coreOf s n.val) g.slot g.seq g.quads = true →
        exec (.pxLd n h w) s = .next (setCore s n.val (setHart (coreOf s n.val) h.val { hartOf (coreOf s n.val) h.val with group := some { g with waiting := some w.toNat } }))) ∧
    (∀ (s : State) (n : RCore) (h : Hart) (w : Word) (key : Nat) (x : RCtx) (fe : Nat) (g : GroupRun) (o : PxOp),
        mayAccess s n.val h.val w.toNat 0 key x fe g o → g.released = true → x.faulted = false → ∃ t,
        exec (.pxLd n h w) s = .next t ∧ renderFaulted t key 4 = true) ∧
    (∀ (s : State) (n : RCore) (h : Hart) (w : Word) (key : Nat) (x : RCtx) (fe : Nat) (g : GroupRun),
        hartWork s n.val h.val = .group key x fe g → g.waiting = none → (hartOf (coreOf s n.val) h.val).halted = false →
        fld w.toNat 0 7 = 0x2B → (fld w.toNat 12 3 = 0 ∨ 3 < fld w.toNat 12 3) → pxDecode x w.toNat = none → x.faulted = false →
        ∃ t, exec (.pxLd n h w) s = .next t ∧ renderFaulted t key 2 = true) ∧
    (∀ (s : State) (n : RCore) (h : Hart) (w : Word) (c : Nat) (x : CCtx), hartWork s n.val h.val = .compute c →
        cctxOf s c = some x → x.faulted = false → (hartOf (coreOf s n.val) h.val).halted = false → fld w.toNat 0 7 = 0x2B →
        fld w.toNat 12 3 = 0 → ∃ t, exec (.pxLd n h w) s = .next t ∧ (cctxOf t c).map (·.faulted) = some true) ∧
    (∀ (s : State) (n : RCore) (h : Hart) (w : Word), hartWork s n.val h.val = .idle → exec (.pxLd n h w) s = .next s)) ∧
  -- PX_ST (R131)
  ((∀ (s : State) (n : RCore) (h : Hart) (w : Word) (key : Nat) (x : RCtx) (fe : Nat) (g : GroupRun) (o : PxOp),
        mayAccess s n.val h.val w.toNat 1 key x fe g o → g.released = false → (g.accessed = true ∨
        quadsHeld (coreOf s n.val) g.slot g.seq g.quads = false) →
        ((activeLanes (hartOf (coreOf s n.val) h.val) g o).map (lanePixel g.quads)).Nodup → ∃ t, exec (.pxSt n h w) s = .next t ∧
        (∀ i, i ∈ activeLanes (hartOf (coreOf s n.val) h.val) g o →
        tmGet (coreOf t n.val) g.slot o.att o.smp (lanePixel g.quads i) = pxWrite (at0 0 (attFmts x) o.att) o (tmGet (coreOf s n.val) g.slot o.att o.smp (lanePixel g.quads i)) (tget (fun _ => 0) (hartOf (coreOf s n.val) h.val).v (16 * o.vd + i))) ∧
        (∀ p, p ∉ (activeLanes (hartOf (coreOf s n.val) h.val) g o).map (fun i => tmKey g.slot o.att o.smp (lanePixel g.quads i)) →
        tget (fun _ => 0) (coreOf t n.val).tileMem p = tget (fun _ => 0) (coreOf s n.val).tileMem p) ∧
        (hartOf (coreOf t n.val) h.val).v = (hartOf (coreOf s n.val) h.val).v ∧
        (hartOf (coreOf t n.val) h.val).x = (hartOf (coreOf s n.val) h.val).x ∧
        (hartOf (coreOf t n.val) h.val).pc = ((hartOf (coreOf s n.val) h.val).pc + 4) % 2 ^ 32 ∧ t.od = s.od ∧ t.mem = s.mem ∧
        t.out = s.out) ∧
    (∀ (s : State) (n : RCore) (h : Hart) (w : Word) (key : Nat) (x : RCtx) (fe : Nat) (g : GroupRun) (o : PxOp),
        mayAccess s n.val h.val w.toNat 1 key x fe g o → g.released = false → g.accessed = false →
        quadsHeld (coreOf s n.val) g.slot g.seq g.quads = true →
        exec (.pxSt n h w) s = .next (setCore s n.val (setHart (coreOf s n.val) h.val { hartOf (coreOf s n.val) h.val with group := some { g with waiting := some w.toNat } }))) ∧
    (∀ (s : State) (n : RCore) (h : Hart) (w : Word) (key : Nat) (x : RCtx) (fe : Nat) (g : GroupRun) (o : PxOp),
        mayAccess s n.val h.val w.toNat 1 key x fe g o → g.released = true → x.faulted = false → ∃ t,
        exec (.pxSt n h w) s = .next t ∧ renderFaulted t key 4 = true)) ∧
  -- PX_REL (R131)
  ((∀ (s : State) (n : RCore) (h : Hart) (w : Word) (key : Nat) (x : RCtx) (fe : Nat) (g : GroupRun) (o : PxOp),
        mayAccess s n.val h.val w.toNat 2 key x fe g o →
        exec (.pxRel n h w) s = .next (issueCore (setCore s n.val (setHart (coreOf s n.val) h.val { hartOf (coreOf s n.val) h.val with group := some { g with released := true }, pc := ((hartOf (coreOf s n.val) h.val).pc + 4) % 2 ^ 32 })) n.val)) ∧
    (∀ (s : State) (n : RCore) (h : Hart) (w : Word), hartWork s n.val h.val = .idle → exec (.pxRel n h w) s = .next s)) ∧
  -- PX_KILL (R131)
  ((∀ (s : State) (n : RCore) (h : Hart) (w : Word) (key : Nat) (x : RCtx) (fe : Nat) (g : GroupRun) (o : PxOp),
        mayAccess s n.val h.val w.toNat 3 key x fe g o → ∃ t g1, exec (.pxKill n h w) s = .next t ∧
        (hartOf (coreOf t n.val) h.val).group = some { g with killed := g1 } ∧ (∀ i, i < 16 →
        bitOf g1 i = (bitOf g.killed i || (activeLanes (hartOf (coreOf s n.val) h.val) g o).contains i)) ∧
        (hartOf (coreOf t n.val) h.val).pc = ((hartOf (coreOf s n.val) h.val).pc + 4) % 2 ^ 32 ∧
        (hartOf (coreOf t n.val) h.val).v = (hartOf (coreOf s n.val) h.val).v ∧
        (coreOf t n.val).tileMem = (coreOf s n.val).tileMem ∧ t.od = s.od ∧ t.mem = s.mem ∧ t.out = s.out) ∧
    (∀ (s : State) (n : RCore) (h : Hart) (w : Word), hartWork s n.val h.val = .idle → exec (.pxKill n h w) s = .next s)) ∧
  -- PIXEL_INTERLOCK_GRANT (R129)
  ((∀ (s : State) (n : RCore) (h : Hart) (cyc : Word) (key w : Nat) (x : RCtx) (fe : Nat) (g : GroupRun) (o : PxOp) (b : Machine.Sub),
        hartWork s n.val h.val = .group key x fe g → g.waiting = some w → quadsHeld (coreOf s n.val) g.slot g.seq g.quads = false →
        pxDecode x w = some o → openSub x fe = some b → ∃ t, exec (.pixelInterlockGrant n h cyc) s = .next t ∧
        coreOf t n.val = pxPerform (coreOf s n.val) h.val x g o ∧
        (hartOf (coreOf t n.val) h.val).group = some { g with accessed := true, waiting := none } ∧
        rctxOf t key = some (putSub x { b with stall := satInc b.stall cyc.toNat }) ∧ t.od = s.od ∧ t.mem = s.mem ∧ t.out = s.out) ∧
    (∀ (s : State) (n : RCore) (h : Hart) (cyc : Word) (key : Nat) (x : RCtx) (fe : Nat) (g : GroupRun),
        hartWork s n.val h.val = .group key x fe g → (g.waiting = none ∨ quadsHeld (coreOf s n.val) g.slot g.seq g.quads = true) →
        exec (.pixelInterlockGrant n h cyc) s = .next s)) ∧
  -- HART_ECALL (R116)
  ((∀ (s : State) (n : RCore) (h : Hart) (key : Nat) (x : RCtx) (fe : Nat) (g : GroupRun),
        (hartOf (coreOf s n.val) h.val).halted = false → hartWork s n.val h.val = .group key x fe g → g.waiting = none →
        exec (.hartEcall n h) s = .next (issueCore (setCore s n.val (setHart (coreOf s n.val) h.val { hartOf (coreOf s n.val) h.val with group := none })) n.val)) ∧
    (∀ (s : State) (n : RCore) (h : Hart) (key : Nat) (x : RCtx) (v : VertexRun) (b : Machine.Sub),
        (hartOf (coreOf s n.val) h.val).halted = false → hartWork s n.val h.val = .vertex key x v → openSub x v.fence = some b →
        ∃ t, exec (.hartEcall n h) s = .next (issueCore (advance t key) n.val) ∧
        (hartOf (coreOf t n.val) h.val) = { hartOf (coreOf s n.val) h.val with vertex := none } ∧
        rctxOf t key = some (putSub x { b with vertexRunning := b.vertexRunning.erase v.draw }) ∧ t.od = s.od ∧ t.mem = s.mem ∧
        t.out = s.out) ∧
    (∀ (s : State) (n : RCore) (h : Hart) (c : Nat), (hartOf (coreOf s n.val) h.val).halted = false →
        hartWork s n.val h.val = .compute c →
        exec (.hartEcall n h) s = .next (setCore s n.val (setHart (coreOf s n.val) h.val { hartOf (coreOf s n.val) h.val with ended := true }))) ∧
    (∀ (s : State) (n : RCore) (h : Hart), ((hartOf (coreOf s n.val) h.val).halted = true ∨ hartWork s n.val h.val = .idle) →
        exec (.hartEcall n h) s = .next s))

/-- Breakpoints, context faults, tile memory errors, drains and overruns: EBREAK (R116), CTX_FAULT (R140), TILE_ECC_ERROR (R144),
QUAD_DRAINED (R145), TILE_OVERRUN (R160). Model choices it rests on: log 88. -/
def Obligations.CoreFaultsAndDrains : Prop :=
  -- EBREAK (R116)
  ((∀ (s : State) (n : RCore) (h : Hart) (pc : Word), (hartOf (coreOf s n.val) h.val).halted = false →
        bitOf (rd s E.dbg_DEBUG_STATE) 0 = true →
        exec (.ebreak n h pc) s = .next (setCore s n.val (setHart (coreOf s n.val) h.val { hartOf (coreOf s n.val) h.val with halted := true, pc := pc.toNat }))) ∧
    (∀ (s : State) (n : RCore) (h : Hart) (pc : Word) (key : Nat) (x : RCtx) (fe : Nat) (g : GroupRun),
        (hartOf (coreOf s n.val) h.val).halted = false → bitOf (rd s E.dbg_DEBUG_STATE) 0 = false →
        hartWork s n.val h.val = .group key x fe g → x.faulted = false → ∃ t, exec (.ebreak n h pc) s = .next t ∧
        renderFaulted t key 7 = true ∧ (rctxOf t key).map (fun y => (y.faultCore, y.faultHart, y.faultPc,
        y.faultSeq)) = some (n.val, h.val, pc.toNat, g.seq)) ∧
    (∀ (s : State) (n : RCore) (h : Hart) (pc : Word) (key : Nat) (x : RCtx) (v : VertexRun),
        (hartOf (coreOf s n.val) h.val).halted = false → bitOf (rd s E.dbg_DEBUG_STATE) 0 = false →
        hartWork s n.val h.val = .vertex key x v → x.faulted = false → ∃ t, exec (.ebreak n h pc) s = .next t ∧
        renderFaulted t key 7 = true) ∧
    (∀ (s : State) (n : RCore) (h : Hart) (pc : Word) (c : Nat) (x : CCtx), (hartOf (coreOf s n.val) h.val).halted = false →
        bitOf (rd s E.dbg_DEBUG_STATE) 0 = false → hartWork s n.val h.val = .compute c → cctxOf s c = some x → x.faulted = false →
        ∃ t, exec (.ebreak n h pc) s = .next t ∧ (cctxOf t c).map (·.faulted) = some true)) ∧
  -- CTX_FAULT (R140)
  ((∀ (s : State) (n : RCore) (h : Hart) (pc a : Word) (ac : HartAccess) (key : Nat) (x : RCtx) (fe : Nat) (g : GroupRun),
        hartWork s n.val h.val = .group key x fe g → (hartOf (coreOf s n.val) h.val).halted = false → x.faulted = false →
        (0xF0003000 ≤ a.toNat ∨ a.toNat % accessSize ac ≠ 0) → ∃ t, exec (.ctxFault (.access n h pc a ac)) s = .next t ∧
        renderFaulted t key 3 = true ∧ (rctxOf t key).map (fun y => (y.faultAddr, y.faultPc, y.faultSeq)) = some (a.toNat, pc.toNat,
        g.seq) ∧ (∀ y, rctxOf t key = some y → y.subs.all (fun b => b.ended.isSome || decide (b.phase = 4)) = true) ∧ (∀ m u,
        useOf t m = some u → u.ctx ≠ key)) ∧
    (∀ (s : State) (n : RCore) (h : Hart) (pc a : Word) (ac : HartAccess) (key : Nat) (x : RCtx) (fe : Nat) (g : GroupRun),
        hartWork s n.val h.val = .group key x fe g → (hartOf (coreOf s n.val) h.val).halted = false → x.faulted = false →
        a.toNat < 0xF0000000 → a.toNat % accessSize ac = 0 → ctxIn s key a.toNat (accessSize ac) = false → ∃ t,
        exec (.ctxFault (.access n h pc a ac)) s = .next t ∧ renderFaulted t key 1 = true ∧
        (rctxOf t key).map (fun y => (y.faultAddr, y.faultPc, y.faultSeq)) = some (a.toNat, pc.toNat, g.seq)) ∧
    (∀ (s : State) (n : RCore) (h : Hart) (pc a : Word) (z : Fin 3) (key : Nat) (x : RCtx) (fe : Nat) (g : GroupRun),
        hartWork s n.val h.val = .group key x fe g → (hartOf (coreOf s n.val) h.val).halted = false → a.toNat < 0xF0000000 →
        a.toNat % 2 ^ z.val = 0 → ctxIn s key a.toNat (2 ^ z.val) = true → (coreOf s n.val).l1 = [] → ∃ t,
        exec (.ctxFault (.access n h pc a (.load z))) s = .next t ∧
        (hartOf (coreOf t n.val) h.val).loaded = ctxRd s key a.toNat (2 ^ z.val) ∧ t.mem = s.mem ∧ t.od = s.od ∧ t.out = s.out) ∧
    (∀ (s : State) (n : RCore) (h : Hart) (pc a : Word) (z : Fin 3) (v : Word) (key : Nat) (x : RCtx) (fe : Nat) (g : GroupRun),
        hartWork s n.val h.val = .group key x fe g → (hartOf (coreOf s n.val) h.val).halted = false → a.toNat < 0xF0000000 →
        a.toNat % 2 ^ z.val = 0 → ctxIn s key a.toNat (2 ^ z.val) = true → ∃ t,
        exec (.ctxFault (.access n h pc a (.store z v))) s = .next t ∧
        t.mem = (ctxWr s key a.toNat (leBytes (2 ^ z.val) v.toNat)).mem ∧ t.od = s.od ∧ t.out = s.out ∧
        t.raster.rctx = s.raster.rctx) ∧
    (∀ (s : State) (n : RCore) (h : Hart) (pc a : Word) (z : Fin 3) (key : Nat) (x : RCtx) (fe : Nat) (g : GroupRun),
        hartWork s n.val h.val = .group key x fe g → (hartOf (coreOf s n.val) h.val).halted = false → 0xF0000000 ≤ a.toNat →
        a.toNat < 0xF0003000 → a.toNat % 2 ^ z.val = 0 → ∃ t, exec (.ctxFault (.access n h pc a (.load z))) s = .next t ∧
        (hartOf (coreOf t n.val) h.val).loaded = (rangeFrom (a.toNat - 0xF0000000) (2 ^ z.val)).map (tget (fun _ => 0) (hartOf (coreOf s n.val) h.val).scratch) ∧
        t.mem = s.mem ∧ t.od = s.od) ∧
    (∀ (s : State) (n : RCore) (h : Hart) (pc w : Word) (key : Nat) (x : RCtx) (fe : Nat) (g : GroupRun),
        hartWork s n.val h.val = .group key x fe g → (hartOf (coreOf s n.val) h.val).halted = false → x.faulted = false →
        fld w.toNat 0 7 ≠ 0x2B →
        legalWord w.toNat (tget (fun _ => 0) (hartOf (coreOf s n.val) h.val).x (fld w.toNat 20 5)) = false → ∃ t,
        exec (.ctxFault (.word n h pc w)) s = .next t ∧ renderFaulted t key 2 = true ∧ (rctxOf t key).map (fun y => (y.faultAddr,
        y.faultPc, y.faultSeq)) = some (0, pc.toNat, g.seq)) ∧
    (∀ (s : State) (n : RCore) (h : Hart) (pc w : Word),
        legalWord w.toNat (tget (fun _ => 0) (hartOf (coreOf s n.val) h.val).x (fld w.toNat 20 5)) = true →
        exec (.ctxFault (.word n h pc w)) s = .next s) ∧
    (∀ (s : State) (n : RCore) (h : Hart) (pc a : Word) (key : Nat) (x : RCtx) (fe : Nat) (g : GroupRun),
        hartWork s n.val h.val = .group key x fe g → x.faulted = false → ∃ t, exec (.ctxFault (.hartError n h pc a)) s = .next t ∧
        renderFaulted t key 6 = true ∧ (rctxOf t key).map (fun y => (y.faultAddr, y.faultPc, y.faultSeq)) = some (a.toNat, pc.toNat,
        g.seq)) ∧
    (∀ (s : State) (n : RCore) (sl : Fin 4) (r : SlotRec) (x : RCtx), slotOf (coreOf s n.val) sl.val = some r →
        rctxOf s r.ctx = some x → x.faulted = false → ∃ t, exec (.ctxFault (.tileError n sl)) s = .next t ∧
        renderFaulted t r.ctx 6 = true ∧ (rctxOf t r.ctx).map (·.faultAddr) = some 0) ∧
    (∀ (s : State) (n : RCore) (h : Hart) (pc a : Word) (ac : HartAccess) (c : Nat) (x : CCtx),
        hartWork s n.val h.val = .compute c → (hartOf (coreOf s n.val) h.val).halted = false → cctxOf s c = some x →
        x.faulted = false → (0xF0003000 ≤ a.toNat ∨ a.toNat % accessSize ac ≠ 0) → ∃ t,
        exec (.ctxFault (.access n h pc a ac)) s = .next t ∧ (cctxOf t c).map (·.faulted) = some true ∧ (∀ y, cctxOf t c = some y →
        y.disps.all (fun d => d.ended.isSome && decide (d.running = 0)) = true)) ∧
    (∀ (s : State) (n : RCore) (h : Hart) (pc a : Word) (ac : HartAccess), hartWork s n.val h.val = .idle →
        exec (.ctxFault (.access n h pc a ac)) s = .next s)) ∧
  -- TILE_ECC_ERROR (R144)
  ((∀ (s : State) (n : RCore) (sl : Fin 4) (r : SlotRec) (x : RCtx), slotOf (coreOf s n.val) sl.val = some r →
        rctxOf s r.ctx = some x → x.faulted = false → ∃ t, exec (.tileEccError n sl true) s = .next t ∧
        renderFaulted t r.ctx 5 = true ∧ (∀ a sm px, a < 5 → sm < 4 → px < 4096 → tmGet (coreOf t n.val) sl.val a sm px = 0)) ∧
    (∀ (s : State) (n : RCore) (sl : Fin 4) (r : SlotRec) (x : RCtx), slotOf (coreOf s n.val) sl.val = some r →
        rctxOf s r.ctx = some x → pdOn s 2 = true → ∃ t, exec (.tileEccError n sl false) s = .next t ∧
        rctxOf t r.ctx = some { x with eccCorrected := (x.eccCorrected + 1) % 2 ^ 32 } ∧ t.od = s.od ∧
        (coreOf t n.val).tileMem = (coreOf s n.val).tileMem ∧
        t.out = (if (match (coreOf s n.val).eccAt with | some e => decide (e + 25000 ≤ s.time) | none => true) then [.event false .eccCorrected [(n.val : Int)]] else []) ++ s.out) ∧
    (∀ (s : State) (n : RCore) (sl : Fin 4) (b : Bool), slotOf (coreOf s n.val) sl.val = none →
        exec (.tileEccError n sl b) s = .next s)) ∧
  -- QUAD_DRAINED (R145)
  ((∀ (s : State) (q : Fin 4), s.raster.draining.contains q.val = true → (∀ n, 4 * q.val ≤ n → n < 4 * q.val + 4 →
        coreIdle (coreOf s n) = true) → pdOn s 2 = true → pdChanging s = false → s.power.queue = [] → pdState s (3 + q.val) = 2 →
        ∃ t, exec (.quadDrained q) s = .next t ∧ rd t (E.pd_STATE (3 + q.val)) = 3 ∧ entriesKept [E.pd_STATE (3 + q.val)] s t ∧
        t.out = .event false .quadDrained [(q.val : Int)] :: s.out) ∧
    (∀ (s : State) (q : Fin 4), s.raster.draining.contains q.val = false → exec (.quadDrained q) s = .next s)) ∧
  -- TILE_OVERRUN (R160)
  ((∀ (s : State) (n : RCore) (key fence : Nat) (x : RCtx) (b : Machine.Sub) (pre post : List Machine.Sub),
        oldestWork (coreOf s n.val) = some (key, fence) → rctxOf s key = some x → x.subs = pre ++ b :: post → b.fence = fence →
        b.ended = none → b.phase < 4 → b.adopted = false → (∀ y, y ∈ pre → y.fence ≠ fence) → (∀ y, y ∈ post → y.fence ≠ fence) →
        pdOn s 2 = true → ∃ t, exec (.tileOverrun n) s = .next (openPartial (advance t key) key) ∧
        t.out = .event false .tileOverrun [(key : Int)] :: s.out ∧ t.od = s.od ∧
        rctxOf t key = some { x with subs := pre ++ { b with table := [], place := [], nextInv := b.invs, vertexRunning := [], full := 0, ended := some (2, 0) } :: post } ∧
        (∀ m u, useOf t m = some u → ¬ (u.ctx = key ∧ u.fence = fence)) ∧ (∀ m i r, m < 16 → i < 4 →
        slotOf (coreOf t m) i = some r → ¬ (r.ctx = key ∧ r.fence = fence))) ∧
    (∀ (s : State) (n : RCore), oldestWork (coreOf s n.val) = none → exec (.tileOverrun n) s = .next s))

/-- Workgroups end, are saved and are restored: WORKGROUP_END (R157), WORKGROUP_YIELD (R160), WG_SAVED (R161), WORKGROUP_RESTORED (R161).
Model choices it rests on: log 85, 86. -/
def Obligations.WorkgroupsAreSavedAndRestored : Prop :=
  -- WORKGROUP_END (R157)
  ((∀ (s : State) (n : RCore) (w : WgRun) (x : CCtx), (coreOf s n.val).wg = some w → w.phase = 0 → (∀ h, h < 4 →
        (hartOf (coreOf s n.val) h).ended = true) → cctxOf s w.ctx = some x → ∃ t, exec (.workgroupEnd n) s = .next t ∧
        (coreOf t n.val).wg = none ∧ t.od = s.od ∧ t.mem = s.mem ∧ t.out = s.out ∧ (∀ d l, x.disps = d :: l → d.fence = w.fence →
        d.ended = none → d.running = 1 → d.next = wgTotal d → d.saved = [] →
        cctxOf t w.ctx = some { x with disps := { d with running := 0, ended := some (0, 0) } :: l }) ∧ (∀ d l, x.disps = d :: l →
        d.fence = w.fence → d.next < wgTotal d →
        cctxOf t w.ctx = some { x with disps := { d with running := d.running - 1 } :: l })) ∧
    (∀ (s : State) (n : RCore) (h : Hart), (hartOf (coreOf s n.val) h.val).ended = false → exec (.workgroupEnd n) s = .next s)) ∧
  -- WORKGROUP_YIELD (R160)
  ((∀ (s : State) (n : RCore) (w : WgRun), (coreOf s n.val).wg = some w → w.phase = 0 → w.preempt.isSome = true →
        exec (.workgroupYield n) s = .next (setCore s n.val { coreOf s n.val with wg := some { w with phase := 1 } })) ∧
    (∀ (s : State) (n : RCore) (w : WgRun), (coreOf s n.val).wg = some w → (w.phase ≠ 0 ∨ w.preempt = none) →
        exec (.workgroupYield n) s = .next s)) ∧
  -- WG_SAVED (R161)
  ((∀ (s : State) (n : RCore) (w : WgRun) (x : CCtx) (d : Disp) (l : List Disp), (coreOf s n.val).wg = some w → w.phase = 1 →
        cctxOf s w.ctx = some x → x.disps = d :: l → d.fence = w.fence →
        inWindow s w.ctx (x.saveAddr + 65536 * n.val) 65536 = true → pdOn s 2 = true → ∃ t, exec (.wgSaved n) s = .next t ∧
        (coreOf t n.val).wg = none ∧ t.out = .event false .wgSaved [(n.val : Int), (w.ctx : Int)] :: s.out ∧ t.od = s.od ∧
        t.mem = (winWr s w.ctx (x.saveAddr + 65536 * n.val) ((List.range 4).flatMap (fun h => hartImage (hartOf (coreOf s n.val) h)))).mem ∧
        cctxOf t w.ctx = some { x with disps := { d with running := d.running - 1, saved := d.saved ++ [{ num := w.num, core := n.val, harts := (coreOf s n.val).harts }] } :: l, savedCount := (x.savedCount + 1) % 2 ^ 32 }) ∧
    (∀ (s : State) (n : RCore) (w : WgRun) (x : CCtx), (coreOf s n.val).wg = some w → w.phase = 1 → cctxOf s w.ctx = some x →
        x.faulted = false → inWindow s w.ctx (x.saveAddr + 65536 * n.val) 65536 = false → ∃ t, exec (.wgSaved n) s = .next t ∧
        (cctxOf t w.ctx).map (·.faulted) = some true) ∧
    (∀ (s : State) (n : RCore) (w : WgRun), (coreOf s n.val).wg = some w → w.phase ≠ 1 → exec (.wgSaved n) s = .next s)) ∧
  -- WORKGROUP_RESTORED (R161)
  ((∀ (s : State) (n : RCore) (w : WgRun) (v : SavedWg) (x : CCtx), (coreOf s n.val).wg = some w → w.restore = some v →
        w.phase = 2 → cctxOf s w.ctx = some x → inWindow s w.ctx (x.saveAddr + 65536 * v.core) 65536 = true → ∃ t,
        exec (.workgroupRestored n) s = .next t ∧ (coreOf t n.val).wg = some { w with phase := 0, restore := none } ∧
        t.mem = s.mem ∧ t.od = s.od ∧ t.raster.cctx = s.raster.cctx ∧ (∀ h, h < 4 →
        hartOf (coreOf t n.val) h = restoreHart (tget (fun _ => {}) v.harts h) (winRd s w.ctx (x.saveAddr + 65536 * v.core + 16384 * h) 16384))) ∧
    (∀ (r : HartRec), restoreHart r (hartImage r) = r) ∧
    (∀ (s : State) (n : RCore) (w : WgRun) (v : SavedWg) (x : CCtx), (coreOf s n.val).wg = some w → w.restore = some v →
        w.phase = 2 → cctxOf s w.ctx = some x → x.faulted = false → inWindow s w.ctx (x.saveAddr + 65536 * v.core) 65536 = false →
        ∃ t, exec (.workgroupRestored n) s = .next t ∧ (cctxOf t w.ctx).map (·.faulted) = some true) ∧
    (∀ (s : State) (n : RCore) (w : WgRun), (coreOf s n.val).wg = some w → w.restore = none →
        exec (.workgroupRestored n) s = .next s))

/-- Lines, latch points, frames and blanking of a head: HEAD_LINE_START (R201), LINE_FETCH_COMPLETE (R212), HEAD_LATCH (R190), HEAD_FRAME
(R199), HEAD_VBLANK (R224), TE_EDGE (R205), TE_TIMEOUT (R205). Model choices it rests on: log 56, 91, 93. -/
def Obligations.FramesLinesAndLatchPoints : Prop :=
  -- HEAD_LINE_START (R201)
  ((∀ (s : State) (h : Head) (m : Option Missing) (w : Bool) (y : Nat), scanning s h.val = true →
        y = (if (headOf s h.val).begun then rd s (E.head_LINE h.val) + 1 else 0) → y < frameLines s h.val → ∃ t,
        exec (.headLineStart h m w) s = .next t ∧ rd t (E.head_LINE h.val) = y ∧ (headOf t h.val).begun = true ∧
        (headOf t h.val).tim = (headOf s h.val).tim ∧
        (headOf t h.val).k = ((kOf (timOf s h.val 9) : Int) + (if rd s (E.head_LOCK_EN h.val) = 1 then (headOf s h.val).trim else 0)).toNat ∧
        rd t (E.head_TOLERANCE h.val) = (if hState t h.val ≠ 2 then 65535 else if y < vActive s h.val ∧
        (missingOf s h.val y m).isSome = true then 0 else toleranceOf t h.val)) ∧
    (∀ (s : State) (h : Head) (m : Missing) (w : Bool) (y : Nat), scanning s h.val = true →
        y = (if (headOf s h.val).begun then rd s (E.head_LINE h.val) + 1 else 0) → y < frameLines s h.val → y < vActive s h.val →
        hState s h.val = 2 → ∃ t, exec (.headLineStart h (some m) w) s = .next t ∧
        rd t (E.head_UNDERRUN_LINES h.val) = satInc (rd s (E.head_UNDERRUN_LINES h.val)) 1 ∧ (headOf t h.val).under = true) ∧
    (∀ (s : State) (h : Head) (m : Option Missing) (w : Bool), (scanning s h.val = false ∨
        frameLines s h.val ≤ (if (headOf s h.val).begun then rd s (E.head_LINE h.val) + 1 else 0)) →
        exec (.headLineStart h m w) s = .next s)) ∧
  -- LINE_FETCH_COMPLETE (R212)
  (∀ (s : State) (h : Head),
        exec (.lineFetchComplete h) s = .next (wr s (E.head_TOLERANCE h.val) (if rd s (E.head_STATE h.val) = 2 then toleranceOf s h.val else 65535))) ∧
  -- HEAD_LATCH (R190)
  ((∀ (s : State) (h : Head), hasLatch s h.val = true → (headOf s h.val).taken = false → (headOf s h.val).begun = true →
        (rd s (E.head_LINE h.val) = latchLine s h.val ∨ commandMode s h.val = true) → pdOn s 2 = true → ∃ t,
        exec (.headLatch h) s = .next t ∧ (headOf t h.val).taken = true ∧
        .event false .headLatch [(h.val : Int), (rd s (E.head_FRAME h.val) : Int)] ∈ t.out ∧
        (headOf t h.val).armed = (lateEnough s && s.dict.applying.any (fun p => isComposeKey h.val p.1 || isOutputKey h.val p.1)) ∧
        (headOf t h.val).routeArmed = (lateEnough s && candVal s (E.xbar_ROUTE h.val) != rd s (E.xbar_ROUTE h.val)) ∧
        (cameoOf t h.val).latched = (List.range 64).map (fun a => fld (rd s (E.pdo_ALARM_STATE (a / 8))) (4 * (a % 8)) 4)) ∧
    (∀ (s : State) (h : Head) (p : Presentation), hasLatch s h.val = true → (headOf s h.val).taken = false →
        (headOf s h.val).begun = true → rd s (E.head_LINE h.val) = latchLine s h.val → (cameoOf s h.val).pending = some p →
        p.fence = none → ((rd s (E.head_FRAME h.val) + 1) % 2 ^ 32 + 2 ^ 32 - p.fromFrame.toNat) % 2 ^ 32 < 2 ^ 31 → ∃ t,
        exec (.headLatch h) s = .next t ∧ (cameoOf t h.val).next = some p ∧ (cameoOf t h.val).pending = none ∧
        rd t (E.cameo_PRESENTATIONS h.val) = (rd s (E.cameo_PRESENTATIONS h.val) + 1) % 2 ^ 32 ∧
        rd t (E.cameo_CAMEO_LATE h.val) = rd s (E.cameo_CAMEO_LATE h.val)) ∧
    (∀ (s : State) (h : Head) (p : Presentation), hasLatch s h.val = true → (headOf s h.val).taken = false →
        (headOf s h.val).begun = true → rd s (E.head_LINE h.val) = latchLine s h.val → (cameoOf s h.val).pending = some p →
        2 ^ 31 ≤ ((rd s (E.head_FRAME h.val) + 1) % 2 ^ 32 + 2 ^ 32 - p.fromFrame.toNat) % 2 ^ 32 → ∃ t,
        exec (.headLatch h) s = .next t ∧ (cameoOf t h.val).next = (cameoOf s h.val).next ∧ (cameoOf t h.val).pending = some p ∧
        rd t (E.cameo_CAMEO_LATE h.val) = satInc (rd s (E.cameo_CAMEO_LATE h.val)) 1) ∧
    (∀ (s : State) (h : Head), (hasLatch s h.val = false ∨ (headOf s h.val).taken = true ∨ (headOf s h.val).begun = false) →
        exec (.headLatch h) s = .next s)) ∧
  -- HEAD_FRAME (R199)
  ((∀ (s : State) (h : Head), pdOn s (headDomain h.val) = true → pdOn s 2 = true → hState s h.val = 1 → ∃ t,
        exec (.headFrame h) s = .next t ∧ rd t (E.head_STATE h.val) = 4 ∧
        rd t (E.head_FRAME h.val) = (rd s (E.head_FRAME h.val) + 1) % 2 ^ 32 ∧ rd t (E.head_LINE h.val) = 0 ∧
        (headOf t h.val).begun = false ∧ (headOf t h.val).taken = false ∧
        .event false .headFrame [(h.val : Int), ((rd s (E.head_FRAME h.val) + 1) % 2 ^ 32 : Nat)] ∈ t.out) ∧
    (∀ (s : State) (h : Head), pdOn s (headDomain h.val) = true → pdOn s 2 = true → hState s h.val = 2 →
        (headOf s h.val).begun = true → frameLines s h.val ≤ rd s (E.head_LINE h.val) + 1 → (headOf s h.val).stopping = false →
        commandMode s h.val = false → (headOf s h.val).clean = false → (headOf s h.val).blankNext = false →
        dispWaits s h.val = false → ∃ t, exec (.headFrame h) s = .next t ∧ rd t (E.head_STATE h.val) = 2 ∧
        rd t (E.head_FRAME h.val) = (rd s (E.head_FRAME h.val) + 1) % 2 ^ 32 ∧ rd t (E.head_LINE h.val) = 0 ∧
        (headOf t h.val).begun = false ∧ (headOf t h.val).taken = false ∧ (cameoOf t h.val).alarms = (cameoOf s h.val).latched) ∧
    (∀ (s : State) (h : Head), pdOn s (headDomain h.val) = true → 2 ≤ hState s h.val → (headOf s h.val).begun = true →
        frameLines s h.val ≤ rd s (E.head_LINE h.val) + 1 → (headOf s h.val).stopping = true → ∃ t,
        exec (.headFrame h) s = .next t ∧ rd t (E.head_STATE h.val) = 0 ∧ rd t (E.head_LINE h.val) = 0 ∧
        rd t (E.head_TOLERANCE h.val) = 65535 ∧ rd t (E.head_LOCK_STATE h.val) = 0) ∧
    (∀ (s : State) (h : Head), (pdOn s (headDomain h.val) = false ∨ hState s h.val = 0 ∨ (2 ≤ hState s h.val ∧
        rd s (E.head_LINE h.val) + 1 < (if (headOf s h.val).teGo = true ∧
        (headOf s h.val).stopping = false then vActive s h.val else frameLines s h.val))) → exec (.headFrame h) s = .next s)) ∧
  -- HEAD_VBLANK (R224)
  ((∀ (s : State) (h : Head), scanning s h.val = true → (headOf s h.val).begun = true →
        rd s (E.head_LINE h.val) = vActive s h.val → pdOn s 2 = true → ∃ t, exec (.headVblank h) s = .next t ∧
        t.out = .event false .headVblank [(h.val : Int)] :: s.out ∧ t.od = s.od ∧ t.heads = s.heads ∧ (∀ f y, f < 8 →
        (facetOf s h.val f).slice = some y → (facetOf t h.val f).slice = some { y with verdict := some (y.seq, y.ok) })) ∧
    (∀ (s : State) (h : Head), (scanning s h.val = false ∨ (headOf s h.val).begun = false ∨
        rd s (E.head_LINE h.val) ≠ vActive s h.val) → exec (.headVblank h) s = .next s)) ∧
  -- TE_EDGE (R205)
  ((∀ (s : State) (p : Fin 4) (f : Bool) (h : Head), rd s (E.head_TE_INPUT h.val) = p.val → rd s (E.head_TE_EDGE h.val) = b2n f →
        commanded s h.val = true → (headOf s h.val).taken = true → (headOf s h.val).teGo = false → hState s h.val ≠ 3 → ∃ t,
        exec (.teEdge p f) s = .next t ∧ headOf t h.val = { headOf s h.val with teGo := true } ∧
        rd t (E.head_TE_STATE h.val) = (if rd s (E.head_TE_STATE h.val) = 2 then 1 else rd s (E.head_TE_STATE h.val)) ∧
        rd t (E.head_TE_EARLY h.val) = rd s (E.head_TE_EARLY h.val) ∧ (rd s (E.head_TE_STATE h.val) = 2 → pdOn s 2 = true →
        .event false .teRelock [(h.val : Int)] ∈ t.out) ∧ t.mem = s.mem) ∧
    (∀ (s : State) (p : Fin 4) (f : Bool) (h : Head), rd s (E.head_TE_INPUT h.val) = p.val → rd s (E.head_TE_EDGE h.val) = b2n f →
        commanded s h.val = true → ((headOf s h.val).taken = false ∨ (headOf s h.val).teGo = true ∨ hState s h.val = 3) → ∃ t,
        exec (.teEdge p f) s = .next t ∧ headOf t h.val = headOf s h.val ∧
        rd t (E.head_TE_STATE h.val) = rd s (E.head_TE_STATE h.val) ∧
        rd t (E.head_TE_EARLY h.val) = satInc (rd s (E.head_TE_EARLY h.val)) 1) ∧
    (∀ (s : State) (p : Fin 4) (f : Bool) (h : Head), (rd s (E.head_TE_INPUT h.val) ≠ p.val ∨ rd s (E.head_TE_EDGE h.val) ≠ b2n f ∨
        commanded s h.val = false) → ∃ t, exec (.teEdge p f) s = .next t ∧ headOf t h.val = headOf s h.val ∧
        rd t (E.head_TE_STATE h.val) = rd s (E.head_TE_STATE h.val) ∧ rd t (E.head_TE_EARLY h.val) = rd s (E.head_TE_EARLY h.val))) ∧
  -- TE_TIMEOUT (R205)
  ((∀ (s : State) (h : Head), commanded s h.val = true → (headOf s h.val).teGo = false → rd s (E.head_TE_STATE h.val) ≠ 2 →
        hState s h.val ≠ 3 → pdOn s 2 = true → ∃ t, exec (.teTimeout h) s = .next t ∧ rd t (E.head_TE_STATE h.val) = 2 ∧
        rd t (E.head_TE_MISSED h.val) = satInc (rd s (E.head_TE_MISSED h.val)) 1 ∧ (headOf t h.val).teGo = true ∧
        t.out = .event false .teLost [(h.val : Int)] :: s.out ∧ entriesKept [E.head_TE_STATE h.val, E.head_TE_MISSED h.val] s t) ∧
    (∀ (s : State) (h : Head), (commanded s h.val = false ∨ (headOf s h.val).teGo = true ∨ rd s (E.head_TE_STATE h.val) = 2 ∨
        hState s h.val = 3) → exec (.teTimeout h) s = .next s))

/-- Timing changes, enables, route changes and a lost frame lock: TIMING_CHANGE_IMMEDIATE (R213), TIMING_CHANGE_CLEAN (R215), HEAD_ENABLE
(R216), HEAD_DISABLE (R216), ROUTE_CHANGE (R220), LOCK_STAMP_TIMEOUT (R218). Model choices it rests on: log 56, 59, 91, 94. -/
def Obligations.TimingChangesAndEnables : Prop :=
  -- TIMING_CHANGE_IMMEDIATE (R213)
  ((∀ (s : State) (h : Head), scanning s h.val = true → timingWaits s h.val = true → candVal s (E.head_CHANGE h.val) = 0 →
        candVal s (E.head_ENABLE h.val) ≠ 0 → (cameoOf s h.val).splash = false → timingChanges s h.val = true →
        (headOf s h.val).irr = false → pdOn s 2 = true → ∃ t, exec (.timingChangeImmediate h) s = .next t ∧
        (headOf t h.val).tim = liveTiming (landWhere s (isTimingKey h.val)) h.val ∧ timingWaits t h.val = false ∧
        rd t (E.head_IRREGULAR_FRAMES h.val) = satInc (rd s (E.head_IRREGULAR_FRAMES h.val)) 1 ∧
        rd t (E.head_IRREG_CAUSE h.val) = 1 ∧ rd t (E.head_LAST_IRREGULAR h.val) = rd s (E.head_FRAME h.val) ∧
        rd t (E.head_STATE h.val) = rd s (E.head_STATE h.val) ∧ (rd s (E.head_LOCK_STATE h.val) = 2 →
        rd t (E.head_LOCK_STATE h.val) = 1) ∧ .event false .headIrregular [(h.val : Int), 1] ∈ t.out) ∧
    (∀ (s : State) (h : Head), scanning s h.val = true → timingWaits s h.val = true → candVal s (E.head_CHANGE h.val) = 0 →
        candVal s (E.head_ENABLE h.val) ≠ 0 → (cameoOf s h.val).splash = false → timingChanges s h.val = false →
        exec (.timingChangeImmediate h) s = .next (landWhere s (isTimingKey h.val))) ∧
    (∀ (s : State) (h : Head), (scanning s h.val = false ∨ timingWaits s h.val = false ∨ candVal s (E.head_CHANGE h.val) ≠ 0) →
        exec (.timingChangeImmediate h) s = .next s)) ∧
  -- TIMING_CHANGE_CLEAN (R215)
  ((∀ (s : State) (h : Head), scanning s h.val = true → timingWaits s h.val = true → (candVal s (E.head_CHANGE h.val) = 1 ∨
        (cameoOf s h.val).splash = true) → candVal s (E.head_ENABLE h.val) ≠ 0 → timingChanges s h.val = true →
        exec (.timingChangeClean h) s = .next (wr (wr (setHead s h.val { headOf s h.val with clean := true }) (E.head_STATE h.val) 3) (E.head_TOLERANCE h.val) 65535)) ∧
    (∀ (s : State) (h : Head), scanning s h.val = true → timingWaits s h.val = true → candVal s (E.head_CHANGE h.val) = 1 →
        candVal s (E.head_ENABLE h.val) ≠ 0 → timingChanges s h.val = false →
        exec (.timingChangeClean h) s = .next (landWhere s (isTimingKey h.val))) ∧
    (∀ (s : State) (h : Head), (scanning s h.val = false ∨ timingWaits s h.val = false) → exec (.timingChangeClean h) s = .next s)) ∧
  -- HEAD_ENABLE (R216)
  ((∀ (s : State) (h : Head), hState s h.val = 0 → candVal s (E.head_ENABLE h.val) = 1 → pdOn s (headDomain h.val) = true → ∃ t,
        exec (.headEnable h) s = .next t ∧ rd t (E.head_STATE h.val) = 1 ∧ rd t (E.head_FRAME h.val) = 0 ∧
        rd t (E.head_LINE h.val) = 0 ∧ (headOf t h.val).stopping = false ∧ (headOf t h.val).trim = 0 ∧ (∀ p,
        (cameoOf s h.val).pending = some p → (cameoOf t h.val).pending = some { p with fromFrame := 0 }) ∧
        entriesKept [E.head_STATE h.val, E.head_FRAME h.val, E.head_LINE h.val, E.head_TE_STATE h.val] s t) ∧
    (∀ (s : State) (h : Head), (hState s h.val ≠ 0 ∨ candVal s (E.head_ENABLE h.val) ≠ 1 ∨ pdOn s (headDomain h.val) = false) →
        exec (.headEnable h) s = .next s)) ∧
  -- HEAD_DISABLE (R216)
  ((∀ (s : State) (h : Head), 2 ≤ hState s h.val → candVal s (E.head_ENABLE h.val) = 0 → ∃ t, exec (.headDisable h) s = .next t ∧
        (headOf t h.val).stopping = true ∧ (headOf t h.val).clean = false ∧ rd t (E.head_STATE h.val) = rd s (E.head_STATE h.val) ∧
        t.out = s.out) ∧
    (∀ (s : State) (h : Head), hState s h.val = 1 → candVal s (E.head_ENABLE h.val) = 0 → ∃ t, exec (.headDisable h) s = .next t ∧
        rd t (E.head_STATE h.val) = 0 ∧ rd t (E.head_LINE h.val) = 0) ∧
    (∀ (s : State) (h : Head), (hState s h.val = 0 ∨ candVal s (E.head_ENABLE h.val) ≠ 0) → exec (.headDisable h) s = .next s)) ∧
  -- ROUTE_CHANGE (R220)
  ((∀ (s : State) (h : Head), scanning s h.val = true → (headOf s h.val).begun = false → (headOf s h.val).routeArmed = true → ∃ t,
        exec (.routeChange h) s = .next t ∧ rd t (E.head_STATE h.val) = 4 ∧ (headOf t h.val).routeArmed = false ∧
        (headOf t h.val).route = rd t (E.xbar_ROUTE h.val) ∧ (∀ bs, applyingVal s (E.xbar_ROUTE h.val) = some bs →
        rd t (E.xbar_ROUTE h.val) = leVal bs)) ∧
    (∀ (s : State) (h : Head), (scanning s h.val = false ∨ (headOf s h.val).begun = true ∨ (headOf s h.val).routeArmed = false) →
        exec (.routeChange h) s = .next s)) ∧
  -- LOCK_STAMP_TIMEOUT (R218)
  ((∀ (s : State) (h : Head), (rd s (E.head_LOCK_STATE h.val) = 1 ∨ rd s (E.head_LOCK_STATE h.val) = 2) → pdOn s 2 = true → ∃ t,
        exec (.lockStampTimeout h) s = .next t ∧ rd t (E.head_LOCK_STATE h.val) = 3 ∧
        rd t (E.head_LOCK_LOSSES h.val) = satInc (rd s (E.head_LOCK_LOSSES h.val)) 1 ∧
        entriesKept [E.head_LOCK_STATE h.val, E.head_LOCK_LOSSES h.val] s t ∧
        t.out = .event false .lockLost [(h.val : Int)] :: s.out) ∧
    (∀ (s : State) (h : Head), (rd s (E.head_LOCK_STATE h.val) = 0 ∨ 3 ≤ rd s (E.head_LOCK_STATE h.val)) →
        exec (.lockStampTimeout h) s = .next s))

/-- The deadline governor: GOVERNOR_EVALUATE (R163). Model choices it rests on: log 87. -/
def Obligations.GovernorRaisesAndReleases : Prop :=
  -- GOVERNOR_EVALUATE (R163)
  ((∀ (s : State) (h : Head) (latch k v : Nat) (x : RCtx) (b : Machine.Sub), pdOn s 2 = true → s.raster.rctx = [(k, some x)] →
        x.subs = [b] → b.fence = v → b.ended = none → b.phase < 4 → b.adopted = false → b.counted = false →
        (cameoOf s h.val).pending = none → awaited s h.val = [(k, v)] → ∃ t, exec (.governorEvaluate h latch) s = .next t ∧
        t.free = s.free + 1 ∧ t.od = s.od ∧ t.mem = s.mem ∧
        rctxOf t k = some (if (latch : Int) - (s.time : Int) - estimate s x b ≤ 5000 then { x with subs := [{ b with adopted := true, counted := true, latch := latch, latchHead := h.val }], raised := (x.raised + 1) % 2 ^ 32 } else x) ∧
        ((latch : Int) - (s.time : Int) - estimate s x b < 0 → .event false .govLate [(k : Int), (v : Int)] ∈ t.out) ∧
        ((latch : Int) - (s.time : Int) - estimate s x b ≤ 5000 → .event false .govRaise [(k : Int), (v : Int)] ∈ t.out)) ∧
    (∀ (s : State) (h : Head) (latch : Nat), pdOn s 2 = false → exec (.governorEvaluate h latch) s = .next s))

/-- Bring-up, hot plug and loss of an output port's link: PORT_BRINGUP_START (R231), HPD_STABLE (R231), PORT_READY (R231), PORT_LINK_FAIL
(R231), PORT_RETRY (R231), HPD_LOW (R232), IRQ_HPD (R232), LINK_STATUS_POLL (R232). Model choices it rests on: log 51, 99. -/
def Obligations.OutputPortsAndTheirLinks : Prop :=
  -- PORT_BRINGUP_START (R231)
  ((∀ (s : State) (p : Port), rd s (E.port_STATE p.val) = 0 → portHeads s p.val ≠ [] → pdOn s 9 = true → ∃ t,
        exec (.portBringupStart p) s = .next t ∧ rd t (E.port_STATE p.val) = 1 ∧
        rd t (E.port_BRINGUPS p.val) = satInc (rd s (E.port_BRINGUPS p.val)) 1 ∧
        entriesKept [E.port_STATE p.val, E.port_BRINGUPS p.val] s t ∧
        (outPort t p.val).waitHpd = (decide (p.val < 8) && rd s (E.port_HPD p.val) == 0) ∧ t.out = (if 8 ≤ p.val ∧
        p.val < 12 then [.msg (.port p.val) [] (dget s (E.port_DSI_INIT p.val))] else []) ++ s.out) ∧
    (∀ (s : State) (p : Port), (rd s (E.port_STATE p.val) ≠ 0 ∨ portHeads s p.val = [] ∨ pdOn s 9 = false) →
        exec (.portBringupStart p) s = .next s)) ∧
  -- HPD_STABLE (R231)
  ((∀ (s : State) (p : Port), p.val < 8 → rd s (E.port_HPD p.val) = 0 → rd s (E.port_STATE p.val) = 4 → ∃ t,
        exec (.hpdStable p) s = .next t ∧ rd t (E.port_STATE p.val) = 1 ∧
        rd t (E.port_BRINGUPS p.val) = satInc (rd s (E.port_BRINGUPS p.val)) 1 ∧ (outPort t p.val).waitHpd = false ∧ t.out = s.out) ∧
    (∀ (s : State) (p : Port), p.val < 8 → rd s (E.port_HPD p.val) = 0 → rd s (E.port_STATE p.val) ≠ 4 →
        exec (.hpdStable p) s = .next (setOutPort s p.val { outPort s p.val with waitHpd := false })) ∧
    (∀ (s : State) (p : Port), (8 ≤ p.val ∨ rd s (E.port_HPD p.val) ≠ 0) → exec (.hpdStable p) s = .next s)) ∧
  -- PORT_READY (R231)
  ((∀ (s : State) (p : Port), rd s (E.port_STATE p.val) = 1 → (outPort s p.val).waitHpd = false → pdOn s 2 = true → ∃ t,
        exec (.portReady p) s = .next t ∧ rd t (E.port_STATE p.val) = 2 ∧
        rd t (E.port_STREAMS p.val) = maskOf ((portHeads s p.val).map (·.2)) ∧
        t.out = .event false .portReady [(p.val : Int)] :: s.out ∧ (∀ e, e ∈ portHeads s p.val → rd s (E.head_STATE e.1) = 2 →
        (headOf t e.1).blankNext = true) ∧ entriesKept [E.port_STATE p.val, E.port_STREAMS p.val, E.port_MST_SLOTS p.val] s t) ∧
    (∀ (s : State) (p : Port), (rd s (E.port_STATE p.val) ≠ 1 ∨ (outPort s p.val).waitHpd = true) → exec (.portReady p) s = .next s)) ∧
  -- PORT_LINK_FAIL (R231)
  ((∀ (s : State) (p : Port), rd s (E.port_STATE p.val) = 1 → (outPort s p.val).waitHpd = false → pdOn s 2 = true → ∃ t,
        exec (.portLinkFail p) s = .next t ∧ rd t (E.port_STATE p.val) = 3 ∧
        rd t (E.port_LINK_FAILS p.val) = satInc (rd s (E.port_LINK_FAILS p.val)) 1 ∧
        entriesKept [E.port_STATE p.val, E.port_LINK_FAILS p.val] s t ∧ t.out = .event false .portLinkFail [(p.val : Int)] :: s.out) ∧
    (∀ (s : State) (p : Port), (rd s (E.port_STATE p.val) ≠ 1 ∨ (outPort s p.val).waitHpd = true) →
        exec (.portLinkFail p) s = .next s)) ∧
  -- PORT_RETRY (R231)
  ((∀ (s : State) (p : Port), rd s (E.port_STATE p.val) = 3 → ∃ t, exec (.portRetry p) s = .next t ∧
        rd t (E.port_STATE p.val) = 1 ∧ rd t (E.port_BRINGUPS p.val) = satInc (rd s (E.port_BRINGUPS p.val)) 1 ∧
        (outPort t p.val).waitHpd = false ∧ entriesKept [E.port_STATE p.val, E.port_BRINGUPS p.val] s t) ∧
    (∀ (s : State) (p : Port), rd s (E.port_STATE p.val) ≠ 3 → exec (.portRetry p) s = .next s)) ∧
  -- HPD_LOW (R232)
  ((∀ (s : State) (p : Port), p.val < 8 → rd s (E.port_HPD p.val) = 0 → rd s (E.port_STATE p.val) ≠ 4 → pdOn s 2 = true → ∃ t,
        exec (.hpdLow p) s = .next t ∧ rd t (E.port_STATE p.val) = 4 ∧ rd t (E.port_STREAMS p.val) = 0 ∧
        rd t (E.port_MST_SLOTS p.val) = 0 ∧ entriesKept [E.port_STATE p.val, E.port_STREAMS p.val, E.port_MST_SLOTS p.val] s t ∧
        t.out = .event false .portHpd [(p.val : Int)] :: s.out) ∧
    (∀ (s : State) (p : Port), (8 ≤ p.val ∨ rd s (E.port_HPD p.val) ≠ 0 ∨ rd s (E.port_STATE p.val) = 4) →
        exec (.hpdLow p) s = .next s)) ∧
  -- IRQ_HPD (R232)
  ((∀ (s : State) (p : Port) (lost : Bool), p.val < 8 → rd s (E.port_HPD p.val) = 0 → pdOn s 2 = true → ∃ t,
        exec (.irqHpd p lost) s = .next t ∧ rd t (E.port_HPD_IRQS p.val) = satInc (rd s (E.port_HPD_IRQS p.val)) 1 ∧
        rd t (E.port_STATE p.val) = (if lost = true ∧ rd s (E.port_STATE p.val) = 2 then 1 else rd s (E.port_STATE p.val)) ∧
        rd t (E.port_LINK_LOSSES p.val) = (if lost = true ∧
        rd s (E.port_STATE p.val) = 2 then satInc (rd s (E.port_LINK_LOSSES p.val)) 1 else rd s (E.port_LINK_LOSSES p.val)) ∧
        t.out = (if lost = true ∧
        rd s (E.port_STATE p.val) = 2 then [.event false .portLinkLost [(p.val : Int)]] else []) ++ .event false .portHpd [(p.val : Int)] :: s.out) ∧
    (∀ (s : State) (p : Port) (lost : Bool), (8 ≤ p.val ∨ rd s (E.port_HPD p.val) ≠ 0) → exec (.irqHpd p lost) s = .next s)) ∧
  -- LINK_STATUS_POLL (R232)
  ((∀ (s : State) (p : Port), p.val < 8 → rd s (E.port_HPD p.val) = 1 → rd s (E.port_STATE p.val) = 2 → pdOn s 2 = true → ∃ t,
        exec (.linkStatusPoll p true) s = .next t ∧ rd t (E.port_STATE p.val) = 1 ∧
        rd t (E.port_LINK_LOSSES p.val) = satInc (rd s (E.port_LINK_LOSSES p.val)) 1 ∧
        rd t (E.port_BRINGUPS p.val) = satInc (rd s (E.port_BRINGUPS p.val)) 1 ∧
        entriesKept [E.port_STATE p.val, E.port_LINK_LOSSES p.val, E.port_BRINGUPS p.val] s t ∧
        t.out = .event false .portLinkLost [(p.val : Int)] :: s.out) ∧
    (∀ (s : State) (p : Port) (lost : Bool), (lost = false ∨ 8 ≤ p.val ∨ rd s (E.port_HPD p.val) ≠ 1 ∨
        rd s (E.port_STATE p.val) ≠ 2) → exec (.linkStatusPoll p lost) s = .next s))

/-- Camera frames, lines and losses: CSI_FRAME_START (R233), CSI_LINE_PACKET (R237), CSI_FRAME_END (R237), CSI_PACKET_GAP (R233),
CAM_LOSS_TIMEOUT (R241). Model choices it rests on: log 53, 100. -/
def Obligations.CameraFramesAndLosses : Prop :=
  -- CSI_FRAME_START (R233)
  ((∀ (s : State) (r : Receiver) (n : Nat), rxOn s r.val = true → (rxOf s r.val).frame = none →
        exec (.csiFrameStart r (rd s (E.cam_VC r.val)) n 0) s = .next (setRx s r.val { rxOf s r.val with frame := some { num := n, seq := (rxOf s r.val).seq + 1, buf := nextBuffer s r.val }, seq := (rxOf s r.val).seq + 1, base := (rxOf s r.val).arrived, lastBuf := (nextBuffer s r.val).getD (rxOf s r.val).lastBuf })) ∧
    (∀ (s : State) (r : Receiver) (n : Nat), rxOn s r.val = true → (rxOf s r.val).frame = none → ∃ t,
        exec (.csiFrameStart r (rd s (E.cam_VC r.val)) n 1) s = .next t ∧
        rxOf t r.val = { rxOf s r.val with frame := some { num := n, seq := (rxOf s r.val).seq + 1, buf := nextBuffer s r.val }, seq := (rxOf s r.val).seq + 1, base := (rxOf s r.val).arrived, lastBuf := (nextBuffer s r.val).getD (rxOf s r.val).lastBuf } ∧
        rd t (E.cam_HDR_CORRECTED r.val) = satInc (rd s (E.cam_HDR_CORRECTED r.val)) 1 ∧
        entriesKept [E.cam_HDR_CORRECTED r.val] s t) ∧
    (∀ (s : State) (r : Receiver) (n : Nat) (hdr : Fin 3) (fr : CamFrame), rxOn s r.val = true → hdr.val ≠ 2 →
        (rxOf s r.val).frame = some fr → pdOn s 2 = true → ∃ t, exec (.csiFrameStart r (rd s (E.cam_VC r.val)) n hdr) s = .next t ∧
        rd t (E.cam_INCOMPLETE r.val) = satInc (rd s (E.cam_INCOMPLETE r.val)) 1 ∧
        .event false .camIncomplete [(r.val : Int)] ∈ t.out ∧ (rxOf t r.val).frame.map (·.num) = some n ∧
        (rxOf t r.val).seq = (rxOf s r.val).seq + 1) ∧
    (∀ (s : State) (r : Receiver) (vc n : Nat), rxOn s r.val = true → ∃ t, exec (.csiFrameStart r vc n 2) s = .next t ∧
        rd t (E.cam_DISCARDED r.val) = satInc (rd s (E.cam_DISCARDED r.val)) 1 ∧ (∀ fr, (rxOf s r.val).frame = some fr →
        (rxOf t r.val).frame = some { fr with ok := false }) ∧ entriesKept [E.cam_DISCARDED r.val] s t) ∧
    (∀ (s : State) (r : Receiver) (vc n : Nat), rxOn s r.val = true → vc ≠ rd s (E.cam_VC r.val) →
        exec (.csiFrameStart r vc n 0) s = .next (wr s (E.cam_DISCARDED r.val) (satInc (rd s (E.cam_DISCARDED r.val)) 1))) ∧
    (∀ (s : State) (r : Receiver) (vc n : Nat) (hdr : Fin 3), rxOn s r.val = false → exec (.csiFrameStart r vc n hdr) s = .next s)) ∧
  -- CSI_LINE_PACKET (R237)
  ((∀ (s : State) (r : Receiver) (bs : List Byte) (crc : Bool) (hdr : Fin 3) (fr : CamFrame), rxOn s r.val = true → hdr.val ≠ 2 →
        (rxOf s r.val).frame = some fr → ∃ t,
        exec (.csiLinePacket r (rd s (E.cam_VC r.val)) (rd s (E.cam_DATA_TYPE r.val)) bs crc hdr) s = .next t ∧
        rxOf t r.val = { rxOf s r.val with arrived := (rxOf s r.val).arrived + 1, frame := some { fr with lines := fr.lines + 1, ok := fr.ok && crc && lineFits s r.val fr bs } } ∧
        rd t (E.cam_HDR_CORRECTED r.val) = (if hdr.val = 1 then satInc (rd s (E.cam_HDR_CORRECTED r.val)) 1 else rd s (E.cam_HDR_CORRECTED r.val)) ∧
        rd t (E.cam_CRC_ERRORS r.val) = (if crc then rd s (E.cam_CRC_ERRORS r.val) else satInc (rd s (E.cam_CRC_ERRORS r.val)) 1)) ∧
    (∀ (s : State) (r : Receiver) (bs : List Byte) (crc : Bool) (fr : CamFrame) (o : CamOpen) (b : Nat), rxOn s r.val = true →
        (rxOf s r.val).frame = some fr → (rxOf s r.val).opened = some o → fr.buf = some b → lineFits s r.val fr bs = true →
        inWindow s o.client (o.base + o.stride * b + o.pitch * 64 * fr.lines) (storedLine (rd s (E.cam_DATA_TYPE r.val)) bs).length = true →
        ∃ t, exec (.csiLinePacket r (rd s (E.cam_VC r.val)) (rd s (E.cam_DATA_TYPE r.val)) bs crc 0) s = .next t ∧
        t.mem = (winWr s o.client (o.base + o.stride * b + o.pitch * 64 * fr.lines) (storedLine (rd s (E.cam_DATA_TYPE r.val)) bs)).mem) ∧
    (∀ (s : State) (r : Receiver) (vc dt : Nat) (bs : List Byte) (crc : Bool), rxOn s r.val = true → ∃ t,
        exec (.csiLinePacket r vc dt bs crc 2) s = .next t ∧
        rd t (E.cam_DISCARDED r.val) = satInc (rd s (E.cam_DISCARDED r.val)) 1 ∧ (∀ fr, (rxOf s r.val).frame = some fr →
        (rxOf t r.val).frame = some { fr with ok := false }) ∧ entriesKept [E.cam_DISCARDED r.val] s t) ∧
    (∀ (s : State) (r : Receiver) (vc dt : Nat) (bs : List Byte) (crc : Bool), rxOn s r.val = true → (vc ≠ rd s (E.cam_VC r.val) ∨
        dt ≠ rd s (E.cam_DATA_TYPE r.val) ∨ (rxOf s r.val).frame = none) →
        exec (.csiLinePacket r vc dt bs crc 0) s = .next (wr s (E.cam_DISCARDED r.val) (satInc (rd s (E.cam_DISCARDED r.val)) 1))) ∧
    (∀ (s : State) (r : Receiver) (vc dt : Nat) (bs : List Byte) (crc : Bool) (hdr : Fin 3), rxOn s r.val = false →
        exec (.csiLinePacket r vc dt bs crc hdr) s = .next s)) ∧
  -- CSI_FRAME_END (R237)
  ((∀ (s : State) (r : Receiver) (fr : CamFrame) (hdr : Fin 3), rxOn s r.val = true → hdr.val ≠ 2 →
        (rxOf s r.val).frame = some fr → fr.ok = true → fr.lines = rd s (E.cam_HEIGHT r.val) → pdOn s 2 = true → ∃ t,
        exec (.csiFrameEnd r (rd s (E.cam_VC r.val)) fr.num hdr) s = .next t ∧ (rxOf t r.val).frame = none ∧
        (rxOf t r.val).newest = (if fr.buf.isSome then fr.buf else (rxOf s r.val).newest) ∧ (rxOf t r.val).endTime = s.time ∧
        rd t (E.cam_STATE r.val) = 2 ∧ rd t (E.cam_FRAMES r.val) = (rd s (E.cam_FRAMES r.val) + 1) % 2 ^ 32 ∧
        .event false .camFrame [(r.val : Int)] ∈ t.out ∧ (rd s (E.cam_STATE r.val) = 3 →
        .event false .camResumed [(r.val : Int)] ∈ t.out) ∧
        rd t (E.cam_HDR_CORRECTED r.val) = (if hdr.val = 1 then satInc (rd s (E.cam_HDR_CORRECTED r.val)) 1 else rd s (E.cam_HDR_CORRECTED r.val)) ∧
        (∀ o, (rxOf s r.val).opened = some o → resettingClient s o.client = false → bitOf (claspOf t o.client).event 4 = true)) ∧
    (∀ (s : State) (r : Receiver) (n : Nat) (hdr : Fin 3) (fr : CamFrame), rxOn s r.val = true → hdr.val ≠ 2 →
        (rxOf s r.val).frame = some fr → (fr.ok = false ∨ fr.lines ≠ rd s (E.cam_HEIGHT r.val) ∨ fr.num ≠ n) → pdOn s 2 = true →
        ∃ t, exec (.csiFrameEnd r (rd s (E.cam_VC r.val)) n hdr) s = .next t ∧ (rxOf t r.val).frame = none ∧
        (rxOf t r.val).newest = (rxOf s r.val).newest ∧ rd t (E.cam_INCOMPLETE r.val) = satInc (rd s (E.cam_INCOMPLETE r.val)) 1 ∧
        rd t (E.cam_FRAMES r.val) = rd s (E.cam_FRAMES r.val)) ∧
    (∀ (s : State) (r : Receiver) (vc n : Nat), rxOn s r.val = true → ∃ t, exec (.csiFrameEnd r vc n 2) s = .next t ∧
        rd t (E.cam_DISCARDED r.val) = satInc (rd s (E.cam_DISCARDED r.val)) 1 ∧ (∀ fr, (rxOf s r.val).frame = some fr →
        (rxOf t r.val).frame = some { fr with ok := false }) ∧ entriesKept [E.cam_DISCARDED r.val] s t) ∧
    (∀ (s : State) (r : Receiver) (vc n : Nat), rxOn s r.val = true → vc ≠ rd s (E.cam_VC r.val) →
        exec (.csiFrameEnd r vc n 0) s = .next (wr s (E.cam_DISCARDED r.val) (satInc (rd s (E.cam_DISCARDED r.val)) 1))) ∧
    (∀ (s : State) (r : Receiver) (n : Nat), (rxOn s r.val = false ∨ (rxOf s r.val).frame = none) →
        exec (.csiFrameEnd r (rd s (E.cam_VC r.val)) n 0) s = .next s)) ∧
  -- CSI_PACKET_GAP (R233)
  ((∀ (s : State) (r : Receiver) (fr : CamFrame), rxOn s r.val = true → (rxOf s r.val).frame = some fr → pdOn s 2 = true → ∃ t,
        exec (.csiPacketGap r) s = .next t ∧ (rxOf t r.val).frame = none ∧
        rd t (E.cam_INCOMPLETE r.val) = satInc (rd s (E.cam_INCOMPLETE r.val)) 1 ∧
        .event false .camIncomplete [(r.val : Int)] ∈ t.out ∧ (∀ o, (rxOf s r.val).opened = some o →
        (rxOf t r.val).opened = some { o with incomplete := (o.incomplete + 1) % 2 ^ 32 })) ∧
    (∀ (s : State) (r : Receiver), (rxOn s r.val = false ∨ (rxOf s r.val).frame = none) → exec (.csiPacketGap r) s = .next s)) ∧
  -- CAM_LOSS_TIMEOUT (R241)
  ((∀ (s : State) (r : Receiver), (rd s (E.cam_STATE r.val) = 2 ∨ (rd s (E.cam_STATE r.val) = 1 ∧
        (rxOf s r.val).opened.isSome = true)) → pdOn s 2 = true → ∃ t, exec (.camLossTimeout r) s = .next t ∧
        rd t (E.cam_STATE r.val) = 3 ∧ rd t (E.cam_LOSSES r.val) = satInc (rd s (E.cam_LOSSES r.val)) 1 ∧
        .event false .camLost [(r.val : Int)] ∈ t.out ∧ (rd s (E.cam_SUBST_MODE r.val) = 1 →
        t.out.head? = some (.event true .camNotice ((r.val : Int) :: (rxOf s r.val).attached.map (fun (n : Nat) => (n : Int)))))) ∧
    (∀ (s : State) (r : Receiver), (rd s (E.cam_STATE r.val) = 0 ∨ 3 ≤ rd s (E.cam_STATE r.val) ∨ (rd s (E.cam_STATE r.val) = 1 ∧
        (rxOf s r.val).opened = none)) → exec (.camLossTimeout r) s = .next s))

/-- Opening, closing and attaching camera receivers: CAM_OPEN (R236), CAM_CLOSE (R236), CAM_ATTACH (R236), CAM_DETACH (R236), CAM_QUERY
(R236). Model choices it rests on: log 28, 101, 102. -/
def Obligations.CameraRequestsAreAnswered : Prop :=
  -- CAM_OPEN (R236)
  ((∀ (s : State) (c : Client) (q : Taken), asks s c.val 0x4001 6 q = true → argOf q 2 < 8 → argOf q 3 % 4096 = 0 → 3 ≤ argOf q 4 →
        argOf q 4 ≤ 10 → argOf q 5 % 4096 = 0 → argOf q 7 % 16 = 0 → camRight s c.val (argOf q 2) = true →
        (rxOf s (argOf q 2)).opened = none → rd s (E.cam_ENABLE (argOf q 2)) ≠ 0 →
        rd s (E.cam_WIDTH (argOf q 2)) * storedBytes4 (rd s (E.cam_DATA_TYPE (argOf q 2))) ≤ argOf q 6 * 256 →
        argOf q 6 * 64 * rd s (E.cam_HEIGHT (argOf q 2)) ≤ argOf q 5 →
        firstOutside s c.val [(argOf q 3, argOf q 4 * argOf q 5), (argOf q 7, 32)] = none → ∃ t, exec (.camOpen c) s = .next t ∧
        rd t (E.cam_HOLDER (argOf q 2)) = c.val ∧ entriesKept [E.cam_HOLDER (argOf q 2)] s t ∧
        (claspOf t c.val).taken = some { q with answer := some {} } ∧
        (rxOf t (argOf q 2)).opened = some { client := c.val, base := argOf q 3, buffers := argOf q 4, stride := argOf q 5, pitch := argOf q 6, status := argOf q 7 } ∧
        (rxOf t (argOf q 2)).newest = none ∧ (rxOf t (argOf q 2)).lastBuf = argOf q 4 - 1) ∧
    (∀ (s : State) (c : Client) (q : Taken), asks s c.val 0x4001 6 q = true → (8 ≤ argOf q 2 ∨ argOf q 3 % 4096 ≠ 0 ∨
        argOf q 4 < 3 ∨ 10 < argOf q 4 ∨ argOf q 5 % 4096 ≠ 0 ∨ argOf q 7 % 16 ≠ 0) → exec (.camOpen c) s = .next (fail s c.val 4)) ∧
    (∀ (s : State) (c : Client) (q : Taken) (o : CamOpen), asks s c.val 0x4001 6 q = true → argOf q 2 < 8 → argOf q 3 % 4096 = 0 →
        3 ≤ argOf q 4 → argOf q 4 ≤ 10 → argOf q 5 % 4096 = 0 → argOf q 7 % 16 = 0 → camRight s c.val (argOf q 2) = true →
        (rxOf s (argOf q 2)).opened = some o → exec (.camOpen c) s = .next (fail s c.val (if o.client = c.val then 5 else 0x0100))) ∧
    (∀ (s : State) (c : Client) (q : Taken), asks s c.val 0x4001 6 q = true → argOf q 2 < 8 → argOf q 3 % 4096 = 0 → 3 ≤ argOf q 4 →
        argOf q 4 ≤ 10 → argOf q 5 % 4096 = 0 → argOf q 7 % 16 = 0 → camRight s c.val (argOf q 2) = false →
        exec (.camOpen c) s = .next (denied s c.val 0x05))) ∧
  -- CAM_CLOSE (R236)
  ((∀ (s : State) (c : Client) (q : Taken), asks s c.val 0x4002 1 q = true → argOf q 2 < 8 → camRight s c.val (argOf q 2) = true →
        camHeldBy s c.val (argOf q 2) = true → ∃ t, exec (.camClose c) s = .next t ∧ rd t (E.cam_HOLDER (argOf q 2)) = 0xFFFF ∧
        (rxOf t (argOf q 2)).opened = none ∧ (rxOf t (argOf q 2)).newest = none ∧ (rxOf t (argOf q 2)).attached = [] ∧
        (claspOf t c.val).taken = some { q with answer := some {} }) ∧
    (∀ (s : State) (c : Client) (q : Taken), asks s c.val 0x4002 1 q = true → 8 ≤ argOf q 2 →
        exec (.camClose c) s = .next (fail s c.val 4)) ∧
    (∀ (s : State) (c : Client) (q : Taken), asks s c.val 0x4002 1 q = true → argOf q 2 < 8 → camRight s c.val (argOf q 2) = true →
        camHeldBy s c.val (argOf q 2) = false → (rxOf s (argOf q 2)).opened.isSome = true →
        exec (.camClose c) s = .next (fail s c.val 0x0100))) ∧
  -- CAM_ATTACH (R236)
  ((∀ (s : State) (c : Client) (q : Taken) (o : CamOpen), asks s c.val 0x4003 2 q = true → argOf q 2 < 8 →
        fld (argOf q 3) 7 1 = 0 → argOf q 3 < 512 → camRight s c.val (argOf q 2) = true →
        headRight s c.val (fld (argOf q 3) 0 4) = true → facetRight s c.val (fld (argOf q 3) 0 4) (fld (argOf q 3) 4 3) = true →
        (rxOf s (argOf q 2)).opened = some o → o.client = c.val → rd s (E.cam_ENABLE (argOf q 2)) ≠ 0 →
        camFormatBad s (argOf q 2) (fld (argOf q 3) 0 4) (fld (argOf q 3) 4 3) = false →
        2 * ((rxOf s (argOf q 2)).attached.length + 1) + 2 ≤ o.buffers → (bitOf (argOf q 3) 8 = true →
        sliceBad s (argOf q 2) (fld (argOf q 3) 0 4) (fld (argOf q 3) 4 3) = false) →
        rd s (E.facet_SOURCE (fld (argOf q 3) 0 4) (fld (argOf q 3) 4 3)) = 1 →
        (rd s (E.facet_HOLDER (fld (argOf q 3) 0 4) (fld (argOf q 3) 4 3)) = 0xFFFF ∨
        rd s (E.facet_HOLDER (fld (argOf q 3) 0 4) (fld (argOf q 3) 4 3)) = c.val) → (∀ p, p < 8 →
        (rxOf s p).attached.contains (8 * fld (argOf q 3) 0 4 + fld (argOf q 3) 4 3) = false) → ∃ t,
        exec (.camAttach c) s = .next t ∧ rd t (E.facet_HOLDER (fld (argOf q 3) 0 4) (fld (argOf q 3) 4 3)) = c.val ∧
        (rxOf t (argOf q 2)).attached = (rxOf s (argOf q 2)).attached ++ [8 * fld (argOf q 3) 0 4 + fld (argOf q 3) 4 3] ∧
        (facetOf t (fld (argOf q 3) 0 4) (fld (argOf q 3) 4 3)).cam = some (argOf q 2) ∧
        (facetOf t (fld (argOf q 3) 0 4) (fld (argOf q 3) 4 3)).slice.isSome = bitOf (argOf q 3) 8 ∧ (bitOf (argOf q 3) 8 = true →
        rd t (E.cam_SLICE_STATE (argOf q 2)) = 1) ∧ (claspOf t c.val).taken = some { q with answer := some {} }) ∧
    (∀ (s : State) (c : Client) (q : Taken), asks s c.val 0x4003 2 q = true → (8 ≤ argOf q 2 ∨ fld (argOf q 3) 7 1 ≠ 0 ∨
        512 ≤ argOf q 3) → exec (.camAttach c) s = .next (fail s c.val 4)) ∧
    (∀ (s : State) (c : Client) (q : Taken), asks s c.val 0x4003 2 q = true → argOf q 2 < 8 → fld (argOf q 3) 7 1 = 0 →
        argOf q 3 < 512 → camRight s c.val (argOf q 2) = false → exec (.camAttach c) s = .next (denied s c.val 0x05))) ∧
  -- CAM_DETACH (R236)
  ((∀ (s : State) (c : Client) (q : Taken), asks s c.val 0x4004 2 q = true → argOf q 2 < 8 → fld (argOf q 3) 7 1 = 0 →
        argOf q 3 < 512 → camRight s c.val (argOf q 2) = true → headRight s c.val (fld (argOf q 3) 0 4) = true →
        facetRight s c.val (fld (argOf q 3) 0 4) (fld (argOf q 3) 4 3) = true → camHeldBy s c.val (argOf q 2) = true →
        (rxOf s (argOf q 2)).attached.contains (8 * fld (argOf q 3) 0 4 + fld (argOf q 3) 4 3) = true → ∃ t,
        exec (.camDetach c) s = .next t ∧
        (rxOf t (argOf q 2)).attached = (rxOf s (argOf q 2)).attached.filter (fun n => n != 8 * fld (argOf q 3) 0 4 + fld (argOf q 3) 4 3) ∧
        (facetOf t (fld (argOf q 3) 0 4) (fld (argOf q 3) 4 3)).slice = none ∧ (hasLatch s (fld (argOf q 3) 0 4) = false →
        (facetOf t (fld (argOf q 3) 0 4) (fld (argOf q 3) 4 3)).cam = none ∧
        (facetOf t (fld (argOf q 3) 0 4) (fld (argOf q 3) 4 3)).shown = none) ∧
        (claspOf t c.val).taken = some { q with answer := some {} }) ∧
    (∀ (s : State) (c : Client) (q : Taken), asks s c.val 0x4004 2 q = true → argOf q 2 < 8 → fld (argOf q 3) 7 1 = 0 →
        argOf q 3 < 512 → camRight s c.val (argOf q 2) = true → headRight s c.val (fld (argOf q 3) 0 4) = true →
        facetRight s c.val (fld (argOf q 3) 0 4) (fld (argOf q 3) 4 3) = true → camHeldBy s c.val (argOf q 2) = true →
        (rxOf s (argOf q 2)).attached.contains (8 * fld (argOf q 3) 0 4 + fld (argOf q 3) 4 3) = false →
        exec (.camDetach c) s = .next (fail s c.val 0x0105))) ∧
  -- CAM_QUERY (R236)
  ((∀ (s : State) (c : Client) (q : Taken), asks s c.val 0x4005 1 q = true → argOf q 2 < 8 → camRight s c.val (argOf q 2) = true →
        exec (.camQuery c) s = .next (ok s c.val [rd s (E.cam_STATE (argOf q 2)), rd s (E.cam_FRAMES (argOf q 2)), (rxOf s (argOf q 2)).newest.getD 0, rd s (E.cam_SLICE_STATE (argOf q 2))])) ∧
    (∀ (s : State) (c : Client) (q : Taken), asks s c.val 0x4005 1 q = true → argOf q 2 < 8 → camRight s c.val (argOf q 2) = false →
        exec (.camQuery c) s = .next (denied s c.val 0x05)) ∧
    (∀ (s : State) (c : Client) (q : Taken), asks s c.val 0x4005 1 q = true → 8 ≤ argOf q 2 →
        exec (.camQuery c) s = .next (fail s c.val 4)))

/-- Presentations and region comparisons: PRESENTATION (R247), REGION_COMPARE (R256). Model choices it rests on: log 103, 104. -/
def Obligations.ContentChecksCompareRegions : Prop :=
  -- PRESENTATION (R247)
  ((∀ (s : State) (h : Head) (p : Presentation), rd s E.lkt_LKT_STATE = 1 →
        ((p.regions.map (fun rs => rs.map (fun g => g &&& BitVec.ofNat 128 regionMask))).getD []).all (fun g => regionOk s h.val g.toNat) = true →
        exec (.presentation h p) s = .next (setCameo s h.val { cameoOf s h.val with pending := some { p with regions := p.regions.map (fun rs => rs.map (fun g => g &&& BitVec.ofNat 128 regionMask)) } })) ∧
    (∀ (s : State) (h : Head) (p : Presentation), (rd s E.lkt_LKT_STATE ≠ 1 ∨
        ((p.regions.map (fun rs => rs.map (fun g => g &&& BitVec.ofNat 128 regionMask))).getD []).all (fun g => regionOk s h.val g.toNat) = false) →
        exec (.presentation h p) s = .next s)) ∧
  -- REGION_COMPARE (R256)
  ((∀ (s : State) (h : Head) (r v frame : Nat), r < 8 → resultOf s h.val r = [v, v, frame, 1] → ∃ t,
        exec (.regionCompare h r) s = .next t ∧ rd t (E.cameo_LAST_VALUE h.val r) = v ∧ rd t (E.cameo_EXPECTED h.val r) = v ∧
        rd t (E.cameo_CHECKED h.val) = satInc (rd s (E.cameo_CHECKED h.val)) 1 ∧
        rd t (E.cameo_MISMATCHES h.val) = rd s (E.cameo_MISMATCHES h.val) ∧ runOf t h.val r = 0 ∧ resultOf t h.val r = [] ∧
        t.out = s.out) ∧
    (∀ (s : State) (h : Head) (r v e frame : Nat), r < 8 → resultOf s h.val r = [v, e, frame, 1] → v ≠ e →
        runOf s h.val r + 1 ≠ fld (regionRec s h.val r) 68 4 → ∃ t, exec (.regionCompare h r) s = .next t ∧
        rd t (E.cameo_LAST_VALUE h.val r) = v ∧ rd t (E.cameo_EXPECTED h.val r) = e ∧
        rd t (E.cameo_CHECKED h.val) = satInc (rd s (E.cameo_CHECKED h.val)) 1 ∧
        rd t (E.cameo_MISMATCHES h.val) = satInc (rd s (E.cameo_MISMATCHES h.val)) 1 ∧ runOf t h.val r = runOf s h.val r + 1 ∧
        t.out = .event true .contentMismatch [(h.val : Int), (r : Int), (frame : Int)] :: s.out) ∧
    (∀ (s : State) (h : Head) (r v e frame : Nat), r < 8 → resultOf s h.val r = [v, e, frame, 1] → v ≠ e →
        runOf s h.val r + 1 = fld (regionRec s h.val r) 68 4 → bitOf (regionRec s h.val r) 67 = true → pdOn s 2 = true → ∃ t,
        exec (.regionCompare h r) s = .next t ∧ rd t E.cchk_FAULT_LATCHED = 1 ∧ rd t (E.cameo_CHECK_STATE h.val) = 2 ∧
        rd t (E.cameo_FAULT_REGION h.val) = (if rd s (E.cameo_FAULT_REGION h.val) = 0xFF then r else rd s (E.cameo_FAULT_REGION h.val)) ∧
        .event false .contentFault [(h.val : Int), (r : Int), (frame : Int)] ∈ t.out ∧
        .event true .contentFault [(h.val : Int), (r : Int), (frame : Int)] ∈ t.out) ∧
    (∀ (s : State) (h : Head) (r v e frame : Nat), r < 8 → resultOf s h.val r = [v, e, frame, 0] → ∃ t,
        exec (.regionCompare h r) s = .next t ∧ rd t (E.cameo_LAST_VALUE h.val r) = v ∧ rd t (E.cameo_EXPECTED h.val r) = e ∧
        entriesKept [E.cameo_LAST_VALUE h.val r, E.cameo_EXPECTED h.val r] s t ∧ t.out = s.out) ∧
    (∀ (s : State) (h : Head) (r : Nat), resultOf s h.val r = [] → exec (.regionCompare h r) s = .next s))

/-- Assignable check-value units: CV_ACQUIRE (R260), CV_RUN (R260), CV_RELEASE (R260), CV_COMPUTATION_END (R252). Model choices it rests on:
log 105. -/
def Obligations.CheckValueUnitsAreLent : Prop :=
  -- CV_ACQUIRE (R260)
  ((∀ (s : State) (c : Client) (q : Taken) (k : Nat), asks s c.val 0x8001 1 q = true → argOf q 2 < 3 → cvComing s c.val = [] →
        (cvHeld s c.val).length < 2 → (List.range 8).find? (fun k => cvOwner s k == 0xFFFF && (handOf s (16 + k)).isNone) = some k →
        rd s E.lkt_LKT_STATE = 1 → cvBusy s k = false → pdOn s 2 = true → ∃ t, exec (.cvAcquire c) s = .next t ∧
        rd t (E.cvu_OWNER k) = 0xFFFD ∧ entriesKept [E.cvu_OWNER k] s t ∧
        handOf t (16 + k) = some { target := c.val, acquire := true, poly := argOf q 2, giver := 0xFFFF, resetting := true } ∧
        (claspOf t c.val).taken = some q) ∧
    (∀ (s : State) (c : Client) (q : Taken), asks s c.val 0x8001 1 q = true → 3 ≤ argOf q 2 →
        exec (.cvAcquire c) s = .next (fail s c.val 4)) ∧
    (∀ (s : State) (c : Client) (q : Taken), asks s c.val 0x8001 1 q = true → argOf q 2 < 3 → cvComing s c.val = [] →
        2 ≤ (cvHeld s c.val).length → exec (.cvAcquire c) s = .next (fail s c.val 0x0100)) ∧
    (∀ (s : State) (c : Client) (q : Taken), asks s c.val 0x8001 1 q = true → argOf q 2 < 3 → cvComing s c.val = [] →
        (cvHeld s c.val).length < 2 → (List.range 8).find? (fun k => cvOwner s k == 0xFFFF && (handOf s (16 + k)).isNone) = none →
        exec (.cvAcquire c) s = .next (fail s c.val 5))) ∧
  -- CV_RUN (R260)
  ((∀ (s : State) (c : Client) (q : Taken) (k : Nat), asksF s c.val 0x8002 5 3 q = true → cvArg s c.val (argOf q 2) = some k →
        1 ≤ argOf q 5 → argOf q 5 ≤ 4194304 → inWindow s c.val (argOf q 4) (argOf q 5) = true → cvBusy s k = false →
        handOf s (16 + k) = none → exec (.cvRun c) s = .next (setCv s k { cvOf s k with running := some c.val })) ∧
    (∀ (s : State) (c : Client) (q : Taken), asksF s c.val 0x8002 5 3 q = true → cvArg s c.val (argOf q 2) = none →
        exec (.cvRun c) s = .next (denied s c.val 0x05)) ∧
    (∀ (s : State) (c : Client) (q : Taken) (k : Nat), asksF s c.val 0x8002 5 3 q = true → cvArg s c.val (argOf q 2) = some k →
        (argOf q 5 = 0 ∨ 4194304 < argOf q 5) → exec (.cvRun c) s = .next (fail s c.val 4)) ∧
    (∀ (s : State) (c : Client) (q : Taken) (k : Nat), asksF s c.val 0x8002 5 3 q = true → cvArg s c.val (argOf q 2) = some k →
        1 ≤ argOf q 5 → argOf q 5 ≤ 4194304 → inWindow s c.val (argOf q 4) (argOf q 5) = false →
        exec (.cvRun c) s = .next (deniedAddr s c.val))) ∧
  -- CV_RELEASE (R260)
  ((∀ (s : State) (c : Client) (q : Taken) (k : Nat), asks s c.val 0x8003 1 q = true → cvArg s c.val (argOf q 2) = some k →
        cvBusy s k = false → rd s E.lkt_LKT_STATE = 1 → handOf s (16 + k) = none → pdOn s 2 = true → ∃ t,
        exec (.cvRelease c) s = .next t ∧ rd t (E.cvu_OWNER k) = 0xFFFD ∧ entriesKept [E.cvu_OWNER k] s t ∧
        handOf t (16 + k) = some { giver := rd s (E.cvu_OWNER k), resetting := true } ∧
        (claspOf t c.val).taken = some { q with answer := some {} }) ∧
    (∀ (s : State) (c : Client) (q : Taken) (k : Nat), asks s c.val 0x8003 1 q = true → cvArg s c.val (argOf q 2) = some k →
        cvBusy s k = true → exec (.cvRelease c) s = .next s) ∧
    (∀ (s : State) (c : Client) (q : Taken), asks s c.val 0x8003 1 q = true → cvArg s c.val (argOf q 2) = none →
        exec (.cvRelease c) s = .next (denied s c.val 0x05))) ∧
  -- CV_COMPUTATION_END (R252)
  ((∀ (s : State) (u : CvUnit) (c : Nat) (q : Taken), 16 ≤ u.val → u.val < 24 → (cvOf s (u.val - 16)).running = some c →
        (cvOf s (u.val - 16)).abandoned = false → asksF s c 0x8002 5 3 q = true → ∃ t v, exec (.cvComputationEnd u) s = .next t ∧
        v = cvValue (cvOf s (u.val - 16)).poly (leBytes 4 (if bitOf q.flags 0 then argOf q 3 else argOf q 4) ++ winRd s c (argOf q 4) (argOf q 5)) ∧
        (claspOf t c).taken = some { q with answer := some { data := [v, b2n (bitOf q.flags 1 && v == argOf q 6)] } } ∧
        cvOf t (u.val - 16) = { cvOf s (u.val - 16) with running := none } ∧ t.od = s.od ∧ t.mem = s.mem) ∧
    (∀ (s : State) (u : CvUnit) (c : Nat), 16 ≤ u.val → u.val < 24 → (cvOf s (u.val - 16)).running = some c →
        (cvOf s (u.val - 16)).abandoned = true →
        exec (.cvComputationEnd u) s = .next (setCv s (u.val - 16) { cvOf s (u.val - 16) with running := none })) ∧
    (∀ (s : State) (u : CvUnit), (u.val < 16 ∨ 24 ≤ u.val ∨ (cvOf s (u.val - 16)).running = none) →
        exec (.cvComputationEnd u) s = .next s))

/-- Scans, starts, tests and reports of a touch panel: TOUCH_SCAN_START (R271), TOUCH_STEP_END (R271), TOUCH_REPORT (R275), PANEL_START
(R280), REFERENCE_TEST_DONE (R283), START_VERIFY_TIMEOUT (R281), CAPTURE_DONE (R282), TAFE_SUPPLY_LOW (R474), ACK_HOLD_REACHED (R249).
Model choices it rests on: log 107, 108, 109, 111, 112, 178. -/
def Obligations.TouchScansAndStarts : Prop :=
  -- TOUCH_SCAN_START (R271)
  ((∀ (s : State) (p : Panel), ((touchOf s p.val).phase = 2 ∨ (touchOf s p.val).phase = 3) → (touchOf s p.val).steps = none →
        (touchOf s p.val).testing = false → pdOn s 13 = true → restartWaits s p.val = false → ∃ t,
        exec (.touchScanStart p) s = .next t ∧ (touchOf t p.val).steps = some [] ∧ (touchOf t p.val).freq = (touchOf s p.val).next ∧
        rd t (E.panel_FREQ p.val) = freqAt t p.val (touchOf s p.val).next ∧
        t.dict.applying.any (fun e => isPanelKey p.val e.1) = false) ∧
    (∀ (s : State) (p : Panel), (((touchOf s p.val).phase ≠ 2 ∧ (touchOf s p.val).phase ≠ 3) ∨
        (touchOf s p.val).steps.isSome = true ∨ (touchOf s p.val).testing = true ∨ pdOn s 13 = false ∨
        restartWaits s p.val = true) → exec (.touchScanStart p) s = .next s)) ∧
  -- TOUCH_STEP_END (R271)
  ((∀ (s : State) (p : Panel) (l : List (List Int)) (v : List Int), (touchOf s p.val).steps = some l →
        l.length < scanSteps s p.val → pdOn s 13 = true →
        exec (.touchStepEnd p v) s = .next (setTouch s p.val { touchOf s p.val with steps := some (l ++ [v]), scanEnd := s.time })) ∧
    (∀ (s : State) (p : Panel) (v : List Int), (touchOf s p.val).steps = none → exec (.touchStepEnd p v) s = .next s)) ∧
  -- TOUCH_REPORT (R275)
  ((∀ (s : State) (p : Panel) (l : List (List Int)), (touchOf s p.val).steps = some l → scanSteps s p.val ≤ l.length →
        pdOn s 13 = true → ∃ t, exec (.touchReport p) s = .next t ∧ (touchOf t p.val).steps = none ∧
        rd t (E.panel_SCANS p.val) = (rd s (E.panel_SCANS p.val) + 1) % 2 ^ 32 ∧
        rd t (E.panel_CONTACTS p.val) = (touchOf t p.val).contacts.length ∧ ((touchOf s p.val).phase = 2 →
        (touchOf s p.val).count < 3 → (touchOf t p.val).phase = 2 ∧ (touchOf t p.val).count = (touchOf s p.val).count + 1) ∧
        ((touchOf s p.val).phase = 2 → 3 ≤ (touchOf s p.val).count → (touchOf t p.val).phase = 3)) ∧
    (∀ (s : State) (p : Panel) (l : List (List Int)), (touchOf s p.val).steps = some l → (l.length < scanSteps s p.val ∨
        pdOn s 13 = false) → exec (.touchReport p) s = .next s) ∧
    (∀ (s : State) (p : Panel), (touchOf s p.val).steps = none → exec (.touchReport p) s = .next s)) ∧
  -- PANEL_START (R280)
  ((∀ (s : State) (p : Panel), panelEnabled s p.val = true → panelState s p.val = 0 → s.dict.applying = [] → pdOn s 13 = true →
        ∃ t, exec (.panelStart p) s = .next t ∧ rd t (E.panel_STATE p.val) = 1 ∧ (touchOf t p.val).phase = 1 ∧
        (touchOf t p.val).contacts = [] ∧ (touchOf t p.val).base = [] ∧ rd t (E.panel_FREQ p.val) = freqAt s p.val 0) ∧
    (∀ (s : State) (p : Panel), panelExists s p.val = false → panelState s p.val ≠ 0 → s.dict.applying = [] → pdOn s 13 = true →
        ∃ t, exec (.panelStart p) s = .next t ∧ rd t (E.panel_STATE p.val) = 0 ∧ (touchOf t p.val).phase = 0 ∧
        (touchOf t p.val).contacts = []) ∧
    (∀ (s : State) (p : Panel), restartWaits s p.val = false → panelExists s p.val = true → panelState s p.val ≠ 0 →
        (touchOf s p.val).phase ≠ 4 → exec (.panelStart p) s = .next s) ∧
    (∀ (s : State) (p : Panel), pdOn s 13 = false → exec (.panelStart p) s = .next s)) ∧
  -- REFERENCE_TEST_DONE (R283)
  ((∀ (s : State) (p : Panel) (rs fl : List Nat), (touchOf s p.val).phase = 1 → (touchOf s p.val).testAgain = false →
        pdOn s 13 = true → fl = (usedChannels s p.val).filter (fun ch => !channelPasses s p.val ch rs) → ∃ t,
        exec (.referenceTestDone p rs) s = .next t ∧ rd t (E.panel_FAILED_CHANNELS p.val) = maskOf fl ∧
        (touchOf t p.val).phase = (if 4 < fl.length then 5 else 2) ∧ rd t (E.panel_STATE p.val) = (if 4 < fl.length then 5 else 1) ∧
        (touchOf t p.val).gains = (List.range (rs.length / 2)).map (fun i => at0 0 rs (2 * i + 1)) ∧ (0 < maskOf fl →
        bitOf (rd t E.pdo_PD_STATUS) 2 = true)) ∧
    (∀ (s : State) (p : Panel) (rs : List Nat), (((touchOf s p.val).phase ≠ 1 ∧ (touchOf s p.val).testing = false) ∨
        pdOn s 13 = false) → exec (.referenceTestDone p rs) s = .next s)) ∧
  -- START_VERIFY_TIMEOUT (R281)
  ((∀ (s : State) (p : Panel), (rd s (E.panel_START_STATE p.val) = 1 ∨ rd s (E.panel_START_STATE p.val) = 2) →
        (touchOf s p.val).contacts = [] → pdOn s 2 = true → ∃ t, exec (.startVerifyTimeout p) s = .next t ∧
        rd t (E.panel_START_STATE p.val) = 3 ∧ (touchOf t p.val).verify = none ∧
        .event false .startVerified [(p.val : Int)] ∈ t.out) ∧
    (∀ (s : State) (p : Panel), (rd s (E.panel_START_STATE p.val) = 0 ∨ 3 ≤ rd s (E.panel_START_STATE p.val) ∨
        (touchOf s p.val).contacts ≠ []) → exec (.startVerifyTimeout p) s = .next s)) ∧
  -- CAPTURE_DONE (R282)
  ((∀ (s : State) (p : Panel), (touchOf s p.val).capture = 3 → ∃ t, exec (.captureDone p) s = .next t ∧
        rd t (E.panel_CMD_STATE p.val) = 0 ∧ (touchOf t p.val).capture = 0 ∧
        (dget t (E.panel_SIGNATURE p.val)).length = 16 + 2 * (touchOf s p.val).capSums.length ∧
        (dget t (E.panel_SIGNATURE p.val)).take 4 = leBytes 2 (drives s p.val) ++ leBytes 2 (senses s p.val) ∧
        leVal (slice (dget t (E.panel_SIGNATURE p.val)) 4 4) = crc32 (leBytes 128 (rd s (E.panel_CHANNEL_MAP p.val))) ∧
        leVal (slice (dget t (E.panel_SIGNATURE p.val)) 12 4) = crc32 ((dget t (E.panel_SIGNATURE p.val)).drop 16) ∧
        entriesKept [E.panel_CMD_STATE p.val] s t) ∧
    (∀ (s : State) (p : Panel), (touchOf s p.val).capture ≠ 3 → exec (.captureDone p) s = .next s)) ∧
  -- TAFE_SUPPLY_LOW (R474)
  (∀ (s : State), ∃ t, exec .tafeSupplyLow s = .next t ∧ (∀ p, p < 4 → panelEnabled s p = true → panelState s p ≠ 0 →
        rd t (E.panel_STATE p) = 5 ∧ (touchOf t p).phase = 4 ∧ (touchOf t p).contacts = [] ∧ (touchOf t p).steps = none) ∧ (∀ p,
        p < 4 → (panelEnabled s p = false ∨ panelState s p = 0) → rd t (E.panel_STATE p) = rd s (E.panel_STATE p) ∧
        touchOf t p = touchOf s p)) ∧
  -- ACK_HOLD_REACHED (R249)
  ((∀ (s : State) (p : Panel) (n i : Nat) (c : Contact) (cell : Cell),
        (touchOf s p.val).contacts.find? (fun c => c.id == n) = some c → c.cell = some i → s.cameo.engraving.cells[i]? = some cell →
        c.acked = false → c.flags % 4 = 0 → (at0 15 (cameoOf s cell.head).latched cell.alarm = 1 ∨
        at0 15 (cameoOf s cell.head).latched cell.alarm = 3) → rd s E.lkt_LKT_STATE = 1 → ∃ t,
        exec (.ackHoldReached p n) s = .next t ∧
        rd t E.pdo_ALARM_ACK = setBit (rd s E.pdo_ALARM_ACK) cell.alarm (!bitOf (rd s E.pdo_ALARM_ACK) cell.alarm) ∧
        entriesKept [E.pdo_ALARM_ACK] s t ∧ t.out = .event true .alarmAck [(cell.alarm : Int)] :: s.out ∧
        (touchOf t p.val).contacts = (touchOf s p.val).contacts.map (fun d => if d.id = n then { d with acked := true } else d)) ∧
    (∀ (s : State) (p : Panel) (n : Nat) (c : Contact), (touchOf s p.val).contacts.find? (fun c => c.id == n) = some c →
        (c.acked = true ∨ c.flags % 4 ≠ 0 ∨ c.cell = none ∨ rd s E.lkt_LKT_STATE ≠ 1) → exec (.ackHoldReached p n) s = .next s) ∧
    (∀ (s : State) (p : Panel) (n : Nat), (touchOf s p.val).contacts.find? (fun c => c.id == n) = none →
        exec (.ackHoldReached p n) s = .next s))

/-- Touch records, subscriptions and the internal touch requests: TOUCH_BACKLOG_DELIVERY (R285), TOUCH_SUBSCRIBE (R286), TOUCH_UNSUBSCRIBE
(R286), TOUCH_QUERY (R286), TOUCH_ICL_APPLY (R289), TOUCH_ICL_SELFTEST (R289), TOUCH_ICL_CAPTURE (R289), TOUCH_ICL_SUBSCRIBE (R289),
TOUCH_ICL_UNSUBSCRIBE (R289). Model choices it rests on: log 28, 110, 113, 114, 115. -/
def Obligations.TouchRecordsAreDelivered : Prop :=
  -- TOUCH_BACKLOG_DELIVERY (R285)
  ((∀ (s : State) (p : Panel), ringsReady s = true → (touchOf s p.val).backlog ≠ [] →
        exec (.touchBacklogDelivery p) s = .next (deliverAll (setTouch s p.val { touchOf s p.val with backlog := [] }) p.val (touchOf s p.val).backlog)) ∧
    (∀ (s : State) (p : Panel) (u : TouchSub) (m : TouchMsg), ringsReady s = true → (touchOf s p.val).backlog = [m] →
        (touchOf s p.val).subs = [u] → 4 ≤ m.kind → u.resync = false →
        (u.write + 2 ^ 32 - winWord s u.client (u.ring + 4)) % 2 ^ 32 ≠ u.entries →
        inWindow s u.client (u.ring + 32 + 32 * (u.write % u.entries)) 32 = true → ∃ t, exec (.touchBacklogDelivery p) s = .next t ∧
        (touchOf t p.val).backlog = [] ∧ (touchOf t p.val).subs = [{ u with write := (u.write + 1) % 2 ^ 32 }] ∧
        (resettingClient s u.client = false → bitOf (claspOf t u.client).event 6 = true) ∧
        t.mem = (winWr (winWr s u.client (u.ring + 32 + 32 * (u.write % u.entries)) (msgBytes m)) u.client u.ring (leBytes 4 ((u.write + 1) % 2 ^ 32))).mem) ∧
    (∀ (s : State) (p : Panel) (u : TouchSub) (m : TouchMsg), ringsReady s = true → (touchOf s p.val).backlog = [m] →
        (touchOf s p.val).subs = [u] → 4 ≤ m.kind → u.resync = false →
        (u.write + 2 ^ 32 - winWord s u.client (u.ring + 4)) % 2 ^ 32 = u.entries → ∃ t,
        exec (.touchBacklogDelivery p) s = .next t ∧ rd t (E.panel_RING_DROPS p.val) = satInc (rd s (E.panel_RING_DROPS p.val)) 1 ∧
        (touchOf t p.val).subs = [{ u with dropped := (u.dropped + 1) % 2 ^ 32, resync := true }] ∧
        .event false .ringOverflow [(p.val : Int)] ∈ t.out) ∧
    (∀ (s : State) (p : Panel), (ringsReady s = false ∨ (touchOf s p.val).backlog = []) →
        exec (.touchBacklogDelivery p) s = .next s)) ∧
  -- TOUCH_SUBSCRIBE (R286)
  ((∀ (s : State) (c : Client) (q : Taken), asks s c.val 0x6001 5 q = true → argOf q 2 < 4 →
        touchRight s c.val (argOf q 2) = true → panelEnabled s (argOf q 2) = true → entriesOk (argOf q 4) = true →
        argOf q 3 % 64 = 0 → subOf s (argOf q 2) c.val = none → (touchOf s (argOf q 2)).subs.length < 16 →
        inWindow s c.val (argOf q 3) (32 + 32 * argOf q 4) = true → pdOn s 13 = true → ∃ t, exec (.touchSubscribe c) s = .next t ∧
        (claspOf t c.val).taken = some { q with answer := some {} } ∧
        (touchOf t (argOf q 2)).subs.map (·.client) = (touchOf s (argOf q 2)).subs.map (·.client) ++ [c.val] ∧
        ((touchOf s (argOf q 2)).contacts = [] →
        (touchOf t (argOf q 2)).subs = (touchOf s (argOf q 2)).subs ++ [subFrom c.val (argOf q 3) (argOf q 4) (argOf q 5) (argOf q 6)])) ∧
    (∀ (s : State) (c : Client) (q : Taken), asks s c.val 0x6001 5 q = true → 4 ≤ argOf q 2 →
        exec (.touchSubscribe c) s = .next (fail s c.val 0x0100)) ∧
    (∀ (s : State) (c : Client) (q : Taken), asks s c.val 0x6001 5 q = true → argOf q 2 < 4 →
        touchRight s c.val (argOf q 2) = false → exec (.touchSubscribe c) s = .next (denied s c.val 0x05)) ∧
    (∀ (s : State) (c : Client) (q : Taken), asks s c.val 0x6001 5 q = true → argOf q 2 < 4 →
        touchRight s c.val (argOf q 2) = true → panelEnabled s (argOf q 2) = true → (entriesOk (argOf q 4) = false ∨
        argOf q 3 % 64 ≠ 0) → exec (.touchSubscribe c) s = .next (fail s c.val 0x0101)) ∧
    (∀ (s : State) (c : Client) (q : Taken), asks s c.val 0x6001 5 q = true → argOf q 2 < 4 →
        touchRight s c.val (argOf q 2) = true → panelEnabled s (argOf q 2) = true → entriesOk (argOf q 4) = true →
        argOf q 3 % 64 = 0 → (subOf s (argOf q 2) c.val).isSome = true → exec (.touchSubscribe c) s = .next (fail s c.val 0x0102)) ∧
    (∀ (s : State) (c : Client) (q : Taken), asks s c.val 0x6001 5 q = true → argOf q 2 < 4 →
        touchRight s c.val (argOf q 2) = true → panelEnabled s (argOf q 2) = true → entriesOk (argOf q 4) = true →
        argOf q 3 % 64 = 0 → subOf s (argOf q 2) c.val = none → 16 ≤ (touchOf s (argOf q 2)).subs.length →
        exec (.touchSubscribe c) s = .next (fail s c.val 0x0103))) ∧
  -- TOUCH_UNSUBSCRIBE (R286)
  ((∀ (s : State) (c : Client) (q : Taken), asks s c.val 0x6002 1 q = true → argOf q 2 < 4 →
        touchRight s c.val (argOf q 2) = true → panelEnabled s (argOf q 2) = true → (subOf s (argOf q 2) c.val).isSome = true →
        pdOn s 13 = true → exec (.touchUnsubscribe c) s = .next (leaveSub (ok s c.val []) (argOf q 2) c.val)) ∧
    (∀ (s : State) (c : Client) (q : Taken), asks s c.val 0x6002 1 q = true → argOf q 2 < 4 →
        touchRight s c.val (argOf q 2) = true → panelEnabled s (argOf q 2) = true → subOf s (argOf q 2) c.val = none →
        exec (.touchUnsubscribe c) s = .next (fail s c.val 4)) ∧
    (∀ (s : State) (c : Client) (q : Taken), asks s c.val 0x6002 1 q = true → 4 ≤ argOf q 2 →
        exec (.touchUnsubscribe c) s = .next (fail s c.val 0x0100))) ∧
  -- TOUCH_QUERY (R286)
  ((∀ (s : State) (c : Client) (q : Taken), asks s c.val 0x6003 1 q = true → argOf q 2 < 4 →
        touchRight s c.val (argOf q 2) = true → panelEnabled s (argOf q 2) = true →
        exec (.touchQuery c) s = .next (ok s c.val [rd s (E.panel_STATE (argOf q 2)), rd s (E.panel_CONTACTS (argOf q 2)), rd s (E.panel_START_STATE (argOf q 2))])) ∧
    (∀ (s : State) (c : Client) (q : Taken), asks s c.val 0x6003 1 q = true → argOf q 2 < 4 →
        touchRight s c.val (argOf q 2) = true → panelEnabled s (argOf q 2) = false →
        exec (.touchQuery c) s = .next (fail s c.val 0x0100))) ∧
  -- TOUCH_ICL_APPLY (R289)
  ((∀ (s : State) (p : Panel) (q : Taken), iclAsks s (2 + p.val) 0xF001 q = true → q.len = 0 → pdOn s 13 = true →
        s.dict.applying.any (fun e => isPanelKey p.val e.1) = false → ∃ t, exec (.touchIclApply p) s = .next t ∧
        iclDone s t (2 + p.val) {} ∧ (touchOf t p.val).apply = false ∧ t.od = s.od ∧ t.out = s.out) ∧
    (∀ (s : State) (p : Panel) (q : Taken), iclAsks s (2 + p.val) 0xF001 q = true → q.len = 0 → pdOn s 13 = true →
        s.dict.applying.any (fun e => isPanelKey p.val e.1) = true → ((touchOf s p.val).phase = 2 ∨ (touchOf s p.val).phase = 3) →
        exec (.touchIclApply p) s = .next (setTouch s p.val { touchOf s p.val with apply := true })) ∧
    (∀ (s : State) (p : Panel), ((iclOf s (2 + p.val)).taken = none ∨ pdOn s 13 = false) → exec (.touchIclApply p) s = .next s) ∧
    (∀ (s : State) (p : Panel) (q : Taken), iclAsks s (2 + p.val) 0xF001 q = true → q.len ≠ 0 → pdOn s 13 = true →
        exec (.touchIclApply p) s = .next (iclComplete s (2 + p.val) { code := 3 }))) ∧
  -- TOUCH_ICL_SELFTEST (R289)
  ((∀ (s : State) (p : Panel) (q : Taken), iclAsks s (2 + p.val) 0xF002 q = true → q.len = 0 → panelExists s p.val = true →
        pdOn s 13 = true → ∃ t, exec (.touchIclSelftest p) s = .next t ∧ iclDone s t (2 + p.val) {} ∧
        rd t (E.panel_CMD_STATE p.val) = 1 ∧ entriesKept [E.panel_CMD_STATE p.val] s t ∧ ((touchOf s p.val).testing = false →
        (touchOf s p.val).phase ≠ 1 → touchOf t p.val = { touchOf s p.val with testing := true, steps := none }) ∧
        (((touchOf s p.val).testing = true ∨ (touchOf s p.val).phase = 1) →
        touchOf t p.val = { touchOf s p.val with testAgain := true })) ∧
    (∀ (s : State) (p : Panel), (iclOf s (2 + p.val)).taken = none → exec (.touchIclSelftest p) s = .next s) ∧
    (∀ (s : State) (p : Panel) (q : Taken), iclAsks s (2 + p.val) 0xF002 q = true → q.len ≠ 0 →
        exec (.touchIclSelftest p) s = .next (iclComplete s (2 + p.val) { code := 3 }))) ∧
  -- TOUCH_ICL_CAPTURE (R289)
  ((∀ (s : State) (p : Panel) (q : Taken), iclAsks s (2 + p.val) 0xF003 q = true → q.len = 0 → (touchOf s p.val).phase = 3 →
        (touchOf s p.val).testing = false → ∃ t, exec (.touchIclCapture p) s = .next t ∧ iclDone s t (2 + p.val) {} ∧
        rd t (E.panel_CMD_STATE p.val) = 2 ∧ (touchOf t p.val).capture = 2 ∧ (touchOf t p.val).capCount = 0) ∧
    (∀ (s : State) (p : Panel) (q : Taken), iclAsks s (2 + p.val) 0xF003 q = true → q.len = 0 → ((touchOf s p.val).phase = 0 ∨
        4 ≤ (touchOf s p.val).phase) → ∃ t, exec (.touchIclCapture p) s = .next t ∧ iclDone s t (2 + p.val) {} ∧
        rd t (E.panel_CMD_STATE p.val) = 3 ∧ touchOf t p.val = touchOf s p.val) ∧
    (∀ (s : State) (p : Panel) (q : Taken), iclAsks s (2 + p.val) 0xF003 q = true → q.len = 0 → ((touchOf s p.val).phase = 1 ∨
        (touchOf s p.val).phase = 2) → ∃ t, exec (.touchIclCapture p) s = .next t ∧ iclDone s t (2 + p.val) {} ∧ t.od = s.od ∧
        (touchOf t p.val).capture = 1) ∧
    (∀ (s : State) (p : Panel) (q : Taken), iclAsks s (2 + p.val) 0xF003 q = true → q.len ≠ 0 →
        exec (.touchIclCapture p) s = .next (iclComplete s (2 + p.val) { code := 3 }))) ∧
  -- TOUCH_ICL_SUBSCRIBE (R289)
  ((∀ (s : State) (p : Panel) (q : Taken), iclAsks s (2 + p.val) 0xF004 q = true → subOf s p.val (argOf q 2) = none →
        (touchOf s p.val).subs.length < 16 → (touchOf s p.val).contacts = [] → ∃ t, exec (.touchIclSubscribe p) s = .next t ∧
        iclDone s t (2 + p.val) {} ∧
        (touchOf t p.val).subs = (touchOf s p.val).subs ++ [subFrom (argOf q 2) (argOf q 3) (argOf q 4) (argOf q 5) (argOf q 6)] ∧
        t.od = s.od) ∧
    (∀ (s : State) (p : Panel) (q : Taken), iclAsks s (2 + p.val) 0xF004 q = true → ((subOf s p.val (argOf q 2)).isSome = true ∨
        16 ≤ (touchOf s p.val).subs.length) → exec (.touchIclSubscribe p) s = .next (iclComplete s (2 + p.val) {}))) ∧
  -- TOUCH_ICL_UNSUBSCRIBE (R289)
  ((∀ (s : State) (p : Panel) (q : Taken), iclAsks s (2 + p.val) 0xF005 q = true → ∃ t, exec (.touchIclUnsubscribe p) s = .next t ∧
        iclDone s t (2 + p.val) {} ∧
        touchOf t p.val = { touchOf s p.val with subs := (touchOf s p.val).subs.filter (fun u => u.client != argOf q 2) } ∧
        t.od = s.od ∧ t.mem = s.mem) ∧
    (∀ (s : State) (p : Panel), (iclOf s (2 + p.val)).taken = none → exec (.touchIclUnsubscribe p) s = .next s))

/-- Haptic triggers, stops and the internal haptic requests: HAPTIC_TRIGGER (R307), HAPTIC_STOP (R307), HAPTIC_QUERY (R307), HAP_ICL_TRIGGER
(R308), HAP_ICL_CALIBRATE (R308), HAP_ICL_STOP (R308), HAP_ICL_APPLY (R308). Model choices it rests on: log 28, 116, 117. -/
def Obligations.HapticTriggersAndStops : Prop :=
  -- HAPTIC_TRIGGER (R307)
  ((∀ (s : State) (c : Client) (q : Taken), asksF s c.val 0x7001 2 1 q = true → mayTrigger s c.val (argOf q 2) (argOf q 3) = true →
        hapPlays s (argOf q 2) = true → hapState s (argOf q 2) = 2 → (hapOf s (argOf q 2)).calWait = false → pdOn s 2 = true → ∃ t,
        exec (.hapticTrigger c) s = .next t ∧ rd t (E.hap_STATE (argOf q 2)) = 3 ∧
        rd t (E.hap_EFFECTS (argOf q 2)) = satInc (rd s (E.hap_EFFECTS (argOf q 2))) 1 ∧
        entriesKept [E.hap_STATE (argOf q 2), E.hap_EFFECTS (argOf q 2)] s t ∧
        (hapOf t (argOf q 2)).cur = some { trigOf (argOf q 3) with client := some c.val, notify := bitOf q.flags 0 } ∧
        (hapOf t (argOf q 2)).left = fld (argOf q 3) 16 4 ∧ (hapOf t (argOf q 2)).drive.mode = 1 ∧
        (hapOf t (argOf q 2)).drive.duty = 65025 * rd s (E.hap_DRIVE_MAX (argOf q 2)) ∧
        (hapOf t (argOf q 2)).drive.freq = at0 0 (effectFields (fld (argOf q 3) 0 7)) 3 * rd s (E.hap_F0 (argOf q 2)) ∧
        t.out = .event false .hapStart [(argOf q 2 : Int), (fld (argOf q 3) 0 7 : Int)] :: s.out ∧
        (claspOf t c.val).taken = some { q with answer := some { data := [0] } }) ∧
    (∀ (s : State) (c : Client) (q : Taken) (r : Trig), asksF s c.val 0x7001 2 1 q = true →
        mayTrigger s c.val (argOf q 2) (argOf q 3) = true → hapPlays s (argOf q 2) = true → (hapState s (argOf q 2) = 3 ∨
        hapState s (argOf q 2) = 4) → (hapOf s (argOf q 2)).cur = some r → alarmClass r.effect = false →
        alarmClass (fld (argOf q 3) 0 7) = false → (hapOf s (argOf q 2)).latch = none → ∃ t, exec (.hapticTrigger c) s = .next t ∧
        rd t (E.hap_STATE (argOf q 2)) = 5 ∧ rd t (E.hap_CUTS (argOf q 2)) = satInc (rd s (E.hap_CUTS (argOf q 2))) 1 ∧
        (hapOf t (argOf q 2)).left = 0 ∧
        (hapOf t (argOf q 2)).latch = some { trigOf (argOf q 3) with client := some c.val, notify := bitOf q.flags 0 } ∧
        bitOf (rd t (E.hap_FLAGS (argOf q 2))) 2 = true ∧ (claspOf t c.val).taken = some { q with answer := some { data := [1] } }) ∧
    (∀ (s : State) (c : Client) (q : Taken), asksF s c.val 0x7001 2 1 q = true → (16 ≤ argOf q 2 ∨ 2 ^ 20 ≤ argOf q 3 ∨
        bitOf (argOf q 3) 7 = true) → exec (.hapticTrigger c) s = .next (fail s c.val 4)) ∧
    (∀ (s : State) (c : Client) (q : Taken), asksF s c.val 0x7001 2 1 q = true → argOf q 2 < 16 → argOf q 3 < 2 ^ 20 →
        bitOf (argOf q 3) 7 = false → hapRight s c.val (argOf q 2) = false →
        exec (.hapticTrigger c) s = .next (denied s c.val 0x05)) ∧
    (∀ (s : State) (c : Client) (q : Taken), asksF s c.val 0x7001 2 1 q = true → argOf q 2 < 16 → argOf q 3 < 2 ^ 20 →
        bitOf (argOf q 3) 7 = false → hapRight s c.val (argOf q 2) = true → rd s (E.hap_ENABLE (argOf q 2)) = 0 →
        exec (.hapticTrigger c) s = .next (fail s c.val 0x0100)) ∧
    (∀ (s : State) (c : Client) (q : Taken), asksF s c.val 0x7001 2 1 q = true → argOf q 2 < 16 → argOf q 3 < 2 ^ 20 →
        bitOf (argOf q 3) 7 = false → hapRight s c.val (argOf q 2) = true → rd s (E.hap_ENABLE (argOf q 2)) ≠ 0 →
        rd s (E.hap_CAL_STATE (argOf q 2)) = 3 → exec (.hapticTrigger c) s = .next (fail s c.val 0x0101))) ∧
  -- HAPTIC_STOP (R307)
  ((∀ (s : State) (c : Client) (q : Taken), asks s c.val 0x7002 1 q = true → argOf q 2 < 16 → hapRight s c.val (argOf q 2) = true →
        rd s (E.hap_ENABLE (argOf q 2)) ≠ 0 → charmClass s c.val ≠ 0 → pdOn s 13 = true → (hapState s (argOf q 2) = 3 ∨
        hapState s (argOf q 2) = 4 ∨ hapState s (argOf q 2) = 5 ∨ hapState s (argOf q 2) = 6) → ∃ t,
        exec (.hapticStop c) s = .next t ∧ rd t (E.hap_STATE (argOf q 2)) = 5 ∧ (hapOf t (argOf q 2)).left = 0 ∧
        (hapOf t (argOf q 2)).latch = none ∧ bitOf (rd t (E.hap_FLAGS (argOf q 2))) 2 = false ∧
        (claspOf t c.val).taken = some { q with answer := some {} }) ∧
    (∀ (s : State) (c : Client) (q : Taken), asks s c.val 0x7002 1 q = true → 16 ≤ argOf q 2 →
        exec (.hapticStop c) s = .next (fail s c.val 4)) ∧
    (∀ (s : State) (c : Client) (q : Taken), asks s c.val 0x7002 1 q = true → argOf q 2 < 16 →
        hapRight s c.val (argOf q 2) = false → exec (.hapticStop c) s = .next (denied s c.val 0x05)) ∧
    (∀ (s : State) (c : Client) (q : Taken) (r : Trig), asks s c.val 0x7002 1 q = true → argOf q 2 < 16 →
        hapRight s c.val (argOf q 2) = true → rd s (E.hap_ENABLE (argOf q 2)) ≠ 0 → charmClass s c.val = 0 →
        (hapOf s (argOf q 2)).cur = some r → alarmClass r.effect = true → exec (.hapticStop c) s = .next (fail s c.val 0x0102))) ∧
  -- HAPTIC_QUERY (R307)
  ((∀ (s : State) (c : Client) (q : Taken), asks s c.val 0x7003 1 q = true → argOf q 2 < 16 → hapRight s c.val (argOf q 2) = true →
        exec (.hapticQuery c) s = .next (ok s c.val [rd s (E.hap_STATE (argOf q 2)), rd s (E.hap_F0 (argOf q 2)), rd s (E.hap_FLAGS (argOf q 2)) % 4])) ∧
    (∀ (s : State) (c : Client) (q : Taken), asks s c.val 0x7003 1 q = true → 16 ≤ argOf q 2 →
        exec (.hapticQuery c) s = .next (fail s c.val 4))) ∧
  -- HAP_ICL_TRIGGER (R308)
  ((∀ (s : State) (q : Taken), iclAsks s 6 0xF001 q = true → q.len = 2 →
        exec .hapIclTrigger s = .next (iclComplete ((bitsOf 16 (argOf q 2)).foldl (fun a n => (trigger a n (trigOf (argOf q 3))).1) s) 6 {})) ∧
    (∀ (s : State) (q : Taken) (n : Nat), iclAsks s 6 0xF001 q = true → q.len = 2 → n < 16 → argOf q 2 = 2 ^ n →
        hapPlays s n = true → hapState s n = 2 → (hapOf s n).calWait = false → ∃ t, exec .hapIclTrigger s = .next t ∧
        iclDone s t 6 {} ∧ rd t (E.hap_STATE n) = 3 ∧ (hapOf t n).cur = some (trigOf (argOf q 3))) ∧
    (∀ (s : State), (iclOf s 6).taken = none → exec .hapIclTrigger s = .next s) ∧
    (∀ (s : State) (q : Taken), iclAsks s 6 0xF001 q = true → q.len ≠ 2 →
        exec .hapIclTrigger s = .next (iclComplete s 6 { code := 3 }))) ∧
  -- HAP_ICL_CALIBRATE (R308)
  ((∀ (s : State) (q : Taken) (n : Nat), iclAsks s 6 0xF002 q = true → q.len = 1 → n < 16 → argOf q 2 = 2 ^ n →
        rd s (E.hap_ENABLE n) = 1 → hapState s n = 2 → rd s (E.hap_HEAD n) = 0xFF → (∀ k, k < 16 → (hapOf s k).calWait = false) →
        ∃ t, exec .hapIclCalibrate s = .next t ∧ iclDone s t 6 {} ∧ rd t (E.hap_STATE n) = 1 ∧ rd t (E.hap_CAL_STATE n) = 1 ∧
        (hapOf t n).prevCal = rd s (E.hap_CAL_STATE n)) ∧
    (∀ (s : State) (q : Taken) (n : Nat), iclAsks s 6 0xF002 q = true → q.len = 1 → n < 16 → argOf q 2 = 2 ^ n →
        rd s (E.hap_ENABLE n) ≠ 1 → exec .hapIclCalibrate s = .next (iclComplete s 6 {})) ∧
    (∀ (s : State) (q : Taken) (n : Nat), iclAsks s 6 0xF002 q = true → q.len = 1 → n < 16 → argOf q 2 = 2 ^ n →
        rd s (E.hap_ENABLE n) = 1 → 3 ≤ hapState s n → (∀ k, k < 16 → (hapOf s k).calWait = false) → ∃ t,
        exec .hapIclCalibrate s = .next t ∧ iclDone s t 6 {} ∧ t.od = s.od ∧ (hapOf t n).calWait = true) ∧
    (∀ (s : State) (q : Taken), iclAsks s 6 0xF002 q = true → q.len ≠ 1 →
        exec .hapIclCalibrate s = .next (iclComplete s 6 { code := 3 }))) ∧
  -- HAP_ICL_STOP (R308)
  ((∀ (s : State) (q : Taken) (n : Nat), iclAsks s 6 0xF003 q = true → q.len = 1 → n < 16 → argOf q 2 = 2 ^ n → (hapState s n = 3 ∨
        hapState s n = 4 ∨ hapState s n = 5 ∨ hapState s n = 6) → ∃ t, exec .hapIclStop s = .next t ∧ iclDone s t 6 {} ∧
        rd t (E.hap_STATE n) = 5 ∧ (hapOf t n).left = 0 ∧ (hapOf t n).latch = none ∧ bitOf (rd t (E.hap_FLAGS n)) 2 = false) ∧
    (∀ (s : State) (q : Taken) (n : Nat), iclAsks s 6 0xF003 q = true → q.len = 1 → n < 16 → argOf q 2 = 2 ^ n → hapState s n ≤ 2 →
        ∃ t, exec .hapIclStop s = .next t ∧ iclDone s t 6 {} ∧ rd t (E.hap_STATE n) = rd s (E.hap_STATE n) ∧
        (hapOf t n).latch = none) ∧
    (∀ (s : State) (q : Taken), iclAsks s 6 0xF003 q = true → q.len ≠ 1 →
        exec .hapIclStop s = .next (iclComplete s 6 { code := 3 }))) ∧
  -- HAP_ICL_APPLY (R308)
  ((∀ (s : State) (q : Taken), iclAsks s 6 0xF004 q = true → q.len = 0 → ∃ t, exec .hapIclApply s = .next t ∧ iclDone s t 6 {} ∧
        t.dict.applying.any (fun p => isHapKey p.1) = false) ∧
    (∀ (s : State) (q : Taken) (n : Nat), iclAsks s 6 0xF004 q = true → q.len = 0 → n < 16 →
        s.dict.applying = [(E.hap_ENABLE n, [1])] → rd s (E.hap_ENABLE n) = 0 → rd s (E.hap_STATE n) = 0 →
        rd s (E.hap_HEAD n) = 0xFF → pdOn s 13 = true → ∃ t, exec .hapIclApply s = .next t ∧ rd t (E.hap_ENABLE n) = 1 ∧
        rd t (E.hap_STATE n) = 1 ∧ rd t (E.hap_CAL_STATE n) = 1) ∧
    (∀ (s : State) (q : Taken), iclAsks s 6 0xF004 q = true → q.len ≠ 0 →
        exec .hapIclApply s = .next (iclComplete s 6 { code := 3 })))

/-- The phases of a haptic play, calibrations, overcurrent and accelerometer reads: CALIBRATION_END (R305), ATTACK_END (R299), SUSTAIN_END
(R299), BRAKING_END (R301), GAP_END (R297), HAP_OVERCURRENT (R302), ACC_READ (R295). Model choices it rests on: log 118, 119, 121. -/
def Obligations.HapticPlaysRunTheirPhases : Prop :=
  -- CALIBRATION_END (R305)
  ((∀ (s : State) (n : Hap) (r : List Nat), hapState s n.val = 1 → (hapOf s n.val).latch = none → (hapOf s n.val).calWait = false →
        pdOn s 2 = true → ∃ t, exec (.calibrationEnd n r) s = .next t ∧ rd t (E.hap_STATE n.val) = 2 ∧
        rd t (E.hap_F0 n.val) = at0 0 r 1 ∧ rd t (E.hap_Q n.val) = at0 0 r 2 ∧ rd t (E.hap_R_CAL n.val) = at0 0 r 3 ∧
        rd t (E.hap_CAL_STATE n.val) = (if calPasses s n.val r then 2 else 3) ∧
        .event false (if calPasses s n.val r then .calDone else .calFail) [(n.val : Int)] ∈ t.out ∧ (calPasses s n.val r = true →
        bitOf (rd t (E.hap_FLAGS n.val)) 0 = false)) ∧
    (∀ (s : State) (n : Hap) (r : List Nat), hapState s n.val ≠ 1 → exec (.calibrationEnd n r) s = .next s)) ∧
  -- ATTACK_END (R299)
  ((∀ (s : State) (n : Hap), hapState s n.val = 3 → ∃ t, exec (.attackEnd n) s = .next t ∧ rd t (E.hap_STATE n.val) = 4 ∧
        hapOf t n.val = { hapOf s n.val with drive := driveOf s n.val 4 } ∧ entriesKept [E.hap_STATE n.val] s t ∧ t.out = s.out ∧
        t.mem = s.mem) ∧
    (∀ (s : State) (n : Hap) (r : Trig), hapState s n.val = 3 → (hapOf s n.val).cur = some r → (hapOf s n.val).cut = false → ∃ t,
        exec (.attackEnd n) s = .next t ∧ (hapOf t n.val).drive.mode = 2 ∧
        9 * effectFreq s n.val r ≤ 10 * (hapOf t n.val).drive.freq ∧ 10 * (hapOf t n.val).drive.freq ≤ 11 * effectFreq s n.val r ∧
        ((at0 0 (effectFields r.effect) 4 ≠ 1 ∨ accLost s n.val = true) → (hapOf t n.val).drive.freq = effectFreq s n.val r)) ∧
    (∀ (s : State) (n : Hap), hapState s n.val ≠ 3 → exec (.attackEnd n) s = .next s)) ∧
  -- SUSTAIN_END (R299)
  ((∀ (s : State) (n : Hap) (r : Nat), hapState s n.val = 4 →
        rd s (E.hap_STALE_DRIFT n.val) * rd s (E.hap_R_CAL n.val) < 1000 * (r - rd s (E.hap_R_CAL n.val) + (rd s (E.hap_R_CAL n.val) - r)) →
        pdOn s 2 = true → ∃ t, exec (.sustainEnd n r) s = .next t ∧ rd t (E.hap_STATE n.val) = 5 ∧ rd t (E.hap_R_NOW n.val) = r ∧
        bitOf (rd t (E.hap_FLAGS n.val)) 0 = true ∧ t.out = .event false .calStale [(n.val : Int)] :: s.out ∧
        entriesKept [E.hap_STATE n.val, E.hap_R_NOW n.val, E.hap_FLAGS n.val] s t) ∧
    (∀ (s : State) (n : Hap) (r : Nat), hapState s n.val = 4 →
        1000 * (r - rd s (E.hap_R_CAL n.val) + (rd s (E.hap_R_CAL n.val) - r)) ≤ rd s (E.hap_STALE_DRIFT n.val) * rd s (E.hap_R_CAL n.val) →
        exec (.sustainEnd n r) s = .next (setHapState (wr s (E.hap_R_NOW n.val) r) n.val 5)) ∧
    (∀ (s : State) (n : Hap) (r : Nat), hapState s n.val ≠ 4 → exec (.sustainEnd n r) s = .next s)) ∧
  -- BRAKING_END (R301)
  ((∀ (s : State) (n : Hap) (r : Trig), hapState s n.val = 5 → 0 < (hapOf s n.val).left → (hapOf s n.val).cur = some r →
        effectGap r.effect = 0 → accLost s n.val = false →
        exec (.brakingEnd n .belowThreshold) s = .next (setHapState (setHap s n.val { hapOf s n.val with left := (hapOf s n.val).left - 1, cut := false }) n.val 3)) ∧
    (∀ (s : State) (n : Hap) (r : Trig), hapState s n.val = 5 → 0 < (hapOf s n.val).left → (hapOf s n.val).cur = some r →
        effectGap r.effect ≠ 0 → accLost s n.val = false → exec (.brakingEnd n .belowThreshold) s = .next (setHapState s n.val 6)) ∧
    (∀ (s : State) (n : Hap) (r : Trig), hapState s n.val = 5 → (hapOf s n.val).left = 0 → (hapOf s n.val).cur = some r →
        (hapOf s n.val).latch = none → (∀ k, k < 16 → (hapOf s k).calWait = false) → pdOn s 2 = true → ∃ t,
        exec (.brakingEnd n .limit) s = .next t ∧ rd t (E.hap_STATE n.val) = 2 ∧
        rd t (E.hap_BRAKE_TIMEOUTS n.val) = satInc (rd s (E.hap_BRAKE_TIMEOUTS n.val)) 1 ∧ (hapOf t n.val).cur = none ∧
        .event false .hapDone [(n.val : Int), (r.effect : Int)] ∈ t.out ∧ (∀ c, r.client = some c → r.notify = true →
        resettingClient s c = false → bitOf (claspOf t c).event 7 = true)) ∧
    (∀ (s : State) (n : Hap) (r l : Trig), hapState s n.val = 5 → (hapOf s n.val).left = 0 → (hapOf s n.val).cur = some r →
        (hapOf s n.val).latch = some l → hapPlays s n.val = true → accLost s n.val = false → ∃ t,
        exec (.brakingEnd n .belowThreshold) s = .next t ∧ rd t (E.hap_STATE n.val) = 3 ∧ (hapOf t n.val).cur = some l ∧
        (hapOf t n.val).left = l.rep ∧ (hapOf t n.val).latch = none ∧
        rd t (E.hap_EFFECTS n.val) = satInc (rd s (E.hap_EFFECTS n.val)) 1) ∧
    (∀ (s : State) (n : Hap) (w : BrakeEnd), (hapState s n.val ≠ 5 ∨ (w = .cycles ∧ accLost s n.val = false) ∨
        (w = .belowThreshold ∧ accLost s n.val = true)) → exec (.brakingEnd n w) s = .next s)) ∧
  -- GAP_END (R297)
  ((∀ (s : State) (n : Hap), hapState s n.val = 6 → ∃ t, exec (.gapEnd n) s = .next t ∧ rd t (E.hap_STATE n.val) = 3 ∧
        (hapOf t n.val).left = (hapOf s n.val).left - 1 ∧ (hapOf t n.val).cut = false ∧ (hapOf t n.val).cur = (hapOf s n.val).cur ∧
        entriesKept [E.hap_STATE n.val] s t ∧ t.out = s.out ∧ t.mem = s.mem) ∧
    (∀ (s : State) (n : Hap), hapState s n.val ≠ 6 → exec (.gapEnd n) s = .next s)) ∧
  -- HAP_OVERCURRENT (R302)
  ((∀ (s : State) (n : Hap), (hapState s n.val = 1 ∨ hapState s n.val = 3 ∨ hapState s n.val = 4 ∨ hapState s n.val = 5) →
        pdOn s 2 = true →
        exec (.hapOvercurrent n) s = .next (emit (wr (setHap s n.val { hapOf s n.val with cut := true, drive := {} }) (E.hap_OVERCURRENTS n.val) (satInc (rd s (E.hap_OVERCURRENTS n.val)) 1)) (.event false .hapOvercurrent [(n.val : Int)]))) ∧
    (∀ (s : State) (n : Hap), (hapState s n.val = 0 ∨ hapState s n.val = 2 ∨ 6 ≤ hapState s n.val) →
        exec (.hapOvercurrent n) s = .next s)) ∧
  -- ACC_READ (R295)
  ((∀ (s : State) (n : Hap) (v : Int), hapState s n.val ≠ 0 → ∃ t, exec (.accRead n (some v)) s = .next t ∧
        hapOf t n.val = { hapOf s n.val with errs := 0, acc := v, drive := (hapOf t n.val).drive } ∧ (hapState s n.val ≠ 4 →
        (hapOf t n.val).drive = (hapOf s n.val).drive) ∧ bitOf (rd t (E.hap_FLAGS n.val)) 1 = false ∧
        entriesKept [E.hap_FLAGS n.val] s t ∧ t.out = s.out) ∧
    (∀ (s : State) (n : Hap), hapState s n.val ≠ 0 → hapState s n.val ≠ 4 → (hapOf s n.val).errs ≠ 7 →
        exec (.accRead n none) s = .next (wr (setHap s n.val { hapOf s n.val with errs := (hapOf s n.val).errs + 1 }) (E.hap_ACC_ERRORS n.val) (satInc (rd s (E.hap_ACC_ERRORS n.val)) 1))) ∧
    (∀ (s : State) (n : Hap), hapState s n.val ≠ 0 → (hapOf s n.val).errs = 7 → pdOn s 2 = true → ∃ t,
        exec (.accRead n none) s = .next t ∧ rd t (E.hap_ACC_ERRORS n.val) = satInc (rd s (E.hap_ACC_ERRORS n.val)) 1 ∧
        bitOf (rd t (E.hap_FLAGS n.val)) 1 = true ∧ t.out = .event false .accLost [(n.val : Int)] :: s.out) ∧
    (∀ (s : State) (n : Hap) (r : Trig) (v : Option Int), hapState s n.val = 4 → (hapOf s n.val).cur = some r →
        (hapOf s n.val).cut = false → ∃ t, exec (.accRead n v) s = .next t ∧ rd t (E.hap_STATE n.val) = 4 ∧
        (hapOf t n.val).drive.mode = 2 ∧ 9 * effectFreq s n.val r ≤ 10 * (hapOf t n.val).drive.freq ∧
        10 * (hapOf t n.val).drive.freq ≤ 11 * effectFreq s n.val r) ∧
    (∀ (s : State) (n : Hap) (v : Option Int), hapState s n.val = 0 → exec (.accRead n v) s = .next s))

/-- Audio ticks, frame syncs, clocks and silence: AUDIO_SAMPLE_TICK (R324), TDM_FRAME_SYNC (R317), TDM_FRAME_MISSING (R318), REF_PHASE_MATCH
(R315), ASRC_LOCKED (R320), BUS_SILENCE_HOLD_EXPIRY (R334), AUD_MCLKB_CLOCK_CHANGE (R315). Model choices it rests on: log 55, 122, 123,
124, 125, 127. -/
def Obligations.AudioClocksPortsAndSilence : Prop :=
  -- AUDIO_SAMPLE_TICK (R324)
  ((∀ (s : State) (d : ADomain) (pdm : List Int), domState s d.val ≠ 0 → pdOn s 12 = true →
        (applyWaits s (sequencerOf d.val)).contains d.val = false → ∃ t, exec (.audioSampleTick d pdm) s = .next t ∧
        t.free = s.free + 128 ∧ t.mem = s.mem ∧ (∀ n, n < 6 → rd s (E.tdm_DOMAIN n) = d.val → rd s (E.tdm_STATE n) = 2 →
        (tdmOf t n).level = min 32 ((tdmOf s n).level + 1)) ∧ (∀ k, k < 16 → rd s (E.asrc_STATE k) = 2 →
        asrcLevel t k = min 32 (asrcLevel s k + 1)) ∧ (∀ n o, n < 32 → streamDomain s n = d.val → (streamOf s n).opened = some o →
        rd s (E.hs_DIR n) = 0 → rd s (E.hs_STATE n) = 1 → (streamOf t n).pos = (streamOf s n).pos + 1 ∧
        (streamOf t n).level = min 32 ((streamOf s n).level + 1)) ∧ (crosspoints s d.val = [] → ∀ b, b < 32 →
        rd s (E.bus_DOMAIN b) = d.val → (busOf t b).out = 0)) ∧
    (∀ (s : State) (d : ADomain) (pdm : List Int), domState s d.val ≠ 0 → pdOn s 12 = true → pdOn s 2 = true →
        applyWaits s (sequencerOf d.val) = [d.val] → s.dict.applying = [] → ∃ t, exec (.audioSampleTick d pdm) s = .next t ∧
        rd t E.aud_SWAPS = (rd s E.aud_SWAPS + 1) % 2 ^ 32 ∧ applyWaits t (sequencerOf d.val) = [] ∧
        .event false .audioSwap [(d.val : Int)] ∈ t.out ∧ (iclOf t (sequencerOf d.val)).taken = none) ∧
    (∀ (s : State) (d : ADomain) (pdm : List Int), (domState s d.val = 0 ∨ pdOn s 12 = false) →
        exec (.audioSampleTick d pdm) s = .next s)) ∧
  -- TDM_FRAME_SYNC (R317)
  ((∀ (s : State) (n : Tdm) (sm pdm : List Int), rd s (E.tdm_ROLE n.val) = 0 → rd s (E.tdm_STATE n.val) ≠ 0 →
        rd s (E.tdm_STATE n.val) ≠ 4 → pdOn s 12 = true → rd s (E.tdm_GATE_IDLE n.val) = 0 → ∃ t,
        exec (.tdmFrameSync n sm pdm) s = .next t ∧ rd t (E.tdm_STATE n.val) = 2 ∧ (tdmOf t n.val).level = 32 ∧
        (tdmOf t n.val).rx.length = rd s (E.tdm_SLOTS n.val) ∧ t.free = s.free + 32 ∧ (∃ l, l.length = rd s (E.tdm_SLOTS n.val) ∧
        .msg (.tdm n.val) l [] ∈ t.out)) ∧
    (∀ (s : State) (n : Tdm) (sm pdm : List Int), rd s (E.tdm_ROLE n.val) = 1 → rd s (E.tdm_STATE n.val) = 1 →
        (tdmOf s n.val).good < 7 → pdOn s 12 = true → ∃ t, exec (.tdmFrameSync n sm pdm) s = .next t ∧
        rd t (E.tdm_STATE n.val) = 1 ∧ (tdmOf t n.val).good = (tdmOf s n.val).good + 1 ∧ t.out = s.out ∧ t.free = s.free) ∧
    (∀ (s : State) (n : Tdm) (sm pdm : List Int), rd s (E.tdm_ROLE n.val) = 1 → rd s (E.tdm_STATE n.val) = 1 →
        7 ≤ (tdmOf s n.val).good → pdOn s 12 = true → pdOn s 2 = true → ∃ t, exec (.tdmFrameSync n sm pdm) s = .next t ∧
        rd t (E.tdm_STATE n.val) = 2 ∧ (tdmOf t n.val).level = 0 ∧ (tdmOf t n.val).lost = false ∧ ((tdmOf s n.val).lost = true →
        .event false .tdmLocked [(n.val : Int)] ∈ t.out)) ∧
    (∀ (s : State) (n : Tdm) (sm pdm : List Int), (rd s (E.tdm_STATE n.val) = 0 ∨ rd s (E.tdm_STATE n.val) = 4 ∨
        pdOn s 12 = false) → exec (.tdmFrameSync n sm pdm) s = .next s)) ∧
  -- TDM_FRAME_MISSING (R318)
  ((∀ (s : State) (n : Tdm), rd s (E.tdm_ROLE n.val) ≠ 0 → rd s (E.tdm_STATE n.val) = 2 → 1 ≤ (tdmOf s n.val).miss →
        pdOn s 12 = true → pdOn s 2 = true → ∃ t, exec (.tdmFrameMissing n) s = .next t ∧ rd t (E.tdm_STATE n.val) = 3 ∧
        rd t (E.tdm_MISSING_FRAMES n.val) = satInc (rd s (E.tdm_MISSING_FRAMES n.val)) 1 ∧
        rd t (E.tdm_SYNC_LOSSES n.val) = satInc (rd s (E.tdm_SYNC_LOSSES n.val)) 1 ∧ (tdmOf t n.val).lost = true ∧
        (tdmOf t n.val).good = 0 ∧ .event false .tdmSyncLost [(n.val : Int)] ∈ t.out) ∧
    (∀ (s : State) (n : Tdm), rd s (E.tdm_ROLE n.val) ≠ 0 → rd s (E.tdm_STATE n.val) = 2 → (tdmOf s n.val).miss = 0 →
        pdOn s 12 = true →
        exec (.tdmFrameMissing n) s = .next (wr (setTdm s n.val { tdmOf s n.val with good := 0, miss := 1 }) (E.tdm_MISSING_FRAMES n.val) (satInc (rd s (E.tdm_MISSING_FRAMES n.val)) 1))) ∧
    (∀ (s : State) (n : Tdm), (rd s (E.tdm_ROLE n.val) = 0 ∨ rd s (E.tdm_STATE n.val) = 0 ∨ pdOn s 12 = false) →
        exec (.tdmFrameMissing n) s = .next s)) ∧
  -- REF_PHASE_MATCH (R315)
  ((∀ (s : State) (d : ADomain) (slip : Bool) (p : Nat), refPort s d.val = some p → domState s d.val = 2 →
        rd s (E.tdm_STATE p) = 2 → pdOn s 12 = true → ∃ t, exec (.refPhaseMatch d slip) s = .next t ∧
        rd t (E.aud_STATE_A d.val) = 1 ∧ rd t E.aud_SLIPS = (if slip then satInc (rd s E.aud_SLIPS) 1 else rd s E.aud_SLIPS)) ∧
    (∀ (s : State) (d : ADomain) (slip : Bool), (refPort s d.val = none ∨ domState s d.val ≠ 2) →
        exec (.refPhaseMatch d slip) s = .next s)) ∧
  -- ASRC_LOCKED (R320)
  ((∀ (s : State) (k : Asrc) (r : Nat), rd s (E.asrc_STATE k.val) = 1 → pdOn s 2 = true →
        exec (.asrcLocked k r) s = .next (emit (wr (wr (setAsrcLevel s k.val 0) (E.asrc_STATE k.val) 2) (E.asrc_RATIO k.val) (r % 2 ^ 32)) (.event false .asrcLocked [(k.val : Int)]))) ∧
    (∀ (s : State) (k : Asrc) (r : Nat), rd s (E.asrc_STATE k.val) = 2 →
        rd s (E.asrc_RATIO k.val) < 1000 * (r % 2 ^ 32 - rd s (E.asrc_RATIO k.val) + (rd s (E.asrc_RATIO k.val) - r % 2 ^ 32)) →
        pdOn s 2 = true → ∃ t, exec (.asrcLocked k r) s = .next t ∧ rd t (E.asrc_STATE k.val) = 2 ∧
        rd t (E.asrc_RATIO k.val) = r % 2 ^ 32 ∧ rd t (E.asrc_RELOCKS k.val) = satInc (rd s (E.asrc_RELOCKS k.val)) 1 ∧
        t.out = .event false .asrcLocked [(k.val : Int)] :: s.out ∧ entriesKept [E.asrc_RATIO k.val, E.asrc_RELOCKS k.val] s t) ∧
    (∀ (s : State) (k : Asrc) (r : Nat), rd s (E.asrc_STATE k.val) = 2 →
        1000 * (r % 2 ^ 32 - rd s (E.asrc_RATIO k.val) + (rd s (E.asrc_RATIO k.val) - r % 2 ^ 32)) ≤ rd s (E.asrc_RATIO k.val) →
        exec (.asrcLocked k r) s = .next s) ∧
    (∀ (s : State) (k : Asrc) (r : Nat), rd s (E.asrc_STATE k.val) ≠ 1 → rd s (E.asrc_STATE k.val) ≠ 2 →
        exec (.asrcLocked k r) s = .next s)) ∧
  -- BUS_SILENCE_HOLD_EXPIRY (R334)
  ((∀ (s : State) (b : Bus), (busOf s b.val).quiet.isSome = true → rd s (E.bus_SILENT b.val) = 0 → pdOn s 12 = true →
        pdOn s 2 = true → ∃ t, exec (.busSilenceHoldExpiry b) s = .next t ∧ rd t (E.bus_SILENT b.val) = 1 ∧
        rd t (E.bus_SILENCES b.val) = satInc (rd s (E.bus_SILENCES b.val)) 1 ∧ .event false .busSilent [(b.val : Int)] ∈ t.out ∧
        (∀ n, n < 8 → (bitOf (rd t E.aud_AMP_STATE) n = true ↔ ∃ c, c < 32 ∧ bitOf (rd s (E.aud_AMP_MASK n)) c = true ∧ c ≠ b.val ∧
        rd s (E.bus_SILENT c) = 0))) ∧
    (∀ (s : State) (b : Bus), ((busOf s b.val).quiet = none ∨ rd s (E.bus_SILENT b.val) ≠ 0 ∨ pdOn s 12 = false) →
        exec (.busSilenceHoldExpiry b) s = .next s)) ∧
  -- AUD_MCLKB_CLOCK_CHANGE (R315)
  ((∀ (s : State) (on : Bool), pdOn s 12 = true → domRef s 1 = 7 → ∃ t, exec (.audMclkbClockChange on) s = .next t ∧
        t.audio.mclkb = on ∧ rd t (E.aud_STATE_A 1) = (if on then 1 else 0) ∧ t.mem = s.mem) ∧
    (∀ (s : State) (on : Bool), ∃ t, exec (.audMclkbClockChange on) s = .next t ∧ t.audio.mclkb = on))

/-- Applied audio configurations and host streams: AUDIO_APPLY (R338), AUDIO_ICL_STREAM (R338), STREAM_OPEN (R331), STREAM_CLOSE (R331),
STREAM_QUERY (R331), STREAM_PERIOD_BOUNDARY (R333). Model choices it rests on: log 28, 55. -/
def Obligations.AudioBanksAndStreams : Prop :=
  -- AUDIO_APPLY (R338)
  ((∀ (s : State) (n : Fin 2) (q : Taken), iclAsks s n.val 0xF001 q = true → q.len = 1 → pdOn s 12 = true →
        applyWaits s n.val = [] → (∀ d, d < 3 → sequencerOf d = n.val → bitOf (argOf q 2) d = true → domState s d = 0) → ∃ t,
        exec (.audioApply n) s = .next t ∧ iclDone s t n.val {} ∧ applyWaits t n.val = []) ∧
    (∀ (s : State) (n : Fin 2) (q : Taken) (ds : List Nat), iclAsks s n.val 0xF001 q = true → q.len = 1 → pdOn s 12 = true →
        applyWaits s n.val = [] →
        ds = [0, 1, 2].filter (fun d => sequencerOf d == n.val && bitOf (argOf q 2) d && domState s d != 0) → ds ≠ [] → ∃ t,
        exec (.audioApply n) s = .next t ∧ applyWaits t n.val = ds ∧ (iclOf t n.val).taken = some q ∧ t.mem = s.mem) ∧
    (∀ (s : State) (n : Fin 2), ((iclOf s n.val).taken = none ∨ pdOn s 12 = false ∨ applyWaits s n.val ≠ []) →
        exec (.audioApply n) s = .next s) ∧
    (∀ (s : State) (n : Fin 2) (q : Taken), iclAsks s n.val 0xF001 q = true → q.len ≠ 1 → pdOn s 12 = true →
        applyWaits s n.val = [] → exec (.audioApply n) s = .next (iclComplete s n.val { code := 3 }))) ∧
  -- AUDIO_ICL_STREAM (R338)
  ((∀ (s : State) (n : Fin 2) (q : Taken), iclAsks s n.val 0xF002 q = true → argOf q 2 < 32 → argOf q 3 < 4096 → ∃ t,
        exec (.audioIclStream n) s = .next t ∧ iclDone s t n.val {} ∧ rd t (E.hs_HOLDER (argOf q 2)) = argOf q 3 ∧
        rd t (E.hs_STATE (argOf q 2)) = 0 ∧
        (streamOf t (argOf q 2)).opened = some { client := argOf q 3, ring := argOf q 4, frames := argOf q 5, periods := argOf q 6, wide := bitOf (argOf q 7) 0, latency := fld (argOf q 7) 8 8 } ∧
        entriesKept [E.hs_HOLDER (argOf q 2), E.hs_STATE (argOf q 2)] s t) ∧
    (∀ (s : State) (n : Fin 2) (q : Taken), iclAsks s n.val 0xF002 q = true → argOf q 2 < 32 → argOf q 3 = 0xFFFF →
        rd s (E.hs_STATE (argOf q 2)) = 0 → ∃ t, exec (.audioIclStream n) s = .next t ∧ iclDone s t n.val {} ∧
        rd t (E.hs_HOLDER (argOf q 2)) = 0xFFFF ∧ rd t (E.hs_STATE (argOf q 2)) = 0 ∧ (streamOf t (argOf q 2)).opened = none ∧
        t.mem = s.mem) ∧
    (∀ (s : State) (n : Fin 2) (q : Taken), iclAsks s n.val 0xF002 q = true → 32 ≤ argOf q 2 →
        exec (.audioIclStream n) s = .next (iclComplete s n.val { code := 4 }))) ∧
  -- STREAM_OPEN (R331)
  ((∀ (s : State) (c : Client) (q : Taken), asks s c.val 0x5001 5 q = true → argOf q 2 < 32 → fld (argOf q 6) 1 7 = 0 →
        argOf q 6 < 65536 → streamRight s c.val (argOf q 2) = true → (streamOf s (argOf q 2)).opened = none → pdOn s 12 = true →
        lanesOk (rd s) (argOf q 2) = true → domState s (streamDomain s (argOf q 2)) ≠ 0 → geometryFits q = true →
        inWindow s c.val (argOf q 3) (64 + argOf q 5 * argOf q 4 * rd s (E.hs_LANES (argOf q 2)) * (if bitOf (argOf q 6) 0 then 4 else 2)) = true →
        ∃ t, exec (.streamOpen c) s = .next t ∧ rd t (E.hs_HOLDER (argOf q 2)) = c.val ∧ rd t (E.hs_STATE (argOf q 2)) = 0 ∧
        entriesKept [E.hs_HOLDER (argOf q 2), E.hs_STATE (argOf q 2)] s t ∧
        (claspOf t c.val).taken = some { q with answer := some {} } ∧
        (streamOf t (argOf q 2)).opened = some { client := c.val, ring := argOf q 3, frames := argOf q 4, periods := argOf q 5, wide := bitOf (argOf q 6) 0, latency := fld (argOf q 6) 8 8 }) ∧
    (∀ (s : State) (c : Client) (q : Taken), asks s c.val 0x5001 5 q = true → (32 ≤ argOf q 2 ∨ fld (argOf q 6) 1 7 ≠ 0 ∨
        65536 ≤ argOf q 6) → exec (.streamOpen c) s = .next (fail s c.val 4)) ∧
    (∀ (s : State) (c : Client) (q : Taken), asks s c.val 0x5001 5 q = true → argOf q 2 < 32 → fld (argOf q 6) 1 7 = 0 →
        argOf q 6 < 65536 → streamRight s c.val (argOf q 2) = false → exec (.streamOpen c) s = .next (denied s c.val 0x05)) ∧
    (∀ (s : State) (c : Client) (q : Taken) (o : StreamOpen), asks s c.val 0x5001 5 q = true → argOf q 2 < 32 →
        fld (argOf q 6) 1 7 = 0 → argOf q 6 < 65536 → streamRight s c.val (argOf q 2) = true →
        (streamOf s (argOf q 2)).opened = some o →
        exec (.streamOpen c) s = .next (fail s c.val (if o.client = c.val then 5 else 0x0100))) ∧
    (∀ (s : State) (c : Client) (q : Taken), asks s c.val 0x5001 5 q = true → argOf q 2 < 32 → fld (argOf q 6) 1 7 = 0 →
        argOf q 6 < 65536 → streamRight s c.val (argOf q 2) = true → (streamOf s (argOf q 2)).opened = none → pdOn s 12 = true →
        lanesOk (rd s) (argOf q 2) = true → domState s (streamDomain s (argOf q 2)) ≠ 0 → geometryFits q = false →
        exec (.streamOpen c) s = .next (fail s c.val 0x0102))) ∧
  -- STREAM_CLOSE (R331)
  ((∀ (s : State) (c : Client) (q : Taken), asks s c.val 0x5002 1 q = true → argOf q 2 < 32 →
        streamRight s c.val (argOf q 2) = true → streamHeldBy s c.val (argOf q 2) = true → ∃ t, exec (.streamClose c) s = .next t ∧
        rd t (E.hs_HOLDER (argOf q 2)) = 0xFFFF ∧ rd t (E.hs_STATE (argOf q 2)) = 0 ∧ (streamOf t (argOf q 2)).opened = none ∧
        (streamOf t (argOf q 2)).level = (streamOf s (argOf q 2)).level ∧
        (claspOf t c.val).taken = some { q with answer := some {} }) ∧
    (∀ (s : State) (c : Client) (q : Taken), asks s c.val 0x5002 1 q = true → argOf q 2 < 32 →
        streamRight s c.val (argOf q 2) = true → streamHeldBy s c.val (argOf q 2) = false →
        exec (.streamClose c) s = .next (fail s c.val (if (streamOf s (argOf q 2)).opened.isSome then 0x0100 else 4))) ∧
    (∀ (s : State) (c : Client) (q : Taken), asks s c.val 0x5002 1 q = true → 32 ≤ argOf q 2 →
        exec (.streamClose c) s = .next (fail s c.val 4))) ∧
  -- STREAM_QUERY (R331)
  ((∀ (s : State) (c : Client) (q : Taken), asks s c.val 0x5003 1 q = true → argOf q 2 < 32 →
        streamRight s c.val (argOf q 2) = true → rd s (E.hs_DIR (argOf q 2)) = 0 →
        exec (.streamQuery c) s = .next (ok s c.val [rd s (E.hs_STATE (argOf q 2)), (streamOf s (argOf q 2)).index, rd s (E.hs_STARVATIONS (argOf q 2))])) ∧
    (∀ (s : State) (c : Client) (q : Taken) (o : StreamOpen), asks s c.val 0x5003 1 q = true → argOf q 2 < 32 →
        streamRight s c.val (argOf q 2) = true → rd s (E.hs_DIR (argOf q 2)) ≠ 0 → (streamOf s (argOf q 2)).opened = some o →
        exec (.streamQuery c) s = .next (ok s c.val [rd s (E.hs_STATE (argOf q 2)), winWord s o.client (o.ring + 4), rd s (E.hs_STARVATIONS (argOf q 2))])) ∧
    (∀ (s : State) (c : Client) (q : Taken), asks s c.val 0x5003 1 q = true → 32 ≤ argOf q 2 →
        exec (.streamQuery c) s = .next (fail s c.val 4))) ∧
  -- STREAM_PERIOD_BOUNDARY (R333)
  ((∀ (s : State) (n : Stream) (o : StreamOpen), (streamOf s n.val).opened = some o → rd s (E.hs_DIR n.val) = 0 →
        rd s (E.hs_STATE n.val) = 1 → domState s (streamDomain s n.val) ≠ 0 →
        0 < ahead s o (((streamOf s n.val).index + 1) % 2 ^ 32) → ahead s o (((streamOf s n.val).index + 1) % 2 ^ 32) ≤ o.periods →
        ∃ t, exec (.streamPeriodBoundary n) s = .next t ∧
        streamOf t n.val = { streamOf s n.val with index := ((streamOf s n.val).index + 1) % 2 ^ 32, count := (streamOf s n.val).count % 2 ^ 32, pos := 0 } ∧
        t.od = s.od ∧ (resettingClient s o.client = false → bitOf (claspOf t o.client).event 5 = true)) ∧
    (∀ (s : State) (n : Stream) (o : StreamOpen), (streamOf s n.val).opened = some o → rd s (E.hs_DIR n.val) = 0 →
        rd s (E.hs_STATE n.val) = 1 → ahead s o (((streamOf s n.val).index + 1) % 2 ^ 32) ≤ 0 → pdOn s 2 = true → ∃ t,
        exec (.streamPeriodBoundary n) s = .next t ∧ rd t (E.hs_STATE n.val) = 2 ∧
        rd t (E.hs_STARVATIONS n.val) = satInc (rd s (E.hs_STARVATIONS n.val)) 1 ∧
        .event false .streamStarved [(n.val : Int)] ∈ t.out ∧ (resettingClient s o.client = false →
        bitOf (claspOf t o.client).event 5 = true)) ∧
    (∀ (s : State) (n : Stream) (o : StreamOpen), (streamOf s n.val).opened = some o → rd s (E.hs_DIR n.val) ≠ 0 →
        (streamOf s n.val).cap.length < o.frames * rd s (E.hs_LANES n.val) → ∃ t, exec (.streamPeriodBoundary n) s = .next t ∧
        streamOf t n.val = { streamOf s n.val with cap := [] } ∧ rd t (E.hs_STATE n.val) = 1 ∧ (resettingClient s o.client = false →
        bitOf (claspOf t o.client).event 5 = true)) ∧
    (∀ (s : State) (n : Stream), (streamOf s n.val).opened = none → exec (.streamPeriodBoundary n) s = .next s))

/-- R24: the window of a client outside its guest's range reads 0 and ignores writes. -/
def Obligations.AbsentWindowsReadZero : Prop :=
  ∀ (s : State) (f : Func) (c : Client), serving s f.val = true → inRange s f.val c.val = false →
    (∀ off be, exec (.resultHeaderRead f c off be) s = .next (send s (.bar f.val 0) [0] (List.replicate (enabledAt be).length 0))) ∧
    exec (.discardsRead f c) s = .next (send s (.bar f.val 0) [0] [0, 0, 0, 0]) ∧
    exec (.dqPop f c) s = .next (send s (.bar f.val 0) [0] [0, 0, 0, 0]) ∧
    (∀ off bytes, ∃ t, exec (.claspWrite f c off bytes) s = .next t ∧ t.clasp = s.clasp) ∧
    (∀ b, exec (.eventClear f c b) s = .next s) ∧
    (∀ w, exec (.claspModeWrite f c w) s = .next s) ∧
    (∀ w, exec (.dqPush f c w) s = .next s)

/-- R376: the queue of trusted calls. -/
def Obligations.QueuedCallsAreServedInOrder : Prop :=
  (∀ (s : State) (cc num : Nat) (args : List Nat), s.locket.queue.length < 16 → queueCall (flushL1 s cc) cc num args = ticketed s cc num args) ∧
  (∀ (s : State) (cc num : Nat) (args : List Nat), 16 ≤ s.locket.queue.length →
    queueCall s cc num args = gateReply s cc 5 0) ∧
  (∀ (s t : State), exec .lktDone s = .next t → t.locket.queue = s.locket.queue ∨ ∃ q, s.locket.queue = q :: t.locket.queue) ∧
  (∀ (s t : State) (q : LktCall) (l : List LktCall), s.locket.queue = q :: l → exec .lktDone s = .next t → t.locket.queue = l →
    pdOn s 2 = true → .event false .lktDone [(q.ticket : Int)] ∈ t.out ∧
      ∃ st v, t.locket.results = (q.ticket, st, v) :: s.locket.results.take 15) ∧
  (∀ (s t : State) (r : Nat × Nat × Nat) (cc : CCore), s.locket.results.find? (fun x => x.1 == r.1) = some r →
    calls s cc.val = true → exec (.result cc r.1) s = .next t → t.out = .msg (.gate cc.val) [(r.2.1 : Int), (r.2.2 : Int)] [] :: s.out)

/-- R345: physical addresses go round the fitted channels grain by grain. -/
def Obligations.AddressesInterleaveOverChannels : Prop :=
  (∀ (s : State) (a : Nat), (channelOf s a).1 = at0 0 (fitted s) (a / 2 ^ inForce s E.mem_GRAIN % (fitted s).length) ∧
    (channelOf s a).2 = a / (2 ^ inForce s E.mem_GRAIN * (fitted s).length) * 2 ^ inForce s E.mem_GRAIN + a % 2 ^ inForce s E.mem_GRAIN) ∧
  (∀ (s : State) (a : Nat), (fitted s).length = 1 → (channelOf s a).2 = a)

/-- R371: what a gate call leaves of the calling core. -/
def Obligations.GateReturnsAScrubbedCore : Prop :=
  (∀ (s : State) (k a0 a1 : Nat), scrubbed s (gateScrub s k a0 a1) k a0 a1) ∧
  (∀ (s : State) (cc : CCore), calls s cc.val = true →
    ∃ t, exec (.trustedVersionCall cc) s = .next t ∧ scrubbed s t cc.val 0 (rd s E.id_TRUSTED_VERSION))

/-- R372: the ways of the L2. -/
def Obligations.CacheWaysKeepTheWorldsApart : Prop :=
  (∀ (s : State) (c : CacheLine) (key : Nat), l2Of (l2Allocate s true c) key ≠ l2Of s key → 14 ≤ key % 16) ∧
  (∀ (s : State) (c : CacheLine) (key : Nat), l2Of (l2Allocate s false c) key ≠ l2Of s key → key % 16 < 14) ∧
  (∀ (s : State) (line key : Nat), l2Hit s false line = some key → key % 16 < 14) ∧
  (∀ (s : State) (k line key : Nat) (c : CacheLine), k < 4 → l1Hit (cpuOf s k).l1d true line = none →
    l2Hit s true line = some key → l2Of s key = some c → (coreRead s k true false line).map (·.2) = some c.bytes)

/-- R121: the fields of a primitive record; R132: a piece without room for its record and its entries is not binned. -/
def Obligations.PrimitiveRecordsHoldTheirFields : Prop :=
  (∀ (seq st ty tx0 ty0 tx1 ty1 : Nat) (back : Bool) (v : List (Int × Int × Nat × Nat)), seq < 2 ^ 32 → st < 65536 → ty < 3 →
    recSeq (recordBlock seq st ty back v tx0 ty0 tx1 ty1) = seq ∧ recState (recordBlock seq st ty back v tx0 ty0 tx1 ty1) = st ∧
    recType (recordBlock seq st ty back v tx0 ty0 tx1 ty1) = ty ∧ bitOf (recordBlock seq st ty back v tx0 ty0 tx1 ty1) 50 = back ∧
    fld (recordBlock seq st ty back v tx0 ty0 tx1 ty1) 51 13 = 0 ∧
    fld (recordBlock seq st ty back v tx0 ty0 tx1 ty1) 448 8 = tx0 % 256 ∧ fld (recordBlock seq st ty back v tx0 ty0 tx1 ty1) 456 8 = ty0 % 256 ∧
    fld (recordBlock seq st ty back v tx0 ty0 tx1 ty1) 464 8 = tx1 % 256 ∧ fld (recordBlock seq st ty back v tx0 ty0 tx1 ty1) 472 8 = ty1 % 256 ∧
    recordBlock seq st ty back v tx0 ty0 tx1 ty1 < 2 ^ 480 ∧
    (∀ (i : Nat) (x y : Int) (z a : Nat), i < 3 → v[i]? = some (x, y, z, a) → -(2 ^ 23) ≤ x → x < 2 ^ 23 → -(2 ^ 23) ≤ y → y < 2 ^ 23 →
      recPos (recordBlock seq st ty back v tx0 ty0 tx1 ty1) i = (x, y) ∧ recZ (recordBlock seq st ty back v tx0 ty0 tx1 ty1) i = z % 2 ^ 32 ∧
      recAttr (recordBlock seq st ty back v tx0 ty0 tx1 ty1) i = a % 2 ^ 32)) ∧
  (∀ (s : State) (key seq st : Nat) (x : RCtx) (b : Machine.Sub) (p : Piece) (tiles : List Nat),
    blocksFree s x.units < 1 + (tiles.filter (needsBlock s b)).length → binPiece s key x b seq st p tiles = none)
end

