-- ==== Sys2Proof/Laws/Tbl.lean ====
section
/-! SUPPORT. Laws of the sparse tables: what reads give after writes, and that every operation keeps the canonical form. -/

namespace Sys2Proof.Laws

open Sys2Proof.Machine

theorem tget_tdel_same {α : Type} (d : Nat → α) (t : Tbl α) (k : Nat) : tget d (tdel t k) k = d k := by
  induction t with
  | nil => rfl
  | cons p r ih =>
    obtain ⟨a, v⟩ := p
    by_cases h : a = k
    · simpa [tdel, h] using ih
    · have h2 : tdel ((a, v) :: r) k = (a, v) :: tdel r k := by simp [tdel, h]
      rw [h2, tget, if_neg h, ih]

theorem tget_tdel_ne {α : Type} (d : Nat → α) (t : Tbl α) {j k : Nat} (h : j ≠ k) :
    tget d (tdel t k) j = tget d t j := by
  induction t with
  | nil => rfl
  | cons p r ih =>
    obtain ⟨a, v⟩ := p
    by_cases hk : a = k
    · have h2 : tdel ((a, v) :: r) k = tdel r k := by simp [tdel, hk]
      rw [h2, ih, tget, if_neg (fun e : a = j => h (by omega))]
    · have h2 : tdel ((a, v) :: r) k = (a, v) :: tdel r k := by simp [tdel, hk]
      rw [h2, tget, tget, ih]

theorem tget_tins_same {α : Type} (d : Nat → α) (t : Tbl α) (k : Nat) (v : α) (h : ∀ p ∈ t, p.1 ≠ k) :
    tget d (tins k v t) k = v := by
  induction t with
  | nil => simp [tins, tget]
  | cons p r ih =>
    obtain ⟨a, w⟩ := p
    have ha : a ≠ k := h (a, w) (by simp)
    by_cases hk : k < a
    · simp [tins, hk, tget]
    · rw [tins, if_neg hk, tget, if_neg ha]
      exact ih (fun q hq => h q (by simp [hq]))

theorem tget_tins_ne {α : Type} (d : Nat → α) (t : Tbl α) {j k : Nat} (v : α) (h : j ≠ k) :
    tget d (tins k v t) j = tget d t j := by
  induction t with
  | nil => simp [tins, tget, Ne.symm h]
  | cons p r ih =>
    obtain ⟨a, w⟩ := p
    by_cases hk : k < a
    · rw [tins, if_pos hk, tget, if_neg (Ne.symm h)]
    · rw [tins, if_neg hk, tget, tget, ih]

theorem tdel_key {α : Type} (t : Tbl α) (k : Nat) : ∀ p ∈ tdel t k, p.1 ≠ k := by
  intro p hp
  simpa using (List.mem_filter.mp hp).2

/-- A read of the key just written gives the value written. -/
theorem tget_tset_same {α : Type} [DecidableEq α] (d : Nat → α) (t : Tbl α) (k : Nat) (v : α) :
    tget d (tset d t k v) k = v := by
  unfold tset
  split
  · rename_i h; rw [tget_tdel_same, h]
  · exact tget_tins_same d _ k v (tdel_key t k)

/-- A write leaves every other key alone. -/
theorem tget_tset_ne {α : Type} [DecidableEq α] (d : Nat → α) (t : Tbl α) {j k : Nat} (v : α) (h : j ≠ k) :
    tget d (tset d t k v) j = tget d t j := by
  unfold tset
  split
  · exact tget_tdel_ne d t h
  · rw [tget_tins_ne d _ v h, tget_tdel_ne d t h]

/-- A key that is cleared reads as its default, every other as before. -/
theorem tget_tclear {α : Type} (d : Nat → α) (p : Nat → Bool) (t : Tbl α) (j : Nat) :
    tget d (tclear p t) j = if p j then d j else tget d t j := by
  induction t with
  | nil => simp [tclear, tget]
  | cons q r ih =>
    obtain ⟨a, v⟩ := q
    by_cases ha : p a
    · have h2 : tclear p ((a, v) :: r) = tclear p r := by simp [tclear, ha]
      rw [h2, ih, tget]
      by_cases hj : p j
      · simp [hj]
      · have : a ≠ j := fun e => hj (e ▸ ha)
        simp [hj, this]
    · have h2 : tclear p ((a, v) :: r) = (a, v) :: tclear p r := by simp [tclear, ha]
      rw [h2, tget, tget, ih]
      by_cases hj : a = j
      · subst hj; simp [ha]
      · simp [hj]

/-- Keys strictly rising, as a relation on pairs. -/
theorem tsorted_iff {α : Type} (t : Tbl α) : tsorted t = true ↔ t.Pairwise (fun p q => p.1 < q.1) := by
  induction t with
  | nil => simp [tsorted]
  | cons p r ih =>
    cases r with
    | nil => simp [tsorted]
    | cons q u =>
      obtain ⟨a, v⟩ := p
      obtain ⟨b, w⟩ := q
      rw [tsorted, Bool.and_eq_true, ih]
      rw [List.pairwise_cons (a := (a, v))]
      constructor
      · rintro ⟨h1, h2⟩
        refine ⟨fun x hx => ?_, h2⟩
        have hab : a < b := by simpa using h1
        rcases List.mem_cons.mp hx with rfl | hx
        · exact hab
        · exact Nat.lt_trans hab ((List.pairwise_cons.mp h2).1 x hx)
      · rintro ⟨h1, h2⟩
        exact ⟨by simpa using h1 (b, w) (by simp), h2⟩

theorem mem_tins {α : Type} (k : Nat) (v : α) (t : Tbl α) (p : Nat × α) (h : p ∈ tins k v t) : p = (k, v) ∨ p ∈ t := by
  induction t with
  | nil => simpa [tins] using h
  | cons q r ih =>
    obtain ⟨a, w⟩ := q
    by_cases hk : k < a
    · rw [tins, if_pos hk] at h
      simpa using h
    · rw [tins, if_neg hk] at h
      rcases List.mem_cons.mp h with rfl | h
      · simp
      · rcases ih h with h | h
        · exact .inl h
        · exact .inr (by simp [h])

theorem tsorted_tins {α : Type} (k : Nat) (v : α) (t : Tbl α) (hs : t.Pairwise (fun p q => p.1 < q.1)) (hk : ∀ p ∈ t, p.1 ≠ k) :
    (tins k v t).Pairwise (fun p q => p.1 < q.1) := by
  induction t with
  | nil => simp [tins]
  | cons q r ih =>
    obtain ⟨a, w⟩ := q
    have hr := List.pairwise_cons.mp hs
    have ha : a ≠ k := hk (a, w) (by simp)
    by_cases hlt : k < a
    · rw [tins, if_pos hlt]
      refine List.pairwise_cons.mpr ⟨fun x hx => ?_, hs⟩
      rcases List.mem_cons.mp hx with rfl | hx
      · exact hlt
      · exact Nat.lt_trans hlt (hr.1 x hx)
    · rw [tins, if_neg hlt]
      refine List.pairwise_cons.mpr ⟨fun x hx => ?_, ih hr.2 (fun p hp => hk p (by simp [hp]))⟩
      rcases mem_tins k v r x hx with rfl | hx
      · exact Nat.lt_of_le_of_ne (Nat.le_of_not_lt hlt) ha
      · exact hr.1 x hx

theorem twf_iff {α : Type} [DecidableEq α] (d : Nat → α) (t : Tbl α) :
    twf d t = true ↔ t.Pairwise (fun p q => p.1 < q.1) ∧ ∀ p ∈ t, p.2 ≠ d p.1 := by
  rw [twf, Bool.and_eq_true, tsorted_iff]
  simp [List.all_eq_true]

/-- A write keeps the canonical form. -/
theorem twf_tset {α : Type} [DecidableEq α] (d : Nat → α) (t : Tbl α) (k : Nat) (v : α) (h : twf d t = true) :
    twf d (tset d t k v) = true := by
  obtain ⟨hs, hd⟩ := (twf_iff d t).mp h
  have hs2 : (tdel t k).Pairwise (fun p q => p.1 < q.1) := hs.filter _
  have hd2 : ∀ p ∈ tdel t k, p.2 ≠ d p.1 := fun p hp => hd p (List.mem_filter.mp hp).1
  unfold tset
  split
  · exact (twf_iff d _).mpr ⟨hs2, hd2⟩
  · rename_i hv
    refine (twf_iff d _).mpr ⟨tsorted_tins k v _ hs2 (tdel_key t k), fun p hp => ?_⟩
    rcases mem_tins k v _ p hp with rfl | hp
    · exact hv
    · exact hd2 p hp

/-- Clearing keeps the canonical form. -/
theorem twf_tclear {α : Type} [DecidableEq α] (d : Nat → α) (p : Nat → Bool) (t : Tbl α) (h : twf d t = true) :
    twf d (tclear p t) = true := by
  obtain ⟨hs, hd⟩ := (twf_iff d t).mp h
  exact (twf_iff d _).mpr ⟨hs.filter _, fun q hq => hd q (List.mem_filter.mp hq).1⟩

theorem tget_mem {α : Type} (d : Nat → α) (t : Tbl α) (hs : t.Pairwise (fun p q => p.1 < q.1)) (p : Nat × α) (hp : p ∈ t) :
    tget d t p.1 = p.2 := by
  induction t with
  | nil => simp at hp
  | cons q r ih =>
    obtain ⟨a, v⟩ := q
    have hr := List.pairwise_cons.mp hs
    rcases List.mem_cons.mp hp with rfl | hp
    · simp [tget]
    · have : a ≠ p.1 := Nat.ne_of_lt (hr.1 p hp)
      rw [tget, if_neg this, ih hr.2 hp]

/-- A key that a canonical table does not list reads as its default. -/
theorem tget_unlisted {α : Type} (d : Nat → α) (t : Tbl α) (k : Nat) (h : ∀ p ∈ t, p.1 ≠ k) : tget d t k = d k := by
  induction t with
  | nil => rfl
  | cons q r ih =>
    obtain ⟨a, v⟩ := q
    rw [tget, if_neg (h (a, v) (by simp)), ih (fun p hp => h p (by simp [hp]))]

end Sys2Proof.Laws
end

