-- ==== Sys2Proof/Laws/State.lean ====
section
/-! SUPPORT. What each setter of the state leaves alone, field by field, and what reading back after writing gives: the lemmas
that later proofs cite in place of unfolding a record update. -/

namespace Sys2Proof.Laws

open Sys2Proof Sys2Proof.Machine

/-! ### Dictionary entries -/

@[simp] theorem rd_wr_same (s : State) (k v : Nat) : rd (wr s k v) k = v := tget_tset_same _ _ _ _

theorem rd_wr_ne (s : State) {j k : Nat} (v : Nat) (h : j ≠ k) : rd (wr s k v) j = rd s j := tget_tset_ne _ _ _ h

theorem rd_wr (s : State) (j k v : Nat) : rd (wr s k v) j = if j = k then v else rd s j := by
  by_cases h : j = k
  · subst h; simp
  · simp [h, rd_wr_ne]

@[simp] theorem dget_dput_same (s : State) (k : Nat) (v : List Byte) : dget (dput s k v) k = v := tget_tset_same _ _ _ _

theorem dget_dput_ne (s : State) {j k : Nat} (v : List Byte) (h : j ≠ k) : dget (dput s k v) j = dget s j := tget_tset_ne _ _ _ h

@[simp] theorem dramByte_memWr_same (s : State) (a : Nat) (v : Byte) : dramByte (memWr s a v) a = v := tget_tset_same _ _ _ _

theorem dramByte_memWr_ne (s : State) {a b : Nat} (v : Byte) (h : b ≠ a) : dramByte (memWr s a v) b = dramByte s b :=
  tget_tset_ne _ _ _ h

/-- An event while PD2 is on leaves the block at once. -/
theorem raise_on (s : State) (e : Ev) (args : List Int) (h : pdOn s 2 = true) : raise s e args = emit s (.event false e args) := by
  simp [raise, h]

/-! ### wr -/

@[simp] theorem wr_time (s : State) (k : Nat) (v : Nat) : (wr s k v).time = s.time := rfl
@[simp] theorem wr_free (s : State) (k : Nat) (v : Nat) : (wr s k v).free = s.free := rfl
@[simp] theorem wr_pending (s : State) (k : Nat) (v : Nat) : (wr s k v).pending = s.pending := rfl
@[simp] theorem wr_out (s : State) (k : Nat) (v : Nat) : (wr s k v).out = s.out := rfl
@[simp] theorem wr_fwQueue (s : State) (k : Nat) (v : Nat) : (wr s k v).fwQueue = s.fwQueue := rfl
@[simp] theorem wr_dom (s : State) (k : Nat) (v : Nat) : (wr s k v).dom = s.dom := rfl
@[simp] theorem wr_mem (s : State) (k : Nat) (v : Nat) : (wr s k v).mem = s.mem := rfl
@[simp] theorem wr_ten (s : State) (k : Nat) (v : Nat) : (wr s k v).ten = s.ten := rfl
@[simp] theorem wr_clasp (s : State) (k : Nat) (v : Nat) : (wr s k v).clasp = s.clasp := rfl
@[simp] theorem wr_dict (s : State) (k : Nat) (v : Nat) : (wr s k v).dict = s.dict := rfl
@[simp] theorem wr_field (s : State) (k : Nat) (v : Nat) : (wr s k v).field = s.field := rfl
@[simp] theorem wr_raster (s : State) (k : Nat) (v : Nat) : (wr s k v).raster = s.raster := rfl
@[simp] theorem wr_compose (s : State) (k : Nat) (v : Nat) : (wr s k v).compose = s.compose := rfl
@[simp] theorem wr_heads (s : State) (k : Nat) (v : Nat) : (wr s k v).heads = s.heads := rfl
@[simp] theorem wr_ports (s : State) (k : Nat) (v : Nat) : (wr s k v).ports = s.ports := rfl
@[simp] theorem wr_cameo (s : State) (k : Nat) (v : Nat) : (wr s k v).cameo = s.cameo := rfl
@[simp] theorem wr_touch (s : State) (k : Nat) (v : Nat) : (wr s k v).touch = s.touch := rfl
@[simp] theorem wr_hap (s : State) (k : Nat) (v : Nat) : (wr s k v).hap = s.hap := rfl
@[simp] theorem wr_audio (s : State) (k : Nat) (v : Nat) : (wr s k v).audio = s.audio := rfl
@[simp] theorem wr_memc (s : State) (k : Nat) (v : Nat) : (wr s k v).memc = s.memc := rfl
@[simp] theorem wr_control (s : State) (k : Nat) (v : Nat) : (wr s k v).control = s.control := rfl
@[simp] theorem wr_locket (s : State) (k : Nat) (v : Nat) : (wr s k v).locket = s.locket := rfl
@[simp] theorem wr_flash (s : State) (k : Nat) (v : Nat) : (wr s k v).flash = s.flash := rfl
@[simp] theorem wr_isl (s : State) (k : Nat) (v : Nat) : (wr s k v).isl = s.isl := rfl
@[simp] theorem wr_power (s : State) (k : Nat) (v : Nat) : (wr s k v).power = s.power := rfl
@[simp] theorem wr_boot (s : State) (k : Nat) (v : Nat) : (wr s k v).boot = s.boot := rfl
@[simp] theorem dget_wr (s : State) (k : Nat) (v : Nat) (j : Nat) : dget (wr s k v) j = dget s j := rfl
@[simp] theorem dramByte_wr (s : State) (k : Nat) (v : Nat) (j : Nat) : dramByte (wr s k v) j = dramByte s j := rfl
@[simp] theorem memRd_wr (s : State) (k : Nat) (v : Nat) (j : Nat) : memRd (wr s k v) j = memRd s j := rfl

/-! ### dput -/

@[simp] theorem dput_time (s : State) (k : Nat) (v : List Byte) : (dput s k v).time = s.time := rfl
@[simp] theorem dput_free (s : State) (k : Nat) (v : List Byte) : (dput s k v).free = s.free := rfl
@[simp] theorem dput_pending (s : State) (k : Nat) (v : List Byte) : (dput s k v).pending = s.pending := rfl
@[simp] theorem dput_out (s : State) (k : Nat) (v : List Byte) : (dput s k v).out = s.out := rfl
@[simp] theorem dput_fwQueue (s : State) (k : Nat) (v : List Byte) : (dput s k v).fwQueue = s.fwQueue := rfl
@[simp] theorem dput_od (s : State) (k : Nat) (v : List Byte) : (dput s k v).od = s.od := rfl
@[simp] theorem dput_mem (s : State) (k : Nat) (v : List Byte) : (dput s k v).mem = s.mem := rfl
@[simp] theorem dput_ten (s : State) (k : Nat) (v : List Byte) : (dput s k v).ten = s.ten := rfl
@[simp] theorem dput_clasp (s : State) (k : Nat) (v : List Byte) : (dput s k v).clasp = s.clasp := rfl
@[simp] theorem dput_dict (s : State) (k : Nat) (v : List Byte) : (dput s k v).dict = s.dict := rfl
@[simp] theorem dput_field (s : State) (k : Nat) (v : List Byte) : (dput s k v).field = s.field := rfl
@[simp] theorem dput_raster (s : State) (k : Nat) (v : List Byte) : (dput s k v).raster = s.raster := rfl
@[simp] theorem dput_compose (s : State) (k : Nat) (v : List Byte) : (dput s k v).compose = s.compose := rfl
@[simp] theorem dput_heads (s : State) (k : Nat) (v : List Byte) : (dput s k v).heads = s.heads := rfl
@[simp] theorem dput_ports (s : State) (k : Nat) (v : List Byte) : (dput s k v).ports = s.ports := rfl
@[simp] theorem dput_cameo (s : State) (k : Nat) (v : List Byte) : (dput s k v).cameo = s.cameo := rfl
@[simp] theorem dput_touch (s : State) (k : Nat) (v : List Byte) : (dput s k v).touch = s.touch := rfl
@[simp] theorem dput_hap (s : State) (k : Nat) (v : List Byte) : (dput s k v).hap = s.hap := rfl
@[simp] theorem dput_audio (s : State) (k : Nat) (v : List Byte) : (dput s k v).audio = s.audio := rfl
@[simp] theorem dput_memc (s : State) (k : Nat) (v : List Byte) : (dput s k v).memc = s.memc := rfl
@[simp] theorem dput_control (s : State) (k : Nat) (v : List Byte) : (dput s k v).control = s.control := rfl
@[simp] theorem dput_locket (s : State) (k : Nat) (v : List Byte) : (dput s k v).locket = s.locket := rfl
@[simp] theorem dput_flash (s : State) (k : Nat) (v : List Byte) : (dput s k v).flash = s.flash := rfl
@[simp] theorem dput_isl (s : State) (k : Nat) (v : List Byte) : (dput s k v).isl = s.isl := rfl
@[simp] theorem dput_power (s : State) (k : Nat) (v : List Byte) : (dput s k v).power = s.power := rfl
@[simp] theorem dput_boot (s : State) (k : Nat) (v : List Byte) : (dput s k v).boot = s.boot := rfl
@[simp] theorem rd_dput (s : State) (k : Nat) (v : List Byte) (j : Nat) : rd (dput s k v) j = rd s j := rfl
@[simp] theorem dramByte_dput (s : State) (k : Nat) (v : List Byte) (j : Nat) : dramByte (dput s k v) j = dramByte s j := rfl
@[simp] theorem memRd_dput (s : State) (k : Nat) (v : List Byte) (j : Nat) : memRd (dput s k v) j = memRd s j := rfl

/-! ### drawn -/

@[simp] theorem drawn_time (s : State) : (drawn s).time = s.time := rfl
@[simp] theorem drawn_pending (s : State) : (drawn s).pending = s.pending := rfl
@[simp] theorem drawn_out (s : State) : (drawn s).out = s.out := rfl
@[simp] theorem drawn_fwQueue (s : State) : (drawn s).fwQueue = s.fwQueue := rfl
@[simp] theorem drawn_od (s : State) : (drawn s).od = s.od := rfl
@[simp] theorem drawn_dom (s : State) : (drawn s).dom = s.dom := rfl
@[simp] theorem drawn_mem (s : State) : (drawn s).mem = s.mem := rfl
@[simp] theorem drawn_ten (s : State) : (drawn s).ten = s.ten := rfl
@[simp] theorem drawn_clasp (s : State) : (drawn s).clasp = s.clasp := rfl
@[simp] theorem drawn_dict (s : State) : (drawn s).dict = s.dict := rfl
@[simp] theorem drawn_field (s : State) : (drawn s).field = s.field := rfl
@[simp] theorem drawn_raster (s : State) : (drawn s).raster = s.raster := rfl
@[simp] theorem drawn_compose (s : State) : (drawn s).compose = s.compose := rfl
@[simp] theorem drawn_heads (s : State) : (drawn s).heads = s.heads := rfl
@[simp] theorem drawn_ports (s : State) : (drawn s).ports = s.ports := rfl
@[simp] theorem drawn_cameo (s : State) : (drawn s).cameo = s.cameo := rfl
@[simp] theorem drawn_touch (s : State) : (drawn s).touch = s.touch := rfl
@[simp] theorem drawn_hap (s : State) : (drawn s).hap = s.hap := rfl
@[simp] theorem drawn_audio (s : State) : (drawn s).audio = s.audio := rfl
@[simp] theorem drawn_memc (s : State) : (drawn s).memc = s.memc := rfl
@[simp] theorem drawn_control (s : State) : (drawn s).control = s.control := rfl
@[simp] theorem drawn_locket (s : State) : (drawn s).locket = s.locket := rfl
@[simp] theorem drawn_flash (s : State) : (drawn s).flash = s.flash := rfl
@[simp] theorem drawn_isl (s : State) : (drawn s).isl = s.isl := rfl
@[simp] theorem drawn_power (s : State) : (drawn s).power = s.power := rfl
@[simp] theorem drawn_boot (s : State) : (drawn s).boot = s.boot := rfl
@[simp] theorem rd_drawn (s : State) (j : Nat) : rd (drawn s) j = rd s j := rfl
@[simp] theorem dget_drawn (s : State) (j : Nat) : dget (drawn s) j = dget s j := rfl
@[simp] theorem dramByte_drawn (s : State) (j : Nat) : dramByte (drawn s) j = dramByte s j := rfl
@[simp] theorem memRd_drawn (s : State) (j : Nat) : memRd (drawn s) j = memRd s j := rfl

/-! ### memWr -/

@[simp] theorem memWr_time (s : State) (a : Nat) (v : Byte) : (memWr s a v).time = s.time := rfl
@[simp] theorem memWr_free (s : State) (a : Nat) (v : Byte) : (memWr s a v).free = s.free := rfl
@[simp] theorem memWr_pending (s : State) (a : Nat) (v : Byte) : (memWr s a v).pending = s.pending := rfl
@[simp] theorem memWr_out (s : State) (a : Nat) (v : Byte) : (memWr s a v).out = s.out := rfl
@[simp] theorem memWr_fwQueue (s : State) (a : Nat) (v : Byte) : (memWr s a v).fwQueue = s.fwQueue := rfl
@[simp] theorem memWr_od (s : State) (a : Nat) (v : Byte) : (memWr s a v).od = s.od := rfl
@[simp] theorem memWr_dom (s : State) (a : Nat) (v : Byte) : (memWr s a v).dom = s.dom := rfl
@[simp] theorem memWr_ten (s : State) (a : Nat) (v : Byte) : (memWr s a v).ten = s.ten := rfl
@[simp] theorem memWr_clasp (s : State) (a : Nat) (v : Byte) : (memWr s a v).clasp = s.clasp := rfl
@[simp] theorem memWr_dict (s : State) (a : Nat) (v : Byte) : (memWr s a v).dict = s.dict := rfl
@[simp] theorem memWr_field (s : State) (a : Nat) (v : Byte) : (memWr s a v).field = s.field := rfl
@[simp] theorem memWr_raster (s : State) (a : Nat) (v : Byte) : (memWr s a v).raster = s.raster := rfl
@[simp] theorem memWr_compose (s : State) (a : Nat) (v : Byte) : (memWr s a v).compose = s.compose := rfl
@[simp] theorem memWr_heads (s : State) (a : Nat) (v : Byte) : (memWr s a v).heads = s.heads := rfl
@[simp] theorem memWr_ports (s : State) (a : Nat) (v : Byte) : (memWr s a v).ports = s.ports := rfl
@[simp] theorem memWr_cameo (s : State) (a : Nat) (v : Byte) : (memWr s a v).cameo = s.cameo := rfl
@[simp] theorem memWr_touch (s : State) (a : Nat) (v : Byte) : (memWr s a v).touch = s.touch := rfl
@[simp] theorem memWr_hap (s : State) (a : Nat) (v : Byte) : (memWr s a v).hap = s.hap := rfl
@[simp] theorem memWr_audio (s : State) (a : Nat) (v : Byte) : (memWr s a v).audio = s.audio := rfl
@[simp] theorem memWr_control (s : State) (a : Nat) (v : Byte) : (memWr s a v).control = s.control := rfl
@[simp] theorem memWr_locket (s : State) (a : Nat) (v : Byte) : (memWr s a v).locket = s.locket := rfl
@[simp] theorem memWr_flash (s : State) (a : Nat) (v : Byte) : (memWr s a v).flash = s.flash := rfl
@[simp] theorem memWr_isl (s : State) (a : Nat) (v : Byte) : (memWr s a v).isl = s.isl := rfl
@[simp] theorem memWr_power (s : State) (a : Nat) (v : Byte) : (memWr s a v).power = s.power := rfl
@[simp] theorem memWr_boot (s : State) (a : Nat) (v : Byte) : (memWr s a v).boot = s.boot := rfl
@[simp] theorem rd_memWr (s : State) (a : Nat) (v : Byte) (j : Nat) : rd (memWr s a v) j = rd s j := rfl
@[simp] theorem dget_memWr (s : State) (a : Nat) (v : Byte) (j : Nat) : dget (memWr s a v) j = dget s j := rfl

/-! ### memZero -/

@[simp] theorem memZero_time (s : State) (lo : Nat) (n : Nat) : (memZero s lo n).time = s.time := rfl
@[simp] theorem memZero_free (s : State) (lo : Nat) (n : Nat) : (memZero s lo n).free = s.free := rfl
@[simp] theorem memZero_pending (s : State) (lo : Nat) (n : Nat) : (memZero s lo n).pending = s.pending := rfl
@[simp] theorem memZero_out (s : State) (lo : Nat) (n : Nat) : (memZero s lo n).out = s.out := rfl
@[simp] theorem memZero_fwQueue (s : State) (lo : Nat) (n : Nat) : (memZero s lo n).fwQueue = s.fwQueue := rfl
@[simp] theorem memZero_od (s : State) (lo : Nat) (n : Nat) : (memZero s lo n).od = s.od := rfl
@[simp] theorem memZero_dom (s : State) (lo : Nat) (n : Nat) : (memZero s lo n).dom = s.dom := rfl
@[simp] theorem memZero_ten (s : State) (lo : Nat) (n : Nat) : (memZero s lo n).ten = s.ten := rfl
@[simp] theorem memZero_clasp (s : State) (lo : Nat) (n : Nat) : (memZero s lo n).clasp = s.clasp := rfl
@[simp] theorem memZero_dict (s : State) (lo : Nat) (n : Nat) : (memZero s lo n).dict = s.dict := rfl
@[simp] theorem memZero_field (s : State) (lo : Nat) (n : Nat) : (memZero s lo n).field = s.field := rfl
@[simp] theorem memZero_raster (s : State) (lo : Nat) (n : Nat) : (memZero s lo n).raster = s.raster := rfl
@[simp] theorem memZero_compose (s : State) (lo : Nat) (n : Nat) : (memZero s lo n).compose = s.compose := rfl
@[simp] theorem memZero_heads (s : State) (lo : Nat) (n : Nat) : (memZero s lo n).heads = s.heads := rfl
@[simp] theorem memZero_ports (s : State) (lo : Nat) (n : Nat) : (memZero s lo n).ports = s.ports := rfl
@[simp] theorem memZero_cameo (s : State) (lo : Nat) (n : Nat) : (memZero s lo n).cameo = s.cameo := rfl
@[simp] theorem memZero_touch (s : State) (lo : Nat) (n : Nat) : (memZero s lo n).touch = s.touch := rfl
@[simp] theorem memZero_hap (s : State) (lo : Nat) (n : Nat) : (memZero s lo n).hap = s.hap := rfl
@[simp] theorem memZero_audio (s : State) (lo : Nat) (n : Nat) : (memZero s lo n).audio = s.audio := rfl
@[simp] theorem memZero_control (s : State) (lo : Nat) (n : Nat) : (memZero s lo n).control = s.control := rfl
@[simp] theorem memZero_locket (s : State) (lo : Nat) (n : Nat) : (memZero s lo n).locket = s.locket := rfl
@[simp] theorem memZero_flash (s : State) (lo : Nat) (n : Nat) : (memZero s lo n).flash = s.flash := rfl
@[simp] theorem memZero_isl (s : State) (lo : Nat) (n : Nat) : (memZero s lo n).isl = s.isl := rfl
@[simp] theorem memZero_power (s : State) (lo : Nat) (n : Nat) : (memZero s lo n).power = s.power := rfl
@[simp] theorem memZero_boot (s : State) (lo : Nat) (n : Nat) : (memZero s lo n).boot = s.boot := rfl
@[simp] theorem rd_memZero (s : State) (lo : Nat) (n : Nat) (j : Nat) : rd (memZero s lo n) j = rd s j := rfl
@[simp] theorem dget_memZero (s : State) (lo : Nat) (n : Nat) (j : Nat) : dget (memZero s lo n) j = dget s j := rfl

/-! ### emit -/

@[simp] theorem emit_time (s : State) (o : Out) : (emit s o).time = s.time := rfl
@[simp] theorem emit_free (s : State) (o : Out) : (emit s o).free = s.free := rfl
@[simp] theorem emit_pending (s : State) (o : Out) : (emit s o).pending = s.pending := rfl
@[simp] theorem emit_fwQueue (s : State) (o : Out) : (emit s o).fwQueue = s.fwQueue := rfl
@[simp] theorem emit_od (s : State) (o : Out) : (emit s o).od = s.od := rfl
@[simp] theorem emit_dom (s : State) (o : Out) : (emit s o).dom = s.dom := rfl
@[simp] theorem emit_mem (s : State) (o : Out) : (emit s o).mem = s.mem := rfl
@[simp] theorem emit_ten (s : State) (o : Out) : (emit s o).ten = s.ten := rfl
@[simp] theorem emit_clasp (s : State) (o : Out) : (emit s o).clasp = s.clasp := rfl
@[simp] theorem emit_dict (s : State) (o : Out) : (emit s o).dict = s.dict := rfl
@[simp] theorem emit_field (s : State) (o : Out) : (emit s o).field = s.field := rfl
@[simp] theorem emit_raster (s : State) (o : Out) : (emit s o).raster = s.raster := rfl
@[simp] theorem emit_compose (s : State) (o : Out) : (emit s o).compose = s.compose := rfl
@[simp] theorem emit_heads (s : State) (o : Out) : (emit s o).heads = s.heads := rfl
@[simp] theorem emit_ports (s : State) (o : Out) : (emit s o).ports = s.ports := rfl
@[simp] theorem emit_cameo (s : State) (o : Out) : (emit s o).cameo = s.cameo := rfl
@[simp] theorem emit_touch (s : State) (o : Out) : (emit s o).touch = s.touch := rfl
@[simp] theorem emit_hap (s : State) (o : Out) : (emit s o).hap = s.hap := rfl
@[simp] theorem emit_audio (s : State) (o : Out) : (emit s o).audio = s.audio := rfl
@[simp] theorem emit_memc (s : State) (o : Out) : (emit s o).memc = s.memc := rfl
@[simp] theorem emit_control (s : State) (o : Out) : (emit s o).control = s.control := rfl
@[simp] theorem emit_locket (s : State) (o : Out) : (emit s o).locket = s.locket := rfl
@[simp] theorem emit_flash (s : State) (o : Out) : (emit s o).flash = s.flash := rfl
@[simp] theorem emit_isl (s : State) (o : Out) : (emit s o).isl = s.isl := rfl
@[simp] theorem emit_power (s : State) (o : Out) : (emit s o).power = s.power := rfl
@[simp] theorem emit_boot (s : State) (o : Out) : (emit s o).boot = s.boot := rfl
@[simp] theorem rd_emit (s : State) (o : Out) (j : Nat) : rd (emit s o) j = rd s j := rfl
@[simp] theorem dget_emit (s : State) (o : Out) (j : Nat) : dget (emit s o) j = dget s j := rfl
@[simp] theorem dramByte_emit (s : State) (o : Out) (j : Nat) : dramByte (emit s o) j = dramByte s j := rfl
@[simp] theorem memRd_emit (s : State) (o : Out) (j : Nat) : memRd (emit s o) j = memRd s j := rfl

/-! ### setGuest -/

@[simp] theorem setGuest_time (s : State) (g : Nat) (r : GuestRec) : (setGuest s g r).time = s.time := rfl
@[simp] theorem setGuest_free (s : State) (g : Nat) (r : GuestRec) : (setGuest s g r).free = s.free := rfl
@[simp] theorem setGuest_pending (s : State) (g : Nat) (r : GuestRec) : (setGuest s g r).pending = s.pending := rfl
@[simp] theorem setGuest_out (s : State) (g : Nat) (r : GuestRec) : (setGuest s g r).out = s.out := rfl
@[simp] theorem setGuest_fwQueue (s : State) (g : Nat) (r : GuestRec) : (setGuest s g r).fwQueue = s.fwQueue := rfl
@[simp] theorem setGuest_od (s : State) (g : Nat) (r : GuestRec) : (setGuest s g r).od = s.od := rfl
@[simp] theorem setGuest_dom (s : State) (g : Nat) (r : GuestRec) : (setGuest s g r).dom = s.dom := rfl
@[simp] theorem setGuest_mem (s : State) (g : Nat) (r : GuestRec) : (setGuest s g r).mem = s.mem := rfl
@[simp] theorem setGuest_clasp (s : State) (g : Nat) (r : GuestRec) : (setGuest s g r).clasp = s.clasp := rfl
@[simp] theorem setGuest_dict (s : State) (g : Nat) (r : GuestRec) : (setGuest s g r).dict = s.dict := rfl
@[simp] theorem setGuest_field (s : State) (g : Nat) (r : GuestRec) : (setGuest s g r).field = s.field := rfl
@[simp] theorem setGuest_raster (s : State) (g : Nat) (r : GuestRec) : (setGuest s g r).raster = s.raster := rfl
@[simp] theorem setGuest_compose (s : State) (g : Nat) (r : GuestRec) : (setGuest s g r).compose = s.compose := rfl
@[simp] theorem setGuest_heads (s : State) (g : Nat) (r : GuestRec) : (setGuest s g r).heads = s.heads := rfl
@[simp] theorem setGuest_ports (s : State) (g : Nat) (r : GuestRec) : (setGuest s g r).ports = s.ports := rfl
@[simp] theorem setGuest_cameo (s : State) (g : Nat) (r : GuestRec) : (setGuest s g r).cameo = s.cameo := rfl
@[simp] theorem setGuest_touch (s : State) (g : Nat) (r : GuestRec) : (setGuest s g r).touch = s.touch := rfl
@[simp] theorem setGuest_hap (s : State) (g : Nat) (r : GuestRec) : (setGuest s g r).hap = s.hap := rfl
@[simp] theorem setGuest_audio (s : State) (g : Nat) (r : GuestRec) : (setGuest s g r).audio = s.audio := rfl
@[simp] theorem setGuest_memc (s : State) (g : Nat) (r : GuestRec) : (setGuest s g r).memc = s.memc := rfl
@[simp] theorem setGuest_control (s : State) (g : Nat) (r : GuestRec) : (setGuest s g r).control = s.control := rfl
@[simp] theorem setGuest_locket (s : State) (g : Nat) (r : GuestRec) : (setGuest s g r).locket = s.locket := rfl
@[simp] theorem setGuest_flash (s : State) (g : Nat) (r : GuestRec) : (setGuest s g r).flash = s.flash := rfl
@[simp] theorem setGuest_isl (s : State) (g : Nat) (r : GuestRec) : (setGuest s g r).isl = s.isl := rfl
@[simp] theorem setGuest_power (s : State) (g : Nat) (r : GuestRec) : (setGuest s g r).power = s.power := rfl
@[simp] theorem setGuest_boot (s : State) (g : Nat) (r : GuestRec) : (setGuest s g r).boot = s.boot := rfl
@[simp] theorem rd_setGuest (s : State) (g : Nat) (r : GuestRec) (j : Nat) : rd (setGuest s g r) j = rd s j := rfl
@[simp] theorem dget_setGuest (s : State) (g : Nat) (r : GuestRec) (j : Nat) : dget (setGuest s g r) j = dget s j := rfl
@[simp] theorem dramByte_setGuest (s : State) (g : Nat) (r : GuestRec) (j : Nat) : dramByte (setGuest s g r) j = dramByte s j := rfl
@[simp] theorem memRd_setGuest (s : State) (g : Nat) (r : GuestRec) (j : Nat) : memRd (setGuest s g r) j = memRd s j := rfl

/-! ### setCharm -/

@[simp] theorem setCharm_time (s : State) (c : Nat) (v : Nat) : (setCharm s c v).time = s.time := rfl
@[simp] theorem setCharm_free (s : State) (c : Nat) (v : Nat) : (setCharm s c v).free = s.free := rfl
@[simp] theorem setCharm_pending (s : State) (c : Nat) (v : Nat) : (setCharm s c v).pending = s.pending := rfl
@[simp] theorem setCharm_out (s : State) (c : Nat) (v : Nat) : (setCharm s c v).out = s.out := rfl
@[simp] theorem setCharm_fwQueue (s : State) (c : Nat) (v : Nat) : (setCharm s c v).fwQueue = s.fwQueue := rfl
@[simp] theorem setCharm_od (s : State) (c : Nat) (v : Nat) : (setCharm s c v).od = s.od := rfl
@[simp] theorem setCharm_dom (s : State) (c : Nat) (v : Nat) : (setCharm s c v).dom = s.dom := rfl
@[simp] theorem setCharm_mem (s : State) (c : Nat) (v : Nat) : (setCharm s c v).mem = s.mem := rfl
@[simp] theorem setCharm_clasp (s : State) (c : Nat) (v : Nat) : (setCharm s c v).clasp = s.clasp := rfl
@[simp] theorem setCharm_dict (s : State) (c : Nat) (v : Nat) : (setCharm s c v).dict = s.dict := rfl
@[simp] theorem setCharm_field (s : State) (c : Nat) (v : Nat) : (setCharm s c v).field = s.field := rfl
@[simp] theorem setCharm_raster (s : State) (c : Nat) (v : Nat) : (setCharm s c v).raster = s.raster := rfl
@[simp] theorem setCharm_compose (s : State) (c : Nat) (v : Nat) : (setCharm s c v).compose = s.compose := rfl
@[simp] theorem setCharm_heads (s : State) (c : Nat) (v : Nat) : (setCharm s c v).heads = s.heads := rfl
@[simp] theorem setCharm_ports (s : State) (c : Nat) (v : Nat) : (setCharm s c v).ports = s.ports := rfl
@[simp] theorem setCharm_cameo (s : State) (c : Nat) (v : Nat) : (setCharm s c v).cameo = s.cameo := rfl
@[simp] theorem setCharm_touch (s : State) (c : Nat) (v : Nat) : (setCharm s c v).touch = s.touch := rfl
@[simp] theorem setCharm_hap (s : State) (c : Nat) (v : Nat) : (setCharm s c v).hap = s.hap := rfl
@[simp] theorem setCharm_audio (s : State) (c : Nat) (v : Nat) : (setCharm s c v).audio = s.audio := rfl
@[simp] theorem setCharm_memc (s : State) (c : Nat) (v : Nat) : (setCharm s c v).memc = s.memc := rfl
@[simp] theorem setCharm_control (s : State) (c : Nat) (v : Nat) : (setCharm s c v).control = s.control := rfl
@[simp] theorem setCharm_locket (s : State) (c : Nat) (v : Nat) : (setCharm s c v).locket = s.locket := rfl
@[simp] theorem setCharm_flash (s : State) (c : Nat) (v : Nat) : (setCharm s c v).flash = s.flash := rfl
@[simp] theorem setCharm_isl (s : State) (c : Nat) (v : Nat) : (setCharm s c v).isl = s.isl := rfl
@[simp] theorem setCharm_power (s : State) (c : Nat) (v : Nat) : (setCharm s c v).power = s.power := rfl
@[simp] theorem setCharm_boot (s : State) (c : Nat) (v : Nat) : (setCharm s c v).boot = s.boot := rfl
@[simp] theorem rd_setCharm (s : State) (c : Nat) (v : Nat) (j : Nat) : rd (setCharm s c v) j = rd s j := rfl
@[simp] theorem dget_setCharm (s : State) (c : Nat) (v : Nat) (j : Nat) : dget (setCharm s c v) j = dget s j := rfl
@[simp] theorem dramByte_setCharm (s : State) (c : Nat) (v : Nat) (j : Nat) : dramByte (setCharm s c v) j = dramByte s j := rfl
@[simp] theorem memRd_setCharm (s : State) (c : Nat) (v : Nat) (j : Nat) : memRd (setCharm s c v) j = memRd s j := rfl

/-! ### setPort -/

@[simp] theorem setPort_time (s : State) (f : Nat) (p : PortRec) : (setPort s f p).time = s.time := rfl
@[simp] theorem setPort_free (s : State) (f : Nat) (p : PortRec) : (setPort s f p).free = s.free := rfl
@[simp] theorem setPort_pending (s : State) (f : Nat) (p : PortRec) : (setPort s f p).pending = s.pending := rfl
@[simp] theorem setPort_out (s : State) (f : Nat) (p : PortRec) : (setPort s f p).out = s.out := rfl
@[simp] theorem setPort_fwQueue (s : State) (f : Nat) (p : PortRec) : (setPort s f p).fwQueue = s.fwQueue := rfl
@[simp] theorem setPort_od (s : State) (f : Nat) (p : PortRec) : (setPort s f p).od = s.od := rfl
@[simp] theorem setPort_dom (s : State) (f : Nat) (p : PortRec) : (setPort s f p).dom = s.dom := rfl
@[simp] theorem setPort_mem (s : State) (f : Nat) (p : PortRec) : (setPort s f p).mem = s.mem := rfl
@[simp] theorem setPort_ten (s : State) (f : Nat) (p : PortRec) : (setPort s f p).ten = s.ten := rfl
@[simp] theorem setPort_dict (s : State) (f : Nat) (p : PortRec) : (setPort s f p).dict = s.dict := rfl
@[simp] theorem setPort_field (s : State) (f : Nat) (p : PortRec) : (setPort s f p).field = s.field := rfl
@[simp] theorem setPort_raster (s : State) (f : Nat) (p : PortRec) : (setPort s f p).raster = s.raster := rfl
@[simp] theorem setPort_compose (s : State) (f : Nat) (p : PortRec) : (setPort s f p).compose = s.compose := rfl
@[simp] theorem setPort_heads (s : State) (f : Nat) (p : PortRec) : (setPort s f p).heads = s.heads := rfl
@[simp] theorem setPort_ports (s : State) (f : Nat) (p : PortRec) : (setPort s f p).ports = s.ports := rfl
@[simp] theorem setPort_cameo (s : State) (f : Nat) (p : PortRec) : (setPort s f p).cameo = s.cameo := rfl
@[simp] theorem setPort_touch (s : State) (f : Nat) (p : PortRec) : (setPort s f p).touch = s.touch := rfl
@[simp] theorem setPort_hap (s : State) (f : Nat) (p : PortRec) : (setPort s f p).hap = s.hap := rfl
@[simp] theorem setPort_audio (s : State) (f : Nat) (p : PortRec) : (setPort s f p).audio = s.audio := rfl
@[simp] theorem setPort_memc (s : State) (f : Nat) (p : PortRec) : (setPort s f p).memc = s.memc := rfl
@[simp] theorem setPort_control (s : State) (f : Nat) (p : PortRec) : (setPort s f p).control = s.control := rfl
@[simp] theorem setPort_locket (s : State) (f : Nat) (p : PortRec) : (setPort s f p).locket = s.locket := rfl
@[simp] theorem setPort_flash (s : State) (f : Nat) (p : PortRec) : (setPort s f p).flash = s.flash := rfl
@[simp] theorem setPort_isl (s : State) (f : Nat) (p : PortRec) : (setPort s f p).isl = s.isl := rfl
@[simp] theorem setPort_power (s : State) (f : Nat) (p : PortRec) : (setPort s f p).power = s.power := rfl
@[simp] theorem setPort_boot (s : State) (f : Nat) (p : PortRec) : (setPort s f p).boot = s.boot := rfl
@[simp] theorem rd_setPort (s : State) (f : Nat) (p : PortRec) (j : Nat) : rd (setPort s f p) j = rd s j := rfl
@[simp] theorem dget_setPort (s : State) (f : Nat) (p : PortRec) (j : Nat) : dget (setPort s f p) j = dget s j := rfl
@[simp] theorem dramByte_setPort (s : State) (f : Nat) (p : PortRec) (j : Nat) : dramByte (setPort s f p) j = dramByte s j := rfl
@[simp] theorem memRd_setPort (s : State) (f : Nat) (p : PortRec) (j : Nat) : memRd (setPort s f p) j = memRd s j := rfl

/-! ### setClasp -/

@[simp] theorem setClasp_time (s : State) (c : Nat) (k : Clasp) : (setClasp s c k).time = s.time := rfl
@[simp] theorem setClasp_free (s : State) (c : Nat) (k : Clasp) : (setClasp s c k).free = s.free := rfl
@[simp] theorem setClasp_pending (s : State) (c : Nat) (k : Clasp) : (setClasp s c k).pending = s.pending := rfl
@[simp] theorem setClasp_out (s : State) (c : Nat) (k : Clasp) : (setClasp s c k).out = s.out := rfl
@[simp] theorem setClasp_fwQueue (s : State) (c : Nat) (k : Clasp) : (setClasp s c k).fwQueue = s.fwQueue := rfl
@[simp] theorem setClasp_od (s : State) (c : Nat) (k : Clasp) : (setClasp s c k).od = s.od := rfl
@[simp] theorem setClasp_dom (s : State) (c : Nat) (k : Clasp) : (setClasp s c k).dom = s.dom := rfl
@[simp] theorem setClasp_mem (s : State) (c : Nat) (k : Clasp) : (setClasp s c k).mem = s.mem := rfl
@[simp] theorem setClasp_ten (s : State) (c : Nat) (k : Clasp) : (setClasp s c k).ten = s.ten := rfl
@[simp] theorem setClasp_dict (s : State) (c : Nat) (k : Clasp) : (setClasp s c k).dict = s.dict := rfl
@[simp] theorem setClasp_field (s : State) (c : Nat) (k : Clasp) : (setClasp s c k).field = s.field := rfl
@[simp] theorem setClasp_raster (s : State) (c : Nat) (k : Clasp) : (setClasp s c k).raster = s.raster := rfl
@[simp] theorem setClasp_compose (s : State) (c : Nat) (k : Clasp) : (setClasp s c k).compose = s.compose := rfl
@[simp] theorem setClasp_heads (s : State) (c : Nat) (k : Clasp) : (setClasp s c k).heads = s.heads := rfl
@[simp] theorem setClasp_ports (s : State) (c : Nat) (k : Clasp) : (setClasp s c k).ports = s.ports := rfl
@[simp] theorem setClasp_cameo (s : State) (c : Nat) (k : Clasp) : (setClasp s c k).cameo = s.cameo := rfl
@[simp] theorem setClasp_touch (s : State) (c : Nat) (k : Clasp) : (setClasp s c k).touch = s.touch := rfl
@[simp] theorem setClasp_hap (s : State) (c : Nat) (k : Clasp) : (setClasp s c k).hap = s.hap := rfl
@[simp] theorem setClasp_audio (s : State) (c : Nat) (k : Clasp) : (setClasp s c k).audio = s.audio := rfl
@[simp] theorem setClasp_memc (s : State) (c : Nat) (k : Clasp) : (setClasp s c k).memc = s.memc := rfl
@[simp] theorem setClasp_control (s : State) (c : Nat) (k : Clasp) : (setClasp s c k).control = s.control := rfl
@[simp] theorem setClasp_locket (s : State) (c : Nat) (k : Clasp) : (setClasp s c k).locket = s.locket := rfl
@[simp] theorem setClasp_flash (s : State) (c : Nat) (k : Clasp) : (setClasp s c k).flash = s.flash := rfl
@[simp] theorem setClasp_isl (s : State) (c : Nat) (k : Clasp) : (setClasp s c k).isl = s.isl := rfl
@[simp] theorem setClasp_power (s : State) (c : Nat) (k : Clasp) : (setClasp s c k).power = s.power := rfl
@[simp] theorem setClasp_boot (s : State) (c : Nat) (k : Clasp) : (setClasp s c k).boot = s.boot := rfl
@[simp] theorem rd_setClasp (s : State) (c : Nat) (k : Clasp) (j : Nat) : rd (setClasp s c k) j = rd s j := rfl
@[simp] theorem dget_setClasp (s : State) (c : Nat) (k : Clasp) (j : Nat) : dget (setClasp s c k) j = dget s j := rfl
@[simp] theorem dramByte_setClasp (s : State) (c : Nat) (k : Clasp) (j : Nat) : dramByte (setClasp s c k) j = dramByte s j := rfl
@[simp] theorem memRd_setClasp (s : State) (c : Nat) (k : Clasp) (j : Nat) : memRd (setClasp s c k) j = memRd s j := rfl

/-! ### setIcl -/

@[simp] theorem setIcl_time (s : State) (n : Nat) (k : Clasp) : (setIcl s n k).time = s.time := rfl
@[simp] theorem setIcl_free (s : State) (n : Nat) (k : Clasp) : (setIcl s n k).free = s.free := rfl
@[simp] theorem setIcl_pending (s : State) (n : Nat) (k : Clasp) : (setIcl s n k).pending = s.pending := rfl
@[simp] theorem setIcl_out (s : State) (n : Nat) (k : Clasp) : (setIcl s n k).out = s.out := rfl
@[simp] theorem setIcl_fwQueue (s : State) (n : Nat) (k : Clasp) : (setIcl s n k).fwQueue = s.fwQueue := rfl
@[simp] theorem setIcl_od (s : State) (n : Nat) (k : Clasp) : (setIcl s n k).od = s.od := rfl
@[simp] theorem setIcl_dom (s : State) (n : Nat) (k : Clasp) : (setIcl s n k).dom = s.dom := rfl
@[simp] theorem setIcl_mem (s : State) (n : Nat) (k : Clasp) : (setIcl s n k).mem = s.mem := rfl
@[simp] theorem setIcl_ten (s : State) (n : Nat) (k : Clasp) : (setIcl s n k).ten = s.ten := rfl
@[simp] theorem setIcl_dict (s : State) (n : Nat) (k : Clasp) : (setIcl s n k).dict = s.dict := rfl
@[simp] theorem setIcl_field (s : State) (n : Nat) (k : Clasp) : (setIcl s n k).field = s.field := rfl
@[simp] theorem setIcl_raster (s : State) (n : Nat) (k : Clasp) : (setIcl s n k).raster = s.raster := rfl
@[simp] theorem setIcl_compose (s : State) (n : Nat) (k : Clasp) : (setIcl s n k).compose = s.compose := rfl
@[simp] theorem setIcl_heads (s : State) (n : Nat) (k : Clasp) : (setIcl s n k).heads = s.heads := rfl
@[simp] theorem setIcl_ports (s : State) (n : Nat) (k : Clasp) : (setIcl s n k).ports = s.ports := rfl
@[simp] theorem setIcl_cameo (s : State) (n : Nat) (k : Clasp) : (setIcl s n k).cameo = s.cameo := rfl
@[simp] theorem setIcl_touch (s : State) (n : Nat) (k : Clasp) : (setIcl s n k).touch = s.touch := rfl
@[simp] theorem setIcl_hap (s : State) (n : Nat) (k : Clasp) : (setIcl s n k).hap = s.hap := rfl
@[simp] theorem setIcl_audio (s : State) (n : Nat) (k : Clasp) : (setIcl s n k).audio = s.audio := rfl
@[simp] theorem setIcl_memc (s : State) (n : Nat) (k : Clasp) : (setIcl s n k).memc = s.memc := rfl
@[simp] theorem setIcl_control (s : State) (n : Nat) (k : Clasp) : (setIcl s n k).control = s.control := rfl
@[simp] theorem setIcl_locket (s : State) (n : Nat) (k : Clasp) : (setIcl s n k).locket = s.locket := rfl
@[simp] theorem setIcl_flash (s : State) (n : Nat) (k : Clasp) : (setIcl s n k).flash = s.flash := rfl
@[simp] theorem setIcl_isl (s : State) (n : Nat) (k : Clasp) : (setIcl s n k).isl = s.isl := rfl
@[simp] theorem setIcl_power (s : State) (n : Nat) (k : Clasp) : (setIcl s n k).power = s.power := rfl
@[simp] theorem setIcl_boot (s : State) (n : Nat) (k : Clasp) : (setIcl s n k).boot = s.boot := rfl
@[simp] theorem rd_setIcl (s : State) (n : Nat) (k : Clasp) (j : Nat) : rd (setIcl s n k) j = rd s j := rfl
@[simp] theorem dget_setIcl (s : State) (n : Nat) (k : Clasp) (j : Nat) : dget (setIcl s n k) j = dget s j := rfl
@[simp] theorem dramByte_setIcl (s : State) (n : Nat) (k : Clasp) (j : Nat) : dramByte (setIcl s n k) j = dramByte s j := rfl
@[simp] theorem memRd_setIcl (s : State) (n : Nat) (k : Clasp) (j : Nat) : memRd (setIcl s n k) j = memRd s j := rfl

/-! ### setRctx -/

@[simp] theorem setRctx_time (s : State) (key : Nat) (x : Option RCtx) : (setRctx s key x).time = s.time := rfl
@[simp] theorem setRctx_free (s : State) (key : Nat) (x : Option RCtx) : (setRctx s key x).free = s.free := rfl
@[simp] theorem setRctx_pending (s : State) (key : Nat) (x : Option RCtx) : (setRctx s key x).pending = s.pending := rfl
@[simp] theorem setRctx_out (s : State) (key : Nat) (x : Option RCtx) : (setRctx s key x).out = s.out := rfl
@[simp] theorem setRctx_fwQueue (s : State) (key : Nat) (x : Option RCtx) : (setRctx s key x).fwQueue = s.fwQueue := rfl
@[simp] theorem setRctx_od (s : State) (key : Nat) (x : Option RCtx) : (setRctx s key x).od = s.od := rfl
@[simp] theorem setRctx_dom (s : State) (key : Nat) (x : Option RCtx) : (setRctx s key x).dom = s.dom := rfl
@[simp] theorem setRctx_mem (s : State) (key : Nat) (x : Option RCtx) : (setRctx s key x).mem = s.mem := rfl
@[simp] theorem setRctx_ten (s : State) (key : Nat) (x : Option RCtx) : (setRctx s key x).ten = s.ten := rfl
@[simp] theorem setRctx_clasp (s : State) (key : Nat) (x : Option RCtx) : (setRctx s key x).clasp = s.clasp := rfl
@[simp] theorem setRctx_dict (s : State) (key : Nat) (x : Option RCtx) : (setRctx s key x).dict = s.dict := rfl
@[simp] theorem setRctx_field (s : State) (key : Nat) (x : Option RCtx) : (setRctx s key x).field = s.field := rfl
@[simp] theorem setRctx_compose (s : State) (key : Nat) (x : Option RCtx) : (setRctx s key x).compose = s.compose := rfl
@[simp] theorem setRctx_heads (s : State) (key : Nat) (x : Option RCtx) : (setRctx s key x).heads = s.heads := rfl
@[simp] theorem setRctx_ports (s : State) (key : Nat) (x : Option RCtx) : (setRctx s key x).ports = s.ports := rfl
@[simp] theorem setRctx_cameo (s : State) (key : Nat) (x : Option RCtx) : (setRctx s key x).cameo = s.cameo := rfl
@[simp] theorem setRctx_touch (s : State) (key : Nat) (x : Option RCtx) : (setRctx s key x).touch = s.touch := rfl
@[simp] theorem setRctx_hap (s : State) (key : Nat) (x : Option RCtx) : (setRctx s key x).hap = s.hap := rfl
@[simp] theorem setRctx_audio (s : State) (key : Nat) (x : Option RCtx) : (setRctx s key x).audio = s.audio := rfl
@[simp] theorem setRctx_memc (s : State) (key : Nat) (x : Option RCtx) : (setRctx s key x).memc = s.memc := rfl
@[simp] theorem setRctx_control (s : State) (key : Nat) (x : Option RCtx) : (setRctx s key x).control = s.control := rfl
@[simp] theorem setRctx_locket (s : State) (key : Nat) (x : Option RCtx) : (setRctx s key x).locket = s.locket := rfl
@[simp] theorem setRctx_flash (s : State) (key : Nat) (x : Option RCtx) : (setRctx s key x).flash = s.flash := rfl
@[simp] theorem setRctx_isl (s : State) (key : Nat) (x : Option RCtx) : (setRctx s key x).isl = s.isl := rfl
@[simp] theorem setRctx_power (s : State) (key : Nat) (x : Option RCtx) : (setRctx s key x).power = s.power := rfl
@[simp] theorem setRctx_boot (s : State) (key : Nat) (x : Option RCtx) : (setRctx s key x).boot = s.boot := rfl
@[simp] theorem rd_setRctx (s : State) (key : Nat) (x : Option RCtx) (j : Nat) : rd (setRctx s key x) j = rd s j := rfl
@[simp] theorem dget_setRctx (s : State) (key : Nat) (x : Option RCtx) (j : Nat) : dget (setRctx s key x) j = dget s j := rfl
@[simp] theorem dramByte_setRctx (s : State) (key : Nat) (x : Option RCtx) (j : Nat) : dramByte (setRctx s key x) j = dramByte s j := rfl
@[simp] theorem memRd_setRctx (s : State) (key : Nat) (x : Option RCtx) (j : Nat) : memRd (setRctx s key x) j = memRd s j := rfl

/-! ### setCctx -/

@[simp] theorem setCctx_time (s : State) (c : Nat) (x : Option CCtx) : (setCctx s c x).time = s.time := rfl
@[simp] theorem setCctx_free (s : State) (c : Nat) (x : Option CCtx) : (setCctx s c x).free = s.free := rfl
@[simp] theorem setCctx_pending (s : State) (c : Nat) (x : Option CCtx) : (setCctx s c x).pending = s.pending := rfl
@[simp] theorem setCctx_out (s : State) (c : Nat) (x : Option CCtx) : (setCctx s c x).out = s.out := rfl
@[simp] theorem setCctx_fwQueue (s : State) (c : Nat) (x : Option CCtx) : (setCctx s c x).fwQueue = s.fwQueue := rfl
@[simp] theorem setCctx_od (s : State) (c : Nat) (x : Option CCtx) : (setCctx s c x).od = s.od := rfl
@[simp] theorem setCctx_dom (s : State) (c : Nat) (x : Option CCtx) : (setCctx s c x).dom = s.dom := rfl
@[simp] theorem setCctx_mem (s : State) (c : Nat) (x : Option CCtx) : (setCctx s c x).mem = s.mem := rfl
@[simp] theorem setCctx_ten (s : State) (c : Nat) (x : Option CCtx) : (setCctx s c x).ten = s.ten := rfl
@[simp] theorem setCctx_clasp (s : State) (c : Nat) (x : Option CCtx) : (setCctx s c x).clasp = s.clasp := rfl
@[simp] theorem setCctx_dict (s : State) (c : Nat) (x : Option CCtx) : (setCctx s c x).dict = s.dict := rfl
@[simp] theorem setCctx_field (s : State) (c : Nat) (x : Option CCtx) : (setCctx s c x).field = s.field := rfl
@[simp] theorem setCctx_compose (s : State) (c : Nat) (x : Option CCtx) : (setCctx s c x).compose = s.compose := rfl
@[simp] theorem setCctx_heads (s : State) (c : Nat) (x : Option CCtx) : (setCctx s c x).heads = s.heads := rfl
@[simp] theorem setCctx_ports (s : State) (c : Nat) (x : Option CCtx) : (setCctx s c x).ports = s.ports := rfl
@[simp] theorem setCctx_cameo (s : State) (c : Nat) (x : Option CCtx) : (setCctx s c x).cameo = s.cameo := rfl
@[simp] theorem setCctx_touch (s : State) (c : Nat) (x : Option CCtx) : (setCctx s c x).touch = s.touch := rfl
@[simp] theorem setCctx_hap (s : State) (c : Nat) (x : Option CCtx) : (setCctx s c x).hap = s.hap := rfl
@[simp] theorem setCctx_audio (s : State) (c : Nat) (x : Option CCtx) : (setCctx s c x).audio = s.audio := rfl
@[simp] theorem setCctx_memc (s : State) (c : Nat) (x : Option CCtx) : (setCctx s c x).memc = s.memc := rfl
@[simp] theorem setCctx_control (s : State) (c : Nat) (x : Option CCtx) : (setCctx s c x).control = s.control := rfl
@[simp] theorem setCctx_locket (s : State) (c : Nat) (x : Option CCtx) : (setCctx s c x).locket = s.locket := rfl
@[simp] theorem setCctx_flash (s : State) (c : Nat) (x : Option CCtx) : (setCctx s c x).flash = s.flash := rfl
@[simp] theorem setCctx_isl (s : State) (c : Nat) (x : Option CCtx) : (setCctx s c x).isl = s.isl := rfl
@[simp] theorem setCctx_power (s : State) (c : Nat) (x : Option CCtx) : (setCctx s c x).power = s.power := rfl
@[simp] theorem setCctx_boot (s : State) (c : Nat) (x : Option CCtx) : (setCctx s c x).boot = s.boot := rfl
@[simp] theorem rd_setCctx (s : State) (c : Nat) (x : Option CCtx) (j : Nat) : rd (setCctx s c x) j = rd s j := rfl
@[simp] theorem dget_setCctx (s : State) (c : Nat) (x : Option CCtx) (j : Nat) : dget (setCctx s c x) j = dget s j := rfl
@[simp] theorem dramByte_setCctx (s : State) (c : Nat) (x : Option CCtx) (j : Nat) : dramByte (setCctx s c x) j = dramByte s j := rfl
@[simp] theorem memRd_setCctx (s : State) (c : Nat) (x : Option CCtx) (j : Nat) : memRd (setCctx s c x) j = memRd s j := rfl

/-! ### setCore -/

@[simp] theorem setCore_time (s : State) (n : Nat) (x : CoreRec) : (setCore s n x).time = s.time := rfl
@[simp] theorem setCore_free (s : State) (n : Nat) (x : CoreRec) : (setCore s n x).free = s.free := rfl
@[simp] theorem setCore_pending (s : State) (n : Nat) (x : CoreRec) : (setCore s n x).pending = s.pending := rfl
@[simp] theorem setCore_out (s : State) (n : Nat) (x : CoreRec) : (setCore s n x).out = s.out := rfl
@[simp] theorem setCore_fwQueue (s : State) (n : Nat) (x : CoreRec) : (setCore s n x).fwQueue = s.fwQueue := rfl
@[simp] theorem setCore_od (s : State) (n : Nat) (x : CoreRec) : (setCore s n x).od = s.od := rfl
@[simp] theorem setCore_dom (s : State) (n : Nat) (x : CoreRec) : (setCore s n x).dom = s.dom := rfl
@[simp] theorem setCore_mem (s : State) (n : Nat) (x : CoreRec) : (setCore s n x).mem = s.mem := rfl
@[simp] theorem setCore_ten (s : State) (n : Nat) (x : CoreRec) : (setCore s n x).ten = s.ten := rfl
@[simp] theorem setCore_clasp (s : State) (n : Nat) (x : CoreRec) : (setCore s n x).clasp = s.clasp := rfl
@[simp] theorem setCore_dict (s : State) (n : Nat) (x : CoreRec) : (setCore s n x).dict = s.dict := rfl
@[simp] theorem setCore_field (s : State) (n : Nat) (x : CoreRec) : (setCore s n x).field = s.field := rfl
@[simp] theorem setCore_compose (s : State) (n : Nat) (x : CoreRec) : (setCore s n x).compose = s.compose := rfl
@[simp] theorem setCore_heads (s : State) (n : Nat) (x : CoreRec) : (setCore s n x).heads = s.heads := rfl
@[simp] theorem setCore_ports (s : State) (n : Nat) (x : CoreRec) : (setCore s n x).ports = s.ports := rfl
@[simp] theorem setCore_cameo (s : State) (n : Nat) (x : CoreRec) : (setCore s n x).cameo = s.cameo := rfl
@[simp] theorem setCore_touch (s : State) (n : Nat) (x : CoreRec) : (setCore s n x).touch = s.touch := rfl
@[simp] theorem setCore_hap (s : State) (n : Nat) (x : CoreRec) : (setCore s n x).hap = s.hap := rfl
@[simp] theorem setCore_audio (s : State) (n : Nat) (x : CoreRec) : (setCore s n x).audio = s.audio := rfl
@[simp] theorem setCore_memc (s : State) (n : Nat) (x : CoreRec) : (setCore s n x).memc = s.memc := rfl
@[simp] theorem setCore_control (s : State) (n : Nat) (x : CoreRec) : (setCore s n x).control = s.control := rfl
@[simp] theorem setCore_locket (s : State) (n : Nat) (x : CoreRec) : (setCore s n x).locket = s.locket := rfl
@[simp] theorem setCore_flash (s : State) (n : Nat) (x : CoreRec) : (setCore s n x).flash = s.flash := rfl
@[simp] theorem setCore_isl (s : State) (n : Nat) (x : CoreRec) : (setCore s n x).isl = s.isl := rfl
@[simp] theorem setCore_power (s : State) (n : Nat) (x : CoreRec) : (setCore s n x).power = s.power := rfl
@[simp] theorem setCore_boot (s : State) (n : Nat) (x : CoreRec) : (setCore s n x).boot = s.boot := rfl
@[simp] theorem rd_setCore (s : State) (n : Nat) (x : CoreRec) (j : Nat) : rd (setCore s n x) j = rd s j := rfl
@[simp] theorem dget_setCore (s : State) (n : Nat) (x : CoreRec) (j : Nat) : dget (setCore s n x) j = dget s j := rfl
@[simp] theorem dramByte_setCore (s : State) (n : Nat) (x : CoreRec) (j : Nat) : dramByte (setCore s n x) j = dramByte s j := rfl
@[simp] theorem memRd_setCore (s : State) (n : Nat) (x : CoreRec) (j : Nat) : memRd (setCore s n x) j = memRd s j := rfl

/-! ### setFacet -/

@[simp] theorem setFacet_time (s : State) (h : Nat) (f : Nat) (x : FacetRec) : (setFacet s h f x).time = s.time := rfl
@[simp] theorem setFacet_free (s : State) (h : Nat) (f : Nat) (x : FacetRec) : (setFacet s h f x).free = s.free := rfl
@[simp] theorem setFacet_pending (s : State) (h : Nat) (f : Nat) (x : FacetRec) : (setFacet s h f x).pending = s.pending := rfl
@[simp] theorem setFacet_out (s : State) (h : Nat) (f : Nat) (x : FacetRec) : (setFacet s h f x).out = s.out := rfl
@[simp] theorem setFacet_fwQueue (s : State) (h : Nat) (f : Nat) (x : FacetRec) : (setFacet s h f x).fwQueue = s.fwQueue := rfl
@[simp] theorem setFacet_od (s : State) (h : Nat) (f : Nat) (x : FacetRec) : (setFacet s h f x).od = s.od := rfl
@[simp] theorem setFacet_dom (s : State) (h : Nat) (f : Nat) (x : FacetRec) : (setFacet s h f x).dom = s.dom := rfl
@[simp] theorem setFacet_mem (s : State) (h : Nat) (f : Nat) (x : FacetRec) : (setFacet s h f x).mem = s.mem := rfl
@[simp] theorem setFacet_ten (s : State) (h : Nat) (f : Nat) (x : FacetRec) : (setFacet s h f x).ten = s.ten := rfl
@[simp] theorem setFacet_clasp (s : State) (h : Nat) (f : Nat) (x : FacetRec) : (setFacet s h f x).clasp = s.clasp := rfl
@[simp] theorem setFacet_dict (s : State) (h : Nat) (f : Nat) (x : FacetRec) : (setFacet s h f x).dict = s.dict := rfl
@[simp] theorem setFacet_field (s : State) (h : Nat) (f : Nat) (x : FacetRec) : (setFacet s h f x).field = s.field := rfl
@[simp] theorem setFacet_raster (s : State) (h : Nat) (f : Nat) (x : FacetRec) : (setFacet s h f x).raster = s.raster := rfl
@[simp] theorem setFacet_heads (s : State) (h : Nat) (f : Nat) (x : FacetRec) : (setFacet s h f x).heads = s.heads := rfl
@[simp] theorem setFacet_ports (s : State) (h : Nat) (f : Nat) (x : FacetRec) : (setFacet s h f x).ports = s.ports := rfl
@[simp] theorem setFacet_cameo (s : State) (h : Nat) (f : Nat) (x : FacetRec) : (setFacet s h f x).cameo = s.cameo := rfl
@[simp] theorem setFacet_touch (s : State) (h : Nat) (f : Nat) (x : FacetRec) : (setFacet s h f x).touch = s.touch := rfl
@[simp] theorem setFacet_hap (s : State) (h : Nat) (f : Nat) (x : FacetRec) : (setFacet s h f x).hap = s.hap := rfl
@[simp] theorem setFacet_audio (s : State) (h : Nat) (f : Nat) (x : FacetRec) : (setFacet s h f x).audio = s.audio := rfl
@[simp] theorem setFacet_memc (s : State) (h : Nat) (f : Nat) (x : FacetRec) : (setFacet s h f x).memc = s.memc := rfl
@[simp] theorem setFacet_control (s : State) (h : Nat) (f : Nat) (x : FacetRec) : (setFacet s h f x).control = s.control := rfl
@[simp] theorem setFacet_locket (s : State) (h : Nat) (f : Nat) (x : FacetRec) : (setFacet s h f x).locket = s.locket := rfl
@[simp] theorem setFacet_flash (s : State) (h : Nat) (f : Nat) (x : FacetRec) : (setFacet s h f x).flash = s.flash := rfl
@[simp] theorem setFacet_isl (s : State) (h : Nat) (f : Nat) (x : FacetRec) : (setFacet s h f x).isl = s.isl := rfl
@[simp] theorem setFacet_power (s : State) (h : Nat) (f : Nat) (x : FacetRec) : (setFacet s h f x).power = s.power := rfl
@[simp] theorem setFacet_boot (s : State) (h : Nat) (f : Nat) (x : FacetRec) : (setFacet s h f x).boot = s.boot := rfl
@[simp] theorem rd_setFacet (s : State) (h : Nat) (f : Nat) (x : FacetRec) (j : Nat) : rd (setFacet s h f x) j = rd s j := rfl
@[simp] theorem dget_setFacet (s : State) (h : Nat) (f : Nat) (x : FacetRec) (j : Nat) : dget (setFacet s h f x) j = dget s j := rfl
@[simp] theorem dramByte_setFacet (s : State) (h : Nat) (f : Nat) (x : FacetRec) (j : Nat) : dramByte (setFacet s h f x) j = dramByte s j := rfl
@[simp] theorem memRd_setFacet (s : State) (h : Nat) (f : Nat) (x : FacetRec) (j : Nat) : memRd (setFacet s h f x) j = memRd s j := rfl

/-! ### setHead -/

@[simp] theorem setHead_time (s : State) (h : Nat) (x : HeadRec) : (setHead s h x).time = s.time := rfl
@[simp] theorem setHead_free (s : State) (h : Nat) (x : HeadRec) : (setHead s h x).free = s.free := rfl
@[simp] theorem setHead_pending (s : State) (h : Nat) (x : HeadRec) : (setHead s h x).pending = s.pending := rfl
@[simp] theorem setHead_out (s : State) (h : Nat) (x : HeadRec) : (setHead s h x).out = s.out := rfl
@[simp] theorem setHead_fwQueue (s : State) (h : Nat) (x : HeadRec) : (setHead s h x).fwQueue = s.fwQueue := rfl
@[simp] theorem setHead_od (s : State) (h : Nat) (x : HeadRec) : (setHead s h x).od = s.od := rfl
@[simp] theorem setHead_dom (s : State) (h : Nat) (x : HeadRec) : (setHead s h x).dom = s.dom := rfl
@[simp] theorem setHead_mem (s : State) (h : Nat) (x : HeadRec) : (setHead s h x).mem = s.mem := rfl
@[simp] theorem setHead_ten (s : State) (h : Nat) (x : HeadRec) : (setHead s h x).ten = s.ten := rfl
@[simp] theorem setHead_clasp (s : State) (h : Nat) (x : HeadRec) : (setHead s h x).clasp = s.clasp := rfl
@[simp] theorem setHead_dict (s : State) (h : Nat) (x : HeadRec) : (setHead s h x).dict = s.dict := rfl
@[simp] theorem setHead_field (s : State) (h : Nat) (x : HeadRec) : (setHead s h x).field = s.field := rfl
@[simp] theorem setHead_raster (s : State) (h : Nat) (x : HeadRec) : (setHead s h x).raster = s.raster := rfl
@[simp] theorem setHead_compose (s : State) (h : Nat) (x : HeadRec) : (setHead s h x).compose = s.compose := rfl
@[simp] theorem setHead_ports (s : State) (h : Nat) (x : HeadRec) : (setHead s h x).ports = s.ports := rfl
@[simp] theorem setHead_cameo (s : State) (h : Nat) (x : HeadRec) : (setHead s h x).cameo = s.cameo := rfl
@[simp] theorem setHead_touch (s : State) (h : Nat) (x : HeadRec) : (setHead s h x).touch = s.touch := rfl
@[simp] theorem setHead_hap (s : State) (h : Nat) (x : HeadRec) : (setHead s h x).hap = s.hap := rfl
@[simp] theorem setHead_audio (s : State) (h : Nat) (x : HeadRec) : (setHead s h x).audio = s.audio := rfl
@[simp] theorem setHead_memc (s : State) (h : Nat) (x : HeadRec) : (setHead s h x).memc = s.memc := rfl
@[simp] theorem setHead_control (s : State) (h : Nat) (x : HeadRec) : (setHead s h x).control = s.control := rfl
@[simp] theorem setHead_locket (s : State) (h : Nat) (x : HeadRec) : (setHead s h x).locket = s.locket := rfl
@[simp] theorem setHead_flash (s : State) (h : Nat) (x : HeadRec) : (setHead s h x).flash = s.flash := rfl
@[simp] theorem setHead_isl (s : State) (h : Nat) (x : HeadRec) : (setHead s h x).isl = s.isl := rfl
@[simp] theorem setHead_power (s : State) (h : Nat) (x : HeadRec) : (setHead s h x).power = s.power := rfl
@[simp] theorem setHead_boot (s : State) (h : Nat) (x : HeadRec) : (setHead s h x).boot = s.boot := rfl
@[simp] theorem rd_setHead (s : State) (h : Nat) (x : HeadRec) (j : Nat) : rd (setHead s h x) j = rd s j := rfl
@[simp] theorem dget_setHead (s : State) (h : Nat) (x : HeadRec) (j : Nat) : dget (setHead s h x) j = dget s j := rfl
@[simp] theorem dramByte_setHead (s : State) (h : Nat) (x : HeadRec) (j : Nat) : dramByte (setHead s h x) j = dramByte s j := rfl
@[simp] theorem memRd_setHead (s : State) (h : Nat) (x : HeadRec) (j : Nat) : memRd (setHead s h x) j = memRd s j := rfl

/-! ### setRx -/

@[simp] theorem setRx_time (s : State) (r : Nat) (x : RxRec) : (setRx s r x).time = s.time := rfl
@[simp] theorem setRx_free (s : State) (r : Nat) (x : RxRec) : (setRx s r x).free = s.free := rfl
@[simp] theorem setRx_pending (s : State) (r : Nat) (x : RxRec) : (setRx s r x).pending = s.pending := rfl
@[simp] theorem setRx_out (s : State) (r : Nat) (x : RxRec) : (setRx s r x).out = s.out := rfl
@[simp] theorem setRx_fwQueue (s : State) (r : Nat) (x : RxRec) : (setRx s r x).fwQueue = s.fwQueue := rfl
@[simp] theorem setRx_od (s : State) (r : Nat) (x : RxRec) : (setRx s r x).od = s.od := rfl
@[simp] theorem setRx_dom (s : State) (r : Nat) (x : RxRec) : (setRx s r x).dom = s.dom := rfl
@[simp] theorem setRx_mem (s : State) (r : Nat) (x : RxRec) : (setRx s r x).mem = s.mem := rfl
@[simp] theorem setRx_ten (s : State) (r : Nat) (x : RxRec) : (setRx s r x).ten = s.ten := rfl
@[simp] theorem setRx_clasp (s : State) (r : Nat) (x : RxRec) : (setRx s r x).clasp = s.clasp := rfl
@[simp] theorem setRx_dict (s : State) (r : Nat) (x : RxRec) : (setRx s r x).dict = s.dict := rfl
@[simp] theorem setRx_field (s : State) (r : Nat) (x : RxRec) : (setRx s r x).field = s.field := rfl
@[simp] theorem setRx_raster (s : State) (r : Nat) (x : RxRec) : (setRx s r x).raster = s.raster := rfl
@[simp] theorem setRx_compose (s : State) (r : Nat) (x : RxRec) : (setRx s r x).compose = s.compose := rfl
@[simp] theorem setRx_heads (s : State) (r : Nat) (x : RxRec) : (setRx s r x).heads = s.heads := rfl
@[simp] theorem setRx_cameo (s : State) (r : Nat) (x : RxRec) : (setRx s r x).cameo = s.cameo := rfl
@[simp] theorem setRx_touch (s : State) (r : Nat) (x : RxRec) : (setRx s r x).touch = s.touch := rfl
@[simp] theorem setRx_hap (s : State) (r : Nat) (x : RxRec) : (setRx s r x).hap = s.hap := rfl
@[simp] theorem setRx_audio (s : State) (r : Nat) (x : RxRec) : (setRx s r x).audio = s.audio := rfl
@[simp] theorem setRx_memc (s : State) (r : Nat) (x : RxRec) : (setRx s r x).memc = s.memc := rfl
@[simp] theorem setRx_control (s : State) (r : Nat) (x : RxRec) : (setRx s r x).control = s.control := rfl
@[simp] theorem setRx_locket (s : State) (r : Nat) (x : RxRec) : (setRx s r x).locket = s.locket := rfl
@[simp] theorem setRx_flash (s : State) (r : Nat) (x : RxRec) : (setRx s r x).flash = s.flash := rfl
@[simp] theorem setRx_isl (s : State) (r : Nat) (x : RxRec) : (setRx s r x).isl = s.isl := rfl
@[simp] theorem setRx_power (s : State) (r : Nat) (x : RxRec) : (setRx s r x).power = s.power := rfl
@[simp] theorem setRx_boot (s : State) (r : Nat) (x : RxRec) : (setRx s r x).boot = s.boot := rfl
@[simp] theorem rd_setRx (s : State) (r : Nat) (x : RxRec) (j : Nat) : rd (setRx s r x) j = rd s j := rfl
@[simp] theorem dget_setRx (s : State) (r : Nat) (x : RxRec) (j : Nat) : dget (setRx s r x) j = dget s j := rfl
@[simp] theorem dramByte_setRx (s : State) (r : Nat) (x : RxRec) (j : Nat) : dramByte (setRx s r x) j = dramByte s j := rfl
@[simp] theorem memRd_setRx (s : State) (r : Nat) (x : RxRec) (j : Nat) : memRd (setRx s r x) j = memRd s j := rfl

/-! ### setGroups -/

@[simp] theorem setGroups_time (s : State) (l : List FlipGroup) : (setGroups s l).time = s.time := rfl
@[simp] theorem setGroups_free (s : State) (l : List FlipGroup) : (setGroups s l).free = s.free := rfl
@[simp] theorem setGroups_pending (s : State) (l : List FlipGroup) : (setGroups s l).pending = s.pending := rfl
@[simp] theorem setGroups_out (s : State) (l : List FlipGroup) : (setGroups s l).out = s.out := rfl
@[simp] theorem setGroups_fwQueue (s : State) (l : List FlipGroup) : (setGroups s l).fwQueue = s.fwQueue := rfl
@[simp] theorem setGroups_od (s : State) (l : List FlipGroup) : (setGroups s l).od = s.od := rfl
@[simp] theorem setGroups_dom (s : State) (l : List FlipGroup) : (setGroups s l).dom = s.dom := rfl
@[simp] theorem setGroups_mem (s : State) (l : List FlipGroup) : (setGroups s l).mem = s.mem := rfl
@[simp] theorem setGroups_ten (s : State) (l : List FlipGroup) : (setGroups s l).ten = s.ten := rfl
@[simp] theorem setGroups_clasp (s : State) (l : List FlipGroup) : (setGroups s l).clasp = s.clasp := rfl
@[simp] theorem setGroups_dict (s : State) (l : List FlipGroup) : (setGroups s l).dict = s.dict := rfl
@[simp] theorem setGroups_field (s : State) (l : List FlipGroup) : (setGroups s l).field = s.field := rfl
@[simp] theorem setGroups_raster (s : State) (l : List FlipGroup) : (setGroups s l).raster = s.raster := rfl
@[simp] theorem setGroups_heads (s : State) (l : List FlipGroup) : (setGroups s l).heads = s.heads := rfl
@[simp] theorem setGroups_ports (s : State) (l : List FlipGroup) : (setGroups s l).ports = s.ports := rfl
@[simp] theorem setGroups_cameo (s : State) (l : List FlipGroup) : (setGroups s l).cameo = s.cameo := rfl
@[simp] theorem setGroups_touch (s : State) (l : List FlipGroup) : (setGroups s l).touch = s.touch := rfl
@[simp] theorem setGroups_hap (s : State) (l : List FlipGroup) : (setGroups s l).hap = s.hap := rfl
@[simp] theorem setGroups_audio (s : State) (l : List FlipGroup) : (setGroups s l).audio = s.audio := rfl
@[simp] theorem setGroups_memc (s : State) (l : List FlipGroup) : (setGroups s l).memc = s.memc := rfl
@[simp] theorem setGroups_control (s : State) (l : List FlipGroup) : (setGroups s l).control = s.control := rfl
@[simp] theorem setGroups_locket (s : State) (l : List FlipGroup) : (setGroups s l).locket = s.locket := rfl
@[simp] theorem setGroups_flash (s : State) (l : List FlipGroup) : (setGroups s l).flash = s.flash := rfl
@[simp] theorem setGroups_isl (s : State) (l : List FlipGroup) : (setGroups s l).isl = s.isl := rfl
@[simp] theorem setGroups_power (s : State) (l : List FlipGroup) : (setGroups s l).power = s.power := rfl
@[simp] theorem setGroups_boot (s : State) (l : List FlipGroup) : (setGroups s l).boot = s.boot := rfl
@[simp] theorem rd_setGroups (s : State) (l : List FlipGroup) (j : Nat) : rd (setGroups s l) j = rd s j := rfl
@[simp] theorem dget_setGroups (s : State) (l : List FlipGroup) (j : Nat) : dget (setGroups s l) j = dget s j := rfl
@[simp] theorem dramByte_setGroups (s : State) (l : List FlipGroup) (j : Nat) : dramByte (setGroups s l) j = dramByte s j := rfl
@[simp] theorem memRd_setGroups (s : State) (l : List FlipGroup) (j : Nat) : memRd (setGroups s l) j = memRd s j := rfl

/-! ### setCameo -/

@[simp] theorem setCameo_time (s : State) (h : Nat) (x : CameoRec) : (setCameo s h x).time = s.time := rfl
@[simp] theorem setCameo_free (s : State) (h : Nat) (x : CameoRec) : (setCameo s h x).free = s.free := rfl
@[simp] theorem setCameo_pending (s : State) (h : Nat) (x : CameoRec) : (setCameo s h x).pending = s.pending := rfl
@[simp] theorem setCameo_out (s : State) (h : Nat) (x : CameoRec) : (setCameo s h x).out = s.out := rfl
@[simp] theorem setCameo_fwQueue (s : State) (h : Nat) (x : CameoRec) : (setCameo s h x).fwQueue = s.fwQueue := rfl
@[simp] theorem setCameo_od (s : State) (h : Nat) (x : CameoRec) : (setCameo s h x).od = s.od := rfl
@[simp] theorem setCameo_dom (s : State) (h : Nat) (x : CameoRec) : (setCameo s h x).dom = s.dom := rfl
@[simp] theorem setCameo_mem (s : State) (h : Nat) (x : CameoRec) : (setCameo s h x).mem = s.mem := rfl
@[simp] theorem setCameo_ten (s : State) (h : Nat) (x : CameoRec) : (setCameo s h x).ten = s.ten := rfl
@[simp] theorem setCameo_clasp (s : State) (h : Nat) (x : CameoRec) : (setCameo s h x).clasp = s.clasp := rfl
@[simp] theorem setCameo_dict (s : State) (h : Nat) (x : CameoRec) : (setCameo s h x).dict = s.dict := rfl
@[simp] theorem setCameo_field (s : State) (h : Nat) (x : CameoRec) : (setCameo s h x).field = s.field := rfl
@[simp] theorem setCameo_raster (s : State) (h : Nat) (x : CameoRec) : (setCameo s h x).raster = s.raster := rfl
@[simp] theorem setCameo_compose (s : State) (h : Nat) (x : CameoRec) : (setCameo s h x).compose = s.compose := rfl
@[simp] theorem setCameo_heads (s : State) (h : Nat) (x : CameoRec) : (setCameo s h x).heads = s.heads := rfl
@[simp] theorem setCameo_ports (s : State) (h : Nat) (x : CameoRec) : (setCameo s h x).ports = s.ports := rfl
@[simp] theorem setCameo_touch (s : State) (h : Nat) (x : CameoRec) : (setCameo s h x).touch = s.touch := rfl
@[simp] theorem setCameo_hap (s : State) (h : Nat) (x : CameoRec) : (setCameo s h x).hap = s.hap := rfl
@[simp] theorem setCameo_audio (s : State) (h : Nat) (x : CameoRec) : (setCameo s h x).audio = s.audio := rfl
@[simp] theorem setCameo_memc (s : State) (h : Nat) (x : CameoRec) : (setCameo s h x).memc = s.memc := rfl
@[simp] theorem setCameo_control (s : State) (h : Nat) (x : CameoRec) : (setCameo s h x).control = s.control := rfl
@[simp] theorem setCameo_locket (s : State) (h : Nat) (x : CameoRec) : (setCameo s h x).locket = s.locket := rfl
@[simp] theorem setCameo_flash (s : State) (h : Nat) (x : CameoRec) : (setCameo s h x).flash = s.flash := rfl
@[simp] theorem setCameo_isl (s : State) (h : Nat) (x : CameoRec) : (setCameo s h x).isl = s.isl := rfl
@[simp] theorem setCameo_power (s : State) (h : Nat) (x : CameoRec) : (setCameo s h x).power = s.power := rfl
@[simp] theorem setCameo_boot (s : State) (h : Nat) (x : CameoRec) : (setCameo s h x).boot = s.boot := rfl
@[simp] theorem rd_setCameo (s : State) (h : Nat) (x : CameoRec) (j : Nat) : rd (setCameo s h x) j = rd s j := rfl
@[simp] theorem dget_setCameo (s : State) (h : Nat) (x : CameoRec) (j : Nat) : dget (setCameo s h x) j = dget s j := rfl
@[simp] theorem dramByte_setCameo (s : State) (h : Nat) (x : CameoRec) (j : Nat) : dramByte (setCameo s h x) j = dramByte s j := rfl
@[simp] theorem memRd_setCameo (s : State) (h : Nat) (x : CameoRec) (j : Nat) : memRd (setCameo s h x) j = memRd s j := rfl

/-! ### setTouch -/

@[simp] theorem setTouch_time (s : State) (p : Nat) (x : TouchRec) : (setTouch s p x).time = s.time := rfl
@[simp] theorem setTouch_free (s : State) (p : Nat) (x : TouchRec) : (setTouch s p x).free = s.free := rfl
@[simp] theorem setTouch_pending (s : State) (p : Nat) (x : TouchRec) : (setTouch s p x).pending = s.pending := rfl
@[simp] theorem setTouch_out (s : State) (p : Nat) (x : TouchRec) : (setTouch s p x).out = s.out := rfl
@[simp] theorem setTouch_fwQueue (s : State) (p : Nat) (x : TouchRec) : (setTouch s p x).fwQueue = s.fwQueue := rfl
@[simp] theorem setTouch_od (s : State) (p : Nat) (x : TouchRec) : (setTouch s p x).od = s.od := rfl
@[simp] theorem setTouch_dom (s : State) (p : Nat) (x : TouchRec) : (setTouch s p x).dom = s.dom := rfl
@[simp] theorem setTouch_mem (s : State) (p : Nat) (x : TouchRec) : (setTouch s p x).mem = s.mem := rfl
@[simp] theorem setTouch_ten (s : State) (p : Nat) (x : TouchRec) : (setTouch s p x).ten = s.ten := rfl
@[simp] theorem setTouch_clasp (s : State) (p : Nat) (x : TouchRec) : (setTouch s p x).clasp = s.clasp := rfl
@[simp] theorem setTouch_dict (s : State) (p : Nat) (x : TouchRec) : (setTouch s p x).dict = s.dict := rfl
@[simp] theorem setTouch_field (s : State) (p : Nat) (x : TouchRec) : (setTouch s p x).field = s.field := rfl
@[simp] theorem setTouch_raster (s : State) (p : Nat) (x : TouchRec) : (setTouch s p x).raster = s.raster := rfl
@[simp] theorem setTouch_compose (s : State) (p : Nat) (x : TouchRec) : (setTouch s p x).compose = s.compose := rfl
@[simp] theorem setTouch_heads (s : State) (p : Nat) (x : TouchRec) : (setTouch s p x).heads = s.heads := rfl
@[simp] theorem setTouch_ports (s : State) (p : Nat) (x : TouchRec) : (setTouch s p x).ports = s.ports := rfl
@[simp] theorem setTouch_cameo (s : State) (p : Nat) (x : TouchRec) : (setTouch s p x).cameo = s.cameo := rfl
@[simp] theorem setTouch_hap (s : State) (p : Nat) (x : TouchRec) : (setTouch s p x).hap = s.hap := rfl
@[simp] theorem setTouch_audio (s : State) (p : Nat) (x : TouchRec) : (setTouch s p x).audio = s.audio := rfl
@[simp] theorem setTouch_memc (s : State) (p : Nat) (x : TouchRec) : (setTouch s p x).memc = s.memc := rfl
@[simp] theorem setTouch_control (s : State) (p : Nat) (x : TouchRec) : (setTouch s p x).control = s.control := rfl
@[simp] theorem setTouch_locket (s : State) (p : Nat) (x : TouchRec) : (setTouch s p x).locket = s.locket := rfl
@[simp] theorem setTouch_flash (s : State) (p : Nat) (x : TouchRec) : (setTouch s p x).flash = s.flash := rfl
@[simp] theorem setTouch_isl (s : State) (p : Nat) (x : TouchRec) : (setTouch s p x).isl = s.isl := rfl
@[simp] theorem setTouch_power (s : State) (p : Nat) (x : TouchRec) : (setTouch s p x).power = s.power := rfl
@[simp] theorem setTouch_boot (s : State) (p : Nat) (x : TouchRec) : (setTouch s p x).boot = s.boot := rfl
@[simp] theorem rd_setTouch (s : State) (p : Nat) (x : TouchRec) (j : Nat) : rd (setTouch s p x) j = rd s j := rfl
@[simp] theorem dget_setTouch (s : State) (p : Nat) (x : TouchRec) (j : Nat) : dget (setTouch s p x) j = dget s j := rfl
@[simp] theorem dramByte_setTouch (s : State) (p : Nat) (x : TouchRec) (j : Nat) : dramByte (setTouch s p x) j = dramByte s j := rfl
@[simp] theorem memRd_setTouch (s : State) (p : Nat) (x : TouchRec) (j : Nat) : memRd (setTouch s p x) j = memRd s j := rfl

/-! ### setOutPort -/

@[simp] theorem setOutPort_time (s : State) (p : Nat) (x : OutPort) : (setOutPort s p x).time = s.time := rfl
@[simp] theorem setOutPort_free (s : State) (p : Nat) (x : OutPort) : (setOutPort s p x).free = s.free := rfl
@[simp] theorem setOutPort_pending (s : State) (p : Nat) (x : OutPort) : (setOutPort s p x).pending = s.pending := rfl
@[simp] theorem setOutPort_out (s : State) (p : Nat) (x : OutPort) : (setOutPort s p x).out = s.out := rfl
@[simp] theorem setOutPort_fwQueue (s : State) (p : Nat) (x : OutPort) : (setOutPort s p x).fwQueue = s.fwQueue := rfl
@[simp] theorem setOutPort_od (s : State) (p : Nat) (x : OutPort) : (setOutPort s p x).od = s.od := rfl
@[simp] theorem setOutPort_dom (s : State) (p : Nat) (x : OutPort) : (setOutPort s p x).dom = s.dom := rfl
@[simp] theorem setOutPort_mem (s : State) (p : Nat) (x : OutPort) : (setOutPort s p x).mem = s.mem := rfl
@[simp] theorem setOutPort_ten (s : State) (p : Nat) (x : OutPort) : (setOutPort s p x).ten = s.ten := rfl
@[simp] theorem setOutPort_clasp (s : State) (p : Nat) (x : OutPort) : (setOutPort s p x).clasp = s.clasp := rfl
@[simp] theorem setOutPort_dict (s : State) (p : Nat) (x : OutPort) : (setOutPort s p x).dict = s.dict := rfl
@[simp] theorem setOutPort_field (s : State) (p : Nat) (x : OutPort) : (setOutPort s p x).field = s.field := rfl
@[simp] theorem setOutPort_raster (s : State) (p : Nat) (x : OutPort) : (setOutPort s p x).raster = s.raster := rfl
@[simp] theorem setOutPort_compose (s : State) (p : Nat) (x : OutPort) : (setOutPort s p x).compose = s.compose := rfl
@[simp] theorem setOutPort_heads (s : State) (p : Nat) (x : OutPort) : (setOutPort s p x).heads = s.heads := rfl
@[simp] theorem setOutPort_cameo (s : State) (p : Nat) (x : OutPort) : (setOutPort s p x).cameo = s.cameo := rfl
@[simp] theorem setOutPort_touch (s : State) (p : Nat) (x : OutPort) : (setOutPort s p x).touch = s.touch := rfl
@[simp] theorem setOutPort_hap (s : State) (p : Nat) (x : OutPort) : (setOutPort s p x).hap = s.hap := rfl
@[simp] theorem setOutPort_audio (s : State) (p : Nat) (x : OutPort) : (setOutPort s p x).audio = s.audio := rfl
@[simp] theorem setOutPort_memc (s : State) (p : Nat) (x : OutPort) : (setOutPort s p x).memc = s.memc := rfl
@[simp] theorem setOutPort_control (s : State) (p : Nat) (x : OutPort) : (setOutPort s p x).control = s.control := rfl
@[simp] theorem setOutPort_locket (s : State) (p : Nat) (x : OutPort) : (setOutPort s p x).locket = s.locket := rfl
@[simp] theorem setOutPort_flash (s : State) (p : Nat) (x : OutPort) : (setOutPort s p x).flash = s.flash := rfl
@[simp] theorem setOutPort_isl (s : State) (p : Nat) (x : OutPort) : (setOutPort s p x).isl = s.isl := rfl
@[simp] theorem setOutPort_power (s : State) (p : Nat) (x : OutPort) : (setOutPort s p x).power = s.power := rfl
@[simp] theorem setOutPort_boot (s : State) (p : Nat) (x : OutPort) : (setOutPort s p x).boot = s.boot := rfl
@[simp] theorem rd_setOutPort (s : State) (p : Nat) (x : OutPort) (j : Nat) : rd (setOutPort s p x) j = rd s j := rfl
@[simp] theorem dget_setOutPort (s : State) (p : Nat) (x : OutPort) (j : Nat) : dget (setOutPort s p x) j = dget s j := rfl
@[simp] theorem dramByte_setOutPort (s : State) (p : Nat) (x : OutPort) (j : Nat) : dramByte (setOutPort s p x) j = dramByte s j := rfl
@[simp] theorem memRd_setOutPort (s : State) (p : Nat) (x : OutPort) (j : Nat) : memRd (setOutPort s p x) j = memRd s j := rfl

/-! ### setCv -/

@[simp] theorem setCv_time (s : State) (k : Nat) (x : CvRec) : (setCv s k x).time = s.time := rfl
@[simp] theorem setCv_free (s : State) (k : Nat) (x : CvRec) : (setCv s k x).free = s.free := rfl
@[simp] theorem setCv_pending (s : State) (k : Nat) (x : CvRec) : (setCv s k x).pending = s.pending := rfl
@[simp] theorem setCv_out (s : State) (k : Nat) (x : CvRec) : (setCv s k x).out = s.out := rfl
@[simp] theorem setCv_fwQueue (s : State) (k : Nat) (x : CvRec) : (setCv s k x).fwQueue = s.fwQueue := rfl
@[simp] theorem setCv_od (s : State) (k : Nat) (x : CvRec) : (setCv s k x).od = s.od := rfl
@[simp] theorem setCv_dom (s : State) (k : Nat) (x : CvRec) : (setCv s k x).dom = s.dom := rfl
@[simp] theorem setCv_mem (s : State) (k : Nat) (x : CvRec) : (setCv s k x).mem = s.mem := rfl
@[simp] theorem setCv_ten (s : State) (k : Nat) (x : CvRec) : (setCv s k x).ten = s.ten := rfl
@[simp] theorem setCv_clasp (s : State) (k : Nat) (x : CvRec) : (setCv s k x).clasp = s.clasp := rfl
@[simp] theorem setCv_dict (s : State) (k : Nat) (x : CvRec) : (setCv s k x).dict = s.dict := rfl
@[simp] theorem setCv_field (s : State) (k : Nat) (x : CvRec) : (setCv s k x).field = s.field := rfl
@[simp] theorem setCv_raster (s : State) (k : Nat) (x : CvRec) : (setCv s k x).raster = s.raster := rfl
@[simp] theorem setCv_compose (s : State) (k : Nat) (x : CvRec) : (setCv s k x).compose = s.compose := rfl
@[simp] theorem setCv_heads (s : State) (k : Nat) (x : CvRec) : (setCv s k x).heads = s.heads := rfl
@[simp] theorem setCv_ports (s : State) (k : Nat) (x : CvRec) : (setCv s k x).ports = s.ports := rfl
@[simp] theorem setCv_touch (s : State) (k : Nat) (x : CvRec) : (setCv s k x).touch = s.touch := rfl
@[simp] theorem setCv_hap (s : State) (k : Nat) (x : CvRec) : (setCv s k x).hap = s.hap := rfl
@[simp] theorem setCv_audio (s : State) (k : Nat) (x : CvRec) : (setCv s k x).audio = s.audio := rfl
@[simp] theorem setCv_memc (s : State) (k : Nat) (x : CvRec) : (setCv s k x).memc = s.memc := rfl
@[simp] theorem setCv_control (s : State) (k : Nat) (x : CvRec) : (setCv s k x).control = s.control := rfl
@[simp] theorem setCv_locket (s : State) (k : Nat) (x : CvRec) : (setCv s k x).locket = s.locket := rfl
@[simp] theorem setCv_flash (s : State) (k : Nat) (x : CvRec) : (setCv s k x).flash = s.flash := rfl
@[simp] theorem setCv_isl (s : State) (k : Nat) (x : CvRec) : (setCv s k x).isl = s.isl := rfl
@[simp] theorem setCv_power (s : State) (k : Nat) (x : CvRec) : (setCv s k x).power = s.power := rfl
@[simp] theorem setCv_boot (s : State) (k : Nat) (x : CvRec) : (setCv s k x).boot = s.boot := rfl
@[simp] theorem rd_setCv (s : State) (k : Nat) (x : CvRec) (j : Nat) : rd (setCv s k x) j = rd s j := rfl
@[simp] theorem dget_setCv (s : State) (k : Nat) (x : CvRec) (j : Nat) : dget (setCv s k x) j = dget s j := rfl
@[simp] theorem dramByte_setCv (s : State) (k : Nat) (x : CvRec) (j : Nat) : dramByte (setCv s k x) j = dramByte s j := rfl
@[simp] theorem memRd_setCv (s : State) (k : Nat) (x : CvRec) (j : Nat) : memRd (setCv s k x) j = memRd s j := rfl

/-! ### setHand -/

@[simp] theorem setHand_time (s : State) (block : Nat) (h : Option Hand) : (setHand s block h).time = s.time := rfl
@[simp] theorem setHand_free (s : State) (block : Nat) (h : Option Hand) : (setHand s block h).free = s.free := rfl
@[simp] theorem setHand_pending (s : State) (block : Nat) (h : Option Hand) : (setHand s block h).pending = s.pending := rfl
@[simp] theorem setHand_out (s : State) (block : Nat) (h : Option Hand) : (setHand s block h).out = s.out := rfl
@[simp] theorem setHand_fwQueue (s : State) (block : Nat) (h : Option Hand) : (setHand s block h).fwQueue = s.fwQueue := rfl
@[simp] theorem setHand_od (s : State) (block : Nat) (h : Option Hand) : (setHand s block h).od = s.od := rfl
@[simp] theorem setHand_dom (s : State) (block : Nat) (h : Option Hand) : (setHand s block h).dom = s.dom := rfl
@[simp] theorem setHand_mem (s : State) (block : Nat) (h : Option Hand) : (setHand s block h).mem = s.mem := rfl
@[simp] theorem setHand_ten (s : State) (block : Nat) (h : Option Hand) : (setHand s block h).ten = s.ten := rfl
@[simp] theorem setHand_clasp (s : State) (block : Nat) (h : Option Hand) : (setHand s block h).clasp = s.clasp := rfl
@[simp] theorem setHand_dict (s : State) (block : Nat) (h : Option Hand) : (setHand s block h).dict = s.dict := rfl
@[simp] theorem setHand_field (s : State) (block : Nat) (h : Option Hand) : (setHand s block h).field = s.field := rfl
@[simp] theorem setHand_raster (s : State) (block : Nat) (h : Option Hand) : (setHand s block h).raster = s.raster := rfl
@[simp] theorem setHand_compose (s : State) (block : Nat) (h : Option Hand) : (setHand s block h).compose = s.compose := rfl
@[simp] theorem setHand_heads (s : State) (block : Nat) (h : Option Hand) : (setHand s block h).heads = s.heads := rfl
@[simp] theorem setHand_ports (s : State) (block : Nat) (h : Option Hand) : (setHand s block h).ports = s.ports := rfl
@[simp] theorem setHand_cameo (s : State) (block : Nat) (h : Option Hand) : (setHand s block h).cameo = s.cameo := rfl
@[simp] theorem setHand_touch (s : State) (block : Nat) (h : Option Hand) : (setHand s block h).touch = s.touch := rfl
@[simp] theorem setHand_hap (s : State) (block : Nat) (h : Option Hand) : (setHand s block h).hap = s.hap := rfl
@[simp] theorem setHand_audio (s : State) (block : Nat) (h : Option Hand) : (setHand s block h).audio = s.audio := rfl
@[simp] theorem setHand_memc (s : State) (block : Nat) (h : Option Hand) : (setHand s block h).memc = s.memc := rfl
@[simp] theorem setHand_control (s : State) (block : Nat) (h : Option Hand) : (setHand s block h).control = s.control := rfl
@[simp] theorem setHand_flash (s : State) (block : Nat) (h : Option Hand) : (setHand s block h).flash = s.flash := rfl
@[simp] theorem setHand_isl (s : State) (block : Nat) (h : Option Hand) : (setHand s block h).isl = s.isl := rfl
@[simp] theorem setHand_power (s : State) (block : Nat) (h : Option Hand) : (setHand s block h).power = s.power := rfl
@[simp] theorem setHand_boot (s : State) (block : Nat) (h : Option Hand) : (setHand s block h).boot = s.boot := rfl
@[simp] theorem rd_setHand (s : State) (block : Nat) (h : Option Hand) (j : Nat) : rd (setHand s block h) j = rd s j := rfl
@[simp] theorem dget_setHand (s : State) (block : Nat) (h : Option Hand) (j : Nat) : dget (setHand s block h) j = dget s j := rfl
@[simp] theorem dramByte_setHand (s : State) (block : Nat) (h : Option Hand) (j : Nat) : dramByte (setHand s block h) j = dramByte s j := rfl
@[simp] theorem memRd_setHand (s : State) (block : Nat) (h : Option Hand) (j : Nat) : memRd (setHand s block h) j = memRd s j := rfl

/-! ### setHap -/

@[simp] theorem setHap_time (s : State) (n : Nat) (x : HapRec) : (setHap s n x).time = s.time := rfl
@[simp] theorem setHap_free (s : State) (n : Nat) (x : HapRec) : (setHap s n x).free = s.free := rfl
@[simp] theorem setHap_pending (s : State) (n : Nat) (x : HapRec) : (setHap s n x).pending = s.pending := rfl
@[simp] theorem setHap_out (s : State) (n : Nat) (x : HapRec) : (setHap s n x).out = s.out := rfl
@[simp] theorem setHap_fwQueue (s : State) (n : Nat) (x : HapRec) : (setHap s n x).fwQueue = s.fwQueue := rfl
@[simp] theorem setHap_od (s : State) (n : Nat) (x : HapRec) : (setHap s n x).od = s.od := rfl
@[simp] theorem setHap_dom (s : State) (n : Nat) (x : HapRec) : (setHap s n x).dom = s.dom := rfl
@[simp] theorem setHap_mem (s : State) (n : Nat) (x : HapRec) : (setHap s n x).mem = s.mem := rfl
@[simp] theorem setHap_ten (s : State) (n : Nat) (x : HapRec) : (setHap s n x).ten = s.ten := rfl
@[simp] theorem setHap_clasp (s : State) (n : Nat) (x : HapRec) : (setHap s n x).clasp = s.clasp := rfl
@[simp] theorem setHap_dict (s : State) (n : Nat) (x : HapRec) : (setHap s n x).dict = s.dict := rfl
@[simp] theorem setHap_field (s : State) (n : Nat) (x : HapRec) : (setHap s n x).field = s.field := rfl
@[simp] theorem setHap_raster (s : State) (n : Nat) (x : HapRec) : (setHap s n x).raster = s.raster := rfl
@[simp] theorem setHap_compose (s : State) (n : Nat) (x : HapRec) : (setHap s n x).compose = s.compose := rfl
@[simp] theorem setHap_heads (s : State) (n : Nat) (x : HapRec) : (setHap s n x).heads = s.heads := rfl
@[simp] theorem setHap_ports (s : State) (n : Nat) (x : HapRec) : (setHap s n x).ports = s.ports := rfl
@[simp] theorem setHap_cameo (s : State) (n : Nat) (x : HapRec) : (setHap s n x).cameo = s.cameo := rfl
@[simp] theorem setHap_touch (s : State) (n : Nat) (x : HapRec) : (setHap s n x).touch = s.touch := rfl
@[simp] theorem setHap_audio (s : State) (n : Nat) (x : HapRec) : (setHap s n x).audio = s.audio := rfl
@[simp] theorem setHap_memc (s : State) (n : Nat) (x : HapRec) : (setHap s n x).memc = s.memc := rfl
@[simp] theorem setHap_control (s : State) (n : Nat) (x : HapRec) : (setHap s n x).control = s.control := rfl
@[simp] theorem setHap_locket (s : State) (n : Nat) (x : HapRec) : (setHap s n x).locket = s.locket := rfl
@[simp] theorem setHap_flash (s : State) (n : Nat) (x : HapRec) : (setHap s n x).flash = s.flash := rfl
@[simp] theorem setHap_isl (s : State) (n : Nat) (x : HapRec) : (setHap s n x).isl = s.isl := rfl
@[simp] theorem setHap_power (s : State) (n : Nat) (x : HapRec) : (setHap s n x).power = s.power := rfl
@[simp] theorem setHap_boot (s : State) (n : Nat) (x : HapRec) : (setHap s n x).boot = s.boot := rfl
@[simp] theorem rd_setHap (s : State) (n : Nat) (x : HapRec) (j : Nat) : rd (setHap s n x) j = rd s j := rfl
@[simp] theorem dget_setHap (s : State) (n : Nat) (x : HapRec) (j : Nat) : dget (setHap s n x) j = dget s j := rfl
@[simp] theorem dramByte_setHap (s : State) (n : Nat) (x : HapRec) (j : Nat) : dramByte (setHap s n x) j = dramByte s j := rfl
@[simp] theorem memRd_setHap (s : State) (n : Nat) (x : HapRec) (j : Nat) : memRd (setHap s n x) j = memRd s j := rfl

/-! ### setCan -/

@[simp] theorem setCan_time (s : State) (n : Nat) (x : CanNode) : (setCan s n x).time = s.time := rfl
@[simp] theorem setCan_free (s : State) (n : Nat) (x : CanNode) : (setCan s n x).free = s.free := rfl
@[simp] theorem setCan_pending (s : State) (n : Nat) (x : CanNode) : (setCan s n x).pending = s.pending := rfl
@[simp] theorem setCan_out (s : State) (n : Nat) (x : CanNode) : (setCan s n x).out = s.out := rfl
@[simp] theorem setCan_fwQueue (s : State) (n : Nat) (x : CanNode) : (setCan s n x).fwQueue = s.fwQueue := rfl
@[simp] theorem setCan_od (s : State) (n : Nat) (x : CanNode) : (setCan s n x).od = s.od := rfl
@[simp] theorem setCan_dom (s : State) (n : Nat) (x : CanNode) : (setCan s n x).dom = s.dom := rfl
@[simp] theorem setCan_mem (s : State) (n : Nat) (x : CanNode) : (setCan s n x).mem = s.mem := rfl
@[simp] theorem setCan_ten (s : State) (n : Nat) (x : CanNode) : (setCan s n x).ten = s.ten := rfl
@[simp] theorem setCan_clasp (s : State) (n : Nat) (x : CanNode) : (setCan s n x).clasp = s.clasp := rfl
@[simp] theorem setCan_dict (s : State) (n : Nat) (x : CanNode) : (setCan s n x).dict = s.dict := rfl
@[simp] theorem setCan_raster (s : State) (n : Nat) (x : CanNode) : (setCan s n x).raster = s.raster := rfl
@[simp] theorem setCan_compose (s : State) (n : Nat) (x : CanNode) : (setCan s n x).compose = s.compose := rfl
@[simp] theorem setCan_heads (s : State) (n : Nat) (x : CanNode) : (setCan s n x).heads = s.heads := rfl
@[simp] theorem setCan_ports (s : State) (n : Nat) (x : CanNode) : (setCan s n x).ports = s.ports := rfl
@[simp] theorem setCan_cameo (s : State) (n : Nat) (x : CanNode) : (setCan s n x).cameo = s.cameo := rfl
@[simp] theorem setCan_touch (s : State) (n : Nat) (x : CanNode) : (setCan s n x).touch = s.touch := rfl
@[simp] theorem setCan_hap (s : State) (n : Nat) (x : CanNode) : (setCan s n x).hap = s.hap := rfl
@[simp] theorem setCan_audio (s : State) (n : Nat) (x : CanNode) : (setCan s n x).audio = s.audio := rfl
@[simp] theorem setCan_memc (s : State) (n : Nat) (x : CanNode) : (setCan s n x).memc = s.memc := rfl
@[simp] theorem setCan_control (s : State) (n : Nat) (x : CanNode) : (setCan s n x).control = s.control := rfl
@[simp] theorem setCan_locket (s : State) (n : Nat) (x : CanNode) : (setCan s n x).locket = s.locket := rfl
@[simp] theorem setCan_flash (s : State) (n : Nat) (x : CanNode) : (setCan s n x).flash = s.flash := rfl
@[simp] theorem setCan_isl (s : State) (n : Nat) (x : CanNode) : (setCan s n x).isl = s.isl := rfl
@[simp] theorem setCan_power (s : State) (n : Nat) (x : CanNode) : (setCan s n x).power = s.power := rfl
@[simp] theorem setCan_boot (s : State) (n : Nat) (x : CanNode) : (setCan s n x).boot = s.boot := rfl
@[simp] theorem rd_setCan (s : State) (n : Nat) (x : CanNode) (j : Nat) : rd (setCan s n x) j = rd s j := rfl
@[simp] theorem dget_setCan (s : State) (n : Nat) (x : CanNode) (j : Nat) : dget (setCan s n x) j = dget s j := rfl
@[simp] theorem dramByte_setCan (s : State) (n : Nat) (x : CanNode) (j : Nat) : dramByte (setCan s n x) j = dramByte s j := rfl
@[simp] theorem memRd_setCan (s : State) (n : Nat) (x : CanNode) (j : Nat) : memRd (setCan s n x) j = memRd s j := rfl

/-! ### setMix -/

@[simp] theorem setMix_time (s : State) (i : Nat) (x : MixIn) : (setMix s i x).time = s.time := rfl
@[simp] theorem setMix_free (s : State) (i : Nat) (x : MixIn) : (setMix s i x).free = s.free := rfl
@[simp] theorem setMix_pending (s : State) (i : Nat) (x : MixIn) : (setMix s i x).pending = s.pending := rfl
@[simp] theorem setMix_out (s : State) (i : Nat) (x : MixIn) : (setMix s i x).out = s.out := rfl
@[simp] theorem setMix_fwQueue (s : State) (i : Nat) (x : MixIn) : (setMix s i x).fwQueue = s.fwQueue := rfl
@[simp] theorem setMix_od (s : State) (i : Nat) (x : MixIn) : (setMix s i x).od = s.od := rfl
@[simp] theorem setMix_dom (s : State) (i : Nat) (x : MixIn) : (setMix s i x).dom = s.dom := rfl
@[simp] theorem setMix_mem (s : State) (i : Nat) (x : MixIn) : (setMix s i x).mem = s.mem := rfl
@[simp] theorem setMix_ten (s : State) (i : Nat) (x : MixIn) : (setMix s i x).ten = s.ten := rfl
@[simp] theorem setMix_clasp (s : State) (i : Nat) (x : MixIn) : (setMix s i x).clasp = s.clasp := rfl
@[simp] theorem setMix_dict (s : State) (i : Nat) (x : MixIn) : (setMix s i x).dict = s.dict := rfl
@[simp] theorem setMix_field (s : State) (i : Nat) (x : MixIn) : (setMix s i x).field = s.field := rfl
@[simp] theorem setMix_raster (s : State) (i : Nat) (x : MixIn) : (setMix s i x).raster = s.raster := rfl
@[simp] theorem setMix_compose (s : State) (i : Nat) (x : MixIn) : (setMix s i x).compose = s.compose := rfl
@[simp] theorem setMix_heads (s : State) (i : Nat) (x : MixIn) : (setMix s i x).heads = s.heads := rfl
@[simp] theorem setMix_ports (s : State) (i : Nat) (x : MixIn) : (setMix s i x).ports = s.ports := rfl
@[simp] theorem setMix_cameo (s : State) (i : Nat) (x : MixIn) : (setMix s i x).cameo = s.cameo := rfl
@[simp] theorem setMix_touch (s : State) (i : Nat) (x : MixIn) : (setMix s i x).touch = s.touch := rfl
@[simp] theorem setMix_hap (s : State) (i : Nat) (x : MixIn) : (setMix s i x).hap = s.hap := rfl
@[simp] theorem setMix_memc (s : State) (i : Nat) (x : MixIn) : (setMix s i x).memc = s.memc := rfl
@[simp] theorem setMix_control (s : State) (i : Nat) (x : MixIn) : (setMix s i x).control = s.control := rfl
@[simp] theorem setMix_locket (s : State) (i : Nat) (x : MixIn) : (setMix s i x).locket = s.locket := rfl
@[simp] theorem setMix_flash (s : State) (i : Nat) (x : MixIn) : (setMix s i x).flash = s.flash := rfl
@[simp] theorem setMix_isl (s : State) (i : Nat) (x : MixIn) : (setMix s i x).isl = s.isl := rfl
@[simp] theorem setMix_power (s : State) (i : Nat) (x : MixIn) : (setMix s i x).power = s.power := rfl
@[simp] theorem setMix_boot (s : State) (i : Nat) (x : MixIn) : (setMix s i x).boot = s.boot := rfl
@[simp] theorem rd_setMix (s : State) (i : Nat) (x : MixIn) (j : Nat) : rd (setMix s i x) j = rd s j := rfl
@[simp] theorem dget_setMix (s : State) (i : Nat) (x : MixIn) (j : Nat) : dget (setMix s i x) j = dget s j := rfl
@[simp] theorem dramByte_setMix (s : State) (i : Nat) (x : MixIn) (j : Nat) : dramByte (setMix s i x) j = dramByte s j := rfl
@[simp] theorem memRd_setMix (s : State) (i : Nat) (x : MixIn) (j : Nat) : memRd (setMix s i x) j = memRd s j := rfl

/-! ### setBus -/

@[simp] theorem setBus_time (s : State) (b : Nat) (x : BusRec) : (setBus s b x).time = s.time := rfl
@[simp] theorem setBus_free (s : State) (b : Nat) (x : BusRec) : (setBus s b x).free = s.free := rfl
@[simp] theorem setBus_pending (s : State) (b : Nat) (x : BusRec) : (setBus s b x).pending = s.pending := rfl
@[simp] theorem setBus_out (s : State) (b : Nat) (x : BusRec) : (setBus s b x).out = s.out := rfl
@[simp] theorem setBus_fwQueue (s : State) (b : Nat) (x : BusRec) : (setBus s b x).fwQueue = s.fwQueue := rfl
@[simp] theorem setBus_od (s : State) (b : Nat) (x : BusRec) : (setBus s b x).od = s.od := rfl
@[simp] theorem setBus_dom (s : State) (b : Nat) (x : BusRec) : (setBus s b x).dom = s.dom := rfl
@[simp] theorem setBus_mem (s : State) (b : Nat) (x : BusRec) : (setBus s b x).mem = s.mem := rfl
@[simp] theorem setBus_ten (s : State) (b : Nat) (x : BusRec) : (setBus s b x).ten = s.ten := rfl
@[simp] theorem setBus_clasp (s : State) (b : Nat) (x : BusRec) : (setBus s b x).clasp = s.clasp := rfl
@[simp] theorem setBus_dict (s : State) (b : Nat) (x : BusRec) : (setBus s b x).dict = s.dict := rfl
@[simp] theorem setBus_field (s : State) (b : Nat) (x : BusRec) : (setBus s b x).field = s.field := rfl
@[simp] theorem setBus_raster (s : State) (b : Nat) (x : BusRec) : (setBus s b x).raster = s.raster := rfl
@[simp] theorem setBus_compose (s : State) (b : Nat) (x : BusRec) : (setBus s b x).compose = s.compose := rfl
@[simp] theorem setBus_heads (s : State) (b : Nat) (x : BusRec) : (setBus s b x).heads = s.heads := rfl
@[simp] theorem setBus_ports (s : State) (b : Nat) (x : BusRec) : (setBus s b x).ports = s.ports := rfl
@[simp] theorem setBus_cameo (s : State) (b : Nat) (x : BusRec) : (setBus s b x).cameo = s.cameo := rfl
@[simp] theorem setBus_touch (s : State) (b : Nat) (x : BusRec) : (setBus s b x).touch = s.touch := rfl
@[simp] theorem setBus_hap (s : State) (b : Nat) (x : BusRec) : (setBus s b x).hap = s.hap := rfl
@[simp] theorem setBus_memc (s : State) (b : Nat) (x : BusRec) : (setBus s b x).memc = s.memc := rfl
@[simp] theorem setBus_control (s : State) (b : Nat) (x : BusRec) : (setBus s b x).control = s.control := rfl
@[simp] theorem setBus_locket (s : State) (b : Nat) (x : BusRec) : (setBus s b x).locket = s.locket := rfl
@[simp] theorem setBus_flash (s : State) (b : Nat) (x : BusRec) : (setBus s b x).flash = s.flash := rfl
@[simp] theorem setBus_isl (s : State) (b : Nat) (x : BusRec) : (setBus s b x).isl = s.isl := rfl
@[simp] theorem setBus_power (s : State) (b : Nat) (x : BusRec) : (setBus s b x).power = s.power := rfl
@[simp] theorem setBus_boot (s : State) (b : Nat) (x : BusRec) : (setBus s b x).boot = s.boot := rfl
@[simp] theorem rd_setBus (s : State) (b : Nat) (x : BusRec) (j : Nat) : rd (setBus s b x) j = rd s j := rfl
@[simp] theorem dget_setBus (s : State) (b : Nat) (x : BusRec) (j : Nat) : dget (setBus s b x) j = dget s j := rfl
@[simp] theorem dramByte_setBus (s : State) (b : Nat) (x : BusRec) (j : Nat) : dramByte (setBus s b x) j = dramByte s j := rfl
@[simp] theorem memRd_setBus (s : State) (b : Nat) (x : BusRec) (j : Nat) : memRd (setBus s b x) j = memRd s j := rfl

/-! ### setTdm -/

@[simp] theorem setTdm_time (s : State) (n : Nat) (x : TdmRec) : (setTdm s n x).time = s.time := rfl
@[simp] theorem setTdm_free (s : State) (n : Nat) (x : TdmRec) : (setTdm s n x).free = s.free := rfl
@[simp] theorem setTdm_pending (s : State) (n : Nat) (x : TdmRec) : (setTdm s n x).pending = s.pending := rfl
@[simp] theorem setTdm_out (s : State) (n : Nat) (x : TdmRec) : (setTdm s n x).out = s.out := rfl
@[simp] theorem setTdm_fwQueue (s : State) (n : Nat) (x : TdmRec) : (setTdm s n x).fwQueue = s.fwQueue := rfl
@[simp] theorem setTdm_od (s : State) (n : Nat) (x : TdmRec) : (setTdm s n x).od = s.od := rfl
@[simp] theorem setTdm_dom (s : State) (n : Nat) (x : TdmRec) : (setTdm s n x).dom = s.dom := rfl
@[simp] theorem setTdm_mem (s : State) (n : Nat) (x : TdmRec) : (setTdm s n x).mem = s.mem := rfl
@[simp] theorem setTdm_ten (s : State) (n : Nat) (x : TdmRec) : (setTdm s n x).ten = s.ten := rfl
@[simp] theorem setTdm_clasp (s : State) (n : Nat) (x : TdmRec) : (setTdm s n x).clasp = s.clasp := rfl
@[simp] theorem setTdm_dict (s : State) (n : Nat) (x : TdmRec) : (setTdm s n x).dict = s.dict := rfl
@[simp] theorem setTdm_field (s : State) (n : Nat) (x : TdmRec) : (setTdm s n x).field = s.field := rfl
@[simp] theorem setTdm_raster (s : State) (n : Nat) (x : TdmRec) : (setTdm s n x).raster = s.raster := rfl
@[simp] theorem setTdm_compose (s : State) (n : Nat) (x : TdmRec) : (setTdm s n x).compose = s.compose := rfl
@[simp] theorem setTdm_heads (s : State) (n : Nat) (x : TdmRec) : (setTdm s n x).heads = s.heads := rfl
@[simp] theorem setTdm_ports (s : State) (n : Nat) (x : TdmRec) : (setTdm s n x).ports = s.ports := rfl
@[simp] theorem setTdm_cameo (s : State) (n : Nat) (x : TdmRec) : (setTdm s n x).cameo = s.cameo := rfl
@[simp] theorem setTdm_touch (s : State) (n : Nat) (x : TdmRec) : (setTdm s n x).touch = s.touch := rfl
@[simp] theorem setTdm_hap (s : State) (n : Nat) (x : TdmRec) : (setTdm s n x).hap = s.hap := rfl
@[simp] theorem setTdm_memc (s : State) (n : Nat) (x : TdmRec) : (setTdm s n x).memc = s.memc := rfl
@[simp] theorem setTdm_control (s : State) (n : Nat) (x : TdmRec) : (setTdm s n x).control = s.control := rfl
@[simp] theorem setTdm_locket (s : State) (n : Nat) (x : TdmRec) : (setTdm s n x).locket = s.locket := rfl
@[simp] theorem setTdm_flash (s : State) (n : Nat) (x : TdmRec) : (setTdm s n x).flash = s.flash := rfl
@[simp] theorem setTdm_isl (s : State) (n : Nat) (x : TdmRec) : (setTdm s n x).isl = s.isl := rfl
@[simp] theorem setTdm_power (s : State) (n : Nat) (x : TdmRec) : (setTdm s n x).power = s.power := rfl
@[simp] theorem setTdm_boot (s : State) (n : Nat) (x : TdmRec) : (setTdm s n x).boot = s.boot := rfl
@[simp] theorem rd_setTdm (s : State) (n : Nat) (x : TdmRec) (j : Nat) : rd (setTdm s n x) j = rd s j := rfl
@[simp] theorem dget_setTdm (s : State) (n : Nat) (x : TdmRec) (j : Nat) : dget (setTdm s n x) j = dget s j := rfl
@[simp] theorem dramByte_setTdm (s : State) (n : Nat) (x : TdmRec) (j : Nat) : dramByte (setTdm s n x) j = dramByte s j := rfl
@[simp] theorem memRd_setTdm (s : State) (n : Nat) (x : TdmRec) (j : Nat) : memRd (setTdm s n x) j = memRd s j := rfl

/-! ### setStream -/

@[simp] theorem setStream_time (s : State) (n : Nat) (x : StreamRec) : (setStream s n x).time = s.time := rfl
@[simp] theorem setStream_free (s : State) (n : Nat) (x : StreamRec) : (setStream s n x).free = s.free := rfl
@[simp] theorem setStream_pending (s : State) (n : Nat) (x : StreamRec) : (setStream s n x).pending = s.pending := rfl
@[simp] theorem setStream_out (s : State) (n : Nat) (x : StreamRec) : (setStream s n x).out = s.out := rfl
@[simp] theorem setStream_fwQueue (s : State) (n : Nat) (x : StreamRec) : (setStream s n x).fwQueue = s.fwQueue := rfl
@[simp] theorem setStream_od (s : State) (n : Nat) (x : StreamRec) : (setStream s n x).od = s.od := rfl
@[simp] theorem setStream_dom (s : State) (n : Nat) (x : StreamRec) : (setStream s n x).dom = s.dom := rfl
@[simp] theorem setStream_mem (s : State) (n : Nat) (x : StreamRec) : (setStream s n x).mem = s.mem := rfl
@[simp] theorem setStream_ten (s : State) (n : Nat) (x : StreamRec) : (setStream s n x).ten = s.ten := rfl
@[simp] theorem setStream_clasp (s : State) (n : Nat) (x : StreamRec) : (setStream s n x).clasp = s.clasp := rfl
@[simp] theorem setStream_dict (s : State) (n : Nat) (x : StreamRec) : (setStream s n x).dict = s.dict := rfl
@[simp] theorem setStream_field (s : State) (n : Nat) (x : StreamRec) : (setStream s n x).field = s.field := rfl
@[simp] theorem setStream_raster (s : State) (n : Nat) (x : StreamRec) : (setStream s n x).raster = s.raster := rfl
@[simp] theorem setStream_compose (s : State) (n : Nat) (x : StreamRec) : (setStream s n x).compose = s.compose := rfl
@[simp] theorem setStream_heads (s : State) (n : Nat) (x : StreamRec) : (setStream s n x).heads = s.heads := rfl
@[simp] theorem setStream_ports (s : State) (n : Nat) (x : StreamRec) : (setStream s n x).ports = s.ports := rfl
@[simp] theorem setStream_cameo (s : State) (n : Nat) (x : StreamRec) : (setStream s n x).cameo = s.cameo := rfl
@[simp] theorem setStream_touch (s : State) (n : Nat) (x : StreamRec) : (setStream s n x).touch = s.touch := rfl
@[simp] theorem setStream_hap (s : State) (n : Nat) (x : StreamRec) : (setStream s n x).hap = s.hap := rfl
@[simp] theorem setStream_memc (s : State) (n : Nat) (x : StreamRec) : (setStream s n x).memc = s.memc := rfl
@[simp] theorem setStream_control (s : State) (n : Nat) (x : StreamRec) : (setStream s n x).control = s.control := rfl
@[simp] theorem setStream_locket (s : State) (n : Nat) (x : StreamRec) : (setStream s n x).locket = s.locket := rfl
@[simp] theorem setStream_flash (s : State) (n : Nat) (x : StreamRec) : (setStream s n x).flash = s.flash := rfl
@[simp] theorem setStream_isl (s : State) (n : Nat) (x : StreamRec) : (setStream s n x).isl = s.isl := rfl
@[simp] theorem setStream_power (s : State) (n : Nat) (x : StreamRec) : (setStream s n x).power = s.power := rfl
@[simp] theorem setStream_boot (s : State) (n : Nat) (x : StreamRec) : (setStream s n x).boot = s.boot := rfl
@[simp] theorem rd_setStream (s : State) (n : Nat) (x : StreamRec) (j : Nat) : rd (setStream s n x) j = rd s j := rfl
@[simp] theorem dget_setStream (s : State) (n : Nat) (x : StreamRec) (j : Nat) : dget (setStream s n x) j = dget s j := rfl
@[simp] theorem dramByte_setStream (s : State) (n : Nat) (x : StreamRec) (j : Nat) : dramByte (setStream s n x) j = dramByte s j := rfl
@[simp] theorem memRd_setStream (s : State) (n : Nat) (x : StreamRec) (j : Nat) : memRd (setStream s n x) j = memRd s j := rfl

/-! ### setChan -/

@[simp] theorem setChan_time (s : State) (ch : Nat) (c : ChanRec) : (setChan s ch c).time = s.time := rfl
@[simp] theorem setChan_free (s : State) (ch : Nat) (c : ChanRec) : (setChan s ch c).free = s.free := rfl
@[simp] theorem setChan_pending (s : State) (ch : Nat) (c : ChanRec) : (setChan s ch c).pending = s.pending := rfl
@[simp] theorem setChan_out (s : State) (ch : Nat) (c : ChanRec) : (setChan s ch c).out = s.out := rfl
@[simp] theorem setChan_fwQueue (s : State) (ch : Nat) (c : ChanRec) : (setChan s ch c).fwQueue = s.fwQueue := rfl
@[simp] theorem setChan_od (s : State) (ch : Nat) (c : ChanRec) : (setChan s ch c).od = s.od := rfl
@[simp] theorem setChan_dom (s : State) (ch : Nat) (c : ChanRec) : (setChan s ch c).dom = s.dom := rfl
@[simp] theorem setChan_mem (s : State) (ch : Nat) (c : ChanRec) : (setChan s ch c).mem = s.mem := rfl
@[simp] theorem setChan_ten (s : State) (ch : Nat) (c : ChanRec) : (setChan s ch c).ten = s.ten := rfl
@[simp] theorem setChan_clasp (s : State) (ch : Nat) (c : ChanRec) : (setChan s ch c).clasp = s.clasp := rfl
@[simp] theorem setChan_dict (s : State) (ch : Nat) (c : ChanRec) : (setChan s ch c).dict = s.dict := rfl
@[simp] theorem setChan_field (s : State) (ch : Nat) (c : ChanRec) : (setChan s ch c).field = s.field := rfl
@[simp] theorem setChan_raster (s : State) (ch : Nat) (c : ChanRec) : (setChan s ch c).raster = s.raster := rfl
@[simp] theorem setChan_compose (s : State) (ch : Nat) (c : ChanRec) : (setChan s ch c).compose = s.compose := rfl
@[simp] theorem setChan_heads (s : State) (ch : Nat) (c : ChanRec) : (setChan s ch c).heads = s.heads := rfl
@[simp] theorem setChan_ports (s : State) (ch : Nat) (c : ChanRec) : (setChan s ch c).ports = s.ports := rfl
@[simp] theorem setChan_cameo (s : State) (ch : Nat) (c : ChanRec) : (setChan s ch c).cameo = s.cameo := rfl
@[simp] theorem setChan_touch (s : State) (ch : Nat) (c : ChanRec) : (setChan s ch c).touch = s.touch := rfl
@[simp] theorem setChan_hap (s : State) (ch : Nat) (c : ChanRec) : (setChan s ch c).hap = s.hap := rfl
@[simp] theorem setChan_audio (s : State) (ch : Nat) (c : ChanRec) : (setChan s ch c).audio = s.audio := rfl
@[simp] theorem setChan_control (s : State) (ch : Nat) (c : ChanRec) : (setChan s ch c).control = s.control := rfl
@[simp] theorem setChan_locket (s : State) (ch : Nat) (c : ChanRec) : (setChan s ch c).locket = s.locket := rfl
@[simp] theorem setChan_flash (s : State) (ch : Nat) (c : ChanRec) : (setChan s ch c).flash = s.flash := rfl
@[simp] theorem setChan_isl (s : State) (ch : Nat) (c : ChanRec) : (setChan s ch c).isl = s.isl := rfl
@[simp] theorem setChan_power (s : State) (ch : Nat) (c : ChanRec) : (setChan s ch c).power = s.power := rfl
@[simp] theorem setChan_boot (s : State) (ch : Nat) (c : ChanRec) : (setChan s ch c).boot = s.boot := rfl
@[simp] theorem rd_setChan (s : State) (ch : Nat) (c : ChanRec) (j : Nat) : rd (setChan s ch c) j = rd s j := rfl
@[simp] theorem dget_setChan (s : State) (ch : Nat) (c : ChanRec) (j : Nat) : dget (setChan s ch c) j = dget s j := rfl
@[simp] theorem dramByte_setChan (s : State) (ch : Nat) (c : ChanRec) (j : Nat) : dramByte (setChan s ch c) j = dramByte s j := rfl

/-! ### setArb -/

@[simp] theorem setArb_time (s : State) (k : Nat) (a : ArbRec) : (setArb s k a).time = s.time := rfl
@[simp] theorem setArb_free (s : State) (k : Nat) (a : ArbRec) : (setArb s k a).free = s.free := rfl
@[simp] theorem setArb_pending (s : State) (k : Nat) (a : ArbRec) : (setArb s k a).pending = s.pending := rfl
@[simp] theorem setArb_out (s : State) (k : Nat) (a : ArbRec) : (setArb s k a).out = s.out := rfl
@[simp] theorem setArb_fwQueue (s : State) (k : Nat) (a : ArbRec) : (setArb s k a).fwQueue = s.fwQueue := rfl
@[simp] theorem setArb_od (s : State) (k : Nat) (a : ArbRec) : (setArb s k a).od = s.od := rfl
@[simp] theorem setArb_dom (s : State) (k : Nat) (a : ArbRec) : (setArb s k a).dom = s.dom := rfl
@[simp] theorem setArb_mem (s : State) (k : Nat) (a : ArbRec) : (setArb s k a).mem = s.mem := rfl
@[simp] theorem setArb_clasp (s : State) (k : Nat) (a : ArbRec) : (setArb s k a).clasp = s.clasp := rfl
@[simp] theorem setArb_dict (s : State) (k : Nat) (a : ArbRec) : (setArb s k a).dict = s.dict := rfl
@[simp] theorem setArb_field (s : State) (k : Nat) (a : ArbRec) : (setArb s k a).field = s.field := rfl
@[simp] theorem setArb_raster (s : State) (k : Nat) (a : ArbRec) : (setArb s k a).raster = s.raster := rfl
@[simp] theorem setArb_compose (s : State) (k : Nat) (a : ArbRec) : (setArb s k a).compose = s.compose := rfl
@[simp] theorem setArb_heads (s : State) (k : Nat) (a : ArbRec) : (setArb s k a).heads = s.heads := rfl
@[simp] theorem setArb_ports (s : State) (k : Nat) (a : ArbRec) : (setArb s k a).ports = s.ports := rfl
@[simp] theorem setArb_cameo (s : State) (k : Nat) (a : ArbRec) : (setArb s k a).cameo = s.cameo := rfl
@[simp] theorem setArb_touch (s : State) (k : Nat) (a : ArbRec) : (setArb s k a).touch = s.touch := rfl
@[simp] theorem setArb_hap (s : State) (k : Nat) (a : ArbRec) : (setArb s k a).hap = s.hap := rfl
@[simp] theorem setArb_audio (s : State) (k : Nat) (a : ArbRec) : (setArb s k a).audio = s.audio := rfl
@[simp] theorem setArb_memc (s : State) (k : Nat) (a : ArbRec) : (setArb s k a).memc = s.memc := rfl
@[simp] theorem setArb_control (s : State) (k : Nat) (a : ArbRec) : (setArb s k a).control = s.control := rfl
@[simp] theorem setArb_locket (s : State) (k : Nat) (a : ArbRec) : (setArb s k a).locket = s.locket := rfl
@[simp] theorem setArb_flash (s : State) (k : Nat) (a : ArbRec) : (setArb s k a).flash = s.flash := rfl
@[simp] theorem setArb_isl (s : State) (k : Nat) (a : ArbRec) : (setArb s k a).isl = s.isl := rfl
@[simp] theorem setArb_power (s : State) (k : Nat) (a : ArbRec) : (setArb s k a).power = s.power := rfl
@[simp] theorem setArb_boot (s : State) (k : Nat) (a : ArbRec) : (setArb s k a).boot = s.boot := rfl
@[simp] theorem rd_setArb (s : State) (k : Nat) (a : ArbRec) (j : Nat) : rd (setArb s k a) j = rd s j := rfl
@[simp] theorem dget_setArb (s : State) (k : Nat) (a : ArbRec) (j : Nat) : dget (setArb s k a) j = dget s j := rfl
@[simp] theorem dramByte_setArb (s : State) (k : Nat) (a : ArbRec) (j : Nat) : dramByte (setArb s k a) j = dramByte s j := rfl
@[simp] theorem memRd_setArb (s : State) (k : Nat) (a : ArbRec) (j : Nat) : memRd (setArb s k a) j = memRd s j := rfl

/-! ### setIsland -/

@[simp] theorem setIsland_time (s : State) (i : Nat) (st : Nat) : (setIsland s i st).time = s.time := rfl
@[simp] theorem setIsland_free (s : State) (i : Nat) (st : Nat) : (setIsland s i st).free = s.free := rfl
@[simp] theorem setIsland_pending (s : State) (i : Nat) (st : Nat) : (setIsland s i st).pending = s.pending := rfl
@[simp] theorem setIsland_out (s : State) (i : Nat) (st : Nat) : (setIsland s i st).out = s.out := rfl
@[simp] theorem setIsland_fwQueue (s : State) (i : Nat) (st : Nat) : (setIsland s i st).fwQueue = s.fwQueue := rfl
@[simp] theorem setIsland_od (s : State) (i : Nat) (st : Nat) : (setIsland s i st).od = s.od := rfl
@[simp] theorem setIsland_dom (s : State) (i : Nat) (st : Nat) : (setIsland s i st).dom = s.dom := rfl
@[simp] theorem setIsland_mem (s : State) (i : Nat) (st : Nat) : (setIsland s i st).mem = s.mem := rfl
@[simp] theorem setIsland_ten (s : State) (i : Nat) (st : Nat) : (setIsland s i st).ten = s.ten := rfl
@[simp] theorem setIsland_clasp (s : State) (i : Nat) (st : Nat) : (setIsland s i st).clasp = s.clasp := rfl
@[simp] theorem setIsland_dict (s : State) (i : Nat) (st : Nat) : (setIsland s i st).dict = s.dict := rfl
@[simp] theorem setIsland_field (s : State) (i : Nat) (st : Nat) : (setIsland s i st).field = s.field := rfl
@[simp] theorem setIsland_raster (s : State) (i : Nat) (st : Nat) : (setIsland s i st).raster = s.raster := rfl
@[simp] theorem setIsland_compose (s : State) (i : Nat) (st : Nat) : (setIsland s i st).compose = s.compose := rfl
@[simp] theorem setIsland_heads (s : State) (i : Nat) (st : Nat) : (setIsland s i st).heads = s.heads := rfl
@[simp] theorem setIsland_ports (s : State) (i : Nat) (st : Nat) : (setIsland s i st).ports = s.ports := rfl
@[simp] theorem setIsland_cameo (s : State) (i : Nat) (st : Nat) : (setIsland s i st).cameo = s.cameo := rfl
@[simp] theorem setIsland_touch (s : State) (i : Nat) (st : Nat) : (setIsland s i st).touch = s.touch := rfl
@[simp] theorem setIsland_hap (s : State) (i : Nat) (st : Nat) : (setIsland s i st).hap = s.hap := rfl
@[simp] theorem setIsland_audio (s : State) (i : Nat) (st : Nat) : (setIsland s i st).audio = s.audio := rfl
@[simp] theorem setIsland_memc (s : State) (i : Nat) (st : Nat) : (setIsland s i st).memc = s.memc := rfl
@[simp] theorem setIsland_control (s : State) (i : Nat) (st : Nat) : (setIsland s i st).control = s.control := rfl
@[simp] theorem setIsland_locket (s : State) (i : Nat) (st : Nat) : (setIsland s i st).locket = s.locket := rfl
@[simp] theorem setIsland_flash (s : State) (i : Nat) (st : Nat) : (setIsland s i st).flash = s.flash := rfl
@[simp] theorem setIsland_power (s : State) (i : Nat) (st : Nat) : (setIsland s i st).power = s.power := rfl
@[simp] theorem setIsland_boot (s : State) (i : Nat) (st : Nat) : (setIsland s i st).boot = s.boot := rfl
@[simp] theorem rd_setIsland (s : State) (i : Nat) (st : Nat) (j : Nat) : rd (setIsland s i st) j = rd s j := rfl
@[simp] theorem dget_setIsland (s : State) (i : Nat) (st : Nat) (j : Nat) : dget (setIsland s i st) j = dget s j := rfl
@[simp] theorem dramByte_setIsland (s : State) (i : Nat) (st : Nat) (j : Nat) : dramByte (setIsland s i st) j = dramByte s j := rfl
@[simp] theorem memRd_setIsland (s : State) (i : Nat) (st : Nat) (j : Nat) : memRd (setIsland s i st) j = memRd s j := rfl

/-! ### setXing -/

@[simp] theorem setXing_time (s : State) (x : Nat) (r : XingRec) : (setXing s x r).time = s.time := rfl
@[simp] theorem setXing_free (s : State) (x : Nat) (r : XingRec) : (setXing s x r).free = s.free := rfl
@[simp] theorem setXing_pending (s : State) (x : Nat) (r : XingRec) : (setXing s x r).pending = s.pending := rfl
@[simp] theorem setXing_out (s : State) (x : Nat) (r : XingRec) : (setXing s x r).out = s.out := rfl
@[simp] theorem setXing_fwQueue (s : State) (x : Nat) (r : XingRec) : (setXing s x r).fwQueue = s.fwQueue := rfl
@[simp] theorem setXing_od (s : State) (x : Nat) (r : XingRec) : (setXing s x r).od = s.od := rfl
@[simp] theorem setXing_dom (s : State) (x : Nat) (r : XingRec) : (setXing s x r).dom = s.dom := rfl
@[simp] theorem setXing_mem (s : State) (x : Nat) (r : XingRec) : (setXing s x r).mem = s.mem := rfl
@[simp] theorem setXing_ten (s : State) (x : Nat) (r : XingRec) : (setXing s x r).ten = s.ten := rfl
@[simp] theorem setXing_clasp (s : State) (x : Nat) (r : XingRec) : (setXing s x r).clasp = s.clasp := rfl
@[simp] theorem setXing_dict (s : State) (x : Nat) (r : XingRec) : (setXing s x r).dict = s.dict := rfl
@[simp] theorem setXing_field (s : State) (x : Nat) (r : XingRec) : (setXing s x r).field = s.field := rfl
@[simp] theorem setXing_raster (s : State) (x : Nat) (r : XingRec) : (setXing s x r).raster = s.raster := rfl
@[simp] theorem setXing_compose (s : State) (x : Nat) (r : XingRec) : (setXing s x r).compose = s.compose := rfl
@[simp] theorem setXing_heads (s : State) (x : Nat) (r : XingRec) : (setXing s x r).heads = s.heads := rfl
@[simp] theorem setXing_ports (s : State) (x : Nat) (r : XingRec) : (setXing s x r).ports = s.ports := rfl
@[simp] theorem setXing_cameo (s : State) (x : Nat) (r : XingRec) : (setXing s x r).cameo = s.cameo := rfl
@[simp] theorem setXing_touch (s : State) (x : Nat) (r : XingRec) : (setXing s x r).touch = s.touch := rfl
@[simp] theorem setXing_hap (s : State) (x : Nat) (r : XingRec) : (setXing s x r).hap = s.hap := rfl
@[simp] theorem setXing_audio (s : State) (x : Nat) (r : XingRec) : (setXing s x r).audio = s.audio := rfl
@[simp] theorem setXing_memc (s : State) (x : Nat) (r : XingRec) : (setXing s x r).memc = s.memc := rfl
@[simp] theorem setXing_control (s : State) (x : Nat) (r : XingRec) : (setXing s x r).control = s.control := rfl
@[simp] theorem setXing_locket (s : State) (x : Nat) (r : XingRec) : (setXing s x r).locket = s.locket := rfl
@[simp] theorem setXing_flash (s : State) (x : Nat) (r : XingRec) : (setXing s x r).flash = s.flash := rfl
@[simp] theorem setXing_power (s : State) (x : Nat) (r : XingRec) : (setXing s x r).power = s.power := rfl
@[simp] theorem setXing_boot (s : State) (x : Nat) (r : XingRec) : (setXing s x r).boot = s.boot := rfl
@[simp] theorem rd_setXing (s : State) (x : Nat) (r : XingRec) (j : Nat) : rd (setXing s x r) j = rd s j := rfl
@[simp] theorem dget_setXing (s : State) (x : Nat) (r : XingRec) (j : Nat) : dget (setXing s x r) j = dget s j := rfl
@[simp] theorem dramByte_setXing (s : State) (x : Nat) (r : XingRec) (j : Nat) : dramByte (setXing s x r) j = dramByte s j := rfl
@[simp] theorem memRd_setXing (s : State) (x : Nat) (r : XingRec) (j : Nat) : memRd (setXing s x r) j = memRd s j := rfl

/-! ### setImg -/

@[simp] theorem setImg_time (s : State) (i : Nat) (x : ImgSlot) : (setImg s i x).time = s.time := rfl
@[simp] theorem setImg_free (s : State) (i : Nat) (x : ImgSlot) : (setImg s i x).free = s.free := rfl
@[simp] theorem setImg_pending (s : State) (i : Nat) (x : ImgSlot) : (setImg s i x).pending = s.pending := rfl
@[simp] theorem setImg_out (s : State) (i : Nat) (x : ImgSlot) : (setImg s i x).out = s.out := rfl
@[simp] theorem setImg_fwQueue (s : State) (i : Nat) (x : ImgSlot) : (setImg s i x).fwQueue = s.fwQueue := rfl
@[simp] theorem setImg_od (s : State) (i : Nat) (x : ImgSlot) : (setImg s i x).od = s.od := rfl
@[simp] theorem setImg_dom (s : State) (i : Nat) (x : ImgSlot) : (setImg s i x).dom = s.dom := rfl
@[simp] theorem setImg_mem (s : State) (i : Nat) (x : ImgSlot) : (setImg s i x).mem = s.mem := rfl
@[simp] theorem setImg_ten (s : State) (i : Nat) (x : ImgSlot) : (setImg s i x).ten = s.ten := rfl
@[simp] theorem setImg_clasp (s : State) (i : Nat) (x : ImgSlot) : (setImg s i x).clasp = s.clasp := rfl
@[simp] theorem setImg_dict (s : State) (i : Nat) (x : ImgSlot) : (setImg s i x).dict = s.dict := rfl
@[simp] theorem setImg_field (s : State) (i : Nat) (x : ImgSlot) : (setImg s i x).field = s.field := rfl
@[simp] theorem setImg_raster (s : State) (i : Nat) (x : ImgSlot) : (setImg s i x).raster = s.raster := rfl
@[simp] theorem setImg_compose (s : State) (i : Nat) (x : ImgSlot) : (setImg s i x).compose = s.compose := rfl
@[simp] theorem setImg_heads (s : State) (i : Nat) (x : ImgSlot) : (setImg s i x).heads = s.heads := rfl
@[simp] theorem setImg_ports (s : State) (i : Nat) (x : ImgSlot) : (setImg s i x).ports = s.ports := rfl
@[simp] theorem setImg_cameo (s : State) (i : Nat) (x : ImgSlot) : (setImg s i x).cameo = s.cameo := rfl
@[simp] theorem setImg_touch (s : State) (i : Nat) (x : ImgSlot) : (setImg s i x).touch = s.touch := rfl
@[simp] theorem setImg_hap (s : State) (i : Nat) (x : ImgSlot) : (setImg s i x).hap = s.hap := rfl
@[simp] theorem setImg_audio (s : State) (i : Nat) (x : ImgSlot) : (setImg s i x).audio = s.audio := rfl
@[simp] theorem setImg_memc (s : State) (i : Nat) (x : ImgSlot) : (setImg s i x).memc = s.memc := rfl
@[simp] theorem setImg_control (s : State) (i : Nat) (x : ImgSlot) : (setImg s i x).control = s.control := rfl
@[simp] theorem setImg_locket (s : State) (i : Nat) (x : ImgSlot) : (setImg s i x).locket = s.locket := rfl
@[simp] theorem setImg_isl (s : State) (i : Nat) (x : ImgSlot) : (setImg s i x).isl = s.isl := rfl
@[simp] theorem setImg_power (s : State) (i : Nat) (x : ImgSlot) : (setImg s i x).power = s.power := rfl
@[simp] theorem setImg_boot (s : State) (i : Nat) (x : ImgSlot) : (setImg s i x).boot = s.boot := rfl
@[simp] theorem rd_setImg (s : State) (i : Nat) (x : ImgSlot) (j : Nat) : rd (setImg s i x) j = rd s j := rfl
@[simp] theorem dget_setImg (s : State) (i : Nat) (x : ImgSlot) (j : Nat) : dget (setImg s i x) j = dget s j := rfl
@[simp] theorem dramByte_setImg (s : State) (i : Nat) (x : ImgSlot) (j : Nat) : dramByte (setImg s i x) j = dramByte s j := rfl
@[simp] theorem memRd_setImg (s : State) (i : Nat) (x : ImgSlot) (j : Nat) : memRd (setImg s i x) j = memRd s j := rfl

/-! ### putStaging -/

@[simp] theorem putStaging_time (s : State) (n : Nat) (x : StageSet) : (putStaging s n x).time = s.time := rfl
@[simp] theorem putStaging_free (s : State) (n : Nat) (x : StageSet) : (putStaging s n x).free = s.free := rfl
@[simp] theorem putStaging_pending (s : State) (n : Nat) (x : StageSet) : (putStaging s n x).pending = s.pending := rfl
@[simp] theorem putStaging_out (s : State) (n : Nat) (x : StageSet) : (putStaging s n x).out = s.out := rfl
@[simp] theorem putStaging_fwQueue (s : State) (n : Nat) (x : StageSet) : (putStaging s n x).fwQueue = s.fwQueue := rfl
@[simp] theorem putStaging_od (s : State) (n : Nat) (x : StageSet) : (putStaging s n x).od = s.od := rfl
@[simp] theorem putStaging_dom (s : State) (n : Nat) (x : StageSet) : (putStaging s n x).dom = s.dom := rfl
@[simp] theorem putStaging_mem (s : State) (n : Nat) (x : StageSet) : (putStaging s n x).mem = s.mem := rfl
@[simp] theorem putStaging_ten (s : State) (n : Nat) (x : StageSet) : (putStaging s n x).ten = s.ten := rfl
@[simp] theorem putStaging_clasp (s : State) (n : Nat) (x : StageSet) : (putStaging s n x).clasp = s.clasp := rfl
@[simp] theorem putStaging_field (s : State) (n : Nat) (x : StageSet) : (putStaging s n x).field = s.field := rfl
@[simp] theorem putStaging_raster (s : State) (n : Nat) (x : StageSet) : (putStaging s n x).raster = s.raster := rfl
@[simp] theorem putStaging_compose (s : State) (n : Nat) (x : StageSet) : (putStaging s n x).compose = s.compose := rfl
@[simp] theorem putStaging_heads (s : State) (n : Nat) (x : StageSet) : (putStaging s n x).heads = s.heads := rfl
@[simp] theorem putStaging_ports (s : State) (n : Nat) (x : StageSet) : (putStaging s n x).ports = s.ports := rfl
@[simp] theorem putStaging_cameo (s : State) (n : Nat) (x : StageSet) : (putStaging s n x).cameo = s.cameo := rfl
@[simp] theorem putStaging_touch (s : State) (n : Nat) (x : StageSet) : (putStaging s n x).touch = s.touch := rfl
@[simp] theorem putStaging_hap (s : State) (n : Nat) (x : StageSet) : (putStaging s n x).hap = s.hap := rfl
@[simp] theorem putStaging_audio (s : State) (n : Nat) (x : StageSet) : (putStaging s n x).audio = s.audio := rfl
@[simp] theorem putStaging_memc (s : State) (n : Nat) (x : StageSet) : (putStaging s n x).memc = s.memc := rfl
@[simp] theorem putStaging_control (s : State) (n : Nat) (x : StageSet) : (putStaging s n x).control = s.control := rfl
@[simp] theorem putStaging_locket (s : State) (n : Nat) (x : StageSet) : (putStaging s n x).locket = s.locket := rfl
@[simp] theorem putStaging_flash (s : State) (n : Nat) (x : StageSet) : (putStaging s n x).flash = s.flash := rfl
@[simp] theorem putStaging_isl (s : State) (n : Nat) (x : StageSet) : (putStaging s n x).isl = s.isl := rfl
@[simp] theorem putStaging_power (s : State) (n : Nat) (x : StageSet) : (putStaging s n x).power = s.power := rfl
@[simp] theorem putStaging_boot (s : State) (n : Nat) (x : StageSet) : (putStaging s n x).boot = s.boot := rfl
@[simp] theorem rd_putStaging (s : State) (n : Nat) (x : StageSet) (j : Nat) : rd (putStaging s n x) j = rd s j := rfl
@[simp] theorem dget_putStaging (s : State) (n : Nat) (x : StageSet) (j : Nat) : dget (putStaging s n x) j = dget s j := rfl
@[simp] theorem dramByte_putStaging (s : State) (n : Nat) (x : StageSet) (j : Nat) : dramByte (putStaging s n x) j = dramByte s j := rfl
@[simp] theorem memRd_putStaging (s : State) (n : Nat) (x : StageSet) (j : Nat) : memRd (putStaging s n x) j = memRd s j := rfl

/-! ### setCpu -/

@[simp] theorem setCpu_time (s : State) (k : Nat) (c : CpuRec) : (setCpu s k c).time = s.time := rfl
@[simp] theorem setCpu_free (s : State) (k : Nat) (c : CpuRec) : (setCpu s k c).free = s.free := rfl
@[simp] theorem setCpu_pending (s : State) (k : Nat) (c : CpuRec) : (setCpu s k c).pending = s.pending := rfl
@[simp] theorem setCpu_out (s : State) (k : Nat) (c : CpuRec) : (setCpu s k c).out = s.out := rfl
@[simp] theorem setCpu_fwQueue (s : State) (k : Nat) (c : CpuRec) : (setCpu s k c).fwQueue = s.fwQueue := rfl
@[simp] theorem setCpu_od (s : State) (k : Nat) (c : CpuRec) : (setCpu s k c).od = s.od := rfl
@[simp] theorem setCpu_dom (s : State) (k : Nat) (c : CpuRec) : (setCpu s k c).dom = s.dom := rfl
@[simp] theorem setCpu_mem (s : State) (k : Nat) (c : CpuRec) : (setCpu s k c).mem = s.mem := rfl
@[simp] theorem setCpu_ten (s : State) (k : Nat) (c : CpuRec) : (setCpu s k c).ten = s.ten := rfl
@[simp] theorem setCpu_clasp (s : State) (k : Nat) (c : CpuRec) : (setCpu s k c).clasp = s.clasp := rfl
@[simp] theorem setCpu_dict (s : State) (k : Nat) (c : CpuRec) : (setCpu s k c).dict = s.dict := rfl
@[simp] theorem setCpu_field (s : State) (k : Nat) (c : CpuRec) : (setCpu s k c).field = s.field := rfl
@[simp] theorem setCpu_raster (s : State) (k : Nat) (c : CpuRec) : (setCpu s k c).raster = s.raster := rfl
@[simp] theorem setCpu_compose (s : State) (k : Nat) (c : CpuRec) : (setCpu s k c).compose = s.compose := rfl
@[simp] theorem setCpu_heads (s : State) (k : Nat) (c : CpuRec) : (setCpu s k c).heads = s.heads := rfl
@[simp] theorem setCpu_ports (s : State) (k : Nat) (c : CpuRec) : (setCpu s k c).ports = s.ports := rfl
@[simp] theorem setCpu_cameo (s : State) (k : Nat) (c : CpuRec) : (setCpu s k c).cameo = s.cameo := rfl
@[simp] theorem setCpu_touch (s : State) (k : Nat) (c : CpuRec) : (setCpu s k c).touch = s.touch := rfl
@[simp] theorem setCpu_hap (s : State) (k : Nat) (c : CpuRec) : (setCpu s k c).hap = s.hap := rfl
@[simp] theorem setCpu_audio (s : State) (k : Nat) (c : CpuRec) : (setCpu s k c).audio = s.audio := rfl
@[simp] theorem setCpu_memc (s : State) (k : Nat) (c : CpuRec) : (setCpu s k c).memc = s.memc := rfl
@[simp] theorem setCpu_locket (s : State) (k : Nat) (c : CpuRec) : (setCpu s k c).locket = s.locket := rfl
@[simp] theorem setCpu_flash (s : State) (k : Nat) (c : CpuRec) : (setCpu s k c).flash = s.flash := rfl
@[simp] theorem setCpu_isl (s : State) (k : Nat) (c : CpuRec) : (setCpu s k c).isl = s.isl := rfl
@[simp] theorem setCpu_power (s : State) (k : Nat) (c : CpuRec) : (setCpu s k c).power = s.power := rfl
@[simp] theorem setCpu_boot (s : State) (k : Nat) (c : CpuRec) : (setCpu s k c).boot = s.boot := rfl
@[simp] theorem rd_setCpu (s : State) (k : Nat) (c : CpuRec) (j : Nat) : rd (setCpu s k c) j = rd s j := rfl
@[simp] theorem dget_setCpu (s : State) (k : Nat) (c : CpuRec) (j : Nat) : dget (setCpu s k c) j = dget s j := rfl
@[simp] theorem dramByte_setCpu (s : State) (k : Nat) (c : CpuRec) (j : Nat) : dramByte (setCpu s k c) j = dramByte s j := rfl
@[simp] theorem memRd_setCpu (s : State) (k : Nat) (c : CpuRec) (j : Nat) : memRd (setCpu s k c) j = memRd s j := rfl

/-! ### setDm -/

@[simp] theorem setDm_time (s : State) (d : DebugMod) : (setDm s d).time = s.time := rfl
@[simp] theorem setDm_free (s : State) (d : DebugMod) : (setDm s d).free = s.free := rfl
@[simp] theorem setDm_pending (s : State) (d : DebugMod) : (setDm s d).pending = s.pending := rfl
@[simp] theorem setDm_out (s : State) (d : DebugMod) : (setDm s d).out = s.out := rfl
@[simp] theorem setDm_fwQueue (s : State) (d : DebugMod) : (setDm s d).fwQueue = s.fwQueue := rfl
@[simp] theorem setDm_od (s : State) (d : DebugMod) : (setDm s d).od = s.od := rfl
@[simp] theorem setDm_dom (s : State) (d : DebugMod) : (setDm s d).dom = s.dom := rfl
@[simp] theorem setDm_mem (s : State) (d : DebugMod) : (setDm s d).mem = s.mem := rfl
@[simp] theorem setDm_ten (s : State) (d : DebugMod) : (setDm s d).ten = s.ten := rfl
@[simp] theorem setDm_clasp (s : State) (d : DebugMod) : (setDm s d).clasp = s.clasp := rfl
@[simp] theorem setDm_dict (s : State) (d : DebugMod) : (setDm s d).dict = s.dict := rfl
@[simp] theorem setDm_field (s : State) (d : DebugMod) : (setDm s d).field = s.field := rfl
@[simp] theorem setDm_raster (s : State) (d : DebugMod) : (setDm s d).raster = s.raster := rfl
@[simp] theorem setDm_compose (s : State) (d : DebugMod) : (setDm s d).compose = s.compose := rfl
@[simp] theorem setDm_heads (s : State) (d : DebugMod) : (setDm s d).heads = s.heads := rfl
@[simp] theorem setDm_ports (s : State) (d : DebugMod) : (setDm s d).ports = s.ports := rfl
@[simp] theorem setDm_cameo (s : State) (d : DebugMod) : (setDm s d).cameo = s.cameo := rfl
@[simp] theorem setDm_touch (s : State) (d : DebugMod) : (setDm s d).touch = s.touch := rfl
@[simp] theorem setDm_hap (s : State) (d : DebugMod) : (setDm s d).hap = s.hap := rfl
@[simp] theorem setDm_audio (s : State) (d : DebugMod) : (setDm s d).audio = s.audio := rfl
@[simp] theorem setDm_memc (s : State) (d : DebugMod) : (setDm s d).memc = s.memc := rfl
@[simp] theorem setDm_locket (s : State) (d : DebugMod) : (setDm s d).locket = s.locket := rfl
@[simp] theorem setDm_flash (s : State) (d : DebugMod) : (setDm s d).flash = s.flash := rfl
@[simp] theorem setDm_isl (s : State) (d : DebugMod) : (setDm s d).isl = s.isl := rfl
@[simp] theorem setDm_power (s : State) (d : DebugMod) : (setDm s d).power = s.power := rfl
@[simp] theorem setDm_boot (s : State) (d : DebugMod) : (setDm s d).boot = s.boot := rfl
@[simp] theorem rd_setDm (s : State) (d : DebugMod) (j : Nat) : rd (setDm s d) j = rd s j := rfl
@[simp] theorem dget_setDm (s : State) (d : DebugMod) (j : Nat) : dget (setDm s d) j = dget s j := rfl
@[simp] theorem dramByte_setDm (s : State) (d : DebugMod) (j : Nat) : dramByte (setDm s d) j = dramByte s j := rfl
@[simp] theorem memRd_setDm (s : State) (d : DebugMod) (j : Nat) : memRd (setDm s d) j = memRd s j := rfl

/-! ### binSet -/

@[simp] theorem binSet_time (s : State) (n : Nat) (v : Nat) : (binSet s n v).time = s.time := rfl
@[simp] theorem binSet_free (s : State) (n : Nat) (v : Nat) : (binSet s n v).free = s.free := rfl
@[simp] theorem binSet_pending (s : State) (n : Nat) (v : Nat) : (binSet s n v).pending = s.pending := rfl
@[simp] theorem binSet_out (s : State) (n : Nat) (v : Nat) : (binSet s n v).out = s.out := rfl
@[simp] theorem binSet_fwQueue (s : State) (n : Nat) (v : Nat) : (binSet s n v).fwQueue = s.fwQueue := rfl
@[simp] theorem binSet_od (s : State) (n : Nat) (v : Nat) : (binSet s n v).od = s.od := rfl
@[simp] theorem binSet_dom (s : State) (n : Nat) (v : Nat) : (binSet s n v).dom = s.dom := rfl
@[simp] theorem binSet_mem (s : State) (n : Nat) (v : Nat) : (binSet s n v).mem = s.mem := rfl
@[simp] theorem binSet_ten (s : State) (n : Nat) (v : Nat) : (binSet s n v).ten = s.ten := rfl
@[simp] theorem binSet_clasp (s : State) (n : Nat) (v : Nat) : (binSet s n v).clasp = s.clasp := rfl
@[simp] theorem binSet_dict (s : State) (n : Nat) (v : Nat) : (binSet s n v).dict = s.dict := rfl
@[simp] theorem binSet_field (s : State) (n : Nat) (v : Nat) : (binSet s n v).field = s.field := rfl
@[simp] theorem binSet_compose (s : State) (n : Nat) (v : Nat) : (binSet s n v).compose = s.compose := rfl
@[simp] theorem binSet_heads (s : State) (n : Nat) (v : Nat) : (binSet s n v).heads = s.heads := rfl
@[simp] theorem binSet_ports (s : State) (n : Nat) (v : Nat) : (binSet s n v).ports = s.ports := rfl
@[simp] theorem binSet_cameo (s : State) (n : Nat) (v : Nat) : (binSet s n v).cameo = s.cameo := rfl
@[simp] theorem binSet_touch (s : State) (n : Nat) (v : Nat) : (binSet s n v).touch = s.touch := rfl
@[simp] theorem binSet_hap (s : State) (n : Nat) (v : Nat) : (binSet s n v).hap = s.hap := rfl
@[simp] theorem binSet_audio (s : State) (n : Nat) (v : Nat) : (binSet s n v).audio = s.audio := rfl
@[simp] theorem binSet_memc (s : State) (n : Nat) (v : Nat) : (binSet s n v).memc = s.memc := rfl
@[simp] theorem binSet_control (s : State) (n : Nat) (v : Nat) : (binSet s n v).control = s.control := rfl
@[simp] theorem binSet_locket (s : State) (n : Nat) (v : Nat) : (binSet s n v).locket = s.locket := rfl
@[simp] theorem binSet_flash (s : State) (n : Nat) (v : Nat) : (binSet s n v).flash = s.flash := rfl
@[simp] theorem binSet_isl (s : State) (n : Nat) (v : Nat) : (binSet s n v).isl = s.isl := rfl
@[simp] theorem binSet_power (s : State) (n : Nat) (v : Nat) : (binSet s n v).power = s.power := rfl
@[simp] theorem binSet_boot (s : State) (n : Nat) (v : Nat) : (binSet s n v).boot = s.boot := rfl
@[simp] theorem rd_binSet (s : State) (n : Nat) (v : Nat) (j : Nat) : rd (binSet s n v) j = rd s j := rfl
@[simp] theorem dget_binSet (s : State) (n : Nat) (v : Nat) (j : Nat) : dget (binSet s n v) j = dget s j := rfl
@[simp] theorem dramByte_binSet (s : State) (n : Nat) (v : Nat) (j : Nat) : dramByte (binSet s n v) j = dramByte s j := rfl
@[simp] theorem memRd_binSet (s : State) (n : Nat) (v : Nat) (j : Nat) : memRd (binSet s n v) j = memRd s j := rfl

/-! ### Reading back -/

@[simp] theorem guestRec_setGuest (s : State) (g : Nat) (r : GuestRec) : guestRec (setGuest s g r) g = r := tget_tset_same _ _ _ _
theorem guestRec_setGuest_ne (s : State) (g : Nat) (r : GuestRec) {j : Nat} (hj : j ≠ g) : guestRec (setGuest s g r) j = guestRec s j := tget_tset_ne _ _ _ hj
@[simp] theorem charm_setCharm (s : State) (c : Nat) (v : Nat) : charm (setCharm s c v) c = v := tget_tset_same _ _ _ _
theorem charm_setCharm_ne (s : State) (c : Nat) (v : Nat) {j : Nat} (hj : j ≠ c) : charm (setCharm s c v) j = charm s j := tget_tset_ne _ _ _ hj
@[simp] theorem portRec_setPort (s : State) (f : Nat) (p : PortRec) : portRec (setPort s f p) f = p := tget_tset_same _ _ _ _
theorem portRec_setPort_ne (s : State) (f : Nat) (p : PortRec) {j : Nat} (hj : j ≠ f) : portRec (setPort s f p) j = portRec s j := tget_tset_ne _ _ _ hj
@[simp] theorem claspOf_setClasp (s : State) (c : Nat) (k : Clasp) : claspOf (setClasp s c k) c = k := tget_tset_same _ _ _ _
theorem claspOf_setClasp_ne (s : State) (c : Nat) (k : Clasp) {j : Nat} (hj : j ≠ c) : claspOf (setClasp s c k) j = claspOf s j := tget_tset_ne _ _ _ hj
@[simp] theorem iclOf_setIcl (s : State) (n : Nat) (k : Clasp) : iclOf (setIcl s n k) n = k := tget_tset_same _ _ _ _
theorem iclOf_setIcl_ne (s : State) (n : Nat) (k : Clasp) {j : Nat} (hj : j ≠ n) : iclOf (setIcl s n k) j = iclOf s j := tget_tset_ne _ _ _ hj
@[simp] theorem rctxOf_setRctx (s : State) (key : Nat) (x : Option RCtx) : rctxOf (setRctx s key x) key = x := tget_tset_same _ _ _ _
theorem rctxOf_setRctx_ne (s : State) (key : Nat) (x : Option RCtx) {j : Nat} (hj : j ≠ key) : rctxOf (setRctx s key x) j = rctxOf s j := tget_tset_ne _ _ _ hj
@[simp] theorem cctxOf_setCctx (s : State) (c : Nat) (x : Option CCtx) : cctxOf (setCctx s c x) c = x := tget_tset_same _ _ _ _
theorem cctxOf_setCctx_ne (s : State) (c : Nat) (x : Option CCtx) {j : Nat} (hj : j ≠ c) : cctxOf (setCctx s c x) j = cctxOf s j := tget_tset_ne _ _ _ hj
@[simp] theorem coreOf_setCore (s : State) (n : Nat) (x : CoreRec) : coreOf (setCore s n x) n = x := tget_tset_same _ _ _ _
theorem coreOf_setCore_ne (s : State) (n : Nat) (x : CoreRec) {j : Nat} (hj : j ≠ n) : coreOf (setCore s n x) j = coreOf s j := tget_tset_ne _ _ _ hj
@[simp] theorem headOf_setHead (s : State) (h : Nat) (x : HeadRec) : headOf (setHead s h x) h = x := tget_tset_same _ _ _ _
theorem headOf_setHead_ne (s : State) (h : Nat) (x : HeadRec) {j : Nat} (hj : j ≠ h) : headOf (setHead s h x) j = headOf s j := tget_tset_ne _ _ _ hj
@[simp] theorem rxOf_setRx (s : State) (r : Nat) (x : RxRec) : rxOf (setRx s r x) r = x := tget_tset_same _ _ _ _
theorem rxOf_setRx_ne (s : State) (r : Nat) (x : RxRec) {j : Nat} (hj : j ≠ r) : rxOf (setRx s r x) j = rxOf s j := tget_tset_ne _ _ _ hj
@[simp] theorem cameoOf_setCameo (s : State) (h : Nat) (x : CameoRec) : cameoOf (setCameo s h x) h = x := tget_tset_same _ _ _ _
theorem cameoOf_setCameo_ne (s : State) (h : Nat) (x : CameoRec) {j : Nat} (hj : j ≠ h) : cameoOf (setCameo s h x) j = cameoOf s j := tget_tset_ne _ _ _ hj
@[simp] theorem touchOf_setTouch (s : State) (p : Nat) (x : TouchRec) : touchOf (setTouch s p x) p = x := tget_tset_same _ _ _ _
theorem touchOf_setTouch_ne (s : State) (p : Nat) (x : TouchRec) {j : Nat} (hj : j ≠ p) : touchOf (setTouch s p x) j = touchOf s j := tget_tset_ne _ _ _ hj
@[simp] theorem outPort_setOutPort (s : State) (p : Nat) (x : OutPort) : outPort (setOutPort s p x) p = x := tget_tset_same _ _ _ _
theorem outPort_setOutPort_ne (s : State) (p : Nat) (x : OutPort) {j : Nat} (hj : j ≠ p) : outPort (setOutPort s p x) j = outPort s j := tget_tset_ne _ _ _ hj
@[simp] theorem cvOf_setCv (s : State) (k : Nat) (x : CvRec) : cvOf (setCv s k x) k = x := tget_tset_same _ _ _ _
theorem cvOf_setCv_ne (s : State) (k : Nat) (x : CvRec) {j : Nat} (hj : j ≠ k) : cvOf (setCv s k x) j = cvOf s j := tget_tset_ne _ _ _ hj
@[simp] theorem handOf_setHand (s : State) (block : Nat) (h : Option Hand) : handOf (setHand s block h) block = h := tget_tset_same _ _ _ _
theorem handOf_setHand_ne (s : State) (block : Nat) (h : Option Hand) {j : Nat} (hj : j ≠ block) : handOf (setHand s block h) j = handOf s j := tget_tset_ne _ _ _ hj
@[simp] theorem hapOf_setHap (s : State) (n : Nat) (x : HapRec) : hapOf (setHap s n x) n = x := tget_tset_same _ _ _ _
theorem hapOf_setHap_ne (s : State) (n : Nat) (x : HapRec) {j : Nat} (hj : j ≠ n) : hapOf (setHap s n x) j = hapOf s j := tget_tset_ne _ _ _ hj
@[simp] theorem canOf_setCan (s : State) (n : Nat) (x : CanNode) : canOf (setCan s n x) n = x := tget_tset_same _ _ _ _
theorem canOf_setCan_ne (s : State) (n : Nat) (x : CanNode) {j : Nat} (hj : j ≠ n) : canOf (setCan s n x) j = canOf s j := tget_tset_ne _ _ _ hj
@[simp] theorem mixOf_setMix (s : State) (i : Nat) (x : MixIn) : mixOf (setMix s i x) i = x := tget_tset_same _ _ _ _
theorem mixOf_setMix_ne (s : State) (i : Nat) (x : MixIn) {j : Nat} (hj : j ≠ i) : mixOf (setMix s i x) j = mixOf s j := tget_tset_ne _ _ _ hj
@[simp] theorem busOf_setBus (s : State) (b : Nat) (x : BusRec) : busOf (setBus s b x) b = x := tget_tset_same _ _ _ _
theorem busOf_setBus_ne (s : State) (b : Nat) (x : BusRec) {j : Nat} (hj : j ≠ b) : busOf (setBus s b x) j = busOf s j := tget_tset_ne _ _ _ hj
@[simp] theorem tdmOf_setTdm (s : State) (n : Nat) (x : TdmRec) : tdmOf (setTdm s n x) n = x := tget_tset_same _ _ _ _
theorem tdmOf_setTdm_ne (s : State) (n : Nat) (x : TdmRec) {j : Nat} (hj : j ≠ n) : tdmOf (setTdm s n x) j = tdmOf s j := tget_tset_ne _ _ _ hj
@[simp] theorem streamOf_setStream (s : State) (n : Nat) (x : StreamRec) : streamOf (setStream s n x) n = x := tget_tset_same _ _ _ _
theorem streamOf_setStream_ne (s : State) (n : Nat) (x : StreamRec) {j : Nat} (hj : j ≠ n) : streamOf (setStream s n x) j = streamOf s j := tget_tset_ne _ _ _ hj
@[simp] theorem chanOf_setChan (s : State) (ch : Nat) (c : ChanRec) : chanOf (setChan s ch c) ch = c := tget_tset_same _ _ _ _
theorem chanOf_setChan_ne (s : State) (ch : Nat) (c : ChanRec) {j : Nat} (hj : j ≠ ch) : chanOf (setChan s ch c) j = chanOf s j := tget_tset_ne _ _ _ hj
@[simp] theorem arbOf_setArb (s : State) (k : Nat) (a : ArbRec) : arbOf (setArb s k a) k = a := tget_tset_same _ _ _ _
theorem arbOf_setArb_ne (s : State) (k : Nat) (a : ArbRec) {j : Nat} (hj : j ≠ k) : arbOf (setArb s k a) j = arbOf s j := tget_tset_ne _ _ _ hj
@[simp] theorem xingOf_setXing (s : State) (x : Nat) (r : XingRec) : xingOf (setXing s x r) x = r := tget_tset_same _ _ _ _
theorem xingOf_setXing_ne (s : State) (x : Nat) (r : XingRec) {j : Nat} (hj : j ≠ x) : xingOf (setXing s x r) j = xingOf s j := tget_tset_ne _ _ _ hj
@[simp] theorem cpuOf_setCpu (s : State) (k : Nat) (c : CpuRec) : cpuOf (setCpu s k c) k = c := tget_tset_same _ _ _ _
theorem cpuOf_setCpu_ne (s : State) (k : Nat) (c : CpuRec) {j : Nat} (hj : j ≠ k) : cpuOf (setCpu s k c) j = cpuOf s j := tget_tset_ne _ _ _ hj
@[simp] theorem stagingOf_putStaging (s : State) (n : Nat) (x : StageSet) : stagingOf (putStaging s n x) n = x := tget_tset_same _ _ _ _
theorem stagingOf_putStaging_ne (s : State) (n : Nat) (x : StageSet) {j : Nat} (hj : j ≠ n) : stagingOf (putStaging s n x) j = stagingOf s j := tget_tset_ne _ _ _ hj
@[simp] theorem facetOf_setFacet (s : State) (h f : Nat) (x : FacetRec) : facetOf (setFacet s h f x) h f = x := tget_tset_same _ _ _ _

end Sys2Proof.Laws
end

