-- ==== Sys2Proof/Laws/Dictionary.lean ====
section
/-! SUPPORT. What an accepted write of a dictionary entry does, and what its start and its answer leave alone. -/

set_option linter.unusedSimpArgs false

namespace Sys2Proof.Laws

open Sys2Proof Sys2Proof.Machine

/-- A key is its index and subindex. -/
theorem dkey_split (k : Nat) : dkey (k / 256) (k % 256) = k := by unfold dkey; omega

/-- An access that is accepted is staged, or takes effect at once, and is answered. -/
theorem performAccess_accepted (s : State) (who : Requester) (p k : Nat) (part : Option (Nat × Nat)) (bytes v : List Byte) (f : Found)
    (h1 : clientStranger s who = false) (h2 : denial s who true (k / 256) (k % 256) = none)
    (h3 : findEntry (k / 256) (k % 256) = some f) (h4 : judge s who f k part bytes = .ok v)
    (hs : k / 256 ≠ 0x1010 ∧ k / 256 ≠ 0x1011) :
    performAccess s { who := who, path := p, write := true, idx := k / 256, sub := k % 256, part := part, bytes := bytes } =
      answerAccess (if f.row.committed then stage s (setNo who) k v
        else writeNow s who p k v (match part with | some p => p.1 | none => 0) bytes)
        { who := who, path := p, write := true, idx := k / 256, sub := k % 256, part := part, bytes := bytes } 0 [] := by
  have e : doWrite s { who := who, path := p, write := true, idx := k / 256, sub := k % 256, part := part, bytes := bytes } =
      (if f.row.committed then stage s (setNo who) k v
        else writeNow s who p k v (match part with | some p => p.1 | none => 0) bytes, some 0) := by
    unfold doWrite
    dsimp only
    rw [h2, h3, dkey_split]
    dsimp only
    rw [h4]
    dsimp only
    by_cases hc : f.row.committed
    · rw [if_pos hc, if_pos hc]
    · rw [if_neg hc, if_neg hc, if_neg (by simp [hs])]
      cases part <;> rfl
  unfold performAccess
  dsimp only
  rw [h1, if_neg (by simp), if_pos rfl, e]

/-- An access that finds the dictionary up and its path open is served. -/
theorem arrive_open (s : State) (a : Access) (h1 : 6 ≤ s.boot.step) (h2 : pdOn s 2 = true) (h3 : a.who ≠ .field ∨ s.power.sleep = 0)
    (hf : a.foe = none) :
    arrive s a = performAccess s a := by
  have e : (if a.who = .field then sleepExit s .fieldAccess else s) = s := by
    split
    · rename_i h
      simp [sleepExit, h3.resolve_left (by simp [h])]
    · rfl
  unfold arrive
  rw [if_neg (by omega)]
  dsimp only
  rw [e, if_pos h2]
  simp only [performEither, hf]

/-- All that an accepted write does (R77, R79): a committed entry is staged in the requester's set, any other takes effect. -/
theorem writeBytes_accepted (s : State) (who : Requester) (k off : Nat) (bytes v : List Byte) (h : accepts s who k off bytes v = true)
    (f : Found) (hf : findEntry (k / 256) (k % 256) = some f) (hs : k / 256 ≠ 0x1010 ∧ k / 256 ≠ 0x1011) :
    writeBytes s who k off bytes = acknowledged (if f.row.committed then stage (begun s who) (setNo who) k v
      else writeNow (begun s who) who 0 k v off bytes) who k off bytes := by
  simp only [accepts, reaches, Bool.and_eq_true, decide_eq_true_eq, hf] at h
  obtain ⟨⟨⟨⟨⟨⟨h1, h2⟩, h3⟩, h4⟩, h5⟩, h6⟩, h7⟩ := h
  simp only [Option.isNone_iff_eq_none] at h6
  have h8 : judge (begun s who) who f k (partOf who off bytes.length) bytes = .ok v := by
    split at h7
    · rename_i w hw
      rw [hw]
      have : w = v := by simpa using h7
      rw [this]
    · simp at h7
  cases who with
  | image => simp at h3
  | trusted =>
    have h9 : off = 0 := by simpa [partOf] using h5
    subst h9
    unfold writeBytes access
    dsimp only
    rw [if_pos (by simpa using h3), arrive_open s _ h1 h2 (.inl (by simp)) rfl, performAccess_accepted s .trusted 0 k none bytes v f
        rfl h6 hf h8 hs]
    rfl
  | field =>
    have h9 : off = 0 := by simpa [partOf] using h5
    subst h9
    simp only [Bool.and_eq_true, beq_iff_eq] at h3
    unfold writeBytes access
    dsimp only
    have e : [0, 1, 2].find? (sdoOpen s) = some 0 := by rw [List.find?_cons, h3.2]
    rw [e]
    dsimp only
    rw [arrive_open s _ h1 h2 (.inr h3.1) rfl, performAccess_accepted s .field 0 k none bytes v f rfl h6 hf h8 hs]
    rfl
  | bar2 g c =>
    simp only [Bool.and_eq_true, Bool.not_eq_true'] at h3
    unfold writeBytes access
    dsimp only
    rw [if_neg (by simp [h3.1.1]), if_neg (by simp [h3.1.2]), if_neg (by simp [lengthBad]; exact ⟨by rintro rfl; simp at h4, h4.2⟩),
      arrive_open (portBusy s g.val) _ h1 h2 (.inl (by simp)) rfl,
      performAccess_accepted (portBusy s g.val) (.bar2 g c) 0 k (some (off, bytes.length)) bytes v f (by cases c <;> first | rfl |
          exact h3.2) h6 hf h8 hs]
    rfl

/-- A write of a number is the write of its bytes. -/
theorem writeNum_writeBytes (s : State) (who : Requester) (k n v : Nat) : writeNum s who k n v = writeBytes s who k 0 (leBytes n v) := by
  have e : (leBytes n v).length = n := by
    induction n generalizing v with
    | zero => rfl
    | succ n ih => simp [leBytes, ih]
  cases who <;> unfold writeNum writeBytes <;> simp only [e]
@[simp] theorem acknowledged_dict (t : State) (w : Requester) (k o : Nat) (b : List Byte) : (acknowledged t w k o b).dict = t.dict :=
    by cases w <;> rfl
@[simp] theorem acknowledged_od (t : State) (w : Requester) (k o : Nat) (b : List Byte) : (acknowledged t w k o b).od = t.od := by
    cases w <;> rfl
@[simp] theorem acknowledged_mem (t : State) (w : Requester) (k o : Nat) (b : List Byte) : (acknowledged t w k o b).mem = t.mem := by
    cases w <;> rfl
@[simp] theorem acknowledged_power (t : State) (w : Requester) (k o : Nat) (b : List Byte) : (acknowledged t w k o b).power = t.power
    := by cases w <;> rfl
@[simp] theorem acknowledged_locket (t : State) (w : Requester) (k o : Nat) (b : List Byte) : (acknowledged t w k o b).locket =
    t.locket := by cases w <;> rfl
@[simp] theorem acknowledged_ten (t : State) (w : Requester) (k o : Nat) (b : List Byte) : (acknowledged t w k o b).ten = t.ten := by
    cases w <;> rfl
@[simp] theorem acknowledged_touch (t : State) (w : Requester) (k o : Nat) (b : List Byte) : (acknowledged t w k o b).touch = t.touch
    := by cases w <;> rfl
@[simp] theorem acknowledged_flash (t : State) (w : Requester) (k o : Nat) (b : List Byte) : (acknowledged t w k o b).flash = t.flash
    := by cases w <;> rfl
@[simp] theorem acknowledged_rd (t : State) (w : Requester) (k o : Nat) (b : List Byte) (j : Nat) : rd (acknowledged t w k o b) j =
    rd t j := by cases w <;> rfl
@[simp] theorem begun_dict (t : State) (w : Requester) : (begun t w).dict = t.dict := by cases w <;> rfl
@[simp] theorem begun_od (t : State) (w : Requester) : (begun t w).od = t.od := by cases w <;> rfl
@[simp] theorem begun_mem (t : State) (w : Requester) : (begun t w).mem = t.mem := by cases w <;> rfl
@[simp] theorem begun_power (t : State) (w : Requester) : (begun t w).power = t.power := by cases w <;> rfl
@[simp] theorem begun_time (t : State) (w : Requester) : (begun t w).time = t.time := by cases w <;> rfl
@[simp] theorem begun_rd (t : State) (w : Requester) (j : Nat) : rd (begun t w) j = rd t j := by cases w <;> rfl
@[simp] theorem begun_stagingOf (t : State) (w : Requester) (j : Nat) : stagingOf (begun t w) j = stagingOf t j := by cases w <;> rfl

end Sys2Proof.Laws
end

