-- ==== Sys2Proof/Laws/Exec.lean ====
section
/-! SUPPORT. What `exec` answers for each command: that command's meaning. One lemma a command, so that no proof unfolds `exec`. -/

namespace Sys2Proof.Laws

open Sys2Proof Sys2Proof.Machine

theorem exec_pcieConfigRequest (f : Func) (req : CfgReq) (s : State) : exec (.pcieConfigRequest f req) s = execPcieConfigRequest f req s := rfl
theorem exec_numvfsWrite (n : Nat) (s : State) : exec (.numvfsWrite n) s = execNumvfsWrite n s := rfl
theorem exec_functionLevelReset (f : Func) (s : State) : exec (.functionLevelReset f) s = execFunctionLevelReset f s := rfl
theorem exec_carveOutZeroed (f : Func) (s : State) : exec (.carveOutZeroed f) s = execCarveOutZeroed f s := rfl
theorem exec_bar4Read (f : Func) (off : Nat) (len : Nat) (s : State) : exec (.bar4Read f off len) s = execBar4Read f off len s := rfl
theorem exec_bar4Write (f : Func) (off : Nat) (bytes : List (Option Byte)) (s : State) : exec (.bar4Write f off bytes) s = execBar4Write f off bytes s := rfl
theorem exec_violationLogged (s : State) : exec (.violationLogged) s = execViolationLogged s := rfl
theorem exec_violationRingClear (who : Requester) (v : Byte) (s : State) : exec (.violationRingClear who v) s = execViolationRingClear who v s := rfl
theorem exec_charmsWrite (who : Requester) (g : Func) (off : Nat) (bytes : List Byte) (s : State) : exec (.charmsWrite who g off bytes) s = execCharmsWrite who g off bytes s := rfl
theorem exec_resetClient (who : Requester) (g : Func) (v : BitVec 16) (s : State) : exec (.resetClient who g v) s = execResetClient who g v s := rfl
theorem exec_clientResetDone (g : Func) (s : State) : exec (.clientResetDone g) s = execClientResetDone g s := rfl
theorem exec_arbiterDecision (a : Arbiter) (s : State) : exec (.arbiterDecision a) s = execArbiterDecision a s := rfl
theorem exec_budgetWindowEnd (ch : Chan) (s : State) : exec (.budgetWindowEnd ch) s = execBudgetWindowEnd ch s := rfl
theorem exec_claspGo (f : Func) (c : Client) (s : State) : exec (.claspGo f c) s = execClaspGo f c s := rfl
theorem exec_claspWrite (f : Func) (c : Client) (off : Nat) (bytes : List (Option Byte)) (s : State) : exec (.claspWrite f c off bytes) s = execClaspWrite f c off bytes s := rfl
theorem exec_stage1Refusal (c : Client) (s : State) : exec (.stage1Refusal c) s = execStage1Refusal c s := rfl
theorem exec_claspTake (s : State) : exec (.claspTake) s = execClaspTake s := rfl
theorem exec_claspComplete (c : Client) (s : State) : exec (.claspComplete c) s = execClaspComplete c s := rfl
theorem exec_msixUnmask (f : Func) (v : Fin 64) (s : State) : exec (.msixUnmask f v) s = execMsixUnmask f v s := rfl
theorem exec_resultHeaderRead (f : Func) (c : Client) (off : Nat) (enabled : List Bool) (s : State) : exec (.resultHeaderRead f c off enabled) s = execResultHeaderRead f c off enabled s := rfl
theorem exec_discardsRead (f : Func) (c : Client) (s : State) : exec (.discardsRead f c) s = execDiscardsRead f c s := rfl
theorem exec_eventClear (f : Func) (c : Client) (bits : BitVec 16) (s : State) : exec (.eventClear f c bits) s = execEventClear f c bits s := rfl
theorem exec_claspModeWrite (f : Func) (c : Client) (w : Word) (s : State) : exec (.claspModeWrite f c w) s = execClaspModeWrite f c w s := rfl
theorem exec_dqPush (f : Func) (c : Client) (w : Word) (s : State) : exec (.dqPush f c w) s = execDqPush f c w s := rfl
theorem exec_dqPop (f : Func) (c : Client) (s : State) : exec (.dqPop f c) s = execDqPop f c s := rfl
theorem exec_delbelResponse (c : Client) (s : State) : exec (.delbelResponse c) s = execDelbelResponse c s := rfl
theorem exec_nop (c : Client) (s : State) : exec (.nop c) s = execNop c s := rfl
theorem exec_identify (c : Client) (s : State) : exec (.identify c) s = execIdentify c s := rfl
theorem exec_echo (c : Client) (s : State) : exec (.echo c) s = execEcho c s := rfl
theorem exec_internalClaspGo (k : Icl) (words : List Word) (s : State) : exec (.internalClaspGo k words) s = execInternalClaspGo k words s := rfl
theorem exec_internalClaspTake (k : Icl) (s : State) : exec (.internalClaspTake k) s = execInternalClaspTake k s := rfl
theorem exec_dictPortRead (f : Func) (s : State) : exec (.dictPortRead f) s = execDictPortRead f s := rfl
theorem exec_dictPortWrite (f : Func) (s : State) : exec (.dictPortWrite f) s = execDictPortWrite f s := rfl
theorem exec_dictPortDone (f : Func) (s : State) : exec (.dictPortDone f) s = execDictPortDone f s := rfl
theorem exec_portDiscardsRead (f : Func) (off : Nat) (enabled : List Bool) (s : State) : exec (.portDiscardsRead f off enabled) s = execPortDiscardsRead f off enabled s := rfl
theorem exec_registerWrite (t : RegTarget) (s : State) : exec (.registerWrite t) s = execRegisterWrite t s := rfl
theorem exec_sdoDownload (p : SdoPath) (idx : Nat) (sub : Nat) (bytes : List Byte) (s : State) : exec (.sdoDownload p idx sub bytes) s = execSdoDownload p idx sub bytes s := rfl
theorem exec_sdoUpload (p : SdoPath) (idx : Nat) (sub : Nat) (s : State) : exec (.sdoUpload p idx sub) s = execSdoUpload p idx sub s := rfl
theorem exec_commit (who : Requester) (s : State) : exec (.commit who) s = execCommit who s := rfl
theorem exec_checkOnly (who : Requester) (s : State) : exec (.checkOnly who) s = execCheckOnly who s := rfl
theorem exec_discard (who : Requester) (s : State) : exec (.discard who) s = execDiscard who s := rfl
theorem exec_commitStart (s : State) : exec (.commitStart) s = execCommitStart s := rfl
theorem exec_commitChecksEnd (s : State) : exec (.commitChecksEnd) s = execCommitChecksEnd s := rfl
theorem exec_entryTakesEffect (idx : Nat) (sub : Nat) (s : State) : exec (.entryTakesEffect idx sub) s = execEntryTakesEffect idx sub s := rfl
theorem exec_commitDone (s : State) : exec (.commitDone) s = execCommitDone s := rfl
theorem exec_storeAll (who : Requester) (s : State) : exec (.storeAll who) s = execStoreAll who s := rfl
theorem exec_storeComm (who : Requester) (s : State) : exec (.storeComm who) s = execStoreComm who s := rfl
theorem exec_storeApp (who : Requester) (s : State) : exec (.storeApp who) s = execStoreApp who s := rfl
theorem exec_restoreAll (who : Requester) (s : State) : exec (.restoreAll who) s = execRestoreAll who s := rfl
theorem exec_restoreComm (who : Requester) (s : State) : exec (.restoreComm who) s = execRestoreComm who s := rfl
theorem exec_restoreApp (who : Requester) (s : State) : exec (.restoreApp who) s = execRestoreApp who s := rfl
theorem exec_storeDone (s : State) : exec (.storeDone) s = execStoreDone s := rfl
theorem exec_imageWrite (who : Requester) (off : Nat) (bytes : List Byte) (s : State) : exec (.imageWrite who off bytes) s = execImageWrite who off bytes s := rfl
theorem exec_imageCheck (who : Requester) (s : State) : exec (.imageCheck who) s = execImageCheck who s := rfl
theorem exec_imageCommit (who : Requester) (s : State) : exec (.imageCommit who) s = execImageCommit who s := rfl
theorem exec_imageCommitStore (who : Requester) (s : State) : exec (.imageCommitStore who) s = execImageCommitStore who s := rfl
theorem exec_imageActionEnd (s : State) : exec (.imageActionEnd) s = execImageActionEnd s := rfl
theorem exec_errorHistoryClear (who : Requester) (s : State) : exec (.errorHistoryClear who) s = execErrorHistoryClear who s := rfl
theorem exec_alStateRequest (st : AlState) (s : State) : exec (.alStateRequest st) s = execAlStateRequest st s := rfl
theorem exec_alStateConfirm (s : State) : exec (.alStateConfirm) s = execAlStateConfirm s := rfl
theorem exec_sm2WatchdogExpiry (s : State) : exec (.sm2WatchdogExpiry) s = execSm2WatchdogExpiry s := rfl
theorem exec_escResetSequence (b0 : Byte) (b1 : Byte) (b2 : Byte) (s : State) : exec (.escResetSequence b0 b1 b2) s = execEscResetSequence b0 b1 b2 s := rfl
theorem exec_miiLinkChange (port : Fin 2) (up : Bool) (s : State) : exec (.miiLinkChange port up) s = execMiiLinkChange port up s := rfl
theorem exec_sync0 (t : Nat) (s : State) : exec (.sync0 t) s = execSync0 t s := rfl
theorem exec_sm2BufferComplete (bytes : List Byte) (s : State) : exec (.sm2BufferComplete bytes) s = execSm2BufferComplete bytes s := rfl
theorem exec_freeRunOutputTake (s : State) : exec (.freeRunOutputTake) s = execFreeRunOutputTake s := rfl
theorem exec_alarmTimeout (s : State) : exec (.alarmTimeout) s = execAlarmTimeout s := rfl
theorem exec_sync0Stamp (t : Nat) (s : State) : exec (.sync0Stamp t) s = execSync0Stamp t s := rfl
theorem exec_nmtStart (n : Can) (s : State) : exec (.nmtStart n) s = execNmtStart n s := rfl
theorem exec_nmtStop (n : Can) (s : State) : exec (.nmtStop n) s = execNmtStop n s := rfl
theorem exec_nmtEnterPreop (n : Can) (s : State) : exec (.nmtEnterPreop n) s = execNmtEnterPreop n s := rfl
theorem exec_nmtResetNode (n : Can) (s : State) : exec (.nmtResetNode n) s = execNmtResetNode n s := rfl
theorem exec_nmtResetComm (n : Can) (s : State) : exec (.nmtResetComm n) s = execNmtResetComm n s := rfl
theorem exec_heartbeat (n : Can) (s : State) : exec (.heartbeat n) s = execHeartbeat n s := rfl
theorem exec_canSync (n : Can) (s : State) : exec (.canSync n) s = execCanSync n s := rfl
theorem exec_rpdoReceive (n : Can) (r : Fin 2) (bytes : List Byte) (s : State) : exec (.rpdoReceive n r bytes) s = execRpdoReceive n r bytes s := rfl
theorem exec_tpdoTransmit (n : Can) (t : Fin 8) (timer : Bool) (s : State) : exec (.tpdoTransmit n t timer) s = execTpdoTransmit n t timer s := rfl
theorem exec_canBusOffRecovered (n : Can) (s : State) : exec (.canBusOffRecovered n) s = execCanBusOffRecovered n s := rfl
theorem exec_canErrorPassive (n : Can) (s : State) : exec (.canErrorPassive n) s = execCanErrorPassive n s := rfl
theorem exec_canOverrun (n : Can) (s : State) : exec (.canOverrun n) s = execCanOverrun n s := rfl
theorem exec_emcySend (s : State) : exec (.emcySend) s = execEmcySend s := rfl
theorem exec_foeWriteDict (known : Bool) (pw : Nat) (bytes : List Byte) (s : State) : exec (.foeWriteDict known pw bytes) s = execFoeWriteDict known pw bytes s := rfl
theorem exec_foeReadStored (known : Bool) (pw : Nat) (s : State) : exec (.foeReadStored known pw) s = execFoeReadStored known pw s := rfl
theorem exec_foeReadHallmark (pw : Nat) (s : State) : exec (.foeReadHallmark pw) s = execFoeReadHallmark pw s := rfl
theorem exec_foeWriteOpenImage (pw : Nat) (bytes : List Byte) (s : State) : exec (.foeWriteOpenImage pw bytes) s = execFoeWriteOpenImage pw bytes s := rfl
theorem exec_foeWriteTrustedImage (pw : Nat) (bytes : List Byte) (s : State) : exec (.foeWriteTrustedImage pw bytes) s = execFoeWriteTrustedImage pw bytes s := rfl
theorem exec_foeBusy (s : State) : exec (.foeBusy) s = execFoeBusy s := rfl
theorem exec_firmwareVerified (s : State) : exec (.firmwareVerified) s = execFirmwareVerified s := rfl
theorem exec_ctxCreate (c : Client) (s : State) : exec (.ctxCreate c) s = execCtxCreate c s := rfl
theorem exec_ctxDestroy (c : Client) (s : State) : exec (.ctxDestroy c) s = execCtxDestroy c s := rfl
theorem exec_submit (c : Client) (s : State) : exec (.submit c) s = execSubmit c s := rfl
theorem exec_query (c : Client) (s : State) : exec (.query c) s = execQuery c s := rfl
theorem exec_cctxCreate (c : Client) (s : State) : exec (.cctxCreate c) s = execCctxCreate c s := rfl
theorem exec_cctxDestroy (c : Client) (s : State) : exec (.cctxDestroy c) s = execCctxDestroy c s := rfl
theorem exec_dispatch (c : Client) (s : State) : exec (.dispatch c) s = execDispatch c s := rfl
theorem exec_cquery (c : Client) (s : State) : exec (.cquery c) s = execCquery c s := rfl
theorem exec_contextRemoved (k : Nat) (kind : CtxKind) (s : State) : exec (.contextRemoved k kind) s = execContextRemoved k kind s := rfl
theorem exec_corePickUnit (core : RCore) (s : State) : exec (.corePickUnit core) s = execCorePickUnit core s := rfl
theorem exec_binningEnd (k : Nat) (s : State) : exec (.binningEnd k) s = execBinningEnd k s := rfl
theorem exec_partialStart (k : Nat) (s : State) : exec (.partialStart k) s = execPartialStart k s := rfl
theorem exec_partialDone (k : Nat) (s : State) : exec (.partialDone k) s = execPartialDone k s := rfl
theorem exec_tileDispatch (k : Nat) (core : RCore) (s : State) : exec (.tileDispatch k core) s = execTileDispatch k core s := rfl
theorem exec_tileReload (core : RCore) (tile : Nat) (s : State) : exec (.tileReload core tile) s = execTileReload core tile s := rfl
theorem exec_tilePassEnd (core : RCore) (tile : Nat) (s : State) : exec (.tilePassEnd core tile) s = execTilePassEnd core tile s := rfl
theorem exec_flushAcknowledged (k : Nat) (tile : Nat) (s : State) : exec (.flushAcknowledged k tile) s = execFlushAcknowledged k tile s := rfl
theorem exec_renderDone (k : Nat) (s : State) : exec (.renderDone k) s = execRenderDone k s := rfl
theorem exec_fenceSignal (k : Nat) (kind : CtxKind) (s : State) : exec (.fenceSignal k kind) s = execFenceSignal k kind s := rfl
theorem exec_pxLd (core : RCore) (h : Hart) (w : Word) (s : State) : exec (.pxLd core h w) s = execPxLd core h w s := rfl
theorem exec_pxSt (core : RCore) (h : Hart) (w : Word) (s : State) : exec (.pxSt core h w) s = execPxSt core h w s := rfl
theorem exec_pxRel (core : RCore) (h : Hart) (w : Word) (s : State) : exec (.pxRel core h w) s = execPxRel core h w s := rfl
theorem exec_pxKill (core : RCore) (h : Hart) (w : Word) (s : State) : exec (.pxKill core h w) s = execPxKill core h w s := rfl
theorem exec_pixelInterlockGrant (core : RCore) (h : Hart) (cycles : Word) (s : State) : exec (.pixelInterlockGrant core h cycles) s = execPixelInterlockGrant core h cycles s := rfl
theorem exec_hartEcall (core : RCore) (h : Hart) (s : State) : exec (.hartEcall core h) s = execHartEcall core h s := rfl
theorem exec_ebreak (core : RCore) (h : Hart) (pc : Word) (s : State) : exec (.ebreak core h pc) s = execEbreak core h pc s := rfl
theorem exec_ctxFault (why : FaultCause) (s : State) : exec (.ctxFault why) s = execCtxFault why s := rfl
theorem exec_tileEccError (core : RCore) (slot : Fin 4) (double : Bool) (s : State) : exec (.tileEccError core slot double) s = execTileEccError core slot double s := rfl
theorem exec_quadDrained (q : Fin 4) (s : State) : exec (.quadDrained q) s = execQuadDrained q s := rfl
theorem exec_workgroupEnd (core : RCore) (s : State) : exec (.workgroupEnd core) s = execWorkgroupEnd core s := rfl
theorem exec_workgroupYield (core : RCore) (s : State) : exec (.workgroupYield core) s = execWorkgroupYield core s := rfl
theorem exec_wgSaved (core : RCore) (s : State) : exec (.wgSaved core) s = execWgSaved core s := rfl
theorem exec_workgroupRestored (core : RCore) (s : State) : exec (.workgroupRestored core) s = execWorkgroupRestored core s := rfl
theorem exec_tileOverrun (core : RCore) (s : State) : exec (.tileOverrun core) s = execTileOverrun core s := rfl
theorem exec_governorEvaluate (h : Head) (latch : Nat) (s : State) : exec (.governorEvaluate h latch) s = execGovernorEvaluate h latch s := rfl
theorem exec_flip (c : Client) (s : State) : exec (.flip c) s = execFlip c s := rfl
theorem exec_flipGroup (c : Client) (s : State) : exec (.flipGroup c) s = execFlipGroup c s := rfl
theorem exec_motion (c : Client) (s : State) : exec (.motion c) s = execMotion c s := rfl
theorem exec_release (c : Client) (s : State) : exec (.release c) s = execRelease c s := rfl
theorem exec_flipStatus (c : Client) (s : State) : exec (.flipStatus c) s = execFlipStatus c s := rfl
theorem exec_directAddrWrite (who : Requester) (h : Head) (f : Facet) (sub : Fin 3) (bytes : List Byte) (s : State) : exec (.directAddrWrite who h f sub bytes) s = execDirectAddrWrite who h f sub bytes s := rfl
theorem exec_wbStart (c : Client) (s : State) : exec (.wbStart c) s = execWbStart c s := rfl
theorem exec_wbStop (c : Client) (s : State) : exec (.wbStop c) s = execWbStop c s := rfl
theorem exec_wbFrame (h : Head) (s : State) : exec (.wbFrame h) s = execWbFrame h s := rfl
theorem exec_headLineStart (h : Head) (late : Option Missing) (wbFull : Bool) (s : State) : exec (.headLineStart h late wbFull) s = execHeadLineStart h late wbFull s := rfl
theorem exec_lineFetchComplete (h : Head) (s : State) : exec (.lineFetchComplete h) s = execLineFetchComplete h s := rfl
theorem exec_headLatch (h : Head) (s : State) : exec (.headLatch h) s = execHeadLatch h s := rfl
theorem exec_headFrame (h : Head) (s : State) : exec (.headFrame h) s = execHeadFrame h s := rfl
theorem exec_headVblank (h : Head) (s : State) : exec (.headVblank h) s = execHeadVblank h s := rfl
theorem exec_teEdge (pin : Fin 4) (falling : Bool) (s : State) : exec (.teEdge pin falling) s = execTeEdge pin falling s := rfl
theorem exec_teTimeout (h : Head) (s : State) : exec (.teTimeout h) s = execTeTimeout h s := rfl
theorem exec_timingChangeImmediate (h : Head) (s : State) : exec (.timingChangeImmediate h) s = execTimingChangeImmediate h s := rfl
theorem exec_timingChangeClean (h : Head) (s : State) : exec (.timingChangeClean h) s = execTimingChangeClean h s := rfl
theorem exec_headEnable (h : Head) (s : State) : exec (.headEnable h) s = execHeadEnable h s := rfl
theorem exec_headDisable (h : Head) (s : State) : exec (.headDisable h) s = execHeadDisable h s := rfl
theorem exec_routeChange (h : Head) (s : State) : exec (.routeChange h) s = execRouteChange h s := rfl
theorem exec_lockStampTimeout (h : Head) (s : State) : exec (.lockStampTimeout h) s = execLockStampTimeout h s := rfl
theorem exec_portBringupStart (p : Port) (s : State) : exec (.portBringupStart p) s = execPortBringupStart p s := rfl
theorem exec_hpdStable (p : Port) (s : State) : exec (.hpdStable p) s = execHpdStable p s := rfl
theorem exec_portReady (p : Port) (s : State) : exec (.portReady p) s = execPortReady p s := rfl
theorem exec_portLinkFail (p : Port) (s : State) : exec (.portLinkFail p) s = execPortLinkFail p s := rfl
theorem exec_portRetry (p : Port) (s : State) : exec (.portRetry p) s = execPortRetry p s := rfl
theorem exec_hpdLow (p : Port) (s : State) : exec (.hpdLow p) s = execHpdLow p s := rfl
theorem exec_irqHpd (p : Port) (lost : Bool) (s : State) : exec (.irqHpd p lost) s = execIrqHpd p lost s := rfl
theorem exec_linkStatusPoll (p : Port) (lost : Bool) (s : State) : exec (.linkStatusPoll p lost) s = execLinkStatusPoll p lost s := rfl
theorem exec_csiFrameStart (r : Receiver) (vc : Nat) (num : Nat) (hdr : Fin 3) (s : State) : exec (.csiFrameStart r vc num hdr) s = execCsiFrameStart r vc num hdr s := rfl
theorem exec_csiLinePacket (r : Receiver) (vc : Nat) (dt : Nat) (bytes : List Byte) (crcOk : Bool) (hdr : Fin 3) (s : State) : exec (.csiLinePacket r vc dt bytes crcOk hdr) s = execCsiLinePacket r vc dt bytes crcOk hdr s := rfl
theorem exec_csiFrameEnd (r : Receiver) (vc : Nat) (num : Nat) (hdr : Fin 3) (s : State) : exec (.csiFrameEnd r vc num hdr) s = execCsiFrameEnd r vc num hdr s := rfl
theorem exec_csiPacketGap (r : Receiver) (s : State) : exec (.csiPacketGap r) s = execCsiPacketGap r s := rfl
theorem exec_camOpen (c : Client) (s : State) : exec (.camOpen c) s = execCamOpen c s := rfl
theorem exec_camClose (c : Client) (s : State) : exec (.camClose c) s = execCamClose c s := rfl
theorem exec_camAttach (c : Client) (s : State) : exec (.camAttach c) s = execCamAttach c s := rfl
theorem exec_camDetach (c : Client) (s : State) : exec (.camDetach c) s = execCamDetach c s := rfl
theorem exec_camQuery (c : Client) (s : State) : exec (.camQuery c) s = execCamQuery c s := rfl
theorem exec_camLossTimeout (r : Receiver) (s : State) : exec (.camLossTimeout r) s = execCamLossTimeout r s := rfl
theorem exec_presentation (h : Head) (p : Presentation) (s : State) : exec (.presentation h p) s = execPresentation h p s := rfl
theorem exec_ackHoldReached (p : Panel) (contact : Nat) (s : State) : exec (.ackHoldReached p contact) s = execAckHoldReached p contact s := rfl
theorem exec_regionCompare (h : Head) (region : Nat) (s : State) : exec (.regionCompare h region) s = execRegionCompare h region s := rfl
theorem exec_cvAcquire (c : Client) (s : State) : exec (.cvAcquire c) s = execCvAcquire c s := rfl
theorem exec_cvRun (c : Client) (s : State) : exec (.cvRun c) s = execCvRun c s := rfl
theorem exec_cvRelease (c : Client) (s : State) : exec (.cvRelease c) s = execCvRelease c s := rfl
theorem exec_cvComputationEnd (u : CvUnit) (s : State) : exec (.cvComputationEnd u) s = execCvComputationEnd u s := rfl
theorem exec_touchScanStart (p : Panel) (s : State) : exec (.touchScanStart p) s = execTouchScanStart p s := rfl
theorem exec_touchStepEnd (p : Panel) (samples : List Int) (s : State) : exec (.touchStepEnd p samples) s = execTouchStepEnd p samples s := rfl
theorem exec_touchReport (p : Panel) (s : State) : exec (.touchReport p) s = execTouchReport p s := rfl
theorem exec_panelStart (p : Panel) (s : State) : exec (.panelStart p) s = execPanelStart p s := rfl
theorem exec_referenceTestDone (p : Panel) (results : List Nat) (s : State) : exec (.referenceTestDone p results) s = execReferenceTestDone p results s := rfl
theorem exec_startVerifyTimeout (p : Panel) (s : State) : exec (.startVerifyTimeout p) s = execStartVerifyTimeout p s := rfl
theorem exec_selftest (who : Requester) (p : Panel) (s : State) : exec (.selftest who p) s = execSelftest who p s := rfl
theorem exec_capture (who : Requester) (p : Panel) (s : State) : exec (.capture who p) s = execCapture who p s := rfl
theorem exec_captureDone (p : Panel) (s : State) : exec (.captureDone p) s = execCaptureDone p s := rfl
theorem exec_touchBacklogDelivery (p : Panel) (s : State) : exec (.touchBacklogDelivery p) s = execTouchBacklogDelivery p s := rfl
theorem exec_touchSubscribe (c : Client) (s : State) : exec (.touchSubscribe c) s = execTouchSubscribe c s := rfl
theorem exec_touchUnsubscribe (c : Client) (s : State) : exec (.touchUnsubscribe c) s = execTouchUnsubscribe c s := rfl
theorem exec_touchQuery (c : Client) (s : State) : exec (.touchQuery c) s = execTouchQuery c s := rfl
theorem exec_touchIclApply (p : Panel) (s : State) : exec (.touchIclApply p) s = execTouchIclApply p s := rfl
theorem exec_touchIclSelftest (p : Panel) (s : State) : exec (.touchIclSelftest p) s = execTouchIclSelftest p s := rfl
theorem exec_touchIclCapture (p : Panel) (s : State) : exec (.touchIclCapture p) s = execTouchIclCapture p s := rfl
theorem exec_touchIclSubscribe (p : Panel) (s : State) : exec (.touchIclSubscribe p) s = execTouchIclSubscribe p s := rfl
theorem exec_touchIclUnsubscribe (p : Panel) (s : State) : exec (.touchIclUnsubscribe p) s = execTouchIclUnsubscribe p s := rfl
theorem exec_tafeSupplyLow (s : State) : exec (.tafeSupplyLow) s = execTafeSupplyLow s := rfl
theorem exec_hapticTrigger (c : Client) (s : State) : exec (.hapticTrigger c) s = execHapticTrigger c s := rfl
theorem exec_hapticStop (c : Client) (s : State) : exec (.hapticStop c) s = execHapticStop c s := rfl
theorem exec_hapticQuery (c : Client) (s : State) : exec (.hapticQuery c) s = execHapticQuery c s := rfl
theorem exec_hapIclTrigger (s : State) : exec (.hapIclTrigger) s = execHapIclTrigger s := rfl
theorem exec_hapIclCalibrate (s : State) : exec (.hapIclCalibrate) s = execHapIclCalibrate s := rfl
theorem exec_hapIclStop (s : State) : exec (.hapIclStop) s = execHapIclStop s := rfl
theorem exec_hapIclApply (s : State) : exec (.hapIclApply) s = execHapIclApply s := rfl
theorem exec_calibrate (who : Requester) (n : Hap) (s : State) : exec (.calibrate who n) s = execCalibrate who n s := rfl
theorem exec_calibrationEnd (n : Hap) (results : List Nat) (s : State) : exec (.calibrationEnd n results) s = execCalibrationEnd n results s := rfl
theorem exec_attackEnd (n : Hap) (s : State) : exec (.attackEnd n) s = execAttackEnd n s := rfl
theorem exec_sustainEnd (n : Hap) (rNow : Nat) (s : State) : exec (.sustainEnd n rNow) s = execSustainEnd n rNow s := rfl
theorem exec_brakingEnd (n : Hap) (why : BrakeEnd) (s : State) : exec (.brakingEnd n why) s = execBrakingEnd n why s := rfl
theorem exec_gapEnd (n : Hap) (s : State) : exec (.gapEnd n) s = execGapEnd n s := rfl
theorem exec_hapOvercurrent (n : Hap) (s : State) : exec (.hapOvercurrent n) s = execHapOvercurrent n s := rfl
theorem exec_accRead (n : Hap) (sample : Option Int) (s : State) : exec (.accRead n sample) s = execAccRead n sample s := rfl
theorem exec_audioSampleTick (d : ADomain) (pdm : List Int) (s : State) : exec (.audioSampleTick d pdm) s = execAudioSampleTick d pdm s := rfl
theorem exec_busSilenceHoldExpiry (b : Bus) (s : State) : exec (.busSilenceHoldExpiry b) s = execBusSilenceHoldExpiry b s := rfl
theorem exec_audioApply (n : Fin 2) (s : State) : exec (.audioApply n) s = execAudioApply n s := rfl
theorem exec_audioIclStream (n : Fin 2) (s : State) : exec (.audioIclStream n) s = execAudioIclStream n s := rfl
theorem exec_tdmFrameSync (n : Tdm) (samples : List Int) (pdm : List Int) (s : State) : exec (.tdmFrameSync n samples pdm) s = execTdmFrameSync n samples pdm s := rfl
theorem exec_tdmFrameMissing (n : Tdm) (s : State) : exec (.tdmFrameMissing n) s = execTdmFrameMissing n s := rfl
theorem exec_refPhaseMatch (d : ADomain) (slip : Bool) (s : State) : exec (.refPhaseMatch d slip) s = execRefPhaseMatch d slip s := rfl
theorem exec_asrcLocked (k : Asrc) (ratio : Nat) (s : State) : exec (.asrcLocked k ratio) s = execAsrcLocked k ratio s := rfl
theorem exec_streamOpen (c : Client) (s : State) : exec (.streamOpen c) s = execStreamOpen c s := rfl
theorem exec_streamClose (c : Client) (s : State) : exec (.streamClose c) s = execStreamClose c s := rfl
theorem exec_streamQuery (c : Client) (s : State) : exec (.streamQuery c) s = execStreamQuery c s := rfl
theorem exec_streamPeriodBoundary (n : Stream) (s : State) : exec (.streamPeriodBoundary n) s = execStreamPeriodBoundary n s := rfl
theorem exec_dramReadRequest (r : DramReq) (s : State) : exec (.dramReadRequest r) s = execDramReadRequest r s := rfl
theorem exec_dramWriteRequest (r : DramReq) (bytes : List Byte) (s : State) : exec (.dramWriteRequest r bytes) s = execDramWriteRequest r bytes s := rfl
theorem exec_dramCommandSlot (ch : Chan) (err : DramErr) (syndrome : Nat) (s : State) : exec (.dramCommandSlot ch err syndrome) s = execDramCommandSlot ch err syndrome s := rfl
theorem exec_refreshAccrual (ch : Chan) (rank : Fin 2) (s : State) : exec (.refreshAccrual ch rank) s = execRefreshAccrual ch rank s := rfl
theorem exec_mr4Read (ch : Chan) (rank : Fin 2) (asks : Nat) (drifted : Bool) (s : State) : exec (.mr4Read ch rank asks drifted) s = execMr4Read ch rank asks drifted s := rfl
theorem exec_powerDownEntry (ch : Chan) (rank : Fin 2) (s : State) : exec (.powerDownEntry ch rank) s = execPowerDownEntry ch rank s := rfl
theorem exec_memSrEnter (ch : Chan) (s : State) : exec (.memSrEnter ch) s = execMemSrEnter ch s := rfl
theorem exec_memSrExit (ch : Chan) (s : State) : exec (.memSrExit ch) s = execMemSrExit ch s := rfl
theorem exec_trainDone (failed : BitVec 8) (s : State) : exec (.trainDone failed) s = execTrainDone failed s := rfl
theorem exec_scrubPass (s : State) : exec (.scrubPass) s = execScrubPass s := rfl
theorem exec_memLogClear (who : Requester) (v : Byte) (s : State) : exec (.memLogClear who v) s = execMemLogClear who v s := rfl
theorem exec_trustedVersionCall (cc : CCore) (s : State) : exec (.trustedVersionCall cc) s = execTrustedVersionCall cc s := rfl
theorem exec_result (cc : CCore) (ticket : Nat) (s : State) : exec (.result cc ticket) s = execResult cc ticket s := rfl
theorem exec_ownAssign (cc : CCore) (block : Nat) (owner : Nat) (s : State) : exec (.ownAssign cc block owner) s = execOwnAssign cc block owner s := rfl
theorem exec_ownQuery (cc : CCore) (block : Nat) (s : State) : exec (.ownQuery cc block) s = execOwnQuery cc block s := rfl
theorem exec_camNotice (cc : CCore) (receiver : Nat) (mask : Nat) (s : State) : exec (.camNotice cc receiver mask) s = execCamNotice cc receiver mask s := rfl
theorem exec_flashWrite (cc : CCore) (region : Nat) (off : Nat) (phys : Nat) (len : Nat) (s : State) : exec (.flashWrite cc region off phys len) s = execFlashWrite cc region off phys len s := rfl
theorem exec_flashRead (cc : CCore) (region : Nat) (off : Nat) (phys : Nat) (len : Nat) (s : State) : exec (.flashRead cc region off phys len) s = execFlashRead cc region off phys len s := rfl
theorem exec_imageVerify (cc : CCore) (kind : Nat) (slot : Nat) (s : State) : exec (.imageVerify cc kind slot) s = execImageVerify cc kind slot s := rfl
theorem exec_signet (cc : CCore) (nonce : Nat) (out : Nat) (s : State) : exec (.signet cc nonce out) s = execSignet cc nonce out s := rfl
theorem exec_cert (cc : CCore) (out : Nat) (len : Nat) (s : State) : exec (.cert cc out len) s = execCert cc out len s := rfl
theorem exec_debugUnlock (cc : CCore) (addr : Nat) (s : State) : exec (.debugUnlock cc addr) s = execDebugUnlock cc addr s := rfl
theorem exec_debugLock (cc : CCore) (mask : Nat) (s : State) : exec (.debugLock cc mask) s = execDebugLock cc mask s := rfl
theorem exec_debugKey (cc : CCore) (addr : Nat) (s : State) : exec (.debugKey cc addr) s = execDebugKey cc addr s := rfl
theorem exec_lktDone (s : State) : exec (.lktDone) s = execLktDone s := rfl
theorem exec_trustedDictRead (idx : Nat) (sub : Nat) (s : State) : exec (.trustedDictRead idx sub) s = execTrustedDictRead idx sub s := rfl
theorem exec_trustedDictWrite (idx : Nat) (sub : Nat) (bytes : List Byte) (s : State) : exec (.trustedDictWrite idx sub bytes) s = execTrustedDictWrite idx sub bytes s := rfl
theorem exec_trustedDictCommit (s : State) : exec (.trustedDictCommit) s = execTrustedDictCommit s := rfl
theorem exec_tctx (n : Nat) (create : Bool) (desc : Nat) (s : State) : exec (.tctx n create desc) s = execTctx n create desc s := rfl
theorem exec_tsubmit (n : Nat) (record : Nat) (s : State) : exec (.tsubmit n record) s = execTsubmit n record s := rfl
theorem exec_handoverRelease (block : Nat) (s : State) : exec (.handoverRelease block) s = execHandoverRelease block s := rfl
theorem exec_handoverGrant (block : Nat) (s : State) : exec (.handoverGrant block) s = execHandoverGrant block s := rfl
theorem exec_clockPowerRequest (req : PowerReq) (s : State) : exec (.clockPowerRequest req) s = execClockPowerRequest req s := rfl
theorem exec_watchdogService (s : State) : exec (.watchdogService) s = execWatchdogService s := rfl
theorem exec_lktRestart (s : State) : exec (.lktRestart) s = execLktRestart s := rfl
theorem exec_lktResumed (s : State) : exec (.lktResumed) s = execLktResumed s := rfl
theorem exec_failedSeriesReset (s : State) : exec (.failedSeriesReset) s = execFailedSeriesReset s := rfl
theorem exec_unlockMaskWrite (who : Requester) (v : Byte) (s : State) : exec (.unlockMaskWrite who v) s = execUnlockMaskWrite who v s := rfl
theorem exec_unlockResponseWrite (who : Requester) (bytes : List Byte) (s : State) : exec (.unlockResponseWrite who bytes) s = execUnlockResponseWrite who bytes s := rfl
theorem exec_unlockVerified (s : State) : exec (.unlockVerified) s = execUnlockVerified s := rfl
theorem exec_nonceWrite (who : Requester) (bytes : List Byte) (s : State) : exec (.nonceWrite who bytes) s = execNonceWrite who bytes s := rfl
theorem exec_signetReady (s : State) : exec (.signetReady) s = execSignetReady s := rfl
theorem exec_debugHaltRequest (t : HaltTarget) (s : State) : exec (.debugHaltRequest t) s = execDebugHaltRequest t s := rfl
theorem exec_jtagExtest (pins : Nat) (s : State) : exec (.jtagExtest pins) s = execJtagExtest pins s := rfl
theorem exec_jtagIdcode (s : State) : exec (.jtagIdcode) s = execJtagIdcode s := rfl
theorem exec_jtagSamplePreload (pins : Nat) (s : State) : exec (.jtagSamplePreload pins) s = execJtagSamplePreload pins s := rfl
theorem exec_jtagExtestPulse (pins : Nat) (s : State) : exec (.jtagExtestPulse pins) s = execJtagExtestPulse pins s := rfl
theorem exec_jtagExtestTrain (pins : Nat) (s : State) : exec (.jtagExtestTrain pins) s = execJtagExtestTrain pins s := rfl
theorem exec_jtagDtmcs (shift : JtagShift) (s : State) : exec (.jtagDtmcs shift) s = execJtagDtmcs shift s := rfl
theorem exec_jtagDmi (shift : JtagShift) (s : State) : exec (.jtagDmi shift) s = execJtagDmi shift s := rfl
theorem exec_jtagLoupeMbox (shift : JtagShift) (s : State) : exec (.jtagLoupeMbox shift) s = execJtagLoupeMbox shift s := rfl
theorem exec_jtagBypass (ir : BitVec 5) (s : State) : exec (.jtagBypass ir) s = execJtagBypass ir s := rfl
theorem exec_linkBeat (x : Xing) (side : XSide) (v : Nat) (dest : BeatDest) (trusted : Bool) (accepted : Bool) (s : State) : exec (.linkBeat x side v dest trusted accepted) s = execLinkBeat x side v dest trusted accepted s := rfl
theorem exec_flagEvent (x : Xing) (side : XSide) (f : FlagStep) (s : State) : exec (.flagEvent x side f) s = execFlagEvent x side f s := rfl
theorem exec_valueWrite (x : Xing) (side : XSide) (v : Nat) (s : State) : exec (.valueWrite x side v) s = execValueWrite x side v s := rfl
theorem exec_valueCapture (x : Xing) (side : XSide) (s : State) : exec (.valueCapture x side) s = execValueCapture x side s := rfl
theorem exec_valueAcknowledge (x : Xing) (side : XSide) (write : Option Nat) (s : State) : exec (.valueAcknowledge x side write) s = execValueAcknowledge x side write s := rfl
theorem exec_xingTimeout (x : Xing) (side : XSide) (s : State) : exec (.xingTimeout x side) s = execXingTimeout x side s := rfl
theorem exec_xingClockResumed (x : Xing) (s : State) : exec (.xingClockResumed x) s = execXingClockResumed x s := rfl
theorem exec_islandResetRequest (k : Island) (xing : Option Xing) (s : State) : exec (.islandResetRequest k xing) s = execIslandResetRequest k xing s := rfl
theorem exec_xingNotice (x : Xing) (side : XSide) (s : State) : exec (.xingNotice x side) s = execXingNotice x side s := rfl
theorem exec_xingRejoin (x : Xing) (s : State) : exec (.xingRejoin x) s = execXingRejoin x s := rfl
theorem exec_perstN (s : State) : exec (.perstN) s = execPerstN s := rfl
theorem exec_xingLogClear (who : Requester) (v : Byte) (s : State) : exec (.xingLogClear who v) s = execXingLogClear who v s := rfl
theorem exec_domainIdleExpiry (d : Domain) (s : State) : exec (.domainIdleExpiry d) s = execDomainIdleExpiry d s := rfl
theorem exec_domainOff (d : Domain) (s : State) : exec (.domainOff d) s = execDomainOff d s := rfl
theorem exec_wakeEvent (d : Domain) (src : WakeRow) (s : State) : exec (.wakeEvent d src) s = execWakeEvent d src s := rfl
theorem exec_domainOn (d : Domain) (s : State) : exec (.domainOn d) s = execDomainOn d s := rfl
theorem exec_deepSleep (who : Requester) (s : State) : exec (.deepSleep who) s = execDeepSleep who s := rfl
theorem exec_deepSleepExit (src : SleepExit) (s : State) : exec (.deepSleepExit src) s = execDeepSleepExit src s := rfl
theorem exec_supplyWarn (r : Rail) (samples : List Nat) (s : State) : exec (.supplyWarn r samples) s = execSupplyWarn r samples s := rfl
theorem exec_supplyWarningEnd (r : Rail) (mv : Nat) (s : State) : exec (.supplyWarningEnd r mv) s = execSupplyWarningEnd r mv s := rfl
theorem exec_supplyReset (r : Rail) (samples : List Nat) (s : State) : exec (.supplyReset r samples) s = execSupplyReset r samples s := rfl
theorem exec_thermalSample (temps : List Int) (s : State) : exec (.thermalSample temps) s = execThermalSample temps s := rfl
theorem exec_throttleStep (s : State) : exec (.throttleStep) s = execThrottleStep s := rfl
theorem exec_throttleRaise (s : State) : exec (.throttleRaise) s = execThrottleRaise s := rfl
theorem exec_thermalTrip (n : Sensor) (temp : Int) (s : State) : exec (.thermalTrip n temp) s = execThermalTrip n temp s := rfl
theorem exec_tedHit (k : Island) (s : State) : exec (.tedHit k) s = execTedHit k s := rfl
theorem exec_hoursTick (s : State) : exec (.hoursTick) s = execHoursTick s := rfl
theorem exec_hoursPersist (s : State) : exec (.hoursPersist) s = execHoursPersist s := rfl
theorem exec_epochNow (who : Requester) (s : State) : exec (.epochNow who) s = execEpochNow who s := rfl
theorem exec_maintWindow (who : Requester) (n : Nat) (s : State) : exec (.maintWindow who n) s = execMaintWindow who n s := rfl
theorem exec_maintWindowClose (s : State) : exec (.maintWindowClose) s = execMaintWindowClose s := rfl
theorem exec_epochStart (s : State) : exec (.epochStart) s = execEpochStart s := rfl
theorem exec_epochDone (meas : EpochMeas) (s : State) : exec (.epochDone meas) s = execEpochDone meas s := rfl
theorem exec_avsWrite (acked : Bool) (s : State) : exec (.avsWrite acked) s = execAvsWrite acked s := rfl
theorem exec_supplyLogClear (who : Requester) (v : Byte) (s : State) : exec (.supplyLogClear who v) s = execSupplyLogClear who v s := rfl
theorem exec_powerOnReset (s : State) : exec (.powerOnReset) s = execPowerOnReset s := rfl
theorem exec_resetN (s : State) : exec (.resetN) s = execResetN s := rfl
theorem exec_bootStart (s : State) : exec (.bootStart) s = execBootStart s := rfl
theorem exec_trialImageFail (s : State) : exec (.trialImageFail) s = execTrialImageFail s := rfl
theorem exec_canBusOff (n : Can) (s : State) : exec (.canBusOff n) s = execCanBusOff n s := rfl
theorem exec_canErrorPassiveEnd (n : Can) (s : State) : exec (.canErrorPassiveEnd n) s = execCanErrorPassiveEnd n s := rfl
theorem exec_audMclkbClockChange (on : Bool) (s : State) : exec (.audMclkbClockChange on) s = execAudMclkbClockChange on s := rfl
theorem exec_islandResetRelease (k : Island) (s : State) : exec (.islandResetRelease k) s = execIslandResetRelease k s := rfl
theorem exec_islandClockStable (k : Island) (s : State) : exec (.islandClockStable k) s = execIslandClockStable k s := rfl
theorem exec_deepSleepEntered (s : State) : exec (.deepSleepEntered) s = execDeepSleepEntered s := rfl
theorem exec_siiAliasWrite (addr : Nat) (v : BitVec 16) (s : State) : exec (.siiAliasWrite addr v) s = execSiiAliasWrite addr v s := rfl
theorem exec_jtagTapReset (s : State) : exec (.jtagTapReset) s = execJtagTapReset s := rfl

end Sys2Proof.Laws
end

