-- ==== Sys2Proof/Laws/Kept.lean ====
section
/-! SUPPORT. What every operation of the block keeps: the queue of waiting commands, the engraving (R243), the canonical form of the
dictionary and the DRAM, a legal EtherCAT state, and every part of the state outside a list. A command's effect is a chain of
operations, and each keeps these. -/

namespace Sys2Proof.Laws

open Sys2Proof.Machine

/-- A part is one of the listed parts. -/
class May (ch : List Part) (p : Part) : Prop where
  mem : p ∈ ch

theorem May.or {ch : List Part} {p : Part} {q : Prop} [h : May ch p] : May ch p ∨ q := .inl h

theorem samePart.refl (p : Part) (s : State) : samePart p s s := by cases p <;> rfl

theorem samePart.trans {p : Part} {r s t : State} (h : samePart p r s) (k : samePart p s t) : samePart p r t := by
  cases p <;> exact Eq.trans k h

theorem samePart.symm {p : Part} {r s : State} (h : samePart p r s) : samePart p s r := by cases p <;> exact Eq.symm h

/-- `t` keeps these things of `r`, and differs from it in the parts `ch` alone. -/
structure Kept (ch : List Part) (r t : State) : Prop where
  pending : t.pending = r.pending
  engraving : t.cameo.engraving = r.cameo.engraving
  wf : Memory.wf r = true → Memory.wf t = true
  al : legalAl r = true → legalAl t = true
  parts : changesOnly ch r t

theorem Kept.refl (ch : List Part) (r : State) : Kept ch r r := ⟨rfl, rfl, id, id, fun p _ => samePart.refl p r⟩

/-- A loop over a list. -/
theorem Kept.foldl {ch : List Part} {r : State} {β : Type} {f : State → β → State} {l : List β} {s : State}
    (hf : ∀ t x, Kept ch r t → Kept ch r (f t x)) (h : Kept ch r s) : Kept ch r (l.foldl f s) := by
  induction l generalizing s with
  | nil => exact h
  | cons x l ih => exact ih (hf s x h)

/-- A choice. -/
theorem Kept.ite {ch : List Part} {r a b : State} {c : Prop} [Decidable c] (ha : Kept ch r a) (hb : Kept ch r b) :
    Kept ch r (if c then a else b) := by
  split
  · exact ha
  · exact hb

/-- A choice between states with a value. -/
theorem Kept.ite_fst {ch : List Part} {r : State} {α : Type} {a b : State × α} {c : Prop} [Decidable c] (ha : Kept ch r a.1)
    (hb : Kept ch r b.1) : Kept ch r (if c then a else b).1 := by
  split
  · exact ha
  · exact hb

theorem Kept.od {ch : List Part} [m : May ch .od] {r s : State} (h : Kept ch r s) (d : Tbl Nat)
    (h3 : twf odDefault s.od = true → twf odDefault d = true) : Kept ch r { s with od := d } :=
  ⟨h.pending, h.engraving, fun w => by
    have := h.wf w
    simp only [Memory.wf, Bool.and_eq_true] at *
    exact ⟨⟨h3 this.1.1, this.1.2⟩, this.2⟩, h.al, fun p hp => samePart.trans (h.parts p hp) (by
      cases p <;> first | rfl | exact absurd m.mem hp)⟩

theorem Kept.wr {ch : List Part} [May ch .od] {r s : State} (h : Kept ch r s) (k v : Nat) : Kept ch r (wr s k v) :=
  h.od _ (fun w => twf_tset _ _ _ _ w)

theorem Kept.clearOd {ch : List Part} [May ch .od] {r s : State} (h : Kept ch r s) (p : Nat → Bool) :
    Kept ch r { s with od := tclear p s.od } := h.od _ (fun w => twf_tclear _ _ _ w)

theorem Kept.dput {ch : List Part} [m : May ch .dom] {r s : State} (h : Kept ch r s) (k : Nat) (v : List Byte) :
    Kept ch r (dput s k v) :=
  ⟨h.pending, h.engraving, fun w => by
    have := h.wf w
    simp only [Memory.wf, Bool.and_eq_true, Machine.dput] at *
    exact ⟨⟨this.1.1, twf_tset _ _ _ _ this.1.2⟩, this.2⟩, h.al, fun p hp => samePart.trans (h.parts p hp) (by
      cases p <;> first | rfl | exact absurd m.mem hp)⟩

/-- A change of the DRAM and of the memory controller's part. -/
theorem Kept.mem {ch : List Part} [m : May ch .mem] [n : May ch .memc] {r s : State} (h : Kept ch r s) (d : List Host.Cell)
    (c : MemSt) (h3 : twf memDefault s.mem = true → twf memDefault d = true) : Kept ch r { s with mem := d, memc := c } :=
  ⟨h.pending, h.engraving, fun w => by
    have := h.wf w
    simp only [Memory.wf, Bool.and_eq_true] at *
    exact ⟨this.1, h3 this.2⟩, h.al, fun p hp => samePart.trans (h.parts p hp) (by
      cases p <;> first | rfl | exact absurd m.mem hp | exact absurd n.mem hp)⟩

/-- A change of the DRAM alone. -/
theorem Kept.memOnly {ch : List Part} [m : May ch .mem] {r s : State} (h : Kept ch r s) (d : List Host.Cell)
    (h3 : twf memDefault s.mem = true → twf memDefault d = true) : Kept ch r { s with mem := d } :=
  ⟨h.pending, h.engraving, fun w => by
    have := h.wf w
    simp only [Memory.wf, Bool.and_eq_true] at *
    exact ⟨this.1, h3 this.2⟩, h.al, fun p hp => samePart.trans (h.parts p hp) (by
      cases p <;> first | rfl | exact absurd m.mem hp)⟩

theorem Kept.memWr {ch : List Part} [May ch .mem] [May ch .memc] {r s : State} (h : Kept ch r s) (a : Nat) (v : Byte) :
    Kept ch r (memWr s a v) := h.mem _ _ (fun w => twf_tset _ _ _ _ w)

theorem Kept.memZero {ch : List Part} [May ch .mem] [May ch .memc] {r s : State} (h : Kept ch r s) (lo n : Nat) :
    Kept ch r (memZero s lo n) := h.mem _ _ (fun w => twf_tclear _ _ _ w)

/-- A change of the fieldbus part with a legal EtherCAT state. -/
theorem Kept.al_upd {ch : List Part} [m : May ch .field] {r s : State} (h : Kept ch r s) (f : FieldSt)
    (hl : legalAl r = true → legalAl { s with field := f } = true) : Kept ch r { s with field := f } :=
  ⟨h.pending, h.engraving, h.wf, hl, fun p hp => samePart.trans (h.parts p hp) (by
      cases p <;> first | rfl | exact absurd m.mem hp)⟩

/-! A record written out in full with the parts that Kept names taken from `s`, and a part that `ch` does not list too, is as good
as `s`. -/

theorem Kept.mk_eq {ch : List Part} {r s : State} {time free out fwQueue ten clasp dict raster compose heads ports touch hap
    audio memc control locket flash isl power boot} (htime : May ch .time ∨ time = s.time) (hfree : May ch .free ∨ free =
    s.free) (hout : May ch .out ∨ out = s.out) (hfwQueue : May ch .fwQueue ∨ fwQueue = s.fwQueue) (hten : May ch .ten ∨ ten =
    s.ten) (hclasp : May ch .clasp ∨ clasp = s.clasp) (hdict : May ch .dict ∨ dict = s.dict) (hraster : May ch .raster ∨ raster
    = s.raster) (hcompose : May ch .compose ∨ compose = s.compose) (hheads : May ch .heads ∨ heads = s.heads) (hports : May ch
    .ports ∨ ports = s.ports) (htouch : May ch .touch ∨ touch = s.touch) (hhap : May ch .hap ∨ hap = s.hap) (haudio : May ch
    .audio ∨ audio = s.audio) (hmemc : May ch .memc ∨ memc = s.memc) (hcontrol : May ch .control ∨ control = s.control) (hlocket
    : May ch .locket ∨ locket = s.locket) (hflash : May ch .flash ∨ flash = s.flash) (hisl : May ch .isl ∨ isl = s.isl) (hpower
    : May ch .power ∨ power = s.power) (hboot : May ch .boot ∨ boot = s.boot) : Kept ch r ⟨time, free, s.pending, out, fwQueue,
    s.od, s.dom, s.mem, ten, clasp, dict, s.field, raster, compose, heads, ports, s.cameo, touch, hap, audio, memc, control,
    locket, flash, isl, power, boot⟩ = Kept ch r s := by
  have e : ∀ p, p ∉ ch → samePart p s ⟨time, free, s.pending, out, fwQueue, s.od, s.dom, s.mem, ten, clasp, dict, s.field, raster,
    compose, heads, ports, s.cameo, touch, hap, audio, memc, control, locket, flash, isl, power, boot⟩ := fun p hp =>
    match p with
    | .time => htime.elim (fun m => absurd m.mem hp) id
    | .free => hfree.elim (fun m => absurd m.mem hp) id
    | .out => hout.elim (fun m => absurd m.mem hp) id
    | .fwQueue => hfwQueue.elim (fun m => absurd m.mem hp) id
    | .od => rfl
    | .dom => rfl
    | .mem => rfl
    | .ten => hten.elim (fun m => absurd m.mem hp) id
    | .clasp => hclasp.elim (fun m => absurd m.mem hp) id
    | .dict => hdict.elim (fun m => absurd m.mem hp) id
    | .field => rfl
    | .raster => hraster.elim (fun m => absurd m.mem hp) id
    | .compose => hcompose.elim (fun m => absurd m.mem hp) id
    | .heads => hheads.elim (fun m => absurd m.mem hp) id
    | .ports => hports.elim (fun m => absurd m.mem hp) id
    | .cameo => rfl
    | .touch => htouch.elim (fun m => absurd m.mem hp) id
    | .hap => hhap.elim (fun m => absurd m.mem hp) id
    | .audio => haudio.elim (fun m => absurd m.mem hp) id
    | .memc => hmemc.elim (fun m => absurd m.mem hp) id
    | .control => hcontrol.elim (fun m => absurd m.mem hp) id
    | .locket => hlocket.elim (fun m => absurd m.mem hp) id
    | .flash => hflash.elim (fun m => absurd m.mem hp) id
    | .isl => hisl.elim (fun m => absurd m.mem hp) id
    | .power => hpower.elim (fun m => absurd m.mem hp) id
    | .boot => hboot.elim (fun m => absurd m.mem hp) id
  exact propext ⟨fun h => ⟨h.pending, h.engraving, h.wf, h.al, fun p hp => samePart.trans (h.parts p hp) (samePart.symm (e p hp))⟩,
    fun h => ⟨h.pending, h.engraving, h.wf, h.al, fun p hp => samePart.trans (h.parts p hp) (e p hp)⟩⟩

theorem Kept.field_eq {ch : List Part} {r s : State} {time free out fwQueue ten clasp dict raster compose heads ports touch hap
    audio memc control locket flash isl power boot alStatus alHeld smStart smLen esc sysTime dcSync0 link syncMode buffers sm3
    stamp stampAt seqRef timedOut trigRef toggles lastTrig emcyQueue emcyLast lasting can cobSet foeImage} (htime : May ch .time
    ∨ time = s.time) (hfree : May ch .free ∨ free = s.free) (hout : May ch .out ∨ out = s.out) (hfwQueue : May ch .fwQueue ∨
    fwQueue = s.fwQueue) (hten : May ch .ten ∨ ten = s.ten) (hclasp : May ch .clasp ∨ clasp = s.clasp) (hdict : May ch .dict ∨
    dict = s.dict) (hfield : May ch .field ∨ ⟨s.field.al, alStatus, alHeld, smStart, smLen, esc, sysTime, dcSync0, link,
    syncMode, buffers, sm3, stamp, stampAt, seqRef, timedOut, trigRef, toggles, lastTrig, emcyQueue, emcyLast, lasting, can,
    cobSet, foeImage⟩ = s.field) (hraster : May ch .raster ∨ raster = s.raster) (hcompose : May ch .compose ∨ compose =
    s.compose) (hheads : May ch .heads ∨ heads = s.heads) (hports : May ch .ports ∨ ports = s.ports) (htouch : May ch .touch ∨
    touch = s.touch) (hhap : May ch .hap ∨ hap = s.hap) (haudio : May ch .audio ∨ audio = s.audio) (hmemc : May ch .memc ∨ memc
    = s.memc) (hcontrol : May ch .control ∨ control = s.control) (hlocket : May ch .locket ∨ locket = s.locket) (hflash : May ch
    .flash ∨ flash = s.flash) (hisl : May ch .isl ∨ isl = s.isl) (hpower : May ch .power ∨ power = s.power) (hboot : May ch
    .boot ∨ boot = s.boot) : Kept ch r ⟨time, free, s.pending, out, fwQueue, s.od, s.dom, s.mem, ten, clasp, dict, ⟨s.field.al,
    alStatus, alHeld, smStart, smLen, esc, sysTime, dcSync0, link, syncMode, buffers, sm3, stamp, stampAt, seqRef, timedOut,
    trigRef, toggles, lastTrig, emcyQueue, emcyLast, lasting, can, cobSet, foeImage⟩, raster, compose, heads, ports, s.cameo,
    touch, hap, audio, memc, control, locket, flash, isl, power, boot⟩ = Kept ch r s := by
  have e : ∀ p, p ∉ ch → samePart p s ⟨time, free, s.pending, out, fwQueue, s.od, s.dom, s.mem, ten, clasp, dict, ⟨s.field.al,
    alStatus, alHeld, smStart, smLen, esc, sysTime, dcSync0, link, syncMode, buffers, sm3, stamp, stampAt, seqRef, timedOut,
    trigRef, toggles, lastTrig, emcyQueue, emcyLast, lasting, can, cobSet, foeImage⟩, raster, compose, heads, ports, s.cameo,
    touch, hap, audio, memc, control, locket, flash, isl, power, boot⟩ := fun p hp =>
    match p with
    | .time => htime.elim (fun m => absurd m.mem hp) id
    | .free => hfree.elim (fun m => absurd m.mem hp) id
    | .out => hout.elim (fun m => absurd m.mem hp) id
    | .fwQueue => hfwQueue.elim (fun m => absurd m.mem hp) id
    | .od => rfl
    | .dom => rfl
    | .mem => rfl
    | .ten => hten.elim (fun m => absurd m.mem hp) id
    | .clasp => hclasp.elim (fun m => absurd m.mem hp) id
    | .dict => hdict.elim (fun m => absurd m.mem hp) id
    | .field => hfield.elim (fun m => absurd m.mem hp) id
    | .raster => hraster.elim (fun m => absurd m.mem hp) id
    | .compose => hcompose.elim (fun m => absurd m.mem hp) id
    | .heads => hheads.elim (fun m => absurd m.mem hp) id
    | .ports => hports.elim (fun m => absurd m.mem hp) id
    | .cameo => rfl
    | .touch => htouch.elim (fun m => absurd m.mem hp) id
    | .hap => hhap.elim (fun m => absurd m.mem hp) id
    | .audio => haudio.elim (fun m => absurd m.mem hp) id
    | .memc => hmemc.elim (fun m => absurd m.mem hp) id
    | .control => hcontrol.elim (fun m => absurd m.mem hp) id
    | .locket => hlocket.elim (fun m => absurd m.mem hp) id
    | .flash => hflash.elim (fun m => absurd m.mem hp) id
    | .isl => hisl.elim (fun m => absurd m.mem hp) id
    | .power => hpower.elim (fun m => absurd m.mem hp) id
    | .boot => hboot.elim (fun m => absurd m.mem hp) id
  exact propext ⟨fun h => ⟨h.pending, h.engraving, h.wf, h.al, fun p hp => samePart.trans (h.parts p hp) (samePart.symm (e p hp))⟩,
    fun h => ⟨h.pending, h.engraving, h.wf, h.al, fun p hp => samePart.trans (h.parts p hp) (e p hp)⟩⟩

theorem Kept.cameo_eq {ch : List Part} {r s : State} {time free out fwQueue ten clasp dict raster compose heads ports touch hap
    audio memc control locket flash isl power boot camHeads camCv} (htime : May ch .time ∨ time = s.time) (hfree : May ch .free
    ∨ free = s.free) (hout : May ch .out ∨ out = s.out) (hfwQueue : May ch .fwQueue ∨ fwQueue = s.fwQueue) (hten : May ch .ten ∨
    ten = s.ten) (hclasp : May ch .clasp ∨ clasp = s.clasp) (hdict : May ch .dict ∨ dict = s.dict) (hraster : May ch .raster ∨
    raster = s.raster) (hcompose : May ch .compose ∨ compose = s.compose) (hheads : May ch .heads ∨ heads = s.heads) (hports :
    May ch .ports ∨ ports = s.ports) (hcameo : May ch .cameo ∨ ⟨s.cameo.engraving, camHeads, camCv⟩ = s.cameo) (htouch : May ch
    .touch ∨ touch = s.touch) (hhap : May ch .hap ∨ hap = s.hap) (haudio : May ch .audio ∨ audio = s.audio) (hmemc : May ch
    .memc ∨ memc = s.memc) (hcontrol : May ch .control ∨ control = s.control) (hlocket : May ch .locket ∨ locket = s.locket)
    (hflash : May ch .flash ∨ flash = s.flash) (hisl : May ch .isl ∨ isl = s.isl) (hpower : May ch .power ∨ power = s.power)
    (hboot : May ch .boot ∨ boot = s.boot) : Kept ch r ⟨time, free, s.pending, out, fwQueue, s.od, s.dom, s.mem, ten, clasp,
    dict, s.field, raster, compose, heads, ports, ⟨s.cameo.engraving, camHeads, camCv⟩, touch, hap, audio, memc, control,
    locket, flash, isl, power, boot⟩ = Kept ch r s := by
  have e : ∀ p, p ∉ ch → samePart p s ⟨time, free, s.pending, out, fwQueue, s.od, s.dom, s.mem, ten, clasp, dict, s.field, raster,
    compose, heads, ports, ⟨s.cameo.engraving, camHeads, camCv⟩, touch, hap, audio, memc, control, locket, flash, isl, power,
    boot⟩ := fun p hp =>
    match p with
    | .time => htime.elim (fun m => absurd m.mem hp) id
    | .free => hfree.elim (fun m => absurd m.mem hp) id
    | .out => hout.elim (fun m => absurd m.mem hp) id
    | .fwQueue => hfwQueue.elim (fun m => absurd m.mem hp) id
    | .od => rfl
    | .dom => rfl
    | .mem => rfl
    | .ten => hten.elim (fun m => absurd m.mem hp) id
    | .clasp => hclasp.elim (fun m => absurd m.mem hp) id
    | .dict => hdict.elim (fun m => absurd m.mem hp) id
    | .field => rfl
    | .raster => hraster.elim (fun m => absurd m.mem hp) id
    | .compose => hcompose.elim (fun m => absurd m.mem hp) id
    | .heads => hheads.elim (fun m => absurd m.mem hp) id
    | .ports => hports.elim (fun m => absurd m.mem hp) id
    | .cameo => hcameo.elim (fun m => absurd m.mem hp) id
    | .touch => htouch.elim (fun m => absurd m.mem hp) id
    | .hap => hhap.elim (fun m => absurd m.mem hp) id
    | .audio => haudio.elim (fun m => absurd m.mem hp) id
    | .memc => hmemc.elim (fun m => absurd m.mem hp) id
    | .control => hcontrol.elim (fun m => absurd m.mem hp) id
    | .locket => hlocket.elim (fun m => absurd m.mem hp) id
    | .flash => hflash.elim (fun m => absurd m.mem hp) id
    | .isl => hisl.elim (fun m => absurd m.mem hp) id
    | .power => hpower.elim (fun m => absurd m.mem hp) id
    | .boot => hboot.elim (fun m => absurd m.mem hp) id
  exact propext ⟨fun h => ⟨h.pending, h.engraving, h.wf, h.al, fun p hp => samePart.trans (h.parts p hp) (samePart.symm (e p hp))⟩,
    fun h => ⟨h.pending, h.engraving, h.wf, h.al, fun p hp => samePart.trans (h.parts p hp) (e p hp)⟩⟩

end Sys2Proof.Laws
end

