-- ==== Sys2Proof/Laws/KeptOps.lean ====
section
/-! SUPPORT. What the operations of the named operations, requests and wake-ups keep (Kept): one lemma an operation. -/

set_option linter.unusedSimpArgs false
set_option linter.all false

namespace Sys2Proof.Laws

open Sys2Proof Sys2Proof.Machine

theorem bumpBy_kept {chg : List Part} [May chg .od] {r0 s : State} (h : Kept chg r0 s) (k : Nat) (n : Nat) : Kept chg r0 (bumpBy s k n) := by
  unfold bumpBy
  repeat' (first
      | with_reducible assumption | intro _ | with_reducible apply Kept.wr | with_reducible apply Kept.clearOd
      | with_reducible apply Kept.ite | with_reducible apply Kept.ite_fst | simp (disch := first
      | exact May.or | exact Or.inr rfl) only [Kept.mk_eq, Kept.field_eq, Kept.cameo_eq] | split | dsimp only)

theorem bump_kept {chg : List Part} [May chg .od] {r0 s : State} (h : Kept chg r0 s) (k : Nat) : Kept chg r0 (bump s k) := by
  unfold bump
  repeat' (first
      | with_reducible assumption | intro _ | with_reducible apply Kept.wr | with_reducible apply bumpBy_kept
      | with_reducible apply Kept.clearOd | with_reducible apply Kept.ite | with_reducible apply Kept.ite_fst
      | simp (disch := first | exact May.or | exact Or.inr rfl) only [Kept.mk_eq, Kept.field_eq, Kept.cameo_eq] | split
      | dsimp only)

theorem bumpWrap_kept {chg : List Part} [May chg .od] {r0 s : State} (h : Kept chg r0 s) (k : Nat) : Kept chg r0 (bumpWrap s k) := by
  unfold bumpWrap
  repeat' (first
      | with_reducible assumption | intro _ | with_reducible apply Kept.wr | with_reducible apply Kept.clearOd
      | with_reducible apply Kept.ite | with_reducible apply Kept.ite_fst | simp (disch := first
      | exact May.or | exact Or.inr rfl) only [Kept.mk_eq, Kept.field_eq, Kept.cameo_eq] | split | dsimp only)

theorem wrBit_kept {chg : List Part} [May chg .od] {r0 s : State} (h : Kept chg r0 s) (k : Nat) (i : Nat) (b : Bool) : Kept chg
    r0 (wrBit s k i b) := by
  unfold wrBit
  repeat' (first
      | with_reducible assumption | intro _ | with_reducible apply Kept.wr | with_reducible apply Kept.clearOd
      | with_reducible apply Kept.ite | with_reducible apply Kept.ite_fst | simp (disch := first
      | exact May.or | exact Or.inr rfl) only [Kept.mk_eq, Kept.field_eq, Kept.cameo_eq] | split | dsimp only)

theorem drawn_kept {chg : List Part} [May chg .free] {r0 s : State} (h : Kept chg r0 s)  : Kept chg r0 (drawn s) := by
  unfold drawn
  repeat' (first
      | with_reducible assumption | intro _ | with_reducible apply Kept.wr | with_reducible apply Kept.clearOd
      | with_reducible apply Kept.ite | with_reducible apply Kept.ite_fst | simp (disch := first
      | exact May.or | exact Or.inr rfl) only [Kept.mk_eq, Kept.field_eq, Kept.cameo_eq] | split | dsimp only)

theorem memWrAll_kept {chg : List Part} [May chg .mem] [May chg .memc] {r0 s : State} (h : Kept chg r0 s) (l : List (Nat ×
    Option Byte)) : Kept chg r0 (memWrAll s l) := by
  induction l generalizing s with
  | nil => exact h
  | cons p l ih =>
    obtain ⟨a, v⟩ := p
    cases v with
    | none => exact ih h
    | some v => exact ih (h.memWr a v)

theorem emit_kept {chg : List Part} [May chg .out] {r0 s : State} (h : Kept chg r0 s) (o : Out) : Kept chg r0 (emit s o) := by
  unfold emit
  repeat' (first
      | with_reducible assumption | intro _ | with_reducible apply Kept.wr | with_reducible apply Kept.clearOd
      | with_reducible apply Kept.ite | with_reducible apply Kept.ite_fst | simp (disch := first
      | exact May.or | exact Or.inr rfl) only [Kept.mk_eq, Kept.field_eq, Kept.cameo_eq] | split | dsimp only)

theorem send_kept {chg : List Part} [May chg .out] {r0 s : State} (h : Kept chg r0 s) (d : Dest) (vals : List Int) (bytes : List
    Byte) : Kept chg r0 (send s d vals bytes) := by
  unfold send
  repeat' (first
      | with_reducible assumption | intro _ | with_reducible apply Kept.wr | with_reducible apply emit_kept
      | with_reducible apply Kept.clearOd | with_reducible apply Kept.ite | with_reducible apply Kept.ite_fst
      | simp (disch := first | exact May.or | exact Or.inr rfl) only [Kept.mk_eq, Kept.field_eq, Kept.cameo_eq] | split
      | dsimp only)

theorem raise_kept {chg : List Part} [May chg .out] [May chg .fwQueue] [May chg .od] {r0 s : State} (h : Kept chg r0 s) (e : Ev)
    (args : List Int) : Kept chg r0 (raise s e args) := by
  unfold raise
  repeat' (first
      | with_reducible assumption | intro _ | with_reducible apply Kept.wr | with_reducible apply bump_kept
      | with_reducible apply emit_kept | with_reducible apply Kept.clearOd | with_reducible apply Kept.ite
      | with_reducible apply Kept.ite_fst | simp (disch := first
      | exact May.or | exact Or.inr rfl) only [Kept.mk_eq, Kept.field_eq, Kept.cameo_eq] | split | dsimp only)

theorem raiseTrusted_kept {chg : List Part} [May chg .out] {r0 s : State} (h : Kept chg r0 s) (e : Ev) (args : List Int) : Kept
    chg r0 (raiseTrusted s e args) := by
  unfold raiseTrusted
  repeat' (first
      | with_reducible assumption | intro _ | with_reducible apply Kept.wr | with_reducible apply emit_kept
      | with_reducible apply Kept.clearOd | with_reducible apply Kept.ite | with_reducible apply Kept.ite_fst
      | simp (disch := first | exact May.or | exact Or.inr rfl) only [Kept.mk_eq, Kept.field_eq, Kept.cameo_eq] | split
      | dsimp only)

theorem setCan_kept {chg : List Part} [May chg .field] {r0 s : State} (h : Kept chg r0 s) (n : Nat) (x : CanNode) : Kept chg r0 (setCan s n x) := by
  unfold setCan
  repeat' (first
      | with_reducible assumption | intro _ | with_reducible apply Kept.wr | with_reducible apply Kept.clearOd
      | with_reducible apply Kept.ite | with_reducible apply Kept.ite_fst | simp (disch := first
      | exact May.or | exact Or.inr rfl) only [Kept.mk_eq, Kept.field_eq, Kept.cameo_eq] | split | dsimp only)

theorem queueEmcy_kept {chg : List Part} [May chg .od] [May chg .field] {r0 s : State} (h : Kept chg r0 s) (m : Emcy) : Kept chg
    r0 (queueEmcy s m) := by
  unfold queueEmcy
  repeat' (first
      | with_reducible assumption | intro _ | with_reducible apply Kept.wr | with_reducible apply bump_kept
      | with_reducible apply Kept.clearOd | with_reducible apply Kept.ite | with_reducible apply Kept.ite_fst
      | simp (disch := first | exact May.or | exact Or.inr rfl) only [Kept.mk_eq, Kept.field_eq, Kept.cameo_eq] | split
      | dsimp only)

theorem emcySent_kept {chg : List Part} [May chg .field] {r0 s : State} (h : Kept chg r0 s) (code : Nat) (b0 : Nat) : Kept chg
    r0 (emcySent s code b0) := by
  unfold emcySent
  repeat' (first
      | with_reducible assumption | intro _ | with_reducible apply Kept.wr | with_reducible apply Kept.clearOd
      | with_reducible apply Kept.ite | with_reducible apply Kept.ite_fst | simp (disch := first
      | exact May.or | exact Or.inr rfl) only [Kept.mk_eq, Kept.field_eq, Kept.cameo_eq] | split | dsimp only)

theorem emcy_kept {chg : List Part} [May chg .od] [May chg .field] {r0 s : State} (h : Kept chg r0 s) (code : Nat) (b0 : Nat)
    (rest : Nat) : Kept chg r0 (emcy s code b0 rest) := by
  unfold emcy
  repeat' (first
      | with_reducible assumption | intro _ | with_reducible apply Kept.wr | with_reducible apply queueEmcy_kept
      | with_reducible apply Kept.clearOd | with_reducible apply Kept.ite | with_reducible apply Kept.ite_fst
      | simp (disch := first | exact May.or | exact Or.inr rfl) only [Kept.mk_eq, Kept.field_eq, Kept.cameo_eq] | split
      | dsimp only)

theorem beginLasting_kept {chg : List Part} [May chg .od] [May chg .field] {r0 s : State} (h : Kept chg r0 s) (code : Nat) (b0 :
    Nat) : Kept chg r0 (beginLasting s code b0) := by
  unfold beginLasting
  repeat' (first
      | with_reducible assumption | intro _ | with_reducible apply Kept.wr | with_reducible apply Kept.clearOd
      | with_reducible apply Kept.ite | with_reducible apply Kept.ite_fst | simp (disch := first
      | exact May.or | exact Or.inr rfl) only [Kept.mk_eq, Kept.field_eq, Kept.cameo_eq] | split | dsimp only)

theorem endLasting_kept {chg : List Part} [May chg .od] [May chg .field] {r0 s : State} (h : Kept chg r0 s) (code : Nat) (b0 :
    Nat) : Kept chg r0 (endLasting s code b0) := by
  unfold endLasting
  repeat' (first
      | with_reducible assumption | intro _ | with_reducible apply Kept.wr | with_reducible apply queueEmcy_kept
      | with_reducible apply Kept.clearOd | with_reducible apply Kept.ite | with_reducible apply Kept.ite_fst
      | simp (disch := first | exact May.or | exact Or.inr rfl) only [Kept.mk_eq, Kept.field_eq, Kept.cameo_eq] | split
      | dsimp only)

theorem lastingEmcy_kept {chg : List Part} [May chg .od] [May chg .field] {r0 s : State} (h : Kept chg r0 s) (code : Nat) (b0 :
    Nat) (rest : Nat) : Kept chg r0 (lastingEmcy s code b0 rest) := by
  unfold lastingEmcy
  repeat' (first
      | with_reducible assumption | intro _ | with_reducible apply Kept.wr | with_reducible apply emcy_kept
      | with_reducible apply beginLasting_kept | with_reducible apply Kept.clearOd | with_reducible apply Kept.ite
      | with_reducible apply Kept.ite_fst | simp (disch := first
      | exact May.or | exact Or.inr rfl) only [Kept.mk_eq, Kept.field_eq, Kept.cameo_eq] | split | dsimp only)

theorem setGuest_kept {chg : List Part} [May chg .ten] {r0 s : State} (h : Kept chg r0 s) (g : Nat) (r : GuestRec) : Kept chg r0
    (setGuest s g r) := by
  unfold setGuest
  repeat' (first
      | with_reducible assumption | intro _ | with_reducible apply Kept.wr | with_reducible apply Kept.clearOd
      | with_reducible apply Kept.ite | with_reducible apply Kept.ite_fst | simp (disch := first
      | exact May.or | exact Or.inr rfl) only [Kept.mk_eq, Kept.field_eq, Kept.cameo_eq] | split | dsimp only)

theorem setCharm_kept {chg : List Part} [May chg .ten] {r0 s : State} (h : Kept chg r0 s) (c : Nat) (v : Nat) : Kept chg r0 (setCharm s c v) := by
  unfold setCharm
  repeat' (first
      | with_reducible assumption | intro _ | with_reducible apply Kept.wr | with_reducible apply Kept.clearOd
      | with_reducible apply Kept.ite | with_reducible apply Kept.ite_fst | simp (disch := first
      | exact May.or | exact Or.inr rfl) only [Kept.mk_eq, Kept.field_eq, Kept.cameo_eq] | split | dsimp only)

theorem winWr_kept {chg : List Part} [May chg .mem] [May chg .memc] {r0 s : State} (h : Kept chg r0 s) (c a : Nat) (l : List
    Byte) : Kept chg r0 (winWr s c a l) := by
  induction l generalizing s a with
  | nil => exact h
  | cons b l ih =>
    refine ih ?_ (a + 1)
    split
    · split
      · exact h.memWr _ b
      · exact h
    · exact h

theorem logViolation_kept {chg : List Part} [May chg .od] [May chg .ten] {r0 s : State} (h : Kept chg r0 s) (v : Viol) : Kept
    chg r0 (logViolation s v) := by
  unfold logViolation
  repeat' (first
      | with_reducible assumption | intro _ | with_reducible apply Kept.wr | with_reducible apply bump_kept
      | with_reducible apply Kept.clearOd | with_reducible apply Kept.ite | with_reducible apply Kept.ite_fst
      | simp (disch := first | exact May.or | exact Or.inr rfl) only [Kept.mk_eq, Kept.field_eq, Kept.cameo_eq] | split
      | dsimp only)

theorem countViolation_kept {chg : List Part} [May chg .od] [May chg .ten] [May chg .field] {r0 s : State} (h : Kept chg r0 s)
    (g : Nat) : Kept chg r0 (countViolation s g) := by
  unfold countViolation
  repeat' (first
      | with_reducible assumption | intro _ | with_reducible apply Kept.wr | with_reducible apply bump_kept
      | with_reducible apply emcy_kept | with_reducible apply setGuest_kept | with_reducible apply Kept.clearOd
      | with_reducible apply Kept.ite | with_reducible apply Kept.ite_fst | simp (disch := first
      | exact May.or | exact Or.inr rfl) only [Kept.mk_eq, Kept.field_eq, Kept.cameo_eq] | split | dsimp only)

theorem violate_kept {chg : List Part} [May chg .od] [May chg .ten] [May chg .field] {r0 s : State} (h : Kept chg r0 s) (kind :
    Nat) (path : Nat) (addr : Nat) (client : Option Nat) (guest : Option Nat) : Kept chg r0 (violate s kind path addr client
    guest) := by
  unfold violate
  repeat' (first
      | with_reducible assumption | intro _ | with_reducible apply Kept.wr | with_reducible apply logViolation_kept
      | with_reducible apply countViolation_kept | with_reducible apply Kept.clearOd | with_reducible apply Kept.ite
      | with_reducible apply Kept.ite_fst | simp (disch := first
      | exact May.or | exact Or.inr rfl) only [Kept.mk_eq, Kept.field_eq, Kept.cameo_eq] | split | dsimp only)

theorem windowViolation_kept {chg : List Part} [May chg .od] [May chg .ten] [May chg .field] {r0 s : State} (h : Kept chg r0 s)
    (c : Nat) (a : Nat) : Kept chg r0 (windowViolation s c a) := by
  unfold windowViolation
  repeat' (first
      | with_reducible assumption | intro _ | with_reducible apply Kept.wr | with_reducible apply violate_kept
      | with_reducible apply Kept.clearOd | with_reducible apply Kept.ite | with_reducible apply Kept.ite_fst
      | simp (disch := first | exact May.or | exact Or.inr rfl) only [Kept.mk_eq, Kept.field_eq, Kept.cameo_eq] | split
      | dsimp only)

theorem setPort_kept {chg : List Part} [May chg .clasp] [May chg .ports] {r0 s : State} (h : Kept chg r0 s) (f : Nat) (p :
    PortRec) : Kept chg r0 (setPort s f p) := by
  unfold setPort
  repeat' (first
      | with_reducible assumption | intro _ | with_reducible apply Kept.wr | with_reducible apply Kept.clearOd
      | with_reducible apply Kept.ite | with_reducible apply Kept.ite_fst | simp (disch := first
      | exact May.or | exact Or.inr rfl) only [Kept.mk_eq, Kept.field_eq, Kept.cameo_eq] | split | dsimp only)

theorem msixSend_kept {chg : List Part} [May chg .out] [May chg .clasp] [May chg .ports] {r0 s : State} (h : Kept chg r0 s) (f :
    Nat) (v : Nat) : Kept chg r0 (msixSend s f v) := by
  unfold msixSend
  repeat' (first
      | with_reducible assumption | intro _ | with_reducible apply Kept.wr | with_reducible apply send_kept
      | with_reducible apply setPort_kept | with_reducible apply Kept.clearOd | with_reducible apply Kept.ite
      | with_reducible apply Kept.ite_fst | simp (disch := first
      | exact May.or | exact Or.inr rfl) only [Kept.mk_eq, Kept.field_eq, Kept.cameo_eq] | split | dsimp only)

theorem setClasp_kept {chg : List Part} [May chg .clasp] {r0 s : State} (h : Kept chg r0 s) (c : Nat) (k : Clasp) : Kept chg r0 (setClasp s c k) := by
  unfold setClasp
  repeat' (first
      | with_reducible assumption | intro _ | with_reducible apply Kept.wr | with_reducible apply Kept.clearOd
      | with_reducible apply Kept.ite | with_reducible apply Kept.ite_fst | simp (disch := first
      | exact May.or | exact Or.inr rfl) only [Kept.mk_eq, Kept.field_eq, Kept.cameo_eq] | split | dsimp only)

theorem claspIrq_kept {chg : List Part} [May chg .out] [May chg .clasp] [May chg .ports] {r0 s : State} (h : Kept chg r0 s) (c :
    Nat) : Kept chg r0 (claspIrq s c) := by
  unfold claspIrq
  repeat' (first
      | with_reducible assumption | intro _ | with_reducible apply Kept.wr | with_reducible apply msixSend_kept
      | with_reducible apply Kept.clearOd | with_reducible apply Kept.ite | with_reducible apply Kept.ite_fst
      | simp (disch := first | exact May.or | exact Or.inr rfl) only [Kept.mk_eq, Kept.field_eq, Kept.cameo_eq] | split
      | dsimp only)

theorem setEvent_kept {chg : List Part} [May chg .out] [May chg .clasp] [May chg .ports] {r0 s : State} (h : Kept chg r0 s) (c :
    Nat) (bit : Nat) : Kept chg r0 (setEvent s c bit) := by
  unfold setEvent
  repeat' (first
      | with_reducible assumption | intro _ | with_reducible apply Kept.wr | with_reducible apply setClasp_kept
      | with_reducible apply claspIrq_kept | with_reducible apply Kept.clearOd | with_reducible apply Kept.ite
      | with_reducible apply Kept.ite_fst | simp (disch := first
      | exact May.or | exact Or.inr rfl) only [Kept.mk_eq, Kept.field_eq, Kept.cameo_eq] | split | dsimp only)

theorem ringEnter_kept {chg : List Part} [May chg .od] {r0 s : State} (h : Kept chg r0 s) (idx : Nat) (size : Nat) (read : List
    Nat) (v : Nat) : Kept chg r0 (ringEnter s idx size read v) := by
  unfold ringEnter
  repeat' (first
      | with_reducible assumption | intro _ | with_reducible apply Kept.wr | with_reducible apply bump_kept
      | with_reducible apply Kept.clearOd | with_reducible apply Kept.ite | with_reducible apply Kept.ite_fst
      | simp (disch := first | exact May.or | exact Or.inr rfl) only [Kept.mk_eq, Kept.field_eq, Kept.cameo_eq] | split
      | dsimp only)

theorem ringClear_kept {chg : List Part} [May chg .od] {r0 s : State} (h : Kept chg r0 s) (idx : Nat) : Kept chg r0 (ringClear s idx) := by
  unfold ringClear
  repeat' (first
      | with_reducible assumption | intro _ | with_reducible apply Kept.wr | with_reducible apply Kept.clearOd
      | with_reducible apply Kept.ite | with_reducible apply Kept.ite_fst | simp (disch := first
      | exact May.or | exact Or.inr rfl) only [Kept.mk_eq, Kept.field_eq, Kept.cameo_eq] | split | dsimp only)

theorem setLive_kept {chg : List Part} [May chg .od] [May chg .dom] {r0 s : State} (h : Kept chg r0 s) (k : Nat) (bs : List
    Byte) : Kept chg r0 (setLive s k bs) := by
  unfold setLive
  repeat' (first
      | with_reducible assumption | intro _ | with_reducible apply Kept.wr | with_reducible apply Kept.dput
      | with_reducible apply Kept.clearOd | with_reducible apply Kept.ite | with_reducible apply Kept.ite_fst
      | simp (disch := first | exact May.or | exact Or.inr rfl) only [Kept.mk_eq, Kept.field_eq, Kept.cameo_eq] | split
      | dsimp only)

theorem landKey_kept {chg : List Part} [May chg .od] [May chg .dom] [May chg .dict] {r0 s : State} (h : Kept chg r0 s) (k : Nat)
    : Kept chg r0 (landKey s k) := by
  unfold landKey
  repeat' (first
      | with_reducible assumption | intro _ | with_reducible apply Kept.wr | with_reducible apply setLive_kept
      | with_reducible apply Kept.clearOd | with_reducible apply Kept.ite | with_reducible apply Kept.ite_fst
      | simp (disch := first | exact May.or | exact Or.inr rfl) only [Kept.mk_eq, Kept.field_eq, Kept.cameo_eq] | split
      | dsimp only)

theorem landWhere_kept {chg : List Part} [May chg .od] [May chg .dom] [May chg .dict] {r0 s : State} (h : Kept chg r0 s) (p :
    Nat → Bool) : Kept chg r0 (landWhere s p) := by
  unfold landWhere
  repeat' (first
      | with_reducible assumption | intro _ | with_reducible apply Kept.wr | with_reducible apply landKey_kept
      | with_reducible apply Kept.foldl | with_reducible apply Kept.clearOd | with_reducible apply Kept.ite
      | with_reducible apply Kept.ite_fst | simp (disch := first
      | exact May.or | exact Or.inr rfl) only [Kept.mk_eq, Kept.field_eq, Kept.cameo_eq] | split | dsimp only)

theorem startSwitch_kept {chg : List Part} [May chg .od] [May chg .power] {r0 s : State} (h : Kept chg r0 s)  : Kept chg r0 (startSwitch s) := by
  unfold startSwitch
  repeat' (first
      | with_reducible assumption | intro _ | with_reducible apply Kept.wr | with_reducible apply bump_kept
      | with_reducible apply Kept.clearOd | with_reducible apply Kept.ite | with_reducible apply Kept.ite_fst
      | simp (disch := first | exact May.or | exact Or.inr rfl) only [Kept.mk_eq, Kept.field_eq, Kept.cameo_eq] | split
      | dsimp only)

theorem queueSwitch_kept {chg : List Part} [May chg .power] {r0 s : State} (h : Kept chg r0 s) (q : Switch) : Kept chg r0 (queueSwitch s q) := by
  unfold queueSwitch
  repeat' (first
      | with_reducible assumption | intro _ | with_reducible apply Kept.wr | with_reducible apply Kept.clearOd
      | with_reducible apply Kept.ite | with_reducible apply Kept.ite_fst | simp (disch := first
      | exact May.or | exact Or.inr rfl) only [Kept.mk_eq, Kept.field_eq, Kept.cameo_eq] | split | dsimp only)

theorem cancelOff_kept {chg : List Part} [May chg .raster] [May chg .power] {r0 s : State} (h : Kept chg r0 s) (d : Nat) : Kept
    chg r0 (cancelOff s d) := by
  unfold cancelOff
  repeat' (first
      | with_reducible assumption | intro _ | with_reducible apply Kept.wr | with_reducible apply Kept.clearOd
      | with_reducible apply Kept.ite | with_reducible apply Kept.ite_fst | simp (disch := first
      | exact May.or | exact Or.inr rfl) only [Kept.mk_eq, Kept.field_eq, Kept.cameo_eq] | split | dsimp only)

theorem requestOn_kept {chg : List Part} [May chg .od] [May chg .raster] [May chg .power] {r0 s : State} (h : Kept chg r0 s) (d
    : Nat) (row : Nat) : Kept chg r0 (requestOn s d row) := by
  unfold requestOn
  repeat' (first
      | with_reducible assumption | intro _ | with_reducible apply Kept.wr | with_reducible apply startSwitch_kept
      | with_reducible apply queueSwitch_kept | with_reducible apply cancelOff_kept | with_reducible apply Kept.foldl
      | with_reducible apply Kept.clearOd | with_reducible apply Kept.ite | with_reducible apply Kept.ite_fst
      | simp (disch := first | exact May.or | exact Or.inr rfl) only [Kept.mk_eq, Kept.field_eq, Kept.cameo_eq] | split
      | dsimp only)

theorem wake_kept {chg : List Part} [May chg .od] [May chg .raster] [May chg .power] {r0 s : State} (h : Kept chg r0 s) (d :
    Nat) (row : Nat) : Kept chg r0 (wake s d row) := by
  unfold wake
  repeat' (first
      | with_reducible assumption | intro _ | with_reducible apply Kept.wr | with_reducible apply requestOn_kept
      | with_reducible apply Kept.clearOd | with_reducible apply Kept.ite | with_reducible apply Kept.ite_fst
      | simp (disch := first | exact May.or | exact Or.inr rfl) only [Kept.mk_eq, Kept.field_eq, Kept.cameo_eq] | split
      | dsimp only)

end Sys2Proof.Laws
end

