-- ==== Sys2Proof/Laws/KeptClasps.lean ====
section
/-! SUPPORT. What the operations of the clasps and the raster engine keep (Kept): one lemma an operation. -/

set_option linter.unusedSimpArgs false
set_option linter.all false

namespace Sys2Proof.Laws

open Sys2Proof Sys2Proof.Machine

theorem foldl_fst_kept {chg : List Part} {r0 : State} {α β : Type} {f : State × α → β → State × α} {l : List β} {a : State × α}
    (hf : ∀ t x, Kept chg r0 t.1 → Kept chg r0 (f t x).1) (h : Kept chg r0 a.1) : Kept chg r0 (l.foldl f a).1 := by
  induction l generalizing a with
  | nil => exact h
  | cons x l ih => exact ih (hf a x h)

theorem stage1Check_kept {chg : List Part} [May chg .od] [May chg .ten] [May chg .field] {r0 s : State} (h : Kept chg r0 s) (c :
    Nat) (op : Nat) (off : Nat) (delbel : Bool) : Kept chg r0 (stage1Check s c op off delbel).1 := by
  unfold stage1Check
  repeat' (first
      | with_reducible assumption | intro _ | with_reducible apply Kept.wr | with_reducible apply violate_kept
      | with_reducible apply Kept.clearOd | with_reducible apply Kept.ite | with_reducible apply Kept.ite_fst
      | simp (disch := first | exact May.or | exact Or.inr rfl) only [Kept.mk_eq, Kept.field_eq, Kept.cameo_eq] | split
      | dsimp only)

theorem setGo_kept {chg : List Part} [May chg .od] [May chg .ten] [May chg .clasp] [May chg .field] [May chg .raster] [May chg
    .power] {r0 s : State} (h : Kept chg r0 s) (c : Nat) : Kept chg r0 (setGo s c) := by
  unfold setGo
  repeat' (first
      | with_reducible assumption | intro _ | with_reducible apply Kept.wr | with_reducible apply setClasp_kept
      | with_reducible apply wake_kept | with_reducible apply stage1Check_kept | with_reducible apply Kept.clearOd
      | with_reducible apply Kept.ite | with_reducible apply Kept.ite_fst | simp (disch := first
      | exact May.or | exact Or.inr rfl) only [Kept.mk_eq, Kept.field_eq, Kept.cameo_eq] | split | dsimp only)

theorem writeRequest_kept {chg : List Part} [May chg .od] [May chg .ten] [May chg .clasp] [May chg .field] [May chg .raster]
    [May chg .power] {r0 s : State} (h : Kept chg r0 s) (c : Nat) (off : Nat) (bytes : List (Option Byte)) : Kept chg r0
    (writeRequest s c off bytes) := by
  unfold writeRequest
  repeat' (first
      | with_reducible assumption | intro _ | with_reducible apply Kept.wr | with_reducible apply setClasp_kept
      | with_reducible apply setGo_kept | with_reducible apply Kept.foldl | with_reducible apply Kept.clearOd
      | with_reducible apply Kept.ite | with_reducible apply Kept.ite_fst | simp (disch := first
      | exact May.or | exact Or.inr rfl) only [Kept.mk_eq, Kept.field_eq, Kept.cameo_eq] | split | dsimp only)

theorem writeConfig_kept {chg : List Part} [May chg .clasp] {r0 s : State} (h : Kept chg r0 s) (c : Nat) (v : Nat) : Kept chg r0
    (writeConfig s c v) := by
  unfold writeConfig
  repeat' (first
      | with_reducible assumption | intro _ | with_reducible apply Kept.wr | with_reducible apply setClasp_kept
      | with_reducible apply Kept.clearOd | with_reducible apply Kept.ite | with_reducible apply Kept.ite_fst
      | simp (disch := first | exact May.or | exact Or.inr rfl) only [Kept.mk_eq, Kept.field_eq, Kept.cameo_eq] | split
      | dsimp only)

theorem pushWord_kept {chg : List Part} [May chg .od] [May chg .ten] [May chg .clasp] [May chg .field] [May chg .raster] [May
    chg .power] {r0 s : State} (h : Kept chg r0 s) (c : Nat) (w : Nat) : Kept chg r0 (pushWord s c w) := by
  unfold pushWord
  repeat' (first
      | with_reducible assumption | intro _ | with_reducible apply Kept.wr | with_reducible apply setClasp_kept
      | with_reducible apply wake_kept | with_reducible apply stage1Check_kept | with_reducible apply Kept.foldl
      | with_reducible apply Kept.clearOd | with_reducible apply Kept.ite | with_reducible apply Kept.ite_fst
      | simp (disch := first | exact May.or | exact Or.inr rfl) only [Kept.mk_eq, Kept.field_eq, Kept.cameo_eq] | split
      | dsimp only)

theorem writePart_kept {chg : List Part} [May chg .out] [May chg .od] [May chg .ten] [May chg .clasp] [May chg .field] [May chg
    .raster] [May chg .ports] [May chg .power] {r0 s : State} (h : Kept chg r0 s) (g : Nat) (c : Nat) (off : Nat) (bytes : List
    (Option Byte)) : Kept chg r0 (writePart s g c off bytes) := by
  unfold writePart
  repeat' (first
      | with_reducible assumption | intro _ | with_reducible apply Kept.wr | with_reducible apply setClasp_kept
      | with_reducible apply claspIrq_kept | with_reducible apply writeRequest_kept | with_reducible apply writeConfig_kept
      | with_reducible apply pushWord_kept | with_reducible apply Kept.clearOd | with_reducible apply Kept.ite
      | with_reducible apply Kept.ite_fst | simp (disch := first
      | exact May.or | exact Or.inr rfl) only [Kept.mk_eq, Kept.field_eq, Kept.cameo_eq] | split | dsimp only)

theorem windowPart_kept {chg : List Part} [May chg .out] [May chg .od] [May chg .ten] [May chg .clasp] [May chg .field] [May chg
    .raster] [May chg .ports] [May chg .power] {r0 s : State} (h : Kept chg r0 s) (g : Nat) (c : Nat) (off : Nat) (bytes : List
    (Option Byte)) : Kept chg r0 (windowPart s g c off bytes) := by
  unfold windowPart
  repeat' (first
      | with_reducible assumption | intro _ | with_reducible apply Kept.wr | with_reducible apply violate_kept
      | with_reducible apply writePart_kept | with_reducible apply Kept.clearOd | with_reducible apply Kept.ite
      | with_reducible apply Kept.ite_fst | simp (disch := first
      | exact May.or | exact Or.inr rfl) only [Kept.mk_eq, Kept.field_eq, Kept.cameo_eq] | split | dsimp only)

theorem bar0Write_kept {chg : List Part} [May chg .out] [May chg .od] [May chg .ten] [May chg .clasp] [May chg .field] [May chg
    .raster] [May chg .ports] [May chg .power] {r0 s : State} (h : Kept chg r0 s) (f : Nat) (c : Nat) (off : Nat) (bytes : List
    (Option Byte)) : Kept chg r0 (bar0Write s f c off bytes) := by
  unfold bar0Write
  repeat' (first
      | with_reducible assumption | intro _ | with_reducible apply Kept.wr | with_reducible apply windowPart_kept
      | with_reducible apply Kept.foldl | with_reducible apply Kept.clearOd | with_reducible apply Kept.ite
      | with_reducible apply Kept.ite_fst | simp (disch := first
      | exact May.or | exact Or.inr rfl) only [Kept.mk_eq, Kept.field_eq, Kept.cameo_eq] | split | dsimp only)

theorem readEffect_kept {chg : List Part} [May chg .clasp] {r0 s : State} (h : Kept chg r0 s) (c : Nat) (i : Nat) : Kept chg r0
    (readEffect s c i) := by
  unfold readEffect
  repeat' (first
      | with_reducible assumption | intro _ | with_reducible apply Kept.wr | with_reducible apply setClasp_kept
      | with_reducible apply Kept.clearOd | with_reducible apply Kept.ite | with_reducible apply Kept.ite_fst
      | simp (disch := first | exact May.or | exact Or.inr rfl) only [Kept.mk_eq, Kept.field_eq, Kept.cameo_eq] | split
      | dsimp only)

theorem readPart_kept {chg : List Part} [May chg .clasp] {r0 s : State} (h : Kept chg r0 s) (g : Nat) (c : Nat) (off : Nat) (be
    : List Bool) : Kept chg r0 (readPart s g c off be).1 := by
  unfold readPart
  repeat' (first
      | with_reducible assumption | intro _ | with_reducible apply Kept.wr | with_reducible apply readEffect_kept
      | with_reducible apply Kept.foldl | with_reducible apply Kept.clearOd | with_reducible apply Kept.ite
      | with_reducible apply Kept.ite_fst | simp (disch := first
      | exact May.or | exact Or.inr rfl) only [Kept.mk_eq, Kept.field_eq, Kept.cameo_eq] | split | dsimp only)

theorem bar0Read_kept {chg : List Part} [May chg .out] [May chg .clasp] {r0 s : State} (h : Kept chg r0 s) (f c off : Nat) (be :
    List Bool) : Kept chg r0 (bar0Read s f c off be) := by
  unfold bar0Read
  split
  · refine send_kept (foldl_fst_kept (fun t p ht => ?_) ?_) _ _ _
    · exact readPart_kept ht _ _ _ _
    · exact h
  · exact send_kept h _ _ _

theorem takeByFirmware_kept {chg : List Part} [May chg .clasp] {r0 s : State} (h : Kept chg r0 s) (c : Nat) : Kept chg r0 (takeByFirmware s c) := by
  unfold takeByFirmware
  repeat' (first
      | with_reducible assumption | intro _ | with_reducible apply Kept.wr | with_reducible apply setClasp_kept
      | with_reducible apply Kept.clearOd | with_reducible apply Kept.ite | with_reducible apply Kept.ite_fst
      | simp (disch := first | exact May.or | exact Or.inr rfl) only [Kept.mk_eq, Kept.field_eq, Kept.cameo_eq] | split
      | dsimp only)

theorem takeByHardware_kept {chg : List Part} [May chg .clasp] {r0 s : State} (h : Kept chg r0 s) (c : Nat) (v : Nat × Nat) :
    Kept chg r0 (takeByHardware s c v) := by
  unfold takeByHardware
  repeat' (first
      | with_reducible assumption | intro _ | with_reducible apply Kept.wr | with_reducible apply setClasp_kept
      | with_reducible apply Kept.clearOd | with_reducible apply Kept.ite | with_reducible apply Kept.ite_fst
      | simp (disch := first | exact May.or | exact Or.inr rfl) only [Kept.mk_eq, Kept.field_eq, Kept.cameo_eq] | split
      | dsimp only)

theorem finishTaken_kept {chg : List Part} [May chg .out] [May chg .clasp] [May chg .ports] {r0 s : State} (h : Kept chg r0 s)
    (c : Nat) : Kept chg r0 (finishTaken s c) := by
  unfold finishTaken
  repeat' (first
      | with_reducible assumption | intro _ | with_reducible apply Kept.wr | with_reducible apply setClasp_kept
      | with_reducible apply claspIrq_kept | with_reducible apply Kept.clearOd | with_reducible apply Kept.ite
      | with_reducible apply Kept.ite_fst | simp (disch := first
      | exact May.or | exact Or.inr rfl) only [Kept.mk_eq, Kept.field_eq, Kept.cameo_eq] | split | dsimp only)

theorem answer_kept {chg : List Part} [May chg .clasp] {r0 s : State} (h : Kept chg r0 s) (c : Nat) (a : Ans) : Kept chg r0 (answer s c a) := by
  unfold answer
  repeat' (first
      | with_reducible assumption | intro _ | with_reducible apply Kept.wr | with_reducible apply setClasp_kept
      | with_reducible apply Kept.clearOd | with_reducible apply Kept.ite | with_reducible apply Kept.ite_fst
      | simp (disch := first | exact May.or | exact Or.inr rfl) only [Kept.mk_eq, Kept.field_eq, Kept.cameo_eq] | split
      | dsimp only)

theorem ok_kept {chg : List Part} [May chg .clasp] {r0 s : State} (h : Kept chg r0 s) (c : Nat) (data : List Nat) : Kept chg r0 (ok s c data) := by
  unfold ok
  repeat' (first
      | with_reducible assumption | intro _ | with_reducible apply Kept.wr | with_reducible apply answer_kept
      | with_reducible apply Kept.clearOd | with_reducible apply Kept.ite | with_reducible apply Kept.ite_fst
      | simp (disch := first | exact May.or | exact Or.inr rfl) only [Kept.mk_eq, Kept.field_eq, Kept.cameo_eq] | split
      | dsimp only)

theorem fail_kept {chg : List Part} [May chg .clasp] {r0 s : State} (h : Kept chg r0 s) (c : Nat) (code : Nat) : Kept chg r0 (fail s c code) := by
  unfold fail
  repeat' (first
      | with_reducible assumption | intro _ | with_reducible apply Kept.wr | with_reducible apply answer_kept
      | with_reducible apply Kept.clearOd | with_reducible apply Kept.ite | with_reducible apply Kept.ite_fst
      | simp (disch := first | exact May.or | exact Or.inr rfl) only [Kept.mk_eq, Kept.field_eq, Kept.cameo_eq] | split
      | dsimp only)

theorem denied_kept {chg : List Part} [May chg .od] [May chg .ten] [May chg .clasp] [May chg .field] {r0 s : State} (h : Kept
    chg r0 s) (c : Nat) (kind : Nat) : Kept chg r0 (denied s c kind) := by
  unfold denied
  repeat' (first
      | with_reducible assumption | intro _ | with_reducible apply Kept.wr | with_reducible apply violate_kept
      | with_reducible apply answer_kept | with_reducible apply Kept.clearOd | with_reducible apply Kept.ite
      | with_reducible apply Kept.ite_fst | simp (disch := first
      | exact May.or | exact Or.inr rfl) only [Kept.mk_eq, Kept.field_eq, Kept.cameo_eq] | split | dsimp only)

theorem deniedAddr_kept {chg : List Part} [May chg .od] [May chg .ten] [May chg .clasp] [May chg .field] {r0 s : State} (h :
    Kept chg r0 s) (c : Nat) : Kept chg r0 (deniedAddr s c) := by
  unfold deniedAddr
  repeat' (first
      | with_reducible assumption | intro _ | with_reducible apply Kept.wr | with_reducible apply denied_kept
      | with_reducible apply Kept.clearOd | with_reducible apply Kept.ite | with_reducible apply Kept.ite_fst
      | simp (disch := first | exact May.or | exact Or.inr rfl) only [Kept.mk_eq, Kept.field_eq, Kept.cameo_eq] | split
      | dsimp only)

theorem serveF_kept {chg : List Part} [May chg .clasp] {r0 s : State} (h : Kept chg r0 s) {k : Taken → State} (hk : ∀ t, Kept
    chg r0 (k t)) (c op flags : Nat)
    (lenOk : Nat → Bool) : Kept chg r0 (serveF s c op flags lenOk k) := by
  unfold serveF
  repeat' (first
      | with_reducible assumption | intro _ | with_reducible apply fail_kept | with_reducible apply hk
      | with_reducible apply Kept.ite | with_reducible apply Kept.ite_fst | simp (disch := first
      | exact May.or | exact Or.inr rfl) only [Kept.mk_eq, Kept.field_eq, Kept.cameo_eq] | split | dsimp only)

theorem serve_kept {chg : List Part} [May chg .clasp] {r0 s : State} (h : Kept chg r0 s) {k : Taken → State} (hk : ∀ t, Kept chg
    r0 (k t)) (c op : Nat)
    (lenOk : Nat → Bool) : Kept chg r0 (serve s c op lenOk k) := serveF_kept h hk c op 0 lenOk

theorem withDomain_kept {chg : List Part} [May chg .od] [May chg .clasp] [May chg .raster] [May chg .power] {r0 s k : State} (h
    : Kept chg r0 s) (hk : Kept chg r0 k) (c d : Nat) : Kept chg r0 (withDomain s c d k) := by
  unfold withDomain
  repeat' (first
      | with_reducible assumption | intro _ | with_reducible apply fail_kept | with_reducible apply wake_kept
      | with_reducible apply Kept.ite | with_reducible apply Kept.ite_fst | simp (disch := first
      | exact May.or | exact Or.inr rfl) only [Kept.mk_eq, Kept.field_eq, Kept.cameo_eq] | split | dsimp only)

theorem advanceTake_kept {chg : List Part} [May chg .clasp] {r0 s : State} (h : Kept chg r0 s) (g : Nat) (c : Nat) : Kept chg r0
    (advanceTake s g c) := by
  unfold advanceTake
  repeat' (first
      | with_reducible assumption | intro _ | with_reducible apply Kept.wr | with_reducible apply Kept.clearOd
      | with_reducible apply Kept.ite | with_reducible apply Kept.ite_fst | simp (disch := first
      | exact May.or | exact Or.inr rfl) only [Kept.mk_eq, Kept.field_eq, Kept.cameo_eq] | split | dsimp only)

theorem setIcl_kept {chg : List Part} [May chg .clasp] {r0 s : State} (h : Kept chg r0 s) (n : Nat) (k : Clasp) : Kept chg r0 (setIcl s n k) := by
  unfold setIcl
  repeat' (first
      | with_reducible assumption | intro _ | with_reducible apply Kept.wr | with_reducible apply Kept.clearOd
      | with_reducible apply Kept.ite | with_reducible apply Kept.ite_fst | simp (disch := first
      | exact May.or | exact Or.inr rfl) only [Kept.mk_eq, Kept.field_eq, Kept.cameo_eq] | split | dsimp only)

theorem iclComplete_kept {chg : List Part} [May chg .clasp] {r0 s : State} (h : Kept chg r0 s) (n : Nat) (a : Ans) : Kept chg r0
    (iclComplete s n a) := by
  unfold iclComplete
  repeat' (first
      | with_reducible assumption | intro _ | with_reducible apply Kept.wr | with_reducible apply setIcl_kept
      | with_reducible apply Kept.clearOd | with_reducible apply Kept.ite | with_reducible apply Kept.ite_fst
      | simp (disch := first | exact May.or | exact Or.inr rfl) only [Kept.mk_eq, Kept.field_eq, Kept.cameo_eq] | split
      | dsimp only)

theorem iclGo_kept {chg : List Part} [May chg .od] [May chg .clasp] [May chg .raster] [May chg .power] {r0 s : State} (h : Kept
    chg r0 s) (n : Nat) (words : List Nat) : Kept chg r0 (iclGo s n words) := by
  unfold iclGo
  repeat' (first
      | with_reducible assumption | intro _ | with_reducible apply Kept.wr | with_reducible apply wake_kept
      | with_reducible apply setIcl_kept | with_reducible apply iclComplete_kept | with_reducible apply Kept.foldl
      | with_reducible apply Kept.clearOd | with_reducible apply Kept.ite | with_reducible apply Kept.ite_fst
      | simp (disch := first | exact May.or | exact Or.inr rfl) only [Kept.mk_eq, Kept.field_eq, Kept.cameo_eq] | split
      | dsimp only)

theorem iclTake_kept {chg : List Part} [May chg .clasp] {r0 s : State} (h : Kept chg r0 s) (n : Nat) : Kept chg r0 (iclTake s n) := by
  unfold iclTake
  repeat' (first
      | with_reducible assumption | intro _ | with_reducible apply Kept.wr | with_reducible apply setIcl_kept
      | with_reducible apply iclComplete_kept | with_reducible apply Kept.clearOd | with_reducible apply Kept.ite
      | with_reducible apply Kept.ite_fst | simp (disch := first
      | exact May.or | exact Or.inr rfl) only [Kept.mk_eq, Kept.field_eq, Kept.cameo_eq] | split | dsimp only)

theorem iclServe_kept {chg : List Part} [May chg .clasp] {r0 s : State} (h : Kept chg r0 s) {k : Taken → State × Ans} (hk : ∀ t,
    Kept chg r0 (k t).1) (n op : Nat)
    (lenOk : Nat → Bool) : Kept chg r0 (iclServe s n op lenOk k) := by
  unfold iclServe
  repeat' (first
      | with_reducible assumption | intro _ | with_reducible apply iclComplete_kept | with_reducible apply hk
      | with_reducible apply Kept.ite | with_reducible apply Kept.ite_fst | simp (disch := first
      | exact May.or | exact Or.inr rfl) only [Kept.mk_eq, Kept.field_eq, Kept.cameo_eq] | split | dsimp only)

theorem ctxWr_kept {chg : List Part} [May chg .mem] [May chg .memc] {r0 s : State} (h : Kept chg r0 s) (key : Nat) (a : Nat) (bs
    : List Byte) : Kept chg r0 (ctxWr s key a bs) := by
  unfold ctxWr
  repeat' (first
      | with_reducible assumption | intro _ | with_reducible apply Kept.wr | with_reducible apply memWrAll_kept
      | with_reducible apply Kept.clearOd | with_reducible apply Kept.ite | with_reducible apply Kept.ite_fst
      | simp (disch := first | exact May.or | exact Or.inr rfl) only [Kept.mk_eq, Kept.field_eq, Kept.cameo_eq] | split
      | dsimp only)

theorem setRctx_kept {chg : List Part} [May chg .raster] {r0 s : State} (h : Kept chg r0 s) (key : Nat) (x : Option RCtx) : Kept
    chg r0 (setRctx s key x) := by
  unfold setRctx
  repeat' (first
      | with_reducible assumption | intro _ | with_reducible apply Kept.wr | with_reducible apply Kept.clearOd
      | with_reducible apply Kept.ite | with_reducible apply Kept.ite_fst | simp (disch := first
      | exact May.or | exact Or.inr rfl) only [Kept.mk_eq, Kept.field_eq, Kept.cameo_eq] | split | dsimp only)

theorem setCctx_kept {chg : List Part} [May chg .raster] {r0 s : State} (h : Kept chg r0 s) (c : Nat) (x : Option CCtx) : Kept
    chg r0 (setCctx s c x) := by
  unfold setCctx
  repeat' (first
      | with_reducible assumption | intro _ | with_reducible apply Kept.wr | with_reducible apply Kept.clearOd
      | with_reducible apply Kept.ite | with_reducible apply Kept.ite_fst | simp (disch := first
      | exact May.or | exact Or.inr rfl) only [Kept.mk_eq, Kept.field_eq, Kept.cameo_eq] | split | dsimp only)

theorem setCore_kept {chg : List Part} [May chg .raster] {r0 s : State} (h : Kept chg r0 s) (n : Nat) (x : CoreRec) : Kept chg
    r0 (setCore s n x) := by
  unfold setCore
  repeat' (first
      | with_reducible assumption | intro _ | with_reducible apply Kept.wr | with_reducible apply Kept.clearOd
      | with_reducible apply Kept.ite | with_reducible apply Kept.ite_fst | simp (disch := first
      | exact May.or | exact Or.inr rfl) only [Kept.mk_eq, Kept.field_eq, Kept.cameo_eq] | split | dsimp only)

theorem binSet_kept {chg : List Part} [May chg .raster] {r0 s : State} (h : Kept chg r0 s) (n : Nat) (v : Nat) : Kept chg r0 (binSet s n v) := by
  unfold binSet
  repeat' (first
      | with_reducible assumption | intro _ | with_reducible apply Kept.wr | with_reducible apply Kept.clearOd
      | with_reducible apply Kept.ite | with_reducible apply Kept.ite_fst | simp (disch := first
      | exact May.or | exact Or.inr rfl) only [Kept.mk_eq, Kept.field_eq, Kept.cameo_eq] | split | dsimp only)

theorem freeBlocks_kept {chg : List Part} [May chg .raster] {r0 s : State} (h : Kept chg r0 s) (p : BlockUse → Bool) : Kept chg
    r0 (freeBlocks s p) := by
  unfold freeBlocks
  repeat' (first
      | with_reducible assumption | intro _ | with_reducible apply Kept.wr | with_reducible apply Kept.clearOd
      | with_reducible apply Kept.ite | with_reducible apply Kept.ite_fst | simp (disch := first
      | exact May.or | exact Or.inr rfl) only [Kept.mk_eq, Kept.field_eq, Kept.cameo_eq] | split | dsimp only)

theorem allocBlock_kept {chg : List Part} [May chg .raster] {r0 s t : State} {n : Nat} {units : List Nat} {u : BlockUse} {v : Nat} (h : Kept chg r0 s)
    (e : allocBlock s units u v = some (n, t)) : Kept chg r0 t := by
  unfold allocBlock at e
  cases f : units.findSome? (fun n => firstFree s (1024 * n) 1024) with
  | none => simp [f] at e
  | some b =>
    simp only [f, Option.map_some, Option.some.injEq, Prod.mk.injEq] at e
    rw [← e.2]
    repeat' (first
        | with_reducible assumption | intro _ | with_reducible apply binSet_kept | with_reducible apply Kept.ite
        | with_reducible apply Kept.ite_fst | simp (disch := first
        | exact May.or | exact Or.inr rfl) only [Kept.mk_eq, Kept.field_eq, Kept.cameo_eq] | split | dsimp only)

theorem writeStats_kept {chg : List Part} [May chg .mem] [May chg .memc] {r0 s : State} (h : Kept chg r0 s) (key : Nat) (x :
    RCtx) (b : Sub) : Kept chg r0 (writeStats s key x b) := by
  unfold writeStats
  repeat' (first
      | with_reducible assumption | intro _ | with_reducible apply Kept.wr | with_reducible apply ctxWr_kept
      | with_reducible apply Kept.clearOd | with_reducible apply Kept.ite | with_reducible apply Kept.ite_fst
      | simp (disch := first | exact May.or | exact Or.inr rfl) only [Kept.mk_eq, Kept.field_eq, Kept.cameo_eq] | split
      | dsimp only)

theorem dropRenderAll_kept {chg : List Part} [May chg .raster] {r0 s : State} (h : Kept chg r0 s) (key : Nat) (p : Nat → Bool) :
    Kept chg r0 (dropRenderAll s key p) := by
  unfold dropRenderAll
  repeat' (first
      | with_reducible assumption | intro _ | with_reducible apply Kept.wr | with_reducible apply setCore_kept
      | with_reducible apply Kept.foldl | with_reducible apply Kept.clearOd | with_reducible apply Kept.ite
      | with_reducible apply Kept.ite_fst | simp (disch := first
      | exact May.or | exact Or.inr rfl) only [Kept.mk_eq, Kept.field_eq, Kept.cameo_eq] | split | dsimp only)

theorem dropComputeAll_kept {chg : List Part} [May chg .raster] {r0 s : State} (h : Kept chg r0 s) (c : Nat) : Kept chg r0 (dropComputeAll s c) := by
  unfold dropComputeAll
  repeat' (first
      | with_reducible assumption | intro _ | with_reducible apply Kept.wr | with_reducible apply setCore_kept
      | with_reducible apply Kept.foldl | with_reducible apply Kept.clearOd | with_reducible apply Kept.ite
      | with_reducible apply Kept.ite_fst | simp (disch := first
      | exact May.or | exact Or.inr rfl) only [Kept.mk_eq, Kept.field_eq, Kept.cameo_eq] | split | dsimp only)

theorem wakeQuads_kept {chg : List Part} [May chg .od] [May chg .raster] [May chg .power] {r0 s : State} (h : Kept chg r0 s)
    (allot : Nat) : Kept chg r0 (wakeQuads s allot) := by
  unfold wakeQuads
  repeat' (first
      | with_reducible assumption | intro _ | with_reducible apply Kept.wr | with_reducible apply wake_kept
      | with_reducible apply Kept.foldl | with_reducible apply Kept.clearOd | with_reducible apply Kept.ite
      | with_reducible apply Kept.ite_fst | simp (disch := first
      | exact May.or | exact Or.inr rfl) only [Kept.mk_eq, Kept.field_eq, Kept.cameo_eq] | split | dsimp only)

theorem settleRaised_kept {chg : List Part} [May chg .raster] {r0 s : State} (h : Kept chg r0 s)  : Kept chg r0 (settleRaised s) := by
  unfold settleRaised
  repeat' (first
      | with_reducible assumption | intro _ | with_reducible apply Kept.wr | with_reducible apply Kept.clearOd
      | with_reducible apply Kept.ite | with_reducible apply Kept.ite_fst | simp (disch := first
      | exact May.or | exact Or.inr rfl) only [Kept.mk_eq, Kept.field_eq, Kept.cameo_eq] | split | dsimp only)

theorem releaseRenders_kept {chg : List Part} [May chg .out] [May chg .fwQueue] [May chg .od] [May chg .raster] {r0 s : State}
    (h : Kept chg r0 s) (key : Nat) (p : Sub → Bool) : Kept chg r0 (releaseRenders s key p) := by
  unfold releaseRenders
  repeat' (first
      | with_reducible assumption | intro _ | with_reducible apply Kept.wr | with_reducible apply raise_kept
      | with_reducible apply setRctx_kept | with_reducible apply settleRaised_kept | with_reducible apply Kept.foldl
      | with_reducible apply Kept.clearOd | with_reducible apply Kept.ite | with_reducible apply Kept.ite_fst
      | simp (disch := first | exact May.or | exact Or.inr rfl) only [Kept.mk_eq, Kept.field_eq, Kept.cameo_eq] | split
      | dsimp only)

theorem faultRender_kept {chg : List Part} [May chg .free] [May chg .out] [May chg .fwQueue] [May chg .od] [May chg .dom] [May
    chg .mem] [May chg .ten] [May chg .clasp] [May chg .dict] [May chg .field] [May chg .raster] [May chg .compose] [May chg
    .heads] [May chg .ports] [May chg .cameo] [May chg .touch] [May chg .hap] [May chg .audio] [May chg .memc] [May chg .locket]
    [May chg .flash] [May chg .isl] [May chg .power] {r0 s : State} (h : Kept chg r0 s) (key : Nat) (kind : Nat) (core : Nat)
    (hart : Nat) (addr : Nat) (pc : Nat) (seq : Nat) : Kept chg r0 (faultRender s key kind core hart addr pc seq) := by
  unfold faultRender
  repeat' (first
      | with_reducible assumption | intro _ | with_reducible apply Kept.wr | with_reducible apply raise_kept
      | with_reducible apply setRctx_kept | with_reducible apply freeBlocks_kept | with_reducible apply writeStats_kept
      | with_reducible apply dropRenderAll_kept | with_reducible apply releaseRenders_kept | with_reducible apply Kept.clearOd
      | with_reducible apply Kept.ite | with_reducible apply Kept.ite_fst | simp (disch := first
      | exact May.or | exact Or.inr rfl) only [Kept.mk_eq, Kept.field_eq, Kept.cameo_eq] | split | dsimp only)

theorem faultCompute_kept {chg : List Part} [May chg .free] [May chg .out] [May chg .fwQueue] [May chg .od] [May chg .dom] [May
    chg .mem] [May chg .ten] [May chg .clasp] [May chg .dict] [May chg .field] [May chg .raster] [May chg .compose] [May chg
    .heads] [May chg .ports] [May chg .cameo] [May chg .touch] [May chg .hap] [May chg .audio] [May chg .memc] [May chg .locket]
    [May chg .flash] [May chg .isl] [May chg .power] {r0 s : State} (h : Kept chg r0 s) (c : Nat) (kind : Nat) : Kept chg r0
    (faultCompute s c kind) := by
  unfold faultCompute
  repeat' (first
      | with_reducible assumption | intro _ | with_reducible apply Kept.wr | with_reducible apply raise_kept
      | with_reducible apply setCctx_kept | with_reducible apply dropComputeAll_kept | with_reducible apply Kept.clearOd
      | with_reducible apply Kept.ite | with_reducible apply Kept.ite_fst | simp (disch := first
      | exact May.or | exact Or.inr rfl) only [Kept.mk_eq, Kept.field_eq, Kept.cameo_eq] | split | dsimp only)

theorem missRender_kept {chg : List Part} [May chg .free] [May chg .out] [May chg .fwQueue] [May chg .od] [May chg .dom] [May
    chg .mem] [May chg .ten] [May chg .clasp] [May chg .dict] [May chg .field] [May chg .raster] [May chg .compose] [May chg
    .heads] [May chg .ports] [May chg .cameo] [May chg .touch] [May chg .hap] [May chg .audio] [May chg .memc] [May chg .locket]
    [May chg .flash] [May chg .isl] [May chg .power] {r0 s : State} (h : Kept chg r0 s) (key : Nat) (core : Nat) (a : Nat) :
    Kept chg r0 (missRender s key core a) := by
  unfold missRender
  repeat' (first
      | with_reducible assumption | intro _ | with_reducible apply Kept.wr | with_reducible apply windowViolation_kept
      | with_reducible apply faultRender_kept | with_reducible apply Kept.clearOd | with_reducible apply Kept.ite
      | with_reducible apply Kept.ite_fst | simp (disch := first
      | exact May.or | exact Or.inr rfl) only [Kept.mk_eq, Kept.field_eq, Kept.cameo_eq] | split | dsimp only)

theorem overrunRender_kept {chg : List Part} [May chg .free] [May chg .out] [May chg .fwQueue] [May chg .od] [May chg .dom] [May
    chg .mem] [May chg .ten] [May chg .clasp] [May chg .dict] [May chg .field] [May chg .raster] [May chg .compose] [May chg
    .heads] [May chg .ports] [May chg .cameo] [May chg .touch] [May chg .hap] [May chg .audio] [May chg .memc] [May chg .locket]
    [May chg .flash] [May chg .isl] [May chg .power] {r0 s : State} (h : Kept chg r0 s) (key : Nat) (fence : Nat) : Kept chg r0
    (overrunRender s key fence) := by
  unfold overrunRender
  repeat' (first
      | with_reducible assumption | intro _ | with_reducible apply Kept.wr | with_reducible apply raise_kept
      | with_reducible apply setRctx_kept | with_reducible apply freeBlocks_kept | with_reducible apply writeStats_kept
      | with_reducible apply dropRenderAll_kept | with_reducible apply releaseRenders_kept | with_reducible apply Kept.clearOd
      | with_reducible apply Kept.ite | with_reducible apply Kept.ite_fst | simp (disch := first
      | exact May.or | exact Or.inr rfl) only [Kept.mk_eq, Kept.field_eq, Kept.cameo_eq] | split | dsimp only)

theorem askPreempt_kept {chg : List Part} [May chg .raster] {r0 s : State} (h : Kept chg r0 s) (core : Nat) : Kept chg r0 (askPreempt s core) := by
  unfold askPreempt
  repeat' (first
      | with_reducible assumption | intro _ | with_reducible apply Kept.wr | with_reducible apply setCore_kept
      | with_reducible apply Kept.clearOd | with_reducible apply Kept.ite | with_reducible apply Kept.ite_fst
      | simp (disch := first | exact May.or | exact Or.inr rfl) only [Kept.mk_eq, Kept.field_eq, Kept.cameo_eq] | split
      | dsimp only)

theorem settlePreempt_kept {chg : List Part} [May chg .raster] {r0 s : State} (h : Kept chg r0 s)  : Kept chg r0 (settlePreempt s) := by
  unfold settlePreempt
  repeat' (first
      | with_reducible assumption | intro _ | with_reducible apply Kept.wr | with_reducible apply askPreempt_kept
      | with_reducible apply Kept.foldl | with_reducible apply Kept.clearOd | with_reducible apply Kept.ite
      | with_reducible apply Kept.ite_fst | simp (disch := first
      | exact May.or | exact Or.inr rfl) only [Kept.mk_eq, Kept.field_eq, Kept.cameo_eq] | split | dsimp only)

theorem addRender_kept {chg : List Part} [May chg .mem] [May chg .raster] [May chg .memc] {r0 s : State} (h : Kept chg r0 s)
    (key : Nat) (x : RCtx) : Kept chg r0 (addRender s key x) := by
  unfold addRender
  repeat' (first
      | with_reducible assumption | intro _ | with_reducible apply Kept.wr | with_reducible apply setRctx_kept
      | with_reducible apply writeStats_kept | with_reducible apply Kept.clearOd | with_reducible apply Kept.ite
      | with_reducible apply Kept.ite_fst | simp (disch := first
      | exact May.or | exact Or.inr rfl) only [Kept.mk_eq, Kept.field_eq, Kept.cameo_eq] | split | dsimp only)

theorem ctxCreate_kept {chg : List Part} [May chg .od] [May chg .mem] [May chg .ten] [May chg .clasp] [May chg .field] [May chg
    .raster] [May chg .memc] {r0 s : State} (h : Kept chg r0 s) (c : Nat) (a : Nat) : Kept chg r0 (ctxCreate s c a) := by
  unfold ctxCreate
  repeat' (first
      | with_reducible assumption | intro _ | with_reducible apply Kept.wr | with_reducible apply ok_kept
      | with_reducible apply fail_kept | with_reducible apply deniedAddr_kept | with_reducible apply addRender_kept
      | with_reducible apply Kept.clearOd | with_reducible apply Kept.ite | with_reducible apply Kept.ite_fst
      | simp (disch := first | exact May.or | exact Or.inr rfl) only [Kept.mk_eq, Kept.field_eq, Kept.cameo_eq] | split
      | dsimp only)

theorem cctxCreate_kept {chg : List Part} [May chg .od] [May chg .ten] [May chg .clasp] [May chg .field] [May chg .raster] {r0 s
    : State} (h : Kept chg r0 s) (c : Nat) (a : Nat) : Kept chg r0 (cctxCreate s c a) := by
  unfold cctxCreate
  repeat' (first
      | with_reducible assumption | intro _ | with_reducible apply Kept.wr | with_reducible apply ok_kept
      | with_reducible apply fail_kept | with_reducible apply deniedAddr_kept | with_reducible apply setCctx_kept
      | with_reducible apply Kept.clearOd | with_reducible apply Kept.ite | with_reducible apply Kept.ite_fst
      | simp (disch := first | exact May.or | exact Or.inr rfl) only [Kept.mk_eq, Kept.field_eq, Kept.cameo_eq] | split
      | dsimp only)

theorem leaveRender_kept {chg : List Part} [May chg .raster] {r0 s : State} (h : Kept chg r0 s) (key : Nat) (how : Nat) : Kept
    chg r0 (leaveRender s key how) := by
  unfold leaveRender
  repeat' (first
      | with_reducible assumption | intro _ | with_reducible apply Kept.wr | with_reducible apply setRctx_kept
      | with_reducible apply Kept.clearOd | with_reducible apply Kept.ite | with_reducible apply Kept.ite_fst
      | simp (disch := first | exact May.or | exact Or.inr rfl) only [Kept.mk_eq, Kept.field_eq, Kept.cameo_eq] | split
      | dsimp only)

theorem leaveCompute_kept {chg : List Part} [May chg .raster] {r0 s : State} (h : Kept chg r0 s) (c : Nat) (how : Nat) : Kept
    chg r0 (leaveCompute s c how) := by
  unfold leaveCompute
  repeat' (first
      | with_reducible assumption | intro _ | with_reducible apply Kept.wr | with_reducible apply setCctx_kept
      | with_reducible apply askPreempt_kept | with_reducible apply Kept.foldl | with_reducible apply Kept.clearOd
      | with_reducible apply Kept.ite | with_reducible apply Kept.ite_fst | simp (disch := first
      | exact May.or | exact Or.inr rfl) only [Kept.mk_eq, Kept.field_eq, Kept.cameo_eq] | split | dsimp only)

theorem enqueueSub_kept {chg : List Part} [May chg .free] [May chg .out] [May chg .fwQueue] [May chg .od] [May chg .dom] [May
    chg .mem] [May chg .ten] [May chg .clasp] [May chg .dict] [May chg .field] [May chg .raster] [May chg .compose] [May chg
    .heads] [May chg .ports] [May chg .cameo] [May chg .touch] [May chg .hap] [May chg .audio] [May chg .memc] [May chg .locket]
    [May chg .flash] [May chg .isl] [May chg .power] {r0 s : State} (h : Kept chg r0 s) (key : Nat) (x : RCtx) (b : Sub) : Kept
    chg r0 (enqueueSub s key x b) := by
  unfold enqueueSub
  repeat' (first
      | with_reducible assumption | intro _ | with_reducible apply Kept.wr | with_reducible apply setRctx_kept
      | with_reducible apply wakeQuads_kept | with_reducible apply missRender_kept | with_reducible apply settlePreempt_kept
      | with_reducible apply Kept.clearOd | with_reducible apply Kept.ite | with_reducible apply Kept.ite_fst
      | simp (disch := first | exact May.or | exact Or.inr rfl) only [Kept.mk_eq, Kept.field_eq, Kept.cameo_eq] | split
      | dsimp only)

theorem submit_kept {chg : List Part} [May chg .free] [May chg .out] [May chg .fwQueue] [May chg .od] [May chg .dom] [May chg
    .mem] [May chg .ten] [May chg .clasp] [May chg .dict] [May chg .field] [May chg .raster] [May chg .compose] [May chg .heads]
    [May chg .ports] [May chg .cameo] [May chg .touch] [May chg .hap] [May chg .audio] [May chg .memc] [May chg .locket] [May
    chg .flash] [May chg .isl] [May chg .power] {r0 s : State} (h : Kept chg r0 s) (c : Nat) (a : Nat) : Kept chg r0 (submit s c
    a) := by
  unfold submit
  repeat' (first
      | with_reducible assumption | intro _ | with_reducible apply Kept.wr | with_reducible apply ok_kept
      | with_reducible apply fail_kept | with_reducible apply deniedAddr_kept | with_reducible apply enqueueSub_kept
      | with_reducible apply Kept.clearOd | with_reducible apply Kept.ite | with_reducible apply Kept.ite_fst
      | simp (disch := first | exact May.or | exact Or.inr rfl) only [Kept.mk_eq, Kept.field_eq, Kept.cameo_eq] | split
      | dsimp only)

theorem dispatch_kept {chg : List Part} [May chg .od] [May chg .ten] [May chg .clasp] [May chg .field] [May chg .raster] [May
    chg .power] {r0 s : State} (h : Kept chg r0 s) (c : Nat) (t : Taken) : Kept chg r0 (dispatch s c t) := by
  unfold dispatch
  repeat' (first
      | with_reducible assumption | intro _ | with_reducible apply Kept.wr | with_reducible apply ok_kept
      | with_reducible apply fail_kept | with_reducible apply deniedAddr_kept | with_reducible apply setCctx_kept
      | with_reducible apply wakeQuads_kept | with_reducible apply settlePreempt_kept | with_reducible apply Kept.clearOd
      | with_reducible apply Kept.ite | with_reducible apply Kept.ite_fst | simp (disch := first
      | exact May.or | exact Or.inr rfl) only [Kept.mk_eq, Kept.field_eq, Kept.cameo_eq] | split | dsimp only)

theorem setTileState_kept {chg : List Part} [May chg .raster] {r0 s : State} (h : Kept chg r0 s) (b : Sub) (t : Nat) (v : Nat) :
    Kept chg r0 (setTileState s b t v) := by
  unfold setTileState
  repeat' (first
      | with_reducible assumption | intro _ | with_reducible apply Kept.wr | with_reducible apply binSet_kept
      | with_reducible apply Kept.clearOd | with_reducible apply Kept.ite | with_reducible apply Kept.ite_fst
      | simp (disch := first | exact May.or | exact Or.inr rfl) only [Kept.mk_eq, Kept.field_eq, Kept.cameo_eq] | split
      | dsimp only)

theorem appendEntry_kept {chg : List Part} [May chg .raster] {r0 s : State} (h : Kept chg r0 s) (units : List Nat) (key : Nat) (b : Sub) (t e : Nat) :
    Kept chg r0 (appendEntry s units key b t e) := by
  unfold appendEntry
  dsimp only
  split
  · exact binSet_kept h _ _
  · split
    · exact h
    · rename_i a
      have h1 := allocBlock_kept h a
      split
      · exact setTileState_kept h1 _ _ _
      · exact setTileState_kept (binSet_kept h1 _ _) _ _ _

theorem binEntry_kept {chg : List Part} [May chg .raster] {r0 s : State} (h : Kept chg r0 s) (units : List Nat) (key : Nat) (b :
    Sub) (block : Nat) (t : Nat) : Kept chg r0 (binEntry s units key b block t) := by
  unfold binEntry
  repeat' (first
      | with_reducible assumption | intro _ | with_reducible apply Kept.wr | with_reducible apply appendEntry_kept
      | with_reducible apply Kept.clearOd | with_reducible apply Kept.ite | with_reducible apply Kept.ite_fst
      | simp (disch := first | exact May.or | exact Or.inr rfl) only [Kept.mk_eq, Kept.field_eq, Kept.cameo_eq] | split
      | dsimp only)

theorem allocTable_kept {chg : List Part} [May chg .raster] {r0 s t : State} {units l : List Nat} {key fence n : Nat} (h : Kept chg r0 s)
    (e : allocTable units key fence n s = some (l, t)) : Kept chg r0 t := by
  induction n generalizing s l t with
  | zero =>
    simp only [allocTable, Option.some.injEq, Prod.mk.injEq] at e
    exact e.2 ▸ h
  | succ n ih =>
    rw [allocTable] at e
    split at e
    · exact nomatch e
    · rename_i a
      obtain ⟨r, f, g⟩ := Option.map_eq_some_iff.mp e
      rw [Prod.mk.injEq] at g
      exact g.2 ▸ ih (allocBlock_kept h a) f

theorem binPiece_kept {chg : List Part} [May chg .raster] {r0 s t : State} {key : Nat} {x : RCtx} {b : Sub} {seq st : Nat} {p :
    Piece} {tiles : List Nat}
    (h : Kept chg r0 s) (e : binPiece s key x b seq st p tiles = some t) : Kept chg r0 t := by
  unfold binPiece at e
  dsimp only at e
  split at e
  · exact nomatch e
  · split at e
    · exact nomatch e
    · rename_i a
      rw [← Option.some.inj e]
      exact Kept.foldl (fun t x ht => binEntry_kept ht _ _ _ _ _) (allocBlock_kept h a)

theorem stepFront_kept {chg : List Part} [May chg .raster] {r0 s : State} (h : Kept chg r0 s) (key : Nat) (seq : Nat) (binned :
    Bool) : Kept chg r0 (stepFront s key seq binned) := by
  unfold stepFront
  repeat' (first
      | with_reducible assumption | intro _ | with_reducible apply Kept.wr | with_reducible apply setRctx_kept
      | with_reducible apply Kept.clearOd | with_reducible apply Kept.ite | with_reducible apply Kept.ite_fst
      | simp (disch := first | exact May.or | exact Or.inr rfl) only [Kept.mk_eq, Kept.field_eq, Kept.cameo_eq] | split
      | dsimp only)

theorem binPieces_kept {chg : List Part} [May chg .free] [May chg .out] [May chg .fwQueue] [May chg .od] [May chg .dom] [May chg
    .mem] [May chg .ten] [May chg .clasp] [May chg .dict] [May chg .field] [May chg .raster] [May chg .compose] [May chg .heads]
    [May chg .ports] [May chg .cameo] [May chg .touch] [May chg .hap] [May chg .audio] [May chg .memc] [May chg .locket] [May
    chg .flash] [May chg .isl] [May chg .power] {r0 s : State} (h : Kept chg r0 s) (key : Nat) (x : RCtx) (b : Sub) (st : Nat)
    (l : List (Nat × Option Piece)) : Kept chg r0 (binPieces key x b st l s).1 := by
  induction l generalizing s with
  | nil => exact h
  | cons q r ih =>
    obtain ⟨k, p⟩ := q
    unfold binPieces
    dsimp only
    repeat' (first
        | with_reducible assumption | with_reducible apply faultRender_kept | with_reducible apply missRender_kept
        | with_reducible apply ih | with_reducible apply stepFront_kept | with_reducible apply setRctx_kept
        | with_reducible refine binPiece_kept ?_ (by assumption) | split | dsimp only)

theorem binDraws_kept {chg : List Part} [May chg .free] [May chg .out] [May chg .fwQueue] [May chg .od] [May chg .dom] [May chg
    .mem] [May chg .ten] [May chg .clasp] [May chg .dict] [May chg .field] [May chg .raster] [May chg .compose] [May chg .heads]
    [May chg .ports] [May chg .cameo] [May chg .touch] [May chg .hap] [May chg .audio] [May chg .memc] [May chg .locket] [May
    chg .flash] [May chg .isl] [May chg .power] {r0 s : State} (h : Kept chg r0 s) (key n : Nat) : Kept chg r0 (binDraws key n
    s) := by
  induction n generalizing s with
  | zero => exact h
  | succ n ih =>
    rw [binDraws]
    repeat' (first
        | with_reducible assumption | with_reducible apply missRender_kept | with_reducible apply ih
        | with_reducible apply setRctx_kept | with_reducible apply binPieces_kept | split | dsimp only)

theorem advance_kept {chg : List Part} [May chg .free] [May chg .out] [May chg .fwQueue] [May chg .od] [May chg .dom] [May chg
    .mem] [May chg .ten] [May chg .clasp] [May chg .dict] [May chg .field] [May chg .raster] [May chg .compose] [May chg .heads]
    [May chg .ports] [May chg .cameo] [May chg .touch] [May chg .hap] [May chg .audio] [May chg .memc] [May chg .locket] [May
    chg .flash] [May chg .isl] [May chg .power] {r0 s : State} (h : Kept chg r0 s) (key : Nat) : Kept chg r0 (advance s key) :=
    by
  unfold advance
  repeat' (first
      | with_reducible assumption | with_reducible apply missRender_kept | with_reducible apply binDraws_kept
      | with_reducible apply setRctx_kept | with_reducible refine allocTable_kept ?_ (by assumption) | split | dsimp only)

theorem binningEnd_kept {chg : List Part} [May chg .free] [May chg .out] [May chg .fwQueue] [May chg .od] [May chg .dom] [May
    chg .mem] [May chg .ten] [May chg .clasp] [May chg .dict] [May chg .field] [May chg .raster] [May chg .compose] [May chg
    .heads] [May chg .ports] [May chg .cameo] [May chg .touch] [May chg .hap] [May chg .audio] [May chg .memc] [May chg .locket]
    [May chg .flash] [May chg .isl] [May chg .power] {r0 s : State} (h : Kept chg r0 s) (key : Nat) : Kept chg r0 (binningEnd s
    key) := by
  unfold binningEnd
  repeat' (first
      | with_reducible assumption | intro _ | with_reducible apply Kept.wr | with_reducible apply setRctx_kept
      | with_reducible apply settlePreempt_kept | with_reducible apply advance_kept | with_reducible apply Kept.clearOd
      | with_reducible apply Kept.ite | with_reducible apply Kept.ite_fst | simp (disch := first
      | exact May.or | exact Or.inr rfl) only [Kept.mk_eq, Kept.field_eq, Kept.cameo_eq] | split | dsimp only)

theorem openPartial_kept {chg : List Part} [May chg .raster] {r0 s : State} (h : Kept chg r0 s) (key : Nat) : Kept chg r0 (openPartial s key) := by
  unfold openPartial
  repeat' (first
      | with_reducible assumption | intro _ | with_reducible apply Kept.wr | with_reducible apply setRctx_kept
      | with_reducible apply settlePreempt_kept | with_reducible apply Kept.clearOd | with_reducible apply Kept.ite
      | with_reducible apply Kept.ite_fst | simp (disch := first
      | exact May.or | exact Or.inr rfl) only [Kept.mk_eq, Kept.field_eq, Kept.cameo_eq] | split | dsimp only)

theorem partialStart_kept {chg : List Part} [May chg .free] [May chg .out] [May chg .fwQueue] [May chg .od] [May chg .dom] [May
    chg .mem] [May chg .ten] [May chg .clasp] [May chg .dict] [May chg .field] [May chg .raster] [May chg .compose] [May chg
    .heads] [May chg .ports] [May chg .cameo] [May chg .touch] [May chg .hap] [May chg .audio] [May chg .memc] [May chg .locket]
    [May chg .flash] [May chg .isl] [May chg .power] {r0 s : State} (h : Kept chg r0 s) (key : Nat) : Kept chg r0 (partialStart
    s key) := by
  unfold partialStart
  repeat' (first
      | with_reducible assumption | intro _ | with_reducible apply Kept.wr | with_reducible apply raise_kept
      | with_reducible apply setRctx_kept | with_reducible apply advance_kept | with_reducible apply openPartial_kept
      | with_reducible apply Kept.clearOd | with_reducible apply Kept.ite | with_reducible apply Kept.ite_fst
      | simp (disch := first | exact May.or | exact Or.inr rfl) only [Kept.mk_eq, Kept.field_eq, Kept.cameo_eq] | split
      | dsimp only)

theorem partialDone_kept {chg : List Part} [May chg .free] [May chg .out] [May chg .fwQueue] [May chg .od] [May chg .dom] [May
    chg .mem] [May chg .ten] [May chg .clasp] [May chg .dict] [May chg .field] [May chg .raster] [May chg .compose] [May chg
    .heads] [May chg .ports] [May chg .cameo] [May chg .touch] [May chg .hap] [May chg .audio] [May chg .memc] [May chg .locket]
    [May chg .flash] [May chg .isl] [May chg .power] {r0 s : State} (h : Kept chg r0 s) (key : Nat) : Kept chg r0 (partialDone s
    key) := by
  unfold partialDone
  repeat' (first
      | with_reducible assumption | intro _ | with_reducible apply Kept.wr | with_reducible apply raise_kept
      | with_reducible apply setRctx_kept | with_reducible apply freeBlocks_kept | with_reducible apply advance_kept
      | with_reducible apply Kept.clearOd | with_reducible apply Kept.ite | with_reducible apply Kept.ite_fst
      | simp (disch := first | exact May.or | exact Or.inr rfl) only [Kept.mk_eq, Kept.field_eq, Kept.cameo_eq] | split
      | dsimp only)

theorem issueNext_kept {chg : List Part} [May chg .free] [May chg .out] [May chg .fwQueue] [May chg .od] [May chg .dom] [May chg
    .mem] [May chg .ten] [May chg .clasp] [May chg .dict] [May chg .field] [May chg .raster] [May chg .compose] [May chg .heads]
    [May chg .ports] [May chg .cameo] [May chg .touch] [May chg .hap] [May chg .audio] [May chg .memc] [May chg .locket] [May
    chg .flash] [May chg .isl] [May chg .power] {r0 s t : State} {core slot : Nat} (h : Kept chg r0 s) (e : issueNext s core
    slot = some t) :
    Kept chg r0 t := by
  have hg : ∀ (c : Prop) [Decidable c] (a b : CoreRec), Kept chg r0 (if c then setCore s core a else setCore s core b) :=
    fun c _ a b => .ite (setCore_kept h _ _) (setCore_kept h _ _)
  unfold issueNext at e
  dsimp only at e
  split at e
  · split at e
    · split at e
      · exact nomatch e
      · split at e
        · exact Option.some.inj e ▸ missRender_kept h _ _ _
        · split at e
          · exact Option.some.inj e ▸ hg _ _ _
          · split at e
            · exact nomatch e
            · exact Option.some.inj e ▸ hg _ _ _
    · exact nomatch e
  · exact nomatch e

theorem issueGroups_kept {chg : List Part} [May chg .free] [May chg .out] [May chg .fwQueue] [May chg .od] [May chg .dom] [May
    chg .mem] [May chg .ten] [May chg .clasp] [May chg .dict] [May chg .field] [May chg .raster] [May chg .compose] [May chg
    .heads] [May chg .ports] [May chg .cameo] [May chg .touch] [May chg .hap] [May chg .audio] [May chg .memc] [May chg .locket]
    [May chg .flash] [May chg .isl] [May chg .power] {r0 s : State} (h : Kept chg r0 s) (core n : Nat) : Kept chg r0
    (issueGroups core n s) := by
  induction n generalizing s with
  | zero => exact h
  | succ n ih =>
    rw [issueGroups]
    split
    · rename_i e
      obtain ⟨i, _, hi⟩ := List.exists_of_findSome?_eq_some e
      exact ih (issueNext_kept h hi)
    · exact h

theorem issueCore_kept {chg : List Part} [May chg .free] [May chg .out] [May chg .fwQueue] [May chg .od] [May chg .dom] [May chg
    .mem] [May chg .ten] [May chg .clasp] [May chg .dict] [May chg .field] [May chg .raster] [May chg .compose] [May chg .heads]
    [May chg .ports] [May chg .cameo] [May chg .touch] [May chg .hap] [May chg .audio] [May chg .memc] [May chg .locket] [May
    chg .flash] [May chg .isl] [May chg .power] {r0 s : State} (h : Kept chg r0 s) (core : Nat) : Kept chg r0 (issueCore s core)
    := by
  unfold issueCore
  repeat' (first
      | with_reducible assumption | intro _ | with_reducible apply Kept.wr | with_reducible apply issueGroups_kept
      | with_reducible apply Kept.clearOd | with_reducible apply Kept.ite | with_reducible apply Kept.ite_fst
      | simp (disch := first | exact May.or | exact Or.inr rfl) only [Kept.mk_eq, Kept.field_eq, Kept.cameo_eq] | split
      | dsimp only)

theorem tileDispatch_kept {chg : List Part} [May chg .free] [May chg .out] [May chg .fwQueue] [May chg .od] [May chg .dom] [May
    chg .mem] [May chg .ten] [May chg .clasp] [May chg .dict] [May chg .field] [May chg .raster] [May chg .compose] [May chg
    .heads] [May chg .ports] [May chg .cameo] [May chg .touch] [May chg .hap] [May chg .audio] [May chg .memc] [May chg .locket]
    [May chg .flash] [May chg .isl] [May chg .power] {r0 s : State} (h : Kept chg r0 s) (key : Nat) (core : Nat) : Kept chg r0
    (tileDispatch s key core) := by
  unfold tileDispatch
  repeat' (first
      | with_reducible assumption | intro _ | with_reducible apply Kept.wr | with_reducible apply setRctx_kept
      | with_reducible apply setCore_kept | with_reducible apply missRender_kept | with_reducible apply setTileState_kept
      | with_reducible apply issueCore_kept | with_reducible apply Kept.clearOd | with_reducible apply Kept.ite
      | with_reducible apply Kept.ite_fst | simp (disch := first
      | exact May.or | exact Or.inr rfl) only [Kept.mk_eq, Kept.field_eq, Kept.cameo_eq] | split | dsimp only)

theorem tileReload_kept {chg : List Part} [May chg .free] [May chg .out] [May chg .fwQueue] [May chg .od] [May chg .dom] [May
    chg .mem] [May chg .ten] [May chg .clasp] [May chg .dict] [May chg .field] [May chg .raster] [May chg .compose] [May chg
    .heads] [May chg .ports] [May chg .cameo] [May chg .touch] [May chg .hap] [May chg .audio] [May chg .memc] [May chg .locket]
    [May chg .flash] [May chg .isl] [May chg .power] {r0 s : State} (h : Kept chg r0 s) (core : Nat) (tile : Nat) : Kept chg r0
    (tileReload s core tile) := by
  unfold tileReload
  repeat' (first
      | with_reducible assumption | intro _ | with_reducible apply Kept.wr | with_reducible apply setRctx_kept
      | with_reducible apply setCore_kept | with_reducible apply missRender_kept | with_reducible apply issueCore_kept
      | with_reducible apply Kept.clearOd | with_reducible apply Kept.ite | with_reducible apply Kept.ite_fst
      | simp (disch := first | exact May.or | exact Or.inr rfl) only [Kept.mk_eq, Kept.field_eq, Kept.cameo_eq] | split
      | dsimp only)

theorem resolveAtt_kept {chg : List Part} [May chg .mem] [May chg .memc] {r0 s : State} (h : Kept chg r0 s) (key : Nat) (x :
    RCtx) (t : Attach) (k : CoreRec) (slot : Nat) (tile : Nat) (att : Nat) : Kept chg r0 (resolveAtt s key x t k slot tile att)
    := by
  unfold resolveAtt
  repeat' (first
      | with_reducible assumption | intro _ | with_reducible apply Kept.wr | with_reducible apply ctxWr_kept
      | with_reducible apply Kept.foldl | with_reducible apply Kept.clearOd | with_reducible apply Kept.ite
      | with_reducible apply Kept.ite_fst | simp (disch := first
      | exact May.or | exact Or.inr rfl) only [Kept.mk_eq, Kept.field_eq, Kept.cameo_eq] | split | dsimp only)

theorem resolveTile_kept {chg : List Part} [May chg .mem] [May chg .memc] {r0 s : State} (h : Kept chg r0 s) (key : Nat) (x :
    RCtx) (b : Sub) (k : CoreRec) (slot tile : Nat) :
    Kept chg r0 (resolveTile s key x b k slot tile).1 := by
  unfold resolveTile
  refine foldl_fst_kept (fun t i ht => ?_) h
  repeat' (first
      | with_reducible assumption | intro _ | with_reducible apply resolveAtt_kept | with_reducible apply windowViolation_kept
      | with_reducible apply Kept.ite | with_reducible apply Kept.ite_fst | simp (disch := first
      | exact May.or | exact Or.inr rfl) only [Kept.mk_eq, Kept.field_eq, Kept.cameo_eq] | split | dsimp only)

theorem flushTile_kept {chg : List Part} [May chg .free] [May chg .out] [May chg .fwQueue] [May chg .od] [May chg .dom] [May chg
    .mem] [May chg .ten] [May chg .clasp] [May chg .dict] [May chg .field] [May chg .raster] [May chg .compose] [May chg .heads]
    [May chg .ports] [May chg .cameo] [May chg .touch] [May chg .hap] [May chg .audio] [May chg .memc] [May chg .locket] [May
    chg .flash] [May chg .isl] [May chg .power] {r0 s : State} (h : Kept chg r0 s) (core : Nat) (slot : Nat) (k : CoreRec) (r :
    SlotRec) (x : RCtx) (b : Sub) : Kept chg r0 (flushTile s core slot k r x b) := by
  unfold flushTile
  repeat' (first
      | with_reducible assumption | intro _ | with_reducible apply Kept.wr | with_reducible apply ctxWr_kept
      | with_reducible apply setRctx_kept | with_reducible apply freeBlocks_kept | with_reducible apply missRender_kept
      | with_reducible apply setTileState_kept | with_reducible apply Kept.clearOd | with_reducible apply Kept.ite
      | with_reducible apply Kept.ite_fst | simp (disch := first
      | exact May.or | exact Or.inr rfl) only [Kept.mk_eq, Kept.field_eq, Kept.cameo_eq] | split | dsimp only)

theorem finishTile_kept {chg : List Part} [May chg .free] [May chg .out] [May chg .fwQueue] [May chg .od] [May chg .dom] [May
    chg .mem] [May chg .ten] [May chg .clasp] [May chg .dict] [May chg .field] [May chg .raster] [May chg .compose] [May chg
    .heads] [May chg .ports] [May chg .cameo] [May chg .touch] [May chg .hap] [May chg .audio] [May chg .memc] [May chg .locket]
    [May chg .flash] [May chg .isl] [May chg .power] {r0 s : State} (h : Kept chg r0 s) (core : Nat) (slot : Nat) (k : CoreRec)
    (r : SlotRec) (x : RCtx) (b : Sub) : Kept chg r0 (finishTile s core slot k r x b) := by
  unfold finishTile
  repeat' (first
      | with_reducible assumption | intro _ | with_reducible apply Kept.wr | with_reducible apply setRctx_kept
      | with_reducible apply freeBlocks_kept | with_reducible apply missRender_kept | with_reducible apply advance_kept
      | with_reducible apply openPartial_kept | with_reducible apply resolveTile_kept | with_reducible apply Kept.clearOd
      | with_reducible apply Kept.ite | with_reducible apply Kept.ite_fst | simp (disch := first
      | exact May.or | exact Or.inr rfl) only [Kept.mk_eq, Kept.field_eq, Kept.cameo_eq] | split | dsimp only)

theorem tilePassEnd_kept {chg : List Part} [May chg .free] [May chg .out] [May chg .fwQueue] [May chg .od] [May chg .dom] [May
    chg .mem] [May chg .ten] [May chg .clasp] [May chg .dict] [May chg .field] [May chg .raster] [May chg .compose] [May chg
    .heads] [May chg .ports] [May chg .cameo] [May chg .touch] [May chg .hap] [May chg .audio] [May chg .memc] [May chg .locket]
    [May chg .flash] [May chg .isl] [May chg .power] {r0 s : State} (h : Kept chg r0 s) (core : Nat) (tile : Nat) : Kept chg r0
    (tilePassEnd s core tile) := by
  unfold tilePassEnd
  repeat' (first
      | with_reducible assumption | intro _ | with_reducible apply Kept.wr | with_reducible apply setCore_kept
      | with_reducible apply flushTile_kept | with_reducible apply finishTile_kept | with_reducible apply Kept.clearOd
      | with_reducible apply Kept.ite | with_reducible apply Kept.ite_fst | simp (disch := first
      | exact May.or | exact Or.inr rfl) only [Kept.mk_eq, Kept.field_eq, Kept.cameo_eq] | split | dsimp only)

theorem flushAcknowledged_kept {chg : List Part} [May chg .raster] {r0 s : State} (h : Kept chg r0 s) (key : Nat) (tile : Nat) :
    Kept chg r0 (flushAcknowledged s key tile) := by
  unfold flushAcknowledged
  repeat' (first
      | with_reducible assumption | intro _ | with_reducible apply Kept.wr | with_reducible apply setTileState_kept
      | with_reducible apply Kept.clearOd | with_reducible apply Kept.ite | with_reducible apply Kept.ite_fst
      | simp (disch := first | exact May.or | exact Or.inr rfl) only [Kept.mk_eq, Kept.field_eq, Kept.cameo_eq] | split
      | dsimp only)

theorem renderDone_kept {chg : List Part} [May chg .out] [May chg .fwQueue] [May chg .od] [May chg .mem] [May chg .raster] [May
    chg .memc] {r0 s : State} (h : Kept chg r0 s) (key : Nat) : Kept chg r0 (renderDone s key) := by
  unfold renderDone
  repeat' (first
      | with_reducible assumption | intro _ | with_reducible apply Kept.wr | with_reducible apply raise_kept
      | with_reducible apply setRctx_kept | with_reducible apply writeStats_kept | with_reducible apply Kept.clearOd
      | with_reducible apply Kept.ite | with_reducible apply Kept.ite_fst | simp (disch := first
      | exact May.or | exact Or.inr rfl) only [Kept.mk_eq, Kept.field_eq, Kept.cameo_eq] | split | dsimp only)

theorem faultHart_kept {chg : List Part} [May chg .free] [May chg .out] [May chg .fwQueue] [May chg .od] [May chg .dom] [May chg
    .mem] [May chg .ten] [May chg .clasp] [May chg .dict] [May chg .field] [May chg .raster] [May chg .compose] [May chg .heads]
    [May chg .ports] [May chg .cameo] [May chg .touch] [May chg .hap] [May chg .audio] [May chg .memc] [May chg .locket] [May
    chg .flash] [May chg .isl] [May chg .power] {r0 s : State} (h : Kept chg r0 s) (core : Nat) (h : Nat) (kind : Nat) (addr :
    Nat) (pc : Nat) : Kept chg r0 (faultHart s core h kind addr pc) := by
  unfold faultHart
  repeat' (first
      | with_reducible assumption | intro _ | with_reducible apply Kept.wr | with_reducible apply faultRender_kept
      | with_reducible apply faultCompute_kept | with_reducible apply Kept.clearOd | with_reducible apply Kept.ite
      | with_reducible apply Kept.ite_fst | simp (disch := first
      | exact May.or | exact Or.inr rfl) only [Kept.mk_eq, Kept.field_eq, Kept.cameo_eq] | split | dsimp only)

theorem pxGroup_kept {chg : List Part} [May chg .free] [May chg .out] [May chg .fwQueue] [May chg .od] [May chg .dom] [May chg
    .mem] [May chg .ten] [May chg .clasp] [May chg .dict] [May chg .field] [May chg .raster] [May chg .compose] [May chg .heads]
    [May chg .ports] [May chg .cameo] [May chg .touch] [May chg .hap] [May chg .audio] [May chg .memc] [May chg .locket] [May
    chg .flash] [May chg .isl] [May chg .power] {r0 s : State} (h : Kept chg r0 s) (core : Nat) (h : Nat) (w : Nat) (x : RCtx)
    (g : GroupRun) (o : PxOp) : Kept chg r0 (pxGroup s core h w x g o) := by
  unfold pxGroup
  repeat' (first
      | with_reducible assumption | intro _ | with_reducible apply Kept.wr | with_reducible apply setCore_kept
      | with_reducible apply issueCore_kept | with_reducible apply faultHart_kept | with_reducible apply Kept.clearOd
      | with_reducible apply Kept.ite | with_reducible apply Kept.ite_fst | simp (disch := first
      | exact May.or | exact Or.inr rfl) only [Kept.mk_eq, Kept.field_eq, Kept.cameo_eq] | split | dsimp only)

theorem pxExec_kept {chg : List Part} [May chg .free] [May chg .out] [May chg .fwQueue] [May chg .od] [May chg .dom] [May chg
    .mem] [May chg .ten] [May chg .clasp] [May chg .dict] [May chg .field] [May chg .raster] [May chg .compose] [May chg .heads]
    [May chg .ports] [May chg .cameo] [May chg .touch] [May chg .hap] [May chg .audio] [May chg .memc] [May chg .locket] [May
    chg .flash] [May chg .isl] [May chg .power] {r0 s : State} (h : Kept chg r0 s) (core : Nat) (h : Nat) (f3 : Nat) (w : Nat) :
    Kept chg r0 (pxExec s core h f3 w) := by
  unfold pxExec
  repeat' (first
      | with_reducible assumption | intro _ | with_reducible apply Kept.wr | with_reducible apply setCore_kept
      | with_reducible apply faultHart_kept | with_reducible apply pxGroup_kept | with_reducible apply Kept.clearOd
      | with_reducible apply Kept.ite | with_reducible apply Kept.ite_fst | simp (disch := first
      | exact May.or | exact Or.inr rfl) only [Kept.mk_eq, Kept.field_eq, Kept.cameo_eq] | split | dsimp only)

theorem interlockGrant_kept {chg : List Part} [May chg .raster] {r0 s : State} (h : Kept chg r0 s) (core : Nat) (h : Nat)
    (cycles : Nat) : Kept chg r0 (interlockGrant s core h cycles) := by
  unfold interlockGrant
  repeat' (first
      | with_reducible assumption | intro _ | with_reducible apply Kept.wr | with_reducible apply setRctx_kept
      | with_reducible apply setCore_kept | with_reducible apply Kept.clearOd | with_reducible apply Kept.ite
      | with_reducible apply Kept.ite_fst | simp (disch := first
      | exact May.or | exact Or.inr rfl) only [Kept.mk_eq, Kept.field_eq, Kept.cameo_eq] | split | dsimp only)

theorem hartEcall_kept {chg : List Part} [May chg .free] [May chg .out] [May chg .fwQueue] [May chg .od] [May chg .dom] [May chg
    .mem] [May chg .ten] [May chg .clasp] [May chg .dict] [May chg .field] [May chg .raster] [May chg .compose] [May chg .heads]
    [May chg .ports] [May chg .cameo] [May chg .touch] [May chg .hap] [May chg .audio] [May chg .memc] [May chg .locket] [May
    chg .flash] [May chg .isl] [May chg .power] {r0 s : State} (h : Kept chg r0 s) (core : Nat) (h : Nat) : Kept chg r0
    (hartEcall s core h) := by
  unfold hartEcall
  repeat' (first
      | with_reducible assumption | intro _ | with_reducible apply Kept.wr | with_reducible apply setRctx_kept
      | with_reducible apply setCore_kept | with_reducible apply advance_kept | with_reducible apply issueCore_kept
      | with_reducible apply Kept.clearOd | with_reducible apply Kept.ite | with_reducible apply Kept.ite_fst
      | simp (disch := first | exact May.or | exact Or.inr rfl) only [Kept.mk_eq, Kept.field_eq, Kept.cameo_eq] | split
      | dsimp only)

theorem hartEbreak_kept {chg : List Part} [May chg .free] [May chg .out] [May chg .fwQueue] [May chg .od] [May chg .dom] [May
    chg .mem] [May chg .ten] [May chg .clasp] [May chg .dict] [May chg .field] [May chg .raster] [May chg .compose] [May chg
    .heads] [May chg .ports] [May chg .cameo] [May chg .touch] [May chg .hap] [May chg .audio] [May chg .memc] [May chg .locket]
    [May chg .flash] [May chg .isl] [May chg .power] {r0 s : State} (h : Kept chg r0 s) (core : Nat) (h : Nat) (pc : Nat) : Kept
    chg r0 (hartEbreak s core h pc) := by
  unfold hartEbreak
  repeat' (first
      | with_reducible assumption | intro _ | with_reducible apply Kept.wr | with_reducible apply setCore_kept
      | with_reducible apply faultHart_kept | with_reducible apply Kept.clearOd | with_reducible apply Kept.ite
      | with_reducible apply Kept.ite_fst | simp (disch := first
      | exact May.or | exact Or.inr rfl) only [Kept.mk_eq, Kept.field_eq, Kept.cameo_eq] | split | dsimp only)

theorem tileEcc_kept {chg : List Part} [May chg .free] [May chg .out] [May chg .fwQueue] [May chg .od] [May chg .dom] [May chg
    .mem] [May chg .ten] [May chg .clasp] [May chg .dict] [May chg .field] [May chg .raster] [May chg .compose] [May chg .heads]
    [May chg .ports] [May chg .cameo] [May chg .touch] [May chg .hap] [May chg .audio] [May chg .memc] [May chg .locket] [May
    chg .flash] [May chg .isl] [May chg .power] {r0 s : State} (h : Kept chg r0 s) (core : Nat) (slot : Nat) (double : Bool) :
    Kept chg r0 (tileEcc s core slot double) := by
  unfold tileEcc
  repeat' (first
      | with_reducible assumption | intro _ | with_reducible apply Kept.wr | with_reducible apply raise_kept
      | with_reducible apply setRctx_kept | with_reducible apply setCore_kept | with_reducible apply faultRender_kept
      | with_reducible apply Kept.clearOd | with_reducible apply Kept.ite | with_reducible apply Kept.ite_fst
      | simp (disch := first | exact May.or | exact Or.inr rfl) only [Kept.mk_eq, Kept.field_eq, Kept.cameo_eq] | split
      | dsimp only)

end Sys2Proof.Laws
end

