-- ==== Sys2Proof/Laws/KeptHeads.lean ====
section
/-! SUPPORT. What the operations of composition, the line buffers and the heads keep (Kept): one lemma an operation. -/

set_option linter.unusedSimpArgs false
set_option linter.all false

namespace Sys2Proof.Laws

open Sys2Proof Sys2Proof.Machine

theorem setFacet_kept {chg : List Part} [May chg .compose] {r0 s : State} (h : Kept chg r0 s) (h : Nat) (f : Nat) (x : FacetRec)
    : Kept chg r0 (setFacet s h f x) := by
  unfold setFacet
  repeat' (first
      | with_reducible assumption | intro _ | with_reducible apply Kept.wr | with_reducible apply Kept.clearOd
      | with_reducible apply Kept.ite | with_reducible apply Kept.ite_fst | simp (disch := first
      | exact May.or | exact Or.inr rfl) only [Kept.mk_eq, Kept.field_eq, Kept.cameo_eq] | split | dsimp only)

theorem setHead_kept {chg : List Part} [May chg .heads] {r0 s : State} (h : Kept chg r0 s) (h : Nat) (x : HeadRec) : Kept chg r0 (setHead s h x) := by
  unfold setHead
  repeat' (first
      | with_reducible assumption | intro _ | with_reducible apply Kept.wr | with_reducible apply Kept.clearOd
      | with_reducible apply Kept.ite | with_reducible apply Kept.ite_fst | simp (disch := first
      | exact May.or | exact Or.inr rfl) only [Kept.mk_eq, Kept.field_eq, Kept.cameo_eq] | split | dsimp only)

theorem setRx_kept {chg : List Part} [May chg .ports] {r0 s : State} (h : Kept chg r0 s) (r : Nat) (x : RxRec) : Kept chg r0 (setRx s r x) := by
  unfold setRx
  repeat' (first
      | with_reducible assumption | intro _ | with_reducible apply Kept.wr | with_reducible apply Kept.clearOd
      | with_reducible apply Kept.ite | with_reducible apply Kept.ite_fst | simp (disch := first
      | exact May.or | exact Or.inr rfl) only [Kept.mk_eq, Kept.field_eq, Kept.cameo_eq] | split | dsimp only)

theorem updateSums_kept {chg : List Part} [May chg .od] {r0 s : State} (h : Kept chg r0 s)  : Kept chg r0 (updateSums s) := by
  unfold updateSums
  repeat' (first
      | with_reducible assumption | intro _ | with_reducible apply Kept.wr | with_reducible apply Kept.foldl
      | with_reducible apply Kept.clearOd | with_reducible apply Kept.ite | with_reducible apply Kept.ite_fst
      | simp (disch := first | exact May.or | exact Or.inr rfl) only [Kept.mk_eq, Kept.field_eq, Kept.cameo_eq] | split
      | dsimp only)

theorem updateSlices_kept {chg : List Part} [May chg .od] {r0 s : State} (h : Kept chg r0 s)  : Kept chg r0 (updateSlices s) := by
  unfold updateSlices
  repeat' (first
      | with_reducible assumption | intro _ | with_reducible apply Kept.wr | with_reducible apply Kept.foldl
      | with_reducible apply Kept.clearOd | with_reducible apply Kept.ite | with_reducible apply Kept.ite_fst
      | simp (disch := first | exact May.or | exact Or.inr rfl) only [Kept.mk_eq, Kept.field_eq, Kept.cameo_eq] | split
      | dsimp only)

theorem installBank_kept {chg : List Part} [May chg .od] [May chg .dom] [May chg .heads] {r0 s : State} (h : Kept chg r0 s) (h :
    Nat) : Kept chg r0 (installBank s h) := by
  unfold installBank
  repeat' (first
      | with_reducible assumption | intro _ | with_reducible apply Kept.wr | with_reducible apply Kept.dput
      | with_reducible apply bumpWrap_kept | with_reducible apply setHead_kept | with_reducible apply Kept.clearOd
      | with_reducible apply Kept.ite | with_reducible apply Kept.ite_fst | simp (disch := first
      | exact May.or | exact Or.inr rfl) only [Kept.mk_eq, Kept.field_eq, Kept.cameo_eq] | split | dsimp only)

theorem setGroups_kept {chg : List Part} [May chg .compose] {r0 s : State} (h : Kept chg r0 s) (l : List FlipGroup) : Kept chg
    r0 (setGroups s l) := by
  unfold setGroups
  repeat' (first
      | with_reducible assumption | intro _ | with_reducible apply Kept.wr | with_reducible apply Kept.clearOd
      | with_reducible apply Kept.ite | with_reducible apply Kept.ite_fst | simp (disch := first
      | exact May.or | exact Or.inr rfl) only [Kept.mk_eq, Kept.field_eq, Kept.cameo_eq] | split | dsimp only)

theorem dropGroup_kept {chg : List Part} [May chg .compose] {r0 s : State} (h : Kept chg r0 s) (g : FlipGroup) : Kept chg r0 (dropGroup s g) := by
  unfold dropGroup
  repeat' (first
      | with_reducible assumption | intro _ | with_reducible apply Kept.wr | with_reducible apply setGroups_kept
      | with_reducible apply Kept.clearOd | with_reducible apply Kept.ite | with_reducible apply Kept.ite_fst
      | simp (disch := first | exact May.or | exact Or.inr rfl) only [Kept.mk_eq, Kept.field_eq, Kept.cameo_eq] | split
      | dsimp only)

theorem putGroup_kept {chg : List Part} [May chg .compose] {r0 s : State} (h : Kept chg r0 s) (g : FlipGroup) : Kept chg r0 (putGroup s g) := by
  unfold putGroup
  repeat' (first
      | with_reducible assumption | intro _ | with_reducible apply Kept.wr | with_reducible apply setGroups_kept
      | with_reducible apply Kept.clearOd | with_reducible apply Kept.ite | with_reducible apply Kept.ite_fst
      | simp (disch := first | exact May.or | exact Or.inr rfl) only [Kept.mk_eq, Kept.field_eq, Kept.cameo_eq] | split
      | dsimp only)

theorem writeGroup_kept {chg : List Part} [May chg .mem] [May chg .memc] {r0 s : State} (h : Kept chg r0 s) (g : FlipGroup)
    (status : Nat) (reason : Nat) (first : Nat) : Kept chg r0 (writeGroup s g status reason first) := by
  unfold writeGroup
  repeat' (first
      | with_reducible assumption | intro _ | with_reducible apply Kept.wr | with_reducible apply winWr_kept
      | with_reducible apply Kept.clearOd | with_reducible apply Kept.ite | with_reducible apply Kept.ite_fst
      | simp (disch := first | exact May.or | exact Or.inr rfl) only [Kept.mk_eq, Kept.field_eq, Kept.cameo_eq] | split
      | dsimp only)

theorem writeGroupStatus_kept {chg : List Part} [May chg .mem] [May chg .memc] {r0 s : State} (h : Kept chg r0 s) (g :
    FlipGroup) (status : Nat) (first : Nat) : Kept chg r0 (writeGroupStatus s g status first) := by
  unfold writeGroupStatus
  repeat' (first
      | with_reducible assumption | intro _ | with_reducible apply Kept.wr | with_reducible apply winWr_kept
      | with_reducible apply Kept.clearOd | with_reducible apply Kept.ite | with_reducible apply Kept.ite_fst
      | simp (disch := first | exact May.or | exact Or.inr rfl) only [Kept.mk_eq, Kept.field_eq, Kept.cameo_eq] | split
      | dsimp only)

theorem discardGroup_kept {chg : List Part} [May chg .out] [May chg .fwQueue] [May chg .od] [May chg .mem] [May chg .clasp] [May
    chg .compose] [May chg .ports] [May chg .memc] {r0 s : State} (h : Kept chg r0 s) (g : FlipGroup) (reason : Nat) : Kept chg
    r0 (discardGroup s g reason) := by
  unfold discardGroup
  repeat' (first
      | with_reducible assumption | intro _ | with_reducible apply Kept.wr | with_reducible apply raise_kept
      | with_reducible apply setEvent_kept | with_reducible apply dropGroup_kept | with_reducible apply writeGroup_kept
      | with_reducible apply Kept.clearOd | with_reducible apply Kept.ite | with_reducible apply Kept.ite_fst
      | simp (disch := first | exact May.or | exact Or.inr rfl) only [Kept.mk_eq, Kept.field_eq, Kept.cameo_eq] | split
      | dsimp only)

theorem latchEntries_kept {chg : List Part} [May chg .od] [May chg .compose] {r0 s : State} (h : Kept chg r0 s) (g : FlipGroup)
    (h : Nat) : Kept chg r0 (latchEntries s g h) := by
  unfold latchEntries
  repeat' (first
      | with_reducible assumption | intro _ | with_reducible apply Kept.wr | with_reducible apply bump_kept
      | with_reducible apply setFacet_kept | with_reducible apply Kept.foldl | with_reducible apply Kept.clearOd
      | with_reducible apply Kept.ite | with_reducible apply Kept.ite_fst | simp (disch := first
      | exact May.or | exact Or.inr rfl) only [Kept.mk_eq, Kept.field_eq, Kept.cameo_eq] | split | dsimp only)

theorem takeOne_kept {chg : List Part} [May chg .out] [May chg .fwQueue] [May chg .od] [May chg .mem] [May chg .clasp] [May chg
    .compose] [May chg .ports] [May chg .memc] {r0 s : State} (h : Kept chg r0 s) (g : FlipGroup) (h : Nat) : Kept chg r0
    (takeOne s g h).1 := by
  unfold takeOne
  repeat' (first
      | with_reducible assumption | intro _ | with_reducible apply Kept.wr | with_reducible apply bump_kept
      | with_reducible apply raise_kept | with_reducible apply setEvent_kept | with_reducible apply dropGroup_kept
      | with_reducible apply putGroup_kept | with_reducible apply writeGroup_kept | with_reducible apply writeGroupStatus_kept
      | with_reducible apply latchEntries_kept | with_reducible apply Kept.clearOd | with_reducible apply Kept.ite
      | with_reducible apply Kept.ite_fst | simp (disch := first
      | exact May.or | exact Or.inr rfl) only [Kept.mk_eq, Kept.field_eq, Kept.cameo_eq] | split | dsimp only)

theorem takeGroup_kept {chg : List Part} [May chg .out] [May chg .fwQueue] [May chg .od] [May chg .mem] [May chg .clasp] [May
    chg .compose] [May chg .ports] [May chg .memc] {r0 s : State} (h : Kept chg r0 s) (g : FlipGroup) (n : Nat) : Kept chg r0
    (takeGroup s g n) := by
  unfold takeGroup
  dsimp only
  split
  · exact foldl_fst_kept (fun t k ht => takeOne_kept ht _ _) (takeOne_kept h _ _)
  · exact takeOne_kept h _ _

theorem discardOlder_kept {chg : List Part} [May chg .out] [May chg .fwQueue] [May chg .od] [May chg .mem] [May chg .clasp] [May
    chg .compose] [May chg .ports] [May chg .memc] {r0 s : State} (h : Kept chg r0 s) (g : FlipGroup) : Kept chg r0
    (discardOlder s g) := by
  unfold discardOlder
  repeat' (first
      | with_reducible assumption | intro _ | with_reducible apply Kept.wr | with_reducible apply discardGroup_kept
      | with_reducible apply Kept.foldl | with_reducible apply Kept.clearOd | with_reducible apply Kept.ite
      | with_reducible apply Kept.ite_fst | simp (disch := first
      | exact May.or | exact Or.inr rfl) only [Kept.mk_eq, Kept.field_eq, Kept.cameo_eq] | split | dsimp only)

theorem settleGroups_kept {chg : List Part} [May chg .out] [May chg .fwQueue] [May chg .od] [May chg .mem] [May chg .clasp] [May
    chg .compose] [May chg .ports] [May chg .memc] {r0 s : State} (h : Kept chg r0 s) (n : Nat) : Kept chg r0 (settleGroups n s)
    := by
  induction n generalizing s with
  | zero => exact h
  | succ n ih =>
    rw [settleGroups]
    split
    · exact h
    · split
      · exact h
      · exact ih (takeGroup_kept (discardOlder_kept h _) _ _)

theorem fenceToGroups_kept {chg : List Part} [May chg .out] [May chg .fwQueue] [May chg .od] [May chg .mem] [May chg .clasp]
    [May chg .compose] [May chg .ports] [May chg .memc] {r0 s : State} (h : Kept chg r0 s)  : Kept chg r0 (fenceToGroups s) :=
    by
  unfold fenceToGroups
  repeat' (first
      | with_reducible assumption | intro _ | with_reducible apply Kept.wr | with_reducible apply discardGroup_kept
      | with_reducible apply settleGroups_kept | with_reducible apply Kept.foldl | with_reducible apply Kept.clearOd
      | with_reducible apply Kept.ite | with_reducible apply Kept.ite_fst | simp (disch := first
      | exact May.or | exact Or.inr rfl) only [Kept.mk_eq, Kept.field_eq, Kept.cameo_eq] | split | dsimp only)

theorem writeFence_kept {chg : List Part} [May chg .free] [May chg .out] [May chg .fwQueue] [May chg .od] [May chg .dom] [May
    chg .mem] [May chg .ten] [May chg .clasp] [May chg .dict] [May chg .field] [May chg .raster] [May chg .compose] [May chg
    .heads] [May chg .ports] [May chg .cameo] [May chg .touch] [May chg .hap] [May chg .audio] [May chg .memc] [May chg .locket]
    [May chg .flash] [May chg .isl] [May chg .power] {r0 s : State} (h : Kept chg r0 s) (key : Nat) (addr : Nat) (value : Nat)
    (status : Nat) (kind : Nat) (compute : Bool) : Kept chg r0 (writeFence s key addr value status kind compute) := by
  unfold writeFence
  repeat' (first
      | with_reducible assumption | intro _ | with_reducible apply Kept.wr | with_reducible apply windowViolation_kept
      | with_reducible apply setEvent_kept | with_reducible apply ctxWr_kept | with_reducible apply faultRender_kept
      | with_reducible apply faultCompute_kept | with_reducible apply Kept.clearOd | with_reducible apply Kept.ite
      | with_reducible apply Kept.ite_fst | simp (disch := first
      | exact May.or | exact Or.inr rfl) only [Kept.mk_eq, Kept.field_eq, Kept.cameo_eq] | split | dsimp only)

theorem signalRender_kept {chg : List Part} [May chg .free] [May chg .out] [May chg .fwQueue] [May chg .od] [May chg .dom] [May
    chg .mem] [May chg .ten] [May chg .clasp] [May chg .dict] [May chg .field] [May chg .raster] [May chg .compose] [May chg
    .heads] [May chg .ports] [May chg .cameo] [May chg .touch] [May chg .hap] [May chg .audio] [May chg .memc] [May chg .locket]
    [May chg .flash] [May chg .isl] [May chg .power] {r0 s : State} (h : Kept chg r0 s) (key : Nat) (x : RCtx) (b : Sub) (rest :
    List Sub) (status : Nat) (kind : Nat) : Kept chg r0 (signalRender s key x b rest status kind) := by
  unfold signalRender
  repeat' (first
      | with_reducible assumption | intro _ | with_reducible apply Kept.wr | with_reducible apply raise_kept
      | with_reducible apply setRctx_kept | with_reducible apply freeBlocks_kept | with_reducible apply fenceToGroups_kept
      | with_reducible apply writeFence_kept | with_reducible apply Kept.clearOd | with_reducible apply Kept.ite
      | with_reducible apply Kept.ite_fst | simp (disch := first
      | exact May.or | exact Or.inr rfl) only [Kept.mk_eq, Kept.field_eq, Kept.cameo_eq] | split | dsimp only)

theorem signalCompute_kept {chg : List Part} [May chg .free] [May chg .out] [May chg .fwQueue] [May chg .od] [May chg .dom] [May
    chg .mem] [May chg .ten] [May chg .clasp] [May chg .dict] [May chg .field] [May chg .raster] [May chg .compose] [May chg
    .heads] [May chg .ports] [May chg .cameo] [May chg .touch] [May chg .hap] [May chg .audio] [May chg .memc] [May chg .locket]
    [May chg .flash] [May chg .isl] [May chg .power] {r0 s : State} (h : Kept chg r0 s) (c : Nat) (x : CCtx) (b : Disp) (rest :
    List Disp) (status : Nat) (kind : Nat) : Kept chg r0 (signalCompute s c x b rest status kind) := by
  unfold signalCompute
  repeat' (first
      | with_reducible assumption | intro _ | with_reducible apply Kept.wr | with_reducible apply setCctx_kept
      | with_reducible apply fenceToGroups_kept | with_reducible apply writeFence_kept | with_reducible apply Kept.clearOd
      | with_reducible apply Kept.ite | with_reducible apply Kept.ite_fst | simp (disch := first
      | exact May.or | exact Or.inr rfl) only [Kept.mk_eq, Kept.field_eq, Kept.cameo_eq] | split | dsimp only)

theorem fenceRender_kept {chg : List Part} [May chg .free] [May chg .out] [May chg .fwQueue] [May chg .od] [May chg .dom] [May
    chg .mem] [May chg .ten] [May chg .clasp] [May chg .dict] [May chg .field] [May chg .raster] [May chg .compose] [May chg
    .heads] [May chg .ports] [May chg .cameo] [May chg .touch] [May chg .hap] [May chg .audio] [May chg .memc] [May chg .locket]
    [May chg .flash] [May chg .isl] [May chg .power] {r0 s : State} (h : Kept chg r0 s) (key : Nat) : Kept chg r0 (fenceRender s
    key) := by
  unfold fenceRender
  repeat' (first
      | with_reducible assumption | intro _ | with_reducible apply Kept.wr | with_reducible apply settleRaised_kept
      | with_reducible apply signalRender_kept | with_reducible apply Kept.clearOd | with_reducible apply Kept.ite
      | with_reducible apply Kept.ite_fst | simp (disch := first
      | exact May.or | exact Or.inr rfl) only [Kept.mk_eq, Kept.field_eq, Kept.cameo_eq] | split | dsimp only)

theorem fenceCompute_kept {chg : List Part} [May chg .free] [May chg .out] [May chg .fwQueue] [May chg .od] [May chg .dom] [May
    chg .mem] [May chg .ten] [May chg .clasp] [May chg .dict] [May chg .field] [May chg .raster] [May chg .compose] [May chg
    .heads] [May chg .ports] [May chg .cameo] [May chg .touch] [May chg .hap] [May chg .audio] [May chg .memc] [May chg .locket]
    [May chg .flash] [May chg .isl] [May chg .power] {r0 s : State} (h : Kept chg r0 s) (c : Nat) : Kept chg r0 (fenceCompute s
    c) := by
  unfold fenceCompute
  repeat' (first
      | with_reducible assumption | intro _ | with_reducible apply Kept.wr | with_reducible apply signalCompute_kept
      | with_reducible apply Kept.clearOd | with_reducible apply Kept.ite | with_reducible apply Kept.ite_fst
      | simp (disch := first | exact May.or | exact Or.inr rfl) only [Kept.mk_eq, Kept.field_eq, Kept.cameo_eq] | split
      | dsimp only)

theorem abandonRender_kept {chg : List Part} [May chg .free] [May chg .out] [May chg .fwQueue] [May chg .od] [May chg .dom] [May
    chg .mem] [May chg .ten] [May chg .clasp] [May chg .dict] [May chg .field] [May chg .raster] [May chg .compose] [May chg
    .heads] [May chg .ports] [May chg .cameo] [May chg .touch] [May chg .hap] [May chg .audio] [May chg .memc] [May chg .locket]
    [May chg .flash] [May chg .isl] [May chg .power] {r0 s : State} (h : Kept chg r0 s) (key n : Nat) : Kept chg r0
    (abandonRender key n s) := by
  induction n generalizing s with
  | zero => exact h
  | succ n ih =>
    rw [abandonRender]
    split
    · split
      · exact h
      · exact ih (signalRender_kept h _ _ _ _ _ _)
    · exact h

theorem abandonCompute_kept {chg : List Part} [May chg .free] [May chg .out] [May chg .fwQueue] [May chg .od] [May chg .dom]
    [May chg .mem] [May chg .ten] [May chg .clasp] [May chg .dict] [May chg .field] [May chg .raster] [May chg .compose] [May
    chg .heads] [May chg .ports] [May chg .cameo] [May chg .touch] [May chg .hap] [May chg .audio] [May chg .memc] [May chg
    .locket] [May chg .flash] [May chg .isl] [May chg .power] {r0 s : State} (h : Kept chg r0 s) (c n : Nat) : Kept chg r0
    (abandonCompute c n s) := by
  induction n generalizing s with
  | zero => exact h
  | succ n ih =>
    rw [abandonCompute]
    split
    · split
      · exact h
      · exact ih (signalCompute_kept h _ _ _ _ _ _)
    · exact h

theorem removeRender_kept {chg : List Part} [May chg .free] [May chg .out] [May chg .fwQueue] [May chg .od] [May chg .dom] [May
    chg .mem] [May chg .ten] [May chg .clasp] [May chg .dict] [May chg .field] [May chg .raster] [May chg .compose] [May chg
    .heads] [May chg .ports] [May chg .cameo] [May chg .touch] [May chg .hap] [May chg .audio] [May chg .memc] [May chg .locket]
    [May chg .flash] [May chg .isl] [May chg .power] {r0 s : State} (h : Kept chg r0 s) (key : Nat) : Kept chg r0 (removeRender
    s key) := by
  unfold removeRender
  repeat' (first
      | with_reducible assumption | intro _ | with_reducible apply Kept.wr | with_reducible apply ok_kept
      | with_reducible apply serve_kept | with_reducible apply setRctx_kept | with_reducible apply freeBlocks_kept
      | with_reducible apply dropRenderAll_kept | with_reducible apply settleRaised_kept
      | with_reducible apply abandonRender_kept | with_reducible apply Kept.clearOd | with_reducible apply Kept.ite
      | with_reducible apply Kept.ite_fst | simp (disch := first
      | exact May.or | exact Or.inr rfl) only [Kept.mk_eq, Kept.field_eq, Kept.cameo_eq] | split | dsimp only)

theorem removeCompute_kept {chg : List Part} [May chg .free] [May chg .out] [May chg .fwQueue] [May chg .od] [May chg .dom] [May
    chg .mem] [May chg .ten] [May chg .clasp] [May chg .dict] [May chg .field] [May chg .raster] [May chg .compose] [May chg
    .heads] [May chg .ports] [May chg .cameo] [May chg .touch] [May chg .hap] [May chg .audio] [May chg .memc] [May chg .locket]
    [May chg .flash] [May chg .isl] [May chg .power] {r0 s : State} (h : Kept chg r0 s) (c : Nat) : Kept chg r0 (removeCompute s
    c) := by
  unfold removeCompute
  repeat' (first
      | with_reducible assumption | intro _ | with_reducible apply Kept.wr | with_reducible apply ok_kept
      | with_reducible apply serve_kept | with_reducible apply setCctx_kept | with_reducible apply abandonCompute_kept
      | with_reducible apply Kept.clearOd | with_reducible apply Kept.ite | with_reducible apply Kept.ite_fst
      | simp (disch := first | exact May.or | exact Or.inr rfl) only [Kept.mk_eq, Kept.field_eq, Kept.cameo_eq] | split
      | dsimp only)

theorem acceptGroup_kept {chg : List Part} [May chg .out] [May chg .fwQueue] [May chg .od] [May chg .mem] [May chg .clasp] [May
    chg .compose] [May chg .ports] [May chg .memc] {r0 s : State} (h : Kept chg r0 s) (c : Nat) (l : List FlipEntry) (record :
    Option Nat) : Kept chg r0 (acceptGroup s c l record) := by
  unfold acceptGroup
  repeat' (first
      | with_reducible assumption | intro _ | with_reducible apply Kept.wr | with_reducible apply ok_kept
      | with_reducible apply fenceToGroups_kept | with_reducible apply Kept.foldl | with_reducible apply Kept.clearOd
      | with_reducible apply Kept.ite | with_reducible apply Kept.ite_fst | simp (disch := first
      | exact May.or | exact Or.inr rfl) only [Kept.mk_eq, Kept.field_eq, Kept.cameo_eq] | split | dsimp only)

theorem flipRequest_kept {chg : List Part} [May chg .out] [May chg .fwQueue] [May chg .od] [May chg .mem] [May chg .ten] [May
    chg .clasp] [May chg .field] [May chg .compose] [May chg .ports] [May chg .memc] {r0 s : State} (h : Kept chg r0 s) (c :
    Nat) (es : List (FlipEntry × Bool)) (record : Option Nat) : Kept chg r0 (flipRequest s c es record) := by
  unfold flipRequest
  repeat' (first
      | with_reducible assumption | intro _ | with_reducible apply Kept.wr | with_reducible apply fail_kept
      | with_reducible apply denied_kept | with_reducible apply deniedAddr_kept | with_reducible apply acceptGroup_kept
      | with_reducible apply Kept.clearOd | with_reducible apply Kept.ite | with_reducible apply Kept.ite_fst
      | simp (disch := first | exact May.or | exact Or.inr rfl) only [Kept.mk_eq, Kept.field_eq, Kept.cameo_eq] | split
      | dsimp only)

theorem flipSent_kept {chg : List Part} [May chg .out] [May chg .fwQueue] [May chg .od] [May chg .mem] [May chg .ten] [May chg
    .clasp] [May chg .field] [May chg .compose] [May chg .ports] [May chg .memc] {r0 s : State} (h : Kept chg r0 s) (c : Nat) (t
    : Taken) : Kept chg r0 (flipSent s c t) := by
  unfold flipSent
  repeat' (first
      | with_reducible assumption | intro _ | with_reducible apply Kept.wr | with_reducible apply flipRequest_kept
      | with_reducible apply Kept.clearOd | with_reducible apply Kept.ite | with_reducible apply Kept.ite_fst
      | simp (disch := first | exact May.or | exact Or.inr rfl) only [Kept.mk_eq, Kept.field_eq, Kept.cameo_eq] | split
      | dsimp only)

theorem flipGroupReq_kept {chg : List Part} [May chg .out] [May chg .fwQueue] [May chg .od] [May chg .mem] [May chg .ten] [May
    chg .clasp] [May chg .field] [May chg .compose] [May chg .ports] [May chg .memc] {r0 s : State} (h : Kept chg r0 s) (c :
    Nat) (a : Nat) : Kept chg r0 (flipGroupReq s c a) := by
  unfold flipGroupReq
  repeat' (first
      | with_reducible assumption | intro _ | with_reducible apply Kept.wr | with_reducible apply fail_kept
      | with_reducible apply deniedAddr_kept | with_reducible apply flipRequest_kept | with_reducible apply Kept.clearOd
      | with_reducible apply Kept.ite | with_reducible apply Kept.ite_fst | simp (disch := first
      | exact May.or | exact Or.inr rfl) only [Kept.mk_eq, Kept.field_eq, Kept.cameo_eq] | split | dsimp only)

theorem releaseReq_kept {chg : List Part} [May chg .od] [May chg .ten] [May chg .clasp] [May chg .field] {r0 s : State} (h :
    Kept chg r0 s) (c : Nat) (a : Nat) : Kept chg r0 (releaseReq s c a) := by
  unfold releaseReq
  repeat' (first
      | with_reducible assumption | intro _ | with_reducible apply Kept.wr | with_reducible apply ok_kept
      | with_reducible apply fail_kept | with_reducible apply denied_kept | with_reducible apply Kept.clearOd
      | with_reducible apply Kept.ite | with_reducible apply Kept.ite_fst | simp (disch := first
      | exact May.or | exact Or.inr rfl) only [Kept.mk_eq, Kept.field_eq, Kept.cameo_eq] | split | dsimp only)

theorem flipStatusReq_kept {chg : List Part} [May chg .od] [May chg .ten] [May chg .clasp] [May chg .field] {r0 s : State} (h :
    Kept chg r0 s) (c : Nat) (a : Nat) : Kept chg r0 (flipStatusReq s c a) := by
  unfold flipStatusReq
  repeat' (first
      | with_reducible assumption | intro _ | with_reducible apply Kept.wr | with_reducible apply ok_kept
      | with_reducible apply fail_kept | with_reducible apply denied_kept | with_reducible apply Kept.clearOd
      | with_reducible apply Kept.ite | with_reducible apply Kept.ite_fst | simp (disch := first
      | exact May.or | exact Or.inr rfl) only [Kept.mk_eq, Kept.field_eq, Kept.cameo_eq] | split | dsimp only)

theorem wbStartReq_kept {chg : List Part} [May chg .od] [May chg .ten] [May chg .clasp] [May chg .field] [May chg .heads] {r0 s
    : State} (h : Kept chg r0 s) (c : Nat) (t : Taken) : Kept chg r0 (wbStartReq s c t) := by
  unfold wbStartReq
  repeat' (first
      | with_reducible assumption | intro _ | with_reducible apply Kept.wr | with_reducible apply ok_kept
      | with_reducible apply fail_kept | with_reducible apply denied_kept | with_reducible apply deniedAddr_kept
      | with_reducible apply setHead_kept | with_reducible apply updateSums_kept | with_reducible apply Kept.clearOd
      | with_reducible apply Kept.ite | with_reducible apply Kept.ite_fst | simp (disch := first
      | exact May.or | exact Or.inr rfl) only [Kept.mk_eq, Kept.field_eq, Kept.cameo_eq] | split | dsimp only)

theorem endWb_kept {chg : List Part} [May chg .od] [May chg .clasp] [May chg .heads] {r0 s : State} (h : Kept chg r0 s) (h :
    Nat) : Kept chg r0 (endWb s h) := by
  unfold endWb
  repeat' (first
      | with_reducible assumption | intro _ | with_reducible apply Kept.wr | with_reducible apply ok_kept
      | with_reducible apply serve_kept | with_reducible apply setHead_kept | with_reducible apply updateSums_kept
      | with_reducible apply Kept.clearOd | with_reducible apply Kept.ite | with_reducible apply Kept.ite_fst
      | simp (disch := first | exact May.or | exact Or.inr rfl) only [Kept.mk_eq, Kept.field_eq, Kept.cameo_eq] | split
      | dsimp only)

theorem wbStopReq_kept {chg : List Part} [May chg .od] [May chg .ten] [May chg .clasp] [May chg .field] [May chg .heads] {r0 s :
    State} (h : Kept chg r0 s) (c : Nat) (t : Taken) : Kept chg r0 (wbStopReq s c t) := by
  unfold wbStopReq
  repeat' (first
      | with_reducible assumption | intro _ | with_reducible apply Kept.wr | with_reducible apply fail_kept
      | with_reducible apply denied_kept | with_reducible apply setHead_kept | with_reducible apply endWb_kept
      | with_reducible apply Kept.clearOd | with_reducible apply Kept.ite | with_reducible apply Kept.ite_fst
      | simp (disch := first | exact May.or | exact Or.inr rfl) only [Kept.mk_eq, Kept.field_eq, Kept.cameo_eq] | split
      | dsimp only)

theorem wbFrame_kept {chg : List Part} [May chg .out] [May chg .fwQueue] [May chg .od] [May chg .mem] [May chg .clasp] [May chg
    .heads] [May chg .ports] [May chg .memc] {r0 s : State} (h : Kept chg r0 s) (h : Nat) : Kept chg r0 (wbFrame s h) := by
  unfold wbFrame
  repeat' (first
      | with_reducible assumption | intro _ | with_reducible apply Kept.wr | with_reducible apply bump_kept
      | with_reducible apply raise_kept | with_reducible apply winWr_kept | with_reducible apply setEvent_kept
      | with_reducible apply setHead_kept | with_reducible apply endWb_kept | with_reducible apply Kept.clearOd
      | with_reducible apply Kept.ite | with_reducible apply Kept.ite_fst | simp (disch := first
      | exact May.or | exact Or.inr rfl) only [Kept.mk_eq, Kept.field_eq, Kept.cameo_eq] | split | dsimp only)

theorem setCameo_kept {chg : List Part} [May chg .heads] [May chg .cameo] {r0 s : State} (h : Kept chg r0 s) (h : Nat) (x :
    CameoRec) : Kept chg r0 (setCameo s h x) := by
  unfold setCameo
  repeat' (first
      | with_reducible assumption | intro _ | with_reducible apply Kept.wr | with_reducible apply Kept.clearOd
      | with_reducible apply Kept.ite | with_reducible apply Kept.ite_fst | simp (disch := first
      | exact May.or | exact Or.inr rfl) only [Kept.mk_eq, Kept.field_eq, Kept.cameo_eq] | split | dsimp only)

theorem fetchLine_kept {chg : List Part} [May chg .compose] {r0 s : State} (h : Kept chg r0 s) (h : Nat) (y : Nat) (f : Nat) :
    Kept chg r0 (fetchLine s h y f) := by
  unfold fetchLine
  repeat' (first
      | with_reducible assumption | intro _ | with_reducible apply Kept.wr | with_reducible apply setFacet_kept
      | with_reducible apply Kept.clearOd | with_reducible apply Kept.ite | with_reducible apply Kept.ite_fst
      | simp (disch := first | exact May.or | exact Or.inr rfl) only [Kept.mk_eq, Kept.field_eq, Kept.cameo_eq] | split
      | dsimp only)

theorem sendLine_kept {chg : List Part} [May chg .free] [May chg .out] {r0 s : State} (h : Kept chg r0 s) (h : Nat) (y : Nat) (l
    : List (List Nat)) : Kept chg r0 (sendLine s h y l) := by
  unfold sendLine
  repeat' (first
      | with_reducible assumption | intro _ | with_reducible apply Kept.wr | with_reducible apply drawn_kept
      | with_reducible apply send_kept | with_reducible apply Kept.clearOd | with_reducible apply Kept.ite
      | with_reducible apply Kept.ite_fst | simp (disch := first
      | exact May.or | exact Or.inr rfl) only [Kept.mk_eq, Kept.field_eq, Kept.cameo_eq] | split | dsimp only)

theorem foldRegion_kept {chg : List Part} [May chg .heads] [May chg .cameo] {r0 s : State} (h : Kept chg r0 s) (h : Nat) (y :
    Nat) (l : List (List Nat)) (r : Nat) : Kept chg r0 (foldRegion s h y l r) := by
  unfold foldRegion
  repeat' (first
      | with_reducible assumption | intro _ | with_reducible apply Kept.wr | with_reducible apply setCameo_kept
      | with_reducible apply Kept.clearOd | with_reducible apply Kept.ite | with_reducible apply Kept.ite_fst
      | simp (disch := first | exact May.or | exact Or.inr rfl) only [Kept.mk_eq, Kept.field_eq, Kept.cameo_eq] | split
      | dsimp only)

theorem foldLine_kept {chg : List Part} [May chg .heads] [May chg .cameo] {r0 s : State} (h : Kept chg r0 s) (h : Nat) (y : Nat)
    (l : List (List Nat)) : Kept chg r0 (foldLine s h y l) := by
  unfold foldLine
  repeat' (first
      | with_reducible assumption | intro _ | with_reducible apply Kept.wr | with_reducible apply foldRegion_kept
      | with_reducible apply Kept.foldl | with_reducible apply Kept.clearOd | with_reducible apply Kept.ite
      | with_reducible apply Kept.ite_fst | simp (disch := first
      | exact May.or | exact Or.inr rfl) only [Kept.mk_eq, Kept.field_eq, Kept.cameo_eq] | split | dsimp only)

theorem wbTiles_kept {chg : List Part} [May chg .mem] [May chg .memc] {r0 s : State} (h : Kept chg r0 s) (w : WbRec) (width :
    Nat) (height : Nat) (buf : Nat) (row : Nat) : Kept chg r0 (wbTiles s w width height buf row) := by
  unfold wbTiles
  repeat' (first
      | with_reducible assumption | intro _ | with_reducible apply Kept.wr | with_reducible apply winWr_kept
      | with_reducible apply Kept.foldl | with_reducible apply Kept.clearOd | with_reducible apply Kept.ite
      | with_reducible apply Kept.ite_fst | simp (disch := first
      | exact May.or | exact Or.inr rfl) only [Kept.mk_eq, Kept.field_eq, Kept.cameo_eq] | split | dsimp only)

theorem setWb_kept {chg : List Part} [May chg .heads] {r0 s : State} (h : Kept chg r0 s) (h : Nat) (w : WbRec) : Kept chg r0 (setWb s h w) := by
  unfold setWb
  repeat' (first
      | with_reducible assumption | intro _ | with_reducible apply Kept.wr | with_reducible apply setHead_kept
      | with_reducible apply Kept.clearOd | with_reducible apply Kept.ite | with_reducible apply Kept.ite_fst
      | simp (disch := first | exact May.or | exact Or.inr rfl) only [Kept.mk_eq, Kept.field_eq, Kept.cameo_eq] | split
      | dsimp only)

theorem wbKeep_kept {chg : List Part} [May chg .out] [May chg .fwQueue] [May chg .od] [May chg .mem] [May chg .heads] [May chg
    .memc] {r0 s : State} (h : Kept chg r0 s) (h : Nat) (y : Nat) (w : WbRec) (line : List Nat) (full : Bool) : Kept chg r0
    (wbKeep s h y w line full) := by
  unfold wbKeep
  repeat' (first
      | with_reducible assumption | intro _ | with_reducible apply Kept.wr | with_reducible apply bump_kept
      | with_reducible apply raise_kept | with_reducible apply winWr_kept | with_reducible apply setWb_kept
      | with_reducible apply Kept.clearOd | with_reducible apply Kept.ite | with_reducible apply Kept.ite_fst
      | simp (disch := first | exact May.or | exact Or.inr rfl) only [Kept.mk_eq, Kept.field_eq, Kept.cameo_eq] | split
      | dsimp only)

theorem wbFlush_kept {chg : List Part} [May chg .free] [May chg .mem] [May chg .heads] [May chg .memc] {r0 s : State} (h : Kept
    chg r0 s) (h : Nat) (y : Nat) (v : WbRec) : Kept chg r0 (wbFlush s h y v) := by
  unfold wbFlush
  repeat' (first
      | with_reducible assumption | intro _ | with_reducible apply Kept.wr | with_reducible apply wbTiles_kept
      | with_reducible apply setWb_kept | with_reducible apply Kept.clearOd | with_reducible apply Kept.ite
      | with_reducible apply Kept.ite_fst | simp (disch := first
      | exact May.or | exact Or.inr rfl) only [Kept.mk_eq, Kept.field_eq, Kept.cameo_eq] | split | dsimp only)

theorem wbLine_kept {chg : List Part} [May chg .free] [May chg .out] [May chg .fwQueue] [May chg .od] [May chg .mem] [May chg
    .heads] [May chg .memc] {r0 s : State} (h : Kept chg r0 s) (h : Nat) (y : Nat) (steps : List (Nat × Nat × Nat)) (full :
    Bool) : Kept chg r0 (wbLine s h y steps full) := by
  unfold wbLine
  repeat' (first
      | with_reducible assumption | intro _ | with_reducible apply Kept.wr | with_reducible apply wbKeep_kept
      | with_reducible apply wbFlush_kept | with_reducible apply Kept.clearOd | with_reducible apply Kept.ite
      | with_reducible apply Kept.ite_fst | simp (disch := first
      | exact May.or | exact Or.inr rfl) only [Kept.mk_eq, Kept.field_eq, Kept.cameo_eq] | split | dsimp only)

theorem settleDevice_kept {chg : List Part} [May chg .od] {r0 s : State} (h : Kept chg r0 s)  : Kept chg r0 (settleDevice s) := by
  unfold settleDevice
  repeat' (first
      | with_reducible assumption | intro _ | with_reducible apply Kept.wr | with_reducible apply Kept.clearOd
      | with_reducible apply Kept.ite | with_reducible apply Kept.ite_fst | simp (disch := first
      | exact May.or | exact Or.inr rfl) only [Kept.mk_eq, Kept.field_eq, Kept.cameo_eq] | split | dsimp only)

theorem latchFault_kept {chg : List Part} [May chg .od] [May chg .boot] {r0 s : State} (h : Kept chg r0 s)  : Kept chg r0 (latchFault s) := by
  unfold latchFault
  repeat' (first
      | with_reducible assumption | intro _ | with_reducible apply Kept.wr | with_reducible apply settleDevice_kept
      | with_reducible apply Kept.clearOd | with_reducible apply Kept.ite | with_reducible apply Kept.ite_fst
      | simp (disch := first | exact May.or | exact Or.inr rfl) only [Kept.mk_eq, Kept.field_eq, Kept.cameo_eq] | split
      | dsimp only)

theorem setTouch_kept {chg : List Part} [May chg .touch] {r0 s : State} (h : Kept chg r0 s) (p : Nat) (x : TouchRec) : Kept chg
    r0 (setTouch s p x) := by
  unfold setTouch
  repeat' (first
      | with_reducible assumption | intro _ | with_reducible apply Kept.wr | with_reducible apply Kept.clearOd
      | with_reducible apply Kept.ite | with_reducible apply Kept.ite_fst | simp (disch := first
      | exact May.or | exact Or.inr rfl) only [Kept.mk_eq, Kept.field_eq, Kept.cameo_eq] | split | dsimp only)

theorem abandonScan_kept {chg : List Part} [May chg .out] [May chg .fwQueue] [May chg .od] [May chg .touch] {r0 s : State} (h :
    Kept chg r0 s) (h : Nat) (p : Nat) : Kept chg r0 (abandonScan s h p) := by
  unfold abandonScan
  repeat' (first
      | with_reducible assumption | intro _ | with_reducible apply Kept.wr | with_reducible apply bump_kept
      | with_reducible apply raise_kept | with_reducible apply setTouch_kept | with_reducible apply Kept.clearOd
      | with_reducible apply Kept.ite | with_reducible apply Kept.ite_fst | simp (disch := first
      | exact May.or | exact Or.inr rfl) only [Kept.mk_eq, Kept.field_eq, Kept.cameo_eq] | split | dsimp only)

theorem abandonScans_kept {chg : List Part} [May chg .out] [May chg .fwQueue] [May chg .od] [May chg .touch] {r0 s : State} (h :
    Kept chg r0 s) (h : Nat) : Kept chg r0 (abandonScans s h) := by
  unfold abandonScans
  repeat' (first
      | with_reducible assumption | intro _ | with_reducible apply Kept.wr | with_reducible apply abandonScan_kept
      | with_reducible apply Kept.foldl | with_reducible apply Kept.clearOd | with_reducible apply Kept.ite
      | with_reducible apply Kept.ite_fst | simp (disch := first
      | exact May.or | exact Or.inr rfl) only [Kept.mk_eq, Kept.field_eq, Kept.cameo_eq] | split | dsimp only)

theorem setHeadState_kept {chg : List Part} [May chg .od] {r0 s : State} (h : Kept chg r0 s) (h : Nat) (st : Nat) : Kept chg r0
    (setHeadState s h st) := by
  unfold setHeadState
  repeat' (first
      | with_reducible assumption | intro _ | with_reducible apply Kept.wr | with_reducible apply Kept.clearOd
      | with_reducible apply Kept.ite | with_reducible apply Kept.ite_fst | simp (disch := first
      | exact May.or | exact Or.inr rfl) only [Kept.mk_eq, Kept.field_eq, Kept.cameo_eq] | split | dsimp only)

theorem prefetchFacet_kept {chg : List Part} [May chg .compose] {r0 s : State} (h : Kept chg r0 s) (h : Nat) (f : Nat) (anew :
    Bool) : Kept chg r0 (prefetchFacet s h f anew) := by
  unfold prefetchFacet
  repeat' (first
      | with_reducible assumption | intro _ | with_reducible apply Kept.wr | with_reducible apply setFacet_kept
      | with_reducible apply Kept.clearOd | with_reducible apply Kept.ite | with_reducible apply Kept.ite_fst
      | simp (disch := first | exact May.or | exact Or.inr rfl) only [Kept.mk_eq, Kept.field_eq, Kept.cameo_eq] | split
      | dsimp only)

theorem prefetchHead_kept {chg : List Part} [May chg .compose] [May chg .heads] {r0 s : State} (h : Kept chg r0 s) (h : Nat) :
    Kept chg r0 (prefetchHead s h) := by
  unfold prefetchHead
  repeat' (first
      | with_reducible assumption | intro _ | with_reducible apply Kept.wr | with_reducible apply setHead_kept
      | with_reducible apply prefetchFacet_kept | with_reducible apply Kept.foldl | with_reducible apply Kept.clearOd
      | with_reducible apply Kept.ite | with_reducible apply Kept.ite_fst | simp (disch := first
      | exact May.or | exact Or.inr rfl) only [Kept.mk_eq, Kept.field_eq, Kept.cameo_eq] | split | dsimp only)

theorem refetchHead_kept {chg : List Part} [May chg .compose] {r0 s : State} (h : Kept chg r0 s) (h : Nat) : Kept chg r0 (refetchHead s h) := by
  unfold refetchHead
  repeat' (first
      | with_reducible assumption | intro _ | with_reducible apply Kept.wr | with_reducible apply prefetchFacet_kept
      | with_reducible apply Kept.foldl | with_reducible apply Kept.clearOd | with_reducible apply Kept.ite
      | with_reducible apply Kept.ite_fst | simp (disch := first
      | exact May.or | exact Or.inr rfl) only [Kept.mk_eq, Kept.field_eq, Kept.cameo_eq] | split | dsimp only)

theorem reportTolerance_kept {chg : List Part} [May chg .od] {r0 s : State} (h : Kept chg r0 s) (h : Nat) (short : Bool) : Kept
    chg r0 (reportTolerance s h short) := by
  unfold reportTolerance
  repeat' (first
      | with_reducible assumption | intro _ | with_reducible apply Kept.wr | with_reducible apply Kept.clearOd
      | with_reducible apply Kept.ite | with_reducible apply Kept.ite_fst | simp (disch := first
      | exact May.or | exact Or.inr rfl) only [Kept.mk_eq, Kept.field_eq, Kept.cameo_eq] | split | dsimp only)

theorem settleFacet_kept {chg : List Part} [May chg .od] {r0 s : State} (h : Kept chg r0 s) (h : Nat) (f : Nat) : Kept chg r0
    (settleFacet s h f) := by
  unfold settleFacet
  repeat' (first
      | with_reducible assumption | intro _ | with_reducible apply Kept.wr | with_reducible apply Kept.clearOd
      | with_reducible apply Kept.ite | with_reducible apply Kept.ite_fst | simp (disch := first
      | exact May.or | exact Or.inr rfl) only [Kept.mk_eq, Kept.field_eq, Kept.cameo_eq] | split | dsimp only)

theorem landGeometry_kept {chg : List Part} [May chg .od] [May chg .dom] [May chg .dict] {r0 s : State} (h : Kept chg r0 s) (h :
    Nat) : Kept chg r0 (landGeometry s h) := by
  unfold landGeometry
  repeat' (first
      | with_reducible assumption | intro _ | with_reducible apply Kept.wr | with_reducible apply landWhere_kept
      | with_reducible apply updateSums_kept | with_reducible apply settleFacet_kept | with_reducible apply Kept.foldl
      | with_reducible apply Kept.clearOd | with_reducible apply Kept.ite | with_reducible apply Kept.ite_fst
      | simp (disch := first | exact May.or | exact Or.inr rfl) only [Kept.mk_eq, Kept.field_eq, Kept.cameo_eq] | split
      | dsimp only)

theorem landCompose_kept {chg : List Part} [May chg .od] [May chg .dom] [May chg .dict] [May chg .heads] {r0 s : State} (h :
    Kept chg r0 s) (h : Nat) : Kept chg r0 (landCompose s h) := by
  unfold landCompose
  repeat' (first
      | with_reducible assumption | intro _ | with_reducible apply Kept.wr | with_reducible apply installBank_kept
      | with_reducible apply landGeometry_kept | with_reducible apply Kept.clearOd | with_reducible apply Kept.ite
      | with_reducible apply Kept.ite_fst | simp (disch := first
      | exact May.or | exact Or.inr rfl) only [Kept.mk_eq, Kept.field_eq, Kept.cameo_eq] | split | dsimp only)

theorem landOutput_kept {chg : List Part} [May chg .out] [May chg .fwQueue] [May chg .od] [May chg .dom] [May chg .dict] {r0 s :
    State} (h : Kept chg r0 s) (h : Nat) : Kept chg r0 (landOutput s h) := by
  unfold landOutput
  repeat' (first
      | with_reducible assumption | intro _ | with_reducible apply Kept.wr | with_reducible apply raise_kept
      | with_reducible apply landWhere_kept | with_reducible apply Kept.clearOd | with_reducible apply Kept.ite
      | with_reducible apply Kept.ite_fst | simp (disch := first
      | exact May.or | exact Or.inr rfl) only [Kept.mk_eq, Kept.field_eq, Kept.cameo_eq] | split | dsimp only)

theorem lutNotice_kept {chg : List Part} [May chg .out] {r0 s : State} (h : Kept chg r0 s) (h : Nat) : Kept chg r0 (lutNotice s h) := by
  unfold lutNotice
  repeat' (first
      | with_reducible assumption | intro _ | with_reducible apply Kept.wr | with_reducible apply raiseTrusted_kept
      | with_reducible apply Kept.clearOd | with_reducible apply Kept.ite | with_reducible apply Kept.ite_fst
      | simp (disch := first | exact May.or | exact Or.inr rfl) only [Kept.mk_eq, Kept.field_eq, Kept.cameo_eq] | split
      | dsimp only)

theorem settleStreams_kept {chg : List Part} [May chg .od] {r0 s : State} (h : Kept chg r0 s) (p : Nat) : Kept chg r0 (settleStreams s p) := by
  unfold settleStreams
  repeat' (first
      | with_reducible assumption | intro _ | with_reducible apply Kept.wr | with_reducible apply Kept.clearOd
      | with_reducible apply Kept.ite | with_reducible apply Kept.ite_fst | simp (disch := first
      | exact May.or | exact Or.inr rfl) only [Kept.mk_eq, Kept.field_eq, Kept.cameo_eq] | split | dsimp only)

theorem settlePort_kept {chg : List Part} [May chg .od] {r0 s : State} (h : Kept chg r0 s) (p : Nat) : Kept chg r0 (settlePort s p) := by
  unfold settlePort
  repeat' (first
      | with_reducible assumption | intro _ | with_reducible apply Kept.wr | with_reducible apply settleStreams_kept
      | with_reducible apply Kept.clearOd | with_reducible apply Kept.ite | with_reducible apply Kept.ite_fst
      | simp (disch := first | exact May.or | exact Or.inr rfl) only [Kept.mk_eq, Kept.field_eq, Kept.cameo_eq] | split
      | dsimp only)

theorem settleRoute_kept {chg : List Part} [May chg .od] {r0 s : State} (h : Kept chg r0 s) (route : Nat) : Kept chg r0 (settleRoute s route) := by
  unfold settleRoute
  repeat' (first
      | with_reducible assumption | intro _ | with_reducible apply Kept.wr | with_reducible apply settlePort_kept
      | with_reducible apply Kept.clearOd | with_reducible apply Kept.ite | with_reducible apply Kept.ite_fst
      | simp (disch := first | exact May.or | exact Or.inr rfl) only [Kept.mk_eq, Kept.field_eq, Kept.cameo_eq] | split
      | dsimp only)

theorem landRoute_kept {chg : List Part} [May chg .od] [May chg .dom] [May chg .dict] [May chg .heads] {r0 s : State} (h : Kept
    chg r0 s) (h : Nat) : Kept chg r0 (landRoute s h) := by
  unfold landRoute
  repeat' (first
      | with_reducible assumption | intro _ | with_reducible apply Kept.wr | with_reducible apply landKey_kept
      | with_reducible apply setHead_kept | with_reducible apply settleRoute_kept | with_reducible apply Kept.clearOd
      | with_reducible apply Kept.ite | with_reducible apply Kept.ite_fst | simp (disch := first
      | exact May.or | exact Or.inr rfl) only [Kept.mk_eq, Kept.field_eq, Kept.cameo_eq] | split | dsimp only)

theorem skipRegions_kept {chg : List Part} [May chg .out] [May chg .fwQueue] [May chg .od] [May chg .heads] [May chg .cameo] {r0
    s : State} (h : Kept chg r0 s) (h : Nat) : Kept chg r0 (skipRegions s h) := by
  unfold skipRegions
  repeat' (first
      | with_reducible assumption | intro _ | with_reducible apply Kept.wr | with_reducible apply bumpBy_kept
      | with_reducible apply raise_kept | with_reducible apply raiseTrusted_kept | with_reducible apply setCameo_kept
      | with_reducible apply Kept.clearOd | with_reducible apply Kept.ite | with_reducible apply Kept.ite_fst
      | simp (disch := first | exact May.or | exact Or.inr rfl) only [Kept.mk_eq, Kept.field_eq, Kept.cameo_eq] | split
      | dsimp only)

theorem settleCheck_kept {chg : List Part} [May chg .od] {r0 s : State} (h : Kept chg r0 s) (h : Nat) : Kept chg r0 (settleCheck s h) := by
  unfold settleCheck
  repeat' (first
      | with_reducible assumption | intro _ | with_reducible apply Kept.wr | with_reducible apply Kept.clearOd
      | with_reducible apply Kept.ite | with_reducible apply Kept.ite_fst | simp (disch := first
      | exact May.or | exact Or.inr rfl) only [Kept.mk_eq, Kept.field_eq, Kept.cameo_eq] | split | dsimp only)

theorem applyPresentation_kept {chg : List Part} [May chg .od] [May chg .heads] [May chg .cameo] {r0 s : State} (h : Kept chg r0
    s) (h : Nat) : Kept chg r0 (applyPresentation s h) := by
  unfold applyPresentation
  repeat' (first
      | with_reducible assumption | intro _ | with_reducible apply Kept.wr | with_reducible apply setCameo_kept
      | with_reducible apply settleCheck_kept | with_reducible apply Kept.foldl | with_reducible apply Kept.clearOd
      | with_reducible apply Kept.ite | with_reducible apply Kept.ite_fst | simp (disch := first
      | exact May.or | exact Or.inr rfl) only [Kept.mk_eq, Kept.field_eq, Kept.cameo_eq] | split | dsimp only)

theorem irregular_kept {chg : List Part} [May chg .out] [May chg .fwQueue] [May chg .od] [May chg .heads] {r0 s : State} (h :
    Kept chg r0 s) (h : Nat) (cause : Nat) : Kept chg r0 (irregular s h cause) := by
  unfold irregular
  repeat' (first
      | with_reducible assumption | intro _ | with_reducible apply Kept.wr | with_reducible apply bump_kept
      | with_reducible apply raise_kept | with_reducible apply setHead_kept | with_reducible apply Kept.clearOd
      | with_reducible apply Kept.ite | with_reducible apply Kept.ite_fst | simp (disch := first
      | exact May.or | exact Or.inr rfl) only [Kept.mk_eq, Kept.field_eq, Kept.cameo_eq] | split | dsimp only)

theorem lockAcquire_kept {chg : List Part} [May chg .od] [May chg .heads] {r0 s : State} (h : Kept chg r0 s) (h : Nat) : Kept
    chg r0 (lockAcquire s h) := by
  unfold lockAcquire
  repeat' (first
      | with_reducible assumption | intro _ | with_reducible apply Kept.wr | with_reducible apply setHead_kept
      | with_reducible apply Kept.clearOd | with_reducible apply Kept.ite | with_reducible apply Kept.ite_fst
      | simp (disch := first | exact May.or | exact Or.inr rfl) only [Kept.mk_eq, Kept.field_eq, Kept.cameo_eq] | split
      | dsimp only)

theorem lockFrame_kept {chg : List Part} [May chg .free] [May chg .out] [May chg .fwQueue] [May chg .od] [May chg .heads] {r0 s
    : State} (h : Kept chg r0 s) (h : Nat) : Kept chg r0 (lockFrame s h) := by
  unfold lockFrame
  repeat' (first
      | with_reducible assumption | intro _ | with_reducible apply Kept.wr | with_reducible apply bump_kept
      | with_reducible apply drawn_kept | with_reducible apply raise_kept | with_reducible apply setHead_kept
      | with_reducible apply irregular_kept | with_reducible apply lockAcquire_kept | with_reducible apply Kept.clearOd
      | with_reducible apply Kept.ite | with_reducible apply Kept.ite_fst | simp (disch := first
      | exact May.or | exact Or.inr rfl) only [Kept.mk_eq, Kept.field_eq, Kept.cameo_eq] | split | dsimp only)

theorem frameFacet_kept {chg : List Part} [May chg .od] [May chg .clasp] [May chg .compose] {r0 s : State} (h : Kept chg r0 s)
    (h : Nat) (f : Nat) : Kept chg r0 (frameFacet s h f) := by
  unfold frameFacet
  repeat' (first
      | with_reducible assumption | intro _ | with_reducible apply Kept.wr | with_reducible apply bump_kept
      | with_reducible apply ok_kept | with_reducible apply setFacet_kept | with_reducible apply Kept.clearOd
      | with_reducible apply Kept.ite | with_reducible apply Kept.ite_fst | simp (disch := first
      | exact May.or | exact Or.inr rfl) only [Kept.mk_eq, Kept.field_eq, Kept.cameo_eq] | split | dsimp only)

theorem frameFacets_kept {chg : List Part} [May chg .od] [May chg .dom] [May chg .clasp] [May chg .compose] [May chg .heads] {r0
    s : State} (h : Kept chg r0 s) (h : Nat) : Kept chg r0 (frameFacets s h) := by
  unfold frameFacets
  repeat' (first
      | with_reducible assumption | intro _ | with_reducible apply Kept.wr | with_reducible apply setHead_kept
      | with_reducible apply updateSums_kept | with_reducible apply installBank_kept | with_reducible apply frameFacet_kept
      | with_reducible apply Kept.foldl | with_reducible apply Kept.clearOd | with_reducible apply Kept.ite
      | with_reducible apply Kept.ite_fst | simp (disch := first
      | exact May.or | exact Or.inr rfl) only [Kept.mk_eq, Kept.field_eq, Kept.cameo_eq] | split | dsimp only)

theorem stopHead_kept {chg : List Part} [May chg .out] [May chg .fwQueue] [May chg .od] [May chg .dom] [May chg .mem] [May chg
    .clasp] [May chg .dict] [May chg .compose] [May chg .heads] [May chg .ports] [May chg .cameo] [May chg .memc] {r0 s : State}
    (h : Kept chg r0 s) (h : Nat) : Kept chg r0 (stopHead s h) := by
  unfold stopHead
  repeat' (first
      | with_reducible assumption | intro _ | with_reducible apply Kept.wr | with_reducible apply landWhere_kept
      | with_reducible apply setHead_kept | with_reducible apply updateSums_kept | with_reducible apply updateSlices_kept
      | with_reducible apply takeOne_kept | with_reducible apply settleGroups_kept | with_reducible apply endWb_kept
      | with_reducible apply setHeadState_kept | with_reducible apply landGeometry_kept | with_reducible apply landRoute_kept
      | with_reducible apply skipRegions_kept | with_reducible apply Kept.foldl | with_reducible apply Kept.clearOd
      | with_reducible apply Kept.ite | with_reducible apply Kept.ite_fst | simp (disch := first
      | exact May.or | exact Or.inr rfl) only [Kept.mk_eq, Kept.field_eq, Kept.cameo_eq] | split | dsimp only)

theorem settleTe_kept {chg : List Part} [May chg .od] {r0 s : State} (h : Kept chg r0 s) (h : Nat) : Kept chg r0 (settleTe s h) := by
  unfold settleTe
  repeat' (first
      | with_reducible assumption | intro _ | with_reducible apply Kept.wr | with_reducible apply Kept.clearOd
      | with_reducible apply Kept.ite | with_reducible apply Kept.ite_fst | simp (disch := first
      | exact May.or | exact Or.inr rfl) only [Kept.mk_eq, Kept.field_eq, Kept.cameo_eq] | split | dsimp only)

theorem startFrame_kept {chg : List Part} [May chg .free] [May chg .out] [May chg .fwQueue] [May chg .od] [May chg .dom] [May
    chg .mem] [May chg .clasp] [May chg .dict] [May chg .compose] [May chg .heads] [May chg .ports] [May chg .cameo] [May chg
    .touch] [May chg .memc] {r0 s0 : State} (h : Kept chg r0 s0) (h : Nat) : Kept chg r0 (startFrame s0 h) := by
  unfold startFrame
  repeat' (first
      | with_reducible assumption | intro _ | with_reducible apply Kept.wr | with_reducible apply Kept.dput
      | with_reducible apply raise_kept | with_reducible apply landWhere_kept | with_reducible apply setHead_kept
      | with_reducible apply updateSums_kept | with_reducible apply updateSlices_kept | with_reducible apply installBank_kept
      | with_reducible apply setCameo_kept | with_reducible apply abandonScans_kept | with_reducible apply setHeadState_kept
      | with_reducible apply landCompose_kept | with_reducible apply landOutput_kept | with_reducible apply settleRoute_kept
      | with_reducible apply landRoute_kept | with_reducible apply applyPresentation_kept | with_reducible apply lockFrame_kept
      | with_reducible apply frameFacets_kept | with_reducible apply settleTe_kept | with_reducible apply Kept.clearOd
      | with_reducible apply Kept.ite | with_reducible apply Kept.ite_fst | simp (disch := first
      | exact May.or | exact Or.inr rfl) only [Kept.mk_eq, Kept.field_eq, Kept.cameo_eq] | split | dsimp only)

theorem headFrame_kept {chg : List Part} [May chg .free] [May chg .out] [May chg .fwQueue] [May chg .od] [May chg .dom] [May chg
    .mem] [May chg .clasp] [May chg .dict] [May chg .compose] [May chg .heads] [May chg .ports] [May chg .cameo] [May chg
    .touch] [May chg .memc] {r0 s : State} (h : Kept chg r0 s) (h : Nat) : Kept chg r0 (headFrame s h) := by
  unfold headFrame
  repeat' (first
      | with_reducible assumption | intro _ | with_reducible apply Kept.wr | with_reducible apply bump_kept
      | with_reducible apply skipRegions_kept | with_reducible apply stopHead_kept | with_reducible apply startFrame_kept
      | with_reducible apply Kept.clearOd | with_reducible apply Kept.ite | with_reducible apply Kept.ite_fst
      | simp (disch := first | exact May.or | exact Or.inr rfl) only [Kept.mk_eq, Kept.field_eq, Kept.cameo_eq] | split
      | dsimp only)

theorem latchClient_kept {chg : List Part} [May chg .out] [May chg .fwQueue] [May chg .od] [May chg .mem] [May chg .clasp] [May
    chg .compose] [May chg .ports] [May chg .memc] {r0 s : State} (h : Kept chg r0 s) (h : Nat) (c : Nat) : Kept chg r0
    (latchClient s h c) := by
  unfold latchClient
  repeat' (first
      | with_reducible assumption | intro _ | with_reducible apply Kept.wr | with_reducible apply takeGroup_kept
      | with_reducible apply discardOlder_kept | with_reducible apply Kept.clearOd | with_reducible apply Kept.ite
      | with_reducible apply Kept.ite_fst | simp (disch := first
      | exact May.or | exact Or.inr rfl) only [Kept.mk_eq, Kept.field_eq, Kept.cameo_eq] | split | dsimp only)

theorem latchFacet_kept {chg : List Part} [May chg .out] [May chg .fwQueue] [May chg .od] [May chg .compose] [May chg .heads]
    {r0 s : State} (h : Kept chg r0 s) (h : Nat) (f : Nat) : Kept chg r0 (latchFacet s h f) := by
  unfold latchFacet
  repeat' (first
      | with_reducible assumption | intro _ | with_reducible apply Kept.wr | with_reducible apply bump_kept
      | with_reducible apply raise_kept | with_reducible apply setFacet_kept | with_reducible apply setHead_kept
      | with_reducible apply Kept.clearOd | with_reducible apply Kept.ite | with_reducible apply Kept.ite_fst
      | simp (disch := first | exact May.or | exact Or.inr rfl) only [Kept.mk_eq, Kept.field_eq, Kept.cameo_eq] | split
      | dsimp only)

theorem latchCamera_kept {chg : List Part} [May chg .out] [May chg .fwQueue] [May chg .od] [May chg .clasp] [May chg .compose]
    {r0 s : State} (h : Kept chg r0 s) (h : Nat) (f : Nat) (r : Nat) : Kept chg r0 (latchCamera s h f r) := by
  unfold latchCamera
  repeat' (first
      | with_reducible assumption | intro _ | with_reducible apply Kept.wr | with_reducible apply bump_kept
      | with_reducible apply raise_kept | with_reducible apply ok_kept | with_reducible apply setFacet_kept
      | with_reducible apply Kept.clearOd | with_reducible apply Kept.ite | with_reducible apply Kept.ite_fst
      | simp (disch := first | exact May.or | exact Or.inr rfl) only [Kept.mk_eq, Kept.field_eq, Kept.cameo_eq] | split
      | dsimp only)

theorem latchLeaving_kept {chg : List Part} [May chg .compose] {r0 s : State} (h : Kept chg r0 s) (h : Nat) (f : Nat) : Kept chg
    r0 (latchLeaving s h f) := by
  unfold latchLeaving
  repeat' (first
      | with_reducible assumption | intro _ | with_reducible apply Kept.wr | with_reducible apply setFacet_kept
      | with_reducible apply Kept.clearOd | with_reducible apply Kept.ite | with_reducible apply Kept.ite_fst
      | simp (disch := first | exact May.or | exact Or.inr rfl) only [Kept.mk_eq, Kept.field_eq, Kept.cameo_eq] | split
      | dsimp only)

theorem latchPresentation_kept {chg : List Part} [May chg .out] [May chg .od] [May chg .heads] [May chg .cameo] {r0 s : State}
    (h : Kept chg r0 s) (h : Nat) : Kept chg r0 (latchPresentation s h) := by
  unfold latchPresentation
  repeat' (first
      | with_reducible assumption | intro _ | with_reducible apply Kept.wr | with_reducible apply bump_kept
      | with_reducible apply bumpWrap_kept | with_reducible apply raiseTrusted_kept | with_reducible apply setCameo_kept
      | with_reducible apply Kept.clearOd | with_reducible apply Kept.ite | with_reducible apply Kept.ite_fst
      | simp (disch := first | exact May.or | exact Or.inr rfl) only [Kept.mk_eq, Kept.field_eq, Kept.cameo_eq] | split
      | dsimp only)

theorem latchAlarms_kept {chg : List Part} [May chg .heads] [May chg .cameo] {r0 s : State} (h : Kept chg r0 s) (h : Nat) : Kept
    chg r0 (latchAlarms s h) := by
  unfold latchAlarms
  repeat' (first
      | with_reducible assumption | intro _ | with_reducible apply Kept.wr | with_reducible apply setCameo_kept
      | with_reducible apply Kept.clearOd | with_reducible apply Kept.ite | with_reducible apply Kept.ite_fst
      | simp (disch := first | exact May.or | exact Or.inr rfl) only [Kept.mk_eq, Kept.field_eq, Kept.cameo_eq] | split
      | dsimp only)

theorem lateRender_kept {chg : List Part} [May chg .out] [May chg .fwQueue] [May chg .od] [May chg .raster] {r0 s : State} (h :
    Kept chg r0 s) (key : Nat) (h : Nat) (b : Sub) : Kept chg r0 (lateRender s key h b) := by
  unfold lateRender
  repeat' (first
      | with_reducible assumption | intro _ | with_reducible apply Kept.wr | with_reducible apply raise_kept
      | with_reducible apply setRctx_kept | with_reducible apply Kept.clearOd | with_reducible apply Kept.ite
      | with_reducible apply Kept.ite_fst | simp (disch := first
      | exact May.or | exact Or.inr rfl) only [Kept.mk_eq, Kept.field_eq, Kept.cameo_eq] | split | dsimp only)

theorem latchGovernor_kept {chg : List Part} [May chg .out] [May chg .fwQueue] [May chg .od] [May chg .raster] {r0 s : State} (h
    : Kept chg r0 s) (h : Nat) : Kept chg r0 (latchGovernor s h) := by
  unfold latchGovernor
  repeat' (first
      | with_reducible assumption | intro _ | with_reducible apply Kept.wr | with_reducible apply lateRender_kept
      | with_reducible apply Kept.foldl | with_reducible apply Kept.clearOd | with_reducible apply Kept.ite
      | with_reducible apply Kept.ite_fst | simp (disch := first
      | exact May.or | exact Or.inr rfl) only [Kept.mk_eq, Kept.field_eq, Kept.cameo_eq] | split | dsimp only)

theorem headLatch_kept {chg : List Part} [May chg .out] [May chg .fwQueue] [May chg .od] [May chg .mem] [May chg .clasp] [May
    chg .raster] [May chg .compose] [May chg .heads] [May chg .ports] [May chg .cameo] [May chg .memc] {r0 s : State} (h : Kept
    chg r0 s) (h : Nat) : Kept chg r0 (headLatch s h) := by
  unfold headLatch
  repeat' (first
      | with_reducible assumption | intro _ | with_reducible apply Kept.wr | with_reducible apply raise_kept
      | with_reducible apply setHead_kept | with_reducible apply refetchHead_kept | with_reducible apply latchClient_kept
      | with_reducible apply latchFacet_kept | with_reducible apply latchCamera_kept | with_reducible apply latchLeaving_kept
      | with_reducible apply latchPresentation_kept | with_reducible apply latchAlarms_kept
      | with_reducible apply latchGovernor_kept | with_reducible apply Kept.foldl | with_reducible apply Kept.clearOd
      | with_reducible apply Kept.ite | with_reducible apply Kept.ite_fst | simp (disch := first
      | exact May.or | exact Or.inr rfl) only [Kept.mk_eq, Kept.field_eq, Kept.cameo_eq] | split | dsimp only)

theorem sliceLine_kept {chg : List Part} [May chg .out] [May chg .fwQueue] [May chg .od] [May chg .clasp] [May chg .compose] {r0
    s : State} (h : Kept chg r0 s) (h : Nat) (y : Nat) (f : Nat) : Kept chg r0 (sliceLine s h y f) := by
  unfold sliceLine
  repeat' (first
      | with_reducible assumption | intro _ | with_reducible apply Kept.wr | with_reducible apply bump_kept
      | with_reducible apply raise_kept | with_reducible apply ok_kept | with_reducible apply setFacet_kept
      | with_reducible apply Kept.clearOd | with_reducible apply Kept.ite | with_reducible apply Kept.ite_fst
      | simp (disch := first | exact May.or | exact Or.inr rfl) only [Kept.mk_eq, Kept.field_eq, Kept.cameo_eq] | split
      | dsimp only)

theorem countUnderrun_kept {chg : List Part} [May chg .out] [May chg .fwQueue] [May chg .od] [May chg .heads] {r0 s : State} (h
    : Kept chg r0 s) (h : Nat) (m : Missing) : Kept chg r0 (countUnderrun s h m) := by
  unfold countUnderrun
  repeat' (first
      | with_reducible assumption | intro _ | with_reducible apply Kept.wr | with_reducible apply bump_kept
      | with_reducible apply raise_kept | with_reducible apply setHead_kept | with_reducible apply Kept.foldl
      | with_reducible apply Kept.clearOd | with_reducible apply Kept.ite | with_reducible apply Kept.ite_fst
      | simp (disch := first | exact May.or | exact Or.inr rfl) only [Kept.mk_eq, Kept.field_eq, Kept.cameo_eq] | split
      | dsimp only)

theorem filigreeFault_kept {chg : List Part} [May chg .out] [May chg .fwQueue] [May chg .od] [May chg .heads] {r0 s : State} (h
    : Kept chg r0 s) (h : Nat) : Kept chg r0 (filigreeFault s h) := by
  unfold filigreeFault
  repeat' (first
      | with_reducible assumption | intro _ | with_reducible apply Kept.wr | with_reducible apply bump_kept
      | with_reducible apply raise_kept | with_reducible apply setHead_kept | with_reducible apply Kept.clearOd
      | with_reducible apply Kept.ite | with_reducible apply Kept.ite_fst | simp (disch := first
      | exact May.or | exact Or.inr rfl) only [Kept.mk_eq, Kept.field_eq, Kept.cameo_eq] | split | dsimp only)

theorem contentLine_kept {chg : List Part} [May chg .free] [May chg .out] [May chg .fwQueue] [May chg .od] [May chg .mem] [May
    chg .ten] [May chg .clasp] [May chg .field] [May chg .compose] [May chg .heads] [May chg .cameo] [May chg .memc] {r0 s :
    State} (h : Kept chg r0 s) (h : Nat) (y : Nat) (missing : Option Missing) (wbFull : Bool) : Kept chg r0 (contentLine s h y
    missing wbFull) := by
  unfold contentLine
  repeat' (first
      | with_reducible assumption | intro _ | with_reducible apply Kept.wr | with_reducible apply bump_kept
      | with_reducible apply windowViolation_kept | with_reducible apply fetchLine_kept | with_reducible apply sendLine_kept
      | with_reducible apply foldLine_kept | with_reducible apply wbLine_kept | with_reducible apply sliceLine_kept
      | with_reducible apply countUnderrun_kept | with_reducible apply filigreeFault_kept | with_reducible apply Kept.foldl
      | with_reducible apply Kept.clearOd | with_reducible apply Kept.ite | with_reducible apply Kept.ite_fst
      | simp (disch := first | exact May.or | exact Or.inr rfl) only [Kept.mk_eq, Kept.field_eq, Kept.cameo_eq] | split
      | dsimp only)

theorem blankLine_kept {chg : List Part} [May chg .free] [May chg .out] [May chg .heads] {r0 s : State} (h : Kept chg r0 s) (h :
    Nat) (y : Nat) : Kept chg r0 (blankLine s h y) := by
  unfold blankLine
  repeat' (first
      | with_reducible assumption | intro _ | with_reducible apply Kept.wr | with_reducible apply setHead_kept
      | with_reducible apply sendLine_kept | with_reducible apply Kept.clearOd | with_reducible apply Kept.ite
      | with_reducible apply Kept.ite_fst | simp (disch := first
      | exact May.or | exact Or.inr rfl) only [Kept.mk_eq, Kept.field_eq, Kept.cameo_eq] | split | dsimp only)

theorem headLineStart_kept {chg : List Part} [May chg .free] [May chg .out] [May chg .fwQueue] [May chg .od] [May chg .mem] [May
    chg .ten] [May chg .clasp] [May chg .field] [May chg .compose] [May chg .heads] [May chg .cameo] [May chg .memc] {r0 s :
    State} (h : Kept chg r0 s) (h : Nat) (late : Option Missing) (wbFull : Bool) : Kept chg r0 (headLineStart s h late wbFull)
    := by
  unfold headLineStart
  repeat' (first
      | with_reducible assumption | intro _ | with_reducible apply Kept.wr | with_reducible apply setHead_kept
      | with_reducible apply prefetchHead_kept | with_reducible apply reportTolerance_kept
      | with_reducible apply contentLine_kept | with_reducible apply blankLine_kept | with_reducible apply Kept.clearOd
      | with_reducible apply Kept.ite | with_reducible apply Kept.ite_fst | simp (disch := first
      | exact May.or | exact Or.inr rfl) only [Kept.mk_eq, Kept.field_eq, Kept.cameo_eq] | split | dsimp only)

theorem headVblank_kept {chg : List Part} [May chg .out] [May chg .fwQueue] [May chg .od] [May chg .compose] {r0 s : State} (h :
    Kept chg r0 s) (h : Nat) : Kept chg r0 (headVblank s h) := by
  unfold headVblank
  repeat' (first
      | with_reducible assumption | intro _ | with_reducible apply Kept.wr | with_reducible apply raise_kept
      | with_reducible apply setFacet_kept | with_reducible apply Kept.foldl | with_reducible apply Kept.clearOd
      | with_reducible apply Kept.ite | with_reducible apply Kept.ite_fst | simp (disch := first
      | exact May.or | exact Or.inr rfl) only [Kept.mk_eq, Kept.field_eq, Kept.cameo_eq] | split | dsimp only)

theorem teEdgeHead_kept {chg : List Part} [May chg .out] [May chg .fwQueue] [May chg .od] [May chg .heads] {r0 s : State} (h :
    Kept chg r0 s) (h : Nat) : Kept chg r0 (teEdgeHead s h) := by
  unfold teEdgeHead
  repeat' (first
      | with_reducible assumption | intro _ | with_reducible apply Kept.wr | with_reducible apply bump_kept
      | with_reducible apply raise_kept | with_reducible apply setHead_kept | with_reducible apply Kept.clearOd
      | with_reducible apply Kept.ite | with_reducible apply Kept.ite_fst | simp (disch := first
      | exact May.or | exact Or.inr rfl) only [Kept.mk_eq, Kept.field_eq, Kept.cameo_eq] | split | dsimp only)

theorem teEdge_kept {chg : List Part} [May chg .out] [May chg .fwQueue] [May chg .od] [May chg .heads] {r0 s : State} (h : Kept
    chg r0 s) (pin : Nat) (falling : Bool) : Kept chg r0 (teEdge s pin falling) := by
  unfold teEdge
  repeat' (first
      | with_reducible assumption | intro _ | with_reducible apply Kept.wr | with_reducible apply teEdgeHead_kept
      | with_reducible apply Kept.foldl | with_reducible apply Kept.clearOd | with_reducible apply Kept.ite
      | with_reducible apply Kept.ite_fst | simp (disch := first
      | exact May.or | exact Or.inr rfl) only [Kept.mk_eq, Kept.field_eq, Kept.cameo_eq] | split | dsimp only)

theorem teTimeout_kept {chg : List Part} [May chg .out] [May chg .fwQueue] [May chg .od] [May chg .heads] {r0 s : State} (h :
    Kept chg r0 s) (h : Nat) : Kept chg r0 (teTimeout s h) := by
  unfold teTimeout
  repeat' (first
      | with_reducible assumption | intro _ | with_reducible apply Kept.wr | with_reducible apply bump_kept
      | with_reducible apply raise_kept | with_reducible apply setHead_kept | with_reducible apply Kept.clearOd
      | with_reducible apply Kept.ite | with_reducible apply Kept.ite_fst | simp (disch := first
      | exact May.or | exact Or.inr rfl) only [Kept.mk_eq, Kept.field_eq, Kept.cameo_eq] | split | dsimp only)

theorem timingImmediate_kept {chg : List Part} [May chg .out] [May chg .fwQueue] [May chg .od] [May chg .dom] [May chg .mem]
    [May chg .clasp] [May chg .dict] [May chg .raster] [May chg .compose] [May chg .heads] [May chg .ports] [May chg .cameo]
    [May chg .memc] {r0 s0 : State} (h : Kept chg r0 s0) (h : Nat) : Kept chg r0 (timingImmediate s0 h) := by
  unfold timingImmediate
  repeat' (first
      | with_reducible assumption | intro _ | with_reducible apply Kept.wr | with_reducible apply landWhere_kept
      | with_reducible apply setHead_kept | with_reducible apply updateSums_kept | with_reducible apply updateSlices_kept
      | with_reducible apply installBank_kept | with_reducible apply settleRoute_kept | with_reducible apply irregular_kept
      | with_reducible apply lockAcquire_kept | with_reducible apply settleTe_kept | with_reducible apply headLatch_kept
      | with_reducible apply Kept.clearOd | with_reducible apply Kept.ite | with_reducible apply Kept.ite_fst
      | simp (disch := first | exact May.or | exact Or.inr rfl) only [Kept.mk_eq, Kept.field_eq, Kept.cameo_eq] | split
      | dsimp only)

theorem timingClean_kept {chg : List Part} [May chg .od] [May chg .dom] [May chg .dict] [May chg .heads] {r0 s : State} (h :
    Kept chg r0 s) (h : Nat) : Kept chg r0 (timingClean s h) := by
  unfold timingClean
  repeat' (first
      | with_reducible assumption | intro _ | with_reducible apply Kept.wr | with_reducible apply landWhere_kept
      | with_reducible apply setHead_kept | with_reducible apply setHeadState_kept | with_reducible apply Kept.clearOd
      | with_reducible apply Kept.ite | with_reducible apply Kept.ite_fst | simp (disch := first
      | exact May.or | exact Or.inr rfl) only [Kept.mk_eq, Kept.field_eq, Kept.cameo_eq] | split | dsimp only)

theorem headEnable_kept {chg : List Part} [May chg .od] [May chg .heads] [May chg .cameo] {r0 s : State} (h : Kept chg r0 s) (h
    : Nat) : Kept chg r0 (headEnable s h) := by
  unfold headEnable
  repeat' (first
      | with_reducible assumption | intro _ | with_reducible apply Kept.wr | with_reducible apply setHead_kept
      | with_reducible apply setCameo_kept | with_reducible apply Kept.clearOd | with_reducible apply Kept.ite
      | with_reducible apply Kept.ite_fst | simp (disch := first
      | exact May.or | exact Or.inr rfl) only [Kept.mk_eq, Kept.field_eq, Kept.cameo_eq] | split | dsimp only)

theorem headDisable_kept {chg : List Part} [May chg .out] [May chg .fwQueue] [May chg .od] [May chg .dom] [May chg .mem] [May
    chg .clasp] [May chg .dict] [May chg .compose] [May chg .heads] [May chg .ports] [May chg .cameo] [May chg .memc] {r0 s :
    State} (h : Kept chg r0 s) (h : Nat) : Kept chg r0 (headDisable s h) := by
  unfold headDisable
  repeat' (first
      | with_reducible assumption | intro _ | with_reducible apply Kept.wr | with_reducible apply landWhere_kept
      | with_reducible apply setHead_kept | with_reducible apply stopHead_kept | with_reducible apply Kept.clearOd
      | with_reducible apply Kept.ite | with_reducible apply Kept.ite_fst | simp (disch := first
      | exact May.or | exact Or.inr rfl) only [Kept.mk_eq, Kept.field_eq, Kept.cameo_eq] | split | dsimp only)

theorem routeChange_kept {chg : List Part} [May chg .od] [May chg .dom] [May chg .dict] [May chg .heads] {r0 s : State} (h :
    Kept chg r0 s) (h : Nat) : Kept chg r0 (routeChange s h) := by
  unfold routeChange
  repeat' (first
      | with_reducible assumption | intro _ | with_reducible apply Kept.wr | with_reducible apply setHead_kept
      | with_reducible apply setHeadState_kept | with_reducible apply landRoute_kept | with_reducible apply Kept.clearOd
      | with_reducible apply Kept.ite | with_reducible apply Kept.ite_fst | simp (disch := first
      | exact May.or | exact Or.inr rfl) only [Kept.mk_eq, Kept.field_eq, Kept.cameo_eq] | split | dsimp only)

theorem lockTimeout_kept {chg : List Part} [May chg .out] [May chg .fwQueue] [May chg .od] {r0 s : State} (h : Kept chg r0 s) (h
    : Nat) : Kept chg r0 (lockTimeout s h) := by
  unfold lockTimeout
  repeat' (first
      | with_reducible assumption | intro _ | with_reducible apply Kept.wr | with_reducible apply bump_kept
      | with_reducible apply raise_kept | with_reducible apply Kept.clearOd | with_reducible apply Kept.ite
      | with_reducible apply Kept.ite_fst | simp (disch := first
      | exact May.or | exact Or.inr rfl) only [Kept.mk_eq, Kept.field_eq, Kept.cameo_eq] | split | dsimp only)

theorem govern_kept {chg : List Part} [May chg .out] [May chg .fwQueue] [May chg .od] [May chg .raster] {r0 s : State} (h : Kept
    chg r0 s) (h : Nat) (latch : Nat) (a : Nat × Nat) : Kept chg r0 (govern s h latch a) := by
  unfold govern
  repeat' (first
      | with_reducible assumption | intro _ | with_reducible apply Kept.wr | with_reducible apply raise_kept
      | with_reducible apply setRctx_kept | with_reducible apply settleRaised_kept | with_reducible apply settlePreempt_kept
      | with_reducible apply Kept.clearOd | with_reducible apply Kept.ite | with_reducible apply Kept.ite_fst
      | simp (disch := first | exact May.or | exact Or.inr rfl) only [Kept.mk_eq, Kept.field_eq, Kept.cameo_eq] | split
      | dsimp only)

theorem governCameo_kept {chg : List Part} [May chg .out] [May chg .fwQueue] [May chg .od] [May chg .raster] {r0 s : State} (h :
    Kept chg r0 s) (h : Nat) (latch : Nat) : Kept chg r0 (governCameo s h latch) := by
  unfold governCameo
  repeat' (first
      | with_reducible assumption | intro _ | with_reducible apply Kept.wr | with_reducible apply raise_kept
      | with_reducible apply setRctx_kept | with_reducible apply Kept.clearOd | with_reducible apply Kept.ite
      | with_reducible apply Kept.ite_fst | simp (disch := first
      | exact May.or | exact Or.inr rfl) only [Kept.mk_eq, Kept.field_eq, Kept.cameo_eq] | split | dsimp only)

theorem governRelease_kept {chg : List Part} [May chg .out] [May chg .fwQueue] [May chg .od] [May chg .raster] {r0 s : State} (h
    : Kept chg r0 s) (h : Nat) : Kept chg r0 (governRelease s h) := by
  unfold governRelease
  repeat' (first
      | with_reducible assumption | intro _ | with_reducible apply Kept.wr | with_reducible apply releaseRenders_kept
      | with_reducible apply Kept.foldl | with_reducible apply Kept.clearOd | with_reducible apply Kept.ite
      | with_reducible apply Kept.ite_fst | simp (disch := first
      | exact May.or | exact Or.inr rfl) only [Kept.mk_eq, Kept.field_eq, Kept.cameo_eq] | split | dsimp only)

theorem governorEvaluate_kept {chg : List Part} [May chg .free] [May chg .out] [May chg .fwQueue] [May chg .od] [May chg
    .raster] {r0 s : State} (h : Kept chg r0 s) (h : Nat) (latch : Nat) : Kept chg r0 (governorEvaluate s h latch) := by
  unfold governorEvaluate
  repeat' (first
      | with_reducible assumption | intro _ | with_reducible apply Kept.wr | with_reducible apply drawn_kept
      | with_reducible apply govern_kept | with_reducible apply governCameo_kept | with_reducible apply governRelease_kept
      | with_reducible apply Kept.foldl | with_reducible apply Kept.clearOd | with_reducible apply Kept.ite
      | with_reducible apply Kept.ite_fst | simp (disch := first
      | exact May.or | exact Or.inr rfl) only [Kept.mk_eq, Kept.field_eq, Kept.cameo_eq] | split | dsimp only)

end Sys2Proof.Laws
end

