-- ==== Sys2Proof/Laws/KeptPorts.lean ====
section
/-! SUPPORT. What the operations of the ports, the camera, the cameo unit, haptics and touch keep (Kept): one lemma an operation. -/

set_option linter.unusedSimpArgs false
set_option linter.all false

namespace Sys2Proof.Laws

open Sys2Proof Sys2Proof.Machine

theorem setOutPort_kept {chg : List Part} [May chg .ports] {r0 s : State} (h : Kept chg r0 s) (p : Nat) (x : OutPort) : Kept chg
    r0 (setOutPort s p x) := by
  unfold setOutPort
  repeat' (first
      | with_reducible assumption | intro _ | with_reducible apply Kept.wr | with_reducible apply Kept.clearOd
      | with_reducible apply Kept.ite | with_reducible apply Kept.ite_fst | simp (disch := first
      | exact May.or | exact Or.inr rfl) only [Kept.mk_eq, Kept.field_eq, Kept.cameo_eq] | split | dsimp only)

theorem startBringup_kept {chg : List Part} [May chg .out] [May chg .od] [May chg .ports] {r0 s : State} (h : Kept chg r0 s) (p
    : Nat) (stable : Bool) (again : Bool) : Kept chg r0 (startBringup s p stable again) := by
  unfold startBringup
  repeat' (first
      | with_reducible assumption | intro _ | with_reducible apply Kept.wr | with_reducible apply bump_kept
      | with_reducible apply send_kept | with_reducible apply setOutPort_kept | with_reducible apply Kept.clearOd
      | with_reducible apply Kept.ite | with_reducible apply Kept.ite_fst | simp (disch := first
      | exact May.or | exact Or.inr rfl) only [Kept.mk_eq, Kept.field_eq, Kept.cameo_eq] | split | dsimp only)

theorem portBringupStart_kept {chg : List Part} [May chg .out] [May chg .od] [May chg .ports] {r0 s : State} (h : Kept chg r0 s)
    (p : Nat) : Kept chg r0 (portBringupStart s p) := by
  unfold portBringupStart
  repeat' (first
      | with_reducible assumption | intro _ | with_reducible apply Kept.wr | with_reducible apply startBringup_kept
      | with_reducible apply Kept.clearOd | with_reducible apply Kept.ite | with_reducible apply Kept.ite_fst
      | simp (disch := first | exact May.or | exact Or.inr rfl) only [Kept.mk_eq, Kept.field_eq, Kept.cameo_eq] | split
      | dsimp only)

theorem hpdStable_kept {chg : List Part} [May chg .out] [May chg .od] [May chg .ports] {r0 s : State} (h : Kept chg r0 s) (p :
    Nat) : Kept chg r0 (hpdStable s p) := by
  unfold hpdStable
  repeat' (first
      | with_reducible assumption | intro _ | with_reducible apply Kept.wr | with_reducible apply setOutPort_kept
      | with_reducible apply startBringup_kept | with_reducible apply Kept.clearOd | with_reducible apply Kept.ite
      | with_reducible apply Kept.ite_fst | simp (disch := first
      | exact May.or | exact Or.inr rfl) only [Kept.mk_eq, Kept.field_eq, Kept.cameo_eq] | split | dsimp only)

theorem portReady_kept {chg : List Part} [May chg .out] [May chg .fwQueue] [May chg .od] [May chg .heads] {r0 s : State} (h :
    Kept chg r0 s) (p : Nat) : Kept chg r0 (portReady s p) := by
  unfold portReady
  repeat' (first
      | with_reducible assumption | intro _ | with_reducible apply Kept.wr | with_reducible apply raise_kept
      | with_reducible apply setHead_kept | with_reducible apply settleStreams_kept | with_reducible apply Kept.foldl
      | with_reducible apply Kept.clearOd | with_reducible apply Kept.ite | with_reducible apply Kept.ite_fst
      | simp (disch := first | exact May.or | exact Or.inr rfl) only [Kept.mk_eq, Kept.field_eq, Kept.cameo_eq] | split
      | dsimp only)

theorem portLinkFail_kept {chg : List Part} [May chg .out] [May chg .fwQueue] [May chg .od] {r0 s : State} (h : Kept chg r0 s)
    (p : Nat) : Kept chg r0 (portLinkFail s p) := by
  unfold portLinkFail
  repeat' (first
      | with_reducible assumption | intro _ | with_reducible apply Kept.wr | with_reducible apply bump_kept
      | with_reducible apply raise_kept | with_reducible apply Kept.clearOd | with_reducible apply Kept.ite
      | with_reducible apply Kept.ite_fst | simp (disch := first
      | exact May.or | exact Or.inr rfl) only [Kept.mk_eq, Kept.field_eq, Kept.cameo_eq] | split | dsimp only)

theorem portRetry_kept {chg : List Part} [May chg .out] [May chg .od] [May chg .ports] {r0 s : State} (h : Kept chg r0 s) (p :
    Nat) : Kept chg r0 (portRetry s p) := by
  unfold portRetry
  repeat' (first
      | with_reducible assumption | intro _ | with_reducible apply Kept.wr | with_reducible apply startBringup_kept
      | with_reducible apply Kept.clearOd | with_reducible apply Kept.ite | with_reducible apply Kept.ite_fst
      | simp (disch := first | exact May.or | exact Or.inr rfl) only [Kept.mk_eq, Kept.field_eq, Kept.cameo_eq] | split
      | dsimp only)

theorem hpdLow_kept {chg : List Part} [May chg .out] [May chg .fwQueue] [May chg .od] [May chg .ports] {r0 s : State} (h : Kept
    chg r0 s) (p : Nat) : Kept chg r0 (hpdLow s p) := by
  unfold hpdLow
  repeat' (first
      | with_reducible assumption | intro _ | with_reducible apply Kept.wr | with_reducible apply raise_kept
      | with_reducible apply settleStreams_kept | with_reducible apply setOutPort_kept | with_reducible apply Kept.clearOd
      | with_reducible apply Kept.ite | with_reducible apply Kept.ite_fst | simp (disch := first
      | exact May.or | exact Or.inr rfl) only [Kept.mk_eq, Kept.field_eq, Kept.cameo_eq] | split | dsimp only)

theorem linkLost_kept {chg : List Part} [May chg .out] [May chg .fwQueue] [May chg .od] [May chg .ports] {r0 s : State} (h :
    Kept chg r0 s) (p : Nat) : Kept chg r0 (linkLost s p) := by
  unfold linkLost
  repeat' (first
      | with_reducible assumption | intro _ | with_reducible apply Kept.wr | with_reducible apply bump_kept
      | with_reducible apply raise_kept | with_reducible apply startBringup_kept | with_reducible apply Kept.clearOd
      | with_reducible apply Kept.ite | with_reducible apply Kept.ite_fst | simp (disch := first
      | exact May.or | exact Or.inr rfl) only [Kept.mk_eq, Kept.field_eq, Kept.cameo_eq] | split | dsimp only)

theorem irqHpd_kept {chg : List Part} [May chg .out] [May chg .fwQueue] [May chg .od] [May chg .ports] {r0 s : State} (h : Kept
    chg r0 s) (p : Nat) (lost : Bool) : Kept chg r0 (irqHpd s p lost) := by
  unfold irqHpd
  repeat' (first
      | with_reducible assumption | intro _ | with_reducible apply Kept.wr | with_reducible apply bump_kept
      | with_reducible apply raise_kept | with_reducible apply linkLost_kept | with_reducible apply Kept.clearOd
      | with_reducible apply Kept.ite | with_reducible apply Kept.ite_fst | simp (disch := first
      | exact May.or | exact Or.inr rfl) only [Kept.mk_eq, Kept.field_eq, Kept.cameo_eq] | split | dsimp only)

theorem linkStatusPoll_kept {chg : List Part} [May chg .out] [May chg .fwQueue] [May chg .od] [May chg .ports] {r0 s : State} (h
    : Kept chg r0 s) (p : Nat) (lost : Bool) : Kept chg r0 (linkStatusPoll s p lost) := by
  unfold linkStatusPoll
  repeat' (first
      | with_reducible assumption | intro _ | with_reducible apply Kept.wr | with_reducible apply linkLost_kept
      | with_reducible apply Kept.clearOd | with_reducible apply Kept.ite | with_reducible apply Kept.ite_fst
      | simp (disch := first | exact May.or | exact Or.inr rfl) only [Kept.mk_eq, Kept.field_eq, Kept.cameo_eq] | split
      | dsimp only)

theorem writeCamStatus_kept {chg : List Part} [May chg .mem] [May chg .memc] {r0 s : State} (h : Kept chg r0 s) (r : Nat) : Kept
    chg r0 (writeCamStatus s r) := by
  unfold writeCamStatus
  repeat' (first
      | with_reducible assumption | intro _ | with_reducible apply Kept.wr | with_reducible apply winWr_kept
      | with_reducible apply Kept.clearOd | with_reducible apply Kept.ite | with_reducible apply Kept.ite_fst
      | simp (disch := first | exact May.or | exact Or.inr rfl) only [Kept.mk_eq, Kept.field_eq, Kept.cameo_eq] | split
      | dsimp only)

theorem sliceIncomplete_kept {chg : List Part} [May chg .out] [May chg .fwQueue] [May chg .od] [May chg .clasp] [May chg
    .compose] {r0 s : State} (h : Kept chg r0 s) (r : Nat) (seq : Nat) (hf : Nat × Nat) : Kept chg r0 (sliceIncomplete s r seq
    hf) := by
  unfold sliceIncomplete
  repeat' (first
      | with_reducible assumption | intro _ | with_reducible apply Kept.wr | with_reducible apply bump_kept
      | with_reducible apply raise_kept | with_reducible apply ok_kept | with_reducible apply setFacet_kept
      | with_reducible apply Kept.clearOd | with_reducible apply Kept.ite | with_reducible apply Kept.ite_fst
      | simp (disch := first | exact May.or | exact Or.inr rfl) only [Kept.mk_eq, Kept.field_eq, Kept.cameo_eq] | split
      | dsimp only)

theorem closeIncomplete_kept {chg : List Part} [May chg .out] [May chg .fwQueue] [May chg .od] [May chg .clasp] [May chg
    .compose] [May chg .ports] {r0 s : State} (h : Kept chg r0 s) (r : Nat) : Kept chg r0 (closeIncomplete s r) := by
  unfold closeIncomplete
  repeat' (first
      | with_reducible assumption | intro _ | with_reducible apply Kept.wr | with_reducible apply bump_kept
      | with_reducible apply raise_kept | with_reducible apply setRx_kept | with_reducible apply sliceIncomplete_kept
      | with_reducible apply Kept.foldl | with_reducible apply Kept.clearOd | with_reducible apply Kept.ite
      | with_reducible apply Kept.ite_fst | simp (disch := first
      | exact May.or | exact Or.inr rfl) only [Kept.mk_eq, Kept.field_eq, Kept.cameo_eq] | split | dsimp only)

theorem spoilFrame_kept {chg : List Part} [May chg .clasp] [May chg .ports] {r0 s : State} (h : Kept chg r0 s) (r : Nat) : Kept
    chg r0 (spoilFrame s r) := by
  unfold spoilFrame
  repeat' (first
      | with_reducible assumption | intro _ | with_reducible apply Kept.wr | with_reducible apply ok_kept
      | with_reducible apply setRx_kept | with_reducible apply Kept.clearOd | with_reducible apply Kept.ite
      | with_reducible apply Kept.ite_fst | simp (disch := first
      | exact May.or | exact Or.inr rfl) only [Kept.mk_eq, Kept.field_eq, Kept.cameo_eq] | split | dsimp only)

theorem csiHeader_kept {chg : List Part} [May chg .od] [May chg .clasp] [May chg .ports] {r0 s : State} (h : Kept chg r0 s) (r :
    Nat) (vc : Nat) (hdr : Nat) : Kept chg r0 (csiHeader s r vc hdr).1 := by
  unfold csiHeader
  repeat' (first
      | with_reducible assumption | intro _ | with_reducible apply Kept.wr | with_reducible apply bump_kept
      | with_reducible apply spoilFrame_kept | with_reducible apply Kept.clearOd | with_reducible apply Kept.ite
      | with_reducible apply Kept.ite_fst | simp (disch := first
      | exact May.or | exact Or.inr rfl) only [Kept.mk_eq, Kept.field_eq, Kept.cameo_eq] | split | dsimp only)

theorem csiFrameStart_kept {chg : List Part} [May chg .out] [May chg .fwQueue] [May chg .od] [May chg .clasp] [May chg .compose]
    [May chg .ports] {r0 s : State} (h : Kept chg r0 s) (r : Nat) (vc : Nat) (num : Nat) (hdr : Nat) : Kept chg r0
    (csiFrameStart s r vc num hdr) := by
  unfold csiFrameStart
  repeat' (first
      | with_reducible assumption | intro _ | with_reducible apply Kept.wr | with_reducible apply setRx_kept
      | with_reducible apply closeIncomplete_kept | with_reducible apply csiHeader_kept | with_reducible apply Kept.clearOd
      | with_reducible apply Kept.ite | with_reducible apply Kept.ite_fst | simp (disch := first
      | exact May.or | exact Or.inr rfl) only [Kept.mk_eq, Kept.field_eq, Kept.cameo_eq] | split | dsimp only)

theorem storeLine_kept {chg : List Part} [May chg .od] [May chg .mem] [May chg .ten] [May chg .field] [May chg .memc] {r0 s :
    State} (h : Kept chg r0 s) (r : Nat) (fr : CamFrame) (bytes : List Byte) : Kept chg r0 (storeLine s r fr bytes) := by
  unfold storeLine
  repeat' (first
      | with_reducible assumption | intro _ | with_reducible apply Kept.wr | with_reducible apply winWr_kept
      | with_reducible apply windowViolation_kept | with_reducible apply Kept.clearOd | with_reducible apply Kept.ite
      | with_reducible apply Kept.ite_fst | simp (disch := first
      | exact May.or | exact Or.inr rfl) only [Kept.mk_eq, Kept.field_eq, Kept.cameo_eq] | split | dsimp only)

theorem csiLinePacket_kept {chg : List Part} [May chg .od] [May chg .mem] [May chg .ten] [May chg .clasp] [May chg .field] [May
    chg .ports] [May chg .memc] {r0 s : State} (h : Kept chg r0 s) (r : Nat) (vc : Nat) (dt : Nat) (bytes : List Byte) (crcOk :
    Bool) (hdr : Nat) : Kept chg r0 (csiLinePacket s r vc dt bytes crcOk hdr) := by
  unfold csiLinePacket
  repeat' (first
      | with_reducible assumption | intro _ | with_reducible apply Kept.wr | with_reducible apply bump_kept
      | with_reducible apply ok_kept | with_reducible apply setRx_kept | with_reducible apply csiHeader_kept
      | with_reducible apply storeLine_kept | with_reducible apply Kept.clearOd | with_reducible apply Kept.ite
      | with_reducible apply Kept.ite_fst | simp (disch := first
      | exact May.or | exact Or.inr rfl) only [Kept.mk_eq, Kept.field_eq, Kept.cameo_eq] | split | dsimp only)

theorem frameComplete_kept {chg : List Part} [May chg .out] [May chg .fwQueue] [May chg .od] [May chg .mem] [May chg .clasp]
    [May chg .field] [May chg .ports] [May chg .memc] {r0 s : State} (h : Kept chg r0 s) (r : Nat) (fr : CamFrame) : Kept chg r0
    (frameComplete s r fr) := by
  unfold frameComplete
  repeat' (first
      | with_reducible assumption | intro _ | with_reducible apply Kept.wr | with_reducible apply bumpWrap_kept
      | with_reducible apply raise_kept | with_reducible apply endLasting_kept | with_reducible apply setEvent_kept
      | with_reducible apply setRx_kept | with_reducible apply writeCamStatus_kept | with_reducible apply Kept.clearOd
      | with_reducible apply Kept.ite | with_reducible apply Kept.ite_fst | simp (disch := first
      | exact May.or | exact Or.inr rfl) only [Kept.mk_eq, Kept.field_eq, Kept.cameo_eq] | split | dsimp only)

theorem csiFrameEnd_kept {chg : List Part} [May chg .out] [May chg .fwQueue] [May chg .od] [May chg .mem] [May chg .clasp] [May
    chg .field] [May chg .compose] [May chg .ports] [May chg .memc] {r0 s : State} (h : Kept chg r0 s) (r : Nat) (vc : Nat) (num
    : Nat) (hdr : Nat) : Kept chg r0 (csiFrameEnd s r vc num hdr) := by
  unfold csiFrameEnd
  repeat' (first
      | with_reducible assumption | intro _ | with_reducible apply Kept.wr | with_reducible apply closeIncomplete_kept
      | with_reducible apply csiHeader_kept | with_reducible apply frameComplete_kept | with_reducible apply Kept.clearOd
      | with_reducible apply Kept.ite | with_reducible apply Kept.ite_fst | simp (disch := first
      | exact May.or | exact Or.inr rfl) only [Kept.mk_eq, Kept.field_eq, Kept.cameo_eq] | split | dsimp only)

theorem csiPacketGap_kept {chg : List Part} [May chg .out] [May chg .fwQueue] [May chg .od] [May chg .clasp] [May chg .compose]
    [May chg .ports] {r0 s : State} (h : Kept chg r0 s) (r : Nat) : Kept chg r0 (csiPacketGap s r) := by
  unfold csiPacketGap
  repeat' (first
      | with_reducible assumption | intro _ | with_reducible apply Kept.wr | with_reducible apply closeIncomplete_kept
      | with_reducible apply Kept.clearOd | with_reducible apply Kept.ite | with_reducible apply Kept.ite_fst
      | simp (disch := first | exact May.or | exact Or.inr rfl) only [Kept.mk_eq, Kept.field_eq, Kept.cameo_eq] | split
      | dsimp only)

theorem camLossTimeout_kept {chg : List Part} [May chg .out] [May chg .fwQueue] [May chg .od] [May chg .mem] [May chg .field]
    [May chg .compose] [May chg .memc] {r0 s : State} (h : Kept chg r0 s) (r : Nat) : Kept chg r0 (camLossTimeout s r) := by
  unfold camLossTimeout
  repeat' (first
      | with_reducible assumption | intro _ | with_reducible apply Kept.wr | with_reducible apply bump_kept
      | with_reducible apply raise_kept | with_reducible apply raiseTrusted_kept | with_reducible apply lastingEmcy_kept
      | with_reducible apply setFacet_kept | with_reducible apply writeCamStatus_kept | with_reducible apply Kept.foldl
      | with_reducible apply Kept.clearOd | with_reducible apply Kept.ite | with_reducible apply Kept.ite_fst
      | simp (disch := first | exact May.or | exact Or.inr rfl) only [Kept.mk_eq, Kept.field_eq, Kept.cameo_eq] | split
      | dsimp only)

theorem camOpenReq_kept {chg : List Part} [May chg .od] [May chg .ten] [May chg .clasp] [May chg .field] [May chg .ports] {r0 s
    : State} (h : Kept chg r0 s) (c : Nat) (t : Taken) : Kept chg r0 (camOpenReq s c t) := by
  unfold camOpenReq
  repeat' (first
      | with_reducible assumption | intro _ | with_reducible apply Kept.wr | with_reducible apply ok_kept
      | with_reducible apply fail_kept | with_reducible apply denied_kept | with_reducible apply deniedAddr_kept
      | with_reducible apply setRx_kept | with_reducible apply Kept.clearOd | with_reducible apply Kept.ite
      | with_reducible apply Kept.ite_fst | simp (disch := first
      | exact May.or | exact Or.inr rfl) only [Kept.mk_eq, Kept.field_eq, Kept.cameo_eq] | split | dsimp only)

theorem detachFacet_kept {chg : List Part} [May chg .od] [May chg .compose] [May chg .ports] {r0 s : State} (h : Kept chg r0 s)
    (r : Nat) (h : Nat) (f : Nat) : Kept chg r0 (detachFacet s r h f) := by
  unfold detachFacet
  repeat' (first
      | with_reducible assumption | intro _ | with_reducible apply Kept.wr | with_reducible apply setFacet_kept
      | with_reducible apply setRx_kept | with_reducible apply Kept.clearOd | with_reducible apply Kept.ite
      | with_reducible apply Kept.ite_fst | simp (disch := first
      | exact May.or | exact Or.inr rfl) only [Kept.mk_eq, Kept.field_eq, Kept.cameo_eq] | split | dsimp only)

theorem closeReceiver_kept {chg : List Part} [May chg .od] [May chg .compose] [May chg .ports] {r0 s : State} (h : Kept chg r0
    s) (r : Nat) : Kept chg r0 (closeReceiver s r) := by
  unfold closeReceiver
  repeat' (first
      | with_reducible assumption | intro _ | with_reducible apply Kept.wr | with_reducible apply setRx_kept
      | with_reducible apply updateSums_kept | with_reducible apply detachFacet_kept | with_reducible apply Kept.foldl
      | with_reducible apply Kept.clearOd | with_reducible apply Kept.ite | with_reducible apply Kept.ite_fst
      | simp (disch := first | exact May.or | exact Or.inr rfl) only [Kept.mk_eq, Kept.field_eq, Kept.cameo_eq] | split
      | dsimp only)

theorem camCloseReq_kept {chg : List Part} [May chg .od] [May chg .ten] [May chg .clasp] [May chg .field] [May chg .compose]
    [May chg .ports] {r0 s : State} (h : Kept chg r0 s) (c : Nat) (t : Taken) : Kept chg r0 (camCloseReq s c t) := by
  unfold camCloseReq
  repeat' (first
      | with_reducible assumption | intro _ | with_reducible apply Kept.wr | with_reducible apply ok_kept
      | with_reducible apply fail_kept | with_reducible apply denied_kept | with_reducible apply closeReceiver_kept
      | with_reducible apply Kept.clearOd | with_reducible apply Kept.ite | with_reducible apply Kept.ite_fst
      | simp (disch := first | exact May.or | exact Or.inr rfl) only [Kept.mk_eq, Kept.field_eq, Kept.cameo_eq] | split
      | dsimp only)

theorem camAttachReq_kept {chg : List Part} [May chg .od] [May chg .ten] [May chg .clasp] [May chg .field] [May chg .compose]
    [May chg .ports] {r0 s : State} (h : Kept chg r0 s) (c : Nat) (t : Taken) : Kept chg r0 (camAttachReq s c t) := by
  unfold camAttachReq
  repeat' (first
      | with_reducible assumption | intro _ | with_reducible apply Kept.wr | with_reducible apply ok_kept
      | with_reducible apply fail_kept | with_reducible apply denied_kept | with_reducible apply setFacet_kept
      | with_reducible apply setRx_kept | with_reducible apply updateSums_kept | with_reducible apply Kept.clearOd
      | with_reducible apply Kept.ite | with_reducible apply Kept.ite_fst | simp (disch := first
      | exact May.or | exact Or.inr rfl) only [Kept.mk_eq, Kept.field_eq, Kept.cameo_eq] | split | dsimp only)

theorem camDetachReq_kept {chg : List Part} [May chg .od] [May chg .ten] [May chg .clasp] [May chg .field] [May chg .compose]
    [May chg .ports] {r0 s : State} (h : Kept chg r0 s) (c : Nat) (t : Taken) : Kept chg r0 (camDetachReq s c t) := by
  unfold camDetachReq
  repeat' (first
      | with_reducible assumption | intro _ | with_reducible apply Kept.wr | with_reducible apply ok_kept
      | with_reducible apply fail_kept | with_reducible apply denied_kept | with_reducible apply updateSums_kept
      | with_reducible apply detachFacet_kept | with_reducible apply Kept.clearOd | with_reducible apply Kept.ite
      | with_reducible apply Kept.ite_fst | simp (disch := first
      | exact May.or | exact Or.inr rfl) only [Kept.mk_eq, Kept.field_eq, Kept.cameo_eq] | split | dsimp only)

theorem camQueryReq_kept {chg : List Part} [May chg .od] [May chg .ten] [May chg .clasp] [May chg .field] {r0 s : State} (h :
    Kept chg r0 s) (c : Nat) (t : Taken) : Kept chg r0 (camQueryReq s c t) := by
  unfold camQueryReq
  repeat' (first
      | with_reducible assumption | intro _ | with_reducible apply Kept.wr | with_reducible apply ok_kept
      | with_reducible apply fail_kept | with_reducible apply denied_kept | with_reducible apply Kept.clearOd
      | with_reducible apply Kept.ite | with_reducible apply Kept.ite_fst | simp (disch := first
      | exact May.or | exact Or.inr rfl) only [Kept.mk_eq, Kept.field_eq, Kept.cameo_eq] | split | dsimp only)

theorem presentation_kept {chg : List Part} [May chg .heads] [May chg .cameo] {r0 s : State} (h : Kept chg r0 s) (h : Nat) (p :
    Presentation) : Kept chg r0 (presentation s h p) := by
  unfold presentation
  repeat' (first
      | with_reducible assumption | intro _ | with_reducible apply Kept.wr | with_reducible apply setCameo_kept
      | with_reducible apply Kept.clearOd | with_reducible apply Kept.ite | with_reducible apply Kept.ite_fst
      | simp (disch := first | exact May.or | exact Or.inr rfl) only [Kept.mk_eq, Kept.field_eq, Kept.cameo_eq] | split
      | dsimp only)

theorem contentFault_kept {chg : List Part} [May chg .od] [May chg .boot] {r0 s : State} (h : Kept chg r0 s) (h : Nat) (r : Nat)
    (frame : Nat) : Kept chg r0 (contentFault s h r frame) := by
  unfold contentFault
  repeat' (first
      | with_reducible assumption | intro _ | with_reducible apply Kept.wr | with_reducible apply wrBit_kept
      | with_reducible apply latchFault_kept | with_reducible apply Kept.clearOd | with_reducible apply Kept.ite
      | with_reducible apply Kept.ite_fst | simp (disch := first
      | exact May.or | exact Or.inr rfl) only [Kept.mk_eq, Kept.field_eq, Kept.cameo_eq] | split | dsimp only)

theorem regionDiffers_kept {chg : List Part} [May chg .out] [May chg .fwQueue] [May chg .od] [May chg .field] [May chg .heads]
    [May chg .cameo] [May chg .boot] {r0 s : State} (h : Kept chg r0 s) (h : Nat) (r : Nat) (frame : Nat) : Kept chg r0
    (regionDiffers s h r frame) := by
  unfold regionDiffers
  repeat' (first
      | with_reducible assumption | intro _ | with_reducible apply Kept.wr | with_reducible apply bump_kept
      | with_reducible apply raise_kept | with_reducible apply raiseTrusted_kept | with_reducible apply emcy_kept
      | with_reducible apply lastingEmcy_kept | with_reducible apply setCameo_kept | with_reducible apply contentFault_kept
      | with_reducible apply Kept.clearOd | with_reducible apply Kept.ite | with_reducible apply Kept.ite_fst
      | simp (disch := first | exact May.or | exact Or.inr rfl) only [Kept.mk_eq, Kept.field_eq, Kept.cameo_eq] | split
      | dsimp only)

theorem regionCompare_kept {chg : List Part} [May chg .out] [May chg .fwQueue] [May chg .od] [May chg .field] [May chg .heads]
    [May chg .cameo] [May chg .boot] {r0 s : State} (h : Kept chg r0 s) (h : Nat) (r : Nat) : Kept chg r0 (regionCompare s h r)
    := by
  unfold regionCompare
  repeat' (first
      | with_reducible assumption | intro _ | with_reducible apply Kept.wr | with_reducible apply bump_kept
      | with_reducible apply setCameo_kept | with_reducible apply regionDiffers_kept | with_reducible apply Kept.clearOd
      | with_reducible apply Kept.ite | with_reducible apply Kept.ite_fst | simp (disch := first
      | exact May.or | exact Or.inr rfl) only [Kept.mk_eq, Kept.field_eq, Kept.cameo_eq] | split | dsimp only)

theorem setCv_kept {chg : List Part} [May chg .cameo] {r0 s : State} (h : Kept chg r0 s) (k : Nat) (x : CvRec) : Kept chg r0 (setCv s k x) := by
  unfold setCv
  repeat' (first
      | with_reducible assumption | intro _ | with_reducible apply Kept.wr | with_reducible apply Kept.clearOd
      | with_reducible apply Kept.ite | with_reducible apply Kept.ite_fst | simp (disch := first
      | exact May.or | exact Or.inr rfl) only [Kept.mk_eq, Kept.field_eq, Kept.cameo_eq] | split | dsimp only)

theorem setHand_kept {chg : List Part} [May chg .locket] {r0 s : State} (h : Kept chg r0 s) (block : Nat) (h : Option Hand) :
    Kept chg r0 (setHand s block h) := by
  unfold setHand
  repeat' (first
      | with_reducible assumption | intro _ | with_reducible apply Kept.wr | with_reducible apply Kept.clearOd
      | with_reducible apply Kept.ite | with_reducible apply Kept.ite_fst | simp (disch := first
      | exact May.or | exact Or.inr rfl) only [Kept.mk_eq, Kept.field_eq, Kept.cameo_eq] | split | dsimp only)

theorem releaseEffect_kept {chg : List Part} [May chg .out] [May chg .fwQueue] [May chg .od] [May chg .clasp] [May chg .ports]
    [May chg .cameo] [May chg .locket] {r0 s : State} (h : Kept chg r0 s) (k : Nat) (h : Hand) : Kept chg r0 (releaseEffect s k
    h) := by
  unfold releaseEffect
  repeat' (first
      | with_reducible assumption | intro _ | with_reducible apply Kept.wr | with_reducible apply raise_kept
      | with_reducible apply setEvent_kept | with_reducible apply setCv_kept | with_reducible apply setHand_kept
      | with_reducible apply Kept.clearOd | with_reducible apply Kept.ite | with_reducible apply Kept.ite_fst
      | simp (disch := first | exact May.or | exact Or.inr rfl) only [Kept.mk_eq, Kept.field_eq, Kept.cameo_eq] | split
      | dsimp only)

theorem cvRelease_kept {chg : List Part} [May chg .out] [May chg .fwQueue] [May chg .od] [May chg .clasp] [May chg .ports] [May
    chg .cameo] [May chg .locket] {r0 s : State} (h : Kept chg r0 s) (k : Nat) (h : Hand) : Kept chg r0 (cvRelease s k h) := by
  unfold cvRelease
  repeat' (first
      | with_reducible assumption | intro _ | with_reducible apply Kept.wr | with_reducible apply setHand_kept
      | with_reducible apply releaseEffect_kept | with_reducible apply Kept.clearOd | with_reducible apply Kept.ite
      | with_reducible apply Kept.ite_fst | simp (disch := first
      | exact May.or | exact Or.inr rfl) only [Kept.mk_eq, Kept.field_eq, Kept.cameo_eq] | split | dsimp only)

theorem cvAcquireReq_kept {chg : List Part} [May chg .out] [May chg .fwQueue] [May chg .od] [May chg .clasp] [May chg .ports]
    [May chg .cameo] [May chg .locket] {r0 s : State} (h : Kept chg r0 s) (c : Nat) (t : Taken) : Kept chg r0 (cvAcquireReq s c
    t) := by
  unfold cvAcquireReq
  repeat' (first
      | with_reducible assumption | intro _ | with_reducible apply Kept.wr | with_reducible apply fail_kept
      | with_reducible apply cvRelease_kept | with_reducible apply Kept.clearOd | with_reducible apply Kept.ite
      | with_reducible apply Kept.ite_fst | simp (disch := first
      | exact May.or | exact Or.inr rfl) only [Kept.mk_eq, Kept.field_eq, Kept.cameo_eq] | split | dsimp only)

theorem cvRunReq_kept {chg : List Part} [May chg .od] [May chg .ten] [May chg .clasp] [May chg .field] [May chg .cameo] {r0 s :
    State} (h : Kept chg r0 s) (c : Nat) (t : Taken) : Kept chg r0 (cvRunReq s c t) := by
  unfold cvRunReq
  repeat' (first
      | with_reducible assumption | intro _ | with_reducible apply Kept.wr | with_reducible apply fail_kept
      | with_reducible apply denied_kept | with_reducible apply deniedAddr_kept | with_reducible apply setCv_kept
      | with_reducible apply Kept.clearOd | with_reducible apply Kept.ite | with_reducible apply Kept.ite_fst
      | simp (disch := first | exact May.or | exact Or.inr rfl) only [Kept.mk_eq, Kept.field_eq, Kept.cameo_eq] | split
      | dsimp only)

theorem cvReleaseReq_kept {chg : List Part} [May chg .out] [May chg .fwQueue] [May chg .od] [May chg .ten] [May chg .clasp] [May
    chg .field] [May chg .ports] [May chg .cameo] [May chg .locket] {r0 s : State} (h : Kept chg r0 s) (c : Nat) (t : Taken) :
    Kept chg r0 (cvReleaseReq s c t) := by
  unfold cvReleaseReq
  repeat' (first
      | with_reducible assumption | intro _ | with_reducible apply Kept.wr | with_reducible apply ok_kept
      | with_reducible apply fail_kept | with_reducible apply denied_kept | with_reducible apply cvRelease_kept
      | with_reducible apply Kept.clearOd | with_reducible apply Kept.ite | with_reducible apply Kept.ite_fst
      | simp (disch := first | exact May.or | exact Or.inr rfl) only [Kept.mk_eq, Kept.field_eq, Kept.cameo_eq] | split
      | dsimp only)

theorem cvEnd_kept {chg : List Part} [May chg .clasp] [May chg .cameo] {r0 s : State} (h : Kept chg r0 s) (k : Nat) : Kept chg r0 (cvEnd s k) := by
  unfold cvEnd
  repeat' (first
      | with_reducible assumption | intro _ | with_reducible apply Kept.wr | with_reducible apply ok_kept
      | with_reducible apply serveF_kept | with_reducible apply setCv_kept | with_reducible apply Kept.clearOd
      | with_reducible apply Kept.ite | with_reducible apply Kept.ite_fst | simp (disch := first
      | exact May.or | exact Or.inr rfl) only [Kept.mk_eq, Kept.field_eq, Kept.cameo_eq] | split | dsimp only)

theorem cvWithdraw_kept {chg : List Part} [May chg .out] [May chg .fwQueue] [May chg .od] [May chg .clasp] [May chg .ports] [May
    chg .cameo] [May chg .locket] {r0 s : State} (h : Kept chg r0 s) (c : Nat) : Kept chg r0 (cvWithdraw s c) := by
  unfold cvWithdraw
  repeat' (first
      | with_reducible assumption | intro _ | with_reducible apply Kept.wr | with_reducible apply cvRelease_kept
      | with_reducible apply Kept.foldl | with_reducible apply Kept.clearOd | with_reducible apply Kept.ite
      | with_reducible apply Kept.ite_fst | simp (disch := first
      | exact May.or | exact Or.inr rfl) only [Kept.mk_eq, Kept.field_eq, Kept.cameo_eq] | split | dsimp only)

theorem cvClientReset_kept {chg : List Part} [May chg .out] [May chg .fwQueue] [May chg .od] [May chg .clasp] [May chg .ports]
    [May chg .cameo] [May chg .locket] {r0 s : State} (h : Kept chg r0 s) (c : Nat) : Kept chg r0 (cvClientReset s c) := by
  unfold cvClientReset
  repeat' (first
      | with_reducible assumption | intro _ | with_reducible apply Kept.wr | with_reducible apply setCv_kept
      | with_reducible apply cvRelease_kept | with_reducible apply Kept.foldl | with_reducible apply Kept.clearOd
      | with_reducible apply Kept.ite | with_reducible apply Kept.ite_fst | simp (disch := first
      | exact May.or | exact Or.inr rfl) only [Kept.mk_eq, Kept.field_eq, Kept.cameo_eq] | split | dsimp only)

theorem setHap_kept {chg : List Part} [May chg .hap] {r0 s : State} (h : Kept chg r0 s) (n : Nat) (x : HapRec) : Kept chg r0 (setHap s n x) := by
  unfold setHap
  repeat' (first
      | with_reducible assumption | intro _ | with_reducible apply Kept.wr | with_reducible apply Kept.clearOd
      | with_reducible apply Kept.ite | with_reducible apply Kept.ite_fst | simp (disch := first
      | exact May.or | exact Or.inr rfl) only [Kept.mk_eq, Kept.field_eq, Kept.cameo_eq] | split | dsimp only)

theorem setHapState_kept {chg : List Part} [May chg .free] [May chg .od] [May chg .hap] {r0 s : State} (h : Kept chg r0 s) (n :
    Nat) (st : Nat) : Kept chg r0 (setHapState s n st) := by
  unfold setHapState
  repeat' (first
      | with_reducible assumption | intro _ | with_reducible apply Kept.wr | with_reducible apply setHap_kept
      | with_reducible apply Kept.clearOd | with_reducible apply Kept.ite | with_reducible apply Kept.ite_fst
      | simp (disch := first | exact May.or | exact Or.inr rfl) only [Kept.mk_eq, Kept.field_eq, Kept.cameo_eq] | split
      | dsimp only)

theorem setLatch_kept {chg : List Part} [May chg .od] [May chg .hap] {r0 s : State} (h : Kept chg r0 s) (n : Nat) (t : Option
    Trig) : Kept chg r0 (setLatch s n t) := by
  unfold setLatch
  repeat' (first
      | with_reducible assumption | intro _ | with_reducible apply Kept.wr | with_reducible apply wrBit_kept
      | with_reducible apply setHap_kept | with_reducible apply Kept.clearOd | with_reducible apply Kept.ite
      | with_reducible apply Kept.ite_fst | simp (disch := first
      | exact May.or | exact Or.inr rfl) only [Kept.mk_eq, Kept.field_eq, Kept.cameo_eq] | split | dsimp only)

theorem notifyTrig_kept {chg : List Part} [May chg .out] [May chg .clasp] [May chg .ports] {r0 s : State} (h : Kept chg r0 s) (t
    : Option Trig) : Kept chg r0 (notifyTrig s t) := by
  unfold notifyTrig
  repeat' (first
      | with_reducible assumption | intro _ | with_reducible apply Kept.wr | with_reducible apply setEvent_kept
      | with_reducible apply Kept.clearOd | with_reducible apply Kept.ite | with_reducible apply Kept.ite_fst
      | simp (disch := first | exact May.or | exact Or.inr rfl) only [Kept.mk_eq, Kept.field_eq, Kept.cameo_eq] | split
      | dsimp only)

theorem restoreCal_kept {chg : List Part} [May chg .od] [May chg .field] {r0 s : State} (h : Kept chg r0 s) (n : Nat) : Kept chg
    r0 (restoreCal s n) := by
  unfold restoreCal
  repeat' (first
      | with_reducible assumption | intro _ | with_reducible apply Kept.wr | with_reducible apply beginLasting_kept
      | with_reducible apply Kept.clearOd | with_reducible apply Kept.ite | with_reducible apply Kept.ite_fst
      | simp (disch := first | exact May.or | exact Or.inr rfl) only [Kept.mk_eq, Kept.field_eq, Kept.cameo_eq] | split
      | dsimp only)

theorem startCal_kept {chg : List Part} [May chg .free] [May chg .od] [May chg .field] [May chg .hap] {r0 s : State} (h : Kept
    chg r0 s) (n : Nat) : Kept chg r0 (startCal s n) := by
  unfold startCal
  repeat' (first
      | with_reducible assumption | intro _ | with_reducible apply Kept.wr | with_reducible apply endLasting_kept
      | with_reducible apply setHap_kept | with_reducible apply setHapState_kept | with_reducible apply Kept.clearOd
      | with_reducible apply Kept.ite | with_reducible apply Kept.ite_fst | simp (disch := first
      | exact May.or | exact Or.inr rfl) only [Kept.mk_eq, Kept.field_eq, Kept.cameo_eq] | split | dsimp only)

theorem scheduleCals_kept {chg : List Part} [May chg .free] [May chg .od] [May chg .field] [May chg .hap] {r0 s : State} (h :
    Kept chg r0 s)  : Kept chg r0 (scheduleCals s) := by
  unfold scheduleCals
  repeat' (first
      | with_reducible assumption | intro _ | with_reducible apply Kept.wr | with_reducible apply startCal_kept
      | with_reducible apply Kept.foldl | with_reducible apply Kept.clearOd | with_reducible apply Kept.ite
      | with_reducible apply Kept.ite_fst | simp (disch := first
      | exact May.or | exact Or.inr rfl) only [Kept.mk_eq, Kept.field_eq, Kept.cameo_eq] | split | dsimp only)

theorem startEffect_kept {chg : List Part} [May chg .free] [May chg .out] [May chg .fwQueue] [May chg .od] [May chg .hap] {r0 s
    : State} (h : Kept chg r0 s) (n : Nat) (t : Trig) (moving : Bool) : Kept chg r0 (startEffect s n t moving) := by
  unfold startEffect
  repeat' (first
      | with_reducible assumption | intro _ | with_reducible apply Kept.wr | with_reducible apply bump_kept
      | with_reducible apply raise_kept | with_reducible apply setHap_kept | with_reducible apply setHapState_kept
      | with_reducible apply Kept.clearOd | with_reducible apply Kept.ite | with_reducible apply Kept.ite_fst
      | simp (disch := first | exact May.or | exact Or.inr rfl) only [Kept.mk_eq, Kept.field_eq, Kept.cameo_eq] | split
      | dsimp only)

theorem latchTrig_kept {chg : List Part} [May chg .out] [May chg .fwQueue] [May chg .od] [May chg .clasp] [May chg .ports] [May
    chg .hap] {r0 s : State} (h : Kept chg r0 s) (n : Nat) (t : Trig) : Kept chg r0 (latchTrig s n t).1 := by
  unfold latchTrig
  repeat' (first
      | with_reducible assumption | intro _ | with_reducible apply Kept.wr | with_reducible apply bump_kept
      | with_reducible apply raise_kept | with_reducible apply setLatch_kept | with_reducible apply notifyTrig_kept
      | with_reducible apply Kept.clearOd | with_reducible apply Kept.ite | with_reducible apply Kept.ite_fst
      | simp (disch := first | exact May.or | exact Or.inr rfl) only [Kept.mk_eq, Kept.field_eq, Kept.cameo_eq] | split
      | dsimp only)

theorem toBraking_kept {chg : List Part} [May chg .free] [May chg .od] [May chg .hap] {r0 s : State} (h : Kept chg r0 s) (n :
    Nat) : Kept chg r0 (toBraking s n) := by
  unfold toBraking
  repeat' (first
      | with_reducible assumption | intro _ | with_reducible apply Kept.wr | with_reducible apply setHap_kept
      | with_reducible apply setHapState_kept | with_reducible apply Kept.clearOd | with_reducible apply Kept.ite
      | with_reducible apply Kept.ite_fst | simp (disch := first
      | exact May.or | exact Or.inr rfl) only [Kept.mk_eq, Kept.field_eq, Kept.cameo_eq] | split | dsimp only)

theorem trigger_kept {chg : List Part} [May chg .free] [May chg .out] [May chg .fwQueue] [May chg .od] [May chg .clasp] [May chg
    .field] [May chg .ports] [May chg .hap] {r0 s : State} (h : Kept chg r0 s) (n : Nat) (t : Trig) : Kept chg r0 (trigger s n
    t).1 := by
  unfold trigger
  repeat' (first
      | with_reducible assumption | intro _ | with_reducible apply Kept.wr | with_reducible apply bump_kept
      | with_reducible apply raise_kept | with_reducible apply setHap_kept | with_reducible apply notifyTrig_kept
      | with_reducible apply restoreCal_kept | with_reducible apply startEffect_kept | with_reducible apply latchTrig_kept
      | with_reducible apply toBraking_kept | with_reducible apply Kept.clearOd | with_reducible apply Kept.ite
      | with_reducible apply Kept.ite_fst | simp (disch := first
      | exact May.or | exact Or.inr rfl) only [Kept.mk_eq, Kept.field_eq, Kept.cameo_eq] | split | dsimp only)

theorem triggerMask_kept {chg : List Part} [May chg .free] [May chg .out] [May chg .fwQueue] [May chg .od] [May chg .clasp] [May
    chg .field] [May chg .ports] [May chg .hap] {r0 s : State} (h : Kept chg r0 s) (mask : Nat) (t : Trig) : Kept chg r0
    (triggerMask s mask t) := by
  unfold triggerMask
  repeat' (first
      | with_reducible assumption | intro _ | with_reducible apply Kept.wr | with_reducible apply trigger_kept
      | with_reducible apply Kept.foldl | with_reducible apply Kept.clearOd | with_reducible apply Kept.ite
      | with_reducible apply Kept.ite_fst | simp (disch := first
      | exact May.or | exact Or.inr rfl) only [Kept.mk_eq, Kept.field_eq, Kept.cameo_eq] | split | dsimp only)

theorem nextOnChannel_kept {chg : List Part} [May chg .free] [May chg .out] [May chg .fwQueue] [May chg .od] [May chg .clasp]
    [May chg .field] [May chg .ports] [May chg .hap] {r0 s : State} (h : Kept chg r0 s) (n : Nat) : Kept chg r0 (nextOnChannel s
    n) := by
  unfold nextOnChannel
  repeat' (first
      | with_reducible assumption | intro _ | with_reducible apply Kept.wr | with_reducible apply bump_kept
      | with_reducible apply setHap_kept | with_reducible apply setHapState_kept | with_reducible apply setLatch_kept
      | with_reducible apply notifyTrig_kept | with_reducible apply scheduleCals_kept | with_reducible apply startEffect_kept
      | with_reducible apply Kept.clearOd | with_reducible apply Kept.ite | with_reducible apply Kept.ite_fst
      | simp (disch := first | exact May.or | exact Or.inr rfl) only [Kept.mk_eq, Kept.field_eq, Kept.cameo_eq] | split
      | dsimp only)

theorem attackEnd_kept {chg : List Part} [May chg .free] [May chg .od] [May chg .hap] {r0 s : State} (h : Kept chg r0 s) (n :
    Nat) : Kept chg r0 (attackEnd s n) := by
  unfold attackEnd
  repeat' (first
      | with_reducible assumption | intro _ | with_reducible apply Kept.wr | with_reducible apply setHapState_kept
      | with_reducible apply Kept.clearOd | with_reducible apply Kept.ite | with_reducible apply Kept.ite_fst
      | simp (disch := first | exact May.or | exact Or.inr rfl) only [Kept.mk_eq, Kept.field_eq, Kept.cameo_eq] | split
      | dsimp only)

theorem sustainEnd_kept {chg : List Part} [May chg .free] [May chg .out] [May chg .fwQueue] [May chg .od] [May chg .hap] {r0 s :
    State} (h : Kept chg r0 s) (n : Nat) (rNow : Nat) : Kept chg r0 (sustainEnd s n rNow) := by
  unfold sustainEnd
  repeat' (first
      | with_reducible assumption | intro _ | with_reducible apply Kept.wr | with_reducible apply wrBit_kept
      | with_reducible apply raise_kept | with_reducible apply setHapState_kept | with_reducible apply Kept.clearOd
      | with_reducible apply Kept.ite | with_reducible apply Kept.ite_fst | simp (disch := first
      | exact May.or | exact Or.inr rfl) only [Kept.mk_eq, Kept.field_eq, Kept.cameo_eq] | split | dsimp only)

theorem brakingEnd_kept {chg : List Part} [May chg .free] [May chg .out] [May chg .fwQueue] [May chg .od] [May chg .clasp] [May
    chg .field] [May chg .ports] [May chg .hap] {r0 s : State} (h : Kept chg r0 s) (n : Nat) (why : BrakeEnd) : Kept chg r0
    (brakingEnd s n why) := by
  unfold brakingEnd
  repeat' (first
      | with_reducible assumption | intro _ | with_reducible apply Kept.wr | with_reducible apply bump_kept
      | with_reducible apply raise_kept | with_reducible apply setHap_kept | with_reducible apply setHapState_kept
      | with_reducible apply notifyTrig_kept | with_reducible apply nextOnChannel_kept | with_reducible apply Kept.clearOd
      | with_reducible apply Kept.ite | with_reducible apply Kept.ite_fst | simp (disch := first
      | exact May.or | exact Or.inr rfl) only [Kept.mk_eq, Kept.field_eq, Kept.cameo_eq] | split | dsimp only)

theorem gapEnd_kept {chg : List Part} [May chg .free] [May chg .od] [May chg .hap] {r0 s : State} (h : Kept chg r0 s) (n : Nat)
    : Kept chg r0 (gapEnd s n) := by
  unfold gapEnd
  repeat' (first
      | with_reducible assumption | intro _ | with_reducible apply Kept.wr | with_reducible apply setHap_kept
      | with_reducible apply setHapState_kept | with_reducible apply Kept.clearOd | with_reducible apply Kept.ite
      | with_reducible apply Kept.ite_fst | simp (disch := first
      | exact May.or | exact Or.inr rfl) only [Kept.mk_eq, Kept.field_eq, Kept.cameo_eq] | split | dsimp only)

theorem overcurrent_kept {chg : List Part} [May chg .out] [May chg .fwQueue] [May chg .od] [May chg .hap] {r0 s : State} (h :
    Kept chg r0 s) (n : Nat) : Kept chg r0 (overcurrent s n) := by
  unfold overcurrent
  repeat' (first
      | with_reducible assumption | intro _ | with_reducible apply Kept.wr | with_reducible apply bump_kept
      | with_reducible apply raise_kept | with_reducible apply setHap_kept | with_reducible apply Kept.clearOd
      | with_reducible apply Kept.ite | with_reducible apply Kept.ite_fst | simp (disch := first
      | exact May.or | exact Or.inr rfl) only [Kept.mk_eq, Kept.field_eq, Kept.cameo_eq] | split | dsimp only)

theorem accRead_kept {chg : List Part} [May chg .free] [May chg .out] [May chg .fwQueue] [May chg .od] [May chg .hap] {r0 s :
    State} (h : Kept chg r0 s) (n : Nat) (sample : Option Int) : Kept chg r0 (accRead s n sample) := by
  unfold accRead
  repeat' (first
      | with_reducible assumption | intro _ | with_reducible apply Kept.wr | with_reducible apply bump_kept
      | with_reducible apply wrBit_kept | with_reducible apply raise_kept | with_reducible apply setHap_kept
      | with_reducible apply setHapState_kept | with_reducible apply Kept.clearOd | with_reducible apply Kept.ite
      | with_reducible apply Kept.ite_fst | simp (disch := first
      | exact May.or | exact Or.inr rfl) only [Kept.mk_eq, Kept.field_eq, Kept.cameo_eq] | split | dsimp only)

theorem calibrationEnd_kept {chg : List Part} [May chg .free] [May chg .out] [May chg .fwQueue] [May chg .od] [May chg .clasp]
    [May chg .field] [May chg .ports] [May chg .hap] {r0 s : State} (h : Kept chg r0 s) (n : Nat) (results : List Nat) : Kept
    chg r0 (calibrationEnd s n results) := by
  unfold calibrationEnd
  repeat' (first
      | with_reducible assumption | intro _ | with_reducible apply Kept.wr | with_reducible apply wrBit_kept
      | with_reducible apply raise_kept | with_reducible apply lastingEmcy_kept | with_reducible apply scheduleCals_kept
      | with_reducible apply nextOnChannel_kept | with_reducible apply Kept.clearOd | with_reducible apply Kept.ite
      | with_reducible apply Kept.ite_fst | simp (disch := first
      | exact May.or | exact Or.inr rfl) only [Kept.mk_eq, Kept.field_eq, Kept.cameo_eq] | split | dsimp only)

theorem hapOff_kept {chg : List Part} [May chg .free] [May chg .out] [May chg .od] [May chg .clasp] [May chg .ports] [May chg
    .hap] {r0 s : State} (h : Kept chg r0 s) (n : Nat) : Kept chg r0 (hapOff s n) := by
  unfold hapOff
  repeat' (first
      | with_reducible assumption | intro _ | with_reducible apply Kept.wr | with_reducible apply setHap_kept
      | with_reducible apply setHapState_kept | with_reducible apply setLatch_kept | with_reducible apply notifyTrig_kept
      | with_reducible apply Kept.clearOd | with_reducible apply Kept.ite | with_reducible apply Kept.ite_fst
      | simp (disch := first | exact May.or | exact Or.inr rfl) only [Kept.mk_eq, Kept.field_eq, Kept.cameo_eq] | split
      | dsimp only)

theorem settleHap_kept {chg : List Part} [May chg .free] [May chg .out] [May chg .od] [May chg .clasp] [May chg .field] [May chg
    .ports] [May chg .hap] {r0 s : State} (h : Kept chg r0 s) (n : Nat) (fresh : Bool) : Kept chg r0 (settleHap s n fresh) := by
  unfold settleHap
  repeat' (first
      | with_reducible assumption | intro _ | with_reducible apply Kept.wr | with_reducible apply setHap_kept
      | with_reducible apply setHapState_kept | with_reducible apply restoreCal_kept | with_reducible apply hapOff_kept
      | with_reducible apply Kept.clearOd | with_reducible apply Kept.ite | with_reducible apply Kept.ite_fst
      | simp (disch := first | exact May.or | exact Or.inr rfl) only [Kept.mk_eq, Kept.field_eq, Kept.cameo_eq] | split
      | dsimp only)

theorem landHap_kept {chg : List Part} [May chg .free] [May chg .out] [May chg .od] [May chg .dom] [May chg .clasp] [May chg
    .dict] [May chg .field] [May chg .ports] [May chg .hap] {r0 s : State} (h : Kept chg r0 s) (p : Nat → Bool) : Kept chg r0
    (landHap s p) := by
  unfold landHap
  repeat' (first
      | with_reducible assumption | intro _ | with_reducible apply Kept.wr | with_reducible apply landWhere_kept
      | with_reducible apply scheduleCals_kept | with_reducible apply settleHap_kept | with_reducible apply Kept.foldl
      | with_reducible apply Kept.clearOd | with_reducible apply Kept.ite | with_reducible apply Kept.ite_fst
      | simp (disch := first | exact May.or | exact Or.inr rfl) only [Kept.mk_eq, Kept.field_eq, Kept.cameo_eq] | split
      | dsimp only)

theorem askCalibration_kept {chg : List Part} [May chg .free] [May chg .od] [May chg .field] [May chg .hap] {r0 s : State} (h :
    Kept chg r0 s) (n : Nat) : Kept chg r0 (askCalibration s n) := by
  unfold askCalibration
  repeat' (first
      | with_reducible assumption | intro _ | with_reducible apply Kept.wr | with_reducible apply setHap_kept
      | with_reducible apply scheduleCals_kept | with_reducible apply Kept.clearOd | with_reducible apply Kept.ite
      | with_reducible apply Kept.ite_fst | simp (disch := first
      | exact May.or | exact Or.inr rfl) only [Kept.mk_eq, Kept.field_eq, Kept.cameo_eq] | split | dsimp only)

theorem hapTriggerReq_kept {chg : List Part} [May chg .free] [May chg .out] [May chg .fwQueue] [May chg .od] [May chg .ten] [May
    chg .clasp] [May chg .field] [May chg .raster] [May chg .ports] [May chg .hap] [May chg .power] {r0 s : State} (h : Kept chg
    r0 s) (c : Nat) (t : Taken) : Kept chg r0 (hapTriggerReq s c t) := by
  unfold hapTriggerReq
  repeat' (first
      | with_reducible assumption | intro _ | with_reducible apply Kept.wr | with_reducible apply ok_kept
      | with_reducible apply fail_kept | with_reducible apply denied_kept | with_reducible apply withDomain_kept
      | with_reducible apply trigger_kept | with_reducible apply Kept.clearOd | with_reducible apply Kept.ite
      | with_reducible apply Kept.ite_fst | simp (disch := first
      | exact May.or | exact Or.inr rfl) only [Kept.mk_eq, Kept.field_eq, Kept.cameo_eq] | split | dsimp only)

theorem hapStop_kept {chg : List Part} [May chg .free] [May chg .out] [May chg .od] [May chg .clasp] [May chg .ports] [May chg
    .hap] {r0 s : State} (h : Kept chg r0 s) (n : Nat) : Kept chg r0 (hapStop s n) := by
  unfold hapStop
  repeat' (first
      | with_reducible assumption | intro _ | with_reducible apply Kept.wr | with_reducible apply setLatch_kept
      | with_reducible apply notifyTrig_kept | with_reducible apply toBraking_kept | with_reducible apply Kept.clearOd
      | with_reducible apply Kept.ite | with_reducible apply Kept.ite_fst | simp (disch := first
      | exact May.or | exact Or.inr rfl) only [Kept.mk_eq, Kept.field_eq, Kept.cameo_eq] | split | dsimp only)

theorem hapStopReq_kept {chg : List Part} [May chg .free] [May chg .out] [May chg .od] [May chg .ten] [May chg .clasp] [May chg
    .field] [May chg .raster] [May chg .ports] [May chg .hap] [May chg .power] {r0 s : State} (h : Kept chg r0 s) (c : Nat) (t :
    Taken) : Kept chg r0 (hapStopReq s c t) := by
  unfold hapStopReq
  repeat' (first
      | with_reducible assumption | intro _ | with_reducible apply Kept.wr | with_reducible apply ok_kept
      | with_reducible apply fail_kept | with_reducible apply denied_kept | with_reducible apply withDomain_kept
      | with_reducible apply hapStop_kept | with_reducible apply Kept.clearOd | with_reducible apply Kept.ite
      | with_reducible apply Kept.ite_fst | simp (disch := first
      | exact May.or | exact Or.inr rfl) only [Kept.mk_eq, Kept.field_eq, Kept.cameo_eq] | split | dsimp only)

theorem hapQueryReq_kept {chg : List Part} [May chg .od] [May chg .ten] [May chg .clasp] [May chg .field] {r0 s : State} (h :
    Kept chg r0 s) (c : Nat) (t : Taken) : Kept chg r0 (hapQueryReq s c t) := by
  unfold hapQueryReq
  repeat' (first
      | with_reducible assumption | intro _ | with_reducible apply Kept.wr | with_reducible apply ok_kept
      | with_reducible apply fail_kept | with_reducible apply denied_kept | with_reducible apply Kept.clearOd
      | with_reducible apply Kept.ite | with_reducible apply Kept.ite_fst | simp (disch := first
      | exact May.or | exact Or.inr rfl) only [Kept.mk_eq, Kept.field_eq, Kept.cameo_eq] | split | dsimp only)

theorem dropTrigs_kept {chg : List Part} [May chg .od] [May chg .hap] {r0 s : State} (h : Kept chg r0 s) (c : Nat) : Kept chg r0 (dropTrigs s c) := by
  unfold dropTrigs
  repeat' (first
      | with_reducible assumption | intro _ | with_reducible apply Kept.wr | with_reducible apply setHap_kept
      | with_reducible apply setLatch_kept | with_reducible apply Kept.foldl | with_reducible apply Kept.clearOd
      | with_reducible apply Kept.ite | with_reducible apply Kept.ite_fst | simp (disch := first
      | exact May.or | exact Or.inr rfl) only [Kept.mk_eq, Kept.field_eq, Kept.cameo_eq] | split | dsimp only)

theorem boundTouch_kept {chg : List Part} [May chg .free] [May chg .out] [May chg .fwQueue] [May chg .od] [May chg .clasp] [May
    chg .field] [May chg .ports] [May chg .hap] {r0 s : State} (h : Kept chg r0 s) (p : Nat) (x : Nat) (y : Nat) (flags : Nat) :
    Kept chg r0 (boundTouch s p x y flags) := by
  unfold boundTouch
  repeat' (first
      | with_reducible assumption | intro _ | with_reducible apply Kept.wr | with_reducible apply triggerMask_kept
      | with_reducible apply Kept.clearOd | with_reducible apply Kept.ite | with_reducible apply Kept.ite_fst
      | simp (disch := first | exact May.or | exact Or.inr rfl) only [Kept.mk_eq, Kept.field_eq, Kept.cameo_eq] | split
      | dsimp only)

theorem flushBound_kept {chg : List Part} [May chg .free] [May chg .out] [May chg .fwQueue] [May chg .od] [May chg .clasp] [May
    chg .field] [May chg .ports] [May chg .hap] {r0 s : State} (h : Kept chg r0 s)  : Kept chg r0 (flushBound s) := by
  unfold flushBound
  repeat' (first
      | with_reducible assumption | intro _ | with_reducible apply Kept.wr | with_reducible apply triggerMask_kept
      | with_reducible apply Kept.foldl | with_reducible apply Kept.clearOd | with_reducible apply Kept.ite
      | with_reducible apply Kept.ite_fst | simp (disch := first
      | exact May.or | exact Or.inr rfl) only [Kept.mk_eq, Kept.field_eq, Kept.cameo_eq] | split | dsimp only)

theorem pdTrigger_kept {chg : List Part} [May chg .free] [May chg .out] [May chg .fwQueue] [May chg .od] [May chg .clasp] [May
    chg .field] [May chg .raster] [May chg .ports] [May chg .hap] [May chg .power] {r0 s : State} (h : Kept chg r0 s) (n : Nat)
    (w : Nat) : Kept chg r0 (pdTrigger s n w) := by
  unfold pdTrigger
  repeat' (first
      | with_reducible assumption | intro _ | with_reducible apply Kept.wr | with_reducible apply wake_kept
      | with_reducible apply trigger_kept | with_reducible apply Kept.clearOd | with_reducible apply Kept.ite
      | with_reducible apply Kept.ite_fst | simp (disch := first
      | exact May.or | exact Or.inr rfl) only [Kept.mk_eq, Kept.field_eq, Kept.cameo_eq] | split | dsimp only)

theorem flushPd_kept {chg : List Part} [May chg .free] [May chg .out] [May chg .fwQueue] [May chg .od] [May chg .clasp] [May chg
    .field] [May chg .ports] [May chg .hap] {r0 s : State} (h : Kept chg r0 s)  : Kept chg r0 (flushPd s) := by
  unfold flushPd
  repeat' (first
      | with_reducible assumption | intro _ | with_reducible apply Kept.wr | with_reducible apply trigger_kept
      | with_reducible apply Kept.foldl | with_reducible apply Kept.clearOd | with_reducible apply Kept.ite
      | with_reducible apply Kept.ite_fst | simp (disch := first
      | exact May.or | exact Or.inr rfl) only [Kept.mk_eq, Kept.field_eq, Kept.cameo_eq] | split | dsimp only)

theorem alarmSafe_kept {chg : List Part} [May chg .od] [May chg .field] {r0 s : State} (h : Kept chg r0 s) (why : Nat) : Kept
    chg r0 (alarmSafe s why) := by
  unfold alarmSafe
  repeat' (first
      | with_reducible assumption | intro _ | with_reducible apply Kept.wr | with_reducible apply wrBit_kept
      | with_reducible apply lastingEmcy_kept | with_reducible apply Kept.foldl | with_reducible apply Kept.clearOd
      | with_reducible apply Kept.ite | with_reducible apply Kept.ite_fst | simp (disch := first
      | exact May.or | exact Or.inr rfl) only [Kept.mk_eq, Kept.field_eq, Kept.cameo_eq] | split | dsimp only)

theorem setAl_kept {chg : List Part} [May chg .od] [May chg .field] {r0 s : State} (h : Kept chg r0 s) (st status : Nat)
    (hst : legalAl s = true → st = 1 ∨ st = 2 ∨ st = 3 ∨ st = 4 ∨ st = 8) : Kept chg r0 (setAl s st status) := by
  have h1 : ∀ b, Kept chg r0 { s with field := { s.field with al := st, alStatus := status, trigRef := b } } := fun b =>
    h.al_upd _ (fun w => by
      have := hst (h.al w)
      simp only [legalAl, Bool.or_eq_true, beq_iff_eq]
      omega)
  unfold setAl
  dsimp only
  split
  · exact alarmSafe_kept (h1 _) _
  · exact h1 _

theorem setNmt_kept {chg : List Part} [May chg .od] [May chg .field] {r0 s : State} (h : Kept chg r0 s) (n : Nat) (st : Nat) :
    Kept chg r0 (setNmt s n st) := by
  unfold setNmt
  repeat' (first
      | with_reducible assumption | intro _ | with_reducible apply Kept.wr | with_reducible apply setCan_kept
      | with_reducible apply alarmSafe_kept | with_reducible apply Kept.clearOd | with_reducible apply Kept.ite
      | with_reducible apply Kept.ite_fst | simp (disch := first
      | exact May.or | exact Or.inr rfl) only [Kept.mk_eq, Kept.field_eq, Kept.cameo_eq] | split | dsimp only)

theorem canStart_kept {chg : List Part} [May chg .out] [May chg .od] [May chg .field] {r0 s : State} (h : Kept chg r0 s) (n :
    Nat) : Kept chg r0 (canStart s n) := by
  unfold canStart
  repeat' (first
      | with_reducible assumption | intro _ | with_reducible apply Kept.wr | with_reducible apply send_kept
      | with_reducible apply setCan_kept | with_reducible apply setNmt_kept | with_reducible apply Kept.foldl
      | with_reducible apply Kept.clearOd | with_reducible apply Kept.ite | with_reducible apply Kept.ite_fst
      | simp (disch := first | exact May.or | exact Or.inr rfl) only [Kept.mk_eq, Kept.field_eq, Kept.cameo_eq] | split
      | dsimp only)

theorem acceptAlarms_kept {chg : List Part} [May chg .od] [May chg .field] {r0 s : State} (h : Kept chg r0 s) (ws : List Nat)
    (seq : Nat) (crc : Nat) : Kept chg r0 (acceptAlarms s ws seq crc) := by
  unfold acceptAlarms
  repeat' (first
      | with_reducible assumption | intro _ | with_reducible apply Kept.wr | with_reducible apply wrBit_kept
      | with_reducible apply endLasting_kept | with_reducible apply Kept.foldl | with_reducible apply Kept.clearOd
      | with_reducible apply Kept.ite | with_reducible apply Kept.ite_fst | simp (disch := first
      | exact May.or | exact Or.inr rfl) only [Kept.mk_eq, Kept.field_eq, Kept.cameo_eq] | split | dsimp only)

theorem takeAlarms_kept {chg : List Part} [May chg .od] [May chg .field] {r0 s : State} (h : Kept chg r0 s) (ws : List Nat) (seq
    : Nat) (crc : Nat) : Kept chg r0 (takeAlarms s ws seq crc) := by
  unfold takeAlarms
  repeat' (first
      | with_reducible assumption | intro _ | with_reducible apply Kept.wr | with_reducible apply bump_kept
      | with_reducible apply wrBit_kept | with_reducible apply acceptAlarms_kept | with_reducible apply Kept.clearOd
      | with_reducible apply Kept.ite | with_reducible apply Kept.ite_fst | simp (disch := first
      | exact May.or | exact Or.inr rfl) only [Kept.mk_eq, Kept.field_eq, Kept.cameo_eq] | split | dsimp only)

theorem changeSource_kept {chg : List Part} [May chg .od] [May chg .field] {r0 s : State} (h : Kept chg r0 s)  : Kept chg r0 (changeSource s) := by
  unfold changeSource
  repeat' (first
      | with_reducible assumption | intro _ | with_reducible apply Kept.wr | with_reducible apply alarmSafe_kept
      | with_reducible apply Kept.clearOd | with_reducible apply Kept.ite | with_reducible apply Kept.ite_fst
      | simp (disch := first | exact May.or | exact Or.inr rfl) only [Kept.mk_eq, Kept.field_eq, Kept.cameo_eq] | split
      | dsimp only)

theorem putSub'_kept {chg : List Part} [May chg .touch] {r0 s : State} (h : Kept chg r0 s) (p : Nat) (u : TouchSub) : Kept chg
    r0 (putSub' s p u) := by
  unfold putSub'
  repeat' (first
      | with_reducible assumption | intro _ | with_reducible apply Kept.wr | with_reducible apply setTouch_kept
      | with_reducible apply Kept.clearOd | with_reducible apply Kept.ite | with_reducible apply Kept.ite_fst
      | simp (disch := first | exact May.or | exact Or.inr rfl) only [Kept.mk_eq, Kept.field_eq, Kept.cameo_eq] | split
      | dsimp only)

theorem ringPut_kept {chg : List Part} [May chg .od] [May chg .mem] [May chg .ten] [May chg .field] [May chg .memc] {r0 s :
    State} (h : Kept chg r0 s) (p : Nat) (u : TouchSub) (m : TouchMsg) : Kept chg r0 (ringPut s p u m).1 := by
  unfold ringPut
  repeat' (first
      | with_reducible assumption | intro _ | with_reducible apply Kept.wr | with_reducible apply bump_kept
      | with_reducible apply winWr_kept | with_reducible apply windowViolation_kept | with_reducible apply Kept.clearOd
      | with_reducible apply Kept.ite | with_reducible apply Kept.ite_fst | simp (disch := first
      | exact May.or | exact Or.inr rfl) only [Kept.mk_eq, Kept.field_eq, Kept.cameo_eq] | split | dsimp only)

theorem putNext_kept {chg : List Part} [May chg .od] [May chg .mem] [May chg .ten] [May chg .field] [May chg .memc] {r0 : State}
    (p : Nat) (r : State × TouchSub × Bool) (m : TouchMsg) (h : Kept chg r0 r.1) :
    Kept chg r0 (putNext p r m).1 := by
  unfold putNext
  split
  · exact ringPut_kept h _ _ _
  · exact h

theorem resynced_kept {chg : List Part} {r0 : State} {r : State × TouchSub × Bool} (h : Kept chg r0 r.1) : Kept chg r0 (resynced r).1 := by
  unfold resynced
  split <;> exact h

theorem ringWrite_kept {chg : List Part} [May chg .od] [May chg .mem] [May chg .ten] [May chg .field] [May chg .memc] {r0 s :
    State} (h : Kept chg r0 s) (p : Nat) (u : TouchSub) (m : TouchMsg) :
    Kept chg r0 (ringWrite s p u m).1 := by
  unfold ringWrite
  split
  · exact putNext_kept p _ m (foldl_fst_kept (fun t x ht => putNext_kept p t x ht) (resynced_kept (ringPut_kept h _ _ _)))
  · exact ringPut_kept h _ _ _

theorem deliverTo_kept {chg : List Part} [May chg .out] [May chg .od] [May chg .mem] [May chg .ten] [May chg .clasp] [May chg
    .field] [May chg .ports] [May chg .touch] [May chg .memc] {r0 s : State} (h : Kept chg r0 s) (p : Nat) (l : List TouchMsg)
    (c : Nat) :
    Kept chg r0 (deliverTo s p l c).1 := by
  unfold deliverTo
  split
  · exact h
  · dsimp only
    split
    · refine setEvent_kept (putSub'_kept (foldl_fst_kept (fun t m ht => ?_) h) _ _) _ _
      split <;> first | exact ringWrite_kept ht _ _ _ | exact ht
    · refine putSub'_kept (foldl_fst_kept (fun t m ht => ?_) h) _ _
      split <;> first | exact ringWrite_kept ht _ _ _ | exact ht

theorem deliverAll_kept {chg : List Part} [May chg .out] [May chg .fwQueue] [May chg .od] [May chg .mem] [May chg .ten] [May chg
    .clasp] [May chg .field] [May chg .ports] [May chg .touch] [May chg .memc] {r0 s : State} (h : Kept chg r0 s) (p : Nat) (l :
    List TouchMsg) : Kept chg r0 (deliverAll s p l) := by
  have hf := fun (cs : List Nat) => foldl_fst_kept (r0 := r0) (l := cs) (a := (s, false))
    (f := fun (r : State × Bool) c => ((deliverTo r.1 p l c).1, r.2 || (deliverTo r.1 p l c).2))
    (fun t c ht => deliverTo_kept ht _ _ _) h
  unfold deliverAll
  dsimp only
  split
  · exact raise_kept (hf _) _ _
  · exact hf _

theorem toTrusted_kept {chg : List Part} [May chg .out] [May chg .touch] {r0 s : State} (h : Kept chg r0 s) (p : Nat) (l : List
    TouchMsg) : Kept chg r0 (toTrusted s p l) := by
  unfold toTrusted
  repeat' (first
      | with_reducible assumption | intro _ | with_reducible apply Kept.wr | with_reducible apply send_kept
      | with_reducible apply setTouch_kept | with_reducible apply Kept.foldl | with_reducible apply Kept.clearOd
      | with_reducible apply Kept.ite | with_reducible apply Kept.ite_fst | simp (disch := first
      | exact May.or | exact Or.inr rfl) only [Kept.mk_eq, Kept.field_eq, Kept.cameo_eq] | split | dsimp only)

theorem trustedResume_kept {chg : List Part} [May chg .out] [May chg .touch] {r0 s : State} (h : Kept chg r0 s) (p : Nat) : Kept
    chg r0 (trustedResume s p) := by
  unfold trustedResume
  repeat' (first
      | with_reducible assumption | intro _ | with_reducible apply Kept.wr | with_reducible apply send_kept
      | with_reducible apply setTouch_kept | with_reducible apply Kept.foldl | with_reducible apply Kept.clearOd
      | with_reducible apply Kept.ite | with_reducible apply Kept.ite_fst | simp (disch := first
      | exact May.or | exact Or.inr rfl) only [Kept.mk_eq, Kept.field_eq, Kept.cameo_eq] | split | dsimp only)

theorem deliver_kept {chg : List Part} [May chg .out] [May chg .fwQueue] [May chg .od] [May chg .mem] [May chg .ten] [May chg
    .clasp] [May chg .field] [May chg .ports] [May chg .touch] [May chg .memc] {r0 s : State} (h : Kept chg r0 s) (p : Nat) (l :
    List TouchMsg) : Kept chg r0 (deliver s p l) := by
  unfold deliver
  repeat' (first
      | with_reducible assumption | intro _ | with_reducible apply Kept.wr | with_reducible apply bumpBy_kept
      | with_reducible apply raise_kept | with_reducible apply setTouch_kept | with_reducible apply deliverAll_kept
      | with_reducible apply toTrusted_kept | with_reducible apply Kept.clearOd | with_reducible apply Kept.ite
      | with_reducible apply Kept.ite_fst | simp (disch := first
      | exact May.or | exact Or.inr rfl) only [Kept.mk_eq, Kept.field_eq, Kept.cameo_eq] | split | dsimp only)

theorem touchBacklog_kept {chg : List Part} [May chg .out] [May chg .fwQueue] [May chg .od] [May chg .mem] [May chg .ten] [May
    chg .clasp] [May chg .field] [May chg .ports] [May chg .touch] [May chg .memc] {r0 s : State} (h : Kept chg r0 s) (p : Nat)
    : Kept chg r0 (touchBacklog s p) := by
  unfold touchBacklog
  repeat' (first
      | with_reducible assumption | intro _ | with_reducible apply Kept.wr | with_reducible apply setTouch_kept
      | with_reducible apply deliverAll_kept | with_reducible apply Kept.clearOd | with_reducible apply Kept.ite
      | with_reducible apply Kept.ite_fst | simp (disch := first
      | exact May.or | exact Or.inr rfl) only [Kept.mk_eq, Kept.field_eq, Kept.cameo_eq] | split | dsimp only)

theorem writeImage_kept {chg : List Part} [May chg .od] {r0 s : State} (h : Kept chg r0 s) (p : Nat) : Kept chg r0 (writeImage s p) := by
  unfold writeImage
  repeat' (first
      | with_reducible assumption | intro _ | with_reducible apply Kept.wr | with_reducible apply Kept.foldl
      | with_reducible apply Kept.clearOd | with_reducible apply Kept.ite | with_reducible apply Kept.ite_fst
      | simp (disch := first | exact May.or | exact Or.inr rfl) only [Kept.mk_eq, Kept.field_eq, Kept.cameo_eq] | split
      | dsimp only)

theorem setPanelState_kept {chg : List Part} [May chg .out] [May chg .fwQueue] [May chg .od] [May chg .mem] [May chg .ten] [May
    chg .clasp] [May chg .field] [May chg .ports] [May chg .touch] [May chg .memc] {r0 s : State} (h : Kept chg r0 s) (p : Nat)
    (st : Nat) : Kept chg r0 (setPanelState s p st) := by
  unfold setPanelState
  repeat' (first
      | with_reducible assumption | intro _ | with_reducible apply Kept.wr | with_reducible apply deliver_kept
      | with_reducible apply Kept.clearOd | with_reducible apply Kept.ite | with_reducible apply Kept.ite_fst
      | simp (disch := first | exact May.or | exact Or.inr rfl) only [Kept.mk_eq, Kept.field_eq, Kept.cameo_eq] | split
      | dsimp only)

theorem setStartState_kept {chg : List Part} [May chg .out] [May chg .fwQueue] [May chg .od] [May chg .mem] [May chg .ten] [May
    chg .clasp] [May chg .field] [May chg .ports] [May chg .touch] [May chg .memc] {r0 s : State} (h : Kept chg r0 s) (p : Nat)
    (st : Nat) : Kept chg r0 (setStartState s p st) := by
  unfold setStartState
  repeat' (first
      | with_reducible assumption | intro _ | with_reducible apply Kept.wr | with_reducible apply raise_kept
      | with_reducible apply deliver_kept | with_reducible apply Kept.clearOd | with_reducible apply Kept.ite
      | with_reducible apply Kept.ite_fst | simp (disch := first
      | exact May.or | exact Or.inr rfl) only [Kept.mk_eq, Kept.field_eq, Kept.cameo_eq] | split | dsimp only)

theorem liftAll_kept {chg : List Part} [May chg .out] [May chg .fwQueue] [May chg .od] [May chg .mem] [May chg .ten] [May chg
    .clasp] [May chg .field] [May chg .ports] [May chg .touch] [May chg .memc] {r0 s : State} (h : Kept chg r0 s) (p : Nat)
    (reason : Nat) : Kept chg r0 (liftAll s p reason) := by
  unfold liftAll
  repeat' (first
      | with_reducible assumption | intro _ | with_reducible apply Kept.wr | with_reducible apply raise_kept
      | with_reducible apply setTouch_kept | with_reducible apply deliver_kept | with_reducible apply Kept.foldl
      | with_reducible apply Kept.clearOd | with_reducible apply Kept.ite | with_reducible apply Kept.ite_fst
      | simp (disch := first | exact May.or | exact Or.inr rfl) only [Kept.mk_eq, Kept.field_eq, Kept.cameo_eq] | split
      | dsimp only)

theorem stopPanel_kept {chg : List Part} [May chg .out] [May chg .fwQueue] [May chg .od] [May chg .mem] [May chg .ten] [May chg
    .clasp] [May chg .field] [May chg .ports] [May chg .touch] [May chg .memc] {r0 s : State} (h : Kept chg r0 s) (p : Nat) (st
    : Nat) : Kept chg r0 (stopPanel s p st) := by
  unfold stopPanel
  repeat' (first
      | with_reducible assumption | intro _ | with_reducible apply Kept.wr | with_reducible apply setTouch_kept
      | with_reducible apply writeImage_kept | with_reducible apply setPanelState_kept | with_reducible apply liftAll_kept
      | with_reducible apply Kept.clearOd | with_reducible apply Kept.ite | with_reducible apply Kept.ite_fst
      | simp (disch := first | exact May.or | exact Or.inr rfl) only [Kept.mk_eq, Kept.field_eq, Kept.cameo_eq] | split
      | dsimp only)

theorem answerApply_kept {chg : List Part} [May chg .clasp] [May chg .touch] {r0 s : State} (h : Kept chg r0 s) (p : Nat) : Kept
    chg r0 (answerApply s p) := by
  unfold answerApply
  repeat' (first
      | with_reducible assumption | intro _ | with_reducible apply Kept.wr | with_reducible apply iclComplete_kept
      | with_reducible apply setTouch_kept | with_reducible apply Kept.clearOd | with_reducible apply Kept.ite
      | with_reducible apply Kept.ite_fst | simp (disch := first
      | exact May.or | exact Or.inr rfl) only [Kept.mk_eq, Kept.field_eq, Kept.cameo_eq] | split | dsimp only)

theorem panelStart_kept {chg : List Part} [May chg .out] [May chg .fwQueue] [May chg .od] [May chg .dom] [May chg .mem] [May chg
    .ten] [May chg .clasp] [May chg .dict] [May chg .field] [May chg .ports] [May chg .touch] [May chg .memc] {r0 s : State} (h
    : Kept chg r0 s) (p : Nat) : Kept chg r0 (panelStart s p) := by
  unfold panelStart
  repeat' (first
      | with_reducible assumption | intro _ | with_reducible apply Kept.wr | with_reducible apply landWhere_kept
      | with_reducible apply setTouch_kept | with_reducible apply setPanelState_kept | with_reducible apply stopPanel_kept
      | with_reducible apply answerApply_kept | with_reducible apply Kept.clearOd | with_reducible apply Kept.ite
      | with_reducible apply Kept.ite_fst | simp (disch := first
      | exact May.or | exact Or.inr rfl) only [Kept.mk_eq, Kept.field_eq, Kept.cameo_eq] | split | dsimp only)

theorem recordFailures_kept {chg : List Part} [May chg .out] [May chg .fwQueue] [May chg .od] [May chg .field] {r0 s : State} (h
    : Kept chg r0 s) (p : Nat) (failed : List Nat) : Kept chg r0 (recordFailures s p failed) := by
  unfold recordFailures
  repeat' (first
      | with_reducible assumption | intro _ | with_reducible apply Kept.wr | with_reducible apply bump_kept
      | with_reducible apply wrBit_kept | with_reducible apply raise_kept | with_reducible apply endLasting_kept
      | with_reducible apply lastingEmcy_kept | with_reducible apply settleDevice_kept | with_reducible apply Kept.foldl
      | with_reducible apply Kept.clearOd | with_reducible apply Kept.ite | with_reducible apply Kept.ite_fst
      | simp (disch := first | exact May.or | exact Or.inr rfl) only [Kept.mk_eq, Kept.field_eq, Kept.cameo_eq] | split
      | dsimp only)

theorem beginCapture_kept {chg : List Part} [May chg .od] [May chg .touch] {r0 s : State} (h : Kept chg r0 s) (p : Nat) : Kept
    chg r0 (beginCapture s p) := by
  unfold beginCapture
  repeat' (first
      | with_reducible assumption | intro _ | with_reducible apply Kept.wr | with_reducible apply setTouch_kept
      | with_reducible apply Kept.clearOd | with_reducible apply Kept.ite | with_reducible apply Kept.ite_fst
      | simp (disch := first | exact May.or | exact Or.inr rfl) only [Kept.mk_eq, Kept.field_eq, Kept.cameo_eq] | split
      | dsimp only)

theorem referenceTestDone_kept {chg : List Part} [May chg .out] [May chg .fwQueue] [May chg .od] [May chg .mem] [May chg .ten]
    [May chg .clasp] [May chg .field] [May chg .ports] [May chg .touch] [May chg .memc] {r0 s : State} (h : Kept chg r0 s) (p :
    Nat) (results : List Nat) : Kept chg r0 (referenceTestDone s p results) := by
  unfold referenceTestDone
  repeat' (first
      | with_reducible assumption | intro _ | with_reducible apply Kept.wr | with_reducible apply setTouch_kept
      | with_reducible apply setPanelState_kept | with_reducible apply stopPanel_kept | with_reducible apply recordFailures_kept
      | with_reducible apply beginCapture_kept | with_reducible apply Kept.clearOd | with_reducible apply Kept.ite
      | with_reducible apply Kept.ite_fst | simp (disch := first
      | exact May.or | exact Or.inr rfl) only [Kept.mk_eq, Kept.field_eq, Kept.cameo_eq] | split | dsimp only)

theorem startSelftest_kept {chg : List Part} [May chg .od] [May chg .touch] {r0 s : State} (h : Kept chg r0 s) (p : Nat) : Kept
    chg r0 (startSelftest s p) := by
  unfold startSelftest
  repeat' (first
      | with_reducible assumption | intro _ | with_reducible apply Kept.wr | with_reducible apply setTouch_kept
      | with_reducible apply Kept.clearOd | with_reducible apply Kept.ite | with_reducible apply Kept.ite_fst
      | simp (disch := first | exact May.or | exact Or.inr rfl) only [Kept.mk_eq, Kept.field_eq, Kept.cameo_eq] | split
      | dsimp only)

theorem startCapture_kept {chg : List Part} [May chg .od] [May chg .touch] {r0 s : State} (h : Kept chg r0 s) (p : Nat) : Kept
    chg r0 (startCapture s p) := by
  unfold startCapture
  repeat' (first
      | with_reducible assumption | intro _ | with_reducible apply Kept.wr | with_reducible apply setTouch_kept
      | with_reducible apply beginCapture_kept | with_reducible apply Kept.clearOd | with_reducible apply Kept.ite
      | with_reducible apply Kept.ite_fst | simp (disch := first
      | exact May.or | exact Or.inr rfl) only [Kept.mk_eq, Kept.field_eq, Kept.cameo_eq] | split | dsimp only)

theorem touchScanStart_kept {chg : List Part} [May chg .out] [May chg .fwQueue] [May chg .od] [May chg .dom] [May chg .mem] [May
    chg .ten] [May chg .clasp] [May chg .dict] [May chg .field] [May chg .ports] [May chg .touch] [May chg .memc] {r0 s : State}
    (h : Kept chg r0 s) (p : Nat) : Kept chg r0 (touchScanStart s p) := by
  unfold touchScanStart
  repeat' (first
      | with_reducible assumption | intro _ | with_reducible apply Kept.wr | with_reducible apply landWhere_kept
      | with_reducible apply setTouch_kept | with_reducible apply setPanelState_kept | with_reducible apply answerApply_kept
      | with_reducible apply Kept.clearOd | with_reducible apply Kept.ite | with_reducible apply Kept.ite_fst
      | simp (disch := first | exact May.or | exact Or.inr rfl) only [Kept.mk_eq, Kept.field_eq, Kept.cameo_eq] | split
      | dsimp only)

theorem touchStepEnd_kept {chg : List Part} [May chg .touch] {r0 s : State} (h : Kept chg r0 s) (p : Nat) (samples : List Int) :
    Kept chg r0 (touchStepEnd s p samples) := by
  unfold touchStepEnd
  repeat' (first
      | with_reducible assumption | intro _ | with_reducible apply Kept.wr | with_reducible apply setTouch_kept
      | with_reducible apply Kept.clearOd | with_reducible apply Kept.ite | with_reducible apply Kept.ite_fst
      | simp (disch := first | exact May.or | exact Or.inr rfl) only [Kept.mk_eq, Kept.field_eq, Kept.cameo_eq] | split
      | dsimp only)

theorem hopDecision_kept {chg : List Part} [May chg .out] [May chg .fwQueue] [May chg .od] [May chg .touch] {r0 s : State} (h :
    Kept chg r0 s) (p : Nat) (steps : List (List Int)) : Kept chg r0 (hopDecision s p steps) := by
  unfold hopDecision
  repeat' (first
      | with_reducible assumption | intro _ | with_reducible apply Kept.wr | with_reducible apply bump_kept
      | with_reducible apply raise_kept | with_reducible apply setTouch_kept | with_reducible apply Kept.clearOd
      | with_reducible apply Kept.ite | with_reducible apply Kept.ite_fst | simp (disch := first
      | exact May.or | exact Or.inr rfl) only [Kept.mk_eq, Kept.field_eq, Kept.cameo_eq] | split | dsimp only)

theorem startScan_kept {chg : List Part} [May chg .out] [May chg .fwQueue] [May chg .od] [May chg .mem] [May chg .ten] [May chg
    .clasp] [May chg .field] [May chg .ports] [May chg .touch] [May chg .memc] {r0 s : State} (h : Kept chg r0 s) (p : Nat)
    (vals : List Int) : Kept chg r0 (startScan s p vals) := by
  unfold startScan
  repeat' (first
      | with_reducible assumption | intro _ | with_reducible apply Kept.wr | with_reducible apply setTouch_kept
      | with_reducible apply setStartState_kept | with_reducible apply Kept.clearOd | with_reducible apply Kept.ite
      | with_reducible apply Kept.ite_fst | simp (disch := first
      | exact May.or | exact Or.inr rfl) only [Kept.mk_eq, Kept.field_eq, Kept.cameo_eq] | split | dsimp only)

theorem settleStart_kept {chg : List Part} [May chg .out] [May chg .fwQueue] [May chg .od] [May chg .mem] [May chg .ten] [May
    chg .clasp] [May chg .field] [May chg .ports] [May chg .touch] [May chg .memc] {r0 s : State} (h : Kept chg r0 s) (p : Nat)
    (lifted : Bool) (negative : Bool) : Kept chg r0 (settleStart s p lifted negative) := by
  unfold settleStart
  repeat' (first
      | with_reducible assumption | intro _ | with_reducible apply Kept.wr | with_reducible apply setTouch_kept
      | with_reducible apply setStartState_kept | with_reducible apply Kept.clearOd | with_reducible apply Kept.ite
      | with_reducible apply Kept.ite_fst | simp (disch := first
      | exact May.or | exact Or.inr rfl) only [Kept.mk_eq, Kept.field_eq, Kept.cameo_eq] | split | dsimp only)

theorem captureScan_kept {chg : List Part} [May chg .od] [May chg .touch] {r0 s : State} (h : Kept chg r0 s) (p : Nat) (vals :
    List Int) (present : Bool) : Kept chg r0 (captureScan s p vals present) := by
  unfold captureScan
  repeat' (first
      | with_reducible assumption | intro _ | with_reducible apply Kept.wr | with_reducible apply setTouch_kept
      | with_reducible apply Kept.clearOd | with_reducible apply Kept.ite | with_reducible apply Kept.ite_fst
      | simp (disch := first | exact May.or | exact Or.inr rfl) only [Kept.mk_eq, Kept.field_eq, Kept.cameo_eq] | split
      | dsimp only)

theorem captureDone_kept {chg : List Part} [May chg .od] [May chg .dom] [May chg .touch] {r0 s : State} (h : Kept chg r0 s) (p :
    Nat) : Kept chg r0 (captureDone s p) := by
  unfold captureDone
  repeat' (first
      | with_reducible assumption | intro _ | with_reducible apply Kept.wr | with_reducible apply Kept.dput
      | with_reducible apply setTouch_kept | with_reducible apply Kept.clearOd | with_reducible apply Kept.ite
      | with_reducible apply Kept.ite_fst | simp (disch := first
      | exact May.or | exact Or.inr rfl) only [Kept.mk_eq, Kept.field_eq, Kept.cameo_eq] | split | dsimp only)

theorem runScan_kept {chg : List Part} [May chg .free] [May chg .out] [May chg .fwQueue] [May chg .od] [May chg .dom] [May chg
    .mem] [May chg .ten] [May chg .clasp] [May chg .field] [May chg .raster] [May chg .ports] [May chg .touch] [May chg .hap]
    [May chg .memc] [May chg .power] {r0 s : State} (h : Kept chg r0 s) (p : Nat) (vals : List Int) : Kept chg r0 (runScan s p
    vals) := by
  unfold runScan
  repeat' (first
      | with_reducible assumption | intro _ | with_reducible apply Kept.wr | with_reducible apply Kept.dput
      | with_reducible apply bumpBy_kept | with_reducible apply bump_kept | with_reducible apply raise_kept
      | with_reducible apply wake_kept | with_reducible apply setTouch_kept | with_reducible apply boundTouch_kept
      | with_reducible apply deliver_kept | with_reducible apply setPanelState_kept | with_reducible apply settleStart_kept
      | with_reducible apply captureScan_kept | with_reducible apply Kept.foldl | with_reducible apply Kept.clearOd
      | with_reducible apply Kept.ite | with_reducible apply Kept.ite_fst | simp (disch := first
      | exact May.or | exact Or.inr rfl) only [Kept.mk_eq, Kept.field_eq, Kept.cameo_eq] | split | dsimp only)

theorem touchReport_kept {chg : List Part} [May chg .free] [May chg .out] [May chg .fwQueue] [May chg .od] [May chg .dom] [May
    chg .mem] [May chg .ten] [May chg .clasp] [May chg .field] [May chg .raster] [May chg .ports] [May chg .touch] [May chg
    .hap] [May chg .memc] [May chg .power] {r0 s : State} (h : Kept chg r0 s) (p : Nat) : Kept chg r0 (touchReport s p) := by
  unfold touchReport
  repeat' (first
      | with_reducible assumption | intro _ | with_reducible apply Kept.wr | with_reducible apply bumpWrap_kept
      | with_reducible apply setTouch_kept | with_reducible apply writeImage_kept | with_reducible apply beginCapture_kept
      | with_reducible apply hopDecision_kept | with_reducible apply startScan_kept | with_reducible apply runScan_kept
      | with_reducible apply Kept.clearOd | with_reducible apply Kept.ite | with_reducible apply Kept.ite_fst
      | simp (disch := first | exact May.or | exact Or.inr rfl) only [Kept.mk_eq, Kept.field_eq, Kept.cameo_eq] | split
      | dsimp only)

theorem startVerifyTimeout_kept {chg : List Part} [May chg .out] [May chg .fwQueue] [May chg .od] [May chg .mem] [May chg .ten]
    [May chg .clasp] [May chg .field] [May chg .ports] [May chg .touch] [May chg .memc] {r0 s : State} (h : Kept chg r0 s) (p :
    Nat) : Kept chg r0 (startVerifyTimeout s p) := by
  unfold startVerifyTimeout
  repeat' (first
      | with_reducible assumption | intro _ | with_reducible apply Kept.wr | with_reducible apply setTouch_kept
      | with_reducible apply writeImage_kept | with_reducible apply setStartState_kept | with_reducible apply Kept.clearOd
      | with_reducible apply Kept.ite | with_reducible apply Kept.ite_fst | simp (disch := first
      | exact May.or | exact Or.inr rfl) only [Kept.mk_eq, Kept.field_eq, Kept.cameo_eq] | split | dsimp only)

theorem ackHoldReached_kept {chg : List Part} [May chg .out] [May chg .od] [May chg .touch] {r0 s : State} (h : Kept chg r0 s)
    (p : Nat) (contact : Nat) : Kept chg r0 (ackHoldReached s p contact) := by
  unfold ackHoldReached
  repeat' (first
      | with_reducible assumption | intro _ | with_reducible apply Kept.wr | with_reducible apply raiseTrusted_kept
      | with_reducible apply setTouch_kept | with_reducible apply Kept.clearOd | with_reducible apply Kept.ite
      | with_reducible apply Kept.ite_fst | simp (disch := first
      | exact May.or | exact Or.inr rfl) only [Kept.mk_eq, Kept.field_eq, Kept.cameo_eq] | split | dsimp only)

theorem enterSub_kept {chg : List Part} [May chg .out] [May chg .od] [May chg .mem] [May chg .ten] [May chg .clasp] [May chg
    .field] [May chg .ports] [May chg .touch] [May chg .memc] {r0 s : State} (h : Kept chg r0 s) (p : Nat) (u : TouchSub) : Kept
    chg r0 (enterSub s p u) := by
  unfold enterSub
  repeat' (first
      | with_reducible assumption | intro _ | with_reducible apply Kept.wr | with_reducible apply winWr_kept
      | with_reducible apply setTouch_kept | with_reducible apply deliverTo_kept | with_reducible apply Kept.clearOd
      | with_reducible apply Kept.ite | with_reducible apply Kept.ite_fst | simp (disch := first
      | exact May.or | exact Or.inr rfl) only [Kept.mk_eq, Kept.field_eq, Kept.cameo_eq] | split | dsimp only)

theorem leaveSub_kept {chg : List Part} [May chg .touch] {r0 s : State} (h : Kept chg r0 s) (p : Nat) (c : Nat) : Kept chg r0 (leaveSub s p c) := by
  unfold leaveSub
  repeat' (first
      | with_reducible assumption | intro _ | with_reducible apply Kept.wr | with_reducible apply setTouch_kept
      | with_reducible apply Kept.clearOd | with_reducible apply Kept.ite | with_reducible apply Kept.ite_fst
      | simp (disch := first | exact May.or | exact Or.inr rfl) only [Kept.mk_eq, Kept.field_eq, Kept.cameo_eq] | split
      | dsimp only)

theorem subscribeReq_kept {chg : List Part} [May chg .out] [May chg .od] [May chg .mem] [May chg .ten] [May chg .clasp] [May chg
    .field] [May chg .raster] [May chg .ports] [May chg .touch] [May chg .memc] [May chg .power] {r0 s : State} (h : Kept chg r0
    s) (c : Nat) (t : Taken) : Kept chg r0 (subscribeReq s c t) := by
  unfold subscribeReq
  repeat' (first
      | with_reducible assumption | intro _ | with_reducible apply Kept.wr | with_reducible apply ok_kept
      | with_reducible apply fail_kept | with_reducible apply denied_kept | with_reducible apply deniedAddr_kept
      | with_reducible apply withDomain_kept | with_reducible apply enterSub_kept | with_reducible apply Kept.clearOd
      | with_reducible apply Kept.ite | with_reducible apply Kept.ite_fst | simp (disch := first
      | exact May.or | exact Or.inr rfl) only [Kept.mk_eq, Kept.field_eq, Kept.cameo_eq] | split | dsimp only)

theorem unsubscribeReq_kept {chg : List Part} [May chg .od] [May chg .ten] [May chg .clasp] [May chg .field] [May chg .raster]
    [May chg .touch] [May chg .power] {r0 s : State} (h : Kept chg r0 s) (c : Nat) (t : Taken) : Kept chg r0 (unsubscribeReq s c
    t) := by
  unfold unsubscribeReq
  repeat' (first
      | with_reducible assumption | intro _ | with_reducible apply Kept.wr | with_reducible apply ok_kept
      | with_reducible apply fail_kept | with_reducible apply denied_kept | with_reducible apply withDomain_kept
      | with_reducible apply leaveSub_kept | with_reducible apply Kept.clearOd | with_reducible apply Kept.ite
      | with_reducible apply Kept.ite_fst | simp (disch := first
      | exact May.or | exact Or.inr rfl) only [Kept.mk_eq, Kept.field_eq, Kept.cameo_eq] | split | dsimp only)

theorem touchQueryReq_kept {chg : List Part} [May chg .od] [May chg .ten] [May chg .clasp] [May chg .field] {r0 s : State} (h :
    Kept chg r0 s) (c : Nat) (t : Taken) : Kept chg r0 (touchQueryReq s c t) := by
  unfold touchQueryReq
  repeat' (first
      | with_reducible assumption | intro _ | with_reducible apply Kept.wr | with_reducible apply ok_kept
      | with_reducible apply fail_kept | with_reducible apply denied_kept | with_reducible apply Kept.clearOd
      | with_reducible apply Kept.ite | with_reducible apply Kept.ite_fst | simp (disch := first
      | exact May.or | exact Or.inr rfl) only [Kept.mk_eq, Kept.field_eq, Kept.cameo_eq] | split | dsimp only)

theorem dropSubs_kept {chg : List Part} [May chg .touch] {r0 s : State} (h : Kept chg r0 s) (c : Nat) : Kept chg r0 (dropSubs s c) := by
  unfold dropSubs
  repeat' (first
      | with_reducible assumption | intro _ | with_reducible apply Kept.wr | with_reducible apply leaveSub_kept
      | with_reducible apply Kept.foldl | with_reducible apply Kept.clearOd | with_reducible apply Kept.ite
      | with_reducible apply Kept.ite_fst | simp (disch := first
      | exact May.or | exact Or.inr rfl) only [Kept.mk_eq, Kept.field_eq, Kept.cameo_eq] | split | dsimp only)

theorem iclApply_kept {chg : List Part} [May chg .clasp] [May chg .touch] {r0 s : State} (h : Kept chg r0 s) (p : Nat) : Kept
    chg r0 (iclApply s p) := by
  unfold iclApply
  repeat' (first
      | with_reducible assumption | intro _ | with_reducible apply Kept.wr | with_reducible apply iclComplete_kept
      | with_reducible apply setTouch_kept | with_reducible apply answerApply_kept | with_reducible apply Kept.clearOd
      | with_reducible apply Kept.ite | with_reducible apply Kept.ite_fst | simp (disch := first
      | exact May.or | exact Or.inr rfl) only [Kept.mk_eq, Kept.field_eq, Kept.cameo_eq] | split | dsimp only)

end Sys2Proof.Laws
end

