-- ==== Sys2Proof/Laws/KeptMemory.lean ====
section
/-! SUPPORT. What the operations of audio, the caches, the memory controller and the guests keep (Kept): one lemma an operation. -/

set_option linter.unusedSimpArgs false
set_option linter.all false

namespace Sys2Proof.Laws

open Sys2Proof Sys2Proof.Machine

theorem setMix_kept {chg : List Part} [May chg .audio] {r0 s : State} (h : Kept chg r0 s) (i : Nat) (x : MixIn) : Kept chg r0 (setMix s i x) := by
  unfold setMix
  repeat' (first
      | with_reducible assumption | intro _ | with_reducible apply Kept.wr | with_reducible apply Kept.clearOd
      | with_reducible apply Kept.ite | with_reducible apply Kept.ite_fst | simp (disch := first
      | exact May.or | exact Or.inr rfl) only [Kept.mk_eq, Kept.field_eq, Kept.cameo_eq] | split | dsimp only)

theorem setBus_kept {chg : List Part} [May chg .audio] {r0 s : State} (h : Kept chg r0 s) (b : Nat) (x : BusRec) : Kept chg r0 (setBus s b x) := by
  unfold setBus
  repeat' (first
      | with_reducible assumption | intro _ | with_reducible apply Kept.wr | with_reducible apply Kept.clearOd
      | with_reducible apply Kept.ite | with_reducible apply Kept.ite_fst | simp (disch := first
      | exact May.or | exact Or.inr rfl) only [Kept.mk_eq, Kept.field_eq, Kept.cameo_eq] | split | dsimp only)

theorem setTdm_kept {chg : List Part} [May chg .audio] {r0 s : State} (h : Kept chg r0 s) (n : Nat) (x : TdmRec) : Kept chg r0 (setTdm s n x) := by
  unfold setTdm
  repeat' (first
      | with_reducible assumption | intro _ | with_reducible apply Kept.wr | with_reducible apply Kept.clearOd
      | with_reducible apply Kept.ite | with_reducible apply Kept.ite_fst | simp (disch := first
      | exact May.or | exact Or.inr rfl) only [Kept.mk_eq, Kept.field_eq, Kept.cameo_eq] | split | dsimp only)

theorem setStream_kept {chg : List Part} [May chg .audio] {r0 s : State} (h : Kept chg r0 s) (n : Nat) (x : StreamRec) : Kept
    chg r0 (setStream s n x) := by
  unfold setStream
  repeat' (first
      | with_reducible assumption | intro _ | with_reducible apply Kept.wr | with_reducible apply Kept.clearOd
      | with_reducible apply Kept.ite | with_reducible apply Kept.ite_fst | simp (disch := first
      | exact May.or | exact Or.inr rfl) only [Kept.mk_eq, Kept.field_eq, Kept.cameo_eq] | split | dsimp only)

theorem setAsrcLevel_kept {chg : List Part} [May chg .audio] {r0 s : State} (h : Kept chg r0 s) (k : Nat) (v : Nat) : Kept chg
    r0 (setAsrcLevel s k v) := by
  unfold setAsrcLevel
  repeat' (first
      | with_reducible assumption | intro _ | with_reducible apply Kept.wr | with_reducible apply Kept.clearOd
      | with_reducible apply Kept.ite | with_reducible apply Kept.ite_fst | simp (disch := first
      | exact May.or | exact Or.inr rfl) only [Kept.mk_eq, Kept.field_eq, Kept.cameo_eq] | split | dsimp only)

theorem setFades_kept {chg : List Part} [May chg .audio] {r0 s : State} (h : Kept chg r0 s) (d : Nat) (l : List XFade) : Kept
    chg r0 (setFades s d l) := by
  unfold setFades
  repeat' (first
      | with_reducible assumption | intro _ | with_reducible apply Kept.wr | with_reducible apply Kept.clearOd
      | with_reducible apply Kept.ite | with_reducible apply Kept.ite_fst | simp (disch := first
      | exact May.or | exact Or.inr rfl) only [Kept.mk_eq, Kept.field_eq, Kept.cameo_eq] | split | dsimp only)

theorem relockAsrc_kept {chg : List Part} [May chg .od] [May chg .audio] {r0 s : State} (h : Kept chg r0 s) (k : Nat) : Kept chg
    r0 (relockAsrc s k) := by
  unfold relockAsrc
  repeat' (first
      | with_reducible assumption | intro _ | with_reducible apply Kept.wr | with_reducible apply bump_kept
      | with_reducible apply setAsrcLevel_kept | with_reducible apply Kept.clearOd | with_reducible apply Kept.ite
      | with_reducible apply Kept.ite_fst | simp (disch := first
      | exact May.or | exact Or.inr rfl) only [Kept.mk_eq, Kept.field_eq, Kept.cameo_eq] | split | dsimp only)

theorem startDomain_kept {chg : List Part} [May chg .od] [May chg .audio] {r0 s : State} (h : Kept chg r0 s) (d : Nat) : Kept
    chg r0 (startDomain s d) := by
  unfold startDomain
  repeat' (first
      | with_reducible assumption | intro _ | with_reducible apply Kept.wr | with_reducible apply relockAsrc_kept
      | with_reducible apply Kept.foldl | with_reducible apply Kept.clearOd | with_reducible apply Kept.ite
      | with_reducible apply Kept.ite_fst | simp (disch := first
      | exact May.or | exact Or.inr rfl) only [Kept.mk_eq, Kept.field_eq, Kept.cameo_eq] | split | dsimp only)

theorem settleDomain_kept {chg : List Part} [May chg .out] [May chg .fwQueue] [May chg .od] [May chg .audio] {r0 s : State} (h :
    Kept chg r0 s) (d : Nat) : Kept chg r0 (settleDomain s d) := by
  unfold settleDomain
  repeat' (first
      | with_reducible assumption | intro _ | with_reducible apply Kept.wr | with_reducible apply raise_kept
      | with_reducible apply startDomain_kept | with_reducible apply Kept.clearOd | with_reducible apply Kept.ite
      | with_reducible apply Kept.ite_fst | simp (disch := first
      | exact May.or | exact Or.inr rfl) only [Kept.mk_eq, Kept.field_eq, Kept.cameo_eq] | split | dsimp only)

theorem settleDomains_kept {chg : List Part} [May chg .out] [May chg .fwQueue] [May chg .od] [May chg .audio] {r0 s : State} (h
    : Kept chg r0 s)  : Kept chg r0 (settleDomains s) := by
  unfold settleDomains
  repeat' (first
      | with_reducible assumption | intro _ | with_reducible apply Kept.wr | with_reducible apply settleDomain_kept
      | with_reducible apply Kept.foldl | with_reducible apply Kept.clearOd | with_reducible apply Kept.ite
      | with_reducible apply Kept.ite_fst | simp (disch := first
      | exact May.or | exact Or.inr rfl) only [Kept.mk_eq, Kept.field_eq, Kept.cameo_eq] | split | dsimp only)

theorem settleAmps_kept {chg : List Part} [May chg .od] {r0 s : State} (h : Kept chg r0 s)  : Kept chg r0 (settleAmps s) := by
  unfold settleAmps
  repeat' (first
      | with_reducible assumption | intro _ | with_reducible apply Kept.wr | with_reducible apply Kept.clearOd
      | with_reducible apply Kept.ite | with_reducible apply Kept.ite_fst | simp (disch := first
      | exact May.or | exact Or.inr rfl) only [Kept.mk_eq, Kept.field_eq, Kept.cameo_eq] | split | dsimp only)

theorem settleGates_kept {chg : List Part} [May chg .od] {r0 s : State} (h : Kept chg r0 s)  : Kept chg r0 (settleGates s) := by
  unfold settleGates
  repeat' (first
      | with_reducible assumption | intro _ | with_reducible apply Kept.wr | with_reducible apply Kept.foldl
      | with_reducible apply Kept.clearOd | with_reducible apply Kept.ite | with_reducible apply Kept.ite_fst
      | simp (disch := first | exact May.or | exact Or.inr rfl) only [Kept.mk_eq, Kept.field_eq, Kept.cameo_eq] | split
      | dsimp only)

theorem restartPort_kept {chg : List Part} [May chg .out] [May chg .fwQueue] [May chg .od] [May chg .audio] {r0 s : State} (h :
    Kept chg r0 s) (n : Nat) : Kept chg r0 (restartPort s n) := by
  unfold restartPort
  repeat' (first
      | with_reducible assumption | intro _ | with_reducible apply Kept.wr | with_reducible apply setTdm_kept
      | with_reducible apply settleDomains_kept | with_reducible apply Kept.clearOd | with_reducible apply Kept.ite
      | with_reducible apply Kept.ite_fst | simp (disch := first
      | exact May.or | exact Or.inr rfl) only [Kept.mk_eq, Kept.field_eq, Kept.cameo_eq] | split | dsimp only)

theorem lockPort_kept {chg : List Part} [May chg .out] [May chg .fwQueue] [May chg .od] [May chg .audio] {r0 s : State} (h :
    Kept chg r0 s) (n : Nat) : Kept chg r0 (lockPort s n) := by
  unfold lockPort
  repeat' (first
      | with_reducible assumption | intro _ | with_reducible apply Kept.wr | with_reducible apply raise_kept
      | with_reducible apply setTdm_kept | with_reducible apply relockAsrc_kept | with_reducible apply settleDomains_kept
      | with_reducible apply Kept.foldl | with_reducible apply Kept.clearOd | with_reducible apply Kept.ite
      | with_reducible apply Kept.ite_fst | simp (disch := first
      | exact May.or | exact Or.inr rfl) only [Kept.mk_eq, Kept.field_eq, Kept.cameo_eq] | split | dsimp only)

theorem sendFrame_kept {chg : List Part} [May chg .free] [May chg .out] {r0 s : State} (h : Kept chg r0 s) (n : Nat) (pdm : List
    Int) : Kept chg r0 (sendFrame s n pdm) := by
  unfold sendFrame
  repeat' (first
      | with_reducible assumption | intro _ | with_reducible apply Kept.wr | with_reducible apply send_kept
      | with_reducible apply Kept.clearOd | with_reducible apply Kept.ite | with_reducible apply Kept.ite_fst
      | simp (disch := first | exact May.or | exact Or.inr rfl) only [Kept.mk_eq, Kept.field_eq, Kept.cameo_eq] | split
      | dsimp only)

theorem tdmFrameSync_kept {chg : List Part} [May chg .free] [May chg .out] [May chg .fwQueue] [May chg .od] [May chg .audio] {r0
    s : State} (h : Kept chg r0 s) (n : Nat) (samples : List Int) (pdm : List Int) : Kept chg r0 (tdmFrameSync s n samples pdm)
    := by
  unfold tdmFrameSync
  repeat' (first
      | with_reducible assumption | intro _ | with_reducible apply Kept.wr | with_reducible apply setTdm_kept
      | with_reducible apply settleDomains_kept | with_reducible apply settleGates_kept | with_reducible apply lockPort_kept
      | with_reducible apply sendFrame_kept | with_reducible apply Kept.clearOd | with_reducible apply Kept.ite
      | with_reducible apply Kept.ite_fst | simp (disch := first
      | exact May.or | exact Or.inr rfl) only [Kept.mk_eq, Kept.field_eq, Kept.cameo_eq] | split | dsimp only)

theorem tdmFrameMissing_kept {chg : List Part} [May chg .out] [May chg .fwQueue] [May chg .od] [May chg .audio] {r0 s : State}
    (h : Kept chg r0 s) (n : Nat) : Kept chg r0 (tdmFrameMissing s n) := by
  unfold tdmFrameMissing
  repeat' (first
      | with_reducible assumption | intro _ | with_reducible apply Kept.wr | with_reducible apply bump_kept
      | with_reducible apply raise_kept | with_reducible apply setTdm_kept | with_reducible apply settleDomains_kept
      | with_reducible apply Kept.clearOd | with_reducible apply Kept.ite | with_reducible apply Kept.ite_fst
      | simp (disch := first | exact May.or | exact Or.inr rfl) only [Kept.mk_eq, Kept.field_eq, Kept.cameo_eq] | split
      | dsimp only)

theorem refPhaseMatch_kept {chg : List Part} [May chg .out] [May chg .fwQueue] [May chg .od] [May chg .audio] {r0 s : State} (h
    : Kept chg r0 s) (d : Nat) (slip : Bool) : Kept chg r0 (refPhaseMatch s d slip) := by
  unfold refPhaseMatch
  repeat' (first
      | with_reducible assumption | intro _ | with_reducible apply Kept.wr | with_reducible apply bump_kept
      | with_reducible apply settleDomains_kept | with_reducible apply Kept.clearOd | with_reducible apply Kept.ite
      | with_reducible apply Kept.ite_fst | simp (disch := first
      | exact May.or | exact Or.inr rfl) only [Kept.mk_eq, Kept.field_eq, Kept.cameo_eq] | split | dsimp only)

theorem asrcLocked_kept {chg : List Part} [May chg .out] [May chg .fwQueue] [May chg .od] [May chg .audio] {r0 s : State} (h :
    Kept chg r0 s) (k : Nat) (ratio : Nat) : Kept chg r0 (asrcLocked s k ratio) := by
  unfold asrcLocked
  repeat' (first
      | with_reducible assumption | intro _ | with_reducible apply Kept.wr | with_reducible apply bump_kept
      | with_reducible apply raise_kept | with_reducible apply setAsrcLevel_kept | with_reducible apply Kept.clearOd
      | with_reducible apply Kept.ite | with_reducible apply Kept.ite_fst | simp (disch := first
      | exact May.or | exact Or.inr rfl) only [Kept.mk_eq, Kept.field_eq, Kept.cameo_eq] | split | dsimp only)

theorem setStreamState_kept {chg : List Part} [May chg .od] {r0 s : State} (h : Kept chg r0 s) (n : Nat) (st : Nat) : Kept chg
    r0 (setStreamState s n st) := by
  unfold setStreamState
  repeat' (first
      | with_reducible assumption | intro _ | with_reducible apply Kept.wr | with_reducible apply Kept.clearOd
      | with_reducible apply Kept.ite | with_reducible apply Kept.ite_fst | simp (disch := first
      | exact May.or | exact Or.inr rfl) only [Kept.mk_eq, Kept.field_eq, Kept.cameo_eq] | split | dsimp only)

theorem writeStreamHeader_kept {chg : List Part} [May chg .out] [May chg .mem] [May chg .clasp] [May chg .ports] [May chg .memc]
    {r0 s : State} (h : Kept chg r0 s) (n : Nat) : Kept chg r0 (writeStreamHeader s n) := by
  unfold writeStreamHeader
  repeat' (first
      | with_reducible assumption | intro _ | with_reducible apply Kept.wr | with_reducible apply winWr_kept
      | with_reducible apply setEvent_kept | with_reducible apply Kept.clearOd | with_reducible apply Kept.ite
      | with_reducible apply Kept.ite_fst | simp (disch := first
      | exact May.or | exact Or.inr rfl) only [Kept.mk_eq, Kept.field_eq, Kept.cameo_eq] | split | dsimp only)

theorem playBoundary_kept {chg : List Part} [May chg .out] [May chg .fwQueue] [May chg .od] [May chg .audio] {r0 s : State} (h :
    Kept chg r0 s) (n : Nat) (o : StreamOpen) : Kept chg r0 (playBoundary s n o) := by
  unfold playBoundary
  repeat' (first
      | with_reducible assumption | intro _ | with_reducible apply Kept.wr | with_reducible apply bump_kept
      | with_reducible apply raise_kept | with_reducible apply setStream_kept | with_reducible apply setStreamState_kept
      | with_reducible apply Kept.clearOd | with_reducible apply Kept.ite | with_reducible apply Kept.ite_fst
      | simp (disch := first | exact May.or | exact Or.inr rfl) only [Kept.mk_eq, Kept.field_eq, Kept.cameo_eq] | split
      | dsimp only)

theorem captureBoundary_kept {chg : List Part} [May chg .od] [May chg .mem] [May chg .audio] [May chg .memc] {r0 s : State} (h :
    Kept chg r0 s) (n : Nat) (o : StreamOpen) : Kept chg r0 (captureBoundary s n o) := by
  unfold captureBoundary
  repeat' (first
      | with_reducible assumption | intro _ | with_reducible apply Kept.wr | with_reducible apply winWr_kept
      | with_reducible apply setStream_kept | with_reducible apply setStreamState_kept | with_reducible apply Kept.clearOd
      | with_reducible apply Kept.ite | with_reducible apply Kept.ite_fst | simp (disch := first
      | exact May.or | exact Or.inr rfl) only [Kept.mk_eq, Kept.field_eq, Kept.cameo_eq] | split | dsimp only)

theorem streamBoundary_kept {chg : List Part} [May chg .out] [May chg .fwQueue] [May chg .od] [May chg .mem] [May chg .clasp]
    [May chg .ports] [May chg .audio] [May chg .memc] {r0 s : State} (h : Kept chg r0 s) (n : Nat) : Kept chg r0 (streamBoundary
    s n) := by
  unfold streamBoundary
  repeat' (first
      | with_reducible assumption | intro _ | with_reducible apply Kept.wr | with_reducible apply writeStreamHeader_kept
      | with_reducible apply playBoundary_kept | with_reducible apply captureBoundary_kept | with_reducible apply Kept.clearOd
      | with_reducible apply Kept.ite | with_reducible apply Kept.ite_fst | simp (disch := first
      | exact May.or | exact Or.inr rfl) only [Kept.mk_eq, Kept.field_eq, Kept.cameo_eq] | split | dsimp only)

theorem tickStream_kept {chg : List Part} [May chg .audio] {r0 s : State} (h : Kept chg r0 s) (d : Nat) (n : Nat) : Kept chg r0
    (tickStream s d n) := by
  unfold tickStream
  repeat' (first
      | with_reducible assumption | intro _ | with_reducible apply Kept.wr | with_reducible apply setStream_kept
      | with_reducible apply Kept.clearOd | with_reducible apply Kept.ite | with_reducible apply Kept.ite_fst
      | simp (disch := first | exact May.or | exact Or.inr rfl) only [Kept.mk_eq, Kept.field_eq, Kept.cameo_eq] | split
      | dsimp only)

theorem runInput_kept {chg : List Part} [May chg .audio] {r0 s : State} (h : Kept chg r0 s) (d : Nat) (pdm : List Int) (i : Nat)
    : Kept chg r0 (runInput s d pdm i) := by
  unfold runInput
  repeat' (first
      | with_reducible assumption | intro _ | with_reducible apply Kept.wr | with_reducible apply setMix_kept
      | with_reducible apply Kept.clearOd | with_reducible apply Kept.ite | with_reducible apply Kept.ite_fst
      | simp (disch := first | exact May.or | exact Or.inr rfl) only [Kept.mk_eq, Kept.field_eq, Kept.cameo_eq] | split
      | dsimp only)

theorem wakeBus_kept {chg : List Part} [May chg .od] [May chg .audio] {r0 s : State} (h : Kept chg r0 s) (b : Nat) : Kept chg r0 (wakeBus s b) := by
  unfold wakeBus
  repeat' (first
      | with_reducible assumption | intro _ | with_reducible apply Kept.wr | with_reducible apply setBus_kept
      | with_reducible apply Kept.clearOd | with_reducible apply Kept.ite | with_reducible apply Kept.ite_fst
      | simp (disch := first | exact May.or | exact Or.inr rfl) only [Kept.mk_eq, Kept.field_eq, Kept.cameo_eq] | split
      | dsimp only)

theorem landAudio_kept {chg : List Part} [May chg .od] [May chg .dom] [May chg .dict] [May chg .audio] {r0 s : State} (h : Kept
    chg r0 s) (p : Nat → Bool) : Kept chg r0 (landAudio s p) := by
  unfold landAudio
  repeat' (first
      | with_reducible assumption | intro _ | with_reducible apply Kept.wr | with_reducible apply landWhere_kept
      | with_reducible apply setMix_kept | with_reducible apply setBus_kept | with_reducible apply setFades_kept
      | with_reducible apply relockAsrc_kept | with_reducible apply settleAmps_kept | with_reducible apply settleGates_kept
      | with_reducible apply wakeBus_kept | with_reducible apply Kept.foldl | with_reducible apply Kept.clearOd
      | with_reducible apply Kept.ite | with_reducible apply Kept.ite_fst | simp (disch := first
      | exact May.or | exact Or.inr rfl) only [Kept.mk_eq, Kept.field_eq, Kept.cameo_eq] | split | dsimp only)

theorem setApplyWaits_kept {chg : List Part} [May chg .audio] {r0 s : State} (h : Kept chg r0 s) (n : Nat) (l : List Nat) : Kept
    chg r0 (setApplyWaits s n l) := by
  unfold setApplyWaits
  repeat' (first
      | with_reducible assumption | intro _ | with_reducible apply Kept.wr | with_reducible apply Kept.clearOd
      | with_reducible apply Kept.ite | with_reducible apply Kept.ite_fst | simp (disch := first
      | exact May.or | exact Or.inr rfl) only [Kept.mk_eq, Kept.field_eq, Kept.cameo_eq] | split | dsimp only)

theorem swapAtTick_kept {chg : List Part} [May chg .out] [May chg .fwQueue] [May chg .od] [May chg .dom] [May chg .clasp] [May
    chg .dict] [May chg .audio] {r0 s : State} (h : Kept chg r0 s) (d : Nat) : Kept chg r0 (swapAtTick s d) := by
  unfold swapAtTick
  repeat' (first
      | with_reducible assumption | intro _ | with_reducible apply Kept.wr | with_reducible apply bumpWrap_kept
      | with_reducible apply raise_kept | with_reducible apply iclComplete_kept | with_reducible apply landAudio_kept
      | with_reducible apply setApplyWaits_kept | with_reducible apply Kept.clearOd | with_reducible apply Kept.ite
      | with_reducible apply Kept.ite_fst | simp (disch := first
      | exact May.or | exact Or.inr rfl) only [Kept.mk_eq, Kept.field_eq, Kept.cameo_eq] | split | dsimp only)

theorem audioApply_kept {chg : List Part} [May chg .od] [May chg .dom] [May chg .clasp] [May chg .dict] [May chg .audio] {r0 s :
    State} (h : Kept chg r0 s) (n : Nat) : Kept chg r0 (audioApply s n) := by
  unfold audioApply
  repeat' (first
      | with_reducible assumption | intro _ | with_reducible apply Kept.wr | with_reducible apply iclComplete_kept
      | with_reducible apply landAudio_kept | with_reducible apply setApplyWaits_kept | with_reducible apply Kept.clearOd
      | with_reducible apply Kept.ite | with_reducible apply Kept.ite_fst | simp (disch := first
      | exact May.or | exact Or.inr rfl) only [Kept.mk_eq, Kept.field_eq, Kept.cameo_eq] | split | dsimp only)

theorem detectSilence_kept {chg : List Part} [May chg .out] [May chg .fwQueue] [May chg .od] [May chg .audio] {r0 s : State} (h
    : Kept chg r0 s) (b : Nat) (v : Int) : Kept chg r0 (detectSilence s b v) := by
  unfold detectSilence
  repeat' (first
      | with_reducible assumption | intro _ | with_reducible apply Kept.wr | with_reducible apply raise_kept
      | with_reducible apply setBus_kept | with_reducible apply Kept.clearOd | with_reducible apply Kept.ite
      | with_reducible apply Kept.ite_fst | simp (disch := first
      | exact May.or | exact Or.inr rfl) only [Kept.mk_eq, Kept.field_eq, Kept.cameo_eq] | split | dsimp only)

theorem runBus_kept {chg : List Part} [May chg .out] [May chg .fwQueue] [May chg .od] [May chg .audio] {r0 s : State} (h : Kept
    chg r0 s) (xs : List (Nat × Int)) (b : Nat) : Kept chg r0 (runBus xs s b) := by
  unfold runBus
  repeat' (first
      | with_reducible assumption | intro _ | with_reducible apply Kept.wr | with_reducible apply setBus_kept
      | with_reducible apply detectSilence_kept | with_reducible apply Kept.foldl | with_reducible apply Kept.clearOd
      | with_reducible apply Kept.ite | with_reducible apply Kept.ite_fst | simp (disch := first
      | exact May.or | exact Or.inr rfl) only [Kept.mk_eq, Kept.field_eq, Kept.cameo_eq] | split | dsimp only)

theorem tickFades_kept {chg : List Part} [May chg .audio] {r0 s : State} (h : Kept chg r0 s) (d : Nat) : Kept chg r0 (tickFades s d) := by
  unfold tickFades
  repeat' (first
      | with_reducible assumption | intro _ | with_reducible apply Kept.wr | with_reducible apply setTdm_kept
      | with_reducible apply setAsrcLevel_kept | with_reducible apply setFades_kept | with_reducible apply Kept.foldl
      | with_reducible apply Kept.clearOd | with_reducible apply Kept.ite | with_reducible apply Kept.ite_fst
      | simp (disch := first | exact May.or | exact Or.inr rfl) only [Kept.mk_eq, Kept.field_eq, Kept.cameo_eq] | split
      | dsimp only)

theorem sampleTick_kept {chg : List Part} [May chg .free] [May chg .out] [May chg .fwQueue] [May chg .od] [May chg .dom] [May
    chg .clasp] [May chg .dict] [May chg .audio] {r0 s : State} (h : Kept chg r0 s) (d : Nat) (pdm : List Int) : Kept chg r0
    (sampleTick s d pdm) := by
  unfold sampleTick
  repeat' (first
      | with_reducible assumption | intro _ | with_reducible apply Kept.wr | with_reducible apply settleAmps_kept
      | with_reducible apply settleGates_kept | with_reducible apply tickStream_kept | with_reducible apply runInput_kept
      | with_reducible apply swapAtTick_kept | with_reducible apply runBus_kept | with_reducible apply tickFades_kept
      | with_reducible apply Kept.foldl | with_reducible apply Kept.clearOd | with_reducible apply Kept.ite
      | with_reducible apply Kept.ite_fst | simp (disch := first
      | exact May.or | exact Or.inr rfl) only [Kept.mk_eq, Kept.field_eq, Kept.cameo_eq] | split | dsimp only)

theorem silenceExpiry_kept {chg : List Part} [May chg .out] [May chg .fwQueue] [May chg .od] {r0 s : State} (h : Kept chg r0 s)
    (b : Nat) : Kept chg r0 (silenceExpiry s b) := by
  unfold silenceExpiry
  repeat' (first
      | with_reducible assumption | intro _ | with_reducible apply Kept.wr | with_reducible apply bump_kept
      | with_reducible apply raise_kept | with_reducible apply settleAmps_kept | with_reducible apply settleGates_kept
      | with_reducible apply Kept.clearOd | with_reducible apply Kept.ite | with_reducible apply Kept.ite_fst
      | simp (disch := first | exact May.or | exact Or.inr rfl) only [Kept.mk_eq, Kept.field_eq, Kept.cameo_eq] | split
      | dsimp only)

theorem mclkbChange_kept {chg : List Part} [May chg .out] [May chg .fwQueue] [May chg .od] [May chg .audio] {r0 s : State} (h :
    Kept chg r0 s) (on : Bool) : Kept chg r0 (mclkbChange s on) := by
  unfold mclkbChange
  repeat' (first
      | with_reducible assumption | intro _ | with_reducible apply Kept.wr | with_reducible apply settleDomains_kept
      | with_reducible apply Kept.clearOd | with_reducible apply Kept.ite | with_reducible apply Kept.ite_fst
      | simp (disch := first | exact May.or | exact Or.inr rfl) only [Kept.mk_eq, Kept.field_eq, Kept.cameo_eq] | split
      | dsimp only)

theorem audioUp_kept {chg : List Part} [May chg .out] [May chg .fwQueue] [May chg .od] [May chg .audio] {r0 s : State} (h : Kept
    chg r0 s)  : Kept chg r0 (audioUp s) := by
  unfold audioUp
  repeat' (first
      | with_reducible assumption | intro _ | with_reducible apply Kept.wr | with_reducible apply relockAsrc_kept
      | with_reducible apply settleDomains_kept | with_reducible apply settleAmps_kept | with_reducible apply restartPort_kept
      | with_reducible apply wakeBus_kept | with_reducible apply Kept.foldl | with_reducible apply Kept.clearOd
      | with_reducible apply Kept.ite | with_reducible apply Kept.ite_fst | simp (disch := first
      | exact May.or | exact Or.inr rfl) only [Kept.mk_eq, Kept.field_eq, Kept.cameo_eq] | split | dsimp only)

theorem audioDown_kept {chg : List Part} [May chg .out] [May chg .fwQueue] [May chg .od] [May chg .mem] [May chg .clasp] [May
    chg .ports] [May chg .audio] [May chg .memc] {r0 s : State} (h : Kept chg r0 s)  : Kept chg r0 (audioDown s) := by
  unfold audioDown
  repeat' (first
      | with_reducible assumption | intro _ | with_reducible apply Kept.wr | with_reducible apply bump_kept
      | with_reducible apply raise_kept | with_reducible apply setMix_kept | with_reducible apply setBus_kept
      | with_reducible apply setTdm_kept | with_reducible apply setStream_kept | with_reducible apply setFades_kept
      | with_reducible apply relockAsrc_kept | with_reducible apply settleDomains_kept | with_reducible apply settleAmps_kept
      | with_reducible apply setStreamState_kept | with_reducible apply writeStreamHeader_kept | with_reducible apply Kept.foldl
      | with_reducible apply Kept.clearOd | with_reducible apply Kept.ite | with_reducible apply Kept.ite_fst
      | simp (disch := first | exact May.or | exact Or.inr rfl) only [Kept.mk_eq, Kept.field_eq, Kept.cameo_eq] | split
      | dsimp only)

theorem enterStream_kept {chg : List Part} [May chg .od] [May chg .mem] [May chg .audio] [May chg .memc] {r0 s : State} (h :
    Kept chg r0 s) (n : Nat) (o : StreamOpen) : Kept chg r0 (enterStream s n o) := by
  unfold enterStream
  repeat' (first
      | with_reducible assumption | intro _ | with_reducible apply Kept.wr | with_reducible apply winWr_kept
      | with_reducible apply setStream_kept | with_reducible apply setStreamState_kept | with_reducible apply Kept.clearOd
      | with_reducible apply Kept.ite | with_reducible apply Kept.ite_fst | simp (disch := first
      | exact May.or | exact Or.inr rfl) only [Kept.mk_eq, Kept.field_eq, Kept.cameo_eq] | split | dsimp only)

theorem leaveStream_kept {chg : List Part} [May chg .od] [May chg .audio] {r0 s : State} (h : Kept chg r0 s) (n : Nat) : Kept
    chg r0 (leaveStream s n) := by
  unfold leaveStream
  repeat' (first
      | with_reducible assumption | intro _ | with_reducible apply Kept.wr | with_reducible apply setStream_kept
      | with_reducible apply setStreamState_kept | with_reducible apply Kept.clearOd | with_reducible apply Kept.ite
      | with_reducible apply Kept.ite_fst | simp (disch := first
      | exact May.or | exact Or.inr rfl) only [Kept.mk_eq, Kept.field_eq, Kept.cameo_eq] | split | dsimp only)

theorem closeStream_kept {chg : List Part} [May chg .out] [May chg .od] [May chg .mem] [May chg .clasp] [May chg .ports] [May
    chg .audio] [May chg .memc] {r0 s : State} (h : Kept chg r0 s) (n : Nat) : Kept chg r0 (closeStream s n) := by
  unfold closeStream
  repeat' (first
      | with_reducible assumption | intro _ | with_reducible apply Kept.wr | with_reducible apply setStreamState_kept
      | with_reducible apply writeStreamHeader_kept | with_reducible apply leaveStream_kept | with_reducible apply Kept.clearOd
      | with_reducible apply Kept.ite | with_reducible apply Kept.ite_fst | simp (disch := first
      | exact May.or | exact Or.inr rfl) only [Kept.mk_eq, Kept.field_eq, Kept.cameo_eq] | split | dsimp only)

theorem streamOpenReq_kept {chg : List Part} [May chg .od] [May chg .mem] [May chg .ten] [May chg .clasp] [May chg .field] [May
    chg .raster] [May chg .audio] [May chg .memc] [May chg .power] {r0 s : State} (h : Kept chg r0 s) (c : Nat) (t : Taken) :
    Kept chg r0 (streamOpenReq s c t) := by
  unfold streamOpenReq
  repeat' (first
      | with_reducible assumption | intro _ | with_reducible apply Kept.wr | with_reducible apply ok_kept
      | with_reducible apply fail_kept | with_reducible apply denied_kept | with_reducible apply deniedAddr_kept
      | with_reducible apply withDomain_kept | with_reducible apply enterStream_kept | with_reducible apply Kept.clearOd
      | with_reducible apply Kept.ite | with_reducible apply Kept.ite_fst | simp (disch := first
      | exact May.or | exact Or.inr rfl) only [Kept.mk_eq, Kept.field_eq, Kept.cameo_eq] | split | dsimp only)

theorem streamCloseReq_kept {chg : List Part} [May chg .out] [May chg .od] [May chg .mem] [May chg .ten] [May chg .clasp] [May
    chg .field] [May chg .ports] [May chg .audio] [May chg .memc] {r0 s : State} (h : Kept chg r0 s) (c : Nat) (t : Taken) :
    Kept chg r0 (streamCloseReq s c t) := by
  unfold streamCloseReq
  repeat' (first
      | with_reducible assumption | intro _ | with_reducible apply Kept.wr | with_reducible apply ok_kept
      | with_reducible apply fail_kept | with_reducible apply denied_kept | with_reducible apply closeStream_kept
      | with_reducible apply Kept.clearOd | with_reducible apply Kept.ite | with_reducible apply Kept.ite_fst
      | simp (disch := first | exact May.or | exact Or.inr rfl) only [Kept.mk_eq, Kept.field_eq, Kept.cameo_eq] | split
      | dsimp only)

theorem streamQueryReq_kept {chg : List Part} [May chg .od] [May chg .ten] [May chg .clasp] [May chg .field] {r0 s : State} (h :
    Kept chg r0 s) (c : Nat) (t : Taken) : Kept chg r0 (streamQueryReq s c t) := by
  unfold streamQueryReq
  repeat' (first
      | with_reducible assumption | intro _ | with_reducible apply Kept.wr | with_reducible apply ok_kept
      | with_reducible apply fail_kept | with_reducible apply denied_kept | with_reducible apply Kept.clearOd
      | with_reducible apply Kept.ite | with_reducible apply Kept.ite_fst | simp (disch := first
      | exact May.or | exact Or.inr rfl) only [Kept.mk_eq, Kept.field_eq, Kept.cameo_eq] | split | dsimp only)

theorem dropStreams_kept {chg : List Part} [May chg .od] [May chg .audio] {r0 s : State} (h : Kept chg r0 s) (c : Nat) : Kept
    chg r0 (dropStreams s c) := by
  unfold dropStreams
  repeat' (first
      | with_reducible assumption | intro _ | with_reducible apply Kept.wr | with_reducible apply leaveStream_kept
      | with_reducible apply Kept.foldl | with_reducible apply Kept.clearOd | with_reducible apply Kept.ite
      | with_reducible apply Kept.ite_fst | simp (disch := first
      | exact May.or | exact Or.inr rfl) only [Kept.mk_eq, Kept.field_eq, Kept.cameo_eq] | split | dsimp only)

theorem setCpu_kept {chg : List Part} [May chg .control] {r0 s : State} (h : Kept chg r0 s) (k : Nat) (c : CpuRec) : Kept chg r0 (setCpu s k c) := by
  unfold setCpu
  repeat' (first
      | with_reducible assumption | intro _ | with_reducible apply Kept.wr | with_reducible apply Kept.clearOd
      | with_reducible apply Kept.ite | with_reducible apply Kept.ite_fst | simp (disch := first
      | exact May.or | exact Or.inr rfl) only [Kept.mk_eq, Kept.field_eq, Kept.cameo_eq] | split | dsimp only)

theorem setL2_kept {chg : List Part} [May chg .control] {r0 s : State} (h : Kept chg r0 s) (key : Nat) (c : Option CacheLine) :
    Kept chg r0 (setL2 s key c) := by
  unfold setL2
  repeat' (first
      | with_reducible assumption | intro _ | with_reducible apply Kept.wr | with_reducible apply Kept.clearOd
      | with_reducible apply Kept.ite | with_reducible apply Kept.ite_fst | simp (disch := first
      | exact May.or | exact Or.inr rfl) only [Kept.mk_eq, Kept.field_eq, Kept.cameo_eq] | split | dsimp only)

theorem writeBack_kept {chg : List Part} [May chg .mem] [May chg .memc] {r0 s : State} (h : Kept chg r0 s) (c : CacheLine) :
    Kept chg r0 (writeBack s c) := by
  unfold writeBack
  repeat' (first
      | with_reducible assumption | intro _ | with_reducible apply Kept.wr | with_reducible apply memWrAll_kept
      | with_reducible apply Kept.clearOd | with_reducible apply Kept.ite | with_reducible apply Kept.ite_fst
      | simp (disch := first | exact May.or | exact Or.inr rfl) only [Kept.mk_eq, Kept.field_eq, Kept.cameo_eq] | split
      | dsimp only)

theorem l2Allocate_kept {chg : List Part} [May chg .free] [May chg .mem] [May chg .memc] [May chg .control] {r0 s : State} (h :
    Kept chg r0 s) (trusted : Bool) (c : CacheLine) : Kept chg r0 (l2Allocate s trusted c) := by
  unfold l2Allocate
  repeat' (first
      | with_reducible assumption | intro _ | with_reducible apply Kept.wr | with_reducible apply drawn_kept
      | with_reducible apply setL2_kept | with_reducible apply writeBack_kept | with_reducible apply Kept.clearOd
      | with_reducible apply Kept.ite | with_reducible apply Kept.ite_fst | simp (disch := first
      | exact May.or | exact Or.inr rfl) only [Kept.mk_eq, Kept.field_eq, Kept.cameo_eq] | split | dsimp only)

theorem l1Evict_kept {chg : List Part} [May chg .mem] [May chg .memc] [May chg .control] {r0 s : State} (h : Kept chg r0 s) (k :
    Nat) (c : CacheLine) : Kept chg r0 (l1Evict s k c) := by
  unfold l1Evict
  repeat' (first
      | with_reducible assumption | intro _ | with_reducible apply Kept.wr | with_reducible apply setL2_kept
      | with_reducible apply writeBack_kept | with_reducible apply Kept.clearOd | with_reducible apply Kept.ite
      | with_reducible apply Kept.ite_fst | simp (disch := first
      | exact May.or | exact Or.inr rfl) only [Kept.mk_eq, Kept.field_eq, Kept.cameo_eq] | split | dsimp only)

theorem l1Fill_kept {chg : List Part} [May chg .free] [May chg .mem] [May chg .memc] [May chg .control] {r0 s : State} (h : Kept
    chg r0 s) (k : Nat) (fetch : Bool) (c : CacheLine) : Kept chg r0 (l1Fill s k fetch c) := by
  unfold l1Fill
  repeat' (first
      | with_reducible assumption | intro _ | with_reducible apply Kept.wr | with_reducible apply drawn_kept
      | with_reducible apply setCpu_kept | with_reducible apply l1Evict_kept | with_reducible apply Kept.clearOd
      | with_reducible apply Kept.ite | with_reducible apply Kept.ite_fst | simp (disch := first
      | exact May.or | exact Or.inr rfl) only [Kept.mk_eq, Kept.field_eq, Kept.cameo_eq] | split | dsimp only)

theorem flushL1_kept {chg : List Part} [May chg .mem] [May chg .memc] [May chg .control] {r0 s : State} (h : Kept chg r0 s) (k :
    Nat) : Kept chg r0 (flushL1 s k) := by
  unfold flushL1
  repeat' (first
      | with_reducible assumption | intro _ | with_reducible apply Kept.wr | with_reducible apply setCpu_kept
      | with_reducible apply l1Evict_kept | with_reducible apply Kept.foldl | with_reducible apply Kept.clearOd
      | with_reducible apply Kept.ite | with_reducible apply Kept.ite_fst | simp (disch := first
      | exact May.or | exact Or.inr rfl) only [Kept.mk_eq, Kept.field_eq, Kept.cameo_eq] | split | dsimp only)

theorem flushL2_kept {chg : List Part} [May chg .mem] [May chg .memc] [May chg .control] {r0 s : State} (h : Kept chg r0 s)  :
    Kept chg r0 (flushL2 s) := by
  unfold flushL2
  repeat' (first
      | with_reducible assumption | intro _ | with_reducible apply Kept.wr | with_reducible apply writeBack_kept
      | with_reducible apply Kept.foldl | with_reducible apply Kept.clearOd | with_reducible apply Kept.ite
      | with_reducible apply Kept.ite_fst | simp (disch := first
      | exact May.or | exact Or.inr rfl) only [Kept.mk_eq, Kept.field_eq, Kept.cameo_eq] | split | dsimp only)

theorem coreRead_kept {chg : List Part} [May chg .free] [May chg .out] [May chg .mem] [May chg .memc] [May chg .control] {r0 s t
    : State} {k line : Nat} {gate fetch : Bool} {l : List Byte} (h : Kept chg r0 s)
    (e : coreRead s k gate fetch line = some (t, l)) : Kept chg r0 t := by
  unfold coreRead at e
  dsimp only at e
  split at e
  · simp only [Option.some.injEq, Prod.mk.injEq] at e
    exact e.1 ▸ h
  · split at e
    · simp only [Option.some.injEq, Prod.mk.injEq] at e
      exact e.1 ▸ l1Fill_kept h _ _ _
    · exact nomatch e

theorem coreWrite_kept {chg : List Part} [May chg .out] [May chg .mem] [May chg .memc] [May chg .control] {r0 s t : State} {k
    line off : Nat} {gate : Bool} {bs : List Byte} (h : Kept chg r0 s)
    (e : coreWrite s k gate line off bs = some t) : Kept chg r0 t := by
  unfold coreWrite at e
  dsimp only at e
  split at e
  · exact Option.some.inj e ▸ setCpu_kept h _ _
  · split at e
    · exact Option.some.inj e ▸ setL2_kept h _ _
    · exact nomatch e

theorem coreFill_kept {chg : List Part} [May chg .free] [May chg .out] [May chg .mem] [May chg .memc] [May chg .control] {r0 s :
    State} (h : Kept chg r0 s) (k : Nat) (gate : Bool) (fetch : Bool) (line : Nat) (bs : List Byte) : Kept chg r0 (coreFill s k
    gate fetch line bs) := by
  unfold coreFill
  repeat' (first
      | with_reducible assumption | intro _ | with_reducible apply Kept.wr | with_reducible apply l2Allocate_kept
      | with_reducible apply l1Fill_kept | with_reducible apply Kept.clearOd | with_reducible apply Kept.ite
      | with_reducible apply Kept.ite_fst | simp (disch := first
      | exact May.or | exact Or.inr rfl) only [Kept.mk_eq, Kept.field_eq, Kept.cameo_eq] | split | dsimp only)

theorem lockControl_kept {chg : List Part} [May chg .free] [May chg .control] {r0 s : State} (h : Kept chg r0 s)  : Kept chg r0 (lockControl s) := by
  unfold lockControl
  repeat' (first
      | with_reducible assumption | intro _ | with_reducible apply Kept.wr | with_reducible apply setCpu_kept
      | with_reducible apply Kept.foldl | with_reducible apply Kept.clearOd | with_reducible apply Kept.ite
      | with_reducible apply Kept.ite_fst | simp (disch := first
      | exact May.or | exact Or.inr rfl) only [Kept.mk_eq, Kept.field_eq, Kept.cameo_eq] | split | dsimp only)

theorem gateRefused_kept {chg : List Part} [May chg .control] {r0 s : State} (h : Kept chg r0 s) (k : Nat) (a0 : Nat) : Kept chg
    r0 (gateRefused s k a0) := by
  unfold gateRefused
  repeat' (first
      | with_reducible assumption | intro _ | with_reducible apply Kept.wr | with_reducible apply setCpu_kept
      | with_reducible apply Kept.clearOd | with_reducible apply Kept.ite | with_reducible apply Kept.ite_fst
      | simp (disch := first | exact May.or | exact Or.inr rfl) only [Kept.mk_eq, Kept.field_eq, Kept.cameo_eq] | split
      | dsimp only)

theorem gateScrub_kept {chg : List Part} [May chg .mem] [May chg .memc] [May chg .control] {r0 s : State} (h : Kept chg r0 s) (k
    : Nat) (a0 : Nat) (a1 : Nat) : Kept chg r0 (gateScrub s k a0 a1) := by
  unfold gateScrub
  repeat' (first
      | with_reducible assumption | intro _ | with_reducible apply Kept.wr | with_reducible apply setCpu_kept
      | with_reducible apply flushL1_kept | with_reducible apply Kept.clearOd | with_reducible apply Kept.ite
      | with_reducible apply Kept.ite_fst | simp (disch := first
      | exact May.or | exact Or.inr rfl) only [Kept.mk_eq, Kept.field_eq, Kept.cameo_eq] | split | dsimp only)

theorem controlDown_kept {chg : List Part} [May chg .mem] [May chg .memc] [May chg .control] {r0 s : State} (h : Kept chg r0 s)
    : Kept chg r0 (controlDown s) := by
  unfold controlDown
  repeat' (first
      | with_reducible assumption | intro _ | with_reducible apply Kept.wr | with_reducible apply setCpu_kept
      | with_reducible apply flushL1_kept | with_reducible apply flushL2_kept | with_reducible apply Kept.foldl
      | with_reducible apply Kept.clearOd | with_reducible apply Kept.ite | with_reducible apply Kept.ite_fst
      | simp (disch := first | exact May.or | exact Or.inr rfl) only [Kept.mk_eq, Kept.field_eq, Kept.cameo_eq] | split
      | dsimp only)

theorem resetTc_kept {chg : List Part} [May chg .control] {r0 s : State} (h : Kept chg r0 s)  : Kept chg r0 (resetTc s) := by
  unfold resetTc
  repeat' (first
      | with_reducible assumption | intro _ | with_reducible apply Kept.wr | with_reducible apply setCpu_kept
      | with_reducible apply Kept.clearOd | with_reducible apply Kept.ite | with_reducible apply Kept.ite_fst
      | simp (disch := first | exact May.or | exact Or.inr rfl) only [Kept.mk_eq, Kept.field_eq, Kept.cameo_eq] | split
      | dsimp only)

theorem busStore_kept {chg : List Part} [May chg .mem] [May chg .memc] [May chg .control] {r0 s t : State} {a : Nat} {bs : List
    Byte} (h : Kept chg r0 s) (e : busStore s a bs = some t) :
    Kept chg r0 t := by
  unfold busStore at e
  dsimp only at e
  repeat' split at e
  all_goals first
    | contradiction
    | exact Option.some.inj e ▸ memWrAll_kept h _
    | (rw [← Option.some.inj e]; simp (disch := first | exact May.or | exact Or.inr rfl) only [Kept.mk_eq, Kept.field_eq, Kept.cameo_eq]; exact h)

theorem busRead_kept {chg : List Part} [May chg .od] [May chg .ten] [May chg .field] {r0 s : State} (h : Kept chg r0 s) (trusted
    : Bool) (a : Nat) (n : Nat) : Kept chg r0 (busRead s trusted a n).1 := by
  unfold busRead
  repeat' (first
      | with_reducible assumption | intro _ | with_reducible apply Kept.wr | with_reducible apply violate_kept
      | with_reducible apply Kept.clearOd | with_reducible apply Kept.ite | with_reducible apply Kept.ite_fst
      | simp (disch := first | exact May.or | exact Or.inr rfl) only [Kept.mk_eq, Kept.field_eq, Kept.cameo_eq] | split
      | dsimp only)

theorem busWrite_kept {chg : List Part} [May chg .od] [May chg .mem] [May chg .ten] [May chg .field] [May chg .memc] [May chg
    .control] {r0 s : State} (h : Kept chg r0 s) (trusted : Bool) (a : Nat) (bs : List Byte) :
    Kept chg r0 (busWrite s trusted a bs).1 := by
  unfold busWrite
  refine .ite_fst ?_ ?_
  · dsimp only
    exact violate_kept h _ _ _ _ _
  split
  · rename_i e
    exact busStore_kept h e
  · exact h

theorem settleLeaves_kept {chg : List Part} [May chg .od] {r0 s : State} (h : Kept chg r0 s)  : Kept chg r0 (settleLeaves s) := by
  unfold settleLeaves
  repeat' (first
      | with_reducible assumption | intro _ | with_reducible apply Kept.wr | with_reducible apply Kept.foldl
      | with_reducible apply Kept.clearOd | with_reducible apply Kept.ite | with_reducible apply Kept.ite_fst
      | simp (disch := first | exact May.or | exact Or.inr rfl) only [Kept.mk_eq, Kept.field_eq, Kept.cameo_eq] | split
      | dsimp only)

theorem setChan_kept {chg : List Part} [May chg .memc] {r0 s : State} (h : Kept chg r0 s) (ch : Nat) (c : ChanRec) : Kept chg r0
    (setChan s ch c) := by
  unfold setChan
  repeat' (first
      | with_reducible assumption | intro _ | with_reducible apply Kept.wr | with_reducible apply Kept.clearOd
      | with_reducible apply Kept.ite | with_reducible apply Kept.ite_fst | simp (disch := first
      | exact May.or | exact Or.inr rfl) only [Kept.mk_eq, Kept.field_eq, Kept.cameo_eq] | split | dsimp only)

theorem settleDown_kept {chg : List Part} [May chg .od] {r0 s : State} (h : Kept chg r0 s) (ch : Nat) : Kept chg r0 (settleDown s ch) := by
  unfold settleDown
  repeat' (first
      | with_reducible assumption | intro _ | with_reducible apply Kept.wr | with_reducible apply Kept.clearOd
      | with_reducible apply Kept.ite | with_reducible apply Kept.ite_fst | simp (disch := first
      | exact May.or | exact Or.inr rfl) only [Kept.mk_eq, Kept.field_eq, Kept.cameo_eq] | split | dsimp only)

theorem rouse_kept {chg : List Part} [May chg .od] [May chg .memc] {r0 s : State} (h : Kept chg r0 s) (ch : Nat) (r : Nat) :
    Kept chg r0 (rouse s ch r) := by
  unfold rouse
  repeat' (first
      | with_reducible assumption | intro _ | with_reducible apply Kept.wr | with_reducible apply setChan_kept
      | with_reducible apply settleDown_kept | with_reducible apply Kept.clearOd | with_reducible apply Kept.ite
      | with_reducible apply Kept.ite_fst | simp (disch := first
      | exact May.or | exact Or.inr rfl) only [Kept.mk_eq, Kept.field_eq, Kept.cameo_eq] | split | dsimp only)

theorem faultWhy_kept {chg : List Part} [May chg .free] [May chg .out] [May chg .fwQueue] [May chg .od] [May chg .dom] [May chg
    .mem] [May chg .ten] [May chg .clasp] [May chg .dict] [May chg .field] [May chg .raster] [May chg .compose] [May chg .heads]
    [May chg .ports] [May chg .cameo] [May chg .touch] [May chg .hap] [May chg .audio] [May chg .memc] [May chg .locket] [May
    chg .flash] [May chg .isl] [May chg .power] {r0 s : State} (h : Kept chg r0 s) (leaf : Leaf) (why : DramWhy) (kind : Nat) :
    Kept chg r0 (faultWhy s leaf why kind) := by
  unfold faultWhy
  repeat' (first
      | with_reducible assumption | intro _ | with_reducible apply Kept.wr | with_reducible apply faultRender_kept
      | with_reducible apply faultCompute_kept | with_reducible apply Kept.clearOd | with_reducible apply Kept.ite
      | with_reducible apply Kept.ite_fst | simp (disch := first
      | exact May.or | exact Or.inr rfl) only [Kept.mk_eq, Kept.field_eq, Kept.cameo_eq] | split | dsimp only)

theorem refuseReq_kept {chg : List Part} [May chg .free] [May chg .out] [May chg .fwQueue] [May chg .od] [May chg .dom] [May chg
    .mem] [May chg .ten] [May chg .clasp] [May chg .dict] [May chg .field] [May chg .raster] [May chg .compose] [May chg .heads]
    [May chg .ports] [May chg .cameo] [May chg .touch] [May chg .hap] [May chg .audio] [May chg .memc] [May chg .locket] [May
    chg .flash] [May chg .isl] [May chg .power] {r0 s : State} (h : Kept chg r0 s) (r : DramReq) (write : Bool) (kind : Nat)
    (path : Nat) : Kept chg r0 (refuseReq s r write kind path) := by
  unfold refuseReq
  repeat' (first
      | with_reducible assumption | intro _ | with_reducible apply Kept.wr | with_reducible apply send_kept
      | with_reducible apply violate_kept | with_reducible apply faultWhy_kept | with_reducible apply Kept.clearOd
      | with_reducible apply Kept.ite | with_reducible apply Kept.ite_fst | simp (disch := first
      | exact May.or | exact Or.inr rfl) only [Kept.mk_eq, Kept.field_eq, Kept.cameo_eq] | split | dsimp only)

theorem enterTx_kept {chg : List Part} [May chg .od] [May chg .memc] {r0 s : State} (h : Kept chg r0 s) (l : Leaf) (why :
    DramWhy) (a : Nat) (n : Nat) (data : Option (List Byte)) : Kept chg r0 (enterTx s l why a n data) := by
  unfold enterTx
  repeat' (first
      | with_reducible assumption | intro _ | with_reducible apply Kept.wr | with_reducible apply bump_kept
      | with_reducible apply rouse_kept | with_reducible apply Kept.clearOd | with_reducible apply Kept.ite
      | with_reducible apply Kept.ite_fst | simp (disch := first
      | exact May.or | exact Or.inr rfl) only [Kept.mk_eq, Kept.field_eq, Kept.cameo_eq] | split | dsimp only)

theorem dramEnter_kept {chg : List Part} [May chg .free] [May chg .out] [May chg .fwQueue] [May chg .od] [May chg .dom] [May chg
    .mem] [May chg .ten] [May chg .clasp] [May chg .dict] [May chg .field] [May chg .raster] [May chg .compose] [May chg .heads]
    [May chg .ports] [May chg .cameo] [May chg .touch] [May chg .hap] [May chg .audio] [May chg .memc] [May chg .locket] [May
    chg .flash] [May chg .isl] [May chg .power] {r0 s : State} (h : Kept chg r0 s) (r : DramReq) (data : Option (List Byte)) :
    Kept chg r0 (dramEnter s r data) := by
  unfold dramEnter
  repeat' (first
      | with_reducible assumption | intro _ | with_reducible apply Kept.wr | with_reducible apply send_kept
      | with_reducible apply settleLeaves_kept | with_reducible apply refuseReq_kept | with_reducible apply enterTx_kept
      | with_reducible apply Kept.foldl | with_reducible apply Kept.clearOd | with_reducible apply Kept.ite
      | with_reducible apply Kept.ite_fst | simp (disch := first
      | exact May.or | exact Or.inr rfl) only [Kept.mk_eq, Kept.field_eq, Kept.cameo_eq] | split | dsimp only)

theorem cacheBlock_kept {chg : List Part} [May chg .free] [May chg .out] [May chg .mem] [May chg .memc] [May chg .control] {r0 s
    t : State} {k : Nat} {gate fetch : Bool} {data : Option (List Byte)} {b : Nat × Nat × Nat}
    (h : Kept chg r0 s) (e : cacheBlock s k gate fetch data b = some t) : Kept chg r0 t := by
  unfold cacheBlock at e
  split at e
  · obtain ⟨u, hu, rfl⟩ := Option.map_eq_some_iff.mp e
    exact send_kept (coreWrite_kept h hu) _ _ _
  · obtain ⟨⟨u, l⟩, hu, rfl⟩ := Option.map_eq_some_iff.mp e
    exact send_kept (coreRead_kept h hu) _ _ _

theorem setArb_kept {chg : List Part} [May chg .ten] {r0 s : State} (h : Kept chg r0 s) (k : Nat) (a : ArbRec) : Kept chg r0 (setArb s k a) := by
  unfold setArb
  repeat' (first
      | with_reducible assumption | intro _ | with_reducible apply Kept.wr | with_reducible apply Kept.clearOd
      | with_reducible apply Kept.ite | with_reducible apply Kept.ite_fst | simp (disch := first
      | exact May.or | exact Or.inr rfl) only [Kept.mk_eq, Kept.field_eq, Kept.cameo_eq] | split | dsimp only)

theorem settleCredits_kept {chg : List Part} [May chg .ten] {r0 s : State} (h : Kept chg r0 s)  : Kept chg r0 (settleCredits s) := by
  unfold settleCredits
  repeat' (first
      | with_reducible assumption | intro _ | with_reducible apply Kept.wr | with_reducible apply Kept.clearOd
      | with_reducible apply Kept.ite | with_reducible apply Kept.ite_fst | simp (disch := first
      | exact May.or | exact Or.inr rfl) only [Kept.mk_eq, Kept.field_eq, Kept.cameo_eq] | split | dsimp only)

theorem setStage_kept {chg : List Part} [May chg .dict] [May chg .memc] {r0 s : State} (h : Kept chg r0 s) (id : Nat) (st : Nat)
    : Kept chg r0 (setStage s id st) := by
  unfold setStage
  repeat' (first
      | with_reducible assumption | intro _ | with_reducible apply Kept.wr | with_reducible apply Kept.clearOd
      | with_reducible apply Kept.ite | with_reducible apply Kept.ite_fst | simp (disch := first
      | exact May.or | exact Or.inr rfl) only [Kept.mk_eq, Kept.field_eq, Kept.cameo_eq] | split | dsimp only)

theorem decideClients_kept {chg : List Part} [May chg .ten] [May chg .dict] [May chg .memc] {r0 s : State} (h : Kept chg r0 s)
    (ch : Nat) (g : Nat) : Kept chg r0 (decideClients s ch g) := by
  unfold decideClients
  repeat' (first
      | with_reducible assumption | intro _ | with_reducible apply Kept.wr | with_reducible apply setArb_kept
      | with_reducible apply setStage_kept | with_reducible apply Kept.foldl | with_reducible apply Kept.clearOd
      | with_reducible apply Kept.ite | with_reducible apply Kept.ite_fst | simp (disch := first
      | exact May.or | exact Or.inr rfl) only [Kept.mk_eq, Kept.field_eq, Kept.cameo_eq] | split | dsimp only)

theorem decideGuests_kept {chg : List Part} [May chg .ten] [May chg .dict] [May chg .memc] {r0 s : State} (h : Kept chg r0 s)
    (ch : Nat) (cls : Nat) : Kept chg r0 (decideGuests s ch cls) := by
  unfold decideGuests
  repeat' (first
      | with_reducible assumption | intro _ | with_reducible apply Kept.wr | with_reducible apply setArb_kept
      | with_reducible apply setStage_kept | with_reducible apply Kept.clearOd | with_reducible apply Kept.ite
      | with_reducible apply Kept.ite_fst | simp (disch := first
      | exact May.or | exact Or.inr rfl) only [Kept.mk_eq, Kept.field_eq, Kept.cameo_eq] | split | dsimp only)

theorem decideClasses_kept {chg : List Part} [May chg .od] [May chg .ten] [May chg .dict] [May chg .memc] {r0 s : State} (h :
    Kept chg r0 s) (ch : Nat) : Kept chg r0 (decideClasses s ch) := by
  unfold decideClasses
  repeat' (first
      | with_reducible assumption | intro _ | with_reducible apply Kept.wr | with_reducible apply settleLeaves_kept
      | with_reducible apply setChan_kept | with_reducible apply setArb_kept | with_reducible apply settleCredits_kept
      | with_reducible apply setStage_kept | with_reducible apply Kept.clearOd | with_reducible apply Kept.ite
      | with_reducible apply Kept.ite_fst | simp (disch := first
      | exact May.or | exact Or.inr rfl) only [Kept.mk_eq, Kept.field_eq, Kept.cameo_eq] | split | dsimp only)

theorem windowEnd_kept {chg : List Part} [May chg .ten] {r0 s : State} (h : Kept chg r0 s) (ch : Nat) : Kept chg r0 (windowEnd s ch) := by
  unfold windowEnd
  repeat' (first
      | with_reducible assumption | intro _ | with_reducible apply Kept.wr | with_reducible apply Kept.foldl
      | with_reducible apply Kept.clearOd | with_reducible apply Kept.ite | with_reducible apply Kept.ite_fst
      | simp (disch := first | exact May.or | exact Or.inr rfl) only [Kept.mk_eq, Kept.field_eq, Kept.cameo_eq] | split
      | dsimp only)

theorem memLog_kept {chg : List Part} [May chg .od] [May chg .memc] {r0 s : State} (h : Kept chg r0 s) (t : DramTx) (kind : Nat)
    (syndrome : Nat) : Kept chg r0 (memLog s t kind syndrome) := by
  unfold memLog
  repeat' (first
      | with_reducible assumption | intro _ | with_reducible apply Kept.wr | with_reducible apply ringEnter_kept
      | with_reducible apply Kept.clearOd | with_reducible apply Kept.ite | with_reducible apply Kept.ite_fst
      | simp (disch := first | exact May.or | exact Or.inr rfl) only [Kept.mk_eq, Kept.field_eq, Kept.cameo_eq] | split
      | dsimp only)

theorem memCorrected_kept {chg : List Part} [May chg .out] [May chg .fwQueue] [May chg .od] [May chg .memc] {r0 s : State} (h :
    Kept chg r0 s) (t : DramTx) (key : Nat) : Kept chg r0 (memCorrected s t key) := by
  unfold memCorrected
  repeat' (first
      | with_reducible assumption | intro _ | with_reducible apply Kept.wr | with_reducible apply bump_kept
      | with_reducible apply raise_kept | with_reducible apply setChan_kept | with_reducible apply Kept.clearOd
      | with_reducible apply Kept.ite | with_reducible apply Kept.ite_fst | simp (disch := first
      | exact May.or | exact Or.inr rfl) only [Kept.mk_eq, Kept.field_eq, Kept.cameo_eq] | split | dsimp only)

theorem memUncorrected_kept {chg : List Part} [May chg .out] [May chg .fwQueue] [May chg .od] [May chg .field] [May chg .memc]
    {r0 s : State} (h : Kept chg r0 s) (t : DramTx) (kind : Nat) (syndrome : Nat) : Kept chg r0 (memUncorrected s t kind
    syndrome) := by
  unfold memUncorrected
  repeat' (first
      | with_reducible assumption | intro _ | with_reducible apply Kept.wr | with_reducible apply bump_kept
      | with_reducible apply raise_kept | with_reducible apply emcy_kept | with_reducible apply memLog_kept
      | with_reducible apply Kept.clearOd | with_reducible apply Kept.ite | with_reducible apply Kept.ite_fst
      | simp (disch := first | exact May.or | exact Or.inr rfl) only [Kept.mk_eq, Kept.field_eq, Kept.cameo_eq] | split
      | dsimp only)

theorem retireTx_kept {chg : List Part} [May chg .memc] {r0 s : State} (h : Kept chg r0 s) (id : Nat) : Kept chg r0 (retireTx s id) := by
  unfold retireTx
  repeat' (first
      | with_reducible assumption | intro _ | with_reducible apply Kept.wr | with_reducible apply Kept.clearOd
      | with_reducible apply Kept.ite | with_reducible apply Kept.ite_fst | simp (disch := first
      | exact May.or | exact Or.inr rfl) only [Kept.mk_eq, Kept.field_eq, Kept.cameo_eq] | split | dsimp only)

theorem loseCameraLine_kept {chg : List Part} [May chg .clasp] [May chg .ports] {r0 s : State} (h : Kept chg r0 s) (l : Leaf) :
    Kept chg r0 (loseCameraLine s l) := by
  unfold loseCameraLine
  repeat' (first
      | with_reducible assumption | intro _ | with_reducible apply Kept.wr | with_reducible apply ok_kept
      | with_reducible apply setRx_kept | with_reducible apply Kept.clearOd | with_reducible apply Kept.ite
      | with_reducible apply Kept.ite_fst | simp (disch := first
      | exact May.or | exact Or.inr rfl) only [Kept.mk_eq, Kept.field_eq, Kept.cameo_eq] | split | dsimp only)

theorem loseFetch_kept {chg : List Part} [May chg .heads] {r0 s : State} (h : Kept chg r0 s) (l : Leaf) (why : DramWhy) : Kept
    chg r0 (loseFetch s l why) := by
  unfold loseFetch
  repeat' (first
      | with_reducible assumption | intro _ | with_reducible apply Kept.wr | with_reducible apply setHead_kept
      | with_reducible apply Kept.clearOd | with_reducible apply Kept.ite | with_reducible apply Kept.ite_fst
      | simp (disch := first | exact May.or | exact Or.inr rfl) only [Kept.mk_eq, Kept.field_eq, Kept.cameo_eq] | split
      | dsimp only)

theorem readError_kept {chg : List Part} [May chg .free] [May chg .out] [May chg .fwQueue] [May chg .od] [May chg .dom] [May chg
    .mem] [May chg .ten] [May chg .clasp] [May chg .dict] [May chg .field] [May chg .raster] [May chg .compose] [May chg .heads]
    [May chg .ports] [May chg .cameo] [May chg .touch] [May chg .hap] [May chg .audio] [May chg .memc] [May chg .locket] [May
    chg .flash] [May chg .isl] [May chg .power] {r0 s : State} (h : Kept chg r0 s) (t : DramTx) : Kept chg r0 (readError s t) :=
    by
  unfold readError
  repeat' (first
      | with_reducible assumption | intro _ | with_reducible apply Kept.wr | with_reducible apply send_kept
      | with_reducible apply faultWhy_kept | with_reducible apply loseFetch_kept | with_reducible apply Kept.clearOd
      | with_reducible apply Kept.ite | with_reducible apply Kept.ite_fst | simp (disch := first
      | exact May.or | exact Or.inr rfl) only [Kept.mk_eq, Kept.field_eq, Kept.cameo_eq] | split | dsimp only)

theorem writeError_kept {chg : List Part} [May chg .free] [May chg .out] [May chg .fwQueue] [May chg .od] [May chg .dom] [May
    chg .mem] [May chg .ten] [May chg .clasp] [May chg .dict] [May chg .field] [May chg .raster] [May chg .compose] [May chg
    .heads] [May chg .ports] [May chg .cameo] [May chg .touch] [May chg .hap] [May chg .audio] [May chg .memc] [May chg .locket]
    [May chg .flash] [May chg .isl] [May chg .power] {r0 s : State} (h : Kept chg r0 s) (t : DramTx) : Kept chg r0 (writeError s
    t) := by
  unfold writeError
  repeat' (first
      | with_reducible assumption | intro _ | with_reducible apply Kept.wr | with_reducible apply send_kept
      | with_reducible apply faultWhy_kept | with_reducible apply loseCameraLine_kept | with_reducible apply Kept.clearOd
      | with_reducible apply Kept.ite | with_reducible apply Kept.ite_fst | simp (disch := first
      | exact May.or | exact Or.inr rfl) only [Kept.mk_eq, Kept.field_eq, Kept.cameo_eq] | split | dsimp only)

theorem returnBytes_kept {chg : List Part} [May chg .free] [May chg .out] [May chg .mem] [May chg .memc] [May chg .control] {r0
    s : State} (h : Kept chg r0 s) (t : DramTx) (bs : List Byte) : Kept chg r0 (returnBytes s t bs) := by
  unfold returnBytes
  repeat' (first
      | with_reducible assumption | intro _ | with_reducible apply Kept.wr | with_reducible apply send_kept
      | with_reducible apply coreFill_kept | with_reducible apply Kept.clearOd | with_reducible apply Kept.ite
      | with_reducible apply Kept.ite_fst | simp (disch := first
      | exact May.or | exact Or.inr rfl) only [Kept.mk_eq, Kept.field_eq, Kept.cameo_eq] | split | dsimp only)

theorem readData_kept {chg : List Part} [May chg .free] [May chg .out] [May chg .mem] [May chg .memc] [May chg .control] {r0 s :
    State} (h : Kept chg r0 s) (t : DramTx) : Kept chg r0 (readData s t) := by
  unfold readData
  repeat' (first
      | with_reducible assumption | intro _ | with_reducible apply Kept.wr | with_reducible apply returnBytes_kept
      | with_reducible apply Kept.clearOd | with_reducible apply Kept.ite | with_reducible apply Kept.ite_fst
      | simp (disch := first | exact May.or | exact Or.inr rfl) only [Kept.mk_eq, Kept.field_eq, Kept.cameo_eq] | split
      | dsimp only)

theorem readFree_kept {chg : List Part} [May chg .free] [May chg .out] [May chg .mem] [May chg .memc] [May chg .control] {r0 s :
    State} (h : Kept chg r0 s) (t : DramTx) : Kept chg r0 (readFree s t) := by
  unfold readFree
  repeat' (first
      | with_reducible assumption | intro _ | with_reducible apply Kept.wr | with_reducible apply drawn_kept
      | with_reducible apply returnBytes_kept | with_reducible apply Kept.clearOd | with_reducible apply Kept.ite
      | with_reducible apply Kept.ite_fst | simp (disch := first
      | exact May.or | exact Or.inr rfl) only [Kept.mk_eq, Kept.field_eq, Kept.cameo_eq] | split | dsimp only)

theorem storeTx_kept {chg : List Part} [May chg .mem] {r0 s : State} (h : Kept chg r0 s) (t : DramTx) : Kept chg r0 (storeTx s t) := by
  have hf : ∀ (l : List Nat) (m : List Host.Cell), twf memDefault m = true →
      twf memDefault (l.foldl (fun m i => match at0 none t.data i with
        | some v => tset memDefault m (t.addr + i) v
        | none => m) m) = true := by
    intro l
    induction l with
    | nil => exact fun m hm => hm
    | cons x l ih =>
      intro m hm
      refine ih _ ?_
      dsimp only
      split
      · exact twf_tset _ _ _ _ hm
      · exact hm
  exact h.memOnly _ (hf _ _)

theorem issueTx_kept {chg : List Part} [May chg .free] [May chg .out] [May chg .fwQueue] [May chg .od] [May chg .dom] [May chg
    .mem] [May chg .ten] [May chg .clasp] [May chg .dict] [May chg .field] [May chg .raster] [May chg .compose] [May chg .heads]
    [May chg .ports] [May chg .cameo] [May chg .touch] [May chg .hap] [May chg .audio] [May chg .memc] [May chg .control] [May
    chg .locket] [May chg .flash] [May chg .isl] [May chg .power] {r0 s : State} (h : Kept chg r0 s) (t : DramTx) (err :
    DramErr) (syndrome : Nat) : Kept chg r0 (issueTx s t err syndrome) := by
  unfold issueTx
  repeat' (first
      | with_reducible assumption | intro _ | with_reducible apply Kept.wr | with_reducible apply bump_kept
      | with_reducible apply raise_kept | with_reducible apply memLog_kept | with_reducible apply memCorrected_kept
      | with_reducible apply memUncorrected_kept | with_reducible apply retireTx_kept | with_reducible apply readError_kept
      | with_reducible apply writeError_kept | with_reducible apply readData_kept | with_reducible apply readFree_kept
      | with_reducible apply storeTx_kept | with_reducible apply Kept.clearOd | with_reducible apply Kept.ite
      | with_reducible apply Kept.ite_fst | simp (disch := first
      | exact May.or | exact Or.inr rfl) only [Kept.mk_eq, Kept.field_eq, Kept.cameo_eq] | split | dsimp only)

theorem refreshAll_kept {chg : List Part} [May chg .memc] {r0 s : State} (h : Kept chg r0 s) (ch : Nat) (r : Nat) : Kept chg r0
    (refreshAll s ch r) := by
  unfold refreshAll
  repeat' (first
      | with_reducible assumption | intro _ | with_reducible apply Kept.wr | with_reducible apply setChan_kept
      | with_reducible apply Kept.clearOd | with_reducible apply Kept.ite | with_reducible apply Kept.ite_fst
      | simp (disch := first | exact May.or | exact Or.inr rfl) only [Kept.mk_eq, Kept.field_eq, Kept.cameo_eq] | split
      | dsimp only)

theorem refreshBank_kept {chg : List Part} [May chg .memc] {r0 s : State} (h : Kept chg r0 s) (ch : Nat) (r : Nat) : Kept chg r0
    (refreshBank s ch r) := by
  unfold refreshBank
  repeat' (first
      | with_reducible assumption | intro _ | with_reducible apply Kept.wr | with_reducible apply setChan_kept
      | with_reducible apply Kept.clearOd | with_reducible apply Kept.ite | with_reducible apply Kept.ite_fst
      | simp (disch := first | exact May.or | exact Or.inr rfl) only [Kept.mk_eq, Kept.field_eq, Kept.cameo_eq] | split
      | dsimp only)

theorem refreshAccrual_kept {chg : List Part} [May chg .od] [May chg .memc] {r0 s : State} (h : Kept chg r0 s) (ch : Nat) (r :
    Nat) : Kept chg r0 (refreshAccrual s ch r) := by
  unfold refreshAccrual
  repeat' (first
      | with_reducible assumption | intro _ | with_reducible apply Kept.wr | with_reducible apply setChan_kept
      | with_reducible apply Kept.clearOd | with_reducible apply Kept.ite | with_reducible apply Kept.ite_fst
      | simp (disch := first | exact May.or | exact Or.inr rfl) only [Kept.mk_eq, Kept.field_eq, Kept.cameo_eq] | split
      | dsimp only)

theorem settleRate_kept {chg : List Part} [May chg .od] {r0 s : State} (h : Kept chg r0 s) (ch : Nat) : Kept chg r0 (settleRate s ch) := by
  unfold settleRate
  repeat' (first
      | with_reducible assumption | intro _ | with_reducible apply Kept.wr | with_reducible apply Kept.foldl
      | with_reducible apply Kept.clearOd | with_reducible apply Kept.ite | with_reducible apply Kept.ite_fst
      | simp (disch := first | exact May.or | exact Or.inr rfl) only [Kept.mk_eq, Kept.field_eq, Kept.cameo_eq] | split
      | dsimp only)

theorem setMult_kept {chg : List Part} [May chg .out] [May chg .fwQueue] [May chg .od] [May chg .memc] {r0 s : State} (h : Kept
    chg r0 s) (ch : Nat) (r : Nat) (m : Nat) : Kept chg r0 (setMult s ch r m) := by
  unfold setMult
  repeat' (first
      | with_reducible assumption | intro _ | with_reducible apply Kept.wr | with_reducible apply bump_kept
      | with_reducible apply raise_kept | with_reducible apply setChan_kept | with_reducible apply settleRate_kept
      | with_reducible apply Kept.clearOd | with_reducible apply Kept.ite | with_reducible apply Kept.ite_fst
      | simp (disch := first | exact May.or | exact Or.inr rfl) only [Kept.mk_eq, Kept.field_eq, Kept.cameo_eq] | split
      | dsimp only)

theorem mr4Read_kept {chg : List Part} [May chg .out] [May chg .fwQueue] [May chg .od] [May chg .memc] {r0 s : State} (h : Kept
    chg r0 s) (ch : Nat) (r : Nat) (asks : Nat) (drifted : Bool) : Kept chg r0 (mr4Read s ch r asks drifted) := by
  unfold mr4Read
  repeat' (first
      | with_reducible assumption | intro _ | with_reducible apply Kept.wr | with_reducible apply bump_kept
      | with_reducible apply setChan_kept | with_reducible apply setMult_kept | with_reducible apply Kept.clearOd
      | with_reducible apply Kept.ite | with_reducible apply Kept.ite_fst | simp (disch := first
      | exact May.or | exact Or.inr rfl) only [Kept.mk_eq, Kept.field_eq, Kept.cameo_eq] | split | dsimp only)

theorem activate_kept {chg : List Part} [May chg .memc] {r0 s : State} (h : Kept chg r0 s) (ch : Nat) (l : List DramTx) : Kept
    chg r0 (activate s ch l) := by
  unfold activate
  repeat' (first
      | with_reducible assumption | intro _ | with_reducible apply Kept.wr | with_reducible apply setChan_kept
      | with_reducible apply Kept.clearOd | with_reducible apply Kept.ite | with_reducible apply Kept.ite_fst
      | simp (disch := first | exact May.or | exact Or.inr rfl) only [Kept.mk_eq, Kept.field_eq, Kept.cameo_eq] | split
      | dsimp only)

theorem commandSlot_kept {chg : List Part} [May chg .free] [May chg .out] [May chg .fwQueue] [May chg .od] [May chg .dom] [May
    chg .mem] [May chg .ten] [May chg .clasp] [May chg .dict] [May chg .field] [May chg .raster] [May chg .compose] [May chg
    .heads] [May chg .ports] [May chg .cameo] [May chg .touch] [May chg .hap] [May chg .audio] [May chg .memc] [May chg
    .control] [May chg .locket] [May chg .flash] [May chg .isl] [May chg .power] {r0 s : State} (h : Kept chg r0 s) (ch : Nat)
    (err : DramErr) (syndrome : Nat) : Kept chg r0 (commandSlot s ch err syndrome) := by
  unfold commandSlot
  repeat' (first
      | with_reducible assumption | intro _ | with_reducible apply Kept.wr | with_reducible apply setChan_kept
      | with_reducible apply issueTx_kept | with_reducible apply refreshAll_kept | with_reducible apply refreshBank_kept
      | with_reducible apply activate_kept | with_reducible apply Kept.clearOd | with_reducible apply Kept.ite
      | with_reducible apply Kept.ite_fst | simp (disch := first
      | exact May.or | exact Or.inr rfl) only [Kept.mk_eq, Kept.field_eq, Kept.cameo_eq] | split | dsimp only)

theorem powerDown_kept {chg : List Part} [May chg .od] [May chg .memc] {r0 s : State} (h : Kept chg r0 s) (ch : Nat) (r : Nat) :
    Kept chg r0 (powerDown s ch r) := by
  unfold powerDown
  repeat' (first
      | with_reducible assumption | intro _ | with_reducible apply Kept.wr | with_reducible apply setChan_kept
      | with_reducible apply settleDown_kept | with_reducible apply Kept.clearOd | with_reducible apply Kept.ite
      | with_reducible apply Kept.ite_fst | simp (disch := first
      | exact May.or | exact Or.inr rfl) only [Kept.mk_eq, Kept.field_eq, Kept.cameo_eq] | split | dsimp only)

theorem enterSr_kept {chg : List Part} [May chg .out] [May chg .fwQueue] [May chg .od] {r0 s : State} (h : Kept chg r0 s) (ch :
    Nat) (st : Nat) : Kept chg r0 (enterSr s ch st) := by
  unfold enterSr
  repeat' (first
      | with_reducible assumption | intro _ | with_reducible apply Kept.wr | with_reducible apply bump_kept
      | with_reducible apply raise_kept | with_reducible apply Kept.clearOd | with_reducible apply Kept.ite
      | with_reducible apply Kept.ite_fst | simp (disch := first
      | exact May.or | exact Or.inr rfl) only [Kept.mk_eq, Kept.field_eq, Kept.cameo_eq] | split | dsimp only)

theorem repay_kept {chg : List Part} [May chg .memc] {r0 s : State} (h : Kept chg r0 s) (ch : Nat) : Kept chg r0 (repay s ch) := by
  unfold repay
  repeat' (first
      | with_reducible assumption | intro _ | with_reducible apply Kept.wr | with_reducible apply setChan_kept
      | with_reducible apply Kept.foldl | with_reducible apply Kept.clearOd | with_reducible apply Kept.ite
      | with_reducible apply Kept.ite_fst | simp (disch := first
      | exact May.or | exact Or.inr rfl) only [Kept.mk_eq, Kept.field_eq, Kept.cameo_eq] | split | dsimp only)

theorem srEnter_kept {chg : List Part} [May chg .out] [May chg .fwQueue] [May chg .od] [May chg .memc] {r0 s : State} (h : Kept
    chg r0 s) (ch : Nat) : Kept chg r0 (srEnter s ch) := by
  unfold srEnter
  repeat' (first
      | with_reducible assumption | intro _ | with_reducible apply Kept.wr | with_reducible apply enterSr_kept
      | with_reducible apply repay_kept | with_reducible apply Kept.foldl | with_reducible apply Kept.clearOd
      | with_reducible apply Kept.ite | with_reducible apply Kept.ite_fst | simp (disch := first
      | exact May.or | exact Or.inr rfl) only [Kept.mk_eq, Kept.field_eq, Kept.cameo_eq] | split | dsimp only)

theorem leaveSr_kept {chg : List Part} [May chg .out] [May chg .fwQueue] [May chg .od] [May chg .memc] {r0 s : State} (h : Kept
    chg r0 s) (ch : Nat) : Kept chg r0 (leaveSr s ch) := by
  unfold leaveSr
  repeat' (first
      | with_reducible assumption | intro _ | with_reducible apply Kept.wr | with_reducible apply raise_kept
      | with_reducible apply setChan_kept | with_reducible apply Kept.foldl | with_reducible apply Kept.clearOd
      | with_reducible apply Kept.ite | with_reducible apply Kept.ite_fst | simp (disch := first
      | exact May.or | exact Or.inr rfl) only [Kept.mk_eq, Kept.field_eq, Kept.cameo_eq] | split | dsimp only)

theorem wakePhy_kept {chg : List Part} [May chg .out] [May chg .fwQueue] [May chg .od] {r0 s : State} (h : Kept chg r0 s) (ch :
    Nat) : Kept chg r0 (wakePhy s ch) := by
  unfold wakePhy
  repeat' (first
      | with_reducible assumption | intro _ | with_reducible apply Kept.wr | with_reducible apply raise_kept
      | with_reducible apply Kept.foldl | with_reducible apply Kept.clearOd | with_reducible apply Kept.ite
      | with_reducible apply Kept.ite_fst | simp (disch := first
      | exact May.or | exact Or.inr rfl) only [Kept.mk_eq, Kept.field_eq, Kept.cameo_eq] | split | dsimp only)

theorem srExit_kept {chg : List Part} [May chg .out] [May chg .fwQueue] [May chg .od] [May chg .memc] {r0 s : State} (h : Kept
    chg r0 s) (ch : Nat) : Kept chg r0 (srExit s ch) := by
  unfold srExit
  repeat' (first
      | with_reducible assumption | intro _ | with_reducible apply Kept.wr | with_reducible apply leaveSr_kept
      | with_reducible apply wakePhy_kept | with_reducible apply Kept.clearOd | with_reducible apply Kept.ite
      | with_reducible apply Kept.ite_fst | simp (disch := first
      | exact May.or | exact Or.inr rfl) only [Kept.mk_eq, Kept.field_eq, Kept.cameo_eq] | split | dsimp only)

theorem loseSegments_kept {chg : List Part} [May chg .mem] {r0 s : State} (h : Kept chg r0 s) (mask : Nat) : Kept chg r0 (loseSegments s mask) :=
  h.memOnly _ (fun w => twf_tclear _ _ _ w)

theorem trainStart_kept {chg : List Part} [May chg .od] {r0 s : State} (h : Kept chg r0 s)  : Kept chg r0 (trainStart s) := by
  unfold trainStart
  repeat' (first
      | with_reducible assumption | intro _ | with_reducible apply Kept.wr | with_reducible apply Kept.foldl
      | with_reducible apply Kept.clearOd | with_reducible apply Kept.ite | with_reducible apply Kept.ite_fst
      | simp (disch := first | exact May.or | exact Or.inr rfl) only [Kept.mk_eq, Kept.field_eq, Kept.cameo_eq] | split
      | dsimp only)

theorem trainEnd_kept {chg : List Part} [May chg .out] [May chg .fwQueue] [May chg .od] [May chg .flash] {r0 s : State} (h :
    Kept chg r0 s) (failed : Nat) : Kept chg r0 (trainEnd s failed) := by
  unfold trainEnd
  repeat' (first
      | with_reducible assumption | intro _ | with_reducible apply Kept.wr | with_reducible apply raise_kept
      | with_reducible apply Kept.foldl | with_reducible apply Kept.clearOd | with_reducible apply Kept.ite
      | with_reducible apply Kept.ite_fst | simp (disch := first
      | exact May.or | exact Or.inr rfl) only [Kept.mk_eq, Kept.field_eq, Kept.cameo_eq] | split | dsimp only)

theorem withdrawFacet_kept {chg : List Part} [May chg .od] [May chg .compose] {r0 s : State} (h : Kept chg r0 s) (h : Nat) (f :
    Nat) : Kept chg r0 (withdrawFacet s h f) := by
  unfold withdrawFacet
  repeat' (first
      | with_reducible assumption | intro _ | with_reducible apply Kept.wr | with_reducible apply setFacet_kept
      | with_reducible apply updateSums_kept | with_reducible apply Kept.clearOd | with_reducible apply Kept.ite
      | with_reducible apply Kept.ite_fst | simp (disch := first
      | exact May.or | exact Or.inr rfl) only [Kept.mk_eq, Kept.field_eq, Kept.cameo_eq] | split | dsimp only)

theorem settleRights_kept {chg : List Part} [May chg .out] [May chg .fwQueue] [May chg .od] [May chg .clasp] [May chg .compose]
    [May chg .ports] [May chg .cameo] [May chg .touch] [May chg .locket] {r0 s : State} (h : Kept chg r0 s) (c : Nat) : Kept chg
    r0 (settleRights s c) := by
  unfold settleRights
  repeat' (first
      | with_reducible assumption | intro _ | with_reducible apply Kept.wr | with_reducible apply cvWithdraw_kept
      | with_reducible apply leaveSub_kept | with_reducible apply withdrawFacet_kept | with_reducible apply Kept.foldl
      | with_reducible apply Kept.clearOd | with_reducible apply Kept.ite | with_reducible apply Kept.ite_fst
      | simp (disch := first | exact May.or | exact Or.inr rfl) only [Kept.mk_eq, Kept.field_eq, Kept.cameo_eq] | split
      | dsimp only)

theorem dropWb_kept {chg : List Part} [May chg .od] [May chg .clasp] [May chg .heads] {r0 s : State} (h : Kept chg r0 s) (c :
    Nat) : Kept chg r0 (dropWb s c) := by
  unfold dropWb
  repeat' (first
      | with_reducible assumption | intro _ | with_reducible apply Kept.wr | with_reducible apply endWb_kept
      | with_reducible apply Kept.foldl | with_reducible apply Kept.clearOd | with_reducible apply Kept.ite
      | with_reducible apply Kept.ite_fst | simp (disch := first
      | exact May.or | exact Or.inr rfl) only [Kept.mk_eq, Kept.field_eq, Kept.cameo_eq] | split | dsimp only)

theorem dropReceivers_kept {chg : List Part} [May chg .od] [May chg .compose] [May chg .ports] {r0 s : State} (h : Kept chg r0
    s) (c : Nat) : Kept chg r0 (dropReceivers s c) := by
  unfold dropReceivers
  repeat' (first
      | with_reducible assumption | intro _ | with_reducible apply Kept.wr | with_reducible apply closeReceiver_kept
      | with_reducible apply Kept.foldl | with_reducible apply Kept.clearOd | with_reducible apply Kept.ite
      | with_reducible apply Kept.ite_fst | simp (disch := first
      | exact May.or | exact Or.inr rfl) only [Kept.mk_eq, Kept.field_eq, Kept.cameo_eq] | split | dsimp only)

theorem clientReset_kept {chg : List Part} [May chg .out] [May chg .fwQueue] [May chg .od] [May chg .clasp] [May chg .raster]
    [May chg .compose] [May chg .heads] [May chg .ports] [May chg .cameo] [May chg .touch] [May chg .hap] [May chg .audio] [May
    chg .locket] {r0 s : State} (h : Kept chg r0 s) (c : Nat) : Kept chg r0 (clientReset s c) := by
  unfold clientReset
  repeat' (first
      | with_reducible assumption | intro _ | with_reducible apply Kept.wr | with_reducible apply setClasp_kept
      | with_reducible apply leaveRender_kept | with_reducible apply leaveCompute_kept | with_reducible apply cvClientReset_kept
      | with_reducible apply dropTrigs_kept | with_reducible apply dropSubs_kept | with_reducible apply dropStreams_kept
      | with_reducible apply withdrawFacet_kept | with_reducible apply dropWb_kept | with_reducible apply dropReceivers_kept
      | with_reducible apply Kept.foldl | with_reducible apply Kept.clearOd | with_reducible apply Kept.ite
      | with_reducible apply Kept.ite_fst | simp (disch := first
      | exact May.or | exact Or.inr rfl) only [Kept.mk_eq, Kept.field_eq, Kept.cameo_eq] | split | dsimp only)

theorem settleAllocated_kept {chg : List Part} [May chg .od] {r0 s : State} (h : Kept chg r0 s)  : Kept chg r0 (settleAllocated s) := by
  unfold settleAllocated
  repeat' (first
      | with_reducible assumption | intro _ | with_reducible apply Kept.wr | with_reducible apply Kept.foldl
      | with_reducible apply Kept.clearOd | with_reducible apply Kept.ite | with_reducible apply Kept.ite_fst
      | simp (disch := first | exact May.or | exact Or.inr rfl) only [Kept.mk_eq, Kept.field_eq, Kept.cameo_eq] | split
      | dsimp only)

theorem growCarve_kept {chg : List Part} [May chg .od] [May chg .mem] [May chg .ten] [May chg .memc] {r0 s : State} (h : Kept
    chg r0 s) (g : Nat) (n : Nat) : Kept chg r0 (growCarve s g n) := by
  unfold growCarve
  repeat' (first
      | with_reducible assumption | intro _ | with_reducible apply Kept.wr | with_reducible apply Kept.memZero
      | with_reducible apply setGuest_kept | with_reducible apply settleAllocated_kept | with_reducible apply Kept.foldl
      | with_reducible apply Kept.clearOd | with_reducible apply Kept.ite | with_reducible apply Kept.ite_fst
      | simp (disch := first | exact May.or | exact Or.inr rfl) only [Kept.mk_eq, Kept.field_eq, Kept.cameo_eq] | split
      | dsimp only)

theorem shrinkCarve_kept {chg : List Part} [May chg .od] [May chg .mem] [May chg .ten] [May chg .memc] {r0 s : State} (h : Kept
    chg r0 s) (g : Nat) (n : Nat) : Kept chg r0 (shrinkCarve s g n) := by
  unfold shrinkCarve
  repeat' (first
      | with_reducible assumption | intro _ | with_reducible apply Kept.wr | with_reducible apply Kept.memZero
      | with_reducible apply setGuest_kept | with_reducible apply settleAllocated_kept | with_reducible apply Kept.foldl
      | with_reducible apply Kept.clearOd | with_reducible apply Kept.ite | with_reducible apply Kept.ite_fst
      | simp (disch := first | exact May.or | exact Or.inr rfl) only [Kept.mk_eq, Kept.field_eq, Kept.cameo_eq] | split
      | dsimp only)

theorem settleCarve_kept {chg : List Part} [May chg .od] [May chg .mem] [May chg .ten] [May chg .memc] {r0 s : State} (h : Kept
    chg r0 s) (g : Nat) : Kept chg r0 (settleCarve s g) := by
  unfold settleCarve
  repeat' (first
      | with_reducible assumption | intro _ | with_reducible apply Kept.wr | with_reducible apply growCarve_kept
      | with_reducible apply shrinkCarve_kept | with_reducible apply Kept.clearOd | with_reducible apply Kept.ite
      | with_reducible apply Kept.ite_fst | simp (disch := first
      | exact May.or | exact Or.inr rfl) only [Kept.mk_eq, Kept.field_eq, Kept.cameo_eq] | split | dsimp only)

theorem writePte_kept {chg : List Part} [May chg .ten] {r0 s : State} (h : Kept chg r0 s) (g : Nat) (n : Nat) (v : Nat) : Kept
    chg r0 (writePte s g n v) := by
  unfold writePte
  repeat' (first
      | with_reducible assumption | intro _ | with_reducible apply Kept.wr | with_reducible apply setGuest_kept
      | with_reducible apply Kept.clearOd | with_reducible apply Kept.ite | with_reducible apply Kept.ite_fst
      | simp (disch := first | exact May.or | exact Or.inr rfl) only [Kept.mk_eq, Kept.field_eq, Kept.cameo_eq] | split
      | dsimp only)

theorem zeroCarve_kept {chg : List Part} [May chg .mem] [May chg .memc] {r0 s : State} (h : Kept chg r0 s) (g : Nat) : Kept chg
    r0 (zeroCarve s g) := by
  unfold zeroCarve
  repeat' (first
      | with_reducible assumption | intro _ | with_reducible apply Kept.wr | with_reducible apply Kept.memZero
      | with_reducible apply Kept.foldl | with_reducible apply Kept.clearOd | with_reducible apply Kept.ite
      | with_reducible apply Kept.ite_fst | simp (disch := first
      | exact May.or | exact Or.inr rfl) only [Kept.mk_eq, Kept.field_eq, Kept.cameo_eq] | split | dsimp only)

theorem settleGuest_kept {chg : List Part} [May chg .od] {r0 s : State} (h : Kept chg r0 s) (g : Nat) : Kept chg r0 (settleGuest s g) := by
  unfold settleGuest
  repeat' (first
      | with_reducible assumption | intro _ | with_reducible apply Kept.wr | with_reducible apply Kept.clearOd
      | with_reducible apply Kept.ite | with_reducible apply Kept.ite_fst | simp (disch := first
      | exact May.or | exact Or.inr rfl) only [Kept.mk_eq, Kept.field_eq, Kept.cameo_eq] | split | dsimp only)

theorem resetClients_kept {chg : List Part} [May chg .out] [May chg .fwQueue] [May chg .od] [May chg .ten] [May chg .clasp] [May
    chg .raster] [May chg .compose] [May chg .heads] [May chg .ports] [May chg .cameo] [May chg .touch] [May chg .hap] [May chg
    .audio] [May chg .locket] {r0 s : State} (h : Kept chg r0 s) (g : Nat) : Kept chg r0 (resetClients s g) := by
  unfold resetClients
  repeat' (first
      | with_reducible assumption | intro _ | with_reducible apply Kept.wr | with_reducible apply setGuest_kept
      | with_reducible apply setCharm_kept | with_reducible apply clientReset_kept | with_reducible apply Kept.foldl
      | with_reducible apply Kept.clearOd | with_reducible apply Kept.ite | with_reducible apply Kept.ite_fst
      | simp (disch := first | exact May.or | exact Or.inr rfl) only [Kept.mk_eq, Kept.field_eq, Kept.cameo_eq] | split
      | dsimp only)

theorem guestReset_kept {chg : List Part} [May chg .out] [May chg .fwQueue] [May chg .od] [May chg .ten] [May chg .clasp] [May
    chg .raster] [May chg .compose] [May chg .heads] [May chg .ports] [May chg .cameo] [May chg .touch] [May chg .hap] [May chg
    .audio] [May chg .locket] {r0 s : State} (h : Kept chg r0 s) (g : Nat) (off : Bool) : Kept chg r0 (guestReset s g off) := by
  unfold guestReset
  repeat' (first
      | with_reducible assumption | intro _ | with_reducible apply Kept.wr | with_reducible apply setGuest_kept
      | with_reducible apply setPort_kept | with_reducible apply settleGuest_kept | with_reducible apply resetClients_kept
      | with_reducible apply Kept.clearOd | with_reducible apply Kept.ite | with_reducible apply Kept.ite_fst
      | simp (disch := first | exact May.or | exact Or.inr rfl) only [Kept.mk_eq, Kept.field_eq, Kept.cameo_eq] | split
      | dsimp only)

theorem finishReset_kept {chg : List Part} [May chg .od] [May chg .ten] {r0 s : State} (h : Kept chg r0 s) (g : Nat) : Kept chg
    r0 (finishReset s g) := by
  unfold finishReset
  repeat' (first
      | with_reducible assumption | intro _ | with_reducible apply Kept.wr | with_reducible apply setGuest_kept
      | with_reducible apply settleGuest_kept | with_reducible apply Kept.clearOd | with_reducible apply Kept.ite
      | with_reducible apply Kept.ite_fst | simp (disch := first
      | exact May.or | exact Or.inr rfl) only [Kept.mk_eq, Kept.field_eq, Kept.cameo_eq] | split | dsimp only)

theorem clientResetDone_kept {chg : List Part} [May chg .od] [May chg .ten] {r0 s : State} (h : Kept chg r0 s) (g : Nat) : Kept
    chg r0 (clientResetDone s g) := by
  unfold clientResetDone
  repeat' (first
      | with_reducible assumption | intro _ | with_reducible apply Kept.wr | with_reducible apply setGuest_kept
      | with_reducible apply finishReset_kept | with_reducible apply Kept.clearOd | with_reducible apply Kept.ite
      | with_reducible apply Kept.ite_fst | simp (disch := first
      | exact May.or | exact Or.inr rfl) only [Kept.mk_eq, Kept.field_eq, Kept.cameo_eq] | split | dsimp only)

theorem carveZeroed_kept {chg : List Part} [May chg .od] [May chg .mem] [May chg .ten] [May chg .memc] {r0 s : State} (h : Kept
    chg r0 s) (g : Nat) : Kept chg r0 (carveZeroed s g) := by
  unfold carveZeroed
  repeat' (first
      | with_reducible assumption | intro _ | with_reducible apply Kept.wr | with_reducible apply setGuest_kept
      | with_reducible apply zeroCarve_kept | with_reducible apply finishReset_kept | with_reducible apply Kept.clearOd
      | with_reducible apply Kept.ite | with_reducible apply Kept.ite_fst | simp (disch := first
      | exact May.or | exact Or.inr rfl) only [Kept.mk_eq, Kept.field_eq, Kept.cameo_eq] | split | dsimp only)

theorem setNumVfs_kept {chg : List Part} [May chg .out] [May chg .fwQueue] [May chg .od] [May chg .ten] [May chg .clasp] [May
    chg .raster] [May chg .compose] [May chg .heads] [May chg .ports] [May chg .cameo] [May chg .touch] [May chg .hap] [May chg
    .audio] [May chg .locket] {r0 s : State} (h : Kept chg r0 s) (n : Nat) : Kept chg r0 (setNumVfs s n) := by
  unfold setNumVfs
  repeat' (first
      | with_reducible assumption | intro _ | with_reducible apply Kept.wr | with_reducible apply settleGuest_kept
      | with_reducible apply guestReset_kept | with_reducible apply Kept.foldl | with_reducible apply Kept.clearOd
      | with_reducible apply Kept.ite | with_reducible apply Kept.ite_fst | simp (disch := first
      | exact May.or | exact Or.inr rfl) only [Kept.mk_eq, Kept.field_eq, Kept.cameo_eq] | split | dsimp only)

theorem setBar_kept {chg : List Part} [May chg .ten] {r0 s : State} (h : Kept chg r0 s) (vf : Bool) (n : Nat) (v : Nat) : Kept
    chg r0 (setBar s vf n v) := by
  unfold setBar
  repeat' (first
      | with_reducible assumption | intro _ | with_reducible apply Kept.wr | with_reducible apply Kept.clearOd
      | with_reducible apply Kept.ite | with_reducible apply Kept.ite_fst | simp (disch := first
      | exact May.or | exact Or.inr rfl) only [Kept.mk_eq, Kept.field_eq, Kept.cameo_eq] | split | dsimp only)

theorem numVfsWrite_kept {chg : List Part} [May chg .out] [May chg .fwQueue] [May chg .od] [May chg .ten] [May chg .clasp] [May
    chg .raster] [May chg .compose] [May chg .heads] [May chg .ports] [May chg .cameo] [May chg .touch] [May chg .hap] [May chg
    .audio] [May chg .locket] {r0 s : State} (h : Kept chg r0 s) (n : Nat) : Kept chg r0 (numVfsWrite s n) := by
  unfold numVfsWrite
  repeat' (first
      | with_reducible assumption | intro _ | with_reducible apply Kept.wr | with_reducible apply send_kept
      | with_reducible apply setNumVfs_kept | with_reducible apply Kept.clearOd | with_reducible apply Kept.ite
      | with_reducible apply Kept.ite_fst | simp (disch := first
      | exact May.or | exact Or.inr rfl) only [Kept.mk_eq, Kept.field_eq, Kept.cameo_eq] | split | dsimp only)

theorem configRead_kept {chg : List Part} [May chg .free] {r0 s : State} (h : Kept chg r0 s) (f : Nat) (q : CfgReg) : Kept chg
    r0 (configRead s f q).1 := by
  cases q <;> first | exact h | exact drawn_kept h

theorem configServe_kept {chg : List Part} [May chg .free] [May chg .out] [May chg .fwQueue] [May chg .od] [May chg .ten] [May
    chg .clasp] [May chg .raster] [May chg .compose] [May chg .heads] [May chg .ports] [May chg .cameo] [May chg .touch] [May
    chg .hap] [May chg .audio] [May chg .locket] {r0 s : State} (h : Kept chg r0 s) (f : Nat) (q : CfgReq) : Kept chg r0
    (configServe s f q) := by
  unfold configServe
  dsimp only
  repeat' (first
      | with_reducible assumption | intro _ | with_reducible apply send_kept | with_reducible apply setBar_kept
      | with_reducible apply numVfsWrite_kept | with_reducible apply configRead_kept | with_reducible apply Kept.ite
      | with_reducible apply Kept.ite_fst | simp (disch := first
      | exact May.or | exact Or.inr rfl) only [Kept.mk_eq, Kept.field_eq, Kept.cameo_eq] | split | dsimp only)

theorem bar4Read_kept {chg : List Part} [May chg .out] [May chg .od] [May chg .ten] [May chg .field] {r0 s : State} (h : Kept
    chg r0 s) (f : Nat) (off : Nat) (n : Nat) : Kept chg r0 (bar4Read s f off n) := by
  unfold bar4Read
  repeat' (first
      | with_reducible assumption | intro _ | with_reducible apply Kept.wr | with_reducible apply send_kept
      | with_reducible apply violate_kept | with_reducible apply Kept.foldl | with_reducible apply Kept.clearOd
      | with_reducible apply Kept.ite | with_reducible apply Kept.ite_fst | simp (disch := first
      | exact May.or | exact Or.inr rfl) only [Kept.mk_eq, Kept.field_eq, Kept.cameo_eq] | split | dsimp only)

theorem bar4Write_kept {chg : List Part} [May chg .od] [May chg .mem] [May chg .ten] [May chg .field] [May chg .memc] {r0 s :
    State} (h : Kept chg r0 s) (f : Nat) (off : Nat) (bytes : List (Option Byte)) : Kept chg r0 (bar4Write s f off bytes) := by
  unfold bar4Write
  repeat' (first
      | with_reducible assumption | intro _ | with_reducible apply Kept.wr | with_reducible apply memWrAll_kept
      | with_reducible apply violate_kept | with_reducible apply Kept.foldl | with_reducible apply Kept.clearOd
      | with_reducible apply Kept.ite | with_reducible apply Kept.ite_fst | simp (disch := first
      | exact May.or | exact Or.inr rfl) only [Kept.mk_eq, Kept.field_eq, Kept.cameo_eq] | split | dsimp only)

theorem violationLogged_kept {chg : List Part} [May chg .od] [May chg .ten] {r0 s : State} (h : Kept chg r0 s)  : Kept chg r0
    (violationLogged s) := by
  unfold violationLogged
  repeat' (first
      | with_reducible assumption | intro _ | with_reducible apply Kept.wr | with_reducible apply ringEnter_kept
      | with_reducible apply Kept.clearOd | with_reducible apply Kept.ite | with_reducible apply Kept.ite_fst
      | simp (disch := first | exact May.or | exact Or.inr rfl) only [Kept.mk_eq, Kept.field_eq, Kept.cameo_eq] | split
      | dsimp only)

theorem applyCharms_kept {chg : List Part} [May chg .out] [May chg .fwQueue] [May chg .od] [May chg .ten] [May chg .clasp] [May
    chg .compose] [May chg .ports] [May chg .cameo] [May chg .touch] [May chg .locket] {r0 s : State} (h : Kept chg r0 s) (g off
    : Nat) (bytes : List Byte) :
    Kept chg r0 ((applyCharms s g off bytes).getD s) := by
  unfold applyCharms
  dsimp only
  split
  · exact h
  · exact Kept.foldl (fun t x ht => settleRights_kept ht _) (Kept.foldl (fun t x ht => setCharm_kept ht _ _) h)

end Sys2Proof.Laws
end

