-- ==== Sys2Proof/Laws/KeptIslands.lean ====
section
/-! SUPPORT. What the operations of the islands, the flash, the debug module, the locket, the scheduler and power keep (Kept):
  one lemma an operation. -/

set_option linter.unusedSimpArgs false
set_option linter.all false

namespace Sys2Proof.Laws

open Sys2Proof Sys2Proof.Machine

theorem setIsland_kept {chg : List Part} [May chg .isl] {r0 s : State} (h : Kept chg r0 s) (i : Nat) (st : Nat) : Kept chg r0 (setIsland s i st) := by
  unfold setIsland
  repeat' (first
      | with_reducible assumption | intro _ | with_reducible apply Kept.wr | with_reducible apply Kept.clearOd
      | with_reducible apply Kept.ite | with_reducible apply Kept.ite_fst | simp (disch := first
      | exact May.or | exact Or.inr rfl) only [Kept.mk_eq, Kept.field_eq, Kept.cameo_eq] | split | dsimp only)

theorem setIslands_kept {chg : List Part} [May chg .isl] {r0 s : State} (h : Kept chg r0 s) (d : Nat) (st : Nat) : Kept chg r0
    (setIslands s d st) := by
  unfold setIslands
  repeat' (first
      | with_reducible assumption | intro _ | with_reducible apply Kept.wr | with_reducible apply setIsland_kept
      | with_reducible apply Kept.foldl | with_reducible apply Kept.clearOd | with_reducible apply Kept.ite
      | with_reducible apply Kept.ite_fst | simp (disch := first
      | exact May.or | exact Or.inr rfl) only [Kept.mk_eq, Kept.field_eq, Kept.cameo_eq] | split | dsimp only)

theorem recoverIsland_kept {chg : List Part} [May chg .isl] {r0 s : State} (h : Kept chg r0 s) (i : Nat) : Kept chg r0 (recoverIsland s i) := by
  unfold recoverIsland
  repeat' (first
      | with_reducible assumption | intro _ | with_reducible apply Kept.wr | with_reducible apply setIsland_kept
      | with_reducible apply Kept.clearOd | with_reducible apply Kept.ite | with_reducible apply Kept.ite_fst
      | simp (disch := first | exact May.or | exact Or.inr rfl) only [Kept.mk_eq, Kept.field_eq, Kept.cameo_eq] | split
      | dsimp only)

theorem setXing_kept {chg : List Part} [May chg .isl] {r0 s : State} (h : Kept chg r0 s) (x : Nat) (r : XingRec) : Kept chg r0 (setXing s x r) := by
  unfold setXing
  repeat' (first
      | with_reducible assumption | intro _ | with_reducible apply Kept.wr | with_reducible apply Kept.clearOd
      | with_reducible apply Kept.ite | with_reducible apply Kept.ite_fst | simp (disch := first
      | exact May.or | exact Or.inr rfl) only [Kept.mk_eq, Kept.field_eq, Kept.cameo_eq] | split | dsimp only)

theorem fenceXings_kept {chg : List Part} [May chg .isl] {r0 s : State} (h : Kept chg r0 s) (i : Nat) : Kept chg r0 (fenceXings s i) := by
  unfold fenceXings
  repeat' (first
      | with_reducible assumption | intro _ | with_reducible apply Kept.wr | with_reducible apply setXing_kept
      | with_reducible apply Kept.foldl | with_reducible apply Kept.clearOd | with_reducible apply Kept.ite
      | with_reducible apply Kept.ite_fst | simp (disch := first
      | exact May.or | exact Or.inr rfl) only [Kept.mk_eq, Kept.field_eq, Kept.cameo_eq] | split | dsimp only)

theorem xingLog_kept {chg : List Part} [May chg .od] [May chg .isl] {r0 s : State} (h : Kept chg r0 s) (id : Nat) (cause : Nat)
    (side : Bool) (failed : Nat) (island : Nat) : Kept chg r0 (xingLog s id cause side failed island).1 := by
  unfold xingLog
  repeat' (first
      | with_reducible assumption | intro _ | with_reducible apply Kept.wr | with_reducible apply ringEnter_kept
      | with_reducible apply Kept.clearOd | with_reducible apply Kept.ite | with_reducible apply Kept.ite_fst
      | simp (disch := first | exact May.or | exact Or.inr rfl) only [Kept.mk_eq, Kept.field_eq, Kept.cameo_eq] | split
      | dsimp only)

theorem settleRq_kept {chg : List Part} [May chg .od] {r0 s : State} (h : Kept chg r0 s)  : Kept chg r0 (settleRq s) := by
  unfold settleRq
  repeat' (first
      | with_reducible assumption | intro _ | with_reducible apply Kept.wr | with_reducible apply Kept.foldl
      | with_reducible apply Kept.clearOd | with_reducible apply Kept.ite | with_reducible apply Kept.ite_fst
      | simp (disch := first | exact May.or | exact Or.inr rfl) only [Kept.mk_eq, Kept.field_eq, Kept.cameo_eq] | split
      | dsimp only)

theorem changeClock_kept {chg : List Part} [May chg .od] [May chg .isl] [May chg .power] {r0 s : State} (h : Kept chg r0 s) (i :
    Nat) : Kept chg r0 (changeClock s i) := by
  unfold changeClock
  repeat' (first
      | with_reducible assumption | intro _ | with_reducible apply Kept.wr | with_reducible apply recoverIsland_kept
      | with_reducible apply settleRq_kept | with_reducible apply Kept.clearOd | with_reducible apply Kept.ite
      | with_reducible apply Kept.ite_fst | simp (disch := first
      | exact May.or | exact Or.inr rfl) only [Kept.mk_eq, Kept.field_eq, Kept.cameo_eq] | split | dsimp only)

theorem settleClocks_kept {chg : List Part} [May chg .od] [May chg .isl] [May chg .power] {r0 s : State} (h : Kept chg r0 s)  :
    Kept chg r0 (settleClocks s) := by
  unfold settleClocks
  repeat' (first
      | with_reducible assumption | intro _ | with_reducible apply Kept.wr | with_reducible apply changeClock_kept
      | with_reducible apply Kept.foldl | with_reducible apply Kept.clearOd | with_reducible apply Kept.ite
      | with_reducible apply Kept.ite_fst | simp (disch := first
      | exact May.or | exact Or.inr rfl) only [Kept.mk_eq, Kept.field_eq, Kept.cameo_eq] | split | dsimp only)

theorem countFailed_kept {chg : List Part} [May chg .od] {r0 s : State} (h : Kept chg r0 s) (x : Nat) (slot : Nat) : Kept chg r0
    (countFailed s x slot) := by
  unfold countFailed
  repeat' (first
      | with_reducible assumption | intro _ | with_reducible apply Kept.wr | with_reducible apply Kept.clearOd
      | with_reducible apply Kept.ite | with_reducible apply Kept.ite_fst | simp (disch := first
      | exact May.or | exact Or.inr rfl) only [Kept.mk_eq, Kept.field_eq, Kept.cameo_eq] | split | dsimp only)

theorem failBeats_kept {chg : List Part} [May chg .out] {r0 s : State} (h : Kept chg r0 s) (x : Nat) (h : Half) : Kept chg r0 (failBeats s x h) := by
  unfold failBeats
  repeat' (first
      | with_reducible assumption | intro _ | with_reducible apply Kept.wr | with_reducible apply send_kept
      | with_reducible apply Kept.foldl | with_reducible apply Kept.clearOd | with_reducible apply Kept.ite
      | with_reducible apply Kept.ite_fst | simp (disch := first
      | exact May.or | exact Or.inr rfl) only [Kept.mk_eq, Kept.field_eq, Kept.cameo_eq] | split | dsimp only)

theorem linkBeat_kept {chg : List Part} [May chg .out] [May chg .od] [May chg .ten] [May chg .field] [May chg .isl] {r0 s :
    State} (h : Kept chg r0 s) (x : Nat) (side : Bool) (v : Nat) (dest : BeatDest) (trusted : Bool) (accepted : Bool) : Kept chg
    r0 (linkBeat s x side v dest trusted accepted) := by
  unfold linkBeat
  repeat' (first
      | with_reducible assumption | intro _ | with_reducible apply Kept.wr | with_reducible apply send_kept
      | with_reducible apply violate_kept | with_reducible apply setXing_kept | with_reducible apply countFailed_kept
      | with_reducible apply Kept.clearOd | with_reducible apply Kept.ite | with_reducible apply Kept.ite_fst
      | simp (disch := first | exact May.or | exact Or.inr rfl) only [Kept.mk_eq, Kept.field_eq, Kept.cameo_eq] | split
      | dsimp only)

theorem flagEvent_kept {chg : List Part} [May chg .out] [May chg .isl] {r0 s : State} (h : Kept chg r0 s) (x : Nat) (side :
    Bool) (f : FlagStep) : Kept chg r0 (flagEvent s x side f) := by
  unfold flagEvent
  repeat' (first
      | with_reducible assumption | intro _ | with_reducible apply Kept.wr | with_reducible apply send_kept
      | with_reducible apply setXing_kept | with_reducible apply Kept.clearOd | with_reducible apply Kept.ite
      | with_reducible apply Kept.ite_fst | simp (disch := first
      | exact May.or | exact Or.inr rfl) only [Kept.mk_eq, Kept.field_eq, Kept.cameo_eq] | split | dsimp only)

theorem valueWrite_kept {chg : List Part} [May chg .isl] {r0 s : State} (h : Kept chg r0 s) (x : Nat) (side : Bool) (v : Nat) :
    Kept chg r0 (valueWrite s x side v) := by
  unfold valueWrite
  repeat' (first
      | with_reducible assumption | intro _ | with_reducible apply Kept.wr | with_reducible apply setXing_kept
      | with_reducible apply Kept.clearOd | with_reducible apply Kept.ite | with_reducible apply Kept.ite_fst
      | simp (disch := first | exact May.or | exact Or.inr rfl) only [Kept.mk_eq, Kept.field_eq, Kept.cameo_eq] | split
      | dsimp only)

theorem valueCapture_kept {chg : List Part} [May chg .isl] {r0 s : State} (h : Kept chg r0 s) (x : Nat) (side : Bool) : Kept chg
    r0 (valueCapture s x side) := by
  unfold valueCapture
  repeat' (first
      | with_reducible assumption | intro _ | with_reducible apply Kept.wr | with_reducible apply setXing_kept
      | with_reducible apply Kept.clearOd | with_reducible apply Kept.ite | with_reducible apply Kept.ite_fst
      | simp (disch := first | exact May.or | exact Or.inr rfl) only [Kept.mk_eq, Kept.field_eq, Kept.cameo_eq] | split
      | dsimp only)

theorem valueAcknowledge_kept {chg : List Part} [May chg .isl] {r0 s : State} (h : Kept chg r0 s) (x : Nat) (side : Bool) (write
    : Option Nat) : Kept chg r0 (valueAcknowledge s x side write) := by
  unfold valueAcknowledge
  repeat' (first
      | with_reducible assumption | intro _ | with_reducible apply Kept.wr | with_reducible apply setXing_kept
      | with_reducible apply valueWrite_kept | with_reducible apply Kept.clearOd | with_reducible apply Kept.ite
      | with_reducible apply Kept.ite_fst | simp (disch := first
      | exact May.or | exact Or.inr rfl) only [Kept.mk_eq, Kept.field_eq, Kept.cameo_eq] | split | dsimp only)

theorem xingTimeout_kept {chg : List Part} [May chg .out] [May chg .fwQueue] [May chg .od] [May chg .isl] {r0 s : State} (h :
    Kept chg r0 s) (x : Nat) (side : Bool) : Kept chg r0 (xingTimeout s x side) := by
  unfold xingTimeout
  repeat' (first
      | with_reducible assumption | intro _ | with_reducible apply Kept.wr | with_reducible apply bump_kept
      | with_reducible apply raise_kept | with_reducible apply setXing_kept | with_reducible apply xingLog_kept
      | with_reducible apply failBeats_kept | with_reducible apply Kept.clearOd | with_reducible apply Kept.ite
      | with_reducible apply Kept.ite_fst | simp (disch := first
      | exact May.or | exact Or.inr rfl) only [Kept.mk_eq, Kept.field_eq, Kept.cameo_eq] | split | dsimp only)

theorem clockResumed_kept {chg : List Part} [May chg .isl] {r0 s : State} (h : Kept chg r0 s) (x : Nat) : Kept chg r0 (clockResumed s x) := by
  unfold clockResumed
  repeat' (first
      | with_reducible assumption | intro _ | with_reducible apply Kept.wr | with_reducible apply recoverIsland_kept
      | with_reducible apply setXing_kept | with_reducible apply Kept.clearOd | with_reducible apply Kept.ite
      | with_reducible apply Kept.ite_fst | simp (disch := first
      | exact May.or | exact Or.inr rfl) only [Kept.mk_eq, Kept.field_eq, Kept.cameo_eq] | split | dsimp only)

theorem holdHead_kept {chg : List Part} [May chg .od] [May chg .heads] {r0 s : State} (h : Kept chg r0 s) (h : Nat) : Kept chg r0 (holdHead s h) := by
  unfold holdHead
  repeat' (first
      | with_reducible assumption | intro _ | with_reducible apply Kept.wr | with_reducible apply setHead_kept
      | with_reducible apply setHeadState_kept | with_reducible apply Kept.clearOd | with_reducible apply Kept.ite
      | with_reducible apply Kept.ite_fst | simp (disch := first
      | exact May.or | exact Or.inr rfl) only [Kept.mk_eq, Kept.field_eq, Kept.cameo_eq] | split | dsimp only)

theorem resetPort_kept {chg : List Part} [May chg .od] [May chg .ports] {r0 s : State} (h : Kept chg r0 s) (p : Nat) : Kept chg
    r0 (resetPort s p) := by
  unfold resetPort
  repeat' (first
      | with_reducible assumption | intro _ | with_reducible apply Kept.wr | with_reducible apply setOutPort_kept
      | with_reducible apply Kept.clearOd | with_reducible apply Kept.ite | with_reducible apply Kept.ite_fst
      | simp (disch := first | exact May.or | exact Or.inr rfl) only [Kept.mk_eq, Kept.field_eq, Kept.cameo_eq] | split
      | dsimp only)

theorem dropScan_kept {chg : List Part} [May chg .out] [May chg .fwQueue] [May chg .od] [May chg .touch] {r0 s : State} (h :
    Kept chg r0 s) (p : Nat) : Kept chg r0 (dropScan s p) := by
  unfold dropScan
  repeat' (first
      | with_reducible assumption | intro _ | with_reducible apply Kept.wr | with_reducible apply bump_kept
      | with_reducible apply raise_kept | with_reducible apply setTouch_kept | with_reducible apply Kept.clearOd
      | with_reducible apply Kept.ite | with_reducible apply Kept.ite_fst | simp (disch := first
      | exact May.or | exact Or.inr rfl) only [Kept.mk_eq, Kept.field_eq, Kept.cameo_eq] | split | dsimp only)

theorem clearMixer_kept {chg : List Part} [May chg .out] [May chg .audio] {r0 s : State} (h : Kept chg r0 s)  : Kept chg r0 (clearMixer s) := by
  unfold clearMixer
  repeat' (first
      | with_reducible assumption | intro _ | with_reducible apply Kept.wr | with_reducible apply setMix_kept
      | with_reducible apply setBus_kept | with_reducible apply setFades_kept | with_reducible apply Kept.foldl
      | with_reducible apply Kept.clearOd | with_reducible apply Kept.ite | with_reducible apply Kept.ite_fst
      | simp (disch := first | exact May.or | exact Or.inr rfl) only [Kept.mk_eq, Kept.field_eq, Kept.cameo_eq] | split
      | dsimp only)

theorem clearQuad_kept {chg : List Part} [May chg .raster] {r0 s : State} (h : Kept chg r0 s) (q : Nat) : Kept chg r0 (clearQuad s q) := by
  unfold clearQuad
  repeat' (first
      | with_reducible assumption | intro _ | with_reducible apply Kept.wr | with_reducible apply setCore_kept
      | with_reducible apply Kept.foldl | with_reducible apply Kept.clearOd | with_reducible apply Kept.ite
      | with_reducible apply Kept.ite_fst | simp (disch := first
      | exact May.or | exact Or.inr rfl) only [Kept.mk_eq, Kept.field_eq, Kept.cameo_eq] | split | dsimp only)

theorem clearCounters_kept {chg : List Part} [May chg .od] {r0 s : State} (h : Kept chg r0 s) (i : Nat) : Kept chg r0 (clearCounters s i) := by
  unfold clearCounters
  repeat' (first
      | with_reducible assumption | intro _ | with_reducible apply Kept.wr | with_reducible apply Kept.clearOd
      | with_reducible apply Kept.ite | with_reducible apply Kept.ite_fst | simp (disch := first
      | exact May.or | exact Or.inr rfl) only [Kept.mk_eq, Kept.field_eq, Kept.cameo_eq] | split | dsimp only)

theorem clearLines_kept {chg : List Part} [May chg .compose] {r0 s : State} (h : Kept chg r0 s)  : Kept chg r0 (clearLines s) := by
  unfold clearLines
  repeat' (first
      | with_reducible assumption | intro _ | with_reducible apply Kept.wr | with_reducible apply setFacet_kept
      | with_reducible apply Kept.foldl | with_reducible apply Kept.clearOd | with_reducible apply Kept.ite
      | with_reducible apply Kept.ite_fst | simp (disch := first
      | exact May.or | exact Or.inr rfl) only [Kept.mk_eq, Kept.field_eq, Kept.cameo_eq] | split | dsimp only)

theorem islandLost_kept {chg : List Part} [May chg .free] [May chg .out] [May chg .fwQueue] [May chg .od] [May chg .mem] [May
    chg .ten] [May chg .clasp] [May chg .field] [May chg .raster] [May chg .compose] [May chg .heads] [May chg .ports] [May chg
    .touch] [May chg .hap] [May chg .audio] [May chg .memc] {r0 s : State} (h : Kept chg r0 s) (i : Nat) : Kept chg r0
    (islandLost s i) := by
  have h0 := clearCounters_kept h i
  have h1 := setAl_kept h0 1 0 (fun _ => .inl rfl)
  unfold islandLost
  dsimp only
  repeat' (first
      | with_reducible assumption | intro _ | with_reducible apply Kept.foldl | with_reducible apply clearLines_kept
      | with_reducible apply setHeadState_kept | with_reducible apply setHead_kept | with_reducible apply holdHead_kept
      | with_reducible apply restartPort_kept | with_reducible apply clearMixer_kept | with_reducible apply dropScan_kept
      | with_reducible apply hapOff_kept | with_reducible apply stopPanel_kept | with_reducible apply resetPort_kept
      | with_reducible apply closeIncomplete_kept | with_reducible apply clearQuad_kept | with_reducible apply Kept.ite
      | with_reducible apply Kept.ite_fst | simp (disch := first
      | exact May.or | exact Or.inr rfl) only [Kept.mk_eq, Kept.field_eq, Kept.cameo_eq] | split | dsimp only)

theorem composeAgain_kept {chg : List Part} [May chg .heads] {r0 s : State} (h : Kept chg r0 s) (h : Nat) : Kept chg r0 (composeAgain s h) := by
  unfold composeAgain
  repeat' (first
      | with_reducible assumption | intro _ | with_reducible apply Kept.wr | with_reducible apply setHead_kept
      | with_reducible apply Kept.clearOd | with_reducible apply Kept.ite | with_reducible apply Kept.ite_fst
      | simp (disch := first | exact May.or | exact Or.inr rfl) only [Kept.mk_eq, Kept.field_eq, Kept.cameo_eq] | split
      | dsimp only)

theorem islandBack_kept {chg : List Part} [May chg .free] [May chg .out] [May chg .fwQueue] [May chg .od] [May chg .ten] [May
    chg .clasp] [May chg .field] [May chg .raster] [May chg .compose] [May chg .heads] [May chg .ports] [May chg .cameo] [May
    chg .touch] [May chg .hap] [May chg .audio] [May chg .locket] {r0 s : State} (h : Kept chg r0 s) (i : Nat) : Kept chg r0
    (islandBack s i) := by
  unfold islandBack
  repeat' (first
      | with_reducible assumption | intro _ | with_reducible apply Kept.wr | with_reducible apply setTouch_kept
      | with_reducible apply settleHap_kept | with_reducible apply settleAmps_kept | with_reducible apply restartPort_kept
      | with_reducible apply wakeBus_kept | with_reducible apply guestReset_kept | with_reducible apply setNumVfs_kept
      | with_reducible apply composeAgain_kept | with_reducible apply Kept.foldl | with_reducible apply Kept.clearOd
      | with_reducible apply Kept.ite | with_reducible apply Kept.ite_fst | simp (disch := first
      | exact May.or | exact Or.inr rfl) only [Kept.mk_eq, Kept.field_eq, Kept.cameo_eq] | split | dsimp only)

theorem notice_kept {chg : List Part} [May chg .free] [May chg .out] [May chg .fwQueue] [May chg .od] [May chg .mem] [May chg
    .ten] [May chg .clasp] [May chg .field] [May chg .raster] [May chg .compose] [May chg .heads] [May chg .ports] [May chg
    .touch] [May chg .hap] [May chg .audio] [May chg .memc] [May chg .isl] {r0 s : State} (h : Kept chg r0 s) (x : Nat) (side :
    Bool) : Kept chg r0 (notice s x side) := by
  unfold notice
  repeat' (first
      | with_reducible assumption | intro _ | with_reducible apply Kept.wr | with_reducible apply bump_kept
      | with_reducible apply raise_kept | with_reducible apply setXing_kept | with_reducible apply xingLog_kept
      | with_reducible apply failBeats_kept | with_reducible apply Kept.clearOd | with_reducible apply Kept.ite
      | with_reducible apply Kept.ite_fst | simp (disch := first
      | exact May.or | exact Or.inr rfl) only [Kept.mk_eq, Kept.field_eq, Kept.cameo_eq] | split | dsimp only)

theorem assertReset_kept {chg : List Part} [May chg .free] [May chg .out] [May chg .fwQueue] [May chg .od] [May chg .mem] [May
    chg .ten] [May chg .clasp] [May chg .field] [May chg .raster] [May chg .compose] [May chg .heads] [May chg .ports] [May chg
    .touch] [May chg .hap] [May chg .audio] [May chg .memc] [May chg .isl] {r0 s : State} (h : Kept chg r0 s) (i : Nat) : Kept
    chg r0 (assertReset s i) := by
  unfold assertReset
  repeat' (first
      | with_reducible assumption | intro _ | with_reducible apply Kept.wr | with_reducible apply setIsland_kept
      | with_reducible apply setXing_kept | with_reducible apply failBeats_kept | with_reducible apply islandLost_kept
      | with_reducible apply notice_kept | with_reducible apply Kept.foldl | with_reducible apply Kept.clearOd
      | with_reducible apply Kept.ite | with_reducible apply Kept.ite_fst | simp (disch := first
      | exact May.or | exact Or.inr rfl) only [Kept.mk_eq, Kept.field_eq, Kept.cameo_eq] | split | dsimp only)

theorem refuseHeld_kept {chg : List Part} [May chg .out] [May chg .od] [May chg .ten] [May chg .field] {r0 s : State} (h : Kept
    chg r0 s) (block : Nat) (domain : Nat) : Kept chg r0 (refuseHeld s block domain) := by
  unfold refuseHeld
  repeat' (first
      | with_reducible assumption | intro _ | with_reducible apply Kept.wr | with_reducible apply bump_kept
      | with_reducible apply send_kept | with_reducible apply raiseTrusted_kept | with_reducible apply violate_kept
      | with_reducible apply Kept.clearOd | with_reducible apply Kept.ite | with_reducible apply Kept.ite_fst
      | simp (disch := first | exact May.or | exact Or.inr rfl) only [Kept.mk_eq, Kept.field_eq, Kept.cameo_eq] | split
      | dsimp only)

theorem resetRequest_kept {chg : List Part} [May chg .free] [May chg .out] [May chg .fwQueue] [May chg .od] [May chg .mem] [May
    chg .ten] [May chg .clasp] [May chg .field] [May chg .raster] [May chg .compose] [May chg .heads] [May chg .ports] [May chg
    .touch] [May chg .hap] [May chg .audio] [May chg .memc] [May chg .isl] {r0 s : State} (h : Kept chg r0 s) (i : Nat) (xing :
    Option Nat) : Kept chg r0 (resetRequest s i xing) := by
  unfold resetRequest
  repeat' (first
      | with_reducible assumption | intro _ | with_reducible apply Kept.wr | with_reducible apply bump_kept
      | with_reducible apply send_kept | with_reducible apply raise_kept | with_reducible apply xingLog_kept
      | with_reducible apply assertReset_kept | with_reducible apply refuseHeld_kept | with_reducible apply Kept.clearOd
      | with_reducible apply Kept.ite | with_reducible apply Kept.ite_fst | simp (disch := first
      | exact May.or | exact Or.inr rfl) only [Kept.mk_eq, Kept.field_eq, Kept.cameo_eq] | split | dsimp only)

theorem resetRelease_kept {chg : List Part} [May chg .free] [May chg .out] [May chg .fwQueue] [May chg .od] [May chg .ten] [May
    chg .clasp] [May chg .field] [May chg .raster] [May chg .compose] [May chg .heads] [May chg .ports] [May chg .cameo] [May
    chg .touch] [May chg .hap] [May chg .audio] [May chg .locket] [May chg .isl] {r0 s : State} (h : Kept chg r0 s) (i : Nat) :
    Kept chg r0 (resetRelease s i) := by
  unfold resetRelease
  repeat' (first
      | with_reducible assumption | intro _ | with_reducible apply Kept.wr | with_reducible apply setIsland_kept
      | with_reducible apply islandBack_kept | with_reducible apply Kept.clearOd | with_reducible apply Kept.ite
      | with_reducible apply Kept.ite_fst | simp (disch := first
      | exact May.or | exact Or.inr rfl) only [Kept.mk_eq, Kept.field_eq, Kept.cameo_eq] | split | dsimp only)

theorem clockStable_kept {chg : List Part} [May chg .isl] {r0 s : State} (h : Kept chg r0 s) (i : Nat) : Kept chg r0 (clockStable s i) := by
  unfold clockStable
  repeat' (first
      | with_reducible assumption | intro _ | with_reducible apply Kept.wr | with_reducible apply setIsland_kept
      | with_reducible apply Kept.clearOd | with_reducible apply Kept.ite | with_reducible apply Kept.ite_fst
      | simp (disch := first | exact May.or | exact Or.inr rfl) only [Kept.mk_eq, Kept.field_eq, Kept.cameo_eq] | split
      | dsimp only)

theorem xingRejoin_kept {chg : List Part} [May chg .free] [May chg .out] [May chg .fwQueue] [May chg .od] [May chg .ten] [May
    chg .clasp] [May chg .field] [May chg .raster] [May chg .compose] [May chg .heads] [May chg .ports] [May chg .cameo] [May
    chg .touch] [May chg .hap] [May chg .audio] [May chg .locket] [May chg .isl] [May chg .power] {r0 s : State} (h : Kept chg
    r0 s) (x : Nat) : Kept chg r0 (xingRejoin s x) := by
  unfold xingRejoin
  repeat' (first
      | with_reducible assumption | intro _ | with_reducible apply Kept.wr | with_reducible apply send_kept
      | with_reducible apply raise_kept | with_reducible apply setIsland_kept | with_reducible apply setXing_kept
      | with_reducible apply settleClocks_kept | with_reducible apply islandBack_kept | with_reducible apply Kept.clearOd
      | with_reducible apply Kept.ite | with_reducible apply Kept.ite_fst | simp (disch := first
      | exact May.or | exact Or.inr rfl) only [Kept.mk_eq, Kept.field_eq, Kept.cameo_eq] | split | dsimp only)

theorem xingNotice_kept {chg : List Part} [May chg .free] [May chg .out] [May chg .fwQueue] [May chg .od] [May chg .mem] [May
    chg .ten] [May chg .clasp] [May chg .field] [May chg .raster] [May chg .compose] [May chg .heads] [May chg .ports] [May chg
    .touch] [May chg .hap] [May chg .audio] [May chg .memc] [May chg .isl] {r0 s : State} (h : Kept chg r0 s) (x : Nat) (side :
    Bool) : Kept chg r0 (xingNotice s x side) := by
  unfold xingNotice
  repeat' (first
      | with_reducible assumption | intro _ | with_reducible apply Kept.wr | with_reducible apply notice_kept
      | with_reducible apply assertReset_kept | with_reducible apply Kept.clearOd | with_reducible apply Kept.ite
      | with_reducible apply Kept.ite_fst | simp (disch := first
      | exact May.or | exact Or.inr rfl) only [Kept.mk_eq, Kept.field_eq, Kept.cameo_eq] | split | dsimp only)

theorem perstN_kept {chg : List Part} [May chg .free] [May chg .out] [May chg .fwQueue] [May chg .od] [May chg .mem] [May chg
    .ten] [May chg .clasp] [May chg .field] [May chg .raster] [May chg .compose] [May chg .heads] [May chg .ports] [May chg
    .touch] [May chg .hap] [May chg .audio] [May chg .memc] [May chg .isl] {r0 s : State} (h : Kept chg r0 s)  : Kept chg r0
    (perstN s) := by
  unfold perstN
  repeat' (first
      | with_reducible assumption | intro _ | with_reducible apply Kept.wr | with_reducible apply xingNotice_kept
      | with_reducible apply Kept.clearOd | with_reducible apply Kept.ite | with_reducible apply Kept.ite_fst
      | simp (disch := first | exact May.or | exact Or.inr rfl) only [Kept.mk_eq, Kept.field_eq, Kept.cameo_eq] | split
      | dsimp only)

theorem putRecord_kept {chg : List Part} [May chg .power] {r0 s : State} (h : Kept chg r0 s) (r : HallmarkRec) : Kept chg r0 (putRecord s r) := by
  unfold putRecord
  repeat' (first
      | with_reducible assumption | intro _ | with_reducible apply Kept.wr | with_reducible apply Kept.clearOd
      | with_reducible apply Kept.ite | with_reducible apply Kept.ite_fst | simp (disch := first
      | exact May.or | exact Or.inr rfl) only [Kept.mk_eq, Kept.field_eq, Kept.cameo_eq] | split | dsimp only)

theorem setImg_kept {chg : List Part} [May chg .flash] {r0 s : State} (h : Kept chg r0 s) (i : Nat) (x : ImgSlot) : Kept chg r0 (setImg s i x) := by
  unfold setImg
  repeat' (first
      | with_reducible assumption | intro _ | with_reducible apply Kept.wr | with_reducible apply Kept.clearOd
      | with_reducible apply Kept.ite | with_reducible apply Kept.ite_fst | simp (disch := first
      | exact May.or | exact Or.inr rfl) only [Kept.mk_eq, Kept.field_eq, Kept.cameo_eq] | split | dsimp only)

theorem writeImg_kept {chg : List Part} [May chg .flash] {r0 s : State} (h : Kept chg r0 s) (i : Nat) (bytes : List Byte) : Kept
    chg r0 (writeImg s i bytes) := by
  unfold writeImg
  repeat' (first
      | with_reducible assumption | intro _ | with_reducible apply Kept.wr | with_reducible apply setImg_kept
      | with_reducible apply Kept.clearOd | with_reducible apply Kept.ite | with_reducible apply Kept.ite_fst
      | simp (disch := first | exact May.or | exact Or.inr rfl) only [Kept.mk_eq, Kept.field_eq, Kept.cameo_eq] | split
      | dsimp only)

theorem verifyImg_kept {chg : List Part} [May chg .flash] {r0 s : State} (h : Kept chg r0 s) (i : Nat) : Kept chg r0 (verifyImg s i).1 := by
  unfold verifyImg
  repeat' (first
      | with_reducible assumption | intro _ | with_reducible apply Kept.wr | with_reducible apply setImg_kept
      | with_reducible apply Kept.clearOd | with_reducible apply Kept.ite | with_reducible apply Kept.ite_fst
      | simp (disch := first | exact May.or | exact Or.inr rfl) only [Kept.mk_eq, Kept.field_eq, Kept.cameo_eq] | split
      | dsimp only)

theorem flashImages_kept {chg : List Part} [May chg .flash] {r0 s : State} (h : Kept chg r0 s) (region : Nat) (off : Nat) (bs :
    List Byte) : Kept chg r0 (flashImages s region off bs) := by
  unfold flashImages
  repeat' (first
      | with_reducible assumption | intro _ | with_reducible apply Kept.wr | with_reducible apply writeImg_kept
      | with_reducible apply Kept.foldl | with_reducible apply Kept.clearOd | with_reducible apply Kept.ite
      | with_reducible apply Kept.ite_fst | simp (disch := first
      | exact May.or | exact Or.inr rfl) only [Kept.mk_eq, Kept.field_eq, Kept.cameo_eq] | split | dsimp only)

theorem flashRaw_kept {chg : List Part} [May chg .flash] [May chg .power] {r0 s : State} (h : Kept chg r0 s) (region : Nat) (off
    : Nat) (bs : List Byte) : Kept chg r0 (flashRaw s region off bs) := by
  unfold flashRaw
  repeat' (first
      | with_reducible assumption | intro _ | with_reducible apply Kept.wr | with_reducible apply Kept.foldl
      | with_reducible apply Kept.clearOd | with_reducible apply Kept.ite | with_reducible apply Kept.ite_fst
      | simp (disch := first | exact May.or | exact Or.inr rfl) only [Kept.mk_eq, Kept.field_eq, Kept.cameo_eq] | split
      | dsimp only)

theorem flashWrite_kept {chg : List Part} [May chg .flash] [May chg .power] {r0 s : State} (h : Kept chg r0 s) (region : Nat)
    (off : Nat) (bs : List Byte) : Kept chg r0 (flashWrite s region off bs) := by
  unfold flashWrite
  repeat' (first
      | with_reducible assumption | intro _ | with_reducible apply Kept.wr | with_reducible apply flashImages_kept
      | with_reducible apply flashRaw_kept | with_reducible apply Kept.clearOd | with_reducible apply Kept.ite
      | with_reducible apply Kept.ite_fst | simp (disch := first
      | exact May.or | exact Or.inr rfl) only [Kept.mk_eq, Kept.field_eq, Kept.cameo_eq] | split | dsimp only)

theorem haltRequest_kept {chg : List Part} [May chg .raster] [May chg .locket] {r0 s : State} (h : Kept chg r0 s) (t :
    HaltTarget) : Kept chg r0 (haltRequest s t) := by
  unfold haltRequest
  repeat' (first
      | with_reducible assumption | intro _ | with_reducible apply setCore_kept | with_reducible apply Kept.ite
      | with_reducible apply Kept.ite_fst | simp (disch := first
      | exact May.or | exact Or.inr rfl) only [Kept.mk_eq, Kept.field_eq, Kept.cameo_eq] | split | dsimp only)

theorem setShading_kept {chg : List Part} [May chg .raster] {r0 s : State} (h : Kept chg r0 s) (sel : Nat) (h : HartRec) : Kept
    chg r0 (setShading s sel h) := by
  unfold setShading
  repeat' (first
      | with_reducible assumption | intro _ | with_reducible apply Kept.wr | with_reducible apply setCore_kept
      | with_reducible apply Kept.clearOd | with_reducible apply Kept.ite | with_reducible apply Kept.ite_fst
      | simp (disch := first | exact May.or | exact Or.inr rfl) only [Kept.mk_eq, Kept.field_eq, Kept.cameo_eq] | split
      | dsimp only)

theorem setHartReg_kept {chg : List Part} [May chg .raster] [May chg .control] {r0 s t : State} {sel n v : Nat} (h : Kept chg r0
    s) (e : setHartReg s sel n v = some t) : Kept chg r0 t := by
  unfold setHartReg at e
  dsimp only at e
  split at e
  · exact nomatch e
  · split at e
    · split at e
      · exact Option.some.inj e ▸ setCpu_kept h _ _
      · split at e <;> exact Option.some.inj e ▸ setCpu_kept h _ _
    · split at e
      · obtain ⟨u, _, rfl⟩ := Option.map_eq_some_iff.mp e
        exact setShading_kept h _ _
      · split at e <;> exact Option.some.inj e ▸ setShading_kept h _ _

theorem setHartReg_getD_kept {chg : List Part} [May chg .raster] [May chg .control] {r0 s : State} (h : Kept chg r0 s) (sel n v
    : Nat) : Kept chg r0 ((setHartReg s sel n v).getD s) := by
  cases e : setHartReg s sel n v with
  | none => exact h
  | some t => exact setHartReg_kept h e

theorem resumeHart_kept {chg : List Part} [May chg .free] [May chg .raster] [May chg .control] [May chg .locket] {r0 s : State}
    (h : Kept chg r0 s) (sel : Nat) : Kept chg r0 (resumeHart s sel) := by
  unfold resumeHart
  repeat' (first
      | with_reducible assumption | intro _ | with_reducible apply Kept.wr | with_reducible apply drawn_kept
      | with_reducible apply setCpu_kept | with_reducible apply setShading_kept | with_reducible apply Kept.clearOd
      | with_reducible apply Kept.ite | with_reducible apply Kept.ite_fst | simp (disch := first
      | exact May.or | exact Or.inr rfl) only [Kept.mk_eq, Kept.field_eq, Kept.cameo_eq] | split | dsimp only)

/-- The state an instruction of the program buffer leaves. -/
def endState : ProgEnd → State
  | .on t => t
  | .done t => t
  | .trap t => t

theorem progLoad_kept {chg : List Part} [May chg .od] [May chg .ten] [May chg .field] [May chg .raster] [May chg .control] {r0 s
    : State} (h : Kept chg r0 s) (sel w : Nat) : Kept chg r0 (endState (progLoad s sel w)) := by
  unfold progLoad
  dsimp only
  have hb := busRead_kept h (sel == 4)
  split
  · rename_i e
    have := hb (((((hartReg s sel (0x1000 + fld w 15 5)).getD 0 : Nat) : Int) + imm12 (fld w 20 12)).toNat % 2 ^ 64)
      (2 ^ (fld w 12 3 % 4))
    rw [e] at this
    exact setHartReg_getD_kept this _ _ _
  · rename_i e
    have := hb (((((hartReg s sel (0x1000 + fld w 15 5)).getD 0 : Nat) : Int) + imm12 (fld w 20 12)).toNat % 2 ^ 64)
      (2 ^ (fld w 12 3 % 4))
    rw [e] at this
    exact this

theorem progStore_kept {chg : List Part} [May chg .od] [May chg .mem] [May chg .ten] [May chg .field] [May chg .memc] [May chg
    .control] {r0 s : State} (h : Kept chg r0 s) (sel w : Nat) : Kept chg r0 (endState (progStore s sel w)) := by
  unfold progStore
  dsimp only
  split <;> exact busWrite_kept h _ _ _

theorem progCsr_kept {chg : List Part} [May chg .raster] [May chg .control] {r0 s : State} (h : Kept chg r0 s) (sel w : Nat) :
    Kept chg r0 (endState (progCsr s sel w)) := by
  unfold progCsr
  dsimp only
  split
  · exact h
  · split
    · exact h
    · rename_i e
      refine setHartReg_getD_kept ?_ _ _ _
      split at e
      · exact Option.some.inj e ▸ h
      · exact setHartReg_kept h e

theorem progStep_kept {chg : List Part} [May chg .free] [May chg .od] [May chg .mem] [May chg .ten] [May chg .field] [May chg
    .raster] [May chg .memc] [May chg .control] {r0 s : State} (h : Kept chg r0 s) (sel w : Nat) : Kept chg r0 (endState
    (progStep s sel w)) := by
  unfold progStep
  dsimp only
  repeat' (first
      | with_reducible assumption | with_reducible exact progLoad_kept h _ _ | with_reducible exact progStore_kept h _ _
      | with_reducible exact progCsr_kept h _ _ | exact setHartReg_getD_kept h _ _ _
      | exact drawn_kept (setHartReg_getD_kept h _ _ _) | exact h | split)

theorem progRun_kept {chg : List Part} [May chg .free] [May chg .od] [May chg .mem] [May chg .ten] [May chg .field] [May chg
    .raster] [May chg .memc] [May chg .control] {r0 s : State} (h : Kept chg r0 s) (sel : Nat) (l : List Nat) : Kept chg r0
    (progRun s sel l).1 := by
  induction l generalizing s with
  | nil => exact h
  | cons w r ih =>
    have hp := progStep_kept h sel w
    rw [progRun]
    split <;> rename_i e <;> rw [e] at hp
    · exact ih hp
    · exact hp
    · exact hp

theorem setDm_kept {chg : List Part} [May chg .control] {r0 s : State} (h : Kept chg r0 s) (d : DebugMod) : Kept chg r0 (setDm s d) := by
  unfold setDm
  repeat' (first
      | with_reducible assumption | intro _ | with_reducible apply Kept.wr | with_reducible apply Kept.clearOd
      | with_reducible apply Kept.ite | with_reducible apply Kept.ite_fst | simp (disch := first
      | exact May.or | exact Or.inr rfl) only [Kept.mk_eq, Kept.field_eq, Kept.cameo_eq] | split | dsimp only)

theorem cmdErr_kept {chg : List Part} [May chg .control] {r0 s : State} (h : Kept chg r0 s) (e : Nat) : Kept chg r0 (cmdErr s e) := by
  unfold cmdErr
  repeat' (first
      | with_reducible assumption | intro _ | with_reducible apply Kept.wr | with_reducible apply setDm_kept
      | with_reducible apply Kept.clearOd | with_reducible apply Kept.ite | with_reducible apply Kept.ite_fst
      | simp (disch := first | exact May.or | exact Or.inr rfl) only [Kept.mk_eq, Kept.field_eq, Kept.cameo_eq] | split
      | dsimp only)

theorem setDmData_kept {chg : List Part} [May chg .control] {r0 s : State} (h : Kept chg r0 s) (i : Nat) (v : Nat) : Kept chg r0
    (setDmData s i v) := by
  unfold setDmData
  repeat' (first
      | with_reducible assumption | intro _ | with_reducible apply Kept.wr | with_reducible apply setDm_kept
      | with_reducible apply Kept.clearOd | with_reducible apply Kept.ite | with_reducible apply Kept.ite_fst
      | simp (disch := first | exact May.or | exact Or.inr rfl) only [Kept.mk_eq, Kept.field_eq, Kept.cameo_eq] | split
      | dsimp only)

theorem transfer_kept {chg : List Part} [May chg .raster] [May chg .control] {r0 s t : State} {sel cmd : Nat} (h : Kept chg r0
    s) (e : transfer s sel cmd = some t) : Kept chg r0 t := by
  unfold transfer at e
  dsimp only at e
  split at e
  · exact nomatch e
  · split at e
    · exact setHartReg_kept h e
    · rw [← Option.some.inj e]
      repeat' (first
          | with_reducible assumption | intro _ | with_reducible apply setDmData_kept | with_reducible apply Kept.ite
          | with_reducible apply Kept.ite_fst | simp (disch := first
          | exact May.or | exact Or.inr rfl) only [Kept.mk_eq, Kept.field_eq, Kept.cameo_eq] | split | dsimp only)

theorem command_kept {chg : List Part} [May chg .free] [May chg .od] [May chg .mem] [May chg .ten] [May chg .field] [May chg
    .raster] [May chg .memc] [May chg .control] {r0 s : State} (h : Kept chg r0 s) (cmd : Nat) : Kept chg r0 (command s cmd) :=
    by
  unfold command
  dsimp only
  split
  · exact setDm_kept h _
  · split
    · exact cmdErr_kept (setDm_kept h _) _
    · split
      · exact cmdErr_kept (setDm_kept h _) _
      · split
        · exact cmdErr_kept (setDm_kept h _) _
        · rename_i s1 e
          have h1 : Kept chg r0 s1 := by
            split at e
            · exact transfer_kept (setDm_kept h _) e
            · exact Option.some.inj e ▸ setDm_kept h _
          repeat' (first
              | with_reducible assumption | with_reducible apply cmdErr_kept | with_reducible apply progRun_kept
              | with_reducible apply setDm_kept | with_reducible apply Kept.ite | split)

theorem autoExec_kept {chg : List Part} [May chg .free] [May chg .od] [May chg .mem] [May chg .ten] [May chg .field] [May chg
    .raster] [May chg .memc] [May chg .control] {r0 s : State} (h : Kept chg r0 s) (bit : Nat) : Kept chg r0 (autoExec s bit) :=
    by
  unfold autoExec
  repeat' (first
      | with_reducible assumption | intro _ | with_reducible apply Kept.wr | with_reducible apply command_kept
      | with_reducible apply Kept.clearOd | with_reducible apply Kept.ite | with_reducible apply Kept.ite_fst
      | simp (disch := first | exact May.or | exact Or.inr rfl) only [Kept.mk_eq, Kept.field_eq, Kept.cameo_eq] | split
      | dsimp only)

theorem systemBus_kept {chg : List Part} [May chg .od] [May chg .mem] [May chg .ten] [May chg .clasp] [May chg .field] [May chg
    .memc] [May chg .control] {r0 s : State} (h : Kept chg r0 s) (v : Option Nat) : Kept chg r0 (systemBus s v) := by
  unfold systemBus
  dsimp only
  repeat' (first | with_reducible assumption | with_reducible apply setDm_kept | with_reducible apply busWrite_kept | split)
  all_goals
    rename_i e
    have hb := busRead_kept h (enableOn s 2) s.control.dm.sbAddr (2 ^ s.control.dm.sbAccess)
    rw [e] at hb
    exact hb

theorem dmControl_kept {chg : List Part} [May chg .free] [May chg .raster] [May chg .control] [May chg .locket] {r0 s : State}
    (h : Kept chg r0 s) (v : Nat) : Kept chg r0 (dmControl s v) := by
  unfold dmControl
  repeat' (first
      | with_reducible assumption | intro _ | with_reducible apply Kept.wr | with_reducible apply haltRequest_kept
      | with_reducible apply resumeHart_kept | with_reducible apply setDm_kept | with_reducible apply Kept.clearOd
      | with_reducible apply Kept.ite | with_reducible apply Kept.ite_fst | simp (disch := first
      | exact May.or | exact Or.inr rfl) only [Kept.mk_eq, Kept.field_eq, Kept.cameo_eq] | split | dsimp only)

theorem dmRead_kept {chg : List Part} [May chg .free] [May chg .od] [May chg .mem] [May chg .ten] [May chg .clasp] [May chg
    .field] [May chg .raster] [May chg .memc] [May chg .control] {r0 s : State} (h : Kept chg r0 s) (a : Nat) : Kept chg r0
    (dmRead s a).1 := by
  unfold dmRead
  repeat' (first
      | with_reducible assumption | intro _ | with_reducible apply Kept.wr | with_reducible apply autoExec_kept
      | with_reducible apply systemBus_kept | with_reducible apply Kept.clearOd | with_reducible apply Kept.ite
      | with_reducible apply Kept.ite_fst | simp (disch := first
      | exact May.or | exact Or.inr rfl) only [Kept.mk_eq, Kept.field_eq, Kept.cameo_eq] | split | dsimp only)

theorem dmWrite_kept {chg : List Part} [May chg .free] [May chg .od] [May chg .mem] [May chg .ten] [May chg .clasp] [May chg
    .field] [May chg .raster] [May chg .memc] [May chg .control] [May chg .locket] {r0 s : State} (h : Kept chg r0 s) (a : Nat)
    (v : Nat) : Kept chg r0 (dmWrite s a v) := by
  unfold dmWrite
  repeat' (first
      | with_reducible assumption | intro _ | with_reducible apply Kept.wr | with_reducible apply setDm_kept
      | with_reducible apply setDmData_kept | with_reducible apply command_kept | with_reducible apply autoExec_kept
      | with_reducible apply systemBus_kept | with_reducible apply dmControl_kept | with_reducible apply Kept.clearOd
      | with_reducible apply Kept.ite | with_reducible apply Kept.ite_fst | simp (disch := first
      | exact May.or | exact Or.inr rfl) only [Kept.mk_eq, Kept.field_eq, Kept.cameo_eq] | split | dsimp only)

theorem dmiScan_kept {chg : List Part} [May chg .free] [May chg .out] [May chg .od] [May chg .mem] [May chg .ten] [May chg
    .clasp] [May chg .field] [May chg .raster] [May chg .memc] [May chg .control] [May chg .locket] {r0 s : State} (h : Kept chg
    r0 s) (shift : Nat) : Kept chg r0 (dmiScan s shift) := by
  unfold dmiScan
  repeat' (first
      | with_reducible assumption | intro _ | with_reducible apply Kept.wr | with_reducible apply send_kept
      | with_reducible apply setDm_kept | with_reducible apply dmRead_kept | with_reducible apply dmWrite_kept
      | with_reducible apply Kept.clearOd | with_reducible apply Kept.ite | with_reducible apply Kept.ite_fst
      | simp (disch := first | exact May.or | exact Or.inr rfl) only [Kept.mk_eq, Kept.field_eq, Kept.cameo_eq] | split
      | dsimp only)

theorem gateReply_kept {chg : List Part} [May chg .out] [May chg .mem] [May chg .memc] [May chg .control] {r0 s : State} (h :
    Kept chg r0 s) (cc : Nat) (a0 : Nat) (a1 : Nat) : Kept chg r0 (gateReply s cc a0 a1) := by
  unfold gateReply
  repeat' (first
      | with_reducible assumption | intro _ | with_reducible apply Kept.wr | with_reducible apply send_kept
      | with_reducible apply gateScrub_kept | with_reducible apply Kept.clearOd | with_reducible apply Kept.ite
      | with_reducible apply Kept.ite_fst | simp (disch := first
      | exact May.or | exact Or.inr rfl) only [Kept.mk_eq, Kept.field_eq, Kept.cameo_eq] | split | dsimp only)

theorem gateAnswer_kept {chg : List Part} [May chg .out] [May chg .mem] [May chg .memc] [May chg .control] {r0 s : State} (h :
    Kept chg r0 s) (cc : Nat) (a0 : Nat) : Kept chg r0 (gateAnswer s cc a0) := by
  unfold gateAnswer
  repeat' (first
      | with_reducible assumption | intro _ | with_reducible apply Kept.wr | with_reducible apply send_kept
      | with_reducible apply gateRefused_kept | with_reducible apply Kept.clearOd | with_reducible apply Kept.ite
      | with_reducible apply Kept.ite_fst | simp (disch := first
      | exact May.or | exact Or.inr rfl) only [Kept.mk_eq, Kept.field_eq, Kept.cameo_eq] | split | dsimp only)

theorem gate_kept {chg : List Part} [May chg .out] [May chg .mem] [May chg .memc] [May chg .control] {r0 s : State} {k : State →
    State} (h : Kept chg r0 s) (cc : Nat) (hk : ∀ t, Kept chg r0 t → Kept chg r0 (k t)) :
    Kept chg r0 (gate s cc k) := by
  unfold gate
  repeat' (first
      | with_reducible assumption | with_reducible apply hk | with_reducible apply flushL1_kept
      | with_reducible apply gateAnswer_kept | split)

theorem queueCall_kept {chg : List Part} [May chg .out] [May chg .mem] [May chg .memc] [May chg .control] [May chg .locket] {r0
    s : State} (h : Kept chg r0 s) (cc : Nat) (num : Nat) (args : List Nat) : Kept chg r0 (queueCall s cc num args) := by
  unfold queueCall
  repeat' (first
      | with_reducible assumption | intro _ | with_reducible apply Kept.wr | with_reducible apply gateReply_kept
      | with_reducible apply Kept.clearOd | with_reducible apply Kept.ite | with_reducible apply Kept.ite_fst
      | simp (disch := first | exact May.or | exact Or.inr rfl) only [Kept.mk_eq, Kept.field_eq, Kept.cameo_eq] | split
      | dsimp only)

theorem physWr_kept {chg : List Part} [May chg .mem] [May chg .memc] {r0 s : State} (h : Kept chg r0 s) (a : Nat) (bs : List
    Byte) : Kept chg r0 (physWr s a bs) := by
  unfold physWr
  repeat' (first
      | with_reducible assumption | intro _ | with_reducible apply Kept.wr | with_reducible apply memWrAll_kept
      | with_reducible apply Kept.clearOd | with_reducible apply Kept.ite | with_reducible apply Kept.ite_fst
      | simp (disch := first | exact May.or | exact Or.inr rfl) only [Kept.mk_eq, Kept.field_eq, Kept.cameo_eq] | split
      | dsimp only)

theorem resultCall_kept {chg : List Part} [May chg .out] [May chg .mem] [May chg .memc] [May chg .control] {r0 s : State} (h :
    Kept chg r0 s) (cc : Nat) (ticket : Nat) : Kept chg r0 (resultCall s cc ticket) := by
  unfold resultCall
  repeat' (first
      | with_reducible assumption | intro _ | with_reducible apply Kept.wr | with_reducible apply gateReply_kept
      | with_reducible apply Kept.clearOd | with_reducible apply Kept.ite | with_reducible apply Kept.ite_fst
      | simp (disch := first | exact May.or | exact Or.inr rfl) only [Kept.mk_eq, Kept.field_eq, Kept.cameo_eq] | split
      | dsimp only)

theorem ownAssign_kept {chg : List Part} [May chg .out] [May chg .fwQueue] [May chg .od] [May chg .mem] [May chg .clasp] [May
    chg .ports] [May chg .cameo] [May chg .memc] [May chg .control] [May chg .locket] {r0 s : State} (h : Kept chg r0 s) (cc :
    Nat) (b : Nat) (o : Nat) : Kept chg r0 (ownAssign s cc b o) := by
  unfold ownAssign
  repeat' (first
      | with_reducible assumption | intro _ | with_reducible apply Kept.wr | with_reducible apply cvRelease_kept
      | with_reducible apply gateReply_kept | with_reducible apply queueCall_kept | with_reducible apply Kept.clearOd
      | with_reducible apply Kept.ite | with_reducible apply Kept.ite_fst | simp (disch := first
      | exact May.or | exact Or.inr rfl) only [Kept.mk_eq, Kept.field_eq, Kept.cameo_eq] | split | dsimp only)

theorem flashCall_kept {chg : List Part} [May chg .out] [May chg .mem] [May chg .memc] [May chg .control] [May chg .locket] {r0
    s : State} (h : Kept chg r0 s) (cc : Nat) (num : Nat) (region : Nat) (off : Nat) (phys : Nat) (len : Nat) : Kept chg r0
    (flashCall s cc num region off phys len) := by
  unfold flashCall
  repeat' (first
      | with_reducible assumption | intro _ | with_reducible apply Kept.wr | with_reducible apply gateReply_kept
      | with_reducible apply queueCall_kept | with_reducible apply Kept.clearOd | with_reducible apply Kept.ite
      | with_reducible apply Kept.ite_fst | simp (disch := first
      | exact May.or | exact Or.inr rfl) only [Kept.mk_eq, Kept.field_eq, Kept.cameo_eq] | split | dsimp only)

theorem issueChallenge_kept {chg : List Part} [May chg .free] [May chg .od] [May chg .locket] {r0 s : State} (h : Kept chg r0 s)
    (mask : Nat) : Kept chg r0 (issueChallenge s mask) := by
  unfold issueChallenge
  repeat' (first
      | with_reducible assumption | intro _ | with_reducible apply Kept.wr | with_reducible apply Kept.clearOd
      | with_reducible apply Kept.ite | with_reducible apply Kept.ite_fst | simp (disch := first
      | exact May.or | exact Or.inr rfl) only [Kept.mk_eq, Kept.field_eq, Kept.cameo_eq] | split | dsimp only)

theorem unlockEnd_kept {chg : List Part} [May chg .out] [May chg .fwQueue] [May chg .od] {r0 s : State} (h : Kept chg r0 s)
    (good : Bool) : Kept chg r0 (unlockEnd s good) := by
  unfold unlockEnd
  repeat' (first
      | with_reducible assumption | intro _ | with_reducible apply Kept.wr | with_reducible apply bump_kept
      | with_reducible apply raise_kept | with_reducible apply Kept.foldl | with_reducible apply Kept.clearOd
      | with_reducible apply Kept.ite | with_reducible apply Kept.ite_fst | simp (disch := first
      | exact May.or | exact Or.inr rfl) only [Kept.mk_eq, Kept.field_eq, Kept.cameo_eq] | split | dsimp only)

theorem unlockVerified_kept {chg : List Part} [May chg .out] [May chg .fwQueue] [May chg .od] [May chg .locket] {r0 s : State}
    (h : Kept chg r0 s)  : Kept chg r0 (unlockVerified s) := by
  unfold unlockVerified
  repeat' (first
      | with_reducible assumption | intro _ | with_reducible apply Kept.wr | with_reducible apply unlockEnd_kept
      | with_reducible apply Kept.clearOd | with_reducible apply Kept.ite | with_reducible apply Kept.ite_fst
      | simp (disch := first | exact May.or | exact Or.inr rfl) only [Kept.mk_eq, Kept.field_eq, Kept.cameo_eq] | split
      | dsimp only)

theorem takeResponse_kept {chg : List Part} [May chg .od] [May chg .locket] {r0 s d : State} (h : Kept chg r0 s) (hd : Kept chg
    r0 d) (bytes : List Byte) :
    Kept chg r0 ((takeResponse s bytes).getD d) := by
  unfold takeResponse
  split
  · rw [Option.getD_some]
    repeat' (first
        | with_reducible assumption | intro _ | with_reducible apply Kept.wr | with_reducible apply Kept.ite
        | with_reducible apply Kept.ite_fst | simp (disch := first
        | exact May.or | exact Or.inr rfl) only [Kept.mk_eq, Kept.field_eq, Kept.cameo_eq] | split | dsimp only)
  · exact hd

theorem serveCall_kept {chg : List Part} [May chg .free] [May chg .out] [May chg .fwQueue] [May chg .od] [May chg .mem] [May chg
    .memc] [May chg .locket] [May chg .flash] [May chg .power] {r0 s : State} (h : Kept chg r0 s) (q : LktCall) : Kept chg r0
    (serveCall s q).1 := by
  unfold serveCall
  repeat' (first
      | with_reducible assumption | intro _ | with_reducible apply Kept.wr | with_reducible apply verifyImg_kept
      | with_reducible apply flashWrite_kept | with_reducible apply physWr_kept | with_reducible apply unlockEnd_kept
      | with_reducible apply Kept.foldl | with_reducible apply Kept.clearOd | with_reducible apply Kept.ite
      | with_reducible apply Kept.ite_fst | simp (disch := first
      | exact May.or | exact Or.inr rfl) only [Kept.mk_eq, Kept.field_eq, Kept.cameo_eq] | split | dsimp only)

theorem endCall_kept {chg : List Part} [May chg .free] [May chg .out] [May chg .fwQueue] [May chg .od] [May chg .mem] [May chg
    .memc] [May chg .locket] [May chg .flash] [May chg .power] {r0 s : State} (h : Kept chg r0 s) (ticket : Nat) (status : Nat)
    (value : Nat) : Kept chg r0 (endCall s ticket status value) := by
  unfold endCall
  repeat' (first
      | with_reducible assumption | intro _ | with_reducible apply Kept.wr | with_reducible apply raise_kept
      | with_reducible apply Kept.clearOd | with_reducible apply Kept.ite | with_reducible apply Kept.ite_fst
      | simp (disch := first | exact May.or | exact Or.inr rfl) only [Kept.mk_eq, Kept.field_eq, Kept.cameo_eq] | split
      | dsimp only)

theorem lktDone_kept {chg : List Part} [May chg .free] [May chg .out] [May chg .fwQueue] [May chg .od] [May chg .mem] [May chg
    .memc] [May chg .locket] [May chg .flash] [May chg .power] {r0 s : State} (h : Kept chg r0 s)  : Kept chg r0 (lktDone s) :=
    by
  unfold lktDone
  repeat' (first
      | with_reducible assumption | intro _ | with_reducible apply Kept.wr | with_reducible apply serveCall_kept
      | with_reducible apply endCall_kept | with_reducible apply Kept.clearOd | with_reducible apply Kept.ite
      | with_reducible apply Kept.ite_fst | simp (disch := first
      | exact May.or | exact Or.inr rfl) only [Kept.mk_eq, Kept.field_eq, Kept.cameo_eq] | split | dsimp only)

theorem endAll_kept {chg : List Part} [May chg .free] [May chg .out] [May chg .fwQueue] [May chg .od] [May chg .mem] [May chg
    .memc] [May chg .locket] [May chg .flash] [May chg .power] {r0 s : State} (h : Kept chg r0 s) (status : Nat) : Kept chg r0
    (endAll s status) := by
  unfold endAll
  repeat' (first
      | with_reducible assumption | intro _ | with_reducible apply Kept.wr | with_reducible apply endCall_kept
      | with_reducible apply Kept.foldl | with_reducible apply Kept.clearOd | with_reducible apply Kept.ite
      | with_reducible apply Kept.ite_fst | simp (disch := first
      | exact May.or | exact Or.inr rfl) only [Kept.mk_eq, Kept.field_eq, Kept.cameo_eq] | split | dsimp only)

theorem handoverRelease_kept {chg : List Part} [May chg .out] [May chg .fwQueue] [May chg .od] [May chg .clasp] [May chg .ports]
    [May chg .cameo] [May chg .locket] {r0 s : State} (h : Kept chg r0 s) (b : Nat) : Kept chg r0 (handoverRelease s b) := by
  unfold handoverRelease
  repeat' (first
      | with_reducible assumption | intro _ | with_reducible apply Kept.wr | with_reducible apply releaseEffect_kept
      | with_reducible apply Kept.clearOd | with_reducible apply Kept.ite | with_reducible apply Kept.ite_fst
      | simp (disch := first | exact May.or | exact Or.inr rfl) only [Kept.mk_eq, Kept.field_eq, Kept.cameo_eq] | split
      | dsimp only)

theorem handoverGrant_kept {chg : List Part} [May chg .out] [May chg .fwQueue] [May chg .od] [May chg .clasp] [May chg .ports]
    [May chg .cameo] [May chg .locket] {r0 s : State} (h : Kept chg r0 s) (b : Nat) : Kept chg r0 (handoverGrant s b) := by
  unfold handoverGrant
  repeat' (first
      | with_reducible assumption | intro _ | with_reducible apply Kept.wr | with_reducible apply bump_kept
      | with_reducible apply raise_kept | with_reducible apply ok_kept | with_reducible apply setCv_kept
      | with_reducible apply setHand_kept | with_reducible apply cvRelease_kept | with_reducible apply Kept.clearOd
      | with_reducible apply Kept.ite | with_reducible apply Kept.ite_fst | simp (disch := first
      | exact May.or | exact Or.inr rfl) only [Kept.mk_eq, Kept.field_eq, Kept.cameo_eq] | split | dsimp only)

theorem mailboxReply_kept {chg : List Part} [May chg .out] {r0 s : State} (h : Kept chg r0 s) (code : Nat) (value : Nat) : Kept
    chg r0 (mailboxReply s code value) := by
  unfold mailboxReply
  repeat' (first
      | with_reducible assumption | intro _ | with_reducible apply Kept.wr | with_reducible apply send_kept
      | with_reducible apply Kept.clearOd | with_reducible apply Kept.ite | with_reducible apply Kept.ite_fst
      | simp (disch := first | exact May.or | exact Or.inr rfl) only [Kept.mk_eq, Kept.field_eq, Kept.cameo_eq] | split
      | dsimp only)

theorem mailbox_kept {chg : List Part} {r0 s k : State} (h : Kept chg r0 s) (hk : Kept chg r0 k) : Kept chg r0 (mailbox s k) := by
  unfold mailbox
  repeat' (first
      | with_reducible assumption | intro _ | with_reducible apply Kept.ite | with_reducible apply Kept.ite_fst
      | simp (disch := first | exact May.or | exact Or.inr rfl) only [Kept.mk_eq, Kept.field_eq, Kept.cameo_eq] | split
      | dsimp only)

theorem tctx_kept {chg : List Part} [May chg .out] [May chg .mem] [May chg .raster] [May chg .memc] {r0 s : State} (h : Kept chg
    r0 s) (n : Nat) (create : Bool) (desc : Nat) : Kept chg r0 (tctx s n create desc) := by
  unfold tctx
  repeat' (first
      | with_reducible assumption | intro _ | with_reducible apply Kept.wr | with_reducible apply addRender_kept
      | with_reducible apply leaveRender_kept | with_reducible apply mailboxReply_kept | with_reducible apply Kept.clearOd
      | with_reducible apply Kept.ite | with_reducible apply Kept.ite_fst | simp (disch := first
      | exact May.or | exact Or.inr rfl) only [Kept.mk_eq, Kept.field_eq, Kept.cameo_eq] | split | dsimp only)

theorem tsubmit_kept {chg : List Part} [May chg .free] [May chg .out] [May chg .fwQueue] [May chg .od] [May chg .dom] [May chg
    .mem] [May chg .ten] [May chg .clasp] [May chg .dict] [May chg .field] [May chg .raster] [May chg .compose] [May chg .heads]
    [May chg .ports] [May chg .cameo] [May chg .touch] [May chg .hap] [May chg .audio] [May chg .memc] [May chg .locket] [May
    chg .flash] [May chg .isl] [May chg .power] {r0 s : State} (h : Kept chg r0 s) (n : Nat) (record : Nat) : Kept chg r0
    (tsubmit s n record) := by
  unfold tsubmit
  repeat' (first
      | with_reducible assumption | intro _ | with_reducible apply Kept.wr | with_reducible apply enqueueSub_kept
      | with_reducible apply mailboxReply_kept | with_reducible apply Kept.clearOd | with_reducible apply Kept.ite
      | with_reducible apply Kept.ite_fst | simp (disch := first
      | exact May.or | exact Or.inr rfl) only [Kept.mk_eq, Kept.field_eq, Kept.cameo_eq] | split | dsimp only)

theorem abandonContext_kept {chg : List Part} [May chg .raster] {r0 s : State} (h : Kept chg r0 s) (key : Nat) : Kept chg r0
    (abandonContext s key) := by
  unfold abandonContext
  repeat' (first
      | with_reducible assumption | intro _ | with_reducible apply Kept.wr | with_reducible apply setRctx_kept
      | with_reducible apply Kept.clearOd | with_reducible apply Kept.ite | with_reducible apply Kept.ite_fst
      | simp (disch := first | exact May.or | exact Or.inr rfl) only [Kept.mk_eq, Kept.field_eq, Kept.cameo_eq] | split
      | dsimp only)

theorem abandonTrusted_kept {chg : List Part} [May chg .raster] {r0 s : State} (h : Kept chg r0 s)  : Kept chg r0 (abandonTrusted s) := by
  unfold abandonTrusted
  repeat' (first
      | with_reducible assumption | intro _ | with_reducible apply Kept.wr | with_reducible apply abandonContext_kept
      | with_reducible apply Kept.foldl | with_reducible apply Kept.clearOd | with_reducible apply Kept.ite
      | with_reducible apply Kept.ite_fst | simp (disch := first
      | exact May.or | exact Or.inr rfl) only [Kept.mk_eq, Kept.field_eq, Kept.cameo_eq] | split | dsimp only)

theorem lktFail_kept {chg : List Part} [May chg .free] [May chg .out] [May chg .fwQueue] [May chg .od] [May chg .mem] [May chg
    .field] [May chg .memc] [May chg .locket] [May chg .flash] [May chg .power] [May chg .boot] {r0 s : State} (h : Kept chg r0
    s)  : Kept chg r0 (lktFail s) := by
  unfold lktFail
  repeat' (first
      | with_reducible assumption | intro _ | with_reducible apply Kept.wr | with_reducible apply raise_kept
      | with_reducible apply lastingEmcy_kept | with_reducible apply latchFault_kept | with_reducible apply endAll_kept
      | with_reducible apply Kept.clearOd | with_reducible apply Kept.ite | with_reducible apply Kept.ite_fst
      | simp (disch := first | exact May.or | exact Or.inr rfl) only [Kept.mk_eq, Kept.field_eq, Kept.cameo_eq] | split
      | dsimp only)

theorem lktRestart_kept {chg : List Part} [May chg .free] [May chg .out] [May chg .fwQueue] [May chg .od] [May chg .mem] [May
    chg .field] [May chg .raster] [May chg .memc] [May chg .control] [May chg .locket] [May chg .flash] [May chg .power] [May
    chg .boot] {r0 s : State} (h : Kept chg r0 s)  : Kept chg r0 (lktRestart s) := by
  unfold lktRestart
  repeat' (first
      | with_reducible assumption | intro _ | with_reducible apply Kept.wr | with_reducible apply bump_kept
      | with_reducible apply raise_kept | with_reducible apply endLasting_kept | with_reducible apply lastingEmcy_kept
      | with_reducible apply resetTc_kept | with_reducible apply abandonTrusted_kept | with_reducible apply lktFail_kept
      | with_reducible apply Kept.foldl | with_reducible apply Kept.clearOd | with_reducible apply Kept.ite
      | with_reducible apply Kept.ite_fst | simp (disch := first
      | exact May.or | exact Or.inr rfl) only [Kept.mk_eq, Kept.field_eq, Kept.cameo_eq] | split | dsimp only)

theorem lktResumed_kept {chg : List Part} [May chg .free] [May chg .out] [May chg .fwQueue] [May chg .od] [May chg .mem] [May
    chg .field] [May chg .touch] [May chg .memc] [May chg .locket] [May chg .flash] [May chg .power] {r0 s : State} (h : Kept
    chg r0 s)  : Kept chg r0 (lktResumed s) := by
  unfold lktResumed
  repeat' (first
      | with_reducible assumption | intro _ | with_reducible apply Kept.wr | with_reducible apply raise_kept
      | with_reducible apply endLasting_kept | with_reducible apply trustedResume_kept | with_reducible apply endAll_kept
      | with_reducible apply Kept.foldl | with_reducible apply Kept.clearOd | with_reducible apply Kept.ite
      | with_reducible apply Kept.ite_fst | simp (disch := first
      | exact May.or | exact Or.inr rfl) only [Kept.mk_eq, Kept.field_eq, Kept.cameo_eq] | split | dsimp only)

theorem setIr_kept {chg : List Part} [May chg .locket] {r0 s : State} (h : Kept chg r0 s) (ir : Nat) : Kept chg r0 (setIr s ir) := by
  unfold setIr
  repeat' (first
      | with_reducible assumption | intro _ | with_reducible apply Kept.wr | with_reducible apply Kept.clearOd
      | with_reducible apply Kept.ite | with_reducible apply Kept.ite_fst | simp (disch := first
      | exact May.or | exact Or.inr rfl) only [Kept.mk_eq, Kept.field_eq, Kept.cameo_eq] | split | dsimp only)

theorem extest_kept {chg : List Part} [May chg .out] [May chg .locket] {r0 s : State} (h : Kept chg r0 s) (ir : Nat) (pins :
    Nat) : Kept chg r0 (extest s ir pins) := by
  unfold extest
  repeat' (first
      | with_reducible assumption | intro _ | with_reducible apply Kept.wr | with_reducible apply send_kept
      | with_reducible apply setIr_kept | with_reducible apply Kept.clearOd | with_reducible apply Kept.ite
      | with_reducible apply Kept.ite_fst | simp (disch := first
      | exact May.or | exact Or.inr rfl) only [Kept.mk_eq, Kept.field_eq, Kept.cameo_eq] | split | dsimp only)

theorem loupeMbox_kept {chg : List Part} [May chg .out] [May chg .od] [May chg .locket] {r0 s : State} (h : Kept chg r0 s)
    (shift : Nat) : Kept chg r0 (loupeMbox s shift) := by
  unfold loupeMbox
  repeat' (first
      | with_reducible assumption | intro _ | with_reducible apply Kept.wr | with_reducible apply send_kept
      | with_reducible apply takeResponse_kept | with_reducible apply setIr_kept | with_reducible apply Kept.clearOd
      | with_reducible apply Kept.ite | with_reducible apply Kept.ite_fst | simp (disch := first
      | exact May.or | exact Or.inr rfl) only [Kept.mk_eq, Kept.field_eq, Kept.cameo_eq] | split | dsimp only)

theorem startVertex_kept {chg : List Part} [May chg .free] [May chg .out] [May chg .fwQueue] [May chg .od] [May chg .dom] [May
    chg .mem] [May chg .ten] [May chg .clasp] [May chg .dict] [May chg .field] [May chg .raster] [May chg .compose] [May chg
    .heads] [May chg .ports] [May chg .cameo] [May chg .touch] [May chg .hap] [May chg .audio] [May chg .memc] [May chg .locket]
    [May chg .flash] [May chg .isl] [May chg .power] {r0 s : State} (h : Kept chg r0 s) (core : Nat) (lvl : Nat) (key : Nat) :
    Kept chg r0 (startVertex s core lvl key) := by
  unfold startVertex
  repeat' (first
      | with_reducible assumption | intro _ | with_reducible apply Kept.wr | with_reducible apply setRctx_kept
      | with_reducible apply setCore_kept | with_reducible apply missRender_kept | with_reducible apply advance_kept
      | with_reducible apply Kept.clearOd | with_reducible apply Kept.ite | with_reducible apply Kept.ite_fst
      | simp (disch := first | exact May.or | exact Or.inr rfl) only [Kept.mk_eq, Kept.field_eq, Kept.cameo_eq] | split
      | dsimp only)

theorem startWorkgroup_kept {chg : List Part} [May chg .raster] {r0 s : State} (h : Kept chg r0 s) (core : Nat) (lvl : Nat) (c :
    Nat) : Kept chg r0 (startWorkgroup s core lvl c) := by
  unfold startWorkgroup
  repeat' (first
      | with_reducible assumption | intro _ | with_reducible apply Kept.wr | with_reducible apply setCctx_kept
      | with_reducible apply setCore_kept | with_reducible apply Kept.foldl | with_reducible apply Kept.clearOd
      | with_reducible apply Kept.ite | with_reducible apply Kept.ite_fst | simp (disch := first
      | exact May.or | exact Or.inr rfl) only [Kept.mk_eq, Kept.field_eq, Kept.cameo_eq] | split | dsimp only)

theorem corePickUnit_kept {chg : List Part} [May chg .free] [May chg .out] [May chg .fwQueue] [May chg .od] [May chg .dom] [May
    chg .mem] [May chg .ten] [May chg .clasp] [May chg .dict] [May chg .field] [May chg .raster] [May chg .compose] [May chg
    .heads] [May chg .ports] [May chg .cameo] [May chg .touch] [May chg .hap] [May chg .audio] [May chg .memc] [May chg .locket]
    [May chg .flash] [May chg .isl] [May chg .power] {r0 s : State} (h : Kept chg r0 s) (core : Nat) : Kept chg r0 (corePickUnit
    s core) := by
  unfold corePickUnit
  repeat' (first
      | with_reducible assumption | intro _ | with_reducible apply Kept.wr | with_reducible apply setCore_kept
      | with_reducible apply startVertex_kept | with_reducible apply startWorkgroup_kept | with_reducible apply Kept.clearOd
      | with_reducible apply Kept.ite | with_reducible apply Kept.ite_fst | simp (disch := first
      | exact May.or | exact Or.inr rfl) only [Kept.mk_eq, Kept.field_eq, Kept.cameo_eq] | split | dsimp only)

theorem workgroupEnd_kept {chg : List Part} [May chg .raster] {r0 s : State} (h : Kept chg r0 s) (core : Nat) : Kept chg r0
    (workgroupEnd s core) := by
  unfold workgroupEnd
  repeat' (first
      | with_reducible assumption | intro _ | with_reducible apply Kept.wr | with_reducible apply setCctx_kept
      | with_reducible apply setCore_kept | with_reducible apply Kept.clearOd | with_reducible apply Kept.ite
      | with_reducible apply Kept.ite_fst | simp (disch := first
      | exact May.or | exact Or.inr rfl) only [Kept.mk_eq, Kept.field_eq, Kept.cameo_eq] | split | dsimp only)

theorem workgroupYield_kept {chg : List Part} [May chg .raster] {r0 s : State} (h : Kept chg r0 s) (core : Nat) : Kept chg r0
    (workgroupYield s core) := by
  unfold workgroupYield
  repeat' (first
      | with_reducible assumption | intro _ | with_reducible apply Kept.wr | with_reducible apply setCore_kept
      | with_reducible apply Kept.clearOd | with_reducible apply Kept.ite | with_reducible apply Kept.ite_fst
      | simp (disch := first | exact May.or | exact Or.inr rfl) only [Kept.mk_eq, Kept.field_eq, Kept.cameo_eq] | split
      | dsimp only)

theorem wgSaved_kept {chg : List Part} [May chg .free] [May chg .out] [May chg .fwQueue] [May chg .od] [May chg .dom] [May chg
    .mem] [May chg .ten] [May chg .clasp] [May chg .dict] [May chg .field] [May chg .raster] [May chg .compose] [May chg .heads]
    [May chg .ports] [May chg .cameo] [May chg .touch] [May chg .hap] [May chg .audio] [May chg .memc] [May chg .locket] [May
    chg .flash] [May chg .isl] [May chg .power] {r0 s : State} (h : Kept chg r0 s) (core : Nat) : Kept chg r0 (wgSaved s core)
    := by
  unfold wgSaved
  repeat' (first
      | with_reducible assumption | intro _ | with_reducible apply Kept.wr | with_reducible apply raise_kept
      | with_reducible apply winWr_kept | with_reducible apply windowViolation_kept | with_reducible apply setCctx_kept
      | with_reducible apply setCore_kept | with_reducible apply faultCompute_kept | with_reducible apply Kept.clearOd
      | with_reducible apply Kept.ite | with_reducible apply Kept.ite_fst | simp (disch := first
      | exact May.or | exact Or.inr rfl) only [Kept.mk_eq, Kept.field_eq, Kept.cameo_eq] | split | dsimp only)

theorem workgroupRestored_kept {chg : List Part} [May chg .free] [May chg .out] [May chg .fwQueue] [May chg .od] [May chg .dom]
    [May chg .mem] [May chg .ten] [May chg .clasp] [May chg .dict] [May chg .field] [May chg .raster] [May chg .compose] [May
    chg .heads] [May chg .ports] [May chg .cameo] [May chg .touch] [May chg .hap] [May chg .audio] [May chg .memc] [May chg
    .locket] [May chg .flash] [May chg .isl] [May chg .power] {r0 s : State} (h : Kept chg r0 s) (core : Nat) : Kept chg r0
    (workgroupRestored s core) := by
  unfold workgroupRestored
  repeat' (first
      | with_reducible assumption | intro _ | with_reducible apply Kept.wr | with_reducible apply windowViolation_kept
      | with_reducible apply setCore_kept | with_reducible apply faultCompute_kept | with_reducible apply Kept.foldl
      | with_reducible apply Kept.clearOd | with_reducible apply Kept.ite | with_reducible apply Kept.ite_fst
      | simp (disch := first | exact May.or | exact Or.inr rfl) only [Kept.mk_eq, Kept.field_eq, Kept.cameo_eq] | split
      | dsimp only)

theorem tileOverrun_kept {chg : List Part} [May chg .free] [May chg .out] [May chg .fwQueue] [May chg .od] [May chg .dom] [May
    chg .mem] [May chg .ten] [May chg .clasp] [May chg .dict] [May chg .field] [May chg .raster] [May chg .compose] [May chg
    .heads] [May chg .ports] [May chg .cameo] [May chg .touch] [May chg .hap] [May chg .audio] [May chg .memc] [May chg .locket]
    [May chg .flash] [May chg .isl] [May chg .power] {r0 s : State} (h : Kept chg r0 s) (core : Nat) : Kept chg r0 (tileOverrun
    s core) := by
  unfold tileOverrun
  repeat' (first
      | with_reducible assumption | intro _ | with_reducible apply Kept.wr | with_reducible apply overrunRender_kept
      | with_reducible apply advance_kept | with_reducible apply openPartial_kept | with_reducible apply Kept.clearOd
      | with_reducible apply Kept.ite | with_reducible apply Kept.ite_fst | simp (disch := first
      | exact May.or | exact Or.inr rfl) only [Kept.mk_eq, Kept.field_eq, Kept.cameo_eq] | split | dsimp only)

theorem quadDrained_kept {chg : List Part} [May chg .out] [May chg .fwQueue] [May chg .od] [May chg .power] {r0 s : State} (h :
    Kept chg r0 s) (q : Nat) : Kept chg r0 (quadDrained s q) := by
  unfold quadDrained
  repeat' (first
      | with_reducible assumption | intro _ | with_reducible apply Kept.wr | with_reducible apply raise_kept
      | with_reducible apply startSwitch_kept | with_reducible apply queueSwitch_kept | with_reducible apply Kept.clearOd
      | with_reducible apply Kept.ite | with_reducible apply Kept.ite_fst | simp (disch := first
      | exact May.or | exact Or.inr rfl) only [Kept.mk_eq, Kept.field_eq, Kept.cameo_eq] | split | dsimp only)

theorem drainQuad_kept {chg : List Part} [May chg .out] [May chg .fwQueue] [May chg .od] [May chg .raster] [May chg .power] {r0
    s : State} (h : Kept chg r0 s) (q : Nat) : Kept chg r0 (drainQuad s q) := by
  unfold drainQuad
  repeat' (first
      | with_reducible assumption | intro _ | with_reducible apply Kept.wr | with_reducible apply askPreempt_kept
      | with_reducible apply quadDrained_kept | with_reducible apply Kept.foldl | with_reducible apply Kept.clearOd
      | with_reducible apply Kept.ite | with_reducible apply Kept.ite_fst | simp (disch := first
      | exact May.or | exact Or.inr rfl) only [Kept.mk_eq, Kept.field_eq, Kept.cameo_eq] | split | dsimp only)

theorem hartAccess_kept {chg : List Part} [May chg .mem] [May chg .raster] [May chg .memc] {r0 s : State} (h : Kept chg r0 s)
    (core : Nat) (h : Nat) (key : Nat) (addr : Nat) (a : HartAccess) : Kept chg r0 (hartAccess s core h key addr a) := by
  unfold hartAccess
  repeat' (first
      | with_reducible assumption | intro _ | with_reducible apply Kept.wr | with_reducible apply ctxWr_kept
      | with_reducible apply setCore_kept | with_reducible apply Kept.foldl | with_reducible apply Kept.clearOd
      | with_reducible apply Kept.ite | with_reducible apply Kept.ite_fst | simp (disch := first
      | exact May.or | exact Or.inr rfl) only [Kept.mk_eq, Kept.field_eq, Kept.cameo_eq] | split | dsimp only)

theorem hartMeets_kept {chg : List Part} [May chg .free] [May chg .out] [May chg .fwQueue] [May chg .od] [May chg .dom] [May chg
    .mem] [May chg .ten] [May chg .clasp] [May chg .dict] [May chg .field] [May chg .raster] [May chg .compose] [May chg .heads]
    [May chg .ports] [May chg .cameo] [May chg .touch] [May chg .hap] [May chg .audio] [May chg .memc] [May chg .locket] [May
    chg .flash] [May chg .isl] [May chg .power] {r0 s : State} (h : Kept chg r0 s) (core : Nat) (h : Nat) (pc : Nat) (addr :
    Nat) (a : HartAccess) : Kept chg r0 (hartMeets s core h pc addr a) := by
  unfold hartMeets
  repeat' (first
      | with_reducible assumption | intro _ | with_reducible apply Kept.wr | with_reducible apply windowViolation_kept
      | with_reducible apply faultHart_kept | with_reducible apply hartAccess_kept | with_reducible apply Kept.clearOd
      | with_reducible apply Kept.ite | with_reducible apply Kept.ite_fst | simp (disch := first
      | exact May.or | exact Or.inr rfl) only [Kept.mk_eq, Kept.field_eq, Kept.cameo_eq] | split | dsimp only)

theorem hartWord_kept {chg : List Part} [May chg .free] [May chg .out] [May chg .fwQueue] [May chg .od] [May chg .dom] [May chg
    .mem] [May chg .ten] [May chg .clasp] [May chg .dict] [May chg .field] [May chg .raster] [May chg .compose] [May chg .heads]
    [May chg .ports] [May chg .cameo] [May chg .touch] [May chg .hap] [May chg .audio] [May chg .memc] [May chg .locket] [May
    chg .flash] [May chg .isl] [May chg .power] {r0 s : State} (h : Kept chg r0 s) (core : Nat) (h : Nat) (pc : Nat) (w : Nat) :
    Kept chg r0 (hartWord s core h pc w) := by
  unfold hartWord
  repeat' (first
      | with_reducible assumption | intro _ | with_reducible apply Kept.wr | with_reducible apply faultHart_kept
      | with_reducible apply Kept.clearOd | with_reducible apply Kept.ite | with_reducible apply Kept.ite_fst
      | simp (disch := first | exact May.or | exact Or.inr rfl) only [Kept.mk_eq, Kept.field_eq, Kept.cameo_eq] | split
      | dsimp only)

theorem ctxFault_kept {chg : List Part} [May chg .free] [May chg .out] [May chg .fwQueue] [May chg .od] [May chg .dom] [May chg
    .mem] [May chg .ten] [May chg .clasp] [May chg .dict] [May chg .field] [May chg .raster] [May chg .compose] [May chg .heads]
    [May chg .ports] [May chg .cameo] [May chg .touch] [May chg .hap] [May chg .audio] [May chg .memc] [May chg .locket] [May
    chg .flash] [May chg .isl] [May chg .power] {r0 s : State} (h : Kept chg r0 s) (q : FaultCause) : Kept chg r0 (ctxFault s q)
    := by
  cases q <;> rw [ctxFault] <;> repeat' (first
      | with_reducible assumption | intro _ | with_reducible apply hartMeets_kept | with_reducible apply hartWord_kept
      | with_reducible apply faultHart_kept | with_reducible apply faultRender_kept | with_reducible apply faultCompute_kept
      | with_reducible apply Kept.ite | with_reducible apply Kept.ite_fst | simp (disch := first
      | exact May.or | exact Or.inr rfl) only [Kept.mk_eq, Kept.field_eq, Kept.cameo_eq] | split | dsimp only)

theorem isolate_kept {chg : List Part} [May chg .out] [May chg .isl] {r0 s : State} (h : Kept chg r0 s) (i : Nat) : Kept chg r0 (isolate s i) := by
  unfold isolate
  repeat' (first
      | with_reducible assumption | intro _ | with_reducible apply Kept.wr | with_reducible apply setXing_kept
      | with_reducible apply failBeats_kept | with_reducible apply Kept.foldl | with_reducible apply Kept.clearOd
      | with_reducible apply Kept.ite | with_reducible apply Kept.ite_fst | simp (disch := first
      | exact May.or | exact Or.inr rfl) only [Kept.mk_eq, Kept.field_eq, Kept.cameo_eq] | split | dsimp only)

theorem domainDown_kept {chg : List Part} [May chg .free] [May chg .out] [May chg .fwQueue] [May chg .od] [May chg .mem] [May
    chg .ten] [May chg .clasp] [May chg .field] [May chg .raster] [May chg .compose] [May chg .ports] [May chg .touch] [May chg
    .hap] [May chg .audio] [May chg .memc] [May chg .control] [May chg .isl] {r0 s : State} (h : Kept chg r0 s) (d : Nat) : Kept
    chg r0 (domainDown s d) := by
  unfold domainDown
  repeat' (first
      | with_reducible assumption | intro _ | with_reducible apply Kept.wr | with_reducible apply closeIncomplete_kept
      | with_reducible apply settleHap_kept | with_reducible apply stopPanel_kept | with_reducible apply audioDown_kept
      | with_reducible apply controlDown_kept | with_reducible apply setIslands_kept | with_reducible apply fenceXings_kept
      | with_reducible apply resetPort_kept | with_reducible apply clearQuad_kept | with_reducible apply clearCounters_kept
      | with_reducible apply clearLines_kept | with_reducible apply isolate_kept | with_reducible apply Kept.foldl
      | with_reducible apply Kept.clearOd | with_reducible apply Kept.ite | with_reducible apply Kept.ite_fst
      | simp (disch := first | exact May.or | exact Or.inr rfl) only [Kept.mk_eq, Kept.field_eq, Kept.cameo_eq] | split
      | dsimp only)

theorem deliverHeld_kept {chg : List Part} [May chg .free] [May chg .out] [May chg .fwQueue] [May chg .od] [May chg .clasp] [May
    chg .field] [May chg .ports] [May chg .hap] {r0 s : State} (h : Kept chg r0 s)  : Kept chg r0 (deliverHeld s) := by
  unfold deliverHeld
  repeat' (first
      | with_reducible assumption | intro _ | with_reducible apply Kept.wr | with_reducible apply flushBound_kept
      | with_reducible apply Kept.clearOd | with_reducible apply Kept.ite | with_reducible apply Kept.ite_fst
      | simp (disch := first | exact May.or | exact Or.inr rfl) only [Kept.mk_eq, Kept.field_eq, Kept.cameo_eq] | split
      | dsimp only)

theorem domainUp_kept {chg : List Part} [May chg .free] [May chg .out] [May chg .fwQueue] [May chg .od] [May chg .clasp] [May
    chg .field] [May chg .ports] [May chg .hap] [May chg .audio] [May chg .isl] {r0 s : State} (h : Kept chg r0 s) (d : Nat) :
    Kept chg r0 (domainUp s d) := by
  unfold domainUp
  repeat' (first
      | with_reducible assumption | intro _ | with_reducible apply Kept.wr | with_reducible apply settleHap_kept
      | with_reducible apply flushPd_kept | with_reducible apply audioUp_kept | with_reducible apply setIslands_kept
      | with_reducible apply isolate_kept | with_reducible apply deliverHeld_kept | with_reducible apply Kept.foldl
      | with_reducible apply Kept.clearOd | with_reducible apply Kept.ite | with_reducible apply Kept.ite_fst
      | simp (disch := first | exact May.or | exact Or.inr rfl) only [Kept.mk_eq, Kept.field_eq, Kept.cameo_eq] | split
      | dsimp only)

theorem openSwitches_kept {chg : List Part} [May chg .free] [May chg .out] [May chg .fwQueue] [May chg .od] [May chg .mem] [May
    chg .ten] [May chg .clasp] [May chg .field] [May chg .raster] [May chg .compose] [May chg .heads] [May chg .ports] [May chg
    .cameo] [May chg .touch] [May chg .hap] [May chg .audio] [May chg .memc] [May chg .control] [May chg .locket] [May chg .isl]
    [May chg .power] {r0 s : State} (h : Kept chg r0 s) (d : Nat) : Kept chg r0 (openSwitches s d) := by
  unfold openSwitches
  repeat' (first
      | with_reducible assumption | intro _ | with_reducible apply Kept.wr | with_reducible apply raise_kept
      | with_reducible apply domainDown_kept | with_reducible apply Kept.clearOd | with_reducible apply Kept.ite
      | with_reducible apply Kept.ite_fst | simp (disch := first
      | exact May.or | exact Or.inr rfl) only [Kept.mk_eq, Kept.field_eq, Kept.cameo_eq] | split | dsimp only)

theorem domainOff_kept {chg : List Part} [May chg .free] [May chg .out] [May chg .fwQueue] [May chg .od] [May chg .mem] [May chg
    .ten] [May chg .clasp] [May chg .field] [May chg .raster] [May chg .compose] [May chg .heads] [May chg .ports] [May chg
    .cameo] [May chg .touch] [May chg .hap] [May chg .audio] [May chg .memc] [May chg .control] [May chg .locket] [May chg .isl]
    [May chg .power] {r0 s : State} (h : Kept chg r0 s) (d : Nat) : Kept chg r0 (domainOff s d) := by
  unfold domainOff
  repeat' (first
      | with_reducible assumption | intro _ | with_reducible apply Kept.wr | with_reducible apply raise_kept
      | with_reducible apply startSwitch_kept | with_reducible apply flushPd_kept | with_reducible apply settleClocks_kept
      | with_reducible apply deliverHeld_kept | with_reducible apply openSwitches_kept | with_reducible apply Kept.clearOd
      | with_reducible apply Kept.ite | with_reducible apply Kept.ite_fst | simp (disch := first
      | exact May.or | exact Or.inr rfl) only [Kept.mk_eq, Kept.field_eq, Kept.cameo_eq] | split | dsimp only)

theorem requestOff_kept {chg : List Part} [May chg .out] [May chg .fwQueue] [May chg .od] [May chg .raster] [May chg .power] {r0
    s : State} (h : Kept chg r0 s) (d : Nat) : Kept chg r0 (requestOff s d) := by
  unfold requestOff
  repeat' (first
      | with_reducible assumption | intro _ | with_reducible apply Kept.wr | with_reducible apply startSwitch_kept
      | with_reducible apply queueSwitch_kept | with_reducible apply drainQuad_kept | with_reducible apply Kept.clearOd
      | with_reducible apply Kept.ite | with_reducible apply Kept.ite_fst | simp (disch := first
      | exact May.or | exact Or.inr rfl) only [Kept.mk_eq, Kept.field_eq, Kept.cameo_eq] | split | dsimp only)

theorem idleExpiry_kept {chg : List Part} [May chg .out] [May chg .fwQueue] [May chg .od] [May chg .raster] [May chg .power] {r0
    s : State} (h : Kept chg r0 s) (d : Nat) : Kept chg r0 (idleExpiry s d) := by
  unfold idleExpiry
  repeat' (first
      | with_reducible assumption | intro _ | with_reducible apply Kept.wr | with_reducible apply requestOff_kept
      | with_reducible apply Kept.clearOd | with_reducible apply Kept.ite | with_reducible apply Kept.ite_fst
      | simp (disch := first | exact May.or | exact Or.inr rfl) only [Kept.mk_eq, Kept.field_eq, Kept.cameo_eq] | split
      | dsimp only)

theorem wakeEvent_kept {chg : List Part} [May chg .od] [May chg .raster] [May chg .power] {r0 s : State} (h : Kept chg r0 s) (d
    : Nat) (row : Nat) : Kept chg r0 (wakeEvent s d row) := by
  unfold wakeEvent
  repeat' (first
      | with_reducible assumption | intro _ | with_reducible apply Kept.wr | with_reducible apply wake_kept
      | with_reducible apply Kept.clearOd | with_reducible apply Kept.ite | with_reducible apply Kept.ite_fst
      | simp (disch := first | exact May.or | exact Or.inr rfl) only [Kept.mk_eq, Kept.field_eq, Kept.cameo_eq] | split
      | dsimp only)

theorem settleMode_kept {chg : List Part} [May chg .out] [May chg .fwQueue] [May chg .od] [May chg .raster] [May chg .power] {r0
    s : State} (h : Kept chg r0 s) (d : Nat) : Kept chg r0 (settleMode s d) := by
  unfold settleMode
  repeat' (first
      | with_reducible assumption | intro _ | with_reducible apply Kept.wr | with_reducible apply requestOn_kept
      | with_reducible apply requestOff_kept | with_reducible apply Kept.clearOd | with_reducible apply Kept.ite
      | with_reducible apply Kept.ite_fst | simp (disch := first
      | exact May.or | exact Or.inr rfl) only [Kept.mk_eq, Kept.field_eq, Kept.cameo_eq] | split | dsimp only)

theorem refuseOrder_kept {chg : List Part} [May chg .out] [May chg .od] {r0 s : State} (h : Kept chg r0 s)  : Kept chg r0 (refuseOrder s) := by
  unfold refuseOrder
  repeat' (first
      | with_reducible assumption | intro _ | with_reducible apply Kept.wr | with_reducible apply bump_kept
      | with_reducible apply send_kept | with_reducible apply Kept.clearOd | with_reducible apply Kept.ite
      | with_reducible apply Kept.ite_fst | simp (disch := first
      | exact May.or | exact Or.inr rfl) only [Kept.mk_eq, Kept.field_eq, Kept.cameo_eq] | split | dsimp only)

theorem acceptReq_kept {chg : List Part} [May chg .out] {r0 s : State} (h : Kept chg r0 s)  : Kept chg r0 (acceptReq s) := by
  unfold acceptReq
  repeat' (first
      | with_reducible assumption | intro _ | with_reducible apply Kept.wr | with_reducible apply send_kept
      | with_reducible apply Kept.clearOd | with_reducible apply Kept.ite | with_reducible apply Kept.ite_fst
      | simp (disch := first | exact May.or | exact Or.inr rfl) only [Kept.mk_eq, Kept.field_eq, Kept.cameo_eq] | split
      | dsimp only)

theorem powerRequest_kept {chg : List Part} [May chg .out] [May chg .fwQueue] [May chg .od] [May chg .ten] [May chg .field] [May
    chg .raster] [May chg .isl] [May chg .power] {r0 s : State} (h : Kept chg r0 s) (q : PowerReq) : Kept chg r0 (powerRequest s
    q) := by
  cases q <;> rw [powerRequest] <;> repeat' (first
      | with_reducible assumption | intro _ | with_reducible apply refuseHeld_kept | with_reducible apply refuseOrder_kept
      | with_reducible apply requestOff_kept | with_reducible apply requestOn_kept | with_reducible apply acceptReq_kept
      | with_reducible apply fenceXings_kept | with_reducible apply changeClock_kept | with_reducible apply Kept.ite
      | with_reducible apply Kept.ite_fst | simp (disch := first
      | exact May.or | exact Or.inr rfl) only [Kept.mk_eq, Kept.field_eq, Kept.cameo_eq] | split | dsimp only)

theorem setRqLimit_kept {chg : List Part} [May chg .od] [May chg .isl] [May chg .power] {r0 s : State} (h : Kept chg r0 s) (mhz
    : Nat) : Kept chg r0 (setRqLimit s mhz) := by
  unfold setRqLimit
  repeat' (first
      | with_reducible assumption | intro _ | with_reducible apply Kept.wr | with_reducible apply wrBit_kept
      | with_reducible apply changeClock_kept | with_reducible apply Kept.foldl | with_reducible apply Kept.clearOd
      | with_reducible apply Kept.ite | with_reducible apply Kept.ite_fst | simp (disch := first
      | exact May.or | exact Or.inr rfl) only [Kept.mk_eq, Kept.field_eq, Kept.cameo_eq] | split | dsimp only)

theorem setCcx_kept {chg : List Part} [May chg .od] [May chg .isl] [May chg .power] {r0 s : State} (h : Kept chg r0 s) (low :
    Bool) : Kept chg r0 (setCcx s low) := by
  unfold setCcx
  repeat' (first
      | with_reducible assumption | intro _ | with_reducible apply Kept.wr | with_reducible apply wrBit_kept
      | with_reducible apply changeClock_kept | with_reducible apply Kept.clearOd | with_reducible apply Kept.ite
      | with_reducible apply Kept.ite_fst | simp (disch := first
      | exact May.or | exact Or.inr rfl) only [Kept.mk_eq, Kept.field_eq, Kept.cameo_eq] | split | dsimp only)

theorem supplyLog_kept {chg : List Part} [May chg .od] [May chg .power] {r0 s : State} (h : Kept chg r0 s) (kind : Nat) (source
    : Nat) (value : Int) : Kept chg r0 (supplyLog s kind source value) := by
  unfold supplyLog
  repeat' (first
      | with_reducible assumption | intro _ | with_reducible apply Kept.wr | with_reducible apply ringEnter_kept
      | with_reducible apply Kept.clearOd | with_reducible apply Kept.ite | with_reducible apply Kept.ite_fst
      | simp (disch := first | exact May.or | exact Or.inr rfl) only [Kept.mk_eq, Kept.field_eq, Kept.cameo_eq] | split
      | dsimp only)

theorem applyPlan_kept {chg : List Part} [May chg .od] [May chg .isl] [May chg .power] {r0 s : State} (h : Kept chg r0 s) (r :
    HallmarkRec) : Kept chg r0 (applyPlan s r) := by
  unfold applyPlan
  repeat' (first
      | with_reducible assumption | intro _ | with_reducible apply Kept.wr | with_reducible apply changeClock_kept
      | with_reducible apply Kept.foldl | with_reducible apply Kept.clearOd | with_reducible apply Kept.ite
      | with_reducible apply Kept.ite_fst | simp (disch := first
      | exact May.or | exact Or.inr rfl) only [Kept.mk_eq, Kept.field_eq, Kept.cameo_eq] | split | dsimp only)

theorem writeRecord_kept {chg : List Part} [May chg .od] [May chg .flash] [May chg .isl] [May chg .power] {r0 s : State} (h :
    Kept chg r0 s) (r : HallmarkRec) : Kept chg r0 (writeRecord s r) := by
  unfold writeRecord
  repeat' (first
      | with_reducible assumption | intro _ | with_reducible apply Kept.wr | with_reducible apply putRecord_kept
      | with_reducible apply applyPlan_kept | with_reducible apply Kept.clearOd | with_reducible apply Kept.ite
      | with_reducible apply Kept.ite_fst | simp (disch := first
      | exact May.or | exact Or.inr rfl) only [Kept.mk_eq, Kept.field_eq, Kept.cameo_eq] | split | dsimp only)

theorem abandonEpoch_kept {chg : List Part} [May chg .out] [May chg .fwQueue] [May chg .od] [May chg .field] [May chg .flash]
    [May chg .isl] [May chg .power] {r0 s : State} (h : Kept chg r0 s)  : Kept chg r0 (abandonEpoch s) := by
  unfold abandonEpoch
  repeat' (first
      | with_reducible assumption | intro _ | with_reducible apply Kept.wr | with_reducible apply raise_kept
      | with_reducible apply writeRecord_kept | with_reducible apply Kept.clearOd | with_reducible apply Kept.ite
      | with_reducible apply Kept.ite_fst | simp (disch := first
      | exact May.or | exact Or.inr rfl) only [Kept.mk_eq, Kept.field_eq, Kept.cameo_eq] | split | dsimp only)

theorem opReached_kept {chg : List Part} [May chg .out] [May chg .fwQueue] [May chg .od] [May chg .field] [May chg .flash] [May
    chg .isl] [May chg .power] {r0 s : State} (h : Kept chg r0 s)  : Kept chg r0 (opReached s) := by
  unfold opReached
  repeat' (first
      | with_reducible assumption | intro _ | with_reducible apply Kept.wr | with_reducible apply abandonEpoch_kept
      | with_reducible apply Kept.clearOd | with_reducible apply Kept.ite | with_reducible apply Kept.ite_fst
      | simp (disch := first | exact May.or | exact Or.inr rfl) only [Kept.mk_eq, Kept.field_eq, Kept.cameo_eq] | split
      | dsimp only)

theorem epochDue_kept {chg : List Part} [May chg .od] [May chg .power] {r0 s : State} (h : Kept chg r0 s) (why : Nat) : Kept chg
    r0 (epochDue s why) := by
  unfold epochDue
  repeat' (first
      | with_reducible assumption | intro _ | with_reducible apply Kept.wr | with_reducible apply Kept.clearOd
      | with_reducible apply Kept.ite | with_reducible apply Kept.ite_fst | simp (disch := first
      | exact May.or | exact Or.inr rfl) only [Kept.mk_eq, Kept.field_eq, Kept.cameo_eq] | split | dsimp only)

theorem setLevel_kept {chg : List Part} [May chg .od] {r0 s : State} (h : Kept chg r0 s) (r : Nat) (l : List Nat) : Kept chg r0 (setLevel s r l) := by
  unfold setLevel
  repeat' (first
      | with_reducible assumption | intro _ | with_reducible apply Kept.wr | with_reducible apply Kept.clearOd
      | with_reducible apply Kept.ite | with_reducible apply Kept.ite_fst | simp (disch := first
      | exact May.or | exact Or.inr rfl) only [Kept.mk_eq, Kept.field_eq, Kept.cameo_eq] | split | dsimp only)

theorem supplyWarn_kept {chg : List Part} [May chg .out] [May chg .fwQueue] [May chg .od] [May chg .field] [May chg .flash] [May
    chg .isl] [May chg .power] {r0 s : State} (h : Kept chg r0 s) (r : Nat) (l : List Nat) : Kept chg r0 (supplyWarn s r l) :=
    by
  unfold supplyWarn
  repeat' (first
      | with_reducible assumption | intro _ | with_reducible apply Kept.wr | with_reducible apply raise_kept
      | with_reducible apply lastingEmcy_kept | with_reducible apply supplyLog_kept | with_reducible apply abandonEpoch_kept
      | with_reducible apply setLevel_kept | with_reducible apply Kept.clearOd | with_reducible apply Kept.ite
      | with_reducible apply Kept.ite_fst | simp (disch := first
      | exact May.or | exact Or.inr rfl) only [Kept.mk_eq, Kept.field_eq, Kept.cameo_eq] | split | dsimp only)

theorem supplyWarningEnd_kept {chg : List Part} [May chg .od] [May chg .field] [May chg .power] {r0 s : State} (h : Kept chg r0
    s) (r : Nat) (mv : Nat) : Kept chg r0 (supplyWarningEnd s r mv) := by
  unfold supplyWarningEnd
  repeat' (first
      | with_reducible assumption | intro _ | with_reducible apply Kept.wr | with_reducible apply endLasting_kept
      | with_reducible apply supplyLog_kept | with_reducible apply setLevel_kept | with_reducible apply Kept.clearOd
      | with_reducible apply Kept.ite | with_reducible apply Kept.ite_fst | simp (disch := first
      | exact May.or | exact Or.inr rfl) only [Kept.mk_eq, Kept.field_eq, Kept.cameo_eq] | split | dsimp only)

theorem beginEpisode_kept {chg : List Part} [May chg .out] [May chg .fwQueue] [May chg .od] [May chg .field] [May chg .flash]
    [May chg .isl] [May chg .power] {r0 s : State} (h : Kept chg r0 s) (n : Nat) : Kept chg r0 (beginEpisode s n) := by
  unfold beginEpisode
  repeat' (first
      | with_reducible assumption | intro _ | with_reducible apply Kept.wr | with_reducible apply supplyLog_kept
      | with_reducible apply abandonEpoch_kept | with_reducible apply Kept.clearOd | with_reducible apply Kept.ite
      | with_reducible apply Kept.ite_fst | simp (disch := first
      | exact May.or | exact Or.inr rfl) only [Kept.mk_eq, Kept.field_eq, Kept.cameo_eq] | split | dsimp only)

theorem endEpisode_kept {chg : List Part} [May chg .od] [May chg .field] [May chg .power] {r0 s : State} (h : Kept chg r0 s)  :
    Kept chg r0 (endEpisode s) := by
  unfold endEpisode
  repeat' (first
      | with_reducible assumption | intro _ | with_reducible apply Kept.wr | with_reducible apply endLasting_kept
      | with_reducible apply supplyLog_kept | with_reducible apply Kept.foldl | with_reducible apply Kept.clearOd
      | with_reducible apply Kept.ite | with_reducible apply Kept.ite_fst | simp (disch := first
      | exact May.or | exact Or.inr rfl) only [Kept.mk_eq, Kept.field_eq, Kept.cameo_eq] | split | dsimp only)

theorem lowerRq_kept {chg : List Part} [May chg .out] [May chg .fwQueue] [May chg .od] [May chg .field] [May chg .flash] [May
    chg .isl] [May chg .power] {r0 s : State} (h : Kept chg r0 s) (n : Nat) : Kept chg r0 (lowerRq s n) := by
  unfold lowerRq
  repeat' (first
      | with_reducible assumption | intro _ | with_reducible apply Kept.wr | with_reducible apply raise_kept
      | with_reducible apply lastingEmcy_kept | with_reducible apply setRqLimit_kept | with_reducible apply beginEpisode_kept
      | with_reducible apply Kept.clearOd | with_reducible apply Kept.ite | with_reducible apply Kept.ite_fst
      | simp (disch := first | exact May.or | exact Or.inr rfl) only [Kept.mk_eq, Kept.field_eq, Kept.cameo_eq] | split
      | dsimp only)

theorem thermalSample_kept {chg : List Part} [May chg .out] [May chg .fwQueue] [May chg .od] [May chg .field] [May chg .flash]
    [May chg .isl] [May chg .power] {r0 s : State} (h : Kept chg r0 s) (temps : List Int) : Kept chg r0 (thermalSample s temps)
    := by
  unfold thermalSample
  repeat' (first
      | with_reducible assumption | intro _ | with_reducible apply Kept.wr | with_reducible apply raise_kept
      | with_reducible apply setCcx_kept | with_reducible apply beginEpisode_kept | with_reducible apply endEpisode_kept
      | with_reducible apply lowerRq_kept | with_reducible apply Kept.foldl | with_reducible apply Kept.clearOd
      | with_reducible apply Kept.ite | with_reducible apply Kept.ite_fst | simp (disch := first
      | exact May.or | exact Or.inr rfl) only [Kept.mk_eq, Kept.field_eq, Kept.cameo_eq] | split | dsimp only)

theorem throttleStep_kept {chg : List Part} [May chg .out] [May chg .fwQueue] [May chg .od] [May chg .field] [May chg .flash]
    [May chg .isl] [May chg .power] {r0 s : State} (h : Kept chg r0 s)  : Kept chg r0 (throttleStep s) := by
  unfold throttleStep
  repeat' (first
      | with_reducible assumption | intro _ | with_reducible apply Kept.wr | with_reducible apply lowerRq_kept
      | with_reducible apply Kept.clearOd | with_reducible apply Kept.ite | with_reducible apply Kept.ite_fst
      | simp (disch := first | exact May.or | exact Or.inr rfl) only [Kept.mk_eq, Kept.field_eq, Kept.cameo_eq] | split
      | dsimp only)

theorem throttleRaise_kept {chg : List Part} [May chg .out] [May chg .fwQueue] [May chg .od] [May chg .field] [May chg .isl]
    [May chg .power] {r0 s : State} (h : Kept chg r0 s)  : Kept chg r0 (throttleRaise s) := by
  unfold throttleRaise
  repeat' (first
      | with_reducible assumption | intro _ | with_reducible apply Kept.wr | with_reducible apply raise_kept
      | with_reducible apply setRqLimit_kept | with_reducible apply endEpisode_kept | with_reducible apply Kept.clearOd
      | with_reducible apply Kept.ite | with_reducible apply Kept.ite_fst | simp (disch := first
      | exact May.or | exact Or.inr rfl) only [Kept.mk_eq, Kept.field_eq, Kept.cameo_eq] | split | dsimp only)

theorem tedHit_kept {chg : List Part} [May chg .out] [May chg .fwQueue] [May chg .od] [May chg .flash] [May chg .isl] [May chg
    .power] {r0 s : State} (h : Kept chg r0 s) (i : Nat) : Kept chg r0 (tedHit s i) := by
  unfold tedHit
  repeat' (first
      | with_reducible assumption | intro _ | with_reducible apply Kept.wr | with_reducible apply bump_kept
      | with_reducible apply raise_kept | with_reducible apply writeRecord_kept | with_reducible apply epochDue_kept
      | with_reducible apply Kept.clearOd | with_reducible apply Kept.ite | with_reducible apply Kept.ite_fst
      | simp (disch := first | exact May.or | exact Or.inr rfl) only [Kept.mk_eq, Kept.field_eq, Kept.cameo_eq] | split
      | dsimp only)

theorem epochStart_kept {chg : List Part} [May chg .out] [May chg .fwQueue] [May chg .od] {r0 s : State} (h : Kept chg r0 s)  :
    Kept chg r0 (epochStart s) := by
  unfold epochStart
  repeat' (first
      | with_reducible assumption | intro _ | with_reducible apply Kept.wr | with_reducible apply raise_kept
      | with_reducible apply Kept.clearOd | with_reducible apply Kept.ite | with_reducible apply Kept.ite_fst
      | simp (disch := first | exact May.or | exact Or.inr rfl) only [Kept.mk_eq, Kept.field_eq, Kept.cameo_eq] | split
      | dsimp only)

theorem epochDone_kept {chg : List Part} [May chg .out] [May chg .fwQueue] [May chg .od] [May chg .field] [May chg .flash] [May
    chg .isl] [May chg .power] {r0 s : State} (h : Kept chg r0 s) (m : EpochMeas) : Kept chg r0 (epochDone s m) := by
  unfold epochDone
  repeat' (first
      | with_reducible assumption | intro _ | with_reducible apply Kept.wr | with_reducible apply raise_kept
      | with_reducible apply emcy_kept | with_reducible apply writeRecord_kept | with_reducible apply Kept.foldl
      | with_reducible apply Kept.clearOd | with_reducible apply Kept.ite | with_reducible apply Kept.ite_fst
      | simp (disch := first | exact May.or | exact Or.inr rfl) only [Kept.mk_eq, Kept.field_eq, Kept.cameo_eq] | split
      | dsimp only)

theorem closeWindow_kept {chg : List Part} [May chg .out] [May chg .fwQueue] [May chg .od] [May chg .ten] [May chg .field] [May
    chg .flash] [May chg .isl] [May chg .power] {r0 s : State} (h : Kept chg r0 s)  : Kept chg r0 (closeWindow s) := by
  unfold closeWindow
  repeat' (first
      | with_reducible assumption | intro _ | with_reducible apply Kept.wr | with_reducible apply windowEnd_kept
      | with_reducible apply abandonEpoch_kept | with_reducible apply Kept.clearOd | with_reducible apply Kept.ite
      | with_reducible apply Kept.ite_fst | simp (disch := first
      | exact May.or | exact Or.inr rfl) only [Kept.mk_eq, Kept.field_eq, Kept.cameo_eq] | split | dsimp only)

theorem openWindow_kept {chg : List Part} [May chg .out] [May chg .fwQueue] [May chg .od] [May chg .ten] [May chg .field] [May
    chg .flash] [May chg .isl] [May chg .power] {r0 s : State} (h : Kept chg r0 s) (n : Nat) : Kept chg r0 (openWindow s n) :=
    by
  unfold openWindow
  repeat' (first
      | with_reducible assumption | intro _ | with_reducible apply Kept.wr | with_reducible apply windowEnd_kept
      | with_reducible apply closeWindow_kept | with_reducible apply Kept.clearOd | with_reducible apply Kept.ite
      | with_reducible apply Kept.ite_fst | simp (disch := first
      | exact May.or | exact Or.inr rfl) only [Kept.mk_eq, Kept.field_eq, Kept.cameo_eq] | split | dsimp only)

theorem memorySleep_kept {chg : List Part} [May chg .od] [May chg .mem] [May chg .memc] {r0 s : State} (h : Kept chg r0 s)  :
    Kept chg r0 (memorySleep s) := by
  unfold memorySleep
  repeat' (first
      | with_reducible assumption | intro _ | with_reducible apply Kept.wr | with_reducible apply storeTx_kept
      | with_reducible apply loseSegments_kept | with_reducible apply Kept.foldl | with_reducible apply Kept.clearOd
      | with_reducible apply Kept.ite | with_reducible apply Kept.ite_fst | simp (disch := first
      | exact May.or | exact Or.inr rfl) only [Kept.mk_eq, Kept.field_eq, Kept.cameo_eq] | split | dsimp only)

theorem sleepEnd_kept {chg : List Part} [May chg .out] [May chg .fwQueue] [May chg .od] [May chg .power] {r0 s : State} (h :
    Kept chg r0 s)  : Kept chg r0 (sleepEnd s) := by
  unfold sleepEnd
  repeat' (first
      | with_reducible assumption | intro _ | with_reducible apply Kept.wr | with_reducible apply raise_kept
      | with_reducible apply startSwitch_kept | with_reducible apply queueSwitch_kept | with_reducible apply settleDevice_kept
      | with_reducible apply Kept.foldl | with_reducible apply Kept.clearOd | with_reducible apply Kept.ite
      | with_reducible apply Kept.ite_fst | simp (disch := first
      | exact May.or | exact Or.inr rfl) only [Kept.mk_eq, Kept.field_eq, Kept.cameo_eq] | split | dsimp only)

theorem sleepEntered_kept {chg : List Part} [May chg .free] [May chg .out] [May chg .fwQueue] [May chg .od] [May chg .mem] [May
    chg .ten] [May chg .clasp] [May chg .field] [May chg .raster] [May chg .compose] [May chg .heads] [May chg .ports] [May chg
    .cameo] [May chg .touch] [May chg .hap] [May chg .audio] [May chg .memc] [May chg .control] [May chg .locket] [May chg .isl]
    [May chg .power] {r0 s : State} (h : Kept chg r0 s)  : Kept chg r0 (sleepEntered s) := by
  unfold sleepEntered
  repeat' (first
      | with_reducible assumption | intro _ | with_reducible apply Kept.wr | with_reducible apply settleDevice_kept
      | with_reducible apply openSwitches_kept | with_reducible apply memorySleep_kept | with_reducible apply sleepEnd_kept
      | with_reducible apply Kept.foldl | with_reducible apply Kept.clearOd | with_reducible apply Kept.ite
      | with_reducible apply Kept.ite_fst | simp (disch := first
      | exact May.or | exact Or.inr rfl) only [Kept.mk_eq, Kept.field_eq, Kept.cameo_eq] | split | dsimp only)

theorem sleepExit_kept {chg : List Part} [May chg .out] [May chg .fwQueue] [May chg .od] [May chg .power] {r0 s : State} (h :
    Kept chg r0 s) (src : SleepExit) : Kept chg r0 (sleepExit s src) := by
  unfold sleepExit
  repeat' (first
      | with_reducible assumption | intro _ | with_reducible apply Kept.wr | with_reducible apply sleepEnd_kept
      | with_reducible apply Kept.clearOd | with_reducible apply Kept.ite | with_reducible apply Kept.ite_fst
      | simp (disch := first | exact May.or | exact Or.inr rfl) only [Kept.mk_eq, Kept.field_eq, Kept.cameo_eq] | split
      | dsimp only)

theorem memoryWake_kept {chg : List Part} [May chg .od] {r0 s : State} (h : Kept chg r0 s)  : Kept chg r0 (memoryWake s) := by
  unfold memoryWake
  repeat' (first
      | with_reducible assumption | intro _ | with_reducible apply Kept.wr | with_reducible apply trainStart_kept
      | with_reducible apply Kept.clearOd | with_reducible apply Kept.ite | with_reducible apply Kept.ite_fst
      | simp (disch := first | exact May.or | exact Or.inr rfl) only [Kept.mk_eq, Kept.field_eq, Kept.cameo_eq] | split
      | dsimp only)

theorem domainOn_kept {chg : List Part} [May chg .free] [May chg .out] [May chg .fwQueue] [May chg .od] [May chg .ten] [May chg
    .clasp] [May chg .field] [May chg .raster] [May chg .compose] [May chg .heads] [May chg .ports] [May chg .cameo] [May chg
    .touch] [May chg .hap] [May chg .audio] [May chg .locket] [May chg .isl] [May chg .power] {r0 s : State} (h : Kept chg r0 s)
    (d : Nat) : Kept chg r0 (domainOn s d) := by
  unfold domainOn
  repeat' (first
      | with_reducible assumption | intro _ | with_reducible apply Kept.wr | with_reducible apply raise_kept
      | with_reducible apply startSwitch_kept | with_reducible apply islandBack_kept | with_reducible apply domainUp_kept
      | with_reducible apply memoryWake_kept | with_reducible apply Kept.clearOd | with_reducible apply Kept.ite
      | with_reducible apply Kept.ite_fst | simp (disch := first
      | exact May.or | exact Or.inr rfl) only [Kept.mk_eq, Kept.field_eq, Kept.cameo_eq] | split | dsimp only)

end Sys2Proof.Laws
end

