-- ==== Sys2Proof/Laws/KeptDictionary.lean ====
section
/-! SUPPORT. What the operations of process data, the dictionary and its server, the fieldbus side and boot keep (Kept): one lemma an operation. -/

set_option linter.unusedSimpArgs false
set_option linter.all false

namespace Sys2Proof.Laws

open Sys2Proof Sys2Proof.Machine

theorem snapshot_kept {chg : List Part} [May chg .out] [May chg .field] {r0 s : State} (h : Kept chg r0 s)  : Kept chg r0 (snapshot s) := by
  unfold snapshot
  repeat' (first
      | with_reducible assumption | intro _ | with_reducible apply Kept.wr | with_reducible apply send_kept
      | with_reducible apply Kept.clearOd | with_reducible apply Kept.ite | with_reducible apply Kept.ite_fst
      | simp (disch := first | exact May.or | exact Or.inr rfl) only [Kept.mk_eq, Kept.field_eq, Kept.cameo_eq] | split
      | dsimp only)

theorem takeTrig_kept {chg : List Part} [May chg .free] [May chg .out] [May chg .fwQueue] [May chg .od] [May chg .clasp] [May
    chg .field] [May chg .raster] [May chg .ports] [May chg .hap] [May chg .power] {r0 s : State} (h : Kept chg r0 s) (n : Nat)
    (w : Nat) : Kept chg r0 (takeTrig s n w) := by
  unfold takeTrig
  repeat' (first
      | with_reducible assumption | intro _ | with_reducible apply Kept.wr | with_reducible apply pdTrigger_kept
      | with_reducible apply Kept.clearOd | with_reducible apply Kept.ite | with_reducible apply Kept.ite_fst
      | simp (disch := first | exact May.or | exact Or.inr rfl) only [Kept.mk_eq, Kept.field_eq, Kept.cameo_eq] | split
      | dsimp only)

theorem takeTrigs_kept {chg : List Part} [May chg .free] [May chg .out] [May chg .fwQueue] [May chg .od] [May chg .clasp] [May
    chg .field] [May chg .raster] [May chg .ports] [May chg .hap] [May chg .power] {r0 s : State} (h : Kept chg r0 s) (l : List
    (Nat × Nat)) (accepted : Bool) : Kept chg r0 (takeTrigs s l accepted) := by
  unfold takeTrigs
  repeat' (first
      | with_reducible assumption | intro _ | with_reducible apply Kept.wr | with_reducible apply takeTrig_kept
      | with_reducible apply Kept.foldl | with_reducible apply Kept.clearOd | with_reducible apply Kept.ite
      | with_reducible apply Kept.ite_fst | simp (disch := first
      | exact May.or | exact Or.inr rfl) only [Kept.mk_eq, Kept.field_eq, Kept.cameo_eq] | split | dsimp only)

theorem takeOutput_kept {chg : List Part} [May chg .free] [May chg .out] [May chg .fwQueue] [May chg .od] [May chg .clasp] [May
    chg .field] [May chg .raster] [May chg .ports] [May chg .hap] [May chg .power] {r0 s : State} (h : Kept chg r0 s) (l : List
    (Nat × Nat)) : Kept chg r0 (takeOutput s l) := by
  unfold takeOutput
  repeat' (first
      | with_reducible assumption | intro _ | with_reducible apply Kept.wr | with_reducible apply takeAlarms_kept
      | with_reducible apply takeTrigs_kept | with_reducible apply Kept.clearOd | with_reducible apply Kept.ite
      | with_reducible apply Kept.ite_fst | simp (disch := first
      | exact May.or | exact Or.inr rfl) only [Kept.mk_eq, Kept.field_eq, Kept.cameo_eq] | split | dsimp only)

theorem takeSourced_kept {chg : List Part} [May chg .free] [May chg .out] [May chg .fwQueue] [May chg .od] [May chg .clasp] [May
    chg .field] [May chg .raster] [May chg .ports] [May chg .hap] [May chg .power] {r0 s : State} (h : Kept chg r0 s) (l : List
    (Nat × Nat)) : Kept chg r0 (takeSourced s l) := by
  unfold takeSourced
  repeat' (first
      | with_reducible assumption | intro _ | with_reducible apply Kept.wr | with_reducible apply bumpWrap_kept
      | with_reducible apply takeOutput_kept | with_reducible apply Kept.clearOd | with_reducible apply Kept.ite
      | with_reducible apply Kept.ite_fst | simp (disch := first
      | exact May.or | exact Or.inr rfl) only [Kept.mk_eq, Kept.field_eq, Kept.cameo_eq] | split | dsimp only)

theorem takeBuffer_kept {chg : List Part} [May chg .free] [May chg .out] [May chg .fwQueue] [May chg .od] [May chg .clasp] [May
    chg .field] [May chg .raster] [May chg .ports] [May chg .hap] [May chg .power] {r0 s : State} (h : Kept chg r0 s) (ok : Nat
    → Bool) : Kept chg r0 (takeBuffer s ok) := by
  unfold takeBuffer
  repeat' (first
      | with_reducible assumption | intro _ | with_reducible apply Kept.wr | with_reducible apply bump_kept
      | with_reducible apply ok_kept | with_reducible apply takeSourced_kept | with_reducible apply Kept.clearOd
      | with_reducible apply Kept.ite | with_reducible apply Kept.ite_fst | simp (disch := first
      | exact May.or | exact Or.inr rfl) only [Kept.mk_eq, Kept.field_eq, Kept.cameo_eq] | split | dsimp only)

theorem putStaging_kept {chg : List Part} [May chg .dict] {r0 s : State} (h : Kept chg r0 s) (n : Nat) (x : StageSet) : Kept chg
    r0 (putStaging s n x) := by
  unfold putStaging
  repeat' (first
      | with_reducible assumption | intro _ | with_reducible apply Kept.wr | with_reducible apply Kept.clearOd
      | with_reducible apply Kept.ite | with_reducible apply Kept.ite_fst | simp (disch := first
      | exact May.or | exact Or.inr rfl) only [Kept.mk_eq, Kept.field_eq, Kept.cameo_eq] | split | dsimp only)

theorem stage_kept {chg : List Part} [May chg .dict] {r0 s : State} (h : Kept chg r0 s) (n : Nat) (k : Nat) (v : List Byte) :
    Kept chg r0 (stage s n k v) := by
  unfold stage
  repeat' (first
      | with_reducible assumption | intro _ | with_reducible apply Kept.wr | with_reducible apply putStaging_kept
      | with_reducible apply Kept.clearOd | with_reducible apply Kept.ite | with_reducible apply Kept.ite_fst
      | simp (disch := first | exact May.or | exact Or.inr rfl) only [Kept.mk_eq, Kept.field_eq, Kept.cameo_eq] | split
      | dsimp only)

theorem accessViolation_kept {chg : List Part} [May chg .od] [May chg .ten] [May chg .field] {r0 s : State} (h : Kept chg r0 s)
    (who : Requester) (k : Nat) : Kept chg r0 (accessViolation s who k) := by
  unfold accessViolation
  repeat' (first
      | with_reducible assumption | intro _ | with_reducible apply Kept.wr | with_reducible apply violate_kept
      | with_reducible apply Kept.clearOd | with_reducible apply Kept.ite | with_reducible apply Kept.ite_fst
      | simp (disch := first | exact May.or | exact Or.inr rfl) only [Kept.mk_eq, Kept.field_eq, Kept.cameo_eq] | split
      | dsimp only)

theorem refuse_kept {chg : List Part} [May chg .od] [May chg .ten] [May chg .dict] [May chg .field] {r0 s : State} (h : Kept chg
    r0 s) (who : Requester) (write : Bool) (k : Nat) (code : Nat) (viol : Bool) : Kept chg r0 (refuse s who write k code viol)
    := by
  unfold refuse
  repeat' (first
      | with_reducible assumption | intro _ | with_reducible apply Kept.wr | with_reducible apply bump_kept
      | with_reducible apply putStaging_kept | with_reducible apply accessViolation_kept | with_reducible apply Kept.clearOd
      | with_reducible apply Kept.ite | with_reducible apply Kept.ite_fst | simp (disch := first
      | exact May.or | exact Or.inr rfl) only [Kept.mk_eq, Kept.field_eq, Kept.cameo_eq] | split | dsimp only)

theorem markRead_kept {chg : List Part} [May chg .ten] [May chg .memc] [May chg .isl] [May chg .power] {r0 s : State} (h : Kept
    chg r0 s) (k : Nat) : Kept chg r0 (markRead s k) := by
  unfold markRead
  repeat' (first
      | with_reducible assumption | intro _ | with_reducible apply Kept.wr | with_reducible apply Kept.clearOd
      | with_reducible apply Kept.ite | with_reducible apply Kept.ite_fst | simp (disch := first
      | exact May.or | exact Or.inr rfl) only [Kept.mk_eq, Kept.field_eq, Kept.cameo_eq] | split | dsimp only)

theorem doRead_kept {chg : List Part} [May chg .od] [May chg .ten] [May chg .dict] [May chg .field] [May chg .memc] [May chg
    .isl] [May chg .power] {r0 s : State} (h : Kept chg r0 s) (a : Access) : Kept chg r0 (doRead s a).1 := by
  unfold doRead
  repeat' (first
      | with_reducible assumption | intro _ | with_reducible apply Kept.wr | with_reducible apply refuse_kept
      | with_reducible apply markRead_kept | with_reducible apply Kept.clearOd | with_reducible apply Kept.ite
      | with_reducible apply Kept.ite_fst | simp (disch := first
      | exact May.or | exact Or.inr rfl) only [Kept.mk_eq, Kept.field_eq, Kept.cameo_eq] | split | dsimp only)

theorem answerStore_kept {chg : List Part} [May chg .out] [May chg .clasp] [May chg .dict] [May chg .ports] {r0 s : State} (h :
    Kept chg r0 s) (what : Nat) (who : Nat) (path : Nat) (abort : Nat) : Kept chg r0 (answerStore s what who path abort) := by
  unfold answerStore
  repeat' (first
      | with_reducible assumption | intro _ | with_reducible apply Kept.wr | with_reducible apply send_kept
      | with_reducible apply setPort_kept | with_reducible apply mailboxReply_kept | with_reducible apply Kept.clearOd
      | with_reducible apply Kept.ite | with_reducible apply Kept.ite_fst | simp (disch := first
      | exact May.or | exact Or.inr rfl) only [Kept.mk_eq, Kept.field_eq, Kept.cameo_eq] | split | dsimp only)

theorem startStore_kept {chg : List Part} [May chg .out] [May chg .od] [May chg .clasp] [May chg .dict] [May chg .ports] [May
    chg .flash] {r0 s : State} (h : Kept chg r0 s) (what : Nat) (who : Nat) (path : Nat) : Kept chg r0 (startStore s what who
    path) := by
  unfold startStore
  repeat' (first
      | with_reducible assumption | intro _ | with_reducible apply Kept.wr | with_reducible apply bump_kept
      | with_reducible apply putStaging_kept | with_reducible apply answerStore_kept | with_reducible apply Kept.clearOd
      | with_reducible apply Kept.ite | with_reducible apply Kept.ite_fst | simp (disch := first
      | exact May.or | exact Or.inr rfl) only [Kept.mk_eq, Kept.field_eq, Kept.cameo_eq] | split | dsimp only)

theorem askStore_kept {chg : List Part} [May chg .out] [May chg .od] [May chg .clasp] [May chg .dict] [May chg .ports] [May chg
    .flash] {r0 s : State} (h : Kept chg r0 s) (what : Nat) (who : Nat) (path : Nat) : Kept chg r0 (askStore s what who path) :=
    by
  unfold askStore
  repeat' (first
      | with_reducible assumption | intro _ | with_reducible apply Kept.wr | with_reducible apply startStore_kept
      | with_reducible apply Kept.clearOd | with_reducible apply Kept.ite | with_reducible apply Kept.ite_fst
      | simp (disch := first | exact May.or | exact Or.inr rfl) only [Kept.mk_eq, Kept.field_eq, Kept.cameo_eq] | split
      | dsimp only)

theorem nextStore_kept {chg : List Part} [May chg .out] [May chg .od] [May chg .clasp] [May chg .dict] [May chg .ports] [May chg
    .flash] {r0 s : State} (h : Kept chg r0 s) (n : Nat) : Kept chg r0 (nextStore n s) := by
  induction n generalizing s with
  | zero => exact h
  | succ n ih =>
    rw [nextStore]
    split
    · exact h
    · split
      · exact h
      · refine ih (startStore_kept ?_ _ _ _)
        simp (disch := first | exact May.or | exact Or.inr rfl) only [Kept.mk_eq, Kept.field_eq, Kept.cameo_eq]
        exact h

theorem resumeStores_kept {chg : List Part} [May chg .out] [May chg .od] [May chg .clasp] [May chg .dict] [May chg .ports] [May
    chg .flash] {r0 s : State} (h : Kept chg r0 s)  : Kept chg r0 (resumeStores s) := by
  unfold resumeStores
  repeat' (first
      | with_reducible assumption | intro _ | with_reducible apply Kept.wr | with_reducible apply nextStore_kept
      | with_reducible apply Kept.clearOd | with_reducible apply Kept.ite | with_reducible apply Kept.ite_fst
      | simp (disch := first | exact May.or | exact Or.inr rfl) only [Kept.mk_eq, Kept.field_eq, Kept.cameo_eq] | split
      | dsimp only)

theorem storeDone_kept {chg : List Part} [May chg .out] [May chg .od] [May chg .clasp] [May chg .dict] [May chg .ports] [May chg
    .flash] {r0 s : State} (h : Kept chg r0 s)  : Kept chg r0 (storeDone s) := by
  unfold storeDone
  repeat' (first
      | with_reducible assumption | intro _ | with_reducible apply Kept.wr | with_reducible apply answerStore_kept
      | with_reducible apply resumeStores_kept | with_reducible apply Kept.clearOd | with_reducible apply Kept.ite
      | with_reducible apply Kept.ite_fst | simp (disch := first
      | exact May.or | exact Or.inr rfl) only [Kept.mk_eq, Kept.field_eq, Kept.cameo_eq] | split | dsimp only)

theorem requestCommit_kept {chg : List Part} [May chg .dict] {r0 s : State} (h : Kept chg r0 s) (n : Nat) (v : Nat) (emcyKind :
    Option Nat) : Kept chg r0 (requestCommit s n v emcyKind) := by
  unfold requestCommit
  repeat' (first
      | with_reducible assumption | intro _ | with_reducible apply Kept.wr | with_reducible apply putStaging_kept
      | with_reducible apply Kept.clearOd | with_reducible apply Kept.ite | with_reducible apply Kept.ite_fst
      | simp (disch := first | exact May.or | exact Or.inr rfl) only [Kept.mk_eq, Kept.field_eq, Kept.cameo_eq] | split
      | dsimp only)

theorem commitStart_kept {chg : List Part} [May chg .dict] {r0 s : State} (h : Kept chg r0 s)  : Kept chg r0 (commitStart s) := by
  unfold commitStart
  repeat' (first
      | with_reducible assumption | intro _ | with_reducible apply Kept.wr | with_reducible apply putStaging_kept
      | with_reducible apply Kept.clearOd | with_reducible apply Kept.ite | with_reducible apply Kept.ite_fst
      | simp (disch := first | exact May.or | exact Or.inr rfl) only [Kept.mk_eq, Kept.field_eq, Kept.cameo_eq] | split
      | dsimp only)

theorem stageRecord_kept {chg : List Part} [May chg .od] [May chg .ten] [May chg .clasp] [May chg .dict] [May chg .field] {r0 s
    : State} (h : Kept chg r0 s) (i : Nat) (n : Nat) (v : List Byte) : Kept chg r0 (stageRecord s i n v).1 := by
  unfold stageRecord
  repeat' (first
      | with_reducible assumption | intro _ | with_reducible apply Kept.wr | with_reducible apply ok_kept
      | with_reducible apply stage_kept | with_reducible apply refuse_kept | with_reducible apply Kept.clearOd
      | with_reducible apply Kept.ite | with_reducible apply Kept.ite_fst | simp (disch := first
      | exact May.or | exact Or.inr rfl) only [Kept.mk_eq, Kept.field_eq, Kept.cameo_eq] | split | dsimp only)

theorem stageRecords_kept {chg : List Part} [May chg .od] [May chg .ten] [May chg .clasp] [May chg .dict] [May chg .field] {r0 s
    : State} (h : Kept chg r0 s) (l : List (Nat × Nat × Nat × List Byte)) :
    Kept chg r0 (stageRecords s l).1 := by
  induction l generalizing s with
  | nil => exact h
  | cons x l ih =>
    obtain ⟨off, i, n, v⟩ := x
    rw [stageRecords]
    split
    · exact ih (stageRecord_kept h _ _ _)
    · exact stageRecord_kept h _ _ _

theorem endAction_kept {chg : List Part} [May chg .dict] {r0 s : State} (h : Kept chg r0 s) (st : Nat) (err : Nat) (failAt :
    Nat) : Kept chg r0 (endAction s st err failAt) := by
  unfold endAction
  repeat' (first
      | with_reducible assumption | intro _ | with_reducible apply Kept.wr | with_reducible apply Kept.clearOd
      | with_reducible apply Kept.ite | with_reducible apply Kept.ite_fst | simp (disch := first
      | exact May.or | exact Or.inr rfl) only [Kept.mk_eq, Kept.field_eq, Kept.cameo_eq] | split | dsimp only)

theorem actionBegun_kept {chg : List Part} [May chg .out] [May chg .od] [May chg .dict] {r0 s : State} (h : Kept chg r0 s)
    (action : Nat) (who : Nat) (foe : Bool) : Kept chg r0 (actionBegun s action who foe) := by
  unfold actionBegun
  repeat' (first
      | with_reducible assumption | intro _ | with_reducible apply Kept.wr | with_reducible apply putStaging_kept
      | with_reducible apply Kept.clearOd | with_reducible apply Kept.ite | with_reducible apply Kept.ite_fst
      | simp (disch := first | exact May.or | exact Or.inr rfl) only [Kept.mk_eq, Kept.field_eq, Kept.cameo_eq] | split
      | dsimp only)

theorem startAction_kept {chg : List Part} [May chg .out] [May chg .od] [May chg .ten] [May chg .clasp] [May chg .dict] [May chg
    .field] {r0 s : State} (h : Kept chg r0 s) (action who : Nat) (foe : Bool) : Kept chg r0 (startAction s action who foe) :=
    by
  have hs : ∀ {t : State} (_ : Kept chg r0 t) (l : List (Nat × Nat × Nat × List Byte)) {u o}, stageRecords t l = (u, o) → Kept chg r0 u :=
    fun ht l u o e => by have := stageRecords_kept ht l; rw [e] at this; exact this
  unfold startAction
  dsimp only
  split
  · repeat' (first
      | with_reducible assumption | intro _ | with_reducible apply Kept.wr | with_reducible apply actionBegun_kept
      | with_reducible apply endAction_kept | with_reducible apply putStaging_kept | with_reducible apply Kept.ite
      | with_reducible apply Kept.ite_fst | simp (disch := first
      | exact May.or | exact Or.inr rfl) only [Kept.mk_eq, Kept.field_eq, Kept.cameo_eq] | split | dsimp only)
  · split
    · repeat' (first
        | with_reducible assumption | intro _ | with_reducible apply Kept.wr | with_reducible apply actionBegun_kept
        | with_reducible apply endAction_kept | with_reducible apply putStaging_kept | with_reducible apply Kept.ite
        | with_reducible apply Kept.ite_fst | simp (disch := first
        | exact May.or | exact Or.inr rfl) only [Kept.mk_eq, Kept.field_eq, Kept.cameo_eq] | split | dsimp only)
    · split
      · rename_i e
        have hu := hs (by repeat' (first
            | with_reducible assumption | intro _ | with_reducible apply Kept.wr | with_reducible apply actionBegun_kept
            | with_reducible apply putStaging_kept | with_reducible apply Kept.ite | with_reducible apply Kept.ite_fst
            | simp (disch := first | exact May.or | exact Or.inr rfl) only [Kept.mk_eq, Kept.field_eq, Kept.cameo_eq] | split
            | dsimp only)) _ e
        exact endAction_kept (putStaging_kept hu _ _) _ _ _
      · rename_i e
        have hu := hs (by repeat' (first
            | with_reducible assumption | intro _ | with_reducible apply Kept.wr | with_reducible apply actionBegun_kept
            | with_reducible apply putStaging_kept | with_reducible apply Kept.ite | with_reducible apply Kept.ite_fst
            | simp (disch := first | exact May.or | exact Or.inr rfl) only [Kept.mk_eq, Kept.field_eq, Kept.cameo_eq] | split
            | dsimp only)) _ e
        split
        · exact endAction_kept (putStaging_kept hu _ _) _ _ _
        · exact requestCommit_kept hu _ _ _

theorem imageActionEnd_kept {chg : List Part} [May chg .out] [May chg .od] [May chg .dict] {r0 s : State} (h : Kept chg r0 s)  :
    Kept chg r0 (imageActionEnd s) := by
  unfold imageActionEnd
  repeat' (first
      | with_reducible assumption | intro _ | with_reducible apply Kept.wr | with_reducible apply send_kept
      | with_reducible apply Kept.clearOd | with_reducible apply Kept.ite | with_reducible apply Kept.ite_fst
      | simp (disch := first | exact May.or | exact Or.inr rfl) only [Kept.mk_eq, Kept.field_eq, Kept.cameo_eq] | split
      | dsimp only)

theorem loadImage_kept {chg : List Part} [May chg .od] [May chg .dict] {r0 s : State} (h : Kept chg r0 s) (v : List Byte) : Kept
    chg r0 (loadImage s v) := by
  unfold loadImage
  repeat' (first
      | with_reducible assumption | intro _ | with_reducible apply Kept.wr | with_reducible apply Kept.clearOd
      | with_reducible apply Kept.ite | with_reducible apply Kept.ite_fst | simp (disch := first
      | exact May.or | exact Or.inr rfl) only [Kept.mk_eq, Kept.field_eq, Kept.cameo_eq] | split | dsimp only)

theorem clearLog_kept {chg : List Part} [May chg .od] [May chg .ten] [May chg .memc] [May chg .isl] [May chg .power] {r0 s :
    State} (h : Kept chg r0 s) (i : Nat) : Kept chg r0 (clearLog s i) := by
  unfold clearLog
  repeat' (first
      | with_reducible assumption | intro _ | with_reducible apply Kept.wr | with_reducible apply ringClear_kept
      | with_reducible apply Kept.clearOd | with_reducible apply Kept.ite | with_reducible apply Kept.ite_fst
      | simp (disch := first | exact May.or | exact Or.inr rfl) only [Kept.mk_eq, Kept.field_eq, Kept.cameo_eq] | split
      | dsimp only)

theorem writeNow_kept {chg : List Part} [May chg .free] [May chg .out] [May chg .fwQueue] [May chg .od] [May chg .dom] [May chg
    .ten] [May chg .clasp] [May chg .dict] [May chg .field] [May chg .raster] [May chg .compose] [May chg .heads] [May chg
    .ports] [May chg .cameo] [May chg .touch] [May chg .hap] [May chg .audio] [May chg .memc] [May chg .locket] [May chg .flash]
    [May chg .isl] [May chg .power] {r0 s : State} (h : Kept chg r0 s) (who : Requester) (path : Nat) (k : Nat) (v : List Byte)
    (off : Nat) (bytes : List Byte) : Kept chg r0 (writeNow s who path k v off bytes) := by
  unfold writeNow
  repeat' (first
      | with_reducible assumption | intro _ | with_reducible apply Kept.wr | with_reducible apply wrBit_kept
      | with_reducible apply setLive_kept | with_reducible apply askCalibration_kept | with_reducible apply startSelftest_kept
      | with_reducible apply startCapture_kept | with_reducible apply clientReset_kept | with_reducible apply applyCharms_kept
      | with_reducible apply issueChallenge_kept | with_reducible apply takeResponse_kept | with_reducible apply epochDue_kept
      | with_reducible apply openWindow_kept | with_reducible apply takeOutput_kept | with_reducible apply askStore_kept
      | with_reducible apply requestCommit_kept | with_reducible apply startAction_kept | with_reducible apply loadImage_kept
      | with_reducible apply clearLog_kept | with_reducible apply Kept.foldl | with_reducible apply Kept.clearOd
      | with_reducible apply Kept.ite | with_reducible apply Kept.ite_fst | simp (disch := first
      | exact May.or | exact Or.inr rfl) only [Kept.mk_eq, Kept.field_eq, Kept.cameo_eq] | split | dsimp only)

theorem doWrite_kept {chg : List Part} [May chg .free] [May chg .out] [May chg .fwQueue] [May chg .od] [May chg .dom] [May chg
    .ten] [May chg .clasp] [May chg .dict] [May chg .field] [May chg .raster] [May chg .compose] [May chg .heads] [May chg
    .ports] [May chg .cameo] [May chg .touch] [May chg .hap] [May chg .audio] [May chg .memc] [May chg .locket] [May chg .flash]
    [May chg .isl] [May chg .power] {r0 s : State} (h : Kept chg r0 s) (a : Access) : Kept chg r0 (doWrite s a).1 := by
  unfold doWrite
  repeat' (first
      | with_reducible assumption | intro _ | with_reducible apply Kept.wr | with_reducible apply ok_kept
      | with_reducible apply stage_kept | with_reducible apply refuse_kept | with_reducible apply writeNow_kept
      | with_reducible apply Kept.clearOd | with_reducible apply Kept.ite | with_reducible apply Kept.ite_fst
      | simp (disch := first | exact May.or | exact Or.inr rfl) only [Kept.mk_eq, Kept.field_eq, Kept.cameo_eq] | split
      | dsimp only)

theorem dropApplying_kept {chg : List Part} [May chg .dict] {r0 s : State} (h : Kept chg r0 s) (k : Nat) : Kept chg r0 (dropApplying s k) := by
  unfold dropApplying
  repeat' (first
      | with_reducible assumption | intro _ | with_reducible apply Kept.wr | with_reducible apply Kept.clearOd
      | with_reducible apply Kept.ite | with_reducible apply Kept.ite_fst | simp (disch := first
      | exact May.or | exact Or.inr rfl) only [Kept.mk_eq, Kept.field_eq, Kept.cameo_eq] | split | dsimp only)

theorem landHeadKey_kept {chg : List Part} [May chg .od] [May chg .dom] [May chg .dict] [May chg .heads] {r0 s : State} (h :
    Kept chg r0 s) (h : Nat) (k : Nat) : Kept chg r0 (landHeadKey s h k) := by
  unfold landHeadKey
  repeat' (first
      | with_reducible assumption | intro _ | with_reducible apply Kept.wr | with_reducible apply landKey_kept
      | with_reducible apply landWhere_kept | with_reducible apply setHead_kept | with_reducible apply updateSums_kept
      | with_reducible apply updateSlices_kept | with_reducible apply landGeometry_kept | with_reducible apply lockAcquire_kept
      | with_reducible apply Kept.clearOd | with_reducible apply Kept.ite | with_reducible apply Kept.ite_fst
      | simp (disch := first | exact May.or | exact Or.inr rfl) only [Kept.mk_eq, Kept.field_eq, Kept.cameo_eq] | split
      | dsimp only)

theorem landRouteKey_kept {chg : List Part} [May chg .od] [May chg .dom] [May chg .dict] [May chg .heads] {r0 s : State} (h :
    Kept chg r0 s) (h : Nat) : Kept chg r0 (landRouteKey s h) := by
  unfold landRouteKey
  repeat' (first
      | with_reducible assumption | intro _ | with_reducible apply Kept.wr | with_reducible apply landRoute_kept
      | with_reducible apply Kept.clearOd | with_reducible apply Kept.ite | with_reducible apply Kept.ite_fst
      | simp (disch := first | exact May.or | exact Or.inr rfl) only [Kept.mk_eq, Kept.field_eq, Kept.cameo_eq] | split
      | dsimp only)

theorem landPanelKey_kept {chg : List Part} [May chg .od] [May chg .dom] [May chg .clasp] [May chg .dict] [May chg .touch] {r0 s
    : State} (h : Kept chg r0 s) (p : Nat) : Kept chg r0 (landPanelKey s p) := by
  unfold landPanelKey
  repeat' (first
      | with_reducible assumption | intro _ | with_reducible apply Kept.wr | with_reducible apply landWhere_kept
      | with_reducible apply answerApply_kept | with_reducible apply Kept.clearOd | with_reducible apply Kept.ite
      | with_reducible apply Kept.ite_fst | simp (disch := first
      | exact May.or | exact Or.inr rfl) only [Kept.mk_eq, Kept.field_eq, Kept.cameo_eq] | split | dsimp only)

theorem landAudioKey_kept {chg : List Part} [May chg .out] [May chg .fwQueue] [May chg .od] [May chg .dom] [May chg .dict] [May
    chg .audio] {r0 s : State} (h : Kept chg r0 s) (k : Nat) : Kept chg r0 (landAudioKey s k) := by
  unfold landAudioKey
  repeat' (first
      | with_reducible assumption | intro _ | with_reducible apply Kept.wr | with_reducible apply landKey_kept
      | with_reducible apply landWhere_kept | with_reducible apply settleDomains_kept | with_reducible apply settleAmps_kept
      | with_reducible apply settleGates_kept | with_reducible apply restartPort_kept | with_reducible apply landAudio_kept
      | with_reducible apply Kept.clearOd | with_reducible apply Kept.ite | with_reducible apply Kept.ite_fst
      | simp (disch := first | exact May.or | exact Or.inr rfl) only [Kept.mk_eq, Kept.field_eq, Kept.cameo_eq] | split
      | dsimp only)

theorem landCamKey_kept {chg : List Part} [May chg .out] [May chg .fwQueue] [May chg .od] [May chg .dom] [May chg .clasp] [May
    chg .dict] [May chg .field] [May chg .compose] [May chg .ports] {r0 s : State} (h : Kept chg r0 s) (r : Nat) (k : Nat) :
    Kept chg r0 (landCamKey s r k) := by
  unfold landCamKey
  repeat' (first
      | with_reducible assumption | intro _ | with_reducible apply Kept.wr | with_reducible apply endLasting_kept
      | with_reducible apply landKey_kept | with_reducible apply closeIncomplete_kept | with_reducible apply Kept.clearOd
      | with_reducible apply Kept.ite | with_reducible apply Kept.ite_fst | simp (disch := first
      | exact May.or | exact Or.inr rfl) only [Kept.mk_eq, Kept.field_eq, Kept.cameo_eq] | split | dsimp only)

theorem holdVectors_kept {chg : List Part} [May chg .clasp] {r0 s : State} (h : Kept chg r0 s) (g : Nat) : Kept chg r0 (holdVectors s g) := by
  unfold holdVectors
  repeat' (first
      | with_reducible assumption | intro _ | with_reducible apply Kept.wr | with_reducible apply setClasp_kept
      | with_reducible apply Kept.foldl | with_reducible apply Kept.clearOd | with_reducible apply Kept.ite
      | with_reducible apply Kept.ite_fst | simp (disch := first
      | exact May.or | exact Or.inr rfl) only [Kept.mk_eq, Kept.field_eq, Kept.cameo_eq] | split | dsimp only)

theorem landRanges_kept {chg : List Part} [May chg .out] [May chg .fwQueue] [May chg .od] [May chg .dom] [May chg .ten] [May chg
    .clasp] [May chg .dict] [May chg .raster] [May chg .compose] [May chg .heads] [May chg .ports] [May chg .cameo] [May chg
    .touch] [May chg .hap] [May chg .audio] [May chg .locket] {r0 s : State} (h : Kept chg r0 s)  : Kept chg r0 (landRanges s)
    := by
  unfold landRanges
  repeat' (first
      | with_reducible assumption | intro _ | with_reducible apply Kept.wr | with_reducible apply setCharm_kept
      | with_reducible apply landWhere_kept | with_reducible apply clientReset_kept | with_reducible apply holdVectors_kept
      | with_reducible apply Kept.foldl | with_reducible apply Kept.clearOd | with_reducible apply Kept.ite
      | with_reducible apply Kept.ite_fst | simp (disch := first
      | exact May.or | exact Or.inr rfl) only [Kept.mk_eq, Kept.field_eq, Kept.cameo_eq] | split | dsimp only)

theorem landGuestKey_kept {chg : List Part} [May chg .out] [May chg .fwQueue] [May chg .od] [May chg .dom] [May chg .mem] [May
    chg .ten] [May chg .clasp] [May chg .dict] [May chg .raster] [May chg .compose] [May chg .heads] [May chg .ports] [May chg
    .cameo] [May chg .touch] [May chg .hap] [May chg .audio] [May chg .memc] [May chg .locket] {r0 s : State} (h : Kept chg r0
    s) (g : Nat) (k : Nat) : Kept chg r0 (landGuestKey s g k) := by
  unfold landGuestKey
  repeat' (first
      | with_reducible assumption | intro _ | with_reducible apply Kept.wr | with_reducible apply landKey_kept
      | with_reducible apply settleRights_kept | with_reducible apply settleCarve_kept | with_reducible apply landRanges_kept
      | with_reducible apply Kept.foldl | with_reducible apply Kept.clearOd | with_reducible apply Kept.ite
      | with_reducible apply Kept.ite_fst | simp (disch := first
      | exact May.or | exact Or.inr rfl) only [Kept.mk_eq, Kept.field_eq, Kept.cameo_eq] | split | dsimp only)

theorem landMemKey_kept {chg : List Part} [May chg .od] [May chg .dom] [May chg .dict] {r0 s : State} (h : Kept chg r0 s) (k :
    Nat) : Kept chg r0 (landMemKey s k) := by
  unfold landMemKey
  repeat' (first
      | with_reducible assumption | intro _ | with_reducible apply Kept.wr | with_reducible apply landKey_kept
      | with_reducible apply Kept.clearOd | with_reducible apply Kept.ite | with_reducible apply Kept.ite_fst
      | simp (disch := first | exact May.or | exact Or.inr rfl) only [Kept.mk_eq, Kept.field_eq, Kept.cameo_eq] | split
      | dsimp only)

theorem landEntry_kept {chg : List Part} [May chg .free] [May chg .out] [May chg .fwQueue] [May chg .od] [May chg .dom] [May chg
    .mem] [May chg .ten] [May chg .clasp] [May chg .dict] [May chg .field] [May chg .raster] [May chg .compose] [May chg .heads]
    [May chg .ports] [May chg .cameo] [May chg .touch] [May chg .hap] [May chg .audio] [May chg .memc] [May chg .locket] [May
    chg .flash] [May chg .isl] [May chg .power] {r0 s : State} (h : Kept chg r0 s) (k : Nat) : Kept chg r0 (landEntry s k) := by
  unfold landEntry
  repeat' (first
      | with_reducible assumption | intro _ | with_reducible apply Kept.wr | with_reducible apply landKey_kept
      | with_reducible apply landHap_kept | with_reducible apply changeSource_kept | with_reducible apply settleMode_kept
      | with_reducible apply opReached_kept | with_reducible apply writeNow_kept | with_reducible apply dropApplying_kept
      | with_reducible apply landHeadKey_kept | with_reducible apply landRouteKey_kept | with_reducible apply landPanelKey_kept
      | with_reducible apply landAudioKey_kept | with_reducible apply landCamKey_kept | with_reducible apply landGuestKey_kept
      | with_reducible apply landMemKey_kept | with_reducible apply Kept.clearOd | with_reducible apply Kept.ite
      | with_reducible apply Kept.ite_fst | simp (disch := first
      | exact May.or | exact Or.inr rfl) only [Kept.mk_eq, Kept.field_eq, Kept.cameo_eq] | split | dsimp only)

theorem entryTakesEffect_kept {chg : List Part} [May chg .free] [May chg .out] [May chg .fwQueue] [May chg .od] [May chg .dom]
    [May chg .mem] [May chg .ten] [May chg .clasp] [May chg .dict] [May chg .field] [May chg .raster] [May chg .compose] [May
    chg .heads] [May chg .ports] [May chg .cameo] [May chg .touch] [May chg .hap] [May chg .audio] [May chg .memc] [May chg
    .locket] [May chg .flash] [May chg .isl] [May chg .power] {r0 s : State} (h : Kept chg r0 s) (i : Nat) (n : Nat) : Kept chg
    r0 (entryTakesEffect s i n) := by
  unfold entryTakesEffect
  repeat' (first
      | with_reducible assumption | intro _ | with_reducible apply Kept.wr | with_reducible apply landEntry_kept
      | with_reducible apply Kept.clearOd | with_reducible apply Kept.ite | with_reducible apply Kept.ite_fst
      | simp (disch := first | exact May.or | exact Or.inr rfl) only [Kept.mk_eq, Kept.field_eq, Kept.cameo_eq] | split
      | dsimp only)

theorem overlayEnd_kept {chg : List Part} [May chg .out] [May chg .od] [May chg .clasp] [May chg .field] [May chg .boot] {r0 s :
    State} (h : Kept chg r0 s) (ok : Bool) : Kept chg r0 (overlayEnd s ok) := by
  unfold overlayEnd
  repeat' (first
      | with_reducible assumption | intro _ | with_reducible apply Kept.wr | with_reducible apply ok_kept
      | with_reducible apply settleDevice_kept | with_reducible apply canStart_kept | with_reducible apply Kept.clearOd
      | with_reducible apply Kept.ite | with_reducible apply Kept.ite_fst | simp (disch := first
      | exact May.or | exact Or.inr rfl) only [Kept.mk_eq, Kept.field_eq, Kept.cameo_eq] | split | dsimp only)

theorem commitRefused_kept {chg : List Part} [May chg .out] [May chg .od] [May chg .clasp] [May chg .dict] [May chg .field] [May
    chg .ports] [May chg .flash] [May chg .boot] {r0 s : State} (h : Kept chg r0 s) (r : CommitRun) (code : Nat) (at_ : Nat) :
    Kept chg r0 (commitRefused s r code at_) := by
  unfold commitRefused
  repeat' (first
      | with_reducible assumption | intro _ | with_reducible apply Kept.wr | with_reducible apply emcy_kept
      | with_reducible apply putStaging_kept | with_reducible apply resumeStores_kept | with_reducible apply endAction_kept
      | with_reducible apply overlayEnd_kept | with_reducible apply Kept.clearOd | with_reducible apply Kept.ite
      | with_reducible apply Kept.ite_fst | simp (disch := first
      | exact May.or | exact Or.inr rfl) only [Kept.mk_eq, Kept.field_eq, Kept.cameo_eq] | split | dsimp only)

theorem commitChecksEnd_kept {chg : List Part} [May chg .out] [May chg .od] [May chg .clasp] [May chg .dict] [May chg .field]
    [May chg .ports] [May chg .flash] [May chg .boot] {r0 s : State} (h : Kept chg r0 s)  : Kept chg r0 (commitChecksEnd s) :=
    by
  unfold commitChecksEnd
  repeat' (first
      | with_reducible assumption | intro _ | with_reducible apply Kept.wr | with_reducible apply lutNotice_kept
      | with_reducible apply putStaging_kept | with_reducible apply resumeStores_kept | with_reducible apply commitRefused_kept
      | with_reducible apply Kept.foldl | with_reducible apply Kept.clearOd | with_reducible apply Kept.ite
      | with_reducible apply Kept.ite_fst | simp (disch := first
      | exact May.or | exact Or.inr rfl) only [Kept.mk_eq, Kept.field_eq, Kept.cameo_eq] | split | dsimp only)

theorem commitDone_kept {chg : List Part} [May chg .out] [May chg .od] [May chg .clasp] [May chg .dict] [May chg .field] [May
    chg .ports] [May chg .flash] [May chg .boot] {r0 s : State} (h : Kept chg r0 s)  : Kept chg r0 (commitDone s) := by
  unfold commitDone
  repeat' (first
      | with_reducible assumption | intro _ | with_reducible apply Kept.wr | with_reducible apply bumpWrap_kept
      | with_reducible apply putStaging_kept | with_reducible apply askStore_kept | with_reducible apply resumeStores_kept
      | with_reducible apply endAction_kept | with_reducible apply overlayEnd_kept | with_reducible apply Kept.clearOd
      | with_reducible apply Kept.ite | with_reducible apply Kept.ite_fst | simp (disch := first
      | exact May.or | exact Or.inr rfl) only [Kept.mk_eq, Kept.field_eq, Kept.cameo_eq] | split | dsimp only)

theorem escStore_kept {chg : List Part} [May chg .field] {r0 s : State} (h : Kept chg r0 s) (a : Nat) (bs : List Byte) : Kept
    chg r0 (escStore s a bs) := by
  unfold escStore
  repeat' (first
      | with_reducible assumption | intro _ | with_reducible apply Kept.wr | with_reducible apply Kept.foldl
      | with_reducible apply Kept.clearOd | with_reducible apply Kept.ite | with_reducible apply Kept.ite_fst
      | simp (disch := first | exact May.or | exact Or.inr rfl) only [Kept.mk_eq, Kept.field_eq, Kept.cameo_eq] | split
      | dsimp only)

theorem escWrite_kept {chg : List Part} [May chg .field] {r0 s : State} (h : Kept chg r0 s) (a : Nat) (b : Byte) : Kept chg r0 (escWrite s a b) := by
  unfold escWrite
  repeat' (first
      | with_reducible assumption | intro _ | with_reducible apply Kept.wr | with_reducible apply escStore_kept
      | with_reducible apply Kept.clearOd | with_reducible apply Kept.ite | with_reducible apply Kept.ite_fst
      | simp (disch := first | exact May.or | exact Or.inr rfl) only [Kept.mk_eq, Kept.field_eq, Kept.cameo_eq] | split
      | dsimp only)

theorem datagram_kept {chg : List Part} [May chg .out] [May chg .field] {r0 s : State} (h : Kept chg r0 s) (d : Datagram) : Kept
    chg r0 (datagram s d) := by
  unfold datagram
  repeat' (first
      | with_reducible assumption | intro _ | with_reducible apply Kept.wr | with_reducible apply send_kept
      | with_reducible apply escWrite_kept | with_reducible apply Kept.foldl | with_reducible apply Kept.clearOd
      | with_reducible apply Kept.ite | with_reducible apply Kept.ite_fst | simp (disch := first
      | exact May.or | exact Or.inr rfl) only [Kept.mk_eq, Kept.field_eq, Kept.cameo_eq] | split | dsimp only)

theorem answerAccess_kept {chg : List Part} [May chg .out] [May chg .clasp] [May chg .ports] {r0 s : State} (h : Kept chg r0 s)
    (a : Access) (abort : Nat) (data : List Byte) : Kept chg r0 (answerAccess s a abort data) := by
  unfold answerAccess
  repeat' (first
      | with_reducible assumption | intro _ | with_reducible apply Kept.wr | with_reducible apply send_kept
      | with_reducible apply setPort_kept | with_reducible apply mailbox_kept | with_reducible apply Kept.foldl
      | with_reducible apply Kept.clearOd | with_reducible apply Kept.ite | with_reducible apply Kept.ite_fst
      | simp (disch := first | exact May.or | exact Or.inr rfl) only [Kept.mk_eq, Kept.field_eq, Kept.cameo_eq] | split
      | dsimp only)

theorem performAccess_kept {chg : List Part} [May chg .free] [May chg .out] [May chg .fwQueue] [May chg .od] [May chg .dom] [May
    chg .ten] [May chg .clasp] [May chg .dict] [May chg .field] [May chg .raster] [May chg .compose] [May chg .heads] [May chg
    .ports] [May chg .cameo] [May chg .touch] [May chg .hap] [May chg .audio] [May chg .memc] [May chg .locket] [May chg .flash]
    [May chg .isl] [May chg .power] {r0 s : State} (h : Kept chg r0 s) (a : Access) : Kept chg r0 (performAccess s a) := by
  unfold performAccess
  repeat' (first
      | with_reducible assumption | intro _ | with_reducible apply Kept.wr | with_reducible apply bump_kept
      | with_reducible apply violate_kept | with_reducible apply putStaging_kept | with_reducible apply doRead_kept
      | with_reducible apply doWrite_kept | with_reducible apply answerAccess_kept | with_reducible apply Kept.clearOd
      | with_reducible apply Kept.ite | with_reducible apply Kept.ite_fst | simp (disch := first
      | exact May.or | exact Or.inr rfl) only [Kept.mk_eq, Kept.field_eq, Kept.cameo_eq] | split | dsimp only)

theorem performFile_kept {chg : List Part} [May chg .out] [May chg .od] [May chg .ten] [May chg .clasp] [May chg .dict] [May chg
    .field] {r0 s : State} (h : Kept chg r0 s) (action : Nat) (bytes : List Byte) : Kept chg r0 (performFile s action bytes) :=
    by
  unfold performFile
  repeat' (first
      | with_reducible assumption | intro _ | with_reducible apply Kept.wr | with_reducible apply send_kept
      | with_reducible apply startAction_kept | with_reducible apply loadImage_kept | with_reducible apply Kept.clearOd
      | with_reducible apply Kept.ite | with_reducible apply Kept.ite_fst | simp (disch := first
      | exact May.or | exact Or.inr rfl) only [Kept.mk_eq, Kept.field_eq, Kept.cameo_eq] | split | dsimp only)

theorem performEither_kept {chg : List Part} [May chg .free] [May chg .out] [May chg .fwQueue] [May chg .od] [May chg .dom] [May
    chg .ten] [May chg .clasp] [May chg .dict] [May chg .field] [May chg .raster] [May chg .compose] [May chg .heads] [May chg
    .ports] [May chg .cameo] [May chg .touch] [May chg .hap] [May chg .audio] [May chg .memc] [May chg .locket] [May chg .flash]
    [May chg .isl] [May chg .power] {r0 s : State} (h : Kept chg r0 s) (a : Access) : Kept chg r0 (performEither s a) := by
  unfold performEither
  repeat' (first
      | with_reducible assumption | intro _ | with_reducible apply Kept.wr | with_reducible apply performAccess_kept
      | with_reducible apply performFile_kept | with_reducible apply Kept.clearOd | with_reducible apply Kept.ite
      | with_reducible apply Kept.ite_fst | simp (disch := first
      | exact May.or | exact Or.inr rfl) only [Kept.mk_eq, Kept.field_eq, Kept.cameo_eq] | split | dsimp only)

theorem arrive_kept {chg : List Part} [May chg .free] [May chg .out] [May chg .fwQueue] [May chg .od] [May chg .dom] [May chg
    .ten] [May chg .clasp] [May chg .dict] [May chg .field] [May chg .raster] [May chg .compose] [May chg .heads] [May chg
    .ports] [May chg .cameo] [May chg .touch] [May chg .hap] [May chg .audio] [May chg .memc] [May chg .locket] [May chg .flash]
    [May chg .isl] [May chg .power] {r0 s : State} (h : Kept chg r0 s) (a : Access) : Kept chg r0 (arrive s a) := by
  unfold arrive
  repeat' (first
      | with_reducible assumption | intro _ | with_reducible apply Kept.wr | with_reducible apply wake_kept
      | with_reducible apply sleepExit_kept | with_reducible apply performEither_kept | with_reducible apply Kept.clearOd
      | with_reducible apply Kept.ite | with_reducible apply Kept.ite_fst | simp (disch := first
      | exact May.or | exact Or.inr rfl) only [Kept.mk_eq, Kept.field_eq, Kept.cameo_eq] | split | dsimp only)

theorem serveWaiting_kept {chg : List Part} [May chg .free] [May chg .out] [May chg .fwQueue] [May chg .od] [May chg .dom] [May
    chg .ten] [May chg .clasp] [May chg .dict] [May chg .field] [May chg .raster] [May chg .compose] [May chg .heads] [May chg
    .ports] [May chg .cameo] [May chg .touch] [May chg .hap] [May chg .audio] [May chg .memc] [May chg .locket] [May chg .flash]
    [May chg .isl] [May chg .power] {r0 s : State} (h : Kept chg r0 s)  : Kept chg r0 (serveWaiting s) := by
  unfold serveWaiting
  repeat' (first
      | with_reducible assumption | intro _ | with_reducible apply Kept.wr | with_reducible apply performEither_kept
      | with_reducible apply Kept.foldl | with_reducible apply Kept.clearOd | with_reducible apply Kept.ite
      | with_reducible apply Kept.ite_fst | simp (disch := first
      | exact May.or | exact Or.inr rfl) only [Kept.mk_eq, Kept.field_eq, Kept.cameo_eq] | split | dsimp only)

theorem portBusy_kept {chg : List Part} [May chg .clasp] [May chg .ports] {r0 s : State} (h : Kept chg r0 s) (f : Nat) : Kept
    chg r0 (portBusy s f) := by
  unfold portBusy
  repeat' (first
      | with_reducible assumption | intro _ | with_reducible apply Kept.wr | with_reducible apply setPort_kept
      | with_reducible apply Kept.clearOd | with_reducible apply Kept.ite | with_reducible apply Kept.ite_fst
      | simp (disch := first | exact May.or | exact Or.inr rfl) only [Kept.mk_eq, Kept.field_eq, Kept.cameo_eq] | split
      | dsimp only)

theorem portDiscard_kept {chg : List Part} [May chg .clasp] [May chg .ports] {r0 s : State} (h : Kept chg r0 s) (f : Nat) : Kept
    chg r0 (portDiscard s f) := by
  unfold portDiscard
  repeat' (first
      | with_reducible assumption | intro _ | with_reducible apply Kept.wr | with_reducible apply setPort_kept
      | with_reducible apply Kept.clearOd | with_reducible apply Kept.ite | with_reducible apply Kept.ite_fst
      | simp (disch := first | exact May.or | exact Or.inr rfl) only [Kept.mk_eq, Kept.field_eq, Kept.cameo_eq] | split
      | dsimp only)

theorem refuseLength_kept {chg : List Part} [May chg .out] [May chg .od] [May chg .ten] [May chg .clasp] [May chg .dict] [May
    chg .field] [May chg .ports] {r0 s : State} (h : Kept chg r0 s) (a : Access) : Kept chg r0 (refuseLength s a) := by
  unfold refuseLength
  repeat' (first
      | with_reducible assumption | intro _ | with_reducible apply Kept.wr | with_reducible apply refuse_kept
      | with_reducible apply answerAccess_kept | with_reducible apply Kept.clearOd | with_reducible apply Kept.ite
      | with_reducible apply Kept.ite_fst | simp (disch := first
      | exact May.or | exact Or.inr rfl) only [Kept.mk_eq, Kept.field_eq, Kept.cameo_eq] | split | dsimp only)

theorem access_kept {chg : List Part} [May chg .free] [May chg .out] [May chg .fwQueue] [May chg .od] [May chg .dom] [May chg
    .ten] [May chg .clasp] [May chg .dict] [May chg .field] [May chg .raster] [May chg .compose] [May chg .heads] [May chg
    .ports] [May chg .cameo] [May chg .touch] [May chg .hap] [May chg .audio] [May chg .memc] [May chg .locket] [May chg .flash]
    [May chg .isl] [May chg .power] {r0 s : State} (h : Kept chg r0 s) (a : Access) : Kept chg r0 (access s a) := by
  unfold access
  repeat' (first
      | with_reducible assumption | intro _ | with_reducible apply Kept.wr | with_reducible apply arrive_kept
      | with_reducible apply portBusy_kept | with_reducible apply portDiscard_kept | with_reducible apply refuseLength_kept
      | with_reducible apply Kept.clearOd | with_reducible apply Kept.ite | with_reducible apply Kept.ite_fst
      | simp (disch := first | exact May.or | exact Or.inr rfl) only [Kept.mk_eq, Kept.field_eq, Kept.cameo_eq] | split
      | dsimp only)

theorem writeNum_kept {chg : List Part} [May chg .free] [May chg .out] [May chg .fwQueue] [May chg .od] [May chg .dom] [May chg
    .ten] [May chg .clasp] [May chg .dict] [May chg .field] [May chg .raster] [May chg .compose] [May chg .heads] [May chg
    .ports] [May chg .cameo] [May chg .touch] [May chg .hap] [May chg .audio] [May chg .memc] [May chg .locket] [May chg .flash]
    [May chg .isl] [May chg .power] {r0 s : State} (h : Kept chg r0 s) (who : Requester) (k : Nat) (n : Nat) (v : Nat) : Kept
    chg r0 (writeNum s who k n v) := by
  unfold writeNum
  repeat' (first
      | with_reducible assumption | intro _ | with_reducible apply Kept.wr | with_reducible apply access_kept
      | with_reducible apply Kept.clearOd | with_reducible apply Kept.ite | with_reducible apply Kept.ite_fst
      | simp (disch := first | exact May.or | exact Or.inr rfl) only [Kept.mk_eq, Kept.field_eq, Kept.cameo_eq] | split
      | dsimp only)

theorem writeBytes_kept {chg : List Part} [May chg .free] [May chg .out] [May chg .fwQueue] [May chg .od] [May chg .dom] [May
    chg .ten] [May chg .clasp] [May chg .dict] [May chg .field] [May chg .raster] [May chg .compose] [May chg .heads] [May chg
    .ports] [May chg .cameo] [May chg .touch] [May chg .hap] [May chg .audio] [May chg .memc] [May chg .locket] [May chg .flash]
    [May chg .isl] [May chg .power] {r0 s : State} (h : Kept chg r0 s) (who : Requester) (k : Nat) (off : Nat) (bytes : List
    Byte) : Kept chg r0 (writeBytes s who k off bytes) := by
  unfold writeBytes
  repeat' (first
      | with_reducible assumption | intro _ | with_reducible apply Kept.wr | with_reducible apply access_kept
      | with_reducible apply Kept.clearOd | with_reducible apply Kept.ite | with_reducible apply Kept.ite_fst
      | simp (disch := first | exact May.or | exact Or.inr rfl) only [Kept.mk_eq, Kept.field_eq, Kept.cameo_eq] | split
      | dsimp only)

theorem portCommand_kept {chg : List Part} [May chg .free] [May chg .out] [May chg .fwQueue] [May chg .od] [May chg .dom] [May
    chg .ten] [May chg .clasp] [May chg .dict] [May chg .field] [May chg .raster] [May chg .compose] [May chg .heads] [May chg
    .ports] [May chg .cameo] [May chg .touch] [May chg .hap] [May chg .audio] [May chg .memc] [May chg .locket] [May chg .flash]
    [May chg .isl] [May chg .power] {r0 s : State} (h : Kept chg r0 s) (f : Func) (write : Bool) : Kept chg r0 (portCommand s f
    write) := by
  unfold portCommand
  repeat' (first
      | with_reducible assumption | intro _ | with_reducible apply Kept.wr | with_reducible apply arrive_kept
      | with_reducible apply portBusy_kept | with_reducible apply portDiscard_kept | with_reducible apply refuseLength_kept
      | with_reducible apply Kept.clearOd | with_reducible apply Kept.ite | with_reducible apply Kept.ite_fst
      | simp (disch := first | exact May.or | exact Or.inr rfl) only [Kept.mk_eq, Kept.field_eq, Kept.cameo_eq] | split
      | dsimp only)

theorem portDone_kept {chg : List Part} [May chg .out] [May chg .clasp] [May chg .ports] {r0 s : State} (h : Kept chg r0 s) (f :
    Nat) : Kept chg r0 (portDone s f) := by
  unfold portDone
  repeat' (first
      | with_reducible assumption | intro _ | with_reducible apply Kept.wr | with_reducible apply setPort_kept
      | with_reducible apply msixSend_kept | with_reducible apply Kept.clearOd | with_reducible apply Kept.ite
      | with_reducible apply Kept.ite_fst | simp (disch := first
      | exact May.or | exact Or.inr rfl) only [Kept.mk_eq, Kept.field_eq, Kept.cameo_eq] | split | dsimp only)

theorem msixWrite_kept {chg : List Part} [May chg .out] [May chg .clasp] [May chg .ports] {r0 s : State} (h : Kept chg r0 s) (f
    : Nat) (i : Nat) (v : Nat) : Kept chg r0 (msixWrite s f i v) := by
  unfold msixWrite
  repeat' (first
      | with_reducible assumption | intro _ | with_reducible apply Kept.wr | with_reducible apply setPort_kept
      | with_reducible apply msixSend_kept | with_reducible apply Kept.clearOd | with_reducible apply Kept.ite
      | with_reducible apply Kept.ite_fst | simp (disch := first
      | exact May.or | exact Or.inr rfl) only [Kept.mk_eq, Kept.field_eq, Kept.cameo_eq] | split | dsimp only)

theorem bar2Write_kept {chg : List Part} [May chg .free] [May chg .out] [May chg .fwQueue] [May chg .od] [May chg .dom] [May chg
    .ten] [May chg .clasp] [May chg .dict] [May chg .field] [May chg .raster] [May chg .compose] [May chg .heads] [May chg
    .ports] [May chg .cameo] [May chg .touch] [May chg .hap] [May chg .audio] [May chg .memc] [May chg .locket] [May chg .flash]
    [May chg .isl] [May chg .power] {r0 s : State} (h : Kept chg r0 s) (f : Func) (off : Nat) (bytes : List (Option Byte)) :
    Kept chg r0 (bar2Write s f off bytes) := by
  unfold bar2Write
  repeat' (first
      | with_reducible assumption | intro _ | with_reducible apply Kept.wr | with_reducible apply setPort_kept
      | with_reducible apply portDiscard_kept | with_reducible apply portCommand_kept | with_reducible apply msixWrite_kept
      | with_reducible apply Kept.foldl | with_reducible apply Kept.clearOd | with_reducible apply Kept.ite
      | with_reducible apply Kept.ite_fst | simp (disch := first
      | exact May.or | exact Or.inr rfl) only [Kept.mk_eq, Kept.field_eq, Kept.cameo_eq] | split | dsimp only)

theorem bar2Read_kept {chg : List Part} [May chg .out] [May chg .clasp] [May chg .ports] {r0 s : State} (h : Kept chg r0 s) (f :
    Nat) (off : Nat) (be : List Bool) : Kept chg r0 (bar2Read s f off be) := by
  unfold bar2Read
  repeat' (first
      | with_reducible assumption | intro _ | with_reducible apply Kept.wr | with_reducible apply send_kept
      | with_reducible apply setPort_kept | with_reducible apply Kept.clearOd | with_reducible apply Kept.ite
      | with_reducible apply Kept.ite_fst | simp (disch := first
      | exact May.or | exact Or.inr rfl) only [Kept.mk_eq, Kept.field_eq, Kept.cameo_eq] | split | dsimp only)

theorem registerWrite_kept {chg : List Part} [May chg .free] [May chg .out] [May chg .fwQueue] [May chg .od] [May chg .dom] [May
    chg .ten] [May chg .clasp] [May chg .dict] [May chg .field] [May chg .raster] [May chg .compose] [May chg .heads] [May chg
    .ports] [May chg .cameo] [May chg .touch] [May chg .hap] [May chg .audio] [May chg .memc] [May chg .locket] [May chg .flash]
    [May chg .isl] [May chg .power] {r0 s : State} (h : Kept chg r0 s) (t : RegTarget) : Kept chg r0 (registerWrite s t) := by
  cases t with
  | bar2 f off bytes => exact bar2Write_kept h f off bytes
  | clasp f c off bytes => exact bar0Write_kept h f.val c.val off bytes
  | dict who i n bytes => exact writeBytes_kept h who _ _ bytes
  | pte g n v => exact writePte_kept h _ _ _
  | esc d => exact datagram_kept h d

theorem sendAl_kept {chg : List Part} [May chg .out] {r0 s : State} (h : Kept chg r0 s)  : Kept chg r0 (sendAl s) := by
  unfold sendAl
  repeat' (first
      | with_reducible assumption | intro _ | with_reducible apply Kept.wr | with_reducible apply send_kept
      | with_reducible apply Kept.clearOd | with_reducible apply Kept.ite | with_reducible apply Kept.ite_fst
      | simp (disch := first | exact May.or | exact Or.inr rfl) only [Kept.mk_eq, Kept.field_eq, Kept.cameo_eq] | split
      | dsimp only)

theorem alRequest_kept {chg : List Part} [May chg .out] [May chg .field] {r0 s : State} (h : Kept chg r0 s) (b : Nat) : Kept chg
    r0 (alRequest s b) := by
  unfold alRequest
  repeat' (first
      | with_reducible assumption | intro _ | with_reducible apply Kept.wr | with_reducible apply sendAl_kept
      | with_reducible apply Kept.clearOd | with_reducible apply Kept.ite | with_reducible apply Kept.ite_fst
      | simp (disch := first | exact May.or | exact Or.inr rfl) only [Kept.mk_eq, Kept.field_eq, Kept.cameo_eq] | split
      | dsimp only)

theorem alRefusal_legal {s : State} {b : Nat} (h : alRefusal s b = 0) (w : legalAl s = true) :
    b = 1 ∨ b = 2 ∨ b = 3 ∨ b = 4 ∨ b = 8 := by
  have h1 : alStep s.field.al b = true := by
    cases hc : alStep s.field.al b with
    | true => rfl
    | false => simp [alRefusal, hc] at h
  simp only [alStep, legalAl, Bool.or_eq_true, Bool.and_eq_true, beq_iff_eq] at h1 w
  omega

theorem alConfirm_kept {chg : List Part} [May chg .out] [May chg .fwQueue] [May chg .od] [May chg .field] [May chg .flash] [May
    chg .isl] [May chg .power] {r0 s : State} (h : Kept chg r0 s) : Kept chg r0 (alConfirm s) := by
  unfold alConfirm
  dsimp only
  split
  · exact h
  · split
    · exact h
    · have h1 : Kept chg r0 { s with field := { s.field with alHeld := none } } := by
        simp (disch := first | exact May.or | exact Or.inr rfl) only [Kept.field_eq]; exact h
      split
      · rename_i hc
        refine sendAl_kept ?_
        simp (disch := first | exact May.or | exact Or.inr rfl) only [Kept.field_eq]; exact h
      · rename_i b _ _ hc
        have h2 := setAl_kept h1 b (if b = 1 then initStatus { s with field := { s.field with alHeld := none } } else 0)
          (alRefusal_legal (by simpa using hc))
        refine opReached_kept (sendAl_kept ?_)
        repeat' (first
            | with_reducible assumption | intro _ | with_reducible apply h2 | with_reducible apply Kept.ite
            | with_reducible apply Kept.ite_fst | simp (disch := first
            | exact May.or | exact Or.inr rfl) only [Kept.mk_eq, Kept.field_eq, Kept.cameo_eq] | split | dsimp only)

theorem sm2Watchdog_kept {chg : List Part} [May chg .out] [May chg .od] [May chg .field] {r0 s : State} (h : Kept chg r0 s) :
    Kept chg r0 (sm2Watchdog s) := by
  have h1 := setAl_kept h 4 0x001B (fun _ => by omega)
  unfold sm2Watchdog
  dsimp only
  split
  · refine sendAl_kept ?_
    simp (disch := first | exact May.or | exact Or.inr rfl) only [Kept.field_eq]; exact h1
  · exact h

theorem sync0_kept {chg : List Part} [May chg .free] [May chg .out] [May chg .fwQueue] [May chg .od] [May chg .clasp] [May chg
    .field] [May chg .raster] [May chg .ports] [May chg .hap] [May chg .power] {r0 s : State} (h : Kept chg r0 s)  : Kept chg r0
    (sync0 s) := by
  unfold sync0
  repeat' (first
      | with_reducible assumption | intro _ | with_reducible apply Kept.wr | with_reducible apply snapshot_kept
      | with_reducible apply takeBuffer_kept | with_reducible apply Kept.clearOd | with_reducible apply Kept.ite
      | with_reducible apply Kept.ite_fst | simp (disch := first
      | exact May.or | exact Or.inr rfl) only [Kept.mk_eq, Kept.field_eq, Kept.cameo_eq] | split | dsimp only)

theorem bufferComplete_kept {chg : List Part} [May chg .free] [May chg .out] [May chg .fwQueue] [May chg .od] [May chg .clasp]
    [May chg .field] [May chg .raster] [May chg .ports] [May chg .hap] [May chg .power] {r0 s : State} (h : Kept chg r0 s)
    (bytes : List Byte) : Kept chg r0 (bufferComplete s bytes) := by
  unfold bufferComplete
  repeat' (first
      | with_reducible assumption | intro _ | with_reducible apply Kept.wr | with_reducible apply bump_kept
      | with_reducible apply snapshot_kept | with_reducible apply takeBuffer_kept | with_reducible apply escStore_kept
      | with_reducible apply Kept.clearOd | with_reducible apply Kept.ite | with_reducible apply Kept.ite_fst
      | simp (disch := first | exact May.or | exact Or.inr rfl) only [Kept.mk_eq, Kept.field_eq, Kept.cameo_eq] | split
      | dsimp only)

theorem freeRun_kept {chg : List Part} [May chg .free] [May chg .out] [May chg .fwQueue] [May chg .od] [May chg .clasp] [May chg
    .field] [May chg .raster] [May chg .ports] [May chg .hap] [May chg .power] {r0 s : State} (h : Kept chg r0 s)  : Kept chg r0
    (freeRun s) := by
  unfold freeRun
  repeat' (first
      | with_reducible assumption | intro _ | with_reducible apply Kept.wr | with_reducible apply snapshot_kept
      | with_reducible apply takeBuffer_kept | with_reducible apply Kept.clearOd | with_reducible apply Kept.ite
      | with_reducible apply Kept.ite_fst | simp (disch := first
      | exact May.or | exact Or.inr rfl) only [Kept.mk_eq, Kept.field_eq, Kept.cameo_eq] | split | dsimp only)

theorem alarmTimeout_kept {chg : List Part} [May chg .od] [May chg .field] {r0 s : State} (h : Kept chg r0 s)  : Kept chg r0 (alarmTimeout s) := by
  unfold alarmTimeout
  repeat' (first
      | with_reducible assumption | intro _ | with_reducible apply Kept.wr | with_reducible apply alarmSafe_kept
      | with_reducible apply Kept.clearOd | with_reducible apply Kept.ite | with_reducible apply Kept.ite_fst
      | simp (disch := first | exact May.or | exact Or.inr rfl) only [Kept.mk_eq, Kept.field_eq, Kept.cameo_eq] | split
      | dsimp only)

theorem sync0Stamp_kept {chg : List Part} [May chg .od] [May chg .field] [May chg .heads] {r0 s : State} (h : Kept chg r0 s) (t
    : Nat) : Kept chg r0 (sync0Stamp s t) := by
  unfold sync0Stamp
  repeat' (first
      | with_reducible assumption | intro _ | with_reducible apply Kept.wr | with_reducible apply lockAcquire_kept
      | with_reducible apply Kept.foldl | with_reducible apply Kept.clearOd | with_reducible apply Kept.ite
      | with_reducible apply Kept.ite_fst | simp (disch := first
      | exact May.or | exact Or.inr rfl) only [Kept.mk_eq, Kept.field_eq, Kept.cameo_eq] | split | dsimp only)

theorem nmtTo_kept {chg : List Part} [May chg .out] [May chg .fwQueue] [May chg .od] [May chg .field] [May chg .flash] [May chg
    .isl] [May chg .power] {r0 s : State} (h : Kept chg r0 s) (n : Nat) (st : Nat) : Kept chg r0 (nmtTo s n st) := by
  unfold nmtTo
  repeat' (first
      | with_reducible assumption | intro _ | with_reducible apply Kept.wr | with_reducible apply setNmt_kept
      | with_reducible apply opReached_kept | with_reducible apply Kept.clearOd | with_reducible apply Kept.ite
      | with_reducible apply Kept.ite_fst | simp (disch := first
      | exact May.or | exact Or.inr rfl) only [Kept.mk_eq, Kept.field_eq, Kept.cameo_eq] | split | dsimp only)

theorem nmtReset_kept {chg : List Part} [May chg .out] [May chg .od] [May chg .field] {r0 s : State} (h : Kept chg r0 s) (n :
    Nat) : Kept chg r0 (nmtReset s n) := by
  unfold nmtReset
  repeat' (first
      | with_reducible assumption | intro _ | with_reducible apply Kept.wr | with_reducible apply canStart_kept
      | with_reducible apply Kept.clearOd | with_reducible apply Kept.ite | with_reducible apply Kept.ite_fst
      | simp (disch := first | exact May.or | exact Or.inr rfl) only [Kept.mk_eq, Kept.field_eq, Kept.cameo_eq] | split
      | dsimp only)

theorem heartbeat_kept {chg : List Part} [May chg .out] {r0 s : State} (h : Kept chg r0 s) (n : Nat) : Kept chg r0 (heartbeat s n) := by
  unfold heartbeat
  repeat' (first
      | with_reducible assumption | intro _ | with_reducible apply Kept.wr | with_reducible apply send_kept
      | with_reducible apply Kept.clearOd | with_reducible apply Kept.ite | with_reducible apply Kept.ite_fst
      | simp (disch := first | exact May.or | exact Or.inr rfl) only [Kept.mk_eq, Kept.field_eq, Kept.cameo_eq] | split
      | dsimp only)

theorem sendTpdo_kept {chg : List Part} [May chg .out] [May chg .field] {r0 s : State} (h : Kept chg r0 s) (n : Nat) (t : Nat)
    (bs : List Byte) : Kept chg r0 (sendTpdo s n t bs) := by
  unfold sendTpdo
  repeat' (first
      | with_reducible assumption | intro _ | with_reducible apply Kept.wr | with_reducible apply send_kept
      | with_reducible apply setCan_kept | with_reducible apply Kept.clearOd | with_reducible apply Kept.ite
      | with_reducible apply Kept.ite_fst | simp (disch := first
      | exact May.or | exact Or.inr rfl) only [Kept.mk_eq, Kept.field_eq, Kept.cameo_eq] | split | dsimp only)

theorem tpdoTransmit_kept {chg : List Part} [May chg .out] [May chg .field] {r0 s : State} (h : Kept chg r0 s) (n : Nat) (t :
    Nat) (timer : Bool) : Kept chg r0 (tpdoTransmit s n t timer) := by
  unfold tpdoTransmit
  repeat' (first
      | with_reducible assumption | intro _ | with_reducible apply Kept.wr | with_reducible apply sendTpdo_kept
      | with_reducible apply Kept.clearOd | with_reducible apply Kept.ite | with_reducible apply Kept.ite_fst
      | simp (disch := first | exact May.or | exact Or.inr rfl) only [Kept.mk_eq, Kept.field_eq, Kept.cameo_eq] | split
      | dsimp only)

theorem takeRpdo_kept {chg : List Part} [May chg .free] [May chg .out] [May chg .fwQueue] [May chg .od] [May chg .clasp] [May
    chg .field] [May chg .raster] [May chg .ports] [May chg .hap] [May chg .power] {r0 s : State} (h : Kept chg r0 s) (r : Nat)
    (bytes : List Byte) : Kept chg r0 (takeRpdo s r bytes) := by
  unfold takeRpdo
  repeat' (first
      | with_reducible assumption | intro _ | with_reducible apply Kept.wr | with_reducible apply takeSourced_kept
      | with_reducible apply Kept.clearOd | with_reducible apply Kept.ite | with_reducible apply Kept.ite_fst
      | simp (disch := first | exact May.or | exact Or.inr rfl) only [Kept.mk_eq, Kept.field_eq, Kept.cameo_eq] | split
      | dsimp only)

theorem rpdoReceive_kept {chg : List Part} [May chg .free] [May chg .out] [May chg .fwQueue] [May chg .od] [May chg .clasp] [May
    chg .field] [May chg .raster] [May chg .ports] [May chg .hap] [May chg .power] {r0 s : State} (h : Kept chg r0 s) (n : Nat)
    (r : Nat) (bytes : List Byte) : Kept chg r0 (rpdoReceive s n r bytes) := by
  unfold rpdoReceive
  repeat' (first
      | with_reducible assumption | intro _ | with_reducible apply Kept.wr | with_reducible apply bump_kept
      | with_reducible apply setCan_kept | with_reducible apply emcy_kept | with_reducible apply takeRpdo_kept
      | with_reducible apply Kept.clearOd | with_reducible apply Kept.ite | with_reducible apply Kept.ite_fst
      | simp (disch := first | exact May.or | exact Or.inr rfl) only [Kept.mk_eq, Kept.field_eq, Kept.cameo_eq] | split
      | dsimp only)

theorem canSync_kept {chg : List Part} [May chg .free] [May chg .out] [May chg .fwQueue] [May chg .od] [May chg .clasp] [May chg
    .field] [May chg .raster] [May chg .ports] [May chg .hap] [May chg .power] {r0 s : State} (h : Kept chg r0 s) (n : Nat) :
    Kept chg r0 (canSync s n) := by
  unfold canSync
  repeat' (first
      | with_reducible assumption | intro _ | with_reducible apply Kept.wr | with_reducible apply setCan_kept
      | with_reducible apply sendTpdo_kept | with_reducible apply takeRpdo_kept | with_reducible apply Kept.foldl
      | with_reducible apply Kept.clearOd | with_reducible apply Kept.ite | with_reducible apply Kept.ite_fst
      | simp (disch := first | exact May.or | exact Or.inr rfl) only [Kept.mk_eq, Kept.field_eq, Kept.cameo_eq] | split
      | dsimp only)

theorem busOff_kept {chg : List Part} [May chg .field] {r0 s : State} (h : Kept chg r0 s) (n : Nat) : Kept chg r0 (busOff s n) := by
  unfold busOff
  repeat' (first
      | with_reducible assumption | intro _ | with_reducible apply Kept.wr | with_reducible apply setCan_kept
      | with_reducible apply Kept.clearOd | with_reducible apply Kept.ite | with_reducible apply Kept.ite_fst
      | simp (disch := first | exact May.or | exact Or.inr rfl) only [Kept.mk_eq, Kept.field_eq, Kept.cameo_eq] | split
      | dsimp only)

theorem busOffRecovered_kept {chg : List Part} [May chg .od] [May chg .field] {r0 s : State} (h : Kept chg r0 s) (n : Nat) :
    Kept chg r0 (busOffRecovered s n) := by
  unfold busOffRecovered
  repeat' (first
      | with_reducible assumption | intro _ | with_reducible apply Kept.wr | with_reducible apply setCan_kept
      | with_reducible apply emcy_kept | with_reducible apply busOff_kept | with_reducible apply Kept.clearOd
      | with_reducible apply Kept.ite | with_reducible apply Kept.ite_fst | simp (disch := first
      | exact May.or | exact Or.inr rfl) only [Kept.mk_eq, Kept.field_eq, Kept.cameo_eq] | split | dsimp only)

theorem errorPassive_kept {chg : List Part} [May chg .od] [May chg .field] {r0 s : State} (h : Kept chg r0 s) (n : Nat) : Kept
    chg r0 (errorPassive s n) := by
  unfold errorPassive
  repeat' (first
      | with_reducible assumption | intro _ | with_reducible apply Kept.wr | with_reducible apply setCan_kept
      | with_reducible apply lastingEmcy_kept | with_reducible apply Kept.clearOd | with_reducible apply Kept.ite
      | with_reducible apply Kept.ite_fst | simp (disch := first
      | exact May.or | exact Or.inr rfl) only [Kept.mk_eq, Kept.field_eq, Kept.cameo_eq] | split | dsimp only)

theorem errorPassiveEnd_kept {chg : List Part} [May chg .od] [May chg .field] {r0 s : State} (h : Kept chg r0 s) (n : Nat) :
    Kept chg r0 (errorPassiveEnd s n) := by
  unfold errorPassiveEnd
  repeat' (first
      | with_reducible assumption | intro _ | with_reducible apply Kept.wr | with_reducible apply setCan_kept
      | with_reducible apply endLasting_kept | with_reducible apply Kept.clearOd | with_reducible apply Kept.ite
      | with_reducible apply Kept.ite_fst | simp (disch := first
      | exact May.or | exact Or.inr rfl) only [Kept.mk_eq, Kept.field_eq, Kept.cameo_eq] | split | dsimp only)

theorem history_kept {chg : List Part} [May chg .od] {r0 s : State} (h : Kept chg r0 s) (code : Nat) (b0 : Nat) : Kept chg r0
    (history s code b0) := by
  unfold history
  repeat' (first
      | with_reducible assumption | intro _ | with_reducible apply Kept.wr | with_reducible apply Kept.foldl
      | with_reducible apply Kept.clearOd | with_reducible apply Kept.ite | with_reducible apply Kept.ite_fst
      | simp (disch := first | exact May.or | exact Or.inr rfl) only [Kept.mk_eq, Kept.field_eq, Kept.cameo_eq] | split
      | dsimp only)

theorem sendEmcy_kept {chg : List Part} [May chg .out] [May chg .od] [May chg .field] {r0 s : State} (h : Kept chg r0 s) (m :
    Emcy) : Kept chg r0 (sendEmcy s m) := by
  unfold sendEmcy
  repeat' (first
      | with_reducible assumption | intro _ | with_reducible apply Kept.wr | with_reducible apply send_kept
      | with_reducible apply emcySent_kept | with_reducible apply emcy_kept | with_reducible apply history_kept
      | with_reducible apply Kept.foldl | with_reducible apply Kept.clearOd | with_reducible apply Kept.ite
      | with_reducible apply Kept.ite_fst | simp (disch := first
      | exact May.or | exact Or.inr rfl) only [Kept.mk_eq, Kept.field_eq, Kept.cameo_eq] | split | dsimp only)

theorem emcySend_kept {chg : List Part} [May chg .out] [May chg .od] [May chg .field] {r0 s : State} (h : Kept chg r0 s)  : Kept
    chg r0 (emcySend s) := by
  unfold emcySend
  repeat' (first
      | with_reducible assumption | intro _ | with_reducible apply Kept.wr | with_reducible apply sendEmcy_kept
      | with_reducible apply Kept.clearOd | with_reducible apply Kept.ite | with_reducible apply Kept.ite_fst
      | simp (disch := first | exact May.or | exact Or.inr rfl) only [Kept.mk_eq, Kept.field_eq, Kept.cameo_eq] | split
      | dsimp only)

theorem foe_kept {chg : List Part} [May chg .out] {r0 s : State} (h : Kept chg r0 s) (code : Nat) (bytes : List Byte) : Kept chg
    r0 (foe s code bytes) := by
  unfold foe
  repeat' (first
      | with_reducible assumption | intro _ | with_reducible apply Kept.wr | with_reducible apply send_kept
      | with_reducible apply Kept.clearOd | with_reducible apply Kept.ite | with_reducible apply Kept.ite_fst
      | simp (disch := first | exact May.or | exact Or.inr rfl) only [Kept.mk_eq, Kept.field_eq, Kept.cameo_eq] | split
      | dsimp only)

theorem foeFile_kept {chg : List Part} [May chg .out] {r0 s k : State} (h : Kept chg r0 s) (hk : Kept chg r0 k) (boot pwOk :
    Bool) : Kept chg r0 (foeFile s boot pwOk k) := by
  unfold foeFile
  repeat' (first
      | with_reducible assumption | intro _ | with_reducible apply foe_kept | with_reducible apply Kept.ite
      | with_reducible apply Kept.ite_fst | simp (disch := first
      | exact May.or | exact Or.inr rfl) only [Kept.mk_eq, Kept.field_eq, Kept.cameo_eq] | split | dsimp only)

theorem foeUnknown_kept {chg : List Part} [May chg .out] {r0 s : State} (h : Kept chg r0 s)  : Kept chg r0 (foeUnknown s) := by
  unfold foeUnknown
  repeat' (first
      | with_reducible assumption | intro _ | with_reducible apply Kept.wr | with_reducible apply foe_kept
      | with_reducible apply Kept.clearOd | with_reducible apply Kept.ite | with_reducible apply Kept.ite_fst
      | simp (disch := first | exact May.or | exact Or.inr rfl) only [Kept.mk_eq, Kept.field_eq, Kept.cameo_eq] | split
      | dsimp only)

theorem foeDict_kept {chg : List Part} [May chg .free] [May chg .out] [May chg .fwQueue] [May chg .od] [May chg .dom] [May chg
    .ten] [May chg .clasp] [May chg .dict] [May chg .field] [May chg .raster] [May chg .compose] [May chg .heads] [May chg
    .ports] [May chg .cameo] [May chg .touch] [May chg .hap] [May chg .audio] [May chg .memc] [May chg .locket] [May chg .flash]
    [May chg .isl] [May chg .power] {r0 s : State} (h : Kept chg r0 s) (pw : Nat) (bytes : List Byte) : Kept chg r0 (foeDict s
    pw bytes) := by
  unfold foeDict
  repeat' (first
      | with_reducible assumption | intro _ | with_reducible apply Kept.wr | with_reducible apply arrive_kept
      | with_reducible apply foe_kept | with_reducible apply foeFile_kept | with_reducible apply Kept.clearOd
      | with_reducible apply Kept.ite | with_reducible apply Kept.ite_fst | simp (disch := first
      | exact May.or | exact Or.inr rfl) only [Kept.mk_eq, Kept.field_eq, Kept.cameo_eq] | split | dsimp only)

theorem foeStored_kept {chg : List Part} [May chg .out] {r0 s : State} (h : Kept chg r0 s) (pw : Nat) : Kept chg r0 (foeStored s pw) := by
  unfold foeStored
  repeat' (first
      | with_reducible assumption | intro _ | with_reducible apply Kept.wr | with_reducible apply foe_kept
      | with_reducible apply foeFile_kept | with_reducible apply Kept.clearOd | with_reducible apply Kept.ite
      | with_reducible apply Kept.ite_fst | simp (disch := first
      | exact May.or | exact Or.inr rfl) only [Kept.mk_eq, Kept.field_eq, Kept.cameo_eq] | split | dsimp only)

theorem foeHallmark_kept {chg : List Part} [May chg .out] {r0 s : State} (h : Kept chg r0 s) (pw : Nat) : Kept chg r0 (foeHallmark s pw) := by
  unfold foeHallmark
  repeat' (first
      | with_reducible assumption | intro _ | with_reducible apply Kept.wr | with_reducible apply foe_kept
      | with_reducible apply foeFile_kept | with_reducible apply Kept.clearOd | with_reducible apply Kept.ite
      | with_reducible apply Kept.ite_fst | simp (disch := first
      | exact May.or | exact Or.inr rfl) only [Kept.mk_eq, Kept.field_eq, Kept.cameo_eq] | split | dsimp only)

theorem foeFirmware_kept {chg : List Part} [May chg .out] [May chg .field] [May chg .flash] {r0 s : State} (h : Kept chg r0 s)
    (kind : Nat) (limit : Nat) (pw : Nat) (bytes : List Byte) : Kept chg r0 (foeFirmware s kind limit pw bytes) := by
  unfold foeFirmware
  repeat' (first
      | with_reducible assumption | intro _ | with_reducible apply Kept.wr | with_reducible apply writeImg_kept
      | with_reducible apply foe_kept | with_reducible apply foeFile_kept | with_reducible apply Kept.clearOd
      | with_reducible apply Kept.ite | with_reducible apply Kept.ite_fst | simp (disch := first
      | exact May.or | exact Or.inr rfl) only [Kept.mk_eq, Kept.field_eq, Kept.cameo_eq] | split | dsimp only)

theorem foeBusy_kept {chg : List Part} [May chg .out] {r0 s : State} (h : Kept chg r0 s)  : Kept chg r0 (foeBusy s) := by
  unfold foeBusy
  repeat' (first
      | with_reducible assumption | intro _ | with_reducible apply Kept.wr | with_reducible apply foe_kept
      | with_reducible apply Kept.clearOd | with_reducible apply Kept.ite | with_reducible apply Kept.ite_fst
      | simp (disch := first | exact May.or | exact Or.inr rfl) only [Kept.mk_eq, Kept.field_eq, Kept.cameo_eq] | split
      | dsimp only)

theorem firmwareVerified_kept {chg : List Part} [May chg .out] [May chg .field] [May chg .flash] [May chg .boot] {r0 s : State}
    (h : Kept chg r0 s)  : Kept chg r0 (firmwareVerified s) := by
  unfold firmwareVerified
  repeat' (first
      | with_reducible assumption | intro _ | with_reducible apply Kept.wr | with_reducible apply verifyImg_kept
      | with_reducible apply foe_kept | with_reducible apply Kept.clearOd | with_reducible apply Kept.ite
      | with_reducible apply Kept.ite_fst | simp (disch := first
      | exact May.or | exact Or.inr rfl) only [Kept.mk_eq, Kept.field_eq, Kept.cameo_eq] | split | dsimp only)

theorem resetState_kept {chg : List Part} [May chg .time] [May chg .fwQueue] [May chg .od] [May chg .dom] [May chg .mem] [May
    chg .ten] [May chg .clasp] [May chg .dict] [May chg .field] [May chg .raster] [May chg .compose] [May chg .heads] [May chg
    .ports] [May chg .cameo] [May chg .touch] [May chg .hap] [May chg .audio] [May chg .memc] [May chg .control] [May chg
    .locket] [May chg .isl] [May chg .power] [May chg .boot] {r0 s : State} (h : Kept chg r0 s) (por : Bool) : Kept chg r0
    (resetState s por) := by
  unfold resetState
  refine Kept.wr ?_ _ _
  refine ⟨h.pending, h.engraving, fun _ => by rfl, fun _ => by rfl, fun p hp => samePart.trans (h.parts p hp) ?_⟩
  cases p <;> first | rfl | exact absurd May.mem hp

theorem deviceReset_kept {chg : List Part} [May chg .time] [May chg .fwQueue] [May chg .od] [May chg .dom] [May chg .mem] [May
    chg .ten] [May chg .clasp] [May chg .dict] [May chg .field] [May chg .raster] [May chg .compose] [May chg .heads] [May chg
    .ports] [May chg .cameo] [May chg .touch] [May chg .hap] [May chg .audio] [May chg .memc] [May chg .control] [May chg
    .locket] [May chg .isl] [May chg .power] [May chg .boot] {r0 s : State} (h : Kept chg r0 s) (code : Nat) : Kept chg r0
    (deviceReset s code) := by
  unfold deviceReset
  repeat' (first
      | with_reducible assumption | intro _ | with_reducible apply Kept.wr | with_reducible apply ringEnter_kept
      | with_reducible apply resetState_kept | with_reducible apply Kept.foldl | with_reducible apply Kept.clearOd
      | with_reducible apply Kept.ite | with_reducible apply Kept.ite_fst | simp (disch := first
      | exact May.or | exact Or.inr rfl) only [Kept.mk_eq, Kept.field_eq, Kept.cameo_eq] | split | dsimp only)

theorem resetBy_kept {chg : List Part} [May chg .time] [May chg .fwQueue] [May chg .od] [May chg .dom] [May chg .mem] [May chg
    .ten] [May chg .clasp] [May chg .dict] [May chg .field] [May chg .raster] [May chg .compose] [May chg .heads] [May chg
    .ports] [May chg .cameo] [May chg .touch] [May chg .hap] [May chg .audio] [May chg .memc] [May chg .control] [May chg
    .locket] [May chg .isl] [May chg .power] [May chg .boot] {r0 s : State} (h : Kept chg r0 s) (code : Nat) {log : State →
    State}
    (hl : ∀ t, Kept chg r0 t → Kept chg r0 (log t)) : Kept chg r0 (resetBy s code log) := by
  unfold resetBy
  repeat' (first
      | with_reducible assumption | intro _ | with_reducible apply deviceReset_kept | with_reducible apply Kept.wr
      | with_reducible apply hl | with_reducible apply Kept.ite | with_reducible apply Kept.ite_fst | simp (disch := first
      | exact May.or | exact Or.inr rfl) only [Kept.mk_eq, Kept.field_eq, Kept.cameo_eq] | split | dsimp only)

theorem supplyReset_kept {chg : List Part} [May chg .time] [May chg .fwQueue] [May chg .od] [May chg .dom] [May chg .mem] [May
    chg .ten] [May chg .clasp] [May chg .dict] [May chg .field] [May chg .raster] [May chg .compose] [May chg .heads] [May chg
    .ports] [May chg .cameo] [May chg .touch] [May chg .hap] [May chg .audio] [May chg .memc] [May chg .control] [May chg
    .locket] [May chg .isl] [May chg .power] [May chg .boot] {r0 s : State} (h : Kept chg r0 s) (r : Nat) (l : List Nat) : Kept
    chg r0 (supplyReset s r l) := by
  unfold supplyReset
  repeat' (first
      | with_reducible assumption | intro _ | with_reducible apply Kept.wr | with_reducible apply supplyLog_kept
      | with_reducible apply resetBy_kept | with_reducible apply Kept.clearOd | with_reducible apply Kept.ite
      | with_reducible apply Kept.ite_fst | simp (disch := first
      | exact May.or | exact Or.inr rfl) only [Kept.mk_eq, Kept.field_eq, Kept.cameo_eq] | split | dsimp only)

theorem thermalTrip_kept {chg : List Part} [May chg .time] [May chg .fwQueue] [May chg .od] [May chg .dom] [May chg .mem] [May
    chg .ten] [May chg .clasp] [May chg .dict] [May chg .field] [May chg .raster] [May chg .compose] [May chg .heads] [May chg
    .ports] [May chg .cameo] [May chg .touch] [May chg .hap] [May chg .audio] [May chg .memc] [May chg .control] [May chg
    .locket] [May chg .isl] [May chg .power] [May chg .boot] {r0 s : State} (h : Kept chg r0 s) (n : Nat) (temp : Int) : Kept
    chg r0 (thermalTrip s n temp) := by
  unfold thermalTrip
  repeat' (first
      | with_reducible assumption | intro _ | with_reducible apply Kept.wr | with_reducible apply supplyLog_kept
      | with_reducible apply resetBy_kept | with_reducible apply Kept.clearOd | with_reducible apply Kept.ite
      | with_reducible apply Kept.ite_fst | simp (disch := first
      | exact May.or | exact Or.inr rfl) only [Kept.mk_eq, Kept.field_eq, Kept.cameo_eq] | split | dsimp only)

theorem runIslands_kept {chg : List Part} [May chg .isl] {r0 s : State} (h : Kept chg r0 s) (ds : List Nat) : Kept chg r0 (runIslands s ds) := by
  unfold runIslands
  repeat' (first
      | with_reducible assumption | intro _ | with_reducible apply Kept.wr | with_reducible apply setIslands_kept
      | with_reducible apply Kept.foldl | with_reducible apply Kept.clearOd | with_reducible apply Kept.ite
      | with_reducible apply Kept.ite_fst | simp (disch := first
      | exact May.or | exact Or.inr rfl) only [Kept.mk_eq, Kept.field_eq, Kept.cameo_eq] | split | dsimp only)

theorem bootFail_kept {chg : List Part} [May chg .out] [May chg .od] [May chg .field] [May chg .boot] {r0 s : State} (h : Kept
    chg r0 s) (n : Nat) : Kept chg r0 (bootFail s n) := by
  unfold bootFail
  repeat' (first
      | with_reducible assumption | intro _ | with_reducible apply Kept.wr | with_reducible apply latchFault_kept
      | with_reducible apply sendAl_kept | with_reducible apply Kept.clearOd | with_reducible apply Kept.ite
      | with_reducible apply Kept.ite_fst | simp (disch := first
      | exact May.or | exact Or.inr rfl) only [Kept.mk_eq, Kept.field_eq, Kept.cameo_eq] | split | dsimp only)

theorem takeMeasure_kept {chg : List Part} [May chg .locket] {r0 s : State} (h : Kept chg r0 s) (kind : Nat) (slot : Nat)
    (version : Nat) (bytes : List Byte) : Kept chg r0 (takeMeasure s kind slot version bytes) := by
  unfold takeMeasure
  repeat' (first
      | with_reducible assumption | intro _ | with_reducible apply Kept.wr | with_reducible apply Kept.clearOd
      | with_reducible apply Kept.ite | with_reducible apply Kept.ite_fst | simp (disch := first
      | exact May.or | exact Or.inr rfl) only [Kept.mk_eq, Kept.field_eq, Kept.cameo_eq] | split | dsimp only)

theorem memConfig_kept {chg : List Part} [May chg .dict] {r0 s : State} (h : Kept chg r0 s)  : Kept chg r0 (memConfig s) := by
  unfold memConfig
  repeat' (first
      | with_reducible assumption | intro _ | with_reducible apply Kept.wr | with_reducible apply Kept.foldl
      | with_reducible apply Kept.clearOd | with_reducible apply Kept.ite | with_reducible apply Kept.ite_fst
      | simp (disch := first | exact May.or | exact Or.inr rfl) only [Kept.mk_eq, Kept.field_eq, Kept.cameo_eq] | split
      | dsimp only)

theorem startTrusted_kept {chg : List Part} [May chg .od] [May chg .locket] [May chg .flash] [May chg .isl] [May chg .power]
    [May chg .boot] {r0 s : State} (h : Kept chg r0 s) (i : Nat) : Kept chg r0 (startTrusted s i) := by
  unfold startTrusted
  repeat' (first
      | with_reducible assumption | intro _ | with_reducible apply Kept.wr | with_reducible apply applyPlan_kept
      | with_reducible apply takeMeasure_kept | with_reducible apply Kept.clearOd | with_reducible apply Kept.ite
      | with_reducible apply Kept.ite_fst | simp (disch := first
      | exact May.or | exact Or.inr rfl) only [Kept.mk_eq, Kept.field_eq, Kept.cameo_eq] | split | dsimp only)

theorem cameoRecord_kept {chg : List Part} [May chg .od] {r0 s : State} (h : Kept chg r0 s) (h : Nat) : Kept chg r0 (cameoRecord s h) := by
  unfold cameoRecord
  repeat' (first
      | with_reducible assumption | intro _ | with_reducible apply Kept.wr | with_reducible apply Kept.foldl
      | with_reducible apply Kept.clearOd | with_reducible apply Kept.ite | with_reducible apply Kept.ite_fst
      | simp (disch := first | exact May.or | exact Or.inr rfl) only [Kept.mk_eq, Kept.field_eq, Kept.cameo_eq] | split
      | dsimp only)

theorem splashHead_kept {chg : List Part} [May chg .od] [May chg .dom] [May chg .dict] [May chg .heads] [May chg .cameo] {r0 s :
    State} (h : Kept chg r0 s) (x : Splash) : Kept chg r0 (splashHead s x) := by
  unfold splashHead
  repeat' (first
      | with_reducible assumption | intro _ | with_reducible apply Kept.wr | with_reducible apply setCameo_kept
      | with_reducible apply landRoute_kept | with_reducible apply headEnable_kept | with_reducible apply Kept.foldl
      | with_reducible apply Kept.clearOd | with_reducible apply Kept.ite | with_reducible apply Kept.ite_fst
      | simp (disch := first | exact May.or | exact Or.inr rfl) only [Kept.mk_eq, Kept.field_eq, Kept.cameo_eq] | split
      | dsimp only)

theorem engravingStep_kept {chg : List Part} [May chg .od] [May chg .dom] [May chg .dict] [May chg .heads] [May chg .cameo] [May
    chg .locket] [May chg .boot] {r0 s : State} (h : Kept chg r0 s)  : Kept chg r0 (engravingStep s) := by
  unfold engravingStep
  repeat' (first
      | with_reducible assumption | intro _ | with_reducible apply Kept.wr | with_reducible apply updateSums_kept
      | with_reducible apply updateSlices_kept | with_reducible apply latchFault_kept | with_reducible apply takeMeasure_kept
      | with_reducible apply cameoRecord_kept | with_reducible apply splashHead_kept | with_reducible apply Kept.foldl
      | with_reducible apply Kept.clearOd | with_reducible apply Kept.ite | with_reducible apply Kept.ite_fst
      | simp (disch := first | exact May.or | exact Or.inr rfl) only [Kept.mk_eq, Kept.field_eq, Kept.cameo_eq] | split
      | dsimp only)

theorem bootSteps_kept {chg : List Part} [May chg .out] [May chg .od] [May chg .dom] [May chg .dict] [May chg .field] [May chg
    .heads] [May chg .cameo] [May chg .locket] [May chg .flash] [May chg .isl] [May chg .power] [May chg .boot] {r0 s : State}
    (h : Kept chg r0 s)  : Kept chg r0 (bootSteps s) := by
  unfold bootSteps
  repeat' (first
      | with_reducible assumption | intro _ | with_reducible apply Kept.wr | with_reducible apply settleDevice_kept
      | with_reducible apply trainStart_kept | with_reducible apply runIslands_kept | with_reducible apply bootFail_kept
      | with_reducible apply memConfig_kept | with_reducible apply startTrusted_kept | with_reducible apply engravingStep_kept
      | with_reducible apply Kept.clearOd | with_reducible apply Kept.ite | with_reducible apply Kept.ite_fst
      | simp (disch := first | exact May.or | exact Or.inr rfl) only [Kept.mk_eq, Kept.field_eq, Kept.cameo_eq] | split
      | dsimp only)

theorem refuseOverlay_kept {chg : List Part} [May chg .out] [May chg .od] [May chg .clasp] [May chg .dict] [May chg .field] [May
    chg .boot] {r0 s : State} (h : Kept chg r0 s) (k : Nat) (abort : Nat) : Kept chg r0 (refuseOverlay s k abort) := by
  unfold refuseOverlay
  repeat' (first
      | with_reducible assumption | intro _ | with_reducible apply Kept.wr | with_reducible apply emcy_kept
      | with_reducible apply putStaging_kept | with_reducible apply overlayEnd_kept | with_reducible apply Kept.clearOd
      | with_reducible apply Kept.ite | with_reducible apply Kept.ite_fst | simp (disch := first
      | exact May.or | exact Or.inr rfl) only [Kept.mk_eq, Kept.field_eq, Kept.cameo_eq] | split | dsimp only)

theorem overlay_kept {chg : List Part} [May chg .out] [May chg .od] [May chg .ten] [May chg .clasp] [May chg .dict] [May chg
    .field] [May chg .locket] [May chg .boot] {r0 s : State} (h : Kept chg r0 s) : Kept chg r0 (overlay s) := by
  have hs : ∀ {t : State} (_ : Kept chg r0 t) (l : List (Nat × Nat × Nat × List Byte)) {u o}, stageRecords t l = (u, o) → Kept chg r0 u :=
    fun ht l u o e => by have := stageRecords_kept ht l; rw [e] at this; exact this
  unfold overlay
  split
  · exact overlayEnd_kept (requestCommit_kept h _ _ _) _
  · rename_i n x _
    have h1 : Kept chg r0 (wr (takeMeasure s 5 (n + 1) 0 (imageForm x)) E.glob_STORED_SOURCE (n + 1)) :=
      (takeMeasure_kept h _ _ _ _).wr _ _
    revert h1
    generalize wr (takeMeasure s 5 (n + 1) 0 (imageForm x)) E.glob_STORED_SOURCE (n + 1) = s1
    intro h1
    dsimp only
    split
    · exact refuseOverlay_kept h1 _ _
    · split
      · rename_i e
        exact refuseOverlay_kept (putStaging_kept (hs h1 _ e) _ _) _ _
      · rename_i e
        have hu := hs h1 _ e
        split
        · exact overlayEnd_kept (requestCommit_kept hu _ _ _) _
        · exact requestCommit_kept hu _ _ _

theorem endTrial_kept {chg : List Part} [May chg .flash] {r0 s : State} (h : Kept chg r0 s) (i : Nat) : Kept chg r0 (endTrial s i) := by
  unfold endTrial
  repeat' (first
      | with_reducible assumption | intro _ | with_reducible apply Kept.wr | with_reducible apply setImg_kept
      | with_reducible apply Kept.clearOd | with_reducible apply Kept.ite | with_reducible apply Kept.ite_fst
      | simp (disch := first | exact May.or | exact Or.inr rfl) only [Kept.mk_eq, Kept.field_eq, Kept.cameo_eq] | split
      | dsimp only)

theorem dictionaryUp_kept {chg : List Part} [May chg .out] [May chg .od] [May chg .mem] [May chg .ten] [May chg .clasp] [May chg
    .dict] [May chg .field] [May chg .memc] [May chg .locket] [May chg .flash] [May chg .boot] {r0 s : State} (h : Kept chg r0
    s)  : Kept chg r0 (dictionaryUp s) := by
  unfold dictionaryUp
  repeat' (first
      | with_reducible assumption | intro _ | with_reducible apply Kept.wr | with_reducible apply emcy_kept
      | with_reducible apply settleDevice_kept | with_reducible apply settleCarve_kept | with_reducible apply settleGuest_kept
      | with_reducible apply overlay_kept | with_reducible apply endTrial_kept | with_reducible apply Kept.foldl
      | with_reducible apply Kept.clearOd | with_reducible apply Kept.ite | with_reducible apply Kept.ite_fst
      | simp (disch := first | exact May.or | exact Or.inr rfl) only [Kept.mk_eq, Kept.field_eq, Kept.cameo_eq] | split
      | dsimp only)

theorem openWorld_kept {chg : List Part} [May chg .free] [May chg .out] [May chg .od] [May chg .mem] [May chg .ten] [May chg
    .clasp] [May chg .dict] [May chg .field] [May chg .memc] [May chg .control] [May chg .locket] [May chg .flash] [May chg
    .isl] [May chg .boot] {r0 s : State} (h : Kept chg r0 s)  : Kept chg r0 (openWorld s) := by
  unfold openWorld
  repeat' (first
      | with_reducible assumption | intro _ | with_reducible apply Kept.wr | with_reducible apply lockControl_kept
      | with_reducible apply runIslands_kept | with_reducible apply bootFail_kept | with_reducible apply takeMeasure_kept
      | with_reducible apply dictionaryUp_kept | with_reducible apply Kept.clearOd | with_reducible apply Kept.ite
      | with_reducible apply Kept.ite_fst | simp (disch := first
      | exact May.or | exact Or.inr rfl) only [Kept.mk_eq, Kept.field_eq, Kept.cameo_eq] | split | dsimp only)

theorem bootOn_kept {chg : List Part} [May chg .free] [May chg .out] [May chg .od] [May chg .mem] [May chg .ten] [May chg
    .clasp] [May chg .dict] [May chg .field] [May chg .memc] [May chg .control] [May chg .locket] [May chg .flash] [May chg
    .isl] [May chg .boot] {r0 s : State} (h : Kept chg r0 s)  : Kept chg r0 (bootOn s) := by
  unfold bootOn
  repeat' (first
      | with_reducible assumption | intro _ | with_reducible apply Kept.wr | with_reducible apply bootFail_kept
      | with_reducible apply openWorld_kept | with_reducible apply Kept.clearOd | with_reducible apply Kept.ite
      | with_reducible apply Kept.ite_fst | simp (disch := first
      | exact May.or | exact Or.inr rfl) only [Kept.mk_eq, Kept.field_eq, Kept.cameo_eq] | split | dsimp only)

theorem loadOffsets_kept {chg : List Part} [May chg .memc] {r0 s : State} (h : Kept chg r0 s)  : Kept chg r0 (loadOffsets s) := by
  unfold loadOffsets
  repeat' (first
      | with_reducible assumption | intro _ | with_reducible apply Kept.wr | with_reducible apply Kept.clearOd
      | with_reducible apply Kept.ite | with_reducible apply Kept.ite_fst | simp (disch := first
      | exact May.or | exact Or.inr rfl) only [Kept.mk_eq, Kept.field_eq, Kept.cameo_eq] | split | dsimp only)

theorem bootStart_kept {chg : List Part} [May chg .out] [May chg .od] [May chg .dom] [May chg .mem] [May chg .ten] [May chg
    .clasp] [May chg .dict] [May chg .field] [May chg .heads] [May chg .cameo] [May chg .memc] [May chg .locket] [May chg
    .flash] [May chg .isl] [May chg .power] [May chg .boot] {r0 s : State} (h : Kept chg r0 s)  : Kept chg r0 (bootStart s) :=
    by
  unfold bootStart
  repeat' (first
      | with_reducible assumption | intro _ | with_reducible apply Kept.wr | with_reducible apply bootSteps_kept
      | with_reducible apply dictionaryUp_kept | with_reducible apply Kept.clearOd | with_reducible apply Kept.ite
      | with_reducible apply Kept.ite_fst | simp (disch := first
      | exact May.or | exact Or.inr rfl) only [Kept.mk_eq, Kept.field_eq, Kept.cameo_eq] | split | dsimp only)

theorem trialFail_kept {chg : List Part} [May chg .time] [May chg .fwQueue] [May chg .od] [May chg .dom] [May chg .mem] [May chg
    .ten] [May chg .clasp] [May chg .dict] [May chg .field] [May chg .raster] [May chg .compose] [May chg .heads] [May chg
    .ports] [May chg .cameo] [May chg .touch] [May chg .hap] [May chg .audio] [May chg .memc] [May chg .control] [May chg
    .locket] [May chg .flash] [May chg .isl] [May chg .power] [May chg .boot] {r0 s : State} (h : Kept chg r0 s)  : Kept chg r0
    (trialFail s) := by
  unfold trialFail
  repeat' (first
      | with_reducible assumption | intro _ | with_reducible apply Kept.wr | with_reducible apply setImg_kept
      | with_reducible apply deviceReset_kept | with_reducible apply Kept.clearOd | with_reducible apply Kept.ite
      | with_reducible apply Kept.ite_fst | simp (disch := first
      | exact May.or | exact Or.inr rfl) only [Kept.mk_eq, Kept.field_eq, Kept.cameo_eq] | split | dsimp only)

theorem tafeLow_kept {chg : List Part} [May chg .out] [May chg .fwQueue] [May chg .od] [May chg .mem] [May chg .ten] [May chg
    .clasp] [May chg .field] [May chg .ports] [May chg .touch] [May chg .memc] {r0 s : State} (h : Kept chg r0 s)  : Kept chg r0
    (tafeLow s) := by
  unfold tafeLow
  repeat' (first
      | with_reducible assumption | intro _ | with_reducible apply Kept.wr | with_reducible apply emcy_kept
      | with_reducible apply setTouch_kept | with_reducible apply stopPanel_kept | with_reducible apply Kept.foldl
      | with_reducible apply Kept.clearOd | with_reducible apply Kept.ite | with_reducible apply Kept.ite_fst
      | simp (disch := first | exact May.or | exact Or.inr rfl) only [Kept.mk_eq, Kept.field_eq, Kept.cameo_eq] | split
      | dsimp only)

end Sys2Proof.Laws
end

