-- ==== Sys2Proof/Laws/Memory.lean ====
section
/-! SUPPORT. The DRAM: a byte written is read back, and every other byte is as it was (R341). -/

namespace Sys2Proof.Laws

open Sys2Proof Sys2Proof.Machine

/-- A write changes its own byte alone. -/
theorem dramByte_memWr (s : State) (a b : Nat) (v : Byte) : dramByte (memWr s a v) b = if b = a then v else dramByte s b := by
  unfold dramByte memWr
  by_cases h : b = a
  · rw [if_pos h, h, tget_tset_same]
  · rw [if_neg h, tget_tset_ne _ _ _ h]

/-- Bytes of memory that are zeroed read as 0, all others as before. -/
theorem dramByte_memZero (s : State) (lo n a : Nat) : dramByte (memZero s lo n) a = if lo ≤ a ∧ a < lo + n then 0 else dramByte s a := by
  simp only [dramByte, memZero, tget_tclear, Bool.and_eq_true, decide_eq_true_eq, memDefault]

/-- Zeroing a list of extents. -/
theorem dramByte_zeroed (l : List Extent) (s : State) (a : Nat)
    (h : dramByte s a = 0 ∨ ∃ e ∈ l, e.phys * pageSize ≤ a ∧ a < e.phys * pageSize + e.count * pageSize) :
    dramByte (l.foldl (fun t e => memZero t (e.phys * pageSize) (e.count * pageSize)) s) a = 0 := by
  induction l generalizing s with
  | nil => simpa using h
  | cons x l ih =>
    refine ih _ ?_
    rw [dramByte_memZero]
    by_cases hx : x.phys * pageSize ≤ a ∧ a < x.phys * pageSize + x.count * pageSize
    · left; rw [if_pos hx]
    · rw [if_neg hx]
      rcases h with h | ⟨e, he, hp⟩
      · exact .inl h
      · rcases List.mem_cons.mp he with rfl | he
        · exact absurd hp hx
        · exact .inr ⟨e, he, hp⟩

/-- A range inside one page is one part. -/
theorem pageParts_one (off n : Nat) (h0 : 0 < n) (h : off % pageSize + n ≤ pageSize) : pageParts off n = [(off, n)] := by
  have hp : pageSize = 65536 := rfl
  rw [hp] at h
  have h1 : n / 65536 = 0 ∨ n / 65536 = 1 := by omega
  unfold pageParts
  simp only [hp]
  have e0 : (if max off ((off / 65536 + 0) * 65536) < min (off + n) ((off / 65536 + 0 + 1) * 65536) then
      some (max off ((off / 65536 + 0) * 65536), min (off + n) ((off / 65536 + 0 + 1) * 65536) - max off ((off / 65536 + 0) * 65536))
      else none) = some (off, n) := by
    have a : max off ((off / 65536 + 0) * 65536) = off := by omega
    have b : min (off + n) ((off / 65536 + 0 + 1) * 65536) = off + n := by omega
    rw [a, b, if_pos (by omega)]
    simp
  have e1 : ∀ i, 0 < i → (if max off ((off / 65536 + i) * 65536) < min (off + n) ((off / 65536 + i + 1) * 65536) then
      some (max off ((off / 65536 + i) * 65536), min (off + n) ((off / 65536 + i + 1) * 65536) - max off ((off / 65536 + i) * 65536))
      else none) = none := by
    intro i hi
    rw [if_neg (by omega)]
  rcases h1 with h1 | h1 <;> rw [h1]
  · simp only [show List.range (0 + 2) = [0, 1] from rfl, List.filterMap_cons, e0, e1 1 (by omega), List.filterMap_nil]
  · simp only [show List.range (1 + 2) = [0, 1, 2] from rfl, List.filterMap_cons, e0, e1 1 (by omega), e1 2 (by omega),
      List.filterMap_nil]

end Sys2Proof.Laws
end

