-- ==== Sys2Proof/WellFormed.lean ====
section
/-! DEFINITION. Checks of a command's operands that their types leave open: the lengths of the lists a command carries, and the
widths of the numbers that the manual gives a field. A command that fails them is no command the outside world can send. -/

namespace Sys2Proof

/-- An index and a subindex of the object dictionary (R71). -/
def wfEntry (idx sub : Nat) : Bool := decide (idx < 65536) && decide (sub < 256)

/-- The measurements of an epoch: 22 islands at the six targets, their lowered ceilings, 64 DRAM offsets and 256 touch references
(R437, R439). -/
def wfMeas (m : EpochMeas) : Bool :=
  m.margin.length == 22 && m.margin.all (fun l => l.length == 6) && m.lowered.length == 22 && m.dram.length == 64 &&
    m.touch.length == 256

/-- A CSI-2 packet's virtual channel and a 16-bit or 6-bit field of it: frame number or data type (R233, R234). -/
def wfPacket (vc v bound : Nat) : Bool := decide (vc < 16) && decide (v < bound)

/-- Bytes of an access to a client's window of 256 bytes (R48, R51). -/
def wfWindow (off len : Nat) : Bool := decide (off + len ≤ 256)

/-- The widths of an EtherCAT datagram's address fields (R96). -/
def wfDatagram (d : Datagram) : Bool :=
  match d.addr with
  | .position pos off => decide (pos < 65536) && decide (off < 65536)
  | .station a off => decide (a < 65536) && decide (off < 65536)
  | .broadcast off => decide (off < 65536)
  | .logical a => decide (a < 2 ^ 32)

/-- The checks of a command. -/
def wellFormed (i : Instr) : Bool :=
  match i with
  | .registerWrite (.dict _ idx sub _) => wfEntry idx sub
  | .registerWrite (.esc d) => wfDatagram d
  | .claspWrite _ _ off bytes => wfWindow off bytes.length
  | .resultHeaderRead _ _ off enabled => wfWindow off enabled.length
  | .sdoDownload _ idx sub _ => wfEntry idx sub
  | .sdoUpload _ idx sub => wfEntry idx sub
  | .entryTakesEffect idx sub => wfEntry idx sub
  | .trustedDictRead idx sub => wfEntry idx sub
  | .trustedDictWrite idx sub _ => wfEntry idx sub
  | .directAddrWrite _ _ _ _ bytes => bytes.length == 4
  | .presentation _ p => match p.regions with | some l => l.length == 8 | none => true
  | .csiFrameStart _ vc num _ => wfPacket vc num 65536
  | .csiLinePacket _ vc dt _ _ _ => wfPacket vc dt 64
  | .csiFrameEnd _ vc num _ => wfPacket vc num 65536
  | .referenceTestDone _ results => results.length == 2048
  | .calibrationEnd _ results => results.length == 4
  | .dramReadRequest r => decide (0 < r.len)
  | .dramWriteRequest r bytes => decide (0 < r.len) && bytes.length == r.len
  | .mr4Read _ _ asks _ => decide (asks ≤ 4)
  | .unlockResponseWrite _ bytes => bytes.length == 96
  | .nonceWrite _ bytes => bytes.length == 32
  | .handoverRelease block => decide (16 ≤ block) && decide (block < 32)
  | .handoverGrant block => decide (16 ≤ block) && decide (block < 32)
  | .wakeEvent _ src => decide (1 ≤ src.val)
  | .supplyWarn _ samples => samples.length == 4
  | .supplyReset _ samples => samples.length == 2
  | .thermalSample temps => temps.length == 12
  | .epochDone meas => wfMeas meas
  | _ => true

end Sys2Proof
end

