-- ==== Sys2Proof/Tests/Slice0.lean ====
section
/-! SUPPORT. Tests: a malformed command for each check of WellFormed, the witnesses of the statements' conditions
(…_conditions), and small runs of one command each. Expected values come from the manual's rules. -/

namespace Sys2Proof.Tests

set_option maxRecDepth 20000
set_option Elab.async false

open Sys2Proof Sys2Proof.Machine

theorem test_malformed_entries : wellFormed (.sdoDownload .coe 65536 0 []) = false ∧ wellFormed (.sdoUpload .coe 0 256) = false ∧
    wellFormed (.entryTakesEffect 65536 1) = false ∧ wellFormed (.trustedDictRead 0 256) = false ∧
    wellFormed (.trustedDictWrite 65536 0 []) = false ∧ wellFormed (.registerWrite (.dict .field 65536 0 [])) = false := by decide

theorem test_malformed_packets : wellFormed (.csiFrameStart 0 16 0 0) = false ∧ wellFormed (.csiFrameEnd 0 0 65536 0) = false ∧
    wellFormed (.csiLinePacket 0 0 64 [] true 0) = false ∧ wellFormed (.csiLinePacket 0 15 63 [] true 0) = true := by decide

theorem test_malformed_windows : wellFormed (.claspWrite 0 0 253 (List.replicate 4 none)) = false ∧
    wellFormed (.resultHeaderRead 0 0 256 [true]) = false ∧ wellFormed (.resultHeaderRead 0 0 252 (List.replicate 4 true)) = true ∧
    wellFormed (.registerWrite (.esc { addr := .station 65536 0, read := none, write := none })) = false ∧
    wellFormed (.registerWrite (.esc { addr := .logical (2 ^ 32), read := none, write := none })) = false := by decide

theorem test_malformed_lists : wellFormed (.directAddrWrite .field 0 0 0 [0]) = false ∧
    wellFormed (.presentation 0 { c0 := none, c1 := none, fence := none, regions := some [], payloads := [], fromFrame := 0 }) = false ∧ wellFormed (.referenceTestDone 0 []) = false ∧
    wellFormed (.calibrationEnd 0 [1, 2, 3]) = false ∧ wellFormed (.unlockResponseWrite .field []) = false ∧
    wellFormed (.nonceWrite .field []) = false ∧ wellFormed (.supplyWarn 0 []) = false ∧ wellFormed (.supplyReset 0 []) = false ∧
    wellFormed (.thermalSample []) = false ∧
    wellFormed (.epochDone { margin := [], lowered := [], dram := [], touch := [] }) = false := by decide

theorem test_malformed_numbers : wellFormed (.dramReadRequest { leaf := .firmware, addr := 0, len := 0 }) = false ∧
    wellFormed (.dramWriteRequest { leaf := .firmware, addr := 0, len := 2 } [0]) = false ∧ wellFormed (.mr4Read 0 0 5 false) = false ∧
    wellFormed (.handoverRelease 15) = false ∧ wellFormed (.handoverGrant 32) = false ∧ wellFormed (.wakeEvent 2 0) = false := by
  decide

/-- Entries of `s` replaced. -/
def wrs (s : State) (l : List (Nat × Nat)) : State := l.foldl (fun t p => wr t p.1 p.2) s
/-- The state after boot step 6: the endpoint answers. -/
def up : State := { State.reset with ten := { endpoint := true, numVfs := 2 } }
/-- Client 5 of guest 0, with every right, and a result of its last request read. -/
def one : State := setClasp (setCharm (wrs up [(E.guest_CLIENT_COUNT 0, 8), (E.guest_HEAD_MASK 0, 0xFFFF), (E.guest_ENGINE_MASK 0, 0x1FF),
  (E.guest_FACET_MASK 0, 2 ^ 128 - 1), (E.guest_CARVE_PAGES 0, 1)]) 5 (2 ^ 8 + 0xFFFF * 2 ^ 16 + (2 ^ 128 - 1) * 2 ^ 32 + 0x1FF * 2 ^ 160 + 2 ^ 224)) 5 {}
/-- `one` with a taken request of client 5. -/
def asking (s : State) (q : Taken) : State := setClasp s 5 { state := 1, seq := 1, nextSeq := 2, taken := some q }

/-- The open world is up: boot step 6 has completed and EtherCAT is in PREOP; the locket runs. -/
def open6 : State := wrs { one with boot := { State.reset.boot with step := 7, held := false, ready := true }, field := { State.reset.field with al := 2 } } [(E.lkt_LKT_STATE, 1), (E.mem_USABLE, 4096), (E.mem_LOCKET_SIZE, 64), (E.mem_OPEN_SIZE, 512)]
/-- The field network and function 0 both get an access of an entry accepted. -/
def both (s : State) (k off : Nat) (bytes v : List Byte) : Bool :=
  accepts s .field k 0 bytes v && accepts s (.bar2 0 none) k off bytes v
/-- The next state has a property. -/
def nx (o : Host.Outcome State Fault Refusal) (p : State → Bool) : Bool := match o with | .next t => p t | _ => false

/-- Bytes put at a physical address. -/
def putAt (s : State) (a : Nat) (bs : List Byte) : State := (List.range bs.length).foldl (fun t i => memWr t (a + i) (at0 0 bs i)) s

theorem test_frontCommand : ({ State.reset with pending := [.heartbeat 0] }).pending = [.heartbeat 0] := by decide +kernel

theorem test_emptyQueue : State.reset.pending = [] := by decide +kernel

theorem test_queueWitness : nx (exec (.heartbeat 0) State.reset) (fun t => decide (t.pending = [])) = true := by decide +kernel

theorem test_invariantWitness : Memory.wf State.reset = true ∧ legalAl State.reset = true ∧
    nx (step State.reset) (fun t => decide (t.time = 1)) = true := by decide +kernel

theorem test_frameWitness : nx (exec (.sync0Stamp 5) State.reset) (fun t => decide (t.mem = [])) = true := by decide +kernel

theorem test_engravingWitness : nx (step { State.reset with pending := [.sync0Stamp 5] }) (fun t => decide (t.cameo.engraving.cells = [])) = true := by
  decide +kernel

theorem test_absentWindow : serving up 0 = true ∧ inRange up 0 4095 = false := by decide +kernel

theorem test_queuedCalls : calls open6 1 = true ∧ open6.locket.queue.length < 16 ∧
    16 ≤ ({ open6 with locket := { open6.locket with queue := List.replicate 16 {} } }).locket.queue.length ∧
    nx (exec .lktDone { open6 with locket := { open6.locket with queue := [{ num := 0x051, ticket := 3, args := [1] }] } })
      (fun t => decide (t.locket.queue = [] ∧ t.locket.results = [(3, 0, 0)])) = true ∧ pdOn open6 2 = true ∧
    [((7 : Nat), (0 : Nat), (9 : Nat))].find? (fun x => x.1 == 7) = some (7, 0, 9) := by decide +kernel

theorem test_oneChannel : (fitted (wr State.reset E.mem_CHANNEL_MASK 1)).length = 1 := by decide +kernel

theorem test_gateReturns : calls open6 1 = true ∧ nx (exec (.trustedVersionCall 1) open6) (fun t => decide ((cpuOf t 1).fcsr = 0)) = true := by decide +kernel

/-- A state whose L2 holds an open line. -/
def cached : State := setL2 open6 (5 * 16 + 3) (some { line := 5, bytes := [1, 2] })
theorem test_cacheWays : l2Hit cached false 5 = some 83 ∧ l2Hit cached true 5 = some 83 ∧ l1Hit (cpuOf cached 1).l1d true 5 = none ∧
    l2Of cached 83 = some { line := 5, bytes := [1, 2] } ∧ l2Of (l2Allocate cached true { line := 6 }) (6 * 16 + 14) ≠ l2Of cached (6 * 16 + 14) ∧
    l2Of (l2Allocate cached false { line := 6 }) (6 * 16) ≠ l2Of cached (6 * 16) := by decide +kernel

theorem test_primitiveRecord : recPos (recordBlock 7 3 1 true [(-256, 8388607, 5, 6), (-8388608, -1, 7, 8)] 0 1 2 3) 1 = (-8388608, -1) ∧
    recAttr (recordBlock 7 3 1 true [(-256, 8388607, 5, 6), (-8388608, -1, 7, 8)] 0 1 2 3) 0 = 6 ∧ blocksFree open6 [] = 0 := by decide +kernel

theorem test_pcieConfigRequest_conditions : configOpen up 0 = true ∧ configOpen up 2 = true ∧ retrying State.reset 0 = true := by decide +kernel

theorem test_pcieConfigRequest : nx (exec (.pcieConfigRequest 0 { write := true, reg := .bar 0, value := 0xFFFFFFFF }) up) (fun t =>
    decide (t.out.head? = some (.msg (.config 0) [0] []) ∧ barWord t false 0 = 0xFF000004)) = true := by decide +kernel

theorem test_numvfsWrite_conditions : configOpen up 0 = true ∧ 63 ≤ 63 ∧ retrying State.reset 0 = true := by decide +kernel

theorem test_functionLevelReset_conditions : configOpen up 1 = true := by decide +kernel

/-- Function 1 in reset: its carve-out of two pages is still to be zeroed. -/
def zeroing : State := setGuest (wr up 0 0) 1 { flr := true, zeroing := true, table := [⟨0, 20000, 2⟩] }

theorem test_carveOutZeroed_conditions : (guestRec zeroing 1).zeroing = true ∧ (guestRec zeroing 1).flr = true ∧
    (guestRec zeroing 1).clientsPending = false ∧
    (⟨0, 20000, 2⟩ : Extent) ∈ (guestRec zeroing 1).table := by decide +kernel

/-- Function 0 with a carve-out of one page. -/
def carved : State := setGuest (wr up (E.guest_CARVE_PAGES 0) 1) 0 { table := [⟨0, 20000, 1⟩] }

theorem test_bar4Read_conditions : serving carved 0 = true ∧ 65535 % pageSize + 1 ≤ pageSize ∧
    bar4Part carved 0 65535 false = (0, some (20000 * 65536 + 65535)) ∧
    bar4Part carved 0 65536 false = (3, none) := by decide +kernel

theorem test_bar4Write_conditions : serving carved 0 = true ∧ ([some 1] : List (Option Byte)) ≠ [] ∧
    bar4Part carved 0 65535 true = (0, some (20000 * 65536 + 65535)) ∧ bar4Part carved 0 65536 true = (3, none) := by decide +kernel

theorem test_clientResetDone_conditions : rd (wr up (E.guest_RESET_CLIENT 0) 5) (E.guest_RESET_CLIENT 0) ≠ 0xFFFF ∧
    clientQuiet (wr up (E.guest_RESET_CLIENT 0) 5) 5 = true ∧
        (guestRec (wr up (E.guest_RESET_CLIENT 0) 5) 0).clientsPending = false := by decide +kernel

/-- A violation of client 70 waits to be logged. -/
def oneViolation : State := { up with ten := { up.ten with violQueue := [{ time := 7, addr := 65536, client := some 70, kind := 4, path := 3 }] } }

theorem test_violationLogged_conditions : oneViolation.ten.violQueue = [{ time := 7, addr := 65536, client := some 70, kind := 4, path := 3 }] ∧
    folds (rd oneViolation (slotKey 0x2080 (newestSlot (rd oneViolation E.viol_NEXT_SLOT) 64)))
      { time := 7, addr := 65536, client := some 70, kind := 4, path := 3 } = false ∧
    folds (violEntry { time := 7, addr := 65536, client := some 70, kind := 4, path := 3 } 1)
      { time := 9, addr := 65540, client := some 70, kind := 4, path := 3 } = true := by decide +kernel

theorem test_claspGo_conditions : serving one 0 = true ∧ inRange one 0 5 = true ∧ rd one (E.guest_RESET_CLIENT 0) ≠ 5 ∧ (claspOf one 5).mode = false ∧
    (claspOf one 5).go = false ∧ stage1 one 5 (fld (reqWord (claspOf one 5) 0) 0 16) false = (0, 0) := by decide +kernel

theorem test_claspGo : (match exec (.claspGo 0 5) one with | .next t => (claspOf t 5).go | _ => false) = true := by decide +kernel

theorem test_claspWrite_conditions : serving one 0 = true ∧ inRange one 0 5 = true ∧ (claspOf (setClasp one 5 { go := true }) 5).go = true ∧
   rd one (E.guest_RESET_CLIENT 0) ≠ 5 := by decide +kernel

theorem test_claspWrite : (match exec (.claspWrite 0 5 (4*14) (enabled 4 0xA1B2C3D4)) one with | .next t => claspOf t 5 = setReqWord (claspOf one 5) 14 0xA1B2C3D4 | _ => false) = true := by decide +kernel

/-- `one` with a READY result of client 5. -/
def ready5 : State := setClasp one 5 { state := 2, full := true, seq := 7, code := 3, kind := 9 }

theorem test_resultHeaderRead_conditions : serving ready5 0 = true ∧ inRange ready5 0 5 = true ∧ (claspOf ready5 5).mode = false ∧
  (claspOf ready5 5).state = 2 ∧ 0x48 % 64 + (allBytes 4).length ≤ 64 ∧ effectWords 0x48 (allBytes 4) = [] ∧
  serving State.reset 0 = false := by decide +kernel

theorem test_resultHeaderRead : nx (exec (.resultHeaderRead 0 5 0x48 (allBytes 4)) ready5)
    (fun t => decide (t.out = [.msg (.bar 0 0) [0] [3, 0, 9, 0]] ∧ claspOf t 5 = claspOf ready5 5)) = true := by decide +kernel

theorem test_discardsRead_conditions : serving one 0 = true ∧ inRange one 0 7 = true := by decide +kernel

theorem test_eventClear_conditions : serving one 0 = true ∧ inRange one 0 5 = true ∧ rd one (E.guest_RESET_CLIENT 0) ≠ 5 := by decide +kernel

theorem test_eventClear : (match exec (.eventClear 0 5 0x00F0) (setClasp one 5 { event := 0x0FF0 }) with | .next t => decide (claspOf t 5 = { event := 0x0F00 } ∧ t.od = one.od) | _ => false) = true := by decide +kernel

theorem test_claspModeWrite_conditions : modeFree (claspOf one 5) = true ∧ bitOf 0x1000 12 = !(claspOf one 5).mode ∧
   modeFree (claspOf (setClasp one 5 { go := true }) 5) = false := by decide +kernel

theorem test_claspModeWrite : (match exec (.claspModeWrite 0 5 0x1105) one with | .next t => decide ((claspOf t 5).mode = true ∧ (claspOf t 5).irqEn = true ∧ t.od = one.od) | _ => false) = true := by decide +kernel

/-- Client 5 in Delbel mode with a request queue of `n` words. -/
def delbel (n : Nat) : State := setClasp one 5 { mode := true, dqReq := List.replicate n 0x00070003, dqRsp := [9] }

theorem test_dqPush_conditions : serving (delbel 7) 0 = true ∧ inRange (delbel 7) 0 5 = true ∧ rd (delbel 7) (E.guest_RESET_CLIENT 0) ≠ 5 ∧
    (claspOf (delbel 7) 5).dqReq.length < 8 ∧ 8 ≤ (claspOf (delbel 8) 5).dqReq.length := by decide +kernel

theorem test_dqPush : (match exec (.dqPush 0 5 0x1234) (delbel 7) with | .next t => decide ((claspOf t 5).dqReq.length = 8 ∧ (claspOf t 5).dqReq.drop 7 = [0x1234]∧ (claspOf t 5).discards = 0) | _ => false) = true := by decide +kernel

theorem test_dqPop_conditions : (claspOf (delbel 0) 5).mode = true ∧ (claspOf (delbel 0) 5).dqRsp = [9] ∧
    (claspOf (setClasp one 5 { mode := true }) 5).dqRsp = [] := by decide +kernel

theorem test_msixUnmask_conditions : serving one 0 = true ∧ bitOf (portRec one 0).pba 63 = false ∧
    bitOf (portRec (setPort one 0 { pba := 2 ^ 63 }) 0).pba 63 = true := by decide +kernel

theorem test_msixUnmask : (match exec (.msixUnmask 0 63) (setPort one 0 { pba := 2 ^ 63 + 1 }) with | .next t => decide ((portRec t 0).pba = 1 ∧ t.out = [.msg (.msix 0 63) [0,0,0] []] ∧ bitOf (msixWord (portRec t 0) (4 * 63 + 3)) 0 = false) | _ => false) = true := by decide +kernel

/-- A request that waits with a stage-1 verdict. -/
def waits (v : Nat) : State := setClasp one 5 { go := true, verdict := v, vkind := 6, req := [(0, 1)] }

theorem test_stage1Refusal_conditions : nativeWaits (claspOf (waits 1) 5) = true ∧ (claspOf (waits 1) 5).verdict ≠ 0 := by decide +kernel

theorem test_stage1Refusal : (match exec (.stage1Refusal 5) (waits 1) with | .next t => decide ((claspOf t 5).go = false ∧ (claspOf t 5).code = 1 ∧ (claspOf t 5).kind = 6 ∧ (claspOf t 5).seq = 1 ∧ t.od = one.od) | _ => false) = true := by decide +kernel

theorem test_claspTake_conditions : pdOn (waits 0) 2 = true ∧ nextTake (waits 0) = some (0, 5) ∧ (claspOf (waits 0) 5).mode = false :=
    by decide +kernel

theorem test_claspTake : (match exec .claspTake (waits 0) with | .next t => decide ((claspOf t 5).go = false ∧ (claspOf t 5).state = 1 ∧ (claspOf t 5).seq = 1 ∧ ((claspOf t 5).taken.map (·.op)) = some 1) | _ => false) = true := by decide +kernel

theorem test_claspComplete_conditions : (claspOf (asking one { op := 1, tag := 77, answer := some { data := [1, 2] } }) 5).taken =
    some { op := 1, tag := 77, answer := some { data := [1, 2] } } := by decide +kernel

theorem test_claspComplete : (match exec (.claspComplete 5) (asking one { op := 1, tag := 77, answer := some { data := [1, 2] } }) with | .next t => decide ((claspOf t 5).state = 2 ∧ (claspOf t 5).rtag = 77 ∧ (claspOf t 5).rlen = 2 ∧ (portRec t 0).pba = 2^5) | _ => false) = true := by decide +kernel

/-- A Delbel response of `n` words waits beside a response queue of 5. -/
def responding (n : Nat) :
    State := setClasp one 5 { mode := true, dqRsp := [1, 2, 3, 4, 5], taken := some { delbel := true, answer := some { data := List.replicate n 7 } } }

theorem test_delbelResponse_conditions : delbelRoom (claspOf (responding 2) 5) { data := [7, 7] } = true ∧
    delbelRoom (claspOf (responding 3) 5) { data := [7, 7, 7] } = false ∧
   (claspOf (responding 2) 5).taken = some { delbel := true, answer := some { data := [7, 7] } } := by decide +kernel

theorem test_nop_conditions : asks (asking one { op := 0x0001 }) 5 0x0001 0 { op := 0x0001 } = true := by decide +kernel

theorem test_identify_conditions : asks (asking one { op := 0x0002 }) 5 0x0002 0 { op := 0x0002 } = true := by decide +kernel

theorem test_echo_conditions :
    asks (asking one { op := 3, len := 13, args := List.replicate 13 8 }) 5 3 13 { op := 3, len := 13, args := List.replicate 13 8 } = true :=
    by decide +kernel

theorem test_internalClaspGo_conditions : pdOn one 2 = true ∧ (iclOf one (iclNum .hap)).go = false ∧
    ¬ (rd one (E.pd_MODE (iclDomain (iclNum .hap))) = 2 ∧ (iclOf one (iclNum .hap)).taken = none) := by decide +kernel

theorem test_internalClaspGo : (match exec (.internalClaspGo .hap [5,6,7]) one with | .next t => decide ((iclOf t 6).go = true ∧ reqWord (iclOf t 6) 2 = 7 ∧ reqWord (iclOf t 6) 14 = 0) | _ => false) = true := by decide +kernel

theorem test_internalClaspTake_conditions : nativeWaits (iclRead (iclOf (setIcl one 6 { go := true, req := [(0, 0xF003)] }) (iclNum .hap))) = true ∧
    pdOn (setIcl one 6 { go := true, req := [(0, 0xF003)] }) (iclDomain (iclNum .hap)) = true ∧
    (takeClasp (iclRead (iclOf (setIcl one 6 { go := true, req := [(0, 0xF003)] }) (iclNum .hap))) none).taken.bind (iclAnswer (iclNum .hap)) = none ∧
    (takeClasp (iclRead (iclOf (setIcl one 6 { go := true, req := [(0, 0xF009)] }) (iclNum .hap))) none).taken.bind (iclAnswer (iclNum .hap)) =
      some { code := 2 } := by decide +kernel

theorem test_registerWrite_conditions : pdOn (wr open6 E.mem_MEM_STATE 2) 2 = true ∧ memReady (wr open6 E.mem_MEM_STATE 2) = true ∧
    both open6 (E.pd_MODE 3) 0 [1] [1] = true ∧ both open6 E.comm_ALARM_CHECK 0 [1] [1] = true ∧
   ((findEntry 0x2113 1).map (fun f => f.row.committed)) = some true := by decide +kernel

theorem test_trustedDictWrite_conditions : accepts open6 .trusted E.err_ERROR_COUNT 0 [0] [0] = true := by decide +kernel

theorem test_trustedDictWrite : nx (exec (.trustedDictWrite 0x4805 1 [1]) open6) (fun t =>
    decide (t.out.head? = some (.msg .mailbox [0] []))) = true := by decide +kernel

theorem test_trustedDictRead_conditions : reaches open6 .trusted = true ∧ denial open6 .trusted false 0x2100 1 = none := by decide +kernel

theorem test_trustedDictRead : nx (exec (.trustedDictRead 0x2100 1) open6) (fun t =>
    decide (t.out.head? = some (.msg .mailbox [0] (valueBytes open6 65 0x210001)))) = true := by decide +kernel

theorem test_sdoDownload_conditions : accepts open6 .field (dkey 0x2113 1) 0 [2] [2] = true ∧ ((findEntry 0x2113 1).map (fun f =>
    f.row.committed)) = some true := by decide +kernel

theorem test_sdoDownload : nx (exec (.sdoDownload .coe 0x2113 1 [2]) open6) (fun t => decide (stagedVal t 0 0x211301 = some [2] ∧
    t.out.head? = some (.msg (.sdo 0) [0x2113, 1, 1, 0] []) ∧ t.od = open6.od)) = true := by decide +kernel

theorem test_sdoUpload_conditions : reaches open6 .field = true ∧ denial open6 .field false 0x2110 1 = none := by decide +kernel

theorem test_sdoUpload : nx (exec (.sdoUpload .coe 0x2110 1) open6) (fun t =>
    decide (t.out.head? = some (.msg (.sdo 0) [0x2110, 1, 0, 0] (valueBytes open6 0 0x211001)))) = true := by decide +kernel

/-- A state or operand for the tests below. -/
def portAsk (i n len : Nat) : State := setPort open6 0 { index := i, subindex := n, length := len }

theorem test_dictPortRead_conditions : reaches (portAsk 0x2113 1 1) (.bar2 0 none) = true ∧
    portClient (portRec (portAsk 0x2113 1 1) 0) = none ∧ denial (portAsk 0x2113 1 1) (.bar2 0 none) false 0x2113 1 = none :=
    by decide +kernel

theorem test_dictPortRead : nx (exec (.dictPortRead 0) (portAsk 0x2113 1 1)) (fun t => decide ((portRec t 0).busy = true ∧
    (portRec t 0).nextActual = 1 ∧ (portRec t 0).nextAbort = 0 ∧ (portRec t 0).waitsStore = false)) = true := by decide +kernel

theorem test_dictPortWrite_conditions : accepts (portAsk 0x2113 1 1) (.bar2 0 none) (dkey 0x2113 1) 0 [0] [0] = true := by decide +kernel

theorem test_dictPortWrite : nx (exec (.dictPortWrite 0) (portAsk 0x2113 1 1)) (fun t => decide (stagedVal t 1 0x211301 = some [0] ∧
    (portRec t 0).busy = true ∧ t.od = open6.od)) = true := by decide +kernel

theorem test_dictPortDone_conditions : (portRec (setPort open6 0 { busy := true, irqEn := true, vector := 63 }) 0).busy = true ∧
    (portRec (setPort open6 0 { busy := true, irqEn := true }) 0).irqEn = true ∧
  (portRec (setPort open6 0 { busy := true }) 0).irqEn = false ∧
      (portRec (setPort open6 0 { busy := true }) 0).waitsStore = false := by decide +kernel

theorem test_portDiscardsRead_conditions : serving open6 0 = true ∧ (∀ i ∈ enabledAt (allBytes 4), 0x18 + i ≠ 0x24 ∧ 0x18 + i ≠ 0x25) ∧
    serving State.reset 0 = false := by decide +kernel

theorem test_portDiscardsRead : nx (exec (.portDiscardsRead 0 0x18 (allBytes 4)) (setPort open6 0 { abort := 0x06020000, discards := 7 }))
    (fun t => decide (t.out = [.msg (.bar 0 2) [0] [0, 0, 2, 6]] ∧ (portRec t 0).discards = 7)) = true := by decide +kernel

theorem test_commit_conditions : both (stage (stage open6 0 (E.pd_MODE 3) [2]) 1 (E.pd_MODE 3) [2]) E.cc_COMMIT 0 [1] [1] = true ∧
    (stagingOf (stage open6 0 (E.pd_MODE 3) [2]) 0).entries ≠ [] ∧
  commitRuns (stage open6 0 (E.pd_MODE 3) [2]) = false := by decide +kernel

theorem test_commit : nx (exec (.commit .field) (stage open6 0 (E.pd_MODE 3) [2])) (fun t => decide ((stagingOf t 0).state = 2 ∧
    t.dict.running = some { set := 0, emcyKind := some 0 } ∧ t.od = open6.od)) = true := by decide +kernel

theorem test_checkOnly_conditions : both (stage (stage open6 0 (E.pd_MODE 3) [2]) 1 (E.pd_MODE 3) [2]) E.cc_COMMIT 0 [2] [2] = true :=
    by decide +kernel

theorem test_checkOnly : nx (exec (.checkOnly .field) (stage open6 0 (E.pd_MODE 3) [2])) (fun t => decide ((stagingOf t 0).state = 2 ∧
    t.dict.running = some { set := 0, checkOnly := true, emcyKind := some 0 } ∧ t.od = open6.od)) = true := by decide +kernel

theorem test_discard_conditions : both (stage open6 0 (E.pd_MODE 3) [2]) E.cc_COMMIT 0 [3] [3] = true := by decide +kernel

theorem test_discard : nx (exec (.discard .field) (stage open6 0 (E.pd_MODE 3) [2])) (fun t => decide ((stagingOf t 0) = {})) = true :=
    by decide +kernel

theorem test_trustedDictCommit_conditions : accepts (stage open6 65 E.lkt_LKT_STATE [1]) .trusted E.cc_COMMIT 0 [1] [1] = true := by decide +kernel

theorem test_trustedDictCommit : nx (exec .trustedDictCommit (stage open6 65 E.lkt_LKT_STATE [1])) (fun t =>
    decide ((stagingOf t 65).state = 2 ∧ t.dict.running = some { set := 65 } ∧ t.od = open6.od ∧ t.out = [.msg .mailbox [0] []])) = true :=
    by decide +kernel

/-- A state or operand for the tests below. -/
def queuedCommit : State := { open6 with dict := { queued := [{ set := 3 }] } }

theorem test_commitStart_conditions : queuedCommit.dict.running = none ∧ queuedCommit.dict.queued = [{ set := 3 }] := by decide +kernel

/-- A commit of the field network's set is being checked. -/
def checking (k : Nat) (v : List Byte) :
    State := { stage open6 0 k v with dict := { (putStaging (stage open6 0 k v) 0 { stagingOf (stage open6 0 k v) 0 with state := 2 }).dict with running := some {} } }

theorem test_commitChecksEnd_conditions : (checking (E.pd_MODE 3) [1]).dict.running = some {} ∧ (stagingOf (checking (E.pd_MODE 3) [1]) 0).state = 2 ∧
    commitVerdict (checking (E.pd_MODE 3) [1]) (stagedList (stagingOf (checking (E.pd_MODE 3) [1]) 0)) = none ∧
    noticeHeads (checking (E.pd_MODE 3) [1]) (handOver (stagingOf (checking (E.pd_MODE 3) [1]) 0)) = [] ∧
    (commitVerdict (checking ((E.haplib_BIND 0)) [2]) (stagedList (stagingOf (checking ((E.haplib_BIND 0)) [2]) 0))).isSome = true := by decide +kernel

/-- A state or operand for the tests below. -/
def applyingEntry (k : Nat) (v : List Byte) :
    State := { open6 with dict := { running := some {}, applying := [(k, v)], sets := [(0, { state := 3 })] } }

theorem test_entryTakesEffect_conditions : applyingVal (applyingEntry (E.pd_IDLE_OFF 3) [9, 0]) (dkey 0x2113 2) = some [9, 0] ∧
    isImmediate (dkey 0x2113 2) = false ∧
    isDomainKey (dkey 0x2113 2) = false ∧ applyingVal (applyingEntry (dkey 0x5000 1) [2]) (dkey 0x5000 1) = some [2] := by decide +kernel

theorem test_entryTakesEffect : nx (exec (.entryTakesEffect 0x2113 2) (applyingEntry (E.pd_IDLE_OFF 3) [9, 0])) (fun t =>
    decide (rd t (E.pd_IDLE_OFF 3) = 9 ∧ t.dict.applying = [])) = true := by decide +kernel

theorem test_entryTakesEffect2 : nx (exec (.entryTakesEffect 0x5000 8) (applyingEntry (dkey 0x5000 8) [2])) (fun t =>
    decide (rd t (dkey 0x5000 8) = 2 ∧ t.dict.applying = [] ∧ inForce t (dkey 0x5000 8) = inForce open6 (dkey 0x5000 8))) = true :=
    by decide +kernel

/-- A state or operand for the tests below. -/
def landed : State := { open6 with dict := { running := some {}, sets := [(0, { state := 3 })] } }

theorem test_commitDone_conditions : landed.dict.running = some {} ∧ (stagingOf landed 0).state = 3 ∧ landed.dict.applying = [] := by decide +kernel

theorem test_commitDone : nx (exec .commitDone landed) (fun t => decide ((stagingOf t 0).state = 4 ∧ rd t E.cc_GENERATION = 1 ∧
    t.dict.running = none)) = true := by decide +kernel

theorem test_storeAll_conditions : both open6 E.store_STORE_ALL 0 (leBytes 4 0x65766173) (leBytes 4 0x65766173) = true ∧
    commitRuns open6 = false ∧ open6.dict.storing = none ∧
  imageSize (storeRecords open6 0) ≤ 524288 ∧ (storeRecords open6 0).length ≤ 16384 := by decide +kernel

theorem test_storeAll : nx (exec (.storeAll .field) (wrs open6 [(E.pd_MODE 3, 2)])) (fun t => decide ((t.dict.storing.map (fun r =>
    (r.what, r.slot, r.who, r.content.count, r.content.records.contains (E.pd_MODE 3, [2])))) = some (0, some 0, 0, 1, true))) = true :=
    by decide +kernel

theorem test_storeComm_conditions : both open6 E.store_STORE_COMM 0 (leBytes 4 0x65766173) (leBytes 4 0x65766173) = true ∧
  imageSize (storeRecords open6 1) ≤ 524288 ∧ (storeRecords open6 1).length ≤ 16384 := by decide +kernel

theorem test_storeComm : nx (exec (.storeComm .field) (wrs open6 [(E.pd_MODE 3, 2)])) (fun t => decide ((t.dict.storing.map (fun r =>
    (r.what, r.slot, r.content.records.contains (E.pd_MODE 3, [2])))) = some (1, some 0, false))) = true := by decide +kernel

theorem test_storeApp_conditions : both open6 E.store_STORE_APP 0 (leBytes 4 0x65766173) (leBytes 4 0x65766173) = true ∧
  imageSize (storeRecords open6 2) ≤ 524288 ∧ (storeRecords open6 2).length ≤ 16384 := by decide +kernel

theorem test_storeApp : nx (exec (.storeApp (.bar2 0 none)) (wrs open6 [(E.pd_MODE 3, 2)])) (fun t => decide ((t.dict.storing.map (fun r =>
    (r.what, r.who, r.content.records.contains (E.pd_MODE 3, [2])))) = some (2, 1, true))) = true := by decide +kernel

theorem test_restoreAll_conditions : both open6 E.store_RESTORE_ALL 0 (leBytes 4 0x64616F6C) (leBytes 4 0x64616F6C) = true := by decide +kernel

theorem test_restoreAll : nx (exec (.restoreAll .field) open6) (fun t => decide (t.dict.storing = some { what := 3 } ∧
    t.od = open6.od)) = true := by decide +kernel

/-- A stored configuration of one entry of each range. -/
def stored1 :
    State := { open6 with flash := { open6.flash with stored := [some { count := 3, records := [(E.comm_PD_SOURCE, [1]), (E.pd_MODE 3, [2])] }, none] } }

theorem test_restoreComm_conditions : both stored1 E.store_RESTORE_COMM 0 (leBytes 4 0x64616F6C) (leBytes 4 0x64616F6C) = true ∧
    (newestStored stored1).map (fun p => (p.1, p.2.records.length)) = some (0, 2) := by decide +kernel

theorem test_restoreComm : nx (exec (.restoreComm .field) stored1) (fun t =>
    decide (t.dict.storing = some { what := 4, slot := some 1, content := { count := 4, records := [(E.pd_MODE 3, [2])] } })) = true :=
    by decide +kernel

theorem test_restoreApp_conditions : both stored1 E.store_RESTORE_APP 0 (leBytes 4 0x64616F6C) (leBytes 4 0x64616F6C) = true := by decide +kernel

theorem test_restoreApp : nx (exec (.restoreApp .field) stored1) (fun t =>
    decide (t.dict.storing = some { what := 5, slot := some 1, content := { count := 4, records := [(E.comm_PD_SOURCE, [1])] } })) = true :=
    by decide +kernel

/-- A state or operand for the tests below. -/
def storing (n : Option Nat) : State := { stored1 with dict := { stored1.dict with storing := some { slot := n, content := { count := 9 } } } }

theorem test_storeDone_conditions : (storing (some 1)).dict.storing = some { slot := some 1, content := { count := 9 } } ∧
    1 < (storing (some 1)).flash.stored.length ∧ (storing none).dict.storing = some { content := { count := 9 } } := by decide +kernel

theorem test_storeDone : nx (exec .storeDone (storing (some 1))) (fun t => decide (newestStored t = some (1, { count := 9 }) ∧
    t.dict.storing = none)) = true := by decide +kernel

/-- A state or operand for the tests below. -/
def half : State := { open6 with dict := { open6.dict with image := [1, 2, 3] } }

theorem test_imageWrite_conditions : accepts open6 .field E.img_IMAGE 0 [7] [7] = true ∧
    accepts half (.bar2 0 none) E.img_IMAGE 3 [7] [1, 2, 3, 7] = true := by decide +kernel

theorem test_imageWrite : nx (exec (.imageWrite (.bar2 0 none) 3 [7]) half) (fun t => decide (t.dict.image = [1, 2, 3, 7] ∧
    rd t E.img_IMAGE_STATE = 1)) = true := by decide +kernel

/-- A state or operand for the tests below. -/
def imageBytes : List Byte := imageForm { records := [(E.pd_MODE 3, [2])] }

/-- A state or operand for the tests below. -/
def loaded : State := { open6 with dict := { open6.dict with image := imageBytes } }

theorem test_imageCheck_conditions : both loaded E.img_ACTION 0 [1] [1] = true ∧ imageHeaderOk loaded loaded.dict.image = true ∧
    both half E.img_ACTION 0 [1] [1] = true ∧ imageHeaderOk half half.dict.image = false ∧
   (imageRecords loaded.dict.image (leVal (slice loaded.dict.image 6 2)) 16).isSome = true ∧
   (stageRecords (actionBegun loaded 1 0 false) [(16, 0x2113, 1, [2])]).2 = none := by decide +kernel

theorem test_imageCheck : nx (exec (.imageCheck .field) loaded) (fun t =>
    decide (t.dict.imageRun = some { action := 1, ended := true, state := 3 })) = true := by decide +kernel

theorem test_imageCommit_conditions : both loaded E.img_ACTION 0 [2] [2] = true ∧
    (stageRecords (actionBegun loaded 2 0 false) [(16, 0x2113, 1, [2])]).2 = none := by decide +kernel

theorem test_imageCommit : nx (exec (.imageCommit .field) loaded) (fun t => decide (t.dict.imageRun = some { action := 2 } ∧
    (stagingOf t 66).state = 2 ∧ t.dict.running = some { set := 66, emcyKind := some 1 })) = true := by decide +kernel

theorem test_imageCommitStore_conditions : both loaded E.img_ACTION 0 [3] [3] = true ∧
    (stageRecords (actionBegun loaded 3 0 false) [(16, 0x2113, 1, [2])]).2 = none := by decide +kernel

theorem test_imageCommitStore : nx (exec (.imageCommitStore .field) loaded) (fun t => decide (t.dict.imageRun = some { action := 3 } ∧
    (stagingOf t 66).state = 2)) = true := by decide +kernel

theorem test_imageActionEnd_conditions : ({ open6 with dict := { open6.dict with imageRun := some { ended := true, state := 5 } } } :
    State).dict.imageRun = some { ended := true, state := 5 } := by decide +kernel

theorem test_errorHistoryClear_conditions : both open6 E.err_ERROR_COUNT 0 [0] [0] = true := by decide +kernel

theorem test_errorHistoryClear :
    nx (exec (.errorHistoryClear .field) (wrs open6 [(E.err_ERROR_COUNT, 2), (E.err_ERROR_COUNT + 16, 5), (E.err_ERROR_COUNT + 17, 5)])) (fun t =>
    decide (rd t E.err_ERROR_COUNT = 0 ∧ rd t (E.err_ERROR_COUNT + 16) = 0 ∧ rd t (E.err_ERROR_COUNT + 17) = 5)) = true := by decide +kernel

theorem test_violationRingClear_conditions : both open6 E.viol_CLEAR 0 [1] [1] = true := by decide +kernel

theorem test_violationRingClear :
    nx (exec (.violationRingClear .field 1) (wrs open6 [(E.viol_NEXT_SLOT, 9), (slotKey 0x2080 64, 5), (E.viol_LOST, 5)])) (fun t =>
    decide (rd t E.viol_NEXT_SLOT = 1 ∧ rd t (slotKey 0x2080 64) = 0 ∧ rd t E.viol_LOST = 0)) = true := by decide +kernel

theorem test_xingLogClear_conditions : both open6 E.xlog_CLEAR 0 [1] [1] = true := by decide +kernel

theorem test_xingLogClear : nx (exec (.xingLogClear .field 1) (wrs open6 [(E.xlog_NEXT_SLOT, 9), (slotKey 0x2042 64, 5)])) (fun t =>
    decide (rd t E.xlog_NEXT_SLOT = 1 ∧ rd t (slotKey 0x2042 64) = 0)) = true := by decide +kernel

theorem test_supplyLogClear_conditions : both open6 E.slog_CLEAR 0 [1] [1] = true := by decide +kernel

theorem test_supplyLogClear : nx (exec (.supplyLogClear .field 1) (wrs open6 [(E.slog_NEXT_SLOT, 9), (slotKey 0x2130 32, 5)])) (fun t =>
    decide (rd t E.slog_NEXT_SLOT = 1 ∧ rd t (slotKey 0x2130 32) = 0)) = true := by decide +kernel

theorem test_memLogClear_conditions : both open6 E.memlog_CLEAR 0 [1] [1] = true := by decide +kernel

theorem test_memLogClear : nx (exec (.memLogClear .field 1) (wrs open6 [(E.memlog_NEXT_SLOT, 9), (slotKey 0x5002 64, 5)])) (fun t =>
    decide (rd t E.memlog_NEXT_SLOT = 1 ∧ rd t (slotKey 0x5002 64) = 0)) = true := by decide +kernel

theorem test_charmsWrite_conditions : both open6 (E.guest_CHARMS 0) 0 (leBytes 32 (2 ^ 8)) (leBytes 32 (2 ^ 8)) = true ∧
    charmsWritten open6 0 0 (leBytes 32 (2 ^ 8)) = [(0, 2 ^ 8)] := by decide +kernel

theorem test_charmsWrite : nx (exec (.charmsWrite .field 0 0 (leBytes 32 (2 ^ 8))) open6) (fun t => decide (charm t 0 = 2 ^ 8 ∧
    charm t 5 = charm open6 5)) = true := by decide +kernel

theorem test_resetClient_conditions : both open6 (E.guest_RESET_CLIENT 0) 0 (leBytes 2 7) (leBytes 2 7) = true := by decide +kernel

theorem test_resetClient : nx (exec (.resetClient .field 0 5) (setClasp open6 5 { go := true })) (fun t =>
    decide (rd t (E.guest_RESET_CLIENT 0) = 5 ∧ claspOf t 5 = {})) = true := by decide +kernel

/-- Facet 3 of head 2 reads its buffer from client 5's window. -/
def direct : State := wrs open6 [(E.facet_DIRECT_CLIENT 2 3, 5), (E.facet_DIRECT_PITCH 2 3, 64), (E.facet_SRC_W 2 3, 16), (E.facet_SRC_H 2 3, 16)]

theorem test_directAddrWrite_conditions : both direct (E.facet_DIRECT_ADDR 2 3) 0 (leBytes 4 64) (leBytes 4 64) = true := by decide +kernel

theorem test_directAddrWrite : nx (exec (.directAddrWrite .field 2 3 0 (leBytes 4 64)) direct) (fun t =>
    decide (rd t (E.facet_DIRECT_ADDR 2 3) = 64)) = true := by decide +kernel

/-- Panel 3 scans. -/
def panel3 : State := setTouch (wrs open6 [(E.panel_ENABLE 3, 1), (E.panel_STATE 3, 3)]) 3 { phase := 3 }

theorem test_selftest_conditions : both panel3 (E.panel_SELFTEST 3) 0 [1] [1] = true ∧ panelExists panel3 3 = true ∧ pdOn panel3 13 = true ∧
    (touchOf panel3 3).testing = false ∧ (touchOf panel3 3).phase ≠ 1 := by decide +kernel

theorem test_selftest : nx (exec (.selftest .field 3) panel3) (fun t => decide ((touchOf t 3).testing = true ∧
    rd t (E.panel_CMD_STATE 3) = 1)) = true := by decide +kernel

theorem test_capture_conditions : both panel3 (E.panel_CAPTURE 3) 0 [1] [1] = true ∧ (touchOf panel3 3).phase ≠ 0 := by decide +kernel

theorem test_capture : nx (exec (.capture .field 3) panel3) (fun t => decide ((touchOf t 3).capture ≠ 0)) = true := by decide +kernel

/-- A state or operand for the tests below. -/
def hapOn15 : State := wrs open6 [(E.hap_ENABLE 15, 1)]

theorem test_calibrate_conditions : both hapOn15 (E.hap_CALIBRATE 15) 0 [1] [1] = true ∧ rd hapOn15 (E.hap_ENABLE 15) = 1 := by decide +kernel

theorem test_unlockMaskWrite_conditions : both open6 E.dbg_UNLOCK_MASK 0 [5] [5] = true := by decide +kernel

/-- A challenge is open. -/
def challenged : State := wr { open6 with locket := { open6.locket with open_ := true, mask := 5, challengeAt := some 0 } } E.dbg_UNLOCK_STATE 1

theorem test_unlockResponseWrite_conditions : both challenged E.dbg_RESPONSE 0 (List.replicate 96 7) (List.replicate 96 7) = true := by decide +kernel

theorem test_unlockResponseWrite : nx (exec (.unlockResponseWrite .field (List.replicate 96 7)) challenged) (fun t =>
    decide (rd t E.dbg_UNLOCK_STATE = 2 ∧ t.locket.response = List.replicate 96 7 ∧ t.locket.open_ = false)) = true := by decide +kernel

theorem test_nonceWrite_conditions : both open6 E.sig_NONCE 0 (List.replicate 32 7) (List.replicate 32 7) = true := by decide +kernel

theorem test_nonceWrite : nx (exec (.nonceWrite .field (List.replicate 32 7)) open6) (fun t => decide (rd t E.sig_SIGNET_STATE = 1 ∧
    t.locket.nonce = List.replicate 32 7)) = true := by decide +kernel

/-- Guest 0 has no enabled client. -/
def quiet : State := setCharm open6 5 0

theorem test_deepSleep_conditions : both quiet E.pwr_DEEP_SLEEP 0 [1] [1] = true ∧ quiet.power.sleep = 0 := by decide +kernel

theorem test_deepSleep : nx (exec (.deepSleep .field) quiet) (fun t => decide (t.power.sleep = 1 ∧ rd t E.pwr_DEEP_SLEEP = 1)) = true :=
    by decide +kernel

/-- PD13 is AUTO and off. -/
def pd13off : State := wrs open6 [(E.pd_MODE 13, 1), (E.pd_STATE 13, 0)]

theorem test_clockPowerRequest_conditions : domainHeld pd13off 14 = none ∧ pdMode (wr open6 (E.pd_MODE 14) 1) 14 ≠ 0 ∧
    pdState open6 14 = 2 ∧ pdChanging open6 = false ∧
    domainHeld (wr open6 (E.pd_MODE 14) 1) 14 = none ∧ open6.power.queue = [] ∧ pdMode open6 14 = 0 ∧ pdMode pd13off 13 ≠ 2 ∧
        (∀ x ∈ prereqs 13, pdState pd13off x = 2) ∧ pdState pd13off 13 = 0 ∧
    pdChanging pd13off = false ∧ pdMode (wr open6 (E.pd_MODE 3) 2) 3 = 2 ∧ (domainHeld open6 1).isSome = true ∧
        blockHeld open6 0x30 = true ∧ blockHeld open6 0x11 = false ∧
    heldBlock open6 21 = none ∧ (heldBlock open6 3).isSome = true := by decide +kernel

theorem test_clockPowerRequest : nx (exec (.clockPowerRequest (.switchOn 13)) pd13off) (fun t =>
    decide (t = wr (emit pd13off (.msg .fabric [0] [])) (E.pd_STATE 13) 1)) = true := by decide +kernel

theorem test_clockPowerRequest2 : nx (exec (.clockPowerRequest (.switchOff 14)) (wr open6 (E.pd_MODE 14) 1)) (fun t =>
    decide (pdState t 14 = 3)) = true := by decide +kernel

theorem test_domainIdleExpiry_conditions : pdMode (wr open6 (E.pd_MODE 14) 1) 14 = 1 ∧ withoutWork (wr open6 (E.pd_MODE 14) 1) 14 = true ∧
    pdState open6 14 = 2 ∧ pdMode open6 12 ≠ 1 := by decide +kernel

theorem test_domainIdleExpiry : nx (exec (.domainIdleExpiry 14) (wr open6 (E.pd_MODE 14) 1)) (fun t =>
    decide (t = wr (wr open6 (E.pd_MODE 14) 1) (E.pd_STATE 14) 3)) = true := by decide +kernel

theorem test_wakeEvent_conditions : wakeRow 2 13 = true ∧ pd13off.power.sleep ≠ 2 ∧ pdMode pd13off 13 = 1 ∧ pdState pd13off 13 = 0 ∧
    pdMode open6 12 ≠ 1 := by decide +kernel

theorem test_wakeEvent : nx (exec (.wakeEvent 13 2) pd13off) (fun t => decide (pdState t 13 = 1 ∧ rd t (E.pd_WAKES 13) = 1 ∧
    rd t (E.pd_LAST_WAKE 13) = 2)) = true := by decide +kernel

/-- A state or operand for the tests below. -/
def draining14 : State := wrs open6 [(E.pd_MODE 14, 1), (E.pd_STATE 14, 3)]

theorem test_domainOff_conditions : pdState (wr open6 (E.pd_STATE 8) 3) 8 = 3 ∧ open6.power.queue = [] ∧ pdState open6 5 ≠ 3 := by decide +kernel

theorem test_domainOff : nx (exec (.domainOff 14) draining14) (fun t => decide (pdState t 14 = 0 ∧
    t.out.head? = some (.event false .domainOff [14]))) = true := by decide +kernel

theorem test_domainOn_conditions : pdState (wr open6 (E.pd_STATE 3) 1) 3 = 1 ∧ pdOn (wr open6 (E.pd_STATE 3) 1) 2 = true ∧
    (wr open6 (E.pd_STATE 3) 1).power.queue = [] ∧ pdState open6 5 ≠ 1 := by decide +kernel

theorem test_domainOn : nx (exec (.domainOn 3) (wr open6 (E.pd_STATE 3) 1)) (fun t => decide (pdState t 3 = 2 ∧
    t.out.head? = some (.event false .domainOn [3]))) = true := by decide +kernel

theorem test_domainOn2 : nx (exec (.domainOn 8) (wr open6 (E.pd_STATE 8) 1)) (fun t => decide (pdState t 8 = 2 ∧
    t.out.head? = some (.event false .domainOn [8]))) = true := by decide +kernel

/-- A state or operand for the tests below. -/
def sleepy : State := { open6 with power := { open6.power with sleep := 1 } }

theorem test_deepSleepEntered_conditions : sleepy.power.sleep = 1 ∧ pdChanging sleepy = false ∧ sleepy.power.wakePending = false := by decide +kernel

theorem test_deepSleepEntered : nx (exec .deepSleepEntered sleepy) (fun t => decide (t.power.sleep = 2 ∧
    (∀ d ∈ sleepOrder sleepy, pdState t d = 0) ∧ pdState t 0 = 2)) = true := by decide +kernel

/-- A state or operand for the tests below. -/
def asleep : State := { wrs open6 [(E.pd_STATE 2, 0), (E.pwr_DEEP_SLEEP, 1)] with power := { open6.power with sleep := 2 } }

theorem test_deepSleepExit_conditions : asleep.power.sleep = 2 ∧ sleepy.power.sleep = 1 ∧ rd open6 E.pwr_DS_TOUCH = 0 ∧
    rd (wr asleep E.pwr_DS_TOUCH 1) E.pwr_DS_TOUCH ≠ 0 ∧ SleepExit.touchdown = .touchdown := by decide +kernel

theorem test_deepSleepExit : nx (exec (.deepSleepExit .touchdown) (wr asleep E.pwr_DS_TOUCH 1)) (fun t => decide (t.power.sleep = 0 ∧
    rd t E.pwr_DEEP_SLEEP = 0 ∧ pdState t 2 = 1)) = true := by decide +kernel

theorem test_supplyWarn_conditions : nominal open6 1 * (1000 - rd open6 (E.sup_WARN 1)) > 700 * 1000 ∧
    open6.power.warning.contains 1 = false ∧ rd open6 E.hm_EPOCH_STATE ≠ 2 ∧ emcyHeld open6 0x3201 1 = false ∧
    rd open6 E.err_ERROR_REGISTER = lastingRegister open6.field.lasting := by decide +kernel

theorem test_supplyWarn : nx (exec (.supplyWarn 1 [700, 690, 700, 701]) open6) (fun t => decide (t.power.warning = [1] ∧
    rd t (E.sup_LEVEL 1) = 701 ∧ t.out.head? = some (.event false .supplyWarn [1, 690]) ∧ bitOf (rd t E.err_ERROR_REGISTER) 2 = true ∧
  (t.field.emcyQueue.getLast?.map (fun m => (m.code, m.data % 256))) = some (0x3201, 1) ∧
      rd t (slotKey 0x2130 1) = 2 ^ 64 * (1 + 256) + 2 ^ 96 * 690)) = true := by decide +kernel

/-- A state or operand for the tests below. -/
def warned : State := { open6 with power := { open6.power with warning := [1] }, field := { open6.field with lasting := [(0x3201, 1)] } }

theorem test_supplyWarningEnd_conditions : warned.power.warning.contains 1 = true ∧
    nominal warned 1 * (1010 - rd warned (E.sup_WARN 1)) < 800 * 1000 ∧ open6.power.warning.contains 1 = false := by decide +kernel

theorem test_supplyWarningEnd : nx (exec (.supplyWarningEnd 1 800) warned) (fun t => decide (t.power.warning = [] ∧
    rd t (E.sup_LEVEL 1) = 800 ∧ t.field.lasting = [] ∧ t.field.emcyQueue = [{}] ∧
    rd t (slotKey 0x2130 1) = 2 ^ 64 * (2 + 256) + 2 ^ 96 * 800)) = true := by decide +kernel

/-- A state whose readings are `v` on every sensor. -/
def temps (s : State) (v : Int) : State := (List.range 12).foldl (fun t n => wr t (E.thm_TEMP n) (ofInt 16 v)) s

theorem test_thermalSample_conditions : open6.power.ccxLow = false ∧ (100 : Int) < throttleT open6 ∧ open6.power.throttle = none ∧
    open6.power.rqLimit = 1400 ∧ throttleT open6 = 1050 := by decide +kernel

theorem test_thermalSample : nx (exec (.thermalSample (List.replicate 12 100)) open6) (fun t => decide (tempOf t 11 = 100 ∧
    t.power = open6.power)) = true := by decide +kernel

theorem test_thermalSample2 : nx (exec (.thermalSample [0, 0, 0, 1050, 1099, 0, 0, 0, 0, 0, 0, 0]) open6) (fun t =>
    decide (t.power.rqLimit = 1300 ∧ t.power.throttle = some 3 ∧ t.field.lasting.contains (0x4201, 3) = true ∧
    bitOf (rd t E.thm_THROTTLED) 0 = true)) = true := by decide +kernel

/-- A state or operand for the tests below. -/
def hot : State := let s := wr open6 (E.thm_TEMP 2) 1060; { s with power := { s.power with rqLimit := 800, throttle := some 2 } }

theorem test_throttleStep_conditions : hotQuad hot = some 2 ∧ 700 < hot.power.rqLimit ∧ hot.power.rqLimit < 1400 ∧ hotQuad open6 = none :=
    by decide +kernel

theorem test_throttleStep : nx (exec .throttleStep hot) (fun t => decide (t.power.rqLimit = 700 ∧
    t.out.head? = some (.event false .throttle [6, 700]) ∧ t.field.lasting = [(0x4201, 2)])) = true := by decide +kernel

/-- A state or operand for the tests below. -/
def cooled : State := { open6 with power := { open6.power with rqLimit := 1300, throttle := some 2 } }

theorem test_throttleRaise_conditions : allCool cooled = true ∧ cooled.power.rqLimit < 1400 ∧ allCool hot = false := by decide +kernel

theorem test_throttleRaise : nx (exec .throttleRaise cooled) (fun t => decide (t.power.rqLimit = 1400 ∧ t.power.throttle = none)) = true :=
    by decide +kernel

theorem test_tedHit_conditions : rd open6 E.hm_EPOCH_STATE = 0 ∧ rd open6 E.hm_TARGET_MV + 10 ≤ factoryMv + 50 ∧ pdOn open6 2 = true ∧
    rd (wr open6 E.hm_EPOCH_STATE 2) E.hm_EPOCH_STATE = 2 := by decide +kernel

theorem test_hoursTick_conditions : 2 ≤ deviceState open6 ∧ deviceState open6 ≤ 5 ∧ deviceState State.reset < 2 ∧
    rd open6 E.hm_EPOCH_HOURS ≠ 0 := by decide +kernel

theorem test_hoursTick : nx (exec .hoursTick (wr open6 E.hm_HOURS (rd open6 E.hm_EPOCH_HOURS - 1))) (fun t =>
    decide (rd t E.hm_EPOCH_STATE = 1 ∧ t.power.due = 1)) = true := by decide +kernel

theorem test_hoursPersist_conditions : rd (wr open6 E.hm_HOURS 7) E.hm_HOURS ≠ open6.flash.hours := by decide +kernel

theorem test_epochNow_conditions : both open6 E.hm_EPOCH_NOW 0 [1] [1] = true ∧ rd open6 E.hm_EPOCH_STATE = 0 ∧
    both (wr open6 E.hm_EPOCH_STATE 1) E.hm_EPOCH_NOW 0 [1] [1] = true := by decide +kernel

theorem test_epochNow : nx (exec (.epochNow .field) open6) (fun t => decide (rd t E.hm_EPOCH_STATE = 1 ∧ t.power.due = 2)) = true := by decide +kernel

/-- A state or operand for the tests below. -/
def windowed : State := let s := wr open6 E.hm_EPOCH_STATE 1; { s with power := { s.power with windowEnd := some 100, due := 2 } }

theorem test_epochStart_conditions : rd windowed E.hm_EPOCH_STATE = 1 ∧ windowed.power.windowEnd.isSome = true ∧
    pdOperational windowed = false ∧ open6.power.windowEnd = none := by decide +kernel

/-- Every island has a margin of 10 % at every target. -/
def meas10 : EpochMeas := { margin := List.replicate 22 (List.replicate 6 100), lowered := [], dram := [], touch := [] }

theorem test_epochDone_conditions : rd (wr windowed E.hm_EPOCH_STATE 2) E.hm_EPOCH_STATE = 2 ∧
    (epochRecord (wr windowed E.hm_EPOCH_STATE 2) meas10).targetMv = factoryMv := by decide +kernel

theorem test_maintWindow_conditions : both open6 E.hm_MAINT_WINDOW 0 (leBytes 2 5) (leBytes 2 5) = true ∧
    both windowed E.hm_MAINT_WINDOW 0 [0, 0] [0, 0] = true ∧ rd windowed E.hm_EPOCH_STATE ≠ 2 := by decide +kernel

theorem test_maintWindow : nx (exec (.maintWindow .field 5) open6) (fun t => decide (t.power.windowEnd = some (300 * secCounts))) = true :=
    by decide +kernel

theorem test_maintWindowClose_conditions : rd windowed E.hm_EPOCH_STATE ≠ 2 ∧ rd (wr windowed E.hm_EPOCH_STATE 2) E.hm_EPOCH_STATE = 2 :=
    by decide +kernel

theorem test_avsWrite_conditions : rd (wr open6 E.hm_TARGET_MV 760) E.hm_TARGET_MV ≠ open6.power.acked := by decide +kernel

theorem test_trustedVersionCall_conditions : calls open6 0 = true ∧ lktState (wr open6 E.lkt_LKT_STATE 2) = 2 ∧
    lktState (wr open6 E.lkt_LKT_STATE 3) = 3 ∧ pdOn open6 2 = true ∧ open6.locket.halted.contains 3 = false := by decide +kernel

/-- CC1 with registers, a CSR and a line in its data cache. -/
def busyCpu :
    State := setCpu open6 1 { x := [(5, 7), (10, 1)], f := [(3, 9)], fcsr := 2, pc := 0x1000, csr := [(0x140, 4)], l1d := [{ line := 3, trusted := false, dirty := false, bytes := [] }] }

theorem test_trustedVersionCall : nx (exec (.trustedVersionCall 1) (wr busyCpu E.id_TRUSTED_VERSION 0x100)) (fun t => decide (cpuOf t 1 =
    { x := [(11, 0x100)], pc := 0x1004, csr := [(0x140, 4)] })) = true := by decide +kernel

/-- A state or operand for the tests below. -/
def ended9 : State := { open6 with locket := { open6.locket with results := [(8, 0, 0), (9, 0x203, 5)], queue := [{ num := 0x50, ticket := 10 }] } }

theorem test_result_conditions : calls ended9 1 = true ∧ ended9.locket.results.find? (fun r => r.1 == 9) = some (9, 0x203, 5) ∧
    ended9.locket.results.find? (fun r => r.1 == 10) = none := by decide +kernel

theorem test_result : nx (exec (.result 1 9) ended9) (fun t => decide (t = gateReply (flushL1 ended9 1) 1 0x203 5 ∧
    t.out = [.msg (.gate 1) [0x203, 5] []])) = true := by decide +kernel

theorem test_result2 : nx (exec (.result 1 10) ended9) (fun t => decide (t = gateReply (flushL1 ended9 1) 1 0x200 10)) = true := by decide +kernel

theorem test_ownAssign_conditions : calls open6 1 = true ∧ ownerPermitted 0x10 7 = true ∧ ownerPermitted 0x18 0xFFFE = true ∧
    ownerPermitted 0x18 7 = false ∧ handOf open6 0x10 = none ∧
   (handOf (setHand open6 0x10 (some {})) 0x10).isSome = true ∧ open6.locket.queue.length < 16 := by decide +kernel

theorem test_ownAssign : nx (exec (.ownAssign 1 0x10 7) open6) (fun t => decide ((handOf t 0x10).isSome = true ∧
    (handOf t 0x10).map (·.target) = some 7 ∧ t.locket.queue = [{ num := 0x010, ticket := 1, core := 1, args := [0x10, 7, 1] }] ∧
    t.out.contains (.msg (.gate 1) [0x200, 1] []))) = true := by decide +kernel

theorem test_ownQuery_conditions : calls open6 1 = true ∧ 0x32 < 0x33 := by decide +kernel

theorem test_ownQuery : nx (exec (.ownQuery 1 0x32) open6) (fun t =>
    decide (t.out = [.msg (.gate 1) [0, ((0x32 + 65536 * 0xFFFC : Nat) : Int)] []])) = true := by decide +kernel

theorem test_camNotice_conditions : calls open6 2 = true ∧ 2 ^ 127 < 2 ^ 128 := by decide +kernel

theorem test_camNotice : nx (exec (.camNotice 2 7 (2 ^ 127)) open6) (fun t => decide (t.locket.camNotices = [(7, 2 ^ 127)] ∧
    t.out.length = 2)) = true := by decide +kernel

/-- A state or operand for the tests below. -/
def fullQueue : State := { open6 with locket := { open6.locket with queue := List.replicate 16 { num := 0x50, ticket := 10 } } }

theorem test_flashWrite_conditions : calls fullQueue 1 = true ∧ 16 ≤ fullQueue.locket.queue.length ∧ 0 + 4096 ≤ (flashRegion 3).2 ∧
    openRegion open6 0 4096 = true ∧ calls open6 1 = true := by decide +kernel

theorem test_flashWrite : nx (exec (.flashWrite 1 3 0 0 4096) open6) (fun t =>
    decide (t = ticketed open6 1 0x030 [3, 0, 0, 4096])) = true := by decide +kernel

theorem test_flashRead_conditions : calls open6 3 = true ∧ 0 + 4096 ≤ (flashRegion 0).2 ∧ openRegion open6 0 4096 = true := by decide +kernel

theorem test_flashRead : nx (exec (.flashRead 3 4 0 0 4096) open6) (fun t => decide (t = gateReply (flushL1 open6 3) 3 4 0)) = true :=
    by decide +kernel

theorem test_imageVerify_conditions : calls open6 3 = true ∧ open6.locket.queue.length < 16 := by decide +kernel

theorem test_imageVerify : nx (exec (.imageVerify 3 2 1) open6) (fun t => decide (t = ticketed open6 3 0x032 [2, 1])) = true := by decide +kernel

theorem test_signet_conditions : calls open6 3 = true ∧ openRange open6 0 480 = true ∧ openRange open6 (2 ^ 40) 480 = false := by decide +kernel

theorem test_signet : nx (exec (.signet 3 0 512) open6) (fun t => decide (t = ticketed open6 3 0x040 [0, 512])) = true := by decide +kernel

theorem test_cert_conditions : calls open6 3 = true ∧ openRange open6 0 480 = true ∧ openRange open6 (2 ^ 40) 480 = false := by decide +kernel

theorem test_cert : nx (exec (.cert 3 0 512) open6) (fun t => decide (t = ticketed open6 3 0x041 [0, 512])) = true := by decide +kernel

theorem test_debugUnlock_conditions : calls open6 3 = true ∧ openRange open6 0 144 = true ∧ openRange open6 (2 ^ 40) 144 = false := by decide +kernel

theorem test_debugUnlock : nx (exec (.debugUnlock 3 64) open6) (fun t => decide (t = ticketed open6 3 0x050 [64])) = true := by decide +kernel

theorem test_debugLock_conditions : calls open6 3 = true ∧ (15 : Nat) < 16 := by decide +kernel

theorem test_debugLock : nx (exec (.debugLock 3 15) open6) (fun t => decide (t = ticketed open6 3 0x051 [15])) = true := by decide +kernel

theorem test_debugKey_conditions : calls open6 3 = true ∧ openRange open6 0 48 = true ∧ openRange open6 (2 ^ 40) 48 = false := by decide +kernel

theorem test_debugKey : nx (exec (.debugKey 3 64) open6) (fun t => decide (t = ticketed open6 3 0x052 [64])) = true := by decide +kernel

/-- A state or operand for the tests below. -/
def calling (num : Nat) (args : List Nat) :
    State := { open6 with locket := { open6.locket with queue := [{ num := num, ticket := 7, args := args }] } }

theorem test_lktDone_conditions : (calling 0x051 [15]).locket.queue = [{ num := 0x051, ticket := 7, args := [15] }] ∧
    lktState (calling 0x052 [64]) = 1 ∧ (calling 0x041 [64, 8]).locket.queue = [{ num := 0x041, ticket := 7, args := [64, 8] }] ∧
   pdOn (calling 0x052 [64]) 2 = true ∧ open6.locket.queue = [] := by decide +kernel

theorem test_lktDone : nx (exec .lktDone (wr (calling 0x051 [5]) E.dbg_DEBUG_OTP 0xFF)) (fun t => decide (rd t E.dbg_DEBUG_OTP = 0xCC ∧
    t.locket.results = [(7, 0, 0)] ∧ t.locket.queue = [])) = true := by decide +kernel

theorem test_lktDone2 : nx (exec .lktDone (calling 0x052 [64])) (fun t => decide (t.locket.debugKey = List.replicate 48 0 ∧
    t.locket.results = [(7, 0, 0)])) = true := by decide +kernel

/-- A state or operand for the tests below. -/
def handing : State := setHand (setCharm open6 5 (charm one 5)) 0x10 (some { target := 5 })

theorem test_handoverRelease_conditions : handOf handing 0x10 = some { target := 5 } ∧ cvBusy handing 0 = false ∧
    handOf handing 0x11 = none ∧ cvBusy (setCv handing 0 { running := some 0 }) 0 = true := by decide +kernel

theorem test_handoverRelease : nx (exec (.handoverRelease 0x10) handing) (fun t => decide ((handOf t 0x10).map (fun h =>
    (h.resetting, h.target)) = some (true, 5))) = true := by decide +kernel

/-- A state or operand for the tests below. -/
def granting (o : Nat) : State := setHand (setCharm open6 5 (charm one 5)) 0x1F (some { target := o, resetting := true })

theorem test_handoverGrant_conditions : handOf (granting 0xFFFE) 0x1F = some { target := 0xFFFE, resetting := true } ∧
    handOf handing 0x10 = some { target := 5 } ∧ handOf open6 0x10 = none := by decide +kernel

theorem test_handoverGrant : nx (exec (.handoverGrant 0x1F) (granting 0xFFFE)) (fun t => decide (handOf t 0x1F = none ∧
    rd t (E.cvu_OWNER 15) = 0xFFFE ∧ rd t E.lkt_HANDOVERS = 1 ∧ t.out.length = 1 ∧ cvOf t 15 = {})) = true := by decide +kernel

theorem test_handoverGrant2 : nx (exec (.handoverGrant 0x1F) (granting 5)) (fun t => decide (handOf t 0x1F = none ∧
    rd t (E.cvu_OWNER 15) = 5)) = true := by decide +kernel

/-- A render descriptor of 64 × 64 pixels without attachments. -/
def descBytes : List Byte := leBytes 64 (64 + 64 * 2 ^ 16 + 3 * 2 ^ 64 + 20 * 2 ^ 96 + 4 * 2 ^ 192 * 2 ^ 10 + 2 ^ 20 * 2 ^ 288)

/-- A state or operand for the tests below. -/
def described : State := putAt open6 0x1000 descBytes

theorem test_tctx_conditions : lktState described = 1 ∧ pdOn described 2 = true ∧ rctxOf described (trustedKey 3) = none ∧
    renderDescOk (leVal (physRd described 0x1000 64)) (renderDesc (leVal (physRd described 0x1000 64))) 1 = true ∧
    (renderDesc (leVal (physRd described 0x1000 64))).binShare ≤ 4 := by decide +kernel

theorem test_tctx : nx (exec (.tctx 3 true 0x1000) described) (fun t => decide ((rctxOf t (trustedKey 3)).map (·.width) = some 64 ∧
    t.out = [.msg .mailbox [0, 0] []])) = true := by decide +kernel

/-- A trusted context with the record of a submission of one draw of three vertices. -/
def drawable : State := setRctx (putAt (putAt open6 0x2000 (leBytes 112 (0x3000 + 2 ^ 32 + 16 * 2 ^ 96 + 3 * 2 ^ 128)))
  0x3000 (leBytes 32 (3 * 2 ^ 32 + 2 ^ 128))) (trustedKey 1) (some (renderDesc (leVal descBytes)))

theorem test_tsubmit_conditions : lktState drawable = 1 ∧ (match checkSubmit drawable (trustedKey 1) (renderDesc (leVal descBytes)) 0x2000 with | .accept b => decide (b.fence = 1) | _ => false) = true ∧
   checkSubmit drawable (trustedKey 1) (renderDesc (leVal descBytes)) 0x5000 = .code 4 ∧ rctxOf drawable (trustedKey 0) = none := by decide +kernel

theorem test_tsubmit : nx (exec (.tsubmit 1 0x2000) drawable) (fun t => decide ((rctxOf t (trustedKey 1)).map (fun x =>
    x.subs.length) = some 1 ∧ t.out.head? = some (.msg .mailbox [0, 1] []))) = true := by decide +kernel

theorem test_watchdogService_conditions : lktState open6 ≤ 1 ∧ 2 ≤ lktState (wr open6 E.lkt_LKT_STATE 2) := by decide +kernel

theorem test_lktRestart_conditions : lktState open6 = 1 ∧ rd open6 E.lkt_FAILED_SERIES + b2n (restartFailed open6) < 3 ∧
    pdOn open6 2 = true ∧ lktState (wrs open6 [(E.lkt_LKT_STATE, 2), (E.lkt_FAILED_SERIES, 2)]) = 2 ∧
   3 ≤ rd (wrs open6 [(E.lkt_LKT_STATE, 2), (E.lkt_FAILED_SERIES, 2)]) E.lkt_FAILED_SERIES + b2n (restartFailed (wrs open6 [(E.lkt_LKT_STATE, 2), (E.lkt_FAILED_SERIES, 2)])) ∧
       lktState (wr open6 E.lkt_LKT_STATE 3) = 3 := by decide +kernel

theorem test_lktRestart : nx (exec .lktRestart open6) (fun t => decide (lktState t = 2 ∧ rd t E.lkt_RESTARTS = 1 ∧
    t.field.lasting.contains (0x5050, 1) = true ∧ t.out.head? = some (.event false .lktRestart [1]))) = true := by decide +kernel

theorem test_lktRestart2 : nx (exec .lktRestart (wrs fullQueue [(E.lkt_LKT_STATE, 2), (E.lkt_FAILED_SERIES, 2)])) (fun t =>
    decide (lktState t = 3 ∧ rd t E.lkt_FAILED_SERIES = 3 ∧ t.locket.queue = [] ∧ t.boot.fault = true)) = true := by decide +kernel

theorem test_lktResumed_conditions : lktState (wr open6 E.lkt_LKT_STATE 2) = 2 ∧ lktState open6 ≠ 2 ∧ open6.boot.step ≠ 3 := by decide +kernel

theorem test_lktResumed : nx (exec .lktResumed (wr fullQueue E.lkt_LKT_STATE 2)) (fun t => decide (lktState t = 1 ∧
    t.locket.resumed = some 0 ∧ t.locket.queue = [] ∧ t.locket.results.head? = some (10, 0x204, 0))) = true := by decide +kernel

theorem test_failedSeriesReset_conditions : lktState open6 = 1 ∧ lktState State.reset ≠ 1 := by decide +kernel

/-- A response to a challenge waits; no masked enable's field (all 0) admits a key. -/
def responded :
    State := wrs { open6 with locket := { open6.locket with mask := 15, response := [1] } } [(E.dbg_UNLOCK_STATE, 2), (E.dbg_DEBUG_OTP, 0), (E.dbg_UNLOCK_FAILS, 7)]

theorem test_unlockVerified_conditions : rd responded E.dbg_UNLOCK_STATE = 2 ∧ lktState responded = 1 ∧ pdOn responded 2 = true ∧
    unlocks responded 15 (challengeBytes responded) [1] = false ∧ rd open6 E.dbg_UNLOCK_STATE ≠ 2 := by decide +kernel

theorem test_unlockVerified : nx (exec .unlockVerified responded) (fun t => decide (rd t E.dbg_UNLOCK_STATE = 5 ∧
    rd t E.dbg_UNLOCK_FAILS = 8)) = true := by decide +kernel

theorem test_signetReady_conditions : rd (wr open6 E.sig_SIGNET_STATE 1) E.sig_SIGNET_STATE = 1 ∧ lktState open6 = 1 ∧
    rd open6 E.sig_SIGNET_STATE ≠ 1 := by decide +kernel

theorem test_debugHaltRequest_conditions : bitOf (rd (wr open6 E.dbg_DEBUG_STATE 5) E.dbg_DEBUG_STATE) 0 = true ∧
    bitOf (rd (wr open6 E.dbg_DEBUG_STATE 5) E.dbg_DEBUG_STATE) 2 = true ∧
   open6.locket.halted.contains 4 = false ∧ bitOf (rd (wr open6 E.dbg_DEBUG_STATE 0) E.dbg_DEBUG_STATE) 0 = false ∧
       bitOf (rd (wr open6 E.dbg_DEBUG_STATE 0) E.dbg_DEBUG_STATE) 2 = false := by decide +kernel

theorem test_debugHaltRequest : nx (exec (.debugHaltRequest (.shading 15 3)) (wr open6 E.dbg_DEBUG_STATE 1)) (fun t =>
    decide ((hartOf (coreOf t 15) 3).halted = true)) = true := by decide +kernel

/-- RESET_N is low. -/
def tested : State := { open6 with boot := { open6.boot with resetN := true } }

theorem test_jtagExtest_conditions : tested.boot.resetN = true ∧ ({ open6 with boot := { open6.boot with resetN := false } } :
    State).boot.resetN = false := by decide +kernel

theorem test_jtagIdcode_conditions : open6.locket.tap.ir ≠ 2 := by decide +kernel

theorem test_jtagSamplePreload_conditions : open6.locket.tap.ir ≠ 2 := by decide +kernel

theorem test_jtagExtestPulse_conditions : tested.boot.resetN = true := by decide +kernel

theorem test_jtagExtestTrain_conditions : tested.boot.resetN = true := by decide +kernel

theorem test_jtagDtmcs_conditions : bitOf (2 ^ 16) 16 = true := by decide +kernel

/-- The debug module with hart 3 selected, halted or not. -/
def debugging (h : Bool) : State := { open6 with
  control := { open6.control with dm := { active := true, sel := 3, data := [(0, 5), (1, 6)] } },
  locket := { open6.locket with halted := if h then [3] else [] } }

theorem test_jtagDmi_conditions : fld 0 0 2 ≠ 1 ∧ fld 0 0 2 ≠ 2 ∧ bitOf (rd (wr open6 E.dbg_DEBUG_STATE 1) E.dbg_DEBUG_STATE) 0 = true ∧
    open6.locket.halted.contains 3 = false ∧ bitOf (rd open6 E.dbg_DEBUG_STATE) 0 = false ∧
    (debugging true).control.dm.active = true ∧ (debugging true).control.dm.cmderr = 0 ∧ (debugging true).control.dm.sel < 5 ∧
    (debugging true).locket.halted.contains 3 = true ∧ (debugging false).locket.halted.contains 3 = false := by decide +kernel

theorem test_jtagDmi : nx (exec (.jtagDmi (2 + 4 * (2 ^ 31 + 2 ^ 16 * 3 + 1) + 0x10 * 2 ^ 34)) (wr open6 E.dbg_DEBUG_STATE 1)) (fun t =>
    decide (t.locket.halted = [3] ∧ t.locket.tap.ir = 0x11)) = true := by decide +kernel

theorem test_jtagDmi2 : nx (exec (.jtagDmi (2 + 4 * (3 * 2 ^ 20 + 2 ^ 17 + 2 ^ 16 + 0x1005) + 0x17 * 2 ^ 34)) (debugging true)) (fun t =>
    decide ((cpuOf t 3).x = [(5, 5 + 6 * 2 ^ 32)])) = true := by decide +kernel

/-- A state or operand for the tests below. -/
def boxed :
    State := wr { open6 with locket := { open6.locket with open_ := true, tap := { mbox := List.replicate 92 3, mboxPos := 11 } } } E.dbg_UNLOCK_STATE 1

theorem test_jtagLoupeMbox_conditions : open6.locket.tap.mbox.length < 92 ∧ boxed.locket.tap.mbox.length = 92 ∧
    rd boxed E.dbg_UNLOCK_STATE = 1 ∧ boxed.locket.open_ = true := by decide +kernel

theorem test_jtagLoupeMbox : nx (exec (.jtagLoupeMbox 0x07070707) boxed) (fun t =>
    decide (t.locket.response = List.replicate 92 3 ++ List.replicate 4 7 ∧ rd t E.dbg_UNLOCK_STATE = 2 ∧ t.locket.tap.mbox = [])) = true :=
    by decide +kernel

theorem test_jtagBypass_conditions : [0, 1, 2, 3, 4, 0x10, 0x11, 0x18].contains (0x1F : BitVec 5).toNat = false := by decide +kernel

theorem test_powerOnReset_conditions : rd (wr open6 E.lkt_RESTARTS 9) E.lkt_RESTARTS ≠ odDefault E.lkt_RESTARTS := by decide +kernel

theorem test_powerOnReset : nx (exec .powerOnReset (wr open6 E.lkt_RESTARTS 9)) (fun t => decide (rd t E.lkt_RESTARTS = 0 ∧
    rd t E.glob_RESET_REASON = 1 ∧ t.boot = { heldAt := some 0 })) = true := by decide +kernel

/-- Held in reset since this instant, for a thermal trip. -/
def heldNow : State := wr { State.reset with boot := { heldAt := some 0 } } E.glob_RESET_REASON 0x25

theorem test_resetN_conditions : open6.boot.held = false ∧ heldNow.boot.held = true ∧ heldNow.boot.heldAt = some heldNow.time := by decide +kernel

theorem test_resetN :
    nx (exec .resetN (wrs open6 [(E.lkt_RESTARTS, 9), (E.hm_HOURS, 77), (E.slog_NEXT_SLOT, 2), (slotKey 0x2130 1, 3 * 2 ^ 64)])) (fun t =>
    decide (rd t E.lkt_RESTARTS = 0 ∧ rd t E.hm_HOURS = 77 ∧ rd t E.glob_RESET_REASON = 2 ∧ rd t (slotKey 0x2130 1) = 3 * 2 ^ 64 ∧
    t.boot.held = true ∧ t.boot.resetN = true)) = true := by decide +kernel

theorem test_escResetSequence_conditions : open6.boot.held = false ∧ ¬ ((0x52 : Byte) = 0x52 ∧ (0x45 : Byte) = 0x45 ∧ (0x54 :
    Byte) = 0x53) := by decide +kernel

theorem test_escResetSequence : nx (exec (.escResetSequence 0x52 0x45 0x53) open6) (fun t => decide (rd t E.glob_RESET_REASON = 3 ∧
    t.boot.held = true)) = true := by decide +kernel

theorem test_supplyReset_conditions : open6.boot.held = false ∧ 500 * 1000 < threshold open6 1 (rd open6 (E.sup_RESET 1)) ∧
    threshold open6 1 (rd open6 (E.sup_RESET 1)) ≤ 800 * 1000 := by decide +kernel

theorem test_supplyReset : nx (exec (.supplyReset 1 [500, 400]) open6) (fun t => decide (rd t E.glob_RESET_REASON = 0x11 ∧
    t.boot.supplyRail = some 1 ∧ rd t (slotKey 0x2130 1) = 2 ^ 64 * (3 + 256) + 2 ^ 96 * 400)) = true := by decide +kernel

theorem test_thermalTrip_conditions : open6.boot.held = false ∧ (1250 : Int) ≤ 1250 := by decide +kernel

theorem test_thermalTrip : nx (exec (.thermalTrip 11 1251) open6) (fun t => decide (rd t E.glob_RESET_REASON = 0x2B ∧
    rd t (slotKey 0x2130 1) = 2 ^ 64 * (6 + 256 * 11) + 2 ^ 96 * 1251)) = true := by decide +kernel

/-- A trial image of slot `i` is on trial at boot step 5. -/
def onTrial (i st : Nat) :
    State := setImg (wr { open6 with boot := { open6.boot with held := false, step := 5 } } E.lkt_LKT_STATE st) i { trial := true, valid := true }

theorem test_trialImageFail_conditions : (onTrial 2 1).boot.held = false ∧ (onTrial 2 1).boot.step = 5 ∧ lktState (onTrial 2 1) ≠ 3 ∧
    (imgOf (onTrial 2 1) (onTrial 2 1).flash.open_).trial = true ∧
    (onTrial 2 1).flash.open_ < (onTrial 2 1).flash.imgs.length ∧ lktState (onTrial 0 3) = 3 ∧
        (imgOf (onTrial 0 3) (onTrial 0 3).flash.trusted).trial = true ∧ 6 ≤ open6.boot.step := by decide +kernel

theorem test_trialImageFail : nx (exec .trialImageFail (onTrial 2 1)) (fun t => decide (rd t E.glob_RESET_REASON = 0x30 ∧
    (imgOf t 2).rejected = true)) = true := by decide +kernel

theorem test_trialImageFail2 : nx (exec .trialImageFail (onTrial 0 3)) (fun t => decide (rd t E.glob_RESET_REASON = 0x31 ∧
    (imgOf t 0).rejected = true)) = true := by decide +kernel

theorem test_jtagTapReset_conditions : ({ open6 with locket := { open6.locket with tap := { ir := 3 } } } : State).locket.tap ≠ {} :=
    by decide +kernel

/-- No trusted slot holds a valid image. -/
def imageless : State := { State.reset with flash := { State.reset.flash with imgs := [] } }

theorem test_bootStart_conditions : State.reset.boot.held = true ∧ bootSlot State.reset 2 = some 0 ∧ bootSlot imageless 2 = none ∧
    open6.boot.held = false ∧ open6.boot.step ≠ 5 := by decide +kernel

theorem test_bootStart2 : nx (exec .bootStart imageless) (fun t => decide (t.boot.failure = 1 ∧ t.boot.fault = true ∧ t.boot.step = 1 ∧
    t.boot.held = false)) = true := by decide +kernel

/-- DRAM is served; client 5 of guest 0 has one page at physical page 20,000. -/
def served : State := setGuest (wrs open6 [(E.mem_MEM_STATE, 2), (E.chan_STATE 0, 2), (E.guest_CARVE_PAGES 0, 1)]) 0 { table := [⟨0, 20000, 1⟩] }

/-- `served` with the line at 0x1000000 in CC2's data cache. -/
def caching : State := setCpu served 2 { l1d := [{ line := 0x40000, trusted := false, dirty := false, bytes := List.replicate 64 7 }] }

theorem test_dramReadRequest_conditions : memReady served = true ∧ byCore .plain = false ∧ (0x10000 - 64) % 64 + 64 ≤ 64 ∧
    (resolveReq served { leaf := .client 5, why := .plain, addr := 0xFFC0, len := 64 } false).1 = some (20000 * 65536 + 0xFFC0) ∧
    physical served (20000 * 65536 + 0xFFC0) 64 = true ∧ txRoom served (.client 5) (channelOf served (20000 * 65536 + 0xFFC0)).1 = true ∧
        resolveReq served { leaf := .client 5, why := .plain, addr := 0x10000, len := 64 } false = (none, 4, 3) ∧
    (resolveReq served { leaf := .head 0, why := .cameo, addr := 2 ^ 36, len := 64 } false).1 = some (2 ^ 36) ∧
        physical served (2 ^ 36) 64 = false ∧ memReady open6 = false ∧
    pdOn caching 2 = true ∧ caching.locket.halted.contains 2 = false ∧
        coreRead caching 2 false false (0x1000020 / 64) = some (caching, List.replicate 64 7) := by decide +kernel

theorem test_dramReadRequestCore : nx (exec (.dramReadRequest { leaf := .firmware, why := .core 2 false false, addr := 0x1000020, len := 4 }) caching)
    (fun t => decide (t.out = [.msg .fabric [0] [7, 7, 7, 7]] ∧ t.memc = caching.memc)) = true := by decide +kernel

theorem test_dramReadRequest : nx (exec (.dramReadRequest { leaf := .client 5, addr := 64, len := 32 }) served) (fun t =>
    decide (t.memc.txs.length = 1 ∧ rd t (E.guest_ACTIVE_LEAVES 0) = 1)) = true := by decide +kernel

theorem test_dramWriteRequest_conditions : memReady served = true ∧ byCore .plain = false ∧
    (resolveReq served { leaf := .client 5, why := .plain, addr := 0xFFFF, len := 1 } true).1 = some (20000 * 65536 + 0xFFFF) ∧
    physical served (20000 * 65536 + 0xFFFF) 1 = true ∧ txRoom served (.client 5) (channelOf served (20000 * 65536 + 0xFFFF)).1 = true ∧
        resolveReq served { leaf := .client 5, why := .plain, addr := 0x10000, len := 1 } true = (none, 4, 3) ∧
    (resolveReq served { leaf := .head 0, why := .cameo, addr := 2 ^ 36, len := 1 } true).1 = some (2 ^ 36) ∧ physical served (2 ^ 36) 1 = false ∧
    pdOn caching 2 = true ∧ caching.locket.halted.contains 2 = false ∧
        (coreWrite caching 2 false (0x1000020 / 64) (0x1000020 % 64) [1]).isSome = true := by decide +kernel

theorem test_dramWriteRequestCore :
    nx (exec (.dramWriteRequest { leaf := .firmware, why := .core 2 false false, addr := 0x1000020, len := 1 } [9]) caching)
    (fun t => decide ((cpuOf t 2).l1d.map (fun c => (c.dirty, slice c.bytes 31 3)) = [(true, [7, 9, 7])] ∧
        t.mem = caching.mem)) = true := by decide +kernel

theorem test_dramWriteRequest : nx (exec (.dramWriteRequest { leaf := .client 5, addr := 66, len := 9 } [7, 8]) served) (fun t =>
    decide (memRd t (20000 * 65536 + 67) = 8 ∧ dramByte t (20000 * 65536 + 67) = 0 ∧ t.memc.txs.length = 1)) = true := by decide +kernel

/-- One transaction of a leaf waits at channel 0 at a stage. -/
def waiting (l : Leaf) (st : Nat) (w : Bool) :
    State := { served with memc := { served.memc with txs := [{ id := 7, chan := 0, leaf := l, addr := 20000 * 65536, len := 64, write := w, data := if w then List.replicate 64 (some 9) else [], stage := st }] } }

theorem test_arbiterDecision_conditions : (levelOne (waiting (.client 5) 0 false) 0).map (·.id) = [7] ∧
    leafGuest (waiting (.client 5) 0 false) (.client 5) = some 0 ∧
    ((levelOne (waiting (.client 5) 1 false) 0).all (atLevelTwo (waiting (.client 5) 1 false))) = true ∧
   capped (waiting (.client 5) 1 false) 0 0 = false ∧ branchOf (waiting (.client 5) 1 false) (.client 5) = 0 ∧
       tget (fun _ => 0) served.ten.window 0 < 4096 ∧
   ((levelOne (waiting (.camera 2) 0 false) 0).all (atLevelTwo (waiting (.camera 2) 0 false))) = true ∧ branchOf served (.camera 2) ≥ 64 ∧
       leafClass (.camera 2) = 1 ∧ (levelOne (waiting (.client 5) 2 false) 0).length = 1 ∧
   slotFree (queued (waiting (.client 5) 2 false) 0) false 2 = true := by decide +kernel

theorem test_arbiterDecision : nx (exec (.arbiterDecision (.clients 0 0)) (waiting (.client 5) 0 false)) (fun t =>
    decide (t.memc.txs.map (·.stage) = [1])) = true := by decide +kernel

theorem test_arbiterDecision2 : nx (exec (.arbiterDecision (.guests 0 2)) (waiting (.client 5) 1 false)) (fun t =>
    decide (t.memc.txs.map (·.stage) = [2] ∧ tget (fun _ => 0) t.ten.window 0 = 1 ∧ tget (fun _ => 0) t.ten.grants 0 = 1)) = true :=
    by decide +kernel

/-- A state or operand for the tests below. -/
def windowFull : State := { served with ten := { served.ten with window := [(7, 4096)], grants := [(7 * 64 + 63, 9)] } }

theorem test_budgetWindowEnd_conditions : 4096 ≤ tget (fun _ => 0) windowFull.ten.window 7 ∧ tget (fun _ =>
    0) windowFull.ten.window 6 < 4096 := by decide +kernel

theorem test_budgetWindowEnd : nx (exec (.budgetWindowEnd 7) (wr windowFull (E.guest_BUDGET 63) 3)) (fun t => decide (tget (fun _ =>
    0) t.ten.window 7 = 0 ∧ tget (fun _ => 0) t.ten.grants (7 * 64 + 63) = 0 ∧ budgetOf t 7 63 = 48)) = true := by decide +kernel

/-- The transaction of `waiting` with its row open at channel 0. -/
def opened (w : Bool) : State := let s := waiting (.client 5) 3 w; setChan s 0 { rows := [(match s.memc.txs with | x :: _ => bankOf s x | [] => 0, (s.memc.txs.head?.map (rowOf s)))] }

theorem test_dramCommandSlot_conditions : chanActive (opened true) 0 = true ∧ noRefresh (opened true) 0 = true ∧
    ((opened true).memc.txs.all (fun x => columnReady (opened true) 0 x && x.write && decide (x.data.length = x.len))) = true ∧
   ((opened false).memc.txs.all (fun x => columnReady (opened false) 0 x && !x.write && decide (x.chan = 0))) = true ∧
       noRefresh (opened false) 0 = true ∧ (opened false).memc.txs.length = 1 ∧ inForce (opened false) E.mem_INLINE_ECC = 1 ∧
       chanActive open6 0 = false := by decide +kernel

theorem test_dramCommandSlot : nx (exec (.dramCommandSlot 0 .none 0) (opened true)) (fun t => decide (dramByte t (20000 * 65536 + 63) = 9 ∧
    dramByte t (20000 * 65536 + 64) = 0 ∧ t.memc.txs = [])) = true := by decide +kernel

theorem test_dramCommandSlot2 : nx (exec (.dramCommandSlot 0 .double 5) (opened false)) (fun t =>
    decide (t.out.head? = some (.msg .fabric [1, 7] []) ∧ t.memc.txs = [] ∧ rd t (E.chan_UNCORRECTED 0) = 1)) = true := by decide +kernel

theorem test_refreshAccrual_conditions : chanActive served 0 = true ∧ 1 < rankCount served + 1 ∧ rankCount served ≤ 2 ∧
    chanActive open6 0 = false := by decide +kernel

theorem test_refreshAccrual : nx (exec (.refreshAccrual 0 0) served) (fun t => decide ((rankOf (chanOf t 0) 0).owed = 16 ∧
    rd t (E.chan_OWED_MAX 0) = 16)) = true := by decide +kernel

/-- A state or operand for the tests below. -/
def ranked (f : Bool) : State := setChan served 0 { ranks := [(0, { first := f, mult := 2 })] }

theorem test_mr4Read_conditions : (rankOf (chanOf (ranked true) 0) 0).mult ≠ 4 ∧ (rankOf (chanOf (ranked true) 0) 0).first = true ∧
    0 < rankCount (ranked true) ∧ chanActive (ranked true) 0 = true ∧ (rankOf (chanOf (ranked false) 0) 0).mult = 2 ∧
   (rankOf (chanOf (ranked false) 0) 0).lower = 0 ∧ (rankOf (chanOf (ranked false) 0) 0).first = false ∧ pdOn (ranked true) 2 = true ∧
       chanActive open6 0 = false := by decide +kernel

theorem test_mr4Read : nx (exec (.mr4Read 0 0 4 false) (ranked true)) (fun t => decide ((rankOf (chanOf t 0) 0).mult = 4 ∧
    t.out.contains (.event false .refreshRate [0, 0, 4]) = true ∧ rd t (E.chan_RATE 0) = 4)) = true := by decide +kernel

theorem test_mr4Read2 : nx (exec (.mr4Read 0 0 1 true) (ranked false)) (fun t => decide ((rankOf (chanOf t 0) 0).lower = 1 ∧
    rd t (E.chan_RETRAINS 0) = 1)) = true := by decide +kernel

theorem test_powerDownEntry_conditions : chanActive served 0 = true ∧ 0 < rankCount served ∧ served.memc.txs.any (fun t =>
    t.chan == 0) = false ∧ chanActive open6 0 = false := by decide +kernel

theorem test_powerDownEntry : nx (exec (.powerDownEntry 0 0) (wr served (dkey 0x5000 2) 1)) (fun t => decide (chanState t 0 = 3 ∧
    (rankOf (chanOf t 0) 0).down = true)) = true := by decide +kernel

/-- Head 0 scans with 30 µs of line data. -/
def tolerant (n : Nat) : State := wrs served [(E.head_STATE 0, 2), (E.head_TOLERANCE 0, n)]

theorem test_memSrEnter_conditions : chanActive (tolerant 30) 0 = true ∧ chanWaits (tolerant 30) 0 = false ∧
    lowestTolerance (tolerant 30) = 30 ∧ pdOn (tolerant 30) 2 = true ∧ chanState open6 0 ≠ 4 ∧ chanActive open6 0 = false :=
    by decide +kernel

theorem test_memSrEnter : nx (exec (.memSrEnter 0) (tolerant 30)) (fun t => decide (chanState t 0 = 4 ∧ rd t (E.chan_SR_ENTRIES 0) = 1 ∧
    t.out.head? = some (.event false .memSrEnter [0]))) = true := by decide +kernel

theorem test_memSrExit_conditions : chanState (wr (tolerant 2) (E.chan_STATE 0) 4) 0 = 4 ∧
    lowestTolerance (wr (tolerant 2) (E.chan_STATE 0) 4) ≤ 2 ∧ chanWaits (wr (tolerant 3) (E.chan_STATE 0) 4) 0 = false ∧
    2 < lowestTolerance (wr (tolerant 3) (E.chan_STATE 0) 4) ∧ chanState served 0 = 2 := by decide +kernel

theorem test_memSrExit : nx (exec (.memSrExit 0) (wr (tolerant 2) (E.chan_STATE 0) 4)) (fun t => decide (chanState t 0 = 2 ∧
    t.out.head? = some (.event false .memSrExit [0]))) = true := by decide +kernel

theorem test_scrubPass_conditions : rd served E.mem_SCRUB_HOURS ≠ 0 ∧ memReady served = true ∧ memReady open6 = false := by decide +kernel

/-- A state or operand for the tests below. -/
def training : State := wr open6 E.mem_MEM_STATE 1

theorem test_trainDone_conditions : rd training E.mem_MEM_STATE = 1 ∧ training.boot.step ≠ 3 ∧ pdOn training 2 = true ∧
    (∀ c ∈ fitted training, bitOf 0 c = false) ∧
    (∃ c ∈ fitted training, bitOf 0x80 c = true) ∧ rd open6 E.mem_MEM_STATE ≠ 1 := by decide +kernel

theorem test_trainDone : nx (exec (.trainDone 0) training) (fun t => decide (rd t E.mem_MEM_STATE = 2 ∧ chanState t 7 = 2 ∧
    t.flash.training = some (trainKey training))) = true := by decide +kernel

theorem test_trainDone2 : nx (exec (.trainDone 0x80) training) (fun t => decide (rd t E.mem_MEM_STATE = 3 ∧ chanState t 7 = 6 ∧
    chanState t 0 = 2)) = true := by decide +kernel

/-- Every island runs. -/
def running : State := (List.range 22).foldl (fun t i => setIsland t i 3) open6

theorem test_linkBeat_conditions : hasLink 0 = true ∧ xingState running 0 = 0 ∧ trustedOnly running 0 false 7 .address = false ∧
    (halfAt (xingOf running 0) false).beats = [] ∧ xingState open6 0 = 5 ∧
    trustedOnly running 1 false 7 .address = true ∧ xingState running 1 = 0 ∧ hasLink 2 = false ∧
    (halfAt (xingOf (setXing running 0 { a := { beats := [4, 5] } }) 0) false).beats = [4, 5] := by decide +kernel

theorem test_linkBeat : nx (exec (.linkBeat 0 false 7 .address false true) running) (fun t =>
    decide (t.out = [.msg .fabric [0, 0, 0, 7] []])) = true := by decide +kernel

/-- `running` with IFS in RECOVER, so that crossing 0 is in request/acknowledge mode, and its first half as given. -/
def asking01 (h : Half) : State := setXing (setIsland running (sideIsland 0 false) 2) 0 { a := h }

theorem test_flagEvent_conditions : hasFlags 0 = true ∧ xingState running 0 = 0 ∧ 2 ≤ xingState open6 0 ∧ hasFlags 13 = false ∧
    xingState (asking01 {}) 0 = 1 ∧ flagsIdle (halfAt (xingOf (asking01 {}) 0) false) = true ∧
    xingState (asking01 { flagSince := some 0, events := 2 }) 0 = 1 ∧
        flagsIdle (halfAt (xingOf (asking01 { flagSince := some 0, events := 2 }) 0) false) = false ∧
    (halfAt (xingOf (asking01 { flagSince := some 0, events := 2 }) 0) false).events = 2 ∧
    (halfAt (xingOf (asking01 { flagSince := some 0 }) 0) false).events = 0 := by decide +kernel

theorem test_flagEvent : nx (exec (.flagEvent 0 true (.event 1)) running) (fun t => decide (t.out = [.msg .fabric [2, 0, 1, 1] []] ∧
    (xingOf t 0).b.level = 1)) = true := by decide +kernel

theorem test_flagEvent2 : nx (exec (.flagEvent 0 false (.event 1)) open6) (fun t => decide (t.out = [] ∧
    (xingOf t 0).a = { level := 1, events := 1 })) = true := by decide +kernel

/-- A state or operand for the tests below. -/
def holding (h : Half) : State := setXing running 8 { a := h }

theorem test_valueWrite_conditions : hasValues 8 = true ∧ xingState running 8 = 0 ∧ (halfAt (xingOf running 8) false).hold = none ∧
    (halfAt (xingOf (holding { hold := some 3, slot := some 4 }) 8) false).hold.isSome = true ∧ hasValues 3 = false := by decide +kernel

theorem test_valueWrite : nx (exec (.valueWrite 8 false 5) (holding { hold := some 3, slot := some 4 })) (fun t =>
    decide ((xingOf t 8).a = { hold := some 3, slot := some 5 } ∧ (xingOf t 8).coalesced = 1)) = true := by decide +kernel

theorem test_valueWrite2 : nx (exec (.valueWrite 8 true 5) (holding { hold := some 3, slot := some 4 })) (fun t =>
    decide ((xingOf t 8).b = { hold := some 5, holdSince := some 0 } ∧ (xingOf t 8).coalesced = 0)) = true := by decide +kernel

theorem test_valueCapture_conditions : xingState (holding { hold := some 3 }) 8 = 0 ∧
    (halfAt (xingOf (holding { hold := some 3 }) 8) false).hold = some 3 ∧
    (halfAt (xingOf (holding { hold := some 3, acked := true }) 8) false).acked = true := by decide +kernel

theorem test_valueCapture : nx (exec (.valueCapture 8 false) (holding { hold := some 3 })) (fun t =>
    decide ((xingOf t 8).a = { hold := some 3, seen := 3, acked := true })) = true := by decide +kernel

theorem test_valueAcknowledge_conditions :
    (halfAt (xingOf (holding { hold := some 3, slot := some 4, acked := true }) 8) false).acked = true ∧
    (halfAt (xingOf running 8) false).acked = false := by decide +kernel

theorem test_valueAcknowledge :
    nx (exec (.valueAcknowledge 8 false (some 9)) (holding { hold := some 3, slot := some 4, acked := true })) (fun t =>
    decide ((xingOf t 8).a = { hold := some 9, holdSince := some 0 } ∧ (xingOf t 8).coalesced = 1)) = true := by decide +kernel

theorem test_xingTimeout_conditions : (halfAt (xingOf (holding { beats := [4, 5], since := some 0 }) 8) false).since.isSome = true ∧
    xingState (holding { beats := [4, 5], since := some 0 }) 8 ≤ 2 ∧ pdOn running 2 = true ∧ rd running E.xlog_NEXT_SLOT ≤ 16 ∧
    3 ≤ xingState open6 8 := by decide +kernel

theorem test_xingTimeout : nx (exec (.xingTimeout 8 false) (holding { beats := [4, 5], since := some 0 })) (fun t =>
    decide ((xingOf t 8).state = 3 ∧ rd t E.xing_TIMEOUTS = 1 ∧ fld (rd t (slotKey 0x2042 1)) 64 12 = 8 + 2 ^ 8 ∧
    t.out.length = 3)) = true := by decide +kernel

/-- A state or operand for the tests below. -/
def stalled8 : State := setXing running 8 { state := 3, side := true }

theorem test_xingClockResumed_conditions : (xingOf stalled8 8).state = 3 ∧ islandState stalled8 (sideIsland 8 true) = 3 ∧
    (xingOf running 8).state ≠ 3 := by decide +kernel

theorem test_xingClockResumed : nx (exec (.xingClockResumed 8) stalled8) (fun t => decide ((xingOf t 8).state = 4 ∧
    islandState t (sideIsland 8 true) = 5)) = true := by decide +kernel

theorem test_islandResetRequest_conditions : resetRefused running 0 = true ∧ heldBlock running 0 = none ∧ pdOn running 2 = true ∧
    resetRefused running 13 = false ∧ heldBlock running 13 = none ∧ islandState running 13 ≠ 0 ∧ inTest running = false ∧
    running.power.gated.contains 13 = false := by decide +kernel

theorem test_islandResetRequest : nx (exec (.islandResetRequest 0 none) running) (fun t => decide (rd t E.xing_RESET_REFUSED = 1 ∧
    islandState t 0 = 3)) = true := by decide +kernel

theorem test_islandResetRequest2 : nx (exec (.islandResetRequest 13 none) running) (fun t => decide (islandState t 13 = 1 ∧
    (xingOf t 28).resets = 1)) = true := by decide +kernel

theorem test_xingNotice_conditions : (∀ i, i < 22 → islandState running i ≠ 0) ∧ sideIsland 37 false ≠ 2 ∧
    islandState running (sideIsland 37 false) ≠ 1 ∧ (xingOf running 37).state ≠ 4 ∧ inTest running = false ∧ running.power.gated = [] ∧
    resetClass 0 ≠ 1 := by decide +kernel

theorem test_xingNotice : nx (exec (.xingNotice 37 false) running) (fun t => decide ((xingOf t 37).state = 4 ∧ islandState t 21 = 1 ∧
    rd t E.xing_NOTICES = 1)) = true := by decide +kernel

/-- A state or operand for the tests below. -/
def rejoining : State := setXing (setXing running 37 { state := 4, side := true, a := { level := 1 } }) 3 { state := 4, side := true }

/-- A state or operand for the tests below. -/
def rejoining8 : State := setIsland (setXing running 8 { state := 4, side := true }) (sideIsland 8 true) 5

theorem test_xingRejoin_conditions : (xingOf rejoining 37).state = 4 ∧ (xingOf rejoining 37).side = true ∧ islandState rejoining 2 = 3 ∧
    (3, true) ∈ xingsOf 2 ∧ (xingOf rejoining 3).state = 4 ∧ resetClass 8 ≠ 1 ∧
    islandState rejoining8 (sideIsland 8 (xingOf rejoining8 8).side) = 5 ∧ inTest rejoining8 = false ∧ rejoining8.power.gated = [] ∧
    (xingOf running 8).state ≠ 4 := by decide +kernel

theorem test_xingRejoin : nx (exec (.xingRejoin 37) rejoining) (fun t => decide ((xingOf t 37).state = 0 ∧ t.out.length = 3)) = true :=
    by decide +kernel

theorem test_xingRejoin2 : nx (exec (.xingRejoin 8) rejoining8) (fun t => decide ((xingOf t 8).state = 0 ∧
    islandState t (sideIsland 8 true) = 3)) = true := by decide +kernel

theorem test_perstN_conditions : 6 ≤ running.boot.step ∧ islandState running 21 ≠ 1 ∧ islandState open6 21 = 0 := by decide +kernel

theorem test_perstN : nx (exec .perstN running) (fun t => decide ((xingOf t 37).state = 4 ∧ islandState t 21 = 1)) = true := by decide +kernel

theorem test_islandResetRelease_conditions : islandState (setIsland running 13 1) 13 = 1 ∧ pdOn running (islandDomain 13) = true ∧
    islandState running 13 ≠ 1 := by decide +kernel

theorem test_islandResetRelease : nx (exec (.islandResetRelease 13) (setIsland running 13 1)) (fun t =>
    decide (islandState t 13 = 2)) = true := by decide +kernel

theorem test_islandClockStable_conditions : islandState rejoining8 (sideIsland 8 true) = 5 ∧ islandState (setIsland rejoining 2 2) 2 = 2 ∧
    (37, true) ∈ xingsOf 2 ∧ (xingOf rejoining 37).state = 4 ∧ islandState running 2 ≠ 5 := by decide +kernel

theorem test_alStateRequest_conditions : open6.boot.held = false ∧ alRefusal open6 (alCode .safeop) = 0 ∧
    alRefusal open6 (alCode .op) = 0x0011 ∧ State.reset.boot.held = true := by decide +kernel

/-- A state or operand for the tests below. -/
def alHolding (b : Nat) : State := { open6 with field := { open6.field with alHeld := some b } }

theorem test_alStateConfirm_conditions : (alHolding 4).field.alHeld = some 4 ∧ (alHolding 4).field.al = 2 ∧ alRefusal (alHolding 4) 4 = 0 ∧
    pdSource (alHolding 1) = 0 ∧ open6.field.alHeld = none ∧
   ({ State.reset with field := { State.reset.field with alHeld := some 2 } } : State).boot.step < 6 := by decide +kernel

theorem test_alStateConfirm : nx (exec .alStateConfirm (alHolding 4)) (fun t => decide (t.field.al = 4 ∧ t.field.sm3 = open6.field.sm3 ∧
    t.out.head? = some (.msg .al [4, 0] []))) = true := by decide +kernel

/-- A state or operand for the tests below. -/
def atAl (n b : Nat) : State := { open6 with field := { open6.field with al := n, alHeld := some b } }

theorem test_alStateConfirm2_conditions : (atAl 4 8).field.al = 4 ∧ (atAl 4 8).field.alHeld = some 8 ∧ rd (atAl 4 8) E.hm_EPOCH_STATE ≠ 2 ∧
    pdSource (atAl 4 8) = 0 ∧
    rd (wr (atAl 4 8) E.hm_EPOCH_STATE 2) E.hm_EPOCH_STATE = 2 ∧ (atAl 8 1).field.al = 8 := by decide +kernel

theorem test_alStateConfirm2 : nx (exec .alStateConfirm (atAl 8 1)) (fun t => decide (t.field.al = 1 ∧
    t.field.lasting.contains (0x8780, 0) = true ∧ t.out.head? = some (.msg .al [1, 0] []))) = true := by decide +kernel

theorem test_sm2WatchdogExpiry_conditions : (atAl 8 1).field.al = 8 ∧ pdSource (atAl 8 1) = 0 ∧ open6.field.al ≠ 8 := by decide +kernel

theorem test_sm2WatchdogExpiry : nx (exec .sm2WatchdogExpiry (atAl 8 1)) (fun t => decide (t.field.al = 4 ∧
    t.out.head? = some (.msg .al [4, 0x001B] []) ∧ t.field.lasting = [(0x8780, 0)])) = true := by decide +kernel

theorem test_miiLinkChange_conditions : setAt open6.field.link 1 true = [false, true] := by decide +kernel

/-- A state or operand for the tests below. -/
def synced (a m : Nat) : State := { open6 with field := { open6.field with al := a, syncMode := m, buffers := [] } }

theorem test_sync0_conditions : (synced 4 2).field.syncMode = 2 ∧ (synced 4 2).field.al = 4 ∧ (synced 4 1).field.syncMode ≠ 2 := by decide +kernel

theorem test_sync0 : nx (exec (.sync0 5) (synced 4 2)) (fun t =>
    decide (t.field = { (synced 4 2).field with dcSync0 := true, sysTime := 5, sm3 := inputBytes t (ecatMap (synced 4 2) false) })) = true :=
    by decide +kernel

theorem test_sm2BufferComplete_conditions : (List.replicate (smLen (synced 8 0) 2) (0 : Byte)).length = smLen (synced 8 0) 2 ∧
    pdSource (synced 8 0) = 0 ∧ pdSource (wr (synced 8 0) E.comm_PD_SOURCE 1) ≠ 0 ∧ ([] : List Byte).length ≠ smLen (synced 8 0) 2 :=
    by decide +kernel

/-- A state or operand for the tests below. -/
def buffered : State := { synced 8 0 with field := { (synced 8 0).field with buffers := [(0, List.replicate (smLen (synced 8 0) 2) 0)] } }

theorem test_freeRunOutputTake_conditions : buffered.field.syncMode = 0 ∧ buffered.field.al = 8 ∧ buffered.field.buffers.length = 1 ∧
    pdSource buffered = 0 ∧ (synced 4 0).field.al = 4 ∧ open6.field.al ≠ 4 := by decide +kernel

theorem test_freeRunOutputTake : nx (exec .freeRunOutputTake buffered) (fun t => decide (t.field.buffers = [] ∧
    rd t E.comm_PD_CYCLES = 1)) = true := by decide +kernel

theorem test_alarmTimeout_conditions : open6.field.timedOut = false ∧ (alarmSafe open6 1).field.timedOut = true := by decide +kernel

theorem test_alarmTimeout : nx (exec .alarmTimeout (wrs open6 [(E.pdo_PD_STATUS, 1), (E.comm_ALARM_SAFE, 1)])) (fun t =>
    decide (rd t E.pdo_PD_STATUS = 0 ∧ rd t (E.pdo_ALARM_STATE 7) = 0xFFFFFFFF ∧ t.field.lasting = [(0x8780, 1)] ∧
    t.field.emcyQueue.map (fun m => (m.code, m.data % 256)) = [(0x8780, 1)])) = true := by decide +kernel

theorem test_sync0Stamp_conditions : (∀ h, h < 16 → rd open6 (E.head_LOCK_EN h) ≠ 1 ∨ rd open6 (E.head_LOCK_STATE h) ≠ 3) := by decide +kernel

theorem test_sync0Stamp : nx (exec (.sync0Stamp 9) open6) (fun t =>
    decide (t = { open6 with field := { open6.field with stamp := some 9, stampAt := 0 } })) = true := by decide +kernel

theorem test_siiAliasWrite_conditions : (5 : Nat) ≠ 4 := by decide +kernel

/-- Node `n` is in NMT state `st`; the source of process data is the node. -/
def node (n st : Nat) : State := setCan (wr open6 E.comm_PD_SOURCE (n + 1)) n { enabled := true, nodeId := 9, nmt := st }

theorem test_nmtStart_conditions : canAlive (canOf (node 1 127) 1) = true ∧ canAlive (canOf (node 1 127) 0) = false := by decide +kernel

theorem test_nmtStart : nx (exec (.nmtStart 1) (node 1 127)) (fun t => decide ((canOf t 1).nmt = 5)) = true := by decide +kernel

theorem test_nmtStop_conditions : canAlive (canOf (node 1 5) 1) = true ∧ (canOf (node 1 5) 1).nmt = 5 ∧ pdSource (node 1 5) = 2 ∧
    canAlive (canOf (node 1 5) 0) = false := by decide +kernel

theorem test_nmtStop : nx (exec (.nmtStop 1) (node 1 5)) (fun t => decide ((canOf t 1).nmt = 4 ∧ t.field.lasting = [(0x8780, 0)])) = true :=
    by decide +kernel

theorem test_nmtEnterPreop_conditions : canAlive (canOf (node 0 4) 0) = true ∧ canAlive (canOf (node 0 4) 1) = false := by decide +kernel

theorem test_nmtEnterPreop : nx (exec (.nmtEnterPreop 0) (node 0 5)) (fun t => decide ((canOf t 0).nmt = 127)) = true := by decide +kernel

theorem test_nmtResetNode_conditions : canAlive (canOf (wr (node 0 5) E.comm_CAN_ENABLE 1) 0) = true ∧
    canAlive (canOf (node 0 5) 1) = false := by decide +kernel

theorem test_nmtResetNode : nx (exec (.nmtResetNode 0) (wrs (node 0 5) [(E.comm_CAN_ENABLE, 1), (E.comm_CAN0_NODE_ID, 33)])) (fun t =>
    decide ((canOf t 0).nmt = 127 ∧ (canOf t 0).nodeId = 33 ∧ t.out = [.msg (.can 0) [0x700 + 33] [0]])) = true := by decide +kernel

theorem test_nmtResetComm_conditions : canAlive (canOf (wr (node 1 4) E.comm_CAN_ENABLE 2) 1) = true ∧
    canAlive (canOf (node 1 4) 0) = false := by decide +kernel

theorem test_nmtResetComm : nx (exec (.nmtResetComm 1) (wrs (node 1 4) [(E.comm_CAN_ENABLE, 0)])) (fun t => decide ((canOf t 1).nmt = 0 ∧
    (canOf t 1).enabled = false ∧ t.out = [])) = true := by decide +kernel

theorem test_heartbeat_conditions : canAlive (canOf (wr (node 1 4) E.pdoc_HEARTBEAT 100) 1) = true ∧
    rd (wr (node 1 4) E.pdoc_HEARTBEAT 100) E.pdoc_HEARTBEAT ≠ 0 ∧ canAlive (canOf (node 1 4) 0) = false := by decide +kernel

theorem test_canSync_conditions : (canOf (node 1 5) 1).nmt = 5 ∧ (canOf (node 1 5) 1).held = [] ∧ canAlive (canOf (node 1 5) 1) = true ∧
    (∀ t, t < 8 → 240 < rd (wrs (node 1 5) ((List.range 8).map (fun i => (E.tpdo_TYPE i, 254)))) (E.tpdo_TYPE t)) ∧
    canAlive (canOf (node 1 5) 0) = false := by decide +kernel

theorem test_canSync : nx (exec (.canSync 1) (wrs (node 1 5) ((List.range 8).map (fun i => (E.tpdo_TYPE i, 254))))) (fun t =>
    decide ((canOf t 1).syncs = 1)) = true := by decide +kernel

theorem test_rpdoReceive_conditions : canAlive (canOf (node 0 5) 0) = true ∧ bitOf (rd (node 0 5) (E.rpdo_COB_ID 0)) 31 = false ∧
    pdSource (node 0 5) = 1 ∧ ([] : List Byte).length < mapLen (pdoMap (node 0 5) 0x1600) ∧
   mapLen (pdoMap (node 0 5) 0x1600) ≤ (List.replicate 64 (0 : Byte)).length ∧ rd (wr (node 0 5) (E.rpdo_TYPE 0) 1) (E.rpdo_TYPE 0) ≤ 240 ∧
       240 < rd (wr (node 0 5) (E.rpdo_TYPE 0) 255) (E.rpdo_TYPE 0) ∧ pdSource (wr (node 0 5) E.comm_PD_SOURCE 0) ≠ 1 ∧
       canAlive (canOf (node 0 5) 1) = false := by decide +kernel

theorem test_rpdoReceive : nx (exec (.rpdoReceive 0 0 (List.replicate 64 0)) (wr (node 0 5) (E.rpdo_TYPE 0) 255)) (fun t =>
    decide (rd t E.comm_PD_CYCLES = 1)) = true := by decide +kernel

theorem test_tpdoTransmit_conditions : tpdoOpen (wr (node 0 5) (E.tpdo_TYPE 0) 255) 0 0 = true ∧
    0xFE ≤ rd (wr (node 0 5) (E.tpdo_TYPE 0) 255) (E.tpdo_TYPE 0) ∧ tget (fun _ =>
    none) (canOf (node 0 5) 0).sent 0 ≠ some (tpdoBytes (node 0 5) 0) ∧ tpdoOpen (node 0 5) 1 0 = false := by decide +kernel

theorem test_tpdoTransmit : nx (exec (.tpdoTransmit 0 0 false) (wr (node 0 5) (E.tpdo_TYPE 0) 255)) (fun t =>
    decide (t.out = [.msg (.pdo 1) [0x189] (tpdoBytes (node 0 5) 0)])) = true := by decide +kernel

theorem test_canBusOff_conditions : (canOf (node 0 5) 0).enabled = true ∧ (canOf (node 0 5) 1).enabled = false := by decide +kernel

theorem test_canBusOffRecovered_conditions : (canOf (setCan open6 0 { enabled := true, busOff := true }) 0).busOff = true ∧
    (canOf (node 0 5) 0).busOff = false := by decide +kernel

theorem test_canErrorPassive_conditions : (canOf (node 0 5) 0).enabled = true ∧ (canOf (node 0 5) 0).errPassive = false ∧
    (canOf (node 0 5) 1).enabled = false := by decide +kernel

theorem test_canErrorPassiveEnd_conditions : (canOf (setCan open6 0 { enabled := true, errPassive := true }) 0).errPassive = true ∧
    (canOf (node 0 5) 0).errPassive = false := by decide +kernel

theorem test_canOverrun_conditions : (canOf (node 0 5) 0).enabled = true ∧ (canOf (node 0 5) 1).enabled = false := by decide +kernel

/-- A state or operand for the tests below. -/
def emcyWaits (m : Emcy) : State := { wr (node 0 5) (E.err_ERROR_HISTORY 14) 0x1234 with field := { (node 0 5).field with emcyQueue := [m] } }

theorem test_emcySend_conditions : emcyPaths (emcyWaits { code := 0x3201, data := 1 }) = [1] ∧
    emcyDue (emcyWaits { code := 0x3201, data := 1 }) (emcyWaits { code := 0x3201, data := 1 }).field.emcyQueue = [{ code := 0x3201, data := 1 }] ∧
    emcyPaths (node 0 5) ≠ [] ∧ emcyDue (node 0 5) (node 0 5).field.emcyQueue = [] ∧ emcyPaths open6 = [] := by decide +kernel

theorem test_emcySend : nx (exec .emcySend (emcyWaits { code := 0x3201, data := 1 })) (fun t => decide (t.field.emcyQueue = [] ∧
    rd t (E.err_ERROR_HISTORY 0) = 0x3201 + 65536 ∧ rd t (E.err_ERROR_HISTORY 15) = 0x1234 ∧ rd t E.err_ERROR_COUNT = 1 ∧
    t.out = [.msg (.emcy 1) [0x3201, 0, 0x89] (leBytes 5 1)])) = true := by decide +kernel

theorem test_foeWriteDict_conditions : open6.field.al = 2 ∧ 6 ≤ open6.boot.step ∧ pdOn open6 2 = true ∧ open6.power.sleep = 0 ∧
    open6.dict.imageRun = none ∧ (atAl 3 1).field.al = 3 ∧ (atAl 1 1).field.al = 1 := by decide +kernel

theorem test_foeWriteDict : nx (exec (.foeWriteDict true 0 [1, 2, 3]) open6) (fun t => decide (t.dict.image = [1, 2, 3] ∧
    t.out = [.msg .foe [0] []])) = true := by decide +kernel

theorem test_foeReadStored_conditions : open6.field.al = 2 ∧ newestStored open6 = none ∧
    (newestStored { open6 with flash := { open6.flash with stored := [some { count := 3 }, none] } }) = some (0, { count := 3 }) :=
    by decide +kernel

theorem test_foeReadHallmark_conditions : open6.field.al ≠ 1 ∧ open6.field.al ≠ 3 := by decide +kernel

/-- A state or operand for the tests below. -/
def failed1 : State := { atAl 3 1 with boot := { open6.boot with failure := 1 } }

theorem test_foeWriteOpenImage_conditions : (atAl 3 1).field.al = 3 ∧ (atAl 3 1).boot.failure ≠ 1 ∧ (atAl 3 1).field.foeImage = none ∧
    inactiveSlot (atAl 3 1) 1 = 3 ∧ 3 < (atAl 3 1).flash.imgs.length ∧ failed1.boot.failure = 1 ∧ open6.field.al ≠ 3 := by decide +kernel

theorem test_foeWriteOpenImage : nx (exec (.foeWriteOpenImage 0 [1, 2]) (atAl 3 1)) (fun t => decide (imgOf t 3 = { bytes := [1, 2] } ∧
    t.field.foeImage = some { kind := 1, slot := 3 })) = true := by decide +kernel

theorem test_foeWriteTrustedImage_conditions : failed1.field.al = 3 ∧ failed1.field.foeImage = none ∧ inactiveSlot failed1 2 = 1 ∧
    1 < failed1.flash.imgs.length ∧ open6.field.al ≠ 3 := by decide +kernel

theorem test_foeWriteTrustedImage : nx (exec (.foeWriteTrustedImage 0 [1, 2]) failed1) (fun t => decide (imgOf t 1 = { bytes := [1, 2] } ∧
    t.field.foeImage = some { kind := 2, slot := 1 })) = true := by decide +kernel

/-- A state or operand for the tests below. -/
def uploading (k n : Nat) : State := { failed1 with field := { failed1.field with foeImage := some { kind := k, slot := n } } }

theorem test_foeBusy_conditions : (uploading 2 1).field.foeImage.isSome = true ∧ open6.field.foeImage = none ∧ open6.dict.storing = none :=
    by decide +kernel

theorem test_firmwareVerified_conditions : (uploading 2 1).field.foeImage = some { kind := 2, slot := 1 } ∧
    1 < (uploading 2 1).flash.imgs.length ∧ (imgOf (uploading 2 1) 1).valid = false ∧ open6.field.foeImage = none := by decide +kernel

/-- Client 5 has a page of memory and contexts with ended work. -/
def paged : State := setGuest (wr open6 (E.guest_CARVE_PAGES 0) 1) 0 { table := [⟨0, 20000, 1⟩] }

/-- A state or operand for the tests below. -/
def endedWork :
    State := setCctx (setRctx paged 5 (some { fenceAddr := 0x100, subs := [{ fence := 7, ended := some (1, 3) }, { fence := 8 }] })) 5 (some { fenceAddr := 0x200, disps := [{ fence := 9, ended := some (0, 0) }] })

theorem test_fenceSignal_conditions : (rctxOf endedWork 5).isSome = true ∧ endedWork.compose.groups = [] ∧ pdOn endedWork 2 = true ∧
    ctxIn endedWork 5 0x100 16 = true ∧
   (cctxOf endedWork 5).map (fun x => x.disps.map (·.ended)) = some [some (0, 0)] ∧ ctxIn endedWork 5 0x200 16 = true ∧
       rctxOf open6 5 = none ∧ cctxOf open6 5 = none := by decide +kernel

theorem test_fenceSignal : nx (exec (.fenceSignal 5 .render) endedWork) (fun t => decide ((rctxOf t 5).map (fun x =>
    (x.value, x.status, x.faultKind, x.subs.length)) = some (7, 1, 3, 1) ∧ (claspOf t 5).event = 2 ∧ winWord t 5 0x100 = 7 ∧
    winWord t 5 0x104 = 0x301)) = true := by decide +kernel

theorem test_fenceSignal2 : nx (exec (.fenceSignal 5 .compute) endedWork) (fun t => decide ((cctxOf t 5).map (fun x =>
    (x.value, x.status, x.disps.length)) = some (9, 0, 0) ∧ (claspOf t 5).event = 4)) = true := by decide +kernel

/-- A state or operand for the tests below. -/
def leavingWork :
    State := setCctx (setRctx paged 5 (some { fenceAddr := 0x100, leaving := 1, subs := [{ fence := 7 }, { fence := 8 }] })) 5 (some { fenceAddr := 0x200, leaving := 2, disps := [{ fence := 9 }] })

theorem test_contextRemoved_conditions : (rctxOf leavingWork 5).map (·.leaving) = some 1 ∧ renderStarted leavingWork 5 = false ∧
    (cctxOf leavingWork 5).map (·.leaving) = some 2 ∧ computeStarted leavingWork 5 = false ∧
    (rctxOf endedWork 5).map (·.leaving) = some 0 := by decide +kernel

theorem test_contextRemoved : nx (exec (.contextRemoved 5 .render) leavingWork) (fun t => decide (rctxOf t 5 = none ∧
    winWord t 5 0x100 = 8 ∧ winWord t 5 0x104 = 3)) = true := by decide +kernel

/-- A FLIP of facet 3 of head 2 to a buffer of pitch 4, waiting for render fence 9. -/
def flipAsk (addr : Nat) : Taken := { op := 0x3001, len := 11, args := [2 + 16 * 3, 9, addr, 0, 4, 65536, 0, 0, 0, 65536, 0] }

/-- Facet 3 of head 2 is enabled with a source of 16 × 16 pixels. -/
def canFlip : State := wrs paged [(E.facet_ENABLE 2 3, 1), (E.facet_SRC_W 2 3, 16), (E.facet_SRC_H 2 3, 16), (E.facet_FORMAT 2 3, 1)]

theorem test_flip_conditions : asks (asking canFlip (flipAsk 0x1000)) 5 0x3001 11 (flipAsk 0x1000) = true ∧
    (flipEntryOf (flipWord (flipAsk 0x1000))).1.addr = 0x1000 ∧
    checkFlip (asking canFlip (flipAsk 0x1000)) 5 [flipEntryOf (flipWord (flipAsk 0x1000))] = .good ∧ canFlip.compose.groups = [] ∧
        unsignalled canFlip 5 [(flipEntryOf (flipWord (flipAsk 0x1000))).1] = true ∧
    checkFlip (asking canFlip (flipAsk 1)) 5 [flipEntryOf (flipWord (flipAsk 1))] = .code 0x0103 ∧
        checkFlip (asking canFlip (flipAsk 0x10000)) 5 [flipEntryOf (flipWord (flipAsk 0x10000))] = .outside 0x10000 ∧
    checkFlip (setCharm canFlip 5 0) 5 [flipEntryOf (flipWord (flipAsk 0))] = .noRight := by decide +kernel

theorem test_flip : nx (exec (.flip 5) (asking canFlip (flipAsk 0x1000))) (fun t => decide (t.compose.groups.map (fun g =>
    (g.client, g.gen, g.entries.map (·.addr))) = [(5, 1, [0x1000])] ∧ rd t (E.facet_HOLDER 2 3) = 5 ∧ nextGen t 5 = 2)) = true :=
    by decide +kernel

/-- A group record of one entry at window address 0x200. -/
def grouped :
    State := asking (putAt canFlip (20000 * 65536 + 0x200) (leBytes 4 1 ++ leBytes 12 0 ++ leBytes 48 (flipWord (flipAsk 0x1000)))) { op := 0x3002, len := 1, args := [0x200] }

theorem test_flipGroup_conditions : asks grouped 5 0x3002 1 { op := 0x3002, len := 1, args := [0x200] } = true ∧
    inWindow grouped 5 0x200 16 = true ∧ winWord grouped 5 0x200 = 1 ∧ inWindow grouped 5 0x200 64 = true ∧
    asks (asking canFlip { op := 0x3002, len := 1, args := [0x201] }) 5 0x3002 1 { op := 0x3002, len := 1, args := [0x201] } = true ∧
        inWindow canFlip 5 0x10000 16 = false ∧ winWord canFlip 5 0x200 = 0 := by decide +kernel

theorem test_flipGroup : nx (exec (.flipGroup 5) grouped) (fun t => decide (t.compose.groups.map (fun g =>
    (g.client, g.gen, g.record, g.entries.map (·.addr))) = [(5, 1, some 0x200, [0x1000])])) = true := by decide +kernel

/-- A state or operand for the tests below. -/
def moving (a : Nat) : Taken := { op := 0x3003, len := 6, args := [a, 0, 0, 0, a, 0] }

theorem test_motion_conditions : asks (asking open6 (moving 65536)) 5 0x3003 6 (moving 65536) = true ∧
    xformDet ((List.range 6).map (fun i => toInt 32 (argOf (moving 65536) (2 + i)))) ≠ 0 ∧
    xformDet ((List.range 6).map (fun i => toInt 32 (argOf (moving 0) (2 + i)))) = 0 := by decide +kernel

theorem test_motion : nx (exec (.motion 5) (asking open6 (moving 0xFFFF0000))) (fun t => decide (tget (fun _ =>
    none) t.compose.motion 5 = some [-65536, 0, 0, 0, -65536, 0])) = true := by decide +kernel

/-- A state or operand for the tests below. -/
def releasing (a : Nat) : Taken := { op := 0x3004, len := 1, args := [a] }

theorem test_release_conditions : asks (asking open6 (releasing 127)) 5 0x3004 1 (releasing 127) = true ∧ headRight open6 5 15 = true ∧
    facetRight open6 5 15 7 = true ∧ rd (wr open6 (E.facet_HOLDER 15 7) 5) (E.facet_HOLDER 15 7) = 5 ∧ rd open6 (E.facet_HOLDER 15 7) ≠ 5 ∧
    headRight (setCharm open6 5 0) 5 15 = false := by decide +kernel

theorem test_release : nx (exec (.release 5) (asking (wr open6 (E.facet_HOLDER 15 7) 5) (releasing 127))) (fun t =>
    decide (rd t (E.facet_HOLDER 15 7) = 0xFFFF ∧ (claspOf t 5).taken = some { releasing 127 with answer := some {} })) = true :=
    by decide +kernel

theorem test_flipStatus_conditions :
    asks (asking open6 { op := 0x3005, len := 1, args := [0x21] }) 5 0x3005 1 { op := 0x3005, len := 1, args := [0x21] } = true ∧
    headRight open6 5 1 = true ∧ facetRight open6 5 1 2 = true := by decide +kernel

/-- A state or operand for the tests below. -/
def wbAsk (h : Nat) : Taken := { op := 0x9001, len := 7, args := [h, 0, 0x1000, 1, 1, 0x8000, 2] }

/-- Head 3 is 16 × 16 pixels. -/
def tiny : State := wrs paged [(E.head_H_ACTIVE 3, 16), (E.head_V_ACTIVE 3, 16)]

theorem test_wbStart_conditions : asks (asking tiny (wbAsk 3)) 5 0x9001 7 (wbAsk 3) = true ∧ 4 * rd tiny (E.head_H_ACTIVE 3) ≤ 64 ∧
    headRight tiny 5 3 = true ∧ firstOutside tiny 5 [(0, wbBytes 1 1 16 16), (0x1000, wbBytes 1 1 16 16), (0x8000, 16)] = none ∧
    (headOf tiny 3).wb = none ∧ headFetch tiny (rd tiny) 3 + 4 * activePixels (rd tiny) 3 ≤ 16 * activePixels (rd tiny) 3 ∧
        asks (asking tiny (wbAsk 16)) 5 0x9001 7 (wbAsk 16) = true := by decide +kernel

theorem test_wbStart : nx (exec (.wbStart 5) (asking tiny (wbAsk 3))) (fun t =>
    decide ((headOf t 3).wb = some { client := 5, buf0 := 0, buf1 := 0x1000, pitch := 1, fmt := 1, status := 0x8000, frames := 2 })) = true :=
    by decide +kernel

/-- A state or operand for the tests below. -/
def writing (w : WbRec) : State := asking (setHead tiny 3 { wb := some w }) { op := 0x9002, len := 1, args := [3] }

theorem test_wbStop_conditions : asks (writing { client := 5 }) 5 0x9002 1 { op := 0x9002, len := 1, args := [3] } = true ∧
    headRight (writing { client := 5 }) 5 3 = true ∧
    (headOf (writing { client := 5, started := true }) 3).wb = some { client := 5, started := true } ∧ (headOf open6 3).wb = none :=
    by decide +kernel

theorem test_wbStop : nx (exec (.wbStop 5) (writing { client := 5 })) (fun t => decide ((headOf t 3).wb = none ∧
    (claspOf t 5).taken = some { op := 0x9002, len := 1, args := [3], answer := some {} })) = true := by decide +kernel

theorem test_wbFrame_conditions :
    (headOf (writing { client := 5, full := true, frames := 2 }) 3).wb = some { client := 5, full := true, frames := 2 } ∧
    pdOn (writing {}) 2 = true ∧ (headOf open6 3).wb = none := by decide +kernel

theorem test_wbFrame : nx (exec (.wbFrame 3) (writing { client := 5, full := true, frames := 2, status := 0x8000 })) (fun t =>
    decide ((headOf t 3).wb = some { client := 5, frames := 2, status := 0x8000, count := 1 } ∧ (claspOf t 5).event = 512 ∧
    winWord t 5 0x8000 = 1 ∧ rd t (E.head_WB_FRAMES 3) = 1)) = true := by decide +kernel

theorem test_wbFrame2 : nx (exec (.wbFrame 3) (writing { client := 5, full := true, frames := 1 })) (fun t =>
    decide ((headOf t 3).wb = none)) = true := by decide +kernel

/-- Client 5 has a window of 24 pages, two of them backed of memory. -/
def paged2 :
    State := setCharm (setGuest (wr open6 (E.guest_CARVE_PAGES 0) 24) 0 { table := [⟨0, 20000, 1⟩, ⟨1, 20001, 1⟩] }) 5 (charm one 5 + 2 ^ 6 + 23 * 2 ^ 224)

/-- A state or operand for the tests below. -/
def shut : State := setCharm open6 5 0

/-- A state or operand for the tests below. -/
def winAt (s : State) (a : Nat) : Nat := (winAddr s 5 a).getD 0

/-- A render descriptor of 64 × 64 pixels without attachments: level `l`, bin share `b`, fence address `f`. -/
def descWith (l b f : Nat) : List Byte := leBytes 64 (64 + 64 * 2 ^ 16 + l * 2 ^ 48 + b * 2 ^ 64 + 20 * 2 ^ 96 + 0x400 * 2 ^ 192 + f * 2 ^ 224)

/-- A state or operand for the tests below. -/
def creating (l b f : Nat) : State := asking (putAt paged2 (winAt paged2 0x100) (descWith l b f)) { op := 0x1001, len := 1, args := [0x100] }

/-- A state or operand for the tests below. -/
def makeQ : Taken := { op := 0x1001, len := 1, args := [0x100] }

theorem test_ctxCreate_conditions : asks (creating 1 3 0x200) 5 0x1001 1 makeQ = true ∧ rctxOf (creating 1 3 0x200) 5 = none ∧
    inWindow (creating 1 3 0x200) 5 0x100 64 = true ∧
   renderDescOk (descAt (creating 1 3 0x200) 5 0x100) (renderDesc (descAt (creating 1 3 0x200) 5 0x100)) 3 = true ∧
       charmClass (creating 1 3 0x200) 5 = 1 ∧
   firstOutside (creating 1 3 0x200) 5 (renderDescAddrs (renderDesc (descAt (creating 1 3 0x200) 5 0x100))) = none ∧
       (freeUnits (creating 1 3 0x200)).length = 120 ∧
   renderDescOk (descAt (creating 1 2 0x200) 5 0x100) (renderDesc (descAt (creating 1 2 0x200) 5 0x100)) 3 = false ∧
   firstOutside (creating 1 3 0xF0000000) 5 (renderDescAddrs (renderDesc (descAt (creating 1 3 0xF0000000) 5 0x100))) = some 0xF0000000 ∧
   asks (asking shut makeQ) 5 0x1001 1 makeQ = true ∧ inWindow (asking shut makeQ) 5 0x100 64 = false := by decide +kernel

/-- A state or operand for the tests below. -/
def crowded : State := setRctx (creating 1 3 0x200) 6 (some { binShare := 118, units := rangeFrom 8 118 })

/-- A state or operand for the tests below. -/
def childish : State := setCharm (creating 3 3 0x200) 5 (charm one 5)

theorem test_ctxCreate2_conditions : (freeUnits crowded).length = 2 ∧ rctxOf crowded 5 = none ∧ asks crowded 5 0x1001 1 makeQ = true ∧
    firstOutside crowded 5 (renderDescAddrs (renderDesc (descAt crowded 5 0x100))) = none ∧
   charmClass childish 5 = 0 ∧ (renderDesc (descAt childish 5 0x100)).level = 3 ∧ asks childish 5 0x1001 1 makeQ = true ∧
       renderDescOk (descAt childish 5 0x100) (renderDesc (descAt childish 5 0x100)) 3 = true := by decide +kernel

theorem test_ctxCreate : nx (exec (.ctxCreate 5) (creating 1 3 0x200)) (fun t => decide ((rctxOf t 5).map (fun x =>
    (x.width, x.height, x.binShare, x.level, x.tileBudget, x.fenceAddr)) = some (64, 64, 3, 1, 20, 0x200) ∧
    (rctxOf t 5).map (·.units) = some [8, 9, 10] ∧ ((claspOf t 5).taken.map (·.answer)) = some (some {}))) = true := by decide +kernel

/-- A state or operand for the tests below. -/
def withCtx (op : Nat) :
    State := setCctx (setRctx (asking paged2 { op := op }) 5 (some { value := 4, raised := 2, late := 1, subs := [{}] })) 5 (some { value := 6, savedCount := 3, disps := [{}, {}] })

theorem test_ctxDestroy_conditions : asks (withCtx 0x1002) 5 0x1002 0 { op := 0x1002 } = true ∧ (rctxOf (withCtx 0x1002) 5).isSome = true ∧
    rctxOf (asking open6 { op := 0x1002 }) 5 = none := by decide +kernel

/-- A state or operand for the tests below. -/
def subQ (a : Nat) : Taken := { op := 0x1003, len := 1, args := [a] }

/-- A state or operand for the tests below. -/
def submitting (x : RCtx) (a : Nat) :
    State := asking (setRctx (putAt (putAt paged2 (winAt paged2 0x2000) (leBytes 112 (0x3000 + 2 ^ 32 + 16 * 2 ^ 96 + 3 * 2 ^ 128)))
  (winAt paged2 0x3000) (leBytes 32 (3 * 2 ^ 32 + 2 ^ 128))) 5 (some x)) (subQ a)

theorem test_submit_conditions : asks (submitting { width := 64, height := 64 } 0x2000) 5 0x1003 1 (subQ 0x2000) = true ∧
   (match checkSubmit (submitting { width := 64, height := 64 } 0x2000) 5 { width := 64, height := 64 } 0x2000 with | .accept b => decide (b.fence = 1 ∧ b.invs = 1) | _ => false) = true ∧
   ctxIn (submitting { width := 64, height := 64 } 0x2000) 5 0 64 = true ∧
       ctxIn (submitting { width := 64, height := 64 } 0x2000) 5 0xF0000000 64 = false ∧
   checkSubmit (submitting { width := 64, height := 64 } 0x4000) 5 { width := 64, height := 64 } 0x4000 = .code 4 ∧
   checkSubmit (submitting { width := 64, height := 64 } 0xF0000000) 5 { width := 64, height := 64 } 0xF0000000 = .outside 0xF0000000 ∧
       (List.replicate 8 ({} : Machine.Sub)).length = 8 := by decide +kernel

theorem test_submit : nx (exec (.submit 5) (submitting { width := 64, height := 64, nextFence := 0xFFFFFFFF } 0x2000)) (fun t =>
    decide ((rctxOf t 5).map (fun x => (x.nextFence, x.subs.map (·.draws))) = some (1, [1]) ∧
    ((claspOf t 5).taken.map (·.answer)) = some (some { data := [0xFFFFFFFF] }))) = true := by decide +kernel

theorem test_submit2 : nx (exec (.submit 5) (submitting { width := 64, height := 64, statsAddr := 0xF0000000 } 0x2000)) (fun t =>
    renderFaulted t 5 1) = true := by decide +kernel

theorem test_query_conditions : asks (withCtx 0x1004) 5 0x1004 0 { op := 0x1004 } = true ∧ (rctxOf (withCtx 0x1004) 5).isSome = true ∧
    rctxOf (asking open6 { op := 0x1004 }) 5 = none := by decide +kernel

/-- A state or operand for the tests below. -/
def ccreating (f : Nat) :
    State := asking (putAt paged2 (winAt paged2 0x100) (leBytes 16 (1 + f * 2 ^ 32 + 0x10000 * 2 ^ 64))) { op := 0x2001, len := 1, args := [0x100] }

/-- A state or operand for the tests below. -/
def cmakeQ : Taken := { op := 0x2001, len := 1, args := [0x100] }

theorem test_cctxCreate_conditions : asks (ccreating 0x200) 5 0x2001 1 cmakeQ = true ∧ cctxOf (ccreating 0x200) 5 = none ∧
    inWindow (ccreating 0x200) 5 0x100 16 = true ∧ computeDescOk (ccreating 0x200) 5 0x100 = true ∧ charmClass (ccreating 0x200) 5 = 1 ∧
    firstOutside (ccreating 0x200) 5 [((computeDesc (ccreating 0x200) 5 0x100).fenceAddr, 16), ((computeDesc (ccreating 0x200) 5 0x100).saveAddr, 2 ^ 20)] = none ∧
        computeDescOk (ccreating 0x204) 5 0x100 = false ∧
    inWindow (asking shut cmakeQ) 5 0x100 16 = false := by decide +kernel

theorem test_cctxCreate : nx (exec (.cctxCreate 5) (ccreating 0x200)) (fun t =>
    decide (cctxOf t 5 = some { level := 1, fenceAddr := 0x200, saveAddr := 0x10000 })) = true := by decide +kernel

/-- A state or operand for the tests below. -/
def busyWg (s : State) : State := setCore s 3 { wg := some { ctx := 5, fence := 9 } }

theorem test_cctxDestroy_conditions : asks (busyWg (withCtx 0x2002)) 5 0x2002 0 { op := 0x2002 } = true ∧
    (cctxOf (busyWg (withCtx 0x2002)) 5).isSome = true ∧ (coreOf (busyWg (withCtx 0x2002)) 3).wg = some { ctx := 5, fence := 9 } ∧
    cctxOf (asking open6 { op := 0x2002 }) 5 = none := by decide +kernel

theorem test_cctxDestroy : nx (exec (.cctxDestroy 5) (busyWg (withCtx 0x2002))) (fun t => decide ((cctxOf t 5).map (·.leaving) = some 1 ∧
    (coreOf t 3).wg = some { ctx := 5, fence := 9, preempt := some 0 })) = true := by decide +kernel

/-- A state or operand for the tests below. -/
def dispQ (t : Nat) : Taken := { op := 0x2003, len := 6, args := [0x400, 0x500, 2, 3, 4, t] }

/-- A state or operand for the tests below. -/
def dispatching (t : Nat) : State := setCctx (asking paged2 (dispQ t)) 5 (some {})

theorem test_dispatch_conditions : asks (dispatching 50) 5 0x2003 6 (dispQ 50) = true ∧ cctxOf (dispatching 50) 5 = some {} ∧
    firstOutside (dispatching 50) 5 [(0x400, 4), (0x500, 1)] = none ∧ argOf (dispQ 50) 7 = 50 ∧ argOf (dispQ 51) 7 = 51 ∧
   asks (asking open6 (dispQ 1)) 5 0x2003 6 (dispQ 1) = true ∧ cctxOf (asking open6 (dispQ 1)) 5 = none ∧ (List.replicate 8 ({} :
       Disp)).length = 8 := by decide +kernel

theorem test_dispatch : nx (exec (.dispatch 5) (dispatching 50)) (fun t => decide ((cctxOf t 5).map (fun x =>
    (x.nextFence, x.disps.map wgTotal)) = some (2, [24]) ∧ ((claspOf t 5).taken.map (·.answer)) = some (some { data := [1] }))) = true :=
    by decide +kernel

theorem test_cquery_conditions : asks (withCtx 0x2004) 5 0x2004 0 { op := 0x2004 } = true ∧ (cctxOf (withCtx 0x2004) 5).isSome = true ∧
    cctxOf (asking open6 { op := 0x2004 }) 5 = none := by decide +kernel

/-- A submission of one draw in pass `ph`, whose tile-state table is block 8192. -/
def sub1 (ph : Nat) : Machine.Sub := { fence := 1, phase := ph, cmd := 0x3000, draws := 1, stride := 16, drawsBinned := 1, table := [8192] }

/-- A client's context of one tile with one such submission. -/
def oneTile (ph : Nat) :
    RCtx := { width := 64, height := 64, binShare := 3, units := [8, 9, 10], spill := 0x10000, spillSize := 0x4000, dsBase := 0x8000, dsCount := 2, tileBudget := 20, subs := [sub1 ph] }

/-- The same with that submission's tile handed out (1) or done (2). -/
def placed (ph p : Nat) : RCtx := { oneTile ph with subs := [{ sub1 ph with place := [(0, p)] }] }

/-- The tile-state entry with ISSUED, DONE and SAVED. -/
def tsv (issued done : Nat) (saved : Bool) : Nat := issued * 2 ^ 64 + done * 2 ^ 80 + b2n saved * 2 ^ 96

/-- A state or operand for the tests below. -/
def rend (x : RCtx) : State := setRctx paged2 5 (some x)

/-- `rend` with tile 0's entry in the table. -/
def rendT (x : RCtx) (v : Nat) :
    State := binSet { rend x with raster := { (rend x).raster with binUse := [(8192, some { ctx := 5, fence := 1 })] } } 8192 v

/-- A state or operand for the tests below. -/
def comp (d : Disp) : State := setCctx paged2 5 (some { disps := [d] })

/-- A state or operand for the tests below. -/
def wg1 : Disp := { fence := 4, entry := 0x100, arg := 0x77, nx := 2, ny := 1, nz := 1, maxTime := 5 }

/-- A context with one draw of three vertices, none started. -/
def unshaded : RCtx := { oneTile 0 with subs := [{ fence := 1, cmd := 0x3000, draws := 1, stride := 16, invs := 1 }] }

/-- A state or operand for the tests below. -/
def drawing :
    State := setRctx (putAt paged2 (winAt paged2 0x3000) (leBytes 32 (3 * 2 ^ 32 + 2 ^ 128 + 0x600 * 2 ^ 160 + 0x77 * 2 ^ 192))) 5 (some unshaded)

theorem test_corePickUnit_conditions : corePowered (rend (oneTile 2)) 15 = true ∧ pickFrom (rend (oneTile 2)) 15 6 = some (0, 2 * 5) ∧
    tileLevel (rend (oneTile 2)) 5 (oneTile 2) = some 0 ∧
   pickFrom (comp wg1) 3 6 = some (0, 2 * 5 + 1) ∧ runnableDisp { disps := [wg1] } = some wg1 ∧
       pickFrom (comp { wg1 with next := 2, saved := [{ num := 1 }] }) 3 6 = some (0, 2 * 5 + 1) ∧ (coreOf (comp wg1) 3).wg = none ∧
   runnableDisp { disps := [{ wg1 with next := 2, saved := [{ num := 1 }] }] } = some { wg1 with next := 2, saved := [{ num := 1 }] } ∧
       pickFrom paged2 0 6 = none ∧ wg1.saved = [] ∧ coreIdle (coreOf (comp wg1) 3) = true ∧
   (∀ h, h < 4 → hartFree (coreOf (comp wg1) 3) h = true) ∧ coreIdle (coreOf (setCore (comp wg1) 3 { slots := [(0, some {})] }) 3) = false ∧
       pickFrom (setCore (comp wg1) 3 { slots := [(0, some {})] }) 3 6 = some (0, 2 * 5 + 1) := by decide +kernel

theorem test_corePickUnit2_conditions : corePowered drawing 15 = true ∧ pickFrom drawing 15 6 = some (0, 2 * 5) ∧
    rctxOf drawing 5 = some unshaded ∧ tileLevel drawing 5 unshaded = none ∧ (List.range 4).find? (hartFree (coreOf drawing 15)) = some 0 ∧
   (frontSub unshaded).map (fun b => (drawsIn drawing 5 b, invAt drawing 5 b b.nextInv, indexOutside drawing 5 (drawRec drawing 5 b.cmd 0) 0)) = some (true, some (0, 0, 0), none) := by decide +kernel

theorem test_corePickUnit : nx (exec (.corePickUnit 15) (rend (oneTile 2))) (fun t => decide ((coreOf t 15).picked = some (0, 5))) = true :=
    by decide +kernel

theorem test_corePickUnit2 : nx (exec (.corePickUnit 3) (comp { wg1 with next := 1 })) (fun t =>
    decide ((coreOf t 3).wg = some { ctx := 5, fence := 4, num := 1 } ∧ (hartOf (coreOf t 3) 2).pc = 0x100 ∧ tget (fun _ =>
    0) (hartOf (coreOf t 3) 2).x 10 = 1)) = true := by decide +kernel

theorem test_corePickUnit3 : nx (exec (.corePickUnit 15) drawing) (fun t => decide ((hartOf (coreOf t 15) 0).pc = 0x600 ∧ tget (fun _ =>
    0) (hartOf (coreOf t 15) 0).v 0 = 7 ∧ tget (fun _ => 0) (hartOf (coreOf t 15) 0).v 18 = 2 ∧ (rctxOf t 5).map (fun x =>
    x.subs.map (fun b => (b.nextInv, b.vertexRunning))) = some [(1, [0])])) = true := by decide +kernel

theorem test_binningEnd_conditions : rctxOf (advance (rendT (oneTile 0) 0) 5) 5 = some (oneTile 0) ∧ frontSub (oneTile 0) = some (sub1 0) ∧
    (sub1 0).phase = 0 ∧ (sub1 0).draws ≤ (sub1 0).drawsBinned ∧ (sub1 0).table ≠ [] ∧
   frontSub (oneTile 1) = some (sub1 1) ∧ rctxOf (advance (rend (oneTile 1)) 5) 5 = some (oneTile 1) ∧ frontSub (oneTile 2) = none ∧
       rctxOf paged2 5 = none := by decide +kernel

theorem test_binningEnd : nx (exec (.binningEnd 5) (rendT (oneTile 0) 0)) (fun t => decide ((rctxOf t 5).map (fun x => x.subs.map (fun b =>
    (b.phase, placeOf b 0))) = some [(2, 0)])) = true := by decide +kernel

/-- A context whose next primitive found no room, its front end held by PD2 being off; before it the submissions of `pre`. -/
def fullFront (pre : List Machine.Sub) : RCtx := { oneTile 0 with subs := pre ++ [{ sub1 0 with fence := 2, full := 1 }] }

/-- A state or operand for the tests below. -/
def held2 (x : RCtx) : State := wr (rendT x 8193) (E.pd_STATE 2) 0

theorem test_partialStart_conditions : rctxOf (advance (held2 (fullFront [])) 5) 5 = some (fullFront []) ∧
    rctxOf (advance (held2 (fullFront [sub1 3])) 5) 5 = some (fullFront [sub1 3]) ∧
    rctxOf (advance (held2 (fullFront [sub1 2])) 5) 5 = some (fullFront [sub1 2]) ∧
   (sub1 2).ended = none ∧ tsHead (tileState (held2 (fullFront [])) (sub1 0) 0) = 8193 ∧ frontSub (oneTile 0) = some (sub1 0) ∧
       rctxOf (advance (rendT (oneTile 0) 0) 5) 5 = some (oneTile 0) ∧ (sub1 0).full = 0 := by decide +kernel

theorem test_partialStart : nx (exec (.partialStart 5) (held2 (fullFront []))) (fun t => decide ((rctxOf t 5).map (fun x =>
    (x.partials, x.subs.map (·.phase))) = some (1, [1]))) = true := by decide +kernel

theorem test_partialDone_conditions : frontSub (placed 1 2) = some { sub1 1 with place := [(0, 2)] } ∧
    passDone (placed 1 2) { sub1 1 with place := [(0, 2)] } = true ∧
   passDone (oneTile 1) (sub1 1) = false ∧ frontSub (oneTile 1) = some (sub1 1) ∧ pdOn (rend (oneTile 1)) 2 = true := by decide +kernel

theorem test_partialDone : nx (exec (.partialDone 5) (rendT (placed 1 2) 0)) (fun t => decide ((rctxOf t 5).map (fun x =>
    x.subs.map (·.phase)) = some [0] ∧ t.out.length = 1)) = true := by decide +kernel

/-- A state or operand for the tests below. -/
def pickedCore (x : RCtx) (v : Nat) : State := setCore (rendT x v) 2 { picked := some (0, 5) }

/-- A context whose RGBA8 attachment is loaded from a target outside the window. -/
def loading : RCtx := { oneTile 2 with cfmt := [1, 0, 0, 0], subs := [{ sub1 2 with att := [{ target := 0xF0000000, load := 1 }] }] }

theorem test_tileDispatch_conditions : rendering (oneTile 2) = some (sub1 2) ∧ nextTile (oneTile 2) (sub1 2) = some 0 ∧
    freeSlot (pickedCore (oneTile 2) (tsv 1 1 true)) (coreOf (pickedCore (oneTile 2) (tsv 1 1 true)) 2) (oneTile 2) = some 0 ∧
   corePowered (pickedCore (oneTile 2) (tsv 1 1 true)) 2 = true ∧
       tsSaved (tileState (pickedCore (oneTile 2) (tsv 1 1 true)) (sub1 2) 0) = true ∧
       tsSaved (tileState (pickedCore (oneTile 2) 0) (sub1 2) 0) = false ∧
       loadsIn (pickedCore (oneTile 2) 0) 5 (oneTile 2) (sub1 2) = true ∧
   freeSlot (pickedCore loading 0) (coreOf (pickedCore loading 0) 2) loading = some 0 ∧
       (rendering loading).map (fun b => (nextTile loading b, loadsIn (pickedCore loading 0) 5 loading b, tsSaved (tileState (pickedCore loading 0) b 0))) = some (some 0, false, false) ∧
   rendering (oneTile 0) = none := by decide +kernel

theorem test_tileDispatch : nx (exec (.tileDispatch 5 2) (pickedCore (oneTile 2) (tsv 1 1 true))) (fun t =>
    decide ((slotOf (coreOf t 2) 0) = some { ctx := 5, fence := 1, waitReload := true } ∧ (coreOf t 2).picked = none ∧
    tileState t (sub1 2) 0 = tsv 1 1 true + 2 * 2 ^ 104)) = true := by decide +kernel

theorem test_tileDispatch2 : nx (exec (.tileDispatch 5 2) (pickedCore loading 0)) (fun t => renderFaulted t 5 1) = true := by decide +kernel

/-- A state or operand for the tests below. -/
def slotted (w : Bool) (x : RCtx) (v : Nat) : State := setCore (rendT x v) 2 { slots := [(1, some { ctx := 5, fence := 1, waitReload := w })] }

/-- A state or operand for the tests below. -/
def coloured (ph : Nat) : RCtx := { oneTile ph with spill := 0xF0000000, cfmt := [1, 0, 0, 0] }

theorem test_tileReload_conditions :
    waitingSlot (slotted true (oneTile 2) (tsv 1 1 true)) 2 0 = some (1, { ctx := 5, fence := 1, waitReload := true }) ∧
    fenceSub (oneTile 2) 1 = some (sub1 2) ∧
   tsDone (tileState (slotted true (oneTile 2) (tsv 1 1 true)) (sub1 2) 0) = (tileToken (slotted true (oneTile 2) (tsv 1 1 true)) (sub1 2) 0).getD (tsIssued (tileState (slotted true (oneTile 2) (tsv 1 1 true)) (sub1 2) 0)) ∧
   tsDone (tileState (slotted true (oneTile 2) (tsv 1 0 true)) (sub1 2) 0) ≠ (tileToken (slotted true (oneTile 2) (tsv 1 0 true)) (sub1 2) 0).getD (tsIssued (tileState (slotted true (oneTile 2) (tsv 1 0 true)) (sub1 2) 0)) ∧
   ctxIn (slotted true (oneTile 2) 0) 5 (0x10000 + 0) 0 = true ∧ footprint (oneTile 2) = 0 ∧
       waitingSlot (slotted true (coloured 2) 0) 2 0 = some (1, { ctx := 5, fence := 1, waitReload := true }) ∧
   ctxIn (slotted true (coloured 2) 0) 5 (0xF0000000 + 4096 * footprint (coloured 2) * 0) (4096 * footprint (coloured 2)) = false ∧
       waitingSlot (slotted false (oneTile 2) 0) 2 0 = none := by decide +kernel

theorem test_tileReload : nx (exec (.tileReload 2 0) (slotted true (oneTile 2) (tsv 1 1 true))) (fun t =>
    decide (slotOf (coreOf t 2) 1 = some { ctx := 5, fence := 1 })) = true := by decide +kernel

theorem test_tileReload2 : nx (exec (.tileReload 2 0) (slotted true (coloured 2) 0)) (fun t => renderFaulted t 5 1) = true := by decide +kernel

/-- A state or operand for the tests below. -/
def twoTiles : RCtx := { placed 2 1 with width := 65 }

theorem test_tilePassEnd_conditions : doneSlot (slotted false (placed 1 1) 0) 2 0 = some (1, { ctx := 5, fence := 1 }) ∧
    fenceSub (placed 1 1) 1 = some { sub1 1 with place := [(0, 1)] } ∧ ctxIn (slotted false (placed 1 1) 0) 5 (0x10000 + 0) 0 = true ∧
   fenceSub (placed 2 1) 1 = some { sub1 2 with place := [(0, 1)] } ∧
       (resolveTile (slotted false (placed 2 1) 0) 5 (placed 2 1) { sub1 2 with place := [(0, 1)] } (coreOf (slotted false (placed 2 1) 0) 2) 1 0).2 = none ∧
   passDone (placed 2 1) (setPlace { sub1 2 with place := [(0, 1)] } 0 2) = true ∧
       passDone twoTiles (setPlace { sub1 2 with place := [(0, 1)] } 0 2) = false ∧
       doneSlot (slotted false twoTiles 0) 2 0 = some (1, { ctx := 5, fence := 1 }) ∧
   doneSlot (slotted true (placed 1 1) 0) 2 0 = none := by decide +kernel

theorem test_tilePassEnd : nx (exec (.tilePassEnd 2 0) (slotted false (placed 1 1) 0)) (fun t => decide ((rctxOf t 5).map (fun x =>
    x.subs.map (fun b => (b.phase, placeOf b 0))) = some [(1, 2)] ∧ tileState t (sub1 1) 0 = tsv 1 0 true)) = true := by decide +kernel

theorem test_tilePassEnd2 : nx (exec (.tilePassEnd 2 0) (slotted false (placed 2 1) 0)) (fun t => decide ((rctxOf t 5).map (fun x =>
    x.subs.map (·.phase)) = some [3] ∧ slotOf (coreOf t 2) 1 = none ∧ t.raster.binUse = [])) = true := by decide +kernel

theorem test_flushAcknowledged_conditions : ((oneTile 1).subs.find? (fun b =>
    b.table != [] && tsDone (tileState (rendT (oneTile 1) (tsv 2 1 true)) b 0) != tsIssued (tileState (rendT (oneTile 1) (tsv 2 1 true)) b 0))).isSome = true ∧
   (oneTile 1).subs.find? (fun b => b.table != [] && tsDone (tileState (rendT (oneTile 1) (tsv 2 2 true)) b 0) != tsIssued (tileState (rendT (oneTile 1) (tsv 2 2 true)) b 0)) = none := by decide +kernel

theorem test_flushAcknowledged : nx (exec (.flushAcknowledged 5 0) (rendT (oneTile 1) (tsv 2 1 true))) (fun t =>
    decide (tileState t (sub1 1) 0 = tsv 2 2 true)) = true := by decide +kernel

theorem test_renderDone_conditions : ((oneTile 3).subs.find? (fun b => b.phase == 3 && b.ended.isNone)).isSome = true ∧
    (oneTile 2).subs.find? (fun b => b.phase == 3 && b.ended.isNone) = none ∧ pdOn (rend (oneTile 3)) 2 = true := by decide +kernel

theorem test_renderDone : nx (exec (.renderDone 5) (rend { oneTile 3 with statsAddr := 0x440, renders := 0xFFFFFFFE })) (fun t =>
    decide ((rctxOf t 5).map (fun x => (x.renders, x.subs.map (·.phase))) = some (0xFFFFFFFF, [4]) ∧ winWord t 5 0x440 = 0xFFFFFFFF ∧
    t.out.length = 1)) = true := by decide +kernel

/-- A hart that shades a group of one quad on a one-tile context with an RGBA8 attachment. -/
def shCtx : RCtx := { placed 2 1 with cfmt := [1, 0, 0, 0] }

/-- A state or operand for the tests below. -/
def shader (g : GroupRun) (other : Option GroupRun) : State :=
  setCore (rendT shCtx 0) 2 { slots := [(1, some { ctx := 5, fence := 1 })], tileMem := [(tmKey 1 0 0 66, 0x11223344)], harts := [(0, { group := other }), (3, { pc := 0x40, v := [(32, 0x55667788)], group := some g })] }

/-- A state or operand for the tests below. -/
def shGroup : GroupRun := { slot := 1, seq := 4, quads := [33], lanes := 0xF }

/-- A pixel-access word: function `f`, register `vd`, unmasked, attachment 0, CONV 0. -/
def pxWord (f vd : Nat) : Word := BitVec.ofNat 32 (0x2B + vd * 2 ^ 7 + f * 2 ^ 12 + 2 ^ 25)

theorem test_pxLd_conditions : mayAccess (shader shGroup none) 2 3 (pxWord 0 3).toNat 0 5 shCtx 1 shGroup ⟨0, 3, 0, 0, true, 0, 0⟩ ∧
    quadsHeld (coreOf (shader shGroup none) 2) 1 4 [33] = false ∧
   quadsHeld (coreOf (shader shGroup (some { slot := 1, seq := 2, quads := [33] })) 2) 1 4 [33] = true ∧
       mayAccess (shader shGroup (some { slot := 1, seq := 2, quads := [33] })) 2 3 (pxWord 0 3).toNat 0 5 shCtx 1 shGroup ⟨0, 3, 0, 0, true, 0, 0⟩ ∧
   pxDecode shCtx (pxWord 0 3 + 2 ^ 24).toNat = none ∧ fld (pxWord 0 3 + 2 ^ 24).toNat 0 7 = 0x2B ∧
       fld (pxWord 0 3 + 2 ^ 24).toNat 12 3 = 0 ∧ hartWork (shader shGroup none) 2 3 = .group 5 shCtx 1 shGroup ∧
   fld (pxWord 5 3).toNat 12 3 = 5 ∧ pxDecode shCtx (pxWord 5 3).toNat = none ∧ hartWork (busyWg (comp wg1)) 3 0 = .compute 5 ∧
       (cctxOf (busyWg (comp wg1)) 5).map (·.faulted) = some false ∧
   hartWork (shader shGroup none) 2 1 = .idle ∧
       mayAccess (shader { shGroup with released := true } none) 2 3 (pxWord 0 3).toNat 0 5 shCtx 1 { shGroup with released := true } ⟨0, 3, 0, 0, true, 0, 0⟩ := by unfold mayAccess; decide +kernel

theorem test_pxLd : nx (exec (.pxLd 2 3 (pxWord 0 3)) (shader shGroup none)) (fun t => decide ((List.range 4).map (fun i =>
    lanePixel [33] i) = [130, 131, 194, 195] ∧ (hartOf (coreOf t 2) 3).pc = 0x44)) = true := by decide +kernel

theorem test_pxLd2 : nx (exec (.pxLd 2 3 (pxWord 0 3)) (shader { shGroup with quads := [1] } none)) (fun t =>
    decide ((hartOf (coreOf t 2) 3).v = [(32, 0x55667788), (50, 0x11223344)])) = true := by decide +kernel

theorem test_pxLd3 : nx (exec (.pxLd 2 3 (pxWord 7 3)) (shader shGroup none)) (fun t => renderFaulted t 5 2) = true := by decide +kernel

theorem test_pxSt_conditions : mayAccess (shader shGroup none) 2 3 (pxWord 1 2).toNat 1 5 shCtx 1 shGroup ⟨1, 2, 0, 0, true, 0, 0⟩ ∧
    ((activeLanes (hartOf (coreOf (shader shGroup none) 2) 3) shGroup ⟨1, 2, 0, 0, true, 0, 0⟩).map (lanePixel [33])) = [130, 131, 194, 195] ∧
    [130, 131, 194, 195].Nodup ∧
   mayAccess (shader shGroup (some { slot := 1, seq := 2, quads := [33] })) 2 3 (pxWord 1 2).toNat 1 5 shCtx 1 shGroup ⟨1, 2, 0, 0, true, 0, 0⟩ ∧
   mayAccess (shader { shGroup with released := true } none) 2 3 (pxWord 1 2).toNat 1 5 shCtx 1 { shGroup with released := true } ⟨1, 2, 0, 0, true, 0, 0⟩ := by unfold mayAccess; decide +kernel

theorem test_pxSt : nx (exec (.pxSt 2 3 (pxWord 1 2)) (shader shGroup none)) (fun t => decide (tmGet (coreOf t 2) 1 0 0 130 = 0x55667788 ∧
    tmGet (coreOf t 2) 1 0 0 66 = 0x11223344)) = true := by decide +kernel

theorem test_pxRel_conditions : mayAccess (shader shGroup none) 2 3 (pxWord 2 0).toNat 2 5 shCtx 1 shGroup ⟨2, 0, 0, 0, true, 0, 0⟩ ∧
    hartWork (shader shGroup none) 2 1 = .idle := by unfold mayAccess; decide +kernel

theorem test_pxRel : nx (exec (.pxRel 2 3 (pxWord 2 0)) (shader shGroup none)) (fun t =>
    decide ((hartOf (coreOf t 2) 3).group = some { shGroup with released := true })) = true := by decide +kernel

theorem test_pxKill_conditions : mayAccess (shader shGroup none) 2 3 (pxWord 3 0).toNat 3 5 shCtx 1 shGroup ⟨3, 0, 0, 0, true, 0, 0⟩ ∧
    hartWork (shader shGroup none) 2 1 = .idle := by unfold mayAccess; decide +kernel

theorem test_pxKill : nx (exec (.pxKill 2 3 (pxWord 3 0)) (shader { shGroup with killed := 0x11 } none)) (fun t =>
    decide ((hartOf (coreOf t 2) 3).group.map (·.killed) = some 0x1F)) = true := by decide +kernel

/-- A state or operand for the tests below. -/
def waitingShader : State := shader { shGroup with waiting := some (pxWord 1 2).toNat } none

theorem test_pixelInterlockGrant_conditions :
    hartWork waitingShader 2 3 = .group 5 shCtx 1 { shGroup with waiting := some (pxWord 1 2).toNat } ∧
    pxDecode shCtx (pxWord 1 2).toNat = some ⟨1, 2, 0, 0, true, 0, 0⟩ ∧
   quadsHeld (coreOf waitingShader 2) 1 4 [33] = false ∧ openSub shCtx 1 = some { sub1 2 with place := [(0, 1)] } ∧
       hartWork (shader shGroup none) 2 3 = .group 5 shCtx 1 shGroup ∧
   quadsHeld (coreOf (shader shGroup (some { slot := 1, seq := 2, quads := [33] })) 2) 1 4 [33] = true := by decide +kernel

theorem test_pixelInterlockGrant : nx (exec (.pixelInterlockGrant 2 3 7) waitingShader) (fun t =>
    decide (tmGet (coreOf t 2) 1 0 0 130 = 0x55667788 ∧ (hartOf (coreOf t 2) 3).pc = 0x44 ∧ (rctxOf t 5).map (fun x =>
    x.subs.map (·.stall)) = some [7])) = true := by decide +kernel

/-- A state or operand for the tests below. -/
def vertexCore :
    State := setCore (rend { oneTile 0 with subs := [{ fence := 1, cmd := 0x3000, draws := 1, stride := 16, invs := 2, nextInv := 2, vertexRunning := [0, 0] }] }) 2 { harts := [(1, { vertex := some { ctx := 5, fence := 1 } }), (2, { halted := true })] }

theorem test_hartEcall_conditions : hartWork (shader shGroup none) 2 3 = .group 5 shCtx 1 shGroup ∧ (match hartWork vertexCore 2 1 with | .vertex k x v => decide (k = 5 ∧ v.fence = 1 ∧ (openSub x 1).isSome = true) | _ => false) = true ∧ (hartOf (coreOf vertexCore 2) 1).halted = false ∧
   hartWork (busyWg (comp wg1)) 3 0 = .compute 5 ∧ (hartOf (coreOf vertexCore 2) 2).halted = true ∧
       hartWork vertexCore 2 0 = .idle := by decide +kernel

theorem test_hartEcall : nx (exec (.hartEcall 2 1) vertexCore) (fun t => decide ((rctxOf t 5).map (fun x =>
    x.subs.map (·.vertexRunning)) = some [[0]] ∧ hartOf (coreOf t 2) 1 = {})) = true := by decide +kernel

theorem test_ebreak_conditions : bitOf (rd (wr open6 E.dbg_DEBUG_STATE 1) E.dbg_DEBUG_STATE) 0 = true ∧
    bitOf (rd (shader shGroup none) E.dbg_DEBUG_STATE) 0 = false ∧ hartWork (shader shGroup none) 2 3 = .group 5 shCtx 1 shGroup ∧
   (match hartWork vertexCore 2 1 with | .vertex k x _ => decide (k = 5 ∧ x.faulted = false) | _ => false) = true ∧ hartWork (busyWg (comp wg1)) 3 0 = .compute 5 ∧ cctxOf (busyWg (comp wg1)) 5 = some { disps := [wg1] } := by decide +kernel

theorem test_ebreak : nx (exec (.ebreak 2 3 0x88) (shader shGroup none)) (fun t => renderFaulted t 5 7 && (rctxOf t 5).map (fun x =>
    x.subs.map (·.ended)) == some [some (1, 7)]) = true := by decide +kernel

theorem test_ctxFault_conditions : hartWork (shader shGroup none) 2 3 = .group 5 shCtx 1 shGroup ∧
    (hartOf (coreOf (shader shGroup none) 2) 3).halted = false ∧ shCtx.faulted = false ∧ (0x2002 % accessSize (.load 2) ≠ 0) ∧
   ctxIn (shader shGroup none) 5 0xE0000000 4 = false ∧ ctxIn (shader shGroup none) 5 0x2000 4 = true ∧
       (coreOf (shader shGroup none) 2).l1 = [] ∧ legalWord 0 0 = false ∧ legalWord 0x13 0 = true ∧ fld 0 0 7 ≠ 0x2B ∧
   slotOf (coreOf (slotted false (oneTile 2) 0) 2) 1 = some { ctx := 5, fence := 1 } ∧ hartWork (busyWg (comp wg1)) 3 0 = .compute 5 ∧
       (cctxOf (busyWg (comp wg1)) 5).map (·.faulted) = some false ∧ hartWork (shader shGroup none) 2 1 = .idle := by decide +kernel

theorem test_ctxFault : nx (exec (.ctxFault (.access 2 3 0x88 0xE0000000 (.store 2 7))) (shader shGroup none)) (fun t =>
    renderFaulted t 5 1 && rd t (E.guest_VIOLATIONS 0) == 1 && t.out.contains (.event false .ctxFault [5, 1])) = true := by decide +kernel

theorem test_ctxFault2 : nx (exec (.ctxFault (.access 2 3 0x88 0x2000 (.store 1 0x1234))) (shader shGroup none)) (fun t =>
    decide (winWord t 5 0x2000 = 0x1234)) = true := by decide +kernel

theorem test_ctxFault3 : nx (exec (.ctxFault (.word 2 3 0x88 0)) (shader shGroup none)) (fun t => renderFaulted t 5 2) = true := by decide +kernel

theorem test_tileEccError_conditions : slotOf (coreOf (slotted false (oneTile 2) 0) 2) 1 = some { ctx := 5, fence := 1 } ∧
    rctxOf (slotted false (oneTile 2) 0) 5 = some (oneTile 2) ∧ pdOn (slotted false (oneTile 2) 0) 2 = true ∧
    slotOf (coreOf (slotted false (oneTile 2) 0) 2) 0 = none := by decide +kernel

theorem test_tileEccError : nx (exec (.tileEccError 2 1 false) (slotted false (oneTile 2) 0)) (fun t =>
    decide ((rctxOf t 5).map (·.eccCorrected) = some 1 ∧ (coreOf t 2).eccAt = some 0 ∧ t.out.length = 1)) = true := by decide +kernel

theorem test_tileEccError2 : nx (exec (.tileEccError 2 1 true) (shader shGroup none)) (fun t => decide (renderFaulted t 5 5 = true ∧
    (coreOf t 2).tileMem = [])) = true := by decide +kernel

/-- A state or operand for the tests below. -/
def drainQuad : State := { open6 with raster := { open6.raster with draining := [2] } }

theorem test_quadDrained_conditions : drainQuad.raster.draining.contains 2 = true ∧ (∀ n, n < 12 → coreIdle (coreOf drainQuad n) = true) ∧
    pdOn drainQuad 2 = true ∧ pdChanging drainQuad = false ∧ drainQuad.power.queue = [] ∧ pdState drainQuad 5 = 2 := by decide +kernel

theorem test_quadDrained : nx (exec (.quadDrained 2) drainQuad) (fun t => decide (rd t (E.pd_STATE 5) = 3 ∧
    t.out = [.event false .quadDrained [2]])) = true := by decide +kernel

theorem test_tileOverrun_conditions : oldestWork (coreOf (slotted false (oneTile 2) 0) 2) = some (5, 1) ∧
    pdOn (slotted false (oneTile 2) 0) 2 = true ∧ (sub1 2).adopted = false ∧ (sub1 2).ended = none ∧ (oneTile 2).subs = [sub1 2] ∧
    oldestWork (coreOf open6 2) = none := by decide +kernel

theorem test_tileOverrun : nx (exec (.tileOverrun 2) (slotted false (oneTile 2) 0)) (fun t => decide ((rctxOf t 5).map (fun x =>
    (x.faulted, x.subs.map (·.ended))) = some (false, [some (2, 0)]) ∧ slotOf (coreOf t 2) 1 = none)) = true := by decide +kernel

/-- A state or operand for the tests below. -/
def endedHarts : Tbl HartRec := [(0, { ended := true }), (1, { ended := true }), (2, { ended := true }), (3, { ended := true })]

/-- A state or operand for the tests below. -/
def wgCore (d : Disp) (w : WgRun) : State := setCore (comp d) 3 { wg := some w, harts := endedHarts }

theorem test_workgroupEnd_conditions :
    (coreOf (wgCore { wg1 with next := 2, running := 1 } { ctx := 5, fence := 4 }) 3).wg = some { ctx := 5, fence := 4 } ∧ (∀ h, h < 4 →
    (hartOf (coreOf (wgCore { wg1 with next := 2, running := 1 } { ctx := 5, fence := 4 }) 3) h).ended = true) ∧
   wgTotal wg1 = 2 ∧ (hartOf (coreOf open6 0) 0).ended = false ∧ cctxOf (wgCore wg1 {}) 5 = some { disps := [wg1] } := by decide +kernel

theorem test_workgroupEnd : nx (exec (.workgroupEnd 3) (wgCore { wg1 with next := 2, running := 1 } { ctx := 5, fence := 4 })) (fun t =>
    decide ((cctxOf t 5).map (fun x => x.disps.map (·.ended)) = some [some (0, 0)] ∧ (coreOf t 3).wg = none)) = true := by decide +kernel

theorem test_workgroupYield_conditions : (coreOf (wgCore wg1 { ctx := 5, preempt := some 0 }) 3).wg = some { ctx := 5, preempt := some 0 } ∧
    (coreOf (wgCore wg1 {}) 3).wg = some {} := by decide +kernel

/-- A state or operand for the tests below. -/
def savingFar : State := setCctx (wgCore wg1 { ctx := 5, fence := 4, phase := 1 }) 5 (some { disps := [wg1], saveAddr := 0xE0000000 })

theorem test_wgSaved_conditions :
    (coreOf (wgCore wg1 { ctx := 5, fence := 4, phase := 1 }) 3).wg = some { ctx := 5, fence := 4, phase := 1 } ∧
    cctxOf (wgCore wg1 { ctx := 5, fence := 4, phase := 1 }) 5 = some { disps := [wg1] } ∧
    inWindow (wgCore wg1 { ctx := 5, fence := 4, phase := 1 }) 5 (0 + 65536 * 3) 65536 = true ∧ pdOn (wgCore wg1 {}) 2 = true ∧
   (coreOf savingFar 3).wg = some { ctx := 5, fence := 4, phase := 1 } ∧
       inWindow savingFar 5 (0xE0000000 + 65536 * 3) 65536 = false := by decide +kernel

/-- A state or operand for the tests below. -/
def restoring (a : Nat) :
    State := setCctx (wgCore wg1 { ctx := 5, fence := 4, phase := 2, restore := some { num := 1 } }) 5 (some { disps := [wg1], saveAddr := a })

theorem test_workgroupRestored_conditions :
    (coreOf (restoring 0) 3).wg = some { ctx := 5, fence := 4, phase := 2, restore := some { num := 1 } } ∧
    cctxOf (restoring 0) 5 = some { disps := [wg1] } ∧ inWindow (restoring 0) 5 (0 + 65536 * 0) 65536 = true ∧
   inWindow (restoring 0xE0000000) 5 (0xE0000000 + 65536 * 0) 65536 = false ∧ (coreOf (wgCore wg1 {}) 3).wg = some {} := by decide +kernel

/-- A head of 4 × 2 active pixels in lines of 8 and frames of 6, in state `st`, at line `y`, its record `x`. -/
def scan (st y : Nat) (x : HeadRec) :
    State := setHead (wrs open6 [(E.head_STATE 3, st), (E.head_LINE 3, y), (E.head_FRAME 3, 9)]) 3 { x with tim := [4, 1, 1, 2, 2, 1, 1, 2, 48000, 0, 0, 0], lead := 0, route := 1 }

theorem test_headLineStart_conditions : scanning (scan 2 0 { begun := true }) 3 = true ∧ frameLines (scan 2 0 { begun := true }) 3 = 6 ∧
    vActive (scan 2 0 { begun := true }) 3 = 2 ∧ hState (scan 2 0 { begun := true }) 3 = 2 ∧ scanning (scan 1 0 {}) 3 = false ∧
    (headOf (scan 2 5 { begun := true }) 3).begun = true := by decide +kernel

theorem test_headLineStart : nx (exec (.headLineStart 3 none false) (wr (scan 4 0 {}) (E.port_STATE 1) 2)) (fun t =>
    decide (rd t (E.head_LINE 3) = 0 ∧ rd t (E.head_TOLERANCE 3) = 65535 ∧
    t.out = [.msg (.scanout 3) [9, 0, 1, 0, 0, (kOf 48000 : Int), 0, 0, 0, 0] []])) = true := by decide +kernel

theorem test_headLineStart2 : nx (exec (.headLineStart 3 (some ⟨2, [1, 1], true⟩) false) (scan 2 0 { begun := true })) (fun t =>
    decide (rd t (E.head_LINE 3) = 1 ∧ rd t (E.head_TOLERANCE 3) = 0 ∧ rd t (E.head_UNDERRUN_LINES 3) = 1 ∧
    rd t (E.facet_UNDERRUNS 3 1) = 1 ∧ rd t (E.head_CAMEO_UNDERRUNS 3) = 1 ∧ (headOf t 3).k = kOf 48000)) = true := by decide +kernel

theorem test_lineFetchComplete : nx (exec (.lineFetchComplete 3) (scan 2 0 {})) (fun t =>
    decide (rd t (E.head_TOLERANCE 3) = 65535)) = true := by decide +kernel

/-- A state or operand for the tests below. -/
def present (f : Word) :
    State := setCameo (scan 2 6 { begun := true }) 3 { pending := some { c0 := some (some 0x100), c1 := none, fence := none, regions := none, payloads := [], fromFrame := f } }

theorem test_headLatch_conditions : hasLatch (present 10) 3 = true ∧ latchLine (present 10) 3 = 6 ∧ pdOn (present 10) 2 = true ∧
    (headOf (present 10) 3).begun = true ∧ (cameoOf (present 10) 3).pending.isSome = true ∧
   ((rd (present 10) (E.head_FRAME 3) + 1) % 2 ^ 32 + 2 ^ 32 - 10) % 2 ^ 32 < 2 ^ 31 ∧
       2 ^ 31 ≤ ((rd (present 11) (E.head_FRAME 3) + 1) % 2 ^ 32 + 2 ^ 32 - 11) % 2 ^ 32 ∧
       hasLatch (scan 3 0 {}) 3 = false := by decide +kernel

theorem test_headLatch : nx (exec (.headLatch 3) (present 10)) (fun t => decide ((cameoOf t 3).pending = none ∧
    rd t (E.cameo_PRESENTATIONS 3) = 1 ∧ (headOf t 3).taken = true ∧ t.out.length = 2)) = true := by decide +kernel

theorem test_headLatch2 : nx (exec (.headLatch 3) (present 11)) (fun t => decide ((cameoOf t 3).next = none ∧
    rd t (E.cameo_CAMEO_LATE 3) = 1)) = true := by decide +kernel

theorem test_headFrame_conditions : pdOn (scan 1 0 {}) (headDomain 3) = true ∧ pdOn (scan 1 0 {}) 2 = true ∧ hState (scan 1 0 {}) 3 = 1 ∧
    frameLines (scan 2 5 { begun := true }) 3 = 6 ∧ commandMode (scan 2 5 { begun := true }) 3 = false ∧
   dispWaits (scan 2 5 { begun := true }) 3 = false ∧ (headOf (scan 2 5 { begun := true, stopping := true }) 3).stopping = true ∧
       hState open6 3 = 0 := by decide +kernel

theorem test_headFrame : nx (exec (.headFrame 3) (scan 2 5 { begun := true, taken := true })) (fun t => decide (rd t (E.head_STATE 3) = 2 ∧
    rd t (E.head_FRAME 3) = 10 ∧ rd t (E.head_LINE 3) = 0 ∧ (headOf t 3).taken = false ∧
    t.out = [.event false .headFrame [3, 10]])) = true := by decide +kernel

theorem test_headFrame2 :
    nx (exec (.headFrame 3) (wrs (scan 2 5 { begun := true, stopping := true }) [(E.port_STATE 1, 2), (E.port_STREAMS 1, 1)])) (fun t =>
    decide (rd t (E.head_STATE 3) = 0 ∧ rd t (E.port_STATE 1) = 0 ∧ rd t (E.port_STREAMS 1) = 0)) = true := by decide +kernel

theorem test_headVblank_conditions : scanning (scan 2 2 { begun := true }) 3 = true ∧ vActive (scan 2 2 { begun := true }) 3 = 2 ∧
    pdOn (scan 2 2 {}) 2 = true ∧ scanning open6 3 = false ∧
    (facetOf (setFacet (scan 2 2 {}) 3 7 { slice := some { seq := 3, ok := true } }) 3 7).slice = some { seq := 3, ok := true } :=
    by decide +kernel

theorem test_headVblank :
    nx (exec (.headVblank 3) (setFacet (scan 2 2 { begun := true }) 3 7 { slice := some { seq := 3, ok := true } })) (fun t =>
    decide ((facetOf t 3 7).slice.map (·.verdict) = some (some (3, true)) ∧ t.out.length = 1)) = true := by decide +kernel

/-- A state or operand for the tests below. -/
def command (te : Nat) (x : HeadRec) :
    State := setHead (wrs (scan 2 1 {}) [(E.head_TE_STATE 3, te), (E.head_TE_INPUT 3, 3)]) 3 { x with tim := [4, 1, 1, 2, 2, 1, 1, 2, 48000, 0, 0, 1] }

theorem test_teEdge_conditions : rd (command 1 {}) (E.head_TE_INPUT 3) = 3 ∧ rd (command 1 {}) (E.head_TE_EDGE 3) = b2n false ∧
    commanded (command 1 { taken := true }) 3 = true ∧ (headOf (command 2 { taken := true }) 3).taken = true ∧ hState (command 1 {}) 3 ≠ 3 ∧
    pdOn (command 2 {}) 2 = true ∧ commanded (scan 2 1 {}) 3 = false ∧ commanded (command 1 {}) 3 = true ∧
   rd (command 2 {}) (E.head_TE_STATE 3) = 2 := by decide +kernel

theorem test_teEdge : nx (exec (.teEdge 3 false) (command 2 { taken := true })) (fun t => decide ((headOf t 3).teGo = true ∧
    rd t (E.head_TE_STATE 3) = 1 ∧ t.out = [.event false .teRelock [3]])) = true := by decide +kernel

theorem test_teTimeout_conditions : commanded (command 1 { taken := true }) 3 = true ∧ hState (command 1 {}) 3 ≠ 3 ∧
    rd (command 1 {}) (E.head_TE_STATE 3) ≠ 2 ∧ pdOn (command 1 {}) 2 = true ∧ commanded open6 3 = false := by decide +kernel

theorem test_teTimeout : nx (exec (.teTimeout 3) (command 1 { taken := true })) (fun t => decide ((headOf t 3).teGo = true ∧
    rd t (E.head_TE_STATE 3) = 2 ∧ rd t (E.head_TE_MISSED 3) = 1)) = true := by decide +kernel

/-- A commit applies values of head 3 whose timing record in force is the live one. -/
def applyTo (st : Nat) (ch : Nat) (l : List (Nat × List Byte)) : State :=
  setHead { wrs open6 [(E.head_STATE 3, st), (E.head_FRAME 3, 9), (E.head_CHANGE 3, ch), (E.head_ENABLE 3, 1)] with dict := { open6.dict with applying := l } } 3 { tim := (liveTiming open6 3).set 9 1 }

theorem test_timingChangeImmediate_conditions : scanning (applyTo 2 0 [(E.head_V_FRONT 3, [9, 0])]) 3 = true ∧
    timingWaits (applyTo 2 0 [(E.head_V_FRONT 3, [9, 0])]) 3 = true ∧
    candVal (applyTo 2 0 [(E.head_V_FRONT 3, [9, 0])]) (E.head_CHANGE 3) = 0 ∧ candVal (applyTo 2 0 []) (E.head_ENABLE 3) = 1 ∧
    timingChanges (applyTo 2 0 [(E.head_V_FRONT 3, [9, 0])]) 3 = true ∧ timingChanges (applyTo 2 0 [(E.head_CHANGE 3, [0])]) 3 = false ∧
        timingWaits (applyTo 2 0 [(E.head_CHANGE 3, [0])]) 3 = true ∧ (cameoOf (applyTo 2 0 []) 3).splash = false ∧
        pdOn (applyTo 2 0 []) 2 = true ∧ timingWaits (applyTo 2 0 []) 3 = false := by decide +kernel

theorem test_timingChangeImmediate :
    nx (exec (.timingChangeImmediate 3) (wr (applyTo 2 0 [(E.head_V_FRONT 3, [9, 0])]) (E.head_LOCK_STATE 3) 2)) (fun t =>
    decide (timOf t 3 6 = 9 ∧ rd t (E.head_V_FRONT 3) = 9 ∧ rd t (E.head_LAST_IRREGULAR 3) = 9 ∧ rd t (E.head_LOCK_STATE 3) = 1 ∧
    rd t (E.head_IRREGULAR_FRAMES 3) = 1)) = true := by decide +kernel

theorem test_timingChangeClean_conditions : scanning (applyTo 2 1 [(E.head_V_FRONT 3, [9, 0])]) 3 = true ∧
    candVal (applyTo 2 1 [(E.head_V_FRONT 3, [9, 0])]) (E.head_CHANGE 3) = 1 ∧
    timingChanges (applyTo 2 1 [(E.head_V_FRONT 3, [9, 0])]) 3 = true ∧ timingWaits (applyTo 2 1 [(E.head_V_FRONT 3, [9, 0])]) 3 = true ∧
    candVal (applyTo 2 1 []) (E.head_ENABLE 3) = 1 ∧
    timingChanges (applyTo 2 1 [(E.head_CHANGE 3, [1])]) 3 = false := by decide +kernel

theorem test_timingChangeClean : nx (exec (.timingChangeClean 3) (applyTo 2 1 [(E.head_V_FRONT 3, [9, 0])])) (fun t =>
    decide (rd t (E.head_STATE 3) = 3 ∧ (headOf t 3).clean = true ∧ rd t (E.head_V_FRONT 3) = rd open6 (E.head_V_FRONT 3))) = true :=
    by decide +kernel

theorem test_headEnable_conditions : hState (applyTo 0 0 []) 3 = 0 ∧ candVal (applyTo 0 0 []) (E.head_ENABLE 3) = 1 ∧
    pdOn (applyTo 0 0 []) (headDomain 3) = true ∧ hState (applyTo 2 0 []) 3 ≠ 0 := by decide +kernel

theorem test_headEnable : nx (exec (.headEnable 3) (applyTo 0 0 [])) (fun t => decide (rd t (E.head_STATE 3) = 1 ∧
    rd t (E.head_FRAME 3) = 0)) = true := by decide +kernel

theorem test_headDisable_conditions : hState (applyTo 3 0 [(E.head_ENABLE 3, [0])]) 3 = 3 ∧
    candVal (applyTo 3 0 [(E.head_ENABLE 3, [0])]) (E.head_ENABLE 3) = 0 ∧ hState (applyTo 1 0 [(E.head_ENABLE 3, [0])]) 3 = 1 ∧
    hState open6 3 = 0 := by decide +kernel

theorem test_headDisable : nx (exec (.headDisable 3) (applyTo 3 0 [(E.head_ENABLE 3, [0])])) (fun t => decide (rd t (E.head_ENABLE 3) = 0 ∧
    rd t (E.head_STATE 3) = 3 ∧ (headOf t 3).stopping = true)) = true := by decide +kernel

/-- A state or operand for the tests below. -/
def rerouted : State := { scan 2 0 { routeArmed := true } with dict := { open6.dict with applying := [(E.xbar_ROUTE 3, [2])] } }

theorem test_routeChange_conditions : scanning rerouted 3 = true ∧ (headOf rerouted 3).begun = false ∧
    (headOf rerouted 3).routeArmed = true ∧ applyingVal rerouted (E.xbar_ROUTE 3) = some [2] ∧ scanning open6 3 = false := by decide +kernel

theorem test_routeChange : nx (exec (.routeChange 3) (wrs rerouted [(E.port_STATE 1, 2), (E.port_STREAMS 1, 1)])) (fun t =>
    decide (rd t (E.head_STATE 3) = 4 ∧ (headOf t 3).route = 2 ∧ rd t (E.port_STATE 1) = 0 ∧ rd t (E.port_STREAMS 2) = 1)) = true :=
    by decide +kernel

theorem test_lockStampTimeout_conditions : rd (wr open6 (E.head_LOCK_STATE 3) 2) (E.head_LOCK_STATE 3) = 2 ∧
    pdOn (wr open6 (E.head_LOCK_STATE 3) 2) 2 = true ∧ rd open6 (E.head_LOCK_STATE 3) = 0 := by decide +kernel

theorem test_lockStampTimeout : nx (exec (.lockStampTimeout 3) (wr open6 (E.head_LOCK_STATE 3) 2)) (fun t =>
    decide (rd t (E.head_LOCK_STATE 3) = 3 ∧ rd t (E.head_LOCK_LOSSES 3) = 1)) = true := by decide +kernel

/-- A state or operand for the tests below. -/
def awaiting :
    State := { setRctx (wrs open6 [(E.facet_ENABLE 3 1, 1), (E.facet_FRESH_REQUIRED 3 1, 1)]) 5 (some { width := 64, height := 64, tileBudget := 20, subs := [{ fence := 7, phase := 2 }] }) with
  compose := { open6.compose with groups := [{ client := 5, entries := [{ head := 3, facet := 1, fence := 7 }] }] } }

theorem test_governorEvaluate_conditions : pdOn awaiting 2 = true ∧
    awaiting.raster.rctx = [(5, some { width := 64, height := 64, tileBudget := 20, subs := [{ fence := 7, phase := 2 }] })] ∧
    awaited awaiting 3 = [(5, 7)] ∧ (cameoOf awaiting 3).pending = none ∧ pdOn (wr open6 (E.pd_STATE 2) 0) 2 = false := by decide +kernel

theorem test_governorEvaluate : nx (exec (.governorEvaluate 3 6000) awaiting) (fun t => decide ((rctxOf t 5).map (fun x =>
    (x.raised, x.subs.map (·.latch))) = some (1, [6000]) ∧ t.out = [.event false .govRaise [5, 7]])) = true := by decide +kernel

theorem test_governorEvaluate2 : nx (exec (.governorEvaluate 3 6001) awaiting) (fun t => decide (t.out = [])) = true := by decide +kernel

/-- Head 3 is routed to port 1 and head 4 to port 9, both on. -/
def routed (l : List (Nat × Nat)) :
    State := setHead (setHead (wrs (wrs open6 [(E.head_STATE 3, 2), (E.head_STATE 4, 2)]) l) 3 { route := 1 }) 4 { route := 0x21 }

theorem test_portBringupStart_conditions : rd (routed []) (E.port_STATE 1) = 0 ∧ portHeads (routed []) 1 = [(3, 0)] ∧
    portHeads (routed []) 9 = [(4, 0)] ∧ pdOn (routed []) 9 = true ∧ portHeads (routed []) 2 = [] := by decide +kernel

theorem test_portBringupStart : nx (exec (.portBringupStart 1) (routed [])) (fun t => decide (rd t (E.port_STATE 1) = 1 ∧
    (outPort t 1).waitHpd = true ∧ t.out = [])) = true := by decide +kernel

theorem test_portBringupStart2 : nx (exec (.portBringupStart 9) (routed [])) (fun t => decide (rd t (E.port_STATE 9) = 1 ∧
    (outPort t 9).waitHpd = false ∧ t.out.length = 1)) = true := by decide +kernel

theorem test_hpdStable_conditions : rd (routed [(E.port_STATE 1, 4), (E.port_STATE 2, 4)]) (E.port_STATE 1) = 4 ∧ rd (routed []) (E.port_HPD 1) = 0 ∧
   rd (routed []) (E.port_STATE 1) ≠ 4 := by decide +kernel

theorem test_hpdStable : nx (exec (.hpdStable 1) (routed [(E.port_STATE 1, 4)])) (fun t => decide (rd t (E.port_STATE 1) = 1)) = true :=
    by decide +kernel

theorem test_portReady_conditions : rd (routed [(E.port_STATE 1, 1)]) (E.port_STATE 1) = 1 ∧
    (outPort (routed [(E.port_STATE 1, 1)]) 1).waitHpd = false ∧ pdOn (routed []) 2 = true ∧
    portHeads (routed [(E.port_STATE 1, 1)]) 1 = [(3, 0)] ∧ rd (routed []) (E.head_STATE 3) = 2 ∧ rd (routed []) (E.port_STATE 1) ≠ 1 :=
    by decide +kernel

theorem test_portReady : nx (exec (.portReady 1) (routed [(E.port_STATE 1, 1)])) (fun t => decide (rd t (E.port_STATE 1) = 2 ∧
    rd t (E.port_STREAMS 1) = 1 ∧ (headOf t 3).blankNext = true)) = true := by decide +kernel

theorem test_portLinkFail_conditions : rd (routed [(E.port_STATE 15, 1)]) (E.port_STATE 15) = 1 ∧ (outPort (routed []) 15).waitHpd = false ∧
    pdOn (routed []) 2 = true ∧ rd (routed []) (E.port_STATE 1) ≠ 1 := by decide +kernel

theorem test_portLinkFail : nx (exec (.portLinkFail 15) (routed [(E.port_STATE 15, 1)])) (fun t => decide (rd t (E.port_STATE 15) = 3 ∧
    rd t (E.port_LINK_FAILS 15) = 1)) = true := by decide +kernel

theorem test_portRetry_conditions : rd (routed [(E.port_STATE 1, 3)]) (E.port_STATE 1) = 3 ∧ rd (routed []) (E.port_STATE 1) ≠ 3 := by decide +kernel

theorem test_portRetry : nx (exec (.portRetry 1) (routed [(E.port_STATE 1, 3)])) (fun t => decide (rd t (E.port_STATE 1) = 1 ∧
    rd t (E.port_BRINGUPS 1) = 1)) = true := by decide +kernel

theorem test_hpdLow_conditions : rd (routed [(E.port_STATE 7, 2)]) (E.port_HPD 7) = 0 ∧
    rd (routed [(E.port_STATE 7, 2)]) (E.port_STATE 7) = 2 ∧ pdOn (routed []) 2 = true ∧
    rd (routed [(E.port_STATE 7, 4)]) (E.port_STATE 7) = 4 := by decide +kernel

theorem test_hpdLow : nx (exec (.hpdLow 7) (routed [(E.port_STATE 7, 2), (E.port_STREAMS 7, 3)])) (fun t =>
    decide (rd t (E.port_STATE 7) = 4 ∧ rd t (E.port_STREAMS 7) = 0)) = true := by decide +kernel

theorem test_irqHpd_conditions : rd (routed [(E.port_STATE 1, 2)]) (E.port_HPD 1) = 0 ∧ pdOn (routed []) 2 = true ∧
    rd (wr (routed []) (E.port_HPD 1) 1) (E.port_HPD 1) ≠ 0 := by decide +kernel

theorem test_irqHpd : nx (exec (.irqHpd 1 true) (routed [(E.port_STATE 1, 2)])) (fun t => decide (rd t (E.port_STATE 1) = 1 ∧
    rd t (E.port_LINK_LOSSES 1) = 1 ∧ rd t (E.port_BRINGUPS 1) = 1 ∧ rd t (E.port_HPD_IRQS 1) = 1)) = true := by decide +kernel

theorem test_linkStatusPoll_conditions : rd (routed [(E.port_STATE 1, 2), (E.port_HPD 1, 1)]) (E.port_HPD 1) = 1 ∧
    rd (routed [(E.port_STATE 1, 2), (E.port_HPD 1, 1)]) (E.port_STATE 1) = 2 ∧ pdOn (routed []) 2 = true ∧
    rd (routed []) (E.port_HPD 1) ≠ 1 := by decide +kernel

theorem test_linkStatusPoll : nx (exec (.linkStatusPoll 1 true) (routed [(E.port_STATE 1, 2), (E.port_HPD 1, 1)])) (fun t =>
    decide (rd t (E.port_STATE 1) = 1 ∧ rd t (E.port_LINK_LOSSES 1) = 1)) = true := by decide +kernel

/-- Client 5 has a window of 24 pages, two of them backed. -/
def paged24 :
    State := setCharm (setGuest (wr open6 (E.guest_CARVE_PAGES 0) 24) 0 { table := [⟨0, 20000, 1⟩, ⟨1, 20001, 1⟩] }) 5 (charm one 5 + 2 ^ 6 + 23 * 2 ^ 224)

/-- Receiver 2 takes pictures of 4 × 2 pixels in RGB888. -/
def camOn (l : List (Nat × Nat)) (x : RxRec) : State :=
  setRx (wrs paged24
    ([(E.cam_ENABLE 2, 1), (E.cam_DATA_TYPE 2, 0x24), (E.cam_WIDTH 2, 4), (E.cam_HEIGHT 2, 2), (E.cam_GUESTS 2, 1), (E.cam_VC 2, 1)] ++ l)) 2 x

/-- A state or operand for the tests below. -/
def ring : CamOpen := { client := 5, base := 0x1000, buffers := 3, stride := 0x1000, pitch := 1, status := 0x200 }

theorem test_csiFrameStart_conditions : rxOn (camOn [] { opened := some ring }) 2 = true ∧
    (rxOf (camOn [] { opened := some ring }) 2).frame = none ∧
    (rxOf (camOn [] { frame := some { num := 3 } }) 2).frame = some { num := 3 } ∧ pdOn (camOn [] {}) 2 = true ∧ rxOn open6 2 = false :=
    by decide +kernel

theorem test_csiFrameStart :
    nx (exec (.csiFrameStart 2 1 9 0) (camOn [] { opened := some ring, newest := some 1, lastBuf := 0, arrived := 6 })) (fun t =>
    decide ((rxOf t 2).frame = some { num := 9, seq := 1, buf := some 2 } ∧ (rxOf t 2).base = 6)) = true := by decide +kernel

/-- A state or operand for the tests below. -/
def twelve : List Byte := [1, 2, 3, 4, 5, 6, 7, 8, 9, 10, 11, 12]

/-- A state or operand for the tests below. -/
def openFrame : RxRec := { opened := some ring, frame := some { num := 3, seq := 1, buf := some 1, lines := 1 } }

theorem test_csiLinePacket_conditions : rxOn (camOn [] openFrame) 2 = true ∧
    (rxOf (camOn [] openFrame) 2).frame = some { num := 3, seq := 1, buf := some 1, lines := 1 } ∧
    lineFits (camOn [] openFrame) 2 { num := 3, seq := 1, buf := some 1, lines := 1 } twelve = true ∧
   inWindow (camOn [] openFrame) 5 (0x1000 + 0x1000 * 1 + 1 * 64 * 1) 16 = true ∧ (storedLine 0x24 twelve).length = 16 ∧ (2 :
       Nat) ≠ rd (camOn [] openFrame) (E.cam_VC 2) ∧ rxOn open6 2 = false := by decide +kernel

theorem test_csiLinePacket : nx (exec (.csiLinePacket 2 1 0x24 twelve true 1) (camOn [] openFrame)) (fun t =>
    decide ((rxOf t 2).frame = some { num := 3, seq := 1, buf := some 1, lines := 2 } ∧ rd t (E.cam_HDR_CORRECTED 2) = 1 ∧
    winWord t 5 0x2040 = 0xFF030201 ∧ winWord t 5 0x2044 = 0xFF060504)) = true := by decide +kernel

/-- A state or operand for the tests below. -/
def fullFrame (ok : Bool) : RxRec := { opened := some ring, frame := some { num := 3, seq := 1, buf := some 1, lines := 2, ok := ok } }

theorem test_csiFrameEnd_conditions : rxOn (camOn [] (fullFrame true)) 2 = true ∧ rd (camOn [] (fullFrame true)) (E.cam_HEIGHT 2) = 2 ∧
    pdOn (camOn [] (fullFrame true)) 2 = true ∧ (rxOf (camOn [] (fullFrame false)) 2).frame.map (·.ok) = some false ∧
    (rxOf open6 2).frame = none := by decide +kernel

theorem test_csiFrameEnd : nx (exec (.csiFrameEnd 2 1 3 0) (camOn [] (fullFrame true))) (fun t => decide ((rxOf t 2).newest = some 1 ∧
    rd t (E.cam_FRAMES 2) = 1 ∧ rd t (E.cam_STATE 2) = 2 ∧ winWord t 5 0x200 = 1 ∧ winWord t 5 0x204 = 1 ∧
    (claspOf t 5).event = 16)) = true := by decide +kernel

theorem test_csiFrameEnd2 : nx (exec (.csiFrameEnd 2 1 4 0) (camOn [] (fullFrame true))) (fun t => decide ((rxOf t 2).newest = none ∧
    rd t (E.cam_INCOMPLETE 2) = 1)) = true := by decide +kernel

theorem test_csiPacketGap_conditions : rxOn (camOn [] openFrame) 2 = true ∧ (rxOf (camOn [] openFrame) 2).frame.isSome = true ∧
    pdOn (camOn [] openFrame) 2 = true ∧ rxOn open6 2 = false := by decide +kernel

theorem test_csiPacketGap : nx (exec (.csiPacketGap 2) (camOn [] openFrame)) (fun t => decide ((rxOf t 2).frame = none ∧
    (rxOf t 2).opened.map (·.incomplete) = some 1 ∧ t.out.length = 1)) = true := by decide +kernel

theorem test_camLossTimeout_conditions : rd (camOn [(E.cam_STATE 2, 1)] { opened := some ring }) (E.cam_STATE 2) = 1 ∧
    (rxOf (camOn [] { opened := some ring }) 2).opened.isSome = true ∧ pdOn (camOn [] {}) 2 = true ∧
    rd (camOn [(E.cam_SUBST_MODE 2, 1)] {}) (E.cam_SUBST_MODE 2) = 1 ∧ rd open6 (E.cam_STATE 2) = 0 := by decide +kernel

theorem test_camLossTimeout :
    nx (exec (.camLossTimeout 2) (camOn [(E.cam_STATE 2, 2), (E.cam_SUBST_MODE 2, 1)] { attached := [25] })) (fun t =>
    decide (rd t (E.cam_STATE 2) = 3 ∧ rd t (E.cam_LOSSES 2) = 1 ∧ t.out.head? = some (.event true .camNotice [2, 25]))) = true :=
    by decide +kernel

/-- A state or operand for the tests below. -/
def openQ (n : Nat) : Taken := { op := 0x4001, len := 6, args := [2, 0x1000, n, 0x1000, 1, 0x200] }

theorem test_camOpen_conditions : asks (asking (camOn [] {}) (openQ 3)) 5 0x4001 6 (openQ 3) = true ∧ camRight (camOn [] {}) 5 2 = true ∧
    (rxOf (camOn [] {}) 2).opened = none ∧ rd (camOn [] {}) (E.cam_WIDTH 2) * storedBytes4 (rd (camOn [] {}) (E.cam_DATA_TYPE 2)) ≤ 256 ∧
   firstOutside (camOn [] {}) 5 [(0x1000, 3 * 0x1000), (0x200, 32)] = none ∧
       asks (asking (camOn [] {}) (openQ 11)) 5 0x4001 6 (openQ 11) = true ∧
       (rxOf (camOn [] { opened := some ring }) 2).opened = some ring ∧
       camRight (camOn [(E.cam_GUESTS 2, 2)] {}) 5 2 = false := by decide +kernel

theorem test_camOpen : nx (exec (.camOpen 5) (asking (camOn [] {}) (openQ 3))) (fun t => decide ((rxOf t 2).opened = some ring ∧
    rd t (E.cam_HOLDER 2) = 5)) = true := by decide +kernel

/-- A state or operand for the tests below. -/
def camQ (op : Nat) (l : List Nat) : Taken := { op := op, len := l.length, args := l }

theorem test_camClose_conditions : asks (asking (camOn [] { opened := some ring }) (camQ 0x4002 [2])) 5 0x4002 1 (camQ 0x4002 [2]) = true ∧
    camRight (camOn [] {}) 5 2 = true ∧ camHeldBy (camOn [] { opened := some ring }) 5 2 = true ∧
    camHeldBy (camOn [] { opened := some { ring with client := 6 } }) 5 2 = false := by decide +kernel

theorem test_camClose :
    nx (exec (.camClose 5) (asking (camOn [(E.cam_HOLDER 2, 5)] { opened := some ring, newest := some 1, attached := [25] }) (camQ 0x4002 [2]))) (fun t =>
    decide (rd t (E.cam_HOLDER 2) = 0xFFFF ∧ (rxOf t 2).attached = [])) = true := by decide +kernel

/-- Facet 1 of head 3 shows a camera: XRGB, 4 × 2 pixels. -/
def camFacet (l : List (Nat × Nat)) (x : RxRec) :
    State := camOn ([(E.facet_SOURCE 3 1, 1), (E.facet_FORMAT 3 1, 1), (E.facet_SRC_W 3 1, 4), (E.facet_SRC_H 3 1, 2), (E.facet_DST_H 3 1, 2)] ++ l) x

/-- A state or operand for the tests below. -/
def ring4 : CamOpen := { ring with buffers := 4 }

theorem test_camAttach_conditions :
    asks (asking (camFacet [] { opened := some ring4 }) (camQ 0x4003 [2, 0x13])) 5 0x4003 2 (camQ 0x4003 [2, 0x13]) = true ∧
    fld 0x13 0 4 = 3 ∧ fld 0x13 4 3 = 1 ∧ fld 0x13 7 1 = 0 ∧ headRight (camFacet [] {}) 5 3 = true ∧
    facetRight (camFacet [] {}) 5 3 1 = true ∧ camRight (camFacet [] {}) 5 2 = true ∧
   camFormatBad (camFacet [] {}) 2 3 1 = false ∧ rd (camFacet [] {}) (E.facet_HOLDER 3 1) = 0xFFFF ∧
       rd (camFacet [] {}) (E.facet_SOURCE 3 1) = 1 ∧ (∀ p, p < 8 →
       (rxOf (camFacet [] { opened := some ring4 }) p).attached.contains 25 = false) ∧ bitOf 0x13 8 = false := by decide +kernel

theorem test_camAttach : nx (exec (.camAttach 5) (asking (camFacet [] { opened := some ring4 }) (camQ 0x4003 [2, 0x13]))) (fun t =>
    decide (rd t (E.facet_HOLDER 3 1) = 5 ∧ (rxOf t 2).attached = [25] ∧ (facetOf t 3 1).cam = some 2)) = true := by decide +kernel

theorem test_camDetach_conditions :
    asks (asking (camFacet [] { opened := some ring4, attached := [25, 30] }) (camQ 0x4004 [2, 0x13])) 5 0x4004 2 (camQ 0x4004 [2, 0x13]) = true ∧
    camHeldBy (camFacet [] { opened := some ring4, attached := [25, 30] }) 5 2 = true ∧
    (rxOf (camFacet [] { opened := some ring4, attached := [25, 30] }) 2).attached.contains 25 = true ∧
   hasLatch (camFacet [] {}) 3 = false ∧ headRight (camFacet [] {}) 5 3 = true ∧ facetRight (camFacet [] {}) 5 3 1 = true := by decide +kernel

theorem test_camDetach :
    nx (exec (.camDetach 5) (asking (camFacet [] { opened := some ring4, attached := [25, 30] }) (camQ 0x4004 [2, 0x13]))) (fun t =>
    decide ((rxOf t 2).attached = [30])) = true := by decide +kernel

theorem test_camQuery_conditions : asks (asking (camOn [] {}) (camQ 0x4005 [2])) 5 0x4005 1 (camQ 0x4005 [2]) = true ∧
    camRight (camOn [] {}) 5 2 = true ∧ camRight (camOn [(E.cam_GUESTS 2, 2)] {}) 5 2 = false ∧
    asks (asking (camOn [] {}) (camQ 0x4005 [8])) 5 0x4005 1 (camQ 0x4005 [8]) = true := by decide +kernel

/-- A state or operand for the tests below. -/
def plain :
    Presentation := { c0 := some (some 0x100), c1 := none, fence := none, regions := some [0, 0, 0, 0, 0, 0, 0, 0], payloads := [], fromFrame := 10 }

theorem test_presentation_conditions : rd open6 E.lkt_LKT_STATE = 1 ∧ ((plain.regions.map (fun rs => rs.map (fun g =>
    g &&& BitVec.ofNat 128 regionMask))).getD []).all (fun g => regionOk open6 3 g.toNat) = true ∧
    rd (wr open6 E.lkt_LKT_STATE 2) E.lkt_LKT_STATE ≠ 1 := by decide +kernel

theorem test_presentation : nx (exec (.presentation 3 plain) open6) (fun t => decide ((cameoOf t 3).pending = some plain)) = true := by decide +kernel

/-- Region 7 of head 3 is compared with LIMIT 2 and ACTION 1. -/
def tapped (l : List Nat) (run : Nat) :
    State := setCameo (wr open6 (E.cameo_REGION 3 7) (2 ^ 64 + 2 ^ 67 + 2 * 2 ^ 68)) 3 { results := [(7, l)], runs := tset (fun _ => 0) [] 7 run }

theorem test_regionCompare_conditions : resultOf (tapped [6, 6, 9, 1] 1) 3 7 = [6, 6, 9, 1] ∧
    resultOf (tapped [6, 5, 9, 1] 0) 3 7 = [6, 5, 9, 1] ∧
    runOf (tapped [6, 5, 9, 1] 0) 3 7 + 1 ≠ fld (regionRec (tapped [6, 5, 9, 1] 0) 3 7) 68 4 ∧
    runOf (tapped [6, 5, 9, 1] 1) 3 7 + 1 = fld (regionRec (tapped [6, 5, 9, 1] 1) 3 7) 68 4 ∧
   bitOf (regionRec (tapped [6, 5, 9, 1] 1) 3 7) 67 = true ∧ pdOn (tapped [] 0) 2 = true ∧
       resultOf (tapped [6, 5, 9, 0] 0) 3 7 = [6, 5, 9, 0] ∧ resultOf open6 3 7 = [] := by decide +kernel

theorem test_regionCompare : nx (exec (.regionCompare 3 7) (tapped [6, 5, 9, 1] 1)) (fun t => decide (rd t E.cchk_FAULT_LATCHED = 1 ∧
    rd t (E.cameo_FAULT_REGION 3) = 7 ∧ rd t (E.cameo_FAULT_FRAME 3) = 9 ∧ rd t (E.cameo_MISMATCHES 3) = 1 ∧
    bitOf (rd t E.pdo_PD_STATUS) 3 = true)) = true := by decide +kernel

theorem test_regionCompare2 : nx (exec (.regionCompare 3 7) (tapped [6, 6, 9, 1] 1)) (fun t => decide (runOf t 3 7 = 0 ∧
    rd t (E.cameo_CHECKED 3) = 1 ∧ t.out = [])) = true := by decide +kernel

/-- A state or operand for the tests below. -/
def cvs (l : List (Nat × Nat)) (q : Taken) : State := asking (wrs paged24 (l.map (fun p => (E.cvu_OWNER p.1, p.2)))) q

theorem test_cvAcquire_conditions : asks (cvs [(0, 7)] (camQ 0x8001 [2])) 5 0x8001 1 (camQ 0x8001 [2]) = true ∧
    cvComing (cvs [(0, 7)] (camQ 0x8001 [2])) 5 = [] ∧ cvHeld (cvs [(0, 7)] (camQ 0x8001 [2])) 5 = [] ∧ (List.range 8).find? (fun k =>
    cvOwner (cvs [(0, 7)] {}) k == 0xFFFF && (handOf (cvs [(0, 7)] {}) (16 + k)).isNone) = some 1 ∧
   cvBusy (cvs [(0, 7)] {}) 1 = false ∧ rd (cvs [] {}) E.lkt_LKT_STATE = 1 ∧ pdOn (cvs [] {}) 2 = true ∧
       (cvHeld (cvs [(0, 5), (7, 5)] {}) 5).length = 2 ∧
       (List.range 8).find? (fun k => cvOwner (cvs ((List.range 8).map (fun k => (k, 7))) {}) k == 0xFFFF) = none := by decide +kernel

theorem test_cvAcquire : nx (exec (.cvAcquire 5) (cvs [(0, 7)] (camQ 0x8001 [2]))) (fun t => decide (rd t (E.cvu_OWNER 1) = 0xFFFD ∧
    (handOf t 17).map (·.poly) = some 2 ∧ (claspOf t 5).taken = some (camQ 0x8001 [2]))) = true := by decide +kernel

/-- A state or operand for the tests below. -/
def runQ (f a n : Nat) : Taken := { op := 0x8002, len := 5, flags := f, args := [19, 0x1234, a, n, 0xCBF43926] }

theorem test_cvRun_conditions : asksF (cvs [(3, 5)] (runQ 3 0x100 5)) 5 0x8002 5 3 (runQ 3 0x100 5) = true ∧
    cvArg (cvs [(3, 5)] {}) 5 19 = some 3 ∧ inWindow (cvs [] {}) 5 0x100 5 = true ∧ cvBusy (cvs [] {}) 3 = false ∧
    handOf (cvs [] {}) 19 = none ∧ cvArg (cvs [] {}) 5 19 = none ∧
   argOf (runQ 0 0x100 0) 5 = 0 ∧ inWindow (cvs [] {}) 5 0xFFFFFF 5 = false := by decide +kernel

theorem test_cvRun : nx (exec (.cvRun 5) (cvs [(3, 5)] (runQ 3 0x100 5))) (fun t => decide ((cvOf t 3).running = some 5)) = true := by decide +kernel

theorem test_cvRelease_conditions : asks (cvs [(3, 5)] (camQ 0x8003 [19])) 5 0x8003 1 (camQ 0x8003 [19]) = true ∧
    cvArg (cvs [(3, 5)] {}) 5 19 = some 3 ∧ cvBusy (cvs [(3, 5)] {}) 3 = false ∧
    cvBusy (setCv (cvs [(3, 5)] {}) 3 { running := some 5 }) 3 = true ∧ cvArg (cvs [] {}) 5 19 = none := by decide +kernel

theorem test_cvRelease : nx (exec (.cvRelease 5) (cvs [(3, 5)] (camQ 0x8003 [19]))) (fun t =>
    decide (rd t (E.cvu_OWNER 3) = 0xFFFD)) = true := by decide +kernel

/-- Unit 19 computes over the 5 bytes "56789" after the guard word "1234". -/
def computing :
    State := setCv (asking (putAt (wr paged24 (E.cvu_OWNER 3) 5) ((winAddr paged24 5 0x100).getD 0) [0x35, 0x36, 0x37, 0x38, 0x39]) { op := 0x8002, len := 5, flags := 3, args := [19, 0x34333231, 0x100, 5, 0xCBF43926] }) 3 { running := some 5 }

theorem test_cvComputationEnd_conditions : (cvOf computing 3).running = some 5 ∧
    asksF computing 5 0x8002 5 3 { op := 0x8002, len := 5, flags := 3, args := [19, 0x34333231, 0x100, 5, 0xCBF43926] } = true ∧
    (cvOf (setCv computing 3 { running := some 5, abandoned := true }) 3).abandoned = true ∧ (cvOf open6 3).running = none :=
    by decide +kernel

theorem test_cvComputationEnd : nx (exec (.cvComputationEnd 19) computing) (fun t =>
    decide (((claspOf t 5).taken.map (·.answer)) = some (some { data := [0xCBF43926, 1] }))) = true := by decide +kernel

/-- Panel 1 of one drive and one sense line, on a head, with record `x`. -/
def panel1 (l : List (Nat × Nat)) (x : TouchRec) : State :=
  setTouch (wrs open6 ([(E.panel_ENABLE 1, 1), (E.panel_DRIVE_COUNT 1, 1), (E.panel_SENSE_COUNT 1, 1), (E.panel_HEAD 1, 3), (E.panel_CHANNEL_MAP 1, 2 ^ 1024 - 1 - 0xFF - 0x7F00)] ++ l)) 1 x

theorem test_touchScanStart_conditions : (touchOf (panel1 [] { phase := 3, next := 2 }) 1).phase = 3 ∧
    (touchOf (panel1 [] { phase := 3, next := 2 }) 1).steps = none ∧ pdOn (panel1 [] {}) 13 = true ∧ restartWaits (panel1 [] {}) 1 = false ∧
    (touchOf open6 1).phase ≠ 2 := by decide +kernel

theorem test_touchScanStart :
    nx (exec (.touchScanStart 1) (panel1 [(E.panel_STATE 1, 3)] { phase := 3, next := 2, lock := some 3 })) (fun t =>
    decide ((touchOf t 1).steps = some [] ∧ (touchOf t 1).freq = 2 ∧ (touchOf t 1).lock = none)) = true := by decide +kernel

theorem test_touchStepEnd_conditions : (touchOf (panel1 [] { steps := some [[1], [2]] }) 1).steps = some [[1], [2]] ∧
    scanSteps (panel1 [(E.panel_SELF_EN 1, 0)] {}) 1 = 3 ∧ pdOn (panel1 [] {}) 13 = true ∧ (touchOf open6 1).steps = none :=
    by decide +kernel

/-- A state or operand for the tests below. -/
def scanned (ph n : Nat) :
    State := panel1 [(E.panel_SELF_EN 1, 0), (E.panel_STATE 1, 3)] { phase := ph, count := n, steps := some [[0], [0], [0]], base := [0, 0, 0], neg := [0, 0, 0] }

theorem test_touchReport_conditions : (touchOf (scanned 2 0) 1).steps = some [[0], [0], [0]] ∧ scanSteps (scanned 2 0) 1 = 3 ∧
    pdOn (scanned 2 0) 13 = true ∧ (touchOf (scanned 2 3) 1).count = 3 ∧ (touchOf open6 1).steps = none ∧
    scanSteps (panel1 [] { steps := some [] }) 1 = 4 := by decide +kernel

theorem test_touchReport : nx (exec (.touchReport 1) (scanned 2 3)) (fun t => decide ((touchOf t 1).phase = 3 ∧ rd t (E.panel_SCANS 1) = 1 ∧
    rd t (E.panel_START_STATE 1) = 1)) = true := by decide +kernel

/-- A signal of 1,000 counts on the one node: a contact that was seen in the scan before touches down. -/
def touching :
    State := panel1 [(E.panel_SELF_EN 1, 0), (E.panel_STATE 1, 3), (E.panel_GAIN 1, 1), (E.panel_START_STATE 1, 3), (E.panel_HEAD 1, 0xFF), (E.panel_DOWN_SCANS 1, 1), (E.panel_DRIVE_PITCH 1, 500), (E.panel_SENSE_PITCH 1, 500), (E.panel_TOUCH_THRESHOLD 1, 400)]
  { phase := 3, steps := some [[0], [0], [0]], base := [256000, 0, 0], neg := [0, 0, 0] }

theorem test_touchReport2 : nx (exec (.touchReport 1) touching) (fun t => decide ((touchOf t 1).contacts.map (fun c =>
    (c.id, c.x, c.y, c.peak)) = [(0, 25, 25, 1000)] ∧ rd t (E.panel_CONTACTS 1) = 1 ∧ rd t (E.ppanel_COUNT 1) = 1 ∧
    rd t E.pdo_TOUCH_SEQ = 1 ∧
   t.out = [.event false .touchDown [1, 0, 25, 25]])) = true := by decide +kernel

theorem test_panelStart_conditions : panelEnabled (panel1 [] {}) 1 = true ∧ panelState (panel1 [] {}) 1 = 0 ∧
    (panel1 [] {}).dict.applying = [] ∧ pdOn (panel1 [] {}) 13 = true ∧
    panelExists (panel1 [(E.panel_GANG 0, 1), (E.panel_STATE 1, 2)] {}) 1 = false ∧
    panelState (panel1 [(E.panel_GANG 0, 1), (E.panel_STATE 1, 2)] {}) 1 = 2 ∧
   restartWaits (panel1 [] {}) 1 = false ∧ pdOn (wr open6 (E.pd_STATE 13) 0) 13 = false := by decide +kernel

theorem test_panelStart : nx (exec (.panelStart 1) (panel1 [] { base := [5] })) (fun t => decide (rd t (E.panel_STATE 1) = 1 ∧
    (touchOf t 1).phase = 1 ∧ (touchOf t 1).base = [])) = true := by decide +kernel

theorem test_referenceTestDone_conditions : (touchOf (panel1 [] { phase := 1 }) 1).phase = 1 ∧
    (touchOf (panel1 [] { phase := 1 }) 1).testAgain = false ∧ pdOn (panel1 [] {}) 13 = true ∧ usedChannels (panel1 [] {}) 1 = [0, 1] ∧
    (touchOf open6 1).testing = false := by decide +kernel

theorem test_referenceTestDone :
    nx (exec (.referenceTestDone 1 [1, 4]) (panel1 [(E.panel_STATE 1, 1), (E.panel_CHANNEL_MAP 1, 2 ^ 1024 - 1), (E.panel_FAILED_CHANNELS 1, 2)] { phase := 1 })) (fun t =>
    decide (rd t (E.panel_FAILED_CHANNELS 1) = 0 ∧ (touchOf t 1).phase = 2 ∧ (touchOf t 1).gains = [4])) = true := by decide +kernel

theorem test_startVerifyTimeout_conditions : rd (panel1 [(E.panel_START_STATE 1, 2)] {}) (E.panel_START_STATE 1) = 2 ∧
    (touchOf (panel1 [] {}) 1).contacts = [] ∧ pdOn (panel1 [] {}) 2 = true ∧ rd open6 (E.panel_START_STATE 1) = 0 := by decide +kernel

theorem test_startVerifyTimeout : nx (exec (.startVerifyTimeout 1) (panel1 [(E.panel_START_STATE 1, 2)] {})) (fun t =>
    decide (rd t (E.panel_START_STATE 1) = 3)) = true := by decide +kernel

theorem test_captureDone_conditions : (touchOf (panel1 [] { capture := 3, capSums := [16384, 0, 0] }) 1).capture = 3 ∧
    (touchOf open6 1).capture ≠ 3 := by decide +kernel

theorem test_captureDone :
    nx (exec (.captureDone 1) (panel1 [(E.panel_CMD_STATE 1, 2)] { capture := 3, capSums := [16384, 0, 0] })) (fun t =>
    decide ((dget t (E.panel_SIGNATURE 1)).drop 16 = [1, 0, 0, 0, 0, 0] ∧ rd t (E.panel_CMD_STATE 1) = 0)) = true := by decide +kernel

theorem test_tafeSupplyLow_conditions : panelEnabled (panel1 [(E.panel_STATE 1, 3)] {}) 1 = true ∧
    panelState (panel1 [(E.panel_STATE 1, 3)] {}) 1 = 3 ∧ panelState open6 2 = 0 := by decide +kernel

theorem test_tafeSupplyLow : nx (exec .tafeSupplyLow (panel1 [(E.panel_STATE 1, 3)] { phase := 3, steps := some [] })) (fun t =>
    decide (rd t (E.panel_STATE 1) = 5 ∧ (touchOf t 1).phase = 4)) = true := by decide +kernel

/-- A state or operand for the tests below. -/
def held (c : Contact) :
    State := setCameo { panel1 [] { contacts := [c] } with cameo := { open6.cameo with engraving := { cells := [{ alarm := 63, head := 3 }] } } } 3 { latched := List.replicate 64 3 }

theorem test_ackHoldReached_conditions : (touchOf (held { id := 4, cell := some 0 }) 1).contacts.find? (fun c =>
    c.id == 4) = some { id := 4, cell := some 0 } ∧ (held {}).cameo.engraving.cells[0]? = some { alarm := 63, head := 3 } ∧
    at0 15 (cameoOf (held {}) 3).latched 63 = 3 ∧ rd (held {}) E.lkt_LKT_STATE = 1 ∧
   (touchOf (held { id := 4, cell := some 0, acked := true }) 1).contacts.find? (fun c => c.id == 4) = some { id := 4, cell := some 0, acked := true } ∧
       (touchOf open6 1).contacts.find? (fun c => c.id == 4) = none := by decide +kernel

theorem test_ackHoldReached : nx (exec (.ackHoldReached 1 4) (held { id := 4, cell := some 0 })) (fun t =>
    decide (rd t E.pdo_ALARM_ACK = 2 ^ 63 ∧ t.out.length = 1)) = true := by decide +kernel

/-- Client 5 has a window of 24 pages, two of them backed. -/
def paged25 :
    State := setCharm (setGuest (wr open6 (E.guest_CARVE_PAGES 0) 24) 0 { table := [⟨0, 20000, 1⟩, ⟨1, 20001, 1⟩] }) 5 (charm one 5 + 2 ^ 6 + 23 * 2 ^ 224)

/-- A state or operand for the tests below. -/
def subbed (x : TouchRec) : State := setTouch (wrs paged25 [(E.panel_ENABLE 1, 1), (E.panel_HEAD 1, 3)]) 1 x

/-- A state or operand for the tests below. -/
def sub5 (w : Nat) : TouchSub := { client := 5, ring := 0x1000, write := w }

/-- A state or operand for the tests below. -/
def lateMsg : TouchMsg := { kind := 8, reason := 3, scan := 9 }

theorem test_touchBacklogDelivery_conditions : ringsReady (subbed { backlog := [lateMsg], subs := [sub5 17] }) = true ∧
    (touchOf (subbed { backlog := [lateMsg], subs := [sub5 17] }) 1).subs = [sub5 17] ∧
    (17 + 2 ^ 32 - winWord (subbed {}) 5 (0x1000 + 4)) % 2 ^ 32 ≠ 16 ∧
   inWindow (subbed {}) 5 (0x1000 + 32 + 32 * (17 % 16)) 32 = true ∧ (16 + 2 ^ 32 - winWord (subbed {}) 5 (0x1000 + 4)) % 2 ^ 32 = 16 ∧
       (touchOf open6 1).backlog = [] := by decide +kernel

theorem test_touchBacklogDelivery : nx (exec (.touchBacklogDelivery 1) (subbed { backlog := [lateMsg], subs := [sub5 15] })) (fun t =>
    decide (winWord t 5 0x1000 = 16 ∧ winWord t 5 (0x1020 + 32 * 15) = 0x0300FF08 ∧ winWord t 5 (0x1020 + 32 * 15 + 12) = 9)) = true :=
    by decide +kernel

theorem test_touchBacklogDelivery2 : nx (exec (.touchBacklogDelivery 1) (subbed { backlog := [lateMsg], subs := [sub5 16] })) (fun t =>
    decide (winWord t 5 0x1008 = 1 ∧ rd t (E.panel_RING_DROPS 1) = 1)) = true := by decide +kernel

/-- A state or operand for the tests below. -/
def touchQ (op : Nat) (l : List Nat) : Taken := { op := op, len := l.length, args := l }

/-- A state or operand for the tests below. -/
def sQ (n : Nat) : Taken := touchQ 0x6001 [1, 0x1000, n, 0, 0xFFFFFFFF]

theorem test_touchSubscribe_conditions : asks (asking (subbed {}) (sQ 16)) 5 0x6001 5 (sQ 16) = true ∧ touchRight (subbed {}) 5 1 = true ∧
    panelEnabled (subbed {}) 1 = true ∧ subOf (subbed {}) 1 5 = none ∧ inWindow (subbed {}) 5 0x1000 (32 + 32 * 16) = true ∧
    pdOn (subbed {}) 13 = true ∧ entriesOk 4096 = true ∧ entriesOk 17 = false ∧
   touchRight (setCharm (subbed {}) 5 0) 5 1 = false ∧ (subOf (subbed { subs := [sub5 0] }) 1 5).isSome = true ∧
       (List.replicate 16 ({ client := 7 } : TouchSub)).length = 16 := by decide +kernel

theorem test_touchSubscribe :
    nx (exec (.touchSubscribe 5) (asking (subbed { contacts := [{ id := 2, x := 5, y := 6 }] }) (sQ 16))) (fun t =>
    decide ((touchOf t 1).subs = [{ client := 5, ring := 0x1000, entries := 16, x1 := 0xFFFF, y1 := 0xFFFF, write := 1, following := [2] }] ∧
    winWord t 5 0x1000 = 1 ∧ winWord t 5 0x1024 = 5 + 65536 * 6)) = true := by decide +kernel

theorem test_touchUnsubscribe_conditions :
    asks (asking (subbed { subs := [sub5 0] }) (touchQ 0x6002 [1])) 5 0x6002 1 (touchQ 0x6002 [1]) = true ∧
    (subOf (subbed { subs := [sub5 0] }) 1 5).isSome = true ∧ subOf (subbed {}) 1 5 = none := by decide +kernel

theorem test_touchUnsubscribe :
    nx (exec (.touchUnsubscribe 5) (asking (subbed { subs := [sub5 0, { client := 7 }] }) (touchQ 0x6002 [1]))) (fun t =>
    decide ((touchOf t 1).subs = [{ client := 7 }])) = true := by decide +kernel

theorem test_touchQuery_conditions : asks (asking (subbed {}) (touchQ 0x6003 [1])) 5 0x6003 1 (touchQ 0x6003 [1]) = true ∧
    touchRight (subbed {}) 5 1 = true ∧ panelEnabled (subbed {}) 1 = true ∧ panelEnabled (wr (subbed {}) (E.panel_ENABLE 1) 0) 1 = false :=
    by decide +kernel

/-- A state or operand for the tests below. -/
def iclTaken (s : State) (n op : Nat) (l : List Nat) : State := setIcl s n { state := 1, taken := some (touchQ op l) }

theorem test_touchIclApply_conditions : iclAsks (iclTaken (panel1 [] {}) 3 0xF001 []) (2 + 1) 0xF001 (touchQ 0xF001 []) = true ∧
    pdOn (panel1 [] {}) 13 = true ∧ (panel1 [] {}).dict.applying.any (fun e => isPanelKey 1 e.1) = false ∧
   ({ panel1 [] {} with dict := { open6.dict with applying := [(E.panel_NEG_THRESHOLD 1, [1, 0])] } }).dict.applying.any (fun e => isPanelKey 1 e.1) = true ∧
       (iclOf open6 3).taken = none := by decide +kernel

theorem test_touchIclApply : nx (exec (.touchIclApply 1) (iclTaken (panel1 [] {}) 3 0xF001 [])) (fun t => decide ((iclOf t 3).state = 2 ∧
    (iclOf t 3).taken = none)) = true := by decide +kernel

theorem test_touchIclSelftest_conditions :
    iclAsks (iclTaken (panel1 [] { phase := 3 }) 3 0xF002 []) (2 + 1) 0xF002 (touchQ 0xF002 []) = true ∧
    panelExists (panel1 [] {}) 1 = true ∧ pdOn (panel1 [] {}) 13 = true ∧ (touchOf (panel1 [] { phase := 3 }) 1).testing = false ∧
    (touchOf (panel1 [] { testing := true }) 1).testing = true := by decide +kernel

theorem test_touchIclSelftest :
    nx (exec (.touchIclSelftest 1) (iclTaken (panel1 [] { phase := 3, steps := some [] }) 3 0xF002 [])) (fun t =>
    decide ((touchOf t 1).testing = true ∧ (touchOf t 1).steps = none ∧ rd t (E.panel_CMD_STATE 1) = 1)) = true := by decide +kernel

theorem test_touchIclCapture_conditions :
    iclAsks (iclTaken (panel1 [] { phase := 3 }) 3 0xF003 []) (2 + 1) 0xF003 (touchQ 0xF003 []) = true ∧
    (touchOf (panel1 [] { phase := 3 }) 1).phase = 3 ∧ (touchOf (panel1 [] {}) 1).phase = 0 ∧
    (touchOf (panel1 [] { phase := 2 }) 1).phase = 2 := by decide +kernel

theorem test_touchIclCapture : nx (exec (.touchIclCapture 1) (iclTaken (panel1 [] { phase := 3 }) 3 0xF003 [])) (fun t =>
    decide ((touchOf t 1).capture = 2 ∧ rd t (E.panel_CMD_STATE 1) = 2)) = true := by decide +kernel

theorem test_touchIclSubscribe_conditions :
    iclAsks (iclTaken (subbed {}) 3 0xF004 [5, 0x1000, 16, 0, 0]) (2 + 1) 0xF004 (touchQ 0xF004 [5, 0x1000, 16, 0, 0]) = true ∧
    subOf (subbed {}) 1 5 = none ∧ (subOf (subbed { subs := [sub5 0] }) 1 5).isSome = true := by decide +kernel

theorem test_touchIclSubscribe : nx (exec (.touchIclSubscribe 1) (iclTaken (subbed {}) 3 0xF004 [5, 0x1000, 16, 0, 0])) (fun t =>
    decide ((touchOf t 1).subs = [sub5 0])) = true := by decide +kernel

theorem test_touchIclUnsubscribe_conditions :
    iclAsks (iclTaken (subbed { subs := [sub5 0] }) 3 0xF005 [5]) (2 + 1) 0xF005 (touchQ 0xF005 [5]) = true ∧
    (iclOf open6 3).taken = none := by decide +kernel

theorem test_touchIclUnsubscribe : nx (exec (.touchIclUnsubscribe 1) (iclTaken (subbed { subs := [sub5 0] }) 3 0xF005 [5])) (fun t =>
    decide ((touchOf t 1).subs = [] ∧ (iclOf t 3).state = 2)) = true := by decide +kernel

/-- Channel 15 on head 3 is enabled and calibrated, in state `st`, its record `x`. -/
def hap15 (st : Nat) (x : HapRec) :
    State := setHap (wrs open6 [(E.hap_ENABLE 15, 1), (E.hap_HEAD 15, 3), (E.hap_CAL_STATE 15, 2), (E.hap_STATE 15, st)]) 15 x

/-- A state or operand for the tests below. -/
def hapQ (op f : Nat) (l : List Nat) : Taken := { op := op, len := l.length, flags := f, args := l }

/-- Effect 40 (class 1) at amplitude 80 with two repeats. -/
def hword : Nat := 40 + 80 * 256 + 2 * 65536

theorem test_hapticTrigger_conditions :
    asksF (asking (hap15 2 {}) (hapQ 0x7001 1 [15, hword])) 5 0x7001 2 1 (hapQ 0x7001 1 [15, hword]) = true ∧
    mayTrigger (hap15 2 {}) 5 15 hword = true ∧ hapPlays (hap15 2 {}) 15 = true ∧ hapState (hap15 2 {}) 15 = 2 ∧
    pdOn (hap15 2 {}) 2 = true ∧
   (hapOf (hap15 4 { cur := some { effect := 3 } }) 15).cur = some { effect := 3 } ∧ alarmClass 3 = false ∧ alarmClass 40 = false ∧
       hapRight (setCharm (hap15 2 {}) 5 0) 5 15 = false ∧ rd open6 (E.hap_ENABLE 2) = 0 ∧
       rd (wr (hap15 2 {}) (E.hap_CAL_STATE 15) 3) (E.hap_CAL_STATE 15) = 3 ∧ hapRight (hap15 2 {}) 5 15 = true := by decide +kernel

theorem test_hapticTrigger :
    nx (exec (.hapticTrigger 5) (asking (hap15 4 { cur := some { effect := 3 }, left := 2 }) (hapQ 0x7001 1 [15, hword]))) (fun t =>
    decide (hapState t 15 = 5 ∧ (hapOf t 15).latch.map (fun x => (x.effect, x.amp, x.rep, x.notify)) = some (40, 80, 2, true) ∧
    t.out = [.event false .hapCut [15]])) = true := by decide +kernel

/-- A state or operand for the tests below. -/
def adult (s : State) : State := setCharm s 5 (charm one 5 + 2 ^ 6)

theorem test_hapticStop_conditions : asks (asking (adult (hap15 6 {})) (hapQ 0x7002 0 [15])) 5 0x7002 1 (hapQ 0x7002 0 [15]) = true ∧
    charmClass (adult (hap15 6 {})) 5 ≠ 0 ∧ hapRight (adult (hap15 6 {})) 5 15 = true ∧ pdOn (hap15 6 {}) 13 = true ∧
    hapState (hap15 6 {}) 15 = 6 ∧ charmClass (hap15 6 {}) 5 = 0 ∧ alarmClass 112 = true ∧
   (hapOf (hap15 4 { cur := some { effect := 112 } }) 15).cur = some { effect := 112 } ∧ rd (hap15 6 {}) (E.hap_ENABLE 15) ≠ 0 ∧
       asks (asking (hap15 6 {}) (hapQ 0x7002 0 [16])) 5 0x7002 1 (hapQ 0x7002 0 [16]) = true := by decide +kernel

theorem test_hapticStop :
    nx (exec (.hapticStop 5) (asking (adult (wr (hap15 6 { latch := some { effect := 1, client := some 5, notify := true }, left := 3 }) (E.hap_FLAGS 15) 4)) (hapQ 0x7002 0 [15]))) (fun t =>
    decide (hapState t 15 = 5 ∧ (hapOf t 15).latch = none ∧ rd t (E.hap_FLAGS 15) = 0 ∧ (claspOf t 5).event = 128)) = true :=
    by decide +kernel

theorem test_hapticQuery_conditions : asks (asking (hap15 2 {}) (hapQ 0x7003 0 [15])) 5 0x7003 1 (hapQ 0x7003 0 [15]) = true ∧
    hapRight (hap15 2 {}) 5 15 = true ∧ asks (asking (hap15 2 {}) (hapQ 0x7003 0 [16])) 5 0x7003 1 (hapQ 0x7003 0 [16]) = true :=
    by decide +kernel

/-- A state or operand for the tests below. -/
def icl6 (s : State) (op : Nat) (l : List Nat) : State := setIcl s 6 { state := 1, taken := some (hapQ op 0 l) }

theorem test_hapIclTrigger_conditions : iclAsks (icl6 (hap15 2 {}) 0xF001 [0x8000, hword]) 6 0xF001 (hapQ 0xF001 0 [0x8000, hword]) = true ∧
    argOf (hapQ 0xF001 0 [0x8000, hword]) 2 = 2 ^ 15 ∧ hapPlays (hap15 2 {}) 15 = true ∧ hapState (hap15 2 {}) 15 = 2 ∧
    (iclOf open6 6).taken = none := by decide +kernel

theorem test_hapIclTrigger : nx (exec .hapIclTrigger (icl6 (hap15 2 {}) 0xF001 [0x8000, hword])) (fun t => decide (hapState t 15 = 3 ∧
    (iclOf t 6).state = 2 ∧ t.out = [.event false .hapStart [15, 40]])) = true := by decide +kernel

theorem test_hapIclCalibrate_conditions :
    iclAsks (icl6 (wr (hap15 2 {}) (E.hap_HEAD 15) 0xFF) 0xF002 [0x8000]) 6 0xF002 (hapQ 0xF002 0 [0x8000]) = true ∧
    rd (wr (hap15 2 {}) (E.hap_HEAD 15) 0xFF) (E.hap_HEAD 15) = 0xFF ∧ (∀ k, k < 16 → (hapOf (hap15 2 {}) k).calWait = false) ∧
    rd open6 (E.hap_ENABLE 15) ≠ 1 ∧ 3 ≤ hapState (hap15 4 {}) 15 := by decide +kernel

theorem test_hapIclCalibrate : nx (exec .hapIclCalibrate (icl6 (hap15 2 {}) 0xF002 [0x8000])) (fun t => decide (hapState t 15 = 1 ∧
    rd t (E.hap_CAL_STATE 15) = 1 ∧ (hapOf t 15).prevCal = 2)) = true := by decide +kernel

theorem test_hapIclStop_conditions : iclAsks (icl6 (hap15 4 {}) 0xF003 [0x8000]) 6 0xF003 (hapQ 0xF003 0 [0x8000]) = true ∧
    hapState (hap15 4 {}) 15 = 4 ∧ hapState (hap15 1 {}) 15 ≤ 2 := by decide +kernel

theorem test_hapIclStop : nx (exec .hapIclStop (icl6 (hap15 4 { left := 2 }) 0xF003 [0x8000])) (fun t => decide (hapState t 15 = 5 ∧
    (hapOf t 15).left = 0)) = true := by decide +kernel

/-- A state or operand for the tests below. -/
def enabling : State := icl6 { open6 with dict := { open6.dict with applying := [(E.hap_ENABLE 15, [1])] } } 0xF004 []

theorem test_hapIclApply_conditions : iclAsks enabling 6 0xF004 (hapQ 0xF004 0 []) = true ∧
    enabling.dict.applying = [(E.hap_ENABLE 15, [1])] ∧ rd enabling (E.hap_ENABLE 15) = 0 ∧ rd enabling (E.hap_STATE 15) = 0 ∧
    rd enabling (E.hap_HEAD 15) = 0xFF ∧ pdOn enabling 13 = true := by decide +kernel

theorem test_hapIclApply : nx (exec .hapIclApply enabling) (fun t => decide (rd t (E.hap_ENABLE 15) = 1 ∧ rd t (E.hap_STATE 15) = 1 ∧
    t.dict.applying = [] ∧ (iclOf t 6).taken = none)) = true := by decide +kernel

theorem test_calibrationEnd_conditions : hapState (hap15 1 {}) 15 = 1 ∧ (hapOf (hap15 1 {}) 15).latch = none ∧ pdOn (hap15 1 {}) 2 = true ∧
    calPasses (hap15 1 {}) 15 [100, 3150, 10000, 8000] = true ∧ calPasses (hap15 1 {}) 15 [99, 3150, 10000, 8000] = false ∧
    hapState open6 15 ≠ 1 := by decide +kernel

theorem test_calibrationEnd : nx (exec (.calibrationEnd 15 [100, 850, 100, 8000]) (hap15 1 {})) (fun t => decide (hapState t 15 = 2 ∧
    rd t (E.hap_CAL_STATE 15) = 2 ∧ rd t (E.hap_F0 15) = 850 ∧ rd t (E.hap_R_CAL 15) = 8000 ∧
    t.out = [.event false .calDone [15]])) = true := by decide +kernel

theorem test_calibrationEnd2 : nx (exec (.calibrationEnd 15 [100, 849, 100, 8000]) (hap15 1 {})) (fun t =>
    decide (rd t (E.hap_CAL_STATE 15) = 3 ∧ t.field.lasting = [(0x5040, 15)])) = true := by decide +kernel

theorem test_attackEnd_conditions : hapState (hap15 3 {}) 15 = 3 ∧ hapState (hap15 3 { cur := some { effect := 3 } }) 15 = 3 ∧
    (hapOf (hap15 3 { cur := some { effect := 3 } }) 15).cur = some { effect := 3 } ∧
    (hapOf (hap15 3 { cur := some { effect := 3 } }) 15).cut = false ∧ hapState (hap15 4 {}) 15 ≠ 3 := by decide +kernel

theorem test_sustainEnd_conditions : hapState (hap15 4 {}) 15 = 4 ∧
    rd (wrs (hap15 4 {}) [(E.hap_R_CAL 15, 1000), (E.hap_STALE_DRIFT 15, 100)]) (E.hap_STALE_DRIFT 15) * rd (wrs (hap15 4 {}) [(E.hap_R_CAL 15, 1000), (E.hap_STALE_DRIFT 15, 100)]) (E.hap_R_CAL 15) < 1000 * (899 - 1000 + (1000 - 899)) ∧
    1000 * (1100 - 1000) ≤ 100 * 1000 ∧ pdOn (hap15 4 {}) 2 = true ∧ hapState (hap15 3 {}) 15 ≠ 4 := by decide +kernel

theorem test_sustainEnd : nx (exec (.sustainEnd 15 899) (wrs (hap15 4 {}) [(E.hap_R_CAL 15, 1000), (E.hap_STALE_DRIFT 15, 100)])) (fun t =>
    decide (hapState t 15 = 5 ∧ rd t (E.hap_R_NOW 15) = 899 ∧ rd t (E.hap_FLAGS 15) = 1)) = true := by decide +kernel

/-- A state or operand for the tests below. -/
def playing (st left : Nat) (l : Option Trig) :
    State := hap15 st { cur := some { effect := 3, client := some 5, notify := true }, left := left, latch := l }

theorem test_brakingEnd_conditions : hapState (playing 5 2 none) 15 = 5 ∧ (hapOf (playing 5 2 none) 15).left = 2 ∧
    (hapOf (playing 5 0 none) 15).left = 0 ∧ (hapOf (playing 5 0 none) 15).cur = some { effect := 3, client := some 5, notify := true } ∧
    pdOn (playing 5 0 none) 2 = true ∧ (∀ k, k < 16 → (hapOf (playing 5 0 none) k).calWait = false) ∧
   hapPlays (playing 5 0 (some { effect := 9, rep := 1 })) 15 = true ∧
       (hapOf (playing 5 0 (some { effect := 9, rep := 1 })) 15).latch = some { effect := 9, rep := 1 } ∧
       hapState (playing 4 0 none) 15 ≠ 5 := by decide +kernel

theorem test_brakingEnd : nx (exec (.brakingEnd 15 .limit) (playing 5 0 none)) (fun t => decide (hapState t 15 = 2 ∧
    rd t (E.hap_BRAKE_TIMEOUTS 15) = 1 ∧ (claspOf t 5).event = 128 ∧ t.out = [.event false .hapDone [15, 3]])) = true := by decide +kernel

theorem test_brakingEnd2 : nx (exec (.brakingEnd 15 .belowThreshold) (playing 5 0 (some { effect := 9, rep := 1 }))) (fun t =>
    decide (hapState t 15 = 3 ∧ (hapOf t 15).left = 1 ∧ rd t (E.hap_EFFECTS 15) = 1)) = true := by decide +kernel

theorem test_gapEnd_conditions : hapState (playing 6 2 none) 15 = 6 ∧ hapState open6 15 ≠ 6 := by decide +kernel

theorem test_hapOvercurrent_conditions : hapState (playing 4 2 none) 15 = 4 ∧ pdOn (playing 4 2 none) 2 = true ∧
    hapState (playing 6 0 none) 15 = 6 := by decide +kernel

theorem test_hapOvercurrent : nx (exec (.hapOvercurrent 15) (playing 4 2 none)) (fun t => decide ((hapOf t 15).cut = true ∧
    rd t (E.hap_OVERCURRENTS 15) = 1 ∧ t.out.length = 1)) = true := by decide +kernel

theorem test_accRead_conditions : hapState (playing 4 0 none) 15 = 4 ∧
    (hapOf (playing 4 0 none) 15).cur = some { effect := 3, client := some 5, notify := true } ∧ (hapOf (playing 4 0 none) 15).cut = false ∧
    hapState (hap15 2 { errs := 7 }) 15 ≠ 0 ∧ (hapOf (hap15 2 { errs := 7 }) 15).errs = 7 ∧ (hapOf (hap15 2 {}) 15).errs ≠ 7 ∧
    pdOn (hap15 2 {}) 2 = true ∧ hapState open6 15 = 0 := by decide +kernel

theorem test_accRead : nx (exec (.accRead 15 none) (hap15 2 { errs := 7 })) (fun t => decide (rd t (E.hap_FLAGS 15) = 2 ∧
    rd t (E.hap_ACC_ERRORS 15) = 1 ∧ (hapOf t 15).errs = 8)) = true := by decide +kernel

/-- The audio domains run. -/
def sounding (l : List (Nat × Nat)) : State := wrs open6 ([(E.aud_STATE_A 0, 1), (E.aud_STATE_A 1, 1), (E.aud_STATE_A 2, 1)] ++ l)

theorem test_audioSampleTick_conditions : domState (sounding []) 2 ≠ 0 ∧ pdOn (sounding []) 12 = true ∧
    (applyWaits (sounding []) (sequencerOf 2)).contains 2 = false ∧ applyWaits (setApplyWaits (sounding []) 1 [1]) (sequencerOf 1) = [1] ∧
    (sounding []).dict.applying = [] ∧ crosspoints (sounding []) 2 = [] ∧ domState (wr open6 (E.aud_STATE_A 0) 0) 0 = 0 ∧
    pdOn (sounding []) 2 = true := by decide +kernel

theorem test_audioSampleTick2 :
    nx (exec (.audioSampleTick 1 []) (setApplyWaits (setIcl (sounding []) 1 { state := 1, taken := some { op := 0xF001 } }) 1 [1])) (fun t =>
    decide (rd t E.aud_SWAPS = 1 ∧ (iclOf t 1).state = 2)) = true := by decide +kernel

/-- Port 5 in role `r` and state `st`. -/
def port5 (r st : Nat) (x : TdmRec) :
    State := setTdm (sounding [(E.tdm_ROLE 5, r), (E.tdm_STATE 5, st), (E.tdm_SLOTS 5, 2), (E.tdm_DATA_BITS 5, 16)]) 5 x

theorem test_tdmFrameSync_conditions : rd (port5 0 1 {}) (E.tdm_ROLE 5) = 0 ∧ rd (port5 0 1 {}) (E.tdm_STATE 5) = 1 ∧
    pdOn (port5 0 1 {}) 12 = true ∧ rd (wr (port5 0 1 {}) (E.tdm_GATE_IDLE 5) 0) (E.tdm_GATE_IDLE 5) = 0 ∧
    (tdmOf (port5 1 1 { good := 6 }) 5).good < 7 ∧ 7 ≤ (tdmOf (port5 1 1 { good := 7 }) 5).good ∧ pdOn (port5 1 1 {}) 2 = true ∧
    rd open6 (E.tdm_STATE 5) = 0 := by decide +kernel

theorem test_tdmFrameSync : nx (exec (.tdmFrameSync 5 [3, -1] []) (wr (port5 0 1 {}) (E.tdm_GATE_IDLE 5) 0)) (fun t =>
    decide ((tdmOf t 5).rx = [3 * 65536, -65536] ∧ rd t (E.tdm_STATE 5) = 2 ∧ t.out = [.msg (.tdm 5) [0, 0] []])) = true :=
    by decide +kernel

theorem test_tdmFrameSync2 : nx (exec (.tdmFrameSync 5 [3, -1] []) (port5 1 1 { good := 7, lost := true })) (fun t =>
    decide (rd t (E.tdm_STATE 5) = 2 ∧ t.out.contains (.event false .tdmLocked [5]))) = true := by decide +kernel

theorem test_tdmFrameMissing_conditions : rd (port5 1 2 { miss := 1 }) (E.tdm_ROLE 5) ≠ 0 ∧
    rd (port5 1 2 { miss := 1 }) (E.tdm_STATE 5) = 2 ∧ (tdmOf (port5 1 2 { miss := 1 }) 5).miss = 1 ∧ pdOn (port5 1 2 {}) 12 = true ∧
    pdOn (port5 1 2 {}) 2 = true ∧ (tdmOf (port5 1 2 {}) 5).miss = 0 ∧ rd (port5 0 2 {}) (E.tdm_ROLE 5) = 0 := by decide +kernel

theorem test_tdmFrameMissing : nx (exec (.tdmFrameMissing 5) (port5 1 2 { miss := 1, good := 9 })) (fun t =>
    decide (rd t (E.tdm_STATE 5) = 3 ∧ rd t (E.tdm_SYNC_LOSSES 5) = 1 ∧ t.out = [.event false .tdmSyncLost [5]])) = true :=
    by decide +kernel

/-- A state or operand for the tests below. -/
def flying : State := wrs (port5 1 2 {}) [(E.aud_A_REF, 6), (E.aud_STATE_A 0, 2)]

theorem test_refPhaseMatch_conditions : refPort flying 0 = some 5 ∧ domState flying 0 = 2 ∧ rd flying (E.tdm_STATE 5) = 2 ∧
    pdOn flying 12 = true ∧ domState open6 0 ≠ 2 := by decide +kernel

theorem test_refPhaseMatch : nx (exec (.refPhaseMatch 0 true) flying) (fun t => decide (rd t (E.aud_STATE_A 0) = 1 ∧
    rd t E.aud_SLIPS = 1)) = true := by decide +kernel

theorem test_asrcLocked_conditions :
    rd (sounding [(E.asrc_STATE 15, 2), (E.asrc_RATIO 15, 1000000)]) (E.asrc_RATIO 15) < 1000 * (1001001 - 1000000 + (1000000 - 1001001)) ∧
    1000 * (1001000 - 1000000 + (1000000 - 1001000)) ≤ rd (sounding [(E.asrc_STATE 15, 2), (E.asrc_RATIO 15, 1000000)]) (E.asrc_RATIO 15) ∧
    rd (sounding [(E.asrc_STATE 15, 1)]) (E.asrc_STATE 15) = 1 ∧ pdOn (sounding []) 2 = true ∧ rd open6 (E.asrc_STATE 15) ≠ 1 :=
    by decide +kernel

theorem test_asrcLocked : nx (exec (.asrcLocked 15 0x01000000) (sounding [(E.asrc_STATE 15, 1)])) (fun t =>
    decide (rd t (E.asrc_STATE 15) = 2 ∧ rd t (E.asrc_RATIO 15) = 0x01000000)) = true := by decide +kernel

theorem test_busSilenceHoldExpiry_conditions : (busOf (wr (sounding []) (E.bus_SILENT 31) 0) 31).quiet.isSome = true ∧
    rd (wr (sounding []) (E.bus_SILENT 31) 0) (E.bus_SILENT 31) = 0 ∧ pdOn (sounding []) 12 = true ∧ pdOn (sounding []) 2 = true ∧
    (busOf (setBus (sounding []) 3 { quiet := none }) 3).quiet = none := by decide +kernel

theorem test_busSilenceHoldExpiry : nx (exec (.busSilenceHoldExpiry 31) (wrs (sounding []) ((List.range 32).map (fun b =>
    (E.bus_SILENT b, 0)) ++ [(E.aud_AMP_MASK 7, 2 ^ 31), (E.aud_AMP_MASK 6, 2 ^ 31 + 1)]))) (fun t => decide (rd t (E.bus_SILENT 31) = 1 ∧
    bitOf (rd t E.aud_AMP_STATE) 7 = false ∧ bitOf (rd t E.aud_AMP_STATE) 6 = true)) = true := by decide +kernel

theorem test_audMclkbClockChange_conditions : pdOn (sounding [(E.aud_B_REF, 7)]) 12 = true ∧ domRef (sounding [(E.aud_B_REF, 7)]) 1 = 7 :=
    by decide +kernel

theorem test_audMclkbClockChange : nx (exec (.audMclkbClockChange true) (sounding [(E.aud_B_REF, 7), (E.aud_STATE_A 1, 0)])) (fun t =>
    decide (rd t (E.aud_STATE_A 1) = 1)) = true := by decide +kernel

/-- A state or operand for the tests below. -/
def audQ (op : Nat) (l : List Nat) : Taken := { op := op, len := l.length, args := l }

/-- A state or operand for the tests below. -/
def iclAud (s : State) (n op : Nat) (l : List Nat) : State := setIcl s n { state := 1, taken := some (audQ op l) }

theorem test_audioApply_conditions : iclAsks (iclAud (sounding []) 0 0xF001 [5]) 0 0xF001 (audQ 0xF001 [5]) = true ∧
    pdOn (sounding []) 12 = true ∧ applyWaits (sounding []) 0 = [] ∧ [0, 1, 2].filter (fun d =>
    sequencerOf d == 0 && bitOf 5 d && domState (sounding []) d != 0) = [0, 2] ∧ domState (wr (sounding []) (E.aud_STATE_A 1) 0) 1 = 0 ∧
    (iclOf open6 0).taken = none := by decide +kernel

theorem test_audioApply : nx (exec (.audioApply 0) (iclAud (sounding []) 0 0xF001 [5])) (fun t => decide (applyWaits t 0 = [0, 2] ∧
    (iclOf t 0).state = 1)) = true := by decide +kernel

theorem test_audioApply2 : nx (exec (.audioApply 1) (iclAud (wr (sounding []) (E.aud_STATE_A 1) 0) 1 0xF001 [7])) (fun t =>
    decide (applyWaits t 1 = [] ∧ (iclOf t 1).state = 2)) = true := by decide +kernel

theorem test_audioIclStream_conditions :
    iclAsks (iclAud (sounding []) 1 0xF002 [31, 5, 0x1000, 16, 2, 0x100]) 1 0xF002 (audQ 0xF002 [31, 5, 0x1000, 16, 2, 0x100]) = true ∧
    argOf (audQ 0xF002 [31, 5, 0x1000, 16, 2, 0x100]) 2 = 31 ∧ argOf (audQ 0xF002 [31, 0xFFFF]) 3 = 0xFFFF ∧
    32 ≤ argOf (audQ 0xF002 [32]) 2 := by decide +kernel

theorem test_audioIclStream : nx (exec (.audioIclStream 1) (iclAud (sounding []) 1 0xF002 [31, 5, 0x1000, 16, 2, 0x100])) (fun t =>
    decide ((streamOf t 31).opened = some { client := 5, ring := 0x1000 } ∧ rd t (E.hs_HOLDER 31) = 5 ∧ (iclOf t 1).state = 2)) = true :=
    by decide +kernel

/-- Stream 31 captures bus 0 for guest 0; client 5 has a window of 24 pages, two of them backed. -/
def streaming (l : List (Nat × Nat)) (x : StreamRec) : State :=
  setStream (wrs (setCharm (setGuest (sounding [(E.guest_CARVE_PAGES 0, 24)]) 0 { table := [⟨0, 20000, 1⟩, ⟨1, 20001, 1⟩] }) 5 (charm one 5 + 2 ^ 6 + 23 * 2 ^ 224)) ([(E.hs_DIR 31, 1), (E.hs_FIRST 31, 0), (E.hs_LANES 31, 1), (E.hs_GUESTS 31, 1)] ++ l)) 31 x

/-- A state or operand for the tests below. -/
def soQ (p : Nat) : Taken := audQ 0x5001 [31, 0x1000, 16, p, 0x100]

theorem test_streamOpen_conditions : asks (asking (streaming [] {}) (soQ 2)) 5 0x5001 5 (soQ 2) = true ∧
    streamRight (streaming [] {}) 5 31 = true ∧ (streamOf (streaming [] {}) 31).opened = none ∧ pdOn (streaming [] {}) 12 = true ∧
    lanesOk (rd (streaming [] {})) 31 = true ∧ domState (streaming [] {}) (streamDomain (streaming [] {}) 31) ≠ 0 ∧
    geometryFits (soQ 2) = true ∧ geometryFits (soQ 1) = false ∧
   inWindow (streaming [] {}) 5 0x1000 (64 + 2 * 16 * 1 * 2) = true ∧ streamRight (streaming [(E.hs_GUESTS 31, 2)] {}) 5 31 = false ∧
       (streamOf (streaming [] { opened := some { client := 5 } }) 31).opened = some { client := 5 } := by decide +kernel

theorem test_streamOpen : nx (exec (.streamOpen 5) (asking (streaming [] {}) (soQ 2))) (fun t =>
    decide ((streamOf t 31).opened = some { client := 5, ring := 0x1000 } ∧ rd t (E.hs_HOLDER 31) = 5)) = true := by decide +kernel

theorem test_streamClose_conditions :
    asks (asking (streaming [] { opened := some { client := 5 }, level := 7 }) (audQ 0x5002 [31])) 5 0x5002 1 (audQ 0x5002 [31]) = true ∧
    streamHeldBy (streaming [] { opened := some { client := 5 } }) 5 31 = true ∧
    streamHeldBy (streaming [] { opened := some { client := 6 } }) 5 31 = false ∧ streamRight (streaming [] {}) 5 31 = true :=
    by decide +kernel

theorem test_streamClose :
    nx (exec (.streamClose 5) (asking (streaming [(E.hs_HOLDER 31, 5), (E.hs_STATE 31, 1)] { opened := some { client := 5 }, level := 7, index := 3 }) (audQ 0x5002 [31]))) (fun t =>
    decide (streamOf t 31 = { level := 7 } ∧ rd t (E.hs_HOLDER 31) = 0xFFFF ∧ rd t (E.hs_STATE 31) = 0)) = true := by decide +kernel

theorem test_streamQuery_conditions :
    asks (asking (streaming [(E.hs_DIR 31, 0)] {}) (audQ 0x5003 [31])) 5 0x5003 1 (audQ 0x5003 [31]) = true ∧
    rd (streaming [(E.hs_DIR 31, 0)] {}) (E.hs_DIR 31) = 0 ∧ (streamOf (streaming [] { opened := some {} }) 31).opened = some {} ∧
    rd (streaming [] {}) (E.hs_DIR 31) ≠ 0 := by decide +kernel

/-- A state or operand for the tests below. -/
def playback (w st : Nat) (x : StreamRec) :
    State := putAt (streaming [(E.hs_DIR 31, 0), (E.hs_STATE 31, st)] x) ((winAddr (streaming [] {}) 5 0x1000).getD 0) (leBytes 4 w)

/-- A state or operand for the tests below. -/
def strm (i : Nat) : StreamRec := { opened := some { client := 5, ring := 0x1000 }, index := i }

theorem test_streamPeriodBoundary_conditions : (streamOf (playback 5 1 (strm 2)) 31).opened = some { client := 5, ring := 0x1000 } ∧
    rd (playback 5 1 (strm 2)) (E.hs_DIR 31) = 0 ∧ rd (playback 5 1 (strm 2)) (E.hs_STATE 31) = 1 ∧
    domState (playback 5 1 (strm 2)) (streamDomain (playback 5 1 (strm 2)) 31) ≠ 0 ∧
    ahead (playback 5 1 (strm 2)) { client := 5, ring := 0x1000 } 3 = 2 ∧
   ahead (playback 3 1 (strm 2)) { client := 5, ring := 0x1000 } 3 = 0 ∧ pdOn (playback 3 1 (strm 2)) 2 = true ∧
       rd (streaming [] (strm 0)) (E.hs_DIR 31) ≠ 0 ∧
       (streamOf (streaming [] (strm 0)) 31).cap.length < 16 * rd (streaming [] (strm 0)) (E.hs_LANES 31) ∧
       (streamOf open6 31).opened = none := by decide +kernel

theorem test_streamPeriodBoundary : nx (exec (.streamPeriodBoundary 31) (playback 5 1 (strm 2))) (fun t =>
    decide ((streamOf t 31).index = 3 ∧ winWord t 5 0x1004 = 3 ∧ winWord t 5 0x1008 = 1 ∧ (claspOf t 5).event = 32)) = true :=
    by decide +kernel

theorem test_streamPeriodBoundary2 : nx (exec (.streamPeriodBoundary 31) (playback 6 2 { strm 3 with count := 1 })) (fun t =>
    decide ((streamOf t 31).index = 5 ∧ rd t (E.hs_STATE 31) = 1 ∧ t.out.contains (.event false .streamResumed [31]))) = true :=
    by decide +kernel

end Sys2Proof.Tests
end

section
/-! SUPPORT. What a served read of a dictionary entry answers, and why the object dictionary does not always answer an entry's live
value: a COB-ID that nothing has written reads as its Default plus a node's number (R104, log 202). -/

namespace Sys2Proof.Proofs

open Sys2Proof Sys2Proof.Machine Sys2Proof.Laws

/-- A whole-value read that R77 lets pass: the ring-log slot counts as read (R40), and the answer carries the live value as the access's
path reads it (R104). -/
theorem performAccess_read (s : State) (a : Access) (f : Found) (hclient : clientStranger s a.who = false) (hread : a.write = false)
    (hwhole : a.part = none) (hright : denial s a.who false a.idx a.sub = none) (hentry : findEntry a.idx a.sub = some f) :
    performAccess s a = answerAccess (markRead s (dkey a.idx a.sub)) a 0
      (cobRead s a.path (dkey a.idx a.sub) (valueBytes s (setNo a.who) (dkey a.idx a.sub))) := by
  have hdo : doRead s a = (markRead s (dkey a.idx a.sub), 0,
      cobRead s a.path (dkey a.idx a.sub) (valueBytes s (setNo a.who) (dkey a.idx a.sub))) := by
    simp [doRead, hright, hentry, hwhole, readPartBad]
  simp [performAccess, hclient, hread, hdo]

/-- SDO_UPLOAD over CoE of an entry that the field network may read (R77, R79). -/
theorem exec_sdoUpload_served (s : State) (i n : Nat) (f : Found) (hopen : reaches s .field = true)
    (hright : denial s .field false i n = none) (hentry : findEntry i n = some f) :
    exec (.sdoUpload .coe i n) s = .next (emit (markRead s (dkey i n))
      (.msg (.sdo 0) [(i : Int), (n : Int), 0, 0] (cobRead s 0 (dkey i n) (valueBytes s 0 (dkey i n))))) := by
  simp only [reaches, Bool.and_eq_true, decide_eq_true_eq, beq_iff_eq] at hopen
  obtain ⟨⟨hstep, hpower⟩, hawake, hsdo⟩ := hopen
  rw [exec_sdoUpload, execSdoUpload, pathNo, if_pos hsdo, arrive_open s _ hstep hpower (.inr hawake) rfl,
    performAccess_read s _ f rfl rfl rfl hright hentry]
  rfl

/-- The dictionary is up, EtherCAT is in PREOP, and CAN node 0 has started with its enable and node number 9 in force. -/
def nodeNineUp : State :=
  canStart (wr (wr { State.reset with boot := { State.reset.boot with step := 7 }, field := { State.reset.field with al := 2 } }
    E.comm_CAN_ENABLE 1) E.comm_CAN0_NODE_ID 9) 0

/-- The field network's read of COB-ID of TPDO1 is served in `nodeNineUp`. -/
theorem nodeNineUp_serves_cobId : reaches nodeNineUp .field = true ∧ denial nodeNineUp .field false 0x1800 1 = none ∧
    (findEntry 0x1800 1).isSome = true := by decide +kernel

/-- The live value of COB-ID of TPDO1 is its Default 0x180, and node 9 reads it as 0x189 (R104). -/
theorem nodeNineUp_cobId_values : valueBytes nodeNineUp 0 (dkey 0x1800 1) = leBytes 4 0x180 ∧
    cobRead nodeNineUp 0 (dkey 0x1800 1) (leBytes 4 0x180) = leBytes 4 0x189 := by decide +kernel

/-- Refutes O12: its SDO_UPLOAD clause answers every entry's live value, but a COB-ID that has not been written is answered as its
Default plus the node number of CAN controller 0 (R104, log 202). With node number 9, TPDO1's reads 0x189 where the clause says 0x180. -/
theorem not_dictionaryAccessesAreServed : ¬ Obligations.DictionaryAccessesAreServed := by
  unfold Obligations.DictionaryAccessesAreServed
  rintro ⟨-, -, -, -, hupload, -⟩
  obtain ⟨hopen, hright, hsome⟩ := nodeNineUp_serves_cobId
  obtain ⟨f, hentry⟩ := Option.isSome_iff_exists.mp hsome
  obtain ⟨hlive, hread⟩ := nodeNineUp_cobId_values
  obtain ⟨t, hexec, hout, -⟩ := hupload nodeNineUp 0x1800 1 f (by decide) hopen hright hentry
  rw [exec_sdoUpload_served nodeNineUp 0x1800 1 f hopen hright hentry, hlive, hread] at hexec
  injection hexec with hstate
  rw [← hstate, hlive] at hout
  have hbytes : leBytes 4 0x189 = leBytes 4 0x180 := by
    simpa [emit] using (List.cons.inj hout).1
  exact absurd hbytes (by decide)

end Sys2Proof.Proofs
end

section
/-! SUPPORT. The window of a client outside its guest's range (R24): a violation that a guest is charged with leaves the ranges of clients
as they were, a TLP is the whole of its parts (R51), and every part of it reads 0 and writes nothing. -/

namespace Sys2Proof.Proofs

open Sys2Proof Sys2Proof.Machine Sys2Proof.Laws

/-! ### What a violation leaves in the dictionary and the clasps (R37, R38, R41) -/

theorem rd_bump_ne (s : State) {j k : Nat} (h : j ≠ k) : rd (bump s k) j = rd s j := rd_wr_ne s _ h

theorem rd_queueEmcy_ne (s : State) (m : Emcy) {j : Nat} (h : j ≠ E.comm_EMCY_DROPPED) : rd (queueEmcy s m) j = rd s j := by
  unfold queueEmcy
  split
  · rfl
  · exact rd_bump_ne _ h

theorem rd_emcy_ne (s : State) (code b0 rest : Nat) {j : Nat} (h : j ≠ E.comm_EMCY_DROPPED) : rd (emcy s code b0 rest) j = rd s j := by
  unfold emcy
  split
  · rfl
  · exact rd_queueEmcy_ne s _ h

theorem rd_logViolation_ne (s : State) (v : Viol) {j : Nat} (h : j ≠ E.viol_LOST) : rd (logViolation s v) j = rd s j := by
  unfold logViolation
  split
  · rfl
  · exact rd_bump_ne s h

theorem rd_countViolation_ne (s : State) (g : Nat) {j : Nat} (hdropped : j ≠ E.comm_EMCY_DROPPED) (hcount : j ≠ E.guest_VIOLATIONS g) :
    rd (countViolation s g) j = rd s j := by
  have hbump : rd (bump s (E.guest_VIOLATIONS g)) j = rd s j := rd_bump_ne s hcount
  unfold countViolation
  dsimp only
  split
  · rw [rd_emcy_ne _ _ _ _ hdropped, rd_setGuest, hbump]
  · rw [rd_setGuest, hbump]

/-- The entries that a violation of a guest can change: its VIOLATIONS, LOST of the ring and the count of dropped EMCYs. -/
theorem rd_violate_ne (s : State) (kind path addr g : Nat) (client : Option Nat) {j : Nat} (hlost : j ≠ E.viol_LOST)
    (hdropped : j ≠ E.comm_EMCY_DROPPED) (hcount : j ≠ E.guest_VIOLATIONS g) :
    rd (violate s kind path addr client (some g)) j = rd s j := by
  unfold violate
  rw [rd_logViolation_ne _ _ hlost, rd_countViolation_ne s g hdropped hcount]

theorem inRange_violate (s : State) (kind path addr f g c : Nat) (client : Option Nat) :
    inRange (violate s kind path addr client (some f)) g c = inRange s g c := by
  have hfirst : rd (violate s kind path addr client (some f)) (E.guest_FIRST_CLIENT g) = rd s (E.guest_FIRST_CLIENT g) := by
    apply rd_violate_ne <;> simp only [E.guest_FIRST_CLIENT, E.viol_LOST, E.comm_EMCY_DROPPED, E.guest_VIOLATIONS] <;> omega
  have hcount : rd (violate s kind path addr client (some f)) (E.guest_CLIENT_COUNT g) = rd s (E.guest_CLIENT_COUNT g) := by
    apply rd_violate_ne <;> simp only [E.guest_CLIENT_COUNT, E.viol_LOST, E.comm_EMCY_DROPPED, E.guest_VIOLATIONS] <;> omega
  unfold inRange
  rw [hfirst, hcount]

theorem violate_clasp (s : State) (kind path addr : Nat) (client guest : Option Nat) :
    (violate s kind path addr client guest).clasp = s.clasp := by
  have hod : May [.od, .ten, .field] .od := ⟨by decide⟩
  have hten : May [.od, .ten, .field] .ten := ⟨by decide⟩
  have hfield : May [.od, .ten, .field] .field := ⟨by decide⟩
  exact (violate_kept (chg := [.od, .ten, .field]) (Kept.refl _ s) kind path addr client guest).parts .clasp (by decide)

/-! ### The parts of a TLP (R51) -/

/-- Where part `i` of a TLP at window offset `off` begins, counted in bytes of the TLP. -/
def partCut (off i : Nat) : Nat := if i = 0 then 0 else (off / 64 + i) * 64 - off

theorem partCut_succ (off i : Nat) : partCut off (i + 1) = (off / 64 + (i + 1)) * 64 - off := if_neg (Nat.succ_ne_zero i)

theorem partCut_le_succ (off i : Nat) : partCut off i ≤ partCut off (i + 1) := by
  rw [partCut_succ]
  unfold partCut
  split <;> omega

theorem splitParts_eq_cuts {α : Type} (off : Nat) (bytes : List α) :
    splitParts off bytes = (List.range (bytes.length / 64 + 2)).map (fun i =>
      (off + partCut off i, slice bytes (partCut off i) (partCut off (i + 1) - partCut off i))) := by
  unfold splitParts
  refine List.map_congr_left fun i _ => ?_
  have hlo : (if i = 0 then off else (off / 64 + i) * 64) = off + partCut off i := by
    unfold partCut
    split <;> omega
  have hhi : (off / 64 + i + 1) * 64 = off + partCut off (i + 1) := by
    rw [partCut_succ]
    omega
  simp only [hlo, hhi]
  rw [Nat.add_sub_cancel_left, Nat.add_sub_add_left]

/-- A part begins no earlier than its TLP. -/
theorem le_of_mem_splitParts {α : Type} {off : Nat} {bytes : List α} {p : Nat × List α} (h : p ∈ splitParts off bytes) : off ≤ p.1 := by
  rw [splitParts_eq_cuts] at h
  obtain ⟨i, -, rfl⟩ := List.mem_map.mp h
  exact Nat.le_add_right _ _

/-- The slices between rising cuts, laid end to end, are what stands before the last cut. -/
theorem flatMap_slices_eq_take {α : Type} (l : List α) (cut : Nat → Nat) (hzero : cut 0 = 0) (hrise : ∀ i, cut i ≤ cut (i + 1)) (n : Nat) :
    (List.range n).flatMap (fun i => slice l (cut i) (cut (i + 1) - cut i)) = l.take (cut n) := by
  induction n with
  | zero => simp [hzero]
  | succ n ih =>
    have hcut : cut (n + 1) = cut n + (cut (n + 1) - cut n) := by have := hrise n; omega
    rw [List.range_succ, List.flatMap_append, ih, List.flatMap_singleton, slice, hcut, List.take_add, ← hcut]

/-- The parts of a TLP are its bytes, each once and in order. -/
theorem splitParts_flatMap {α : Type} (off : Nat) (bytes : List α) : (splitParts off bytes).flatMap (·.2) = bytes := by
  rw [splitParts_eq_cuts, List.flatMap_map,
    flatMap_slices_eq_take bytes (partCut off) rfl (partCut_le_succ off), List.take_of_length_le]
  rw [partCut_succ]
  omega

/-- As many bytes are enabled as byte enables are set. -/
theorem enabledAt_length (be : List Bool) : (enabledAt be).length = be.count true := by
  have hbe : (List.range be.length).map (at0 false be) = be :=
    List.ext_getElem (by simp) fun i _ hi => by simp [at0, hi]
  calc (enabledAt be).length = (List.range be.length).countP (at0 false be) := List.countP_eq_length_filter.symm
    _ = ((List.range be.length).map (at0 false be)).count true := by
      rw [List.count, List.countP_map]; congr 1; funext i; simp
    _ = be.count true := by rw [hbe]

/-! ### Reads and writes of a window outside its guest's range (R24, R49) -/

theorem readPart_absent (s : State) (g c off : Nat) (be : List Bool) (h : inRange s g c = false) :
    readPart s g c off be = (s, List.replicate (be.count true) 0) := by
  simp [readPart, h, List.map_const', enabledAt_length]

theorem foldl_readPart_absent (s : State) (g c : Nat) (h : inRange s g c = false) (ps : List (Nat × List Bool)) (read : List Byte) :
    ps.foldl (fun (a : State × List Byte) p =>
        let b := readPart a.1 g c p.1 p.2
        (b.1, a.2 ++ b.2)) (s, read)
      = (s, read ++ List.replicate ((ps.flatMap (·.2)).count true) 0) := by
  induction ps generalizing read with
  | nil => simp
  | cons p ps ih =>
    simp only [List.foldl_cons, readPart_absent s g c p.1 p.2 h]
    rw [ih, List.flatMap_cons, List.count_append, List.append_assoc, List.replicate_append_replicate]

/-- Every read of an absent window returns zeros. -/
theorem bar0Read_absent (s : State) (f c off : Nat) (be : List Bool) (hserving : serving s f = true) (h : inRange s f c = false) :
    bar0Read s f c off be = send s (.bar f 0) [0] (List.replicate (enabledAt be).length 0) := by
  rw [bar0Read, if_pos hserving]
  dsimp only
  rw [foldl_readPart_absent s f c h, splitParts_flatMap, List.nil_append, enabledAt_length]

/-- A write part can do no more to an absent window than enter a violation, for a GO in word 15. -/
theorem windowPart_absent (s : State) (g c off : Nat) (bytes : List (Option Byte)) (h : inRange s g c = false) :
    windowPart s g c off bytes =
      if writesGo off bytes then violate s 0x07 0 (c * 4096 + 0x3C) (some c) (some g) else s := by
  simp [windowPart, h]

/-- Every write of an absent window leaves the clasps as they were. -/
theorem foldl_windowPart_absent_clasp (s : State) (g c : Nat) (h : inRange s g c = false) (ps : List (Nat × List (Option Byte))) :
    (ps.foldl (fun t p => windowPart t g c p.1 p.2) s).clasp = s.clasp := by
  induction ps generalizing s with
  | nil => rfl
  | cons p ps ih =>
    rw [List.foldl_cons, windowPart_absent s g c p.1 p.2 h]
    split
    · rw [ih _ ((inRange_violate ..).trans h), violate_clasp]
    · exact ih s h

theorem bar0Write_absent_clasp (s : State) (f c off : Nat) (bytes : List (Option Byte)) (h : inRange s f c = false) :
    (bar0Write s f c off bytes).clasp = s.clasp := by
  unfold bar0Write
  split
  · exact foldl_windowPart_absent_clasp s f c h _
  · rfl

/-- A write of an absent window behind its request block does nothing at all: GO lies in the request block. -/
theorem bar0Write_absent_behind (s : State) (f c off : Nat) (bytes : List (Option Byte)) (hoff : 64 ≤ off) (h : inRange s f c = false) :
    bar0Write s f c off bytes = s := by
  have hpart : ∀ p ∈ splitParts off bytes, windowPart s f c p.1 p.2 = s := fun p hp => by
    have hline : p.1 / 64 ≠ 0 := by have := le_of_mem_splitParts hp; omega
    simp [windowPart_absent s f c p.1 p.2 h, writesGo, hline]
  unfold bar0Write
  split
  · refine List.foldlRecOn (motive := fun t => t = s) _ _ rfl fun t ht p hp => ?_
    rw [ht, hpart p hp]
  · rfl

/-- Settles O55: what a read returns and what a write can do come part by part from `readPart` and `windowPart`. -/
theorem absentWindowsReadZero : Obligations.AbsentWindowsReadZero := by
  intro s f c hserving habsent
  have hread := fun off be => bar0Read_absent s f.val c.val off be hserving habsent
  have hwrite := fun off bytes hoff => bar0Write_absent_behind s f.val c.val off bytes hoff habsent
  refine ⟨fun off be => ?_, ?_, ?_, fun off bytes => ⟨_, rfl, bar0Write_absent_clasp s f.val c.val off bytes habsent⟩,
    fun b => ?_, fun w => ?_, fun w => ?_⟩
  · rw [exec_resultHeaderRead, execResultHeaderRead, hread]
  · rw [exec_discardsRead, execDiscardsRead, hread]; rfl
  · rw [exec_dqPop, execDqPop, hread]; rfl
  · rw [exec_eventClear, execEventClear, hwrite _ _ (by decide)]
  · rw [exec_claspModeWrite, execClaspModeWrite, hwrite _ _ (by decide)]
  · rw [exec_dqPush, execDqPush, hwrite _ _ (by decide)]

end Sys2Proof.Proofs
end

section
/-! SUPPORT. The commands that reach one guest: configuration requests (R21, R477), the resets of a function and of a client (R22, R31),
BAR4 (R70) and the violation ring (R40, R41). One lemma for what each operation leaves where the statement looks. -/

namespace Sys2Proof.Proofs

open Sys2Proof Sys2Proof.Machine Sys2Proof.Laws

/-! ### Configuration requests (R477) -/

theorem exec_pcieConfigRequest_open {s : State} {f : Func} (req : CfgReq) (h : configOpen s f.val = true) :
    exec (.pcieConfigRequest f req) s = .next (configServe s f.val req) := by
  rw [exec_pcieConfigRequest, execPcieConfigRequest, if_pos h]

theorem configOpen_of_retrying {s : State} {f : Nat} (h : retrying s f = true) : configOpen s f = false := by
  simp [configOpen, h]

/-- A base address register as it reads after a write of it: the bits its size leaves, and its type bits. -/
theorem barWord_setBar_same (s : State) (vf : Bool) (n v : Nat) :
    barWord (setBar s vf n v) vf n = Nat.land v (barMask vf n) + barType n := by
  simp only [barWord, setBar, tget_tset_same]

theorem barWord_setBar_ne (s : State) {vf vf' : Bool} {n m : Nat} (v : Nat) (h : 6 * b2n vf' + m ≠ 6 * b2n vf + n) :
    barWord (setBar s vf n v) vf' m = barWord s vf' m := by
  simp only [barWord, setBar, tget_tset_ne _ _ _ h]

/-! ### A guest's STATE, and the guests of NumVFs (R21, R43) -/

theorem rd_settleGuest_state (s : State) (g : Nat) : rd (settleGuest s g) (E.guest_STATE g) =
    if (guestRec s g).flr ∨ (guestRec s g).disabling then 1 else if guestExists s g then 2 else 0 := rd_wr_same ..

@[simp] theorem guestRec_settleGuest (s : State) (g j : Nat) : guestRec (settleGuest s g) j = guestRec s j := rfl

@[simp] theorem portRec_settleGuest (s : State) (g j : Nat) : portRec (settleGuest s g) j = portRec s j := rfl

@[simp] theorem portRec_setGuest (s : State) (g j : Nat) (r : GuestRec) : portRec (setGuest s g r) j = portRec s j := rfl

@[simp] theorem portRec_wr (s : State) (k v j : Nat) : portRec (wr s k v) j = portRec s j := rfl

@[simp] theorem dramByte_settleGuest (s : State) (g a : Nat) : dramByte (settleGuest s g) a = dramByte s a := rfl

theorem foldl_settleGuest_ten (l : List Nat) (s : State) : (l.foldl settleGuest s).ten = s.ten := by
  induction l generalizing s with
  | nil => rfl
  | cons g l ih => exact ih (settleGuest s g)

theorem setNumVfs_numVfs (s : State) (n : Nat) : (setNumVfs s n).ten.numVfs = n := by
  rw [setNumVfs, foldl_settleGuest_ten]

/-! ### Resets of a guest and of a client (R22, R31) -/

theorem guestRec_guestReset (s : State) (g : Nat) (off : Bool) : (guestRec (guestReset s g off) g).flr = true ∧
    (guestRec (guestReset s g off) g).clientsPending = true ∧
    (guestRec (guestReset s g off) g).zeroing = (rd s (E.guest_FLR_ZERO g) == 1) := by
  simp [guestReset]

/-- While its reset runs a guest's STATE reads 1 (R43). -/
theorem rd_guestReset_state (s : State) (g : Nat) (off : Bool) : rd (guestReset s g off) (E.guest_STATE g) = 1 := by
  rw [guestReset, rd_settleGuest_state, guestRec_setGuest, if_pos (.inl rfl)]

theorem portRec_guestReset (s : State) (g : Nat) (off : Bool) : portRec (guestReset s g off) g = {} := by
  rw [guestReset, portRec_settleGuest, portRec_setGuest, portRec_wr, portRec_setPort]

theorem zeroCarve_ten (s : State) (g : Nat) : (zeroCarve s g).ten = s.ten := by
  have hmem : May [.mem, .memc] .mem := ⟨by decide⟩
  have hmemc : May [.mem, .memc] .memc := ⟨by decide⟩
  exact (zeroCarve_kept (chg := [.mem, .memc]) (Kept.refl _ s) g).parts .ten (by decide)

theorem dramByte_zeroCarve {s : State} {g a : Nat} {e : Extent} (he : e ∈ (guestRec s g).table) (hlo : e.phys * pageSize ≤ a)
    (hhi : a < e.phys * pageSize + e.count * pageSize) : dramByte (zeroCarve s g) a = 0 :=
  dramByte_zeroed _ s a (.inr ⟨e, he, hlo, hhi⟩)

/-- A reset that waits for nothing more is at its end. -/
theorem finishReset_done {s : State} {g : Nat} (hflr : (guestRec s g).flr = true) (hclients : (guestRec s g).clientsPending = false)
    (hzeroing : (guestRec s g).zeroing = false) :
    finishReset s g = settleGuest (setGuest s g { guestRec s g with flr := false, disabling := false }) g := by
  simp [finishReset, hflr, hclients, hzeroing]

/-- The zeroing that ends a guest's reset. -/
theorem carveZeroed_done {s : State} {g : Nat} (hzeroing : (guestRec s g).zeroing = true) (hflr : (guestRec s g).flr = true)
    (hclients : (guestRec s g).clientsPending = false) :
    carveZeroed s g = settleGuest (setGuest (setGuest (zeroCarve s g) g { guestRec s g with zeroing := false }) g
      { guestRec s g with zeroing := false, flr := false, disabling := false }) g := by
  have hrec : guestRec (zeroCarve s g) g = guestRec s g := by rw [guestRec, zeroCarve_ten, ← guestRec]
  rw [carveZeroed]
  dsimp only
  rw [if_pos hzeroing, hrec, finishReset_done] <;> simp [hflr, hclients]

@[simp] theorem guestExists_setGuest (s : State) (g j : Nat) (r : GuestRec) : guestExists (setGuest s g r) j = guestExists s j := rfl

@[simp] theorem guestExists_zeroCarve (s : State) (g j : Nat) : guestExists (zeroCarve s g) j = guestExists s j := by
  simp only [guestExists, zeroCarve_ten]

/-- A reset of one client ends when nothing of it is left (R31). -/
theorem clientResetDone_quiet {s : State} {g : Nat} (hnamed : rd s (E.guest_RESET_CLIENT g) ≠ 0xFFFF)
    (hquiet : clientQuiet s (rd s (E.guest_RESET_CLIENT g)) = true) (hclients : (guestRec s g).clientsPending = false) :
    clientResetDone s g = wr s (E.guest_RESET_CLIENT g) 0xFFFF := by
  have hrec : (guestRec (wr s (E.guest_RESET_CLIENT g) 0xFFFF) g).clientsPending = false := hclients
  simp [clientResetDone, hnamed, hquiet, hrec]

/-! ### BAR4 within a page (R70) -/

theorem bar4Read_mapped {s : State} {f off n p : Nat} (hserving : serving s f = true) (hpos : 0 < n)
    (hpage : off % pageSize + n ≤ pageSize) (hpart : bar4Part s f off false = (0, some p)) :
    bar4Read s f off n = send s (.bar f 4) [0] ((rangeFrom p n).map (memRd s)) := by
  simp [bar4Read, hserving, pageParts_one off n hpos hpage, hpart, memRdAll]

theorem bar4Read_refused {s : State} {f off n k : Nat} (hserving : serving s f = true) (hpos : 0 < n)
    (hpage : off % pageSize + n ≤ pageSize) (hpart : bar4Part s f off false = (k, none)) (hkind : k ≠ 0) :
    bar4Read s f off n = violate (send s (.bar f 4) [0] (List.replicate n 0xFF)) k 2 off none (some f) := by
  simp [bar4Read, hserving, pageParts_one off n hpos hpage, hpart, hkind]

theorem bar4Write_mapped {s : State} {f off p : Nat} {bytes : List (Option Byte)} (hserving : serving s f = true)
    (hbytes : bytes ≠ []) (hpage : off % pageSize + bytes.length ≤ pageSize) (hpart : bar4Part s f off true = (0, some p)) :
    bar4Write s f off bytes = memWrAll s ((List.range bytes.length).map (fun i => (p + i, at0 none bytes i))) := by
  simp [bar4Write, hserving, pageParts_one off _ (List.length_pos_iff.mpr hbytes) hpage, hpart]

theorem bar4Write_refused {s : State} {f off k : Nat} {bytes : List (Option Byte)} (hserving : serving s f = true)
    (hbytes : bytes ≠ []) (hpage : off % pageSize + bytes.length ≤ pageSize) (hpart : bar4Part s f off true = (k, none)) :
    bar4Write s f off bytes = violate s k 2 off none (some f) := by
  simp [bar4Write, hserving, pageParts_one off _ (List.length_pos_iff.mpr hbytes) hpage, hpart]

/-! ### The violation ring (R40, R41) -/

/-- No slot of a ring log is an entry of its control record. -/
theorem slotKey_ne_control (idx n : Nat) {sub : Nat} (h : sub < 256) : slotKey idx n ≠ dkey idx sub := by
  unfold slotKey dkey
  omega

theorem rd_ringEnter_slot (s : State) (idx size : Nat) (read : List Nat) (v : Nat) :
    rd (ringEnter s idx size read v) (slotKey idx (rd s (dkey idx 1))) = v := by
  rw [ringEnter, rd_wr_ne _ _ (slotKey_ne_control idx _ (by decide)), rd_wr_same]

theorem rd_ringEnter_next (s : State) (idx size : Nat) (read : List Nat) (v : Nat) :
    rd (ringEnter s idx size read v) (dkey idx 1) = if rd s (dkey idx 1) = size then 1 else rd s (dkey idx 1) + 1 := rd_wr_same ..

theorem ringEnter_ten (s : State) (idx size : Nat) (read : List Nat) (v : Nat) : (ringEnter s idx size read v).ten = s.ten := by
  have hod : May [.od] .od := ⟨by decide⟩
  exact (ringEnter_kept (chg := [.od]) (Kept.refl _ s) idx size read v).parts .ten (by decide)

/-- A violation that does not fold takes the slot that NEXT_SLOT names, and NEXT_SLOT moves on. -/
theorem violationLogged_enters {s : State} {v : Viol} {rest : List Viol} (hqueue : s.ten.violQueue = v :: rest)
    (hfolds : folds (rd s (slotKey 0x2080 (newestSlot (rd s E.viol_NEXT_SLOT) 64))) v = false) :
    rd (violationLogged s) (slotKey 0x2080 (rd s E.viol_NEXT_SLOT)) = violEntry v s.ten.violSeq ∧
    (violationLogged s).ten.violQueue = rest ∧
    rd (violationLogged s) E.viol_NEXT_SLOT = if rd s E.viol_NEXT_SLOT = 64 then 1 else rd s E.viol_NEXT_SLOT + 1 := by
  simp only [violationLogged, hqueue, hfolds, Bool.false_eq_true, if_false]
  exact ⟨rd_ringEnter_slot _ 0x2080 64 _ _, by rw [ringEnter_ten], rd_ringEnter_next _ 0x2080 64 _ _⟩

/-- A violation that folds leaves NEXT_SLOT where it was. -/
theorem violationLogged_folds {s : State} {v : Viol} {rest : List Viol} (hqueue : s.ten.violQueue = v :: rest)
    (hfolds : folds (rd s (slotKey 0x2080 (newestSlot (rd s E.viol_NEXT_SLOT) 64))) v = true) :
    (violationLogged s).ten.violQueue = rest ∧ rd (violationLogged s) E.viol_NEXT_SLOT = rd s E.viol_NEXT_SLOT := by
  simp only [violationLogged, hqueue, hfolds, if_true]
  have hnext : E.viol_NEXT_SLOT ≠ slotKey 0x2080 (newestSlot (rd s E.viol_NEXT_SLOT) 64) :=
    (slotKey_ne_control 0x2080 _ (sub := 1) (by decide)).symm
  exact ⟨rfl, rd_wr_ne _ _ hnext⟩

/-- Settles O9, clause by clause from the lemmas above. -/
theorem guestCommandsReachTheirGuest : Obligations.GuestCommandsReachTheirGuest := by
  refine ⟨⟨?read, ?bar, ?vfBar, ?notPhysical, ?numVfs, ?retried⟩, ⟨?vfsWritten, ?vfsRetried⟩, ?flr, ?zeroed,
    ⟨?readMapped, ?readRefused⟩, ⟨?writeMapped, ?writeRefused⟩, ?clientDone, ?entered, ?folded⟩
  case read =>
    intro s f req hopen hread
    rw [exec_pcieConfigRequest_open req hopen, configServe, if_neg (by simp [hread]), send]
  case bar =>
    intro s n v hopen
    refine ⟨send (setBar s false n.val v.toNat) (.config 0) [0] [], exec_pcieConfigRequest_open _ hopen,
      barWord_setBar_same s false n.val v.toNat, fun m hm _ => barWord_setBar_ne s v.toNat (by omega), rfl, rfl, rfl, rfl⟩
  case vfBar =>
    intro s n v hopen
    refine ⟨send (setBar s true n.val v.toNat) (.config 0) [0] [], exec_pcieConfigRequest_open _ hopen,
      barWord_setBar_same s true n.val v.toNat, fun m hm => barWord_setBar_ne s v.toNat ?_, rfl⟩
    simp only [b2n, Bool.false_eq_true, if_true, if_false]
    omega
  case notPhysical =>
    intro s f n v hopen hf
    have hnum : f.val ≠ 0 := fun h => hf (Fin.ext h)
    rw [exec_pcieConfigRequest_open _ hopen]
    simp [configServe, hnum, send]
  case numVfs =>
    intro s v hopen
    rw [exec_pcieConfigRequest_open _ hopen, exec_numvfsWrite, execNumvfsWrite, if_pos hopen]
    rfl
  case retried =>
    intro s f req hretry
    rw [exec_pcieConfigRequest, execPcieConfigRequest, configOpen_of_retrying hretry]
    rfl
  case vfsWritten =>
    intro s n hopen hn
    refine ⟨send (setNumVfs s n) (.config 0) [0] [], ?_, setNumVfs_numVfs s n, rfl⟩
    rw [exec_numvfsWrite, execNumvfsWrite, if_pos hopen, numVfsWrite, if_neg (by omega)]
  case vfsRetried =>
    intro s n hretry
    rw [exec_numvfsWrite, execNumvfsWrite, configOpen_of_retrying hretry]
    rfl
  case flr =>
    intro s f hopen
    obtain ⟨hflr, hclients, hzeroing⟩ := guestRec_guestReset s f.val false
    refine ⟨guestReset s f.val false, ?_, hflr, hclients, hzeroing, rd_guestReset_state s f.val false, portRec_guestReset s f.val false⟩
    rw [exec_functionLevelReset, execFunctionLevelReset, if_pos hopen]
  case zeroed =>
    intro s f hzeroing hflr hclients
    refine ⟨carveZeroed s f.val, exec_carveOutZeroed f s, ?_⟩
    rw [carveZeroed_done hzeroing hflr hclients]
    refine ⟨fun e he a hlo hhi => dramByte_zeroCarve he hlo hhi, ?_, ?_, ?_⟩
    all_goals simp [rd_settleGuest_state]
  case readMapped =>
    intro s f off n p hserving hpos hpage hpart
    rw [exec_bar4Read, execBar4Read, bar4Read_mapped hserving hpos hpage hpart, send]
  case readRefused =>
    intro s f off n k hserving hpos hpage hpart hkind
    rw [exec_bar4Read, execBar4Read, bar4Read_refused hserving hpos hpage hpart hkind, send]
  case writeMapped =>
    intro s f off p bytes hserving hbytes hpage hpart
    rw [exec_bar4Write, execBar4Write, bar4Write_mapped hserving hbytes hpage hpart]
  case writeRefused =>
    intro s f off k bytes hserving hbytes hpage hpart
    rw [exec_bar4Write, execBar4Write, bar4Write_refused hserving hbytes hpage hpart]
  case clientDone =>
    intro s g hnamed hquiet hclients
    rw [exec_clientResetDone, execClientResetDone, clientResetDone_quiet hnamed hquiet hclients]
  case entered =>
    intro s v rest hqueue hfolds
    exact ⟨violationLogged s, exec_violationLogged s, violationLogged_enters hqueue hfolds⟩
  case folded =>
    intro s v rest hqueue hfolds
    exact ⟨violationLogged s, exec_violationLogged s, violationLogged_folds hqueue hfolds⟩

end Sys2Proof.Proofs
end

section
/-! SUPPORT. A write of a clasp window lays its bytes over the word that stands there (R51), so it replaces bits 31:0 of it and no more:
a state whose request word holds a number of more than 32 bits keeps the bits above. -/

namespace Sys2Proof.Proofs

open Sys2Proof Sys2Proof.Machine Sys2Proof.Laws

/-- Client 0 lies in the range of guest 0, whose function serves, and word 0 of its request block holds the number 2 ^ 32. -/
def wideRequestWord : State :=
  setClasp (wr { State.reset with ten := { State.reset.ten with endpoint := true } } (E.guest_CLIENT_COUNT 0) 1) 0 { req := [(0, 2 ^ 32)] }

/-- The window of client 0 takes writes of its request block. -/
theorem wideRequestWord_takesWrites : serving wideRequestWord 0 = true ∧ inRange wideRequestWord 0 0 = true ∧
    rd wideRequestWord (E.guest_RESET_CLIENT 0) ≠ 0 ∧ (claspOf wideRequestWord 0).mode = false ∧
    (claspOf wideRequestWord 0).go = false := by decide +kernel

/-- A write of 0 to the four bytes of word 0 leaves its bit 32 set. -/
theorem reqWord_wideRequestWord_written : reqWord (claspOf (bar0Write wideRequestWord 0 0 0 (enabled 4 0)) 0) 0 = 2 ^ 32 := by
  decide +kernel

theorem reqWord_setReqWord_same (k : Clasp) (i v : Nat) : reqWord (setReqWord k i v) i = v := tget_tset_same _ _ _ _

/-- Refutes O10: its CLASP_WRITE clause (R53) has the written word hold exactly the value written in every state, and a state's request
word is a number of any size. Where it holds 2 ^ 32, four bytes of 0 leave 2 ^ 32 in it. -/
theorem not_claspWindowReadsAndWrites : ¬ Obligations.ClaspWindowReadsAndWrites := by
  unfold Obligations.ClaspWindowReadsAndWrites
  rintro ⟨-, ⟨hwrite, -⟩, -⟩
  obtain ⟨hserving, hrange, hreset, hmode, hgo⟩ := wideRequestWord_takesWrites
  obtain ⟨t, hexec, hclasp, -⟩ := hwrite wideRequestWord 0 0 0 0 hserving hrange hreset hmode hgo
  rw [exec_claspWrite] at hexec
  injection hexec with hstate
  have hzero : reqWord (claspOf t 0) 0 = 0 := (congrArg (reqWord · 0) hclasp).trans (reqWord_setReqWord_same ..)
  rw [← hstate] at hzero
  exact absurd (hzero.symm.trans reqWord_wideRequestWord_written) (by decide)

end Sys2Proof.Proofs
end

section
/-! SUPPORT. How a clasp request is taken, answered and completed (R52, R54, R56-R58, R64, R67): what a take leaves in the clasp, what
the completion writes, and that neither an interrupt nor a wake event touches a clasp. -/

namespace Sys2Proof.Proofs

open Sys2Proof Sys2Proof.Machine Sys2Proof.Laws

/-! ### Interrupts and wake events leave the clasps alone (R62, R64) -/

theorem claspOf_msixSend (s : State) (f v j : Nat) : claspOf (msixSend s f v) j = claspOf s j := by
  unfold msixSend
  dsimp only
  split <;> rfl

@[simp] theorem claspOf_claspIrq (s : State) (c j : Nat) : claspOf (claspIrq s c) j = claspOf s j := by
  unfold claspIrq
  split
  · rfl
  · split
    · exact claspOf_msixSend ..
    · rfl

/-- A wake event is the power controller's: the clasps, the DRAM and the messages sent stay as they are. -/
theorem wake_keeps (s : State) (d row : Nat) :
    (wake s d row).clasp = s.clasp ∧ (wake s d row).out = s.out ∧ (wake s d row).mem = s.mem := by
  have hod : May [.od, .raster, .power] .od := ⟨by decide⟩
  have hraster : May [.od, .raster, .power] .raster := ⟨by decide⟩
  have hpower : May [.od, .raster, .power] .power := ⟨by decide⟩
  have hkept := (wake_kept (chg := [.od, .raster, .power]) (Kept.refl _ s) d row).parts
  exact ⟨hkept .clasp (by decide), hkept .out (by decide), hkept .mem (by decide)⟩

/-! ### Takes in native form (R52, R56) -/

/-- A native request as its take reads it from words 0 to 14 of its block. -/
def nativeTaken (k : Clasp) (ans : Option Ans) : Taken :=
  { op := fld (reqWord k 0) 0 16, noIrq := bitOf (reqWord k 0) 16, flags := fld (reqWord k 0) 17 7, len := fld (reqWord k 0) 24 4,
    tag := reqWord k 1, args := (rangeFrom 2 13).map (reqWord k), stray := reqWord k 0 / 2 ^ 28 != 0, answer := ans }

theorem takeClasp_native {k : Clasp} (hmode : k.mode = false) (ans : Option Ans) :
    takeClasp k ans = { k with go := false, state := 1, seq := k.nextSeq, nextSeq := seqAfter k.nextSeq, rlen := 0,
                               taken := some (nativeTaken k ans) } := by
  simp [takeClasp, nativeTaken, hmode]

theorem mode_of_nativeWaits {k : Clasp} (h : nativeWaits k = true) : k.mode = false := by
  simp only [nativeWaits, Bool.and_eq_true, Bool.not_eq_true'] at h
  obtain ⟨⟨⟨hmode, -⟩, -⟩, -⟩ := h
  exact hmode

/-- A native request that firmware takes, with the answer that firmware forms at the take, if it forms one (R54, R55). -/
def firmwareTaken (k : Clasp) : Taken := { nativeTaken k none with answer := takeAnswer (nativeTaken k none) }

theorem takeByFirmware_native {s : State} {c : Nat} (hmode : (claspOf s c).mode = false) :
    takeByFirmware s c =
      setClasp s c { takeClasp (claspOf s c) none with taken := some (firmwareTaken (claspOf s c)) } := by
  simp only [takeByFirmware, takeClasp_native hmode]
  rfl

@[simp] theorem claspOf_advanceTake (s : State) (g c j : Nat) : claspOf (advanceTake s g c) j = claspOf s j := rfl

/-! ### Completion (R58, R67) -/

/-- The clasp once the answer `a` of its native request `q` stands in the result block. -/
def completed (k : Clasp) (q : Taken) (a : Ans) : Clasp :=
  { k with taken := none, rtag := q.tag, code := a.code, kind := a.kind, data := a.data, rlen := a.data.length, state := 2,
           full := true }

theorem finishTaken_frame (s : State) (c : Nat) : (finishTaken s c).od = s.od ∧ (finishTaken s c).mem = s.mem := by
  have hout : May [.out, .clasp, .ports] .out := ⟨by decide⟩
  have hclasp : May [.out, .clasp, .ports] .clasp := ⟨by decide⟩
  have hports : May [.out, .clasp, .ports] .ports := ⟨by decide⟩
  have hkept := (finishTaken_kept (chg := [.out, .clasp, .ports]) (Kept.refl _ s) c).parts
  exact ⟨hkept .od (by decide), hkept .mem (by decide)⟩

theorem claspOf_finishTaken_native {s : State} {c : Nat} {q : Taken} {a : Ans} (htaken : (claspOf s c).taken = some q)
    (hnative : q.delbel = false) (hanswer : q.answer = some a) : claspOf (finishTaken s c) c = completed (claspOf s c) q a := by
  simp only [finishTaken, htaken, hanswer, hnative, Bool.false_eq_true, if_false]
  split <;> simp [completed]

theorem claspOf_finishTaken_delbel {s : State} {c : Nat} {q : Taken} {a : Ans} (htaken : (claspOf s c).taken = some q)
    (hdelbel : q.delbel = true) (hanswer : q.answer = some a) (hroom : delbelRoom (claspOf s c) a = true) :
    claspOf (finishTaken s c) c =
      { claspOf s c with taken := none, dqRsp := (claspOf s c).dqRsp ++ delbelWords a } := by
  simp only [finishTaken, htaken, hanswer, hdelbel, hroom, if_true]
  split <;> simp

/-- A response that does not fit waits (R67). -/
theorem finishTaken_noRoom {s : State} {c : Nat} {q : Taken} {a : Ans} (htaken : (claspOf s c).taken = some q)
    (hdelbel : q.delbel = true) (hanswer : q.answer = some a) (hroom : delbelRoom (claspOf s c) a = false) : finishTaken s c = s := by
  simp [finishTaken, htaken, hanswer, hdelbel, hroom]

/-! ### Requests that failed stage 1 (R57) -/

/-- The result that hardware writes for a request which failed stage 1: the code and the kind of its verdict. -/
def stage1Answer (k : Clasp) : Ans := { code := k.verdict, kind := k.vkind }

/-- The state once the hardware has taken and completed client `c`'s refused request. -/
def refusedAtStage1 (s : State) (c : Nat) : State :=
  finishTaken (takeByHardware s c ((claspOf s c).verdict, (claspOf s c).vkind)) c

theorem exec_stage1Refusal_failed {s : State} {c : Client} (hwaits : nativeWaits (claspOf s c.val) = true)
    (hverdict : (claspOf s c.val).verdict ≠ 0) : exec (.stage1Refusal c) s = .next (refusedAtStage1 s c.val) := by
  simp [exec_stage1Refusal, execStage1Refusal, nextVerdict, refusedAtStage1, hwaits, hverdict]

theorem refusedAtStage1_frame (s : State) (c : Nat) : (refusedAtStage1 s c).od = s.od ∧ (refusedAtStage1 s c).mem = s.mem :=
  finishTaken_frame _ c

theorem claspOf_refusedAtStage1 {s : State} {c : Nat} (hmode : (claspOf s c).mode = false) :
    claspOf (refusedAtStage1 s c) c =
      completed (takeClasp (claspOf s c) (some (stage1Answer (claspOf s c))))
        (nativeTaken (claspOf s c) (some (stage1Answer (claspOf s c)))) (stage1Answer (claspOf s c)) := by
  have hclasp : claspOf (takeByHardware s c ((claspOf s c).verdict, (claspOf s c).vkind)) c =
      takeClasp (claspOf s c) (some (stage1Answer (claspOf s c))) := claspOf_setClasp ..
  rw [refusedAtStage1, claspOf_finishTaken_native (by rw [hclasp, takeClasp_native hmode]) rfl rfl, hclasp]

/-! ### Requests that firmware answers itself (R54) -/

theorem asks_iff {s : State} {c op len : Nat} {q : Taken} : asks s c op len q = true ↔
    (claspOf s c).taken = some q ∧ q.op = op ∧ q.len = len ∧ q.flags = 0 ∧ q.answer = none := by
  simp [asks, and_assoc]

/-- A taken request with a LENGTH that its opcode allows is carried out. -/
theorem serve_asked {s : State} {c op len : Nat} {q : Taken} {lenOk : Nat → Bool} (k : Taken → State) (hasks : asks s c op len q = true)
    (hlen : lenOk len = true) : serve s c op lenOk k = k q := by
  obtain ⟨htaken, hop, hqlen, hflags, hanswer⟩ := asks_iff.mp hasks
  simp [serve, serveF, htaken, hop, hqlen, hflags, hanswer, hlen]

/-! ### Internal clasps (R63, R64) -/

theorem reqWord_setReqWord (k : Clasp) (i j v : Nat) : reqWord (setReqWord k i v) j = if j = i then v else reqWord k j := by
  split
  · next h => rw [h]; exact reqWord_setReqWord_same k i v
  · next h => exact tget_tset_ne _ _ _ h

/-- The words of a request block that are written one after the other. -/
theorem reqWord_foldl_setReqWord (k : Clasp) (f : Nat → Nat) {n j : Nat} (hj : j < n) :
    reqWord ((List.range n).foldl (fun a i => setReqWord a i (f i)) k) j = f j := by
  induction n with
  | zero => omega
  | succ n ih =>
    rw [List.range_succ, List.foldl_append, List.foldl_cons, List.foldl_nil, reqWord_setReqWord]
    split
    · next h => rw [h]
    · exact ih (by omega)

theorem go_foldl_setReqWord (f : Nat → Nat) (l : List Nat) (k : Clasp) :
    (l.foldl (fun a i => setReqWord a i (f i)) k).go = k.go :=
  List.foldlRecOn (motive := fun a : Clasp => a.go = k.go) l _ rfl fun _ h _ _ => h

/-- The internal block that firmware hands over: words 0 to 14, and GO. -/
def handedOver (k : Clasp) (words : List Nat) : Clasp :=
  (List.range 15).foldl (fun a i => setReqWord a i (at0 0 words i)) { k with go := true }

/-- GO on an internal clasp whose receiver can take it: the block waits, and the receiver's domain is woken (R64). -/
theorem iclGo_waits {s : State} {n : Nat} (words : List Nat) (hgo : (iclOf s n).go = false)
    (hheld : ¬ (rd s (E.pd_MODE (iclDomain n)) = 2 ∧ (iclOf s n).taken = none)) :
    iclGo s n words = wake (setIcl s n (handedOver (iclOf s n) words)) (iclDomain n) 2 := by
  simp only [iclGo, hgo, Bool.false_eq_true, if_false, if_neg hheld]
  rfl

/-- A waiting internal block that its receiver carries out is taken once the receiver's domain is on (R64). -/
theorem iclTake_carriedOut {s : State} {n : Nat} (hwaits : nativeWaits (iclRead (iclOf s n)) = true) (hon : pdOn s (iclDomain n) = true)
    (hanswer : (takeClasp (iclRead (iclOf s n)) none).taken.bind (iclAnswer n) = none) :
    iclTake s n = setIcl s n (takeClasp (iclRead (iclOf s n)) none) := by
  simp [iclTake, hwaits, hon, hanswer]

/-- One that the receiver answers as it stands completes in the same step. -/
theorem iclTake_answered {s : State} {n : Nat} {a : Ans} (hwaits : nativeWaits (iclRead (iclOf s n)) = true)
    (hon : pdOn s (iclDomain n) = true) (hanswer : (takeClasp (iclRead (iclOf s n)) none).taken.bind (iclAnswer n) = some a) :
    iclTake s n = iclComplete (setIcl s n (takeClasp (iclRead (iclOf s n)) none)) n a := by
  simp [iclTake, hwaits, hon, hanswer]

theorem iclOf_iclComplete {s : State} {n : Nat} {q : Taken} (a : Ans) (htaken : (iclOf s n).taken = some q) :
    iclOf (iclComplete s n a) n = completed (iclOf s n) q a := by
  simp [iclComplete, htaken, completed]

/-- Settles O11, clause by clause from the lemmas above. -/
theorem claspRequestsAreTakenAndAnswered : Obligations.ClaspRequestsAreTakenAndAnswered := by
  refine ⟨?refused, ?taken, ?complete, ⟨?response, ?responseWaits⟩, ?nop, ?identify, ?echo, ?internalGo,
    ⟨?internalTaken, ?internalAnswered⟩⟩
  case refused =>
    intro s c hwaits hverdict
    have hmode := mode_of_nativeWaits hwaits
    refine ⟨refusedAtStage1 s c.val, exec_stage1Refusal_failed hwaits hverdict, ?_⟩
    rw [claspOf_refusedAtStage1 hmode, takeClasp_native hmode]
    exact ⟨rfl, rfl, rfl, rfl, rfl, rfl, rfl, refusedAtStage1_frame s c.val⟩
  case taken =>
    intro s g c hon hnext hmode
    refine ⟨advanceTake (takeByFirmware s c) g c, firmwareTaken (claspOf s c), ?_, ?_⟩
    · rw [exec_claspTake, execClaspTake, if_pos hon, hnext]
    · rw [claspOf_advanceTake, takeByFirmware_native hmode, claspOf_setClasp, takeClasp_native hmode]
      exact ⟨rfl, rfl, rfl, rfl, rfl, rfl, rfl, rfl, rfl⟩
  case complete =>
    intro s c q a htaken hnative hanswer
    refine ⟨finishTaken s c.val, ?_, claspOf_finishTaken_native htaken hnative hanswer, finishTaken_frame s c.val⟩
    simp [exec_claspComplete, execClaspComplete, htaken, hnative]
  case response =>
    intro s c q a htaken hdelbel hanswer hroom
    refine ⟨finishTaken s c.val, ?_, claspOf_finishTaken_delbel htaken hdelbel hanswer hroom, finishTaken_frame s c.val⟩
    simp [exec_delbelResponse, execDelbelResponse, htaken, hdelbel]
  case responseWaits =>
    intro s c q a htaken hdelbel hanswer hroom
    simp [exec_delbelResponse, execDelbelResponse, htaken, hdelbel, finishTaken_noRoom htaken hdelbel hanswer hroom]
  case nop =>
    intro s c q hasks
    rw [exec_nop, execNop, serve_asked _ hasks rfl]
  case identify =>
    intro s c q hasks
    rw [exec_identify, execIdentify, serve_asked _ hasks rfl]
  case echo =>
    intro s c n q hasks hlen hnative
    obtain ⟨-, -, hqlen, -, -⟩ := asks_iff.mp hasks
    rw [exec_echo, execEcho, serve_asked _ hasks (decide_eq_true hlen), hnative, hqlen]
    rfl
  case internalGo =>
    intro s i words hon hgo hheld
    obtain ⟨hclasp, hout, hmem⟩ := wake_keeps (setIcl s (iclNum i) (handedOver (iclOf s (iclNum i)) (words.map BitVec.toNat)))
      (iclDomain (iclNum i)) 2
    refine ⟨wake (setIcl s (iclNum i) (handedOver (iclOf s (iclNum i)) (words.map BitVec.toNat))) (iclDomain (iclNum i)) 2, ?_, ?_⟩
    · rw [exec_internalClaspGo, execInternalClaspGo, if_pos hon, iclGo_waits _ hgo hheld]
    · rw [iclOf, hclasp, ← iclOf, iclOf_setIcl]
      exact ⟨go_foldl_setReqWord _ _ _, fun j hj => reqWord_foldl_setReqWord _ _ hj, hout, hmem⟩
  case internalTaken =>
    intro s i hwaits hon hanswer
    have hmode := mode_of_nativeWaits hwaits
    rw [exec_internalClaspTake, execInternalClaspTake, iclTake_carriedOut hwaits hon hanswer, takeClasp_native hmode]
    exact ⟨rfl, rfl, rfl⟩
  case internalAnswered =>
    intro s i a hwaits hon hanswer
    have htake := takeClasp_native (mode_of_nativeWaits hwaits) none
    refine ⟨iclComplete (setIcl s (iclNum i) (takeClasp (iclRead (iclOf s (iclNum i))) none)) (iclNum i) a, ?_, ?_⟩
    · rw [exec_internalClaspTake, execInternalClaspTake, iclTake_answered hwaits hon hanswer]
    · rw [iclOf_iclComplete a (by rw [iclOf_setIcl, htake]), iclOf_setIcl, htake]
      exact ⟨rfl, rfl, rfl, rfl⟩

end Sys2Proof.Proofs
end

section
/-! SUPPORT. The idle step (log 1) and the words that spell no command (logs 9, 10). -/

namespace Sys2Proof.Proofs

open Sys2Proof Sys2Proof.Machine

/-- Settles O2: an empty queue is the second case of `step`, and no word decodes. -/
theorem emptyQueueIdlesOneCount : Obligations.EmptyQueueIdlesOneCount :=
  ⟨fun s hempty => by rw [step, hempty], fun _ _ => rfl, fun _ _ _ => rfl⟩

end Sys2Proof.Proofs
end

section
/-! SUPPORT. The dictionary's control records (R82, R88, R90): an accepted write of an immediate entry takes effect at once, and one of a
store record is answered only when the store is done. Then what a commit's stages, a store and an image action each leave. -/

namespace Sys2Proof.Proofs

open Sys2Proof Sys2Proof.Machine Sys2Proof.Laws

/-! ### Accepted writes of immediate entries (R79, R80, R88) -/

theorem findEntry_of_isImmediate {k : Nat} (h : isImmediate k = true) :
    ∃ f, findEntry (k / 256) (k % 256) = some f ∧ f.row.committed = false := by
  unfold isImmediate at h
  split at h
  · next f hf => exact ⟨f, hf, by simpa using h⟩
  · contradiction

/-- An accepted write of an immediate entry takes effect and is answered. -/
theorem writeBytes_immediate {s : State} {who : Requester} {k off : Nat} {bytes v : List Byte}
    (haccepts : accepts s who k off bytes v = true) (himm : isImmediate k = true) (hstore : k / 256 ≠ 0x1010 ∧ k / 256 ≠ 0x1011) :
    writeBytes s who k off bytes = acknowledged (writeNow (begun s who) who 0 k v off bytes) who k off bytes := by
  obtain ⟨f, hentry, hcommitted⟩ := findEntry_of_isImmediate himm
  rw [writeBytes_accepted s who k off bytes v haccepts f hentry hstore, if_neg (by simp [hcommitted])]

theorem writeNum_immediate {s : State} {who : Requester} {k n x : Nat} (haccepts : accepts s who k 0 (leBytes n x) (leBytes n x) = true)
    (himm : isImmediate k = true) (hstore : k / 256 ≠ 0x1010 ∧ k / 256 ≠ 0x1011) :
    writeNum s who k n x = acknowledged (writeNow (begun s who) who 0 k (leBytes n x) 0 (leBytes n x)) who k 0 (leBytes n x) := by
  rw [writeNum_writeBytes, writeBytes_immediate haccepts himm hstore]

/-- The access that a requester's whole-value write of an entry makes. -/
def wholeWrite (who : Requester) (k : Nat) (bytes : List Byte) : Access :=
  { who := who, write := true, idx := k / 256, sub := k % 256, part := partOf who 0 bytes.length, bytes := bytes }

theorem clientStranger_begun_of_reaches {s : State} {who : Requester} (h : reaches s who = true) :
    clientStranger (begun s who) who = false := by
  cases who with
  | bar2 f c =>
    simp only [reaches, Bool.and_eq_true, Bool.not_eq_true'] at h
    obtain ⟨-, -, hclient⟩ := h
    cases c <;> exact hclient
  | _ => rfl

/-- A write whose path is open is served at once. -/
theorem writeBytes_reaching {s : State} {who : Requester} {k : Nat} {bytes : List Byte} (hreach : reaches s who = true)
    (hlen : 0 < bytes.length ∧ bytes.length ≤ 4096) :
    writeBytes s who k 0 bytes = performAccess (begun s who) (wholeWrite who k bytes) := by
  simp only [reaches, Bool.and_eq_true, decide_eq_true_eq] at hreach
  obtain ⟨⟨hboot, hpower⟩, hpath⟩ := hreach
  cases who with
  | field =>
    simp only [Bool.and_eq_true, beq_iff_eq] at hpath
    obtain ⟨hawake, hopen⟩ := hpath
    have hfind : [0, 1, 2].find? (sdoOpen s) = some 0 := by rw [List.find?_cons, hopen]
    unfold writeBytes access
    dsimp only
    rw [hfind]
    dsimp only
    exact arrive_open s (wholeWrite .field k bytes) hboot hpower (.inr hawake) rfl
  | bar2 f c =>
    simp only [Bool.and_eq_true, Bool.not_eq_true'] at hpath
    obtain ⟨⟨hserving, hidle⟩, -⟩ := hpath
    have hgood : lengthBad (wholeWrite (.bar2 f c) k bytes) = false := by
      simp only [lengthBad, wholeWrite, partOf, Bool.or_eq_false_iff, beq_eq_false_iff_ne, decide_eq_false_iff_not]
      omega
    unfold writeBytes access
    dsimp only
    rw [if_neg (by simp [hserving]), if_neg (by simp [hidle]), if_neg (by simpa [wholeWrite, partOf] using hgood)]
    exact arrive_open (portBusy s f.val) (wholeWrite (.bar2 f c) k bytes) hboot hpower (.inl (by simp [wholeWrite])) rfl
  | trusted =>
    unfold writeBytes access
    dsimp only
    rw [if_pos (beq_iff_eq.mp hpath)]
    exact arrive_open s (wholeWrite .trusted k bytes) hboot hpower (.inl (by simp [wholeWrite])) rfl
  | image => contradiction

/-- An accepted write of a store record takes effect, and its answer waits for the end of the store (R88). -/
theorem writeNum_store {s : State} {who : Requester} {k n x : Nat} (haccepts : accepts s who k 0 (leBytes n x) (leBytes n x) = true)
    (himm : isImmediate k = true) (hstore : k / 256 = 0x1010 ∨ k / 256 = 0x1011) :
    writeNum s who k n x = writeNow (begun s who) who 0 k (leBytes n x) 0 (leBytes n x) := by
  obtain ⟨f, hentry, hcommitted⟩ := findEntry_of_isImmediate himm
  simp only [accepts, Bool.and_eq_true, decide_eq_true_eq, Option.isNone_iff_eq_none, hentry] at haccepts
  obtain ⟨⟨⟨⟨hreach, hlen⟩, -⟩, hright⟩, hjudged⟩ := haccepts
  have hjudge : judge (begun s who) who f k (partOf who 0 (leBytes n x).length) (leBytes n x) = .ok (leBytes n x) := by
    split at hjudged
    · next w hw => rw [hw, beq_iff_eq.mp hjudged]
    · contradiction
  have hwrite : doWrite (begun s who) (wholeWrite who k (leBytes n x)) =
      (writeNow (begun s who) who 0 k (leBytes n x) 0 (leBytes n x), none) := by
    simp only [doWrite, wholeWrite, hright, hentry, dkey_split, hjudge, hcommitted, Bool.false_eq_true, if_false, hstore, if_true]
    cases who <;> rfl
  rw [writeNum_writeBytes, writeBytes_reaching hreach hlen, performAccess]
  simp only [hwrite, show (wholeWrite who k (leBytes n x)).who = who from rfl, clientStranger_begun_of_reaches hreach, Bool.false_eq_true,
    if_false]
  rfl

/-! ### What a write of each control entry does (R82, R88, R90) -/

theorem control_isImmediate : isImmediate E.cc_COMMIT = true ∧ isImmediate E.img_IMAGE = true ∧ isImmediate E.img_ACTION = true := by
  decide +kernel

theorem stores_isImmediate : (∀ n < 3, isImmediate (E.store_STORE_ALL + n) = true) ∧
    ∀ n < 3, isImmediate (E.store_RESTORE_ALL + n) = true := by
  decide +kernel

theorem writeNow_commit (s : State) (who : Requester) (p : Nat) (v : List Byte) (off : Nat) (bytes : List Byte) :
    writeNow s who p E.cc_COMMIT v off bytes = requestCommit s (setNo who) (leVal v) (if setNo who = 0 then some 0 else none) := by
  simp +decide [writeNow]

theorem writeNow_image (s : State) (who : Requester) (p : Nat) (v : List Byte) (off : Nat) (bytes : List Byte) :
    writeNow s who p E.img_IMAGE v off bytes = loadImage s v := by
  simp +decide [writeNow]

theorem writeNow_action (s : State) (who : Requester) (p : Nat) (v : List Byte) (off : Nat) (bytes : List Byte) :
    writeNow s who p E.img_ACTION v off bytes = startAction s (leVal v) (setNo who) false := by
  simp +decide [writeNow]

theorem writeNow_store (s : State) (who : Requester) (p : Nat) (v : List Byte) (off : Nat) (bytes : List Byte) {n : Nat} (h : n < 3) :
    writeNow s who p (E.store_STORE_ALL + n) v off bytes = askStore s n (setNo who) p := by
  have hne : E.store_STORE_ALL + n ≠ E.err_ERROR_COUNT := by unfold E.store_STORE_ALL E.err_ERROR_COUNT; omega
  have hidx : (E.store_STORE_ALL + n) / 256 = 0x1010 := by unfold E.store_STORE_ALL; omega
  have hsub : (E.store_STORE_ALL + n) % 256 - 1 = n := by unfold E.store_STORE_ALL; omega
  simp only [writeNow, if_neg hne, if_pos hidx, hsub]

theorem writeNow_restore (s : State) (who : Requester) (p : Nat) (v : List Byte) (off : Nat) (bytes : List Byte) {n : Nat} (h : n < 3) :
    writeNow s who p (E.store_RESTORE_ALL + n) v off bytes = askStore s (3 + n) (setNo who) p := by
  have hne : E.store_RESTORE_ALL + n ≠ E.err_ERROR_COUNT := by unfold E.store_RESTORE_ALL E.err_ERROR_COUNT; omega
  have hidx : (E.store_RESTORE_ALL + n) / 256 = 0x1011 := by unfold E.store_RESTORE_ALL; omega
  have hsub : (E.store_RESTORE_ALL + n) % 256 + 2 = 3 + n := by unfold E.store_RESTORE_ALL; omega
  simp only [writeNow, if_neg hne, hidx, hsub, if_true]
  rfl

end Sys2Proof.Proofs
end

section
/-! SUPPORT. Commits (R82, R83): what a request, the checks, a landing value and the end of a commit each leave. -/

namespace Sys2Proof.Proofs

open Sys2Proof Sys2Proof.Machine Sys2Proof.Laws

/-! ### Requests (R82, R84) -/

@[simp] theorem stagingOf_acknowledged (t : State) (who : Requester) (k off : Nat) (bytes : List Byte) (n : Nat) :
    stagingOf (acknowledged t who k off bytes) n = stagingOf t n := by
  rw [stagingOf, acknowledged_dict, ← stagingOf]

@[simp] theorem commitRuns_begun (s : State) (who : Requester) : commitRuns (begun s who) = commitRuns s := by
  rw [commitRuns, begun_dict, ← commitRuns]

theorem leVal_leBytes_one {v : Nat} (h : v < 256) : leVal (leBytes 1 v) = v := by
  simp [leBytes, leVal, Nat.mod_eq_of_lt h]

/-- The state once a requester's accepted COMMIT has done its work, before the answer. -/
def commitAsked (s : State) (who : Requester) (v : Nat) : State :=
  requestCommit (begun s who) (setNo who) v (if setNo who = 0 then some 0 else none)

/-- COMMIT = `v` asks for a commit, a check or a discard of the requester's set, and is answered. -/
theorem writeNum_commit {s : State} {who : Requester} {v : Nat} (hv : v < 256)
    (haccepts : accepts s who E.cc_COMMIT 0 (leBytes 1 v) (leBytes 1 v) = true) :
    writeNum s who E.cc_COMMIT 1 v = acknowledged (commitAsked s who v) who E.cc_COMMIT 0 (leBytes 1 v) := by
  obtain ⟨himm, -, -⟩ := control_isImmediate
  rw [writeNum_immediate haccepts himm (by decide), writeNow_commit, leVal_leBytes_one hv, commitAsked]

/-- A commit request touches the staging sets and the queue of commits alone. -/
theorem requestCommit_frame (s : State) (n v : Nat) (e : Option Nat) :
    (requestCommit s n v e).od = s.od ∧ (requestCommit s n v e).mem = s.mem ∧ (requestCommit s n v e).out = s.out := by
  have hdict : May [.dict] .dict := ⟨by decide⟩
  have hkept := (requestCommit_kept (chg := [.dict]) (Kept.refl _ s) n v e).parts
  exact ⟨hkept .od (by decide), hkept .mem (by decide), hkept .out (by decide)⟩

theorem commitAsked_frame (s : State) (who : Requester) (v : Nat) :
    (commitAsked s who v).od = s.od ∧ (commitAsked s who v).mem = s.mem := by
  obtain ⟨hod, hmem, -⟩ := requestCommit_frame (begun s who) (setNo who) v (if setNo who = 0 then some 0 else none)
  exact ⟨hod.trans (begun_od s who), hmem.trans (begun_mem s who)⟩

/-- Where no commit runs, a request begins its checks at once. -/
theorem requestCommit_begins {s : State} {n v : Nat} (e : Option Nat) (hv : v ≠ 3) (hentries : (stagingOf s n).entries ≠ [])
    (hfree : commitRuns s = false) :
    stagingOf (requestCommit s n v e) n = { stagingOf s n with state := 2, refusedAt := 0, reason := 0 } ∧
      (requestCommit s n v e).dict.running = some { set := n, checkOnly := v == 2, emcyKind := e } := by
  simp only [requestCommit, if_neg hv, if_neg hentries, hfree, Bool.false_eq_true, if_false]
  exact ⟨stagingOf_putStaging .., trivial⟩

/-- Where one runs, it joins the queue. -/
theorem requestCommit_waits {s : State} {n v : Nat} (e : Option Nat) (hv : v ≠ 3) (hentries : (stagingOf s n).entries ≠ [])
    (hruns : commitRuns s = true) :
    stagingOf (requestCommit s n v e) n = { stagingOf s n with state := 1, refusedAt := 0, reason := 0 } ∧
      (requestCommit s n v e).dict.running = s.dict.running ∧
      (requestCommit s n v e).dict.queued = s.dict.queued ++ [{ set := n, checkOnly := v == 2, emcyKind := e }] := by
  simp only [requestCommit, if_neg hv, if_neg hentries, hruns, if_true]
  exact ⟨stagingOf_putStaging .., rfl, rfl⟩

theorem stagingOf_requestCommit_discard (s : State) (n : Nat) (e : Option Nat) :
    stagingOf (requestCommit s n 3 e) n =
      { stagingOf s n with entries := [], order := [], state := 0, refusedAt := 0, reason := 0 } := stagingOf_putStaging ..

/-- A commit or a check that may begin at once. -/
theorem commitAsked_begins {s : State} {who : Requester} {v : Nat} (hv : v ≠ 3) (hentries : (stagingOf s (setNo who)).entries ≠ [])
    (hfree : commitRuns s = false) :
    stagingOf (commitAsked s who v) (setNo who) = { stagingOf s (setNo who) with state := 2, refusedAt := 0, reason := 0 } ∧
      (commitAsked s who v).dict.running =
        some { set := setNo who, checkOnly := v == 2, emcyKind := if setNo who = 0 then some 0 else none } := by
  rw [← begun_stagingOf s who] at hentries ⊢
  exact requestCommit_begins _ hv hentries ((commitRuns_begun s who).trans hfree)

/-! ### The ends of the checks and of the commit (R82, R85) -/

theorem resumeStores_of_none_waits {s : State} (h : s.dict.storeWait = []) : resumeStores s = s := by
  simp [resumeStores, h, nextStore]

/-- The state once the checks of `r` have passed: its values are on their way. -/
def checksPassed (s : State) (r : CommitRun) : State :=
  { putStaging s r.set { stagingOf s r.set with state := 3 } with
    dict := { (putStaging s r.set { stagingOf s r.set with state := 3 }).dict with
                applying := handOver (stagingOf s r.set), checkedAt := s.time } }

theorem commitChecksEnd_passed {s : State} {r : CommitRun} (hrun : s.dict.running = some r) (hstate : (stagingOf s r.set).state = 2)
    (hcommit : r.checkOnly = false) (hverdict : commitVerdict s (stagedList (stagingOf s r.set)) = none)
    (hheads : noticeHeads s (handOver (stagingOf s r.set)) = []) : commitChecksEnd s = checksPassed s r := by
  simp [commitChecksEnd, checksPassed, hrun, hstate, hcommit, hverdict, hheads]

theorem commitChecksEnd_refused {s : State} {r : CommitRun} {code k : Nat} (hrun : s.dict.running = some r)
    (hstate : (stagingOf s r.set).state = 2) (hverdict : commitVerdict s (stagedList (stagingOf s r.set)) = some (code, k)) :
    commitChecksEnd s = commitRefused s r code k := by
  simp [commitChecksEnd, hrun, hstate, hverdict]

theorem emcy_keeps (s : State) (code b0 rest : Nat) : (emcy s code b0 rest).dict = s.dict ∧ (emcy s code b0 rest).mem = s.mem := by
  have hod : May [.od, .field] .od := ⟨by decide⟩
  have hfield : May [.od, .field] .field := ⟨by decide⟩
  have hkept := (emcy_kept (chg := [.od, .field]) (Kept.refl _ s) code b0 rest).parts
  exact ⟨hkept .dict (by decide), hkept .mem (by decide)⟩

/-- The state with the commit of `r` ended and its set left as `x`. -/
def commitEnded (s : State) (r : CommitRun) (x : StageSet) : State :=
  { putStaging s r.set x with dict := { (putStaging s r.set x).dict with running := none } }

theorem stagingOf_commitEnded (s : State) (r : CommitRun) (x : StageSet) : stagingOf (commitEnded s r x) r.set = x :=
  stagingOf_putStaging ..

/-- The state with the commit of `r` refused and its set kept staged, before any EMCY (R85). -/
def commitRejected (s : State) (r : CommitRun) (code k : Nat) : State :=
  commitEnded s r { stagingOf s r.set with state := 5, reason := code, refusedAt := k }

/-- The state once the EMCY of a refused commit has been formed, where the refusal sends one (R85). -/
def refusalSent (s : State) (r : CommitRun) (code k : Nat) : State :=
  if r.checkOnly then s
  else match r.emcyKind with
    | some b => emcy s 0x6310 b (code + 65536 * (k / 65536))
    | none => s

theorem refusalSent_keeps (s : State) (r : CommitRun) (code k : Nat) :
    (refusalSent s r code k).dict = s.dict ∧ (refusalSent s r code k).mem = s.mem := by
  unfold refusalSent
  split
  · exact ⟨rfl, rfl⟩
  · split
    · exact emcy_keeps ..
    · exact ⟨rfl, rfl⟩

/-- A refusal outside the image loader and the overlay ends the commit, with at most an EMCY (R85). -/
theorem commitRefused_ends {s : State} {r : CommitRun} (code k : Nat) (hset : r.set < 66) (hkind : r.emcyKind ≠ some 2)
    (hwait : s.dict.storeWait = []) :
    commitRefused s r code k = refusalSent (commitRejected s r code k) r code k := by
  have hloader : r.set ≠ 66 := by omega
  obtain ⟨hdict, -⟩ := refusalSent_keeps (commitRejected s r code k) r code k
  simp only [commitRefused, if_neg hkind, if_neg hloader]
  exact resumeStores_of_none_waits ((congrArg DictSt.storeWait hdict).trans hwait)

/-- The state with the commit of `r` done: its set is empty, GENERATION one higher (R82). -/
def commitCompleted (s : State) (r : CommitRun) : State :=
  bumpWrap (commitEnded s r { emptied (stagingOf s r.set) with state := 4 }) E.cc_GENERATION

/-- The last landing of a commit outside the image loader and the overlay ends it, with nothing else to follow. -/
theorem commitDone_landed {s : State} {r : CommitRun} (hrun : s.dict.running = some r) (hstate : (stagingOf s r.set).state = 3)
    (happlying : s.dict.applying = []) (hset : r.set < 66) (hkind : r.emcyKind ≠ some 2) (hwait : s.dict.storeWait = []) :
    commitDone s = commitCompleted s r := by
  have hloader : r.set ≠ 66 := by omega
  simp only [commitDone, hrun, hstate, happlying, if_neg hkind, if_neg hloader, ne_eq, not_true, or_self, if_false]
  exact resumeStores_of_none_waits hwait

/-! ### Values that take effect (R83) -/

theorem isApplying_of_applyingVal {s : State} {k : Nat} {v : List Byte} (h : applyingVal s k = some v) : isApplying s k = true := by
  obtain ⟨p, hfind, -⟩ := Option.map_eq_some_iff.mp h
  exact List.any_eq_true.mpr ⟨p, List.mem_of_find?_eq_some hfind, by simpa using List.find?_some hfind⟩

@[simp] theorem applyingVal_dropApplying (s : State) (k : Nat) : applyingVal (dropApplying s k) k = none := by
  simp [applyingVal, dropApplying, List.find?_eq_none]

/-- A number on its way becomes the live value. -/
theorem landKey_number {s : State} {k : Nat} {v : List Byte} (hval : applyingVal s k = some v) (hnumber : isDomainKey k = false) :
    landKey s k = wr (dropApplying s k) k (leVal v) := by
  simp only [landKey, hval, setLive, hnumber, Bool.false_eq_true, if_false]
  rfl

theorem entriesKept_wr (s : State) (k v : Nat) : entriesKept [k] s (wr s k v) :=
  fun _ hj => rd_wr_ne s v (List.ne_of_not_mem_cons hj)

/-- Only a guest's CARVE_PAGES is ever held back. -/
theorem heldBack_of_not_guest {s : State} {k : Nat} (h : k / 256 < 0x5800) : heldBack s k = false := by
  have hlow : ¬ 0x5800 ≤ k / 256 := by omega
  simp [heldBack, hlow]

theorem entryTakesEffect_lands {s : State} {i n : Nat} {v : List Byte} (hval : applyingVal s (dkey i n) = some v)
    (hfree : dkey i n / 256 < 0x5800) : entryTakesEffect s i n = landEntry s (dkey i n) := by
  rw [entryTakesEffect, if_pos ⟨isApplying_of_applyingVal hval, by simp [heldBack_of_not_guest hfree]⟩]

theorem dkey_parts {i n : Nat} (h : n < 256) : dkey i n / 256 = i ∧ dkey i n % 256 = n := by
  unfold dkey
  omega

/-- In the range of the device's own records, an entry behind subindex 01 lands with no further effect. -/
theorem landEntry_device {s : State} {k : Nat} (himm : isImmediate k = false) (hlow : 0x2000 ≤ k / 256) (hhigh : k / 256 < 0x3000)
    (hsub : 2 ≤ k % 256) : landEntry s k = landKey s k := by
  have hsource : k ≠ E.comm_PD_SOURCE := by unfold E.comm_PD_SOURCE; omega
  have hmode : k ≠ E.pd_MODE (k / 256 - 0x2110) := by unfold E.pd_MODE; omega
  have hhap : isHapKey k = false := by
    simp only [isHapKey, Bool.and_eq_false_iff, decide_eq_false_iff_not]
    omega
  simp only [landEntry, himm, hhap, Bool.false_eq_true, if_false, if_neg hsource, hmode, and_false]
  rw [if_neg (by omega), if_neg (by omega), if_neg (by omega), if_neg (by omega), if_neg (by omega), if_neg (by omega),
    if_neg (by omega)]

theorem memConfig_entries : ∀ n < 9, 1 ≤ n → isImmediate (dkey 0x5000 n) = false ∧ isDomainKey (dkey 0x5000 n) = false := by
  decide +kernel

theorem landEntry_memory {s : State} {k : Nat} (himm : isImmediate k = false) (hidx : k / 256 = 0x5000) :
    landEntry s k = landMemKey s k := by
  have hsource : k ≠ E.comm_PD_SOURCE := by unfold E.comm_PD_SOURCE; omega
  have hhap : isHapKey k = false := by simp [isHapKey, hidx]
  simp [landEntry, himm, hhap, hsource, hidx]

/-- The state with the value in force of a memory entry held until the next reset (R342). -/
def forceHeld (s : State) (k : Nat) : State :=
  { s with dict := { s.dict with held := tset (fun _ => none) s.dict.held k (some (inForce s k)) } }

theorem landMemKey_held {s : State} {k : Nat} (hidx : k / 256 = 0x5000) (hsub : k % 256 ≤ 8) :
    landMemKey s k = landKey (forceHeld s k) k := if_pos ⟨hidx, hsub⟩

theorem inForce_forceHeld_written (s : State) (k v : Nat) : inForce (wr (dropApplying (forceHeld s k) k) k v) k = inForce s k := by
  have hheld : tget (fun _ => none) (forceHeld s k).dict.held k = some (inForce s k) :=
    tget_tset_same _ s.dict.held k (some (inForce s k))
  rw [inForce, show (wr (dropApplying (forceHeld s k) k) k v).dict.held = (forceHeld s k).dict.held from rfl, hheld]
  rfl

/-- Settles O13, a clause for each stage of a commit. -/
theorem commitsRunFromRequestToDone : Obligations.CommitsRunFromRequestToDone := by
  refine ⟨⟨?commit, ?queued⟩, ?check, ?discard, ?trusted, ?start, ⟨?passed, ?refused⟩, ⟨?lands, ?held⟩, ?done⟩
  case commit =>
    intro s who haccepts hentries hfree
    obtain ⟨hset, hrunning⟩ := commitAsked_begins (v := 1) (by decide) hentries hfree
    refine ⟨_, by rw [exec_commit, execCommit, writeNum_commit (by decide) haccepts], ?_, ?_, ?_⟩
    · rw [stagingOf_acknowledged, hset]
    · rw [acknowledged_dict, hrunning]; rfl
    · simpa using commitAsked_frame s who 1
  case queued =>
    intro s who haccepts hentries hruns
    rw [← begun_stagingOf s who] at hentries
    obtain ⟨hset, hrunning, hqueued⟩ := requestCommit_waits (v := 1) (if setNo who = 0 then some 0 else none) (by decide) hentries
      ((commitRuns_begun s who).trans hruns)
    refine ⟨_, by rw [exec_commit, execCommit, writeNum_commit (by decide) haccepts], ?_, ?_, ?_⟩
    · rw [stagingOf_acknowledged, commitAsked, hset]
    · rw [acknowledged_dict, commitAsked, hrunning, begun_dict]
    · rw [acknowledged_dict, commitAsked, hqueued, begun_dict]; rfl
  case check =>
    intro s who haccepts hentries hfree
    obtain ⟨hset, hrunning⟩ := commitAsked_begins (v := 2) (by decide) hentries hfree
    refine ⟨_, by rw [exec_checkOnly, execCheckOnly, writeNum_commit (by decide) haccepts], ?_, ?_, ?_⟩
    · rw [stagingOf_acknowledged, hset]
    · rw [acknowledged_dict, hrunning]; rfl
    · simpa using commitAsked_frame s who 2
  case discard =>
    intro s who haccepts
    refine ⟨_, by rw [exec_discard, execDiscard, writeNum_commit (by decide) haccepts], ?_, ?_⟩
    · rw [stagingOf_acknowledged, commitAsked, stagingOf_requestCommit_discard, begun_stagingOf]
    · simpa using commitAsked_frame s who 3
  case trusted =>
    intro s haccepts hentries hfree
    obtain ⟨hset, hrunning⟩ := commitAsked_begins (who := .trusted) (v := 1) (by decide) hentries hfree
    obtain ⟨-, -, hout⟩ := requestCommit_frame s 65 1 none
    refine ⟨_, by rw [exec_trustedDictCommit, execTrustedDictCommit, writeNum_commit (by decide) haccepts], ?_, ?_, ?_, ?_⟩
    · exact congrArg StageSet.state ((stagingOf_acknowledged ..).trans hset)
    · rw [acknowledged_dict, hrunning]; rfl
    · exact congrArg _ hout
    · simpa using commitAsked_frame s .trusted 1
  case start =>
    intro s r rest hrunning hqueued
    simp only [exec_commitStart, execCommitStart, commitStart, hrunning, hqueued]
  case passed =>
    intro s r hrun hstate hcommit hverdict hheads
    refine ⟨checksPassed s r, ?_, ?_, rfl, rfl, rfl⟩
    · rw [exec_commitChecksEnd, execCommitChecksEnd, commitChecksEnd_passed hrun hstate hcommit hverdict hheads]
    · exact congrArg StageSet.state (stagingOf_putStaging s r.set { stagingOf s r.set with state := 3 })
  case refused =>
    intro s r code k hrun hstate hset hkind hwait hverdict
    obtain ⟨hdict, hmem⟩ := refusalSent_keeps (commitRejected s r code k) r code k
    refine ⟨refusalSent (commitRejected s r code k) r code k, ?_, ?_, ?_, hmem⟩
    · rw [exec_commitChecksEnd, execCommitChecksEnd, commitChecksEnd_refused hrun hstate hverdict,
        commitRefused_ends code k hset hkind hwait]
    · rw [hdict]; rfl
    · rw [stagingOf, hdict, ← stagingOf, commitRejected, stagingOf_commitEnded]
  case lands =>
    intro s i n v hn hsub hlow hhigh hval himm hnumber
    obtain ⟨hidx, hrem⟩ := dkey_parts (i := i) hn
    refine ⟨wr (dropApplying s (dkey i n)) (dkey i n) (leVal v), ?_, rd_wr_same .., applyingVal_dropApplying s _,
      entriesKept_wr (dropApplying s (dkey i n)) _ _, rfl⟩
    rw [exec_entryTakesEffect, execEntryTakesEffect, entryTakesEffect_lands hval (by omega),
      landEntry_device himm (by omega) (by omega) (by omega), landKey_number hval hnumber]
  case held =>
    intro s n v hone height hval
    obtain ⟨hidx, hrem⟩ := dkey_parts (i := 0x5000) (show n < 256 by omega)
    obtain ⟨himm, hnumber⟩ := memConfig_entries n (by omega) hone
    refine ⟨wr (dropApplying (forceHeld s (dkey 0x5000 n)) (dkey 0x5000 n)) (dkey 0x5000 n) (leVal v), ?_, rd_wr_same ..,
      inForce_forceHeld_written .., entriesKept_wr (dropApplying (forceHeld s (dkey 0x5000 n)) (dkey 0x5000 n)) _ _, rfl⟩
    rw [exec_entryTakesEffect, execEntryTakesEffect, entryTakesEffect_lands hval (by omega), landEntry_memory himm hidx,
      landMemKey_held hidx (by omega), landKey_number (s := forceHeld s (dkey 0x5000 n)) hval hnumber]
  case done =>
    intro s r hrun hstate happlying hset hkind hwait
    refine ⟨commitCompleted s r, ?_, rfl, stagingOf_commitEnded .., rd_wr_same ..,
      entriesKept_wr (commitEnded s r { emptied (stagingOf s r.set) with state := 4 }) _ _, rfl, rfl⟩
    rw [exec_commitDone, execCommitDone, commitDone_landed hrun hstate happlying hset hkind hwait]

end Sys2Proof.Proofs
end

section
/-! SUPPORT. Stores and restores (R88): what one captures as it begins, and what its end leaves in the flash. -/

namespace Sys2Proof.Proofs

open Sys2Proof Sys2Proof.Machine Sys2Proof.Laws

/-! ### What a store begins with -/

/-- The slot that a store writes: the one that does not hold the newest configuration. -/
def targetSlot (s : State) : Nat := match newestStored s with | some (n, _) => 1 - n | none => 0

/-- The store count it writes there. -/
def nextCount (s : State) : Nat := match newestStored s with | some (_, x) => x.count + 1 | none => 1

/-- The state once a store or restore of kind `what` has begun for the requester: the slot it writes is invalid. -/
def storeBegun (s : State) (who : Requester) (what : Nat) : State :=
  { begun s who with
    flash := { s.flash with stored := setAt s.flash.stored (targetSlot s) none },
    dict := { s.dict with
      storing := some { what := what, slot := some (targetSlot s), who := setNo who,
                        content := { count := nextCount s, layout := rd s E.id_LAYOUT, records := storeRecords (begun s who) what } } } }

theorem begun_flash (s : State) (who : Requester) : (begun s who).flash = s.flash := by cases who <;> rfl

@[simp] theorem newestStored_begun (s : State) (who : Requester) : newestStored (begun s who) = newestStored s := by
  rw [newestStored, begun_flash, ← newestStored]

theorem askStore_of_idle {s : State} (what who path : Nat) (hfree : commitRuns s = false) (hstoring : s.dict.storing = none)
    (hwait : s.dict.storeWait = []) : askStore s what who path = startStore s what who path := by
  simp [askStore, hfree, hstoring, hwait]

/-- A store that fits begins: it has what it needs of the newest slot, and its records fit the region. -/
theorem startStore_begun {s : State} {who : Requester} {what : Nat} (hwhat : what ≠ 3)
    (hnewest : what = 4 ∨ what = 5 → newestStored s ≠ none) (hsize : imageSize (storeRecords (begun s who) what) ≤ 524288)
    (hcount : (storeRecords (begun s who) what).length ≤ 16384) :
    startStore (begun s who) what (setNo who) 0 = storeBegun s who what := by
  have hsource : ¬ ((what = 4 ∨ what = 5) ∧ (newestStored s).isNone) := fun ⟨hrestore, hnone⟩ =>
    hnewest hrestore (Option.isNone_iff_eq_none.mp hnone)
  have hfits : ¬ (524288 < imageSize (storeRecords (begun s who) what) ∨ 16384 < (storeRecords (begun s who) what).length) := by omega
  simp only [startStore, if_neg hwhat, newestStored_begun, if_neg hsource, if_neg hfits, begun_flash, begun_dict, begun_rd]
  rfl

/-- The commands that store or restore, with the signature each of them writes (R88). -/
theorem writeNum_storeEntry {s : State} {who : Requester} {n : Nat} (hn : n < 3)
    (haccepts : accepts s who (E.store_STORE_ALL + n) 0 (leBytes 4 0x65766173) (leBytes 4 0x65766173) = true) :
    writeNum s who (E.store_STORE_ALL + n) 4 0x65766173 = askStore (begun s who) n (setNo who) 0 := by
  have hidx : (E.store_STORE_ALL + n) / 256 = 0x1010 := by unfold E.store_STORE_ALL; omega
  rw [writeNum_store haccepts (stores_isImmediate.1 n hn) (.inl hidx), writeNow_store _ _ _ _ _ _ hn]

theorem writeNum_restoreEntry {s : State} {who : Requester} {n : Nat} (hn : n < 3)
    (haccepts : accepts s who (E.store_RESTORE_ALL + n) 0 (leBytes 4 0x64616F6C) (leBytes 4 0x64616F6C) = true) :
    writeNum s who (E.store_RESTORE_ALL + n) 4 0x64616F6C = askStore (begun s who) (3 + n) (setNo who) 0 := by
  have hidx : (E.store_RESTORE_ALL + n) / 256 = 0x1011 := by unfold E.store_RESTORE_ALL; omega
  rw [writeNum_store haccepts (stores_isImmediate.2 n hn) (.inr hidx), writeNow_restore _ _ _ _ _ _ hn]

section Idle

variable {s : State} {who : Requester} (hfree : commitRuns s = false) (hstoring : s.dict.storing = none) (hwait : s.dict.storeWait = [])
include hfree hstoring hwait

theorem askStore_begun_idle (what : Nat) :
    askStore (begun s who) what (setNo who) 0 = startStore (begun s who) what (setNo who) 0 :=
  askStore_of_idle _ _ _ ((commitRuns_begun s who).trans hfree) (by rw [begun_dict, hstoring]) (by rw [begun_dict, hwait])

/-- STORE_ALL, STORE_COMM or STORE_APP with no commit and no store in progress. -/
theorem writeNum_storeEntry_idle {n : Nat} (hn : n < 3)
    (haccepts : accepts s who (E.store_STORE_ALL + n) 0 (leBytes 4 0x65766173) (leBytes 4 0x65766173) = true)
    (hsize : imageSize (storeRecords (begun s who) n) ≤ 524288) (hcount : (storeRecords (begun s who) n).length ≤ 16384) :
    writeNum s who (E.store_STORE_ALL + n) 4 0x65766173 = storeBegun s who n := by
  rw [writeNum_storeEntry hn haccepts, askStore_begun_idle hfree hstoring hwait,
    startStore_begun (by omega) (by omega) hsize hcount]

/-- RESTORE_COMM or RESTORE_APP, likewise, with a stored configuration to restore from. -/
theorem writeNum_restoreEntry_idle {n : Nat} (hpos : 0 < n) (hn : n < 3)
    (haccepts : accepts s who (E.store_RESTORE_ALL + n) 0 (leBytes 4 0x64616F6C) (leBytes 4 0x64616F6C) = true)
    (hnewest : newestStored s ≠ none) (hsize : imageSize (storeRecords (begun s who) (3 + n)) ≤ 524288)
    (hcount : (storeRecords (begun s who) (3 + n)).length ≤ 16384) :
    writeNum s who (E.store_RESTORE_ALL + n) 4 0x64616F6C = storeBegun s who (3 + n) := by
  rw [writeNum_restoreEntry hn haccepts, askStore_begun_idle hfree hstoring hwait,
    startStore_begun (by omega) (fun _ => hnewest) hsize hcount]

end Idle

theorem at0_setAt_lt {α : Type} {d x : α} {l : List α} {i : Nat} (h : i < l.length) : at0 d (setAt l i x) i = x := by
  simp [at0, setAt, h]

theorem at0_setAt_none {α : Type} (l : List (Option α)) (i : Nat) : at0 none (setAt l i none) i = none := by
  by_cases h : i < l.length
  · exact at0_setAt_lt h
  · simp [at0, setAt, h]

theorem storeBegun_invalid (s : State) (who : Requester) (what : Nat) :
    at0 none (storeBegun s who what).flash.stored (targetSlot s) = none := at0_setAt_none ..

theorem storeBegun_frame (s : State) (who : Requester) (what : Nat) :
    (storeBegun s who what).od = s.od ∧ (storeBegun s who what).mem = s.mem := ⟨begun_od s who, begun_mem s who⟩

/-- What a restore writes: the newest slot's records outside the range that it restores to Default. -/
theorem storeRecords_restoreComm {s : State} {n : Nat} {x : StoredSlot} (h : newestStored s = some (n, x)) (who : Requester) :
    storeRecords (begun s who) 4 = x.records.filter (fun r => !inComm r.1) := by
  simp [storeRecords, h]

theorem storeRecords_restoreApp {s : State} {n : Nat} {x : StoredSlot} (h : newestStored s = some (n, x)) (who : Requester) :
    storeRecords (begun s who) 5 = x.records.filter (fun r => inComm r.1) := by
  simp [storeRecords, h]

theorem storing_storeBegun_newest {s : State} {n : Nat} {x : StoredSlot} (h : newestStored s = some (n, x)) (who : Requester) (what : Nat) :
    (storeBegun s who what).dict.storing =
      some { what := what, slot := some (1 - n), who := setNo who,
             content := { count := x.count + 1, layout := rd s E.id_LAYOUT, records := storeRecords (begun s who) what } } := by
  simp [storeBegun, targetSlot, nextCount, h]

/-! ### The end of a store -/

/-- The answer of a store is a message, a port's answer or an image action's end: no entry, memory byte, flash slot or other store. -/
theorem answerStore_keeps (s : State) (what who path abort : Nat) :
    (answerStore s what who path abort).od = s.od ∧ (answerStore s what who path abort).mem = s.mem ∧
      (answerStore s what who path abort).flash = s.flash := by
  have hout : May [.out, .clasp, .dict, .ports] .out := ⟨by decide⟩
  have hclasp : May [.out, .clasp, .dict, .ports] .clasp := ⟨by decide⟩
  have hdict : May [.out, .clasp, .dict, .ports] .dict := ⟨by decide⟩
  have hports : May [.out, .clasp, .dict, .ports] .ports := ⟨by decide⟩
  have hkept := (answerStore_kept (chg := [.out, .clasp, .dict, .ports]) (Kept.refl _ s) what who path abort).parts
  exact ⟨hkept .od (by decide), hkept .mem (by decide), hkept .flash (by decide)⟩

theorem answerStore_stores (s : State) (what who path abort : Nat) :
    (answerStore s what who path abort).dict.storing = s.dict.storing ∧
      (answerStore s what who path abort).dict.storeWait = s.dict.storeWait := by
  unfold answerStore
  dsimp only
  split
  · exact ⟨rfl, rfl⟩
  · split
    · exact ⟨rfl, rfl⟩
    · split
      · exact ⟨rfl, rfl⟩
      · split <;> exact ⟨rfl, rfl⟩

/-- The stored slots once the store `r` is done: its content in its slot, or both invalid (log 48). -/
def slotsAfter (s : State) (r : StoreRun) : List (Option StoredSlot) :=
  match r.slot with | some n => setAt s.flash.stored n (some r.content) | none => [none, none]

/-- The state with the store `r` done, before its answer. -/
def storeEnded (s : State) (r : StoreRun) : State :=
  { s with flash := { s.flash with stored := slotsAfter s r }, dict := { s.dict with storing := none } }

theorem storeDone_of_none_waits {s : State} {r : StoreRun} (hrun : s.dict.storing = some r) (hwait : s.dict.storeWait = []) :
    storeDone s = answerStore (storeEnded s r) r.what r.who r.path 0 := by
  obtain ⟨-, hstores⟩ := answerStore_stores (storeEnded s r) r.what r.who r.path 0
  simp only [storeDone, hrun]
  exact resumeStores_of_none_waits (hstores.trans hwait)

/-- STORE_DONE with no store waiting: the slots hold what was stored, and nothing else of the block's data has changed. -/
theorem exec_storeDone_last {s : State} {r : StoreRun} (hrun : s.dict.storing = some r) (hwait : s.dict.storeWait = []) :
    ∃ t, exec .storeDone s = .next t ∧ t.dict.storing = none ∧ t.flash.stored = slotsAfter s r ∧ t.od = s.od ∧ t.mem = s.mem := by
  obtain ⟨hod, hmem, hflash⟩ := answerStore_keeps (storeEnded s r) r.what r.who r.path 0
  obtain ⟨hstoring, -⟩ := answerStore_stores (storeEnded s r) r.what r.who r.path 0
  exact ⟨_, by rw [exec_storeDone, execStoreDone, storeDone_of_none_waits hrun hwait], hstoring, by rw [hflash]; rfl, hod, hmem⟩

/-- Settles O14: the three stores share one argument, the two restores of a range another. -/
theorem storesKeepTheLiveValues : Obligations.StoresKeepTheLiveValues := by
  refine ⟨?storeAll, ?storeComm, ?storeApp, ?restoreAll, ?restoreComm, ?restoreApp, ⟨?written, ?invalidated⟩⟩
  case storeAll =>
    intro s who haccepts hfree hstoring hwait hsize hcount
    refine ⟨storeBegun s who 0, targetSlot s, nextCount s, ?_, rfl, storeBegun_invalid s who 0, storeBegun_frame s who 0⟩
    exact congrArg _ (writeNum_storeEntry_idle hfree hstoring hwait (n := 0) (by decide) haccepts hsize hcount)
  case storeComm =>
    intro s who haccepts hfree hstoring hwait hsize hcount
    refine ⟨storeBegun s who 1, targetSlot s, nextCount s, ?_, rfl, storeBegun_invalid s who 1, storeBegun_frame s who 1⟩
    exact congrArg _ (writeNum_storeEntry_idle hfree hstoring hwait (n := 1) (by decide) haccepts hsize hcount)
  case storeApp =>
    intro s who haccepts hfree hstoring hwait hsize hcount
    refine ⟨storeBegun s who 2, targetSlot s, nextCount s, ?_, rfl, storeBegun_invalid s who 2, storeBegun_frame s who 2⟩
    exact congrArg _ (writeNum_storeEntry_idle hfree hstoring hwait (n := 2) (by decide) haccepts hsize hcount)
  case restoreAll =>
    intro s who haccepts hfree hstoring hwait
    refine ⟨startStore (begun s who) 3 (setNo who) 0, ?_, ?_, begun_flash s who, begun_od s who, begun_mem s who⟩
    · exact congrArg _ ((writeNum_restoreEntry (n := 0) (by decide) haccepts).trans (askStore_begun_idle hfree hstoring hwait 3))
    · rfl
  case restoreComm =>
    intro s who n x haccepts hfree hstoring hwait hnewest hsize hcount
    have hrecords := storeRecords_restoreComm hnewest who
    refine ⟨storeBegun s who 4, ?_, by rw [storing_storeBegun_newest hnewest, hrecords], storeBegun_frame s who 4⟩
    exact congrArg _ (writeNum_restoreEntry_idle hfree hstoring hwait (n := 1) (by decide) (by decide) haccepts (by simp [hnewest])
      (by rwa [hrecords]) (by rw [hrecords]; exact Nat.le_trans (List.length_filter_le ..) hcount))
  case restoreApp =>
    intro s who n x haccepts hfree hstoring hwait hnewest hsize hcount
    have hrecords := storeRecords_restoreApp hnewest who
    refine ⟨storeBegun s who 5, ?_, by rw [storing_storeBegun_newest hnewest, hrecords], storeBegun_frame s who 5⟩
    exact congrArg _ (writeNum_restoreEntry_idle hfree hstoring hwait (n := 2) (by decide) (by decide) haccepts (by simp [hnewest])
      (by rwa [hrecords]) (by rw [hrecords]; exact Nat.le_trans (List.length_filter_le ..) hcount))
  case written =>
    intro s r n hrun hslot hn hwait
    obtain ⟨t, hexec, hstoring, hstored, hframe⟩ := exec_storeDone_last hrun hwait
    refine ⟨t, hexec, hstoring, ?_, hframe⟩
    rw [hstored, slotsAfter, hslot]
    exact at0_setAt_lt hn
  case invalidated =>
    intro s r hrun hslot hwait
    obtain ⟨t, hexec, hstoring, hstored, hframe⟩ := exec_storeDone_last hrun hwait
    refine ⟨t, hexec, hstoring, ?_, hframe⟩
    rw [newestStored, hstored, slotsAfter, hslot]
    rfl

end Sys2Proof.Proofs
end

section
/-! SUPPORT. The configuration image (R90, R478): what an action stages, and how a check, a commit and a bad header end. -/

namespace Sys2Proof.Proofs

open Sys2Proof Sys2Proof.Machine Sys2Proof.Laws

/-! ### Staging the records of an image (R77, R81) -/

theorem accessViolation_dict (s : State) (who : Requester) (k : Nat) : (accessViolation s who k).dict = s.dict := by
  have hod : May [.od, .ten, .field] .od := ⟨by decide⟩
  have hten : May [.od, .ten, .field] .ten := ⟨by decide⟩
  have hfield : May [.od, .ten, .field] .field := ⟨by decide⟩
  exact (accessViolation_kept (chg := [.od, .ten, .field]) (Kept.refl _ s) who k).parts .dict (by decide)

theorem refuse_imageRun (s : State) (who : Requester) (write : Bool) (k code : Nat) (viol : Bool) :
    (refuse s who write k code viol).dict.imageRun = s.dict.imageRun := by
  unfold refuse
  dsimp only
  split
  · rw [accessViolation_dict]; rfl
  · rfl

theorem stageRecord_imageRun (s : State) (i n : Nat) (v : List Byte) : (stageRecord s i n v).1.dict.imageRun = s.dict.imageRun := by
  unfold stageRecord
  dsimp only
  split
  · exact refuse_imageRun ..
  · split
    · rfl
    · split
      · exact refuse_imageRun ..
      · rfl

/-- Whatever becomes of the records, the action in progress stays the same. -/
theorem stageRecords_imageRun (l : List (Nat × Nat × Nat × List Byte)) (s : State) :
    (stageRecords s l).1.dict.imageRun = s.dict.imageRun := by
  induction l generalizing s with
  | nil => rfl
  | cons p r ih =>
    obtain ⟨off, i, n, v⟩ := p
    have hrecord := stageRecord_imageRun s i n v
    unfold stageRecords
    dsimp only
    split
    · exact (ih _).trans hrecord
    · exact hrecord

theorem stageRecords_mem (s : State) (l : List (Nat × Nat × Nat × List Byte)) : (stageRecords s l).1.mem = s.mem := by
  have hod : May [.od, .ten, .clasp, .dict, .field] .od := ⟨by decide⟩
  have hten : May [.od, .ten, .clasp, .dict, .field] .ten := ⟨by decide⟩
  have hclasp : May [.od, .ten, .clasp, .dict, .field] .clasp := ⟨by decide⟩
  have hdict : May [.od, .ten, .clasp, .dict, .field] .dict := ⟨by decide⟩
  have hfield : May [.od, .ten, .clasp, .dict, .field] .field := ⟨by decide⟩
  exact (stageRecords_kept (chg := [.od, .ten, .clasp, .dict, .field]) (Kept.refl _ s) l).parts .mem (by decide)

/-! ### Actions (R90) -/

theorem endAction_imageRun {s : State} {r : ImageRun} (h : s.dict.imageRun = some r) (st err failAt : Nat) :
    (endAction s st err failAt).dict.imageRun = some { r with ended := true, state := st, err := err, failAt := failAt } := by
  simp [endAction, h]

/-- The end of an action is noted beside the staging sets and the memory. -/
theorem endAction_keeps (s : State) (st err failAt n : Nat) :
    (endAction s st err failAt).mem = s.mem ∧ stagingOf (endAction s st err failAt) n = stagingOf s n := by
  unfold endAction
  split <;> exact ⟨rfl, rfl⟩

theorem actionBegun_mem (s : State) (action who : Nat) (foe : Bool) : (actionBegun s action who foe).mem = s.mem := by
  simp [actionBegun]

theorem actionBegun_imageRun (s : State) (action who : Nat) (foe : Bool) :
    (actionBegun s action who foe).dict.imageRun = some { action := action, who := who, foe := foe } := by
  simp [actionBegun]

/-- The header checks look at the bytes and at the layout alone. -/
theorem imageHeaderOk_congr {s t : State} (h : rd t E.id_LAYOUT = rd s E.id_LAYOUT) (bs : List Byte) :
    imageHeaderOk t bs = imageHeaderOk s bs := by
  simp only [imageHeaderOk, h]

theorem rd_layout_actionBegun (s : State) (action who : Nat) (foe : Bool) :
    rd (actionBegun s action who foe) E.id_LAYOUT = rd s E.id_LAYOUT := by
  have hod : (actionBegun s action who foe).od = (wr (wr (wr s E.img_IMAGE_STATE 2) E.img_IMAGE_ERROR 0) E.img_IMAGE_FAIL_AT 0).od := rfl
  rw [rd, hod, ← rd, rd_wr_ne _ _ (by decide), rd_wr_ne _ _ (by decide), rd_wr_ne _ _ (by decide)]

/-- The state once the action's records have been staged. -/
def recordsStaged (s : State) (action who : Nat) (l : List (Nat × Nat × Nat × List Byte)) : State :=
  (stageRecords (actionBegun s action who false) l).1

theorem recordsStaged_keeps (s : State) (action who : Nat) (l : List (Nat × Nat × Nat × List Byte)) :
    (recordsStaged s action who l).dict.imageRun = some { action := action, who := who } ∧ (recordsStaged s action who l).mem = s.mem :=
  ⟨(stageRecords_imageRun l _).trans (actionBegun_imageRun ..), (stageRecords_mem _ l).trans (actionBegun_mem ..)⟩

/-- The loader's set emptied again (log 40). -/
def recordsDropped (s : State) : State := putStaging s 66 (emptied (stagingOf s 66))

theorem entries_recordsDropped (s : State) : (stagingOf (recordsDropped s) 66).entries = [] :=
  congrArg StageSet.entries (stagingOf_putStaging s 66 (emptied (stagingOf s 66)))

/-- An action on an image whose header fails ends at once with the header's abort code. -/
theorem startAction_badHeader {s : State} (action who : Nat) (hheader : imageHeaderOk s s.dict.image = false) :
    startAction s action who false = endAction (actionBegun s action who false) 4 0x08000020 0 := by
  have hbegun : imageHeaderOk (actionBegun s action who false) (actionBegun s action who false).dict.image = false :=
    (imageHeaderOk_congr (rd_layout_actionBegun ..) s.dict.image).trans hheader
  simp [startAction, hbegun]

/-- An action on an image whose records are all staged: a check empties the set and ends, the others commit it. -/
theorem startAction_staged {s : State} (action who : Nat) {l : List (Nat × Nat × Nat × List Byte)} {e : Nat}
    (hheader : imageHeaderOk s s.dict.image = true)
    (hrecords : imageRecords s.dict.image (leVal (slice s.dict.image 6 2)) 16 = some (l, e))
    (hstaged : (stageRecords (actionBegun s action who false) l).2 = none) :
    startAction s action who false =
      if action = 1 then
        endAction (recordsDropped (recordsStaged s action who l)) 3 0 0
      else requestCommit (recordsStaged s action who l) 66 1 (some 1) := by
  have himage : (actionBegun s action who false).dict.image = s.dict.image := rfl
  have hbegun : imageHeaderOk (actionBegun s action who false) s.dict.image = true :=
    (imageHeaderOk_congr (rd_layout_actionBegun ..) s.dict.image).trans hheader
  have hpair : stageRecords (actionBegun s action who false) l = (recordsStaged s action who l, none) := Prod.ext rfl hstaged
  simp only [startAction, himage, hbegun, hrecords, hpair, not_true, if_false, recordsDropped]

/-- A commit request of a set leaves it in a state of its own: done where nothing is staged, else waiting or being checked. -/
theorem requestCommit_state_ne_zero (s : State) (n : Nat) (e : Option Nat) : (stagingOf (requestCommit s n 1 e) n).state ≠ 0 := by
  by_cases hentries : (stagingOf s n).entries = []
  · have hdone : requestCommit s n 1 e = putStaging s n { stagingOf s n with state := 4, refusedAt := 0, reason := 0 } := by
      simp [requestCommit, hentries]
    simp [hdone]
  · by_cases hruns : commitRuns s = true
    · obtain ⟨hset, -⟩ := requestCommit_waits (v := 1) e (by decide) hentries hruns
      simp [hset]
    · obtain ⟨hset, -⟩ := requestCommit_begins (v := 1) e (by decide) hentries (Bool.not_eq_true _ ▸ hruns)
      simp [hset]

theorem requestCommit_imageRun (s : State) (n : Nat) (e : Option Nat) :
    (requestCommit s n 1 e).dict.imageRun = s.dict.imageRun := by
  unfold requestCommit
  dsimp only
  repeat' split
  all_goals rfl

/-! ### The commands (R80, R90) -/

/-- ACTION = `v` starts the action and is answered. -/
theorem writeNum_action {s : State} {who : Requester} {v : Nat} (hv : v < 256)
    (haccepts : accepts s who E.img_ACTION 0 (leBytes 1 v) (leBytes 1 v) = true) :
    writeNum s who E.img_ACTION 1 v = acknowledged (startAction (begun s who) v (setNo who) false) who E.img_ACTION 0 (leBytes 1 v) := by
  obtain ⟨-, -, himm⟩ := control_isImmediate
  rw [writeNum_immediate haccepts himm (by decide), writeNow_action, leVal_leBytes_one hv]

theorem imageHeaderOk_begun (s : State) (who : Requester) :
    imageHeaderOk (begun s who) (begun s who).dict.image = imageHeaderOk s s.dict.image := by
  rw [begun_dict, imageHeaderOk_congr (begun_rd s who _)]

theorem exec_imageWrite_accepted {s : State} {who : Requester} {off : Nat} {bytes v : List Byte}
    (haccepts : accepts s who E.img_IMAGE off bytes v = true) :
    exec (.imageWrite who off bytes) s = .next (acknowledged (loadImage (begun s who) v) who E.img_IMAGE off bytes) := by
  obtain ⟨-, himm, -⟩ := control_isImmediate
  rw [exec_imageWrite, execImageWrite, writeBytes_immediate haccepts himm (by decide), writeNow_image]

/-- ACTION = 2 and ACTION = 3 alike commit the loader's set once every record is staged. -/
theorem writeNum_action_commits {s : State} {who : Requester} {v : Nat} {l : List (Nat × Nat × Nat × List Byte)} {e : Nat}
    (hv : v < 256) (hcommits : v ≠ 1) (haccepts : accepts s who E.img_ACTION 0 (leBytes 1 v) (leBytes 1 v) = true)
    (hheader : imageHeaderOk s s.dict.image = true)
    (hrecords : imageRecords s.dict.image (leVal (slice s.dict.image 6 2)) 16 = some (l, e))
    (hstaged : (stageRecords (actionBegun (begun s who) v (setNo who) false) l).2 = none) :
    (writeNum s who E.img_ACTION 1 v).dict.imageRun = some { action := v, who := setNo who } ∧
      (stagingOf (writeNum s who E.img_ACTION 1 v) 66).state ≠ 0 ∧ (writeNum s who E.img_ACTION 1 v).mem = s.mem := by
  obtain ⟨hrun, hmem⟩ := recordsStaged_keeps (begun s who) v (setNo who) l
  obtain ⟨-, hcommitMem, -⟩ := requestCommit_frame (recordsStaged (begun s who) v (setNo who) l) 66 1 (some 1)
  rw [writeNum_action hv haccepts,
    startAction_staged v (setNo who) ((imageHeaderOk_begun s who).trans hheader) (by rw [begun_dict, hrecords]) hstaged, if_neg hcommits,
    acknowledged_dict, stagingOf_acknowledged, acknowledged_mem, requestCommit_imageRun, hcommitMem]
  exact ⟨hrun, requestCommit_state_ne_zero _ _ _, hmem.trans (begun_mem s who)⟩

/-- Settles O15: the actions come from `startAction_badHeader` and `startAction_staged`. -/
theorem imageActionsCheckAndCommit : Obligations.ImageActionsCheckAndCommit := by
  refine ⟨?write, ⟨?checked, ?badHeader⟩, ?commit, ?commitStore, ?actionEnd⟩
  case write =>
    intro s who off bytes v haccepts
    refine ⟨_, exec_imageWrite_accepted haccepts, by rw [acknowledged_dict]; rfl, by rw [acknowledged_rd]; exact rd_wr_same .., ?_, ?_⟩
    · intro j hj
      rw [acknowledged_rd]
      exact (rd_wr_ne _ _ (List.ne_of_not_mem_cons hj)).trans (begun_rd s who j)
    · rw [acknowledged_mem, loadImage, wr_mem, begun_mem]
  case checked =>
    intro s who l e haccepts hheader hrecords hstaged
    obtain ⟨hrun, hmem⟩ := recordsStaged_keeps (begun s who) 1 (setNo who) l
    obtain ⟨hendMem, hendSet⟩ := endAction_keeps (recordsDropped (recordsStaged (begun s who) 1 (setNo who) l)) 3 0 0 66
    refine ⟨_, by rw [exec_imageCheck, execImageCheck, writeNum_action (by decide) haccepts, startAction_staged 1 (setNo who)
      ((imageHeaderOk_begun s who).trans hheader) (by rw [begun_dict, hrecords]) hstaged, if_pos rfl], ?_, ?_, ?_⟩
    · rw [acknowledged_dict]
      exact endAction_imageRun (s := recordsDropped (recordsStaged (begun s who) 1 (setNo who) l)) hrun 3 0 0
    · rw [stagingOf_acknowledged, hendSet, entries_recordsDropped]
    · rw [acknowledged_mem, hendMem, recordsDropped, putStaging_mem, hmem, begun_mem]
  case badHeader =>
    intro s who haccepts hheader
    obtain ⟨hendMem, -⟩ := endAction_keeps (actionBegun (begun s who) 1 (setNo who) false) 4 0x08000020 0 66
    refine ⟨_, by rw [exec_imageCheck, execImageCheck, writeNum_action (by decide) haccepts,
      startAction_badHeader 1 (setNo who) ((imageHeaderOk_begun s who).trans hheader)], ?_, ?_⟩
    · rw [acknowledged_dict]
      exact endAction_imageRun (actionBegun_imageRun ..) 4 0x08000020 0
    · rw [acknowledged_mem, hendMem, actionBegun_mem, begun_mem]
  case commit =>
    intro s who l e haccepts hheader hrecords hstaged
    refine ⟨writeNum s who E.img_ACTION 1 2, by rw [exec_imageCommit, execImageCommit], ?_⟩
    exact writeNum_action_commits (by decide) (by decide) haccepts hheader hrecords hstaged
  case commitStore =>
    intro s who l e haccepts hheader hrecords hstaged
    refine ⟨writeNum s who E.img_ACTION 1 3, by rw [exec_imageCommitStore, execImageCommitStore], ?_⟩
    exact writeNum_action_commits (by decide) (by decide) haccepts hheader hrecords hstaged
  case actionEnd =>
    intro s r hrun hended hfoe
    simp [exec_imageActionEnd, execImageActionEnd, imageActionEnd, hrun, hended, hfoe]

end Sys2Proof.Proofs
end

section
/-! SUPPORT. The answer that carrying out a taken request forms (R58): it stands in the client's clasp, and no other part of the block
changes with it. -/

namespace Sys2Proof.Proofs

open Sys2Proof Sys2Proof.Machine Sys2Proof.Laws

theorem ok_kept_clasp (s : State) (c : Nat) (data : List Nat) : Kept [.clasp] s (ok s c data) := by
  have hclasp : May [.clasp] .clasp := ⟨by decide⟩
  exact ok_kept (Kept.refl _ s) c data

@[simp] theorem ok_od (s : State) (c : Nat) (data : List Nat) : (ok s c data).od = s.od :=
  (ok_kept_clasp s c data).parts .od (by decide)

@[simp] theorem rd_ok (s : State) (c : Nat) (data : List Nat) (k : Nat) : rd (ok s c data) k = rd s k := by
  rw [rd, ok_od, rd]

@[simp] theorem ok_mem (s : State) (c : Nat) (data : List Nat) : (ok s c data).mem = s.mem :=
  (ok_kept_clasp s c data).parts .mem (by decide)

@[simp] theorem ok_raster (s : State) (c : Nat) (data : List Nat) : (ok s c data).raster = s.raster :=
  (ok_kept_clasp s c data).parts .raster (by decide)

@[simp] theorem ok_compose (s : State) (c : Nat) (data : List Nat) : (ok s c data).compose = s.compose :=
  (ok_kept_clasp s c data).parts .compose (by decide)

@[simp] theorem ok_heads (s : State) (c : Nat) (data : List Nat) : (ok s c data).heads = s.heads :=
  (ok_kept_clasp s c data).parts .heads (by decide)

/-- The answer OK of a request stands in the clasp that the request was taken from. -/
theorem taken_ok {s : State} {c : Nat} {q : Taken} (htaken : (claspOf s c).taken = some q) (data : List Nat) :
    (claspOf (ok s c data) c).taken = some { q with answer := some { data := data } } := by
  simp [ok, answer, htaken]

/-- Whether a client asks something of the block is a matter of its clasp alone. -/
theorem asks_congr {s t : State} (h : t.clasp = s.clasp) (c op len : Nat) (q : Taken) : asks t c op len q = asks s c op len q := by
  rw [asks, asks, claspOf, claspOf, h]

/-- A doorbell sets its bit of EVENT while the client's reset does not run (R61, R65). -/
theorem event_setEvent {s : State} {c : Nat} (hreset : resettingClient s c = false) (bit : Nat) :
    (claspOf (setEvent s c bit) c).event = setBit (claspOf s c).event bit true := by
  simp only [setEvent, hreset, Bool.false_eq_true, if_false]
  split <;> simp

theorem bitOf_setBit_true (v i : Nat) : bitOf (setBit v i true) i = true := by
  have hquot : (v - v / 2 ^ i % 2 * 2 ^ i + 2 ^ i) / 2 ^ i = v / 2 ^ i - v / 2 ^ i % 2 + 1 := by
    rw [Nat.add_div_right _ (Nat.two_pow_pos i), Nat.mul_comm, Nat.sub_mul_div]
  simp only [bitOf, setBit, setFld, fld, if_true, Nat.pow_one, Nat.mod_succ, Nat.one_mul, hquot, beq_iff_eq]
  omega

end Sys2Proof.Proofs
end

section
/-! SUPPORT. Flip requests, releases and motion (R187-R189, R206): a group whose fences are still awaited is queued and nothing more,
and what each check of a request answers. -/

namespace Sys2Proof.Proofs

open Sys2Proof Sys2Proof.Machine Sys2Proof.Laws

/-! ### Groups that wait for their fences (R190, R191) -/

theorem unsignalled_iff {s : State} {c : Nat} {l : List FlipEntry} :
    unsignalled s c l = true ↔ ∀ e ∈ l, entrySignalled s c e = false ∧ entryFailed s c e = false := by
  simp [unsignalled]

/-- The fences are the contexts' (R154). -/
theorem unsignalled_congr {s t : State} (h : t.raster = s.raster) (c : Nat) (l : List FlipEntry) :
    unsignalled t c l = unsignalled s c l := by
  simp only [unsignalled, entrySignalled, entryFailed, fenceHeld, rctxOf, cctxOf, h]

theorem settleGroups_of_none_ready {s : State} (h : ∀ g ∈ s.compose.groups, groupReady s g = false) (n : Nat) :
    settleGroups n s = s := by
  have hnone : s.compose.groups.filter (fun g => groupReady s g && (groupHeads g).all (fun k => !hasLatch s k)) = [] :=
    List.filter_eq_nil_iff.mpr fun g hg => by simp [h g hg]
  cases n with
  | zero => rfl
  | succ n => rw [settleGroups, hnone]; rfl

/-- While every pending group awaits all of its fences, a look at the fences changes nothing. -/
theorem fenceToGroups_of_unsignalled {s : State}
    (h : ∀ g ∈ s.compose.groups, g.entries ≠ [] ∧ unsignalled s g.client g.entries = true) : fenceToGroups s = s := by
  have hfailed : s.compose.groups.filter (fun g => g.taken.isEmpty && g.entries.any (entryFailed s g.client)) = [] := by
    refine List.filter_eq_nil_iff.mpr fun g hg => ?_
    have hfences := unsignalled_iff.mp (h g hg).2
    simp +contextual [hfences]
  have hready : ∀ g ∈ s.compose.groups, groupReady s g = false := by
    intro g hg
    obtain ⟨hentries, hfences⟩ := h g hg
    obtain ⟨e, he⟩ := List.exists_mem_of_ne_nil _ hentries
    have hall : g.entries.all (entrySignalled s g.client) = false :=
      List.all_eq_false.mpr ⟨e, he, by simp [(unsignalled_iff.mp hfences e he).1]⟩
    rw [groupReady, hall, Bool.and_false]
  rw [fenceToGroups, hfailed]
  exact settleGroups_of_none_ready hready _

/-! ### Acceptance of a group (R187, R189) -/

/-- The group of these entries is pending last, under the client's next generation. -/
def groupQueued (s : State) (c : Nat) (l : List FlipEntry) (record : Option Nat) : State :=
  { s with compose := { s.compose with
      groups := s.compose.groups ++ [{ client := c, gen := nextGen s c, entries := l, record := record }],
      gens := tset (fun _ => 1) s.compose.gens c ((nextGen s c + 1) % 2 ^ 32) } }

/-- The facets that the entries name are held by the client. -/
def facetsHeld (s : State) (c : Nat) (l : List FlipEntry) : State := l.foldl (fun t e => wr t (E.facet_HOLDER e.head e.facet) c) s

theorem facetsHeld_kept (s : State) (c : Nat) (l : List FlipEntry) : Kept [.od] s (facetsHeld s c l) := by
  have hod : May [.od] .od := ⟨by decide⟩
  exact Kept.foldl (fun _ _ h => h.wr _ _) (Kept.refl _ s)

theorem acceptGroup_eq (s : State) (c : Nat) (l : List FlipEntry) (record : Option Nat) :
    acceptGroup s c l record = fenceToGroups (ok (facetsHeld (groupQueued s c l record) c l) c [nextGen s c]) := rfl

/-- A group accepted while no other is pending and its fences are awaited only joins the queue. -/
theorem acceptGroup_unsignalled {s : State} {c : Nat} {l : List FlipEntry} (hgroups : s.compose.groups = []) (hentries : l ≠ [])
    (hfences : unsignalled s c l = true) (record : Option Nat) :
    acceptGroup s c l record = ok (facetsHeld (groupQueued s c l record) c l) c [nextGen s c] := by
  have hkept := (facetsHeld_kept (groupQueued s c l record) c l).parts
  have hcompose : (facetsHeld (groupQueued s c l record) c l).compose = (groupQueued s c l record).compose :=
    hkept .compose (by decide)
  have hraster : (facetsHeld (groupQueued s c l record) c l).raster = s.raster := hkept .raster (by decide)
  rw [acceptGroup_eq]
  refine fenceToGroups_of_unsignalled fun g hg => ?_
  have hmem : g ∈ (groupQueued s c l record).compose.groups := by rwa [ok_compose, hcompose] at hg
  obtain rfl : g = { client := c, gen := nextGen s c, entries := l, record := record } := by
    simpa [groupQueued, hgroups] using hmem
  exact ⟨hentries, by rw [unsignalled_congr ((ok_raster _ _ _).trans hraster), hfences]⟩

/-! ### The requests (R187-R189, R206) -/

theorem exec_flip_asked {s : State} {c : Client} {q : Taken} (hasks : asks s c.val 0x3001 11 q = true) :
    exec (.flip c) s = .next (flipRequest s c.val [flipEntryOf (flipWord q)] none) := by
  rw [exec_flip, execFlip, serve_asked _ hasks rfl, flipSent]

theorem exec_flipGroup_asked {s : State} {c : Client} {q : Taken} (hasks : asks s c.val 0x3002 1 q = true) :
    exec (.flipGroup c) s = .next (flipGroupReq s c.val (argOf q 2)) := by
  rw [exec_flipGroup, execFlipGroup, serve_asked _ hasks rfl]

/-- The client's motion is the transform `m` (R206). -/
def motionSet (s : State) (c : Nat) (m : List Int) : State :=
  { s with compose := { s.compose with motion := tset (fun _ => none) s.compose.motion c (some m) } }

theorem motion_motionSet (s : State) (c : Nat) (m : List Int) : tget (fun _ => none) (motionSet s c m).compose.motion c = some m :=
  tget_tset_same _ s.compose.motion c (some m)

theorem exec_motion_asked {s : State} {c : Client} {q : Taken} (hasks : asks s c.val 0x3003 6 q = true) :
    exec (.motion c) s = .next
      (if xformDet ((List.range 6).map (fun i => toInt 32 (argOf q (2 + i)))) = 0 then fail s c.val 0x0104
      else ok (motionSet s c.val ((List.range 6).map (fun i => toInt 32 (argOf q (2 + i))))) c.val []) := by
  rw [exec_motion, execMotion, serve_asked _ hasks rfl]
  rfl

theorem exec_release_asked {s : State} {c : Client} {q : Taken} (hasks : asks s c.val 0x3004 1 q = true) :
    exec (.release c) s = .next (releaseReq s c.val (argOf q 2)) := by
  rw [exec_release, execRelease, serve_asked _ hasks rfl]

theorem exec_flipStatus_asked {s : State} {c : Client} {q : Taken} (hasks : asks s c.val 0x3005 1 q = true) :
    exec (.flipStatus c) s = .next (flipStatusReq s c.val (argOf q 2)) := by
  rw [exec_flipStatus, execFlipStatus, serve_asked _ hasks rfl]

/-- The `n` entries of the group record at window address `a` (R188). -/
def groupEntries (s : State) (c a n : Nat) : List (FlipEntry × Bool) :=
  (List.range n).map (fun i => flipEntryOf (leVal (winRd s c (a + 16 + 48 * i) 48)))

theorem groupEntries_getElem? {i n : Nat} (s : State) (c a : Nat) (hi : i < n) :
    (groupEntries s c a n)[i]? = some (flipEntryOf (leVal (winRd s c (a + 16 + 48 * i) 48))) := by
  simp [groupEntries, hi]

theorem flipGroupReq_misaligned {s : State} {c a : Nat} (halign : a % 16 ≠ 0) : flipGroupReq s c a = fail s c 4 := if_pos halign

theorem flipGroupReq_headerOutside {s : State} {c a : Nat} (halign : a % 16 = 0) (hheader : inWindow s c a 16 = false) :
    flipGroupReq s c a = deniedAddr s c := by
  simp [flipGroupReq, halign, hheader]

/-- A COUNT of 0 or above 16 is BAD_GROUP. -/
theorem flipGroupReq_badCount {s : State} {c a : Nat} (halign : a % 16 = 0) (hheader : inWindow s c a 16 = true)
    (hcount : winWord s c a = 0 ∨ 16 < winWord s c a ∧ winWord s c a < 32) : flipGroupReq s c a = fail s c 0x0104 := by
  have hfield : winWord s c a / 32 = 0 := by omega
  have hbad : winWord s c a % 32 = 0 ∨ 16 < winWord s c a % 32 := by omega
  simp only [flipGroupReq, halign, hheader, hfield, if_pos hbad, ne_eq, not_true_eq_false, if_false]

theorem flipGroupReq_inside {s : State} {c a : Nat} (halign : a % 16 = 0) (hheader : inWindow s c a 16 = true)
    (hlow : 1 ≤ winWord s c a) (hhigh : winWord s c a ≤ 16) (hentries : inWindow s c a (16 + 48 * winWord s c a) = true) :
    flipGroupReq s c a = flipRequest s c (groupEntries s c a (winWord s c a)) (some a) := by
  have hfield : winWord s c a / 32 = 0 := by omega
  have hmod : winWord s c a % 32 = winWord s c a := by omega
  have hgood : ¬(winWord s c a = 0 ∨ 16 < winWord s c a) := by omega
  simp only [flipGroupReq, halign, hheader, hfield, hmod, if_neg hgood, hentries, ne_eq, not_true_eq_false, if_false, groupEntries]

/-- RELEASE of a facet that the client has the right to, by the facet's holder (R189). -/
theorem releaseReq_named {s : State} {c a : Nat} (hfacet : a < 128) (hhead : headRight s c (a % 16) = true)
    (hright : facetRight s c (a % 16) (a / 16) = true) :
    releaseReq s c a =
      if rd s (E.facet_HOLDER (a % 16) (a / 16)) = c then ok (wr s (E.facet_HOLDER (a % 16) (a / 16)) 0xFFFF) c []
      else if rd s (E.facet_HOLDER (a % 16) (a / 16)) = 0xFFFF then ok s c []
      else fail s c 0x0101 := by
  simp [releaseReq, headFacetArg, hfacet, hhead, hright]

/-- Settles O33: an accepted flip is `acceptGroup_unsignalled`, and each request's answers are those of its lemmas above. -/
theorem flipsAreTakenOrRefused : Obligations.FlipsAreTakenOrRefused := by
  refine ⟨⟨?flip, ?flipCode, ?flipNoRight, ?flipOutside⟩, ⟨?group, ?groupMisaligned, ?groupOutside, ?groupCount⟩,
    ⟨?motion, ?motionSingular⟩, ⟨?release, ?releaseNotHeld, ?releaseNoRight, ?releaseNoFacet⟩, ⟨?status, ?statusNoFacet⟩⟩
  case flip =>
    intro s c q e b hasks hentry hgood hgroups hfences
    obtain ⟨htaken, -⟩ := asks_iff.mp hasks
    refine ⟨ok (facetsHeld (groupQueued s c.val [e] none) c.val [e]) c.val [nextGen s c.val], ?_, ?_, ?_, ?_, ?_, ?_⟩
    · rw [exec_flip_asked hasks, hentry, flipRequest, hgood]
      exact congrArg _ (acceptGroup_unsignalled hgroups (List.cons_ne_nil e []) hfences none)
    · rw [ok_compose]
      simp [facetsHeld, groupQueued, hgroups]
    · rw [nextGen, ok_compose]
      exact tget_tset_same ..
    · rw [rd_ok]
      exact rd_wr_same ..
    · intro k hk
      rw [rd_ok]
      exact rd_wr_ne _ _ (List.ne_of_not_mem_cons hk)
    · exact taken_ok (s := facetsHeld (groupQueued s c.val [e] none) c.val [e]) htaken _
  case flipCode =>
    intro s c q n hasks hcheck
    rw [exec_flip_asked hasks, flipRequest, hcheck]
  case flipNoRight =>
    intro s c q hasks hcheck
    rw [exec_flip_asked hasks, flipRequest, hcheck]
  case flipOutside =>
    intro s c q a hasks hcheck
    rw [exec_flip_asked hasks, flipRequest, hcheck]
  case group =>
    intro s c q n hasks halign hheader hcount hlow hhigh hentries
    subst hcount
    refine ⟨groupEntries s c.val (argOf q 2) (winWord s c.val (argOf q 2)), by simp [groupEntries],
      fun i hi => groupEntries_getElem? _ _ _ hi, ?_⟩
    rw [exec_flipGroup_asked hasks, flipGroupReq_inside halign hheader hlow hhigh hentries]
    rfl
  case groupMisaligned =>
    intro s c q hasks halign
    rw [exec_flipGroup_asked hasks, flipGroupReq_misaligned halign]
  case groupOutside =>
    intro s c q hasks halign hheader
    rw [exec_flipGroup_asked hasks, flipGroupReq_headerOutside halign hheader]
  case groupCount =>
    intro s c q hasks halign hheader hcount
    rw [exec_flipGroup_asked hasks, flipGroupReq_badCount halign hheader hcount]
  case motion =>
    intro s c q hasks hregular
    obtain ⟨htaken, -⟩ := asks_iff.mp hasks
    refine ⟨_, by rw [exec_motion_asked hasks, if_neg hregular], ?_, taken_ok (s := motionSet s c.val _) htaken _, ok_od .., ok_mem ..⟩
    rw [ok_compose]
    exact motion_motionSet ..
  case motionSingular =>
    intro s c q hasks hsingular
    rw [exec_motion_asked hasks, if_pos hsingular]
  case release =>
    intro s c q hasks hfacet hhead hright hholder
    rw [exec_release_asked hasks, releaseReq_named hfacet hhead hright, if_pos hholder]
  case releaseNotHeld =>
    intro s c q hasks hfacet hhead hright hholder
    rw [exec_release_asked hasks, releaseReq_named hfacet hhead hright, if_neg hholder]
  case releaseNoRight =>
    intro s c q hasks hfacet hhead
    rw [exec_release_asked hasks]
    simp [releaseReq, headFacetArg, hfacet, hhead]
  case releaseNoFacet =>
    intro s c q hasks hfacet
    rw [exec_release_asked hasks]
    simp [releaseReq, headFacetArg, Nat.not_lt.mpr hfacet]
  case status =>
    intro s c q hasks hfacet hhead hright
    rw [exec_flipStatus_asked hasks]
    simp [flipStatusReq, headFacetArg, hfacet, hhead, hright]
  case statusNoFacet =>
    intro s c q hasks hfacet
    rw [exec_flipStatus_asked hasks]
    simp [flipStatusReq, headFacetArg, Nat.not_lt.mpr hfacet]

end Sys2Proof.Proofs
end

section
/-! SUPPORT. Write-back (R196, R197): what a start, an end and a completed frame each leave in the head and the clasp. -/

namespace Sys2Proof.Proofs

open Sys2Proof Sys2Proof.Machine Sys2Proof.Laws

theorem headOf_congr {s t : State} (h : t.heads = s.heads) (n : Nat) : headOf t n = headOf s n := by
  rw [headOf, headOf, h]

theorem claspOf_congr {s t : State} (h : t.clasp = s.clasp) (c : Nat) : claspOf t c = claspOf s c := by
  rw [claspOf, claspOf, h]

/-- The sums that follow from the geometry are entries (R177, R178). -/
theorem updateSums_kept_od (s : State) : Kept [.od] s (updateSums s) := by
  have hod : May [.od] .od := ⟨by decide⟩
  exact updateSums_kept (Kept.refl _ s)

/-- Head `h` with its write-back replaced, and the sums that follow. -/
def wbReplaced (s : State) (h : Nat) (w : Option WbRec) : State := updateSums (setHead s h { headOf s h with wb := w })

theorem wbReplaced_clasp (s : State) (h : Nat) (w : Option WbRec) : (wbReplaced s h w).clasp = s.clasp :=
  (updateSums_kept_od _).parts .clasp (by decide)

theorem wb_wbReplaced (s : State) (h : Nat) (w : Option WbRec) : (headOf (wbReplaced s h w) h).wb = w := by
  have hheads : (wbReplaced s h w).heads = (setHead s h { headOf s h with wb := w }).heads :=
    (updateSums_kept_od _).parts .heads (by decide)
  rw [headOf_congr hheads, headOf_setHead]

/-! ### The end of a write-back (R196) -/

theorem wb_endWb (s : State) (h : Nat) : (headOf (endWb s h) h).wb = none := by
  have hclasp : May [.clasp] .clasp := ⟨by decide⟩
  cases hwb : (headOf s h).wb with
  | none => simp only [endWb, hwb]
  | some w =>
    have hserve : Kept [.clasp] (wbReplaced s h none)
        (serve (wbReplaced s h none) w.client 0x9002 (· == 1) (fun _ => ok (wbReplaced s h none) w.client [])) :=
      serve_kept (Kept.refl _ _) (fun _ => ok_kept_clasp _ _ _) _ _ _
    have hend : Kept [.clasp] (wbReplaced s h none) (endWb s h) := by
      simp only [endWb, hwb]
      exact Kept.ite hserve (Kept.refl _ _)
    rw [headOf_congr (hend.parts .heads (by decide)), wb_wbReplaced]

/-- The end of a write-back answers the WB_STOP that waits for it. -/
theorem endWb_answers {s : State} {h : Nat} {w : WbRec} {q : Taken} (hwb : (headOf s h).wb = some w) (hstopping : w.stopping = true)
    (hasks : asks s w.client 0x9002 1 q = true) : endWb s h = ok (wbReplaced s h none) w.client [] := by
  rw [← asks_congr (wbReplaced_clasp s h none)] at hasks
  simp only [endWb, hwb, if_pos hstopping]
  exact serve_asked _ hasks rfl

/-! ### The requests (R196) -/

theorem exec_wbStart_asked {s : State} {c : Client} {q : Taken} (hasks : asks s c.val 0x9001 7 q = true) :
    exec (.wbStart c) s = .next (wbStartReq s c.val q) := by
  rw [exec_wbStart, execWbStart, serve_asked _ hasks rfl]

theorem exec_wbStop_asked {s : State} {c : Client} {q : Taken} (hasks : asks s c.val 0x9002 1 q = true) :
    exec (.wbStop c) s = .next (wbStopReq s c.val q) := by
  rw [exec_wbStop, execWbStop, serve_asked _ hasks rfl]

/-- The write-back that a request with the arguments of `q` starts for client `c`. -/
def wbAsked (c : Nat) (q : Taken) : WbRec :=
  { client := c, buf0 := argOf q 3, buf1 := argOf q 4, pitch := argOf q 5, fmt := argOf q 6, status := argOf q 7,
    frames := argOf q 8 }

/-- Head `h` is left with a write-back that is asked to stop. -/
def wbStopAsked (s : State) (h : Nat) (w : WbRec) : State :=
  setHead s h { headOf s h with wb := some { w with stopping := true } }

theorem wb_wbStopAsked (s : State) (h : Nat) (w : WbRec) : (headOf (wbStopAsked s h w) h).wb = some { w with stopping := true } := by
  rw [wbStopAsked, headOf_setHead]

/-- A client's WB_STOP of its own write-back: nothing more while a frame is in progress, else the end at once. -/
theorem wbStopReq_own {s : State} {c : Nat} {q : Taken} {w : WbRec} (hhead : argOf q 2 < 16) (hright : headRight s c (argOf q 2) = true)
    (hwb : (headOf s (argOf q 2)).wb = some w) (hclient : w.client = c) (hstopping : w.stopping = false) :
    wbStopReq s c q =
      if w.started ∨ w.full then wbStopAsked s (argOf q 2) w else endWb (wbStopAsked s (argOf q 2) w) (argOf q 2) := by
  have hown : ¬(w.client ≠ c ∨ w.stopping = true) := by simp [hclient, hstopping]
  simp only [wbStopReq, Nat.not_le.mpr hhead, hright, hwb, if_neg hown, if_false, not_true_eq_false]
  rfl

/-! ### A completed frame (R197) -/

/-- The frame of `w` is counted, in the head and in WB_FRAMES, and its status record is written. -/
def frameRecorded (s : State) (h : Nat) (w : WbRec) : State :=
  winWr (bump (setHead s h { headOf s h with wb := some { w with full := false, count := w.count + 1 } }) (E.head_WB_FRAMES h))
    w.client w.status (leBytes 4 (w.count + 1) ++ leBytes 4 (w.doneBuf + 2 * b2n w.doneInc) ++ leBytes 8 s.time)

/-- The client's doorbell of write-back is rung as well. -/
def frameRung (s : State) (h : Nat) (w : WbRec) : State := setEvent (frameRecorded s h w) w.client 9

theorem wbFrame_full {s : State} {h : Nat} {w : WbRec} (hwb : (headOf s h).wb = some w) (hfull : w.full = true) :
    wbFrame s h =
      if (w.stopping ∧ ¬ w.started) ∨ (w.frames ≠ 0 ∧ w.frames ≤ w.count + 1) then
        endWb (raise (frameRung s h w) .wbFrame [(h : Int), ((w.count + 1 : Nat) : Int)]) h
      else raise (frameRung s h w) .wbFrame [(h : Int), ((w.count + 1 : Nat) : Int)] := by
  simp only [wbFrame, hwb, hfull, not_true_eq_false, if_false]
  rfl

theorem frameRecorded_kept (s : State) (h : Nat) (w : WbRec) :
    Kept [.mem, .memc] (bump (setHead s h { headOf s h with wb := some { w with full := false, count := w.count + 1 } })
      (E.head_WB_FRAMES h)) (frameRecorded s h w) := by
  have hmem : May [.mem, .memc] .mem := ⟨by decide⟩
  have hmemc : May [.mem, .memc] .memc := ⟨by decide⟩
  exact winWr_kept (Kept.refl _ _) _ _ _

theorem frameRung_kept (s : State) (h : Nat) (w : WbRec) : Kept [.out, .clasp, .ports] (frameRecorded s h w) (frameRung s h w) := by
  have hout : May [.out, .clasp, .ports] .out := ⟨by decide⟩
  have hclasp : May [.out, .clasp, .ports] .clasp := ⟨by decide⟩
  have hports : May [.out, .clasp, .ports] .ports := ⟨by decide⟩
  exact setEvent_kept (Kept.refl _ _) _ _

theorem rd_frameRecorded_ne (s : State) {h : Nat} (w : WbRec) {j : Nat} (hj : j ≠ E.head_WB_FRAMES h) :
    rd (frameRecorded s h w) j = rd s j := by
  rw [rd, (frameRecorded_kept s h w).parts .od (by decide)]
  exact rd_bump_ne _ hj

theorem rd_frameRung (s : State) (h : Nat) (w : WbRec) (j : Nat) : rd (frameRung s h w) j = rd (frameRecorded s h w) j := by
  rw [rd, (frameRung_kept s h w).parts .od (by decide), rd]

theorem rd_frameRung_count (s : State) (h : Nat) (w : WbRec) :
    rd (frameRung s h w) (E.head_WB_FRAMES h) = satInc (rd s (E.head_WB_FRAMES h)) 1 := by
  rw [rd_frameRung, rd, (frameRecorded_kept s h w).parts .od (by decide)]
  exact rd_wr_same ..

theorem wb_frameRung (s : State) (h : Nat) (w : WbRec) :
    (headOf (frameRung s h w) h).wb = some { w with full := false, count := w.count + 1 } := by
  rw [headOf_congr ((frameRung_kept s h w).parts .heads (by decide)), headOf_congr ((frameRecorded_kept s h w).parts .heads (by decide))]
  exact congrArg _ (headOf_setHead ..)

theorem pdOn_frameRung {s : State} (h : Head) (w : WbRec) (d : Nat) : pdOn (frameRung s h.val w) d = pdOn s d := by
  rw [pdOn, rd_frameRung, rd_frameRecorded_ne, pdOn]
  simp only [E.pd_STATE, E.head_WB_FRAMES]
  omega

/-- Which client's reset runs is a matter of the guests and of their records (R24, R31). -/
theorem resettingClient_congr {s t : State} (hten : t.ten = s.ten) (hrd : ∀ k, E.guest_FIRST_CLIENT 0 ≤ k → rd t k = rd s k)
    (c : Nat) : resettingClient t c = resettingClient s c := by
  have hfirst (g : Nat) : rd t (E.guest_FIRST_CLIENT g) = rd s (E.guest_FIRST_CLIENT g) :=
    hrd _ (by simp only [E.guest_FIRST_CLIENT]; omega)
  have hcount (g : Nat) : rd t (E.guest_CLIENT_COUNT g) = rd s (E.guest_CLIENT_COUNT g) :=
    hrd _ (by simp only [E.guest_FIRST_CLIENT, E.guest_CLIENT_COUNT]; omega)
  have hreset (g : Nat) : rd t (E.guest_RESET_CLIENT g) = rd s (E.guest_RESET_CLIENT g) :=
    hrd _ (by simp only [E.guest_FIRST_CLIENT, E.guest_RESET_CLIENT]; omega)
  simp only [resettingClient, guestOf, inRange, guestRec, hten, hfirst, hcount, hreset]

/-- A completed frame rings its client's doorbell 9 (R61, R197). -/
theorem event_frameRung {s : State} (h : Head) {w : WbRec} (hreset : resettingClient s w.client = false) :
    bitOf (claspOf (frameRung s h.val w) w.client).event 9 = true := by
  have hten : (frameRecorded s h.val w).ten = s.ten := (frameRecorded_kept s h.val w).parts .ten (by decide)
  have hrecorded : resettingClient (frameRecorded s h.val w) w.client = false := by
    rw [resettingClient_congr hten, hreset]
    intro k hk
    apply rd_frameRecorded_ne
    simp only [E.guest_FIRST_CLIENT] at hk
    simp only [E.head_WB_FRAMES]
    omega
  rw [frameRung, event_setEvent hrecorded, bitOf_setBit_true]

/-- Settles O34: each answer comes from what the write-back's start, its end and its completed frame leave. -/
theorem writeBackFramesStartAndEnd : Obligations.WriteBackFramesStartAndEnd := by
  refine ⟨⟨?start, ?startNoHead⟩, ⟨?stopLater, ?stopNow, ?stopNone⟩, ⟨?frame, ?lastFrame, ?noFrame⟩⟩
  case start =>
    intro s c q hasks hhead hfmt hpitch hbuf0 hbuf1 hstatus hrow hright hinside hnone hlimit
    obtain ⟨htaken, -⟩ := asks_iff.mp hasks
    have hform : ¬(16 ≤ argOf q 2 ∨ 65536 ≤ argOf q 5 ∨ argOf q 5 * 64 < 4 * rd s (E.head_H_ACTIVE (argOf q 2))) := by omega
    have hstart : wbStartReq s c.val q = ok (wbReplaced s (argOf q 2) (some (wbAsked c.val q))) c.val [] := by
      simp [wbStartReq, hfmt, hbuf0, hbuf1, hstatus, hform, hright, hinside, hnone, Nat.not_lt.mpr hlimit, wbReplaced, wbAsked]
    refine ⟨_, by rw [exec_wbStart_asked hasks, hstart], ?_, ?_⟩
    · rw [headOf_congr (ok_heads ..), wb_wbReplaced, wbAsked, hfmt]
    · exact taken_ok (by rw [claspOf_congr (wbReplaced_clasp ..), htaken]) _
  case startNoHead =>
    intro s c q hasks hhead
    rw [exec_wbStart_asked hasks]
    exact congrArg _ (if_pos (.inl hhead))
  case stopLater =>
    intro s c q w hasks hhead hright hwb hclient hstopping hbusy
    rw [exec_wbStop_asked hasks, wbStopReq_own hhead hright hwb hclient hstopping, if_pos hbusy, wbStopAsked]
  case stopNow =>
    intro s c q w hasks hhead hright hwb hclient hstopping hstarted hfull
    obtain ⟨htaken, -⟩ := asks_iff.mp hasks
    have hidle : ¬(w.started = true ∨ w.full = true) := by simp [hstarted, hfull]
    refine ⟨endWb (wbStopAsked s (argOf q 2) w) (argOf q 2), ?_, wb_endWb _ _, ?_⟩
    · rw [exec_wbStop_asked hasks, wbStopReq_own hhead hright hwb hclient hstopping, if_neg hidle]
    · rw [← hclient] at hasks htaken ⊢
      rw [endWb_answers (wb_wbStopAsked s (argOf q 2) w) rfl hasks]
      exact taken_ok (by rw [claspOf_congr (wbReplaced_clasp ..)]; exact htaken) _
  case stopNone =>
    intro s c q hasks hhead hright hnone
    rw [exec_wbStop_asked hasks]
    simp [wbStopReq, Nat.not_le.mpr hhead, hright, hnone]
  case frame =>
    intro s h w hwb hfull hstopping hframes hon
    have hgoesOn : ¬((w.stopping = true ∧ ¬ w.started = true) ∨ (w.frames ≠ 0 ∧ w.frames ≤ w.count + 1)) := by
      rw [hstopping]
      simp only [Bool.false_eq_true, false_and, false_or]
      omega
    refine ⟨emit (frameRung s h.val w) (.event false .wbFrame [(h.val : Int), ((w.count + 1 : Nat) : Int)]), ?_, ?_⟩
    · rw [exec_wbFrame, execWbFrame, wbFrame_full hwb hfull, if_neg hgoesOn,
        raise_on _ _ _ ((pdOn_frameRung h w 2).trans hon)]
    · rw [headOf_congr (emit_heads ..), rd_emit, claspOf_congr (emit_clasp ..)]
      exact ⟨wb_frameRung s h.val w, rd_frameRung_count s h.val w, event_frameRung h, rfl⟩
  case lastFrame =>
    intro s h w hwb hfull hcounted hlast
    refine ⟨_, by rw [exec_wbFrame, execWbFrame, wbFrame_full hwb hfull, if_pos (.inr ⟨hcounted, hlast⟩)], wb_endWb _ _⟩
  case noFrame =>
    intro s h hnone
    simp [exec_wbFrame, execWbFrame, wbFrame, hnone]

end Sys2Proof.Proofs
end

section
/-! SUPPORT. A head whose port is being brought up (R220, R231): the frame that starts is blank, though nothing else asks for a blank
frame. -/

namespace Sys2Proof.Proofs

open Sys2Proof Sys2Proof.Machine Sys2Proof.Laws

/-- Until its port reports ready, a routed head sends blank frames (R220, R231). -/
theorem nextFrameState_of_portComes {s : State} {h : Nat} (hcomes : portComes s h = true) : nextFrameState s h = 4 := by
  simp [nextFrameState, hcomes]

/-- Head 3 runs in video mode and is in the last line of its frame of 6, while port 1, which it is routed to, is being brought up again. -/
def headOnPortBroughtUp : State :=
  setHead (wr (wr (wr State.reset (E.head_STATE 3) 2) (E.head_LINE 3) 5) (E.port_STATE 1) 1) 3
    { begun := true, route := 1, tim := [4, 1, 1, 2, 2, 1, 1, 2, 48000, 0, 0, 0] }

theorem headOnPortBroughtUp_endsFrame :
    pdOn headOnPortBroughtUp (headDomain 3) = true ∧ pdOn headOnPortBroughtUp 2 = true ∧ hState headOnPortBroughtUp 3 = 2 ∧
    (headOf headOnPortBroughtUp 3).begun = true ∧
    frameLines headOnPortBroughtUp 3 ≤ rd headOnPortBroughtUp (E.head_LINE 3) + 1 ∧
    (headOf headOnPortBroughtUp 3).stopping = false ∧ commandMode headOnPortBroughtUp 3 = false ∧
    (headOf headOnPortBroughtUp 3).clean = false ∧ (headOf headOnPortBroughtUp 3).blankNext = false ∧
    dispWaits headOnPortBroughtUp 3 = false := by decide +kernel

theorem nextFrameState_headOnPortBroughtUp : nextFrameState headOnPortBroughtUp 3 = 4 :=
  nextFrameState_of_portComes (by decide +kernel)

/-- The frame that starts is blank. -/
theorem rd_state_headFrame_headOnPortBroughtUp :
    rd (headFrame headOnPortBroughtUp 3) (E.head_STATE 3) = nextFrameState headOnPortBroughtUp 3 := by decide +kernel

/-- Refutes O41: its HEAD_FRAME clause says that a running head goes on in STATE 2 at the end of its frame, but none of the clause's
conditions is about the head's port. In `headOnPortBroughtUp` the port is being brought up (STATE 1), and until it is ready the head
sends blank frames (R220, R231): STATE becomes 4. -/
theorem not_framesLinesAndLatchPoints : ¬ Obligations.FramesLinesAndLatchPoints := by
  unfold Obligations.FramesLinesAndLatchPoints
  rintro ⟨-, -, -, ⟨-, hruns, -⟩, -⟩
  obtain ⟨hdisp, hevents, hstate, hbegun, hlast, hstopping, hmode, hclean, hblank, hwaits⟩ := headOnPortBroughtUp_endsFrame
  obtain ⟨t, hexec, hrunning, -⟩ := hruns headOnPortBroughtUp 3 hdisp hevents hstate hbegun hlast hstopping hmode hclean hblank hwaits
  rw [exec_headFrame, execHeadFrame] at hexec
  injection hexec with hnext
  have hblankFrame : rd t (E.head_STATE 3) = 4 := by
    rw [← hnext, ← nextFrameState_headOnPortBroughtUp]
    exact rd_state_headFrame_headOnPortBroughtUp
  exact absurd (hrunning.symm.trans hblankFrame) (by decide)

end Sys2Proof.Proofs
end

section
/-! SUPPORT. What takes, latch points and landings leave in the dictionary: PD2's STATE, and of every head the timing record, the status
record but TE_STATE, and the first counters (`Steady`). -/

namespace Sys2Proof.Proofs

open Sys2Proof Sys2Proof.Machine Sys2Proof.Laws

/-- An entry that no take of a flip group, no latch point and no landing at a block writes: PD2's STATE, and the entries of a head at
H:00 to H:04 but TE_STATE (H + 0x03:04) and the counters from WARP_LIMITS on (H + 0x04:06). -/
def Steady (k : Nat) : Prop :=
  k = E.pd_STATE 2 ∨ (0x300000 ≤ k ∧ k < 0x340000 ∧ k % 0x4000 < 0x406 ∧ k % 0x4000 ≠ 0x304)

/-! ### Entries that are steady -/

theorem steady_pdState : Steady (E.pd_STATE 2) := .inl rfl

theorem steady_headState (h : Head) : Steady (E.head_STATE h.val) := by
  simp only [Steady, E.pd_STATE, E.head_STATE]; omega

theorem steady_headFrame (h : Head) : Steady (E.head_FRAME h.val) := by
  simp only [Steady, E.pd_STATE, E.head_FRAME]; omega

theorem steady_headLine (h : Head) : Steady (E.head_LINE h.val) := by
  simp only [Steady, E.pd_STATE, E.head_LINE]; omega

theorem steady_headLockState (h : Head) : Steady (E.head_LOCK_STATE h.val) := by
  simp only [Steady, E.pd_STATE, E.head_LOCK_STATE]; omega

theorem steady_headLastIrregular (h : Head) : Steady (E.head_LAST_IRREGULAR h.val) := by
  simp only [Steady, E.pd_STATE, E.head_LAST_IRREGULAR]; omega

theorem steady_headIrregCause (h : Head) : Steady (E.head_IRREG_CAUSE h.val) := by
  simp only [Steady, E.pd_STATE, E.head_IRREG_CAUSE]; omega

theorem steady_headIrregularFrames (h : Head) : Steady (E.head_IRREGULAR_FRAMES h.val) := by
  simp only [Steady, E.pd_STATE, E.head_IRREGULAR_FRAMES]; omega

theorem steady_headTiming (h : Head) {i : Nat} (hi : i < 256) : Steady (dkey (0x3000 + 0x40 * h.val) i) := by
  simp only [Steady, E.pd_STATE, dkey]; omega

/-! ### Reading a steady entry after a write elsewhere -/

/-- States with the same numbers read alike. -/
theorem rd_congr {s t : State} (h : t.od = s.od) (k : Nat) : rd t k = rd s k := by rw [rd, rd, h]

theorem rd_ite {c : Prop} [Decidable c] (a b : State) (k : Nat) :
    rd (if c then a else b) k = if c then rd a k else rd b k :=
  apply_ite (rd · k) c a b

/-- A loop whose every turn leaves an entry leaves it. -/
theorem rd_foldl {β : Type} {f : State → β → State} {l : List β} {k : Nat} (hf : ∀ t, ∀ x ∈ l, rd (f t x) k = rd t k)
    (s : State) :
    rd (l.foldl f s) k = rd s k := by
  induction l generalizing s with
  | nil => rfl
  | cons x l ih =>
    rw [List.foldl_cons, ih fun t y hy => hf t y (.tail _ hy)]
    exact hf s x (.head _)

theorem rd_setEvent (s : State) (c bit k : Nat) : rd (setEvent s c bit) k = rd s k := by
  have hout : May [.out, .clasp, .ports] .out := ⟨by decide⟩
  have hclasp : May [.out, .clasp, .ports] .clasp := ⟨by decide⟩
  have hports : May [.out, .clasp, .ports] .ports := ⟨by decide⟩
  exact rd_congr ((setEvent_kept (chg := [.out, .clasp, .ports]) (Kept.refl _ s) c bit).parts .od (by decide)) k

theorem rd_winWr (s : State) (c a : Nat) (bytes : List Byte) (k : Nat) : rd (winWr s c a bytes) k = rd s k := by
  have hmem : May [.mem, .memc] .mem := ⟨by decide⟩
  have hmemc : May [.mem, .memc] .memc := ⟨by decide⟩
  exact rd_congr ((winWr_kept (chg := [.mem, .memc]) (Kept.refl _ s) c a bytes).parts .od (by decide)) k

theorem rd_writeGroup (s : State) (g : FlipGroup) (status reason first k : Nat) :
    rd (writeGroup s g status reason first) k = rd s k := by
  unfold writeGroup
  split
  · rfl
  · exact rd_winWr ..

theorem rd_writeGroupStatus (s : State) (g : FlipGroup) (status first k : Nat) :
    rd (writeGroupStatus s g status first) k = rd s k := by
  unfold writeGroupStatus
  split
  · rfl
  · exact rd_winWr ..

theorem rd_dropGroup (s : State) (g : FlipGroup) (k : Nat) : rd (dropGroup s g) k = rd s k := rfl

theorem rd_putGroup (s : State) (g : FlipGroup) (k : Nat) : rd (putGroup s g) k = rd s k := rfl

theorem rd_latchLeaving (s : State) (h f k : Nat) : rd (latchLeaving s h f) k = rd s k := by
  unfold latchLeaving
  dsimp only
  split <;> rfl

theorem rd_refetchHead (s : State) (h k : Nat) : rd (refetchHead s h) k = rd s k := by
  have hcompose : May [.compose] .compose := ⟨by decide⟩
  exact rd_congr ((refetchHead_kept (chg := [.compose]) (Kept.refl _ s) h).parts .od (by decide)) k

theorem rd_latchAlarms (s : State) (h k : Nat) : rd (latchAlarms s h) k = rd s k := rfl

section
variable {k : Nat} (hk : Steady k)
include hk

theorem rd_wr_steady (s : State) {j : Nat} (v : Nat) (hj : ¬ Steady j) : rd (wr s j v) k = rd s k :=
  rd_wr_ne s v fun h => hj (h ▸ hk)

theorem rd_bump_steady (s : State) {j : Nat} (hj : ¬ Steady j) : rd (bump s j) k = rd s k := rd_wr_steady hk s _ hj

/-! ### Events (R422) -/

theorem rd_raise (s : State) (e : Ev) (args : List Int) : rd (raise s e args) k = rd s k := by
  have hdropped : ¬ Steady E.pwr_EVENTS_DROPPED := by simp only [Steady, E.pd_STATE, E.pwr_EVENTS_DROPPED]; omega
  unfold raise
  split
  · rfl
  · split
    · rfl
    · exact rd_bump_steady hk _ hdropped

/-! ### Takes of flip groups (R187-R190) -/

theorem rd_discardGroup (s : State) (g : FlipGroup) (reason : Nat) : rd (discardGroup s g reason) k = rd s k := by
  rw [discardGroup, rd_raise hk, rd_setEvent, rd_writeGroup, rd_dropGroup]

theorem rd_discardOlder (s : State) (g : FlipGroup) : rd (discardOlder s g) k = rd s k :=
  rd_foldl (fun t x _ => rd_discardGroup hk t x 2) s

/-- FLIPS of any facet number: at worst it meets a TE_STATE, which is not steady. -/
theorem rd_bump_flips (s : State) (h f : Nat) : rd (bump s (E.facet_FLIPS h f)) k = rd s k :=
  rd_bump_steady hk s (by simp only [Steady, E.pd_STATE, E.facet_FLIPS]; omega)

theorem rd_latchEntries (s : State) (g : FlipGroup) (h : Nat) : rd (latchEntries s g h) k = rd s k := by
  refine rd_foldl (fun t e _ => ?_) s
  split
  · rw [rd_setFacet, rd_bump_flips hk]
  · rfl

theorem rd_takeOne (s : State) (g : FlipGroup) (h : Nat) : rd (takeOne s g h).1 k = rd s k := by
  have htaken : ¬ Steady (E.head_GROUPS_TAKEN h) := by simp only [Steady, E.pd_STATE, E.head_GROUPS_TAKEN]; omega
  simp only [takeOne, apply_ite Prod.fst, rd_ite, rd_raise hk, rd_setEvent, rd_writeGroupStatus, rd_dropGroup, rd_putGroup,
    rd_writeGroup, rd_bump_steady hk _ htaken, rd_latchEntries hk, ite_self]

theorem rd_foldl_takeOne (heads : List Nat) (r : State × FlipGroup) :
    rd (heads.foldl (fun a n => takeOne a.1 a.2 n) r).1 k = rd r.1 k := by
  induction heads generalizing r with
  | nil => rfl
  | cons n heads ih => rw [List.foldl_cons, ih, rd_takeOne hk]

theorem rd_takeGroup (s : State) (g : FlipGroup) (h : Nat) : rd (takeGroup s g h) k = rd s k := by
  unfold takeGroup
  dsimp only
  split
  · rw [rd_foldl_takeOne hk, rd_takeOne hk]
  · exact rd_takeOne hk ..

theorem rd_settleGroups (n : Nat) (s : State) : rd (settleGroups n s) k = rd s k := by
  induction n generalizing s with
  | zero => rfl
  | succ n ih =>
    unfold settleGroups
    split
    · rfl
    · split
      · rfl
      · rw [ih, rd_takeGroup hk, rd_discardOlder hk]

/-! ### Latch points (R190, R191, R238, R247) -/

theorem rd_latchClient (s : State) (h c : Nat) : rd (latchClient s h c) k = rd s k := by
  unfold latchClient
  dsimp only
  split
  · exact rd_takeGroup hk ..
  · split
    · rfl
    · rw [rd_takeGroup hk, rd_discardOlder hk]

theorem rd_latchFacet (s : State) (h : Nat) {f : Nat} (hf : f < 8) : rd (latchFacet s h f) k = rd s k := by
  have hlate : ¬ Steady (E.facet_LATE h f) := by simp only [Steady, E.pd_STATE, E.facet_LATE]; omega
  have hreprojected : ¬ Steady (E.facet_REPROJECTED h f) := by simp only [Steady, E.pd_STATE, E.facet_REPROJECTED]; omega
  have hlimits : ¬ Steady (E.head_WARP_LIMITS h) := by simp only [Steady, E.pd_STATE, E.head_WARP_LIMITS]; omega
  simp only [latchFacet, rd_ite, rd_raise hk, rd_setFacet, rd_bump_steady hk _ hlate, ite_self]
  split
  · rfl
  · split
    · rfl
    · split
      · split <;> simp only [rd_ite, rd_raise hk, rd_setFacet, rd_setHead, rd_bump_steady hk _ hlate,
          rd_bump_steady hk _ hreprojected, rd_bump_steady hk _ hlimits, ite_self]
      · simp only [rd_ite, rd_raise hk, rd_bump_steady hk _ hlate, ite_self]

theorem rd_latchCamera (s : State) (h f r : Nat) : rd (latchCamera s h f r) k = rd s k := by
  have hslice : ¬ Steady (E.cam_SLICE_STATE r) := by simp only [Steady, E.pd_STATE, E.cam_SLICE_STATE]; omega
  simp only [latchCamera, rd_ite, rd_setFacet]
  split
  · rfl
  · split <;> simp only [rd_ite, rd_raise hk, rd_bump_flips hk, rd_setFacet, rd_wr_steady hk _ _ hslice, ite_self]

theorem rd_latchPresentation (s : State) (h : Nat) : rd (latchPresentation s h) k = rd s k := by
  have htaken : ¬ Steady (E.cameo_PRESENTATIONS h) := by simp only [Steady, E.pd_STATE, E.cameo_PRESENTATIONS]; omega
  have hlate : ¬ Steady (E.cameo_CAMEO_LATE h) := by simp only [Steady, E.pd_STATE, E.cameo_CAMEO_LATE]; omega
  unfold latchPresentation
  dsimp only
  split
  · rfl
  · simp only [rd_ite, raiseTrusted, rd_emit, bumpWrap, rd_wr_steady hk _ _ htaken, rd_setCameo, rd_bump_steady hk _ hlate, ite_self]

theorem rd_lateRender (s : State) (key h : Nat) (b : Machine.Sub) : rd (lateRender s key h b) k = rd s k := by
  unfold lateRender
  split
  · rfl
  · exact rd_raise hk ..

theorem rd_latchGovernor (s : State) (h : Nat) : rd (latchGovernor s h) k = rd s k := by
  refine rd_foldl (fun t p _ => ?_) s
  split
  · rfl
  · exact rd_foldl (fun u b _ => rd_lateRender hk u p.1 h b) t

end

end Sys2Proof.Proofs
end

section
/-! SUPPORT. The latch point as a whole (R190, R203), and what applied values (R82, R83), routes (R220, R227) and the stop of a head
(R216) leave in the dictionary and in the head. -/

namespace Sys2Proof.Proofs

open Sys2Proof Sys2Proof.Machine Sys2Proof.Laws

/-! ### The latch point -/

/-- The head has reached its latch point, and the event is raised. -/
def latchReached (s : State) (h : Nat) : State :=
  raise (setHead s h { headOf s h with
      taken := true,
      armed := lateEnough s && s.dict.applying.any (fun p => isComposeKey h p.1 || isOutputKey h p.1),
      routeArmed := lateEnough s && candVal s (E.xbar_ROUTE h) != rd s (E.xbar_ROUTE h) })
    .headLatch [h, rd s (E.head_FRAME h)]

/-- A camera facet of the head that shows its receiver takes the latch point of it. -/
def latchCameraFacet (s : State) (h f : Nat) : State :=
  match (facetOf s h f).cam with
  | some r => if facetOn s h f ∧ rd s (E.facet_SOURCE h f) = 1 then latchCamera s h f r else s
  | none => s

/-- What the latch point of a head does to the flip groups and to its eight facets. -/
def latchFacets (s : State) (h : Nat) : State :=
  (List.range 8).foldl (fun t f => latchLeaving t h f)
    ((List.range 8).foldl (fun t f => latchCameraFacet t h f)
      ((List.range 8).foldl (fun t f => latchFacet t h f) ((groupClients s h).foldl (fun t c => latchClient t h c) s)))

theorem headLatch_eq (s : State) (h : Nat) : headLatch s h =
    if ¬ hasLatch s h ∨ (headOf s h).taken ∨ ¬ (headOf s h).begun ∨
        (rd s (E.head_LINE h) ≠ latchLine s h ∧ ¬ commandMode s h) then s
    else latchGovernor (latchAlarms (latchPresentation (refetchHead (latchFacets (latchReached s h) h) h) h) h) h := rfl

theorem rd_latchCameraFacet {k : Nat} (hk : Steady k) (s : State) (h f : Nat) : rd (latchCameraFacet s h f) k = rd s k := by
  unfold latchCameraFacet
  split
  · rw [rd_ite, rd_latchCamera hk, ite_self]
  · rfl

theorem rd_latchFacets {k : Nat} (hk : Steady k) (s : State) (h : Nat) : rd (latchFacets s h) k = rd s k := by
  rw [latchFacets, rd_foldl fun t f _ => rd_latchLeaving t h f k, rd_foldl fun t f _ => rd_latchCameraFacet hk t h f,
    rd_foldl fun t f hf => rd_latchFacet hk t h (List.mem_range.mp hf), rd_foldl fun t c _ => rd_latchClient hk t h c]

theorem rd_headLatch {k : Nat} (hk : Steady k) (s : State) (h : Nat) : rd (headLatch s h) k = rd s k := by
  rw [headLatch_eq, rd_ite, rd_latchGovernor hk, rd_latchAlarms, rd_latchPresentation hk, rd_refetchHead, rd_latchFacets hk,
    latchReached, rd_raise hk, rd_setHead, ite_self]

theorem headLatch_dict (s : State) (h : Nat) : (headLatch s h).dict = s.dict := by
  let ch : List Part := [.out, .fwQueue, .od, .mem, .clasp, .raster, .compose, .heads, .ports, .cameo, .memc]
  have hout : May ch .out := ⟨by decide⟩
  have hfwQueue : May ch .fwQueue := ⟨by decide⟩
  have hod : May ch .od := ⟨by decide⟩
  have hmem : May ch .mem := ⟨by decide⟩
  have hclasp : May ch .clasp := ⟨by decide⟩
  have hraster : May ch .raster := ⟨by decide⟩
  have hcompose : May ch .compose := ⟨by decide⟩
  have hheads : May ch .heads := ⟨by decide⟩
  have hports : May ch .ports := ⟨by decide⟩
  have hcameo : May ch .cameo := ⟨by decide⟩
  have hmemc : May ch .memc := ⟨by decide⟩
  exact (headLatch_kept (chg := ch) (Kept.refl _ s) h).parts .dict (by decide)

/-! A latch point says nothing about the regularity of the frame in progress: of the head's record only the marks of the latch
point and of the warp limits change. -/

/-- A loop whose every turn leaves the heads' irregularity leaves it. -/
theorem irr_foldl {β : Type} {f : State → β → State} (l : List β) {h : Nat} (hf : ∀ t x, (headOf (f t x) h).irr = (headOf t h).irr)
    (s : State) : (headOf (l.foldl f s) h).irr = (headOf s h).irr := by
  induction l generalizing s with
  | nil => rfl
  | cons x l ih => rw [List.foldl_cons, ih, hf]

theorem raise_heads (s : State) (e : Ev) (args : List Int) : (raise s e args).heads = s.heads := by
  unfold raise
  split
  · rfl
  · split <;> rfl

theorem latchClient_heads (s : State) (h c : Nat) : (latchClient s h c).heads = s.heads := by
  let ch : List Part := [.out, .fwQueue, .od, .mem, .clasp, .compose, .ports, .memc]
  have hout : May ch .out := ⟨by decide⟩
  have hfwQueue : May ch .fwQueue := ⟨by decide⟩
  have hod : May ch .od := ⟨by decide⟩
  have hmem : May ch .mem := ⟨by decide⟩
  have hclasp : May ch .clasp := ⟨by decide⟩
  have hcompose : May ch .compose := ⟨by decide⟩
  have hports : May ch .ports := ⟨by decide⟩
  have hmemc : May ch .memc := ⟨by decide⟩
  exact (latchClient_kept (chg := ch) (Kept.refl _ s) h c).parts .heads (by decide)

theorem heads_ite {c : Prop} [Decidable c] (a b : State) : (if c then a else b).heads = if c then a.heads else b.heads :=
  apply_ite State.heads c a b

theorem irr_ite {c : Prop} [Decidable c] (a b : State) (h : Nat) :
    (headOf (if c then a else b) h).irr = if c then (headOf a h).irr else (headOf b h).irr := apply_ite (fun t => (headOf t h).irr) c a b

theorem irr_latchFacet (s : State) (h f : Nat) : (headOf (latchFacet s h f) h).irr = (headOf s h).irr := by
  have hraise (t : State) (e : Ev) (args : List Int) : headOf (raise t e args) h = headOf t h := headOf_congr (raise_heads ..) h
  have hbump (t : State) (k : Nat) : headOf (bump t k) h = headOf t h := rfl
  have hfacet (t : State) (x : FacetRec) : headOf (setFacet t h f x) h = headOf t h := rfl
  simp only [latchFacet, irr_ite, hraise, hbump, hfacet, ite_self]
  split
  · rfl
  · split
    · rfl
    · split
      · split <;> simp only [irr_ite, hraise, hbump, hfacet, headOf_setHead, ite_self]
      · simp only [irr_ite, hraise, hbump, ite_self]

theorem latchCameraFacet_heads (s : State) (h f : Nat) : (latchCameraFacet s h f).heads = s.heads := by
  let ch : List Part := [.out, .fwQueue, .od, .clasp, .compose]
  have hout : May ch .out := ⟨by decide⟩
  have hfwQueue : May ch .fwQueue := ⟨by decide⟩
  have hod : May ch .od := ⟨by decide⟩
  have hclasp : May ch .clasp := ⟨by decide⟩
  have hcompose : May ch .compose := ⟨by decide⟩
  unfold latchCameraFacet
  split
  · exact (Kept.ite (latchCamera_kept (chg := ch) (Kept.refl _ s) ..) (Kept.refl _ s)).parts .heads (by decide)
  · rfl

theorem latchLeaving_heads (s : State) (h f : Nat) : (latchLeaving s h f).heads = s.heads := by
  unfold latchLeaving
  dsimp only
  split <;> rfl

theorem refetchHead_heads (s : State) (h : Nat) : (refetchHead s h).heads = s.heads := by
  have hcompose : May [.compose] .compose := ⟨by decide⟩
  exact (refetchHead_kept (chg := [.compose]) (Kept.refl _ s) h).parts .heads (by decide)

theorem latchPresentation_heads (s : State) (h : Nat) : (latchPresentation s h).heads = s.heads := by
  unfold latchPresentation
  dsimp only
  split
  · rfl
  · rw [heads_ite]
    exact ite_self ..

theorem latchGovernor_heads (s : State) (h : Nat) : (latchGovernor s h).heads = s.heads := by
  let ch : List Part := [.out, .fwQueue, .od, .raster]
  have hout : May ch .out := ⟨by decide⟩
  have hfwQueue : May ch .fwQueue := ⟨by decide⟩
  have hod : May ch .od := ⟨by decide⟩
  have hraster : May ch .raster := ⟨by decide⟩
  exact (latchGovernor_kept (chg := ch) (Kept.refl _ s) h).parts .heads (by decide)

theorem irr_latchFacets (s : State) (h : Nat) : (headOf (latchFacets s h) h).irr = (headOf s h).irr := by
  rw [latchFacets, irr_foldl _ fun t f => congrArg HeadRec.irr (headOf_congr (latchLeaving_heads t h f) h),
    irr_foldl _ fun t f => congrArg HeadRec.irr (headOf_congr (latchCameraFacet_heads t h f) h),
    irr_foldl _ fun t f => irr_latchFacet t h f,
    irr_foldl _ fun t c => congrArg HeadRec.irr (headOf_congr (latchClient_heads t h c) h)]

theorem irr_headLatch (s : State) (h : Nat) : (headOf (headLatch s h) h).irr = (headOf s h).irr := by
  rw [headLatch_eq]
  split
  · rfl
  · rw [headOf_congr (latchGovernor_heads ..), latchAlarms, headOf_congr (setCameo_heads ..), headOf_congr (latchPresentation_heads ..),
      headOf_congr (refetchHead_heads ..), irr_latchFacets, latchReached, headOf_congr (raise_heads ..), headOf_setHead]

/-! ### Applied values (R82, R83) -/

/-- A landing drops the value from those that are on their way. -/
theorem applying_landKey (s : State) (k : Nat) : (landKey s k).dict.applying = s.dict.applying.filter (fun e => e.1 != k) := by
  unfold landKey
  split
  next hnone =>
    have hno : ∀ e ∈ s.dict.applying, (e.1 != k) = true := by
      simpa [applyingVal, List.find?_eq_none] using hnone
    exact (List.filter_eq_self.mpr hno).symm
  next => unfold setLive; split <;> rfl

theorem rd_landKey_ne (s : State) {j k : Nat} (hne : j ≠ k) : rd (landKey s k) j = rd s j := by
  unfold landKey
  split
  · rfl
  · unfold setLive
    split
    · rfl
    · exact rd_wr_ne _ _ hne

theorem applying_foldl_landKey (l : List Nat) (s : State) :
    (l.foldl landKey s).dict.applying = s.dict.applying.filter (fun e => !l.contains e.1) := by
  induction l generalizing s with
  | nil => exact (List.filter_eq_self.mpr fun _ _ => rfl).symm
  | cons k l ih =>
    rw [List.foldl_cons, ih, applying_landKey, List.filter_filter]
    refine List.filter_congr fun e _ => ?_
    rw [List.contains_cons, Bool.not_or, Bool.and_comm, bne]

theorem applying_landWhere (s : State) (p : Nat → Bool) :
    (landWhere s p).dict.applying = s.dict.applying.filter (fun e => !p e.1) := by
  rw [landWhere, applying_foldl_landKey]
  refine List.filter_congr fun e he => ?_
  congr 1
  rw [Bool.eq_iff_iff, List.contains_iff_mem, List.mem_filter]
  exact and_iff_right (List.mem_map_of_mem he)

/-- A landing writes no entry but those it lands. -/
theorem rd_landWhere (s : State) {p : Nat → Bool} {k : Nat} (hk : p k = false) : rd (landWhere s p) k = rd s k := by
  refine rd_foldl (fun t j hj => rd_landKey_ne t ?_) s
  rintro rfl
  exact absurd (List.mem_filter.mp hj).2 (by simp [hk])

/-- What an entry reads after landings depends on the values on their way and on what it read before. -/
theorem rd_foldl_landKey_congr (l : List Nat) {s t : State} {k : Nat} (happlying : t.dict.applying = s.dict.applying)
    (hrd : rd t k = rd s k) : rd (l.foldl landKey t) k = rd (l.foldl landKey s) k := by
  induction l generalizing s t with
  | nil => exact hrd
  | cons j l ih =>
    refine ih (by rw [applying_landKey, applying_landKey, happlying]) ?_
    have hval : applyingVal t j = applyingVal s j := by rw [applyingVal, applyingVal, happlying]
    by_cases hj : k = j
    · subst hj
      unfold landKey
      rw [hval]
      split
      · exact hrd
      · unfold setLive
        split
        · exact hrd
        · rw [rd_wr_same, rd_wr_same]
    · rw [rd_landKey_ne _ hj, rd_landKey_ne _ hj, hrd]

theorem rd_landWhere_congr {s t : State} {k : Nat} (p : Nat → Bool) (happlying : t.dict.applying = s.dict.applying)
    (hrd : rd t k = rd s k) : rd (landWhere t p) k = rd (landWhere s p) k := by
  rw [landWhere, landWhere, happlying]
  exact rd_foldl_landKey_congr _ happlying hrd

theorem landWhere_kept_values (s : State) (p : Nat → Bool) : Kept [.od, .dom, .dict] s (landWhere s p) := by
  have hod : May [.od, .dom, .dict] .od := ⟨by decide⟩
  have hdom : May [.od, .dom, .dict] .dom := ⟨by decide⟩
  have hdict : May [.od, .dom, .dict] .dict := ⟨by decide⟩
  exact landWhere_kept (Kept.refl _ s) p

/-! ### Sums, slices, banks and ports -/

section
variable {k : Nat} (hk : Steady k)
include hk

theorem rd_updateSums (s : State) : rd (updateSums s) k = rd s k := by
  have hused (h : Nat) : ¬ Steady (E.head_POOL_USED h) := by simp only [Steady, E.pd_STATE, E.head_POOL_USED]; omega
  have hfree (h : Nat) : ¬ Steady (E.head_POOL_FREE h) := by simp only [Steady, E.pd_STATE, E.head_POOL_FREE]; omega
  have hbytes (h : Nat) : ¬ Steady (E.head_FETCH_BYTES h) := by simp only [Steady, E.pd_STATE, E.head_FETCH_BYTES]; omega
  have hlimit (h : Nat) : ¬ Steady (E.head_FETCH_LIMIT h) := by simp only [Steady, E.pd_STATE, E.head_FETCH_LIMIT]; omega
  refine rd_foldl (fun t h _ => ?_) s
  simp only [rd_wr_steady hk _ _ (hused h), rd_wr_steady hk _ _ (hfree h), rd_wr_steady hk _ _ (hbytes h),
    rd_wr_steady hk _ _ (hlimit h)]
  refine rd_foldl (fun u f hf => rd_wr_steady hk u _ ?_) t
  have hrange := List.mem_range.mp hf
  simp only [Steady, E.pd_STATE, E.facet_POOL_LINES]
  omega

theorem rd_updateSlices (s : State) : rd (updateSlices s) k = rd s k := by
  refine rd_foldl (fun t h _ => rd_wr_steady hk t _ ?_) s
  simp only [Steady, E.pd_STATE, E.head_SLICE]
  omega

theorem rd_installBank (s : State) (h : Nat) : rd (installBank s h) k = rd s k := by
  have hgen : ¬ Steady (E.head_FILIGREE_GEN h) := by simp only [Steady, E.pd_STATE, E.head_FILIGREE_GEN]; omega
  simp only [installBank, bumpWrap, rd_dput, rd_wr_steady hk _ _ hgen, rd_setHead]

end

/-- A port that follows its heads writes its own status record and nothing below it. -/
theorem rd_settleRoute (s : State) (route : Nat) {k : Nat} (hk : k < 0x341100) : rd (settleRoute s route) k = rd s k := by
  unfold settleRoute
  split
  · rfl
  · next p _ _ =>
    have hstate : k ≠ E.port_STATE p := by simp only [E.port_STATE]; omega
    have hstreams : k ≠ E.port_STREAMS p := by simp only [E.port_STREAMS]; omega
    have hslots : k ≠ E.port_MST_SLOTS p := by simp only [E.port_MST_SLOTS]; omega
    simp only [settlePort, settleStreams, rd_ite, rd_wr_ne _ _ hstate, rd_wr_ne _ _ hstreams, rd_wr_ne _ _ hslots, ite_self]

theorem settleRoute_kept_od (s : State) (route : Nat) : Kept [.od] s (settleRoute s route) := by
  have hod : May [.od] .od := ⟨by decide⟩
  exact settleRoute_kept (Kept.refl _ s) route

theorem Steady.lt {k : Nat} (hk : Steady k) : k < 0x340000 := by
  simp only [Steady, E.pd_STATE] at hk
  omega

theorem rd_settleTe (s : State) (h : Nat) {k : Nat} (hk : k ≠ E.head_TE_STATE h) : rd (settleTe s h) k = rd s k := by
  simp only [settleTe, rd_ite, rd_wr_ne _ _ hk, ite_self]

end Sys2Proof.Proofs
end

section
/-! SUPPORT. Timing changes, enables, route changes and a lost frame lock (R213-R221): a head that stops, and a timing change at once,
each taken apart into the steps that write the head's entries and those that leave them. -/

namespace Sys2Proof.Proofs

open Sys2Proof Sys2Proof.Machine Sys2Proof.Laws

/-! ### Routes (R220, R227) -/

theorem rd_landRoute {k : Nat} (hk : Steady k) (s : State) (h : Nat) : rd (landRoute s h) k = rd s k := by
  have hlow := hk.lt
  have hroute : k ≠ E.xbar_ROUTE h := by simp only [E.xbar_ROUTE]; omega
  simp only [landRoute]
  rw [rd_settleRoute _ _ (by omega), rd_settleRoute _ _ (by omega), rd_setHead, rd_landKey_ne _ hroute]

/-- The head's entry of the route, once it has taken effect, is the one that was on its way. -/
theorem rd_route_landRoute (s : State) (h : Head) :
    rd (landRoute s h.val) (E.xbar_ROUTE h.val) = rd (landKey s (E.xbar_ROUTE h.val)) (E.xbar_ROUTE h.val) := by
  have hlow : E.xbar_ROUTE h.val < 0x341100 := by simp only [E.xbar_ROUTE]; omega
  simp only [landRoute]
  rw [rd_settleRoute _ _ hlow, rd_settleRoute _ _ hlow, rd_setHead]

theorem headOf_landRoute (s : State) (h : Nat) :
    headOf (landRoute s h) h =
      { headOf (landKey s (E.xbar_ROUTE h)) h with route := rd (landKey s (E.xbar_ROUTE h)) (E.xbar_ROUTE h) } := by
  simp only [landRoute]
  rw [headOf_congr ((settleRoute_kept_od _ _).parts .heads (by decide)), headOf_congr ((settleRoute_kept_od _ _).parts .heads (by decide)),
    headOf_setHead]

theorem routes_number : ∀ h : Head, isDomainKey (E.xbar_ROUTE h.val) = false := by decide +kernel

theorem headOf_setHeadState (s : State) (h st n : Nat) : headOf (setHeadState s h st) n = headOf s n := by
  unfold setHeadState
  dsimp only
  split <;> rfl

theorem rd_state_setHeadState (s : State) (h st : Nat) : rd (setHeadState s h st) (E.head_STATE h) = st := by
  have hne : E.head_STATE h ≠ E.head_TOLERANCE h := by simp only [E.head_STATE, E.head_TOLERANCE]; omega
  simp only [setHeadState, rd_ite, rd_wr_ne _ _ hne, rd_wr_same, ite_self]

theorem rd_setHeadState_ne (s : State) (h st : Nat) {k : Nat} (hstate : k ≠ E.head_STATE h) (htolerance : k ≠ E.head_TOLERANCE h) :
    rd (setHeadState s h st) k = rd s k := by
  simp only [setHeadState, rd_ite, rd_wr_ne _ _ hstate, rd_wr_ne _ _ htolerance, ite_self]

/-! ### A head that stops (R216) -/

/-- An entry of a head's status record is none that a commit lands: not of the timing record, the composition or the output stage. -/
theorem status_lands_nowhere {h k : Nat} (hk : k / 256 = 0x3003 + 0x40 * h) :
    isTimingKey h k = false ∧ isComposeKey h k = false ∧ isOutputKey h k = false := by
  have hbackground : k ≠ E.head_BACKGROUND h := by simp only [E.head_BACKGROUND]; omega
  have hlut : k ≠ E.head_LUT_SEL h := by simp only [E.head_LUT_SEL]; omega
  have hoff : 0x3003 + 0x40 * h - (0x3000 + 0x40 * h) = 3 := by omega
  simp [isTimingKey, isComposeKey, isOutputKey, hk, hoff, hbackground, hlut]

theorem rd_landGeometry {h k : Nat} (hk : Steady k) (hstatus : k / 256 = 0x3003 + 0x40 * h) (s : State) :
    rd (landGeometry s h) k = rd s k := by
  obtain ⟨-, hcompose, houtput⟩ := status_lands_nowhere hstatus
  have hholder {f : Nat} (hf : f < 8) : ¬ Steady (E.facet_HOLDER h f) := by simp only [Steady, E.pd_STATE, E.facet_HOLDER]; omega
  have hsettle (t : State) (f : Nat) (hf : f ∈ List.range 8) : rd (settleFacet t h f) k = rd t k := by
    rw [settleFacet, rd_ite, rd_wr_steady hk _ _ (hholder (List.mem_range.mp hf)), ite_self]
  simp only [landGeometry]
  rw [rd_updateSums hk, rd_foldl hsettle, rd_landWhere _ (by simp [hcompose, houtput])]

theorem rd_endWb {k : Nat} (hk : Steady k) (s : State) (h : Nat) : rd (endWb s h) k = rd s k := by
  have hreplaced (w : Option WbRec) : rd (wbReplaced s h w) k = rd s k := by rw [wbReplaced, rd_updateSums hk, rd_setHead]
  have hclasp : May [.clasp] .clasp := ⟨by decide⟩
  cases hwb : (headOf s h).wb with
  | none => simp only [endWb, hwb]
  | some w =>
    have hserve : Kept [.clasp] (wbReplaced s h none)
        (serve (wbReplaced s h none) w.client 0x9002 (· == 1) (fun _ => ok (wbReplaced s h none) w.client [])) :=
      serve_kept (Kept.refl _ _) (fun _ => ok_kept_clasp _ _ _) _ _ _
    have hend : Kept [.clasp] (wbReplaced s h none) (endWb s h) := by
      simp only [endWb, hwb]
      exact Kept.ite hserve (Kept.refl _ _)
    rw [rd_congr (hend.parts .od (by decide)), hreplaced]

/-- The head scans no more: its status record is that of a disabled head. -/
def scanEnded (s : State) (h : Nat) : State :=
  wr (wr (wr (setHeadState (skipRegions s h) h 0) (E.head_LINE h) 0) (E.head_TE_STATE h) 0) (E.head_LOCK_STATE h) 0

/-- What follows the end of scanning leaves the steady entries of the head's status record. -/
theorem rd_stopHead {h k : Nat} (hk : Steady k) (hstatus : k / 256 = 0x3003 + 0x40 * h) (s : State) :
    rd (stopHead s h) k = rd (scanEnded s h) k := by
  obtain ⟨htiming, -, houtput⟩ := status_lands_nowhere hstatus
  unfold stopHead
  extract_lets x s2 s3 s4 s5 s6 s7 s8
  have hs5 : rd s5 k = rd s3 k := by
    rw [rd_landWhere _ houtput, rd_landGeometry hk hstatus, rd_landWhere _ htiming, rd_setHead]
  have hs7 : rd s7 k = rd s5 k := by
    rw [rd_updateSums hk, rd_updateSlices hk, rd_landRoute hk, rd_foldl fun t g _ => rd_takeOne hk t g h]
  have hs8 : rd s8 k = rd s7 k := by
    unfold s8
    split
    · rw [rd_ite, rd_endWb hk, ite_self]
    · rfl
  rw [rd_settleGroups hk, hs8, hs7, hs5]
  rfl

theorem stopHead_disables (s : State) (h : Head) :
    rd (stopHead s h.val) (E.head_STATE h.val) = 0 ∧ rd (stopHead s h.val) (E.head_LINE h.val) = 0 := by
  constructor
  · rw [rd_stopHead (steady_headState h) (by simp only [E.head_STATE]; omega), scanEnded, rd_wr_ne, rd_wr_ne, rd_wr_ne,
      rd_state_setHeadState] <;>
    · simp only [E.head_STATE, E.head_LINE, E.head_TE_STATE, E.head_LOCK_STATE]
      omega
  · rw [rd_stopHead (steady_headLine h) (by simp only [E.head_LINE]; omega), scanEnded, rd_wr_ne, rd_wr_ne, rd_wr_same] <;>
    · simp only [E.head_LINE, E.head_TE_STATE, E.head_LOCK_STATE]
      omega

end Sys2Proof.Proofs
end

section
/-! SUPPORT. The timing change at once (R213, R221), step by step: a latch point in the same line, the landing of the timing record, the
frame lock, the bank and the port, and the irregular frame. -/

namespace Sys2Proof.Proofs

open Sys2Proof Sys2Proof.Machine Sys2Proof.Laws

/-- A latch point in the same line is taken first, except in command mode (R221). -/
def latchedFirst (s : State) (h : Nat) : State := if ¬ commandMode s h then headLatch s h else s

/-- The timing values have landed, and the record is in force in the head. -/
def timingLanded (s : State) (h : Nat) : State :=
  setHead (landWhere s (isTimingKey h)) h
    { headOf (landWhere s (isTimingKey h)) h with tim := liveTiming (landWhere s (isTimingKey h)) h, extra := 0 }

/-- A head that was locking or locked before, in `s`, acquires its lock anew. -/
def lockRestarted (s t : State) (h : Nat) : State :=
  if rd s (E.head_LOCK_STATE h) = 1 ∨ rd s (E.head_LOCK_STATE h) = 2 then lockAcquire t h else t

/-- A head whose active area is another than before, in `s`, gets a new bank. -/
def bankForArea (s t : State) (h : Nat) : State :=
  if hActive t h ≠ hActive s h ∨ vActive t h ≠ vActive s h then installBank t h else t

/-- The head with the new timing in force, its lock, its bank and its port. -/
def headRetimed (s : State) (h : Nat) : State := bankForArea s (lockRestarted s (timingLanded s h) h) h

/-- The port and TE_STATE follow the head. -/
def timingInForce (s : State) (h : Nat) : State :=
  settleTe (settleRoute (headRetimed s h) (headOf (headRetimed s h) h).route) h

theorem timingImmediate_changes {s : State} {h : Nat} (hscans : scanning s h = true) (hwaits : timingWaits s h = true)
    (hchange : candVal s (E.head_CHANGE h) = 0) (henable : candVal s (E.head_ENABLE h) ≠ 0) (hsplash : (cameoOf s h).splash = false)
    (hchanges : timingChanges s h = true) :
    timingImmediate s h = updateSums (updateSlices (irregular (timingInForce (latchedFirst s h) h) h 1)) := by
  simp only [timingImmediate, hscans, hwaits, hchange, henable, hsplash, hchanges, latchedFirst, not_true_eq_false, ne_eq,
    Bool.false_eq_true, or_self, if_false, true_and]
  rfl

theorem timingImmediate_repeats {s : State} {h : Nat} (hscans : scanning s h = true) (hwaits : timingWaits s h = true)
    (hchange : candVal s (E.head_CHANGE h) = 0) (henable : candVal s (E.head_ENABLE h) ≠ 0) (hsplash : (cameoOf s h).splash = false)
    (hchanges : timingChanges s h = false) : timingImmediate s h = landWhere s (isTimingKey h) := by
  simp [timingImmediate, hscans, hwaits, hchange, henable, hsplash, hchanges]

/-! ### The latch point before the change -/

theorem rd_latchedFirst {k : Nat} (hk : Steady k) (s : State) (h : Nat) : rd (latchedFirst s h) k = rd s k := by
  rw [latchedFirst, rd_ite, rd_headLatch hk, ite_self]

theorem latchedFirst_dict (s : State) (h : Nat) : (latchedFirst s h).dict = s.dict := by
  rw [latchedFirst, apply_ite State.dict, headLatch_dict, ite_self]

theorem irr_latchedFirst (s : State) (h : Nat) : (headOf (latchedFirst s h) h).irr = (headOf s h).irr := by
  rw [latchedFirst, irr_ite, irr_headLatch, ite_self]

/-- The latch point leaves the timing record that lands after it. -/
theorem liveTiming_latchedFirst (s : State) (h : Head) :
    liveTiming (landWhere (latchedFirst s h.val) (isTimingKey h.val)) h.val = liveTiming (landWhere s (isTimingKey h.val)) h.val := by
  refine List.map_congr_left fun i hi => ?_
  have hsub : i < 256 := by
    simp only [rangeFrom, List.mem_map, List.mem_range] at hi
    omega
  exact rd_landWhere_congr _ (by rw [latchedFirst_dict]) (rd_latchedFirst (steady_headTiming h hsub) s h.val)

/-! ### The head's record -/

theorem headOf_timingLanded (s : State) (h : Nat) :
    headOf (timingLanded s h) h = { headOf s h with tim := liveTiming (landWhere s (isTimingKey h)) h, extra := 0 } := by
  rw [timingLanded, headOf_setHead, headOf_congr ((landWhere_kept_values s (isTimingKey h)).parts .heads (by decide))]

theorem headOf_lockAcquire (s : State) (h : Nat) :
    headOf (lockAcquire s h) h = { headOf s h with lockRun := 0, jump := rd s (E.head_LOCK_ACQUIRE h) == 1 } := headOf_setHead ..

theorem headOf_installBank (s : State) (h : Nat) :
    headOf (installBank s h) h =
      { headOf s h with oldBank := (headOf s h).bank, bank := compileBank s h, faulty := false, faulted := false } := headOf_setHead ..

theorem headRetimed_timing (s : State) (h : Nat) :
    (headOf (headRetimed s h) h).tim = liveTiming (landWhere s (isTimingKey h)) h ∧
      (headOf (headRetimed s h) h).irr = (headOf s h).irr := by
  have hlock : (headOf (lockRestarted s (timingLanded s h) h) h).tim = liveTiming (landWhere s (isTimingKey h)) h ∧
      (headOf (lockRestarted s (timingLanded s h) h) h).irr = (headOf s h).irr := by
    unfold lockRestarted
    split
    · rw [headOf_lockAcquire, headOf_timingLanded]
      exact ⟨rfl, rfl⟩
    · rw [headOf_timingLanded]
      exact ⟨rfl, rfl⟩
  unfold headRetimed bankForArea
  split
  · rw [headOf_installBank]
    exact hlock
  · exact hlock

theorem timingInForce_kept (s : State) (h : Nat) : Kept [.od] (headRetimed s h) (timingInForce s h) := by
  have hod : May [.od] .od := ⟨by decide⟩
  exact settleTe_kept (settleRoute_kept_od _ _) h

/-! ### The dictionary -/

theorem rd_headRetimed {h k : Nat} (hk : Steady k) (htiming : isTimingKey h k = false) (hlock : k ≠ E.head_LOCK_STATE h) (s : State) :
    rd (headRetimed s h) k = rd s k := by
  rw [headRetimed, bankForArea, rd_ite, rd_installBank hk, ite_self, lockRestarted, rd_ite, lockAcquire, rd_setHead, rd_wr_ne _ _ hlock,
    ite_self, timingLanded, rd_setHead, rd_landWhere _ htiming]

theorem rd_timingInForce_headRetimed {h k : Nat} (hk : Steady k) (hte : k ≠ E.head_TE_STATE h) (s : State) :
    rd (timingInForce s h) k = rd (headRetimed s h) k := by
  have hlow := hk.lt
  rw [timingInForce, rd_settleTe _ _ hte, rd_settleRoute _ _ (by omega)]

/-- A head that was locked acquires its lock anew (R221). -/
theorem rd_lockState_headRetimed {s : State} (h : Head) (hlocked : rd s (E.head_LOCK_STATE h.val) = 2) :
    rd (headRetimed s h.val) (E.head_LOCK_STATE h.val) = 1 := by
  have hlock : rd (lockRestarted s (timingLanded s h.val) h.val) (E.head_LOCK_STATE h.val) = 1 := by
    rw [lockRestarted, if_pos (.inr hlocked), lockAcquire, rd_setHead, rd_wr_same]
  rw [headRetimed, bankForArea, rd_ite, rd_installBank (steady_headLockState h), hlock, ite_self]

theorem headRetimed_dict (s : State) (h : Nat) : (headRetimed s h).dict = (landWhere s (isTimingKey h)).dict := by
  have hbank (t : State) : (installBank t h).dict = t.dict := rfl
  have hlock (t : State) : (lockAcquire t h).dict = t.dict := rfl
  rw [headRetimed, bankForArea, apply_ite State.dict, hbank, ite_self, lockRestarted, apply_ite State.dict, hlock, ite_self]
  rfl

/-- No timing value is on its way any more. -/
theorem timingWaits_landed {s t : State} {h : Nat} (hdict : t.dict = (landWhere s (isTimingKey h)).dict) : timingWaits t h = false := by
  rw [timingWaits, hdict, applying_landWhere, List.any_eq_false]
  intro e he
  simpa using (List.mem_filter.mp he).2

/-! ### The irregular frame (R213) -/

/-- The first cause of irregularity in a frame is counted and reported. -/
theorem irregular_first {s : State} {h : Nat} (cause : Nat) (hirr : (headOf s h).irr = false) (hon : pdOn s 2 = true) :
    irregular s h cause =
      emit (bump (setHead (wr (wr s (E.head_LAST_IRREGULAR h) (rd s (E.head_FRAME h))) (E.head_IRREG_CAUSE h) cause) h
        { headOf s h with irr := true }) (E.head_IRREGULAR_FRAMES h)) (.event false .headIrregular [h, cause]) := by
  have hframes : E.pd_STATE 2 ≠ E.head_IRREGULAR_FRAMES h := by simp only [E.pd_STATE, E.head_IRREGULAR_FRAMES]; omega
  have hcause : E.pd_STATE 2 ≠ E.head_IRREG_CAUSE h := by simp only [E.pd_STATE, E.head_IRREG_CAUSE]; omega
  have hlast : E.pd_STATE 2 ≠ E.head_LAST_IRREGULAR h := by simp only [E.pd_STATE, E.head_LAST_IRREGULAR]; omega
  rw [pdOn] at hon
  simp only [irregular, hirr, Bool.false_eq_true, if_false]
  rw [raise_on]
  rw [pdOn, rd_bump_ne _ hframes, rd_setHead, rd_wr_ne _ _ hcause, rd_wr_ne _ _ hlast, hon]

theorem rd_irregular_first {s : State} {h : Nat} (cause : Nat) (hirr : (headOf s h).irr = false) (hon : pdOn s 2 = true) :
    rd (irregular s h cause) (E.head_IRREGULAR_FRAMES h) = satInc (rd s (E.head_IRREGULAR_FRAMES h)) 1 ∧
      rd (irregular s h cause) (E.head_IRREG_CAUSE h) = cause ∧
      rd (irregular s h cause) (E.head_LAST_IRREGULAR h) = rd s (E.head_FRAME h) := by
  have hcause : E.head_IRREG_CAUSE h ≠ E.head_IRREGULAR_FRAMES h := by
    simp only [E.head_IRREG_CAUSE, E.head_IRREGULAR_FRAMES]; omega
  have hlast : E.head_LAST_IRREGULAR h ≠ E.head_IRREGULAR_FRAMES h := by
    simp only [E.head_LAST_IRREGULAR, E.head_IRREGULAR_FRAMES]; omega
  have hother : E.head_LAST_IRREGULAR h ≠ E.head_IRREG_CAUSE h := by
    simp only [E.head_LAST_IRREGULAR, E.head_IRREG_CAUSE]; omega
  rw [irregular_first cause hirr hon]
  refine ⟨?_, ?_, ?_⟩
  · rw [rd_emit, bump, bumpBy, rd_wr_same, rd_setHead, rd_wr_ne _ _ hcause.symm, rd_wr_ne _ _ hlast.symm]
  · rw [rd_emit, rd_bump_ne _ hcause, rd_setHead, rd_wr_same]
  · rw [rd_emit, rd_bump_ne _ hlast, rd_setHead, rd_wr_ne _ _ hother, rd_wr_same]

theorem rd_irregular_ne {s : State} {h k : Nat} (cause : Nat) (hk : Steady k) (hframes : k ≠ E.head_IRREGULAR_FRAMES h)
    (hcause : k ≠ E.head_IRREG_CAUSE h) (hlast : k ≠ E.head_LAST_IRREGULAR h) : rd (irregular s h cause) k = rd s k := by
  simp only [irregular, rd_ite, rd_raise hk, rd_bump_ne _ hframes, rd_setHead, rd_wr_ne _ _ hcause, rd_wr_ne _ _ hlast, ite_self]

end Sys2Proof.Proofs
end

section
/-! SUPPORT. O42, a clause for each way that a timing change, an enable, a route change or a lost frame lock goes. -/

namespace Sys2Proof.Proofs

open Sys2Proof Sys2Proof.Machine Sys2Proof.Laws

/-! ### The effect of a timing change at once (R213, R221) -/

theorem isTimingKey_of_ne {h k : Nat} (hk : k / 256 ≠ 0x3000 + 0x40 * h) : isTimingKey h k = false := by simp [isTimingKey, hk]

/-- The sums and the slices follow, with no other part of the block. -/
theorem sumsAndSlices_kept (s : State) : Kept [.od] s (updateSums (updateSlices s)) := by
  have hod : May [.od] .od := ⟨by decide⟩
  exact updateSums_kept (updateSlices_kept (Kept.refl _ s))

/-- Up to the irregular frame, the change writes none of the steady entries but the timing record and LOCK_STATE. -/
theorem rd_timingInForce {h k : Nat} (hk : Steady k) (hidx : k / 256 ≠ 0x3000 + 0x40 * h) (hlock : k ≠ E.head_LOCK_STATE h)
    (hte : k ≠ E.head_TE_STATE h) (s : State) : rd (timingInForce (latchedFirst s h) h) k = rd s k := by
  rw [rd_timingInForce_headRetimed hk hte, rd_headRetimed hk (isTimingKey_of_ne hidx) hlock, rd_latchedFirst hk]

/-- What the timing change at once leaves (R213). -/
theorem timingImmediate_effect {s : State} {h : Head} (hscans : scanning s h.val = true) (hwaits : timingWaits s h.val = true)
    (hchange : candVal s (E.head_CHANGE h.val) = 0) (henable : candVal s (E.head_ENABLE h.val) ≠ 0)
    (hsplash : (cameoOf s h.val).splash = false) (hchanges : timingChanges s h.val = true) (hirr : (headOf s h.val).irr = false)
    (hon : pdOn s 2 = true) :
    (headOf (timingImmediate s h.val) h.val).tim = liveTiming (landWhere s (isTimingKey h.val)) h.val ∧
      timingWaits (timingImmediate s h.val) h.val = false ∧
      rd (timingImmediate s h.val) (E.head_IRREGULAR_FRAMES h.val) = satInc (rd s (E.head_IRREGULAR_FRAMES h.val)) 1 ∧
      rd (timingImmediate s h.val) (E.head_IRREG_CAUSE h.val) = 1 ∧
      rd (timingImmediate s h.val) (E.head_LAST_IRREGULAR h.val) = rd s (E.head_FRAME h.val) ∧
      rd (timingImmediate s h.val) (E.head_STATE h.val) = rd s (E.head_STATE h.val) ∧
      (rd s (E.head_LOCK_STATE h.val) = 2 → rd (timingImmediate s h.val) (E.head_LOCK_STATE h.val) = 1) ∧
      .event false .headIrregular [(h.val : Int), 1] ∈ (timingImmediate s h.val).out := by
  have hrd {k : Nat} (hk : Steady k) :
      rd (timingImmediate s h.val) k = rd (irregular (timingInForce (latchedFirst s h.val) h.val) h.val 1) k := by
    rw [timingImmediate_changes hscans hwaits hchange henable hsplash hchanges, rd_updateSums hk, rd_updateSlices hk]
  have hkept := (sumsAndSlices_kept (irregular (timingInForce (latchedFirst s h.val) h.val) h.val 1)).parts
  rw [← timingImmediate_changes hscans hwaits hchange henable hsplash hchanges] at hkept
  have hhead := headOf_congr ((timingInForce_kept (latchedFirst s h.val) h.val).parts .heads (by decide)) h.val
  obtain ⟨htim, hirrKept⟩ := headRetimed_timing (latchedFirst s h.val) h.val
  rw [← hhead] at htim hirrKept
  have hirrBefore := hirrKept.trans ((irr_latchedFirst s h.val).trans hirr)
  have honBefore : pdOn (timingInForce (latchedFirst s h.val) h.val) 2 = true := by
    rw [pdOn, rd_timingInForce steady_pdState, ← pdOn, hon] <;>
    · simp only [E.pd_STATE, E.head_LOCK_STATE, E.head_TE_STATE]
      omega
  obtain ⟨hframes, hcause, hlast⟩ := rd_irregular_first 1 hirrBefore honBefore
  have hfirst := irregular_first 1 hirrBefore honBefore
  refine ⟨?_, ?_, ?_, ?_, ?_, ?_, ?_, ?_⟩
  · rw [headOf_congr (hkept .heads (by decide)), hfirst, ← liveTiming_latchedFirst, ← htim]
    rw [headOf_congr (emit_heads ..), bump, bumpBy, headOf_congr (wr_heads ..), headOf_setHead]
  · have hinForce : (timingInForce (latchedFirst s h.val) h.val).dict = (headRetimed (latchedFirst s h.val) h.val).dict :=
      (timingInForce_kept (latchedFirst s h.val) h.val).parts .dict (by decide)
    refine timingWaits_landed (s := latchedFirst s h.val) ?_
    rw [hkept .dict (by decide), hfirst, emit_dict, bump, bumpBy, wr_dict, setHead_dict, wr_dict, wr_dict, hinForce, headRetimed_dict]
  · rw [hrd (steady_headIrregularFrames h), hframes, rd_timingInForce (steady_headIrregularFrames h)] <;>
    · simp only [E.head_IRREGULAR_FRAMES, E.head_LOCK_STATE, E.head_TE_STATE]
      omega
  · rw [hrd (steady_headIrregCause h), hcause]
  · rw [hrd (steady_headLastIrregular h), hlast, rd_timingInForce (steady_headFrame h)] <;>
    · simp only [E.head_FRAME, E.head_LOCK_STATE, E.head_TE_STATE]
      omega
  · rw [hrd (steady_headState h), rd_irregular_ne 1 (steady_headState h), rd_timingInForce (steady_headState h)] <;>
    · simp only [E.head_STATE, E.head_LOCK_STATE, E.head_TE_STATE, E.head_IRREGULAR_FRAMES, E.head_IRREG_CAUSE, E.head_LAST_IRREGULAR]
      omega
  · intro hlocked
    rw [← rd_latchedFirst (steady_headLockState h) s h.val] at hlocked
    rw [hrd (steady_headLockState h), rd_irregular_ne 1 (steady_headLockState h), rd_timingInForce_headRetimed (steady_headLockState h),
      rd_lockState_headRetimed h hlocked] <;>
    · simp only [E.head_LOCK_STATE, E.head_TE_STATE, E.head_IRREGULAR_FRAMES, E.head_IRREG_CAUSE, E.head_LAST_IRREGULAR]
      omega
  · rw [hkept .out (by decide), hfirst]
    exact .head _

/-! ### The other commands -/

/-- Head `h` starting, with its counters of frames and lines at 0 and its pending presentation due from frame 0 (R216, R247). -/
def headStarting (s : State) (h : Nat) : State :=
  let x := cameoOf s h
  let s1 := setCameo s h { x with pending := x.pending.map (fun p => { p with fromFrame := 0 }) }
  let s2 := wr (wr (wr s1 (E.head_STATE h) 1) (E.head_FRAME h) 0) (E.head_LINE h) 0
  wr (setHead s2 h { headOf s2 h with stopping := false, teGo := false, lockRun := 0, trim := 0 }) (E.head_TE_STATE h)
    (if candVal s (dkey (0x3000 + 0x40 * h) 12) = 1 then 1 else 0)

/-- A head that is to be enabled starts (R216). -/
theorem headEnable_starts {s : State} {h : Nat} (hstate : hState s h = 0) (henable : candVal s (E.head_ENABLE h) = 1)
    (hon : pdOn s (headDomain h) = true) :
    headEnable s h = headStarting s h := by
  have hgo : ¬ (hState s h ≠ 0 ∨ candVal s (E.head_ENABLE h) ≠ 1 ∨ ¬ pdOn s (headDomain h) = true) := by
    simp [hstate, henable, hon]
  exact if_neg hgo

theorem rd_headStarting {h k : Nat} (hte : k ≠ E.head_TE_STATE h) (s : State) :
    rd (headStarting s h) k =
      if k = E.head_LINE h then 0 else if k = E.head_FRAME h then 0 else if k = E.head_STATE h then 1 else rd s k := by
  rw [headStarting, rd_wr_ne _ _ hte, rd_setHead, rd_wr, rd_wr, rd_wr, rd_setCameo]

theorem headStarting_entries (s : State) (h : Nat) :
    rd (headStarting s h) (E.head_STATE h) = 1 ∧ rd (headStarting s h) (E.head_FRAME h) = 0 ∧
      rd (headStarting s h) (E.head_LINE h) = 0 := by
  refine ⟨?_, ?_, ?_⟩ <;>
  · rw [rd_headStarting] <;>
    · simp only [E.head_STATE, E.head_FRAME, E.head_LINE, E.head_TE_STATE]
      simp

theorem headStarting_keeps (s : State) (h : Nat) :
    entriesKept [E.head_STATE h, E.head_FRAME h, E.head_LINE h, E.head_TE_STATE h] s (headStarting s h) := by
  intro k hk
  simp only [List.mem_cons, List.not_mem_nil, or_false, not_or] at hk
  obtain ⟨hstate, hframe, hline, hte⟩ := hk
  rw [rd_headStarting hte, if_neg hline, if_neg hframe, if_neg hstate]

theorem headOf_headStarting (s : State) (h : Nat) :
    headOf (headStarting s h) h = { headOf s h with stopping := false, teGo := false, lockRun := 0, trim := 0 } := headOf_setHead ..

theorem cameoOf_headStarting (s : State) (h : Nat) :
    cameoOf (headStarting s h) h =
      { cameoOf s h with pending := (cameoOf s h).pending.map (fun p => { p with fromFrame := 0 }) } := by
  have hcameo : (headStarting s h).cameo = (setCameo s h { cameoOf s h with
      pending := (cameoOf s h).pending.map (fun p => { p with fromFrame := 0 }) }).cameo := rfl
  rw [cameoOf, hcameo]
  exact cameoOf_setCameo ..

theorem headOf_landKey (s : State) (k n : Nat) : headOf (landKey s k) n = headOf s n := by
  unfold landKey setLive
  split
  · rfl
  · split <;> rfl

theorem lockTimeout_loses {s : State} {h : Nat} (hstate : rd s (E.head_LOCK_STATE h) = 1 ∨ rd s (E.head_LOCK_STATE h) = 2)
    (hon : pdOn s 2 = true) :
    lockTimeout s h = emit (bump (wr s (E.head_LOCK_STATE h) 3) (E.head_LOCK_LOSSES h)) (.event false .lockLost [(h : Int)]) := by
  have hlock : E.pd_STATE 2 ≠ E.head_LOCK_STATE h := by simp only [E.pd_STATE, E.head_LOCK_STATE]; omega
  have hlosses : E.pd_STATE 2 ≠ E.head_LOCK_LOSSES h := by simp only [E.pd_STATE, E.head_LOCK_LOSSES]; omega
  rw [pdOn] at hon
  rw [lockTimeout, if_pos hstate, raise_on]
  rw [pdOn, rd_bump_ne _ hlosses, rd_wr_ne _ _ hlock, hon]

/-- Settles O42: the timing change at once by what each of its steps writes (`timingImmediate_effect`), the stop of a head that has not
started by what follows the end of its scanning (`rd_stopHead`), the other commands by the state each one leaves. -/
theorem timingChangesAndEnables : Obligations.TimingChangesAndEnables := by
  refine ⟨⟨?immediate, ?immediateSame, ?immediateNone⟩, ⟨?clean, ?cleanSame, ?cleanNone⟩, ⟨?enable, ?enableNone⟩,
    ⟨?disable, ?disableStarting, ?disableNone⟩, ⟨?route, ?routeNone⟩, ⟨?lockLost, ?lockNone⟩⟩
  case immediate =>
    intro s h hscans hwaits hchange henable hsplash hchanges hirr hon
    exact ⟨_, rfl, timingImmediate_effect hscans hwaits hchange henable hsplash hchanges hirr hon⟩
  case immediateSame =>
    intro s h hscans hwaits hchange henable hsplash hchanges
    rw [exec_timingChangeImmediate, execTimingChangeImmediate, timingImmediate_repeats hscans hwaits hchange henable hsplash hchanges]
  case immediateNone =>
    intro s h hnone
    have hstays : ¬ scanning s h.val = true ∨ ¬ timingWaits s h.val = true ∨ candVal s (E.head_CHANGE h.val) ≠ 0 ∨
        candVal s (E.head_ENABLE h.val) = 0 ∨ (cameoOf s h.val).splash = true := by
      simp only [Bool.not_eq_true]
      exact hnone.imp_right (·.imp_right .inl)
    exact congrArg _ (if_pos hstays)
  case clean =>
    intro s h hscans hwaits hpath henable hchanges
    have hgo : ¬ (¬ scanning s h.val = true ∨ ¬ timingWaits s h.val = true ∨
        (candVal s (E.head_CHANGE h.val) ≠ 1 ∧ ¬ (cameoOf s h.val).splash = true) ∨ candVal s (E.head_ENABLE h.val) = 0) := by
      rintro (hstill | hnone | ⟨hother, hshown⟩ | hdisabled)
      · exact hstill hscans
      · exact hnone hwaits
      · exact hpath.elim hother hshown
      · exact henable hdisabled
    rw [exec_timingChangeClean, execTimingChangeClean, timingClean, if_neg hgo, if_pos hchanges]
    rfl
  case cleanSame =>
    intro s h hscans hwaits hchange henable hchanges
    simp [exec_timingChangeClean, execTimingChangeClean, timingClean, hscans, hwaits, hchange, henable, hchanges]
  case cleanNone =>
    intro s h hnone
    have hstays : ¬ scanning s h.val = true ∨ ¬ timingWaits s h.val = true ∨
        (candVal s (E.head_CHANGE h.val) ≠ 1 ∧ ¬ (cameoOf s h.val).splash = true) ∨ candVal s (E.head_ENABLE h.val) = 0 := by
      simp only [Bool.not_eq_true]
      exact hnone.imp_right .inl
    exact congrArg _ (if_pos hstays)
  case enable =>
    intro s h hstate henable hon
    obtain ⟨hstarting, hframe, hline⟩ := headStarting_entries s h.val
    refine ⟨headStarting s h.val, by rw [exec_headEnable, execHeadEnable, headEnable_starts hstate henable hon], hstarting, hframe, hline,
      ?_, ?_, ?_, headStarting_keeps s h.val⟩
    · rw [headOf_headStarting]
    · rw [headOf_headStarting]
    · intro p hp
      rw [cameoOf_headStarting, hp]
      rfl
  case enableNone =>
    intro s h hnone
    exact congrArg _ (if_pos (by simpa using hnone))
  case disable =>
    intro s h hstate henable
    have hrunning : ¬ (hState s h.val = 0 ∨ candVal s (E.head_ENABLE h.val) ≠ 0) := by simp [henable]; omega
    have hstarted : hState s h.val ≠ 1 := by omega
    have hkept := (landWhere_kept_values s (fun k => isTimingKey h.val k || k == E.head_ENABLE h.val)).parts
    have htiming : isTimingKey h.val (E.head_STATE h.val) = false := isTimingKey_of_ne (by simp only [E.head_STATE]; omega)
    have hne : E.head_STATE h.val ≠ E.head_ENABLE h.val := by simp only [E.head_STATE, E.head_ENABLE]; omega
    refine ⟨_, by rw [exec_headDisable, execHeadDisable, headDisable, if_neg hrunning, if_neg hstarted], ?_, ?_, ?_, ?_⟩
    · rw [headOf_setHead]
    · rw [headOf_setHead]
    · rw [rd_setHead, rd_landWhere _ (by simp [htiming, hne])]
    · exact hkept .out (by decide)
  case disableStarting =>
    intro s h hstate henable
    have hstarts : ¬ (hState s h.val = 0 ∨ candVal s (E.head_ENABLE h.val) ≠ 0) := by simp [hstate, henable]
    have hstops : headDisable s h.val = stopHead (landWhere s (fun k => isTimingKey h.val k || k == E.head_ENABLE h.val)) h.val := by
      rw [headDisable, if_neg hstarts, if_pos hstate]
    exact ⟨_, by rw [exec_headDisable, execHeadDisable, hstops], stopHead_disables _ h⟩
  case disableNone =>
    intro s h hnone
    exact congrArg _ (if_pos hnone)
  case route =>
    intro s h hscans hbegun harmed
    have hgo : ¬ (¬ scanning s h.val = true ∨ (headOf s h.val).begun = true ∨ ¬ (headOf s h.val).routeArmed = true) := by
      simp [hscans, hbegun, harmed]
    let s1 := setHead s h.val { headOf s h.val with routeArmed := false }
    have hroute : rd (setHeadState (landRoute s1 h.val) h.val 4) (E.xbar_ROUTE h.val) =
        rd (landKey s1 (E.xbar_ROUTE h.val)) (E.xbar_ROUTE h.val) := by
      rw [rd_setHeadState_ne, rd_route_landRoute] <;>
      · simp only [E.xbar_ROUTE, E.head_STATE, E.head_TOLERANCE]
        omega
    refine ⟨setHeadState (landRoute s1 h.val) h.val 4, by rw [exec_routeChange, execRouteChange, routeChange, if_neg hgo],
      rd_state_setHeadState .., ?_, ?_, ?_⟩
    · rw [headOf_setHeadState, headOf_landRoute, headOf_landKey, headOf_setHead]
    · rw [headOf_setHeadState, headOf_landRoute, hroute]
    · intro bs hval
      rw [hroute, landKey_number (s := s1) hval (routes_number h), rd_wr_same]
  case routeNone =>
    intro s h hnone
    exact congrArg _ (if_pos (by simpa using hnone))
  case lockLost =>
    intro s h hstate hon
    have hother : E.head_LOCK_STATE h.val ≠ E.head_LOCK_LOSSES h.val := by simp only [E.head_LOCK_STATE, E.head_LOCK_LOSSES]; omega
    refine ⟨_, by rw [exec_lockStampTimeout, execLockStampTimeout, lockTimeout_loses hstate hon], ?_, ?_, ?_, rfl⟩
    · rw [rd_emit, rd_bump_ne _ hother, rd_wr_same]
    · rw [rd_emit, bump, bumpBy, rd_wr_same, rd_wr_ne _ _ hother.symm]
    · intro k hk
      simp only [List.mem_cons, List.not_mem_nil, or_false, not_or] at hk
      obtain ⟨hlock, hlosses⟩ := hk
      rw [rd_emit, rd_bump_ne _ hlosses, rd_wr_ne _ _ hlock]
  case lockNone =>
    intro s h hstate
    exact congrArg _ (if_neg (by omega))

end Sys2Proof.Proofs
end

section
/-! SUPPORT. The output ports (R231, R232): what the start of a bring-up, the streams of a port and its heads' blank frames each leave,
and O44, a clause for each way that a port's link comes up or is lost. -/

namespace Sys2Proof.Proofs

open Sys2Proof Sys2Proof.Machine Sys2Proof.Laws

/-! ### The power domains lie below the entries of ports and receivers -/

theorem pdOn_wr_above (s : State) {k : Nat} (v : Nat) (hk : 0x340000 ≤ k) : pdOn (wr s k v) 2 = pdOn s 2 := by
  rw [pdOn, rd_wr_ne _ _ (by simp only [E.pd_STATE]; omega), pdOn]

theorem pdOn_bump_above (s : State) {k : Nat} (hk : 0x340000 ≤ k) : pdOn (bump s k) 2 = pdOn s 2 := pdOn_wr_above s _ hk

/-! ### The start of a bring-up (R231) -/

theorem startBringup_od (s : State) (p : Nat) (stable again : Bool) :
    (startBringup s p stable again).od = (bump (wr s (E.port_STATE p) 1) (E.port_BRINGUPS p)).od := by
  rw [startBringup, apply_ite State.od]
  exact ite_self ..

theorem rd_state_startBringup (s : State) (p : Nat) (stable again : Bool) :
    rd (startBringup s p stable again) (E.port_STATE p) = 1 := by
  rw [rd_congr (startBringup_od ..), rd_bump_ne _ (by simp only [E.port_STATE, E.port_BRINGUPS]; omega), rd_wr_same]

theorem rd_bringups_startBringup (s : State) (p : Nat) (stable again : Bool) :
    rd (startBringup s p stable again) (E.port_BRINGUPS p) = satInc (rd s (E.port_BRINGUPS p)) 1 := by
  rw [rd_congr (startBringup_od ..), bump, bumpBy, rd_wr_same, rd_wr_ne _ _ (by simp only [E.port_STATE, E.port_BRINGUPS]; omega)]

/-- A bring-up writes STATE and BRINGUPS of its port. -/
theorem startBringup_entriesKept (s : State) (p : Nat) (stable again : Bool) :
    entriesKept [E.port_STATE p, E.port_BRINGUPS p] s (startBringup s p stable again) := by
  intro k hk
  simp only [List.mem_cons, List.not_mem_nil, or_false, not_or] at hk
  obtain ⟨hstate, hbringups⟩ := hk
  rw [rd_congr (startBringup_od ..), rd_bump_ne _ hbringups, rd_wr_ne _ _ hstate]

theorem outPort_startBringup (s : State) (p : Nat) (stable again : Bool) :
    outPort (startBringup s p stable again) p = { waitHpd := isDp p && rd s (E.port_HPD p) == 0 && !stable, again := again } := by
  have hsend (t : State) (vals : List Int) (bytes : List Byte) : outPort (send t (.port p) vals bytes) p = outPort t p := rfl
  simp only [startBringup, apply_ite (outPort · p), hsend, ite_self, outPort_setOutPort]

/-- A DSI port is sent its write sequence, any other port nothing. -/
theorem startBringup_out (s : State) (p : Nat) (stable again : Bool) : (startBringup s p stable again).out =
    (if 8 ≤ p ∧ p < 12 then [.msg (.port p) [] (dget s (E.port_DSI_INIT p))] else []) ++ s.out := by
  unfold startBringup
  split <;> rfl

theorem startBringup_out_dp (s : State) {p : Nat} (hdp : p < 8) (stable again : Bool) : (startBringup s p stable again).out = s.out := by
  rw [startBringup_out, if_neg (by omega), List.nil_append]

theorem isDp_iff {p : Nat} : isDp p = true ↔ p < 8 := decide_eq_true_iff

/-! ### The streams of a port (R227, R231) -/

/-- Head `h` with its stream, if port `p` carries it. -/
def headOnPort (s : State) (p h : Nat) : Option (Nat × Nat) :=
  match portOfRoute (headOf s h).route with
  | some (q, st) => if q = p ∧ hState s h ≠ 0 then some (h, st) else none
  | none => none

theorem portHeads_eq (s : State) (p : Nat) : portHeads s p = (List.range 16).filterMap (headOnPort s p) := rfl

/-- The heads of a port depend on the heads' records and on their STATE. -/
theorem portHeads_congr {s t : State} (hheads : t.heads = s.heads) (hstate : ∀ h < 16, rd t (E.head_STATE h) = rd s (E.head_STATE h))
    (p : Nat) : portHeads t p = portHeads s p := by
  have hpicks : (List.range 16).map (headOnPort t p) = (List.range 16).map (headOnPort s p) := by
    refine List.map_congr_left fun h hh => ?_
    rw [headOnPort, headOnPort, headOf_congr hheads, hState, hState, hstate h (List.mem_range.mp hh)]
  rw [portHeads_eq, portHeads_eq, ← Function.id_comp (headOnPort t p), ← Function.id_comp (headOnPort s p), ← List.filterMap_map,
    ← List.filterMap_map, hpicks]

theorem lt_of_mem_portHeads {s : State} {p : Nat} {e : Nat × Nat} (he : e ∈ portHeads s p) : e.1 < 16 := by
  obtain ⟨h, hh, hpick⟩ := List.mem_filterMap.mp he
  split at hpick
  · split at hpick
    · obtain rfl := Option.some.inj hpick
      exact List.mem_range.mp hh
    · exact absurd hpick (by simp)
  · exact absurd hpick (by simp)

theorem rd_settleStreams_ne (s : State) {p k : Nat} (hstreams : k ≠ E.port_STREAMS p) (hslots : k ≠ E.port_MST_SLOTS p) :
    rd (settleStreams s p) k = rd s k := by
  rw [settleStreams, rd_wr_ne _ _ hslots, rd_wr_ne _ _ hstreams]

theorem rd_streams_settleStreams (s : State) (p : Nat) : rd (settleStreams s p) (E.port_STREAMS p) =
    maskOf ((if rd s (E.port_STATE p) = 4 then [] else portHeads s p).map (·.2)) := by
  rw [settleStreams, rd_wr_ne _ _ (by simp only [E.port_STREAMS, E.port_MST_SLOTS]; omega), rd_wr_same]

/-- A port that is not ready holds no time slots. -/
theorem rd_slots_settleStreams {s : State} {p : Nat} (hstate : rd s (E.port_STATE p) ≠ 2) :
    rd (settleStreams s p) (E.port_MST_SLOTS p) = 0 := by
  rw [settleStreams, rd_wr_same, if_neg fun h => hstate h.2.2]

/-- The port enters `state`, and its streams and time slots follow. -/
def portEnters (s : State) (p state : Nat) : State := settleStreams (wr s (E.port_STATE p) state) p

theorem rd_state_portEnters (s : State) (p state : Nat) : rd (portEnters s p state) (E.port_STATE p) = state := by
  rw [portEnters, rd_settleStreams_ne, rd_wr_same] <;>
  · simp only [E.port_STATE, E.port_STREAMS, E.port_MST_SLOTS]
    omega

theorem portEnters_entriesKept (s : State) (p state : Nat) :
    entriesKept [E.port_STATE p, E.port_STREAMS p, E.port_MST_SLOTS p] s (portEnters s p state) := by
  intro k hk
  simp only [List.mem_cons, List.not_mem_nil, or_false, not_or] at hk
  obtain ⟨hstate, hstreams, hslots⟩ := hk
  rw [portEnters, rd_settleStreams_ne _ hstreams hslots, rd_wr_ne _ _ hstate]

/-- What lies below the ports' status records, the heads' STATE and the power domains among it, is kept. -/
theorem rd_portEnters_below (s : State) (p state : Nat) {k : Nat} (hk : k < 0x340000) : rd (portEnters s p state) k = rd s k := by
  apply portEnters_entriesKept
  simp only [E.port_STATE, E.port_STREAMS, E.port_MST_SLOTS, List.mem_cons, List.not_mem_nil, or_false, not_or]
  omega

theorem pdOn_portEnters (s : State) (p state : Nat) : pdOn (portEnters s p state) 2 = pdOn s 2 := by
  rw [pdOn, rd_portEnters_below _ _ _ (by simp only [E.pd_STATE]; omega), pdOn]

theorem portHeads_portEnters (s : State) (p state : Nat) : portHeads (portEnters s p state) p = portHeads s p :=
  portHeads_congr (s := s) (t := portEnters s p state) rfl
    (fun h hh => rd_portEnters_below s p state (by simp only [E.head_STATE]; omega)) p

theorem rd_streams_portEnters (s : State) (p : Nat) {state : Nat} (hstate : state ≠ 4) :
    rd (portEnters s p state) (E.port_STREAMS p) = maskOf ((portHeads s p).map (·.2)) := by
  have hheads : portHeads (wr s (E.port_STATE p) state) p = portHeads s p :=
    portHeads_congr (s := s) (t := wr s (E.port_STATE p) state) rfl
      (fun h hh => rd_wr_ne s state (by simp only [E.head_STATE, E.port_STATE]; omega)) p
  rw [portEnters, rd_streams_settleStreams, rd_wr_same, if_neg hstate, hheads]

theorem rd_streams_portEnters_noSink (s : State) (p : Nat) : rd (portEnters s p 4) (E.port_STREAMS p) = 0 := by
  rw [portEnters, rd_streams_settleStreams, rd_wr_same, if_pos rfl]
  rfl

theorem rd_slots_portEnters (s : State) (p : Nat) {state : Nat} (hstate : state ≠ 2) :
    rd (portEnters s p state) (E.port_MST_SLOTS p) = 0 :=
  rd_slots_settleStreams (by rwa [rd_wr_same])

/-! ### The heads of a port that becomes ready (R220, R231, R232) -/

/-- A running head, or one that sends blank frames on a port brought up again, sends one blank frame next. -/
def blankAfterReady (again : Bool) (s : State) (e : Nat × Nat) : State :=
  if hState s e.1 = 2 ∨ (hState s e.1 = 4 ∧ again) then setHead s e.1 { headOf s e.1 with blankNext := true } else s

theorem rd_blankAfterReady (again : Bool) (s : State) (e : Nat × Nat) (k : Nat) : rd (blankAfterReady again s e) k = rd s k := by
  rw [blankAfterReady, rd_ite, rd_setHead, ite_self]

theorem blankNext_blankAfterReady_running {s : State} {e : Nat × Nat} (again : Bool) (hstate : rd s (E.head_STATE e.1) = 2) :
    (headOf (blankAfterReady again s e) e.1).blankNext = true := by
  rw [blankAfterReady, if_pos (.inl hstate), headOf_setHead]

/-- A head that sends a blank frame next still does after another head's turn. -/
theorem blankNext_blankAfterReady_keeps {s : State} {h : Nat} (again : Bool) (e : Nat × Nat) (hblank : (headOf s h).blankNext = true) :
    (headOf (blankAfterReady again s e) h).blankNext = true := by
  unfold blankAfterReady
  split
  · by_cases hsame : h = e.1
    · rw [hsame, headOf_setHead]
    · rwa [headOf_setHead_ne _ _ _ hsame]
  · exact hblank

theorem blankNext_foldl_keeps {s : State} {h : Nat} (again : Bool) (l : List (Nat × Nat)) (hblank : (headOf s h).blankNext = true) :
    (headOf (l.foldl (blankAfterReady again) s) h).blankNext = true := by
  induction l generalizing s with
  | nil => exact hblank
  | cons e l ih => exact ih (blankNext_blankAfterReady_keeps again e hblank)

/-- Every running head of the list sends one blank frame next. -/
theorem blankNext_foldl_running {s : State} (again : Bool) {l : List (Nat × Nat)} {e : Nat × Nat} (he : e ∈ l)
    (hstate : rd s (E.head_STATE e.1) = 2) : (headOf (l.foldl (blankAfterReady again) s) e.1).blankNext = true := by
  induction l generalizing s with
  | nil => exact absurd he List.not_mem_nil
  | cons x l ih =>
    rcases List.mem_cons.mp he with rfl | hrest
    · exact blankNext_foldl_keeps again l (blankNext_blankAfterReady_running again hstate)
    · exact ih hrest ((rd_blankAfterReady ..).trans hstate)

theorem foldl_blankAfterReady_kept (again : Bool) (l : List (Nat × Nat)) (s : State) :
    Kept [.heads] s (l.foldl (blankAfterReady again) s) := by
  have hheads : May [.heads] .heads := ⟨by decide⟩
  exact Kept.foldl (fun t e ht => Kept.ite (setHead_kept ht ..) ht) (Kept.refl _ s)

/-- The port is ready and its heads know of it; the event is still to be raised. -/
def portMadeReady (s : State) (p : Nat) : State :=
  (portHeads s p).foldl (blankAfterReady (outPort s p).again) (portEnters s p 2)

theorem portReady_comesUp {s : State} {p : Nat} (hstate : rd s (E.port_STATE p) = 1) (hwait : (outPort s p).waitHpd = false) :
    portReady s p = raise (portMadeReady s p) .portReady [(p : Int)] := by
  rw [portMadeReady, ← portHeads_portEnters s p 2]
  exact if_pos ⟨hstate, by simp [hwait]⟩

theorem rd_portMadeReady (s : State) (p k : Nat) : rd (portMadeReady s p) k = rd (portEnters s p 2) k :=
  rd_congr ((foldl_blankAfterReady_kept ..).parts .od (by decide)) k

theorem portMadeReady_out (s : State) (p : Nat) : (portMadeReady s p).out = s.out :=
  (foldl_blankAfterReady_kept ..).parts .out (by decide)

/-! ### A link that is lost (R232) -/

/-- The link of a ready port is lost: counted, reported and brought up again. -/
theorem linkLost_ready {s : State} {p : Nat} (hstate : rd s (E.port_STATE p) = 2) (hon : pdOn s 2 = true) :
    linkLost s p = startBringup (emit (bump s (E.port_LINK_LOSSES p)) (.event false .portLinkLost [(p : Int)])) p true true := by
  have hlosses : 0x340000 ≤ E.port_LINK_LOSSES p := by unfold E.port_LINK_LOSSES; omega
  rw [← raise_on _ _ _ ((pdOn_bump_above s hlosses).trans hon)]
  exact if_pos hstate

theorem linkLost_entries {s : State} {p : Nat} (hstate : rd s (E.port_STATE p) = 2) (hon : pdOn s 2 = true) :
    rd (linkLost s p) (E.port_STATE p) = 1 ∧
      rd (linkLost s p) (E.port_LINK_LOSSES p) = satInc (rd s (E.port_LINK_LOSSES p)) 1 ∧
      rd (linkLost s p) (E.port_BRINGUPS p) = satInc (rd s (E.port_BRINGUPS p)) 1 ∧
      entriesKept [E.port_STATE p, E.port_LINK_LOSSES p, E.port_BRINGUPS p] s (linkLost s p) := by
  rw [linkLost_ready hstate hon]
  have hkept := startBringup_entriesKept (emit (bump s (E.port_LINK_LOSSES p)) (.event false .portLinkLost [(p : Int)])) p true true
  refine ⟨rd_state_startBringup .., ?_, ?_, fun k hk => ?_⟩
  · rw [hkept, rd_emit, bump, bumpBy, rd_wr_same]
    simp [E.port_LINK_LOSSES, E.port_STATE, E.port_BRINGUPS]
  · rw [rd_bringups_startBringup, rd_emit, rd_bump_ne]
    simp [E.port_LINK_LOSSES, E.port_BRINGUPS]
  · simp only [List.mem_cons, List.not_mem_nil, or_false, not_or] at hk
    obtain ⟨hnotState, hnotLosses, hnotBringups⟩ := hk
    rw [hkept k (by simp [hnotState, hnotBringups]), rd_emit, rd_bump_ne _ hnotLosses]

theorem linkLost_out {s : State} {p : Nat} (hdp : p < 8) (hstate : rd s (E.port_STATE p) = 2) (hon : pdOn s 2 = true) :
    (linkLost s p).out = .event false .portLinkLost [(p : Int)] :: s.out := by
  rw [linkLost_ready hstate hon, startBringup_out_dp _ hdp]
  rfl

/-- The state after an IRQ_HPD pulse has been counted and reported, its link status not yet looked at. -/
def pulseCounted (s : State) (p : Nat) : State := emit (bump s (E.port_HPD_IRQS p)) (.event false .portHpd [(p : Int)])

theorem rd_pulseCounted_ne (s : State) {p k : Nat} (hk : k ≠ E.port_HPD_IRQS p) : rd (pulseCounted s p) k = rd s k := by
  rw [pulseCounted, rd_emit, rd_bump_ne _ hk]

theorem irqHpd_counts {s : State} {p : Nat} (hdp : p < 8) (hhpd : rd s (E.port_HPD p) = 0) (hon : pdOn s 2 = true) (lost : Bool) :
    irqHpd s p lost = if lost = true ∧ rd s (E.port_STATE p) = 2 then linkLost (pulseCounted s p) p else pulseCounted s p := by
  have hsees : ¬(¬ isDp p = true ∨ rd s (E.port_HPD p) ≠ 0) := by simp [isDp_iff.mpr hdp, hhpd]
  have hpulses : 0x340000 ≤ E.port_HPD_IRQS p := by unfold E.port_HPD_IRQS; omega
  have hstate : rd (pulseCounted s p) (E.port_STATE p) = rd s (E.port_STATE p) :=
    rd_pulseCounted_ne s (by simp [E.port_STATE, E.port_HPD_IRQS])
  have hpulse : raise (bump s (E.port_HPD_IRQS p)) .portHpd [(p : Int)] = pulseCounted s p :=
    raise_on _ _ _ ((pdOn_bump_above s hpulses).trans hon)
  simp only [irqHpd, if_neg hsees, hpulse]
  cases lost with
  | false => rfl
  | true =>
    by_cases hready : rd s (E.port_STATE p) = 2
    · exact (if_pos ⟨rfl, hready⟩).symm
    · have hkept : linkLost (pulseCounted s p) p = pulseCounted s p := if_neg (by rwa [portState, hstate])
      exact hkept.trans (if_neg fun h => hready h.2).symm

/-- Settles O44: a bring-up is `startBringup`, a lost link `linkLost`, and a port that becomes ready or loses its sink `portEnters`. -/
theorem outputPortsAndTheirLinks : Obligations.OutputPortsAndTheirLinks := by
  refine ⟨⟨?start, ?startNone⟩, ⟨?stable, ?stableWaits, ?stableNone⟩, ⟨?ready, ?readyNone⟩, ⟨?fails, ?failsNone⟩,
    ⟨?retries, ?retriesNone⟩, ⟨?low, ?lowNone⟩, ⟨?pulse, ?pulseNone⟩, ?poll, ?pollNone⟩
  case start =>
    intro s p hidle hheads hon
    have hstart : portBringupStart s p.val = startBringup s p.val false false := if_pos ⟨hidle, hheads, hon⟩
    refine ⟨_, by rw [exec_portBringupStart, execPortBringupStart, hstart], rd_state_startBringup .., rd_bringups_startBringup ..,
      startBringup_entriesKept s p.val _ _, ?_, startBringup_out ..⟩
    rw [outPort_startBringup, Bool.not_false, Bool.and_true, isDp]
  case startNone =>
    intro s p hnone
    refine congrArg _ (if_neg ?_)
    rintro ⟨hidle, hheads, hon⟩
    rcases hnone with h | h | h
    · exact h hidle
    · exact hheads h
    · simp [h] at hon
  case stable =>
    intro s p hdp hhpd hstate
    have hsees : ¬(¬ isDp p.val = true ∨ rd s (E.port_HPD p.val) ≠ 0) := by simp [isDp_iff.mpr hdp, hhpd]
    have hstable : hpdStable s p.val = startBringup s p.val true true := by rw [hpdStable, if_neg hsees, portState, if_pos hstate]
    refine ⟨_, by rw [exec_hpdStable, execHpdStable, hstable], rd_state_startBringup .., rd_bringups_startBringup .., ?_,
      startBringup_out_dp s hdp ..⟩
    rw [outPort_startBringup, Bool.not_true, Bool.and_false]
  case stableWaits =>
    intro s p hdp hhpd hstate
    have hsees : ¬(¬ isDp p.val = true ∨ rd s (E.port_HPD p.val) ≠ 0) := by simp [isDp_iff.mpr hdp, hhpd]
    rw [exec_hpdStable, execHpdStable, hpdStable, if_neg hsees, portState, if_neg hstate]
  case stableNone =>
    intro s p hnone
    exact congrArg _ (if_pos (by simpa [isDp] using hnone))
  case ready =>
    intro s p hstate hwait hon
    have hpower : pdOn (portMadeReady s p.val) 2 = true := by
      rw [pdOn, rd_portMadeReady, ← pdOn, pdOn_portEnters, hon]
    refine ⟨_, by rw [exec_portReady, execPortReady, portReady_comesUp hstate hwait, raise_on _ _ _ hpower], ?_, ?_, ?_, ?_, ?_⟩
    · rw [rd_emit, rd_portMadeReady, rd_state_portEnters]
    · rw [rd_emit, rd_portMadeReady, rd_streams_portEnters _ _ (by decide)]
    · exact congrArg _ (portMadeReady_out s p.val)
    · intro e he hruns
      rw [headOf_congr (emit_heads ..)]
      have hhead := lt_of_mem_portHeads he
      exact blankNext_foldl_running _ he ((rd_portEnters_below s p.val 2 (by simp only [E.head_STATE]; omega)).trans hruns)
    · intro k hk
      rw [rd_emit, rd_portMadeReady]
      exact portEnters_entriesKept s p.val 2 k hk
  case readyNone =>
    intro s p hnone
    refine congrArg _ (if_neg ?_)
    rintro ⟨hstate, hwait⟩
    exact hnone.elim (· hstate) hwait
  case fails =>
    intro s p hstate hwait hon
    have hfails : portLinkFail s p.val =
        raise (bump (wr s (E.port_STATE p.val) 3) (E.port_LINK_FAILS p.val)) .portLinkFail [(p.val : Int)] :=
      if_pos ⟨hstate, by simp [hwait]⟩
    have hother : E.port_STATE p.val ≠ E.port_LINK_FAILS p.val := by simp [E.port_STATE, E.port_LINK_FAILS]
    have hpower : pdOn (bump (wr s (E.port_STATE p.val) 3) (E.port_LINK_FAILS p.val)) 2 = true := by
      rw [pdOn_bump_above, pdOn_wr_above, hon] <;>
      · simp only [E.port_STATE, E.port_LINK_FAILS]
        omega
    refine ⟨_, by rw [exec_portLinkFail, execPortLinkFail, hfails, raise_on _ _ _ hpower], ?_, ?_, ?_, rfl⟩
    · rw [rd_emit, rd_bump_ne _ hother, rd_wr_same]
    · rw [rd_emit, bump, bumpBy, rd_wr_same, rd_wr_ne _ _ hother.symm]
    · intro k hk
      simp only [List.mem_cons, List.not_mem_nil, or_false, not_or] at hk
      obtain ⟨hnotState, hnotFails⟩ := hk
      rw [rd_emit, rd_bump_ne _ hnotFails, rd_wr_ne _ _ hnotState]
  case failsNone =>
    intro s p hnone
    refine congrArg _ (if_neg ?_)
    rintro ⟨hstate, hwait⟩
    exact hnone.elim (· hstate) hwait
  case retries =>
    intro s p hstate
    have hretry : portRetry s p.val = startBringup s p.val true (outPort s p.val).again := if_pos hstate
    refine ⟨_, by rw [exec_portRetry, execPortRetry, hretry], rd_state_startBringup .., rd_bringups_startBringup .., ?_,
      startBringup_entriesKept s p.val _ _⟩
    rw [outPort_startBringup, Bool.not_true, Bool.and_false]
  case retriesNone =>
    intro s p hstate
    exact congrArg _ (if_neg hstate)
  case low =>
    intro s p hdp hhpd hstate hon
    have hsees : ¬(¬ isDp p.val = true ∨ rd s (E.port_HPD p.val) ≠ 0 ∨ rd s (E.port_STATE p.val) = 4) := by
      simp [isDp_iff.mpr hdp, hhpd, hstate]
    have hlow : hpdLow s p.val = raise (setOutPort (portEnters s p.val 4) p.val {}) .portHpd [(p.val : Int)] := if_neg hsees
    have hpower : pdOn (setOutPort (portEnters s p.val 4) p.val {}) 2 = true := (pdOn_portEnters s p.val 4).trans hon
    refine ⟨_, by rw [exec_hpdLow, execHpdLow, hlow, raise_on _ _ _ hpower], ?_, ?_, ?_, ?_, rfl⟩
    · rw [rd_emit, rd_setOutPort, rd_state_portEnters]
    · rw [rd_emit, rd_setOutPort, rd_streams_portEnters_noSink]
    · rw [rd_emit, rd_setOutPort, rd_slots_portEnters _ _ (by decide)]
    · intro k hk
      rw [rd_emit, rd_setOutPort]
      exact portEnters_entriesKept s p.val 4 k hk
  case lowNone =>
    intro s p hnone
    exact congrArg _ (if_pos (by simpa [isDp, portState] using hnone))
  case pulse =>
    intro s p lost hdp hhpd hon
    have hcounts := irqHpd_counts hdp hhpd hon lost
    have hpulses : rd (pulseCounted s p.val) (E.port_HPD_IRQS p.val) = satInc (rd s (E.port_HPD_IRQS p.val)) 1 := rd_wr_same ..
    have hstate : rd (pulseCounted s p.val) (E.port_STATE p.val) = rd s (E.port_STATE p.val) :=
      rd_pulseCounted_ne s (by simp [E.port_STATE, E.port_HPD_IRQS])
    have hlosses : rd (pulseCounted s p.val) (E.port_LINK_LOSSES p.val) = rd s (E.port_LINK_LOSSES p.val) :=
      rd_pulseCounted_ne s (by simp [E.port_LINK_LOSSES, E.port_HPD_IRQS])
    refine ⟨irqHpd s p.val lost, exec_irqHpd .., ?_⟩
    rw [hcounts]
    by_cases hlost : lost = true ∧ rd s (E.port_STATE p.val) = 2
    · have hpower : pdOn (pulseCounted s p.val) 2 = true :=
        (pdOn_bump_above s (by unfold E.port_HPD_IRQS; omega)).trans hon
      obtain ⟨hone, hcounted, -, hkept⟩ := linkLost_entries (hstate.trans hlost.2) hpower
      simp only [if_pos hlost]
      refine ⟨?_, hone, hcounted.trans (by rw [hlosses]), linkLost_out hdp (hstate.trans hlost.2) hpower⟩
      rw [hkept, hpulses]
      simp [E.port_HPD_IRQS, E.port_STATE, E.port_LINK_LOSSES, E.port_BRINGUPS]
    · simp only [if_neg hlost]
      exact ⟨hpulses, hstate, hlosses, rfl⟩
  case pulseNone =>
    intro s p lost hnone
    exact congrArg _ (if_pos (by simpa [isDp] using hnone))
  case poll =>
    intro s p hdp hhpd hstate hon
    have hsees : ¬(¬ isDp p.val = true ∨ rd s (E.port_HPD p.val) ≠ 1) := by simp [isDp_iff.mpr hdp, hhpd]
    have hpoll : linkStatusPoll s p.val true = linkLost s p.val := if_neg hsees
    obtain ⟨hone, hlosses, hbringups, hkept⟩ := linkLost_entries hstate hon
    exact ⟨linkLost s p.val, by rw [exec_linkStatusPoll, execLinkStatusPoll, hpoll], hone, hlosses, hbringups, hkept,
      linkLost_out hdp hstate hon⟩
  case pollNone =>
    intro s p lost hnone
    rw [exec_linkStatusPoll, execLinkStatusPoll, linkStatusPoll]
    split
    · rfl
    · next hsees =>
      rcases hnone with h | h | h | h
      · rw [h]; rfl
      · exact absurd (.inl (by simpa [isDp] using h)) hsees
      · exact absurd (.inr h) hsees
      · simp [linkLost, portState, h]

end Sys2Proof.Proofs
end

section
/-! SUPPORT. Requests of group 4 (R236): what the opening and closing of a receiver and the attaching and detaching of a facet each leave,
and O46, an answer for each request. -/

namespace Sys2Proof.Proofs

open Sys2Proof Sys2Proof.Machine Sys2Proof.Laws

/-! ### Receivers, facets and sums -/

theorem rxOf_congr {s t : State} (h : t.ports = s.ports) (r : Nat) : rxOf t r = rxOf s r := by rw [rxOf, rxOf, h]

theorem facetOf_congr {s t : State} (h : t.compose = s.compose) (n f : Nat) : facetOf t n f = facetOf s n f := by
  rw [facetOf, facetOf, h]

@[simp] theorem ok_ports (s : State) (c : Nat) (data : List Nat) : (ok s c data).ports = s.ports :=
  (ok_kept_clasp s c data).parts .ports (by decide)

/-- Every entry that the sums write is a facet's POOL_LINES or one of a head's POOL_USED, POOL_FREE, FETCH_BYTES and FETCH_LIMIT, which
its low ten bits tell. -/
theorem rd_updateSums_ne (s : State) {k : Nat} (hlines : k % 0x400 ≠ 0x309) (hhead : k % 0x400 < 0x202 ∨ 0x205 < k % 0x400) :
    rd (updateSums s) k = rd s k := by
  refine rd_foldl (fun t h _ => ?_) s
  have hused : k ≠ E.head_POOL_USED h := by simp only [E.head_POOL_USED]; omega
  have hfree : k ≠ E.head_POOL_FREE h := by simp only [E.head_POOL_FREE]; omega
  have hbytes : k ≠ E.head_FETCH_BYTES h := by simp only [E.head_FETCH_BYTES]; omega
  have hlimit : k ≠ E.head_FETCH_LIMIT h := by simp only [E.head_FETCH_LIMIT]; omega
  rw [rd_wr_ne _ _ hlimit, rd_wr_ne _ _ hbytes, rd_wr_ne _ _ hfree, rd_wr_ne _ _ hused]
  exact rd_foldl (fun u f _ => rd_wr_ne u _ (by simp only [E.facet_POOL_LINES]; omega)) t

/-- The answer OK of a request whose effect leaves the clasps alone. -/
theorem taken_ok_of_clasp {s t : State} {c : Nat} {q : Taken} (htaken : (claspOf s c).taken = some q) (hclasp : t.clasp = s.clasp) :
    (claspOf (ok t c []) c).taken = some { q with answer := some {} } :=
  taken_ok (by rwa [claspOf_congr hclasp]) []

theorem camHeldBy_opened {s : State} {r : Nat} {o : CamOpen} (hopened : (rxOf s r).opened = some o) (c : Nat) :
    camHeldBy s c r = (o.client == c) := by
  rw [camHeldBy, hopened]

/-! ### Opening a receiver -/

theorem exec_camOpen_asked {s : State} {c : Client} {q : Taken} (hasks : asks s c.val 0x4001 6 q = true) :
    exec (.camOpen c) s = .next (camOpenReq s c.val q) := by
  rw [exec_camOpen, execCamOpen, serve_asked _ hasks rfl]

/-- The receiver that ARG2 names is opened by client `c`, with the ring and the status record of the other arguments. -/
def receiverOpened (s : State) (c : Nat) (q : Taken) : State :=
  let x := rxOf s (argOf q 2)
  let o : CamOpen :=
    { client := c, base := argOf q 3, buffers := argOf q 4, stride := argOf q 5, pitch := argOf q 6, status := argOf q 7 }
  wr (setRx s (argOf q 2) { x with opened := some o, newest := none, lastBuf := argOf q 4 - 1,
                                   frame := x.frame.map (fun fr => { fr with buf := none }) }) (E.cam_HOLDER (argOf q 2)) c

/-- The arguments of a CAM_OPEN that are in range and aligned. -/
theorem camOpen_form {q : Taken} (hrx : argOf q 2 < 8) (hbase : argOf q 3 % 4096 = 0) (hleast : 3 ≤ argOf q 4) (hmost : argOf q 4 ≤ 10)
    (hstride : argOf q 5 % 4096 = 0) (hstatus : argOf q 7 % 16 = 0) :
    ¬(8 ≤ argOf q 2 ∨ argOf q 3 % 4096 ≠ 0 ∨ argOf q 4 < 3 ∨ 10 < argOf q 4 ∨ argOf q 5 % 4096 ≠ 0 ∨ argOf q 7 % 16 ≠ 0) := by
  omega

/-! ### Detaching a facet and closing a receiver -/

theorem rxOf_detachFacet (s : State) (r h f : Nat) :
    rxOf (detachFacet s r h f) r = { rxOf s r with attached := (rxOf s r).attached.filter (fun n => n != 8 * h + f) } := by
  have hfacet (t : State) (x : FacetRec) : rxOf (setFacet t h f x) r = rxOf t r := rfl
  have hslice (t : State) (k v : Nat) : rxOf (wr t k v) r = rxOf t r := rfl
  simp only [detachFacet, apply_ite (rxOf · r), hfacet, hslice, rxOf_setRx, ite_self]

/-- Slice mode ends with the attachment. -/
theorem slice_detachFacet (s : State) (r h f : Nat) : (facetOf (detachFacet s r h f) h f).slice = none := by
  simp only [detachFacet, apply_ite (facetOf · h f), facetOf_setFacet, apply_ite FacetRec.slice, ite_self]

/-- On a head without latch points the facet leaves at once. -/
theorem facetOf_detachFacet_of_not_hasLatch {s : State} {h : Nat} (hlatch : hasLatch s h = false) (r f : Nat) :
    (facetOf (detachFacet s r h f) h f).cam = none ∧ (facetOf (detachFacet s r h f) h f).shown = none := by
  have hnow : ¬(hasLatch s h = true ∧ facetOn s h f = true ∧ rd s (E.facet_SOURCE h f) = 1) := by simp [hlatch]
  simp only [detachFacet, if_neg hnow, facetOf_setFacet, and_self]

theorem detachFacet_clasp (s : State) (r h f : Nat) : (detachFacet s r h f).clasp = s.clasp := by
  have hod : May [.od, .compose, .ports] .od := ⟨by decide⟩
  have hcompose : May [.od, .compose, .ports] .compose := ⟨by decide⟩
  have hports : May [.od, .compose, .ports] .ports := ⟨by decide⟩
  exact (detachFacet_kept (chg := [.od, .compose, .ports]) (Kept.refl _ s) r h f).parts .clasp (by decide)

/-- Every listed facet is detached from the receiver. -/
def facetsDetached (s : State) (r : Nat) (l : List (Nat × Nat)) : State := l.foldl (fun t p => detachFacet t r p.1 p.2) s

/-- What the receiver still feeds is what it fed and is not listed. -/
theorem mem_attached_facetsDetached {s : State} {r n : Nat} {l : List (Nat × Nat)} :
    n ∈ (rxOf (facetsDetached s r l) r).attached ↔ n ∈ (rxOf s r).attached ∧ ∀ p ∈ l, n ≠ 8 * p.1 + p.2 := by
  induction l generalizing s with
  | nil => simp [facetsDetached]
  | cons p l ih =>
    rw [facetsDetached, List.foldl_cons, ← facetsDetached, ih, rxOf_detachFacet]
    simp [and_assoc]

/-- Without its own facets a receiver feeds none. -/
theorem attached_facetsDetached_all (s : State) (r : Nat) : (rxOf (facetsDetached s r (rxFacets s r)) r).attached = [] := by
  refine List.eq_nil_iff_forall_not_mem.mpr fun n hn => ?_
  obtain ⟨hfed, hnone⟩ := mem_attached_facetsDetached.mp hn
  exact hnone (n / 8, n % 8) (List.mem_map_of_mem hfed) (Nat.div_add_mod n 8).symm

theorem rxOf_closeReceiver (s : State) (r : Nat) : (rxOf (closeReceiver s r) r).opened = none ∧
    (rxOf (closeReceiver s r) r).newest = none ∧ (rxOf (closeReceiver s r) r).attached = [] := by
  rw [closeReceiver, rxOf_congr ((updateSums_kept_od _).parts .ports (by decide)), rxOf_congr (wr_ports ..), rxOf_setRx]
  exact ⟨rfl, rfl, attached_facetsDetached_all s r⟩

theorem rd_holder_closeReceiver (s : State) (r : Nat) : rd (closeReceiver s r) (E.cam_HOLDER r) = 0xFFFF := by
  rw [closeReceiver, rd_updateSums_ne, rd_wr_same] <;>
  · simp only [E.cam_HOLDER]
    omega

theorem closeReceiver_clasp (s : State) (r : Nat) : (closeReceiver s r).clasp = s.clasp := by
  have hod : May [.od, .compose, .ports] .od := ⟨by decide⟩
  have hcompose : May [.od, .compose, .ports] .compose := ⟨by decide⟩
  have hports : May [.od, .compose, .ports] .ports := ⟨by decide⟩
  exact (closeReceiver_kept (chg := [.od, .compose, .ports]) (Kept.refl _ s) r).parts .clasp (by decide)

theorem exec_camClose_asked {s : State} {c : Client} {q : Taken} (hasks : asks s c.val 0x4002 1 q = true) :
    exec (.camClose c) s = .next (camCloseReq s c.val q) := by
  rw [exec_camClose, execCamClose, serve_asked _ hasks rfl]

theorem exec_camDetach_asked {s : State} {c : Client} {q : Taken} (hasks : asks s c.val 0x4004 2 q = true) :
    exec (.camDetach c) s = .next (camDetachReq s c.val q) := by
  rw [exec_camDetach, execCamDetach, serve_asked _ hasks rfl]

/-- The arguments of a CAM_ATTACH or a CAM_DETACH that are in range. -/
theorem camAttach_form {q : Taken} (hrx : argOf q 2 < 8) (hbit : fld (argOf q 3) 7 1 = 0) (hmost : argOf q 3 < 512) :
    ¬(8 ≤ argOf q 2 ∨ fld (argOf q 3) 7 1 ≠ 0 ∨ 512 ≤ argOf q 3) := by
  omega

/-- A CAM_DETACH by the client that has the receiver open and the rights. -/
theorem camDetachReq_held {s : State} {c : Nat} {q : Taken} (hrx : argOf q 2 < 8) (hbit : fld (argOf q 3) 7 1 = 0)
    (hmost : argOf q 3 < 512) (hright : camRight s c (argOf q 2) = true) (hhead : headRight s c (fld (argOf q 3) 0 4) = true)
    (hfacet : facetRight s c (fld (argOf q 3) 0 4) (fld (argOf q 3) 4 3) = true) (hheld : camHeldBy s c (argOf q 2) = true) :
    camDetachReq s c q =
      if (rxOf s (argOf q 2)).attached.contains (8 * fld (argOf q 3) 0 4 + fld (argOf q 3) 4 3) then
        ok (updateSums (detachFacet s (argOf q 2) (fld (argOf q 3) 0 4) (fld (argOf q 3) 4 3))) c []
      else fail s c 0x0105 := by
  simp only [camDetachReq, if_neg (camAttach_form hrx hbit hmost), hright, hhead, hfacet, hheld, not_true_eq_false, or_self, and_false,
    if_false, ite_not]

/-! ### Attaching a facet -/

theorem exec_camAttach_asked {s : State} {c : Client} {q : Taken} (hasks : asks s c.val 0x4003 2 q = true) :
    exec (.camAttach c) s = .next (camAttachReq s c.val q) := by
  rw [exec_camAttach, execCamAttach, serve_asked _ hasks rfl]

/-- The slice-mode record of a facet that joins receiver `r`, if it joins in slice mode. -/
def sliceAsked (s : State) (r : Nat) (slice : Bool) : Option SliceRec :=
  if slice then some { base := (rxOf s r).base, seq := (rxOf s r).seq, buf := (rxOf s r).lastBuf } else none

/-- A facet's record as it joins receiver `r`. -/
def facetJoined (y : FacetRec) (r : Nat) (sl : Option SliceRec) : FacetRec :=
  { y with cam := some r, slice := sl, detach := false, detachNext := false, latched := if y.detach then some none else y.latched }

/-- Facet `f` of head `h` joins receiver `r`, and client `c` holds it. -/
def facetAttached (s : State) (c r h f : Nat) (slice : Bool) : State :=
  let s1 := setRx s r { rxOf s r with attached := (rxOf s r).attached ++ [8 * h + f] }
  let s2 := setFacet s1 h f (facetJoined (facetOf s h f) r (sliceAsked s r slice))
  wr (if slice then wr s2 (E.cam_SLICE_STATE r) 1 else s2) (E.facet_HOLDER h f) c

theorem facetAttached_ports (s : State) (c r h f : Nat) (slice : Bool) : (facetAttached s c r h f slice).ports =
    (setRx s r { rxOf s r with attached := (rxOf s r).attached ++ [8 * h + f] }).ports := by
  cases slice <;> rfl

theorem facetAttached_compose (s : State) (c r h f : Nat) (slice : Bool) : (facetAttached s c r h f slice).compose =
    (setFacet s h f (facetJoined (facetOf s h f) r (sliceAsked s r slice))).compose := by
  cases slice <;> rfl

theorem facetAttached_clasp (s : State) (c r h f : Nat) (slice : Bool) : (facetAttached s c r h f slice).clasp = s.clasp := by
  cases slice <;> rfl

theorem rd_holder_facetAttached (s : State) (c r h f : Nat) (slice : Bool) :
    rd (updateSums (facetAttached s c r h f slice)) (E.facet_HOLDER h f) = c := by
  rw [rd_updateSums_ne, facetAttached, rd_wr_same] <;>
  · simp only [E.facet_HOLDER]
    omega

theorem rd_sliceState_facetAttached (s : State) (c r h f : Nat) :
    rd (updateSums (facetAttached s c r h f true)) (E.cam_SLICE_STATE r) = 1 := by
  have hother : E.cam_SLICE_STATE r ≠ E.facet_HOLDER h f := by simp only [E.cam_SLICE_STATE, E.facet_HOLDER]; omega
  rw [rd_updateSums_ne, facetAttached, rd_wr_ne _ _ hother, if_pos rfl, rd_wr_same] <;>
  · simp only [E.cam_SLICE_STATE]
    omega

theorem isSome_sliceAsked (s : State) (r : Nat) (slice : Bool) : (sliceAsked s r slice).isSome = slice := by
  cases slice <;> rfl

/-- A CAM_ATTACH that passes every check attaches the facet. -/
theorem camAttachReq_accepted {s : State} {c : Nat} {q : Taken} {o : CamOpen}
    (hform : ¬(8 ≤ argOf q 2 ∨ fld (argOf q 3) 7 1 ≠ 0 ∨ 512 ≤ argOf q 3))
    (hrights : ¬(¬ camRight s c (argOf q 2) = true ∨ ¬ headRight s c (fld (argOf q 3) 0 4) = true ∨
      ¬ facetRight s c (fld (argOf q 3) 0 4) (fld (argOf q 3) 4 3) = true))
    (hopened : (rxOf s (argOf q 2)).opened = some o) (hown : o.client = c) (henable : rd s (E.cam_ENABLE (argOf q 2)) ≠ 0)
    (hformat : camFormatBad s (argOf q 2) (fld (argOf q 3) 0 4) (fld (argOf q 3) 4 3) = false)
    (hbuffers : 2 * ((rxOf s (argOf q 2)).attached.length + 1) + 2 ≤ o.buffers)
    (hslice : ¬(bitOf (argOf q 3) 8 = true ∧ sliceBad s (argOf q 2) (fld (argOf q 3) 0 4) (fld (argOf q 3) 4 3) = true))
    (hmayHold : ¬(rd s (E.facet_SOURCE (fld (argOf q 3) 0 4) (fld (argOf q 3) 4 3)) ≠ 1 ∨
      (rd s (E.facet_HOLDER (fld (argOf q 3) 0 4) (fld (argOf q 3) 4 3)) ≠ 0xFFFF ∧
        rd s (E.facet_HOLDER (fld (argOf q 3) 0 4) (fld (argOf q 3) 4 3)) ≠ c) ∨
      (List.range 8).any (fun p => (rxOf s p).attached.contains (8 * fld (argOf q 3) 0 4 + fld (argOf q 3) 4 3)) = true)) :
    camAttachReq s c q = ok (updateSums (facetAttached s c (argOf q 2) (fld (argOf q 3) 0 4) (fld (argOf q 3) 4 3)
      (bitOf (argOf q 3) 8))) c [] := by
  have hheld : ¬((rxOf s (argOf q 2)).opened.isSome = true ∧ ¬ camHeldBy s c (argOf q 2) = true) := by
    simp [camHeldBy_opened hopened, hown]
  unfold camAttachReq
  dsimp only
  rw [if_neg hform, if_neg hrights, if_neg hheld, if_neg henable]
  split
  next hclosed => exact absurd (hclosed.symm.trans hopened) (by simp)
  next o' hopened' =>
    obtain rfl : o' = o := Option.some.inj (hopened'.symm.trans hopened)
    rw [if_neg (by simp [hformat]), if_neg (Nat.not_lt.mpr hbuffers), if_neg hslice, if_neg hmayHold]
    rfl

/-! ### The answers -/

theorem exec_camQuery_asked {s : State} {c : Client} {q : Taken} (hasks : asks s c.val 0x4005 1 q = true) :
    exec (.camQuery c) s = .next (camQueryReq s c.val q) := by
  rw [exec_camQuery, execCamQuery, serve_asked _ hasks rfl]

/-- Settles O46: each answer is what the checks of its request come to, in their order. -/
theorem cameraRequestsAreAnswered : Obligations.CameraRequestsAreAnswered := by
  refine ⟨⟨?opens, ?openForm, ?openHeld, ?openDenied⟩, ⟨?closes, ?closeNone, ?closeOther⟩, ⟨?attaches, ?attachForm, ?attachDenied⟩,
    ⟨?detaches, ?detachNone⟩, ?query, ?queryDenied, ?queryNone⟩
  case opens =>
    intro s c q hasks hrx hbase hleast hmost hstride hstatus hright hclosed henable hpitch hheight hinside
    obtain ⟨htaken, -⟩ := asks_iff.mp hasks
    have hring : ¬(argOf q 6 * 256 < rd s (E.cam_WIDTH (argOf q 2)) * storedBytes4 (rd s (E.cam_DATA_TYPE (argOf q 2))) ∨
        argOf q 5 < argOf q 6 * 64 * rd s (E.cam_HEIGHT (argOf q 2))) := by omega
    have hopens : camOpenReq s c.val q = ok (receiverOpened s c.val q) c.val [] := by
      simp [camOpenReq, camOpen_form hrx hbase hleast hmost hstride hstatus, hright, hclosed, henable, hring, hinside, receiverOpened]
    refine ⟨ok (receiverOpened s c.val q) c.val [], by rw [exec_camOpen_asked hasks, hopens], ?_, ?_, taken_ok_of_clasp htaken rfl, ?_⟩
    · rw [rd_ok, receiverOpened, rd_wr_same]
    · intro k hk
      rw [rd_ok, receiverOpened, rd_wr_ne _ _ (List.ne_of_not_mem_cons hk), rd_setRx]
    · rw [rxOf_congr (ok_ports ..), receiverOpened, rxOf_congr (wr_ports ..), rxOf_setRx]
      exact ⟨rfl, rfl, rfl⟩
  case openForm =>
    intro s c q hasks hform
    rw [exec_camOpen_asked hasks]
    exact congrArg _ (if_pos hform)
  case openHeld =>
    intro s c q o hasks hrx hbase hleast hmost hstride hstatus hright hopened
    rw [exec_camOpen_asked hasks]
    by_cases hown : o.client = c.val <;>
      simp [camOpenReq, camOpen_form hrx hbase hleast hmost hstride hstatus, hright, hopened, camHeldBy_opened hopened, hown]
  case openDenied =>
    intro s c q hasks hrx hbase hleast hmost hstride hstatus hright
    rw [exec_camOpen_asked hasks]
    simp [camOpenReq, camOpen_form hrx hbase hleast hmost hstride hstatus, hright]
  case closes =>
    intro s c q hasks hrx hright hheld
    obtain ⟨htaken, -⟩ := asks_iff.mp hasks
    have hcloses : camCloseReq s c.val q = ok (closeReceiver s (argOf q 2)) c.val [] := by
      simp [camCloseReq, Nat.not_le.mpr hrx, hright, hheld]
    obtain ⟨hopened, hnewest, hattached⟩ := rxOf_closeReceiver s (argOf q 2)
    refine ⟨_, by rw [exec_camClose_asked hasks, hcloses], ?_⟩
    rw [rd_ok, rxOf_congr (ok_ports ..)]
    exact ⟨rd_holder_closeReceiver s _, hopened, hnewest, hattached, taken_ok_of_clasp htaken (closeReceiver_clasp s _)⟩
  case closeNone =>
    intro s c q hasks hrx
    rw [exec_camClose_asked hasks]
    exact congrArg _ (if_pos hrx)
  case closeOther =>
    intro s c q hasks hrx hright hheld hopened
    rw [exec_camClose_asked hasks]
    simp [camCloseReq, Nat.not_le.mpr hrx, hright, hheld, hopened]
  case attaches =>
    intro s c q o hasks hrx hbit hmost hright hhead hfacet hopened hown henable hformat hbuffers hslice hsource hholder hfree
    obtain ⟨htaken, -⟩ := asks_iff.mp hasks
    have hsliceOk : ¬(bitOf (argOf q 3) 8 = true ∧ sliceBad s (argOf q 2) (fld (argOf q 3) 0 4) (fld (argOf q 3) 4 3) = true) :=
      fun h => by simp [hslice h.1] at h
    have huntaken : (List.range 8).any
        (fun p => (rxOf s p).attached.contains (8 * fld (argOf q 3) 0 4 + fld (argOf q 3) 4 3)) = false :=
      List.any_eq_false.mpr fun p hp => by rw [hfree p (List.mem_range.mp hp)]; exact Bool.false_ne_true
    have hmayHold : ¬(rd s (E.facet_SOURCE (fld (argOf q 3) 0 4) (fld (argOf q 3) 4 3)) ≠ 1 ∨
        (rd s (E.facet_HOLDER (fld (argOf q 3) 0 4) (fld (argOf q 3) 4 3)) ≠ 0xFFFF ∧
          rd s (E.facet_HOLDER (fld (argOf q 3) 0 4) (fld (argOf q 3) 4 3)) ≠ c.val) ∨
        (List.range 8).any (fun p => (rxOf s p).attached.contains (8 * fld (argOf q 3) 0 4 + fld (argOf q 3) 4 3)) = true) := by
      rw [huntaken]
      simp only [Bool.false_eq_true, or_false]
      omega
    have hrights : ¬(¬ camRight s c.val (argOf q 2) = true ∨ ¬ headRight s c.val (fld (argOf q 3) 0 4) = true ∨
        ¬ facetRight s c.val (fld (argOf q 3) 0 4) (fld (argOf q 3) 4 3) = true) := by simp [hright, hhead, hfacet]
    have hattaches := camAttachReq_accepted (camAttach_form hrx hbit hmost) hrights hopened hown henable hformat hbuffers hsliceOk hmayHold
    have hkept := (updateSums_kept_od (facetAttached s c.val (argOf q 2) (fld (argOf q 3) 0 4) (fld (argOf q 3) 4 3)
      (bitOf (argOf q 3) 8))).parts
    refine ⟨_, by rw [exec_camAttach_asked hasks, hattaches], ?_, ?_, ?_, ?_, ?_,
      taken_ok_of_clasp htaken ((hkept .clasp (by decide)).trans (facetAttached_clasp ..))⟩
    · rw [rd_ok, rd_holder_facetAttached]
    · rw [rxOf_congr (ok_ports ..), rxOf_congr (hkept .ports (by decide)), rxOf_congr (facetAttached_ports ..), rxOf_setRx]
    · rw [facetOf_congr (ok_compose ..), facetOf_congr (hkept .compose (by decide)), facetOf_congr (facetAttached_compose ..),
        facetOf_setFacet, facetJoined]
    · rw [facetOf_congr (ok_compose ..), facetOf_congr (hkept .compose (by decide)), facetOf_congr (facetAttached_compose ..),
        facetOf_setFacet, facetJoined, isSome_sliceAsked]
    · intro hbitSlice
      rw [rd_ok, hbitSlice, rd_sliceState_facetAttached]
  case attachForm =>
    intro s c q hasks hform
    rw [exec_camAttach_asked hasks]
    exact congrArg _ (if_pos hform)
  case attachDenied =>
    intro s c q hasks hrx hbit hmost hright
    rw [exec_camAttach_asked hasks]
    simp [camAttachReq, camAttach_form hrx hbit hmost, hright]
  case detaches =>
    intro s c q hasks hrx hbit hmost hright hhead hfacet hheld hfed
    obtain ⟨htaken, -⟩ := asks_iff.mp hasks
    have hkept := (updateSums_kept_od (detachFacet s (argOf q 2) (fld (argOf q 3) 0 4) (fld (argOf q 3) 4 3))).parts
    refine ⟨_, by rw [exec_camDetach_asked hasks, camDetachReq_held hrx hbit hmost hright hhead hfacet hheld, if_pos hfed], ?_, ?_, ?_,
      taken_ok_of_clasp htaken ((hkept .clasp (by decide)).trans (detachFacet_clasp ..))⟩
    · rw [rxOf_congr (ok_ports ..), rxOf_congr (hkept .ports (by decide)), rxOf_detachFacet]
    · rw [facetOf_congr (ok_compose ..), facetOf_congr (hkept .compose (by decide)), slice_detachFacet]
    · intro hlatch
      rw [facetOf_congr (ok_compose ..), facetOf_congr (hkept .compose (by decide))]
      exact facetOf_detachFacet_of_not_hasLatch hlatch ..
  case detachNone =>
    intro s c q hasks hrx hbit hmost hright hhead hfacet hheld hnone
    rw [exec_camDetach_asked hasks, camDetachReq_held hrx hbit hmost hright hhead hfacet hheld, hnone]
    rfl
  case query =>
    intro s c q hasks hrx hright
    rw [exec_camQuery_asked hasks]
    simp [camQueryReq, Nat.not_le.mpr hrx, hright]
  case queryDenied =>
    intro s c q hasks hrx hright
    rw [exec_camQuery_asked hasks]
    simp [camQueryReq, Nat.not_le.mpr hrx, hright]
  case queryNone =>
    intro s c q hasks hrx
    rw [exec_camQuery_asked hasks]
    exact congrArg _ (if_pos hrx)

end Sys2Proof.Proofs
end

section
/-! SUPPORT. Camera frames (R233, R235, R237): what a header, a Frame Start, a line and the close of an incomplete frame each leave in the
receiver, in its counters and in the DRAM. -/

namespace Sys2Proof.Proofs

open Sys2Proof Sys2Proof.Machine Sys2Proof.Laws

/-! ### The entries of ports and receivers lie above those of events, emergency messages and guests -/

theorem rd_raise_above (s : State) (e : Ev) (args : List Int) {k : Nat} (hk : 0x340000 ≤ k) : rd (raise s e args) k = rd s k := by
  have hdropped : k ≠ E.pwr_EVENTS_DROPPED := by simp only [E.pwr_EVENTS_DROPPED]; omega
  unfold raise
  split
  · rfl
  · split
    · rfl
    · exact rd_bump_ne _ hdropped

/-- Whoever owns a client is told by the guests' entries. -/
theorem guestOf_congr {s t : State} (hrd : ∀ k, 0x580000 ≤ k → k < 0x600000 → rd t k = rd s k) (c : Nat) : guestOf t c = guestOf s c := by
  rw [guestOf, guestOf, ← List.head?_filter, ← List.head?_filter]
  refine congrArg List.head? (List.filter_congr fun g hg => ?_)
  have hrange := List.mem_range.mp hg
  rw [inRange, inRange, hrd _ (by simp only [E.guest_FIRST_CLIENT]; omega) (by simp only [E.guest_FIRST_CLIENT]; omega),
    hrd _ (by simp only [E.guest_CLIENT_COUNT]; omega) (by simp only [E.guest_CLIENT_COUNT]; omega)]

theorem lt_of_guestOf {s : State} {c g : Nat} (hguest : guestOf s c = some g) : g < 64 :=
  List.mem_range.mp (List.mem_of_find?_eq_some hguest)

theorem guestOf_wr_above (s : State) {k : Nat} (v : Nat) (hk : 0x600000 ≤ k) (c : Nat) : guestOf (wr s k v) c = guestOf s c :=
  guestOf_congr (fun _ _ hlt => rd_wr_ne s v (by omega)) c

/-- A client's reset is a matter of its guest's entries and record (R24, R31). -/
theorem resettingClient_congr_guests {s t : State} (hten : t.ten = s.ten) (hrd : ∀ k, 0x580000 ≤ k → k < 0x600000 → rd t k = rd s k)
    (c : Nat) : resettingClient t c = resettingClient s c := by
  rw [resettingClient, resettingClient, guestOf_congr hrd]
  cases hguest : guestOf s c with
  | none => rfl
  | some g =>
    have hg := lt_of_guestOf hguest
    dsimp only
    rw [guestRec, hten, ← guestRec, hrd _ (by simp only [E.guest_RESET_CLIENT]; omega) (by simp only [E.guest_RESET_CLIENT]; omega)]

theorem rd_violate_noGuest (s : State) (kind path addr : Nat) (client : Option Nat) {k : Nat} (hlost : k ≠ E.viol_LOST) :
    rd (violate s kind path addr client none) k = rd s k := rd_logViolation_ne s _ hlost

theorem rd_windowViolation_above (s : State) (c a : Nat) {k : Nat} (hk : 0x600000 ≤ k) : rd (windowViolation s c a) k = rd s k := by
  have hlost : k ≠ E.viol_LOST := by simp only [E.viol_LOST]; omega
  unfold windowViolation
  cases hguest : guestOf s c with
  | none => exact rd_violate_noGuest _ _ _ _ _ hlost
  | some g =>
    have hg := lt_of_guestOf hguest
    refine rd_violate_ne _ _ _ _ _ _ hlost ?_ ?_
    · simp only [E.comm_EMCY_DROPPED]; omega
    · simp only [E.guest_VIOLATIONS]; omega

/-! ### Writes of a client's window (R32, R37) -/

theorem winAddr_wr_above (s : State) {k : Nat} (v : Nat) (hk : 0x600000 ≤ k) (c a : Nat) : winAddr (wr s k v) c a = winAddr s c a := by
  rw [winAddr, guestOf_wr_above s v hk]
  rfl

theorem winAllowed_wr_above (s : State) {k : Nat} (v : Nat) (hk : 0x600000 ≤ k) (c a : Nat) (write : Bool) :
    winAllowed (wr s k v) c a write = winAllowed s c a write := by
  rw [winAllowed, guestOf_wr_above s v hk]
  rfl

/-- A write of a window does not see a receiver's entries. -/
theorem winWr_wr_above (s : State) {k : Nat} (v : Nat) (hk : 0x600000 ≤ k) (c a : Nat) (bytes : List Byte) :
    winWr (wr s k v) c a bytes = wr (winWr s c a bytes) k v := by
  induction bytes generalizing s a with
  | nil => rfl
  | cons b bytes ih =>
    rw [winWr, winWr, winAddr_wr_above s v hk, winAllowed_wr_above s v hk, ← ih]
    congr 1
    split
    · split <;> rfl
    · rfl

/-! ### What has left the block stays -/

theorem out_suffix_raise (s : State) (e : Ev) (args : List Int) : s.out <:+ (raise s e args).out := by
  unfold raise
  split
  · exact List.suffix_cons ..
  · split <;> exact List.suffix_refl _

theorem raise_ports (s : State) (e : Ev) (args : List Int) : (raise s e args).ports = s.ports := by
  have hout : May [.out, .fwQueue, .od] .out := ⟨by decide⟩
  have hfwQueue : May [.out, .fwQueue, .od] .fwQueue := ⟨by decide⟩
  have hod : May [.out, .fwQueue, .od] .od := ⟨by decide⟩
  exact (raise_kept (chg := [.out, .fwQueue, .od]) (Kept.refl _ s) e args).parts .ports (by decide)

/-! ### Headers (R233, R235) -/

/-- A packet whose header is lost: it is discarded, and the open frame can no longer be complete. -/
def headerLost (s : State) (r : Nat) : State := bump (spoilFrame s r) (E.cam_DISCARDED r)

/-- A packet with a good header, or with a corrected one, which is counted. -/
def headerTaken (s : State) (r hdr : Nat) : State := if hdr = 1 then bump s (E.cam_HDR_CORRECTED r) else s

theorem csiHeader_lost (s : State) (r vc : Nat) : csiHeader s r vc 2 = (headerLost s r, false) := rfl

theorem csiHeader_taken (s : State) (r : Nat) {hdr : Nat} (hhdr : hdr ≠ 2) :
    csiHeader s r (rd s (E.cam_VC r)) hdr = (headerTaken s r hdr, true) := by
  rw [csiHeader, if_neg hhdr]
  exact if_neg (not_not_intro rfl)

/-- A packet of another virtual channel. -/
theorem csiHeader_stranger {s : State} {r vc : Nat} (hvc : vc ≠ rd s (E.cam_VC r)) :
    csiHeader s r vc 0 = (bump s (E.cam_DISCARDED r), false) := if_pos hvc

/-- What a lost header leaves. -/
theorem headerLost_effect (s : State) (r : Nat) :
    rd (headerLost s r) (E.cam_DISCARDED r) = satInc (rd s (E.cam_DISCARDED r)) 1 ∧
      (∀ fr, (rxOf s r).frame = some fr → (rxOf (headerLost s r) r).frame = some { fr with ok := false }) ∧
      entriesKept [E.cam_DISCARDED r] s (headerLost s r) := by
  refine ⟨rd_wr_same .., fun fr hframe => ?_, fun k hk => rd_bump_ne _ (List.ne_of_not_mem_cons hk)⟩
  rw [headerLost, bump, bumpBy, rxOf_congr (wr_ports ..), spoilFrame, rxOf_setRx, hframe]
  rfl

theorem headerTaken_kept (s : State) (r hdr : Nat) : Kept [.od] s (headerTaken s r hdr) := by
  have hod : May [.od] .od := ⟨by decide⟩
  exact Kept.ite (bump_kept (Kept.refl _ s) _) (Kept.refl _ s)

theorem rxOf_headerTaken (s : State) (r hdr n : Nat) : rxOf (headerTaken s r hdr) n = rxOf s n :=
  rxOf_congr ((headerTaken_kept s r hdr).parts .ports (by decide)) n

theorem rd_headerTaken_ne (s : State) {r k : Nat} (hdr : Nat) (hk : k ≠ E.cam_HDR_CORRECTED r) :
    rd (headerTaken s r hdr) k = rd s k := by
  rw [headerTaken, rd_ite, rd_bump_ne _ hk, ite_self]

theorem rd_headerTaken_corrected (s : State) (r hdr : Nat) : rd (headerTaken s r hdr) (E.cam_HDR_CORRECTED r) =
    if hdr = 1 then satInc (rd s (E.cam_HDR_CORRECTED r)) 1 else rd s (E.cam_HDR_CORRECTED r) := by
  rw [headerTaken, rd_ite, bump, bumpBy, rd_wr_same]

theorem pdOn_headerTaken (s : State) (r hdr : Nat) : pdOn (headerTaken s r hdr) 2 = pdOn s 2 := by
  rw [pdOn, rd_headerTaken_ne _ _ (by simp only [E.pd_STATE, E.cam_HDR_CORRECTED]; omega), pdOn]

/-! ### An open frame closes as incomplete (R233, R240) -/

theorem sliceIncomplete_ports (s : State) (r seq : Nat) (p : Nat × Nat) : (sliceIncomplete s r seq p).ports = s.ports := by
  let ch : List Part := [.out, .fwQueue, .od, .clasp, .compose]
  have hout : May ch .out := ⟨by decide⟩
  have hfwQueue : May ch .fwQueue := ⟨by decide⟩
  have hod : May ch .od := ⟨by decide⟩
  have hclasp : May ch .clasp := ⟨by decide⟩
  have hcompose : May ch .compose := ⟨by decide⟩
  exact (sliceIncomplete_kept (chg := ch) (Kept.refl _ s) r seq p).parts .ports (by decide)

theorem out_suffix_sliceIncomplete (s : State) (r seq : Nat) (p : Nat × Nat) : s.out <:+ (sliceIncomplete s r seq p).out := by
  unfold sliceIncomplete
  dsimp only
  split
  · exact List.suffix_refl _
  · split
    · exact List.suffix_refl _
    · split
      · refine .trans ?_ (out_suffix_raise ..)
        exact List.suffix_refl _
      · exact List.suffix_refl _

theorem rd_sliceIncomplete_ne (s : State) {r k : Nat} (seq : Nat) (p : Nat × Nat) (hk : 0x340000 ≤ k) (hstate : k ≠ E.cam_SLICE_STATE r)
    (hmisses : k ≠ E.cam_SLICE_MISSES r) : rd (sliceIncomplete s r seq p) k = rd s k := by
  unfold sliceIncomplete
  dsimp only
  split
  · rfl
  · simp only [rd_ite, rd_raise_above _ _ _ hk, rd_bump_ne _ hmisses, rd_wr_ne _ _ hstate, rd_setFacet, ite_self]

/-- Every facet of the list in slice mode learns that the frame is incomplete. -/
def slicesIncomplete (s : State) (r seq : Nat) (l : List (Nat × Nat)) : State := l.foldl (fun t p => sliceIncomplete t r seq p) s

theorem slicesIncomplete_ports (s : State) (r seq : Nat) (l : List (Nat × Nat)) : (slicesIncomplete s r seq l).ports = s.ports :=
  List.foldlRecOn (motive := fun t => t.ports = s.ports) l _ rfl fun t ht p _ => (sliceIncomplete_ports t r seq p).trans ht

theorem out_suffix_slicesIncomplete (s : State) (r seq : Nat) (l : List (Nat × Nat)) : s.out <:+ (slicesIncomplete s r seq l).out :=
  List.foldlRecOn (motive := fun t => s.out <:+ t.out) l _ (List.suffix_refl _) fun t ht p _ =>
    ht.trans (out_suffix_sliceIncomplete t r seq p)

/-- The frame in progress is given up, and counted as incomplete for the client that has the receiver open. -/
def frameGivenUp (s : State) (r : Nat) : State :=
  setRx s r { rxOf s r with
    frame := none, opened := (rxOf s r).opened.map (fun o => { o with incomplete := (o.incomplete + 1) % 2 ^ 32 }) }

/-- The incomplete frame is counted and reported; the facets in slice mode do not know of it yet. -/
def incompleteReported (s : State) (r : Nat) : State :=
  raise (bump (frameGivenUp s r) (E.cam_INCOMPLETE r)) .camIncomplete [(r : Int)]

theorem closeIncomplete_open {s : State} {r : Nat} {fr : CamFrame} (hframe : (rxOf s r).frame = some fr) :
    closeIncomplete s r = slicesIncomplete (incompleteReported s r) r fr.seq (rxFacets (incompleteReported s r) r) := by
  simp only [closeIncomplete, hframe]
  rfl

theorem closeIncomplete_none {s : State} {r : Nat} (hframe : (rxOf s r).frame = none) : closeIncomplete s r = s := by
  simp only [closeIncomplete, hframe]

theorem rxOf_closeIncomplete {s : State} {r : Nat} {fr : CamFrame} (hframe : (rxOf s r).frame = some fr) :
    rxOf (closeIncomplete s r) r = { rxOf s r with
      frame := none, opened := (rxOf s r).opened.map (fun o => { o with incomplete := (o.incomplete + 1) % 2 ^ 32 }) } := by
  rw [closeIncomplete_open hframe, rxOf_congr (slicesIncomplete_ports ..), incompleteReported, rxOf_congr (raise_ports ..), bump, bumpBy,
    rxOf_congr (wr_ports ..), frameGivenUp, rxOf_setRx]

theorem rd_closeIncomplete {s : State} {r k : Nat} {fr : CamFrame} (hframe : (rxOf s r).frame = some fr) (hk : 0x340000 ≤ k)
    (hstate : k ≠ E.cam_SLICE_STATE r) (hmisses : k ≠ E.cam_SLICE_MISSES r) :
    rd (closeIncomplete s r) k = rd (bump s (E.cam_INCOMPLETE r)) k := by
  rw [closeIncomplete_open hframe, slicesIncomplete, rd_foldl fun t p _ => rd_sliceIncomplete_ne t fr.seq p hk hstate hmisses,
    incompleteReported, rd_raise_above _ _ _ hk]
  rfl

theorem rd_incomplete_closeIncomplete {s : State} {r : Nat} {fr : CamFrame} (hframe : (rxOf s r).frame = some fr) :
    rd (closeIncomplete s r) (E.cam_INCOMPLETE r) = satInc (rd s (E.cam_INCOMPLETE r)) 1 := by
  rw [rd_closeIncomplete hframe, bump, bumpBy, rd_wr_same] <;>
  · simp only [E.cam_INCOMPLETE, E.cam_SLICE_STATE, E.cam_SLICE_MISSES]
    omega

/-- Each incomplete frame raises CAM_INCOMPLETE. -/
theorem camIncomplete_mem_closeIncomplete {s : State} {r : Nat} {fr : CamFrame} (hframe : (rxOf s r).frame = some fr)
    (hon : pdOn s 2 = true) : .event false .camIncomplete [(r : Int)] ∈ (closeIncomplete s r).out := by
  have hpower : pdOn (bump (frameGivenUp s r) (E.cam_INCOMPLETE r)) 2 = true :=
    (pdOn_bump_above (frameGivenUp s r) (by simp only [E.cam_INCOMPLETE]; omega)).trans hon
  rw [closeIncomplete_open hframe]
  refine (out_suffix_slicesIncomplete ..).mem ?_
  rw [incompleteReported, raise_on _ _ _ hpower]
  exact List.mem_cons_self

/-! ### Frame Starts (R233, R237) -/

/-- A frame opens in the next buffer of the ring. -/
def frameOpened (s : State) (r num : Nat) : State :=
  setRx s r { rxOf s r with
    frame := some { num := num, seq := (rxOf s r).seq + 1, buf := nextBuffer s r }, seq := (rxOf s r).seq + 1,
    base := (rxOf s r).arrived, lastBuf := (nextBuffer s r).getD (rxOf s r).lastBuf }

theorem csiFrameStart_lost {s : State} {r : Nat} (hon : rxOn s r = true) (vc num : Nat) : csiFrameStart s r vc num 2 = headerLost s r := by
  rw [csiFrameStart, if_neg (not_not_intro hon), csiHeader_lost]
  rfl

theorem csiFrameStart_taken {s : State} {r hdr : Nat} (hon : rxOn s r = true) (hhdr : hdr ≠ 2) (num : Nat) :
    csiFrameStart s r (rd s (E.cam_VC r)) num hdr = frameOpened (closeIncomplete (headerTaken s r hdr) r) r num := by
  rw [csiFrameStart, if_neg (not_not_intro hon), csiHeader_taken s r hhdr]
  rfl

theorem csiFrameStart_stranger {s : State} {r vc : Nat} (hon : rxOn s r = true) (hvc : vc ≠ rd s (E.cam_VC r)) (num : Nat) :
    csiFrameStart s r vc num 0 = bump s (E.cam_DISCARDED r) := by
  rw [csiFrameStart, if_neg (not_not_intro hon), csiHeader_stranger hvc]
  rfl

/-! ### Lines (R237) -/

/-- A line's CRC error is counted, after its header. -/
def lineChecked (s : State) (r : Nat) (crc : Bool) (hdr : Nat) : State :=
  if crc then headerTaken s r hdr else bump (headerTaken s r hdr) (E.cam_CRC_ERRORS r)

/-- The line is stored when it fits its frame. -/
def lineStored (s : State) (r : Nat) (fr : CamFrame) (bytes : List Byte) (crc : Bool) (hdr : Nat) : State :=
  if lineFits s r fr bytes then storeLine (lineChecked s r crc hdr) r fr bytes else lineChecked s r crc hdr

/-- A line of the open frame has arrived; `good` tells whether it lets the frame be complete. -/
def lineArrived (s : State) (r : Nat) (fr : CamFrame) (good : Bool) : State :=
  setRx s r { rxOf s r with arrived := (rxOf s r).arrived + 1, frame := some { fr with lines := fr.lines + 1, ok := good } }

theorem csiLinePacket_lost {s : State} {r : Nat} (hon : rxOn s r = true) (vc dt : Nat) (bytes : List Byte) (crc : Bool) :
    csiLinePacket s r vc dt bytes crc 2 = headerLost s r := by
  rw [csiLinePacket, if_neg (not_not_intro hon), csiHeader_lost]
  rfl

theorem csiLinePacket_taken {s : State} {r hdr : Nat} {fr : CamFrame} (hon : rxOn s r = true) (hhdr : hdr ≠ 2)
    (hframe : (rxOf s r).frame = some fr) (bytes : List Byte) (crc : Bool) :
    csiLinePacket s r (rd s (E.cam_VC r)) (rd s (E.cam_DATA_TYPE r)) bytes crc hdr =
      lineArrived (lineStored s r fr bytes crc hdr) r fr (fr.ok && crc && lineFits s r fr bytes) := by
  rw [csiLinePacket, if_neg (not_not_intro hon), csiHeader_taken s r hhdr]
  simp only [not_true_eq_false, if_false, ne_eq, rxOf_headerTaken, hframe]
  rfl

/-- A line of another virtual channel or data type, or outside a frame, is discarded and counted. -/
theorem csiLinePacket_stranger {s : State} {r vc dt : Nat} (hon : rxOn s r = true)
    (hstranger : vc ≠ rd s (E.cam_VC r) ∨ dt ≠ rd s (E.cam_DATA_TYPE r) ∨ (rxOf s r).frame = none) (bytes : List Byte) (crc : Bool) :
    csiLinePacket s r vc dt bytes crc 0 = bump s (E.cam_DISCARDED r) := by
  rw [csiLinePacket, if_neg (not_not_intro hon)]
  by_cases hvc : vc = rd s (E.cam_VC r)
  · have hgood : csiHeader s r vc 0 = (s, true) := hvc ▸ csiHeader_taken s r (hdr := 0) (by decide)
    rw [hgood]
    rcases hstranger with h | h | h
    · exact absurd hvc h
    · exact if_pos h
    · simp [h]
  · rw [csiHeader_stranger hvc]
    rfl

theorem lineChecked_kept (s : State) (r : Nat) (crc : Bool) (hdr : Nat) : Kept [.od] s (lineChecked s r crc hdr) := by
  have hod : May [.od] .od := ⟨by decide⟩
  exact Kept.ite (headerTaken_kept s r hdr) (bump_kept (headerTaken_kept s r hdr) _)

theorem rxOf_lineStored (s : State) (r : Nat) (fr : CamFrame) (bytes : List Byte) (crc : Bool) (hdr : Nat) :
    rxOf (lineStored s r fr bytes crc hdr) r = rxOf s r := by
  let ch : List Part := [.od, .mem, .ten, .field, .memc]
  have hod : May ch .od := ⟨by decide⟩
  have hmem : May ch .mem := ⟨by decide⟩
  have hten : May ch .ten := ⟨by decide⟩
  have hfield : May ch .field := ⟨by decide⟩
  have hmemc : May ch .memc := ⟨by decide⟩
  have hstored : Kept ch (lineChecked s r crc hdr) (lineStored s r fr bytes crc hdr) :=
    Kept.ite (storeLine_kept (Kept.refl _ _) r fr bytes) (Kept.refl _ _)
  rw [rxOf_congr (hstored.parts .ports (by decide)), rxOf_congr ((lineChecked_kept s r crc hdr).parts .ports (by decide))]

theorem rd_storeLine_above (s : State) (r : Nat) (fr : CamFrame) (bytes : List Byte) {k : Nat} (hk : 0x600000 ≤ k) :
    rd (storeLine s r fr bytes) k = rd s k := by
  unfold storeLine
  split
  · rw [rd_ite, rd_winWr, rd_windowViolation_above _ _ _ hk, ite_self]
  · rfl

theorem rd_lineStored_above (s : State) (r : Nat) (fr : CamFrame) (bytes : List Byte) (crc : Bool) (hdr : Nat) {k : Nat}
    (hk : 0x600000 ≤ k) : rd (lineStored s r fr bytes crc hdr) k = rd (lineChecked s r crc hdr) k := by
  rw [lineStored, rd_ite, rd_storeLine_above _ _ _ _ hk, ite_self]

theorem rd_corrected_lineChecked (s : State) (r : Nat) (crc : Bool) (hdr : Nat) :
    rd (lineChecked s r crc hdr) (E.cam_HDR_CORRECTED r) =
      if hdr = 1 then satInc (rd s (E.cam_HDR_CORRECTED r)) 1 else rd s (E.cam_HDR_CORRECTED r) := by
  rw [lineChecked, rd_ite, rd_bump_ne _ (by simp [E.cam_HDR_CORRECTED, E.cam_CRC_ERRORS]), ite_self, rd_headerTaken_corrected]

theorem rd_crcErrors_lineChecked (s : State) (r : Nat) (crc : Bool) (hdr : Nat) : rd (lineChecked s r crc hdr) (E.cam_CRC_ERRORS r) =
    if crc then rd s (E.cam_CRC_ERRORS r) else satInc (rd s (E.cam_CRC_ERRORS r)) 1 := by
  rw [lineChecked, rd_ite, bump, bumpBy, rd_wr_same, rd_headerTaken_ne _ _ (by simp [E.cam_HDR_CORRECTED, E.cam_CRC_ERRORS])]

/-- A line that lies in the owner's window goes to its place in the ring. -/
theorem storeLine_inWindow {s : State} {r b : Nat} {fr : CamFrame} {o : CamOpen} {bytes : List Byte}
    (hopened : (rxOf s r).opened = some o) (hbuf : fr.buf = some b)
    (hinside : inWindow s o.client (o.base + o.stride * b + o.pitch * 64 * fr.lines)
      (storedLine (rd s (E.cam_DATA_TYPE r)) bytes).length = true) :
    storeLine s r fr bytes = winWr s o.client (o.base + o.stride * b + o.pitch * 64 * fr.lines)
      (storedLine (rd s (E.cam_DATA_TYPE r)) bytes) := by
  rw [storeLine, hopened, hbuf]
  exact if_pos hinside

/-- A good line lands in the ring, whether or not its CRC is counted as wrong. -/
theorem mem_lineStored {s : State} {r b : Nat} {fr : CamFrame} {o : CamOpen} {bytes : List Byte} (crc : Bool)
    (hopened : (rxOf s r).opened = some o) (hbuf : fr.buf = some b) (hfits : lineFits s r fr bytes = true)
    (hinside : inWindow s o.client (o.base + o.stride * b + o.pitch * 64 * fr.lines)
      (storedLine (rd s (E.cam_DATA_TYPE r)) bytes).length = true) :
    (lineStored s r fr bytes crc 0).mem = (winWr s o.client (o.base + o.stride * b + o.pitch * 64 * fr.lines)
      (storedLine (rd s (E.cam_DATA_TYPE r)) bytes)).mem := by
  rw [lineStored, if_pos hfits]
  cases crc with
  | true => rw [← storeLine_inWindow hopened hbuf hinside]; rfl
  | false =>
    have htype : rd (bump s (E.cam_CRC_ERRORS r)) (E.cam_DATA_TYPE r) = rd s (E.cam_DATA_TYPE r) :=
      rd_bump_ne s (by simp only [E.cam_DATA_TYPE, E.cam_CRC_ERRORS]; omega)
    have hstored := storeLine_inWindow (s := bump s (E.cam_CRC_ERRORS r)) hopened hbuf (by rw [htype]; exact hinside)
    rw [htype, bump, bumpBy, winWr_wr_above s _ (by simp only [E.cam_CRC_ERRORS]; omega)] at hstored
    exact (congrArg State.mem hstored :)

end Sys2Proof.Proofs
end

section
/-! SUPPORT. A frame that ends complete (R237, R241) and a camera that is lost (R241), and O45, a clause for each packet and each way that
a frame or a camera ends. -/

namespace Sys2Proof.Proofs

open Sys2Proof Sys2Proof.Machine Sys2Proof.Laws

/-! ### Doorbells (R61, R62) -/

theorem out_suffix_msixSend (s : State) (f v : Nat) : s.out <:+ (msixSend s f v).out := by
  unfold msixSend
  dsimp only
  split
  · exact List.suffix_refl _
  · exact List.suffix_cons ..

theorem msixSend_ports (s : State) (f v : Nat) : (msixSend s f v).ports = s.ports := by
  unfold msixSend
  dsimp only
  split <;> rfl

theorem out_suffix_claspIrq (s : State) (c : Nat) : s.out <:+ (claspIrq s c).out := by
  unfold claspIrq
  split
  · exact List.suffix_refl _
  · split
    · exact out_suffix_msixSend ..
    · exact List.suffix_refl _

theorem claspIrq_ports (s : State) (c : Nat) : (claspIrq s c).ports = s.ports := by
  unfold claspIrq
  split
  · rfl
  · split
    · exact msixSend_ports ..
    · rfl

theorem out_suffix_setEvent (s : State) (c bit : Nat) : s.out <:+ (setEvent s c bit).out := by
  unfold setEvent
  split
  · exact List.suffix_refl _
  · dsimp only
    split
    · exact out_suffix_claspIrq (setClasp ..) c
    · exact List.suffix_refl _

theorem setEvent_ports (s : State) (c bit : Nat) : (setEvent s c bit).ports = s.ports := by
  unfold setEvent
  split
  · rfl
  · dsimp only
    split
    · exact claspIrq_ports ..
    · rfl

/-! ### Lasting conditions (R111) -/

theorem rd_beginLasting_ne (s : State) (code b0 : Nat) {k : Nat} (hk : k ≠ E.err_ERROR_REGISTER) :
    rd (beginLasting s code b0) k = rd s k := rd_wr_ne _ _ hk

theorem rd_endLasting_ne (s : State) (code b0 : Nat) {k : Nat} (hregister : k ≠ E.err_ERROR_REGISTER)
    (hdropped : k ≠ E.comm_EMCY_DROPPED) : rd (endLasting s code b0) k = rd s k := by
  unfold endLasting
  split
  · dsimp only
    split
    · rw [rd_queueEmcy_ne _ _ hdropped, rd_wr_ne _ _ hregister]
      rfl
    · rw [rd_wr_ne _ _ hregister]
      rfl
  · rfl

theorem endLasting_kept_field (s : State) (code b0 : Nat) : Kept [.od, .field] s (endLasting s code b0) := by
  have hod : May [.od, .field] .od := ⟨by decide⟩
  have hfield : May [.od, .field] .field := ⟨by decide⟩
  exact endLasting_kept (Kept.refl _ s) code b0

theorem writeCamStatus_kept_mem (s : State) (r : Nat) : Kept [.mem, .memc] s (writeCamStatus s r) := by
  have hmem : May [.mem, .memc] .mem := ⟨by decide⟩
  have hmemc : May [.mem, .memc] .memc := ⟨by decide⟩
  exact writeCamStatus_kept (Kept.refl _ s) r

/-! ### A complete frame (R237, R241) -/

/-- The receiver's record after its open frame has ended complete. -/
def rxComplete (s : State) (r : Nat) (fr : CamFrame) : RxRec :=
  { rxOf s r with
    frame := none, newest := if fr.buf.isSome then fr.buf else (rxOf s r).newest, endTime := s.time,
    ends := s.time :: (rxOf s r).ends.filter (fun t => decide (s.time < t + secCounts)),
    done := (fr.seq :: (rxOf s r).done).take 2,
    opened := (rxOf s r).opened.map (fun o => { o with frames := (o.frames + 1) % 2 ^ 32 }) }

/-- The complete frame is counted, and the camera is receiving. -/
def frameCounted (s : State) (r : Nat) (fr : CamFrame) : State :=
  wr (bumpWrap (setRx s r (rxComplete s r fr)) (E.cam_FRAMES r)) (E.cam_STATE r) 2

/-- A loss of the camera ends with the frame. -/
def lossEnded (s : State) (r : Nat) (fr : CamFrame) : State :=
  if rd s (E.cam_STATE r) = 3 then endLasting (raise (frameCounted s r fr) .camResumed [(r : Int)]) 0xFF02 r else frameCounted s r fr

/-- The status record is written, and the client's doorbell of the camera is rung. -/
def clientTold (s : State) (r : Nat) (fr : CamFrame) : State :=
  match (rxOf s r).opened with
  | some o => setEvent (writeCamStatus (lossEnded s r fr) r) o.client 4
  | none => writeCamStatus (lossEnded s r fr) r

theorem frameComplete_eq (s : State) (r : Nat) (fr : CamFrame) :
    frameComplete s r fr = raise (clientTold s r fr) .camFrame [(r : Int)] := rfl

/-- What holds of the state with the status record written, and outlives the doorbell, holds in the end. -/
theorem clientTold_of {s : State} {r : Nat} {fr : CamFrame} {p : State → Prop} (hwritten : p (writeCamStatus (lossEnded s r fr) r))
    (hrung : ∀ t c, p t → p (setEvent t c 4)) : p (clientTold s r fr) := by
  unfold clientTold
  split
  · exact hrung _ _ hwritten
  · exact hwritten

theorem lossEnded_ports (s : State) (r : Nat) (fr : CamFrame) : (lossEnded s r fr).ports = (frameCounted s r fr).ports := by
  unfold lossEnded
  split
  · exact ((endLasting_kept_field ..).parts .ports (by decide)).trans (raise_ports ..)
  · rfl

theorem rxOf_clientTold (s : State) (r : Nat) (fr : CamFrame) : rxOf (clientTold s r fr) r = rxComplete s r fr := by
  have hports : (clientTold s r fr).ports = (frameCounted s r fr).ports :=
    clientTold_of (p := fun t => t.ports = (frameCounted s r fr).ports)
      (((writeCamStatus_kept_mem ..).parts .ports (by decide)).trans (lossEnded_ports s r fr))
      fun t c ht => (setEvent_ports t c 4).trans ht
  rw [rxOf_congr hports, frameCounted, rxOf_congr (wr_ports ..), bumpWrap, rxOf_congr (wr_ports ..), rxOf_setRx]

theorem rd_lossEnded (s : State) (r : Nat) (fr : CamFrame) {k : Nat} (hregister : k ≠ E.err_ERROR_REGISTER)
    (hdropped : k ≠ E.comm_EMCY_DROPPED) (hraise : ∀ t e args, rd (raise t e args) k = rd t k) :
    rd (lossEnded s r fr) k = rd (frameCounted s r fr) k := by
  rw [lossEnded, rd_ite, rd_endLasting_ne _ _ _ hregister hdropped, hraise, ite_self]

theorem rd_clientTold (s : State) (r : Nat) (fr : CamFrame) (k : Nat) : rd (clientTold s r fr) k = rd (lossEnded s r fr) k :=
  clientTold_of (p := fun t => rd t k = rd (lossEnded s r fr) k) (rd_congr ((writeCamStatus_kept_mem ..).parts .od (by decide)) k)
    fun t c ht => (rd_setEvent t c 4 k).trans ht

theorem rd_frameComplete_above (s : State) (r : Nat) (fr : CamFrame) {k : Nat} (hk : 0x340000 ≤ k) :
    rd (frameComplete s r fr) k = rd (frameCounted s r fr) k := by
  rw [frameComplete_eq, rd_raise_above _ _ _ hk, rd_clientTold, rd_lossEnded]
  · simp only [E.err_ERROR_REGISTER]; omega
  · simp only [E.comm_EMCY_DROPPED]; omega
  · exact fun t e args => rd_raise_above t e args hk

theorem rd_state_frameComplete (s : State) (r : Nat) (fr : CamFrame) : rd (frameComplete s r fr) (E.cam_STATE r) = 2 := by
  rw [rd_frameComplete_above _ _ _ (by simp only [E.cam_STATE]; omega), frameCounted, rd_wr_same]

theorem rd_frames_frameComplete (s : State) (r : Nat) (fr : CamFrame) :
    rd (frameComplete s r fr) (E.cam_FRAMES r) = (rd s (E.cam_FRAMES r) + 1) % 2 ^ 32 := by
  rw [rd_frameComplete_above _ _ _ (by simp only [E.cam_FRAMES]; omega), frameCounted,
    rd_wr_ne _ _ (by simp only [E.cam_FRAMES, E.cam_STATE]; omega), bumpWrap, rd_wr_same, rd_setRx]

theorem pdOn_frameCounted (s : State) (r : Nat) (fr : CamFrame) : pdOn (frameCounted s r fr) 2 = pdOn s 2 := by
  rw [frameCounted, pdOn_wr_above _ _ (by simp only [E.cam_STATE]; omega), bumpWrap,
    pdOn_wr_above _ _ (by simp only [E.cam_FRAMES]; omega)]
  rfl

theorem pdOn_clientTold (s : State) (r : Nat) (fr : CamFrame) : pdOn (clientTold s r fr) 2 = pdOn s 2 := by
  rw [pdOn, rd_clientTold, rd_lossEnded _ _ _ (by decide) (by decide) fun t e args => rd_raise steady_pdState t e args, ← pdOn,
    pdOn_frameCounted]

theorem frameComplete_on {s : State} (r : Nat) (fr : CamFrame) (hon : pdOn s 2 = true) :
    frameComplete s r fr = emit (clientTold s r fr) (.event false .camFrame [(r : Int)]) := by
  rw [frameComplete_eq, raise_on _ _ _ ((pdOn_clientTold s r fr).trans hon)]

/-- The first complete frame after a loss raises CAM_RESUMED. -/
theorem camResumed_mem_frameComplete {s : State} {r : Nat} (fr : CamFrame) (hlost : rd s (E.cam_STATE r) = 3) (hon : pdOn s 2 = true) :
    .event false .camResumed [(r : Int)] ∈ (frameComplete s r fr).out := by
  have hended : .event false .camResumed [(r : Int)] ∈ (lossEnded s r fr).out := by
    rw [lossEnded, if_pos hlost, (endLasting_kept_field ..).parts .out (by decide), raise_on _ _ _ ((pdOn_frameCounted s r fr).trans hon)]
    exact List.mem_cons_self
  rw [frameComplete_eq]
  refine (out_suffix_raise ..).mem (clientTold_of (p := fun t => .event false .camResumed [(r : Int)] ∈ t.out) ?_ fun t c ht =>
    (out_suffix_setEvent t c 4).mem ht)
  rwa [(writeCamStatus_kept_mem ..).parts .out (by decide)]

theorem lossEnded_ten (s : State) (r : Nat) (fr : CamFrame) : (lossEnded s r fr).ten = s.ten := by
  have hraise (t : State) (e : Ev) (args : List Int) : (raise t e args).ten = t.ten := by
    unfold raise
    split
    · rfl
    · split <;> rfl
  rw [lossEnded, apply_ite State.ten, (endLasting_kept_field ..).parts .ten (by decide), hraise, ite_self]
  rfl

/-- A complete frame rings its client's doorbell 4 (R61, R237). -/
theorem event_frameComplete {s : State} {r : Nat} {fr : CamFrame} {o : CamOpen} (hopened : (rxOf s r).opened = some o)
    (hon : pdOn s 2 = true) (hreset : resettingClient s o.client = false) :
    bitOf (claspOf (frameComplete s r fr) o.client).event 4 = true := by
  have htold : clientTold s r fr = setEvent (writeCamStatus (lossEnded s r fr) r) o.client 4 := by simp only [clientTold, hopened]
  have hwritten : resettingClient (writeCamStatus (lossEnded s r fr) r) o.client = false := by
    have hkept := (writeCamStatus_kept_mem (lossEnded s r fr) r).parts
    rw [resettingClient_congr_guests ((hkept .ten (by decide)).trans (lossEnded_ten s r fr)), hreset]
    intro k hlow hhigh
    rw [rd_congr (hkept .od (by decide)), rd_lossEnded, frameCounted, rd_wr_ne _ _ (by simp only [E.cam_STATE]; omega), bumpWrap,
      rd_wr_ne _ _ (by simp only [E.cam_FRAMES]; omega), rd_setRx]
    · simp only [E.err_ERROR_REGISTER]; omega
    · simp only [E.comm_EMCY_DROPPED]; omega
    · exact fun t e args => rd_raise_above t e args (by omega)
  rw [frameComplete_on r fr hon, claspOf_congr (emit_clasp ..), htold, event_setEvent hwritten, bitOf_setBit_true]

/-! ### Frame Ends and gaps (R233, R237) -/

theorem csiFrameEnd_lost {s : State} {r : Nat} (hon : rxOn s r = true) (vc num : Nat) : csiFrameEnd s r vc num 2 = headerLost s r := by
  rw [csiFrameEnd, if_neg (not_not_intro hon), csiHeader_lost]
  rfl

theorem csiFrameEnd_stranger {s : State} {r vc : Nat} (hon : rxOn s r = true) (hvc : vc ≠ rd s (E.cam_VC r)) (num : Nat) :
    csiFrameEnd s r vc num 0 = bump s (E.cam_DISCARDED r) := by
  rw [csiFrameEnd, if_neg (not_not_intro hon), csiHeader_stranger hvc]
  rfl

theorem csiFrameEnd_taken {s : State} {r hdr : Nat} {fr : CamFrame} (hon : rxOn s r = true) (hhdr : hdr ≠ 2)
    (hframe : (rxOf s r).frame = some fr) (num : Nat) :
    csiFrameEnd s r (rd s (E.cam_VC r)) num hdr =
      if fr.ok ∧ fr.lines = rd s (E.cam_HEIGHT r) ∧ fr.num = num then frameComplete (headerTaken s r hdr) r fr
      else closeIncomplete (headerTaken s r hdr) r := by
  rw [csiFrameEnd, if_neg (not_not_intro hon), csiHeader_taken s r hhdr]
  simp only [not_true_eq_false, if_false, rxOf_headerTaken, hframe]

theorem csiFrameEnd_noFrame {s : State} {r : Nat} (hnone : rxOn s r = false ∨ (rxOf s r).frame = none) (num : Nat) :
    csiFrameEnd s r (rd s (E.cam_VC r)) num 0 = s := by
  by_cases hon : rxOn s r = true
  · have hframe : (rxOf s r).frame = none := hnone.resolve_left (by simp [hon])
    rw [csiFrameEnd, if_neg (not_not_intro hon), csiHeader_taken s r (by decide)]
    simp only [not_true_eq_false, if_false, rxOf_headerTaken, hframe]
    rfl
  · exact if_pos hon

/-! ### The loss of a camera (R241) -/

/-- The loss is counted and reported. -/
def lossCounted (s : State) (r : Nat) : State := raise (bump (wr s (E.cam_STATE r) 3) (E.cam_LOSSES r)) .camLost [(r : Int)]

/-- A receiver in slice mode is arming again, and its facets' runs of frames in phase start anew. -/
def slicesRearmed (s : State) (r : Nat) : State :=
  let s1 := if rd s (E.cam_SLICE_STATE r) = 0 then s else wr s (E.cam_SLICE_STATE r) 1
  (rxFacets s1 r).foldl (fun t p =>
    let y := facetOf t p.1 p.2
    setFacet t p.1 p.2 { y with slice := y.slice.map (fun sl => { sl with count := 0 }) }) s1

/-- The emergency message of the loss and the status record are written. -/
def lossReported (s : State) (r : Nat) : State :=
  writeCamStatus (slicesRearmed (lastingEmcy (lossCounted s r) 0xFF02 r 0) r) r

theorem camLossTimeout_lost {s : State} {r : Nat} (hruns : rd s (E.cam_STATE r) = 2 ∨ (rd s (E.cam_STATE r) = 1 ∧
    (rxOf s r).opened.isSome = true)) :
    camLossTimeout s r =
      if rd (lossReported s r) (E.cam_SUBST_MODE r) = 1 then
        raiseTrusted (lossReported s r) .camNotice ((r : Int) :: (rxOf (lossReported s r) r).attached.map (fun (n : Nat) => (n : Int)))
      else lossReported s r := if_pos hruns

theorem slicesRearmed_kept {ch : List Part} [May ch .od] [May ch .compose] {r0 s : State} (h : Kept ch r0 s) (r : Nat) :
    Kept ch r0 (slicesRearmed s r) :=
  Kept.foldl (fun _ _ ht => setFacet_kept ht ..) (Kept.ite h (h.wr _ _))

theorem rd_slicesRearmed_ne (s : State) {r k : Nat} (hk : k ≠ E.cam_SLICE_STATE r) : rd (slicesRearmed s r) k = rd s k := by
  unfold slicesRearmed
  dsimp only
  rw [rd_foldl fun t p _ => rd_setFacet .., rd_ite, rd_wr_ne _ _ hk, ite_self]

/-- What reports the loss sends nothing and leaves the receivers as they were. -/
theorem lossReported_kept (s : State) (r : Nat) : Kept [.od, .mem, .field, .compose, .memc] (lossCounted s r) (lossReported s r) := by
  let ch : List Part := [.od, .mem, .field, .compose, .memc]
  have hod : May ch .od := ⟨by decide⟩
  have hmem : May ch .mem := ⟨by decide⟩
  have hfield : May ch .field := ⟨by decide⟩
  have hcompose : May ch .compose := ⟨by decide⟩
  have hmemc : May ch .memc := ⟨by decide⟩
  have hemcy : Kept ch (lossCounted s r) (lastingEmcy (lossCounted s r) 0xFF02 r 0) := lastingEmcy_kept (Kept.refl _ _) ..
  exact writeCamStatus_kept (slicesRearmed_kept hemcy r) r

theorem rd_lossReported (s : State) {r k : Nat} (hk : 0x340000 ≤ k) (hslice : k ≠ E.cam_SLICE_STATE r) :
    rd (lossReported s r) k = rd (bump (wr s (E.cam_STATE r) 3) (E.cam_LOSSES r)) k := by
  rw [lossReported, rd_congr ((writeCamStatus_kept_mem ..).parts .od (by decide)), rd_slicesRearmed_ne _ hslice, lastingEmcy, rd_emcy_ne,
    rd_beginLasting_ne, lossCounted, rd_raise_above _ _ _ hk]
  · simp only [E.err_ERROR_REGISTER]; omega
  · simp only [E.comm_EMCY_DROPPED]; omega

theorem rd_state_lossReported (s : State) (r : Nat) : rd (lossReported s r) (E.cam_STATE r) = 3 := by
  rw [rd_lossReported, rd_bump_ne, rd_wr_same] <;>
  · simp only [E.cam_STATE, E.cam_LOSSES, E.cam_SLICE_STATE]
    omega

theorem rd_losses_lossReported (s : State) (r : Nat) : rd (lossReported s r) (E.cam_LOSSES r) = satInc (rd s (E.cam_LOSSES r)) 1 := by
  rw [rd_lossReported, bump, bumpBy, rd_wr_same, rd_wr_ne] <;>
  · simp only [E.cam_STATE, E.cam_LOSSES, E.cam_SLICE_STATE]
    omega

theorem rd_substMode_lossReported (s : State) (r : Nat) : rd (lossReported s r) (E.cam_SUBST_MODE r) = rd s (E.cam_SUBST_MODE r) := by
  rw [rd_lossReported, rd_bump_ne, rd_wr_ne] <;>
  · simp only [E.cam_STATE, E.cam_LOSSES, E.cam_SLICE_STATE, E.cam_SUBST_MODE]
    omega

theorem rxOf_lossReported (s : State) (r : Nat) : rxOf (lossReported s r) r = rxOf s r := by
  rw [rxOf_congr ((lossReported_kept s r).parts .ports (by decide)), lossCounted, rxOf_congr (raise_ports ..)]
  rfl

theorem camLost_mem_lossReported {s : State} (r : Nat) (hon : pdOn s 2 = true) :
    .event false .camLost [(r : Int)] ∈ (lossReported s r).out := by
  have hpower : pdOn (bump (wr s (E.cam_STATE r) 3) (E.cam_LOSSES r)) 2 = true := by
    rw [pdOn_bump_above, pdOn_wr_above, hon] <;>
    · simp only [E.cam_STATE, E.cam_LOSSES]
      omega
  rw [(lossReported_kept s r).parts .out (by decide), lossCounted, raise_on _ _ _ hpower]
  exact List.mem_cons_self

/-! ### The clauses -/

/-- Settles O45: a lost header is `headerLost`, a stranger's packet is counted, and a packet that is taken opens, extends, completes or
gives up a frame. -/
theorem cameraFramesAndLosses : Obligations.CameraFramesAndLosses := by
  refine ⟨⟨?starts, ?startsCorrected, ?startsOver, ?startLost, ?startStranger, ?startOff⟩,
    ⟨?line, ?lineInRing, ?lineLost, ?lineStranger, ?lineOff⟩, ⟨?completes, ?fails, ?endLost, ?endStranger, ?endNone⟩, ⟨?gap, ?gapNone⟩,
    ?lost, ?lostNone⟩
  case starts =>
    intro s r n hon hframe
    rw [exec_csiFrameStart, execCsiFrameStart]
    exact congrArg _ ((csiFrameStart_taken hon (by decide) n).trans (congrArg (frameOpened · r.val n) (closeIncomplete_none hframe)))
  case startsCorrected =>
    intro s r n hon hframe
    have hclosed : closeIncomplete (headerTaken s r.val 1) r.val = bump s (E.cam_HDR_CORRECTED r.val) :=
      closeIncomplete_none (s := bump s (E.cam_HDR_CORRECTED r.val)) hframe
    refine ⟨frameOpened (bump s (E.cam_HDR_CORRECTED r.val)) r.val n, ?_, rxOf_setRx .., rd_wr_same .., fun k hk => ?_⟩
    · rw [exec_csiFrameStart, execCsiFrameStart, ← hclosed]
      exact congrArg _ (csiFrameStart_taken hon (by decide) n)
    · rw [frameOpened, rd_setRx, rd_bump_ne _ (List.ne_of_not_mem_cons hk)]
  case startsOver =>
    intro s r n hdr fr hon hhdr hframe hpower
    rw [← rxOf_headerTaken s r.val hdr.val] at hframe
    rw [← pdOn_headerTaken s r.val hdr.val] at hpower
    refine ⟨frameOpened (closeIncomplete (headerTaken s r.val hdr.val) r.val) r.val n, ?_, ?_,
      camIncomplete_mem_closeIncomplete hframe hpower, ?_, ?_⟩
    · rw [exec_csiFrameStart, execCsiFrameStart, csiFrameStart_taken hon hhdr]
    · rw [frameOpened, rd_setRx, rd_incomplete_closeIncomplete hframe,
        rd_headerTaken_ne _ _ (by simp [E.cam_INCOMPLETE, E.cam_HDR_CORRECTED])]
    · rw [frameOpened, rxOf_setRx]
      rfl
    · rw [frameOpened, rxOf_setRx, rxOf_closeIncomplete hframe, rxOf_headerTaken]
  case startLost =>
    intro s r vc n hon
    exact ⟨_, congrArg Host.Outcome.next (csiFrameStart_lost hon vc n), headerLost_effect s r.val⟩
  case startStranger =>
    intro s r vc n hon hvc
    exact congrArg _ (csiFrameStart_stranger hon hvc n)
  case startOff =>
    intro s r vc n hdr hoff
    exact congrArg _ (if_pos (by simp [hoff]))
  case line =>
    intro s r bs crc hdr fr hon hhdr hframe
    refine ⟨lineArrived (lineStored s r.val fr bs crc hdr.val) r.val fr (fr.ok && crc && lineFits s r.val fr bs), ?_, ?_, ?_, ?_⟩
    · rw [exec_csiLinePacket, execCsiLinePacket, csiLinePacket_taken hon hhdr hframe]
    · rw [lineArrived, rxOf_setRx, rxOf_lineStored]
    · rw [lineArrived, rd_setRx, rd_lineStored_above, rd_corrected_lineChecked]
      simp only [E.cam_HDR_CORRECTED]
      omega
    · rw [lineArrived, rd_setRx, rd_lineStored_above, rd_crcErrors_lineChecked]
      simp only [E.cam_CRC_ERRORS]
      omega
  case lineInRing =>
    intro s r bs crc fr o b hon hframe hopened hbuf hfits hinside
    exact ⟨_, congrArg Host.Outcome.next (csiLinePacket_taken (hdr := 0) hon (by decide) hframe bs crc),
      mem_lineStored crc hopened hbuf hfits hinside⟩
  case lineLost =>
    intro s r vc dt bs crc hon
    exact ⟨_, congrArg Host.Outcome.next (csiLinePacket_lost hon vc dt bs crc), headerLost_effect s r.val⟩
  case lineStranger =>
    intro s r vc dt bs crc hon hstranger
    exact congrArg _ (csiLinePacket_stranger hon hstranger bs crc)
  case lineOff =>
    intro s r vc dt bs crc hdr hoff
    exact congrArg _ (if_pos (by simp [hoff]))
  case completes =>
    intro s r fr hdr hon hhdr hframe hok hlines hpower
    have hends : csiFrameEnd s r.val (rd s (E.cam_VC r.val)) fr.num hdr.val = frameComplete (headerTaken s r.val hdr.val) r.val fr := by
      rw [csiFrameEnd_taken hon hhdr hframe, if_pos ⟨hok, hlines, rfl⟩]
    have hstate : rd (headerTaken s r.val hdr.val) (E.cam_STATE r.val) = rd s (E.cam_STATE r.val) :=
      rd_headerTaken_ne _ _ (by simp [E.cam_STATE, E.cam_HDR_CORRECTED])
    rw [← pdOn_headerTaken s r.val hdr.val] at hpower
    have hrx : rxOf (frameComplete (headerTaken s r.val hdr.val) r.val fr) r.val = rxComplete (headerTaken s r.val hdr.val) r.val fr := by
      rw [frameComplete_on _ _ hpower, rxOf_congr (emit_ports ..), rxOf_clientTold]
    refine ⟨frameComplete (headerTaken s r.val hdr.val) r.val fr, by rw [exec_csiFrameEnd, execCsiFrameEnd, hends], ?_, ?_, ?_,
      rd_state_frameComplete .., ?_, ?_, ?_, ?_, ?_⟩
    · rw [hrx]
      rfl
    · rw [hrx, rxComplete, rxOf_headerTaken]
    · rw [hrx]
      exact (headerTaken_kept s r.val hdr.val).parts .time (by decide)
    · rw [rd_frames_frameComplete, rd_headerTaken_ne _ _ (by simp [E.cam_FRAMES, E.cam_HDR_CORRECTED])]
    · rw [frameComplete_on _ _ hpower]
      exact List.mem_cons_self
    · exact fun hlost => camResumed_mem_frameComplete fr (hstate.trans hlost) hpower
    · rw [rd_frameComplete_above _ _ _ (by simp only [E.cam_HDR_CORRECTED]; omega), frameCounted,
        rd_wr_ne _ _ (by simp [E.cam_STATE, E.cam_HDR_CORRECTED]), bumpWrap,
        rd_wr_ne _ _ (by simp [E.cam_FRAMES, E.cam_HDR_CORRECTED]), rd_setRx, rd_headerTaken_corrected]
    · intro o hopened hreset
      refine event_frameComplete (by rwa [rxOf_headerTaken]) hpower ?_
      rw [resettingClient_congr_guests ((headerTaken_kept s r.val hdr.val).parts .ten (by decide)), hreset]
      exact fun k _ hk => rd_headerTaken_ne _ _ (by simp only [E.cam_HDR_CORRECTED]; omega)
  case fails =>
    intro s r n hdr fr hon hhdr hframe hbad hpower
    have hincomplete : ¬(fr.ok = true ∧ fr.lines = rd s (E.cam_HEIGHT r.val) ∧ fr.num = n) := by
      rintro ⟨hok, hlines, hnum⟩
      rcases hbad with h | h | h
      · simp [h] at hok
      · exact h hlines
      · exact h hnum
    have hends : csiFrameEnd s r.val (rd s (E.cam_VC r.val)) n hdr.val = closeIncomplete (headerTaken s r.val hdr.val) r.val := by
      rw [csiFrameEnd_taken hon hhdr hframe, if_neg hincomplete]
    rw [← rxOf_headerTaken s r.val hdr.val] at hframe
    refine ⟨closeIncomplete (headerTaken s r.val hdr.val) r.val, by rw [exec_csiFrameEnd, execCsiFrameEnd, hends], ?_, ?_, ?_, ?_⟩
    · rw [rxOf_closeIncomplete hframe]
    · rw [rxOf_closeIncomplete hframe, rxOf_headerTaken]
    · rw [rd_incomplete_closeIncomplete hframe, rd_headerTaken_ne _ _ (by simp [E.cam_INCOMPLETE, E.cam_HDR_CORRECTED])]
    · rw [rd_closeIncomplete hframe, rd_bump_ne, rd_headerTaken_ne] <;>
      · simp only [E.cam_FRAMES, E.cam_INCOMPLETE, E.cam_HDR_CORRECTED, E.cam_SLICE_STATE, E.cam_SLICE_MISSES]
        omega
  case endLost =>
    intro s r vc n hon
    exact ⟨_, congrArg Host.Outcome.next (csiFrameEnd_lost hon vc n), headerLost_effect s r.val⟩
  case endStranger =>
    intro s r vc n hon hvc
    exact congrArg _ (csiFrameEnd_stranger hon hvc n)
  case endNone =>
    intro s r n hnone
    exact congrArg _ (csiFrameEnd_noFrame hnone n)
  case gap =>
    intro s r fr hon hframe hpower
    have hgap : csiPacketGap s r.val = closeIncomplete s r.val := if_pos hon
    refine ⟨closeIncomplete s r.val, by rw [exec_csiPacketGap, execCsiPacketGap, hgap], ?_, rd_incomplete_closeIncomplete hframe,
      camIncomplete_mem_closeIncomplete hframe hpower, ?_⟩
    · rw [rxOf_closeIncomplete hframe]
    · intro o hopened
      rw [rxOf_closeIncomplete hframe, hopened]
      rfl
  case gapNone =>
    intro s r hnone
    rw [exec_csiPacketGap, execCsiPacketGap, csiPacketGap]
    rcases hnone with hoff | hframe
    · rw [if_neg (by simp [hoff])]
    · rw [closeIncomplete_none hframe, ite_self]
  case lost =>
    intro s r hruns hpower
    have hlost := camLossTimeout_lost hruns
    rw [rd_substMode_lossReported, rxOf_lossReported] at hlost
    refine ⟨camLossTimeout s r.val, exec_camLossTimeout .., ?_⟩
    by_cases hmode : rd s (E.cam_SUBST_MODE r.val) = 1
    · rw [hlost, if_pos hmode, raiseTrusted, rd_emit, rd_emit]
      exact ⟨rd_state_lossReported s r.val, rd_losses_lossReported s r.val, .tail _ (camLost_mem_lossReported r.val hpower), fun _ => rfl⟩
    · rw [hlost, if_neg hmode]
      exact ⟨rd_state_lossReported s r.val, rd_losses_lossReported s r.val, camLost_mem_lossReported r.val hpower, fun h => absurd h hmode⟩
  case lostNone =>
    intro s r hnone
    refine congrArg _ (if_neg ?_)
    rintro (hstate | ⟨hstate, hopened⟩)
    · omega
    · rcases hnone with h | h | ⟨-, h⟩
      · omega
      · omega
      · simp [h] at hopened

end Sys2Proof.Proofs
end

section
/-! SUPPORT. What every command keeps: the next state that a command answers, if it answers one, has the engraving of the state before
(R243), for a command is a chain of the operations of Laws/Kept*.lean. -/

namespace Sys2Proof.Proofs

open Sys2Proof Sys2Proof.Machine Sys2Proof.Laws

/-- The next state of an outcome, if it has one, keeps what `Kept` names of `r`. -/
def KeptNext (ch : List Part) (r : State) (o : Host.Outcome State Fault Refusal) : Prop := ∀ t, o = .next t → Kept ch r t

theorem KeptNext.next {ch : List Part} {r t : State} (h : Kept ch r t) : KeptNext ch r (.next t) := by
  rintro _ ⟨⟩
  exact h

theorem KeptNext.fault {ch : List Part} {r : State} (f : Fault) : KeptNext ch r (.fault f) := by rintro _ ⟨⟩

theorem KeptNext.ite {ch : List Part} {r : State} {a b : Host.Outcome State Fault Refusal} {c : Prop} [Decidable c]
    (ha : KeptNext ch r a) (hb : KeptNext ch r b) : KeptNext ch r (if c then a else b) := by
  split
  · exact ha
  · exact hb

theorem kept_fst {ch : List Part} {r s : State} {α : Type} {a : α} (h : Kept ch r s) : Kept ch r (s, a).1 := h

section

/-! ### Commands that may change every part -/

variable {chg : List Part} [∀ p, May chg p] {r s : State}

/-- Beside the queue of commands, the engraving, the dictionary, the DRAM and the EtherCAT state, anything may change. -/
theorem anyPart_kept {t : State} (h : Kept chg r s) (hpending : t.pending = s.pending := by rfl)
    (hengraving : t.cameo.engraving = s.cameo.engraving := by rfl) (hod : t.od = s.od := by rfl) (hdom : t.dom = s.dom := by rfl)
    (hmem : t.mem = s.mem := by rfl) (hal : t.field.al = s.field.al := by rfl) : Kept chg r t where
  pending := hpending.trans h.pending
  engraving := hengraving.trans h.engraving
  wf w := by rw [Memory.wf, hod, hdom, hmem]; exact h.wf w
  al l := by rw [legalAl, hal]; exact h.al l
  parts p hp := absurd May.mem hp

theorem dramRequest_keptNext (h : Kept chg r s) (q : DramReq) (data : Option (List Byte)) : KeptNext chg r (dramRequest s q data) :=
  .ite (.next h) (.ite (.fault _) (.ite (.next h) (.next (dramEnter_kept h ..))))

theorem coreRequest_keptNext (h : Kept chg r s) (k : Nat) (gate fetch : Bool) (q : DramReq) (data : Option (List Byte)) :
    KeptNext chg r (coreRequest s k gate fetch q data) := by
  refine .ite (.next h) ?_
  refine List.foldlRecOn _ _ (.next h) fun o ho b _ => ?_
  cases o with
  | next t =>
    dsimp only
    split
    next u hu => exact .next (cacheBlock_kept (ho t rfl) hu)
    · exact .ite (dramRequest_keptNext (ho t rfl) _ _) (dramRequest_keptNext (ho t rfl) _ _)
  | fault => exact .fault _
  | refused => exact ho

/-- A DRAM request, a core's or another's. -/
theorem memRequest_keptNext (h : Kept chg r s) (q : DramReq) (data : Option (List Byte)) : KeptNext chg r (memRequest s q data) := by
  unfold memRequest
  split
  · exact coreRequest_keptNext h _ _ _ _ _
  · exact dramRequest_keptNext h _ _

/-- Every command keeps what `Kept` names. -/
theorem exec_keptNext (h : Kept chg r s) (i : Instr) : KeptNext chg r (exec i s) := by
  cases i with
  | pcieConfigRequest _ _ => exact .next (.ite (configServe_kept h ..) (send_kept h ..))
  | numvfsWrite _ => exact .next (.ite (numVfsWrite_kept h ..) (send_kept h ..))
  | functionLevelReset _ => exact .next (.ite (guestReset_kept h ..) h)
  | carveOutZeroed _ => exact .next (carveZeroed_kept h ..)
  | bar4Read _ _ _ => exact .next (bar4Read_kept h ..)
  | bar4Write _ _ _ => exact .next (bar4Write_kept h ..)
  | violationLogged => exact .next (violationLogged_kept h ..)
  | violationRingClear _ _ | charmsWrite _ _ _ _ | imageWrite _ _ _ | directAddrWrite _ _ _ _ _ | memLogClear _ _
  | trustedDictWrite _ _ _ | unlockMaskWrite _ _ | unlockResponseWrite _ _ | nonceWrite _ _ | xingLogClear _ _ | supplyLogClear _ _ =>
    exact .next (writeBytes_kept h ..)
  | resetClient _ _ _ | commit _ | checkOnly _ | discard _ | storeAll _ | storeComm _ | storeApp _ | restoreAll _ | restoreComm _
  | restoreApp _ | imageCheck _ | imageCommit _ | imageCommitStore _ | errorHistoryClear _ | selftest _ _ | capture _ _ | calibrate _ _
  | trustedDictCommit | deepSleep _ | epochNow _ | maintWindow _ _ => exact .next (writeNum_kept h ..)
  | clientResetDone _ => exact .next (clientResetDone_kept h ..)
  | arbiterDecision a =>
    cases a with
    | clients => exact .next (decideClients_kept h ..)
    | guests => exact .next (decideGuests_kept h ..)
    | classes => exact .next (decideClasses_kept h ..)
  | budgetWindowEnd _ => exact .next (windowEnd_kept h ..)
  | claspGo _ _ | claspWrite _ _ _ _ | eventClear _ _ _ | claspModeWrite _ _ _ | dqPush _ _ _ => exact .next (bar0Write_kept h ..)
  | stage1Refusal _ =>
    refine .next ?_
    split
    · exact .ite h (finishTaken_kept (takeByHardware_kept h ..) ..)
    · exact h
  | claspTake =>
    refine .next (.ite ?_ h)
    split
    · exact advanceTake_kept (takeByFirmware_kept h ..) ..
    · exact h
  | claspComplete _ =>
    refine .next ?_
    split
    · exact .ite h (finishTaken_kept h ..)
    · exact h
  | msixUnmask _ _ =>
    refine .ite (.next (.ite ?_ ?_)) (.next h)
    · exact msixSend_kept (setPort_kept h ..) ..
    · exact setPort_kept h ..
  | resultHeaderRead _ _ _ _ | discardsRead _ _ | dqPop _ _ => exact .next (bar0Read_kept h ..)
  | delbelResponse _ =>
    refine .next ?_
    split
    · exact .ite (finishTaken_kept h ..) h
    · exact h
  | nop _ | identify _ => exact .next (serve_kept h (fun _ => ok_kept h ..) ..)
  | echo _ => exact .next (serve_kept h (fun _ => .ite (fail_kept h ..) (ok_kept h ..)) ..)
  | internalClaspGo _ _ => exact .next (.ite (iclGo_kept h ..) h)
  | internalClaspTake _ => exact .next (iclTake_kept h ..)
  | dictPortRead _ | dictPortWrite _ => exact .next (portCommand_kept h ..)
  | dictPortDone _ => exact .next (portDone_kept h ..)
  | portDiscardsRead _ _ _ => exact .next (bar2Read_kept h ..)
  | registerWrite _ => exact .next (registerWrite_kept h ..)
  | sdoDownload _ _ _ _ | sdoUpload _ _ _ => exact .next (.ite (arrive_kept h ..) h)
  | commitStart => exact .next (commitStart_kept h ..)
  | commitChecksEnd => exact .next (commitChecksEnd_kept h ..)
  | entryTakesEffect _ _ => exact .next (entryTakesEffect_kept h ..)
  | commitDone => exact .next (commitDone_kept h ..)
  | storeDone => exact .next (storeDone_kept h ..)
  | imageActionEnd => exact .next (imageActionEnd_kept h ..)
  | alStateRequest _ => exact .next (alRequest_kept h ..)
  | alStateConfirm => exact .next (alConfirm_kept h ..)
  | sm2WatchdogExpiry => exact .next (sm2Watchdog_kept h ..)
  | escResetSequence _ _ _ => exact .next (.ite (resetBy_kept h _ fun _ => id) h)
  | miiLinkChange _ _ | hoursPersist | jtagTapReset => exact .next (anyPart_kept h)
  | sync0 _ => exact .next (sync0_kept (anyPart_kept h) ..)
  | sm2BufferComplete _ => exact .next (bufferComplete_kept h ..)
  | freeRunOutputTake => exact .next (freeRun_kept h ..)
  | alarmTimeout => exact .next (alarmTimeout_kept h ..)
  | sync0Stamp _ => exact .next (sync0Stamp_kept h ..)
  | nmtStart _ | nmtStop _ | nmtEnterPreop _ => exact .next (nmtTo_kept h ..)
  | nmtResetNode _ | nmtResetComm _ => exact .next (nmtReset_kept h ..)
  | heartbeat _ => exact .next (heartbeat_kept h ..)
  | canSync _ => exact .next (canSync_kept h ..)
  | rpdoReceive _ _ _ => exact .next (rpdoReceive_kept h ..)
  | tpdoTransmit _ _ _ => exact .next (tpdoTransmit_kept h ..)
  | canBusOffRecovered _ => exact .next (busOffRecovered_kept h ..)
  | canErrorPassive _ => exact .next (errorPassive_kept h ..)
  | canOverrun _ => exact .next (.ite (emcy_kept h ..) h)
  | emcySend => exact .next (emcySend_kept h ..)
  | foeWriteDict _ _ _ => exact .next (.ite (foeDict_kept h ..) (foeUnknown_kept h ..))
  | foeReadStored _ _ => exact .next (.ite (foeStored_kept h ..) (foeUnknown_kept h ..))
  | foeReadHallmark _ => exact .next (foeHallmark_kept h ..)
  | foeWriteOpenImage _ _ | foeWriteTrustedImage _ _ => exact .next (foeFirmware_kept h ..)
  | foeBusy => exact .next (foeBusy_kept h ..)
  | firmwareVerified => exact .next (firmwareVerified_kept h ..)
  | ctxCreate _ => exact .next (serve_kept h (fun _ => ctxCreate_kept h ..) ..)
  | ctxDestroy _ => exact .next (serve_kept h (fun _ => .ite (leaveRender_kept h ..) (fail_kept h ..)) ..)
  | submit _ => exact .next (serve_kept h (fun _ => submit_kept h ..) ..)
  | query _ | cquery _ =>
    refine .next (serve_kept h (fun _ => ?_) ..)
    split
    · exact fail_kept h ..
    · exact ok_kept h ..
  | cctxCreate _ => exact .next (serve_kept h (fun _ => cctxCreate_kept h ..) ..)
  | cctxDestroy _ => exact .next (serve_kept h (fun _ => .ite (leaveCompute_kept h ..) (fail_kept h ..)) ..)
  | dispatch _ => exact .next (serve_kept h (fun _ => dispatch_kept h ..) ..)
  | contextRemoved _ kind =>
    cases kind with
    | render => exact .next (removeRender_kept h ..)
    | compute => exact .next (removeCompute_kept h ..)
  | corePickUnit _ => exact .next (corePickUnit_kept h ..)
  | binningEnd _ => exact .next (binningEnd_kept h ..)
  | partialStart _ => exact .next (partialStart_kept h ..)
  | partialDone _ => exact .next (partialDone_kept h ..)
  | tileDispatch _ _ => exact .next (tileDispatch_kept h ..)
  | tileReload _ _ => exact .next (tileReload_kept h ..)
  | tilePassEnd _ _ => exact .next (tilePassEnd_kept h ..)
  | flushAcknowledged _ _ => exact .next (flushAcknowledged_kept h ..)
  | renderDone _ => exact .next (renderDone_kept h ..)
  | fenceSignal _ kind =>
    cases kind with
    | render => exact .next (fenceRender_kept h ..)
    | compute => exact .next (fenceCompute_kept h ..)
  | pxLd _ _ _ | pxSt _ _ _ | pxRel _ _ _ | pxKill _ _ _ => exact .next (pxExec_kept h ..)
  | pixelInterlockGrant _ _ _ => exact .next (interlockGrant_kept h ..)
  | hartEcall _ _ => exact .next (hartEcall_kept h ..)
  | ebreak _ _ _ => exact .next (hartEbreak_kept h ..)
  | ctxFault _ => exact .next (ctxFault_kept h ..)
  | tileEccError _ _ _ => exact .next (tileEcc_kept h ..)
  | quadDrained _ => exact .next (quadDrained_kept h ..)
  | workgroupEnd _ => exact .next (workgroupEnd_kept h ..)
  | workgroupYield _ => exact .next (workgroupYield_kept h ..)
  | wgSaved _ => exact .next (wgSaved_kept h ..)
  | workgroupRestored _ => exact .next (workgroupRestored_kept h ..)
  | tileOverrun _ => exact .next (tileOverrun_kept h ..)
  | governorEvaluate _ _ => exact .next (governorEvaluate_kept h ..)
  | flip _ => exact .next (serve_kept h (fun _ => flipSent_kept h ..) ..)
  | flipGroup _ => exact .next (serve_kept h (fun _ => flipGroupReq_kept h ..) ..)
  | motion _ => exact .next (serve_kept h (fun _ => .ite (fail_kept h ..) (ok_kept (anyPart_kept h) ..)) ..)
  | release _ => exact .next (serve_kept h (fun _ => releaseReq_kept h ..) ..)
  | flipStatus _ => exact .next (serve_kept h (fun _ => flipStatusReq_kept h ..) ..)
  | wbStart _ => exact .next (serve_kept h (fun _ => wbStartReq_kept h ..) ..)
  | wbStop _ => exact .next (serve_kept h (fun _ => wbStopReq_kept h ..) ..)
  | wbFrame _ => exact .next (wbFrame_kept h ..)
  | headLineStart _ _ _ => exact .next (headLineStart_kept h ..)
  | lineFetchComplete _ => exact .next (reportTolerance_kept h ..)
  | headLatch _ => exact .next (headLatch_kept h ..)
  | headFrame _ => exact .next (headFrame_kept h ..)
  | headVblank _ => exact .next (headVblank_kept h ..)
  | teEdge _ _ => exact .next (teEdge_kept h ..)
  | teTimeout _ => exact .next (teTimeout_kept h ..)
  | timingChangeImmediate _ => exact .next (timingImmediate_kept h ..)
  | timingChangeClean _ => exact .next (timingClean_kept h ..)
  | headEnable _ => exact .next (headEnable_kept h ..)
  | headDisable _ => exact .next (headDisable_kept h ..)
  | routeChange _ => exact .next (routeChange_kept h ..)
  | lockStampTimeout _ => exact .next (lockTimeout_kept h ..)
  | portBringupStart _ => exact .next (portBringupStart_kept h ..)
  | hpdStable _ => exact .next (hpdStable_kept h ..)
  | portReady _ => exact .next (portReady_kept h ..)
  | portLinkFail _ => exact .next (portLinkFail_kept h ..)
  | portRetry _ => exact .next (portRetry_kept h ..)
  | hpdLow _ => exact .next (hpdLow_kept h ..)
  | irqHpd _ _ => exact .next (irqHpd_kept h ..)
  | linkStatusPoll _ _ => exact .next (linkStatusPoll_kept h ..)
  | csiFrameStart _ _ _ _ => exact .next (csiFrameStart_kept h ..)
  | csiLinePacket _ _ _ _ _ _ => exact .next (csiLinePacket_kept h ..)
  | csiFrameEnd _ _ _ _ => exact .next (csiFrameEnd_kept h ..)
  | csiPacketGap _ => exact .next (csiPacketGap_kept h ..)
  | camOpen _ => exact .next (serve_kept h (fun _ => camOpenReq_kept h ..) ..)
  | camClose _ => exact .next (serve_kept h (fun _ => camCloseReq_kept h ..) ..)
  | camAttach _ => exact .next (serve_kept h (fun _ => camAttachReq_kept h ..) ..)
  | camDetach _ => exact .next (serve_kept h (fun _ => camDetachReq_kept h ..) ..)
  | camQuery _ => exact .next (serve_kept h (fun _ => camQueryReq_kept h ..) ..)
  | camLossTimeout _ => exact .next (camLossTimeout_kept h ..)
  | presentation _ _ => exact .next (presentation_kept h ..)
  | ackHoldReached _ _ => exact .next (ackHoldReached_kept h ..)
  | regionCompare _ _ => exact .next (regionCompare_kept h ..)
  | cvAcquire _ => exact .next (serve_kept h (fun _ => cvAcquireReq_kept h ..) ..)
  | cvRun _ => exact .next (serveF_kept h (fun _ => cvRunReq_kept h ..) ..)
  | cvRelease _ => exact .next (serve_kept h (fun _ => cvReleaseReq_kept h ..) ..)
  | cvComputationEnd _ => exact .next (.ite (cvEnd_kept h ..) h)
  | touchScanStart _ => exact .next (touchScanStart_kept h ..)
  | touchStepEnd _ _ => exact .next (touchStepEnd_kept h ..)
  | touchReport _ => exact .next (touchReport_kept h ..)
  | panelStart _ => exact .next (panelStart_kept h ..)
  | referenceTestDone _ _ => exact .next (referenceTestDone_kept h ..)
  | startVerifyTimeout _ => exact .next (startVerifyTimeout_kept h ..)
  | captureDone _ => exact .next (captureDone_kept h ..)
  | touchBacklogDelivery _ => exact .next (touchBacklog_kept h ..)
  | touchSubscribe _ => exact .next (serve_kept h (fun _ => subscribeReq_kept h ..) ..)
  | touchUnsubscribe _ => exact .next (serve_kept h (fun _ => unsubscribeReq_kept h ..) ..)
  | touchQuery _ => exact .next (serve_kept h (fun _ => touchQueryReq_kept h ..) ..)
  | touchIclApply _ => exact .next (iclApply_kept h ..)
  | touchIclSelftest _ => exact .next (iclServe_kept h (fun _ => startSelftest_kept h ..) ..)
  | touchIclCapture _ => exact .next (iclServe_kept h (fun _ => startCapture_kept h ..) ..)
  | touchIclSubscribe _ =>
    refine .next (iclServe_kept h (fun _ => ?_) ..)
    split
    · exact h
    · exact enterSub_kept h ..
  | touchIclUnsubscribe _ => exact .next (iclServe_kept h (fun _ => leaveSub_kept h ..) ..)
  | tafeSupplyLow => exact .next (tafeLow_kept h ..)
  | hapticTrigger _ => exact .next (serveF_kept h (fun _ => hapTriggerReq_kept h ..) ..)
  | hapticStop _ => exact .next (serve_kept h (fun _ => hapStopReq_kept h ..) ..)
  | hapticQuery _ => exact .next (serve_kept h (fun _ => hapQueryReq_kept h ..) ..)
  | hapIclTrigger => exact .next (iclServe_kept h (fun _ => triggerMask_kept h ..) ..)
  | hapIclCalibrate => exact .next (iclServe_kept h (fun _ => .foldl (fun _ _ h => askCalibration_kept h ..) h) ..)
  | hapIclStop => exact .next (iclServe_kept h (fun _ => .foldl (fun _ _ h => hapStop_kept h ..) h) ..)
  | hapIclApply => exact .next (iclServe_kept h (fun _ => kept_fst (landHap_kept h ..)) ..)
  | calibrationEnd _ _ => exact .next (calibrationEnd_kept h ..)
  | attackEnd _ => exact .next (attackEnd_kept h ..)
  | sustainEnd _ _ => exact .next (sustainEnd_kept h ..)
  | brakingEnd _ _ => exact .next (brakingEnd_kept h ..)
  | gapEnd _ => exact .next (gapEnd_kept h ..)
  | hapOvercurrent _ => exact .next (overcurrent_kept h ..)
  | accRead _ _ => exact .next (accRead_kept h ..)
  | audioSampleTick _ _ => exact .next (sampleTick_kept h ..)
  | busSilenceHoldExpiry _ => exact .next (silenceExpiry_kept h ..)
  | audioApply _ => exact .next (audioApply_kept h ..)
  | audioIclStream _ =>
    refine .next (iclServe_kept h (fun _ => ?_) ..)
    dsimp only
    split
    · exact h
    · exact .ite_fst (kept_fst (closeStream_kept h ..)) (kept_fst (enterStream_kept h ..))
  | tdmFrameSync _ _ _ => exact .next (tdmFrameSync_kept h ..)
  | tdmFrameMissing _ => exact .next (tdmFrameMissing_kept h ..)
  | refPhaseMatch _ _ => exact .next (refPhaseMatch_kept h ..)
  | asrcLocked _ _ => exact .next (asrcLocked_kept h ..)
  | streamOpen _ => exact .next (serve_kept h (fun _ => streamOpenReq_kept h ..) ..)
  | streamClose _ => exact .next (serve_kept h (fun _ => streamCloseReq_kept h ..) ..)
  | streamQuery _ => exact .next (serve_kept h (fun _ => streamQueryReq_kept h ..) ..)
  | streamPeriodBoundary _ => exact .next (streamBoundary_kept h ..)
  | dramReadRequest _ | dramWriteRequest _ _ => exact memRequest_keptNext h _ _
  | dramCommandSlot _ _ _ => exact .next (commandSlot_kept h ..)
  | refreshAccrual _ _ => exact .next (refreshAccrual_kept h ..)
  | mr4Read _ _ _ _ => exact .next (mr4Read_kept h ..)
  | powerDownEntry _ _ => exact .next (powerDown_kept h ..)
  | memSrEnter _ => exact .next (srEnter_kept h ..)
  | memSrExit _ => exact .next (srExit_kept h ..)
  | trainDone _ => exact .next (.ite (bootOn_kept (loadOffsets_kept (trainEnd_kept h ..) ..) ..) h)
  | scrubPass => exact .next (.ite h (raise_kept h ..))
  | trustedVersionCall _ => exact .next (gate_kept h _ (fun _ h => gateReply_kept h ..))
  | result _ _ => exact .next (gate_kept h _ (fun _ h => resultCall_kept h ..))
  | ownAssign _ _ _ => exact .next (gate_kept h _ (fun _ h => ownAssign_kept h ..))
  | ownQuery _ _ => exact .next (gate_kept h _ (fun _ h => .ite (gateReply_kept h ..) (gateReply_kept h ..)))
  | camNotice _ _ _ =>
    refine .next (gate_kept h _ fun _ h => .ite ?_ (gateReply_kept h ..))
    exact gateReply_kept (raiseTrusted_kept (anyPart_kept h) ..) ..
  | flashWrite _ _ _ _ _ | flashRead _ _ _ _ _ => exact .next (gate_kept h _ (fun _ h => flashCall_kept h ..))
  | imageVerify _ _ _ | signet _ _ _ | cert _ _ _ | debugUnlock _ _ | debugLock _ _ | debugKey _ _ =>
    exact .next (gate_kept h _ (fun _ h => .ite (queueCall_kept h ..) (gateReply_kept h ..)))
  | lktDone => exact .next (lktDone_kept h ..)
  | trustedDictRead _ _ => exact .next (access_kept h ..)
  | tctx _ _ _ => exact .next (mailbox_kept h (tctx_kept h ..))
  | tsubmit _ _ => exact .next (mailbox_kept h (tsubmit_kept h ..))
  | handoverRelease _ => exact .next (handoverRelease_kept h ..)
  | handoverGrant _ => exact .next (handoverGrant_kept h ..)
  | clockPowerRequest _ => exact .next (powerRequest_kept h ..)
  | watchdogService => exact .next (.ite (anyPart_kept h) h)
  | lktRestart => exact .next (lktRestart_kept h ..)
  | lktResumed => exact .next (bootOn_kept (lktResumed_kept h ..) ..)
  | failedSeriesReset => exact .next (.ite (.wr (anyPart_kept h) ..) h)
  | unlockVerified => exact .next (unlockVerified_kept h ..)
  | signetReady => exact .next (.ite (.wr (h.dput ..) ..) h)
  | debugHaltRequest _ => exact .next (haltRequest_kept h ..)
  | jtagExtest _ | jtagExtestPulse _ | jtagExtestTrain _ => exact .next (extest_kept h ..)
  | jtagIdcode => exact .next (send_kept (setIr_kept h ..) ..)
  | jtagSamplePreload _ => exact .next (send_kept (drawn_kept (anyPart_kept (setIr_kept h 2))) ..)
  | jtagDtmcs _ => exact .next (send_kept (drawn_kept (anyPart_kept (setIr_kept h 0x10))) ..)
  | jtagDmi _ => exact .next (dmiScan_kept h ..)
  | jtagLoupeMbox _ => exact .next (loupeMbox_kept h ..)
  | jtagBypass _ => exact .next (.ite h (send_kept (setIr_kept h ..) ..))
  | linkBeat _ _ _ _ _ _ => exact .next (linkBeat_kept h ..)
  | flagEvent _ _ _ => exact .next (flagEvent_kept h ..)
  | valueWrite _ _ _ => exact .next (valueWrite_kept h ..)
  | valueCapture _ _ => exact .next (valueCapture_kept h ..)
  | valueAcknowledge _ _ _ => exact .next (valueAcknowledge_kept h ..)
  | xingTimeout _ _ => exact .next (xingTimeout_kept h ..)
  | xingClockResumed _ => exact .next (clockResumed_kept h ..)
  | islandResetRequest _ _ => exact .next (resetRequest_kept h ..)
  | xingNotice _ _ => exact .next (xingNotice_kept h ..)
  | xingRejoin _ => exact .next (xingRejoin_kept h ..)
  | perstN => exact .next (perstN_kept h ..)
  | domainIdleExpiry _ => exact .next (idleExpiry_kept h ..)
  | domainOff _ => exact .next (.ite (serveWaiting_kept (domainOff_kept h ..) ..) (domainOff_kept h ..))
  | wakeEvent _ _ => exact .next (wakeEvent_kept h ..)
  | domainOn _ => exact .next (.ite (serveWaiting_kept (domainOn_kept h ..) ..) (domainOn_kept h ..))
  | deepSleepExit _ => exact .next (sleepExit_kept h ..)
  | supplyWarn _ _ => exact .next (supplyWarn_kept h ..)
  | supplyWarningEnd _ _ => exact .next (supplyWarningEnd_kept h ..)
  | supplyReset _ _ => exact .next (supplyReset_kept h ..)
  | thermalSample _ => exact .next (thermalSample_kept h ..)
  | throttleStep => exact .next (throttleStep_kept h ..)
  | throttleRaise => exact .next (throttleRaise_kept h ..)
  | thermalTrip _ _ => exact .next (thermalTrip_kept h ..)
  | tedHit _ => exact .next (tedHit_kept h ..)
  | hoursTick => exact .next (.ite (.ite (epochDue_kept (bump_kept h ..) ..) (bump_kept h ..)) h)
  | maintWindowClose => exact .next (closeWindow_kept h ..)
  | epochStart => exact .next (epochStart_kept h ..)
  | epochDone _ => exact .next (epochDone_kept h ..)
  | avsWrite _ => exact .next (.ite (anyPart_kept (send_kept h .avs [rd s E.hm_TARGET_MV] [])) (send_kept h ..))
  | powerOnReset => exact .next (deviceReset_kept h ..)
  | resetN => exact .next (resetBy_kept (anyPart_kept h) _ fun _ => id)
  | bootStart => exact .next (bootStart_kept h ..)
  | trialImageFail => exact .next (trialFail_kept h ..)
  | canBusOff _ => exact .next (busOff_kept h ..)
  | canErrorPassiveEnd _ => exact .next (errorPassiveEnd_kept h ..)
  | audMclkbClockChange _ => exact .next (mclkbChange_kept h ..)
  | islandResetRelease _ => exact .next (resetRelease_kept h ..)
  | islandClockStable _ => exact .next (clockStable_kept h ..)
  | deepSleepEntered => exact .next (sleepEntered_kept h ..)
  | siiAliasWrite _ _ => exact .next (.ite (send_kept (anyPart_kept h) ..) (send_kept h ..))

end

/-- Every part of the state but the queue of commands. -/
def allParts : List Part :=
  [.time, .free, .out, .fwQueue, .od, .dom, .mem, .ten, .clasp, .dict, .field, .raster, .compose, .heads, .ports, .cameo, .touch, .hap,
   .audio, .memc, .control, .locket, .flash, .isl, .power, .boot]

theorem may_allParts (p : Part) : May allParts p := ⟨by cases p <;> decide⟩

theorem exec_engraving {i : Instr} {s t : State} (h : exec i s = .next t) : t.cameo.engraving = s.cameo.engraving :=
  have := may_allParts
  (exec_keptNext (Kept.refl allParts s) i t h).engraving

/-- Settles O7: the command that a step takes from the queue keeps the engraving, and an idle step counts the time alone. -/
theorem engravingNeverChanges : Obligations.EngravingNeverChanges := by
  intro s t hstep
  rw [step] at hstep
  cases hqueue : s.pending with
  | nil =>
    rw [hqueue] at hstep
    cases hstep
    rfl
  | cons i rest =>
    rw [hqueue] at hstep
    exact exec_engraving (s := { s with pending := rest }) hstep

end Sys2Proof.Proofs
end

section
/-! SUPPORT. The assignable check-value units (R252, R260, R261): a unit that begins its reset on the way to an owner or to the pool, the
requests that name a unit, and the end of a computation. -/

namespace Sys2Proof.Proofs

open Sys2Proof Sys2Proof.Machine Sys2Proof.Laws

/-! ### Requests with flags (R54) -/

theorem asksF_iff {s : State} {c op len mask : Nat} {q : Taken} : asksF s c op len mask q = true ↔
    (claspOf s c).taken = some q ∧ q.op = op ∧ q.len = len ∧ Nat.land q.flags mask = q.flags ∧ q.answer = none := by
  simp [asksF, and_assoc]

theorem asksF_congr {s t : State} (h : t.clasp = s.clasp) (c op len mask : Nat) (q : Taken) :
    asksF t c op len mask q = asksF s c op len mask q := by
  rw [asksF, asksF, claspOf_congr h]

/-- A taken request with a LENGTH that its opcode allows and no flag beyond those its opcode defines is carried out. -/
theorem serveF_asked {s : State} {c op len mask : Nat} {q : Taken} {lenOk : Nat → Bool} (k : Taken → State)
    (hasks : asksF s c op len mask q = true) (hlen : lenOk len = true) : serveF s c op mask lenOk k = k q := by
  obtain ⟨htaken, hop, hqlen, hflags, hanswer⟩ := asksF_iff.mp hasks
  simp only [serveF, htaken, hop, hqlen, hflags, hanswer, hlen, and_self, if_true, ne_eq, not_true_eq_false, if_false]

theorem exec_cvAcquire_asked {s : State} {c : Client} {q : Taken} (hasks : asks s c.val 0x8001 1 q = true) :
    exec (.cvAcquire c) s = .next (cvAcquireReq s c.val q) := by
  rw [exec_cvAcquire, execCvAcquire, serve_asked _ hasks rfl]

theorem exec_cvRun_asked {s : State} {c : Client} {q : Taken} (hasks : asksF s c.val 0x8002 5 3 q = true) :
    exec (.cvRun c) s = .next (cvRunReq s c.val q) := by
  rw [exec_cvRun, execCvRun, serveF_asked _ hasks rfl]

theorem exec_cvRelease_asked {s : State} {c : Client} {q : Taken} (hasks : asks s c.val 0x8003 1 q = true) :
    exec (.cvRelease c) s = .next (cvReleaseReq s c.val q) := by
  rw [exec_cvRelease, execCvRelease, serve_asked _ hasks rfl]

/-! ### What an answer leaves -/

theorem ok_locket (s : State) (c : Nat) (data : List Nat) : (ok s c data).locket = s.locket :=
  (ok_kept_clasp s c data).parts .locket (by decide)

theorem ok_cameo (s : State) (c : Nat) (data : List Nat) : (ok s c data).cameo = s.cameo :=
  (ok_kept_clasp s c data).parts .cameo (by decide)

theorem handOf_congr {s t : State} (h : t.locket = s.locket) (block : Nat) : handOf t block = handOf s block := by
  rw [handOf, handOf, h]

theorem cvOf_congr {s t : State} (h : t.cameo = s.cameo) (k : Nat) : cvOf t k = cvOf s k := by rw [cvOf, cvOf, h]

/-! ### A unit whose reset begins (R261, R380) -/

/-- Unit `k` is being reset in the hand-over `h`. -/
def resetBegun (s : State) (k : Nat) (h : Hand) : State :=
  setHand (setCv (wr s (E.cvu_OWNER k) 0xFFFD) k {}) (16 + k) (some { h with resetting := true })

theorem pdOn_resetBegun (s : State) (k : Nat) (h : Hand) : pdOn (resetBegun s k h) 2 = pdOn s 2 :=
  pdOn_wr_above s _ (by simp only [E.cvu_OWNER]; omega)

/-- `t` is `s` with unit `k` in reset in the hand-over `h`, as far as the dictionary, the hand-overs and the clasps tell. -/
structure ResetsUnit (k : Nat) (h : Hand) (s t : State) : Prop where
  owner : rd t (E.cvu_OWNER k) = 0xFFFD
  entries : entriesKept [E.cvu_OWNER k] s t
  hand : handOf t (16 + k) = some { h with resetting := true }
  clasp : t.clasp = s.clasp

theorem resetBegun_resets (s : State) (k : Nat) (h : Hand) : ResetsUnit k h s (resetBegun s k h) where
  owner := rd_wr_same ..
  entries := entriesKept_wr s _ _
  hand := handOf_setHand ..
  clasp := rfl

/-- Beside its reset a release that notifies no client raises at most an event. -/
theorem releaseEffect_resets {s : State} (k : Nat) {h : Hand} (hon : pdOn s 2 = true) (hnotify : h.notify = none) :
    ResetsUnit k h s (releaseEffect s k h) := by
  have heffect : releaseEffect s k h =
      if cvOwner s k = 0xFFFD then resetBegun s k h else raise (resetBegun s k h) .ownChanged [16 + k, 0xFFFD] := by
    unfold releaseEffect
    dsimp only
    split
    next hclient => exact absurd (hnotify.symm.trans hclient) (by simp)
    next => rfl
  obtain ⟨howner, hentries, hhand, hclasp⟩ := resetBegun_resets s k h
  rw [heffect, raise_on _ _ _ ((pdOn_resetBegun s k h).trans hon)]
  split
  · exact ⟨howner, hentries, hhand, hclasp⟩
  · exact ⟨howner, hentries, hhand, hclasp⟩

/-- A unit without a computation begins its reset at once while the locket runs. -/
theorem cvRelease_resets {s : State} {k : Nat} {h : Hand} (hidle : cvBusy s k = false) (hruns : rd s E.lkt_LKT_STATE = 1)
    (hon : pdOn s 2 = true) (hnotify : h.notify = none) : ResetsUnit k { h with giver := rd s (E.cvu_OWNER k) } s (cvRelease s k h) := by
  have hnow : cvRelease s k h = releaseEffect s k { h with giver := rd s (E.cvu_OWNER k) } := by
    simp [cvRelease, hidle, hruns, cvOwner]
  rw [hnow]
  exact releaseEffect_resets k hon hnotify

/-! ### The lowest free unit (R260) -/

/-- The lowest unit in the pool that is in no hand-over. -/
def freeUnit (s : State) : Option Nat := (List.range 8).find? (fun k => cvOwner s k == 0xFFFF && (handOf s (16 + k)).isNone)

theorem owner_of_freeUnit {s : State} {k : Nat} (hfree : freeUnit s = some k) : rd s (E.cvu_OWNER k) = 0xFFFF := by
  have hpool := List.find?_some hfree
  simp only [Bool.and_eq_true, beq_iff_eq] at hpool
  exact hpool.1

/-- A CV_ACQUIRE by a client that holds fewer than two units, with none on its way. -/
theorem cvAcquireReq_wanting {s : State} {c : Nat} {q : Taken} (hpoly : argOf q 2 < 3) (hcoming : cvComing s c = [])
    (hheld : (cvHeld s c).length < 2) : cvAcquireReq s c q =
      match freeUnit s with
      | none => fail s c 5
      | some k =>
        if rd s E.lkt_LKT_STATE ≠ 1 then fail s c 5 else cvRelease s k { target := c, acquire := true, poly := argOf q 2 } := by
  simp only [cvAcquireReq, if_neg (Nat.not_le.mpr hpoly), hcoming, List.isEmpty_nil, not_true_eq_false, false_and, if_false,
    List.length_nil, Nat.add_zero, if_neg (Nat.not_le.mpr hheld)]
  rfl

/-! ### The end of a computation (R252, R260) -/

theorem exec_cvComputationEnd_unit {s : State} {u : CvUnit} (hlow : 16 ≤ u.val) (hhigh : u.val < 24) :
    exec (.cvComputationEnd u) s = .next (cvEnd s (u.val - 16)) := by
  rw [exec_cvComputationEnd, execCvComputationEnd, if_pos ⟨hlow, hhigh⟩]

/-- The check value of a CV_RUN over its start value or its window address, and the bytes of its window (R251, R260). -/
def runValue (s : State) (c k : Nat) (q : Taken) : Nat :=
  cvValue (cvOf s k).poly (leBytes 4 (if bitOf q.flags 0 then argOf q 3 else argOf q 4) ++ winRd s c (argOf q 4) (argOf q 5))

/-- Unit `k` computes no more. -/
def runEnded (s : State) (k : Nat) : State := setCv s k { cvOf s k with running := none }

theorem cvEnd_answers {s : State} {k c : Nat} {q : Taken} (hruns : (cvOf s k).running = some c) (hkept : (cvOf s k).abandoned = false)
    (hasks : asksF s c 0x8002 5 3 q = true) :
    cvEnd s k = ok (runEnded s k) c [runValue s c k q, b2n (bitOf q.flags 1 && runValue s c k q == argOf q 6)] := by
  have hasks' : asksF (runEnded s k) c 0x8002 5 3 q = true := (asksF_congr (s := s) rfl ..).trans hasks
  simp only [cvEnd, hruns]
  rw [if_neg (by simp [hkept])]
  exact serveF_asked (lenOk := (· == 5)) _ hasks' rfl

theorem cvEnd_abandoned {s : State} {k c : Nat} (hruns : (cvOf s k).running = some c) (hlost : (cvOf s k).abandoned = true) :
    cvEnd s k = runEnded s k := by
  simp only [cvEnd, hruns]
  exact if_pos hlost

theorem cvEnd_idle {s : State} {k : Nat} (hidle : (cvOf s k).running = none) : cvEnd s k = s := by
  simp only [cvEnd, hidle]

/-! ### The commands -/

/-- Settles O48: an acquired or released unit begins its reset (`cvRelease_resets`), and the other answers are those of the requests'
checks, in their order. -/
theorem checkValueUnitsAreLent : Obligations.CheckValueUnitsAreLent := by
  refine ⟨⟨?acquires, ?acquirePoly, ?acquireTwo, ?acquireNone⟩, ⟨?runs, ?runOther, ?runLength, ?runOutside⟩,
    ⟨?releases, ?releaseBusy, ?releaseOther⟩, ?ends, ?endsAbandoned, ?endsIdle⟩
  case acquires =>
    intro s c q k hasks hpoly hcoming hheld hfree hruns hidle hon
    have hreset := cvRelease_resets (h := { target := c.val, acquire := true, poly := argOf q 2 }) hidle hruns hon rfl
    rw [owner_of_freeUnit hfree] at hreset
    refine ⟨cvRelease s k { target := c.val, acquire := true, poly := argOf q 2 }, ?_, hreset.owner, hreset.entries, hreset.hand, ?_⟩
    · have hunit : freeUnit s = some k := hfree
      rw [exec_cvAcquire_asked hasks, cvAcquireReq_wanting hpoly hcoming hheld, hunit]
      exact congrArg _ (if_neg (not_not_intro hruns))
    · rw [claspOf_congr hreset.clasp]
      exact (asks_iff.mp hasks).1
  case acquirePoly =>
    intro s c q hasks hpoly
    rw [exec_cvAcquire_asked hasks]
    exact congrArg _ (if_pos hpoly)
  case acquireTwo =>
    intro s c q hasks hpoly hcoming hheld
    rw [exec_cvAcquire_asked hasks]
    simp [cvAcquireReq, Nat.not_le.mpr hpoly, hcoming, hheld]
  case acquireNone =>
    intro s c q hasks hpoly hcoming hheld hfree
    have hunit : freeUnit s = none := hfree
    rw [exec_cvAcquire_asked hasks, cvAcquireReq_wanting hpoly hcoming hheld, hunit]
  case runs =>
    intro s c q k hasks hunit hleast hmost hinside hidle hhand
    have hlength : ¬(argOf q 5 = 0 ∨ 4194304 < argOf q 5) := by omega
    rw [exec_cvRun_asked hasks]
    simp [cvRunReq, hunit, hlength, hinside, hidle, hhand]
  case runOther =>
    intro s c q hasks hunit
    rw [exec_cvRun_asked hasks, cvRunReq, hunit]
  case runLength =>
    intro s c q k hasks hunit hlength
    rw [exec_cvRun_asked hasks, cvRunReq, hunit]
    exact congrArg _ (if_pos hlength)
  case runOutside =>
    intro s c q k hasks hunit hleast hmost houtside
    have hlength : ¬(argOf q 5 = 0 ∨ 4194304 < argOf q 5) := by omega
    rw [exec_cvRun_asked hasks]
    simp [cvRunReq, hunit, hlength, houtside]
  case releases =>
    intro s c q k hasks hunit hidle hruns hhand hon
    have hreset := cvRelease_resets (h := {}) hidle hruns hon rfl
    refine ⟨ok (cvRelease s k {}) c.val [], ?_, (rd_ok ..).trans hreset.owner, fun j hj => (rd_ok ..).trans (hreset.entries j hj),
      (handOf_congr (ok_locket ..) _).trans hreset.hand, taken_ok_of_clasp (asks_iff.mp hasks).1 hreset.clasp⟩
    rw [exec_cvRelease_asked hasks]
    simp [cvReleaseReq, hunit, hidle, hruns, hhand]
  case releaseBusy =>
    intro s c q k hasks hunit hbusy
    rw [exec_cvRelease_asked hasks, cvReleaseReq, hunit]
    exact congrArg _ (if_pos hbusy)
  case releaseOther =>
    intro s c q hasks hunit
    rw [exec_cvRelease_asked hasks, cvReleaseReq, hunit]
  case ends =>
    intro s u c q hlow hhigh hruns hkept hasks
    refine ⟨cvEnd s (u.val - 16), runValue s c (u.val - 16) q, exec_cvComputationEnd_unit hlow hhigh, rfl, ?_⟩
    rw [cvEnd_answers hruns hkept hasks]
    refine ⟨taken_ok ?_ _, ?_, ok_od .., ok_mem ..⟩
    · exact (asksF_iff.mp hasks).1
    · rw [cvOf_congr (ok_cameo ..)]
      exact cvOf_setCv ..
  case endsAbandoned =>
    intro s u c hlow hhigh hruns hlost
    rw [exec_cvComputationEnd_unit hlow hhigh, cvEnd_abandoned hruns hlost]
    rfl
  case endsIdle =>
    intro s u hnone
    rw [exec_cvComputationEnd, execCvComputationEnd]
    split
    next hunit =>
      have hidle : (cvOf s (u.val - 16)).running = none := by
        rcases hnone with hlow | hhigh | hidle
        · omega
        · omega
        · exact hidle
      rw [cvEnd_idle hidle]
    next => rfl

end Sys2Proof.Proofs
end

section
/-! SUPPORT. Presentations (R247, R253) and region comparisons (R256, R259): what taking a lane's result, an equal value, a mismatch and
the mismatch that reaches LIMIT each leave in the dictionary, in the region's record and among the events. -/

namespace Sys2Proof.Proofs

open Sys2Proof Sys2Proof.Machine Sys2Proof.Laws

/-- An entry outside a list of two, as `entriesKept` asks for it. -/
theorem notMem_two {k a b : Nat} : k ∉ [a, b] ↔ k ≠ a ∧ k ≠ b := by rw [List.mem_cons, List.mem_singleton, not_or]

/-! ### A lane's result is taken (R256) -/

/-- The result of region `r` is taken, and its value and the expected one are recorded. -/
def resultTaken (s : State) (h r v e : Nat) : State :=
  wr (wr (setCameo s h { cameoOf s h with results := tset (fun _ => []) (cameoOf s h).results r [] }) (E.cameo_LAST_VALUE h r) v)
    (E.cameo_EXPECTED h r) e

theorem rd_expected_resultTaken (s : State) (h r v e : Nat) : rd (resultTaken s h r v e) (E.cameo_EXPECTED h r) = e := rd_wr_same ..

theorem rd_lastValue_resultTaken (s : State) (h r v e : Nat) : rd (resultTaken s h r v e) (E.cameo_LAST_VALUE h r) = v := by
  rw [resultTaken, rd_wr_ne _ _ (by simp only [E.cameo_LAST_VALUE, E.cameo_EXPECTED]; omega), rd_wr_same]

theorem resultTaken_entries (s : State) (h r v e : Nat) :
    entriesKept [E.cameo_LAST_VALUE h r, E.cameo_EXPECTED h r] s (resultTaken s h r v e) := by
  intro k hk
  obtain ⟨hfirst, hsecond⟩ := notMem_two.mp hk
  rw [resultTaken, rd_wr_ne _ _ hsecond, rd_wr_ne _ _ hfirst, rd_setCameo]

theorem cameoOf_resultTaken (s : State) (h r v e : Nat) : cameoOf (resultTaken s h r v e) h =
    { cameoOf s h with results := tset (fun _ => []) (cameoOf s h).results r [] } := cameoOf_setCameo ..

theorem resultOf_resultTaken (s : State) (h r v e : Nat) : resultOf (resultTaken s h r v e) h r = [] := by
  rw [resultOf, cameoOf_resultTaken]
  exact tget_tset_same (fun _ => []) _ r []

theorem runOf_resultTaken (s : State) (h r v e : Nat) : runOf (resultTaken s h r v e) h r = runOf s h r := by
  rw [runOf, cameoOf_resultTaken, runOf]

theorem regionRec_resultTaken (s : State) (h r v e : Nat) : regionRec (resultTaken s h r v e) h r = regionRec s h r := by
  refine resultTaken_entries s h r v e _ ?_
  simp only [notMem_two, E.cameo_REGION, E.cameo_LAST_VALUE, E.cameo_EXPECTED]
  omega

/-- The entries of a head's content check from CHECK_STATE on lie above those of its regions. -/
theorem rd_resultTaken_above (s : State) (h v e : Nat) {r k : Nat} (hr : r < 8) (hk : E.cameo_CHECK_STATE h ≤ k) :
    rd (resultTaken s h r v e) k = rd s k := by
  refine resultTaken_entries s h r v e k ?_
  simp only [notMem_two, E.cameo_LAST_VALUE, E.cameo_EXPECTED]
  simp only [E.cameo_CHECK_STATE] at hk
  omega

theorem checkState_le_checked (h : Nat) : E.cameo_CHECK_STATE h ≤ E.cameo_CHECKED h := Nat.add_le_add_right (by decide) _

theorem checkState_le_mismatches (h : Nat) : E.cameo_CHECK_STATE h ≤ E.cameo_MISMATCHES h := Nat.add_le_add_right (by decide) _

theorem checkState_le_faultRegion (h : Nat) : E.cameo_CHECK_STATE h ≤ E.cameo_FAULT_REGION h := Nat.add_le_add_right (by decide) _

theorem pdOn_resultTaken (s : State) (h r v e : Nat) : pdOn (resultTaken s h r v e) 2 = pdOn s 2 := by
  rw [pdOn, pdOn, resultTaken_entries s h r v e]
  simp only [notMem_two, E.pd_STATE, E.cameo_LAST_VALUE, E.cameo_EXPECTED]
  omega

theorem resultTaken_out (s : State) (h r v e : Nat) : (resultTaken s h r v e).out = s.out := rfl

/-- The values recorded of a result stay through what the comparison leaves. -/
theorem rd_values_of_entriesKept {s t : State} {h r v e : Nat} {ks : List Nat} (hkept : entriesKept ks (resultTaken s h r v e) t)
    (hlast : E.cameo_LAST_VALUE h r ∉ ks) (hexpected : E.cameo_EXPECTED h r ∉ ks) :
    rd t (E.cameo_LAST_VALUE h r) = v ∧ rd t (E.cameo_EXPECTED h r) = e :=
  ⟨(hkept _ hlast).trans (rd_lastValue_resultTaken ..), (hkept _ hexpected).trans (rd_expected_resultTaken ..)⟩

/-! ### The value is the expected one (R259) -/

/-- The comparison counts, and the region's mismatch run ends. -/
def regionMatched (s : State) (h r : Nat) : State :=
  setCameo (bump s (E.cameo_CHECKED h)) h { cameoOf s h with runs := tset (fun _ => 0) (cameoOf s h).runs r 0 }

theorem rd_checked_regionMatched (s : State) (h r : Nat) :
    rd (regionMatched s h r) (E.cameo_CHECKED h) = satInc (rd s (E.cameo_CHECKED h)) 1 := rd_wr_same ..

theorem regionMatched_entries (s : State) (h r : Nat) : entriesKept [E.cameo_CHECKED h] s (regionMatched s h r) :=
  entriesKept_wr s _ _

theorem cameoOf_regionMatched (s : State) (h r : Nat) : cameoOf (regionMatched s h r) h =
    { cameoOf s h with runs := tset (fun _ => 0) (cameoOf s h).runs r 0 } := cameoOf_setCameo ..

theorem runOf_regionMatched (s : State) (h r : Nat) : runOf (regionMatched s h r) h r = 0 := by
  rw [runOf, cameoOf_regionMatched]
  exact tget_tset_same (fun _ => 0) _ r 0

theorem resultOf_regionMatched (s : State) (h r : Nat) : resultOf (regionMatched s h r) h r = resultOf s h r := by
  rw [resultOf, cameoOf_regionMatched, resultOf]

theorem regionMatched_out (s : State) (h r : Nat) : (regionMatched s h r).out = s.out := rfl

/-! ### A mismatch (R259) -/

/-- The mismatch counts, the region's run is one longer, and the trusted world is told. -/
def mismatchCounted (s : State) (h r frame : Nat) : State :=
  raiseTrusted (bump (bump (setCameo s h { cameoOf s h with runs := tset (fun _ => 0) (cameoOf s h).runs r (runOf s h r + 1) })
    (E.cameo_CHECKED h)) (E.cameo_MISMATCHES h)) .contentMismatch [h, r, frame]

theorem checked_ne_mismatches (h : Nat) : E.cameo_CHECKED h ≠ E.cameo_MISMATCHES h := by
  simp only [E.cameo_CHECKED, E.cameo_MISMATCHES]; omega

theorem rd_checked_mismatchCounted (s : State) (h r frame : Nat) :
    rd (mismatchCounted s h r frame) (E.cameo_CHECKED h) = satInc (rd s (E.cameo_CHECKED h)) 1 := by
  rw [mismatchCounted, raiseTrusted, rd_emit, rd_bump_ne _ (checked_ne_mismatches h), bump, bumpBy, rd_wr_same, rd_setCameo]

theorem rd_mismatches_mismatchCounted (s : State) (h r frame : Nat) :
    rd (mismatchCounted s h r frame) (E.cameo_MISMATCHES h) = satInc (rd s (E.cameo_MISMATCHES h)) 1 := by
  rw [mismatchCounted, raiseTrusted, rd_emit, bump, bumpBy, rd_wr_same, rd_bump_ne _ (checked_ne_mismatches h).symm, rd_setCameo]

theorem mismatchCounted_entries (s : State) (h r frame : Nat) :
    entriesKept [E.cameo_CHECKED h, E.cameo_MISMATCHES h] s (mismatchCounted s h r frame) := by
  intro k hk
  obtain ⟨hfirst, hsecond⟩ := notMem_two.mp hk
  rw [mismatchCounted, raiseTrusted, rd_emit, rd_bump_ne _ hsecond, rd_bump_ne _ hfirst, rd_setCameo]

theorem runOf_mismatchCounted (s : State) (h r frame : Nat) : runOf (mismatchCounted s h r frame) h r = runOf s h r + 1 := by
  have hcameo : cameoOf (mismatchCounted s h r frame) h =
      { cameoOf s h with runs := tset (fun _ => 0) (cameoOf s h).runs r (runOf s h r + 1) } := cameoOf_setCameo ..
  rw [runOf, hcameo]
  exact tget_tset_same (fun _ => 0) (cameoOf s h).runs r (runOf s h r + 1)

theorem mismatchCounted_out (s : State) (h r frame : Nat) :
    (mismatchCounted s h r frame).out = .event true .contentMismatch [h, r, frame] :: s.out := rfl

theorem pdOn_mismatchCounted (s : State) (h r frame : Nat) : pdOn (mismatchCounted s h r frame) 2 = pdOn s 2 := by
  rw [pdOn, pdOn, mismatchCounted_entries s h r frame]
  simp only [notMem_two, E.pd_STATE, E.cameo_CHECKED, E.cameo_MISMATCHES]
  omega

theorem regionDiffers_below {s : State} {h r : Nat} (hrun : runOf s h r + 1 ≠ fld (regionRec s h r) 68 4) (frame : Nat) :
    regionDiffers s h r frame = mismatchCounted s h r frame := if_pos hrun

/-! ### The run reaches LIMIT (R259, R267) -/

/-- Both worlds are told of the content fault. -/
def faultTold (s : State) (h r frame : Nat) : State :=
  raise (raiseTrusted (mismatchCounted s h r frame) .contentFault [h, r, frame]) .contentFault [h, r, frame]

theorem faultTold_on {s : State} (h r frame : Nat) (hon : pdOn s 2 = true) : faultTold s h r frame =
    emit (emit (mismatchCounted s h r frame) (.event true .contentFault [h, r, frame])) (.event false .contentFault [h, r, frame]) :=
  raise_on _ _ _ ((pdOn_mismatchCounted s h r frame).trans hon)

theorem regionDiffers_latches {s : State} {h r : Nat} (hrun : runOf s h r + 1 = fld (regionRec s h r) 68 4)
    (haction : bitOf (regionRec s h r) 67 = true) (frame : Nat) :
    regionDiffers s h r frame =
      lastingEmcy (contentFault (faultTold s h r frame) h r frame) 0x5010 h (r + 65536 * (frame % 65536)) :=
  (if_neg (not_not_intro hrun)).trans (if_pos haction)

theorem lastingEmcy_entries (s : State) (code b0 rest : Nat) :
    entriesKept [E.comm_EMCY_DROPPED, E.err_ERROR_REGISTER] s (lastingEmcy s code b0 rest) := by
  intro k hk
  obtain ⟨hfirst, hsecond⟩ := notMem_two.mp hk
  rw [lastingEmcy, rd_emcy_ne _ _ _ _ hfirst, beginLasting, rd_wr_ne _ _ hsecond]
  rfl

theorem lastingEmcy_out (s : State) (code b0 rest : Nat) : (lastingEmcy s code b0 rest).out = s.out := by
  have hod : May [.od, .field] .od := ⟨by decide⟩
  have hfield : May [.od, .field] .field := ⟨by decide⟩
  exact (lastingEmcy_kept (chg := [.od, .field]) (Kept.refl _ s) code b0 rest).parts .out (by decide)

/-- The fault is marked in FAULT_LATCHED, in the process data and in CHECK_STATE of its head. -/
def faultMarked (s : State) (h : Nat) : State :=
  wr (wrBit (wr s E.cchk_FAULT_LATCHED 1) E.pdo_PD_STATUS 3 true) (E.cameo_CHECK_STATE h) 2

theorem rd_faultLatched_faultMarked (s : State) (h : Head) : rd (faultMarked s h.val) E.cchk_FAULT_LATCHED = 1 := by
  have hcheck : E.cchk_FAULT_LATCHED ≠ E.cameo_CHECK_STATE h.val := by simp only [E.cchk_FAULT_LATCHED, E.cameo_CHECK_STATE]; omega
  rw [faultMarked, rd_wr_ne _ _ hcheck, wrBit, rd_wr_ne _ _ (by decide), rd_wr_same]

theorem rd_checkState_faultMarked (s : State) (h : Nat) : rd (faultMarked s h) (E.cameo_CHECK_STATE h) = 2 := rd_wr_same ..

theorem rd_faultRegion_faultMarked (s : State) (h : Head) :
    rd (faultMarked s h.val) (E.cameo_FAULT_REGION h.val) = rd s (E.cameo_FAULT_REGION h.val) := by
  have hcheck : E.cameo_FAULT_REGION h.val ≠ E.cameo_CHECK_STATE h.val := by
    simp only [E.cameo_FAULT_REGION, E.cameo_CHECK_STATE]; omega
  have hstatus : E.cameo_FAULT_REGION h.val ≠ E.pdo_PD_STATUS := by simp only [E.cameo_FAULT_REGION, E.pdo_PD_STATUS]; omega
  have hlatched : E.cameo_FAULT_REGION h.val ≠ E.cchk_FAULT_LATCHED := by
    simp only [E.cameo_FAULT_REGION, E.cchk_FAULT_LATCHED]; omega
  rw [faultMarked, rd_wr_ne _ _ hcheck, wrBit, rd_wr_ne _ _ hstatus, rd_wr_ne _ _ hlatched]

/-- The first fault since the reset leaves its region and frame. -/
def faultLocated (s : State) (h r frame : Nat) : State :=
  if rd s (E.cameo_FAULT_REGION h) = 0xFF then wr (wr s (E.cameo_FAULT_REGION h) r) (E.cameo_FAULT_FRAME h) frame else s

theorem faultLocated_entries (s : State) (h r frame : Nat) :
    entriesKept [E.cameo_FAULT_REGION h, E.cameo_FAULT_FRAME h] s (faultLocated s h r frame) := by
  intro k hk
  obtain ⟨hfirst, hsecond⟩ := notMem_two.mp hk
  rw [faultLocated]
  split
  · rw [rd_wr_ne _ _ hsecond, rd_wr_ne _ _ hfirst]
  · rfl

theorem rd_faultRegion_faultLocated (s : State) (h r frame : Nat) : rd (faultLocated s h r frame) (E.cameo_FAULT_REGION h) =
    if rd s (E.cameo_FAULT_REGION h) = 0xFF then r else rd s (E.cameo_FAULT_REGION h) := by
  have hframe : E.cameo_FAULT_REGION h ≠ E.cameo_FAULT_FRAME h := by simp only [E.cameo_FAULT_REGION, E.cameo_FAULT_FRAME]; omega
  rw [faultLocated, rd_ite, rd_wr_ne _ _ hframe, rd_wr_same]

theorem contentFault_located (s : State) (h r frame : Nat) :
    contentFault s h r frame = latchFault (faultLocated (faultMarked s h) h r frame) := rfl

theorem latchFault_entries (s : State) : entriesKept [E.glob_DEVICE_STATE] s (latchFault s) :=
  entriesKept_wr { s with boot := { s.boot with fault := true } } _ _

theorem contentFault_out (s : State) (h r frame : Nat) : (contentFault s h r frame).out = s.out := by
  have hod : May [.od, .boot] .od := ⟨by decide⟩
  have hboot : May [.od, .boot] .boot := ⟨by decide⟩
  exact (contentFault_kept (chg := [.od, .boot]) (Kept.refl _ s) h r frame).parts .out (by decide)

/-- The entries of heads' cameo units and of the content check lie above those of events, emergency messages and the device. -/
theorem rd_lastingEmcy_latchFault (s : State) (code b0 rest : Nat) {k : Nat} (hk : 0x380000 ≤ k) :
    rd (lastingEmcy (latchFault s) code b0 rest) k = rd s k := by
  rw [lastingEmcy_entries, latchFault_entries]
  · simp only [List.mem_singleton, E.glob_DEVICE_STATE]; omega
  · simp only [notMem_two, E.comm_EMCY_DROPPED, E.err_ERROR_REGISTER]; omega

/-- What the mismatch that reaches LIMIT leaves in the entries of its head and of the content check. -/
theorem regionDiffers_faults {s : State} {h : Head} {r : Nat} (hrun : runOf s h.val r + 1 = fld (regionRec s h.val r) 68 4)
    (haction : bitOf (regionRec s h.val r) 67 = true) (hon : pdOn s 2 = true) (frame : Nat) :
    rd (regionDiffers s h.val r frame) E.cchk_FAULT_LATCHED = 1 ∧
      rd (regionDiffers s h.val r frame) (E.cameo_CHECK_STATE h.val) = 2 ∧
      rd (regionDiffers s h.val r frame) (E.cameo_FAULT_REGION h.val) =
        if rd s (E.cameo_FAULT_REGION h.val) = 0xFF then r else rd s (E.cameo_FAULT_REGION h.val) := by
  have htold : rd (faultTold s h.val r frame) (E.cameo_FAULT_REGION h.val) = rd s (E.cameo_FAULT_REGION h.val) := by
    rw [faultTold_on _ _ _ hon, rd_emit, rd_emit, mismatchCounted_entries]
    simp only [notMem_two, E.cameo_FAULT_REGION, E.cameo_CHECKED, E.cameo_MISMATCHES]
    omega
  rw [regionDiffers_latches hrun haction, contentFault_located, rd_lastingEmcy_latchFault _ _ _ _ (by decide),
    rd_lastingEmcy_latchFault _ _ _ _ (by simp only [E.cameo_CHECK_STATE]; omega),
    rd_lastingEmcy_latchFault _ _ _ _ (by simp only [E.cameo_FAULT_REGION]; omega)]
  refine ⟨?_, ?_, ?_⟩
  · rw [faultLocated_entries, rd_faultLatched_faultMarked]
    simp only [notMem_two, E.cchk_FAULT_LATCHED, E.cameo_FAULT_REGION, E.cameo_FAULT_FRAME]
    omega
  · rw [faultLocated_entries, rd_checkState_faultMarked]
    simp only [notMem_two, E.cameo_CHECK_STATE, E.cameo_FAULT_REGION, E.cameo_FAULT_FRAME]
    omega
  · rw [rd_faultRegion_faultLocated, rd_faultRegion_faultMarked, htold]

theorem regionDiffers_faults_out {s : State} {h r : Nat} (hrun : runOf s h r + 1 = fld (regionRec s h r) 68 4)
    (haction : bitOf (regionRec s h r) 67 = true) (hon : pdOn s 2 = true) (frame : Nat) :
    (regionDiffers s h r frame).out = .event false .contentFault [h, r, frame] :: .event true .contentFault [h, r, frame] ::
      .event true .contentMismatch [h, r, frame] :: s.out := by
  rw [regionDiffers_latches hrun haction, lastingEmcy_out, contentFault_out, faultTold_on _ _ _ hon, emit, emit, mismatchCounted_out]

/-! ### The commands -/

theorem regionCompare_result {s : State} {h r v e frame has : Nat} (hresult : resultOf s h r = [v, e, frame, has]) :
    regionCompare s h r =
      if has = 0 then resultTaken s h r v e
      else if v = e then regionMatched (resultTaken s h r v e) h r
      else regionDiffers (resultTaken s h r v e) h r frame := by
  rw [resultOf] at hresult
  simp only [regionCompare, hresult]
  rfl

theorem regionCompare_empty {s : State} {h r : Nat} (hresult : resultOf s h r = []) : regionCompare s h r = s := by
  rw [resultOf] at hresult
  simp only [regionCompare, hresult]

/-- Settles O47: a presentation with good regions is pending, and a comparison takes the lane's result and then counts a match, counts a
mismatch or latches the fault. -/
theorem contentChecksCompareRegions : Obligations.ContentChecksCompareRegions := by
  refine ⟨⟨?presents, ?presentsNone⟩, ?matched, ?mismatched, ?limit, ?unexpected, ?empty⟩
  case presents =>
    intro s h p hruns hgood
    rw [exec_presentation, execPresentation]
    exact congrArg _ (if_neg (by simp only [hruns, hgood, ne_eq, not_true_eq_false, or_self, not_false_eq_true]))
  case presentsNone =>
    intro s h p hnone
    rw [exec_presentation, execPresentation]
    refine congrArg _ (if_pos (hnone.imp_right fun hbad => ?_))
    simp only [hbad, Bool.false_eq_true, not_false_eq_true]
  case matched =>
    intro s h r v frame hr hresult
    have hkept := regionMatched_entries (resultTaken s h.val r v v) h.val r
    obtain ⟨hlast, hexpected⟩ := rd_values_of_entriesKept hkept
      (by simp only [List.mem_singleton, E.cameo_LAST_VALUE, E.cameo_CHECKED]; omega)
      (by simp only [List.mem_singleton, E.cameo_EXPECTED, E.cameo_CHECKED]; omega)
    have hmismatches : E.cameo_MISMATCHES h.val ∉ [E.cameo_CHECKED h.val] := by
      simpa using (checked_ne_mismatches h.val).symm
    refine ⟨regionMatched (resultTaken s h.val r v v) h.val r, ?_, hlast, hexpected, ?_, ?_, runOf_regionMatched ..,
      (resultOf_regionMatched ..).trans (resultOf_resultTaken ..), (regionMatched_out ..).trans (resultTaken_out ..)⟩
    · rw [exec_regionCompare, execRegionCompare, regionCompare_result hresult, if_neg Nat.one_ne_zero, if_pos rfl]
    · rw [rd_checked_regionMatched, rd_resultTaken_above _ _ _ _ hr (checkState_le_checked _)]
    · rw [hkept _ hmismatches, rd_resultTaken_above _ _ _ _ hr (checkState_le_mismatches _)]
  case mismatched =>
    intro s h r v e frame hr hresult hdiffer hrun
    obtain ⟨hlast, hexpected⟩ := rd_values_of_entriesKept (mismatchCounted_entries (resultTaken s h.val r v e) h.val r frame)
      (by simp only [notMem_two, E.cameo_LAST_VALUE, E.cameo_CHECKED, E.cameo_MISMATCHES]; omega)
      (by simp only [notMem_two, E.cameo_EXPECTED, E.cameo_CHECKED, E.cameo_MISMATCHES]; omega)
    rw [← runOf_resultTaken s h.val r v e, ← regionRec_resultTaken s h.val r v e] at hrun
    refine ⟨mismatchCounted (resultTaken s h.val r v e) h.val r frame, ?_, hlast, hexpected, ?_, ?_, ?_,
      (mismatchCounted_out ..).trans (by rw [resultTaken_out])⟩
    · rw [exec_regionCompare, execRegionCompare, regionCompare_result hresult, if_neg Nat.one_ne_zero, if_neg hdiffer,
        regionDiffers_below hrun]
    · rw [rd_checked_mismatchCounted, rd_resultTaken_above _ _ _ _ hr (checkState_le_checked _)]
    · rw [rd_mismatches_mismatchCounted, rd_resultTaken_above _ _ _ _ hr (checkState_le_mismatches _)]
    · rw [runOf_mismatchCounted, runOf_resultTaken]
  case limit =>
    intro s h r v e frame hr hresult hdiffer hrun haction hon
    rw [← runOf_resultTaken s h.val r v e, ← regionRec_resultTaken s h.val r v e] at hrun
    rw [← regionRec_resultTaken s h.val r v e] at haction
    have hon' := (pdOn_resultTaken s h.val r v e).trans hon
    obtain ⟨hlatched, hcheck, hfault⟩ := regionDiffers_faults hrun haction hon' frame
    rw [rd_resultTaken_above _ _ _ _ hr (checkState_le_faultRegion _)] at hfault
    have hout := regionDiffers_faults_out hrun haction hon' frame
    refine ⟨regionDiffers (resultTaken s h.val r v e) h.val r frame, ?_, hlatched, hcheck, hfault, ?_, ?_⟩
    · rw [exec_regionCompare, execRegionCompare, regionCompare_result hresult, if_neg Nat.one_ne_zero, if_neg hdiffer]
    · rw [hout]
      exact .head _
    · rw [hout]
      exact .tail _ (.head _)
  case unexpected =>
    intro s h r v e frame hr hresult
    refine ⟨resultTaken s h.val r v e, ?_, rd_lastValue_resultTaken .., rd_expected_resultTaken .., resultTaken_entries s h.val r v e,
      resultTaken_out ..⟩
    rw [exec_regionCompare, execRegionCompare, regionCompare_result hresult, if_pos rfl]
  case empty =>
    intro s h r hresult
    rw [exec_regionCompare, execRegionCompare, regionCompare_empty hresult]

end Sys2Proof.Proofs
end

section
/-! SUPPORT. The frame of every command: what lies outside `mayChange` of it is as it was, and the queue of commands too. A command is
a chain of the operations of Laws/Kept*.lean, and each of them asks for the parts it may change alone. -/

namespace Sys2Proof.Proofs

open Sys2Proof Sys2Proof.Machine Sys2Proof.Laws

theorem May.head {p : Part} {l : List Part} : May (p :: l) p := ⟨List.mem_cons_self⟩

theorem May.tail {p q : Part} {l : List Part} [h : May l p] : May (q :: l) p := ⟨List.mem_cons_of_mem q h.mem⟩

/-- A state that differs in listed parts alone keeps what `Kept` names. -/
theorem listedParts_kept {chg : List Part} {r s t : State} (h : Kept chg r s) (hpending : t.pending = s.pending := by rfl)
    (hengraving : t.cameo.engraving = s.cameo.engraving := by rfl) (hod : t.od = s.od := by rfl) (hdom : t.dom = s.dom := by rfl)
    (hmem : t.mem = s.mem := by rfl) (hal : t.field.al = s.field.al := by rfl)
    (hparts : changesOnly chg s t := by intro p hp; cases p <;> first | rfl | exact absurd May.mem hp) : Kept chg r t where
  pending := hpending.trans h.pending
  engraving := hengraving.trans h.engraving
  wf w := by rw [Memory.wf, hod, hdom, hmem]; exact h.wf w
  al l := by rw [legalAl, hal]; exact h.al l
  parts p hp := samePart.trans (h.parts p hp) (hparts p hp)

section

/-! ### Requests to the DRAM -/

variable {chg : List Part} [May chg .free] [May chg .out] [May chg .fwQueue] [May chg .od] [May chg .dom] [May chg .mem]
  [May chg .ten] [May chg .clasp] [May chg .dict] [May chg .field] [May chg .raster] [May chg .compose] [May chg .heads]
  [May chg .ports] [May chg .cameo] [May chg .touch] [May chg .hap] [May chg .audio] [May chg .memc] [May chg .locket]
  [May chg .flash] [May chg .isl] [May chg .power] {r s : State}

theorem dramRequest_frame (h : Kept chg r s) (q : DramReq) (data : Option (List Byte)) : KeptNext chg r (dramRequest s q data) :=
  .ite (.next h) (.ite (.fault _) (.ite (.next h) (.next (dramEnter_kept h ..))))

variable [May chg .control]

theorem coreRequest_frame (h : Kept chg r s) (k : Nat) (gate fetch : Bool) (q : DramReq) (data : Option (List Byte)) :
    KeptNext chg r (coreRequest s k gate fetch q data) := by
  refine .ite (.next h) ?_
  refine List.foldlRecOn _ _ (.next h) fun o ho b _ => ?_
  cases o with
  | next t =>
    dsimp only
    split
    next u hu => exact .next (cacheBlock_kept (ho t rfl) hu)
    · exact .ite (dramRequest_frame (ho t rfl) _ _) (dramRequest_frame (ho t rfl) _ _)
  | fault => exact .fault _
  | refused => exact ho

theorem memRequest_frame (h : Kept chg r s) (q : DramReq) (data : Option (List Byte)) : KeptNext chg r (memRequest s q data) := by
  unfold memRequest
  split
  · exact coreRequest_frame h _ _ _ _ _
  · exact dramRequest_frame h _ _

end

/-! ### The commands -/

theorem exec_frame (i : Instr) (s : State) : KeptNext (mayChange i) s (exec i s) := by
  have := @May.head
  have := @May.tail
  have h := Kept.refl (mayChange i) s
  cases i with dsimp only [mayChange] at h ⊢
  | pcieConfigRequest _ _ => exact .next (.ite (configServe_kept h ..) (send_kept h ..))
  | numvfsWrite _ => exact .next (.ite (numVfsWrite_kept h ..) (send_kept h ..))
  | functionLevelReset _ => exact .next (.ite (guestReset_kept h ..) h)
  | carveOutZeroed _ => exact .next (carveZeroed_kept h ..)
  | bar4Read _ _ _ => exact .next (bar4Read_kept h ..)
  | bar4Write _ _ _ => exact .next (bar4Write_kept h ..)
  | violationLogged => exact .next (violationLogged_kept h ..)
  | violationRingClear _ _ | charmsWrite _ _ _ _ | imageWrite _ _ _ | directAddrWrite _ _ _ _ _ | memLogClear _ _
  | trustedDictWrite _ _ _ | unlockMaskWrite _ _ | unlockResponseWrite _ _ | nonceWrite _ _ | xingLogClear _ _ | supplyLogClear _ _ =>
    exact .next (writeBytes_kept h ..)
  | resetClient _ _ _ | commit _ | checkOnly _ | discard _ | storeAll _ | storeComm _ | storeApp _ | restoreAll _ | restoreComm _
  | restoreApp _ | imageCheck _ | imageCommit _ | imageCommitStore _ | errorHistoryClear _ | selftest _ _ | capture _ _ | calibrate _ _
  | trustedDictCommit | deepSleep _ | epochNow _ | maintWindow _ _ => exact .next (writeNum_kept h ..)
  | clientResetDone _ => exact .next (clientResetDone_kept h ..)
  | arbiterDecision a =>
    cases a with
    | clients => exact .next (decideClients_kept h ..)
    | guests => exact .next (decideGuests_kept h ..)
    | classes => exact .next (decideClasses_kept h ..)
  | budgetWindowEnd _ => exact .next (windowEnd_kept h ..)
  | claspGo _ _ | claspWrite _ _ _ _ | eventClear _ _ _ | claspModeWrite _ _ _ | dqPush _ _ _ => exact .next (bar0Write_kept h ..)
  | stage1Refusal _ =>
    refine .next ?_
    split
    · exact .ite h (finishTaken_kept (takeByHardware_kept h ..) ..)
    · exact h
  | claspTake =>
    refine .next (.ite ?_ h)
    split
    · exact advanceTake_kept (takeByFirmware_kept h ..) ..
    · exact h
  | claspComplete _ =>
    refine .next ?_
    split
    · exact .ite h (finishTaken_kept h ..)
    · exact h
  | msixUnmask _ _ =>
    refine .ite (.next (.ite ?_ ?_)) (.next h)
    · exact msixSend_kept (setPort_kept h ..) ..
    · exact setPort_kept h ..
  | resultHeaderRead _ _ _ _ | discardsRead _ _ | dqPop _ _ => exact .next (bar0Read_kept h ..)
  | delbelResponse _ =>
    refine .next ?_
    split
    · exact .ite (finishTaken_kept h ..) h
    · exact h
  | nop _ | identify _ => exact .next (serve_kept h (fun _ => ok_kept h ..) ..)
  | echo _ => exact .next (serve_kept h (fun _ => .ite (fail_kept h ..) (ok_kept h ..)) ..)
  | internalClaspGo _ _ => exact .next (.ite (iclGo_kept h ..) h)
  | internalClaspTake _ => exact .next (iclTake_kept h ..)
  | dictPortRead _ | dictPortWrite _ => exact .next (portCommand_kept h ..)
  | dictPortDone _ => exact .next (portDone_kept h ..)
  | portDiscardsRead _ _ _ => exact .next (bar2Read_kept h ..)
  | registerWrite _ => exact .next (registerWrite_kept h ..)
  | sdoDownload _ _ _ _ | sdoUpload _ _ _ => exact .next (.ite (arrive_kept h ..) h)
  | commitStart => exact .next (commitStart_kept h ..)
  | commitChecksEnd => exact .next (commitChecksEnd_kept h ..)
  | entryTakesEffect _ _ => exact .next (entryTakesEffect_kept h ..)
  | commitDone => exact .next (commitDone_kept h ..)
  | storeDone => exact .next (storeDone_kept h ..)
  | imageActionEnd => exact .next (imageActionEnd_kept h ..)
  | alStateRequest _ => exact .next (alRequest_kept h ..)
  | alStateConfirm => exact .next (alConfirm_kept h ..)
  | sm2WatchdogExpiry => exact .next (sm2Watchdog_kept h ..)
  | escResetSequence _ _ _ => exact .next (.ite (resetBy_kept h _ fun _ => id) h)
  | miiLinkChange _ _ | hoursPersist | jtagTapReset => exact .next (listedParts_kept h)
  | sync0 _ => exact .next (sync0_kept (listedParts_kept h) ..)
  | sm2BufferComplete _ => exact .next (bufferComplete_kept h ..)
  | freeRunOutputTake => exact .next (freeRun_kept h ..)
  | alarmTimeout => exact .next (alarmTimeout_kept h ..)
  | sync0Stamp _ => exact .next (sync0Stamp_kept h ..)
  | nmtStart _ | nmtStop _ | nmtEnterPreop _ => exact .next (nmtTo_kept h ..)
  | nmtResetNode _ | nmtResetComm _ => exact .next (nmtReset_kept h ..)
  | heartbeat _ => exact .next (heartbeat_kept h ..)
  | canSync _ => exact .next (canSync_kept h ..)
  | rpdoReceive _ _ _ => exact .next (rpdoReceive_kept h ..)
  | tpdoTransmit _ _ _ => exact .next (tpdoTransmit_kept h ..)
  | canBusOffRecovered _ => exact .next (busOffRecovered_kept h ..)
  | canErrorPassive _ => exact .next (errorPassive_kept h ..)
  | canOverrun _ => exact .next (.ite (emcy_kept h ..) h)
  | emcySend => exact .next (emcySend_kept h ..)
  | foeWriteDict _ _ _ => exact .next (.ite (foeDict_kept h ..) (foeUnknown_kept h ..))
  | foeReadStored _ _ => exact .next (.ite (foeStored_kept h ..) (foeUnknown_kept h ..))
  | foeReadHallmark _ => exact .next (foeHallmark_kept h ..)
  | foeWriteOpenImage _ _ | foeWriteTrustedImage _ _ => exact .next (foeFirmware_kept h ..)
  | foeBusy => exact .next (foeBusy_kept h ..)
  | firmwareVerified => exact .next (firmwareVerified_kept h ..)
  | ctxCreate _ => exact .next (serve_kept h (fun _ => ctxCreate_kept h ..) ..)
  | ctxDestroy _ => exact .next (serve_kept h (fun _ => .ite (leaveRender_kept h ..) (fail_kept h ..)) ..)
  | submit _ => exact .next (serve_kept h (fun _ => submit_kept h ..) ..)
  | query _ | cquery _ =>
    refine .next (serve_kept h (fun _ => ?_) ..)
    split
    · exact fail_kept h ..
    · exact ok_kept h ..
  | cctxCreate _ => exact .next (serve_kept h (fun _ => cctxCreate_kept h ..) ..)
  | cctxDestroy _ => exact .next (serve_kept h (fun _ => .ite (leaveCompute_kept h ..) (fail_kept h ..)) ..)
  | dispatch _ => exact .next (serve_kept h (fun _ => dispatch_kept h ..) ..)
  | contextRemoved _ kind =>
    cases kind with
    | render => exact .next (removeRender_kept h ..)
    | compute => exact .next (removeCompute_kept h ..)
  | corePickUnit _ => exact .next (corePickUnit_kept h ..)
  | binningEnd _ => exact .next (binningEnd_kept h ..)
  | partialStart _ => exact .next (partialStart_kept h ..)
  | partialDone _ => exact .next (partialDone_kept h ..)
  | tileDispatch _ _ => exact .next (tileDispatch_kept h ..)
  | tileReload _ _ => exact .next (tileReload_kept h ..)
  | tilePassEnd _ _ => exact .next (tilePassEnd_kept h ..)
  | flushAcknowledged _ _ => exact .next (flushAcknowledged_kept h ..)
  | renderDone _ => exact .next (renderDone_kept h ..)
  | fenceSignal _ kind =>
    cases kind with
    | render => exact .next (fenceRender_kept h ..)
    | compute => exact .next (fenceCompute_kept h ..)
  | pxLd _ _ _ | pxSt _ _ _ | pxRel _ _ _ | pxKill _ _ _ => exact .next (pxExec_kept h ..)
  | pixelInterlockGrant _ _ _ => exact .next (interlockGrant_kept h ..)
  | hartEcall _ _ => exact .next (hartEcall_kept h ..)
  | ebreak _ _ _ => exact .next (hartEbreak_kept h ..)
  | ctxFault _ => exact .next (ctxFault_kept h ..)
  | tileEccError _ _ _ => exact .next (tileEcc_kept h ..)
  | quadDrained _ => exact .next (quadDrained_kept h ..)
  | workgroupEnd _ => exact .next (workgroupEnd_kept h ..)
  | workgroupYield _ => exact .next (workgroupYield_kept h ..)
  | wgSaved _ => exact .next (wgSaved_kept h ..)
  | workgroupRestored _ => exact .next (workgroupRestored_kept h ..)
  | tileOverrun _ => exact .next (tileOverrun_kept h ..)
  | governorEvaluate _ _ => exact .next (governorEvaluate_kept h ..)
  | flip _ => exact .next (serve_kept h (fun _ => flipSent_kept h ..) ..)
  | flipGroup _ => exact .next (serve_kept h (fun _ => flipGroupReq_kept h ..) ..)
  | motion _ => exact .next (serve_kept h (fun _ => .ite (fail_kept h ..) (ok_kept (listedParts_kept h) ..)) ..)
  | release _ => exact .next (serve_kept h (fun _ => releaseReq_kept h ..) ..)
  | flipStatus _ => exact .next (serve_kept h (fun _ => flipStatusReq_kept h ..) ..)
  | wbStart _ => exact .next (serve_kept h (fun _ => wbStartReq_kept h ..) ..)
  | wbStop _ => exact .next (serve_kept h (fun _ => wbStopReq_kept h ..) ..)
  | wbFrame _ => exact .next (wbFrame_kept h ..)
  | headLineStart _ _ _ => exact .next (headLineStart_kept h ..)
  | lineFetchComplete _ => exact .next (reportTolerance_kept h ..)
  | headLatch _ => exact .next (headLatch_kept h ..)
  | headFrame _ => exact .next (headFrame_kept h ..)
  | headVblank _ => exact .next (headVblank_kept h ..)
  | teEdge _ _ => exact .next (teEdge_kept h ..)
  | teTimeout _ => exact .next (teTimeout_kept h ..)
  | timingChangeImmediate _ => exact .next (timingImmediate_kept h ..)
  | timingChangeClean _ => exact .next (timingClean_kept h ..)
  | headEnable _ => exact .next (headEnable_kept h ..)
  | headDisable _ => exact .next (headDisable_kept h ..)
  | routeChange _ => exact .next (routeChange_kept h ..)
  | lockStampTimeout _ => exact .next (lockTimeout_kept h ..)
  | portBringupStart _ => exact .next (portBringupStart_kept h ..)
  | hpdStable _ => exact .next (hpdStable_kept h ..)
  | portReady _ => exact .next (portReady_kept h ..)
  | portLinkFail _ => exact .next (portLinkFail_kept h ..)
  | portRetry _ => exact .next (portRetry_kept h ..)
  | hpdLow _ => exact .next (hpdLow_kept h ..)
  | irqHpd _ _ => exact .next (irqHpd_kept h ..)
  | linkStatusPoll _ _ => exact .next (linkStatusPoll_kept h ..)
  | csiFrameStart _ _ _ _ => exact .next (csiFrameStart_kept h ..)
  | csiLinePacket _ _ _ _ _ _ => exact .next (csiLinePacket_kept h ..)
  | csiFrameEnd _ _ _ _ => exact .next (csiFrameEnd_kept h ..)
  | csiPacketGap _ => exact .next (csiPacketGap_kept h ..)
  | camOpen _ => exact .next (serve_kept h (fun _ => camOpenReq_kept h ..) ..)
  | camClose _ => exact .next (serve_kept h (fun _ => camCloseReq_kept h ..) ..)
  | camAttach _ => exact .next (serve_kept h (fun _ => camAttachReq_kept h ..) ..)
  | camDetach _ => exact .next (serve_kept h (fun _ => camDetachReq_kept h ..) ..)
  | camQuery _ => exact .next (serve_kept h (fun _ => camQueryReq_kept h ..) ..)
  | camLossTimeout _ => exact .next (camLossTimeout_kept h ..)
  | presentation _ _ => exact .next (presentation_kept h ..)
  | ackHoldReached _ _ => exact .next (ackHoldReached_kept h ..)
  | regionCompare _ _ => exact .next (regionCompare_kept h ..)
  | cvAcquire _ => exact .next (serve_kept h (fun _ => cvAcquireReq_kept h ..) ..)
  | cvRun _ => exact .next (serveF_kept h (fun _ => cvRunReq_kept h ..) ..)
  | cvRelease _ => exact .next (serve_kept h (fun _ => cvReleaseReq_kept h ..) ..)
  | cvComputationEnd _ => exact .next (.ite (cvEnd_kept h ..) h)
  | touchScanStart _ => exact .next (touchScanStart_kept h ..)
  | touchStepEnd _ _ => exact .next (touchStepEnd_kept h ..)
  | touchReport _ => exact .next (touchReport_kept h ..)
  | panelStart _ => exact .next (panelStart_kept h ..)
  | referenceTestDone _ _ => exact .next (referenceTestDone_kept h ..)
  | startVerifyTimeout _ => exact .next (startVerifyTimeout_kept h ..)
  | captureDone _ => exact .next (captureDone_kept h ..)
  | touchBacklogDelivery _ => exact .next (touchBacklog_kept h ..)
  | touchSubscribe _ => exact .next (serve_kept h (fun _ => subscribeReq_kept h ..) ..)
  | touchUnsubscribe _ => exact .next (serve_kept h (fun _ => unsubscribeReq_kept h ..) ..)
  | touchQuery _ => exact .next (serve_kept h (fun _ => touchQueryReq_kept h ..) ..)
  | touchIclApply _ => exact .next (iclApply_kept h ..)
  | touchIclSelftest _ => exact .next (iclServe_kept h (fun _ => startSelftest_kept h ..) ..)
  | touchIclCapture _ => exact .next (iclServe_kept h (fun _ => startCapture_kept h ..) ..)
  | touchIclSubscribe _ =>
    refine .next (iclServe_kept h (fun _ => ?_) ..)
    split
    · exact h
    · exact enterSub_kept h ..
  | touchIclUnsubscribe _ => exact .next (iclServe_kept h (fun _ => leaveSub_kept h ..) ..)
  | tafeSupplyLow => exact .next (tafeLow_kept h ..)
  | hapticTrigger _ => exact .next (serveF_kept h (fun _ => hapTriggerReq_kept h ..) ..)
  | hapticStop _ => exact .next (serve_kept h (fun _ => hapStopReq_kept h ..) ..)
  | hapticQuery _ => exact .next (serve_kept h (fun _ => hapQueryReq_kept h ..) ..)
  | hapIclTrigger => exact .next (iclServe_kept h (fun _ => triggerMask_kept h ..) ..)
  | hapIclCalibrate => exact .next (iclServe_kept h (fun _ => .foldl (fun _ _ h => askCalibration_kept h ..) h) ..)
  | hapIclStop => exact .next (iclServe_kept h (fun _ => .foldl (fun _ _ h => hapStop_kept h ..) h) ..)
  | hapIclApply => exact .next (iclServe_kept h (fun _ => kept_fst (landHap_kept h ..)) ..)
  | calibrationEnd _ _ => exact .next (calibrationEnd_kept h ..)
  | attackEnd _ => exact .next (attackEnd_kept h ..)
  | sustainEnd _ _ => exact .next (sustainEnd_kept h ..)
  | brakingEnd _ _ => exact .next (brakingEnd_kept h ..)
  | gapEnd _ => exact .next (gapEnd_kept h ..)
  | hapOvercurrent _ => exact .next (overcurrent_kept h ..)
  | accRead _ _ => exact .next (accRead_kept h ..)
  | audioSampleTick _ _ => exact .next (sampleTick_kept h ..)
  | busSilenceHoldExpiry _ => exact .next (silenceExpiry_kept h ..)
  | audioApply _ => exact .next (audioApply_kept h ..)
  | audioIclStream _ =>
    refine .next (iclServe_kept h (fun _ => ?_) ..)
    dsimp only
    split
    · exact h
    · exact .ite_fst (kept_fst (closeStream_kept h ..)) (kept_fst (enterStream_kept h ..))
  | tdmFrameSync _ _ _ => exact .next (tdmFrameSync_kept h ..)
  | tdmFrameMissing _ => exact .next (tdmFrameMissing_kept h ..)
  | refPhaseMatch _ _ => exact .next (refPhaseMatch_kept h ..)
  | asrcLocked _ _ => exact .next (asrcLocked_kept h ..)
  | streamOpen _ => exact .next (serve_kept h (fun _ => streamOpenReq_kept h ..) ..)
  | streamClose _ => exact .next (serve_kept h (fun _ => streamCloseReq_kept h ..) ..)
  | streamQuery _ => exact .next (serve_kept h (fun _ => streamQueryReq_kept h ..) ..)
  | streamPeriodBoundary _ => exact .next (streamBoundary_kept h ..)
  | dramReadRequest _ | dramWriteRequest _ _ => exact memRequest_frame h _ _
  | dramCommandSlot _ _ _ => exact .next (commandSlot_kept h ..)
  | refreshAccrual _ _ => exact .next (refreshAccrual_kept h ..)
  | mr4Read _ _ _ _ => exact .next (mr4Read_kept h ..)
  | powerDownEntry _ _ => exact .next (powerDown_kept h ..)
  | memSrEnter _ => exact .next (srEnter_kept h ..)
  | memSrExit _ => exact .next (srExit_kept h ..)
  | trainDone _ => exact .next (.ite (bootOn_kept (loadOffsets_kept (trainEnd_kept h ..) ..) ..) h)
  | scrubPass => exact .next (.ite h (raise_kept h ..))
  | trustedVersionCall _ => exact .next (gate_kept h _ (fun _ h => gateReply_kept h ..))
  | result _ _ => exact .next (gate_kept h _ (fun _ h => resultCall_kept h ..))
  | ownAssign _ _ _ => exact .next (gate_kept h _ (fun _ h => ownAssign_kept h ..))
  | ownQuery _ _ => exact .next (gate_kept h _ (fun _ h => .ite (gateReply_kept h ..) (gateReply_kept h ..)))
  | camNotice _ _ _ =>
    refine .next (gate_kept h _ fun _ h => .ite ?_ (gateReply_kept h ..))
    exact gateReply_kept (raiseTrusted_kept (listedParts_kept h) ..) ..
  | flashWrite _ _ _ _ _ | flashRead _ _ _ _ _ => exact .next (gate_kept h _ (fun _ h => flashCall_kept h ..))
  | imageVerify _ _ _ | signet _ _ _ | cert _ _ _ | debugUnlock _ _ | debugLock _ _ | debugKey _ _ =>
    exact .next (gate_kept h _ (fun _ h => .ite (queueCall_kept h ..) (gateReply_kept h ..)))
  | lktDone => exact .next (lktDone_kept h ..)
  | trustedDictRead _ _ => exact .next (access_kept h ..)
  | tctx _ _ _ => exact .next (mailbox_kept h (tctx_kept h ..))
  | tsubmit _ _ => exact .next (mailbox_kept h (tsubmit_kept h ..))
  | handoverRelease _ => exact .next (handoverRelease_kept h ..)
  | handoverGrant _ => exact .next (handoverGrant_kept h ..)
  | clockPowerRequest _ => exact .next (powerRequest_kept h ..)
  | watchdogService => exact .next (.ite (listedParts_kept h) h)
  | lktRestart => exact .next (lktRestart_kept h ..)
  | lktResumed => exact .next (bootOn_kept (lktResumed_kept h ..) ..)
  | failedSeriesReset => exact .next (.ite (.wr (listedParts_kept h) ..) h)
  | unlockVerified => exact .next (unlockVerified_kept h ..)
  | signetReady => exact .next (.ite (.wr (h.dput ..) ..) h)
  | debugHaltRequest _ => exact .next (haltRequest_kept h ..)
  | jtagExtest _ | jtagExtestPulse _ | jtagExtestTrain _ => exact .next (extest_kept h ..)
  | jtagIdcode => exact .next (send_kept (setIr_kept h ..) ..)
  | jtagSamplePreload _ => exact .next (send_kept (drawn_kept (listedParts_kept (setIr_kept h 2))) ..)
  | jtagDtmcs _ => exact .next (send_kept (drawn_kept (listedParts_kept (setIr_kept h 0x10))) ..)
  | jtagDmi _ => exact .next (dmiScan_kept h ..)
  | jtagLoupeMbox _ => exact .next (loupeMbox_kept h ..)
  | jtagBypass _ => exact .next (.ite h (send_kept (setIr_kept h ..) ..))
  | linkBeat _ _ _ _ _ _ => exact .next (linkBeat_kept h ..)
  | flagEvent _ _ _ => exact .next (flagEvent_kept h ..)
  | valueWrite _ _ _ => exact .next (valueWrite_kept h ..)
  | valueCapture _ _ => exact .next (valueCapture_kept h ..)
  | valueAcknowledge _ _ _ => exact .next (valueAcknowledge_kept h ..)
  | xingTimeout _ _ => exact .next (xingTimeout_kept h ..)
  | xingClockResumed _ => exact .next (clockResumed_kept h ..)
  | islandResetRequest _ _ => exact .next (resetRequest_kept h ..)
  | xingNotice _ _ => exact .next (xingNotice_kept h ..)
  | xingRejoin _ => exact .next (xingRejoin_kept h ..)
  | perstN => exact .next (perstN_kept h ..)
  | domainIdleExpiry _ => exact .next (idleExpiry_kept h ..)
  | domainOff _ => exact .next (.ite (serveWaiting_kept (domainOff_kept h ..) ..) (domainOff_kept h ..))
  | wakeEvent _ _ => exact .next (wakeEvent_kept h ..)
  | domainOn _ => exact .next (.ite (serveWaiting_kept (domainOn_kept h ..) ..) (domainOn_kept h ..))
  | deepSleepExit _ => exact .next (sleepExit_kept h ..)
  | supplyWarn _ _ => exact .next (supplyWarn_kept h ..)
  | supplyWarningEnd _ _ => exact .next (supplyWarningEnd_kept h ..)
  | supplyReset _ _ => exact .next (supplyReset_kept h ..)
  | thermalSample _ => exact .next (thermalSample_kept h ..)
  | throttleStep => exact .next (throttleStep_kept h ..)
  | throttleRaise => exact .next (throttleRaise_kept h ..)
  | thermalTrip _ _ => exact .next (thermalTrip_kept h ..)
  | tedHit _ => exact .next (tedHit_kept h ..)
  | hoursTick => exact .next (.ite (.ite (epochDue_kept (bump_kept h ..) ..) (bump_kept h ..)) h)
  | maintWindowClose => exact .next (closeWindow_kept h ..)
  | epochStart => exact .next (epochStart_kept h ..)
  | epochDone _ => exact .next (epochDone_kept h ..)
  | avsWrite _ => exact .next (.ite (listedParts_kept (send_kept h .avs [rd s E.hm_TARGET_MV] [])) (send_kept h ..))
  | powerOnReset => exact .next (deviceReset_kept h ..)
  | resetN => exact .next (resetBy_kept (listedParts_kept h) _ fun _ => id)
  | bootStart => exact .next (bootStart_kept h ..)
  | trialImageFail => exact .next (trialFail_kept h ..)
  | canBusOff _ => exact .next (busOff_kept h ..)
  | canErrorPassiveEnd _ => exact .next (errorPassiveEnd_kept h ..)
  | audMclkbClockChange _ => exact .next (mclkbChange_kept h ..)
  | islandResetRelease _ => exact .next (resetRelease_kept h ..)
  | islandClockStable _ => exact .next (clockStable_kept h ..)
  | deepSleepEntered => exact .next (sleepEntered_kept h ..)
  | siiAliasWrite _ _ => exact .next (.ite (send_kept (listedParts_kept h) ..) (send_kept h ..))

/-- Settles O6: the frame of the command, taken part by part. -/
theorem commandsChangeOnlyTheirParts : Obligations.CommandsChangeOnlyTheirParts :=
  fun i s t hnext => (exec_frame i s t hnext).parts

/-- Settles O3: the queue is what `Kept` names first. -/
theorem commandsNeverTouchTheQueue : Obligations.CommandsNeverTouchTheQueue :=
  fun i s t hnext => (exec_frame i s t hnext).pending

/-- Settles O1: a queue with a command in front is the second case of `step`. -/
theorem stepRunsTheFrontCommand : Obligations.StepRunsTheFrontCommand := by
  intro s c rest hqueue
  rw [step, hqueue]

end Sys2Proof.Proofs
end

section
/-! SUPPORT. Physical addresses over the fitted channels (R345). -/

namespace Sys2Proof.Proofs

open Sys2Proof Sys2Proof.Machine Sys2Proof.Laws

/-- Settles O57: both formulas are those of `channelOf`, and with one channel the grain's quotient and remainder make up the address. -/
theorem addressesInterleaveOverChannels : Obligations.AddressesInterleaveOverChannels := by
  refine ⟨fun s a => ⟨rfl, rfl⟩, fun s a hone => ?_⟩
  calc (channelOf s a).2
      = a / 2 ^ inForce s E.mem_GRAIN * 2 ^ inForce s E.mem_GRAIN + a % 2 ^ inForce s E.mem_GRAIN := by
        rw [channelOf]
        dsimp only
        rw [hone, Nat.mul_one]
    _ = a := Nat.div_add_mod' ..

end Sys2Proof.Proofs
end

section
/-! SUPPORT. The caches and the gate: which lines of the L2 an allocation, a write-back and a flush leave (R372), what a served gate call
leaves of its core (R370, R371), and how the queue of trusted calls is served (R376). -/

namespace Sys2Proof.Proofs

open Sys2Proof Sys2Proof.Machine Sys2Proof.Laws

/-! ### The L2 (R372) -/

theorem writeBack_control (s : State) (c : CacheLine) : (writeBack s c).control = s.control := by
  have := @May.head
  have := @May.tail
  exact (writeBack_kept (Kept.refl [.mem, .memc] s) c).parts .control (by decide)

theorem l2Of_congr {s t : State} (h : t.control = s.control) (key : Nat) : l2Of t key = l2Of s key := by rw [l2Of, l2Of, h]

theorem cpuOf_congr {s t : State} (h : t.control = s.control) (k : Nat) : cpuOf t k = cpuOf s k := by rw [cpuOf, cpuOf, h]

theorem l2Of_setL2_ne (s : State) {key k : Nat} (c : Option CacheLine) (hne : key ≠ k) : l2Of (setL2 s k c) key = l2Of s key :=
  tget_tset_ne _ _ _ hne

/-- The keys in which a transaction of a world allocates a line. -/
def allocKeys (trusted : Bool) (line : Nat) : List Nat := (waysOf trusted).map (fun w => line % l2Sets * 16 + w)

/-- An allocation changes a line of one of its world's ways alone. -/
theorem l2Of_l2Allocate_ne (s : State) (trusted : Bool) (c : CacheLine) {key : Nat} (hkey : key ∉ allocKeys trusted c.line) :
    l2Of (l2Allocate s trusted c) key = l2Of s key := by
  have hpos : 0 < (allocKeys trusted c.line).length := by cases trusted <;> exact Nat.zero_lt_succ _
  rw [l2Allocate]
  simp only [← allocKeys.eq_def]
  cases hfree : (allocKeys trusted c.line).find? (fun k => (l2Of s k).isNone) with
  | some k => exact l2Of_setL2_ne s _ fun heq => hkey (heq ▸ List.mem_of_find?_eq_some hfree)
  | none =>
    have hmem : at0 0 (allocKeys trusted c.line) (freeVal s (allocKeys trusted c.line).length) ∈ allocKeys trusted c.line := by
      have hlt : freeVal s (allocKeys trusted c.line).length < (allocKeys trusted c.line).length := Nat.mod_lt _ hpos
      rw [at0, List.getElem?_eq_getElem hlt]
      exact List.getElem_mem _
    have hne : key ≠ at0 0 (allocKeys trusted c.line) (freeVal s (allocKeys trusted c.line).length) := fun heq => hkey (heq ▸ hmem)
    dsimp only
    change l2Of (setL2 _ _ _) key = _
    rw [l2Of_setL2_ne _ _ hne]
    split
    · exact l2Of_congr (writeBack_control s _) key
    · rfl

theorem way_of_mem_allocKeys {trusted : Bool} {line key : Nat} (h : key ∈ allocKeys trusted line) : key % 16 ∈ waysOf trusted := by
  obtain ⟨w, hw, rfl⟩ := List.mem_map.mp h
  have hlt : w < 16 := by
    cases trusted
    · exact Nat.lt_of_lt_of_le (List.mem_range.mp hw) (by decide)
    · simp only [waysOf, if_true, List.mem_cons, List.not_mem_nil, or_false] at hw
      omega
  rwa [Nat.mul_comm, Nat.mul_add_mod, Nat.mod_eq_of_lt hlt]

/-- Settles O59: an allocation and a hit of a world are at a key of its ways, and a read that misses L1 takes the line it hits. -/
theorem cacheWaysKeepTheWorldsApart : Obligations.CacheWaysKeepTheWorldsApart := by
  refine ⟨fun s c key hchanged => ?trusted, fun s c key hchanged => ?open_, fun s line key hhit => ?hits, fun s k line key c hk hmiss hhit
    hline => ?read⟩
  case trusted =>
    have hway := way_of_mem_allocKeys (not_not.mp fun hkey => hchanged (l2Of_l2Allocate_ne s true c hkey))
    simp only [waysOf, if_true, List.mem_cons, List.not_mem_nil, or_false] at hway
    omega
  case open_ =>
    have hway := way_of_mem_allocKeys (not_not.mp fun hkey => hchanged (l2Of_l2Allocate_ne s false c hkey))
    exact List.mem_range.mp hway
  case hits => exact List.mem_range.mp (way_of_mem_allocKeys (trusted := false) (List.mem_of_find?_eq_some hhit))
  case read =>
    have htrusted : coreTrusted k true = true := rfl
    simp only [coreRead, htrusted, Bool.false_eq_true, if_false, hmiss, if_pos hk, hhit, Option.bind_some, hline, Option.map_some]

/-! ### The gate (R370, R371) -/

/-- The cores but their caches are the same: registers and CSRs of core `k`, and the other cores. -/
theorem cpuOf_l1Evict (s : State) (k : Nat) (c : CacheLine) (j : Nat) : cpuOf (l1Evict s k c) j = cpuOf s j := by
  rw [l1Evict]
  split
  · rfl
  · split
    · rfl
    · exact cpuOf_congr (writeBack_control s c) j

theorem cpuOf_flushL1 (s : State) (k j : Nat) : cpuOf (flushL1 s k) j = if j = k then { cpuOf s k with l1d := [], l1i := [] } else cpuOf s j := by
  have hevict : ∀ (l : List CacheLine) (t : State), cpuOf (l.foldl (fun t c => l1Evict t k c) t) j = cpuOf t j := fun l t =>
    List.foldlRecOn l _ (motive := fun u => cpuOf u j = cpuOf t j) rfl fun u hu c _ => (cpuOf_l1Evict u k c j).trans hu
  rw [flushL1, hevict]
  split
  next heq => rw [heq, cpuOf_setCpu]
  next hne => exact cpuOf_setCpu_ne s k _ hne

theorem gateScrub_scrubbed (s : State) (k a0 a1 : Nat) : scrubbed s (gateScrub s k a0 a1) k a0 a1 := by
  have hk : cpuOf (gateScrub s k a0 a1) k = { cpuOf (flushL1 s k) k with
      x := tset (fun _ => 0) (tset (fun _ => 0) [] 10 (a0 % 2 ^ 64)) 11 (a1 % 2 ^ 64), f := [], fcsr := 0,
      pc := ((cpuOf (flushL1 s k) k).pc + 4) % 2 ^ 64 } := cpuOf_setCpu ..
  refine ⟨?_, ?_, ?_, ?_, ?_, ?_, ?_, ?_, ?_⟩
  · rw [hk, tget_tset_ne _ _ _ (by decide), tget_tset_same]
  · rw [hk, tget_tset_same]
  · intro r h10 h11
    rw [hk, tget_tset_ne _ _ _ h11, tget_tset_ne _ _ _ h10]
    rfl
  · rw [hk]
  · rw [hk]
  · rw [hk, cpuOf_flushL1, if_pos rfl]
  · rw [hk, cpuOf_flushL1, if_pos rfl]
  · rw [hk, cpuOf_flushL1, if_pos rfl]
  · intro j hj
    rw [gateScrub, cpuOf_setCpu_ne _ _ _ hj, cpuOf_flushL1, if_neg hj]

theorem flushL1_kept_caches (s : State) (k : Nat) : Kept [.mem, .memc, .control] s (flushL1 s k) := by
  have := @May.head
  have := @May.tail
  exact flushL1_kept (Kept.refl _ s) k

theorem rd_flushL1 (s : State) (k j : Nat) : rd (flushL1 s k) j = rd s j := rd_congr ((flushL1_kept_caches s k).parts .od (by decide)) j

/-- What is scrubbed after L1 has been flushed is scrubbed of the core as it was. -/
theorem scrubbed_of_flushL1 {s t : State} {k a0 a1 : Nat} (h : scrubbed (flushL1 s k) t k a0 a1) : scrubbed s t k a0 a1 := by
  obtain ⟨ha0, ha1, hx, hf, hfcsr, hl1d, hl1i, hcsr, hothers⟩ := h
  refine ⟨ha0, ha1, hx, hf, hfcsr, hl1d, hl1i, ?_, fun j hj => ?_⟩
  · rw [hcsr, cpuOf_flushL1, if_pos rfl]
  · rw [hothers j hj, cpuOf_flushL1, if_neg hj]

theorem calls_iff {s : State} {cc : Nat} : calls s cc = true ↔
    pdOn s 2 = true ∧ s.locket.halted.contains cc = false ∧ lktState s = 1 := by
  simp only [calls, Bool.and_eq_true, Bool.not_eq_true', beq_iff_eq, and_assoc]

/-- A gate call of a core that runs is served once its L1 is flushed. -/
theorem gate_of_calls {s : State} {cc : Nat} (h : calls s cc = true) (k : State → State) : gate s cc k = k (flushL1 s cc) := by
  obtain ⟨hon, hruns, hlkt⟩ := calls_iff.mp h
  rw [gate, if_neg (by simp only [hon, hruns, not_true_eq_false, Bool.false_eq_true, or_self, not_false_eq_true]), if_pos hlkt]

/-- Settles O58: every served call returns through `gateScrub`, after the flush that the gate begins with. -/
theorem gateReturnsAScrubbedCore : Obligations.GateReturnsAScrubbedCore := by
  refine ⟨gateScrub_scrubbed, fun s cc hcalls => ⟨_, rfl, ?_⟩⟩
  rw [gate_of_calls hcalls, rd_flushL1]
  exact scrubbed_of_flushL1 (gateScrub_scrubbed (flushL1 s cc.val) ..)

/-! ### The queue of trusted calls (R376) -/

theorem flushL1_locket (s : State) (k : Nat) : (flushL1 s k).locket = s.locket := (flushL1_kept_caches s k).parts .locket (by decide)

theorem gateScrub_out (s : State) (k a0 a1 : Nat) : (gateScrub s k a0 a1).out = s.out := (flushL1_kept_caches s k).parts .out (by decide)

theorem gateReply_out (s : State) (cc a0 a1 : Nat) :
    (gateReply s cc a0 a1).out = .msg (.gate cc) [(a0 : Int), (a1 : Int)] [] :: s.out := by
  rw [gateReply, send, emit, gateScrub_out]

theorem queueCall_of_room {s : State} (hroom : s.locket.queue.length < 16) (cc num : Nat) (args : List Nat) :
    queueCall (flushL1 s cc) cc num args = ticketed s cc num args := by
  rw [queueCall, flushL1_locket, if_neg (by omega), ticketed]
  dsimp only
  rw [flushL1_locket]

theorem queueCall_of_full {s : State} (hfull : 16 ≤ s.locket.queue.length) (cc num : Nat) (args : List Nat) :
    queueCall s cc num args = gateReply s cc 5 0 := if_pos hfull

/-- A call that TC serves leaves the queue and the kept results, and PD2 is on if it was. -/
structure Serves (s t : State) : Prop where
  queue : t.locket.queue = s.locket.queue
  results : t.locket.results = s.locket.results
  pd2 : pdOn t 2 = pdOn s 2

theorem Serves.of_kept {ch : List Part} {s t : State} (h : Kept ch s t) (hlocket : Part.locket ∉ ch := by decide)
    (hod : Part.od ∉ ch := by decide) : Serves s t where
  queue := by rw [h.parts .locket hlocket]
  results := by rw [h.parts .locket hlocket]
  pd2 := by rw [pdOn, rd_congr (h.parts .od hod), pdOn]

theorem Serves.trans {s t u : State} (h : Serves s t) (k : Serves t u) : Serves s u :=
  ⟨k.queue.trans h.queue, k.results.trans h.results, k.pd2.trans h.pd2⟩

theorem Serves.wr (s : State) {k : Nat} (v : Nat) (hk : k ≠ E.pd_STATE 2) : Serves s (wr s k v) :=
  ⟨rfl, rfl, by rw [pdOn, rd_wr_ne s v hk.symm, pdOn]⟩

theorem raise_locket (s : State) (e : Ev) (args : List Int) : (raise s e args).locket = s.locket := by
  have := @May.head
  have := @May.tail
  exact (raise_kept (Kept.refl [.out, .fwQueue, .od] s) e args).parts .locket (by decide)

theorem pdOn_raise (s : State) (e : Ev) (args : List Int) : pdOn (raise s e args) 2 = pdOn s 2 := by
  rw [pdOn, rd_raise (.inl rfl), pdOn]

theorem raise_out_on (s : State) (e : Ev) (args : List Int) (hon : pdOn s 2 = true) :
    (raise s e args).out = .event false e args :: s.out := by
  rw [raise_on s e args hon, emit]

theorem Serves.raise (s : State) (e : Ev) (args : List Int) : Serves s (raise s e args) :=
  ⟨by rw [raise_locket], by rw [raise_locket], pdOn_raise s e args⟩

theorem unlockEnd_serves (s : State) (good : Bool) : Serves s (unlockEnd s good) := by
  cases good with
  | true => exact ((Serves.wr s _ (by decide)).trans (.wr _ _ (by decide))).trans (.raise _ _ _)
  | false => exact (Serves.wr s _ (by decide)).trans (.wr _ _ (by decide))

theorem physWr_serves (s : State) (a : Nat) (bs : List Byte) : Serves s (physWr s a bs) := by
  have := @May.head
  have := @May.tail
  exact .of_kept (physWr_kept (Kept.refl [.mem, .memc] s) a bs)

theorem flashWrite_serves (s : State) (region off : Nat) (bs : List Byte) : Serves s (flashWrite s region off bs) := by
  have := @May.head
  have := @May.tail
  exact .of_kept (flashWrite_kept (Kept.refl [.flash, .power] s) region off bs)

theorem verifyImg_serves (s : State) (i : Nat) : Serves s (verifyImg s i).1 := by
  have := @May.head
  have := @May.tail
  exact .of_kept (verifyImg_kept (Kept.refl [.flash] s) i)

theorem Serves.ite {s : State} {α : Type} {a b : State × α} {c : Prop} [Decidable c] (ha : Serves s a.1) (hb : Serves s b.1) :
    Serves s (if c then a else b).1 := by
  split
  · exact ha
  · exact hb

/-- The calls in the order of their numbers: OWN_ASSIGN, FLASH_WRITE, FLASH_READ, IMAGE_VERIFY, SIGNET, CERT, DEBUG_UNLOCK, DEBUG_LOCK and
DEBUG_KEY. -/
theorem serveCall_serves (s : State) (q : LktCall) : Serves s (serveCall s q).1 := by
  have hself : Serves s s := ⟨rfl, rfl, rfl⟩
  refine .ite hself (.ite (flashWrite_serves ..) (.ite ?read (.ite (verifyImg_serves ..) (.ite (physWr_serves ..)
    (.ite (physWr_serves ..) (.ite (.ite ?unlock hself) (.ite (.wr s _ (by decide)) (.ite ⟨rfl, rfl, rfl⟩ hself))))))))
  case read => exact Serves.trans (t := { s with free := s.free + at0 0 q.args 3 }) ⟨rfl, rfl, rfl⟩ (physWr_serves ..)
  case unlock =>
    exact Serves.trans (t := { s with locket := { s.locket with open_ := false } }) ⟨rfl, rfl, rfl⟩ (unlockEnd_serves ..)

/-- LKT_DONE waits, or takes the call at the front of the queue. -/
theorem lktDone_cases (s : State) : lktDone s = s ∨ ∃ q rest, s.locket.queue = q :: rest ∧
    lktDone s = endCall (serveCall { s with locket := { s.locket with queue := rest } } q).1 q.ticket
      (serveCall { s with locket := { s.locket with queue := rest } } q).2.1
      (serveCall { s with locket := { s.locket with queue := rest } } q).2.2 := by
  cases hqueue : s.locket.queue with
  | nil => exact .inl (by rw [lktDone, hqueue])
  | cons q rest =>
    rw [lktDone, hqueue]
    exact (ite_eq_or_eq _ _ _).imp_right fun hends => ⟨q, rest, rfl, hends⟩

theorem endCall_locket (s : State) (ticket status value : Nat) : (endCall s ticket status value).locket =
    { s.locket with results := (ticket, status, value) :: s.locket.results.take 15 } := raise_locket ..

theorem endCall_out {s : State} (hon : pdOn s 2 = true) (ticket status value : Nat) :
    (endCall s ticket status value).out = .event false .lktDone [(ticket : Int)] :: s.out :=
  raise_out_on _ _ _ hon

/-- Settles O56: a call joins the queue or finds it full (`queueCall`), LKT_DONE takes at most the front call, which serving leaves alone
with the results, and RESULT finds what was kept. -/
theorem queuedCallsAreServedInOrder : Obligations.QueuedCallsAreServedInOrder := by
  refine ⟨fun s cc num args hroom => queueCall_of_room hroom .., fun s cc num args hfull => queueCall_of_full hfull .., ?takes, ?ends,
    ?result⟩
  case takes =>
    rintro s _ ⟨⟩
    rcases lktDone_cases s with hwaits | ⟨q, rest, hqueue, hdone⟩
    · exact .inl (by rw [hwaits])
    · refine .inr ⟨q, ?_⟩
      rw [hdone, endCall_locket, hqueue, (serveCall_serves _ q).queue]
  case ends =>
    rintro s _ q l hqueue ⟨⟩ hleft hon
    rcases lktDone_cases s with hwaits | ⟨p, rest, hfront, hdone⟩
    · rw [hwaits, hqueue] at hleft
      exact absurd hleft (List.cons_ne_self q l)
    · obtain ⟨rfl, rfl⟩ := List.cons.inj (hqueue.symm.trans hfront)
      have hserves := serveCall_serves { s with locket := { s.locket with queue := l } } q
      rw [hdone]
      refine ⟨?_, _, _, by rw [endCall_locket, hserves.results]⟩
      rw [endCall_out (hserves.pd2.trans hon)]
      exact List.mem_cons_self
  case result =>
    rintro s _ r cc hfound hcalls ⟨⟩
    rw [gate_of_calls hcalls, resultCall, flushL1_locket, hfound]
    exact (gateReply_out ..).trans (congrArg _ ((flushL1_kept_caches s cc.val).parts .out (by decide)))

end Sys2Proof.Proofs
end

section
/-! SUPPORT. Two states that the model can be asked about and that two statements leave out: a domain that waits to switch off (R421), and
a crossing log whose NEXT_SLOT names no slot. -/

namespace Sys2Proof.Proofs

open Sys2Proof Sys2Proof.Machine Sys2Proof.Laws

/-- PD2, in mode AUTO, is on, and its request to switch off waits in the queue. -/
def controlWaitsToSwitchOff : State :=
  let s := wr State.reset (E.pd_MODE 2) 1
  { s with power := { s.power with queue := [{ domain := 2, on := false }] } }

theorem controlWaitsToSwitchOff_on : pdState controlWaitsToSwitchOff 2 = 2 := by decide +kernel

/-- A wake event gives the switch-off up (R422). -/
theorem queue_wakeEvent_controlWaitsToSwitchOff : (wakeEvent controlWaitsToSwitchOff 2 1).power.queue = [] := by decide +kernel

/-- Refutes O17: its second WAKE_EVENT clause says that nothing changes where the domain is on (STATE 2), but a domain that is on and
whose switch-off waits is woken: in `controlWaitsToSwitchOff` the waiting request is given up (R421, R422). -/
theorem not_powerDomainsSwitchAndSleep : ¬ Obligations.PowerDomainsSwitchAndSleep := by
  unfold Obligations.PowerDomainsSwitchAndSleep
  rintro ⟨-, -, -, ⟨-, hunchanged⟩, -⟩
  have hexec := hunchanged controlWaitsToSwitchOff 2 1 (.inr (.inl controlWaitsToSwitchOff_on))
  rw [exec_wakeEvent, execWakeEvent] at hexec
  injection hexec with hnext
  have hqueue : controlWaitsToSwitchOff.power.queue = [] := by
    rw [← hnext]
    exact queue_wakeEvent_controlWaitsToSwitchOff
  exact absurd hqueue (List.cons_ne_nil _ _)

/-- NEXT_SLOT of the crossing log names the place of PD2's STATE in place of a slot. -/
def logSlotAtPowerState : State := wr State.reset E.xlog_NEXT_SLOT (E.pd_STATE 2 - slotKey 0x2042 0)

theorem logSlotAtPowerState_refusesReset : resetRefused logSlotAtPowerState 0 = true ∧ heldBlock logSlotAtPowerState 0 = none ∧
    pdOn logSlotAtPowerState 2 = true := by decide +kernel

/-- The entry of the log takes PD2's STATE away, and the event is held back. -/
theorem out_resetRequest_logSlotAtPowerState :
    (resetRequest logSlotAtPowerState 0 none).out = [.msg .fabric [1] []] := by decide +kernel

/-- Refutes O28: its first ISLAND_RESET_REQUEST clause says that the refusal's event leaves the block while PD2 is on, but without a bound
on NEXT_SLOT the entry of the crossing log may overwrite any later entry: in `logSlotAtPowerState` it overwrites PD2's STATE, and the event
is held. -/
theorem not_islandResetsEndInRejoin : ¬ Obligations.IslandResetsEndInRejoin := by
  unfold Obligations.IslandResetsEndInRejoin
  rintro ⟨⟨hrefused, -⟩, -⟩
  obtain ⟨hreset, hheld, hon⟩ := logSlotAtPowerState_refusesReset
  obtain ⟨t, hexec, -, hout, -⟩ := hrefused logSlotAtPowerState 0 hreset hheld hon
  rw [exec_islandResetRequest, execIslandResetRequest] at hexec
  injection hexec with hnext
  have hlength : t.out.length = 1 := by
    rw [← hnext]
    exact congrArg List.length out_resetRequest_logSlotAtPowerState
  rw [hout] at hlength
  exact absurd hlength (by simp)

end Sys2Proof.Proofs
end

section
/-! SUPPORT. Which entries of the dictionary an operation keeps: `entriesKept` along a chain of operations. -/

namespace Sys2Proof.Proofs

open Sys2Proof Sys2Proof.Machine Sys2Proof.Laws

theorem entriesKept_of_od {ks : List Nat} {s t : State} (h : t.od = s.od) : entriesKept ks s t := fun k _ => rd_congr h k

theorem entriesKept_trans {ks : List Nat} {s t u : State} (h : entriesKept ks s t) (h' : entriesKept ks t u) : entriesKept ks s u :=
  fun k hk => (h' k hk).trans (h k hk)

theorem entriesKept_mono {ks ks' : List Nat} {s t : State} (h : entriesKept ks s t) (hsub : ks ⊆ ks') : entriesKept ks' s t :=
  fun k hk => h k fun hmem => hk (hsub hmem)

theorem entriesKept_wr_mem {ks : List Nat} {k : Nat} (s : State) (v : Nat) (hk : k ∈ ks) : entriesKept ks s (wr s k v) :=
  entriesKept_mono (entriesKept_wr s k v) (List.cons_subset.mpr ⟨hk, List.nil_subset _⟩)

theorem kept_trans {ch : List Part} {s t u : State} (h : Kept ch s t) (h' : Kept ch t u) : Kept ch s u where
  pending := h'.pending.trans h.pending
  engraving := h'.engraving.trans h.engraving
  wf w := h'.wf (h.wf w)
  al l := h'.al (h.al l)
  parts p hp := samePart.trans (h.parts p hp) (h'.parts p hp)

theorem raise_entries (s : State) (e : Ev) (args : List Int) : entriesKept [E.pwr_EVENTS_DROPPED] s (raise s e args) := by
  unfold raise
  split
  · exact fun _ _ => rfl
  · split
    · exact fun _ _ => rfl
    · exact entriesKept_wr_mem _ _ (List.mem_singleton_self _)

theorem raise_kept_events (s : State) (e : Ev) (args : List Int) : Kept [.out, .fwQueue, .od] s (raise s e args) := by
  have := @May.head
  have := @May.tail
  exact raise_kept (Kept.refl _ s) e args

theorem lastingEmcy_kept_field (s : State) (code b0 rest : Nat) : Kept [.od, .field] s (lastingEmcy s code b0 rest) := by
  have := @May.head
  have := @May.tail
  exact lastingEmcy_kept (Kept.refl _ s) code b0 rest

end Sys2Proof.Proofs
end

section
/-! SUPPORT. Supply supervision and throttling (R428-R434): what an entry of the supply log, a lasting condition, a change of clock and an
epoch that is given up each leave. -/

namespace Sys2Proof.Proofs

open Sys2Proof Sys2Proof.Machine Sys2Proof.Laws

/-! ### The supply and thermal log (R434) -/

theorem ringEnter_entries (s : State) (idx size : Nat) (read : List Nat) (v : Nat) :
    entriesKept [dkey idx 1, dkey idx 2, slotKey idx (rd s (dkey idx 1))] s (ringEnter s idx size read v) := by
  intro k hk
  simp only [List.mem_cons, List.not_mem_nil, or_false, not_or] at hk
  obtain ⟨hnext, hover, hslot⟩ := hk
  rw [ringEnter, rd_wr_ne _ _ hnext, rd_wr_ne _ _ hslot]
  split
  · exact rd_bump_ne s hover
  · rfl

theorem supplyLog_kept_power (s : State) (kind source : Nat) (value : Int) : Kept [.od, .power] s (supplyLog s kind source value) := by
  have := @May.head
  have := @May.tail
  exact supplyLog_kept (Kept.refl _ s) kind source value

/-- Of the power part an entry of the log changes the slots read alone. -/
theorem supplyLog_power (s : State) (kind source : Nat) (value : Int) :
    (supplyLog s kind source value).power = { s.power with read := s.power.read.filter (· != rd s E.slog_NEXT_SLOT) } := by
  have := @May.head
  have hring := (ringEnter_kept (Kept.refl [.od] s) 0x2130 16 s.power.read
    (s.time % 2 ^ 64 + 2 ^ 64 * (kind + 256 * source) + 2 ^ 96 * ofInt 32 value)).parts .power (by decide)
  simp only [supplyLog, show (ringEnter s 0x2130 16 s.power.read
    (s.time % 2 ^ 64 + 2 ^ 64 * (kind + 256 * source) + 2 ^ 96 * ofInt 32 value)).power = s.power from hring]

/-- An entry of the log is written in it. -/
theorem rd_supplyLog_slot (s : State) (kind source : Nat) (value : Int) :
    rd (supplyLog s kind source value) (slotKey 0x2130 (rd s E.slog_NEXT_SLOT)) =
      s.time % 2 ^ 64 + 2 ^ 64 * (kind + 256 * source) + 2 ^ 96 * ofInt 32 value :=
  rd_ringEnter_slot s 0x2130 16 s.power.read _

theorem rd_supplyLog_below (s : State) (kind source : Nat) (value : Int) {k : Nat} (hk : k < E.slog_NEXT_SLOT) :
    rd (supplyLog s kind source value) k = rd s k := by
  refine ringEnter_entries s 0x2130 16 s.power.read _ k ?_
  have hnext : E.slog_NEXT_SLOT = 0x213001 := rfl
  simp only [List.mem_cons, List.not_mem_nil, or_false, slotKey, dkey]
  omega

/-- An entry of a kind is no value of EPOCH_STATE, wherever it is written. -/
theorem epochState_supplyLog {s : State} (hepoch : rd s E.hm_EPOCH_STATE ≠ 2) {kind : Nat} (hkind : 0 < kind) (source : Nat) (value : Int) :
    rd (supplyLog s kind source value) E.hm_EPOCH_STATE ≠ 2 := by
  by_cases hslot : E.hm_EPOCH_STATE = slotKey 0x2130 (rd s E.slog_NEXT_SLOT)
  · rw [hslot, rd_supplyLog_slot]
    omega
  · have hkept := ringEnter_entries s 0x2130 16 s.power.read
      (s.time % 2 ^ 64 + 2 ^ 64 * (kind + 256 * source) + 2 ^ 96 * ofInt 32 value) E.hm_EPOCH_STATE
    rw [List.mem_cons, List.mem_cons, List.mem_singleton] at hkept
    have hsame : rd (supplyLog s kind source value) E.hm_EPOCH_STATE = rd s E.hm_EPOCH_STATE :=
      hkept (by rintro (h | h | h) <;> [exact absurd h (by decide); exact absurd h (by decide); exact hslot h])
    rwa [hsame]

theorem abandonEpoch_of_ne {s : State} (h : rd s E.hm_EPOCH_STATE ≠ 2) : abandonEpoch s = s := if_neg h

/-! ### Lasting conditions (R111) -/

theorem contains_beginLasting (s : State) (code b0 : Nat) : (beginLasting s code b0).field.lasting.contains (code, b0) = true := by
  change (if s.field.lasting.contains (code, b0) then s.field.lasting else s.field.lasting ++ [(code, b0)]).contains (code, b0) = true
  split
  · assumption
  · simp

theorem queueEmcy_lasting (s : State) (m : Emcy) : (queueEmcy s m).field.lasting = s.field.lasting := by
  unfold queueEmcy
  split <;> rfl

theorem emcy_lasting (s : State) (code b0 rest : Nat) : (emcy s code b0 rest).field.lasting = s.field.lasting := by
  unfold emcy
  split
  · rfl
  · exact queueEmcy_lasting ..

theorem contains_lastingEmcy (s : State) (code b0 rest : Nat) :
    (lastingEmcy s code b0 rest).field.lasting.contains (code, b0) = true := by
  rw [lastingEmcy, emcy_lasting, contains_beginLasting]

theorem contains_endLasting (s : State) (code b0 : Nat) : (endLasting s code b0).field.lasting.contains (code, b0) = false := by
  have hfilter : (s.field.lasting.filter (fun p => p != (code, b0))).contains (code, b0) = false := by simp
  unfold endLasting
  split
  next =>
    dsimp only
    split
    · rw [queueEmcy_lasting]
      exact hfilter
    · exact hfilter
  next h => simpa using h

/-- A clear bit is set by adding its weight, and the others stay. -/
theorem bitOf_add_two_pow {a i : Nat} (hclear : bitOf a i = false) (j : Nat) :
    bitOf (a + 2 ^ i) j = (decide (j = i) || bitOf a j) := by
  have htest : ∀ v n, bitOf v n = v.testBit n := fun v n => by rw [Nat.testBit_eq_decide_div_mod_eq]; rfl
  rw [htest] at hclear
  rw [htest, htest, Nat.add_comm]
  rcases Nat.lt_trichotomy j i with hlt | rfl | hgt
  · rw [Nat.testBit_two_pow_add_gt hlt, decide_eq_false (Nat.ne_of_lt hlt), Bool.false_or]
  · rw [Nat.testBit_two_pow_add_eq, hclear, decide_eq_true rfl]
    rfl
  · obtain ⟨m, rfl⟩ := Nat.exists_eq_add_of_le hgt
    have heven : a / 2 ^ i % 2 = 0 := by
      rw [Nat.testBit_eq_decide_div_mod_eq, decide_eq_false_iff_not] at hclear
      omega
    have hquot : (2 ^ i + a) / 2 ^ (i + 1) = a / 2 ^ (i + 1) := by
      rw [Nat.pow_succ, ← Nat.div_div_eq_div_mul, ← Nat.div_div_eq_div_mul, Nat.add_div_left _ (Nat.two_pow_pos i)]
      omega
    rw [decide_eq_false (by omega), Bool.false_or, Nat.add_comm _ m, Nat.testBit_add, Nat.testBit_add, hquot]

/-- A mask has exactly the listed bits. -/
theorem bitOf_maskOf (l : List Nat) (j : Nat) : bitOf (maskOf l) j = decide (j ∈ l) := by
  have hfold : ∀ (l : List Nat) (a : Nat),
      bitOf (l.foldl (fun a i => if bitOf a i then a else a + 2 ^ i) a) j = (bitOf a j || decide (j ∈ l)) := by
    intro l
    induction l with
    | nil => intro a; simp
    | cons i l ih =>
      intro a
      rw [List.foldl_cons, ih]
      cases hbit : bitOf a i with
      | true => by_cases hj : j = i <;> simp [hj, hbit]
      | false => simp [bitOf_add_two_pow hbit, List.mem_cons, Bool.or_assoc, Bool.or_comm (bitOf a j)]
  rw [maskOf, hfold]
  simp [bitOf]

/-- While a condition lasts, ERROR_REGISTER has the bit of its code. -/
theorem bitOf_lastingRegister {l : List (Nat × Nat)} {code b0 : Nat} (h : l.contains (code, b0) = true) :
    bitOf (lastingRegister l) (emcyBit code) = true := by
  have hmem := List.contains_iff_mem.mp h
  rw [lastingRegister, if_neg (List.ne_nil_of_mem hmem), bitOf_maskOf, decide_eq_true_iff]
  exact .tail _ (List.mem_map.mpr ⟨_, hmem, rfl⟩)

theorem errorRegister_lastingEmcy (s : State) (code b0 rest : Nat) :
    bitOf (rd (lastingEmcy s code b0 rest) E.err_ERROR_REGISTER) (emcyBit code) = true := by
  rw [lastingEmcy, rd_emcy_ne _ _ _ _ (by decide)]
  exact (congrArg (bitOf · _) (rd_wr_same ..)).trans (bitOf_lastingRegister (contains_beginLasting s code b0))

/-- An emergency message that the rate limit lets through and the queue has room for is the last of the queue. -/
theorem last_lastingEmcy {s : State} {code b0 : Nat} (hheld : emcyHeld s code b0 = false) (hroom : s.field.emcyQueue.length < 16)
    (rest : Nat) :
    (lastingEmcy s code b0 rest).field.emcyQueue.getLast?.map (fun m => (m.code, m.data % 256)) = some (code, b0 % 256) := by
  have hheld' : emcyHeld (beginLasting s code b0) code b0 = false := hheld
  rw [lastingEmcy, emcy, if_neg (by rw [hheld']; exact fun h => Bool.false_ne_true h.1), queueEmcy,
    if_pos (show (beginLasting s code b0).field.emcyQueue.length < 16 from hroom)]
  simp

/-! ### Supply warnings (R429) -/

theorem setLevel_eq {s : State} {r : Nat} {l : List Nat} (h : l ≠ []) : setLevel s r l = wr s (E.sup_LEVEL r) (l.getLast?.getD 0) := by
  rw [setLevel, List.getLast?_eq_some_getLast h]
  rfl

/-- The rail's LEVEL is kept and the rail is noted. -/
def railNoted (s : State) (r : Nat) (l : List Nat) : State :=
  { wr s (E.sup_LEVEL r) (l.getLast?.getD 0) with power := { s.power with warning := s.power.warning ++ [r] } }

/-- The warning's event and its emergency message are formed. -/
def warned (s : State) (r : Nat) (l : List Nat) : State :=
  lastingEmcy (raise (railNoted s r l) .supplyWarn [r, lowest l]) 0x3201 r
    (lowest l + 65536 * (threshold s r (rd s (E.sup_WARN r)) / 1000))

theorem supplyWarn_warns {s : State} {r : Nat} {l : List Nat} (hlength : l.length = 4)
    (hlow : ∀ v ∈ l, v * 1000 < nominal s r * (1000 - rd s (E.sup_WARN r))) (hnew : s.power.warning.contains r = false) :
    supplyWarn s r l = abandonEpoch (supplyLog (warned s r l) 1 r (lowest l)) := by
  have hnil : l ≠ [] := List.ne_nil_of_length_eq_add_one hlength
  have hall : l.all (fun v => decide (v * 1000 < threshold s r (rd s (E.sup_WARN r)))) = true :=
    List.all_eq_true.mpr fun v hv => decide_eq_true (hlow v hv)
  rw [supplyWarn, setLevel_eq hnil]
  refine if_neg ?_
  simpa [hlength, hall] using hnew

theorem supplyWarn_keeps_level {s : State} {r : Nat} {l : List Nat} (h : l.length ≠ 4 ∨ s.power.warning.contains r = true) :
    supplyWarn s r l = setLevel s r l :=
  if_pos (h.imp_right .inr)

theorem rd_warned (s : State) (r : Nat) (l : List Nat) {k : Nat} (hlevel : k ≠ E.sup_LEVEL r) (hregister : k ≠ E.err_ERROR_REGISTER)
    (hdropped : k ≠ E.comm_EMCY_DROPPED) (hevents : k ≠ E.pwr_EVENTS_DROPPED) : rd (warned s r l) k = rd s k := by
  rw [warned, lastingEmcy_entries _ _ _ _ k (notMem_two.mpr ⟨hdropped, hregister⟩),
    raise_entries _ _ _ k (by rwa [List.mem_singleton])]
  exact rd_wr_ne _ _ hlevel

theorem rd_level_warned (s : State) (r : Rail) (l : List Nat) : rd (warned s r.val l) (E.sup_LEVEL r.val) = l.getLast?.getD 0 := by
  rw [warned, lastingEmcy_entries _ _ _ _ _ (by
    simp only [notMem_two, E.sup_LEVEL, E.comm_EMCY_DROPPED, E.err_ERROR_REGISTER]; omega), raise_entries _ _ _ _ (by
    simp only [List.mem_singleton, E.sup_LEVEL, E.pwr_EVENTS_DROPPED]; omega)]
  exact rd_wr_same ..

theorem warned_power (s : State) (r : Nat) (l : List Nat) :
    (warned s r l).power = { s.power with warning := s.power.warning ++ [r] } := by
  rw [warned, (lastingEmcy_kept_field ..).parts .power (by decide), (raise_kept_events ..).parts .power (by decide)]
  rfl

theorem warned_time (s : State) (r : Nat) (l : List Nat) : (warned s r l).time = s.time := by
  rw [warned, (lastingEmcy_kept_field ..).parts .time (by decide), (raise_kept_events ..).parts .time (by decide)]
  rfl

theorem warned_out {s : State} {r : Rail} (l : List Nat) (hon : pdOn s 2 = true) :
    (warned s r.val l).out = .event false .supplyWarn [(r.val : Int), (lowest l : Int)] :: s.out := by
  have hon' : pdOn (wr s (E.sup_LEVEL r.val) (l.getLast?.getD 0)) 2 = true := by
    rw [pdOn, rd_wr_ne _ _ (by simp only [E.pd_STATE, E.sup_LEVEL]; omega)]
    exact hon
  rw [warned, (lastingEmcy_kept_field ..).parts .out (by decide)]
  exact raise_out_on _ _ _ hon'

theorem last_emcy_warned {s : State} {r : Rail} (l : List Nat) (hheld : emcyHeld s 0x3201 r.val = false)
    (hroom : s.field.emcyQueue.length < 16) :
    (warned s r.val l).field.emcyQueue.getLast?.map (fun m => (m.code, m.data % 256)) = some (0x3201, r.val) := by
  have hmod : r.val % 256 = r.val := Nat.mod_eq_of_lt (by omega)
  have hraise := raise_kept_events (railNoted s r.val l) .supplyWarn [r.val, lowest l]
  have hfield := hraise.parts .field (by decide)
  have htime := hraise.parts .time (by decide)
  have hlast := last_lastingEmcy (s := raise (railNoted s r.val l) .supplyWarn [r.val, lowest l]) (code := 0x3201) (b0 := r.val)
    (by rw [emcyHeld, hfield, htime]; exact hheld) (by rw [hfield]; exact hroom)
    (lowest l + 65536 * (threshold s r.val (rd s (E.sup_WARN r.val)) / 1000))
  rwa [hmod] at hlast

/-- A rail whose warning ends is noted no more. -/
def warningEnded (s : State) (r mv : Nat) : State :=
  endLasting { wr s (E.sup_LEVEL r) mv with power := { s.power with warning := s.power.warning.filter (· != r) } } 0x3201 r

theorem supplyWarningEnd_ends {s : State} {r mv : Nat} (hwarned : s.power.warning.contains r = true)
    (hhigh : nominal s r * (1010 - rd s (E.sup_WARN r)) < mv * 1000) :
    supplyWarningEnd s r mv = supplyLog (warningEnded s r mv) 2 r mv :=
  if_pos ⟨hwarned, hhigh⟩

theorem supplyWarningEnd_keeps_level {s : State} {r : Nat} (mv : Nat) (h : s.power.warning.contains r = false) :
    supplyWarningEnd s r mv = wr s (E.sup_LEVEL r) mv :=
  if_neg fun hboth => Bool.false_ne_true (h.symm.trans hboth.1)

theorem rd_warningEnded (s : State) (r mv : Nat) {k : Nat} (hlevel : k ≠ E.sup_LEVEL r) (hregister : k ≠ E.err_ERROR_REGISTER)
    (hdropped : k ≠ E.comm_EMCY_DROPPED) : rd (warningEnded s r mv) k = rd s k := by
  rw [warningEnded, rd_endLasting_ne _ _ _ hregister hdropped]
  exact rd_wr_ne _ _ hlevel

theorem rd_level_warningEnded (s : State) (r : Rail) (mv : Nat) : rd (warningEnded s r.val mv) (E.sup_LEVEL r.val) = mv := by
  rw [warningEnded, rd_endLasting_ne _ _ _ (by simp only [E.sup_LEVEL, E.err_ERROR_REGISTER]; omega)
    (by simp only [E.sup_LEVEL, E.comm_EMCY_DROPPED]; omega)]
  exact rd_wr_same ..

/-! ### Clocks and limits (R432) -/

/-- A change of clock leaves every entry but RQ_CLOCK, and of the power part everything but the clocks. -/
structure Clocked (s t : State) : Prop where
  entries : entriesKept [E.thm_RQ_CLOCK] s t
  power : ∃ clocks waits, t.power = { s.power with clocks := clocks, clockWaits := waits }
  kept : Kept [.od, .isl, .power] s t

theorem Clocked.refl (s : State) : Clocked s s := ⟨fun _ _ => rfl, ⟨_, _, rfl⟩, Kept.refl _ s⟩

theorem Clocked.trans {s t u : State} (h : Clocked s t) (h' : Clocked t u) : Clocked s u where
  entries := entriesKept_trans h.entries h'.entries
  power := by
    obtain ⟨_, _, hpower⟩ := h.power
    obtain ⟨c, w, hpower'⟩ := h'.power
    exact ⟨c, w, by rw [hpower', hpower]⟩
  kept := kept_trans h.kept h'.kept

theorem recoverIsland_keeps (s : State) (i : Nat) : (recoverIsland s i).od = s.od ∧ (recoverIsland s i).power = s.power := by
  unfold recoverIsland
  split <;> exact ⟨rfl, rfl⟩

theorem changeClock_clocked (s : State) (i : Nat) : Clocked s (changeClock s i) where
  entries := by
    unfold changeClock
    dsimp only
    split_ifs with hsame hbusy hoff
    · exact fun _ _ => rfl
    · exact fun _ _ => rfl
    · exact entriesKept_wr _ _ _
    · exact entriesKept_trans (entriesKept_of_od (recoverIsland_keeps s i).1) (entriesKept_wr _ _ _)
  power := by
    unfold changeClock
    dsimp only
    split_ifs with hsame hbusy
    · exact ⟨_, _, rfl⟩
    · exact ⟨_, _, rfl⟩
    · exact ⟨_, _, rfl⟩
    · exact ⟨tset (fun _ => 0) s.power.clocks i (clockTarget s i), s.power.clockWaits.filter (· != i), by
        rw [settleRq, wr_power, (recoverIsland_keeps s i).2]⟩
  kept := by
    have := @May.head
    have := @May.tail
    exact changeClock_kept (Kept.refl _ s) i

theorem changeClocks_clocked (l : List Nat) (s : State) : Clocked s (l.foldl changeClock s) :=
  List.foldlRecOn l _ (Clocked.refl s) fun _ h i _ => h.trans (changeClock_clocked _ i)

theorem bitOf_setBit_same (v i : Nat) (b : Bool) : bitOf (setBit v i b) i = b := by
  cases b with
  | true => exact bitOf_setBit_true v i
  | false =>
    have hquot : (v - v / 2 ^ i % 2 * 2 ^ i) / 2 ^ i = v / 2 ^ i - v / 2 ^ i % 2 := by rw [Nat.mul_comm, Nat.sub_mul_div]
    simp only [bitOf, setBit, setFld, fld, Nat.pow_one, Bool.false_eq_true, if_false, Nat.zero_mod, Nat.zero_mul, Nat.add_zero, hquot,
      beq_eq_false_iff_ne]
    omega

theorem rd_bit_setRqLimit (s : State) (mhz : Nat) : bitOf (rd (setRqLimit s mhz) E.thm_THROTTLED) 0 = (mhz != 1400) := by
  rw [setRqLimit, wrBit, rd_wr_same, bitOf_setBit_same]

/-- A limit changes of the power part itself and the clocks alone. -/
theorem setRqLimit_power (s : State) (mhz : Nat) :
    ∃ clocks waits, (setRqLimit s mhz).power = { s.power with rqLimit := mhz, clocks := clocks, clockWaits := waits } := by
  rw [setRqLimit, wrBit, wr_power]
  exact (changeClocks_clocked (rangeFrom 6 4) { s with power := { s.power with rqLimit := mhz } }).power

/-! ### Throttling (R432) -/

theorem lowerRq_eq {s : State} (n : Nat) (h : 700 < s.power.rqLimit) :
    lowerRq s n = lastingEmcy (raise (setRqLimit (beginEpisode s n) (s.power.rqLimit - 100)) .throttle
      [6, ((s.power.rqLimit - 100 : Nat) : Int)]) 0x4201 n (ofInt 16 (tempOf s n)) :=
  if_neg (Nat.not_le.mpr h)

theorem lowerRq_power {s : State} (n : Nat) (h : 700 < s.power.rqLimit) : ∃ clocks waits, (lowerRq s n).power =
    { (beginEpisode s n).power with rqLimit := s.power.rqLimit - 100, clocks := clocks, clockWaits := waits } := by
  rw [lowerRq_eq n h, (lastingEmcy_kept_field ..).parts .power (by decide), (raise_kept_events ..).parts .power (by decide)]
  exact setRqLimit_power _ _

theorem lowerRq_rqLimit {s : State} (n : Nat) (h : 700 < s.power.rqLimit) : (lowerRq s n).power.rqLimit = s.power.rqLimit - 100 := by
  obtain ⟨_, _, hpower⟩ := lowerRq_power n h
  rw [hpower]

theorem lowerRq_lasting {s : State} (n : Nat) (h : 700 < s.power.rqLimit) :
    (lowerRq s n).field.lasting.contains (0x4201, n) = true := by
  rw [lowerRq_eq n h]
  exact contains_lastingEmcy ..

theorem lowerRq_throttled {s : State} (n : Nat) (h : 700 < s.power.rqLimit) (hmax : s.power.rqLimit ≤ 1400) :
    bitOf (rd (lowerRq s n) E.thm_THROTTLED) 0 = true := by
  rw [lowerRq_eq n h, lastingEmcy_entries _ _ _ _ E.thm_THROTTLED (by decide), raise_entries _ _ _ E.thm_THROTTLED (by decide),
    rd_bit_setRqLimit]
  exact bne_iff_ne.mpr (by omega)

theorem beginEpisode_throttle {s : State} (n : Nat) (hnone : s.power.throttle = none) (hepoch : rd s E.hm_EPOCH_STATE ≠ 2) :
    (beginEpisode s n).power.throttle = some n := by
  have hkept : rd (supplyLog { s with power := { s.power with throttle := some n } } 4 n (tempOf s n)) E.hm_EPOCH_STATE ≠ 2 :=
    epochState_supplyLog (s := { s with power := { s.power with throttle := some n } }) hepoch (by decide) _ _
  rw [beginEpisode, hnone]
  dsimp only
  rw [abandonEpoch_of_ne hkept, supplyLog_power]

theorem endEpisode_rqLimit (s : State) : (endEpisode s).power.rqLimit = s.power.rqLimit := by
  unfold endEpisode
  split
  · split
    next n hthrottle hend =>
      have hkept : ∀ (l : List Nat) (t : State), (l.foldl (fun t k => endLasting t 0x4201 k) t).power = t.power := fun l t =>
        List.foldlRecOn (motive := fun u => u.power = t.power) l _ rfl fun u hu k _ => ((endLasting_kept_field u 0x4201 k).parts .power (by decide)).trans hu
      rw [hkept, supplyLog_power]
    · rfl
  · rfl

theorem endEpisode_of_none {s : State} (h : s.power.throttle = none) : endEpisode s = s := by
  rw [endEpisode, h]

theorem endEpisode_of_throttled {s : State} (h : s.power.rqLimit ≠ 1400) : endEpisode s = s := by
  unfold endEpisode
  split
  · exact if_neg fun hend => h hend.1
  · rfl

/-! ### Temperature samples (R432) -/

/-- The twelve TEMP entries take the samples. -/
def sampled (s : State) (l : List Int) : State :=
  (List.range 12).foldl (fun t n => match l[n]? with
    | some v => wr t (E.thm_TEMP n) (ofInt 16 v)
    | none => t) s

theorem toInt_ofInt_16 {v : Int} (h : -32768 ≤ v ∧ v < 32768) : toInt 16 (ofInt 16 v) = v := by
  simp only [toInt, ofInt]
  omega

theorem sampled_entries (s : State) (l : List Int) : entriesKept ((List.range 12).map E.thm_TEMP) s (sampled s l) := by
  intro k hk
  refine rd_foldl (fun t n hn => ?_) s
  split
  · exact rd_wr_ne _ _ fun h => hk (h ▸ List.mem_map_of_mem hn)
  · rfl

theorem sampled_kept (s : State) (l : List Int) : Kept [.od] s (sampled s l) := by
  have := @May.head
  refine List.foldlRecOn (motive := fun t => Kept [.od] s t) (List.range 12) _ (Kept.refl _ s) fun t h n _ => ?_
  split
  · exact h.wr _ _
  · exact h

/-- A fold writes an entry when one of its elements does and the others leave it. -/
theorem rd_foldl_of_mem {β : Type} {f : State → β → State} {k v : Nat} {x : β} (hsame : ∀ t, rd (f t x) k = v)
    (hne : ∀ t y, y ≠ x → rd (f t y) k = rd t k) {l : List β} (hx : x ∈ l) (s : State) : rd (l.foldl f s) k = v := by
  induction l generalizing s with
  | nil => exact absurd hx (List.not_mem_nil)
  | cons y l ih =>
    rw [List.foldl_cons]
    by_cases hl : x ∈ l
    · exact ih hl _
    · obtain rfl : x = y := (List.mem_cons.mp hx).resolve_right hl
      rw [rd_foldl fun t z hz => hne t z fun h => hl (h ▸ hz)]
      exact hsame s

theorem tempOf_sampled (s : State) {l : List Int} (hlength : l.length = 12) (hrange : ∀ v ∈ l, -32768 ≤ v ∧ v < 32768) {n : Nat}
    (hn : n < 12) : tempOf (sampled s l) n = at0 0 l n := by
  have hget : l[n]? = some l[n] := List.getElem?_eq_getElem (by omega)
  have hentry : rd (sampled s l) (E.thm_TEMP n) = ofInt 16 l[n] := by
    refine rd_foldl_of_mem (x := n) (fun t => ?_) (fun t m hm => ?_) (List.mem_range.mpr hn) s
    · rw [hget]
      exact rd_wr_same ..
    · split
      · exact rd_wr_ne _ _ fun h => hm (Nat.add_left_cancel h).symm
      · rfl
  rw [tempOf, hentry, toInt_ofInt_16 (hrange _ (List.getElem_mem _)), at0, hget]
  rfl

theorem throttleT_sampled (s : State) (l : List Int) : throttleT (sampled s l) = throttleT s := by
  rw [throttleT, sampled_entries s l _ (by decide)]
  rfl

theorem sampled_power (s : State) (l : List Int) : (sampled s l).power = s.power := (sampled_kept s l).parts .power (by decide)

/-- What a sample leads to once TEMP holds it. -/
def sampleAnswered (s1 : State) : State :=
  let s2 := match (List.range 12).find? (fun n => decide (throttleT s1 + 50 ≤ tempOf s1 n)) with
    | some n => if s1.power.ccxLow then s1 else raise (setCcx (beginEpisode s1 n) true) .throttle [4, 1200]
    | none => if allCool s1 ∧ s1.power.ccxLow then raise (setCcx s1 false) .throttle [4, 1600] else s1
  let s3 := match hotQuad s2 with
    | some n => if s2.power.rqLimit = 1400 then lowerRq s2 n else s2
    | none => s2
  endEpisode s3

theorem thermalSample_eq (s : State) (l : List Int) : thermalSample s l = sampleAnswered (sampled s l) := rfl

/-- With no sample 5 K above the threshold and the control complex at its clock, a sample is a question for the quads alone. -/
theorem thermalSample_quads {s : State} {l : List Int} (hlength : l.length = 12) (hrange : ∀ v ∈ l, -32768 ≤ v ∧ v < 32768)
    (hbelow : ∀ v ∈ l, v < throttleT s + 50) (hlow : s.power.ccxLow = false) :
    thermalSample s l = endEpisode (match hotQuad (sampled s l) with
      | some n => if s.power.rqLimit = 1400 then lowerRq (sampled s l) n else sampled s l
      | none => sampled s l) := by
  have hfind : (List.range 12).find? (fun n => decide (throttleT (sampled s l) + 50 ≤ tempOf (sampled s l) n)) = none := by
    rw [List.find?_eq_none]
    intro n hn
    have hn' := List.mem_range.mp hn
    have hsample := hbelow l[n] (List.getElem_mem (by omega))
    rw [throttleT_sampled, tempOf_sampled s hlength hrange hn', at0, List.getElem?_eq_getElem (by omega : n < l.length)]
    simpa using hsample
  have hcool : ¬ (allCool (sampled s l) = true ∧ (sampled s l).power.ccxLow = true) := by
    rw [sampled_power, hlow]
    exact fun h => Bool.false_ne_true h.2
  rw [thermalSample_eq, sampleAnswered, hfind]
  dsimp only
  rw [if_neg hcool, sampled_power]

theorem hotQuad_sampled_none {s : State} {l : List Int} (hlength : l.length = 12) (hrange : ∀ v ∈ l, -32768 ≤ v ∧ v < 32768)
    (hbelow : ∀ v ∈ l, v < throttleT s) : hotQuad (sampled s l) = none := by
  rw [hotQuad, List.find?_eq_none]
  intro n hn
  have hn' : n < 12 := by
    simp only [List.mem_cons, List.not_mem_nil, or_false] at hn
    omega
  rw [throttleT_sampled, tempOf_sampled s hlength hrange hn', at0, List.getElem?_eq_getElem (by omega : n < l.length)]
  simpa using hbelow l[n] (List.getElem_mem _)

theorem hotQuad_sampled {s : State} {l : List Int} {n : Nat} (hlength : l.length = 12) (hrange : ∀ v ∈ l, -32768 ≤ v ∧ v < 32768)
    (hlow : 1 ≤ n) (hhigh : n ≤ 4) (hbelow : ∀ m, m < n → at0 0 l m < throttleT s) (hhot : throttleT s ≤ at0 0 l n) :
    hotQuad (sampled s l) = some n := by
  have htemp : ∀ m, m < 12 → tempOf (sampled s l) m = at0 0 l m := fun m => tempOf_sampled s hlength hrange
  have hquad : ∀ m, m < 12 → decide (throttleT s ≤ at0 0 l m) = decide (throttleT (sampled s l) ≤ tempOf (sampled s l) m) := fun m hm => by
    rw [htemp m hm, throttleT_sampled]
  have hcool : ∀ m, m < n → decide (throttleT s ≤ at0 0 l m) = false := fun m hm => decide_eq_false (Int.not_le.mpr (hbelow m hm))
  have hhot' : decide (throttleT s ≤ at0 0 l n) = true := decide_eq_true hhot
  rw [hotQuad]
  simp only [List.find?, ← hquad 1 (by decide), ← hquad 2 (by decide), ← hquad 3 (by decide), ← hquad 4 (by decide)]
  obtain rfl | rfl | rfl | rfl : n = 1 ∨ n = 2 ∨ n = 3 ∨ n = 4 := by omega
  · rw [hhot']
  · rw [hcool 1 (by decide), hhot']
  · rw [hcool 1 (by decide), hcool 2 (by decide), hhot']
  · rw [hcool 1 (by decide), hcool 2 (by decide), hcool 3 (by decide), hhot']

end Sys2Proof.Proofs
end

section
/-! O18: supply warnings and temperature throttling. -/

namespace Sys2Proof.Proofs

open Sys2Proof Sys2Proof.Machine Sys2Proof.Laws

/-- Settles O18: a warning forms its event and its message from a state in which no epoch runs, so that none is given up after them; a
sample writes TEMP and is then a question for the hottest quad alone. -/
theorem supplyAndHeatAreAnswered : Obligations.SupplyAndHeatAreAnswered := by
  unfold Obligations.SupplyAndHeatAreAnswered
  refine ⟨⟨?warn, ?keeps⟩, ⟨?warningEnd, ?endKeeps⟩, ⟨?cool, ?hot⟩, ⟨?step, ?stepIdle⟩, ⟨?raise, ?raiseIdle⟩⟩
  case warn =>
    intro s r l hlength hlow hnew hepoch _ hheld hroom hon
    have hlevel : ∀ {k : Nat}, k < 0x212009 ∨ 0x212100 ≤ k → k ≠ E.sup_LEVEL r.val := fun h => by
      simp only [E.sup_LEVEL]
      omega
    have hepoch' : rd (warned s r.val l) E.hm_EPOCH_STATE ≠ 2 := by
      rwa [rd_warned s r.val l (hlevel (by decide)) (by decide) (by decide) (by decide)]
    refine ⟨_, congrArg Host.Outcome.next (supplyWarn_warns hlength hlow hnew), ?_⟩
    rw [abandonEpoch_of_ne (epochState_supplyLog hepoch' (by decide) _ _)]
    have hkept := supplyLog_kept_power (warned s r.val l) 1 r.val (lowest l)
    have hslot : rd (warned s r.val l) E.slog_NEXT_SLOT = rd s E.slog_NEXT_SLOT :=
      rd_warned s r.val l (hlevel (by decide)) (by decide) (by decide) (by decide)
    refine ⟨?_, ?_, ?_, ?_, ?_, ?_, ?_⟩
    · rw [supplyLog_power, warned_power]
    · rw [rd_supplyLog_below _ _ _ _ (by simp only [E.sup_LEVEL, E.slog_NEXT_SLOT]; omega), rd_level_warned]
    · rw [hkept.parts .out (by decide)]
      exact warned_out l hon
    · rw [rd_supplyLog_below _ _ _ _ (by decide)]
      exact errorRegister_lastingEmcy ..
    · rw [hkept.parts .field (by decide)]
      exact contains_lastingEmcy ..
    · rw [hkept.parts .field (by decide)]
      exact last_emcy_warned l hheld hroom
    · rw [← hslot, rd_supplyLog_slot, warned_time]
  case keeps => exact fun s r l h => congrArg Host.Outcome.next (supplyWarn_keeps_level h)
  case warningEnd =>
    intro s r mv hwarned hhigh
    have hslot : rd (warningEnded s r.val mv) E.slog_NEXT_SLOT = rd s E.slog_NEXT_SLOT :=
      rd_warningEnded s r.val mv (by simp only [E.sup_LEVEL, E.slog_NEXT_SLOT]; omega) (by decide) (by decide)
    have hended := endLasting_kept_field
      { wr s (E.sup_LEVEL r.val) mv with power := { s.power with warning := s.power.warning.filter (· != r.val) } } 0x3201 r.val
    refine ⟨_, congrArg Host.Outcome.next (supplyWarningEnd_ends hwarned hhigh), ?_, ?_, ?_, ?_⟩
    · rw [supplyLog_power, warningEnded, hended.parts .power (by decide)]
    · rw [rd_supplyLog_below _ _ _ _ (by simp only [E.sup_LEVEL, E.slog_NEXT_SLOT]; omega), rd_level_warningEnded]
    · rw [(supplyLog_kept_power _ _ _ _).parts .field (by decide)]
      exact contains_endLasting ..
    · rw [← hslot, rd_supplyLog_slot, warningEnded, hended.parts .time (by decide)]
      rfl
  case endKeeps => exact fun s r mv h => congrArg Host.Outcome.next (supplyWarningEnd_keeps_level mv h)
  case cool =>
    intro s l hlength hccx hbelow hnone hrange
    have hsample : thermalSample s l = sampled s l := by
      rw [thermalSample_quads hlength hrange (fun v hv => by have := hbelow v hv; omega) hccx,
        hotQuad_sampled_none hlength hrange hbelow]
      exact endEpisode_of_none (by rw [sampled_power, hnone])
    exact ⟨_, congrArg Host.Outcome.next hsample, fun n hn => tempOf_sampled s hlength hrange hn, sampled_power s l,
      (sampled_kept s l).parts .out (by decide)⟩
  case hot =>
    intro s l n hlength hone hfour hcool hhot hbelow hrange hlimit hnone hccx hepoch
    have hlimit' : (sampled s l).power.rqLimit = 1400 := by rw [sampled_power, hlimit]
    have hroom : 700 < (sampled s l).power.rqLimit := by omega
    have hlowered : (lowerRq (sampled s l) n).power.rqLimit = 1300 := by rw [lowerRq_rqLimit n hroom, hlimit']
    have hsample : thermalSample s l = lowerRq (sampled s l) n := by
      rw [thermalSample_quads hlength hrange hbelow hccx, hotQuad_sampled hlength hrange hone hfour hcool hhot]
      dsimp only
      rw [if_pos hlimit, endEpisode_of_throttled (by rw [hlowered]; decide)]
    refine ⟨_, congrArg Host.Outcome.next hsample, hlowered, ?_, lowerRq_lasting n hroom, lowerRq_throttled n hroom (by omega)⟩
    obtain ⟨_, _, hpower⟩ := lowerRq_power n hroom
    rw [hpower]
    exact beginEpisode_throttle n (by rw [sampled_power, hnone]) (by rwa [sampled_entries s l _ (by decide)])
  case step =>
    intro s n hhot hlow hhigh
    have hstep : throttleStep s = lowerRq s n := by
      rw [throttleStep, hhot]
      exact if_pos hhigh
    exact ⟨_, congrArg Host.Outcome.next hstep, lowerRq_rqLimit n hlow, lowerRq_lasting n hlow⟩
  case stepIdle =>
    refine fun s h => congrArg Host.Outcome.next ?_
    unfold throttleStep
    split
    next n hhot =>
      have hlow : s.power.rqLimit ≤ 700 := h.resolve_left (by rw [hhot]; exact Option.some_ne_none n)
      rw [lowerRq, if_pos hlow, ite_self]
    next => rfl
  case raise =>
    intro s hcool hlow
    have hraise : throttleRaise s = endEpisode (raise (setRqLimit s (min 1400 (s.power.rqLimit + 100))) .throttle
        [6, ((min 1400 (s.power.rqLimit + 100) : Nat) : Int)]) := if_pos ⟨hcool, hlow⟩
    refine ⟨_, congrArg Host.Outcome.next hraise, ?_⟩
    obtain ⟨_, _, hpower⟩ := setRqLimit_power s (min 1400 (s.power.rqLimit + 100))
    rw [endEpisode_rqLimit, (raise_kept_events ..).parts .power (by decide), hpower]
  case raiseIdle =>
    refine fun s h => congrArg Host.Outcome.next (if_neg fun hboth => ?_)
    obtain hwarm | hhigh := h
    · exact Bool.false_ne_true (hwarm.symm.trans hboth.1)
    · exact absurd hboth.2 (Nat.not_lt.mpr hhigh)

end Sys2Proof.Proofs
end

section
/-! SUPPORT. Ageing (R435-R440): what a record of the Hallmark leaves, and an epoch that falls due. -/

namespace Sys2Proof.Proofs

open Sys2Proof Sys2Proof.Machine Sys2Proof.Laws

theorem rd_bump_same (s : State) (k : Nat) : rd (bump s k) k = satInc (rd s k) 1 := rd_wr_same ..

/-! ### Records (R437, R438) -/

/-- The entries of the record in force. -/
def planWritten (s : State) (r : HallmarkRec) : State :=
  let low := (List.range 22).foldl (fun m i => min m (marginOf r i)) 255
  let s1 := wr (wr (wr s E.hm_SEQ r.seq) E.hm_TARGET_MV r.targetMv) E.hm_MIN_MARGIN low
  let s2 := wr s1 E.hm_RAISE_LEFT (50 - (r.targetMv - factoryMv))
  wr s2 E.hm_CEILINGS (leVal ((List.range 22).flatMap (fun i => leBytes 2 (ceilingOf r i))))

/-- A command to the regulator waits unless the target stays. -/
def avsAsked (same : Prop) [Decidable same] (s : State) : State := if same then s else { s with power := { s.power with avsPending := true } }

theorem avsAsked_keeps (same : Prop) [Decidable same] (s : State) : (avsAsked same s).od = s.od ∧
    (avsAsked same s).power.due = s.power.due ∧ (avsAsked same s).power.hits = s.power.hits ∧
    (avsAsked same s).power.windowEnd = s.power.windowEnd ∧ (avsAsked same s).flash = s.flash := by
  unfold avsAsked
  split <;> exact ⟨rfl, rfl, rfl, rfl, rfl⟩

/-- The record in force, before the clocks follow it. -/
def planned (s : State) (r : HallmarkRec) : State := avsAsked (rd s E.hm_TARGET_MV = r.targetMv) (planWritten s r)

theorem applyPlan_clocked (s : State) (r : HallmarkRec) : Clocked (planned s r) (applyPlan s r) := changeClocks_clocked _ _

theorem rd_planned (s : State) (r : HallmarkRec) (k : Nat) : rd (planned s r) k = rd (planWritten s r) k :=
  rd_congr (avsAsked_keeps _ _).1 k

theorem planWritten_kept (s : State) (r : HallmarkRec) : Kept [.od] s (planWritten s r) := by
  have := @May.head
  exact (((((Kept.refl [.od] s).wr _ _).wr _ _).wr _ _).wr _ _).wr _ _

theorem rd_planned_ne (s : State) (r : HallmarkRec) {k : Nat}
    (h : k ∉ [E.hm_SEQ, E.hm_TARGET_MV, E.hm_MIN_MARGIN, E.hm_RAISE_LEFT, E.hm_CEILINGS]) : rd (planned s r) k = rd s k := by
  simp only [List.mem_cons, List.not_mem_nil, or_false, not_or] at h
  obtain ⟨hseq, htarget, hmargin, hraise, hceilings⟩ := h
  rw [rd_planned, planWritten, rd_wr_ne _ _ hceilings, rd_wr_ne _ _ hraise, rd_wr_ne _ _ hmargin, rd_wr_ne _ _ htarget, rd_wr_ne _ _ hseq]

theorem rd_seq_planned (s : State) (r : HallmarkRec) : rd (planned s r) E.hm_SEQ = r.seq := by
  rw [rd_planned, planWritten, rd_wr_ne _ _ (by decide), rd_wr_ne _ _ (by decide), rd_wr_ne _ _ (by decide), rd_wr_ne _ _ (by decide), rd_wr_same]

theorem rd_target_planned (s : State) (r : HallmarkRec) : rd (planned s r) E.hm_TARGET_MV = r.targetMv := by
  rw [rd_planned, planWritten, rd_wr_ne _ _ (by decide), rd_wr_ne _ _ (by decide), rd_wr_ne _ _ (by decide), rd_wr_same]

theorem planned_due (s : State) (r : HallmarkRec) : (planned s r).power.due = s.power.due ∧ (planned s r).power.hits = s.power.hits ∧
    (planned s r).power.windowEnd = s.power.windowEnd ∧ (planned s r).flash = s.flash := by
  have hkept := (planWritten_kept s r).parts
  obtain ⟨-, hdue, hhits, hwindow, hflash⟩ := avsAsked_keeps (rd s E.hm_TARGET_MV = r.targetMv) (planWritten s r)
  rw [← hkept .power (by decide), ← hkept .flash (by decide)]
  exact ⟨hdue, hhits, hwindow, hflash⟩

/-- The record is kept with those of the other slot, the counters start anew and the hours are persisted. -/
def recordKept (s : State) (r : HallmarkRec) : State :=
  { putRecord s r with power := { (putRecord s r).power with hits := [] }, flash := { s.flash with hours := rd s E.hm_HOURS } }

theorem rd_recordKept (s : State) (r : HallmarkRec) (k : Nat) : rd (recordKept s r) k = rd s k := rfl

theorem writeRecord_clocked (s : State) (r : HallmarkRec) : Clocked (planned (recordKept s r) r) (writeRecord s r) :=
  applyPlan_clocked _ _

/-- A record leaves of the dictionary everything but its own entries and RQ_CLOCK. -/
theorem rd_writeRecord_ne (s : State) (r : HallmarkRec) {k : Nat} (hclock : k ≠ E.thm_RQ_CLOCK)
    (h : k ∉ [E.hm_SEQ, E.hm_TARGET_MV, E.hm_MIN_MARGIN, E.hm_RAISE_LEFT, E.hm_CEILINGS]) : rd (writeRecord s r) k = rd s k := by
  rw [(writeRecord_clocked s r).entries k (List.mem_singleton.not.mpr hclock), rd_planned_ne _ _ h, rd_recordKept]

theorem rd_seq_writeRecord (s : State) (r : HallmarkRec) : rd (writeRecord s r) E.hm_SEQ = r.seq := by
  rw [(writeRecord_clocked s r).entries E.hm_SEQ (by decide), rd_seq_planned]

theorem rd_target_writeRecord (s : State) (r : HallmarkRec) : rd (writeRecord s r) E.hm_TARGET_MV = r.targetMv := by
  rw [(writeRecord_clocked s r).entries E.hm_TARGET_MV (by decide), rd_target_planned]

theorem writeRecord_due (s : State) (r : HallmarkRec) : (writeRecord s r).power.due = s.power.due ∧
    (writeRecord s r).power.hits = [] ∧ (writeRecord s r).power.windowEnd = s.power.windowEnd := by
  obtain ⟨_, _, hpower⟩ := (writeRecord_clocked s r).power
  obtain ⟨hdue, hhits, hwindow, -⟩ := planned_due (recordKept s r) r
  rw [hpower]
  exact ⟨hdue, hhits, hwindow⟩

theorem writeRecord_hours (s : State) (r : HallmarkRec) : (writeRecord s r).flash.hours = rd s E.hm_HOURS := by
  obtain ⟨-, -, -, hflash⟩ := planned_due (recordKept s r) r
  rw [(writeRecord_clocked s r).kept.parts .flash (by decide), hflash]
  rfl

theorem nextRecord_seq (s : State) (kind result : Nat) : (nextRecord s kind result).seq = rd s E.hm_SEQ + 1 := rfl

/-! ### Epochs (R436, R437) -/

theorem epochDue_of_idle {s : State} (h : rd s E.hm_EPOCH_STATE = 0) (why : Nat) :
    epochDue s why = wr { s with power := { s.power with due := why } } E.hm_EPOCH_STATE 1 := if_pos h

theorem epochDue_falls_due {s : State} (h : rd s E.hm_EPOCH_STATE = 0) (why : Nat) : rd (epochDue s why) E.hm_EPOCH_STATE = 1 ∧
    (epochDue s why).power.due = why ∧ (epochDue s why).flash = s.flash ∧ entriesKept [E.hm_EPOCH_STATE] s (epochDue s why) := by
  rw [epochDue_of_idle h]
  exact ⟨rd_wr_same .., rfl, rfl, fun k hk => rd_wr_ne _ _ (List.mem_singleton.not.mp hk)⟩

theorem epochDue_of_ne {s : State} (h : rd s E.hm_EPOCH_STATE ≠ 0) (why : Nat) : epochDue s why = s := if_neg h

theorem abandonEpoch_of_running {s : State} (h : rd s E.hm_EPOCH_STATE = 2) :
    abandonEpoch s = raise (wr (writeRecord s (nextRecord s s.power.due 1)) E.hm_EPOCH_STATE 1) .epochDone [1] := if_pos h

/-- A new plan is told, with an emergency message, for every island whose ceiling it lowers. -/
def replanTold (old r : HallmarkRec) (s : State) : State :=
  (List.range 22).foldl (fun t i =>
    if ceilingOf r i < ceilingOf old i then raise (emcy t 0xFF03 i (ceilingOf r i)) .hallmarkReplan [i, ceilingOf r i] else t) s

theorem epochDone_of_running {s : State} (h : rd s E.hm_EPOCH_STATE = 2) (m : EpochMeas) :
    epochDone s m = raise (wr { replanTold (plan s) (epochRecord s m) (writeRecord s (epochRecord s m)) with
      power := { (replanTold (plan s) (epochRecord s m) (writeRecord s (epochRecord s m))).power with due := 0 } } E.hm_EPOCH_STATE 0)
      .epochDone [0] := if_neg (not_not_intro h)

theorem rd_replanTold (old r : HallmarkRec) (s : State) {k : Nat} (hdropped : k ≠ E.comm_EMCY_DROPPED) (hevents : k ≠ E.pwr_EVENTS_DROPPED) :
    rd (replanTold old r s) k = rd s k := by
  refine rd_foldl (fun t i _ => ?_) s
  split
  · rw [raise_entries _ _ _ k (List.mem_singleton.not.mpr hevents), rd_emcy_ne _ _ _ _ hdropped]
  · rfl

theorem replanTold_kept (old r : HallmarkRec) (s : State) : Kept [.od, .out, .fwQueue, .field] s (replanTold old r s) := by
  have := @May.head
  have := @May.tail
  refine List.foldlRecOn (motive := fun t => Kept [.od, .out, .fwQueue, .field] s t) (List.range 22) _ (Kept.refl _ s) fun t h i _ => ?_
  split
  · exact raise_kept (emcy_kept h _ _ _) _ _
  · exact h

/-! ### Detector hits (R435) -/

/-- A hit is counted for its island and in TED_HITS, and its event is formed. -/
def hitTold (s : State) (i : Nat) : State :=
  raise (bump { s with power := { s.power with
    hits := tset (fun _ => 0) s.power.hits i (satInc (tget (fun _ => 0) s.power.hits i) 1) } } E.hm_TED_HITS) .tedHit [i]

theorem rd_hitTold (s : State) (i : Nat) {k : Nat} (hhits : k ≠ E.hm_TED_HITS) (hevents : k ≠ E.pwr_EVENTS_DROPPED) :
    rd (hitTold s i) k = rd s k := by
  rw [hitTold, raise_entries _ _ _ k (List.mem_singleton.not.mpr hevents), rd_bump_ne _ hhits]
  rfl

theorem rd_hits_hitTold (s : State) (i : Nat) : rd (hitTold s i) E.hm_TED_HITS = satInc (rd s E.hm_TED_HITS) 1 := by
  rw [hitTold, raise_entries _ _ _ E.hm_TED_HITS (by decide), rd_bump_same]
  rfl

theorem hitTold_flash (s : State) (i : Nat) : (hitTold s i).flash = s.flash := (raise_kept_events ..).parts .flash (by decide)

theorem tedHit_in_epoch {s : State} {i : Nat} (h : rd s E.hm_EPOCH_STATE = 2) : tedHit s i = hitTold s i :=
  if_pos ((rd_hitTold s i (by decide) (by decide)).trans h)

theorem tedHit_raises {s : State} {i : Nat} (hstate : rd s E.hm_EPOCH_STATE ≠ 2) (hroom : rd s E.hm_TARGET_MV + 10 ≤ factoryMv + 50) :
    tedHit s i = epochDue (writeRecord (hitTold s i) { nextRecord (hitTold s i) 3 0 with targetMv := rd s E.hm_TARGET_MV + 10 }) 3 := by
  have htarget := rd_hitTold s i (k := E.hm_TARGET_MV) (by decide) (by decide)
  refine (if_neg fun h => hstate ((rd_hitTold s i (by decide) (by decide)).symm.trans h)).trans ?_
  rw [← htarget] at hroom ⊢
  exact congrArg (epochDue · 3) (if_pos hroom)

/-! ### The entries of an epoch (R436) -/

theorem epochs_isImmediate : isImmediate E.hm_EPOCH_NOW = true ∧ isImmediate E.hm_MAINT_WINDOW = true := by decide +kernel

theorem writeNow_epochNow (s : State) (who : Requester) (p : Nat) (v : List Byte) (off : Nat) (bytes : List Byte) :
    writeNow s who p E.hm_EPOCH_NOW v off bytes = epochDue s 2 := by
  simp +decide [writeNow]

theorem writeNow_maintWindow (s : State) (who : Requester) (p : Nat) (v : List Byte) (off : Nat) (bytes : List Byte) :
    writeNow s who p E.hm_MAINT_WINDOW v off bytes = openWindow s (leVal v) := by
  simp +decide [writeNow]

theorem leVal_leBytes_two {v : Nat} (h : v < 65536) : leVal (leBytes 2 v) = v := by
  simp only [leBytes, leVal, BitVec.toNat_ofNat]
  omega

theorem writeNum_epochNow {s : State} {who : Requester} (h : accepts s who E.hm_EPOCH_NOW 0 [1] [1] = true) :
    writeNum s who E.hm_EPOCH_NOW 1 1 = acknowledged (epochDue (begun s who) 2) who E.hm_EPOCH_NOW 0 (leBytes 1 1) := by
  rw [writeNum_immediate h epochs_isImmediate.1 (by decide), writeNow_epochNow]

theorem writeNum_maintWindow {s : State} {who : Requester} {n : Nat} (hn : n < 65536)
    (h : accepts s who E.hm_MAINT_WINDOW 0 (leBytes 2 n) (leBytes 2 n) = true) :
    writeNum s who E.hm_MAINT_WINDOW 2 n = acknowledged (openWindow (begun s who) n) who E.hm_MAINT_WINDOW 0 (leBytes 2 n) := by
  rw [writeNum_immediate h epochs_isImmediate.2 (by decide), writeNow_maintWindow, leVal_leBytes_two hn]

end Sys2Proof.Proofs
end

section
/-! O19: ageing. -/

namespace Sys2Proof.Proofs

open Sys2Proof Sys2Proof.Machine Sys2Proof.Laws

/-- Settles O19: a record is what a hit, an epoch done and an epoch given up have in common; after it the clocks follow the plan, which
leaves the Hallmark's entries. -/
theorem hallmarkEpochsFollowAgeing : Obligations.HallmarkEpochsFollowAgeing := by
  unfold Obligations.HallmarkEpochsFollowAgeing
  refine ⟨⟨?hit, ?hitInEpoch⟩, ⟨?hour, ?hourIdle⟩, fun s => rfl, ⟨?now, ?nowIdle⟩, ⟨?start, ?startIdle⟩, ⟨?done, ?doneIdle⟩,
    ⟨?window, ?noWindow⟩, ⟨?close, ?closeInEpoch⟩, fun s => rfl, fun s => rfl⟩
  case hit =>
    intro s i hidle hroom _
    have hkept : ∀ {k : Nat}, k ≠ E.hm_TED_HITS → k ≠ E.pwr_EVENTS_DROPPED → rd (hitTold s i.val) k = rd s k := rd_hitTold s i.val
    have hstate : rd (writeRecord (hitTold s i.val) { nextRecord (hitTold s i.val) 3 0 with targetMv := rd s E.hm_TARGET_MV + 10 })
        E.hm_EPOCH_STATE = 0 := by
      rw [rd_writeRecord_ne _ _ (by decide) (by decide), hkept (by decide) (by decide), hidle]
    refine ⟨_, congrArg Host.Outcome.next (tedHit_raises (by rw [hidle]; decide) hroom), ?_⟩
    obtain ⟨hepoch, hdue, hflash, hentries⟩ := epochDue_falls_due hstate 3
    refine ⟨?_, ?_, hepoch, ?_, ?_, ?_⟩
    · rw [hentries E.hm_TARGET_MV (by decide), rd_target_writeRecord]
    · rw [hentries E.hm_TED_HITS (by decide), rd_writeRecord_ne _ _ (by decide) (by decide), rd_hits_hitTold]
    · rw [hdue]
    · rw [hentries E.hm_SEQ (by decide), rd_seq_writeRecord]
      dsimp only [nextRecord]
      rw [hkept (by decide) (by decide)]
    · rw [hflash, writeRecord_hours, hkept (by decide) (by decide)]
  case hitInEpoch =>
    intro s i hrunning
    refine ⟨_, congrArg Host.Outcome.next (tedHit_in_epoch hrunning), rd_hits_hitTold s i.val, fun k hk => ?_, hitTold_flash s i.val⟩
    obtain ⟨hhits, hevents⟩ := notMem_two.mp hk
    exact rd_hitTold s i.val hhits hevents
  case hour =>
    intro s hlow hhigh
    have hexec : exec .hoursTick s = .next (if rd (bump s E.hm_HOURS) E.hm_HOURS % rd (bump s E.hm_HOURS) E.hm_EPOCH_HOURS = 0 then
        epochDue (bump s E.hm_HOURS) 1 else bump s E.hm_HOURS) := congrArg Host.Outcome.next (if_pos ⟨hlow, hhigh⟩)
    have hperiod : rd (bump s E.hm_HOURS) E.hm_EPOCH_HOURS = rd s E.hm_EPOCH_HOURS := rd_bump_ne s (by decide)
    have hstate : rd (bump s E.hm_HOURS) E.hm_EPOCH_STATE = rd s E.hm_EPOCH_STATE := rd_bump_ne s (by decide)
    refine ⟨_, hexec, ?_⟩
    rw [hperiod]
    split
    next hdue =>
      have hhours : rd (epochDue (bump s E.hm_HOURS) 1) E.hm_HOURS = rd (bump s E.hm_HOURS) E.hm_HOURS := by
        by_cases hidle : rd (bump s E.hm_HOURS) E.hm_EPOCH_STATE = 0
        · rw [epochDue_of_idle hidle]
          exact rd_wr_ne _ _ (by decide)
        · rw [epochDue_of_ne hidle]
      refine ⟨hhours.trans (rd_bump_same ..), fun _ hidle => ?_, fun hne => absurd (hhours ▸ hdue) hne⟩
      rw [epochDue_of_idle (hstate.trans hidle)]
      exact ⟨rd_wr_same .., rfl⟩
    next hnot => exact ⟨rd_bump_same .., fun hdue => absurd hdue hnot, fun _ => rfl⟩
  case hourIdle => exact fun s h => congrArg Host.Outcome.next (if_neg (by omega))
  case now =>
    intro s who haccepts hidle
    refine ⟨_, congrArg Host.Outcome.next (writeNum_epochNow haccepts), ?_⟩
    rw [epochDue_of_idle (by rw [begun_rd, hidle])]
    refine ⟨?_, ?_, fun k hk => ?_, ?_⟩
    · rw [acknowledged_rd]
      exact rd_wr_same ..
    · rw [acknowledged_power]
      rfl
    · rw [acknowledged_rd, rd_wr_ne _ _ (List.mem_singleton.not.mp hk)]
      exact begun_rd s who k
    · rw [acknowledged_mem]
      exact begun_mem s who
  case nowIdle =>
    intro s who haccepts hbusy
    refine ⟨_, congrArg Host.Outcome.next (writeNum_epochNow haccepts), ?_⟩
    rw [epochDue_of_ne (by rwa [begun_rd])]
    exact ⟨fun k _ => by rw [acknowledged_rd, begun_rd], by rw [acknowledged_power, begun_power], by rw [acknowledged_mem, begun_mem]⟩
  case start => exact fun s hdue hwindow hstopped => congrArg Host.Outcome.next (if_pos ⟨hdue, hwindow, by rw [hstopped]; decide⟩)
  case startIdle =>
    refine fun s h => congrArg Host.Outcome.next (if_neg fun ⟨hdue, hwindow, _⟩ => ?_)
    obtain hne | hnone := h
    · exact hne hdue
    · rw [hnone] at hwindow
      exact Bool.false_ne_true hwindow
  case done =>
    intro s m hrunning
    have htold : ∀ {k : Nat}, k ≠ E.comm_EMCY_DROPPED → k ≠ E.pwr_EVENTS_DROPPED → k ≠ E.hm_EPOCH_STATE →
        rd (epochDone s m) k = rd (writeRecord s (epochRecord s m)) k := fun hdropped hevents hstate => by
      rw [epochDone_of_running hrunning, raise_entries _ _ _ _ (List.mem_singleton.not.mpr hevents), rd_wr_ne _ _ hstate]
      exact rd_replanTold _ _ _ hdropped hevents
    have hflash : (epochDone s m).flash = (writeRecord s (epochRecord s m)).flash := by
      rw [epochDone_of_running hrunning, (raise_kept_events ..).parts .flash (by decide), wr_flash]
      exact (replanTold_kept ..).parts .flash (by decide)
    have hpower : (epochDone s m).power = { (writeRecord s (epochRecord s m)).power with due := 0 } := by
      rw [epochDone_of_running hrunning, (raise_kept_events ..).parts .power (by decide), ← (replanTold_kept (plan s) (epochRecord s m)
        (writeRecord s (epochRecord s m))).parts .power (by decide)]
      rfl
    obtain ⟨-, hhits, -⟩ := writeRecord_due s (epochRecord s m)
    refine ⟨_, rfl, ?_, ?_, ?_, ?_, ?_, ?_⟩
    · rw [epochDone_of_running hrunning, raise_entries _ _ _ E.hm_EPOCH_STATE (by decide), rd_wr_same]
    · rw [hpower]
    · rw [hpower, hhits]
    · exact (htold (by decide) (by decide) (by decide)).trans (rd_seq_writeRecord ..)
    · exact (htold (by decide) (by decide) (by decide)).trans (rd_target_writeRecord ..)
    · rw [hflash, writeRecord_hours]
  case doneIdle => exact fun s m h => congrArg Host.Outcome.next (if_pos h)
  case window =>
    intro s who n hpos hn haccepts
    refine ⟨_, congrArg Host.Outcome.next (writeNum_maintWindow hn haccepts), ?_⟩
    rw [openWindow, if_neg (by omega : ¬ n = 0)]
    refine ⟨?_, fun k _ => ?_, ?_⟩
    · rw [acknowledged_power, ← begun_time s who]
    · rw [acknowledged_rd]
      exact begun_rd s who k
    · rw [acknowledged_mem]
      exact begun_mem s who
  case noWindow =>
    intro s who haccepts hstate
    have hclosed : openWindow (begun s who) 0 = { begun s who with power := { (begun s who).power with windowEnd := none } } := by
      rw [openWindow, if_pos rfl, closeWindow]
      exact abandonEpoch_of_ne (by rwa [← begun_rd s who] at hstate)
    refine ⟨_, congrArg Host.Outcome.next (writeNum_maintWindow (by decide) haccepts), ?_⟩
    rw [hclosed]
    refine ⟨?_, fun k _ => ?_, ?_⟩
    · rw [acknowledged_power]
    · rw [acknowledged_rd]
      exact begun_rd s who k
    · rw [acknowledged_mem]
      exact begun_mem s who
  case close => exact fun s h => congrArg Host.Outcome.next (abandonEpoch_of_ne h)
  case closeInEpoch =>
    intro s hrunning
    let u : State := { s with power := { s.power with windowEnd := none } }
    obtain ⟨-, -, hwindow⟩ := writeRecord_due u (nextRecord u u.power.due 1)
    refine ⟨_, congrArg Host.Outcome.next (abandonEpoch_of_running (s := u) hrunning), ?_, ?_, ?_⟩
    · rw [(raise_kept_events ..).parts .power (by decide), wr_power, hwindow]
    · rw [raise_entries _ _ _ E.hm_EPOCH_STATE (by decide), rd_wr_same]
    · rw [raise_entries _ _ _ E.hm_SEQ (by decide), rd_wr_ne _ _ (by decide), rd_seq_writeRecord]
      exact nextRecord_seq ..

end Sys2Proof.Proofs
end

section
/-! SUPPORT. Crossings (R400-R406): halves of a crossing, an island that recovers, an entry of the crossing log. -/

namespace Sys2Proof.Proofs

open Sys2Proof Sys2Proof.Machine Sys2Proof.Laws

@[simp] theorem halfAt_setHalf (r : XingRec) (side : Bool) (h : Half) : halfAt (setHalf r side h) side = h := by cases side <;> rfl

@[simp] theorem coalesced_setHalf (r : XingRec) (side : Bool) (h : Half) : (setHalf r side h).coalesced = r.coalesced := by
  cases side <;> rfl

/-- What a crossing is, but for its halves. -/
theorem setHalf_keeps (r : XingRec) (side : Bool) (h : Half) : (setHalf r side h).state = r.state ∧
    (setHalf r side h).side = r.side ∧ (setHalf r side h).slot = r.slot ∧ (setHalf r side h).timeouts = r.timeouts := by
  cases side <;> exact ⟨rfl, rfl, rfl, rfl⟩

theorem xingOf_congr {s t : State} (h : t.isl.xings = s.isl.xings) (x : Nat) : xingOf t x = xingOf s x := by rw [xingOf, h]; rfl

/-- An island that answers no more is to be reset. -/
theorem recoverIsland_resets {s : State} {i : Nat} (h : islandState s i = 3) : islandState (recoverIsland s i) i = 5 := by
  have hrunning : ¬ inTest s = true := fun htest => absurd (h.symm.trans (if_pos htest)) (by decide)
  have hgated : ¬ s.power.gated.contains i = true := fun hg =>
    absurd (h.symm.trans ((if_neg hrunning).trans (if_pos hg))) (by decide)
  rw [recoverIsland, if_pos h]
  exact (if_neg hrunning).trans ((if_neg hgated).trans (tget_tset_same (fun _ => 0) s.isl.islands i 5))

theorem recoverIsland_xings (s : State) (i : Nat) : (recoverIsland s i).isl.xings = s.isl.xings ∧ (recoverIsland s i).out = s.out := by
  unfold recoverIsland
  split <;> exact ⟨rfl, rfl⟩

/-! ### The crossing log (R405) -/

/-- The entry of the crossing log. -/
def xingEntry (s : State) (id cause : Nat) (side : Bool) (failed island : Nat) : Nat :=
  s.time % 2 ^ 64 + 2 ^ 64 * (id + 2 ^ 8 * cause + 2 ^ 12 * b2n side + 2 ^ 16 * min failed 0xFFFF) + 2 ^ 96 * island

theorem xingLog_od (s : State) (id cause : Nat) (side : Bool) (failed island : Nat) :
    (xingLog s id cause side failed island).1.od = (ringEnter s 0x2042 16 s.isl.read (xingEntry s id cause side failed island)).od := rfl

theorem rd_xingLog_slot (s : State) (id cause : Nat) (side : Bool) (failed island : Nat) :
    rd (xingLog s id cause side failed island).1 (slotKey 0x2042 (rd s E.xlog_NEXT_SLOT)) = xingEntry s id cause side failed island :=
  (rd_congr (xingLog_od ..) _).trans (rd_ringEnter_slot s 0x2042 16 s.isl.read _)

theorem rd_xingLog_ne (s : State) (id cause : Nat) (side : Bool) (failed island : Nat) {k : Nat}
    (h : k ∉ [dkey 0x2042 1, dkey 0x2042 2, slotKey 0x2042 (rd s E.xlog_NEXT_SLOT)]) :
    rd (xingLog s id cause side failed island).1 k = rd s k :=
  (rd_congr (xingLog_od ..) _).trans (ringEnter_entries s 0x2042 16 s.isl.read _ k h)

/-- The identity and the cause of an entry. -/
theorem fld_xingEntry (s : State) {id cause : Nat} (side : Bool) (failed island : Nat) (hid : id < 256) (hcause : cause < 16) :
    fld (xingEntry s id cause side failed island) 64 12 = id + 2 ^ 8 * cause := by
  simp only [fld, xingEntry]
  omega

theorem failBeats_keeps (s : State) (x : Nat) (h : Half) : (failBeats s x h).od = s.od ∧ (failBeats s x h).isl = s.isl :=
  List.foldlRecOn (motive := fun t : State => t.od = s.od ∧ t.isl = s.isl) h.beats _ ⟨rfl, rfl⟩ fun _ h _ _ => h

/-- The crossing has stopped, its beats have failed and the log has the entry, before the event of the time-out. -/
def xingStopped (s : State) (x : Nat) (side : Bool) : State :=
  let r := xingOf s x
  let h := halfAt r side
  let l := xingLog (failBeats s x h) x 1 (!side) h.beats.length (sideIsland x (!side))
  setXing l.1 x (setHalf { r with state := 3, side := !side, slot := l.2, timeouts := satInc r.timeouts 1 } side (flushHalf h))

theorem xingTimeout_stops {s : State} {x : Nat} {side : Bool} (hstate : xingState s x ≤ 2)
    (hwaiting : (halfAt (xingOf s x) side).since.isSome = true ∨ (halfAt (xingOf s x) side).flagSince.isSome = true ∨
      (halfAt (xingOf s x) side).holdSince.isSome = true) :
    xingTimeout s x side = raise (bump (xingStopped s x side) E.xing_TIMEOUTS) .xingTimeout [x] := by
  refine if_neg ?_
  rintro (⟨hsince, hflag, hhold⟩ | ⟨h0, h1, h2⟩)
  · rw [Option.isNone_iff_eq_none] at hsince hflag hhold
    rw [hsince, hflag, hhold] at hwaiting
    simp at hwaiting
  · omega

theorem xingOf_xingStopped (s : State) (x : Nat) (side : Bool) :
    xingOf (xingStopped s x side) x = setHalf { (xingOf s x) with
      state := 3, side := !side, slot := rd s E.xlog_NEXT_SLOT, timeouts := satInc (xingOf s x).timeouts 1 } side (flushHalf (halfAt (xingOf s x) side)) := by
  have hnext : rd (failBeats s x (halfAt (xingOf s x) side)) E.xlog_NEXT_SLOT = rd s E.xlog_NEXT_SLOT :=
    rd_congr (failBeats_keeps ..).1 _
  rw [← hnext]
  exact xingOf_setXing ..

/-- Below the log's slots 1 to 16 and above them, and but for its counters, a crossing that stops leaves the dictionary. -/
theorem rd_xingStopped {s : State} (x : Nat) (side : Bool) {k : Nat} (hslot : rd s E.xlog_NEXT_SLOT ≤ 16)
    (hk : k < E.xlog_NEXT_SLOT ∨ 0x204400 ≤ k) : rd (xingStopped s x side) k = rd s k := by
  have hkept : rd (failBeats s x (halfAt (xingOf s x) side)) = rd s := funext fun j => rd_congr (failBeats_keeps ..).1 j
  rw [← congrFun hkept k]
  refine rd_xingLog_ne _ _ _ _ _ _ ?_
  rw [congrFun hkept]
  simp only [E.xlog_NEXT_SLOT] at hk hslot
  simp only [List.mem_cons, List.not_mem_nil, or_false, slotKey, dkey, E.xlog_NEXT_SLOT]
  omega

theorem fld_xingStopped {s : State} {x : Nat} (side : Bool) (hx : x < 256) :
    fld (rd (xingStopped s x side) (slotKey 0x2042 (rd s E.xlog_NEXT_SLOT))) 64 12 = x + 2 ^ 8 * 1 := by
  have hnext : rd (failBeats s x (halfAt (xingOf s x) side)) E.xlog_NEXT_SLOT = rd s E.xlog_NEXT_SLOT :=
    rd_congr (failBeats_keeps ..).1 _
  rw [← hnext]
  exact (congrArg (fld · 64 12) (rd_xingLog_slot ..)).trans (fld_xingEntry _ _ _ _ hx (by decide))

/-! ### Beats, flags and values (R400-R403) -/

/-- What an open crossing passes on: a half is replaced and the fabric is told. -/
theorem halfAt_sent (s : State) (x : Nat) (r : XingRec) (side : Bool) (h : Half) (d : Dest) (vals : List Int) :
    halfAt (xingOf (send (setXing s x (setHalf r side h)) d vals []) x) side = h := by
  change halfAt (xingOf (setXing s x (setHalf r side h)) x) side = h
  rw [xingOf_setXing, halfAt_setHalf]

theorem halfAt_replaced (s : State) (x : Nat) (r : XingRec) (side : Bool) (h : Half) :
    halfAt (xingOf (setXing s x (setHalf r side h)) x) side = h := by
  rw [xingOf_setXing, halfAt_setHalf]

section Open

variable {s : State} {x : Nat} {side : Bool} (hopen : xingState s x = 0 ∨ xingState s x = 1)
include hopen

/-- A beat that an open crossing may carry goes by whether the far side accepts it. -/
theorem linkBeat_open (v : Nat) (d : BeatDest) (trusted accepted : Bool) (hlink : hasLink x = true)
    (hallowed : trusted = true ∨ trustedOnly s x side v d = false) :
    linkBeat s x side v d trusted accepted =
      if accepted then
        send (setXing s x (setHalf (xingOf s x) side { (halfAt (xingOf s x) side) with
          beats := ((halfAt (xingOf s x) side).beats ++ [v]).drop 1,
          since := if ((halfAt (xingOf s x) side).beats ++ [v]).drop 1 = [] then none else some s.time }))
          .fabric [0, (x : Int), (b2n side : Int), ((at0 0 ((halfAt (xingOf s x) side).beats ++ [v]) 0 : Nat) : Int)] []
      else if 8 ≤ (halfAt (xingOf s x) side).beats.length then s
      else setXing s x (setHalf (xingOf s x) side { (halfAt (xingOf s x) side) with
        beats := (halfAt (xingOf s x) side).beats ++ [v], since := some ((halfAt (xingOf s x) side).since.getD s.time) }) := by
  have hallowed' : ¬ (¬ trusted = true ∧ trustedOnly s x side v d = true) := by
    rintro ⟨htrusted, honly⟩
    exact hallowed.elim htrusted fun hno => Bool.false_ne_true (hno.symm.trans honly)
  rw [linkBeat]
  dsimp only
  rw [if_neg (not_not_intro hlink), if_neg (by omega), if_neg (by omega), if_neg (by omega), if_neg hallowed']

theorem linkBeat_denied (v : Nat) (d : BeatDest) (accepted : Bool) (hlink : hasLink x = true) (honly : trustedOnly s x side v d = true) :
    linkBeat s x side v d false accepted = emit (violate s 0x09 5 v none none) (.msg .fabric [1, (x : Int), (v : Int)] []) := by
  rw [linkBeat]
  dsimp only
  rw [if_neg (not_not_intro hlink), if_neg (by omega), if_neg (by omega), if_neg (by omega), if_pos ⟨Bool.false_ne_true, honly⟩]
  rfl

theorem valueWrite_open (v : Nat) (hvalues : hasValues x = true) (hfree : (halfAt (xingOf s x) side).hold = none) :
    valueWrite s x side v = setXing s x (setHalf (xingOf s x) side { (halfAt (xingOf s x) side) with
      hold := some v, acked := false, holdSince := some s.time }) := by
  rw [valueWrite]
  dsimp only
  rw [if_neg (not_not_intro hvalues), if_pos ⟨hopen, by rw [hfree]; rfl⟩]

theorem valueCapture_open {v : Nat} (hhold : (halfAt (xingOf s x) side).hold = some v) (hnew : (halfAt (xingOf s x) side).acked = false) :
    valueCapture s x side = setXing s x (setHalf (xingOf s x) side { (halfAt (xingOf s x) side) with seen := v, acked := true }) := by
  rw [valueCapture]
  dsimp only
  rw [hhold]
  exact if_pos ⟨hopen, by rw [hnew]; exact Bool.false_ne_true⟩

end Open

theorem linkBeat_noLink {s : State} {x : Nat} (side : Bool) (v : Nat) (d : BeatDest) (trusted accepted : Bool) (h : hasLink x = false) :
    linkBeat s x side v d trusted accepted = s := if_pos (by rw [h]; exact Bool.false_ne_true)

theorem linkBeat_resetting {s : State} {x : Nat} (side : Bool) (v : Nat) (d : BeatDest) (trusted accepted : Bool) (h : hasLink x = true)
    (hstate : xingState s x = 4 ∨ xingState s x = 5) :
    linkBeat s x side v d trusted accepted = emit s (.msg .fabric [1, (x : Int), (v : Int)] []) := by
  rw [linkBeat]
  dsimp only
  rw [if_neg (not_not_intro h), if_neg (by omega), if_pos hstate]
  rfl

theorem flagEvent_noFlags {s : State} {x : Nat} (side : Bool) (f : FlagStep) (h : hasFlags x = false) : flagEvent s x side f = s :=
  if_pos (by rw [h]; exact Bool.false_ne_true)

section Flags

variable {s : State} {x : Nat} {side : Bool} (hflags : hasFlags x = true)
include hflags

theorem flagEvent_event (v : Nat) : flagEvent s x side (.event v) =
    if xingState s x = 0 then
      send (setXing s x (setHalf (xingOf s x) side { (halfAt (xingOf s x) side) with level := v })) .fabric [2, x, b2n side, v] []
    else if xingState s x = 1 ∧ flagsIdle (halfAt (xingOf s x) side) then
      send (setXing s x (setHalf (xingOf s x) side { (halfAt (xingOf s x) side) with level := v, flagSince := some s.time }))
        .fabric [2, x, b2n side, v] []
    else setXing s x (setHalf (xingOf s x) side { (halfAt (xingOf s x) side) with
      level := v, events := min ((halfAt (xingOf s x) side).events + 1) 0xFFFF }) :=
  if_neg (not_not_intro hflags)

theorem flagEvent_acknowledged (hstate : xingState s x = 1) (hcrossing : (halfAt (xingOf s x) side).flagSince.isSome = true) :
    flagEvent s x side .acknowledged =
    if (halfAt (xingOf s x) side).events = 0 then
      setXing s x (setHalf (xingOf s x) side { (halfAt (xingOf s x) side) with flagSince := none })
    else
      send (setXing s x (setHalf (xingOf s x) side { (halfAt (xingOf s x) side) with
        events := (halfAt (xingOf s x) side).events - 1, flagSince := some s.time })) .fabric
        [2, x, b2n side, (halfAt (xingOf s x) side).level] [] := by
  have hwaits : ¬ ((halfAt (xingOf s x) side).flagSince.isNone = true ∨ (xingState s x ≠ 1 ∧ xingState s x ≠ 2)) := by
    rintro (hnone | ⟨hne, -⟩)
    · rw [Option.isNone_iff_eq_none] at hnone
      rw [hnone] at hcrossing
      exact Bool.false_ne_true hcrossing
    · exact hne hstate
  have hcount : ((halfAt (xingOf s x) side).events = 0 ∨ xingState s x = 2) ↔ (halfAt (xingOf s x) side).events = 0 :=
    or_iff_left (by omega)
  rw [flagEvent]
  dsimp only
  rw [if_neg (not_not_intro hflags), if_neg hwaits]
  exact if_congr hcount rfl rfl

end Flags

theorem valueWrite_noValues {s : State} {x : Nat} (side : Bool) (v : Nat) (h : hasValues x = false) : valueWrite s x side v = s :=
  if_pos (by rw [h]; exact Bool.false_ne_true)

/-- A value written while another crosses waits in the slot. -/
theorem valueWrite_waits {s : State} {x : Nat} {side : Bool} (v : Nat) (hvalues : hasValues x = true)
    (hheld : (halfAt (xingOf s x) side).hold.isSome = true) :
    valueWrite s x side v = setXing s x (setHalf (coalesce (xingOf s x) (halfAt (xingOf s x) side).slot.isSome) side
      { (halfAt (xingOf s x) side) with slot := some v }) := by
  rw [valueWrite]
  dsimp only
  rw [if_neg (not_not_intro hvalues), if_neg]
  rintro ⟨-, hnone⟩
  rw [Option.isNone_iff_eq_none] at hnone
  rw [hnone] at hheld
  exact Bool.false_ne_true hheld

theorem valueCapture_idle {s : State} {x : Nat} {side : Bool} (h : (halfAt (xingOf s x) side).hold = none ∨
    (halfAt (xingOf s x) side).acked = true ∨ 2 ≤ xingState s x) : valueCapture s x side = s := by
  rw [valueCapture]
  split
  next v hhold =>
    refine if_neg fun ⟨hopen, hnew⟩ => ?_
    rcases h with hnone | hacked | hstate
    · exact Option.some_ne_none v (hhold.symm.trans hnone)
    · exact hnew hacked
    · omega
  next => rfl

theorem valueAcknowledge_acked {s : State} {x : Nat} {side : Bool} (w : Option Nat) (h : (halfAt (xingOf s x) side).acked = true) :
    valueAcknowledge s x side w =
      let next := match w with | some v => some v | none => (halfAt (xingOf s x) side).slot
      setXing s x (setHalf (coalesce (xingOf s x) (w.isSome && (halfAt (xingOf s x) side).slot.isSome)) side
        { (halfAt (xingOf s x) side) with
          hold := next, slot := none, acked := false, holdSince := if next.isSome then some s.time else none }) := if_pos h

end Sys2Proof.Proofs
end

section
/-! O27: beats, flags and values across a crossing. -/

namespace Sys2Proof.Proofs

open Sys2Proof Sys2Proof.Machine Sys2Proof.Laws

/-- Settles O27: every command of a crossing replaces the half of one side, and tells the fabric what leaves it. -/
theorem crossingsCarryBeatsAndValues : Obligations.CrossingsCarryBeatsAndValues := by
  unfold Obligations.CrossingsCarryBeatsAndValues
  refine ⟨⟨?passes, ?leaves, ?queues, ?fails, ?denied, ?noLink⟩, ⟨?flag, ?flagCrosses, ?flagCounts, ?ack, ?ackLast, ?noFlags⟩,
    ⟨?value, ?slot, ?noValues⟩, ⟨?capture, ?captureIdle⟩, ⟨?acknowledge, ?acknowledgeIdle⟩, ⟨?timeout, ?timeoutIdle⟩,
    ⟨?resumed, ?resumedIdle⟩⟩
  case passes =>
    intro s x side v d hlink hopen hallowed hempty
    refine ⟨_, congrArg Host.Outcome.next (linkBeat_open hopen v d false true hlink (.inr hallowed)), ?_⟩
    rw [if_pos rfl, halfAt_sent, hempty]
    exact ⟨rfl, rfl, rfl⟩
  case leaves =>
    intro s x side v w r d hlink hopen hbeats
    refine ⟨_, congrArg Host.Outcome.next (linkBeat_open hopen v d true true hlink (.inl rfl)), ?_⟩
    rw [if_pos rfl, halfAt_sent, hbeats]
    exact ⟨rfl, rfl, rfl⟩
  case queues =>
    intro s x side v d hlink hopen hroom
    refine ⟨_, congrArg Host.Outcome.next (linkBeat_open hopen v d true false hlink (.inl rfl)), ?_⟩
    rw [if_neg Bool.false_ne_true, if_neg (by omega), halfAt_replaced]
    exact ⟨rfl, rfl, rfl, rfl⟩
  case fails => exact fun s x side v d a b hlink hstate => congrArg Host.Outcome.next (linkBeat_resetting side v d a b hlink hstate)
  case denied => exact fun s x side v d b hlink hopen honly => congrArg Host.Outcome.next (linkBeat_denied hopen v d b hlink honly)
  case noLink => exact fun s x side v d a b hlink => congrArg Host.Outcome.next (linkBeat_noLink side v d a b hlink)
  case flag =>
    intro s x side v hflags hstate
    refine ⟨_, congrArg Host.Outcome.next (flagEvent_event hflags v), ?_⟩
    rw [if_pos hstate, halfAt_sent]
    exact ⟨rfl, rfl, rfl⟩
  case flagCrosses =>
    intro s x side v hflags hstate hidle
    refine ⟨_, congrArg Host.Outcome.next (flagEvent_event hflags v), ?_⟩
    rw [if_neg (by omega), if_pos ⟨hstate, hidle⟩, halfAt_sent]
    exact ⟨rfl, rfl, rfl⟩
  case flagCounts =>
    intro s x side v hflags hstate
    have hbusy : ¬ (xingState s x.val = 1 ∧ flagsIdle (halfAt (xingOf s x.val) side) = true) := by
      rintro ⟨hone, hidle⟩
      obtain hclosed | ⟨-, hcrossing⟩ := hstate
      · omega
      · exact Bool.false_ne_true (hcrossing.symm.trans hidle)
    refine ⟨_, congrArg Host.Outcome.next (flagEvent_event hflags v), ?_⟩
    rw [if_neg (by omega), if_neg hbusy, halfAt_replaced]
    exact ⟨rfl, rfl, rfl⟩
  case ack =>
    intro s x side hflags hstate hcrossing hmore
    refine ⟨_, congrArg Host.Outcome.next (flagEvent_acknowledged hflags hstate hcrossing), ?_⟩
    rw [if_neg (by omega), halfAt_sent]
    exact ⟨rfl, rfl, rfl⟩
  case ackLast =>
    intro s x side hflags hstate hcrossing hlast
    refine ⟨_, congrArg Host.Outcome.next (flagEvent_acknowledged hflags hstate hcrossing), ?_⟩
    rw [if_pos hlast, halfAt_replaced]
    exact ⟨rfl, rfl, rfl⟩
  case noFlags => exact fun s x side f h => congrArg Host.Outcome.next (flagEvent_noFlags side f h)
  case value =>
    intro s x side v hvalues hopen hfree
    refine ⟨_, congrArg Host.Outcome.next (valueWrite_open hopen v hvalues hfree), ?_⟩
    rw [halfAt_replaced, xingOf_setXing, coalesced_setHalf]
    exact ⟨rfl, rfl, rfl, rfl⟩
  case slot =>
    intro s x side v hvalues hheld
    refine ⟨_, congrArg Host.Outcome.next (valueWrite_waits v hvalues hheld), ?_⟩
    rw [halfAt_replaced, xingOf_setXing, coalesced_setHalf]
    exact ⟨rfl, rfl, rfl, rfl⟩
  case noValues => exact fun s x side v h => congrArg Host.Outcome.next (valueWrite_noValues side v h)
  case capture =>
    intro s x side v hopen hhold hnew
    refine ⟨_, congrArg Host.Outcome.next (valueCapture_open hopen hhold hnew), ?_⟩
    rw [halfAt_replaced]
    exact ⟨rfl, rfl, rfl⟩
  case captureIdle => exact fun s x side h => congrArg Host.Outcome.next (valueCapture_idle h)
  case acknowledge =>
    intro s x side w hacked
    refine ⟨_, congrArg Host.Outcome.next (valueAcknowledge_acked w hacked), ?_⟩
    dsimp only
    rw [halfAt_replaced, xingOf_setXing, coalesced_setHalf]
    exact ⟨rfl, rfl, rfl, rfl, rfl, rfl⟩
  case acknowledgeIdle => exact fun s x side h => congrArg Host.Outcome.next (if_neg (by rw [h]; exact Bool.false_ne_true))
  case timeout =>
    intro s x side hwaiting hstate hon hslot
    have hkept : ∀ {k : Nat}, k < E.xlog_NEXT_SLOT ∨ 0x204400 ≤ k → rd (xingStopped s x.val side) k = rd s k :=
      rd_xingStopped x.val side hslot
    have hcounted : pdOn (bump (xingStopped s x.val side) E.xing_TIMEOUTS) 2 = true := by
      rw [pdOn, rd_bump_ne _ (by decide), hkept (by decide)]
      exact hon
    have hxing : xingOf (raise (bump (xingStopped s x.val side) E.xing_TIMEOUTS) .xingTimeout [(x.val : Int)]) x.val =
        xingOf (xingStopped s x.val side) x.val := by
      rw [raise_on _ _ _ hcounted]
      rfl
    obtain ⟨hstate', hside, hslot', htimeouts⟩ := setHalf_keeps { (xingOf s x.val) with
      state := 3, side := !side, slot := rd s E.xlog_NEXT_SLOT, timeouts := satInc (xingOf s x.val).timeouts 1 } side
      (flushHalf (halfAt (xingOf s x.val) side))
    refine ⟨_, congrArg Host.Outcome.next (xingTimeout_stops hstate hwaiting), ?_⟩
    rw [hxing, xingOf_xingStopped]
    refine ⟨hstate', hside, by rw [halfAt_setHalf]; rfl, htimeouts, ?_, ?_, hslot', ?_⟩
    · rw [raise_entries _ _ _ E.xing_TIMEOUTS (by decide), rd_bump_same, hkept (by decide)]
    · rw [raise_out_on _ _ _ hcounted]
      rfl
    · rw [raise_entries _ _ _ _ (by simp only [List.mem_singleton, slotKey, dkey, E.pwr_EVENTS_DROPPED]; omega),
        rd_bump_ne _ (by simp only [slotKey, dkey, E.xing_TIMEOUTS]; omega), fld_xingStopped side (by omega)]
  case timeoutIdle =>
    refine fun s x side h => congrArg Host.Outcome.next (if_pos ?_)
    obtain ⟨hsince, hflag, hhold⟩ | hstate := h
    · rw [hsince, hflag, hhold]
      exact .inl ⟨rfl, rfl, rfl⟩
    · exact .inr (by omega)
  case resumed =>
    intro s x hstopped
    obtain ⟨hxings, hout⟩ := recoverIsland_xings (setXing s x.val { (xingOf s x.val) with
      state := 4, a := flushHalf (xingOf s x.val).a, b := flushHalf (xingOf s x.val).b }) (sideIsland x.val (xingOf s x.val).side)
    refine ⟨_, congrArg Host.Outcome.next (if_pos hstopped), ?_⟩
    rw [xingOf_congr hxings, xingOf_setXing]
    exact ⟨rfl, rfl, rfl, fun hanswers => recoverIsland_resets hanswers, (recoverIsland_keeps _ _).1, hout⟩
  case resumedIdle => exact fun s x h => congrArg Host.Outcome.next (if_neg h)

end Sys2Proof.Proofs
end

section
/-! SUPPORT. The boot steps (R447, R448) seen from the memory controller's entries. -/

namespace Sys2Proof.Proofs

open Sys2Proof Sys2Proof.Machine Sys2Proof.Laws

/-- Entries written one after the other: an entry has its value when every pair of the list that names it gives that value. -/
theorem rd_foldl_wr {l : List (Nat × Nat)} {k v : Nat} (hmem : (k, v) ∈ l) (honly : ∀ p ∈ l, p.1 = k → p.2 = v) (s : State) :
    rd (l.foldl (fun t p => wr t p.1 p.2) s) k = v := by
  induction l generalizing s with
  | nil => exact absurd hmem List.not_mem_nil
  | cons p l ih =>
    rw [List.foldl_cons]
    by_cases hl : (k, v) ∈ l
    · exact ih hl (fun q hq => honly q (.tail _ hq)) _
    · obtain rfl : (k, v) = p := (List.mem_cons.mp hmem).resolve_right hl
      refine (rd_foldl (fun t q hq => rd_wr_ne t q.2 fun h => hl ?_) _).trans (rd_wr_same ..)
      rwa [show ((k, v) : Nat × Nat) = q from Prod.ext h (honly q (.tail _ hq) h.symm).symm]

section Above

/-! An entry of the memory controller is none that the splash's head, its port or the head's record is kept in. -/

variable {k : Nat} (hk : 0x500000 ≤ k)
include hk

theorem rd_settleRoute_above (s : State) (route : Nat) : rd (settleRoute s route) k = rd s k := by
  unfold settleRoute
  split
  · rfl
  next p _ hport =>
    have hp : p < 16 := by
      simp only [portOfRoute] at hport
      split_ifs at hport <;> (injection hport with hpair; injection hpair; omega)
    have hstate : k ≠ E.port_STATE p := by simp only [E.port_STATE]; omega
    have hstreams : k ≠ E.port_STREAMS p := by simp only [E.port_STREAMS]; omega
    have hslots : k ≠ E.port_MST_SLOTS p := by simp only [E.port_MST_SLOTS]; omega
    simp only [settlePort, settleStreams, rd_ite, rd_wr_ne _ _ hstate, rd_wr_ne _ _ hstreams, rd_wr_ne _ _ hslots, ite_self]

theorem rd_landRoute_above (s : State) {h : Nat} (hh : h < 16) : rd (landRoute s h) k = rd s k := by
  have hroute : k ≠ E.xbar_ROUTE h := by simp only [E.xbar_ROUTE]; omega
  simp only [landRoute]
  rw [rd_settleRoute_above hk, rd_settleRoute_above hk, rd_setHead, rd_landKey_ne _ hroute]

theorem rd_headEnable_above (s : State) {h : Nat} (hh : h < 16) : rd (headEnable s h) k = rd s k := by
  have hstate : k ≠ E.head_STATE h := by simp only [E.head_STATE]; omega
  have hframe : k ≠ E.head_FRAME h := by simp only [E.head_FRAME]; omega
  have hline : k ≠ E.head_LINE h := by simp only [E.head_LINE]; omega
  have hte : k ≠ E.head_TE_STATE h := by simp only [E.head_TE_STATE]; omega
  simp only [headEnable, rd_ite, rd_wr_ne _ _ hte, rd_setHead, rd_wr_ne _ _ hline, rd_wr_ne _ _ hframe, rd_wr_ne _ _ hstate, rd_setCameo,
    ite_self]

theorem rd_splashHead_above (s : State) {x : Splash} (hx : x.head < 16) :
    rd (splashHead s x) k = rd ((splashEntries x).foldl (fun t p => wr t p.1 p.2) s) k := by
  rw [splashHead, rd_headEnable_above hk _ hx, rd_landRoute_above hk _ hx, rd_setCameo]

theorem rd_updateSums_above (s : State) : rd (updateSums s) k = rd s k := by
  refine rd_foldl (fun t h hh => ?_) s
  have hlt := List.mem_range.mp hh
  rw [rd_wr_ne _ _ (by simp only [E.head_FETCH_LIMIT]; omega), rd_wr_ne _ _ (by simp only [E.head_FETCH_BYTES]; omega),
    rd_wr_ne _ _ (by simp only [E.head_POOL_FREE]; omega), rd_wr_ne _ _ (by simp only [E.head_POOL_USED]; omega)]
  refine rd_foldl (fun u f hf => rd_wr_ne u _ ?_) t
  have hflt := List.mem_range.mp hf
  simp only [E.facet_POOL_LINES]
  omega

theorem rd_updateSlices_above (s : State) : rd (updateSlices s) k = rd s k := by
  refine rd_foldl (fun t h hh => rd_wr_ne t _ ?_) s
  have hlt := List.mem_range.mp hh
  simp only [E.head_SLICE]
  omega

end Above

/-- The engraving's splash heads have the last word on what its step leaves of those entries. -/
theorem rd_engravingStep_above {s : State} {x : Splash} {k v : Nat} (hk : 0x500000 ≤ k) (hvalid : s.cameo.engraving.valid = true)
    (hsplash : s.cameo.engraving.splash = [x]) (hx : x.head < 16) (hmem : (k, v) ∈ splashEntries x)
    (honly : ∀ p ∈ splashEntries x, p.1 = k → p.2 = v) : rd (engravingStep s) k = v := by
  simp only [engravingStep, if_neg (not_not_intro hvalid), hsplash, List.foldl_cons, List.foldl_nil]
  rw [rd_updateSums_above hk, rd_updateSlices_above hk, rd_splashHead_above hk _ hx, rd_foldl_wr hmem honly]

theorem rd_runIslands (s : State) (ds : List Nat) (k : Nat) : rd (runIslands s ds) k = rd s k := by
  have := @May.head
  exact rd_congr ((runIslands_kept (Kept.refl [.isl] s) ds).parts .od (by decide)) k

theorem rd_memConfig (s : State) (k : Nat) : rd (memConfig s) k = rd s k := by
  have := @May.head
  exact rd_congr ((memConfig_kept (Kept.refl [.dict] s)).parts .od (by decide)) k

theorem rd_boot (s : State) (b : BootSt) (k : Nat) : rd { s with boot := b } k = rd s k := rfl

theorem bootSlot_congr {s t : State} (h : t.flash = s.flash) (kind : Nat) : bootSlot t kind = bootSlot s kind := by
  have himg : imgOf t = imgOf s := funext fun i => by rw [imgOf, h]; rfl
  simp only [bootSlot, himg]

theorem rd_trainStart (s : State) {k : Nat} (hstate : k ≠ E.mem_MEM_STATE) (hk : k < E.chan_STATE 0) : rd (trainStart s) k = rd s k := by
  rw [trainStart, rd_foldl fun t c _ => rd_wr_ne t _ (by simp only [E.chan_STATE] at hk ⊢; omega)]
  exact rd_wr_ne _ _ hstate

/-- With a trusted image to boot from, an entry of the memory controller that the one splash head's entries name holds their value when
training begins. -/
theorem rd_bootSteps_above {s : State} {x : Splash} {i k v : Nat} (hslot : bootSlot s 2 = some i) (hlow : 0x500000 ≤ k)
    (hstate : k ≠ E.mem_MEM_STATE) (hhigh : k < E.chan_STATE 0) (hvalid : s.cameo.engraving.valid = true)
    (hsplash : s.cameo.engraving.splash = [x]) (hx : x.head < 16) (hmem : (k, v) ∈ splashEntries x)
    (honly : ∀ p ∈ splashEntries x, p.1 = k → p.2 = v) : rd (bootSteps s) k = v := by
  have := @May.head
  have := @May.tail
  let s1 : State := runIslands { s with boot := { s.boot with held := false, resetN := false, step := 1 } } [0, 15, 1]
  have hruns := (runIslands_kept (Kept.refl [.isl] { s with boot := { s.boot with held := false, resetN := false, step := 1 } })
    [0, 15, 1]).parts
  have hcameo : (startTrusted s1 i).cameo = s.cameo :=
    ((startTrusted_kept (Kept.refl [.od, .locket, .flash, .isl, .power, .boot] s1) i).parts .cameo (by decide)).trans
      (hruns .cameo (by decide))
  have hslot' : bootSlot s1 2 = some i := by rw [bootSlot_congr (hruns .flash (by decide)) 2]; exact hslot
  have hdevice : k ≠ E.glob_DEVICE_STATE := by simp only [E.glob_DEVICE_STATE]; omega
  rw [bootSteps]
  dsimp only
  rw [hslot']
  dsimp only
  rw [settleDevice, rd_wr_ne _ _ hdevice, rd_trainStart _ hstate hhigh, rd_memConfig]
  rw [rd_boot, rd_runIslands, rd_engravingStep_above hlow (by rw [hcameo, hvalid]) (by rw [hcameo, hsplash]) hx hmem honly]

end Sys2Proof.Proofs
end

section
/-! O24: the boot steps. -/

namespace Sys2Proof.Proofs

open Sys2Proof Sys2Proof.Machine Sys2Proof.Laws

/-- The port of a splash head that stands where the memory controller's entries do. -/
def splashAtMemory : Splash := { port := 0x5001 - 0x3401, portVals := [0, 0, 0, 77] }

/-- A device in reset whose engraving has that splash. -/
def engravedAtMemory : State :=
  { State.reset with cameo := { State.reset.cameo with engraving := { splash := [splashAtMemory] } } }

theorem engravedAtMemory_boots : engravedAtMemory.boot.held = true ∧ bootSlot engravedAtMemory 2 = some 0 := by decide +kernel

theorem splashEntries_splashAtMemory : (E.mem_LOCKET_SIZE, 77) ∈ splashEntries splashAtMemory ∧
    ∀ p ∈ splashEntries splashAtMemory, p.1 = E.mem_LOCKET_SIZE → p.2 = 77 := by decide +kernel

/-- Refutes O24: its first clause says that LOCKET_SIZE is what the trusted image asks for, at least 128 MiB, but says nothing of the
engraving; step 3 writes the entries of a splash head's port after it (R448), and those of `engravedAtMemory` name LOCKET_SIZE: it is 77
after BOOT_START. -/
theorem not_bootStepsReachTheDictionary : ¬ Obligations.BootStepsReachTheDictionary := by
  unfold Obligations.BootStepsReachTheDictionary
  rintro ⟨hboots, -, -⟩
  obtain ⟨hheld, hslot⟩ := engravedAtMemory_boots
  obtain ⟨hmem, honly⟩ := splashEntries_splashAtMemory
  obtain ⟨t, hexec, -, -, -, -, -, -, -, hsize⟩ := hboots engravedAtMemory 0 (.inl hheld) hslot
  have hboot : bootStart engravedAtMemory = bootSteps engravedAtMemory := if_pos (.inl hheld)
  rw [exec_bootStart, execBootStart, hboot] at hexec
  injection hexec with hnext
  have hwritten : rd t E.mem_LOCKET_SIZE = 77 := by
    rw [← hnext]
    exact rd_bootSteps_above hslot (by decide) (by decide) (by decide) rfl rfl (by decide) hmem honly
  omega

end Sys2Proof.Proofs
end

section
/-! O23: the causes of a device reset. -/

namespace Sys2Proof.Proofs

open Sys2Proof Sys2Proof.Machine Sys2Proof.Laws

/-- A device that runs and whose supply and thermal log has a NEXT_SLOT that names no slot: its next entry stands at HOURS. -/
def logSlotAtHours : State :=
  wr { State.reset with boot := { State.reset.boot with held := false } } E.slog_NEXT_SLOT (E.hm_HOURS - slotKey 0x2130 0)

theorem logSlotAtHours_hours : logSlotAtHours.boot.held = false ∧ rd logSlotAtHours E.hm_HOURS = 0 ∧ E.hm_HOURS ∈ keptKeys := by
  decide +kernel

/-- The entry of the trip has become HOURS, and the reset keeps it. -/
theorem hours_thermalTrip_logSlotAtHours : rd (thermalTrip logSlotAtHours (0 : Sensor).val 1250) E.hm_HOURS ≠ 0 := by decide +kernel

/-- Refutes O23: THERMAL_TRIP's first clause says that the reset leaves HOURS as it was before the command, whatever the log's NEXT_SLOT;
in `logSlotAtHours` the entry that the trip makes first is written over HOURS (R432, R434), and that is what the reset keeps. -/
theorem not_deviceResetsLeaveDefaults : ¬ Obligations.DeviceResetsLeaveDefaults := by
  unfold Obligations.DeviceResetsLeaveDefaults
  rintro ⟨-, -, -, -, ⟨htrip, -⟩, -⟩
  obtain ⟨hheld, hhours, hkey⟩ := logSlotAtHours_hours
  obtain ⟨t, hexec, hreset, -⟩ := htrip logSlotAtHours 0 1250 hheld (by decide)
  rw [exec_thermalTrip, execThermalTrip] at hexec
  injection hexec with hnext
  obtain ⟨-, -, hkept, -⟩ := hreset
  have hzero : rd t E.hm_HOURS = 0 := (hkept E.hm_HOURS hkey).trans hhours
  rw [← hnext] at hzero
  exact hours_thermalTrip_logSlotAtHours hzero

end Sys2Proof.Proofs
end

section
/-! SUPPORT. The debug module (R390): a scan of DMI that writes a register, a halt request and an abstract command that writes an integer
register. -/

namespace Sys2Proof.Proofs

open Sys2Proof Sys2Proof.Machine Sys2Proof.Laws

/-- A scan of DMI before its operation: the TAP takes it, and the result of the one before goes out. -/
def scanTold (s : State) (shift : Nat) : State :=
  emit { s with locket := { s.locket with tap := { s.locket.tap with
      reset := false, ir := 0x11, dmiAddr := shift / 2 ^ 34, dmiData := fld shift 2 32, dmiOp := fld shift 0 2 } } }
    (.msg .jtag [0x11, ((s.control.dm.result * 4 + s.locket.tap.dmiAddr * 2 ^ 34 : Nat) : Int)] [])

theorem dmiScan_other {s : State} {shift : Nat} (hread : fld shift 0 2 ≠ 1) (hwrite : fld shift 0 2 ≠ 2) :
    dmiScan s shift = scanTold s shift :=
  (if_neg hread).trans (if_neg hwrite)

/-- The scan that writes `data` to register `addr` of the module. -/
def dmiWrite (addr data : Nat) : Nat := 2 + 4 * data + addr * 2 ^ 34

theorem dmiScan_write (s : State) (addr : Nat) {data : Nat} (hdata : data < 2 ^ 32) :
    dmiScan s (dmiWrite addr data) =
      setDm (dmWrite (scanTold s (dmiWrite addr data)) addr data)
        { (dmWrite (scanTold s (dmiWrite addr data)) addr data).control.dm with result := 0 } := by
  have hop : fld (dmiWrite addr data) 0 2 = 2 := by simp only [fld, dmiWrite]; omega
  have hfield : fld (dmiWrite addr data) 2 32 = data := by simp only [fld, dmiWrite]; omega
  have haddr : dmiWrite addr data / 2 ^ 34 = addr := by simp only [dmiWrite]; omega
  refine (if_neg (by rw [hop]; decide)).trans ((if_pos hop).trans ?_)
  rw [hfield, haddr, scanTold, hfield, haddr]
  rfl

/-! ### Halt requests -/

/-- A dmcontrol that selects control core `c` and requests its halt. -/
theorem dmControl_halts (s : State) (c : CCore) :
    dmControl s (2 ^ 31 + 2 ^ 16 * c.val + 1) =
      haltRequest (setDm s { s.control.dm with active := true, sel := c.val }) (.control c) := by
  have hactive : bitOf (2 ^ 31 + 2 ^ 16 * c.val + 1) 0 = true := by simp only [bitOf, beq_iff_eq]; omega
  have hhalt : bitOf (2 ^ 31 + 2 ^ 16 * c.val + 1) 31 = true := by simp only [bitOf, beq_iff_eq]; omega
  have hack : bitOf (2 ^ 31 + 2 ^ 16 * c.val + 1) 28 = false := by simp only [bitOf, beq_eq_false_iff_ne]; omega
  have hsel : fld (2 ^ 31 + 2 ^ 16 * c.val + 1) 16 10 + 1024 * fld (2 ^ 31 + 2 ^ 16 * c.val + 1) 6 10 = c.val := by
    simp only [fld]
    omega
  have htarget : hartTarget c.val = some (.control c) := dif_pos c.isLt
  rw [dmControl]
  simp only [hactive, hhalt, hack, hsel, htarget, not_true_eq_false, Bool.false_eq_true, if_true, if_false]

theorem haltRequest_control {s : State} {c : CCore} (henabled : bitOf (rd s E.dbg_DEBUG_STATE) 0 = true)
    (hruns : s.locket.halted.contains c.val = false) :
    haltRequest s (.control c) = { s with locket := { s.locket with halted := s.locket.halted ++ [c.val] } } :=
  if_pos ⟨henabled, by rw [hruns]; exact Bool.false_ne_true⟩

theorem haltRequest_control_disabled {s : State} (c : CCore) (hdisabled : bitOf (rd s E.dbg_DEBUG_STATE) 0 = false) :
    haltRequest s (.control c) = s :=
  if_neg fun h => Bool.false_ne_true (hdisabled.symm.trans h.1)

/-! ### Abstract commands -/

/-- The abstract command that writes integer register `n` from the 64 bits of data0 and data1. -/
def regWrite (n : Nat) : Nat := 3 * 2 ^ 20 + 2 ^ 17 + 2 ^ 16 + 0x1000 + n

section RegWrite

variable {s : State} {n : Nat} (hn : n < 32) (hsel : s.control.dm.sel < 5)
include hn hsel

theorem command_regWrite (herr : s.control.dm.cmderr = 0) : command s (regWrite n) =
    if s.locket.halted.contains s.control.dm.sel then
      (transfer (setDm s { s.control.dm with command := regWrite n }) s.control.dm.sel (regWrite n)).getD
        (cmdErr (setDm s { s.control.dm with command := regWrite n }) 3)
    else cmdErr (setDm s { s.control.dm with command := regWrite n }) 4 := by
  have htype : fld (regWrite n) 24 8 = 0 := by simp only [fld, regWrite]; omega
  have hsize : fld (regWrite n) 20 3 = 3 := by simp only [fld, regWrite]; omega
  have htransfer : bitOf (regWrite n) 17 = true := by simp only [bitOf, regWrite, beq_iff_eq]; omega
  have hpost : bitOf (regWrite n) 19 = false := by simp only [bitOf, regWrite, beq_eq_false_iff_ne]; omega
  have hexec : bitOf (regWrite n) 18 = false := by simp only [bitOf, regWrite, beq_eq_false_iff_ne]; omega
  have hheld : hartHalted (setDm s { s.control.dm with command := regWrite n }) s.control.dm.sel =
      s.locket.halted.contains s.control.dm.sel := if_pos hsel
  rw [command]
  dsimp only
  rw [if_neg (not_not_intro herr), if_neg (by rw [htype, hsize]; rintro (h | ⟨-, -, h⟩) <;> [exact h rfl; exact h ⟨rfl, hsel⟩]), hheld,
    htransfer, hpost, hexec]
  cases s.locket.halted.contains s.control.dm.sel with
  | false => rfl
  | true => cases transfer (setDm s { s.control.dm with command := regWrite n }) s.control.dm.sel (regWrite n) <;> rfl

/-- Register transfer: the register's 64 bits are data1 and data0. -/
theorem transfer_regWrite (hpos : 1 ≤ n) : transfer (setDm s { s.control.dm with command := regWrite n }) s.control.dm.sel (regWrite n) =
    some (setCpu (setDm s { s.control.dm with command := regWrite n }) s.control.dm.sel { (cpuOf s s.control.dm.sel) with
      x := tset (fun _ => 0) (cpuOf s s.control.dm.sel).x n ((tget (fun _ => 0) s.control.dm.data 0 +
        2 ^ 32 * tget (fun _ => 0) s.control.dm.data 1) % 2 ^ 64) }) := by
  have hreg : fld (regWrite n) 0 16 = 0x1000 + n := by simp only [fld, regWrite]; omega
  have hsize : fld (regWrite n) 20 3 = 3 := by simp only [fld, regWrite]; omega
  have hwrite : bitOf (regWrite n) 16 = true := by simp only [bitOf, regWrite, beq_iff_eq]; omega
  have hthere : ∀ u : State, hartReg u s.control.dm.sel (0x1000 + n) = some (tget (fun _ => 0) (cpuOf u s.control.dm.sel).x n) := by
    intro u
    rw [hartReg, if_neg (by omega), if_pos hsel, if_neg (by omega), if_pos (by omega)]
    dsimp only
    rw [if_neg (by omega), Nat.add_sub_cancel_left]
  rw [transfer]
  dsimp only
  rw [hreg, hsize, hwrite, hthere]
  dsimp only
  rw [if_pos rfl, if_pos (by decide : (3 == 3) = true), setHartReg, if_neg (by omega), if_pos hsel]
  dsimp only
  rw [if_neg (by omega), if_pos (by omega), Nat.add_sub_cancel_left, if_neg (by omega)]
  rfl

theorem command_regWrite_held (herr : s.control.dm.cmderr = 0) (hpos : 1 ≤ n)
    (hheld : s.locket.halted.contains s.control.dm.sel = true) : command s (regWrite n) =
      setCpu (setDm s { s.control.dm with command := regWrite n }) s.control.dm.sel { (cpuOf s s.control.dm.sel) with
        x := tset (fun _ => 0) (cpuOf s s.control.dm.sel).x n ((tget (fun _ => 0) s.control.dm.data 0 +
          2 ^ 32 * tget (fun _ => 0) s.control.dm.data 1) % 2 ^ 64) } := by
  rw [command_regWrite hn hsel herr, if_pos hheld, transfer_regWrite hn hsel hpos]
  rfl

/-- A hart that runs is not reached. -/
theorem command_regWrite_running (herr : s.control.dm.cmderr = 0) (hruns : s.locket.halted.contains s.control.dm.sel = false) :
    command s (regWrite n) = setDm s { s.control.dm with command := regWrite n, cmderr := 4 } := by
  rw [command_regWrite hn hsel herr, if_neg (by rw [hruns]; exact Bool.false_ne_true)]
  exact if_pos herr

end RegWrite

/-! ### The registers of the module -/

theorem dmWrite_control (s : State) (v : Nat) : dmWrite s 0x10 v = dmControl s v := by
  rw [dmWrite]
  exact if_pos rfl

theorem dmWrite_command {s : State} (hactive : s.control.dm.active = true) (v : Nat) : dmWrite s 0x17 v = command s v := by
  rw [dmWrite]
  dsimp only
  rw [if_neg (by decide), if_neg (not_not_intro hactive), if_neg (by decide), if_neg (by decide), if_pos rfl]

/-! ### The mailbox of the loupe (R393) -/

/-- A word of CHALLENGE goes out and the TAP takes the scan. -/
def wordTold (s : State) (mbox : List Byte) : State :=
  send { s with locket := { s.locket with tap := { s.locket.tap with
    reset := false, ir := 0x18, mbox := mbox, mboxPos := (s.locket.tap.mboxPos + 1) % 12 } } } .jtag
    [0x18, (leVal (slice (challengeBytes s) (4 * s.locket.tap.mboxPos) 4) : Nat)] []

theorem length_leBytes (n v : Nat) : (leBytes n v).length = n := by
  induction n generalizing v with
  | zero => rfl
  | succ n ih => rw [leBytes, List.length_cons, ih]

theorem loupeMbox_of {s : State} {shift : Nat} {full : Bool}
    (hfull : decide (96 ≤ (s.locket.tap.mbox ++ leBytes 4 shift).length) = full) : loupeMbox s shift =
    if full then
      (takeResponse (wordTold s (if full then [] else s.locket.tap.mbox ++ leBytes 4 shift)) (s.locket.tap.mbox ++ leBytes 4 shift)).getD
        (wordTold s (if full then [] else s.locket.tap.mbox ++ leBytes 4 shift))
    else wordTold s (if full then [] else s.locket.tap.mbox ++ leBytes 4 shift) := by
  subst hfull
  rfl

theorem loupeMbox_eq (s : State) (shift : Nat) : loupeMbox s shift =
    if 92 ≤ s.locket.tap.mbox.length then
      (takeResponse (wordTold s []) (s.locket.tap.mbox ++ leBytes 4 shift)).getD (wordTold s [])
    else wordTold s (s.locket.tap.mbox ++ leBytes 4 shift) := by
  have hlength : (s.locket.tap.mbox ++ leBytes 4 shift).length = s.locket.tap.mbox.length + 4 := by
    rw [List.length_append, length_leBytes]
  by_cases hfull : 92 ≤ s.locket.tap.mbox.length
  · rw [if_pos hfull]
    exact loupeMbox_of (decide_eq_true (by omega))
  · rw [if_neg hfull]
    exact loupeMbox_of (decide_eq_false (by omega))

end Sys2Proof.Proofs
end

section
/-! O22: the JTAG instructions of the loupe. -/

namespace Sys2Proof.Proofs

open Sys2Proof Sys2Proof.Machine Sys2Proof.Laws

/-- Settles O22: each instruction replaces the TAP's record and shifts one word out; a scan of DMI that writes is taken apart into the
module's register and its meaning. -/
theorem jtagInstructionsOfTheLoupe : Obligations.JtagInstructionsOfTheLoupe := by
  unfold Obligations.JtagInstructionsOfTheLoupe
  refine ⟨⟨?extest, ?bypassed⟩, fun s => ⟨_, rfl, rfl, rfl, rfl⟩, fun s p => ⟨_, rfl, rfl, rfl, rfl⟩, ?pulse, ?train, ?dtmcs,
    ⟨?idle, ?halt, ?noHalt, ?register, ?running⟩, ⟨?word, ?response⟩, ?bypass⟩
  case extest =>
    intro s p h
    exact ⟨_, congrArg Host.Outcome.next (if_pos h), rfl, rfl, rfl⟩
  case bypassed =>
    intro s p h
    exact ⟨_, congrArg Host.Outcome.next (if_neg (by rw [h]; exact Bool.false_ne_true)), rfl, rfl, rfl⟩
  case pulse =>
    intro s p h
    exact ⟨_, congrArg Host.Outcome.next (if_pos h), rfl, rfl, rfl⟩
  case train =>
    intro s p h
    exact ⟨_, congrArg Host.Outcome.next (if_pos h), rfl, rfl, rfl⟩
  case dtmcs =>
    intro s v
    refine ⟨_, _, rfl, ?_, rfl, ?_, fun hreset => ?_, rfl⟩
    · dsimp only [send, emit, drawn, setIr]
      split <;> rfl
    · omega
    · dsimp only [send, emit, drawn, setIr]
      rw [if_pos hreset]
      exact ⟨rfl, rfl, rfl⟩
  case idle =>
    intro s v hread hwrite
    exact congrArg Host.Outcome.next (dmiScan_other hread hwrite)
  case halt =>
    intro s c henabled hruns
    have hscan : dmiScan s (dmiWrite 0x10 (2 ^ 31 + 2 ^ 16 * c.val + 1)) = _ := dmiScan_write s 0x10 (by omega)
    rw [dmWrite_control, dmControl_halts, haltRequest_control (s := setDm (scanTold s _) _) henabled hruns] at hscan
    exact ⟨_, congrArg Host.Outcome.next hscan, rfl, rfl, rfl, rfl, rfl⟩
  case noHalt =>
    intro s c hdisabled
    have hscan : dmiScan s (dmiWrite 0x10 (2 ^ 31 + 2 ^ 16 * c.val + 1)) = _ := dmiScan_write s 0x10 (by omega)
    rw [dmWrite_control, dmControl_halts, haltRequest_control_disabled (s := setDm (scanTold s _) _) c hdisabled] at hscan
    exact ⟨_, congrArg Host.Outcome.next hscan, rfl, rfl⟩
  case register =>
    intro s n hpos hn hactive herr hsel hheld
    have hscan := dmiScan_write s 0x17 (show regWrite n < 2 ^ 32 by rw [regWrite]; omega)
    rw [dmWrite_command (s := scanTold s _) hactive, command_regWrite_held (s := scanTold s _) hn hsel herr hpos hheld] at hscan
    refine ⟨_, congrArg Host.Outcome.next hscan, ?_, fun m hm => ?_, fun k hk => ?_, herr⟩
    · exact (congrArg (fun c : CpuRec => tget (fun _ => 0) c.x n) (tget_tset_same ..)).trans (tget_tset_same ..)
    · exact (congrArg (fun c : CpuRec => tget (fun _ => 0) c.x m) (tget_tset_same ..)).trans (tget_tset_ne _ _ _ hm)
    · exact tget_tset_ne _ _ _ hk
  case running =>
    intro s hactive herr hsel hruns
    have hscan := dmiScan_write s 0x17 (show regWrite 1 < 2 ^ 32 by decide)
    rw [dmWrite_command (s := scanTold s _) hactive, command_regWrite_running (s := scanTold s _) (by decide) hsel herr hruns] at hscan
    exact ⟨_, congrArg Host.Outcome.next hscan, rfl, rfl⟩
  case word =>
    intro s v hmore
    refine ⟨_, congrArg Host.Outcome.next ((loupeMbox_eq s v).trans (if_neg (by omega))), rfl, rfl, rfl⟩
  case response =>
    intro s v hlast hstate hopen
    have htaken : takeResponse (wordTold s []) (s.locket.tap.mbox ++ leBytes 4 v) = some _ := if_pos ⟨hstate, hopen⟩
    refine ⟨_, congrArg Host.Outcome.next ((loupeMbox_eq s v).trans (if_pos (by omega))), ?_⟩
    rw [htaken]
    exact ⟨rfl, rd_wr_same .., rfl, rfl⟩
  case bypass =>
    intro s ir h
    exact ⟨_, congrArg Host.Outcome.next (if_neg (by rw [h]; exact Bool.false_ne_true)), rfl, rfl, rfl⟩

end Sys2Proof.Proofs
end

section
/-! SUPPORT. Memory as a call reads it back (R352), and the gate calls that check their arguments (R375). -/

namespace Sys2Proof.Proofs

open Sys2Proof Sys2Proof.Machine Sys2Proof.Laws

/-! ### Bytes written and read back -/

theorem txByte_dropByte (t : DramTx) (a x : Nat) : txByte (dropByte a t) x = if x = a then none else txByte t x := by
  unfold dropByte
  by_cases ht : t.write = true ∧ t.addr ≤ a
  · obtain ⟨hwrite, hlow⟩ := ht
    rw [if_pos ⟨hwrite, hlow⟩]
    simp only [txByte, hwrite, true_and, at0, List.getElem?_set]
    by_cases hx : x = a
    · subst hx
      rw [if_pos hlow, if_pos rfl, if_pos rfl]
      split <;> rfl
    · rw [if_neg hx]
      by_cases hle : t.addr ≤ x
      · rw [if_pos hle, if_pos hle, if_neg (by omega)]
      · rw [if_neg hle, if_neg hle]
  · rw [if_neg ht]
    by_cases hx : x = a
    · subst hx
      rw [if_pos rfl]
      exact if_neg ht
    · rw [if_neg hx]

theorem waitByte_dropByte (l : List DramTx) (a x : Nat) :
    waitByte (l.map (dropByte a)) x = if x = a then none else waitByte l x := by
  induction l with
  | nil => exact (ite_self _).symm
  | cons t l ih =>
    rw [List.map_cons, waitByte, ih, txByte_dropByte, waitByte]
    by_cases hx : x = a
    · rw [if_pos hx, if_pos hx, if_pos hx]
    · rw [if_neg hx, if_neg hx, if_neg hx]

theorem memRd_memWr (s : State) (a x : Nat) (v : Byte) : memRd (memWr s a v) x = if x = a then v else memRd s x := by
  rw [memRd, memWr]
  dsimp only
  rw [waitByte_dropByte]
  by_cases hx : x = a
  · subst hx
    rw [if_pos rfl, if_pos rfl]
    exact tget_tset_same ..
  · rw [if_neg hx, if_neg hx, memRd]
    exact congrArg _ (tget_tset_ne _ _ _ hx)

/-- A byte of a list of writes reads back where every write of its address has its value. -/
theorem memRd_memWrAll {l : List (Nat × Option Byte)} {x : Nat} {v : Byte} (hmem : (x, some v) ∈ l)
    (honly : ∀ w, (x, some w) ∈ l → w = v) (s : State) : memRd (memWrAll s l) x = v := by
  have hsame : ∀ (l : List (Nat × Option Byte)) (s : State), (∀ w, (x, some w) ∈ l → w = v) → memRd s x = v → memRd (memWrAll s l) x = v := by
    intro l
    induction l with
    | nil => exact fun s _ h => h
    | cons p l ih =>
      obtain ⟨a, b⟩ := p
      intro s honly h
      cases b with
      | none => exact ih s (fun w hw => honly w (.tail _ hw)) h
      | some b =>
        refine ih _ (fun w hw => honly w (.tail _ hw)) ?_
        rw [memRd_memWr]
        split
        next hx => exact honly b (hx ▸ .head _)
        next => exact h
  induction l generalizing s with
  | nil => exact absurd hmem List.not_mem_nil
  | cons p l ih =>
    obtain ⟨a, b⟩ := p
    rcases List.mem_cons.mp hmem with hhead | htail
    · cases hhead
      exact hsame l _ (fun w hw => honly w (.tail _ hw)) (by rw [memRd_memWr, if_pos rfl])
    · cases b with
      | none => exact ih htail (fun w hw => honly w (.tail _ hw)) s
      | some b => exact ih htail (fun w hw => honly w (.tail _ hw)) _

/-- What is written to physical memory reads back. -/
theorem physRd_physWr (s : State) (a : Nat) (bs : List Byte) : physRd (physWr s a bs) a bs.length = bs := by
  refine List.ext_getElem (by simp [physRd, rangeFrom]) fun i hi hlt => ?_
  have hread : memRd (physWr s a bs) (a + i) = bs[i] := by
    refine memRd_memWrAll (List.mem_map.mpr ⟨i, List.mem_range.mpr hlt, ?_⟩) (fun w hw => ?_) s
    · rw [List.getElem?_eq_getElem hlt]
    · obtain ⟨j, -, hj⟩ := List.mem_map.mp hw
      injection hj with haddr hbyte
      obtain rfl : j = i := Nat.add_left_cancel haddr
      rw [List.getElem?_eq_getElem hlt] at hbyte
      exact (Option.some.inj hbyte).symm
  simpa [physRd, rangeFrom, Nat.add_comm] using hread

theorem physRd_congr {s t : State} (hmem : t.mem = s.mem) (hmemc : t.memc = s.memc) (a n : Nat) : physRd t a n = physRd s a n := by
  have hread : memRd t = memRd s := funext fun x => by rw [memRd, memRd, dramByte, dramByte, hmem, hmemc]
  rw [physRd, physRd, hread]

/-! ### What the flush of L1 leaves to a call -/

theorem openRange_flushL1 (s : State) (k a n : Nat) : openRange (flushL1 s k) a n = openRange s a n := by
  rw [openRange, openRange, locketBase, locketBase, rd_flushL1, rd_flushL1]

theorem openRegion_flushL1 (s : State) (k a n : Nat) : openRegion (flushL1 s k) a n = openRegion s a n := by
  rw [openRegion, openRegion, rd_flushL1]

theorem handOf_flushL1 (s : State) (k b : Nat) : handOf (flushL1 s k) b = handOf s b := by
  rw [handOf, flushL1_locket]
  rfl

theorem ownWord_flushL1 (s : State) (k b : Nat) : ownWord (flushL1 s k) b = ownWord s b := by
  simp only [ownWord, blockState, blockOwner, handOf_flushL1, cvOwner, hState, rd_flushL1]
  rfl

theorem gate_of_answer {s : State} {cc : Nat} (hon : pdOn s 2 = true) (hruns : s.locket.halted.contains cc = false)
    (k : State → State) : gate s cc k = if lktState s = 1 then k (flushL1 s cc) else if lktState s = 2 then gateAnswer s cc 0x201
      else if lktState s = 3 then gateAnswer s cc 0x205 else s := by
  rw [gate, if_neg (by rw [hon, hruns]; decide)]

/-! ### Hand-overs that start (R380) -/

/-- A release that notifies nobody changes of the locket the block's hand-over alone. -/
theorem cvRelease_locket (s : State) (k : Nat) {h : Hand} (hnotify : h.notify = none) : ∃ h', h'.target = h.target ∧ h'.ticket = h.ticket ∧
    (cvRelease s k h).locket = { s.locket with hand := tset (fun _ => none) s.locket.hand (16 + k) (some h') } := by
  unfold cvRelease
  dsimp only
  split
  · exact ⟨{ h with giver := cvOwner s k }, rfl, rfl, rfl⟩
  · refine ⟨{ h with giver := cvOwner s k, resetting := true }, rfl, rfl, ?_⟩
    unfold releaseEffect
    rw [hnotify]
    dsimp only
    split
    · rfl
    · rw [raise_locket]
      rfl

theorem handOf_of_locket {s t : State} {b : Nat} {h : Option Hand}
    (hlocket : t.locket = { s.locket with hand := tset (fun _ => none) s.locket.hand b h }) : handOf t b = h := by
  rw [handOf, hlocket]
  exact tget_tset_same ..

theorem gateReply_locket (s : State) (cc a0 a1 : Nat) : (gateReply s cc a0 a1).locket = s.locket := flushL1_locket s cc

theorem gateReply_od (s : State) (cc a0 a1 : Nat) : (gateReply s cc a0 a1).od = s.od :=
  (flushL1_kept_caches s cc).parts .od (by decide)

theorem ticketed_locket (s : State) (cc num : Nat) (args : List Nat) : (ticketed s cc num args).locket = { s.locket with
    queue := s.locket.queue ++ [{ num := num, ticket := s.locket.nextTicket, core := cc, args := args }],
    nextTicket := if s.locket.nextTicket = 65535 then 1 else s.locket.nextTicket + 1 } := by
  rw [ticketed, gateReply_locket, flushL1_locket]

/-! ### Calls in the queue that end (R376) -/

/-- A call that waits for no hand-over ends when the trusted world runs. -/
theorem lktDone_ends {s : State} {q : LktCall} {l : List LktCall} (hqueue : s.locket.queue = q :: l) (hlkt : lktState s = 1)
    (hnum : q.num ≠ 0x010) : lktDone s = endCall (serveCall { s with locket := { s.locket with queue := l } } q).1 q.ticket
      (serveCall { s with locket := { s.locket with queue := l } } q).2.1
      (serveCall { s with locket := { s.locket with queue := l } } q).2.2 := by
  rw [lktDone, hqueue]
  dsimp only
  rw [beq_eq_false_iff_ne.mpr hnum, Bool.false_and, Bool.false_and, if_neg]
  rintro (hne | hfalse)
  · exact hne hlkt
  · exact Bool.false_ne_true hfalse

theorem lktDone_idle {s : State} (h : lktState s ≠ 1 ∨ s.locket.queue = []) : lktDone s = s := by
  unfold lktDone
  split
  · rfl
  next q rest hqueue => exact if_pos (.inl (h.resolve_right (by rw [hqueue]; exact List.cons_ne_nil q rest)))

theorem endCall_kept_events (s : State) (ticket status value : Nat) :
    (endCall s ticket status value).mem = s.mem ∧ (endCall s ticket status value).memc = s.memc := by
  have hparts := (raise_kept_events { s with locket := { s.locket with results := (ticket, status, value) :: s.locket.results.take 15 } }
    .lktDone [ticket]).parts
  exact ⟨hparts .mem (by decide), hparts .memc (by decide)⟩

theorem raise_od_on {s : State} (hon : pdOn s 2 = true) (e : Ev) (args : List Int) : (raise s e args).od = s.od := by
  rw [raise_on _ _ _ hon]
  rfl

theorem endCall_od {s : State} (hon : pdOn s 2 = true) (ticket status value : Nat) : (endCall s ticket status value).od = s.od :=
  raise_od_on (s := { s with locket := { s.locket with results := (ticket, status, value) :: s.locket.results.take 15 } }) hon ..

end Sys2Proof.Proofs
end

section
/-! O20: gate calls. -/

namespace Sys2Proof.Proofs

open Sys2Proof Sys2Proof.Machine Sys2Proof.Laws

section Calls

variable {s : State} {cc : CCore} (hcalls : calls s cc.val = true)
include hcalls

theorem flashCall_queued (num : Nat) {r off p n : Nat} (hr : r < 4) (hroom : off + n ≤ (flashRegion r).2) (hopen : openRegion s p n = true) :
    gate s cc.val (fun u => flashCall u cc.val num r off p n) = queueCall (flushL1 s cc.val) cc.val num [r, off, p, n] := by
  rw [gate_of_calls hcalls, flashCall, openRegion_flushL1, hopen, if_neg]
  rintro (h | h | h)
  · omega
  · omega
  · exact h rfl

theorem flashCall_refused (num : Nat) {r off p n : Nat} (h : 4 ≤ r ∨ (flashRegion r).2 < off + n ∨ openRegion s p n = false) :
    gate s cc.val (fun u => flashCall u cc.val num r off p n) = gateReply (flushL1 s cc.val) cc.val 4 0 := by
  rw [gate_of_calls hcalls, flashCall, openRegion_flushL1]
  exact if_pos (h.imp_right (Or.imp_right fun hclosed => by rw [hclosed]; exact Bool.false_ne_true))

theorem ownAssign_permitted {b o : Nat} (hb : b < 0x33) (hpermitted : ownerPermitted b o = true) (hroom : s.locket.queue.length < 16) :
    gate s cc.val (fun u => ownAssign u cc.val b o) =
      if (handOf s b).isSome then ticketed s cc.val 0x010 [b, o, 0]
      else cvRelease (ticketed s cc.val 0x010 [b, o, 1]) (b - 16) { target := o, ticket := some s.locket.nextTicket } := by
  have howner : ¬ (0x33 ≤ b ∨ (4096 ≤ o ∧ o ≠ 0xFFFE ∧ o ≠ 0xFFFF)) := by
    simp only [ownerPermitted] at hpermitted
    split at hpermitted
    · simp only [Bool.or_eq_true, decide_eq_true_eq, beq_iff_eq] at hpermitted
      omega
    · simp only [Bool.and_eq_true, decide_eq_true_eq, beq_iff_eq] at hpermitted
      omega
  rw [gate_of_calls hcalls, ownAssign, if_neg howner, if_neg (not_not_intro hpermitted), flushL1_locket, if_neg (by omega),
    handOf_flushL1, queueCall_of_room hroom, queueCall_of_room hroom]

end Calls

/-- Settles O20: the gate flushes L1, which leaves what a call's checks read, and the call is answered or joins the queue; LKT_DONE takes
the front call, and what each of them does is read off `serveCall`. -/
theorem trustedCallsAnswerOrQueue : Obligations.TrustedCallsAnswerOrQueue := by
  unfold Obligations.TrustedCallsAnswerOrQueue
  refine ⟨⟨?version, ?versionOut, ?resetting, ?failed⟩, ⟨?result, ?noResult⟩, ⟨?notPermitted, ?noBlock, ?taken, ?free⟩,
    ⟨?query, ?noQuery⟩, ⟨?notice, ?noNotice⟩, ⟨?write, ?noWrite, ?fullWrite⟩, ⟨?read, ?noRead⟩, ⟨?verify, ?noVerify⟩,
    ⟨?signet, ?noSignet⟩, ⟨?cert, ?noCert⟩, ⟨?unlock, ?noUnlock⟩, ⟨?lock, ?noLock⟩, ⟨?key, ?noKey⟩,
    ⟨?doneLock, ?doneKey, ?doneCert, ?doneIdle⟩⟩
  case version =>
    intro s cc hcalls
    rw [exec_trustedVersionCall, execTrustedVersionCall, gate_of_calls hcalls, rd_flushL1]
  case versionOut =>
    intro s cc hcalls
    refine ⟨_, congrArg Host.Outcome.next (gate_of_calls hcalls _), ?_, ?_⟩
    · rw [gateReply_out, rd_flushL1, (flushL1_kept_caches s cc.val).parts .out (by decide)]
      rfl
    · rw [gateReply_od]
      exact (flushL1_kept_caches s cc.val).parts .od (by decide)
  case resetting =>
    intro s cc hon hruns hlkt
    rw [exec_trustedVersionCall, execTrustedVersionCall, gate_of_answer hon hruns, if_neg (by omega), if_pos hlkt]
  case failed =>
    intro s cc hon hruns hlkt
    rw [exec_trustedVersionCall, execTrustedVersionCall, gate_of_answer hon hruns, if_neg (by omega), if_neg (by omega), if_pos hlkt]
  case result =>
    intro s cc n st v hcalls hfound
    rw [exec_result, execResult, gate_of_calls hcalls, resultCall, flushL1_locket, hfound]
  case noResult =>
    intro s cc n hcalls hnone
    rw [exec_result, execResult, gate_of_calls hcalls, resultCall, flushL1_locket, hnone]
  case notPermitted =>
    intro s cc b o hcalls hb ho hnot
    rw [exec_ownAssign, execOwnAssign, gate_of_calls hcalls, ownAssign, if_neg (by omega),
      if_pos (by rw [hnot]; exact Bool.false_ne_true)]
  case noBlock =>
    intro s cc b o hcalls hbad
    rw [exec_ownAssign, execOwnAssign, gate_of_calls hcalls, ownAssign, if_pos hbad]
  case taken =>
    intro s cc b o hcalls hb hpermitted hroom htaken
    rw [exec_ownAssign, execOwnAssign, ownAssign_permitted hcalls hb hpermitted hroom, if_pos htaken]
  case free =>
    intro s cc b o hcalls hb hpermitted hroom hfree
    have hblock : 16 + (b - 16) = b := by
      simp only [ownerPermitted] at hpermitted
      split at hpermitted
      · omega
      · simp only [Bool.and_eq_true, decide_eq_true_eq, beq_iff_eq] at hpermitted
        omega
    obtain ⟨h, htarget, hticket, hlocket⟩ := cvRelease_locket (ticketed s cc.val 0x010 [b, o, 1]) (b - 16)
      (h := { target := o, ticket := some s.locket.nextTicket }) rfl
    refine ⟨_, congrArg Host.Outcome.next ((ownAssign_permitted hcalls hb hpermitted hroom).trans (if_neg (by rw [hfree]; decide))), ?_, h,
      ?_, htarget, hticket⟩
    · rw [hlocket, ticketed_locket]
    · rw [hblock] at hlocket
      exact handOf_of_locket hlocket
  case query =>
    intro s cc b hcalls hb
    rw [exec_ownQuery, execOwnQuery, gate_of_calls hcalls, if_pos hb, ownWord_flushL1, ownWord]
  case noQuery =>
    intro s cc b hcalls hb
    rw [exec_ownQuery, execOwnQuery, gate_of_calls hcalls, if_neg (by omega)]
  case notice =>
    intro s cc r m hcalls hr hm
    refine ⟨_, congrArg Host.Outcome.next ((gate_of_calls hcalls _).trans (if_pos ⟨hr, hm⟩)), ?_, ?_, ?_⟩
    · rw [gateReply_locket, raiseTrusted, emit_locket, flushL1_locket]
    · rw [gateReply_out]
      exact congrArg (fun o => _ :: _ :: o) ((flushL1_kept_caches s cc.val).parts .out (by decide))
    · rw [gateReply_od, raiseTrusted, emit_od]
      exact (flushL1_kept_caches s cc.val).parts .od (by decide)
  case noNotice =>
    intro s cc r m hcalls hbad
    rw [exec_camNotice, execCamNotice, gate_of_calls hcalls, if_neg (by omega)]
  case write =>
    intro s cc r off p n hcalls hr hroom hopen hqueue
    rw [exec_flashWrite, execFlashWrite, flashCall_queued hcalls 0x030 hr hroom hopen, queueCall_of_room hqueue]
  case noWrite =>
    intro s cc r off p n hcalls hbad
    rw [exec_flashWrite, execFlashWrite, flashCall_refused hcalls 0x030 hbad]
  case fullWrite =>
    intro s cc r off p n hcalls hr hroom hopen hfull
    rw [exec_flashWrite, execFlashWrite, flashCall_queued hcalls 0x030 hr hroom hopen,
      queueCall_of_full (by rw [flushL1_locket]; exact hfull)]
  case read =>
    intro s cc r off p n hcalls hr hroom hopen hqueue
    rw [exec_flashRead, execFlashRead, flashCall_queued hcalls 0x031 hr hroom hopen, queueCall_of_room hqueue]
  case noRead =>
    intro s cc r off p n hcalls hbad
    rw [exec_flashRead, execFlashRead, flashCall_refused hcalls 0x031 hbad]
  case verify =>
    intro s cc k n hcalls hk hn hqueue
    rw [exec_imageVerify, execImageVerify, gate_of_calls hcalls, if_pos ⟨hk, hn⟩, queueCall_of_room hqueue]
  case noVerify =>
    intro s cc k n hcalls hbad
    rw [exec_imageVerify, execImageVerify, gate_of_calls hcalls, if_neg hbad]
  case signet =>
    intro s cc a b hcalls ha hb hqueue
    rw [exec_signet, execSignet, gate_of_calls hcalls, openRange_flushL1, openRange_flushL1, if_pos ⟨ha, hb⟩, queueCall_of_room hqueue]
  case noSignet =>
    intro s cc a b hcalls hbad
    rw [exec_signet, execSignet, gate_of_calls hcalls, openRange_flushL1, openRange_flushL1, if_neg]
    rintro ⟨ha, hb⟩
    rw [ha, hb] at hbad
    exact hbad.elim (fun h => Bool.false_ne_true h.symm) fun h => Bool.false_ne_true h.symm
  case cert =>
    intro s cc a n hcalls hopen hqueue
    rw [exec_cert, execCert, gate_of_calls hcalls, openRange_flushL1, if_pos hopen, queueCall_of_room hqueue]
  case noCert =>
    intro s cc a n hcalls hclosed
    rw [exec_cert, execCert, gate_of_calls hcalls, openRange_flushL1, hclosed, if_neg Bool.false_ne_true]
  case unlock =>
    intro s cc a hcalls hopen hqueue
    rw [exec_debugUnlock, execDebugUnlock, gate_of_calls hcalls, openRange_flushL1, if_pos hopen, queueCall_of_room hqueue]
  case noUnlock =>
    intro s cc a hcalls hclosed
    rw [exec_debugUnlock, execDebugUnlock, gate_of_calls hcalls, openRange_flushL1, hclosed, if_neg Bool.false_ne_true]
  case lock =>
    intro s cc m hcalls hm hqueue
    rw [exec_debugLock, execDebugLock, gate_of_calls hcalls, if_pos hm, queueCall_of_room hqueue]
  case noLock =>
    intro s cc m hcalls hm
    rw [exec_debugLock, execDebugLock, gate_of_calls hcalls, if_neg (by omega)]
  case key =>
    intro s cc a hcalls hopen hqueue
    rw [exec_debugKey, execDebugKey, gate_of_calls hcalls, openRange_flushL1, if_pos hopen, queueCall_of_room hqueue]
  case noKey =>
    intro s cc a hcalls hclosed
    rw [exec_debugKey, execDebugKey, gate_of_calls hcalls, openRange_flushL1, hclosed, if_neg Bool.false_ne_true]
  case doneLock =>
    intro s q l hqueue hlkt hnum hon
    have hserve : serveCall { s with locket := { s.locket with queue := l } } q =
        (wr { s with locket := { s.locket with queue := l } } E.dbg_DEBUG_OTP
          ((bitsOf 4 (at0 0 q.args 0)).foldl (fun v i => setFld v (2 * i) 2 0) (rd s E.dbg_DEBUG_OTP)), 0, 0) := by
      simp only [serveCall, hnum]
      rfl
    have hon' : pdOn (wr { s with locket := { s.locket with queue := l } } E.dbg_DEBUG_OTP
          ((bitsOf 4 (at0 0 q.args 0)).foldl (fun v i => setFld v (2 * i) 2 0) (rd s E.dbg_DEBUG_OTP))) 2 = true := by
      rw [pdOn, rd_wr_ne _ _ (by decide)]
      exact hon
    refine ⟨_, congrArg Host.Outcome.next (lktDone_ends hqueue hlkt (by rw [hnum]; decide)), ?_⟩
    rw [hserve]
    refine ⟨by rw [endCall_locket]; rfl, by rw [endCall_locket]; rfl, ?_, endCall_out hon' .., fun k hk => ?_, (endCall_kept_events ..).1⟩
    · rw [rd_congr (endCall_od hon' ..), rd_wr_same]
    · rw [rd_congr (endCall_od hon' ..), rd_wr_ne _ _ (List.mem_singleton.not.mp hk)]
      rfl
  case doneKey =>
    intro s q l hqueue hlkt hnum hon
    have hserve : serveCall { s with locket := { s.locket with queue := l } } q =
        if s.locket.debugKey = [] then
          ({ s with locket := { s.locket with queue := l, debugKey := physRd s (at0 0 q.args 0) 48 } }, 0, 0)
        else ({ s with locket := { s.locket with queue := l } }, 0x202, 0) := by
      simp only [serveCall, hnum]
      rfl
    have hon' : ∀ l : LocketSt, pdOn { s with locket := l } 2 = true := fun _ => hon
    refine ⟨_, congrArg Host.Outcome.next (lktDone_ends hqueue hlkt (by rw [hnum]; decide)), ?_⟩
    rw [hserve]
    split
    next hfree =>
      refine ⟨by rw [endCall_locket], by rw [endCall_locket], by rw [endCall_locket], endCall_out (hon' _) .., endCall_od (hon' _) ..,
        (endCall_kept_events ..).1⟩
    next hwritten =>
      refine ⟨by rw [endCall_locket], by rw [endCall_locket], by rw [endCall_locket], endCall_out (hon' _) .., endCall_od (hon' _) ..,
        (endCall_kept_events ..).1⟩
  case doneCert =>
    intro s q l hqueue hlkt hnum hon
    have hserve : serveCall { s with locket := { s.locket with queue := l } } q =
        (physWr { s with locket := { s.locket with queue := l } } (at0 0 q.args 0) ((dget s E.sig_CERT).take (at0 0 q.args 1)), 0,
          ((dget s E.sig_CERT).take (at0 0 q.args 1)).length) := by
      simp only [serveCall, hnum]
      rfl
    have hserves := serveCall_serves { s with locket := { s.locket with queue := l } } q
    refine ⟨_, congrArg Host.Outcome.next (lktDone_ends hqueue hlkt (by rw [hnum]; decide)), ?_⟩
    rw [hserve] at hserves ⊢
    obtain ⟨hmem, hmemc⟩ := endCall_kept_events (physWr { s with locket := { s.locket with queue := l } } (at0 0 q.args 0)
      ((dget s E.sig_CERT).take (at0 0 q.args 1))) q.ticket 0 ((dget s E.sig_CERT).take (at0 0 q.args 1)).length
    refine ⟨?_, ?_, ?_⟩
    · rw [endCall_locket]
      exact hserves.queue
    · rw [endCall_locket]
      exact congrArg (fun r => _ :: List.take 15 r) hserves.results
    · rw [physRd_congr hmem hmemc, physRd_physWr]
  case doneIdle => exact fun s h => congrArg Host.Outcome.next (lktDone_idle h)

end Sys2Proof.Proofs
end

section
/-! SUPPORT. The trusted world (R377-R393): hand-overs granted, restarts and what a restart tells. -/

namespace Sys2Proof.Proofs

open Sys2Proof Sys2Proof.Machine Sys2Proof.Laws

/-! ### Hand-overs (R380) -/

theorem releaseEffect_hand (s : State) (k : Nat) (h : Hand) : handOf (releaseEffect s k h) (16 + k) = some { h with resetting := true } := by
  have := @May.head
  have := @May.tail
  let s1 := setHand (setCv (wr s (E.cvu_OWNER k) 0xFFFD) k {}) (16 + k) (some { h with resetting := true })
  have hraised : (if cvOwner s k = 0xFFFD then s1 else raise s1 .ownChanged [(16 + k : Nat), 0xFFFD]).locket = s1.locket := by
    split
    · rfl
    · exact raise_locket ..
  rw [handOf, releaseEffect]
  split
  next c _ =>
    rw [(setEvent_kept (Kept.refl [.out, .clasp, .ports] _) c 8).parts .locket (by decide)]
    exact (congrArg (fun l : LocketSt => tget (fun _ => none) l.hand (16 + k)) hraised).trans (handOf_setHand ..)
  next => exact (congrArg (fun l : LocketSt => tget (fun _ => none) l.hand (16 + k)) hraised).trans (handOf_setHand ..)

theorem handoverRelease_begins {s : State} {b : Nat} {h : Hand} (hhand : handOf s b = some h) (hwaits : h.resetting = false)
    (hidle : cvBusy s (b - 16) = false) : handoverRelease s b = releaseEffect s (b - 16) h := by
  rw [handoverRelease, hhand]
  dsimp only
  rw [hwaits, hidle, if_neg (by decide)]

theorem handoverRelease_busy {s : State} {b : Nat} (hbusy : cvBusy s (b - 16) = true) : handoverRelease s b = s := by
  unfold handoverRelease
  split
  · exact if_pos (.inr hbusy)
  · rfl

/-- The new owner is written, the unit's reset and its hand-over end, and both counters count. -/
def handGranted (s : State) (b : Nat) (h : Hand) : State :=
  let s1 := setHand (wr s (E.cvu_OWNER (b - 16)) h.target) b none
  let s2 := { s1 with locket := { s1.locket with
    grants := tset (fun _ => 0) s1.locket.grants b ((tget (fun _ => 0) s.locket.grants b + 1) % 2 ^ 32) } }
  bump (setCv s2 (b - 16) { poly := h.poly }) E.lkt_HANDOVERS

theorem handoverGrant_outside {s : State} {b : Nat} {h : Hand} (hhand : handOf s b = some h) (hresetting : h.resetting = true)
    (houtside : 4096 ≤ h.target) : handoverGrant s b = raise (handGranted s b h) .ownChanged [(b : Int), (h.target : Int)] := by
  rw [handoverGrant, hhand]
  dsimp only
  rw [if_neg (not_not_intro hresetting), if_pos houtside]
  rfl

theorem handoverGrant_idle {s : State} {b : Nat} (h : ∀ h, handOf s b = some h → h.resetting = false) : handoverGrant s b = s := by
  unfold handoverGrant
  split
  · rfl
  next x hhand => exact if_pos (by rw [h x hhand]; exact Bool.false_ne_true)

/-! ### Mailbox calls (R377) -/

theorem mailbox_served {s : State} (hlkt : lktState s = 1) (hon : pdOn s 2 = true) (k : State) : mailbox s k = k := if_pos ⟨hlkt, hon⟩

/-! ### Restarts (R383-R386) -/

theorem abandonTrusted_kept_raster (s : State) : Kept [.raster] s (abandonTrusted s) := by
  have := @May.head
  exact abandonTrusted_kept (Kept.refl _ s)

/-- A list of lasting conditions ends. -/
def endEach (s : State) (l : List Nat) : State := l.foldl (fun t b => endLasting t 0x5050 b) s

theorem endEach_kept (s : State) (l : List Nat) : Kept [.od, .field] s (endEach s l) := by
  have := @May.head
  have := @May.tail
  exact List.foldlRecOn (motive := fun t => Kept [.od, .field] s t) l _ (Kept.refl _ s) fun _ h b _ => endLasting_kept h _ b

theorem rd_endEach (s : State) (l : List Nat) {k : Nat} (hregister : k ≠ E.err_ERROR_REGISTER) (hdropped : k ≠ E.comm_EMCY_DROPPED) :
    rd (endEach s l) k = rd s k := rd_foldl (fun t b _ => rd_endLasting_ne t 0x5050 b hregister hdropped) s

theorem endLasting_lasting (s : State) (code b0 : Nat) :
    (endLasting s code b0).field.lasting = s.field.lasting.filter (fun p => p != (code, b0)) := by
  unfold endLasting
  split
  next =>
    dsimp only
    split
    · rw [queueEmcy_lasting, wr_field]
    · rw [wr_field]
  next h =>
    refine (List.filter_eq_self.mpr fun p hp => bne_iff_ne.mpr fun heq => h ?_).symm
    rw [← heq]
    exact List.contains_iff_mem.mpr hp

/-- A condition that is not of the list lasts on. -/
theorem contains_endEach {s : State} {l : List Nat} {n : Nat} (hn : n ∉ l) (h : s.field.lasting.contains (0x5050, n) = true) :
    (endEach s l).field.lasting.contains (0x5050, n) = true := by
  refine List.foldlRecOn (motive := fun t : State => t.field.lasting.contains (0x5050, n) = true) l _ h fun t ht b hb => ?_
  rw [endLasting_lasting, List.contains_iff_mem, List.mem_filter]
  refine ⟨List.contains_iff_mem.mp ht, bne_iff_ne.mpr fun heq => hn ?_⟩
  injection heq with _ hnb
  exact hnb ▸ hb

/-- The count of failed restarts of the series. -/
def failedCount (s : State) : Nat := rd s E.lkt_FAILED_SERIES + b2n (restartFailed s)

/-- A series of restarts goes on: the count is kept and the debugger's halt of TC with the resumption is dropped. -/
def seriesKept (s : State) : State :=
  wr { s with locket := { s.locket with resumed := none, halted := s.locket.halted.filter (· != 4) } } E.lkt_FAILED_SERIES (failedCount s)

/-- The restart is counted and LKT is in reset. -/
def restartCounted (s : State) : State :=
  wr (wr (bump (resetTc (seriesKept s)) E.lkt_RESTARTS) E.lkt_LAST_RESTART s.time) E.lkt_LKT_STATE 2

/-- The restart is told. -/
def restartTold (s : State) : State :=
  raise (endEach (lastingEmcy (restartCounted s) 0x5050 (failedCount s + 1) 0) ([1, 2, 3].filter (· != failedCount s + 1)))
    .lktRestart [(failedCount s : Int) + 1]

theorem lktRestart_again {s : State} (hruns : lktState s = 1 ∨ lktState s = 2 ∨ (lktState s = 0 ∧ 2 ≤ s.boot.step))
    (hseries : failedCount s < 3) : lktRestart s = abandonTrusted (restartTold s) := by
  refine (if_neg (by omega)).trans ?_
  exact if_neg (Nat.not_le.mpr hseries)

theorem lktRestart_fails {s : State} (hruns : lktState s = 1 ∨ lktState s = 2) (hseries : 3 ≤ failedCount s) :
    lktRestart s = abandonTrusted (lktFail (resetTc (seriesKept s))) := by
  refine (if_neg (by omega)).trans ?_
  exact if_pos hseries

theorem rd_restartTold (s : State) {k : Nat} (hregister : k ≠ E.err_ERROR_REGISTER) (hdropped : k ≠ E.comm_EMCY_DROPPED)
    (hevents : k ≠ E.pwr_EVENTS_DROPPED) : rd (restartTold s) k = rd (restartCounted s) k := by
  rw [restartTold, raise_entries _ _ _ k (List.mem_singleton.not.mpr hevents), rd_endEach _ _ hregister hdropped,
    lastingEmcy_entries _ _ _ _ k (notMem_two.mpr ⟨hdropped, hregister⟩)]

theorem restartTold_kept (s : State) : Kept [.out, .fwQueue, .od, .field] (restartCounted s) (restartTold s) := by
  have := @May.head
  have := @May.tail
  refine raise_kept (List.foldlRecOn (motive := fun t => Kept [.out, .fwQueue, .od, .field] (restartCounted s) t) _ _
    (lastingEmcy_kept (Kept.refl _ _) _ _ _) fun _ h b _ => endLasting_kept h _ b) _ _

theorem rd_restartCounted_ne (s : State) {k : Nat} (hstate : k ≠ E.lkt_LKT_STATE) (hlast : k ≠ E.lkt_LAST_RESTART)
    (hrestarts : k ≠ E.lkt_RESTARTS) : rd (restartCounted s) k = rd (seriesKept s) k := by
  rw [restartCounted, rd_wr_ne _ _ hstate, rd_wr_ne _ _ hlast, rd_bump_ne _ hrestarts]
  rfl

/-! ### Queued calls that all end (R386) -/

theorem endAll_locket (s : State) (status : Nat) :
    (endAll s status).locket.queue = [] ∧ (endAll s status).locket.resumed = s.locket.resumed ∧
      (endAll s status).locket.served = s.locket.served := by
  refine List.foldlRecOn (motive := fun t : State => t.locket.queue = [] ∧ t.locket.resumed = s.locket.resumed ∧
    t.locket.served = s.locket.served) s.locket.queue _ ⟨rfl, rfl, rfl⟩ fun t h q _ => ?_
  rw [endCall_locket]
  exact h

theorem rd_endAll (s : State) (status : Nat) {k : Nat} (hevents : k ≠ E.pwr_EVENTS_DROPPED) : rd (endAll s status) k = rd s k :=
  rd_foldl (fun t q _ => (raise_entries _ _ _ k (List.mem_singleton.not.mpr hevents) : rd (endCall t q.ticket status 0) k = _)) _

theorem endAll_kept_parts (s : State) (status : Nat) :
    Kept [.free, .out, .fwQueue, .od, .mem, .memc, .locket, .flash, .power] s (endAll s status) := by
  have := @May.head
  have := @May.tail
  exact endAll_kept (Kept.refl _ s) status

/-- A world that failed for the third time, before FAULT_N. -/
def failureTold (s : State) : State :=
  raise (lastingEmcy (endAll (wr (wr s E.lkt_LKT_STATE 3) E.lkt_FAILED_SERIES 3) 0x205) 0x5051 3 0) .lktFailed []

theorem lktFail_eq (s : State) : lktFail s = latchFault (failureTold s) := rfl

theorem rd_failureTold (s : State) {k : Nat} (hregister : k ≠ E.err_ERROR_REGISTER) (hdropped : k ≠ E.comm_EMCY_DROPPED)
    (hevents : k ≠ E.pwr_EVENTS_DROPPED) : rd (failureTold s) k = rd (wr (wr s E.lkt_LKT_STATE 3) E.lkt_FAILED_SERIES 3) k := by
  rw [failureTold, raise_entries _ _ _ k (List.mem_singleton.not.mpr hevents),
    lastingEmcy_entries _ _ _ _ k (notMem_two.mpr ⟨hdropped, hregister⟩), rd_endAll _ _ hevents]

theorem failureTold_queue (s : State) : (failureTold s).locket.queue = [] := by
  rw [failureTold, raise_locket, (lastingEmcy_kept_field ..).parts .locket (by decide)]
  exact (endAll_locket ..).1

theorem contains_failureTold (s : State) : (failureTold s).field.lasting.contains (0x5051, 3) = true := by
  rw [failureTold, (raise_kept_events ..).parts .field (by decide)]
  exact contains_lastingEmcy ..

/-! ### The world that resumed (R384) -/

/-- The resumed world is noted and LKT runs. -/
def resumeNoted (s : State) : State :=
  wr { s with locket := { s.locket with
    resumed := some s.time, served := s.time, signetLog := s.locket.signetLog ++ [rd s E.lkt_RESTARTS] } } E.lkt_LKT_STATE 1

/-- The resumption is told; the conditions of the restarts end. -/
def resumeTold (s : State) : State := endEach (raise (endAll (resumeNoted s) 0x204) .lktResumed []) [1, 2, 3]

theorem lktResumed_eq {s : State} (h : lktState s = 2) : lktResumed s = (List.range 4).foldl trustedResume (resumeTold s) :=
  if_neg (not_not_intro h)

theorem resumes_kept (s : State) : Kept [.out, .touch] s ((List.range 4).foldl trustedResume s) := by
  have := @May.head
  have := @May.tail
  exact List.foldlRecOn (motive := fun t => Kept [.out, .touch] s t) _ _ (Kept.refl _ s) fun _ h p _ => trustedResume_kept h p

theorem resumeTold_locket (s : State) : (resumeTold s).locket = (endAll (resumeNoted s) 0x204).locket := by
  rw [resumeTold, (endEach_kept ..).parts .locket (by decide), raise_locket]

theorem lktState_resumeTold (s : State) : lktState (resumeTold s) = 1 := by
  rw [lktState, resumeTold, rd_endEach _ _ (by decide) (by decide), raise_entries _ _ _ E.lkt_LKT_STATE (by decide),
    rd_endAll _ _ (by decide), resumeNoted, rd_wr_same]

theorem resumeTold_boot (s : State) : (resumeTold s).boot = s.boot := by
  rw [resumeTold, (endEach_kept ..).parts .boot (by decide), (raise_kept_events ..).parts .boot (by decide),
    (endAll_kept_parts ..).parts .boot (by decide), resumeNoted, wr_boot]

/-! ### Unlocks that end (R393) -/

/-- The masked enables are in force. -/
def unlockNoted (s : State) : State :=
  wr (wr s E.dbg_DEBUG_STATE ((bitsOf 4 s.locket.mask).foldl (fun v i => setBit v i true) (rd s E.dbg_DEBUG_STATE))) E.dbg_UNLOCK_STATE 3

theorem unlockEnd_good {s : State} (hon : pdOn (unlockNoted s) 2 = true) : unlockEnd s true = emit (unlockNoted s)
    (.event false .debugUnlocked [((bitsOf 4 s.locket.mask).foldl (fun v i => setBit v i true) (rd s E.dbg_DEBUG_STATE) : Nat)]) :=
  raise_on _ _ _ hon

theorem unlockEnd_bad (s : State) : unlockEnd s false = wr (bump s E.dbg_UNLOCK_FAILS) E.dbg_UNLOCK_STATE
    (if 8 ≤ rd (bump s E.dbg_UNLOCK_FAILS) E.dbg_UNLOCK_FAILS then 5 else 4) := rfl

theorem bootOn_of_ne {s : State} (h : s.boot.step ≠ 3) : bootOn s = s := if_pos (.inl h)

end Sys2Proof.Proofs
end

section
/-! O21: the trusted world. -/

namespace Sys2Proof.Proofs

open Sys2Proof Sys2Proof.Machine Sys2Proof.Laws

/-- Settles O21: a grant, a restart, its failure and a resumption are each a chain of writes and messages; what follows a write of the chain
does not touch its entry. -/
theorem trustedWorldLendsAndWatches : Obligations.TrustedWorldLendsAndWatches := by
  unfold Obligations.TrustedWorldLendsAndWatches
  refine ⟨⟨?release, ?noHand, ?busy⟩, ⟨?grant, ?early, ?noGrant⟩, ⟨?create, ?exists_, ?destroy, ?destroyNone, ?noContext⟩,
    ⟨?submit, ?refused, ?submitNone⟩, ⟨?service, ?serviceIdle⟩, ⟨?restart, ?failure, ?restartIdle⟩, ⟨?resumed, ?resumedIdle⟩,
    ⟨?series, ?seriesIdle⟩, ⟨?unlock, ?unlockIdle⟩, ⟨?signet, ?signetIdle⟩,
    ⟨?halt, ?haltTrusted, ?haltShading, ?noHalt, ?noHaltShading, ?noHaltTrusted⟩⟩
  case release =>
    intro s b h hlow hhigh hhand hwaits hidle
    refine ⟨_, congrArg Host.Outcome.next (handoverRelease_begins hhand hwaits hidle), { h with resetting := true }, ?_, rfl, rfl⟩
    have hblock : 16 + (b - 16) = b := by omega
    rw [← hblock, Nat.add_sub_cancel_left]
    exact releaseEffect_hand ..
  case noHand =>
    intro s b hnone
    rw [exec_handoverRelease, execHandoverRelease, handoverRelease, hnone]
  case busy => exact fun s b hbusy => congrArg Host.Outcome.next (handoverRelease_busy hbusy)
  case grant =>
    intro s b h hlow hhigh hhand hresetting houtside hon
    have howner : ∀ {k : Nat}, k < 0x300000 → k ≠ E.cvu_OWNER (b - 16) := fun hk => by simp only [E.cvu_OWNER]; omega
    have hon' : pdOn (handGranted s b h) 2 = true := by
      rw [pdOn, handGranted, rd_bump_ne _ (by decide)]
      exact (congrArg (fun v => v == 2) (rd_wr_ne s _ (howner (by decide)))).trans hon
    refine ⟨_, congrArg Host.Outcome.next (handoverGrant_outside hhand hresetting houtside), ?_⟩
    rw [raise_on _ _ _ hon']
    refine ⟨handOf_setHand (wr s (E.cvu_OWNER (b - 16)) h.target) b none, ?_, tget_tset_same .., ?_, rfl, tget_tset_same ..⟩
    · exact (rd_bump_ne _ (howner (by decide)).symm).trans (rd_wr_same s ..)
    · exact (rd_bump_same ..).trans (congrArg (satInc · 1) (rd_wr_ne s _ (howner (by decide))))
  case early =>
    intro s b h hhand hwaits
    refine congrArg Host.Outcome.next (handoverGrant_idle fun x hx => ?_)
    rwa [Option.some.inj (hx.symm.trans hhand)]
  case noGrant =>
    intro s b hnone
    exact congrArg Host.Outcome.next (handoverGrant_idle fun x hx => absurd (hx.symm.trans hnone) (Option.some_ne_none x))
  case create =>
    intro s n d hlkt hon hn hfree hgood hshare
    rw [exec_tctx, execTctx, mailbox_served hlkt hon, tctx]
    dsimp only
    rw [if_neg (by omega), if_neg (by decide), hfree, if_neg (by decide), if_neg (not_not_intro hgood), if_neg (by omega)]
    rfl
  case exists_ =>
    intro s n d hlkt hon hn htaken
    rw [exec_tctx, execTctx, mailbox_served hlkt hon, tctx]
    dsimp only
    rw [if_neg (by omega), if_neg (by decide), if_pos htaken]
    rfl
  case destroy =>
    intro s n d x hlkt hon hn hthere
    rw [exec_tctx, execTctx, mailbox_served hlkt hon, tctx]
    dsimp only
    rw [if_neg (by omega), if_pos (by decide), leaveRender, hthere, if_pos (by rfl)]
    rfl
  case destroyNone =>
    intro s n d hlkt hon hn hnone
    rw [exec_tctx, execTctx, mailbox_served hlkt hon, tctx]
    dsimp only
    rw [if_neg (by omega), if_pos (by decide), hnone, if_neg (by decide)]
    rfl
  case noContext =>
    intro s n d b hlkt hon hn
    rw [exec_tctx, execTctx, mailbox_served hlkt hon, tctx]
    exact congrArg Host.Outcome.next (if_pos hn)
  case submit =>
    intro s n r x b hlkt hon hn hthere haccept
    rw [exec_tsubmit, execTsubmit, mailbox_served hlkt hon, tsubmit, if_neg (by omega), hthere]
    dsimp only
    rw [haccept]
    rfl
  case refused =>
    intro s n r k x hlkt hon hn hthere hcode
    rw [exec_tsubmit, execTsubmit, mailbox_served hlkt hon, tsubmit, if_neg (by omega), hthere]
    dsimp only
    rw [hcode]
    rfl
  case submitNone =>
    intro s n r hlkt hon hn hnone
    rw [exec_tsubmit, execTsubmit, mailbox_served hlkt hon, tsubmit, if_neg (by omega), hnone]
    rfl
  case service => exact fun s h => congrArg Host.Outcome.next (if_pos h)
  case serviceIdle => exact fun s h => congrArg Host.Outcome.next (if_neg (by omega))
  case restart =>
    intro s hruns hseries hon
    have hraster := (abandonTrusted_kept_raster (restartTold s)).parts
    have hrd : ∀ k, rd (abandonTrusted (restartTold s)) k = rd (restartTold s) k := rd_congr (hraster .od (by decide))
    have hcount : rd (restartTold s) E.lkt_FAILED_SERIES = failedCount s := by
      rw [rd_restartTold s (by decide) (by decide) (by decide), rd_restartCounted_ne s (by decide) (by decide) (by decide), seriesKept,
        rd_wr_same]
    have htold := (restartTold_kept s).parts
    have hon' : pdOn (restartCounted s) 2 = true := by
      rw [pdOn, rd_restartCounted_ne s (by decide) (by decide) (by decide), seriesKept, rd_wr_ne _ _ (by decide)]
      exact hon
    have hlocket : (abandonTrusted (restartTold s)).locket = (restartCounted s).locket :=
      (hraster .locket (by decide)).trans (htold .locket (by decide))
    refine ⟨_, congrArg Host.Outcome.next (lktRestart_again hruns hseries), ?_, ?_, ?_, ?_, ?_, ?_, ?_, ?_⟩
    · rw [lktState, hrd, rd_restartTold s (by decide) (by decide) (by decide), restartCounted, rd_wr_same]
    · rw [hrd, rd_restartTold s (by decide) (by decide) (by decide), restartCounted, rd_wr_ne _ _ (by decide), rd_wr_ne _ _ (by decide),
        rd_bump_same]
      exact congrArg (satInc · 1) (rd_wr_ne _ _ (by decide))
    · rw [hrd, rd_restartTold s (by decide) (by decide) (by decide), restartCounted, rd_wr_ne _ _ (by decide), rd_wr_same]
    · rw [hrd, hcount, failedCount]
    · rw [hlocket]
      rfl
    · rw [hrd, hcount, hraster .field (by decide), restartTold, (raise_kept_events ..).parts .field (by decide)]
      refine contains_endEach (fun hmem => ?_) (contains_lastingEmcy ..)
      obtain ⟨-, hne⟩ := List.mem_filter.mp hmem
      exact bne_iff_ne.mp hne rfl
    · rw [hrd, hcount, hraster .out (by decide), restartTold, raise_out_on]
      · rfl
      · rw [pdOn, rd_endEach _ _ (by decide) (by decide), lastingEmcy_entries _ _ _ _ _ (by decide)]
        exact hon'
    · rw [hlocket]
      rfl
  case failure =>
    intro s hruns hseries
    have hraster := (abandonTrusted_kept_raster (lktFail (resetTc (seriesKept s)))).parts
    have hrd : ∀ {k : Nat}, k ≠ E.glob_DEVICE_STATE → k ≠ E.err_ERROR_REGISTER → k ≠ E.comm_EMCY_DROPPED → k ≠ E.pwr_EVENTS_DROPPED →
        rd (abandonTrusted (lktFail (resetTc (seriesKept s)))) k =
          rd (wr (wr (resetTc (seriesKept s)) E.lkt_LKT_STATE 3) E.lkt_FAILED_SERIES 3) k := fun hdevice hregister hdropped hevents => by
      rw [rd_congr (hraster .od (by decide)), lktFail_eq, latchFault, settleDevice, rd_wr_ne _ _ hdevice,
        ← rd_failureTold _ hregister hdropped hevents]
      rfl
    have hfault : (abandonTrusted (lktFail (resetTc (seriesKept s)))).boot.fault = true := by
      rw [hraster .boot (by decide)]
      rfl
    refine ⟨_, congrArg Host.Outcome.next (lktRestart_fails hruns hseries), ?_, ?_, ?_, hfault, ?_, ?_⟩
    · rw [lktState, hrd (by decide) (by decide) (by decide) (by decide), rd_wr_ne _ _ (by decide), rd_wr_same]
    · rw [hrd (by decide) (by decide) (by decide) (by decide), rd_wr_same]
    · rw [hraster .locket (by decide), lktFail_eq, ← failureTold_queue (resetTc (seriesKept s))]
      rfl
    · rw [faultN, hfault]
      rfl
    · rw [hraster .field (by decide), lktFail_eq, ← contains_failureTold (resetTc (seriesKept s))]
      rfl
  case restartIdle => exact fun s h => congrArg Host.Outcome.next (if_pos (.inl h))
  case resumed =>
    intro s hlkt hstep
    have hkept := (resumes_kept (resumeTold s)).parts
    obtain ⟨hqueue, hresumed, hserved⟩ := endAll_locket (resumeNoted s) 0x204
    have hexec : bootOn (lktResumed s) = (List.range 4).foldl trustedResume (resumeTold s) := by
      rw [lktResumed_eq hlkt]
      exact bootOn_of_ne (by rw [hkept .boot (by decide), resumeTold_boot]; exact hstep)
    refine ⟨_, congrArg Host.Outcome.next hexec, ?_, ?_, ?_, ?_⟩
    · rw [lktState, rd_congr (hkept .od (by decide))]
      exact lktState_resumeTold s
    · rw [hkept .locket (by decide), resumeTold_locket, hresumed]
      rfl
    · rw [hkept .locket (by decide), resumeTold_locket, hserved]
      rfl
    · rw [hkept .locket (by decide), resumeTold_locket, hqueue]
  case resumedIdle =>
    intro s hlkt hstep
    have hstays : lktResumed s = s := if_pos hlkt
    rw [exec_lktResumed, execLktResumed, hstays, bootOn_of_ne hstep]
  case series => exact fun s h => congrArg Host.Outcome.next (if_pos h)
  case seriesIdle => exact fun s h => congrArg Host.Outcome.next (if_neg h)
  case unlock =>
    intro s hstate hlkt hon
    have hverified : unlockVerified s = unlockEnd { s with locket := { s.locket with response := [] } }
        (unlocks s s.locket.mask (challengeBytes s) s.locket.response) := if_neg (by omega)
    refine ⟨_, congrArg Host.Outcome.next hverified, ?_⟩
    cases unlocks s s.locket.mask (challengeBytes s) s.locket.response with
    | true =>
      have hon' : pdOn (unlockNoted { s with locket := { s.locket with response := [] } }) 2 = true := by
        rw [pdOn, unlockNoted, rd_wr_ne _ _ (by decide), rd_wr_ne _ _ (by decide)]
        exact hon
      rw [unlockEnd_good hon']
      refine ⟨rfl, fun _ => ⟨?_, ?_, ?_, ?_⟩, fun h => absurd h (by decide)⟩
      · rw [rd_emit, unlockNoted, rd_wr_same]
      · rw [rd_emit, unlockNoted, rd_wr_ne _ _ (by decide), rd_wr_same]
        rfl
      · rw [rd_emit, unlockNoted, rd_wr_ne _ _ (by decide), rd_wr_same]
        rfl
      · rw [rd_emit, unlockNoted, rd_wr_ne _ _ (by decide), rd_wr_ne _ _ (by decide)]
        rfl
    | false =>
      have hfails : rd (bump { s with locket := { s.locket with response := [] } } E.dbg_UNLOCK_FAILS) E.dbg_UNLOCK_FAILS =
          satInc (rd s E.dbg_UNLOCK_FAILS) 1 := rd_bump_same ..
      rw [unlockEnd_bad, hfails]
      refine ⟨rfl, fun h => absurd h (by decide), fun _ => ⟨?_, rd_wr_same .., ?_⟩⟩
      · rw [rd_wr_ne _ _ (by decide), hfails]
      · rw [rd_wr_ne _ _ (by decide), rd_bump_ne _ (by decide)]
        rfl
  case unlockIdle => exact fun s h => congrArg Host.Outcome.next (if_pos h)
  case signet => exact fun s hstate hlkt => congrArg Host.Outcome.next (if_pos ⟨hstate, hlkt⟩)
  case signetIdle => exact fun s h => congrArg Host.Outcome.next (if_neg (by omega))
  case halt => exact fun s c henabled hruns => congrArg Host.Outcome.next (haltRequest_control henabled hruns)
  case haltTrusted =>
    exact fun s henabled hruns => congrArg Host.Outcome.next (if_pos ⟨henabled, by rw [hruns]; exact Bool.false_ne_true⟩)
  case haltShading =>
    intro s n h henabled
    refine ⟨_, congrArg Host.Outcome.next (if_pos henabled), ?_, rfl, rfl⟩
    rw [coreOf_setCore, hartOf, setHart]
    exact tget_tset_same ..
  case noHalt => exact fun s c hdisabled => congrArg Host.Outcome.next (haltRequest_control_disabled c hdisabled)
  case noHaltShading =>
    exact fun s n h hdisabled => congrArg Host.Outcome.next (if_neg fun hon => Bool.false_ne_true (hdisabled.symm.trans hon))
  case noHaltTrusted =>
    exact fun s hdisabled => congrArg Host.Outcome.next (if_neg fun hon => Bool.false_ne_true (hdisabled.symm.trans hon.1))

end Sys2Proof.Proofs
end

section
/-! SUPPORT. Requests to the DRAM (R352) and the arbiters before its queues (R44-R47). -/

namespace Sys2Proof.Proofs

open Sys2Proof Sys2Proof.Machine Sys2Proof.Laws

/-! ### Requests within one block -/

/-- An access within a block of 64 bytes has one piece. -/
theorem blocks64_within {a n : Nat} (hpos : 0 < n) (hwithin : a % 64 + n ≤ 64) : blocks64 a n = [(a, 0, n)] := by
  have hnone : ∀ i, 0 < i → ¬ max a ((a / 64 + i) * 64) < min (a + n) ((a / 64 + i + 1) * 64) := fun i hi => by omega
  have hfirst : max a ((a / 64 + 0) * 64) = a := by omega
  have hend : min (a + n) ((a / 64 + 0 + 1) * 64) = a + n := by omega
  have hrest : ∀ l : List Nat, (∀ i ∈ l, 0 < i) → l.filterMap (fun i =>
      let lo := max a ((a / 64 + i) * 64)
      let hi := min (a + n) ((a / 64 + i + 1) * 64)
      if lo < hi then some (lo, lo - a, hi - lo) else none) = [] := fun l hl =>
    List.filterMap_eq_nil_iff.mpr fun i hi => if_neg (hnone i (hl i hi))
  have hrange : List.range (n / 64 + 2) = 0 :: (List.range (n / 64 + 1)).map Nat.succ := List.range_succ_eq_map
  rw [blocks64, hrange, List.filterMap_cons, hrest _ (fun i hi => by obtain ⟨j, -, rfl⟩ := List.mem_map.mp hi; omega)]
  dsimp only
  rw [hfirst, hend, if_pos (by omega), Nat.sub_self, Nat.add_sub_cancel_left]

theorem resolveBlocks_within (s : State) (l : Leaf) (w : DramWhy) {a n : Nat} (hpos : 0 < n) (hwithin : a % 64 + n ≤ 64) (write : Bool) :
    resolveBlocks s { leaf := l, why := w, addr := a, len := n } write =
      [((a, 0, n), resolveReq s { leaf := l, why := w, addr := a, len := n } write)] := by
  rw [resolveBlocks, blocks64_within hpos hwithin]
  rfl

theorem memRequest_leaf (s : State) {r : DramReq} (data : Option (List Byte)) (hleaf : byCore r.why = false) :
    memRequest s r data = dramRequest s r data := by
  obtain ⟨leaf, addr, len, why⟩ := r
  cases why with
  | core k gate fetch => exact absurd (show true = false from hleaf) (by decide)
  | _ => rfl

section Within

variable {s : State} {l : Leaf} {w : DramWhy} {a n : Nat} (hready : memReady s = true) (hpos : 0 < n) (hwithin : a % 64 + n ≤ 64)
include hready hpos hwithin

theorem dramRequest_enters {p : Nat} {data : Option (List Byte)}
    (hplace : (resolveReq s { leaf := l, why := w, addr := a, len := n } data.isSome).1 = some p) (hphysical : physical s p n = true)
    (hroom : txRoom s l (channelOf s p).1 = true) : dramRequest s { leaf := l, why := w, addr := a, len := n } data =
      .next (settleLeaves (if data.isSome then send (enterTx s l w p n (data.map (fun d => slice d 0 n))) .fabric [2] []
        else enterTx s l w p n (data.map (fun d => slice d 0 n)))) := by
  simp only [dramRequest, dramEnter, resolveBlocks_within s l w hpos hwithin, List.filterMap_cons, List.filterMap_nil, hplace,
    Option.map_some, List.any_cons, List.any_nil, hready, hphysical, hroom, List.foldl_cons, List.foldl_nil, not_true_eq_false,
    Bool.not_true, Bool.false_or, Bool.false_eq_true, if_false, Option.isSome_some, Bool.true_or, and_true]

theorem dramRequest_refused {k path : Nat} {data : Option (List Byte)}
    (hrefused : resolveReq s { leaf := l, why := w, addr := a, len := n } data.isSome = (none, k, path)) :
    dramRequest s { leaf := l, why := w, addr := a, len := n } data =
      .next (settleLeaves (refuseReq s { leaf := l, why := w, addr := a, len := n } data.isSome k path)) := by
  simp only [dramRequest, dramEnter, resolveBlocks_within s l w hpos hwithin, List.filterMap_cons, List.filterMap_nil, hrefused,
    Option.map_none, List.any_cons, List.any_nil, hready, List.foldl_cons, List.foldl_nil, not_true_eq_false, Bool.false_eq_true, if_false,
    Option.isSome_none, Bool.or_false, and_false]

theorem dramRequest_nowhere {p : Nat} {data : Option (List Byte)}
    (hplace : (resolveReq s { leaf := l, why := w, addr := a, len := n } data.isSome).1 = some p) (hphysical : physical s p n = false) :
    dramRequest s { leaf := l, why := w, addr := a, len := n } data = .fault .noSuchPhysicalAddress := by
  simp only [dramRequest, resolveBlocks_within s l w hpos hwithin, List.filterMap_cons, List.filterMap_nil, hplace,
    Option.map_some, List.any_cons, List.any_nil, hready, hphysical, not_true_eq_false, Bool.not_false, Bool.true_or, if_true, if_false]

end Within

theorem dramRequest_not_served {s : State} (r : DramReq) (data : Option (List Byte)) (h : memReady s = false) :
    dramRequest s r data = .next s := if_pos (by rw [h]; exact Bool.false_ne_true)

/-- A core that runs is served by its caches where they hold the block. -/
theorem coreRequest_cached {s t : State} {k : Nat} {gate fetch : Bool} {l : Leaf} {w : DramWhy} {a n : Nat}
    {data : Option (List Byte)} (hpower : k = 4 ∨ pdOn s 2 = true) (hruns : s.locket.halted.contains k = false) (hpos : 0 < n)
    (hwithin : a % 64 + n ≤ 64) (hdata : fetch = true → data = none) (hcached : cacheBlock s k gate fetch data (a, 0, n) = some t) :
    coreRequest s k gate fetch { leaf := l, why := w, addr := a, len := n } data = .next t := by
  have hmade : ¬ ((k < 4 ∧ ¬ pdOn s 2 = true) ∨ s.locket.halted.contains k = true ∨ (fetch = true ∧ data.isSome = true)) := by
    rintro (⟨hlow, hoff⟩ | hheld | ⟨hfetch, hsome⟩)
    · exact hpower.elim (by omega) hoff
    · exact Bool.false_ne_true (hruns.symm.trans hheld)
    · rw [hdata hfetch] at hsome
      exact Bool.false_ne_true hsome
  rw [coreRequest]
  dsimp only
  rw [if_neg hmade, blocks64_within hpos hwithin, List.foldl_cons, List.foldl_nil]
  dsimp only
  rw [hcached]

/-! ### What a waiting write reads back (R352) -/

theorem waitByte_append (l : List DramTx) (t : DramTx) (x : Nat) :
    waitByte (l ++ [t]) x = match txByte t x with | some b => some b | none => waitByte l x := by
  induction l with
  | nil => simp only [List.nil_append, waitByte]; cases txByte t x <;> rfl
  | cons u l ih =>
    rw [List.cons_append, waitByte, ih, waitByte]
    cases txByte t x <;> rfl

theorem settleLeaves_kept_od (s : State) : Kept [.od] s (settleLeaves s) := by
  have := @May.head
  exact settleLeaves_kept (Kept.refl _ s)

theorem settleDown_memc (s : State) (ch : Nat) : (settleDown s ch).memc = s.memc := by
  have := @May.head
  exact (settleDown_kept (Kept.refl [.od] s) ch).parts .memc (by decide)

theorem rouse_txs (s : State) (ch r : Nat) : (rouse s ch r).memc.txs = s.memc.txs := by
  unfold rouse
  dsimp only
  split
  · rw [settleDown_memc]
    rfl
  · rfl

theorem enterTx_kept_memc (s : State) (l : Leaf) (why : DramWhy) (a n : Nat) (data : Option (List Byte)) :
    Kept [.od, .memc] s (enterTx s l why a n data) := by
  have := @May.head
  have := @May.tail
  exact enterTx_kept (Kept.refl _ s) l why a n data

/-- A block of a write as it waits. -/
def waitingWrite (s : State) (l : Leaf) (why : DramWhy) (a n : Nat) (d : List Byte) : DramTx :=
  { id := s.memc.nextId, chan := (channelOf s a).1, leaf := l, why := why, addr := a, len := n, write := true, data := d.map some,
    at_ := s.time, waits := [] }

theorem enterTx_write (s : State) (l : Leaf) (why : DramWhy) (a n : Nat) (d : List Byte) : enterTx s l why a n (some d) =
    rouse { s with memc := { s.memc with
      txs := s.memc.txs.map (fun x => if ([] : List Nat).contains x.id then { x with promoted := true } else x) ++
        [waitingWrite s l why a n d]
      nextId := s.memc.nextId + 1 } } (channelOf s a).1 (place s (channelOf s a).2).1 := rfl

/-- A block of a write joins the transactions, none of which it changes. -/
theorem enterTx_write_txs (s : State) (l : Leaf) (why : DramWhy) (a n : Nat) (d : List Byte) :
    (enterTx s l why a n (some d)).memc.txs = s.memc.txs ++ [waitingWrite s l why a n d] := by
  have hsame : s.memc.txs.map (fun x => if ([] : List Nat).contains x.id then { x with promoted := true } else x) = s.memc.txs :=
    List.map_id'' (fun _ => rfl) _
  rw [enterTx_write, rouse_txs]
  exact congrArg (· ++ _) hsame

theorem txByte_write (t : DramTx) {d : List Byte} (hwrite : t.write = true) (hdata : t.data = d.map some) (x : Nat) :
    txByte t x = if t.addr ≤ x ∧ x < t.addr + d.length then some (at0 0 d (x - t.addr)) else none := by
  rw [txByte, hwrite, hdata]
  by_cases hlow : t.addr ≤ x
  · rw [if_pos ⟨rfl, hlow⟩, at0, List.getElem?_map]
    by_cases hhigh : x < t.addr + d.length
    · rw [if_pos ⟨hlow, hhigh⟩, at0, List.getElem?_eq_getElem (by omega)]
      rfl
    · rw [if_neg (by omega), List.getElem?_eq_none (by omega)]
      rfl
  · rw [if_neg (fun h => hlow h.2), if_neg (fun h => hlow h.1)]

/-- A write that waits is what a read of its bytes returns; every other byte reads as before. -/
theorem memRd_enterTx_write (s : State) (l : Leaf) (why : DramWhy) (a n : Nat) (d : List Byte) (x : Nat) :
    memRd (enterTx s l why a n (some d)) x = if a ≤ x ∧ x < a + d.length then at0 0 d (x - a) else memRd s x := by
  have hmem : dramByte (enterTx s l why a n (some d)) x = dramByte s x := by
    rw [dramByte, (enterTx_kept_memc ..).parts .mem (by decide), dramByte]
  rw [memRd, hmem, enterTx_write_txs, waitByte_append, txByte_write _ rfl rfl, show (waitingWrite s l why a n d).addr = a from rfl]
  by_cases hin : a ≤ x ∧ x < a + d.length
  · rw [if_pos hin, if_pos hin]
    rfl
  · rw [if_neg hin, if_neg hin]
    rfl

theorem memRd_congr {s t : State} (hmem : t.mem = s.mem) (hmemc : t.memc = s.memc) (x : Nat) : memRd t x = memRd s x := by
  rw [memRd, memRd, dramByte, dramByte, hmem, hmemc]

/-! ### Decisions with one request (R46) -/

theorem decide46_single (a : ArbRec) (b w : Nat) : (decide46 a [(b, w)] [b]).1 = some b := by
  simp [decide46, largest]

theorem distinct_single (b : Nat) : distinct [b] = [b] := rfl

/-- The transactions with the level of one of them set. -/
def stagedTxs (l : List DramTx) (id st : Nat) : List DramTx := l.map (fun y => if y.id = id then { y with stage := st } else y)

theorem setStage_txs (s : State) (id st : Nat) : (setStage s id st).memc.txs = stagedTxs s.memc.txs id st := rfl

theorem stagedTxs_twice (l : List DramTx) (id a b : Nat) : stagedTxs (stagedTxs l id a) id b = stagedTxs l id b := by
  rw [stagedTxs, stagedTxs, List.map_map]
  refine List.map_congr_left fun y _ => ?_
  by_cases h : y.id = id
  · simp only [Function.comp_apply, if_pos h]
  · simp only [Function.comp_apply, if_neg h]

/-- Level 1: the guest's one request is picked. -/
theorem decideClients_single {s : State} {ch g : Nat} {x : DramTx} (hone : levelOne s ch = [x]) (hguest : leafGuest s x.leaf = some g)
    (hstage : x.stage = 0) : (decideClients s ch g).memc.txs = stagedTxs s.memc.txs x.id 1 ∧ (decideClients s ch g).od = s.od := by
  have hguestly : [x].filter (fun t => leafGuest s t.leaf == some g) = [x] := by simp [hguest]
  have hq : [x].filter (fun t => leafGuest s t.leaf == some g && t.stage != 2) = [x] := by simp [hguest, hstage]
  rw [decideClients]
  dsimp only
  rw [hone, hq, hguestly]
  cases hpromoted : x.promoted with
  | true =>
    have hfind : [x].find? (fun t => t.promoted && t.stage == 0) = some x := by simp [hpromoted, hstage]
    rw [hfind]
    exact ⟨stagedTxs_twice _ _ _ _, rfl⟩
  | false =>
    have hfind : [x].find? (fun t => t.promoted && t.stage == 0) = none := by simp [hpromoted]
    have hany : [x].any (fun t => t.stage == 1) = false := by simp [hstage]
    have hself : [x].find? (fun t => leafNum t.leaf == leafNum x.leaf) = some x := by simp
    rw [hfind]
    dsimp only
    rw [hany, if_neg Bool.false_ne_true]
    simp only [List.map_cons, List.map_nil, distinct_single, decide46_single, Option.bind_some, hself]
    exact ⟨setStage_txs _ _ _, rfl⟩

/-- Level 2: the state after the class's one request is picked. -/
def guestPicked (s : State) (ch cls id b : Nat) (r : ArbRec) : State :=
  let s1 := setStage (setArb s (0x10000 + ch * 4 + cls) r) id 2
  if cls = 2 then
    let ten := s1.ten
    { s1 with ten := { ten with
        grants := if b < 64 then tset (fun _ => 0) ten.grants (ch * 64 + b)
                                  (tget (fun _ => 0) ten.grants (ch * 64 + b) + 1) else ten.grants,
        window := tset (fun _ => 0) ten.window ch (tget (fun _ => 0) ten.window ch + 1) } }
  else s1

theorem decideGuests_single {s : State} {ch cls : Nat} {x : DramTx} (hone : levelOne s ch = [x]) (hlevel : atLevelTwo s x = true)
    (hclass : leafClass x.leaf = cls) (hwindow : cls = 2 → tget (fun _ => 0) s.ten.window ch < 4096)
    (hfree : (cls != 2 || decide (64 ≤ branchOf s x.leaf) || !capped s ch (branchOf s x.leaf)) = true) :
    ∃ r, decideGuests s ch cls = guestPicked s ch cls x.id (branchOf s x.leaf) r := by
  have hl1 : [x].filter (fun t => leafClass t.leaf == cls) = [x] := by simp [hclass]
  have hnottwo : (x.stage == 2) = false := by
    simp only [atLevelTwo, Bool.or_eq_true, Bool.and_eq_true, beq_iff_eq] at hlevel
    exact beq_eq_false_iff_ne.mpr (by omega)
  have hgoes : ¬ ([x].any (fun t => t.stage == 2 && (([x].find? (fun t => t.promoted && atLevelTwo s t)).isNone || t.promoted)) = true ∨
      (cls = 2 ∧ 4096 ≤ tget (fun _ => 0) s.ten.window ch)) := by
    rintro (h | ⟨htwo, hfull⟩)
    · simp [hnottwo] at h
    · exact absurd (hwindow htwo) (by omega)
  have hself : [x].find? (fun t => atLevelTwo s t && branchOf s t.leaf == branchOf s x.leaf) = some x := by simp [hlevel]
  have hwaiting : [x].filter (atLevelTwo s) = [x] := by simp [hlevel]
  have hfrees : [branchOf s x.leaf].filter (fun b => cls != 2 || decide (64 ≤ b) || !capped s ch b) = [branchOf s x.leaf] := by
    simp only [List.filter_cons, hfree, if_true, List.filter_nil]
  rw [decideGuests]
  dsimp only
  rw [hone, hl1, if_neg hgoes]
  cases hpromoted : x.promoted with
  | true =>
    have hfind : [x].find? (fun t => t.promoted && atLevelTwo s t) = some x := by simp [hpromoted, hlevel]
    rw [hfind]
    exact ⟨_, rfl⟩
  | false =>
    have hfind : [x].find? (fun t => t.promoted && atLevelTwo s t) = none := by simp [hpromoted]
    rw [hfind]
    simp only [List.map_cons, List.map_nil, distinct_single, hwaiting, hfrees, if_false, decide46_single, hself,
      List.cons_ne_nil]
    exact ⟨_, rfl⟩

theorem settleLeaves_memc (s : State) : (settleLeaves s).memc = s.memc := (settleLeaves_kept_od s).parts .memc (by decide)

theorem leafClass_lt (l : Leaf) : leafClass l < 4 := by cases l <;> exact by simp [leafClass]

/-- A request is the only branch of its class. -/
theorem weighted_single (x : DramTx) : ([0, 1, 2, 3].map (fun (k : Nat) =>
    (k, (leavesOf ([x].filter (fun (t : DramTx) => leafClass t.leaf == k))).length))).filter (fun b => b.2 != 0) = [(leafClass x.leaf, 1)] := by
  have hweight : ∀ k, (leavesOf ([x].filter (fun (t : DramTx) => leafClass t.leaf == k))).length = if leafClass x.leaf = k then 1 else 0 := by
    intro k
    by_cases h : leafClass x.leaf = k
    · simp [h, leavesOf]
    · simp [h, leavesOf]
  have hclass := leafClass_lt x.leaf
  simp only [hweight]
  generalize leafClass x.leaf = c at hclass ⊢
  revert c
  decide

/-- Level 3: the channel's one request that has a slot goes to the command queue. -/
theorem decideClasses_single {s : State} {ch : Nat} {x : DramTx} (hone : levelOne s ch = [x]) (hstage : x.stage = 2)
    (hslot : slotFree (queued s ch) x.write (leafClass x.leaf) = true) :
    (decideClasses s ch).memc.txs = stagedTxs s.memc.txs x.id 3 := by
  have hpicks : [x].filter (fun t => t.stage == 2 && slotFree (queued s ch) t.write (leafClass t.leaf)) = [x] := by simp [hstage, hslot]
  have hself : [x].find? (fun t => leafClass t.leaf == leafClass x.leaf) = some x := by simp
  have hdone : ∀ u v : State, v.memc.txs = u.memc.txs → (settleLeaves (settleCredits (setStage v x.id 3))).memc.txs = stagedTxs u.memc.txs x.id 3 := by
    intro u v h
    rw [settleLeaves_memc]
    exact congrArg (stagedTxs · x.id 3) h
  have hdisp : ∀ c : Prop, [Decidable c] → (if c then [x].find? (fun t => leafClass t.leaf == 0) else none) = some x ∨
      (if c then [x].find? (fun t => leafClass t.leaf == 0) else none) = none := by
    intro c _
    by_cases hc : c
    · rw [if_pos hc]
      by_cases hzero : leafClass x.leaf = 0
      · exact .inl (by simp [hzero])
      · exact .inr (by simp [hzero])
    · exact .inr (if_neg hc)
  rw [decideClasses]
  dsimp only
  rw [hone, hpicks, weighted_single]
  obtain hfirst | hfirst := hdisp (0 < dispCredit s (chanOf s ch) ∨ lowestTolerance s < 20)
  · rw [hfirst]
    exact hdone s _ rfl
  · rw [hfirst]
    cases hpromoted : x.promoted with
    | true =>
      have hfind : [x].find? (·.promoted) = some x := by simp [hpromoted]
      rw [hfind]
      exact hdone s _ rfl
    | false =>
      have hfind : [x].find? (·.promoted) = none := by simp [hpromoted]
      rw [hfind]
      simp only [List.map_cons, List.map_nil, distinct_single, decide46_single, Option.bind_some, hself]
      exact hdone s _ rfl

/-! ### The end of a budget window (R47) -/

theorem tget_foldl_tset {α : Type} [DecidableEq α] (d : Nat → α) (key : Nat → Nat) (f : Nat → α) (hinj : ∀ a b, key a = key b → a = b) :
    ∀ (l : List Nat) (t : Tbl α) (g : Nat), tget d (l.foldl (fun t g => tset d t (key g) (f g)) t) (key g) =
      if g ∈ l then f g else tget d t (key g) := by
  intro l
  induction l with
  | nil => intro t g; rfl
  | cons a l ih =>
    intro t g
    rw [List.foldl_cons, ih]
    by_cases hlater : g ∈ l
    · rw [if_pos hlater, if_pos (List.mem_cons_of_mem _ hlater)]
    · by_cases hfirst : g = a
      · rw [if_neg hlater, hfirst, tget_tset_same, if_pos List.mem_cons_self]
      · rw [if_neg hlater, tget_tset_ne _ _ _ (fun h => hfirst (hinj _ _ h)), if_neg (fun h => (List.mem_cons.mp h).elim hfirst hlater)]

theorem windowEnd_budget {s : State} {ch : Nat} (hfull : 4096 ≤ tget (fun _ => 0) s.ten.window ch) {g : Nat} (hg : g < 64) :
    budgetOf (windowEnd s ch) ch g = 16 * rd s (E.guest_BUDGET g) := by
  rw [budgetOf, windowEnd, if_neg (by omega)]
  dsimp only
  rw [tget_foldl_tset _ (fun g => ch * 64 + g) _ (fun a b h => by omega), if_pos (List.mem_range.mpr hg), Nat.mul_comm]

/-! ### O25 -/

theorem slice_whole {α : Type} (d : List α) : slice d 0 d.length = d := by rw [slice, List.drop_zero, List.take_length]

/-- A write within a block goes out as one message and is what its bytes read back. -/
theorem dramWrite_readsBack {s : State} {l : Leaf} {w : DramWhy} {a p : Nat} {d : List Byte} (hready : memReady s = true)
    (hpos : 0 < d.length) (hwithin : a % 64 + d.length ≤ 64)
    (hplace : (resolveReq s { leaf := l, why := w, addr := a, len := d.length } true).1 = some p) (hphysical : physical s p d.length = true)
    (hroom : txRoom s l (channelOf s p).1 = true) : ∃ t,
    dramRequest s { leaf := l, why := w, addr := a, len := d.length } (some d) = .next t ∧ t.out = .msg .fabric [2] [] :: s.out ∧
      (∀ i, i < d.length → memRd t (p + i) = at0 0 d i) ∧ (∀ x, x < p ∨ p + d.length ≤ x → memRd t x = memRd s x) ∧ t.mem = s.mem := by
  have hrun : dramRequest s { leaf := l, why := w, addr := a, len := d.length } (some d) =
      .next (settleLeaves (send (enterTx s l w p d.length (some d)) .fabric [2] [])) := by
    rw [dramRequest_enters hready hpos hwithin (data := some d) hplace hphysical hroom]
    simp only [Option.isSome_some, if_true, Option.map_some, slice_whole]
  have henter := enterTx_kept_memc s l w p d.length (some d)
  have hwaits := memRd_enterTx_write s l w p d.length d
  generalize enterTx s l w p d.length (some d) = u at hrun henter hwaits
  have hsettle := settleLeaves_kept_od (send u .fabric [2] [])
  have hread : ∀ x, memRd (settleLeaves (send u .fabric [2] [])) x = if p ≤ x ∧ x < p + d.length then at0 0 d (x - p) else memRd s x :=
    fun x => (memRd_congr (s := u) (hsettle.parts .mem (by decide)) (hsettle.parts .memc (by decide)) x).trans (hwaits x)
  refine ⟨_, hrun, ?_, fun i hi => ?_, fun x hx => ?_, ?_⟩
  · exact (hsettle.parts .out (by decide)).trans (congrArg _ (henter.parts .out (by decide)))
  · rw [hread, if_pos ⟨by omega, by omega⟩, Nat.add_sub_cancel_left]
  · rw [hread, if_neg (by omega)]
  · exact (hsettle.parts .mem (by decide)).trans (henter.parts .mem (by decide))

/-- Settles O25: an access within a block has one piece, a waiting write is what its bytes read back, and a level with one request
picks it. -/
theorem dramRequestsReachTheQueue : Obligations.DramRequestsReachTheQueue := by
  unfold Obligations.DramRequestsReachTheQueue
  refine ⟨⟨?read, ?readRefused, ?readNowhere, ?readOff, ?readCached⟩, ⟨?write, ?writeRefused, ?writeNowhere, ?writeCached⟩,
    ⟨?clients, ?bulk, ?guests, ?classes⟩, ?windowEnds, ?windowRuns⟩
  case read =>
    intro s l w a n p hready hcore hpos hwithin hplace hphysical hroom
    rw [exec_dramReadRequest, execDramReadRequest, memRequest_leaf s none hcore]
    exact dramRequest_enters hready hpos hwithin (data := none) hplace hphysical hroom
  case readRefused =>
    intro s l w a n k path hready hcore hpos hwithin hrefused
    rw [exec_dramReadRequest, execDramReadRequest, memRequest_leaf s none hcore]
    exact dramRequest_refused hready hpos hwithin (data := none) hrefused
  case readNowhere =>
    intro s l w a n p hready hcore hpos hwithin hplace hphysical
    rw [exec_dramReadRequest, execDramReadRequest, memRequest_leaf s none hcore]
    exact dramRequest_nowhere hready hpos hwithin (data := none) hplace hphysical
  case readOff =>
    intro s r hoff hcore
    rw [exec_dramReadRequest, execDramReadRequest, memRequest_leaf s none hcore, dramRequest_not_served r none hoff]
  case readCached =>
    intro s k gate fetch a n t bs hpower hruns hpos hwithin hcache
    refine coreRequest_cached hpower hruns hpos hwithin (fun _ => rfl) ?_
    rw [cacheBlock, hcache]
    rfl
  case write =>
    intro s l w a n p d hready hcore hpos hwithin hplace hphysical hroom
    rw [exec_dramWriteRequest, execDramWriteRequest, memRequest_leaf _ _ hcore]
    exact dramWrite_readsBack hready hpos hwithin hplace hphysical hroom
  case writeRefused =>
    intro s l w a n k path d hready hcore hpos hwithin hrefused
    rw [exec_dramWriteRequest, execDramWriteRequest, memRequest_leaf _ _ hcore]
    exact dramRequest_refused hready hpos hwithin (data := some d) hrefused
  case writeNowhere =>
    intro s l w a n p d hready hcore hpos hwithin hplace hphysical
    rw [exec_dramWriteRequest, execDramWriteRequest, memRequest_leaf _ _ hcore]
    exact dramRequest_nowhere hready hpos hwithin (data := some d) hplace hphysical
  case writeCached =>
    intro s k gate a n t d hpower hruns hpos hwithin hcache
    refine coreRequest_cached hpower hruns hpos hwithin (fun h => absurd h Bool.false_ne_true) ?_
    rw [cacheBlock, slice_whole, hcache]
    rfl
  case clients =>
    intro s ch g x hone hguest hstage
    exact ⟨_, rfl, decideClients_single hone hguest hstage⟩
  case bulk =>
    intro s ch x hone hlevel hclass hfree hbranch hwindow
    obtain ⟨r, hpicked⟩ := decideGuests_single hone hlevel hclass (fun _ => hwindow) (by simp [hfree])
    refine ⟨_, congrArg Host.Outcome.next hpicked, ?_⟩
    rw [guestPicked, if_pos rfl]
    dsimp only
    rw [if_pos hbranch, tget_tset_same, tget_tset_same]
    exact ⟨rfl, rfl, rfl, rfl⟩
  case guests =>
    intro s ch cls x hone hlevel hclass hother hbranch
    obtain ⟨r, hpicked⟩ := decideGuests_single hone hlevel hclass (fun h => absurd h hother) (by simp [hother])
    refine ⟨_, congrArg Host.Outcome.next hpicked, ?_⟩
    rw [guestPicked, if_neg hother]
    exact ⟨rfl, rfl, rfl, rfl⟩
  case classes =>
    intro s ch x hone hstage hslot
    exact ⟨_, rfl, decideClasses_single hone hstage hslot⟩
  case windowEnds =>
    intro s ch hfull
    refine ⟨_, rfl, ?_, fun g hg => ⟨?_, windowEnd_budget hfull hg⟩, ?_⟩
    · rw [windowEnd, if_neg (by omega), tget_tset_same]
    · rw [windowEnd, if_neg (by omega), tget_tclear, if_pos]
      exact beq_iff_eq.mpr (by omega)
    · rw [windowEnd, if_neg (by omega)]
  case windowRuns =>
    intro s ch hrun
    exact congrArg Host.Outcome.next (if_pos hrun)

end Sys2Proof.Proofs
end

section
/-! O26: the turns of the DRAM commands. -/

namespace Sys2Proof.Proofs

open Sys2Proof Sys2Proof.Machine Sys2Proof.Laws

/-- A read of the controller's own scrub that waits for its column command. -/
def scrubRead : DramTx := { id := 1, chan := 0, leaf := .scrub, addr := 0, len := 64, write := false, stage := 3 }

/-- A channel that serves, with the row of the scrub's read open. -/
def scrubWaits : State :=
  let s := wr State.reset (E.chan_STATE 0) 2
  setChan { s with memc := { s.memc with txs := [scrubRead] } } 0 { rows := [(bankOf s scrubRead, some (rowOf s scrubRead))] }

theorem scrubWaits_ready : chanActive scrubWaits 0 = true ∧ noRefresh scrubWaits 0 = true ∧ columnReady scrubWaits 0 scrubRead = true := by
  decide +kernel

theorem scrubWaits_silent : (commandSlot scrubWaits 0 .none 0).out.length = 0 := by decide +kernel

/-- Refutes O26: DRAM_COMMAND_SLOT's first clause has the bytes of every read returned as a message, and the controller's own scrub is
returned none (R359): in `scrubWaits` its read takes the slot and no message goes out. -/
theorem not_dramCommandsKeepTheirTurn : ¬ Obligations.DramCommandsKeepTheirTurn := by
  unfold Obligations.DramCommandsKeepTheirTurn
  rintro ⟨⟨hreads, -⟩, -⟩
  obtain ⟨hactive, hrefresh, hready⟩ := scrubWaits_ready
  obtain ⟨t, hexec, hout, -⟩ := hreads scrubWaits 0 scrubRead 0 hactive hrefresh hready rfl
  rw [exec_dramCommandSlot, execDramCommandSlot] at hexec
  injection hexec with hnext
  have hsent : t.out.length = scrubWaits.out.length + 1 := by rw [hout, List.length_cons]
  rw [← hnext] at hsent
  exact absurd (scrubWaits_silent.symm.trans hsent) (Nat.succ_ne_zero _).symm

end Sys2Proof.Proofs
end

section
/-! O49: scans and starts of a touch panel. -/

namespace Sys2Proof.Proofs

open Sys2Proof Sys2Proof.Machine Sys2Proof.Laws

/-- Panel 0 scans, mapped to head 0, which scans its line 1; the frame has one touch scan, at line 0. -/
def offTheScanLine : State :=
  setTouch ([(E.pd_STATE 13, 2), (E.pd_STATE (headDomain 0), 2), (E.head_STATE 0, 2), (E.head_LINE 0, 1), (E.panel_HEAD 0, 0),
    (E.panel_SCANS_PER_FRAME 0, 1)].foldl (fun t e => wr t e.1 e.2) State.reset) 0 { phase := 3 }

theorem offTheScanLine_ready : (touchOf offTheScanLine 0).phase = 3 ∧ (touchOf offTheScanLine 0).steps = none ∧
    (touchOf offTheScanLine 0).testing = false ∧ pdOn offTheScanLine 13 = true ∧ restartWaits offTheScanLine 0 = false := by
  decide +kernel

theorem offTheScanLine_noScan : (touchOf (touchScanStart offTheScanLine 0) 0).steps = none := by decide +kernel

/-- Refutes O49: TOUCH_SCAN_START's first clause has a scan start in every state of a panel that scans, and a panel that is locked to its
head starts one only at a line of the frame's scans (R271): in `offTheScanLine` the head is at another line and no scan starts. -/
theorem not_touchScansAndStarts : ¬ Obligations.TouchScansAndStarts := by
  unfold Obligations.TouchScansAndStarts
  rintro ⟨⟨hstarts, -⟩, -⟩
  obtain ⟨hphase, hsteps, htesting, hpower, hrestart⟩ := offTheScanLine_ready
  obtain ⟨t, hexec, hscan, -⟩ := hstarts offTheScanLine 0 (.inr hphase) hsteps htesting hpower hrestart
  rw [exec_touchScanStart, execTouchScanStart] at hexec
  injection hexec with hnext
  rw [← hnext] at hscan
  exact absurd (offTheScanLine_noScan.symm.trans hscan) (by decide)

end Sys2Proof.Proofs
end

section
/-! SUPPORT. What an internal clasp's receiver answers (R58, R64). -/

namespace Sys2Proof.Proofs

open Sys2Proof Sys2Proof.Machine Sys2Proof.Laws

theorem iclAsks_iff {s : State} {n op : Nat} {q : Taken} : iclAsks s n op q = true ↔ (iclOf s n).taken = some q ∧ q.op = op := by
  simp [iclAsks]

theorem iclServe_asked {s : State} {n op : Nat} {q : Taken} {lenOk : Nat → Bool} (k : Taken → State × Ans) (hasks : iclAsks s n op q = true)
    (hlen : lenOk q.len = true) : iclServe s n op lenOk k = iclComplete (k q).1 n (k q).2 := by
  obtain ⟨htaken, hop⟩ := iclAsks_iff.mp hasks
  simp [iclServe, htaken, hop, hlen]

theorem iclServe_badLength {s : State} {n op : Nat} {q : Taken} {lenOk : Nat → Bool} (k : Taken → State × Ans)
    (hasks : iclAsks s n op q = true) (hlen : lenOk q.len = false) : iclServe s n op lenOk k = iclComplete s n { code := 3 } := by
  obtain ⟨htaken, hop⟩ := iclAsks_iff.mp hasks
  simp [iclServe, htaken, hop, hlen]

theorem iclServe_idle {s : State} {n op : Nat} (lenOk : Nat → Bool) (k : Taken → State × Ans) (hidle : (iclOf s n).taken = none) :
    iclServe s n op lenOk k = s := by
  simp [iclServe, hidle]

theorem iclOf_congr {s t : State} (h : t.clasp = s.clasp) (n : Nat) : iclOf t n = iclOf s n := by rw [iclOf, h, iclOf]

/-- A completed request is done, and no other internal clasp changes. -/
theorem iclDone_iclComplete {s u : State} {n : Nat} {q : Taken} (a : Ans) (htaken : (iclOf s n).taken = some q) (hclasp : u.clasp = s.clasp) :
    iclDone s (iclComplete u n a) n a := by
  have htaken' : (iclOf u n).taken = some q := by rw [iclOf_congr hclasp, htaken]
  have hother : ∀ m, m ≠ n → iclOf (iclComplete u n a) m = iclOf s m := fun m hm => by
    rw [← iclOf_congr hclasp m, iclComplete]
    simp only [htaken']
    exact iclOf_setIcl_ne _ _ _ hm
  rw [iclDone, iclOf_iclComplete a htaken']
  exact ⟨rfl, rfl, rfl, rfl, rfl, rfl, hother⟩

theorem iclComplete_kept_clasp (s : State) (n : Nat) (a : Ans) : Kept [.clasp] s (iclComplete s n a) := by
  have := @May.head
  exact iclComplete_kept (Kept.refl _ s) n a

theorem iclComplete_od (s : State) (n : Nat) (a : Ans) : (iclComplete s n a).od = s.od :=
  (iclComplete_kept_clasp s n a).parts .od (by decide)

theorem rd_iclComplete (s : State) (n : Nat) (a : Ans) (k : Nat) : rd (iclComplete s n a) k = rd s k := rd_congr (iclComplete_od s n a) k

theorem touchOf_congr {s t : State} (h : t.touch = s.touch) (p : Nat) : touchOf t p = touchOf s p := by rw [touchOf, h, touchOf]

theorem touchOf_iclComplete (s : State) (n : Nat) (a : Ans) (p : Nat) : touchOf (iclComplete s n a) p = touchOf s p :=
  touchOf_congr ((iclComplete_kept_clasp s n a).parts .touch (by decide)) p

end Sys2Proof.Proofs
end

section
/-! SUPPORT. Records for the subscribers of a touch panel (R285-R287). -/

namespace Sys2Proof.Proofs

open Sys2Proof Sys2Proof.Machine Sys2Proof.Laws

theorem winWr_kept_mem (s : State) (c a : Nat) (l : List Byte) : Kept [.mem, .memc] s (winWr s c a l) := by
  have := @May.head
  have := @May.tail
  exact winWr_kept (Kept.refl _ s) c a l

/-- A store through a client's window takes no notice of the touch panels. -/
theorem winWr_setTouch (s : State) (p : Nat) (x : TouchRec) (c a : Nat) (l : List Byte) :
    winWr (setTouch s p x) c a l = setTouch (winWr s c a l) p x := by
  induction l generalizing s a with
  | nil => rfl
  | cons b l ih =>
    rw [winWr, winWr, ← ih]
    congr 1
    rw [show winAddr (setTouch s p x) c a = winAddr s c a from rfl]
    cases winAddr s c a with
    | none => rfl
    | some y =>
      dsimp only
      rw [show winAllowed (setTouch s p x) c a true = winAllowed s c a true from rfl]
      cases winAllowed s c a true <;> rfl

theorem ringPut_full {s : State} (p : Nat) {u : TouchSub} (m : TouchMsg)
    (hfull : (u.write + 2 ^ 32 - winWord s u.client (u.ring + 4)) % 2 ^ 32 = u.entries) : ringPut s p u m =
      (bump (winWr s u.client (u.ring + 8) (leBytes 4 ((u.dropped + 1) % 2 ^ 32))) (E.panel_RING_DROPS p),
        { u with dropped := (u.dropped + 1) % 2 ^ 32, resync := true }, false) := by
  simp only [ringPut, if_pos hfull]

theorem winWord_setTouch (s : State) (p : Nat) (x : TouchRec) (c a : Nat) : winWord (setTouch s p x) c a = winWord s c a := rfl

theorem ringPut_room {s : State} (p : Nat) {u : TouchSub} (m : TouchMsg)
    (hroom : (u.write + 2 ^ 32 - winWord s u.client (u.ring + 4)) % 2 ^ 32 ≠ u.entries)
    (hinside : inWindow s u.client (u.ring + 32 + 32 * (u.write % u.entries)) 32 = true) : ringPut s p u m =
      (winWr (winWr s u.client (u.ring + 32 + 32 * (u.write % u.entries)) (msgBytes m)) u.client u.ring (leBytes 4 ((u.write + 1) % 2 ^ 32)),
        { u with write := (u.write + 1) % 2 ^ 32 }, true) := by
  rw [ringPut]
  dsimp only
  rw [if_neg hroom, if_pos hinside]

theorem ringPut_full_setTouch {s : State} (p : Nat) (x : TouchRec) {u : TouchSub} (m : TouchMsg)
    (hfull : (u.write + 2 ^ 32 - winWord s u.client (u.ring + 4)) % 2 ^ 32 = u.entries) : ringPut (setTouch s p x) p u m =
      (bump (setTouch (winWr s u.client (u.ring + 8) (leBytes 4 ((u.dropped + 1) % 2 ^ 32))) p x) (E.panel_RING_DROPS p),
        { u with dropped := (u.dropped + 1) % 2 ^ 32, resync := true }, false) := by
  rw [ringPut_full (s := setTouch s p x) p m (by rw [winWord_setTouch]; exact hfull), winWr_setTouch]

theorem ringPut_room_setTouch {s : State} (p : Nat) (x : TouchRec) {u : TouchSub} (m : TouchMsg)
    (hroom : (u.write + 2 ^ 32 - winWord s u.client (u.ring + 4)) % 2 ^ 32 ≠ u.entries)
    (hinside : inWindow s u.client (u.ring + 32 + 32 * (u.write % u.entries)) 32 = true) : ringPut (setTouch s p x) p u m =
      (setTouch (winWr (winWr s u.client (u.ring + 32 + 32 * (u.write % u.entries)) (msgBytes m)) u.client u.ring
        (leBytes 4 ((u.write + 1) % 2 ^ 32))) p x, { u with write := (u.write + 1) % 2 ^ 32 }, true) := by
  rw [ringPut_room (s := setTouch s p x) p m (by rw [winWord_setTouch]; exact hroom) hinside, winWr_setTouch, winWr_setTouch]

theorem wants_notice {m : TouchMsg} (u : TouchSub) (hkind : 4 ≤ m.kind) : wants u m = (true, u.following) := by
  simp only [wants, if_pos hkind]

/-- A notice for a subscriber is written to its ring, and its doorbell rings. -/
theorem deliverTo_written {s : State} {p c : Nat} {u : TouchSub} {m : TouchMsg} {q : State × TouchSub × Bool}
    (hsub : subOf s p c = some u) (hkind : 4 ≤ m.kind) (hwrite : ringWrite s p u m = q) :
    deliverTo s p [m] c = (setEvent (putSub' q.1 p q.2.1) c 6, !q.2.2) := by
  obtain ⟨client, ring, entries, x0, y0, x1, y1, write, dropped, following, resync⟩ := u
  rw [deliverTo, hsub]
  dsimp only [List.foldl_cons, List.foldl_nil]
  rw [wants_notice _ hkind]
  dsimp only
  rw [if_pos rfl, hwrite]
  dsimp only
  rw [if_pos rfl, Bool.false_or]

/-- One notice for a subscriber that has dropped none. -/
theorem deliverTo_notice {s : State} {p c : Nat} {u : TouchSub} {m : TouchMsg} (hsub : subOf s p c = some u) (hkind : 4 ≤ m.kind)
    (hresync : u.resync = false) : deliverTo s p [m] c =
      (setEvent (putSub' (ringPut s p u m).1 p (ringPut s p u m).2.1) c 6, !(ringPut s p u m).2.2) :=
  deliverTo_written hsub hkind (by simp only [ringWrite, hresync, Bool.false_eq_true, if_false])

/-- One notice for the one subscriber of a panel. -/
theorem deliverAll_notice {s : State} {p : Nat} {u : TouchSub} {m : TouchMsg} (hsubs : (touchOf s p).subs = [u]) (hkind : 4 ≤ m.kind)
    (hresync : u.resync = false) : deliverAll s p [m] =
      if (!(ringPut s p u m).2.2) = true then
        raise (setEvent (putSub' (ringPut s p u m).1 p (ringPut s p u m).2.1) u.client 6) .ringOverflow [p]
      else setEvent (putSub' (ringPut s p u m).1 p (ringPut s p u m).2.1) u.client 6 := by
  have hsub : subOf s p u.client = some u := by simp [subOf, hsubs]
  simp only [deliverAll, hsubs, List.map_cons, List.map_nil, List.foldl_cons, List.foldl_nil, deliverTo_notice hsub hkind hresync,
    Bool.false_or]

theorem putSub'_subs_single {s : State} {p : Nat} {u v : TouchSub} (hsubs : (touchOf s p).subs = [u]) (hclient : u.client = v.client) :
    (touchOf (putSub' s p v) p).subs = [v] := by
  rw [putSub', touchOf_setTouch, hsubs, List.map_cons, List.map_nil, if_pos hclient]

theorem putSub'_clients (s : State) (p : Nat) (v : TouchSub) :
    (touchOf (putSub' s p v) p).subs.map (·.client) = (touchOf s p).subs.map (·.client) := by
  rw [putSub', touchOf_setTouch, List.map_map]
  refine List.map_congr_left fun w _ => ?_
  by_cases h : w.client = v.client
  · exact (congrArg TouchSub.client (if_pos h)).trans h.symm
  · exact congrArg TouchSub.client (if_neg h)

theorem setEvent_kept_clasp (s : State) (c bit : Nat) : Kept [.out, .clasp, .ports] s (setEvent s c bit) := by
  have := @May.head
  have := @May.tail
  exact setEvent_kept (Kept.refl _ s) c bit

theorem taken_setEvent (s : State) (c bit j : Nat) : (claspOf (setEvent s c bit) j).taken = (claspOf s j).taken := by
  have hset : (claspOf (setClasp s c { claspOf s c with event := setBit (claspOf s c).event bit true }) j).taken = (claspOf s j).taken := by
    by_cases h : j = c
    · rw [h, claspOf_setClasp]
    · rw [claspOf_setClasp_ne _ _ _ h]
  rw [setEvent]
  split
  · rfl
  · dsimp only
    split
    · rw [claspOf_claspIrq, hset]
    · exact hset

/-- Delivery of records leaves the requests taken from the clasps and the clients that subscribe. -/
theorem deliverTo_taken_clients (s : State) (p : Nat) (l : List TouchMsg) (c j : Nat) :
    (claspOf (deliverTo s p l c).1 j).taken = (claspOf s j).taken ∧
      (touchOf (deliverTo s p l c).1 p).subs.map (·.client) = (touchOf s p).subs.map (·.client) := by
  have := @May.head
  have := @May.tail
  have hfold : ∀ (l : List TouchMsg) (r : State × TouchSub × Bool × Bool), Kept [.od, .mem, .ten, .field, .memc] s r.1 →
      Kept [.od, .mem, .ten, .field, .memc] s (l.foldl (fun (r : State × TouchSub × Bool × Bool) m =>
        let w := wants r.2.1 m
        if w.1 then
          let q := ringWrite r.1 p { r.2.1 with following := w.2 } m
          (q.1, q.2.1, true, r.2.2.2 || !q.2.2)
        else (r.1, { r.2.1 with following := w.2 }, r.2.2)) r).1 := by
    intro l
    induction l with
    | nil => exact fun r h => h
    | cons m l ih =>
      intro r h
      refine ih _ ?_
      dsimp only
      split
      · exact ringWrite_kept h _ _ _
      · exact h
  rw [deliverTo]
  split
  · exact ⟨rfl, rfl⟩
  · next u _ =>
    dsimp only
    have hkept := hfold l (s, u, false, false) (Kept.refl _ s)
    generalize List.foldl _ _ l = r at hkept
    have hput : (claspOf (putSub' r.1 p r.2.1) j).taken = (claspOf s j).taken :=
      congrArg Clasp.taken (claspOf_congr (t := putSub' r.1 p r.2.1) (hkept.parts .clasp (by decide)) j)
    have hclients : (touchOf (putSub' r.1 p r.2.1) p).subs.map (·.client) = (touchOf s p).subs.map (·.client) := by
      rw [putSub'_clients, touchOf_congr (hkept.parts .touch (by decide))]
    split
    · rw [taken_setEvent, hput, touchOf_congr ((setEvent_kept_clasp _ c 6).parts .touch (by decide)), hclients]
      exact ⟨rfl, rfl⟩
    · exact ⟨hput, hclients⟩

end Sys2Proof.Proofs
end

section
/-! O50: touch records, subscriptions and the internal touch requests. -/

namespace Sys2Proof.Proofs

open Sys2Proof Sys2Proof.Machine Sys2Proof.Laws

theorem touchBacklog_delivers {s : State} {p : Nat} (hready : ringsReady s = true) (hwaits : (touchOf s p).backlog ≠ []) :
    touchBacklog s p = deliverAll (setTouch s p { touchOf s p with backlog := [] }) p (touchOf s p).backlog := if_pos ⟨hready, hwaits⟩

theorem touchBacklog_rests {s : State} {p : Nat} (h : ringsReady s = false ∨ (touchOf s p).backlog = []) : touchBacklog s p = s :=
  if_neg fun ⟨hready, hwaits⟩ => h.elim (fun hoff => Bool.false_ne_true (hoff.symm.trans hready)) hwaits

theorem touchBacklog_one {s : State} {p : Nat} {m : TouchMsg} (hready : ringsReady s = true) (hone : (touchOf s p).backlog = [m]) :
    touchBacklog s p = deliverAll (setTouch s p { touchOf s p with backlog := [] }) p [m] := by
  rw [touchBacklog_delivers hready (by rw [hone]; exact List.cons_ne_nil _ _), hone]

/-- A notice that has room is in the ring of its one subscriber. -/
theorem touchBacklog_room {s : State} {p : Nat} {u : TouchSub} {m : TouchMsg} (hready : ringsReady s = true)
    (hone : (touchOf s p).backlog = [m]) (hsubs : (touchOf s p).subs = [u]) (hkind : 4 ≤ m.kind) (hresync : u.resync = false)
    (hroom : (u.write + 2 ^ 32 - winWord s u.client (u.ring + 4)) % 2 ^ 32 ≠ u.entries)
    (hinside : inWindow s u.client (u.ring + 32 + 32 * (u.write % u.entries)) 32 = true) :
    touchBacklog s p = setEvent (putSub' (setTouch (winWr (winWr s u.client (u.ring + 32 + 32 * (u.write % u.entries)) (msgBytes m)) u.client
      u.ring (leBytes 4 ((u.write + 1) % 2 ^ 32))) p { touchOf s p with backlog := [] }) p { u with write := (u.write + 1) % 2 ^ 32 })
      u.client 6 := by
  rw [touchBacklog_one hready hone, deliverAll_notice (u := u) (by rw [touchOf_setTouch, hsubs]) hkind hresync,
    ringPut_room_setTouch p _ m hroom hinside]
  exact if_neg Bool.false_ne_true

/-- A notice that has no room is dropped, and counted. -/
theorem touchBacklog_full {s : State} {p : Nat} {u : TouchSub} {m : TouchMsg} (hready : ringsReady s = true)
    (hone : (touchOf s p).backlog = [m]) (hsubs : (touchOf s p).subs = [u]) (hkind : 4 ≤ m.kind) (hresync : u.resync = false)
    (hfull : (u.write + 2 ^ 32 - winWord s u.client (u.ring + 4)) % 2 ^ 32 = u.entries) :
    touchBacklog s p = raise (setEvent (putSub' (bump (setTouch (winWr s u.client (u.ring + 8) (leBytes 4 ((u.dropped + 1) % 2 ^ 32))) p
      { touchOf s p with backlog := [] }) (E.panel_RING_DROPS p)) p { u with dropped := (u.dropped + 1) % 2 ^ 32, resync := true })
      u.client 6) .ringOverflow [p] := by
  rw [touchBacklog_one hready hone, deliverAll_notice (u := u) (by rw [touchOf_setTouch, hsubs]) hkind hresync,
    ringPut_full_setTouch p _ m hfull]
  exact if_pos rfl

theorem panelDrops_ne_power (p : Nat) : E.pd_STATE 2 ≠ E.panel_RING_DROPS p := by
  simp only [E.pd_STATE, E.panel_RING_DROPS]
  omega

theorem withDomain_on {s : State} (c : Nat) {d : Nat} (k : State) (hon : pdOn s d = true) : withDomain s c d k = k := by
  rw [withDomain, if_pos hon]

/-- A panel with no contacts owes a new subscriber no record. -/
theorem enterSub_quiet {s : State} {p : Nat} (u : TouchSub) (hquiet : (touchOf s p).contacts = []) : enterSub s p u =
    winWr (setTouch s p { touchOf s p with subs := (touchOf s p).subs ++ [u] }) u.client u.ring (leBytes 4 0 ++ leBytes 4 0 ++ leBytes 4 0) := by
  rw [enterSub]
  dsimp only
  rw [hquiet, List.filter_nil, if_pos rfl]

theorem touchOf_winWr (s : State) (c a : Nat) (l : List Byte) (p : Nat) : touchOf (winWr s c a l) p = touchOf s p :=
  touchOf_congr ((winWr_kept_mem s c a l).parts .touch (by decide)) p

theorem claspOf_winWr (s : State) (c a : Nat) (l : List Byte) (j : Nat) : claspOf (winWr s c a l) j = claspOf s j :=
  claspOf_congr ((winWr_kept_mem s c a l).parts .clasp (by decide)) j

/-- A subscription joins the panel's and leaves the requests taken from the clasps. -/
theorem enterSub_taken_clients (s : State) (p : Nat) (u : TouchSub) (j : Nat) :
    (claspOf (enterSub s p u) j).taken = (claspOf s j).taken ∧
      (touchOf (enterSub s p u) p).subs.map (·.client) = (touchOf s p).subs.map (·.client) ++ [u.client] := by
  have hput : (claspOf (winWr (setTouch s p { touchOf s p with subs := (touchOf s p).subs ++ [u] }) u.client u.ring
      (leBytes 4 0 ++ leBytes 4 0 ++ leBytes 4 0)) j).taken = (claspOf s j).taken := by
    rw [claspOf_winWr]
    rfl
  have hclients : (touchOf (winWr (setTouch s p { touchOf s p with subs := (touchOf s p).subs ++ [u] }) u.client u.ring
      (leBytes 4 0 ++ leBytes 4 0 ++ leBytes 4 0)) p).subs.map (·.client) = (touchOf s p).subs.map (·.client) ++ [u.client] := by
    rw [touchOf_winWr, touchOf_setTouch, List.map_append, List.map_cons, List.map_nil]
  rw [enterSub]
  split
  · exact ⟨hput, hclients⟩
  · rw [(deliverTo_taken_clients _ p _ u.client j).1, (deliverTo_taken_clients _ p _ u.client j).2]
    exact ⟨hput, hclients⟩

theorem ok_touch (s : State) (c : Nat) (data : List Nat) : (ok s c data).touch = s.touch :=
  (ok_kept_clasp s c data).parts .touch (by decide)

theorem touchOf_setEvent (s : State) (c bit p : Nat) : touchOf (setEvent s c bit) p = touchOf s p :=
  touchOf_congr ((setEvent_kept_clasp s c bit).parts .touch (by decide)) p

theorem putSub'_backlog (s : State) (p : Nat) (v : TouchSub) : (touchOf (putSub' s p v) p).backlog = (touchOf s p).backlog := by
  rw [putSub', touchOf_setTouch]

/-- What the delivered notice leaves. -/
theorem noticeRoom_leaves {s w : State} {p : Nat} {u v : TouchSub} (x : TouchRec) (hw : Kept [.mem, .memc] s w) (hsubs : x.subs = [u])
    (hclient : u.client = v.client) (hbacklog : x.backlog = []) :
    (touchOf (setEvent (putSub' (setTouch w p x) p v) u.client 6) p).backlog = [] ∧
      (touchOf (setEvent (putSub' (setTouch w p x) p v) u.client 6) p).subs = [v] ∧
      (resettingClient s u.client = false → bitOf (claspOf (setEvent (putSub' (setTouch w p x) p v) u.client 6) u.client).event 6 = true) ∧
      (setEvent (putSub' (setTouch w p x) p v) u.client 6).mem = w.mem := by
  refine ⟨?_, ?_, fun hreset => ?_, (setEvent_kept_clasp _ _ _).parts .mem (by decide)⟩
  · rw [touchOf_setEvent, putSub'_backlog, touchOf_setTouch, hbacklog]
  · rw [touchOf_setEvent, putSub'_subs_single (by rw [touchOf_setTouch, hsubs]) hclient]
  · have hrd : ∀ k, rd (putSub' (setTouch w p x) p v) k = rd s k := fun k => rd_congr (s := s) (hw.parts .od (by decide)) k
    rw [event_setEvent (by rw [resettingClient_congr (s := s) (t := putSub' (setTouch w p x) p v) (hw.parts .ten (by decide)) (fun k _ => hrd k), hreset]), bitOf_setBit_true]

/-- What the dropped notice leaves. -/
theorem noticeFull_leaves {s w : State} {p : Nat} {u v : TouchSub} (x : TouchRec) (hw : Kept [.mem, .memc] s w) (hsubs : x.subs = [u])
    (hclient : u.client = v.client) (hon : pdOn s 2 = true) :
    rd (raise (setEvent (putSub' (bump (setTouch w p x) (E.panel_RING_DROPS p)) p v) u.client 6) .ringOverflow [p]) (E.panel_RING_DROPS p) =
        satInc (rd s (E.panel_RING_DROPS p)) 1 ∧
      (touchOf (raise (setEvent (putSub' (bump (setTouch w p x) (E.panel_RING_DROPS p)) p v) u.client 6) .ringOverflow [p]) p).subs = [v] ∧
      .event false .ringOverflow [(p : Int)] ∈
        (raise (setEvent (putSub' (bump (setTouch w p x) (E.panel_RING_DROPS p)) p v) u.client 6) .ringOverflow [p]).out := by
  have hrd : ∀ k, rd (setEvent (putSub' (bump (setTouch w p x) (E.panel_RING_DROPS p)) p v) u.client 6) k = rd (bump (setTouch w p x) (E.panel_RING_DROPS p)) k :=
    fun k => rd_setEvent _ _ _ k
  have hbase : ∀ k, rd (setTouch w p x) k = rd s k := fun k => rd_congr (s := s) (hw.parts .od (by decide)) k
  have hpower : pdOn (setEvent (putSub' (bump (setTouch w p x) (E.panel_RING_DROPS p)) p v) u.client 6) 2 = true := by
    rw [pdOn, hrd, rd_bump_ne _ (panelDrops_ne_power p), hbase]
    exact hon
  refine ⟨?_, ?_, ?_⟩
  · rw [rd_congr (raise_od_on hpower .ringOverflow [p]), hrd, rd_bump_same, hbase]
  · rw [touchOf_congr ((raise_kept_events _ _ _).parts .touch (by decide)), touchOf_setEvent, putSub'_subs_single (u := u) ?_ hclient]
    exact (congrArg TouchRec.subs (touchOf_setTouch w p x)).trans hsubs
  · rw [raise_out_on _ _ _ hpower]
    exact List.mem_cons_self

theorem pdOn_of_ringsReady {s : State} (hready : ringsReady s = true) : pdOn s 2 = true := by
  simp only [ringsReady, Bool.and_eq_true] at hready
  exact hready.1.1

section Asked

variable {s : State} {c : Nat} {q : Taken}

/-- The checks of a subscription request up to the ring. -/
theorem subscribeReq_checked (hpanel : argOf q 2 < 4) (hright : touchRight s c (argOf q 2) = true) (henabled : panelEnabled s (argOf q 2) = true)
    (hentries : entriesOk (argOf q 4) = true) (hring : argOf q 3 % 64 = 0) : subscribeReq s c q =
      if (subOf s (argOf q 2) c).isSome then fail s c 0x0102
      else if 16 ≤ (touchOf s (argOf q 2)).subs.length then fail s c 0x0103
      else if ¬ inWindow s c (argOf q 3) (32 + 32 * argOf q 4) then deniedAddr s c
      else withDomain s c 13 (enterSub (ok s c []) (argOf q 2) (subFrom c (argOf q 3) (argOf q 4) (argOf q 5) (argOf q 6))) := by
  rw [subscribeReq]
  rw [if_neg (by omega), if_neg (by rw [hright]; decide), if_neg (by rw [henabled]; decide), if_neg (by rw [hentries, hring]; decide)]

theorem subscribeReq_noPanel (hpanel : 4 ≤ argOf q 2) : subscribeReq s c q = fail s c 0x0100 := by
  rw [subscribeReq]
  rw [if_pos hpanel]

theorem subscribeReq_noRight (hpanel : argOf q 2 < 4) (hright : touchRight s c (argOf q 2) = false) :
    subscribeReq s c q = denied s c 0x05 := by
  rw [subscribeReq]
  rw [if_neg (by omega), if_pos (by rw [hright]; decide)]

theorem subscribeReq_badRing (hpanel : argOf q 2 < 4) (hright : touchRight s c (argOf q 2) = true)
    (henabled : panelEnabled s (argOf q 2) = true) (hring : entriesOk (argOf q 4) = false ∨ argOf q 3 % 64 ≠ 0) :
    subscribeReq s c q = fail s c 0x0101 := by
  rw [subscribeReq]
  rw [if_neg (by omega), if_neg (by rw [hright]; decide), if_neg (by rw [henabled]; decide), if_pos]
  exact hring.imp_left (fun h => by rw [h]; decide)

/-- The checks of the end of a subscription. -/
theorem unsubscribeReq_checked (hpanel : argOf q 2 < 4) (hright : touchRight s c (argOf q 2) = true)
    (henabled : panelEnabled s (argOf q 2) = true) : unsubscribeReq s c q =
      if (subOf s (argOf q 2) c).isNone then fail s c 4 else withDomain s c 13 (leaveSub (ok s c []) (argOf q 2) c) := by
  rw [unsubscribeReq]
  rw [if_neg (by omega), if_neg (by rw [hright]; decide), if_neg (by rw [henabled]; decide)]

theorem touchQueryReq_checked (hpanel : argOf q 2 < 4) (hright : touchRight s c (argOf q 2) = true) : touchQueryReq s c q =
    if ¬ panelEnabled s (argOf q 2) then fail s c 0x0100
    else ok s c [rd s (E.panel_STATE (argOf q 2)), rd s (E.panel_CONTACTS (argOf q 2)), rd s (E.panel_START_STATE (argOf q 2))] := by
  rw [touchQueryReq]
  rw [if_neg (by omega), if_neg (by rw [hright]; decide)]
  rfl

end Asked

/-! ### Configurations, tests and captures asked for internally (R289) -/

section Internal

variable {s : State} {p : Nat} {q : Taken} (hasks : iclAsks s (2 + p) 0xF001 q = true)
include hasks

theorem iclApply_checked (hlen : q.len = 0) (hon : pdOn s 13 = true) : iclApply s p =
    if s.dict.applying.any (fun e => isPanelKey p e.1) ∧ ((touchOf s p).phase = 2 ∨ (touchOf s p).phase = 3) then
      setTouch s p { touchOf s p with apply := true }
    else answerApply (setTouch s p { touchOf s p with apply := true }) p := by
  obtain ⟨htaken, hop⟩ := iclAsks_iff.mp hasks
  rw [iclApply, htaken]
  dsimp only
  rw [if_neg (by rw [hop, hon]; decide), if_neg (by omega)]
  rfl

theorem iclApply_badLength (hlen : q.len ≠ 0) (hon : pdOn s 13 = true) : iclApply s p = iclComplete s (2 + p) { code := 3 } := by
  obtain ⟨htaken, hop⟩ := iclAsks_iff.mp hasks
  rw [iclApply, htaken]
  dsimp only
  rw [if_neg (by rw [hop, hon]; decide), if_pos hlen]

end Internal

theorem iclApply_rests {s : State} {p : Nat} (h : (iclOf s (2 + p)).taken = none ∨ pdOn s 13 = false) : iclApply s p = s := by
  rw [iclApply]
  cases htaken : (iclOf s (2 + p)).taken with
  | none => rfl
  | some q =>
    have hoff : pdOn s 13 = false := h.resolve_left (by rw [htaken]; exact Option.some_ne_none q)
    exact if_pos (.inr (by rw [hoff]; decide))

theorem answerApply_waiting {s : State} {p : Nat} (hwaits : (touchOf s p).apply = true) :
    answerApply s p = iclComplete (setTouch s p { touchOf s p with apply := false }) (2 + p) {} := if_pos hwaits

/-- The self-test's mark on a panel's record (R284). -/
def testMark (x : TouchRec) : TouchRec :=
  if x.testing ∨ x.phase = 1 then { x with testAgain := true } else { x with testing := true, steps := none }

theorem startSelftest_starts {s : State} {p : Nat} (hexists : panelExists s p = true) (hon : pdOn s 13 = true) :
    startSelftest s p = wr (setTouch s p (testMark (touchOf s p))) (E.panel_CMD_STATE p) 1 := by
  rw [startSelftest]
  dsimp only
  rw [if_neg (by rw [hexists, hon]; decide), testMark]
  split <;> rfl

theorem startCapture_refused {s : State} {p : Nat} (h : (touchOf s p).phase = 0 ∨ 4 ≤ (touchOf s p).phase) :
    startCapture s p = wr s (E.panel_CMD_STATE p) 3 := if_pos h

theorem startCapture_waits {s : State} {p : Nat} (h : (touchOf s p).phase = 1 ∨ (touchOf s p).phase = 2) :
    startCapture s p = setTouch s p { touchOf s p with capture := 1 } := by
  rw [startCapture]
  dsimp only
  rw [if_neg (by omega), beginCapture]
  exact if_neg (fun hbegins => by
    rw [touchOf_setTouch] at hbegins
    obtain ⟨-, hthree, -⟩ := hbegins
    have hrunning : (touchOf s p).phase = 3 := hthree
    omega)

theorem startCapture_begins {s : State} {p : Nat} (hphase : (touchOf s p).phase = 3) (htesting : (touchOf s p).testing = false) :
    startCapture s p = wr (setTouch (setTouch s p { touchOf s p with capture := 1 }) p
      { touchOf s p with capture := 2, capSums := [], capCount := 0 }) (E.panel_CMD_STATE p) 2 := by
  rw [startCapture]
  dsimp only
  rw [if_neg (by omega), beginCapture, touchOf_setTouch]
  exact if_pos ⟨rfl, hphase, by rw [htesting]; exact Bool.false_ne_true⟩

theorem leaveSub_touchOf (s : State) (p c : Nat) :
    touchOf (leaveSub s p c) p = { touchOf s p with subs := (touchOf s p).subs.filter (fun u => u.client != c) } := by
  rw [leaveSub, touchOf_setTouch]

/-- Settles O50: a notice's delivery is a store through the subscriber's window, which takes no notice of the panels, and an internal
request ends in the completion of its clasp. -/
theorem touchRecordsAreDelivered : Obligations.TouchRecordsAreDelivered := by
  unfold Obligations.TouchRecordsAreDelivered
  refine ⟨⟨?backlog, ?backlogRoom, ?backlogFull, ?backlogRests⟩, ⟨?sub, ?subPanel, ?subRight, ?subRing, ?subTwice, ?subMany⟩,
    ⟨?unsub, ?unsubNone, ?unsubPanel⟩, ⟨?query, ?queryOff⟩, ⟨?apply, ?applyWaits, ?applyIdle, ?applyLength⟩, ⟨?test, ?testIdle, ?testLength⟩,
    ⟨?capture, ?captureRefused, ?captureWaits, ?captureLength⟩, ⟨?iclSub, ?iclSubKept⟩, ?iclUnsub, ?iclUnsubIdle⟩
  case backlog => exact fun s p hready hwaits => congrArg Host.Outcome.next (touchBacklog_delivers hready hwaits)
  case backlogRoom =>
    intro s p u m hready hone hsubs hkind hresync hroom hinside
    have := @May.head
    have := @May.tail
    exact ⟨_, congrArg Host.Outcome.next (touchBacklog_room hready hone hsubs hkind hresync hroom hinside),
      noticeRoom_leaves _ (winWr_kept (winWr_kept_mem _ _ _ _) _ _ _) hsubs rfl rfl⟩
  case backlogFull =>
    intro s p u m hready hone hsubs hkind hresync hfull
    exact ⟨_, congrArg Host.Outcome.next (touchBacklog_full hready hone hsubs hkind hresync hfull),
      noticeFull_leaves _ (winWr_kept_mem _ _ _ _) hsubs rfl (pdOn_of_ringsReady hready)⟩
  case backlogRests => exact fun s p h => congrArg Host.Outcome.next (touchBacklog_rests h)
  case sub =>
    intro s c q hasks hpanel hright henabled hentries hring hnone hroom hinside hon
    obtain ⟨htaken, -⟩ := asks_iff.mp hasks
    obtain ⟨hkept, hclients⟩ := enterSub_taken_clients (ok s c.val []) (argOf q 2)
      (subFrom c.val (argOf q 3) (argOf q 4) (argOf q 5) (argOf q 6)) c.val
    rw [exec_touchSubscribe, execTouchSubscribe, serve_asked _ hasks rfl,
      subscribeReq_checked hpanel hright henabled hentries hring, hnone, if_neg (by decide), if_neg (by omega),
      if_neg (by rw [hinside]; decide), withDomain_on _ _ hon]
    refine ⟨_, rfl, hkept.trans (taken_ok htaken _), ?_, fun hquiet => ?_⟩
    · rw [hclients, touchOf_congr (ok_touch s c.val [])]
      rfl
    · rw [enterSub_quiet _ (by rw [touchOf_congr (ok_touch s c.val [])]; exact hquiet), touchOf_winWr, touchOf_setTouch,
        touchOf_congr (ok_touch s c.val [])]
  case subPanel =>
    intro s c q hasks hpanel
    rw [exec_touchSubscribe, execTouchSubscribe, serve_asked _ hasks rfl, subscribeReq_noPanel hpanel]
  case subRight =>
    intro s c q hasks hpanel hright
    rw [exec_touchSubscribe, execTouchSubscribe, serve_asked _ hasks rfl, subscribeReq_noRight hpanel hright]
  case subRing =>
    intro s c q hasks hpanel hright henabled hring
    rw [exec_touchSubscribe, execTouchSubscribe, serve_asked _ hasks rfl, subscribeReq_badRing hpanel hright henabled hring]
  case subTwice =>
    intro s c q hasks hpanel hright henabled hentries hring htwice
    rw [exec_touchSubscribe, execTouchSubscribe, serve_asked _ hasks rfl,
      subscribeReq_checked hpanel hright henabled hentries hring, if_pos htwice]
  case subMany =>
    intro s c q hasks hpanel hright henabled hentries hring hnone hmany
    rw [exec_touchSubscribe, execTouchSubscribe, serve_asked _ hasks rfl,
      subscribeReq_checked hpanel hright henabled hentries hring, hnone, if_neg (by decide), if_pos hmany]
  case unsub =>
    intro s c q hasks hpanel hright henabled hsome hon
    rw [exec_touchUnsubscribe, execTouchUnsubscribe, serve_asked _ hasks rfl, unsubscribeReq_checked hpanel hright henabled,
      if_neg (by rw [Option.isNone_eq_false_iff.mpr hsome]; decide), withDomain_on _ _ hon]
  case unsubNone =>
    intro s c q hasks hpanel hright henabled hnone
    rw [exec_touchUnsubscribe, execTouchUnsubscribe, serve_asked _ hasks rfl, unsubscribeReq_checked hpanel hright henabled, hnone,
      if_pos (by rfl)]
  case unsubPanel =>
    intro s c q hasks hpanel
    rw [exec_touchUnsubscribe, execTouchUnsubscribe, serve_asked _ hasks rfl, unsubscribeReq]
    exact congrArg Host.Outcome.next (if_pos hpanel)
  case query =>
    intro s c q hasks hpanel hright henabled
    rw [exec_touchQuery, execTouchQuery, serve_asked _ hasks rfl, touchQueryReq_checked hpanel hright,
      if_neg (by rw [henabled]; decide)]
  case queryOff =>
    intro s c q hasks hpanel hright hoff
    rw [exec_touchQuery, execTouchQuery, serve_asked _ hasks rfl, touchQueryReq_checked hpanel hright,
      if_pos (by rw [hoff]; decide)]
  case apply =>
    intro s p q hasks hlen hon hnone
    obtain ⟨htaken, -⟩ := iclAsks_iff.mp hasks
    have hruns : iclApply s p.val = iclComplete (setTouch (setTouch s p.val { touchOf s p.val with apply := true }) p.val
        { touchOf s p.val with apply := false }) (2 + p.val) {} := by
      rw [iclApply_checked hasks hlen hon, hnone, if_neg (fun h => Bool.false_ne_true h.1),
        answerApply_waiting (by rw [touchOf_setTouch]), touchOf_setTouch]
    refine ⟨_, congrArg Host.Outcome.next hruns, iclDone_iclComplete _ htaken rfl, ?_, iclComplete_od _ _ _,
      (iclComplete_kept_clasp _ _ _).parts .out (by decide)⟩
    rw [touchOf_iclComplete, touchOf_setTouch]
  case applyWaits =>
    intro s p q hasks hlen hon hsome hphase
    refine congrArg Host.Outcome.next ?_
    rw [iclApply_checked hasks hlen hon, if_pos ⟨hsome, hphase⟩]
  case applyIdle => exact fun s p h => congrArg Host.Outcome.next (iclApply_rests h)
  case applyLength => exact fun s p q hasks hlen hon => congrArg Host.Outcome.next (iclApply_badLength hasks hlen hon)
  case test =>
    intro s p q hasks hlen hexists hon
    obtain ⟨htaken, -⟩ := iclAsks_iff.mp hasks
    have hruns : iclServe s (2 + p.val) 0xF002 (· == 0) (fun _ => (startSelftest s p.val, {})) =
        iclComplete (wr (setTouch s p.val (testMark (touchOf s p.val))) (E.panel_CMD_STATE p.val) 1) (2 + p.val) {} := by
      rw [iclServe_asked _ hasks (by rw [hlen]; rfl), startSelftest_starts hexists hon]
    have hmark : touchOf (iclComplete (wr (setTouch s p.val (testMark (touchOf s p.val))) (E.panel_CMD_STATE p.val) 1) (2 + p.val) {}) p.val =
        testMark (touchOf s p.val) := by
      rw [touchOf_iclComplete]
      exact touchOf_setTouch _ _ _
    refine ⟨_, congrArg Host.Outcome.next hruns, iclDone_iclComplete _ htaken rfl, ?_, fun k hk => ?_, fun htesting hphase => ?_, fun h => ?_⟩
    · rw [rd_iclComplete, rd_wr_same]
    · rw [rd_iclComplete, rd_wr_ne _ _ (fun h => hk (List.mem_singleton.mpr h))]
      rfl
    · rw [hmark, testMark, if_neg (by rw [htesting]; exact fun h => h.elim Bool.false_ne_true hphase)]
    · rw [hmark, testMark, if_pos h]
  case testIdle => exact fun s p hidle => congrArg Host.Outcome.next (iclServe_idle _ _ hidle)
  case testLength =>
    exact fun s p q hasks hlen => congrArg Host.Outcome.next (iclServe_badLength _ hasks (beq_eq_false_iff_ne.mpr hlen))
  case capture =>
    intro s p q hasks hlen hphase htesting
    obtain ⟨htaken, -⟩ := iclAsks_iff.mp hasks
    refine ⟨_, congrArg Host.Outcome.next ((iclServe_asked _ hasks (by rw [hlen]; rfl)).trans
      (congrArg (fun u => iclComplete u (2 + p.val) {}) (startCapture_begins hphase htesting))), iclDone_iclComplete _ htaken rfl, ?_, ?_⟩
    · rw [rd_iclComplete, rd_wr_same]
    · have hrec := touchOf_setTouch (setTouch s p.val { touchOf s p.val with capture := 1 }) p.val
        { touchOf s p.val with capture := 2, capSums := [], capCount := 0 }
      rw [touchOf_iclComplete]
      exact ⟨congrArg TouchRec.capture hrec, congrArg TouchRec.capCount hrec⟩
  case captureRefused =>
    intro s p q hasks hlen hphase
    obtain ⟨htaken, -⟩ := iclAsks_iff.mp hasks
    refine ⟨_, congrArg Host.Outcome.next ((iclServe_asked _ hasks (by rw [hlen]; rfl)).trans
      (congrArg (fun u => iclComplete u (2 + p.val) {}) (startCapture_refused hphase))), iclDone_iclComplete _ htaken rfl, ?_, ?_⟩
    · rw [rd_iclComplete, rd_wr_same]
    · rw [touchOf_iclComplete]
      rfl
  case captureWaits =>
    intro s p q hasks hlen hphase
    obtain ⟨htaken, -⟩ := iclAsks_iff.mp hasks
    refine ⟨_, congrArg Host.Outcome.next ((iclServe_asked _ hasks (by rw [hlen]; rfl)).trans
      (congrArg (fun u => iclComplete u (2 + p.val) {}) (startCapture_waits hphase))), iclDone_iclComplete _ htaken rfl, iclComplete_od _ _ _, ?_⟩
    rw [touchOf_iclComplete, touchOf_setTouch]
  case captureLength =>
    exact fun s p q hasks hlen => congrArg Host.Outcome.next (iclServe_badLength _ hasks (beq_eq_false_iff_ne.mpr hlen))
  case iclSub =>
    intro s p q hasks hnone hroom hquiet
    obtain ⟨htaken, -⟩ := iclAsks_iff.mp hasks
    have hruns : ∀ u, (if (subOf s p.val (argOf q 2)).isSome ∨ 16 ≤ (touchOf s p.val).subs.length then (s, ({} : Ans)) else (u, {})) = (u, {}) :=
      fun u => if_neg (by rw [hnone]; exact fun h => h.elim (by decide) (by omega))
    refine ⟨_, congrArg Host.Outcome.next ((iclServe_asked _ hasks rfl).trans
      ((congrArg (fun r => iclComplete r.1 (2 + p.val) r.2) (hruns _)).trans (congrArg (fun u => iclComplete u (2 + p.val) {}) (enterSub_quiet _ hquiet)))),
      iclDone_iclComplete _ htaken ?_, ?_, ?_⟩
    · exact (winWr_kept_mem _ _ _ _).parts .clasp (by decide)
    · rw [touchOf_iclComplete, touchOf_winWr, touchOf_setTouch]
    · rw [iclComplete_od]
      exact (winWr_kept_mem _ _ _ _).parts .od (by decide)
  case iclSubKept =>
    intro s p q hasks hfull
    exact congrArg Host.Outcome.next ((iclServe_asked _ hasks rfl).trans
      (congrArg (fun (r : State × Ans) => iclComplete r.1 (2 + p.val) r.2) (if_pos hfull)))
  case iclUnsub =>
    intro s p q hasks
    obtain ⟨htaken, -⟩ := iclAsks_iff.mp hasks
    refine ⟨_, congrArg Host.Outcome.next (iclServe_asked _ hasks rfl), iclDone_iclComplete _ htaken rfl, ?_, iclComplete_od _ _ _,
      (iclComplete_kept_clasp _ _ _).parts .mem (by decide)⟩
    rw [touchOf_iclComplete, leaveSub_touchOf]
  case iclUnsubIdle => exact fun s p hidle => congrArg Host.Outcome.next (iclServe_idle _ _ hidle)

end Sys2Proof.Proofs
end

section
/-! SUPPORT. What the operations on a haptic channel leave (R294-R312): its record, its entries, and that they leave every other channel's
as they were. -/

namespace Sys2Proof.Proofs

open Sys2Proof Sys2Proof.Machine Sys2Proof.Laws

theorem hapOf_congr {s t : State} (h : t.hap = s.hap) (n : Nat) : hapOf t n = hapOf s n := by rw [hapOf, h, hapOf]

/-! ### Phases -/

theorem rd_setHapState (s : State) (n st k : Nat) : rd (setHapState s n st) k = if k = E.hap_STATE n then st else rd s k := by
  have hrd : rd (setHapState s n st) k = rd (wr (setHap s n { hapOf s n with drive := driveOf s n st }) (E.hap_STATE n) st) k := by
    rw [setHapState]
    split <;> rfl
  rw [hrd]
  split
  · next h => rw [h, rd_wr_same]
  · next h => rw [rd_wr_ne _ _ h, rd_setHap]

theorem rd_setHapState_ne (s : State) {n k : Nat} (st : Nat) (h : k ≠ E.hap_STATE n) : rd (setHapState s n st) k = rd s k := by
  rw [rd_setHapState, if_neg h]

theorem rd_setHapState_same (s : State) (n st : Nat) : rd (setHapState s n st) (E.hap_STATE n) = st := by
  rw [rd_setHapState, if_pos rfl]

theorem setHapState_hap (s : State) (n st : Nat) : (setHapState s n st).hap = (setHap s n { hapOf s n with drive := driveOf s n st }).hap := by
  rw [setHapState]
  split <;> rfl

theorem hapOf_setHapState (s : State) (n st : Nat) : hapOf (setHapState s n st) n = { hapOf s n with drive := driveOf s n st } := by
  rw [hapOf_congr (setHapState_hap s n st), hapOf_setHap]

theorem hapOf_setHapState_ne (s : State) {n j : Nat} (st : Nat) (h : j ≠ n) : hapOf (setHapState s n st) j = hapOf s j := by
  rw [hapOf_congr (setHapState_hap s n st), hapOf_setHap_ne _ _ _ h]

theorem setHapState_kept_hap (s : State) (n st : Nat) : Kept [.free, .od, .hap] s (setHapState s n st) := by
  have := @May.head
  have := @May.tail
  exact setHapState_kept (Kept.refl _ s) n st

theorem toBraking_kept_hap (s : State) (n : Nat) : Kept [.free, .od, .hap] s (toBraking s n) := by
  have := @May.head
  have := @May.tail
  exact toBraking_kept (Kept.refl _ s) n

theorem rd_toBraking_same (s : State) (n : Nat) : rd (toBraking s n) (E.hap_STATE n) = 5 := rd_setHapState_same _ _ _

theorem rd_toBraking_ne (s : State) {n k : Nat} (h : k ≠ E.hap_STATE n) : rd (toBraking s n) k = rd s k := by
  rw [toBraking, rd_setHapState_ne _ _ h, rd_setHap]

theorem hapOf_toBraking (s : State) (n : Nat) : (hapOf (toBraking s n) n).left = 0 ∧ (hapOf (toBraking s n) n).latch = (hapOf s n).latch := by
  rw [toBraking, hapOf_setHapState, hapOf_setHap]
  exact ⟨rfl, rfl⟩

theorem rd_setLatch_ne (s : State) {n k : Nat} (t : Option Trig) (h : k ≠ E.hap_FLAGS n) : rd (setLatch s n t) k = rd s k := by
  rw [setLatch, wrBit, rd_wr_ne _ _ h, rd_setHap]

theorem latchBit_setLatch (s : State) (n : Nat) (t : Option Trig) : bitOf (rd (setLatch s n t) (E.hap_FLAGS n)) 2 = t.isSome := by
  rw [setLatch, wrBit, rd_wr_same, bitOf_setBit_same]

theorem hapOf_setLatch (s : State) (n : Nat) (t : Option Trig) : hapOf (setLatch s n t) n = { hapOf s n with latch := t } :=
  hapOf_setHap s n _

theorem notifyTrig_kept_clasp (s : State) (t : Option Trig) : Kept [.out, .clasp, .ports] s (notifyTrig s t) := by
  have := @May.head
  have := @May.tail
  exact notifyTrig_kept (Kept.refl _ s) t

theorem rd_notifyTrig (s : State) (t : Option Trig) (k : Nat) : rd (notifyTrig s t) k = rd s k :=
  rd_congr ((notifyTrig_kept_clasp s t).parts .od (by decide)) k

theorem hapOf_notifyTrig (s : State) (t : Option Trig) (n : Nat) : hapOf (notifyTrig s t) n = hapOf s n :=
  hapOf_congr ((notifyTrig_kept_clasp s t).parts .hap (by decide)) n

theorem iclOf_claspIrq (s : State) (c j : Nat) : iclOf (claspIrq s c) j = iclOf s j := by
  rw [claspIrq]
  split
  · rfl
  · split
    · rw [msixSend]
      split <;> rfl
    · rfl

theorem iclOf_setEvent (s : State) (c bit j : Nat) : iclOf (setEvent s c bit) j = iclOf s j := by
  rw [setEvent]
  split
  · rfl
  · dsimp only
    split
    · rw [iclOf_claspIrq]
      rfl
    · rfl

/-- A doorbell leaves the taken requests, of clients and internal ones. -/
theorem notifyTrig_requests (s : State) (t : Option Trig) (j : Nat) :
    (claspOf (notifyTrig s t) j).taken = (claspOf s j).taken ∧ iclOf (notifyTrig s t) j = iclOf s j := by
  unfold notifyTrig
  split
  · exact ⟨rfl, rfl⟩
  · split
    · split
      · exact ⟨taken_setEvent _ _ _ _, iclOf_setEvent _ _ _ _⟩
      · exact ⟨rfl, rfl⟩
    · exact ⟨rfl, rfl⟩

/-- A completed request is done where the state it completes in has the internal clasps as they were. -/
theorem iclDone_iclComplete_of_icl {s u : State} {n : Nat} {q : Taken} (a : Ans) (htaken : (iclOf s n).taken = some q)
    (hicl : ∀ m, iclOf u m = iclOf s m) : iclDone s (iclComplete u n a) n a := by
  obtain ⟨h1, h2, h3, h4, h5, h6, hother⟩ := iclDone_iclComplete (s := u) (u := u) a (by rw [hicl, htaken]) rfl
  exact ⟨h1, h2, h3, h4, h5, h6, fun m hm => (hother m hm).trans (hicl m)⟩

theorem hapOf_iclComplete (s : State) (n : Nat) (a : Ans) (k : Nat) : hapOf (iclComplete s n a) k = hapOf s k :=
  hapOf_congr ((iclComplete_kept_clasp s n a).parts .hap (by decide)) k

/-! ### Effects that start (R299) -/

/-- A channel whose effect has started, before its event. -/
def effectStarted (s : State) (n : Nat) (t : Trig) (moving : Bool) : State :=
  setHapState (bump (setHap s n { hapOf s n with
    cur := some t, left := t.rep, cut := false, drive := { (hapOf s n).drive with aligned := moving && !accLost s n } })
    (E.hap_EFFECTS n)) n 3

theorem startEffect_eq (s : State) (n : Nat) (t : Trig) (moving : Bool) :
    startEffect s n t moving = raise (effectStarted s n t moving) .hapStart [n, t.effect] := rfl

theorem rd_effectStarted_ne (s : State) {n : Nat} (t : Trig) (moving : Bool) {k : Nat} (hstate : k ≠ E.hap_STATE n)
    (heffects : k ≠ E.hap_EFFECTS n) : rd (effectStarted s n t moving) k = rd s k := by
  rw [effectStarted, rd_setHapState_ne _ _ hstate, rd_bump_ne _ heffects, rd_setHap]

theorem rd_effectStarted_state (s : State) (n : Nat) (t : Trig) (moving : Bool) :
    rd (effectStarted s n t moving) (E.hap_STATE n) = 3 := rd_setHapState_same _ _ _

theorem rd_effectStarted_effects (s : State) (n : Nat) (t : Trig) (moving : Bool) :
    rd (effectStarted s n t moving) (E.hap_EFFECTS n) = satInc (rd s (E.hap_EFFECTS n)) 1 := by
  rw [effectStarted, rd_setHapState_ne _ _ (by simp only [E.hap_EFFECTS, E.hap_STATE]; omega), rd_bump_same, rd_setHap]

theorem pdOn_effectStarted (s : State) (n : Nat) (t : Trig) (moving : Bool) (d : Nat) :
    pdOn (effectStarted s n t moving) d = pdOn s d := by
  rw [pdOn, rd_effectStarted_ne, pdOn]
  · simp only [E.pd_STATE, E.hap_STATE]; omega
  · simp only [E.pd_STATE, E.hap_EFFECTS]; omega

/-- The effect that runs, the plays left, and the drive of its attack. -/
theorem hapOf_effectStarted (s : State) (n : Nat) (t : Trig) (moving : Bool) :
    (hapOf (effectStarted s n t moving) n).cur = some t ∧ (hapOf (effectStarted s n t moving) n).left = t.rep ∧
      (hapOf (effectStarted s n t moving) n).drive.mode = 1 ∧
      (hapOf (effectStarted s n t moving) n).drive.duty = 65025 * rd s (E.hap_DRIVE_MAX n) ∧
      (hapOf (effectStarted s n t moving) n).drive.freq = at0 0 (effectFields t.effect) 3 * rd s (E.hap_F0 n) := by
  have hkeys : E.hap_DRIVE_MAX n ≠ E.hap_EFFECTS n ∧ E.hap_F0 n ≠ E.hap_EFFECTS n := by
    constructor
    · simp only [E.hap_DRIVE_MAX, E.hap_EFFECTS]; omega
    · simp only [E.hap_F0, E.hap_EFFECTS]; omega
  have hrec : hapOf (bump (setHap s n { hapOf s n with
      cur := some t, left := t.rep, cut := false, drive := { (hapOf s n).drive with aligned := moving && !accLost s n } })
      (E.hap_EFFECTS n)) n = { hapOf s n with
      cur := some t, left := t.rep, cut := false, drive := { (hapOf s n).drive with aligned := moving && !accLost s n } } := hapOf_setHap s n _
  rw [effectStarted, hapOf_setHapState, driveOf, hrec]
  refine ⟨rfl, rfl, rfl, ?_, ?_⟩
  · exact congrArg (65025 * ·) ((rd_bump_ne _ hkeys.1).trans (rd_setHap _ _ _ _))
  · exact congrArg (at0 0 (effectFields t.effect) 3 * ·) ((rd_bump_ne _ hkeys.2).trans (rd_setHap _ _ _ _))

theorem effectStarted_kept (s : State) (n : Nat) (t : Trig) (moving : Bool) : Kept [.free, .od, .hap] s (effectStarted s n t moving) := by
  have := @May.head
  have := @May.tail
  exact setHapState_kept (bump_kept (setHap_kept (Kept.refl _ s) n _) _) n 3

/-! ### Triggers (R303, R304) -/

/-- An idle channel starts the effect. -/
theorem trigger_idle {s : State} {n : Nat} (t : Trig) (hplays : hapPlays s n = true) (hidle : hapState s n = 2)
    (hcal : (hapOf s n).calWait = false) : trigger s n t = (startEffect s n t false, 0) := by
  rw [trigger]
  rw [if_neg (by rw [hplays]; decide), hidle, hcal, if_neg (by decide), if_neg (by simp), if_pos rfl]

/-- A running channel that a trigger cuts, before the trigger is latched. -/
def hapCut (s : State) (n : Nat) : State := raise (bump (toBraking s n) (E.hap_CUTS n)) .hapCut [n]

/-- A channel that plays an effect of no alarm brakes, and latches another. -/
theorem trigger_running {s : State} {n : Nat} {r t : Trig} (hplays : hapPlays s n = true) (hruns : hapState s n = 3 ∨ hapState s n = 4)
    (hcur : (hapOf s n).cur = some r) (hrun : alarmClass r.effect = false) (hnew : alarmClass t.effect = false) :
    trigger s n t = latchTrig (hapCut s n) n t := by
  have hnotFirst : (hapState s n == 2 && (hapOf s n).calWait && rd s (E.hap_CAL_STATE n) == 0) = false := by
    rw [beq_eq_false_iff_ne.mpr (by omega)]
    rfl
  rw [trigger]
  rw [if_neg (by rw [hplays]; decide), if_neg (by omega), hnotFirst, if_neg Bool.false_ne_true, if_neg (by omega), hcur]
  dsimp only
  rw [if_neg (c := alarmClass r.effect = true) (by rw [hrun]; exact Bool.false_ne_true), if_neg (by omega),
    if_neg (c := alarmClass t.effect = true) (by rw [hnew]; exact Bool.false_ne_true), hapCut]

theorem latchTrig_empty {s : State} {n : Nat} (t : Trig) (hnone : (hapOf s n).latch = none) :
    latchTrig s n t = (setLatch s n (some t), 1) := by rw [latchTrig, hnone]

/-- A stop clears the latch, and a channel that plays brakes. -/
theorem hapStop_playing {s : State} {n : Nat} (hplays : hapState s n = 3 ∨ hapState s n = 4 ∨ hapState s n = 5 ∨ hapState s n = 6) :
    hapStop s n = toBraking (notifyTrig (setLatch s n none) (hapOf s n).latch) n := by
  have hstate : hapState (notifyTrig (setLatch s n none) (hapOf s n).latch) n = hapState s n := by
    rw [hapState, rd_notifyTrig, rd_setLatch_ne _ _ (by simp only [E.hap_STATE, E.hap_FLAGS]; omega), hapState]
  rw [hapStop]
  rw [hstate, if_pos hplays]

theorem hapStop_resting {s : State} {n : Nat} (hrests : hapState s n ≤ 2) :
    hapStop s n = notifyTrig (setLatch s n none) (hapOf s n).latch := by
  have hstate : hapState (notifyTrig (setLatch s n none) (hapOf s n).latch) n = hapState s n := by
    rw [hapState, rd_notifyTrig, rd_setLatch_ne _ _ (by simp only [E.hap_STATE, E.hap_FLAGS]; omega), hapState]
  rw [hapStop]
  rw [hstate, if_neg (by omega)]

/-- What a stop leaves of a channel that plays. -/
theorem hapStop_leaves {s : State} {n : Nat} (hplays : hapState s n = 3 ∨ hapState s n = 4 ∨ hapState s n = 5 ∨ hapState s n = 6) :
    rd (hapStop s n) (E.hap_STATE n) = 5 ∧ (hapOf (hapStop s n) n).left = 0 ∧ (hapOf (hapStop s n) n).latch = none ∧
      bitOf (rd (hapStop s n) (E.hap_FLAGS n)) 2 = false := by
  obtain ⟨hleft, hlatch⟩ := hapOf_toBraking (notifyTrig (setLatch s n none) (hapOf s n).latch) n
  rw [hapStop_playing hplays]
  refine ⟨rd_toBraking_same _ _, hleft, ?_, ?_⟩
  · rw [hlatch, hapOf_notifyTrig, hapOf_setLatch]
  · rw [rd_toBraking_ne _ (by simp only [E.hap_STATE, E.hap_FLAGS]; omega), rd_notifyTrig, latchBit_setLatch]
    rfl

/-- A stop leaves the taken requests. -/
theorem hapStop_requests (s : State) (n j : Nat) : (claspOf (hapStop s n) j).taken = (claspOf s j).taken ∧ iclOf (hapStop s n) j = iclOf s j := by
  obtain ⟨htaken, hicl⟩ := notifyTrig_requests (setLatch s n none) (hapOf s n).latch j
  have hkept := toBraking_kept_hap (notifyTrig (setLatch s n none) (hapOf s n).latch) n
  rw [hapStop]
  split
  · rw [claspOf_congr (hkept.parts .clasp (by decide)), iclOf_congr (hkept.parts .clasp (by decide))]
    exact ⟨htaken, hicl⟩
  · exact ⟨htaken, hicl⟩

end Sys2Proof.Proofs
end

section
/-! SUPPORT. Calibrations and applied configurations of the haptic channels (R305, R308): what a pass over the channels leaves of one of
them. -/

namespace Sys2Proof.Proofs

open Sys2Proof Sys2Proof.Machine Sys2Proof.Laws

/-- The entries that a channel's settling reads: its own, and STATE of PD13. -/
def hapSees (n k : Nat) : Prop := (0x4C0000 + 0x400 * n ≤ k ∧ k < 0x4C0400 + 0x400 * n) ∨ k = E.pd_STATE 13

/-- What a channel is after a change of another: the same. -/
structure OtherHap (n : Nat) (s t : State) : Prop where
  chan : hapOf t n = hapOf s n
  sees : ∀ k, hapSees n k → rd t k = rd s k

theorem OtherHap.refl (n : Nat) (s : State) : OtherHap n s s := ⟨rfl, fun _ _ => rfl⟩

theorem OtherHap.trans {n : Nat} {s t u : State} (h : OtherHap n s t) (h' : OtherHap n t u) : OtherHap n s u :=
  ⟨h'.chan.trans h.chan, fun k hk => (h'.sees k hk).trans (h.sees k hk)⟩

theorem OtherHap.setHap {n m : Nat} (s : State) (x : HapRec) (hm : m ≠ n) : OtherHap n s (setHap s m x) :=
  ⟨hapOf_setHap_ne s m x hm.symm, fun _ _ => rfl⟩

theorem OtherHap.wr {n : Nat} (s : State) {k : Nat} (v : Nat) (hk : ¬ hapSees n k) : OtherHap n s (wr s k v) :=
  ⟨rfl, fun _ hj => rd_wr_ne s v (fun h => hk (h ▸ hj))⟩

theorem OtherHap.notifyTrig (n : Nat) (s : State) (t : Option Trig) : OtherHap n s (notifyTrig s t) :=
  ⟨hapOf_notifyTrig s t n, fun k _ => rd_notifyTrig s t k⟩

section Other

variable {n m : Nat} (hm : m ≠ n) (s : State)
include hm

theorem not_hapSees_state : ¬ hapSees n (E.hap_STATE m) := by simp only [hapSees, E.hap_STATE, E.pd_STATE]; omega
theorem not_hapSees_cal : ¬ hapSees n (E.hap_CAL_STATE m) := by simp only [hapSees, E.hap_CAL_STATE, E.pd_STATE]; omega
theorem not_hapSees_flags : ¬ hapSees n (E.hap_FLAGS m) := by simp only [hapSees, E.hap_FLAGS, E.pd_STATE]; omega

theorem OtherHap.setHapState (st : Nat) : OtherHap n s (setHapState s m st) :=
  ⟨hapOf_setHapState_ne s st hm.symm, fun _ hk => rd_setHapState_ne s st (fun h => not_hapSees_state hm (h ▸ hk))⟩

theorem OtherHap.setLatch (t : Option Trig) : OtherHap n s (setLatch s m t) :=
  (OtherHap.setHap s { hapOf s m with latch := t } hm).trans (OtherHap.wr _ _ (not_hapSees_flags hm))

end Other

theorem OtherHap.endLasting (n : Nat) (s : State) (code b0 : Nat) : OtherHap n s (endLasting s code b0) := by
  refine ⟨hapOf_congr ((endLasting_kept_field s code b0).parts .hap (by decide)) n, fun k hk => rd_endLasting_ne s code b0 ?_ ?_⟩
  · simp only [hapSees, E.pd_STATE, E.err_ERROR_REGISTER] at hk ⊢; omega
  · simp only [hapSees, E.pd_STATE, E.comm_EMCY_DROPPED] at hk ⊢; omega

theorem OtherHap.beginLasting (n : Nat) (s : State) (code b0 : Nat) : OtherHap n s (beginLasting s code b0) := by
  refine ⟨rfl, fun k hk => rd_beginLasting_ne s code b0 ?_⟩
  simp only [hapSees, E.pd_STATE, E.err_ERROR_REGISTER] at hk ⊢; omega

theorem OtherHap.restoreCal {n m : Nat} (hm : m ≠ n) (s : State) : OtherHap n s (restoreCal s m) := by
  rw [Machine.restoreCal]
  refine OtherHap.trans ?_ (OtherHap.wr _ _ (not_hapSees_cal hm))
  split
  · exact OtherHap.beginLasting n s _ _
  · exact OtherHap.refl n s

theorem OtherHap.hapOff {n m : Nat} (hm : m ≠ n) (s : State) : OtherHap n s (hapOff s m) := by
  rw [Machine.hapOff]
  exact ((((OtherHap.notifyTrig n s _).trans (OtherHap.notifyTrig n _ _)).trans (OtherHap.setHap _ _ hm)).trans
    (OtherHap.setLatch hm _ _)).trans (OtherHap.setHapState hm _ _)

/-- A calibration that starts is another channel's. -/
theorem OtherHap.startCal {n m : Nat} (hm : m ≠ n) (s : State) : OtherHap n s (startCal s m) := by
  rw [Machine.startCal]
  split
  · exact (((OtherHap.setHap s _ hm).trans (OtherHap.setHapState hm _ _)).trans (OtherHap.wr _ _ (not_hapSees_cal hm))).trans
      (OtherHap.endLasting n _ _ _)
  · exact OtherHap.refl n s

theorem OtherHap.settleHap {n m : Nat} (hm : m ≠ n) (s : State) (fresh : Bool) : OtherHap n s (settleHap s m fresh) := by
  rw [Machine.settleHap]
  split
  · split
    · exact (OtherHap.setHap s _ hm).trans (OtherHap.setHapState hm _ _)
    · exact OtherHap.refl n s
  · split
    · split
      · exact OtherHap.setHap s _ hm
      · exact OtherHap.refl n s
    · refine OtherHap.trans ?_ (OtherHap.hapOff hm _)
      refine OtherHap.trans ?_ (OtherHap.setHap _ _ hm)
      split
      · exact OtherHap.restoreCal hm s
      · exact OtherHap.refl n s

/-- A pass over distinct channels does at one of them what it does there alone. -/
theorem foldl_through {f : State → Nat → State} {P Q : State → Prop} {n : Nat} (hbefore : ∀ t k, k ≠ n → P t → P (f t k))
    (hat : ∀ t, P t → Q (f t n)) (hafter : ∀ t k, k ≠ n → Q t → Q (f t k)) :
    ∀ (l : List Nat) (s : State), l.Nodup → n ∈ l → P s → Q (l.foldl f s) := by
  have hrest : ∀ (l : List Nat) (s : State), n ∉ l → Q s → Q (l.foldl f s) := by
    intro l
    induction l with
    | nil => exact fun s _ h => h
    | cons a l ih =>
      exact fun s hnot h => ih _ (fun hin => hnot (.tail _ hin)) (hafter s a (fun heq => hnot (heq ▸ .head _)) h)
  intro l
  induction l with
  | nil => exact fun s _ hin => absurd hin List.not_mem_nil
  | cons a l ih =>
    intro s hnodup hin hp
    obtain ⟨hfirst, hnodup'⟩ := List.nodup_cons.mp hnodup
    by_cases ha : a = n
    · rw [ha] at hfirst ⊢
      exact hrest l _ hfirst (hat s hp)
    · exact ih _ hnodup' ((List.mem_cons.mp hin).resolve_left (fun h => ha h.symm)) (hbefore s a ha hp)

/-! ### Calibrations (R305) -/

/-- A channel that sweeps, but for the lasting condition of its last failure. -/
def calStarted (s : State) (n : Nat) : State :=
  wr (setHapState (setHap s n { hapOf s n with calWait := false, prevCal := rd s (E.hap_CAL_STATE n), cut := false }) n 1)
    (E.hap_CAL_STATE n) 1

theorem rd_calStarted_ne (s : State) {n k : Nat} (hstate : k ≠ E.hap_STATE n) (hcal : k ≠ E.hap_CAL_STATE n) :
    rd (calStarted s n) k = rd s k := by
  rw [calStarted, rd_wr_ne _ _ hcal, rd_setHapState_ne _ _ hstate, rd_setHap]

theorem rd_calStarted_state (s : State) (n : Nat) : rd (calStarted s n) (E.hap_STATE n) = 1 := by
  rw [calStarted, rd_wr_ne _ _ (by simp only [E.hap_STATE, E.hap_CAL_STATE]; omega), rd_setHapState_same]

theorem rd_calStarted_cal (s : State) (n : Nat) : rd (calStarted s n) (E.hap_CAL_STATE n) = 1 := rd_wr_same _ _ _

theorem prevCal_calStarted (s : State) (n : Nat) : (hapOf (calStarted s n) n).prevCal = rd s (E.hap_CAL_STATE n) := by
  have hrec : hapOf (calStarted s n) n =
      hapOf (setHapState (setHap s n { hapOf s n with calWait := false, prevCal := rd s (E.hap_CAL_STATE n), cut := false }) n 1) n := rfl
  rw [hrec, hapOf_setHapState, hapOf_setHap]

/-- A channel of no head that waits and is idle calibrates. -/
theorem startCal_alone {s : State} {n : Nat} (hwaits : (hapOf s n).calWait = true) (hidle : rd s (E.hap_STATE n) = 2)
    (halone : rd s (E.hap_HEAD n) = 0xFF) : rd (startCal s n) (E.hap_STATE n) = 1 ∧ rd (startCal s n) (E.hap_CAL_STATE n) = 1 ∧
      (hapOf (startCal s n) n).prevCal = rd s (E.hap_CAL_STATE n) ∧ rd (startCal s n) (E.hap_ENABLE n) = rd s (E.hap_ENABLE n) := by
  have hfirst : (List.range 16).all (fun k => k == n || rd s (E.hap_HEAD n) == 0xFF || rd s (E.hap_HEAD k) != rd s (E.hap_HEAD n) ||
      (hapState s k != 1 && !((hapOf s k).calWait && hapState s k == 2 && decide (k < n)))) = true :=
    List.all_eq_true.mpr fun k _ => by simp [halone]
  have hstarts : startCal s n = endLasting (calStarted s n) 0x5040 n := if_pos ⟨hwaits, hidle, hfirst⟩
  have hother := OtherHap.endLasting n (calStarted s n) 0x5040 n
  rw [hstarts, hother.chan, hother.sees _ (by simp only [hapSees, E.hap_STATE]; omega),
    hother.sees _ (by simp only [hapSees, E.hap_CAL_STATE]; omega), hother.sees _ (by simp only [hapSees, E.hap_ENABLE]; omega)]
  refine ⟨rd_calStarted_state s n, rd_calStarted_cal s n, prevCal_calStarted s n, rd_calStarted_ne s ?_ ?_⟩
  · simp only [E.hap_ENABLE, E.hap_STATE]; omega
  · simp only [E.hap_ENABLE, E.hap_CAL_STATE]; omega

/-- Such a channel calibrates, whatever the others wait for. -/
theorem scheduleCals_alone {s : State} {n : Nat} (hn : n < 16) (hwaits : (hapOf s n).calWait = true) (hidle : rd s (E.hap_STATE n) = 2)
    (halone : rd s (E.hap_HEAD n) = 0xFF) : rd (scheduleCals s) (E.hap_STATE n) = 1 ∧ rd (scheduleCals s) (E.hap_CAL_STATE n) = 1 ∧
      (hapOf (scheduleCals s) n).prevCal = rd s (E.hap_CAL_STATE n) ∧ rd (scheduleCals s) (E.hap_ENABLE n) = rd s (E.hap_ENABLE n) := by
  have henable : hapSees n (E.hap_ENABLE n) := by simp only [hapSees, E.hap_ENABLE]; omega
  have hstate : hapSees n (E.hap_STATE n) := by simp only [hapSees, E.hap_STATE]; omega
  have hcal : hapSees n (E.hap_CAL_STATE n) := by simp only [hapSees, E.hap_CAL_STATE]; omega
  have hhead : hapSees n (E.hap_HEAD n) := by simp only [hapSees, E.hap_HEAD]; omega
  refine foldl_through (n := n) (P := OtherHap n s) (Q := fun t => rd t (E.hap_STATE n) = 1 ∧ rd t (E.hap_CAL_STATE n) = 1 ∧
    (hapOf t n).prevCal = rd s (E.hap_CAL_STATE n) ∧ rd t (E.hap_ENABLE n) = rd s (E.hap_ENABLE n))
    (fun t k hk h => h.trans (OtherHap.startCal hk t)) (fun t h => ?_)
    (fun t k hk h => ?_) _ s List.nodup_range (List.mem_range.mpr hn) (OtherHap.refl n s)
  · rw [← h.sees _ hcal, ← h.sees _ henable]
    exact startCal_alone (by rw [h.chan, hwaits]) (by rw [h.sees _ hstate, hidle]) (by rw [h.sees _ hhead, halone])
  · have hother := OtherHap.startCal hk t
    rw [hother.sees _ hstate, hother.sees _ hcal, hother.sees _ henable, hother.chan]
    exact h

/-- With no idle channel that waits, none calibrates. -/
theorem scheduleCals_none {s : State} (hnone : ∀ k, k < 16 → ¬ ((hapOf s k).calWait = true ∧ hapState s k = 2)) : scheduleCals s = s := by
  have hrest : ∀ k, k < 16 → startCal s k = s := fun k hk => if_neg fun ⟨hwaits, hidle, _⟩ => hnone k hk ⟨hwaits, hidle⟩
  have hpass : ∀ l : List Nat, (∀ k ∈ l, k < 16) → l.foldl startCal s = s := by
    intro l
    induction l with
    | nil => exact fun _ => rfl
    | cons a l ih =>
      intro h
      rw [List.foldl_cons, hrest a (h a (.head _))]
      exact ih fun k hk => h k (.tail _ hk)
  exact hpass _ fun k hk => List.mem_range.mp hk

/-! ### Applied configurations (R82, R305) -/

/-- A channel that a commit enables waits for its calibration. -/
theorem settleHap_fresh {s : State} {n : Nat} (henabled : rd s (E.hap_ENABLE n) = 1) (hon : pdOn s 13 = true)
    (hoff : rd s (E.hap_STATE n) = 0) : settleHap s n true = setHapState (setHap s n { hapOf s n with calWait := true }) n 2 := by
  rw [settleHap, if_pos ⟨henabled, hon⟩, if_pos (c := hapState s n = 0) hoff]
  dsimp only
  rw [Bool.or_true]

/-- The state after every channel has followed the landed entries. -/
def settledHaps (was : List Nat) (s : State) : State :=
  (List.range 16).foldl (fun t n => settleHap t n (at0 0 was n == 0 && rd s (E.hap_ENABLE n) == 1)) s

theorem landHap_eq (s : State) : landHap s (fun _ => true) = scheduleCals (settledHaps ((List.range 16).map (fun n => rd s (E.hap_ENABLE n)))
    (landWhere s (fun k => isHapKey k && true))) := rfl

theorem settledHaps_fresh {was : List Nat} {s : State} {n : Nat} (hn : n < 16) (hwas : at0 0 was n = 0) (henabled : rd s (E.hap_ENABLE n) = 1)
    (hon : pdOn s 13 = true) (hoff : rd s (E.hap_STATE n) = 0) : (hapOf (settledHaps was s) n).calWait = true ∧
      rd (settledHaps was s) (E.hap_STATE n) = 2 ∧ rd (settledHaps was s) (E.hap_HEAD n) = rd s (E.hap_HEAD n) ∧
      rd (settledHaps was s) (E.hap_ENABLE n) = 1 := by
  have hstate : hapSees n (E.hap_STATE n) := by simp only [hapSees, E.hap_STATE]; omega
  have henable : hapSees n (E.hap_ENABLE n) := by simp only [hapSees, E.hap_ENABLE]; omega
  have hhead : hapSees n (E.hap_HEAD n) := by simp only [hapSees, E.hap_HEAD]; omega
  refine foldl_through (n := n) (P := OtherHap n s) (Q := fun t => (hapOf t n).calWait = true ∧ rd t (E.hap_STATE n) = 2 ∧
    rd t (E.hap_HEAD n) = rd s (E.hap_HEAD n) ∧ rd t (E.hap_ENABLE n) = 1) (fun t k hk h => h.trans (OtherHap.settleHap hk t _))
    (fun t h => ?_) (fun t k hk h => ?_) _ s List.nodup_range (List.mem_range.mpr hn) (OtherHap.refl n s)
  · have hfresh : (at0 0 was n == 0 && rd s (E.hap_ENABLE n) == 1) = true := by rw [hwas, henabled]; rfl
    have hpower : pdOn t 13 = true := by rw [pdOn, h.sees _ (.inr rfl)]; exact hon
    rw [hfresh, settleHap_fresh (by rw [h.sees _ henable, henabled]) hpower (by rw [h.sees _ hstate, hoff]), hapOf_setHapState, hapOf_setHap,
      rd_setHapState_same, rd_setHapState_ne _ _ (by simp only [E.hap_HEAD, E.hap_STATE]; omega),
      rd_setHapState_ne _ _ (by simp only [E.hap_ENABLE, E.hap_STATE]; omega), rd_setHap, rd_setHap, h.sees _ hhead, h.sees _ henable, henabled]
    exact ⟨rfl, rfl, rfl, rfl⟩
  · have hother := OtherHap.settleHap hk t (at0 0 was k == 0 && rd s (E.hap_ENABLE k) == 1)
    rw [hother.chan, hother.sees _ hstate, hother.sees _ hhead, hother.sees _ henable]
    exact h

/-- Neither a channel that settles nor one that calibrates touches the values on their way or an internal clasp. -/
theorem settleHap_requests (s : State) (n : Nat) (fresh : Bool) :
    (settleHap s n fresh).dict = s.dict ∧ ∀ j, iclOf (settleHap s n fresh) j = iclOf s j := by
  have hd := @May.head
  have ht := @May.tail
  have hkept : Kept [.free, .out, .od, .clasp, .field, .ports, .hap] s (settleHap s n fresh) := settleHap_kept (Kept.refl _ s) n fresh
  refine ⟨hkept.parts .dict (by decide), fun j => ?_⟩
  have hphase : ∀ (t : State) (st : Nat), iclOf (setHapState t n st) j = iclOf t j := fun t st =>
    iclOf_congr ((setHapState_kept_hap t n st).parts .clasp (by decide)) j
  have hoff : ∀ t : State, iclOf (hapOff t n) j = iclOf t j := fun t => by
    rw [hapOff, hphase]
    exact (notifyTrig_requests _ _ j).2.trans (notifyTrig_requests _ _ j).2
  have hcal : ∀ t : State, iclOf (restoreCal t n) j = iclOf t j := fun t => by
    have hkept : Kept [.od, .field] t (restoreCal t n) := restoreCal_kept (Kept.refl _ t) n
    exact iclOf_congr (hkept.parts .clasp (by decide)) j
  rw [settleHap]
  split
  · split
    · rw [hphase]
      rfl
    · rfl
  · split
    · split <;> rfl
    · rw [hoff]
      show iclOf (if (hapState s n == 1) = true then restoreCal s n else s) j = iclOf s j
      split
      · exact hcal s
      · rfl

theorem scheduleCals_kept_hap (s : State) : Kept [.free, .od, .field, .hap] s (scheduleCals s) := by
  have := @May.head
  have := @May.tail
  exact scheduleCals_kept (Kept.refl _ s)

theorem settledHaps_requests (was : List Nat) (s : State) :
    (settledHaps was s).dict = s.dict ∧ ∀ j, iclOf (settledHaps was s) j = iclOf s j := by
  have hpass : ∀ (l : List Nat) (t : State), (l.foldl (fun t n => settleHap t n (at0 0 was n == 0 && rd s (E.hap_ENABLE n) == 1)) t).dict = t.dict ∧
      ∀ j, iclOf (l.foldl (fun t n => settleHap t n (at0 0 was n == 0 && rd s (E.hap_ENABLE n) == 1)) t) j = iclOf t j := by
    intro l
    induction l with
    | nil => exact fun t => ⟨rfl, fun _ => rfl⟩
    | cons a l ih =>
      intro t
      obtain ⟨hdict, hicl⟩ := settleHap_requests t a (at0 0 was a == 0 && rd s (E.hap_ENABLE a) == 1)
      exact ⟨(ih _).1.trans hdict, fun j => ((ih _).2 j).trans (hicl j)⟩
  exact hpass _ s

theorem landHap_requests (s : State) : (landHap s (fun _ => true)).dict.applying.any (fun p => isHapKey p.1) = false ∧
    ∀ j, iclOf (landHap s (fun _ => true)) j = iclOf s j := by
  obtain ⟨hdict, hicl⟩ := settledHaps_requests ((List.range 16).map (fun n => rd s (E.hap_ENABLE n))) (landWhere s (fun k => isHapKey k && true))
  have hcals := scheduleCals_kept_hap (settledHaps ((List.range 16).map (fun n => rd s (E.hap_ENABLE n)))
    (landWhere s (fun k => isHapKey k && true)))
  rw [landHap_eq]
  refine ⟨?_, fun j => ?_⟩
  · rw [hcals.parts .dict (by decide), hdict, applying_landWhere, List.any_eq_false]
    intro p hp
    have hnot := (List.mem_filter.mp hp).2
    rw [Bool.and_true] at hnot
    simpa using hnot
  · rw [iclOf_congr (hcals.parts .clasp (by decide)), hicl]
    exact iclOf_congr ((landWhere_kept_values s _).parts .clasp (by decide)) j

theorem hapEnable_number : ∀ n < 16, isDomainKey (E.hap_ENABLE n) = false ∧ isHapKey (E.hap_ENABLE n) = true := by decide +kernel

/-- A landing of ENABLE alone. -/
theorem landWhere_enable {s : State} {n : Nat} (hn : n < 16) (hone : s.dict.applying = [(E.hap_ENABLE n, [1])]) :
    landWhere s (fun k => isHapKey k && true) = wr (dropApplying s (E.hap_ENABLE n)) (E.hap_ENABLE n) 1 := by
  obtain ⟨hnumber, hkey⟩ := hapEnable_number n hn
  have hval : applyingVal s (E.hap_ENABLE n) = some [1] := by simp [applyingVal, hone]
  have hkeys : (s.dict.applying.map (·.1)).filter (fun k => isHapKey k && true) = [E.hap_ENABLE n] := by simp [hone, hkey]
  rw [landWhere, hkeys, List.foldl_cons, List.foldl_nil, landKey_number hval hnumber]
  rfl

/-- A commit that enables a channel of no head calibrates it. -/
theorem landHap_enables {s : State} {n : Nat} (hn : n < 16) (hone : s.dict.applying = [(E.hap_ENABLE n, [1])]) (hwas : rd s (E.hap_ENABLE n) = 0)
    (hoff : rd s (E.hap_STATE n) = 0) (halone : rd s (E.hap_HEAD n) = 0xFF) (hon : pdOn s 13 = true) :
    rd (landHap s (fun _ => true)) (E.hap_ENABLE n) = 1 ∧ rd (landHap s (fun _ => true)) (E.hap_STATE n) = 1 ∧
      rd (landHap s (fun _ => true)) (E.hap_CAL_STATE n) = 1 := by
  have hland := landWhere_enable hn hone
  have hkeep : ∀ k, k ≠ E.hap_ENABLE n → rd (landWhere s (fun k => isHapKey k && true)) k = rd s k := fun k hk => by
    rw [hland, rd_wr_ne _ _ hk]
    rfl
  have hlist : at0 0 ((List.range 16).map (fun n => rd s (E.hap_ENABLE n))) n = 0 := by
    rw [at0, List.getElem?_map, List.getElem?_range hn]
    exact hwas
  obtain ⟨hwaits, hidle, hhead, henabled⟩ := settledHaps_fresh (was := (List.range 16).map (fun n => rd s (E.hap_ENABLE n))) hn hlist
    (by rw [hland, rd_wr_same]) (by rw [pdOn, hkeep _ (by simp only [E.pd_STATE, E.hap_ENABLE]; omega)]; exact hon)
    ((hkeep _ (by simp only [E.hap_STATE, E.hap_ENABLE]; omega)).trans hoff)
  rw [hkeep _ (by simp only [E.hap_HEAD, E.hap_ENABLE]; omega), halone] at hhead
  obtain ⟨hstate, hcal, -, henable⟩ := scheduleCals_alone hn hwaits hidle hhead
  rw [landHap_eq]
  exact ⟨henable.trans henabled, hstate, hcal⟩

end Sys2Proof.Proofs
end

section
/-! O51: haptic triggers, stops and the internal haptic requests. -/

namespace Sys2Proof.Proofs

open Sys2Proof Sys2Proof.Machine Sys2Proof.Laws

theorem mayTrigger_iff {s : State} {c n w : Nat} : mayTrigger s c n w = true ↔ n < 16 ∧ w < 2 ^ 20 ∧ bitOf w 7 = false ∧
    hapRight s c n = true ∧ rd s (E.hap_ENABLE n) ≠ 0 ∧ rd s (E.hap_CAL_STATE n) ≠ 3 ∧
    ¬ (charmClass s c = 0 ∧ alarmClass (trigOf w).effect = true) := by
  simp [mayTrigger, and_assoc, imp_iff_not_or]

theorem power_of_hapPlays {s : State} {n : Nat} (hplays : hapPlays s n = true) : pdOn s 13 = true := by
  simp only [hapPlays, Bool.and_eq_true] at hplays
  exact hplays.2

section Asked

variable {s : State} {c : Nat} {q : Taken}

/-- A trigger that passes every check reaches the channel. -/
theorem hapTriggerReq_may (hmay : mayTrigger s c (argOf q 2) (argOf q 3) = true) (hon : pdOn s 13 = true) : hapTriggerReq s c q =
    ok (trigger s (argOf q 2) { trigOf (argOf q 3) with client := some c, notify := bitOf q.flags 0 }).1 c
      [(trigger s (argOf q 2) { trigOf (argOf q 3) with client := some c, notify := bitOf q.flags 0 }).2] := by
  obtain ⟨hn, hw, hbit, hright, henabled, hcal, hclass⟩ := mayTrigger_iff.mp hmay
  rw [hapTriggerReq]
  dsimp only
  rw [if_neg (by rw [hbit]; exact fun h => h.elim (by omega) fun h => h.elim (by omega) Bool.false_ne_true), if_neg (by rw [hright]; decide),
    if_neg henabled, if_neg hcal, if_neg hclass, withDomain_on _ _ hon]

theorem hapTriggerReq_bad (hbad : 16 ≤ argOf q 2 ∨ 2 ^ 20 ≤ argOf q 3 ∨ bitOf (argOf q 3) 7 = true) : hapTriggerReq s c q = fail s c 4 := by
  rw [hapTriggerReq]
  dsimp only
  rw [if_pos hbad]

/-- The checks of a well-formed trigger. -/
theorem hapTriggerReq_formed (hn : argOf q 2 < 16) (hw : argOf q 3 < 2 ^ 20) (hbit : bitOf (argOf q 3) 7 = false) :
    hapTriggerReq s c q = if ¬ hapRight s c (argOf q 2) then denied s c 0x05
      else if rd s (E.hap_ENABLE (argOf q 2)) = 0 then fail s c 0x0100
      else if rd s (E.hap_CAL_STATE (argOf q 2)) = 3 then fail s c 0x0101
      else if charmClass s c = 0 ∧ alarmClass (trigOf (argOf q 3)).effect then fail s c 0x0102
      else withDomain s c 13 (ok (trigger s (argOf q 2) { trigOf (argOf q 3) with client := some c, notify := bitOf q.flags 0 }).1 c
        [(trigger s (argOf q 2) { trigOf (argOf q 3) with client := some c, notify := bitOf q.flags 0 }).2]) := by
  rw [hapTriggerReq]
  dsimp only
  rw [if_neg (by rw [hbit]; exact fun h => h.elim (by omega) fun h => h.elim (by omega) Bool.false_ne_true)]

theorem hapStopReq_bad (hn : 16 ≤ argOf q 2) : hapStopReq s c q = fail s c 4 := by
  rw [hapStopReq]
  rw [if_pos hn]

theorem hapStopReq_noRight (hn : argOf q 2 < 16) (hright : hapRight s c (argOf q 2) = false) : hapStopReq s c q = denied s c 0x05 := by
  rw [hapStopReq]
  rw [if_neg (by omega), if_pos (by rw [hright]; decide)]

/-- Whether a channel plays an effect of the alarm class. -/
def playsAlarm (s : State) (n : Nat) : Bool := ((hapOf s n).cur.map (fun x => alarmClass x.effect)).getD false

/-- The checks of a stop by a client that has the right to the channel. -/
theorem hapStopReq_right (hn : argOf q 2 < 16) (hright : hapRight s c (argOf q 2) = true) (henabled : rd s (E.hap_ENABLE (argOf q 2)) ≠ 0) :
    hapStopReq s c q = if charmClass s c = 0 ∧ playsAlarm s (argOf q 2) = true then fail s c 0x0102
      else withDomain s c 13 (ok (hapStop s (argOf q 2)) c []) := by
  rw [hapStopReq, if_neg (by omega), if_neg (by rw [hright]; decide), if_neg henabled, playsAlarm]
  cases (hapOf s (argOf q 2)).cur with
  | none => rfl
  | some r => rfl

end Asked

theorem hapOf_ok (s : State) (c : Nat) (data : List Nat) (n : Nat) : hapOf (ok s c data) n = hapOf s n :=
  hapOf_congr ((ok_kept_clasp s c data).parts .hap (by decide)) n

theorem rd_raise_hap (s : State) (e : Ev) (args : List Int) {k : Nat} (hk : 0x4C0000 ≤ k) : rd (raise s e args) k = rd s k :=
  raise_entries s e args k (fun h => by
    have hkey := List.mem_singleton.mp h
    simp only [E.pwr_EVENTS_DROPPED] at hkey
    omega)

theorem hapOf_raise (s : State) (e : Ev) (args : List Int) (n : Nat) : hapOf (raise s e args) n = hapOf s n :=
  hapOf_congr ((raise_kept_events s e args).parts .hap (by decide)) n

/-- What an effect that starts leaves while PD2 is on. -/
theorem startEffect_leaves {s : State} {n : Nat} (t : Trig) (moving : Bool) (hon : pdOn s 2 = true) :
    rd (startEffect s n t moving) (E.hap_STATE n) = 3 ∧ rd (startEffect s n t moving) (E.hap_EFFECTS n) = satInc (rd s (E.hap_EFFECTS n)) 1 ∧
      entriesKept [E.hap_STATE n, E.hap_EFFECTS n] s (startEffect s n t moving) ∧ (hapOf (startEffect s n t moving) n).cur = some t ∧
      (hapOf (startEffect s n t moving) n).left = t.rep ∧ (hapOf (startEffect s n t moving) n).drive.mode = 1 ∧
      (hapOf (startEffect s n t moving) n).drive.duty = 65025 * rd s (E.hap_DRIVE_MAX n) ∧
      (hapOf (startEffect s n t moving) n).drive.freq = at0 0 (effectFields t.effect) 3 * rd s (E.hap_F0 n) ∧
      (startEffect s n t moving).out = .event false .hapStart [(n : Int), (t.effect : Int)] :: s.out ∧
      (startEffect s n t moving).clasp = s.clasp := by
  have hpower := (pdOn_effectStarted s n t moving 2).trans hon
  have hkept := effectStarted_kept s n t moving
  have hraised : ∀ k, rd (startEffect s n t moving) k = rd (effectStarted s n t moving) k := fun k => by
    rw [startEffect_eq, rd_congr (raise_od_on hpower _ _)]
  have hrec : hapOf (startEffect s n t moving) n = hapOf (effectStarted s n t moving) n := hapOf_raise _ _ _ _
  have hout : (startEffect s n t moving).out = .event false .hapStart [(n : Int), (t.effect : Int)] :: s.out := by
    rw [startEffect_eq, raise_out_on _ _ _ hpower, hkept.parts .out (by decide)]
  have hclasp : (startEffect s n t moving).clasp = s.clasp := by
    rw [startEffect_eq, (raise_kept_events _ _ _).parts .clasp (by decide), hkept.parts .clasp (by decide)]
  obtain ⟨hcur, hleft, hmode, hduty, hfreq⟩ := hapOf_effectStarted s n t moving
  rw [hraised, hraised, hrec]
  refine ⟨rd_effectStarted_state .., rd_effectStarted_effects .., fun k hk => ?_, hcur, hleft, hmode, hduty, hfreq, hout, hclasp⟩
  rw [hraised]
  exact rd_effectStarted_ne s t moving (fun h => hk (by simp [h])) (fun h => hk (by simp [h]))

/-- What the cut leaves once the trigger is latched. -/
theorem hapCut_latched {s : State} {n : Nat} (t : Trig) (hlatch : (hapOf s n).latch = none) :
    latchTrig (hapCut s n) n t = (setLatch (hapCut s n) n (some t), 1) ∧ rd (setLatch (hapCut s n) n (some t)) (E.hap_STATE n) = 5 ∧
      rd (setLatch (hapCut s n) n (some t)) (E.hap_CUTS n) = satInc (rd s (E.hap_CUTS n)) 1 ∧
      (hapOf (setLatch (hapCut s n) n (some t)) n).left = 0 ∧ (setLatch (hapCut s n) n (some t)).clasp = s.clasp := by
  obtain ⟨hleft, hkept⟩ := hapOf_toBraking s n
  have hrec : hapOf (hapCut s n) n = hapOf (toBraking s n) n := hapOf_raise _ _ _ _
  have hcuts : E.hap_CUTS n ≠ E.hap_STATE n ∧ E.hap_CUTS n ≠ E.hap_FLAGS n := by simp only [E.hap_CUTS, E.hap_STATE, E.hap_FLAGS]; omega
  have hstate : E.hap_STATE n ≠ E.hap_FLAGS n ∧ E.hap_STATE n ≠ E.hap_CUTS n := by simp only [E.hap_CUTS, E.hap_STATE, E.hap_FLAGS]; omega
  refine ⟨latchTrig_empty t (by rw [hrec, hkept, hlatch]), ?_, ?_, ?_, ?_⟩
  · rw [rd_setLatch_ne _ _ hstate.1, hapCut, rd_raise_hap _ _ _ (by simp only [E.hap_STATE]; omega), rd_bump_ne _ hstate.2, rd_toBraking_same]
  · rw [rd_setLatch_ne _ _ hcuts.2, hapCut, rd_raise_hap _ _ _ (by simp only [E.hap_CUTS]; omega), rd_bump_same, rd_toBraking_ne _ hcuts.1]
  · rw [hapOf_setLatch, hrec]
    exact hleft
  · have hlatched : ∀ u : State, (setLatch u n (some t)).clasp = u.clasp := fun _ => rfl
    have hbumped : ∀ u : State, (bump u (E.hap_CUTS n)).clasp = u.clasp := fun _ => rfl
    rw [hlatched, hapCut, (raise_kept_events _ _ _).parts .clasp (by decide), hbumped, (toBraking_kept_hap s n).parts .clasp (by decide)]

theorem bitsOf_two_pow : ∀ n < 16, bitsOf 16 (2 ^ n) = [n] := by decide

/-- What asking one channel of no head to calibrate leaves, with no other that waits. -/
theorem askCalibration_alone {s : State} {n : Nat} (hn : n < 16) (henabled : rd s (E.hap_ENABLE n) = 1) (hidle : rd s (E.hap_STATE n) = 2)
    (halone : rd s (E.hap_HEAD n) = 0xFF) : rd (askCalibration s n) (E.hap_STATE n) = 1 ∧ rd (askCalibration s n) (E.hap_CAL_STATE n) = 1 ∧
      (hapOf (askCalibration s n) n).prevCal = rd s (E.hap_CAL_STATE n) ∧ (askCalibration s n).clasp = s.clasp := by
  have hasked : askCalibration s n = scheduleCals (setHap s n { hapOf s n with calWait := true }) := if_pos henabled
  obtain ⟨hstate, hcal, hprev, -⟩ := scheduleCals_alone (s := setHap s n { hapOf s n with calWait := true }) hn (by rw [hapOf_setHap])
    hidle halone
  rw [hasked]
  exact ⟨hstate, hcal, hprev, (scheduleCals_kept_hap _).parts .clasp (by decide)⟩

/-- A channel that plays keeps the request for its calibration. -/
theorem askCalibration_playing {s : State} {n : Nat} (henabled : rd s (E.hap_ENABLE n) = 1) (hplays : 3 ≤ hapState s n)
    (hnone : ∀ k, k < 16 → (hapOf s k).calWait = false) : askCalibration s n = setHap s n { hapOf s n with calWait := true } := by
  rw [askCalibration, if_pos henabled]
  refine scheduleCals_none fun k hk ⟨hwaits, hidle⟩ => ?_
  by_cases h : k = n
  · rw [h, hapState, rd_setHap] at hidle
    exact absurd hidle (by rw [hapState] at hplays; omega)
  · rw [hapOf_setHap_ne _ _ _ h, hnone k hk] at hwaits
    exact Bool.false_ne_true hwaits

/-- An applied configuration is in force when it is answered. -/
theorem iclServe_applies {s : State} {q : Taken} (hasks : iclAsks s 6 0xF004 q = true) (hlen : q.len = 0) :
    iclServe s 6 0xF004 (· == 0) (fun _ => (landHap s (fun _ => true), {})) = iclComplete (landHap s (fun _ => true)) 6 {} := by
  rw [iclServe_asked _ hasks (by rw [hlen]; rfl)]

/-- Settles O51: what a start, a cut, a stop and a calibration leave of their channel, and that a pass over the channels leaves of each
what it does there alone. -/
theorem hapticTriggersAndStops : Obligations.HapticTriggersAndStops := by
  unfold Obligations.HapticTriggersAndStops
  refine ⟨⟨?start, ?cut, ?bad, ?noRight, ?off, ?failed⟩, ⟨?stop, ?stopBad, ?stopNoRight, ?stopAlarm⟩, ⟨?query, ?queryBad⟩,
    ⟨?iclTrigger, ?iclStart, ?iclTriggerIdle, ?iclTriggerLength⟩, ⟨?iclCal, ?iclCalOff, ?iclCalPlays, ?iclCalLength⟩,
    ⟨?iclStop, ?iclStopRests, ?iclStopLength⟩, ?iclApply, ?iclEnable, ?iclApplyLength⟩
  case start =>
    intro s c q hasks hmay hplays hidle hcal hon
    obtain ⟨htaken, -⟩ := asksF_iff.mp hasks
    obtain ⟨hstate, heffects, hentries, hcur, hleft, hmode, hduty, hfreq, hout, hclasp⟩ := startEffect_leaves (n := argOf q 2)
      { trigOf (argOf q 3) with client := some c.val, notify := bitOf q.flags 0 } false hon
    rw [exec_hapticTrigger, execHapticTrigger, serveF_asked _ hasks rfl, hapTriggerReq_may hmay (power_of_hapPlays hplays),
      trigger_idle _ hplays hidle hcal]
    dsimp only
    generalize startEffect s (argOf q 2) { trigOf (argOf q 3) with client := some c.val, notify := bitOf q.flags 0 } false = u at *
    have hrec := hapOf_ok u c.val [0] (argOf q 2)
    refine ⟨_, rfl, (rd_ok ..).trans hstate, (rd_ok ..).trans heffects, fun k hk => (rd_ok ..).trans (hentries k hk), ?_, ?_, ?_, ?_, ?_,
      ((ok_kept_clasp u c.val [0]).parts .out (by decide)).trans hout, taken_ok (by rw [claspOf_congr hclasp, htaken]) [0]⟩
    · rw [hrec, hcur]
    · rw [hrec, hleft]
      rfl
    · rw [hrec, hmode]
    · rw [hrec, hduty]
    · rw [hrec, hfreq]
      rfl
  case cut =>
    intro s c q r hasks hmay hplays hruns hcur hrun hnew hlatch
    obtain ⟨htaken, -⟩ := asksF_iff.mp hasks
    have htrig := trigger_running (t := { trigOf (argOf q 3) with client := some c.val, notify := bitOf q.flags 0 }) hplays hruns hcur hrun hnew
    obtain ⟨hlatched, hstate, hcuts, hleft, hclasp⟩ := hapCut_latched (n := argOf q 2)
      { trigOf (argOf q 3) with client := some c.val, notify := bitOf q.flags 0 } hlatch
    rw [exec_hapticTrigger, execHapticTrigger, serveF_asked _ hasks rfl, hapTriggerReq_may hmay (power_of_hapPlays hplays), htrig, hlatched]
    refine ⟨_, rfl, (rd_ok ..).trans hstate, (rd_ok ..).trans hcuts, ?_, ?_, ?_, taken_ok (by rw [claspOf_congr hclasp, htaken]) [1]⟩
    · rw [hapOf_ok]
      exact hleft
    · rw [hapOf_ok, hapOf_setLatch]
    · rw [rd_ok, latchBit_setLatch]
      rfl
  case bad =>
    intro s c q hasks hbad
    rw [exec_hapticTrigger, execHapticTrigger, serveF_asked _ hasks rfl, hapTriggerReq_bad hbad]
  case noRight =>
    intro s c q hasks hn hw hbit hright
    rw [exec_hapticTrigger, execHapticTrigger, serveF_asked _ hasks rfl, hapTriggerReq_formed hn hw hbit, if_pos (by rw [hright]; decide)]
  case off =>
    intro s c q hasks hn hw hbit hright hoff
    rw [exec_hapticTrigger, execHapticTrigger, serveF_asked _ hasks rfl, hapTriggerReq_formed hn hw hbit, if_neg (by rw [hright]; decide),
      if_pos hoff]
  case failed =>
    intro s c q hasks hn hw hbit hright henabled hfailed
    rw [exec_hapticTrigger, execHapticTrigger, serveF_asked _ hasks rfl, hapTriggerReq_formed hn hw hbit, if_neg (by rw [hright]; decide),
      if_neg henabled, if_pos hfailed]
  case stop =>
    intro s c q hasks hn hright henabled hclass hon hplays
    obtain ⟨htaken, -⟩ := asks_iff.mp hasks
    obtain ⟨hstate, hleft, hlatch, hbit⟩ := hapStop_leaves hplays
    obtain ⟨hkept, -⟩ := hapStop_requests s (argOf q 2) c.val
    rw [exec_hapticStop, execHapticStop, serve_asked _ hasks rfl, hapStopReq_right hn hright henabled, if_neg (fun h => hclass h.1),
      withDomain_on _ _ hon]
    refine ⟨_, rfl, (rd_ok ..).trans hstate, ?_, ?_, ?_, taken_ok (hkept.trans htaken) []⟩
    · rw [hapOf_ok]
      exact hleft
    · rw [hapOf_ok]
      exact hlatch
    · rw [rd_ok]
      exact hbit
  case stopBad =>
    intro s c q hasks hn
    rw [exec_hapticStop, execHapticStop, serve_asked _ hasks rfl, hapStopReq_bad hn]
  case stopNoRight =>
    intro s c q hasks hn hright
    rw [exec_hapticStop, execHapticStop, serve_asked _ hasks rfl, hapStopReq_noRight hn hright]
  case stopAlarm =>
    intro s c q r hasks hn hright henabled hclass hcur halarm
    rw [exec_hapticStop, execHapticStop, serve_asked _ hasks rfl, hapStopReq_right hn hright henabled,
      if_pos ⟨hclass, by rw [playsAlarm, hcur]; exact halarm⟩]
  case query =>
    intro s c q hasks hn hright
    rw [exec_hapticQuery, execHapticQuery, serve_asked _ hasks rfl, hapQueryReq]
    rw [if_neg (by omega), if_neg (by rw [hright]; decide)]
    rfl
  case queryBad =>
    intro s c q hasks hn
    rw [exec_hapticQuery, execHapticQuery, serve_asked _ hasks rfl, hapQueryReq]
    rw [if_pos hn]
  case iclTrigger =>
    intro s q hasks hlen
    exact congrArg Host.Outcome.next (iclServe_asked _ hasks (by rw [hlen]; rfl))
  case iclStart =>
    intro s q n hasks hlen hn hmask hplays hidle hcal
    obtain ⟨htaken, -⟩ := iclAsks_iff.mp hasks
    have hruns : triggerMask s (argOf q 2) (trigOf (argOf q 3)) = startEffect s n (trigOf (argOf q 3)) false := by
      rw [triggerMask, hmask, bitsOf_two_pow n hn, List.foldl_cons, List.foldl_nil, trigger_idle _ hplays hidle hcal]
    have hclasp : (startEffect s n (trigOf (argOf q 3)) false).clasp = s.clasp := by
      rw [startEffect_eq, (raise_kept_events _ _ _).parts .clasp (by decide), (effectStarted_kept ..).parts .clasp (by decide)]
    obtain ⟨hcur, -⟩ := hapOf_effectStarted s n (trigOf (argOf q 3)) false
    refine ⟨_, congrArg Host.Outcome.next ((iclServe_asked _ hasks (by rw [hlen]; rfl)).trans
      (congrArg (fun u => iclComplete u 6 {}) hruns)), iclDone_iclComplete _ htaken hclasp, ?_, ?_⟩
    · rw [rd_iclComplete, startEffect_eq, rd_raise_hap _ _ _ (by simp only [E.hap_STATE]; omega), rd_effectStarted_state]
    · rw [hapOf_iclComplete, startEffect_eq, hapOf_raise, hcur]
  case iclTriggerIdle => exact fun s hidle => congrArg Host.Outcome.next (iclServe_idle _ _ hidle)
  case iclTriggerLength =>
    exact fun s q hasks hlen => congrArg Host.Outcome.next (iclServe_badLength _ hasks (beq_eq_false_iff_ne.mpr hlen))
  case iclCal =>
    intro s q n hasks hlen hn hmask henabled hidle halone _
    obtain ⟨htaken, -⟩ := iclAsks_iff.mp hasks
    have hruns : (bitsOf 16 (argOf q 2)).foldl askCalibration s = askCalibration s n := by rw [hmask, bitsOf_two_pow n hn]; rfl
    obtain ⟨hstate, hcal, hprev, hclasp⟩ := askCalibration_alone hn henabled hidle halone
    refine ⟨_, congrArg Host.Outcome.next ((iclServe_asked _ hasks (by rw [hlen]; rfl)).trans
      (congrArg (fun u => iclComplete u 6 {}) hruns)), iclDone_iclComplete _ htaken hclasp, (rd_iclComplete ..).trans hstate,
      (rd_iclComplete ..).trans hcal, ?_⟩
    rw [hapOf_iclComplete, hprev]
  case iclCalOff =>
    intro s q n hasks hlen hn hmask hoff
    have hruns : (bitsOf 16 (argOf q 2)).foldl askCalibration s = s := by
      rw [hmask, bitsOf_two_pow n hn]
      exact if_neg hoff
    exact congrArg Host.Outcome.next ((iclServe_asked _ hasks (by rw [hlen]; rfl)).trans (congrArg (fun u => iclComplete u 6 {}) hruns))
  case iclCalPlays =>
    intro s q n hasks hlen hn hmask henabled hplays hnone
    obtain ⟨htaken, -⟩ := iclAsks_iff.mp hasks
    have hruns : (bitsOf 16 (argOf q 2)).foldl askCalibration s = setHap s n { hapOf s n with calWait := true } := by
      rw [hmask, bitsOf_two_pow n hn]
      exact askCalibration_playing henabled hplays hnone
    refine ⟨_, congrArg Host.Outcome.next ((iclServe_asked _ hasks (by rw [hlen]; rfl)).trans
      (congrArg (fun u => iclComplete u 6 {}) hruns)), iclDone_iclComplete _ htaken rfl, iclComplete_od _ _ _, ?_⟩
    rw [hapOf_iclComplete, hapOf_setHap]
  case iclCalLength =>
    exact fun s q hasks hlen => congrArg Host.Outcome.next (iclServe_badLength _ hasks (beq_eq_false_iff_ne.mpr hlen))
  case iclStop =>
    intro s q n hasks hlen hn hmask hplays
    obtain ⟨htaken, -⟩ := iclAsks_iff.mp hasks
    have hruns : (bitsOf 16 (argOf q 2)).foldl hapStop s = hapStop s n := by rw [hmask, bitsOf_two_pow n hn]; rfl
    obtain ⟨hstate, hleft, hlatch, hbit⟩ := hapStop_leaves hplays
    refine ⟨_, congrArg Host.Outcome.next ((iclServe_asked _ hasks (by rw [hlen]; rfl)).trans
      (congrArg (fun u => iclComplete u 6 {}) hruns)), iclDone_iclComplete_of_icl _ htaken (fun m => (hapStop_requests s n m).2),
      (rd_iclComplete ..).trans hstate, ?_⟩
    rw [hapOf_iclComplete, rd_iclComplete]
    exact ⟨hleft, hlatch, hbit⟩
  case iclStopRests =>
    intro s q n hasks hlen hn hmask hrests
    obtain ⟨htaken, -⟩ := iclAsks_iff.mp hasks
    have hruns : (bitsOf 16 (argOf q 2)).foldl hapStop s = hapStop s n := by rw [hmask, bitsOf_two_pow n hn]; rfl
    refine ⟨_, congrArg Host.Outcome.next ((iclServe_asked _ hasks (by rw [hlen]; rfl)).trans
      (congrArg (fun u => iclComplete u 6 {}) hruns)), iclDone_iclComplete_of_icl _ htaken (fun m => (hapStop_requests s n m).2), ?_, ?_⟩
    · rw [rd_iclComplete, hapStop_resting hrests, rd_notifyTrig, rd_setLatch_ne]
      simp only [E.hap_STATE, E.hap_FLAGS]
      omega
    · rw [hapOf_iclComplete, hapStop_resting hrests, hapOf_notifyTrig, hapOf_setLatch]
  case iclStopLength =>
    exact fun s q hasks hlen => congrArg Host.Outcome.next (iclServe_badLength _ hasks (beq_eq_false_iff_ne.mpr hlen))
  case iclApply =>
    intro s q hasks hlen
    obtain ⟨htaken, -⟩ := iclAsks_iff.mp hasks
    obtain ⟨happlied, hicl⟩ := landHap_requests s
    refine ⟨_, congrArg Host.Outcome.next (iclServe_applies hasks hlen), iclDone_iclComplete_of_icl _ htaken hicl, ?_⟩
    rw [(iclComplete_kept_clasp _ _ _).parts .dict (by decide)]
    exact happlied
  case iclEnable =>
    intro s q n hasks hlen hn hone hwas hoff halone hon
    obtain ⟨henabled, hstate, hcal⟩ := landHap_enables hn hone hwas hoff halone hon
    exact ⟨_, congrArg Host.Outcome.next (iclServe_applies hasks hlen), (rd_iclComplete ..).trans henabled,
      (rd_iclComplete ..).trans hstate, (rd_iclComplete ..).trans hcal⟩
  case iclApplyLength =>
    exact fun s q hasks hlen => congrArg Host.Outcome.next (iclServe_badLength _ hasks (beq_eq_false_iff_ne.mpr hlen))

end Sys2Proof.Proofs
end

section
/-! SUPPORT. The phases of a haptic play (R297-R302) and the end of a calibration (R305). -/

namespace Sys2Proof.Proofs

open Sys2Proof Sys2Proof.Machine Sys2Proof.Laws

/-! ### A channel with nothing to play (R303, R305) -/

/-- A channel that does not wait for a calibration stays as it is while the others start theirs. -/
theorem scheduleCals_still {s : State} {n : Nat} (hstill : (hapOf s n).calWait = false) : OtherHap n s (scheduleCals s) := by
  have hrest : ∀ (l : List Nat) (t : State), OtherHap n s t → OtherHap n s (l.foldl startCal t) := by
    intro l
    induction l with
    | nil => exact fun t h => h
    | cons k l ih =>
      intro t h
      refine ih _ ?_
      by_cases hk : k = n
      · have hstays : startCal t k = t := if_neg fun hstarts => by
          rw [hk, h.chan, hstill] at hstarts
          exact Bool.false_ne_true hstarts.1
        rw [hstays]
        exact h
      · exact h.trans (OtherHap.startCal hk t)
  exact hrest _ s (OtherHap.refl n s)

theorem scheduleCals_out (s : State) : (scheduleCals s).out = s.out := (scheduleCals_kept_hap s).parts .out (by decide)

/-- A channel whose effect has ended, before what comes next. -/
def effectEnded (s : State) (n : Nat) : State := setHapState (setHap s n { hapOf s n with cur := none, left := 0, cut := false }) n 2

theorem rd_effectEnded_state (s : State) (n : Nat) : rd (effectEnded s n) (E.hap_STATE n) = 2 := rd_setHapState_same _ _ _

theorem rd_effectEnded_ne (s : State) {n k : Nat} (h : k ≠ E.hap_STATE n) : rd (effectEnded s n) k = rd s k := by
  rw [effectEnded, rd_setHapState_ne _ _ h, rd_setHap]

theorem hapOf_effectEnded (s : State) (n : Nat) : (hapOf (effectEnded s n) n).cur = none ∧
    (hapOf (effectEnded s n) n).latch = (hapOf s n).latch ∧ (hapOf (effectEnded s n) n).calWait = (hapOf s n).calWait := by
  rw [effectEnded, hapOf_setHapState, hapOf_setHap]
  exact ⟨rfl, rfl, rfl⟩

theorem effectEnded_kept (s : State) (n : Nat) : Kept [.free, .od, .hap] s (effectEnded s n) := by
  have := @May.head
  have := @May.tail
  exact setHapState_kept (setHap_kept (Kept.refl _ s) n _) n 2

theorem nextOnChannel_unlatched {s : State} {n : Nat} (hlatch : (hapOf s n).latch = none) :
    nextOnChannel s n = scheduleCals (effectEnded s n) := by
  simp only [nextOnChannel, hlatch, effectEnded]

theorem nextOnChannel_latched {s : State} {n : Nat} {l : Trig} (hlatch : (hapOf s n).latch = some l)
    (hplays : hapPlays (effectEnded s n) n = true) : nextOnChannel s n = startEffect (setLatch (effectEnded s n) n none) n l false := by
  simp only [effectEnded, hlatch] at hplays
  simp only [nextOnChannel, hlatch, hplays, if_true, effectEnded]

theorem hapPlays_congr {s t : State} {n : Nat} (henable : rd t (E.hap_ENABLE n) = rd s (E.hap_ENABLE n))
    (hcal : rd t (E.hap_CAL_STATE n) = rd s (E.hap_CAL_STATE n)) (hpower : rd t (E.pd_STATE 13) = rd s (E.pd_STATE 13)) :
    hapPlays t n = hapPlays s n := by
  rw [hapPlays, hapPlays, pdOn, pdOn, henable, hcal, hpower]

/-! ### The end of a calibration (R305) -/

/-- What was measured, in its entries. -/
def calMeasured (s : State) (n : Nat) (r : List Nat) : State :=
  wr (wr (wr s (E.hap_F0 n) (at0 0 r 1)) (E.hap_Q n) (at0 0 r 2)) (E.hap_R_CAL n) (at0 0 r 3)

/-- The calibration judged: passed, or failed with its lasting condition. -/
def calJudged (s : State) (n : Nat) (r : List Nat) : State :=
  if calPasses s n r then raise (wrBit (wr (calMeasured s n r) (E.hap_CAL_STATE n) 2) (E.hap_FLAGS n) 0 false) .calDone [n]
  else lastingEmcy (raise (wr (calMeasured s n r) (E.hap_CAL_STATE n) 3) .calFail [n]) 0x5040 n (at0 0 r 1 % 65536)

theorem calibrationEnd_judged {s : State} {n : Nat} (r : List Nat) (hsweeps : hapState s n = 1) :
    calibrationEnd s n r = scheduleCals (nextOnChannel (calJudged s n r) n) := by
  have hpass : (decide (100 ≤ at0 0 r 0) && decide (850 ≤ at0 0 r 1) && decide (at0 0 r 1 ≤ 3150) && decide (100 ≤ at0 0 r 2) &&
      decide (at0 0 r 2 ≤ 10000) && !bitOf (rd s (E.hap_FLAGS n)) 1) = calPasses s n r := by
    simp only [calPasses, Bool.decide_and, Bool.and_assoc]
  rw [calibrationEnd, if_neg (by rw [hsweeps]; decide)]
  dsimp only
  rw [hpass, calJudged]
  rfl

theorem rd_calMeasured_ne (s : State) {n : Nat} (r : List Nat) {k : Nat} (hf0 : k ≠ E.hap_F0 n) (hq : k ≠ E.hap_Q n)
    (hr : k ≠ E.hap_R_CAL n) : rd (calMeasured s n r) k = rd s k := by
  rw [calMeasured, rd_wr_ne _ _ hr, rd_wr_ne _ _ hq, rd_wr_ne _ _ hf0]

/-- The measured entries. -/
theorem rd_calMeasured (s : State) (n : Nat) (r : List Nat) : rd (calMeasured s n r) (E.hap_F0 n) = at0 0 r 1 ∧
    rd (calMeasured s n r) (E.hap_Q n) = at0 0 r 2 ∧ rd (calMeasured s n r) (E.hap_R_CAL n) = at0 0 r 3 := by
  have hkeys : E.hap_F0 n ≠ E.hap_R_CAL n ∧ E.hap_F0 n ≠ E.hap_Q n ∧ E.hap_Q n ≠ E.hap_R_CAL n := by
    simp only [E.hap_F0, E.hap_Q, E.hap_R_CAL]
    omega
  obtain ⟨hfr, hfq, hqr⟩ := hkeys
  refine ⟨?_, ?_, rd_wr_same _ _ _⟩
  · rw [calMeasured, rd_wr_ne _ _ hfr, rd_wr_ne _ _ hfq, rd_wr_same]
  · rw [calMeasured, rd_wr_ne _ _ hqr, rd_wr_same]

/-- What the judgement leaves. -/
theorem calJudged_leaves {s : State} (n : Nat) (r : List Nat) (hon : pdOn s 2 = true) : hapOf (calJudged s n r) n = hapOf s n ∧
    rd (calJudged s n r) (E.hap_F0 n) = at0 0 r 1 ∧ rd (calJudged s n r) (E.hap_Q n) = at0 0 r 2 ∧
    rd (calJudged s n r) (E.hap_R_CAL n) = at0 0 r 3 ∧ rd (calJudged s n r) (E.hap_CAL_STATE n) = (if calPasses s n r then 2 else 3) ∧
    .event false (if calPasses s n r then .calDone else .calFail) [(n : Int)] ∈ (calJudged s n r).out ∧
    (calPasses s n r = true → bitOf (rd (calJudged s n r) (E.hap_FLAGS n)) 0 = false) := by
  obtain ⟨hf0, hq, hr⟩ := rd_calMeasured s n r
  have hkeys : E.hap_F0 n ≠ E.hap_CAL_STATE n ∧ E.hap_Q n ≠ E.hap_CAL_STATE n ∧ E.hap_R_CAL n ≠ E.hap_CAL_STATE n ∧
      E.hap_F0 n ≠ E.hap_FLAGS n ∧ E.hap_Q n ≠ E.hap_FLAGS n ∧ E.hap_R_CAL n ≠ E.hap_FLAGS n ∧ E.hap_CAL_STATE n ≠ E.hap_FLAGS n := by
    simp only [E.hap_F0, E.hap_Q, E.hap_R_CAL, E.hap_CAL_STATE, E.hap_FLAGS]
    omega
  obtain ⟨hfc, hqc, hrc, hff, hqf, hrf, hcf⟩ := hkeys
  have hpower : rd (calMeasured s n r) (E.pd_STATE 2) = rd s (E.pd_STATE 2) := by
    refine rd_calMeasured_ne s r ?_ ?_ ?_
    · simp only [E.pd_STATE, E.hap_F0]; omega
    · simp only [E.pd_STATE, E.hap_Q]; omega
    · simp only [E.pd_STATE, E.hap_R_CAL]; omega
  have hcalOff : E.pd_STATE 2 ≠ E.hap_CAL_STATE n := by simp only [E.pd_STATE, E.hap_CAL_STATE]; omega
  have hflagsOff : E.pd_STATE 2 ≠ E.hap_FLAGS n := by simp only [E.pd_STATE, E.hap_FLAGS]; omega
  cases hpass : calPasses s n r with
  | true =>
    have hjudged : calJudged s n r = raise (wrBit (wr (calMeasured s n r) (E.hap_CAL_STATE n) 2) (E.hap_FLAGS n) 0 false) .calDone [n] :=
      if_pos hpass
    have hraises : pdOn (wrBit (wr (calMeasured s n r) (E.hap_CAL_STATE n) 2) (E.hap_FLAGS n) 0 false) 2 = true := by
      rw [pdOn, wrBit, rd_wr_ne _ _ hflagsOff, rd_wr_ne _ _ hcalOff, hpower]
      exact hon
    have hrd : ∀ k, rd (calJudged s n r) k = rd (wrBit (wr (calMeasured s n r) (E.hap_CAL_STATE n) 2) (E.hap_FLAGS n) 0 false) k := fun k => by
      rw [hjudged, rd_congr (raise_od_on hraises _ _)]
    refine ⟨?_, ?_, ?_, ?_, ?_, ?_, fun _ => ?_⟩
    · rw [hjudged, hapOf_raise]
      rfl
    · rw [hrd, wrBit, rd_wr_ne _ _ hff, rd_wr_ne _ _ hfc, hf0]
    · rw [hrd, wrBit, rd_wr_ne _ _ hqf, rd_wr_ne _ _ hqc, hq]
    · rw [hrd, wrBit, rd_wr_ne _ _ hrf, rd_wr_ne _ _ hrc, hr]
    · rw [hrd, wrBit, rd_wr_ne _ _ hcf, rd_wr_same]
      rfl
    · rw [hjudged, raise_out_on _ _ _ hraises]
      exact List.mem_cons_self
    · rw [hrd, wrBit, rd_wr_same, bitOf_setBit_same]
  | false =>
    have hjudged : calJudged s n r = lastingEmcy (raise (wr (calMeasured s n r) (E.hap_CAL_STATE n) 3) .calFail [n]) 0x5040 n
        (at0 0 r 1 % 65536) := if_neg (by rw [hpass]; exact Bool.false_ne_true)
    have hraises : pdOn (wr (calMeasured s n r) (E.hap_CAL_STATE n) 3) 2 = true := by
      rw [pdOn, rd_wr_ne _ _ hcalOff, hpower]
      exact hon
    have hrd : ∀ k, 0x4C0000 ≤ k → rd (calJudged s n r) k = rd (wr (calMeasured s n r) (E.hap_CAL_STATE n) 3) k := fun k hk => by
      rw [hjudged, lastingEmcy_entries _ _ _ _ k (notMem_two.mpr ?_), rd_congr (raise_od_on hraises _ _)]
      simp only [E.comm_EMCY_DROPPED, E.err_ERROR_REGISTER]
      omega
    have hrange : 0x4C0000 ≤ E.hap_F0 n ∧ 0x4C0000 ≤ E.hap_Q n ∧ 0x4C0000 ≤ E.hap_R_CAL n ∧ 0x4C0000 ≤ E.hap_CAL_STATE n := by
      simp only [E.hap_F0, E.hap_Q, E.hap_R_CAL, E.hap_CAL_STATE]
      omega
    refine ⟨?_, ?_, ?_, ?_, ?_, ?_, fun h => absurd h Bool.false_ne_true⟩
    · rw [hjudged, hapOf_congr ((lastingEmcy_kept_field _ _ _ _).parts .hap (by decide)), hapOf_raise]
      rfl
    · rw [hrd _ hrange.1, rd_wr_ne _ _ hfc, hf0]
    · rw [hrd _ hrange.2.1, rd_wr_ne _ _ hqc, hq]
    · rw [hrd _ hrange.2.2.1, rd_wr_ne _ _ hrc, hr]
    · rw [hrd _ hrange.2.2.2, rd_wr_same]
      rfl
    · rw [hjudged, lastingEmcy_out, raise_out_on _ _ _ hraises]
      exact List.mem_cons_self

/-! ### The drive of a sustain (R299, R300) -/

/-- A sustain is driven within a tenth of its effect's frequency, and at it where nothing tracks. -/
theorem driveOf_sustain {s : State} {n : Nat} {r : Trig} (hcur : (hapOf s n).cur = some r) (hcut : (hapOf s n).cut = false) :
    (driveOf s n 4).mode = 2 ∧ 9 * effectFreq s n r ≤ 10 * (driveOf s n 4).freq ∧ 10 * (driveOf s n 4).freq ≤ 11 * effectFreq s n r ∧
      ((at0 0 (effectFields r.effect) 4 ≠ 1 ∨ accLost s n = true) → (driveOf s n 4).freq = effectFreq s n r) := by
  have hplay : driveOf s n 4 = playDrive s n 4 r (hapOf s n).drive := by
    rw [driveOf, hcut, hcur]
    rfl
  have hmode : (playDrive s n 4 r (hapOf s n).drive).mode = 2 := rfl
  have hfreq : (playDrive s n 4 r (hapOf s n).drive).freq = if at0 0 (effectFields r.effect) 4 = 1 ∧ ¬ accLost s n = true then
      effectFreq s n r - effectFreq s n r / 10 + freeVal s (effectFreq s n r / 10 * 2 + 1) else effectFreq s n r := rfl
  have hfree : freeVal s (effectFreq s n r / 10 * 2 + 1) < effectFreq s n r / 10 * 2 + 1 := Nat.mod_lt _ (Nat.succ_pos _)
  rw [hplay, hmode, hfreq]
  by_cases htracks : at0 0 (effectFields r.effect) 4 = 1 ∧ ¬ accLost s n = true
  · rw [if_pos htracks]
    refine ⟨rfl, by omega, by omega, fun h => absurd htracks ?_⟩
    exact fun ⟨h1, h2⟩ => h.elim (fun h => h h1) h2
  · rw [if_neg htracks]
    exact ⟨rfl, by omega, by omega, fun _ => rfl⟩

end Sys2Proof.Proofs
end

section
/-! O52: the phases of a haptic play. -/

namespace Sys2Proof.Proofs

open Sys2Proof Sys2Proof.Machine Sys2Proof.Laws

theorem hapSees_own {n k : Nat} (hlow : 0x4C0000 + 0x400 * n ≤ k) (hhigh : k < 0x4C0400 + 0x400 * n) : hapSees n k := .inl ⟨hlow, hhigh⟩

theorem setEvent_out_mem {s : State} {e : Out} (c bit : Nat) (he : e ∈ s.out) : e ∈ (setEvent s c bit).out := by
  have hirq : ∀ u : State, e ∈ u.out → e ∈ (claspIrq u c).out := fun u hu => by
    rw [claspIrq]
    split
    · exact hu
    · split
      · rw [msixSend]
        split
        · exact hu
        · exact List.mem_cons_of_mem _ hu
      · exact hu
  rw [setEvent]
  split
  · exact he
  · dsimp only
    split
    · exact hirq _ he
    · exact he

theorem notifyTrig_out_mem {s : State} {e : Out} (t : Option Trig) (he : e ∈ s.out) : e ∈ (notifyTrig s t).out := by
  unfold notifyTrig
  split
  · exact he
  · split
    · split
      · exact setEvent_out_mem _ _ he
      · exact he
    · exact he

/-- The last play of an effect ends: its event, its client's doorbell, and the channel. -/
def effectDone (s : State) (n : Nat) (r : Trig) : State := notifyTrig (raise s .hapDone [n, r.effect]) (some r)

section Braking

variable {s : State} {n : Nat} {r : Trig} (hbrakes : hapState s n = 5)
include hbrakes

theorem brakingEnd_again (hacc : accLost s n = false) (hleft : 0 < (hapOf s n).left) (hcur : (hapOf s n).cur = some r)
    (hgap : effectGap r.effect = 0) : brakingEnd s n .belowThreshold =
      setHapState (setHap s n { hapOf s n with left := (hapOf s n).left - 1, cut := false }) n 3 := by
  rw [brakingEnd, if_neg (by simp [hbrakes, hacc])]
  dsimp only
  rw [if_pos hleft]
  simp only [hcur, hgap, if_true]
  exact nofun

theorem brakingEnd_gap (hacc : accLost s n = false) (hleft : 0 < (hapOf s n).left) (hcur : (hapOf s n).cur = some r)
    (hgap : effectGap r.effect ≠ 0) : brakingEnd s n .belowThreshold = setHapState s n 6 := by
  rw [brakingEnd, if_neg (by simp [hbrakes, hacc])]
  dsimp only
  rw [if_pos hleft]
  simp only [hcur, hgap, if_false]
  exact nofun

theorem brakingEnd_done (hacc : accLost s n = false) (hleft : (hapOf s n).left = 0) (hcur : (hapOf s n).cur = some r) :
    brakingEnd s n .belowThreshold = nextOnChannel (effectDone s n r) n := by
  rw [brakingEnd, if_neg (by simp [hbrakes, hacc])]
  dsimp only
  rw [if_neg (by omega)]
  simp only [hcur, effectDone]
  exact nofun

theorem brakingEnd_limit (hleft : (hapOf s n).left = 0) (hcur : (hapOf s n).cur = some r) :
    brakingEnd s n .limit = nextOnChannel (effectDone (bump s (E.hap_BRAKE_TIMEOUTS n)) n r) n := by
  have hcur' : (hapOf (bump s (E.hap_BRAKE_TIMEOUTS n)) n).cur = some r := hcur
  have hleft' : ¬ 0 < (hapOf (bump s (E.hap_BRAKE_TIMEOUTS n)) n).left := fun h => absurd hleft (Nat.ne_of_gt h)
  rw [brakingEnd, if_neg (by simp [hbrakes])]
  dsimp only
  rw [if_neg hleft']
  simp only [hcur', effectDone]

end Braking

theorem brakingEnd_stays {s : State} {n : Nat} {w : BrakeEnd} (h : hapState s n ≠ 5 ∨ (w = .cycles ∧ accLost s n = false) ∨
    (w = .belowThreshold ∧ accLost s n = true)) : brakingEnd s n w = s :=
  if_pos (h.imp_right fun h => h.imp_left fun ⟨hw, hacc⟩ => ⟨hw, by rw [hacc]; exact Bool.false_ne_true⟩)

/-- What the end of an effect leaves of the channel and of what is sent. -/
theorem effectDone_leaves (s : State) (n : Nat) (r : Trig) : hapOf (effectDone s n r) n = hapOf s n ∧
    (∀ k, hapOf (effectDone s n r) k = hapOf s k) ∧ ∀ k, k ≠ E.pwr_EVENTS_DROPPED → rd (effectDone s n r) k = rd s k := by
  have hrec : ∀ k, hapOf (effectDone s n r) k = hapOf s k := fun k => by rw [effectDone, hapOf_notifyTrig, hapOf_raise]
  refine ⟨hrec n, hrec, fun k hk => ?_⟩
  rw [effectDone, rd_notifyTrig]
  exact raise_entries s _ _ k (fun h => hk (List.mem_singleton.mp h))

theorem effectDone_sent {s : State} (n : Nat) (r : Trig) (hon : pdOn s 2 = true) :
    .event false .hapDone [(n : Int), (r.effect : Int)] ∈ (effectDone s n r).out := by
  refine notifyTrig_out_mem _ ?_
  rw [raise_out_on _ _ _ hon]
  exact List.mem_cons_self

/-- The client that asked to be told is. -/
theorem effectDone_rings {s : State} (n : Nat) {r : Trig} {c : Nat} (hclient : r.client = some c) (hnotify : r.notify = true)
    (hreset : resettingClient s c = false) : bitOf (claspOf (effectDone s n r) c).event 7 = true := by
  have hsame : resettingClient (raise s .hapDone [n, r.effect]) c = false := by
    rw [resettingClient_congr ((raise_kept_events _ _ _).parts .ten (by decide)) (fun k hk => raise_entries s _ _ k ?_), hreset]
    intro h
    have hkey := List.mem_singleton.mp h
    simp only [E.pwr_EVENTS_DROPPED, E.guest_FIRST_CLIENT] at hkey hk
    omega
  have hring : effectDone s n r = setEvent (raise s .hapDone [n, r.effect]) c 7 := by
    rw [effectDone]
    unfold notifyTrig
    simp only [hclient, hnotify, if_true]
  rw [hring, event_setEvent hsame, bitOf_setBit_true]

theorem latch_effectStarted (s : State) (n : Nat) (t : Trig) (moving : Bool) :
    (hapOf (effectStarted s n t moving) n).latch = (hapOf s n).latch := by
  have hrec : hapOf (bump (setHap s n { hapOf s n with
      cur := some t, left := t.rep, cut := false, drive := { (hapOf s n).drive with aligned := moving && !accLost s n } })
      (E.hap_EFFECTS n)) n = { hapOf s n with
      cur := some t, left := t.rep, cut := false, drive := { (hapOf s n).drive with aligned := moving && !accLost s n } } := hapOf_setHap s n _
  rw [effectStarted, hapOf_setHapState, hrec]

/-- What a read of the accelerometer leaves, but for the drive that follows it (R295). -/
def accTaken (s : State) (n : Nat) (sample : Option Int) : State :=
  match sample with
  | some v => wrBit (setHap s n { hapOf s n with errs := 0, acc := v }) (E.hap_FLAGS n) 1 false
  | none =>
    if (hapOf s n).errs = 7 then
      raise (wrBit (bump (setHap s n { hapOf s n with errs := (hapOf s n).errs + 1 }) (E.hap_ACC_ERRORS n)) (E.hap_FLAGS n) 1 true) .accLost [n]
    else bump (setHap s n { hapOf s n with errs := (hapOf s n).errs + 1 }) (E.hap_ACC_ERRORS n)

theorem accRead_on {s : State} {n : Nat} (sample : Option Int) (hon : hapState s n ≠ 0) :
    accRead s n sample = if hapState s n = 4 then setHapState (accTaken s n sample) n 4 else accTaken s n sample := by
  rw [accRead]
  dsimp only
  rw [if_neg hon]
  cases sample <;> rfl

theorem accTaken_leaves (s : State) (n : Nat) (sample : Option Int) : (hapOf (accTaken s n sample) n).cur = (hapOf s n).cur ∧
    (hapOf (accTaken s n sample) n).cut = (hapOf s n).cut ∧ rd (accTaken s n sample) (E.hap_F0 n) = rd s (E.hap_F0 n) := by
  have hkeys : E.hap_F0 n ≠ E.hap_FLAGS n ∧ E.hap_F0 n ≠ E.hap_ACC_ERRORS n ∧ 0x4C0000 ≤ E.hap_F0 n := by
    simp only [E.hap_F0, E.hap_FLAGS, E.hap_ACC_ERRORS]
    omega
  obtain ⟨hflags, herrors, hlow⟩ := hkeys
  cases sample with
  | some v =>
    have hrec : hapOf (accTaken s n (some v)) n = { hapOf s n with errs := 0, acc := v } := hapOf_setHap s n _
    rw [hrec, accTaken, wrBit, rd_wr_ne _ _ hflags, rd_setHap]
    exact ⟨rfl, rfl, rfl⟩
  | none =>
    have hrec : hapOf (accTaken s n none) n = { hapOf s n with errs := (hapOf s n).errs + 1 } := by
      rw [accTaken]
      split
      · rw [hapOf_raise]
        exact hapOf_setHap s n _
      · exact hapOf_setHap s n _
    rw [hrec, accTaken]
    refine ⟨rfl, rfl, ?_⟩
    split
    · rw [rd_raise_hap _ _ _ hlow, wrBit, rd_wr_ne _ _ hflags, rd_bump_ne _ herrors, rd_setHap]
    · rw [rd_bump_ne _ herrors, rd_setHap]

/-- Settles O52: each phase's end leaves the next phase's state and drive, and a channel that does not wait for a calibration stays as it
is while the others start theirs. -/
theorem hapticPlaysRunTheirPhases : Obligations.HapticPlaysRunTheirPhases := by
  unfold Obligations.HapticPlaysRunTheirPhases
  refine ⟨⟨?cal, ?calNone⟩, ⟨?attack, ?attackDrive, ?attackNone⟩, ⟨?stale, ?sustain, ?sustainNone⟩,
    ⟨?again, ?gap, ?last, ?latched, ?brakeNone⟩, ⟨?gapEnds, ?gapNone⟩, ⟨?cut, ?cutNone⟩, ?sample, ?error, ?lost, ?regulated, ?off⟩
  case cal =>
    intro s n r hsweeps hlatch hcal hon
    obtain ⟨hrec, hf0, hq, hr, hjudged, hsent, hfresh⟩ := calJudged_leaves n.val r hon
    have hends := calibrationEnd_judged r hsweeps
    rw [nextOnChannel_unlatched (by rw [hrec, hlatch])] at hends
    generalize calJudged s n.val r = u at *
    have hfirst : OtherHap n.val (effectEnded u n.val) (scheduleCals (effectEnded u n.val)) :=
      scheduleCals_still (by rw [(hapOf_effectEnded u n.val).2.2, hrec, hcal])
    have hother := hfirst.trans (scheduleCals_still (by rw [hfirst.chan, (hapOf_effectEnded u n.val).2.2, hrec, hcal]))
    have hrd : ∀ k, 0x4C0000 + 0x400 * n.val ≤ k → k < 0x4C0400 + 0x400 * n.val → k ≠ E.hap_STATE n.val →
        rd (scheduleCals (scheduleCals (effectEnded u n.val))) k = rd u k := fun k hlow hhigh hne => by
      rw [hother.sees k (hapSees_own hlow hhigh), rd_effectEnded_ne _ hne]
    refine ⟨_, congrArg Host.Outcome.next hends, ?_, ?_, ?_, ?_, ?_, ?_, fun hpass => ?_⟩
    · rw [hother.sees _ (by simp only [hapSees, E.hap_STATE]; omega), rd_effectEnded_state]
    · rw [hrd _ (by simp only [E.hap_F0]; omega) (by simp only [E.hap_F0]; omega) (by simp only [E.hap_F0, E.hap_STATE]; omega), hf0]
    · rw [hrd _ (by simp only [E.hap_Q]; omega) (by simp only [E.hap_Q]; omega) (by simp only [E.hap_Q, E.hap_STATE]; omega), hq]
    · rw [hrd _ (by simp only [E.hap_R_CAL]; omega) (by simp only [E.hap_R_CAL]; omega) (by simp only [E.hap_R_CAL, E.hap_STATE]; omega), hr]
    · rw [hrd _ (by simp only [E.hap_CAL_STATE]; omega) (by simp only [E.hap_CAL_STATE]; omega)
        (by simp only [E.hap_CAL_STATE, E.hap_STATE]; omega), hjudged]
    · rw [scheduleCals_out, scheduleCals_out, (effectEnded_kept u n.val).parts .out (by decide)]
      exact hsent
    · rw [hrd _ (by simp only [E.hap_FLAGS]; omega) (by simp only [E.hap_FLAGS]; omega) (by simp only [E.hap_FLAGS, E.hap_STATE]; omega)]
      exact hfresh hpass
  case calNone => exact fun s n r hne => congrArg Host.Outcome.next (if_pos hne)
  case attack =>
    intro s n hattacks
    have hkept := setHapState_kept_hap s n.val 4
    exact ⟨_, congrArg Host.Outcome.next (if_pos hattacks), rd_setHapState_same _ _ _, hapOf_setHapState _ _ _,
      fun k hk => rd_setHapState_ne _ _ (fun h => hk (List.mem_singleton.mpr h)), hkept.parts .out (by decide), hkept.parts .mem (by decide)⟩
  case attackDrive =>
    intro s n r hattacks hcur hcut
    refine ⟨_, congrArg Host.Outcome.next (if_pos hattacks), ?_⟩
    rw [hapOf_setHapState]
    exact driveOf_sustain hcur hcut
  case attackNone => exact fun s n hne => congrArg Host.Outcome.next (if_neg hne)
  case stale =>
    intro s n r hsustains hdrift hon
    have hruns : sustainEnd s n.val r =
        raise (wrBit (setHapState (wr s (E.hap_R_NOW n.val) r) n.val 5) (E.hap_FLAGS n.val) 0 true) .calStale [n.val] := by
      rw [sustainEnd, if_neg (by omega)]
      exact if_pos hdrift
    have hrd : ∀ k, k ≠ E.hap_STATE n.val → k ≠ E.hap_R_NOW n.val → k ≠ E.hap_FLAGS n.val →
        rd (wrBit (setHapState (wr s (E.hap_R_NOW n.val) r) n.val 5) (E.hap_FLAGS n.val) 0 true) k = rd s k := fun k hstate hnow hflags => by
      rw [wrBit, rd_wr_ne _ _ hflags, rd_setHapState_ne _ _ hstate, rd_wr_ne _ _ hnow]
    have hpower : pdOn (wrBit (setHapState (wr s (E.hap_R_NOW n.val) r) n.val 5) (E.hap_FLAGS n.val) 0 true) 2 = true := by
      rw [pdOn, hrd]
      · exact hon
      · simp only [E.pd_STATE, E.hap_STATE]; omega
      · simp only [E.pd_STATE, E.hap_R_NOW]; omega
      · simp only [E.pd_STATE, E.hap_FLAGS]; omega
    have hraised := rd_congr (raise_od_on hpower .calStale [n.val])
    have hkeys : E.hap_STATE n.val ≠ E.hap_FLAGS n.val ∧ E.hap_R_NOW n.val ≠ E.hap_FLAGS n.val ∧ E.hap_R_NOW n.val ≠ E.hap_STATE n.val := by
      simp only [E.hap_STATE, E.hap_FLAGS, E.hap_R_NOW]
      omega
    obtain ⟨hstate, hnow, hnow'⟩ := hkeys
    refine ⟨_, congrArg Host.Outcome.next hruns, ?_, ?_, ?_, ?_, fun k hk => ?_⟩
    · rw [hraised, wrBit, rd_wr_ne _ _ hstate, rd_setHapState_same]
    · rw [hraised, wrBit, rd_wr_ne _ _ hnow, rd_setHapState_ne _ _ hnow', rd_wr_same]
    · rw [hraised, wrBit, rd_wr_same, bitOf_setBit_same]
    · have hsame : ∀ u : State, (wrBit u (E.hap_FLAGS n.val) 0 true).out = u.out := fun _ => rfl
      rw [raise_out_on _ _ _ hpower, hsame, (setHapState_kept_hap _ n.val 5).parts .out (by decide)]
      rfl
    · rw [hraised]
      exact hrd k (fun h => hk (by simp [h])) (fun h => hk (by simp [h])) (fun h => hk (by simp [h]))
  case sustain =>
    intro s n r hsustains hdrift
    refine congrArg Host.Outcome.next ?_
    rw [sustainEnd, if_neg (by omega)]
    exact if_neg (by omega)
  case sustainNone => exact fun s n r hne => congrArg Host.Outcome.next (if_pos hne)
  case again => exact fun s n r hbrakes hleft hcur hgap hacc => congrArg Host.Outcome.next (brakingEnd_again hbrakes hacc hleft hcur hgap)
  case gap => exact fun s n r hbrakes hleft hcur hgap hacc => congrArg Host.Outcome.next (brakingEnd_gap hbrakes hacc hleft hcur hgap)
  case brakeNone => exact fun s n w h => congrArg Host.Outcome.next (brakingEnd_stays h)
  case gapNone => exact fun s n hne => congrArg Host.Outcome.next (if_neg hne)
  case off => exact fun s n v hoff => congrArg Host.Outcome.next (if_pos hoff)
  case last =>
    intro s n r hbrakes hleft hcur hlatch hnone hon
    have hbumped : pdOn (bump s (E.hap_BRAKE_TIMEOUTS n.val)) 2 = true := by
      rw [pdOn, rd_bump_ne _ (by simp only [E.pd_STATE, E.hap_BRAKE_TIMEOUTS]; omega)]
      exact hon
    obtain ⟨hrec, hrecs, hrd⟩ := effectDone_leaves (bump s (E.hap_BRAKE_TIMEOUTS n.val)) n.val r
    have hsent := effectDone_sent n.val r hbumped
    have hrings := fun c => effectDone_rings (s := bump s (E.hap_BRAKE_TIMEOUTS n.val)) (r := r) (c := c) n.val
    have hends := brakingEnd_limit hbrakes hleft hcur
    rw [nextOnChannel_unlatched (by rw [hrec]; exact hlatch)] at hends
    generalize effectDone (bump s (E.hap_BRAKE_TIMEOUTS n.val)) n.val r = u at *
    obtain ⟨hcurNone, -, hcalSame⟩ := hapOf_effectEnded u n.val
    have hnotCal : (hapOf (effectEnded u n.val) n.val).calWait = false := by
      rw [hcalSame, hrec]
      exact hnone n.val n.isLt
    have hother := scheduleCals_still hnotCal
    have hkept := scheduleCals_kept_hap (effectEnded u n.val)
    have hended := effectEnded_kept u n.val
    refine ⟨_, congrArg Host.Outcome.next hends, ?_, ?_, ?_, ?_, fun c hclient hnotify hreset => ?_⟩
    · rw [hother.sees _ (by simp only [hapSees, E.hap_STATE]; omega), rd_effectEnded_state]
    · rw [hother.sees _ (by simp only [hapSees, E.hap_BRAKE_TIMEOUTS]; omega),
        rd_effectEnded_ne _ (by simp only [E.hap_BRAKE_TIMEOUTS, E.hap_STATE]; omega),
        hrd _ (by simp only [E.hap_BRAKE_TIMEOUTS, E.pwr_EVENTS_DROPPED]; omega), rd_bump_same]
    · rw [hother.chan, hcurNone]
    · rw [scheduleCals_out, hended.parts .out (by decide)]
      exact hsent
    · rw [claspOf_congr (hkept.parts .clasp (by decide)), claspOf_congr (hended.parts .clasp (by decide))]
      refine hrings c hclient hnotify ?_
      rw [resettingClient_congr (s := s) (t := bump s (E.hap_BRAKE_TIMEOUTS n.val)) rfl (fun k hk => rd_bump_ne _ ?_), hreset]
      simp only [E.guest_FIRST_CLIENT, E.hap_BRAKE_TIMEOUTS] at hk ⊢
      omega
  case latched =>
    intro s n r l hbrakes hleft hcur hlatch hplays hacc
    obtain ⟨hrec, -, hrd⟩ := effectDone_leaves s n.val r
    have hends := brakingEnd_done hbrakes hacc hleft hcur
    have hown : ∀ k, 0x4C0000 ≤ k → rd (effectDone s n.val r) k = rd s k := fun k hk =>
      hrd k (by simp only [E.pwr_EVENTS_DROPPED]; omega)
    have hpower : rd (effectDone s n.val r) (E.pd_STATE 13) = rd s (E.pd_STATE 13) := hrd _ (by decide)
    generalize effectDone s n.val r = u at *
    obtain ⟨-, hlatchSame, -⟩ := hapOf_effectEnded u n.val
    have hstill : hapPlays (effectEnded u n.val) n.val = true := by
      rw [hapPlays_congr (s := s), hplays]
      · rw [rd_effectEnded_ne _ (by simp only [E.hap_ENABLE, E.hap_STATE]; omega), hown _ (by simp only [E.hap_ENABLE]; omega)]
      · rw [rd_effectEnded_ne _ (by simp only [E.hap_CAL_STATE, E.hap_STATE]; omega), hown _ (by simp only [E.hap_CAL_STATE]; omega)]
      · rw [rd_effectEnded_ne _ (by simp only [E.pd_STATE, E.hap_STATE]; omega), hpower]
    rw [nextOnChannel_latched (by rw [hrec, hlatch]) hstill, startEffect_eq] at hends
    obtain ⟨hcurNew, hleftNew, -⟩ := hapOf_effectStarted (setLatch (effectEnded u n.val) n.val none) n.val l false
    have heffects : E.hap_EFFECTS n.val ≠ E.hap_FLAGS n.val ∧ E.hap_EFFECTS n.val ≠ E.hap_STATE n.val ∧ 0x4C0000 ≤ E.hap_EFFECTS n.val := by
      simp only [E.hap_EFFECTS, E.hap_FLAGS, E.hap_STATE]
      omega
    obtain ⟨hflags, hstate, hlow⟩ := heffects
    refine ⟨_, congrArg Host.Outcome.next hends, ?_, ?_, ?_, ?_, ?_⟩
    · rw [rd_raise_hap _ _ _ (by simp only [E.hap_STATE]; omega), rd_effectStarted_state]
    · rw [hapOf_raise, hcurNew]
    · rw [hapOf_raise, hleftNew]
    · rw [hapOf_raise, latch_effectStarted, hapOf_setLatch]
    · rw [rd_raise_hap _ _ _ hlow, rd_effectStarted_effects, rd_setLatch_ne _ _ hflags, rd_effectEnded_ne _ hstate, hown _ hlow]
  case gapEnds =>
    intro s n hgap
    have hkept : Kept [.free, .od, .hap] s (gapEnd s n.val) := by
      have := @May.head
      have := @May.tail
      exact gapEnd_kept (Kept.refl _ s) n.val
    have hruns : gapEnd s n.val = setHapState (setHap s n.val { hapOf s n.val with left := (hapOf s n.val).left - 1, cut := false }) n.val 3 :=
      if_pos hgap
    refine ⟨gapEnd s n.val, rfl, ?_, ?_, ?_, ?_, fun k hk => ?_, hkept.parts .out (by decide), hkept.parts .mem (by decide)⟩
    · rw [hruns, rd_setHapState_same]
    · rw [hruns, hapOf_setHapState, hapOf_setHap]
    · rw [hruns, hapOf_setHapState, hapOf_setHap]
    · rw [hruns, hapOf_setHapState, hapOf_setHap]
    · rw [hruns, rd_setHapState_ne _ _ (fun h => hk (List.mem_singleton.mpr h)), rd_setHap]
  case cut =>
    intro s n hphase hon
    refine congrArg Host.Outcome.next ?_
    rw [overcurrent]
    dsimp only
    rw [if_pos hphase, raise_on]
    · rfl
    · rw [pdOn, rd_bump_ne _ (by simp only [E.pd_STATE, E.hap_OVERCURRENTS]; omega)]
      exact hon
  case cutNone =>
    intro s n hphase
    refine congrArg Host.Outcome.next ?_
    rw [overcurrent]
    dsimp only
    rw [if_neg (by omega)]
  case sample =>
    intro s n v hon
    refine ⟨_, congrArg Host.Outcome.next (accRead_on (some v) hon), ?_⟩
    have hflags : E.hap_FLAGS n.val ≠ E.hap_STATE n.val := by simp only [E.hap_FLAGS, E.hap_STATE]; omega
    have hrec : hapOf (accTaken s n.val (some v)) n.val = { hapOf s n.val with errs := 0, acc := v } := hapOf_setHap s n.val _
    have hbit : bitOf (rd (accTaken s n.val (some v)) (E.hap_FLAGS n.val)) 1 = false := by
      rw [accTaken, wrBit, rd_wr_same, bitOf_setBit_same]
    have hout : (accTaken s n.val (some v)).out = s.out := rfl
    have hrd : ∀ k, k ≠ E.hap_FLAGS n.val → rd (accTaken s n.val (some v)) k = rd s k := fun k hk => by
      rw [accTaken, wrBit, rd_wr_ne _ _ hk, rd_setHap]
    generalize accTaken s n.val (some v) = u at *
    by_cases hsustains : hapState s n.val = 4
    · rw [if_pos hsustains, hapOf_setHapState, hrec, rd_setHapState_ne _ _ hflags]
      refine ⟨rfl, fun h => absurd hsustains h, hbit, fun k hk => ?_, ((setHapState_kept_hap u n.val 4).parts .out (by decide)).trans hout⟩
      rw [rd_setHapState]
      split
      · next h => rw [h]; exact hsustains.symm
      · exact hrd k (fun h => hk (List.mem_singleton.mpr h))
    · rw [if_neg hsustains, hrec]
      exact ⟨rfl, fun _ => rfl, hbit, fun k hk => hrd k (fun h => hk (List.mem_singleton.mpr h)), hout⟩
  case error =>
    intro s n hon hsustains herrs
    refine congrArg Host.Outcome.next ((accRead_on none hon).trans ?_)
    rw [if_neg hsustains, accTaken]
    exact if_neg herrs
  case lost =>
    intro s n hon herrs hpower
    refine ⟨_, congrArg Host.Outcome.next (accRead_on none hon), ?_⟩
    have htaken : accTaken s n.val none = raise (wrBit (bump (setHap s n.val { hapOf s n.val with errs := (hapOf s n.val).errs + 1 })
        (E.hap_ACC_ERRORS n.val)) (E.hap_FLAGS n.val) 1 true) .accLost [n.val] := if_pos herrs
    have hraises : pdOn (wrBit (bump (setHap s n.val { hapOf s n.val with errs := (hapOf s n.val).errs + 1 })
        (E.hap_ACC_ERRORS n.val)) (E.hap_FLAGS n.val) 1 true) 2 = true := by
      rw [pdOn, wrBit, rd_wr_ne _ _ (by simp only [E.pd_STATE, E.hap_FLAGS]; omega),
        rd_bump_ne _ (by simp only [E.pd_STATE, E.hap_ACC_ERRORS]; omega), rd_setHap]
      exact hpower
    have herrors : rd (accTaken s n.val none) (E.hap_ACC_ERRORS n.val) = satInc (rd s (E.hap_ACC_ERRORS n.val)) 1 := by
      rw [htaken, rd_congr (raise_od_on hraises _ _), wrBit, rd_wr_ne _ _ (by simp only [E.hap_ACC_ERRORS, E.hap_FLAGS]; omega), rd_bump_same,
        rd_setHap]
    have hbit : bitOf (rd (accTaken s n.val none) (E.hap_FLAGS n.val)) 1 = true := by
      rw [htaken, rd_congr (raise_od_on hraises _ _), wrBit, rd_wr_same, bitOf_setBit_same]
    have hout : (accTaken s n.val none).out = .event false .accLost [(n.val : Int)] :: s.out := by
      rw [htaken, raise_out_on _ _ _ hraises]
      rfl
    generalize accTaken s n.val none = u at *
    by_cases hsustains : hapState s n.val = 4
    · rw [if_pos hsustains, rd_setHapState_ne _ _ (by simp only [E.hap_ACC_ERRORS, E.hap_STATE]; omega),
        rd_setHapState_ne _ _ (by simp only [E.hap_FLAGS, E.hap_STATE]; omega), (setHapState_kept_hap u n.val 4).parts .out (by decide)]
      exact ⟨herrors, hbit, hout⟩
    · rw [if_neg hsustains]
      exact ⟨herrors, hbit, hout⟩
  case regulated =>
    intro s n r v hsustains hcur hcut
    obtain ⟨hcurSame, hcutSame, hf0⟩ := accTaken_leaves s n.val v
    have hfreq : effectFreq (accTaken s n.val v) n.val r = effectFreq s n.val r := by rw [effectFreq, hf0, effectFreq]
    obtain ⟨hmode, hlow, hhigh, -⟩ := driveOf_sustain (s := accTaken s n.val v) (hcurSame.trans hcur) (hcutSame.trans hcut)
    rw [hfreq] at hlow hhigh
    refine ⟨_, congrArg Host.Outcome.next ((accRead_on v (by omega)).trans (if_pos hsustains)), rd_setHapState_same _ _ _, ?_⟩
    rw [hapOf_setHapState]
    exact ⟨hmode, hlow, hhigh⟩

end Sys2Proof.Proofs
end

section
/-! SUPPORT. What the clocks of the audio block leave: the domains that settle, the ASRC channels that lock anew (R315, R320), the
amplifiers and the gated ports (R334-R336). -/

namespace Sys2Proof.Proofs

open Sys2Proof Sys2Proof.Machine Sys2Proof.Laws

/-- What every step of a fold keeps, the fold keeps. -/
theorem foldl_keeps {α : Type} {P : State → Prop} {f : State → α → State} {l : List α} (hstep : ∀ t, ∀ x ∈ l, P t → P (f t x)) {s : State}
    (h : P s) : P (l.foldl f s) := by
  induction l generalizing s with
  | nil => exact h
  | cons x l ih => exact ih (fun t y hy => hstep t y (.tail _ hy)) (hstep s x (.head _) h)

/-! ### ASRC channels and domains -/

/-- The entries of the ASRC channels. -/
def asrcKey (k : Nat) : Prop := 0x444001 ≤ k ∧ k < 0x445100

/-- The entries that settling the domains may write. -/
def clockKey (k : Nat) : Prop := (0x440101 ≤ k ∧ k ≤ 0x440103) ∨ asrcKey k ∨ k = E.pwr_EVENTS_DROPPED

/-- The ASRC channels lock anew, and nothing else. -/
structure Relocked (s t : State) : Prop where
  rd : ∀ k, ¬ asrcKey k → rd t k = rd s k
  audio : ∃ a, t.audio = { s.audio with asrc := a }
  kept : Kept [.od, .audio] s t

theorem Relocked.refl (s : State) : Relocked s s := ⟨fun _ _ => rfl, ⟨_, rfl⟩, Kept.refl _ s⟩

theorem Relocked.relockAsrc {s t : State} (h : Relocked s t) {k : Nat} (hk : k < 16) : Relocked s (relockAsrc t k) := by
  have := @May.head
  have := @May.tail
  have hstate : ∀ (u : State) (v j : Nat), ¬ asrcKey j → Machine.rd (wr u (E.asrc_STATE k) v) j = Machine.rd u j := fun u v j hj => by
    refine rd_wr_ne _ _ ?_
    simp only [asrcKey, E.asrc_STATE] at hj ⊢
    omega
  have hrelocks : ∀ (u : State) (j : Nat), ¬ asrcKey j → Machine.rd (bump u (E.asrc_RELOCKS k)) j = Machine.rd u j := fun u j hj => by
    refine rd_bump_ne _ ?_
    simp only [asrcKey, E.asrc_RELOCKS] at hj ⊢
    omega
  obtain ⟨a, ha⟩ := h.audio
  refine ⟨fun j hj => ?_, ?_, relockAsrc_kept h.kept k⟩
  · rw [← h.rd j hj, Machine.relockAsrc]
    split
    · exact hstate _ _ j hj
    · split
      · exact (hrelocks _ j hj).trans (hstate _ _ j hj)
      · exact hstate _ _ j hj
  · refine ⟨tset (fun _ => 0) t.audio.asrc k 0, ?_⟩
    have hset : (setAsrcLevel t k 0).audio = { s.audio with asrc := tset (fun _ => 0) t.audio.asrc k 0 } := by
      rw [setAsrcLevel, ha]
    rw [Machine.relockAsrc]
    split
    · exact hset
    · split <;> exact hset

theorem startDomain_relocks (s : State) (d : Nat) : Relocked s (startDomain s d) := by
  rw [startDomain]
  refine foldl_keeps (P := Relocked s) (fun t k hk h => ?_) (Relocked.refl s)
  dsimp only
  split
  · exact h.relockAsrc (List.mem_range.mp hk)
  · exact h

/-- The domains settle, and their channels lock anew. -/
structure Reclocked (s t : State) : Prop where
  rd : ∀ k, ¬ clockKey k → rd t k = rd s k
  audio : ∃ a, t.audio = { s.audio with asrc := a }
  out : ∀ e ∈ s.out, e ∈ t.out
  kept : Kept [.out, .fwQueue, .od, .audio] s t

theorem Reclocked.refl (s : State) : Reclocked s s := ⟨fun _ _ => rfl, ⟨_, rfl⟩, fun _ h => h, Kept.refl _ s⟩

theorem Reclocked.trans {s t u : State} (h : Reclocked s t) (h' : Reclocked t u) : Reclocked s u := by
  obtain ⟨a, ha⟩ := h.audio
  obtain ⟨b, hb⟩ := h'.audio
  refine ⟨fun k hk => (h'.rd k hk).trans (h.rd k hk), ⟨b, by rw [hb, ha]⟩, fun e he => h'.out e (h.out e he), ?_⟩
  exact kept_trans h.kept h'.kept

theorem Relocked.reclocked {s t : State} (h : Relocked s t) (hkept : Kept [.out, .fwQueue, .od, .audio] s t) : Reclocked s t := by
  refine ⟨fun k hk => h.rd k (fun hasrc => hk (.inr (.inl hasrc))), h.audio, fun e he => ?_, hkept⟩
  rw [h.kept.parts .out (by decide)]
  exact he

theorem raise_out_mem {s : State} {o : Out} (e : Ev) (args : List Int) (ho : o ∈ s.out) : o ∈ (raise s e args).out := by
  rw [raise]
  split
  · exact List.mem_cons_of_mem _ ho
  · split <;> exact ho

theorem Reclocked.raise {s t : State} (h : Reclocked s t) (e : Ev) (args : List Int) : Reclocked s (raise t e args) := by
  have := @May.head
  have := @May.tail
  refine ⟨fun k hk => ?_, ?_, fun o ho => raise_out_mem _ _ (h.out o ho), raise_kept h.kept _ _⟩
  · rw [raise_entries _ _ _ k (fun hdropped => hk (.inr (.inr (List.mem_singleton.mp hdropped)))), h.rd k hk]
  · rw [(raise_kept_events _ _ _).parts .audio (by decide)]
    exact h.audio

theorem Reclocked.startDomain {s t : State} (h : Reclocked s t) (d : Nat) : Reclocked s (startDomain t d) := by
  have := @May.head
  have := @May.tail
  exact h.trans ((startDomain_relocks t d).reclocked (startDomain_kept (Kept.refl _ t) d))

theorem Reclocked.domainState {s t : State} (h : Reclocked s t) {d : Nat} (hd : d < 3) (v : Nat) : Reclocked s (wr t (E.aud_STATE_A d) v) := by
  have := @May.head
  have := @May.tail
  refine ⟨fun k hk => ?_, h.audio, h.out, h.kept.wr _ _⟩
  rw [rd_wr_ne _ _ (fun heq => hk (.inl (by simp only [E.aud_STATE_A] at heq; omega))), h.rd k hk]

/-- The STATE that a domain settles at. -/
def domainNext (s : State) (d : Nat) : Nat :=
  if ¬ pdOn s 12 then 0
  else
    match refPort s d with
    | some p => if domState s d = 0 then (if tdmState s p = 2 then 1 else 0) else if tdmState s p = 2 then domState s d else 2
    | none =>
      if d = 0 then 1
      else if d = 1 then (if domRef s 1 = 7 ∧ s.audio.mclkb then 1 else 0)
      else domState s 0

/-- A domain with its STATE set, its loss of the reference told. -/
def domainTold (s : State) (d : Nat) : State :=
  if domState s d = 1 ∧ domainNext s d = 2 then raise (wr s (E.aud_STATE_A d) (domainNext s d)) .refLost [d]
  else wr s (E.aud_STATE_A d) (domainNext s d)

theorem settleDomain_eq (s : State) (d : Nat) : settleDomain s d =
    if domState s d = 0 ∧ domainNext s d ≠ 0 then startDomain (domainTold s d) d else domainTold s d := rfl

theorem domainTold_reclocks (s : State) {d : Nat} (hd : d < 3) : Reclocked s (domainTold s d) := by
  rw [domainTold]
  split
  · exact ((Reclocked.refl s).domainState hd _).raise _ _
  · exact (Reclocked.refl s).domainState hd _

theorem settleDomain_reclocks (s : State) {d : Nat} (hd : d < 3) : Reclocked s (settleDomain s d) := by
  rw [settleDomain_eq]
  split
  · exact (domainTold_reclocks s hd).startDomain d
  · exact domainTold_reclocks s hd

theorem settleDomains_reclocks (s : State) : Reclocked s (settleDomains s) :=
  ((settleDomain_reclocks s (by decide)).trans (settleDomain_reclocks _ (by decide))).trans (settleDomain_reclocks _ (by decide))

/-- What STATE of each domain reads once one of them has settled. -/
theorem rd_settleDomain_state (s : State) {d e : Nat} (he : e < 3) :
    rd (settleDomain s d) (E.aud_STATE_A e) = if e = d then domainNext s d else rd s (E.aud_STATE_A e) := by
  have hasrc : ¬ asrcKey (E.aud_STATE_A e) := by simp only [asrcKey, E.aud_STATE_A]; omega
  have hdropped : E.aud_STATE_A e ∉ [E.pwr_EVENTS_DROPPED] := by
    rw [List.mem_singleton]
    simp only [E.aud_STATE_A, E.pwr_EVENTS_DROPPED]
    omega
  have hstart : rd (settleDomain s d) (E.aud_STATE_A e) = rd (domainTold s d) (E.aud_STATE_A e) := by
    rw [settleDomain_eq]
    split
    · exact (startDomain_relocks _ d).rd _ hasrc
    · rfl
  have htold : rd (domainTold s d) (E.aud_STATE_A e) = rd (wr s (E.aud_STATE_A d) (domainNext s d)) (E.aud_STATE_A e) := by
    rw [domainTold]
    split
    · exact raise_entries _ _ _ _ hdropped
    · rfl
  rw [hstart, htold]
  split
  · next h => rw [h, rd_wr_same]
  · next h => rw [rd_wr_ne _ _ (by simp only [E.aud_STATE_A]; omega)]

theorem Reclocked.tdmOf {s t : State} (h : Reclocked s t) (n : Nat) : tdmOf t n = tdmOf s n := by
  obtain ⟨a, ha⟩ := h.audio
  rw [Machine.tdmOf, ha, Machine.tdmOf]

theorem Reclocked.pdOn {s t : State} (h : Reclocked s t) {d : Nat} (hd : d ≤ 15) : pdOn t d = pdOn s d := by
  rw [Machine.pdOn, h.rd, Machine.pdOn]
  simp only [clockKey, asrcKey, E.pd_STATE, E.pwr_EVENTS_DROPPED]
  omega

/-- The entries of the TDM ports are none that the domains write. -/
theorem not_clockKey_tdm {k : Nat} (hlow : 0x441000 ≤ k) (hhigh : k < 0x442000) : ¬ clockKey k := by
  simp only [clockKey, asrcKey, E.pwr_EVENTS_DROPPED]
  omega

/-! ### Gated ports and amplifiers -/

/-- A port gates, restarts or stays. -/
def gateStep (t : State) (m : Nat) : State :=
  if tdmState t m = 2 ∧ portIdle t m then wr t (E.tdm_STATE m) 4
  else if tdmState t m = 4 ∧ ¬ portIdle t m then wr t (E.tdm_STATE m) 1
  else t

theorem settleGates_eq (s : State) : settleGates s = (List.range 6).foldl gateStep s := rfl

theorem rd_gateStep_ne (t : State) {m k : Nat} (hk : k ≠ E.tdm_STATE m) : rd (gateStep t m) k = rd t k := by
  rw [gateStep]
  split
  · exact rd_wr_ne _ _ hk
  · split
    · exact rd_wr_ne _ _ hk
    · rfl

theorem rd_settleGates_ne (s : State) {k : Nat} (hk : ∀ m, m < 6 → k ≠ E.tdm_STATE m) : rd (settleGates s) k = rd s k := by
  rw [settleGates_eq]
  exact foldl_keeps (P := fun t => rd t k = rd s k) (fun t m hm h => (rd_gateStep_ne t (hk m (List.mem_range.mp hm))).trans h) rfl

/-- A port with something to send stays as it runs. -/
theorem settleGates_runs {s : State} {n : Nat} (hruns : tdmState s n = 2)
    (hbusy : rd s (E.tdm_GATE_IDLE n) ≠ 1 ∨ rd s (E.tdm_ROLE n) ≠ 0) : tdmState (settleGates s) n = 2 := by
  rw [settleGates_eq]
  refine (foldl_keeps (P := fun t => tdmState t n = 2 ∧ (rd t (E.tdm_GATE_IDLE n) ≠ 1 ∨ rd t (E.tdm_ROLE n) ≠ 0))
    (fun t m _ ⟨hstate, hbusy⟩ => ?_) ⟨hruns, hbusy⟩).1
  have hkeys : E.tdm_GATE_IDLE n ≠ E.tdm_STATE m ∧ E.tdm_ROLE n ≠ E.tdm_STATE m := by
    simp only [E.tdm_GATE_IDLE, E.tdm_ROLE, E.tdm_STATE]
    omega
  rw [rd_gateStep_ne t hkeys.1, rd_gateStep_ne t hkeys.2]
  refine ⟨?_, hbusy⟩
  by_cases hm : m = n
  · have hidle : portIdle t n = false := by
      rw [portIdle]
      rcases hbusy with hgate | hrole
      · rw [beq_eq_false_iff_ne.mpr hgate]
        rfl
      · rw [beq_eq_false_iff_ne.mpr hrole, Bool.and_false]
        rfl
    rw [hm, gateStep, if_neg (by rw [hidle]; exact fun h => Bool.false_ne_true h.2), if_neg (by omega), hstate]
  · rw [tdmState, rd_gateStep_ne t (by simp only [E.tdm_STATE]; omega)]
    exact hstate

theorem settleGates_kept_od (s : State) : Kept [.od] s (settleGates s) := by
  have := @May.head
  exact settleGates_kept (Kept.refl _ s)

theorem settleAmps_kept_od (s : State) : Kept [.od] s (settleAmps s) := by
  have := @May.head
  exact settleAmps_kept (Kept.refl _ s)

theorem rd_settleAmps_ne (s : State) {k : Nat} (hk : k ≠ E.aud_AMP_STATE) : rd (settleAmps s) k = rd s k := rd_wr_ne _ _ hk

/-- An amplifier is on while a bus that it carries is not silent. -/
theorem ampState_settleAmps {s : State} (hon : pdOn s 12 = true) {n : Nat} (hn : n < 8) :
    bitOf (rd (settleAmps s) E.aud_AMP_STATE) n = true ↔ ∃ c, c < 32 ∧ bitOf (rd s (E.aud_AMP_MASK n)) c = true ∧ rd s (E.bus_SILENT c) = 0 := by
  rw [settleAmps, rd_wr_same, bitOf_maskOf]
  simp [hon, hn, bitsOf]

/-! ### TDM ports (R316-R318) -/

/-- A frame sent is a message of as many slots as the port has. -/
theorem sendFrame_eq (s : State) (n : Nat) (pdm : List Int) : ∃ l : List Int, l.length = rd s (E.tdm_SLOTS n) ∧
    sendFrame s n pdm = { send s (.tdm n) l [] with free := s.free + 32 } := by
  refine ⟨_, ?_, rfl⟩
  rw [List.length_map, List.length_range]

/-- The samples of a frame's slots. -/
def slotsTaken (s : State) (n : Nat) (samples : List Int) : List Int :=
  (List.range (rd s (E.tdm_SLOTS n))).map (fun k => toInt (rd s (E.tdm_DATA_BITS n)) (ofInt (rd s (E.tdm_DATA_BITS n)) (at0 0 samples k)) *
    (2 ^ (32 - rd s (E.tdm_DATA_BITS n)) : Nat))

theorem length_slotsTaken (s : State) (n : Nat) (samples : List Int) : (slotsTaken s n samples).length = rd s (E.tdm_SLOTS n) := by
  rw [slotsTaken, List.length_map, List.length_range]

/-- A master port at its own frame. -/
def masterFrame (s : State) (n : Nat) (samples : List Int) : State :=
  wr (setTdm s n { tdmOf s n with rx := slotsTaken s n samples, miss := 0, level := 32 }) (E.tdm_STATE n) 2

/-- A slave port that has not locked counts a frame in its place. -/
def syncCounted (s : State) (n : Nat) (samples : List Int) : State :=
  wr (setTdm s n { tdmOf s n with good := (tdmOf s n).good + 1, miss := 0, rx := slotsTaken s n samples, level := 0 }) (E.tdm_STATE n) 1

theorem tdmFrameSync_master {s : State} {n : Nat} (samples pdm : List Int) (hrole : rd s (E.tdm_ROLE n) = 0) (hon : pdOn s 12 = true)
    (hoff : tdmState s n ≠ 0) (hgated : tdmState s n ≠ 4) (hruns : tdmState (settleDomains (masterFrame s n samples)) n = 2) :
    tdmFrameSync s n samples pdm = settleGates (sendFrame (settleDomains (masterFrame s n samples)) n pdm) := by
  rw [masterFrame, slotsTaken] at hruns ⊢
  rw [tdmFrameSync]
  dsimp only
  rw [if_neg (by rw [hon]; simp [hoff, hgated]), if_pos hrole]
  exact if_pos hruns

section Slave

variable {s : State} {n : Nat} (samples pdm : List Int) (hrole : rd s (E.tdm_ROLE n) = 1) (hon : pdOn s 12 = true)
  (hseeks : tdmState s n = 1)
include hrole hon hseeks

theorem tdmFrameSync_slave : tdmFrameSync s n samples pdm =
    if tdmState (if 8 ≤ (tdmOf s n).good + 1 then lockPort (syncCounted s n samples) n else syncCounted s n samples) n = 2 then
      settleGates (sendFrame (if 8 ≤ (tdmOf s n).good + 1 then lockPort (syncCounted s n samples) n else syncCounted s n samples) n pdm)
    else if 8 ≤ (tdmOf s n).good + 1 then lockPort (syncCounted s n samples) n else syncCounted s n samples := by
  have hgood : (if tdmState s n = 3 then 1 else (tdmOf s n).good + 1) = (tdmOf s n).good + 1 := if_neg (by omega)
  rw [syncCounted, slotsTaken, tdmFrameSync]
  dsimp only
  rw [if_neg (by rw [hon, hseeks]; decide), hgood, if_neg (c := rd s (E.tdm_ROLE n) = 0) (by omega),
    if_neg (c := tdmState s n = 2) (by omega)]

theorem tdmFrameSync_counts (hfew : (tdmOf s n).good < 7) : tdmFrameSync s n samples pdm = syncCounted s n samples := by
  have hstate : ¬ tdmState (syncCounted s n samples) n = 2 := by
    rw [tdmState, syncCounted, rd_wr_same]
    decide
  rw [tdmFrameSync_slave samples pdm hrole hon hseeks, if_neg (c := 8 ≤ (tdmOf s n).good + 1) (by omega), if_neg hstate]

theorem tdmFrameSync_locks (hmany : 7 ≤ (tdmOf s n).good) (hlocks : tdmState (lockPort (syncCounted s n samples) n) n = 2) :
    tdmFrameSync s n samples pdm = settleGates (sendFrame (lockPort (syncCounted s n samples) n) n pdm) := by
  rw [tdmFrameSync_slave samples pdm hrole hon hseeks, if_pos (c := 8 ≤ (tdmOf s n).good + 1) (by omega), if_pos hlocks]

end Slave

/-- A port that locks, its channels locking anew, before the domains settle. -/
def portLocked (s : State) (n : Nat) : State :=
  (portAsrcs (wr (setTdm s n { tdmOf s n with lost := false, level := 0 }) (E.tdm_STATE n) 2) n).foldl relockAsrc
    (wr (setTdm s n { tdmOf s n with lost := false, level := 0 }) (E.tdm_STATE n) 2)

theorem portLocked_relocks (s : State) (n : Nat) :
    Relocked (wr (setTdm s n { tdmOf s n with lost := false, level := 0 }) (E.tdm_STATE n) 2) (portLocked s n) := by
  refine foldl_keeps (P := Relocked _) (fun t k hk h => h.relockAsrc ?_) (Relocked.refl _)
  exact of_decide_eq_true (List.mem_filter.mp hk).2

theorem lockPort_eq (s : State) (n : Nat) : lockPort s n =
    settleDomains (if (tdmOf s n).lost then raise (portLocked s n) .tdmLocked [n] else portLocked s n) := rfl

theorem lockPort_reclocks (s : State) (n : Nat) :
    Reclocked (wr (setTdm s n { tdmOf s n with lost := false, level := 0 }) (E.tdm_STATE n) 2) (lockPort s n) := by
  have := @May.head
  have := @May.tail
  have hlocked : Reclocked (wr (setTdm s n { tdmOf s n with lost := false, level := 0 }) (E.tdm_STATE n) 2) (portLocked s n) :=
    (portLocked_relocks s n).reclocked (Kept.foldl (fun t k h => relockAsrc_kept h k) (Kept.refl _ _))
  rw [lockPort_eq]
  split
  · exact (hlocked.raise _ _).trans (settleDomains_reclocks _)
  · exact hlocked.trans (settleDomains_reclocks _)

/-- What a port that locks leaves. -/
theorem lockPort_leaves (s : State) {n : Nat} (hn : n < 6) : tdmState (lockPort s n) n = 2 ∧ (tdmOf (lockPort s n) n).level = 0 ∧
    (tdmOf (lockPort s n) n).lost = false := by
  have hlocks := lockPort_reclocks s n
  have hrec : tdmOf (wr (setTdm s n { tdmOf s n with lost := false, level := 0 }) (E.tdm_STATE n) 2) n =
      { tdmOf s n with lost := false, level := 0 } := tdmOf_setTdm s n _
  rw [hlocks.tdmOf, hrec, tdmState, hlocks.rd _ (not_clockKey_tdm (by simp only [E.tdm_STATE]; omega) (by simp only [E.tdm_STATE]; omega)),
    rd_wr_same]
  exact ⟨rfl, rfl, rfl⟩

theorem lockPort_tells {s : State} {n : Nat} (hlost : (tdmOf s n).lost = true) (hon : pdOn s 2 = true) :
    .event false .tdmLocked [(n : Int)] ∈ (lockPort s n).out := by
  have hpower : pdOn (portLocked s n) 2 = true := by
    rw [pdOn, (portLocked_relocks s n).rd _ (by simp only [asrcKey, E.pd_STATE]; omega),
      rd_wr_ne _ _ (by simp only [E.pd_STATE, E.tdm_STATE]; omega)]
    exact hon
  rw [lockPort_eq, if_pos hlost]
  refine (settleDomains_reclocks _).out _ ?_
  rw [raise_out_on _ _ _ hpower]
  exact List.mem_cons_self

/-- A running slave port that misses its second frame in a row has lost its sync. -/
def syncLost (s : State) (n : Nat) : State :=
  bump (wr (setTdm (bump (setTdm s n { tdmOf s n with good := 0, miss := (tdmOf s n).miss + 1 }) (E.tdm_MISSING_FRAMES n)) n
    { tdmOf s n with good := 0, miss := (tdmOf s n).miss + 1, lost := true }) (E.tdm_STATE n) 3) (E.tdm_SYNC_LOSSES n)

theorem tdmFrameMissing_loses {s : State} {n : Nat} (hrole : rd s (E.tdm_ROLE n) ≠ 0) (hruns : tdmState s n = 2)
    (hmiss : 1 ≤ (tdmOf s n).miss) (hon : pdOn s 12 = true) :
    tdmFrameMissing s n = settleDomains (raise (syncLost s n) .tdmSyncLost [n]) := by
  have hrec : tdmOf (bump (setTdm s n { tdmOf s n with good := 0, miss := (tdmOf s n).miss + 1 }) (E.tdm_MISSING_FRAMES n)) n =
      { tdmOf s n with good := 0, miss := (tdmOf s n).miss + 1 } := tdmOf_setTdm s n _
  rw [tdmFrameMissing]
  dsimp only
  rw [if_neg (by rw [hon, hruns]; simp [hrole]), if_pos ⟨hruns, hmiss⟩, hrec, syncLost]

theorem tdmFrameMissing_misses {s : State} {n : Nat} (hrole : rd s (E.tdm_ROLE n) ≠ 0) (hruns : tdmState s n = 2)
    (hmiss : (tdmOf s n).miss = 0) (hon : pdOn s 12 = true) :
    tdmFrameMissing s n = bump (setTdm s n { tdmOf s n with good := 0, miss := 1 }) (E.tdm_MISSING_FRAMES n) := by
  rw [tdmFrameMissing]
  dsimp only
  rw [if_neg (by rw [hon, hruns]; simp [hrole]), if_neg (by omega), hmiss]

end Sys2Proof.Proofs
end

section
/-! SUPPORT. A tick of an audio domain (R324, R326): what its streams, inputs, buses and fades leave. -/

namespace Sys2Proof.Proofs

open Sys2Proof Sys2Proof.Machine Sys2Proof.Laws

/-! ### Streams and inputs -/

theorem tickStream_streams (s : State) (d n : Nat) : ∃ a, tickStream s d n = { s with audio := { s.audio with streams := a } } := by
  have hset : ∀ x, ∃ a, setStream s n x = { s with audio := { s.audio with streams := a } } := fun _ => ⟨_, rfl⟩
  have hsame : ∃ a, s = { s with audio := { s.audio with streams := a } } := ⟨_, rfl⟩
  rw [tickStream]
  dsimp only
  split
  · exact hsame
  · split
    · split
      · exact hsame
      · exact hset _
    · split
      · split
        · exact hset _
        · exact hset _
      · split
        · exact hset _
        · exact hsame

theorem streamOf_tickStream_ne (s : State) (d : Nat) {n m : Nat} (hm : n ≠ m) : streamOf (tickStream s d m) n = streamOf s n := by
  have hset : ∀ x, streamOf (setStream s m x) n = streamOf s n := fun x => streamOf_setStream_ne s m x hm
  rw [tickStream]
  dsimp only
  split
  · rfl
  · split
    · split
      · rfl
      · exact hset _
    · split
      · split
        · exact hset _
        · exact hset _
      · split
        · exact hset _
        · rfl

/-- A playback stream that runs moves on by a frame. -/
theorem tickStream_plays {s : State} {d n : Nat} {o : StreamOpen} (hdomain : streamDomain s n = d) (hopened : (streamOf s n).opened = some o)
    (hplays : isPlayback s n = true) (hruns : rd s (E.hs_STATE n) = 1) : (streamOf (tickStream s d n) n).pos = (streamOf s n).pos + 1 ∧
      (streamOf (tickStream s d n) n).level = min 32 ((streamOf s n).level + 1) := by
  rw [tickStream]
  dsimp only
  rw [if_neg (fun h => h hdomain)]
  simp only [hopened, hplays, hruns, if_true, streamOf_setStream, and_self]

/-- The streams of a domain after their tick. -/
def streamsTicked (s : State) (d : Nat) : State := (List.range 32).foldl (fun t n => tickStream t d n) s

theorem streamsTicked_streams (s : State) (d : Nat) : ∃ a, streamsTicked s d = { s with audio := { s.audio with streams := a } } := by
  refine foldl_keeps (P := fun t => ∃ a, t = { s with audio := { s.audio with streams := a } }) (fun t n _ ⟨a, ha⟩ => ?_) ⟨_, rfl⟩
  obtain ⟨b, hb⟩ := tickStream_streams t d n
  exact ⟨b, by rw [hb, ha]⟩

theorem streamsTicked_plays {s : State} {d n : Nat} {o : StreamOpen} (hn : n < 32) (hdomain : streamDomain s n = d)
    (hopened : (streamOf s n).opened = some o) (hplays : isPlayback s n = true) (hruns : rd s (E.hs_STATE n) = 1) :
    (streamOf (streamsTicked s d) n).pos = (streamOf s n).pos + 1 ∧ (streamOf (streamsTicked s d) n).level = min 32 ((streamOf s n).level + 1) := by
  refine foldl_through (n := n) (P := fun t => streamOf t n = streamOf s n ∧ t.od = s.od)
    (Q := fun t => (streamOf t n).pos = (streamOf s n).pos + 1 ∧ (streamOf t n).level = min 32 ((streamOf s n).level + 1))
    (fun t k hk ⟨hrec, hod⟩ => ?_) (fun t ⟨hrec, hod⟩ => ?_) (fun t k hk h => ?_) _ s List.nodup_range (List.mem_range.mpr hn) ⟨rfl, rfl⟩
  · obtain ⟨a, ha⟩ := tickStream_streams t d k
    refine ⟨(streamOf_tickStream_ne t d hk.symm).trans hrec, ?_⟩
    rw [ha]
    exact hod
  · have hsame : ∀ k, rd t k = rd s k := rd_congr hod
    have hplays' : isPlayback t n = true := by rw [isPlayback, hsame]; exact hplays
    rw [← hrec]
    refine tickStream_plays ?_ (by rw [hrec, hopened]) hplays' (by rw [hsame, hruns])
    rw [streamDomain, hplays', if_pos rfl, hsame, hsame]
    rwa [streamDomain, hplays, if_pos rfl] at hdomain
  · rw [streamOf_tickStream_ne t d hk.symm]
    exact h

theorem inputsRun_ins (l : List Nat) (s : State) (d : Nat) (pdm : List Int) :
    ∃ a, l.foldl (fun t i => runInput t d pdm i) s = { s with audio := { s.audio with ins := a } } := by
  refine foldl_keeps (P := fun t => ∃ a, t = { s with audio := { s.audio with ins := a } }) (fun t i _ ⟨a, ha⟩ => ?_) ⟨_, rfl⟩
  exact ⟨tset (fun _ => {}) t.audio.ins i _, by rw [runInput, setMix, ha]⟩

/-! ### Buses -/

/-- The entries that a delivered bus may write. -/
def busKey (k : Nat) : Prop := (0x44A000 ≤ k ∧ k < 0x44C000) ∨ k = E.pwr_EVENTS_DROPPED

/-- Buses are delivered, and nothing else. -/
structure Bused (s t : State) : Prop where
  rd : ∀ k, ¬ busKey k → rd t k = rd s k
  audio : ∃ a, t.audio = { s.audio with buses := a }
  out : ∀ e ∈ s.out, e ∈ t.out
  kept : Kept [.out, .fwQueue, .od, .audio] s t

theorem Bused.refl (s : State) : Bused s s := ⟨fun _ _ => rfl, ⟨_, rfl⟩, fun _ h => h, Kept.refl _ s⟩

theorem Bused.trans {s t u : State} (h : Bused s t) (h' : Bused t u) : Bused s u := by
  obtain ⟨a, ha⟩ := h.audio
  obtain ⟨b, hb⟩ := h'.audio
  exact ⟨fun k hk => (h'.rd k hk).trans (h.rd k hk), ⟨b, by rw [hb, ha]⟩, fun e he => h'.out e (h.out e he), kept_trans h.kept h'.kept⟩

theorem Bused.setBus {s t : State} (h : Bused s t) (b : Nat) (x : BusRec) : Bused s (setBus t b x) := by
  obtain ⟨a, ha⟩ := h.audio
  have := @May.head
  have := @May.tail
  exact ⟨h.rd, ⟨tset (fun _ => {}) t.audio.buses b x, by rw [Machine.setBus, ha]⟩, h.out, setBus_kept h.kept b x⟩

theorem detectSilence_buses (s : State) {b : Nat} (hb : b < 32) (v : Int) : Bused s (detectSilence s b v) := by
  have := @May.head
  have := @May.tail
  have hquiet := fun x => (Bused.refl s).setBus b x
  have hkey : ∀ k, ¬ busKey k → k ≠ E.bus_SILENT b := fun k hk heq => hk (.inl (by simp only [E.bus_SILENT] at heq; omega))
  refine ⟨fun k hk => ?_, ?_, fun e he => ?_, detectSilence_kept (Kept.refl _ s) b v⟩
  · rw [detectSilence]
    split
    · dsimp only
      split
      · rw [raise_entries _ _ _ k (fun h => hk (.inr (List.mem_singleton.mp h))), rd_wr_ne _ _ (hkey k hk)]
        rfl
      · rfl
    · split <;> rfl
  · rw [detectSilence]
    split
    · dsimp only
      split
      · rw [(raise_kept_events _ _ _).parts .audio (by decide)]
        exact (hquiet _).audio
      · exact (hquiet _).audio
    · split
      · exact (hquiet _).audio
      · exact ⟨_, rfl⟩
  · rw [detectSilence]
    split
    · dsimp only
      split
      · exact raise_out_mem _ _ he
      · exact he
    · split <;> exact he

theorem runBus_buses (xs : List (Nat × Int)) (s : State) {b : Nat} (hb : b < 32) : Bused s (runBus xs s b) :=
  ((Bused.refl s).setBus b _).trans (detectSilence_buses _ hb _)

/-- The detector keeps what every bus delivered. -/
theorem out_detectSilence (s : State) (b : Nat) (v : Int) (j : Nat) : (busOf (detectSilence s b v) j).out = (busOf s j).out := by
  have hset : ∀ q, (busOf (setBus s b { busOf s b with quiet := q }) j).out = (busOf s j).out := fun q => by
    by_cases h : j = b
    · rw [h, busOf_setBus]
    · rw [busOf_setBus_ne _ _ _ h]
  have hraised : ∀ (u : State) (e : Ev) (args : List Int), busOf (raise u e args) j = busOf u j := fun u e args => by
    rw [busOf, (raise_kept_events u e args).parts .audio (by decide), busOf]
  rw [detectSilence]
  split
  · dsimp only
    split
    · rw [hraised]
      exact hset _
    · exact hset _
  · split
    · exact hset _
    · rfl

theorem out_runBus_ne (xs : List (Nat × Int)) (s : State) {b j : Nat} (h : j ≠ b) : (busOf (runBus xs s b) j).out = (busOf s j).out := by
  rw [runBus, out_detectSilence, busOf_setBus_ne _ _ _ h]

theorem sat32_scaled_zero (g : Int) : sat32 (scaled 0 g) = 0 := by
  rw [scaled, Int.zero_mul]
  rfl

/-- A bus with no crosspoint delivers silence. -/
theorem out_runBus_nothing (s : State) (b : Nat) : (busOf (runBus [] s b) b).out = 0 := by
  rw [runBus, out_detectSilence, busOf_setBus]
  exact sat32_scaled_zero _

/-- The buses of a domain after their delivery. -/
def busesRun (xs : List (Nat × Int)) (s : State) (d : Nat) : State :=
  ((List.range 32).filter (fun b => rd s (E.bus_DOMAIN b) == d)).foldl (runBus xs) s

theorem busesRun_buses (xs : List (Nat × Int)) (s : State) (d : Nat) : Bused s (busesRun xs s d) :=
  foldl_keeps (P := Bused s) (fun t _ hb h => h.trans (runBus_buses xs t (List.mem_range.mp (List.mem_filter.mp hb).1))) (Bused.refl s)

theorem out_busesRun_nothing {s : State} {d b : Nat} (hb : b < 32) (hdomain : rd s (E.bus_DOMAIN b) = d) :
    (busOf (busesRun [] s d) b).out = 0 := by
  have hmem : b ∈ (List.range 32).filter (fun k => rd s (E.bus_DOMAIN k) == d) :=
    List.mem_filter.mpr ⟨List.mem_range.mpr hb, beq_iff_eq.mpr hdomain⟩
  have hnodup : ((List.range 32).filter (fun k => rd s (E.bus_DOMAIN k) == d)).Nodup := List.nodup_range.filter _
  rw [busesRun]
  generalize (List.range 32).filter (fun k => rd s (E.bus_DOMAIN k) == d) = l at hmem hnodup ⊢
  refine foldl_through (n := b) (P := fun _ => True) (Q := fun t => (busOf t b).out = 0) (fun _ _ _ _ => trivial)
    (fun t _ => ?_) (fun t k hk h => ?_) l s hnodup hmem trivial
  · exact out_runBus_nothing t b
  · rw [out_runBus_ne [] t hk.symm]
    exact h

/-! ### Fades -/

/-- The ports of a domain after a sample of their fades. -/
def portsFaded (s : State) (d : Nat) : State := (List.range 6).foldl (fun t n =>
  let x := tdmOf t n
  if rd t (E.tdm_DOMAIN n) ≠ d then t
  else if tdmState t n = 2 then setTdm t n { x with level := min 32 (x.level + 1) }
  else if tdmState t n = 3 then setTdm t n { x with level := x.level - 1 }
  else t) s

/-- The ASRC channels after a sample of their fades. -/
def asrcsFaded (s : State) : State := (List.range 16).foldl (fun t k =>
  if rd t (E.asrc_STATE k) = 2 then setAsrcLevel t k (min 32 (asrcLevel t k + 1)) else t) s

theorem tickFades_eq (s : State) (d : Nat) : tickFades s d = setFades (asrcsFaded (portsFaded s d)) d
    (((fadesOf (asrcsFaded (portsFaded s d)) d).map (fun f => { f with pos := f.pos + 1 })).filter (fun f => decide (f.pos ≤ 256))) := rfl

theorem portsFaded_tdms (s : State) (d : Nat) : ∃ a, portsFaded s d = { s with audio := { s.audio with tdms := a } } := by
  refine foldl_keeps (P := fun t => ∃ a, t = { s with audio := { s.audio with tdms := a } }) (fun t n _ ⟨a, ha⟩ => ?_) ⟨_, rfl⟩
  have hset : ∀ x, ∃ b, setTdm t n x = { s with audio := { s.audio with tdms := b } } := fun x =>
    ⟨tset (fun _ => {}) t.audio.tdms n x, by rw [setTdm, ha]⟩
  dsimp only
  split
  · exact ⟨a, ha⟩
  · split
    · exact hset _
    · split
      · exact hset _
      · exact ⟨a, ha⟩

theorem portsFaded_level {s : State} {d n : Nat} (hn : n < 6) (hdomain : rd s (E.tdm_DOMAIN n) = d) (hruns : tdmState s n = 2) :
    (tdmOf (portsFaded s d) n).level = min 32 ((tdmOf s n).level + 1) := by
  refine foldl_through (n := n) (P := fun t => tdmOf t n = tdmOf s n ∧ t.od = s.od)
    (Q := fun t => (tdmOf t n).level = min 32 ((tdmOf s n).level + 1))
    (fun t k hk ⟨hrec, hod⟩ => ?_) (fun t ⟨hrec, hod⟩ => ?_) (fun t k hk h => ?_) _ s List.nodup_range (List.mem_range.mpr hn) ⟨rfl, rfl⟩
  · have hset : ∀ x, tdmOf (setTdm t k x) n = tdmOf s n ∧ (setTdm t k x).od = s.od := fun x =>
      ⟨(tdmOf_setTdm_ne t k x hk.symm).trans hrec, hod⟩
    dsimp only
    split
    · exact ⟨hrec, hod⟩
    · split
      · exact hset _
      · split
        · exact hset _
        · exact ⟨hrec, hod⟩
  · have hsame : ∀ k, rd t k = rd s k := rd_congr hod
    dsimp only
    rw [if_neg (by rw [hsame]; exact fun h => h hdomain), if_pos (by rw [tdmState, hsame]; exact hruns), tdmOf_setTdm, hrec]
  · have hset : ∀ x, tdmOf (setTdm t k x) n = tdmOf t n := fun x => tdmOf_setTdm_ne t k x hk.symm
    dsimp only
    split
    · exact h
    · split
      · rw [hset]
        exact h
      · split
        · rw [hset]
          exact h
        · exact h

theorem asrcsFaded_asrc (s : State) : ∃ a, asrcsFaded s = { s with audio := { s.audio with asrc := a } } := by
  refine foldl_keeps (P := fun t => ∃ a, t = { s with audio := { s.audio with asrc := a } }) (fun t k _ ⟨a, ha⟩ => ?_) ⟨_, rfl⟩
  split
  · exact ⟨tset (fun _ => 0) t.audio.asrc k (min 32 (asrcLevel t k + 1)), by rw [setAsrcLevel, ha]⟩
  · exact ⟨a, ha⟩

theorem asrcLevel_setAsrcLevel (s : State) (k v : Nat) : asrcLevel (setAsrcLevel s k v) k = v := tget_tset_same _ _ _ _

theorem asrcLevel_setAsrcLevel_ne (s : State) {k j : Nat} (v : Nat) (h : j ≠ k) : asrcLevel (setAsrcLevel s k v) j = asrcLevel s j :=
  tget_tset_ne _ _ _ h

theorem asrcsFaded_level {s : State} {k : Nat} (hk : k < 16) (hlocked : rd s (E.asrc_STATE k) = 2) :
    asrcLevel (asrcsFaded s) k = min 32 (asrcLevel s k + 1) := by
  refine foldl_through (n := k) (P := fun t => asrcLevel t k = asrcLevel s k ∧ t.od = s.od)
    (Q := fun t => asrcLevel t k = min 32 (asrcLevel s k + 1))
    (fun t j hj ⟨hlevel, hod⟩ => ?_) (fun t ⟨hlevel, hod⟩ => ?_) (fun t j hj h => ?_) _ s List.nodup_range (List.mem_range.mpr hk) ⟨rfl, rfl⟩
  · split
    · exact ⟨(asrcLevel_setAsrcLevel_ne t _ hj.symm).trans hlevel, hod⟩
    · exact ⟨hlevel, hod⟩
  · rw [if_pos (by rw [rd_congr hod, hlocked]), asrcLevel_setAsrcLevel, hlevel]
  · split
    · rw [asrcLevel_setAsrcLevel_ne t _ hj.symm]
      exact h
    · exact h

theorem tickFades_audio (s : State) (d : Nat) : ∃ a b c, tickFades s d = { s with audio := { s.audio with tdms := a, asrc := b, fades := c } } := by
  obtain ⟨a, ha⟩ := portsFaded_tdms s d
  obtain ⟨b, hb⟩ := asrcsFaded_asrc (portsFaded s d)
  rw [tickFades_eq]
  generalize ((fadesOf (asrcsFaded (portsFaded s d)) d).map (fun f => { f with pos := f.pos + 1 })).filter (fun f => decide (f.pos ≤ 256)) = l
  exact ⟨a, b, tset (fun _ => []) s.audio.fades d l, by rw [hb, ha, setFades]⟩

theorem tdmOf_setFades (s : State) (d : Nat) (l : List XFade) (n : Nat) : tdmOf (setFades s d l) n = tdmOf s n := rfl

theorem asrcLevel_setFades (s : State) (d : Nat) (l : List XFade) (k : Nat) : asrcLevel (setFades s d l) k = asrcLevel s k := rfl

theorem tdmOf_asrcsFaded (s : State) (n : Nat) : tdmOf (asrcsFaded s) n = tdmOf s n := by
  obtain ⟨b, hb⟩ := asrcsFaded_asrc s
  generalize asrcsFaded s = t at hb ⊢
  rw [hb]
  rfl

/-- The fade levels of the domain's running ports and of the locked channels move on. -/
theorem tickFades_levels (s : State) (d : Nat) :
    (∀ n, n < 6 → rd s (E.tdm_DOMAIN n) = d → tdmState s n = 2 → (tdmOf (tickFades s d) n).level = min 32 ((tdmOf s n).level + 1)) ∧
      ∀ k, k < 16 → rd s (E.asrc_STATE k) = 2 → asrcLevel (tickFades s d) k = min 32 (asrcLevel s k + 1) := by
  rw [tickFades_eq]
  refine ⟨fun n hn hdomain hruns => ?_, fun k hk hlocked => ?_⟩
  · rw [tdmOf_setFades, tdmOf_asrcsFaded, portsFaded_level hn hdomain hruns]
  · obtain ⟨a, ha⟩ := portsFaded_tdms s d
    rw [asrcLevel_setFades]
    generalize portsFaded s d = t at ha ⊢
    rw [asrcsFaded_level hk (by rw [ha]; exact hlocked), ha]
    rfl

end Sys2Proof.Proofs
end

section
/-! SUPPORT. A sample tick of an audio domain: what is left once an awaited swap is done (R324, R326). -/

namespace Sys2Proof.Proofs

open Sys2Proof Sys2Proof.Machine Sys2Proof.Laws

/-- The mixer inputs of a domain. -/
def inputsOf (s : State) (d : Nat) : List Nat := (List.range 64).filter (fun i => rd s (E.mix_DOMAIN i) == d)

/-- The domain's mixer inputs after their samples. -/
def inputsRun (s : State) (d : Nat) (pdm : List Int) : State := (inputsOf s d).foldl (fun t i => runInput t d pdm i) s

/-- The crosspoints that carry the sampled inputs to the buses. -/
def carried (s : State) (d : Nat) (pdm : List Int) : List (Nat × Int) :=
  (crosspoints (inputsRun s d pdm) d).filter (fun q => (inputsOf s d).contains (fld q.1 0 6))

/-- Streams, inputs and buses after a sample. -/
def mixed (s : State) (d : Nat) (pdm : List Int) : State := busesRun (carried s d pdm) (inputsRun s d pdm) d

/-- A tick once the awaited swaps are done. -/
def ticked (s : State) (d : Nat) (pdm : List Int) : State :=
  settleGates (settleAmps (tickFades (mixed (streamsTicked s d) d pdm) d))

theorem sampleTick_runs {s : State} {d : Nat} (pdm : List Int) (hruns : domState s d ≠ 0) (hon : pdOn s 12 = true) :
    sampleTick s d pdm =
      { ticked (swapAtTick s d) d pdm with free := (ticked (swapAtTick s d) d pdm).free + 128 } := by
  rw [sampleTick, if_neg (by rw [hon]; simp [hruns])]
  rfl

theorem inputsRun_audio (s : State) (d : Nat) (pdm : List Int) :
    ∃ a, inputsRun s d pdm = { s with audio := { s.audio with ins := a } } := inputsRun_ins _ s d pdm

theorem crosspoints_congr {s t : State} (hdom : t.dom = s.dom) (hfades : t.audio.fades = s.audio.fades) (d : Nat) :
    crosspoints t d = crosspoints s d := by
  have hstrand : strandOf t d = strandOf s d := by rw [strandOf, dget, hdom, strandOf, dget]
  have hfade : fadesOf t d = fadesOf s d := by rw [fadesOf, hfades, fadesOf]
  rw [crosspoints, hstrand, hfade, crosspoints]

/-- The entries that a tick may write once its swaps are done. -/
def tickKey (k : Nat) : Prop := busKey k ∨ k = E.aud_AMP_STATE ∨ ∃ m, m < 6 ∧ k = E.tdm_STATE m

theorem mixed_buses (s : State) (d : Nat) (pdm : List Int) : Bused (inputsRun s d pdm) (mixed s d pdm) := busesRun_buses _ _ d

/-- What the mix of a sample leaves. -/
structure Mixes (s t : State) : Prop where
  rd : ∀ k, ¬ busKey k → rd t k = rd s k
  audio : ∃ a b c, t.audio = { s.audio with streams := a, ins := b, buses := c }
  out : ∀ e ∈ s.out, e ∈ t.out
  kept : Kept [.out, .fwQueue, .od, .audio] s t

theorem inputsRun_kept (s : State) (d : Nat) (pdm : List Int) : Kept [.out, .fwQueue, .od, .audio] s (inputsRun (streamsTicked s d) d pdm) := by
  have := @May.head
  have := @May.tail
  exact Kept.foldl (fun t i h => runInput_kept h d pdm i) (Kept.foldl (fun t n h => tickStream_kept h d n) (Kept.refl _ s))

theorem inputsRun_streams (s : State) (d : Nat) (pdm : List Int) : ∃ a b, (inputsRun (streamsTicked s d) d pdm).od = s.od ∧
    (inputsRun (streamsTicked s d) d pdm).out = s.out ∧ (inputsRun (streamsTicked s d) d pdm).audio = { s.audio with streams := a, ins := b } ∧
    a = (streamsTicked s d).audio.streams := by
  obtain ⟨a, ha⟩ := streamsTicked_streams s d
  obtain ⟨b, hb⟩ := inputsRun_audio (streamsTicked s d) d pdm
  generalize inputsRun (streamsTicked s d) d pdm = u at hb ⊢
  generalize streamsTicked s d = t at ha hb ⊢
  exact ⟨a, b, by rw [hb, ha], by rw [hb, ha], by rw [hb, ha], by rw [ha]⟩

theorem mixed_mixes (s : State) (d : Nat) (pdm : List Int) : Mixes s (mixed (streamsTicked s d) d pdm) := by
  obtain ⟨a, b, hod, hout, haudio, _⟩ := inputsRun_streams s d pdm
  have hbuses := mixed_buses (streamsTicked s d) d pdm
  have hkept := inputsRun_kept s d pdm
  generalize inputsRun (streamsTicked s d) d pdm = u at *
  obtain ⟨c, hc⟩ := hbuses.audio
  exact ⟨fun k hk => (hbuses.rd k hk).trans (rd_congr hod k), ⟨a, b, c, by rw [hc, haudio]⟩, fun e he => hbuses.out e (by rwa [hout]),
    kept_trans hkept hbuses.kept⟩

/-- The streams are as their own samples left them. -/
theorem mixed_streams (s : State) (d : Nat) (pdm : List Int) (n : Nat) :
    streamOf (mixed (streamsTicked s d) d pdm) n = streamOf (streamsTicked s d) n := by
  obtain ⟨a, b, _, _, haudio, ha⟩ := inputsRun_streams s d pdm
  obtain ⟨c, hc⟩ := (mixed_buses (streamsTicked s d) d pdm).audio
  generalize mixed (streamsTicked s d) d pdm = u at *
  generalize inputsRun (streamsTicked s d) d pdm = v at *
  rw [streamOf, hc, haudio, ha, streamOf]

/-- With no crosspoint every bus of the domain delivers nothing. -/
theorem mixed_out_nothing {s : State} {d : Nat} (pdm : List Int) (hnone : crosspoints s d = []) {b : Nat} (hb : b < 32)
    (hdomain : rd s (E.bus_DOMAIN b) = d) : (busOf (mixed (streamsTicked s d) d pdm) b).out = 0 := by
  obtain ⟨a, i, hod, _, haudio, _⟩ := inputsRun_streams s d pdm
  have hcarried : carried (streamsTicked s d) d pdm = [] := by
    rw [carried, crosspoints_congr ((inputsRun_kept s d pdm).parts .dom (by decide)) (by rw [haudio]), hnone]
    rfl
  rw [mixed, hcarried]
  exact out_busesRun_nothing hb (by rw [rd_congr hod]; exact hdomain)

/-- The audio record of a tick is that of its fades. -/
theorem ticked_audio (s : State) (d : Nat) (pdm : List Int) :
    (ticked s d pdm).audio = (tickFades (mixed (streamsTicked s d) d pdm) d).audio := by
  rw [ticked, (settleGates_kept_od _).parts .audio (by decide), (settleAmps_kept_od _).parts .audio (by decide)]

theorem ticked_kept (s : State) (d : Nat) (pdm : List Int) : Kept [.out, .fwQueue, .od, .audio] s (ticked s d pdm) := by
  have := @May.head
  have := @May.tail
  exact kept_trans (mixed_mixes s d pdm).kept (settleGates_kept (settleAmps_kept (tickFades_kept (Kept.refl _ _) d)))

/-- What the rest of a tick writes and tells. -/
theorem ticked_leaves (s : State) (d : Nat) (pdm : List Int) : (∀ k, ¬ tickKey k → rd (ticked s d pdm) k = rd s k) ∧
    (∀ e ∈ s.out, e ∈ (ticked s d pdm).out) ∧ (ticked s d pdm).audio.apply = s.audio.apply := by
  have hmix := mixed_mixes s d pdm
  obtain ⟨a, b, c, haudio⟩ := hmix.audio
  have hticked := ticked_audio s d pdm
  rw [ticked] at hticked ⊢
  generalize mixed (streamsTicked s d) d pdm = u at *
  obtain ⟨x, y, z, hfades⟩ := tickFades_audio u d
  have happly : (tickFades u d).audio.apply = s.audio.apply := by
    generalize tickFades u d = v at hfades ⊢
    rw [hfades, haudio]
  have hod : (tickFades u d).od = u.od := by
    generalize tickFades u d = v at hfades ⊢
    rw [hfades]
  have hout : (tickFades u d).out = u.out := by
    generalize tickFades u d = v at hfades ⊢
    rw [hfades]
  refine ⟨fun k hk => ?_, fun e he => ?_, by rw [hticked, happly]⟩
  · rw [rd_settleGates_ne _ (fun m hm heq => hk (.inr (.inr ⟨m, hm, heq⟩))), rd_settleAmps_ne _ (fun heq => hk (.inr (.inl heq))),
      rd_congr hod, hmix.rd k (fun hbus => hk (.inl hbus))]
  · rw [(settleGates_kept_od _).parts .out (by decide), (settleAmps_kept_od _).parts .out (by decide), hout]
    exact hmix.out e he

/-- Levels, positions and deliveries after a tick. -/
theorem ticked_levels (s : State) (d : Nat) (pdm : List Int) :
    (∀ n, n < 6 → rd s (E.tdm_DOMAIN n) = d → tdmState s n = 2 → (tdmOf (ticked s d pdm) n).level = min 32 ((tdmOf s n).level + 1)) ∧
      (∀ k, k < 16 → rd s (E.asrc_STATE k) = 2 → asrcLevel (ticked s d pdm) k = min 32 (asrcLevel s k + 1)) ∧
      (∀ n, streamOf (ticked s d pdm) n = streamOf (streamsTicked s d) n) ∧
      ∀ b, (busOf (ticked s d pdm) b).out = (busOf (mixed (streamsTicked s d) d pdm) b).out := by
  have hmix := mixed_mixes s d pdm
  have hstreams := mixed_streams s d pdm
  have hticked := ticked_audio s d pdm
  obtain ⟨a, b, c, haudio⟩ := hmix.audio
  generalize ticked s d pdm = w at *
  generalize mixed (streamsTicked s d) d pdm = u at *
  obtain ⟨htdms, hasrcs⟩ := tickFades_levels u d
  obtain ⟨x, y, z, hfades⟩ := tickFades_audio u d
  generalize tickFades u d = v at *
  have htdm : ∀ n, tdmOf u n = tdmOf s n := fun n => by rw [tdmOf, haudio, tdmOf]
  have hasrc : ∀ k, asrcLevel u k = asrcLevel s k := fun k => by rw [asrcLevel, haudio, asrcLevel]
  refine ⟨fun n hn hdomain hruns => ?_, fun k hk hlocked => ?_, fun n => ?_, fun j => ?_⟩
  · have hv : tdmOf w n = tdmOf v n := by rw [tdmOf, hticked, tdmOf]
    rw [hv, htdms n hn, htdm]
    · rw [hmix.rd _ (by simp only [busKey, E.tdm_DOMAIN, E.pwr_EVENTS_DROPPED]; omega)]
      exact hdomain
    · rw [tdmState, hmix.rd _ (by simp only [busKey, E.tdm_STATE, E.pwr_EVENTS_DROPPED]; omega)]
      exact hruns
  · have hv : asrcLevel w k = asrcLevel v k := by rw [asrcLevel, hticked, asrcLevel]
    rw [hv, hasrcs k hk, hasrc]
    rw [hmix.rd _ (by simp only [busKey, E.asrc_STATE, E.pwr_EVENTS_DROPPED]; omega)]
    exact hlocked
  · rw [← hstreams, streamOf, hticked, hfades, streamOf]
  · rw [busOf, hticked, hfades, busOf]

/-! ### The awaited swap (R326) -/

theorem swapAtTick_idle {s : State} {d : Nat} (hidle : (applyWaits s (sequencerOf d)).contains d = false) : swapAtTick s d = s := by
  rw [swapAtTick]
  dsimp only
  rw [if_neg (by rw [hidle]; exact Bool.false_ne_true)]

/-- With no value applied, landing only settles amplifiers and gates. -/
theorem landAudio_nothing {s : State} (p : Nat → Bool) (hnone : s.dict.applying = []) : landAudio s p = settleGates (settleAmps s) := by
  simp [landAudio, landWhere, hnone]

/-- The last awaited swap, with no value applied, before the sequencer's answer. -/
def lastSwap (s : State) (d : Nat) : State :=
  raise (bumpWrap (setApplyWaits (settleGates (settleAmps s)) (sequencerOf d) []) E.aud_SWAPS) .audioSwap [d]

theorem swapAtTick_last {s : State} {d : Nat} (hwaits : applyWaits s (sequencerOf d) = [d]) (hnone : s.dict.applying = []) :
    swapAtTick s d = iclComplete (lastSwap s d) (sequencerOf d) {} := by
  rw [swapAtTick, lastSwap]
  dsimp only
  rw [hwaits, landAudio_nothing _ hnone]
  simp

theorem taken_iclComplete (s : State) (n : Nat) (a : Ans) : (iclOf (iclComplete s n a) n).taken = none := by
  rw [iclComplete]
  split
  · next h => exact h
  · rw [iclOf_setIcl]

/-- What the last awaited swap leaves. -/
theorem lastSwap_leaves {s : State} {d : Nat} (hon : pdOn s 2 = true) : rd (lastSwap s d) E.aud_SWAPS = (rd s E.aud_SWAPS + 1) % 2 ^ 32 ∧
    applyWaits (lastSwap s d) (sequencerOf d) = [] ∧ .event false .audioSwap [(d : Int)] ∈ (lastSwap s d).out := by
  have hrd : ∀ k, (k = E.aud_SWAPS ∨ k = E.pd_STATE 2) → rd (settleGates (settleAmps s)) k = rd s k := fun k hk => by
    rw [rd_settleGates_ne _ (fun m hm => by simp only [E.aud_SWAPS, E.pd_STATE, E.tdm_STATE] at hk ⊢; omega),
      rd_settleAmps_ne _ (by simp only [E.aud_SWAPS, E.pd_STATE, E.aud_AMP_STATE] at hk ⊢; omega)]
  rw [lastSwap]
  generalize settleGates (settleAmps s) = u at hrd ⊢
  have hpower : pdOn (bumpWrap (setApplyWaits u (sequencerOf d) []) E.aud_SWAPS) 2 = true := by
    rw [pdOn, bumpWrap, rd_wr_ne _ _ (by decide)]
    rw [← hon, pdOn, ← hrd _ (.inr rfl)]
    rfl
  refine ⟨?_, ?_, ?_⟩
  · rw [rd_congr (raise_od_on hpower _ _), bumpWrap, rd_wr_same]
    exact congrArg (fun v => (v + 1) % 2 ^ 32) (hrd _ (.inl rfl))
  · rw [applyWaits, (raise_kept_events _ _ _).parts .audio (by decide)]
    exact tget_tset_same (fun _ => ([] : List Nat)) u.audio.apply (sequencerOf d) []
  · rw [raise_out_on _ _ _ hpower]
    exact List.mem_cons_self

end Sys2Proof.Proofs
end

section
/-! SUPPORT. What the audio clock commands leave: the frames of the TDM ports, a matched reference, MCLKB and a bus gone silent. -/

namespace Sys2Proof.Proofs

open Sys2Proof Sys2Proof.Machine Sys2Proof.Laws

/-- A master port's frame (R317). -/
theorem tdmFrameSync_master_leaves {s : State} {n : Nat} (hn : n < 6) (samples pdm : List Int) (hrole : rd s (E.tdm_ROLE n) = 0)
    (hoff : tdmState s n ≠ 0) (hgated : tdmState s n ≠ 4) (hon : pdOn s 12 = true) (hgate : rd s (E.tdm_GATE_IDLE n) = 0) :
    tdmState (tdmFrameSync s n samples pdm) n = 2 ∧ (tdmOf (tdmFrameSync s n samples pdm) n).level = 32 ∧
      (tdmOf (tdmFrameSync s n samples pdm) n).rx.length = rd s (E.tdm_SLOTS n) ∧ (tdmFrameSync s n samples pdm).free = s.free + 32 ∧
      ∃ l : List Int, l.length = rd s (E.tdm_SLOTS n) ∧ .msg (.tdm n) l [] ∈ (tdmFrameSync s n samples pdm).out := by
  have hkey : ∀ k, 0x441000 ≤ k → k < 0x442000 → k ≠ E.tdm_STATE n →
      rd (settleDomains (masterFrame s n samples)) k = rd s k := fun k hlow hhigh hne => by
    rw [(settleDomains_reclocks _).rd k (not_clockKey_tdm hlow hhigh), masterFrame, rd_wr_ne _ _ hne]
    rfl
  have hstate : tdmState (settleDomains (masterFrame s n samples)) n = 2 := by
    rw [tdmState, (settleDomains_reclocks _).rd _ (not_clockKey_tdm (by simp only [E.tdm_STATE]; omega) (by simp only [E.tdm_STATE]; omega)),
      masterFrame, rd_wr_same]
  have hrec : tdmOf (settleDomains (masterFrame s n samples)) n =
      { tdmOf s n with rx := slotsTaken s n samples, miss := 0, level := 32 } := by
    rw [(settleDomains_reclocks _).tdmOf, masterFrame]
    exact tdmOf_setTdm s n _
  have hslots := hkey (E.tdm_SLOTS n) (by simp only [E.tdm_SLOTS]; omega) (by simp only [E.tdm_SLOTS]; omega)
    (by simp only [E.tdm_SLOTS, E.tdm_STATE]; omega)
  have hidle := hkey (E.tdm_GATE_IDLE n) (by simp only [E.tdm_GATE_IDLE]; omega) (by simp only [E.tdm_GATE_IDLE]; omega)
    (by simp only [E.tdm_GATE_IDLE, E.tdm_STATE]; omega)
  have hfree : (settleDomains (masterFrame s n samples)).free = s.free := (settleDomains_reclocks _).kept.parts .free (by decide)
  rw [tdmFrameSync_master samples pdm hrole hon hoff hgated hstate]
  generalize settleDomains (masterFrame s n samples) = u at *
  obtain ⟨l, hlen, hsend⟩ := sendFrame_eq u n pdm
  have hgates := settleGates_kept_od (sendFrame u n pdm)
  have hruns := settleGates_runs (s := sendFrame u n pdm) (n := n) (by rw [hsend]; exact hstate)
    (.inl (by rw [hsend]; exact fun h => by rw [show rd u (E.tdm_GATE_IDLE n) = 1 from h, hgate] at hidle; omega))
  have haudio : tdmOf (settleGates (sendFrame u n pdm)) n = tdmOf u n := by
    rw [tdmOf, hgates.parts .audio (by decide), hsend, tdmOf]
    rfl
  refine ⟨hruns, by rw [haudio, hrec], by rw [haudio, hrec]; exact length_slotsTaken s n samples, ?_, l, by rw [hlen, hslots], ?_⟩
  · rw [hgates.parts .free (by decide), hsend]
    exact congrArg (· + 32) hfree
  · rw [hgates.parts .out (by decide), hsend]
    exact List.mem_cons_self

/-- The eighth frame in its place locks a slave port (R318). -/
theorem tdmFrameSync_locks_leaves {s : State} {n : Nat} (hn : n < 6) (samples pdm : List Int) (hrole : rd s (E.tdm_ROLE n) = 1)
    (hseeks : tdmState s n = 1) (hmany : 7 ≤ (tdmOf s n).good) (hon : pdOn s 12 = true) (hpower : pdOn s 2 = true) :
    tdmState (tdmFrameSync s n samples pdm) n = 2 ∧ (tdmOf (tdmFrameSync s n samples pdm) n).level = 0 ∧
      (tdmOf (tdmFrameSync s n samples pdm) n).lost = false ∧ ((tdmOf s n).lost = true →
        .event false .tdmLocked [(n : Int)] ∈ (tdmFrameSync s n samples pdm).out) := by
  obtain ⟨hlocks, hlevel, hlost⟩ := lockPort_leaves (syncCounted s n samples) hn
  have htells := lockPort_tells (s := syncCounted s n samples) (n := n)
  have hcounted : (tdmOf (syncCounted s n samples) n).lost = (tdmOf s n).lost := by
    have hrec : tdmOf (syncCounted s n samples) n = _ := tdmOf_setTdm s n _
    rw [hrec]
  have hpower' : pdOn (syncCounted s n samples) 2 = true := by
    rw [pdOn, syncCounted, rd_wr_ne _ _ (by simp only [E.pd_STATE, E.tdm_STATE]; omega)]
    exact hpower
  have hne : E.tdm_ROLE n ≠ E.tdm_STATE n := by simp only [E.tdm_ROLE, E.tdm_STATE]; omega
  have hcount : rd (syncCounted s n samples) (E.tdm_ROLE n) = 1 := by
    rw [syncCounted, rd_wr_ne _ _ hne]
    exact hrole
  have hrole' : rd (lockPort (syncCounted s n samples) n) (E.tdm_ROLE n) = 1 := by
    rw [(lockPort_reclocks _ n).rd _ (not_clockKey_tdm (by simp only [E.tdm_ROLE]; omega) (by simp only [E.tdm_ROLE]; omega)),
      rd_wr_ne _ _ hne]
    exact hcount
  rw [tdmFrameSync_locks samples pdm hrole hon hseeks hmany hlocks]
  generalize lockPort (syncCounted s n samples) n = u at *
  obtain ⟨l, hlen, hsend⟩ := sendFrame_eq u n pdm
  have hgates := settleGates_kept_od (sendFrame u n pdm)
  have hruns := settleGates_runs (s := sendFrame u n pdm) (n := n) (by rw [hsend]; exact hlocks)
    (.inr (by rw [hsend]; exact fun h => by rw [show rd u (E.tdm_ROLE n) = 0 from h] at hrole'; omega))
  have haudio : tdmOf (settleGates (sendFrame u n pdm)) n = tdmOf u n := by
    rw [tdmOf, hgates.parts .audio (by decide), hsend, tdmOf]
    rfl
  refine ⟨hruns, by rw [haudio, hlevel], by rw [haudio, hlost], fun hwas => ?_⟩
  rw [hgates.parts .out (by decide), hsend]
  exact List.mem_cons_of_mem _ (htells (hcounted.trans hwas) hpower')

/-- A second missed frame in a row loses the sync (R318). -/
theorem syncLost_leaves {s : State} {n : Nat} (hn : n < 6) (hpower : pdOn s 2 = true) :
    tdmState (settleDomains (raise (syncLost s n) .tdmSyncLost [n])) n = 3 ∧
      rd (settleDomains (raise (syncLost s n) .tdmSyncLost [n])) (E.tdm_MISSING_FRAMES n) = satInc (rd s (E.tdm_MISSING_FRAMES n)) 1 ∧
      rd (settleDomains (raise (syncLost s n) .tdmSyncLost [n])) (E.tdm_SYNC_LOSSES n) = satInc (rd s (E.tdm_SYNC_LOSSES n)) 1 ∧
      (tdmOf (settleDomains (raise (syncLost s n) .tdmSyncLost [n])) n).lost = true ∧
      (tdmOf (settleDomains (raise (syncLost s n) .tdmSyncLost [n])) n).good = 0 ∧
      .event false .tdmSyncLost [(n : Int)] ∈ (settleDomains (raise (syncLost s n) .tdmSyncLost [n])).out := by
  have hmissing : E.tdm_MISSING_FRAMES n ≠ E.tdm_STATE n ∧ E.tdm_MISSING_FRAMES n ≠ E.tdm_SYNC_LOSSES n := by
    simp only [E.tdm_MISSING_FRAMES, E.tdm_STATE, E.tdm_SYNC_LOSSES]; omega
  have hlosses : E.tdm_SYNC_LOSSES n ≠ E.tdm_STATE n ∧ E.tdm_SYNC_LOSSES n ≠ E.tdm_MISSING_FRAMES n := by
    simp only [E.tdm_MISSING_FRAMES, E.tdm_STATE, E.tdm_SYNC_LOSSES]; omega
  have hon : pdOn (syncLost s n) 2 = true := by
    have hne : E.pd_STATE 2 ≠ E.tdm_SYNC_LOSSES n ∧ E.pd_STATE 2 ≠ E.tdm_STATE n ∧ E.pd_STATE 2 ≠ E.tdm_MISSING_FRAMES n := by
      simp only [E.pd_STATE, E.tdm_MISSING_FRAMES, E.tdm_STATE, E.tdm_SYNC_LOSSES]; omega
    rw [pdOn, syncLost, rd_bump_ne _ hne.1, rd_wr_ne _ _ hne.2.1]
    exact (congrArg (fun v : Nat => v == 2) (rd_bump_ne _ hne.2.2)).trans hpower
  have hrec : tdmOf (syncLost s n) n = { tdmOf s n with good := 0, miss := (tdmOf s n).miss + 1, lost := true } := tdmOf_setTdm _ n _
  have hraised : tdmOf (raise (syncLost s n) .tdmSyncLost [(n : Int)]) n = tdmOf (syncLost s n) n := by rw [raise_on _ _ _ hon]; rfl
  have hrd : ∀ k, 0x441000 ≤ k → k < 0x442000 →
      rd (settleDomains (raise (syncLost s n) .tdmSyncLost [(n : Int)])) k = rd (syncLost s n) k := fun k hlow hhigh => by
    rw [(settleDomains_reclocks _).rd k (not_clockKey_tdm hlow hhigh), rd_congr (raise_od_on hon _ _)]
  refine ⟨?_, ?_, ?_, ?_, ?_, ?_⟩
  · rw [tdmState, hrd _ (by simp only [E.tdm_STATE]; omega) (by simp only [E.tdm_STATE]; omega), syncLost, rd_bump_ne _ hlosses.1.symm,
      rd_wr_same]
  · rw [hrd _ (by simp only [E.tdm_MISSING_FRAMES]; omega) (by simp only [E.tdm_MISSING_FRAMES]; omega), syncLost, rd_bump_ne _ hmissing.2,
      rd_wr_ne _ _ hmissing.1]
    exact rd_bump_same _ _
  · rw [hrd _ (by simp only [E.tdm_SYNC_LOSSES]; omega) (by simp only [E.tdm_SYNC_LOSSES]; omega), syncLost, rd_bump_same, rd_wr_ne _ _ hlosses.1]
    exact congrArg (satInc · 1) (rd_bump_ne _ hlosses.2)
  · rw [(settleDomains_reclocks _).tdmOf, hraised, hrec]
  · rw [(settleDomains_reclocks _).tdmOf, hraised, hrec]
  · refine (settleDomains_reclocks _).out _ ?_
    rw [raise_out_on _ _ _ hon]
    exact List.mem_cons_self

/-! ### References (R315) -/

/-- A domain in force on a running reference port. -/
structure Referenced (s : State) (d p : Nat) : Prop where
  on : pdOn s 12 = true
  port : refPort s d = some p
  runs : tdmState s p = 2
  state : domState s d = 1

theorem refPort_lt {s : State} {d p : Nat} (h : refPort s d = some p) : p < 6 := by
  rw [refPort] at h
  split at h
  · have := Option.some.inj h
    omega
  · cases h

theorem domRef_congr {s t : State} (h : ∀ k, ¬ clockKey k → rd t k = rd s k) (d : Nat) : domRef t d = domRef s d := by
  have hkey : ¬ clockKey (if d = 0 then E.aud_A_REF else if d = 1 then E.aud_B_REF else E.aud_V_REF) := by
    split
    · simp only [clockKey, asrcKey, E.aud_A_REF, E.pwr_EVENTS_DROPPED]; omega
    · split
      · simp only [clockKey, asrcKey, E.aud_B_REF, E.pwr_EVENTS_DROPPED]; omega
      · simp only [clockKey, asrcKey, E.aud_V_REF, E.pwr_EVENTS_DROPPED]; omega
  rw [domRef, h _ hkey, domRef]

theorem Referenced.settleDomain {s : State} {d p e : Nat} (h : Referenced s d p) (hd : d < 3) (he : e < 3) :
    Referenced (settleDomain s e) d p := by
  have hclock := settleDomain_reclocks s he
  have hp := refPort_lt h.port
  refine ⟨by rw [hclock.pdOn (by omega), h.on], by rw [refPort, domRef_congr hclock.rd, ← h.port, refPort], ?_, ?_⟩
  · rw [tdmState, hclock.rd _ (not_clockKey_tdm (by simp only [E.tdm_STATE]; omega) (by simp only [E.tdm_STATE]; omega))]
    exact h.runs
  · rw [domState, rd_settleDomain_state s hd]
    split
    · next heq =>
      have hstate := h.state
      have hport := h.port
      rw [heq] at hstate hport
      have hruns := h.runs
      simp [domainNext, h.on, hport, hstate, hruns]
    · exact h.state

theorem Referenced.settleDomains {s : State} {d p : Nat} (h : Referenced s d p) (hd : d < 3) : Referenced (settleDomains s) d p :=
  ((h.settleDomain hd (e := 0) (by decide)).settleDomain hd (e := 1) (by decide)).settleDomain hd (e := 2) (by decide)

/-- A domain on its matched reference, before the domains settle. -/
def matched (s : State) (d : Nat) (slip : Bool) : State := wr (if slip then bump s E.aud_SLIPS else s) (E.aud_STATE_A d) 1

theorem rd_matched_ne (s : State) {d k : Nat} (slip : Bool) (hne : k ≠ E.aud_STATE_A d) (hslips : k ≠ E.aud_SLIPS) :
    rd (matched s d slip) k = rd s k := by
  rw [matched, rd_wr_ne _ _ hne]
  split
  · exact rd_bump_ne _ hslips
  · rfl

theorem rd_matched_slips (s : State) {d : Nat} (hd : d < 3) (slip : Bool) :
    rd (matched s d slip) E.aud_SLIPS = if slip then satInc (rd s E.aud_SLIPS) 1 else rd s E.aud_SLIPS := by
  rw [matched, rd_wr_ne _ _ (by simp only [E.aud_SLIPS, E.aud_STATE_A]; omega)]
  split
  · exact rd_bump_same _ _
  · rfl

theorem matched_referenced {s : State} {d p : Nat} (hd : d < 3) (slip : Bool) (hport : refPort s d = some p) (hruns : tdmState s p = 2)
    (hon : pdOn s 12 = true) : Referenced (matched s d slip) d p := by
  have hp := refPort_lt hport
  have hother : ∀ k, ¬ (0x440101 ≤ k ∧ k ≤ 0x440103) → k ≠ E.aud_SLIPS → rd (matched s d slip) k = rd s k := fun k hk hne =>
    rd_matched_ne s slip (by simp only [E.aud_STATE_A]; omega) hne
  have href : domRef (matched s d slip) d = domRef s d := by
    rw [domRef, hother, domRef]
    · split
      · decide
      · split <;> decide
    · split
      · decide
      · split <;> decide
  refine ⟨?_, by rw [refPort, href, ← hport, refPort], ?_, rd_wr_same _ _ _⟩
  · rw [pdOn, hother _ (by decide) (by decide)]
    exact hon
  · rw [tdmState, hother _ (by simp only [E.tdm_STATE]; omega) (by simp only [E.tdm_STATE, E.aud_SLIPS]; omega)]
    exact hruns

/-- MCLKB gives domain B its state when it is that domain's reference. -/
theorem mclkb_state {s : State} (hon : pdOn s 12 = true) (href : domRef s 1 = 7) :
    rd (settleDomains s) (E.aud_STATE_A 1) = if s.audio.mclkb then 1 else 0 := by
  have hclock := settleDomain_reclocks s (d := 0) (by decide)
  have hon' : pdOn (settleDomain s 0) 12 = true := (hclock.pdOn (by decide)).trans hon
  have href' : domRef (settleDomain s 0) 1 = 7 := (domRef_congr hclock.rd 1).trans href
  have hmclkb : (settleDomain s 0).audio.mclkb = s.audio.mclkb := by
    obtain ⟨a, ha⟩ := hclock.audio
    rw [ha]
  have hnext : domainNext (settleDomain s 0) 1 = if s.audio.mclkb then 1 else 0 := by
    rw [← hmclkb]
    generalize settleDomain s 0 = u at hon' href' ⊢
    have hport : refPort u 1 = none := by rw [refPort, href']; rfl
    simp [domainNext, hon', hport, href']
  have hlast : rd (settleDomains s) (E.aud_STATE_A 1) = rd (settleDomain (settleDomain s 0) 1) (E.aud_STATE_A 1) :=
    rd_settleDomain_state (settleDomain (settleDomain s 0) 1) (d := 2) (e := 1) (by decide)
  rw [hlast, rd_settleDomain_state (settleDomain s 0) (d := 1) (e := 1) (by decide), if_pos rfl, hnext]

/-! ### Silence (R334) -/

/-- A bus gone silent, before the amplifiers and ports settle. -/
def silenced (s : State) (b : Nat) : State := raise (bump (wr s (E.bus_SILENT b) 1) (E.bus_SILENCES b)) .busSilent [b]

theorem silenced_leaves {s : State} {b : Nat} (hb : b < 32) (hon : pdOn s 2 = true) :
    (∀ k, k ≠ E.bus_SILENT b → k ≠ E.bus_SILENCES b → rd (silenced s b) k = rd s k) ∧ rd (silenced s b) (E.bus_SILENT b) = 1 ∧
      rd (silenced s b) (E.bus_SILENCES b) = satInc (rd s (E.bus_SILENCES b)) 1 ∧ .event false .busSilent [(b : Int)] ∈ (silenced s b).out := by
  have hne : E.bus_SILENCES b ≠ E.bus_SILENT b := by simp only [E.bus_SILENCES, E.bus_SILENT]; omega
  have hpower : pdOn (bump (wr s (E.bus_SILENT b) 1) (E.bus_SILENCES b)) 2 = true := by
    rw [pdOn, rd_bump_ne _ (by simp only [E.pd_STATE, E.bus_SILENCES]; omega), rd_wr_ne _ _ (by simp only [E.pd_STATE, E.bus_SILENT]; omega)]
    exact hon
  have hrd := rd_congr (raise_od_on hpower .busSilent [(b : Int)])
  rw [silenced]
  refine ⟨fun k hsilent hsilences => ?_, ?_, ?_, ?_⟩
  · rw [hrd, rd_bump_ne _ hsilences, rd_wr_ne _ _ hsilent]
  · rw [hrd, rd_bump_ne _ hne.symm, rd_wr_same]
  · rw [hrd, rd_bump_same, rd_wr_ne _ _ hne]
  · rw [raise_out_on _ _ _ hpower]
    exact List.mem_cons_self

/-- The amplifiers follow the buses that are left. -/
theorem silenced_amps {s : State} {b n : Nat} (hb : b < 32) (hn : n < 8) (haud : pdOn s 12 = true) (hon : pdOn s 2 = true) :
    bitOf (rd (settleAmps (silenced s b)) E.aud_AMP_STATE) n = true ↔
      ∃ c, c < 32 ∧ bitOf (rd s (E.aud_AMP_MASK n)) c = true ∧ c ≠ b ∧ rd s (E.bus_SILENT c) = 0 := by
  obtain ⟨hrd, hsilent, _, _⟩ := silenced_leaves hb hon
  have hpd : pdOn (silenced s b) 12 = true := by
    rw [pdOn, hrd _ (by simp only [E.pd_STATE, E.bus_SILENT]; omega) (by simp only [E.pd_STATE, E.bus_SILENCES]; omega)]
    exact haud
  rw [ampState_settleAmps hpd hn, hrd _ (by simp only [E.aud_AMP_MASK, E.bus_SILENT]; omega) (by simp only [E.aud_AMP_MASK, E.bus_SILENCES]; omega)]
  refine exists_congr fun c => and_congr_right fun _ => and_congr_right fun _ => ?_
  by_cases hc : c = b
  · rw [hc, hsilent]
    simp
  · rw [hrd _ (by simp only [E.bus_SILENT]; omega) (by simp only [E.bus_SILENT, E.bus_SILENCES]; omega)]
    simp [hc]

end Sys2Proof.Proofs
end

section
/-! O53: audio ticks, frame syncs, clocks and silence. -/

namespace Sys2Proof.Proofs

open Sys2Proof Sys2Proof.Machine Sys2Proof.Laws

/-- A channel that locks gets the RATIO it locked at, and tells it. -/
theorem asrcLocked_locks {s : State} {k : Nat} (r : Nat) (hseeks : rd s (E.asrc_STATE k) = 1) (hon : pdOn s 2 = true) (hk : k < 16) :
    asrcLocked s k r = emit (wr (wr (setAsrcLevel s k 0) (E.asrc_STATE k) 2) (E.asrc_RATIO k) (r % 2 ^ 32)) (.event false .asrcLocked [(k : Int)]) := by
  have hpower : pdOn (wr (wr (setAsrcLevel s k 0) (E.asrc_STATE k) 2) (E.asrc_RATIO k) (r % 2 ^ 32)) 2 = true := by
    rw [pdOn, rd_wr_ne _ _ (by simp only [E.pd_STATE, E.asrc_RATIO]; omega), rd_wr_ne _ _ (by simp only [E.pd_STATE, E.asrc_STATE]; omega)]
    exact hon
  rw [asrcLocked]
  dsimp only
  rw [hseeks, if_pos (.inl rfl), if_neg (c := 1 = 2) (by decide), raise_on _ _ _ hpower]

/-- A locked channel whose ratio moved, before it tells that it locked anew. -/
def relockedAt (s : State) (k r : Nat) : State :=
  wr (wr (setAsrcLevel (bump s (E.asrc_RELOCKS k)) k 0) (E.asrc_STATE k) 2) (E.asrc_RATIO k) (r % 2 ^ 32)

theorem asrcLocked_relocks {s : State} {k : Nat} (r : Nat) (hlocked : rd s (E.asrc_STATE k) = 2)
    (hmoved : ratioMoved (rd s (E.asrc_RATIO k)) (r % 2 ^ 32) = true) : asrcLocked s k r = raise (relockedAt s k r) .asrcLocked [k] := by
  rw [asrcLocked, relockedAt]
  dsimp only
  rw [if_pos (.inr ⟨hlocked, hmoved⟩), if_pos hlocked]

theorem rd_relockedAt (s : State) (k r : Nat) :
    rd (relockedAt s k r) (E.asrc_STATE k) = 2 ∧ rd (relockedAt s k r) (E.asrc_RATIO k) = r % 2 ^ 32 ∧
      rd (relockedAt s k r) (E.asrc_RELOCKS k) = satInc (rd s (E.asrc_RELOCKS k)) 1 ∧
      ∀ j, j ≠ E.asrc_STATE k → j ≠ E.asrc_RATIO k → j ≠ E.asrc_RELOCKS k → rd (relockedAt s k r) j = rd s j := by
  have hne : E.asrc_STATE k ≠ E.asrc_RATIO k ∧ E.asrc_RELOCKS k ≠ E.asrc_RATIO k ∧ E.asrc_RELOCKS k ≠ E.asrc_STATE k := by
    simp only [E.asrc_STATE, E.asrc_RATIO, E.asrc_RELOCKS]
    omega
  rw [relockedAt]
  refine ⟨by rw [rd_wr_ne _ _ hne.1, rd_wr_same], rd_wr_same _ _ _, ?_, fun j hstate hratio hrelocks => ?_⟩
  · rw [rd_wr_ne _ _ hne.2.1, rd_wr_ne _ _ hne.2.2]
    exact rd_bump_same _ _
  · rw [rd_wr_ne _ _ hratio, rd_wr_ne _ _ hstate]
    exact rd_bump_ne _ hrelocks

/-- Settles O53: each clock, port and silence command leaves what its clause says; a sample tick does so part by part, its streams, inputs,
buses and fades each leaving alone what the others write. -/
theorem audioClocksPortsAndSilence : Obligations.AudioClocksPortsAndSilence := by
  unfold Obligations.AudioClocksPortsAndSilence
  refine ⟨⟨?tick, ?swap, ?tickNone⟩, ⟨?master, ?counts, ?locks, ?syncNone⟩, ⟨?loses, ?misses, ?missNone⟩, ⟨?phase, ?phaseNone⟩,
    ⟨?asrc, ?moved, ?still, ?asrcNone⟩, ⟨?silent, ?silentNone⟩, ?mclkb, ?mclkbSet⟩
  case tick =>
    intro s d pdm hruns hon hidle
    have htick := sampleTick_runs pdm hruns hon
    rw [swapAtTick_idle hidle] at htick
    obtain ⟨htdms, hasrcs, hstreams, hbuses⟩ := ticked_levels s d.val pdm
    have hmem : (ticked s d.val pdm).mem = s.mem := (ticked_kept s d.val pdm).parts .mem (by decide)
    have hfree : (ticked s d.val pdm).free = s.free := (ticked_kept s d.val pdm).parts .free (by decide)
    generalize ticked s d.val pdm = t at *
    refine ⟨_, congrArg Host.Outcome.next htick, congrArg (· + 128) hfree, hmem, htdms, hasrcs, fun n o hn hdomain hopened hdir hstate => ?_,
      fun hnone b hb hdomain => (hbuses b).trans (mixed_out_nothing pdm hnone hb hdomain)⟩
    have hplays := streamsTicked_plays hn hdomain hopened (by rw [isPlayback, hdir]; rfl) hstate
    rw [← hstreams] at hplays
    exact hplays
  case swap =>
    intro s d pdm hruns hon hpower hwaits hnone
    have htick := sampleTick_runs pdm hruns hon
    rw [swapAtTick_last hwaits hnone] at htick
    obtain ⟨hswaps, hleft, htold⟩ := lastSwap_leaves (s := s) (d := d.val) hpower
    have hanswer := iclComplete_kept_clasp (lastSwap s d.val) (sequencerOf d.val) {}
    have htaken := taken_iclComplete (lastSwap s d.val) (sequencerOf d.val) {}
    have hrd := rd_iclComplete (lastSwap s d.val) (sequencerOf d.val) {} E.aud_SWAPS
    generalize lastSwap s d.val = v at *
    generalize iclComplete v (sequencerOf d.val) {} = u at *
    obtain ⟨hkeys, hout, happly⟩ := ticked_leaves u d.val pdm
    have hclasp : (ticked u d.val pdm).clasp = u.clasp := (ticked_kept u d.val pdm).parts .clasp (by decide)
    generalize ticked u d.val pdm = t at *
    refine ⟨_, congrArg Host.Outcome.next htick, ?_, ?_, hout _ (by rw [hanswer.parts .out (by decide)]; exact htold), ?_⟩
    · refine (hkeys _ ?_).trans (hrd.trans hswaps)
      rintro (hbus | hamp | ⟨m, hm, heq⟩)
      · simp only [busKey, E.aud_SWAPS, E.pwr_EVENTS_DROPPED] at hbus
        omega
      · exact absurd hamp (by decide)
      · simp only [E.aud_SWAPS, E.tdm_STATE] at heq
        omega
    · rw [← hleft, applyWaits, applyWaits, ← hanswer.parts .audio (by decide), ← happly]
    · rw [← htaken, ← iclOf_congr hclasp]
      rfl
  case tickNone =>
    intro s d pdm hoff
    refine congrArg Host.Outcome.next (if_pos ?_)
    rcases hoff with hstops | hoff
    · exact .inl hstops
    · exact .inr (by rw [hoff]; decide)
  case master =>
    intro s n sm pdm hrole hoff hgated hon hgate
    obtain ⟨hstate, hlevel, hrx, hfree, hsent⟩ := tdmFrameSync_master_leaves n.isLt sm pdm hrole hoff hgated hon hgate
    exact ⟨_, rfl, hstate, hlevel, hrx, hfree, hsent⟩
  case counts =>
    intro s n sm pdm hrole hseeks hfew hon
    refine ⟨_, congrArg Host.Outcome.next (tdmFrameSync_counts sm pdm hrole hon hseeks hfew), rd_wr_same _ _ _, ?_, rfl, rfl⟩
    have hrec : tdmOf (syncCounted s n.val sm) n.val = _ := tdmOf_setTdm s n.val _
    rw [hrec]
  case locks =>
    intro s n sm pdm hrole hseeks hmany hon hpower
    exact ⟨_, rfl, tdmFrameSync_locks_leaves n.isLt sm pdm hrole hseeks hmany hon hpower⟩
  case syncNone =>
    intro s n sm pdm hoff
    refine congrArg Host.Outcome.next (if_pos ?_)
    rcases hoff with hstops | hgated | hoff
    · simp [tdmState, hstops]
    · simp [tdmState, hgated]
    · simp [hoff]
  case loses =>
    intro s n hrole hruns hmiss hon hpower
    exact ⟨_, congrArg Host.Outcome.next (tdmFrameMissing_loses hrole hruns hmiss hon), syncLost_leaves n.isLt hpower⟩
  case misses => exact fun s n hrole hruns hmiss hon => congrArg Host.Outcome.next (tdmFrameMissing_misses hrole hruns hmiss hon)
  case missNone =>
    intro s n hoff
    refine congrArg Host.Outcome.next (if_pos ?_)
    rcases hoff with hmaster | hstops | hoff
    · exact .inl hmaster
    · exact .inr (.inl hstops)
    · exact .inr (.inr (.inr (by rw [hoff]; decide)))
  case phase =>
    intro s d slip p hport hseeks hruns hon
    have hmatched := matched_referenced d.isLt slip hport hruns hon
    have hexec : refPhaseMatch s d.val slip = settleDomains (matched s d.val slip) := by
      rw [refPhaseMatch, hport]
      exact if_pos ⟨hseeks, hruns⟩
    refine ⟨_, congrArg Host.Outcome.next hexec, (hmatched.settleDomains d.isLt).state, ?_⟩
    rw [(settleDomains_reclocks _).rd _ (by simp only [clockKey, asrcKey, E.aud_SLIPS, E.pwr_EVENTS_DROPPED]; omega),
      rd_matched_slips s d.isLt]
  case phaseNone =>
    intro s d slip hoff
    refine congrArg Host.Outcome.next ?_
    rw [refPhaseMatch]
    split
    · rfl
    · next p hport =>
      rcases hoff with hnone | hstate
      · rw [hnone] at hport
        cases hport
      · exact if_neg fun h => hstate h.1
  case asrc => exact fun s k r hseeks hon => congrArg Host.Outcome.next (asrcLocked_locks r hseeks hon k.isLt)
  case moved =>
    intro s k r hlocked hmoved hon
    obtain ⟨hstate, hratio, hrelocks, hother⟩ := rd_relockedAt s k.val r
    have hpower : pdOn (relockedAt s k.val r) 2 = true := by
      rw [pdOn, hother _ (by simp only [E.pd_STATE, E.asrc_STATE]; omega) (by simp only [E.pd_STATE, E.asrc_RATIO]; omega)
        (by simp only [E.pd_STATE, E.asrc_RELOCKS]; omega)]
      exact hon
    have hod := rd_congr (raise_od_on hpower .asrcLocked [(k.val : Int)])
    refine ⟨_, congrArg Host.Outcome.next (asrcLocked_relocks r hlocked (decide_eq_true hmoved)), (hod _).trans hstate, (hod _).trans hratio,
      (hod _).trans hrelocks, raise_out_on _ _ _ hpower, fun j hj => (hod j).trans ?_⟩
    by_cases hself : j = E.asrc_STATE k.val
    · rw [hself, hstate, hlocked]
    · exact hother j hself (fun h => hj (by rw [h]; exact .head _)) (fun h => hj (by rw [h]; exact .tail _ (.head _)))
  case still =>
    intro s k r hlocked hstill
    refine congrArg Host.Outcome.next (if_neg ?_)
    rintro (hseeks | ⟨_, hmoved⟩)
    · omega
    · have := of_decide_eq_true hmoved
      omega
  case asrcNone => exact fun s k r hseeks hlocked => congrArg Host.Outcome.next (if_neg fun h => h.elim hseeks fun h => hlocked h.1)
  case silent =>
    intro s b hquiet hloud haud hon
    obtain ⟨hrd, hsilent, hsilences, htold⟩ := silenced_leaves b.isLt hon
    have hkeep : ∀ k, (∀ m, m < 6 → k ≠ E.tdm_STATE m) → k ≠ E.aud_AMP_STATE →
        rd (settleGates (settleAmps (silenced s b.val))) k = rd (silenced s b.val) k := fun k htdm hamp =>
      (rd_settleGates_ne _ htdm).trans (rd_settleAmps_ne _ hamp)
    refine ⟨settleGates (settleAmps (silenced s b.val)), congrArg Host.Outcome.next (if_pos ⟨hquiet, hloud, haud⟩), ?_, ?_, ?_, fun n hn => ?_⟩
    · rw [hkeep _ (fun m hm => by simp only [E.bus_SILENT, E.tdm_STATE]; omega) (by simp only [E.bus_SILENT, E.aud_AMP_STATE]; omega), hsilent]
    · rw [hkeep _ (fun m hm => by simp only [E.bus_SILENCES, E.tdm_STATE]; omega) (by simp only [E.bus_SILENCES, E.aud_AMP_STATE]; omega), hsilences]
    · rw [(settleGates_kept_od _).parts .out (by decide), (settleAmps_kept_od _).parts .out (by decide)]
      exact htold
    · rw [rd_settleGates_ne _ (fun m hm => by simp only [E.aud_AMP_STATE, E.tdm_STATE]; omega)]
      exact silenced_amps b.isLt hn haud hon
  case silentNone =>
    intro s b hoff
    refine congrArg Host.Outcome.next (if_neg ?_)
    rintro ⟨hquiet, hloud, haud⟩
    rcases hoff with hnone | hsilent | hoff
    · rw [hnone] at hquiet
      exact Bool.false_ne_true hquiet
    · exact hsilent hloud
    · rw [hoff] at haud
      exact Bool.false_ne_true haud
  case mclkb =>
    intro s on haud href
    have hclock := settleDomains_reclocks { s with audio := { s.audio with mclkb := on } }
    obtain ⟨a, ha⟩ := hclock.audio
    refine ⟨_, rfl, ?_, mclkb_state (s := { s with audio := { s.audio with mclkb := on } }) haud href, hclock.kept.parts .mem (by decide)⟩
    exact (congrArg (·.mclkb) ha)
  case mclkbSet =>
    intro s on
    obtain ⟨a, ha⟩ := (settleDomains_reclocks { s with audio := { s.audio with mclkb := on } }).audio
    exact ⟨_, rfl, congrArg (·.mclkb) ha⟩

end Sys2Proof.Proofs
end

section
/-! SUPPORT. Applied audio configurations and host streams (R331-R333, R338): what entering, leaving and closing a stream, and writing its header,
leave. -/

namespace Sys2Proof.Proofs

open Sys2Proof Sys2Proof.Machine Sys2Proof.Laws

/-! ### Applied configurations (R338) -/

theorem relockAsrc_apply (s : State) (k : Nat) : (relockAsrc s k).audio.apply = s.audio.apply := by
  rw [relockAsrc]
  split
  · rfl
  · split <;> rfl

theorem landWhere_apply (s : State) (p : Nat → Bool) : (landWhere s p).audio.apply = s.audio.apply := by
  rw [(landWhere_kept_values s p).parts .audio (by decide)]

/-- A domain's strands swap their crosspoints when the bank held them. -/
def strandSwapped (keys : List Nat) (olds : List (List Nat)) (t : State) (d : Nat) : State :=
  if keys.contains (E.aud_STRAND d) then
    wr (setFades t d (swapFades (fadesOf t d) (at0 [] olds d) (strandOf t d)).1) E.aud_CROSSFADES
      ((rd t E.aud_CROSSFADES + (swapFades (fadesOf t d) (at0 [] olds d) (strandOf t d)).2) % 2 ^ 32)
  else t

/-- A landed value of the audio block starts its sweep, wakes its bus or locks its channel anew. -/
def audioKeyLanded (s t : State) (k : Nat) : State :=
  if 0x4460 ≤ k / 256 ∧ k / 256 < 0x44A0 then
    if k = E.mix_GAIN (k / 256 - 0x4460) then
      setMix t (k / 256 - 0x4460) { mixOf t (k / 256 - 0x4460) with
        gFrom := sweep (mixOf t (k / 256 - 0x4460)).gFrom (gainOf (toInt 16 (rd s k))) (mixOf t (k / 256 - 0x4460)).gPos, gPos := 0 }
    else if k = E.mix_DELAY (k / 256 - 0x4460) then
      setMix t (k / 256 - 0x4460) { mixOf t (k / 256 - 0x4460) with dFrom := rd s k, dPos := 0 }
    else t
  else if 0x44A0 ≤ k / 256 ∧ k / 256 < 0x44C0 then
    if k = E.bus_GAIN (k / 256 - 0x44A0) then
      setBus t (k / 256 - 0x44A0) { busOf t (k / 256 - 0x44A0) with
        gFrom := sweep (busOf t (k / 256 - 0x44A0)).gFrom (gainOf (toInt 16 (rd s k))) (busOf t (k / 256 - 0x44A0)).gPos, gPos := 0 }
    else if k = E.bus_DOMAIN (k / 256 - 0x44A0) then wakeBus t (k / 256 - 0x44A0)
    else t
  else if 0x4440 ≤ k / 256 ∧ k / 256 < 0x4450 then relockAsrc t (k / 256 - 0x4440)
  else t

/-- The keys of the audio banks that a landing takes. -/
def audioKeys (s : State) (p : Nat → Bool) : List Nat := (s.dict.applying.map (·.1)).filter (fun k => isSwapKey k && p k)

theorem landAudio_eq (s : State) (p : Nat → Bool) : landAudio s p =
    settleGates (settleAmps ((audioKeys s p).foldl (audioKeyLanded s) ([0, 1, 2].foldl (strandSwapped (audioKeys s p) ([0, 1, 2].map (strandOf s)))
      (landWhere s (fun k => isSwapKey k && p k))))) := rfl

theorem strandSwapped_apply (keys : List Nat) (olds : List (List Nat)) (t : State) (d : Nat) :
    (strandSwapped keys olds t d).audio.apply = t.audio.apply := by
  rw [strandSwapped]
  split
  · rw [wr_audio, setFades]
  · rfl

theorem audioKeyLanded_apply (s t : State) (k : Nat) : (audioKeyLanded s t k).audio.apply = t.audio.apply := by
  have hmix : ∀ n x, (setMix t n x).audio.apply = t.audio.apply := fun _ _ => rfl
  have hbus : ∀ b x, (setBus t b x).audio.apply = t.audio.apply := fun _ _ => rfl
  have hwake : ∀ b, (wakeBus t b).audio.apply = t.audio.apply := fun b => by rw [wakeBus, wr_audio, hbus]
  rw [audioKeyLanded]
  generalize k / 256 = i
  split
  · split
    · exact hmix _ _
    · split
      · exact hmix _ _
      · rfl
  · split
    · split
      · exact hbus _ _
      · split
        · exact hwake _
        · rfl
    · split
      · exact relockAsrc_apply t _
      · rfl

/-- Landing values leaves what each sequencer awaits. -/
theorem landAudio_apply (s : State) (p : Nat → Bool) : (landAudio s p).audio.apply = s.audio.apply := by
  have hfolds : ((audioKeys s p).foldl (audioKeyLanded s) ([0, 1, 2].foldl (strandSwapped (audioKeys s p) ([0, 1, 2].map (strandOf s)))
      (landWhere s (fun k => isSwapKey k && p k)))).audio.apply = s.audio.apply :=
    foldl_keeps (P := fun t => t.audio.apply = s.audio.apply) (fun t k _ h => (audioKeyLanded_apply s t k).trans h)
      (foldl_keeps (P := fun t => t.audio.apply = s.audio.apply) (fun t d _ h => (strandSwapped_apply _ _ t d).trans h) (landWhere_apply s _))
  rw [landAudio_eq, (settleGates_kept_od _).parts .audio (by decide), (settleAmps_kept_od _).parts .audio (by decide)]
  exact hfolds

theorem landAudio_kept_values (s : State) (p : Nat → Bool) : Kept [.od, .dom, .dict, .audio] s (landAudio s p) := by
  have := @May.head
  have := @May.tail
  exact landAudio_kept (Kept.refl _ s) p

/-- The domains of a sequencer that an APPLY names and that run. -/
def liveDomains (s : State) (n : Nat) (q : Taken) : List Nat :=
  ([0, 1, 2].filter (fun d => sequencerOf d == n && bitOf (argOf q 2) d)).filter (fun d => domState s d != 0)

theorem liveDomains_eq (s : State) (n : Nat) (q : Taken) :
    liveDomains s n q = [0, 1, 2].filter (fun d => sequencerOf d == n && bitOf (argOf q 2) d && domState s d != 0) := by
  rw [liveDomains, List.filter_filter]
  exact List.filter_congr fun d _ => Bool.and_comm _ _

/-- The values that an APPLY lands at once: those of the domains named that do not run. -/
def landsNow (s : State) (n : Nat) (q : Taken) (k : Nat) : Bool :=
  ([0, 1, 2].filter (fun d => sequencerOf d == n && bitOf (argOf q 2) d)).contains (keyDomain s k) && domState s (keyDomain s k) == 0

theorem audioApply_asked {s : State} {n : Nat} {q : Taken} (hasks : iclAsks s n 0xF001 q = true) (hon : pdOn s 12 = true)
    (hnone : applyWaits s n = []) : audioApply s n =
      if q.len ≠ 1 then iclComplete s n { code := 3 }
      else if liveDomains s n q = [] then iclComplete (landAudio s (landsNow s n q)) n {}
      else setApplyWaits (landAudio s (landsNow s n q)) n (liveDomains s n q) := by
  obtain ⟨htaken, hop⟩ := iclAsks_iff.mp hasks
  rw [audioApply, htaken]
  dsimp only
  rw [if_neg (by simp [hop, hon, hnone])]
  rfl

theorem liveDomains_nil {s : State} {n : Nat} {q : Taken}
    (hstop : ∀ d, d < 3 → sequencerOf d = n → bitOf (argOf q 2) d = true → domState s d = 0) : liveDomains s n q = [] := by
  rw [liveDomains_eq, List.filter_eq_nil_iff]
  intro d hd hlive
  rw [Bool.and_eq_true, Bool.and_eq_true, beq_iff_eq, bne_iff_ne] at hlive
  obtain ⟨⟨hseq, hbit⟩, hruns⟩ := hlive
  refine hruns (hstop d ?_ hseq hbit)
  simp only [List.mem_cons, List.not_mem_nil, or_false] at hd
  omega

/-! ### Streams that are entered and left (R331) -/

theorem enterStream_audio (s : State) (n : Nat) (o : StreamOpen) :
    (enterStream s n o).audio = (setStream s n { opened := some o }).audio := by
  rw [enterStream, (winWr_kept_mem _ _ _ _).parts .audio (by decide), (winWr_kept_mem _ _ _ _).parts .audio (by decide)]
  rfl

theorem rd_enterStream (s : State) (n : Nat) (o : StreamOpen) (k : Nat) :
    rd (enterStream s n o) k = rd (wr (setStreamState s n 0) (E.hs_HOLDER n) o.client) k := by
  rw [enterStream, rd_winWr, rd_winWr]
  rfl

theorem streamOf_enterStream (s : State) (n : Nat) (o : StreamOpen) : streamOf (enterStream s n o) n = { opened := some o } := by
  rw [streamOf, enterStream_audio]
  exact streamOf_setStream s n _

/-- A stream entered is held by its client, at STATE 0, and no other entry changes. -/
theorem enterStream_entries (s : State) (n : Nat) (o : StreamOpen) : rd (enterStream s n o) (E.hs_HOLDER n) = o.client ∧
    rd (enterStream s n o) (E.hs_STATE n) = 0 ∧ entriesKept [E.hs_HOLDER n, E.hs_STATE n] s (enterStream s n o) := by
  have hne : E.hs_STATE n ≠ E.hs_HOLDER n := by simp only [E.hs_STATE, E.hs_HOLDER]; omega
  refine ⟨by rw [rd_enterStream, rd_wr_same], by rw [rd_enterStream, rd_wr_ne _ _ hne, setStreamState, rd_wr_same], fun k hk => ?_⟩
  rw [rd_enterStream, rd_wr_ne _ _ (fun h => hk (by rw [h]; exact .head _)), setStreamState,
    rd_wr_ne _ _ (fun h => hk (by rw [h]; exact .tail _ (.head _)))]

theorem enterStream_clasp (s : State) (n : Nat) (o : StreamOpen) : (enterStream s n o).clasp = s.clasp := by
  rw [enterStream, (winWr_kept_mem _ _ _ _).parts .clasp (by decide), (winWr_kept_mem _ _ _ _).parts .clasp (by decide)]
  rfl

/-- A stream left is held by nobody, at STATE 0, its level kept for its fade. -/
theorem leaveStream_leaves (s : State) (n : Nat) : rd (leaveStream s n) (E.hs_HOLDER n) = 0xFFFF ∧ rd (leaveStream s n) (E.hs_STATE n) = 0 ∧
    streamOf (leaveStream s n) n = { level := (streamOf s n).level, last := (streamOf s n).last } := by
  have hne : E.hs_STATE n ≠ E.hs_HOLDER n := by simp only [E.hs_STATE, E.hs_HOLDER]; omega
  rw [leaveStream]
  refine ⟨rd_wr_same _ _ _, ?_, ?_⟩
  · rw [rd_wr_ne _ _ hne, setStreamState, rd_wr_same]
  · exact streamOf_setStream s n _

theorem leaveStream_kept_values (s : State) (n : Nat) : Kept [.od, .audio] s (leaveStream s n) := by
  have := @May.head
  have := @May.tail
  exact leaveStream_kept (Kept.refl _ s) n

/-! ### Headers (R332) -/

theorem writeStreamHeader_kept_mem (s : State) (n : Nat) : Kept [.out, .mem, .clasp, .ports, .memc] s (writeStreamHeader s n) := by
  have := @May.head
  have := @May.tail
  exact writeStreamHeader_kept (Kept.refl _ s) n

/-- The header of an open stream in its client's ring, before the event. -/
def headerWritten (s : State) (n : Nat) (o : StreamOpen) : State :=
  winWr (winWr s o.client (o.ring + (if isPlayback s n then 4 else 0)) (leBytes 4 (streamOf s n).index)) o.client (o.ring + 8)
    (leBytes 4 (rd s (E.hs_STATE n)) ++ leBytes 4 (streamOf s n).count ++ leBytes 8 s.time)

theorem writeStreamHeader_open {s : State} {n : Nat} {o : StreamOpen} (hopened : (streamOf s n).opened = some o) :
    writeStreamHeader s n = setEvent (headerWritten s n o) o.client 5 := by
  rw [writeStreamHeader, headerWritten]
  dsimp only
  rw [hopened]

theorem headerWritten_kept (s : State) (n : Nat) (o : StreamOpen) : Kept [.mem, .memc] s (headerWritten s n o) :=
  kept_trans (winWr_kept_mem _ _ _ _) (winWr_kept_mem _ _ _ _)

theorem taken_writeStreamHeader (s : State) (n c : Nat) : (claspOf (writeStreamHeader s n) c).taken = (claspOf s c).taken := by
  cases hopened : (streamOf s n).opened with
  | none =>
    rw [writeStreamHeader]
    dsimp only
    rw [hopened]
  | some o => rw [writeStreamHeader_open hopened, taken_setEvent, claspOf_congr ((headerWritten_kept s n o).parts .clasp (by decide))]

theorem writeStreamHeader_out {s : State} {n : Nat} {o : StreamOpen} {e : Out} (hopened : (streamOf s n).opened = some o) (he : e ∈ s.out) :
    e ∈ (writeStreamHeader s n).out := by
  rw [writeStreamHeader_open hopened]
  refine setEvent_out_mem _ _ ?_
  rw [(headerWritten_kept s n o).parts .out (by decide)]
  exact he

/-- The client of a stream whose header is written has EVENT bit 5. -/
theorem writeStreamHeader_event {s : State} {n : Nat} {o : StreamOpen} (hopened : (streamOf s n).opened = some o)
    (hreset : resettingClient s o.client = false) : bitOf (claspOf (writeStreamHeader s n) o.client).event 5 = true := by
  have hkept := headerWritten_kept s n o
  have hreset' : resettingClient (headerWritten s n o) o.client = false := by
    rw [resettingClient_congr (s := s) (t := headerWritten s n o) (hkept.parts .ten (by decide)) (fun k _ => rd_congr (hkept.parts .od (by decide)) k)]
    exact hreset
  rw [writeStreamHeader_open hopened, event_setEvent hreset']
  exact bitOf_setBit_same _ _ _

theorem closeStream_stopped {s : State} {n : Nat} (hstop : rd s (E.hs_STATE n) = 0) : closeStream s n = leaveStream s n := by
  rw [closeStream, if_pos hstop]

/-- What a closed stream leaves of itself and of the requests taken. -/
theorem closeStream_leaves (s : State) (n c : Nat) : rd (closeStream s n) (E.hs_HOLDER n) = 0xFFFF ∧ rd (closeStream s n) (E.hs_STATE n) = 0 ∧
    streamOf (closeStream s n) n = { level := (streamOf s n).level, last := (streamOf s n).last } ∧
    (claspOf (closeStream s n) c).taken = (claspOf s c).taken := by
  obtain ⟨u, hclose, hstream, htaken⟩ : ∃ u, closeStream s n = leaveStream u n ∧ streamOf u n = streamOf s n ∧
      (claspOf u c).taken = (claspOf s c).taken := by
    rw [closeStream]
    split
    · exact ⟨s, rfl, rfl, rfl⟩
    · refine ⟨_, rfl, ?_, taken_writeStreamHeader _ n c⟩
      rw [streamOf, (writeStreamHeader_kept_mem _ n).parts .audio (by decide)]
      rfl
  obtain ⟨hholder, hstate, hleft⟩ := leaveStream_leaves u n
  rw [hclose]
  exact ⟨hholder, hstate, by rw [hleft, hstream], by rw [claspOf_congr ((leaveStream_kept_values u n).parts .clasp (by decide)), htaken]⟩

/-! ### Requests (R331) -/

/-- The stream that a STREAM_OPEN asks for. -/
def streamAsked (c : Nat) (q : Taken) : StreamOpen :=
  { client := c, ring := argOf q 3, frames := argOf q 4, periods := argOf q 5, wide := bitOf (argOf q 6) 0, latency := fld (argOf q 6) 8 8 }

section Open

variable {s : State} {c : Nat} {q : Taken}

theorem streamOpenReq_bad (hbad : 32 ≤ argOf q 2 ∨ fld (argOf q 6) 1 7 ≠ 0 ∨ 65536 ≤ argOf q 6) : streamOpenReq s c q = fail s c 4 := by
  rw [streamOpenReq]
  exact if_pos hbad

variable (hn : argOf q 2 < 32) (hzero : fld (argOf q 6) 1 7 = 0) (harg : argOf q 6 < 65536)
include hn hzero harg

theorem streamOpenReq_denied (hright : streamRight s c (argOf q 2) = false) : streamOpenReq s c q = denied s c 0x05 := by
  rw [streamOpenReq]
  dsimp only
  rw [if_neg (by omega), if_pos (by rw [hright]; decide)]

theorem streamOpenReq_open {o : StreamOpen} (hright : streamRight s c (argOf q 2) = true) (hopened : (streamOf s (argOf q 2)).opened = some o) :
    streamOpenReq s c q = fail s c (if o.client = c then 5 else 0x0100) := by
  have hheld : streamHeldBy s c (argOf q 2) = (o.client == c) := by rw [streamHeldBy, hopened]
  rw [streamOpenReq]
  dsimp only
  rw [if_neg (by omega), if_neg (by rw [hright]; decide), hheld, hopened]
  by_cases hown : o.client = c
  · rw [if_neg (by simp [hown]), if_pos (c := (some o).isSome = true) rfl, if_pos hown]
  · rw [if_pos (by simp [hown]), if_neg hown]

theorem streamOpenReq_free (hright : streamRight s c (argOf q 2) = true) (hnone : (streamOf s (argOf q 2)).opened = none) (hon : pdOn s 12 = true)
    (hlanes : lanesOk (rd s) (argOf q 2) = true) (hruns : domState s (streamDomain s (argOf q 2)) ≠ 0) : streamOpenReq s c q =
      if geometryFits q then
        if inWindow s c (argOf q 3) (64 + argOf q 5 * argOf q 4 * rd s (E.hs_LANES (argOf q 2)) * (if bitOf (argOf q 6) 0 then 4 else 2)) then
          enterStream (ok s c []) (argOf q 2) (streamAsked c q)
        else deniedAddr s c
      else fail s c 0x0102 := by
  rw [streamOpenReq]
  dsimp only
  rw [if_neg (by omega), if_neg (by rw [hright]; decide), hnone, if_neg (by simp), if_neg (by simp), withDomain_on _ _ hon,
    if_neg (by rw [hlanes]; simp [hruns])]
  by_cases hfits : geometryFits q = true
  · have hgeometry := of_decide_eq_true hfits
    rw [if_pos hfits, if_neg (by omega)]
    split
    · next hout => rw [if_neg (by simpa [sampleBytes] using hout)]
    · next hin => rw [if_pos (by simpa [sampleBytes] using hin), streamAsked]
  · have hgeometry := of_decide_eq_false (Bool.eq_false_iff.mpr hfits)
    rw [if_neg hfits, if_pos (by omega)]

end Open

section Close

variable {s : State} {c : Nat} {q : Taken}

theorem streamCloseReq_checked (hn : argOf q 2 < 32) (hright : streamRight s c (argOf q 2) = true) : streamCloseReq s c q =
    if streamHeldBy s c (argOf q 2) then ok (closeStream s (argOf q 2)) c []
    else if (streamOf s (argOf q 2)).opened.isSome then fail s c 0x0100 else fail s c 4 := by
  rw [streamCloseReq, if_neg (by omega), if_neg (by rw [hright]; decide)]

/-- The consumer's index of a stream: the model's own for playback, the host's in the ring for capture. -/
def consumerIndex (s : State) (n : Nat) : Nat :=
  if isPlayback s n then (streamOf s n).index else match (streamOf s n).opened with | some o => winWord s o.client (o.ring + 4) | none => 0

theorem streamQueryReq_checked (hn : argOf q 2 < 32) (hright : streamRight s c (argOf q 2) = true) : streamQueryReq s c q =
    ok s c [rd s (E.hs_STATE (argOf q 2)), consumerIndex s (argOf q 2), rd s (E.hs_STARVATIONS (argOf q 2))] := by
  rw [streamQueryReq]
  dsimp only
  rw [if_neg (by omega), if_neg (by rw [hright]; decide)]
  rfl

end Close

/-! ### Period boundaries (R333) -/

theorem streamBoundary_plays {s : State} {n : Nat} {o : StreamOpen} (hopened : (streamOf s n).opened = some o) (hplays : isPlayback s n = true) :
    streamBoundary s n = writeStreamHeader (playBoundary s n o) n := by
  rw [streamBoundary, hopened]
  exact congrArg (writeStreamHeader · n) (if_pos hplays)

theorem streamBoundary_captures {s : State} {n : Nat} {o : StreamOpen} (hopened : (streamOf s n).opened = some o)
    (hcaptures : isPlayback s n = false) : streamBoundary s n = writeStreamHeader (captureBoundary s n o) n := by
  rw [streamBoundary, hopened]
  exact congrArg (writeStreamHeader · n) (if_neg (by rw [hcaptures]; decide))

/-- A playback stream a period on. -/
def nextPeriod (x : StreamRec) : StreamRec := { x with index := (x.index + 1) % 2 ^ 32, count := x.count % 2 ^ 32, pos := 0 }

section Play

variable {s : State} {n : Nat} {o : StreamOpen} (hruns : rd s (E.hs_STATE n) = 1)
  (hnear : ahead s o (((streamOf s n).index + 1) % 2 ^ 32) ≤ o.periods)
include hruns hnear

/-- A running playback stream that its host is not too far ahead of plays on or starves. -/
theorem playBoundary_runs : playBoundary s n o =
    if 0 < ahead s o (((streamOf s n).index + 1) % 2 ^ 32) ∧ domState s (streamDomain s n) ≠ 0 then setStream s n (nextPeriod (streamOf s n))
    else raise (bump (setStreamState (setStream s n { nextPeriod (streamOf s n) with count := ((streamOf s n).count % 2 ^ 32 + 1) % 2 ^ 32 }) n 2)
      (E.hs_STARVATIONS n)) .streamStarved [n] := by
  have hpast : decide ((o.periods : Int) < countDiff (winWord s o.client o.ring) (((streamOf s n).index + 1) % 2 ^ 32)) = false :=
    decide_eq_false (Int.not_lt.mpr hnear)
  rw [playBoundary, ahead, nextPeriod]
  dsimp only
  rw [if_pos (c := rd s (E.hs_STATE n) = 1) hruns, hpast]
  simp [hruns, b2n]

end Play

theorem captureBoundary_short {s : State} {n : Nat} {o : StreamOpen} (hshort : (streamOf s n).cap.length < o.frames * rd s (E.hs_LANES n)) :
    captureBoundary s n o = setStream (setStreamState s n 1) n { streamOf s n with cap := [] } := by
  rw [captureBoundary]
  exact if_pos hshort

end Sys2Proof.Proofs
end

section
/-! O54: applied audio configurations and host streams. -/

namespace Sys2Proof.Proofs

open Sys2Proof Sys2Proof.Machine Sys2Proof.Laws

/-- A stream starved at its period boundary, before its header is written. -/
def starved (s : State) (n : Nat) : State :=
  raise (bump (setStreamState (setStream s n { nextPeriod (streamOf s n) with count := ((streamOf s n).count % 2 ^ 32 + 1) % 2 ^ 32 }) n 2)
    (E.hs_STARVATIONS n)) .streamStarved [n]

theorem starved_leaves {s : State} {n : Nat} (hn : n < 32) (hon : pdOn s 2 = true) : rd (starved s n) (E.hs_STATE n) = 2 ∧
    rd (starved s n) (E.hs_STARVATIONS n) = satInc (rd s (E.hs_STARVATIONS n)) 1 ∧
    .event false .streamStarved [(n : Int)] ∈ (starved s n).out ∧ (streamOf (starved s n) n).opened = (streamOf s n).opened ∧
    ∀ c, resettingClient (starved s n) c = resettingClient s c := by
  have hne : E.hs_STATE n ≠ E.hs_STARVATIONS n := by simp only [E.hs_STATE, E.hs_STARVATIONS]; omega
  rw [starved]
  generalize hx : ({ nextPeriod (streamOf s n) with count := ((streamOf s n).count % 2 ^ 32 + 1) % 2 ^ 32 } : StreamRec) = x
  have hopened : x.opened = (streamOf s n).opened := by rw [← hx]; rfl
  have hpower : pdOn (bump (setStreamState (setStream s n x) n 2) (E.hs_STARVATIONS n)) 2 = true := by
    rw [pdOn, rd_bump_ne _ (by simp only [E.pd_STATE, E.hs_STARVATIONS]; omega), setStreamState,
      rd_wr_ne _ _ (by simp only [E.pd_STATE, E.hs_STATE]; omega)]
    exact hon
  have hod := rd_congr (raise_od_on hpower .streamStarved [(n : Int)])
  refine ⟨?_, ?_, ?_, ?_, fun c => ?_⟩
  · rw [hod, rd_bump_ne _ hne, setStreamState, rd_wr_same]
  · rw [hod, rd_bump_same, setStreamState, rd_wr_ne _ _ hne.symm]
    rfl
  · rw [raise_out_on _ _ _ hpower]
    exact List.mem_cons_self
  · rw [streamOf, (raise_kept_events _ _ _).parts .audio (by decide)]
    exact (congrArg StreamRec.opened (streamOf_setStream s n x)).trans hopened
  · have hten : (raise (bump (setStreamState (setStream s n x) n 2) (E.hs_STARVATIONS n)) .streamStarved [(n : Int)]).ten = s.ten :=
      (raise_kept_events _ _ _).parts .ten (by decide)
    refine resettingClient_congr hten (fun k hk => ?_) c
    rw [hod, rd_bump_ne _ (by simp only [E.guest_FIRST_CLIENT, E.hs_STARVATIONS] at hk ⊢; omega), setStreamState,
      rd_wr_ne _ _ (by simp only [E.guest_FIRST_CLIENT, E.hs_STATE] at hk ⊢; omega)]
    rfl

/-- The stream that an internal STREAM names. -/
def streamGiven (q : Taken) : StreamOpen :=
  { client := argOf q 3, ring := argOf q 4, frames := argOf q 5, periods := argOf q 6, wide := bitOf (argOf q 7) 0, latency := fld (argOf q 7) 8 8 }

theorem audioIclStream_enters {s : State} {n : Fin 2} {q : Taken} (hasks : iclAsks s n.val 0xF002 q = true) (hn : argOf q 2 < 32)
    (hclient : argOf q 3 < 4096) :
    execAudioIclStream n s = .next (iclComplete (enterStream s (argOf q 2) (streamGiven q)) n.val {}) := by
  rw [execAudioIclStream, iclServe_asked _ hasks rfl]
  dsimp only
  rw [if_neg (by omega), if_neg (by omega), Nat.mod_eq_of_lt hclient, streamGiven]

/-- Settles O54: an APPLY awaits the domains it names that run, and each stream request and period boundary leaves what its clause says; a
header written to a ring changes neither an entry nor a stream. -/
theorem audioBanksAndStreams : Obligations.AudioBanksAndStreams := by
  unfold Obligations.AudioBanksAndStreams
  refine ⟨⟨?apply, ?await, ?applyNone, ?applyLength⟩, ⟨?enter, ?remove, ?iclBad⟩, ⟨?opens, ?openBad, ?openDenied, ?openTwice, ?openShape⟩,
    ⟨?close, ?closeOther, ?closeBad⟩, ⟨?query, ?queryHost, ?queryBad⟩, ?plays, ?starves, ?short, ?boundaryNone⟩
  case apply =>
    intro s n q hasks hlen hon hnone hstop
    have hruns := audioApply_asked hasks hon hnone
    rw [if_neg (by omega), if_pos (liveDomains_nil hstop)] at hruns
    have hclasp : (landAudio s (landsNow s n.val q)).clasp = s.clasp := (landAudio_kept_values s _).parts .clasp (by decide)
    refine ⟨_, congrArg Host.Outcome.next hruns, iclDone_iclComplete {} (iclAsks_iff.mp hasks).1 hclasp, ?_⟩
    rw [applyWaits, (iclComplete_kept_clasp _ _ _).parts .audio (by decide), landAudio_apply]
    exact hnone
  case await =>
    intro s n q ds hasks hlen hon hnone hds hsome
    have hlive := (liveDomains_eq s n.val q).trans hds.symm
    have hruns := audioApply_asked hasks hon hnone
    have hkept := landAudio_kept_values s (landsNow s n.val q)
    rw [if_neg (by omega), hlive, if_neg hsome] at hruns
    generalize landAudio s (landsNow s n.val q) = u at hruns hkept
    refine ⟨_, congrArg Host.Outcome.next hruns, tget_tset_same (fun _ => ([] : List Nat)) u.audio.apply n.val ds, ?_, hkept.parts .mem (by decide)⟩
    rw [iclOf_congr (s := s) (t := setApplyWaits u n.val ds) (hkept.parts .clasp (by decide))]
    exact (iclAsks_iff.mp hasks).1
  case applyNone =>
    intro s n hoff
    refine congrArg Host.Outcome.next ?_
    rw [audioApply]
    split
    · rfl
    · next q htaken =>
      refine if_pos ?_
      rcases hoff with hnone | hoff | hwaits
      · rw [hnone] at htaken
        cases htaken
      · exact .inr (.inl (by rw [hoff]; decide))
      · exact .inr (.inr hwaits)
  case applyLength =>
    intro s n q hasks hlen hon hnone
    exact congrArg Host.Outcome.next ((audioApply_asked hasks hon hnone).trans (if_pos hlen))
  case enter =>
    intro s n q hasks hn hclient
    obtain ⟨hholder, hstate, hentries⟩ := enterStream_entries s (argOf q 2) (streamGiven q)
    have hstream := streamOf_enterStream s (argOf q 2) (streamGiven q)
    have hclasp := enterStream_clasp s (argOf q 2) (streamGiven q)
    rw [exec_audioIclStream, audioIclStream_enters hasks hn hclient]
    generalize enterStream s (argOf q 2) (streamGiven q) = u at *
    refine ⟨_, rfl, iclDone_iclComplete {} (iclAsks_iff.mp hasks).1 hclasp, (rd_iclComplete _ _ _ _).trans hholder, by rw [rd_iclComplete, hstate], ?_,
      fun k hk => (rd_iclComplete _ _ _ _).trans (hentries k hk)⟩
    rw [streamOf, (iclComplete_kept_clasp _ _ _).parts .audio (by decide)]
    exact congrArg StreamRec.opened hstream
  case remove =>
    intro s n q hasks hn hclient hstop
    rw [exec_audioIclStream, execAudioIclStream, iclServe_asked _ hasks rfl]
    dsimp only
    rw [if_neg (by omega), if_pos hclient, closeStream_stopped hstop]
    obtain ⟨hholder, hstate, hstream⟩ := leaveStream_leaves s (argOf q 2)
    have hkept := leaveStream_kept_values s (argOf q 2)
    generalize leaveStream s (argOf q 2) = u at *
    refine ⟨_, rfl, iclDone_iclComplete {} (iclAsks_iff.mp hasks).1 (hkept.parts .clasp (by decide)), by rw [rd_iclComplete, hholder],
      by rw [rd_iclComplete, hstate], ?_, ?_⟩
    · rw [streamOf, (iclComplete_kept_clasp _ _ _).parts .audio (by decide)]
      exact congrArg StreamRec.opened hstream
    · rw [(iclComplete_kept_clasp _ _ _).parts .mem (by decide), hkept.parts .mem (by decide)]
  case iclBad =>
    intro s n q hasks hbad
    rw [exec_audioIclStream, execAudioIclStream, iclServe_asked _ hasks rfl]
    dsimp only
    rw [if_pos hbad]
  case opens =>
    intro s c q hasks hn hzero harg hright hnone hon hlanes hruns hfits hinside
    obtain ⟨htaken, -⟩ := asks_iff.mp hasks
    obtain ⟨hholder, hstate, hentries⟩ := enterStream_entries (ok s c.val []) (argOf q 2) (streamAsked c.val q)
    rw [exec_streamOpen, execStreamOpen, serve_asked _ hasks rfl, streamOpenReq_free hn hzero harg hright hnone hon hlanes hruns, if_pos hfits,
      if_pos hinside]
    refine ⟨_, rfl, hholder, hstate, fun k hk => (hentries k hk).trans (rd_ok _ _ _ _), ?_, ?_⟩
    · rw [claspOf_congr (enterStream_clasp _ _ _)]
      exact taken_ok htaken []
    · rw [streamOf_enterStream]
      rfl
  case openBad =>
    intro s c q hasks hbad
    rw [exec_streamOpen, execStreamOpen, serve_asked _ hasks rfl, streamOpenReq_bad hbad]
  case openDenied =>
    intro s c q hasks hn hzero harg hright
    rw [exec_streamOpen, execStreamOpen, serve_asked _ hasks rfl, streamOpenReq_denied hn hzero harg hright]
  case openTwice =>
    intro s c q o hasks hn hzero harg hright hopened
    rw [exec_streamOpen, execStreamOpen, serve_asked _ hasks rfl, streamOpenReq_open hn hzero harg hright hopened]
  case openShape =>
    intro s c q hasks hn hzero harg hright hnone hon hlanes hruns hfits
    rw [exec_streamOpen, execStreamOpen, serve_asked _ hasks rfl, streamOpenReq_free hn hzero harg hright hnone hon hlanes hruns,
      if_neg (by rw [hfits]; decide)]
  case close =>
    intro s c q hasks hn hright hheld
    obtain ⟨htaken, -⟩ := asks_iff.mp hasks
    obtain ⟨hholder, hstate, hstream, hkeeps⟩ := closeStream_leaves s (argOf q 2) c.val
    rw [exec_streamClose, execStreamClose, serve_asked _ hasks rfl, streamCloseReq_checked hn hright, if_pos hheld]
    generalize closeStream s (argOf q 2) = u at *
    have hsame : streamOf (ok u c.val []) (argOf q 2) = streamOf u (argOf q 2) := by
      rw [streamOf, (ok_kept_clasp _ _ _).parts .audio (by decide), streamOf]
    refine ⟨_, rfl, (rd_ok _ _ _ _).trans hholder, (rd_ok _ _ _ _).trans hstate, ?_, ?_, taken_ok (hkeeps.trans htaken) []⟩
    · rw [hsame, hstream]
    · rw [hsame, hstream]
  case closeOther =>
    intro s c q hasks hn hright hheld
    rw [exec_streamClose, execStreamClose, serve_asked _ hasks rfl, streamCloseReq_checked hn hright, if_neg (by rw [hheld]; decide)]
    split <;> rfl
  case closeBad =>
    intro s c q hasks hbad
    rw [exec_streamClose, execStreamClose, serve_asked _ hasks rfl, streamCloseReq]
    exact congrArg Host.Outcome.next (if_pos hbad)
  case query =>
    intro s c q hasks hn hright hdir
    rw [exec_streamQuery, execStreamQuery, serve_asked _ hasks rfl, streamQueryReq_checked hn hright, consumerIndex, isPlayback, hdir]
    rfl
  case queryHost =>
    intro s c q o hasks hn hright hdir hopened
    rw [exec_streamQuery, execStreamQuery, serve_asked _ hasks rfl, streamQueryReq_checked hn hright, consumerIndex, isPlayback,
      beq_eq_false_iff_ne.mpr hdir, hopened]
    rfl
  case queryBad =>
    intro s c q hasks hbad
    rw [exec_streamQuery, execStreamQuery, serve_asked _ hasks rfl, streamQueryReq]
    exact congrArg Host.Outcome.next (if_pos hbad)
  case plays =>
    intro s n o hopened hdir hstate hruns hmore hnear
    have hexec := streamBoundary_plays hopened (by rw [isPlayback, hdir]; rfl)
    rw [playBoundary_runs hstate hnear, if_pos ⟨hmore, hruns⟩] at hexec
    have hrec := streamOf_setStream s n.val (nextPeriod (streamOf s n.val))
    have hkept := writeStreamHeader_kept_mem (setStream s n.val (nextPeriod (streamOf s n.val))) n.val
    refine ⟨_, congrArg Host.Outcome.next hexec, ?_, hkept.parts .od (by decide), fun hreset =>
      writeStreamHeader_event (by rw [hrec]; exact hopened) hreset⟩
    rw [streamOf, hkept.parts .audio (by decide)]
    exact hrec
  case starves =>
    intro s n o hopened hdir hstate hbehind hon
    have hexec := streamBoundary_plays hopened (by rw [isPlayback, hdir]; rfl)
    rw [playBoundary_runs hstate (by omega), if_neg (fun h => absurd h.1 (by omega))] at hexec
    obtain ⟨hstarved, hcount, htold, hstays, hreset⟩ := starved_leaves n.isLt hon
    have hkept := writeStreamHeader_kept_mem (starved s n.val) n.val
    have hrd := rd_congr (hkept.parts .od (by decide))
    refine ⟨_, congrArg Host.Outcome.next hexec, (hrd _).trans hstarved, (hrd _).trans hcount, writeStreamHeader_out (hstays.trans hopened) htold,
      fun hquiet => writeStreamHeader_event (hstays.trans hopened) ((hreset _).trans hquiet)⟩
  case short =>
    intro s n o hopened hdir hshort
    have hexec := streamBoundary_captures hopened (beq_eq_false_iff_ne.mpr hdir)
    rw [captureBoundary_short hshort] at hexec
    have hrec := streamOf_setStream (setStreamState s n.val 1) n.val { streamOf s n.val with cap := [] }
    have hkept := writeStreamHeader_kept_mem (setStream (setStreamState s n.val 1) n.val { streamOf s n.val with cap := [] }) n.val
    refine ⟨_, congrArg Host.Outcome.next hexec, ?_, ?_, fun hreset => writeStreamHeader_event (by rw [hrec]; exact hopened) ?_⟩
    · rw [streamOf, hkept.parts .audio (by decide)]
      exact hrec
    · rw [rd_congr (hkept.parts .od (by decide))]
      exact rd_wr_same _ _ _
    · have hsame : ∀ k, E.guest_FIRST_CLIENT 0 ≤ k → rd (setStreamState s n.val 1) k = rd s k := fun k hk =>
        rd_wr_ne _ _ (by simp only [E.guest_FIRST_CLIENT, E.hs_STATE] at hk ⊢; omega)
      rw [← hreset]
      exact resettingClient_congr (s := s)
        (t := setStream (setStreamState s n.val 1) n.val { streamOf s n.val with cap := [] }) rfl hsame o.client
  case boundaryNone =>
    intro s n hnone
    refine congrArg Host.Outcome.next ?_
    rw [streamBoundary, hnone]

end Sys2Proof.Proofs
end
